-- ==== Sys2Proof/Word.lean ====
section
/-! DEFINITION. Words, bytes and byte strings. -/

namespace Sys2Proof

/-- One byte (R11). -/
abbrev Byte := BitVec 8
/-- A string of bytes, the lowest address or offset first. -/
abbrev Bytes := List Byte
/-- A command dword, an OD value of 4 bytes. -/
abbrev Dword := BitVec 32
/-- A 64-bit register value. -/
abbrev Word64 := BitVec 64

end Sys2Proof
end

