-- ==== Sys2Proof/Messages.lean ====
section
/-! DEFINITION. The types of the commands' operands and of the messages that leave the device. -/

namespace Sys2Proof

/-- Who reaches the dictionary (R89): a USDO client node, the partner of a port in band, or a firmware context,
secure or not. -/
inductive Accessor where
  | can (node : Nat)
  | inband (port : Nat)
  | firmware (ctx : Nat) (secure : Bool)
  deriving DecidableEq, Repr

/-- A submission queue of an association on a port; queue 0 is the admin queue. -/
structure QueueRef where
  port : Nat
  assoc : Nat
  qid : Nat
  deriving DecidableEq, Repr

/-- What the completion of a command names: its identifier and namespace, and whether the host asks that the response invalidate its key
(Send with Invalidate, R114). -/
structure CmdTag where
  cid : Nat
  nsid : Nat
  inval : Bool
  deriving DecidableEq, Repr

/-- The dwords of a submission queue entry that the commands use (R125, R126, R160). `fuse`, `psdt`: CDW0 [9:8] and
[15:14]; `ord`: CDW0 [10]. SGL1: its length `sgl`; its offset in the capsule, or `none` where it describes a buffer of the host's, which
`inval` asks to invalidate. -/
structure Sqe where
  opcode : Nat
  fuse : Nat
  psdt : Nat
  ord : Bool
  cid : Nat
  nsid : Nat
  cdw2 : Nat
  cdw3 : Nat
  sgl : Nat
  sglOff : Option Nat
  inval : Bool
  cdw10 : Nat
  cdw11 : Nat
  cdw12 : Nat
  cdw13 : Nat
  cdw14 : Nat
  cdw15 : Nat
  deriving DecidableEq, Repr

def Sqe.tag (s : Sqe) : CmdTag := ⟨s.cid, s.nsid, s.inval⟩

/-- A command capsule, and the bytes of its host's buffer that the device fetches: the first `icd` of `data` came in the capsule (R113,
R114, R127). -/
structure Capsule where
  sqe : Sqe
  data : Bytes
  icd : Nat
  deriving DecidableEq, Repr

/-- Messages to a remote target of replication (R478, R479). -/
inductive RemoteMsg where
  | connect (addr service : Nat) (hostNqn subsystem : Bytes)
  | identify
  | store (nsid : Nat) (key value : Bytes) (long : Bool)
  | delete (nsid : Nat) (key : Bytes) (long secure : Bool)
  | disconnect
  deriving DecidableEq, Repr

/-- A departure-board record as PLACE carries it (R413, R457). -/
structure BoardRecord where
  launch : Nat
  arg : Nat
  period : Nat
  unit : Nat
  action : Nat
  urgent : Bool
  paired : Bool
  deriving DecidableEq, Repr

/-- A member descriptor (R294). -/
structure MemberDesc where
  channel : Nat
  target : Nat
  lun : Nat
  block : Nat
  page : Nat
  deriving DecidableEq, Repr

/-- A stripe extent: stripe id, byte offset in the stripe's data space and length (R280). -/
structure Extent where
  stripe : Nat
  off : Nat
  len : Nat
  deriving DecidableEq, Repr

/-- A chunk entry of a manifest (R201). -/
structure ChunkRef where
  fp : Bytes
  copy : Nat
  len : Nat
  deriving DecidableEq, Repr

/-- A manifest (R201). -/
structure Manifest where
  seq : Nat
  ns : Nat
  key : Bytes
  size : Nat
  domain : Nat
  slot : Nat
  batch : Bool
  chunks : List ChunkRef
  deriving DecidableEq, Repr

/-- A lock identity in LOCK_RESERVE (R149, R457): kind 1 exclusive key, 2 shared range, 3 exclusive range. -/
structure LockIdent where
  ns : Nat
  kind : Nat
  hash : Nat
  lo : Bytes
  hi : Bytes
  deriving DecidableEq, Repr

/-- A stored form (R245): the plaintext that it encodes (log 8), its length, its prefix. -/
structure StoredForm where
  plain : Bytes
  len : Nat
  invocation : Nat
  side : Nat
  deflate : Bool
  deriving DecidableEq, Repr

/-- A mirrored record (R340, R452). -/
inductive MirrorRecord where
  | roster (home : Nat) (batch : Bool) (ns : Nat) (key : Bytes) (tick : Nat)
  | copy (domain slot : Nat) (fp : Bytes) (num : Nat) (form : StoredForm)
  | manifest (tick : Nat) (m : Manifest)
  deriving DecidableEq, Repr

/-- A block-table record of HANDOVER_STATE (R328, R457). -/
structure BlockRecord where
  addr : MemberDesc
  st : Nat
  stream : Nat
  next : Nat
  erases : Nat
  live : Nat
  writeMin : Nat
  barrier : Nat
  writeSeq : Nat
  deriving DecidableEq, Repr

/-- A version of a key in BUCKET_RECORDS (R324): commit tick, manifest, deletion. -/
structure MovedVersion where
  tick : Nat
  manifest : Option Manifest
  tombstone : Bool
  deriving DecidableEq, Repr

/-- A key-index record of BUCKET_RECORDS (R450, R457). -/
structure MovedKey where
  ns : Nat
  key : Bytes
  versions : List MovedVersion
  deriving DecidableEq, Repr

/-- A chunk-map entry of FP_ENTRIES (R326, R447), with the copy's plaintext (log 8). -/
structure ChunkEntry where
  domain : Nat
  fp : Bytes
  num : Nat
  refs : Nat
  present : Bool
  pinned : Bool
  dead : Bool
  detached : Bool
  deflate : Bool
  plain : Bytes
  plainLen : Nat
  storedLen : Nat
  slot : Nat
  extents : List Extent
  deriving DecidableEq, Repr

/-- A work descriptor (R490). -/
structure WorkDesc where
  opcode : Nat
  cls : Nat
  flags : Nat
  tag : Nat
  ns : Nat
  domain : Nat
  slot : Nat
  src : Nat
  srcLen : Nat
  dst : Nat
  param : Nat
  status : Nat
  cycles : Nat
  deriving DecidableEq, Repr

/-- The header fields of a received frame (R455, R456): both CRCs valid, sequence in its class, highest sequence it
acknowledges, credit granted, ECHO flag, payload length. -/
structure FrameHdr where
  crcOk : Bool
  seq : Nat
  ack : Nat
  credit : Nat
  echo : Bool
  len : Nat
  deriving DecidableEq, Repr

/-- The payload of HEARTBEAT (R457). Timestamps in 1/64 tick: its send time here `t1`, its receive time `t2`, and those
of the last HEARTBEAT the sender received, `t3`, `t4`. -/
structure HeartbeatMsg where
  t1 : Nat
  t2 : Nat
  t3 : Nat
  t4 : Nat
  timeState : Nat
  rank : Nat
  peerState : Nat
  room : Nat
  homeShare : Nat
  durableSeq : Nat
  windowTotal : Nat
  deriving DecidableEq, Repr

/-- The payload of HELLO (R457). -/
structure HelloMsg where
  ident : Nat
  side : Nat
  serving : Bool
  revision : Nat
  gearGen : Nat
  policyGen : Nat
  current : List Nat
  preferred : List Nat
  counter : Nat
  timeState : Nat
  deriving DecidableEq, Repr

/-- What the secure frame carries (R532, R533). -/
inductive SecureMsg where
  | offer (pub : Bytes) (identity attestation ownerDigest : Bytes)
  | finish (sig : Bytes)
  | slotKey (slot tenant keygen key : Nat)
  | mapKey (key : Nat)
  | hashSecret (secret : Nat)
  | salt (domain : Nat) (salt : Bytes)
  | gear (active staged : List Nat) (generation : Nat)
  | ack (count : Nat)
  | ownerRecord (body : Bytes)
  deriving DecidableEq, Repr

/-- Journal records (R293, R294 and the records of the chapters that use them). -/
inductive JRecord where
  | stripeIssue (id cls k unit pad : Nat) (padded reissue : Bool) (replaced : Nat) (members : List MemberDesc)
  | stripeDurable (id : Nat)
  | stripeAbandoned (id reason replacement : Nat)
  | memberMoved (id member reason : Nat) (old new : MemberDesc)
  | stripeLost (id bitmap cause : Nat)
  | elementFailed (addr cause : Nat)
  | keyVersion (ns : Nat) (key : Bytes) (mseq : Nat) (tombstone : Bool) (tick : Nat)
  | refCount (domain : Nat) (fp : Bytes) (num refs : Nat) (dead : Bool)
  | copyState (domain : Nat) (fp : Bytes) (num : Nat) (extents : List Extent)
  | slotLimit (slot side limit counter : Nat)
  | flushReleased (flush : Nat)
  | batchCommit (tick : Nat) (keys : Nat)
  | snapshot (n st ns cut expiry : Nat)
  | replCursor (session snap tick : Nat) (key : Bytes)
  | keyRemoved (ns : Nat) (key : Bytes)
  | erasureList (slot : Nat) (copies : List (Nat × Bytes × Nat))
  | blockState (channel target lun block : Nat) (st stream erases : Nat)
  | bucketHome (bucket side tick keys : Nat)
  | copyRelocated (domain : Nat) (fp : Bytes) (num : Nat) (old new : List Extent)
  | copyRemoved (domain : Nat) (fp : Bytes) (num : Nat)
  | mapPageWritten (lid new prev lsn : Nat)
  | manifestMoved (len old new : Nat)
  | sealLimit (limit : Nat)
  | checkpointBegin (n : Nat)
  | checkpointDone (n start : Nat)
  | other (typ : Nat) (body : Bytes)
  deriving DecidableEq, Repr

/-- A journal page on the link (R291, R292, R457). -/
structure JournalPageMsg where
  seq : Nat
  tick : Nat
  tail : Nat
  index : Nat
  last : Bool
  records : List JRecord
  deriving DecidableEq, Repr

/-- The messages that the Jeunotte link carries (R457), as this device sends them. -/
inductive LinkMsg where
  | ack
  | hello (m : HelloMsg)
  | heartbeat (peerState rank timeState room homeShare durableSeq windowTotal : Nat)
  | place (entry : Nat) (body : BoardRecord)
  | armed (entry : Nat)
  | cancel (entry : Nat)
  | launchReport (entry tick : Nat)
  | handoverState (group mask : Nat) (blocks : List BlockRecord)
  | released (group mask tick : Nat)
  | handoverAbort (entry group mask : Nat)
  | loopback (tick : Nat) (pattern : Bytes) (echo : Bool)
  | fwdCmd (fwd port assoc qid cls seq : Nat) (c : Capsule)
  | fwdData (fwd off : Nat) (data : Bytes)
  | fwdCompletion (fwd sct sc : Nat) (dnr : Bool) (dw0 dw1 returned : Nat)
  | lockReserve (fwd : Nat) (idents : List LockIdent)
  | lockReply (fwd full : Nat)
  | mirrorData (write : Nat) (r : MirrorRecord)
  | mirrorAck (write records : Nat)
  | mirrorRelease (writes : List Nat)
  | journalPage (m : JournalPageMsg)
  | journalAck (seq : Nat)
  | journalResend (first last : Nat)
  | fpRequest (req domain kind : Nat) (fp : Bytes) (copy : Nat) (extents : List Extent)
  | fpReply (req answer : Nat) (present : Bool) (copy : Nat) (extents : List Extent)
  | invalidate (domain copy : Nat) (fp : Bytes)
  | invalidateAck (domain copy : Nat) (fp : Bytes)
  | unitRead (req : Nat) (d : MemberDesc) (prio : Nat)
  | unitData (req status off : Nat) (data : Bytes)
  | moveRequest (req stripe : Nat) (d : MemberDesc) (reason : Nat)
  | eraseRequest (req : Nat) (d : MemberDesc) (barrier : Nat)
  | requestDone (req result : Nat)
  | bucketRecords (bucket : Nat) (records : List MovedKey)
  | drainDone (bucket g : Nat)
  | fpEntries (entries : List ChunkEntry)
  | tableSync (idx sub entry off : Nat) (value : Bytes)
  | tableAck (idx sub entry code : Nat)
  | secure (invocation : Nat) (m : SecureMsg)
  deriving DecidableEq, Repr

/-! ## Operands of commands from outside -/

/-- A fabrics Connect (R109, R110, R139): port, service (the TCP port, 0 over RoCEv2) and the fields that its checks read.
`secure`: it asks for in-band authentication or TLS; `noFlow`: to disable submission queue flow control, which is not granted (R140).
`conn`: the TCP connection or queue pair that carries the queue. `qid` 0 creates the association. -/
structure ConnectReq where
  port : Nat
  svc : Nat
  assoc : Nat
  cid : Nat
  hostNqn : Bytes
  subNqn : Bytes
  secure : Bool
  noFlow : Bool
  conn : Nat
  qid : Nat
  size : Nat
  kato : Nat
  cntlid : Nat
  deriving DecidableEq, Repr

/-- A frame as the MAC passes it on (R100 to R104): its length, its destination address, the 16 bits of its 802.1Q tag (priority
[15:13], VLAN ID [11:0]), its protocol (0 none that the port supports, 1 NVMe/TCP, 2 RoCEv2, 3 another of R100), the bits of its status
word that the MAC and PCS found, the RS codewords in it that the FEC corrected and could not correct, its bytes, the TCP segments that it
makes the device send again, the RoCEv2 queue pair whose sequence it breaks, and the capsule that it completes. -/
structure RxFrame where
  length : Nat
  dst : Bytes
  vlan : Option Nat
  kind : Nat
  status : Nat
  corrected : Nat
  uncorrected : Nat
  data : Bytes
  resend : Nat
  gap : Option Nat
  capsule : Option (QueueRef × Capsule)
  deriving DecidableEq, Repr

/-- An ICReq (R113), on a TCP connection. -/
structure IcReq where
  conn : Nat
  pfv : Nat
  hpda : Nat
  hdrDigest : Bool
  dataDigest : Bool
  maxR2t : Nat
  deriving DecidableEq, Repr

/-- A Sync, with its Follow_Up where it is two-step, on a port (R402, R403): domain, master, and in ps since the PTP
epoch the origin time t1 with its corrections and the arrival time t2 as the MAC stamped it. -/
structure SyncMsg where
  port : Nat
  domain : Nat
  master : Nat
  origin : Int
  arrival : Int
  deriving DecidableEq, Repr

/-- An Announce (R402): the sending port's data set as the best master clock algorithm ranks it, the smaller first; the
interval in ticks. -/
structure AnnounceMsg where
  port : Nat
  domain : Nat
  master : Nat
  rank : List Nat
  interval : Nat
  utcOffset : Int
  deriving DecidableEq, Repr

/-- What READ ID and training found on a channel's target (R367). -/
structure ProbeResult where
  channel : Nat
  target : Nat
  ident : Bytes
  markers : List (Nat × Nat)
  trained : Bool
  deriving DecidableEq, Repr

/-- A forwarded command (R151, R453, R457). -/
structure FwdCmdMsg where
  fwd : Nat
  q : QueueRef
  cls : Nat
  seq : Nat
  c : Capsule
  deriving DecidableEq, Repr

/-- The completion of a forwarded command (R453, R457). -/
structure FwdCompletionMsg where
  fwd : Nat
  sct : Nat
  sc : Nat
  dnr : Bool
  dw0 : Nat
  dw1 : Nat
  returned : Nat
  deriving DecidableEq, Repr

/-- A report that a copy is stored (R193, R457). -/
structure PresentMsg where
  domain : Nat
  fp : Bytes
  copy : Nat
  extents : List Extent
  deriving DecidableEq, Repr

/-- The owner's answer to a fingerprint request (R196, R203, R457). -/
structure FpReplyMsg where
  req : Nat
  answer : Nat
  present : Bool
  copy : Nat
  extents : List Extent
  deriving DecidableEq, Repr

/-- An ICMP echo request to a port: over IPv6 or IPv4, and its data (R100, R117). -/
structure Ping where
  v6 : Bool
  body : Bytes
  deriving DecidableEq, Repr

/-- An OFFER (R532). -/
structure OfferMsg where
  pub : Bytes
  identity : Bytes
  attestation : Bytes
  ownerDigest : Bytes
  deriving DecidableEq, Repr

end Sys2Proof
end

