-- ==== Sys2Proof/Syntax.lean ====
section
/-! DEFINITION. The commands that the block takes: one constructor of `Instr` for each row of the opcode table.
Operand conventions: `q`, `c` a queue and its capsule; `acc` who reaches the dictionary; `v`, `n` the value written;
`e` a drover engine; `h` the header of a received frame; `entry` a departure-board entry. -/

namespace Sys2Proof

inductive Instr where
  /-- STORE, R128: Store command replaces the whole value of a key of up to 16 bytes, subject to its store options. -/
  | store (q : QueueRef) (c : Capsule)
  /-- RETRIEVE, R129: Retrieve command returns the value of a key from byte 0, up to the buffer size. -/
  | retrieve (q : QueueRef) (c : Capsule)
  /-- LIST, R130: List command returns keys of up to 16 bytes in key order from a start key. -/
  | list (q : QueueRef) (c : Capsule)
  /-- DELETE, R133: Delete command removes a key of up to 16 bytes. -/
  | delete (q : QueueRef) (c : Capsule)
  /-- SECURE_DELETE, R133: Delete or Long-Key Delete with SECURE set removes the key and starts the erasure of its
  unshared chunks as a long operation. -/
  | secureDelete (q : QueueRef) (c : Capsule)
  /-- EXIST, R132: Exist command reports whether a key is present, without transferring data. -/
  | exist (q : QueueRef) (c : Capsule)
  /-- LONG_KEY_STORE, R128: Long-Key Store stores a value under a key of up to 1,024 bytes carried in a key block. -/
  | longKeyStore (q : QueueRef) (c : Capsule)
  /-- LONG_KEY_RETRIEVE, R129: Long-Key Retrieve returns the value of a key of up to 1,024 bytes. -/
  | longKeyRetrieve (q : QueueRef) (c : Capsule)
  /-- BATCH_STORE, R137: Batch Store stores up to 64 keys atomically under one commit tick across both peers. -/
  | batchStore (q : QueueRef) (c : Capsule)
  /-- LONG_KEY_LIST, R130: Long-Key List returns keys of every length in key order from a start key. -/
  | longKeyList (q : QueueRef) (c : Capsule)
  /-- LONG_KEY_DELETE, R133: Long-Key Delete without RANGE removes one key of up to 1,024 bytes. -/
  | longKeyDelete (q : QueueRef) (c : Capsule)
  /-- LONG_KEY_DELETE_RANGE, R134: Long-Key Delete with RANGE removes every key from the start key up to the end key,
  each atomically. -/
  | longKeyDeleteRange (q : QueueRef) (c : Capsule)
  /-- LONG_KEY_EXIST, R132: Long-Key Exist reports whether a key of up to 1,024 bytes is present. -/
  | longKeyExist (q : QueueRef) (c : Capsule)
  /-- COMMAND_FETCH, R141: The NVMe engine picks the next command by four-level arbitration, takes it from its slot
  and advances the head pointer. -/
  | commandFetch
  /-- LOCK_GRANT, R149: A waiting lock request is granted once it conflicts with no held lock and no earlier waiting
  request, and the command evaluates its conditions. -/
  | lockGrant
  /-- LOCK_RESERVATION, R150: A range-lock table reserves the entries a head command needs, letting that command be
  fetched. -/
  | lockReservation (q : QueueRef)
  /-- GET_LOG_PAGE, R165: Get Log Page returns a supported log page from the given offset. -/
  | getLogPage (q : QueueRef) (c : Capsule)
  /-- GET_LONG_OPERATION_RESULTS, R178: Get Log Page of log 0xC1 returns the status word, the committed length and
  result bytes of a long operation handle. -/
  | getLongOperationResults (q : QueueRef) (c : Capsule)
  /-- IDENTIFY, R162: Identify returns the data structure that its CNS value selects. -/
  | identify (q : QueueRef) (c : Capsule)
  /-- ABORT, R161: Abort completes with success and reports the named command as not aborted. -/
  | abort (q : QueueRef) (c : Capsule)
  /-- SET_FEATURES_ARBITRATION, R66: Set Features 0x01 writes the partner's arbitration entry in OD 0x2410. -/
  | setFeaturesArbitration (q : QueueRef) (c : Capsule)
  /-- SET_FEATURES_POWER_MANAGEMENT, R174: Set Features 0x02 requests PS_0 to PS_3 through OD 0x2220:01. -/
  | setFeaturesPowerManagement (q : QueueRef) (c : Capsule)
  /-- SET_FEATURES_TEMPERATURE_THRESHOLD, R66: Set Features 0x04 writes the over or under temperature threshold. -/
  | setFeaturesTemperatureThreshold (q : QueueRef) (c : Capsule)
  /-- SET_FEATURES_APST, R175: Set Features 0x0C writes the APST entries and enable into OD 0x2230. -/
  | setFeaturesApst (q : QueueRef) (c : Capsule)
  /-- SET_FEATURES_ASSOCIATION, R67: Set Features of Number of Queues, Asynchronous Event Configuration or Keep Alive
  Timer acts on the association only. -/
  | setFeaturesAssociation (q : QueueRef) (c : Capsule)
  /-- GET_FEATURES, R68: Get Features returns a feature value resolved against the dictionary by its Select field. -/
  | getFeatures (q : QueueRef) (c : Capsule)
  /-- ASYNCHRONOUS_EVENT_REQUEST, R164: Asynchronous Event Request waits to complete with the next pending
  asynchronous event of the association. -/
  | asynchronousEventRequest (q : QueueRef) (c : Capsule)
  /-- FIRMWARE_IMAGE_DOWNLOAD, R587: Firmware Image Download carries one part of an update delta into secure DRAM. -/
  | firmwareImageDownload (q : QueueRef) (c : Capsule)
  /-- FIRMWARE_COMMIT_APPLY, R589: Firmware Commit with action 000b or 001b applies the held delta into the other slot
  and leaves it VALID or PENDING. -/
  | firmwareCommitApply (q : QueueRef) (c : Capsule)
  /-- FIRMWARE_COMMIT_ACTIVATE, R589: Firmware Commit with action 010b makes a VALID slot PENDING. -/
  | firmwareCommitActivate (q : QueueRef) (c : Capsule)
  /-- SHORT_SELF_TEST, R168: Device Self-test code 0x1 starts a short self-test on both peers. -/
  | shortSelfTest (q : QueueRef) (c : Capsule)
  /-- EXTENDED_SELF_TEST, R168: Device Self-test code 0x2 starts an extended self-test in a long-operation slot. -/
  | extendedSelfTest (q : QueueRef) (c : Capsule)
  /-- SELF_TEST_ABORT, R172: Device Self-test code 0xF ends the self-test that this partner started. -/
  | selfTestAbort (q : QueueRef) (c : Capsule)
  /-- SELF_TEST_SEGMENT, R169: A self-test runs its next segment in slices of at most 1 ms. -/
  | selfTestSegment (ok : Bool)
  /-- KEEP_ALIVE, R112: Keep Alive restarts the association's keep-alive timer. -/
  | keepAlive (q : QueueRef) (c : Capsule)
  /-- CONNECT, R110: Fabrics Connect creates an association or queue after the checks of host NQN, security,
  subsystem, association count and queue limits. -/
  | connect (r : ConnectReq)
  /-- PROPERTY_SET, R142: Fabrics Property Set writes a controller property such as CC.AMS. -/
  | propertySet (q : QueueRef) (c : Capsule)
  /-- SANITIZE_EXIT_FAILURE_MODE, R173: Sanitize action 001b leaves the sanitize-failed state. -/
  | sanitizeExitFailureMode (q : QueueRef) (c : Capsule)
  /-- SANITIZE_BLOCK_ERASE, R173: Sanitize action 010b erases every block of every target and then crypto-erases. -/
  | sanitizeBlockErase (q : QueueRef) (c : Capsule)
  /-- SANITIZE_CRYPTO_ERASE, R173: Sanitize action 100b zeroises every key slot and drops all stored keys, manifests,
  snapshots and sessions. -/
  | sanitizeCryptoErase (q : QueueRef) (c : Capsule)
  /-- SANITIZE_COMPLETE, R173: A running sanitize ends, releasing I/O and raising the sanitize-completed notice. -/
  | sanitizeComplete (ok : Bool)
  /-- PARAMETER_READ, R85: Parameter Read reads a dictionary entry in band. -/
  | parameterRead (q : QueueRef) (c : Capsule)
  /-- PARAMETER_WRITE, R86: Parameter Write writes a dictionary entry, or one part of it, in band. -/
  | parameterWrite (q : QueueRef) (c : Capsule)
  /-- LONG_OPERATION_LIST, R179: Long Operation Start of type 0x01 lists the keys of a range in a slot. -/
  | longOperationList (q : QueueRef) (c : Capsule)
  /-- SNAPSHOT_DIFFERENCE, R474: Long Operation Start of type 0x03 compares two live snapshots of one namespace. -/
  | snapshotDifference (q : QueueRef) (c : Capsule)
  /-- LONG_OPERATION_REPLICATION, R481: Long Operation Start of type 0x04 starts one replication cycle of a session at
  once. -/
  | longOperationReplication (q : QueueRef) (c : Capsule)
  /-- SCRUB, R393: Long Operation Start of type 0x05 scrubs the stripes with members in the given channel groups. -/
  | scrub (q : QueueRef) (c : Capsule)
  /-- REBUILD_REPORT, R310: Long Operation Start of type 0x07 reports each failed element and its rebuild. -/
  | rebuildReport (q : QueueRef) (c : Capsule)
  /-- DUMP_READOUT, R598: Long Operation Start of type 0x08 reads the newest or previous flash dump. -/
  | dumpReadout (q : QueueRef) (c : Capsule)
  /-- LONG_OPERATION_RELEASE, R181: Long Operation Release stops or frees the slot named by a handle. -/
  | longOperationRelease (q : QueueRef) (c : Capsule)
  /-- LONG_OPERATION_EXPIRY, R181: A slot in state 3, 4 or 5 becomes idle 600 s after entering that state. -/
  | longOperationExpiry (slot : Nat)
  /-- LONG_OPERATION_RECORD_COMMIT, R178: A running long operation commits its next result record. -/
  | longOperationRecordCommit (slot : Nat)
  /-- SECURE_DELETE_ERASURE, R212: The erasure long operation relocates other data and erases every block of the
  stripes holding erasure-listed copies. -/
  | secureDeleteErasure (slot : Nat)
  /-- SNAPSHOT_CREATE, R467: Snapshot action 0x01 places a paired cut and completes once the snapshot is live. -/
  | snapshotCreate (q : QueueRef) (c : Capsule)
  /-- SNAPSHOT_DELETE, R471: Snapshot action 0x02 puts a live snapshot in state 3 to end at the next boundary. -/
  | snapshotDelete (q : QueueRef) (c : Capsule)
  /-- SNAPSHOT_DELETE_WRITE, R471: A write of a snapshot number to OD 0x3300:07 deletes that snapshot. -/
  | snapshotDeleteWrite (acc : Accessor) (n : Nat)
  /-- DICTIONARY_WRITE, R63: A write to a dictionary entry that has no row of its own replaces the value through the
  serialiser. -/
  | dictionaryWrite (acc : Accessor) (idx : Nat) (sub : Nat) (v : Bytes)
  /-- RESTORE_ALL_DEFAULTS, R62: Writing "load" to OD 0x1011:01 marks every restorable P entry for restore at the next
  release of PORST_N. -/
  | restoreAllDefaults (acc : Accessor) (v : Nat)
  /-- WINDOW_SELECT_WRITE, R71: A write to a window's Select moves that accessor's cursor to an entry. -/
  | windowSelectWrite (acc : Accessor) (idx : Nat) (n : Nat)
  /-- WINDOW_RECORD_READ, R70: A read of a window record returns the selected entry and advances the cursor when Step
  is 1. -/
  | windowRecordRead (acc : Accessor) (idx : Nat)
  /-- CHALLENGE_READ, R90: A read of OD 0x3210:01 returns 32 fresh random bytes bound to the accessor. -/
  | challengeRead (acc : Accessor)
  /-- SESSION_RESPONSE, R90: A signature written to OD 0x3210:02 opens a secure session when it verifies against an
  owner key. -/
  | sessionResponse (acc : Accessor) (sig : Bytes)
  /-- SESSION_CLOSE, R92: Writing 0 to OD 0x3210:03 closes the accessor's session. -/
  | sessionClose (acc : Accessor)
  /-- SESSION_IDLE_TIMEOUT, R92: A session closes when its idle time passes with no access to an S entry. -/
  | sessionIdleTimeout (acc : Accessor)
  /-- SESSION_LOCKOUT_EXPIRY, R91: The 60 s lockout of a way ends. -/
  | sessionLockoutExpiry (inband : Bool)
  /-- CHALLENGE_EXPIRY, R90: A challenge lapses 30 s after its read. -/
  | challengeExpiry (acc : Accessor)
  /-- ASSEMBLY_TIMEOUT, R87: An open Parameter Write assembly ends without effect after 10 s without a part. -/
  | assemblyTimeout (acc : Accessor)
  /-- GEAR_TABLE_ACTIVATE, R187: Writing 1 to OD 0x2600:07 places a paired activation of the staged gear table. -/
  | gearTableActivate (acc : Accessor)
  /-- GEAR_TABLE_FILL_FACTORY, R187: Writing 2 to OD 0x2600:07 fills the staged gear table with the factory table. -/
  | gearTableFillFactory (acc : Accessor)
  /-- GENERATE, R265: Slot command 0x01 draws a fresh key into an EMPTY slot and makes it ACTIVE. -/
  | generate (acc : Accessor) (slot : Nat) (tenant : Nat)
  /-- RETIRE, R265: Slot command 0x02 makes an ACTIVE slot DECRYPT_ONLY at the next paired boundary. -/
  | retire (acc : Accessor) (slot : Nat) (tenant : Nat)
  /-- ERASE_TENANT, R267: Slot command 0x03 erases every key, copy and slot of one tenant at the next paired boundary.
  -/
  | eraseTenant (acc : Accessor) (slot : Nat) (tenant : Nat)
  /-- RELOAD, R270: Slot command 0x04 unwraps the slots after a permanent alarm. -/
  | reload (acc : Accessor) (slot : Nat) (tenant : Nat)
  /-- POLICY_GROUP_COMMIT, R234: A group command 1 to OD 0x2B00:05 places a paired commit of the staged entries of a
  policy partition. -/
  | policyGroupCommit (acc : Accessor) (part : Nat)
  /-- POLICY_GROUP_ABORT, R234: A group command 2 to OD 0x2B00:05 places a paired abort of the staged entries of a
  policy partition. -/
  | policyGroupAbort (acc : Accessor) (part : Nat)
  /-- LOST_STRIPE_CLEAR, R308: Writing 1 to OD 0x2900:12 removes lost-stripe records whose key versions no longer
  exist. -/
  | lostStripeClear (acc : Accessor)
  /-- NAMESPACE_RECORD_WRITE, R156: A write to a namespace record defines, attaches, reclasses or undefines a
  namespace after its checks. -/
  | namespaceRecordWrite (acc : Accessor) (v : Bytes)
  /-- DEDUP_BINDING_WRITE, R192: A write to a namespace binding or a domain's tenant is applied or refused. -/
  | dedupBindingWrite (acc : Accessor) (tenants : Bool) (v : Bytes)
  /-- PARTITION_TABLE_WRITE, R223: A write to a search partition record changes its type, base or size and invalidates
  the entries of old and new ranges. -/
  | partitionTableWrite (acc : Accessor) (n : Nat) (v : Bytes)
  /-- SEARCH_ENTRY_WRITE, R243: A write to a search entry record replaces the entry at once between two searches. -/
  | searchEntryWrite (acc : Accessor) (v : Bytes)
  /-- STRIPE_CLASS_WRITE, R278: A write to a stripe class record applies to stripes issued after it on both peers. -/
  | stripeClassWrite (acc : Accessor) (cls : Nat) (v : Bytes)
  /-- BOARD_ENTRY_WRITE, R419: A write to a user departure-board entry arms, replaces, cancels or frees it. -/
  | boardEntryWrite (acc : Accessor) (v : Bytes)
  /-- COMMIT_PERIOD_WRITE, R423: A write to OD 0x2C00:01 changes the commit-group period on both peers from the next
  hand-over tick. -/
  | commitPeriodWrite (acc : Accessor) (v : Nat)
  /-- PREFERRED_MAP_WRITE, R435: A write to OD 0x2D18 sets the preferred channel map toward which hand-overs converge.
  -/
  | preferredMapWrite (acc : Accessor) (group : Nat) (v : Nat)
  /-- CAPTURE_MODE_WRITE, R104: A write to OD 0x2300+p:0E sets bad-frame capture and empties the ring. -/
  | captureModeWrite (acc : Accessor) (port : Nat) (v : Nat)
  /-- MAC_STATISTICS_READ, R118: A read of a MAC statistics counter, or of all counters, returns and clears them. -/
  | macStatisticsRead (acc : Accessor) (port : Nat) (sub : Nat) (ok : Bool)
  /-- CLEAR_ON_READ_ENTRY_READ, R426: A read of OD 0x2B00:06 or OD 0x2C00:07 returns the high-water value and clears
  it. -/
  | clearOnReadEntryRead (acc : Accessor) (board : Bool)
  /-- POWER_STATE_REQUEST, R547: A write of 0 to 3 to OD 0x2220:01 requests an operational or idle power state. -/
  | powerStateRequest (acc : Accessor) (v : Nat)
  /-- ENTER_PS_4, R549: A write of 4 to OD 0x2220:01 takes one or both peers into the dormant state. -/
  | enterPs4 (acc : Accessor)
  /-- WAKE_FROM_PS_4, R551: A write of 0 to OD 0x2220:01 in PS_4 starts the device. -/
  | wakeFromPs4 (acc : Accessor)
  /-- HOLDUP_TEST, R556: Writing 1 to OD 0x2240:07 starts a capacitor discharge test. -/
  | holdupTest (acc : Accessor)
  /-- HOLDUP_TEST_DISCHARGE, R556: Once dirty data is below half the limit, the device drives HOLDUP_TEST for 10 ms
  and computes the measured energy. -/
  | holdupTestDischarge (va : Nat) (vb : Nat)
  /-- ARBITER_SURVIVE, R442: Decision 1 written to OD 0x2D40:02 makes the peer fence its peer. -/
  | arbiterSurvive (acc : Accessor)
  /-- ARBITER_STAND_DOWN, R443: Decision 2 written to OD 0x2D40:02 makes the peer stand down. -/
  | arbiterStandDown (acc : Accessor)
  /-- ARBITER_RELEASE_FENCE, R441: Decision 3 written to OD 0x2D40:02 releases FENCE_OUT_N. -/
  | arbiterReleaseFence (acc : Accessor)
  /-- ARBITER_TIMEOUT, R442: With no decision, side A fences at 1 s and side B at 3 s after entering peer state 3. -/
  | arbiterTimeout
  /-- FIRMWARE_ACTIVATE, R590: Writing 1 to OD 0x2F00:06 brings about the start that boots the PENDING image. -/
  | firmwareActivate (acc : Accessor)
  /-- HEALTH_CONFIRM, R591: Writing "good" to OD 0x2F10:01 makes the TRIAL image ACTIVE. -/
  | healthConfirm (acc : Accessor) (v : Nat)
  /-- HEALTH_CONFIRM_DEADLINE, R592: The confirm deadline passes without confirmation and the watchdog resets the
  device. -/
  | healthConfirmDeadline
  /-- PATCH_PACKAGE_WRITE, R512: A patch package written to OD 0x2F28 is checked and stored. -/
  | patchPackageWrite (acc : Accessor) (v : Bytes)
  /-- PATCH_ACTIVATE, R514: Writing 1 to OD 0x2F20:06 reloads the clusters one at a time with the staged patch. -/
  | patchActivate (acc : Accessor)
  /-- OWNER_ENROL, R528: An enrolment record written to OD 0x3220:01 programs an owner record into OTP on both peers.
  -/
  | ownerEnrol (acc : Accessor) (v : Bytes)
  /-- OWNER_REVOKE, R529: A write of n to OD 0x3220:02 revokes owner record n. -/
  | ownerRevoke (acc : Accessor) (n : Nat)
  /-- PROFILE_WRITE, R362: A flash profile written to a slot is checked and stored or refused. -/
  | profileWrite (acc : Accessor) (slot : Nat) (v : Bytes)
  /-- PROFILE_BINDING_WRITE, R366: A write to OD 0x3448 binds a channel group to a profile slot. -/
  | profileBindingWrite (acc : Accessor) (group : Nat) (slot : Nat)
  /-- STORAGE_SUMMARY_WRITE, R382: A storage-period summary written to OD 0x3410:01 becomes pending and may replace a
  default gap figure. -/
  | storageSummaryWrite (acc : Accessor) (v : Bytes)
  /-- FAN_FLOOR_WRITE, R576: A write to OD 0x2E30 sets a fan's commanded floor, replacing any ramp in progress. -/
  | fanFloorWrite (acc : Accessor) (fan : Nat) (rpm : Nat)
  /-- FANS_FITTED_WRITE, R580: Clearing a bit of OD 0x2E00:01 brakes that fan for 500 ms and then holds it off. -/
  | fansFittedWrite (acc : Accessor) (v : Nat)
  /-- USDO_DOWNLOAD, R77: A USDO download writes a dictionary entry over CAN FD. -/
  | usdoDownload (node : Nat) (idx : Nat) (sub : Nat) (v : Bytes)
  /-- USDO_UPLOAD, R77: A USDO upload reads a dictionary entry over CAN FD. -/
  | usdoUpload (node : Nat) (idx : Nat) (sub : Nat)
  /-- USDO_SEGMENT_TIMEOUT, R77: A segmented transfer with no segment for 1 s aborts. -/
  | usdoSegmentTimeout (node : Nat)
  /-- USDO_UNSUPPORTED_REQUEST, R73: A USDO block transfer or remote routing request is answered with abort
  0x0504_0001. -/
  | usdoUnsupportedRequest (node : Nat)
  /-- CAN_UNSUPPORTED_MESSAGE, R73: A message of an unsupported CANopen service is ignored. -/
  | canUnsupportedMessage (ident : Nat)
  /-- NMT_START, R74: NMT start makes the node Operational. -/
  | nmtStart (node : Nat)
  /-- NMT_STOP, R74: NMT stop makes the node Stopped, with heartbeat only. -/
  | nmtStop (node : Nat)
  /-- NMT_ENTER_PRE_OPERATIONAL, R74: NMT enter pre-operational silences the TPDOs. -/
  | nmtEnterPreOperational (node : Nat)
  /-- NMT_RESET_COMMUNICATION, R74: NMT reset communication reloads communication entries, closes CAN sessions and
  sends boot-up. -/
  | nmtResetCommunication (node : Nat)
  /-- NMT_RESET_NODE, R74: NMT reset node acts as reset communication without resetting the device. -/
  | nmtResetNode (node : Nat)
  /-- HEARTBEAT_PRODUCE, R78: The heartbeat producer sends at the period in OD 0x1017. -/
  | heartbeatProduce
  /-- HEARTBEAT_CONSUMER_RECEIVE, R78: A heartbeat arrives from the watched node and clears a timeout. -/
  | heartbeatConsumerReceive (node : Nat)
  /-- HEARTBEAT_CONSUMER_TIMEOUT, R78: No heartbeat from the watched node arrives within its time. -/
  | heartbeatConsumerTimeout
  /-- EMCY_INHIBIT_EXPIRY, R79: The EMCY inhibit time ends and the next held EMCY is sent. -/
  | emcyInhibitExpiry
  /-- CAN_RECEIVE_OVERRUN, R79: A CAN FD receive overrun raises EMCY 0x8110. -/
  | canReceiveOverrun
  /-- TPDO_EVENT_TIMER, R81: A TPDO's event timer runs out and it sends. -/
  | tpdoEventTimer (n : Nat)
  /-- TPDO_CHANGE_SEND, R81: A TPDO sends after its inhibit time when a mapped value has changed. -/
  | tpdoChangeSend (n : Nat)
  /-- FRAME_RECEIVE, R100: A port's MAC receives a frame cut-through and passes it, with its status word, to the
  transport or drops it. -/
  | frameReceive (port : Nat) (f : RxFrame)
  /-- ARP_REQUEST, R100: An ARP or IPv6 neighbour discovery request is answered. -/
  | arpRequest (port : Nat) (addr : Nat)
  /-- ICMP_ECHO, R100: An ICMP echo request is answered within the per-port rate limit. -/
  | icmpEcho (port : Nat) (data : Ping)
  /-- ICMP_UNREACHABLE, R100: An ICMP destination unreachable or packet too big is acted on for the port's TCP
  connections. -/
  | icmpUnreachable (port : Nat) (conn : Nat) (mtu : Nat)
  /-- ICREQ, R113: An NVMe/TCP ICReq is answered with an ICResp giving the supported options. -/
  | icreq (port : Nat) (r : IcReq)
  /-- ROCE_CONNECT_REQUEST, R114: A RoCEv2 connection request sets up a reliable-connected queue pair. -/
  | roceConnectRequest (port : Nat) (qp : Nat)
  /-- PORT_LINK_UP, R96: A port trains and reports link. -/
  | portLinkUp (port : Nat) (lanes : Nat)
  /-- PORT_LINK_DOWN, R112: A port loses link; accepted commands run on and unsent completions are lost. -/
  | portLinkDown (port : Nat)
  /-- KEEP_ALIVE_EXPIRY, R112: An association's keep-alive timer expires; its queues are deleted and unfetched
  commands discarded. -/
  | keepAliveExpiry (port : Nat) (assoc : Nat)
  /-- RECEIVE_BUFFER_THRESHOLD, R105: A port's receive buffer crosses 75 % or 50 % and the port sends PAUSE or PFC
  accordingly. -/
  | receiveBufferThreshold (port : Nat) (fill : Nat)
  /-- PAUSE_RENEWAL, R105: A sent PAUSE is renewed every 50 % of its time while the buffer stays full. -/
  | pauseRenewal (port : Nat)
  /-- PAUSE_RECEIVE, R106: A received PAUSE or PFC frame is honoured or ignored, and counted. -/
  | pauseReceive (port : Nat) (pfc : Bool) (priorities : Nat) (quanta : Nat)
  /-- ECN_CE_RECEIVE, R108: A RoCEv2 packet with ECN CE set makes the port return a CNP. -/
  | ecnCeReceive (port : Nat) (qp : Nat)
  /-- CNP_RECEIVE, R108: A received CNP halves a queue pair's send rate. -/
  | cnpReceive (port : Nat) (qp : Nat)
  /-- RATE_INCREASE_TIMER, R108: After 55 µs without a CNP a queue pair's rate rises by 5 % of line rate. -/
  | rateIncreaseTimer (port : Nat) (qp : Nat)
  /-- PTP_SYNC, R403: A PTP Sync or Follow_Up on the slave port feeds the servo and the lock state. -/
  | ptpSync (m : SyncMsg)
  /-- PTP_ANNOUNCE, R402: A PTP Announce feeds master selection and the UTC offset. -/
  | ptpAnnounce (m : AnnounceMsg)
  /-- PTP_DELAY_RESP, R402: A Delay_Resp completes a path-delay measurement. -/
  | ptpDelayResp (port : Nat) (master : Nat) (received : Int)
  /-- PTP_DELAY_REQ_SEND, R402: The slave sends a Delay_Req to the master. -/
  | ptpDelayReqSend
  /-- ANNOUNCE_RECEIPT_TIMEOUT, R404: Three announce intervals pass without Announce and a locked peer enters
  HOLDOVER. -/
  | announceReceiptTimeout
  /-- HOLDOVER_LIMIT_EXPIRY, R404: The holdover limit passes and the time state becomes FREE. -/
  | holdoverLimitExpiry
  /-- TIME_LEADER_CHANGE, R408: The lead passes to the other peer after it has ranked higher for 10 s. -/
  | timeLeaderChange
  /-- EPOCH_OUT_PULSE, R410: The peer raises EPOCH_OUT at every tick whose bits [22:0] are zero. -/
  | epochOutPulse
  /-- EPOCH_IN_EDGE, R410: A rising edge of EPOCH_IN is timestamped for trace delay or discipline. -/
  | epochInEdge (frac : Nat)
  /-- EPOCH_IN_WAKE, R551: A high level of 500 µs on EPOCH_IN starts a dormant device. -/
  | epochInWake
  /-- COMMIT_GROUP, R424: The periodic commit group launches, gives commit ticks, writes journal pages and posts
  completions. -/
  | commitGroup (entry : Nat)
  /-- POWER_FAIL_COMMIT, R47: The power-fail commit group launches on one peer and gives its tick to every write that
  met its condition. -/
  | powerFailCommit (entry : Nat)
  /-- SNAPSHOT_CUT, R418: A snapshot cut launches and holds every write with commit tick at or below its tick. -/
  | snapshotCut (entry : Nat)
  /-- CHANNEL_HANDOVER, R436: A paired hand-over launches and flips the owner bits of a channel mask. -/
  | channelHandover (entry : Nat)
  /-- BUCKET_MOVE, R450: A paired bucket move launches and new commands for the bucket go to the new home. -/
  | bucketMove (entry : Nat)
  /-- FREEZE, R594: FREEZE launches and every unit latches its state; the board launches nothing further. -/
  | freeze (entry : Nat)
  /-- TIME_STEP, R420: A TIME_STEP advances the counter forward by its argument. -/
  | timeStep (entry : Nat)
  /-- GROUP_POWER_UP, R542: A channel group's domain switches on and its targets are identified and trained. -/
  | groupPowerUp (entry : Nat) (probe : List ProbeResult)
  /-- GROUP_POWER_DOWN, R542: A channel group's domain switches off. -/
  | groupPowerDown (entry : Nat)
  /-- TOLL_WINDOW, R388: A toll-gate window sets or ends a scale on a group's share. -/
  | tollWindow (entry : Nat)
  /-- FAN_RAMP, R576: A FAN_RAMP moves a fan's commanded floor linearly to a target speed. -/
  | fanRamp (entry : Nat)
  /-- GEAR_ACTIVATE, R187: Both peers copy the staged gear table to the active table and advance its generation. -/
  | gearActivate (entry : Nat)
  /-- POLICY_GROUP, R234: Both peers apply a group commit or abort to the staged entries of a policy partition. -/
  | policyGroup (entry : Nat)
  /-- SLOT_RETIRE, R266: A retired slot becomes DECRYPT_ONLY at its tick. -/
  | slotRetire (entry : Nat)
  /-- TENANT_ERASE, R267: At its tick every key, copy, snapshot and slot of a tenant is erased and fresh keys are
  generated. -/
  | tenantErase (entry : Nat)
  /-- EVENT_MARK, R415: An EVENT_MARK launches and logs event 0x0D06 with its argument. -/
  | eventMark (entry : Nat)
  /-- PAIRED_LAUNCH_MISMATCH, R422: The other peer's launch report misses its 10 µs window and MISMATCH is set. -/
  | pairedLaunchMismatch (entry : Nat)
  /-- PAIRED_PLACEMENT_DEADLINE, R421: ARMED has not arrived 1,600 ticks before launch and the placing peer cancels
  the placement. -/
  | pairedPlacementDeadline (entry : Nat)
  /-- PEER_ALIVE_TOGGLE, R429: PEER_ALIVE_OUT toggles every 50 µs while the liveness watchdog is serviced. -/
  | peerAliveToggle
  /-- PEER_ALIVE_ASSERTED, R429: PEER_ALIVE_IN counts as asserted at the fourth well-spaced edge. -/
  | peerAliveAsserted
  /-- PEER_ALIVE_LOST, R431: PEER_ALIVE_IN counts as lost after 1 ms without an edge and the peer state is derived
  again. -/
  | peerAliveLost
  /-- LIVENESS_WATCHDOG_EXPIRY, R429: The control processors miss their liveness watchdog for 1 ms and PEER_ALIVE_OUT
  stops. -/
  | livenessWatchdogExpiry
  /-- LINK_UP, R430: The Jeunotte link counts as up and the handshake and HELLO follow. -/
  | linkUp (lanes : Nat)
  /-- LINK_DOWN, R431: The Jeunotte link counts as down and the peer state is derived again. -/
  | linkDown
  /-- PEER_WAIT_EXPIRY, R432: The start-up wait for the peer ends and the device waits on or fences an absent peer. -/
  | peerWaitExpiry
  /-- FENCE_IN_ASSERT, R440: FENCE_IN_N low for 5 ns makes the device release its flash pins and enter reset. -/
  | fenceInAssert
  /-- FENCE_IN_RELEASE, R441: FENCE_IN_N deasserts and the fenced device starts as from PORST_N. -/
  | fenceInRelease (straps : Nat)
  /-- TAKEOVER, R444: 100 ns after fencing, the survivor owns every channel and replays and adopts the fenced peer's
  state. -/
  | takeover (keys : List MovedKey) (chunks : List ChunkEntry) (stripes : List JRecord) (blocks : List BlockRecord) (trained : Nat)
  /-- TAKEOVER_COMPLETE, R444: The survivor becomes home, owner and keeper of everything and sets bit [7] of OD
  0x2010:05. -/
  | takeoverComplete
  /-- HANDOVER_PLACEMENT, R435: Side A places hand-over entries for the lowest group whose map differs from the
  preferred map. -/
  | handoverPlacement
  /-- HANDOVER_DRAINED, R436: The old owner's last operation on the channels ends and it sends HANDOVER_STATE. -/
  | handoverDrained (group : Nat)
  /-- HANDOVER_RELEASE, R436: Once acknowledged, the old owner drives idle levels, releases the pins and sends
  RELEASED. -/
  | handoverRelease (group : Nat)
  /-- HANDOVER_TAKE_CHANNEL, R436: 64 ticks after RELEASED the new owner drives the channels, trains them and issues
  operations. -/
  | handoverTakeChannel (group : Nat) (trained : Nat)
  /-- REBALANCE_WINDOW, R449: A 10 s window ends and side A chooses buckets to move away from a heavy peer. -/
  | rebalanceWindow
  /-- BUCKET_RECORDS_STREAM, R450: The old home streams a bucket's key-index records and manifests and places the move
  once little remains. -/
  | bucketRecordsStream (bucket : Nat)
  /-- ACK, R456: An empty acknowledgement frame advances a class's acknowledged sequence. -/
  | ack (h : FrameHdr) (cls : Nat)
  /-- FRAME_RETRANSMIT_TIMER, R456: A frame unacknowledged for 20 µs is sent again with every later frame of its
  class. -/
  | frameRetransmitTimer (cls : Nat)
  /-- ACK_TIMER, R456: A receiver with no reverse traffic sends an empty ACK within 2 µs. -/
  | ackTimer (cls : Nat)
  /-- HELLO, R446: HELLO from the peer is checked for sides, pair identity and firmware, and the peers meet or refuse.
  -/
  | hello (h : FrameHdr) (m : HelloMsg)
  /-- HEARTBEAT, R457: A HEARTBEAT keeps the link up and carries time transfer, peer state, mirror room and home
  share. -/
  | heartbeat (h : FrameHdr) (m : HeartbeatMsg)
  /-- PLACE, R421: The peer arms a paired entry and answers ARMED. -/
  | place (h : FrameHdr) (entry : Nat) (body : BoardRecord)
  /-- ARMED, R421: The placing peer arms its paired entry when ARMED arrives in time. -/
  | armed (h : FrameHdr) (entry : Nat)
  /-- CANCEL, R421: The peer cancels a paired entry before its tick. -/
  | cancel (h : FrameHdr) (entry : Nat)
  /-- LAUNCH_REPORT, R422: The peer's report of a paired launch arrives. -/
  | launchReport (h : FrameHdr) (entry : Nat) (tick : Nat)
  /-- HANDOVER_STATE, R436: The new owner receives the block-table records of handed-over channels and acknowledges.
  -/
  | handoverState (h : FrameHdr) (group : Nat) (mask : Nat) (blocks : List BlockRecord)
  /-- RELEASED, R436: The new owner learns the release tick of handed-over channels. -/
  | released (h : FrameHdr) (group : Nat) (mask : Nat) (tick : Nat)
  /-- HANDOVER_ABORT, R438: A hand-over is reverted and the channels stay with the old owner. -/
  | handoverAbort (h : FrameHdr) (entry : Nat) (group : Nat) (mask : Nat)
  /-- LOOPBACK, R169: A loopback frame is returned unchanged with ECHO set. -/
  | loopback (h : FrameHdr) (tick : Nat) (pattern : Bytes)
  /-- FWD_CMD, R151: The home peer receives a forwarded command and enters its locks in submission order. -/
  | fwdCmd (h : FrameHdr) (m : FwdCmdMsg)
  /-- FWD_DATA, R453: Value bytes of a forwarded command arrive at the home or come back to the receiving peer. -/
  | fwdData (h : FrameHdr) (fwd : Nat) (off : Nat) (data : Bytes)
  /-- FWD_COMPLETION, R453: The receiving peer posts the completion of a forwarded command on its queue. -/
  | fwdCompletion (h : FrameHdr) (m : FwdCompletionMsg)
  /-- LOCK_RESERVE, R150: The home reserves lock entries for a command of the other peer, or releases them on a count
  of 0. -/
  | lockReserve (h : FrameHdr) (fwd : Nat) (idents : List LockIdent)
  /-- LOCK_REPLY, R150: The receiving peer learns whether its remote lock reservation was made. -/
  | lockReply (h : FrameHdr) (fwd : Nat) (full : Bool)
  /-- MIRROR_DATA, R452: The other peer places a mirrored record in its caravanserai and acknowledges it. -/
  | mirrorData (h : FrameHdr) (write : Nat) (r : MirrorRecord)
  /-- MIRROR_ACK, R452: The home peer counts records acknowledged toward a complete mirror. -/
  | mirrorAck (h : FrameHdr) (write : Nat) (records : Nat)
  /-- MIRROR_RELEASE, R452: The holder drops mirrored records of writes whose stripes are released. -/
  | mirrorRelease (h : FrameHdr) (writes : List Nat)
  /-- JOURNAL_PAGE, R291: The other peer holds a mirrored journal page, writes it as copy 3 and acknowledges. -/
  | journalPage (h : FrameHdr) (p : JournalPageMsg)
  /-- JOURNAL_ACK, R291: The mirror's acknowledgement advances the durable journal sequence. -/
  | journalAck (h : FrameHdr) (seq : Nat)
  /-- JOURNAL_RESEND, R296: The peer sends again the journal pages that the holder of copy 3 needs. -/
  | journalResend (h : FrameHdr) (first : Nat) (last : Nat)
  /-- FP_REQUEST_CLAIM, R196: The fingerprint owner serves a claim as a HIT or a NEW copy. -/
  | fpRequestClaim (h : FrameHdr) (req : Nat) (domain : Nat) (fp : Bytes)
  /-- FP_REQUEST_CLAIM_RELEASE, R624: The owner releases a claim, or the claim counted under an unanswered request id.
  -/
  | fpRequestClaimRelease (h : FrameHdr) (req : Nat) (domain : Nat) (fp : Bytes) (copy : Nat)
  /-- FP_REQUEST_DECREMENT, R205: The owner decrements a copy's reference count. -/
  | fpRequestDecrement (h : FrameHdr) (req : Nat) (domain : Nat) (fp : Bytes) (copy : Nat)
  /-- FP_REQUEST_PRESENT, R193: The owner records a copy as stored and sets PRESENT. -/
  | fpRequestPresent (h : FrameHdr) (req : Nat) (m : PresentMsg)
  /-- FP_REQUEST_LOCATE, R203: The owner resolves a copy's location. -/
  | fpRequestLocate (h : FrameHdr) (req : Nat) (domain : Nat) (fp : Bytes) (copy : Nat)
  /-- FP_REPLY, R196: The home peer receives the owner's reply to a fingerprint request. -/
  | fpReply (h : FrameHdr) (m : FpReplyMsg)
  /-- INVALIDATE, R203: The peer drops a cached copy location and acknowledges. -/
  | invalidate (h : FrameHdr) (domain : Nat) (copy : Nat) (fp : Bytes)
  /-- INVALIDATE_ACK, R203: The owner learns that an invalidation was acknowledged, toward its erase barrier. -/
  | invalidateAck (h : FrameHdr) (domain : Nat) (copy : Nat) (fp : Bytes)
  /-- UNIT_READ, R23: The owning peer reads a unit for the home peer and returns ciphertext. -/
  | unitRead (h : FrameHdr) (req : Nat) (d : MemberDesc) (prio : Nat)
  /-- UNIT_DATA, R23: The home peer receives a remote unit and decrypts and verifies it. -/
  | unitData (h : FrameHdr) (req : Nat) (status : Nat) (off : Nat) (data : Bytes)
  /-- MOVE_REQUEST, R349: The keeper moves a member on the other peer's channel at its request. -/
  | moveRequest (h : FrameHdr) (req : Nat) (stripe : Nat) (d : MemberDesc) (reason : Nat)
  /-- ERASE_REQUEST, R213: The channel owner erases a block at the other peer's request once its barrier holds. -/
  | eraseRequest (h : FrameHdr) (req : Nat) (d : MemberDesc) (barrier : Nat)
  /-- REQUEST_DONE, R457: The requesting peer learns a move or erase request is done, refused or hit a failed element.
  -/
  | requestDone (h : FrameHdr) (req : Nat) (result : Nat)
  /-- BUCKET_RECORDS, R450: The new home receives key-index records and manifests of a moving bucket. -/
  | bucketRecords (h : FrameHdr) (bucket : Nat) (records : List MovedKey)
  /-- DRAIN_DONE, R450: The new home learns the bucket has drained and commits the move in commit group G. -/
  | drainDone (h : FrameHdr) (bucket : Nat) (g : Nat)
  /-- FP_ENTRIES, R447: A returning peer receives the chunk-map entries of its fingerprints. -/
  | fpEntries (h : FrameHdr) (entries : List ChunkEntry)
  /-- TABLE_SYNC, R457: The peer applies a shared setting written on the other peer and answers TABLE_ACK. -/
  | tableSync (h : FrameHdr) (idx : Nat) (sub : Nat) (entry : Nat) (off : Nat) (value : Bytes)
  /-- TABLE_ACK, R457: The writing peer confirms or aborts a shared write on the peer's answer. -/
  | tableAck (h : FrameHdr) (idx : Nat) (sub : Nat) (entry : Nat) (code : Nat)
  /-- OFFER, R532: The peer's handshake offer of ephemeral key, identity, attestation and owner digest arrives. -/
  | offer (h : FrameHdr) (m : OfferMsg)
  /-- FINISH, R532: The peer's handshake signature arrives and the link key is established or the peer refused. -/
  | finish (h : FrameHdr) (sig : Bytes)
  /-- SLOT_KEY, R533: A slot key arrives in a secure frame. -/
  | slotKey (h : FrameHdr) (count : Nat) (tagOk : Bool) (slot : Nat) (tenant : Nat) (keygen : Nat) (key : Nat)
  /-- MAP_KEY, R533: The pair map key arrives in a secure frame. -/
  | mapKey (h : FrameHdr) (count : Nat) (tagOk : Bool) (key : Nat)
  /-- HASH_SECRET, R533: The pair hash secret arrives in a secure frame. -/
  | hashSecret (h : FrameHdr) (count : Nat) (tagOk : Bool) (secret : Nat)
  /-- SALT, R533: A domain salt arrives in a secure frame. -/
  | salt (h : FrameHdr) (count : Nat) (tagOk : Bool) (domain : Nat) (value : Bytes)
  /-- GEAR, R533: The gear tables arrive in a secure frame. -/
  | gear (h : FrameHdr) (count : Nat) (tagOk : Bool) (generation : Nat) (entries : List Nat)
  /-- SECURE_ACK, R533: A secure-frame acknowledgement of an invocation count arrives. -/
  | secureAck (h : FrameHdr) (count : Nat) (tagOk : Bool) (acked : Nat)
  /-- OWNER_RECORD, R530: An owner enrolment or revocation arrives from the peer and is programmed into OTP. -/
  | ownerRecord (h : FrameHdr) (count : Nat) (tagOk : Bool) (n : Nat) (pub : Bytes) (secret : Bytes)
  /-- WORK_DESCRIPTOR_POST, R489: Firmware or the NVMe engine posts a work descriptor to a cluster queue. -/
  | workDescriptorPost (host : Bool) (bucket : Nat) (w : WorkDesc)
  /-- DESCRIPTOR_RETURN, R491: An engine returns a descriptor with a status and the owning command proceeds. -/
  | descriptorReturn (tag : Nat) (status : Nat)
  /-- MACHINE_CHECK, R505: An engine halts on a parity, stack or time-limit error and its control store is reloaded.
  -/
  | machineCheck (e : Nat) (kind : Nat) (groups : Nat)
  /-- DESCRIPTOR_TIME_LIMIT, R504: A descriptor runs past the limit in OD 0x2F20:08 and raises a machine check. -/
  | descriptorTimeLimit (e : Nat)
  /-- BACKGROUND_SLICE_END, R489: A background descriptor's 1 ms slice ends and a higher-class descriptor runs first.
  -/
  | backgroundSliceEnd (e : Nat)
  /-- NEXT, R496: Microword SEQ 0 continues at the next address. -/
  | nextSeq (e : Nat)
  /-- JUMP, R496: Microword SEQ 1 continues at TARGET. -/
  | jumpSeq (e : Nat) (target : Nat)
  /-- BRANCH_TRUE, R496: Microword SEQ 2 continues at TARGET when COND is true. -/
  | branchTrue (e : Nat) (target : Nat) (cond : Nat)
  /-- BRANCH_FALSE, R496: Microword SEQ 3 continues at TARGET when COND is false. -/
  | branchFalse (e : Nat) (target : Nat) (cond : Nat)
  /-- CALL, R496: Microword SEQ 4 pushes the return address and jumps to TARGET. -/
  | callSeq (e : Nat) (target : Nat)
  /-- RETURN, R496: Microword SEQ 5 pops the return address. -/
  | returnSeq (e : Nat)
  /-- DISPATCH, R501: Microword SEQ 6 takes the next descriptor and jumps to its dispatch entry. -/
  | dispatchSeq (e : Nat)
  /-- HALT, R496: Microword SEQ 7 returns the current descriptor with a status and dispatches. -/
  | haltSeq (e : Nat)
  /-- NOP, R498: ALU operation 0 writes nothing. -/
  | nopOp (e : Nat)
  /-- MOV, R498: ALU operation 1 copies A to the destination. -/
  | movOp (e : Nat) (a : Nat) (dst : Nat)
  /-- ADD, R498: ALU operation 2 adds A and B and sets the flags. -/
  | addOp (e : Nat) (a : Nat) (b : Nat) (dst : Nat)
  /-- SUB, R498: ALU operation 3 subtracts B from A and sets the flags. -/
  | subOp (e : Nat) (a : Nat) (b : Nat) (dst : Nat)
  /-- AND, R498: ALU operation 4 ands A and B. -/
  | andOp (e : Nat) (a : Nat) (b : Nat) (dst : Nat)
  /-- OR, R498: ALU operation 5 ors A and B. -/
  | orOp (e : Nat) (a : Nat) (b : Nat) (dst : Nat)
  /-- XOR, R498: ALU operation 6 exclusive-ors A and B. -/
  | xorOp (e : Nat) (a : Nat) (b : Nat) (dst : Nat)
  /-- SHL, R498: ALU operation 7 shifts A left by B[5:0]. -/
  | shlOp (e : Nat) (a : Nat) (b : Nat) (dst : Nat)
  /-- SHR, R498: ALU operation 8 shifts A right by B[5:0]. -/
  | shrOp (e : Nat) (a : Nat) (b : Nat) (dst : Nat)
  /-- ADDI, R498: ALU operation 9 adds the zero-extended immediate to A. -/
  | addiOp (e : Nat) (a : Nat) (imm : Nat) (dst : Nat)
  /-- LDI, R498: ALU operation 10 loads the zero-extended immediate. -/
  | ldiOp (e : Nat) (imm : Nat) (dst : Nat)
  /-- LDIH, R498: ALU operation 11 shifts A left 16 and ors in the immediate. -/
  | ldihOp (e : Nat) (a : Nat) (imm : Nat) (dst : Nat)
  /-- CMP, R498: ALU operation 12 sets the flags from A minus B. -/
  | cmpOp (e : Nat) (a : Nat) (b : Nat)
  /-- CMPI, R498: ALU operation 13 sets the flags from A minus the immediate. -/
  | cmpiOp (e : Nat) (a : Nat) (imm : Nat)
  /-- MUL, R498: ALU operation 14 writes the low 64 bits of A times B. -/
  | mulOp (e : Nat) (a : Nat) (b : Nat) (dst : Nat)
  /-- MIN, R498: ALU operation 15 writes the unsigned minimum of A and B. -/
  | minOp (e : Nat) (a : Nat) (b : Nat) (dst : Nat)
  /-- MAX, R498: ALU operation 16 writes the unsigned maximum of A and B. -/
  | maxOp (e : Nat) (a : Nat) (b : Nat) (dst : Nat)
  /-- GET, R498: ALU operation 17 reads a unit result port. -/
  | getOp (e : Nat) (port : Nat) (dst : Nat)
  /-- BSET, R498: ALU operation 18 sets a buffer descriptor's address, limit and cursor. -/
  | bsetOp (e : Nat) (a : Nat) (b : Nat) (buf : Nat)
  /-- BADV, R498: ALU operation 19 advances a buffer cursor. -/
  | badvOp (e : Nat) (a : Nat) (buf : Nat)
  /-- LDD, R498: ALU operation 20 loads 8 bytes of the work descriptor. -/
  | lddOp (e : Nat) (imm : Nat) (dst : Nat)
  /-- STD, R498: ALU operation 21 writes the return status bytes of the descriptor. -/
  | stdOp (e : Nat) (a : Nat)
  /-- BSWAP, R498: ALU operation 22 byte-reverses A. -/
  | bswapOp (e : Nat) (a : Nat) (dst : Nat)
  /-- POPCNT, R498: ALU operation 23 counts the ones in A. -/
  | popcntOp (e : Nat) (a : Nat) (dst : Nat)
  /-- CHUNK_START, R499: CHUNK_CTL 1 starts the chunker over the buffer with the active gear table. -/
  | chunkStart (e : Nat) (buf : Nat)
  /-- CHUNK_NEXT, R499: CHUNK_CTL 2 seeks the next cut point. -/
  | chunkNext (e : Nat)
  /-- CHUNK_STOP, R499: CHUNK_CTL 3 stops the chunker. -/
  | chunkStop (e : Nat)
  /-- SHA_START_PREFIX, R499: SHA_CTL 1 starts SHA-256 with the domain and slot prefix loaded by hardware. -/
  | shaStartPrefix (e : Nat)
  /-- SHA_START, R499: SHA_CTL 2 starts SHA-256 with no prefix. -/
  | shaStart (e : Nat)
  /-- SHA_FEED_CHUNK, R499: SHA_CTL 3 feeds the bytes the chunker has passed. -/
  | shaFeedChunk (e : Nat)
  /-- SHA_FEED_BUFFER, R499: SHA_CTL 4 feeds the buffer. -/
  | shaFeedBuffer (e : Nat) (buf : Nat)
  /-- SHA_FINISH, R499: SHA_CTL 5 writes the digest to the buffer. -/
  | shaFinish (e : Nat) (buf : Nat)
  /-- COMPRESS, R249: DEFL_CTL 1 compresses the buffer with verification. -/
  | compress (e : Nat) (buf : Nat)
  /-- DECOMPRESS, R251: DEFL_CTL 2 decompresses a verified Deflate copy. -/
  | decompress (e : Nat) (buf : Nat)
  /-- DISCARD, R499: DEFL_CTL 3 discards the compressor output. -/
  | discard (e : Nat)
  /-- ENCRYPT, R253: AES_CTL 1 queues an encryption under the descriptor's slot. -/
  | encrypt (e : Nat) (buf : Nat)
  /-- DECRYPT, R263: AES_CTL 2 queues a decryption under the copy's slot. -/
  | decrypt (e : Nat) (buf : Nat)
  /-- SEAL, R322: AES_CTL 3 seals a map page with the pair map key. -/
  | sealPage (e : Nat) (buf : Nat)
  /-- OPEN, R322: AES_CTL 4 opens a map page with the pair map key. -/
  | openPage (e : Nat) (buf : Nat)
  /-- AES_CANCEL, R499: AES_CTL 5 cancels the engine's queued AES requests. -/
  | aesCancel (e : Nat)
  /-- GF_CLEAR, R499: GF_CTL 1 clears the parity accumulators. -/
  | gfClear (e : Nat)
  /-- GF_ACCUMULATE, R282: GF_CTL 2 accumulates the buffer as a data unit. -/
  | gfAccumulate (e : Nat) (buf : Nat) (imm : Nat)
  /-- EMIT_P, R282: GF_CTL 3 emits P. -/
  | emitP (e : Nat) (buf : Nat)
  /-- EMIT_Q, R282: GF_CTL 4 emits Q. -/
  | emitQ (e : Nat) (buf : Nat)
  /-- SOLVE_ONE, R283: GF_CTL 5 reconstructs one missing unit. -/
  | solveOne (e : Nat) (buf : Nat) (imm : Nat)
  /-- SOLVE_TWO, R283: GF_CTL 6 reconstructs two missing units. -/
  | solveTwo (e : Nat) (buf : Nat) (imm : Nat)
  /-- DMA_READ_STAGING, R499: DMA_RD 1 moves bytes from staging SRAM into the buffer. -/
  | dmaReadStaging (e : Nat) (a : Nat) (buf : Nat)
  /-- DMA_READ_DDR, R499: DMA_RD 2 moves bytes from DDR-5 into the buffer. -/
  | dmaReadDdr (e : Nat) (a : Nat) (buf : Nat)
  /-- DMA_READ_FLASH, R499: DMA_RD 3 moves bytes from a flash read buffer. -/
  | dmaReadFlash (e : Nat) (a : Nat) (buf : Nat)
  /-- DMA_READ_LINK, R499: DMA_RD 4 moves bytes from a Jeunotte receive buffer. -/
  | dmaReadLink (e : Nat) (a : Nat) (buf : Nat)
  /-- DMA_WRITE_STAGING, R499: DMA_WR 1 moves buffer bytes to staging SRAM. -/
  | dmaWriteStaging (e : Nat) (b : Nat) (buf : Nat)
  /-- DMA_WRITE_DDR, R499: DMA_WR 2 moves buffer bytes to DDR-5. -/
  | dmaWriteDdr (e : Nat) (b : Nat) (buf : Nat)
  /-- DMA_WRITE_FLASH, R499: DMA_WR 3 moves buffer bytes to a flash program buffer. -/
  | dmaWriteFlash (e : Nat) (b : Nat) (buf : Nat)
  /-- DMA_WRITE_LINK, R499: DMA_WR 4 moves buffer bytes to a Jeunotte send buffer. -/
  | dmaWriteLink (e : Nat) (b : Nat) (buf : Nat)
  /-- POLICY_SEARCH, R231: CAM_CTL 1 searches the policy partitions for a key. -/
  | policySearch (e : Nat) (buf : Nat)
  /-- HOT_SET_SEARCH, R236: CAM_CTL 2 searches the dedup hot set, or is diverted to the DRAM chunk map. -/
  | hotSetSearch (e : Nat) (buf : Nat)
  /-- BUCKET_OVERRIDE_SEARCH, R228: CAM_CTL 3 searches the bucket overrides. -/
  | bucketOverrideSearch (e : Nat) (buf : Nat)
  /-- SEARCH_RESULT, R235: An accepted search returns its hit, index and DATA 30 ns later. -/
  | searchResult (bad : List Nat)
  /-- THROTTLE_STEP_CHANGE, R237: The junction temperature crosses a throttle threshold and the search rate changes.
  -/
  | throttleStepChange (temp : Int)
  /-- LOCK_TEST, R499: LOCK_CTL 1 tests whether the command's locks are granted. -/
  | lockTest (e : Nat)
  /-- LOCK_RELEASE, R148: LOCK_CTL 2 releases the command's locks. -/
  | lockRelease (e : Nat)
  /-- APPEND, R499: JNL_CTL 1 appends the buffer as a record to the next commit group. -/
  | append (e : Nat) (buf : Nat)
  /-- MARK, R499: JNL_CTL 2 ties the durability condition to the last appended record. -/
  | markJnl (e : Nat)
  /-- FLASH_READ, R376: FLASH_Q 1 issues a read of a member. -/
  | flashRead (e : Nat) (a : Nat)
  /-- FLASH_PROGRAM, R289: FLASH_Q 2 issues a member program. -/
  | flashProgram (e : Nat) (a : Nat)
  /-- FLASH_READ_NEXT_STEP, R376: FLASH_Q 3 reads at the next threshold step. -/
  | flashReadNextStep (e : Nat) (a : Nat)
  /-- FLASH_READ_DEEP, R304: FLASH_Q 4 reads with deep read-retry. -/
  | flashReadDeep (e : Nat) (a : Nat)
  /-- TOLL_REQUEST_READ, R387: TOLL 1 requests read tokens from the toll gate. -/
  | tollRequestRead (e : Nat)
  /-- TOLL_REQUEST_PROGRAM, R387: TOLL 2 requests program tokens from the toll gate. -/
  | tollRequestProgram (e : Nat)
  /-- TOLL_RETURN, R386: TOLL 3 returns tokens. -/
  | tollReturn (e : Nat)
  /-- TOLL_TOKENS_GRANTED, R390: A waiting flash operation receives its toll-gate tokens and starts. -/
  | tollTokensGranted (op : Nat)
  /-- EVT_WRITE, R499: EVT 1 to 4 writes an event to log 0xC5. -/
  | evtWrite (e : Nat) (code : Nat) (imm : Nat) (a : Nat)
  /-- CNT_ADD, R499: CNT_CTL adds a value to an engine counter. -/
  | cntAdd (e : Nat) (ctr : Nat) (b : Nat)
  /-- MSG_SEND, R499: MSG 1 sends two registers to the control processors. -/
  | msgSend (e : Nat) (a : Nat) (b : Nat)
  /-- MSG_CLAIM, R196: MSG 2 claims the digest at its owner. -/
  | msgClaim (e : Nat)
  /-- MSG_RELEASE, R198: MSG 3 releases a claim. -/
  | msgRelease (e : Nat)
  /-- MSG_PRESENT, R193: MSG 4 reports a copy stored. -/
  | msgPresent (e : Nat)
  /-- AES_REQUEST_COMPLETE, R263: An AES request ends, releasing verified plaintext or counting a tag failure. -/
  | aesRequestComplete (e : Nat)
  /-- COMPRESS_DONE, R248: Compression and verification of a new copy end and the encoding is chosen. -/
  | compressDone (e : Nat) (mismatch : Bool)
  /-- SHA_DONE, R189: A SHA-256 computation completes its digest. -/
  | shaDone (e : Nat)
  /-- GF_UNIT_DONE, R282: The GF(2^8) unit completes its operation. -/
  | gfUnitDone (e : Nat)
  /-- MOVER_DONE, R499: A read or write mover completes its transfer. -/
  | moverDone (e : Nat) (write : Bool)
  /-- SLOT_LIMIT_DURABLE, R256: A new counter limit becomes durable and waiting encryptions proceed. -/
  | slotLimitDurable (slot : Nat)
  /-- ALARM, R269: A tamper, voltage, clock-glitch or temperature alarm zeroises keys, counters, buffers and the cache
  within 1 µs. -/
  | alarm (sources : Nat)
  /-- ALARM_SOURCES_CLEAR, R270: Every alarm source has been clear for 100 ms and the slots reload or await RELOAD. -/
  | alarmSourcesClear
  /-- ALARM_RELOAD_COMPLETE, R270: The unwrapped slots and new limits are in place and the alarm state returns to 0.
  -/
  | alarmReloadComplete
  /-- STRIPE_CLOSE, R288: A gathering stripe is closed, padded if needed, and issued. -/
  | stripeClose (cls : Nat) (cluster : Nat)
  /-- GATHER_LIMIT_EXPIRY, R288: A gathering stripe has held data for the gather limit and closes. -/
  | gatherLimitExpiry (cls : Nat) (cluster : Nat)
  /-- STRIPE_ISSUE_DURABLE, R289: The STRIPE_ISSUE record is durable and the member programs pass to the toll gate. -/
  | stripeIssueDurable (stripe : Nat)
  /-- STRIPE_MEMBERS_PROGRAMMED, R289: All members have been programmed and STRIPE_DURABLE is written. -/
  | stripeMembersProgrammed (stripe : Nat)
  /-- STRIPE_RELEASE, R289: STRIPE_DURABLE is durable and both peers release the stripe from their caravanserai. -/
  | stripeRelease (stripe : Nat)
  /-- JOURNAL_DURABLE, R291: The LAST page of a commit group is programmed in every readable copy and mirrored, making
  its records durable. -/
  | journalDurable (seq : Nat)
  /-- FLASH_READ_COMPLETE, R376: A flash read ends and its codewords decode or the next step is tried. -/
  | flashReadComplete (op : Nat) (decoded : Bool) (bitErrors : Nat)
  /-- FLASH_READ_TIMEOUT, R298: A read passes its timeout and the member is reconstructed from parity. -/
  | flashReadTimeout (op : Nat)
  /-- HARD_READ_LIMIT, R299: A read waiting on an indispensable slow member reaches OD 0x2900:13. -/
  | hardReadLimit (op : Nat)
  /-- FLASH_PROGRAM_COMPLETE, R289: A member program ends with ready status. -/
  | flashProgramComplete (op : Nat)
  /-- FLASH_PROGRAM_FAILURE, R351: A program fails; the unit is moved and the block retired. -/
  | flashProgramFailure (op : Nat)
  /-- FLASH_PROGRAM_TIMEOUT, R298: A program passes its timeout and ends in a member move. -/
  | flashProgramTimeout (op : Nat)
  /-- FLASH_ERASE_COMPLETE, R348: A block erase ends and BLOCK_STATE records the block free. -/
  | flashEraseComplete (op : Nat)
  /-- FLASH_ERASE_FAILURE, R352: An erase fails or times out and the block is retired. -/
  | flashEraseFailure (op : Nat)
  /-- LUN_RESET_TIMEOUT, R300: A LUN not ready within 1 s of a reset fails for good. -/
  | lunResetTimeout (channel : Nat) (target : Nat) (lun : Nat)
  /-- REBUILD_STRIPE, R302: The keeper repairs the next stripe of a failed element's work list. -/
  | rebuildStripe (element : Nat)
  /-- REBUILD_RESUME, R301: A paused rebuild resumes when its reason ends. -/
  | rebuildResume (element : Nat)
  /-- LOST_STRIPE_KEY_SCAN, R306: The key index and snapshots are scanned for manifests naming a lost stripe's copies.
  -/
  | lostStripeKeyScan (stripe : Nat)
  /-- JOURNAL_COPY_REWRITTEN, R296: A rewritten journal copy is complete. -/
  | journalCopyRewritten (copy : Nat)
  /-- CHECKPOINT_START, R334: A checkpoint begins on its interval, ring use, power-state entry or hand-over. -/
  | checkpointStart
  /-- CHECKPOINT_COMPLETE, R335: The checkpoint's pages are durable and CHECKPOINT_DONE is written. -/
  | checkpointComplete
  /-- MAP_PAGE_FILL, R330: A missed map page is paged in and waiting commands proceed. -/
  | mapPageFill (typ : Nat) (lid : Nat)
  /-- GC_LEVEL_CHANGE, R343: A channel's free share crosses a collection threshold. -/
  | gcLevelChange (channel : Nat)
  /-- BLOCK_RECLAIM, R344: Block reclaim picks the victim with fewest live units and moves them. -/
  | blockReclaim (channel : Nat)
  /-- STRIPE_COMPACTION, R345: A compaction candidate's live stored forms are copied into the relocation stream. -/
  | stripeCompaction
  /-- MANIFEST_COMPACTION, R325: Live manifests of a sparse manifest page move to the current page. -/
  | manifestCompaction
  /-- WEAR_LEVEL, R354: The block with the lowest erase count is reclaimed to narrow the spread. -/
  | wearLevel (channel : Nat)
  /-- BLOCK_ERASE, R348: A block in state 3 is erased once its barrier conditions hold. -/
  | blockErase (d : MemberDesc)
  /-- REFRESH, R383: A block queued for refresh has its live units moved and is erased. -/
  | refresh (d : MemberDesc)
  /-- PATROL_SAMPLE, R384: A closed block is sampled for raw bit errors. -/
  | patrolSample (d : MemberDesc) (bitErrors : Nat)
  /-- THERMAL_AGE_SAMPLE, R379: Each minute the group temperatures are read and the running ages advance. -/
  | thermalAgeSample (temps : List Int) (junction : Int)
  /-- LEDGER_RECORD, R380: The thermal-age ledger records a day's ages or the last powered minute. -/
  | ledgerRecord
  /-- PWR_FAIL_N_ASSERT, R46: PWR_FAIL_N goes low; fetching and collection stop, unready writes are discarded and the
  flush begins. -/
  | pwrFailNAssert
  /-- POWER_FAIL_FLUSH_END, R46: The flush ends and its flush-complete marker is written. -/
  | powerFailFlushEnd
  /-- PWR_FAIL_N_DEASSERT, R49: PWR_FAIL_N deasserts and the device resumes fetching without a reset. -/
  | pwrFailNDeassert
  /-- FLUSH_RELEASE, R49: Every rostered write is durable, FLUSH_RELEASED is written and the flush blocks are erased.
  -/
  | flushRelease (flush : Nat)
  /-- HOLDUP_OK_CHANGE, R553: HOLDUP_OK asserts after 100 ms high, or deasserts at once, and the dirty limit is
  recomputed. -/
  | holdupOkChange (level : Bool)
  /-- PORST_N_ASSERT, R559: PORST_N is asserted and every pin takes its reset state. -/
  | porstNAssert
  /-- PORST_N_RELEASE, R559: PORST_N is released, the straps are sampled and a cold start begins. -/
  | porstNRelease (straps : Nat)
  /-- COLD_START, R560: The device runs its start-up steps from boot verification to ready. -/
  | coldStart
  /-- CLEAN_DORMANT_EXIT, R561: A device leaving PS_4 with intact retained DRAM skips training and checkpoint load. -/
  | cleanDormantExit
  /-- CORE_PG_TIMEOUT, R610: CORE_PG is not high within 50 ms of CORE_EN and the device retries up to three times. -/
  | corePgTimeout
  /-- CORE_PG_LOSS, R610: CORE_PG falls while CORE_EN is high and the device resets with cause 6. -/
  | corePgLoss
  /-- ROOT_PLL_LOSS, R558: The root PLL loses lock; the alarm trips and the device resets with cause 4. -/
  | rootPllLoss
  /-- SDCLK_LOSS, R558: Loss of SDCLK takes the ports and the link down. -/
  | sdclkLoss
  /-- REFCLK_STOP, R558: REFCLK stops; AO runs from its oscillator and the carried counter is lost. -/
  | refclkStop
  /-- THERMAL_SHUTDOWN, R552: The AO sensor reads 115 °C for 1 ms; the device flushes and switches off. -/
  | thermalShutdown (temp : Int)
  /-- DOMAIN_FAULT, R543: A power domain misses or loses power-good and the device acts on its fault. -/
  | domainFault (domain : Nat)
  /-- APST_TRANSITION, R175: After ITPT of continuous idle the device moves to the next idle state. -/
  | apstTransition
  /-- POWER_STATE_GATE, R548: Stripes are durable and the checkpoint done, so the domains of PS_2 or PS_3 are gated.
  -/
  | powerStateGate
  /-- FATAL_ERROR, R594: Firmware declares a fatal error and places FREEZE. -/
  | fatalError (cause : Nat)
  /-- DUMP_COPY, R595: A surviving dump is copied to the flash dump area once the groups are ready. -/
  | dumpCopy
  /-- CONTROL_PROCESSOR_WATCHDOG, R593: The control-processor watchdog expires and a fatal error with cause 0x0007
  follows. -/
  | controlProcessorWatchdog
  /-- WORLD_VIOLATION, R522: A non-secure access to a secure unit returns zeros or is discarded and is logged. -/
  | worldViolation (initiator : Nat) (addr : Nat)
  /-- INSTRUCTION_FETCH_REFUSED, R522: A refused instruction fetch is logged and a fatal error with cause 0x0001
  follows. -/
  | instructionFetchRefused (initiator : Nat) (addr : Nat)
  /-- REPLICATION_CYCLE, R477: A session in mode 1 starts a cycle when its interval has passed. -/
  | replicationCycle (session : Nat)
  /-- REPLICATION_REMOTE_COMPLETION, R479: A remote completion of a replication command is counted, skipped, retried
  or ends the session in error. -/
  | replicationRemoteCompletion (session : Nat) (key : Bytes) (sct : Nat) (sc : Nat) (dnr : Bool)
  /-- REPLICATION_RETRY, R479: A command with DNR clear is sent again after 1 s. -/
  | replicationRetry (session : Nat) (key : Bytes)
  /-- REPLICATION_RECONNECT, R480: A paused session tries to reconnect every 5 s. -/
  | replicationReconnect (session : Nat) (ok : Bool)
  /-- FAN_START, R571: A fan starts by sensing its back-EMF for 20 ms. -/
  | fanStart (fan : Nat)
  /-- FAN_SENSE_COMPLETE, R571: Sensing ends and the fan is caught, braked or aligned. -/
  | fanSenseComplete (fan : Nat) (bemf : Nat) (forward : Bool) (rpm : Nat)
  /-- FAN_BRAKE_END, R572: A brake ends below threshold or after 3 s and the fan aligns. -/
  | fanBrakeEnd (fan : Nat) (bemf : Nat) (rpm : Nat)
  /-- FAN_ALIGN_END, R573: Align ends after 200 ms and the open-loop ramp begins. -/
  | fanAlignEnd (fan : Nat)
  /-- FAN_RAMP_END, R573: A ramp reaches its hold end without hand-over and restarts, or fails after three tries. -/
  | fanRampEnd (fan : Nat)
  /-- BEMF_ZERO_CROSSING, R569: The floating phase crosses zero, timing the next commutation and hand-over. -/
  | bemfZeroCrossing (fan : Nat) (good : Bool) (period : Nat)
  /-- FAN_SPEED_LOOP, R575: Every 1 ms the speed loop moves its reference, sets duty and adjusts advance. -/
  | fanSpeedLoop (fan : Nat) (current : Nat)
  /-- FAN_KE_MEASURE, R578: The back-EMF constant is measured and a persistent deviation flagged. -/
  | fanKeMeasure (fan : Nat) (ke : Nat)
  /-- FAN_OVERCURRENT, R570: More than half the PWM periods of 100 ms are current-cut and the channel faults. -/
  | fanOvercurrent (fan : Nat)
  /-- ROTOR_LOST, R579: Missing crossings or low back-EMF lose the rotor; the fan coasts and is caught or declared
  lost. -/
  | rotorLost (fan : Nat)
  /-- FAN_COAST_END, R579: A 40 ms coast ends and the drive attempts a catch. -/
  | fanCoastEnd (fan : Nat) (forward : Bool) (rpm : Nat)
  /-- FAN_FAILED_RETRY, R573: A failed fan repeats its start every 60 s. -/
  | fanFailedRetry (fan : Nat)
  /-- EPOCH_IN_LOSS, R411: With the link down, EPOCH_IN edges are absent for 2 periods and the follower disciplines to
  its own PTP with the timebase not locked. -/
  | epochInLoss
  /-- SURVIVE_FENCE_DELAY, R442: Side B asserts FENCE_OUT_N 2 ms after decision 1 was written, unless the link or
  PEER_ALIVE_IN returned first. -/
  | surviveFenceDelay
  /-- CORE_PG_RISE, R560: CORE_PG goes high after CORE_EN rose and start-up proceeds past step 2 to boot verification.
  -/
  | corePgRise
  /-- REFCLK_RESTART, R609: REFCLK starts or returns and, after running for 100 µs, lets the device leave reset and AO
  leave its internal oscillator. -/
  | refclkRestart
  /-- MASTER_WAIT_EXPIRY, R407: OD 0x2100:12 passes at start-up step 6 without 3 agreeing Syncs and the counter is
  established from the recorded tick plus 800,000 in state FREE. -/
  | masterWaitExpiry
  /-- CAN_ERROR_PASSIVE, R80: The CAN FD controller enters or leaves error passive and bit [4] of OD 0x1001 follows.
  -/
  | canErrorPassive (enter : Bool)
  /-- REMOTE_ASSOCIATION_LOSS, R480: A replication session's association with its remote target is lost and the
  session enters state 4, paused. -/
  | remoteAssociationLoss (session : Nat)
  /-- TEMPERATURE_THRESHOLD_CROSSING, R79: The junction temperature crosses the over or under threshold of OD
  0x2010:0C or :0D, setting critical warning [1], raising the SMART event and EMCY 0x4200. -/
  | temperatureThresholdCrossing (temp : Int)
  /-- SHELF_POWER_LOSS, R622: Shelf power, AO rails included, is lost, with or without PWR_FAIL_N having announced it,
  and the device becomes unpowered. -/
  | shelfPowerLoss
  /-- VDDQ_DDR_BELOW_FLOOR, R561: The AO monitors see VDDQ_DDR fall below 1.067 V during PS_4, so the next exit is a
  cold start. -/
  | vddqDdrBelowFloor
  deriving DecidableEq, Repr

end Sys2Proof
end

