-- ==== Sys2Proof/Machine/Bytes.lean ====
section
/-! DEFINITION. Byte order, bit fields and the sparse tables that every unit uses. -/

namespace Sys2Proof.Machine

/-- Little-endian bytes of a value, `n` of them (R11). -/
def leBytes : Nat → Nat → Bytes
  | 0, _ => []
  | n + 1, v => BitVec.ofNat 8 v :: leBytes n (v / 256)

/-- The value of little-endian bytes (R11). -/
def leNat : Bytes → Nat
  | [] => 0
  | b :: bs => b.toNat + 256 * leNat bs

/-- The value of big-endian bytes. -/
def beNat (bs : Bytes) : Nat := bs.foldl (fun a b => a * 256 + b.toNat) 0

/-- Big-endian bytes of a value, `n` of them. -/
def beBytes (n v : Nat) : Bytes := (leBytes n v).reverse

/-- Bits [hi:lo] of a number (R10). -/
def bits (v hi lo : Nat) : Nat := v / 2 ^ lo % 2 ^ (hi + 1 - lo)

/-- Bit [n] of a number (R10). -/
def bit (v n : Nat) : Bool := v / 2 ^ n % 2 == 1

/-- A Boolean as a number. -/
def b2n (b : Bool) : Nat := if b then 1 else 0

/-- `v` with bit `n` set to `b`. -/
def setBit (v n : Nat) (b : Bool) : Nat :=
  if bit v n == b then v else if b then v + 2 ^ n else v - 2 ^ n

/-- `n` bytes of `bs` from offset `o`. -/
def slice (bs : Bytes) (o n : Nat) : Bytes := (bs.drop o).take n

/-- The little-endian field of `n` bytes at offset `o`. -/
def leAt (bs : Bytes) (o n : Nat) : Nat := leNat (slice bs o n)

/-- `bs` cut or zero-padded to `n` bytes. -/
def padTo (n : Nat) (bs : Bytes) : Bytes :=
  let t := bs.take n
  t ++ List.replicate (n - t.length) 0

/-- ASCII text as bytes. -/
def ascii (s : String) : Bytes := s.toList.map fun c => BitVec.ofNat 8 c.toNat

/-- Lexicographic byte order of keys, a prefix first. -/
def bytesLt : Bytes → Bytes → Bool
  | _, [] => false
  | [], _ :: _ => true
  | a :: as, b :: bs => a.toNat < b.toNat || (a == b && bytesLt as bs)

/-- `a` at or before `b` in key order. -/
def bytesLe (a b : Bytes) : Bool := a == b || bytesLt a b

/-! ## Tables by number: a list of key and value pairs, keys strictly rising -/

/-- A sparse table by number. -/
abbrev Tbl (α : Type) := List (Nat × α)

/-- The row with number `k`. -/
def tblGet? {α : Type} : Tbl α → Nat → Option α
  | [], _ => none
  | (j, v) :: t, k => if j == k then some v else tblGet? t k

/-- The row with number `k`, or a default. -/
def tblGetD {α : Type} (t : Tbl α) (k : Nat) (dflt : α) : α := (tblGet? t k).getD dflt

/-- Put a row in its place. -/
def tblPut {α : Type} : Tbl α → Nat → α → Tbl α
  | [], k, v => [(k, v)]
  | (j, w) :: t, k, v =>
    if k < j then (k, v) :: (j, w) :: t
    else if j == k then (k, v) :: t
    else (j, w) :: tblPut t k v

/-- Take a row out. -/
def tblDel {α : Type} : Tbl α → Nat → Tbl α
  | [], _ => []
  | (j, w) :: t, k => if j == k then tblDel t k else (j, w) :: tblDel t k

/-- Change a row if it is there. -/
def tblMod {α : Type} (t : Tbl α) (k : Nat) (f : α → α) : Tbl α :=
  t.map fun r => if r.1 == k then (r.1, f r.2) else r

/-- The keys of the table rise strictly. -/
def tblWf {α : Type} : Tbl α → Bool
  | [] => true
  | [_] => true
  | (j, _) :: (k, w) :: t => j < k && tblWf ((k, w) :: t)

/-- Put a value where an absent row reads as `dflt`: writing `dflt` takes the row out. -/
def tblStore {α : Type} [DecidableEq α] (dflt : α) (t : Tbl α) (k : Nat) (v : α) : Tbl α :=
  if v = dflt then tblDel t k else tblPut t k v

/-- The canonical form of a table whose absent rows read as `dflt`. -/
def tblCanon {α : Type} [DecidableEq α] (dflt : α) (t : Tbl α) : Bool :=
  tblWf t && t.all fun r => decide (r.2 ≠ dflt)

/-! ## Memories: sparse bytes, an unlisted byte reads as zero (log 4) -/

/-- The byte at an address. -/
def memGet (m : List (Nat × BitVec 8)) (a : Nat) : Byte := tblGetD m a 0

/-- Write one byte. -/
def memPut (m : List (Nat × BitVec 8)) (a : Nat) (b : Byte) : List (Nat × BitVec 8) :=
  tblStore 0 m a b

/-- Read `n` bytes from an address. -/
def memRead (m : List (Nat × BitVec 8)) (a : Nat) : Nat → Bytes
  | 0 => []
  | n + 1 => memGet m a :: memRead m (a + 1) n

/-- Write bytes from an address up. -/
def memWrite (m : List (Nat × BitVec 8)) (a : Nat) : Bytes → List (Nat × BitVec 8)
  | [] => m
  | b :: bs => memWrite (memPut m a b) (a + 1) bs

/-- The canonical form of a memory. -/
def Memory.wf (m : List (Nat × BitVec 8)) : Bool := tblCanon 0 m

/-! ## Lists by position -/

/-- Change the element at a position. -/
def modNth {α : Type} (l : List α) (n : Nat) (f : α → α) : List α := l.modify n f

end Sys2Proof.Machine
end

