-- ==== Sys2Proof/Machine/Crypto.lean ====
section
/-! DEFINITION. The standard algorithms that the manual names: SHA-256 and SHA-384 (FIPS 180-4), HMAC and HKDF
(RFC 5869), SipHash-2-4, CRC-32, CRC-32C, AES-256-GCM (SP 800-38D) and ECDSA on P-384 (FIPS 186-5). -/

namespace Sys2Proof.Machine

/-! ## SHA-2 -/

/-- Integer root: greatest r with r ^ k ≤ n, by `b` bits from the top. -/
def rootBits (k n : Nat) : Nat → Nat → Nat
  | 0, r => r
  | b + 1, r => let t := r + 2 ^ b; rootBits k n b (if t ^ k ≤ n then t else r)

/-- The first 80 primes. -/
def primes80 : List Nat :=
  ((List.range 410).filter fun n => 2 ≤ n && (List.range n).all fun d => d < 2 || n % d != 0).take 80

/-- First `w` bits of the fraction of the cube root of `p`. -/
def cubeFrac (w p : Nat) : Nat := rootBits 3 (p * 2 ^ (3 * w)) (w + 3) 0 % 2 ^ w

/-- First `w` bits of the fraction of the square root of `p`. -/
def sqrtFrac (w p : Nat) : Nat := rootBits 2 (p * 2 ^ (2 * w)) (w + 5) 0 % 2 ^ w

/-- The rotations and shifts of a SHA-2 function: Σ0, Σ1, σ0, σ1. -/
structure ShaShape where
  w : Nat
  rounds : Nat
  sig0 : Nat × Nat × Nat
  sig1 : Nat × Nat × Nat
  gam0 : Nat × Nat × Nat
  gam1 : Nat × Nat × Nat

def sha256Shape : ShaShape := ⟨32, 64, (2, 13, 22), (6, 11, 25), (7, 18, 3), (17, 19, 10)⟩
def sha512Shape : ShaShape := ⟨64, 80, (28, 34, 39), (14, 18, 41), (1, 8, 7), (19, 61, 6)⟩

/-- Exclusive-or of three rotations. -/
def rot3 {w : Nat} (r : Nat × Nat × Nat) (x : BitVec w) : BitVec w :=
  x.rotateRight r.1 ^^^ x.rotateRight r.2.1 ^^^ x.rotateRight r.2.2

/-- Exclusive-or of two rotations and a shift. -/
def rot2s {w : Nat} (r : Nat × Nat × Nat) (x : BitVec w) : BitVec w :=
  x.rotateRight r.1 ^^^ x.rotateRight r.2.1 ^^^ (x >>> r.2.2)

/-- The message schedule, newest word first. -/
def shaSchedule (s : ShaShape) : Nat → List (BitVec s.w) → List (BitVec s.w)
  | 0, ws => ws
  | n + 1, ws =>
    let w2 := ws.getD 1 0
    let w7 := ws.getD 6 0
    let w15 := ws.getD 14 0
    let w16 := ws.getD 15 0
    shaSchedule s n ((rot2s s.gam1 w2 + w7 + rot2s s.gam0 w15 + w16) :: ws)

/-- One round on (a … h). -/
def shaRound (s : ShaShape) (v : List (BitVec s.w)) (k w : BitVec s.w) : List (BitVec s.w) :=
  match v with
  | [a, b, c, d, e, f, g, h] =>
    let t1 := h + rot3 s.sig1 e + ((e &&& f) ^^^ (~~~e &&& g)) + k + w
    let t2 := rot3 s.sig0 a + ((a &&& b) ^^^ (a &&& c) ^^^ (b &&& c))
    [t1 + t2, a, b, c, d + t1, e, f, g]
  | v => v

/-- Compress one block into the state. -/
def shaBlock (s : ShaShape) (ks : List (BitVec s.w)) (st : List (BitVec s.w)) (block : Bytes) : List (BitVec s.w) :=
  let m := (List.range 16).map fun i => BitVec.ofNat s.w (beNat (slice block (i * (s.w / 8)) (s.w / 8)))
  let ws := (shaSchedule s (s.rounds - 16) m.reverse).reverse
  let v := (ks.zip ws).foldl (fun v kw => shaRound s v kw.1 kw.2) st
  (st.zip v).map fun p => p.1 + p.2

/-- Cut into blocks of `n` bytes. -/
def blocksOf (n : Nat) (bs : Bytes) : List Bytes :=
  (List.range ((bs.length + n - 1) / n)).map fun i => slice bs (i * n) n

/-- Padding of FIPS 180-4. -/
def shaPad (s : ShaShape) (msg : Bytes) : Bytes :=
  let b := s.w * 2
  let l := s.w / 4
  let z := (b - (msg.length + 1 + l) % b) % b
  msg ++ [0x80] ++ List.replicate z 0 ++ beBytes l (msg.length * 8)

/-- The hash of a message from an initial state. -/
def shaHash (s : ShaShape) (iv : List Nat) (msg : Bytes) : Bytes :=
  let ks := (primes80.take s.rounds).map fun p => BitVec.ofNat s.w (cubeFrac s.w p)
  let st := (blocksOf (s.w * 2) (shaPad s msg)).foldl (fun st b => shaBlock s ks st b) (iv.map (BitVec.ofNat s.w))
  (st.map fun x => beBytes (s.w / 8) x.toNat).flatten

/-- SHA-256. -/
def sha256 (msg : Bytes) : Bytes := shaHash sha256Shape ((primes80.take 8).map (sqrtFrac 32)) msg

/-- SHA-384: the square roots of the 9th to 16th primes, cut to 48 bytes. -/
def sha384 (msg : Bytes) : Bytes :=
  (shaHash sha512Shape (((primes80.drop 8).take 8).map (sqrtFrac 64)) msg).take 48

/-- HMAC with SHA-384, block 128 bytes. -/
def hmac384 (key msg : Bytes) : Bytes :=
  let k := padTo 128 (if 128 < key.length then sha384 key else key)
  sha384 (k.map (· ^^^ 0x5C) ++ sha384 (k.map (· ^^^ 0x36) ++ msg))

/-- HKDF-SHA-384 for lengths of at most 96 bytes. -/
def hkdf384 (ikm salt info : Bytes) (len : Nat) : Bytes :=
  let prk := hmac384 salt ikm
  let t1 := hmac384 prk (info ++ [1])
  let t2 := hmac384 prk (t1 ++ info ++ [2])
  (t1 ++ t2).take len

/-! ## SipHash-2-4 and the CRCs -/

/-- One SipRound. -/
def sipRound (v : List (BitVec 64)) : List (BitVec 64) :=
  match v with
  | [a, b, c, d] =>
    let a := a + b
    let b := b.rotateLeft 13 ^^^ a
    let a := a.rotateLeft 32
    let c := c + d
    let d := d.rotateLeft 16 ^^^ c
    let a := a + d
    let d := d.rotateLeft 21 ^^^ a
    let c := c + b
    let b := b.rotateLeft 17 ^^^ c
    let c := c.rotateLeft 32
    [a, b, c, d]
  | v => v

/-- One message word. -/
def sipWord (v : List (BitVec 64)) (m : BitVec 64) : List (BitVec 64) :=
  let v := match v with
    | [a, b, c, d] => [a, b, c, d ^^^ m]
    | v => v
  match sipRound (sipRound v) with
  | [a, b, c, d] => [a ^^^ m, b, c, d]
  | v => v

/-- SipHash-2-4 under a 128-bit key whose low half is the first 8 bytes. -/
def sipHash (key : Nat) (msg : Bytes) : Nat :=
  let k0 := BitVec.ofNat 64 key
  let k1 := BitVec.ofNat 64 (key / 2 ^ 64)
  let v := [k0 ^^^ 0x736f6d6570736575, k1 ^^^ 0x646f72616e646f6d, k0 ^^^ 0x6c7967656e657261, k1 ^^^ 0x7465646279746573]
  let n := msg.length / 8
  let words := (List.range n).map fun i => BitVec.ofNat 64 (leAt msg (8 * i) 8)
  let last := BitVec.ofNat 64 (leNat (msg.drop (8 * n)) + (msg.length % 256) * 2 ^ 56)
  let v := (words ++ [last]).foldl sipWord v
  let v := match v with
    | [a, b, c, d] => [a, b, c ^^^ 0xFF, d]
    | v => v
  (sipRound (sipRound (sipRound (sipRound v)))).foldl (fun x y => (x ^^^ y)) 0 |>.toNat

/-- One bit of a reflected CRC. -/
def crcBits (poly : BitVec 32) : Nat → BitVec 32 → BitVec 32
  | 0, c => c
  | n + 1, c => crcBits poly n (if c.getLsbD 0 then (c >>> 1) ^^^ poly else c >>> 1)

/-- A reflected CRC-32 with initial and final complement. -/
def crcOf (poly : BitVec 32) (bs : Bytes) : Nat :=
  (~~~(bs.foldl (fun c b => crcBits poly 8 (c ^^^ b.zeroExtend 32)) (0xFFFFFFFF : BitVec 32))).toNat

/-- CRC-32 (IEEE 802.3). -/
def crc32 (bs : Bytes) : Nat := crcOf 0xEDB88320 bs
/-- CRC-32C (Castagnoli). -/
def crc32c (bs : Bytes) : Nat := crcOf 0x82F63B78 bs

/-! ## AES-256 and GCM -/

/-- Multiply by x in GF(2^8) modulo a polynomial's low byte. -/
def xtime (poly : Byte) (a : Byte) : Byte := if a.getLsbD 7 then (a <<< 1) ^^^ poly else a <<< 1

/-- Product in GF(2^8) modulo x^8 and the given low byte. -/
def gfMulN (poly : Byte) : Nat → Byte → Byte → Byte → Byte
  | 0, _, _, r => r
  | n + 1, a, b, r => gfMulN poly n (xtime poly a) (b >>> 1) (if b.getLsbD 0 then r ^^^ a else r)

/-- Product in the AES field. -/
def aesMul (a b : Byte) : Byte := gfMulN 0x1B 8 a b 0

/-- Inverse in the AES field: a^254. -/
def aesInv (a : Byte) : Byte :=
  let a2 := aesMul a a
  let a4 := aesMul a2 a2
  let a8 := aesMul a4 a4
  let a16 := aesMul a8 a8
  let a32 := aesMul a16 a16
  let a64 := aesMul a32 a32
  let a128 := aesMul a64 a64
  aesMul a128 (aesMul a64 (aesMul a32 (aesMul a16 (aesMul a8 (aesMul a4 a2)))))

/-- The AES S-box. -/
def aesSbox (a : Byte) : Byte :=
  let i := aesInv a
  i ^^^ i.rotateLeft 1 ^^^ i.rotateLeft 2 ^^^ i.rotateLeft 3 ^^^ i.rotateLeft 4 ^^^ 0x63

/-- Exclusive-or of byte strings. -/
def xorBytes (a b : Bytes) : Bytes := (a.zip b).map fun p => p.1 ^^^ p.2

/-- The key schedule: words of 4 bytes, newest first. -/
def aesExpand : Nat → Nat → Byte → List Bytes → List Bytes
  | 0, _, _, ws => ws
  | n + 1, i, rc, ws =>
    let prev := ws.getD 0 []
    let back := ws.getD 7 []
    if i % 8 == 0 then
      let t := ((prev.drop 1) ++ (prev.take 1)).map aesSbox
      let t := match t with
        | x :: xs => (x ^^^ rc) :: xs
        | [] => []
      aesExpand n (i + 1) (xtime 0x1B rc) (xorBytes back t :: ws)
    else if i % 8 == 4 then aesExpand n (i + 1) rc (xorBytes back (prev.map aesSbox) :: ws)
    else aesExpand n (i + 1) rc (xorBytes back prev :: ws)

/-- Round keys of AES-256, 16 bytes each. -/
def aesKeys (key : Bytes) : List Bytes :=
  let ws := (aesExpand 52 8 1 ((List.range 8).map fun i => slice key (4 * i) 4).reverse).reverse
  (List.range 15).map fun r => ((ws.drop (4 * r)).take 4).flatten

/-- ShiftRows on a block in column order. -/
def shiftRows (b : Bytes) : Bytes :=
  (List.range 16).map fun i => b.getD ((i + 4 * (i % 4)) % 16) 0

/-- MixColumns on one column. -/
def mixColumn (c : Bytes) : Bytes :=
  match c with
  | [a, b, x, d] =>
    [aesMul 2 a ^^^ aesMul 3 b ^^^ x ^^^ d, a ^^^ aesMul 2 b ^^^ aesMul 3 x ^^^ d,
     a ^^^ b ^^^ aesMul 2 x ^^^ aesMul 3 d, aesMul 3 a ^^^ b ^^^ x ^^^ aesMul 2 d]
  | c => c

/-- AES-256 of one block under expanded keys. -/
def aesBlock (ks : List Bytes) (b : Bytes) : Bytes :=
  let mid := (ks.drop 1).take 13
  let st := mid.foldl (fun st k =>
    let s := shiftRows (st.map aesSbox)
    xorBytes ((List.range 4).flatMap fun i => mixColumn (slice s (4 * i) 4)) k) (xorBytes b (ks.getD 0 []))
  xorBytes (shiftRows (st.map aesSbox)) (ks.getD 14 [])

/-- Product in GF(2^128) as GCM orders bits: `x` from its most significant bit. -/
def ghashMul (x y : BitVec 128) : BitVec 128 :=
  ((List.range 128).foldl (fun zv i =>
    let z := if x.getMsbD i then zv.1 ^^^ zv.2 else zv.1
    let v := if zv.2.getLsbD 0 then (zv.2 >>> 1) ^^^ (0xE1 : BitVec 128) <<< 120 else zv.2 >>> 1
    (z, v)) ((0 : BitVec 128), y)).1

/-- GHASH of data already padded to blocks. -/
def ghash (h : BitVec 128) (bs : Bytes) : BitVec 128 :=
  (blocksOf 16 bs).foldl (fun y b => ghashMul (y ^^^ BitVec.ofNat 128 (beNat b)) h) 0

/-- Zero padding to whole blocks of 16. -/
def pad16 (bs : Bytes) : Bytes := bs ++ List.replicate ((16 - bs.length % 16) % 16) 0

/-- Counter-mode key stream exclusive-ored over the data, from counter 2. -/
def gcmCtr (ks : List Bytes) (iv : Bytes) (bs : Bytes) : Bytes :=
  ((blocksOf 16 bs).zipIdx.map fun bi => xorBytes bi.1 (aesBlock ks (iv ++ beBytes 4 (bi.2 + 2)))).flatten

/-- The tag of a ciphertext. -/
def gcmTag (ks : List Bytes) (iv aad ct : Bytes) : Bytes :=
  let h := BitVec.ofNat 128 (beNat (aesBlock ks (List.replicate 16 0)))
  let s := ghash h (pad16 aad ++ pad16 ct ++ beBytes 8 (aad.length * 8) ++ beBytes 8 (ct.length * 8))
  xorBytes (beBytes 16 s.toNat) (aesBlock ks (iv ++ beBytes 4 1))

/-- AES-256-GCM: ciphertext and tag. -/
def gcmSeal (key iv aad pt : Bytes) : Bytes × Bytes :=
  let ks := aesKeys key
  let ct := gcmCtr ks iv pt
  (ct, gcmTag ks iv aad ct)

/-- Verified plaintext, or nothing when the tag fails. -/
def gcmOpen (key iv aad ct tag : Bytes) : Option Bytes :=
  let ks := aesKeys key
  if gcmTag ks iv aad ct == tag then some (gcmCtr ks iv ct) else none

/-! ## ECDSA and ECDH on P-384 -/

/-- The field prime. -/
def p384 : Nat := 2 ^ 384 - 2 ^ 128 - 2 ^ 96 + 2 ^ 32 - 1
/-- The group order. -/
def n384 : Nat :=
  0xFFFFFFFFFFFFFFFFFFFFFFFFFFFFFFFFFFFFFFFFFFFFFFFFC7634D81F4372DDF581A0DB248B0A77AECEC196ACCC52973
/-- The coefficient b; a is −3. -/
def b384 : Nat :=
  0xB3312FA7E23EE7E4988E056BE3F82D19181D9C6EFE8141120314088F5013875AC656398D8A2ED19D2A85C8EDD3EC2AEF
/-- The base point. -/
def g384 : Nat × Nat :=
  (0xAA87CA22BE8B05378EB1C71EF320AD746E1D3B628BA79B9859F741E082542A385502F25DBF55296C3A545E3872760AB7,
   0x3617DE4A96262C6F5D9E98BF9292DC29F8F41DBD289A147CE9DA3113B5F0B8C00A60B1CE1D7E819D7A431D7C90EA0E5F)

/-- b ^ e mod m by the bits of e, `k` of them. -/
def powMod (m : Nat) : Nat → Nat → Nat → Nat → Nat
  | 0, _, _, r => r
  | k + 1, b, e, r => powMod m k (b * b % m) (e / 2) (if e % 2 == 1 then r * b % m else r)

/-- Inverse modulo a prime of 384 bits. -/
def invMod (m a : Nat) : Nat := powMod m 384 (a % m) (m - 2) 1

/-- Addition on the curve; `none` is the point at infinity. -/
def ecAdd (a b : Option (Nat × Nat)) : Option (Nat × Nat) :=
  match a, b with
  | none, q => q
  | p, none => p
  | some (x1, y1), some (x2, y2) =>
    if x1 == x2 && (y1 + y2) % p384 == 0 then none
    else
      let l := if x1 == x2 then (3 * x1 * x1 + (p384 - 3)) * invMod p384 (2 * y1) % p384
               else (y2 + p384 - y1) * invMod p384 (x2 + p384 - x1) % p384
      let x := (l * l + 2 * p384 - x1 - x2) % p384
      some (x, (l * (x1 + p384 - x) + p384 - y1) % p384)

/-- k times a point, by the low `n` bits of k. -/
def ecMul : Nat → Nat → Option (Nat × Nat) → Option (Nat × Nat)
  | 0, _, _ => none
  | n + 1, k, p =>
    let h := ecMul n (k / 2) (ecAdd p p)
    if k % 2 == 1 then ecAdd p h else h

/-- A point from x then y, 48 bytes each (R525), when it lies on the curve. -/
def ecPoint (bs : Bytes) : Option (Nat × Nat) :=
  let x := beNat (slice bs 0 48)
  let y := beNat (slice bs 48 48)
  if bs.length == 96 && x < p384 && y < p384 && y * y % p384 == (x * x * x + (p384 - 3) * x + b384) % p384
  then some (x, y) else none

/-- The bytes of a point, x then y. -/
def ecBytes (p : Option (Nat × Nat)) : Bytes :=
  match p with
  | some (x, y) => beBytes 48 x ++ beBytes 48 y
  | none => List.replicate 96 0

/-- An ECDSA P-384 signature, r then s, over a SHA-384 digest verifies under a public key. -/
def ecdsaVerify (pub digest sig : Bytes) : Bool :=
  let r := beNat (slice sig 0 48)
  let s := beNat (slice sig 48 48)
  match ecPoint pub with
  | none => false
  | some q =>
    if sig.length != 96 || r == 0 || s == 0 || n384 ≤ r || n384 ≤ s then false
    else
      let w := invMod n384 s
      let z := beNat digest
      match ecAdd (ecMul 384 (z * w % n384) (some g384)) (ecMul 384 (r * w % n384) (some q)) with
      | some (x, _) => x % n384 == r
      | none => false

/-- The shared x-coordinate of a private scalar and a public point. -/
def ecdh (priv : Nat) (pub : Bytes) : Bytes :=
  match ecMul 384 priv (ecPoint pub) with
  | some (x, _) => beBytes 48 x
  | none => List.replicate 48 0

end Sys2Proof.Machine
end

