-- ==== Sys2Proof/Config.lean ====
section
/-! DEFINITION. What the part fixes (R6, R29) and the values that the specification leaves open. -/

namespace Sys2Proof.Config

/-- Channels of the MBT-9600 (R6). -/
def channels : Nat := 128
/-- Channel groups of 8 channels (R29, R542). -/
def groups : Nat := 16
/-- Drover engines (R6). -/
def engines : Nat := 64
/-- Engines in one cluster EC_0…EC_3 (R488). -/
def enginesPerCluster : Nat := 16
/-- Host ports (R6). -/
def ports : Nat := 8
/-- Search entries (R6). -/
def searchEntries : Nat := 131072
/-- Range-lock table entries (R148). -/
def lockEntries : Nat := 16384
/-- Key slots (R255). -/
def keySlots : Nat := 4096
/-- Departure-board entries (R413). -/
def boardEntries : Nat := 4096
/-- Namespaces (R155). -/
def namespaces : Nat := 1024
/-- Product code (R6). -/
def productCode : Nat := 0x9600
/-- Ticks of 1.25 ns in 1 µs (R9). -/
def ticksPerUs : Nat := 800
/-- Ticks in 1 ms (R9). -/
def ticksPerMs : Nat := 800000
/-- Ticks in 1 s (R9). -/
def ticksPerS : Nat := 800000000

/-- UNVERIFIED free value: the n-th 64-bit word that the device's random source draws (keys, salts,
challenges, pair identity); the specification gives no value, and nothing here fixes one. -/
opaque freeWord : Nat → BitVec 64

/-- Free value: the compressor's output for a plain chunk (R247 gives the format, not the parse
that the compressor chooses). -/
opaque deflateOutput : List (BitVec 8) → List (BitVec 8)

/-- Free value: revision number OD 0x1018:03, "per silicon" (R82). -/
opaque revisionNumber : BitVec 32
/-- Free value: serial number OD 0x1018:04, "per device" (R82). -/
opaque serialNumber : BitVec 32

/-- Free value: the stored bytes of a copy whose key is gone (domain, copy number, key generation, fingerprint), and of a
map page version (logical id, LSN): the model does not hold what no rule lets it compute. -/
opaque storedBytes : Nat → Nat → Nat → List (BitVec 8) → List (BitVec 8)
opaque mapPageBytes : Nat → Nat → List (BitVec 8)
/-- Free value: what a unit of the other peer's stripes reads as, by descriptor and time: that peer keeps its stripe and copies. -/
opaque flashUnit : Nat → Nat → List (BitVec 8)
/-- Free value: the map page that holds a record, by map type and the record's key (R320 gives trees, not their shape). -/
opaque leafOf : Nat → List (BitVec 8) → Nat

/-- Free value: the usable capacity in bytes, which R391 uses and no rule states. -/
opaque usableCapacity : Nat

/-- Free value: region descriptor n (R523: boot firmware sets them, no rule says to what). -/
opaque regionDescriptor : Nat → BitVec 64

/-- Free values fused at manufacture or held by the boot ROM (R524, R525, R584): the root key, the attestation of this device's
identity key, the Phontikor attestation key, the Phontikor image and patch key and the Phontikor patch secret. -/
opaque rootKey : BitVec 256
opaque attestation : List (BitVec 8)
opaque attestationKey : List (BitVec 8)
opaque phontikorKey : List (BitVec 8)
opaque patchSecret : List (BitVec 8)
/-- Free value: the other peer's serial number, which its attestation covers and no message carries (R525, R532). -/
opaque peerSerial : BitVec 32
/-- Free value: this device's ECDSA signature of a digest with its identity key; no rule gives the nonce (R532). -/
opaque identitySign : List (BitVec 8) → List (BitVec 8)

/-- Free value: the firmware image in the ACTIVE slot as the device leaves the factory (R584). -/
opaque factoryImage : List (BitVec 8)
/-- Free value: where the base store image lies in an image's body (R584 puts it there, no rule says where). -/
opaque storeImageOf : List (BitVec 8) → List (BitVec 8)

/-- Free value: the sense of the carry flag after a subtraction or comparison: true when a borrow sets it (R498 names the
flag and no rule says which). -/
opaque borrowSetsCarry : Bool
/-- Free value: carry and overflow after an operation that R498 lets set them and for which it gives no meaning: bitwise
operations, shifts, MUL, MIN and MAX; by code and operands. -/
opaque aluCarry : Nat → Nat → Nat → Bool
opaque aluOverflow : Nat → Nat → Nat → Bool

/-- Free value: the servo's filtered offset in ps from its last value, its integral and the measured offset (R403 names a
proportional-integral loop and gives no gains). -/
opaque servoOffset : Int → Int → Int → Int
/-- Free value: the servo's next integral term. -/
opaque servoIntegral : Int → Int → Int
/-- Free value: the servo's frequency correction in ppb. -/
opaque servoFrequency : Int → Int → Int
/-- Free value: the ticks that the servo asks to slew. -/
opaque servoSlew : Int → Int → Int
/-- Free value: the follower's average of the trace delay (R410 gives no weights). -/
opaque traceAverage : Int → Int → Int


/-- Free values: code, severity and detail (by port and subindex) of the event of R121, which no table gives. -/
opaque saturationCode : Nat
opaque saturationSeverity : Nat
opaque saturationDetail : Nat → Nat → Nat
/-- Free values: frames and octets that an output of a port takes, by the outputs before it and the MTU of its path, and octets of a frame
that a command of its own brings, by the time and the outputs before it; no rule gives their formats. -/
opaque sentFrames : Nat → Nat → Nat
opaque sentOctets : Nat → Nat → Nat
opaque receivedOctets : Nat → Nat → Nat
/-- Free value: the quanta that a PFC frame of R105 carries. -/
opaque pfcQuanta : Nat

/-- Free values: the event codes that the EMCYs of an over-temperature and of a receive overrun carry; no event of log 0xC5 is stated for
either (R79). -/
opaque overTempEvent : Nat
opaque overrunEvent : Nat

/-- Free values of the airflow drive: the bridge voltage in mV, from which a catch presets the duty (R571), and the duty of an
open-loop ramp in 1/256 %, by ALIGN_DUTY and the TIME cycles since the ramp began (R573 names no ratio). -/
opaque bridgeVoltage : Nat
opaque rampDuty : Nat → Nat → Nat

/-- Contents of a dump section that the manual names without a layout, by type, unit and dump sequence (R597). -/
opaque dumpContents : Nat → Nat → Nat → List (BitVec 8)

/-- Maximum value size that the remote of a replication session reports in its Identify (R482). -/
opaque remoteMaxValue : Nat → Nat

/-- Free values of administration: a self-test's completion in percent and a sanitize's progress, by the cycles since the start; the
estimate of a block erase in seconds, by the erase time in µs, the blocks and the toll-gate budget (R173 names its inputs and no formula);
the raw native bytes on the channels that the other peer owns, given as a map of bits (R171); the information value of the notice
"sanitize completed" (R164 gives none). -/
opaque selfTestProgress : Nat → BitVec 7
opaque sanitizeProgress : Nat → BitVec 16
opaque blockEraseEstimate : Nat → Nat → Nat → BitVec 32
opaque otherCapacity : Nat → Nat
opaque sanitizeNotice : BitVec 8

/-- The text of a firmware revision in Identify and in log 0x03 (R163, R165 give no form), and the effect bits above CSUPP of a
command in log 0x05, by queue kind and opcode. -/
opaque revisionText : Nat → List (BitVec 8)
opaque commandEffects : Bool → Nat → BitVec 31

/-- Free value: the bits of the controller capabilities that no rule gives: all but MQES, CQR, AMS and the command sets (R139, R142). -/
opaque capabilityRest : BitVec 64

/-- Utilisation of a namespace in bytes of stored data, at a tick (R162 names the figure and no computation). -/
opaque namespaceUse : Nat → Nat → BitVec 64

/-- Free values: live keys homed on a serving peer, of a namespace or, under 0, of all, and the copies of a domain that are not DEAD
and that it owns, at a tick (R159, R216): no message carries these counts. -/
opaque peerKeys : Nat → Nat → Nat
opaque peerCopies : Nat → Nat → Nat

end Sys2Proof.Config
end

