-- ==== Sys2Proof/Machine/DictTable.lean ====
section
/-! DEFINITION. The object dictionary's entries: index, subindex, type, access, modifiers, default and range, from
the dictionary tables of the manual's chapters (R56 to R60, R82, R83 and each chapter's own). -/

namespace Sys2Proof.Machine

/-- The CANopen types (R58), with the entry's length for strings and the greatest length for a DOMAIN. -/
inductive OdType where
  | bool | u8 | u16 | u32 | u64 | i16 | i32 | i64
  | vis (n : Nat) | oct (n : Nat) | dom (max : Nat)
  deriving DecidableEq, Repr

/-- Access codes (R59). -/
inductive OdAccess where
  | cst | ro | wo | rw
  deriving DecidableEq, Repr

/-- One row of a dictionary table. `sub` is the first of `span` subindices of the same kind. `lo` and `hi` bound a
numeric write. A string's default is the number that its little-endian bytes spell (R11). -/
structure OdEntry where
  sub : Nat
  span : Nat
  typ : OdType
  acc : OdAccess
  s : Bool
  p : Bool
  l : Bool
  dflt : Nat
  lo : Nat
  hi : Nat
  deriving DecidableEq, Repr

/-- Size in bytes of a fixed-size type; for strings the stated length (R58). -/
def OdType.size : OdType → Nat
  | .bool => 1 | .u8 => 1 | .u16 => 2 | .u32 => 4 | .u64 => 8
  | .i16 => 2 | .i32 => 4 | .i64 => 8
  | .vis n => n | .oct n => n | .dom n => n

/-- DOMAIN values are read and written by offset (R58). -/
def OdType.isDomain : OdType → Bool
  | .dom _ => true
  | _ => false

/-- Strings and DOMAINs take a byte offset (R85). -/
def OdType.hasOffset : OdType → Bool
  | .vis _ => true | .oct _ => true | .dom _ => true
  | _ => false

/-- Default of a fan configuration record (R582): RATED_RPM 12,000, KE_NOM 1,200, ACCEL 2,000, ALIGN_DUTY 10,
RAMP_TIME 100, KP 256, KI 64, I_LIMIT 50, EDGE 20, MAX_ADVANCE 30, POLE_PAIRS 4. -/
def fanConfigDefault : Nat :=
  12000 * 2 ^ 112 + 1200 * 2 ^ 96 + 2000 * 2 ^ 80 + 10 * 2 ^ 72 + 100 * 2 ^ 64 + 256 * 2 ^ 48 + 64 * 2 ^ 32 +
    50 * 2 ^ 24 + 20 * 2 ^ 16 + 30 * 2 ^ 11 + 4 * 2 ^ 4

/-- OD 0x1000, R82. -/
def od1000 : List OdEntry := [
    ⟨0x00, 1, .u32, .cst, false, false, false, 0x00000000, 0, 0⟩]

/-- OD 0x1001, R82. -/
def od1001 : List OdEntry := [
    ⟨0x00, 1, .u8, .ro, false, false, false, 0x81, 0, 0⟩]

/-- OD 0x1011, R82. -/
def od1011 : List OdEntry := [
    ⟨0x01, 1, .u32, .wo, true, false, false, 0, 0, 4294967295⟩]

/-- OD 0x1014, R82. -/
def od1014 : List OdEntry := [
    ⟨0x00, 1, .u32, .rw, false, true, false, 0x80, 0, 4294967295⟩]

/-- OD 0x1015, R82. -/
def od1015 : List OdEntry := [
    ⟨0x00, 1, .u16, .rw, false, true, false, 100, 0, 65535⟩]

/-- OD 0x1016, R82. -/
def od1016 : List OdEntry := [
    ⟨0x01, 1, .u32, .rw, false, true, false, 0, 0, 4294967295⟩]

/-- OD 0x1017, R82. -/
def od1017 : List OdEntry := [
    ⟨0x00, 1, .u16, .rw, false, true, false, 1000, 0, 65535⟩]

/-- OD 0x1018, R82. -/
def od1018 : List OdEntry := [
    ⟨0x01, 1, .u32, .cst, false, false, false, 0x00000B71, 0, 0⟩,
    ⟨0x02, 1, .u32, .cst, false, false, false, 0x00009600, 0, 0⟩,
    ⟨0x03, 1, .u32, .cst, false, false, false, 0, 0, 0⟩,
    ⟨0x04, 1, .u32, .cst, false, false, false, 0, 0, 0⟩]

/-- OD 0x2000, R82. -/
def od2000 : List OdEntry := [
    ⟨0x01, 1, .u8, .ro, false, false, false, 0, 0, 0⟩,
    ⟨0x02, 1, .u8, .ro, false, false, false, 0, 0, 0⟩,
    ⟨0x03, 1, .u32, .ro, false, false, false, 0, 0, 0⟩,
    ⟨0x04, 1, .u64, .ro, false, false, false, 0, 0, 0⟩,
    ⟨0x05, 1, (.vis 32), .rw, false, true, false, 0x303036392d54424d, 0, 0⟩,
    ⟨0x06, 1, .u8, .rw, true, true, false, 2, 0, 3⟩,
    ⟨0x07, 1, .u8, .rw, true, true, false, 1, 0, 4⟩]

/-- OD 0x2010, R43, R83. -/
def od2010 : List OdEntry := [
    ⟨0x01, 1, .u8, .ro, false, false, false, 0, 0, 0⟩,
    ⟨0x02, 1, .u8, .ro, false, false, false, 0, 0, 0⟩,
    ⟨0x03, 1, .i16, .ro, false, false, false, 0, 0, 0⟩,
    ⟨0x04, 1, .i16, .ro, false, false, false, 0, 0, 0⟩,
    ⟨0x05, 1, .u32, .ro, false, false, false, 0x00000011, 0, 0⟩,
    ⟨0x06, 1, .u8, .ro, false, false, false, 0, 0, 0⟩,
    ⟨0x07, 1, .u8, .ro, false, false, false, 0, 0, 0⟩,
    ⟨0x08, 1, .u32, .ro, false, false, false, 0, 0, 0⟩,
    ⟨0x09, 1, .u8, .ro, false, false, false, 0, 0, 0⟩,
    ⟨0x0A, 1, .u32, .ro, false, false, false, 0, 0, 0⟩,
    ⟨0x0B, 1, .u8, .ro, false, false, false, 0, 0, 0⟩,
    ⟨0x0C, 1, .u16, .rw, false, true, false, 373, 0, 65535⟩,
    ⟨0x0D, 1, .u16, .rw, false, true, false, 0, 0, 65535⟩,
    ⟨0x0E, 1, .u32, .ro, false, false, false, 0, 0, 0⟩]

/-- OD 0x2100, R425. -/
def od2100 : List OdEntry := [
    ⟨0x00, 1, .u8, .cst, false, false, false, 0x14, 0, 0⟩,
    ⟨0x01, 1, .u64, .ro, false, false, false, 0, 0, 0⟩,
    ⟨0x02, 1, .u8, .ro, false, false, false, 0, 0, 0⟩,
    ⟨0x03, 1, .i64, .ro, false, false, false, 0, 0, 0⟩,
    ⟨0x04, 1, .i32, .ro, false, false, false, 0, 0, 0⟩,
    ⟨0x05, 1, .u8, .ro, false, false, false, 0, 0, 0⟩,
    ⟨0x06, 1, .u8, .rw, false, true, false, 0xFF, 0, 255⟩,
    ⟨0x07, 1, .u8, .rw, false, true, false, 0, 0, 127⟩,
    ⟨0x08, 1, .u8, .rw, false, true, false, 0, 0, 1⟩,
    ⟨0x09, 1, .u16, .rw, false, true, false, 100, 10, 1000⟩,
    ⟨0x0A, 1, .u16, .rw, false, true, false, 1000, 10, 10000⟩,
    ⟨0x0B, 1, .u32, .rw, false, true, false, 86400, 60, 2592000⟩,
    ⟨0x0C, 1, (.oct 8), .ro, false, false, false, 0, 0, 0⟩,
    ⟨0x0D, 1, .u8, .ro, false, false, false, 0xFF, 0, 0⟩,
    ⟨0x0E, 1, .i16, .ro, false, false, false, 0, 0, 0⟩,
    ⟨0x0F, 1, .i32, .ro, false, false, false, 0, 0, 0⟩,
    ⟨0x10, 1, .u64, .ro, false, true, false, 0, 0, 0⟩,
    ⟨0x11, 1, .u32, .ro, false, false, false, 0, 0, 0⟩,
    ⟨0x12, 1, .u16, .rw, false, true, false, 2000, 0, 60000⟩,
    ⟨0x13, 1, .i32, .ro, false, false, false, 0, 0, 0⟩,
    ⟨0x14, 1, .i32, .ro, false, false, false, 0, 0, 0⟩]

/-- OD 0x2200, R564. -/
def od2200 : List OdEntry := [
    ⟨0x00, 1, .u8, .cst, false, false, false, 0x05, 0, 0⟩,
    ⟨0x01, 1, .u8, .ro, false, false, false, 0, 0, 0⟩,
    ⟨0x02, 1, .u8, .ro, false, false, false, 0, 0, 0⟩,
    ⟨0x03, 1, .u32, .ro, false, false, false, 0, 0, 0⟩,
    ⟨0x04, 1, .u32, .ro, false, true, false, 0, 0, 0⟩,
    ⟨0x05, 1, .u32, .ro, false, true, false, 0, 0, 0⟩]

/-- OD 0x2210, R565. -/
def od2210 : List OdEntry := [
    ⟨0x00, 1, .u8, .cst, false, false, false, 0x03, 0, 0⟩,
    ⟨0x01, 1, .u32, .ro, false, false, false, 0, 0, 0⟩,
    ⟨0x02, 1, .u32, .ro, false, false, false, 0, 0, 0⟩,
    ⟨0x03, 1, .u32, .ro, false, false, false, 0, 0, 0⟩]

/-- OD 0x2220, R565. -/
def od2220 : List OdEntry := [
    ⟨0x00, 1, .u8, .cst, false, false, false, 0x03, 0, 0⟩,
    ⟨0x01, 1, .u8, .rw, false, false, false, 0, 0, 4⟩,
    ⟨0x02, 1, .u8, .ro, false, false, false, 0, 0, 0⟩,
    ⟨0x03, 1, .u32, .ro, false, true, false, 0, 0, 0⟩]

/-- OD 0x2230, R175. -/
def od2230 : List OdEntry := [
    ⟨0x00, 1, .u8, .cst, false, false, false, 0x06, 0, 0⟩,
    ⟨0x01, 1, .bool, .rw, false, true, false, 1, 0, 255⟩,
    ⟨0x02, 1, .u32, .rw, false, true, false, 0x00271010, 0, 4294967295⟩,
    ⟨0x03, 1, .u32, .rw, false, true, false, 0x00271010, 0, 4294967295⟩,
    ⟨0x04, 1, .u32, .rw, false, true, false, 0x0927C018, 0, 4294967295⟩,
    ⟨0x05, 1, .u32, .rw, false, true, false, 0, 0, 4294967295⟩,
    ⟨0x06, 1, .u32, .rw, false, true, false, 0, 0, 4294967295⟩]

/-- OD 0x2240, R566. -/
def od2240 : List OdEntry := [
    ⟨0x00, 1, .u8, .cst, false, false, false, 0x0C, 0, 0⟩,
    ⟨0x01, 1, .u32, .rw, false, true, false, 0, 0, 1000000⟩,
    ⟨0x02, 1, .u32, .ro, false, true, false, 0, 0, 0⟩,
    ⟨0x03, 1, .u16, .rw, false, true, false, 250, 50, 500⟩,
    ⟨0x04, 1, .u8, .rw, false, true, false, 80, 50, 95⟩,
    ⟨0x05, 1, .u32, .ro, false, false, false, 0, 0, 0⟩,
    ⟨0x06, 1, .u32, .ro, false, false, false, 0, 0, 0⟩,
    ⟨0x07, 1, .u8, .wo, false, false, false, 0, 0, 255⟩,
    ⟨0x08, 1, .u16, .rw, false, true, false, 0, 0, 50000⟩,
    ⟨0x09, 1, .u16, .rw, false, true, false, 0, 0, 60000⟩,
    ⟨0x0A, 1, .u8, .ro, false, false, false, 0, 0, 0⟩,
    ⟨0x0B, 1, .u64, .ro, false, true, false, 0, 0, 0⟩,
    ⟨0x0C, 1, .u8, .ro, false, false, false, 0, 0, 0⟩]

/-- OD 0x2300+p (p = 0…7), R116. DESIGN CHOICE (log 219): the factory MAC address of 06 is six zero bytes. -/
def od2300 : List OdEntry := [
    ⟨0x00, 1, .u8, .cst, false, false, false, 0x11, 0, 0⟩,
    ⟨0x01, 1, .u8, .rw, false, true, true, 1, 0, 2⟩,
    ⟨0x02, 1, .u8, .rw, false, true, true, 0, 0, 2⟩,
    ⟨0x03, 1, .u8, .ro, false, false, false, 0, 0, 0⟩,
    ⟨0x04, 1, (.vis 223), .rw, true, true, true, 0, 0, 0⟩,
    ⟨0x05, 1, .u8, .rw, false, true, true, 0x03, 0, 255⟩,
    ⟨0x06, 1, (.oct 6), .rw, false, true, true, 0, 0, 0⟩,
    ⟨0x07, 1, (.oct 5), .rw, false, true, true, 0, 0, 0⟩,
    ⟨0x08, 1, (.oct 17), .rw, false, true, true, 0, 0, 0⟩,
    ⟨0x09, 1, .u16, .rw, false, true, true, 0, 0, 65535⟩,
    ⟨0x0A, 1, .u8, .rw, true, true, false, 0, 0, 2⟩,
    ⟨0x0B, 1, .u8, .rw, false, true, true, 2, 0, 2⟩,
    ⟨0x0C, 1, .u8, .rw, false, true, true, 0x08, 0, 255⟩,
    ⟨0x0D, 1, .u16, .rw, false, true, true, 9000, 1500, 9000⟩,
    ⟨0x0E, 1, .u8, .rw, false, false, false, 0, 0, 2⟩,
    ⟨0x0F, 1, (.dom 73728), .ro, false, false, false, 0, 0, 0⟩,
    ⟨0x10, 1, .u16, .rw, false, true, true, 4420, 0, 65535⟩,
    ⟨0x11, 1, (.vis 223), .ro, false, false, false, 0, 0, 0⟩]

/-- OD 0x2320+p (p = 0…7), R117. -/
def od2320 : List OdEntry := [
    ⟨0x00, 1, .u8, .cst, false, false, false, 0x21, 0, 0⟩,
    ⟨0x01, 1, .u64, .ro, false, false, false, 0, 0, 0⟩,
    ⟨0x02, 1, .u64, .ro, false, false, false, 0, 0, 0⟩,
    ⟨0x03, 1, .u64, .ro, false, false, false, 0, 0, 0⟩,
    ⟨0x04, 1, .u64, .ro, false, false, false, 0, 0, 0⟩,
    ⟨0x05, 1, .u64, .ro, false, false, false, 0, 0, 0⟩,
    ⟨0x06, 1, .u64, .ro, false, false, false, 0, 0, 0⟩,
    ⟨0x07, 1, .u64, .ro, false, false, false, 0, 0, 0⟩,
    ⟨0x08, 1, .u64, .ro, false, false, false, 0, 0, 0⟩,
    ⟨0x09, 1, .u64, .ro, false, false, false, 0, 0, 0⟩,
    ⟨0x0A, 1, .u64, .ro, false, false, false, 0, 0, 0⟩,
    ⟨0x0B, 1, .u64, .ro, false, false, false, 0, 0, 0⟩,
    ⟨0x0C, 1, .u64, .ro, false, false, false, 0, 0, 0⟩,
    ⟨0x0D, 1, .u64, .ro, false, false, false, 0, 0, 0⟩,
    ⟨0x0E, 1, .u64, .ro, false, false, false, 0, 0, 0⟩,
    ⟨0x0F, 1, .u64, .ro, false, false, false, 0, 0, 0⟩,
    ⟨0x10, 1, .u64, .ro, false, false, false, 0, 0, 0⟩,
    ⟨0x11, 1, .u64, .ro, false, false, false, 0, 0, 0⟩,
    ⟨0x12, 1, .u64, .ro, false, false, false, 0, 0, 0⟩,
    ⟨0x13, 1, .u64, .ro, false, false, false, 0, 0, 0⟩,
    ⟨0x14, 1, .u64, .ro, false, false, false, 0, 0, 0⟩,
    ⟨0x15, 1, .u64, .ro, false, false, false, 0, 0, 0⟩,
    ⟨0x20, 1, .u32, .ro, false, false, false, 0, 0, 0⟩,
    ⟨0x21, 1, (.oct 168), .ro, false, false, false, 0, 0, 0⟩]

/-- OD 0x2400, R154. -/
def od2400 : List OdEntry := [
    ⟨0x00, 1, .u8, .cst, false, false, false, 0x06, 0, 0⟩,
    ⟨0x01, 1, .u16, .ro, false, false, false, 0, 0, 0⟩,
    ⟨0x02, 1, .u16, .ro, false, false, false, 0, 0, 0⟩,
    ⟨0x03, 1, .u32, .ro, false, false, false, 0, 0, 0⟩,
    ⟨0x04, 1, .u64, .ro, false, false, false, 0, 0, 0⟩,
    ⟨0x05, 1, .u64, .ro, false, false, false, 0, 0, 0⟩,
    ⟨0x06, 1, .u32, .ro, false, false, false, 0, 0, 0⟩]

/-- OD 0x2410, R154. -/
def od2410 : List OdEntry := [
    ⟨0x00, 1, .u8, .cst, false, false, false, 0x08, 0, 0⟩,
    ⟨0x01, 8, .u32, .rw, false, true, false, 0x07030102, 0, 4294967295⟩]

/-- OD 0x2420, R154. -/
def od2420 : List OdEntry := [
    ⟨0x00, 1, .u8, .cst, false, false, false, 0x08, 0, 0⟩,
    ⟨0x01, 8, (.oct 16), .rw, false, true, false, 0xAAAAAAAAAAAAAAAAAAAAAAAAAAAAAAAA, 0, 0⟩]

/-- OD 0x2430, R154. -/
def od2430 : List OdEntry := [
    ⟨0x00, 1, .u8, .cst, false, false, false, 0x08, 0, 0⟩,
    ⟨0x01, 8, .u8, .rw, false, true, false, 1, 1, 16⟩]

/-- OD 0x2440, R154. -/
def od2440 : List OdEntry := [
    ⟨0x00, 1, .u8, .cst, false, false, false, 0x08, 0, 0⟩,
    ⟨0x01, 8, .bool, .rw, false, true, false, 0, 0, 255⟩]

/-- OD 0x2500, R159. -/
def od2500 : List OdEntry := [
    ⟨0x00, 1, .u8, .cst, false, false, false, 0x02, 0, 0⟩,
    ⟨0x01, 1, .u16, .ro, false, false, false, 0, 0, 0⟩,
    ⟨0x02, 1, .u64, .ro, false, false, false, 0, 0, 0⟩]

/-- OD 0x2600, R215. -/
def od2600 : List OdEntry := [
    ⟨0x00, 1, .u8, .cst, false, false, false, 0x0F, 0, 0⟩,
    ⟨0x01, 1, .u32, .cst, false, false, false, 16384, 0, 0⟩,
    ⟨0x02, 1, .u32, .cst, false, false, false, 65536, 0, 0⟩,
    ⟨0x03, 1, .u32, .cst, false, false, false, 262144, 0, 0⟩,
    ⟨0x04, 1, .u64, .cst, false, false, false, 0x0000FFFF00000000, 0, 0⟩,
    ⟨0x05, 1, .u64, .cst, false, false, false, 0x0000FFFE00000000, 0, 0⟩,
    ⟨0x06, 1, .u32, .ro, false, true, false, 0, 0, 0⟩,
    ⟨0x07, 1, .u8, .wo, true, false, false, 0, 0, 255⟩,
    ⟨0x08, 1, .u64, .ro, false, false, false, 0, 0, 0⟩,
    ⟨0x09, 1, .u64, .ro, false, false, false, 0, 0, 0⟩,
    ⟨0x0A, 1, .u64, .ro, false, false, false, 0, 0, 0⟩,
    ⟨0x0B, 1, .u64, .ro, false, false, false, 0, 0, 0⟩,
    ⟨0x0C, 1, .u64, .ro, false, false, false, 0, 0, 0⟩,
    ⟨0x0D, 1, .u64, .ro, false, false, false, 0, 0, 0⟩,
    ⟨0x0E, 1, .u64, .ro, false, false, false, 0, 0, 0⟩,
    ⟨0x0F, 1, .u64, .ro, false, false, false, 0, 0, 0⟩]

/-- OD 0x2640, R217. -/
def od2640 : List OdEntry := [
    ⟨0x00, 1, .u8, .cst, false, false, false, 0x07, 0, 0⟩,
    ⟨0x01, 1, .u16, .rw, false, true, false, 32, 0, 128⟩,
    ⟨0x02, 1, .u8, .rw, false, true, false, 2, 1, 8⟩,
    ⟨0x03, 1, .u16, .rw, false, true, false, 10, 1, 3600⟩,
    ⟨0x04, 1, .u64, .ro, false, false, false, 0, 0, 0⟩,
    ⟨0x05, 1, .u64, .ro, false, false, false, 0, 0, 0⟩,
    ⟨0x06, 1, .u64, .ro, false, false, false, 0, 0, 0⟩,
    ⟨0x07, 1, .u32, .ro, false, false, false, 0, 0, 0⟩]

/-- OD 0x2700, R272. -/
def od2700 : List OdEntry := [
    ⟨0x00, 1, .u8, .cst, false, false, false, 0x08, 0, 0⟩,
    ⟨0x01, 1, .u32, .rw, false, true, false, 1, 1, 65536⟩,
    ⟨0x02, 1, .u64, .ro, false, false, false, 0, 0, 0⟩,
    ⟨0x03, 1, .u64, .ro, false, false, false, 0, 0, 0⟩,
    ⟨0x04, 1, .u64, .ro, false, false, false, 0, 0, 0⟩,
    ⟨0x05, 1, .u32, .ro, false, false, false, 0, 0, 0⟩,
    ⟨0x06, 1, .u64, .ro, false, false, false, 0, 0, 0⟩,
    ⟨0x07, 1, .u64, .ro, false, false, false, 0, 0, 0⟩,
    ⟨0x08, 1, .u64, .ro, false, false, false, 0, 0, 0⟩]

/-- OD 0x2800, R273. -/
def od2800 : List OdEntry := [
    ⟨0x00, 1, .u8, .cst, false, false, false, 0x09, 0, 0⟩,
    ⟨0x01, 1, .u64, .wo, true, false, false, 0, 0, 18446744073709551615⟩,
    ⟨0x02, 1, .u32, .cst, false, false, false, 1048576, 0, 0⟩,
    ⟨0x03, 1, .u64, .ro, false, false, false, 0, 0, 0⟩,
    ⟨0x04, 1, .u8, .ro, false, false, false, 0, 0, 0⟩,
    ⟨0x05, 1, .u16, .ro, false, false, false, 0, 0, 0⟩,
    ⟨0x06, 1, .u64, .ro, false, false, false, 0, 0, 0⟩,
    ⟨0x07, 1, .u64, .ro, false, false, false, 0, 0, 0⟩,
    ⟨0x08, 1, .u32, .ro, false, false, false, 0, 0, 0⟩,
    ⟨0x09, 1, .u8, .rw, true, true, false, 90, 50, 99⟩]

/-- OD 0x2900, R311. -/
def od2900 : List OdEntry := [
    ⟨0x00, 1, .u8, .cst, false, false, false, 0x13, 0, 0⟩,
    ⟨0x01, 1, .u8, .rw, false, true, false, 3, 2, 10⟩,
    ⟨0x02, 1, .u16, .rw, false, true, false, 5, 1, 100⟩,
    ⟨0x03, 1, .u16, .rw, false, true, false, 20, 5, 200⟩,
    ⟨0x04, 1, .u16, .rw, false, true, false, 50, 10, 500⟩,
    ⟨0x05, 1, .u16, .rw, false, true, false, 1000, 10, 10000⟩,
    ⟨0x06, 1, .u8, .rw, false, true, false, 20, 5, 80⟩,
    ⟨0x07, 1, .u64, .ro, false, false, false, 0, 0, 0⟩,
    ⟨0x08, 1, .u64, .ro, false, false, false, 0, 0, 0⟩,
    ⟨0x09, 1, .u64, .ro, false, false, false, 0, 0, 0⟩,
    ⟨0x0A, 1, .u64, .ro, false, false, false, 0, 0, 0⟩,
    ⟨0x0B, 1, .u64, .ro, false, false, false, 0, 0, 0⟩,
    ⟨0x0C, 1, .u32, .ro, false, false, false, 0, 0, 0⟩,
    ⟨0x0D, 1, .u8, .ro, false, false, false, 0, 0, 0⟩,
    ⟨0x0E, 1, .u64, .ro, false, false, false, 0, 0, 0⟩,
    ⟨0x0F, 1, .u8, .ro, false, false, false, 0x0F, 0, 0⟩,
    ⟨0x10, 1, .u8, .ro, false, false, false, 0, 0, 0⟩,
    ⟨0x11, 1, .u16, .cst, false, false, false, 64, 0, 0⟩,
    ⟨0x12, 1, .u8, .wo, true, false, false, 0, 0, 255⟩,
    ⟨0x13, 1, .u16, .rw, false, true, false, 1000, 100, 10000⟩]

/-- OD 0x2A00, R356. -/
def od2A00 : List OdEntry := [
    ⟨0x00, 1, .u8, .cst, false, false, false, 0x12, 0, 0⟩,
    ⟨0x01, 1, .u16, .rw, false, true, false, 192, 16, 512⟩,
    ⟨0x02, 1, .u16, .rw, false, true, false, 500, 50, 10000⟩,
    ⟨0x03, 1, .u8, .rw, false, true, false, 25, 10, 50⟩,
    ⟨0x04, 1, .u8, .rw, true, true, false, 2, 1, 31⟩,
    ⟨0x05, 1, .u8, .rw, false, true, false, 50, 10, 90⟩,
    ⟨0x06, 1, .u8, .rw, false, true, false, 25, 5, 75⟩,
    ⟨0x07, 1, .u8, .rw, false, true, false, 10, 5, 50⟩,
    ⟨0x08, 1, .u8, .ro, false, false, false, 0, 0, 0⟩,
    ⟨0x09, 1, .u32, .ro, false, false, false, 0, 0, 0⟩,
    ⟨0x0A, 1, .u64, .ro, false, false, false, 0, 0, 0⟩,
    ⟨0x0B, 1, .u64, .ro, false, false, false, 0, 0, 0⟩,
    ⟨0x0C, 1, .u64, .ro, false, false, false, 0, 0, 0⟩,
    ⟨0x0D, 1, .u64, .ro, false, false, false, 0, 0, 0⟩,
    ⟨0x0E, 1, .u64, .ro, false, false, false, 0, 0, 0⟩,
    ⟨0x0F, 1, .u64, .ro, false, false, false, 0, 0, 0⟩,
    ⟨0x10, 1, .u32, .ro, false, true, false, 0, 0, 0⟩,
    ⟨0x11, 1, .u64, .ro, false, false, false, 0, 0, 0⟩,
    ⟨0x12, 1, .u32, .ro, false, false, false, 0, 0, 0⟩]

/-- OD 0x2A10, R357. -/
def od2A10 : List OdEntry := [
    ⟨0x00, 1, .u8, .cst, false, false, false, 0x03, 0, 0⟩,
    ⟨0x01, 1, .u8, .rw, false, true, false, 10, 3, 30⟩,
    ⟨0x02, 1, .u8, .rw, false, true, false, 4, 2, 29⟩,
    ⟨0x03, 1, .u16, .rw, false, true, false, 24, 8, 256⟩]

/-- OD 0x2A20, R358. -/
def od2A20 : List OdEntry := [
    ⟨0x00, 1, .u8, .cst, false, false, false, 0x05, 0, 0⟩,
    ⟨0x01, 1, .u32, .ro, false, false, false, 0, 0, 0⟩,
    ⟨0x02, 1, .u32, .ro, false, false, false, 0, 0, 0⟩,
    ⟨0x03, 1, .u8, .cst, false, false, false, 7, 0, 0⟩,
    ⟨0x04, 1, .u64, .ro, false, false, false, 0, 0, 0⟩,
    ⟨0x05, 1, .u32, .ro, false, true, false, 0, 0, 0⟩]

/-- OD 0x2B00, R241. -/
def od2B00 : List OdEntry := [
    ⟨0x00, 1, .u8, .cst, false, false, false, 0x08, 0, 0⟩,
    ⟨0x01, 1, .u8, .ro, false, false, false, 0, 0, 0⟩,
    ⟨0x02, 1, .u64, .ro, false, false, false, 0, 0, 0⟩,
    ⟨0x03, 1, .u64, .ro, false, false, false, 0, 0, 0⟩,
    ⟨0x04, 1, .u16, .rw, false, true, false, 64, 1, 512⟩,
    ⟨0x05, 1, .u16, .wo, true, false, false, 0, 0, 65535⟩,
    ⟨0x06, 1, .u16, .ro, false, false, false, 0, 0, 0⟩,
    ⟨0x07, 1, .u32, .ro, false, false, false, 0, 0, 0⟩,
    ⟨0x08, 1, .u32, .ro, false, true, false, 0, 0, 0⟩]

/-- OD 0x2C00, R426. -/
def od2C00 : List OdEntry := [
    ⟨0x00, 1, .u8, .cst, false, false, false, 0x0A, 0, 0⟩,
    ⟨0x01, 1, .u32, .rw, false, true, false, 16000, 8000, 800000⟩,
    ⟨0x02, 1, .u64, .ro, false, false, false, 0, 0, 0⟩,
    ⟨0x03, 1, .u32, .cst, false, false, false, 800000, 0, 0⟩,
    ⟨0x04, 1, .u32, .rw, false, true, false, 80000, 16000, 8000000⟩,
    ⟨0x05, 1, .u16, .ro, false, false, false, 0, 0, 0⟩,
    ⟨0x06, 1, .u64, .ro, false, false, false, 0, 0, 0⟩,
    ⟨0x07, 1, .u32, .ro, false, false, false, 0, 0, 0⟩,
    ⟨0x08, 1, .u32, .rw, false, true, false, 160000000, 40000000, 1600000000⟩,
    ⟨0x09, 1, .u8, .cst, false, false, false, 8, 0, 0⟩,
    ⟨0x0A, 1, .u32, .ro, false, false, false, 0, 0, 0⟩]

/-- OD 0x2D00, R459. -/
def od2D00 : List OdEntry := [
    ⟨0x00, 1, .u8, .cst, false, false, false, 0x0C, 0, 0⟩,
    ⟨0x01, 1, .u8, .ro, false, false, false, 0, 0, 0⟩,
    ⟨0x02, 1, .u8, .ro, false, false, false, 0, 0, 0⟩,
    ⟨0x03, 1, .u64, .ro, false, false, false, 0, 0, 0⟩,
    ⟨0x04, 1, .u64, .ro, false, false, false, 0, 0, 0⟩,
    ⟨0x05, 1, .u16, .rw, false, true, false, 10000, 1000, 60000⟩,
    ⟨0x06, 1, .u8, .ro, false, false, false, 0, 0, 0⟩,
    ⟨0x07, 1, .u8, .cst, false, false, false, 60, 0, 0⟩,
    ⟨0x08, 1, .u64, .ro, false, false, false, 0, 0, 0⟩,
    ⟨0x09, 1, .u64, .ro, false, false, false, 0, 0, 0⟩,
    ⟨0x0A, 1, .u32, .ro, false, true, false, 0, 0, 0⟩,
    ⟨0x0B, 1, .u32, .ro, false, false, false, 0, 0, 0⟩,
    ⟨0x0C, 1, .bool, .rw, false, true, false, 1, 0, 255⟩]

/-- OD 0x2D10, R460. -/
def od2D10 : List OdEntry := [
    ⟨0x01, 16, .u8, .ro, false, false, false, 0xF0, 0, 0⟩]

/-- OD 0x2D18, R460. -/
def od2D18 : List OdEntry := [
    ⟨0x01, 16, .u8, .rw, true, true, false, 0xF0, 0, 255⟩]

/-- OD 0x2D20, R43. -/
def od2D20 : List OdEntry := [
    ⟨0x01, 1, .u8, .rw, false, true, false, 0, 0, 1⟩]

/-- OD 0x2D30, R460. -/
def od2D30 : List OdEntry := [
    ⟨0x01, 1, (.oct 512), .ro, false, false, false, 0, 0, 0⟩,
    ⟨0x02, 1, .u64, .ro, false, false, false, 0, 0, 0⟩]

/-- OD 0x2D40, R461. -/
def od2D40 : List OdEntry := [
    ⟨0x00, 1, .u8, .cst, false, false, false, 0x05, 0, 0⟩,
    ⟨0x01, 1, .u8, .ro, false, false, false, 0, 0, 0⟩,
    ⟨0x02, 1, .u8, .rw, true, false, false, 0, 1, 3⟩,
    ⟨0x03, 1, .u64, .ro, false, false, false, 0, 0, 0⟩,
    ⟨0x04, 1, .u16, .cst, false, false, false, 1000, 0, 0⟩,
    ⟨0x05, 1, .u16, .cst, false, false, false, 3000, 0, 0⟩]

/-- OD 0x2E00, R582. -/
def od2E00 : List OdEntry := [
    ⟨0x00, 1, .u8, .cst, false, false, false, 0x0A, 0, 0⟩,
    ⟨0x01, 1, .u8, .rw, false, true, false, 0x3F, 0, 255⟩,
    ⟨0x02, 1, .u8, .rw, false, true, true, 25, 16, 50⟩,
    ⟨0x03, 1, .u8, .rw, false, true, false, 60, 30, 100⟩,
    ⟨0x04, 1, .u8, .rw, false, true, false, 95, 30, 110⟩,
    ⟨0x05, 1, .u8, .rw, false, true, false, 40, 20, 80⟩,
    ⟨0x06, 1, .u8, .rw, false, true, false, 70, 20, 90⟩,
    ⟨0x07, 1, .u8, .rw, false, true, false, 30, 15, 100⟩,
    ⟨0x08, 1, .u8, .rw, false, true, false, 25, 0, 100⟩,
    ⟨0x09, 1, .u8, .ro, false, false, false, 0, 0, 0⟩,
    ⟨0x0A, 1, .u8, .ro, false, false, false, 0, 0, 0⟩]

/-- OD 0x2E10, R582. -/
def od2E10 : List OdEntry := [
    ⟨0x01, 6, (.oct 16), .rw, false, true, true, fanConfigDefault, 0, 0⟩]

/-- OD 0x2E20, R582. -/
def od2E20 : List OdEntry := [
    ⟨0x01, 6, .u64, .ro, false, false, false, 0, 0, 0⟩]

/-- OD 0x2E30, R582. -/
def od2E30 : List OdEntry := [
    ⟨0x01, 6, .u16, .rw, false, false, false, 0, 0, 65535⟩]

/-- OD 0x2F00, R600. -/
def od2F00 : List OdEntry := [
    ⟨0x00, 1, .u8, .cst, false, false, false, 0x07, 0, 0⟩,
    ⟨0x01, 1, .u8, .ro, false, false, false, 0, 0, 0⟩,
    ⟨0x02, 1, .u8, .ro, false, false, false, 0, 0, 0⟩,
    ⟨0x03, 1, .u8, .ro, false, false, false, 0, 0, 0⟩,
    ⟨0x04, 1, .u32, .ro, false, false, false, 0, 0, 0⟩,
    ⟨0x05, 1, .u32, .ro, false, true, false, 0, 0, 0⟩,
    ⟨0x06, 1, .u8, .wo, true, false, false, 0, 0, 255⟩,
    ⟨0x07, 1, .u32, .ro, false, true, false, 0, 0, 0⟩]

/-- OD 0x2F10, R600. -/
def od2F10 : List OdEntry := [
    ⟨0x00, 1, .u8, .cst, false, false, false, 0x04, 0, 0⟩,
    ⟨0x01, 1, .u32, .wo, false, false, false, 0, 0, 4294967295⟩,
    ⟨0x02, 1, .u16, .rw, true, true, false, 300, 60, 3600⟩,
    ⟨0x03, 1, .bool, .rw, true, true, false, 0, 0, 255⟩,
    ⟨0x04, 1, .u16, .ro, false, false, false, 0, 0, 0⟩]

/-- OD 0x2F20, R517. -/
def od2F20 : List OdEntry := [
    ⟨0x00, 1, .u8, .cst, false, false, false, 0x0C, 0, 0⟩,
    ⟨0x01, 1, (.oct 48), .ro, false, false, false, 0, 0, 0⟩,
    ⟨0x02, 1, (.oct 48), .ro, false, false, false, 0, 0, 0⟩,
    ⟨0x03, 1, .u32, .ro, false, false, false, 0, 0, 0⟩,
    ⟨0x04, 1, .u32, .ro, false, true, false, 0, 0, 0⟩,
    ⟨0x05, 1, .u8, .ro, false, false, false, 0, 0, 0⟩,
    ⟨0x06, 1, .u8, .wo, true, false, false, 0, 0, 255⟩,
    ⟨0x07, 1, .bool, .rw, true, true, false, 0, 0, 255⟩,
    ⟨0x08, 1, .u16, .rw, false, true, false, 100, 10, 1000⟩,
    ⟨0x09, 1, .u32, .ro, false, false, false, 0, 0, 0⟩,
    ⟨0x0A, 1, .u32, .ro, false, false, false, 0, 0, 0⟩,
    ⟨0x0B, 1, .u64, .ro, false, false, false, 0, 0, 0⟩,
    ⟨0x0C, 1, .u8, .ro, false, false, false, 0, 0, 0⟩]

/-- OD 0x2F28, R517. -/
def od2F28 : List OdEntry := [
    ⟨0x00, 1, (.dom 131072), .wo, true, true, false, 0, 0, 0⟩]

/-- OD 0x2F30, R518: engines 0…63. -/
def od2F30 : List OdEntry := [
    ⟨0x01, 64, .u32, .ro, false, false, false, 0, 0, 0⟩]

/-- OD 0x3000, R600. -/
def od3000 : List OdEntry := [
    ⟨0x00, 1, .u8, .cst, false, false, false, 0x02, 0, 0⟩,
    ⟨0x01, 1, (.dom 1099511627776), .ro, true, false, false, 0, 0, 0⟩,
    ⟨0x02, 1, .u32, .ro, false, true, false, 0, 0, 0⟩]

/-- OD 0x3100, R176. -/
def od3100 : List OdEntry := [
    ⟨0x00, 1, .u8, .cst, false, false, false, 0x40, 0, 0⟩,
    ⟨0x01, 64, .u64, .ro, false, false, false, 0, 0, 0⟩]

/-- OD 0x3200, R538. -/
def od3200 : List OdEntry := [
    ⟨0x00, 1, .u8, .cst, false, false, false, 0x07, 0, 0⟩,
    ⟨0x01, 1, .u32, .ro, false, false, false, 0, 0, 0⟩,
    ⟨0x02, 1, (.oct 96), .cst, false, false, false, 0, 0, 0⟩,
    ⟨0x03, 1, (.oct 96), .cst, false, false, false, 0, 0, 0⟩,
    ⟨0x04, 1, (.oct 48), .ro, false, false, false, 0, 0, 0⟩,
    ⟨0x05, 1, .u8, .ro, false, false, false, 0, 0, 0⟩,
    ⟨0x06, 1, .u64, .ro, false, false, false, 0, 0, 0⟩,
    ⟨0x07, 1, .u8, .ro, false, false, false, 0, 0, 0⟩]

/-- OD 0x3210, R93. -/
def od3210 : List OdEntry := [
    ⟨0x01, 1, (.oct 32), .ro, false, false, false, 0, 0, 0⟩,
    ⟨0x02, 1, (.oct 96), .wo, false, false, false, 0, 0, 0⟩,
    ⟨0x03, 1, .u8, .rw, false, false, false, 0, 0, 0⟩,
    ⟨0x04, 1, .u16, .rw, true, true, false, 300, 10, 3600⟩]

/-- OD 0x3220, R539. -/
def od3220 : List OdEntry := [
    ⟨0x00, 1, .u8, .cst, false, false, false, 0x13, 0, 0⟩,
    ⟨0x01, 1, (.oct 248), .wo, true, false, false, 0, 0, 0⟩,
    ⟨0x02, 1, .u8, .wo, true, false, false, 0, 0, 255⟩,
    ⟨0x03, 1, .u16, .ro, false, false, false, 0, 0, 0⟩,
    ⟨0x04, 1, .u16, .ro, false, false, false, 0, 0, 0⟩,
    ⟨0x05, 15, (.oct 96), .ro, false, false, false, 0, 0, 0⟩]

/-- OD 0x3240, R539. -/
def od3240 : List OdEntry := [
    ⟨0x00, 1, .u8, .cst, false, false, false, 0x03, 0, 0⟩,
    ⟨0x01, 1, .bool, .rw, true, true, false, 0, 0, 255⟩,
    ⟨0x02, 1, .u8, .rw, true, true, false, 0x01, 0, 255⟩,
    ⟨0x03, 1, .u8, .ro, false, false, false, 0, 0, 0⟩]

/-- OD 0x3300, R483. -/
def od3300 : List OdEntry := [
    ⟨0x00, 1, .u8, .cst, false, false, false, 0x07, 0, 0⟩,
    ⟨0x01, 1, .u16, .ro, false, false, false, 0, 0, 0⟩,
    ⟨0x02, 1, .u64, .ro, false, false, false, 0, 0, 0⟩,
    ⟨0x03, 1, .u64, .ro, false, false, false, 0, 0, 0⟩,
    ⟨0x04, 1, .u32, .ro, false, false, false, 0, 0, 0⟩,
    ⟨0x05, 1, .u64, .ro, false, false, false, 0, 0, 0⟩,
    ⟨0x06, 1, .u64, .ro, false, false, false, 0, 0, 0⟩,
    ⟨0x07, 1, .u16, .wo, true, false, false, 0, 0, 65535⟩]

/-- OD 0x3330, R485. -/
def od3330 : List OdEntry := [
    ⟨0x01, 16, (.vis 223), .rw, true, true, true, 0, 0, 0⟩]

/-- OD 0x3400, R395. -/
def od3400 : List OdEntry := [
    ⟨0x00, 1, .u8, .cst, false, false, false, 0x0C, 0, 0⟩,
    ⟨0x01, 1, .u8, .rw, false, true, false, 10, 5, 50⟩,
    ⟨0x02, 1, .u8, .rw, false, true, false, 80, 50, 100⟩,
    ⟨0x03, 1, .u16, .rw, false, true, false, 30, 1, 365⟩,
    ⟨0x04, 1, .u16, .rw, true, true, false, 1100, 500, 1500⟩,
    ⟨0x05, 1, .u32, .rw, false, true, false, 720, 0, 87600⟩,
    ⟨0x06, 1, .u64, .ro, false, false, false, 0, 0, 0⟩,
    ⟨0x07, 1, .u64, .ro, false, false, false, 0, 0, 0⟩,
    ⟨0x08, 1, .u64, .ro, false, false, false, 0, 0, 0⟩,
    ⟨0x09, 1, .u64, .ro, false, false, false, 0, 0, 0⟩,
    ⟨0x0A, 1, .u64, .ro, false, false, false, 0, 0, 0⟩,
    ⟨0x0B, 1, .u16, .ro, false, false, false, 0, 0, 0⟩,
    ⟨0x0C, 1, .u8, .ro, false, false, false, 0, 0, 0⟩]

/-- OD 0x3410, R396. -/
def od3410 : List OdEntry := [
    ⟨0x01, 1, (.oct 144), .rw, false, false, false, 0, 0, 0⟩,
    ⟨0x02, 1, .u8, .ro, false, false, false, 0, 0, 0⟩]

/-- OD 0x3420, R396. -/
def od3420 : List OdEntry := [
    ⟨0x01, 8, .u32, .rw, true, true, false, 0, 0, 4294967295⟩]

/-- OD 0x3430, R396; R62 and R380 make it persistent. -/
def od3430 : List OdEntry := [
    ⟨0x00, 1, (.dom 1048608), .ro, false, true, false, 0, 0, 0⟩]

/-- OD 0x3440, R397. -/
def od3440 : List OdEntry := [
    ⟨0x01, 4, (.dom 65536), .rw, true, true, true, 0, 0, 0⟩]

/-- OD 0x3448, R397. -/
def od3448 : List OdEntry := [
    ⟨0x01, 16, .u8, .rw, true, true, true, 0xFF, 0, 255⟩]

/-- OD 0x3460, R397. -/
def od3460 : List OdEntry := [
    ⟨0x01, 16, .u16, .rw, false, true, false, 1600, 100, 10000⟩,
    ⟨0x11, 1, .u8, .cst, false, false, false, 75, 0, 0⟩,
    ⟨0x12, 1, .u8, .rw, false, true, false, 128, 16, 255⟩,
    ⟨0x13, 1, .u64, .ro, false, false, false, 0, 0, 0⟩]

/-- OD 0x1800 to 0x1803, TPDO communication in the CiA 301 layout (R82); subindex 2, the transmission type, is
PRESUMED from CiA 301 (log 7). The defaults that depend on the node-ID and the TPDO are in `odDefault`. -/
def od1800 : List OdEntry := [
    ⟨0x01, 1, .u32, .rw, false, true, false, 0, 0, 4294967295⟩,
    ⟨0x02, 1, .u8, .rw, false, true, false, 254, 0, 255⟩,
    ⟨0x03, 1, .u16, .rw, false, true, false, 0, 0, 65535⟩,
    ⟨0x05, 1, .u16, .rw, false, true, false, 0, 0, 65535⟩]

/-- OD 0x1A00 to 0x1A03, TPDO mapping in the CiA 301 layout (R81, R82). -/
def od1A00 : List OdEntry := [
    ⟨0x00, 1, .u8, .rw, false, true, false, 0, 0, 64⟩,
    ⟨0x01, 64, .u32, .rw, false, true, false, 0, 0, 4294967295⟩]

/-- A window object with records of `n` bytes (R69): the record takes the given access and modifiers, and the other
subindices take S when the record does. -/
def odWindow (n : Nat) (acc : OdAccess) (s p : Bool) (count : Nat) : List OdEntry := [
    ⟨0x00, 1, .u8, .cst, s, false, false, 5, 0, 0⟩,
    ⟨0x01, 1, .u32, .rw, s, false, false, 0, 0, 4294967295⟩,
    ⟨0x02, 1, .oct n, acc, s, p, false, 0, 0, 0⟩,
    ⟨0x03, 1, .u32, .cst, s, false, false, count, 0, 0⟩,
    ⟨0x04, 1, .u8, .rw, s, false, false, 0, 0, 1⟩,
    ⟨0x05, 1, .u32, .ro, s, false, false, 0, 0, 0⟩]

/-- The window objects (R69): index, entries, record bytes, access, S, P. -/
def odWindows : List (Nat × Nat × Nat × OdAccess × Bool × Bool) := [
    (0x2510, 1024, 16, .rw, true, true),
    (0x2610, 512, 8, .rw, true, true),
    (0x2620, 1024, 16, .rw, true, true),
    (0x2630, 1024, 4, .rw, true, true),
    (0x2810, 4096, 32, .ro, true, false),
    (0x2920, 65536, 48, .ro, false, false),
    (0x2B20, 131072, 48, .rw, true, true),
    (0x2C10, 4096, 32, .rw, true, false),
    (0x3310, 4096, 32, .ro, false, false)]

/-- The record's entry count when an index is a window. -/
def windowCount (idx : Nat) : Option Nat := (odWindows.find? fun w => w.1 == idx).map fun w => w.2.1

/-- OD 0x2910:01…1F, the stripe class records (R312); the defaults are in `odDefault`. -/
def od2910 : List OdEntry := [⟨0x01, 31, .u32, .rw, true, true, false, 0, 0, 4294967295⟩]

/-- OD 0x2A30:00, the wear spread limit (R359). -/
def od2A30 : List OdEntry := [⟨0x00, 1, .u32, .rw, false, true, false, 200, 50, 10000⟩]

/-- OD 0x2B10:01…10, the search partition table (R242). -/
def od2B10 : List OdEntry := [⟨0x01, 16, .u32, .rw, true, true, true, 0, 0, 4294967295⟩]

/-- OD 0x3320:01…10, replication session configurations (R485). -/
def od3320 : List OdEntry :=
  [⟨0x01, 16, .oct 64, .rw, true, true, true, 4420 * 2 ^ 304 + 60 * 2 ^ 288 + 15 * 2 ^ 20, 0, 0⟩]

/-- OD 0x3340:01…10, replication session status (R486). -/
def od3340 : List OdEntry := [⟨0x01, 16, .oct 64, .ro, false, false, false, 0, 0, 0⟩]

/-- OD 0x3230, R523: the region descriptors. -/
def od3230 : List OdEntry := [⟨0x01, 64, .u64, .ro, false, false, false, 0, 0, 0⟩]

/-- The objects with an index of their own, windows and port objects apart. -/
def odObjects : List (Nat × List OdEntry) := [
    (0x1000, od1000), (0x1001, od1001), (0x1011, od1011), (0x1014, od1014), (0x1015, od1015), 
    (0x1016, od1016), (0x1017, od1017), (0x1018, od1018), (0x2000, od2000), (0x2010, od2010), 
    (0x2100, od2100), (0x2200, od2200), (0x2210, od2210), (0x2220, od2220), (0x2230, od2230), 
    (0x2240, od2240), (0x2400, od2400), (0x2410, od2410), (0x2420, od2420), (0x2430, od2430), 
    (0x2440, od2440), (0x2500, od2500), (0x2600, od2600), (0x2640, od2640), (0x2700, od2700), 
    (0x2800, od2800), (0x2900, od2900), (0x2910, od2910), (0x2A00, od2A00), (0x2A10, od2A10), 
    (0x2A20, od2A20), (0x2A30, od2A30), (0x2B00, od2B00), (0x2B10, od2B10), (0x2C00, od2C00), 
    (0x2D00, od2D00), (0x2D10, od2D10), (0x2D18, od2D18), (0x2D20, od2D20), (0x2D30, od2D30), 
    (0x2D40, od2D40), (0x2E00, od2E00), (0x2E10, od2E10), (0x2E20, od2E20), (0x2E30, od2E30), 
    (0x2F00, od2F00), (0x2F10, od2F10), (0x2F20, od2F20), (0x2F28, od2F28), (0x2F30, od2F30), (0x3000, od3000), 
    (0x3100, od3100), (0x3200, od3200), (0x3210, od3210), (0x3220, od3220), (0x3230, od3230), (0x3240, od3240), 
    (0x3300, od3300), (0x3320, od3320), (0x3330, od3330), (0x3340, od3340), (0x3400, od3400), 
    (0x3410, od3410), (0x3420, od3420), (0x3430, od3430), (0x3440, od3440), (0x3448, od3448), 
    (0x3460, od3460)]

/-- The rows of an object; none outside the dictionary (R57). -/
def odObject (idx : Nat) : List OdEntry :=
  if 0x2300 ≤ idx ∧ idx ≤ 0x2307 then od2300
  else if 0x2320 ≤ idx ∧ idx ≤ 0x2327 then od2320
  else if 0x1800 ≤ idx ∧ idx ≤ 0x1803 then od1800
  else if 0x1A00 ≤ idx ∧ idx ≤ 0x1A03 then od1A00
  else match odObjects.find? fun o => o.1 == idx with
    | some o => o.2
    | none =>
      match odWindows.find? fun w => w.1 == idx with
      | some (_, count, n, acc, s, p) => odWindow n acc s p count
      | none => []

/-- The highest subindex of an object. -/
def odHighest (es : List OdEntry) : Nat := es.foldl (fun m e => max m (e.sub + e.span - 1)) 0

/-- The entry at an index and subindex. Subindex 0x00 of an object with further subindices is the constant "highest
subindex supported" (R56). -/
def odEntry? (idx sub : Nat) : Option OdEntry :=
  let es := odObject idx
  match es.find? fun e => e.sub ≤ sub ∧ sub < e.sub + e.span with
  | some e => some e
  | none =>
    if sub == 0 && !es.isEmpty then
      some ⟨0, 1, .u8, .cst, false, false, false, odHighest es, 0, 0⟩
    else none

/-- Persistent entries of the dictionary: each subindex with P, a window's record once (the detail of event 0x0301, R95). -/
def persistentEntries : Nat :=
  let count := fun es : List OdEntry => ((es.filter (·.p)).map (·.span)).sum
  (odObjects.map fun o => count o.2).sum + 8 * count od2300 + 8 * count od2320 + 4 * count od1800 + 4 * count od1A00 +
    (odWindows.map fun (_, n, size, acc, s, p) => count (odWindow size acc s p n)).sum

end Sys2Proof.Machine
end

