-- ==== Sys2Proof/Machine/StateBase.lean ====
section
/-! DEFINITION. State of the dictionary, CAN FD, host ports, queues of outputs, administration, timebase and
departure board: chapters 3, 4, 6 and 13 of the manual. -/

namespace Sys2Proof.Machine

/-! ## What leaves the device -/

/-- An NVMe status: status code type, status code, do-not-retry. -/
structure Status where
  sct : Nat
  sc : Nat
  dnr : Bool
  deriving DecidableEq, Repr

/-- The outcome of a dictionary access: done, aborted with a CANopen code, or confirmed later (R188, R421). -/
inductive OdStatus where
  | ok
  | abort (code : Nat)
  | held
  deriving DecidableEq, Repr

/-- Where the answer of a dictionary access goes; `bytes`: those that a Parameter Write carried (R88). -/
inductive ReplyTo where
  | accessor (a : Accessor)
  | completion (q : QueueRef) (tag : CmdTag) (bytes : Nat)
  deriving DecidableEq, Repr

/-- Messages on CAN FD (R73 to R81). -/
inductive CanMsg where
  | bootUp
  | heartbeat (nmt : Nat)
  | emcy (code register event tick : Nat)
  | tpdo (n : Nat) (data : Bytes)
  | usdoAbort (node : Nat) (code : Nat)
  deriving DecidableEq, Repr

/-- Flow control that a completion carries: the queue's head pointer, and the free slots, which bound the TCP receive window and the RoCEv2
credits of the queue (R107, R140); whether the response is a Send with Invalidate (R114). -/
structure Flow where
  sqhd : Nat
  credit : Nat
  inval : Bool
  deriving DecidableEq, Repr

/-- Frames that a port sends of itself (R100, R105, R108, R113 to R115, R402); requests for a command's data and RDMA Writes name the queue
and the command. -/
inductive PortFrame where
  | arpReply (target : Nat)
  | echoReply (data : Bytes)
  | pause (quanta : Nat)
  | pfc (priorities quanta : Nat)
  | cnp (qp : Nat)
  | icResp (hdrDigest dataDigest : Bool) (hpda maxh2c : Nat)
  | icRefused
  | roceAccept (qp : Nat)
  | roceReject
  | roceNak (qp : Nat)
  | tcpReset
  | r2t (q : QueueRef) (cid off len : Nat)
  | rdmaRead (q : QueueRef) (cid off len : Nat)
  | rdmaWrite (q : QueueRef) (cid len : Nat)
  | delayReq (unicast : Bool) (master : Nat)
  deriving DecidableEq, Repr

/-- Everything that leaves the device, oldest first. The list is the model's own record of it (log 5). -/
inductive Output where
  | completion (q : QueueRef) (cid : Nat) (st : Status) (dw0 dw1 : Nat) (data : Bytes) (flow : Flow)
  | od (a : Accessor) (idx sub : Nat) (st : OdStatus) (data : Bytes)
  | can (m : CanMsg)
  | port (p : Nat) (f : PortFrame)
  | link (cls : Nat) (m : LinkMsg)
  /-- A message of a replication session to its remote; `rdma`: over NVMe/RDMA, otherwise NVMe/TCP (R115, R477). -/
  | remote (session : Nat) (rdma : Bool) (m : RemoteMsg)
  | toCpu (a b : Nat)
  /-- A command to a die: 0 read at a threshold entry, 1 program with the page header (R318), 2 erase. -/
  | flash (kind : Nat) (d : MemberDesc) (entry : Nat) (header : Bytes)
  deriving DecidableEq, Repr

/-! ## Dictionary (chapter 3) -/

/-- One of the two persistent copies (R61). -/
structure NvCopy where
  seq : Nat
  valid : Bool
  cells : Tbl Nat
  deriving DecidableEq, Repr

/-- A window cursor: Select and Step (R69, R70). -/
structure Cursor where
  acc : Accessor
  win : Nat
  select : Nat
  step : Nat
  deriving DecidableEq, Repr

/-- An open assembly of Parameter Write parts (R86, R87). -/
structure Assembly where
  acc : Accessor
  idx : Nat
  sub : Nat
  bytes : Bytes
  last : Nat
  deriving DecidableEq, Repr

/-- A DOMAIN value that an accessor reads in parts (R64): the version that its parts so far reflect. -/
structure DomainRead where
  acc : Accessor
  idx : Nat
  sub : Nat
  value : Bytes
  deriving DecidableEq, Repr

/-- A live challenge of an accessor (R90). -/
structure Challenge where
  acc : Accessor
  value : Bytes
  readAt : Nat
  deriving DecidableEq, Repr

/-- An open secure session (R89, R92, R531): the last access to an S entry and the owner record that opened it. -/
structure Session where
  acc : Accessor
  last : Nat
  record : Nat
  deriving DecidableEq, Repr

/-- Failed responses of a way and its lockout (R91). -/
structure WayLock where
  failures : Nat
  until? : Option Nat
  deriving DecidableEq, Repr

/-- A shared write that waits for the peer (R188, R421). -/
structure HeldWrite where
  reqId : Nat
  acc : Accessor
  reply : ReplyTo
  idx : Nat
  sub : Nat
  sel : Nat
  data : Bytes
  entry : Option Nat
  deriving DecidableEq, Repr

structure DictState where
  /-- Current values that differ from the default, by index × 256 + subindex (R55). -/
  cells : Tbl Nat
  /-- The two alternating persistent copies (R61). -/
  nvA : NvCopy
  nvB : NvCopy
  /-- The xSPI NOR programs and reads back correctly (R61). -/
  nvWorks : Bool
  /-- "load" was written; P entries are restored at the next release of PORST_N (R62). -/
  restoreMarked : Bool
  cursors : List Cursor
  /-- Table version of each window (R69), by index. -/
  versions : Tbl Nat
  assemblies : List Assembly
  domains : List DomainRead
  challenges : List Challenge
  sessions : List Session
  lockCan : WayLock
  lockBand : WayLock
  held : List HeldWrite
  nextReq : Nat
  deriving DecidableEq, Repr

/-! ## CAN FD (R73 to R81) -/

inductive NmtState where
  | silent | preOperational | operational | stopped
  deriving DecidableEq, Repr

/-- A USDO transfer under way, one per client node (R77): a download that waits for its confirmation. -/
structure UsdoTransfer where
  node : Nat
  idx : Nat
  sub : Nat
  last : Nat
  deriving DecidableEq, Repr

structure Emcy where
  code : Nat
  event : Nat
  tick : Nat
  deriving DecidableEq, Repr

structure CanState where
  nmt : NmtState
  held : List Emcy
  /-- When the inhibit time of the last EMCY ends (R79). -/
  inhibitUntil : Nat
  /-- Conditions that raised an EMCY and stand (R79, code 0x0000 when none is left). -/
  conditions : List Nat
  droppedSinceEvent : Nat
  dropEventAt : Option Nat
  heartbeatTimeout : Bool
  lastHeartbeat : Nat
  errorPassive : Bool
  transfers : List UsdoTransfer
  /-- Values last sent and the time, per TPDO (R81). -/
  tpdoSent : List (Bytes × Nat)
  /-- CAN FD bit rates in force: codes of OD 0x2000:06 and :07 (R76). -/
  nominalRate : Nat
  dataRate : Nat
  /-- When the last heartbeat went out, or the producer began (R78). -/
  heartbeatSent : Nat
  deriving DecidableEq, Repr

/-! ## Host ports (chapter 4) -/

/-- A record of the capture ring (R104). -/
structure CaptureRecord where
  tick : Nat
  length : Nat
  status : Nat
  data : Bytes
  deriving DecidableEq, Repr

structure Port where
  link : Nat
  /-- SerDes lanes powered, from lane 0; the transmitters of the others are in electrical idle (R96, R98, R99). -/
  lanes : Nat
  rxFill : Nat
  pauseSent : Bool
  pauseRenewAt : Nat
  /-- When the transmission that a received PAUSE holds goes on; the same for each priority that PFC holds (R106). -/
  pausedUntil : Option Nat
  pfcUntil : List (Option Nat)
  /-- Frames that wait for it, oldest first. -/
  txWait : List Output
  /-- Capture ring in slot order, and records captured since it was emptied. -/
  ring : List CaptureRecord
  captured : Nat
  /-- The MAC counters :01…:15, 48 bits each (R117), in order. -/
  mac : List Nat
  ovf : Nat
  /-- Counters whose saturation has been reported since their last clearing (R121). -/
  ovfReported : Nat
  echoWindow : Nat
  echoCount : Nat
  /-- Path MTU or reachability learnt for TCP connections (R100): connection, MTU (0 unreachable). -/
  tcpPath : Tbl Nat
  /-- MAXR2T of the TCP connections with a completed ICReq (R113): the R2Ts of a command beyond the first. -/
  maxR2t : Tbl Nat
  deriving DecidableEq, Repr

/-- A RoCEv2 queue pair (R108, R114): `rate` in 2⁻⁴⁰ of 5 % of line rate; the last CNP received, or the last rise since. -/
structure QueuePair where
  port : Nat
  qp : Nat
  rate : Nat
  lastCnpSent : Option Nat
  lastCnpRecv : Nat
  deriving DecidableEq, Repr

/-- An NVMe association of a partner (R109 to R112, R623). -/
structure Assoc where
  port : Nat
  assoc : Nat
  cntlid : Nat
  discovery : Bool
  kato : Nat
  kaLast : Nat
  /-- Features of R67: Number of Queues, Asynchronous Event Configuration. -/
  numQueues : Nat
  aec : Nat
  /-- CC.AMS: 0 round robin, 1 weighted round robin with urgent (R142). -/
  ams : Nat
  cc : Nat
  /-- The admin queue: its transport, connection or queue pair, entries, and head pointer (R113, R114, R140). -/
  rdma : Bool
  conn : Nat
  adminSize : Nat
  adminHead : Nat
  /-- Outstanding Asynchronous Event Requests (R164). -/
  aers : List CmdTag
  /-- Events pending: type, information, log page. -/
  events : List (Nat × Nat × Nat)
  /-- Event kinds reported and masked until their log page is read. -/
  masked : List (Nat × Nat)
  deriving DecidableEq, Repr

structure PortsState where
  ports : List Port
  assocs : List Assoc
  qps : List QueuePair
  deriving DecidableEq, Repr

/-! ## Event log and administration (chapter 6) -/

/-- A record of log 0xC5 (R167). -/
structure Event where
  tick : Nat
  seq : Nat
  code : Nat
  unit : Nat
  severity : Nat
  detail : Nat
  deriving DecidableEq, Repr

/-- An entry of log 0x01, Error Information (R165). -/
structure ErrorInfo where
  count : Nat
  sqid : Nat
  cid : Nat
  status : Nat
  nsid : Nat
  deriving DecidableEq, Repr

/-- What a long operation does (R177). -/
inductive LongOp where
  | none
  | list (ns : Nat) (next : Bytes) (after : Bool) (last? : Option Bytes)
  /-- Secure-delete erasure of a key of a namespace: the durable work list of copies by domain, fingerprint and copy number (R211, R212); once
  it has begun, the blocks that it waits for with their erase counts; its stripes. -/
  | erasure (ns : Nat) (copies : List (Nat × Nat × Nat)) (blocks : List (Nat × Nat)) (stripes : List Nat)
  /-- `a` is 4,096 while FULL is set. -/
  | difference (ns a b : Nat) (next : Bytes) (after : Bool)
  | replication (session : Nat)
  /-- Channel groups asked for, and the next one to report. -/
  | scrub (groups next : Nat)
  | selfTest
  | rebuildReport (left : List Nat)
  | dump (which offset : Nat)
  deriving DecidableEq, Repr

/-- The partner that started an operation; `none` for the device. -/
abbrev Starter := Option Nat

/-- One long-operation slot (R176 to R182). -/
structure LongSlot where
  state : Nat
  gen : Nat
  progress : Nat
  count : Nat
  results : Bytes
  op : LongOp
  starter : Starter
  entered : Nat
  deriving DecidableEq, Repr

/-- A result of log 0x06, newest first (R168 to R172). -/
structure SelfTestResult where
  code : Nat
  segment : Nat
  kind : Nat
  hours : Nat
  deriving DecidableEq, Repr

/-- The running self-test (R168 to R172): 1 short, 2 extended, the partner that started it, the segments done, the first that failed (0
none). `fwd`: it is this device's part of a test of the other peer, under that forward id. -/
structure SelfTest where
  kind : Nat
  starter : Nat
  segment : Nat
  firstFailure : Nat
  slot : Option Nat
  startedAt : Nat
  fwd : Option Nat
  deriving DecidableEq, Repr

/-- The running sanitize (R173). `fwd`: it is this device's part of one that the other peer coordinates. -/
structure Sanitize where
  action : Nat
  cdw10 : Nat
  startedAt : Nat
  fwd : Option Nat
  deriving DecidableEq, Repr

/-- An answer to a request of the device's own: of slot n under n, of session s under 64 + s and, for a value, 80 + s; of the self-test
under 96 and of a sanitize under 97. -/
structure Fetched where
  who : Nat
  sct : Nat
  sc : Nat
  dw0 : Nat
  data : Bytes
  deriving DecidableEq, Repr

structure AdminState where
  events : List Event
  eventSeq : Nat
  errors : List ErrorInfo
  errorCount : Nat
  slots : List LongSlot
  selfTest : Option SelfTest
  selfTestLog : List SelfTestResult
  sanitize : Option Sanitize
  sanitizeFailed : Bool
  sanitizeFailedAuse : Bool
  /-- Sanitize Status log: status code and CDW10 of the last sanitize, and completed sanitizes. -/
  sanitizeStatus : Nat
  sanitizeDw10 : Nat
  sanitizeCount : Nat
  /-- When the last sanitize ended; a rebuild report lists the elements failed since (R310). -/
  sanitizedAt : Nat
  dataUnitsRead : Nat
  dataUnitsWritten : Nat
  hostReads : Nat
  hostWrites : Nat
  mediaErrors : Nat
  powerOnHours : Nat
  powerCycles : Nat
  unsafeShutdowns : Nat
  criticalWarning : Nat
  fetched : List Fetched
  deriving DecidableEq, Repr

/-! ## Timebase (chapter 13) -/

inductive TimeSt where
  | unset | free | acquiring | locked | holdover
  deriving DecidableEq, Repr

/-- A master heard by Announce (R402). -/
structure Master where
  ident : Nat
  port : Nat
  /-- Data set of the default best master clock algorithm, best first: priority 1, class, accuracy, variance,
  priority 2, identity, steps removed. -/
  rank : List Nat
  heard : Nat
  interval : Nat
  deriving DecidableEq, Repr

structure TimeState where
  /-- TIME cycles since the release of PORST_N: the model's clock for timers (log 6). -/
  now : Nat
  counter : Nat
  established : Bool
  st : TimeSt
  goodRun : Nat
  badRun : Nat
  agreeRun : Nat
  agreeOffset : Int
  waitUntil : Option Nat
  offsetPs : Int
  freqPpb : Int
  pathDelayNs : Int
  integral : Int
  /-- Ticks still to slew, and TIME cycles since the last slewed cycle (R400). -/
  slew : Int
  sinceSlew : Nat
  masters : List Master
  slavePort : Nat
  grandmaster : Nat
  utcOffset : Int
  delayReqAt : Option Int
  lastSync : Int × Int
  /-- Masters rejected under R406. -/
  rejected : List Nat
  lastLocked : Nat
  leader : Nat
  otherRanksSince : Option Nat
  peerState : Nat
  peerRank : Nat
  /-- Peer offset in 1/128 tick (R409), whether one has been measured, exchanges within 16 ticks in a row. -/
  peerOff : Int
  peerOffKnown : Bool
  agreeing : Nat
  laneAsymmetry : Int
  /-- Trace delay in 1/128 tick (R410). -/
  traceDelay : Int
  /-- EPOCH_OUT is held high until this time by the wake pulse of R551. -/
  wakePulseUntil : Nat
  epochInLast : Option Nat
  epochAbsent : Bool
  lockReported : Bool
  deriving DecidableEq, Repr

/-! ## Departure board (chapter 13) -/

/-- A departure-board entry (R413). `state`: 0 free, 1 armed, 2 done, 3 cancelled. -/
structure BoardEntry where
  launch : Nat
  arg : Nat
  period : Nat
  unit : Nat
  action : Nat
  lateness : Nat
  lateLaunches : Nat
  launches : Nat
  late : Bool
  mismatch : Bool
  urgent : Bool
  paired : Bool
  state : Nat
  deriving DecidableEq, Repr

/-- A free entry. -/
def BoardEntry.blank : BoardEntry := ⟨0, 0, 0, 0, 0, 0, 0, 0, false, false, false, false, 0⟩

/-- What a paired placement does when it is confirmed or fails (R421). -/
inductive PlacementFor where
  | firmware
  | user (acc : Accessor) (reply : ReplyTo)
  | dict (acc : Accessor) (reply : ReplyTo) (idx sub : Nat)
  | snapshot (n : Nat)
  | bucket (b : Nat)
  deriving DecidableEq, Repr

/-- A paired entry waiting for ARMED (R421). -/
structure Placement where
  entry : Nat
  body : BoardEntry
  who : PlacementFor
  deriving DecidableEq, Repr

/-- A firmware placement that waits for a free entry (R419). -/
structure WaitingPlacement where
  body : BoardEntry
  who : PlacementFor
  deriving DecidableEq, Repr

structure BoardState where
  entries : Tbl BoardEntry
  frozen : Bool
  /-- The tick of the last launches and how many of the 8 it has used (R417). -/
  tick : Nat
  used : Nat
  placing : List Placement
  waiting : List WaitingPlacement
  fullLogged : Bool
  /-- Paired launches awaiting the other peer's report: entry, tick, time of the launch (R422). -/
  reports : List (Nat × Nat × Nat)
  /-- Reports of the other peer that arrived before the own launch: entry, tick. -/
  early : List (Nat × Nat)
  lateSinceEvent : Nat
  lateEventAt : Option Nat
  /-- The hand-over tick from which a written commit period holds (R423). -/
  periodFrom : Nat
  deriving DecidableEq, Repr

end Sys2Proof.Machine
end

