-- ==== Sys2Proof/Machine/StateCipher.lean ====
section
/-! DEFINITION. State of compression and of the cipher engine: chapter 9 of the manual. -/

namespace Sys2Proof.Machine

/-- States of a key slot (R259). -/
inductive SlotSt where
  | empty | active | decryptOnly | zeroised
  deriving DecidableEq, Repr

/-- The number of a slot state (R259). -/
def SlotSt.code : SlotSt → Nat
  | .empty => 0 | .active => 1 | .decryptOnly => 2 | .zeroised => 3

/-- A key slot (R255 to R260, R275). -/
structure KeySlot where
  st : SlotSt
  tenant : Nat
  keygen : Nat
  counterA : Nat
  counterB : Nat
  limitA : Nat
  limitB : Nat
  exhaustedA : Bool
  exhaustedB : Bool
  /-- A valid wrapped copy is in the key store (R260). -/
  wrapped : Bool
  /-- The slot key register, write-only (R260): `none` when zero. -/
  key : Option Nat
  /-- The key that the wrapped copies hold. -/
  stored : Option Nat
  /-- State before the alarm (R259, R270), and whether a tenant erase has acted during it. -/
  before : SlotSt
  freshDue : Bool
  /-- A new limit awaits durability (R256). -/
  limitPending : Option Nat
  /-- Event 0x0905 has been logged for this slot and own side (R258). -/
  warned : Bool
  deriving DecidableEq, Repr

/-- An EMPTY slot, as from the factory. -/
def KeySlot.blank : KeySlot :=
  ⟨.empty, 0, 0, 0, 0, 0, 0, false, false, false, none, none, .empty, false, none, false⟩

/-- A copy that a tenant erase made DEAD, until it is reclaimed (R267): domain, fingerprint, number, tenant, and the blocks that
held its extents and have not been erased. -/
structure ErasedCopy where
  domain : Nat
  fp : Bytes
  num : Nat
  tenant : Nat
  blocks : List MemberDesc
  deriving DecidableEq, Repr

structure CipherState where
  slots : Tbl KeySlot
  /-- OD 0x2800:04 (R269, R270). -/
  alarm : Nat
  /-- Copies to reclaim after tenant erases (OD 0x2800:03). -/
  erased : List ErasedCopy
  /-- Times of the mismatches of each engine within the last hour (R250). -/
  mismatches : Tbl (List Nat)
  /-- Compressors disabled, bit n for engine n (R250). -/
  disabled : Nat
  /-- Row-4 fall-backs since the last event 0x0902 and its time (R252). -/
  fallbacks : Nat
  fallbackEventAt : Option Nat
  deriving DecidableEq, Repr

end Sys2Proof.Machine
end

