-- ==== Sys2Proof/Machine/StateEngine.lean ====
section
/-! DEFINITION. State of the drover engines, their control stores and cluster queues: chapter 16 of the manual. -/

namespace Sys2Proof.Machine

/-- A buffer descriptor (R499): address and limit in the engine's buffer memory, and the cursor. -/
structure BufDesc where
  addr : Nat
  limit : Nat
  cursor : Nat
  deriving DecidableEq, Repr

/-- The chunker (R183, R187, R499): bytes of the value still ahead, the last chunk passed, the gear table it started with. -/
structure Chunker where
  active : Bool
  rest : Bytes
  chunk : Bytes
  table : List Nat
  deriving DecidableEq, Repr

/-- The SHA-256 unit: the prefix that it started with, bytes hashed so far, and the buffer of a FINISH under way. -/
structure ShaUnit where
  start : Bytes
  msg : Bytes
  finish : Option Nat
  deriving DecidableEq, Repr

/-- The Deflate units: the work under way (buffer, decompress) and the output. -/
structure DeflUnit where
  work : Option (Nat × Bool)
  input : Bytes
  out : Bytes
  deriving DecidableEq, Repr

/-- Kinds of AES request (R499). -/
inductive AesKind where
  | encrypt | decrypt | seal | open_
  deriving DecidableEq, Repr

/-- A queued AES request (R253 to R263): kind, buffer, slot, invocation or seal count taken, encoding byte, input. -/
structure AesReq where
  kind : AesKind
  buf : Nat
  slot : Nat
  invocation : Nat
  enc : Nat
  data : Bytes
  deriving DecidableEq, Repr

/-- A transfer of a mover (R499): code of DMA_RD or DMA_WR, address and buffer. -/
structure Mover where
  code : Nat
  addr : Nat
  buf : Nat
  deriving DecidableEq, Repr

/-- The GF(2^8) unit (R282, R283): accumulators, the solution, work under way. -/
structure GfUnit where
  p : Bytes
  q : Bytes
  busy : Bool
  deriving DecidableEq, Repr

/-- Sequencer context of a descriptor: what a sliced background descriptor keeps (R489). -/
structure SeqCtx where
  pc : Nat
  /-- Return stack, the newest first (R496). -/
  stack : List Nat
  /-- V_1…V_31 that are not zero (R498). -/
  regs : Tbl Nat
  zero : Bool
  neg : Bool
  carry : Bool
  ovf : Bool
  bufs : Tbl BufDesc
  /-- The buffer that the last word with a buffer named: condition 29 tests its cursor (log 60). -/
  sel : Nat
  desc : Option WorkDesc
  /-- TIME cycles that the descriptor has run before the present stretch (R504). -/
  ran : Nat
  deriving DecidableEq, Repr

/-- An idle context at address 0. -/
def SeqCtx.blank : SeqCtx := ⟨0, [], [], false, false, false, false, [], 0, none, 0⟩

/-- A drover engine (R488, R518). `st`: 0 idle, 1 running, 2 reloading, 3 disabled, 4 gated. -/
structure Engine where
  st : Nat
  ctx : SeqCtx
  parked : Option SeqCtx
  since : Nat
  mem : List (Nat × BitVec 8)
  /-- Result ports 0…7 (R499). -/
  ports : List Nat
  /-- Conditions 5…28 and 31 of R497 as the units last set them, bit n for code n. -/
  conds : Nat
  chunker : Chunker
  sha : ShaUnit
  defl : DeflUnit
  aes : List AesReq
  gf : GfUnit
  rd : Option Mover
  wr : Option Mover
  /-- Identifier of the search under way (R235). -/
  search : Option Nat
  /-- Index of the last record appended to the journal, and whether MARK follows it. -/
  appended : Option Nat
  marked : Bool
  /-- Flash operation queued by this engine and toll tokens held (R386, R499). -/
  flash : Option Nat
  /-- Step of R376 at which its last read ended undecoded. -/
  flashStep : Nat
  tokens : Nat
  /-- Times of the machine checks of the last hour (R507). -/
  checks : List Nat
  /-- Counter block 1…15 (R499). -/
  counters : Tbl Nat
  deriving DecidableEq, Repr

/-- An idle engine. -/
def Engine.blank : Engine :=
  ⟨4, SeqCtx.blank, none, 0, [], List.replicate 8 0, 0, ⟨false, [], [], []⟩, ⟨[], [], none⟩, ⟨none, [], []⟩, [],
   ⟨[], [], false⟩, none, none, none, none, false, none, 0, 0, [], []⟩

structure EngineState where
  engines : List Engine
  /-- Descriptors queued per cluster, in posting order (R489). -/
  queues : List (List WorkDesc)
  /-- The store image of the clusters as loaded, 74,240 bytes (R494), and the secure DRAM copy (R503). -/
  image : List Bytes
  dramImage : Bytes
  /-- The held patch package (R512), empty when none; both alternating copies hold it. -/
  patch : Bytes
  /-- Engines that have faulted on a tag's work (R36). -/
  barred : List (Nat × Nat)
  /-- Clusters still to load in an activation (R514). -/
  activating : List Nat
  /-- Staging SRAM and DDR-5, by byte address; flash and link buffers per engine (R499). -/
  sram : List (Nat × BitVec 8)
  ddr : List (Nat × BitVec 8)
  flashBuf : List (Nat × BitVec 8)
  linkBuf : List (Nat × BitVec 8)
  /-- Messages sent to the control processors and the last claim of each engine (R499). -/
  claims : List (Nat × Bytes)
  /-- Reissues of a tag after engine faults (R36): tag, count. -/
  reissues : Tbl Nat
  deriving DecidableEq, Repr

end Sys2Proof.Machine
end

