-- ==== Sys2Proof/Machine/StateKv.lean ====
section
/-! DEFINITION. State of the queues, commands, locks, the key-value store, the value path and the associative search
engine: chapters 5, 7 and 8 of the manual. -/

namespace Sys2Proof.Machine

/-! ## Queues and commands (chapter 5) -/

/-- An I/O submission queue (R139 to R144). `slots`: capsules that have arrived and wait, oldest first. -/
structure SubQueue where
  ref : QueueRef
  /-- Its TCP connection or RoCEv2 queue pair. -/
  conn : Nat
  size : Nat
  head : Nat
  slots : List Capsule
  /-- The ORD command that holds the queue (R147). -/
  ordHold : Option Nat
  /-- Submission sequence of the next fetched command (R151). -/
  nextSeq : Nat
  /-- The queue stands stalled for lock entries, already counted (R154). -/
  lockStalled : Bool
  deriving DecidableEq, Repr

/-- Arbitration in progress (R141, R142): the partner whose turn it is and its picks left, the last association and
queue of each, and the credit of the weighted classes. -/
structure ArbState where
  partner : Nat
  picksLeft : Nat
  lastAssoc : Tbl Nat
  lastQueue : Tbl Nat
  credit : Tbl (Nat × Nat × Nat)
  /-- The queue picked last and the commands of its burst still to fetch, `none` without limit (R142). -/
  queue : Option QueueRef
  burst : Option Nat
  deriving DecidableEq, Repr

/-- Forms of lock (R148, R149). -/
inductive LockKind where
  | exclKey | sharedRange | exclRange
  deriving DecidableEq, Repr

inductive LockSt where
  | reserved | waiting | held
  deriving DecidableEq, Repr

/-- A range-lock table entry. A key is identified by namespace, SipHash value and first 16 bytes; a range by
namespace and the first 16 bytes of its bounds, rounded outwards (R149). `hi = none` is the end of the namespace. -/
structure Lock where
  cmd : Nat
  /-- The other peer's forward id, for a reservation or lock of one of its commands (R150). -/
  fwd : Option Nat
  kind : LockKind
  ns : Nat
  hash : Nat
  lo : Bytes
  hi : Option Bytes
  st : LockSt
  deriving DecidableEq, Repr

/-- A chunk of a value being reduced (R196). -/
structure WorkChunk where
  data : Bytes
  fp : Bytes
  /-- Copy number once claimed. -/
  copy : Option Nat
  isNew : Bool
  /-- The claim has been answered (R196), and the copy is PRESENT (R193). -/
  claimed : Bool
  present : Bool
  /-- Request id of the claim on the other peer while it is unanswered, and the id under which that peer counts it (R624). -/
  req : Option Nat
  claim : Option Nat
  /-- Encoding that the compressor's end has chosen (R248): raw or not. -/
  raw : Option Bool
  /-- Invocation that its encryption has taken (R255). -/
  invocation : Option Nat
  /-- Stored in a gathering stripe here (R197). -/
  stored : Bool
  deriving DecidableEq, Repr

/-- One key of a command that changes the store: a Store, a Batch Store entry, a Delete or a key of a range delete. -/
structure Item where
  /-- Entry of a Batch Store. -/
  entry : Nat
  key : Bytes
  value : Bytes
  opts : Nat
  /-- Home side when the command was fetched. -/
  home : Nat
  policy : Nat
  domain : Nat
  slot : Nat
  /-- Stripe class of its new copies, fixed at the lock grant (R158). -/
  cls : Nat
  chunks : List WorkChunk
  mseq : Nat
  /-- REDUCE has been returned; times that its work has faulted (R36). -/
  reduced : Bool
  faults : Nat
  /-- Its mirror write (R452); its records lie in the flush area (R20). -/
  write : Option Nat
  flushed : Bool
  /-- The item meets its acknowledgement condition (R20, R39 "prepared"). -/
  ready : Bool
  isDelete : Bool
  deriving DecidableEq, Repr

/-- Where a command stands between fetch and posted completion. -/
inductive Phase where
  | waitOrder      -- R145, R147: an earlier command of its queue must complete first
  | waitLocks      -- R149
  | reducing       -- a work descriptor is with an engine (R36, R489)
  | waitClaims     -- claims at the other peer unanswered (R196)
  | waitPresent    -- a named copy is pending (R197)
  | waitMirror     -- the acknowledgement condition of R20 is not met
  | ready          -- waits for a commit group
  | reading        -- units are being read
  | waitMap        -- a map page is being filled (R330)
  | forwarded      -- at the home peer (R18)
  | waitBucket     -- the bucket has moved here and the old home drains (R25)
  deriving DecidableEq, Repr

/-- A command outstanding. -/
structure Cmd where
  id : Nat
  q : QueueRef
  sqe : Sqe
  /-- Key blocks and data buffer, as far as they have come (R127, R453). -/
  data : Bytes
  cls : Nat
  seq : Nat
  ord : Bool
  phase : Phase
  /-- Received from the other peer under this forward id, or sent there under it. -/
  fwdFrom : Option Nat
  fwdTo : Option Nat
  items : List Item
  /-- Reads: failed tags of the chunk being read (R264). -/
  attempts : Nat
  /-- Long-operation slot reserved for a secure delete (R133); what the sort of its manifest's copies has given so far (R211): retained
  shared, snapshot and pinned; erasure-listed; copies of which the other peer has not yet journalled the count. -/
  slot : Option Nat
  retained : Nat × Nat × Nat
  listed : List (Nat × Bytes × Nat)
  unsorted : List (Nat × Bytes × Nat)
  /-- Stripes of listed copies that the other peer has named (R212). -/
  found : List Nat
  /-- The other peer's failure of its share of a batch, or this peer's own, with the lowest entry (R137). -/
  failure : Option (Nat × Nat × Nat)
  /-- Reads: the manifest read, chunks still to fetch, bytes gathered. -/
  manifest : Nat
  named : Option Manifest
  parts : List ChunkRef
  got : Bytes
  /-- Commit tick given (R20), completion to post. -/
  tick : Option Nat
  /-- The command of which this one carries a part to the other peer (R39, R148), and its own parts outstanding there. -/
  parent : Option Nat
  kids : List Nat
  /-- Counter at which the acknowledgement condition was met (R20). -/
  readyAt : Nat
  /-- Buckets that moved away after the command was accepted: their keys are still served here (R25). -/
  stay : List Nat
  /-- A range command: the keys gathered of the other peer's index, then the keys still to remove; whether they have been gathered; keys
  removed so far; MORE. -/
  remoteKeys : List Bytes
  gathered : Bool
  removed : Nat
  more : Bool
  deriving DecidableEq, Repr

/-- A Batch Store that this device coordinated (R39): forward id of the other home's share, its keys there and the commit tick given, or
none: the batch failed while the link was down. -/
structure BatchTick where
  fwd : Nat
  ns : Nat
  keys : List Bytes
  tick : Option Nat
  deriving DecidableEq, Repr

structure NvmeState where
  queues : List SubQueue
  arb : ArbState
  cmds : List Cmd
  nextCmd : Nat
  locks : List Lock
  /-- Remote reservations made at the other peer: command id, forward id, made (R150). -/
  remoteLocks : List (Nat × Nat × Bool)
  batches : List BatchTick
  /-- Write fetching has stopped under R27, already counted (R154). -/
  writesStopped : Bool
  nextFwd : Nat
  deriving DecidableEq, Repr

/-! ## The store (chapters 5, 7 and 11) -/

/-- A version of a key: its commit tick and its manifest, or a deletion. -/
structure Version where
  tick : Nat
  mseq : Nat
  tombstone : Bool
  /-- Marked lost for this version (R48, R306, R622). -/
  lost : Bool
  deriving DecidableEq, Repr

/-- A key of the key index, versions newest first. -/
structure KeyEntry where
  ns : Nat
  key : Bytes
  versions : List Version
  deriving DecidableEq, Repr

/-- Encodings of a stored form (R246). -/
inductive Encoding where
  | raw | deflate
  deriving DecidableEq, Repr

/-- A copy: its chunk-map entry (R193) with the plaintext that its verified stored form encodes (log 8). -/
structure Copy where
  domain : Nat
  fp : Bytes
  num : Nat
  refs : Nat
  present : Bool
  pinned : Bool
  dead : Bool
  detached : Bool
  enc : Encoding
  plain : Bytes
  plainLen : Nat
  storedLen : Nat
  slot : Nat
  invocation : Nat
  keygen : Nat
  /-- Side of the peer that encrypted it (R245). -/
  side : Nat
  cls : Nat
  retention : Nat
  extents : List Extent
  /-- Bits [31:0] of the hash of the key whose write placed it (R318). -/
  keyHash : Nat
  /-- Claimants in order of arrival, the storer first: command id here, or request id of the other peer. -/
  claimants : List (Bool × Nat)
  /-- DETACHED, and its entry handed to the owner (R200); claims of the other peer among the claimants that have become committed
  references (R205). -/
  handed : Bool
  settled : Nat
  /-- Stripes that held it before, as long as flash may hold their pages (R212). -/
  past : List Nat
  lost : Bool
  deriving DecidableEq, Repr

/-- A hot-chunk cache entry (R208): most recently read last. -/
structure CacheEntry where
  domain : Nat
  fp : Bytes
  num : Nat
  slot : Nat
  plain : Bytes
  deriving DecidableEq, Repr

/-- Reads of a copy within the admission window (R208): times of the reads. -/
structure ReadCount where
  domain : Nat
  fp : Bytes
  num : Nat
  times : List Nat
  deriving DecidableEq, Repr

/-- A copy that the other peer stored, fetched for a read (R22, R23, R203, R264): the command, where it lies; the units that have come, by
stripe and position, and those that could not be read; the bytes of the one under way; failed tags so far. -/
structure Fetch where
  cmd : Nat
  domain : Nat
  fp : Bytes
  num : Nat
  slot : Nat
  plainLen : Nat
  extents : List Extent
  units : List ((Nat × Nat) × Bytes)
  unread : List (Nat × Nat)
  part : Bytes
  attempts : Nat
  deriving DecidableEq, Repr

structure KvState where
  index : List KeyEntry
  manifests : List Manifest
  copies : List Copy
  /-- Domain salts (R190), secure: 96 bits. -/
  salts : Tbl Bytes
  /-- Count of this peer's manifest sequences (R201). -/
  manifestCount : Nat
  /-- The cache and its size in GiB, as the last release of PORST_N took it (R217). -/
  cache : List CacheEntry
  cacheGiB : Nat
  readCounts : List ReadCount
  /-- Claims unanswered at the loss of the link (R624): request ids. -/
  unanswered : List Nat
  /-- Locations cached of copies that the other peer owns (R203): domain, fingerprint, copy. -/
  located : List (Nat × Bytes × Nat)
  fetches : List Fetch
  /-- Invalidations awaiting acknowledgement (R203): request, domain, fingerprint, copy. -/
  invalidating : List (Nat × Nat × Bytes × Nat)
  /-- Invalidations of the other peer of which the acknowledgement waits for a read of the copy here (R207): domain, fingerprint, copy. -/
  owedAcks : List (Nat × Bytes × Nat)
  /-- The key index and the counts as the durable journal records give them, and the manifests that those versions or versions
  still to become durable name: what flash holds of the store (R332, R337). -/
  durable : List KeyEntry
  durableRefs : List (Nat × Bytes × Nat × Nat × Bool)
  kept : List Manifest
  /-- Generations and the pair's hash secret (R17), secure. -/
  hashSecret : Nat
  deriving DecidableEq, Repr

/-! ## Associative search engine (chapter 8) -/

/-- A search entry (R219, R243). -/
structure SearchEntry where
  key : Nat
  mask : Nat
  data : Nat
  prio : Nat
  st : Nat
  parityErr : Bool
  deriving DecidableEq, Repr

/-- A request of the search queue (R235). -/
structure SearchReq where
  id : Nat
  cls : Nat
  part : Nat
  key : Nat
  engine : Option Nat
  deriving DecidableEq, Repr

structure CamState where
  entries : Tbl SearchEntry
  /-- DRAM copy of the type 1 and type 2 partitions (R233, R240). -/
  dram : Tbl SearchEntry
  /-- P copies of policy entries in the persistent dictionary (R243). -/
  nv : Tbl SearchEntry
  queue : List SearchReq
  step : Nat
  powered : Bool
  deriving DecidableEq, Repr

end Sys2Proof.Machine
end

