-- ==== Sys2Proof/Machine/StateStripe.lean ====
section
/-! DEFINITION. State of stripes, the waybill journal, failed elements, rebuild and lost stripes: chapter 10 of the
manual. -/

namespace Sys2Proof.Machine

/-- A member of an issued stripe: where it lies, whether its program has passed, whether its page reads back
(LDPC and header), also in deep read-retry (R302, R304), and whether it has been verified (R385). -/
structure Member where
  desc : MemberDesc
  programmed : Bool
  readable : Bool
  deepReadable : Bool
  verified : Bool
  /-- The program waits for tokens or runs at the flash. -/
  issued : Bool
  /-- Temperature in the page header, 0.1 °C (R318). -/
  temp : Int
  deriving DecidableEq, Repr

/-- State of a stripe (R295). -/
inductive StripeSt where
  | closed       -- gathered, closed, not yet issued
  | issued | durable | abandoned | lost
  deriving DecidableEq, Repr

/-- Streams of data (R287, R315): host data, relocated data, map pages. -/
inductive Stream where
  | host | relocation | map
  deriving DecidableEq, Repr

/-- A stripe (R277 to R295). -/
structure Stripe where
  id : Nat
  cls : Nat
  k : Nat
  unit : Nat
  stream : Stream
  /-- Engine cluster that gathered it, strictest retention class of its copies (R385). -/
  cluster : Nat
  retention : Nat
  st : StripeSt
  members : List Member
  pad : Nat
  padded : Bool
  reissue : Bool
  replaced : Nat
  issueTick : Nat
  /-- The STRIPE_ISSUE record, the STRIPE_DURABLE record are durable; released by both peers (R289). -/
  issueDurable : Bool
  durableDurable : Bool
  released : Bool
  /-- Stored bytes gathered into its data space. -/
  fill : Nat
  deriving DecidableEq, Repr

/-- A gathering stripe (R287): the id it will take, its fill and when it first held data. -/
structure Gather where
  cls : Nat
  cluster : Nat
  stream : Stream
  id : Nat
  fill : Nat
  since : Nat
  /-- Strictest retention class of the copies gathered (R385). -/
  retention : Nat
  /-- Data that is reissued after a replay (R297): the stripe it replaces. -/
  reissue : Option Nat
  deriving DecidableEq, Repr

/-- A member move under way (R290): read at the source, programmed at the destination, recorded. -/
structure Move where
  stripe : Nat
  member : Nat
  old : MemberDesc
  new : MemberDesc
  reason : Nat
  read : Bool
  /-- Request of the other peer that asked for it (R349). -/
  req : Option Nat
  deriving DecidableEq, Repr

/-- A stored form being relocated (R345, R347): its copy, where it lay and where it is written. -/
structure Reloc where
  domain : Nat
  fp : Bytes
  num : Nat
  old : List Extent
  new : List Extent
  /-- The other peer has been asked to drop the old location (R203). -/
  asked : Bool
  deriving DecidableEq, Repr

/-- A journal page (R292). -/
structure JPage where
  seq : Nat
  tick : Nat
  tail : Nat
  last : Bool
  index : Nat
  records : List JRecord
  /-- Programmed in every readable local copy; acknowledged by the mirror. -/
  local_ : Bool
  mirrored : Bool
  deriving DecidableEq, Repr

/-- A page of the other peer's journal, mirrored here, and whether it has been written as copy 3 (R291). -/
structure MirrorPage where
  page : JPage
  written : Bool
  deriving DecidableEq, Repr

/-- A failed element and its rebuild (R300, R301, R310). `st`: 2 FAILED, 3 REBUILDING, 4 PAUSED, 5 DONE. -/
structure FailedElement where
  addr : Nat
  cause : Nat
  st : Nat
  work : List Nat
  lost : Nat
  total : Nat
  repaired : Nat
  relocated : Nat
  unitsRead : Nat
  failTick : Nat
  doneTick : Nat
  /-- Model time of the failure, for the windows of 60 s. -/
  failedAt : Nat
  deriving DecidableEq, Repr

/-- A stripe record of log 0xC2 (R307). -/
structure LostRecord where
  cause : Nat
  cls : Nat
  stripe : Nat
  tick : Nat
  bitmap : Nat
  copies : Nat
  keys : Nat
  scanDone : Bool
  seq : Nat
  deriving DecidableEq, Repr

/-- A key record of log 0xC2 (R307); `mseq`: the manifest that the key version named. -/
structure LostKey where
  ns : Nat
  seq : Nat
  key : Bytes
  snap : Nat
  mseq : Nat
  deriving DecidableEq, Repr

structure StripeState where
  stripes : List Stripe
  gathers : List Gather
  /-- This peer's stripe sequence, last used (R281). -/
  seq : Nat
  /-- Journal records waiting for the next commit group. -/
  queued : List JRecord
  pages : List JPage
  pageSeq : Nat
  /-- Highest page sequence durable in the sense of R291. -/
  durableSeq : Nat
  tail : Nat
  /-- Readable local copies 0…2 and the mirror at the other peer (OD 0x2900:0F). -/
  copies : Nat
  rewriting : List Nat
  /-- Targets of the journal's copies 0 to 2, and of copy 3 of the other peer's journal (R291): copy and place. -/
  rings : Tbl MemberDesc
  /-- The other peer's journal held as the mirror (R291), and copy 3 readable here. -/
  mirror : List MirrorPage
  copy3 : Bool
  readOnly : Bool
  /-- Open stripes in the parity check of read-only state (R52). -/
  checking : List Nat
  failed : List FailedElement
  moves : List Move
  relocs : List Reloc
  /-- Timeouts in the last 60 s: element address, time (R300). -/
  timeouts : List (Nat × Nat)
  /-- Members waiting for a repair after a read (R305): stripe, member. -/
  repairs : List (Nat × Nat)
  lostStripes : List LostRecord
  lostKeys : List LostKey
  lostSeq : Nat
  lostTruncated : Bool
  lostLogged : Bool
  /-- A class that cannot be placed, already logged at that k (R285). -/
  unplaced : Tbl Nat
  deriving DecidableEq, Repr

end Sys2Proof.Machine
end

