-- ==== Sys2Proof/Machine/StateMap.lean ====
section
/-! DEFINITION. State of placement, maps, checkpoints, the SLC flush area and garbage collection: chapter 11 of the
manual. -/

namespace Sys2Proof.Machine

/-- A block-table record (R328) with its address; absent blocks are not fitted. `st`: 0 free, 1 open, 2 closed,
3 erase pending, 4 retired, 5 on a failed element. `stream`: 0 none, 1 host, 2 relocation, 3 map, 4 journal, 5 flush. -/
structure Block where
  channel : Nat
  target : Nat
  lun : Nat
  block : Nat
  st : Nat
  stream : Nat
  next : Nat
  pages : Nat
  erases : Nat
  live : Nat
  writeMin : Nat
  barrier : Nat
  /-- A record that moved or killed a unit still waits for its journal page, which will give the barrier (R348). -/
  barrierOpen : Bool
  writeSeq : Nat
  /-- Invalidations of R203 that the erase awaits, of copies by domain, fingerprint and number. -/
  awaiting : List (Nat × Bytes × Nat)
  /-- Queued for refresh (R383); minute and age band of the last patrol sample (R384). -/
  refreshDue : Bool
  sampledAt : Nat
  sampledBand : Nat
  slc : Bool
  /-- Retirement or another reason of R346 under which the block is emptied; 0 none. -/
  emptying : Nat
  deriving DecidableEq, Repr

/-- A map page (R321): map type, logical id, page LSN, locations, dirty, in the cache, sealed version. -/
structure MapPage where
  typ : Nat
  lid : Nat
  lsn : Nat
  loc : Nat
  prev : Nat
  /-- Location of a write under way and the LSN that it carries; 0 none. -/
  pending : Nat
  pendingLsn : Nat
  dirty : Bool
  cached : Bool
  pinned : Bool
  used : Nat
  lastUse : Nat
  lost : Bool
  deriving DecidableEq, Repr

/-- A record of the flush area (R340): flush number 0 is write-through. -/
inductive FlushRecord where
  | roster (home : Nat) (batch : Bool) (ns : Nat) (key : Bytes) (tick : Nat)
  | copy (domain slot : Nat) (fp : Bytes) (num : Nat) (form : StoredForm)
  | manifest (tick : Nat) (m : Manifest)
  | journal (page : JPage)
  | complete (records : Nat)
  deriving DecidableEq, Repr

/-- A record as it lies in the flush area. -/
structure FlushItem where
  flush : Nat
  body : FlushRecord
  bytes : Nat
  released : Bool
  /-- The commit tick that a write-through record's write was given since; not in flash. -/
  tick : Nat
  deriving DecidableEq, Repr

/-- A power-fail flush (R46, R49): number, complete marker written, released. -/
structure Flush where
  num : Nat
  complete : Bool
  released : Bool
  /-- Writes that the roster lists: namespace, key, commit tick. -/
  roster : List (Nat × Bytes × Nat)
  deriving DecidableEq, Repr

/-- The running checkpoint (R335). -/
structure Checkpoint where
  num : Nat
  start : Nat
  stripes : List Nat
  startedAt : Nat
  begun : Bool
  deriving DecidableEq, Repr

structure MapState where
  blocks : List Block
  /-- Blocks with a page of a stripe written since their last erase, live or not (R212): stripe, block. -/
  residue : List (Nat × Nat)
  writeSeq : Nat
  /-- The map pages, and the cache size in GiB as the last release of PORST_N took it (R356). -/
  pages : List MapPage
  cacheGiB : Nat
  nextLid : Nat
  sealCount : Nat
  sealLimit : Nat
  /-- Current manifest page: logical id and body bytes used (R325). -/
  manifestPage : Nat
  manifestFill : Nat
  /-- Manifest locators: manifest sequence, locator, length. -/
  locators : List (Nat × Nat × Nat)
  checkpoint : Option Checkpoint
  checkpointNum : Nat
  lastCheckpointAt : Nat
  checkpointAgain : Bool
  /-- Start sequence S of the newest complete checkpoint (R336). -/
  startSeq : Nat
  ringOver75 : Bool
  /-- SLC flush area (R339 to R342). -/
  flushArea : Nat
  flushFree : Nat
  flushItems : List FlushItem
  flushes : List Flush
  flushNum : Nat
  /-- Pages written in flush 0 (R340). -/
  flushPage : Nat
  /-- Groups of flush pages that have been written, in the order of the ring (R340). -/
  flushPos : Nat
  capLogged : Bool
  /-- Collection level per channel (R343). -/
  levels : Tbl Nat
  /-- Members waiting to be moved by the other peer, requests by id (R349, R213). -/
  moveRequests : List (Nat × Nat × Nat)
  /-- Blocks whose erase the other peer is asked for (R213): request id, operation slot. -/
  eraseRequests : List (Nat × Nat)
  collectionStopped : Bool
  /-- A new seal limit awaits durability (R322). -/
  sealPending : Option Nat
  /-- Channels whose wear levelling goes on until the spread is 20 below the limit (R354). -/
  levelling : List Nat
  deriving DecidableEq, Repr

end Sys2Proof.Machine
end

