-- ==== Sys2Proof/Machine/StateMedia.lean ====
section
/-! DEFINITION. State of profiles, flash targets, LDPC reads, thermal age, refresh and the toll gate: chapter 12 of
the manual. -/

namespace Sys2Proof.Machine

/-- A target that answered READ ID with the profile's ID (R367). -/
structure Target where
  channel : Nat
  target : Nat
  deriving DecidableEq, Repr

/-- Kinds of flash operation in the toll gate (R386, R387). -/
inductive FlashKind where
  | hostRead | rebuildRead | gcRead | program | erase
  deriving DecidableEq, Repr

/-- Where a read stands in the steps of R376. -/
structure FlashOp where
  id : Nat
  kind : FlashKind
  desc : MemberDesc
  stripe : Nat
  member : Nat
  tokens : Nat
  started : Bool
  startedAt : Nat
  step : Nat
  /-- The command, engine or maintenance work that waits for it: command id; engine + 1. -/
  cmd : Option Nat
  engine : Option Nat
  /-- Order among programs: collection reclaim goes first at level 2 (R343). -/
  reclaim : Bool
  suspended : Bool
  suspensions : Nat
  /-- Deep read-retry was asked for; the read-back of R385; the other peer's request (UNIT_READ). -/
  deep : Bool
  verify : Bool
  req : Option Nat
  deriving DecidableEq, Repr

/-- A read of a suspended LUN, or hint of a block (R377): the entry that succeeded and the write temperature. -/
structure BlockHint where
  channel : Nat
  target : Nat
  lun : Nat
  block : Nat
  entry : Nat
  temp : Int
  deriving DecidableEq, Repr

structure MediaState where
  /-- Profile slots (R361): bytes, or empty. -/
  profiles : List Bytes
  targets : List Target
  /-- Targets, by channel and number, whose factory bad-block markers have been read (R367); this outlives every reset. -/
  markers : List (Nat × Nat)
  /-- Groups whose domain is up and whose targets have not been identified yet (R542). -/
  probing : List Nat
  /-- Channel rate in MT/s (R367), 0 untrained. -/
  rates : Tbl Nat
  hints : List BlockHint
  ops : List FlashOp
  nextOp : Nat
  /-- Scale set by a TOLL_WINDOW per group (R388): s of s / 256. -/
  scales : Tbl Nat
  /-- Running age A_g per group, in 1/65,536 equivalent minute (R379). -/
  ages : List Nat
  temps : List Int
  maxTemps : List Int
  /-- Ledger (R380): first day, A_g at the start of each day per group (oldest first), L in minutes. -/
  ledgerDay : Nat
  ledger : List (List Nat)
  lastPowered : Nat
  ledgerSaturated : Bool
  lastFromDefault : Bool
  gapAdded : Bool
  /-- Blocks whose age band an unpowered gap changed, to be sampled before the others (R384): channel, target, LUN, block. -/
  bandChanged : List (Nat × Nat × Nat × Nat)
  /-- Refreshes queued because of a default gap (R381), by block address. -/
  defaultRefresh : List (Nat × Nat × Nat × Nat)
  defaultGap : Nat
  /-- Powered hours per temperature bin (R392). -/
  junctionBins : List Nat
  groupBins : List (List Nat)
  /-- Per group: corrected codewords, reads past step 1, soft decodes, uncorrected units, refreshes (R392). -/
  groupCounts : List (List Nat)
  spareBase : Option Nat
  spareBelow : Bool
  slcMinimum : Bool
  /-- When the group temperatures are next read (R379). -/
  nextSampleAt : Nat
  deriving DecidableEq, Repr

end Sys2Proof.Machine
end

