-- ==== Sys2Proof/Machine/StatePeer.lean ====
section
/-! DEFINITION. State of the pair: liveness, link, fencing, ownership, hand-over, takeover, buckets, mirroring and
forwarding: chapter 14 of the manual. -/

namespace Sys2Proof.Machine

/-- A frame sent and not yet acknowledged (R456). -/
structure SentFrame where
  cls : Nat
  seq : Nat
  msg : LinkMsg
  sentAt : Nat
  deriving DecidableEq, Repr

/-- Sequences and credit of one class (R455, R456). -/
structure LinkClass where
  sent : Nat
  received : Nat
  acked : Nat
  credit : Nat
  /-- An acknowledgement is owed since this time (R456). -/
  ackDue : Option Nat
  deriving DecidableEq, Repr

/-- A hand-over in progress of channels of a group (R436, R438). `old`: this device is the old owner. -/
structure Handover where
  group : Nat
  mask : Nat
  newSide : Nat
  entry : Nat
  tick : Nat
  old : Bool
  launched : Bool
  drained : Bool
  acked : Bool
  reported : Bool
  released : Option Nat
  taken : Bool
  deriving DecidableEq, Repr

/-- A write homed here and mirrored to the other peer (R452). -/
structure MirrorWrite where
  id : Nat
  cmd : Nat
  records : Nat
  acked : Nat
  /-- The new copies that it wrote and its manifest; its KEY_VERSION record is durable. -/
  copies : List (Nat × Bytes × Nat)
  mseq : Nat
  ns : Nat
  key : Bytes
  tick : Option Nat
  keyDurable : Bool
  deriving DecidableEq, Repr

/-- A record that this device holds for the other peer (R452). -/
structure HeldRecord where
  write : Nat
  record : MirrorRecord
  deriving DecidableEq, Repr

/-- A bucket move (R450). `old`: this device is the old home. -/
structure BucketMove where
  bucket : Nat
  newSide : Nat
  old : Bool
  unsent : List (Nat × Bytes)
  entry : Option Nat
  launched : Bool
  drained : Option Nat
  received : List MovedKey
  deriving DecidableEq, Repr

/-- A request to the other peer that awaits its answer, with what it is for. -/
inductive ReqFor where
  | claim (cmd item chunk : Nat)
  | release
  | decrement
  | present
  | locate (cmd : Nat) (domain : Nat) (fp : Bytes) (copy : Nat)
  | unit (cmd : Option Nat) (stripe member : Nat)
  | move (stripe member : Nat)
  | erase (slot : Nat) (d : MemberDesc)
  deriving DecidableEq, Repr

structure LinkReq where
  id : Nat
  what : ReqFor
  domain : Nat
  fp : Bytes
  copy : Nat
  deriving DecidableEq, Repr

/-- A request of the other peer under way here: an erase waiting for its barrier (R213), a move, a read. -/
inductive PeerReq where
  | erase (d : MemberDesc) (barrier : Nat)
  | move (stripe : Nat) (d : MemberDesc) (reason : Nat)
  | read (d : MemberDesc) (prio : Nat)
  deriving DecidableEq, Repr

/-- A takeover under way (R444): since when, replayed. -/
structure TakeoverSt where
  since : Nat
  begun : Bool
  deriving DecidableEq, Repr

structure PeerState where
  /-- OD 0x2D00:01 (R431). -/
  st : Nat
  met : Bool
  peerWasServing : Bool
  /-- Link state 0 down, 1 training, 2 up on 8 lanes, 3 up on 4 lanes. -/
  link : Nat
  treatedDown : Bool
  lastHeartbeat : Nat
  heartbeatRun : Nat
  heartbeatSince : Nat
  /-- The peer's HELLO has come on this link up and passed its checks; the link counts as up (R430). -/
  helloSeen : Bool
  helloDone : Bool
  peerAnnounced : Nat
  classes : List LinkClass
  unacked : List SentFrame
  waiting : List (Nat × LinkMsg)
  /-- PEER_ALIVE_OUT level, watchdog service time, when it toggles next (R429). -/
  aliveOut : Bool
  watchdogAt : Nat
  lastToggle : Nat
  /-- PEER_ALIVE_IN: run of well-spaced edges, last edge, asserted. -/
  aliveRun : Nat
  aliveLast : Nat
  aliveIn : Bool
  /-- FENCE_OUT_N driven low, since when; cause; FENCE_IN_N level (true: deasserted). -/
  fenceOut : Bool
  fenceAt : Nat
  fenceInN : Bool
  /-- The start-up wait of R432: when it ends, absent peer's loss. -/
  waitUntil : Option Nat
  lostAt : Option Nat
  /-- Decision 1 written on side B, fence due (R442). -/
  fenceDue : Option Nat
  state3At : Nat
  arbState : Nat
  arbDecision : Nat
  arbTick : Nat
  /-- Current map, one byte per group (R433). -/
  owners : List Nat
  /-- Channels that this device drives, bit c for channel c (R24, R434). -/
  driven : Nat
  handovers : List Handover
  takeover : Option TakeoverSt
  takenOver : Bool
  /-- Bucket overrides as received and moves (R448, R450); the current homes that differ from the base. -/
  overrides : Tbl Nat
  moves : List BucketMove
  bucketCounts : Tbl Nat
  windowTotal : Nat
  lastTotal : Nat
  peerTotal : Nat
  homeShare : Nat
  shareLogged : Bool
  windowAt : Nat
  fpSplit : Bool
  mirrors : List MirrorWrite
  nextWrite : Nat
  held : List HeldRecord
  /-- Mirror room that the peer offers, MiB (R452). -/
  peerRoom : Nat
  peerDurable : Nat
  reqs : List LinkReq
  nextReq : Nat
  peerReqs : List (Nat × PeerReq)
  pairIdent : Nat
  /-- The pair map key in the AES units, and in the wrapped copy of the key store (R322, R535). -/
  mapKey : Option Nat
  wrappedMapKey : Option Nat
  peerRevision : Nat
  /-- Dormant record of the peer, last HEARTBEAT's state (R550). -/
  peerDormant : Bool
  returning : Nat
  /-- Key slots of a starting device that the serving peer has not named yet (R188, R447). -/
  stale : List Nat
  deriving DecidableEq, Repr

end Sys2Proof.Machine
end

