-- ==== Sys2Proof/Machine/StatePower.lean ====
section
/-! DEFINITION. State of power, clocks, reset, hold-up, airflow, firmware, dump and pins: chapters 18 to 21 of the
manual. -/

namespace Sys2Proof.Machine

/-- Where the device stands between power-up and service (R559 to R562). -/
inductive RunSt where
  | unpowered
  /-- PORST_N or FENCE_IN_N asserted, or REFCLK not yet stable. -/
  | reset
  /-- CORE_EN high, CORE_PG awaited (start-up step 2). -/
  | waitCore
  /-- Steps 3 to 12 of start-up. -/
  | starting
  | ready
  /-- PS_4. -/
  | dormant
  /-- Thermal shutdown, fatal error or CORE_PG failure (OD 0x2010:01 = 4). -/
  | halted
  deriving DecidableEq, Repr

/-- The dormancy record in AO (R549). -/
structure DormancyRecord where
  tick : Nat
  checkpoint : Nat
  durable : Nat
  deriving DecidableEq, Repr

structure PowerState where
  run : RunSt
  /-- PORST_N and FENCE_IN_N released is in PeerState; PORST_N here (true: asserted). -/
  porst : Bool
  /-- Straps as the pins stand: SIDE, NODE_ID, ENROL_EN, XSPI_SINGLE in the map of R605. -/
  strapPins : Nat
  coreEn : Bool
  corePg : Bool
  coreTries : Nat
  refclk : Bool
  sdclk : Bool
  /-- AO carries the counter through the absence of CORE (R407): the count and when it was handed over. -/
  carried : Option (Nat × Nat)
  startedAt : Nat
  /-- Effective state, the state that APST has reached, last operational state, last I/O activity (R547, R175). -/
  eff : Nat
  apst : Nat
  operational : Nat
  idleSince : Nat
  /-- An entry to PS_2, PS_3 or PS_4 under way (R548). -/
  entering : Option Nat
  dormancy : Option DormancyRecord
  vddqLow : Bool
  alarmInPs4 : Bool
  wakeAfterEntry : Bool
  pwrFail : Bool
  holdupOk : Bool
  holdupOkSince : Option Nat
  dirtyLimit : Nat
  /-- A power-fail flush runs (R46): its number. -/
  flushing : Option Nat
  /-- A reset cut an announced flush before its marker (R166). -/
  flushCut : Bool
  fatal : Option Nat
  frozenAt : Option Nat
  /-- The start-up step of R560 under way. -/
  stage : Nat
  /-- Thermal shutdown: junction too hot to start again (R552). -/
  hot : Bool
  /-- Attempts of R610 to report at the next ready (R619). -/
  coreFailures : Nat
  /-- Throttle step (R237) and the junction temperature conditions of OD 0x2010:0C and :0D. -/
  throttle : Nat
  overTemp : Bool
  underTemp : Bool
  /-- Power was lost and PWR_FAIL_N had not announced it (R622). -/
  unannounced : Bool
  deriving DecidableEq, Repr

/-! ## Airflow drive (chapter 19) -/

/-- A ramp of a commanded floor (R576). -/
structure FloorRamp where
  start : Nat
  target : Nat
  at_ : Nat
  dur : Nat
  deriving DecidableEq, Repr

/-- A fan channel (R582). `st`: 0 off, 1 sensing, 2 braking, 3 aligning, 4 ramping, 5 closed loop, 6 coasting,
7 catching, 8 failed, 9 not fitted. Speed in rpm, reference in 1/1,000 rpm, duty in 1/256 %, integrator in 10⁻⁵ of that; `since`:
when the state was entered, in closed loop the last run of the speed loop. -/
structure Fan where
  st : Nat
  since : Nat
  speed : Nat
  reference : Nat
  duty : Nat
  integral : Int
  advance : Nat
  idCurrent : Int
  keDev : Int
  keFault : Bool
  overcurrent : Bool
  lost : Bool
  lostAt : Nat
  ramp : Option FloorRamp
  /-- What follows a brake: 0 align, 1 off (R580), 2 align after the loss (R579). -/
  afterBrake : Nat
  rampTries : Nat
  catchTries : Nat
  /-- Sectors in a row within ±15° (R573), sector now driven, time of the last crossing. -/
  goodSectors : Nat
  sector : Nat
  lastCrossing : Nat
  periods : List Nat
  fullSince : Option Nat
  keSince : Option Nat
  closedSince : Nat
  keLogged : Bool
  nextStart : Nat
  deriving DecidableEq, Repr

/-- A fitted fan at rest. -/
def Fan.blank : Fan :=
  ⟨0, 0, 0, 0, 0, 0, 0, 0, 0, false, false, false, 0, none, 0, 0, 0, 0, 0, 0, [], none, none, 0, false, 0⟩

/-- The six fans at a release of PORST_N at a model time: fan n starts 100 + 250 n ms later (R580). -/
def fansReleased (now : Nat) : List Fan :=
  (List.range 6).map fun n => { Fan.blank with nextStart := now + (100 + 250 * n) * Config.ticksPerMs }

/-! ## Firmware and dump (chapter 20) -/

/-- States of a slot (R585). -/
inductive ImageSt where
  | empty | valid | pending | trial | active | failed
  deriving DecidableEq, Repr

/-- The code of a slot state (R585). -/
def ImageSt.code : ImageSt → Nat
  | .empty => 0 | .valid => 1 | .pending => 2 | .trial => 3 | .active => 4 | .failed => 5

structure ImageSlot where
  st : ImageSt
  image : Bytes
  deriving DecidableEq, Repr

/-- A delta being downloaded (R587): the partner and the bytes so far. -/
structure Delta where
  partner : Nat
  bytes : Bytes
  deriving DecidableEq, Repr

/-- A dump (R597). -/
structure Dump where
  seq : Nat
  cause : Nat
  tick : Nat
  reduced : Bool
  bytes : Bytes
  deriving DecidableEq, Repr

structure FirmwareState where
  slots : List ImageSlot
  booted : Nat
  delta : Option Delta
  /-- When the trial must be confirmed (R591, R592). -/
  confirmBy : Option Nat
  dump : Option Dump
  dumpSeq : Nat
  /-- Flash dump area, the newest first (R596). -/
  flashDumps : List Dump
  copying : Bool
  deriving DecidableEq, Repr

end Sys2Proof.Machine
end

