-- ==== Sys2Proof/Machine/StateSecurity.lean ====
section
/-! DEFINITION. State of the security units: owners, the link handshake, alarms: chapter 17 of the manual. -/

namespace Sys2Proof.Machine

/-- States of an owner record (R526). -/
inductive OwnerSt where
  | blank | valid | revoked | spent
  deriving DecidableEq, Repr

/-- An owner record in OTP (R526). -/
structure Owner where
  st : OwnerSt
  key : Bytes
  secret : Bytes
  deriving DecidableEq, Repr

/-- The link handshake (R532). -/
structure Handshake where
  /-- This device's ephemeral key pair drawn for the link-up: the draw, and the public point. -/
  draw : Nat
  pub : Bytes
  offerSent : Bool
  /-- The peer's OFFER: ephemeral key, identity key, owner digest. -/
  peerPub : Bytes
  peerIdent : Bytes
  peerDigest : Bytes
  /-- The whole body of the peer's OFFER, which both FINISH signatures cover. -/
  peerBody : Bytes
  offerOk : Bool
  deriving DecidableEq, Repr

/-- An enrolment or revocation that the other peer must also program (R530). -/
structure OwnerWrite where
  record : Nat
  revoke : Bool
  key : Bytes
  secret : Bytes
  deriving DecidableEq, Repr

structure SecState where
  owners : List Owner
  /-- OTP accepts programming and reads back (R528, R530). -/
  otpWorks : Bool
  shake : Handshake
  /-- Link key (R533), secure; `none` when zero. -/
  linkKey : Option Bytes
  sendCount : Nat
  recvCount : Nat
  /-- Invocation counts that the peer acknowledged (R533, kind 8). -/
  ackedCount : Nat
  /-- Alarm sources now tripped: bit 0 TAMPER_N, 1 voltage, 2 clock glitch, 3 temperature (R534). -/
  sources : Nat
  /-- An alarm latched in the AO domain (R536). -/
  latched : Nat
  clearSince : Nat
  /-- When event 0x1101 was last logged (R522). -/
  violationAt : Option Nat
  pendingOwner : Option OwnerWrite
  /-- Random words drawn so far: the next argument of Config.freeWord (the model's own). -/
  draws : Nat
  deriving DecidableEq, Repr

end Sys2Proof.Machine
end

