-- ==== Sys2Proof/Machine/StateSnap.lean ====
section
/-! DEFINITION. State of snapshots and replication sessions: chapter 15 of the manual. -/

namespace Sys2Proof.Machine

/-- A snapshot (R465, R484). `st`: 0 free, 1 armed, 2 live, 3 deleting. -/
structure Snapshot where
  num : Nat
  ns : Nat
  cut : Nat
  expiry : Nat
  st : Nat
  session : Option Nat
  /-- The cut has taken effect here; its state 2 record has been written (R469). -/
  launched : Bool
  liveWritten : Bool
  /-- Its retention has passed (R472); it is to be deleted once nothing holds it (R477); it has ended, and its number is free once its
  deletion is durable (R465). -/
  expired : Bool
  dropDue : Bool
  ended : Bool
  deriving DecidableEq, Repr

/-- A Snapshot create that waits for its cuts (R467, R469). -/
structure SnapCreate where
  q : QueueRef
  tag : CmdTag
  nums : List Nat
  cut : Nat
  all : Bool
  /-- The replication session whose cycle this is. -/
  session : Option Nat
  deriving DecidableEq, Repr

/-- A command outstanding at a remote target (R479). -/
structure RemoteCmd where
  key : Bytes
  delete : Bool
  value : Bytes
  retries : Nat
  retryAt : Option Nat
  deriving DecidableEq, Repr

/-- A replication session (R477 to R486). `st`: 0 disabled, 1 idle, 2 connecting, 3 shipping, 4 paused, 5 error,
6 held. -/
structure ReplSession where
  st : Nat
  base : Option Nat
  current : Option Nat
  baseTick : Nat
  currentTick : Nat
  /-- The last key visited; the last durable cursor. -/
  cursor : Bytes
  started : Bool
  durableCursor : Bytes
  durableStarted : Bool
  /-- Keys visited since the oldest that is still outstanding, and the last key before them. -/
  trail : List Bytes
  safe : Bytes
  cursorAt : Nat
  sinceCursor : Nat
  keysStored : Nat
  keysDeleted : Nat
  bytesSent : Nat
  lastDone : Nat
  skipped : Nat
  retries : Nat
  lastSct : Nat
  lastSc : Nat
  startedAt : Nat
  outstanding : List RemoteCmd
  /-- The key whose value is being read. -/
  reading : Option Bytes
  slot : Option Nat
  reconnectAt : Nat
  identified : Bool
  connected : Bool
  deriving DecidableEq, Repr

/-- A session that has never run. -/
def ReplSession.blank : ReplSession :=
  { st := 0, base := none, current := none, baseTick := 0, currentTick := 0, cursor := [], started := false, durableCursor := []
    durableStarted := false, trail := [], safe := [], cursorAt := 0, sinceCursor := 0, keysStored := 0, keysDeleted := 0
    bytesSent := 0, lastDone := 0, skipped := 0, retries := 0, lastSct := 0, lastSc := 0, startedAt := 0, outstanding := []
    reading := none, slot := none, reconnectAt := 0, identified := false, connected := false }

structure SnapState where
  snaps : List Snapshot
  creates : List SnapCreate
  sessions : List ReplSession
  deriving DecidableEq, Repr

end Sys2Proof.Machine
end

