-- ==== Sys2Proof/Machine/State.lean ====
section
/-! DEFINITION. The state of the device, its faults and refusals, and the state after reset. -/

namespace Sys2Proof.Machine

/-- One MBT-9600: every register, table, queue and pin the manual gives it. A register that has an entry in the object
dictionary and no other part in this structure has its home in `dict.cells` (R55). -/
structure Device where
  time : TimeState
  board : BoardState
  dict : DictState
  can : CanState
  ports : PortsState
  admin : AdminState
  nvme : NvmeState
  kv : KvState
  cam : CamState
  cipher : CipherState
  stripe : StripeState
  map : MapState
  media : MediaState
  peer : PeerState
  snap : SnapState
  eng : EngineState
  sec : SecState
  power : PowerState
  fans : List Fan
  fw : FirmwareState
  /-- Straps as last sampled: SIDE and NODE_ID (R13, R75, R605). -/
  side : Nat
  nodeId : Nat
  /-- Bits [7:1] of OD 0x2010:05 (R42), at their places. -/
  conditions : Nat
  out : List Output
  deriving DecidableEq, Repr

/-- The device and the commands that wait for it, first in, first out (log 9). -/
structure State where
  dev : Device
  pending : List Instr
  deriving DecidableEq, Repr

/-- Why a run ends although the manual describes the machine as going on or names no effect. -/
inductive Fault where
  /-- A mover addresses staging SRAM beyond its 128 MiB (R6): the manual gives no such address. Raised by MOVER_DONE.
  Safe: the machine stops. -/
  | stagingAddress (addr : Nat)
  deriving DecidableEq, Repr

/-- Why the model does not run a command. -/
inductive Refusal where
  /-- The command has no meaning in this model. Raised by Dispatch only. Safe: the machine stops. -/
  | notModelled (mnemonic : String)
  deriving DecidableEq, Repr

namespace Reset

/-- The timebase: the counter is not established, state UNSET (R404, R407). -/
def time : TimeState :=
  { now := 0, counter := 0, established := false, st := .unset, goodRun := 0, badRun := 0, agreeRun := 0,
    agreeOffset := 0, waitUntil := none, offsetPs := 0, freqPpb := 0, pathDelayNs := 0, integral := 0, slew := 0,
    sinceSlew := 0, masters := [], slavePort := 0xFF, grandmaster := 0, utcOffset := 0, delayReqAt := none,
    lastSync := (0, 0), rejected := [], lastLocked := 0, leader := 0, otherRanksSince := none, peerState := 0,
    peerRank := 0, peerOff := 0, peerOffKnown := false, agreeing := 0, laneAsymmetry := 0, traceDelay := 0,
    wakePulseUntil := 0, epochInLast := none, epochAbsent := false, lockReported := false }

/-- No entry armed (R412, R413). -/
def board : BoardState :=
  { entries := [], frozen := false, tick := 0, used := 0, placing := [], waiting := [], fullLogged := false,
    reports := [], early := [], lateSinceEvent := 0, lateEventAt := none, periodFrom := 0 }

/-- Every entry at its default (R55); the first persistent copy holds the defaults as the part leaves the factory, the second
is not programmed (log 62). -/
def dict : DictState :=
  { cells := [((0x2010 * 256 + 0x0A) * 2 ^ 20, 1)], nvA := ⟨1, true, []⟩, nvB := ⟨0, false, []⟩, nvWorks := true, restoreMarked := false, cursors := [],
    versions := [], assemblies := [], domains := [], challenges := [], sessions := [], lockCan := ⟨0, none⟩, lockBand := ⟨0, none⟩,
    held := [], nextReq := 1 }

/-- CAN FD is silent until its boot-up message (R74, R95). -/
def can : CanState :=
  { nmt := .silent, held := [], inhibitUntil := 0, conditions := [], droppedSinceEvent := 0, dropEventAt := none,
    heartbeatTimeout := false, lastHeartbeat := 0, errorPassive := false, transfers := [],
    tpdoSent := List.replicate 4 ([], 0), nominalRate := 2, dataRate := 1, heartbeatSent := 0 }

/-- A port without link, its counters zero. -/
def port : Port :=
  { link := 0, lanes := 0, rxFill := 0, pauseSent := false, pauseRenewAt := 0, pausedUntil := none, pfcUntil := List.replicate 8 none, txWait := [],
    ring := [], captured := 0, mac := List.replicate 21 0, ovf := 0, ovfReported := 0, echoWindow := 0, echoCount := 0, tcpPath := [], maxR2t := [] }

def ports : PortsState := { ports := List.replicate 8 port, assocs := [], qps := [] }

/-- An idle long-operation slot (R180). -/
def longSlot : LongSlot :=
  { state := 0, gen := 0, progress := 0, count := 0, results := [], op := .none, starter := none, entered := 0 }

/-- Counters at 0; the node-ID straps read 0, which is logged (R75, log 63). -/
def admin : AdminState :=
  { events := [⟨0, 1, 0x0302, 0x0070, 1, 0⟩], eventSeq := 1, errors := [], errorCount := 0, slots := List.replicate 64 longSlot, selfTest := none,
    selfTestLog := [], sanitize := none, sanitizeFailed := false, sanitizeFailedAuse := false, sanitizeStatus := 0, sanitizeDw10 := 0,
    sanitizeCount := 0, sanitizedAt := 0, dataUnitsRead := 0, dataUnitsWritten := 0, hostReads := 0, hostWrites := 0, mediaErrors := 0,
    powerOnHours := 0, powerCycles := 0, unsafeShutdowns := 0, criticalWarning := 0, fetched := [] }

def nvme : NvmeState :=
  { queues := [], arb := { partner := 0, picksLeft := 0, lastAssoc := [], lastQueue := [], credit := [], queue := none, burst := some 0 }, cmds := [],
    nextCmd := 1, locks := [], remoteLocks := [], nextFwd := 1, batches := [], writesStopped := false }

def kv : KvState :=
  { index := [], manifests := [], copies := [], salts := [], manifestCount := 0, cache := [], cacheGiB := 32, readCounts := [],
    unanswered := [], located := [], fetches := [], invalidating := [], owedAcks := [], durable := [], durableRefs := [], kept := [], hashSecret := 0 }

def cam : CamState :=
  { entries := [], dram := [], nv := [], queue := [], step := 0, powered := false }

def cipher : CipherState :=
  { slots := [], alarm := 0, erased := [], mismatches := [], disabled := 0, fallbacks := 0,
    fallbackEventAt := none }

def stripe : StripeState :=
  { stripes := [], gathers := [], seq := 0, queued := [], pages := [], pageSeq := 0, durableSeq := 0, tail := 0,
    copies := 0, rewriting := [], rings := [], mirror := [], copy3 := false, readOnly := false, checking := [], failed := [], timeouts := [],
    moves := [], relocs := [], repairs := [], lostStripes := [], lostKeys := [], lostSeq := 0, lostTruncated := false, lostLogged := false,
    unplaced := [] }

def map : MapState :=
  { blocks := [], residue := [], writeSeq := 0, pages := [], cacheGiB := 192, nextLid := 1, sealCount := 0, sealLimit := 0, manifestPage := 0,
    manifestFill := 0, locators := [], checkpoint := none, checkpointNum := 0, lastCheckpointAt := 0,
    checkpointAgain := false, startSeq := 0, ringOver75 := false, flushArea := 0, flushFree := 0, flushItems := [],
    flushes := [], flushNum := 0, flushPage := 0, flushPos := 0, capLogged := false, levels := [], moveRequests := [], eraseRequests := [],
    collectionStopped := false, sealPending := none, levelling := [] }

def media : MediaState :=
  { profiles := List.replicate 4 [], targets := [], markers := [], probing := [], rates := [], hints := [], ops := [], nextOp := 1, scales := [],
    ages := List.replicate 16 0, temps := List.replicate 16 0, maxTemps := List.replicate 16 0, ledgerDay := 0,
    ledger := [], lastPowered := 0, ledgerSaturated := false, lastFromDefault := false, gapAdded := false, bandChanged := [],
    defaultRefresh := [], defaultGap := 0, junctionBins := List.replicate 16 0,
    groupBins := List.replicate 16 (List.replicate 16 0), groupCounts := List.replicate 16 (List.replicate 5 0),
    spareBase := none, spareBelow := false, slcMinimum := false, nextSampleAt := 0 }

/-- Nothing of the peer is known; no pin is driven (R428 to R432). -/
def peer : PeerState :=
  { st := 0, met := false, peerWasServing := false, link := 0, treatedDown := false, lastHeartbeat := 0,
    heartbeatRun := 0, heartbeatSince := 0, helloSeen := false, helloDone := false, peerAnnounced := 0,
    classes := List.replicate 4 { sent := 0, received := 0, acked := 0, credit := 0, ackDue := none }, unacked := [],
    waiting := [], aliveOut := false, watchdogAt := 0, lastToggle := 0, aliveRun := 0, aliveLast := 0,
    aliveIn := false, fenceOut := false, fenceAt := 0, fenceInN := true, waitUntil := none, lostAt := none,
    fenceDue := none, state3At := 0, arbState := 0, arbDecision := 0, arbTick := 0,
    owners := List.replicate 16 0xF0, driven := 0, handovers := [], takeover := none, takenOver := false,
    overrides := [], moves := [], bucketCounts := [], windowTotal := 0, lastTotal := 0, peerTotal := 0, homeShare := 0,
    shareLogged := false, windowAt := 0, fpSplit := true, mirrors := [], nextWrite := 1, held := [], peerRoom := 0,
    peerDurable := 0, reqs := [], nextReq := 1, peerReqs := [], pairIdent := 0, mapKey := none, wrappedMapKey := none, peerRevision := 0,
    peerDormant := false, returning := 0, stale := [] }

def snap : SnapState :=
  { snaps := [], creates := [], sessions := List.replicate 16 ReplSession.blank }

def eng : EngineState :=
  { engines := List.replicate 64 Engine.blank, queues := List.replicate 4 [], image := List.replicate 4 [],
    dramImage := [], patch := [], activating := [], sram := [], ddr := [], flashBuf := [], linkBuf := [], claims := [],
    reissues := [], barred := [] }

def sec : SecState :=
  { owners := List.replicate 15 ⟨.blank, [], []⟩, otpWorks := true,
    shake := { draw := 0, pub := [], offerSent := false, peerPub := [], peerIdent := [], peerDigest := [],
               peerBody := [], offerOk := false },
    linkKey := none, sendCount := 0, recvCount := 0, ackedCount := 0, sources := 0, latched := 0, clearSince := 0,
    violationAt := none, pendingOwner := none, draws := 0 }

/-- PORST_N has just been released: start-up step 2, CORE_EN high, CORE_PG awaited (R560). -/
def power : PowerState :=
  { run := .waitCore, porst := false, strapPins := 0, coreEn := true, corePg := false, coreTries := 1, refclk := true,
    sdclk := true, carried := none, startedAt := 0, eff := 0, apst := 0, operational := 0, idleSince := 0,
    entering := none, dormancy := none, vddqLow := false, alarmInPs4 := false, wakeAfterEntry := false,
    pwrFail := false, holdupOk := false, holdupOkSince := none, dirtyLimit := 0, flushing := none, flushCut := false, fatal := none,
    frozenAt := none, stage := 2, hot := false, coreFailures := 0, throttle := 0, overTemp := false, underTemp := false,
    unannounced := false }

def fw : FirmwareState :=
  { slots := [⟨.active, Config.factoryImage⟩, ⟨.empty, []⟩], booted := 0, delta := none, confirmBy := none,
    dump := none, dumpSeq := 0, flashDumps := [], copying := false }

def dev : Device :=
  { time := time, board := board, dict := dict, can := can, ports := ports, admin := admin, nvme := nvme, kv := kv,
    cam := cam, cipher := cipher, stripe := stripe, map := map, media := media, peer := peer, snap := snap, eng := eng,
    sec := sec, power := power, fans := fansReleased 0, fw := fw, side := 0, nodeId := 0, conditions := 0x10,
    out := [] }

end Reset

/-- The device right after the release of PORST_N, before the first command. -/
def State.reset : State := { dev := Reset.dev, pending := [] }

end Sys2Proof.Machine
end

