-- ==== Sys2Proof/Machine/Ops.lean ====
section
/-! DEFINITION. The operations that every unit shares: outputs, the event log, EMCY messages, dictionary values and
counters, the passing of time, NVMe completions and asynchronous events. -/

namespace Sys2Proof.Machine

/-- Something leaves the device. -/
def emit (o : Output) (d : Device) : Device := { d with out := d.out ++ [o] }

/-! ## Dictionary values -/

/-- Key of a current value: index, subindex and, in a window, the record's number. -/
def odKey (idx sub sel : Nat) : Nat := (idx * 256 + sub) * 2 ^ 20 + sel

/-- Health-summary mapping of a TPDO (R81), in the CiA 301 form index, subindex, bits. -/
def tpdoMapDefault (n : Nat) : List Nat :=
  match n with
  | 0 => [0x20100108, 0x20100208, 0x20100310, 0x20100520]
  | 1 => [0x20100608, 0x20100708, 0x20100820, 0x20100908, 0x20100B08]
  | 2 => [0x20100410, 0x20100A20]
  | _ => []

/-- Default of a stripe class record (R312). -/
def stripeClassDefault (c : Nat) : Nat :=
  if c == 1 then 0x80030010 else if c == 2 then 0x80030008
  else if c == 3 then 0x8003001E else if c == 4 then 0x80030004 else 4

/-- Default of a search partition record (R242): TYPE [25:24], SIZE [23:16], BASE [14:8]. -/
def partitionDefault (n : Nat) : Nat :=
  if n == 0 then 1 * 2 ^ 24 + 1 * 2 ^ 16
  else if n == 1 then 2 * 2 ^ 24 + 16 * 2 ^ 16 + 1 * 2 ^ 8
  else if n == 2 then 3 * 2 ^ 24 + 110 * 2 ^ 16 + 17 * 2 ^ 8
  else 0

/-- Factory gear table (R186): bits [47:0] of bytes 0 to 7 of the SHA-256 digest of the bytes 0x47 and b. -/
def gearFactory (b : Nat) : Nat := leAt (sha256 [0x47, BitVec.ofNat 8 b]) 0 8 % 2 ^ 48

/-- The Default column, with the defaults that depend on the node-ID, the subindex or the record (R15). -/
def odDefault (node idx sub sel : Nat) : Nat :=
  if idx == 0x1014 then 0x80 + node
  else if 0x1800 ≤ idx ∧ idx ≤ 0x1803 ∧ sub == 1 then
    (if idx == 0x1803 then 0x80000480 else 0x180 + (idx - 0x1800) * 0x100) + node
  else if idx == 0x1800 ∧ sub == 5 then 1000
  else if (idx == 0x1801 ∨ idx == 0x1802) ∧ sub == 5 then 5000
  else if 0x1A00 ≤ idx ∧ idx ≤ 0x1A03 then
    let m := tpdoMapDefault (idx - 0x1A00)
    if sub == 0 then m.length else m.getD (sub - 1) 0
  else if idx == 0x1018 ∧ sub == 3 then Config.revisionNumber.toNat
  else if idx == 0x1018 ∧ sub == 4 then Config.serialNumber.toNat
  else if idx == 0x2910 ∧ 1 ≤ sub then stripeClassDefault sub
  else if idx == 0x2B10 ∧ 1 ≤ sub then partitionDefault (sub - 1)
  else if idx == 0x2510 ∧ sub == 2 then 2 ^ 32
  else if idx == 0x2610 ∧ sub == 2 then gearFactory (sel % 256)
  else if (idx == 0x2620 ∨ idx == 0x2630) ∧ sub == 2 then sel
  else match odEntry? idx sub with
    | some e => e.dflt
    | none => 0

/-- The current value of an entry whose home is the dictionary store. -/
def odSel (idx sub sel : Nat) (d : Device) : Nat :=
  tblGetD d.dict.cells (odKey idx sub sel) (odDefault d.nodeId idx sub sel)

/-- The current value of a plain entry. -/
def odVal (idx sub : Nat) (d : Device) : Nat := odSel idx sub 0 d

/-- Replace the current value; a value equal to the default takes no cell. -/
def odPutSel (idx sub sel v : Nat) (d : Device) : Device :=
  { d with dict := { d.dict with
      cells := tblStore (odDefault d.nodeId idx sub sel) d.dict.cells (odKey idx sub sel) v } }

/-- Replace the current value of a plain entry. -/
def odPut (idx sub v : Nat) (d : Device) : Device := odPutSel idx sub 0 v d

/-- Greatest value that an entry's type holds. -/
def odMax (idx sub : Nat) : Nat :=
  match odEntry? idx sub with
  | some e => 2 ^ (8 * e.typ.size) - 1
  | none => 0

/-- Add to a counter entry, saturating at its width. -/
def odBump (idx sub n : Nat) (d : Device) : Device :=
  odPut idx sub (min (odVal idx sub d + n) (odMax idx sub)) d

/-- The value of a signed entry. -/
def odSigned (size v : Nat) : Int :=
  if v < 2 ^ (8 * size - 1) then (v : Int) else (v : Int) - 2 ^ (8 * size)

/-- Two's complement of a signed value in `size` bytes. -/
def toUnsigned (size : Nat) (i : Int) : Nat := (i % (2 ^ (8 * size) : Int)).toNat

/-- Store a signed value in an entry of `size` bytes, clamped to its range. -/
def odPutInt (idx sub size : Nat) (i : Int) (d : Device) : Device :=
  let m : Int := 2 ^ (8 * size - 1)
  odPut idx sub (toUnsigned size (max (-m) (min (m - 1) i))) d

/-- The time of continuous idle counts from now (R175). -/
def restartIdle (d : Device) : Device := { d with power := { d.power with idleSince := d.time.now } }

/-- The table version of a window advances by 1 with every change (R69). -/
def bumpVersion (win : Nat) (d : Device) : Device :=
  { d with dict := { d.dict with
      versions := tblStore 0 d.dict.versions win ((tblGetD d.dict.versions win 0 + 1) % 2 ^ 32) } }

/-! ## Time -/

/-- Ticks slewed in `n` TIME cycles: at most one cycle in 5,000 advances the counter by 0 or 2 (R400). -/
def slewIn (n : Nat) (t : TimeState) : Nat := min t.slew.natAbs ((t.sinceSlew + n) / 5000)

/-- `n` TIME cycles pass (R400). -/
def passCycles (n : Nat) (t : TimeState) : TimeState :=
  let k := slewIn n t
  { t with
    now := t.now + n
    counter := if t.slew < 0 then t.counter + n - k else t.counter + n + k
    slew := if t.slew < 0 then t.slew + k else t.slew - k
    sinceSlew := if k == 0 then t.sinceSlew + n else (t.sinceSlew + n) % 5000 }

/-- The clock moves on to a model time, if that lies ahead (log 6). -/
def waitUntil (due : Nat) (d : Device) : Device :=
  if due ≤ d.time.now then d else { d with time := passCycles (due - d.time.now) d.time }

/-- The clock moves on until the counter reads at least `t`. -/
def waitTick (t : Nat) (d : Device) : Device :=
  if t ≤ d.time.counter then d
  else
    let n := t - d.time.counter
    let k := slewIn n d.time
    let n' := if d.time.slew < 0 then n + k else n - k
    { d with time := { d.time with
        now := d.time.now + n'
        counter := t
        slew := if d.time.slew < 0 then d.time.slew + k else d.time.slew - k
        sinceSlew := if k == 0 then d.time.sinceSlew + n' else (d.time.sinceSlew + n') % 5000 } }

/-- The counter as a unit or log record sees it. -/
def tick (d : Device) : Nat := d.time.counter

/-- Milliseconds in cycles. -/
def ms (n : Nat) : Nat := n * Config.ticksPerMs
/-- Microseconds in cycles. -/
def us (n : Nat) : Nat := n * Config.ticksPerUs
/-- Seconds in cycles. -/
def sec (n : Nat) : Nat := n * Config.ticksPerS

/-! ## The event log (R167, R621) -/

/-- Write an event record; the ring holds the newest 4,096. -/
def logEvent (code unit severity detail : Nat) (d : Device) : Device :=
  let r : Event := ⟨tick d, d.admin.eventSeq + 1, code, unit, severity, detail % 2 ^ 64⟩
  let d := { d with admin := { d.admin with
    events := (r :: d.admin.events).take 4096
    eventSeq := d.admin.eventSeq + 1 } }
  odBump 0x2010 0x0A 1 d

/-! ## EMCY (R79, R80) -/

/-- The EMCY service is active: pre-operational or operational (R74). -/
def emcyActive (d : Device) : Bool :=
  d.can.nmt == .preOperational || d.can.nmt == .operational

/-- OD 0x1001, the CANopen error register (R80). -/
def errorRegister (d : Device) : Nat :=
  let m := b2n (d.conditions != 0) * 128
    + b2n (d.can.heartbeatTimeout || d.can.errorPassive) * 16
    + b2n (d.power.throttle != 0) * 8 + b2n (bit d.sec.sources 1) * 4
    + b2n (d.fans.any fun f => f.overcurrent) * 2
  if m == 0 then 0 else m + 1

/-- Inhibit time OD 0x1015, in units of 100 µs as CiA 301 has it. -/
def inhibitTime (d : Device) : Nat := us (100 * odVal 0x1015 0 d)

/-- The EMCY goes out now and opens the inhibit time. -/
def transmitEmcy (e : Emcy) (d : Device) : Device :=
  let d := emit (.can (.emcy e.code (errorRegister d) e.event (e.tick % 2 ^ 32))) d
  { d with can := { d.can with inhibitUntil := d.time.now + inhibitTime d } }

/-- At most one event 0x0305 in a second tells of the EMCYs dropped since the last (R95). DESIGN CHOICE (log 208): it is logged at a drop
or at the end of an inhibit time; the spec does not say when drops within the second after one are. -/
def logDrops (d : Device) : Device :=
  let due := match d.can.dropEventAt with
    | none => true
    | some t => t + sec 1 ≤ d.time.now
  if due && d.can.droppedSinceEvent != 0 then
    let n := d.can.droppedSinceEvent
    logEvent 0x0305 0x0070 1 n
      { d with can := { d.can with droppedSinceEvent := 0, dropEventAt := some d.time.now } }
  else d

/-- Send an EMCY, or hold it within the inhibit time; beyond 16 held the newest is dropped and counted (R79). Bit [31] of the COB-ID in
OD 0x1014 turns the producer off, as for a TPDO (R81; DEDUCED). -/
def sendEmcy (code event : Nat) (d : Device) : Device :=
  if !emcyActive d || bit (odVal 0x1014 0 d) 31 then d
  else
    let e : Emcy := ⟨code, event, tick d⟩
    if d.can.inhibitUntil ≤ d.time.now ∧ d.can.held.isEmpty then transmitEmcy e d
    else if d.can.held.length < 16 then { d with can := { d.can with held := d.can.held ++ [e] } }
    else
      let d := odBump 0x2010 0x0E 1 d
      logDrops { d with can := { d.can with droppedSinceEvent := d.can.droppedSinceEvent + 1 } }

/-- A condition that raises an EMCY comes about; the key is its event code and unit (R79). -/
def raiseEmcy (key code event : Nat) (d : Device) : Device :=
  sendEmcy code event
    { d with can := { d.can with conditions := if d.can.conditions.contains key then d.can.conditions
                                               else key :: d.can.conditions } }

/-- A condition that raised an EMCY has cleared; with the last one, EMCY 0x0000 is sent with the event code of the entry that logs the
clearing, or else of the entry that logged the condition (R79). -/
def clearEmcy (key event : Nat) (d : Device) : Device :=
  if d.can.conditions.contains key then
    let cs := d.can.conditions.filter (· != key)
    let d := { d with can := { d.can with conditions := cs } }
    if cs.isEmpty then sendEmcy 0 event d else d
  else d

/-! ## Host ports: counters and what they send (R106, R117, R121) -/

def portOf (p : Nat) (d : Device) : Port := d.ports.ports.getD p Reset.port
def onPort (p : Nat) (f : Port → Port) (d : Device) : Device :=
  { d with ports := { d.ports with ports := modNth d.ports.ports p f } }
def portOd (p sub : Nat) (d : Device) : Nat := odVal (0x2300 + p) sub d
def hasLink (p : Nat) (d : Device) : Bool := (portOf p d).link == 2

/-- A counter's greatest value. -/
def macMax : Nat := 2 ^ 48 - 1

/-- Add to counter `n` of a port; when it reaches its greatest value its OVF bit is set, an event tells it and one EMCY goes out. -/
def macBump (p n k : Nat) (d : Device) : Device :=
  let old := (portOf p d).mac.getD (n - 1) 0
  let new := min (old + k) macMax
  let d := onPort p (fun x => { x with mac := x.mac.set (n - 1) new }) d
  if new == macMax && old != macMax then
    let reported := bit (portOf p d).ovfReported (n - 1)
    let d := onPort p (fun x => { x with ovf := setBit x.ovf (n - 1) true, ovfReported := setBit x.ovfReported (n - 1) true }) d
    let d := logEvent Config.saturationCode (0x0100 + p) Config.saturationSeverity (Config.saturationDetail p n) d
    if reported then d else raiseEmcy (0x04000000 + p * 256 + n) 0xFF00 (Config.saturationCode % 65536) d
  else d

/-- A good frame of some octets. -/
def goodFrame (p octets : Nat) (d : Device) : Device := macBump p 0x02 octets (macBump p 0x01 1 d)

/-- A good frame that a command of its own brings (ARP, ICMP, PTP, RoCEv2 notices): its octets are free. -/
def ownFrame (p : Nat) (d : Device) : Device := goodFrame p (Config.receivedOctets d.time.now d.out.length) d

/-- Priority of the frames that a port sends: that of its VLAN tag, else 0 (DEDUCED, log 213). -/
def framePriority (p : Nat) (d : Device) : Nat := if bit (portOd p 9 d) 12 then bits (portOd p 9 d) 15 13 else 0

/-- A time that has not come yet. -/
def ahead (t : Option Nat) (d : Device) : Bool := t.any (d.time.now < ·)

/-- A received PAUSE, or PFC for the priority of the port's frames, holds its transmission. -/
def pausedNow (p : Nat) (d : Device) : Bool :=
  if portOd p 0x0B d == 1 then ahead (portOf p d).pausedUntil d
  else if portOd p 0x0B d == 2 then ahead ((portOf p d).pfcUntil.getD (framePriority p d) none) d
  else false

/-- The TCP path of a connection: the MTU of an answer from the network, no more than the port's (R100). -/
def pathMtu (p conn : Nat) (d : Device) : Nat :=
  match tblGetD (portOf p d).tcpPath conn 0 with
  | 0 => portOd p 0x0D d
  | n => min n (portOd p 0x0D d)

/-- The association of a queue. -/
def assocOf (p a : Nat) (d : Device) : Option Assoc := d.ports.assocs.find? fun x => x.port == p && x.assoc == a

/-- The transport of an association is NVMe/RDMA. -/
def overRdma (q : QueueRef) (d : Device) : Bool := ((assocOf q.port q.assoc d).map (·.rdma)).getD false

/-- The TCP connection or queue pair of a queue. -/
def connOf (q : QueueRef) (d : Device) : Nat :=
  if q.qid == 0 then ((assocOf q.port q.assoc d).map (·.conn)).getD 0
  else ((d.nvme.queues.find? (·.ref == q)).map (·.conn)).getD 0

/-- Frames and octets that an output of a port takes; only those of PAUSE and PFC and the count of a single frame are the manual's. -/
def frameCost (p : Nat) (o : Output) (d : Device) : Nat × Nat :=
  let n := d.out.length
  match o with
  | .completion q _ _ _ _ _ _ =>
    let mtu := if overRdma q d then portOd p 0x0D d else pathMtu p (connOf q d) d
    (Config.sentFrames n mtu, Config.sentOctets n mtu)
  | .port _ (.pause _) => (1, 64)
  | .port _ (.pfc _ _) => (1, 64)
  | .port _ _ => (1, Config.sentOctets n (portOd p 0x0D d))
  | _ => (Config.sentFrames n (portOd p 0x0D d), Config.sentOctets n (portOd p 0x0D d))

/-- A port sends now, and counts it (R117). -/
def sendNow (p : Nat) (o : Output) (d : Device) : Device :=
  let c := frameCost p o d
  macBump p 0x0C c.2 (macBump p 0x0B c.1 (emit o d))

/-- What waited for the end of a PAUSE goes out. -/
def flushPort (d : Device) (p : Nat) : Device :=
  if (portOf p d).txWait.isEmpty || pausedNow p d then d
  else (portOf p d).txWait.foldl (fun d o => sendNow p o d) (onPort p (fun x => { x with txWait := [] }) d)

/-- A port sends, after what waits before it; PAUSE and PFC themselves are held by nothing (R106). -/
def sendOn (p : Nat) (o : Output) (d : Device) : Device :=
  match o with
  | .port _ (.pause _) => sendNow p o d
  | .port _ (.pfc _ _) => sendNow p o d
  | _ =>
    let d := flushPort d p
    if pausedNow p d then onPort p (fun x => { x with txWait := x.txWait ++ [o] }) d else sendNow p o d

/-! ## NVMe completions and asynchronous events (R164) -/

/-- The statuses of the NVMe base specification that the chapters name. -/
def Status.success : Status := ⟨0, 0, false⟩
def Status.invalidOpcode : Status := ⟨0, 0x01, true⟩
def Status.invalidField : Status := ⟨0, 0x02, true⟩
def Status.internalError : Status := ⟨0, 0x06, false⟩
def Status.invalidNamespace : Status := ⟨0, 0x0B, true⟩
def Status.sequenceError : Status := ⟨0, 0x0C, false⟩
def Status.sanitizeFailed : Status := ⟨0, 0x1C, true⟩
def Status.sanitizeInProgress : Status := ⟨0, 0x1D, false⟩
def Status.interrupted : Status := ⟨0, 0x21, false⟩
def Status.transferError : Status := ⟨0, 0x04, false⟩
def Status.sglLength : Status := ⟨0, 0x0F, true⟩
def Status.invalidKeySize : Status := ⟨1, 0x86, true⟩
def Status.keyAbsent : Status := ⟨1, 0x87, false⟩
def Status.keyExists : Status := ⟨1, 0x89, false⟩
/-- A vendor status, type 7: 0xC0 stripe lost, 0xC1 slot exhausted, 0xC2 denied, 0xC3 peer fenced, 0xC4 handle,
0xC5 read-only, 0xC6 value too large, 0xC7 shared chunks retained (R138, R620). -/
def Status.vendor (c : Nat) : Status := ⟨7, c, !(c == 0xC3 || c == 0xC5)⟩

/-- A completion can be sent: its association stands and its port has link (R112). -/
def reachable (q : QueueRef) (d : Device) : Bool :=
  (d.ports.ports.getD q.port Reset.port).link == 2 && d.ports.assocs.any fun a => a.port == q.port && a.assoc == q.assoc

/-- What a completion on a queue tells of its flow control (R107, R140): the head pointer, which passes fetched commands only, and the
slots free, whose number the queue's size less one bounds. -/
def flowOf (q : QueueRef) (inval : Bool) (d : Device) : Flow :=
  let inval := inval && overRdma q d
  if q.qid == 0 then
    match assocOf q.port q.assoc d with
    | some a => ⟨a.adminHead, a.adminSize - 1, inval⟩
    | none => ⟨0, 0, inval⟩
  else
    match d.nvme.queues.find? (·.ref == q) with
    | some x => ⟨x.head, x.size - 1 - x.slots.length, inval⟩
    | none => ⟨0, 0, inval⟩

/-- The frames of a completion leave its port: over RoCEv2, its data go before it by RDMA Write (R114). -/
def sendCompletion (q : QueueRef) (t : CmdTag) (st : Status) (dw0 dw1 : Nat) (data : Bytes) (d : Device) : Device :=
  let d := if overRdma q d && !data.isEmpty then sendOn q.port (.port q.port (.rdmaWrite q t.cid data.length)) d else d
  sendOn q.port (.completion q t.cid st dw0 dw1 data (flowOf q t.inval d)) d

/-- The status of an Error Information log entry: the status field of a completion, [15] DNR, [11:9] type, [8:1] code (R165). -/
def statusWord (st : Status) : Nat := b2n st.dnr * 2 ^ 15 + st.sct % 8 * 2 ^ 9 + st.sc % 256 * 2

/-- Post a completion; one that cannot be sent is lost. An unsuccessful one adds an entry to the Error Information log
(log 12). -/
def complete (q : QueueRef) (t : CmdTag) (st : Status) (dw0 dw1 : Nat) (data : Bytes) (d : Device) : Device :=
  let d := if reachable q d then sendCompletion q t st dw0 dw1 data d else d
  if st.sct == 0 && st.sc == 0 then d
  else
    let e : ErrorInfo := ⟨d.admin.errorCount + 1, q.qid, t.cid, statusWord st, t.nsid⟩
    { d with admin := { d.admin with errors := (e :: d.admin.errors).take 64, errorCount := e.count } }

/-- The bytes that SGL1 describes: in the capsule after `skip` bytes of key blocks, or fetched from the host's buffer (R127). -/
def sglData (skip : Nat) (c : Capsule) : Bytes :=
  match c.sqe.sglOff with
  | some o => slice (c.data.take c.icd) (skip + o) c.sqe.sgl
  | none => c.data.drop c.icd

/-- Requests that a command may have outstanding: R2Ts up to the host's MAXR2T (its field counts those beyond the first) and 16, and 16 RDMA
Reads (R113, R114). -/
def mostRequests (q : QueueRef) (d : Device) : Nat :=
  if overRdma q d then 16 else min 16 (tblGetD (portOf q.port d).maxR2t (connOf q d) 0 + 1)

/-- Ask the host for the data of a command that its capsule did not bring: pieces of MAXH2CDATA, or longer ones where the requests that may
be outstanding would not suffice. Their bytes are in `data` already. -/
def askData (q : QueueRef) (c : Capsule) (d : Device) : Device :=
  if c.sqe.sglOff.isSome || c.sqe.opcode % 4 != 1 then d
  else
    let n := mostRequests q d
    let len := max (2 ^ 20) ((c.sqe.sgl + n - 1) / n)
    (List.range ((c.sqe.sgl + len - 1) / len)).foldl (fun d i =>
      let m := min len (c.sqe.sgl - i * len)
      let f : PortFrame := if overRdma q d then .rdmaRead q c.sqe.cid (i * len) m else .r2t q c.sqe.cid (i * len) m
      sendOn q.port (.port q.port f) d) d

/-- Post a completion without data. -/
def completeSt (q : QueueRef) (t : CmdTag) (st : Status) (d : Device) : Device := complete q t st 0 0 [] d

/-- The association's Asynchronous Event Configuration admits the event: SMART bits [7:0], firmware activation [9]. -/
def aenEnabled (aec typ info warning : Nat) : Bool :=
  if typ == 1 then bit aec warning
  else if typ == 2 && info == 1 then bit aec 9
  else true

/-- Give an association's pending events to its outstanding requests; a reported kind is masked until its log page is
read. -/
def aenDeliver (a : Assoc) : Assoc × Option (QueueRef × CmdTag × Nat) :=
  match a.aers, a.events.find? (fun e => !a.masked.contains (e.1, e.2.2)) with
  | t :: rest, some e =>
    ({ a with aers := rest, events := a.events.erase e, masked := (e.1, e.2.2) :: a.masked },
     some (⟨a.port, a.assoc, 0⟩, t, e.2.2 * 65536 + e.2.1 * 256 + e.1))
  | _, _ => (a, none)

/-- Change the associations and complete the requests that are answered. -/
def aenUpdate (f : Assoc → Assoc × Option (QueueRef × CmdTag × Nat)) (d : Device) : Device :=
  let upd := d.ports.assocs.map f
  upd.foldl (fun d x => match x.2 with
    | some r => complete r.1 r.2.1 .success r.2.2 0 [] d
    | none => d) { d with ports := { d.ports with assocs := upd.map (·.1) } }

/-- An event for every association that `sel` picks. -/
def aenPost (sel : Assoc → Bool) (typ info page warning : Nat) (d : Device) : Device :=
  aenUpdate (fun a =>
    if sel a && !a.discovery && aenEnabled a.aec typ info warning then
      aenDeliver (if a.events.contains (typ, info, page) then a
                  else { a with events := a.events ++ [(typ, info, page)] })
    else (a, none)) d

/-- A read of a log page without Retain clears its events: those reported are unmasked, those that still wait are told no more. -/
def aenClear (port assoc page : Nat) (d : Device) : Device :=
  aenUpdate (fun a =>
    if a.port == port && a.assoc == assoc then
      aenDeliver { a with masked := a.masked.filter (·.2 != page), events := a.events.filter (·.2.2 != page) }
    else (a, none)) d

/-- Critical warning of log 0x02 (R166). -/
def criticalWarning (d : Device) : Nat :=
  b2n d.media.spareBelow + b2n (d.power.overTemp || d.power.underTemp) * 2
    + b2n (bit d.conditions 5 || bit d.conditions 3) * 4 + b2n (bit d.conditions 6) * 8
    + b2n (bit d.conditions 2) * 16

/-- The NVMe information code of a critical warning bit: 0 reliability, 1 temperature, 2 spare. -/
def warningInfo (n : Nat) : Nat := if n == 0 then 2 else if n == 1 then 1 else 0

/-- Take over the critical warning; each bit newly set raises a SMART event (R164). -/
def refreshWarning (d : Device) : Device :=
  let old := d.admin.criticalWarning
  let new := criticalWarning d
  let d := { d with admin := { d.admin with criticalWarning := new } }
  (List.range 5).foldl (fun d n =>
    if bit new n && !bit old n then aenPost (fun _ => true) 1 (warningInfo n) 0x02 n d else d) d

/-! ## Answers of the dictionary (R88) -/

/-- NVMe status of a CANopen abort code (R88). -/
def abortStatus (code : Nat) : Status :=
  if code == 0x08000020 then .vendor 0xC2
  else if code == 0x08000022 then .sequenceError
  else if code == 0x06060000 || code == 0x08000000 then .internalError
  else .invalidField

/-- Answer a dictionary access. `n` bytes read, `size` the whole value's size on a read. A USDO transfer of the
accessor's node ends with the answer (R77). -/
def answer (r : ReplyTo) (idx sub : Nat) (st : OdStatus) (data : Bytes) (n size : Nat) (d : Device) : Device :=
  match r, st with
  | _, .held => d
  | .accessor a, _ =>
    let d := match a with
      | .can node => { d with can := { d.can with transfers := d.can.transfers.filter (·.node != node) } }
      | _ => d
    emit (.od a idx sub st data) d
  | .completion q t bytes, .ok => complete q t .success (n + bytes) size data d
  | .completion q t _, .abort c => complete q t (abortStatus c) c 0 [] d

/-! ## Guarantee conditions (R41 to R44) -/

/-- OD 0x2010:05: bits [7:1], and bit [0] while any is set. -/
def guaranteeWord (d : Device) : Nat := d.conditions + b2n (d.conditions != 0)

/-- Set or clear bit `n` of OD 0x2010:05[7:1]; a change is logged, told to associations, and bits 5 and 6 (and the
hold-up condition, bit 2) send an EMCY when set. -/
def setCond (n : Nat) (b : Bool) (d : Device) : Device :=
  if bit d.conditions n == b then d
  else
    let d := { d with conditions := setBit d.conditions n b }
    let d := logEvent 0x0201 0x0040 (b2n b) (n * 256 + b2n b) d
    let d := aenPost (fun _ => true) 7 0x00 0xC5 0 d
    let d := refreshWarning d
    if n == 5 || n == 6 then
      (if b then raiseEmcy (0x020100 + n) 0xFF00 0x0201 d else clearEmcy (0x020100 + n) 0x0201 d)
    else if n == 2 then
      (if b then raiseEmcy 0x020102 0x3100 0x0201 d else clearEmcy 0x020102 0x0201 d)
    else d

/-! ## Random words -/

/-- The next random word of the device (a free value). -/
def draw (d : Device) : Nat × Device :=
  ((Config.freeWord d.sec.draws).toNat, { d with sec := { d.sec with draws := d.sec.draws + 1 } })

/-- `n` random words, as little-endian bytes. -/
def drawBytes : Nat → Device → Bytes × Device
  | 0, d => ([], d)
  | n + 1, d =>
    let w := draw d
    let r := drawBytes n w.2
    (leBytes 8 w.1 ++ r.1, r.2)

/-! ## Parts of the device -/

/-- This device is ready to serve (start-up step 12 done). -/
def isReady (d : Device) : Bool := d.power.run == .ready

/-- A power failure is announced, or its flush runs (R46, R49). -/
def powerFailing (d : Device) : Bool := d.power.pwrFail || d.power.flushing.isSome

/-- Power is on and reset is released. -/
def isUp (d : Device) : Bool :=
  match d.power.run with
  | .starting => true | .ready => true
  | _ => false

/-- A command whose effect is a change of the device and nothing else: its next state. -/
def next (s : State) (f : Device → Device) : Host.Outcome State Fault Refusal :=
  .next { s with dev := f s.dev }

/-- The side that this device takes (R13). -/
def sideOf (d : Device) : Nat := d.side

end Sys2Proof.Machine
end

