-- ==== Sys2Proof/Machine/Link.lean ====
section
/-! DEFINITION. The Jeunotte link: frames, classes, acknowledgement, retransmission and credit (R454 to R457). -/

namespace Sys2Proof.Machine

/-- The link carries frames. -/
def linkPhysical (d : Device) : Bool := 2 ≤ d.peer.link

/-- The link counts as up: HELLO has been exchanged and the link is not treated as down (R430, R411). -/
def linkIsUp (d : Device) : Bool := linkPhysical d && d.peer.helloDone && !d.peer.treatedDown

/-- Class of a message (R457). -/
def msgClass : LinkMsg → Nat
  | .ack => 0
  | .hello _ => 0
  | .heartbeat .. => 0
  | .place .. => 0
  | .armed _ => 0
  | .cancel _ => 0
  | .launchReport .. => 0
  | .handoverState .. => 3
  | .released .. => 0
  | .handoverAbort .. => 0
  | .loopback .. => 0
  | .fwdCmd .. => 2
  | .fwdData .. => 2
  | .fwdCompletion .. => 2
  | .lockReserve .. => 2
  | .lockReply .. => 2
  | .mirrorData .. => 1
  | .mirrorAck .. => 1
  | .mirrorRelease _ => 1
  | .journalPage _ => 1
  | .journalAck _ => 1
  | .journalResend .. => 1
  | .fpRequest .. => 2
  | .fpReply .. => 2
  | .invalidate .. => 2
  | .invalidateAck .. => 2
  | .unitRead .. => 2
  | .unitData .. => 3
  | .moveRequest .. => 2
  | .eraseRequest .. => 2
  | .requestDone .. => 2
  | .bucketRecords .. => 3
  | .drainDone .. => 0
  | .fpEntries _ => 3
  | .tableSync .. => 2
  | .tableAck .. => 2
  | .secure .. => 2

/-- Bytes of a secure body with its tag (R533). -/
def secureSize : SecureMsg → Nat
  | .offer .. => 336
  | .finish _ => 96
  | .slotKey .. => 40 + 16
  | .mapKey _ => 32 + 16
  | .hashSecret _ => 16 + 16
  | .salt .. => 16 + 16
  | .gear .. => 4104 + 16
  | .ack _ => 8 + 16
  | .ownerRecord b => b.length + 16

/-- Bytes of a manifest record (R201): header, key and chunk entries. -/
def manifestSize (m : Manifest) : Nat := 48 + m.key.length + 40 * m.chunks.length

/-- Payload bytes of a message (R457). A record's own layout counts as its fields do. -/
def msgSize : LinkMsg → Nat
  | .ack => 0
  | .hello _ => 72
  | .heartbeat .. => 64
  | .place .. => 40
  | .armed _ => 8
  | .cancel _ => 8
  | .launchReport .. => 16
  | .handoverState _ _ bs => 8 + 40 * bs.length
  | .released .. => 16
  | .handoverAbort .. => 8
  | .loopback _ p _ => 8 + p.length
  | .fwdCmd _ _ _ _ _ _ c => 96 + c.data.length
  | .fwdData _ _ b => 16 + b.length
  | .fwdCompletion .. => 32
  | .lockReserve _ ids => 16 + 48 * ids.length
  | .lockReply .. => 16
  | .mirrorData _ r =>
    16 + match r with
      | .roster _ _ _ k _ => 32 + k.length
      | .copy _ _ _ _ f => 64 + f.len
      | .manifest _ m => 16 + manifestSize m
  | .mirrorAck .. => 16
  | .mirrorRelease ws => 8 + 8 * ws.length
  | .journalPage _ => 16384
  | .journalAck _ => 8
  | .journalResend .. => 16
  | .fpRequest _ _ _ _ _ es => 56 + 16 * es.length
  | .fpReply _ _ _ _ es => 24 + 16 * es.length
  | .invalidate .. => 40
  | .invalidateAck .. => 40
  | .unitRead .. => 24
  | .unitData _ _ _ b => 24 + b.length
  | .moveRequest .. => 32
  | .eraseRequest .. => 24
  | .requestDone .. => 16
  | .bucketRecords _ rs => 8 + 64 * rs.length
  | .drainDone .. => 16
  | .fpEntries es => 8 + 96 * es.length
  | .tableSync _ _ _ _ v => 16 + v.length
  | .tableAck .. => 12
  | .secure _ m => 16 + secureSize m

/-- Bytes of a frame with a payload of `n` bytes (R455). -/
def frameBytes (n : Nat) : Nat := 32 + (if n == 0 then 0 else (n + 4 + 7) / 8 * 8)

/-- The class's counters. -/
def linkClass (cls : Nat) (d : Device) : LinkClass := d.peer.classes.getD cls ⟨0, 0, 0, 0, none⟩

/-- Change a class's counters. -/
def onClass (cls : Nat) (f : LinkClass → LinkClass) (d : Device) : Device :=
  { d with peer := { d.peer with classes := modNth d.peer.classes cls f } }

/-- Bytes sent in a class and not yet acknowledged. -/
def inFlight (cls : Nat) (d : Device) : Nat :=
  (d.peer.unacked.filter (·.cls == cls)).foldl (fun n f => n + frameBytes (msgSize f.msg)) 0

/-- The class's credit, in units of 256 bytes, admits the frame; before the first grant of a link-up no limit is known
(log 13). -/
def creditAdmits (cls : Nat) (m : LinkMsg) (d : Device) : Bool :=
  (linkClass cls d).credit == 0 || inFlight cls d + frameBytes (msgSize m) ≤ (linkClass cls d).credit * 256

/-- Put a frame on the link with the next sequence of its class; it carries the acknowledgement that was owed. -/
def transmit (cls : Nat) (m : LinkMsg) (d : Device) : Device :=
  let seq := (linkClass cls d).sent + 1
  let d := onClass cls (fun c => { c with sent := seq, ackDue := none }) d
  let d := { d with peer := { d.peer with
    unacked := d.peer.unacked ++ [⟨cls, seq, m, d.time.now⟩] } }
  odBump 0x2D00 0x08 (frameBytes (msgSize m)) (emit (.link cls m) d)

/-- Send a message: nothing while the link is down; behind earlier frames that wait for credit (R456). -/
def sendLink (m : LinkMsg) (d : Device) : Device :=
  let cls := msgClass m
  if !linkPhysical d then d
  else if creditAdmits cls m d && !d.peer.waiting.any (·.1 == cls) then transmit cls m d
  else { d with peer := { d.peer with waiting := d.peer.waiting ++ [(cls, m)] } }

/-- Send several messages in order. -/
def sendAll (ms : List LinkMsg) (d : Device) : Device := ms.foldl (fun d m => sendLink m d) d

/-- Frames that waited for credit go out as far as it admits, in order. -/
def drainWaiting (d : Device) : Device :=
  d.peer.waiting.foldl (fun d w => sendLink w.2 d) { d with peer := { d.peer with waiting := [] } }

/-- What an accepted header says of the frames sent: those of the class up to `ack` are acknowledged. -/
def takeAck (cls ack credit : Nat) (d : Device) : Device :=
  let d := onClass cls (fun c => { c with acked := max c.acked ack, credit := credit }) d
  drainWaiting { d with peer := { d.peer with
    unacked := d.peer.unacked.filter fun f => !(f.cls == cls && f.seq ≤ ack) } }

/-- A receiver accepts a frame only with both CRCs valid and the sequence next expected (R456). -/
def frameOk (h : FrameHdr) (cls : Nat) (d : Device) : Bool :=
  linkPhysical d && h.crcOk && h.seq == (linkClass cls d).received + 1

/-- The header of an accepted frame is taken: its bytes, sequence and acknowledgement, and an ACK is owed (R453, R456). -/
def arrived (h : FrameHdr) (cls : Nat) (d : Device) : Device :=
  let d := odBump 0x2D00 0x09 (frameBytes h.len) d
  let d := onClass cls (fun c => { c with received := h.seq, ackDue := some (c.ackDue.getD d.time.now) }) d
  takeAck cls h.ack h.credit d

/-- A frame arrives: a discarded one is counted, an accepted one acknowledges and has its effect. -/
def acceptFrame (h : FrameHdr) (cls : Nat) (f : Device → Device) (d : Device) : Device :=
  if !linkPhysical d then d
  else if !frameOk h cls d then odBump 0x2D00 0x03 1 d
  else f (arrived h cls d)

/-- An empty ACK frame: it carries the sequence that comes next, takes none, and is not itself acknowledged (log 14). -/
def execAck (h : FrameHdr) (cls : Nat) (s : State) : Host.Outcome State Fault Refusal :=
  next s fun d =>
    if !linkPhysical d then d
    else if !frameOk h cls d then odBump 0x2D00 0x03 1 d
    else takeAck cls h.ack h.credit (odBump 0x2D00 0x09 (frameBytes 0) d)

/-- The oldest unacknowledged frame of the class reaches 20 µs: it and every later frame of the class go out again. -/
def execFrameRetransmitTimer (cls : Nat) (s : State) : Host.Outcome State Fault Refusal :=
  next s fun d =>
    if !linkPhysical d then d
    else match d.peer.unacked.find? (·.cls == cls) with
      | none => d
      | some f0 =>
        let d := waitUntil (f0.sentAt + us 20) d
        let again := d.peer.unacked.filter (·.cls == cls)
        let d := { d with peer := { d.peer with
          unacked := d.peer.unacked.map fun f => if f.cls == cls then { f with sentAt := d.time.now } else f } }
        let d := onClass cls (fun c => { c with ackDue := none }) d
        again.foldl (fun d f =>
          odBump 0x2D00 0x04 1 (odBump 0x2D00 0x08 (frameBytes (msgSize f.msg)) (emit (.link cls f.msg) d))) d

/-- 2 µs after a frame came in a class without reverse traffic, an empty ACK goes out. -/
def execAckTimer (cls : Nat) (s : State) : Host.Outcome State Fault Refusal :=
  next s fun d =>
    match linkPhysical d, (linkClass cls d).ackDue with
    | true, some t =>
      let d := waitUntil (t + us 2) d
      odBump 0x2D00 0x08 (frameBytes 0) (emit (.link cls .ack) (onClass cls (fun c => { c with ackDue := none }) d))
    | _, _ => d

end Sys2Proof.Machine
end

