-- ==== Sys2Proof/Machine/Board.lean ====
section
/-! DEFINITION. The departure board: entries, placements, paired entries and their reports (R412 to R427, R457). -/

namespace Sys2Proof.Machine

/-! ## Entries -/

/-- A board entry (R413); an entry that was never written is free. -/
def boardEntry (n : Nat) (d : Device) : BoardEntry := tblGetD d.board.entries n .blank

/-- Replace a board entry; the table version of window 0x2C10 advances (R69). -/
def putEntry (n : Nat) (e : BoardEntry) (d : Device) : Device :=
  bumpVersion 0x2C10
    { d with board := { d.board with entries := tblStore .blank d.board.entries n e } }

/-- The body of a record on the link. -/
def BoardEntry.record (e : BoardEntry) : BoardRecord :=
  ⟨e.launch, e.arg, e.period, e.unit, e.action, e.urgent, e.paired⟩

/-- An armed entry from a record. -/
def armedEntry (r : BoardRecord) : BoardEntry :=
  { BoardEntry.blank with launch := r.launch, arg := r.arg, period := r.period, unit := r.unit, action := r.action,
                          urgent := r.urgent, paired := r.paired, state := 1 }

/-- The 32 bytes of an entry (R413). -/
def boardBytes (e : BoardEntry) : Bytes :=
  let flags := b2n e.late * 128 + b2n e.mismatch * 64 + b2n e.urgent * 16 + b2n e.paired * 8 + e.state
  leBytes 1 flags ++ [0] ++ leBytes 3 e.launches ++ leBytes 2 e.lateLaunches ++ leBytes 2 e.lateness ++
    leBytes 1 e.action ++ leBytes 2 e.unit ++ leBytes 4 e.period ++ leBytes 8 e.arg ++ leBytes 8 e.launch

/-- The writable fields of a written record: read-only fields of the entry stay (R413). -/
def boardWritten (old : BoardEntry) (v : Bytes) : BoardEntry :=
  { old with
    launch := leAt v 24 8, arg := leAt v 16 8, period := leAt v 12 4, unit := leAt v 10 2, action := leAt v 9 1,
    urgent := bit (leAt v 0 1) 4, paired := bit (leAt v 0 1) 3, state := leAt v 0 1 % 4 }

/-- Entries armed (OD 0x2C00:05). -/
def armedCount (d : Device) : Nat := (d.board.entries.filter (·.2.state == 1)).length

/-! ## Ticks of placement (R423) -/

/-- Pairing lead OD 0x2C00:04. -/
def pairingLead (d : Device) : Nat := odVal 0x2C00 0x04 d

/-- First multiple of `p` at or after `t`. -/
def alignUp (p t : Nat) : Nat := if p == 0 then t else (t + p - 1) / p * p

/-- The commit period in force at a tick: a new one holds from the hand-over tick at which entry 2 takes it (R423). -/
def commitPeriod (t : Nat) (d : Device) : Nat :=
  let old := (boardEntry 2 d).period
  if t < d.board.periodFrom && old != 0 then old else odVal 0x2C00 0x01 d

/-- The first commit-group boundary at or after a tick. -/
def boundaryFrom (t : Nat) (d : Device) : Nat := alignUp (commitPeriod t d) t

/-- The next commit-group boundary at least the pairing lead ahead. -/
def nextBoundary (d : Device) : Nat := boundaryFrom (d.time.counter + pairingLead d) d

/-- The next paired hand-over tick at least the pairing lead ahead. -/
def nextHandoverTick (d : Device) : Nat := alignUp 800000 (d.time.counter + pairingLead d)

/-- No peer serves beside this device: states 4 and 5 (R188, R421). -/
def noServingPeer (d : Device) : Bool := d.peer.st == 5 || d.peer.st == 4

/-- A serving peer over a link that counts as up. -/
def pairUp (d : Device) : Bool := d.peer.st == 1 && linkIsUp d

/-! ## Placement (R415, R419, R421) -/

/-- An entry that a placement under way has taken. -/
def reservedEntry (d : Device) (n : Nat) : Bool := d.board.placing.any (·.entry == n)

/-- The lowest of firmware's own entries that is neither armed nor reserved; 0 to 2 are fixed (R412). -/
def freeFirmwareEntry (d : Device) : Option Nat :=
  (List.range (3072 - 3)).findSome? fun k =>
    if (boardEntry (k + 3) d).state != 1 && !reservedEntry d (k + 3) then some (k + 3) else none

/-- A snapshot's cut leaves the board: its entry is cancelled, its placement withdrawn, its wait for an entry ended. -/
def dropCut (n : Nat) (d : Device) : Device :=
  let isCut := fun e : BoardEntry => e.action == 0x03 && e.arg % 4096 == n
  let armed := d.board.entries.filter fun r => r.2.state == 1 && isCut r.2
  let asked := d.board.placing.filter fun p => isCut p.body
  let d := armed.foldl (fun d r => putEntry r.1 { r.2 with state := 3 } d) d
  let d := asked.foldl (fun d p => sendLink (.cancel p.entry) d) d
  { d with board := { d.board with
      placing := d.board.placing.filter fun p => !isCut p.body
      waiting := d.board.waiting.filter fun w => !isCut w.body } }

/-- Snapshots whose cut will not launch go, and with them the other snapshots of their commands, which complete with Command Sequence
Error (R53, R421). -/
def endCuts (nums : List Nat) (d : Device) : Device :=
  let ended := d.snap.creates.filter fun c => c.nums.any fun n => nums.contains n
  let gone := nums ++ ended.flatMap (·.nums)
  let d := gone.eraseDups.foldl (fun d n => dropCut n d) d
  let d := bumpVersion 0x3310 { d with snap := { d.snap with
    snaps := d.snap.snaps.filter fun s => !gone.contains s.num
    creates := d.snap.creates.filter fun c => !ended.contains c } }
  let cleared := (ended.filterMap (·.session)).foldl (fun l n => modNth l n fun x => { x with current := none, currentTick := 0 }) d.snap.sessions
  let d := { d with snap := { d.snap with sessions := cleared } }
  ended.foldl (fun d c => if c.session.isSome then d else completeSt c.q c.tag .sequenceError d) d

/-- What needed a placement ends when it fails (R421). -/
def placementFailed (w : PlacementFor) (d : Device) : Device :=
  match w with
  | .firmware => d
  | .user _ reply => answer reply 0x2C10 2 (.abort 0x08000022) [] 0 0 d
  | .dict _ reply idx sub => answer reply idx sub (.abort 0x08000022) [] 0 0 d
  | .snapshot n => endCuts [n] d
  | .bucket b => { d with peer := { d.peer with
      moves := d.peer.moves.map fun m => if m.bucket == b then { m with entry := none } else m } }

/-- A placement has been made: a write that waited for it is confirmed; a slot command waits for the launch (R265). -/
def placementDone (w : PlacementFor) (entry : Nat) (d : Device) : Device :=
  match w with
  | .user _ reply => answer reply 0x2C10 2 .ok [] 0 0 d
  | .dict acc reply idx sub =>
    if idx == 0x2800 then
      { d with dict := { d.dict with held := d.dict.held ++ [⟨0, acc, reply, idx, sub, 0, [], some entry⟩] } }
    else answer reply idx sub .ok [] 0 0 d
  | .bucket b => { d with peer := { d.peer with
      moves := d.peer.moves.map fun m => if m.bucket == b then { m with entry := some entry } else m } }
  | .snapshot n =>
    (d.snap.snaps.filter (·.num == n)).foldl (fun d s =>
      { d with stripe := { d.stripe with queued := d.stripe.queued ++ [.snapshot n 1 s.ns s.cut s.expiry] } }) d
  | .firmware => d

/-- A placement has failed: group power-up is placed again at a later tick (R421); the other actions of firmware's are placed anew by the
operation that wants them. -/
def placeAgain (e : BoardEntry) (w : PlacementFor) (d : Device) : Device :=
  if w == .firmware && e.action == 0x08 then { d with board := { d.board with waiting := d.board.waiting ++ [⟨e, w⟩] } }
  else placementFailed w d

/-- Place a paired entry at index `n`: armed here alone without a serving peer, otherwise PLACE goes to the other peer,
and while the link is down the placement fails (R421). -/
def placePairedAt (n : Nat) (e : BoardEntry) (w : PlacementFor) (d : Device) : Device :=
  let e := { e with paired := true, state := 1 }
  if noServingPeer d then placementDone w n (putEntry n e d)
  else if pairUp d then
    sendLink (.place n e.record)
      { d with board := { d.board with placing := d.board.placing ++ [⟨n, e, w⟩] } }
  else placeAgain e w d

/-- Firmware places a paired entry in its own range, or waits for an entry (R419). -/
def placePaired (e : BoardEntry) (w : PlacementFor) (d : Device) : Device :=
  match freeFirmwareEntry d with
  | some n => placePairedAt n e w d
  | none =>
    let d := if d.board.fullLogged then d else logEvent 0x0D08 0x0051 1 e.action d
    { d with board := { d.board with waiting := d.board.waiting ++ [⟨{ e with paired := true }, w⟩], fullLogged := true } }

/-- Firmware arms a local entry in its own range, or waits for an entry. -/
def placeLocal (e : BoardEntry) (d : Device) : Device :=
  match freeFirmwareEntry d with
  | some n => putEntry n { e with paired := false, state := 1 } d
  | none =>
    let d := if d.board.fullLogged then d else logEvent 0x0D08 0x0051 1 e.action d
    { d with board := { d.board with waiting := d.board.waiting ++ [⟨e, .firmware⟩], fullLogged := true } }

/-- The first tick at which a flash group may power up: its stagger after each lower group that is on the board (R28, R424). -/
def afterGroups (e : BoardEntry) (d : Device) : Nat :=
  let bodies := d.board.entries.map (·.2) ++ d.board.placing.map (·.body)
  let lower := bodies.filter fun b => b.action == 0x08 && b.state != 3 && b.unit < e.unit
  lower.foldl (fun m b => max m (b.launch + (e.unit - b.unit) * odVal 0x2C00 0x08 d)) 0

/-- The tick a placement that waited takes: channel hand-overs, bucket moves and group power-ups are placed at a paired hand-over tick,
the others at a commit-group boundary (R28, R423, R424). -/
def waitedTick (e : BoardEntry) (d : Device) : Nat :=
  if e.action == 0x04 || e.action == 0x05 then nextHandoverTick d
  else if e.action == 0x08 then alignUp 800000 (max (nextHandoverTick d) (afterGroups e d))
  else nextBoundary d

/-- Entries have freed: the oldest waiting placement is made at the next tick that satisfies R421 and R423. -/
def placeWaiting (d : Device) : Device :=
  match d.board.waiting with
  | [] => d
  | w :: rest =>
    if (freeFirmwareEntry d).isNone || (w.body.paired && !noServingPeer d && !pairUp d) then d
    else
      let d := { d with board := { d.board with waiting := rest, fullLogged := !rest.isEmpty } }
      let e := { w.body with launch := max w.body.launch (waitedTick w.body d) }
      if e.paired then placePaired e w.who d else placeLocal e d

/-- Every placement that waits is tried once (R421). -/
def placeAllWaiting (d : Device) : Device := d.board.waiting.foldl (fun d _ => placeWaiting d) d

/-- A new entry of firmware's. -/
def firmwareEntry (action unit arg launch : Nat) (urgent : Bool) : BoardEntry :=
  { BoardEntry.blank with action := action, unit := unit, arg := arg, launch := launch, urgent := urgent, state := 1 }

/-! ## What fits an action (R415) -/

/-- UNIT and ARG fit the action, and a user may place it. -/
def userActionOk (e : BoardEntry) : Bool :=
  if e.urgent then false
  else if e.action == 0x0A then
    (0x0380 ≤ e.unit && e.unit ≤ 0x038F) && e.arg < 512 && (bit e.arg 8 || 16 ≤ e.arg % 256)
  else if e.action == 0x0B then
    ((0x0080 ≤ e.unit && e.unit ≤ 0x0085) || e.unit == 0x008F) && e.arg < 2 ^ 32 && !e.paired
  else e.action == 0x10

/-! ## Messages of paired entries (R421, R422) -/

/-- PLACE: arm the entry and answer ARMED. -/
def execPlace (h : FrameHdr) (entry : Nat) (body : BoardRecord) (s : State) :
    Host.Outcome State Fault Refusal :=
  next s <| acceptFrame h 0 fun d =>
    sendLink (.armed entry) (putEntry entry (armedEntry { body with paired := true }) d)

/-- ARMED: in time, the placing peer arms its entry; otherwise it cancels the placement. -/
def execArmed (h : FrameHdr) (entry : Nat) (s : State) : Host.Outcome State Fault Refusal :=
  next s <| acceptFrame h 0 fun d =>
    match d.board.placing.find? (·.entry == entry) with
    | none => d
    | some p =>
      let d := { d with board := { d.board with placing := d.board.placing.filter (·.entry != entry) } }
      if d.time.counter < p.body.launch - 1600 then placementDone p.who entry (putEntry entry p.body d)
      else placeWaiting (placeAgain p.body p.who (sendLink (.cancel entry) d))

/-- CANCEL: the entry is cancelled unless it has launched. -/
def execCancel (h : FrameHdr) (entry : Nat) (s : State) : Host.Outcome State Fault Refusal :=
  next s <| acceptFrame h 0 fun d =>
    let e := boardEntry entry d
    if e.state == 1 then putEntry entry { e with state := 3 } d else d

/-- A paired placement without ARMED 1,600 ticks before its launch is cancelled and fails. -/
def execPairedPlacementDeadline (entry : Nat) (s : State) : Host.Outcome State Fault Refusal :=
  next s fun d =>
    match d.board.placing.find? (·.entry == entry) with
    | none => d
    | some p =>
      let d := waitTick (p.body.launch - 1600) d
      let d := { d with board := { d.board with placing := d.board.placing.filter (·.entry != entry) } }
      placeWaiting (placeAgain p.body p.who (sendLink (.cancel entry) d))

/-- LAUNCH_REPORT: it answers this peer's own launch of the entry, or waits for it. -/
def execLaunchReport (h : FrameHdr) (entry tick : Nat) (s : State) : Host.Outcome State Fault Refusal :=
  next s <| acceptFrame h 0 fun d =>
    if d.board.reports.any fun r => r.1 == entry && r.2.1 == tick then
      { d with board := { d.board with
          reports := d.board.reports.filter fun r => !(r.1 == entry && r.2.1 == tick) } }
    else { d with board := { d.board with early := d.board.early ++ [(entry, tick)] } }

/-- An entry's launch is due to be reported by the other peer: 10 µs from now, unless its report is here already. -/
def awaitReport (entry tick : Nat) (d : Device) : Device :=
  if d.board.early.contains (entry, tick) then
    { d with board := { d.board with early := d.board.early.erase (entry, tick) } }
  else { d with board := { d.board with reports := d.board.reports ++ [(entry, tick, d.time.now)] } }

end Sys2Proof.Machine
end

