-- ==== Sys2Proof/Machine/Cam.lean ====
section
/-! DEFINITION. The associative search engine: partitions, matching, policy rules, group commands, the search queue and
the thermal throttle (R219 to R244). -/

namespace Sys2Proof.Machine

/-! ## Partitions (R223, R242) -/

/-- An entry that was never written: invalid, all fields zero. -/
def SearchEntry.blank : SearchEntry := ⟨0, 0, 0, 0, 0, false⟩

/-- The record of a partition. -/
def partRecord (n : Nat) (d : Device) : Nat := odVal 0x2B10 (n + 1) d
def partType (r : Nat) : Nat := bits r 25 24
def partSize (r : Nat) : Nat := bits r 23 16
def partBase (r : Nat) : Nat := bits r 14 8

/-- The entry lies in the partition's run of blocks of 1,024. -/
def inPart (r idx : Nat) : Bool := partBase r * 1024 ≤ idx && idx < (partBase r + partSize r) * 1024

/-- The partition of an entry, if any (R224). -/
def partOf (idx : Nat) (d : Device) : Option Nat :=
  (List.range 16).find? fun n => inPart (partRecord n d) idx

/-- The one partition of type 1 or of type 3. -/
def partOfType (t : Nat) (d : Device) : Option Nat :=
  (List.range 16).find? fun n => partType (partRecord n d) == t && partSize (partRecord n d) != 0

/-- Invalid entries of a search table leave it. -/
def dropEntries (gone : Nat → Bool) (t : Tbl SearchEntry) : Tbl SearchEntry := t.filter fun e => !gone e.1

/-- Type of the partition of an entry, 0 when it lies in none. -/
def typeOf (idx : Nat) (d : Device) : Nat :=
  match partOf idx d with
  | some n => partType (partRecord n d)
  | none => 0

/-! ## Matching (R219 to R221) -/

/-- The entry takes part in matching: live, or staged for removal. -/
def matchable (e : SearchEntry) : Bool := e.st == 1 || e.st == 3

/-- (s XOR KEY) AND MASK is zero. -/
def entryMatches (key : Nat) (e : SearchEntry) : Bool :=
  matchable e && ((key ^^^ e.key) &&& e.mask) == 0

/-- The winner among the listed entries of a partition: lowest PRIORITY, then lowest index. -/
def searchIn (t : Tbl SearchEntry) (r key : Nat) : Option (Nat × SearchEntry) :=
  t.foldl (fun best e =>
    if inPart r e.1 && entryMatches key e.2 then
      match best with
      | none => some e
      | some b => if e.2.prio < b.2.prio ∨ (e.2.prio = b.2.prio ∧ e.1 < b.1) then some e else best
    else best) none

/-- A search of partition `n` in the engine, or in the DRAM copy while the engine has no power (R240, R543). -/
def searchPart (n key : Nat) (d : Device) : Option (Nat × SearchEntry) :=
  searchIn (if d.cam.powered then d.cam.entries else d.cam.dram) (partRecord n d) key

/-! ## Search keys (R226) -/

/-- The first 16 bytes of a key, byte 0 at the top, padded with zeros. -/
def key16 (key : Bytes) : Nat := beNat (padTo 16 key)

/-- Search key of a policy rule. -/
def policyKey (ns : Nat) (key : Bytes) : Nat := ns * 2 ^ 128 + key16 key

/-- Search key of the hot set. -/
def hotKey (domain : Nat) (fp : Bytes) : Nat := domain * 2 ^ 144 + key16 fp * 2 ^ 16

/-! ## Bucket overrides and policy (R228, R231) -/

/-- The override of a bucket's home, if a live entry has one. -/
def overrideOf (bucket : Nat) (d : Device) : Option Nat :=
  match partOfType 1 d with
  | none => none
  | some n => (searchPart n bucket d).map fun r => r.2.data % 2

/-- The DATA of the policy of a key: the winner of the lowest-numbered partition of type 2 with a match, else 0. -/
def policyOf (ns : Nat) (key : Bytes) (d : Device) : Nat :=
  ((List.range 16).findSome? fun n =>
    let r := partRecord n d
    if partType r == 2 && partSize r != 0 then (searchPart n (policyKey ns key) d).map fun e => e.2.data
    else none).getD 0

/-- Fields of a policy's DATA (R230). -/
def denyDelete (p : Nat) : Bool := bit p 31
def denyStore (p : Nat) : Bool := bit p 30
def policyRetention (p : Nat) : Nat := bits p 29 27
def compressOff (p : Nat) : Bool := bit p 26
def policyClass (p : Nat) : Nat := bits p 25 21
def policyReplicate (p : Nat) : Bool := bit p 20
def policySession (p : Nat) : Nat := bits p 19 16
def slotOverride (p : Nat) : Bool := bit p 15
def policySlot (p : Nat) : Nat := bits p 11 0

/-! ## Entry writes (R221, R222, R227) -/

/-- Replace an entry at once, in the engine while it has power and in the DRAM copy of the type 1 and type 2 partitions. -/
def putSearchEntry (idx : Nat) (e : SearchEntry) (d : Device) : Device :=
  let keep := typeOf idx d == 1 || typeOf idx d == 2
  bumpVersion 0x2B20 { d with cam := { d.cam with
    entries := if d.cam.powered then tblStore .blank d.cam.entries idx e else d.cam.entries
    dram := if keep then tblStore .blank d.cam.dram idx e else d.cam.dram } }

/-- An entry as its window shows it; outside every partition it reads as zeros (R224). -/
def searchEntry (idx : Nat) (d : Device) : SearchEntry :=
  if (partOf idx d).isNone then .blank else tblGetD d.cam.entries idx .blank

/-- The 48 bytes of an entry's record (R243). -/
def searchBytes (e : SearchEntry) : Bytes :=
  leBytes 48 (e.key * 2 ^ 224 + e.mask * 2 ^ 64 + e.data * 2 ^ 32 + e.prio * 2 ^ 16 + b2n e.parityErr * 4 + e.st)

/-- The writable fields of a record. -/
def searchWritten (v : Bytes) : SearchEntry :=
  let n := leNat v
  ⟨bits n 383 224, bits n 223 64, bits n 63 32, bits n 31 16, bits n 1 0, false⟩

/-- Set the override of a bucket, or take it away when the home is the base home; firmware's entries have a MASK of all
ones and PRIORITY 0 (R227, R228). -/
def putOverride (bucket side : Nat) (base : Nat) (d : Device) : Device :=
  match partOfType 1 d with
  | none => d
  | some n =>
    let r := partRecord n d
    let now := if d.cam.powered then d.cam.entries else d.cam.dram
    let held := now.find? fun e => inPart r e.1 && matchable e.2 && e.2.key == bucket
    let e : SearchEntry := ⟨bucket, 2 ^ 160 - 1, side, 0, 1, false⟩
    match held with
    | some h => putSearchEntry h.1 (if side == base then .blank else e) d
    | none =>
      if side == base then d
      else
        let free := (List.range (partSize r * 1024)).find? fun k =>
          (tblGet? now (partBase r * 1024 + k)).isNone
        match free with
        | some k => putSearchEntry (partBase r * 1024 + k) e d
        | none => d

/-- Entries of fingerprints that this peer no longer owns leave the hot set: bit [0] of the fingerprint's byte 0 is bit 136 of the key
(R194, R229). -/
def hotSplit (d : Device) : Device :=
  match partOfType 3 d with
  | none => d
  | some n =>
    let gone := d.cam.entries.filter fun e => inPart (partRecord n d) e.1 && b2n (bit e.2.key 136) != d.side
    gone.foldl (fun d e => putSearchEntry e.1 .blank d) d

/-- Insert a fingerprint in the owner's hot set: at most one entry per KEY, a held one stays, none while throttled
(R229, R236). -/
def hotInsert (domain : Nat) (fp : Bytes) (copy : Nat) (d : Device) : Device :=
  match partOfType 3 d with
  | none => d
  | some n =>
    let r := partRecord n d
    let k := hotKey domain fp
    if !d.cam.powered || d.cam.step != 0 || (searchPart n k d).isSome then d
    else
      let used := (d.cam.entries.filter fun e => inPart r e.1).map (·.1)
      let idx := used.foldl (fun next i => if i == next then next + 1 else next) (partBase r * 1024)
      if inPart r idx then putSearchEntry idx ⟨k, 2 ^ 160 - 1, copy % 2 ^ 32, 0, 1, false⟩ d else d

/-- Remove the entry of a copy that has become PINNED or DEAD (R229). -/
def hotRemove (domain : Nat) (fp : Bytes) (copy : Nat) (d : Device) : Device :=
  match partOfType 3 d with
  | none => d
  | some n =>
    match searchPart n (hotKey domain fp) d with
    | some e => if e.2.data == copy % 2 ^ 32 then putSearchEntry e.1 .blank d else d
    | none => d

/-! ## Group commands (R234) -/

/-- A staged entry after a commit or an abort (R221). -/
def groupEntry (commit : Bool) (e : SearchEntry) : SearchEntry :=
  if e.st == 2 then (if commit then { e with st := 1 } else { e with st := 0 })
  else if e.st == 3 then (if commit then { e with st := 0 } else { e with st := 1 })
  else e

/-- POLICY_GROUP at its tick: ARG [11:8] command, [3:0] partition. -/
def applyPolicyGroup (arg : Nat) (d : Device) : Device :=
  let n := bits arg 3 0
  let commit := bits arg 11 8 == 1
  let r := partRecord n d
  let f := fun (t : Tbl SearchEntry) =>
    (t.map fun e => if inPart r e.1 then (e.1, groupEntry commit e.2) else e).filter fun e =>
      decide (e.2 ≠ SearchEntry.blank)
  let d := bumpVersion 0x2B20 { d with cam := { d.cam with
    entries := f d.cam.entries, dram := f d.cam.dram, nv := f d.cam.nv } }
  let d := odBump 0x2B00 0x08 1 d
  logEvent 0x0803 0x0020 0 (bits arg 11 8 * 2 ^ 36 + n * 2 ^ 32 + odVal 0x2B00 0x08 d % 2 ^ 32) d

/-! ## The search queue (R235, R236, R239) -/

/-- Give a request its place in the queue. -/
def queueSearch (cls part key : Nat) (engine : Option Nat) (d : Device) : Device :=
  let id := (d.cam.queue.map (·.id)).foldl max 0 + 1
  let q := d.cam.queue ++ [⟨id, cls, part, key, engine⟩]
  let d := { d with cam := { d.cam with queue := q } }
  if odVal 0x2B00 0x06 d < q.length then odPut 0x2B00 0x06 q.length d else d

/-- A hot-set search is diverted at any throttle step above 0 and above the diversion threshold. -/
def hotDiverted (d : Device) : Bool :=
  d.cam.step != 0 || odVal 0x2B00 0x04 d < d.cam.queue.length

/-- The request served next: the lowest class, then in order of arrival. -/
def nextSearch (d : Device) : Option SearchReq :=
  d.cam.queue.foldl (fun best r =>
    match best with
    | none => some r
    | some b => if r.cls < b.cls then some r else best) none

/-- What a search finds: class 2 in the type 1 partition, class 3 through the policy partitions in order, class 4 in the
type 3 partition. -/
def runSearch (r : SearchReq) (t : Tbl SearchEntry) (d : Device) : Option (Nat × SearchEntry) :=
  if r.cls == 3 then
    (List.range 16).findSome? fun n =>
      let p := partRecord n d
      if partType p == 2 && partSize p != 0 then searchIn t p r.key else none
  else match partOfType (if r.cls == 2 then 1 else 3) d with
    | some n => searchIn t (partRecord n d) r.key
    | none => none

/-- The partition type that a class of request searches. -/
def classType (cls : Nat) : Nat := if cls == 2 then 1 else if cls == 3 then 2 else 3

/-- A comparison found a parity error in an entry: it is counted, logged and rewritten from its source (R239). -/
def rewriteEntry (idx : Nat) (d : Device) : Device :=
  let e := if typeOf idx d == 3 then SearchEntry.blank else tblGetD d.cam.dram idx .blank
  let d := { d with cam := { d.cam with entries := tblStore .blank d.cam.entries idx e } }
  logEvent 0x0802 0x0020 1 ((partOf idx d).getD 0 * 2 ^ 20 + idx) (odBump 0x2B00 0x07 1 (bumpVersion 0x2B20 d))

/-- The answer to a search whose comparisons met parity errors at the entries `bad`: types 1 and 2 from the DRAM copy,
type 3 a miss. -/
def answerSearch (r : SearchReq) (bad : List Nat) (d : Device) : Option (Nat × SearchEntry) :=
  if bad.any fun i => typeOf i d == classType r.cls then
    (if r.cls == 4 then none else runSearch r d.cam.dram d)
  else if d.cam.powered then runSearch r d.cam.entries d
  else if r.cls == 4 then none
  else runSearch r d.cam.dram d

/-- Port 6 of an engine: hit [63], index [48:32], DATA [31:0] (log 15). -/
def searchPort (a : Option (Nat × SearchEntry)) : Nat :=
  match a with
  | some e => 2 ^ 63 + e.1 * 2 ^ 32 + e.2.data
  | none => 0

/-! ## Throttle (R237, R238) -/

/-- Threshold of a step in 0.1 °C. -/
def stepThreshold (n : Nat) : Int := 900 + 50 * (n : Int)

/-- The step that follows: up while the temperature has reached the next threshold, down while it has fallen 2 °C under
that of the present step. DESIGN CHOICE (log 223): at exactly 2 °C under it the step is left, as the sentence of R237 has it; its table
says "below". -/
def nextStep (temp : Int) : Nat → Nat → Nat
  | 0, st => st
  | n + 1, st =>
    if st < 4 ∧ stepThreshold (st + 1) ≤ temp then nextStep temp n (st + 1)
    else if 0 < st ∧ temp ≤ stepThreshold st - 20 then nextStep temp n (st - 1)
    else st

/-- The search engine's part of a change of step: register, event, EMCY on a rise. -/
def takeStep (temp : Int) (d : Device) : Device :=
  let d := odPutInt 0x2010 0x03 2 temp d
  let st := nextStep temp 5 d.cam.step
  if st == d.cam.step then d
  else
    let old := d.cam.step
    let d := { d with cam := { d.cam with step := st }, power := { d.power with throttle := st } }
    let d := odPut 0x2B00 0x01 st d
    let d := logEvent 0x0801 0x0020 1 (toUnsigned 2 temp * 256 + st) d
    if old < st then raiseEmcy 0x080100 0x4200 0x0801 d
    else if st == 0 then clearEmcy 0x080100 0x0801 d else d

end Sys2Proof.Machine
end

