-- ==== Sys2Proof/Machine/Cipher.lean ====
section
/-! DEFINITION. Key slots, invocation counters and their durable limits (R253 to R261, R275). -/

namespace Sys2Proof.Machine

/-- A record for the next commit group of the waybill journal. -/
def journalRecord (r : JRecord) (d : Device) : Device :=
  { d with stripe := { d.stripe with queued := d.stripe.queued ++ [r] } }

/-- A key slot; EMPTY as from the factory. -/
def slotOf (n : Nat) (d : Device) : KeySlot := tblGetD d.cipher.slots n .blank

/-- Replace a slot; window 0x2810's version advances. -/
def putSlot (n : Nat) (k : KeySlot) (d : Device) : Device :=
  bumpVersion 0x2810 { d with cipher := { d.cipher with slots := tblStore .blank d.cipher.slots n k } }

/-- Counter, durable limit and EXHAUSTED of a side. -/
def KeySlot.counter (k : KeySlot) (side : Nat) : Nat := if side == 0 then k.counterA else k.counterB
def KeySlot.limit (k : KeySlot) (side : Nat) : Nat := if side == 0 then k.limitA else k.limitB
def KeySlot.exhausted (k : KeySlot) (side : Nat) : Bool := if side == 0 then k.exhaustedA else k.exhaustedB

def KeySlot.setCounter (k : KeySlot) (side v : Nat) : KeySlot :=
  if side == 0 then { k with counterA := v } else { k with counterB := v }
def KeySlot.setLimit (k : KeySlot) (side v : Nat) : KeySlot :=
  if side == 0 then { k with limitA := v } else { k with limitB := v }
def KeySlot.setExhausted (k : KeySlot) (side : Nat) (v : Bool) : KeySlot :=
  if side == 0 then { k with exhaustedA := v } else { k with exhaustedB := v }

/-- The value that is never used (R258). -/
def counterMax : Nat := 2 ^ 48 - 1

/-- Record a new limit, 2^20 higher and capped, in the next commit group (R256). -/
def recordLimit (n : Nat) (d : Device) : Device :=
  let k := slotOf n d
  let side := d.side
  let limit := min (k.limit side + 2 ^ 20) counterMax
  journalRecord (.slotLimit n side limit (k.counter side)) (putSlot n { k with limitPending := some limit } d)

/-- The counter is within 2^19 of its limit and no new limit is on its way. -/
def needsLimit (k : KeySlot) (side : Nat) : Bool :=
  k.limitPending.isNone && k.limit side < k.counter side + 2 ^ 19 + 1 && k.limit side < counterMax

/-- Outcome of an encryption that asks for its invocation. -/
inductive Invocation where
  | refused
  | waits
  | gives (n : Nat)
  deriving DecidableEq, Repr

/-- An encryption under a slot takes its invocation (R255 to R258). -/
def takeInvocation (n : Nat) (d : Device) : Invocation × Device :=
  let k := slotOf n d
  let side := d.side
  let c := k.counter side
  if k.st != .active || d.cipher.alarm != 0 then (.refused, odBump 0x2800 0x07 1 d)
  else if k.exhausted side || c == counterMax then
    let d := odBump 0x2800 0x07 1 d
    if k.exhausted side then (.refused, d)
    else
      let d := putSlot n (k.setExhausted side true) d
      (.refused, raiseEmcy (0x09060000 + n) 0xFF00 0x0906 (logEvent 0x0906 0x0030 2 (side * 4096 + n) d))
  else if k.key.isNone then (.waits, d)
  else if k.limit side ≤ c then
    (.waits, if needsLimit k side then recordLimit n d else d)
  else
    let k := k.setCounter side (c + 1)
    let passed : Bool := !k.warned && odVal 0x2800 0x09 d * 2 ^ 48 < (c + 1) * 100
    let d := putSlot n { k with warned := k.warned || passed } d
    let d := if passed then logEvent 0x0905 0x0030 1 (side * 4096 + n) d else d
    (.gives c, if needsLimit k side then recordLimit n d else d)

/-- A SLOT_LIMIT record has become durable: the limit holds (R256); the other side's limit and counter are those that
its mirror carried (R275). -/
def limitDurable (n side limit counter : Nat) (d : Device) : Device :=
  let k := slotOf n d
  if side == d.side then
    let k := k.setLimit side (max limit (k.limit side))
    putSlot n { k with limitPending := if k.limitPending == some limit then none else k.limitPending } d
  else putSlot n ((k.setLimit side limit).setCounter side counter) d

/-- The counters of an ACTIVE slot restart at the durable limit, and a new one is recorded (R257). -/
def restartCounters (n : Nat) (d : Device) : Device :=
  let k := slotOf n d
  if k.st == .active then
    recordLimit n (putSlot n { k with counterA := k.limitA, counterB := k.limitB, limitPending := none } d)
  else d

/-- A fresh key is drawn into a slot, its wrapped copies written, counters and limits zero, ACTIVE (R265). -/
def freshKey (n tenant : Nat) (d : Device) : Device :=
  let k := slotOf n d
  let a := drawBytes 4 d
  let key := leNat a.1
  let d := putSlot n
    { KeySlot.blank with st := .active, tenant := tenant, keygen := (k.keygen + 1) % 2 ^ 32, wrapped := true,
                         key := some key, stored := some key } a.2
  recordLimit n d

/-- A slot command that did not complete leaves the slot EMPTY; its key generation stands. -/
def clearSlot (n : Nat) (d : Device) : Device := putSlot n { KeySlot.blank with keygen := (slotOf n d).keygen } d

/-- A slot is zeroed, its wrapped copies destroyed, EMPTY; KEYGEN advances (R267). -/
def emptySlot (n : Nat) (d : Device) : Device :=
  let k := slotOf n d
  putSlot n { KeySlot.blank with keygen := (k.keygen + 1) % 2 ^ 32 } d

/-- Slots in state 1 (OD 0x2800:05). -/
def activeSlots (d : Device) : Nat := (d.cipher.slots.filter (·.2.st == .active)).length

/-- The 32 bytes of a slot's record (R275). -/
def slotBytes (k : KeySlot) : Bytes :=
  leBytes 32 (k.tenant * 2 ^ 240 + k.keygen * 2 ^ 208 + k.counterA * 2 ^ 160 + k.counterB * 2 ^ 112 + k.limitA * 2 ^ 64
    + k.limitB * 2 ^ 16 + b2n k.exhaustedB * 1024 + b2n k.exhaustedA * 512 + b2n k.wrapped * 256 + k.st.code)

/-- What the slot says of a store form at lock grant, for the domain's tenant (R261). -/
def slotForStore (n tenant : Nat) (d : Device) : Option Status :=
  let k := slotOf n d
  if k.st == .zeroised || d.cipher.alarm != 0 then some .interrupted
  else if k.st != .active then some (.vendor 0xC1)
  else if k.tenant != tenant then some (.vendor 0xC2)
  else if k.exhausted d.side then some (.vendor 0xC1)
  else none

/-- What the slot says of a retrieve form at lock grant. -/
def slotForRetrieve (n : Nat) (d : Device) : Option Status :=
  if (slotOf n d).st == .zeroised || d.cipher.alarm != 0 then some .interrupted else none

/-- The IV of an encryption (R254). -/
def ivOf (side slot invocation : Nat) : Bytes := beBytes 4 (side * 4096 + slot) ++ beBytes 8 invocation

/-- The additional data of a copy (R253). -/
def copyAad (domain slot num plainLen : Nat) (fp : Bytes) (enc : Nat) : Bytes :=
  leBytes 2 domain ++ leBytes 2 slot ++ leBytes 4 num ++ leBytes 4 plainLen ++ padTo 32 fp ++ leBytes 1 enc ++ [0, 0, 0]

/-- The stored form of a copy (R245): prefix, ciphertext, tag. -/
def storedForm (key side slot invocation : Nat) (aad encoded : Bytes) (enc : Nat) : Bytes :=
  let ct := gcmSeal (leBytes 32 key) (ivOf side slot invocation) aad encoded
  leBytes 6 invocation ++ [BitVec.ofNat 8 side, BitVec.ofNat 8 enc] ++ ct.1 ++ ct.2

/-- The encoded chunk that a stored form holds, when its prefix and tag hold (R263). -/
def openForm (key slot : Nat) (aad : Bytes) (form : Bytes) : Option Bytes :=
  let side := leAt form 6 1
  let enc := leAt form 7 1
  let body := form.drop 8
  if 2 ≤ side ∨ 2 ≤ enc ∨ body.length < 16 then none
  else gcmOpen (leBytes 32 key) (ivOf side slot (leAt form 0 6)) aad (body.take (body.length - 16))
    (body.drop (body.length - 16))

/-- Sixteen fingerprint-prefix bytes (R189). -/
def fpPrefix (salt : Bytes) (slot : Nat) : Bytes := padTo 12 salt ++ leBytes 2 slot ++ [0, 0]

/-- The fingerprint of a chunk (R189). -/
def fingerprint (salt : Bytes) (slot : Nat) (chunk : Bytes) : Bytes := sha256 (fpPrefix salt slot ++ chunk)

end Sys2Proof.Machine
end

