-- ==== Sys2Proof/Machine/Profile.lean ====
section
/-! DEFINITION. Flash profiles: their layout, the checks of a profile, geometry, cell modes, code strengths and read
thresholds, and the LDPC codes (R361 to R376). -/

namespace Sys2Proof.Machine

/-! ## Layout (R363 to R365) -/

/-- The sections that follow the header, back to back: type and bytes. -/
def sectionsFrom : Nat → Bytes → List (Nat × Bytes)
  | 0, _ => []
  | n + 1, bs => (leAt bs 0 2, bs.take (leAt bs 4 4)) :: sectionsFrom n (bs.drop (leAt bs 4 4))

/-- The eight sections of a profile. -/
def profileSections (p : Bytes) : List (Nat × Bytes) := sectionsFrom 8 (p.drop 64)

/-- The section of a type; empty when absent. -/
def profileSection (p : Bytes) (t : Nat) : Bytes :=
  match (profileSections p).find? (·.1 == t) with
  | some s => s.2
  | none => []

/-- Targets per package. -/
def pfTargets (p : Bytes) : Nat := leAt (profileSection p 1) 11 1
/-- Expected READ ID bytes and the mask. -/
def pfId (p : Bytes) : Nat := leAt (profileSection p 1) 16 8
def pfIdMask (p : Bytes) : Nat := leAt (profileSection p 1) 24 8
/-- LUNs per target, planes per LUN, most planes in a multi-plane program, page main and spare bytes, blocks per
plane. -/
def pfLuns (p : Bytes) : Nat := leAt (profileSection p 2) 8 1
def pfPlanes (p : Bytes) : Nat := leAt (profileSection p 2) 9 1
def pfMaxPlanes (p : Bytes) : Nat := leAt (profileSection p 2) 10 1
def pfMain (p : Bytes) : Nat := leAt (profileSection p 2) 12 2
def pfSpare (p : Bytes) : Nat := leAt (profileSection p 2) 14 2
def pfBlocks (p : Bytes) : Nat := leAt (profileSection p 2) 16 4
/-- Highest rates in MT/s with 1 to 4 and with 5 to 8 packages. -/
def pfRate (p : Bytes) (packages : Nat) : Nat := leAt (profileSection p 3) (if packages ≤ 4 then 8 else 10) 2
/-- Rate of a channel with `n` matched targets: the lower of the profile's for its packages and the interface's (R367). -/
def trainedRate (p : Bytes) (n : Nat) : Nat :=
  let packages := if pfTargets p == 0 then n else (n + pfTargets p - 1) / pfTargets p
  min (pfRate p packages) (if packages ≤ 4 then 3200 else 2400)
/-- Command slot `n`. -/
def pfCommand (p : Bytes) (n : Nat) : Nat := leAt (profileSection p 4) (8 + 2 * n) 2
/-- Program and erase can be suspended and resumed (R378). -/
def pfSuspends (p : Bytes) : Bool :=
  pfCommand p 14 != 0 && pfCommand p 15 != 0 && pfCommand p 16 != 0 && pfCommand p 17 != 0

/-- Native mode code, number of cell modes, and the 32-byte record of a mode. -/
def pfNative (p : Bytes) : Nat := leAt (profileSection p 5) 8 1
def pfModes (p : Bytes) : Nat := leAt (profileSection p 5) 9 1
def pfModeRecords (p : Bytes) : List Bytes :=
  (List.range (pfModes p)).map fun i => slice (profileSection p 5) (16 + 32 * i) 32
def pfMode (p : Bytes) (mode : Nat) : Bytes := ((pfModeRecords p).find? fun r => leAt r 0 1 == mode).getD []

/-- Fields of a mode's record: pages per block, tR, tPROG and tBERS in µs, rated P/E cycles, refresh age in hours, and the
current in mA of kind 0 read, 1 program, 2 erase. -/
def modePages (m : Bytes) : Nat := leAt m 2 2
def modeTr (m : Bytes) : Nat := leAt m 4 2
def modeTprog (m : Bytes) : Nat := leAt m 6 2
def modeTbers (m : Bytes) : Nat := leAt m 8 2
def modeRated (m : Bytes) : Nat := leAt m 12 4
def modeRefreshAge (m : Bytes) : Nat := leAt m 16 4
def modeCurrent (m : Bytes) (kind : Nat) : Nat := leAt m (20 + 2 * kind) 2

/-- Threshold blocks, one for each mode, of 264 + 16E bytes. -/
def thresholdBlocks : Nat → Bytes → List Bytes
  | 0, _ => []
  | n + 1, bs => bs.take (264 + 16 * leAt bs 1 1) :: thresholdBlocks n (bs.drop (264 + 16 * leAt bs 1 1))

def pfThresholds (p : Bytes) : List Bytes := thresholdBlocks (pfModes p) ((profileSection p 6).drop 8)
def pfThreshold (p : Bytes) (mode : Nat) : Bytes := ((pfThresholds p).find? fun r => leAt r 0 1 == mode).getD []
/-- Soft-read and code blocks of each mode. -/
def pfSoft (p : Bytes) : List Bytes :=
  (List.range (pfModes p)).map fun i => slice (profileSection p 7) (8 + 32 * i) 32
def pfCodes (p : Bytes) : List Bytes :=
  (List.range (pfModes p)).map fun i => slice (profileSection p 8) (8 + 24 * i) 24
def pfCode (p : Bytes) (mode : Nat) : Bytes := ((pfCodes p).find? fun r => leAt r 0 1 == mode).getD []

/-- The band of a value among `n` bands whose upper bounds stand from offset `o`: the first bound above the value, the
last band otherwise. -/
def bandOf (t : Bytes) (o n v : Nat) : Nat :=
  ((List.range (n - 1)).find? fun i => v < leAt t (o + 4 * i) 4).getD (n - 1)

/-- P/E band of an erase count and age band of a thermal age in hours. -/
def peBand (t : Bytes) (erases : Nat) : Nat := bandOf t 8 (leAt t 2 1) erases
def ageBand (t : Bytes) (hours : Nat) : Nat := bandOf t 36 (leAt t 3 1) hours

/-- Entry of step 1 from the default grid (R376). -/
def gridEntry (t : Bytes) (erases hours : Nat) : Nat := leAt t (64 + 8 * peBand t erases + ageBand t hours) 1

/-- Retry order of a P/E band: its first N entries. -/
def retryOrder (t : Bytes) (erases : Nat) : List Nat :=
  (List.range (leAt t 4 1)).map fun i => leAt t (128 + 16 * peBand t erases + i) 1

/-- Code strength of a block (R375). -/
def strengthOf (p : Bytes) (mode erases : Nat) : Nat :=
  leAt (pfCode p mode) (2 + peBand (pfThreshold p mode) erases) 1

/-- Refresh errors for a strength. -/
def refreshErrors (p : Bytes) (mode strength : Nat) : Nat :=
  leAt (pfCode p mode) (if strength == 4 then 12 else if strength == 6 then 14 else 16) 2

/-! ## LDPC codes (R371 to R373) -/

/-- Size of a circulant. -/
def ldpcP : Nat := 509

/-- Stored bytes of a codeword of strength J: 4,116 carried bytes and J × 509 parity bits. -/
def storedCodeword (j : Nat) : Nat := 4116 + (j * ldpcP + 7) / 8

/-- P^e times a block: row r takes the bit at (r + e) mod 509. -/
def rotBlock (e : Nat) (x : BitVec 509) : BitVec 509 := x.rotateRight (e % ldpcP)

/-- s_i = the sum over j of P^(i (j + 1)) u_j. -/
def ldpcSyndrome (u : List (BitVec 509)) (i : Nat) : BitVec 509 :=
  (u.zip (List.range u.length)).foldl (fun s b => s ^^^ rotBlock (i * (b.2 + 1)) b.1) 0

/-- p_0 = s_0 and p_i = s_i xor p_(i−1) (R373). -/
def ldpcParity (u : List (BitVec 509)) : Nat → List (BitVec 509)
  | 0 => []
  | n + 1 =>
    let ps := ldpcParity u n
    ps ++ [ldpcSyndrome u n ^^^ ps.getLastD 0]

/-- The 69 information blocks of the 4,116 carried bytes: bit n is bit n mod 8 of byte n / 8, the rest zero (R372). -/
def ldpcBlocks (carried : Bytes) : List (BitVec 509) :=
  (List.range 69).map fun j => BitVec.ofNat 509 (leNat carried / 2 ^ (j * ldpcP))

/-- Check i of H times a codeword (R371): block row i of H_I, the identity and the block below it. -/
def ldpcCheck (u p : List (BitVec 509)) (i : Nat) : BitVec 509 :=
  ldpcSyndrome u i ^^^ p.getD i 0 ^^^ (if i == 0 then 0 else p.getD (i - 1) 0)

/-- All J × 509 checks are satisfied. -/
def ldpcSatisfied (j : Nat) (u p : List (BitVec 509)) : Bool := (List.range j).all fun i => ldpcCheck u p i == 0

/-- The carried bytes of codeword c of a unit: payload, its share of the page header, CRC-32C (R368, R372). -/
def carriedBytes (payload header : Bytes) (c : Nat) : Bytes :=
  let body := padTo 4096 payload ++ slice header (16 * (c % 4)) 16
  body ++ leBytes 4 (crc32c body)

/-- A stored codeword of strength J (R373). -/
def codeword (j : Nat) (carried : Bytes) : Bytes :=
  let ps := ldpcParity (ldpcBlocks carried) j
  carried ++ leBytes (storedCodeword j - 4116)
    ((ps.zip (List.range j)).foldl (fun v b => v + b.1.toNat * 2 ^ (b.2 * ldpcP)) 0)

/-! ## Checks of a profile (R362) -/

/-- A strength of 4, 6 or 8 fits the page (R368). -/
def strengthFits (p : Bytes) (j : Nat) : Bool :=
  (j == 4 || j == 6 || j == 8) && pfMain p / 4096 * storedCodeword j ≤ pfMain p + pfSpare p

/-- Length that a section must have. -/
def sectionLength (p : Bytes) (t : Nat) : Nat :=
  if t == 1 then 32 else if t == 2 then 32 else if t == 3 then 80 else if t == 4 then 80
  else if t == 5 then 16 + 32 * pfModes p
  else if t == 6 then 8 + ((pfThresholds p).map fun b => 264 + 16 * leAt b 1 1).sum
  else if t == 7 then 8 + 32 * pfModes p
  else 8 + 24 * pfModes p

/-- Binding of a group: its slot, or 0xFF (R361). -/
def binding (g : Nat) (d : Device) : Nat := odVal 0x3448 (g + 1) d

/-- Budget of a group in tokens (R386). -/
def groupBudget (g : Nat) (d : Device) : Nat := odVal 0x3460 (g + 1) d

/-- The smallest budget of a bound group × 1/8, in tokens (R389); `none` when no group is bound. -/
def smallestShare (d : Device) : Option Nat :=
  ((List.range 16).filter fun g => binding g d < 4).foldl (fun m g =>
    match m with
    | none => some (groupBudget g d / 8)
    | some s => some (min s (groupBudget g d / 8))) none

/-- Largest current of any operation of a profile, in mA. -/
def mostCurrent (p : Bytes) : Nat :=
  ((pfModeRecords p).map fun m => max (modeCurrent m 0) (max (modeCurrent m 1) (modeCurrent m 2))).foldl max 0

/-- A current within 75 % of a share. -/
def currentFits (current : Nat) (share : Option Nat) : Bool :=
  match share with
  | none => true
  | some s => current * 100 ≤ s * 10 * 75

/-- Channels of a group that carry more than two matched targets. -/
def manyTargets (g : Nat) (d : Device) : Bool :=
  (List.range 8).any fun c => 2 < (d.media.targets.filter (·.channel == 8 * g + c)).length

/-- The number of the first check of R362 that a profile for `slot` fails. -/
def profileCheck (slot : Nat) (p : Bytes) (d : Device) : Option Nat :=
  let modes := pfModeRecords p
  let codes := modes.map fun m => leAt m 0 1
  let crc := crc32 (p.take 12 ++ [0, 0, 0, 0] ++ p.drop 16)
  if !(leAt p 0 4 == 0x5046424D && leAt p 4 2 == 1 && leAt p 6 2 == 8 && leAt p 8 4 == p.length &&
      512 ≤ p.length && p.length ≤ 65536 && leAt p 12 4 == crc) then some 1
  else if !((profileSections p).map (·.1) == [1, 2, 3, 4, 5, 6, 7, 8] &&
      (profileSections p).all (fun s => leAt s.2 4 4 == sectionLength p s.1 && s.2.length == sectionLength p s.1) &&
      p.length == 64 + ((profileSections p).map fun s => s.2.length).sum) then some 2
  else if !((leAt (profileSection p 1) 8 1 == 1 || leAt (profileSection p 1) 8 1 == 2) &&
      (1 ≤ leAt (profileSection p 1) 9 1 && leAt (profileSection p 1) 9 1 ≤ 3) &&
      leAt (profileSection p 1) 10 1 == 12) then some 3
  else if !(((List.range 12).all fun n => pfCommand p n != 0) && pfCommand p 13 != 0 &&
      (pfCommand p 12 != 0 || !((List.range 16).any fun g => binding g d == slot && manyTargets g d))) then some 4
  else if !(codes.contains 1 && codes.contains (pfNative p) &&
      codes.all (fun m => (pfThresholds p).countP (fun b => leAt b 0 1 == m) == 1 &&
        (pfSoft p).countP (fun b => leAt b 0 1 == m) == 1 && (pfCodes p).countP (fun b => leAt b 0 1 == m) == 1))
    then some 5
  else if !(codes.all fun m => (List.range (leAt (pfThreshold p m) 2 1)).all fun b =>
      strengthFits p (leAt (pfCode p m) (2 + b) 1)) then some 6
  else if !(currentFits (mostCurrent p) (smallestShare d)) then some 7
  else none

/-- The sections that must agree when a group with written blocks is bound anew (R366): identity, geometry, cell modes,
code choice. -/
def sameMedium (a b : Bytes) : Bool :=
  [1, 2, 5, 8].all fun t => profileSection a t == profileSection b t

/-- The profile of a group: the slot that it is bound to, when that holds one. -/
def profileOf (g : Nat) (d : Device) : Option Bytes :=
  let b := binding g d
  if b < 4 then
    let p := d.media.profiles.getD b []
    if p.isEmpty then none else some p
  else none

/-- A LUN of the group takes units of `u` steps of 16 KiB (R279, R368). -/
def unitFits (p : Bytes) (u : Nat) : Bool :=
  let bytes := (u + 1) * 16384
  pfMain p != 0 && bytes % pfMain p == 0 && bytes / pfMain p ≤ pfMaxPlanes p

/-! ## Thermal age (R379) -/

/-- Fixed point with 64 fractional bits. -/
def fx : Int := 2 ^ 64

/-- Terms of the exponential series of x in fixed point. -/
def expSeries (x : Int) : Nat → Int → Int → Int
  | 0, _, acc => acc
  | n + 1, term, acc =>
    let t := term * x / fx / ((24 - n : Nat) : Int)
    expSeries x n t (acc + t)

/-- exp x in fixed point: the series at x / 2^8, then squared eight times. -/
def expFixed (x : Int) : Int :=
  (List.range 8).foldl (fun v _ => v * v / fx) (expSeries (x / 256) 24 fx fx)

/-- AF(θ) in 1/65,536 for θ in 0.1 °C and E_a in meV; k_B = 8.617 333 × 10^−5 eV/K. -/
def acceleration (theta : Int) (ea : Nat) : Nat :=
  -- The temperatures are 6,263 / 20 K and (2θ + 5,463) / 20 K, and E_a / k_B is E_a × 10^8 / 8,617,333 K.
  let t : Int := 2 * theta + 5463
  let x : Int := (ea : Int) * 100000000 * 20 * (t - 6263) * fx / (8617333 * 6263 * t)
  (expFixed x / 2 ^ 48).toNat

end Sys2Proof.Machine
end

