-- ==== Sys2Proof/Machine/Store.lean ====
section
/-! DEFINITION. Look-ups in the store: buckets and homes, namespaces, domains and classes, the key index, manifests and
copies (R17, R155, R189 to R207). -/

namespace Sys2Proof.Machine

/-! ## Buckets and homes (R17, R194, R448) -/

/-- The 64-bit SipHash value of a key under the pair's secret. -/
def keyHash (ns : Nat) (key : Bytes) (d : Device) : Nat := sipHash d.kv.hashSecret (leBytes 4 ns ++ key)

/-- Home bucket of a key. -/
def bucketOf (ns : Nat) (key : Bytes) (d : Device) : Nat := keyHash ns key d % 4096

/-- The home that a bucket has without an entry of its own: the base home; after a takeover and until its end the survivor for
every bucket (R444, R447). -/
def defaultHome (b : Nat) (d : Device) : Nat :=
  if d.peer.takenOver then d.side else if d.peer.fpSplit then b % 2 else 1 - d.side

/-- Home side of a bucket: this device's while no peer serves beside it, once a takeover is complete; until a takeover has ended what the
moves have given; otherwise the HOME_SIDE of its live type 1 entry, and without one the base home (R228, R448). -/
def homeOf (b : Nat) (d : Device) : Nat :=
  if d.peer.st == 5 && d.peer.takeover.isNone then d.side
  else if d.peer.fpSplit && !d.peer.takenOver then (overrideOf b d).getD (b % 2)
  else tblGetD d.peer.overrides b (defaultHome b d)

/-- Home side of a key. -/
def keyHome (ns : Nat) (key : Bytes) (d : Device) : Nat := homeOf (bucketOf ns key d) d

/-- Side that owns a fingerprint. -/
def fpOwner (fp : Bytes) (d : Device) : Nat :=
  if noServingPeer d && d.peer.takeover.isNone then d.side
  else if d.peer.fpSplit then leAt fp 0 1 % 2
  else if d.peer.takenOver then d.side else 1 - d.side

/-- This device owns the fingerprint. -/
def ownsFp (fp : Bytes) (d : Device) : Bool := fpOwner fp d == d.side

/-! ## Namespaces, domains and classes -/

/-- Record of a namespace (R159). -/
def nsRecord (ns : Nat) (d : Device) : Nat := odSel 0x2510 2 (ns - 1) d
def nsDefined (ns : Nat) (d : Device) : Bool := 1 ≤ ns && ns ≤ 1024 && bit (nsRecord ns d) 0
def nsSlot (ns : Nat) (d : Device) : Nat := bits (nsRecord ns d) 27 16
def nsClass (ns : Nat) (d : Device) : Nat := bits (nsRecord ns d) 36 32
def nsPorts (ns : Nat) (d : Device) : Nat := bits (nsRecord ns d) 47 40

/-- Domain of a namespace and tenant of a domain (R192). -/
def nsDomain (ns : Nat) (d : Device) : Nat := odSel 0x2630 2 (ns - 1) d % 1024
def domainTenant (dom : Nat) (d : Device) : Nat := odSel 0x2620 2 dom d % 65536
def nsTenant (ns : Nat) (d : Device) : Nat := domainTenant (nsDomain ns d) d

/-- Record of a stripe class (R312): enabled, K and the unit in steps of 16 KiB, less one. -/
def classRecord (c : Nat) (d : Device) : Nat := odVal 0x2910 c d
def classEnabled (c : Nat) (d : Device) : Bool := 1 ≤ c && c ≤ 31 && bit (classRecord c d) 31
def classK (c : Nat) (d : Device) : Nat := bits (classRecord c d) 4 0
def classUnit (c : Nat) (d : Device) : Nat := bits (classRecord c d) 17 16

/-- Slot and class that a key's new copies take (R230). -/
def keySlotFor (ns policy : Nat) (d : Device) : Nat := if slotOverride policy then policySlot policy else nsSlot ns d
def classFor (ns policy : Nat) (d : Device) : Nat := if policyClass policy == 0 then nsClass ns d else policyClass policy

/-! ## The key index (R21, R324) -/

/-- The index entry of a key. -/
def keyEntry? (ns : Nat) (key : Bytes) (d : Device) : Option KeyEntry :=
  d.kv.index.find? fun e => e.ns == ns && e.key == key

/-- Version that a view at `cut` sees: the newest whose commit tick is at most the cut. -/
def versionAt (cut : Nat) (e : KeyEntry) : Option Version := e.versions.find? (·.tick ≤ cut)

/-- The live version of a key, if it is present. -/
def liveVersion (ns : Nat) (key : Bytes) (d : Device) : Option Version :=
  match keyEntry? ns key d with
  | none => none
  | some e => match e.versions with
    | v :: _ => if v.tombstone then none else some v
    | [] => none

/-- Order of keys: namespace first, then bytes (R123). -/
def keyBefore (a b : KeyEntry) : Bool := a.ns < b.ns || (a.ns == b.ns && bytesLt a.key b.key)

/-- Put an entry in its place in key order. -/
def insertKey : List KeyEntry → KeyEntry → List KeyEntry
  | [], e => [e]
  | x :: xs, e =>
    if x.ns == e.ns && x.key == e.key then e :: xs
    else if keyBefore e x then e :: x :: xs
    else x :: insertKey xs e

/-- A key of a bucket that moves away has changed: its record goes to the new home again (R450). -/
def noteMoved (ns : Nat) (key : Bytes) (d : Device) : List BucketMove :=
  if d.peer.moves.isEmpty then []
  else
    let b := bucketOf ns key d
    d.peer.moves.map fun m => if m.old && m.bucket == b then { m with unsent := m.unsent.filter (· != (ns, key)) ++ [(ns, key)] } else m

/-- Replace an index entry; one without versions is removed. -/
def putKey (e : KeyEntry) (d : Device) : Device :=
  let d := { d with peer := { d.peer with moves := noteMoved e.ns e.key d } }
  let index := if e.versions.isEmpty then d.kv.index.filter (fun x => !(x.ns == e.ns && x.key == e.key))
    else insertKey d.kv.index e
  { d with kv := { d.kv with index := index } }

/-- Snapshots that hold versions of a namespace: armed, live or being deleted (R26, R465); an armed one at its cut, launched or still to
launch. -/
def holdingSnaps (ns : Nat) (d : Device) : List Snapshot :=
  d.snap.snaps.filter fun s => s.ns == ns && s.st != 0 && !s.ended

/-- A version reached by a snapshot whose cut it meets. -/
def heldBy (s : Snapshot) (e : KeyEntry) (v : Version) : Bool := versionAt s.cut e == some v

/-- Keep the newest version and those that a snapshot reaches; a lone tombstone goes (R324). -/
def pruneVersions (e : KeyEntry) (d : Device) : KeyEntry :=
  match e.versions with
  | [] => e
  | v :: vs =>
    let keep := vs.filter fun w => (holdingSnaps e.ns d).any fun s => heldBy s e w
    { e with versions := if keep.isEmpty && v.tombstone then [] else v :: keep }

/-! ## Manifests and copies -/

/-- The manifest of a sequence. -/
def manifestOf (mseq : Nat) (d : Device) : Option Manifest := d.kv.manifests.find? (·.seq == mseq)

/-- The next manifest sequence of this peer (R201). -/
def nextManifest (d : Device) : Nat × Device :=
  let n := d.kv.manifestCount + 1
  (d.side * 2 ^ 63 + n, { d with kv := { d.kv with manifestCount := n } })

/-- A copy by domain, fingerprint and number. -/
def isCopy (domain : Nat) (fp : Bytes) (num : Nat) (c : Copy) : Bool :=
  c.domain == domain && c.num == num && c.fp == fp

def copyOf (domain : Nat) (fp : Bytes) (num : Nat) (d : Device) : Option Copy := d.kv.copies.find? (isCopy domain fp num)

/-- Change a copy. -/
def onCopy (domain : Nat) (fp : Bytes) (num : Nat) (f : Copy → Copy) (d : Device) : Device :=
  { d with kv := { d.kv with copies := d.kv.copies.map fun c => if isCopy domain fp num c then f c else c } }

/-- Add a copy. -/
def addCopy (c : Copy) (d : Device) : Device := { d with kv := { d.kv with copies := d.kv.copies ++ [c] } }

/-- Take a copy's entry away (R326). -/
def dropCopy (domain : Nat) (fp : Bytes) (num : Nat) (d : Device) : Device :=
  { d with kv := { d.kv with copies := d.kv.copies.filter fun c => !isCopy domain fp num c } }

/-- A copy that a claim may find (R195). -/
def Copy.matchable (c : Copy) : Bool := !c.pinned && !c.dead && !c.detached

/-- The matchable copy of a fingerprint. -/
def matchableCopy (domain : Nat) (fp : Bytes) (d : Device) : Option Copy :=
  d.kv.copies.find? fun c => c.domain == domain && c.fp == fp && c.matchable

/-- Lowest copy number that no entry of the fingerprint holds (R196). -/
def lowestCopy (domain : Nat) (fp : Bytes) (d : Device) : Nat :=
  let held := (d.kv.copies.filter fun c => c.domain == domain && c.fp == fp).map (·.num)
  ((List.range (held.length + 1)).find? fun n => !held.contains n).getD 0

/-- A pending copy as a claim creates it. -/
def newCopy (domain : Nat) (fp : Bytes) (num : Nat) : Copy :=
  { domain := domain, fp := fp, num := num, refs := 1, present := false, pinned := false, dead := false,
    detached := false, enc := .raw, plain := [], storedLen := 0, slot := 0, invocation := 0, keygen := 0, side := 0, cls := 0,
    retention := 0, extents := [], keyHash := 0, claimants := [], handed := false, settled := 0, past := [], plainLen := 0, lost := false }

/-- Greatest reference count (R206). -/
def refMax : Nat := 0xFFFFFF

/-- Committed references of a copy: its count without the claims outstanding (R204, R205). A pinned count no longer tells (R206). -/
def committed (c : Copy) : Nat := if c.pinned then refMax else c.refs - (c.claimants.length - c.settled)

/-- COPY_STATE with the absolute values of an entry (R332); the count is the committed one (R205). -/
def recordCopy (c : Copy) (d : Device) : Device := journalRecord (.refCount c.domain c.fp c.num (committed c) c.dead) d

/-- This device serves the entry of a copy: the fingerprint's owner, or the maker of a DETACHED copy until it is handed over (R194, R200). -/
def entryHere (domain : Nat) (fp : Bytes) (num : Nat) (d : Device) : Bool :=
  ownsFp fp d || (copyOf domain fp num d).any fun c => c.detached && bit num 31 && !c.handed

end Sys2Proof.Machine
end

