-- ==== Sys2Proof/Machine/Contents.lean ====
section
/-! DEFINITION. What lies in flash: parity, the stored forms and map pages in a stripe's data space, the units of a stripe, and how a unit
and its page header are stored as codewords (R277, R280, R282, R283, R318, R368, R371 to R373, R375). -/

namespace Sys2Proof.Machine

/-! ## Parity (R282, R283) -/

/-- The polynomial x^8 + x^4 + x^3 + x^2 + 1 below x^8. -/
def rsPoly : Byte := 0x1D

/-- g^i · a. -/
def rsScale : Nat → Byte → Byte
  | 0, a => a
  | n + 1, a => xtime rsPoly (rsScale n a)

/-- Product in GF(2^8). -/
def rsMul (a b : Byte) : Byte := gfMulN rsPoly 8 a b 0

/-- a^254, the inverse of a nonzero element. -/
def rsInv (a : Byte) : Byte := (List.range 253).foldl (fun v _ => rsMul v a) a

/-- P of the listed data units, all of one length. -/
def parityP (n : Nat) (units : List Bytes) : Bytes :=
  units.foldl (fun p u => xorBytes p (padTo n u)) (List.replicate n 0)

/-- Q of data units by number. -/
def parityQ (n : Nat) (units : List (Nat × Bytes)) : Bytes :=
  units.foldl (fun q u => xorBytes q ((padTo n u.2).map (rsScale u.1))) (List.replicate n 0)

/-- D_x from Q_x. -/
def solveFromQ (x : Nat) (qx : Bytes) : Bytes := qx.map fun b => rsMul b (rsInv (rsScale x 1))

/-- D_x and D_y from P_xy and Q_xy. -/
def solveTwo (x y : Nat) (pxy qxy : Bytes) : Bytes × Bytes :=
  let f := rsInv (rsScale x 1 ^^^ rsScale y 1)
  let dx := xorBytes (pxy.map (rsScale y)) qxy |>.map fun b => rsMul b f
  (dx, xorBytes pxy dx)

/-! ## Sizes and locations -/

/-- Bytes of a unit and of a stripe's data space (R277, R280). -/
def unitBytes (u : Nat) : Nat := (u + 1) * 16384
def dataSpace (k u : Nat) : Nat := k * unitBytes u

/-- Map location (R323): side, stripe sequence, slot. -/
def mapLoc (id slot : Nat) : Nat := id / 2 ^ 63 * 2 ^ 63 + id % 2 ^ 55 * 256 + slot
def locStripe (loc : Nat) : Nat := loc / 2 ^ 63 * 2 ^ 63 + loc % 2 ^ 63 / 256
def locSlot (loc : Nat) : Nat := loc % 256

/-! ## The bytes of a unit (R280, R282) -/

/-- Stored form of a copy: encrypted anew under its slot's key while that is the key it was stored under; else not known to
the model. -/
def storedOf (c : Copy) (d : Device) : Bytes :=
  let k := slotOf c.slot d
  let key := match k.key, k.stored with
    | some k, _ => some k
    | none, k => k
  match key with
  | some key =>
    if k.keygen == c.keygen then
      let enc := if c.enc == Encoding.deflate then 1 else 0
      let encoded := if c.enc == Encoding.deflate then Config.deflateOutput c.plain else c.plain
      storedForm key c.side c.slot c.invocation (copyAad c.domain c.slot c.num c.plain.length c.fp enc) encoded enc
    else padTo c.storedLen (Config.storedBytes c.domain c.num c.keygen c.fp)
  | none => padTo c.storedLen (Config.storedBytes c.domain c.num c.keygen c.fp)

/-- Overlay `src` on `base` from offset `o`. -/
def overlay (base : Bytes) (o : Nat) (src : Bytes) : Bytes :=
  base.take o ++ src.take (base.length - o) ++ base.drop (o + src.length)

/-- The pieces of a stored form as its extents cut it: stripe, offset, bytes. -/
def pieces : List Extent → Bytes → List (Nat × Nat × Bytes)
  | [], _ => []
  | e :: es, bs => (e.stripe, e.off, bs.take e.len) :: pieces es (bs.drop e.len)

/-- The data space of a stripe. -/
def spaceOf (s : Stripe) (d : Device) : Bytes :=
  let zero : Bytes := List.replicate (dataSpace s.k s.unit) 0
  if s.stream == Stream.map then
    d.map.pages.foldl (fun b p =>
      if p.loc != 0 && locStripe p.loc == s.id then overlay b (locSlot p.loc * 16384) (padTo 16384 (Config.mapPageBytes p.lid p.lsn))
      else b) zero
  else
    (d.kv.copies.flatMap fun c =>
      if c.extents.any (·.stripe == s.id) then (pieces c.extents (storedOf c d)).filter (·.1 == s.id) else []).foldl
      (fun b x => overlay b x.2.1 x.2.2) zero

/-- The bytes of a member's unit: a data unit, P or Q. -/
def unitOf (s : Stripe) (member : Nat) (d : Device) : Bytes :=
  let n := unitBytes s.unit
  let sp := spaceOf s d
  let unit := fun i : Nat => slice sp (i * n) n
  if member < s.k then unit member
  else if member == s.k then parityP n ((List.range s.k).map unit)
  else parityQ n ((List.range s.k).map fun i => (i, unit i))

/-! ## Map pages (R320 to R330) -/

/-- A map page by type and number. -/
def isPage (typ lid : Nat) (p : MapPage) : Bool := p.typ == typ && p.lid == lid
def pageOf (typ lid : Nat) (d : Device) : Option MapPage := d.map.pages.find? (isPage typ lid)

/-- Keys of records in their maps. -/
def indexKey (ns : Nat) (key : Bytes) : Bytes := leBytes 4 ns ++ key
def chunkKey (domain : Nat) (fp : Bytes) (num : Nat) : Bytes := fp ++ leBytes 2 domain ++ leBytes 4 num

/-! ## Codewords in the plane pages (R368, R375) -/

/-- Bytes of a page, filled up with 0xFF. -/
def filledPage (n : Nat) (b : Bytes) : Bytes := b ++ List.replicate (n - b.length) 0xFF

/-- A unit as the plane pages hold it: M / 4,096 codewords of a strength back to back in each, in plane order, and 0xFF in what is left of
main and spare. -/
def planePages (main spare strength : Nat) (unit header : Bytes) : Bytes :=
  let per := main / 4096
  (List.range (unit.length / main)).flatMap fun k =>
    filledPage (main + spare) ((List.range per).flatMap fun i =>
      let c := k * per + i
      codeword strength (carriedBytes (slice unit (c * 4096) 4096) header c))

end Sys2Proof.Machine
end

