-- ==== Sys2Proof/Machine/Flash.lean ====
section
/-! DEFINITION. Channels, blocks and pages, elements, flash operations and the toll gate (R279, R294, R298, R300, R316 to
R319, R328, R376 to R378, R386 to R390). -/

namespace Sys2Proof.Machine

/-! ## Channels, elements and blocks -/

/-- A member descriptor as its 64-bit field map gives it (R294). -/
def descNum (m : MemberDesc) : Nat :=
  m.channel * 2 ^ 57 + m.target * 2 ^ 54 + m.lun * 2 ^ 50 + m.block * 2 ^ 30 + m.page * 2 ^ 14

/-- The block that a number names. -/
def descOfNum (v : Nat) : MemberDesc := ⟨bits v 63 57, bits v 56 54, bits v 53 50, bits v 49 30, bits v 29 14⟩

/-- The block of a descriptor, as a descriptor with PAGE 0. -/
def blockDesc (m : MemberDesc) : MemberDesc := { m with page := 0 }

/-- Side that owns a channel in the current map (R433); every channel is this device's while it runs solo. -/
def channelOwner (c : Nat) (d : Device) : Nat := b2n (bit (d.peer.owners.getD (c / 8) 0) (c % 8))
def ownsChannel (c : Nat) (d : Device) : Bool := channelOwner c d == d.side

/-- Element addresses (R300). -/
def lunAddr (c t l : Nat) : Nat := 1 * 2 ^ 28 + c * 2 ^ 16 + t * 256 + l
def targetAddr (c t : Nat) : Nat := 2 * 2 ^ 28 + c * 2 ^ 16 + t * 256
def channelAddr (c : Nat) : Nat := 3 * 2 ^ 28 + c * 2 ^ 16
def groupAddr (g : Nat) : Nat := 4 * 2 ^ 28 + g * 2 ^ 16

/-- The LUN, its target, its channel or its group has failed for good. -/
def elementFailed (a : Nat) (d : Device) : Bool := d.stripe.failed.any (·.addr == a)
def lunFailed (c t l : Nat) (d : Device) : Bool :=
  elementFailed (lunAddr c t l) d || elementFailed (targetAddr c t) d || elementFailed (channelAddr c) d
    || elementFailed (groupAddr (c / 8)) d
def memberFailed (m : MemberDesc) (d : Device) : Bool := lunFailed m.channel m.target m.lun d

/-- An element lies on, or is, another element. -/
def elementCovers (a : Nat) (m : MemberDesc) : Bool :=
  a == lunAddr m.channel m.target m.lun || a == targetAddr m.channel m.target || a == channelAddr m.channel
    || a == groupAddr (m.channel / 8)

/-- The block that a descriptor names. -/
def isBlock (m : MemberDesc) (b : Block) : Bool :=
  b.channel == m.channel && b.target == m.target && b.lun == m.lun && b.block == m.block
def blockOf (m : MemberDesc) (d : Device) : Option Block := d.map.blocks.find? (isBlock m)
def Block.desc (b : Block) : MemberDesc := ⟨b.channel, b.target, b.lun, b.block, 0⟩

/-- Change the block that a descriptor names. -/
def onBlock (m : MemberDesc) (f : Block → Block) (d : Device) : Device :=
  { d with map := { d.map with blocks := d.map.blocks.map fun b => if isBlock m b then f b else b } }

/-- Stream codes of a block-table record (R328). -/
def Stream.code : Stream → Nat
  | .host => 1 | .relocation => 2 | .map => 3

/-- Mode of a block's cells. -/
def blockMode (p : Bytes) (b : Block) : Nat := if b.slc then 1 else pfNative p

/-- The record of a block's mode in its group's profile. -/
def modeOf (m : MemberDesc) (d : Device) : Bytes :=
  let p := (profileOf (m.channel / 8) d).getD []
  match blockOf m d with
  | some b => pfMode p (blockMode p b)
  | none => pfMode p (pfNative p)

/-- A group's domain is on and not in standby (OD 0x2210). -/
def groupOn (g : Nat) (d : Device) : Bool :=
  bit (odVal 0x2210 1 d) g && !bit (odVal 0x2210 3 d) g && !d.media.probing.contains g

/-- Free blocks of a channel, and its blocks in service, over those eligible for its streams (R343). -/
def freeBlocks (c : Nat) (d : Device) : List Block :=
  d.map.blocks.filter fun b => b.channel == c && b.st == 0 && !b.slc && !lunFailed c b.target b.lun d
def serviceBlocks (c : Nat) (d : Device) : List Block :=
  d.map.blocks.filter fun b => b.channel == c && b.st < 4 && !b.slc && !lunFailed c b.target b.lun d

/-- Collection level of a channel (R343). -/
def levelOf (c : Nat) (d : Device) : Nat :=
  let f := (freeBlocks c d).length
  let n := (serviceBlocks c d).length
  if f ≤ odVal 0x2A10 3 d then 3
  else if f * 100 < odVal 0x2A10 2 d * n then 2
  else if f * 100 < odVal 0x2A10 1 d * n then 1
  else 0

/-! ## Where a unit lands (R316, R317) -/

/-- The first of a list under an order. -/
def bestBy {α : Type} (lt : α → α → Bool) : List α → Option α
  | [] => none
  | x :: xs => some (xs.foldl (fun b y => if lt y b then y else b) x)

/-- Lexicographic order of number lists. -/
def natsLt : List Nat → List Nat → Bool
  | x :: xs, y :: ys => x < y || (x == y && natsLt xs ys)
  | [], _ :: _ => true
  | _, _ => false

/-- The free block that a stream opens on a channel: the LUN with the most free blocks, then the erase count, lowest for
host and map and highest for relocation, then the block number. -/
def nextBlock (c : Nat) (s : Stream) (unit : Nat) (d : Device) : Option Block :=
  match profileOf (c / 8) d with
  | none => none
  | some p =>
    if !unitFits p unit then none
    else
      let free := freeBlocks c d
      let most := fun b : Block => (free.filter fun x => x.target == b.target && x.lun == b.lun).length
      let key := fun b : Block =>
        [10 ^ 9 - most b, b.target, b.lun, if s == Stream.relocation then 2 ^ 32 - b.erases else b.erases, b.block]
      bestBy (fun a b => natsLt (key a) (key b)) free

/-- The page that a stream's next unit on a channel takes; at level 3 the host and relocation streams take none. -/
def nextPage (c : Nat) (s : Stream) (unit : Nat) (gc : Bool) (d : Device) : Option MemberDesc :=
  if !gc && s != Stream.map && levelOf c d == 3 then none
  else
    match d.map.blocks.find? fun b => b.channel == c && b.st == 1 && b.stream == s.code &&
        !lunFailed c b.target b.lun d with
    | some b => some { b.desc with page := b.next }
    | none => (nextBlock c s unit d).map Block.desc

/-- Minutes since the PTP epoch (R318): 60 s are 48 × 10^9 ticks. -/
def minuteOf (t : Nat) : Nat := t / 48000000000
def minutes (d : Device) : Nat := minuteOf d.time.counter

/-- Take the page: the block opens with its first page and closes with its last; one more live unit. -/
def takePage (m : MemberDesc) (s : Stream) (d : Device) : Device :=
  onBlock m (fun b =>
    let first : Bool := m.page == 0
    { b with
      st := if m.page + 1 == b.pages then 2 else 1
      stream := s.code
      next := m.page + 1
      live := b.live + 1
      writeMin := if first then minutes d else b.writeMin }) d

/-- One live unit fewer in a block; the last one leaves it to be erased, its barrier given by the record's journal page
(R348). -/
def dropUnit (m : MemberDesc) (d : Device) : Device :=
  onBlock m (fun b =>
    let live := b.live - 1
    { b with live := live, barrierOpen := true
             st := if live == 0 && (b.st == 2 || (b.st == 1 && b.emptying != 0)) then 3 else b.st }) d

/-- Retire a block: BLOCK_STATE, event 0x0B01 with its cause, and the count (R351, R352). -/
def retireBlock (m : MemberDesc) (cause : Nat) (d : Device) : Device :=
  match blockOf m d with
  | none => d
  | some b =>
    if b.st == 4 then d
    else
      let d := onBlock m (fun b => { b with st := 4, emptying := 1 }) d
      let d := journalRecord (.blockState m.channel m.target m.lun m.block 4 b.stream b.erases) d
      odBump 0x2A00 0x10 1 (logEvent 0x0B01 0x0042 1 (descNum (blockDesc m) + cause) d)

/-! ## The toll gate (R386 to R390) -/

/-- Channels of a group that this device owns. -/
def ownedIn (g : Nat) (d : Device) : Nat := ((List.range 8).filter fun n => ownsChannel (8 * g + n) d).length

/-- Lowest scale in force on a group, in 1/256 (R388). -/
def groupScale (g : Nat) (d : Device) : Nat :=
  let w := tblGetD d.media.scales g 256
  if d.power.eff == 1 then min w (odVal 0x3460 0x12 d) else w

/-- This device's share of a group's tokens. -/
def tollShare (g : Nat) (d : Device) : Nat := groupBudget g d * ownedIn g d * groupScale g d / (8 * 256)

/-- A read, or a program or erase. -/
def FlashKind.isRead : FlashKind → Bool
  | .hostRead => true | .rebuildRead => true | .gcRead => true | .program => false | .erase => false

/-- Most tokens that an operation's queue may hold. -/
def tollCap (g : Nat) (k : FlashKind) (d : Device) : Nat :=
  if k.isRead then tollShare g d else tollShare g d * 75 / 100

/-- Rank of an operation in its queue (R387): host, rebuild, then collection reads; reclaim programs first at level 2. -/
def tollRank (o : FlashOp) (d : Device) : Nat :=
  match o.kind with
  | .hostRead => 0 | .rebuildRead => 1 | .gcRead => 2
  | _ => if o.reclaim && 2 ≤ levelOf o.desc.channel d then 0 else 1

/-- Operations of a group. -/
def opsOf (g : Nat) (d : Device) : List FlashOp := d.media.ops.filter fun o => o.desc.channel / 8 == g

/-- Tokens held in a group by operations that `f` picks. -/
def heldTokens (g : Nat) (f : FlashOp → Bool) (d : Device) : Nat :=
  (((opsOf g d).filter fun o => o.started && f o).map (·.tokens)).sum

/-- The operation stands first in its queue. -/
def firstInQueue (o : FlashOp) (d : Device) : Bool :=
  (opsOf (o.desc.channel / 8) d).all fun x =>
    x.started || x.kind.isRead != o.kind.isRead || x.id == o.id
      || tollRank o d < tollRank x d || (tollRank o d == tollRank x d && o.id < x.id)

/-- A read of a LUN that is busy with an unsuspended program or erase. -/
def busyOn (m : MemberDesc) (d : Device) : Option FlashOp :=
  d.media.ops.find? fun x => x.started && !x.suspended && !x.kind.isRead &&
    x.desc.channel == m.channel && x.desc.target == m.target && x.desc.lun == m.lun

/-- An operation of which the tokens exceed what its queue may hold (R390). -/
def oversize (o : FlashOp) (d : Device) : Bool := tollCap (o.desc.channel / 8) o.kind d < o.tokens

/-- The busy operation can be suspended for a read now (R378). -/
def canSuspend (x : FlashOp) (d : Device) : Bool :=
  pfSuspends ((profileOf (x.desc.channel / 8) d).getD []) && x.suspensions < 4
    && x.startedAt + us (modeTr (modeOf x.desc d)) < d.time.now

/-- Work of collection, which a power failure stops: erases, its reads and its programs (R46). -/
def collects (o : FlashOp) (d : Device) : Bool :=
  o.kind == .erase || o.kind == .gcRead ||
    (o.kind == .program && (o.reclaim || d.stripe.stripes.any fun s => s.id == o.stripe && s.stream == Stream.relocation))

/-- The operation may start now: on a channel that this device owns and drives, not while it stands down or is frozen, work of collection
not while power fails (R46, R378, R386, R387, R390, R436, R443, R594). -/
def mayStart (o : FlashOp) (d : Device) : Bool :=
  let g := o.desc.channel / 8
  let active := (opsOf g d).filter (·.started)
  !(powerFailing d && collects o d) && ownsChannel o.desc.channel d && bit d.peer.driven o.desc.channel && d.peer.st != 6 && d.power.frozenAt.isNone && groupOn g d
    && firstInQueue o d
    && (!o.kind.isRead || (match busyOn o.desc d with
        | none => true
        | some x => canSuspend x d))
    && !(active.any fun x => oversize x d)
    && (if oversize o d then active.isEmpty
        else !((opsOf g d).any fun x => !x.started && x.id != o.id && oversize x d && firstInQueue x d)
          && heldTokens g (fun _ => true) d + o.tokens ≤ tollShare g d
          && (o.kind.isRead || heldTokens g (fun x => !x.kind.isRead) d + o.tokens ≤ tollShare g d * 75 / 100))

/-- Change an operation. -/
def onOp (id : Nat) (f : FlashOp → FlashOp) (d : Device) : Device :=
  { d with media := { d.media with ops := d.media.ops.map fun o => if o.id == id then f o else o } }

def opOf (id : Nat) (d : Device) : Option FlashOp := d.media.ops.find? (·.id == id)

/-! ## The page header (R318, R319) -/

/-- The copies that begin in a member's unit, the first by offset. -/
def firstIn (st : Stripe) (member : Nat) (d : Device) : Option Copy :=
  let lo := member * (st.unit + 1) * 16384
  let hi := lo + (st.unit + 1) * 16384
  let off := fun c : Copy => ((c.extents.find? fun e => e.stripe == st.id).map (·.off)).getD 0
  let here := d.kv.copies.filter fun c =>
    match c.extents.head? with
    | some e => e.stripe == st.id && lo ≤ e.off && e.off < hi
    | none => false
  bestBy (fun a b => off a < off b) here

/-- The stripe from which the first stored form of a unit is being relocated. -/
def relocatedFrom (st : Stripe) (member : Nat) (d : Device) : Option Nat :=
  let lo := member * (st.unit + 1) * 16384
  let hi := lo + (st.unit + 1) * 16384
  (d.stripe.relocs.find? fun r =>
    match r.new.head? with
    | some e => e.stripe == st.id && lo ≤ e.off && e.off < hi
    | none => false).bind fun r => r.old.head?.map (·.stripe)

/-- Type of a unit. -/
def unitType (st : Stripe) (member : Nat) : Nat :=
  if member == st.k then 4 else if member == st.k + 1 then 5 else st.stream.code

/-- The 64-byte page header of a member's unit. -/
def pageHeader (st : Stripe) (member : Nat) (m : MemberDesc) (moved : Option MemberDesc) (d : Device) : Bytes :=
  let reloc := if moved.isSome then none else relocatedFrom st member d
  let hash := if member < st.k && st.stream != Stream.map then ((firstIn st member d).map (·.keyHash)).getD 0 else 0
  let back := match moved, reloc with
    | some o, _ => descNum o
    | none, some r => r
    | none, none => 0
  let temp := d.media.temps.getD (m.channel / 8) 0
  let body := leBytes 2 1 ++ leBytes 1 (unitType st member) ++ leBytes 1 d.side ++ leBytes 4 hash
    ++ leBytes 8 d.map.writeSeq ++ leBytes 8 st.id ++ leBytes 1 member ++ leBytes 1 st.cls
    ++ leBytes 2 (toUnsigned 2 temp) ++ leBytes 4 (minutes d) ++ leBytes 8 back ++ leBytes 8 st.issueTick
    ++ leBytes 1 (b2n moved.isSome + 2 * b2n reloc.isSome) ++ List.replicate 11 0
  body ++ leBytes 4 (crc32 body)

/-! ## Starting operations -/

/-- Age of a block in 1/65,536 equivalent minute now (R380): A_g now less A_g at the minute of its first write,
interpolated between ledger entries. -/
def ageAt (g min : Nat) (d : Device) : Nat :=
  let now := d.media.ages.getD g 0
  let unit := 245760
  let day := min / 1440
  let row := fun n : Nat => ((d.media.ledger.getD n []).getD g 0) * unit
  if d.media.ledger.isEmpty then now
  else if day < d.media.ledgerDay then row 0
  else
    let n := day - d.media.ledgerDay
    let last := d.media.ledger.length - 1
    if n < last then row n + (row (n + 1) - row n) * (min % 1440) / 1440
    else
      let start := (d.media.ledgerDay + last) * 1440
      let span := minutes d - start
      row last + (if span == 0 then 0 else (now - row last) * (min - start) / span)

/-- Thermal age of a block in equivalent hours (R379, R380). -/
def blockAge (b : Block) (d : Device) : Nat :=
  let g := b.channel / 8
  (d.media.ages.getD g 0 - ageAt g b.writeMin d) / (65536 * 60)

/-- The cached hint of a block (R377). -/
def hintOf (m : MemberDesc) (d : Device) : Option BlockHint :=
  d.media.hints.find? fun h => h.channel == m.channel && h.target == m.target && h.lun == m.lun && h.block == m.block

/-- Threshold entry that a read applies at its step: the hint or the grid entry, shifted entries as the grid's. -/
def readEntry (o : FlashOp) (d : Device) : Nat :=
  match blockOf o.desc d with
  | none => 0
  | some b =>
    let p := (profileOf (b.channel / 8) d).getD []
    let t := pfThreshold p (blockMode p b)
    match hintOf o.desc d with
    | some h => h.entry
    | none => gridEntry t b.erases (blockAge b d)

/-- The member's move that an operation serves. -/
def moveOf (stripe member : Nat) (d : Device) : Option Move :=
  d.stripe.moves.find? fun m => m.stripe == stripe && m.member == member

/-- A stripe by its id. -/
def stripeOf (id : Nat) (d : Device) : Option Stripe := d.stripe.stripes.find? (·.id == id)

/-- Soft-read block of a mode (R365). -/
def softOf (p : Bytes) (mode : Nat) : Bytes := ((pfSoft p).find? fun r => leAt r 0 1 == mode).getD []

/-- Step 2's shift in DAC steps: the cross-temperature step times the change of temperature since the write, to the nearest step. -/
def crossShift (t : Bytes) (now write : Int) : Int := (2 * odSigned 1 (leAt t 5 1) * (now - write) + 100) / 200

/-- The reads of a step: threshold entry and offset of its levels in DAC steps; `about`: the entry of step 4 (R376). -/
def readPasses (o : FlashOp) (about : Nat) (d : Device) : List (Nat × Int) :=
  match blockOf o.desc d, profileOf (o.desc.channel / 8) d with
  | some b, some p =>
    let t := pfThreshold p (blockMode p b)
    let s := softOf p (blockMode p b)
    let e := readEntry o d
    let d1 : Int := leAt s 1 1
    let d2 : Int := leAt s 2 1
    match o.step with
    | 2 => [(e, crossShift t (d.media.temps.getD (o.desc.channel / 8) 0) (((hintOf o.desc d).map (·.temp)).getD 0))]
    | 3 => ((retryOrder t b.erases).filter (· != e)).eraseDups.map fun x => (x, 0)
    | 4 => [-d1, 0, d1].map fun x => (about, x)
    | 5 => (List.range (leAt t 1 1)).flatMap fun n => [-d2, -d1, 0, d1, d2].map fun x => (n, x)
    | _ => [(e, 0)]
  | _, _ => [(readEntry o d, 0)]

/-- The entry whose hard read left the fewest unsatisfied checks: one of those that steps 1 and 3 read, which one is free. -/
def bestEntry (o : FlashOp) (w : Nat) (d : Device) : Nat :=
  let tried := readEntry o d :: match blockOf o.desc d, profileOf (o.desc.channel / 8) d with
    | some b, some p => retryOrder (pfThreshold p (blockMode p b)) b.erases
    | _, _ => []
  tried.getD (w % tried.length) 0

/-- A read as it goes to the die: page, threshold entry, and the offset when there is one. -/
def readOutput (m : MemberDesc) (x : Nat × Int) : Output := .flash 0 m x.1 (if x.2 == 0 then [] else leBytes 2 (toUnsigned 2 x.2))

/-- The reads of an operation's step go to the die. -/
def emitReads (o : FlashOp) (d : Device) : Device :=
  let w := if o.step == 4 then draw d else (0, d)
  (readPasses o (bestEntry o w.1 d) w.2).foldl (fun d x => emit (readOutput o.desc x) d) w.2

/-- A unit and its header as the block's mode and strength store them (R368, R375). -/
def mediaBytes (m : MemberDesc) (unit header : Bytes) (d : Device) : Bytes :=
  match blockOf m d, profileOf (m.channel / 8) d with
  | some b, some p => planePages (pfMain p) (pfSpare p) (strengthOf p (blockMode p b) b.erases) unit header
  | _, _ => unit

/-- The next write sequence of this peer; a block keeps that of its first page (R318, R328). -/
def nextWriteSeq (m : MemberDesc) (d : Device) : Device :=
  let w := d.map.writeSeq + 1
  onBlock m (fun b => if m.page == 0 then { b with writeSeq := w } else b) { d with map := { d.map with writeSeq := w } }

/-- The operation takes its tokens and its command goes to the die; a program's header is stamped now. -/
def startOp (o : FlashOp) (d : Device) : Device :=
  let d := if oversize o d then odBump 0x3460 0x13 1 d else d
  let d := match o.kind.isRead, busyOn o.desc d with
    | true, some x => onOp x.id (fun x => { x with suspended := true, suspensions := x.suspensions + 1 }) d
    | _, _ => d
  let d := onOp o.id (fun o => { o with started := true, startedAt := d.time.now }) d
  match o.kind with
  | .program =>
    let d := nextWriteSeq o.desc d
    match stripeOf o.stripe d with
    | none => emit (.flash 1 o.desc 0 []) d
    | some st =>
      let mv := (moveOf o.stripe o.member d).map (·.old)
      let temp := d.media.temps.getD (o.desc.channel / 8) 0
      let stripes := d.stripe.stripes.map fun s =>
        if s.id == o.stripe then { s with members := modNth s.members o.member fun m => { m with temp := temp } } else s
      let d := { d with stripe := { d.stripe with stripes := stripes } }
      emit (.flash 1 o.desc 0 (mediaBytes o.desc (unitOf st o.member d) (pageHeader st o.member o.desc mv d) d)) d
  | .erase => emit (.flash 2 o.desc 0 []) d
  | _ => emitReads o d

/-- Start an operation if it may. -/
def tryStart (id : Nat) (d : Device) : Device :=
  match opOf id d with
  | none => d
  | some o => if !o.started && mayStart o d then startOp o d else d

/-- A new flash operation, at the end of its toll-gate queue. -/
def blankOp (kind : FlashKind) (m : MemberDesc) : FlashOp :=
  { id := 0, kind := kind, desc := m, stripe := 0, member := 0xFF, tokens := 0, started := false, startedAt := 0, step := 1,
    cmd := none, engine := none, reclaim := false, suspended := false, suspensions := 0, deep := false, verify := false,
    req := none }

/-- Tokens of an operation: its mode's current in whole tokens of 10 mA. -/
def opTokens (kind : FlashKind) (m : MemberDesc) (d : Device) : Nat :=
  (modeCurrent (modeOf m d) (if kind.isRead then 0 else if kind == FlashKind.program then 1 else 2) + 9) / 10

/-- Queue an operation; it starts at once when its tokens are free. -/
def queueOp (o : FlashOp) (d : Device) : Device :=
  let id := d.media.nextOp
  let o := { o with id := id, tokens := opTokens o.kind o.desc d, startedAt := d.time.now }
  tryStart id { d with media := { d.media with ops := d.media.ops ++ [o], nextOp := id + 1 } }

/-- An operation has ended: its tokens return, and an operation that it had suspended on the LUN resumes once no read is
left there. -/
def endOp (o : FlashOp) (d : Device) : Device :=
  let d := { d with media := { d.media with ops := d.media.ops.filter (·.id != o.id) } }
  let same := fun x : FlashOp => x.desc.channel == o.desc.channel && x.desc.target == o.desc.target &&
    x.desc.lun == o.desc.lun
  if d.media.ops.any fun x => same x && x.started && x.kind.isRead then d
  else
    let ops := d.media.ops.map fun x => if same x && x.suspended then { x with suspended := false } else x
    { d with media := { d.media with ops := ops } }

/-! ## What an engine learns of its operation (R497, R499) -/

/-- Change an engine. -/
def onEngine (e : Nat) (f : Engine → Engine) (d : Device) : Device :=
  { d with eng := { d.eng with engines := modNth d.eng.engines e f } }

def engineOf (e : Nat) (d : Device) : Engine := d.eng.engines.getD e Engine.blank

/-- Set or clear a condition of an engine (R497). -/
def engineCond (e n : Nat) (b : Bool) (d : Device) : Device :=
  onEngine e (fun x => { x with conds := setBit x.conds n b }) d

/-- TOLL_TOKENS_GRANTED: a waiting operation receives its tokens and starts; its engine sees condition 25. -/
def grantTokens (op : Nat) (d : Device) : Device :=
  match opOf op d with
  | none => d
  | some o =>
    if o.started || !mayStart o d then d
    else
      let d := startOp o d
      match o.engine with
      | some e => engineCond e 25 true (onEngine e (fun x => { x with tokens := o.tokens }) d)
      | none => d

def execTollTokensGranted (op : Nat) (s : State) : Host.Outcome State Fault Refusal := next s (grantTokens op)

end Sys2Proof.Machine
end

