-- ==== Sys2Proof/Machine/Stripe.lean ====
section
/-! DEFINITION. Gathering, issue and release of stripes, parity, member moves, relocation, lost stripes, failed elements
and rebuild (R277 to R310). -/

namespace Sys2Proof.Machine

/-! ## Sizes and counts -/

/-- Pages of a journal ring: 64 SLC blocks of the first bound profile (R291). -/
def ringPages (d : Device) : Nat :=
  match (List.range 16).findSome? fun g => profileOf g d with
  | some p => 64 * modePages (pfMode p 1)
  | none => 0

/-- Journal ring use in percent (OD 0x2900:10). -/
def ringUse (d : Device) : Nat :=
  let n := ringPages d
  if n == 0 then 0 else d.stripe.pages.length * 100 / n

/-- The ring is more than 87.5 % full (R336). -/
def ringReserved (d : Device) : Bool := ringPages d * 7 < d.stripe.pages.length * 8 && ringPages d != 0

/-- Dirty data: gathering stripes, issued stripes not released, and the records held for the other peer (R27, R287,
R452). -/
def dirtyBytes (d : Device) : Nat :=
  (d.stripe.gathers.map (·.fill)).sum
    + ((d.stripe.stripes.filter fun s => !s.released && (s.st == .closed || s.st == .issued || s.st == .durable)).map
        fun s => dataSpace s.k s.unit).sum
    + (d.peer.held.map fun h => msgSize (.mirrorData 0 h.record)).sum

/-- Stricter of two retention classes (R385): VERIFY first, then the lower MARGIN. -/
def stricter (a b : Nat) (d : Device) : Nat :=
  let va := odVal 0x3420 (a + 1) d
  let vb := odVal 0x3420 (b + 1) d
  if bit va 8 && (!bit vb 8 || va % 256 ≤ vb % 256) then a else if bit vb 8 then b else a

/-- Change a stripe. -/
def onStripe (id : Nat) (f : Stripe → Stripe) (d : Device) : Device :=
  { d with stripe := { d.stripe with stripes := d.stripe.stripes.map fun s => if s.id == id then f s else s } }

/-- Change a member of a stripe. -/
def onMember (id m : Nat) (f : Member → Member) (d : Device) : Device :=
  onStripe id (fun s => { s with members := modNth s.members m f }) d

/-! ## Gathering (R280, R287, R288) -/

/-- The gathering stripe of a stream: host data by class and cluster, relocated data by class, map pages. -/
def isGather (cls cluster : Nat) (s : Stream) (g : Gather) : Bool :=
  g.stream == s && (s == Stream.map || (g.cls == cls && (s == Stream.relocation || g.cluster == cluster)))

/-- The next stripe id of this peer (R281). -/
def nextStripe (d : Device) : Nat × Device :=
  let n := d.stripe.seq + 1
  (d.side * 2 ^ 63 + n, { d with stripe := { d.stripe with seq := n } })

/-- Close a gathering stripe: it waits to be issued, its rest filled with zero pad bytes. -/
def closeGather (g : Gather) (d : Device) : Device :=
  let k := classK g.cls d
  let u := classUnit g.cls d
  let pad := dataSpace k u - g.fill
  let st : Stripe :=
    { id := g.id, cls := g.cls, k := k, unit := u, stream := g.stream, cluster := g.cluster, retention := g.retention,
      st := .closed, members := [], pad := pad, padded := pad != 0, reissue := g.reissue.isSome,
      replaced := g.reissue.getD 0, issueTick := 0, issueDurable := false, durableDurable := false,
      released := false, fill := g.fill }
  { d with stripe := { d.stripe with
    gathers := d.stripe.gathers.filter (·.id != g.id)
    stripes := d.stripe.stripes ++ [st] } }

/-- Place `len` bytes in a stream's gathering stripe; what does not fit goes on at byte 0 of the next. Extents in order. -/
def gatherBytes : Nat → Nat → Nat → Stream → Nat → Nat → Device → List Extent × Device
  | 0, _, _, _, _, _, d => ([], d)
  | fuel + 1, cls, cluster, s, ret, len, d =>
    if len == 0 then ([], d)
    else
      let space := dataSpace (classK cls d) (classUnit cls d)
      match d.stripe.gathers.find? (isGather cls cluster s) with
      | none =>
        let n := nextStripe d
        let g : Gather := ⟨cls, cluster, s, n.1, 0, n.2.time.now, ret, none⟩
        gatherBytes fuel cls cluster s ret len
          { n.2 with stripe := { n.2.stripe with gathers := n.2.stripe.gathers ++ [g] } }
      | some g =>
        let take := min len (space - g.fill)
        if take == 0 then gatherBytes fuel cls cluster s ret len (closeGather g d)
        else
          let g' := { g with fill := g.fill + take, retention := stricter g.retention ret d }
          let d := { d with stripe := { d.stripe with
            gathers := d.stripe.gathers.map fun x => if x.id == g.id then g' else x } }
          let d := if g'.fill == space then closeGather g' d else d
          let r := gatherBytes fuel cls cluster s ret (len - take) d
          (⟨g.id, g.fill, take⟩ :: r.1, r.2)

/-- Place a stored form. -/
def gather (cls cluster : Nat) (s : Stream) (ret len : Nat) (d : Device) : List Extent × Device :=
  gatherBytes 24 cls cluster s ret len d

/-! ## Placement (R284 to R286) -/

/-- A channel that the old owner is about to hand over takes no new member (R436). -/
def leaving (c : Nat) (d : Device) : Bool :=
  (d.peer.handovers.any fun h => h.old && h.group == c / 8 && bit h.mask (c % 8)) ||
    d.board.entries.any fun e => e.2.state == 1 && e.2.action == 4 && e.2.unit == 0x0380 + c / 8 && bit e.2.arg (8 + c % 8)
      && e.2.arg % 2 != d.side

/-- A channel with a LUN eligible for units of the class (R279). -/
def channelEligible (unit c : Nat) (d : Device) : Bool :=
  match profileOf (c / 8) d with
  | none => false
  | some p =>
    groupOn (c / 8) d && unitFits p unit && !elementFailed (channelAddr c) d && !elementFailed (groupAddr (c / 8)) d &&
      d.media.targets.any fun t => t.channel == c &&
        (List.range (pfLuns p)).any fun l => !lunFailed c t.target l d

/-- The list C: owned channels, neither failed nor without an eligible LUN, ascending. -/
def placeChannels (unit : Nat) (d : Device) : List Nat :=
  (List.range 128).filter fun c => ownsChannel c d && !leaving c d && channelEligible unit c d

/-- Swap two elements. -/
def swapAt (l : List Nat) (i j : Nat) : List Nat :=
  (l.set i (l.getD j 0)).set j (l.getD i 0)

/-- The keyed permutation, from j down to 1. -/
def permute (secret seq : Nat) : Nat → List Nat → List Nat
  | 0, l => l
  | j + 1, l =>
    let t := sipHash secret (leBytes 8 seq ++ [0x50, BitVec.ofNat 8 (j + 1)]) % (j + 2)
    permute secret seq j (swapAt l (j + 1) t)

/-- Channels of the members of stripe `seq` of width w: at most two in a group, none when not placeable. -/
def place (seq w unit : Nat) (d : Device) : Option (List Nat) :=
  let c := placeChannels unit d
  let n := c.length
  let pi := permute d.kv.hashSecret seq (n - 1) c
  let ms := (List.range n).foldl (fun ms j =>
    let x := pi.getD ((seq + j) % n) 0
    if ms.length < w && (ms.filter fun y => y / 8 == x / 8).length < 2 then ms ++ [x] else ms) []
  if ms.length == w then some ms else none

/-- The largest k′ from k down to 4 for which a placement exists. -/
def placeableK (seq unit : Nat) (d : Device) : Nat → Option (Nat × List Nat)
  | 0 => none
  | k + 1 =>
    if k + 1 < 4 then none
    else match place seq (k + 3) unit d with
      | some ms => some (k + 1, ms)
      | none => placeableK seq unit d k

/-- Extents of stripe `id` beyond `cut` move to stripe `new`. -/
def splitExtent (id cut new : Nat) (e : Extent) : List Extent :=
  if e.stripe != id || e.off + e.len ≤ cut then [e]
  else if cut ≤ e.off then [⟨new, e.off - cut, e.len⟩]
  else [⟨id, e.off, cut - e.off⟩, ⟨new, 0, e.off + e.len - cut⟩]

/-- A closed stripe that must be issued with a smaller k: what lies beyond its data space waits in a stripe of its own. -/
def splitStripe (st : Stripe) (k : Nat) (d : Device) : Device :=
  let cut := dataSpace k st.unit
  let n := nextStripe d
  let d := n.2
  let rest : Stripe := { st with id := n.1, fill := st.fill - cut }
  let remap := fun es : List Extent => es.flatMap (splitExtent st.id cut n.1)
  let moveLoc := fun l : Nat =>
    if l != 0 && locStripe l == st.id && cut ≤ locSlot l * 16384 then mapLoc n.1 (locSlot l - cut / 16384) else l
  let stripes := d.stripe.stripes.flatMap fun s => if s.id == st.id then [{ s with fill := cut }, rest] else [s]
  { d with
    stripe := { d.stripe with stripes := stripes
                              relocs := d.stripe.relocs.map fun r => { r with new := remap r.new } }
    kv := { d.kv with copies := d.kv.copies.map fun c => { c with extents := remap c.extents } }
    map := { d.map with pages := d.map.pages.map fun p => { p with pending := moveLoc p.pending } } }

/-- A class that cannot be placed at its k: event 0x0A06, once for each k′ (R285). -/
def noteUnplaced (cls k : Nat) (d : Device) : Device :=
  if tblGet? d.stripe.unplaced cls == some k then d
  else logEvent 0x0A06 0x0040 1 (cls * 256 + k)
    { d with stripe := { d.stripe with unplaced := tblPut d.stripe.unplaced cls k } }

/-- Flash holds a page of the stripe in the block (R212). -/
def noteResidue (id : Nat) (m : MemberDesc) (d : Device) : Device :=
  let x := (id, descNum (blockDesc m))
  if d.map.residue.contains x then d else { d with map := { d.map with residue := d.map.residue ++ [x] } }

/-- Take a page on each channel; none when one has no page. -/
def takePages (s : Stream) (unit : Nat) : List Nat → Device → Option (List Member × Device)
  | [], d => some ([], d)
  | c :: cs, d =>
    match nextPage c s unit false d with
    | none => none
    | some m =>
      match takePages s unit cs (takePage m s d) with
      | none => none
      | some r => some (⟨m, false, true, true, false, false, 0⟩ :: r.1, r.2)

/-- Issue a closed stripe: members placed and STRIPE_ISSUE written (R289 steps 1 to 3). It stays closed while the journal,
the class or a channel does not admit it (R285, R296, R336, R343). -/
def issueStripe (st : Stripe) (d : Device) : Device :=
  if d.stripe.readOnly || d.stripe.copies % 8 == 0 || (st.stream == Stream.host && ringReserved d) then d
  else
    let seq := st.id % 2 ^ 63
    match placeableK seq st.unit d st.k with
    | none => noteUnplaced st.cls 0 d
    | some (k, cs) =>
      let d := if k == st.k then { d with stripe := { d.stripe with unplaced := tblDel d.stripe.unplaced st.cls } }
        else noteUnplaced st.cls k d
      let d := if dataSpace k st.unit < st.fill then splitStripe st k d else d
      let fill := min st.fill (dataSpace k st.unit)
      let pad := dataSpace k st.unit - fill
      match takePages st.stream st.unit cs d with
      | none => d
      | some (ms, d) =>
        let t := tick d
        let d := ms.foldl (fun d m => noteResidue st.id m.desc d) d
        let d := onStripe st.id (fun s => { s with
          k := k, members := ms, st := .issued, issueTick := t, fill := fill, pad := pad, padded := pad != 0 }) d
        let d := journalRecord (.stripeIssue st.id st.cls k st.unit pad (pad != 0) st.reissue st.replaced
          (ms.map (·.desc))) d
        let d := odBump 0x2900 0x07 1 d
        if pad == 0 then d else odBump 0x2900 0x09 pad (odBump 0x2900 0x08 1 d)

/-- Issue every closed stripe that can be issued, the oldest first. -/
def issueClosed (d : Device) : Device :=
  (d.stripe.stripes.filter (·.st == .closed)).foldl (fun d s =>
    match stripeOf s.id d with
    | some s => issueStripe s d
    | none => d) d

/-- The stream that an operand of a row names: clusters 0 to 3 host data, 4 relocated data, 5 map pages. -/
def streamOf (cluster : Nat) : Stream := if cluster < 4 then .host else if cluster == 4 then .relocation else .map

/-- Close the gathering stripe of a class and cluster, and issue what is closed. -/
def stripeClose (cls cluster : Nat) (d : Device) : Device :=
  match d.stripe.gathers.find? (isGather cls cluster (streamOf cluster)) with
  | some g => issueClosed (if g.fill == 0 then d else closeGather g d)
  | none => issueClosed d

/-- Close every gathering stripe that `f` picks. -/
def closeGathers (f : Gather → Bool) (d : Device) : Device :=
  issueClosed ((d.stripe.gathers.filter fun g => f g && g.fill != 0).foldl (fun d g => closeGather g d) d)

/-- STRIPE_CLOSE. -/
def execStripeClose (cls cluster : Nat) (s : State) : Host.Outcome State Fault Refusal := next s (stripeClose cls cluster)

/-- GATHER_LIMIT_EXPIRY: the gathering stripe has held data for OD 0x2900:05. -/
def execGatherLimitExpiry (cls cluster : Nat) (s : State) : Host.Outcome State Fault Refusal :=
  next s fun d =>
    match d.stripe.gathers.find? (isGather cls cluster (streamOf cluster)) with
    | none => d
    | some g => stripeClose cls cluster (waitUntil (g.since + ms (odVal 0x2900 5 d)) d)

/-! ## Programs and durability (R289) -/

/-- Pass the program of a member to the toll gate. -/
def programMember (id m : Nat) (reclaim : Bool) (d : Device) : Device :=
  match (stripeOf id d).bind fun s => s.members[m]? with
  | none => d
  | some x =>
    let dest := ((moveOf id m d).map (·.new)).getD x.desc
    let d := onMember id m (fun y => { y with issued := true }) d
    queueOp { blankOp .program dest with stripe := id, member := m, reclaim := reclaim } d

/-- STRIPE_ISSUE_DURABLE: step 4 of R289. -/
def stripeIssueDurable (id : Nat) (d : Device) : Device :=
  match stripeOf id d with
  | none => d
  | some s =>
    if s.st == .issued && s.issueDurable then
      (List.range s.members.length).foldl (fun d m =>
        match s.members[m]? with
        | some x => if x.issued || x.programmed then d else programMember id m false d
        | none => d) d
    else d

def execStripeIssueDurable (stripe : Nat) (s : State) : Host.Outcome State Fault Refusal :=
  next s (stripeIssueDurable stripe)

/-- The stripe's class of retention asks for a read-back (R385). -/
def verifies (s : Stripe) (d : Device) : Bool := bit (odVal 0x3420 (s.retention + 1) d) 8
def verifyMargin (s : Stripe) (d : Device) : Nat := odVal 0x3420 (s.retention + 1) d % 256

/-- Valid data bytes of a stripe (R327). -/
def validBytes (s : Stripe) (d : Device) : Nat :=
  if s.stream == Stream.map then 16384 * (d.map.pages.filter fun p => p.loc != 0 && locStripe p.loc == s.id).length
  else ((d.kv.copies.filter (!·.dead)).map fun c => ((c.extents.filter (·.stripe == s.id)).map (·.len)).sum).sum

/-- Stripes without valid data leave the stripe table, and their members stop counting as live units (R329). -/
def reapStripes (d : Device) : Device :=
  let gone := d.stripe.stripes.filter fun s =>
    (s.st == .durable || s.st == .lost) && s.released && validBytes s d == 0
  let d := gone.foldl (fun d s => s.members.foldl (fun d m => dropUnit m.desc d) d) d
  { d with stripe := { d.stripe with
    stripes := d.stripe.stripes.filter fun s => !gone.any (·.id == s.id)
    moves := d.stripe.moves.filter fun m => !gone.any (·.id == m.stripe)
    failed := d.stripe.failed.map fun f => { f with work := f.work.filter fun i => !gone.any (·.id == i) } } }

/-- Map pages written with the stripe take their new locations; a page not changed since is clean (R323, R330). -/
def landMapPages (id : Nat) (d : Device) : Device :=
  let land := d.map.pages.filter fun p => p.pending != 0 && locStripe p.pending == id
  let pages := d.map.pages.map fun p =>
    if p.pending != 0 && locStripe p.pending == id then
      { p with prev := p.loc, loc := p.pending, pending := 0, dirty := p.lsn != p.pendingLsn }
    else p
  land.foldl (fun d p => odBump 0x2A00 0x0B 1
      (journalRecord (.mapPageWritten p.lid p.pending p.loc p.pendingLsn) d))
    { d with map := { d.map with pages := pages } }

/-- The other peer is asked to drop the location of a copy; its answer is part of the erase barrier of the blocks where the copy lies
(R203, R348). -/
def invalidateCopy (c : Copy) (d : Device) : Device :=
  if noServingPeer d || d.kv.invalidating.any fun i => i.2 == (c.domain, c.fp, c.num) then d
  else
    let blocks := c.extents.flatMap fun e =>
      match stripeOf e.stripe d with
      | some s => s.members.map (blockDesc ·.desc)
      | none => []
    let d := blocks.foldl (fun d b => onBlock b (fun x => { x with awaiting := x.awaiting ++ [(c.domain, c.fp, c.num)] }) d) d
    sendLink (.invalidate c.domain c.num c.fp)
      { d with kv := { d.kv with invalidating := d.kv.invalidating ++ [(0, c.domain, c.fp, c.num)] } }

/-- A relocation ends: the copy takes its new location, or it is dropped and counted (R333, R347). -/
def landReloc (r : Reloc) (d : Device) : Device :=
  let d := { d with stripe := { d.stripe with relocs := d.stripe.relocs.filter (· != r) } }
  match copyOf r.domain r.fp r.num d with
  | some c =>
    if c.extents == r.old && !c.dead then
      journalRecord (.copyRelocated r.domain r.fp r.num r.old r.new) <| onCopy r.domain r.fp r.num (fun c => { c with
        extents := r.new, past := (c.past ++ r.old.map (·.stripe)).eraseDups }) d
    else odBump 0x2A00 0x11 1 d
  | none => odBump 0x2A00 0x11 1 d

/-- Relocations of which every new stripe is DURABLE take effect while the entry still has its old extents. The owner of the entry first
has the other peer drop the old location; a copy that the other peer owns reaches it with the mirrored record (R203). -/
def landRelocs (d : Device) : Device :=
  let ready := fun r : Reloc => !r.asked && r.new.all fun e =>
    match stripeOf e.stripe d with
    | some s => s.st == .durable
    | none => false
  (d.stripe.relocs.filter ready).foldl (fun d r =>
    match copyOf r.domain r.fp r.num d with
    | some c =>
      if noServingPeer d || !entryHere r.domain r.fp r.num d || c.dead then landReloc r d
      else
        let relocs := d.stripe.relocs.map fun x => if x == r then { x with asked := true } else x
        invalidateCopy c { d with stripe := { d.stripe with relocs := relocs } }
    | none => landReloc r d) d

/-- The other peer has dropped a location: the erases and the relocation that waited for it go on (R203). -/
def invalidated (domain : Nat) (fp : Bytes) (num : Nat) (d : Device) : Device :=
  let inv := d.kv.invalidating.filter fun i => i.2 != (domain, fp, num)
  let blocks := d.map.blocks.map fun b => { b with awaiting := b.awaiting.filter (· != (domain, fp, num)) }
  let d := { d with kv := { d.kv with invalidating := inv }, map := { d.map with blocks := blocks } }
  match d.stripe.relocs.find? fun r => r.asked && r.domain == domain && r.fp == fp && r.num == num with
  | some r => landReloc r d
  | none => d

/-- While no peer serves, no answer is awaited. -/
def invalidateNone (d : Device) : Device := d.kv.invalidating.foldl (fun d i => invalidated i.2.1 i.2.2.1 i.2.2.2 d) d

/-- STRIPE_MEMBERS_PROGRAMMED: all members passed, and read back where the class asks: STRIPE_DURABLE. -/
def stripeProgrammed (id : Nat) (d : Device) : Device :=
  match stripeOf id d with
  | none => d
  | some s =>
    if s.st == .issued && s.members.all (fun m => m.programmed && (!verifies s d || m.verified)) then
      let d := onStripe id (fun s => { s with st := .durable }) d
      let d := journalRecord (.stripeDurable id) d
      landRelocs (landMapPages id d)
    else d

def execStripeMembersProgrammed (stripe : Nat) (s : State) : Host.Outcome State Fault Refusal :=
  next s (stripeProgrammed stripe)

/-- Mirrored writes of which every copy lies in released stripes, whose KEY_VERSION is durable and whose manifest no dirty
page holds, are released at the other peer (R289, R452). -/
def releaseWrites (d : Device) : Device :=
  let released := fun (c : Nat × Bytes × Nat) =>
    match copyOf c.1 c.2.1 c.2.2 d with
    | none => true
    | some x => x.extents.all fun e =>
      match stripeOf e.stripe d with
      | some s => s.released
      | none => true
  let page := fun mseq : Nat =>
    match d.map.locators.find? (·.1 == mseq) with
    | some l => d.map.pages.all fun p => !(p.lid == l.2.1 / 2 ^ 14 && p.dirty)
    | none => true
  let done := d.peer.mirrors.filter fun w => w.acked == w.records && w.keyDurable && page w.mseq && w.copies.all released
  if done.isEmpty then d
  else sendLink (.mirrorRelease (done.map (·.id)))
    { d with peer := { d.peer with mirrors := d.peer.mirrors.filter fun w => !done.any (·.id == w.id) } }

/-- STRIPE_RELEASE: step 6 of R289. -/
def stripeRelease (id : Nat) (d : Device) : Device :=
  match stripeOf id d with
  | none => d
  | some s =>
    if s.st == .durable && s.durableDurable then
      reapStripes (releaseWrites (onStripe id (fun s => { s with released := true }) d))
    else d

def execStripeRelease (stripe : Nat) (s : State) : Host.Outcome State Fault Refusal := next s (stripeRelease stripe)

/-! ## Member moves (R286, R290, R319) -/

/-- Channels that may take a replacement: owned, eligible, holding no other member, their group fewer than two others. -/
def moveChannels (s : Stripe) (member : Nat) (d : Device) : List Nat :=
  let others := (s.members.zip (List.range s.members.length)).filterMap fun m =>
    if m.2 == member then none else some m.1.desc.channel
  (placeChannels s.unit d).filter fun c => !others.contains c && (others.filter fun x => x / 8 == c / 8).length < 2
    && (nextPage c .relocation s.unit true d).isSome

/-- A choice that the manual leaves to the device: one of the list, by its next random word. -/
def pick {α : Type} (l : List α) (d : Device) : Option (α × Device) :=
  match l with
  | [] => none
  | x :: xs =>
    let w := draw d
    some ((x :: xs).getD (w.1 % (xs.length + 1)) x, w.2)

/-- Give a stripe's valid stored forms new places in the relocation stream, and its live map pages in the map stream
(R286, R345); only those that `ok` admits. -/
def relocateStripe (ok : Copy → Bool) (s : Stripe) (d : Device) : Device :=
  let copies := d.kv.copies.filter fun c =>
    !c.dead && c.extents.any (·.stripe == s.id) && ok c &&
      !d.stripe.relocs.any fun r => r.domain == c.domain && r.fp == c.fp && r.num == c.num
  let d := copies.foldl (fun d c =>
    let r := gather s.cls 4 .relocation c.retention c.storedLen d
    let d := { r.2 with stripe := { r.2.stripe with relocs := r.2.stripe.relocs ++ [⟨c.domain, c.fp, c.num, c.extents, r.1, false⟩] } }
    odBump 0x2A00 0x0E c.storedLen d) d
  let pages := d.map.pages.filter fun p => p.loc != 0 && locStripe p.loc == s.id && p.pending == 0
  issueClosed <| pages.foldl (fun d p =>
    let r := gather (odVal 0x2A00 4 d) 5 .map 0 16384 d
    let loc := match r.1 with
      | e :: _ => mapLoc e.stripe (e.off / 16384)
      | [] => 0
    let upd := r.2.map.pages.map fun x => if x.lid == p.lid then { x with pending := loc, pendingLsn := x.lsn } else x
    odBump 0x2A00 0x0E 16384 { r.2 with map := { r.2.map with pages := upd } }) d

/-- Start the move of a member; with no destination the stripe's data is relocated. `read`: the unit is first read from its
source. -/
def startMove (id member reason : Nat) (read : Bool) (req : Option Nat) (d : Device) : Device :=
  match stripeOf id d with
  | none => d
  | some s =>
    match s.members[member]? with
    | none => d
    | some x =>
      if (moveOf id member d).isSome then d
      else match pick (moveChannels s member d) d with
        | none => relocateStripe (fun _ => true) s d
        | some (c, d) =>
          match nextPage c .relocation s.unit true d with
          | none => d
          | some new =>
            let d := noteResidue id new (takePage new .relocation d)
            let d := { d with stripe := { d.stripe with
              moves := d.stripe.moves ++ [⟨id, member, x.desc, new, reason, !read, req⟩] } }
            if read then queueOp { blankOp .gcRead x.desc with stripe := id, member := member } d
            else programMember id member true d

/-- A moved unit has been programmed: MEMBER_MOVED, while the stripe table still gives the old descriptor (R333). -/
def finishMove (mv : Move) (d : Device) : Device :=
  let d := { d with stripe := { d.stripe with
    moves := d.stripe.moves.filter fun m => !(m.stripe == mv.stripe && m.member == mv.member) } }
  match (stripeOf mv.stripe d).bind fun s => s.members[mv.member]? with
  | none => dropUnit mv.new (odBump 0x2A00 0x11 1 d)
  | some x =>
    if x.desc != mv.old then dropUnit mv.new (odBump 0x2A00 0x11 1 d)
    else
      let d := onMember mv.stripe mv.member (fun x => { x with
        desc := mv.new, programmed := true, readable := true, deepReadable := true, verified := false, issued := true }) d
      let d := journalRecord (.memberMoved mv.stripe mv.member mv.reason mv.old mv.new) d
      let d := odBump 0x2A00 0x0D 1 (dropUnit mv.old d)
      let d := { d with stripe := { d.stripe with repairs := d.stripe.repairs.filter (· != (mv.stripe, mv.member)) } }
      match mv.req with
      | some r => sendLink (.requestDone r 0) d
      | none => d

/-! ## Lost stripes (R306 to R308) -/

/-- Bytes of log 0xC2 (R307). -/
def lostLogBytes (d : Device) : Nat :=
  32 + 48 * d.stripe.lostStripes.length + (d.stripe.lostKeys.map fun k => 24 + (k.key.length + 7) / 8 * 8).sum

/-- A record would pass 64 MiB: TRUNCATED, and event 0x0A07 once. -/
def lostFull (n : Nat) (d : Device) : Bool := 67108864 < lostLogBytes d + n

def truncateLost (d : Device) : Device :=
  let d := { d with stripe := { d.stripe with lostTruncated := true } }
  if d.stripe.lostLogged then d
  else logEvent 0x0A07 0x0040 1 (d.stripe.lostSeq + 1) { d with stripe := { d.stripe with lostLogged := true } }

/-- Append a stripe record; OD 0x2010:08 counts it whether or not it fits. -/
def addLost (cause cls id bitmap copies : Nat) (d : Device) : Device :=
  let d := if lostFull 48 d then truncateLost d
    else
      let n := d.stripe.lostSeq + 1
      let r : LostRecord := ⟨cause, cls, id, tick d, bitmap, copies, 0, false, n⟩
      bumpVersion 0x2920 { d with stripe := { d.stripe with lostStripes := d.stripe.lostStripes ++ [r], lostSeq := n } }
  setCond 5 true d

/-- Append a key record under a stripe record. -/
def addLostKey (k : LostKey) (d : Device) : Device :=
  if lostFull (24 + (k.key.length + 7) / 8 * 8) d then truncateLost d
  else
    let recs := d.stripe.lostStripes.map fun r => if r.seq == k.seq then { r with keys := r.keys + 1 } else r
    { d with stripe := { d.stripe with lostKeys := d.stripe.lostKeys ++ [k], lostStripes := recs } }

/-- A member that cannot be used (R302). -/
def unusable (m : Member) (d : Device) : Bool := memberFailed m.desc d || !m.readable

/-- Data units of a stripe that are unusable, and a copy with a byte in one of them. -/
def lostUnits (s : Stripe) (d : Device) : List Nat :=
  (List.range s.members.length).filter fun i => (s.members[i]?.map fun m => unusable m d).getD false

def touchesLost (s : Stripe) (lost : List Nat) (c : Copy) : Bool :=
  c.extents.any fun e => e.stripe == s.id && lost.any fun u =>
    u < s.k && e.off < (u + 1) * unitBytes s.unit && u * unitBytes s.unit < e.off + e.len

/-- Mark a stripe lost (R306 steps 1 to 3): record, its copies DETACHED, log 0xC2, event; readable stored forms are
relocated. -/
def loseStripe (id cause : Nat) (d : Device) : Device :=
  match stripeOf id d with
  | none => d
  | some s =>
    if s.st == .lost then d
    else
      let lost := lostUnits s d
      let bitmap := (lost.map (2 ^ ·)).sum
      let d := journalRecord (.stripeLost id bitmap cause) d
      let hit := d.kv.copies.filter (touchesLost s lost)
      let copies := d.kv.copies.map fun c => if touchesLost s lost c then { c with detached := true, lost := true } else c
      let d := { d with kv := { d.kv with copies := copies } }
      let d := hit.foldl (fun d c => hotRemove c.domain c.fp c.num (recordCopy c d)) d
      let pages := d.map.pages.map fun p => if p.loc != 0 && locStripe p.loc == id &&
          lost.contains (locSlot p.loc * 16384 / unitBytes s.unit) then { p with lost := true } else p
      let d := { d with map := { d.map with pages := pages } }
      let d := onStripe id (fun s => { s with st := .lost }) d
      let d := addLost cause s.cls id bitmap hit.length d
      let d := logEvent 0x0A03 0x0040 2 id d
      relocateStripe (fun c => !touchesLost s lost c) s d

/-- The manifests that name a copy of a stripe record, and their holders (R306 step 4). -/
def scanKeys (r : LostRecord) (d : Device) : List LostKey :=
  let pages := d.map.pages.filter fun p => p.lost && p.loc != 0 && locStripe p.loc == r.stripe
  let held := fun (typ : Nat) (key : Bytes) => pages.any (isPage typ (Config.leafOf typ key))
  let locator := fun mseq : Nat => ((d.map.locators.find? (·.1 == mseq)).map (·.2.1)).getD 0
  let paged := fun (e : KeyEntry) (m : Manifest) => held 1 (indexKey e.ns e.key) || (pages.any (isPage 2 (locator m.seq / 2 ^ 14))) ||
    m.chunks.any fun ch => held 3 (chunkKey m.domain ch.fp ch.copy)
  let names := fun m : Manifest => m.chunks.any fun ch =>
    match copyOf m.domain ch.fp ch.copy d with
    | some c => c.lost && c.extents.any (·.stripe == r.stripe)
    | none => false
  d.kv.index.flatMap fun e => (e.versions.zip (List.range e.versions.length)).flatMap fun v =>
    match manifestOf v.1.mseq d with
    | some m =>
      if !v.1.tombstone && (names m || paged e m) then
        (if v.2 == 0 then [⟨e.ns, r.seq, e.key, 0xFFFF, v.1.mseq⟩] else []) ++
          ((holdingSnaps e.ns d).filter fun s => heldBy s e v.1).map fun s => ⟨e.ns, r.seq, e.key, s.num, v.1.mseq⟩
      else []
    | none => []

/-- LOST_STRIPE_KEY_SCAN. -/
def lostScan (id : Nat) (d : Device) : Device :=
  match d.stripe.lostStripes.find? fun r => r.stripe == id && !r.scanDone with
  | none => d
  | some r =>
    let d := (scanKeys r d).foldl (fun d k => addLostKey k d) d
    let recs := d.stripe.lostStripes.map fun x => if x.seq == r.seq then { x with scanDone := true } else x
    bumpVersion 0x2920 { d with stripe := { d.stripe with lostStripes := recs } }

def execLostStripeKeyScan (stripe : Nat) (s : State) : Host.Outcome State Fault Refusal := next s (lostScan stripe)

/-- The key version that a key record names still exists (R308): the live key still has it, or the snapshot has not
ended. -/
def lostKeyStands (k : LostKey) (d : Device) : Bool :=
  if k.snap == 0xFFFF then
    match keyEntry? k.ns k.key d with
    | some e => match e.versions with
      | v :: _ => v.mseq == k.mseq && !v.tombstone
      | [] => false
    | none => false
  else d.snap.snaps.any fun s => s.num == k.snap && s.st != 0 && !s.ended

/-- Lost-stripe clear (R308): records whose scan is done and none of whose key records names a version that stands. -/
def clearLost (d : Device) : Device :=
  let goes := fun r : LostRecord => r.scanDone &&
    !(d.stripe.lostKeys.any fun k => k.seq == r.seq && lostKeyStands k d)
  let gone := d.stripe.lostStripes.filter goes
  let d := { d with stripe := { d.stripe with
    lostStripes := d.stripe.lostStripes.filter fun r => !goes r
    lostKeys := d.stripe.lostKeys.filter fun k => !gone.any (·.seq == k.seq) } }
  if d.stripe.lostStripes.isEmpty && d.stripe.lostKeys.isEmpty then
    setCond 5 false (bumpVersion 0x2920
      { d with stripe := { d.stripe with lostTruncated := false, lostLogged := false } })
  else bumpVersion 0x2920 d

/-! ## Failed elements and rebuild (R300 to R303, R309, R310) -/

/-- Stripes with a member on an element. -/
def workOf (a : Nat) (d : Device) : List Nat :=
  (d.stripe.stripes.filter fun s => (s.st == .issued || s.st == .durable) && s.members.any fun m => elementCovers a m.desc).map (·.id)

/-- Elements of a kind that failed within the last 60 s and lie on a target, channel or group. -/
def recentFailures (kind : Nat) (on : Nat → Bool) (d : Device) : Nat :=
  (d.stripe.failed.filter fun f => f.addr / 2 ^ 28 == kind && on f.addr && d.time.now ≤ f.failedAt + sec 60).length

/-- OD 0x2900:0D and :0E. -/
def refreshRebuild (d : Device) : Device :=
  let run := d.stripe.failed.filter fun f => f.st == 2 || f.st == 3 || f.st == 4
  let state := if run.isEmpty then 0 else if run.any (fun f => f.st != 4) then 1 else 2
  odPut 0x2900 0x0E ((run.map fun f => f.work.length).sum) (odPut 0x2900 0x0D state d)

/-- Local copies of the journal that can be read. -/
def localCopies (d : Device) : Nat := ((List.range 3).filter fun n => bit d.stripe.copies n).length

/-- A place for a new journal copy: a target in a channel group that holds no other copy (R291, R296). -/
def ringPlace (d : Device) : Option (MemberDesc × Device) :=
  let used := (d.stripe.rings.filter fun r => r.1 < 3 && bit d.stripe.copies r.1).map fun r => r.2.channel / 8
  let spots := (d.media.targets.filter fun t => ownsChannel t.channel d && groupOn (t.channel / 8) d &&
    !used.contains (t.channel / 8) && !lunFailed t.channel t.target 0 d).map fun t =>
      (⟨t.channel, t.target, 0, 0, 0⟩ : MemberDesc)
  pick spots d

/-- Unusable members for which deep read-retry has not failed yet, on elements in service (R304). -/
def retryable (s : Stripe) (d : Device) : List Nat :=
  (lostUnits s d).filter fun i => (s.members[i]?.map fun m => !memberFailed m.desc d && m.deepReadable).getD false

/-- Read a member of a stripe for its repair; `deep`: with deep read-retry. -/
def readMember (s : Stripe) (deep : Bool) (d : Device) (i : Nat) : Device :=
  match s.members[i]? with
  | some m => queueOp { blankOp .rebuildRead m.desc with stripe := s.id, member := i, step := if deep then 5 else 1, deep := deep } d
  | none => d

/-- A stripe leaves the parity check. -/
def checked (id : Nat) (d : Device) : Device :=
  { d with stripe := { d.stripe with checking := d.stripe.checking.filter (· != id) } }

/-- The parity check goes on with a stripe whose reads have ended (R52, R302, R304): it is whole, it is repaired from P and Q, its
unusable members get deep read-retry, or it is lost. -/
def checkOn (d : Device) (id : Nat) : Device :=
  let reads := d.media.ops.any fun o => o.stripe == id && o.kind == FlashKind.rebuildRead
  match stripeOf id d with
  | none => checked id d
  | some s =>
    let bad := lostUnits s d
    if s.st == .lost || (bad.isEmpty && !reads) then checked id d
    else if reads then d
    else if bad.length ≤ 2 then
      let d := bad.foldl (fun d m => startMove id m 3 false none d) d
      if d.stripe.moves.any (·.stripe == id) then d else checked id d
    else if !(retryable s d).isEmpty then (retryable s d).foldl (readMember s true) d
    else checked id (loseStripe id 4 d)

/-- Read-only state ends once the check and its repairs are done and three journal copies stand (R52). -/
def leaveReadOnly (d : Device) : Device :=
  if d.stripe.readOnly && d.stripe.checking.isEmpty && localCopies d == 3 then
    setCond 6 false { d with stripe := { d.stripe with readOnly := false } }
  else d

/-- What the parity check does after each read, program or failure. -/
def settleChecks (d : Device) : Device :=
  if !d.stripe.readOnly then d else leaveReadOnly (d.stripe.checking.foldl checkOn d)

/-- The device enters read-only state (R52): a full parity check of every open stripe, each programmed member within reach being
read. -/
def enterReadOnly (d : Device) : Device :=
  if d.stripe.readOnly then d
  else
    let opened := d.stripe.stripes.filter fun s => (s.st == .issued || (s.st != .lost && !s.released)) && !s.members.isEmpty
    let d := setCond 6 true { d with stripe := { d.stripe with readOnly := true, checking := opened.map (·.id) } }
    let d := opened.foldl (fun d s =>
      let within := (List.range s.members.length).filter fun i =>
        (s.members[i]?.map fun m => m.programmed && !unusable m d && ownsChannel m.desc.channel d).getD false
      within.foldl (readMember s false) d) d
    settleChecks d

/-- A copy of the journal gets a place and is written anew (R296). -/
def rewriteCopy (n : Nat) (d : Device) : Device :=
  let d := { d with stripe := { d.stripe with
    rewriting := if d.stripe.rewriting.contains n then d.stripe.rewriting else d.stripe.rewriting ++ [n], rings := tblDel d.stripe.rings n } }
  match ringPlace d with
  | some r => { r.2 with stripe := { r.2.stripe with rings := tblPut r.2.stripe.rings n r.1 } }
  | none => d

/-- Bit [3] of OD 0x2010:05 follows the local copies; with none of them, and no mirror, the device is read-only (R41, R52). -/
def refreshCopies (d : Device) : Device :=
  let d := setCond 3 (localCopies d != 3) d
  if localCopies d == 0 && !bit d.stripe.copies 3 then enterReadOnly d else leaveReadOnly d

/-- A journal copy is lost (R296): event 0x0A04, a new copy under way, the guarantee conditions. -/
def copyLost (n : Nat) (d : Device) : Device :=
  if n == 3 then
    if d.stripe.copy3 then rewriteCopy 3 (logEvent 0x0A04 0x0040 1 3 { d with stripe := { d.stripe with copy3 := false } }) else d
  else if !bit d.stripe.copies n then d
  else refreshCopies (rewriteCopy n (logEvent 0x0A04 0x0040 1 n { d with stripe := { d.stripe with copies := setBit d.stripe.copies n false } }))

/-- JOURNAL_COPY_REWRITTEN: event 0x0A05, and the conditions. -/
def copyRewritten (n : Nat) (d : Device) : Device :=
  if !d.stripe.rewriting.contains n then d
  else
    let d := { d with stripe := { d.stripe with rewriting := d.stripe.rewriting.filter (· != n) } }
    let d := if n == 3 then { d with stripe := { d.stripe with copy3 := true } }
      else { d with stripe := { d.stripe with copies := setBit d.stripe.copies n true } }
    refreshCopies (logEvent 0x0A05 0x0040 0 n d)

def execJournalCopyRewritten (copy : Nat) (s : State) : Host.Outcome State Fault Refusal := next s fun d =>
  issueClosed (copyRewritten copy d)

/-- An element fails for good: record, event, count; its blocks and its operations end. -/
def failOne (a cause : Nat) (d : Device) : Device :=
  if elementFailed a d then d
  else
    let d := journalRecord (.elementFailed a cause) d
    let d := odBump 0x2900 0x0C 1 (logEvent 0x0A01 0x0040 2 (cause * 2 ^ 32 + a) d)
    let work := workOf a d
    let f : FailedElement := ⟨a, cause, 2, work, 0, work.length, 0, 0, 0, tick d, 0, d.time.now⟩
    let ops := d.media.ops.filter fun o => !elementCovers a o.desc
    let blocks := d.map.blocks.map fun b => if elementCovers a b.desc && b.st != 4 then { b with st := 5 } else b
    let d := { d with
      stripe := { d.stripe with failed := f :: d.stripe.failed }
      media := { d.media with ops := ops }
      map := { d.map with blocks := blocks } }
    settleChecks (refreshRebuild ((d.stripe.rings.filter fun r => elementCovers a r.2).foldl (fun d r => copyLost r.1 d) d))

/-- A LUN's failure may fail its target, channel and group (R300). -/
def failElement (a cause : Nat) (d : Device) : Device :=
  let c := a / 2 ^ 16 % 256
  let t := a / 256 % 256
  let d := failOne a cause d
  if a / 2 ^ 28 == 4 then d
  else
    let d := if a / 2 ^ 28 == 1 && 2 ≤ recentFailures 1 (fun x => x / 256 == a / 256) d
      then failOne (targetAddr c t) 3 d else d
    let targets := (List.range 8).filter fun t =>
      0 < recentFailures 1 (fun x => x / 256 % 256 == t && x / 2 ^ 16 % 256 == c) d
    let d := if a / 2 ^ 28 == 1 && 3 ≤ targets.length then failOne (channelAddr c) 3 d else d
    if 3 ≤ recentFailures 3 (fun x => x / 2 ^ 16 % 256 / 8 == c / 8) d then failOne (groupAddr (c / 8)) 3 d else d

/-- A timeout on a LUN: counted, and the eighth within 60 s fails the LUN. -/
def noteTimeout (m : MemberDesc) (d : Device) : Device :=
  let a := lunAddr m.channel m.target m.lun
  let ts := (d.stripe.timeouts.filter fun t => d.time.now ≤ t.2 + sec 60) ++ [(a, d.time.now)]
  let d := odBump 0x2900 0x0B 1 { d with stripe := { d.stripe with timeouts := ts } }
  if 8 ≤ (ts.filter (·.1 == a)).length then failElement a 1 d else d

/-- Change a failed element. -/
def onFailed (a : Nat) (f : FailedElement → FailedElement) (d : Device) : Device :=
  { d with stripe := { d.stripe with failed := d.stripe.failed.map fun x => if x.addr == a then f x else x } }

/-- The ELEMENT_FAILED record is durable: the rebuild starts (R301). -/
def startRebuild (a : Nat) (d : Device) : Device :=
  if d.stripe.failed.any fun f => f.addr == a && f.st == 2 then
    refreshRebuild (logEvent 0x0A02 0x0040 0 a (onFailed a (fun f => { f with st := 3 }) d))
  else d

/-- Stripes of a work list that are repaired, relocated or lost leave it; an empty list is DONE. -/
def settleRebuild (a : Nat) (d : Device) : Device :=
  match d.stripe.failed.find? (·.addr == a) with
  | none => d
  | some f =>
    if f.st != 3 && f.st != 4 then d
    else
      let fixed := fun id : Nat =>
        match stripeOf id d with
        | none => true
        | some s => s.st == .lost || !(s.members.any fun m => elementCovers a m.desc)
      let lost := fun id : Nat => match stripeOf id d with
        | some s => s.st == .lost
        | none => false
      let done := f.work.filter fixed
      let work := f.work.filter fun i => !fixed i
      let gone := done.filter fun id => (stripeOf id d).isNone
      let lostN := (done.filter lost).length
      let d := onFailed a (fun f => { f with
        work := work, lost := f.lost + lostN, relocated := f.relocated + gone.length
        repaired := f.repaired + (done.length - lostN - gone.length)
        st := if work.isEmpty then 5 else f.st, doneTick := if work.isEmpty then tick d else 0 }) d
      refreshRebuild (if work.isEmpty then logEvent 0x0A02 0x0040 0 (2 ^ 32 + a) d else d)

/-- A needed member lies on the other peer's channels and cannot be reached (R301). -/
def unreachable (s : Stripe) (d : Device) : Bool :=
  s.members.any fun m => !memberFailed m.desc d && !ownsChannel m.desc.channel d && (!linkIsUp d || d.peer.takeover.isSome)

/-- Repair a stripe under R302: replacements while at most two members are unusable; else deep read-retry on those in
service; else the stripe is lost. -/
def repairStripe (a id : Nat) (d : Device) : Device :=
  match stripeOf id d with
  | none => d
  | some s =>
    let bad := lostUnits s d
    if bad.length ≤ 2 then
      let d := onFailed a (fun f => { f with unitsRead := f.unitsRead + s.k }) d
      bad.foldl (fun d m => startMove id m 3 false none d) d
    else
      if (retryable s d).isEmpty then loseStripe id 1 d else (retryable s d).foldl (readMember s true) d

/-- A stripe can be repaired now: nothing that it needs is out of reach, and for each member to be replaced there is a destination or room
to relocate the stripe (R286, R301). -/
def repairable (s : Stripe) (d : Device) : Bool :=
  let bad := lostUnits s d
  !unreachable s d && (2 < bad.length || (bad.all fun m => !(moveChannels s m d).isEmpty) || (placeableK (s.id % 2 ^ 63) s.unit d s.k).isSome)

/-- REBUILD_STRIPE: the next stripe of the element's work list; pauses when it needs something out of reach. -/
def rebuildStripe (a : Nat) (d : Device) : Device :=
  let d := settleRebuild a d
  match d.stripe.failed.find? (·.addr == a) with
  | none => d
  | some f =>
    if f.st != 3 && f.st != 4 then d
    else
      let free := f.work.filter fun id => !d.stripe.moves.any (·.stripe == id)
      let within := free.filter fun id => ((stripeOf id d).map fun s => repairable s d).getD true
      match within with
      | id :: _ => settleRebuild a (repairStripe a id d)
      | [] => if free.isEmpty then d else refreshRebuild (onFailed a (fun f => { f with st := 4 }) d)

def execRebuildStripe (element : Nat) (s : State) : Host.Outcome State Fault Refusal := next s (rebuildStripe element)

/-- REBUILD_RESUME: the reason for the pause has ended. -/
def execRebuildResume (element : Nat) (s : State) : Host.Outcome State Fault Refusal :=
  next s fun d =>
    match d.stripe.failed.find? (·.addr == element) with
    | none => d
    | some f =>
      if f.st == 4 && (f.work.any fun id => ((stripeOf id d).map fun s => repairable s d).getD true) then
        refreshRebuild (onFailed element (fun f => { f with st := 3 }) d)
      else d

/-- LUN_RESET_TIMEOUT: a LUN not ready within 1 s of a reset fails for good. -/
def execLunResetTimeout (channel target lun : Nat) (s : State) : Host.Outcome State Fault Refusal :=
  next s fun d => failElement (lunAddr channel target lun) 2 (odBump 0x2900 0x0B 1 d)

end Sys2Proof.Machine
end

