-- ==== Sys2Proof/Machine/Media.lean ====
section
/-! DEFINITION. The ends of flash operations: reads and their steps, programs, erases, block reclaim's emptying of blocks
(R298, R299, R305, R343 to R353, R376, R377, R383 to R385). -/

namespace Sys2Proof.Machine

/-! ## Counts of chapter 12 -/

/-- Add to count `i` of a group's record of log 0xC3: 0 corrected codewords, 1 reads past step 1, 2 soft decodes,
3 uncorrected units, 4 refreshes. -/
def bumpGroup (g i : Nat) (d : Device) : Device :=
  let cs := modNth d.media.groupCounts g fun r => modNth r i (· + 1)
  { d with media := { d.media with groupCounts := cs } }

/-- An uncorrected unit (R391). -/
def uncorrected (m : MemberDesc) (d : Device) : Device :=
  let d := odBump 0x3400 9 1 (bumpGroup (m.channel / 8) 3 d)
  { d with admin := { d.admin with mediaErrors := d.admin.mediaErrors + 1 } }

/-- Queue a closed block for refresh (R383). -/
def queueRefresh (m : MemberDesc) (d : Device) : Device :=
  onBlock m (fun b => if b.st == 2 && !b.slc then { b with refreshDue := true } else b) d

/-- Decoded with bit errors above the refresh errors of the block's strength. -/
def pastRefreshErrors (m : MemberDesc) (bitErrors : Nat) (d : Device) : Bool :=
  match blockOf m d, profileOf (m.channel / 8) d with
  | some b, some p =>
    let mode := blockMode p b
    refreshErrors p mode (strengthOf p mode b.erases) < bitErrors
  | _, _ => false

/-! ## Units by their place -/

/-- The member that a descriptor names. -/
def memberAt (m : MemberDesc) (d : Device) : Option (Stripe × Nat) :=
  d.stripe.stripes.findSome? fun s =>
    ((List.range s.members.length).find? fun i => (s.members[i]?.map fun x => x.desc == m).getD false).map fun i => (s, i)

/-- What a unit of flash reads as: a member of a stripe kept here, or of the other peer's (free). -/
def unitAt (m : MemberDesc) (d : Device) : Bytes :=
  match memberAt m d with
  | some (s, i) => unitOf s i d
  | none => Config.flashUnit (descNum m) d.time.now

/-! ## Emptying a block (R344, R346, R349, R351) -/

/-- Stripe members that a block holds. -/
def membersOn (m : MemberDesc) (d : Device) : List (Nat × Nat) :=
  d.stripe.stripes.flatMap fun s => (List.range s.members.length).filterMap fun i =>
    match s.members[i]? with
    | some x => if blockDesc x.desc == blockDesc m then some (s.id, i) else none
    | none => none

/-- A new request to the other peer. -/
def newReq (what : ReqFor) (domain : Nat) (fp : Bytes) (copy : Nat) (d : Device) : Nat × Device :=
  let id := d.peer.nextReq
  (id, { d with peer := { d.peer with nextReq := id + 1, reqs := d.peer.reqs ++ [⟨id, what, domain, fp, copy⟩] } })

/-- Ask the other peer to move the units of its stripes that a block holds: their stripe ids and pages stand in the page
headers, which the model does not hold (free). -/
def askMoves : Nat → MemberDesc → Nat → Device → Device
  | 0, _, _, d => d
  | n + 1, m, reason, d =>
    let w := draw d
    let p := draw w.2
    let r := newReq (.move w.1 0) 0 [] 0 p.2
    let d := { r.2 with map := { r.2.map with moveRequests := r.2.map.moveRequests ++ [(r.1, m.channel, descNum m)] } }
    askMoves n m reason (sendLink (.moveRequest r.1 w.1 { m with page := p.1 % 65536 } reason) d)

/-- Move every live unit of a block; units of the other peer's stripes by request, while the link is up. -/
def emptyBlock (m : MemberDesc) (reason : Nat) (d : Device) : Device :=
  match blockOf m d with
  | none => d
  | some b =>
    let d := onBlock m (fun b => { b with emptying := max b.emptying reason }) d
    let own := (membersOn m d).filter fun x => (d.stripe.stripes.any fun s => s.id == x.1 && s.st != .lost)
    let d := own.foldl (fun d x => startMove x.1 x.2 reason true none d) d
    if linkIsUp d && own.length < b.live then askMoves (b.live - own.length) (blockDesc m) reason d else d

/-! ## Reads (R298, R299, R302, R305, R376) -/

/-- The next step of R376 after `n`: step 2 only when the write temperature is cached. -/
def nextReadStep (n : Nat) (m : MemberDesc) (d : Device) : Nat :=
  if n == 1 && (hintOf m d).isNone then 3 else n + 1

/-- Keep the hint of a block: the entry that succeeded and the write temperature of the unit. -/
def keepHint (o : FlashOp) (d : Device) : Device :=
  let t := match blockOf o.desc d, profileOf (o.desc.channel / 8) d with
    | some b, some p => some (pfThreshold p (blockMode p b), b.erases)
    | _, _ => none
  let cand := match t with
    | none => []
    | some (t, e) => if o.step ≤ 2 then [readEntry o d] else if o.step ≤ 4 then retryOrder t e else List.range (leAt t 1 1)
  match pick cand d with
  | none => d
  | some (entry, d) =>
    let temp := ((stripeOf o.stripe d).bind fun s => s.members[o.member]?.map (·.temp)).getD 0
    let h : BlockHint := ⟨o.desc.channel, o.desc.target, o.desc.lun, o.desc.block, entry, temp⟩
    let others := d.media.hints.filter fun x => !(x.channel == h.channel && x.target == h.target && x.lun == h.lun &&
      x.block == h.block)
    { d with media := { d.media with hints := others ++ [h] } }

/-- A host read has to reconstruct a unit: counted, and the member is repaired when its element is in service (R305). -/
def repairAfterRead (o : FlashOp) (d : Device) : Device :=
  let d := odBump 0x2900 0x0A 1 d
  if memberFailed o.desc d || (stripeOf o.stripe d).isNone then d
  else
    let d := { d with stripe := { d.stripe with repairs := d.stripe.repairs ++ [(o.stripe, o.member)] } }
    startMove o.stripe o.member 4 false none d

/-- The read-back of R385 fails: the member is moved with reason 4, counted and logged; the block stays in service. -/
def failVerify (o : FlashOp) (d : Device) : Device :=
  logEvent 0x0C05 0x0000 1 o.stripe (startMove o.stripe o.member 4 false none d)

/-- A unit could not be read: what each reader does then. -/
def readFailed (o : FlashOp) (d : Device) : Device :=
  if o.stripe == 0 && o.member < 4 then copyLost o.member d
  else
    let d := onMember o.stripe o.member (fun m => { m with readable := false, deepReadable := m.deepReadable && o.step < 5 }) d
    match o.engine, o.req with
    | some _, _ => if o.kind == FlashKind.hostRead then repairAfterRead o d else d
    | none, some r => sendLink (.unitData r 1 0 []) d
    | none, none =>
      if o.verify then failVerify o d
      else if (moveOf o.stripe o.member d).isSome then
        match stripeOf o.stripe d with
        | none => d
        | some s =>
          if (lostUnits s d).length ≤ 2 then programMember o.stripe o.member o.reclaim d
          else if o.step < 5 then
            queueOp { blankOp o.kind o.desc with stripe := o.stripe, member := o.member, step := 5, deep := true } d
          else loseStripe o.stripe 1 d
      else d

/-- A unit has decoded. -/
def readDone (o : FlashOp) (bitErrors : Nat) (d : Device) : Device :=
  let g := o.desc.channel / 8
  let d := if bitErrors == 0 then d else odBump 0x3400 6 1 (bumpGroup g 0 d)
  let d := if o.step ≤ 1 then d else keepHint o (odBump 0x3400 7 1 (bumpGroup g 1 d))
  let d := if 4 ≤ o.step then bumpGroup g 2 d else d
  let d := if 3 ≤ o.step || pastRefreshErrors o.desc bitErrors d then queueRefresh o.desc d else d
  let d := onMember o.stripe o.member (fun m => { m with readable := true }) d
  match o.req with
  | some r =>
    sendLink (.unitData r 0 0 (unitAt o.desc d)) d
  | none =>
    if o.verify then
      match stripeOf o.stripe d with
      | some s =>
        if o.step == 1 && bitErrors ≤ verifyMargin s d then onMember o.stripe o.member (fun m => { m with verified := true }) d
        else failVerify o d
      | none => d
    else if o.engine.isNone && (moveOf o.stripe o.member d).isSome && o.kind == FlashKind.gcRead then
      programMember o.stripe o.member o.reclaim d
    else d

/-- What the engine of an operation sees when it ends (R497). -/
def engineSees (o : FlashOp) (decoded : Bool) (d : Device) : Device :=
  match o.engine with
  | none => d
  | some e =>
    let d := engineCond e 24 (!decoded) (engineCond e 23 true d)
    onEngine e (fun x => { x with flash := none, tokens := 0, flashStep := o.step }) d

/-- FLASH_READ_COMPLETE: the codewords decode, or the next step is tried; an engine asks for its next step itself. -/
def readComplete (op : Nat) (decoded : Bool) (bitErrors : Nat) (d : Device) : Device :=
  match opOf op d with
  | none => d
  | some o =>
    if !o.started || !o.kind.isRead then d
    else if decoded then readDone o bitErrors (engineSees o true (endOp o d))
    else if o.step == 5 then readFailed o (odBump 0x3400 8 1 (engineSees o false (endOp o d)))
    else if o.step == 4 then
      let d := uncorrected o.desc d
      if o.deep || (o.stripe == 0 && o.member < 4) then
        emitReads { o with step := 5 } (onOp op (fun o => { o with step := 5 }) d)
      else readFailed o (engineSees o false (endOp o d))
    else match o.engine with
      | some _ => engineSees o false (endOp o d)
      | none =>
        let n := nextReadStep o.step o.desc d
        emitReads { o with step := n } (onOp op (fun o => { o with step := n }) d)

def execFlashReadComplete (op : Nat) (decoded : Bool) (bitErrors : Nat) (s : State) :
    Host.Outcome State Fault Refusal := next s fun d => settleChecks (readComplete op decoded bitErrors d)

/-- Two other members of the stripe are already unusable (R299). -/
def indispensable (o : FlashOp) (d : Device) : Bool :=
  match stripeOf o.stripe d with
  | none => false
  | some s => 2 ≤ ((lostUnits s d).filter (· != o.member)).length

/-- A channel between the tick of its hand-over and the new owner's first operation, or driven by neither peer: a read of it counts its
time from the request (R437, R438). -/
def channelAway (c : Nat) (d : Device) : Bool := !ownsChannel c d || !bit d.peer.driven c

/-- FLASH_READ_TIMEOUT: the larger of OD 0x2900:01 × tR and OD 0x2900:02 has passed; of a read that its channel's hand-over holds back,
since the request. -/
def readTimeout (op : Nat) (d : Device) : Device :=
  match opOf op d with
  | none => d
  | some o =>
    if !(o.started || channelAway o.desc.channel d) || !o.kind.isRead then d
    else
      let limit := max (us (odVal 0x2900 1 d * modeTr (modeOf o.desc d))) (ms (odVal 0x2900 2 d))
      let d := waitUntil (o.startedAt + limit) d
      let note := fun d : Device => if o.started then noteTimeout o.desc d else d
      if indispensable o d then note d
      else
        let d := engineSees o false (endOp o d)
        let d := match o.engine, o.req with
          | some _, _ =>
            if o.kind != FlashKind.hostRead then d else if o.started then repairAfterRead o d else odBump 0x2900 0x0A 1 d
          | none, some r => sendLink (.unitData r 1 0 []) d
          | none, none =>
            if o.verify then failVerify o d
            else if (moveOf o.stripe o.member d).isSome then programMember o.stripe o.member o.reclaim d
            else d
        note d

def execFlashReadTimeout (op : Nat) (s : State) : Host.Outcome State Fault Refusal := next s fun d => settleChecks (readTimeout op d)

/-- HARD_READ_LIMIT: a member that the read cannot do without counts as unreadable at OD 0x2900:13. -/
def execHardReadLimit (op : Nat) (s : State) : Host.Outcome State Fault Refusal :=
  next s fun d =>
    match opOf op d with
    | none => d
    | some o =>
      if !o.started || !o.kind.isRead || !indispensable o d then d
      else
        let d := waitUntil (o.startedAt + ms (odVal 0x2900 0x13 d)) d
        settleChecks (readFailed o (engineSees o false (endOp o d)))

/-! ## Programs (R289, R290, R351, R353, R385) -/

/-- FLASH_PROGRAM_COMPLETE. -/
def programComplete (op : Nat) (d : Device) : Device :=
  match opOf op d with
  | none => d
  | some o =>
    if !o.started || o.kind != FlashKind.program then d
    else
      let d := engineSees o true (endOp o d)
      let d := match moveOf o.stripe o.member d with
        | some mv => if mv.new == o.desc then finishMove mv d else d
        | none => onMember o.stripe o.member (fun m => if m.desc == o.desc then { m with programmed := true } else m) d
      match stripeOf o.stripe d with
      | none => reapStripes d
      | some s =>
        if s.st == .issued && verifies s d then
          queueOp { blankOp .gcRead o.desc with stripe := o.stripe, member := o.member, verify := true } d
        else reapStripes d

def execFlashProgramComplete (op : Nat) (s : State) : Host.Outcome State Fault Refusal := next s fun d => settleChecks (programComplete op d)

/-- A program has failed or timed out: the block is retired, the unit moved, and the block's other units with it. -/
def programFailed (o : FlashOp) (reason : Nat) (d : Device) : Device :=
  let d := engineSees o false (endOp o d)
  match moveOf o.stripe o.member d with
  | some mv =>
    let d := { d with stripe := { d.stripe with
      moves := d.stripe.moves.filter fun m => !(m.stripe == o.stripe && m.member == o.member) } }
    let d := retireBlock o.desc 3 (dropUnit o.desc d)
    emptyBlock o.desc 1 (startMove o.stripe o.member mv.reason false mv.req d)
  | none =>
    let d := retireBlock o.desc 1 d
    emptyBlock o.desc 1 (startMove o.stripe o.member reason false none d)

/-- FLASH_PROGRAM_FAILURE. -/
def execFlashProgramFailure (op : Nat) (s : State) : Host.Outcome State Fault Refusal :=
  next s fun d =>
    match opOf op d with
    | none => d
    | some o => if o.started && o.kind == FlashKind.program then programFailed o 1 d else d

/-- FLASH_PROGRAM_TIMEOUT: the larger of 3 × tPROG and OD 0x2900:03. -/
def execFlashProgramTimeout (op : Nat) (s : State) : Host.Outcome State Fault Refusal :=
  next s fun d =>
    match opOf op d with
    | none => d
    | some o =>
      if o.started && o.kind == FlashKind.program then
        let limit := max (us (3 * modeTprog (modeOf o.desc d))) (ms (odVal 0x2900 3 d))
        noteTimeout o.desc (programFailed o 2 (waitUntil (o.startedAt + limit) d))
      else d

/-! ## Erases (R348, R352, R369) -/

/-- What waits for a block's erase: the other peer's request, and this device's requests served here. -/
def eraseAnswered (m : MemberDesc) (result : Nat) (d : Device) : Device :=
  let mine := d.peer.peerReqs.filter fun r => match r.2 with
    | .erase b _ => blockDesc b == blockDesc m
    | _ => false
  let d := { d with peer := { d.peer with peerReqs := d.peer.peerReqs.filter fun r => !mine.any (·.1 == r.1) } }
  mine.foldl (fun d r => sendLink (.requestDone r.1 result) d) d

/-- Copies of tenant erases whose entry is gone and whose blocks have been erased are reclaimed; with a tenant's last one event
0x0909 is logged (R267). -/
def settleErased (d : Device) : Device :=
  let gone := fun x : ErasedCopy => x.blocks.isEmpty && (copyOf x.domain x.fp x.num d).isNone
  let left := d.cipher.erased.filter fun x => !gone x
  let tenants := ((d.cipher.erased.filter gone).map (·.tenant)).eraseDups.filter fun t => !left.any (·.tenant == t)
  let d := { d with cipher := { d.cipher with erased := left } }
  tenants.foldl (fun d t => logEvent 0x0909 0x0030 0 t d) d

/-- A block has been erased: tenant erases wait for it no longer. -/
def noteErased (m : MemberDesc) (d : Device) : Device :=
  let erased := d.cipher.erased.map fun x => { x with blocks := x.blocks.filter (· != blockDesc m) }
  settleErased { d with cipher := { d.cipher with erased := erased } }

/-- FLASH_ERASE_COMPLETE: the block is free, its erase count 1 higher, BLOCK_STATE records it. -/
def eraseComplete (op : Nat) (d : Device) : Device :=
  match opOf op d with
  | none => d
  | some o =>
    if !o.started || o.kind != FlashKind.erase then d
    else
      let d := endOp o d
      let d := onBlock o.desc (fun b => { b with
        st := 0, stream := 0, next := 0, live := 0, erases := min (b.erases + 1) (2 ^ 32 - 1), barrier := 0,
        barrierOpen := false, awaiting := [], refreshDue := false, emptying := 0, slc := false }) d
      let d := { d with map := { d.map with residue := d.map.residue.filter (·.2 != descNum (blockDesc o.desc)) } }
      let n := ((blockOf o.desc d).map (·.erases)).getD 0
      let hints := d.media.hints.filter fun h => !(h.channel == o.desc.channel && h.target == o.desc.target &&
        h.lun == o.desc.lun && h.block == o.desc.block)
      let d := { d with media := { d.media with hints := hints } }
      let d := journalRecord (.blockState o.desc.channel o.desc.target o.desc.lun o.desc.block 0 0 n) d
      eraseAnswered o.desc 0 (odBump 0x2A00 0x0F 1 (noteErased o.desc d))

def execFlashEraseComplete (op : Nat) (s : State) : Host.Outcome State Fault Refusal := next s (eraseComplete op)

/-- FLASH_ERASE_FAILURE: an erase fails or times out; the block is retired. -/
def execFlashEraseFailure (op : Nat) (s : State) : Host.Outcome State Fault Refusal :=
  next s fun d =>
    match opOf op d with
    | none => d
    | some o =>
      if o.started && o.kind == FlashKind.erase then eraseAnswered o.desc 2 (retireBlock o.desc 2 (endOp o d)) else d

end Sys2Proof.Machine
end

