-- ==== Sys2Proof/Machine/Map.lean ====
section
/-! DEFINITION. Map pages, manifests in their pages, checkpoints, garbage collection, wear levelling and block erase
(R320 to R355). -/

namespace Sys2Proof.Machine

/-! ## Map pages (R320 to R330) -/

/-- Types that never leave the cache: block table, page table, directory. -/
def residentType (typ : Nat) : Bool := 5 ≤ typ

/-- Pages that the cache holds. -/
def cachePages (d : Device) : Nat := d.map.cacheGiB * 65536

/-- Pages beyond the cache leave, the least recently used first; a dirty page stays until it has been written. -/
def evictPages (d : Device) : Device :=
  let held := d.map.pages.filter (·.cached)
  if held.length ≤ cachePages d then d
  else
    match bestBy (fun a b => a.lastUse < b.lastUse) (held.filter fun p => !p.dirty && !p.pinned && p.pending == 0) with
    | none => d
    | some v =>
      let pages := d.map.pages.map fun p => if isPage v.typ v.lid p then { p with cached := false } else p
      { d with map := { d.map with pages := pages } }

/-- A record for the map page is applied: the page enters the cache, dirty, its LSN the sequence of the journal page that
will carry the record (R333). -/
def applyPage (typ lid : Nat) (d : Device) : Device :=
  let lsn := d.stripe.pageSeq + 1
  match pageOf typ lid d with
  | some _ =>
    let pages := d.map.pages.map fun p =>
      if isPage typ lid p then { p with lsn := lsn, dirty := true, cached := true, lastUse := d.time.now } else p
    { d with map := { d.map with pages := pages } }
  | none =>
    evictPages { d with map := { d.map with pages := d.map.pages ++
      [⟨typ, lid, lsn, 0, 0, 0, 0, true, true, residentType typ, 0, d.time.now, false⟩] } }

/-- The page of a record: a free value of its type and key. -/
def touchMap (typ : Nat) (key : Bytes) (d : Device) : Device := applyPage typ (Config.leafOf typ key) d

/-- The page that a look-up needs and that the cache does not hold: type and number. -/
def missingPage (typ : Nat) (key : Bytes) (d : Device) : Option (Nat × Nat) :=
  match pageOf typ (Config.leafOf typ key) d with
  | some p => if p.cached then none else some (p.typ, p.lid)
  | none => none

/-! ## Manifests in their pages (R201, R325) -/

/-- Bytes of a manifest. -/
def manifestLength (m : Manifest) : Nat := 32 + (m.key.length + 7) / 8 * 8 + 40 * m.chunks.length

/-- A manifest's bytes (R201). -/
def manifestBytes (m : Manifest) : Bytes :=
  leBytes 2 1 ++ leBytes 2 m.key.length ++ leBytes 4 m.ns ++ leBytes 8 m.size ++ leBytes 8 m.seq ++
    leBytes 2 m.chunks.length ++ leBytes 2 m.domain ++ leBytes 2 m.slot ++ leBytes 1 (b2n m.batch) ++ [0] ++
    padTo ((m.key.length + 7) / 8 * 8) m.key ++
    m.chunks.flatMap fun c => padTo 32 c.fp ++ leBytes 4 c.copy ++ leBytes 4 c.len

/-- Body bytes of a map page. -/
def pageBody : Nat := 16320

/-- Pack a manifest at the end of the current manifest page; what does not fit goes on in the next pages. Its locator. -/
def packManifest (m : Manifest) (d : Device) : Device :=
  let len := manifestLength m
  let d := if d.map.manifestPage == 0 || d.map.manifestFill == pageBody then
      { d with map := { d.map with manifestPage := d.map.nextLid, nextLid := d.map.nextLid + 1, manifestFill := 0 } }
    else d
  let p0 := d.map.manifestPage
  let n := (d.map.manifestFill + len - 1) / pageBody
  let loc := p0 * 2 ^ 14 + d.map.manifestFill
  let fill := d.map.manifestFill + len - n * pageBody
  let d := { d with map := { d.map with
    locators := d.map.locators ++ [(m.seq, loc, len)]
    manifestPage := if n == 0 then p0 else d.map.nextLid + n - 1
    nextLid := d.map.nextLid + n
    manifestFill := fill } }
  let first := d.map.nextLid - n
  (List.range n).foldl (fun d i => applyPage 2 (first + i) d) (applyPage 2 p0 d)

/-- Locator of a manifest. -/
def locatorOf (mseq : Nat) (d : Device) : Nat := ((d.map.locators.find? (·.1 == mseq)).map (·.2.1)).getD 0

/-- A manifest has died: its locator goes. -/
def dropLocator (mseq : Nat) (d : Device) : Device :=
  { d with map := { d.map with locators := d.map.locators.filter (·.1 != mseq) } }

/-- Live bytes of a manifest page. -/
def liveManifestBytes (lid : Nat) (d : Device) : Nat :=
  ((d.map.locators.filter fun l => l.2.1 / 2 ^ 14 == lid).map (·.2.2)).sum

/-- MANIFEST_COMPACTION: every live manifest of a closed page below OD 0x2A00:06 moves to the current page. -/
def compactManifests (d : Device) : Device :=
  let sparse := d.map.pages.find? fun p => p.typ == 2 && p.lid != d.map.manifestPage &&
    0 < liveManifestBytes p.lid d && liveManifestBytes p.lid d * 100 < odVal 0x2A00 6 d * pageBody
  match sparse with
  | none => d
  | some p =>
    let live := d.map.locators.filter fun l => l.2.1 / 2 ^ 14 == p.lid
    live.foldl (fun d l =>
      match manifestOf l.1 d with
      | none => dropLocator l.1 d
      | some m =>
        let d := packManifest m (dropLocator l.1 d)
        let d := journalRecord (.manifestMoved l.2.2 l.2.1 (locatorOf l.1 d)) d
        touchMap 1 (indexKey m.ns m.key) d) d

def execManifestCompaction (s : State) : Host.Outcome State Fault Refusal := next s compactManifests

/-! ## Checkpoints (R334 to R336) -/

/-- Record a new seal limit, 2^20 higher (R256, R322). -/
def recordSealLimit (d : Device) : Device :=
  let l := d.map.sealLimit + 2 ^ 20
  journalRecord (.sealLimit l) { d with map := { d.map with sealPending := some l } }

/-- The seal count is within 2^19 of its limit and no new limit is on its way: one is recorded. -/
def reserveSeals (d : Device) : Device :=
  if d.map.sealPending.isNone && d.map.sealLimit < d.map.sealCount + 2 ^ 19 + 1 then recordSealLimit d else d

/-- `n` more seals lie below the durable limit. -/
def sealsLeft (n : Nat) (d : Device) : Bool := d.map.sealCount + n < d.map.sealLimit

/-- At a start the seal count goes on from its durable limit, and a new one is recorded (R257, R322). -/
def restartSeals (d : Device) : Device :=
  recordSealLimit { d with map := { d.map with sealCount := d.map.sealLimit, sealPending := none } }

/-- Write a page to the map stream; during an alarm, and at the seal limit, it waits to be sealed (R322, R535). -/
def writePage (typ lid : Nat) (d : Device) : Device :=
  if d.cipher.alarm != 0 || !sealsLeft 1 d then reserveSeals d else
  let r := gather (odVal 0x2A00 4 d) 5 .map 0 16384 d
  let loc := match r.1 with
    | e :: _ => mapLoc e.stripe (e.off / 16384)
    | [] => 0
  let seals := r.2.map.sealCount + 1
  let pages := r.2.map.pages.map fun p => if isPage typ lid p then { p with pending := loc, pendingLsn := p.lsn } else p
  reserveSeals { r.2 with map := { r.2.map with pages := pages, sealCount := seals } }

/-- A trigger of R334 other than the interval stands. -/
def checkpointDue (d : Device) : Bool :=
  odVal 0x2A00 3 d ≤ ringUse d && ringPages d != 0 || (match d.power.entering with | some n => 2 ≤ n | none => false)
    || d.peer.handovers.any (·.old)

/-- Begin a checkpoint: CHECKPOINT_BEGIN, the dirty pages to the map stream, then the page-table and directory pages; on
entry to PS_2 or deeper every dirty page. Without seals for them it waits for the new limit. -/
def checkpointBegin (d : Device) : Device :=
  if !sealsLeft d.map.pages.length d then reserveSeals { d with map := { d.map with checkpointAgain := true } } else
  let n := d.map.checkpointNum + 1
  let d := journalRecord (.checkpointBegin n) d
  let dirty := d.map.pages.filter fun p => p.dirty && p.typ < 6 && p.pending == 0
  let d := dirty.foldl (fun d p => writePage p.typ p.lid d) d
  let tables := d.map.pages.filter fun p => 6 ≤ p.typ && (p.dirty || p.typ == 7) && p.pending == 0
  let d := tables.foldl (fun d p => writePage p.typ p.lid d) d
  let ids := (d.map.pages.filter fun p => p.pending != 0).map fun p => locStripe p.pending
  { d with map := { d.map with
    checkpointNum := n, lastCheckpointAt := d.time.now, checkpoint := some ⟨n, 0, ids.eraseDups, d.time.now, false⟩ } }

/-- A seal limit is durable: it holds, and a checkpoint that waited for it begins (R322). -/
def sealDurable (l : Nat) (d : Device) : Device :=
  let d := { d with map := { d.map with
    sealLimit := max l d.map.sealLimit, sealPending := if d.map.sealPending == some l then none else d.map.sealPending } }
  if d.map.checkpointAgain && d.map.checkpoint.isNone then checkpointBegin { d with map := { d.map with checkpointAgain := false } } else d

/-- CHECKPOINT_START: one runs at a time; a trigger during one starts the next. -/
def checkpointStart (d : Device) : Device :=
  match d.map.checkpoint with
  | some _ => { d with map := { d.map with checkpointAgain := true } }
  | none =>
    checkpointBegin (if checkpointDue d then d
      else waitUntil (d.map.lastCheckpointAt + ms (odVal 0x2A00 2 d)) d)

def execCheckpointStart (s : State) : Host.Outcome State Fault Refusal := next s checkpointStart

/-- CHECKPOINT_COMPLETE: every stripe that holds its pages is DURABLE: CHECKPOINT_DONE. -/
def checkpointComplete (d : Device) : Device :=
  match d.map.checkpoint with
  | none => d
  | some c =>
    let durable := c.stripes.all fun id => match stripeOf id d with
      | some s => s.st == .durable || s.st == .lost
      | none => true
    if durable && c.begun && !d.stripe.queued.contains (.checkpointDone c.num c.start) &&
        !(d.stripe.pages.any fun p => p.records.contains (.checkpointDone c.num c.start)) then
      journalRecord (.checkpointDone c.num c.start) d
    else d

def execCheckpointComplete (s : State) : Host.Outcome State Fault Refusal := next s checkpointComplete

/-- A read in progress names the copy (R207). -/
def beingRead (dom : Nat) (fp : Bytes) (num : Nat) (d : Device) : Bool :=
  d.nvme.cmds.any fun c => c.phase == .reading && c.named.any fun m => m.domain == dom && m.chunks.any fun ch => ch.fp == fp && ch.copy == num

/-- A secure delete's erasure that has not begun lists the copy (R212). -/
def awaitsErasure (dom : Nat) (fp : Bytes) (num : Nat) (d : Device) : Bool :=
  d.admin.slots.any fun s => match s.op with
    | .erasure _ cs [] _ => s.state == 2 && cs.contains (dom, leNat fp, num)
    | _ => false

/-- DEAD entries go with the checkpoint after their death (R326), once no read and no erasure needs them. -/
def removeDead (d : Device) : Device :=
  let needed := fun c : Copy => (d.kv.invalidating.any fun i => i.2 == (c.domain, c.fp, c.num)) || beingRead c.domain c.fp c.num d ||
    awaitsErasure c.domain c.fp c.num d
  let dead := d.kv.copies.filter fun c => c.dead && !needed c
  dead.foldl (fun d c => dropCopy c.domain c.fp c.num (journalRecord (.copyRemoved c.domain c.fp c.num) d)) d

/-- CHECKPOINT_DONE is durable: the checkpoint is complete (R335, R336). -/
def checkpointDurable (n start : Nat) (d : Device) : Device :=
  match d.map.checkpoint with
  | none => d
  | some c =>
    if c.num != n then d
    else
      let d := odBump 0x2A00 0x0A 1 { d with map := { d.map with checkpoint := none, startSeq := max start d.map.startSeq } }
      let d := settleErased (removeDead d)
      if d.map.checkpointAgain then checkpointBegin { d with map := { d.map with checkpointAgain := false } } else d

/-! ## Collection (R343 to R349) -/

/-- GC_LEVEL_CHANGE: event 0x0B02 at each change; a channel that leaves level 3 takes members again. -/
def gcLevelChange (c : Nat) (d : Device) : Device :=
  let l := levelOf c d
  if tblGetD d.map.levels c 0 == l || !ownsChannel c d then d
  else
    let d := restartIdle { d with map := { d.map with levels := tblStore 0 d.map.levels c l } }
    issueClosed (logEvent 0x0B02 0x0042 0 (c * 256 + l) d)

def execGcLevelChange (channel : Nat) (s : State) : Host.Outcome State Fault Refusal := next s (gcLevelChange channel)

/-- Collection may run: not while a power failure or the entry to a state stops it (R46). -/
def collecting (d : Device) : Bool := !powerFailing d

/-- Units of the other peer's stripes can be asked for (R349). -/
def canAsk (d : Device) : Bool := linkIsUp d && d.peer.takeover.isNone

/-- Every live unit of the block belongs to a stripe kept here. -/
def ownUnits (b : Block) (d : Device) : Bool := b.live ≤ (membersOn b.desc d).length

/-- Closed blocks of a channel that may be emptied. -/
def victims (c : Nat) (d : Device) : List Block :=
  d.map.blocks.filter fun b => b.channel == c && b.st == 2 && !b.slc && b.emptying == 0 && (ownUnits b d || canAsk d)

/-- A block without live units waits to be erased (R348). -/
def maybeState3 (m : MemberDesc) (d : Device) : Device :=
  onBlock m (fun b => if b.live == 0 && b.st == 2 then { b with st := 3 } else b) d

/-- Erase-count spread of the blocks in service of a channel (R354). -/
def wearSpread (c : Nat) (d : Device) : Nat :=
  let es := (serviceBlocks c d).map (·.erases)
  es.foldl max 0 - es.foldl min (es.headD 0)

/-- Wear levelling of a channel goes on: from a spread above OD 0x2A30:00 until it is at most 20 less (R354). -/
def levelling (c : Nat) (d : Device) : Bool :=
  let limit := odVal 0x2A30 0 d
  limit < wearSpread c d || (d.map.levelling.contains c && limit - 20 < wearSpread c d)

/-- A reason of the given order waits for collection work (R346). Order 1 never waits: a retired block's moves start at once. -/
def reasonWaits (order : Nat) (d : Device) : Bool :=
  let onChannels := fun f : Nat → Bool => (List.range 128).any fun c => ownsChannel c d && f c && !(victims c d).isEmpty
  match order with
  | 2 => onChannels fun c => 2 ≤ levelOf c d
  | 3 => d.map.blocks.any fun b => b.refreshDue && b.st == 2 && b.emptying == 0 && ownsChannel b.channel d
  | 4 => d.admin.slots.any fun s => s.state == 2 && match s.op with
      | .erasure _ _ bs _ => bs.any fun x => ownsChannel (descOfNum x.1).channel d && ((blockOf (descOfNum x.1) d).map fun b => b.st == 2 && b.emptying == 0).getD false
      | _ => false
  | 5 => onChannels fun c => levelOf c d == 1
  | 6 => onChannels fun c => levelling c d
  | _ => false

/-- A reason of a lower order number waits, and is served first (R346). -/
def outranked (order : Nat) (d : Device) : Bool := (List.range order).any fun n => reasonWaits n d

/-- BLOCK_RECLAIM: the victim with the fewest live units, oldest first write, lowest erase count (R344). -/
def blockReclaim (c : Nat) (d : Device) : Device :=
  if !ownsChannel c d || !collecting d || levelOf c d == 0 || outranked (if 2 ≤ levelOf c d then 2 else 5) d then d
  else
    match bestBy (fun a b : Block => natsLt [a.live, a.writeMin, a.erases] [b.live, b.writeMin, b.erases]) (victims c d) with
    | none => d
    | some b => maybeState3 b.desc (emptyBlock b.desc 3 d)

def execBlockReclaim (channel : Nat) (s : State) : Host.Outcome State Fault Refusal := next s (blockReclaim channel)

/-- WEAR_LEVEL: the closed block with the lowest erase count, while the spread asks for it. -/
def wearLevel (c : Nat) (d : Device) : Device :=
  let go := levelling c d
  let others := d.map.levelling.filter (· != c)
  let d := { d with map := { d.map with levelling := if go then c :: others else others } }
  if !ownsChannel c d || !collecting d || !go || outranked 6 d then d
  else
    match bestBy (fun a b : Block => natsLt [a.erases, a.writeMin] [b.erases, b.writeMin]) (victims c d) with
    | none => d
    | some b => maybeState3 b.desc (emptyBlock b.desc 3 d)

def execWearLevel (channel : Nat) (s : State) : Host.Outcome State Fault Refusal := next s (wearLevel channel)

/-- Garbage collection is urgent while a channel is at level 2 or 3 (R343). -/
def collectionUrgent (d : Device) : Bool := (List.range 128).any fun c => ownsChannel c d && 2 ≤ tblGetD d.map.levels c 0

/-- The device is idle (R175). -/
def deviceIdle (d : Device) : Bool :=
  d.nvme.cmds.isEmpty && d.admin.slots.all (fun s => s.state != 2) && d.admin.selfTest.isNone && d.admin.sanitize.isNone
    && !collectionUrgent d

/-- STRIPE_COMPACTION: the candidate with the lowest valid share, then the oldest issue tick (R345). -/
def stripeCompaction (d : Device) : Device :=
  let busy := fun s : Stripe => (d.stripe.relocs.any fun r => r.old.any (·.stripe == s.id)) ||
    (s.stream == Stream.map && d.map.pages.any fun p => p.loc != 0 && locStripe p.loc == s.id && p.pending != 0)
  let cand := d.stripe.stripes.filter fun s => s.st == .durable && s.released && !busy s && 0 < validBytes s d &&
    validBytes s d * 100 ≤ odVal 0x2A00 5 d * dataSpace s.k s.unit
  let active := (List.range 128).any fun c => ownsChannel c d && tblGetD d.map.levels c 0 != 0
  let cand := if active || deviceIdle d then cand
    else cand.filter fun s => validBytes s d * 10 < dataSpace s.k s.unit
  if !collecting d || outranked 7 d then d
  else match bestBy (fun a b : Stripe =>
      validBytes a d * dataSpace b.k b.unit < validBytes b d * dataSpace a.k a.unit ||
        (validBytes a d * dataSpace b.k b.unit == validBytes b d * dataSpace a.k a.unit && a.issueTick < b.issueTick)) cand with
    | none => d
    | some s => relocateStripe (fun _ => true) s d

def execStripeCompaction (s : State) : Host.Outcome State Fault Refusal := next s stripeCompaction

/-- No read that resolved a location in the block is still in progress (R207). -/
def readsIn (m : MemberDesc) (d : Device) : Bool :=
  let b := descNum (blockDesc m)
  let lies := fun c : Copy => (c.extents.map (·.stripe) ++ c.past).any fun id => d.map.residue.contains (id, b)
  (d.media.ops.any fun o => o.kind.isRead && blockDesc o.desc == blockDesc m) ||
    d.kv.copies.any fun c => lies c && beingRead c.domain c.fp c.num d

/-- A current map page lies in the block. -/
def holdsMap (m : MemberDesc) (d : Device) : Bool :=
  (membersOn m d).any fun x => match stripeOf x.1 d with
    | some s => s.stream == Stream.map && 0 < validBytes s d
    | none => false

/-- The conditions of R348. -/
def erasable (b : Block) (d : Device) : Bool :=
  b.st == 3 && !b.barrierOpen && b.barrier ≤ d.stripe.durableSeq && b.awaiting.isEmpty && !readsIn b.desc d && !holdsMap b.desc d

/-- BLOCK_ERASE. -/
def blockErase (m : MemberDesc) (d : Device) : Device :=
  match blockOf m d with
  | none => d
  | some b =>
    if erasable b d && ownsChannel m.channel d && collecting d &&
        !(d.media.ops.any fun o => o.kind == FlashKind.erase && blockDesc o.desc == blockDesc m)
    then queueOp (blankOp .erase (blockDesc m)) d else d

def execBlockErase (m : MemberDesc) (s : State) : Host.Outcome State Fault Refusal := next s (blockErase m)

/-- REFRESH: a block queued for refresh has its live units moved (R383). -/
def refreshBlock (m : MemberDesc) (d : Device) : Device :=
  match blockOf m d with
  | none => d
  | some b =>
    if b.refreshDue && b.st == 2 && b.emptying == 0 && ownsChannel m.channel d && collecting d && !outranked 3 d then
      let d := onBlock m (fun b => { b with refreshDue := false }) d
      maybeState3 m (emptyBlock m 3 (odBump 0x3400 0x0A 1 (bumpGroup (m.channel / 8) 4 d)))
    else onBlock m (fun b => if b.st == 3 || b.emptying != 0 then { b with refreshDue := false } else b) d

def execRefresh (m : MemberDesc) (s : State) : Host.Outcome State Fault Refusal := next s (refreshBlock m)

/-! ## The flush area (R339 to R341, R49) -/

/-- Bytes of a flush record with its header (R340). -/
def flushBytes : FlushRecord → Nat
  | .roster _ _ _ key _ => 24 + (key.length + 7) / 8 * 8
  | .copy _ _ _ _ f => 56 + f.len
  | .manifest _ m => 16 + manifestLength m
  | .journal _ => 16 + 16384
  | .complete _ => 24

/-- Write a record to the flush area. -/
def flushWrite (flush : Nat) (r : FlushRecord) (d : Device) : Device :=
  let n := flushBytes r
  { d with map := { d.map with
    flushItems := d.map.flushItems ++ [⟨flush, r, n, false, 0⟩]
    flushFree := d.map.flushFree - n } }

/-- Released records at the head of the ring are erased, and their space returns (R341). -/
def reclaimFlush (d : Device) : Device :=
  let gone := d.map.flushItems.takeWhile (·.released)
  { d with map := { d.map with
    flushItems := d.map.flushItems.dropWhile (·.released)
    flushFree := d.map.flushFree + (gone.map (·.bytes)).sum } }

/-- A copy lies in DURABLE stripes only. -/
def copyDurable (domain : Nat) (fp : Bytes) (num : Nat) (d : Device) : Bool :=
  match copyOf domain fp num d with
  | none => true
  | some c => c.dead || (!c.extents.isEmpty && c.extents.all fun e => match stripeOf e.stripe d with
      | some s => s.st == .durable
      | none => false)

/-- Release what write-through records protect once their copies are DURABLE and the key version is durable. -/
def releaseThrough (keyDurable : Nat → Bytes → Nat → Bool) (d : Device) : Device :=
  let given := fun (i : FlushItem) (tick : Nat) => if tick == 0 then i.tick else tick
  let done := fun i : FlushItem => match i.body with
    | .roster _ _ ns key tick => given i tick != 0 && keyDurable ns key (given i tick)
    | .copy dom _ fp num _ => copyDurable dom fp num d
    | .manifest tick m => given i tick != 0 && keyDurable m.ns m.key (given i tick) &&
        m.chunks.all fun c => copyDurable m.domain c.fp c.copy d
    | _ => false
  let items := d.map.flushItems.map fun i => if i.flush == 0 && done i then { i with released := true } else i
  reclaimFlush { d with map := { d.map with flushItems := items } }

/-- A write has got its commit tick: its write-through records wait for the key version of that tick. -/
def noteFlushTick (ns : Nat) (key : Bytes) (t : Nat) (d : Device) : Device :=
  let mine := fun i : FlushItem => i.flush == 0 && i.tick == 0 && match i.body with
    | .roster _ _ n k _ => n == ns && k == key
    | .manifest _ m => m.ns == ns && m.key == key
    | _ => false
  let items := d.map.flushItems.map fun i => if mine i then { i with tick := t } else i
  { d with map := { d.map with flushItems := items } }

/-- A key version's record is durable: no queued or undurable page carries it. -/
def keyVersionDurable (d : Device) (ns : Nat) (key : Bytes) (t : Nat) : Bool :=
  let same := fun r : JRecord => match r with
    | .keyVersion n k _ _ tk => n == ns && k == key && tk == t
    | _ => false
  !d.stripe.queued.any same && !(d.stripe.pages.any fun p => d.stripe.durableSeq < p.seq && p.records.any same)

/-- A FLUSH_RELEASED record waits for its page, or is written. -/
def releaseWritten (n : Nat) (d : Device) : Bool :=
  d.stripe.queued.contains (.flushReleased n) || d.stripe.pages.any fun p => p.records.contains (.flushReleased n)

/-- A FLUSH_RELEASED record is durable: event 0x0203, and the records of the flush may be erased (R49, R341). -/
def flushReleased (n : Nat) (d : Device) : Device :=
  if !(d.map.flushes.any fun f => f.num == n && !f.released) then d
  else
    let d := logEvent 0x0203 0x0040 0 n d
    let flushes := d.map.flushes.map fun x => if x.num == n then { x with released := true } else x
    let items := d.map.flushItems.map fun i => if i.flush == n then { i with released := true } else i
    reclaimFlush { d with map := { d.map with flushes := flushes, flushItems := items } }

/-- FLUSH_RELEASE: every write of the roster is durable: FLUSH_RELEASED is written (R49). -/
def flushRelease (n : Nat) (d : Device) : Device :=
  match d.map.flushes.find? (·.num == n) with
  | none => d
  | some f =>
    let settled := f.roster.all fun r => keyVersionDurable d r.1 r.2.1 r.2.2 &&
      match keyEntry? r.1 r.2.1 d with
      | none => true
      | some e => match (e.versions.find? (·.tick == r.2.2)).bind fun v => manifestOf v.mseq d with
        | none => true
        | some m => m.chunks.all fun c => copyDurable m.domain c.fp c.copy d
    if f.complete && !f.released && settled && !releaseWritten n d then journalRecord (.flushReleased n) d else d

def execFlushRelease (flush : Nat) (s : State) : Host.Outcome State Fault Refusal := next s (flushRelease flush)

/-! ## Unreadable map pages (R331) -/

/-- A map page stays unreadable: its stripe is lost with cause 1, event 0x0B05. -/
def mapUnreadable (typ lid : Nat) (d : Device) : Device :=
  match pageOf typ lid d with
  | none => d
  | some p =>
    let d := if p.loc == 0 then d else loseStripe (locStripe p.loc) 1 d
    logEvent 0x0B05 0x0042 2 (d.side * 2 ^ 63 + lid) d

end Sys2Proof.Machine
end

