-- ==== Sys2Proof/Machine/Care.lean ====
section
/-! DEFINITION. Thermal age, ledger and gaps, patrol, the SLC buffer, spare and wear, log 0xC3 (R370, R379 to R384, R391,
R392). -/

namespace Sys2Proof.Machine

/-! ## Thermal age (R379, R380) -/

/-- Units of `ages` in 1/16 h. -/
def ageUnit : Nat := 245760

/-- Bin of a temperature in 0.1 °C: 16 bins of 5 °C with open end bins, the first below `lo`. -/
def tempBin (lo t : Int) : Nat := if t < lo then 0 else min 15 (1 + ((t - lo) / 50).toNat)

/-- Queue a block whose thermal age has reached OD 0x3400:02 percent of its mode's refresh age (R383). -/
def ageRefresh (d : Device) : Device :=
  let due := d.map.blocks.filter fun b => b.st == 2 && !b.slc && ownsChannel b.channel d && !b.refreshDue &&
    (match profileOf (b.channel / 8) d with
     | some p => odVal 0x3400 2 d * modeRefreshAge (pfMode p (blockMode p b)) ≤ blockAge b d * 100
     | none => false)
  due.foldl (fun d b => queueRefresh b.desc d) d

/-- THERMAL_AGE_SAMPLE: group temperatures and junction in 0.1 °C, each minute. -/
def ageSample (temps : List Int) (junction : Int) (d : Device) : Device :=
  let d := waitUntil d.media.nextSampleAt d
  let ea := odVal 0x3400 4 d
  let ts := (List.range 16).map fun g => temps.getD g (d.media.temps.getD g 0)
  let ages := (d.media.ages.zip ts).map fun x => x.1 + acceleration x.2 ea
  let maxs := (d.media.maxTemps.zip ts).map fun x => max x.1 x.2
  let bins := (d.media.groupBins.zip ts).map fun x => modNth x.1 (tempBin 0 x.2) (· + 1)
  let d := { d with media := { d.media with
    ages := ages, temps := ts, maxTemps := maxs, groupBins := bins
    junctionBins := modNth d.media.junctionBins (tempBin 400 junction) (· + 1)
    nextSampleAt := d.time.now + sec 60 } }
  ageRefresh (odPutInt 0x2010 4 2 (ts.foldl max (ts.headD 0)) d)

def execThermalAgeSample (temps : List Int) (junction : Int) (s : State) : Host.Outcome State Fault Refusal :=
  next s (ageSample temps junction)

/-- A_g of every group in 1/16 h, saturating at 32 bits. -/
def ledgerRow (d : Device) : List Nat := d.media.ages.map fun a => min (a / ageUnit) (2 ^ 32 - 1)

/-- The days from the last recorded to today enter the ledger; beyond 16,384 the oldest day goes (R380, R394). -/
def ledgerDays (d : Device) : Device :=
  let today := minutes d / 1440
  let m := d.media
  let first := if m.ledger.isEmpty then today else m.ledgerDay
  let n := today + 1 - (first + m.ledger.length)
  let rows := m.ledger ++ List.replicate n (ledgerRow d)
  let drop := rows.length - 16384
  { d with media := { m with
    ledger := rows.drop drop, ledgerDay := first + drop, ledgerSaturated := m.ledgerSaturated || drop != 0 } }

/-- LEDGER_RECORD: a day's ages, or the last powered minute L. -/
def ledgerRecord (d : Device) : Device :=
  if !d.time.established then d
  else
    let today := minutes d / 1440
    if d.media.ledger.isEmpty || d.media.ledgerDay + d.media.ledger.length ≤ today then ledgerDays d
    else { d with media := { d.media with lastPowered := minutes d } }

/-- At the end of a flush and at entry to PS_4 the ledger takes L, and the days that are due (R380). -/
def ledgerClose (d : Device) : Device :=
  if !d.time.established then d else ledgerRecord { d with media := { d.media with lastPowered := minutes d } }

def execLedgerRecord (s : State) : Host.Outcome State Fault Refusal := next s ledgerRecord

/-- The ledger as OD 0x3430 shows it. -/
def ledgerBytes (d : Device) : Bytes :=
  leBytes 4 d.media.ledgerDay ++ leBytes 4 d.media.ledger.length ++ leBytes 4 d.media.lastPowered ++
    List.replicate 20 0 ++ d.media.ledger.flatMap fun r => r.flatMap (leBytes 4)

/-! ## Unpowered gaps (R381, R382) -/

/-- Fields of the storage-period summary. -/
def summary (d : Device) : Bytes := leBytes 144 (odVal 0x3410 1 d)
def summaryStart (v : Bytes) : Nat := leAt v 0 4
def summaryEnd (v : Bytes) : Nat := leAt v 4 4
def summaryBins (v : Bytes) : List Nat := (List.range (leAt v 11 1)).map fun i => leAt v (16 + 4 * i) 4

/-- End after start, and bin minutes within 1 % of the span. -/
def summaryValid (v : Bytes) : Bool :=
  let span := summaryEnd v - summaryStart v
  let total := (summaryBins v).sum
  1 ≤ leAt v 11 1 && leAt v 11 1 ≤ 32 && 1 ≤ leAt v 10 1 && leAt v 10 1 ≤ 20 && summaryStart v < summaryEnd v &&
    (if total ≤ span then (span - total) * 100 ≤ span else (total - span) * 100 ≤ span)

/-- The summary age, in 1/65,536 equivalent minute. -/
def summaryAge (v : Bytes) (ea : Nat) : Nat :=
  let lo := odSigned 2 (leAt v 8 2)
  let w := leAt v 10 1
  let bins := summaryBins v
  ((bins.zip (List.range bins.length)).map fun b => b.1 * acceleration (10 * lo + 10 * w * b.2 + 5 * w) ea).sum

/-- Age band of a block now (R376). -/
def blockBand (b : Block) (d : Device) : Nat :=
  match profileOf (b.channel / 8) d with
  | some p => ageBand (pfThreshold p (blockMode p b)) (blockAge b d)
  | none => 0

/-- Closed blocks here whose age band the last unpowered gap changed, and that no sample has taken since (R384). -/
def bandsDue (d : Device) : List Block :=
  d.map.blocks.filter fun b => b.st == 2 && ownsChannel b.channel d && d.media.bandChanged.contains (b.channel, b.target, b.lun, b.block)

/-- Add the unpowered gap from L to now, once at each start (R381). -/
def addGap (locked : Bool) (d : Device) : Device :=
  if d.media.gapAdded then d
  else
    let now := minutes d
    let l := d.media.lastPowered
    let gap := now - l
    let v := summary d
    let ea := odVal 0x3400 4 d
    let st := odVal 0x3410 2 d
    let usable : Bool := st == 1
    let valid : Bool := usable && summaryValid v
    let a := max l (summaryStart v)
    let b := min now (summaryEnd v)
    let span := summaryEnd v - summaryStart v
    let row : Nat × Nat :=
      if locked then
        if valid && a < b then (0, summaryAge v ea * (b - a) / span + (gap - (b - a)) * 65536) else (1, gap * 65536)
      else if valid then (2, summaryAge v ea) else (3, odVal 0x3400 5 d * 60 * 65536)
    let bands := d.map.blocks.map fun b => blockBand b d
    let d := { d with media := { d.media with
      ages := d.media.ages.map (· + row.2), gapAdded := true, lastFromDefault := row.1 == 1 || row.1 == 3
      defaultGap := if row.1 == 1 || row.1 == 3 then row.2 else 0 } }
    let changed := ((d.map.blocks.zip bands).filter fun x => x.1.st == 2 && blockBand x.1 d != x.2).map fun x =>
      (x.1.channel, x.1.target, x.1.lun, x.1.block)
    let d := { d with media := { d.media with bandChanged := changed } }
    let d := if usable then odPut 0x3410 2 (if valid then (if row.1 == 0 || row.1 == 2 then 2 else 1) else 3) d else d
    let d := logEvent 0x0C03 0 0 (gap % 2 ^ 32 * 2 ^ 32 + row.1) d
    let d := if row.1 == 3 then logEvent 0x0C04 0 1 (odVal 0x3400 5 d) d else d
    let before := (d.map.blocks.filter (·.refreshDue)).map Block.desc
    let d := ageRefresh d
    let queued := (d.map.blocks.filter fun x => x.refreshDue && !before.contains x.desc).map fun x =>
      (x.channel, x.target, x.lun, x.block)
    { d with media := { d.media with defaultRefresh := if d.media.lastFromDefault then queued else [] } }

/-- A valid summary that arrives after a default row was applied replaces its figure, and refreshes queued only because of
it and not started are withdrawn (R381). -/
def lateSummary (d : Device) : Device :=
  if !d.media.gapAdded || !d.media.lastFromDefault || !summaryValid (summary d) then d
  else
    let age := summaryAge (summary d) (odVal 0x3400 4 d)
    let drop := d.media.defaultRefresh
    let blocks := d.map.blocks.map fun b =>
      if drop.contains (b.channel, b.target, b.lun, b.block) then { b with refreshDue := false } else b
    ageRefresh (odPut 0x3410 2 2 { d with
      media := { d.media with ages := d.media.ages.map fun a => a - d.media.defaultGap + age
                              lastFromDefault := false, defaultGap := 0, defaultRefresh := [] }
      map := { d.map with blocks := blocks } })

/-! ## Patrol (R384) -/

/-- PATROL_SAMPLE: one unit of a closed block is decoded and its raw bit errors counted; R383 applies. -/
def patrolSample (m : MemberDesc) (bitErrors : Nat) (d : Device) : Device :=
  match blockOf m d with
  | none => d
  | some b =>
    let mine := (b.channel, b.target, b.lun, b.block)
    let first := bandsDue d
    if b.st != 2 || !ownsChannel m.channel d then d
    else if !first.isEmpty && !d.media.bandChanged.contains mine && blockBand b d == b.sampledBand then d
    else
      let d := if bitErrors == 0 then d else odBump 0x3400 6 1 (bumpGroup (m.channel / 8) 0 d)
      let band := blockBand b d
      let d := { d with media := { d.media with bandChanged := d.media.bandChanged.filter (· != mine) } }
      let now := minutes d
      let d := onBlock m (fun b => { b with sampledAt := now, sampledBand := band }) d
      ageRefresh (if pastRefreshErrors m bitErrors d then queueRefresh m d else d)

def execPatrolSample (m : MemberDesc) (bitErrors : Nat) (s : State) : Host.Outcome State Fault Refusal :=
  next s (patrolSample m bitErrors)

/-! ## SLC buffer, spare and wear (R370, R391) -/

/-- Native capacity of a block in bytes. -/
def blockCapacity (b : Block) (d : Device) : Nat :=
  match profileOf (b.channel / 8) d with
  | some p => modePages (pfMode p (pfNative p)) * pfMaxPlanes p * pfMain p
  | none => 0

/-- Blocks in service on the owned channels. -/
def inService (d : Device) : List Block :=
  d.map.blocks.filter fun b => b.st < 4 && ownsChannel b.channel d && !lunFailed b.channel b.target b.lun d

/-- Valid data bytes of a stripe's data unit (R280, R370). -/
def unitValid (s : Stripe) (i : Nat) (d : Device) : Nat :=
  let n := unitBytes s.unit
  let part := fun o len : Nat => min (o + len) ((i + 1) * n) - max o (i * n)
  if s.stream == Stream.map then
    ((d.map.pages.filter fun p => p.loc != 0 && locStripe p.loc == s.id).map fun p => part (locSlot p.loc * 16384) 16384).sum
  else
    ((d.kv.copies.filter (!·.dead)).map fun c => ((c.extents.filter (·.stripe == s.id)).map fun e => part e.off e.len).sum).sum

/-- Valid data bytes of a stripe on the channels that this device owns. -/
def ownedValid (s : Stripe) (d : Device) : Nat :=
  ((List.range s.k).map fun i => if (s.members[i]?.map fun m => ownsChannel m.desc.channel d).getD false then unitValid s i d else 0).sum

/-- Fill in percent: valid bytes on the owned channels over the native capacity that the buffer does not hold. -/
def fillPercent (d : Device) : Nat :=
  let cap := (((inService d).filter (!·.slc)).map fun b => blockCapacity b d).sum
  let valid := ((d.stripe.stripes.filter fun s => s.st != .lost).map fun s => ownedValid s d).sum
  if cap == 0 then 0 else min 100 (valid * 100 / cap)

/-- SLC buffer share in 0.1 %: 8.0 % up to 50 % fill, 1.6 % at 90 %, linear between; the minimum from 95 %. -/
def slcShare (fill : Nat) : Nat :=
  if fill ≤ 50 then 80 else if fill ≤ 90 then 80 - (fill - 50) * 64 / 40 else if fill < 95 then 16 - (fill - 90) * 16 / 5 else 0

/-- Minimum SLC blocks: 4 rings of 64, the flush blocks of the dirty limit, and 64 MiB. -/
def slcMinimum (d : Device) : Nat :=
  let bytes := match (List.range 16).findSome? fun g => profileOf g d with
    | some p => modePages (pfMode p 1) * 16384
    | none => 0
  256 + (if bytes == 0 then 0 else (d.power.dirtyLimit + 64 * 2 ^ 20 + bytes - 1) / bytes)

/-- Blocks of the SLC buffer. -/
def slcBlocks (d : Device) : Nat := max (slcMinimum d) ((inService d).length * slcShare (fillPercent d) / 1000)

/-- Bytes that a block of the SLC buffer gives the flush area: pages of 16 KiB, of which one in eight is a P page (R340). -/
def flushBlockBytes (d : Device) : Nat :=
  match (List.range 16).findSome? fun g => profileOf g d with
  | some p => modePages (pfMode p 1) * 16384 * 7 / 8
  | none => 0

/-- Change the first `n` blocks that fit. -/
def changeBlocks (ok : Block → Bool) (f : Block → Block) : Nat → List Block → List Block
  | _, [] => []
  | n, b :: bs => if n != 0 && ok b then f b :: changeBlocks ok f (n - 1) bs else b :: changeBlocks ok f n bs

/-- Change `n` blocks that fit, one from each channel in turn. -/
def changeSpread (ok : Block → Bool) (f : Block → Block) (n : Nat) (bs : List Block) : List Block :=
  let per := (List.range 128).map fun c => bs.countP fun b => b.channel == c && ok b
  let turns := (List.range (per.foldl max 0)).flatMap fun r => (List.range 128).filter fun c => r < per.getD c 0
  let chosen := turns.take n
  (List.range 128).foldl (fun bs c => changeBlocks (fun b => b.channel == c && ok b) f (chosen.count c) bs) bs

/-- Free blocks enter the SLC buffer up to its size, or leave it as the flush area allows; the flush area is what the four rings of 64
blocks leave (R339, R369, R370; log 64). -/
def carveSlc (d : Device) : Device :=
  let mine := fun b : Block => b.st == 0 && ownsChannel b.channel d && !lunFailed b.channel b.target b.lun d
  let now := ((inService d).filter (·.slc)).length
  let want := slcBlocks d
  let per := flushBlockBytes d
  let used := (d.map.flushItems.map (·.bytes)).sum
  let spare := if per == 0 then 0 else d.map.flushFree / per
  let blocks := if now < want then changeSpread (fun b => mine b && !b.slc) (fun b => { b with slc := true }) (want - now) d.map.blocks
    else changeSpread (fun b => mine b && b.slc) (fun b => { b with slc := false }) (min (now - want) spare) d.map.blocks
  let d := { d with map := { d.map with blocks := blocks } }
  let area := (((inService d).filter (·.slc)).length - 256) * per
  { d with map := { d.map with flushArea := area, flushFree := area - used } }

/-- OD 0x3400:0B, :0C and event 0x0C07 when the buffer reaches its minimum. -/
def refreshSlc (d : Device) : Device :=
  let n := (inService d).length
  let fill := fillPercent d
  let least : Bool := n * slcShare fill / 1000 ≤ slcMinimum d
  let d := odPut 0x3400 0x0C fill (odPut 0x3400 0x0B (if n == 0 then 0 else min 65535 (slcBlocks d * 1000 / n)) d)
  let d := if least && !d.media.slcMinimum && n != 0 then logEvent 0x0C07 0 1 (slcBlocks d) d else d
  carveSlc { d with media := { d.media with slcMinimum := least && n != 0 } }

/-- Blocks beyond those that hold the usable capacity and the SLC minimum. -/
def spareBlocks (d : Device) : Nat :=
  let bs := inService d
  let cap := match bs with
    | b :: _ => blockCapacity b d
    | [] => 0
  let need := (if cap == 0 then 0 else (Config.usableCapacity + cap - 1) / cap) + slcMinimum d
  bs.length - need

/-- Spare left in percent of the figure at the first start after a sanitize. -/
def spareLeft (d : Device) : Nat :=
  match d.media.spareBase with
  | some b => if b == 0 then 0 else min 255 (spareBlocks d * 100 / b)
  | none => 100

/-- Wear used in percent. -/
def wearUsed (d : Device) : Nat :=
  let bs := (inService d).filter (!·.slc)
  match bs with
  | [] => 0
  | b :: _ =>
    let rated := match profileOf (b.channel / 8) d with
      | some p => modeRated (pfMode p (pfNative p))
      | none => 0
    if rated == 0 then 0 else min 255 ((bs.map (·.erases)).sum * 100 / (bs.length * rated))

/-- Take over the health figures: OD 0x2010:06 and :07, the spare warning and event 0x0C06. -/
def refreshHealth (d : Device) : Device :=
  let d := if d.media.spareBase.isNone && !(inService d).isEmpty then
      { d with media := { d.media with spareBase := some (spareBlocks d) } } else d
  let s := spareLeft d
  let below : Bool := d.media.spareBase.isSome && s < odVal 0x3400 1 d
  let d := odPut 0x2010 7 (wearUsed d) (odPut 0x2010 6 s d)
  let d := if below && !d.media.spareBelow then logEvent 0x0C06 0 2 s d else d
  refreshWarning { d with media := { d.media with spareBelow := below } }

/-! ## Log 0xC3 (R392) -/

/-- Record of a channel group, 256 bytes. -/
def groupRecord (g : Nat) (d : Device) : Bytes :=
  let bs := d.map.blocks.filter fun b => b.channel / 8 == g
  let on := bs.filter (·.st < 4)
  let es := on.map (·.erases)
  let c := d.media.groupCounts.getD g []
  leBytes 1 g ++ leBytes 1 (binding g d) ++ [0, 0] ++ leBytes 4 on.length ++ leBytes 4 (bs.filter (·.st == 4)).length ++
    leBytes 4 (bs.filter (·.slc)).length ++ leBytes 4 (es.foldl min (es.headD 0)) ++ leBytes 4 (es.foldl max 0) ++
    leBytes 4 (if es.isEmpty then 0 else es.sum / es.length) ++ leBytes 4 (d.media.ages.getD g 0 / ageUnit) ++
    (List.range 5).flatMap (fun i => leBytes 8 (c.getD i 0)) ++
    leBytes 2 (toUnsigned 2 (d.media.temps.getD g 0)) ++ leBytes 2 (toUnsigned 2 (d.media.maxTemps.getD g 0)) ++
    List.replicate 4 0 ++ (d.media.groupBins.getD g []).flatMap (fun m => leBytes 4 (m / 60)) ++ List.replicate 112 0

/-- Log 0xC3: header and 16 records. -/
def mediaLog (d : Device) : Bytes :=
  leBytes 8 (tick d) ++ leBytes 1 (odVal 0x2010 6 d) ++ leBytes 1 (odVal 0x2010 7 d) ++ leBytes 1 (odVal 0x3400 1 d) ++
    leBytes 1 (b2n d.media.ledgerSaturated + 2 * b2n d.media.lastFromDefault) ++ List.replicate 4 0 ++
    leBytes 8 (odVal 0x3400 6 d) ++ leBytes 8 (odVal 0x3400 9 d) ++ leBytes 8 (odVal 0x3400 8 d) ++
    leBytes 8 (odVal 0x3400 0x0A d) ++ List.replicate 16 0 ++
    d.media.junctionBins.flatMap (fun m => leBytes 4 (m / 60)) ++
    (List.range 16).flatMap fun g => groupRecord g d

end Sys2Proof.Machine
end

