-- ==== Sys2Proof/Machine/JournalBytes.lean ====
section
/-! DEFINITION. The bytes of journal records and journal pages, little-endian (R11, R256, R292 to R294, R328, R332, R451, R470, R480). -/

namespace Sys2Proof.Machine

/-- A field of zeros. -/
def gap (n : Nat) : Bytes := List.replicate n 0

/-- The page header of a page outside stripes on a channel, type 0x06 journal or 0x07 flush: no stripe, member or class (R318). -/
def loneHeader (typ c : Nat) (d : Device) : Bytes :=
  let body := leBytes 2 1 ++ leBytes 1 typ ++ leBytes 1 d.side ++ gap 4 ++ leBytes 8 d.map.writeSeq ++ gap 8 ++ leBytes 1 0xFF ++ gap 1 ++
    leBytes 2 (toUnsigned 2 (d.media.temps.getD (c / 8) 0)) ++ leBytes 4 (minutes d) ++ gap 28
  body ++ leBytes 4 (crc32 body)

/-- A member descriptor. -/
def memberBytes (m : MemberDesc) : Bytes := leBytes 8 (descNum m)

/-- An extent (R280). -/
def extentBytes (e : Extent) : Bytes := leBytes 8 e.stripe ++ leBytes 4 e.off ++ leBytes 4 e.len

/-- Bytes padded with zeros to a multiple of 8. -/
def padded8 (b : Bytes) : Bytes := padTo ((b.length + 7) / 8 * 8) b

/-- A record: the word of R293, then its body. -/
def framed (typ : Nat) (body : Bytes) : Bytes := leBytes 2 (4 + body.length) ++ leBytes 2 typ ++ body

/-- COPY_STATE: the entry fields of R193 with their absolute values, then the extents. -/
def copyRecord (dom : Nat) (fp : Bytes) (num refs : Nat) (dead remove : Bool) (extents : List Extent) (d : Device) : Bytes :=
  let c := (copyOf dom fp num d).getD (newCopy dom fp num)
  let flags := b2n c.present + 2 * b2n c.pinned + 4 * b2n dead + 8 * b2n c.detached + 16 * b2n (c.enc == .deflate)
  framed 0x0101 (leBytes 1 extents.length ++ leBytes 1 (b2n remove) ++ gap 2 ++ leBytes 2 dom ++ padTo 32 fp ++ leBytes 4 num ++
    leBytes 3 refs ++ leBytes 1 flags ++ leBytes 4 c.plainLen ++ leBytes 4 c.storedLen ++ leBytes 2 c.slot ++ gap 4 ++
    extents.flatMap extentBytes)

/-- KEY_VERSION: the manifest's length and locator as the maps give them. -/
def keyRecordBytes (ns : Nat) (key : Bytes) (mseq flags t : Nat) (d : Device) : Bytes :=
  let l := (d.map.locators.find? (·.1 == mseq)).getD (mseq, 0, 0)
  let live := flags % 4 == 0
  framed 0x0100 (leBytes 2 key.length ++ leBytes 1 flags ++ gap 1 ++ leBytes 4 ns ++ leBytes 4 (if live then l.2.2 else 0) ++ leBytes 8 t ++
    leBytes 8 (if live then l.2.1 else 0) ++ padded8 key)

/-- A record of the commit group of tick `t` (R294 and the chapters that use the journal). DESIGN CHOICE (log 227): a record's own tick is
that of its commit group, and the types of the batch marker and of an erasure's work list are 0x0140 and 0x0141. -/
def recordBytes (t : Nat) (d : Device) : JRecord → Bytes
  | .stripeIssue id cls k unit pad isPadded reissue replaced ms =>
    framed 1 (leBytes 1 cls ++ leBytes 1 k ++ leBytes 1 ms.length ++ leBytes 1 (unit + 1) ++ leBytes 8 id ++
      leBytes 8 (((stripeOf id d).map (·.issueTick)).getD t) ++ leBytes 4 pad ++ leBytes 4 (b2n isPadded + 2 * b2n reissue) ++
      leBytes 8 replaced ++ gap 24 ++ ms.flatMap memberBytes)
  | .stripeDurable id => framed 2 (gap 4 ++ leBytes 8 id ++ leBytes 8 t)
  | .stripeAbandoned id reason replacement => framed 3 (leBytes 4 reason ++ leBytes 8 id ++ leBytes 8 replacement)
  | .memberMoved id m reason old new =>
    framed 4 (leBytes 1 m ++ leBytes 1 reason ++ gap 2 ++ leBytes 8 id ++ memberBytes old ++ memberBytes new)
  | .stripeLost id bitmap cause => framed 5 (leBytes 4 bitmap ++ leBytes 8 id ++ leBytes 8 t ++ leBytes 1 cause ++ gap 7)
  | .elementFailed addr cause => framed 6 (leBytes 4 addr ++ leBytes 8 t ++ leBytes 1 cause ++ gap 7)
  | .keyVersion ns key mseq tombstone tick =>
    let batch := ((manifestOf mseq d).map (·.batch)).getD false
    keyRecordBytes ns key mseq (2 * b2n tombstone + 4 * b2n batch) tick d
  | .keyRemoved ns key => keyRecordBytes ns key 0 1 t d
  | .refCount dom fp num refs dead => copyRecord dom fp num refs dead false (((copyOf dom fp num d).map (·.extents)).getD []) d
  | .copyState dom fp num es =>
    let c := (copyOf dom fp num d).getD (newCopy dom fp num)
    copyRecord dom fp num c.refs c.dead false es d
  | .copyRemoved dom fp num => copyRecord dom fp num 0 true true [] d
  | .slotLimit slot side limit counter => framed 0x010A (leBytes 2 slot ++ leBytes 1 side ++ gap 1 ++ leBytes 8 limit ++ leBytes 8 counter)
  | .flushReleased n => framed 0x0109 (leBytes 4 n ++ leBytes 8 t)
  | .batchCommit tick keys => framed 0x0140 (leBytes 4 keys ++ leBytes 8 tick ++ gap 8)
  | .snapshot n st ns cut expiry =>
    framed 0x0130 (leBytes 1 st ++ gap 1 ++ leBytes 2 n ++ leBytes 4 ns ++ gap 4 ++ leBytes 8 cut ++ leBytes 8 expiry)
  | .replCursor s snap tick key =>
    framed 0x0131 (leBytes 1 s ++ gap 1 ++ leBytes 2 key.length ++ leBytes 2 snap ++ gap 6 ++ leBytes 8 tick ++ padded8 key)
  | .erasureList slot l =>
    framed 0x0141 (leBytes 1 slot ++ gap 3 ++ leBytes 8 l.length ++ l.flatMap fun x => leBytes 4 x.1 ++ padTo 32 x.2.1 ++ leBytes 4 x.2.2 ++ gap 8)
  | .blockState c target lun block st _ erases =>
    framed 0x0105 (leBytes 1 st ++ gap 3 ++ memberBytes ⟨c, target, lun, block, 0⟩ ++ leBytes 4 erases ++ gap 4)
  | .bucketHome b side tick keys => framed 0x0120 (leBytes 2 b ++ leBytes 1 side ++ gap 1 ++ leBytes 8 tick ++ leBytes 8 keys)
  | .copyRelocated dom fp num old new =>
    framed 0x0102 (leBytes 1 old.length ++ leBytes 1 new.length ++ leBytes 2 dom ++ padTo 32 fp ++ leBytes 4 num ++ gap 4 ++
      (old ++ new).flatMap extentBytes)
  | .mapPageWritten lid new prev lsn => framed 0x0103 (gap 4 ++ leBytes 8 lid ++ leBytes 8 new ++ leBytes 8 prev ++ leBytes 8 lsn)
  | .manifestMoved len old new => framed 0x0104 (leBytes 4 len ++ leBytes 8 old ++ leBytes 8 new)
  | .sealLimit limit => framed 0x0108 (gap 4 ++ leBytes 8 limit)
  | .checkpointBegin n => framed 0x0106 (gap 4 ++ leBytes 8 n)
  | .checkpointDone n start =>
    let dirs := d.map.pages.filter (·.typ == 7)
    framed 0x0107 (leBytes 4 dirs.length ++ leBytes 8 n ++ leBytes 8 start ++ gap 8 ++
      dirs.flatMap fun p => leBytes 8 (if p.pending == 0 then p.loc else p.pending))
  | .other typ body => framed typ (padTo ((4 + body.length + 7) / 8 * 8 - 4) body)

/-- Length of a record in its page. -/
def recordSize (d : Device) (r : JRecord) : Nat := (recordBytes 0 d r).length

/-- A journal page of the peer of `side` as copy `n` holds it (R292). -/
def pageBytes (n side : Nat) (p : JPage) (d : Device) : Bytes :=
  let body := p.records.flatMap (recordBytes p.tick d)
  let head := leBytes 2 1 ++ leBytes 1 n ++ leBytes 1 side ++ leBytes 4 body.length ++ leBytes 8 p.seq ++ leBytes 8 p.tick ++ leBytes 8 p.tail ++
    leBytes 1 (b2n p.last) ++ gap 1 ++ leBytes 2 p.index ++ gap 24
  let whole := fun crc : Nat => padTo 16384 (head ++ leBytes 4 crc ++ body)
  whole (crc32 (whole 0))

end Sys2Proof.Machine
end

