-- ==== Sys2Proof/Machine/FlushBytes.lean ====
section
/-! DEFINITION. The bytes of flush records and flush pages, their parity groups, and their programs (R11, R318, R339, R340). -/

namespace Sys2Proof.Machine

/-- A flush record's bytes with its 8-byte header; `sum` is the CRC-32 of all the records of the flush, for COMPLETE (R340). -/
def flushRecordBytes (sum : Nat) (d : Device) (r : FlushRecord) : Bytes :=
  let framed := fun (typ : Nat) (body : Bytes) => leBytes 2 typ ++ gap 2 ++ leBytes 4 (8 + body.length) ++ body
  match r with
  | .roster home batch ns key tick =>
    framed 1 (leBytes 1 home ++ leBytes 1 (b2n batch) ++ leBytes 2 key.length ++ leBytes 4 ns ++ leBytes 8 tick ++ padded8 key)
  | .copy dom slot fp num f =>
    let c := { newCopy dom fp num with
      slot := slot, plain := f.plain, plainLen := f.plain.length, storedLen := f.len, side := f.side, invocation := f.invocation
      enc := if f.deflate then .deflate else .raw, keygen := (slotOf slot d).keygen }
    framed 2 (leBytes 2 dom ++ leBytes 2 slot ++ padTo 32 fp ++ leBytes 4 num ++ leBytes 4 f.plain.length ++ gap 4 ++ storedOf c d)
  | .manifest tick m => framed 3 (leBytes 8 tick ++ manifestBytes m)
  | .journal p => framed 4 (gap 8 ++ pageBytes 0 d.side p d)
  | .complete n => framed 5 (leBytes 8 n ++ leBytes 4 sum ++ gap 4)

/-- A flush page: the 32-byte header, then record bytes. -/
def flushPage (flush index : Nat) (body : Bytes) : Bytes :=
  let whole := fun crc : Nat => padTo 16384 (leBytes 2 1 ++ gap 2 ++ leBytes 4 flush ++ leBytes 8 index ++ leBytes 4 body.length ++ gap 8 ++
    leBytes 4 crc ++ body)
  whole (crc32 (whole 0))

/-- Record bytes cut into flush pages from page index `i` on; a record goes on in the next page. -/
def flushPages (flush i : Nat) (bytes : Bytes) : List Bytes :=
  (List.range ((bytes.length + 16351) / 16352)).map fun k => flushPage flush (i + k) (slice bytes (k * 16352) 16352)

/-- Pages in groups of 7, each group followed by its P page (R282, R340). -/
def flushGroups : Nat → List Bytes → List (List Bytes)
  | 0, _ => []
  | n + 1, ps => if ps.isEmpty then [] else (ps.take 7 ++ [parityP 16384 (ps.take 7)]) :: flushGroups n (ps.drop 7)

/-- Where the pages of group `pos` go: up to 8 owned channels in distinct channel groups, in each the page that the ring order gives in the
SLC blocks there. -/
def flushTargets (pos : Nat) (d : Device) : List MemberDesc :=
  ((List.range 16).filterMap fun g =>
    (List.range 8).findSome? fun n =>
      let c := 8 * g + n
      let bs := d.map.blocks.filter fun b => b.channel == c && b.slc && b.st < 4
      let pages := match profileOf g d with
        | some p => modePages (pfMode p 1)
        | none => 0
      if !ownsChannel c d || !bit d.peer.driven c || bs.isEmpty || pages == 0 then none
      else (bs[pos / pages % bs.length]?).map fun b => { b.desc with page := pos % pages }).take 8

/-- The pages of one group are programmed. -/
def programGroup (d : Device) (group : List Bytes) : Device :=
  let ts := flushTargets d.map.flushPos d
  let d := { d with map := { d.map with flushPos := d.map.flushPos + 1 } }
  (group.zip ((List.range group.length).filterMap fun i => ts[i % ts.length]?)).foldl (fun d x =>
    let d := nextWriteSeq x.2 d
    emit (.flash 1 x.2 0 (mediaBytes x.2 x.1 (loneHeader 7 x.2.channel d) d)) d) d

/-- Records of a flush are programmed; the pages of flush 0 are numbered on. -/
def programFlush (flush : Nat) (rs : List FlushRecord) (d : Device) : Device :=
  let body := (rs.filter fun r => match r with
    | .complete _ => false
    | _ => true).flatMap (flushRecordBytes 0 d)
  let ps := flushPages flush (if flush == 0 then d.map.flushPage else 0) (rs.flatMap (flushRecordBytes (crc32 body) d))
  let d := (flushGroups ps.length ps).foldl programGroup d
  if flush == 0 then { d with map := { d.map with flushPage := d.map.flushPage + ps.length } } else d

/-- Records of the flush area are written: write-through records at once, those of a power-fail flush with its end (R340, R341). -/
def flushWriteAll (rs : List FlushRecord) (d : Device) : Device := programFlush 0 rs (rs.foldl (fun d r => flushWrite 0 r d) d)

end Sys2Proof.Machine
end

