-- ==== Sys2Proof/Machine/Inflate.lean ====
section
/-! DEFINITION. The Deflate decompressor: RFC 1951 streams, with the failures of R251. -/

namespace Sys2Proof.Machine

/-- The bits of a stream, least significant bit of each byte first. -/
def bitsOf (bs : Bytes) : List Bool := bs.flatMap fun b => (List.range 8).map fun i => b.getLsbD i

/-- The next `n` bits as a number, least significant first. -/
def takeBits : Nat → List Bool → Option (Nat × List Bool)
  | 0, s => some (0, s)
  | _ + 1, [] => none
  | n + 1, b :: s => (takeBits n s).map fun r => (b2n b + 2 * r.1, r.2)

/-- A Huffman code: how many symbols have each length, and the symbols in order of length, then number. -/
structure Huffman where
  counts : List Nat
  symbols : List Nat
  deriving DecidableEq, Repr

/-- The canonical code of the listed lengths. -/
def huffman (lens : List Nat) : Huffman :=
  ⟨(List.range 16).map fun l => if l == 0 then 0 else lens.count l,
   (List.range 15).flatMap fun l => (lens.zipIdx.filter fun x => x.1 == l + 1).map (·.2)⟩

/-- The lengths over-subscribe the code space. -/
def oversubscribed (h : Huffman) : Bool := 2 ^ 15 < (h.counts.zipIdx.map fun c => c.1 * 2 ^ (15 - c.2)).sum

/-- Decode a symbol: code so far, first code and first index of the present length. -/
def decodeSymbol (h : Huffman) : Nat → Nat → Nat → Nat → Nat → List Bool → Option (Nat × List Bool)
  | 0, _, _, _, _, _ => none
  | _, _, _, _, _, [] => none
  | n + 1, len, code, first, index, b :: s =>
    let code := code + b2n b
    let count := h.counts.getD len 0
    if code < first + count then (h.symbols[index + (code - first)]?).map fun x => (x, s)
    else decodeSymbol h n (len + 1) (2 * code) (2 * (first + count)) (index + count) s

def symbol (h : Huffman) (s : List Bool) : Option (Nat × List Bool) := decodeSymbol h 15 1 0 0 0 s

/-- Base and extra bits of a length symbol from 257. -/
def lengthBase : List (Nat × Nat) :=
  [(3, 0), (4, 0), (5, 0), (6, 0), (7, 0), (8, 0), (9, 0), (10, 0), (11, 1), (13, 1), (15, 1), (17, 1), (19, 2), (23, 2),
   (27, 2), (31, 2), (35, 3), (43, 3), (51, 3), (59, 3), (67, 4), (83, 4), (99, 4), (115, 4), (131, 5), (163, 5),
   (195, 5), (227, 5), (258, 0)]

/-- Base and extra bits of a distance symbol. -/
def distanceBase : List (Nat × Nat) :=
  (List.range 30).map fun n => if n < 4 then (n + 1, 0) else ((2 + n % 2) * 2 ^ (n / 2 - 1) + 1, n / 2 - 1)

/-- Copy `n` bytes from `dist` back; the output is held newest first. -/
def copyBack : Nat → Nat → Bytes → Bytes
  | 0, _, out => out
  | n + 1, dist, out => copyBack n dist (out.getD (dist - 1) 0 :: out)

/-- The symbols of a block up to its end, with the output newest first; nothing on a failure or past the limit. -/
def inflateSymbols (lit dst : Huffman) (limit : Nat) : Nat → List Bool → Bytes → Option (List Bool × Bytes)
  | 0, _, _ => none
  | n + 1, s, out =>
    match symbol lit s with
    | none => none
    | some (x, s) =>
      if x < 256 then
        if limit ≤ out.length then none else inflateSymbols lit dst limit n s (BitVec.ofNat 8 x :: out)
      else if x == 256 then some (s, out)
      else
        match lengthBase[x - 257]? with
        | none => none
        | some (lb, le) =>
          match takeBits le s with
          | none => none
          | some (extra, s) =>
            match symbol dst s with
            | none => none
            | some (y, s) =>
              match distanceBase[y]? with
              | none => none
              | some (db, de) =>
                match takeBits de s with
                | none => none
                | some (dx, s) =>
                  let len := lb + extra
                  let dist := db + dx
                  if out.length < dist || limit < out.length + len then none
                  else inflateSymbols lit dst limit n s (copyBack len dist out)

/-- The order in which a dynamic block gives the lengths of its code-length code. -/
def codeOrder : List Nat := [16, 17, 18, 0, 8, 7, 9, 6, 10, 5, 11, 4, 12, 3, 13, 2, 14, 1, 15]

/-- `n` fields of 3 bits. -/
def takeThrees : Nat → List Bool → Option (List Nat × List Bool)
  | 0, s => some ([], s)
  | n + 1, s =>
    match takeBits 3 s with
    | none => none
    | some (x, s) => (takeThrees n s).map fun r => (x :: r.1, r.2)

/-- The run-length coded code lengths, `n` of them. -/
def codeLengths (h : Huffman) (n : Nat) : Nat → List Bool → List Nat → Option (List Nat × List Bool)
  | 0, s, acc => if acc.length == n then some (acc, s) else none
  | fuel + 1, s, acc =>
    if acc.length == n then some (acc, s)
    else if n < acc.length then none
    else match symbol h s with
      | none => none
      | some (x, s) =>
        if x < 16 then codeLengths h n fuel s (acc ++ [x])
        else
          let run := if x == 16 then (2, 3) else if x == 17 then (3, 3) else (7, 11)
          let value := if x == 16 then acc.getLast? else some 0
          match takeBits run.1 s, value with
          | some (k, s), some v => codeLengths h n fuel s (acc ++ List.replicate (run.2 + k) v)
          | _, _ => none

/-- The codes of a dynamic block. -/
def dynamicCodes (s : List Bool) : Option (Huffman × Huffman × List Bool) :=
  match takeBits 14 s with
  | none => none
  | some (v, s) =>
    let hlit := v % 32 + 257
    let hdist := v / 32 % 32 + 1
    match takeThrees (v / 1024 + 4) s with
    | none => none
    | some (cl, s) =>
      let clen := (List.range 19).map fun i => ((codeOrder.zip cl).find? (·.1 == i)).elim 0 (·.2)
      match codeLengths (huffman clen) (hlit + hdist) 320 s [] with
      | none => none
      | some (lens, s) =>
        let lit := huffman (lens.take hlit)
        let dst := huffman (lens.drop hlit)
        if oversubscribed lit || oversubscribed dst then none else some (lit, dst, s)

/-- The codes of a fixed block; the literals 286 and 287 and the distances 30 and 31 have no meaning (R251). -/
def fixedLit : Huffman :=
  huffman (List.replicate 144 8 ++ List.replicate 112 9 ++ List.replicate 24 7 ++ List.replicate 8 8)
def fixedDist : Huffman := huffman (List.replicate 32 5)

/-- The blocks of a stream: `total` bits in all, so that a stored block finds its byte boundary. -/
def inflateBlocks (limit total : Nat) : Nat → List Bool → Bytes → Option Bytes
  | 0, _, _ => none
  | n + 1, s, out =>
    match takeBits 3 s with
    | none => none
    | some (h, s) =>
      let body :=
        if h / 2 == 0 then
          let s := s.drop ((8 - (total - s.length) % 8) % 8)
          match takeBits 32 s with
          | none => none
          | some (v, s) =>
            let len := v % 65536
            if v / 65536 != 65535 - len || s.length < 8 * len || limit < out.length + len then none
            else
              let data := (List.range len).map fun i => BitVec.ofNat 8 (((takeBits 8 (s.drop (8 * i))).map (·.1)).getD 0)
              some (s.drop (8 * len), data.reverse ++ out)
        else if h / 2 == 1 then inflateSymbols fixedLit fixedDist limit (s.length + 1) s out
        else if h / 2 == 2 then
          match dynamicCodes s with
          | some (lit, dst, s) => inflateSymbols lit dst limit (s.length + 1) s out
          | none => none
        else none
      match body with
      | none => none
      | some (s, out) =>
        if h % 2 == 1 then (if s.length < 8 && out.length == limit then some out.reverse else none)
        else inflateBlocks limit total n s out

/-- Decompress a stream to exactly `len` bytes, or fail. -/
def inflate (bs : Bytes) (len : Nat) : Option Bytes :=
  let s := bitsOf bs
  inflateBlocks len s.length (s.length + 1) s []

end Sys2Proof.Machine
end

