-- ==== Sys2Proof/Machine/EngQueue.lean ====
section
/-! DEFINITION. Cluster queues: posting and taking work descriptors (R489 to R491, R502, R506, R508). -/

namespace Sys2Proof.Machine

/-! ## Opcodes of the base image (R502) -/

def opReduce : Nat := 1
def opStoreCopy : Nat := 2
def opReadCopy : Nat := 3
def opParity : Nat := 4
def opRebuild : Nat := 5
def opScrub : Nat := 6
def opSeal : Nat := 7
def opOpen : Nat := 8
def opMove : Nat := 9
def opKnownAnswer : Nat := 10
def opFlushPack : Nat := 11

/-- A descriptor with nothing but its opcode, class and tag. -/
def blankDesc (opcode cls tag : Nat) : WorkDesc :=
  { opcode := opcode, cls := cls, flags := 0, tag := tag, ns := 0, domain := 0, slot := 0, src := 0, srcLen := 0, dst := 0,
    param := 0, status := 0, cycles := 0 }

/-- The tag of a command's work: its id, item, and 0 for REDUCE, the chunk + 1 for STORE_COPY, 4,095 for READ_COPY. -/
def workTag (cmd item part : Nat) : Nat := (cmd * 4096 + item) * 4096 + part
def tagCmd (t : Nat) : Nat := t / 4096 / 4096
def tagItem (t : Nat) : Nat := t / 4096 % 4096
def tagPart (t : Nat) : Nat := t % 4096

/-! ## Clusters -/

/-- Cluster `c` is stopped (OD 0x2F20:0C). -/
def clusterStopped (c : Nat) (d : Device) : Bool := bit (odVal 0x2F20 0x0C d) c

/-- Running clusters, in order. -/
def runningClusters (d : Device) : List Nat := (List.range 4).filter fun c => !clusterStopped c d

/-- The queue of a cluster. -/
def clusterQueue (c : Nat) (d : Device) : List WorkDesc := d.eng.queues.getD c []

/-- Cluster of a host command's descriptor: bits [2:1] of its home bucket. -/
def hostCluster (bucket : Nat) (d : Device) : Nat :=
  let c := bucket / 2 % 4
  if clusterStopped c d then (runningClusters d).headD c else c

/-- Cluster of a firmware job's descriptor: the running one with the fewest queued, the lower number on a tie. -/
def jobCluster (d : Device) : Nat :=
  (bestBy (fun a b => natsLt [(clusterQueue a d).length, a] [(clusterQueue b d).length, b]) (runningClusters d)).getD 0

/-- The engine may take a descriptor: it has not faulted on its work, or no other engine of the cluster is enabled (R36). -/
def mayTake (e : Nat) (d : Device) (w : WorkDesc) : Bool :=
  !d.eng.barred.contains (w.tag, e) ||
    !((List.range 16).any fun n => let x := 16 * (e / 16) + n; x != e && (engineOf x d).st != 3 && !d.eng.barred.contains (w.tag, x))

/-- The descriptor that is taken next: the lowest class, then in posting order. -/
def firstDesc : List WorkDesc → Option WorkDesc
  | [] => none
  | w :: ws =>
    match firstDesc ws with
    | none => some w
    | some x => if x.cls < w.cls then some x else some w

/-- Take one descriptor out of a list. -/
def removeDesc (w : WorkDesc) : List WorkDesc → List WorkDesc
  | [] => []
  | x :: xs => if x == w then xs else x :: removeDesc w xs

/-- Replace the queue of a cluster. -/
def setQueue (c : Nat) (ws : List WorkDesc) (d : Device) : Device :=
  { d with eng := { d.eng with queues := modNth d.eng.queues c fun _ => ws } }

/-- Cluster of an engine. -/
def clusterOf (e : Nat) : Nat := e / 16

/-- Dispatch entry of an opcode in the image of a cluster (R501): VALID [15], ADDRESS [11:0]. -/
def dispatchEntry (c opcode : Nat) (d : Device) : Nat := leAt (d.eng.image.getD c []) (4096 * 18 + 2 * (opcode % 256)) 2

/-- The engine starts a descriptor at its dispatch entry, with an empty stack. -/
def startDesc (e : Nat) (w : WorkDesc) (d : Device) : Device :=
  let a := dispatchEntry (clusterOf e) w.opcode d % 4096
  onEngine e (fun x => { x with st := 1, since := d.time.now, ctx := { x.ctx with pc := a, stack := [], desc := some w, ran := 0 } }) d

/-- Engines of a cluster that run a descriptor: at most 8 in PS_1 (R546). -/
def runningIn (c : Nat) (d : Device) : Nat := ((List.range 16).filter fun n => (engineOf (16 * c + n) d).ctx.desc.isSome).length

/-- An engine without a descriptor takes the next one of its cluster; an opcode without an entry is left to `bad`, and the
next one is taken. -/
def takeDesc (bad : WorkDesc → Device → Device) : Nat → Nat → Device → Device
  | 0, _, d => d
  | n + 1, e, d =>
    let c := clusterOf e
    if d.eng.activating.head? == some c || (engineOf e d).st != 0 || (d.power.eff == 1 && 8 ≤ runningIn c d) then d
    else match firstDesc ((clusterQueue c d).filter (mayTake e d)) with
      | none => d
      | some w =>
        let d := setQueue c (removeDesc w (clusterQueue c d)) d
        if 0x8000 ≤ dispatchEntry c w.opcode d then startDesc e w d
        else takeDesc bad n e (bad { w with status := 2 } d)

/-- Post a descriptor to a cluster: it stands in the queue until an engine of the cluster takes it. -/
def postTo (c : Nat) (w : WorkDesc) (d : Device) : Device := setQueue c (clusterQueue c d ++ [w]) d

/-- The cluster that takes a descriptor meant for `c`: another running one while it is `c`'s turn in an activation (R514). -/
def takingCluster (c : Nat) (d : Device) : Nat :=
  if d.eng.activating.head? == some c then ((runningClusters d).find? (· != c)).getD c else c

/-- Post a descriptor of a host command for a key of a bucket. -/
def postHost (bucket : Nat) (w : WorkDesc) (d : Device) : Device := postTo (takingCluster (hostCluster bucket d) d) w d

/-- Post a descriptor of a firmware job. -/
def postJob (w : WorkDesc) (d : Device) : Device := postTo (takingCluster (jobCluster d) d) w d

/-- A tag's work has been returned: it waits in no queue and runs on no engine. -/
def dropTag (tag : Nat) (d : Device) : Device :=
  let engines := d.eng.engines.map fun e =>
    if (e.ctx.desc.map (·.tag)) == some tag then { e with st := if e.st == 1 then 0 else e.st, ctx := { e.ctx with desc := none } }
    else if (e.parked.bind (·.desc)).map (·.tag) == some tag then { e with parked := none }
    else e
  { d with eng := { d.eng with
    queues := d.eng.queues.map fun q => q.filter (·.tag != tag)
    engines := engines } }

/-- The descriptor with a tag, wherever it is. -/
def descOf (tag : Nat) (d : Device) : Option WorkDesc :=
  let running := d.eng.engines.findSome? fun e =>
    match e.ctx.desc with
    | some w => if w.tag == tag then some w else none
    | none => none
  match running with
  | some w => some w
  | none => d.eng.queues.flatten.find? (·.tag == tag)

end Sys2Proof.Machine
end

