-- ==== Sys2Proof/Machine/LongOp.lean ====
section
/-! DEFINITION. Long-operation slots: status words, reservation, records, ends and release (R176 to R182). -/

namespace Sys2Proof.Machine

/-- A slot. -/
def longSlot (n : Nat) (d : Device) : LongSlot := d.admin.slots.getD n Reset.longSlot

/-- Change a slot. -/
def onSlot (n : Nat) (f : LongSlot → LongSlot) (d : Device) : Device :=
  { d with admin := { d.admin with slots := modNth d.admin.slots n f } }

/-- The status word (R176). -/
def slotWord (s : LongSlot) : Nat :=
  s.state * 2 ^ 56 + s.gen * 2 ^ 48 + (if s.state == 3 then 0xFFFF else min s.progress 0xFFFF) * 2 ^ 32 + s.count

/-- The handle of a slot (R177). -/
def slotHandle (n : Nat) (d : Device) : Nat := n * 256 + (longSlot n d).gen

/-- The lowest idle slot. -/
def idleSlot (d : Device) : Option Nat := (List.range 64).find? fun n => (longSlot n d).state == 0

/-- Take the lowest idle slot in a state; its generation advances by 1. -/
def takeSlot (st : Nat) (op : LongOp) (who : Starter) (d : Device) : Option (Nat × Device) :=
  match idleSlot d with
  | none => none
  | some n => some (n, onSlot n (fun s => { s with
      state := st, gen := (s.gen + 1) % 256, progress := 0, count := 0, results := [], op := op, starter := who,
      entered := d.time.now }) d)

/-- The slot becomes idle and keeps its generation; its results are freed. -/
def freeSlot (n : Nat) (d : Device) : Device :=
  onSlot n (fun s => { s with state := 0, progress := 0, count := 0, results := [], op := .none, starter := none }) d

/-- The operation ends in state 3, 4 or 5, and its partner is told (R164). -/
def endSlot (n st : Nat) (d : Device) : Device :=
  let who := (longSlot n d).starter
  let d := restartIdle (onSlot n (fun s => { s with state := st, entered := d.time.now }) d)
  match who with
  | some p => aenPost (fun a => a.port == p) 7 0x01 0xC0 0 d
  | none => d

/-- A result record: the word and its body, padded to a multiple of 8 (R178). -/
def resultRecord (typ : Nat) (body : Bytes) : Bytes :=
  let len := (4 + body.length + 7) / 8 * 8
  leBytes 4 (typ * 65536 + len) ++ padTo (len - 4) body

/-- Bytes of results of all slots (R180). -/
def poolUsed (d : Device) : Nat := (d.admin.slots.map fun s => s.results.length).sum

/-- Commit a record. -/
def commitRecord (n : Nat) (r : Bytes) (d : Device) : Device :=
  onSlot n (fun s => { s with results := s.results ++ r, count := s.count + 1 }) d

/-! ## The end of a self-test (R172) -/

/-- Hours of power-on (R166). -/
def powerHours (d : Device) : Nat := d.admin.powerOnHours + d.time.now / (3600 * Config.ticksPerS)

/-- Log 0x06 with a result of the running test: the newest 20. -/
def selfTestLogged (code seg : Nat) (t : SelfTest) (d : Device) : List SelfTestResult :=
  (⟨code, seg, t.kind, powerHours d⟩ :: d.admin.selfTestLog).take 20

/-- The self-test ends with a result code; a part of the other peer's test is only answered. -/
def endSelfTest (code seg : Nat) (d : Device) : Device :=
  match d.admin.selfTest with
  | none => d
  | some t =>
    let d := restartIdle d
    match t.fwd with
    | some f => sendLink (.fwdCompletion f 0 0 false t.firstFailure 0 0) { d with admin := { d.admin with selfTest := none } }
    | none =>
      let d := { d with admin := { d.admin with selfTest := none, selfTestLog := selfTestLogged code seg t d } }
      match t.slot with
      | some n => endSlot n (if code == 0 then 3 else if code == 7 then 4 else 5) d
      | none => d

end Sys2Proof.Machine
end

