-- ==== Sys2Proof/Machine/Value.lean ====
section
/-! DEFINITION. The value path: chunks, salts, claims and their release, reference counts and deaths, stored copies, the
hot-chunk cache and key versions (R183 to R214, R248 to R252, R624). -/

namespace Sys2Proof.Machine

/-! ## Chunks (R184, R186) -/

def chunkMin : Nat := 16384
def chunkTarget : Nat := 65536
def chunkMax : Nat := 262144

/-- The active gear table (R187). -/
def gearTable (d : Device) : List Nat := (List.range 256).map fun b => odSel 0x2610 2 b d

/-- Length of the first chunk of the bytes ahead, from the hash and length so far: MASK_S tests bits [47:32], MASK_L bits
[47:33]. -/
def cutLength (g : List Nat) : Nat → Nat → Bytes → Nat
  | _, l, [] => l
  | h, l, b :: rest =>
    let h := (h * 2 + g.getD b.toNat 0) % 2 ^ 48
    let l := l + 1
    if rest.isEmpty || l == chunkMax || (chunkTarget ≤ l && h / 2 ^ 33 == 0) ||
        (chunkMin ≤ l && l < chunkTarget && h / 2 ^ 32 == 0) then l
    else cutLength g h l rest

/-- The chunks of a value. -/
def chunksOf (g : List Nat) : Nat → Bytes → List Bytes
  | 0, _ => []
  | _, [] => []
  | n + 1, v => let l := cutLength g 0 0 v; v.take l :: chunksOf g n (v.drop l)

/-- Cut a value with the active table. -/
def cutValue (v : Bytes) (d : Device) : List Bytes := chunksOf (gearTable d) 1024 v

/-! ## Secure frames (R533) -/

/-- Send a secret in a secure frame, while the link has its key. -/
def sendSecure (m : SecureMsg) (d : Device) : Device :=
  if d.sec.linkKey.isNone || !linkPhysical d then d
  else sendLink (.secure d.sec.sendCount m) { d with sec := { d.sec with sendCount := d.sec.sendCount + 1 } }

/-! ## Salts (R190) -/

/-- The domain has a salt when the first Store reaches it; both peers hold it. -/
def ensureSalt (dom : Nat) (d : Device) : Device :=
  match tblGet? d.kv.salts dom with
  | some _ => d
  | none =>
    let r := drawBytes 2 d
    let salt := r.1.take 12
    sendSecure (.salt dom salt) { r.2 with kv := { r.2.kv with salts := tblPut r.2.kv.salts dom salt } }

/-- Every salt goes out again: the other peer may lack those made while no link key was there. -/
def resendSalts (d : Device) : Device := d.kv.salts.foldl (fun d x => sendSecure (.salt x.1 x.2) d) d

def saltOf (dom : Nat) (d : Device) : Bytes := tblGetD d.kv.salts dom []

/-- A copy of the domain lives: one known here, one that a manifest known here or a Store under way names, or one of those that a
serving peer owns, which no message counts. -/
def domainLives (dom : Nat) (d : Device) : Bool :=
  d.kv.copies.any (fun c => c.domain == dom && !c.dead) ||
    d.kv.manifests.any (fun m => m.domain == dom && !m.chunks.isEmpty) ||
    d.nvme.cmds.any (fun c => c.items.any fun i => i.domain == dom && !i.isDelete) ||
    (!noServingPeer d && Config.peerCopies dom (tick d) != 0)

/-- The salt of a domain without a live copy is discarded, with its event. -/
def settleSalt (dom : Nat) (d : Device) : Device :=
  if (tblGet? d.kv.salts dom).isNone || domainLives dom d then d
  else logEvent 0x0705 0x0042 0 dom { d with kv := { d.kv with salts := tblDel d.kv.salts dom } }

/-- Every domain's salt, as each commit group finds it. -/
def settleSalts (d : Device) : Device := (d.kv.salts.map (·.1)).foldl (fun d dom => settleSalt dom d) d

/-! ## The hot-chunk cache (R208, R209) -/

/-- Bytes that the cache holds, and may hold. -/
def cacheBytes (d : Device) : Nat := (d.kv.cache.map fun c => c.plain.length).sum
def cacheSize (d : Device) : Nat := d.kv.cacheGiB * 2 ^ 30

/-- Entries that `f` picks leave the cache. -/
def dropCache (f : CacheEntry → Bool) (d : Device) : Device :=
  { d with kv := { d.kv with cache := d.kv.cache.filter fun c => !f c } }

/-- The least recently read entries leave until the cache fits. -/
def fitCache : Nat → List CacheEntry → List CacheEntry
  | _, [] => []
  | room, c :: cs => if ((c :: cs).map fun x => x.plain.length).sum ≤ room then c :: cs else fitCache room cs

/-- The cached plaintext of a copy. -/
def cached? (dom : Nat) (fp : Bytes) (num : Nat) (d : Device) : Option CacheEntry :=
  d.kv.cache.find? fun c => c.domain == dom && c.num == num && c.fp == fp

/-- A read of a copy counts: how many lie within the window. -/
def countRead (dom : Nat) (fp : Bytes) (num : Nat) (d : Device) : Nat × Device :=
  let same := fun r : ReadCount => r.domain == dom && r.num == num && r.fp == fp
  let since := d.time.now - sec (odVal 0x2640 3 d)
  let times := (((d.kv.readCounts.find? same).map (·.times)).getD []).filter (since ≤ ·) ++ [d.time.now]
  let counts := d.kv.readCounts.filter (fun r => !same r) ++ [⟨dom, fp, num, times⟩]
  (times.length, { d with kv := { d.kv with readCounts := counts } })

/-- A read takes a chunk from the cache: it counts, and the entry becomes the most recently read. -/
def cacheHit (c : CacheEntry) (d : Device) : Device :=
  let d := (countRead c.domain c.fp c.num d).2
  odBump 0x2640 4 1 { d with kv := { d.kv with cache := d.kv.cache.filter (· != c) ++ [c] } }

/-- A copy has been read and its tag has verified: it is admitted at its OD 0x2640:02-th read within the window. -/
def admitRead (dom : Nat) (fp : Bytes) (num slot : Nat) (plain : Bytes) (d : Device) : Device :=
  let r := countRead dom fp num d
  let d := r.2
  if r.1 < odVal 0x2640 2 d || cacheSize d == 0 || (cached? dom fp num d).isSome then d
  else { d with kv := { d.kv with cache := fitCache (cacheSize d) (d.kv.cache ++ [⟨dom, fp, num, slot, plain⟩]) } }

/-! ## Counts and deaths (R204 to R207) -/

/-- A copy is DEAD: out of the hot set and the cache; the other peer is asked to drop its location, and the blocks where it lies wait for
that peer's reads (R207, R209). -/
def buryCopy (c : Copy) (d : Device) : Device :=
  let d := onCopy c.domain c.fp c.num (fun c => { c with refs := 0, dead := true, claimants := [], settled := 0 }) d
  let d := hotRemove c.domain c.fp c.num d
  invalidateCopy c (dropCache (fun x => x.domain == c.domain && x.num == c.num && x.fp == c.fp) d)

/-- The count of a copy has reached 0 at its owner: DEAD, recorded. -/
def killCopy (c : Copy) (d : Device) : Device :=
  let d := touchMap 3 (chunkKey c.domain c.fp c.num) (recordCopy { c with refs := 0, dead := true, claimants := [] } (buryCopy c d))
  settleSalt c.domain d

/-- One committed reference fewer, at the owner. A count that stands is recorded as it is: the record tells the other peer (R211). -/
def decrementAt (dom : Nat) (fp : Bytes) (num : Nat) (d : Device) : Device :=
  match copyOf dom fp num d with
  | none => journalRecord (.refCount dom fp num 0 true) d
  | some c =>
    if c.pinned || c.dead || c.refs == 0 then recordCopy c d
    else if c.refs == 1 then killCopy c d
    else
      let d := onCopy dom fp num (fun c => { c with refs := c.refs - 1 }) d
      touchMap 3 (chunkKey dom fp num) (recordCopy { c with refs := c.refs - 1 } d)

/-- The FP_REQUEST of a request of kind 2, 3 or 4. -/
def sendFpReq (r : LinkReq) (d : Device) : Device :=
  match r.what with
  | .release => sendLink (.fpRequest r.id r.domain 2 r.fp r.copy []) d
  | .decrement => sendLink (.fpRequest r.id r.domain 3 r.fp r.copy []) d
  | .present => sendLink (.fpRequest r.id r.domain 4 r.fp r.copy (((copyOf r.domain r.fp r.copy d).map (·.extents)).getD [])) d
  | _ => d

/-- The peers have found each other on a link that carries frames. -/
def linkJoined (d : Device) : Bool := linkPhysical d && d.peer.helloDone

/-- Ask the owner of an entry; while the link is down the request waits for its return. -/
def askOwner (what : ReqFor) (dom : Nat) (fp : Bytes) (num : Nat) (d : Device) : Device :=
  let r := newReq what dom fp num d
  if linkJoined d then sendFpReq ⟨r.1, what, dom, fp, num⟩ r.2 else r.2

/-- One reference fewer, here or at the other owner. -/
def decrement (dom : Nat) (fp : Bytes) (num : Nat) (d : Device) : Device :=
  if entryHere dom fp num d then decrementAt dom fp num d else askOwner .decrement dom fp num d

/-! ## Claims (R196 to R200, R624) -/

/-- A claim pins its copy when it takes the count to 0xFF_FFFF (R206). -/
def pinCopy (c : Copy) (d : Device) : Device :=
  let d := onCopy c.domain c.fp c.num (fun c => { c with pinned := true }) d
  let d := odBump 0x2600 0x0D 1 (logEvent 0x0701 0x0042 1 (c.domain * 2 ^ 48 + c.num) (hotRemove c.domain c.fp c.num d))
  touchMap 3 (chunkKey c.domain c.fp c.num) (recordCopy { c with refs := refMax, pinned := true } d)

/-- The answer to a claim: new, copy number, PRESENT. -/
structure ClaimAnswer where
  isNew : Bool
  copy : Nat
  present : Bool
  deriving DecidableEq, Repr

/-- The hot set locates the copy (R196): not while a search is diverted (R236). -/
def hotLocates (dom : Nat) (fp : Bytes) (num : Nat) (d : Device) : Bool :=
  match partOfType 3 d with
  | none => false
  | some n => d.cam.powered && !hotDiverted d &&
      (match searchPart n (hotKey dom fp) d with
       | some e => e.2.data == num % 2 ^ 32
       | none => false)

/-- A claim at the owner; `who`: a command of this device, or a request of the other peer. -/
def claimAt (dom : Nat) (fp : Bytes) (who : Bool × Nat) (d : Device) : ClaimAnswer × Device :=
  match matchableCopy dom fp d with
  | some c =>
    let d := if hotLocates dom fp c.num d then odBump 0x2600 0x0B 1 d else odBump 0x2600 0x0C 1 d
    let d := odBump 0x2600 9 1 (hotInsert dom fp c.num d)
    let d := onCopy dom fp c.num (fun c => { c with refs := c.refs + 1, claimants := c.claimants ++ [who] }) d
    let d := if c.refs + 1 == refMax then pinCopy c d else d
    (⟨false, c.num, c.present⟩, d)
  | none =>
    let n := lowestCopy dom fp d
    let d := odBump 0x2600 0x0A 1 (odBump 0x2600 0x0C 1 d)
    let d := addCopy { newCopy dom fp n with claimants := [who] } d
    (⟨true, n, false⟩, hotInsert dom fp n d)

/-- The link is down while the other peer lives (R200): a claim on its fingerprints makes a DETACHED copy here. -/
def ownerOutOfReach (d : Device) : Bool := !linkIsUp d && d.peer.st == 2

/-- A DETACHED copy of this side's numbers: bit [31] set, bit [30] the side. -/
def detachedNumber (dom : Nat) (fp : Bytes) (d : Device) : Nat :=
  let base := 2 ^ 31 + d.side * 2 ^ 30
  let held := (d.kv.copies.filter fun c => c.domain == dom && c.fp == fp).map (·.num)
  base + ((List.range (held.length + 1)).find? fun n => !held.contains (base + n)).getD 0

def claimDetached (dom : Nat) (fp : Bytes) (who : Bool × Nat) (d : Device) : ClaimAnswer × Device :=
  let n := detachedNumber dom fp d
  (⟨true, n, false⟩, addCopy { newCopy dom fp n with detached := true, claimants := [who] } d)

/-- Who stores a pending copy: its first claimant. -/
def storerOf (c : Copy) : Option (Bool × Nat) := c.claimants.head?

/-- The first element that `p` picks is changed. -/
def modFirst {α : Type} (p : α → Bool) (f : α → α) : List α → List α
  | [] => []
  | x :: xs => if p x then f x :: xs else x :: modFirst p f xs

/-- The first chunk of a command that claims the copy is to be stored here: its item is not settled then, and its command goes back to
storing. -/
def storeAgain (dom : Nat) (fp : Bytes) (num : Nat) (cmd : Nat) (d : Device) : Device :=
  let mine := fun w : WorkChunk => w.fp == fp && w.copy == some num && !w.stored
  let again := modFirst (fun i : Item => i.domain == dom && i.chunks.any mine) fun i =>
    { i with chunks := modFirst mine (fun w => { w with isNew := true }) i.chunks }
  { d with nvme := { d.nvme with cmds := d.nvme.cmds.map fun c => if c.id == cmd then { c with items := again c.items } else c } }

/-- Release of a claim at the owner (R198): the count falls by 1; a pending copy passes to its oldest remaining claimant, or
goes when none is left. -/
def releaseAt (dom : Nat) (fp : Bytes) (num : Nat) (who : Bool × Nat) (d : Device) : Device :=
  match copyOf dom fp num d with
  | none => d
  | some c =>
    if c.pinned || c.dead then onCopy dom fp num (fun c => { c with claimants := c.claimants.erase who }) d
    else if c.refs ≤ 1 then
      if c.present then killCopy c d else settleSalt dom (dropCopy dom fp num (hotRemove dom fp num d))
    else
      let rest := c.claimants.erase who
      let d := onCopy dom fp num (fun c => { c with refs := c.refs - 1, claimants := rest, settled := min c.settled rest.length }) d
      if c.present || storerOf c != some who then d
      else match rest with
        | [] => d
        | (here, id) :: _ =>
          let d := logEvent 0x0703 0x0042 0 (dom * 2 ^ 48 + num) d
          if here then storeAgain dom fp num id d else sendLink (.fpReply id 2 false num []) d

/-- Release of a claim, here or at the other owner. DESIGN CHOICE (log 228): the release carries the request id of its claim. -/
def releaseClaim (dom : Nat) (fp : Bytes) (num cmd : Nat) (claim : Option Nat) (d : Device) : Device :=
  if entryHere dom fp num d then releaseAt dom fp num (true, cmd) d
  else match claim with
    | none => askOwner .release dom fp num d
    | some id =>
      let r : LinkReq := ⟨id, .release, dom, fp, num⟩
      let d := { d with peer := { d.peer with reqs := d.peer.reqs.filter (·.id != id) ++ [r] } }
      if linkJoined d then sendFpReq r d else d

/-! ## Present (R193, R197) -/

/-- The entry records the copy as stored: its claimants at the other peer learn it. -/
def presentAt (dom : Nat) (fp : Bytes) (num : Nat) (d : Device) : Device :=
  match copyOf dom fp num d with
  | none => d
  | some c =>
    if c.present then d
    else
      let d := onCopy dom fp num (fun c => { c with present := true }) d
      let remote := c.claimants.filter fun w => !w.1
      remote.foldl (fun d w => sendLink (.fpReply w.2 1 true num c.extents) d) d

/-- A copy stored here has its stored form in the caravanserai of both peers, or in flash. -/
def markPresent (dom : Nat) (fp : Bytes) (num : Nat) (d : Device) : Device :=
  match copyOf dom fp num d with
  | none => d
  | some c =>
    if c.present then d
    else
      let d := presentAt dom fp num d
      if entryHere dom fp num d then d else askOwner .present dom fp num d

/-! ## Storing a new copy (R245 to R250, R253, R287) -/

/-- A mismatch of an engine's verifier (R249, R250): the third within 1 h disables its compressor. -/
def verifyMismatch (e dom num : Nat) (d : Device) : Device :=
  let d := odBump 0x2700 5 1 (logEvent 0x0901 (0x0200 + e) 2 (dom * 2 ^ 48 + e * 2 ^ 40 + num) d)
  let since := d.time.now - sec 3600
  let times := (tblGetD d.cipher.mismatches e []).filter (since ≤ ·) ++ [d.time.now]
  let d := { d with cipher := { d.cipher with mismatches := tblPut d.cipher.mismatches e times } }
  if times.length < 3 || bit d.cipher.disabled e then d
  else
    let d := { d with cipher := { d.cipher with disabled := setBit d.cipher.disabled e true } }
    let d := odPut 0x2700 8 d.cipher.disabled d
    raiseEmcy (0x09030000 + e) 0xFF00 0x0903 (logEvent 0x0903 (0x0200 + e) 2 e d)

/-- A row-4 fall-back: event 0x0902 at most once in a second (R252). -/
def noGain (d : Device) : Device :=
  let n := d.cipher.fallbacks + 1
  let due := match d.cipher.fallbackEventAt with
    | none => true
    | some t => t + sec 1 ≤ d.time.now
  let d := odBump 0x2700 3 1 d
  if due then logEvent 0x0902 0x0030 0 n { d with cipher := { d.cipher with
      fallbacks := 0, fallbackEventAt := some d.time.now } }
  else { d with cipher := { d.cipher with fallbacks := n } }

/-- The engine that runs a tag's descriptor. -/
def engineOfTag (tag : Nat) (d : Device) : Option Nat :=
  (List.range 64).find? fun e => ((engineOf e d).ctx.desc.map (·.tag)) == some tag

/-- The encoding of a new copy (R248): true for raw. `off`: COMPRESS_OFF. -/
def chooseEncoding (off : Bool) (e : Option Nat) (mismatch : Bool) (dom num : Nat) (plain : Bytes) (d : Device) :
    Bool × Device :=
  let disabled := match e with
    | some e => bit d.cipher.disabled e
    | none => false
  if off || disabled then (true, odBump 0x2700 4 1 d)
  else if mismatch then (true, match e with
    | some e => verifyMismatch e dom num d
    | none => odBump 0x2700 5 1 d)
  else if plain.length < (Config.deflateOutput plain).length + odVal 0x2700 1 d then (true, noGain d)
  else (false, odBump 0x2700 2 1 d)

/-- Encoded bytes of a chunk. -/
def encodedOf (raw : Bool) (plain : Bytes) : Bytes := if raw then plain else Config.deflateOutput plain

/-- The stored form takes its place in the gathering stripe of the bucket's cluster, and the entry its fields. -/
def placeCopy (dom : Nat) (fp : Bytes) (num slot cls ret cluster hash invocation : Nat) (raw : Bool) (plain : Bytes)
    (d : Device) : Device :=
  let e := encodedOf raw plain
  let len := 8 + e.length + 16
  let d := odBump 0x2700 7 e.length (odBump 0x2700 6 plain.length d)
  let r := gather cls cluster .host ret len d
  let d := r.2
  let c : Copy := { newCopy dom fp num with
    enc := if raw then .raw else .deflate, plain := plain, storedLen := len, slot := slot, invocation := invocation
    keygen := (slotOf slot d).keygen, side := d.side, cls := cls, retention := ret, extents := r.1
    keyHash := hash % 2 ^ 32, plainLen := plain.length }
  let d := match copyOf dom fp num d with
    | some x => onCopy dom fp num (fun _ => { c with refs := x.refs, detached := x.detached, claimants := x.claimants,
                                                     pinned := x.pinned, settled := x.settled, handed := x.handed, past := x.past }) d
    | none => addCopy c d
  issueClosed d

/-! ## Key versions (R20, R21, R204, R205, R324) -/

/-- Every chunk entry of a dead manifest decrements its copy once; its bytes leave the manifest pages. -/
def killManifest (mseq : Nat) (d : Device) : Device :=
  match manifestOf mseq d with
  | none => d
  | some m =>
    let d := { d with kv := { d.kv with manifests := d.kv.manifests.filter (·.seq != mseq) } }
    let d := dropLocator mseq d
    m.chunks.foldl (fun d c => decrement m.domain c.fp c.copy d) d

/-- Versions that pruning removes die (R204). -/
def settleKey (e : KeyEntry) (d : Device) : Device :=
  let p := pruneVersions e d
  let gone := e.versions.filter fun v => !p.versions.contains v
  gone.foldl (fun d v => if v.tombstone then d else killManifest v.mseq d) (putKey p d)

/-- A new version of a key takes effect at its commit tick: KEY_VERSION, the key index, the deaths that follow. -/
def applyVersion (ns : Nat) (key : Bytes) (v : Version) (d : Device) : Device :=
  let old := ((keyEntry? ns key d).map (·.versions)).getD []
  let d := match manifestOf v.mseq d with
    | some m =>
      if v.tombstone then d
      else packManifest m { d with kv := { d.kv with kept := d.kv.kept.filter (·.seq != m.seq) ++ [m] } }
    | none => d
  let d := touchMap 1 (indexKey ns key) d
  let d := journalRecord (.keyVersion ns key v.mseq v.tombstone v.tick) d
  settleKey ⟨ns, key, v :: old⟩ d

/-- A write's references commit (R205): their absolute values are recorded. -/
def commitRefs (m : Manifest) (cmd : Nat) (d : Device) : Device :=
  m.chunks.foldl (fun d c =>
    match copyOf m.domain c.fp c.copy d with
    | some x =>
      let x := { x with claimants := x.claimants.erase (true, cmd) }
      let d := onCopy m.domain c.fp c.copy (fun _ => x) d
      touchMap 3 (chunkKey m.domain c.fp c.copy) (recordCopy x d)
    | none => d) d

/-- A write of the other peer has committed: a claim of its on each copy that its manifest names is a committed reference now (R205). -/
def settleRemote (m : Manifest) (d : Device) : Device :=
  m.chunks.foldl (fun d ch =>
    match copyOf m.domain ch.fp ch.copy d with
    | some x =>
      let theirs := (x.claimants.filter fun w => !w.1).length
      if x.settled < theirs then
        let x := { x with settled := x.settled + 1 }
        touchMap 3 (chunkKey m.domain ch.fp ch.copy) (recordCopy x (onCopy m.domain ch.fp ch.copy (fun _ => x) d))
      else d
    | none => d) d

/-- The link returns: the claims of the other peer that it has outlasted count as committed from now on; those without an answer are
released (R624). -/
def settleAllRemote (d : Device) : Device :=
  { d with kv := { d.kv with copies := d.kv.copies.map fun c => { c with settled := (c.claimants.filter fun w => !w.1).length } } }

/-- Live keys of a namespace here. -/
def liveKeys (ns : Nat) (d : Device) : Nat :=
  (d.kv.index.filter fun e => e.ns == ns && (match e.versions with
    | v :: _ => !v.tombstone
    | [] => false)).length

end Sys2Proof.Machine
end

