-- ==== Sys2Proof/Machine/KvParse.lean ====
section
/-! DEFINITION. Key Value commands as they arrive: their fields, their checks in order, and the homes and locks that they
need (R122 to R137, R148, R155). -/

namespace Sys2Proof.Machine

/-- Kinds of Key Value command. -/
inductive KvKind where
  | store | retrieve | list | delete | exist | batch
  deriving DecidableEq, Repr

/-- Kind of an opcode, and whether it is a long-key form (R126). -/
def kvKind (op : Nat) : Option (KvKind × Bool) :=
  match op with
  | 0x01 => some (.store, false)
  | 0x02 => some (.retrieve, false)
  | 0x06 => some (.list, false)
  | 0x10 => some (.delete, false)
  | 0x14 => some (.exist, false)
  | 0x81 => some (.store, true)
  | 0x82 => some (.retrieve, true)
  | 0x85 => some (.batch, false)
  | 0x86 => some (.list, true)
  | 0x90 => some (.delete, true)
  | 0x94 => some (.exist, true)
  | _ => none

def sqKind (s : Sqe) : Option KvKind := (kvKind s.opcode).map (·.1)
def sqLong (s : Sqe) : Bool := (kvKind s.opcode).any (·.2)

/-! ## Fields (R125 to R127) -/

/-- Key length; a Batch Store has none of its own. -/
def sqKeyLen (s : Sqe) : Nat :=
  if sqKind s == some .batch then 0 else if sqLong s then s.cdw11 % 2048 else s.cdw11 % 256

/-- RANGE of a Long-Key Delete, SECURE of either Delete. -/
def isRange (s : Sqe) : Bool := s.opcode == 0x90 && bit s.cdw13 0
def isSecure (s : Sqe) : Bool := (s.opcode == 0x90 || s.opcode == 0x10) && bit s.cdw13 1
def sqEndLen (s : Sqe) : Nat := if isRange s then bits s.cdw12 26 16 else 0
def isAfter (s : Sqe) : Bool := bit s.cdw13 0
def storeOpts (s : Sqe) : Nat := if sqLong s then bits s.cdw11 23 16 else bits s.cdw11 15 8

/-- Bytes of a key block, and of all key blocks of a capsule (R127). -/
def keyBlock (n : Nat) : Nat := (n + 15) / 16 * 16
def blockBytes (s : Sqe) : Nat := if sqLong s then keyBlock (sqKeyLen s) + keyBlock (sqEndLen s) else 0

/-- The key, the end key and the data buffer of a capsule. -/
def capKey (c : Capsule) : Bytes :=
  if sqLong c.sqe then c.data.take (sqKeyLen c.sqe)
  else (leBytes 4 c.sqe.cdw2 ++ leBytes 4 c.sqe.cdw3 ++ leBytes 4 c.sqe.cdw14 ++ leBytes 4 c.sqe.cdw15).take (sqKeyLen c.sqe)

def capEnd (c : Capsule) : Option Bytes :=
  if isRange c.sqe && sqEndLen c.sqe != 0 then some (slice c.data (keyBlock (sqKeyLen c.sqe)) (sqEndLen c.sqe)) else none

def capData (c : Capsule) : Bytes := sglData (blockBytes c.sqe) c

/-- The command changes the store. -/
def changesStore (s : Sqe) : Bool :=
  match sqKind s with
  | some .store => true | some .delete => true | some .batch => true
  | _ => false

/-- It lists or removes a range of keys. -/
def isRangeCmd (s : Sqe) : Bool := sqKind s == some .list || isRange s

/-- Bytes that SGL1 describes. -/
def sglSize (s : Sqe) : Nat :=
  match sqKind s with
  | some .delete => 0 | some .exist => 0
  | _ => s.cdw10

/-- Bytes that the host sends. -/
def valueSize (s : Sqe) : Nat :=
  match sqKind s with
  | some .store => s.cdw10 | some .batch => s.cdw10
  | _ => 0

/-! ## Namespaces and views (R155, R473) -/

/-- The snapshot of a view namespace. -/
def viewOf (ns : Nat) (d : Device) : Option Snapshot :=
  if ns < 2 ^ 31 then none else d.snap.snaps.find? fun s => s.num == ns - 2 ^ 31 && s.st == 2

/-- The snapshot that an accepted read of a view goes on with, even once it is in state 3 (R473). -/
def readView (ns : Nat) (d : Device) : Option Snapshot :=
  if ns < 2 ^ 31 then none else d.snap.snaps.find? fun s => s.num == ns - 2 ^ 31 && 2 ≤ s.st && !s.ended

/-- The namespace whose keys a command names. -/
def realNs (ns : Nat) (d : Device) : Nat := ((readView ns d).map (·.ns)).getD ns

/-- The namespace exists and is attached to the port; a view only for the commands that read. -/
def nsServes (s : Sqe) (port : Nat) (d : Device) : Bool :=
  if s.nsid < 2 ^ 31 then nsDefined s.nsid d && bit (nsPorts s.nsid d) port
  else match viewOf s.nsid d with
    | some v => !changesStore s && bit (nsPorts v.ns d) port
    | none => false

/-! ## Batch buffers (R135, R136) -/

/-- An entry of a batch: key, value, options. -/
structure BatchEntry where
  klen : Nat
  opts : Nat
  koff : Nat
  voff : Nat
  vlen : Nat
  deriving DecidableEq, Repr

def batchCount (b : Bytes) : Nat := leAt b 0 2
def batchEntry (b : Bytes) (i : Nat) : BatchEntry :=
  let o := 16 + 16 * i
  ⟨leAt b o 2, leAt b (o + 2) 1, leAt b (o + 4) 4, leAt b (o + 8) 4, leAt b (o + 12) 4⟩
def batchKey (b : Bytes) (i : Nat) : Bytes := let e := batchEntry b i; slice b e.koff e.klen
def batchValue (b : Bytes) (i : Nat) : Bytes := let e := batchEntry b i; slice b e.voff e.vlen

/-- Check 4 of R136 on entry `i`. -/
def badEntry (b : Bytes) (size i : Nat) : Bool :=
  let e := batchEntry b i
  size < e.koff + e.klen || size < e.voff + e.vlen || e.klen == 0 || 1024 < e.klen || (bit e.opts 0 && bit e.opts 1)
    || (List.range i).any fun j => batchKey b j == batchKey b i

/-- The checks of R136. -/
def batchCheck (b : Bytes) (size : Nat) : Option (Status × Nat) :=
  let n := batchCount b
  if size < 16 || 4260880 < size || n == 0 || 64 < n || size < 16 + 16 * n then some (.invalidField, 0xFFFF)
  else
    let total := leAt b 4 4
    let sum := ((List.range n).map fun i => (batchEntry b i).vlen).sum
    if 4194304 < total then some (.vendor 0xC6, 0xFFFF)
    else if total != sum then some (.invalidField, 0xFFFF)
    else ((List.range n).find? (badEntry b size)).map fun i => (.invalidField, i)

/-! ## The field checks in order (R125) -/

/-- The in-capsule data are shorter than the key blocks (R127), or longer than an I/O queue's 16 KiB (R113, R114). -/
def capsuleBad (c : Capsule) : Bool := min c.icd c.data.length < blockBytes c.sqe || 16384 < c.icd

/-- Checks 5 to 8 of a command with a key of its own. DESIGN CHOICE (log 215): data that SGL1 places beyond the end of the in-capsule data are
a Data Transfer Error, as data that the host does not send. -/
def keyedCheck (c : Capsule) : Option (Status × Nat) :=
  let s := c.sqe
  let kind := (sqKind s).getD .store
  let most := if sqLong s then 1024 else 16
  if most < sqKeyLen s || (kind != .list && sqKeyLen s == 0) || 1024 < sqEndLen s then some (.invalidKeySize, 0)
  else if capsuleBad c then some (.invalidField, 0)
  else if kind == .store && (storeOpts s / 4 != 0 || storeOpts s % 4 == 3) then some (.invalidField, 0)
  else if kind == .retrieve && storeOpts s != 0 then some (.invalidField, 0)
  else if kind == .list && (s.cdw10 < 4 || 2097152 < s.cdw10) then some (.invalidField, 0)
  else if isRange s && (isSecure s || (match capEnd c with
      | some e => bytesLe e (capKey c)
      | none => false)) then some (.invalidField, 0)
  else if kind == .store && 16777216 < s.cdw10 then some (.vendor 0xC6, 0)
  else if s.sgl != sglSize s then some (.sglLength, 0)
  else if (capData c).length < valueSize s then some (.transferError, 0)
  else none

/-- The first check that fails, with completion dword 0. -/
def fieldCheck (port : Nat) (c : Capsule) (d : Device) : Option (Status × Nat) :=
  let s := c.sqe
  if d.peer.st == 7 then some (.vendor 0xC3, 0)
  else if d.admin.sanitize.isSome then some (.sanitizeInProgress, 0)
  else if (kvKind s.opcode).isNone then some (.invalidOpcode, 0)
  else if !nsServes s port d then some (.invalidNamespace, 0)
  else if s.psdt != 1 && s.psdt != 2 then some (.invalidField, 0)
  else if s.fuse != 0 then some (.invalidField, 0)
  else if sqKind s == some .batch then
    (if capsuleBad c then some (.invalidField, 0)
     else if s.sgl != s.cdw10 then some (.sglLength, 0)
     else if (capData c).length < s.cdw10 then some (.transferError, 0)
     else batchCheck (capData c) s.cdw10)
  else keyedCheck c

/-! ## Locks that a command needs (R148, R149) -/

/-- First 16 bytes of a key. -/
def lockKey (key : Bytes) : Bytes := padTo 16 key

/-- A lock request for a command, not yet made. -/
def keyLock (cmd ns : Nat) (key : Bytes) (d : Device) : Lock :=
  ⟨cmd, none, .exclKey, ns, keyHash ns key d, lockKey key, none, .reserved⟩

def rangeLock (cmd ns : Nat) (kind : LockKind) (lo : Bytes) (hi : Option Bytes) : Lock :=
  ⟨cmd, none, kind, ns, 0, lockKey lo, hi.map lockKey, .reserved⟩

/-- A command as the store keeps it: its key blocks, then the data that it names, cut to the value size of CDW10 (R126, R127). -/
def plainCapsule (c : Capsule) : Capsule :=
  let n := blockBytes c.sqe
  ⟨{ c.sqe with sglOff := none }, padTo n (c.data.take n) ++ (capData c).take (valueSize c.sqe), n⟩

/-- Keys of a command that changes single keys, with their place in a batch. -/
def cmdKeys (c : Capsule) : List (Nat × Bytes) :=
  match sqKind c.sqe with
  | some .batch => (List.range (batchCount (capData c))).map fun i => (i, batchKey (capData c) i)
  | some .store => [(0, capKey c)]
  | some .delete => if isRange c.sqe then [] else [(0, capKey c)]
  | _ => []

/-- Keys in the order of R123. -/
def insertByKey (x : Nat × Bytes) : List (Nat × Bytes) → List (Nat × Bytes)
  | [] => [x]
  | y :: ys => if bytesLt x.2 y.2 then x :: y :: ys else y :: insertByKey x ys

def sortKeys (l : List (Nat × Bytes)) : List (Nat × Bytes) := l.foldl (fun acc x => insertByKey x acc) []

/-- Locks of a command in the table of one side, in key order. -/
def locksAt (side cmd : Nat) (c : Capsule) (d : Device) : List Lock :=
  let ns := realNs c.sqe.nsid d
  if sqKind c.sqe == some .list then [rangeLock cmd ns .sharedRange (capKey c) none]
  else if isRange c.sqe then [rangeLock cmd ns .exclRange (capKey c) (capEnd c)]
  else (sortKeys ((cmdKeys c).filter fun k => keyHome ns k.2 d == side)).map fun k => keyLock cmd ns k.2 d

/-- The form of a lock in LOCK_RESERVE. -/
def lockIdent (l : Lock) : LockIdent :=
  ⟨l.ns, match l.kind with | .exclKey => 1 | .sharedRange => 2 | .exclRange => 3, l.hash, l.lo, l.hi.getD []⟩

/-- A key is in a range. -/
def inRange (r : Lock) (key : Bytes) : Bool :=
  bytesLe r.lo key && (match r.hi with
    | some h => bytesLe key h
    | none => true)

/-- Two ranges overlap. -/
def overlap (a b : Lock) : Bool :=
  (match b.hi with | some h => bytesLe a.lo h | none => true) && (match a.hi with | some h => bytesLe b.lo h | none => true)

/-- Two requests conflict (R149). -/
def conflicts (a b : Lock) : Bool :=
  a.ns == b.ns && match a.kind, b.kind with
    | .exclKey, .exclKey => a.hash == b.hash && a.lo == b.lo
    | .exclKey, _ => inRange b a.lo
    | _, .exclKey => inRange a b.lo
    | .sharedRange, .sharedRange => false
    | _, _ => overlap a b

/-- A request of a command may be granted: no conflict with a held lock, nor with an earlier waiting request, of another
command. -/
def grantable (l : Lock) : List Lock → Bool
  | [] => true
  | x :: xs =>
    if x == l then xs.all fun y => y.cmd == l.cmd || y.st != .held || !conflicts y l
    else (x.cmd == l.cmd || x.st == .reserved || !conflicts x l) && grantable l xs

/-- Locks of a command. -/
def locksOf (cmd : Nat) (d : Device) : List Lock := d.nvme.locks.filter (·.cmd == cmd)

/-- All locks of a command are held. -/
def allHeld (cmd : Nat) (d : Device) : Bool := (locksOf cmd d).all (·.st == .held)

/-- Replace the lock table. -/
def setLocks (ls : List Lock) (d : Device) : Device := { d with nvme := { d.nvme with locks := ls } }

/-- A command asks for its locks one after another; each is requested when the one before it is held. -/
def pumpLocks : Nat → Nat → Device → Device
  | 0, _, d => d
  | n + 1, cmd, d =>
    match (locksOf cmd d).find? (·.st != .held) with
    | none => d
    | some l =>
      if l.st == .reserved then
        pumpLocks n cmd (setLocks (d.nvme.locks.erase l ++ [{ l with st := .waiting }]) d)
      else if grantable l d.nvme.locks then
        pumpLocks n cmd (setLocks (d.nvme.locks.map fun x => if x == l then { l with st := .held } else x) d)
      else d

def requestLocks (cmd : Nat) (d : Device) : Device := pumpLocks (2 * (locksOf cmd d).length + 1) cmd d

/-- Locks of a command leave the table. -/
def releaseLocks (cmd : Nat) (d : Device) : Device := setLocks (d.nvme.locks.filter (·.cmd != cmd)) d

end Sys2Proof.Machine
end

