-- ==== Sys2Proof/Machine/KvOps.lean ====
section
/-! DEFINITION. Commands outstanding: their records, the end of a command, forwarding, and reads at the home (R18 to R23,
R36, R129 to R132, R145 to R152, R263, R264, R453). -/

namespace Sys2Proof.Machine

/-! ## Commands -/

def cmdOf (id : Nat) (d : Device) : Option Cmd := d.nvme.cmds.find? (·.id == id)

/-- Change a command. -/
def onCmd (id : Nat) (f : Cmd → Cmd) (d : Device) : Device :=
  { d with nvme := { d.nvme with cmds := d.nvme.cmds.map fun c => if c.id == id then f c else c } }

def setPhase (id : Nat) (p : Phase) (d : Device) : Device := onCmd id (fun c => { c with phase := p }) d

def Cmd.capsule (c : Cmd) : Capsule := ⟨c.sqe, c.data, blockBytes c.sqe⟩
def Cmd.ns (c : Cmd) (d : Device) : Nat := realNs c.sqe.nsid d
def Cmd.kind (c : Cmd) : KvKind := (sqKind c.sqe).getD .store

/-- All of the data that the host sends is here. -/
def Cmd.dataHere (c : Cmd) : Bool := valueSize c.sqe ≤ (capData c.capsule).length

/-- Change an item of a command. -/
def onItem (id n : Nat) (f : Item → Item) (d : Device) : Device := onCmd id (fun c => { c with items := modNth c.items n f }) d

/-- Change a chunk of an item. -/
def onChunk (id n k : Nat) (f : WorkChunk → WorkChunk) (d : Device) : Device :=
  onItem id n (fun i => { i with chunks := modNth i.chunks k f }) d

/-- A queue of the partners. -/
def queueOf (q : QueueRef) (d : Device) : Option SubQueue := d.nvme.queues.find? (·.ref == q)
def onQueue (q : QueueRef) (f : SubQueue → SubQueue) (d : Device) : Device :=
  { d with nvme := { d.nvme with queues := d.nvme.queues.map fun x => if x.ref == q then f x else x } }

/-- A command with nothing done yet. -/
def newCmd (id : Nat) (q : QueueRef) (c : Capsule) (cls seq : Nat) (ord : Bool) : Cmd :=
  { id := id, q := q, sqe := (plainCapsule c).sqe, data := (plainCapsule c).data, cls := cls, seq := seq, ord := ord, phase := .waitOrder
    fwdFrom := none, fwdTo := none, items := [], attempts := 0, slot := none, retained := (0, 0, 0), failure := none
    manifest := 0, named := none, listed := [], unsorted := [], found := [], parts := [], got := [], tick := none, parent := none, kids := [], readyAt := 0, stay := [], remoteKeys := []
    gathered := false, removed := 0, more := false }

/-- Add a command under the next number. -/
def addCmd (f : Nat → Cmd) (d : Device) : Nat × Device :=
  let id := d.nvme.nextCmd
  (id, { d with nvme := { d.nvme with cmds := d.nvme.cmds ++ [f id], nextCmd := id + 1 } })

/-- The next forward id: bit [63] the side (R457). -/
def nextForward (d : Device) : Nat × Device :=
  let n := d.nvme.nextFwd
  (d.side * 2 ^ 63 + n, { d with nvme := { d.nvme with nextFwd := n + 1 } })

/-- This device serves every key: the other peer is absent or fenced, and no takeover is under way. -/
def servesAll (d : Device) : Bool := d.peer.st == 5 && d.peer.takeover.isNone

/-- The command serves a key of its own here: its home is this peer, or was when the command was accepted (R25). -/
def Cmd.serves (c : Cmd) (key : Bytes) (d : Device) : Bool :=
  homeOf (bucketOf (c.ns d) key d) d == d.side || c.stay.contains (bucketOf (c.ns d) key d)

/-- Commands that lock: all but Retrieve, Exist and their long forms (R148). -/
def Cmd.locks (c : Cmd) : Bool := c.kind != KvKind.retrieve && c.kind != KvKind.exist

/-- A command of which the other peer carries a part: a Batch Store or a range command (R39, R148). -/
def Cmd.joint (c : Cmd) : Bool := c.kind == KvKind.batch || isRangeCmd c.sqe

/-! ## The end of a command -/

/-- Count a host command and its value bytes (R166). -/
def countHost (c : Cmd) (st : Status) (data : Bytes) (d : Device) : Device :=
  let a := d.admin
  if changesStore c.sqe then
    let n := match c.kind with
      | .store => c.sqe.cdw10
      | .batch => leAt c.data 4 4
      | _ => 0
    { d with admin := { a with hostWrites := a.hostWrites + 1
                               dataUnitsWritten := a.dataUnitsWritten + (if st.sct == 0 && st.sc == 0 then n else 0) } }
  else
    { d with admin := { a with hostReads := a.hostReads + 1
                               dataUnitsRead := a.dataUnitsRead + (if c.kind == KvKind.retrieve then data.length else 0) } }

/-- Post a command's completion where it came from: its queue, or the other peer; a part has none of its own. A request of the device's
own (port 255) keeps its answer. -/
def postFor (c : Cmd) (st : Status) (dw0 dw1 : Nat) (data : Bytes) (d : Device) : Device :=
  match c.fwdFrom with
  | some f =>
    let d := if data.isEmpty then d else sendLink (.fwdData f 0 data) d
    sendLink (.fwdCompletion f st.sct st.sc st.dnr dw0 dw1 data.length) d
  | none =>
    if c.parent.isSome then d
    else if c.q.port == 255 then
      { d with admin := { d.admin with
        fetched := ⟨c.sqe.cid, st.sct, st.sc, dw0, data⟩ :: d.admin.fetched.filter (·.who != c.sqe.cid) } }
    else countHost c st data (complete c.q c.sqe.tag st dw0 dw1 data d)

/-- Records of flush number 0 that an uncommitted item has written are released; a copy that another write keeps stays (R35, R46). -/
def releaseFlushed (ns : Nat) (i : Item) (d : Device) : Device :=
  if !i.flushed then d
  else
    let kept := fun (fp : Bytes) (n : Nat) => (copyOf i.domain fp n d).any fun x => x.refs != 0 || !x.claimants.isEmpty
    let mine := fun x : FlushItem => x.flush == 0 && x.tick == 0 && match x.body with
      | .roster _ _ n key t => n == ns && key == i.key && t == 0
      | .copy dom _ fp n _ => dom == i.domain && (i.chunks.any fun w => w.isNew && w.fp == fp && w.copy == some n) && !kept fp n
      | .manifest _ m => i.mseq != 0 && m.seq == i.mseq
      | _ => false
    { d with map := { d.map with flushItems := d.map.flushItems.map fun x => if mine x then { x with released := true } else x } }

/-- An item that does not commit: its claims are released, its manifest, mirror and flush records dropped (R35, R198). -/
def discardItem (cmd : Nat) (i : Item) (d : Device) : Device :=
  let d := i.chunks.foldl (fun d w =>
    match w.claimed, w.copy with
    | true, some n => releaseClaim i.domain w.fp n cmd w.claim d
    | _, _ => d) d
  let manifests := d.kv.manifests.filter fun m => !(i.mseq != 0 && m.seq == i.mseq)
  let mirrors := d.peer.mirrors.filter fun w => !(some w.id == i.write)
  let d := match i.write with
    | some w => sendLink (.mirrorRelease [w]) d
    | none => d
  releaseFlushed (((cmdOf cmd d).map (·.ns d)).getD 0) i
    { d with kv := { d.kv with manifests := manifests }, peer := { d.peer with mirrors := mirrors } }

/-- What the other peer holds for a command that leaves: its part there ends with the coordinator's word (log 20), or as soon as the link
is back; a reservation that it never used is given back (R39, R148, R150). -/
def endRemote (c : Cmd) (f : Nat) (d : Device) : Device :=
  if c.joint && (c.gathered || !c.kids.isEmpty) then
    (if linkIsUp d then sendLink (.fwdCompletion f Status.interrupted.sct Status.interrupted.sc false 0 0 0) d
     else if c.kind == KvKind.batch then { d with nvme := { d.nvme with batches := d.nvme.batches ++ [⟨f, 0, [], none⟩] } }
     else d)
  else if c.phase == .forwarded then d
  else sendLink (.lockReserve f []) d

/-- Invalidations of the other peer are acknowledged once no read here is under way in the copy (R203, R207). -/
def ackInvalidates (d : Device) : Device :=
  let ready := d.kv.owedAcks.filter fun x => !beingRead x.1 x.2.1 x.2.2 d
  let d := { d with kv := { d.kv with owedAcks := d.kv.owedAcks.filter fun x => beingRead x.1 x.2.1 x.2.2 d } }
  ready.foldl (fun d x => sendLink (.invalidateAck x.1 x.2.2 x.2.1) d) d

/-- The command leaves: its locks, descriptors, fetches and parts with it; an ORD command lets its queue go on (R147, R148). -/
def removeCmd (c : Cmd) (d : Device) : Device :=
  let mine := fun t : Nat => tagCmd t == c.id
  let engines := d.eng.engines.map fun e =>
    if (e.ctx.desc.map fun w => mine w.tag).getD false then { e with ctx := { e.ctx with desc := none } } else e
  let d := releaseLocks c.id d
  let d := { d with
    nvme := { d.nvme with
      cmds := d.nvme.cmds.filter fun x => x.id != c.id && x.parent != some c.id
      queues := d.nvme.queues.map fun q => if q.ordHold == some c.id then { q with ordHold := none } else q }
    kv := { d.kv with fetches := d.kv.fetches.filter (·.cmd != c.id) }
    eng := { d.eng with queues := d.eng.queues.map (fun q => q.filter fun w => !mine w.tag), engines := engines }
    power := { d.power with idleSince := d.time.now } }
  let d := ackInvalidates d
  match c.fwdFrom, c.parent, c.fwdTo with
  | none, none, some f => endRemote c f d
  | _, _, _ => d

/-- End a command without effect on the store: items discarded, a reserved slot freed (R35, R133). -/
def failCmd (id : Nat) (st : Status) (dw0 : Nat) (d : Device) : Device :=
  match cmdOf id d with
  | none => d
  | some c =>
    let d := c.items.foldl (fun d i => discardItem id i d) d
    let d := match c.slot with
      | some n => freeSlot n d
      | none => d
    postFor c st dw0 0 [] (removeCmd c d)

/-- End a command with success, or with status 0xC7. -/
def doneCmd (id : Nat) (st : Status) (dw0 dw1 : Nat) (data : Bytes) (d : Device) : Device :=
  match cmdOf id d with
  | none => d
  | some c => postFor c st dw0 dw1 data (removeCmd c d)

/-! ## Where a command goes (R18, R25, R152) -/

inductive Route where
  | here | forward | drain
  | refuse (st : Status)
  deriving DecidableEq, Repr

/-- Route of a command for a bucket. -/
def routeOf (b : Nat) (d : Device) : Route :=
  if homeOf b d == d.side then
    if d.peer.moves.any fun m => m.bucket == b && !m.old && m.launched && m.drained.isNone then .drain else .here
  else if pairUp d then .forward
  else if d.peer.takeover.isSome then .refuse (.vendor 0xC3)
  else .refuse .interrupted

/-- Send a command to the other peer under its forward id (R151, R453). -/
def sendCmd (id : Nat) (d : Device) : Device :=
  match cmdOf id d with
  | none => d
  | some c =>
    let r := match c.fwdTo with
      | some f => (f, d)
      | none => nextForward d
    let blocks := c.data.take (blockBytes c.sqe)
    let value := capData c.capsule
    let d := onCmd id (fun c => { c with fwdTo := some r.1, phase := .forwarded }) r.2
    let d := sendLink (.fwdCmd r.1 c.q.port c.q.assoc c.q.qid c.cls c.seq ⟨c.sqe, blocks, blocks.length⟩) d
    if value.isEmpty then d else sendLink (.fwdData r.1 0 value) d

/-- Pass a command to the other peer (R18). -/
def forwardCmd (id : Nat) (d : Device) : Device := sendCmd id (odBump 0x2400 4 1 d)

/-- Send a part of a command to the other peer, under the forward id of the command's reservation there (R150). -/
def forwardPart (c : Cmd) (cap : Capsule) (d : Device) : Nat × Device :=
  let r := addCmd (fun id => { newCmd id c.q cap c.cls c.seq false with parent := some c.id, fwdTo := c.fwdTo }) d
  let d := sendCmd r.1 r.2
  let f := ((cmdOf r.1 d).bind (·.fwdTo)).getD 0
  (f, onCmd c.id (fun c => { c with kids := c.kids ++ [f], fwdTo := some f }) d)

/-! ## Ordering (R145, R147) -/

/-- Two commands of one submission queue. -/
def sameQueue (a b : Cmd) : Bool := a.q == b.q && a.fwdFrom.isSome == b.fwdFrom.isSome

/-- A lock covers a key. -/
def covers (l : Lock) (ns : Nat) (hash : Nat) (key : Bytes) : Bool :=
  l.ns == ns && match l.kind with
    | .exclKey => l.hash == hash && l.lo == lockKey key
    | _ => inRange l (lockKey key)

/-- A read that goes to the other peer. -/
def readsThere (c : Cmd) (d : Device) : Bool := !c.locks && c.fwdFrom.isNone && routeOf (bucketOf (c.ns d) (capKey c.capsule) d) d == .forward

/-- Every lock request of the command stands in this table, and what goes to the other peer has gone there (R145, R151). -/
def entered (x : Cmd) (d : Device) : Bool :=
  match x.phase with
  | .waitOrder | .waitBucket => !x.locks && !readsThere x d
  | _ => (locksOf x.id d).all (·.st != .reserved) && !(x.joint && x.fwdFrom.isNone && !x.gathered && x.kids.isEmpty)

/-- The command may start: an ORD command when every earlier one of its queue has completed; one that locks or goes to the other peer when
every earlier one has entered its requests; a Retrieve or Exist when no earlier one holds or awaits a lock on its key, in either
table. -/
def canStart (c : Cmd) (d : Device) : Bool :=
  let earlier := d.nvme.cmds.filter fun x => x.parent.isNone && sameQueue x c && x.seq < c.seq
  let ns := c.ns d
  let key := capKey c.capsule
  let free := fun x : Cmd => !(locksAt 0 x.id x.capsule d ++ locksAt 1 x.id x.capsule d).any fun l => covers l ns (keyHash ns key d) key
  if c.ord then earlier.isEmpty
  else if c.locks then earlier.all (entered · d)
  else earlier.all free && (!readsThere c d || earlier.all (entered · d))

/-! ## Reads at the home (R21, R129, R132) -/

/-- The version that a command reads: the newest, or what its snapshot holds. -/
def readVersion (c : Cmd) (d : Device) : Option Version :=
  let key := capKey c.capsule
  match readView c.sqe.nsid d with
  | some s =>
    match (keyEntry? s.ns key d).bind (versionAt s.cut) with
    | some v => if v.tombstone then none else some v
    | none => none
  | none => liveVersion c.sqe.nsid key d

/-- A map page that a look-up for the command lacks: of the key index, of its manifest. -/
def lackingPage (c : Cmd) (d : Device) : Option (Nat × Nat) :=
  match missingPage 1 (indexKey (c.ns d) (capKey c.capsule)) d with
  | some p => some p
  | none =>
    match (readVersion c d).bind fun v => d.map.locators.find? (·.1 == v.mseq) with
    | some l => (pageOf 2 (l.2.1 / 2 ^ 14) d).bind fun p => if p.cached || c.kind != KvKind.retrieve then none else some (2, p.lid)
    | none => none

/-- A page that the look-up needs is lost (R331). -/
def lostPage (c : Cmd) (d : Device) : Bool :=
  let gone := fun (p : Option MapPage) => (p.map (·.lost)).getD false
  gone (pageOf 1 (Config.leafOf 1 (indexKey (c.ns d) (capKey c.capsule))) d) ||
    match (readVersion c d).bind fun v => d.map.locators.find? (·.1 == v.mseq) with
    | some l => gone (pageOf 2 (l.2.1 / 2 ^ 14) d)
    | none => false

/-- The members of a stripe that hold a piece of an extent and lie on the other peer's channels. -/
def remoteUnits (e : Extent) (d : Device) : List (Nat × MemberDesc) :=
  match stripeOf e.stripe d with
  | none => []
  | some s =>
    let n := unitBytes s.unit
    (List.range s.k).filterMap fun i =>
      match s.members[i]? with
      | some m => if e.off < (i + 1) * n && i * n < e.off + e.len && !ownsChannel m.desc.channel d then some (i, m.desc) else none
      | none => none

/-- Ask the other peer to read the units of a copy that lie on its channels (R23). -/
def askUnits (cmd prio : Nat) (extents : List Extent) (d : Device) : Device :=
  extents.foldl (fun d e => (remoteUnits e d).foldl (fun d u =>
    let r := newReq (.unit (some cmd) e.stripe u.1) 0 [] 0 d
    sendLink (.unitRead r.1 u.2 prio) r.2) d) d

/-- Member descriptor of a unit of a stripe that the other peer keeps: as its mirrored journal names it, else free (log 52). -/
def peerMember (stripe unit : Nat) (d : Device) : MemberDesc × Device :=
  let named := (d.stripe.mirror.flatMap fun p => p.page.records).findSome? fun r => match r with
    | .stripeIssue id _ _ _ _ _ _ _ ms => if id == stripe then ms[unit]? else none
    | _ => none
  match named with
  | some m => (m, d)
  | none =>
    let w := draw d
    (⟨w.1 % 128, w.1 / 128 % 8, w.1 / 1024 % 16, w.1 / 16384 % 2 ^ 20, w.1 / 2 ^ 34 % 2 ^ 16⟩, w.2)

/-- Unit size of a stripe that the other peer keeps. -/
def peerUnit (stripe : Nat) (d : Device) : Nat :=
  let named := (d.stripe.mirror.flatMap fun p => p.page.records).findSome? fun r => match r with
    | .stripeIssue id _ _ u _ _ _ _ _ => if id == stripe then some u else none
    | _ => none
  unitBytes (named.getD 3)

/-- k of a stripe that the other peer keeps, if its mirrored journal names it. -/
def peerK (stripe : Nat) (d : Device) : Option Nat :=
  (d.stripe.mirror.flatMap fun p => p.page.records).findSome? fun r => match r with
    | .stripeIssue id _ k _ _ _ _ _ _ => if id == stripe then some k else none
    | _ => none

/-! ## Reconstruction after a failed tag (R22, R23, R264, R283) -/

/-- Unit size of a stripe of either peer. -/
def unitSize (stripe : Nat) (d : Device) : Nat :=
  match stripeOf stripe d with
  | some s => unitBytes s.unit
  | none => peerUnit stripe d

/-- Data units that hold a byte of an extent. -/
def extentUnits (n : Nat) (e : Extent) : List Nat :=
  (List.range ((e.off + e.len + n - 1) / n)).filter fun i => e.off / n ≤ i

/-- Units, by stripe and position, that hold a byte of the extents, each once. -/
def touchedUnits (es : List Extent) (d : Device) : List (Nat × Nat) :=
  (es.flatMap fun e => (extentUnits (unitSize e.stripe d) e).map fun i => (e.stripe, i)).eraseDups

def pairsOf {α : Type} : List α → List (List α)
  | [] => []
  | x :: xs => xs.map (fun y => [x, y]) ++ pairsOf xs

/-- What the home treats as unreadable, try by try: nothing, each unit alone, each pair of them. -/
def tries (us : List (Nat × Nat)) : List (List (Nat × Nat)) := [] :: us.map (fun u => [u]) ++ pairsOf us

/-- The unusable members of a stripe kept here, with those of a try. -/
def badWith (x : List (Nat × Nat)) (id : Nat) (d : Device) : List Nat :=
  match stripeOf id d with
  | some s => ((lostUnits s d) ++ (x.filter (·.1 == id)).map (·.2)).eraseDups
  | none => []

/-- P and Q can repair each stripe with the members that a try leaves out. -/
def tryFeasible (x : List (Nat × Nat)) (d : Device) : Bool := (x.map (·.1)).all fun id => (badWith x id d).length ≤ 2

/-- The units that a rebuild of stripe `id` reads: the data units and P, and Q when two of those are bad. -/
def rebuildFrom (bad : List (Nat × Nat)) (id k : Nat) : List (Nat × Nat) :=
  let gone := (List.range (k + 1)).filter fun i => bad.contains (id, i)
  ((List.range (if gone.length ≤ 1 then k + 1 else k + 2)).map fun i => (id, i)).filter fun u => !bad.contains u

/-- No more than two members of the stripe are bad. -/
def withinParity (bad : List (Nat × Nat)) (id k : Nat) : Bool :=
  ((List.range (k + 2)).filter fun i => bad.contains (id, i)).length ≤ 2

/-- A data unit rebuilt from the others of its stripe. -/
def rebuiltUnit (bad : List (Nat × Nat)) (id k n u : Nat) (units : List ((Nat × Nat) × Bytes)) : Bytes :=
  let at_ := fun i : Nat => padTo n (((units.find? (·.1 == (id, i))).map (·.2)).getD [])
  let good := ((List.range k).filter fun i => !bad.contains (id, i)).map fun i => (i, at_ i)
  let p := xorBytes (at_ k) (parityP n (good.map (·.2)))
  let q := xorBytes (at_ (k + 1)) (parityQ n good)
  match (List.range k).filter fun i => bad.contains (id, i) with
  | [x] => if bad.contains (id, k) then solveFromQ x q else p
  | [x, y] => let s := solveTwo x y p q; if u == x then s.1 else s.2
  | _ => []

/-! ## Copies that the other peer stored (R23, R203) -/

/-- Ask where a copy lies that the other peer stored (R203). -/
def locateCopy (cmd : Nat) (m : Manifest) (ch : ChunkRef) (d : Device) : Device :=
  let f : Fetch := ⟨cmd, m.domain, ch.fp, ch.copy, m.slot, ch.len, [], [], [], [], 0⟩
  let d := { d with kv := { d.kv with fetches := d.kv.fetches ++ [f] } }
  let r := newReq (.locate cmd m.domain ch.fp ch.copy) m.domain ch.fp ch.copy d
  sendLink (.fpRequest r.1 m.domain 5 ch.fp ch.copy []) r.2

/-- How a fetch goes on: a unit is needed; every needed unit is here; the bad ones are past P and Q; the stripe of a bad one is unknown. -/
inductive FetchStep where
  | ask (stripe unit : Nat)
  | whole (stored : Bytes)
  | beyond
  | unknown
  deriving DecidableEq, Repr

/-- The stored form of a fetch from the units at hand. -/
def fetchedForm (bad : List (Nat × Nat)) (f : Fetch) (d : Device) : Bytes :=
  f.extents.flatMap fun e =>
    let n := peerUnit e.stripe d
    let us := extentUnits n e
    let unit := fun i : Nat =>
      if bad.contains (e.stripe, i) then rebuiltUnit bad e.stripe ((peerK e.stripe d).getD 0) n i f.units
      else padTo n (((f.units.find? (·.1 == (e.stripe, i))).map (·.2)).getD [])
    slice (us.flatMap unit) (e.off - (us.headD 0) * n) e.len

/-- What a fetch does next in a try. -/
def fetchStep (f : Fetch) (x : List (Nat × Nat)) (d : Device) : FetchStep :=
  let bad := f.unread ++ x
  let touched := touchedUnits f.extents d
  let broken := (touched.filter bad.contains).map (·.1)
  if broken.any fun id => (peerK id d).isNone then .unknown
  else if broken.any fun id => !withinParity bad id ((peerK id d).getD 0) then .beyond
  else
    let need := touched.flatMap fun u => if bad.contains u then rebuildFrom bad u.1 ((peerK u.1 d).getD 0) else [u]
    match need.find? fun u => !(f.units.any (·.1 == u)) with
    | some u => .ask u.1 u.2
    | none => .whole (fetchedForm bad f d)

/-- What a stored form opens to (R251, R263). -/
inductive Opened where
  | plain (v : Bytes)
  | tagFailed | noKey | badCode
  deriving DecidableEq, Repr

def openFetched (f : Fetch) (stored : Bytes) (d : Device) : Opened :=
  let enc := leAt stored 7 1
  match (slotOf f.slot d).key with
  | none => .noKey
  | some key =>
    match openForm key f.slot (copyAad f.domain f.slot f.num f.plainLen f.fp enc) stored with
    | none => .tagFailed
    | some e =>
      if enc == 0 then .plain e
      else match inflate e f.plainLen with
        | some v => .plain v
        | none => .badCode

/-- Replace a command's fetch. -/
def putFetch (f : Fetch) (d : Device) : Device :=
  { d with kv := { d.kv with fetches := d.kv.fetches.map fun x => if x.cmd == f.cmd then f else x } }

def endFetch (cmd : Nat) (d : Device) : Device := { d with kv := { d.kv with fetches := d.kv.fetches.filter (·.cmd != cmd) } }

/-- A copy of which no combination verifies is reported lost (R264, R306): a record for each stripe with its units, its entry DETACHED. -/
def loseCopy (dom : Nat) (fp : Bytes) (num : Nat) (d : Device) : Device :=
  match copyOf dom fp num d with
  | none => d
  | some c =>
    if c.lost then d
    else
      let us := touchedUnits c.extents d
      let d := ((us.map (·.1)).eraseDups).foldl (fun d id =>
        let bitmap := ((us.filter (·.1 == id)).map fun u => 2 ^ u.2).sum
        logEvent 0x0A03 0x0040 2 id (addLost 2 c.cls id bitmap 1 (journalRecord (.stripeLost id bitmap 2) d))) d
      let d := onCopy dom fp num (fun c => { c with detached := true, lost := true }) d
      hotRemove dom fp num (recordCopy { c with detached := true, lost := true } d)

/-- Position of the chunk that a read waits for. -/
def readPart (c : Cmd) : Nat :=
  match c.named with
  | some m => m.chunks.length - c.parts.length + 1
  | none => 1

/-- READ_COPY of a copy stored here; the units of it on the other peer's channels come from there. -/
def readHere (id : Nat) (c : Cmd) (m : Manifest) (x : Copy) (d : Device) : Device :=
  let w := { blankDesc opReadCopy c.cls (workTag id 0 (readPart c)) with
               ns := m.ns, domain := m.domain, slot := x.slot, srcLen := x.storedLen, param := x.num }
  postHost (bucketOf m.ns m.key d) w (setPhase id .reading (askUnits id 0 x.extents d))

/-- Steps that a read of some chunks may take: units, tries and chunks. -/
def readFuel (c : Cmd) : Nat := (c.parts.length + 1) * 1024

/-- The next chunk of a read is at hand: it goes to the host's buffer. -/
def takeChunk (plain : Bytes) (c : Cmd) : Cmd := { c with parts := c.parts.drop 1, got := c.got ++ plain, attempts := 0 }

/-- Go on with a read: chunks from the cache at once; another chunk by READ_COPY, or unit by unit from the other peer. A unit on this
device's own channels is at hand at once (log 59). -/
def readOn : Nat → Nat → Device → Device
  | 0, _, d => d
  | n + 1, id, d =>
    match cmdOf id d with
    | none => d
    | some c =>
      match c.named with
      | none => failCmd id (.vendor 0xC0) 0 d
      | some m =>
        let want := min c.sqe.cdw10 m.size
        match d.kv.fetches.find? (·.cmd == id) with
        | some f =>
          if f.extents.isEmpty then d
          else match (tries (touchedUnits f.extents d))[f.attempts]? with
          | none => failCmd id (.vendor 0xC0) 0 (loseCopy f.domain f.fp f.num d)
          | some x =>
            match fetchStep f x d with
            | .unknown => failCmd id .interrupted 0 d
            | .beyond => readOn n id (putFetch { f with attempts := f.attempts + 1 } d)
            | .ask stripe unit =>
              let w := peerMember stripe unit d
              if ownsChannel w.1.channel w.2 then
                readOn n id (putFetch { f with units := f.units ++ [((stripe, unit), Config.flashUnit (descNum w.1) w.2.time.now)] } w.2)
              else
                let r := newReq (.unit (some id) stripe unit) 0 [] 0 w.2
                sendLink (.unitRead r.1 w.1 0) r.2
            | .whole stored =>
              match openFetched f stored d with
              | .plain v => readOn n id (onCmd id (takeChunk v) (admitRead f.domain f.fp f.num f.slot v (endFetch id d)))
              | .tagFailed =>
                let d := logEvent 0x0904 0x0030 2 (f.domain * 2 ^ 48 + f.slot * 2 ^ 32 + f.num) (odBump 0x2800 6 1 d)
                readOn n id (putFetch { f with attempts := f.attempts + 1 } d)
              | .noKey => failCmd id (if (slotOf f.slot d).st == .empty then .vendor 0xC0 else .interrupted) 0 d
              | .badCode => failCmd id .internalError 0 d
        | none =>
          match c.parts with
          | [] => doneCmd id .success m.size 0 (c.got.take want) d
          | ch :: _ =>
            if want ≤ c.got.length then doneCmd id .success m.size 0 (c.got.take want) d
            else match cached? m.domain ch.fp ch.copy d with
              | some e => readOn n id (onCmd id (takeChunk e.plain) (cacheHit e d))
              | none =>
                let d := odBump 0x2640 5 1 d
                match copyOf m.domain ch.fp ch.copy d with
                | some x =>
                  if x.lost then failCmd id (.vendor 0xC0) 0 d
                  else if x.plain.isEmpty then
                    (if x.extents.isEmpty then failCmd id (.vendor 0xC0) 0 d
                     else if linkIsUp d then
                      let f : Fetch := ⟨id, m.domain, ch.fp, ch.copy, m.slot, ch.len, x.extents, [], [], [], 0⟩
                      readOn n id (setPhase id .reading { d with kv := { d.kv with fetches := d.kv.fetches ++ [f] } })
                    else failCmd id .interrupted 0 d)
                  else
                    match (slotOf x.slot d).st with
                    | .empty => failCmd id (.vendor 0xC0) 0 d
                    | .zeroised => failCmd id .interrupted 0 d
                    | _ => readHere id c m x d
                | none =>
                  if linkIsUp d then locateCopy id m ch (setPhase id .reading d) else failCmd id .interrupted 0 d

/-- Start a Retrieve, an Exist at the home. -/
def startRead (id : Nat) (d : Device) : Device :=
  match cmdOf id d with
  | none => d
  | some c =>
    let ns := c.ns d
    let slot := keySlotFor ns (policyOf ns (capKey c.capsule) d) d
    if lostPage c d then failCmd id (.vendor 0xC0) 0 d
    else match lackingPage c d, c.kind with
      | some _, _ => setPhase id .waitMap (odBump 0x2A00 0x0C 1 d)
      | none, .exist => if (readVersion c d).isSome then doneCmd id .success 0 0 [] d else failCmd id .keyAbsent 0 d
      | none, _ =>
        match slotForRetrieve slot d with
        | some st => failCmd id st 0 d
        | none =>
          match readVersion c d with
          | none => failCmd id .keyAbsent 0 d
          | some v =>
            if v.lost then failCmd id (.vendor 0xC0) 0 d
            else
              let parts := ((manifestOf v.mseq d).map (·.chunks)).getD []
              readOn ((parts.length + 1) * 1024) id (onCmd id (fun c => { c with
                manifest := v.mseq, named := manifestOf v.mseq d, parts := parts, got := [], attempts := 0, phase := .reading }) d)

/-- A chunk of a read has been verified and decompressed: it goes to the host's buffer, and perhaps the cache (R208). A copy that
verified only without some of its units has them repaired (R302, R305). -/
def chunkRead (id : Nat) (x : Copy) (d : Device) : Device :=
  match cmdOf id d with
  | none => d
  | some c =>
    let bad := ((tries (touchedUnits x.extents d))[c.attempts]?).getD []
    let d := if bad.isEmpty then d else bad.foldl (fun d u =>
      startMove u.1 u.2 4 false none (onMember u.1 u.2 (fun m => { m with readable := false }) d)) (odBump 0x2900 0x0A 1 d)
    let d := admitRead x.domain x.fp x.num x.slot x.plain d
    readOn (readFuel c) id (onCmd id (takeChunk x.plain) d)

/-- The tag of a copy stored here has failed (R22, R264): it is read again without the next of its units, or pair of them, that P and Q can
rebuild; when none is left the copy is lost. -/
def readTagFailed (id : Nat) (x : Copy) (d : Device) : Device :=
  match cmdOf id d, (cmdOf id d).bind (·.named) with
  | some c, some m =>
    let left := (tries (touchedUnits x.extents d)).zipIdx.filter fun t => c.attempts < t.2 && tryFeasible t.1 d
    match left with
    | t :: _ => readHere id c m x (onCmd id (fun c => { c with attempts := t.2 }) d)
    | [] => failCmd id (.vendor 0xC0) 0 (loseCopy x.domain x.fp x.num d)
  | _, _ => d

/-! ## Lists (R130, R131) -/

/-- Live keys of a namespace here from a start key, in order; a view gives those of its snapshot. -/
def keysFrom (nsid : Nat) (start : Bytes) (after : Bool) (d : Device) : List Bytes :=
  let ns := realNs nsid d
  let shown := fun e : KeyEntry => match readView nsid d with
    | some s => (match versionAt s.cut e with
        | some v => !v.tombstone
        | none => false)
    | none => (match e.versions with
        | v :: _ => !v.tombstone
        | [] => false)
  (d.kv.index.filter fun e => e.ns == ns && shown e && (if after then bytesLt start e.key else bytesLe start e.key)).map (·.key)

/-- Keys of two lists in order, each once. -/
def mergeKeys : List Bytes → List Bytes → List Bytes
  | l, [] => l
  | l, k :: ks =>
    let rec put : List Bytes → List Bytes
      | [] => [k]
      | x :: xs => if x == k then x :: xs else if bytesLt k x then k :: x :: xs else x :: put xs
    mergeKeys (put l) ks

/-- A key record of the list buffer. -/
def keyRecord (k : Bytes) : Bytes := padTo ((2 + k.length + 3) / 4 * 4) (leBytes 2 k.length ++ k)

/-- Keys that fit: at most `most` (0 no limit) and `room` bytes. -/
def fitKeys : Nat → Nat → List Bytes → List Bytes
  | _, _, [] => []
  | most, room, k :: ks =>
    let n := (keyRecord k).length
    if room < n then [] else if most == 1 then [k] else k :: fitKeys (most - 1) (room - n) ks

/-- Keys that a List may return. -/
def listable (s : Sqe) (keys : List Bytes) : List Bytes := if sqLong s then keys else keys.filter (·.length ≤ 16)

/-- The list buffer of keys, MORE. -/
def listBuffer (s : Sqe) (keys : List Bytes) : Bytes × Nat × Bool :=
  let got := fitKeys (s.cdw12 % 65536) (s.cdw10 - 4) keys
  (padTo s.cdw10 (leBytes 4 got.length ++ got.flatMap keyRecord), got.length, got.length < keys.length)

/-- The keys in a list buffer. -/
def bufferKeys : Nat → Bytes → List Bytes
  | 0, _ => []
  | n + 1, b =>
    let l := leAt b 0 2
    slice b 2 l :: bufferKeys n (b.drop ((2 + l + 3) / 4 * 4))

def keysOfList (b : Bytes) : List Bytes := bufferKeys (leAt b 0 4) (b.drop 4)

/-- Keys as a part carries them between the peers (log 20). -/
def keyList (keys : List Bytes) : Bytes := leBytes 4 keys.length ++ keys.flatMap keyRecord

/-- A range command's part here gives its coordinator the keys that this peer holds of the range, and stands with its range lock until the
coordinator's word (R148). -/
def answerRange (c : Cmd) (keys : List Bytes) (more : Bool) (d : Device) : Device :=
  match c.fwdFrom with
  | none => d
  | some f =>
    let d := sendLink (.fwdData f 0 (keyList keys)) (setPhase c.id .forwarded d)
    sendLink (.fwdCompletion f 0 0 false keys.length (b2n more) (keyList keys).length) d

/-- A List whose locks are granted and which has the other peer's keys. -/
def doList (id : Nat) (d : Device) : Device :=
  match cmdOf id d with
  | none => d
  | some c =>
    let mine := keysFrom c.sqe.nsid (capKey c.capsule) (isAfter c.sqe) d
    let keys := listable c.sqe (mergeKeys mine c.remoteKeys)
    if c.fwdFrom.isSome then
      let got := fitKeys (c.sqe.cdw12 % 65536) (c.sqe.cdw10 - 4) keys
      answerRange c got (got.length < keys.length) d
    else
      let b := listBuffer c.sqe keys
      doneCmd id .success b.2.1 (b2n (b.2.2 || c.more)) b.1 d

end Sys2Proof.Machine
end

