-- ==== Sys2Proof/Machine/KvWrite.lean ====
section
/-! DEFINITION. Writes at their home: checks at lock grant, reduction, claims, storing, acknowledgement and commit (R20,
R34 to R40, R51, R128, R133, R134, R137, R196 to R198, R210, R211, R232, R261, R452). -/

namespace Sys2Proof.Machine

/-! ## Items -/

/-- An item of a command. -/
def newItem (entry : Nat) (key value : Bytes) (opts home : Nat) (isDelete : Bool) : Item :=
  { entry := entry, key := key, value := value, opts := opts, home := home, policy := 0, domain := 0, slot := 0, cls := 0
    chunks := [], mseq := 0, reduced := isDelete || value.isEmpty, faults := 0, write := none, flushed := false, ready := false
    isDelete := isDelete }

/-- The items of a command of which the keys are homed here. -/
def itemsOf (c : Cmd) (d : Device) : List Item :=
  let cap := c.capsule
  match c.kind with
  | .batch =>
    ((List.range (batchCount c.data)).filter fun i => c.serves (batchKey c.data i) d).map fun i =>
      newItem i (batchKey c.data i) (batchValue c.data i) ((batchEntry c.data i).opts % 4) d.side false
  | .store => [newItem 0 (capKey cap) (capData cap) (storeOpts c.sqe % 4) d.side false]
  | .delete => if isRange c.sqe then [] else [newItem 0 (capKey cap) [] 0 d.side true]
  | _ => []

/-- What refuses a store at lock grant (R128): the policy rule, the key slot, the store options, in this order. -/
def storeRefused (ns : Nat) (i : Item) (d : Device) : Option Status :=
  let p := policyOf ns i.key d
  if denyStore p then some (.vendor 0xC2)
  else match slotForStore (keySlotFor ns p d) (nsTenant ns d) d with
    | some st => some st
    | none =>
      let here := (liveVersion ns i.key d).isSome
      if bit i.opts 0 && !here then some .keyAbsent else if bit i.opts 1 && here then some .keyExists else none

/-- What refuses a delete (R133). -/
def deleteRefused (ns : Nat) (key : Bytes) (d : Device) : Option Status :=
  if denyDelete (policyOf ns key d) then some (.vendor 0xC2)
  else if (liveVersion ns key d).isNone then some .keyAbsent
  else none

/-- An item's policy, domain, slot and class are those of the moment of the grant (R158). -/
def fixItem (ns : Nat) (d : Device) (i : Item) : Item :=
  let p := policyOf ns i.key d
  { i with policy := p, domain := nsDomain ns d, slot := keySlotFor ns p d, cls := classFor ns p d }

/-- Post the REDUCE descriptor of an item. -/
def postReduce (c : Cmd) (n : Nat) (i : Item) (d : Device) : Device :=
  let ns := c.ns d
  postHost (bucketOf ns i.key d)
    { blankDesc opReduce c.cls (workTag c.id n 0) with
        ns := ns, domain := i.domain, slot := i.slot, srcLen := i.value.length } d

/-- Reduction starts: the domain has a salt, and each value goes to an engine. -/
def startReduce (id : Nat) (d : Device) : Device :=
  match cmdOf id d with
  | none => d
  | some c =>
    let items := c.items.map (fixItem (c.ns d) d)
    let d := setPhase id .reducing (onCmd id (fun c => { c with items := items }) d)
    let d := items.foldl (fun d i => if i.isDelete then d else ensureSalt i.domain d) d
    items.zipIdx.foldl (fun d x => if x.1.reduced then d else postReduce c x.2 x.1 d) d

/-! ## Claims of a value's chunks (R196, R200, R624) -/

/-- The engine that reduces a value sees the reply to its claim: conditions 26 to 28 and port 7 (R497, R499). -/
def engineSeesClaim (tag : Nat) (a : ClaimAnswer) (d : Device) : Device :=
  match engineOfTag tag d with
  | none => d
  | some e =>
    let d := engineCond e 28 a.present (engineCond e 27 (!a.isNew) (engineCond e 26 true d))
    onEngine e (fun x => { x with ports := x.ports.set 7 a.copy }) d

/-- The claim of a chunk is answered. -/
def claimAnswered (id n k : Nat) (a : ClaimAnswer) (d : Device) : Device :=
  engineSeesClaim (workTag id n 0) a <| onChunk id n k (fun w => { w with
    copy := some a.copy, isNew := a.isNew, claimed := true, present := a.present, req := none
    claim := if w.req.isSome then w.req else w.claim }) d

/-- Claim a chunk at its owner; without a reachable owner it waits. -/
def claimChunk (id n k dom : Nat) (fp : Bytes) (d : Device) : Device :=
  if ownsFp fp d then let r := claimAt dom fp (true, id) d; claimAnswered id n k r.1 r.2
  else if linkIsUp d then
    let r := newReq (.claim id n k) dom fp 0 d
    onChunk id n k (fun w => { w with req := some r.1 }) (sendLink (.fpRequest r.1 dom 1 fp 0 []) r.2)
  else if ownerOutOfReach d then let r := claimDetached dom fp (true, id) d; claimAnswered id n k r.1 r.2
  else d

/-- A chunk cut from a value, not claimed. -/
def newChunk (data fp : Bytes) : WorkChunk :=
  { data := data, fp := fp, copy := none, isNew := false, claimed := false, present := false, req := none, claim := none, raw := none
    invocation := none, stored := false }

/-- Add a chunk to an item and claim it. -/
def addChunk (id n : Nat) (data : Bytes) (d : Device) : Device :=
  match (cmdOf id d).bind fun c => c.items[n]? with
  | none => d
  | some i =>
    let fp := fingerprint (saltOf i.domain d) i.slot data
    let d := odBump 0x2600 8 1 (onItem id n (fun i => { i with chunks := i.chunks ++ [newChunk data fp] }) d)
    claimChunk id n i.chunks.length i.domain fp d

/-- REDUCE has succeeded: the chunks that its MSG_CLAIM words have not claimed are claimed. -/
def reduceDone (id n : Nat) (d : Device) : Device :=
  match (cmdOf id d).bind fun c => c.items[n]? with
  | none => d
  | some i =>
    if i.reduced then d
    else
      let left := cutValue (i.value.drop (i.chunks.map fun w => w.data.length).sum) d
      let d := left.foldl (fun d v => addChunk id n v d) d
      odBump 0x2600 0x0E i.value.length (onItem id n (fun i => { i with reduced := true }) d)

/-- The cluster that works on a key. -/
def keyCluster (ns : Nat) (key : Bytes) (d : Device) : Nat := hostCluster (bucketOf ns key d) d

/-- A cipher refusal ends the command (R258, R261). -/
def refuseCipher (id slot : Nat) (d : Device) : Device :=
  let st := if (slotOf slot d).st == .zeroised || d.cipher.alarm != 0 then Status.interrupted else .vendor 0xC1
  failCmd id st 0 d

/-- STORE_COPY has succeeded on engine `e`: the copy is encoded, encrypted and placed. While the counter stands at its durable limit the
descriptor waits (R256). -/
def storeChunk (e : Option Nat) (id n k : Nat) (d : Device) : Device :=
  match cmdOf id d with
  | none => d
  | some c =>
    match c.items[n]?, (c.items[n]?).bind fun i => i.chunks[k]? with
    | some i, some w =>
      if !w.isNew || w.stored || !w.claimed then d
      else
        let ns := c.ns d
        let num := w.copy.getD 0
        let inv := match w.invocation with
          | some v => (Invocation.gives v, d)
          | none => takeInvocation i.slot d
        match inv.1 with
        | .refused => refuseCipher id i.slot inv.2
        | .waits => inv.2
        | .gives v =>
          let enc := match w.raw with
            | some r => (r, inv.2)
            | none => chooseEncoding (compressOff i.policy) e false i.domain num w.data inv.2
          let d := placeCopy i.domain w.fp num i.slot i.cls (policyRetention i.policy)
            (keyCluster ns i.key d) (keyHash ns i.key d) v enc.1 w.data enc.2
          onChunk id n k (fun w => { w with stored := true, raw := some enc.1, invocation := some v }) d
    | _, _ => d

/-- Post STORE_COPY for the new copies that have no descriptor, and claim again what could not be claimed. -/
def driveItem (c : Cmd) (n : Nat) (i : Item) (d : Device) : Device :=
  i.chunks.zipIdx.foldl (fun d x =>
    let w := x.1
    let tag := workTag c.id n (x.2 + 1)
    if !w.claimed && w.req.isNone then claimChunk c.id n x.2 i.domain w.fp d
    else if w.claimed && w.isNew && !w.stored && (descOf tag d).isNone then
      postHost (bucketOf (c.ns d) i.key d)
        { blankDesc opStoreCopy c.cls tag with
            ns := c.ns d, domain := i.domain, slot := i.slot, srcLen := w.data.length, param := w.copy.getD 0 } d
    else d) d

/-- Every chunk is claimed, and every new one stored. -/
def Item.settled (i : Item) : Bool := i.reduced && i.chunks.all fun w => w.claimed && (!w.isNew || w.stored)

/-! ## Manifest, mirror and flush area (R20, R51, R201, R452) -/

/-- The manifest of an item. -/
def itemManifest (c : Cmd) (i : Item) (seq : Nat) (d : Device) : Manifest :=
  { seq := seq, ns := c.ns d, key := i.key, size := i.value.length, domain := i.domain, slot := i.slot
    batch := c.kind == KvKind.batch
    chunks := i.chunks.map fun w => ⟨w.fp, w.copy.getD 0, w.data.length⟩ }

/-- Write an item's manifest. -/
def writeManifest (c : Cmd) (n : Nat) (i : Item) (d : Device) : Device :=
  if i.isDelete || i.mseq != 0 then d
  else
    let r := nextManifest d
    let m := itemManifest c i r.1 r.2
    let d := { r.2 with kv := { r.2.kv with manifests := r.2.kv.manifests ++ [m] } }
    onItem c.id n (fun i => { i with mseq := r.1 }) d

/-- What makes a write acknowledged now. -/
inductive AckMode where
  | mirror | mirrorFlush | flush | memory | wait
  deriving DecidableEq, Repr

/-- The acknowledgement condition in force (R20, R41, R51). -/
def ackMode (d : Device) : AckMode :=
  let short := bit d.conditions 2
  if d.peer.st == 1 then (if !linkIsUp d then .wait else if short then .mirrorFlush else .mirror)
  else if d.peer.st == 2 || d.peer.st == 4 then .flush
  else if d.peer.st == 5 then (if odVal 0x2D20 1 d == 1 && !short then .memory else .flush)
  else .wait

/-- Write-through is in force (R27). -/
def writeThrough (d : Device) : Bool := ackMode d == .flush || ackMode d == .mirrorFlush

/-- New copies of an item that this device stores. -/
def newCopies (i : Item) : List (Nat × Bytes × Nat) :=
  (i.chunks.filter (·.isNew)).map fun w => (i.domain, w.fp, w.copy.getD 0)

/-- The stored form of a copy. -/
def formOf (c : Copy) : StoredForm := ⟨c.plain, c.storedLen, c.invocation, c.side, c.enc == .deflate⟩

/-- The records of an item: ROSTER, the COPY of each new copy, MANIFEST (R452). -/
def itemRecords (c : Cmd) (i : Item) (d : Device) : List MirrorRecord :=
  let copies := (i.chunks.filter (·.isNew)).map fun w =>
    let x := copyOf i.domain w.fp (w.copy.getD 0) d
    MirrorRecord.copy i.domain i.slot w.fp (w.copy.getD 0) ((x.map formOf).getD ⟨w.data, 0, 0, 0, false⟩)
  let roster := MirrorRecord.roster d.side (c.kind == KvKind.batch) (c.ns d) i.key (c.tick.getD 0)
  let manifest := match manifestOf i.mseq d with
    | some m => [MirrorRecord.manifest 0 m]
    | none => []
  roster :: copies ++ manifest

/-- A record of the flush area with the same fields (R340). -/
def flushForm : MirrorRecord → FlushRecord
  | .roster h b ns k t => .roster h b ns k t
  | .copy dom s fp n f => .copy dom s fp n f
  | .manifest t m => .manifest t m

/-- Send an item's records to the other peer. DESIGN CHOICE (log 123): bit [62] of the write id tells a Delete. -/
def startMirror (c : Cmd) (n : Nat) (i : Item) (d : Device) : Device :=
  let recs := itemRecords c i d
  let id := d.side * 2 ^ 63 + b2n i.isDelete * 2 ^ 62 + d.peer.nextWrite
  let w : MirrorWrite :=
    { id := id, cmd := c.id, records := recs.length, acked := 0, copies := newCopies i, mseq := i.mseq, ns := c.ns d
      key := i.key, tick := none, keyDurable := false }
  let d := { d with peer := { d.peer with mirrors := d.peer.mirrors ++ [w], nextWrite := d.peer.nextWrite + 1 } }
  sendAll (recs.map (.mirrorData id ·)) (onItem c.id n (fun i => { i with write := some id }) d)

/-- Write an item's records to the flush area, if they fit beside the reserve (R27, R339). -/
def flushItem (c : Cmd) (n : Nat) (i : Item) (d : Device) : Device :=
  let recs := (itemRecords c i d).map flushForm
  if d.map.flushFree < (recs.map flushBytes).sum + 67108864 then d
  else
    let d := flushWriteAll recs d
    (newCopies i).foldl (fun d x => markPresent x.1 x.2.1 x.2.2 d) (onItem c.id n (fun i => { i with flushed := true }) d)

/-- Every record of an item has been acknowledged by the other peer. -/
def mirrorComplete (i : Item) (d : Device) : Bool :=
  match i.write with
  | none => false
  | some w => match d.peer.mirrors.find? (·.id == w) with
    | some m => m.acked == m.records
    | none => true

/-- Every copy that the item names is PRESENT (R197). -/
def allPresent (i : Item) (d : Device) : Bool :=
  i.chunks.all fun w => w.present ||
    match copyOf i.domain w.fp (w.copy.getD 0) d with
    | some x => x.present
    | none => false

/-- Take an item towards its acknowledgement condition. -/
def ackItem (c : Cmd) (n : Nat) (i : Item) (d : Device) : Device :=
  let mode := ackMode d
  let mirror := mode == .mirror || mode == .mirrorFlush
  let d := if mirror && i.write.isNone then startMirror c n i d else d
  let d := if (mode == .flush || mode == .mirrorFlush) && !i.flushed then flushItem c n i d else d
  let d := if mode == .memory then (newCopies i).foldl (fun d x => markPresent x.1 x.2.1 x.2.2 d) d else d
  match (cmdOf c.id d).bind fun c => c.items[n]? with
  | none => d
  | some i =>
    let met := match mode with
      | .mirror => mirrorComplete i d
      | .mirrorFlush => mirrorComplete i d && i.flushed
      | .flush => i.flushed
      | .memory => true
      | .wait => false
    if met && allPresent i d then onItem c.id n (fun i => { i with ready := true }) d else d

/-! ## Batches across both peers (R39, R137) -/

/-- A command that the other peer coordinates: its home here reports "prepared" and waits for the coordinator's word, which a batch's
share (R39) and a secure delete (R133) need. -/
def isShare (c : Cmd) : Bool := c.fwdFrom.isSome && (c.kind == KvKind.batch || (c.kind == KvKind.delete && isSecure c.sqe))

/-- The keys of a batch that are homed on the other peer. -/
def remoteShare (c : Cmd) (d : Device) : List Nat :=
  if c.kind == KvKind.batch && c.fwdFrom.isNone then
    (List.range (batchCount c.data)).filter fun i => !c.serves (batchKey c.data i) d
  else []

/-- The failure with the lower entry. -/
def lowerFailure (a b : Option (Nat × Nat × Nat)) : Option (Nat × Nat × Nat) :=
  match a, b with
  | some x, some y => if y.2.2 < x.2.2 then b else a
  | none, y => y
  | x, none => x

/-- The first entry of the command that its conditions refuse. -/
def firstRefused (c : Cmd) (d : Device) : Option (Nat × Nat × Nat) :=
  c.items.findSome? fun i =>
    (if i.isDelete then deleteRefused (c.ns d) i.key d else storeRefused (c.ns d) i d).map fun st => (st.sct, st.sc, i.entry)

/-- A failure as a status: its DNR bit as R138 gives it. -/
def failureStatus (f : Nat × Nat × Nat) : Status :=
  if f.1 == 7 then .vendor f.2.1
  else if f.1 == 1 && f.2.1 == 0x86 then .invalidKeySize
  else if f.1 == 1 then ⟨1, f.2.1, false⟩
  else if f.2.1 == 0x02 then .invalidField
  else ⟨f.1, f.2.1, false⟩

/-- The next boundary of the commit groups after now. -/
def nextGroup (d : Device) : Nat := boundaryFrom (d.time.counter + 1) d

/-- The coordinator's word to a prepared share: its commit tick (log 20). -/
def tellTick (f t : Nat) (d : Device) : Device := sendLink (.fwdCompletion f 0 0 false (t % 2 ^ 32) (t / 2 ^ 32) 0) d

/-- Every item is ready: a share reports "prepared"; the coordinator of a batch with a remote share gives the batch its tick
and tells the other home; any other command waits for the next commit group. -/
def writeReady (id : Nat) (d : Device) : Device :=
  match cmdOf id d with
  | none => d
  | some c =>
    if !c.items.all (·.ready) then d
    else if c.kind == KvKind.batch && (!c.kids.isEmpty || !c.gathered) then d
    else
      let d := onCmd id (fun c => { c with readyAt := d.time.counter, phase := .ready }) d
      if isShare c then
        match c.fwdFrom with
        | some f => sendLink (.fwdCompletion f 0 0 false 0 0 0) d
        | none => d
      else match c.kind, c.fwdTo with
        | .batch, some f =>
          let t := nextGroup d
          let d := onCmd id (fun c => { c with tick := some t, fwdTo := none }) d
          let there : BatchTick := ⟨f, c.ns d, (remoteShare c d).map (batchKey c.data ·), some t⟩
          tellTick f t { d with nvme := { d.nvme with batches := d.nvme.batches ++ [there] } }
        | _, _ => d

/-- A failed batch ends. -/
def endFailed (id : Nat) (d : Device) : Device :=
  match cmdOf id d with
  | none => d
  | some c =>
    match c.failure with
    | none => d
    | some f =>
      if !c.kids.isEmpty then d
      else
        let st := failureStatus f
        failCmd id st (if c.kind == KvKind.batch then f.2.2 else 0) d

/-- Send the other peer's share of a batch. -/
def forwardShare (id : Nat) (d : Device) : Device :=
  match cmdOf id d with
  | none => d
  | some c =>
    (forwardPart c c.capsule d).2

/-- Commands executed as home, per bucket (R449). -/
def countHome (keys : List (Nat × Bytes)) (d : Device) : Device :=
  keys.foldl (fun d k =>
    let b := bucketOf k.1 k.2 d
    if homeOf b d != d.side then d
    else { d with peer := { d.peer with
      bucketCounts := tblStore 0 d.peer.bucketCounts b (tblGetD d.peer.bucketCounts b 0 + 1), windowTotal := d.peer.windowTotal + 1 } }) d

/-! ## Lock grant (R128, R133, R137, R232, R261) -/

/-- Keys that a range delete removes, MORE. -/
def rangeKeys (c : Cmd) (d : Device) : List Bytes × Bool :=
  let cap := c.capsule
  let within := fun k : Bytes => match capEnd cap with
    | some e => bytesLt k e
    | none => true
  let mine := keysFrom c.sqe.nsid (capKey cap) false d
  let keys := (mergeKeys mine c.remoteKeys).filter within
  let most := if c.sqe.cdw12 % 65536 == 0 then 65536 else c.sqe.cdw12 % 65536
  (keys.take most, c.more || most < keys.length)

/-- Keys to remove become the items of a command. -/
def removeKeys (id : Nat) (keys left : List Bytes) (d : Device) : Device :=
  onCmd id (fun c => { c with items := keys.map fun k => newItem 0 k [] 0 d.side true, remoteKeys := left, phase := .waitMirror }) d

/-- A range delete goes on: the next keys of one home, in key order, are removed by that home; only then the ones after them (R134). -/
def rangeNext (id : Nat) (d : Device) : Device :=
  match cmdOf id d with
  | none => d
  | some c =>
    match c.remoteKeys with
    | [] => doneCmd id .success c.removed (b2n c.more) [] d
    | k :: _ =>
      let here := c.serves k d
      let run := c.remoteKeys.takeWhile fun x => c.serves x d == here
      let left := c.remoteKeys.drop run.length
      if here then removeKeys id run left d
      else match c.fwdTo with
        | some f =>
          if !linkIsUp d then failCmd id .interrupted 0 d
          else sendLink (.fwdData f 0 (keyList run)) (onCmd id (fun c => { c with remoteKeys := left, kids := [f], phase := .forwarded }) d)
        | none => failCmd id .interrupted 0 d

/-- A range delete holds its locks and has the other peer's keys: every key is checked before any is removed. -/
def startRangeDelete (id : Nat) (d : Device) : Device :=
  match cmdOf id d with
  | none => d
  | some c =>
    let ns := c.ns d
    let r := rangeKeys c d
    if c.fwdFrom.isSome then answerRange c r.1 r.2 d
    else if d.stripe.readOnly then failCmd id (.vendor 0xC5) 0 d
    else if r.1.any fun k => denyDelete (policyOf ns k d) then failCmd id (.vendor 0xC2) 0 d
    else
      rangeNext id (onCmd id (fun c => { c with remoteKeys := r.1, more := r.2 }) d)

/-- The range command as the other peer gets it: a List may return one key more there, so that what fits here is settled. -/
def rangePart (c : Cmd) : Capsule :=
  if isRange c.sqe then c.capsule
  else
    let most := c.sqe.cdw12 % 65536
    let s := { c.sqe with cdw10 := c.sqe.cdw10 + 2048, cdw12 := c.sqe.cdw12 - most + (if most == 0 then 0 else (most + 1) % 65536) }
    ⟨s, c.data, blockBytes s⟩

/-- The other peer locks the command's range and gives its keys (R148). -/
def gatherRange (id : Nat) (d : Device) : Device :=
  match cmdOf id d with
  | none => d
  | some c =>
    setPhase id .forwarded (forwardPart c (rangePart c) d).2

/-- A command whose locks here are all held evaluates its conditions and goes on. -/
def granted (id : Nat) (d : Device) : Device :=
  match cmdOf id d with
  | none => d
  | some c =>
    if isRangeCmd c.sqe then
      (if !c.gathered then gatherRange id d else if c.kind == KvKind.list then doList id d else startRangeDelete id d)
    else if !c.dataHere then d
    else if d.stripe.readOnly then failCmd id (.vendor 0xC5) 0 d
    else
      let d := if isShare c && c.kind == KvKind.batch then countHome ((itemsOf c d).map fun i => (c.ns d, i.key)) d else d
      let d := onCmd id (fun x => { x with items := itemsOf x d }) d
      match cmdOf id d with
      | none => d
      | some c =>
        let f := firstRefused c d
        let d := onCmd id (fun c => { c with failure := lowerFailure c.failure f }) d
        let d := if c.kind == KvKind.batch && !c.gathered && c.kids.isEmpty then forwardShare id d else d
        if (lowerFailure c.failure f).isSome then endFailed id (setPhase id .forwarded d)
        else if c.kind == KvKind.delete && isSecure c.sqe && c.fwdFrom.isNone && c.slot.isNone then
          (match takeSlot 1 (.erasure (c.ns d) [] [] []) (some c.q.port) d with
           | some r => startReduce id (onCmd id (fun c => { c with slot := some r.1 }) r.2)
           | none => failCmd id .interrupted 0 d)
        else startReduce id d

/-! ## Commit (R20, R37, R40, R204, R205, R210, R211) -/

/-- The references of an item's manifest take effect. -/
def commitClaims (c : Cmd) (i : Item) (d : Device) : Device :=
  match manifestOf i.mseq d with
  | some m => if i.isDelete then d else commitRefs m c.id d
  | none => d

/-- An item's version takes effect at tick `t`. -/
def commitItem (c : Cmd) (t : Nat) (i : Item) (d : Device) : Device :=
  let ns := c.ns d
  let mirrors := d.peer.mirrors.map fun w => if some w.id == i.write then { w with tick := some t } else w
  let d := { d with peer := { d.peer with mirrors := mirrors } }
  applyVersion ns i.key ⟨t, i.mseq, i.isDelete, false⟩ (noteFlushTick ns i.key t d)

/-- The classes of R211. -/
inductive SortClass where
  | listed | shared | snapshot | pinned
  deriving DecidableEq, Repr

/-- The class of a count. -/
def countClass (refs : Nat) (dead : Bool) : SortClass :=
  if refs == refMax then .pinned else if dead || refs == 0 then .listed else .shared

/-- How R211 sorts a copy that a securely deleted manifest named; none: the other peer owns its entry, and tells the count in a journal
record (log 58). -/
def sortCopy (held : Bool) (dom : Nat) (ch : ChunkRef) (d : Device) : Option SortClass :=
  if entryHere dom ch.fp ch.copy d then
    match copyOf dom ch.fp ch.copy d with
    | some x =>
      if x.pinned then some .pinned
      else if x.dead then some .listed
      else if held then some .snapshot
      else some (countClass x.refs false)
    | none => some .listed
  else if held then some .snapshot
  else none

/-- The copies of a manifest, each once. -/
def distinctChunks (m : Manifest) : List ChunkRef :=
  m.chunks.foldl (fun acc c => if acc.any fun x => x.fp == c.fp && x.copy == c.copy then acc else acc ++ [c]) []

/-- A copy of the command's manifest is sorted. -/
def noteSort (x : Nat × Bytes × Nat) (k : Option SortClass) (c : Cmd) : Cmd :=
  let r := c.retained
  match k with
  | none => { c with unsorted := c.unsorted ++ [x] }
  | some .listed => { c with listed := c.listed ++ [x] }
  | some .shared => { c with retained := (r.1 + 1, r.2) }
  | some .snapshot => { c with retained := (r.1, r.2.1 + 1, r.2.2) }
  | some .pinned => { c with retained := (r.1, r.2.1, r.2.2 + 1) }

/-- The stripes that hold a unit of a copy, where it lies and where it lay before (R212). -/
def copyStripes (x : Nat × Bytes × Nat) (d : Device) : List Nat :=
  match copyOf x.1 x.2.1 x.2.2 d with
  | some c => c.extents.map (·.stripe) ++ c.past
  | none => []

/-- The erasure starts in its slot: its work list is recorded, and the slot runs. -/
def startErasure (slot ns : Nat) (copies : List (Nat × Bytes × Nat)) (stripes : List Nat) (d : Device) : Device :=
  let d := journalRecord (.erasureList slot copies) d
  onSlot slot (fun s => { s with
    state := 2, op := .erasure ns (copies.map fun c => (c.1, leNat c.2.1, c.2.2)) [] stripes.eraseDups, entered := d.time.now }) d

/-- Completion dword 0 of a secure delete (R133). -/
def secureWord (slot retained : Nat) (d : Device) : Nat := min retained 0x3FFFF * 2 ^ 14 + slotHandle slot d

/-- What a secure delete's sort has given: the retained counts, the work list, the stripes of its copies. -/
structure Sorted where
  retained : Nat × Nat × Nat
  listed : List (Nat × Bytes × Nat)
  stripes : List Nat
  deriving DecidableEq, Repr

def Sorted.kept (x : Sorted) : Nat := x.retained.1 + x.retained.2.1 + x.retained.2.2

/-- The three retained counts as the erasure's record has them. -/
def Sorted.counts (x : Sorted) : Bytes := leBytes 8 x.retained.1 ++ leBytes 8 x.retained.2.1 ++ leBytes 8 x.retained.2.2

/-- A forwarded secure delete returns its sorting: three counts, the copies under their number, the stripes (log 57). -/
def erasureBytes (x : Sorted) : Bytes :=
  x.counts ++ leBytes 8 x.listed.length ++ (x.listed.flatMap fun y => leBytes 4 y.1 ++ leBytes 4 y.2.2 ++ padTo 32 y.2.1)
    ++ x.stripes.flatMap (leBytes 8)

def erasureOf (bs : Bytes) : Sorted :=
  let n := leAt bs 24 8
  { retained := (leAt bs 0 8, leAt bs 8 8, leAt bs 16 8)
    listed := (List.range n).map fun i => (leAt bs (32 + 40 * i) 4, slice bs (40 + 40 * i) 32, leAt bs (36 + 40 * i) 4)
    stripes := (List.range ((bs.length - 32 - 40 * n) / 8)).map fun i => leAt bs (32 + 40 * n + 8 * i) 8 }

/-- A secure delete is done: the erasure starts in its slot, the completion says what was retained. -/
def secureDone (id slot ns : Nat) (x : Sorted) (d : Device) : Device :=
  let d := onSlot slot (fun s => { s with results := x.counts }) (startErasure slot ns x.listed x.stripes d)
  doneCmd id (if x.kept == 0 then .success else .vendor 0xC7) (secureWord slot x.kept d) 0 [] d

/-- A secure delete whose key has gone ends when every copy is sorted and located: here with its erasure, or with its sorting for the
coordinator. -/
def secureSorted (id : Nat) (d : Device) : Device :=
  match cmdOf id d with
  | none => d
  | some c =>
    let locating := d.peer.reqs.any fun r => match r.what with
      | .locate x _ _ _ => x == id
      | _ => false
    if !c.unsorted.isEmpty || locating then d
    else
      let x : Sorted := ⟨c.retained, c.listed, c.listed.flatMap (copyStripes · d) ++ c.found⟩
      match c.slot with
      | some s => secureDone id s (c.ns d) x d
      | none => doneCmd id (if x.kept == 0 then .success else .vendor 0xC7) x.kept 0 (erasureBytes x) d

/-- The count of a copy at its owner after a secure delete's decrement has come here: what waits for it is sorted (R211). -/
def sortMirrored (x : Nat × Bytes × Nat) (refs : Nat) (dead : Bool) (d : Device) : Device :=
  let open_ := d.peer.reqs.any fun r => r.what == .decrement && r.domain == x.1 && r.fp == x.2.1 && r.copy == x.2.2
  if open_ then d
  else
    let ids := (d.nvme.cmds.filter (·.unsorted.contains x)).map (·.id)
    let d := ids.foldl (fun d id =>
      onCmd id (fun c => noteSort x (some (countClass refs dead)) { c with unsorted := c.unsorted.filter (· != x) }) d) d
    ids.foldl (fun d id => secureSorted id d) d

/-- A takeover has given this device every entry: what waited for the other peer's count is sorted by the count here. -/
def sortHere (d : Device) : Device :=
  let ids := (d.nvme.cmds.filter fun c => !c.unsorted.isEmpty).map (·.id)
  ids.foldl (fun d id => secureSorted id (onCmd id (fun c => c.unsorted.foldl (fun c x =>
    noteSort x (some ((sortCopy false x.1 ⟨x.2.1, x.2.2, 0⟩ d).getD .listed)) c) { c with unsorted := [] }) d)) d

/-- Ask where a copy lies of which the other peer has the entry (R212). -/
def askPlace (id : Nat) (x : Nat × Bytes × Nat) (d : Device) : Device :=
  let r := newReq (.locate id x.1 x.2.1 x.2.2) x.1 x.2.1 x.2.2 d
  sendLink (.fpRequest r.1 x.1 5 x.2.1 x.2.2 []) r.2

/-- The link is back: the copies still unsorted are asked for again. -/
def askAgain (d : Device) : Device :=
  d.nvme.cmds.foldl (fun d c => c.unsorted.foldl (fun d x => askPlace c.id x d) d) d

/-- Sort the copies of a removed manifest (R211); the other peer is asked where those lie of which it has the entry (R212). -/
def sortErasure (id : Nat) (m : Manifest) (d : Device) : Device :=
  let held := (manifestOf m.seq d).isSome
  (distinctChunks m).foldl (fun d ch =>
    let k := sortCopy held m.domain ch d
    let d := onCmd id (noteSort (m.domain, ch.fp, ch.copy) k) d
    if k.isSome || !linkIsUp d then d else askPlace id (m.domain, ch.fp, ch.copy) d) d

/-- The manifest that a secure delete's key names. -/
def namedManifest (c : Cmd) (d : Device) : Option Manifest :=
  if c.kind == KvKind.delete && isSecure c.sqe then
    (c.items.head?.bind fun i => liveVersion (c.ns d) i.key d).bind fun v => manifestOf v.mseq d
  else none

/-- The versions of a command take effect, with the marker of a batch (R39). -/
def commitVersions (t : Nat) (d : Device) (c : Cmd) : Device :=
  let t := c.tick.getD t
  let d := c.items.foldl (fun d i => commitItem c t i d) d
  if c.kind == KvKind.batch then journalRecord (.batchCommit t c.items.length) d else d

/-- A range command's keys have been removed: it goes on, or its part tells the coordinator; a part that the link has cut off ends. -/
def rangeRemoved (c : Cmd) (d : Device) : Device :=
  let n := c.items.length
  let d := onCmd c.id (fun c => { c with items := [], removed := c.removed + n, phase := .forwarded }) d
  match c.fwdFrom with
  | none => rangeNext c.id d
  | some f => if linkIsUp d then sendLink (.fwdCompletion f 0 0 false n 0 0) d else removeCmd c d

/-- A command whose versions have taken effect completes. -/
def commitDone (named : Option Manifest) (id : Nat) (d : Device) : Device :=
  match cmdOf id d with
  | none => d
  | some c =>
    if isRange c.sqe then rangeRemoved c d
    else if c.kind == KvKind.delete && isSecure c.sqe then
      let d := onCmd id (fun c => { c with items := [], phase := .forwarded }) d
      secureSorted id (match named with
        | some m => sortErasure id m d
        | none => d)
    else if isShare c then removeCmd c d
    else doneCmd id .success 0 0 [] d

/-- A command commits in the group of tick `t`: its condition was met before that boundary, or its coordinator has given it a tick
that has come (R20, R39). -/
def commitsAt (t : Nat) (c : Cmd) : Bool :=
  c.phase == .ready && (match c.tick with
    | some k => k ≤ t
    | none => !isShare c && c.readyAt < t)

/-- A commit group gives its tick to the writes that wait for it: every reference counts before any goes, and what a secure delete leaves
is sorted after both (R205, R211). -/
def commitWrites (t : Nat) (d : Device) : Device :=
  let cs := d.nvme.cmds.filter (commitsAt t)
  let named := cs.map fun c => (c.id, namedManifest c d)
  let d := cs.foldl (fun d c => c.items.foldl (fun d i => commitClaims c i d) d) d
  let d := cs.foldl (commitVersions t) d
  named.foldl (fun d x => commitDone x.2 x.1 d) d

/-- The power-fail commit group gives tick `t` to every write that has met its condition and has no earlier tick (R47). -/
def givePowerFailTick (t : Nat) (d : Device) : Device :=
  let late := fun k : Option Nat => k.map (min t)
  let give := fun c : Cmd =>
    if c.phase != .ready then c else match c.tick with
      | some k => { c with tick := some (min k t) }
      | none => if isShare c then c else { c with tick := some t }
  { d with nvme := { d.nvme with
      cmds := d.nvme.cmds.map give, batches := d.nvme.batches.map fun b => { b with tick := late b.tick } } }

/-! ## Progress -/

/-- A chunk of an item that was settled has come back to be stored here: the records that went without it are dropped, and the item
mirrors its records again (R198). -/
def reopenItem (c : Cmd) (n : Nat) (i : Item) (d : Device) : Device :=
  let d := match i.write with
    | some w => sendLink (.mirrorRelease [w]) { d with peer := { d.peer with mirrors := d.peer.mirrors.filter (·.id != w) } }
    | none => d
  onItem c.id n (fun i => { i with write := none, flushed := false, ready := false }) (releaseFlushed (c.ns d) i d)

/-- Items whose chunks are no longer all stored. -/
def reopened (c : Cmd) : List (Item × Nat) := c.items.zipIdx.filter fun x => !x.1.isDelete && !x.1.settled

/-- Take a write that is being reduced or awaits its acknowledgement one stage on. -/
def driveWrite (id : Nat) (d : Device) : Device :=
  match cmdOf id d with
  | none => d
  | some c =>
    match c.phase with
    | .reducing | .waitClaims =>
      if c.failure.isSome then endFailed id d
      else
        let d := c.items.zipIdx.foldl (fun d x => driveItem c x.2 x.1 d) d
        (match cmdOf id d with
         | none => d
         | some c =>
           if c.items.all (·.settled) then
             setPhase id .waitMirror (c.items.zipIdx.foldl (fun d x => writeManifest c x.2 x.1 d) d)
           else if c.items.any fun i => i.chunks.any fun w => w.req.isSome then setPhase id .waitClaims d
           else setPhase id .reducing d)
    | .waitMirror | .waitPresent =>
      if c.failure.isSome then endFailed id d
      else if !(reopened c).isEmpty then
        setPhase id .reducing ((reopened c).foldl (fun d x => reopenItem c x.2 x.1 d) d)
      else
        let d := c.items.zipIdx.foldl (fun d x => if x.1.ready then d else ackItem c x.2 x.1 d) d
        (match cmdOf id d with
         | none => d
         | some c =>
           let late := c.items.any fun i => !i.ready && mirrorComplete i d
           writeReady id (setPhase id (if late then .waitPresent else .waitMirror) d))
    | _ => d

end Sys2Proof.Machine
end

