-- ==== Sys2Proof/Machine/PowerBase.lean ====
section
/-! DEFINITION. Power domains and power states: what is on, the effective state, entering and leaving PS_2 and PS_3
(R541 to R548, R174, R240, R503). -/

namespace Sys2Proof.Machine

/-! ## Domains (R541, R565) -/

def domainOn (n : Nat) (d : Device) : Bool := bit (odVal 0x2210 1 d) n
def domainFaulty (n : Nat) (d : Device) : Bool := bit (odVal 0x2210 2 d) n

/-- Switch a domain on or off; a faulty one stays off. -/
def setDomain (n : Nat) (on : Bool) (d : Device) : Device :=
  odPut 0x2210 1 (setBit (odVal 0x2210 1 d) n (on && !domainFaulty n d)) d

def setStandby (n : Nat) (b : Bool) (d : Device) : Device := odPut 0x2210 3 (setBit (odVal 0x2210 3 d) n b) d

/-- Groups bound to a profile. -/
def boundGroups (d : Device) : List Nat := (List.range 16).filter fun g => (profileOf g d).isSome

/-! ## Clusters and the search engine (R240, R503) -/

/-- A running cluster that has power is loaded from the DRAM copy of the store image; its engines start at address 0. -/
def loadCluster (c : Nat) (d : Device) : Device :=
  if clusterStopped c d || domainFaulty (16 + c) d || domainOn (16 + c) d then d
  else
    let engines := d.eng.engines.zipIdx.map fun e =>
      if clusterOf e.2 == c && e.1.st != 3 then { e.1 with st := 0, ctx := SeqCtx.blank, parked := none } else e.1
    setDomain (16 + c) true { d with eng := { d.eng with
      engines := engines, image := modNth d.eng.image c fun _ => d.eng.dramImage } }

def loadClusters (d : Device) : Device := (List.range 4).foldl (fun d c => loadCluster c d) d

/-- A gated cluster loses its control stores. -/
def gateCluster (c : Nat) (d : Device) : Device :=
  let engines := d.eng.engines.zipIdx.map fun e =>
    if clusterOf e.2 == c && e.1.st != 3 then { e.1 with st := 4, ctx := SeqCtx.blank, parked := none } else e.1
  setDomain (16 + c) false { d with eng := { d.eng with engines := engines, image := modNth d.eng.image c fun _ => [] } }

/-- The search engine reloads the types 1 and 2 from their DRAM copy; the hot set restarts empty. -/
def loadSearch (d : Device) : Device :=
  let d := setDomain 20 true (setDomain 21 true d)
  if domainFaulty 20 d || domainFaulty 21 d then d
  else bumpVersion 0x2B20 { d with cam := { d.cam with entries := d.cam.dram, powered := true } }

/-- The search engine is switched off: every entry is cleared. -/
def gateSearch (d : Device) : Device :=
  let d := setDomain 20 false (setDomain 21 false d)
  bumpVersion 0x2B20 { d with cam := { d.cam with entries := [], powered := false } }

/-! ## Group power (R424, R542) -/

/-- Firmware places GROUP_POWER_UP for every bound group: CG_g follows g × OD 0x2C00:08 after the first hand-over tick. -/
def placeGroupsUp (paired : Bool) (d : Device) : Device :=
  let t0 := nextHandoverTick d
  let gap := odVal 0x2C00 8 d
  (boundGroups d).foldl (fun d g =>
    let e := firmwareEntry 0x08 (0x0380 + g) 0 (t0 + g * gap) false
    if paired then placePaired e .firmware d else placeLocal e d) d

/-- GROUP_POWER_DOWN for every group at one hand-over tick. -/
def placeGroupsDown (d : Device) : Device :=
  let t0 := nextHandoverTick d
  ((List.range 16).filter fun g => domainOn g d).foldl (fun d g => placeLocal (firmwareEntry 0x09 (0x0380 + g) 0 t0 false) d) d

/-! ## The effective state (R547) -/

/-- Two fans are lost at once; a fan in state 8 counts (R579). -/
def fansLost (d : Device) : Nat := (d.fans.filter fun f => f.lost || f.st == 8).length

/-- Forcing reasons. -/
def forcing (d : Device) : Nat := b2n (2 ≤ fansLost d) + 2 * b2n (d.power.throttle == 4)

/-- The deepest of the requested state, the state of APST, and PS_1 while a forcing reason holds. -/
def effective (d : Device) : Nat := max (max (odVal 0x2220 1 d) d.power.apst) (if forcing d == 0 then 0 else 1)

/-- GROUP_POWER_DOWN entries that have not launched are cancelled: the entry that placed them is abandoned (R548). -/
def cancelGroupsDown (d : Device) : Device :=
  let down := d.board.entries.filter fun e => e.2.state == 1 && e.2.action == 0x09
  let d := down.foldl (fun d e => putEntry e.1 { e.2 with state := 3 } d) d
  { d with board := { d.board with waiting := d.board.waiting.filter (·.body.action != 0x09) } }

/-- Leave PS_2 or PS_3: the units come back, from PS_3 the groups on their schedule. -/
def leaveLow (d : Device) : Device :=
  let d := cancelGroupsDown d
  let deep := d.power.entering.isNone && (List.range 16).any fun g => (profileOf g d).isSome && !domainOn g d
  let d := { d with power := { d.power with entering := none } }
  let d := (List.range 16).foldl (fun d g => if bit (odVal 0x2210 3 d) g then setStandby g false d else d) d
  let d := loadClusters d
  let d := if d.cam.powered then d else loadSearch d
  if deep then placeGroupsUp false d else d

/-- Enter PS_2 or deeper: gathering stripes close, and the checkpoint of R335 runs (R548). -/
def enterLow (n : Nat) (d : Device) : Device :=
  let d := { d with power := { d.power with entering := some n } }
  let d := closeGathers (fun _ => true) d
  if d.map.checkpoint.isSome then { d with map := { d.map with checkpointAgain := true } } else checkpointBegin d

/-- Take over the effective state. `cause`: 0 request, 1 APST, 2 forcing, 3 I/O. -/
def refreshEff (cause : Nat) (d : Device) : Device :=
  let d := odPut 0x2220 2 (forcing d) d
  let old := d.power.eff
  let new := effective d
  if old == new then d
  else
    let d := { d with power := { d.power with eff := new, idleSince := d.time.now, operational := if new < 2 then new else d.power.operational } }
    let d := logEvent 0x1202 0x0071 0 (cause * 65536 + old * 256 + new) (odPut 0x2010 2 new d)
    if new < 2 then (if old < 2 then d else leaveLow d) else enterLow new d

/-- I/O activity: in PS_2 or PS_3 the device returns to its last operational state (R174, R547). -/
def ioActivity (d : Device) : Device :=
  let d := { d with power := { d.power with idleSince := d.time.now } }
  if d.power.eff < 2 || 4 ≤ d.power.eff then d
  else refreshEff 3 (odPut 0x2220 1 d.power.operational { d with power := { d.power with apst := 0 } })

/-- Fetching goes on: the engines, the search engine and the lowest-numbered bound group are ready (R548). -/
def fetchReady (d : Device) : Bool :=
  d.power.eff < 2 && d.power.entering.isNone && (match (boundGroups d).head? with
    | some g => groupOn g d
    | none => true)

/-! ## Fatal errors (R593, R594) -/

/-- Firmware declares a fatal error: FREEZE in entry 0 at the counter plus 16 ticks; a first cause stands. -/
def declareFatal (cause : Nat) (d : Device) : Device :=
  if d.power.fatal.isSome then d
  else
    let e := { firmwareEntry 0x06 0xFFFF cause (d.time.counter + 16) true with paired := false }
    putEntry 0 e { d with power := { d.power with fatal := some cause } }

/-! ## World violations (R520, R522) -/

/-- A refused non-secure transaction: counted, its address and initiator recorded, event 0x1101 at most once a second. -/
def worldViolation (initiator addr : Nat) (d : Device) : Device :=
  let v := initiator % 256 * 2 ^ 56 + addr % 2 ^ 48
  let d := odPut 0x3200 6 v (odBump 0x3200 1 1 d)
  let due := match d.sec.violationAt with
    | none => true
    | some t => t + sec 1 ≤ d.time.now
  if due then logEvent 0x1101 0x0072 2 v { d with sec := { d.sec with violationAt := some d.time.now } } else d

/-- A DRAM address lies in a secure region (R523). -/
def secureAddr (addr : Nat) (d : Device) : Bool :=
  (List.range 64).any fun n =>
    let r := odVal 0x3230 (n + 1) d
    bit r 0 && bits r 63 44 * 2 ^ 20 ≤ addr && addr < (bits r 63 44 + bits r 43 24) * 2 ^ 20

/-! ## Ports: lanes and link (R96, R98, R99) -/

/-- 0 disabled, 1 host, 2 replication. -/
def portMode (p : Nat) (d : Device) : Nat := portOd p 1 d
/-- Line rate code of R96 halves from code to code: lanes 4, 2, 1. -/
def portLanes (p : Nat) (d : Device) : Nat := 4 / 2 ^ portOd p 2 d

/-- The lanes that a port keeps powered: those of its speed, none while its mode is 0 or NET is off. The SerDes is powered so, and the
transmitters of its other lanes are held in electrical idle. -/
def powerPort (p : Nat) (d : Device) : Device :=
  let lanes := if portMode p d == 0 || !domainOn 22 d || !isUp d then 0 else portLanes p d
  onPort p (fun x => { x with lanes := lanes }) d

def setLink (p st : Nat) (d : Device) : Device := odPut (0x2300 + p) 3 st (onPort p (fun x => { x with link := st }) d)

/-- Bring an enabled port up: its lanes are powered and train. -/
def trainPort (p : Nat) (d : Device) : Device :=
  let d := powerPort p d
  if (portOf p d).lanes == 0 then d else setLink p 1 d

/-- Every enabled port is brought up (R98). -/
def portsTrain (d : Device) : Device := (List.range 8).foldl (fun d p => trainPort p d) d

end Sys2Proof.Machine
end

