-- ==== Sys2Proof/Machine/KvRun.lean ====
section
/-! DEFINITION. How commands arrive, are fetched, start and go on: arbitration, stalls, ordering and progress (R139 to
R153, R18, R25, R27, R152). -/

namespace Sys2Proof.Machine

/-! ## Starting a command (R18, R25, R137, R148, R152) -/

/-- The command's locks stand in this table, or it has room for them (R150); they are known once the keys are here. -/
def lockRoom (c : Cmd) (d : Device) : Bool :=
  !(locksOf c.id d).isEmpty ||
    ((c.kind != .batch || c.dataHere) && d.nvme.locks.length + (locksAt d.side c.id c.capsule d).length ≤ Config.lockEntries)

/-- The command's locks enter this table, unless they were reserved there. -/
def ensureLocks (id : Nat) (d : Device) : Device :=
  match cmdOf id d with
  | none => d
  | some c => if (locksOf id d).isEmpty then setLocks (d.nvme.locks ++ locksAt d.side id c.capsule d) d else d

/-- The command asks for its locks here, and waits until all are held. -/
def askLocks (id : Nat) (d : Device) : Device := requestLocks id (ensureLocks id (setPhase id .waitLocks d))

/-- A key-changing command or a read, at its home. -/
def startHere (c : Cmd) (d : Device) : Device :=
  let d := countHome [(c.ns d, capKey c.capsule)] d
  match c.kind with
  | .retrieve => startRead c.id d
  | .exist => startRead c.id d
  | _ => askLocks c.id d

/-- A command on one key. -/
def startSingle (c : Cmd) (d : Device) : Device :=
  if c.fwdFrom.isSome || c.stay.contains (bucketOf (c.ns d) (capKey c.capsule) d) then startHere c d
  else match routeOf (bucketOf (c.ns d) (capKey c.capsule) d) d with
    | .here => startHere c d
    | .forward => forwardCmd c.id d
    | .drain => setPhase c.id .waitBucket d
    | .refuse st => failCmd c.id st 0 d

/-- The first entry of a batch whose home cannot be reached. DESIGN CHOICE (log 221): its index is completion dword 0. -/
def batchRefused (c : Cmd) (d : Device) : Option (Nat × Status) :=
  (remoteShare c d).findSome? fun i =>
    match routeOf (bucketOf (c.ns d) (batchKey c.data i) d) d with
    | .refuse st => some (i, st)
    | _ => none

def batchDrains (c : Cmd) (d : Device) : Bool :=
  (List.range (batchCount c.data)).any fun i => routeOf (bucketOf (c.ns d) (batchKey c.data i) d) d == .drain

/-- A batch: side A takes its own locks first, side B has the other peer prepare its share first (log 20). -/
def startBatch (c : Cmd) (d : Device) : Device :=
  let keys := (List.range (batchCount c.data)).map fun i => (c.ns d, batchKey c.data i)
  if c.fwdFrom.isSome then askLocks c.id (onCmd c.id (fun c => { c with gathered := true }) d)
  else if (remoteShare c d).isEmpty then
    askLocks c.id (onCmd c.id (fun c => { c with gathered := true }) (countHome keys d))
  else match batchRefused c d with
    | some (i, st) => failCmd c.id st i d
    | none =>
      if batchDrains c d then setPhase c.id .waitBucket d
      else if d.side == 0 then askLocks c.id (countHome keys d)
      else forwardShare c.id (setPhase c.id .forwarded d)

/-- A List or range delete: with a serving peer its locks stand in both tables, side A's first (R148, R149); a peer that does not serve, or
whose takeover is not complete, refuses it (R152). -/
def startRange (c : Cmd) (d : Device) : Device :=
  if c.fwdFrom.isSome || servesAll d then askLocks c.id (onCmd c.id (fun c => { c with gathered := true }) d)
  else if pairUp d then (if d.side == 0 then askLocks c.id d else gatherRange c.id d)
  else failCmd c.id (if d.peer.takeover.isSome then .vendor 0xC3 else .interrupted) 0 d

/-- Start a command that its queue's order lets start. -/
def startCmd (id : Nat) (d : Device) : Device :=
  match cmdOf id d with
  | none => d
  | some c =>
    if isRangeCmd c.sqe then startRange c d
    else if c.kind == KvKind.batch then startBatch c d
    else startSingle c d

/-! ## Progress -/

/-- Take a command one stage on, if what it waits for has come. -/
def stepCmd (d : Device) (id : Nat) : Device :=
  match cmdOf id d with
  | none => d
  | some c =>
    if powerFailing d && c.phase != .waitMirror && c.phase != .waitPresent then d
    else match c.phase with
    | .waitOrder => if c.parent.isNone && canStart c d && (lockRoom c d || !c.locks) then startCmd id d else d
    | .waitLocks => if allHeld id d then granted id d else d
    | .waitMap => if (lackingPage c d).isNone then startRead id d else d
    | .waitBucket => startCmd id d
    | .reducing => driveWrite id d
    | .waitClaims => driveWrite id d
    | .waitMirror => driveWrite id d
    | .waitPresent => driveWrite id d
    | .ready => d
    | .reading => d
    | .forwarded => d

def settleOnce (d : Device) : Device := (d.nvme.cmds.map (·.id)).foldl stepCmd d

/-- Where the commands stand. -/
def phases (d : Device) : List (Nat × Phase) := d.nvme.cmds.map fun c => (c.id, c.phase)

/-- Passes until the commands stand still. -/
def settleFrom : Nat → Device → Device
  | 0, d => d
  | n + 1, d =>
    let e := settleOnce d
    if phases e == phases d then e else settleFrom n e

/-- Every command goes on as far as what has come lets it. -/
def settle (d : Device) : Device := settleFrom (8 * d.nvme.cmds.length + 1) (settleOnce (settleOnce d))

/-! ## What holds a head command back (R153) -/

/-- Code of a queue in the table of reservations at the other peer. -/
def queueCode (q : QueueRef) : Nat := (q.port * 65536 + q.assoc) * 65536 + q.qid

/-- A reservation at the other peer for the head of a queue: forward id, made. -/
def reservation (q : QueueRef) (d : Device) : Option (Nat × Bool) :=
  (d.nvme.remoteLocks.find? (·.1 == queueCode q)).map (·.2)

def dropReservation (q : QueueRef) (d : Device) : Device :=
  { d with nvme := { d.nvme with remoteLocks := d.nvme.remoteLocks.filter (·.1 != queueCode q) } }

/-- Locks that a capsule needs at the other peer. -/
def remoteLocksOf (c : Capsule) (d : Device) : List Lock :=
  if pairUp d then locksAt (1 - d.side) 0 c d else []

/-- I/O commands outstanding here, from fetch to completion (R139). -/
def outstanding (d : Device) : Nat := (d.nvme.cmds.filter fun c => c.fwdFrom.isNone && c.parent.isNone && c.q.port < 8).length

/-- Data of writes fetched and not yet in the flush area, whatever they wait for (R27). -/
def unflushed (d : Device) : Nat :=
  (d.nvme.cmds.map fun c =>
    if changesStore c.sqe && c.parent.isNone && (c.items.isEmpty || !c.items.all (·.flushed)) then max c.data.length (valueSize c.sqe) else 0).sum

/-- Room for dirty data: half the limit, no more than the room that the peer offers, beside a serving peer (R452). -/
def dirtyRoom (d : Device) : Nat :=
  if d.peer.st == 1 then min (d.power.dirtyLimit / 2) (d.peer.peerRoom * 2 ^ 20) else d.power.dirtyLimit

/-- Write fetching stops (R27). -/
def writesStop (d : Device) : Bool :=
  if writeThrough d then d.map.flushFree - 67108864 ≤ unflushed d else dirtyRoom d ≤ dirtyBytes d

/-- Why a head command is not fetched. -/
inductive Stall where
  | device | locks | remote | dirty
  deriving DecidableEq, Repr

/-- The device fetches no I/O command; a refused one fetches to answer each with status 0xC3 (R446). -/
def fetchClosed (d : Device) : Bool :=
  if d.peer.st == 7 then !isUp d || powerFailing d || d.power.frozenAt.isSome
  else !isReady d || powerFailing d || d.power.frozenAt.isSome || d.peer.st == 6 || !fetchReady d

/-- What holds back the head of a queue; a command that fails its field checks needs nothing. -/
def stallOf (q : SubQueue) (c : Capsule) (d : Device) : Option Stall :=
  if fetchClosed d || q.ordHold.isSome || 32768 ≤ outstanding d then some .device
  else if (fieldCheck q.ref.port c d).isSome then none
  else if Config.lockEntries < d.nvme.locks.length + (locksAt d.side 0 c d).length then some .locks
  else if !(remoteLocksOf c d).isEmpty && (reservation q.ref d).map (·.2) != some true then some .remote
  else if changesStore c.sqe && writesStop d then some .dirty
  else none

/-- A queue whose head command can be fetched. -/
def fetchable (d : Device) (q : SubQueue) : Bool :=
  match q.slots with
  | [] => false
  | c :: _ => (stallOf q c d).isNone

/-- The queue stands: a stall for lock entries is counted once, and a reservation that the head lacks at the other peer is asked for. -/
def noteStall (r : QueueRef) (d : Device) : Device :=
  match queueOf r d with
  | none => d
  | some q =>
    match q.slots with
    | [] => d
    | c :: _ =>
      match stallOf q c d with
      | some .locks =>
        if q.lockStalled then d else odBump 0x2400 3 1 (onQueue r (fun q => { q with lockStalled := true }) d)
      | some .remote =>
        if (reservation r d).isSome then d
        else
          let f := nextForward d
          let d := { f.2 with nvme := { f.2.nvme with remoteLocks := f.2.nvme.remoteLocks ++ [(queueCode r, f.1, false)] } }
          sendLink (.lockReserve f.1 ((remoteLocksOf c d).map lockIdent)) d
      | _ => d

/-- Write fetching stops, or goes on: each stop is counted once (R154). -/
def noteWrites (d : Device) : Device :=
  let stop := writesStop d
  let d := if stop && !d.nvme.writesStopped then odBump 0x2400 6 1 d else d
  { d with nvme := { d.nvme with writesStopped := stop } }

/-! ## Fetching -/

/-- Class of an I/O queue (R143). -/
def queueClass (r : QueueRef) (d : Device) : Nat := bits (odVal 0x2420 (r.port + 1) d) (2 * r.qid - 1) (2 * r.qid - 2)

/-- Ordered mode of a port. -/
def orderedMode (p : Nat) (d : Device) : Bool := odVal 0x2440 (p + 1) d == 1

/-- Fetch the head command of a queue: the head pointer advances, its locks are reserved, and it starts. -/
def fetchHead (r : QueueRef) (d : Device) : Device :=
  match queueOf r d with
  | none => d
  | some q =>
    match q.slots with
    | [] => d
    | c :: rest =>
      let d := onQueue r (fun q => { q with
        slots := rest, head := (q.head + 1) % max q.size 1, nextSeq := q.nextSeq + 1, lockStalled := false }) d
      match fieldCheck r.port c d with
      | some (st, dw0) =>
        let d := match reservation r d with
          | some x => sendLink (.lockReserve x.1 []) (dropReservation r d)
          | none => d
        complete r c.sqe.tag st dw0 0 [] d
      | none =>
        let d := askData r c d
        let ord := orderedMode r.port d && c.sqe.ord
        let x := addCmd (fun id => { newCmd id r c (queueClass r d) q.nextSeq ord with fwdTo := (reservation r d).map (·.1) }) d
        let d := dropReservation r x.2
        let d := setLocks (d.nvme.locks ++ locksAt d.side x.1 c d) d
        let d := if ord then onQueue r (fun q => { q with ordHold := some x.1 }) d else d
        noteStall r (settle d)

/-! ## Arbitration (R141 to R144) -/

/-- The next of some numbers after the last one served, in turn. -/
def cyclicNext (last : Nat) (l : List Nat) : Nat :=
  let up := l.filter (last < ·)
  let low := fun x : List Nat => x.foldl min (x.headD 0)
  if up.isEmpty then low l else low up

def assocCode (p a : Nat) : Nat := p * 65536 + a

/-- Arbitration of a port: weights and burst (R142). -/
def weights (p : Nat) (d : Device) : Nat × Nat × Nat :=
  let v := odVal 0x2410 (p + 1) d
  (bits v 31 24 + 1, bits v 23 16 + 1, bits v 15 8 + 1)

def burstOf (p : Nat) (d : Device) : Option Nat :=
  let ab := odVal 0x2410 (p + 1) d % 8
  if ab == 7 then none else some (2 ^ ab)

/-- Class that a weighted round serves, and the credit left; a new round when no class with a candidate has credit. -/
def weightedClass (classes : List Nat) (full credit : Nat × Nat × Nat) : Nat × (Nat × Nat × Nat) :=
  let pickFrom := fun c : Nat × Nat × Nat =>
    if classes.contains 1 && 0 < c.1 then some (1, (c.1 - 1, c.2.1, c.2.2))
    else if classes.contains 2 && 0 < c.2.1 then some (2, (c.1, c.2.1 - 1, c.2.2))
    else if classes.contains 3 && 0 < c.2.2 then some (3, (c.1, c.2.1, c.2.2 - 1))
    else none
  match pickFrom credit with
  | some r => r
  | none => (pickFrom full).getD (3, full)

/-- A pick: partner, association and queue in turn among the queues that can be fetched. -/
def pickQueue (d : Device) : Option (QueueRef × Device) :=
  let qs := (d.nvme.queues.filter (fetchable d)).map (·.ref)
  if qs.isEmpty then none
  else
    let a := d.nvme.arb
    let ports := qs.map (·.port)
    let stay := 0 < a.picksLeft && ports.contains a.partner
    let p := if stay then a.partner else cyclicNext a.partner ports
    let left := if stay then a.picksLeft - 1 else odVal 0x2430 (p + 1) d - 1
    let mine := qs.filter (·.port == p)
    let as := cyclicNext (tblGetD a.lastAssoc p 0) (mine.map (·.assoc))
    let code := assocCode p as
    let mine := mine.filter (·.assoc == as)
    let weighted := ((d.ports.assocs.find? fun x => x.port == p && x.assoc == as).map (·.ams)).getD 0 == 1
    let urgent := mine.filter fun q => queueClass q d == 0
    let cls : Nat × Option (Nat × Nat × Nat) :=
      if !weighted then (4, none)
      else if !urgent.isEmpty then (0, none)
      else
        let r := weightedClass (mine.map fun q => queueClass q d) (weights p d) (tblGetD a.credit code (0, 0, 0))
        (r.1, some r.2)
    let cands := if cls.1 == 4 then mine else mine.filter fun q => queueClass q d == cls.1
    let qid := cyclicNext (tblGetD a.lastQueue (code * 8 + cls.1) 0) (cands.map (·.qid))
    let credit := match cls.2 with
      | some c => tblPut a.credit code c
      | none => a.credit
    let q : QueueRef := ⟨p, as, qid⟩
    let a := { a with partner := p, picksLeft := left, lastAssoc := tblPut a.lastAssoc p as
                      lastQueue := tblPut a.lastQueue (code * 8 + cls.1) qid, credit := credit, queue := some q
                      burst := (burstOf p d).map (· - 1) }
    some (q, { d with nvme := { d.nvme with arb := a } })

/-- Fetch one command: the burst of the last pick goes on, or a new pick is made. -/
def commandFetch (d : Device) : Device :=
  let d := noteWrites ((d.nvme.queues.map (·.ref)).foldl (fun d r => noteStall r d) d)
  let a := d.nvme.arb
  let go := match a.queue with
    | some r => if a.burst != some 0 && ((queueOf r d).map (fetchable d)).getD false then some r else none
    | none => none
  match go with
  | some r => fetchHead r { d with nvme := { d.nvme with arb := { a with burst := a.burst.map (· - 1) } } }
  | none =>
    match pickQueue d with
    | some (r, d) => fetchHead r d
    | none => d

def execCommandFetch (s : State) : Host.Outcome State Fault Refusal := next s commandFetch

/-- An I/O capsule arrives in a free slot of its queue; then the next command in arbitration order is fetched, its own queue's or
another's. -/
def ioArrive (r : QueueRef) (c : Capsule) (d : Device) : Device :=
  match queueOf r d with
  | none => d
  | some q =>
    if q.size ≤ q.slots.length || r.qid == 0 then d
    else commandFetch (ioActivity (onQueue r (fun q => { q with slots := q.slots ++ [c] }) d))

/-! ## Locks (R149, R150) -/

/-- The oldest waiting request that conflicts with nothing is granted, and its command goes on. -/
def lockGrant (d : Device) : Device :=
  match d.nvme.locks.find? fun l => l.st == .waiting && grantable l d.nvme.locks with
  | none => d
  | some l =>
    let d := setLocks (d.nvme.locks.map fun x => if x == l then { l with st := .held } else x) d
    settle (requestLocks l.cmd d)

def execLockGrant (s : State) : Host.Outcome State Fault Refusal := next s lockGrant

/-- The entries that a head command needs at the other peer are asked for; once every table has them, the arbiter fetches it in its turn. -/
def execLockReservation (q : QueueRef) (s : State) : Host.Outcome State Fault Refusal := next s fun d => commandFetch (noteStall q d)

/-! ## The Key Value rows: a capsule of each kind arrives in its queue (R122, R126) -/

/-- The capsule with the opcode of a row. -/
def withOp (op : Nat) (c : Capsule) : Capsule := { c with sqe := { c.sqe with opcode := op } }

/-- The capsule with bits of CDW13 set and cleared. -/
def withBits (on off : List Nat) (c : Capsule) : Capsule :=
  let v := on.foldl (fun v n => setBit v n true) c.sqe.cdw13
  { c with sqe := { c.sqe with cdw13 := off.foldl (fun v n => setBit v n false) v } }

def execStore (q : QueueRef) (c : Capsule) (s : State) : Host.Outcome State Fault Refusal := next s (ioArrive q (withOp 0x01 c))
def execRetrieve (q : QueueRef) (c : Capsule) (s : State) : Host.Outcome State Fault Refusal := next s (ioArrive q (withOp 0x02 c))
def execList (q : QueueRef) (c : Capsule) (s : State) : Host.Outcome State Fault Refusal := next s (ioArrive q (withOp 0x06 c))
def execDelete (q : QueueRef) (c : Capsule) (s : State) : Host.Outcome State Fault Refusal :=
  next s (ioArrive q (withBits [] [1] (withOp 0x10 c)))
/-- A secure delete in either form: the long form keeps its opcode. -/
def execSecureDelete (q : QueueRef) (c : Capsule) (s : State) : Host.Outcome State Fault Refusal :=
  next s (ioArrive q (withBits [1] [] (withOp (if c.sqe.opcode == 0x90 then 0x90 else 0x10) c)))
def execExist (q : QueueRef) (c : Capsule) (s : State) : Host.Outcome State Fault Refusal := next s (ioArrive q (withOp 0x14 c))
def execLongKeyStore (q : QueueRef) (c : Capsule) (s : State) : Host.Outcome State Fault Refusal :=
  next s (ioArrive q (withOp 0x81 c))
def execLongKeyRetrieve (q : QueueRef) (c : Capsule) (s : State) : Host.Outcome State Fault Refusal :=
  next s (ioArrive q (withOp 0x82 c))
def execBatchStore (q : QueueRef) (c : Capsule) (s : State) : Host.Outcome State Fault Refusal := next s (ioArrive q (withOp 0x85 c))
def execLongKeyList (q : QueueRef) (c : Capsule) (s : State) : Host.Outcome State Fault Refusal :=
  next s (ioArrive q (withOp 0x86 c))
def execLongKeyDelete (q : QueueRef) (c : Capsule) (s : State) : Host.Outcome State Fault Refusal :=
  next s (ioArrive q (withBits [] [0, 1] (withOp 0x90 c)))
def execLongKeyDeleteRange (q : QueueRef) (c : Capsule) (s : State) : Host.Outcome State Fault Refusal :=
  next s (ioArrive q (withBits [0] [] (withOp 0x90 c)))
def execLongKeyExist (q : QueueRef) (c : Capsule) (s : State) : Host.Outcome State Fault Refusal :=
  next s (ioArrive q (withOp 0x94 c))

end Sys2Proof.Machine
end

