-- ==== Sys2Proof/Machine/KvLink.lean ====
section
/-! DEFINITION. The link messages of commands: forwarding, lock reservations, mirrors, fingerprint requests, units, and
the return of work descriptors and map pages (R18, R23, R36, R150, R151, R193, R196, R203, R330, R452, R453, R491, R624). -/

namespace Sys2Proof.Machine

/-! ## Forwarded commands at the home (R151, R453) -/

/-- This device gave out a forward id or request id. -/
def ownId (f : Nat) (d : Device) : Bool := f / 2 ^ 63 % 2 == d.side

/-- FWD_CMD: the command enters with the locks reserved for it, in submission order. -/
def fwdCmd (m : FwdCmdMsg) (d : Device) : Device :=
  if d.nvme.cmds.any fun c => c.fwdFrom == some m.fwd then d
  else
    let d := ioActivity (odBump 0x2400 5 1 d)
    let x := addCmd (fun id => { newCmd id m.q m.c m.cls m.seq false with fwdFrom := some m.fwd }) d
    settle (setLocks (x.2.nvme.locks.map fun l => if l.fwd == some m.fwd then { l with cmd := x.1 } else l) x.2)

/-- The command that a forward id of this device names: a part first, then a command of a queue. -/
def sentCmd (f : Nat) (d : Device) : Option Cmd :=
  match d.nvme.cmds.find? fun c => c.parent.isSome && c.fwdTo == some f with
  | some c => some c
  | none => d.nvme.cmds.find? fun c => c.fwdFrom.isNone && c.fwdTo == some f

/-- FWD_DATA: value bytes for the home, or returned bytes; for a range delete's part the keys that it removes next. -/
def fwdData (f off : Nat) (data : Bytes) (d : Device) : Device :=
  if ownId f d then
    match sentCmd f d with
    | some c => onCmd c.id (fun c => { c with got := overlay (padTo (max c.got.length (off + data.length)) c.got) off data }) d
    | none => d
  else
    match d.nvme.cmds.find? (·.fwdFrom == some f) with
    | some c =>
      if isRange c.sqe then (if c.phase == .forwarded then settle (removeKeys c.id (keysOfList data) [] d) else d)
      else
      let o := blockBytes c.sqe + off
      settle (onCmd c.id (fun c => { c with data := overlay (padTo (max c.data.length (o + data.length)) c.data) o data }) d)
    | none => d

def execFwdData (h : FrameHdr) (fwd off : Nat) (data : Bytes) (s : State) : Host.Outcome State Fault Refusal :=
  next s (acceptFrame h 2 (fwdData fwd off data))

/-! ## Completions of forwarded commands -/

/-- The coordinator's word (log 20): a prepared share's commit tick, or the end of its command; the end of a range command's part. -/
def shareWord (c : Cmd) (m : FwdCompletionMsg) (d : Device) : Device :=
  if !isShare c then (if isRangeCmd c.sqe then removeCmd c d else d)
  else if m.sct == 0 && m.sc == 0 then
    let t := m.dw0 + m.dw1 * 2 ^ 32
    let there := ((List.range (batchCount c.data)).map (batchKey c.data ·)).filter fun k => !c.serves k d
    let d := if c.kind == KvKind.batch then
        { d with nvme := { d.nvme with batches := d.nvme.batches ++ [⟨m.fwd, c.ns d, there, some t⟩] } }
      else d
    onCmd c.id (fun c => { c with tick := some t }) d
  else removeCmd c (c.items.foldl (fun d i => discardItem c.id i d) d)

/-- A part of a command has been answered by the other peer. -/
def partDone (part : Cmd) (p : Cmd) (m : FwdCompletionMsg) (d : Device) : Device :=
  let ok := m.sct == 0 && m.sc == 0
  let d := onCmd p.id (fun c => { c with kids := c.kids.filter (· != m.fwd) }) d
  let d := if p.kind == KvKind.batch then removeCmd part d else onCmd part.id (fun c => { c with got := [] }) d
  if p.kind == KvKind.batch then
    let d := onCmd p.id (fun c => { c with
      gathered := true
      fwdTo := if ok then c.fwdTo else none
      failure := if ok then c.failure else lowerFailure c.failure (some (m.sct, m.sc, m.dw0)) }) d
    match cmdOf p.id d with
    | none => d
    | some c =>
      if c.phase == .forwarded && (locksOf c.id d).all (·.st == .reserved) then askLocks c.id d
      else if c.failure.isSome then endFailed c.id d
      else d
  else if !p.gathered then
    if !ok then failCmd p.id ⟨m.sct, m.sc, m.dnr⟩ 0 d
    else
      askLocks p.id (onCmd p.id (fun c => { c with remoteKeys := keysOfList part.got, gathered := true, more := bit m.dw1 0 }) d)
  else if !ok then failCmd p.id ⟨m.sct, m.sc, m.dnr⟩ 0 d
  else rangeNext p.id (onCmd p.id (fun c => { c with removed := c.removed + m.dw0 }) d)

/-- The home has checked and prepared a secure delete: its slot is taken here, and the home gets its commit tick; without a free slot the
key stays (R133). -/
def secureSlot (c : Cmd) (f : Nat) (d : Device) : Device :=
  match takeSlot 1 (.erasure (c.ns d) [] [] []) (some c.q.port) d with
  | some r => tellTick f (nextGroup r.2) (onCmd c.id (fun c => { c with slot := some r.1 }) r.2)
  | none =>
    let st := Status.interrupted
    failCmd c.id st 0 (sendLink (.fwdCompletion f st.sct st.sc st.dnr 0 0 0) d)

/-- The completion of a command that went to the other peer whole. -/
def forwardDone (c : Cmd) (m : FwdCompletionMsg) (d : Device) : Device :=
  let st : Status := ⟨m.sct, m.sc, m.dnr⟩
  let ok := m.sct == 0 && m.sc == 0
  if ok && c.kind == KvKind.delete && isSecure c.sqe && c.slot.isNone then secureSlot c m.fwd d
  else
  let d := onCmd c.id (fun c => { c with fwdTo := none }) d
  match c.slot with
  | some s =>
    if ok || (m.sct == 7 && m.sc == 0xC7) then
      secureDone c.id s (c.ns d) (erasureOf c.got) d
    else failCmd c.id st m.dw0 d
  | none => doneCmd c.id st m.dw0 m.dw1 c.got d

/-- FWD_COMPLETION: the receiving peer posts it, or takes it as the answer of a part; at a home it is the coordinator's
word. -/
def fwdCompletion (m : FwdCompletionMsg) (d : Device) : Device :=
  if ownId m.fwd d then
    match sentCmd m.fwd d with
    | none => d
    | some c =>
      match c.parent with
      | none => settle (forwardDone c m d)
      | some p =>
        match cmdOf p d with
        | some p => settle (partDone c p m d)
        | none => removeCmd c d
  else
    match d.nvme.cmds.find? (·.fwdFrom == some m.fwd) with
    | some c => settle (shareWord c m d)
    | none => d

def execFwdCompletion (h : FrameHdr) (m : FwdCompletionMsg) (s : State) : Host.Outcome State Fault Refusal :=
  next s (acceptFrame h 2 (fwdCompletion m))

/-! ## Lock reservations (R150) -/

/-- A lock of an identity, reserved for the other peer. -/
def lockOf (f : Nat) (i : LockIdent) : Lock :=
  ⟨0, some f, if i.kind == 2 then .sharedRange else if i.kind == 3 then .exclRange else .exclKey, i.ns, i.hash, i.lo,
   if i.kind == 1 || i.hi.isEmpty then none else some i.hi, .reserved⟩

/-- LOCK_RESERVE: the entries are reserved if the table has room; a count of 0 releases a reservation not yet used. -/
def reserveLocks (f : Nat) (ids : List LockIdent) (d : Device) : Device :=
  if ids.isEmpty then setLocks (d.nvme.locks.filter fun l => !(l.fwd == some f && l.cmd == 0)) d
  else if Config.lockEntries < d.nvme.locks.length + ids.length then sendLink (.lockReply f 1) d
  else sendLink (.lockReply f 0) (setLocks (d.nvme.locks ++ ids.map (lockOf f)) d)

def execLockReserve (h : FrameHdr) (fwd : Nat) (idents : List LockIdent) (s : State) : Host.Outcome State Fault Refusal :=
  next s (acceptFrame h 2 (reserveLocks fwd idents))

/-- LOCK_REPLY: the head command's remote locks are reserved; when the table is full, its queue stalls and asks again. -/
def lockReplied (f : Nat) (full : Bool) (d : Device) : Device :=
  if full then
    let held := d.nvme.remoteLocks.filter (·.2.1 == f)
    let d := held.foldl (fun d x =>
      let qs := d.nvme.queues.filter fun q => queueCode q.ref == x.1
      qs.foldl (fun d q => if q.lockStalled then d
        else odBump 0x2400 3 1 (onQueue q.ref (fun q => { q with lockStalled := true }) d)) d) d
    { d with nvme := { d.nvme with remoteLocks := d.nvme.remoteLocks.filter (·.2.1 != f) } }
  else
    { d with nvme := { d.nvme with remoteLocks := d.nvme.remoteLocks.map fun x => if x.2.1 == f then (x.1, f, true) else x } }

def execLockReply (h : FrameHdr) (fwd : Nat) (full : Bool) (s : State) : Host.Outcome State Fault Refusal :=
  next s (acceptFrame h 2 (lockReplied fwd full))

/-! ## Mirrors (R452) -/

/-- MIRROR_ACK: the home counts; each new copy behind the roster record is PRESENT once acknowledged (R193). The first mirror at
a returning peer ends bit [7] (R447). -/
def mirrorAcked (w n : Nat) (d : Device) : Device :=
  let ms := d.peer.mirrors.map fun m => if m.id == w then { m with acked := max m.acked (min n m.records) } else m
  let d := { d with peer := { d.peer with mirrors := ms } }
  let first := d.peer.returning == 1 && ms.any fun m => m.id == w && m.acked == m.records
  let d := if first then setCond 7 false { d with peer := { d.peer with returning := 2 } } else d
  match ms.find? (·.id == w) with
  | none => d
  | some m => settle ((m.copies.take (m.acked - 1)).foldl (fun d x => markPresent x.1 x.2.1 x.2.2 d) d)

def execMirrorAck (h : FrameHdr) (write records : Nat) (s : State) : Host.Outcome State Fault Refusal :=
  next s (acceptFrame h 1 (mirrorAcked write records))

/-- MIRROR_RELEASE: the holder drops the records, and with the last of its keys a batch's tick (log 228). -/
def mirrorReleased (writes : List Nat) (d : Device) : Device :=
  let held := d.peer.held.filter fun r => !writes.contains r.write
  let keeps := fun b : BatchTick => b.tick.isNone || held.any fun h => match h.record with
    | .roster _ _ ns k _ => ns == b.ns && b.keys.contains k
    | _ => false
  { d with peer := { d.peer with held := held }, nvme := { d.nvme with batches := d.nvme.batches.filter keeps } }

def execMirrorRelease (h : FrameHdr) (writes : List Nat) (s : State) : Host.Outcome State Fault Refusal :=
  next s (acceptFrame h 1 (mirrorReleased writes))

/-! ## Fingerprint requests at the owner (R193, R196, R198, R203, R205, R624) -/

/-- FP_REQUEST of kind 1: a claim, answered HIT or NEW. -/
def execFpRequestClaim (h : FrameHdr) (req domain : Nat) (fp : Bytes) (s : State) : Host.Outcome State Fault Refusal :=
  next s <| acceptFrame h 2 fun d =>
    let r := claimAt domain fp (false, req) d
    let es := ((copyOf domain fp r.1.copy r.2).map (·.extents)).getD []
    sendLink (.fpReply req (if r.1.isNew then 2 else 1) r.1.present r.1.copy es) r.2

/-- The claim of the other peer that a release ends: the one of its request id (log 228), else the oldest on the copy. -/
def remoteClaimant (req domain : Nat) (fp : Bytes) (copy : Nat) (d : Device) : Bool × Nat :=
  ((copyOf domain fp copy d).bind fun c =>
    if c.claimants.contains (false, req) then some (false, req) else c.claimants.find? fun w => !w.1).getD (false, 0)

/-- FP_REQUEST of kind 2: a claim release; copy number 0xFFFF_FFFF names the claim by its request id. -/
def fpRelease (req domain : Nat) (fp : Bytes) (copy : Nat) (d : Device) : Device :=
  let d :=
    if copy == 0xFFFFFFFF then
      match d.kv.copies.find? fun c => c.claimants.contains (false, req) with
      | some c => releaseAt c.domain c.fp c.num (false, req) d
      | none => d
    else releaseAt domain fp copy (remoteClaimant req domain fp copy d) d
  settle (sendLink (.fpReply req 3 false copy []) d)

def execFpRequestClaimRelease (h : FrameHdr) (req domain : Nat) (fp : Bytes) (copy : Nat) (s : State) :
    Host.Outcome State Fault Refusal := next s (acceptFrame h 2 (fpRelease req domain fp copy))

/-- FP_REQUEST of kind 3: one committed reference fewer. -/
def execFpRequestDecrement (h : FrameHdr) (req domain : Nat) (fp : Bytes) (copy : Nat) (s : State) :
    Host.Outcome State Fault Refusal :=
  next s <| acceptFrame h 2 fun d => sendLink (.fpReply req 3 false copy []) (decrementAt domain fp copy d)

/-- The slot and stored form of a copy that the other peer has mirrored here (R452). -/
def mirroredForm (domain : Nat) (fp : Bytes) (num : Nat) (d : Device) : Option (Nat × StoredForm) :=
  d.peer.held.findSome? fun h => match h.record with
    | .copy dom slot f n x => if dom == domain && f == fp && n == num then some (slot, x) else none
    | _ => none

/-- The entry of a copy that the other peer stores takes the fields of its mirrored record; without one, its stored length (R193). -/
def fillEntry (m : PresentMsg) (d : Device) (c : Copy) : Copy :=
  if !c.plain.isEmpty then c
  else match mirroredForm m.domain m.fp m.copy d with
    | some (slot, f) => { c with
        extents := m.extents, plainLen := f.plain.length, storedLen := f.len, slot := slot, invocation := f.invocation, side := f.side
        enc := if f.deflate then .deflate else .raw }
    | none => { c with extents := m.extents, storedLen := (m.extents.map (·.len)).sum }

/-- FP_REQUEST of kind 4: the copy is stored, at these extents. -/
def execFpRequestPresent (h : FrameHdr) (req : Nat) (m : PresentMsg) (s : State) : Host.Outcome State Fault Refusal :=
  next s <| acceptFrame h 2 fun d =>
    let d := onCopy m.domain m.fp m.copy (fillEntry m d) d
    settle (sendLink (.fpReply req 3 false m.copy []) (presentAt m.domain m.fp m.copy d))

/-- FP_REQUEST of kind 5: where a copy lies. -/
def execFpRequestLocate (h : FrameHdr) (req domain : Nat) (fp : Bytes) (copy : Nat) (s : State) :
    Host.Outcome State Fault Refusal :=
  next s <| acceptFrame h 2 fun d =>
    match copyOf domain fp copy d with
    | some c => sendLink (.fpReply req 1 c.present copy c.extents) d
    | none => sendLink (.fpReply req 3 false copy []) d

/-! ## Replies at the home -/

def dropReq (id : Nat) (d : Device) : Device :=
  { d with peer := { d.peer with reqs := d.peer.reqs.filter (·.id != id) } }

/-- A claim's answer: the chunk goes on; a claim that no chunk stands for any more is given back. A HIT on a pending copy keeps its
request open for the copy's end. -/
def claimReplied (r : LinkReq) (cmd item chunk : Nat) (m : FpReplyMsg) (d : Device) : Device :=
  let isNew := m.answer == 2
  let d := if isNew || m.present then dropReq r.id d else d
  let mine := ((cmdOf cmd d).bind fun c => c.items[item]?.bind fun i => i.chunks[chunk]?).any fun w =>
    w.req == some r.id || w.claim == some r.id
  if mine then settle (claimAnswered cmd item chunk ⟨isNew, m.copy, m.present⟩ d)
  else releaseClaim r.domain r.fp m.copy cmd (some r.id) (dropReq r.id d)

/-- The owner says where a copy lies: the location is cached, and its stored form is fetched; a secure delete notes the stripes (R212). -/
def located (r : LinkReq) (cmd domain : Nat) (fp : Bytes) (copy : Nat) (m : FpReplyMsg) (d : Device) : Device :=
  let d := dropReq r.id d
  match cmdOf cmd d with
  | none => d
  | some c =>
    if c.kind == KvKind.delete then
      secureSorted cmd (onCmd cmd (fun c => { c with found := c.found ++ m.extents.map (·.stripe) }) d)
    else if m.extents.isEmpty then failCmd cmd (.vendor 0xC0) 0 d
    else
      let known := if d.kv.located.contains (domain, fp, copy) then d.kv.located else d.kv.located ++ [(domain, fp, copy)]
      let d := { d with kv := { d.kv with located := known } }
      match d.kv.fetches.find? fun f => f.cmd == cmd && f.domain == domain && f.fp == fp && f.num == copy with
      | some f => readOn (readFuel c) cmd (putFetch { f with extents := m.extents } d)
      | none => d

/-- FP_REPLY. -/
def fpReplied (m : FpReplyMsg) (d : Device) : Device :=
  match d.peer.reqs.find? (·.id == m.req) with
  | none => d
  | some r =>
    match r.what with
    | .claim cmd item chunk => claimReplied r cmd item chunk m d
    | .locate cmd domain fp copy => settle (located r cmd domain fp copy m d)
    | _ => dropReq r.id d

def execFpReply (h : FrameHdr) (m : FpReplyMsg) (s : State) : Host.Outcome State Fault Refusal :=
  next s (acceptFrame h 2 (fpReplied m))

/-- INVALIDATE: a cached location goes, and is acknowledged once no read here is under way in the copy (R203, R207). -/
def execInvalidate (h : FrameHdr) (domain copy : Nat) (fp : Bytes) (s : State) : Host.Outcome State Fault Refusal :=
  next s <| acceptFrame h 2 fun d =>
    ackInvalidates { d with kv := { d.kv with
      located := d.kv.located.filter (· != (domain, fp, copy))
      owedAcks := d.kv.owedAcks.filter (· != (domain, fp, copy)) ++ [(domain, fp, copy)] } }

/-- INVALIDATE_ACK: what waited for it goes on. -/
def execInvalidateAck (h : FrameHdr) (domain copy : Nat) (fp : Bytes) (s : State) : Host.Outcome State Fault Refusal :=
  next s (acceptFrame h 2 (invalidated domain fp copy))

/-! ## Units (R23) -/

/-- UNIT_READ: the owner of the channel reads the unit. -/
def unitRead (req : Nat) (m : MemberDesc) (prio : Nat) (d : Device) : Device :=
  let d := ioActivity d
  if !ownsChannel m.channel d then sendLink (.unitData req 2 0 []) d
  else
    let kind := if prio == 0 then FlashKind.hostRead else if prio == 1 then FlashKind.rebuildRead else FlashKind.gcRead
    queueOp { blankOp kind m with req := some req } d

def execUnitRead (h : FrameHdr) (req : Nat) (d : MemberDesc) (prio : Nat) (s : State) : Host.Outcome State Fault Refusal :=
  next s (acceptFrame h 2 (unitRead req d prio))

/-- Bytes of a unit come for a fetch, in pieces; the whole unit lets the read go on. -/
def takeUnit (r : LinkReq) (c : Cmd) (f : Fetch) (stripe unit off : Nat) (data : Bytes) (d : Device) : Device :=
  let n := peerUnit stripe d
  let part := overlay (padTo (max f.part.length (off + data.length)) f.part) off data
  if part.length < n then putFetch { f with part := part } d
  else readOn (readFuel c) c.id (putFetch { f with part := [], units := f.units ++ [((stripe, unit), part.take n)] } (dropReq r.id d))

/-- The other peer cannot give a unit: a fetch goes on without it; a member of a stripe kept here is unreadable, and is repaired (R23,
R305). -/
def unitFailed (r : LinkReq) (cmd stripe unit : Nat) (d : Device) : Device :=
  let d := dropReq r.id d
  if (stripeOf stripe d).isSome then
    startMove stripe unit 4 false none (odBump 0x2900 0x0A 1 (onMember stripe unit (fun m => { m with readable := false }) d))
  else match cmdOf cmd d, d.kv.fetches.find? (·.cmd == cmd) with
    | some c, some f => readOn (readFuel c) cmd (putFetch { f with part := [], unread := f.unread ++ [(stripe, unit)] } d)
    | _, _ => d

/-- UNIT_DATA: bytes of a unit, or that it cannot be given. -/
def unitData (req status off : Nat) (data : Bytes) (d : Device) : Device :=
  match d.peer.reqs.find? (·.id == req) with
  | none => d
  | some r =>
    match r.what with
    | .unit (some cmd) stripe unit =>
      if status != 0 then unitFailed r cmd stripe unit d
      else match cmdOf cmd d, d.kv.fetches.find? (·.cmd == cmd) with
        | some c, some f => if (stripeOf stripe d).isSome then dropReq r.id d else takeUnit r c f stripe unit off data d
        | _, _ => dropReq r.id d
    | _ => dropReq r.id d

def execUnitData (h : FrameHdr) (req status off : Nat) (data : Bytes) (s : State) : Host.Outcome State Fault Refusal :=
  next s (acceptFrame h 3 fun d => settle (unitData req status off data d))

/-! ## Returned descriptors (R36, R491, R506) -/

/-- Post a descriptor's work again; the engine that faulted does not take it (R36). -/
def reissueWork (c : Cmd) (tag : Nat) (w : WorkDesc) (d : Device) : Device :=
  let key := match c.items[tagItem tag]? with
    | some i => i.key
    | none => capKey c.capsule
  postHost (bucketOf (c.ns d) key d) { w with status := 0, cycles := 0 } d

/-- The attempt of a REDUCE that faulted gives its claims back; the next one claims again (R198). -/
def undoReduce (c : Cmd) (n : Nat) (d : Device) : Device :=
  match c.items[n]? with
  | none => d
  | some i =>
    let d := discardItem c.id { i with mseq := 0, write := none } d
    onItem c.id n (fun i => { i with chunks := [] }) d

/-- The work of a tag has ended. -/
def forgetFaults (tag : Nat) (d : Device) : Device :=
  { d with eng := { d.eng with reissues := tblDel d.eng.reissues tag, barred := d.eng.barred.filter (·.1 != tag) } }

/-- An engine fault: the work is reissued up to 2 times, then the command ends with Internal Error. -/
def engineFault (e : Option Nat) (c : Cmd) (tag : Nat) (w : Option WorkDesc) (d : Device) : Device :=
  let n := tblGetD d.eng.reissues tag 0
  let d := match e with
    | some e => { d with eng := { d.eng with barred := d.eng.barred ++ [(tag, e)] } }
    | none => d
  let d := if tagPart tag == 0 then undoReduce c (tagItem tag) d else d
  match w with
  | some w =>
    if n < 2 then reissueWork c tag w { d with eng := { d.eng with reissues := tblPut d.eng.reissues tag (n + 1) } }
    else failCmd c.id .internalError 0 (forgetFaults tag d)
  | none => failCmd c.id .internalError 0 d

/-- A command's work has succeeded. -/
def workDone (e : Option Nat) (c : Cmd) (tag : Nat) (d : Device) : Device :=
  match c.kind with
  | .retrieve =>
    (match c.parts, c.named with
     | ch :: _, some m =>
       (match copyOf m.domain ch.fp ch.copy d with
        | some x => if x.lost then failCmd c.id (.vendor 0xC0) 0 d else chunkRead c.id x d
        | none => failCmd c.id (.vendor 0xC0) 0 d)
     | _, _ => d)
  | _ =>
    let n := tagItem tag
    if tagPart tag == 0 then reduceDone c.id n d else storeChunk e c.id n (tagPart tag - 1) d

/-- A command's READ_COPY has ended with a failed tag (R264). -/
def tagFailed (c : Cmd) (d : Device) : Device :=
  match c.parts.head?.bind fun ch => c.named.bind fun m => copyOf m.domain ch.fp ch.copy d with
  | some x => if c.kind == KvKind.retrieve then readTagFailed c.id x d else failCmd c.id (.vendor 0xC0) 0 d
  | none => failCmd c.id (.vendor 0xC0) 0 d

/-- A descriptor comes back with a status: 0 success, 1 engine fault, 2 bad descriptor, 3 cipher refused, 4 tag failed,
5 interrupted (R490, R491). -/
def descriptorReturn (tag status : Nat) (w : Option WorkDesc) (d : Device) : Device :=
  let e := engineOfTag tag d
  let d := dropTag tag d
  match cmdOf (tagCmd tag) d with
  | none => d
  | some c =>
    if c.fwdTo.isSome && c.parent.isSome then d
    else
      let slot := (w.map (·.slot)).getD 0
      settle <| match status with
        | 0 => workDone e c tag (forgetFaults tag d)
        | 1 => engineFault e c tag w d
        | 2 => failCmd c.id .internalError 0 d
        | 3 => refuseCipher c.id slot d
        | 4 => tagFailed c d
        | _ => failCmd c.id .interrupted 0 d

/-- Only a descriptor that is posted can be returned. -/
def execDescriptorReturn (tag status : Nat) (s : State) : Host.Outcome State Fault Refusal :=
  next s fun d => match descOf tag d with
    | some w => descriptorReturn tag status (some w) d
    | none => d

/-- Firmware or the NVMe engine posts a descriptor: a host command's by its home bucket, a job's to the shortest queue. -/
def execWorkDescriptorPost (host : Bool) (bucket : Nat) (w : WorkDesc) (s : State) : Host.Outcome State Fault Refusal :=
  next s fun d => if host then postHost (bucket % 4096) w d else postJob w d

/-! ## Map pages (R330) -/

/-- A missed map page is in the cache, and the commands that wait for it go on. -/
def mapPageFill (typ lid : Nat) (d : Device) : Device :=
  match pageOf typ lid d with
  | none => d
  | some p =>
    if p.lost then settle d
    else
      let pages := d.map.pages.map fun p => if isPage typ lid p then { p with cached := true, lastUse := d.time.now } else p
      settle (evictPages { d with map := { d.map with pages := pages } })

def execMapPageFill (typ lid : Nat) (s : State) : Host.Outcome State Fault Refusal := next s (mapPageFill typ lid)

end Sys2Proof.Machine
end

