-- ==== Sys2Proof/Machine/Time.lean ====
section
/-! DEFINITION. The timebase: PTP, the time state, the time leader, transfer between the peers and the EPOCH pins
(R399 to R411), and what its lock decides (R53, R405). -/

namespace Sys2Proof.Machine

/-- The code of a time state (R404). -/
def TimeSt.code : TimeSt → Nat
  | .unset => 0 | .free => 1 | .acquiring => 2 | .locked => 3 | .holdover => 4

/-- The PTP rank of a state: 0 LOCKED to 3 FREE (R408, R457). -/
def TimeSt.rank : TimeSt → Nat
  | .locked => 0 | .holdover => 1 | .acquiring => 2 | .free => 3 | .unset => 3

/-- The pair's timebase is common: the peers serve together, or have met and the other one has not gone (R405, R411). -/
def pairedTime (d : Device) : Bool := d.peer.st == 1 || d.peer.st == 2 || d.peer.st == 3

/-- This device follows the other peer's time (R408). -/
def isFollower (d : Device) : Bool := pairedTime d && d.time.leader != d.side

/-- The pair's time state: the leader's on a follower (R405). -/
def pairTimeState (d : Device) : Nat := if isFollower d then d.time.peerState else d.time.st.code

/-- The timebase is locked (R405); the peer offset is in 1/128 tick, 16 ticks = 2,048. -/
def timebaseLocked (d : Device) : Bool :=
  (pairTimeState d == 3 || pairTimeState d == 4) &&
    (!pairedTime d || (d.time.peerOffKnown && d.time.peerOff.natAbs ≤ 2048))

/-- The highest tick that a journal page or record names (R407). -/
def journalFloor (d : Device) : Nat :=
  let pages := d.stripe.pages ++ d.stripe.mirror.map (·.page)
  pages.foldl (fun m p => max m p.tick) 0

/-- The snapshots whose cut is on the board, is being placed or waits for an entry. -/
def armedCuts (d : Device) : List Nat :=
  let bodies := (d.board.entries.filter (·.2.state == 1)).map (·.2) ++ d.board.placing.map (·.body) ++ d.board.waiting.map (·.body)
  ((bodies.filter (·.action == 0x03)).map (·.arg % 4096)).eraseDups

/-- Every snapshot cut that has not launched is cancelled, its command completes with Command Sequence Error, and event 0x0202 names it
(R44, R53). -/
def cancelCuts (d : Device) : Device :=
  let cuts := armedCuts d
  let nsOf := fun n => ((d.snap.snaps.find? (·.num == n)).map (·.ns)).getD 0
  let named := cuts.map fun n => n * 2 ^ 32 + nsOf n % 2 ^ 32
  let d := named.foldl (fun d detail => logEvent 0x0202 0x0040 1 detail d) d
  if cuts.isEmpty then d else endCuts cuts d

/-- Bit [4] of OD 0x2010:05 follows the lock; losing it cancels the armed cuts. -/
def refreshTimeLock (d : Device) : Device :=
  let locked := timebaseLocked d
  let d := setCond 4 (!locked) d
  if locked then d else cancelCuts d

/-- The other peer outranks the leader since when; without a serving peer this device leads itself, and while no HEARTBEAT comes nothing
is known of the other rank (R408). -/
def refreshRanks (d : Device) : Device :=
  if !pairedTime d then
    let changed := noServingPeer d && d.power.run == .ready && d.time.leader != d.side
    let d := { d with time := { d.time with otherRanksSince := none, leader := d.side } }
    if changed then logEvent 0x0D03 0x0050 0 d.side d else d
  else if d.peer.st == 3 || !linkPhysical d then { d with time := { d.time with otherRanksSince := none } }
  else
    let mine := d.time.st.rank
    let other := d.time.peerRank
    let otherHigher := if d.time.leader == d.side then other < mine else mine < other
    { d with time := { d.time with
        otherRanksSince := if otherHigher then some (d.time.otherRanksSince.getD d.time.now) else none } }

/-- Change the time state, with its event (R404). -/
def setTimeState (st : TimeSt) (d : Device) : Device :=
  if d.time.st == st then refreshTimeLock d
  else
    let old := d.time.st
    let d := { d with time := { d.time with st := st, goodRun := 0, badRun := 0
                                            lastLocked := if st == TimeSt.locked || old == TimeSt.locked then d.time.now
                                                          else d.time.lastLocked } }
    let d := logEvent 0x0D01 0x0050 0 (old.code * 256 + st.code) d
    refreshTimeLock (refreshRanks d)

/-! ## Master selection (R402, R406) -/

/-- Which data set is the better: the first difference decides. -/
def dataSetLess : List Nat → List Nat → Option Bool
  | x :: xs, y :: ys => if x < y then some true else if y < x then some false else dataSetLess xs ys
  | _, _ => none

/-- The better data set first; equal, the lower port. -/
def masterBefore (a b : Master) : Bool :=
  match dataSetLess a.rank b.rank with
  | some r => r
  | none => a.port < b.port

/-- A port that takes part in PTP (R402): its bit in OD 0x2100:06, host or replication mode, link. -/
def ptpPort (p : Nat) (d : Device) : Bool :=
  bit (odVal 0x2100 0x06 d) p && odVal (0x2300 + p) 0x01 d != 0 &&
    (d.ports.ports.getD p Reset.port).link != 0

/-- The best master heard that is not rejected. -/
def bestMaster (d : Device) : Option Master :=
  d.time.masters.foldl (fun best m =>
    if d.time.rejected.contains m.ident || !ptpPort m.port d then best
    else match best with
      | none => some m
      | some b => if masterBefore m b then some m else some b) none

/-- Select the best master: its port becomes SLAVE; a FREE peer starts to acquire, an ACQUIRING one that has lost its
master is FREE. -/
def selectMaster (d : Device) : Device :=
  match bestMaster d with
  | some m =>
    let changed := d.time.grandmaster != m.ident || d.time.slavePort != m.port
    let d := { d with time := { d.time with grandmaster := m.ident, slavePort := m.port
                                            goodRun := if changed then 0 else d.time.goodRun
                                            agreeRun := if changed then 0 else d.time.agreeRun } }
    if d.time.st == .free then setTimeState .acquiring d else d
  | none =>
    let d := { d with time := { d.time with slavePort := 0xFF, goodRun := 0, agreeRun := 0 } }
    if d.time.st == .acquiring then setTimeState .free d else d

/-- A master more than 1 ms away is rejected (R406). -/
def rejectMaster (ident : Nat) (d : Device) : Device :=
  let d := { d with time := { d.time with rejected := ident :: d.time.rejected } }
  selectMaster (logEvent 0x0D02 0x0050 1 ident (odBump 0x2100 0x11 1 d))

/-- A rejected master is selected again once its time lies within 1 ms of the counter, or before the counter is set above the journal
floor (R406). -/
def readmitMaster (m : SyncMsg) (off : Int) (d : Device) : Device :=
  let near := if d.time.established then decide (off.natAbs ≤ 1000000000)
    else decide (journalFloor d < ((m.origin + d.time.pathDelayNs * 1000) / 1250).toNat)
  if !d.time.rejected.contains m.master || !near then d
  else selectMaster { d with time := { d.time with rejected := d.time.rejected.filter (· != m.master) } }

/-- A TIME_STEP is on the board, being placed or waits for an entry. -/
def stepPending (d : Device) : Bool :=
  (d.board.entries.any fun e => e.2.state == 1 && e.2.action == 7) || (d.board.placing.any fun p => p.body.action == 7) ||
    d.board.waiting.any fun w => w.body.action == 7

/-- The counter takes a value, and the state that follows it (R407). -/
def establish (counter : Nat) (st : TimeSt) (d : Device) : Device :=
  setTimeState st { d with time := { d.time with counter := counter, established := true, waitUntil := none } }

/-- The master's time in ticks at the moment of the Sync: t1 plus the mean path delay. -/
def masterTicks (m : SyncMsg) (d : Device) : Nat := ((m.origin + d.time.pathDelayNs * 1000) / 1250).toNat

/-- A Sync before the counter is established: three in a row that agree within 1 µs set it (R407), unless the time lies
at or below the journal floor (R406). -/
def syncUnset (m : SyncMsg) (off : Int) (d : Device) : Device :=
  let run := if d.time.agreeRun != 0 && (off - d.time.agreeOffset).natAbs ≤ 1000000 then d.time.agreeRun + 1 else 1
  let d := { d with time := { d.time with agreeRun := run, agreeOffset := off } }
  if run < 3 then d
  else if masterTicks m d ≤ journalFloor d then rejectMaster m.master d
  else establish (masterTicks m d) .acquiring d

/-- The servo takes an offset and the lock state follows (R403, R404). -/
def syncServo (off : Int) (d : Device) : Device :=
  let f := Config.servoOffset d.time.offsetPs d.time.integral off
  let i := Config.servoIntegral d.time.integral off
  let d := { d with time := { d.time with
    offsetPs := f, integral := i, freqPpb := Config.servoFrequency f i
    slew := if isFollower d && (linkPhysical d || !d.time.epochAbsent) then d.time.slew else Config.servoSlew f i } }
  let good : Bool := f.natAbs ≤ odVal 0x2100 0x09 d * 1000
  let bad : Bool := odVal 0x2100 0x0A d * 1000 < f.natAbs
  let d := { d with time := { d.time with
    goodRun := if good then d.time.goodRun + 1 else 0, badRun := if bad then d.time.badRun + 1 else 0
    lastLocked := if d.time.st == TimeSt.locked then d.time.now else d.time.lastLocked } }
  match d.time.st with
  | .acquiring => if 16 ≤ d.time.goodRun then setTimeState .locked d else d
  | .holdover => if 16 ≤ d.time.goodRun then setTimeState .locked d else d
  | .locked => if 4 ≤ d.time.badRun then setTimeState .holdover d else d
  | _ => d

/-- A Sync with an established counter: more than 1 ms away R406 applies by the pair's time state (R420), else the servo. A follower only
measures, and one step is on its way at a time. -/
def syncSet (m : SyncMsg) (off : Int) (d : Device) : Device :=
  if off.natAbs ≤ 1000000000 then syncServo off d
  else if off < 0 && (pairTimeState d == 1 || pairTimeState d == 2) then
    if isFollower d || stepPending d then d
    else placePaired (firmwareEntry 0x07 0x0050 (off.natAbs / 1000000000 * 800000) (nextBoundary d) true) .firmware d
  else rejectMaster m.master d

/-- PTP_SYNC (R403 to R407). -/
def syncReceive (m : SyncMsg) (d : Device) : Device :=
  let d := if hasLink m.port d then ownFrame m.port d else d
  let off := m.arrival - m.origin - d.time.pathDelayNs * 1000
  if m.domain != odVal 0x2100 0x07 d || !ptpPort m.port d then d
  else if m.port != d.time.slavePort || m.master != d.time.grandmaster then readmitMaster m off d
  else
    let d := { d with time := { d.time with lastSync := (m.origin, m.arrival) } }
    if d.time.established then syncSet m off d else syncUnset m off d

/-- PTP_ANNOUNCE: master selection and the UTC offset (R402). -/
def announceReceive (m : AnnounceMsg) (d : Device) : Device :=
  let d := if hasLink m.port d then ownFrame m.port d else d
  if m.domain != odVal 0x2100 0x07 d || !ptpPort m.port d then d
  else
    let row : Master := ⟨m.master, m.port, m.rank, d.time.now, m.interval⟩
    let others := d.time.masters.filter fun x => !(x.ident == m.master && x.port == m.port)
    let d := selectMaster { d with time := { d.time with masters := others ++ [row] } }
    if d.time.slavePort == m.port && d.time.grandmaster == m.master then
      { d with time := { d.time with utcOffset := m.utcOffset } }
    else d

def execPtpAnnounce (m : AnnounceMsg) (s : State) : Host.Outcome State Fault Refusal := next s (announceReceive m)

/-- PTP_DELAY_REQ_SEND: t3 is the counter, in ps. -/
def execPtpDelayReqSend (s : State) : Host.Outcome State Fault Refusal :=
  next s fun d =>
    if d.time.slavePort == 0xFF then d
    else
      let p := d.time.slavePort
      let d := if hasLink p d then sendOn p (.port p (.delayReq (odVal 0x2100 0x08 d == 1) d.time.grandmaster)) d else d
      { d with time := { d.time with delayReqAt := some ((d.time.counter : Int) * 1250) } }

/-- PTP_DELAY_RESP: mean path delay ((t2 − t1) + (t4 − t3)) / 2. -/
def execPtpDelayResp (port master : Nat) (received : Int) (s : State) : Host.Outcome State Fault Refusal :=
  next s fun d =>
    let d := if hasLink port d then ownFrame port d else d
    match d.time.delayReqAt with
    | none => d
    | some t3 =>
      if port != d.time.slavePort || master != d.time.grandmaster then d
      else
        let ps := ((d.time.lastSync.2 - d.time.lastSync.1) + (received - t3)) / 2
        { d with time := { d.time with pathDelayNs := ps / 1000, delayReqAt := none } }

/-- ANNOUNCE_RECEIPT_TIMEOUT: three intervals after its last Announce the master is lost (R404). -/
def announceTimeout (d : Device) : Device :=
  match d.time.masters.find? fun m => m.ident == d.time.grandmaster && m.port == d.time.slavePort with
  | none => d
  | some m =>
    let d := waitUntil (m.heard + 3 * m.interval) d
    let d := { d with time := { d.time with
      masters := d.time.masters.filter fun x => !(x.ident == m.ident && x.port == m.port)
      rejected := d.time.rejected.filter (· != m.ident) } }
    let d := if d.time.st == .locked then setTimeState .holdover d else d
    selectMaster d

def execAnnounceReceiptTimeout (s : State) : Host.Outcome State Fault Refusal := next s announceTimeout

/-- HOLDOVER_LIMIT_EXPIRY: OD 0x2100:0B after the last lock. -/
def execHoldoverLimitExpiry (s : State) : Host.Outcome State Fault Refusal :=
  next s fun d =>
    if d.time.st == .holdover then
      let d := setTimeState .free (waitUntil (d.time.lastLocked + sec (odVal 0x2100 0x0B d)) d)
      selectMaster d
    else d

/-! ## Leader and follower (R408, R409) -/

/-- The lead passes to a side, with its event. -/
def setLeader (side : Nat) (d : Device) : Device :=
  if d.time.leader == side then refreshRanks { d with time := { d.time with otherRanksSince := none } }
  else refreshTimeLock <| refreshRanks <| logEvent 0x0D03 0x0050 0 side
    { d with time := { d.time with leader := side, otherRanksSince := none } }

/-- When the peers meet, the peer of higher rank leads at once, side A on a tie. -/
def leaderAtMeeting (peerRank : Nat) (d : Device) : Device :=
  let d := { d with time := { d.time with peerOffKnown := false, agreeing := 0 } }
  let mine := d.time.st.rank
  setLeader (if mine < peerRank then d.side else if peerRank < mine then 1 - d.side else 0) d

/-- TIME_LEADER_CHANGE: the other peer has ranked higher for 10 s. -/
def execTimeLeaderChange (s : State) : Host.Outcome State Fault Refusal :=
  next s fun d =>
    match d.time.otherRanksSince with
    | none => d
    | some t => setLeader (1 - d.time.leader) (waitUntil (t + sec 10) d)

/-- Peer offset in 1/128 tick from the four timestamps of R409 in 1/64 tick and the lane asymmetry. -/
def peerOffset (t1 t2 t3 t4 a : Int) : Int := (t2 - t1) - (t4 - t3) - a

/-- Bit [1] of OD 0x2010:05: the link is down or treated as down in peer state 2, 3 or 4 (R42). -/
def refreshLinkCond (d : Device) : Device :=
  setCond 1 (!linkIsUp d && (d.peer.st == 2 || d.peer.st == 3 || d.peer.st == 4)) d

/-- The follower's offset as a HEARTBEAT gives it to either peer: the leader sees the same four times the other way round (R409). -/
def heartbeatOffset (m : HeartbeatMsg) (d : Device) : Int :=
  if isFollower d then peerOffset m.t1 m.t2 m.t3 m.t4 d.time.laneAsymmetry
  else peerOffset m.t3 m.t4 m.t1 m.t2 (-d.time.laneAsymmetry)

/-- A peer offset has been measured: agreement, and on the follower a slew to null it (R409, R411). -/
def takePeerOffset (off : Int) (viaLink : Bool) (d : Device) : Device :=
  let ok : Bool := off.natAbs ≤ 2048
  let wasOk : Bool := !d.time.peerOffKnown || d.time.peerOff.natAbs ≤ 2048
  let d := { d with time := { d.time with
    peerOff := off, peerOffKnown := true, slew := if isFollower d then -(off / 128) else d.time.slew
    agreeing := if ok then d.time.agreeing + 1 else 0 } }
  let d := if !ok && wasOk then logEvent 0x0D04 0x0050 2 (toUnsigned 4 (off * 1250 / 128)) d else d
  let d := if viaLink then { d with peer := { d.peer with
      treatedDown := if !ok then true else if 100 ≤ d.time.agreeing then false else d.peer.treatedDown } } else d
  refreshTimeLock d

/-! ## EPOCH pins (R410, R411) -/

/-- The level of EPOCH_OUT: high for 1,024 ticks from every tick whose bits [22:0] are zero, and during the wake pulse
of R551. -/
def epochOutLevel (d : Device) : Bool :=
  (d.time.established && d.time.counter % 2 ^ 23 < 1024) || d.time.now < d.time.wakePulseUntil

/-- EPOCH_OUT_PULSE: the clock reaches the next such tick. -/
def execEpochOutPulse (s : State) : Host.Outcome State Fault Refusal :=
  next s fun d =>
    if d.time.established then waitTick ((d.time.counter / 2 ^ 23 + 1) * 2 ^ 23) d else d

/-- EPOCH_IN_EDGE at the counter plus `frac` / 128 tick: the difference to the nearest expected edge. -/
def epochEdge (frac : Nat) (d : Device) : Device :=
  let stamp : Int := (d.time.counter : Int) * 128 + frac
  let expected : Int := ((d.time.counter + 2 ^ 22) / 2 ^ 23 * 2 ^ 23 : Nat) * 128
  let diff := stamp - expected
  let d := { d with time := { d.time with epochInLast := some d.time.now, epochAbsent := false } }
  if pairedTime d then
    if d.time.leader == d.side then d
    else if linkPhysical d then
      if d.time.peerOffKnown && d.time.peerOff.natAbs ≤ 2048 then
        { d with time := { d.time with traceDelay := Config.traceAverage d.time.traceDelay diff } }
      else d
    else takePeerOffset (diff - d.time.traceDelay) false d
  else d

def execEpochInEdge (frac : Nat) (s : State) : Host.Outcome State Fault Refusal := next s (epochEdge frac)

/-- EPOCH_IN_LOSS: with the link down, no edge for 2 periods. -/
def execEpochInLoss (s : State) : Host.Outcome State Fault Refusal :=
  next s fun d =>
    if linkPhysical d then d
    else
      let d := waitUntil (d.time.epochInLast.getD d.time.now + 2 * 2 ^ 23) d
      refreshTimeLock { d with time := { d.time with epochAbsent := true, peerOffKnown := false } }

end Sys2Proof.Machine
end

