-- ==== Sys2Proof/Machine/Snap.lean ====
section
/-! DEFINITION. Snapshots: create, cut, delete and end (R463 to R473, R484). -/

namespace Sys2Proof.Machine

/-- Namespaces attached to a port, in order. -/
def attachedNs (port : Nat) (d : Device) : List Nat :=
  ((List.range 1024).map (· + 1)).filter fun n => nsDefined n d && bit (nsPorts n d) port

/-- Snapshots of a namespace. -/
def snapsOf (ns : Nat) (d : Device) : Nat := (d.snap.snaps.filter (·.ns == ns)).length

/-- The lowest free numbers. -/
def freeNumbers (n : Nat) (d : Device) : List Nat :=
  ((List.range 4096).filter fun i => !d.snap.snaps.any (·.num == i)).take n

/-- HOLDS: long operations that compare the snapshot, and sessions of which it is the base or the current one (R475, R477). -/
def holdsOf (n : Nat) (d : Device) : Nat :=
  let op := fun s : LongSlot => match s.op with
    | .difference _ a b _ _ => (s.state == 1 || s.state == 2) && (a == n || b == n)
    | _ => false
  d.admin.slots.countP op + d.snap.sessions.countP fun x => x.base == some n || x.current == some n

/-- Change a snapshot; window 0x3310's version advances. -/
def onSnap (n : Nat) (f : Snapshot → Snapshot) (d : Device) : Device :=
  bumpVersion 0x3310 { d with snap := { d.snap with snaps := d.snap.snaps.map fun s => if s.num == n then f s else s } }

def snapOf (n : Nat) (d : Device) : Option Snapshot := d.snap.snaps.find? (·.num == n)

/-- A SNAPSHOT_STATE record (R470). -/
def snapRecord (s : Snapshot) (st : Nat) (d : Device) : Device := journalRecord (.snapshot s.num st s.ns s.cut s.expiry) d

/-- What refuses a create for these namespaces, in the order of R467, with completion dword 0. -/
def createRefused (nss : List Nat) (d : Device) : Option (Status × Nat) :=
  if d.admin.sanitize.isSome then some (.sanitizeInProgress, 0)
  else if bit d.conditions 6 then some (.vendor 0xC5, 0)
  else if !timebaseLocked d || d.peer.st == 2 || d.peer.st == 3 then some (.sequenceError, 0)
  else if nss.isEmpty then some (.invalidNamespace, 0)
  else if nss.any fun n => 255 ≤ snapsOf n d then some (.invalidField, 1)
  else if 4096 < d.snap.snaps.length + nss.length then some (.invalidField, 2)
  else none

/-- Arm snapshots of some namespaces at the next commit-group boundary, one paired cut each. -/
def armSnaps (nss : List Nat) (minutes : Nat) (session : Option Nat) (mk : List Nat → Nat → SnapCreate) (d : Device) : Device :=
  let nums := freeNumbers nss.length d
  let cut := nextBoundary d
  let expiry := if minutes == 0 then 0 else cut + minutes * sec 60
  let snaps := (nums.zip nss).map fun x =>
    { num := x.1, ns := x.2, cut := cut, expiry := expiry, st := 1, session := session, launched := false
      liveWritten := false, expired := false, dropDue := false, ended := false : Snapshot }
  let d := bumpVersion 0x3310 { d with snap := { d.snap with
    snaps := d.snap.snaps ++ snaps, creates := d.snap.creates ++ [mk nums cut] } }
  nums.foldl (fun d n => placePaired (firmwareEntry 0x03 0x0040 n cut true) (.snapshot n) d) d

/-- Snapshot create (R467). -/
def snapshotCreate (q : QueueRef) (c : Capsule) (d : Device) : Device :=
  let s := c.sqe
  let all := s.nsid == 0xFFFFFFFF
  let att := attachedNs q.port d
  let nss := if all then att else if att.contains s.nsid then [s.nsid] else []
  let refuse := fun (st : Status) (dw : Nat) (d : Device) => complete q s.tag st dw 0 [] (odBump 0x3300 4 1 d)
  match createRefused nss d with
  | some (st, dw) => refuse st dw d
  | none =>
    if all && s.sgl < 8 * nss.length then refuse .sglLength 0 d
    else armSnaps nss s.cdw11 none (fun nums cut => ⟨q, s.tag, nums, cut, all, none⟩) d

/-! ## Sessions of replication that change state (R479 to R486) -/

def sessionOf (n : Nat) (d : Device) : ReplSession := d.snap.sessions.getD n ReplSession.blank
def onSession (n : Nat) (f : ReplSession → ReplSession) (d : Device) : Device :=
  { d with snap := { d.snap with sessions := modNth d.snap.sessions n f } }

/-- A session enters a state: event 0x0F04. -/
def sessionTo (n st : Nat) (d : Device) : Device :=
  if (sessionOf n d).st == st then d
  else logEvent 0x0F04 0x0040 2 ((sessionOf n d).lastSc * 65536 + st * 256 + n) (onSession n (fun x => { x with st := st }) d)

/-- What is under way at the remote is forgotten; the cycle resumes from the last durable cursor. -/
def rewindSession (n : Nat) (d : Device) : Device :=
  onSession n (fun x => { x with
    cursor := x.durableCursor, started := x.durableStarted, trail := [], safe := x.durableCursor, outstanding := [], reading := none
    sinceCursor := 0, connected := false }) d

/-- The configuration of a session (R485). -/
def sessionCfg (n : Nat) (d : Device) : Nat := odVal 0x3320 (n + 1) d
def sessionOn (n : Nat) (d : Device) : Bool := bit (sessionCfg n d) 0
def sessionSide (n : Nat) (d : Device) : Nat := b2n (bit (sessionCfg n d) 15)
def sessionAlt (n : Nat) (d : Device) : Nat := bits (sessionCfg n d) 23 20

/-- A takeover is complete: sessions that ran at the fenced peer go on here over ALT_PORT, or are held (R480). -/
def adoptSessions (d : Device) : Device :=
  (List.range 16).foldl (fun d n =>
    if !sessionOn n d || sessionSide n d == d.side then d
    else if sessionAlt n d == 15 then sessionTo n 6 d
    else sessionTo n 4 (rewindSession n (onSession n (fun x => { x with reconnectAt := d.time.now }) d))) d

/-- The remote association of a session, or the link that carries it, is lost: it pauses, and reconnects after 5 s (R480). -/
def remoteLoss (n : Nat) (d : Device) : Device :=
  let x := sessionOf n d
  if 16 ≤ n || (x.st != 2 && x.st != 3) then d
  else sessionTo n 4 (onSession n (fun x => { x with reconnectAt := d.time.now + sec 5 }) (rewindSession n d))

/-- The running side has returned. -/
def returnSessions (d : Device) : Device :=
  (List.range 16).foldl (fun d n =>
    if !sessionOn n d || sessionSide n d == d.side then d else sessionTo n 1 (rewindSession n d)) d

/-- The cut takes effect here (R26, R418). -/
def cutSnapshot (n : Nat) (d : Device) : Device :=
  onSnap n (fun s => if s.st == 1 then { s with launched := true } else s) d

/-- A commit group carries the state 2 records of the cuts that have taken effect. -/
def writeLive (d : Device) : Device :=
  (d.snap.snaps.filter fun s => s.st == 1 && s.launched && !s.liveWritten).foldl (fun d s =>
    onSnap s.num (fun s => { s with liveWritten := true }) (snapRecord s 2 d)) d

/-- The state 2 record of a snapshot is durable here: it is live (R465). -/
def liveSnapshot (n : Nat) (d : Device) : Device :=
  match snapOf n d with
  | none => d
  | some s =>
    if s.st != 1 then d
    else logEvent 0x0F01 0x0040 0 (n * 2 ^ 32 + s.ns) (onSnap n (fun s => { s with st := 2 }) d)

/-- The other peer's state 2 record is durable, as its mirrored journal and its HEARTBEAT say; or no peer serves. -/
def peerLive (n : Nat) (d : Device) : Bool :=
  noServingPeer d || d.stripe.mirror.any fun p =>
    p.page.seq ≤ d.peer.peerDurable && p.page.records.any fun r => match r with
      | .snapshot m 2 _ _ _ => m == n
      | _ => false

/-- Creates whose snapshots are live on both peers complete (R469). -/
def settleCreates (d : Device) : Device :=
  let done := d.snap.creates.filter fun c =>
    c.nums.all fun n => ((snapOf n d).map (·.st)) == some 2 && peerLive n d
  done.foldl (fun d c =>
    let d := odBump 0x3300 2 c.nums.length { d with snap := { d.snap with creates := d.snap.creates.filter (· != c) } }
    if c.session.isSome then d
    else
      let record := fun n => leBytes 4 (((snapOf n d).map (·.ns)).getD 0) ++ leBytes 2 n ++ [0, 0]
      if c.all then complete c.q c.tag .success c.nums.length (c.cut % 2 ^ 32) (c.nums.flatMap record) d
      else complete c.q c.tag .success (c.nums.headD 0) (c.cut % 2 ^ 32) [] d) d

/-- A live snapshot is put in state 3, as its delete is accepted or it expires. -/
def deleteSnapshot (n : Nat) (d : Device) : Device :=
  match snapOf n d with
  | none => d
  | some s => snapRecord s 3 (onSnap n (fun s => { s with st := 3 }) d)

/-- A live snapshot that a session no longer needs is deleted, at once or when nothing else holds it (R477). -/
def giveUpSnapshot (n : Nat) (d : Device) : Device :=
  if ((snapOf n d).map (·.st)) != some 2 then d
  else if holdsOf n d == 0 then deleteSnapshot n d
  else onSnap n (fun s => { s with dropDue := true }) d

/-- Snapshot delete (R471). -/
def snapshotDelete (q : QueueRef) (c : Capsule) (d : Device) : Device :=
  let n := c.sqe.cdw11 % 4096
  match snapOf n d with
  | none => completeSt q c.sqe.tag .invalidField d
  | some s =>
    if s.st != 2 || s.ns != c.sqe.nsid then completeSt q c.sqe.tag .invalidField d
    else if holdsOf n d != 0 then completeSt q c.sqe.tag .sequenceError d
    else completeSt q c.sqe.tag .success (deleteSnapshot n d)

/-- A read that has been accepted names the view: a command of a host or of the other peer, or a List long operation that runs (R473). -/
def viewInUse (s : Snapshot) (d : Device) : Bool :=
  let listed := fun x : LongSlot => (x.state == 1 || x.state == 2) && (match x.op with
    | .list ns _ _ _ => ns == 2 ^ 31 + s.num
    | _ => false)
  (d.nvme.cmds.any fun c => c.sqe.nsid == 2 ^ 31 + s.num) || d.admin.slots.any listed

/-- A snapshot ends: the manifests that only it reached die (R471). Its number is free once the record is durable (R465). -/
def endSnapshot (s : Snapshot) (d : Device) : Device :=
  let d := onSnap s.num (fun s => { s with ended := true }) d
  let d := (d.kv.index.filter (·.ns == s.ns)).foldl (fun d e => settleKey e d) d
  logEvent 0x0F02 0x0040 0 (b2n s.expired * 2 ^ 44 + s.num * 2 ^ 32 + s.ns) (odBump 0x3300 3 1 (snapRecord s 0 d))

/-- The record of a deletion is durable: the number is free. -/
def freeSnapshot (n : Nat) (d : Device) : Device :=
  bumpVersion 0x3310 { d with snap := { d.snap with snaps := d.snap.snaps.filter fun s => !(s.num == n && s.ended) } }

/-- A commit-group boundary: snapshots in state 3 end, and live ones whose retention has passed, or that a session has given up, enter it;
both wait while the peer state is 2 (R472). -/
def boundarySnaps (t : Nat) (d : Device) : Device :=
  if d.peer.st == 2 then d
  else
    let ending := d.snap.snaps.filter fun s => s.st == 3 && !s.ended && !viewInUse s d
    let d := ending.foldl (fun d s => endSnapshot s d) d
    let passed := fun s : Snapshot => s.expiry != 0 && s.expiry ≤ t
    (d.snap.snaps.filter fun s => s.st == 2 && holdsOf s.num d == 0 && (s.dropDue || passed s)).foldl
      (fun d s => onSnap s.num (fun y => { y with expired := passed s }) (deleteSnapshot s.num d)) d

/-- A mirrored SNAPSHOT_STATE record of the other peer: its armed snapshots are armed here with their namespace, and its
deletions hold here (R469, R476). -/
def mirrorSnap (n st ns cut expiry : Nat) (d : Device) : Device :=
  match st, snapOf n d with
  | 1, some s => if s.ns == 0 then
      let d := onSnap n (fun s => { s with ns := ns, cut := cut, expiry := expiry }) d
      snapRecord { s with ns := ns, cut := cut, expiry := expiry } 1 d
    else d
  | 1, none =>
    let s : Snapshot := { num := n, ns := ns, cut := cut, expiry := expiry, st := 1, session := none
                          launched := false, liveWritten := false, expired := false, dropDue := false, ended := false }
    snapRecord s 1 (bumpVersion 0x3310 { d with snap := { d.snap with snaps := d.snap.snaps ++ [s] } })
  | 3, some s => if s.st == 2 then onSnap n (fun s => { s with st := 3 }) d else d
  | _, _ => d

end Sys2Proof.Machine
end

