-- ==== Sys2Proof/Machine/Journal.lean ====
section
/-! DEFINITION. The waybill journal: pages of a commit group, the mirror, what a durable record sets off, the ring tail;
the commit group itself (R20, R289, R291 to R296, R333 to R336, R348, R424, R456, R469). -/

namespace Sys2Proof.Machine

/-! ## Pages (R291 to R294) -/

/-- Records in pages of 16,320 record bytes, none across two pages. -/
def splitPages (d : Device) : Nat → List JRecord → List JRecord → List (List JRecord)
  | _, [], [] => []
  | _, page, [] => [page]
  | room, page, r :: rs =>
    let n := recordSize d r
    if n ≤ room || page.isEmpty then splitPages d (room - n) (page ++ [r]) rs
    else page :: splitPages d (16320 - n) [r] rs

/-- The pages of the records queued, with the tick of their commit group. -/
def pagesOf (t : Nat) (d : Device) : List JPage :=
  let parts := splitPages d 16320 [] d.stripe.queued
  parts.zipIdx.map fun p =>
    { seq := d.stripe.pageSeq + 1 + p.2, tick := t
      tail := ((d.stripe.pages.head?).map (·.seq)).getD (d.stripe.pageSeq + 1)
      last := p.2 + 1 == parts.length, index := p.2, records := p.1, local_ := false, mirrored := false }

/-- A page as it goes to the other peer. -/
def JPage.msg (p : JPage) : JournalPageMsg := ⟨p.seq, p.tick, p.tail, p.index, p.last, p.records⟩

/-- This device may place an operation on a channel: it owns it and drives it (R24). -/
def mayDrive (c : Nat) (d : Device) : Bool := ownsChannel c d && bit d.peer.driven c

/-- Program a page of the journal of `side` in the ring of copy `n`. -/
def programCopy (n side : Nat) (p : JPage) (d : Device) : Device :=
  match tblGet? d.stripe.rings n with
  | some m =>
    if !mayDrive m.channel d then d
    else
      let d := nextWriteSeq m d
      emit (.flash 1 m 0 (mediaBytes m (pageBytes n side p d) (loneHeader 6 m.channel d) d)) d
  | none => d

/-- Programs of a page in the readable local copies. -/
def programPage (d : Device) (p : JPage) : Device :=
  ((List.range 3).filter fun n => bit d.stripe.copies n).foldl (fun d n => programCopy n d.side p d) d

/-- 75 % of the ring: event 0x0B03 once for each crossing (R336). -/
def noteRing (d : Device) : Device :=
  let high := 75 ≤ ringUse d
  if high == d.map.ringOver75 then d
  else
    let d := { d with map := { d.map with ringOver75 := high } }
    if high then logEvent 0x0B03 0x0042 1 (ringUse d) d else d

/-- The records of a commit group go to journal pages: to the local copies and to the other peer. A CHECKPOINT_BEGIN gives
its page as the start sequence; blocks that wait for their barrier take the last page. -/
def writePages (t : Nat) (d : Device) : Device :=
  let ps := pagesOf t d
  match ps.getLast? with
  | none => d
  | some lastPage =>
    let cp := d.map.checkpoint.map fun c =>
      match ps.find? fun p => p.records.contains (.checkpointBegin c.num) with
      | some p => { c with start := p.seq, begun := true }
      | none => c
    let blocks := d.map.blocks.map fun b => if b.barrierOpen then { b with barrier := lastPage.seq, barrierOpen := false } else b
    let d := { d with
      stripe := { d.stripe with queued := [], pages := d.stripe.pages ++ ps, pageSeq := lastPage.seq }
      map := { d.map with checkpoint := cp, blocks := blocks } }
    noteRing (sendAll (ps.map fun p => .journalPage p.msg) (ps.foldl programPage d))

/-! ## The tail (R295, R336) -/

/-- A newer record of the kind is durable: two of the kind lie in the durable pages still held (R256). -/
def renewed (kind : JRecord → Bool) (d : Device) : Bool :=
  2 ≤ (((d.stripe.pages.filter fun p => p.seq ≤ d.stripe.durableSeq).flatMap (·.records)).filter kind).length

/-- A record no longer holds its page in the ring. -/
def recordReleased (d : Device) : JRecord → Bool
  | .stripeIssue id _ _ _ _ _ _ _ _ =>
    (match stripeOf id d with
     | some s => s.st != .issued && s.st != .closed
     | none => true)
  | .elementFailed a _ => !(d.stripe.failed.any fun f => f.addr == a && f.st != 5)
  | .erasureList slot _ => (longSlot slot d).state != 2
  | .slotLimit n side _ _ => (slotOf n d).limit side == 0 || renewed (fun r => match r with
      | .slotLimit m x _ _ => m == n && x == side
      | _ => false) d
  | .sealLimit _ => renewed (fun r => match r with
      | .sealLimit _ => true
      | _ => false) d
  | .flushReleased n => d.map.flushes.all fun f => f.num != n || f.released
  | _ => true

/-- The tail passes the pages before S whose records are all released. -/
def advanceTail (d : Device) : Device :=
  let gone := fun p : JPage => p.seq < d.map.startSeq && p.records.all (recordReleased d)
  let d := { d with stripe := { d.stripe with pages := d.stripe.pages.dropWhile gone } }
  noteRing { d with stripe := { d.stripe with tail := ((d.stripe.pages.head?).map (·.seq)).getD (d.stripe.pageSeq + 1) } }

/-! ## Durable records (R291) -/

/-- Limits of every slot and side in fresh records, as a checkpoint writes them after its BEGIN (R256). -/
def renewLimits (d : Device) : Device :=
  d.cipher.slots.foldl (fun d s =>
    let d := if s.2.limitA == 0 then d else journalRecord (.slotLimit s.1 0 s.2.limitA s.2.counterA) d
    if s.2.limitB == 0 then d else journalRecord (.slotLimit s.1 1 s.2.limitB s.2.counterB) d)
    (if d.map.sealLimit == 0 then d else journalRecord (.sealLimit d.map.sealLimit) d)

/-- What flash holds of the store, with one more durable record (R332, R337). -/
def noteDurable (d : Device) (r : JRecord) : Device :=
  match r with
  | .keyVersion ns key mseq tombstone tick =>
    let old := ((d.kv.durable.find? fun e => e.ns == ns && e.key == key).map (·.versions)).getD []
    let e := pruneVersions ⟨ns, key, ⟨tick, mseq, tombstone, false⟩ :: old.filter (·.tick != tick)⟩ d
    let rest := d.kv.durable.filter fun x => !(x.ns == ns && x.key == key)
    { d with kv := { d.kv with durable := if e.versions.isEmpty then rest else insertKey rest e } }
  | .keyRemoved ns key => { d with kv := { d.kv with durable := d.kv.durable.filter fun x => !(x.ns == ns && x.key == key) } }
  | .refCount dom fp num refs dead =>
    let rest := d.kv.durableRefs.filter fun x => !(x.1 == dom && x.2.1 == fp && x.2.2.1 == num)
    { d with kv := { d.kv with durableRefs := rest ++ [(dom, fp, num, refs, dead)] } }
  | .copyRemoved dom fp num =>
    { d with kv := { d.kv with durableRefs := d.kv.durableRefs.filter fun x => !(x.1 == dom && x.2.1 == fp && x.2.2.1 == num) } }
  | .flushReleased n => flushReleased n d
  | _ => d

/-- Manifests that neither a durable version nor one still to become durable names are no longer kept. -/
def settleKept (d : Device) : Device :=
  let named := fun n : Nat => d.kv.durable.any fun e => e.versions.any fun v => v.mseq == n && !v.tombstone
  let pending := fun n : Nat => d.kv.index.any fun e => e.versions.any (·.mseq == n)
  let late := fun n : Nat =>
    let is := fun r : JRecord => match r with
      | .keyVersion _ _ m _ _ => m == n
      | _ => false
    d.stripe.queued.any is || d.stripe.pages.any fun p => d.stripe.durableSeq < p.seq && p.records.any is
  { d with kv := { d.kv with kept := d.kv.kept.filter fun m => named m.seq || pending m.seq || late m.seq } }

/-- What a record sets off once it is durable. -/
def recordDurable (d : Device) (r : JRecord) : Device :=
  match r with
  | .stripeIssue id _ _ _ _ _ _ _ _ => stripeIssueDurable id (onStripe id (fun s => { s with issueDurable := true }) d)
  | .stripeDurable id => stripeRelease id (onStripe id (fun s => { s with durableDurable := true }) d)
  | .elementFailed a _ => startRebuild a d
  | .slotLimit n side limit counter => limitDurable n side limit counter d
  | .keyVersion ns key _ _ t =>
    let ms := d.peer.mirrors.map fun m => if m.ns == ns && m.key == key && m.tick == some t then { m with keyDurable := true } else m
    { d with peer := { d.peer with mirrors := ms } }
  | .sealLimit l => sealDurable l d
  | .checkpointBegin _ => renewLimits d
  | .checkpointDone n start => checkpointDurable n start d
  | .snapshot n 2 _ _ _ => liveSnapshot n d
  | .snapshot n 0 _ _ _ => freeSnapshot n d
  | .replCursor s snap _ key =>
    let upd := fun x : ReplSession => if x.current == some snap then { x with durableCursor := key, durableStarted := true } else x
    { d with snap := { d.snap with sessions := modNth d.snap.sessions s upd } }
  | _ => d

/-- The highest durable sequence: up to the last LAST page that is programmed in every readable copy and, while the link is
up, acknowledged by the mirror. -/
def durableUpTo (d : Device) : Nat :=
  let ok := fun p : JPage => p.local_ && (p.mirrored || !linkIsUp d)
  (d.stripe.pages.filter fun p => p.last && ok p).foldl (fun m p => max m p.seq) d.stripe.durableSeq

/-- Engines whose marked record has become durable see condition 22 (R499). -/
def noteMarked (d : Device) : Device :=
  let durable := fun x : Engine => x.marked && x.appended.any fun p => p ≤ d.stripe.durableSeq
  let engines := d.eng.engines.map fun x => if durable x then { x with conds := setBit x.conds 22 true } else x
  { d with eng := { d.eng with engines := engines } }

/-- Take over the durable sequence, and set off what waited for it. -/
def refreshDurable (d : Device) : Device :=
  let n := durableUpTo d
  let fresh := d.stripe.pages.filter fun p => d.stripe.durableSeq < p.seq && p.seq ≤ n
  if fresh.isEmpty then d
  else
    let d := { d with stripe := { d.stripe with durableSeq := n } }
    let d := (fresh.flatMap (·.records)).foldl (fun d r => recordDurable (noteDurable d r) r) (noteMarked d)
    let d := settleKept d
    let d := releaseThrough (keyVersionDurable d) (releaseWrites d)
    settle (settleCreates (issueClosed (advanceTail d)))

/-- JOURNAL_DURABLE: the pages up to `seq` are programmed in every readable local copy. -/
def journalDurable (seq : Nat) (d : Device) : Device :=
  let pages := d.stripe.pages.map fun p => if p.seq ≤ seq then { p with local_ := true } else p
  refreshDurable { d with stripe := { d.stripe with pages := pages } }

def execJournalDurable (seq : Nat) (s : State) : Host.Outcome State Fault Refusal := next s (journalDurable seq)

/-- JOURNAL_ACK: the mirror holds the pages up to `seq`. -/
def journalAcked (seq : Nat) (d : Device) : Device :=
  let pages := d.stripe.pages.map fun p => if p.seq ≤ seq then { p with mirrored := true } else p
  refreshDurable { d with stripe := { d.stripe with pages := pages } }

def execJournalAck (h : FrameHdr) (seq : Nat) (s : State) : Host.Outcome State Fault Refusal :=
  next s (acceptFrame h 1 (journalAcked seq))

/-- A new counter limit is durable: encryptions that waited for it go on (R256). -/
def execSlotLimitDurable (slot : Nat) (s : State) : Host.Outcome State Fault Refusal :=
  next s fun d =>
    match (slotOf slot d).limitPending with
    | some l => settle (limitDurable slot d.side l ((slotOf slot d).counter d.side) d)
    | none => d

/-! ## The mirror of the other peer's journal (R291, R296) -/

/-- A mirrored REPL_CURSOR of the running side: should it be fenced, the cycle goes on here from that cursor; the snapshot of the cycle
before is the base (R480). -/
def mirrorCursor (n snap tick : Nat) (key : Bytes) (d : Device) : Device :=
  let upd := fun x : ReplSession =>
    let x := if x.current == some snap then x else { x with base := x.current, baseTick := x.currentTick }
    { x with current := some snap, currentTick := tick, durableCursor := key, durableStarted := true }
  { d with snap := { d.snap with sessions := modNth d.snap.sessions n upd } }

/-- The other peer records the death of a copy that it owns: the cached plaintext goes, and a stored form here waits for the reads of both
peers before its blocks are erased (R207, R209). -/
def mirrorDeath (dom : Nat) (fp : Bytes) (num : Nat) (d : Device) : Device :=
  let d := dropCache (fun x => x.domain == dom && x.num == num && x.fp == fp) d
  match copyOf dom fp num d with
  | some c => if c.dead || entryHere dom fp num d then d else recordCopy { c with refs := 0, dead := true, claimants := [] } (buryCopy c d)
  | none => d

/-- The storer of a copy of which the entry is here has moved it: the entry takes the new location (R203). -/
def mirrorMove (dom : Nat) (fp : Bytes) (num : Nat) (old new : List Extent) (d : Device) : Device :=
  match copyOf dom fp num d with
  | some c =>
    if entryHere dom fp num d && c.plain.isEmpty && c.extents == old then
      recordCopy c (onCopy dom fp num (fun c => { c with extents := new, past := (c.past ++ old.map (·.stripe)).eraseDups }) d)
    else d
  | none => d

/-- The other peer has lost units of a stripe of its own: the copies of which the entry is here, and that lie in them, are DETACHED (R306). -/
def mirrorLost (id bitmap : Nat) (d : Device) : Device :=
  let n := peerUnit id d
  let hit := fun c : Copy => entryHere c.domain c.fp c.num d && c.plain.isEmpty &&
    c.extents.any fun e => e.stripe == id && (extentUnits n e).any (bit bitmap ·)
  let lost := d.kv.copies.filter hit
  lost.foldl (fun d c => hotRemove c.domain c.fp c.num <| recordCopy c <|
    onCopy c.domain c.fp c.num (fun c => { c with detached := true, lost := true }) d) d

/-- A write of the other peer has committed: its claims on copies of which the entry is here are committed references (R205). -/
def mirrorCommit (mseq : Nat) (d : Device) : Device :=
  match d.peer.held.findSome? fun h => match h.record with
    | .manifest _ m => if m.seq == mseq then some m else none
    | _ => none with
  | some m => settleRemote m d
  | none => d

/-- What a mirrored record of the other peer means here (R205, R207, R209, R211, R275, R469). -/
def mirrorRecord (d : Device) (r : JRecord) : Device :=
  match r with
  | .refCount dom fp num refs dead => sortMirrored (dom, fp, num) refs dead (if dead then mirrorDeath dom fp num d else d)
  | .copyRelocated dom fp num old new => mirrorMove dom fp num old new d
  | .stripeLost id bitmap _ => mirrorLost id bitmap d
  | .keyVersion _ _ mseq tombstone _ => if tombstone then d else mirrorCommit mseq d
  | .slotLimit n side limit counter => if side == d.side then d else limitDurable n side limit counter d
  | .snapshot n st ns cut expiry => mirrorSnap n st ns cut expiry d
  | .replCursor n snap tick key => mirrorCursor n snap tick key d
  | _ => d

/-- JOURNAL_PAGE: held in DRAM, written as copy 3, acknowledged; pages before its tail go. -/
def journalPage (p : JournalPageMsg) (d : Device) : Device :=
  let page : JPage := { seq := p.seq, tick := p.tick, tail := p.tail, last := p.last, index := p.index, records := p.records
                        local_ := true, mirrored := true }
  let known := d.stripe.mirror.any (·.page.seq == p.seq)
  let kept := d.stripe.mirror.filter fun m => p.tail ≤ m.page.seq
  let mirror := if known then kept else kept ++ [⟨page, d.stripe.copy3⟩]
  let d := { d with stripe := { d.stripe with mirror := mirror } }
  let d := if d.stripe.copy3 && !known then programCopy 3 (1 - d.side) page d else d
  let d := if known then d else p.records.foldl mirrorRecord d
  ioActivity (settleCreates (sendLink (.journalAck p.seq) d))

def execJournalPage (h : FrameHdr) (p : JournalPageMsg) (s : State) : Host.Outcome State Fault Refusal :=
  next s (acceptFrame h 1 (journalPage p))

/-- JOURNAL_RESEND: the live pages of the range go out again. -/
def execJournalResend (h : FrameHdr) (first last : Nat) (s : State) : Host.Outcome State Fault Refusal :=
  next s <| acceptFrame h 1 fun d =>
    sendAll ((d.stripe.pages.filter fun p => first ≤ p.seq && p.seq ≤ last).map fun p => .journalPage p.msg) d

/-! ## The commit group (R20, R424) -/

/-- A commit group of tick `t`: its tick to the writes that wait, the state 2 records of cuts, the ends of snapshots, its
records to journal pages, the completions (posted as each write commits). -/
def commitGroup (t : Nat) (d : Device) : Device :=
  settle (writePages t (boundarySnaps t (writeLive (settleSalts (commitWrites t d)))))

end Sys2Proof.Machine
end

