-- ==== Sys2Proof/Machine/Sequencer.lean ====
section
/-! DEFINITION. The sequencer and ALU of a drover engine, and its machine checks (R489, R495 to R498, R501, R504 to R508). -/

namespace Sys2Proof.Machine

/-! ## Registers and conditions (R497, R498) -/

/-- The word takes effect: the engine is neither reloading nor disabled nor gated. -/
def runsWords (e : Nat) (d : Device) : Bool := e < 64 && (engineOf e d).st ≤ 1

/-- A word's effect on its engine. -/
def word (e : Nat) (f : Device → Device) (d : Device) : Device := if runsWords e d then f d else d

/-- V_n; V_0 reads as zero. -/
def reg (e n : Nat) (d : Device) : Nat := if n == 0 then 0 else tblGetD (engineOf e d).ctx.regs n 0

/-- Change the sequencer context of an engine. -/
def onCtx (e : Nat) (f : SeqCtx → SeqCtx) (d : Device) : Device := onEngine e (fun x => { x with ctx := f x.ctx }) d

/-- Write V_n; V_0 discards. -/
def setReg (e n v : Nat) (d : Device) : Device :=
  if n == 0 then d else onCtx e (fun c => { c with regs := tblStore 0 c.regs n (v % 2 ^ 64) }) d

/-- Set the four flags. -/
def setFlags (e : Nat) (zero neg carry ovf : Bool) (d : Device) : Device :=
  onCtx e (fun c => { c with zero := zero, neg := neg, carry := carry, ovf := ovf }) d

/-- Buffer descriptor BUF_SEL. -/
def bufDesc (e buf : Nat) (d : Device) : BufDesc := tblGetD (engineOf e d).ctx.bufs buf ⟨0, 0, 0⟩

def setBuf (e buf : Nat) (b : BufDesc) (d : Device) : Device :=
  onCtx e (fun c => { c with bufs := tblStore ⟨0, 0, 0⟩ c.bufs buf b, sel := buf }) d

/-- The word names a buffer. -/
def selBuf (e buf : Nat) (d : Device) : Device := onCtx e (fun c => { c with sel := buf }) d

/-- A condition of R497. -/
def condition (e n : Nat) (d : Device) : Bool :=
  let x := engineOf e d
  if n == 0 then true
  else if n == 1 then x.ctx.zero
  else if n == 2 then x.ctx.neg
  else if n == 3 then x.ctx.carry
  else if n == 4 then x.ctx.ovf
  else if n == 29 then (let b := bufDesc e x.ctx.sel d; b.limit ≤ b.cursor)
  else if n == 30 then d.cipher.alarm != 0
  else if n < 32 then bit x.conds n
  else if n < 48 then bit ((x.ctx.desc.map (·.flags)).getD 0) (n - 32)
  else false

/-! ## Work descriptors as bytes (R490) -/

def descBytes (w : WorkDesc) : Bytes :=
  leBytes 1 w.opcode ++ leBytes 1 w.cls ++ leBytes 2 w.flags ++ leBytes 4 0 ++ leBytes 8 w.tag ++ leBytes 4 w.ns ++
    leBytes 2 w.domain ++ leBytes 2 w.slot ++ leBytes 8 w.src ++ leBytes 4 w.srcLen ++ leBytes 4 0 ++ leBytes 8 w.dst ++
    leBytes 8 w.param ++ leBytes 2 w.status ++ leBytes 2 0 ++ leBytes 4 w.cycles

/-! ## ALU (R498) -/

/-- Sign bit of a 64-bit value. -/
def sign64 (v : Nat) : Bool := bit v 63

/-- A result with its flags: carry and overflow as given. -/
def aluWrite (e dst r : Nat) (carry ovf : Bool) (d : Device) : Device :=
  let v := r % 2 ^ 64
  setReg e dst v (setFlags e (v == 0) (sign64 v) carry ovf d)

/-- ADD and ADDI: carry out of bit 63, signed overflow. -/
def aluAdd (e x y dst : Nat) (d : Device) : Device :=
  let r := (x + y) % 2 ^ 64
  aluWrite e dst r (2 ^ 64 ≤ x + y) (sign64 x == sign64 y && sign64 r != sign64 x) d

/-- SUB, CMP and CMPI: the sense of carry is free; signed overflow. -/
def aluSub (e x y dst : Nat) (d : Device) : Device :=
  let r := (x + 2 ^ 64 - y) % 2 ^ 64
  aluWrite e dst r (decide (x < y) == Config.borrowSetsCarry) (sign64 x != sign64 y && sign64 r != sign64 x) d

/-- Operations for which R498 gives no carry and no overflow: both are free. -/
def aluLogic (e code x y r dst : Nat) (d : Device) : Device :=
  aluWrite e dst r (Config.aluCarry code x y) (Config.aluOverflow code x y) d

def execNopOp (e : Nat) (s : State) : Host.Outcome State Fault Refusal := next s (word e fun d => d)
def execMovOp (e a dst : Nat) (s : State) : Host.Outcome State Fault Refusal :=
  next s fun d => word e (setReg e dst (reg e a d)) d
def execAddOp (e a b dst : Nat) (s : State) : Host.Outcome State Fault Refusal :=
  next s fun d => word e (aluAdd e (reg e a d) (reg e b d) dst) d
def execSubOp (e a b dst : Nat) (s : State) : Host.Outcome State Fault Refusal :=
  next s fun d => word e (aluSub e (reg e a d) (reg e b d) dst) d
def execAndOp (e a b dst : Nat) (s : State) : Host.Outcome State Fault Refusal :=
  next s fun d => word e (aluLogic e 4 (reg e a d) (reg e b d) (reg e a d &&& reg e b d) dst) d
def execOrOp (e a b dst : Nat) (s : State) : Host.Outcome State Fault Refusal :=
  next s fun d => word e (aluLogic e 5 (reg e a d) (reg e b d) (reg e a d ||| reg e b d) dst) d
def execXorOp (e a b dst : Nat) (s : State) : Host.Outcome State Fault Refusal :=
  next s fun d => word e (aluLogic e 6 (reg e a d) (reg e b d) (reg e a d ^^^ reg e b d) dst) d
def execShlOp (e a b dst : Nat) (s : State) : Host.Outcome State Fault Refusal :=
  next s fun d => word e (aluLogic e 7 (reg e a d) (reg e b d) (reg e a d * 2 ^ (reg e b d % 64)) dst) d
def execShrOp (e a b dst : Nat) (s : State) : Host.Outcome State Fault Refusal :=
  next s fun d => word e (aluLogic e 8 (reg e a d) (reg e b d) (reg e a d / 2 ^ (reg e b d % 64)) dst) d
def execAddiOp (e a imm dst : Nat) (s : State) : Host.Outcome State Fault Refusal :=
  next s fun d => word e (aluAdd e (reg e a d) (imm % 65536) dst) d
def execLdiOp (e imm dst : Nat) (s : State) : Host.Outcome State Fault Refusal :=
  next s (word e (setReg e dst (imm % 65536)))
def execLdihOp (e a imm dst : Nat) (s : State) : Host.Outcome State Fault Refusal :=
  next s fun d => word e (setReg e dst ((reg e a d * 65536) % 2 ^ 64 ||| imm % 65536)) d
def execCmpOp (e a b : Nat) (s : State) : Host.Outcome State Fault Refusal :=
  next s fun d => word e (aluSub e (reg e a d) (reg e b d) 0) d
def execCmpiOp (e a imm : Nat) (s : State) : Host.Outcome State Fault Refusal :=
  next s fun d => word e (aluSub e (reg e a d) (imm % 65536) 0) d
def execMulOp (e a b dst : Nat) (s : State) : Host.Outcome State Fault Refusal :=
  next s fun d => word e (aluLogic e 14 (reg e a d) (reg e b d) (reg e a d * reg e b d) dst) d
def execMinOp (e a b dst : Nat) (s : State) : Host.Outcome State Fault Refusal :=
  next s fun d => word e (aluLogic e 15 (reg e a d) (reg e b d) (min (reg e a d) (reg e b d)) dst) d
def execMaxOp (e a b dst : Nat) (s : State) : Host.Outcome State Fault Refusal :=
  next s fun d => word e (aluLogic e 16 (reg e a d) (reg e b d) (max (reg e a d) (reg e b d)) dst) d
/-- GET: result port ALU_A; the engine has ports 0 to 7 (R499). -/
def execGetOp (e port dst : Nat) (s : State) : Host.Outcome State Fault Refusal :=
  next s fun d => word e (setReg e dst ((engineOf e d).ports.getD port 0)) d
def execBsetOp (e a b buf : Nat) (s : State) : Host.Outcome State Fault Refusal :=
  next s fun d => word e (setBuf e buf ⟨reg e a d, reg e b d, 0⟩) d
def execBadvOp (e a buf : Nat) (s : State) : Host.Outcome State Fault Refusal :=
  next s fun d =>
    let x := bufDesc e buf d
    word e (setBuf e buf { x with cursor := (x.cursor + reg e a d) % 2 ^ 64 }) d
/-- LDD: 8 bytes of the descriptor at IMM[5:3] × 8; zero without a descriptor. -/
def execLddOp (e imm dst : Nat) (s : State) : Host.Outcome State Fault Refusal :=
  next s fun d =>
    let bytes := ((engineOf e d).ctx.desc.map descBytes).getD []
    word e (setReg e dst (leAt bytes (bits imm 5 3 * 8) 8)) d
/-- STD: bytes 56 and 57 of the descriptor, the return status, take the value. -/
def execStdOp (e a : Nat) (s : State) : Host.Outcome State Fault Refusal :=
  next s fun d =>
    let v := reg e a d % 65536
    word e (onCtx e fun c => { c with desc := c.desc.map fun w => { w with status := v } }) d
def execBswapOp (e a dst : Nat) (s : State) : Host.Outcome State Fault Refusal :=
  next s fun d => word e (setReg e dst (beNat (leBytes 8 (reg e a d)))) d
/-- Ones in a value. -/
def ones (v : Nat) : Nat := ((List.range 64).filter fun n => bit v n).length
def execPopcntOp (e a dst : Nat) (s : State) : Host.Outcome State Fault Refusal :=
  next s fun d => word e (setReg e dst (ones (reg e a d))) d

/-! ## Stopped clusters (R506, R508) -/

/-- Engines of a cluster that are not disabled. -/
def liveEngines (c : Nat) (d : Device) : Nat :=
  ((List.range 16).filter fun n => (engineOf (16 * c + n) d).st != 3).length

/-- A cluster with fewer than 3 such engines stops: its queue passes on, its gathering stripes issue padded, it is gated; with
every cluster stopped the device has a fatal error. -/
def stopCluster (c : Nat) (d : Device) : Device :=
  if clusterStopped c d then d
  else
    let q := clusterQueue c d
    let d := odPut 0x2F20 0x0C (setBit (odVal 0x2F20 0x0C d) c true) (setQueue c [] d)
    let engines := d.eng.engines.zipIdx.map fun e =>
      if clusterOf e.2 == c && e.1.ctx.desc.isNone && e.1.parked.isNone then { e.1 with st := 3 } else e.1
    let d := { d with eng := { d.eng with engines := engines } }
    let d := closeGathers (fun g => g.cluster == c) d
    let d := setDomain (16 + c) false (logEvent 0x1004 (0x0280 + c) 2 c d)
    match runningClusters d with
    | [] => declareFatal 0x0005 d
    | r :: _ => q.foldl (fun d w => postTo r w d) d

/-- An engine is disabled until the next release of PORST_N. -/
def disableEngine (e : Nat) (d : Device) : Device :=
  let d := onEngine e (fun x => { x with st := 3 }) d
  let d := odPut 0x2F20 0x0B (setBit (odVal 0x2F20 0x0B d) e true) d
  let d := raiseEmcy (0x10020000 + e) 0xFF00 0x1002 (logEvent 0x1002 (0x0200 + e) 2 e d)
  if liveEngines (clusterOf e) d < 3 then stopCluster (clusterOf e) d else d

/-- The queue of the cluster whose turn it is in an activation passes to another running cluster. -/
def yieldQueue (c : Nat) (d : Device) : Device :=
  match (runningClusters d).filter (· != c) with
  | [] => d
  | r :: _ => (clusterQueue c d).foldl (fun d w => postTo r w d) (setQueue c [] d)

/-- An activation (R514): the cluster whose turn it is has let its descriptors halt and is loaded; then the next one. -/
def activateStep : Nat → Device → Device
  | 0, d => d
  | n + 1, d =>
    match d.eng.activating with
    | [] => d
    | c :: rest =>
      let busy := (List.range 16).any fun k =>
        (engineOf (16 * c + k) d).ctx.desc.isSome || (engineOf (16 * c + k) d).parked.isSome
      if busy then d
      else
        let engines := d.eng.engines.zipIdx.map fun e =>
          if clusterOf e.2 == c && e.1.st < 3 then { e.1 with st := 0, ctx := SeqCtx.blank } else e.1
        let image := if domainOn (16 + c) d then modNth d.eng.image c fun _ => d.eng.dramImage else d.eng.image
        let d := { d with eng := { d.eng with engines := engines, image := image, activating := rest } }
        match rest with
        | [] => logEvent 0x1006 0x0073 0 (odVal 0x2F20 3 d * 2 ^ 32 + bits (odVal 0x2210 1 d) 19 16) (odPut 0x2F20 5 2 d)
        | r :: _ => activateStep n (yieldQueue r d)

/-- The engine in a stopped cluster that has finished its descriptor is disabled; an activation goes on. -/
def settleStopped (e : Nat) (d : Device) : Device :=
  activateStep 5
    (if clusterStopped (clusterOf e) d && (engineOf e d).st == 0 && (engineOf e d).parked.isNone then onEngine e (fun x => { x with st := 3 }) d else d)

/-! ## Machine checks (R504, R505, R507) -/

/-- What an engine had under way ends without output: AES requests, movers, units, flash tokens. -/
def cancelUnits (e : Nat) (d : Device) : Device :=
  let d := match (engineOf e d).flash.bind fun id => opOf id d with
    | some o => endOp o d
    | none => d
  onEngine e (fun x => { x with
    aes := [], rd := none, wr := none, defl := ⟨none, [], []⟩, sha := ⟨[], [], none⟩, flash := none, tokens := 0, search := none
    chunker := ⟨false, [], [], []⟩ }) d

/-- An engine that is to be disabled gives back the background descriptor that it had set aside. -/
def returnParked (e : Nat) (d : Device) : Device :=
  match (engineOf e d).parked.bind (·.desc) with
  | some w => descriptorReturn w.tag 1 (some w) (onEngine e (fun x => { x with parked := none }) d)
  | none => d

/-- A machine check: the engine halts, its descriptor returns with status 1, and its control store is loaded again, or the
second check within 1 h disables it. -/
def machineCheck (e kind groups : Nat) (d : Device) : Device :=
  let x := engineOf e d
  if 64 ≤ e || 3 ≤ x.st then d
  else
    let since := d.time.now - sec 3600
    let checks := x.checks.filter (since ≤ ·) ++ [d.time.now]
    let w := x.ctx.desc
    let d := odBump 0x2F20 9 1 (cancelUnits e d)
    let d := onEngine e (fun x => { x with checks := checks }) d
    let d := match w with
      | some w => descriptorReturn w.tag 1 (some w) d
      | none => d
    let detail := kind * 2 ^ 40 + groups % 256 * 2 ^ 32 + x.ctx.pc * 2 ^ 16 + e
    let d := logEvent 0x1001 (0x0200 + e) 2 detail d
    if 2 ≤ checks.length then disableEngine e (returnParked e d)
    else settleStopped e (odBump 0x2F20 0x0A 1 (onEngine e (fun x => { x with st := 0, ctx := SeqCtx.blank }) d))

def execMachineCheck (e kind groups : Nat) (s : State) : Host.Outcome State Fault Refusal := next s (machineCheck e kind groups)

/-- A descriptor has run for the limit of OD 0x2F20:08; a background slice counts its own running time. -/
def execDescriptorTimeLimit (e : Nat) (s : State) : Host.Outcome State Fault Refusal :=
  next s fun d =>
    let x := engineOf e d
    if x.st == 1 && x.ctx.desc.isSome then
      machineCheck e 3 0 (waitUntil (x.since + ms (odVal 0x2F20 8 d) - x.ctx.ran) d)
    else d

/-! ## Taking descriptors (R489, R501) -/

/-- A descriptor of a class below background waits in the engine's cluster. -/
def higherWaits (e : Nat) (d : Device) : Bool := (clusterQueue (clusterOf e) d).any fun w => w.cls < 4

/-- DISPATCH: the next descriptor, or the parked background one; an opcode without an entry returns with status 2. -/
def dispatch (e : Nat) (d : Device) : Device :=
  let x := engineOf e d
  match x.parked with
  | some c => if higherWaits e d then takeNext d else
      onEngine e (fun x => { x with ctx := c, parked := none, st := 1, since := d.time.now }) d
  | none => takeNext d
where
  takeNext (d : Device) : Device :=
    takeDesc (fun w => descriptorReturn w.tag 2 (some w)) ((clusterQueue (clusterOf e) d).length + 1) e d

/-- The engine's descriptor is returned with a status. -/
def returnDesc (e status : Nat) (d : Device) : Device :=
  match (engineOf e d).ctx.desc with
  | none => d
  | some w =>
    let d := onEngine e (fun x => { x with st := 0, ctx := { x.ctx with desc := none, stack := [] } }) d
    settleStopped e (descriptorReturn w.tag status (some w) d)

/-- BACKGROUND_SLICE_END: after 1 ms a background descriptor gives way to a waiting one of a higher class. -/
def sliceEnd (e : Nat) (d : Device) : Device :=
  let x := engineOf e d
  match x.ctx.desc with
  | none => d
  | some w =>
    if x.st != 1 || w.cls != 4 then d
    else
      let d := engineCond e 31 true (waitUntil (x.since + ms 1) d)
      let c := { x.ctx with ran := x.ctx.ran + ms 1 }
      if higherWaits e d && x.parked.isNone then
        dispatch e (onEngine e (fun x => { x with parked := some c, st := 0, ctx := { c with desc := none, stack := [] } }) d)
      else onEngine e (fun x => { x with ctx := c, since := d.time.now }) d

def execBackgroundSliceEnd (e : Nat) (s : State) : Host.Outcome State Fault Refusal := next s (sliceEnd e)

/-! ## The next address (R496) -/

def setPc (e pc : Nat) (d : Device) : Device := onCtx e (fun c => { c with pc := pc % 4096 }) d

def pcOf (e : Nat) (d : Device) : Nat := (engineOf e d).ctx.pc

def execNextSeq (e : Nat) (s : State) : Host.Outcome State Fault Refusal :=
  next s fun d => word e (setPc e (pcOf e d + 1)) d
def execJumpSeq (e target : Nat) (s : State) : Host.Outcome State Fault Refusal := next s (word e (setPc e target))
def execBranchTrue (e target cond : Nat) (s : State) : Host.Outcome State Fault Refusal :=
  next s fun d => word e (setPc e (if condition e cond d then target else pcOf e d + 1)) d
def execBranchFalse (e target cond : Nat) (s : State) : Host.Outcome State Fault Refusal :=
  next s fun d => word e (setPc e (if condition e cond d then pcOf e d + 1 else target)) d

/-- CALL: a push onto a full stack of 8 raises a machine check, and the word takes no effect. -/
def callWord (e target : Nat) (d : Device) : Device :=
  if 8 ≤ (engineOf e d).ctx.stack.length then machineCheck e 2 0 d
  else onCtx e (fun c => { c with stack := (c.pc + 1) % 4096 :: c.stack, pc := target % 4096 }) d

def execCallSeq (e target : Nat) (s : State) : Host.Outcome State Fault Refusal := next s (word e (callWord e target))

/-- RETURN: a pop from an empty stack raises a machine check. -/
def returnWord (e : Nat) (d : Device) : Device :=
  match (engineOf e d).ctx.stack with
  | [] => machineCheck e 2 0 d
  | a :: rest => onCtx e (fun c => { c with stack := rest, pc := a }) d

def execReturnSeq (e : Nat) (s : State) : Host.Outcome State Fault Refusal := next s (word e (returnWord e))

/-- DISPATCH waits while the queue is empty; a descriptor that the engine still holds stays with it until HALT. -/
def execDispatchSeq (e : Nat) (s : State) : Host.Outcome State Fault Refusal :=
  next s (word e fun d => if (engineOf e d).ctx.desc.isSome then d else dispatch e d)

/-- HALT: the descriptor returns with the status in V_1[15:0], and the engine takes the next one. -/
def execHaltSeq (e : Nat) (s : State) : Host.Outcome State Fault Refusal :=
  next s (word e fun d => dispatch e (returnDesc e (reg e 1 d % 65536) d))

end Sys2Proof.Machine
end

