-- ==== Sys2Proof/Machine/EngUnits.lean ====
section
/-! DEFINITION. The units of a drover engine as its microcode commands them, and the ends of their work (R183, R189, R235 to
R239, R247 to R251, R253 to R263, R282, R283, R322, R499). -/

namespace Sys2Proof.Machine

/-! ## Buffers and ports -/

/-- The bytes of a buffer, from its cursor up to its limit. -/
def bufBytes (e buf : Nat) (d : Device) : Bytes :=
  let b := bufDesc e buf d
  memRead (engineOf e d).mem (b.addr + b.cursor) (b.limit - b.cursor)

/-- A unit writes into a buffer, from its cursor, no further than its limit; the cursor stays where it is. -/
def putBytes (e buf : Nat) (bs : Bytes) (d : Device) : Device :=
  let b := bufDesc e buf d
  onEngine e (fun x => { x with mem := memWrite x.mem (b.addr + b.cursor) (bs.take (b.limit - b.cursor)) }) d

def setPort (e n v : Nat) (d : Device) : Device := onEngine e (fun x => { x with ports := x.ports.set n (v % 2 ^ 64) }) d

/-- Set several conditions of an engine. -/
def setConds (e : Nat) (l : List (Nat × Bool)) (d : Device) : Device := l.foldl (fun d c => engineCond e c.1 c.2 d) d

/-- A word that names a buffer and commands a unit. -/
def bufWord (e buf : Nat) (f : Device → Device) (d : Device) : Device := word e (fun d => f (selBuf e buf d)) d

/-- The descriptor under work, or one of zeros. -/
def curDesc (e : Nat) (d : Device) : WorkDesc := ((engineOf e d).ctx.desc).getD (blankDesc 0 4 0)

/-- The command, the number of the item and the item that the engine's descriptor works on. -/
def curItem (e : Nat) (d : Device) : Option (Cmd × Nat × Item) :=
  match (engineOf e d).ctx.desc with
  | none => none
  | some w => (cmdOf (tagCmd w.tag) d).bind fun c => (c.items[tagItem w.tag]?).map fun i => (c, tagItem w.tag, i)

/-! ## Chunker (R183, R184, R187) -/

def chunkStart (e buf : Nat) (d : Device) : Device :=
  let bs := bufBytes e buf d
  setConds e [(5, false), (6, bs.isEmpty)] (onEngine e (fun x => { x with chunker := ⟨true, bs, [], gearTable d⟩ }) d)

def execChunkStart (e buf : Nat) (s : State) : Host.Outcome State Fault Refusal := next s (bufWord e buf (chunkStart e buf))

/-- The next cut: its chunk has been passed; at the end of the value condition 6 stands. -/
def chunkNext (e : Nat) (d : Device) : Device :=
  let c := (engineOf e d).chunker
  if !c.active || c.rest.isEmpty then setConds e [(5, false), (6, true)] d
  else
    let n := cutLength c.table 0 0 c.rest
    let d := setPort e 0 n (onEngine e (fun x => { x with chunker := { c with rest := c.rest.drop n, chunk := c.rest.take n } }) d)
    setConds e [(5, true), (6, (c.rest.drop n).isEmpty)] d

def execChunkNext (e : Nat) (s : State) : Host.Outcome State Fault Refusal := next s (word e (chunkNext e))
def execChunkStop (e : Nat) (s : State) : Host.Outcome State Fault Refusal :=
  next s (word e (onEngine e fun x => { x with chunker := { x.chunker with active := false, rest := [] } }))

/-! ## SHA-256 (R189) -/

def shaBegin (e : Nat) (pre : Bytes) (d : Device) : Device :=
  engineCond e 7 true (onEngine e (fun x => { x with sha := ⟨pre, pre, none⟩ }) d)

/-- START with the prefix of R189: hardware loads the salt of the descriptor's domain and its slot. -/
def execShaStartPrefix (e : Nat) (s : State) : Host.Outcome State Fault Refusal :=
  next s (word e fun d => let w := curDesc e d; shaBegin e (fpPrefix (saltOf w.domain d) w.slot) d)
def execShaStart (e : Nat) (s : State) : Host.Outcome State Fault Refusal := next s (word e (shaBegin e []))

/-- FEED: the unit works until SHA_DONE. -/
def shaFeed (e : Nat) (bs : Bytes) (d : Device) : Device :=
  engineCond e 7 false (onEngine e (fun x => { x with sha := { x.sha with msg := x.sha.msg ++ bs } }) d)

def execShaFeedChunk (e : Nat) (s : State) : Host.Outcome State Fault Refusal :=
  next s (word e fun d => shaFeed e (engineOf e d).chunker.chunk d)
def execShaFeedBuffer (e buf : Nat) (s : State) : Host.Outcome State Fault Refusal :=
  next s (bufWord e buf fun d => shaFeed e (bufBytes e buf d) d)

/-- The digest goes to the buffer and to ports 1 to 4, and the unit starts over with the prefix that it held. -/
def shaDigest (e buf : Nat) (d : Device) : Device :=
  let h := sha256 (engineOf e d).sha.msg
  let d := (List.range 4).foldl (fun d n => setPort e (n + 1) (leAt h (8 * n) 8) d) (putBytes e buf h d)
  onEngine e (fun x => { x with sha := { x.sha with msg := x.sha.start, finish := none } }) d

/-- FINISH: at once when the unit is done, otherwise at SHA_DONE. -/
def shaFinish (e buf : Nat) (d : Device) : Device :=
  if condition e 7 d then shaDigest e buf d
  else onEngine e (fun x => { x with sha := { x.sha with finish := some buf } }) d

def execShaFinish (e buf : Nat) (s : State) : Host.Outcome State Fault Refusal := next s (bufWord e buf (shaFinish e buf))

/-- SHA_DONE: all that was fed has been hashed; a FINISH that waited gives its digest. -/
def shaDone (e : Nat) (d : Device) : Device :=
  let d := engineCond e 7 true d
  match (engineOf e d).sha.finish with
  | some buf => shaDigest e buf d
  | none => d

def execShaDone (e : Nat) (s : State) : Host.Outcome State Fault Refusal := next s (shaDone e)

/-! ## Deflate (R247 to R251) -/

/-- COMPRESS: the unit works on the buffer until COMPRESS_DONE. -/
def compress (e buf : Nat) (d : Device) : Device :=
  let bs := bufBytes e buf d
  setConds e [(8, false), (9, false), (10, false)] (onEngine e (fun x => { x with defl := ⟨some (buf, false), bs, []⟩ }) d)

def execCompress (e buf : Nat) (s : State) : Host.Outcome State Fault Refusal := next s (bufWord e buf (compress e buf))

/-- The new copy that a STORE_COPY descriptor names: command, item, chunk and its place. -/
def curChunk (e : Nat) (d : Device) : Option (Cmd × Nat × Item × Nat × WorkChunk) :=
  match (engineOf e d).ctx.desc, curItem e d with
  | some w, some (c, n, i) =>
    if tagPart w.tag == 0 then none
    else (i.chunks[tagPart w.tag - 1]?).map fun k => (c, n, i, tagPart w.tag - 1, k)
  | _, _ => none

/-- COMPRESS_DONE: the verifier has reached the end of the stream, or found a mismatch; the encoding is chosen (R248, R249). -/
def compressDone (e : Nat) (mismatch : Bool) (d : Device) : Device :=
  let x := engineOf e d
  match x.defl.work with
  | none => d
  | some _ =>
    let w := curDesc e d
    let off := match curItem e d with
      | some (_, _, i) => compressOff i.policy
      | none => false
    let r := chooseEncoding off (some e) mismatch w.domain w.param x.defl.input d
    let out := if r.1 then [] else Config.deflateOutput x.defl.input
    let gain := !r.1 || mismatch || off || bit d.cipher.disabled e
    let d := onEngine e (fun x => { x with defl := { x.defl with work := none, out := out } }) r.2
    let d := setConds e [(8, true), (9, mismatch), (10, !gain)] (setPort e 5 (Config.deflateOutput x.defl.input).length d)
    match curChunk e d with
    | some (c, n, _, k, _) => onChunk c.id n k (fun y => { y with raw := some r.1 }) d
    | none => d

def execCompressDone (e : Nat) (mismatch : Bool) (s : State) : Host.Outcome State Fault Refusal :=
  next s (compressDone e mismatch)

/-- DECOMPRESS: the buffer's stream gives as many bytes as the descriptor's source length, or fails (R251). -/
def decompress (e buf : Nat) (d : Device) : Device :=
  match inflate (bufBytes e buf d) (curDesc e d).srcLen with
  | some bs => engineCond e 11 false (putBytes e buf bs d)
  | none => engineCond e 11 true d

def execDecompress (e buf : Nat) (s : State) : Host.Outcome State Fault Refusal := next s (bufWord e buf (decompress e buf))

/-- DISCARD: the output goes, and what is encrypted next is the plain chunk. -/
def execDiscard (e : Nat) (s : State) : Host.Outcome State Fault Refusal :=
  next s (word e (onEngine e fun x => { x with defl := ⟨none, [], []⟩ }))

/-! ## AES-256-GCM (R253 to R263, R322) -/

/-- A request joins the queue of 8; a full queue holds the word. -/
def queueAes (e : Nat) (r : AesReq) (d : Device) : Device :=
  setConds e [(12, false), (13, false), (14, false)] (onEngine e (fun x => { x with aes := x.aes ++ [r] }) d)

def aesFull (e : Nat) (d : Device) : Bool := 8 ≤ (engineOf e d).aes.length

/-- ENCRYPT under the descriptor's slot: hardware takes the invocation (R255). It encrypts the compressor's output, or the
buffer when there is none; at the durable limit the word waits. -/
def encrypt (e buf : Nat) (d : Device) : Device :=
  if aesFull e d then d
  else
    let w := curDesc e d
    let x := engineOf e d
    let r := takeInvocation w.slot d
    match r.1 with
    | .refused => engineCond e 14 true r.2
    | .waits => r.2
    | .gives v =>
      let data := if x.defl.out.isEmpty then bufBytes e buf d else x.defl.out
      let d := queueAes e ⟨.encrypt, buf, w.slot, v, b2n (!x.defl.out.isEmpty), data⟩ r.2
      match curChunk e d with
      | some (c, n, _, k, _) => onChunk c.id n k (fun y => { y with invocation := some v }) d
      | none => d

def execEncrypt (e buf : Nat) (s : State) : Host.Outcome State Fault Refusal := next s (bufWord e buf (encrypt e buf))

/-- DECRYPT under the slot of the copy. -/
def execDecrypt (e buf : Nat) (s : State) : Host.Outcome State Fault Refusal :=
  next s (bufWord e buf fun d =>
    if aesFull e d then d else queueAes e ⟨.decrypt, buf, (curDesc e d).slot, 0, 0, bufBytes e buf d⟩ d)

/-- SEAL: the next seal count, within its reserved limit (R322). -/
def sealWord (e buf : Nat) (d : Device) : Device :=
  if aesFull e d || !sealsLeft 1 d then reserveSeals d
  else
    let n := d.map.sealCount + 1
    let d := reserveSeals { d with map := { d.map with sealCount := n } }
    queueAes e ⟨.seal, buf, 0, n, 0, bufBytes e buf d⟩ d

def execSealPage (e buf : Nat) (s : State) : Host.Outcome State Fault Refusal := next s (bufWord e buf (sealWord e buf))
def execOpenPage (e buf : Nat) (s : State) : Host.Outcome State Fault Refusal :=
  next s (bufWord e buf fun d => if aesFull e d then d else queueAes e ⟨.open_, buf, 0, 0, 0, bufBytes e buf d⟩ d)

/-- CANCEL: the queued requests end without output. -/
def execAesCancel (e : Nat) (s : State) : Host.Outcome State Fault Refusal :=
  next s (word e (onEngine e fun x => { x with aes := [] }))

/-- The IV of a sealed map page (R322). -/
def sealIv (side n : Nat) : Bytes := beBytes 4 (2 ^ 31 + side * 4096) ++ beBytes 8 (n % 2 ^ 48)

/-- A map page sealed: bytes 0 to 47 in clear, with the seal count at 40. -/
def sealedPage (key side n : Nat) (page : Bytes) : Bytes :=
  let head := page.take 40 ++ leBytes 8 n
  let ct := gcmSeal (leBytes 32 key) (sealIv side n) head (page.drop 48)
  head ++ ct.1 ++ ct.2

/-- A sealed map page opened. -/
def openedPage (key : Nat) (page : Bytes) : Option Bytes :=
  let body := page.drop 48
  if body.length < 16 then none
  else (gcmOpen (leBytes 32 key) (sealIv (leAt page 4 1 % 2) (leAt page 40 8)) (page.take 48)
    (body.take (body.length - 16)) (body.drop (body.length - 16))).map fun b => page.take 48 ++ b

/-- What a request gives: output, nothing because the state refuses it, or a tag failure. -/
inductive AesEnd where
  | out (bs : Bytes)
  | refused
  | tagFailed
  deriving DecidableEq, Repr

/-- Identity of the copy that a descriptor works on: domain, copy number, plain length and fingerprint. -/
def copyIdent (e : Nat) (d : Device) : Nat × Nat × Nat × Bytes :=
  let w := curDesc e d
  let digest := ((engineOf e d).ports.drop 1).take 4 |>.flatMap fun p => leBytes 8 p
  match curChunk e d with
  | some (_, _, i, _, k) => (i.domain, k.copy.getD 0, k.data.length, k.fp)
  | none => match cmdOf (tagCmd w.tag) d with
    | some c => (match c.parts, c.named with
      | ch :: _, some m => (m.domain, ch.copy, ch.len, ch.fp)
      | _, _ => (w.domain, w.param, w.srcLen, digest))
    | none => (w.domain, w.param, w.srcLen, digest)

/-- The request at the head of the queue starts and ends; the state of its slot counts now (R262). -/
def aesResult (e : Nat) (r : AesReq) (d : Device) : AesEnd :=
  let k := slotOf r.slot d
  let (dom, num, len, fp) := copyIdent e d
  match r.kind with
  | .encrypt =>
    (match k.key with
     | some key => if k.st != .active || d.cipher.alarm != 0 then .refused
        else .out (storedForm key d.side r.slot r.invocation (copyAad dom r.slot num len fp r.enc) r.data r.enc)
     | none => .refused)
  | .decrypt =>
    (match k.key with
     | some key => if (k.st != .active && k.st != .decryptOnly) || d.cipher.alarm != 0 then .refused
        else match openForm key r.slot (copyAad dom r.slot num len fp (leAt r.data 7 1)) r.data with
          | some bs => .out bs
          | none => .tagFailed
     | none => .refused)
  | .seal =>
    (match d.peer.mapKey with
     | some key => .out (sealedPage key d.side r.invocation r.data)
     | none => .refused)
  | .open_ =>
    (match d.peer.mapKey with
     | some key => (match openedPage key r.data with
       | some bs => .out bs
       | none => .tagFailed)
     | none => .refused)

/-- AES_REQUEST_COMPLETE: verified plaintext or output goes to the buffer; a tag failure of a copy is counted and logged (R263). -/
def aesComplete (e : Nat) (d : Device) : Device :=
  match (engineOf e d).aes with
  | [] => d
  | r :: rest =>
    let d := onEngine e (fun x => { x with aes := rest }) d
    match aesResult e r d with
    | .out bs =>
      let d := if r.kind == .encrypt then onEngine e (fun x => { x with defl := { x.defl with out := [] } }) d else d
      setConds e [(12, true), (13, false), (14, false)] (putBytes e r.buf bs d)
    | .refused => setConds e [(12, true), (14, true)] d
    | .tagFailed =>
      let (dom, num, _, _) := copyIdent e d
      let d := if r.kind == .decrypt then logEvent 0x0904 0x0030 2 (dom * 2 ^ 48 + r.slot * 2 ^ 32 + num) (odBump 0x2800 6 1 d) else d
      setConds e [(12, true), (13, true)] d

def execAesRequestComplete (e : Nat) (s : State) : Host.Outcome State Fault Refusal := next s (aesComplete e)

/-! ## GF(2^8) parity (R282, R283) -/

/-- Exclusive-or, the shorter padded with zeros. -/
def xorPad (a b : Bytes) : Bytes :=
  let n := max a.length b.length
  xorBytes (padTo n a) (padTo n b)

/-- The unit has work until GF_UNIT_DONE. -/
def gfWork (e : Nat) (f : GfUnit → GfUnit) (d : Device) : Device :=
  engineCond e 15 false (onEngine e (fun x => { x with gf := { f x.gf with busy := true } }) d)

def execGfClear (e : Nat) (s : State) : Host.Outcome State Fault Refusal :=
  next s (word e (gfWork e fun g => { g with p := [], q := [] }))

/-- ACCUMULATE data unit i: P takes D_i, Q takes g^i · D_i. -/
def execGfAccumulate (e buf imm : Nat) (s : State) : Host.Outcome State Fault Refusal :=
  next s (bufWord e buf fun d =>
    let u := bufBytes e buf d
    gfWork e (fun g => { g with p := xorPad g.p u, q := xorPad g.q (u.map (rsScale (imm % 32))) }) d)

def execEmitP (e buf : Nat) (s : State) : Host.Outcome State Fault Refusal :=
  next s (bufWord e buf fun d => gfWork e id (putBytes e buf (engineOf e d).gf.p d))
def execEmitQ (e buf : Nat) (s : State) : Host.Outcome State Fault Refusal :=
  next s (bufWord e buf fun d => gfWork e id (putBytes e buf (engineOf e d).gf.q d))

/-- SOLVE one: the buffer holds P; D_x is P with every readable unit removed. -/
def execSolveOne (e buf imm : Nat) (s : State) : Host.Outcome State Fault Refusal :=
  next s (bufWord e buf fun d =>
    let _x := imm % 32
    gfWork e id (putBytes e buf (xorPad (bufBytes e buf d) (engineOf e d).gf.p) d))

/-- SOLVE two: the buffer holds P and then Q; D_x and then D_y take their place. -/
def execSolveTwo (e buf imm : Nat) (s : State) : Host.Outcome State Fault Refusal :=
  next s (bufWord e buf fun d =>
    let bs := bufBytes e buf d
    let n := bs.length / 2
    let g := (engineOf e d).gf
    let r := solveTwo (imm % 32) (imm / 32 % 32) (xorBytes (bs.take n) (padTo n g.p)) (xorBytes ((bs.drop n).take n) (padTo n g.q))
    gfWork e id (putBytes e buf (r.1 ++ r.2) d))

def execGfUnitDone (e : Nat) (s : State) : Host.Outcome State Fault Refusal :=
  next s fun d => if (engineOf e d).gf.busy then
    engineCond e 15 true (onEngine e (fun x => { x with gf := { x.gf with busy := false } }) d) else d

/-! ## Movers (R499, R520 to R522) -/

/-- A mover that has a transfer under way holds the word. -/
def moverRead (e code a buf : Nat) (d : Device) : Device :=
  if (engineOf e d).rd.isSome then d
  else engineCond e 16 false (onEngine e (fun x => { x with rd := some ⟨code, reg e a d, buf⟩ }) d)
def moverWrite (e code b buf : Nat) (d : Device) : Device :=
  if (engineOf e d).wr.isSome then d
  else engineCond e 17 false (onEngine e (fun x => { x with wr := some ⟨code, reg e b d, buf⟩ }) d)

def execDmaReadStaging (e a buf : Nat) (s : State) : Host.Outcome State Fault Refusal := next s (bufWord e buf (moverRead e 1 a buf))
def execDmaReadDdr (e a buf : Nat) (s : State) : Host.Outcome State Fault Refusal := next s (bufWord e buf (moverRead e 2 a buf))
def execDmaReadFlash (e a buf : Nat) (s : State) : Host.Outcome State Fault Refusal := next s (bufWord e buf (moverRead e 3 a buf))
def execDmaReadLink (e a buf : Nat) (s : State) : Host.Outcome State Fault Refusal := next s (bufWord e buf (moverRead e 4 a buf))
def execDmaWriteStaging (e b buf : Nat) (s : State) : Host.Outcome State Fault Refusal := next s (bufWord e buf (moverWrite e 1 b buf))
def execDmaWriteDdr (e b buf : Nat) (s : State) : Host.Outcome State Fault Refusal := next s (bufWord e buf (moverWrite e 2 b buf))
def execDmaWriteFlash (e b buf : Nat) (s : State) : Host.Outcome State Fault Refusal := next s (bufWord e buf (moverWrite e 3 b buf))
def execDmaWriteLink (e b buf : Nat) (s : State) : Host.Outcome State Fault Refusal := next s (bufWord e buf (moverWrite e 4 b buf))

/-- Staging SRAM in bytes (R6). -/
def stagingBytes : Nat := 134217728

/-- Bytes that a mover moves. -/
def moverLength (e : Nat) (m : Mover) (d : Device) : Nat :=
  let b := bufDesc e m.buf d
  b.limit - b.cursor

/-- A byte of a secure region lies in the transfer. -/
def moverSecure (e : Nat) (m : Mover) (d : Device) : Bool :=
  m.code == 2 && (List.range (moverLength e m d / 2 ^ 20 + 2)).any fun i =>
    secureAddr (min (m.addr + i * 2 ^ 20) (m.addr + moverLength e m d - 1)) d

/-- A mover's memory by code. -/
def moverMem (code : Nat) (d : Device) : List (Nat × BitVec 8) :=
  if code == 1 then d.eng.sram else if code == 2 then d.eng.ddr else if code == 3 then d.eng.flashBuf else d.eng.linkBuf
def setMoverMem (code : Nat) (m : List (Nat × BitVec 8)) (d : Device) : Device :=
  { d with eng :=
    if code == 1 then { d.eng with sram := m } else if code == 2 then { d.eng with ddr := m }
    else if code == 3 then { d.eng with flashBuf := m } else { d.eng with linkBuf := m } }

/-- A read mover has moved its bytes; from a secure region it reads zeros (R522). -/
def readDone' (e : Nat) (m : Mover) (d : Device) : Device :=
  let n := moverLength e m d
  let secure := moverSecure e m d
  let bs := if secure then List.replicate n 0 else memRead (moverMem m.code d) m.addr n
  let d := if secure then worldViolation (0x20 + e) m.addr d else d
  engineCond e 16 true (onEngine e (fun x => { x with rd := none }) (putBytes e m.buf bs d))

/-- A write mover has moved its bytes; into a secure region they are discarded (R522). -/
def writeDone (e : Nat) (m : Mover) (d : Device) : Device :=
  let d := if moverSecure e m d then worldViolation (0x20 + e) m.addr d
    else setMoverMem m.code (memWrite (moverMem m.code d) m.addr (bufBytes e m.buf d)) d
  engineCond e 17 true (onEngine e (fun x => { x with wr := none }) d)

/-- A transfer of staging SRAM lies within it. -/
def moverFits (e : Nat) (m : Mover) (d : Device) : Bool := m.code != 1 || m.addr + moverLength e m d ≤ stagingBytes

/-- MOVER_DONE; the manual gives no staging address beyond the 128 MiB. -/
def execMoverDone (e : Nat) (write : Bool) (s : State) : Host.Outcome State Fault Refusal :=
  match if write then (engineOf e s.dev).wr else (engineOf e s.dev).rd with
  | none => next s id
  | some m =>
    if moverFits e m s.dev then next s (if write then writeDone e m else readDone' e m)
    else .fault (.stagingAddress m.addr)

/-! ## Searches (R226, R235, R236, R239) -/

/-- A search joins the queue, with the key in the buffer. -/
def engineSearch (e buf cls : Nat) (d : Device) : Device :=
  let d := queueSearch cls 0 (leAt (bufBytes e buf d) 0 20) (some e) (odBump 0x2B00 2 1 d)
  let d := onEngine e (fun x => { x with search := (d.cam.queue.getLast?).map (·.id) }) d
  setConds e [(18, false), (19, false), (20, false)] d

def execPolicySearch (e buf : Nat) (s : State) : Host.Outcome State Fault Refusal := next s (bufWord e buf (engineSearch e buf 3))
def execBucketOverrideSearch (e buf : Nat) (s : State) : Host.Outcome State Fault Refusal :=
  next s (bufWord e buf (engineSearch e buf 2))

/-- A hot-set search is queued or diverted. -/
def hotSearch (e buf : Nat) (d : Device) : Device :=
  if hotDiverted d then setConds e [(18, true), (19, false), (20, true)] (odBump 0x2B00 3 1 d)
  else engineSearch e buf 4 d

def execHotSetSearch (e buf : Nat) (s : State) : Host.Outcome State Fault Refusal := next s (bufWord e buf (hotSearch e buf))

/-- SEARCH_RESULT: the request served next is answered; `bad` are the entries whose comparison met a parity error. -/
def searchResult (bad : List Nat) (d : Device) : Device :=
  match nextSearch d with
  | none => d
  | some r =>
    let d := { d with cam := { d.cam with queue := d.cam.queue.filter (·.id != r.id) } }
    let met := bad.filter fun i => i < Config.searchEntries && typeOf i d == classType r.cls
    let a := answerSearch r met d
    let d := met.foldl (fun d i => rewriteEntry i d) d
    match r.engine with
    | some e => setConds e [(18, true), (19, a.isSome)] (setPort e 6 (searchPort a) (onEngine e (fun x => { x with search := none }) d))
    | none => d

def execSearchResult (bad : List Nat) (s : State) : Host.Outcome State Fault Refusal := next s (searchResult bad)

/-- THROTTLE_STEP_CHANGE: step 4 forces PS_1 or deeper (R547). -/
def execThrottleStepChange (temp : Int) (s : State) : Host.Outcome State Fault Refusal :=
  next s fun d => refreshEff 2 (takeStep temp d)

/-! ## Locks and journal (R148, R291, R499) -/

def execLockTest (e : Nat) (s : State) : Host.Outcome State Fault Refusal :=
  next s (word e fun d => engineCond e 21 (allHeld (tagCmd (curDesc e d).tag) d) d)
def execLockRelease (e : Nat) (s : State) : Host.Outcome State Fault Refusal :=
  next s (word e fun d => settle (releaseLocks (tagCmd (curDesc e d).tag) d))

/-- APPEND: the buffer is one record of the next commit group; a record's word gives its length and its type (R293). -/
def append (e buf : Nat) (d : Device) : Device :=
  let bs := bufBytes e buf d
  let d := journalRecord (.other (leAt bs 2 2) (bs.drop 4)) d
  engineCond e 22 false (onEngine e (fun x => { x with appended := some (d.stripe.pageSeq + 1), marked := false }) d)

def execAppend (e buf : Nat) (s : State) : Host.Outcome State Fault Refusal := next s (bufWord e buf (append e buf))

/-- MARK: condition 22 follows the last appended record. -/
def execMarkJnl (e : Nat) (s : State) : Host.Outcome State Fault Refusal :=
  next s (word e fun d =>
    let durable := ((engineOf e d).appended).any fun p => p ≤ d.stripe.durableSeq
    engineCond e 22 durable (onEngine e (fun x => { x with marked := true }) d))

/-! ## Flash and toll gate (R289, R304, R376, R386, R387) -/

/-- A member descriptor from its 64 bits (R294). -/
def memberOf (v : Nat) : MemberDesc := ⟨bits v 63 57, bits v 56 54, bits v 53 50, bits v 49 30, bits v 29 14⟩

/-- Kind of an engine's read by its opcode (R387). -/
def readKind (op : Nat) : FlashKind := if op == opRebuild then .rebuildRead else if op == opMove then .gcRead else .hostRead

/-- The operation that an engine has queued. -/
def engineOp (e : Nat) (d : Device) : Option FlashOp := (engineOf e d).flash.bind fun id => opOf id d

/-- A read of a member at a step; an operation of the engine under way holds the word. A channel that this peer does not drive
gives nothing: the unit counts as not decoded. -/
def engineRead (e a step : Nat) (deep : Bool) (d : Device) : Device :=
  if (engineOp e d).isSome then d
  else
    let m := memberOf (reg e a d)
    let d := onEngine e (fun x => { x with flashStep := step }) (setConds e [(23, false), (24, false), (25, false)] d)
    if !ownsChannel m.channel d then setConds e [(23, true), (24, true)] d
    else
      let at_ := (memberAt m d).map fun r => (r.1.id, r.2)
      let id := d.media.nextOp
      let o := { blankOp (readKind (curDesc e d).opcode) m with
        stripe := (at_.map (·.1)).getD 0, member := (at_.map (·.2)).getD 0xFF, step := step, deep := deep, engine := some e }
      let d := queueOp o (onEngine e (fun x => { x with flash := some id }) d)
      if (opOf id d).any (·.started) then engineCond e 25 true (onEngine e (fun x => { x with tokens := ((opOf id d).map (·.tokens)).getD 0 }) d)
      else d

def execFlashRead (e a : Nat) (s : State) : Host.Outcome State Fault Refusal := next s (word e (engineRead e a 1 false))
def execFlashReadNextStep (e a : Nat) (s : State) : Host.Outcome State Fault Refusal :=
  next s (word e fun d => engineRead e a (min 5 (nextReadStep (engineOf e d).flashStep (memberOf (reg e a d)) d)) false d)
def execFlashReadDeep (e a : Nat) (s : State) : Host.Outcome State Fault Refusal := next s (word e (engineRead e a 5 true))

/-- PROGRAM: the member of an issued stripe whose place the descriptor names goes to the toll gate. -/
def engineProgram (e a : Nat) (d : Device) : Device :=
  if (engineOp e d).isSome then d
  else
    match memberAt (memberOf (reg e a d)) d with
    | none => setConds e [(23, true), (24, false)] d
    | some (st, n) =>
      let id := d.media.nextOp
      let d := setConds e [(23, false), (24, false), (25, false)] (onEngine e (fun x => { x with flash := some id }) d)
      let d := onOp id (fun o => { o with engine := some e }) (programMember st.id n false d)
      if (opOf id d).any (·.started) then engineCond e 25 true (onEngine e (fun x => { x with tokens := ((opOf id d).map (·.tokens)).getD 0 }) d)
      else d

def execFlashProgram (e a : Nat) (s : State) : Host.Outcome State Fault Refusal := next s (word e (engineProgram e a))

/-- TOLL: the tokens of the engine's queued operation are asked for; one that may start receives them. -/
def tollRequest (e : Nat) (read : Bool) (d : Device) : Device :=
  match engineOp e d with
  | none => engineCond e 25 false d
  | some o => if o.kind.isRead == read && !o.started then grantTokens o.id d else d

def execTollRequestRead (e : Nat) (s : State) : Host.Outcome State Fault Refusal := next s (word e (tollRequest e true))
def execTollRequestProgram (e : Nat) (s : State) : Host.Outcome State Fault Refusal := next s (word e (tollRequest e false))

/-- RETURN: the tokens that the engine holds go back. -/
def execTollReturn (e : Nat) (s : State) : Host.Outcome State Fault Refusal :=
  next s (word e fun d =>
    let d := match engineOp e d with
      | some o => onOp o.id (fun o => { o with tokens := 0 }) d
      | none => d
    engineCond e 25 false (onEngine e (fun x => { x with tokens := 0 }) d))

/-! ## Events, counters and messages (R196, R198, R499) -/

def execEvtWrite (e code imm a : Nat) (s : State) : Host.Outcome State Fault Refusal :=
  next s (word e fun d => if 1 ≤ code && code ≤ 4 then logEvent (imm % 65536) (0x0200 + e) (code - 1) (reg e a d) d else d)

def execCntAdd (e ctr b : Nat) (s : State) : Host.Outcome State Fault Refusal :=
  next s (word e fun d => if 1 ≤ ctr && ctr ≤ 15 then
      onEngine e (fun x => { x with counters := tblStore 0 x.counters ctr ((tblGetD x.counters ctr 0 + reg e b d) % 2 ^ 64) }) d
    else d)

def execMsgSend (e a b : Nat) (s : State) : Host.Outcome State Fault Refusal :=
  next s (word e fun d => engineCond e 26 false (emit (.toCpu (reg e a d) (reg e b d)) d))

/-- CLAIM: the chunk that the chunker has passed is claimed for the value that the descriptor reduces; the reply sets conditions
26 to 28 and port 7. -/
def msgClaim (e : Nat) (d : Device) : Device :=
  let d := setConds e [(26, false), (27, false), (28, false)] d
  match curItem e d with
  | some (c, n, i) =>
    if i.reduced || (engineOf e d).chunker.chunk.isEmpty then d else settle (addChunk c.id n (engineOf e d).chunker.chunk d)
  | none => d

def execMsgClaim (e : Nat) (s : State) : Host.Outcome State Fault Refusal := next s (word e (msgClaim e))

/-- RELEASE: the claim on the digest in ports 1 to 4 is given back (R198). -/
def msgRelease (e : Nat) (d : Device) : Device :=
  let digest := ((engineOf e d).ports.drop 1).take 4 |>.flatMap fun p => leBytes 8 p
  match curItem e d with
  | none => d
  | some (c, n, i) =>
    match i.chunks.zipIdx.find? fun x => x.1.fp == digest && x.1.claimed && !x.1.stored with
    | none => d
    | some (w, k) =>
      let d := onChunk c.id n k (fun w => { w with claimed := false, copy := none, isNew := false, present := false, claim := none }) d
      releaseClaim i.domain w.fp (w.copy.getD 0) c.id w.claim d

def execMsgRelease (e : Nat) (s : State) : Host.Outcome State Fault Refusal := next s (word e (msgRelease e))

/-- PRESENT: the copy of a STORE_COPY descriptor is stored; it is PRESENT once both peers or flash hold it (R193). -/
def execMsgPresent (e : Nat) (s : State) : Host.Outcome State Fault Refusal :=
  next s (word e fun d => match curChunk e d with
    | some (c, n, _, k, _) => settle (storeChunk (some e) c.id n k d)
    | none => d)

end Sys2Proof.Machine
end

