-- ==== Sys2Proof/Machine/DictBase.lean ====
section
/-! DEFINITION. The dictionary's serialiser: when it answers, access rules, sessions, window cursors, persistence and shared
writes (R55 to R72, R87 to R94, R188, R457, R531). -/

namespace Sys2Proof.Machine

/-- What became of an access: it failed and changed nothing more, it is done, or its answer comes later. -/
inductive OdRes where
  | fail (code : Nat) (d : Device)
  | done (d : Device)
  | held (d : Device)
  deriving DecidableEq, Repr

/-! ## When the dictionary answers (R57, R94) -/

/-- Entries that the AO domain serves by itself. -/
def aoEntry (idx : Nat) : Bool :=
  (0x1000 ≤ idx && idx ≤ 0x1FFF) || idx == 0x2000 || idx == 0x2010 || (0x2200 ≤ idx && idx ≤ 0x2240) ||
    (0x2E00 ≤ idx && idx ≤ 0x2EFF) || idx == 0x2D40

/-- The start-up step at whose end the owning unit of an entry has started. -/
def unitStep (idx : Nat) : Nat :=
  if 0x2F00 ≤ idx && idx ≤ 0x2FFF then 3
  else if (0x2300 ≤ idx && idx ≤ 0x2327) || (0x3000 ≤ idx && idx ≤ 0x30FF) || (0x3200 ≤ idx && idx ≤ 0x32FF) then 5
  else if idx == 0x2100 || (0x2D00 ≤ idx && idx ≤ 0x2DFF) then 6
  else if 0x3400 ≤ idx && idx ≤ 0x34FF then 7
  else 12

/-- The way of an accessor: 1 CAN FD, 2 in band. -/
def wayOf : Accessor → Nat
  | .can _ => 1
  | .inband _ => 2
  | .firmware _ _ => 0

/-- The boot firmware has been verified. -/
def verified (d : Device) : Bool := d.power.run == .ready || (d.power.run == .starting && 3 < d.power.stage)

/-- The device answers dictionary accesses at all: PORST_N is not asserted. -/
def dictAnswers (d : Device) : Bool := d.power.run != .unpowered && d.power.run != .reset

/-- Why the dictionary does not serve an entry now. `s`: it carries S. -/
def notServed (acc : Accessor) (idx : Nat) (s : Bool) (d : Device) : Option Nat :=
  if d.power.run == .ready then none
  else if verified d then
    (if aoEntry idx || unitStep idx < d.power.stage then none else some 0x08000022)
  else if aoEntry idx && wayOf acc != 2 && !s then none
  else some 0x08000022

/-! ## Sessions (R89 to R93, R531, R535) -/

/-- The accessor may reach S entries: it holds a session, or it is secure firmware. -/
def hasSession (acc : Accessor) (d : Device) : Bool :=
  match acc with
  | .firmware _ secure => secure
  | a => d.dict.sessions.any (·.acc == a)

/-- An access to an S entry keeps the session open. -/
def touchSession (acc : Accessor) (d : Device) : Device :=
  { d with dict := { d.dict with
    sessions := d.dict.sessions.map fun x => if x.acc == acc then { x with last := d.time.now } else x } }

/-- The entry carries S. -/
def isSecret (idx sub : Nat) : Bool := (odEntry? idx sub).any (·.s)

/-- Sessions close, and with each the open assembly of an S entry (R87, R92). -/
def closeSessions (f : Session → Bool) (d : Device) : Device :=
  let gone := d.dict.sessions.filter f
  { d with dict := { d.dict with
    sessions := d.dict.sessions.filter fun x => !f x
    assemblies := d.dict.assemblies.filter fun a => !(isSecret a.idx a.sub && gone.any (·.acc == a.acc)) } }

def closeSession (acc : Accessor) (d : Device) : Device := closeSessions (fun x => x.acc == acc) d

/-- Event 0x1102: 1 open, 2 refused, 3 lockout. -/
def sessionEvent (kind record way : Nat) (d : Device) : Device := logEvent 0x1102 0x0072 0 (kind * 256 + record * 16 + way) d

/-- Another CAN FD client node holds a session. -/
def canTaken (acc : Accessor) (d : Device) : Bool :=
  wayOf acc == 1 && d.dict.sessions.any fun x => wayOf x.acc == 1 && x.acc != acc

/-- A read of OD 0x3210:01: 32 fresh bytes bound to the accessor. -/
def challengeRead (acc : Accessor) (d : Device) : Except Nat (Bytes × Device) :=
  if d.cipher.alarm == 1 || canTaken acc d then .error 0x08000022
  else
    let r := drawBytes 4 d
    .ok (r.1, { r.2 with dict := { r.2.dict with
      challenges := ⟨acc, r.1, d.time.now⟩ :: r.2.dict.challenges.filter (·.acc != acc) } })

/-- The number of an accessor in its way. -/
def accNumber : Accessor → Nat
  | .can n => n
  | .inband p => p
  | .firmware c _ => c

/-- What the owner signs (R90). -/
def sessionDigest (acc : Accessor) (challenge : Bytes) : Bytes :=
  sha384 (challenge ++ leBytes 4 Config.serialNumber.toNat ++ leBytes 1 (wayOf acc) ++ leBytes 1 (accNumber acc))

/-- The lowest valid owner record under which a signature verifies. -/
def ownerVerifies (digest sig : Bytes) (d : Device) : Option Nat :=
  (d.sec.owners.zipIdx.find? fun o => o.1.st == .valid && ecdsaVerify o.1.key digest sig).map (·.2 + 1)

def wayLock (way : Nat) (d : Device) : WayLock := if way == 1 then d.dict.lockCan else d.dict.lockBand
def setWayLock (way : Nat) (l : WayLock) (d : Device) : Device :=
  { d with dict := if way == 1 then { d.dict with lockCan := l } else { d.dict with lockBand := l } }

/-- A response to the accessor's challenge (R90, R91, R531). DESIGN CHOICE (log 211): a response refused because the way is locked or no
owner key is enrolled is not taken, and leaves the challenge live. -/
def sessionResponse (acc : Accessor) (sig : Bytes) (d : Device) : OdRes :=
  let way := wayOf acc
  let lock := wayLock way d
  if lock.until?.isSome || way == 0 then .fail 0x08000020 d
  else if !d.sec.owners.any (·.st == .valid) then .fail 0x08000020 d
  else match d.dict.challenges.find? (·.acc == acc) with
    | none => .fail 0x08000020 d
    | some c =>
      let d := { d with dict := { d.dict with challenges := d.dict.challenges.filter (·.acc != acc) } }
      if c.readAt + sec 30 < d.time.now then .fail 0x08000020 d
      else if canTaken acc d then .fail 0x08000022 d
      else match ownerVerifies (sessionDigest acc c.value) sig d with
        | some n =>
          let s : Session := ⟨acc, d.time.now, n⟩
          let d := { d with dict := { d.dict with sessions := s :: d.dict.sessions.filter (·.acc != acc) } }
          .done (sessionEvent 1 n way (setWayLock way ⟨0, none⟩ d))
        | none =>
          let d := sessionEvent 2 0 way d
          if lock.failures + 1 < 3 then .fail 0x08000020 (setWayLock way ⟨lock.failures + 1, none⟩ d)
          else
            let d := setWayLock way ⟨0, some (d.time.now + sec 60)⟩ d
            .fail 0x08000020 (sendEmcy 0xFF00 0x1102 (sessionEvent 3 0 way d))

/-- A session closes when its idle time has passed. -/
def execSessionIdleTimeout (acc : Accessor) (s : State) : Host.Outcome State Fault Refusal :=
  next s fun d => match d.dict.sessions.find? (·.acc == acc) with
    | some x => closeSession acc (waitUntil (x.last + sec (odVal 0x3210 4 d)) d)
    | none => d

/-- The lockout of a way ends. -/
def execSessionLockoutExpiry (inband : Bool) (s : State) : Host.Outcome State Fault Refusal :=
  next s fun d =>
    let way := if inband then 2 else 1
    match (wayLock way d).until? with
    | some t => setWayLock way ⟨0, none⟩ (waitUntil t d)
    | none => d

/-- A challenge lapses 30 s after its read. -/
def execChallengeExpiry (acc : Accessor) (s : State) : Host.Outcome State Fault Refusal :=
  next s fun d => match d.dict.challenges.find? (·.acc == acc) with
    | some c =>
      let d := waitUntil (c.readAt + sec 30) d
      { d with dict := { d.dict with challenges := d.dict.challenges.filter (·.acc != acc) } }
    | none => d

/-- An assembly ends without effect after 10 s without a part. -/
def execAssemblyTimeout (acc : Accessor) (s : State) : Host.Outcome State Fault Refusal :=
  next s fun d => match d.dict.assemblies.find? (·.acc == acc) with
    | some a =>
      let d := waitUntil (a.last + sec 10) d
      { d with dict := { d.dict with assemblies := d.dict.assemblies.filter (·.acc != acc) } }
    | none => d

/-! ## Persistence (R61) -/

/-- Index, subindex and record number of a key of the value store. -/
def keyIdx (k : Nat) : Nat := k / 2 ^ 20 / 256
def keySub (k : Nat) : Nat := k / 2 ^ 20 % 256

/-- The entry of a key is persistent. -/
def isPersistent (k : Nat) : Bool := (odEntry? (keyIdx k) (keySub k)).any (·.p)

/-- The newer copy whose CRC-32 is valid. -/
def newerCopy (d : Device) : Option NvCopy :=
  match d.dict.nvA.valid, d.dict.nvB.valid with
  | true, true => some (if d.dict.nvB.seq < d.dict.nvA.seq then d.dict.nvA else d.dict.nvB)
  | true, false => some d.dict.nvA
  | false, true => some d.dict.nvB
  | false, false => none

/-- The P entries in force are programmed into the older copy. -/
def persist (d : Device) : Device :=
  let cells := d.dict.cells.filter fun r => isPersistent r.1
  let seq := max d.dict.nvA.seq d.dict.nvB.seq + 1
  let c : NvCopy := ⟨seq, true, cells⟩
  if d.dict.nvA.valid && (!d.dict.nvB.valid || d.dict.nvB.seq < d.dict.nvA.seq) then { d with dict := { d.dict with nvB := c } }
  else { d with dict := { d.dict with nvA := c } }

/-- The value of an entry in the persistent area; the default where it is not persistent or no copy is valid. -/
def savedValue (idx sub sel : Nat) (d : Device) : Nat :=
  let dflt := odDefault d.nodeId idx sub sel
  if !isPersistent (odKey idx sub sel) then dflt
  else match newerCopy d with
    | some c => tblGetD c.cells (odKey idx sub sel) dflt
    | none => dflt

/-! ## Window cursors (R69 to R72) -/

def cursorOf (acc : Accessor) (win : Nat) (d : Device) : Cursor :=
  (d.dict.cursors.find? fun c => c.acc == acc && c.win == win).getD ⟨acc, win, 0, 0⟩

def setCursor (c : Cursor) (d : Device) : Device :=
  { d with dict := { d.dict with cursors := c :: d.dict.cursors.filter fun x => !(x.acc == c.acc && x.win == c.win) } }

/-- An access to the record has been made: Select advances when Step is 1, no further than the entry count. -/
def stepCursor (acc : Accessor) (win : Nat) (d : Device) : Device :=
  let c := cursorOf acc win d
  if c.step == 1 && c.select < (windowCount win).getD 0 then setCursor { c with select := c.select + 1 } d else d

/-- A write to Select or Step of a window. -/
def cursorWrite (acc : Accessor) (win sub v : Nat) (d : Device) : OdRes :=
  let c := cursorOf acc win d
  if sub == 1 then
    (if (windowCount win).getD 0 ≤ v then .fail 0x06090030 d else .done (setCursor { c with select := v } d))
  else if 1 < v then .fail 0x06090030 d
  else .done (setCursor { c with step := v } d)

/-! ## The checks that every write meets (R57 to R60) -/

/-- The record's number that an access reaches: the cursor of a window, otherwise 0. -/
def selOf (acc : Accessor) (idx sub : Nat) (d : Device) : Nat :=
  if sub == 2 && (windowCount idx).isSome then (cursorOf acc idx d).select else 0

/-- Length and form of a value (R58). -/
def valueForm (t : OdType) (v : Bytes) : Option Nat :=
  match t with
  | .bool => if v.length != 1 then some 0x06070010 else if 1 < leNat v then some 0x06090030 else none
  | .vis n =>
    let text := v.takeWhile (· != 0)
    if n < v.length then some 0x06070010
    else if text.any fun b => b.toNat < 0x20 || 0x7E < b.toNat then some 0x06090030 else none
  | .dom n => if n < v.length then some 0x06070010 else none
  | t => if v.length != t.size then some 0x06070010 else none

/-- A value outside the range that its table gives (0x0609_0030). -/
def valueRange (e : OdEntry) (v : Bytes) : Option Nat :=
  match e.typ with
  | .u8 => range (leNat v) | .u16 => range (leNat v) | .u32 => range (leNat v) | .u64 => range (leNat v)
  | _ => none
where
  range (n : Nat) : Option Nat := if n < e.lo || e.hi < n then some 0x06090030 else none

/-- An index that the dictionary does not hold, or a subindex that its object does not have. -/
def missing (idx sub : Nat) : Option Nat :=
  if (odObject idx).isEmpty then some 0x06020000
  else if (odEntry? idx sub).isNone then some 0x06090011
  else none

/-- Entries that a standard service changes on the device's part (R65, R66). -/
def standardService (idx sub : Nat) : Bool :=
  (idx == 0x2410 && 1 ≤ sub) || (idx == 0x2220 && sub == 1) || (idx == 0x2010 && (sub == 0x0C || sub == 0x0D)) || (idx == 0x2230 && 1 ≤ sub)

/-- First failure of a write, or of a part of one, among existence, service, access and session. `free`: the entry needs no session. -/
def writeGate (acc : Accessor) (idx sub : Nat) (free : Bool) (d : Device) : Option Nat :=
  match missing idx sub, odEntry? idx sub with
  | some c, _ => some c
  | none, none => some 0x06090011
  | none, some e =>
    match notServed acc idx e.s d with
    | some c => some c
    | none =>
      if e.acc == .cst || (e.acc == .ro && wayOf acc != 0) then some 0x06010002
      else if e.s && !free && !hasSession acc d then some 0x08000020
      else none

/-- First failure of a whole value: the gate, the idle unit of an L entry, then the value's form and range. -/
def writeFailure (acc : Accessor) (idx sub : Nat) (v : Bytes) (idle : Bool) (free : Bool) (d : Device) : Option Nat :=
  match writeGate acc idx sub free d, odEntry? idx sub with
  | some c, _ => some c
  | none, none => none
  | none, some e =>
    if e.l && !idle then some 0x08000022
    else match valueForm e.typ v with
      | some c => some c
      | none => valueRange e v

/-- First failure of a read. -/
def readFailure (acc : Accessor) (idx sub : Nat) (d : Device) : Option Nat :=
  match missing idx sub, odEntry? idx sub with
  | some c, _ => some c
  | none, none => some 0x06090011
  | none, some e =>
    match notServed acc idx e.s d with
    | some c => some c
    | none =>
      if e.acc == .wo then some 0x06010001
      else if e.s && !hasSession acc d then some 0x08000020
      else none

/-! ## Shared writes (R188) -/

/-- How a shared write may go: 0 here alone, 1 to both peers, none refused. -/
def sharedWay (d : Device) : Option Nat :=
  if noServingPeer d then some 0 else if pairUp d then some 1 else none

/-- The write goes to the other peer, and its answer waits for TABLE_ACK. -/
def syncWrite (acc : Accessor) (reply : ReplyTo) (idx sub sel : Nat) (v : Bytes) (d : Device) : Device :=
  let entry := if (windowCount idx).isSome then sel else 0xFFFFFFFF
  let h : HeldWrite := ⟨d.dict.nextReq, acc, reply, idx, sub, entry, v, none⟩
  sendLink (.tableSync idx sub entry 0 v)
    { d with dict := { d.dict with held := d.dict.held ++ [h], nextReq := d.dict.nextReq + 1 } }

end Sys2Proof.Machine
end

