-- ==== Sys2Proof/Machine/Owners.lean ====
section
/-! DEFINITION. Device keys, owner records and the secrets that travel in secure frames (R187, R190, R265, R271, R322,
R524 to R530, R533). -/

namespace Sys2Proof.Machine

/-! ## Device keys (R524, R525) -/

/-- OD 0x1018:04 as 4 bytes. -/
def serialBytes : Bytes := leBytes 4 Config.serialNumber.toNat

/-- The identity private scalar: 56 bytes of key material reduced as FIPS 186-5 gives for extra random bits. -/
def identityPrivate : Nat :=
  beNat (hkdf384 (leBytes 32 Config.rootKey.toNat) serialBytes (ascii "MBT ident") 56) % (n384 - 1) + 1

/-- OD 0x3200:02. -/
def identityPublic : Bytes := ecBytes (ecMul 384 identityPrivate (some g384))

/-! ## Owner records (R526) -/

def ownerOf (n : Nat) (d : Device) : Owner := d.sec.owners.getD (n - 1) ⟨.spent, [], []⟩

/-- Owners of a state, bit n for record n. -/
def ownerBits (f : OwnerSt → Bool) (d : Device) : Nat :=
  (d.sec.owners.zipIdx.map fun o => if f o.1.st then 2 ^ (o.2 + 1) else 0).sum

/-- Valid records. -/
def validOwners (d : Device) : List Owner := d.sec.owners.filter (·.st == .valid)

/-- The device is owned while a record is valid. -/
def isOwned (d : Device) : Bool := !(validOwners d).isEmpty

/-- OD 0x3200:04: the digest of the valid records' public keys in order, zeros without one. -/
def ownerDigest (d : Device) : Bytes :=
  if isOwned d then sha384 ((validOwners d).flatMap (·.key)) else List.replicate 48 0

/-- A strap as last sampled, in the map of R605. -/
def strap (n : Nat) (d : Device) : Bool := bit (odVal 0x2000 3 d) n

/-- An enrolment's number, public key and decrypted patch secret, or the abort of R528. -/
def enrolCheck (acc : Accessor) (v : Bytes) (d : Device) : Except Nat (Nat × Bytes × Bytes) :=
  let n := leAt v 0 1
  let pub := slice v 4 96
  let key := hkdf384 (ecdh identityPrivate (slice v 100 96)) serialBytes (ascii "MBT enrol" ++ leBytes 1 n) 32
  let secret := gcmOpen key (List.replicate 12 0) (v.take 100) (slice v 196 32) (slice v 228 16)
  if d.admin.sanitize.isSome || d.cipher.alarm != 0 then .error 0x08000022
  else if n == 0 || 15 < n || (ownerOf n d).st != .blank then .error 0x06090030
  else match ecPoint pub, secret with
    | none, _ => .error 0x06090030
    | some _, none => .error 0x06090030
    | some _, some k =>
      if !isOwned d then (if wayOf acc == 1 && strap 8 d then .ok (n, pub, k) else .error 0x08000020)
      else if hasSession acc d then .ok (n, pub, k) else .error 0x08000020

/-- Event 0x1104: 1 enrolled, 2 revoked, 3 spent. -/
def ownerEvent (kind n : Nat) (d : Device) : Device := logEvent 0x1104 0x0072 1 (kind * 256 + n) d

def setOwner (n : Nat) (o : Owner) (d : Device) : Device := { d with sec := { d.sec with owners := d.sec.owners.set (n - 1) o } }

/-- Program a record into OTP, the valid state last; none when OTP does not read back. -/
def programOwner (n : Nat) (key secret : Bytes) (d : Device) : Option Device :=
  if d.sec.otpWorks && 1 ≤ n && n ≤ 15 then some (ownerEvent 1 n (setOwner n ⟨.valid, key, secret⟩ d)) else none

/-- Revoke a record; the sessions that its key opened close. -/
def revokeOwner (n : Nat) (d : Device) : Device :=
  let o := ownerOf n d
  closeSessions (fun x => x.record == n) (ownerEvent 2 n (setOwner n { o with st := .revoked } d))

/-- A record that could not be programmed on both peers is spent on both (R530). -/
def spendOwner (n : Nat) (d : Device) : Device :=
  closeSessions (fun x => x.record == n) (ownerEvent 3 n (setOwner n ⟨.spent, [], []⟩ d))

/-- The body of SECURE kind 9. -/
def ownerBody (n : Nat) (key secret : Bytes) : Bytes := leBytes 1 n ++ [0, 0, 0] ++ padTo 96 key ++ padTo 32 secret

/-- A write whose secure frame awaits its ACK: the invocation count names it. -/
def holdSecure (acc : Accessor) (reply : ReplyTo) (idx sub sel : Nat) (m : SecureMsg) (d : Device) : Device :=
  let h : HeldWrite := ⟨d.sec.sendCount, acc, reply, idx, sub, sel, [], none⟩
  sendSecure m { d with dict := { d.dict with held := d.dict.held ++ [h] } }

/-- OWNER_ENROL: checked, programmed here and, with a serving peer, sent to it; the write is confirmed once both hold it. -/
def ownerEnrol (acc : Accessor) (reply : ReplyTo) (v : Bytes) (d : Device) : OdRes :=
  match enrolCheck acc v d with
  | .error c => .fail c d
  | .ok (n, key, secret) =>
    match sharedWay d with
    | none => .fail 0x08000022 d
    | some w =>
      match programOwner n key secret d with
      | none =>
        let d := spendOwner n d
        .fail 0x06060000 (if w == 0 then d else sendSecure (.ownerRecord (ownerBody (0x80 + n) [] [])) d)
      | some d =>
        if w == 0 then .done d
        else .held (holdSecure acc reply 0x3220 1 n (.ownerRecord (ownerBody n key secret))
          { d with sec := { d.sec with pendingOwner := some ⟨n, false, key, secret⟩ } })

/-- OWNER_REVOKE (R529, R537). -/
def ownerRevoke (acc : Accessor) (reply : ReplyTo) (n : Nat) (d : Device) : OdRes :=
  if (ownerOf n d).st != .valid || n == 0 then .fail 0x06090030 d
  else if (validOwners d).length == 1 then .fail 0x08000022 d
  else match sharedWay d with
    | none => .fail 0x08000022 d
    | some w =>
      let d := revokeOwner n d
      if w == 0 then .done d
      else .held (holdSecure acc reply 0x3220 2 n (.ownerRecord (ownerBody (0x80 + n) [] []))
        { d with sec := { d.sec with pendingOwner := some ⟨n, true, [], []⟩ } })

/-! ## Secure frames of kinds 3 to 9 (R533) -/

/-- A frame counts when its tag holds and its count lies above the last accepted one; otherwise it is discarded and logged. -/
def acceptSecure (h : FrameHdr) (count : Nat) (tagOk : Bool) (f : Device → Device) (d : Device) : Device :=
  acceptFrame h 2 (fun d =>
    if !tagOk || count ≤ d.sec.recvCount || d.sec.linkKey.isNone then logEvent 0x1103 0x0072 2 0 d
    else f { d with sec := { d.sec with recvCount := count } }) d

/-- Acknowledge a frame (kind 8). -/
def ackSecure (count : Nat) (d : Device) : Device := sendSecure (.ack count) d

/-- SLOT_KEY: the key takes its slot and its wrapped copies are written; an alarm refuses it (R271). -/
def takeSlotKey (slot tenant keygen key : Nat) (d : Device) : Device :=
  let d := { d with peer := { d.peer with stale := d.peer.stale.filter (· != slot) } }
  let k := slotOf slot d
  if d.cipher.alarm != 0 then
    putSlot slot { k with freshDue := true, before := .active, tenant := tenant, keygen := keygen, stored := some key, wrapped := true } d
  else
    let st := if k.keygen == keygen && k.st == .decryptOnly then SlotSt.decryptOnly else .active
    let same := k.keygen == keygen
    recordLimit slot (putSlot slot
      { KeySlot.blank with
        st := st, tenant := tenant, keygen := keygen, wrapped := true, key := some key, stored := some key
        counterA := if same then k.counterA else 0, counterB := if same then k.counterB else 0
        limitA := if same then k.limitA else 0, limitB := if same then k.limitB else 0 } d)

def execSlotKey (h : FrameHdr) (count : Nat) (tagOk : Bool) (slot tenant keygen key : Nat) (s : State) :
    Host.Outcome State Fault Refusal :=
  next s (acceptSecure h count tagOk fun d =>
    if 4096 ≤ slot then d else ackSecure count (takeSlotKey slot tenant keygen key d))

def execMapKey (h : FrameHdr) (count : Nat) (tagOk : Bool) (key : Nat) (s : State) : Host.Outcome State Fault Refusal :=
  next s (acceptSecure h count tagOk fun d => ackSecure count { d with peer := { d.peer with mapKey := some key, wrappedMapKey := some key } })

def execHashSecret (h : FrameHdr) (count : Nat) (tagOk : Bool) (secret : Nat) (s : State) : Host.Outcome State Fault Refusal :=
  next s (acceptSecure h count tagOk fun d => ackSecure count { d with kv := { d.kv with hashSecret := secret } })

/-- A salt of the other peer. Where both peers have made one, side A's stands (log 230). -/
def takeSalt (domain : Nat) (value : Bytes) (d : Device) : Device :=
  if d.side == 0 && isReady d && (tblGet? d.kv.salts domain).isSome then d
  else { d with kv := { d.kv with salts := tblPut d.kv.salts domain value } }

/-- SALT (R190, R533). -/
def execSalt (h : FrameHdr) (count : Nat) (tagOk : Bool) (domain : Nat) (value : Bytes) (s : State) :
    Host.Outcome State Fault Refusal :=
  next s (acceptSecure h count tagOk fun d => ackSecure count (takeSalt domain (padTo 12 value) d))

/-- GEAR: active table, staged table and generation are adopted, which a device that meets a serving peer awaits (R188). -/
def takeGear (generation : Nat) (entries : List Nat) (d : Device) : Device :=
  let d := (entries.take 512).zipIdx.foldl (fun d x => odPutSel 0x2610 2 x.2 (x.1 % 2 ^ 48) d) d
  let d := d.peer.stale.foldl (fun d n => clearSlot n d) d
  let d := { d with peer := { d.peer with stale := [], returning := if d.peer.returning == 3 then 0 else d.peer.returning } }
  persist (bumpVersion 0x2610 (odPut 0x2600 6 generation d))

def execGear (h : FrameHdr) (count : Nat) (tagOk : Bool) (generation : Nat) (entries : List Nat) (s : State) :
    Host.Outcome State Fault Refusal :=
  next s (acceptSecure h count tagOk fun d => ackSecure count (takeGear generation entries d))

/-- A held write whose secure frame the other peer has acknowledged is confirmed. -/
def secureAcked (acked : Nat) (d : Device) : Device :=
  let done := d.dict.held.filter fun h => h.reqId == acked && (h.idx == 0x3220 || h.idx == 0x2800) && h.entry.isNone
  let d := { d with
    dict := { d.dict with held := d.dict.held.filter fun h => !done.contains h }
    sec := { d.sec with ackedCount := max acked d.sec.ackedCount } }
  done.foldl (fun d h =>
    let d := if h.idx == 0x3220 then { d with sec := { d.sec with pendingOwner := none } } else d
    answer h.reply h.idx h.sub .ok [] 0 0 d) d

def execSecureAck (h : FrameHdr) (count : Nat) (tagOk : Bool) (acked : Nat) (s : State) : Host.Outcome State Fault Refusal :=
  next s (acceptSecure h count tagOk (secureAcked acked))

/-- A record that the other peer has revoked, or could not program: a valid one is revoked, a blank one is spent (R530). -/
def followRevoked (n : Nat) (d : Device) : Device :=
  match (ownerOf n d).st with
  | .valid => revokeOwner n d
  | .blank => spendOwner n d
  | _ => d

/-- OWNER_RECORD: an enrolment or revocation of the other peer; one that cannot be programmed goes back as a revocation, and
the record is spent on both (R530). A record that is not blank never takes another owner (R526): an enrolment that meets one
goes back too (DESIGN CHOICE log 70). -/
def ownerRecord (n : Nat) (key secret : Bytes) (count : Nat) (d : Device) : Device :=
  if 0x80 ≤ n then
    let r := n - 0x80
    match d.sec.pendingOwner with
    | some w =>
      if w.record == r && !w.revoke then
        let mine := d.dict.held.filter fun h => h.idx == 0x3220
        let d := spendOwner r { d with
          dict := { d.dict with held := d.dict.held.filter fun h => h.idx != 0x3220 }, sec := { d.sec with pendingOwner := none } }
        ackSecure count (mine.foldl (fun d h => answer h.reply h.idx h.sub (.abort 0x06060000) [] 0 0 d) d)
      else ackSecure count (followRevoked r d)
    | none => ackSecure count (followRevoked r d)
  else
    let o := ownerOf n d
    let give := sendSecure (.ownerRecord (ownerBody (0x80 + n) [] []))
    if n == 0 || 15 < n then give d
    else if o.st == .valid && o.key == key && o.secret == secret then ackSecure count d
    else if o.st != .blank then give d
    else match programOwner n key secret d with
      | some d => ackSecure count d
      | none => give (spendOwner n d)

def execOwnerRecord (h : FrameHdr) (count : Nat) (tagOk : Bool) (n : Nat) (pub secret : Bytes) (s : State) :
    Host.Outcome State Fault Refusal :=
  next s (acceptSecure h count tagOk (ownerRecord n pub secret count))

end Sys2Proof.Machine
end

