-- ==== Sys2Proof/Machine/CipherCmd.lean ====
section
/-! DEFINITION. Slot commands, tenant erase and alarms (R259, R265 to R271, R516, R535 to R537). -/

namespace Sys2Proof.Machine

/-! ## Slot commands (R265) -/

/-- GENERATE. -/
def generate (acc : Accessor) (reply : ReplyTo) (slot tenant : Nat) (d : Device) : OdRes :=
  if (slotOf slot d).st != .empty || d.cipher.alarm != 0 || d.admin.sanitize.isSome then .fail 0x08000022 d
  else match sharedWay d with
    | none => .fail 0x08000022 d
    | some w =>
      let d := freshKey slot tenant d
      if w == 0 then .done d
      else
        let k := slotOf slot d
        .held (holdSecure acc reply 0x2800 1 slot (.slotKey slot tenant k.keygen (k.key.getD 0)) d)

/-- A paired entry at the next commit-group boundary, whose launch confirms the write. -/
def placeSlotAction (acc : Accessor) (reply : ReplyTo) (action arg : Nat) (d : Device) : OdRes :=
  if (sharedWay d).isNone then .fail 0x08000022 d
  else .held (placePaired (firmwareEntry action 0x0030 arg (nextBoundary d) false) (.dict acc reply 0x2800 1) d)

/-- RETIRE. -/
def retire (acc : Accessor) (reply : ReplyTo) (slot : Nat) (d : Device) : OdRes :=
  if (slotOf slot d).st != .active then .fail 0x08000022 d else placeSlotAction acc reply 0x0E slot d

/-- An ERASE_TENANT has been placed and has not launched. -/
def erasePlaced (d : Device) : Bool :=
  (d.board.entries.any fun e => e.2.action == 0x0F && e.2.state == 1) || (d.board.placing.any fun p => p.body.action == 0x0F) ||
    d.board.waiting.any fun w => w.body.action == 0x0F

/-- ERASE_TENANT. -/
def eraseTenantCmd (acc : Accessor) (reply : ReplyTo) (tenant : Nat) (d : Device) : OdRes :=
  if d.admin.sanitize.isSome || erasePlaced d then .fail 0x08000022 d else placeSlotAction acc reply 0x0F tenant d

/-- RELOAD: confirmed when the reload has completed (R270). -/
def reload (acc : Accessor) (reply : ReplyTo) (d : Device) : OdRes :=
  if d.cipher.alarm != 2 then .fail 0x08000022 d
  else
    let h : HeldWrite := ⟨0, acc, reply, 0x2800, 1, 4096, [], none⟩
    .held { d with cipher := { d.cipher with alarm := 3 }, dict := { d.dict with held := d.dict.held ++ [h] } }

/-- A write of OD 0x2800:01: [63:56] the command, [47:32] the tenant, [11:0] the slot. -/
def slotCommand (acc : Accessor) (reply : ReplyTo) (v : Nat) (d : Device) : OdRes :=
  let cmd := bits v 63 56
  let tenant := bits v 47 32
  let slot := bits v 11 0
  if cmd == 1 then generate acc reply slot tenant d
  else if cmd == 2 then retire acc reply slot d
  else if cmd == 3 then eraseTenantCmd acc reply tenant d
  else if cmd == 4 then reload acc reply d
  else .fail 0x06090030 d

/-- SLOT_RETIRE at its tick (R266). -/
def slotRetire (slot : Nat) (d : Device) : Device :=
  let k := slotOf slot d
  if k.st == .active then putSlot slot { k with st := .decryptOnly } d
  else if k.st == .zeroised && k.before == .active then putSlot slot { k with before := .decryptOnly } d
  else d

/-! ## Tenant erase (R267, R270) -/

/-- Blocks of this peer's channels that hold an extent of a copy. -/
def copyBlocks (c : Copy) (d : Device) : List MemberDesc :=
  (c.extents.flatMap fun e =>
    match stripeOf e.stripe d with
    | none => []
    | some s =>
      let u := unitBytes s.unit
      (List.range ((e.off + e.len - 1) / u + 1 - e.off / u)).filterMap fun i =>
        (s.members[e.off / u + i]?).map fun m => blockDesc m.desc).eraseDups.filter fun m => ownsChannel m.channel d

/-- A fresh key for a slot: with a serving peer side A draws it and sends it, and on side B encryptions wait until it arrives. -/
def renewKey (n tenant : Nat) (d : Device) : Device :=
  if pairUp d && d.side == 1 then
    let k := slotOf n d
    putSlot n { KeySlot.blank with st := .active, tenant := tenant, keygen := k.keygen } d
  else
    let d := freshKey n tenant d
    let k := slotOf n d
    if pairUp d then sendSecure (.slotKey n tenant k.keygen (k.key.getD 0)) d else d

/-- A slot of the tenant at T; one that an alarm holds takes its fresh key when the alarm ends. -/
def eraseSlot (d : Device) (n : Nat) : Device :=
  let k := slotOf n d
  match k.st with
  | .active => renewKey n k.tenant d
  | .decryptOnly => emptySlot n d
  | .zeroised =>
    if k.before == .active then
      putSlot n { k with key := none, stored := none, wrapped := false, keygen := (k.keygen + 1) % 2 ^ 32, freshDue := true } d
    else emptySlot n d
  | .empty => d

/-- The slots of a tenant. -/
def tenantSlots (t : Nat) (d : Device) : List Nat := (d.cipher.slots.filter fun s => s.2.tenant == t && s.2.st != .empty).map (·.1)

/-- Keys, manifests and snapshots of namespaces cease to exist. -/
def dropNamespaces (nss : List Nat) (d : Device) : Device :=
  let keys := d.kv.index.filter fun e => nss.contains e.ns
  let snaps := d.snap.snaps.filter fun s => nss.contains s.ns
  let d := keys.foldl (fun d e => touchMap 1 (indexKey e.ns e.key) (journalRecord (.keyRemoved e.ns e.key) d)) d
  let d := snaps.foldl (fun d s => snapRecord s 0 d) d
  let gone := d.kv.manifests.filter fun m => nss.contains m.ns
  let d := gone.foldl (fun d m => dropLocator m.seq d) d
  { d with
    kv := { d.kv with
      index := d.kv.index.filter fun e => !nss.contains e.ns
      durable := d.kv.durable.filter fun e => !nss.contains e.ns
      manifests := d.kv.manifests.filter fun m => !nss.contains m.ns }
    dict := if snaps.isEmpty then d.dict else (bumpVersion 0x3310 d).dict
    snap := { d.snap with snaps := d.snap.snaps.filter fun s => !nss.contains s.ns } }

/-- Namespaces that a long operation works on. -/
def opNamespaces (op : LongOp) (d : Device) : List Nat :=
  match op with
  | .list ns _ _ _ => [ns]
  | .difference ns _ _ _ _ => [ns]
  | .erasure ns _ _ _ => [ns]
  | .replication n =>
    let snap := (d.snap.sessions.getD n ReplSession.blank).current
    (snap.bind fun k => (snapOf k d).map (·.ns)).toList
  | _ => []

/-- Namespace of a replication session's configuration (R485). -/
def sessionNs (n : Nat) (d : Device) : Nat := bits (odVal 0x3320 (n + 1) d) 383 352

/-- Long operations and sessions of namespaces end in state 5. -/
def endOperations (nss : List Nat) (d : Device) : Device :=
  let slots := (List.range 64).filter fun n =>
    let s := longSlot n d
    (s.state == 1 || s.state == 2) && (opNamespaces s.op d).any fun x => nss.contains x
  let d := slots.foldl (fun d n => endSlot n 5 d) d
  let runs := fun x : ReplSession => x.st != 0 && x.st != 1
  (List.range 16).foldl (fun d n =>
    if runs (sessionOf n d) && nss.contains (sessionNs n d) then sessionTo n 5 (rewindSession n (onSession n (fun x => { x with slot := none }) d)) else d) d

/-- Commands of namespaces that have not been acknowledged complete with Command Interrupted. -/
def interruptCmds (f : Cmd → Bool) (d : Device) : Device :=
  (d.nvme.cmds.filter f).foldl (fun d c => failCmd c.id .interrupted 0 d) d

/-- TENANT_ERASE at T on this peer. -/
def tenantErase (t : Nat) (d : Device) : Device :=
  let nss := ((List.range 1024).map (· + 1)).filter fun n => nsTenant n d == t
  let d := interruptCmds (fun c => nss.contains (c.ns d)) d
  let d := endOperations nss d
  let d := dropNamespaces nss d
  let copies := d.kv.copies.filter fun c => domainTenant c.domain d == t && !c.dead
  let erased := copies.map fun c => (⟨c.domain, c.fp, c.num, t, copyBlocks c d⟩ : ErasedCopy)
  let d := copies.foldl (fun d c => killCopy c d) d
  let d := { d with cipher := { d.cipher with erased := d.cipher.erased ++ erased } }
  let d := dropCache (fun x => domainTenant x.domain d == t) d
  let d := (tenantSlots t d).foldl eraseSlot d
  if copies.isEmpty then logEvent 0x0909 0x0030 0 t d else d

/-! ## Alarms (R268 to R271, R516, R535 to R537) -/

/-- Every slot in state 1 or 2 is zeroised; its wrapped copy and its state before remain. -/
def zeroiseSlots (d : Device) : Device :=
  let zero := fun k : KeySlot =>
    if k.st == .active || k.st == .decryptOnly then
      { k with st := .zeroised, before := k.st, key := none, counterA := 0, counterB := 0, limitPending := none }
    else k
  bumpVersion 0x2810 { d with cipher := { d.cipher with slots := d.cipher.slots.map fun s => (s.1, zero s.2) } }

/-- The hot-chunk cache is emptied: event 0x0704. -/
def clearCache (d : Device) : Device :=
  if d.kv.cache.isEmpty then d
  else logEvent 0x0704 0x0042 2 d.kv.cache.length (odBump 0x2640 7 1 { d with kv := { d.kv with cache := [] } })

/-- Descriptors that run return with status 5; no engine raises a machine check. -/
def cancelDescriptors (d : Device) : Device :=
  let runs := (d.eng.engines.filterMap fun x => x.ctx.desc)
  let d := { d with eng := { d.eng with engines := d.eng.engines.map fun x => { x with aes := [] } } }
  runs.foldl (fun d w => descriptorReturn w.tag 5 (some w) d) d

/-- The command waits for the cipher: it still reduces, or it reads. -/
def needsCipher (c : Cmd) : Bool :=
  c.fwdTo.isNone && (c.phase == .reducing || c.phase == .waitClaims || c.phase == .reading || c.phase == .waitMap) &&
    (c.kind == .retrieve || c.items.any fun i => !i.isDelete && !i.settled)

/-- A GENERATE or RELOAD that waits is aborted, and a slot that it filled is EMPTY (R271). -/
def abortSlotWrites (d : Device) : Device :=
  let mine := d.dict.held.filter fun h => h.idx == 0x2800 && h.entry.isNone
  let d := { d with dict := { d.dict with held := d.dict.held.filter fun h => !mine.contains h } }
  mine.foldl (fun d h =>
    let d := if h.sel < 4096 then clearSlot h.sel d else d
    answer h.reply h.idx h.sub (.abort 0x08000022) [] 0 0 d) d

/-- The alarm acts within 1 µs (R269, R535). -/
def alarm (d : Device) : Device :=
  let d := abortSlotWrites d
  let d := zeroiseSlots d
  let d := clearCache d
  let d := { d with
    cipher := { d.cipher with alarm := 1 }, sec := { d.sec with linkKey := none }, peer := { d.peer with mapKey := none } }
  let d := cancelDescriptors d
  let d := interruptCmds needsCipher d
  let d := closeSessions (fun _ => true) d
  let d := odBump 0x2800 8 1 d
  raiseEmcy 0x090700 0xFF00 0x0907 (logEvent 0x0907 0x0030 3 d.sec.sources d)

/-- Sources that are enabled: TAMPER_N by OD 0x3240:02 [0], the others always. -/
def enabledSources (s : Nat) (d : Device) : Nat := setBit (s % 16) 0 (bit s 0 && bit (odVal 0x3240 2 d) 0)

/-- ALARM: sources trip. In PS_4 or while PORST_N is asserted they are latched; before ready, likewise (R536). -/
def alarmTrip (sources : Nat) (d : Device) : Device :=
  let s := enabledSources sources d
  if s == 0 || d.power.run == .unpowered then d
  else
    let d := { d with sec := { d.sec with sources := d.sec.sources ||| s, clearSince := d.time.now } }
    let d := closeSessions (fun _ => true) d
    if d.power.run != .ready then
      { d with sec := { d.sec with latched := d.sec.latched ||| s }
               power := { d.power with alarmInPs4 := d.power.alarmInPs4 || d.power.run == .dormant } }
    else if d.cipher.alarm == 1 then d
    else alarm d

def execAlarm (sources : Nat) (s : State) : Host.Outcome State Fault Refusal := next s (alarmTrip sources)

/-- A slot after the reload: its state before the alarm under its unwrapped key, or a fresh key. -/
def reloadSlot (d : Device) (n : Nat) : Device :=
  let k := slotOf n d
  if k.st != .zeroised then d
  else if k.freshDue then
    match k.stored with
    | some key => recordLimit n (putSlot n { KeySlot.blank with st := .active, tenant := k.tenant, keygen := k.keygen, wrapped := true, key := some key, stored := some key } d)
    | none => renewKey n k.tenant (putSlot n { k with keygen := (k.keygen + 2 ^ 32 - 1) % 2 ^ 32 } d)
  else restartCounters n (putSlot n { k with st := k.before, key := k.stored, counterA := k.limitA, counterB := k.limitB } d)

/-- ALARM_RELOAD_COMPLETE: the slots are back, new limits recorded, the alarm state 0 (R270). -/
def reloadComplete (d : Device) : Device :=
  if d.cipher.alarm != 3 then d
  else
    let slots := (d.cipher.slots.filter fun s => s.2.st == .zeroised).map (·.1)
    let d := { d with cipher := { d.cipher with alarm := 0 }, peer := { d.peer with mapKey := d.peer.wrappedMapKey } }
    let d := slots.foldl reloadSlot d
    let d := clearEmcy 0x090700 0x0908 (logEvent 0x0908 0x0030 0 slots.length d)
    let mine := d.dict.held.filter fun h => h.idx == 0x2800 && h.sel == 4096
    let d := { d with dict := { d.dict with held := d.dict.held.filter fun h => !mine.contains h } }
    settle (mine.foldl (fun d h => answer h.reply h.idx h.sub .ok [] 0 0 d) d)

def execAlarmReloadComplete (s : State) : Host.Outcome State Fault Refusal := next s reloadComplete

end Sys2Proof.Machine
end

