-- ==== Sys2Proof/Machine/Hold.lean ====
section
/-! DEFINITION. Hold-up: the dirty limit, and what a flush writes (R27, R45 to R48, R339, R340, R452, R554, R555). -/

namespace Sys2Proof.Machine

/-! ## What a flush writes (R46, R48, R340) -/

/-- A dirty write: a version of a key whose copies are not all DURABLE or whose KEY_VERSION record is not durable. -/
def dirtyWrites (d : Device) : List (KeyEntry × Version × Manifest) :=
  d.kv.index.flatMap fun e => e.versions.filterMap fun v =>
    if v.tombstone || v.lost then none
    else (manifestOf v.mseq d).bind fun m =>
      if (m.chunks.all fun c => copyDurable m.domain c.fp c.copy d) && keyVersionDurable d e.ns e.key v.tick then none
      else some (e, v, m)

/-- The copies of dirty writes that lie only in DRAM, each once. -/
def dirtyCopies (ws : List (KeyEntry × Version × Manifest)) (d : Device) : List Copy :=
  (ws.flatMap fun w => w.2.2.chunks.filterMap fun c =>
    match copyOf w.2.2.domain c.fp c.copy d with
    | some x => if x.plain.isEmpty || copyDurable x.domain x.fp x.num d then none else some x
    | none => none).eraseDups

/-! ## Writes held of the other peer (R39, R50, R342, R452) -/

/-- The records held of one write. -/
def heldOf (w : Nat) (d : Device) : List MirrorRecord := (d.peer.held.filter (·.write == w)).map (·.record)

/-- What the ROSTER of a held write says: batch, namespace, key, tick. -/
def heldRoster (rs : List MirrorRecord) : Option (Bool × Nat × Bytes × Nat) :=
  rs.findSome? fun r => match r with
    | .roster _ b ns key t => some (b, ns, key, t)
    | _ => none

def heldManifest (rs : List MirrorRecord) : Option Manifest :=
  rs.findSome? fun r => match r with
    | .manifest _ m => some m
    | _ => none

/-- Every record of a held write has come: a MANIFEST is the last, and a Delete (log 123) has none. -/
def heldWhole (w : Nat) (d : Device) : Bool :=
  (heldRoster (heldOf w d)).isSome && (bit w 62 || (heldManifest (heldOf w d)).isSome)

/-- The commit tick of a write of the other peer: its ROSTER's, that of its KEY_VERSION in the mirrored journal, or the one that a batch's
coordinator has given. -/
def launchedTick (ns : Nat) (key : Bytes) (tick : Nat) (m : Option Manifest) (d : Device) : Option Nat :=
  let ofRecord := fun r : JRecord => match r with
    | .keyVersion n k q tomb t =>
      if n == ns && k == key && (match m with
        | some m => q == m.seq
        | none => tomb) then some t else none
    | _ => none
  if tick != 0 then some tick
  else match d.stripe.mirror.findSome? fun p => p.page.records.findSome? ofRecord with
    | some t => some t
    | none =>
      if m.any (·.batch) then (d.nvme.batches.find? fun b => b.ns == ns && b.keys.contains key).bind (·.tick) else none

/-- A record with the commit tick of its write. -/
def withTick (t : Nat) : FlushRecord → FlushRecord
  | .roster h b ns k 0 => .roster h b ns k t
  | .manifest 0 m => .manifest t m
  | r => r

/-- A record held for the other peer as the flush writes it: the roster lists only whole writes, with the commit tick where it is known. -/
def heldForm? (d : Device) (h : HeldRecord) : Option FlushRecord :=
  let rs := heldOf h.write d
  let isRoster := match h.record with
    | .roster .. => true
    | _ => false
  if h.write / 2 ^ 63 == d.side || (isRoster && !heldWhole h.write d) then none
  else
    let t := (heldRoster rs).bind fun r => launchedTick r.2.1 r.2.2.1 r.2.2.2 (heldManifest rs) d
    some (withTick (t.getD 0) (flushForm h.record))

/-- Records held for the other peer, in the order roster, copies, manifests. -/
def heldForms (d : Device) (sel : FlushRecord → Bool) : List FlushRecord := (d.peer.held.filterMap (heldForm? d)).filter sel

/-! ## The flush (R46, R48, R340) -/

/-- The flush: the roster first, then the dirty data, then the journal state. -/
def flushRecords (d : Device) : List FlushRecord :=
  let ws := dirtyWrites d
  let roster := ws.map fun w => FlushRecord.roster d.side w.2.2.batch w.1.ns w.1.key w.2.1.tick
  let copies := (dirtyCopies ws d).map fun c => FlushRecord.copy c.domain c.slot c.fp c.num (formOf c)
  let manifests := ws.map fun w => FlushRecord.manifest w.2.1.tick w.2.2
  let pages := (d.stripe.pages.filter fun p => d.stripe.durableSeq < p.seq).map FlushRecord.journal
  let isRoster := fun r : FlushRecord => match r with
    | .roster .. => true
    | _ => false
  let isCopy := fun r : FlushRecord => match r with
    | .copy .. => true
    | _ => false
  let isManifest := fun r : FlushRecord => match r with
    | .manifest .. => true
    | _ => false
  roster ++ heldForms d isRoster ++ copies ++ heldForms d isCopy ++ manifests ++ heldForms d isManifest ++ pages

/-- The caravanserai is flushed at once, as write-through data (R41). -/
def flushThrough (d : Device) : Device :=
  let known := (d.map.flushItems.filter (·.flush == 0)).map (·.body)
  flushWriteAll ((flushRecords d).filter fun r => !known.contains r) d

/-! ## The dirty limit (R45, R554, R555) -/

/-- The energy of the hold-up, in 0.1 J. -/
def holdEnergy (d : Device) : Nat :=
  let w := odVal 0x2240 1 d
  let m := odVal 0x2240 2 d
  if w == 0 then m else if m == 0 then w else min w m

/-- LUNs in service on a channel. -/
def liveLuns (c : Nat) (p : Bytes) (d : Device) : Nat :=
  ((d.media.targets.filter (·.channel == c)).flatMap fun t => (List.range (pfLuns p)).filter fun l => !lunFailed c t.target l d).length

/-- What a channel programs in the SLC mode, in bytes per second. -/
def channelRate (c : Nat) (d : Device) : Nat :=
  match profileOf (c / 8) d with
  | none => 0
  | some p =>
    let t := modeTprog (pfMode p 1)
    let bus := tblGetD d.media.rates c 0 * 1000000
    if t == 0 then 0 else min bus (liveLuns c p d * pfMaxPlanes p * pfMain p * 1000000 / t)

/-- F in bytes per second: half the sum over the owned channels in ready groups. -/
def flushRate (d : Device) : Nat :=
  (((List.range 128).filter fun c => ownsChannel c d && groupOn (c / 8) d).map fun c => channelRate c d).sum / 2

/-- D_E in MiB. -/
def energyLimit (d : Device) : Nat :=
  let p := odVal 0x2240 3 d
  flushRate d * (odVal 0x2240 4 d * holdEnergy d - 20 * p) / (1000 * p) / 2 ^ 20

/-- Length of the regions of a use, in MiB. -/
def regionSize (use : Nat) (d : Device) : Nat :=
  ((List.range 64).map fun n =>
    let r := odVal 0x3230 (n + 1) d
    if bits r 7 4 == use then bits r 43 24 else 0).sum

/-- The cap of R339, in MiB. -/
def flushCap (d : Device) : Nat := (d.map.flushFree - 64 * 2 ^ 20) / 2 ^ 20

/-- D before the cap of R339, in MiB. -/
def uncapped (d : Device) : Nat := if d.power.holdupOk then min (energyLimit d) (regionSize 1 d) else 0

/-- D in MiB; a test that waits holds it at half. -/
def dirtyLimitNow (d : Device) : Nat :=
  let n := min (uncapped d) (flushCap d)
  let n := if n < 256 then 0 else n
  if odVal 0x2240 0x0A d == 1 then n / 2 else n

/-- Compute D again: events 0x0B07 and 0x1203, and the hold-up condition. Before step 12 of start-up there is none. -/
def refreshDirty (d : Device) : Device :=
  if !(isReady d || d.power.stage == 12) then d
  else
    let d := odPut 0x2240 5 (flushRate d / 1000000 % 2 ^ 32) d
    let caps : Bool := flushCap d < uncapped d
    let d := if caps && !d.map.capLogged then logEvent 0x0B07 0x0042 1 (flushCap d) d else d
    let d := { d with map := { d.map with capLogged := caps } }
    let n := dirtyLimitNow d
    let old := odVal 0x2240 6 d
    let d := if n == old then d else logEvent 0x1203 0x0071 0 n (odPut 0x2240 6 n d)
    let d := { d with power := { d.power with dirtyLimit := n * 2 ^ 20 } }
    let short := n == 0
    let d := if short && !bit d.conditions 2 then flushThrough (setCond 2 true d) else setCond 2 short d
    if n < old || short then settle d else d

/-- The mirror room that this device offers, in MiB (R452). -/
def mirrorRoom (d : Device) : Nat := d.power.dirtyLimit / 2 ^ 21

end Sys2Proof.Machine
end

