-- ==== Sys2Proof/Machine/Peers.lean ====
section
/-! DEFINITION. What each peer concludes of the other: liveness, the link's loss and return, the peer state, fencing and the
arbiter (R18, R24, R150, R152, R200, R429 to R432, R438 to R443, R458, R624). -/

namespace Sys2Proof.Machine

/-! ## HELLO and HEARTBEAT as this device sends them (R457) -/

/-- This device serves (R446). -/
def serving (d : Device) : Bool := isReady d && d.peer.st != 6 && d.peer.st != 7

/-- Revision of an image (R584). -/
def imageRevision (image : Bytes) : Nat := leAt image 12 4
/-- The image that runs. -/
def activeImage (d : Device) : Bytes := (d.fw.slots.getD d.fw.booted ⟨.empty, []⟩).image
def activeRevision (d : Device) : Nat := imageRevision (activeImage d)

/-- Pair identity OD 0x2000:04 and the preferred map OD 0x2D18. -/
def pairIdentity (d : Device) : Nat := odVal 0x2000 4 d
def preferredMap (d : Device) : List Nat := (List.range 16).map fun g => odVal 0x2D18 (g + 1) d

def helloMsg (d : Device) : HelloMsg :=
  { ident := pairIdentity d, side := d.side, serving := serving d, revision := activeRevision d
    gearGen := odVal 0x2600 6 d, policyGen := odVal 0x2B00 8 d, current := d.peer.owners, preferred := preferredMap d
    counter := d.time.counter, timeState := d.time.st.code }

def sendHello (d : Device) : Device := sendLink (.hello (helloMsg d)) d

/-- A HEARTBEAT; its four timestamps are inserted at the PCS. -/
def sendHeartbeat (peerState : Nat) (d : Device) : Device :=
  sendLink (.heartbeat peerState d.time.st.rank d.time.st.code (mirrorRoom d) d.peer.homeShare d.stripe.durableSeq d.peer.lastTotal) d

/-! ## Claims across a loss of the link (R200, R624) -/

/-- A chunk as before its claim. -/
def unclaimed (w : WorkChunk) : WorkChunk :=
  { w with copy := none, isNew := false, claimed := false, present := false, req := none, claim := none, stored := false }

/-- The request stands for the chunk. -/
def isClaimOf (i : Item) (chunk req : Nat) : Bool := (i.chunks[chunk]?).any fun w => w.req == some req || w.claim == some req

/-- A claim that is unanswered, or whose copy is still pending at the other peer, is recorded as unanswered, and made again here if `again`. -/
def remakeClaim (again : Bool) (d : Device) (r : LinkReq) : Device :=
  match r.what with
  | .claim cmd item chunk =>
    let d := { d with kv := { d.kv with unanswered := d.kv.unanswered ++ [r.id] } }
    match (cmdOf cmd d).bind fun c => c.items[item]? with
    | none => d
    | some i =>
      if !isClaimOf i chunk r.id then d
      else if again then claimChunk cmd item chunk i.domain r.fp (onChunk cmd item chunk unclaimed d)
      else onChunk cmd item chunk unclaimed d
  | _ => d

/-- Every open claim at the other peer is unanswered; it is made again here, or later. -/
def remakeClaims (again : Bool) (d : Device) : Device :=
  let open_ := fun r : LinkReq => match r.what with
    | .claim .. => true
    | _ => false
  let rs := d.peer.reqs.filter open_
  rs.foldl (remakeClaim again) { d with peer := { d.peer with reqs := d.peer.reqs.filter fun r => !open_ r } }

/-- The link returns: before any new claim, each unanswered claim is released. -/
def releaseUnanswered (d : Device) : Device :=
  sendAll (d.kv.unanswered.map fun id => .fpRequest id 0 2 (List.replicate 32 0) 0xFFFFFFFF [])
    { d with kv := { d.kv with unanswered := [] } }

/-! ## Chunk-map entries that pass to the other peer (R200, R447) -/

def chunkEntry (c : Copy) : ChunkEntry :=
  { domain := c.domain, fp := c.fp, num := c.num, refs := c.refs, present := c.present, pinned := c.pinned, dead := c.dead
    detached := c.detached, deflate := c.enc == .deflate, plain := [], plainLen := c.plainLen, storedLen := c.storedLen, slot := c.slot
    extents := c.extents }

/-- The side that a fingerprint belongs to once ownership is split. -/
def splitOwner (fp : Bytes) : Nat := leAt fp 0 1 % 2

/-- DETACHED copies that this device made of the other peer's fingerprints are handed to it, still DETACHED (R200). -/
def handDetached (d : Device) : Device :=
  let made := fun c : Copy => c.detached && bit c.num 31 && !c.handed && !ownsFp c.fp d
  let mine := d.kv.copies.filter made
  if mine.isEmpty then d
  else
    let copies := d.kv.copies.map fun c => if made c then { c with handed := true } else c
    sendLink (.fpEntries (mine.map chunkEntry)) { d with kv := { d.kv with copies := copies } }

/-! ## The loss of the link -/

/-- Reservations for the other peer whose command has not started here are released (R150). -/
def dropPeerLocks (d : Device) : Device :=
  let idle := d.nvme.cmds.filter fun c => c.fwdFrom.isSome && (c.phase == .waitOrder || c.phase == .waitLocks || (c.phase == .forwarded && isRangeCmd c.sqe))
  let d := idle.foldl (fun d c => removeCmd c d) d
  let d := setLocks (d.nvme.locks.filter fun l => !(l.fwd.isSome && l.cmd == 0)) d
  { d with nvme := { d.nvme with remoteLocks := [] } }

/-- Shared writes that wait for the other peer abort (R188). -/
def dropHeld (d : Device) : Device :=
  let waits := fun h : HeldWrite => h.entry.isNone && !(h.idx == 0x2800 && h.sel == 4096)
  let gone := d.dict.held.filter waits
  let d := { d with dict := { d.dict with held := d.dict.held.filter fun h => !waits h }, sec := { d.sec with pendingOwner := none } }
  gone.foldl (fun d h =>
    let d := if h.idx == 0x2800 && h.sel < 4096 then clearSlot h.sel d else d
    answer h.reply h.idx h.sub (.abort 0x08000022) [] 0 0 d) d

/-- The owner bits of the channels of a hand-over (R433). -/
def setOwnerBits (g mask side : Nat) (d : Device) : Device :=
  let v := d.peer.owners.getD g 0
  let v' := (List.range 8).foldl (fun v n => if bit mask n then setBit v n (side == 1) else v) v
  { d with peer := { d.peer with owners := d.peer.owners.set g v' } }

/-- A hand-over ends without effect: the old owner keeps the channels (R438). -/
def revertHandover (h : Handover) (d : Device) : Device :=
  let d := { d with peer := { d.peer with handovers := d.peer.handovers.filter (· != h) } }
  let d := setOwnerBits h.group h.mask (1 - h.newSide) d
  logEvent 0x0E06 0x0060 0 (65536 + h.group * 256 + h.mask) d

/-- Hand-overs at the loss of the link: the old owner that has not released reverts; without RELEASED the new owner waits. -/
def dropHandovers (d : Device) : Device :=
  (d.peer.handovers.filter fun h => h.old && h.released.isNone).foldl (fun d h => revertHandover h d) d

/-- Bucket moves that have not drained are void (R458). -/
def dropMoves (d : Device) : Device :=
  let void := d.peer.moves.filter (·.drained.isNone)
  let d := void.foldl (fun d m =>
    if m.launched then
      let back := 1 - m.newSide
      putOverride m.bucket back (m.bucket % 2) { d with peer := { d.peer with
        overrides := if defaultHome m.bucket d == back then tblDel d.peer.overrides m.bucket else tblPut d.peer.overrides m.bucket back } }
    else d) d
  { d with peer := { d.peer with moves := d.peer.moves.filter (·.drained.isSome) } }

/-- Reads of units at the other peer end (log 59). -/
def dropFetches (d : Device) : Device :=
  ((d.kv.fetches.map (·.cmd)).eraseDups).foldl (fun d id => failCmd id .interrupted 0 d) d

/-- A request that changes an entry at the other peer. -/
def countReq (r : LinkReq) : Bool :=
  match r.what with
  | .release | .decrement | .present => true
  | _ => false

/-- The link goes down: the changes of entries that the other peer has acknowledged are made; the others are lost and go out again when it
is back (R456). -/
def dropServed (d : Device) : Device :=
  let names := fun (id : Nat) (m : LinkMsg) => match m with
    | .fpRequest q _ _ _ _ _ => q == id
    | _ => false
  let open_ := fun id : Nat => (d.peer.unacked.any fun f => names id f.msg) || d.peer.waiting.any fun w => names id w.2
  { d with peer := { d.peer with reqs := d.peer.reqs.filter fun r => !countReq r || open_ r.id } }

/-- Requests that are lost with the link: claims and erases stay open, and what changes a count waits for the link's return. -/
def dropReqs (d : Device) : Device :=
  let keep := fun r : LinkReq => match r.what with
    | .claim .. => true
    | .erase .. => true
    | _ => countReq r
  { d with peer := { d.peer with reqs := d.peer.reqs.filter keep }, map := { d.map with moveRequests := [] } }

/-- What the loss of the link brings about at once. -/
def linkLost (d : Device) : Device :=
  refreshDurable (dropReqs (dropFetches (dropMoves (dropHandovers (dropHeld (dropPeerLocks d))))))

/-- The link is back: a batch that this peer coordinated tells the other home its tick again, or that it has failed (R39). -/
def retellBatches (d : Device) : Device :=
  let tell := fun (d : Device) (b : BatchTick) => match b.tick with
    | some t => tellTick b.fwd t d
    | none => sendLink (.fwdCompletion b.fwd Status.interrupted.sct Status.interrupted.sc false 0 0 0) d
  (d.nvme.batches.filter fun b => ownId b.fwd d).foldl tell { d with nvme := { d.nvme with batches := d.nvme.batches.filter (·.tick.isSome) } }

/-- Commands at the other peer that nothing will answer any more complete without effect. -/
def interruptForwarded (st : Status) (d : Device) : Device :=
  let out := d.nvme.cmds.filter fun c => c.fwdFrom.isNone && c.parent.isNone && c.tick.isNone &&
    ((c.phase == .forwarded && c.fwdTo.isSome) || !c.kids.isEmpty)
  out.foldl (fun d c =>
    let parts := d.nvme.cmds.filter fun x => x.parent == some c.id
    failCmd c.id st 0 (parts.foldl (fun d x => removeCmd x d) d)) d

/-! ## Fencing (R431, R439, R442) -/

/-- The arbiter's request ends. -/
def endArbiter (st : Nat) (d : Device) : Device :=
  clearEmcy 0x0E0300 0x0E03 { d with peer := { d.peer with arbState := st, fenceDue := none } }

/-- This peer drives FENCE_OUT_N low. Cause: 1 decision, 2 timeout, 3 absent at start-up, 4 refused peer. -/
def assertFence (cause : Nat) (d : Device) : Device :=
  if d.peer.fenceOut then d
  else
    let d := endSelfTest 2 0 (if d.peer.arbState == 1 && cause ≤ 2 then endArbiter (cause + 1) d else d)
    let owns := d.peer.takenOver && d.peer.st == 5
    let d := { d with peer := { d.peer with
      fenceOut := true, fenceAt := d.time.now, st := 5, met := false, treatedDown := false, waitUntil := none
      takeover := if owns then none else some ⟨d.time.now, false⟩ } }
    refreshLinkCond (refreshRanks (logEvent 0x0E04 0x0060 2 cause d))

/-- This device is refused, or refuses as one that does not serve (R446, R532). -/
def beRefused (d : Device) : Device := { d with peer := { d.peer with st := 7, driven := 0, waitUntil := none, helloDone := false } }

/-! ## The peer state (R431, R442, R550) -/

/-- Entry to peer state 3: the arbiter is asked. -/
def askArbiter (d : Device) : Device :=
  let d := { d with peer := { d.peer with state3At := d.time.now, arbState := 1, arbTick := d.time.counter } }
  raiseEmcy 0x0E0300 0xFF00 0x0E03 (logEvent 0x0E03 0x0060 2 d.time.counter d)

/-- What the table of R431 gives. -/
def peerStateNow (d : Device) : Nat :=
  if linkIsUp d then 1 else if d.peer.peerAnnounced == 4 then 4 else if d.peer.aliveIn then 2 else 3

/-- Derive the peer state again, with what the change brings about. -/
def refreshPeer (d : Device) : Device :=
  if !d.peer.met || d.peer.st == 0 || 5 ≤ d.peer.st then d
  else
    let old := d.peer.st
    let new := peerStateNow d
    if new == old then refreshLinkCond d
    else
      let d := if old == 3 then endArbiter 0 d else d
      let d := if old == 1 then linkLost d else d
      let d := refreshLinkCond (refreshRanks { d with peer := { d.peer with st := new } })
      let d := if new == 3 then askArbiter d else d
      let d := if new == 2 || new == 4 then remakeClaims true d else d
      let d := if new == 4 then invalidateNone (interruptForwarded .interrupted d) else d
      settle (refreshDurable d)

/-! ## PEER_ALIVE (R429) -/

/-- PEER_ALIVE_OUT may toggle: neither reset nor halted, fenced or standing down. -/
def aliveAllowed (d : Device) : Bool := isUp d && d.peer.st != 6 && d.power.frozenAt.isNone

/-- The next toggle comes 40,000 ticks after the last; the control processors have serviced their watchdog. -/
def execPeerAliveToggle (s : State) : Host.Outcome State Fault Refusal :=
  next s fun d =>
    if !aliveAllowed d then d
    else
      let d := waitUntil (d.peer.lastToggle + us 50) d
      { d with peer := { d.peer with aliveOut := !d.peer.aliveOut, lastToggle := d.time.now, watchdogAt := d.time.now } }

/-- The watchdog goes unserviced for 1 ms: the pin stays low. -/
def execLivenessWatchdogExpiry (s : State) : Host.Outcome State Fault Refusal :=
  next s fun d =>
    let d := waitUntil (d.peer.watchdogAt + ms 1) d
    { d with peer := { d.peer with aliveOut := false } }

/-- The level of PEER_ALIVE_IN as concluded changes: event 0x0E02. -/
def setAliveIn (b : Bool) (d : Device) : Device :=
  if d.peer.aliveIn == b then { d with peer := { d.peer with aliveLast := d.time.now } }
  else
    let d := { d with peer := { d.peer with aliveIn := b, aliveLast := d.time.now } }
    refreshPeer (logEvent 0x0E02 0x0060 1 (b2n b) d)

/-- The fourth edge of a run, each 30 to 70 µs after the one before. -/
def execPeerAliveAsserted (s : State) : Host.Outcome State Fault Refusal :=
  next s fun d => if isUp d then setAliveIn true d else d

/-- 800,000 ticks without an edge. -/
def execPeerAliveLost (s : State) : Host.Outcome State Fault Refusal :=
  next s fun d =>
    if !isUp d || !d.peer.aliveIn then d
    else
      let d := waitUntil (d.peer.aliveLast + 800000) d
      setAliveIn false { d with peer := { d.peer with lostAt := some d.time.now } }

/-! ## The link goes down (R430, R558) -/

/-- The lanes no longer carry frames: what was not acknowledged is lost, and the link key with it. -/
def dropLanes (d : Device) : Device :=
  if d.peer.link == 0 then d
  else
    let d := { d with
      peer := { d.peer with link := 0, helloSeen := false, helloDone := false, heartbeatRun := 0, unacked := [], waiting := [] }
      sec := { d.sec with linkKey := none } }
    logEvent 0x0E01 0x0060 1 0 (odPut 0x3200 7 0 d)

/-- RELEASED frames without an acknowledgement go out again when the link returns (R438); a drain of which the other peer has not acknowledged
DRAIN_DONE has not ended (R458). -/
def noteUnreleased (d : Device) : Device :=
  let undone := fun m : BucketMove => m.old && d.peer.unacked.any fun f => match f.msg with
    | .drainDone b _ => b == m.bucket
    | _ => false
  let d := { d with peer := { d.peer with moves := d.peer.moves.map fun m => if undone m then { m with drained := none } else m } }
  let sent := fun h : Handover => d.peer.unacked.any fun f => match f.msg with
    | .released g m _ => g == h.group && m == h.mask
    | _ => false
  { d with peer := { d.peer with handovers := d.peer.handovers.map fun h =>
      if h.old && h.released.isSome then { h with acked := !sent h } else h } }

def linkDown (d : Device) : Device :=
  if d.peer.link == 0 then d else refreshPeer (dropLanes (noteUnreleased (if d.peer.helloDone then dropServed d else d)))

/-- LINK_DOWN. -/
def execLinkDown (s : State) : Host.Outcome State Fault Refusal := next s linkDown

/-! ## The arbiter (R442, R443) -/

/-- Decision 1: side A fences at once, side B 2 ms after the write. -/
def arbiterSurvive (d : Device) : Device :=
  let d := { d with peer := { d.peer with arbDecision := 1 } }
  if d.peer.st == 3 || (d.peer.st == 0 && d.power.stage == 6 && !d.peer.met) then
    (if d.side == 0 then assertFence 1 d else { d with peer := { d.peer with fenceDue := some (d.time.now + ms 2) } })
  else d

/-- SURVIVE_FENCE_DELAY. -/
def execSurviveFenceDelay (s : State) : Host.Outcome State Fault Refusal :=
  next s fun d => match d.peer.fenceDue with
    | none => d
    | some t =>
      let d := waitUntil t d
      if d.peer.st == 3 || d.peer.st == 0 then assertFence 1 { d with peer := { d.peer with fenceDue := none } }
      else { d with peer := { d.peer with fenceDue := none } }

/-- ARBITER_TIMEOUT: no decision within 1 s on side A, 3 s on side B. -/
def execArbiterTimeout (s : State) : Host.Outcome State Fault Refusal :=
  next s fun d =>
    if d.peer.st != 3 || d.peer.arbState != 1 || d.peer.fenceDue.isSome then d
    else assertFence 2 (waitUntil (d.peer.state3At + (if d.side == 0 then sec 1 else sec 3)) d)

/-- A peer stands down (R443): every command not acknowledged completes with status 0xC3. -/
def quitServing (d : Device) : Device :=
  let d := logEvent 0x0E0B 0x0060 2 0 { d with peer := { d.peer with aliveOut := false, st := 6 } }
  let out := d.nvme.cmds.filter fun c => c.parent.isNone
  refreshLinkCond (out.foldl (fun d c => failCmd c.id (.vendor 0xC3) 0 d) d)

/-- Decision 2: this peer stands down. -/
def standDown (d : Device) : Device :=
  let d := { d with peer := { d.peer with arbDecision := 2 } }
  if d.peer.st != 3 then d else quitServing (endArbiter 2 d)

/-- Decision 3: the fence is released; none when this peer holds none. -/
def releaseFence (d : Device) : Option Device :=
  if d.peer.fenceOut then some { d with peer := { d.peer with fenceOut := false, arbDecision := 3 } } else none

end Sys2Proof.Machine
end

