-- ==== Sys2Proof/Machine/Handshake.lean ====
section
/-! DEFINITION. The link comes up and its handshake: OFFER, FINISH, the link key, and the way back from an alarm (R430, R454,
R532, R533, R535 to R537, R270). -/

namespace Sys2Proof.Machine

/-! ## OFFER and FINISH (R532) -/

/-- The body of an OFFER (R533). -/
def offerBody (pub identity attestation digest : Bytes) : Bytes :=
  padTo 96 pub ++ padTo 96 identity ++ padTo 96 attestation ++ padTo 48 digest

/-- This device's OFFER body with its ephemeral key. -/
def ownOffer (d : Device) : Bytes := offerBody d.sec.shake.pub identityPublic Config.attestation (ownerDigest d)

/-- What both FINISH signatures cover: the SHA-384 of both OFFER bodies, side A's first. -/
def shakeDigest (d : Device) : Bytes :=
  if d.side == 0 then sha384 (ownOffer d ++ d.sec.shake.peerBody) else sha384 (d.sec.shake.peerBody ++ ownOffer d)

/-- Kinds 1 and 2 carry invocation count 0 and no encryption. -/
def sendOffer (d : Device) : Device :=
  sendLink (.secure 0 (.offer d.sec.shake.pub identityPublic Config.attestation (ownerDigest d))) d

def sendFinish (d : Device) : Device := sendLink (.secure 0 (.finish (Config.identitySign (shakeDigest d)))) d

/-- A fresh ephemeral key pair, and the OFFER of it; with the other peer's OFFER already here, the FINISH too (R537). -/
def startShake (d : Device) : Device :=
  let r := drawBytes 7 d
  let k := beNat r.1 % (n384 - 1) + 1
  let d := r.2
  let d := { d with sec := { d.sec with shake := { d.sec.shake with
    draw := k, pub := ecBytes (ecMul 384 k (some g384)), offerSent := true } } }
  let d := sendOffer d
  if d.sec.shake.offerOk then sendFinish d else d

/-- The handshake fails: event 0x1103, and the peer that does not serve is refused. `check`: 1 attestation, 2 signature,
3 owner digests. -/
def shakeFailed (check : Nat) (d : Device) : Device :=
  let d := logEvent 0x1103 0x0072 2 check (odPut 0x3200 7 2 { d with sec := { d.sec with linkKey := none } })
  if serving d then assertFence 4 d else beRefused d

/-- OFFER: attestation under R525 and owner digests; FINISH answers it. -/
def offer (m : OfferMsg) (d : Device) : Device :=
  let d := { d with sec := { d.sec with shake := { d.sec.shake with
    peerPub := m.pub, peerIdent := m.identity, peerDigest := m.ownerDigest
    peerBody := offerBody m.pub m.identity m.attestation m.ownerDigest, offerOk := false } } }
  if !ecdsaVerify Config.attestationKey (sha384 (m.identity ++ leBytes 4 Config.peerSerial.toNat)) m.attestation then shakeFailed 1 d
  else if m.ownerDigest != ownerDigest d then shakeFailed 3 d
  else sendFinish { d with sec := { d.sec with shake := { d.sec.shake with offerOk := true } } }

/-- OFFER. -/
def execOffer (h : FrameHdr) (m : OfferMsg) (s : State) : Host.Outcome State Fault Refusal := next s (acceptFrame h 2 (offer m))

/-- The salt of the link key: the pair identity, zeros before the peers have met (R533). -/
def linkSalt (d : Device) : Bytes := leBytes 8 (if d.peer.met then pairIdentity d else 0)

/-- FINISH: the signature under the offered identity; the link key is established, and HELLO follows. -/
def finish (sig : Bytes) (d : Device) : Device :=
  if !d.sec.shake.offerOk then d
  else if !ecdsaVerify d.sec.shake.peerIdent (shakeDigest d) sig then shakeFailed 2 d
  else if d.cipher.alarm == 1 then d
  else
    let key := hkdf384 (ecdh d.sec.shake.draw d.sec.shake.peerPub) (linkSalt d) (ascii "MBT link") 32
    let d := odPut 0x3200 7 1 { d with sec := { d.sec with linkKey := some key } }
    sendHello (if d.peer.helloDone then resendSalts d else d)

/-- FINISH. -/
def execFinish (h : FrameHdr) (sig : Bytes) (s : State) : Host.Outcome State Fault Refusal := next s (acceptFrame h 2 (finish sig))

/-! ## LINK_UP (R430, R454) -/

/-- Every lane of the width has trained: frames count from 1 again, and the handshake starts. `lanes`: 8 for all of them,
otherwise the first of the four that trained. -/
def linkUp (lanes : Nat) (d : Device) : Device :=
  if !(isUp d && domainOn 23 d && !domainFaulty 23 d) || linkPhysical d then d
  else
    let width := if lanes == 8 then 2 else 3
    let d := { d with
      power := { d.power with sdclk := true }
      peer := { d.peer with
        link := width, classes := List.replicate 4 ⟨0, 0, 0, 0, none⟩, unacked := [], waiting := []
        lastHeartbeat := d.time.now, heartbeatSince := d.time.now, heartbeatRun := 0, helloSeen := false, helloDone := false }
      sec := { d.sec with
        linkKey := none, sendCount := 1, recvCount := 0, ackedCount := 0
        shake := { draw := 0, pub := [], offerSent := false, peerPub := [], peerIdent := [], peerDigest := [], peerBody := [], offerOk := false } } }
    let d := if width == 3 then logEvent 0x0E0C 0x0060 1 (b2n (lanes == 4)) d else d
    let d := logEvent 0x0E01 0x0060 1 width (odPut 0x3200 7 0 d)
    let r := draw d
    startShake { r.2 with time := { r.2.time with laneAsymmetry := (BitVec.ofNat 64 r.1).toInt } }

/-- LINK_UP. -/
def execLinkUp (lanes : Nat) (s : State) : Host.Outcome State Fault Refusal := next s (linkUp lanes)

/-! ## Every source of an alarm has been clear for 100 ms (R270) -/

/-- The slots reload, or await RELOAD where the alarm is permanent; the link handshake runs again. -/
def sourcesClear (d : Device) : Device :=
  let d := waitUntil (d.sec.clearSince + ms 100) { d with sec := { d.sec with sources := 0 } }
  if d.cipher.alarm != 1 then d
  else
    let d := { d with cipher := { d.cipher with alarm := if odVal 0x3240 1 d == 1 then 2 else 3 } }
    if linkPhysical d && d.sec.linkKey.isNone then startShake d else d

/-- ALARM_SOURCES_CLEAR. -/
def execAlarmSourcesClear (s : State) : Host.Outcome State Fault Refusal := next s sourcesClear

end Sys2Proof.Machine
end

