-- ==== Sys2Proof/Machine/Patch.lean ====
section
/-! DEFINITION. Images: the firmware image and its slots, the store image, patch packages (R492 to R494, R498 to R501, R503, R509
to R516, R584 to R586). -/

namespace Sys2Proof.Machine

/-! ## Microwords (R492, R493, R500) -/

/-- Parity of the n lowest bits: true when their number of ones is odd. -/
def oddOnes (v : Nat) : Nat → Bool
  | 0 => false
  | n + 1 => xor (bit v n) (oddOnes v n)

/-- The function fields with their highest code: high bit, low bit, highest code. -/
def wordFields : List (Nat × Nat × Nat) :=
  [(120, 115, 47), (112, 108, 23), (76, 73, 5), (72, 68, 3), (67, 63, 5), (62, 57, 6), (56, 51, 4), (50, 45, 4), (44, 41, 3), (40, 38, 2),
   (37, 35, 2), (34, 30, 4), (29, 28, 3), (27, 24, 4), (23, 20, 15), (19, 16, 3), (9, 6, 4), (5, 0, 0)]

/-- Least CYC of an ALU operation (R498). -/
def leastCyc (op : Nat) : Nat := if op == 14 then 2 else 0

/-- A word passes the loader (R500). Every address of a whole store image holds a word, so every TARGET lies on one. -/
def wordLoads (w : Nat) : Bool :=
  (wordFields.all fun f => bits w f.1 f.2.1 ≤ f.2.2) &&
  leastCyc (bits w 112 108) ≤ bits w 114 113 &&
  (List.range 8).all fun g => oddOnes (w / 2 ^ (17 * g)) 17 == bit w (136 + g)

/-- A store image passes the loader: its length, its words, the reserved bits of its dispatch entries. -/
def storeLoads (image : Bytes) : Bool :=
  image.length == 74240 && ((List.range 4096).all fun n => wordLoads (leAt image (18 * n) 18)) &&
  (List.range 256).all fun n => bits (leAt image (73728 + 2 * n) 2) 14 12 == 0

/-! ## Firmware images (R584) -/

/-- Body length and body of an image. -/
def imageBody (image : Bytes) : Bytes := slice image 128 (leAt image 20 4)
def imageSecurity (image : Bytes) : Nat := leAt image 16 4

/-- An image verifies; the image that the device left the factory with does (R584). -/
def imageVerifies (image : Bytes) (d : Device) : Bool :=
  image == Config.factoryImage ||
  (let b := leAt image 20 4
   leAt image 0 4 == 0x5746424D && leAt image 4 2 == 1 && leAt image 8 4 == Config.productCode && b ≤ 16776992 &&
   sha384 (imageBody image) == slice image 24 48 &&
   ecdsaVerify Config.phontikorKey (sha384 (image.take (128 + b))) (slice image (128 + b) 96) &&
   odVal 0x2F00 5 d ≤ imageSecurity image)

def slotImage (n : Nat) (d : Device) : ImageSlot := d.fw.slots.getD n ⟨.empty, []⟩

/-- Change an image slot. -/
def onImage (n : Nat) (f : ImageSlot → ImageSlot) (d : Device) : Device := { d with fw := { d.fw with slots := modNth d.fw.slots n f } }

/-- A slot that would boot and fails verification becomes FAILED. -/
def failUnverified (d : Device) : Device :=
  (List.range 2).foldl (fun d n =>
    let s := slotImage n d
    if (s.st == .pending || s.st == .active || s.st == .valid) && !imageVerifies s.image d then
      onImage n (fun s => { s with st := .failed }) d else d) d

/-- The slot that boots (R586), and the device after it; none when nothing verifies. -/
def bootSelect (d : Device) : Option Device :=
  let d := failUnverified d
  let slot := fun st : ImageSt => (List.range 2).find? fun n => (slotImage n d).st == st
  match slot .pending, slot .active, slot .valid with
  | some n, _, _ => some (onImage n (fun s => { s with st := .trial }) { d with fw := { d.fw with booted := n } })
  | none, some n, _ => some { d with fw := { d.fw with booted := n } }
  | none, none, some n =>
    some (logEvent 0x1403 0x0073 2 n (onImage n (fun s => { s with st := .active }) { d with fw := { d.fw with booted := n } }))
  | none, none, none => none

/-! ## Patch packages (R509 to R513) -/

/-- One record of a decrypted payload applied to an image; none when the record is wrong. -/
def patchRecords : Nat → Bytes → Bytes → Option Bytes
  | 0, rest, image => if rest.isEmpty then some image else none
  | n + 1, rest, image =>
    match leAt rest 0 2 with
    | 1 =>
      let a := leAt rest 2 2
      if rest.length < 24 || 4096 ≤ a || leAt rest 22 2 != 0 then none
      else patchRecords n (rest.drop 24) (image.take (18 * a) ++ slice rest 4 18 ++ image.drop (18 * a + 18))
    | 2 =>
      let a := 73728 + 2 * leAt rest 2 1
      if rest.length < 8 || leAt rest 3 1 != 0 || leAt rest 6 2 != 0 then none
      else patchRecords n (rest.drop 8) (image.take a ++ slice rest 4 2 ++ image.drop (a + 2))
    | _ => none

/-- The signer's public key and patch secret: Phontikor's, or those of a valid owner record. -/
def patchSigner (n : Nat) (d : Device) : Option (Bytes × Bytes) :=
  if n == 0 then some (Config.phontikorKey, Config.patchSecret)
  else if n ≤ 15 && (ownerOf n d).st == .valid then some ((ownerOf n d).key, (ownerOf n d).secret)
  else none

/-- Checks 1 to 7 of R512 in order: the patched image, or the number of the check that fails. At a start checks 2 and 4 are not
made again, but a key that is no longer enrolled fails check 2 (R513, R529). -/
def patchCheck (start : Bool) (pkg base : Bytes) (d : Device) : Except Nat Bytes :=
  let p := leAt pkg 76 4
  let n := leAt pkg 6 2
  if leAt pkg 0 4 != 0x4B50424D || leAt pkg 4 2 != 1 || pkg.length != 240 + p || p % 8 != 0 || 131072 < pkg.length ||
     leAt pkg 8 4 != Config.productCode then .error 1
  else match patchSigner n d with
    | none => .error 2
    | some (key, secret) =>
      if !start && n != 0 && odVal 0x2F20 7 d == 0 then .error 2
      else if !ecdsaVerify key (sha384 (pkg.take (144 + p))) (slice pkg (144 + p) 96) then .error 3
      else if !start && leAt pkg 12 4 ≤ odVal 0x2F20 4 d then .error 4
      else
        let nonce := slice pkg 64 12
        let aes := hkdf384 secret nonce (ascii "MBT patch" ++ leBytes 4 Config.productCode) 32
        match gcmOpen aes nonce (pkg.take 128) (slice pkg 128 p) (slice pkg (128 + p) 16) with
        | none => .error 5
        | some payload =>
          match patchRecords (leAt pkg 80 4) payload base with
          | none => .error 6
          | some image => if storeLoads image then .ok image else .error 7

def patchLevel (pkg : Bytes) : Nat := leAt pkg 12 4

/-- The base store image of the image that runs. -/
def baseStore (d : Device) : Bytes := Config.storeImageOf (imageBody (activeImage d))

/-- The package names this base image. -/
def patchFits (pkg : Bytes) (d : Device) : Bool := slice pkg 16 48 == sha384 (baseStore d)

/-- The image with its digests in OD 0x2F20. -/
def setStore (image : Bytes) (d : Device) : Device :=
  odPut 0x2F20 2 (leNat (sha384 image)) (odPut 0x2F20 1 (leNat (sha384 (baseStore d))) { d with eng := { d.eng with dramImage := image } })

/-- A package takes effect: level, floor, state 2. -/
def patchActive (pkg : Bytes) (d : Device) : Device :=
  odPut 0x2F20 5 2 (odPut 0x2F20 4 (max (patchLevel pkg) (odVal 0x2F20 4 d)) (odPut 0x2F20 3 (patchLevel pkg) d))

/-- Event 0x1006 with the clusters that are loaded. -/
def patchEvent (d : Device) : Device :=
  logEvent 0x1006 0x0073 0 (odVal 0x2F20 3 d * 2 ^ 32 + bits (odVal 0x2210 1 d) 19 16) d

/-- Event 0x1005: a package fails a check of R512. -/
def patchRefused (pkg : Bytes) (check : Nat) (d : Device) : Device := logEvent 0x1005 0x0073 1 (patchLevel pkg * 2 ^ 32 + check) d

/-- Steps 1 to 6 of R503 at a start; none when the store image does not load. The factory's store image loads (DEDUCED). -/
def loadStores (d : Device) : Option Device :=
  let base := baseStore d
  if activeImage d != Config.factoryImage && !storeLoads base then none
  else
    let d := setStore base (odPut 0x2F20 5 0 (odPut 0x2F20 3 0 d))
    let d := if d.eng.patch.isEmpty then d
      else match patchCheck true d.eng.patch base d with
        | .ok image => if patchFits d.eng.patch d then patchActive d.eng.patch (setStore image d) else odPut 0x2F20 5 3 d
        | .error n => patchRefused d.eng.patch n d
    let d := loadClusters d
    some (if odVal 0x2F20 5 d == 2 then patchEvent d else d)

/-- PATCH_PACKAGE_WRITE: checked and stored, or refused with event 0x1005. The result is the abort code. -/
def patchWrite (pkg : Bytes) (d : Device) : Option Nat × Device :=
  match patchCheck false pkg (baseStore d) d with
  | .error n => (some 0x06090030, patchRefused pkg n d)
  | .ok _ =>
    let d := { d with eng := { d.eng with patch := pkg } }
    (none, odPut 0x2F20 5 (if patchFits pkg d then 1 else 3) d)

/-- PATCH_ACTIVATE: the clusters are loaded one at a time with the staged package. -/
def patchActivate (d : Device) : Device :=
  match patchCheck true d.eng.patch (baseStore d) d with
  | .error n => patchRefused d.eng.patch n (odPut 0x2F20 5 0 d)
  | .ok image =>
    let d := odPut 0x2F20 5 4 (patchActive d.eng.patch (setStore image d))
    activateStep 5 (yieldQueue 0 { d with eng := { d.eng with activating := [0, 1, 2, 3] } })

end Sys2Proof.Machine
end

