-- ==== Sys2Proof/Machine/Replay.lean ====
section
/-! DEFINITION. Replay at start-up: the journal source, what was not durable, stripes in flight, the flush area, keys marked lost,
and the writes adopted of a fenced peer (R48, R50, R257, R297, R329, R333, R337, R338, R342, R469, R622). -/

namespace Sys2Proof.Machine

/-! ## The journal source (R297) -/

/-- A flush whose records are replayed: number 0, or a power-fail flush that nothing has released. -/
def replayable (n : Nat) (d : Device) : Bool := n == 0 || d.map.flushes.any fun f => f.num == n && !f.released

/-- A write-through record of a batch with the tick of its launched commit group; none before the launch, when recovery discards the batch
(R39). Other records stand as they are. -/
def asLaunched (i : FlushItem) : Option FlushRecord :=
  match i.flush, i.body with
  | 0, .roster h true ns key 0 => if i.tick == 0 then none else some (.roster h true ns key i.tick)
  | 0, .manifest 0 m => if !m.batch then some i.body else if i.tick == 0 then none else some (.manifest i.tick m)
  | _, r => some r

/-- Records of the flush area that are replayed, in order, with their flush number. -/
def flushLive (d : Device) : List (Nat × FlushRecord) :=
  (d.map.flushItems.filter fun i => replayable i.flush d && !i.released).filterMap fun i => (asLaunched i).map fun r => (i.flush, r)

/-! ## What the other peer holds of this device's writes (R342) -/

/-- Writes of this device that the other peer has offered back. -/
def ownOffers (d : Device) : List Nat := ((d.peer.held.map (·.write)).eraseDups).filter fun w => w / 2 ^ 63 == d.side

/-- The stored form of a copy among the records of a write. -/
def heldForm (rs : List MirrorRecord) (dom : Nat) (ch : ChunkRef) : Option (Nat × StoredForm) :=
  rs.findSome? fun r => match r with
    | .copy x slot fp n f => if x == dom && fp == ch.fp && n == ch.copy then some (slot, f) else none
    | _ => none

/-- The manifest that an offer gives for a roster entry. -/
def offeredManifest (ns : Nat) (key : Bytes) (tick : Nat) (d : Device) : Option Manifest :=
  (ownOffers d).findSome? fun w =>
    let rs := heldOf w d
    match heldRoster rs, heldManifest rs with
    | some (_, n, k, t), some m => if n == ns && k == key && (tick == 0 || t == tick) then some m else none
    | _, _ => none

/-- Highest sequence of a source's consistent prefix: from the tail, without a gap, up to the last LAST page. -/
def prefixEnd (holds : JPage → Bool) (d : Device) : Nat :=
  ((d.stripe.pages.takeWhile holds).filter (·.last)).foldl (fun m p => max m p.seq) (d.stripe.tail - 1)

/-- The source whose consistent prefix ends highest: local copies, flush area, the mirror at a peer that the link reaches. -/
def journalEnd (d : Device) : Nat :=
  let inRing := fun p : JPage => localCopies d != 0 && p.local_
  let inFlush := fun p : JPage => (flushLive d).any fun r => r.2 == .journal p || r.2 == .journal { p with local_ := true } ||
    r.2 == .journal { p with local_ := false }
  let mirror := if linkIsUp d && d.peer.met then prefixEnd (·.mirrored) d else 0
  max (prefixEnd inRing d) (max (prefixEnd (fun p => inRing p || inFlush p) d) mirror)

/-! ## Records outside the consistent prefix -/

/-- A block closed because the scan of R338 found a page in it that is partly programmed. -/
def closeBlock (m : MemberDesc) (d : Device) : Device := onBlock m (fun b => if b.st == 1 then { b with st := 2 } else b) d

/-- The members of a stripe become garbage. -/
def dropMembers (s : Stripe) (d : Device) : Device := s.members.foldl (fun d m => dropUnit m.desc d) d

/-- What a record that is not in the source did is as if it had not been (R333, R338). -/
def undoRecord (d : Device) (r : JRecord) : Device :=
  match r with
  | .stripeIssue id _ _ _ _ _ _ _ _ =>
    let d := ((stripeOf id d).map fun s => dropMembers s d).getD d
    { d with stripe := { d.stripe with stripes := d.stripe.stripes.filter (·.id != id) } }
  | .stripeDurable id => onStripe id (fun s => { s with st := .issued, durableDurable := false }) d
  | .memberMoved id m _ old new => onMember id m (fun x => if x.desc == new then { x with desc := old } else x) d
  | .copyRelocated dom fp num old new => onCopy dom fp num (fun c => if c.extents == new then { c with extents := old } else c) d
  | .mapPageWritten lid new prev _ =>
    let pages := d.map.pages.map fun p => if p.lid == lid && p.loc == new then { p with loc := prev, dirty := true } else p
    { d with map := { d.map with pages := pages } }
  | .snapshot n 0 _ _ _ => onSnap n (fun s => { s with ended := false }) d
  | .snapshot n 3 _ _ _ => onSnap n (fun s => { s with st := 2 }) d
  | .snapshot n _ _ _ _ => { d with snap := { d.snap with snaps := d.snap.snaps.filter fun s => s.num != n } }
  | .erasureList slot _ => onSlot slot (fun s => { s with state := 5, count := 0 }) d
  | .bucketHome b side _ _ => putOverride b (1 - side) (b % 2) { d with peer := { d.peer with overrides := tblDel d.peer.overrides b } }
  | _ => d

/-- Take over the source: its pages are the journal; the records beyond it are undone, the newest first. -/
def takeSource (d : Device) : Device :=
  let e := journalEnd d
  let lost := (d.stripe.pages.filter fun p => e < p.seq).flatMap (·.records) ++ d.stripe.queued
  let kept := d.stripe.pages.filter fun p => p.seq ≤ e
  let fresh := (kept.filter fun p => d.stripe.durableSeq < p.seq).flatMap (·.records)
  let d := fresh.foldl noteDurable d
  let d := lost.reverse.foldl undoRecord d
  { d with stripe := { d.stripe with
    pages := kept.map fun p => { p with local_ := true }, queued := [], durableSeq := max d.stripe.durableSeq e
    pageSeq := e } }

/-! ## The store as flash holds it (R337, R338) -/

/-- Snapshots that are not live at replay are dropped; the maps are those of the durable records. -/
def takeDurable (d : Device) : Device :=
  let d := { d with snap := { d.snap with snaps := d.snap.snaps.filter fun s => s.st != 1, creates := [] } }
  let known := d.kv.manifests ++ d.kv.kept.filter fun m => !d.kv.manifests.any (·.seq == m.seq)
  let index := d.kv.durable.map fun e => pruneVersions e d
  let named := fun n : Nat => index.any fun e => e.versions.any fun v => v.mseq == n && !v.tombstone
  let copies := d.kv.copies.filterMap fun c =>
    (d.kv.durableRefs.find? fun r => r.1 == c.domain && r.2.1 == c.fp && r.2.2.1 == c.num).map fun r =>
      { c with refs := r.2.2.2.1, dead := r.2.2.2.2 || r.2.2.2.1 == 0, present := true, claimants := [], settled := 0, handed := false }
  let pages := d.map.pages.map fun p =>
    { p with pending := 0, pinned := false, used := 0, cached := p.dirty || residentType p.typ }
  { d with
    kv := { d.kv with index := index.filter fun e => !e.versions.isEmpty, manifests := known.filter fun m => named m.seq, copies := copies
                      kept := known.filter fun m => named m.seq }
    map := { d.map with pages := pages, checkpoint := none, checkpointAgain := false } }

/-- Programs that ran when the device stopped leave pages that are partly programmed. -/
def cutPages (d : Device) : List MemberDesc := (d.media.ops.filter fun o => o.kind == .program && o.started).map (·.desc)

/-- The stripes in flight: one with every member found is DURABLE, any other ABANDONED; what was not issued is gone. The
second part counts the units of garbage. -/
def settleStripes (d : Device) : Device × Nat :=
  let gone := d.stripe.stripes.filter fun s => s.st == .closed
  let d := { d with stripe := { d.stripe with
    stripes := d.stripe.stripes.filter fun s => s.st != .closed, gathers := [], moves := [], relocs := [], repairs := [] } }
  let d := gone.foldl (fun d s => dropMembers s d) d
  (d.stripe.stripes.filter (·.st == .issued)).foldl (fun acc s =>
    if s.members.all (·.programmed) then
      (journalRecord (.stripeDurable s.id) (onStripe s.id (fun s => { s with st := .durable }) acc.1), acc.2)
    else
      (dropMembers s (onStripe s.id (fun s => { s with st := .abandoned }) acc.1),
        acc.2 + (s.members.filter (·.programmed)).length)) (d, 0)

/-- The open-block scan: event 0x0B04 with the units of garbage, the blocks with a cut page closed. -/
def scanBlocks (cut : List MemberDesc) (garbage : Nat) (d : Device) : Device :=
  let d := cut.foldl (fun d m => closeBlock m d) d
  let n := garbage + cut.length
  if n == 0 then d else logEvent 0x0B04 0x0042 0 n d

/-! ## The flush area (R342, R48) -/

/-- A COPY of the flush area, or of the writes that the other peer has offered back. -/
def flushCopy (dom : Nat) (fp : Bytes) (num : Nat) (d : Device) : Option (Nat × StoredForm) :=
  let mine := (flushLive d).findSome? fun r => match r.2 with
    | .copy x slot f n form => if x == dom && f == fp && n == num then some (slot, form) else none
    | _ => none
  if mine.isSome then mine else (ownOffers d).findSome? fun w => heldForm (heldOf w d) dom ⟨fp, num, 0⟩

/-- Every extent of a copy lies in a stripe that replay keeps. -/
def copyHeld (c : Copy) (d : Device) : Bool :=
  !c.extents.isEmpty && c.extents.all fun e => match stripeOf e.stripe d with
    | some s => s.st == .durable || s.st == .lost
    | none => false

/-- Stored data re-enters the caravanserai and goes to a new stripe with REISSUE set. -/
def reissueCopy (dom : Nat) (fp : Bytes) (num : Nat) (d : Device) : Device :=
  match copyOf dom fp num d with
  | none => d
  | some c =>
    let old := ((c.extents.head?).map (·.stripe)).getD 0
    let r := gather c.cls (hostCluster (c.keyHash % 4096) d) .host c.retention c.storedLen d
    let d := onCopy dom fp num (fun c => { c with
      extents := r.1, present := true, lost := false, past := (c.past ++ c.extents.map (·.stripe)).eraseDups }) r.2
    let mine := fun g : Gather => g.reissue.isNone && r.1.any (·.stripe == g.id)
    { d with stripe := { d.stripe with
      gathers := d.stripe.gathers.map fun g => if mine g then { g with reissue := some old } else g
      stripes := d.stripe.stripes.map fun s =>
        if s.st == .closed && !s.reissue && r.1.any (·.stripe == s.id) then { s with reissue := true, replaced := old } else s } }

/-- A copy stored here whose stripe replay does not keep: from the flush area, or lost. -/
def settleCopy (d : Device) (c : Copy) : Device :=
  if c.plain.isEmpty || c.dead || copyHeld c d then d
  else match flushCopy c.domain c.fp c.num d with
    | some _ => reissueCopy c.domain c.fp c.num d
    | none => onCopy c.domain c.fp c.num (fun c => { c with lost := true, detached := true }) d

/-- STRIPE_ABANDONED of each stripe given up, with the stripe that takes its data. -/
def recordAbandoned (before : List Copy) (d : Device) : Device :=
  (d.stripe.stripes.filter (·.st == .abandoned)).foldl (fun d s =>
    let moved := before.find? fun c => c.extents.any (·.stripe == s.id)
    let into := (moved.bind fun c => (copyOf c.domain c.fp c.num d).bind fun x => x.extents.head?).map (·.stripe)
    journalRecord (.stripeAbandoned s.id 1 (if into == some s.id then 0 else into.getD 0)) d) d

/-- A lost copy takes its stored form again, and goes to a new stripe. -/
def reviveCopy (dom slot : Nat) (ch : ChunkRef) (f : StoredForm) (d : Device) : Device :=
  reissueCopy dom ch.fp ch.copy (onCopy dom ch.fp ch.copy (fun c => { c with
    plain := f.plain, plainLen := f.plain.length, storedLen := f.len, slot := slot, invocation := f.invocation, side := f.side
    enc := if f.deflate then .deflate else .raw, detached := bit ch.copy 31, lost := false }) d)

/-- A copy that a restored write names: an entry, its data again if it is lost, with one more reference unless the write is counted
already; or a new entry of the restored form. -/
def adoptCopy (counted : Bool) (ns dom slot : Nat) (ch : ChunkRef) (hash : Nat) (form : Option StoredForm) (d : Device) : Device :=
  match copyOf dom ch.fp ch.copy d, form with
  | some c, f =>
    let d := match c.lost, f with
      | true, some f => reviveCopy dom slot ch f d
      | _, _ => d
    if counted then d
    else recordCopy { c with refs := c.refs + 1 } (onCopy dom ch.fp ch.copy (fun c => { c with refs := c.refs + 1 }) d)
  | none, some f =>
    let c : Copy := { newCopy dom ch.fp ch.copy with
      present := true, plain := f.plain, plainLen := f.plain.length, storedLen := f.len, slot := slot, invocation := f.invocation, side := f.side
      enc := if f.deflate then .deflate else .raw, keygen := (slotOf slot d).keygen, cls := nsClass ns d, keyHash := hash % 2 ^ 32 }
    let d := reissueCopy dom ch.fp ch.copy (addCopy c d)
    match copyOf dom ch.fp ch.copy d with
    | some c => recordCopy c d
    | none => d
  | none, none => d

/-- The copy is at hand: an entry whose data is not lost, or a flushed form. -/
def copyAtHand (dom : Nat) (ch : ChunkRef) (form : Option StoredForm) (d : Device) : Bool :=
  form.isSome || match copyOf dom ch.fp ch.copy d with
    | some c => !c.lost
    | none => false

/-- A version listed lost whose data has come back leaves log 0xC2, and its entry takes the version anew. -/
def unloseVersion (ns : Nat) (key : Bytes) (mseq : Nat) (d : Device) : Device :=
  match (keyEntry? ns key d).map fun e => { e with versions := e.versions.filter fun v => !(v.lost && v.mseq == mseq) } with
  | none => d
  | some e =>
    let mine := fun k : LostKey => k.ns == ns && k.key == key && k.mseq == mseq
    let fewer := fun r : LostRecord => { r with keys := r.keys - (d.stripe.lostKeys.filter fun k => mine k && k.seq == r.seq).length }
    let d := { d with stripe := { d.stripe with
      lostStripes := d.stripe.lostStripes.map fewer, lostKeys := d.stripe.lostKeys.filter fun k => !mine k } }
    putKey e d

/-- A write is restored at its tick with its manifest and copies; the counts of a version whose record was durable hold it already. -/
def restoreWrite (tick : Nat) (m : Manifest) (form : ChunkRef → Option (Nat × StoredForm)) (d : Device) : Device :=
  let hash := keyHash m.ns m.key d
  let counted := d.kv.durable.any fun e => e.ns == m.ns && e.key == m.key && e.versions.any (·.mseq == m.seq)
  let d := m.chunks.foldl (fun d ch =>
    adoptCopy counted m.ns m.domain (((form ch).map (·.1)).getD m.slot) ch hash ((form ch).map (·.2)) d) (unloseVersion m.ns m.key m.seq d)
  let d := if d.kv.manifests.any (·.seq == m.seq) then d else { d with kv := { d.kv with manifests := d.kv.manifests ++ [m] } }
  applyVersion m.ns m.key ⟨tick, m.seq, false, false⟩ d

/-- A key version whose data nothing holds is marked lost and listed (R48): namespace, key, tick, manifest. -/
def loseVersion (ns : Nat) (key : Bytes) (tick mseq : Nat) (d : Device) : Device :=
  let old := ((keyEntry? ns key d).map (·.versions)).getD []
  let vs := if old.any (·.tick == tick) then old.map fun v => if v.tick == tick then { v with lost := true } else v
    else ⟨tick, mseq, false, true⟩ :: old
  let d := putKey ⟨ns, key, vs⟩ d
  addLostKey ⟨ns, d.stripe.lostSeq, key, 0xFFFF, mseq⟩ d

/-- The stripe record, of cause 3, under which keys of one start are listed. -/
def lostHeader (n : Nat) (d : Device) : Device :=
  if n == 0 then d
  else
    let d := addLost 3 0 0 0 0 d
    { d with stripe := { d.stripe with
      lostStripes := d.stripe.lostStripes.map fun r => if r.cause == 3 then { r with scanDone := true } else r } }

/-- The tick that restored writes without one get: the next commit group's (R342). -/
def restoreTick (d : Device) : Nat := nextBoundary d

/-- The manifest of a roster entry: of its tick in its flush, or for a write without a tick the next one of its key. -/
def rosterManifest (flush ns : Nat) (key : Bytes) (tick : Nat) (rest all : List (Nat × FlushRecord)) : Option Manifest :=
  let of := fun l : List (Nat × FlushRecord) => l.findSome? fun r => match r.2 with
    | .manifest t m => if r.1 == flush && m.ns == ns && m.key == key && (tick == 0 || t == tick) then some m else none
    | _ => none
  let next := fun r : Nat × FlushRecord => match r.2 with
    | .roster _ _ n k _ => r.1 == flush && n == ns && k == key
    | _ => false
  if tick == 0 then of (rest.takeWhile fun r => !next r) else of all

/-- The maps hold this write already, not as lost, or a later one of its key. -/
def alreadyHeld (ns : Nat) (key : Bytes) (tick : Nat) (m : Option Manifest) (d : Device) : Bool :=
  match keyEntry? ns key d with
  | none => false
  | some e => e.versions.any fun v => (tick != 0 && (tick < v.tick || (tick == v.tick && !v.lost))) || match m with
    | some m => (v.mseq == m.seq && !v.lost) || (v.mseq / 2 ^ 63 == m.seq / 2 ^ 63 && m.seq < v.mseq)
    | none => false

/-- Apply the roster in order. Result: entries lost (namespace, key, tick, manifest) and how many were applied. -/
def applyRoster (all : List (Nat × FlushRecord)) :
    List (Nat × FlushRecord) → Device × List (Nat × Bytes × Nat × Nat) × Nat → Device × List (Nat × Bytes × Nat × Nat) × Nat
  | [], acc => acc
  | (n, .roster home batch ns key tick) :: rest, (d, lost, done) =>
    if home != d.side || (batch && tick == 0) then applyRoster all rest (d, lost, done)
    else
      let m := match rosterManifest n ns key tick rest all with
        | some m => some m
        | none => if tick == 0 then none else offeredManifest ns key tick d
      let t := if tick == 0 then restoreTick d else tick
      if alreadyHeld ns key tick m d then applyRoster all rest (d, lost, done)
      else match m with
        | some m =>
          if m.chunks.all fun ch => copyAtHand m.domain ch ((flushCopy m.domain ch.fp ch.copy d).map (·.2)) d then
            applyRoster all rest (restoreWrite t m (fun ch => flushCopy m.domain ch.fp ch.copy d) d, lost, done + 1)
          else applyRoster all rest (d, lost ++ [(ns, key, t, m.seq)], done)
        | none =>
          if tick == 0 then applyRoster all rest (applyVersion ns key ⟨t, 0, true, false⟩ d, lost, done + 1)
          else applyRoster all rest (d, lost ++ [(ns, key, t, 0)], done)
  | _ :: rest, acc => applyRoster all rest acc

/-- Durable versions whose manifest or copies nothing holds (R622). -/
def unheldVersions (d : Device) : List (Nat × Bytes × Nat × Nat) :=
  d.kv.index.flatMap fun e => e.versions.filterMap fun v =>
    if v.tombstone || v.lost then none
    else match manifestOf v.mseq d with
      | none => some (e.ns, e.key, v.tick, v.mseq)
      | some m =>
        if m.chunks.any fun ch => (copyOf m.domain ch.fp ch.copy d).any (·.lost) then some (e.ns, e.key, v.tick, v.mseq) else none

/-- The flush area is replayed: event 0x0B06; entries lost and versions unheld are listed in log 0xC2. -/
def replayFlush (unannounced : Bool) (d : Device) : Device :=
  let all := flushLive d
  let (d, lost, done) := applyRoster all all (d, [], 0)
  let d := if all.isEmpty then d else logEvent 0x0B06 0x0042 0 (lost.length * 2 ^ 32 + done) d
  let lost := lost ++ (unheldVersions d).filter fun x => !lost.contains x
  let d := lost.foldl (fun d x => loseVersion x.1 x.2.1 x.2.2.1 x.2.2.2 d) (lostHeader lost.length d)
  if unannounced then
    sendEmcy 0xFF00 0x0204 (logEvent 0x0204 0x0040 2 lost.length
      { d with admin := { d.admin with unsafeShutdowns := d.admin.unsafeShutdowns + 1 } })
  else d

/-- Slots after a reset: a running erasure goes on; any other operation comes back in state 5 with a count of 0. A slot keeps its starting
partner, which may release it (R160). DESIGN CHOICE (log 222): slots in state 4 or 5 stand with their count. -/
def settleSlots (d : Device) : Device :=
  let keep := fun s : LongSlot => match s.op with
    | .erasure .. => s.state == 2
    | _ => false
  let slots := d.admin.slots.map fun s =>
    if keep s || s.state == 0 then s
    else if s.state ≤ 3 then { s with state := 5, count := 0, results := [], entered := d.time.now } else s
  { d with admin := { d.admin with slots := slots } }

/-- Steps 8 to 11 of start-up after the DRAM was lost (R337). -/
def replay (unannounced : Bool) (d : Device) : Device :=
  let cut := cutPages d
  let d := takeDurable (takeSource d)
  let before := d.kv.copies
  let r := settleStripes d
  let d := scanBlocks cut r.2 r.1
  let d := { d with media := { d.media with ops := [] } }
  let d := before.foldl settleCopy d
  let d := recordAbandoned before d
  let d := replayFlush unannounced d
  let counters := restartSeals ((d.cipher.slots.map (·.1)).foldl (fun d n => restartCounters n d) d)
  settleSlots counters

/-- After a clean dormant exit nothing of DRAM was lost: what follows the dormancy record is replayed, and nothing does. -/
def replayClean (d : Device) : Device := settleSlots (restartSeals ((d.cipher.slots.map (·.1)).foldl (fun d n => restartCounters n d) d))

/-! ## The writes of a fenced peer (R50, R342) -/

/-- A held write becomes this device's own: whole, with its commit tick or the next group's; a batch only if its commit group launched
(R39). Any other is discarded. -/
def adoptWrite (d : Device) (w : Nat) : Device :=
  let rs := heldOf w d
  let m := heldManifest rs
  let d := match heldRoster rs with
    | none => d
    | some (batch, ns, key, tick) =>
      let t := launchedTick ns key tick m d
      if !heldWhole w d || (batch && t.isNone) || alreadyHeld ns key (t.getD 0) m d then d
      else match m with
        | some m =>
          if m.chunks.all fun ch => copyAtHand m.domain ch ((heldForm rs m.domain ch).map Prod.snd) d then
            restoreWrite (t.getD (restoreTick d)) m (heldForm rs m.domain) d
          else d
        | none => applyVersion ns key ⟨t.getD (restoreTick d), 0, true, false⟩ d
  { d with peer := { d.peer with held := d.peer.held.filter (·.write != w) } }

/-- Writes that the other peer has offered back are applied, unless they are held already, and both peers drop them (R342). -/
def adoptOwn (ws : List Nat) (d : Device) : Device :=
  if !isReady d then d else ws.foldl (fun d w => sendLink (.mirrorRelease [w]) (adoptWrite d w)) d

/-- After a start: the writes that the flush area holds of the other peer (R342, R452), numbered anew with bit [61] set (log 123). -/
def heldFromFlush (d : Device) : List HeldRecord :=
  let all := flushLive d
  let rosters := all.filterMap fun r => match r.2 with
    | .roster home b ns key t => if home == d.side then none else some (r.1, b, ns, key, t)
    | _ => none
  rosters.zipIdx.flatMap fun x =>
    let (flush, b, ns, key, t) := x.1
    let m := rosterManifest flush ns key t all all
    let w := (1 - d.side) * 2 ^ 63 + b2n m.isNone * 2 ^ 62 + 2 ^ 61 + x.2
    let copies := match m with
      | some m => m.chunks.filterMap fun ch => (flushCopy m.domain ch.fp ch.copy d).map fun f => MirrorRecord.copy m.domain f.1 ch.fp ch.copy f.2
      | none => []
    let last := match m with
      | some m => [MirrorRecord.manifest t m]
      | none => []
    (MirrorRecord.roster (1 - d.side) b ns key t :: copies ++ last).map fun r => ⟨w, r⟩

/-- Every write held of the other peer, in order, also those of a power-fail flush that lists it as home (R342). -/
def adoptHeld (d : Device) : Device := ((d.peer.held.map (·.write)).eraseDups).foldl adoptWrite d

end Sys2Proof.Machine
end

