-- ==== Sys2Proof/Machine/Wipe.lean ====
section
/-! DEFINITION. What a sanitize destroys, and the journal's rings (R173, R271, R291, R308). -/

namespace Sys2Proof.Machine

/-- The journal's three copies are in place; a device that has never written any places them now, a copy without a ring once
a target can hold it. -/
def placeRings (d : Device) : Device :=
  if !d.stripe.pages.isEmpty then d
  else
    let missing := (List.range 4).filter fun n => (tblGet? d.stripe.rings n).isNone
    let d := missing.foldl (fun d n => match ringPlace d with
      | some (m, d) => { d with stripe := { d.stripe with rings := tblPut d.stripe.rings n m } }
      | none => d) d
    if d.stripe.copies != 0 then d else { d with stripe := { d.stripe with copies := 7, copy3 := true } }

/-- Every key slot is empty and its wrapped copies are gone. -/
def emptySlots (d : Device) : Device := (d.cipher.slots.map (·.1)).foldl (fun d n => emptySlot n d) d

/-- The key index, manifests, chunk map, snapshots and sessions are gone, with what the journal, the maps and the flush area hold of them. -/
def dropStore (d : Device) : Device :=
  let idle := fun n => { ReplSession.blank with st := b2n (sessionOn n d) }
  let d := { d with
    kv := { d.kv with
      index := [], manifests := [], copies := [], salts := [], cache := [], readCounts := [], unanswered := [], located := []
      fetches := [], invalidating := [], owedAcks := [], durable := [], durableRefs := [], kept := [] }
    snap := { snaps := [], creates := [], sessions := (List.range 16).map idle }
    stripe := { d.stripe with
      stripes := [], gathers := [], queued := [], pages := [], mirror := [], moves := [], relocs := [], repairs := [], lostStripes := []
      lostKeys := [], lostTruncated := false, lostLogged := false, durableSeq := d.stripe.pageSeq, tail := d.stripe.pageSeq + 1
      failed := d.stripe.failed.map fun f => { f with work := [] } }
    map := { d.map with
      pages := [], manifestPage := 0, manifestFill := 0, locators := [], checkpoint := none, checkpointAgain := false, flushItems := []
      flushes := [], flushFree := d.map.flushArea, moveRequests := [], eraseRequests := []
      blocks := d.map.blocks.map fun b => { b with live := 0, barrier := 0, barrierOpen := false, awaiting := [] } }
    media := { d.media with ops := [], spareBase := none }
    peer := { d.peer with mirrors := [], held := [], reqs := [], peerReqs := [] }
    cipher := { d.cipher with erased := [] } }
  setCond 5 false (bumpVersion 0x3310 (bumpVersion 0x2920 d))

/-- A tenant erase that waited for its blocks completes with the sanitize. -/
def endErases (d : Device) : Device :=
  ((d.cipher.erased.map (·.tenant)).eraseDups).foldl (fun d t => logEvent 0x0909 0x0030 0 t d) d

/-- Crypto erase. -/
def cryptoErase (d : Device) : Device := dropStore (emptySlots (endErases d))

/-- Every block in service on the channels owned here is erased: free, but what an engine or a failed element keeps. Retired blocks stay. -/
def eraseBlocks (d : Device) : Device :=
  let mine := fun b : Block => b.st < 4 && ownsChannel b.channel d
  let d := (d.map.blocks.filter mine).foldl (fun d b => emit (.flash 2 b.desc 0 []) d) d
  let fresh := fun b : Block => { b with
    st := 0, stream := 0, next := 0, live := 0, erases := b.erases + 1, barrier := 0, barrierOpen := false, awaiting := []
    refreshDue := false, emptying := 0 }
  { d with
    map := { d.map with blocks := d.map.blocks.map fun b => if mine b then fresh b else b }
    fw := { d.fw with flashDumps := [] }
    media := { d.media with hints := [], defaultRefresh := [] }
    stripe := { d.stripe with copies := 0, rings := [] } }

/-- Block erase, then as crypto erase; the journal gets new rings. -/
def sanitizeBlocks (d : Device) : Device := placeRings (cryptoErase (eraseBlocks d))

/-- What a sanitize erases here: with block erase the blocks first. -/
def wipe (z : Sanitize) (d : Device) : Device := if z.action == 2 then sanitizeBlocks d else cryptoErase d

end Sys2Proof.Machine
end

