-- ==== Sys2Proof/Machine/StartUp.lean ====
section
/-! DEFINITION. Reset and start-up: what a reset leaves, the twelve steps of a start, the roll-back of a trial image
(R48, R52, R61, R62, R75, R173, R407, R424, R432, R536, R555, R559 to R562, R586, R590, R605, R609, R619). -/

namespace Sys2Proof.Machine

/-! ## What a reset leaves (R559) -/

/-- Entries that a restore marked by "load" keeps, beside those whose access is ro or const (R62). -/
def restoreKeeps (k : Nat) : Bool :=
  let i := keyIdx k
  (odEntry? i (keySub k)).any (fun e => e.acc == .ro || e.acc == .cst) ||
  [0x3440, 0x3448, 0x2910, 0x2510, 0x2620, 0x2630, 0x2610, 0x2B10, 0x2B20, 0x3240, 0x2F28].contains i ||
  (i == 0x2A00 && keySub k == 4)

/-- Entries whose value outlives a reset: the persistent ones; with `ao` those that the AO domain holds, but for domains and
power states; the monitors' junction temperature; domain faults unless `faults` is false (R543). -/
def cellStays (ao faults : Bool) (k : Nat) : Bool :=
  let i := keyIdx k
  isPersistent k || (faults && i == 0x2210 && keySub k == 2) || (i == 0x2010 && keySub k == 3) ||
  (ao && aoEntry i && i != 0x2210 && i != 0x2220 && !(i == 0x2010 && keySub k == 2))

/-- The store keeps what flash holds; the caches and what was under way are gone. -/
def keepStore (k : KvState) : KvState :=
  { k with cache := [], readCounts := [], unanswered := [], located := [], fetches := [], invalidating := [], owedAcks := [] }

/-- A replication session resumes from its durable cursor (R486). -/
def keepSession (x : ReplSession) : ReplSession :=
  { x with cursor := x.durableCursor, started := x.durableStarted, trail := [], safe := x.durableCursor, outstanding := [], reading := none
           sinceCursor := 0, keysStored := 0, keysDeleted := 0, bytesSent := 0, lastDone := 0, skipped := 0, retries := 0, lastSct := 0
           lastSc := 0, reconnectAt := 0, slot := none, connected := false, st := if x.st == 2 || x.st == 3 then 4 else x.st }

/-- What a reset leaves of a device: flash, NOR, OTP and the AO domain; `ao` false: the AO domain resets too. The device's own changes of
P entries are in the persistent copy by then (R15; log 210). -/
def dropVolatile (ao faults : Bool) (d : Device) : Device :=
  let d := if d.dict.nvWorks then persist d else d
  let kept : Device := { Reset.dev with
    side := d.side, nodeId := d.nodeId, out := d.out, kv := keepStore d.kv, stripe := d.stripe, map := d.map
    fans := if ao then d.fans else fansReleased d.time.now }
  { kept with
    time := { Reset.time with now := d.time.now, st := if d.power.carried.isSome then d.time.st else .unset, lastLocked := d.time.lastLocked }
    dict := { Reset.dict with
      cells := d.dict.cells.filter (fun r => cellStays ao faults r.1), nvA := d.dict.nvA, nvB := d.dict.nvB
      nvWorks := d.dict.nvWorks, restoreMarked := d.dict.restoreMarked }
    can := if ao then d.can else Reset.can
    admin := { d.admin with
      errors := [], errorCount := 0, selfTest := none, criticalWarning := 0, fetched := []
      selfTestLog := match d.admin.selfTest with
        | some t => if t.fwd.isNone then selfTestLogged 2 0 t d else d.admin.selfTestLog
        | none => d.admin.selfTestLog }
    cam := { Reset.cam with nv := d.cam.nv, dram := d.cam.dram }
    cipher := { d.cipher with
      slots := d.cipher.slots.map (fun x => (x.1, { x.2 with key := none, limitPending := none, warned := false }))
      mismatches := [], disabled := 0, fallbacks := 0, fallbackEventAt := none }
    stripe := { d.stripe with timeouts := [], unplaced := [], readOnly := false, checking := [] }
    map := { d.map with levels := [], moveRequests := [], capLogged := false, collectionStopped := false }
    media := { d.media with targets := [], probing := [], rates := [], scales := [], hints := [] }
    peer := { Reset.peer with
      pairIdent := d.peer.pairIdent, wrappedMapKey := d.peer.wrappedMapKey, nextWrite := d.peer.nextWrite
      overrides := d.peer.overrides, aliveIn := d.peer.aliveIn, aliveLast := d.peer.aliveLast, fenceInN := d.peer.fenceInN }
    snap := { d.snap with creates := [], sessions := d.snap.sessions.map keepSession }
    eng := { Reset.eng with patch := d.eng.patch, sram := d.eng.sram }
    sec := { Reset.sec with
      owners := d.sec.owners, otpWorks := d.sec.otpWorks, latched := d.sec.latched, sources := d.sec.sources
      clearSince := d.sec.clearSince, draws := d.sec.draws }
    power := { Reset.power with
      run := .reset, flushCut := d.power.flushCut || (d.power.pwrFail && d.power.flushing.isSome), porst := d.power.porst, strapPins := d.power.strapPins, coreEn := false, coreTries := 0, refclk := d.power.refclk
      sdclk := d.power.sdclk, carried := d.power.carried, pwrFail := d.power.pwrFail, holdupOk := d.power.holdupOk
      holdupOkSince := d.power.holdupOkSince, dormancy := d.power.dormancy, vddqLow := d.power.vddqLow
      alarmInPs4 := d.power.alarmInPs4, hot := d.power.hot, coreFailures := d.power.coreFailures
      overTemp := d.power.overTemp, underTemp := d.power.underTemp, unannounced := d.power.unannounced }
    fw := { d.fw with delta := none, confirmBy := none } }

/-! ## Step 2: an external or internal release (R559, R560, R605, R609) -/

/-- The straps as the pins stand (R605). -/
def sampleStraps (straps : Nat) (d : Device) : Device :=
  let s := straps % 1024
  odPut 0x2000 2 (bits s 7 1) (odPut 0x2000 3 s { d with side := b2n (bit s 0), nodeId := bits s 7 1, power := { d.power with strapPins := s } })

/-- P entries at the release of PORST_N: a marked restore, and the defaults where neither copy is valid (R61, R62). -/
def restorePersistent (d : Device) : Device :=
  if !d.dict.restoreMarked then d
  else persist { d with dict := { d.dict with
    cells := d.dict.cells.filter (fun r => !isPersistent r.1 || restoreKeeps r.1), restoreMarked := false } }

/-- Settings that take effect at a release of PORST_N: the sizes of the two caches (R217, R356). -/
def latchSizes (d : Device) : Device :=
  { d with kv := { d.kv with cacheGiB := odVal 0x2640 1 d }, map := { d.map with cacheGiB := odVal 0x2A00 1 d } }

/-- CAN FD joins with a boot-up message in Pre-operational; with node-ID 0 it stays silent (R75). A release of PORST_N takes the bit rates
of OD 0x2000:06 and :07; any other reset leaves those in force (R76). -/
def joinCan (porst : Bool) (d : Device) : Device :=
  let rates := { Reset.can with
    nominalRate := if porst then odVal 0x2000 6 d else d.can.nominalRate
    dataRate := if porst then odVal 0x2000 7 d else d.can.dataRate
    lastHeartbeat := d.time.now, heartbeatSent := d.time.now }
  if d.nodeId == 0 then logEvent 0x0302 0x0070 1 0 { d with can := rates }
  else emit (.can .bootUp) { d with can := { rates with nmt := .preOperational } }

/-- CORE_EN goes high and CORE power-good is awaited; from PS_4 EPOCH_OUT pulses for 1 ms (R551). -/
def coreEnable (d : Device) : Device :=
  { d with
    power := { d.power with run := .waitCore, stage := 2, coreEn := true, corePg := false, coreTries := d.power.coreTries + 1
                            startedAt := if d.power.coreTries == 0 then d.time.now else d.power.startedAt }
    time := if odVal 0x2200 1 d == 5 then { d.time with wakePulseUntil := d.time.now + ms 1 } else d.time }

/-- After a thermal shutdown the device starts again only once the AO sensor reads below 95 °C (R552). -/
def tooHot (d : Device) : Bool := d.power.hot && (950 : Int) ≤ odSigned 2 (odVal 0x2010 3 d)

/-- The device leaves reset when PORST_N and FENCE_IN_N are released and REFCLK runs. -/
def leaveReset (d : Device) : Device :=
  if d.power.run != .reset || d.power.porst || !d.peer.fenceInN || !d.power.refclk then d
  else if tooHot d then { d with power := { d.power with run := .halted } }
  else coreEnable { d with power := { d.power with hot := false } }

/-- Enter reset and, for an internal cause, start again at once (R559). -/
def internalReset (cause : Nat) (d : Device) : Device :=
  let d := dropVolatile true true d
  let d := odPut 0x2200 1 cause d
  let d := if cause == 3 || cause == 5 then d else joinCan false d
  leaveReset d

/-! ## Steps 3 and 4: boot and control stores (R586, R590, R592) -/

/-- A TRIAL image that a reset finds unconfirmed is FAILED, and the other image boots. -/
def rollBackTrial (d : Device) : Device :=
  (List.range 2).foldl (fun d n =>
    let s := slotImage n d
    if s.st == .trial then
      logEvent 0x1404 0x0073 2 (imageRevision s.image) (odBump 0x2F00 7 1 (onImage n (fun s => { s with st := .failed }) d))
    else d) d

/-- P entries in force at a start (R61): those of the newer valid copy, or, where neither copy is valid, every default. The policy
entries, the profiles and the patch package have their P values in other parts of the state; the detail of 0x0301 counts every P entry
of the dictionary (log 209). -/
def checkPersistent (d : Device) : Device :=
  let others := d.dict.cells.filter fun r => !isPersistent r.1
  match newerCopy d with
  | some c => { d with dict := { d.dict with cells := c.cells.foldl (fun t r => tblPut t r.1 r.2) others } }
  | none =>
    logEvent 0x0301 0x0070 2 persistentEntries { d with
      dict := { d.dict with cells := others }, cam := { d.cam with nv := [] }
      media := { d.media with profiles := Reset.media.profiles, ledger := [], ledgerDay := 0 }, eng := { d.eng with patch := [] } }

/-- A dump copy that did not end is discarded at the next start (R595). -/
def dropDumpCopy (d : Device) : Device :=
  if d.fw.copying then logEvent 0x1406 0x0073 1 d.fw.dumpSeq { d with fw := { d.fw with copying := false } } else d

/-- Once the bound groups are ready, a dump that survived is copied to flash. -/
def beginCopy (d : Device) : Device := { d with fw := { d.fw with copying := d.fw.dump.isSome } }

def toStage (n : Nat) (d : Device) : Device := { d with power := { d.power with stage := n } }

/-- A start-up step that cannot go on ends in a fatal error (R562). -/
def startFatal (cause : Nat) (d : Device) : Device := declareFatal cause d

/-- Step 3. The booted TRIAL image has OD 0x2F10:02 seconds from step 2. -/
def bootStep (d : Device) : Device :=
  let d := rollBackTrial (checkPersistent (dropDumpCopy d))
  match bootSelect d with
  | none => startFatal 4 d
  | some d =>
    let trial := (slotImage d.fw.booted d).st == .trial
    toStage 4 { d with fw := { d.fw with confirmBy := if trial then some (d.power.startedAt + sec (odVal 0x2F10 2 d)) else none } }

/-- Step 4. -/
def storesStep (d : Device) : Device :=
  match loadStores d with
  | none => startFatal 4 d
  | some d => toStage 5 d

/-! ## Step 5: memory, regions, links (R503, R523, R541) -/

/-- Boot firmware's region descriptors; SECURE follows the use (R523). -/
def setRegions (d : Device) : Device :=
  (List.range 64).foldl (fun d n =>
    let r := (Config.regionDescriptor n).toNat
    let use := bits r 7 4
    odPut 0x3230 (n + 1) (bits r 63 24 * 2 ^ 24 + use * 16 + b2n (5 ≤ use && use ≤ 8)) d) d

/-- MEM, then NET and PEER; the waits of step 6 begin. -/
def memoryStep (d : Device) : Device :=
  if domainFaulty 24 d then startFatal 2 d
  else
    let d := portsTrain (setRegions (setDomain 23 true (setDomain 22 true (setDomain 24 true d))))
    toStage 6 { d with
      peer := { d.peer with waitUntil := some (d.time.now + ms (odVal 0x2D00 5 d)) }
      time := { d.time with waitUntil := if d.power.carried.isSome then none else some (d.time.now + ms (odVal 0x2100 0x12 d)) } }

/-! ## Step 6: the counter (R407) -/

/-- The counter that AO carried through PS_4, if it still has it. -/
def carriedTime (d : Device) : Device :=
  match d.power.carried with
  | none => d
  | some (count, at_) =>
    let limit := d.time.lastLocked + sec (odVal 0x2100 0x0B d)
    let st := if (d.time.st == .locked || d.time.st == .holdover) && d.time.now < limit then TimeSt.holdover else TimeSt.free
    let d := { d with time := { d.time with st := .unset }, power := { d.power with carried := none } }
    establish (count + (d.time.now - at_)) st d

/-- The peers have met, and this one has the tables of a serving peer (R188); or it has fenced the other and owns the channels. -/
def peerSettled (d : Device) : Bool := (d.peer.met && d.peer.st != 7 && d.peer.returning != 3) || (d.peer.st == 5 && d.peer.driven != 0)

/-! ## Step 7: groups (R424, R542) -/

/-- Both peers are starting: side A places the paired entries; otherwise each its own. -/
def groupsStep (d : Device) : Device :=
  let together := d.peer.met && !d.peer.peerWasServing
  let d := toStage 7 d
  if together then (if d.side == 0 then placeGroupsUp true d else d) else placeGroupsUp false d

/-- Every bound group is up, faulty or failed. -/
def groupsSettled (d : Device) : Bool :=
  (boundGroups d).all fun g => (domainOn g d && !d.media.probing.contains g) || domainFaulty g d || elementFailed (groupAddr g) d

/-! ## Steps 8 to 11: maps and journal (R291, R297, R337, R342, R561) -/

/-- Secure firmware unwraps the slots and the map key (R260, R322), unless an alarm is latched. -/
def unwrapKeys (d : Device) : Device :=
  if d.sec.latched != 0 || d.cipher.alarm != 0 then d
  else
    let slots := d.cipher.slots.map fun x => (x.1, { x.2 with key := if x.2.st == .zeroised || x.2.st == .empty then none else x.2.stored })
    { d with cipher := { d.cipher with slots := slots }, peer := { d.peer with mapKey := d.peer.wrappedMapKey } }

/-- The counter at or below the journal floor jumps past it (R407). -/
def jumpFloor (d : Device) : Device :=
  let f := journalFloor d
  if d.time.counter ≤ f then { d with time := { d.time with counter := f + 800000 } } else d

/-- This start is a clean dormant exit (OD 0x2200:02). -/
def cleanStart (d : Device) : Bool := odVal 0x2200 2 d == 1

/-- Steps 8 to 11. No journal source readable: read-only, the parity check, and new copies (R52). -/
def replayStep (d : Device) : Device :=
  let d := jumpFloor (unwrapKeys d)
  let lostRing := d.stripe.copies % 8 == 0 && !d.stripe.pages.isEmpty && journalEnd d < d.stripe.tail
  let d := if cleanStart d then replayClean d else replay d.power.unannounced d
  let d := { d with power := { d.power with unannounced := false } }
  let d := placeRings d
  let d := if lostRing then enterReadOnly ([0, 1, 2].foldl (fun d n => rewriteCopy n d) d) else d
  let d := setCond 5 (!d.stripe.lostStripes.isEmpty || d.stripe.lostTruncated) (setCond 3 (localCopies d != 3) d)
  let d := if d.peer.met then d else adoptHeld { d with peer := { d.peer with held := heldFromFlush d } }
  toStage 12 (refreshHealth (refreshSlc d))

/-! ## Step 12: service (R424, R555, R560) -/

/-- COMMIT_GROUP in entry 2, from the next boundary. -/
def armCommitGroup (d : Device) : Device :=
  putEntry 2 { firmwareEntry 0x01 0x0040 0 (nextBoundary d) true with period := odVal 0x2C00 1 d, paired := true } d

/-- The search engine loads; after a cold start the DRAM copy is rebuilt of the persistent policies and the overrides (R240). -/
def rebuildSearch (d : Device) : Device :=
  let d := if cleanStart d then d else { d with cam := { d.cam with dram := d.cam.nv } }
  let d := if cleanStart d then d else d.peer.overrides.foldl (fun d o => putOverride o.1 o.2 (o.1 % 2) d) d
  loadSearch d

/-- The latched alarm is followed once the device is ready (R536). -/
def followLatch (d : Device) : Device :=
  if d.sec.latched == 0 then d
  else
    let d := { d with sec := { d.sec with latched := 0, clearSince := d.time.now } }
    if d.cipher.alarm == 0 then alarm d else d

/-- The start is counted, with its span and its events. -/
def noteStart (d : Device) : Device :=
  let span := (d.time.now - d.power.startedAt) / Config.ticksPerMs
  let d := odBump 0x2200 4 1 (odPut 0x2200 3 span d)
  let d := logEvent 0x1206 0x0071 0 (b2n (cleanStart d) * 2 ^ 32 + span % 2 ^ 32) (refreshDirty d)
  if d.power.coreFailures == 0 then d
  else logEvent 0x1501 0x0071 2 d.power.coreFailures { d with power := { d.power with coreFailures := 0 } }

/-- A sanitize that a reset cut runs again from its beginning (R173); results of ended operations stay from now on. -/
def resumeAdmin (d : Device) : Device :=
  let now := d.time.now
  let starts := d.admin.sanitize.map fun z => { z with startedAt := now }
  let d := match d.admin.sanitize with
    | some z => wipe z d
    | none => d
  { d with admin := { d.admin with
      sanitize := starts, slots := d.admin.slots.map (fun s => if s.state == 5 then { s with entered := now } else s) } }

/-- Ready: OD 0x2010:01 = 1. -/
def readyStep (d : Device) : Device :=
  let d := armCommitGroup (rebuildSearch d)
  let d := resumeAdmin (noteStart { d with power := { d.power with
    run := .ready, stage := 0, idleSince := d.time.now, dormancy := none, vddqLow := false, alarmInPs4 := false, dirtyLimit := 0 } })
  let d := adoptOwn (ownOffers d) d
  placeWaiting (refreshTimeLock (refreshLinkCond (followLatch (persist d))))

/-! ## The run of a start -/

/-- Step 6 is over: the peer is met or fenced, and the counter stands. -/
def meetStep (d : Device) : Option Device :=
  let d := carriedTime d
  if peerSettled d && d.time.established then some (groupsStep d) else none

/-- One step of the start that goes on; none while it waits. -/
def startStep (d : Device) : Option Device :=
  if d.power.run != .starting || d.power.fatal.isSome || d.power.pwrFail then none
  else match d.power.stage with
    | 3 => some (bootStep d)
    | 4 => some (storesStep d)
    | 5 => some (memoryStep d)
    | 6 => meetStep d
    | 7 => if groupsSettled d then some (toStage 8 (beginCopy d)) else none
    | 8 => some (replayStep d)
    | 12 => some (readyStep d)
    | _ => none

/-- The start runs until it is over or waits. -/
def startOn : Nat → Device → Device
  | 0, d => d
  | n + 1, d => match startStep d with
    | some d => startOn n d
    | none => d

/-- Every event that a start waits for lets it go on. -/
def proceed (d : Device) : Device := startOn 12 d

/-! ## Cold start or clean dormant exit (R561) -/

/-- The first condition of R561 that fails; 0 when all hold. -/
def dormantFailure (d : Device) : Nat :=
  match d.power.dormancy with
  | none => 1
  | some r =>
    if d.power.vddqLow then 2
    else if d.power.alarmInPs4 then 3
    else if (slotImage 0 d).st == .pending || (slotImage 1 d).st == .pending then 4
    else if d.stripe.pageSeq != r.durable then 5
    else 0

/-- At step 3 of a start: it leaves PS_4 (OD 0x2200:01 = 5). -/
def atBoot (d : Device) : Bool := d.power.run == .starting && d.power.stage == 3
def leavesDormancy (d : Device) : Bool := odVal 0x2200 1 d == 5

/-- COLD_START: any start but a clean dormant exit. -/
def coldStart (d : Device) : Device :=
  if !atBoot d || (leavesDormancy d && dormantFailure d == 0) then d
  else
    let d := if leavesDormancy d then logEvent 0x1207 0x0071 1 (dormantFailure d) d else d
    proceed (odPut 0x2200 2 0 d)

/-- COLD_START. -/
def execColdStart (s : State) : Host.Outcome State Fault Refusal := next s coldStart

/-- CLEAN_DORMANT_EXIT. -/
def cleanDormantExit (d : Device) : Device :=
  if atBoot d && leavesDormancy d && dormantFailure d == 0 then proceed (odPut 0x2200 2 1 d) else d

/-- CLEAN_DORMANT_EXIT. -/
def execCleanDormantExit (s : State) : Host.Outcome State Fault Refusal := next s cleanDormantExit

/-- CORE_PG_RISE: start-up goes past step 2 to boot verification. -/
def execCorePgRise (s : State) : Host.Outcome State Fault Refusal :=
  next s fun d =>
    if d.power.run == .waitCore && d.power.coreEn then
      { d with power := { d.power with run := .starting, stage := 3, corePg := true, coreTries := 0 } }
    else d

end Sys2Proof.Machine
end

