-- ==== Sys2Proof/Machine/Meet.lean ====
section
/-! DEFINITION. Meeting: HELLO and its checks, what the serving peer gives a returning one, HEARTBEAT, the return of the link, the
start-up wait for the peer (R17, R188, R322, R361, R407 to R411, R429 to R435, R438, R446, R447, R452, R533, R624). -/

namespace Sys2Proof.Machine

/-- The major revision of an image's revision (R584). -/
def majorOf (revision : Nat) : Nat := revision / 65536

/-- A time state by its code (R404). -/
def timeOf (code : Nat) : TimeSt :=
  if code == 1 then .free else if code == 2 then .acquiring else if code == 3 then .locked else if code == 4 then .holdover else .unset

/-- The check of R446 that fails: 1 sides, 2 pair identity, 3 firmware; 0 none. -/
def helloCheck (m : HelloMsg) (d : Device) : Nat :=
  if m.side == d.side then 1
  else if m.ident != 0 && pairIdentity d != 0 && m.ident != pairIdentity d then 2
  else if majorOf m.revision != majorOf (activeRevision d) then 3
  else 0

/-- A check fails: which of the two is refused, and what a serving peer does about it. -/
def refuse (check : Nat) (m : HelloMsg) (d : Device) : Device :=
  let d := logEvent 0x0E0A 0x0060 2 check d
  let self := check == 1 || !serving d
  if self then beRefused d else if !m.serving then assertFence 4 d else d

/-! ## What the pair shares (R188, R533) -/

/-- Entries that both peers hold alike. -/
def sharedIdx (idx sub : Nat) : Bool :=
  [0x2510, 0x2610, 0x2620, 0x2630, 0x2910, 0x2B10, 0x2B20, 0x3440, 0x3448, 0x3320, 0x3330, 0x2F28, 0x3220].contains idx ||
  [(0x2B00, 5), (0x2C00, 1), (0x2F20, 6), (0x2800, 1)].contains (idx, sub)

/-- The record number of a key of the value store. -/
def keySel (k : Nat) : Nat := k % 2 ^ 20

/-- TABLE_SYNC of a shared entry as it stands here. -/
def syncCell (k v : Nat) : LinkMsg :=
  let idx := keyIdx k
  let size := ((odEntry? idx (keySub k)).map fun e => e.typ.size).getD 8
  .tableSync idx (keySub k) (if (windowCount idx).isSome then keySel k else 0xFFFFFFFF) 0 (leBytes size v)

/-- The gear tables as GEAR carries them. -/
def gearMsg (d : Device) : SecureMsg :=
  .gear ((List.range 256).map fun b => odSel 0x2610 2 b d) ((List.range 256).map fun b => odSel 0x2610 2 (256 + b) d) (odVal 0x2600 6 d)

/-- What a device that meets a serving peer takes over from it (R447): secrets, keys, salts, tables, policies, snapshots. -/
def welcome (d : Device) : Device :=
  let d := match d.peer.mapKey with
    | some k => sendSecure (.mapKey k) d
    | none => d
  let d := sendSecure (.hashSecret d.kv.hashSecret) d
  let d := d.cipher.slots.foldl (fun d x => match x.2.key with
    | some k => sendSecure (.slotKey x.1 x.2.tenant x.2.keygen k) d
    | none => d) d
  let d := resendSalts d
  let shared := d.dict.cells.filter fun r => sharedIdx (keyIdx r.1) (keySub r.1) && keyIdx r.1 != 0x2610
  let d := shared.foldl (fun d r => sendLink (syncCell r.1 r.2) d) d
  let d := d.cam.nv.foldl (fun d e => sendLink (.tableSync 0x2B20 2 e.1 0 (searchBytes e.2)) d) d
  let d := d.media.profiles.zipIdx.foldl (fun d p => if p.1.isEmpty then d else sendLink (.tableSync 0x3440 (p.2 + 1) 0xFFFFFFFF 0 p.1) d) d
  let d := (d.snap.snaps.filter fun s => s.st == 1 || s.st == 2).foldl (fun d s => snapRecord s s.st d) d
  sendSecure (gearMsg d) d

/-- Side A of a pair that meets for the first time draws the hash secret and the map key (R322, R533). -/
def drawSecrets (d : Device) : Device :=
  let r := draw d
  let q := draw r.2
  let t := drawBytes 4 q.2
  { t.2 with
    kv := { t.2.kv with hashSecret := r.1 + 2 ^ 64 * q.1 }
    peer := { t.2.peer with mapKey := some (leNat t.1), wrappedMapKey := some (leNat t.1) } }

/-- The secrets exist. -/
def hasSecrets (d : Device) : Bool := d.peer.wrappedMapKey.isSome && d.kv.hashSecret != 0

/-- Side A gives the pair's secrets to a peer that starts beside it. -/
def shareSecrets (d : Device) : Device :=
  let d := if hasSecrets d then d else drawSecrets d
  sendSecure (.hashSecret d.kv.hashSecret) (sendSecure (.mapKey (d.peer.wrappedMapKey.getD 0)) d)

/-! ## Meeting (R407, R431, R435, R446, R447) -/

/-- Channels that the map gives this side, bit c for channel c. -/
def ownedMask (d : Device) : Nat := (List.range 128).foldl (fun v c => setBit v c (ownsChannel c d)) 0

/-- The map gives every channel to a side: it runs, or ran, solo. -/
def soloMap (side : Nat) (map : List Nat) : Bool := map.all (· == if side == 0 then 0 else 0xFF)

/-- A device whose peer took over while it was away keeps nothing of the store: the survivor holds all of it. -/
def surrender (d : Device) : Device :=
  { d with
    kv := { Reset.kv with hashSecret := d.kv.hashSecret, salts := d.kv.salts, manifestCount := d.kv.manifestCount, cacheGiB := d.kv.cacheGiB }
    stripe := { Reset.stripe with
      seq := d.stripe.seq, pageSeq := d.stripe.pageSeq, durableSeq := d.stripe.durableSeq, tail := d.stripe.pageSeq + 1
      failed := d.stripe.failed }
    map := { Reset.map with
      writeSeq := d.map.writeSeq, sealCount := d.map.sealCount, sealLimit := d.map.sealLimit, sealPending := d.map.sealPending
      flushNum := d.map.flushNum, flushPage := d.map.flushPage, flushPos := d.map.flushPos, cacheGiB := d.map.cacheGiB }
    snap := { d.snap with snaps := [] }
    peer := { d.peer with fpSplit := false, overrides := [] } }

/-- What both peers hold alike and the serving peer gives anew: the device keeps none of its own, and of its key slots those that the other
one names (R188, R233, R361, R447). -/
def dropShared (d : Device) : Device :=
  let given := fun k : Nat => sharedIdx (keyIdx k) (keySub k) && keyIdx k != 0x2610 && keyIdx k != 0x3220
  let policy := fun i : Nat => typeOf i d == 2
  { d with
    dict := { d.dict with cells := d.dict.cells.filter fun r => !given r.1 }
    cam := { d.cam with entries := dropEntries policy d.cam.entries, dram := dropEntries policy d.cam.dram, nv := [] }
    media := { d.media with profiles := d.media.profiles.map fun _ => [] }
    peer := { d.peer with stale := (d.cipher.slots.filter (·.2.st != .empty)).map (·.1) } }

/-- A starting device takes the time of its peer (R407). -/
def takeTime (m : HelloMsg) (d : Device) : Device :=
  if d.time.established || d.power.carried.isSome || m.timeState == 0 then d
  else establish m.counter (timeOf m.timeState) d

/-- The peers meet while one or both start: the holder offers its mirrored records to the home (R342). -/
def offerHeld (d : Device) : Device :=
  (d.peer.held.filter fun h => h.write / 2 ^ 63 != d.side).foldl (fun d h => sendLink (.mirrorData h.write h.record) d) d

/-- A starting device meets its peer. -/
def meetStarting (m : HelloMsg) (d : Device) : Device :=
  let owners := if m.serving then m.current else if d.side == 0 then preferredMap d else m.preferred
  let d := { d with peer := { d.peer with
    met := true, st := 1, helloDone := true, peerWasServing := m.serving, owners := owners, waitUntil := none
    returning := if m.serving then 3 else 0 } }
  let d := if m.serving && soloMap (1 - d.side) m.current then surrender d else d
  let d := { d with peer := { d.peer with driven := ownedMask d } }
  let d := if m.serving then takeTime m (dropShared d) else if d.side == 0 then shareSecrets d else d
  let d := { d with peer := { d.peer with held := d.peer.held ++ heldFromFlush d } }
  offerHeld (leaderAtMeeting (timeOf m.timeState).rank d)

/-- A serving device meets a peer that starts: a returning peer after a takeover, or one that had reset. -/
def meetServing (m : HelloMsg) (d : Device) : Device :=
  let owns := d.peer.takenOver || d.peer.st == 5
  let d := { d with peer := { d.peer with
    met := true, st := 1, helloDone := true, peerWasServing := m.serving, takenOver := owns
    returning := if owns then 1 else 0 } }
  let d := welcome (leaderAtMeeting (timeOf m.timeState).rank d)
  if owns then d else offerHeld d

/-- Link return between peers that had met: what waited for it goes on (R200, R291, R438, R624). -/
def linkReturned (d : Device) : Device :=
  let d := releaseUnanswered (remakeClaims false { d with peer := { d.peer with helloDone := true } })
  let d := refreshPeer (settleAllRemote ((d.peer.reqs.filter countReq).foldl (fun d r => sendFpReq r d) d))
  let d := handDetached (retellBatches (interruptForwarded .interrupted d))
  let d := resendSalts (askAgain (sendAll (d.kv.invalidating.map fun i => .invalidate i.2.1 i.2.2.2 i.2.2.1) d))
  let d := sendAll ((d.stripe.pages.filter fun p => !p.mirrored).map fun p => .journalPage p.msg) d
  let again := d.peer.handovers.filter fun h => h.old && h.released.isSome && !h.acked
  let d := again.foldl (fun d h => sendLink (.released h.group h.mask h.tick) d) d
  let erases := d.peer.reqs.filterMap fun r => match r.what with
    | .erase _ m => some (LinkMsg.eraseRequest r.id m r.copy)
    | _ => none
  settle (placeAllWaiting (sendAll erases d))

/-- Both pair identities are 0: side A draws one, and says HELLO again with it. -/
def drawIdentity (d : Device) : Device :=
  let r := draw d
  sendHello (persist (odPut 0x2000 4 (if r.1 == 0 then 1 else r.1) r.2))

/-- The old owner's map shows a hand-over reverted of which no RELEASED came: the new owner reverts it too (R438). -/
def followRevert (m : HelloMsg) (d : Device) : Device :=
  let kept := fun h : Handover => (List.range 8).any fun n =>
    bit h.mask n && b2n (bit (m.current.getD h.group 0) n) != h.newSide
  (d.peer.handovers.filter fun h => !h.old && h.released.isNone && kept h).foldl (fun d h => revertHandover h d) d

/-- The checks have passed: the identity is settled, and the peers meet or find each other again. -/
def greet (m : HelloMsg) (d : Device) : Device :=
  let d := if m.ident != 0 && pairIdentity d == 0 then persist (odPut 0x2000 4 m.ident d) else d
  let blank := pairIdentity d == 0
  let d := if blank && d.side == 0 then drawIdentity d else d
  if blank && d.side == 1 then d
  else if d.power.run == .starting then (if d.peer.met then d else proceed (meetStarting m d))
  else if !isReady d then d
  else if d.peer.met && d.peer.st != 5 && m.serving then followRevert m { d with peer := { d.peer with helloSeen := true } }
  else settle (refreshPeer (meetServing m d))

/-- HELLO. -/
def hello (m : HelloMsg) (d : Device) : Device :=
  let d := { d with peer := { d.peer with peerRevision := m.revision, helloSeen := true } }
  if d.peer.st == 6 || d.peer.st == 7 || d.peer.fenceOut || d.peer.takeover.isSome then d
  else
    let check := helloCheck m d
    if check != 0 then refuse check m d else greet m d

/-- HELLO. -/
def execHello (h : FrameHdr) (m : HelloMsg) (s : State) : Host.Outcome State Fault Refusal := next s (acceptFrame h 0 (hello m))

/-! ## HEARTBEAT (R409, R411, R430, R449, R452, R457, R550) -/

/-- Old owners whose RELEASED has been acknowledged are done. -/
def settleReleased (d : Device) : Device :=
  if !linkIsUp d then d
  else
    let owes := fun h : Handover => d.peer.unacked.any fun f => match f.msg with
      | .released g m _ => g == h.group && m == h.mask
      | _ => false
    { d with peer := { d.peer with handovers := d.peer.handovers.filter fun h => !(h.old && h.released.isSome && !owes h) } }

/-- HEARTBEAT: liveness of the link, time transfer, and what the peer says of itself. -/
def heartbeat (m : HeartbeatMsg) (d : Device) : Device :=
  let gap := d.time.now - d.peer.lastHeartbeat
  let since := if gap ≤ us 50 then d.peer.heartbeatSince else d.time.now
  let d := { d with
    peer := { d.peer with
      lastHeartbeat := d.time.now, heartbeatSince := since, heartbeatRun := d.peer.heartbeatRun + 1, peerAnnounced := m.peerState
      peerDormant := m.peerState == 4, peerRoom := m.room, peerDurable := m.durableSeq, peerTotal := m.windowTotal }
    time := { d.time with peerState := m.timeState, peerRank := m.rank } }
  let held := d.peer.treatedDown
  let d := refreshRanks (if pairedTime d && m.t3 != 0 then takePeerOffset (heartbeatOffset m d) true d else d)
  let back := d.peer.met && d.peer.helloSeen && !d.peer.helloDone && d.peer.st != 5 && since + 800000 ≤ d.time.now
  let agreed := held && !d.peer.treatedDown && d.peer.helloDone && d.peer.met && d.peer.st == 2
  let d := if back || agreed then linkReturned d else refreshPeer d
  proceed (settle (refreshDirty (settleReleased (refreshTimeLock d))))

/-- HEARTBEAT. -/
def execHeartbeat (h : FrameHdr) (m : HeartbeatMsg) (s : State) : Host.Outcome State Fault Refusal :=
  next s (acceptFrame h 0 (heartbeat m))

/-- LOOPBACK: returned unchanged with ECHO set; an echo ends the test of it (R169). -/
def loopback (h : FrameHdr) (t : Nat) (pattern : Bytes) (d : Device) : Device :=
  if h.echo then d else sendLink (.loopback t pattern true) d

/-- LOOPBACK. -/
def execLoopback (h : FrameHdr) (tick : Nat) (pattern : Bytes) (s : State) : Host.Outcome State Fault Refusal :=
  next s (acceptFrame h 0 (loopback h tick pattern))

/-! ## The start-up wait (R432) -/

/-- PEER_WAIT_EXPIRY: with PEER_ALIVE_IN asserted the device waits on; without it the peer is absent and is fenced, by side A at the
later of the loss and the end of the wait, by side B 2 s after. -/
def peerWaitExpiry (d : Device) : Device :=
  match d.peer.waitUntil with
  | none => d
  | some t =>
    if d.power.run != .starting || d.power.stage != 6 || d.peer.met || d.peer.st != 0 then d
    else if d.peer.aliveIn then
      (if d.time.now < t then logEvent 0x0E01 0x0060 1 d.peer.link (waitUntil t d) else d)
    else
      let due := max t (d.peer.lostAt.getD 0) + (if d.side == 0 then 0 else sec 2)
      assertFence 3 (waitUntil due d)

/-- PEER_WAIT_EXPIRY. -/
def execPeerWaitExpiry (s : State) : Host.Outcome State Fault Refusal := next s peerWaitExpiry

/-- MASTER_WAIT_EXPIRY: OD 0x2100:12 has passed at step 6 and no master has set the counter (R407). -/
def masterWaitExpiry (d : Device) : Device :=
  match d.time.waitUntil with
  | none => d
  | some t =>
    if d.power.run != .starting || d.power.stage != 6 || d.time.established then d
    else proceed (establish (odVal 0x2100 0x10 d + 800000) .free (waitUntil t d))

/-- MASTER_WAIT_EXPIRY. -/
def execMasterWaitExpiry (s : State) : Host.Outcome State Fault Refusal := next s masterWaitExpiry

/-- PTP_SYNC: at step 6 the third agreeing Sync sets the counter, and the start goes on. -/
def execPtpSync (m : SyncMsg) (s : State) : Host.Outcome State Fault Refusal := next s fun d => proceed (syncReceive m d)

end Sys2Proof.Machine
end

