-- ==== Sys2Proof/Machine/Handover.lean ====
section
/-! DEFINITION. Channels and buckets that change peers, and requests between the peers' maps: hand-over, bucket moves, rebalancing,
mirrored records, moves and erases at the other peer (R24, R213, R340, R349, R355, R433 to R438, R447 to R452, R563). -/

namespace Sys2Proof.Machine

/-! ## Hand-over (R435 to R438) -/

/-- A group that a hand-over, armed or under way, names. -/
def handoverBusy (g : Nat) (d : Device) : Bool :=
  let of := fun e : BoardEntry => e.action == 4 && e.unit == 0x0380 + g
  d.peer.handovers.any (·.group == g) || (d.board.entries.any fun e => e.2.state == 1 && of e.2) ||
    (d.board.placing.any fun p => of p.body) || d.board.waiting.any fun w => of w.body

/-- HANDOVER_PLACEMENT: side A's firmware takes the lowest group whose current map differs from the preferred map, with one entry
for each new owner side, at the next hand-over tick. -/
def handoverPlacement (d : Device) : Device :=
  if d.side != 0 || !pairUp d || !isReady d then d
  else match (List.range 16).find? fun g => d.peer.owners.getD g 0 != odVal 0x2D18 (g + 1) d with
    | none => d
    | some g =>
      if handoverBusy g d then d
      else
        let now := d.peer.owners.getD g 0
        let want := odVal 0x2D18 (g + 1) d
        let mask := fun side : Nat => (List.range 8).foldl (fun v n => setBit v n (bit now n != bit want n && b2n (bit want n) == side)) 0
        let t := nextHandoverTick d
        [0, 1].foldl (fun d side =>
          if mask side == 0 then d else placePaired (firmwareEntry 0x04 (0x0380 + g) (mask side * 256 + side) t true) .firmware d) d

/-- HANDOVER_PLACEMENT. -/
def execHandoverPlacement (s : State) : Host.Outcome State Fault Refusal := next s handoverPlacement

/-- Journal copies on the channels of a hand-over are written anew on a channel that this device keeps (R24, R291). -/
def leaveRings (g mask : Nat) (d : Device) : Device :=
  (d.stripe.rings.filter fun r => r.2.channel / 8 == g && bit mask (r.2.channel % 8)).foldl (fun d r => copyLost r.1 d) d

/-- A program that can no longer issue on its channel goes to another one (R286, R436). -/
def replaceProgram (o : FlashOp) (d : Device) : Device :=
  let d := engineSees o false (endOp o d)
  match moveOf o.stripe o.member d with
  | some mv =>
    let d := { d with stripe := { d.stripe with moves := d.stripe.moves.filter fun m => !(m.stripe == o.stripe && m.member == o.member) } }
    startMove o.stripe o.member mv.reason false mv.req (dropUnit o.desc d)
  | none => startMove o.stripe o.member 3 false none d

/-- The old owner issues no further operation on the channels: programs go elsewhere, erases pass to the new owner with their blocks, reads
wait for their timeout (R436, R437). -/
def leaveOps (g mask : Nat) (d : Device) : Device :=
  let mine := d.media.ops.filter fun o => !o.started && !o.kind.isRead && o.desc.channel / 8 == g && bit mask (o.desc.channel % 8)
  mine.foldl (fun d o => if o.kind == FlashKind.program then replaceProgram o d else endOp o d) d

/-- CHANNEL_HANDOVER takes effect: both peers flip the map bits. -/
def launchHandover (entry : Nat) (e : BoardEntry) (t : Nat) (d : Device) : Device :=
  let g := e.unit % 16
  let mask := bits e.arg 15 8
  let side := e.arg % 2
  let h : Handover := ⟨g, mask, side, entry, t, side != d.side, true, false, false, false, none, false⟩
  let d := setOwnerBits g mask side { d with peer := { d.peer with handovers := d.peer.handovers ++ [h] } }
  refreshDirty (if side == d.side then d else leaveOps g mask (leaveRings g mask d))

def onHandover (h : Handover) (f : Handover → Handover) (d : Device) : Device :=
  { d with peer := { d.peer with handovers := d.peer.handovers.map fun x => if x == h then f x else x } }

/-- The channel belongs to a hand-over. -/
def inHandover (h : Handover) (c : Nat) : Bool := c / 8 == h.group && bit h.mask (c % 8)

/-- A block-table record as HANDOVER_STATE carries it. -/
def blockRecord (b : Block) : BlockRecord := ⟨b.desc, b.st, b.stream, b.next, b.erases, b.live, b.writeMin, b.barrier, b.writeSeq⟩

/-- HANDOVER_DRAINED: the old owner's last operation on the channels has ended; it sends their block table. -/
def handoverDrained (g : Nat) (d : Device) : Device :=
  (d.peer.handovers.filter fun h => h.group == g && h.old && !h.drained).foldl (fun d h =>
    if d.media.ops.any fun o => o.started && inHandover h o.desc.channel then d
    else
      let blocks := d.map.blocks.filter fun b => inHandover h b.channel
      sendLink (.handoverState h.group h.mask (blocks.map blockRecord)) (onHandover h (fun h => { h with drained := true }) d)) d

/-- HANDOVER_DRAINED. -/
def execHandoverDrained (group : Nat) (s : State) : Host.Outcome State Fault Refusal := next s (handoverDrained group)

/-- Bits of OD's driven channels for a hand-over. -/
def setDriven (h : Handover) (b : Bool) (d : Device) : Device :=
  let v := (List.range 8).foldl (fun v n => if bit h.mask n then setBit v (8 * h.group + n) b else v) d.peer.driven
  { d with peer := { d.peer with driven := v } }

/-- HANDOVER_RELEASE: HANDOVER_STATE is acknowledged and the new owner's launch report has come: 64 ticks of idle levels, the pins go
high-impedance, RELEASED with its tick. -/
def handoverRelease (g : Nat) (d : Device) : Device :=
  (d.peer.handovers.filter fun h => h.group == g && h.old && h.drained && h.released.isNone).foldl (fun d h =>
    let owed := d.peer.unacked.any fun f => match f.msg with
      | .handoverState x m _ => x == h.group && m == h.mask
      | _ => false
    if owed || !linkIsUp d || d.board.reports.any (·.1 == h.entry) then d
    else
      let d := waitTick (d.time.counter + 64) d
      let d := setDriven h false (onHandover h (fun h => { h with released := some d.time.now, tick := d.time.counter, acked := false }) d)
      let blocks := d.map.blocks.filter fun b => !inHandover h b.channel
      sendLink (.released h.group h.mask d.time.counter) { d with map := { d.map with blocks := blocks } }) d

/-- HANDOVER_RELEASE. -/
def execHandoverRelease (group : Nat) (s : State) : Host.Outcome State Fault Refusal := next s (handoverRelease group)

/-- A block-table record taken over from the other peer. -/
def takeBlock (d : Device) (r : BlockRecord) : Device :=
  let m := r.addr
  let b : Block := ⟨m.channel, m.target, m.lun, m.block, r.st, r.stream, r.next, 0, r.erases, r.live, r.writeMin, r.barrier, false, r.writeSeq,
    [], false, 0, 0, r.stream == 5, 0⟩
  let known := d.media.targets.any fun t => t.channel == m.channel && t.target == m.target
  { d with
    map := { d.map with blocks := d.map.blocks.filter (fun x => !isBlock m x) ++ [b] }
    media := { d.media with targets := if known then d.media.targets else d.media.targets ++ [⟨m.channel, m.target⟩] } }

/-- HANDOVER_STATE: the new owner has the old one's block table of the channels. -/
def execHandoverState (h : FrameHdr) (group mask : Nat) (blocks : List BlockRecord) (s : State) : Host.Outcome State Fault Refusal :=
  next s <| acceptFrame h 3 fun d =>
    if d.peer.handovers.any fun x => x.group == group && x.mask == mask && !x.old then blocks.foldl takeBlock d else d

/-- RELEASED: the pins are free. -/
def execReleased (h : FrameHdr) (group mask tick : Nat) (s : State) : Host.Outcome State Fault Refusal :=
  next s <| acceptFrame h 0 fun d =>
    let mark := fun x : Handover =>
      if x.group == group && x.mask == mask && !x.old && x.released.isNone then { x with released := some d.time.now, tick := tick } else x
    { d with peer := { d.peer with handovers := d.peer.handovers.map mark } }

/-- A channel that this device begins to drive has been trained, or fails (R300, R367). -/
def trainChannel (c : Nat) (ok : Bool) (d : Device) : Device :=
  match profileOf (c / 8) d with
  | none => d
  | some p =>
    if !groupOn (c / 8) d then d
    else if ok then
      let n := (d.media.targets.filter (·.channel == c)).length
      { d with media := { d.media with rates := tblPut d.media.rates c (trainedRate p n) } }
    else failElement (channelAddr c) 4 d

/-- HANDOVER_TAKE_CHANNEL: 64 ticks after RELEASED the new owner drives the channels, trains them, and issues operations. `trained`:
bit n for the channel 8g + n that trained. -/
def handoverTakeChannel (g trained : Nat) (d : Device) : Device :=
  (d.peer.handovers.filter fun h => h.group == g && !h.old && h.released.isSome).foldl (fun d h =>
    let d := waitTick (h.tick + 64) d
    let d := setDriven h true { d with peer := { d.peer with handovers := d.peer.handovers.filter (· != h) } }
    let d := (List.range 8).foldl (fun d n => if bit h.mask n then trainChannel (8 * g + n) (bit trained n) d else d) d
    refreshDirty (logEvent 0x0E06 0x0060 0 (h.group * 256 + h.mask) d)) d

/-- HANDOVER_TAKE_CHANNEL. -/
def execHandoverTakeChannel (group trained : Nat) (s : State) : Host.Outcome State Fault Refusal :=
  next s (handoverTakeChannel group trained)

/-- HANDOVER_ABORT: the other peer has reverted; so does this one. -/
def execHandoverAbort (h : FrameHdr) (entry group mask : Nat) (s : State) : Host.Outcome State Fault Refusal :=
  next s <| acceptFrame h 0 fun d =>
    (d.peer.handovers.filter fun x => x.group == group && x.mask == mask && x.entry == entry && x.released.isNone).foldl
      (fun d x => refreshDirty (revertHandover x d)) d

/-! ## Bucket moves (R447 to R451) -/

/-- The home of a bucket changes, with its override (R448). -/
def setHome (b side : Nat) (d : Device) : Device :=
  let d := { d with peer := { d.peer with
    overrides := if defaultHome b d == side then tblDel d.peer.overrides b else tblPut d.peer.overrides b side } }
  putOverride b side (b % 2) d

/-- Keys of a bucket in the index. -/
def bucketKeys (b : Nat) (d : Device) : List (Nat × Bytes) :=
  (d.kv.index.filter fun e => bucketOf e.ns e.key d == b).map fun e => (e.ns, e.key)

/-- A key's record as BUCKET_RECORDS carries it; one without versions is gone. -/
def movedKey (k : Nat × Bytes) (d : Device) : MovedKey :=
  let vs := ((keyEntry? k.1 k.2 d).map (·.versions)).getD []
  ⟨k.1, k.2, vs.map fun v => ⟨v.tick, if v.tombstone || v.lost then none else manifestOf v.mseq d, v.tombstone⟩⟩

def onMove (b : Nat) (f : BucketMove → BucketMove) (d : Device) : Device :=
  { d with peer := { d.peer with moves := d.peer.moves.map fun m => if m.bucket == b then f m else m } }

/-- A new move away from here. -/
def beginMove (b : Nat) (d : Device) : Device :=
  { d with peer := { d.peer with moves := d.peer.moves ++ [⟨b, 1 - d.side, true, bucketKeys b d, none, false, none, []⟩] } }

/-- The returning peer's bucket may move back: its first mirror is acknowledged and the channels have converged (R447). -/
def mayReturn (b : Nat) (d : Device) : Bool :=
  2 ≤ d.peer.returning && b % 2 != d.side && homeOf b d == d.side && d.peer.owners == preferredMap d && d.peer.handovers.isEmpty

/-- Before the first bucket goes back, the chunk-map entries of the returning side's fingerprints do. -/
def sendEntries (d : Device) : Device :=
  if d.peer.returning != 2 then d
  else sendLink (.fpEntries ((d.kv.copies.filter fun c => splitOwner c.fp != d.side).map chunkEntry))
    { d with peer := { d.peer with returning := 4 } }

/-- A command concerns a bucket: one of its keys lies in it, or may in its range. -/
def concerns (b : Nat) (d : Device) (c : Cmd) : Bool :=
  isRangeCmd c.sqe || match c.kind with
    | .retrieve | .exist => bucketOf (c.ns d) (capKey c.capsule) d == b
    | _ => (cmdKeys c.capsule).any fun k => bucketOf (c.ns d) k.2 d == b

/-- At the tick, the commands for the bucket that the old home has accepted stay here, waiting ones too; not those that are at the other
peer as a whole, or wait for another bucket's drain (R25). -/
def keepAccepted (b : Nat) (d : Device) : Device :=
  let away := fun c : Cmd => c.parent.isSome || c.phase == .waitBucket || (c.phase == .forwarded && !c.joint)
  let cmds := d.nvme.cmds.map fun c => if !away c && concerns b d c then { c with stay := c.stay ++ [b] } else c
  { d with nvme := { d.nvme with cmds := cmds } }

/-- Commands that this device accepted for a bucket before its tick are under way. -/
def bucketInUse (b : Nat) (d : Device) : Bool := d.nvme.cmds.any (·.stay.contains b)

/-- BUCKET_RECORDS of a bucket that the other peer has not acknowledged: DRAIN_DONE, of another class, follows their acknowledgement (R456). -/
def recordsOwed (b : Nat) (d : Device) : Bool :=
  let of := fun m : LinkMsg => match m with
    | .bucketRecords x _ => x == b
    | _ => false
  (d.peer.unacked.any fun f => of f.msg) || d.peer.waiting.any fun w => of w.2

/-- BUCKET_RECORDS_STREAM: what is unsent goes out; then the move is placed, or after its launch the drain ends. -/
def bucketStream (b : Nat) (d : Device) : Device :=
  if !pairUp d then d
  else
    let d := if (d.peer.moves.any (·.bucket == b)) || !mayReturn b d then d else beginMove b (sendEntries d)
    match d.peer.moves.find? fun m => m.bucket == b && m.old && m.drained.isNone with
    | none => d
    | some m =>
      let d := if m.unsent.isEmpty then d
        else sendLink (.bucketRecords b (m.unsent.map fun k => movedKey k d)) (onMove b (fun m => { m with unsent := [] }) d)
      if !m.launched then
        let armed := m.entry.isSome || (d.board.placing.any fun p => p.who == .bucket b) || d.board.waiting.any fun w => w.who == .bucket b
        if armed then d
        else placePaired (firmwareEntry 0x05 0x0010 (m.newSide * 65536 + b) (nextHandoverTick d) true) (.bucket b) d
      else if bucketInUse b d || recordsOwed b d then d
      else
        let g := boundaryFrom (d.time.counter + 1) d
        sendLink (.drainDone b g) (onMove b (fun m => { m with drained := some g }) d)

/-- BUCKET_RECORDS_STREAM. -/
def execBucketRecordsStream (bucket : Nat) (s : State) : Host.Outcome State Fault Refusal := next s (bucketStream bucket)

/-- The records of a bucket arrive at its new home; one that comes again replaces the first. -/
def takeRecords (b : Nat) (rs : List MovedKey) (d : Device) : Device :=
  let same := fun x y : MovedKey => x.ns == y.ns && x.key == y.key
  let d := if d.peer.moves.any fun m => m.bucket == b && !m.old then d
    else { d with peer := { d.peer with moves := d.peer.moves ++ [⟨b, d.side, false, [], none, false, none, []⟩] } }
  onMove b (fun m => { m with received := (m.received.filter fun x => !rs.any fun y => same x y) ++ rs }) d

/-- BUCKET_RECORDS. -/
def execBucketRecords (h : FrameHdr) (bucket : Nat) (records : List MovedKey) (s : State) : Host.Outcome State Fault Refusal :=
  next s (acceptFrame h 3 (takeRecords bucket records))

/-- DRAIN_DONE: the old home is through; the bucket passes in the commit group of G. -/
def execDrainDone (h : FrameHdr) (bucket g : Nat) (s : State) : Host.Outcome State Fault Refusal :=
  next s (acceptFrame h 0 (onMove bucket fun m => if m.old then m else { m with drained := some g }))

/-- Every bucket whose base home is a side has come home to it. -/
def allHome (side : Nat) (d : Device) : Bool := (List.range 2048).all fun n => homeOf (2 * n + side) d == side

/-- At the tick of the last bucket move the takeover ends: fingerprint ownership splits again (R447). -/
def endReturn (d : Device) : Device :=
  let keep := fun d : Device => d.peer.overrides.filter fun o => o.2 != o.1 % 2
  if d.peer.takenOver && d.peer.st == 1 && allHome (1 - d.side) d then
    logEvent 0x0E09 0x0060 1 (1 - d.side) <| returnSessions <| hotSplit
      { d with peer := { d.peer with takenOver := false, fpSplit := true, returning := 0, overrides := keep d } }
  else if !d.peer.takenOver && !d.peer.fpSplit && d.peer.st == 1 && allHome d.side d then
    hotSplit { d with peer := { d.peer with fpSplit := true, overrides := keep d } }
  else d

/-- BUCKET_MOVE takes effect: commands for the bucket go to the new home. -/
def launchMove (b side : Nat) (d : Device) : Device :=
  let d := if d.peer.moves.any (·.bucket == b) then d
    else { d with peer := { d.peer with moves := d.peer.moves ++ [⟨b, side, side != d.side, [], none, false, none, []⟩] } }
  let d := if side != d.side then keepAccepted b d else d
  endReturn (setHome b side (onMove b (fun m => { m with launched := true }) d))

/-- The new home holds the bucket from G: its keys with their versions, manifests and records, and BUCKET_HOME. -/
def gainBucket (g : Nat) (m : BucketMove) (d : Device) : Device :=
  let live := m.received.filter fun k => !k.versions.isEmpty
  let d := live.foldl (fun d k =>
    let ms := k.versions.filterMap (·.manifest)
    let fresh := ms.filter fun x => !d.kv.manifests.any (·.seq == x.seq)
    let d := { d with kv := { d.kv with manifests := d.kv.manifests ++ fresh, kept := d.kv.kept.filter (fun x => !ms.any (·.seq == x.seq)) ++ ms } }
    let d := ms.foldl (fun d x => packManifest x d) (touchMap 1 (indexKey k.ns k.key) d)
    let vs := k.versions.map fun v => Version.mk v.tick ((v.manifest.map (·.seq)).getD 0) v.tombstone (!v.tombstone && v.manifest.isNone)
    let d := vs.reverse.foldl (fun d v => journalRecord (.keyVersion k.ns k.key v.mseq v.tombstone v.tick) d) d
    putKey ⟨k.ns, k.key, vs⟩ d) d
  let d := journalRecord (.bucketHome m.bucket d.side g live.length) d
  odBump 0x2D30 2 1 (logEvent 0x0E08 0x0060 0 (m.newSide * 65536 + m.bucket) d)

/-- The old home lets the bucket go in G: a REMOVE for each key; no reference count changes. -/
def loseBucket (m : BucketMove) (d : Device) : Device :=
  let keys := bucketKeys m.bucket d
  let named := (d.kv.index.filter fun e => keys.contains (e.ns, e.key)).flatMap fun e => e.versions.map (·.mseq)
  let d := keys.foldl (fun d k => journalRecord (.keyRemoved k.1 k.2) (touchMap 1 (indexKey k.1 k.2) d)) d
  let d := named.foldl (fun d n => dropLocator n d) d
  odBump 0x2D30 2 1 { d with kv := { d.kv with
    index := d.kv.index.filter (fun e => !keys.contains (e.ns, e.key)), manifests := d.kv.manifests.filter fun x => !named.contains x.seq } }

/-- The bucket moves whose G is this commit group, or an earlier one. -/
def bucketGroup (t : Nat) (d : Device) : Device :=
  let due := d.peer.moves.filter fun m => m.launched && m.drained.any (· ≤ t)
  let d := { d with peer := { d.peer with moves := d.peer.moves.filter fun m => !due.contains m } }
  due.foldl (fun d m => if m.old then loseBucket m d else gainBucket t m d) d

/-- Buckets homed here that rebalancing takes: in decreasing order of count, none that would take the lighter peer above 50 %, until
this peer's share is at most 55 %. -/
def chooseBuckets : Nat → List (Nat × Nat) → Nat → Nat → List Nat
  | 0, _, _, _ => []
  | _, [], _, _ => []
  | n + 1, (b, c) :: rest, own, all =>
    if own * 100 ≤ 55 * all then []
    else if 50 * all < (all - own + c) * 100 then chooseBuckets (n + 1) rest own all
    else b :: chooseBuckets n rest (own - c) all

/-- Insert by decreasing count. -/
def insertCount (x : Nat × Nat) : List (Nat × Nat) → List (Nat × Nat)
  | [] => [x]
  | y :: ys => if y.2 < x.2 then x :: y :: ys else y :: insertCount x ys

/-- REBALANCE_WINDOW: a window of 8,000,000,000 ticks ends. -/
def rebalanceWindow (d : Device) : Device :=
  let w := 8000000000
  let d := waitTick ((d.time.counter / w + 1) * w) d
  let own := d.peer.windowTotal
  let all := own + d.peer.peerTotal
  let share := if all == 0 then 0 else own * 100 / all
  let counts := (d.peer.bucketCounts.filter fun c => homeOf c.1 d == d.side).foldl (fun l c => insertCount c l) []
  let d := { d with peer := { d.peer with
    lastTotal := own, windowTotal := 0, homeShare := share, bucketCounts := [], windowAt := d.time.counter } }
  if all * 60 < own * 100 then
    let d := logEvent 0x0E07 0x0060 1 share d
    if odVal 0x2D00 0x0C d == 1 && pairUp d && d.peer.returning == 0 then
      (chooseBuckets 64 counts own all).foldl (fun d b => if d.peer.moves.any (·.bucket == b) then d else beginMove b d) d
    else d
  else d

/-- REBALANCE_WINDOW. -/
def execRebalanceWindow (s : State) : Host.Outcome State Fault Refusal := next s rebalanceWindow

/-! ## Chunk-map entries and mirrored records (R200, R447, R452) -/

/-- An entry that the other peer hands over. One that is stored here keeps its place and its plaintext. -/
def takeEntry (d : Device) (e : ChunkEntry) : Device :=
  match copyOf e.domain e.fp e.num d with
  | some _ => onCopy e.domain e.fp e.num (fun c => { c with
      refs := e.refs, present := e.present, pinned := e.pinned, dead := e.dead, detached := e.detached
      plain := if e.plain.isEmpty then c.plain else e.plain, plainLen := if e.plainLen == 0 then c.plainLen else e.plainLen, extents := if c.plain.isEmpty then e.extents else c.extents }) d
  | none => addCopy { newCopy e.domain e.fp e.num with
      refs := e.refs, present := e.present, pinned := e.pinned, dead := e.dead, detached := e.detached, plain := e.plain
      plainLen := e.plainLen, storedLen := e.storedLen, slot := e.slot, extents := e.extents, enc := if e.deflate then .deflate else .raw
      keygen := (slotOf e.slot d).keygen } d

/-- FP_ENTRIES: each entry is taken over and recorded. -/
def takeEntries (entries : List ChunkEntry) (d : Device) : Device :=
  entries.foldl (fun d e =>
    let d := takeEntry d e
    match copyOf e.domain e.fp e.num d with
    | some c => recordCopy c d
    | none => d) d

/-- FP_ENTRIES. -/
def execFpEntries (h : FrameHdr) (entries : List ChunkEntry) (s : State) : Host.Outcome State Fault Refusal :=
  next s (acceptFrame h 3 (takeEntries entries))

/-- MIRROR_DATA: a record is held in the caravanserai and acknowledged; in PS_2 or PS_3 the device returns to write copy 3 (R563). A write
of this device that the other peer offers back is applied once it is whole (R342). -/
def mirrorData (w : Nat) (r : MirrorRecord) (d : Device) : Device :=
  let d := { d with peer := { d.peer with held := d.peer.held ++ [⟨w, r⟩] } }
  let n := (d.peer.held.filter (·.write == w)).length
  let ready := (ownOffers d).filter fun x => x != w || heldWhole w d
  ioActivity (adoptOwn ready (sendLink (.mirrorAck w n) d))

/-- MIRROR_DATA. -/
def execMirrorData (h : FrameHdr) (write : Nat) (r : MirrorRecord) (s : State) : Host.Outcome State Fault Refusal :=
  next s (acceptFrame h 1 fun d => settle (mirrorData write r d))

/-! ## Requests of the other peer's maps (R213, R349) -/

/-- MOVE_REQUEST: this device, as keeper, moves the member; one that it does not keep is refused. -/
def moveRequest (req stripe : Nat) (m : MemberDesc) (reason : Nat) (d : Device) : Device :=
  match stripeOf stripe d with
  | none => sendLink (.requestDone req 1) d
  | some s =>
    match (List.range s.members.length).find? fun i => (s.members[i]?).any (·.desc == m) with
    | none => sendLink (.requestDone req 1) d
    | some i => startMove stripe i reason true (some req) d

/-- MOVE_REQUEST. -/
def execMoveRequest (h : FrameHdr) (req stripe : Nat) (d : MemberDesc) (reason : Nat) (s : State) : Host.Outcome State Fault Refusal :=
  next s (acceptFrame h 2 (moveRequest req stripe d reason))

/-- ERASE_REQUEST: the block is erased behind its barrier; one on a failed element never is. -/
def eraseRequest (req : Nat) (m : MemberDesc) (barrier : Nat) (d : Device) : Device :=
  match blockOf m d with
  | none => sendLink (.requestDone req 1) d
  | some b =>
    if b.st == 4 || b.st == 5 then sendLink (.requestDone req 2) d
    else if b.st == 0 then sendLink (.requestDone req 0) d
    else
      let d := { d with peer := { d.peer with peerReqs := d.peer.peerReqs ++ [(req, .erase m barrier)] } }
      let d := onBlock m (fun b => { b with barrier := max b.barrier barrier }) d
      maybeState3 m (emptyBlock m 2 d)

/-- ERASE_REQUEST. -/
def execEraseRequest (h : FrameHdr) (req : Nat) (d : MemberDesc) (barrier : Nat) (s : State) : Host.Outcome State Fault Refusal :=
  next s (acceptFrame h 2 (eraseRequest req d barrier))

/-- Counts of an erasure under way, kept where its record will stand: at 0, 8, 16 what R133 retained, then copies listed, copies
erased, stripes, blocks erased, units relocated. -/
def bumpErasure (slot o n : Nat) (d : Device) : Device :=
  onSlot slot (fun s =>
    let r := padTo 64 s.results
    { s with results := r.take o ++ leBytes 8 (leAt r o 8 + n) ++ r.drop (o + 8) }) d

/-- A block that an erasure waits for has been erased, or never will be (R213, R309). -/
def erasureAnswered (slot : Nat) (m : MemberDesc) (result : Nat) (d : Device) : Device :=
  let d := if result == 0 then
      bumpErasure slot 48 1 { d with map := { d.map with residue := d.map.residue.filter (·.2 != descNum (blockDesc m)) } }
    else d
  onSlot slot (fun s => match s.op with
    | .erasure ns cs bs ss => { s with op := .erasure ns cs (bs.filter (·.1 != descNum (blockDesc m))) ss }
    | _ => s) d

/-- REQUEST_DONE. -/
def requestDone (req result : Nat) (d : Device) : Device :=
  match d.peer.reqs.find? (·.id == req) with
  | none => d
  | some r =>
    let d := { d with
      peer := { d.peer with reqs := d.peer.reqs.filter (·.id != req) }
      map := { d.map with moveRequests := d.map.moveRequests.filter (·.1 != req), eraseRequests := d.map.eraseRequests.filter (·.1 != req) } }
    match r.what with
    | .erase slot m => erasureAnswered slot m result d
    | _ => d

/-- REQUEST_DONE. -/
def execRequestDone (h : FrameHdr) (req result : Nat) (s : State) : Host.Outcome State Fault Refusal :=
  next s (acceptFrame h 2 (requestDone req result))

end Sys2Proof.Machine
end

