-- ==== Sys2Proof/Machine/Takeover.lean ====
section
/-! DEFINITION. Takeover: the survivor owns every channel, adopts what the fenced peer's flash and mirrored writes hold, and becomes
home, owner and keeper of everything (R50, R444, R445, R458). -/

namespace Sys2Proof.Machine

/-! ## The channels (R444 step 1) -/

/-- 100 ns after FENCE_OUT_N: every channel is this device's; those that it did not drive are trained, bit c of `trained` for those
that did train. -/
def ownAll (trained : Nat) (d : Device) : Device :=
  let all := 2 ^ 128 - 1
  let new := (List.range 128).filter fun c => !bit d.peer.driven c
  let d := { d with peer := { d.peer with
    owners := List.replicate 16 (if d.side == 0 then 0 else 0xFF), driven := all, handovers := [] } }
  refreshDirty (new.foldl (fun d c => trainChannel c (bit trained c) d) d)

/-! ## What the fenced peer's flash gives (R337, R338) -/

/-- The records of the fenced peer's stripes: issued, found whole or abandoned, moved, lost. -/
def takeStripe (rs : List JRecord) (d : Device) (r : JRecord) : Device :=
  match r with
  | .stripeIssue id cls k unit pad padded reissue replaced members =>
    if (stripeOf id d).isSome then d
    else
      let whole := rs.any fun x => x == .stripeDurable id
      let ms := members.map fun m => Member.mk m true true true false true 0
      let d := members.foldl (fun d m => noteResidue id m d) d
      let s : Stripe := ⟨id, cls, k, unit, .host, 0, 0, if whole then .durable else .abandoned, ms, pad, padded, reissue, replaced, 0, true, true,
        true, dataSpace k unit⟩
      { d with stripe := { d.stripe with stripes := d.stripe.stripes ++ [s] } }
  | .stripeDurable id => onStripe id (fun s => { s with st := .durable }) d
  | .stripeAbandoned id _ _ => onStripe id (fun s => { s with st := .abandoned }) d
  | .memberMoved id m _ old new => noteResidue id new <| onMember id m (fun x => if x.desc == old then { x with desc := new } else x) d
  | .stripeLost id _ _ => onStripe id (fun s => { s with st := .lost }) d
  | _ => d

/-- A key of the fenced peer's maps, with its versions. -/
def takeKey (d : Device) (k : MovedKey) : Device :=
  if k.versions.isEmpty || (keyEntry? k.ns k.key d).isSome then d
  else
    let ms := (k.versions.filterMap (·.manifest)).filter fun x => !d.kv.manifests.any (·.seq == x.seq)
    let d := { d with kv := { d.kv with manifests := d.kv.manifests ++ ms, kept := d.kv.kept ++ ms } }
    let d := ms.foldl (fun d x => packManifest x d) (touchMap 1 (indexKey k.ns k.key) d)
    let vs := k.versions.map fun v => Version.mk v.tick ((v.manifest.map (·.seq)).getD 0) v.tombstone (!v.tombstone && v.manifest.isNone)
    let d := vs.reverse.foldl (fun d v => journalRecord (.keyVersion k.ns k.key v.mseq v.tombstone v.tick) d) d
    putKey ⟨k.ns, k.key, vs⟩ d

/-- A forwarded command's keys are among the writes held complete of the fenced peer (R50). -/
def heldComplete (ns : Nat) (key : Bytes) (d : Device) : Bool :=
  ((d.peer.held.map (·.write)).eraseDups).any fun w =>
    let rs := heldOf w d
    heldWhole w d && (heldRoster rs).any (fun r => r.2.1 == ns && r.2.2.1 == key) &&
      match heldManifest rs with
      | some m => m.chunks.all fun ch => copyAtHand m.domain ch ((heldForm rs m.domain ch).map Prod.snd) d
      | none => true

/-- A command that went whole to the fenced peer and changes the store. -/
def wentThere (c : Cmd) : Bool := c.phase == .forwarded && c.fwdTo.isSome && c.parent.isNone && changesStore c.sqe && !c.joint

/-- A secure delete that went to the fenced peer: it needs its slot for the write to be kept, and notes the manifest that goes (R133,
R211). -/
def keepSecure (d : Device) (c : Cmd) : Device :=
  let key := capKey c.capsule
  let ns := c.ns d
  if c.kind != KvKind.delete || !isSecure c.sqe || !heldComplete ns key d then d
  else
    let d := onCmd c.id (fun c => { c with named := (liveVersion ns key d).bind fun v => manifestOf v.mseq d }) d
    if c.slot.isSome then d
    else match takeSlot 1 (.erasure ns [] [] []) (some c.q.port) d with
      | some r => onCmd c.id (fun c => { c with slot := some r.1 }) r.2
      | none =>
        let mine := fun h : HeldRecord => (heldRoster (heldOf h.write d)).any fun r =>
          bit h.write 62 && r.2.1 == ns && r.2.2.1 == key && (launchedTick ns key r.2.2.2 none d).isNone
        { d with peer := { d.peer with held := d.peer.held.filter fun h => !mine h } }

/-- Commands forwarded to the fenced peer whose write is kept. They complete with success at the end of the takeover (R445). -/
def markKept (d : Device) : Device :=
  let d := (d.nvme.cmds.filter wentThere).foldl keepSecure d
  let kept := fun c : Cmd => wentThere c && (cmdKeys c.capsule).all fun k => heldComplete (c.ns d) k.2 d
  let cmds := d.nvme.cmds.map fun c => if kept c then { c with tick := some (restoreTick d) } else c
  { d with nvme := { d.nvme with cmds := cmds } }

/-- A batch that this device coordinates has no tick: it fails, and its share at the fenced peer is discarded (R39). -/
def failBatches (d : Device) : Device :=
  let out := d.nvme.cmds.filter fun c =>
    c.kind == KvKind.batch && c.fwdFrom.isNone && c.parent.isNone && c.tick.isNone && (c.fwdTo.isSome || !c.kids.isEmpty)
  out.foldl (fun d c =>
    let parts := d.nvme.cmds.filter fun x => x.parent == some c.id
    failCmd c.id .interrupted 0 (parts.foldl (fun d x => removeCmd x d) d)) d

/-- The tick at which the fenced coordinator of a share has committed its own keys, as the mirrored journal says. -/
def coordinatorTick (c : Cmd) (d : Device) : Option Nat :=
  let there := ((List.range (batchCount c.data)).map (batchKey c.data ·)).filter fun k => !c.serves k d
  if c.kind != KvKind.batch then none
  else d.stripe.mirror.findSome? fun p => p.page.records.findSome? fun r => match r with
    | .keyVersion ns k _ false t => if ns == c.ns d && there.contains k && c.readyAt < t then some t else none
    | _ => none

/-- Shares of the fenced coordinator commit with it, or are discarded (R39). -/
def settleShares (d : Device) : Device :=
  (d.nvme.cmds.filter fun c => isShare c && c.tick.isNone && c.unsorted.isEmpty).foldl (fun d c =>
    match if c.phase == .ready then coordinatorTick c d else none with
    | some t => onCmd c.id (fun c => { c with tick := some t }) d
    | none => removeCmd c (c.items.foldl (fun d i => discardItem c.id i d) d)) d

/-- Snapshots whose command at the fenced peer never completed leave none behind, and their cuts do not launch (R54). -/
def dropArmed (d : Device) : Device :=
  let own := fun n : Nat => d.snap.creates.any (·.nums.contains n)
  let gone := (d.snap.snaps.filter fun s => s.st == 1 && !own s.num).map (·.num)
  if gone.isEmpty then d else endCuts gone d

/-- Steps 2 and 3: the fenced peer's maps, journal and open blocks, then its mirrored writes. -/
def adoptPeer (keys : List MovedKey) (chunks : List ChunkEntry) (stripes : List JRecord) (blocks : List BlockRecord) (d : Device) : Device :=
  let d := blocks.foldl takeBlock d
  let d := stripes.foldl (takeStripe stripes) d
  let d := (chunks.foldl takeEntry d)
  let d := keys.foldl takeKey d
  settle (adoptHeld (settleShares (failBatches (markKept (dropArmed d)))))

/-- TAKEOVER. The operands are what the fenced peer's newest checkpoint, its journal and the scan of its open blocks give, and the
channels that train. A device that starts owns the channels first, and reads them once it is ready. -/
def takeover (keys : List MovedKey) (chunks : List ChunkEntry) (stripes : List JRecord) (blocks : List BlockRecord) (trained : Nat)
    (d : Device) : Device :=
  match d.peer.takeover with
  | none => d
  | some t =>
    let d := waitUntil (t.since + 80) d
    let d := if d.peer.driven == 2 ^ 128 - 1 then d else ownAll trained d
    let d := if hasSecrets d then d else drawSecrets d
    let d := proceed d
    if isReady d && !t.begun then
      adoptPeer keys chunks stripes blocks { d with peer := { d.peer with takeover := some ⟨t.since, true⟩ } }
    else d

/-- TAKEOVER. -/
def execTakeover (keys : List MovedKey) (chunks : List ChunkEntry) (stripes : List JRecord) (blocks : List BlockRecord) (trained : Nat)
    (s : State) : Host.Outcome State Fault Refusal := next s (takeover keys chunks stripes blocks trained)

/-! ## The end (R444 steps 4 and 5, R445) -/

/-- Commands that were at the fenced peer: success for a write kept, interrupted for any other, again for those that change nothing. -/
def endForwarded (d : Device) : Device :=
  let out := d.nvme.cmds.filter fun c => c.fwdFrom.isNone && c.parent.isNone && ((c.phase == .forwarded && c.fwdTo.isSome) || !c.kids.isEmpty)
  out.foldl (fun d c =>
    let parts := d.nvme.cmds.filter fun x => x.parent == some c.id
    let d := parts.foldl (fun d x => removeCmd x d) d
    if c.q.port == 255 && c.q.qid == 0 then removeCmd c d
    else if !changesStore c.sqe then
      onCmd c.id (fun c => { c with fwdTo := none, kids := [], gathered := false, remoteKeys := [], phase := .waitOrder }) d
    else if c.tick.isSome then
      (match c.slot with
       | some _ =>
         let d := onCmd c.id (fun c => { c with fwdTo := none }) d
         secureSorted c.id (match c.named with
           | some m => sortErasure c.id m d
           | none => d)
       | none => doneCmd c.id .success 0 0 [] d)
    else failCmd c.id .interrupted 0 d) d

/-! ## The counts anew (R200) -/

/-- Chunk entries of living manifests that name a copy (R204). -/
def namedCount (dom : Nat) (fp : Bytes) (num : Nat) (d : Device) : Nat :=
  (d.kv.index.flatMap fun e => e.versions.map fun v =>
    match if v.tombstone then none else manifestOf v.mseq d with
    | some m => if m.domain == dom then (m.chunks.filter fun ch => ch.fp == fp && ch.copy == num).length else 0
    | none => 0).sum

/-- The count of a copy from the manifests that live here; of the claims outstanding only this device's own on entries that it had. -/
def recount (mine : Nat → Bytes → Nat → Bool) (d : Device) (c : Copy) : Copy :=
  let own := if mine c.domain c.fp c.num then c.claimants.filter (·.1) else []
  { c with claimants := own, settled := 0, handed := false
           refs := if c.pinned then refMax else namedCount c.domain c.fp c.num d + own.length }

/-- A claim of a write in progress on an entry that the fenced peer had is made again: it stands on a copy that is at hand, else its chunk is
claimed as if it were new. -/
def repeatClaim (mine : Nat → Bytes → Nat → Bool) (c : Cmd) (n : Nat) (i : Item) (k : Nat) (w : WorkChunk) (d : Device) : Device :=
  match w.copy with
  | none => if w.req.isSome then onChunk c.id n k unclaimed d else d
  | some num =>
    if mine i.domain w.fp num then d
    else if (copyOf i.domain w.fp num d).any fun x => !x.dead && (x.present || w.stored) then
      onChunk c.id n k (fun w => { w with claim := none }) <|
        onCopy i.domain w.fp num (fun x => { x with refs := if x.pinned then x.refs else x.refs + 1, claimants := x.claimants ++ [(true, c.id)] }) d
    else
      let d := { d with kv := { d.kv with manifests := d.kv.manifests.filter fun m => i.mseq == 0 || m.seq != i.mseq } }
      claimChunk c.id n k i.domain w.fp (onChunk c.id n k unclaimed (onItem c.id n (fun i => { i with mseq := 0 }) d))

/-- A copy that nothing names or claims is dead, or, still pending, gone; a pending one whose storer was the fenced peer is stored by its
oldest claimant here (R198). -/
def settleCount (before : Option (Bool × Nat)) (c : Copy) (d : Device) : Device :=
  if c.dead || c.pinned then d
  else if c.refs == 0 then (if c.present then killCopy c d else dropCopy c.domain c.fp c.num (hotRemove c.domain c.fp c.num d))
  else if !c.present && storerOf c != before then
    (match storerOf c with
     | some (_, cmd) => storeAgain c.domain c.fp c.num cmd (logEvent 0x0703 0x0042 0 (c.domain * 2 ^ 48 + c.num) d)
     | none => d)
  else recordCopy c d

/-- The counts of every entry are rebuilt, and the open claims repeated. `mine`: the entry was here. -/
def rebuildCounts (mine : Nat → Bytes → Nat → Bool) (d : Device) : Device :=
  let storers := d.kv.copies.map fun c => ((c.domain, c.fp, c.num), storerOf c)
  let before := fun c : Copy => ((storers.find? (·.1 == (c.domain, c.fp, c.num))).bind (·.2))
  let d := { d with kv := { d.kv with copies := d.kv.copies.map (recount mine d), unanswered := [] } }
  let d := d.nvme.cmds.foldl (fun d c => c.items.zipIdx.foldl (fun d i => i.1.chunks.zipIdx.foldl (fun d w =>
    repeatClaim mine c i.2 i.1 w.2 w.1 d) d) d) d
  d.kv.copies.foldl (fun d c => settleCount (before c) c d) d

/-- Step 4: home of every bucket, owner of every fingerprint, keeper of every stripe. -/
def becomeAll (d : Device) : Device :=
  let mine := fun dom fp num => entryHere dom fp num d
  let d := rebuildCounts mine { d with peer := { d.peer with
    takeover := none, takenOver := true, fpSplit := false, overrides := [], moves := [], reqs := [], returning := 0 }, nvme := { d.nvme with batches := [] } }
  sortHere (invalidateNone d)

/-- TAKEOVER_COMPLETE. -/
def takeoverComplete (d : Device) : Device :=
  match d.peer.takeover with
  | none => d
  | some t =>
    if !t.begun || !isReady d then d
    else
      let d := becomeAll d
      let span := (d.time.now - t.since) / Config.ticksPerMs
      let d := odBump 0x2D00 0x0A 1 (logEvent 0x0E05 0x0060 1 span (setCond 7 true d))
      settle (endForwarded (adoptSessions (refreshDirty (persist d))))

/-- TAKEOVER_COMPLETE. -/
def execTakeoverComplete (s : State) : Host.Outcome State Fault Refusal := next s takeoverComplete

/-! ## The fence pins (R434, R440, R441, R559, R618) -/

/-- FENCE_IN_N low: the pins float, and the device is in reset while the pin is low. -/
def fenceIn (d : Device) : Device :=
  let d := { d with peer := { d.peer with fenceInN := false } }
  if d.power.run == .unpowered || d.power.run == .reset then d else dropVolatile false true d

/-- FENCE_IN_ASSERT. -/
def execFenceInAssert (s : State) : Host.Outcome State Fault Refusal := next s fenceIn

/-- FENCE_IN_RELEASE: the straps are sampled, and the device starts as at the release of PORST_N. -/
def fenceRelease (straps : Nat) (d : Device) : Device :=
  if d.peer.fenceInN then d
  else
    let d := { d with peer := { d.peer with fenceInN := true }, fans := fansReleased d.time.now }
    if d.power.run != .reset || d.power.porst then d
    else leaveReset (joinCan false (sampleStraps straps (odPut 0x2200 1 1 d)))

/-- FENCE_IN_RELEASE. -/
def execFenceInRelease (straps : Nat) (s : State) : Host.Outcome State Fault Refusal := next s (fenceRelease straps)

end Sys2Proof.Machine
end

