-- ==== Sys2Proof/Machine/Ports.lean ====
section
/-! DEFINITION. Host ports: frames, flow control, RoCEv2 rates, partners and associations (R96 to R121, R142, R623). -/

namespace Sys2Proof.Machine

/-! ## A port and its settings (R116) -/

/-- The text of a string entry. -/
def textOf (n v : Nat) : Bytes := (leBytes n v).takeWhile (· != 0)

/-- OD 0x2300+p:11. -/
def subsystemNqn : Bytes :=
  let n := Config.serialNumber.toNat
  ascii "nqn.2031-01.com.phontikor:mbt9600:" ++ (List.range 8).map fun i =>
    let x := n / 16 ^ (7 - i) % 16
    BitVec.ofNat 8 (if x < 10 then 0x30 + x else 0x37 + x)

/-- The well-known NQN of a discovery controller. -/
def discoveryNqn : Bytes := ascii "nqn.2014-08.org.nvmexpress.discovery"

/-- The port that a session uses on this side: PORT on its running side, otherwise ALT_PORT (R485). -/
def sessionPort (n : Nat) (d : Device) : Nat :=
  let v := odVal 0x3320 (n + 1) d
  if b2n (bit v 15) == d.side then bits v 19 16 else bits v 23 20

/-- An open association or an active replication session keeps a port from being idle (R99). -/
def portIdle (p : Nat) (d : Device) : Bool :=
  portMode p d == 0 ||
    (!(d.ports.assocs.any (·.port == p)) &&
      !(d.snap.sessions.zipIdx.any fun x => 2 ≤ x.1.st && x.1.st ≤ 4 && sessionPort x.2 d == p))

/-- A frame that the port sends of itself. -/
def portSend (p : Nat) (f : PortFrame) (d : Device) : Device := sendOn p (.port p f) d

/-! ## Frames (R100 to R105) -/

/-- Bytes of a port's receive buffer. -/
def rxBuffer : Nat := 2 * 2 ^ 20

/-- The frame status word as the device completes it: RUNT and OVERSIZE by the length with the frame's own tag, FEC_UNCORR by its
codewords. -/
def frameStatus (p : Nat) (f : RxFrame) (d : Device) : Nat :=
  let tag := if f.vlan.isSome then 4 else 0
  let s := setBit (f.status % 64) 5 (f.uncorrected != 0)
  setBit (setBit s 3 (bit s 3 || f.length < 64)) 4 (bit s 4 || portOd p 0x0D d + 18 + tag < f.length)

/-- The capture record of a frame. -/
def captureRecord (status : Nat) (f : RxFrame) (d : Device) : CaptureRecord :=
  ⟨tick d, f.length % 65536, setBit status 6 (128 < f.length), padTo 128 (f.data.take 128)⟩

/-- Copy a bad frame into the ring: mode 1 overwrites the oldest record, mode 2 stops when the ring is full. -/
def capture (p status : Nat) (f : RxFrame) (d : Device) : Device :=
  let mode := portOd p 0x0E d
  let x := portOf p d
  if mode == 0 || (mode == 2 && 512 ≤ x.ring.length) then d
  else
    let r := captureRecord status f d
    let ring := if x.ring.length < 512 then x.ring ++ [r] else x.ring.set (x.captured % 512) r
    macBump p 0x15 1 (onPort p (fun x => { x with ring := ring, captured := x.captured + 1 }) d)

/-- A frame with a bad status: counted by kind, captured, discarded with everything placed from it. -/
def badFrame (p status : Nat) (f : RxFrame) (d : Device) : Device :=
  let d := if bit status 2 then macBump p 0x03 1 d else d
  let d := macBump p 0x05 f.uncorrected d
  let d := if bit status 3 then macBump p 0x06 1 d else d
  let d := if bit status 4 then macBump p 0x07 1 d else d
  capture p status f d

/-- Group addresses of IPv6 neighbour discovery and of PTP, over Ethernet, IPv4 and IPv6 (R100 names their use; PRESUMED, log 213). -/
def groupAddress (a : Bytes) : Bool :=
  (a.take 3 == [0x33, 0x33, 0xFF]) || [[0x33, 0x33, 0, 0, 0, 1], [0x33, 0x33, 0, 0, 1, 0x81], [0x33, 0x33, 0, 0, 0, 0x6B], [1, 0, 0x5E, 0, 1, 0x81],
    [1, 0, 0x5E, 0, 0, 0x6B], [1, 0x1B, 0x19, 0, 0, 0], [1, 0x80, 0xC2, 0, 0, 0x0E]].contains a

/-- The frame is for this port: its own, the broadcast or such a group address. -/
def addressedTo (p : Nat) (f : RxFrame) (d : Device) : Bool :=
  f.dst == leBytes 6 (portOd p 6 d) || f.dst == List.replicate 6 0xFF || groupAddress f.dst

/-- Untagged, or tagged with the port's VLAN while tagging is enabled. -/
def vlanOk (p : Nat) (f : RxFrame) (d : Device) : Bool :=
  f.vlan.all fun t => bit (portOd p 9 d) 12 && t % 4096 == portOd p 9 d % 4096

/-- The protocols of R100 that the port's settings admit. -/
def protocolOk (p : Nat) (f : RxFrame) (d : Device) : Bool :=
  addressedTo p f d && vlanOk p f d &&
    (if f.kind == 1 then bit (portOd p 5 d) 0 else if f.kind == 2 then bit (portOd p 5 d) 1 else f.kind == 3)

/-- A full buffer drops the frame; in mode 2 the priorities that PFC stops are not dropped. -/
def bufferDrops (p : Nat) (f : RxFrame) (d : Device) : Bool :=
  let prio := match f.vlan with
    | some t => bits t 15 13
    | none => 0
  rxBuffer < (portOf p d).rxFill + f.length && !(portOd p 0x0B d == 2 && bit (portOd p 0x0C d) prio)

/-- What the transport does with a frame besides its data: segments that it sends again, a NAK for a gap in a queue pair's sequence. -/
def transportWork (p : Nat) (f : RxFrame) (d : Device) : Device :=
  let d := macBump p 0x12 f.resend d
  match f.gap with
  | some qp => macBump p 0x13 1 (portSend p (.roceNak qp) d)
  | none => d

/-- A frame arrives: what becomes of it before its capsule is taken; `none` where it is discarded or dropped. A RoCEv2 packet out of
sequence is not taken either. -/
def frameTaken (p : Nat) (f : RxFrame) (d : Device) : Bool × Device :=
  if !hasLink p d then (false, d)
  else
    let d := macBump p 0x04 f.corrected d
    let status := frameStatus p f d
    if status != 0 then (false, badFrame p status f d)
    else if !protocolOk p f d then (false, macBump p 0x08 1 d)
    else if bufferDrops p f d then (false, macBump p 0x09 1 d)
    else (f.gap.isNone, transportWork p f (goodFrame p f.length d))

/-- The port's IPv4 and IPv6 address; zero while disabled. -/
def ipv4Of (p : Nat) (d : Device) : Nat := beNat ((leBytes 5 (portOd p 7 d)).take 4)
def ipv6Of (p : Nat) (d : Device) : Nat := beNat ((leBytes 17 (portOd p 8 d)).take 16)

/-- A request for one of the port's addresses is answered. -/
def arpRequest (p addr : Nat) (d : Device) : Device :=
  if !hasLink p d then d
  else
    let d := ownFrame p d
    if addr != 0 && ((addr == ipv4Of p d && portOd p 7 d != 0) || (addr == ipv6Of p d && portOd p 8 d != 0)) then
      portSend p (.arpReply addr) d
    else d

def execArpRequest (port addr : Nat) (s : State) : Host.Outcome State Fault Refusal := next s (arpRequest port addr)

/-- An echo request to the port's address, IPv6 or IPv4: at most 1,000 answers in a second. An address that is disabled answers none. -/
def icmpEcho (p : Nat) (v6 : Bool) (data : Bytes) (d : Device) : Device :=
  if !hasLink p d then d
  else if portOd p (if v6 then 8 else 7) d == 0 then macBump p 0x08 1 d
  else
    let d := if (portOf p d).echoWindow + sec 1 ≤ d.time.now || (portOf p d).echoCount == 0 then
               onPort p (fun x => { x with echoWindow := d.time.now, echoCount := 0 }) d else d
    if (portOf p d).echoCount < 1000 then
      portSend p (.echoReply data) (ownFrame p (onPort p (fun x => { x with echoCount := x.echoCount + 1 }) d))
    else macBump p 0x08 1 d

def execIcmpEcho (port : Nat) (data : Ping) (s : State) : Host.Outcome State Fault Refusal := next s (icmpEcho port data.v6 data.body)

/-- Packet too big for a TCP connection of the port: its segments take that path MTU from then on. Destination unreachable (`mtu` 0) is
recorded; TCP goes on sending (PRESUMED, log 213). -/
def icmpUnreachable (p conn mtu : Nat) (d : Device) : Device :=
  if hasLink p d then ownFrame p (onPort p (fun x => { x with tcpPath := tblPut x.tcpPath conn mtu }) d) else d

def execIcmpUnreachable (port conn mtu : Nat) (s : State) : Host.Outcome State Fault Refusal := next s (icmpUnreachable port conn mtu)

/-! ## Flow control (R105, R106) -/

/-- Ticks that pause quanta last at the port's speed: 512 bit times each. -/
def quantaTicks (p n : Nat) (d : Device) : Nat := n * 1024 * 2 ^ portOd p 2 d / 1000

/-- PAUSE with quanta 0xFFFF, to be renewed after half its time; PFC for the port's priorities. -/
def holdSender (p : Nat) (d : Device) : Device :=
  let d := onPort p (fun x => { x with pauseSent := true, pauseRenewAt := d.time.now + quantaTicks p 0xFFFF d / 2 }) d
  let f : PortFrame := if portOd p 0x0B d == 1 then .pause 0xFFFF else .pfc (portOd p 0x0C d) Config.pfcQuanta
  macBump p 0x0D 1 (portSend p f d)

def freeSender (p : Nat) (d : Device) : Device :=
  let d := onPort p (fun x => { x with pauseSent := false }) d
  let f : PortFrame := if portOd p 0x0B d == 1 then .pause 0 else .pfc (portOd p 0x0C d) 0
  macBump p 0x0D 1 (portSend p f d)

/-- The fill of the receive buffer crosses 75 % upwards or, after that, 50 % downwards. -/
def receiveBuffer (p fill : Nat) (d : Device) : Device :=
  let d := onPort p (fun x => { x with rxFill := min fill rxBuffer }) d
  if !hasLink p d || portOd p 0x0B d == 0 then d
  else if rxBuffer * 3 / 4 ≤ fill && !(portOf p d).pauseSent then holdSender p d
  else if fill ≤ rxBuffer / 2 && (portOf p d).pauseSent then freeSender p d
  else d

def execReceiveBufferThreshold (port fill : Nat) (s : State) : Host.Outcome State Fault Refusal := next s (receiveBuffer port fill)

/-- A sent PAUSE is renewed when half its time has passed. -/
def execPauseRenewal (port : Nat) (s : State) : Host.Outcome State Fault Refusal :=
  next s fun d =>
    if hasLink port d && (portOf port d).pauseSent && portOd port 0x0B d == 1 then
      holdSender port (waitUntil (portOf port d).pauseRenewAt d)
    else d

/-- A PAUSE or PFC frame, of 64 octets: always counted, honoured in its mode; quanta 0 let what waits go. -/
def pauseReceive (p : Nat) (pfc : Bool) (priorities quanta : Nat) (d : Device) : Device :=
  if !hasLink p d then d
  else
    let d := macBump p 0x0A 1 (goodFrame p 64 d)
    let hold := if quanta == 0 then none else some (d.time.now + quantaTicks p (quanta % 65536) d)
    if pfc && portOd p 0x0B d == 2 then
      let named := fun n => bit priorities n && bit (portOd p 0x0C d) n
      flushPort (onPort p (fun x => { x with pfcUntil := x.pfcUntil.mapIdx fun n t => if named n then hold else t }) d) p
    else if !pfc && portOd p 0x0B d == 1 then flushPort (onPort p (fun x => { x with pausedUntil := hold }) d) p
    else d

def execPauseReceive (port : Nat) (pfc : Bool) (priorities quanta : Nat) (s : State) : Host.Outcome State Fault Refusal :=
  next s (pauseReceive port pfc priorities quanta)

/-! ## RoCEv2 rates (R108, R114) -/

/-- 5 % of line rate, and line rate, in the unit of `QueuePair.rate`. -/
def rateStep : Nat := 2 ^ 40
def lineRate : Nat := 20 * rateStep

def qpOf (p qp : Nat) (d : Device) : Option QueuePair := d.ports.qps.find? fun x => x.port == p && x.qp == qp
def onQp (p qp : Nat) (f : QueuePair → QueuePair) (d : Device) : Device :=
  { d with ports := { d.ports with qps := d.ports.qps.map fun x => if x.port == p && x.qp == qp then f x else x } }

/-- A packet with CE set: a CNP at most every 50 µs for a queue pair. -/
def ecnCe (p qp : Nat) (d : Device) : Device :=
  if !hasLink p d then d
  else
    let d := macBump p 0x0F 1 (ownFrame p d)
    match qpOf p qp d with
    | none => d
    | some x =>
      if x.lastCnpSent.all fun t => t + us 50 ≤ d.time.now then
        macBump p 0x11 1 (portSend p (.cnp qp) (onQp p qp (fun x => { x with lastCnpSent := some d.time.now }) d))
      else d

def execEcnCeReceive (port qp : Nat) (s : State) : Host.Outcome State Fault Refusal := next s (ecnCe port qp)

/-- A CNP halves the queue pair's rate. -/
def execCnpReceive (port qp : Nat) (s : State) : Host.Outcome State Fault Refusal :=
  next s fun d => if hasLink port d then
    onQp port qp (fun x => { x with rate := x.rate / 2, lastCnpRecv := d.time.now }) (macBump port 0x10 1 (ownFrame port d)) else d

/-- After 55 µs without a CNP the rate rises by 5 % of line rate, up to line rate. -/
def execRateIncreaseTimer (port qp : Nat) (s : State) : Host.Outcome State Fault Refusal :=
  next s fun d => match qpOf port qp d with
    | none => d
    | some x =>
      if lineRate ≤ x.rate then d
      else
        let d := waitUntil (x.lastCnpRecv + us 55) d
        onQp port qp (fun x => { x with rate := min lineRate (x.rate + rateStep), lastCnpRecv := d.time.now }) d

/-- A RoCEv2 connection request: a queue pair at line rate; a port in replication mode rejects it. -/
def roceConnect (p qp : Nat) (d : Device) : Device :=
  if !hasLink p d then d
  else if portMode p d == 2 then portSend p .roceReject d
  else if !bit (portOd p 5 d) 1 then macBump p 0x08 1 d
  else
    let qps := ⟨p, qp, lineRate, none, d.time.now⟩ :: d.ports.qps.filter fun x => !(x.port == p && x.qp == qp)
    portSend p (.roceAccept qp) { d with ports := { d.ports with qps := qps } }

def execRoceConnectRequest (port qp : Nat) (s : State) : Host.Outcome State Fault Refusal := next s (roceConnect port qp)

/-- An ICReq: the digests as the host asks, HPDA 0, MAXH2CDATA 1 MiB; another format version or HPDA is refused. The connection keeps the
host's MAXR2T. -/
def icReq (p : Nat) (r : IcReq) (d : Device) : Device :=
  if !hasLink p d then d
  else if portMode p d == 2 then portSend p .tcpReset d
  else if !bit (portOd p 5 d) 0 then macBump p 0x08 1 d
  else if r.pfv != 0 || r.hpda != 0 then portSend p .icRefused d
  else portSend p (.icResp r.hdrDigest r.dataDigest 0 (2 ^ 20)) (onPort p (fun x => { x with maxR2t := tblStore 0 x.maxR2t r.conn r.maxR2t }) d)

def execIcreq (port : Nat) (r : IcReq) (s : State) : Host.Outcome State Fault Refusal := next s (icReq port r)

/-! ## Link (R96, R98, R99, R112) -/

/-- A port has trained some lanes; it reports link with the lanes of its speed. SDCLK is there. -/
def portUp (p lanes : Nat) (d : Device) : Device :=
  let d := powerPort p d
  if (portOf p d).lanes == 0 then d
  else setLink p (if lanes == (portOf p d).lanes then 2 else 1) { d with power := { d.power with sdclk := true } }

def execPortLinkUp (port lanes : Nat) (s : State) : Host.Outcome State Fault Refusal := next s (portUp port lanes)

/-- A port loses link: what was accepted runs on, completions that cannot be sent are lost; the frames that waited to be sent are cut,
and the sessions of replication on it pause (R480). -/
def portDown (p : Nat) (d : Device) : Device :=
  let x := portOf p d
  let d := setLink p 0 (onPort p (fun x => { x with
    pausedUntil := none, pfcUntil := List.replicate 8 none, txWait := [], pauseSent := false }) d)
  let d := powerPort p (macBump p 0x0E x.txWait.length d)
  let d := ((List.range 16).filter fun n => sessionPort n d == p).foldl (fun d n => remoteLoss n d) d
  if x.link == 2 then macBump p 0x14 1 d else d

/-- A port's mode or speed has changed (R96, R99). -/
def portChanged (p : Nat) (d : Device) : Device := trainPort p (portDown p d)

def execPortLinkDown (port : Nat) (s : State) : Host.Outcome State Fault Refusal := next s (portDown port)

/-- Every port goes down. -/
def portsDown (d : Device) : Device := (List.range 8).foldl (fun d p => portDown p d) d

/-! ## Associations (R109, R110, R112, R139, R623) -/

def onAssoc (p a : Nat) (f : Assoc → Assoc) (d : Device) : Device :=
  { d with ports := { d.ports with assocs := d.ports.assocs.map fun x => if x.port == p && x.assoc == a then f x else x } }

/-- Statuses of the NVMe over Fabrics specification for Connect. -/
def connectBusy : Status := ⟨1, 0x81, false⟩
def connectInvalidParameters : Status := ⟨1, 0x82, true⟩
def connectInvalidHost : Status := ⟨1, 0x84, true⟩

/-- The lowest controller ID that no open association uses. -/
def freeCntlid (d : Device) : Option Nat :=
  (List.range 0xFFEF).findSome? fun n => if d.ports.assocs.any (·.cntlid == n + 1) then none else some (n + 1)

/-- I/O queues of a partner, over all its associations. -/
def partnerQueues (p : Nat) (d : Device) : Nat := (d.nvme.queues.filter fun q => q.ref.port == p && q.ref.qid != 0).length

/-- A Connect of this subsystem NQN asks for a discovery controller. -/
def isDiscovery (r : ConnectReq) : Bool := r.subNqn == discoveryNqn && r.svc == 8009

/-- The first check of a Connect that fails, in the order of R110. DESIGN CHOICE (log 214): an I/O queue of an association that is absent or
of a discovery controller, or with an identifier above 64, is Connect Invalid Parameters, with the queue limits. -/
def connectCheck (r : ConnectReq) (d : Device) : Option Status :=
  let host := textOf 223 (portOd r.port 4 d)
  if host.isEmpty || r.hostNqn != host then some connectInvalidHost
  else if r.secure then some .invalidField
  else if r.subNqn != subsystemNqn && !isDiscovery r then some connectInvalidParameters
  else if r.qid == 0 && 4 ≤ (d.ports.assocs.filter (·.port == r.port)).length then some connectBusy
  else if r.qid == 0 then (if 32 < r.size then some connectInvalidParameters else none)
  else if 64 ≤ partnerQueues r.port d || 1024 < r.size || 64 < r.qid || (assocOf r.port r.assoc d).all (·.discovery) then
    some connectInvalidParameters
  else none

/-- The queue, or the association with its admin queue, that a Connect names is there already. DESIGN CHOICE (log 214): it completes with
Command Sequence Error, after every other check. -/
def connectRepeated (r : ConnectReq) (d : Device) : Bool :=
  if r.qid == 0 then (assocOf r.port r.assoc d).isSome else (queueOf ⟨r.port, r.assoc, r.qid⟩ d).isSome

/-- A new association of a partner: its features at 64 queues and no events enabled. -/
def newAssoc (r : ConnectReq) (cntlid : Nat) (d : Device) : Assoc :=
  { port := r.port, assoc := r.assoc, cntlid := cntlid, discovery := isDiscovery r, kato := r.kato, kaLast := d.time.now,
    numQueues := 63 * 65536 + 63, aec := 0, ams := 0, cc := 0, rdma := r.svc == 0, conn := r.conn, adminSize := r.size
    adminHead := 1 % max r.size 1, aers := [], events := [], masked := [] }

/-- A new queue: the Connect was its first command. -/
def newQueue (r : ConnectReq) : SubQueue :=
  { ref := ⟨r.port, r.assoc, r.qid⟩, conn := r.conn, size := r.size, head := 1 % max r.size 1, slots := [], ordHold := none, nextSeq := 0
    lockStalled := false }

def connectTag (r : ConnectReq) : CmdTag := ⟨r.cid, 0, false⟩

/-- A Connect. The answer carries the controller ID. -/
def connect (r : ConnectReq) (d : Device) : Device :=
  let q : QueueRef := ⟨r.port, r.assoc, r.qid⟩
  let refuse (st : Status) (d : Device) : Device := sendOn r.port (.completion q r.cid st 0 0 [] ⟨0, 0, false⟩) d
  if !hasLink r.port d || portMode r.port d == 0 then d
  else if portMode r.port d == 2 then portSend r.port (if r.svc == 0 then .roceReject else .tcpReset) d
  else if !bit (portOd r.port 5 d) (if r.svc == 0 then 1 else 0) ||
      (r.svc != 0 && r.svc != 8009 && r.svc != portOd r.port 0x10 d) then macBump r.port 0x08 1 d
  else match connectCheck r d with
    | some st => refuse st d
    | none =>
      if connectRepeated r d then refuse .sequenceError d
      else if r.qid == 0 then
        match freeCntlid d with
        | none => refuse connectBusy d
        | some n => complete q (connectTag r) .success n 0 []
            { d with ports := { d.ports with assocs := d.ports.assocs ++ [newAssoc r n d] } }
      else
        let n := ((assocOf r.port r.assoc d).map (·.cntlid)).getD 0
        complete q (connectTag r) .success n 0 [] { d with nvme := { d.nvme with queues := d.nvme.queues ++ [newQueue r] } }

def execConnect (r : ConnectReq) (s : State) : Host.Outcome State Fault Refusal := next s (connect r)

/-- The partner's last association has ended: its assembly, its session and its held delta go. -/
def partnerEnd (p : Nat) (d : Device) : Device :=
  let d := closeSession (.inband p) d
  { d with
    dict := { d.dict with assemblies := d.dict.assemblies.filter (·.acc != .inband p) }
    fw := { d.fw with delta := if d.fw.delta.any (·.partner == p) then none else d.fw.delta } }

/-- An association ends: its queues are deleted, and commands not yet fetched are discarded unexecuted. -/
def associationEnd (p a : Nat) (d : Device) : Device :=
  let gone := d.nvme.queues.filter fun q => q.ref.port == p && q.ref.assoc == a
  let d := gone.foldl (fun d q => dropReservation q.ref d) d
  let d := { d with
    nvme := { d.nvme with queues := d.nvme.queues.filter fun q => !(q.ref.port == p && q.ref.assoc == a) }
    ports := { d.ports with assocs := d.ports.assocs.filter fun x => !(x.port == p && x.assoc == a) } }
  if d.ports.assocs.any (·.port == p) then d else partnerEnd p d

/-- The keep-alive timer of an association runs out. -/
def keepAliveExpiry (p a : Nat) (d : Device) : Device :=
  match assocOf p a d with
  | none => d
  | some x => if x.kato == 0 then d else associationEnd p a (waitUntil (x.kaLast + ms x.kato) d)

def execKeepAliveExpiry (port assoc : Nat) (s : State) : Host.Outcome State Fault Refusal := next s (keepAliveExpiry port assoc)

/-! ## Admin commands reach a controller (R160) -/

/-- In-capsule data of a queue: 16 KiB, over NVMe/TCP 8 KiB on an admin queue (R113, R114). -/
def capsuleLimit (q : QueueRef) (d : Device) : Nat := if q.qid == 0 && !overRdma q d then 8192 else 16384

/-- The association once its admin queue has passed a command (R140). -/
def passed (x : Assoc) : Assoc := { x with adminHead := (x.adminHead + 1) % max x.adminSize 1 }

/-- The head pointer of an association's admin queue passes a command (R140). -/
def adminFetched (q : QueueRef) (d : Device) : Device := onAssoc q.port q.assoc passed d

/-- The device as an admin command finds it: fetched, its data asked for. -/
def adminServed (q : QueueRef) (c : Capsule) (d : Device) : Device := askData q c (adminFetched q d)

/-- An admin command on the admin queue of an open association of a port that has link: it is fetched, the head pointer passes it (R140,
R141), its data are asked for; more in-capsule data than R113 or R114 allows is refused. -/
def adminCmd (q : QueueRef) (c : Capsule) (f : Assoc → Device → Device) (d : Device) : Device :=
  if q.qid != 0 || !hasLink q.port d then d
  else match assocOf q.port q.assoc d with
    | none => d
    | some a =>
      if capsuleLimit q d < min c.icd c.data.length then completeSt q c.sqe.tag .invalidField (adminFetched q d) else f (passed a) (adminServed q c d)

/-- Keep Alive: the timer of the association starts again. -/
def keepAlive (q : QueueRef) (c : Capsule) (d : Device) : Device :=
  completeSt q c.sqe.tag .success (onAssoc q.port q.assoc (fun x => { x with kaLast := d.time.now }) d)

def execKeepAlive (q : QueueRef) (c : Capsule) (s : State) : Host.Outcome State Fault Refusal := next s (adminCmd q c fun _ => keepAlive q c)

/-- A Property Set: CC, whose AMS is 0 or 1; every other property is not writable here. -/
def propertySet (q : QueueRef) (c : Capsule) (d : Device) : Device :=
  let v := c.sqe.cdw12
  if c.sqe.cdw11 != 0x14 || 1 < bits v 13 11 then completeSt q c.sqe.tag .invalidField d
  else completeSt q c.sqe.tag .success (onAssoc q.port q.assoc (fun x => { x with cc := v, ams := bits v 13 11 }) d)

def execPropertySet (q : QueueRef) (c : Capsule) (s : State) : Host.Outcome State Fault Refusal :=
  next s (adminCmd q c fun _ => propertySet q c)

end Sys2Proof.Machine
end

