-- ==== Sys2Proof/Machine/Power.lean ====
section
/-! DEFINITION. Power: the power-fail flush, power states, dormancy, thermal shutdown, hold-up tests, resets, clocks and domain
faults (R45 to R49, R175, R541 to R563, R607 to R610, R618, R622). -/

namespace Sys2Proof.Machine

/-! ## Power fail (R46, R47, R49, R553) -/

/-- An entry to a low power state stops, and the device returns to its last operational state. -/
def abandonEntry (d : Device) : Device :=
  if d.power.entering.isNone then d
  else
    let down := (boundGroups d).any fun g => !domainOn g d
    let d := if down then { d with power := { d.power with entering := none } } else d
    refreshEff 0 (odPut 0x2220 1 d.power.operational { d with power := { d.power with apst := 0, wakeAfterEntry := false } })

/-- The power-fail commit group is armed in entry 1 at the next tick, and a flush is under way. -/
def beginFlush (d : Device) : Device :=
  if d.power.flushing.isSome then d
  else
    let n := d.map.flushNum + 1
    putEntry 1 (firmwareEntry 0x02 0x0040 0 (d.time.counter + 1) true) <| odBump 0x2A20 5 1
      { d with power := { d.power with flushing := some n }, map := { d.map with flushNum := n } }

/-- A hold-up test that runs ends in state 4 (R556). -/
def testFailed (d : Device) : Device :=
  logEvent 0x1205 0x0071 0 (2 ^ 32 + odVal 0x2240 2 d) (odPut 0x2240 0x0B (tick d) (odPut 0x2240 0x0A 4 d))

/-- PWR_FAIL_N asserted. While PORST_N is asserted and in PS_4 it is only reported; a start stops at its step. -/
def powerFail (d : Device) : Device :=
  if d.power.pwrFail || d.power.run == .unpowered then d
  else
    let d := { d with power := { d.power with pwrFail := true } }
    if d.power.frozenAt.isSome then { d with fw := { d.fw with copying := d.fw.dump.isSome } }
    else if !isReady d then d
    else
      let t := odVal 0x2240 0x0A d
      let d := if t == 1 || t == 2 then testFailed d else d
      beginFlush (abandonEntry d)

def execPwrFailNAssert (s : State) : Host.Outcome State Fault Refusal := next s powerFail

/-- Every write that has not met its acknowledgement condition, or has no commit tick, is discarded; one that is at the other peer as a
whole is that peer's. -/
def discardWrites (d : Device) : Device :=
  let out := d.nvme.cmds.filter fun c => changesStore c.sqe && c.parent.isNone && (c.phase != .forwarded || c.joint)
  out.foldl (fun d c => failCmd c.id .interrupted 0 d) d

/-- The flush is written: roster, dirty data, journal state. -/
def writeFlush (n : Nat) (d : Device) : Device :=
  let roster := (dirtyWrites d).map fun w => (w.1.ns, w.1.key, w.2.1.tick)
  let d := (flushRecords d).foldl (fun d r => flushWrite n r d) d
  { d with map := { d.map with flushes := d.map.flushes ++ [⟨n, false, false, roster⟩] } }

/-- POWER_FAIL_COMMIT launches at tick `t`: the last commit ticks, the discards, the flush. -/
def powerFailCommit (t : Nat) (d : Device) : Device :=
  match d.power.flushing with
  | none => d
  | some n =>
    if d.map.flushes.any (·.num == n) then d
    else writeFlush n (discardWrites (commitGroup t (bucketGroup t (givePowerFailTick t d))))

/-- Records of a flush. -/
def flushCount (n : Nat) (d : Device) : Nat := (d.map.flushItems.filter (·.flush == n)).length

/-! ## Thermal shutdown (R552) -/

/-- Everything switched goes off. -/
def shutDown (d : Device) : Device :=
  let d := odBump 0x2200 5 1 d
  let d := persist d
  let temp := odVal 0x2010 3 d
  let d := dropVolatile true true d
  let d := odPut 0x2200 1 3 { d with power := { d.power with run := .halted, hot := true } }
  sendEmcy 0x4200 0x1204 (logEvent 0x1204 0x0071 3 (temp % 65536) d)

/-- The junction has read 115 °C for 1 ms: a device that serves flushes first. -/
def thermalShutdown (temp : Int) (d : Device) : Device :=
  match d.power.run with
  | .unpowered | .reset | .halted => odPutInt 0x2010 3 2 temp d
  | .ready => beginFlush (abandonEntry (odPutInt 0x2010 3 2 temp { d with power := { d.power with hot := true } }))
  | _ => shutDown (odPutInt 0x2010 3 2 temp d)

def execThermalShutdown (temp : Int) (s : State) : Host.Outcome State Fault Refusal := next s (thermalShutdown temp)

/-- The flush ends with its marker. A shutdown follows, or, once power is back, service. -/
def flushEnd (d : Device) : Device :=
  match d.power.flushing with
  | none => d
  | some n =>
    if !(d.map.flushes.any fun f => f.num == n && !f.complete) then d
    else
      let d := flushWrite n (.complete (flushCount n d)) d
      let d := programFlush n ((d.map.flushItems.filter (·.flush == n)).map (·.body)) d
      let flushes := d.map.flushes.map fun f => if f.num == n then { f with complete := true } else f
      let d := { d with map := { d.map with flushes := flushes }, power := { d.power with flushing := none } }
      let d := ledgerClose d
      if d.power.hot then shutDown d else if d.power.pwrFail then d else settle d

def execPowerFailFlushEnd (s : State) : Host.Outcome State Fault Refusal := next s flushEnd

/-- PWR_FAIL_N deasserts: a start goes on; a running flush is completed first. -/
def powerBack (d : Device) : Device :=
  if !d.power.pwrFail then d
  else
    let d := { d with power := { d.power with pwrFail := false, flushCut := false } }
    if isReady d then (if d.power.flushing.isSome then d else settle d) else proceed d

def execPwrFailNDeassert (s : State) : Host.Outcome State Fault Refusal := next s powerBack

/-! ## HOLDUP_OK and the discharge test (R553, R555, R556) -/

/-- HOLDUP_OK counts after 100 ms high, and is gone at once. -/
def holdupChange (level : Bool) (d : Device) : Device :=
  if d.power.run == .unpowered || d.power.holdupOk == level then d
  else
    let d := if level then waitUntil (d.time.now + ms 100) d else d
    refreshDirty { d with power := { d.power with holdupOk := level, holdupOkSince := if level then some d.time.now else none } }

def execHoldupOkChange (level : Bool) (s : State) : Host.Outcome State Fault Refusal := next s (holdupChange level)

/-- A write to OD 0x2240:07 starts a test, or why it does not. -/
def holdupTest (d : Device) : OdRes :=
  let t := odVal 0x2240 0x0A d
  if odVal 0x2240 8 d == 0 || odVal 0x2240 9 d == 0 || !d.power.holdupOk || t == 1 || t == 2 || d.power.run == .dormant then
    .fail 0x08000022 d
  else .done (refreshDirty (odPut 0x2240 0x0A 1 d))

/-- Measured energy in 0.1 J: the load in mA for 10 ms, voltages in mV. -/
def testEnergy (i va vb vmin : Nat) : Nat := 5 * i * (va ^ 2 - vmin ^ 2) / ((va - vb) * 10 ^ 8)

/-- The dirty data has fallen below half the limit, and the load has been switched in: V_a and V_b in mV. -/
def testDischarge (va vb : Nat) (d : Device) : Device :=
  if odVal 0x2240 0x0A d != 1 || d.power.dirtyLimit < dirtyBytes d then d
  else
    let d := waitUntil (d.time.now + ms 11) d
    let vmin := odVal 0x2240 9 d
    if va < vb + 10 || vb < vmin then refreshDirty (testFailed d)
    else
      let e := testEnergy (odVal 0x2240 8 d) va vb vmin
      let d := odPut 0x2240 0x0B (tick d) (odPut 0x2240 0x0A 3 (odPut 0x2240 2 e d))
      refreshDirty (persist (logEvent 0x1205 0x0071 0 (e % 2 ^ 32) d))

def execHoldupTestDischarge (va vb : Nat) (s : State) : Host.Outcome State Fault Refusal := next s (testDischarge va vb)

/-! ## Power states (R546 to R551, R175) -/

/-- Operations that refuse an entry to PS_4. -/
def ps4Blocked (d : Device) : Bool :=
  d.admin.selfTest.isSome || d.admin.sanitize.isSome || d.admin.slots.any (·.state == 2)

/-- The entry to PS_4 begins. -/
def enterPs4 (d : Device) : Device := refreshEff 0 (odPut 0x2220 1 4 d)

/-- The device starts from PS_4. -/
def wake (d : Device) : Device := internalReset 5 (odPut 0x2220 1 0 d)

/-- A write of 4 to OD 0x2220:01: alone, or with the other peer, which gets the write in TABLE_SYNC. -/
def requestPs4 (acc : Accessor) (reply : ReplyTo) (d : Device) : OdRes :=
  if !isReady d || ps4Blocked d || d.power.entering == some 4 then .fail 0x08000022 d
  else if pairUp d then .held (syncWrite acc reply 0x2220 1 0 [4] d)
  else if d.peer.st == 5 && d.peer.takeover.isNone then .done (enterPs4 d)
  else .fail 0x08000022 d

/-- A write to OD 0x2220:01. A self-test keeps the device in an operational state (R172). -/
def powerRequest (acc : Accessor) (reply : ReplyTo) (v : Nat) (d : Device) : OdRes :=
  if d.power.run == .dormant then (if v == 0 then .done (wake d) else .fail 0x08000022 d)
  else if d.power.run == .halted then
    (if v == 0 && d.power.hot && !tooHot d then .done (internalReset 3 d) else .fail 0x08000022 d)
  else if v == 4 then requestPs4 acc reply d
  else if 2 ≤ v && d.admin.selfTest.isSome then .fail 0x08000022 d
  else if d.power.entering == some 4 then
    (if v == 0 then .done { d with power := { d.power with wakeAfterEntry := true } } else .fail 0x08000022 d)
  else
    let d := odPut 0x2220 1 v d
    .done (if isReady d then refreshEff 0 d else d)

/-- Nothing of the steps before the gating is left: every stripe durable, the checkpoint done, the cluster queues empty. -/
def quiet (d : Device) : Bool :=
  d.stripe.gathers.isEmpty && d.stripe.stripes.all (fun s => s.st != .closed && s.st != .issued) &&
    d.map.checkpoint.isNone && !d.map.checkpointAgain && d.eng.queues.all (·.isEmpty) &&
    d.eng.engines.all fun e => e.ctx.desc.isNone && e.parked.isNone

/-- The clusters, the search engine and the groups go off, or into standby. -/
def gateUnits (n : Nat) (d : Device) : Device :=
  if !((List.range 4).any fun c => domainOn (16 + c) d) && !d.cam.powered then d
  else
    let d := gateSearch ((List.range 4).foldl (fun d c => gateCluster c d) d)
    if n == 2 then (List.range 16).foldl (fun d g => if domainOn g d then setStandby g true d else d) d
    else placeGroupsDown d

/-- The end of an entry to PS_4 (R549): operations end, the counter goes to AO, the record is written, the peer is told. -/
def goDormant (d : Device) : Device :=
  let ended := (List.range 64).filter fun n => let s := (longSlot n d).state; 1 ≤ s && s ≤ 3
  let d := ended.foldl (fun d n => endSlot n 5 (onSlot n (fun s => { s with count := 0, results := [] }) d)) d
  let d := { d with media := { d.media with lastPowered := if d.time.established then minutes d else d.media.lastPowered } }
  let d := odBump 0x2220 3 1 (odPut 0x2100 0x10 d.time.counter (ledgerDays d))
  let record : DormancyRecord := ⟨d.time.counter, d.map.checkpointNum, d.stripe.pageSeq⟩
  let d := persist (sendHeartbeat 4 (sendHeartbeat 4 d))
  let woken := d.power.wakeAfterEntry
  let d := dropVolatile true true { d with power := { d.power with
    carried := some (d.time.counter, d.time.now), dormancy := some record, vddqLow := false, alarmInPs4 := false } }
  let d := odPut 0x2010 2 4 (odPut 0x2220 1 4 { d with power := { d.power with run := .dormant, eff := 4 } })
  if woken then wake d else d

/-- POWER_STATE_GATE. -/
def powerStateGate (d : Device) : Device :=
  match d.power.entering with
  | none => d
  | some n =>
    if !quiet d || powerFailing d then d
    else
      let d := gateUnits n d
      if n != 4 then { d with power := { d.power with entering := none } }
      else if (List.range 16).any fun g => domainOn g d then d
      else goDormant d

def execPowerStateGate (s : State) : Host.Outcome State Fault Refusal := next s powerStateGate

/-- APST: after ITPT of continuous idle in the present state, the state of ITPS. -/
def apstTransition (d : Device) : Device :=
  let e := odVal 0x2230 (2 + d.power.eff) d
  let itpt := bits e 31 8
  if !isReady d || odVal 0x2230 1 d == 0 || itpt == 0 || 4 ≤ d.power.eff || !deviceIdle d || powerFailing d then d
  else
    let d := waitUntil (d.power.idleSince + ms itpt) d
    refreshEff 1 { d with power := { d.power with apst := bits e 7 3, idleSince := d.time.now } }

def execApstTransition (s : State) : Host.Outcome State Fault Refusal := next s apstTransition

/-- EPOCH_IN has been high for 500 µs. -/
def execEpochInWake (s : State) : Host.Outcome State Fault Refusal :=
  next s fun d => if d.power.run == .dormant then wake (waitUntil (d.time.now + us 500) d) else d

/-- The AO monitors see VDDQ_DDR below its floor in PS_4. -/
def execVddqDdrBelowFloor (s : State) : Host.Outcome State Fault Refusal :=
  next s fun d => if d.power.run == .dormant then { d with power := { d.power with vddqLow := true } } else d

/-! ## Resets (R559, R607, R609, R610, R618) -/

/-- PORST_N asserted: every pin takes its reset state; a running flush stops. -/
def porstAssert (d : Device) : Device :=
  if d.power.run == .unpowered then d else dropVolatile false false { d with power := { d.power with porst := true } }

def execPorstNAssert (s : State) : Host.Outcome State Fault Refusal := next s porstAssert

/-- PORST_N released, also after power came back: persistent entries, straps, and the start once FENCE_IN_N is released and
REFCLK has run. -/
def porstRelease (straps : Nat) (d : Device) : Device :=
  if !d.power.porst then d
  else
    let up := d.power.run == .unpowered
    let d := { d with
      power := { d.power with porst := false, run := .reset }
      fans := fansReleased d.time.now
      admin := if up then { d.admin with powerCycles := d.admin.powerCycles + 1 } else d.admin }
    let d := odPut 0x2200 1 0 (sampleStraps straps (latchSizes (restorePersistent d)))
    if d.peer.fenceInN then leaveReset (joinCan true d) else d

def execPorstNRelease (straps : Nat) (s : State) : Host.Outcome State Fault Refusal := next s (porstRelease straps)

/-- CORE_PG is not high within 50 ms of CORE_EN: again after 1 s, three attempts in all. -/
def corePgTimeout (d : Device) : Device :=
  if d.power.run != .waitCore || !d.power.coreEn then d
  else
    let d := waitUntil (d.power.startedAt + ms (50 + 1050 * (d.power.coreTries - 1))) d
    if d.power.coreTries < 3 then
      coreEnable (waitUntil (d.time.now + sec 1) { d with power := { d.power with coreEn := false } })
    else
      sendEmcy 0xFF00 0x1501 { d with power := { d.power with run := .halted, coreEn := false, coreFailures := d.power.coreTries, coreTries := 0 } }

def execCorePgTimeout (s : State) : Host.Outcome State Fault Refusal := next s corePgTimeout

/-- CORE_PG falls while CORE_EN is high: a power loss, and a reset with cause 6. -/
def execCorePgLoss (s : State) : Host.Outcome State Fault Refusal :=
  next s fun d =>
    if d.power.coreEn && d.power.corePg then
      internalReset 6 { d with power := { d.power with unannounced := d.power.unannounced || !d.power.pwrFail } }
    else d

/-- Shelf power is lost, the AO rails included. -/
def shelfPowerLoss (d : Device) : Device :=
  if d.power.run == .unpowered then d
  else
    let unsafe_ := d.power.flushCut || (d.power.pwrFail && d.power.flushing.isSome)
    let unannounced := d.power.unannounced || !d.power.pwrFail
    let d := dropVolatile false false d
    { d with
      admin := { d.admin with events := [], eventSeq := 0, unsafeShutdowns := d.admin.unsafeShutdowns + b2n unsafe_ }
      time := { Reset.time with now := d.time.now, lastLocked := d.time.lastLocked }
      sec := { d.sec with latched := 0, sources := 0 }
      fw := { d.fw with dump := none }
      eng := { d.eng with sram := [] }
      power := { d.power with
        run := .unpowered, porst := true, carried := none, dormancy := none, vddqLow := false, alarmInPs4 := false, pwrFail := false
        holdupOk := false, holdupOkSince := none, hot := false, coreFailures := 0, overTemp := false, underTemp := false, flushCut := false
        unannounced := unannounced } }

def execShelfPowerLoss (s : State) : Host.Outcome State Fault Refusal := next s shelfPowerLoss

/-! ## Clocks (R558, R609) -/

/-- The root PLL loses lock: the clock-glitch alarm and a reset with cause 4. -/
def execRootPllLoss (s : State) : Host.Outcome State Fault Refusal :=
  next s fun d => if isUp d then internalReset 4 (alarmTrip 4 d) else d

/-- SDCLK is lost: the ports and the link go down, and nothing else. -/
def execSdclkLoss (s : State) : Host.Outcome State Fault Refusal :=
  next s fun d => linkDown (portsDown { d with power := { d.power with sdclk := false } })

/-- REFCLK stops: AO runs on from its oscillator, the carried counter is lost, the clock-glitch alarm trips. -/
def execRefclkStop (s : State) : Host.Outcome State Fault Refusal :=
  next s fun d =>
    if d.power.run == .unpowered then { d with power := { d.power with refclk := false } }
    else alarmTrip 4 { d with power := { d.power with refclk := false, carried := none } }

/-- REFCLK has run again for 100 µs. -/
def execRefclkRestart (s : State) : Host.Outcome State Fault Refusal :=
  next s fun d => if d.power.refclk then d
    else leaveReset { (waitUntil (d.time.now + us 100) d) with power := { d.power with refclk := true } }

/-! ## Domain faults (R543) -/

/-- What the fault of a domain brings about. -/
def domainOutcome (n : Nat) (d : Device) : Device :=
  if n < 16 then refreshDirty (failElement (groupAddr n) 4 d)
  else if n < 20 then stopCluster (n - 16) d
  else if n < 22 then { d with cam := { d.cam with powered := false } }
  else if n == 22 then portsDown d
  else if n == 23 then linkDown d
  else declareFatal 2 d

/-- A domain misses power-good or loses it. -/
def domainFault (n : Nat) (d : Device) : Device :=
  if 25 ≤ n || domainFaulty n d || !isUp d then d
  else
    let d := setStandby n false (setDomain n false (odPut 0x2210 2 (setBit (odVal 0x2210 2 d) n true) d))
    let d := raiseEmcy (0x120100 + n) 0xFF00 0x1201 (logEvent 0x1201 0x0071 2 n d)
    proceed (domainOutcome n d)

def execDomainFault (domain : Nat) (s : State) : Host.Outcome State Fault Refusal := next s (domainFault domain)

/-! ## Temperature thresholds (R79, R166) -/

/-- Compare the junction with OD 0x2010:0C and :0D, both in kelvin. -/
def refreshTemps (d : Device) : Device :=
  let t := odSigned 2 (odVal 0x2010 3 d) * 10 + 27315
  let high : Bool := (odVal 0x2010 0x0C d : Int) * 100 ≤ t
  let under : Bool := t < (odVal 0x2010 0x0D d : Int) * 100
  let was := d.power.overTemp
  let d := refreshWarning { d with power := { d.power with overTemp := high, underTemp := under } }
  if high && !was then raiseEmcy 0x0200C 0x4200 (Config.overTempEvent % 65536) d
  else if was && !high then clearEmcy 0x0200C (Config.overTempEvent % 65536) d else d

def execTemperatureThresholdCrossing (temp : Int) (s : State) : Host.Outcome State Fault Refusal :=
  next s fun d => if d.power.run == .unpowered then d else refreshTemps (odPutInt 0x2010 3 2 temp d)

end Sys2Proof.Machine
end

