-- ==== Sys2Proof/Machine/Fans.lean ====
section
/-! DEFINITION. The airflow drive: starts, speed control, lost rotors (R568 to R583). -/

namespace Sys2Proof.Machine

/-! ## Settings of a fan (R582) -/

def fanOf (n : Nat) (d : Device) : Fan := d.fans.getD n Fan.blank
def onFan (n : Nat) (f : Fan → Fan) (d : Device) : Device := { d with fans := modNth d.fans n f }
def fanConfig (n : Nat) (d : Device) : Nat := odVal 0x2E10 (n + 1) d
def ratedRpm (n : Nat) (d : Device) : Nat := bits (fanConfig n d) 127 112
def keNominal (n : Nat) (d : Device) : Nat := bits (fanConfig n d) 111 96
def alignDuty (n : Nat) (d : Device) : Nat := bits (fanConfig n d) 79 72
/-- RAMP_TIME in TIME cycles. -/
def rampTime (n : Nat) (d : Device) : Nat := ms (10 * bits (fanConfig n d) 71 64)
def currentLimit (n : Nat) (d : Device) : Nat := bits (fanConfig n d) 31 24
def maxAdvance (n : Nat) (d : Device) : Nat := bits (fanConfig n d) 15 11
def polePairs (n : Nat) (d : Device) : Nat := bits (fanConfig n d) 7 4
def isFitted (n : Nat) (d : Device) : Bool := bit (odVal 0x2E00 1 d) n
/-- A back-EMF in mV lies below the brake threshold: that of 2 % of RATED_RPM at KE_NOM. -/
def belowBrake (n bemf : Nat) (d : Device) : Bool := bemf * 100000 < 2 * ratedRpm n d * keNominal n d
/-- A speed is at or above the hand-over speed, 15 % of RATED_RPM. -/
def handOver (n rpm : Nat) (d : Device) : Bool := 15 * ratedRpm n d ≤ 100 * rpm
/-- The drive runs: the AO domain has power and PORST_N is released. -/
def driveRuns (n : Nat) (d : Device) : Bool := n < 6 && d.power.run != .unpowered && !d.power.porst

/-! ## The commanded floor (R574, R576) -/

/-- The floor now, within a ramp in progress. -/
def floorNow (n : Nat) (d : Device) : Nat :=
  match (fanOf n d).ramp with
  | none => odVal 0x2E30 (n + 1) d
  | some r =>
    let t := d.time.now - r.at_
    if r.dur ≤ t then r.target
    else ((r.start : Int) + ((r.target : Int) - (r.start : Int)) * (t : Int) / (r.dur : Int)).toNat

/-- FAN_RAMP on one fan. -/
def rampFan (n arg : Nat) (d : Device) : Device :=
  let r : FloorRamp := ⟨floorNow n d, bits arg 15 0, d.time.now, ms (bits arg 31 16)⟩
  onFan n (fun f => { f with ramp := some r }) (odPut 0x2E30 (n + 1) (bits arg 15 0) d)

/-- FAN_RAMP on a fan, or on every fitted fan. -/
def fanRamp (unit arg : Nat) (d : Device) : Device :=
  if unit == 0x008F then ((List.range 6).filter fun n => isFitted n d).foldl (fun d n => rampFan n arg d) d
  else rampFan (unit - 0x0080) arg d

/-- A write to OD 0x2E30 ends a ramp. -/
def fanFloorWrite (n rpm : Nat) (d : Device) : OdRes :=
  if ratedRpm n d < rpm then .fail 0x06090030 d
  else .done (onFan n (fun f => { f with ramp := none }) (odPut 0x2E30 (n + 1) rpm d))

/-! ## The setpoint (R574, R579) -/

/-- A temperature curve in rpm: the least speed up to `lo`, RATED_RPM from `hi` on, both in °C, linear between. -/
def curve (n : Nat) (temp : Int) (lo hi : Nat) (d : Device) : Nat :=
  let rated := ratedRpm n d
  let least := rated * odVal 0x2E00 7 d / 100
  if temp ≤ 10 * (lo : Int) then least
  else if 10 * (hi : Int) ≤ temp then rated
  else least + (rated - least) * (temp - 10 * (lo : Int)).toNat / (10 * (hi - lo))

/-- A fan that counts as lost. -/
def Fan.isLost (f : Fan) : Bool := f.lost || f.st == 8

/-- The setpoint of a running fan in rpm. -/
def setpoint (n : Nat) (d : Device) : Nat :=
  let rated := ratedRpm n d
  let junction := curve n (odSigned 2 (odVal 0x2010 3 d)) (odVal 0x2E00 3 d) (odVal 0x2E00 4 d) d
  let flash := curve n (odSigned 2 (odVal 0x2010 4 d)) (odVal 0x2E00 5 d) (odVal 0x2E00 6 d) d
  let base := max (max (floorNow n d) junction) (max flash (15 * rated / 100))
  let others := d.fans.zipIdx.any fun f => f.2 != n && f.1.isLost
  min rated (base + (if others then odVal 0x2E00 8 d * rated / 100 else 0))

/-! ## Changes of state (R571 to R573, R579) -/

/-- The forcing reason of R547 follows the lost fans. -/
def refreshFans (d : Device) : Device := if isReady d then refreshEff 2 d else d

def toState (n st : Nat) (d : Device) : Device := onFan n (fun f => { f with st := st, since := d.time.now }) d

/-- Drive one fixed sector at ALIGN_DUTY. -/
def align (n : Nat) (d : Device) : Device :=
  onFan n (fun f => { f with duty := 256 * alignDuty n d, advance := 0, integral := 0 }) (toState n 3 d)

/-- Short the windings; `after`: 0 align, 1 off, 2 align after 500 ms. -/
def brake (n after : Nat) (d : Device) : Device :=
  onFan n (fun f => { f with duty := 0, advance := 0, afterBrake := after }) (toState n 2 d)

/-- Closed loop at a measured speed with a preset duty. A lost fan is back, and an overcurrent is over. -/
def closeLoop (n rpm duty : Nat) (d : Device) : Device :=
  let f := fanOf n d
  let span := (d.time.now - f.lostAt) / Config.ticksPerMs
  let d := onFan n (fun f => { f with
    speed := rpm, reference := rpm * 1000, duty := duty, integral := duty * 100000, advance := 0, overcurrent := false, lost := false
    closedSince := d.time.now, keSince := none, keLogged := false, rampTries := 0, catchTries := 0, fullSince := none }) (toState n 5 d)
  refreshFans (if f.lost then logEvent 0x1306 (0x0080 + n) 0 (span % 2 ^ 32) d else d)

/-- The duty of a catch: the speed × KE_NOM over the bridge voltage, in 1/256 %. -/
def catchDuty (n rpm : Nat) (d : Device) : Nat := min 25600 (rpm * keNominal n d * 25600 / (1000 * Config.bridgeVoltage))

def catchFan (n rpm : Nat) (d : Device) : Device := closeLoop n rpm (catchDuty n rpm d) d

/-- Three catches have failed: the fan is lost. -/
def fanLost (n : Nat) (d : Device) : Device :=
  let f := fanOf n d
  let d := logEvent 0x1302 (0x0080 + n) 2 (b2n f.overcurrent * 65536 + f.speed % 65536) d
  refreshFans (brake n 2 (onFan n (fun f => { f with lost := true, lostAt := d.time.now, catchTries := 0 }) d))

/-- A catch has sensed for 20 ms. -/
def catchSensed (n : Nat) (forward : Bool) (rpm : Nat) (d : Device) : Device :=
  if forward && handOver n rpm d then catchFan n rpm d
  else if 2 ≤ (fanOf n d).catchTries then fanLost n d
  else onFan n (fun f => { f with catchTries := f.catchTries + 1 }) (toState n 7 d)

/-! ## Starting (R571 to R573, R580) -/

/-- A fitted fan that is off starts with sensing when its time has come. -/
def fanStart (n : Nat) (d : Device) : Device :=
  if !driveRuns n d || (fanOf n d).st != 0 then d
  else if !isFitted n d then toState n 9 d
  else toState n 1 (waitUntil (fanOf n d).nextStart d)

def execFanStart (fan : Nat) (s : State) : Host.Outcome State Fault Refusal := next s (fanStart fan)

/-- Sensing has ended: back-EMF in mV, direction and speed. -/
def fanSensed (n bemf : Nat) (forward : Bool) (rpm : Nat) (d : Device) : Device :=
  let st := (fanOf n d).st
  if !driveRuns n d || (st != 1 && st != 7) then d
  else
    let d := waitUntil ((fanOf n d).since + ms 20) d
    if st == 7 then catchSensed n forward rpm d
    else if belowBrake n bemf d then align n d
    else if forward && handOver n rpm d then catchFan n rpm d
    else brake n 0 d

def execFanSenseComplete (fan bemf : Nat) (forward : Bool) (rpm : Nat) (s : State) : Host.Outcome State Fault Refusal :=
  next s (fanSensed fan bemf forward rpm)

/-- A brake ends: below the threshold, or after 3 s with event 0x1301; a timed brake after 500 ms. -/
def brakeEnd (n bemf rpm : Nat) (d : Device) : Device :=
  let f := fanOf n d
  if !driveRuns n d || f.st != 2 then d
  else if f.afterBrake == 0 then
    (if belowBrake n bemf d then align n d
     else align n (logEvent 0x1301 (0x0080 + n) 1 (rpm % 65536) (waitUntil (f.since + sec 3) d)))
  else
    let d := waitUntil (f.since + ms 500) d
    if f.afterBrake == 2 then align n d
    else if isFitted n d then onFan n (fun f => { f with nextStart := d.time.now }) (toState n 0 d)
    else toState n 9 d

def execFanBrakeEnd (fan bemf rpm : Nat) (s : State) : Host.Outcome State Fault Refusal := next s (brakeEnd fan bemf rpm)

/-- Align ends after 200 ms, and the open-loop ramp begins. -/
def alignEnd (n : Nat) (d : Device) : Device :=
  if !driveRuns n d || (fanOf n d).st != 3 then d
  else
    let d := waitUntil ((fanOf n d).since + ms 200) d
    onFan n (fun f => { f with goodSectors := 0, periods := [], duty := min 25600 (Config.rampDuty (alignDuty n d) 0) }) (toState n 4 d)

def execFanAlignEnd (fan : Nat) (s : State) : Host.Outcome State Fault Refusal := next s (alignEnd fan)

/-- A ramp reaches the end of its hold without hand-over: again from align after 100 ms; after the third, failed. -/
def rampEnd (n : Nat) (d : Device) : Device :=
  if !driveRuns n d || (fanOf n d).st != 4 then d
  else
    let d := waitUntil ((fanOf n d).since + rampTime n d + ms 100) d
    if (fanOf n d).rampTries < 2 then
      align n (waitUntil (d.time.now + ms 100) (onFan n (fun f => { f with rampTries := f.rampTries + 1 }) d))
    else
      let d := onFan n (fun f => { f with rampTries := 0, duty := 0, nextStart := d.time.now + sec 60 }) (toState n 8 d)
      refreshFans (logEvent 0x1304 (0x0080 + n) 2 0 d)

def execFanRampEnd (fan : Nat) (s : State) : Host.Outcome State Fault Refusal := next s (rampEnd fan)

/-- A failed fan starts again every 60 s. -/
def execFanFailedRetry (fan : Nat) (s : State) : Host.Outcome State Fault Refusal :=
  next s fun d =>
    if !driveRuns fan d || (fanOf fan d).st != 8 then d
    else refreshFans (toState fan 1 (waitUntil (fanOf fan d).nextStart d))

/-! ## Running (R569, R573, R575, R577) -/

/-- Speed in rpm over six sectors, from their periods in TIME cycles. -/
def speedOf (n : Nat) (periods : List Nat) (d : Device) : Nat :=
  if polePairs n d * periods.sum == 0 then 0 else sec 60 / (polePairs n d * periods.sum)

/-- A zero crossing: the sector's period, and whether it lay within ±15° of the expected position. -/
def zeroCrossing (n : Nat) (good : Bool) (period : Nat) (d : Device) : Device :=
  let f := fanOf n d
  if !driveRuns n d || (f.st != 4 && f.st != 5) then d
  else
    let ps := f.periods ++ [period]
    let ps := ps.drop (ps.length - 6)
    let speed := if ps.length < 6 then f.speed else speedOf n ps d
    let d := onFan n (fun f => { f with
      periods := ps, speed := speed, sector := (f.sector + 1) % 6, lastCrossing := d.time.now
      goodSectors := if good then f.goodSectors + 1 else 0 }) d
    if f.st == 5 then d
    else
      let duty := min 25600 (Config.rampDuty (alignDuty n d) (min (d.time.now - f.since) (rampTime n d)))
      if 6 ≤ (fanOf n d).goodSectors && ps.length == 6 && handOver n speed d then closeLoop n speed duty d
      else onFan n (fun f => { f with duty := duty }) d

def execBemfZeroCrossing (fan : Nat) (good : Bool) (period : Nat) (s : State) : Host.Outcome State Fault Refusal :=
  next s (zeroCrossing fan good period)

/-- Sines of 0° to 30° in 10⁻⁹. -/
def sines : List Int := [0, 17452406, 34899497, 52335956, 69756474, 87155743, 104528463, 121869343, 139173101, 156434465, 173648178, 190808995, 207911691, 224951054, 241921896, 258819045,
  275637356, 292371705, 309016994, 325568154, 342020143, 358367950, 374606593, 390731128, 406736643, 422618262, 438371147, 453990500, 469471563, 484809620, 500000000]

/-- The reference moves toward the setpoint, by at most ACCEL × 1 ms. -/
def nextReference (ref target accel : Nat) : Nat := if ref ≤ target then min target (ref + accel) else max target (ref - accel)

/-- The advance after a run of the loop: forward by 1° once the duty has stood at 100 % for 10 ms below the reference, back by 1°
while the duty is below 95 %. -/
def nextAdvance (n : Nat) (f : Fan) (full : Option Nat) (duty : Nat) (d : Device) : Nat :=
  match full with
  | some t => if t + ms 10 ≤ d.time.now then min (maxAdvance n d) (f.advance + 1) else f.advance
  | none => if duty * 100 < 95 * 25600 then f.advance - 1 else f.advance

/-- One run of the speed loop; `current`: the sample at the sector centre in mA. -/
def speedLoop (n current : Nat) (d : Device) : Device :=
  if !driveRuns n d || (fanOf n d).st != 5 then d
  else
    let d := waitUntil ((fanOf n d).since + ms 1) d
    let f := fanOf n d
    let c := fanConfig n d
    let ref := nextReference f.reference (1000 * setpoint n d) (bits c 95 80)
    let err : Int := (ref / 1000 : Nat) - (f.speed : Int)
    let sum := f.integral + bits c 47 32 * err
    let raw : Int := bits c 63 48 * err / 100 + sum / 100000
    let duty := (max 0 (min 25600 raw)).toNat
    let integral := if raw < 0 || 25600 < raw then f.integral else sum
    let full := if duty == 25600 && (f.speed : Int) < (ref / 1000 : Nat) then some (f.fullSince.getD d.time.now) else none
    let adv := nextAdvance n f full duty d
    let id : Int := -(current * sines.getD adv 0) / 10 ^ 9
    onFan n (fun f => { f with
      since := d.time.now, reference := ref, duty := duty, integral := integral, fullSince := full, advance := adv, idCurrent := id }) d

def execFanSpeedLoop (fan current : Nat) (s : State) : Host.Outcome State Fault Refusal := next s (speedLoop fan current)

/-- Deviation of the back-EMF constant from KE_NOM, in %. -/
def keDeviation (n ke : Nat) (d : Device) : Int :=
  let nom : Int := keNominal n d
  if nom == 0 then 0 else ((ke : Int) - nom) * 100 / nom

/-- The back-EMF constant is measured 1 s into closed loop, near the reference and without advance. -/
def keMeasure (n ke : Nat) (d : Device) : Device :=
  let f := fanOf n d
  let near := (f.speed * 1000 - f.reference) + (f.reference - f.speed * 1000)
  if !driveRuns n d || f.st != 5 || f.advance != 0 || f.reference * 2 < near * 100 then d
  else
    let d := waitUntil (f.closedSince + sec 1) d
    let off := (ke - keNominal n d) + (keNominal n d - ke)
    let d := onFan n (fun f => { f with keDev := max (-128) (min 127 (keDeviation n ke d)) }) d
    if off * 100 ≤ 25 * keNominal n d then
      onFan n (fun f => { f with keSince := none, keFault := f.keFault && f.keLogged }) d
    else
      let t := f.keSince.getD d.time.now
      let d := onFan n (fun f => { f with keSince := some t }) d
      if d.time.now < t + sec 10 then d
      else
        let d := onFan n (fun f => { f with keFault := true, keLogged := true }) d
        if f.keLogged then d else logEvent 0x1303 (0x0080 + n) 1 (toUnsigned 1 (fanOf n d).keDev) d

def execFanKeMeasure (fan ke : Nat) (s : State) : Host.Outcome State Fault Refusal := next s (keMeasure fan ke)

/-! ## Losing the rotor (R570, R579) -/

/-- More than half the periods of 100 ms were cut: the loss sequence from its second step. -/
def fanOvercurrent (n : Nat) (d : Device) : Device :=
  let st := (fanOf n d).st
  if !driveRuns n d || !(st == 3 || st == 4 || st == 5) then d
  else
    let d := logEvent 0x1305 (0x0080 + n) 2 (currentLimit n d) d
    onFan n (fun f => { f with overcurrent := true, duty := 0, advance := 0, catchTries := 0 }) (toState n 7 d)

def execFanOvercurrent (fan : Nat) (s : State) : Host.Outcome State Fault Refusal := next s (fanOvercurrent fan)

/-- The rotor is lost: all outputs go off, and the fan coasts. -/
def rotorLost (n : Nat) (d : Device) : Device :=
  if !driveRuns n d || (fanOf n d).st != 5 then d
  else onFan n (fun f => { f with duty := 0, advance := 0, catchTries := 0 }) (toState n 6 d)

def execRotorLost (fan : Nat) (s : State) : Host.Outcome State Fault Refusal := next s (rotorLost fan)

/-- The coast ends after 40 ms, and the first catch senses for 20 ms. -/
def coastEnd (n : Nat) (forward : Bool) (rpm : Nat) (d : Device) : Device :=
  if !driveRuns n d || (fanOf n d).st != 6 then d
  else catchSensed n forward rpm (waitUntil ((fanOf n d).since + ms 60) d)

def execFanCoastEnd (fan : Nat) (forward : Bool) (rpm : Nat) (s : State) : Host.Outcome State Fault Refusal :=
  next s (coastEnd fan forward rpm)

/-! ## Fans fitted (R580) -/

/-- A write to OD 0x2E00:01: a cleared fan brakes for 500 ms and is then off; a newly fitted one starts. -/
def fansFitted (v : Nat) (d : Device) : Device :=
  let d := odPut 0x2E00 1 (v % 64) d
  refreshFans ((List.range 6).foldl (fun d n =>
    let st := (fanOf n d).st
    if bit v n then (if st == 9 then onFan n (fun f => { f with nextStart := d.time.now }) (toState n 0 d) else d)
    else if st == 9 then d
    else onFan n (fun f => { f with lost := false, overcurrent := false }) (brake n 1 d)) d)

/-! ## The status record (R582) -/

/-- OD 0x2E20:(n+1). -/
def fanStatus (n : Nat) (d : Device) : Nat :=
  let f := fanOf n d
  (f.speed % 65536) * 2 ^ 48 + toUnsigned 2 f.idCurrent * 2 ^ 32 + f.advance % 256 * 2 ^ 24 + f.duty / 256 % 256 * 2 ^ 16 +
    toUnsigned 1 f.keDev * 2 ^ 8 + f.st % 16 * 16 + b2n f.keFault * 8 + b2n f.overcurrent * 4 + b2n f.lost * 2

/-- A bit for each fan of which `p` holds. -/
def fanBits (p : Fan → Bool) (d : Device) : Nat := (d.fans.zipIdx.map fun f => if p f.1 then 2 ^ f.2 else 0).sum

end Sys2Proof.Machine
end

