-- ==== Sys2Proof/Machine/Dump.lean ====
section
/-! DEFINITION. The event ring as bytes, the dump of a fatal error and its copy in flash (R167, R594 to R598). -/

namespace Sys2Proof.Machine

/-! ## The event ring (R167) -/

/-- The 32 bytes of an event record. -/
def eventBytes (e : Event) : Bytes :=
  leBytes 8 e.tick ++ leBytes 8 e.seq ++ leBytes 2 e.code ++ leBytes 2 e.unit ++ leBytes 1 e.severity ++ [0, 0, 0] ++ leBytes 8 e.detail

/-- The ring behind its 16-byte header: the record of sequence s lies at 16 + 32 × (s mod 4,096). -/
def eventRing (d : Device) : Bytes :=
  leBytes 8 d.admin.eventSeq ++ leBytes 4 4096 ++ leBytes 4 0 ++ (List.range 4096).flatMap fun i =>
    match d.admin.events.find? fun e => e.seq % 4096 == i with
    | some e => eventBytes e
    | none => leBytes 32 0

/-! ## Sections of a dump (R597) -/

/-- A section: unit, type, whether it was cut, contents. -/
structure DumpSection where
  unit : Nat
  typ : Nat
  cut : Bool
  bytes : Bytes
  deriving DecidableEq, Repr

/-- A section whose contents the manual names without a layout: free bytes of its size. -/
def freeSection (typ size seq unit : Nat) : DumpSection :=
  ⟨unit, typ, false, padTo size ((Config.dumpContents typ unit seq).take size)⟩

/-- Contents of an engine's section have no layout either; the departure board and the event ring have. -/
def boardSection (d : Device) : DumpSection := ⟨0x0051, 2, false, (List.range 4096).flatMap fun n => boardBytes (boardEntry n d)⟩
def ringSection (d : Device) : DumpSection := ⟨0, 3, false, eventRing d⟩

/-- The newest 64 journal pages, as the first copy holds them (R292). -/
def journalSection (d : Device) : DumpSection :=
  let ps := d.stripe.pages
  ⟨0x0040, 6, false, padTo 1048576 ((ps.drop (ps.length - 64)).flatMap fun p => pageBytes 0 d.side p d)⟩

/-- The firmware trace buffer, up to 32 MiB. -/
def traceSection (seq : Nat) : DumpSection :=
  let t := Config.dumpContents 11 0 seq
  ⟨0, 11, 2 ^ 25 < t.length, t.take (2 ^ 25)⟩

/-- The sections of a dump, by type and then by unit; a reduced one holds three types. -/
def dumpSections (reduced : Bool) (seq : Nat) (d : Device) : List DumpSection :=
  let context := (List.range 4).map fun n => freeSection 1 65536 seq (n + 1)
  let status := freeSection 5 64 seq 0
  if reduced then context ++ [ringSection d, status]
  else context ++ [boardSection d, ringSection d] ++ ((List.range 64).map fun n => freeSection 4 512 seq (0x0200 + n)) ++
    [status, journalSection d, freeSection 7 4096 seq 0x0060] ++
    ((List.range 8).map fun p => freeSection 8 4096 seq (0x0100 + p)) ++
    ((List.range 128).map fun c => freeSection 9 256 seq (0x0300 + c)) ++ [freeSection 10 1048576 seq 0x0011, traceSection seq]

/-! ## The dump (R597) -/

/-- Round up to a multiple of 8. -/
def align8 (n : Nat) : Nat := (n + 7) / 8 * 8

/-- The section table, from the offset of the first section on. -/
def sectionTable : Nat → List DumpSection → Bytes
  | _, [] => []
  | o, s :: rest =>
    leBytes 2 s.unit ++ leBytes 2 s.typ ++ leBytes 4 (1 + 2 * b2n s.cut) ++ leBytes 8 o ++ leBytes 8 s.bytes.length ++
      leBytes 4 (crc32 s.bytes) ++ leBytes 4 0 ++ sectionTable (o + align8 s.bytes.length) rest

/-- What follows the header: the section table and the sections, each from a multiple of 8. -/
def dumpBody (ss : List DumpSection) : Bytes :=
  sectionTable (128 + 32 * ss.length) ss ++ ss.flatMap fun s => padTo (align8 s.bytes.length) s.bytes

/-- Revision of the booted image (OD 0x2F00:04). -/
def bootedRevision (d : Device) : Nat := imageRevision (slotImage d.fw.booted d).image

/-- Header and body of a dump taken at `tick` for a cause. -/
def dumpBytes (reduced : Bool) (seq tick cause : Nat) (d : Device) : Bytes :=
  let ss := dumpSections reduced seq d
  let body := dumpBody ss
  let h := leBytes 4 0x5044424D ++ leBytes 2 1 ++ leBytes 1 d.side ++ leBytes 1 (b2n reduced) ++ leBytes 4 (odVal 0x1018 2 d) ++
    leBytes 4 Config.serialNumber.toNat ++ leBytes 8 seq ++ leBytes 8 tick ++ leBytes 2 cause ++ leBytes 2 ss.length ++
    leBytes 4 (bootedRevision d) ++ leBytes 8 (128 + body.length) ++ sha384 body ++ leBytes 28 0
  h ++ leBytes 4 (crc32 h) ++ body

/-- Step 4: the dump is written into its region, over one not yet copied (R594, R595). -/
def takeDump (cause : Nat) (d : Device) : Device :=
  let seq := d.fw.dumpSeq + 1
  let reduced : Bool := cause == 2 || cause == 3
  let x : Dump := ⟨seq, cause, d.time.counter, reduced, dumpBytes reduced seq d.time.counter cause d⟩
  persist (odBump 0x3000 2 1 { d with fw := { d.fw with dump := some x, dumpSeq := seq, copying := false } })

/-! ## FREEZE (R594) -/

/-- Every unit latches its state at the tick: the board stops, engines halt, operations end, the pins and the transmitters are quiet. -/
def halt (d : Device) : Device :=
  { d with
    board := { d.board with frozen := true }
    eng := { d.eng with engines := d.eng.engines.map fun e => { e with st := 4 } }
    media := { d.media with ops := [] }
    peer := { d.peer with aliveOut := false, link := 0, helloSeen := false, helloDone := false, unacked := [], waiting := [] }
    power := { d.power with run := .halted, frozenAt := some d.time.now } }

/-- FREEZE with its cause: event 0x1405, EMCY 0xFF00, the dump; for cause 0x0007 the reset that follows. -/
def freeze (cause : Nat) (d : Device) : Device :=
  let x := takeDump cause d
  let d := logEvent 0x1405 0x0073 3 cause (halt x)
  let d := sendEmcy 0xFF00 0x1405 d
  if cause == 7 then internalReset 2 d else d

/-! ## The flash copy (R595, R596) -/

/-- DUMP_COPY: the copy of the surviving dump has ended; the flash area holds the newest and the previous one. -/
def dumpCopy (d : Device) : Device :=
  match d.fw.dump with
  | none => d
  | some x =>
    if !d.fw.copying then d
    else { d with fw := { d.fw with dump := none, copying := false, flashDumps := (x :: d.fw.flashDumps).take 2 } }

/-- DUMP_COPY. -/
def execDumpCopy (s : State) : Host.Outcome State Fault Refusal := next s dumpCopy

/-- FATAL_ERROR: firmware declares a fatal error. -/
def execFatalError (cause : Nat) (s : State) : Host.Outcome State Fault Refusal :=
  next s fun d => if isUp d then declareFatal (cause % 65536) d else d

/-- CONTROL_PROCESSOR_WATCHDOG: cause 0x0007. -/
def execControlProcessorWatchdog (s : State) : Host.Outcome State Fault Refusal :=
  next s fun d => if isUp d then declareFatal 7 d else d

end Sys2Proof.Machine
end

