-- ==== Sys2Proof/Machine/Launch.lean ====
section
/-! DEFINITION. Launches of the departure board: which entries launch at a tick, the order in which they take effect, what each
action does and the reports of paired launches (R187, R367, R412 to R424, R542,
R594). -/

namespace Sys2Proof.Machine

/-! ## Group power (R367, R542) -/

/-- The blocks of a target, free and in the native mode. -/
def targetBlocks (p : Bytes) (c t : Nat) : List Block :=
  (List.range (pfLuns p)).flatMap fun l => (List.range (pfBlocks p)).map fun b =>
    ⟨c, t, l, b, 0, 0, 0, 0, 0, 0, 0, 0, false, 0, [], false, 0, 0, false, 0⟩

/-- The factory markers are read once: the target's blocks enter the table, and the marked ones are retired. -/
def readMarkers (p : Bytes) (r : ProbeResult) (d : Device) : Device :=
  if d.media.markers.contains (r.channel, r.target) then d
  else
    let fresh := (targetBlocks p r.channel r.target).filter fun b => (blockOf b.desc d).isNone
    let d := { d with
      map := { d.map with blocks := d.map.blocks ++ fresh }
      media := { d.media with markers := d.media.markers ++ [(r.channel, r.target)] } }
    r.markers.foldl (fun d m => retireBlock ⟨r.channel, r.target, m.1, m.2, 0⟩ 0 d) d

/-- What READ ID found on a target: used, not fitted, or a mismatch. -/
def probeTarget (p : Bytes) (d : Device) (r : ProbeResult) : Device :=
  if r.ident.isEmpty then d
  else if leNat r.ident &&& pfIdMask p != pfId p &&& pfIdMask p then
    logEvent 0x0C02 (0x0300 + r.channel) 1 (r.channel * 256 + r.target) d
  else readMarkers p r { d with media := { d.media with targets := d.media.targets ++ [⟨r.channel, r.target⟩] } }

/-- A channel that this device owns has been probed: its rate, or a training failure. -/
def trainGroup (p : Bytes) (c : Nat) (probe : List ProbeResult) (d : Device) : Device :=
  let found := (d.media.targets.filter (·.channel == c)).length
  if found == 0 then d
  else if probe.any fun r => r.channel == c && !r.trained then failElement (channelAddr c) 4 d
  else { d with media := { d.media with rates := tblPut d.media.rates c (trainedRate p found) } }

/-- The targets of a group that has powered up are identified and trained; the group is ready. -/
def probeGroup (g : Nat) (probe : List ProbeResult) (d : Device) : Device :=
  match profileOf g d with
  | none => d
  | some p =>
    if !d.media.probing.contains g then d
    else
      let mine := probe.filter fun r => r.channel / 8 == g && r.target < 8 && ownsChannel r.channel d
      let owned := ((List.range 8).map (8 * g + ·)).filter fun c => ownsChannel c d
      let d := { d with media := { d.media with
        targets := d.media.targets.filter fun t => !owned.contains t.channel
        probing := d.media.probing.filter (· != g) } }
      let d := mine.foldl (probeTarget p) d
      let d := owned.foldl (fun d c => trainGroup p c mine d) d
      proceed (settle (refreshDirty d))

/-- GROUP_POWER_UP: the domain switches on, and READ ID awaits. -/
def groupUp (g : Nat) (d : Device) : Device :=
  if domainOn g d || (profileOf g d).isNone then d
  else
    let d := setDomain g true d
    if domainOn g d then { d with media := { d.media with probing := d.media.probing ++ [g] } } else d

/-- GROUP_POWER_DOWN. -/
def groupDown (g : Nat) (d : Device) : Device :=
  let d := setStandby g false (setDomain g false d)
  refreshDirty { d with media := { d.media with probing := d.media.probing.filter (· != g) } }

/-! ## Actions of this chapter and of others -/

/-- TOLL_WINDOW: a scale on the group's share, or its end. -/
def tollWindow (g arg : Nat) (d : Device) : Device :=
  { d with media := { d.media with
      scales := if bit arg 8 then tblDel d.media.scales g else tblStore 256 d.media.scales g (arg % 256) } }

/-- Values that are being chunked keep the table with which they started: their chunks are cut now. -/
def chunkRunning (d : Device) : Device :=
  d.nvme.cmds.foldl (fun d c =>
    if c.phase != .reducing && c.phase != .waitClaims then d
    else c.items.zipIdx.foldl (fun d x =>
      if x.1.isDelete || x.1.reduced || (engineOfTag (workTag c.id x.2 0) d).isNone then d
      else
        let left := cutValue (x.1.value.drop (x.1.chunks.map fun w => w.data.length).sum) d
        left.foldl (fun d v => addChunk c.id x.2 v d) d) d) d

/-- GEAR_ACTIVATE: the staged table becomes the active one. -/
def gearActivate (d : Device) : Device :=
  let staged := (List.range 256).map fun b => odSel 0x2610 2 (256 + b) d
  let d := staged.zipIdx.foldl (fun d x => odPutSel 0x2610 2 x.2 x.1 d) (chunkRunning d)
  let d := bumpVersion 0x2610 (odBump 0x2600 6 1 d)
  logEvent 0x0702 0x0042 0 (odVal 0x2600 6 d) (persist d)

/-- TIME_STEP: the counter steps forward. -/
def timeStep (arg : Nat) (d : Device) : Device := { d with time := { d.time with counter := d.time.counter + arg } }

/-- The effect of an entry's action; `t`: the nominal tick. -/
def applyAction (n : Nat) (e : BoardEntry) (t : Nat) (d : Device) : Device :=
  match e.action with
  | 0x01 => commitGroup t (bucketGroup t d)
  | 0x02 => powerFailCommit t d
  | 0x03 => cutSnapshot (e.arg % 4096) d
  | 0x04 => launchHandover n e t d
  | 0x05 => launchMove (e.arg % 4096) (b2n (bit e.arg 16)) d
  | 0x06 => freeze (e.arg % 65536) d
  | 0x07 => timeStep e.arg d
  | 0x08 => groupUp (e.unit % 16) d
  | 0x09 => groupDown (e.unit % 16) d
  | 0x0A => tollWindow (e.unit % 16) e.arg d
  | 0x0B => fanRamp e.unit e.arg d
  | 0x0C => gearActivate d
  | 0x0D => applyPolicyGroup e.arg d
  | 0x0E => slotRetire (e.arg % 4096) d
  | 0x0F => tenantErase (e.arg % 65536) d
  | 0x10 => logEvent 0x0D06 e.unit 0 e.arg d
  | _ => d

/-- Class of an action among those of one tick (R418). -/
def actionClass : Nat → Nat
  | 0x06 => 1
  | 0x02 => 2
  | 0x01 => 2
  | 0x03 => 3
  | 0x0F => 4
  | 0x0E => 4
  | 0x0D => 4
  | 0x07 => 5
  | 0x05 => 6
  | 0x0C => 6
  | 0x04 => 7
  | _ => 8

/-! ## Which entries launch (R416, R417) -/

/-- Entries in their launch order: URGENT first, the earlier nominal tick, the lower index. -/
def launchesBefore (a b : Nat × BoardEntry) : Bool :=
  if a.2.urgent != b.2.urgent then a.2.urgent
  else if a.2.launch != b.2.launch then a.2.launch < b.2.launch
  else a.1 < b.1

/-- Put an entry in its place among those in launch order. -/
def insertLaunch (x : Nat × BoardEntry) : List (Nat × BoardEntry) → List (Nat × BoardEntry)
  | [] => [x]
  | y :: ys => if launchesBefore x y then x :: y :: ys else y :: insertLaunch x ys

/-- The armed entries that are due, in launch order. -/
def dueEntries (d : Device) : List (Nat × BoardEntry) :=
  (d.board.entries.filter fun x => x.2.state == 1 && x.2.launch ≤ d.time.counter).foldr insertLaunch []

/-- The nominal tick that a launch carries: of a periodic entry the newest that has passed. -/
def nominalTick (e : BoardEntry) (now : Nat) : Nat :=
  if e.period == 0 then e.launch else e.launch + (now - e.launch) / e.period * e.period

/-- The period in force at the next launch: of COMMIT_GROUP OD 0x2C00:01 from its hand-over tick on (R423). -/
def nextPeriod (e : BoardEntry) (t : Nat) (d : Device) : Nat :=
  if e.action == 1 && d.board.periodFrom ≤ t then odVal 0x2C00 1 d else e.period

/-- The entry after its launch at the counter, `t` its nominal tick (R413, R416). -/
def launchedEntry (e : BoardEntry) (t : Nat) (d : Device) : BoardEntry :=
  let late := d.time.counter - e.launch
  let p := nextPeriod e t d
  { e with
    lateness := min late 65535, late := late != 0
    lateLaunches := if late == 0 then e.lateLaunches else min (e.lateLaunches + 1) 65535
    launches := min (e.launches + 1) 16777215
    period := p, state := if e.period == 0 then 2 else 1
    launch := if e.period == 0 then e.launch else if e.action == 1 then alignUp p (t + 1) else t + p }

/-- Event 0x0D07, at most once per second. -/
def lateEvent (d : Device) : Device :=
  let due := match d.board.lateEventAt with
    | none => true
    | some t => t + sec 1 ≤ d.time.now
  if d.board.lateSinceEvent == 0 || !due then d
  else
    logEvent 0x0D07 0x0051 1 (d.board.lateSinceEvent % 2 ^ 32)
      { d with board := { d.board with lateSinceEvent := 0, lateEventAt := some d.time.now } }

/-- A launch in the counts of the board. -/
def countLaunch (late : Nat) (d : Device) : Device :=
  let d := odBump 0x2C00 2 1 d
  if late == 0 then d
  else
    let d := odPut 0x2C00 7 (max (odVal 0x2C00 7 d) (min late (2 ^ 32 - 1))) (odBump 0x2C00 6 1 d)
    lateEvent { d with board := { d.board with lateSinceEvent := d.board.lateSinceEvent + 1 } }

/-- A paired launch is reported to a serving peer, whose report is awaited (R422). -/
def reportLaunch (n : Nat) (e : BoardEntry) (d : Device) : Device :=
  if !e.paired || !pairUp d then d
  else awaitReport n d.time.counter (sendLink (.launchReport n d.time.counter) d)

/-- An entry launches: its record, the counts, the report. -/
def launchEntry (d : Device) (x : Nat × BoardEntry) : Device :=
  let t := nominalTick x.2 d.time.counter
  reportLaunch x.1 x.2 (countLaunch (d.time.counter - x.2.launch) (putEntry x.1 (launchedEntry x.2 t d) d))

/-- A dictionary write that waited for the launch of an entry is confirmed (R265). -/
def confirmLaunch (n : Nat) (d : Device) : Device :=
  let done := d.dict.held.filter fun h => h.entry == some n
  let d := { d with dict := { d.dict with held := d.dict.held.filter fun h => h.entry != some n } }
  done.foldl (fun d h => answer h.reply h.idx h.sub .ok [] 0 0 d) d

/-- The launches of one tick: at most 8, in their order, then their effects by class; after FREEZE nothing else takes effect. -/
def launchTick (d : Device) : Device × List Nat :=
  if d.board.frozen then (d, [])
  else
    let used := if d.board.tick == d.time.counter then d.board.used else 0
    let go := (dueEntries d).take (8 - used)
    if go.isEmpty then (d, [])
    else
      let now := d.time.counter
      let d := { d with board := { d.board with tick := now, used := used + go.length } }
      let d := go.foldl launchEntry d
      let ns := go.map Prod.fst
      match go.find? fun x => x.2.action == 6 with
      | some x => (applyAction x.1 x.2 now d, ns)
      | none =>
        let ordered := (List.range 9).flatMap fun c => go.filter fun x => actionClass x.2.action == c
        let d := ordered.foldl (fun d x => applyAction x.1 x.2 (nominalTick x.2 now) d) d
        (placeWaiting (ns.foldl (fun d n => confirmLaunch n d) d), ns)

/-- Ticks pass until entry `n` has launched. -/
def launchUntil (n : Nat) : Nat → Device → Device
  | 0, d => d
  | fuel + 1, d =>
    let r := launchTick d
    if r.2.contains n || r.1.board.frozen then r.1 else launchUntil n fuel (waitTick (r.1.time.counter + 1) r.1)

/-- A row of the table names an armed entry with its action: the clock stands at its tick, and what is due launches. -/
def launch (n action : Nat) (d : Device) : Device :=
  let e := boardEntry n d
  if e.state != 1 || e.action != action || d.board.frozen || 4096 ≤ n then d
  else launchUntil n 512 (waitTick e.launch d)

/-- COMMIT_GROUP. -/
def execCommitGroup (entry : Nat) (s : State) : Host.Outcome State Fault Refusal := next s (launch entry 0x01)

/-- POWER_FAIL_COMMIT. -/
def execPowerFailCommit (entry : Nat) (s : State) : Host.Outcome State Fault Refusal := next s (launch entry 0x02)

/-- SNAPSHOT_CUT. -/
def execSnapshotCut (entry : Nat) (s : State) : Host.Outcome State Fault Refusal := next s (launch entry 0x03)

/-- CHANNEL_HANDOVER. -/
def execChannelHandover (entry : Nat) (s : State) : Host.Outcome State Fault Refusal := next s (launch entry 0x04)

/-- BUCKET_MOVE. -/
def execBucketMove (entry : Nat) (s : State) : Host.Outcome State Fault Refusal := next s (launch entry 0x05)

/-- FREEZE. -/
def execFreeze (entry : Nat) (s : State) : Host.Outcome State Fault Refusal := next s (launch entry 0x06)

/-- TIME_STEP. -/
def execTimeStep (entry : Nat) (s : State) : Host.Outcome State Fault Refusal := next s (launch entry 0x07)

/-- GROUP_POWER_UP, and what READ ID and training found; a group that launched beside another entry is identified here too. -/
def execGroupPowerUp (entry : Nat) (probe : List ProbeResult) (s : State) : Host.Outcome State Fault Refusal :=
  next s fun d =>
    let e := boardEntry entry d
    if e.action != 8 then d else probeGroup (e.unit % 16) probe (launch entry 0x08 d)

/-- GROUP_POWER_DOWN. -/
def execGroupPowerDown (entry : Nat) (s : State) : Host.Outcome State Fault Refusal := next s (launch entry 0x09)

/-- TOLL_WINDOW. -/
def execTollWindow (entry : Nat) (s : State) : Host.Outcome State Fault Refusal := next s (launch entry 0x0A)

/-- FAN_RAMP. -/
def execFanRamp (entry : Nat) (s : State) : Host.Outcome State Fault Refusal := next s (launch entry 0x0B)

/-- GEAR_ACTIVATE. -/
def execGearActivate (entry : Nat) (s : State) : Host.Outcome State Fault Refusal := next s (launch entry 0x0C)

/-- POLICY_GROUP. -/
def execPolicyGroup (entry : Nat) (s : State) : Host.Outcome State Fault Refusal := next s (launch entry 0x0D)

/-- SLOT_RETIRE. -/
def execSlotRetire (entry : Nat) (s : State) : Host.Outcome State Fault Refusal := next s (launch entry 0x0E)

/-- TENANT_ERASE. -/
def execTenantErase (entry : Nat) (s : State) : Host.Outcome State Fault Refusal := next s (launch entry 0x0F)

/-- EVENT_MARK. -/
def execEventMark (entry : Nat) (s : State) : Host.Outcome State Fault Refusal := next s (launch entry 0x10)

/-! ## A launch that the other peer does not report (R422, R438) -/

/-- PAIRED_LAUNCH_MISMATCH: 10 µs after the tick, with the link up. A hand-over is reverted. -/
def launchMismatch (n : Nat) (d : Device) : Device :=
  match d.board.reports.find? (·.1 == n) with
  | none => d
  | some r =>
    let d := waitUntil (r.2.2 + us 10) d
    let d := { d with board := { d.board with reports := d.board.reports.filter (· != r) } }
    if !linkIsUp d then d
    else
      let e := boardEntry n d
      let d := odBump 0x2C00 0x0A 1 (putEntry n { e with mismatch := true } d)
      let d := logEvent 0x0D05 0x0051 2 (n * 2 ^ 32 + r.2.1 % 2 ^ 32) d
      match d.peer.handovers.find? fun h => h.entry == n && e.action == 4 with
      | some h => refreshDirty (revertHandover h (sendLink (.handoverAbort n h.group h.mask) d))
      | none => d

/-- PAIRED_LAUNCH_MISMATCH. -/
def execPairedLaunchMismatch (entry : Nat) (s : State) : Host.Outcome State Fault Refusal := next s (launchMismatch entry)

/-! ## HEARTBEAT (R457) -/

/-- HEARTBEAT every 10 µs on a link that carries frames (R457). -/
def heartbeatDue (d : Device) : Device :=
  if d.time.now % 8000 == 0 && linkPhysical d then sendHeartbeat d.peer.st d else d

end Sys2Proof.Machine
end

