-- ==== Sys2Proof/Machine/LongRun.lean ====
section
/-! DEFINITION. Long operations as they run: lists and snapshot differences over both peers, rebuild reports, dump readouts, scrubs and
the erasure of a secure delete (R133, R176 to R182, R211 to R213, R309, R310, R383, R393, R474, R475, R598). -/

namespace Sys2Proof.Machine

/-! ## Requests of the device's own to the other peer (log 67) -/

/-- An answer that has come. -/
def answerOf (who : Nat) (d : Device) : Option Fetched := d.admin.fetched.find? (·.who == who)
def dropAnswer (who : Nat) (d : Device) : Device :=
  { d with admin := { d.admin with fetched := d.admin.fetched.filter (·.who != who) } }

/-- A request is under way. -/
def isAsked (who : Nat) (d : Device) : Bool := d.nvme.cmds.any fun c => c.q.port == 255 && c.sqe.cid == who && c.fwdFrom.isNone

/-- A submission queue entry of the device's own. -/
def ownSqe (op nsid cdw10 cdw11 cdw12 cdw13 : Nat) : Sqe := ⟨op, 0, 0, false, 0, nsid, 0, 0, 0, none, false, cdw10, cdw11, cdw12, cdw13, 0, 0⟩

/-- Ask the other peer by FWD_CMD, on queue 0. -/
def askPeer (who : Nat) (sqe : Sqe) (data : Bytes) (d : Device) : Device :=
  let f := nextForward d
  let cap : Capsule := ⟨{ sqe with cid := who }, data, data.length⟩
  let r := addCmd (fun id => { newCmd id ⟨255, 0, 0⟩ cap 3 0 false with fwdTo := some f.1, phase := .forwarded }) f.2
  sendLink (.fwdCmd f.1 255 0 0 3 0 cap) r.2

/-- The part of the other peer is settled: none waits; no serving peer gives an empty answer. -/
def peerPart (who : Nat) (sqe : Sqe) (data : Bytes) (d : Device) : Option Bytes × Device :=
  if noServingPeer d then (some [], d)
  else match answerOf who d with
    | some f =>
      if f.sct == 0 && f.sc == 0 then (some f.data, d)
      else if pairUp d then (none, askPeer who sqe data (dropAnswer who d)) else (none, d)
    | none => if isAsked who d || !pairUp d then (none, d) else (none, askPeer who sqe data d)

/-! ## The next key of a list or a difference (R123, R179, R475) -/

/-- The key is homed here. -/
def homedHere (ns : Nat) (key : Bytes) (d : Device) : Bool := keyHome ns key d == d.side || noServingPeer d

/-- A record of type 0x0001, or the resume record of a list. -/
def listRecord (typ : Nat) (key : Bytes) : Bytes := resultRecord typ (leBytes 2 key.length ++ [0, 0] ++ key)

/-- A record of type 0x0003, or the resume record of a difference. -/
def diffRecord (typ kind tick size : Nat) (key : Bytes) : Bytes :=
  resultRecord typ (leBytes 1 kind ++ [0] ++ leBytes 2 key.length ++ leBytes 8 tick ++ leBytes 8 size ++ key)

/-- Size of the value that a version names. -/
def versionSize (v : Version) (d : Device) : Nat := ((manifestOf v.mseq d).map (·.size)).getD 0

/-- The version of a key that a cut holds. -/
def heldVersion (cut : Nat) (e : KeyEntry) : Option Version := (versionAt cut e).filter fun v => !v.tombstone

/-- How a key differs between two cuts, the first of them none when every key counts as added: kind, commit tick and size in B. -/
def diffOf (a : Option Nat) (b : Nat) (e : KeyEntry) (d : Device) : Option (Nat × Nat × Nat) :=
  match a.bind fun t => heldVersion t e, heldVersion b e with
  | none, some v => some (1, v.tick, versionSize v d)
  | some u, some v => if u.tick == v.tick then none else some (2, v.tick, versionSize v d)
  | some _, none => some (3, 0, 0)
  | none, none => none

/-- Cut tick of a snapshot. -/
def cutOf (n : Nat) (d : Device) : Option Nat := (snapOf n d).map (·.cut)

/-- Keys homed here from a start key on. -/
def entriesFrom (ns : Nat) (start : Bytes) (after : Bool) (d : Device) : List KeyEntry :=
  d.kv.index.filter fun e => e.ns == ns && (if after then bytesLt start e.key else bytesLe start e.key) && homedHere ns e.key d

/-- The next record of the keys homed here, with its key. -/
def nextHere (op : LongOp) (d : Device) : Option (Bytes × Bytes) :=
  match op with
  | .list ns start after _ =>
    ((keysFrom ns start after d).find? fun k => homedHere (realNs ns d) k d).map fun k => (k, listRecord 1 k)
  | .difference ns a b start after =>
    (entriesFrom ns start after d).findSome? fun e =>
      (diffOf (cutOf a d) ((cutOf b d).getD 0) e d).map fun x => (e.key, diffRecord 3 x.1 x.2.1 x.2.2 e.key)
  | _ => none

/-- The key of a record that the other peer returned. -/
def recordKey (op : LongOp) (r : Bytes) : Bytes :=
  match op with
  | .difference .. => slice r 24 (leAt r 6 2)
  | _ => slice r 8 (leAt r 4 2)

/-- The request for the other peer's next record: CDW12 the length of the start key, CDW13 [0] AFTER. -/
def nextRequest (op : LongOp) : Sqe × Bytes :=
  match op with
  | .list ns start after _ => (ownSqe 0xC4 ns 1 0 start.length (b2n after), start)
  | .difference ns a b start after => (ownSqe 0xC4 ns 3 (a * 65536 + b) start.length (b2n after), start)
  | _ => (ownSqe 0xC4 0 0 0 0 0, [])

/-- The operation that such a request names. -/
def requestedOp (c : Capsule) : LongOp :=
  let start := c.data.take c.sqe.cdw12
  let after := bit c.sqe.cdw13 0
  if c.sqe.cdw10 == 1 then .list c.sqe.nsid start after none
  else .difference c.sqe.nsid (c.sqe.cdw11 / 65536) (c.sqe.cdw11 % 65536) start after

/-- The next record over both peers: none waits for the other peer; an inner none is the end. -/
def nextBoth (who : Nat) (op : LongOp) (d : Device) : Option (Option (Bytes × Bytes)) × Device :=
  let q := nextRequest op
  let r := peerPart who q.1 q.2 d
  match r.1 with
  | none => (none, r.2)
  | some bs =>
    let there := if bs.isEmpty then none else some (recordKey op bs, bs)
    let here := nextHere op r.2
    let best := match here, there with
      | some x, some y => some (if bytesLt y.1 x.1 then y else x)
      | some x, none => some x
      | none, y => y
    (some best, r.2)

/-! ## Records (R178, R180) -/

/-- The pool of results and the largest result of a slot, in bytes. -/
def poolBytes : Nat := 16 * 2 ^ 30
def slotBytesMax : Nat := 2 ^ 30

/-- Commit a record; its progress is free (log 68). -/
def commitNext (n : Nat) (r : Bytes) (d : Device) : Device :=
  let w := draw d
  commitRecord n r (onSlot n (fun s => { s with progress := w.1 % 65536 }) w.2)

/-- Place the cursor of a list or a difference after a key. -/
def passKey (key : Bytes) : LongOp → LongOp
  | .list ns _ _ e => .list ns key true e
  | .difference ns a b _ _ => .difference ns a b key true
  | op => op

/-- The key lies before the end of the range. -/
def beforeEnd (key : Bytes) : LongOp → Bool
  | .list _ _ _ (some e) => bytesLt key e
  | _ => true

/-- The record from which a list or a difference may be resumed. -/
def resumeRecord (key : Bytes) : LongOp → Bytes
  | .difference .. => diffRecord 0xFFFF 0 0 0 key
  | _ => listRecord 0xFFFF key

/-- The next record of a list or a difference, or its end. The other peer is asked afresh at every cursor (R179). -/
def scanStep (n : Nat) (op : LongOp) (d : Device) : Device :=
  let r := nextBoth n op d
  match r.1 with
  | none => r.2
  | some none => endSlot n 3 (dropAnswer n r.2)
  | some (some (key, rec)) =>
    let d := r.2
    if !beforeEnd key op then endSlot n 3 (dropAnswer n d)
    else if slotBytesMax < (longSlot n d).results.length + rec.length then
      endSlot n 3 (dropAnswer n (commitNext n (resumeRecord key op) d))
    else if poolBytes < poolUsed d + rec.length then dropAnswer n d
    else
      let d := commitNext n rec (dropAnswer n d)
      let op := passKey key op
      let d := onSlot n (fun s => { s with op := op }) d
      let again := nextBoth n op d
      match again.1 with
      | some none => endSlot n 3 (dropAnswer n again.2)
      | _ => again.2

/-- The record of a failed element (R310). -/
def rebuildRecord (f : FailedElement) : Bytes :=
  resultRecord 7 (leBytes 4 f.addr ++ leBytes 1 f.st ++ [0, 0, 0] ++ leBytes 4 f.lost ++ leBytes 8 f.work.length ++ leBytes 8 f.repaired ++
    leBytes 8 f.relocated ++ leBytes 8 f.unitsRead ++ leBytes 8 f.failTick ++ leBytes 8 f.doneTick)

/-- The next element of a rebuild report. -/
def rebuildStep (n : Nat) (left : List Nat) (d : Device) : Device :=
  match left with
  | [] => endSlot n 3 d
  | a :: rest =>
    let d := match d.stripe.failed.find? (·.addr == a) with
      | some f => commitNext n (rebuildRecord f) d
      | none => d
    let d := onSlot n (fun s => { s with op := .rebuildReport rest }) d
    if rest.isEmpty then endSlot n 3 d else d

/-- The next 32,768 bytes of a flash dump. -/
def dumpStep (n which off : Nat) (d : Device) : Device :=
  match d.fw.flashDumps[which]? with
  | none => endSlot n 4 d
  | some x =>
    let part := (x.bytes.drop off).take 32768
    let d := commitNext n (resultRecord 8 ([0, 0, 0, 0] ++ part)) d
    if x.bytes.length ≤ off + 32768 then endSlot n 3 d else onSlot n (fun s => { s with op := .dump which (off + 32768) }) d

/-! ## Scrub (R169 segment 8, R383, R393) -/

/-- What a scrub found in a group: units read, codewords corrected, units reconstructed, stripes lost, refreshes queued. -/
structure ScrubCount where
  read : Nat
  corrected : Nat
  rebuilt : Nat
  lost : Nat
  refreshed : Nat
  deriving DecidableEq, Repr

/-- Read one unit, decode it and check it against P and Q: the errors that it shows, and whether it agrees, are free (log 69). -/
def scrubUnit (id : Nat) (a : ScrubCount × Device) (m : Nat) : ScrubCount × Device :=
  match stripeOf id a.2, (stripeOf id a.2).bind fun s => s.members[m]? with
  | some s, some x =>
    let n := { a.1 with read := a.1.read + 1 }
    let w := draw a.2
    let errors := w.1 % 65536
    let good := x.readable && bit w.1 16
    let d := if good then w.2 else onMember id m (fun x => { x with readable := false }) w.2
    let bad := ((stripeOf id d).map fun s => (lostUnits s d).length).getD 0
    if good then
      if pastRefreshErrors x.desc errors d then ({ n with corrected := n.corrected + b2n (errors != 0), refreshed := n.refreshed + 1 }, queueRefresh x.desc d)
      else ({ n with corrected := n.corrected + b2n (errors != 0) }, d)
    else if bad ≤ 2 then ({ n with rebuilt := n.rebuilt + 1 }, startMove id m 4 false none d)
    else if s.st == .lost then (n, d)
    else ({ n with lost := n.lost + 1 }, loseStripe id 1 d)
  | _, _ => a

/-- Scrub the units of a group that belong to stripes kept here. -/
def scrubGroup (g : Nat) (d : Device) : ScrubCount × Device :=
  let units := (d.stripe.stripes.filter fun s => s.st == .issued || s.st == .durable).flatMap fun s =>
    (List.range s.members.length).filterMap fun i =>
      match s.members[i]? with
      | some x => if x.programmed && x.desc.channel / 8 == g then some (s.id, i) else none
      | none => none
  units.foldl (fun a u => scrubUnit u.1 a u.2) (⟨0, 0, 0, 0, 0⟩, d)

/-- The counts as the other peer returns them. -/
def scrubBytes (n : ScrubCount) : Bytes := leBytes 8 n.read ++ leBytes 8 n.corrected ++ leBytes 8 n.rebuilt ++ leBytes 4 n.lost ++ leBytes 4 n.refreshed

/-- The record of a group, over both peers. -/
def scrubRecord (g : Nat) (n : ScrubCount) (there : Bytes) : Bytes :=
  resultRecord 5 (leBytes 1 g ++ [0, 0, 0] ++ leBytes 8 (n.read + leAt there 0 8) ++ leBytes 8 (n.corrected + leAt there 8 8) ++
    leBytes 8 (n.rebuilt + leAt there 16 8) ++ leBytes 4 (n.lost + leAt there 24 4) ++ leBytes 4 (n.refreshed + leAt there 28 4) ++ leBytes 8 0)

/-- Groups of a scrub from `next` on. -/
def scrubLeft (groups next : Nat) : List Nat := (List.range 16).filter fun g => next ≤ g && (groups == 0 || bit groups g)

/-- The next group of a scrub. -/
def scrubStep (n groups next : Nat) (d : Device) : Device :=
  match scrubLeft groups next with
  | [] => endSlot n 3 d
  | g :: rest =>
    let r := peerPart n (ownSqe 0xC4 0 5 g 0 0) [] d
    match r.1 with
    | none => r.2
    | some there =>
      let c := scrubGroup g (dropAnswer n r.2)
      let d := onSlot n (fun s => { s with op := .scrub groups (g + 1) }) (commitNext n (scrubRecord g c.1 there) c.2)
      if rest.isEmpty then endSlot n 3 d else d

/-! ## The erasure of a secure delete (R212, R213, R309) -/

/-- Blocks with a page of a stripe, P and Q included: its members, and where units of it have been left and not yet erased; for a stripe
that the other peer keeps, as its mirrored journal names them (log 52). -/
def stripeBlocks (id : Nat) (d : Device) : List MemberDesc × Device :=
  let here := ((stripeOf id d).map fun s => s.members.map fun x => blockDesc x.desc).getD []
  let left := (d.map.residue.filter (·.1 == id)).map fun x => descOfNum x.2
  if (stripeOf id d).isSome || !left.isEmpty || id / 2 ^ 63 == d.side then (here ++ left, d)
  else
    let w := draw d
    let k := match peerK id d with
      | some k => (k, d)
      | none => (w.1 % 27 + 4, w.2)
    (List.range (k.1 + 2)).foldl (fun acc u => let m := peerMember id u acc.2; (acc.1 ++ [blockDesc m.1], m.2)) ([], k.2)

/-- The erasure begins: the other data of its stripes is relocated, and the blocks are listed. -/
def erasureBegin (n ns : Nat) (copies : List (Nat × Nat × Nat)) (ids : List Nat) (d : Device) : Device :=
  let d := ids.foldl (fun d i => match stripeOf i d with
    | some s => relocateStripe (fun _ => true) s d
    | none => d) d
  let r := ids.foldl (fun acc i => let x := stripeBlocks i acc.2; (acc.1 ++ x.1.map fun m => (i, m), x.2)) (([] : List (Nat × MemberDesc)), d)
  let d := r.2
  let gone := fun m : MemberDesc => ((blockOf m d).map fun b => b.st == 4 || b.st == 5).getD false
  let d := (r.1.filter fun x => gone x.2).foldl (fun d x => logEvent 0x0A08 0x0040 2 x.1 d) d
  let blocks := (r.1.map Prod.snd).eraseDups.filter fun m => !gone m
  let d := bumpErasure n 24 copies.length (bumpErasure n 40 ids.length d)
  onSlot n (fun s => { s with
    op := .erasure ns copies (blocks.map fun m => (descNum m, ((blockOf m d).map (·.erases)).getD 0)) ids }) d

/-- One block of an erasure whose stripes are gone: it is emptied and erased here, or the other peer is asked. -/
def erasureBlock (n : Nat) (b : Nat × Nat) (d : Device) : Device :=
  let m := descOfNum b.1
  if ownsChannel m.channel d then
    match blockOf m d with
    | none => erasureAnswered n m 0 d
    | some x =>
      if b.2 < x.erases then erasureAnswered n m 0 d
      else if x.st == 4 || x.st == 5 then erasureAnswered n m 2 d
      else if x.st == 1 then onBlock m (fun b => { b with st := 2 }) d
      else if x.st == 2 && !(d.stripe.moves.any fun v => blockDesc v.old == m) && !(d.map.moveRequests.any fun v => v.2.2 == b.1) && !outranked 4 d then
        maybeState3 m (emptyBlock m 3 (bumpErasure n 56 x.live d))
      else maybeState3 m d
  else if d.peer.reqs.any fun r => r.what == .erase n m then d
  else
    let r := newReq (.erase n m) 0 [] d.stripe.pageSeq d
    sendLink (.eraseRequest r.1 m d.stripe.pageSeq) r.2

/-- The erasure has ended: its record, event 0x0706. -/
def erasureEnd (n : Nat) (copies : List (Nat × Nat × Nat)) (d : Device) : Device :=
  let r := padTo 64 (longSlot n d).results
  let rec_ := resultRecord 2 ([0, 0, 0, 0] ++ slice r 24 8 ++ leBytes 8 copies.length ++ slice r 40 24 ++ slice r 0 24)
  let d := commitRecord n rec_ (onSlot n (fun s => { s with results := [] }) d)
  logEvent 0x0706 0x0042 0 (slotHandle n d) (endSlot n 3 d)

/-- An erasure goes on: it pauses while the link is down or a takeover is incomplete. -/
def erasureStep (n : Nat) (d : Device) : Device :=
  let s := longSlot n d
  if s.state != 2 || d.peer.takeover.isSome || !(pairUp d || noServingPeer d) || !isReady d then d
  else match s.op with
    | .erasure ns copies blocks ids =>
      if s.results.length < 64 then erasureBegin n ns copies ids d
      else if ids.any fun i => (stripeOf i d).isSome then reapStripes (issueClosed d)
      else
        let d := blocks.foldl (fun d b => erasureBlock n b d) d
        match (longSlot n d).op with
        | .erasure _ _ [] _ => if poolBytes < poolUsed d + 8 then d else erasureEnd n copies d
        | _ => d
    | _ => d

/-- SECURE_DELETE_ERASURE. -/
def execSecureDeleteErasure (slot : Nat) (s : State) : Host.Outcome State Fault Refusal := next s (erasureStep slot)

/-! ## Running, release and expiry (R178, R181) -/

/-- LONG_OPERATION_RECORD_COMMIT: the operation in a slot commits its next record, or ends. While the pool is full, and while a takeover
keeps keys out of reach, it pauses. -/
def recordCommit (n : Nat) (d : Device) : Device :=
  let s := longSlot n d
  if s.state != 2 || 64 ≤ n || d.peer.takeover.isSome || !isReady d then d
  else match s.op with
    | .list .. => scanStep n s.op d
    | .difference .. => scanStep n s.op d
    | .rebuildReport left => if poolBytes < poolUsed d + 64 then d else rebuildStep n left d
    | .dump which off => if poolBytes < poolUsed d + 32776 then d else dumpStep n which off d
    | .scrub groups next => if poolBytes < poolUsed d + 48 then d else scrubStep n groups next d
    | _ => d

/-- LONG_OPERATION_RECORD_COMMIT. -/
def execLongOperationRecordCommit (slot : Nat) (s : State) : Host.Outcome State Fault Refusal := next s (recordCommit slot)

/-- 600 s after it entered state 3, 4 or 5 a slot is idle. -/
def longExpiry (n : Nat) (d : Device) : Device :=
  let s := longSlot n d
  if s.state < 3 || 64 ≤ n then d else freeSlot n (waitUntil (s.entered + sec 600) d)

/-- LONG_OPERATION_EXPIRY. -/
def execLongOperationExpiry (slot : Nat) (s : State) : Host.Outcome State Fault Refusal := next s (longExpiry slot)

/-- The committed result bytes of a slot; an erasure under way has none. -/
def committedBytes (n : Nat) (d : Device) : Bytes :=
  let s := longSlot n d
  match s.op with
  | .erasure .. => if s.count == 0 then [] else s.results
  | _ => s.results

end Sys2Proof.Machine
end

