-- ==== Sys2Proof/Machine/Replicate.lean ====
section
/-! DEFINITION. Replication sessions: cycles, what is sent to the remote, its completions, retries, pauses and the durable cursor (R477 to
R487). -/

namespace Sys2Proof.Machine

/-! ## Which side runs a session (R480, R485) -/

/-- The session runs here: its side is this one, or its running side has been taken over and ALT_PORT is set. -/
def runsHere (n : Nat) (d : Device) : Bool :=
  sessionOn n d && (sessionSide n d == d.side || (d.peer.takenOver && d.peer.st == 5 && sessionAlt n d != 15))

/-- Its port is in replication mode. -/
def sessionReady (n : Nat) (d : Device) : Bool :=
  n < 16 && runsHere n d && isReady d && !powerFailing d && sessionPort n d < 8 && portMode (sessionPort n d) d == 2

/-- A message to the remote target leaves the session's port, over the transport that the session names (R115). Without link nothing
leaves. -/
def toRemote (n : Nat) (m : RemoteMsg) (d : Device) : Device :=
  let p := sessionPort n d
  if hasLink p d then sendOn p (.remote n (bit (sessionCfg n d) 2) m) d else d

/-! ## A cycle begins (R477, R481) -/

/-- The snapshot is live. -/
def isLive (n : Option Nat) (d : Device) : Bool := ((n.bind fun k => snapOf k d).map (·.st)) == some 2

/-- Counts of a cycle that begins. -/
def freshCycle (x : ReplSession) (now : Nat) : ReplSession :=
  { x with keysStored := 0, keysDeleted := 0, bytesSent := 0, skipped := 0, retries := 0, cursor := [], started := false, durableCursor := []
           durableStarted := false, trail := [], safe := [], sinceCursor := 0, cursorAt := now, startedAt := now, outstanding := [], reading := none }

/-- The Connect of a session: the remote's address and port, this subsystem's NQN followed by ":repl", and the remote's NQN (R482, R485). -/
def connectMsg (n : Nat) (d : Device) : RemoteMsg :=
  .connect (bits (sessionCfg n d) 511 384) (bits (sessionCfg n d) 319 304) (subsystemNqn ++ ascii ":repl") (textOf 223 (odVal 0x3330 (n + 1) d))

/-- Connect to the remote; before the first cycle its Identify is read. -/
def connectRemote (n : Nat) (d : Device) : Device :=
  let d := toRemote n (connectMsg n d) d
  if (sessionOf n d).identified then d else toRemote n .identify (onSession n (fun x => { x with identified := true }) d)

/-- The snapshot that a session names is live, and the one that it took. -/
def isTaken (n : Nat) (k : Option Nat) (cut : Nat) (d : Device) : Bool :=
  (k.bind fun k => snapOf k d).any fun s => s.st == 2 && s.ns == sessionNs n d && s.cut == cut

/-- The cycle of a session can go on: its current snapshot is live, and so is its base if it has one (R480). -/
def cycleStands (n : Nat) (d : Device) : Bool :=
  let x := sessionOf n d
  isTaken n x.current x.currentTick d && (x.base.isNone || isTaken n x.base x.baseTick d)

/-- A new cycle: its snapshot is armed. Its A is the base, unless either snapshot has been lost to replay: then it is none, and what is
left of the two is given up (R480). `none` where the create is refused. -/
def newCycle (n : Nat) (d : Device) : Option Device :=
  let x := sessionOf n d
  let ns := sessionNs n d
  let keep := x.current.isNone && isTaken n x.base x.baseTick d
  let left := (if isTaken n x.current x.currentTick d then x.current.toList else []) ++ (if !keep && isTaken n x.base x.baseTick d then x.base.toList else [])
  let d := if keep then d else onSession n (fun x => { x with base := none, baseTick := 0, current := none, currentTick := 0 }) d
  let d := left.foldl (fun d k => giveUpSnapshot k d) d
  if (createRefused [ns] d).isSome then none
  else
    let num := (freeNumbers 1 d).headD 0
    let cut := nextBoundary d
    let d := onSession n (fun x => { freshCycle x d.time.now with current := some num, currentTick := cut }) d
    some (armSnaps [ns] 0 (some n) (fun nums cut => ⟨⟨255, 0, 0⟩, ⟨0, 0, false⟩, nums, cut, false, some n⟩) d)

/-- The create of a cycle is refused: the session stays in state 1, and tries again at its next interval (R481). -/
def cycleRefused (n : Nat) (d : Device) : Device :=
  sessionTo n 1 (onSession n (fun x => { x with startedAt := d.time.now }) (odBump 0x3300 4 1 d))

/-- Begin a cycle, or resume the one that stopped: false where the create is refused. -/
def beginCycle (n : Nat) (d : Device) : Bool × Device :=
  if cycleStands n d then (true, connectRemote n (sessionTo n 2 (rewindSession n d)))
  else match newCycle n d with
    | some d => (true, connectRemote n (sessionTo n 2 d))
    | none => (false, cycleRefused n d)

/-- REPLICATION_CYCLE: the interval of a session in mode 1 has passed since its last cycle began. -/
def replicationCycle (n : Nat) (d : Device) : Device :=
  let x := sessionOf n d
  let cfg := sessionCfg n d
  if !sessionReady n d || x.st != 1 || !bit cfg 3 then d
  else
    let due := if x.startedAt == 0 then d.time.now else x.startedAt + bits cfg 303 288 * sec 60
    (beginCycle n (waitUntil due d)).2

/-- REPLICATION_CYCLE. -/
def execReplicationCycle (session : Nat) (s : State) : Host.Outcome State Fault Refusal := next s (replicationCycle session)

/-! ## What a session sends (R477 to R479) -/

/-- The key is in the session's scope. -/
def inScope (n : Nat) (key : Bytes) (d : Device) : Bool :=
  let p := policyOf (sessionNs n d) key d
  !bit (sessionCfg n d) 4 || (policyReplicate p && policySession p == n)

def longKeys (n : Nat) (d : Device) : Bool := bit (sessionCfg n d) 5
def remoteNsid (n : Nat) (d : Device) : Nat := bits (sessionCfg n d) 351 320

/-- Keys at the head of the trail that are done make the cursor safe. -/
def trimTrail (out : List RemoteCmd) : List Bytes → Bytes → List Bytes × Bytes
  | [], s => ([], s)
  | k :: ks, s => if out.any (·.key == k) then (k :: ks, s) else trimTrail out ks k

/-- REPL_CURSOR at least every 1,024 keys and every 1 s (R480). -/
def saveCursor (n : Nat) (d : Device) : Device :=
  let x := sessionOf n d
  let t := trimTrail x.outstanding x.trail x.safe
  let d := onSession n (fun x => { x with trail := t.1, safe := t.2 }) d
  if x.sinceCursor < 1024 && d.time.now < x.cursorAt + sec 1 then d
  else
    let d := onSession n (fun x => { x with sinceCursor := 0, cursorAt := d.time.now }) d
    if t.2.isEmpty && !x.started then d else journalRecord (.replCursor n (x.current.getD 0) x.currentTick t.2) d

/-- The cursor passes a key. -/
def passCursor (n : Nat) (key : Bytes) (d : Device) : Device :=
  saveCursor n (onSession n (fun x => { x with
    cursor := key, started := true, trail := x.trail ++ [key], sinceCursor := x.sinceCursor + 1, reading := none }) d)

/-- A key is skipped and counted. -/
def skipKey (n : Nat) (key : Bytes) (d : Device) : Device := passCursor n key (onSession n (fun x => { x with skipped := x.skipped + 1 }) d)

/-- Send a command for a key, and await its completion. -/
def sendRemote (n : Nat) (c : RemoteCmd) (d : Device) : Device :=
  let long := longKeys n d
  let m := if c.delete then RemoteMsg.delete (remoteNsid n d) c.key long (bit (sessionCfg n d) 6) else .store (remoteNsid n d) c.key c.value long
  toRemote n m (onSession n (fun x => { x with
    outstanding := c :: x.outstanding.filter (·.key != c.key), bytesSent := x.bytesSent + c.value.length }) d)

/-- Read B's value of a key as a Retrieve of its view, of the device's own (log 67). -/
def readValue (n : Nat) (key : Bytes) (d : Device) : Device :=
  let view := 2 ^ 31 + (sessionOf n d).current.getD 0
  let long : Bool := 16 < key.length
  let k := padTo 16 key
  let sqe : Sqe := { ownSqe (if long then 0x82 else 0x02) view (2 ^ 24) key.length 0 0 with
    cid := 80 + n, sgl := 2 ^ 24
    cdw2 := if long then 0 else leAt k 0 4, cdw3 := if long then 0 else leAt k 4 4
    cdw14 := if long then 0 else leAt k 8 4, cdw15 := if long then 0 else leAt k 12 4 }
  let cap : Capsule := ⟨sqe, if long then padTo (keyBlock key.length) key else [], 1024⟩
  let r := addCmd (fun id => newCmd id ⟨255, 0, 1⟩ cap 3 0 false) d
  settle (onSession n (fun x => { x with reading := some key }) r.2)

/-- The operation that walks over the keys of a cycle. -/
def cycleOp (n : Nat) (d : Device) : LongOp :=
  let x := sessionOf n d
  .difference (sessionNs n d) (x.base.getD 4096) (x.current.getD 0) x.cursor x.started

/-- A record of type 0x0004 (R481). -/
def cycleRecord (n : Nat) (x : ReplSession) : Bytes :=
  resultRecord 4 (leBytes 1 n ++ [0, 0, 0] ++ leBytes 8 x.baseTick ++ leBytes 8 x.currentTick ++ leBytes 8 x.keysStored ++ leBytes 8 x.keysDeleted ++
    leBytes 4 x.skipped ++ leBytes 4 0)

/-- The record of a cycle that a long operation started has room in the pool of results (R180). -/
def cycleFits (n : Nat) (d : Device) : Bool := (sessionOf n d).slot.isNone || poolUsed d + 48 ≤ poolBytes

/-- The cycle ends: A is deleted, B is the base. -/
def endCycle (n : Nat) (d : Device) : Device :=
  let x := sessionOf n d
  let d := onSession n (fun x => { x with
    base := x.current, baseTick := x.currentTick, current := none, currentTick := 0, cursor := [], started := false, durableCursor := []
    durableStarted := false, trail := [], safe := [], lastDone := tick d, slot := none }) d
  let d := x.base.toList.foldl (fun d a => giveUpSnapshot a d) d
  let d := if x.skipped == 0 then d else logEvent 0x0F05 0x0040 1 (x.skipped * 2 ^ 32 + n) d
  let d := logEvent 0x0F03 0x0040 0 ((x.keysStored + x.keysDeleted) % 2 ^ 32 * 2 ^ 32 + n) d
  let d := sessionTo n 1 (toRemote n .disconnect d)
  match x.slot with
  | some k => endSlot k 3 (commitRecord k (cycleRecord n x) d)
  | none => d

/-- A session ends in error (R479): the cycle stops at its cursor. -/
def failSession (n sct sc : Nat) (d : Device) : Device :=
  let slot := (sessionOf n d).slot
  let d := sessionTo n 5 (onSession n (fun x => { x with lastSct := sct, lastSc := sc, slot := none, outstanding := [], reading := none }) d)
  let d := toRemote n .disconnect d
  match slot with
  | some k => endSlot k 4 d
  | none => d

/-- Ship the value that has been read. -/
def shipValue (n : Nat) (key : Bytes) (f : Fetched) (d : Device) : Device :=
  if f.sct == 0 && f.sc == 0 then
    (if Config.remoteMaxValue n < f.data.length then skipKey n key d
     else passCursor n key (sendRemote n ⟨key, false, f.data, 0, none⟩ d))
  else if f.sct == 0 && f.sc == 0x21 then onSession n (fun x => { x with reading := none }) d
  else failSession n f.sct f.sc d

/-- The next key of the cycle. -/
def nextKey (n : Nat) (d : Device) : Device :=
  let r := nextBoth (64 + n) (cycleOp n d) d
  match r.1 with
  | none => r.2
  | some none =>
    let d := dropAnswer (64 + n) r.2
    if (sessionOf n d).outstanding.isEmpty && cycleFits n d then endCycle n d else d
  | some (some (key, rec_)) =>
    let d := dropAnswer (64 + n) r.2
    if !inScope n key d then passCursor n key d
    else if 16 < key.length && !longKeys n d then skipKey n key d
    else if leAt rec_ 4 1 == 3 then passCursor n key (sendRemote n ⟨key, true, [], 0, none⟩ d)
    else readValue n key d

/-- A connected session whose snapshot has become live ships. -/
def startShipping (n : Nat) (d : Device) : Device :=
  let x := sessionOf n d
  if x.st == 2 && x.connected && sessionReady n d && isLive x.current d then sessionTo n 3 d else d

/-- One action of a session that ships: at most 256 commands are outstanding. -/
def pump (n : Nat) (d : Device) : Device :=
  let d := startShipping n d
  let x := sessionOf n d
  if x.st != 3 || !sessionReady n d || 256 ≤ x.outstanding.length || !isLive x.current d then d
  else match x.reading with
    | some key => (match answerOf (80 + n) d with
        | some f => shipValue n key f (dropAnswer (80 + n) d)
        | none => d)
    | none => nextKey n d

/-- The sessions go on as cycles pass (log 6). -/
def pumpAll (d : Device) : Device := (List.range 16).foldl (fun d n => pump n d) d

/-! ## Connections (R480, R482) -/

/-- REPLICATION_RECONNECT: an attempt to connect, in state 4 every 5 s, has succeeded or failed. Where a snapshot of the cycle is lost a
new cycle starts (R480). -/
def replicationReconnect (n : Nat) (ok : Bool) (d : Device) : Device :=
  let x := sessionOf n d
  if !sessionReady n d || (x.st != 2 && x.st != 4) then d
  else
    let d := if x.st == 4 then toRemote n (connectMsg n d) (waitUntil x.reconnectAt d) else d
    let up := fun d => sessionTo n 2 (onSession n (fun y => { y with connected := true }) d)
    if !ok then sessionTo n 4 (onSession n (fun y => { y with reconnectAt := d.time.now + sec 5, connected := false }) d)
    else if cycleStands n d then pump n (up d)
    else if d.snap.creates.any fun c => c.session == some n then up d
    else match newCycle n d with
      | some d => up d
      | none => cycleRefused n d

/-- REPLICATION_RECONNECT. -/
def execReplicationReconnect (session : Nat) (ok : Bool) (s : State) : Host.Outcome State Fault Refusal := next s (replicationReconnect session ok)

/-- REMOTE_ASSOCIATION_LOSS. -/
def execRemoteAssociationLoss (session : Nat) (s : State) : Host.Outcome State Fault Refusal := next s (remoteLoss session)

/-! ## Completions of the remote (R479) -/

/-- A command at the remote is done: counted. -/
def remoteDone (n : Nat) (c : RemoteCmd) (d : Device) : Device :=
  odBump 0x3300 6 c.value.length (odBump 0x3300 5 1 (onSession n (fun x =>
    if c.delete then { x with keysDeleted := x.keysDeleted + 1 } else { x with keysStored := x.keysStored + 1 }) d))

/-- Statuses that skip a key: Invalid Key Size, Value Too Large, status 0xC6. -/
def skipsKey (sct sc : Nat) : Bool := (sct == 1 && (sc == 0x86 || sc == 0x85)) || (sct == 7 && sc == 0xC6)

/-- REPLICATION_REMOTE_COMPLETION. -/
def remoteCompletion (n : Nat) (key : Bytes) (sct sc : Nat) (dnr : Bool) (d : Device) : Device :=
  let x := sessionOf n d
  if x.st != 3 then d
  else match x.outstanding.find? fun c => c.key == key && c.retryAt.isNone with
    | none => d
    | some c =>
      let out := fun d => onSession n (fun x => { x with outstanding := x.outstanding.filter (·.key != key) }) d
      let ok := (sct == 0 && sc == 0) || (c.delete && ((sct == 1 && sc == 0x87) || (sct == 7 && sc == 0xC7)))
      if ok then pump n (saveCursor n (remoteDone n c (out d)))
      else
        let d := onSession n (fun x => { x with lastSct := sct, lastSc := sc }) d
        if skipsKey sct sc then pump n (saveCursor n (onSession n (fun x => { x with skipped := x.skipped + 1 }) (out d)))
        else if !dnr && c.retries < 8 then
          onSession n (fun x => { x with
            retries := min (x.retries + 1) 65535
            outstanding := x.outstanding.map fun y => if y.key == key then { y with retries := y.retries + 1, retryAt := some (d.time.now + sec 1) } else y }) d
        else failSession n sct sc d

/-- REPLICATION_REMOTE_COMPLETION. -/
def execReplicationRemoteCompletion (session : Nat) (key : Bytes) (sct sc : Nat) (dnr : Bool) (s : State) : Host.Outcome State Fault Refusal :=
  next s (remoteCompletion session key sct sc dnr)

/-- REPLICATION_RETRY: 1 s has passed; the command goes out again. -/
def replicationRetry (n : Nat) (key : Bytes) (d : Device) : Device :=
  let x := sessionOf n d
  if x.st != 3 then d
  else match x.outstanding.find? fun c => c.key == key && c.retryAt.isSome with
    | none => d
    | some c => sendRemote n { c with retryAt := none } (waitUntil (c.retryAt.getD 0) d)

/-- REPLICATION_RETRY. -/
def execReplicationRetry (session : Nat) (key : Bytes) (s : State) : Host.Outcome State Fault Refusal := next s (replicationRetry session key)

/-- A write of a session's configuration: ENABLED enters state 1, and cleared state 0 (R479, R485). -/
def configSession (n : Nat) (d : Device) : Device :=
  if sessionOn n d then (if (sessionOf n d).st == 0 then sessionTo n 1 d else d) else sessionTo n 0 d

end Sys2Proof.Machine
end

