-- ==== Sys2Proof/Machine/LongCmd.lean ====
section
/-! DEFINITION. Long Operation Start, Release and results, Snapshot commands, and what the other peer asks of this device (R84, R160,
R176 to R182, R310, R467, R471, R474, R481, R598). -/

namespace Sys2Proof.Machine

/-! ## Access (R84, R160) -/

/-- Management access of a port: 0 none, 1 read, 2 read-write. -/
def managementAccess (p : Nat) (d : Device) : Nat := portOd p 0x0A d

/-- The partner lacks the access, or the secure session, that a command requires. -/
def denied (q : QueueRef) (need : Nat) (session : Bool) (d : Device) : Bool :=
  managementAccess q.port d < need || (session && !hasSession (.inband q.port) d)

/-! ## Long Operation Start (R177) -/

/-- What a Start does: a check that refuses it, and its operation. -/
structure LongStart where
  need : Nat
  session : Bool
  check : Option Status
  op : LongOp
  deriving DecidableEq, Repr

/-- A Start takes the lowest idle slot, and completes with its handle. -/
def startLong (q : QueueRef) (c : Capsule) (x : LongStart) (d : Device) : Option Nat × Device :=
  let refuse := fun st => (none, completeSt q c.sqe.tag st d)
  if denied q x.need x.session d then refuse (.vendor 0xC2)
  else if d.admin.sanitize.isSome then refuse .sanitizeInProgress
  else match x.check with
    | some st => refuse st
    | none =>
      match takeSlot 2 x.op (some q.port) d with
      | none => refuse .interrupted
      | some (n, d) => (some n, complete q c.sqe.tag .success (slotHandle n d) 0 [] d)

/-- A Start whose operation runs by itself. -/
def startPlain (q : QueueRef) (c : Capsule) (x : Device → LongStart) (d : Device) : Device := (startLong q c (x d) d).2

/-- The start and end key of a List, in the data buffer's key blocks (R127, R179). -/
def listStart (q : QueueRef) (c : Capsule) (d : Device) : LongStart :=
  let a := c.sqe.cdw11 % 2048
  let b := bits c.sqe.cdw11 26 16
  let end_ := if b == 0 then none else some (slice (sglData 0 c) (keyBlock a) b)
  let check := if !nsServes { c.sqe with opcode := 6 } q.port d then some .invalidNamespace
    else if 1024 < a || 1024 < b then some .invalidKeySize
    else if (sglData 0 c).length < keyBlock a + keyBlock b then some .invalidField
    else none
  ⟨0, false, check, .list c.sqe.nsid ((sglData 0 c).take a) (bit c.sqe.cdw12 0) end_⟩

/-- LONG_OPERATION_LIST. -/
def execLongOperationList (q : QueueRef) (c : Capsule) (s : State) : Host.Outcome State Fault Refusal :=
  next s (adminCmd q c fun _ => startPlain q c (listStart q c))

/-- A snapshot difference: B live and of the namespace, and A too with an earlier cut, unless FULL is set. -/
def differenceStart (c : Capsule) (d : Device) : LongStart :=
  let v := c.sqe.cdw11
  let full := bit v 31
  let a := bits v 27 16
  let b := bits v 11 0
  let n := c.sqe.cdw12 % 2048
  let live := fun k => (snapOf k d).any fun s => s.st == 2 && s.ns == c.sqe.nsid
  let before : Bool := (cutOf a d).getD 0 < (cutOf b d).getD 0
  let check := if !live b || (!full && (!live a || !before)) then some Status.invalidField
    else if 1024 < n then some .invalidKeySize
    else if (sglData 0 c).length < keyBlock n then some .invalidField
    else none
  ⟨1, false, check, .difference c.sqe.nsid (if full then 4096 else a) b ((sglData 0 c).take n) false⟩

/-- SNAPSHOT_DIFFERENCE. -/
def execSnapshotDifference (q : QueueRef) (c : Capsule) (s : State) : Host.Outcome State Fault Refusal :=
  next s (adminCmd q c fun _ => startPlain q c (differenceStart c))

/-- One cycle of a session; a refused create ends the operation in state 4. -/
def startReplication (q : QueueRef) (c : Capsule) (d : Device) : Device :=
  let n := c.sqe.cdw11 % 16
  let check := if sessionReady n d && (sessionOf n d).st == 1 then none else some Status.sequenceError
  match startLong q c ⟨2, false, check, .replication n⟩ d with
  | (none, d) => d
  | (some k, d) =>
    let r := beginCycle n d
    if r.1 then onSession n (fun x => { x with slot := some k }) r.2 else endSlot k 4 r.2

/-- LONG_OPERATION_REPLICATION. -/
def execLongOperationReplication (q : QueueRef) (c : Capsule) (s : State) : Host.Outcome State Fault Refusal :=
  next s (adminCmd q c fun _ => startReplication q c)

/-- A Start of a scrub: CDW11[15:0] the groups, 0 for all (R393). -/
def scrubStart (c : Capsule) : LongStart := ⟨2, false, none, .scrub (c.sqe.cdw11 % 65536) 0⟩

/-- SCRUB. -/
def execScrub (q : QueueRef) (c : Capsule) (s : State) : Host.Outcome State Fault Refusal :=
  next s (adminCmd q c fun _ => startPlain q c fun _ => scrubStart c)

/-- Elements failed since the last sanitize, the newest first. -/
def failedSince (d : Device) : List Nat :=
  ((d.stripe.failed.filter fun f => d.admin.sanitizedAt ≤ f.failTick).map (·.addr)).reverse.take 1024

def rebuildStart (d : Device) : LongStart := ⟨1, false, none, .rebuildReport (failedSince d)⟩

/-- REBUILD_REPORT. -/
def execRebuildReport (q : QueueRef) (c : Capsule) (s : State) : Host.Outcome State Fault Refusal :=
  next s (adminCmd q c fun _ => startPlain q c rebuildStart)

def dumpStart (c : Capsule) : LongStart := ⟨1, true, none, .dump (c.sqe.cdw11 % 2) 0⟩

/-- DUMP_READOUT. -/
def execDumpReadout (q : QueueRef) (c : Capsule) (s : State) : Host.Outcome State Fault Refusal :=
  next s (adminCmd q c fun _ => startPlain q c fun _ => dumpStart c)

/-! ## Release (R172, R181) -/

/-- What is under way for a slot at the other peer is forgotten. -/
def dropAsked (who : Nat) (d : Device) : Device :=
  dropAnswer who { d with nvme := { d.nvme with cmds := d.nvme.cmds.filter fun c => !(c.q.port == 255 && c.sqe.cid == who && c.fwdFrom.isNone) } }

/-- The replication cycle of a slot stops: its session is idle, and goes on from its durable cursor in the next cycle. -/
def stopCycle (k : Nat) (d : Device) : Device :=
  (List.range 16).foldl (fun d n =>
    if (sessionOf n d).slot == some k then
      toRemote n .disconnect (sessionTo n 1 (rewindSession n (onSession n (fun x => { x with slot := none }) d)))
    else d) d

/-- The self-test ends with a code on this device and at the other peer. -/
def stopSelfTest (code : Nat) (d : Device) : Device :=
  let d := dropAsked 96 d
  let d := if d.admin.selfTest.any (·.fwd.isNone) && pairUp d then askPeer 98 (ownSqe 0x14 0 0xF code 0 0) [] d else d
  endSelfTest code 0 d

/-- A running operation stops and its slot is free. -/
def stopSlot (n : Nat) (d : Device) : Device :=
  let d := match (longSlot n d).op with
    | .replication _ => stopCycle n d
    | .selfTest => stopSelfTest 1 d
    | _ => d
  freeSlot n (dropAsked n d)

/-- Long Operation Release: CDW10[13:0] the handle. -/
def releaseSlot (q : QueueRef) (c : Capsule) (d : Device) : Device :=
  let n := bits c.sqe.cdw10 13 8
  let s := longSlot n d
  let finish := fun st d => completeSt q c.sqe.tag st d
  if s.state == 0 || s.gen != c.sqe.cdw10 % 256 then finish (.vendor 0xC4) d
  else if s.starter != some q.port && denied q 2 false d then finish (.vendor 0xC2) d
  else if 3 ≤ s.state then finish .success (freeSlot n d)
  else match s.op with
    | .erasure .. => finish .sequenceError d
    | _ => finish .success (stopSlot n d)

/-- LONG_OPERATION_RELEASE. -/
def execLongOperationRelease (q : QueueRef) (c : Capsule) (s : State) : Host.Outcome State Fault Refusal :=
  next s (adminCmd q c fun _ => releaseSlot q c)

/-! ## Results (R176, R178) -/

/-- Log 0xC0. -/
def longStatusLog (d : Device) : Bytes := d.admin.slots.flatMap fun s => leBytes 8 (slotWord s)

/-- Bytes that a Get Log Page transfers: NUMDL and NUMDU, a count of dwords less one. -/
def logLength (s : Sqe) : Nat := 4 * (bits s.cdw10 31 16 + bits s.cdw11 15 0 * 65536 + 1)

/-- The log page offset. -/
def logOffset (s : Sqe) : Nat := s.cdw12 + s.cdw13 * 2 ^ 32

/-- Log 0xC1 of the handle in CDW11[31:16]. -/
def longResults (q : QueueRef) (c : Capsule) (d : Device) : Device :=
  let h := bits c.sqe.cdw11 31 16
  let n := bits h 13 8
  let s := longSlot n d
  let off := logOffset c.sqe
  let len := logLength c.sqe
  if off % 4 != 0 then completeSt q c.sqe.tag .invalidField d
  else if s.state == 0 || s.gen != h % 256 then completeSt q c.sqe.tag (.vendor 0xC4) d
  else if s.starter != some q.port && denied q 1 false d then completeSt q c.sqe.tag (.vendor 0xC2) d
  else
    let all := committedBytes n d
    let part := slice all off (len - 16)
    complete q c.sqe.tag .success part.length 0 (padTo len (leBytes 8 (slotWord s) ++ leBytes 8 all.length ++ part)) d

/-- GET_LONG_OPERATION_RESULTS. -/
def execGetLongOperationResults (q : QueueRef) (c : Capsule) (s : State) : Host.Outcome State Fault Refusal :=
  next s (adminCmd q c fun a d => if a.discovery then completeSt q c.sqe.tag .invalidField d else longResults q c d)

/-! ## Snapshot commands (R160, R467, R471) -/

/-- Snapshot create of a partner with read-write access. -/
def createCmd (q : QueueRef) (c : Capsule) (d : Device) : Device :=
  if denied q 2 false d then completeSt q c.sqe.tag (.vendor 0xC2) d else snapshotCreate q c d

/-- SNAPSHOT_CREATE. -/
def execSnapshotCreate (q : QueueRef) (c : Capsule) (s : State) : Host.Outcome State Fault Refusal := next s (adminCmd q c fun _ => createCmd q c)

/-- Snapshot delete of a partner with read-write access. -/
def deleteCmd (q : QueueRef) (c : Capsule) (d : Device) : Device :=
  if denied q 2 false d then completeSt q c.sqe.tag (.vendor 0xC2) d
  else if d.admin.sanitize.isSome then completeSt q c.sqe.tag .sanitizeInProgress d
  else snapshotDelete q c d

/-- SNAPSHOT_DELETE. -/
def execSnapshotDelete (q : QueueRef) (c : Capsule) (s : State) : Host.Outcome State Fault Refusal := next s (adminCmd q c fun _ => deleteCmd q c)

end Sys2Proof.Machine
end

