-- ==== Sys2Proof/Machine/Firmware.lean ====
section
/-! DEFINITION. Firmware update: deltas, commits, activation and health confirmation (R587 to R592, R599). -/

namespace Sys2Proof.Machine

/-! ## Download (R587) -/

/-- A part of a delta: NUMD dwords less one in CDW10, the offset in dwords in CDW11. -/
def firmwareDownload (q : QueueRef) (c : Capsule) (d : Device) : Device :=
  let len := 4 * (c.sqe.cdw10 + 1)
  let off := 4 * c.sqe.cdw11
  let held := match d.fw.delta with
    | some x => x.bytes
    | none => []
  if denied q 2 true d then completeSt q c.sqe.tag (.vendor 0xC2) d
  else if d.fw.delta.any fun x => x.partner != q.port then completeSt q c.sqe.tag .sequenceError d
  else if off != held.length || 2 ^ 24 < off + len then
    completeSt q c.sqe.tag .invalidField { d with fw := { d.fw with delta := none } }
  else if (sglData 0 c).length < len then completeSt q c.sqe.tag .transferError d
  else completeSt q c.sqe.tag .success { d with fw := { d.fw with delta := some ⟨q.port, held ++ (sglData 0 c).take len⟩ } }

/-- FIRMWARE_IMAGE_DOWNLOAD. -/
def execFirmwareImageDownload (q : QueueRef) (c : Capsule) (s : State) : Host.Outcome State Fault Refusal :=
  next s (adminCmd q c fun _ => firmwareDownload q c)

/-! ## Deltas (R588) -/

/-- Bytes added position by position, modulo 256. -/
def patchBytes (a b : Bytes) : Bytes := (a.zip b).map fun x => x.1 + x.2

/-- The operations of a delta applied to a base, from an output on; none where an operation is wrong. -/
def deltaOps (base : Bytes) : Nat → Bytes → Bytes → Option Bytes
  | 0, rest, out => if rest.isEmpty then some out else none
  | n + 1, rest, out =>
    let typ := leAt rest 0 1
    let len := leAt rest 4 4
    let src := leAt rest 8 4
    let data := slice rest 16 len
    if rest.length < 16 then none
    else if typ == 1 then (if base.length < src + len then none else deltaOps base n (rest.drop 16) (out ++ slice base src len))
    else if rest.length < 16 + align8 len then none
    else if typ == 2 then deltaOps base n (rest.drop (16 + align8 len)) (out ++ data)
    else if typ == 3 then
      (if base.length < src + len then none else deltaOps base n (rest.drop (16 + align8 len)) (out ++ patchBytes (slice base src len) data))
    else none

/-- The result image of a delta against a base, with the checks of R589. -/
def applyDelta (delta base : Bytes) (d : Device) : Option Bytes :=
  if leAt delta 0 4 != 0x4C44424D || leAt delta 4 2 != 1 || leAt delta 8 4 != Config.productCode || sha384 base != slice delta 16 48 then none
  else match deltaOps base (leAt delta 112 4) (delta.drop 128) [] with
    | none => none
    | some out =>
      if out.length == leAt delta 12 4 && sha384 out == slice delta 64 48 && imageVerifies out d then some out else none

/-! ## Commit (R589) -/

/-- Statuses of the NVMe base specification for Firmware Commit. -/
def Status.firmwareSlot : Status := ⟨1, 0x06, true⟩
def Status.firmwareImage : Status := ⟨1, 0x07, true⟩

/-- The slot in a state. -/
def slotIn (st : ImageSt) (d : Device) : Option Nat := (List.range 2).find? fun n => (slotImage n d).st == st

/-- The slot that a Commit names: 1 and 2 are A and B, 0 the one that is not ACTIVE. -/
def commitSlot (fs : Nat) (d : Device) : Option Nat :=
  if fs == 0 then (List.range 2).find? fun n => (slotImage n d).st != .active else if fs ≤ 2 then some (fs - 1) else none

/-- Event 0x1401: a Commit ends. -/
def commitEvent (failed : Bool) (slot : Nat) (d : Device) : Device := logEvent 0x1401 0x0073 0 (b2n failed * 256 + slot) d

/-- Apply the held delta into a slot, which it leaves in a state, or EMPTY. -/
def commitApply (n : Nat) (st : ImageSt) (d : Device) : Bool × Device :=
  let delta := (d.fw.delta.map (·.bytes)).getD []
  let d := { d with fw := { d.fw with delta := none } }
  let base := (slotIn .active d).map fun k => (slotImage k d).image
  match base.bind fun b => applyDelta delta b d with
  | some image => (true, onImage n (fun _ => ⟨st, image⟩) d)
  | none => (false, onImage n (fun _ => ⟨.empty, []⟩) d)

/-- The checks that every Commit meets, and then what it does to the slot named. -/
def firmwareCommit (q : QueueRef) (c : Capsule) (f : Nat → Device → Status × Device) (d : Device) : Device :=
  if denied q 2 true d then completeSt q c.sqe.tag (.vendor 0xC2) d
  else if (slotIn .trial d).isSome then completeSt q c.sqe.tag .sequenceError d
  else match commitSlot (bits c.sqe.cdw10 2 0) d with
    | none => completeSt q c.sqe.tag .firmwareSlot { d with fw := { d.fw with delta := none } }
    | some n =>
      let r := f n d
      let d := commitEvent (r.1 != .success) (n + 1) { r.2 with fw := { r.2.fw with delta := none } }
      completeSt q c.sqe.tag r.1 d

/-- Firmware Commit of the held delta: CDW10[3] selects VALID (000b) or PENDING (001b). -/
def commitDelta (q : QueueRef) (c : Capsule) : Device → Device :=
  firmwareCommit q c fun n d =>
    if (slotImage n d).st == .active then (.firmwareSlot, d)
    else
      let r := commitApply n (if bit c.sqe.cdw10 3 then .pending else .valid) d
      (if r.1 then .success else .firmwareImage, r.2)

/-- FIRMWARE_COMMIT_APPLY. -/
def execFirmwareCommitApply (q : QueueRef) (c : Capsule) (s : State) : Host.Outcome State Fault Refusal :=
  next s (adminCmd q c fun _ => commitDelta q c)

/-- Firmware Commit with action 010b. -/
def commitPending (q : QueueRef) (c : Capsule) : Device → Device :=
  firmwareCommit q c fun n d =>
    if (slotImage n d).st == .valid then (.success, onImage n (fun x => { x with st := .pending }) d) else (.firmwareSlot, d)

/-- FIRMWARE_COMMIT_ACTIVATE. -/
def execFirmwareCommitActivate (q : QueueRef) (c : Capsule) (s : State) : Host.Outcome State Fault Refusal :=
  next s (adminCmd q c fun _ => commitPending q c)

/-! ## Activation (R590) -/

/-- A write of 1 to OD 0x2F00:06. -/
def activateFirmware (acc : Accessor) (reply : ReplyTo) (d : Device) : OdRes :=
  if (slotIn .pending d).isNone then .fail 0x08000022 d
  else
    let told := aenPost (fun _ => true) 2 1 0x03 0 d
    if d.peer.st == 1 then .done (dropLanes (quitServing told))
    else if d.peer.st == 5 then
      match powerRequest acc reply 4 told with
      | .done d => powerRequest acc reply 0 d
      | r => r
    else .fail 0x08000022 d

/-! ## Health confirmation (R591, R592) -/

/-- The TRIAL image becomes ACTIVE. -/
def confirmImage (n : Nat) (d : Device) : Device :=
  let x := slotImage n d
  let d := { d with fw := { d.fw with
    slots := d.fw.slots.map (fun s => if s.st == .active then { s with st := .valid } else if s.st == .trial then { s with st := .active } else s)
    confirmBy := none } }
  let d := odPut 0x2F00 5 (max (odVal 0x2F00 5 d) (imageSecurity x.image)) d
  persist (logEvent 0x1402 0x0073 0 (imageRevision x.image) d)

/-- A write to OD 0x2F10:01: while OD 0x2F10:03 is 1 only with a secure session; firmware's own once the device is ready. -/
def healthConfirm (acc : Accessor) (v : Nat) (d : Device) : OdRes :=
  let external := odVal 0x2F10 3 d == 1
  if v != 0x646F6F67 then .fail 0x06090030 d
  else match slotIn .trial d with
    | none => .fail 0x08000022 d
    | some n =>
      if external && !hasSession acc d then .fail 0x08000020 d
      else if wayOf acc == 0 && (external || !isReady d) then .fail 0x08000022 d
      else .done (confirmImage n d)

/-- Segments 1 to 7 have passed on a device that is ready: firmware confirms a TRIAL image itself. -/
def selfConfirm (d : Device) : Device :=
  match slotIn .trial d with
  | some n => if odVal 0x2F10 3 d == 0 && isReady d then confirmImage n d else d
  | none => d

/-- HEALTH_CONFIRM_DEADLINE: the watchdog resets the device with cause 2. -/
def execHealthConfirmDeadline (s : State) : Host.Outcome State Fault Refusal :=
  next s fun d => match d.fw.confirmBy with
    | none => d
    | some t => internalReset 2 (waitUntil t d)

end Sys2Proof.Machine
end

