-- ==== Sys2Proof/Machine/SelfTests.lean ====
section
/-! DEFINITION. Self-tests and sanitize, over both peers, and what the other peer asks of this device by FWD_CMD (R168 to R173). -/

namespace Sys2Proof.Machine

/-! ## The other peer's word (log 67) -/

/-- The part of the other peer: whether it went well, and completion dword 0. None while it runs. -/
def peerWord (who : Nat) (sqe : Sqe) (d : Device) : Option (Bool × Nat) × Device :=
  match answerOf who d with
  | some f => (some (f.sct == 0 && f.sc == 0, f.dw0), dropAnswer who d)
  | none =>
    if noServingPeer d then (some (true, 0), d)
    else if isAsked who d || !pairUp d then (none, d) else (none, askPeer who sqe [] d)

/-! ## Self-test (R168 to R172) -/

def Status.selfTestInProgress : Status := ⟨1, 0x1D, false⟩

/-- Segments of a kind. -/
def segmentsOf (kind : Nat) : Nat := if kind == 2 then 8 else 7

/-- A self-test begins: the device stays in an operational power state. -/
def beginSelfTest (kind starter : Nat) (slot fwd : Option Nat) (d : Device) : Device :=
  let t : SelfTest := ⟨kind, starter, 0, 0, slot, d.time.now, fwd⟩
  ioActivity { d with admin := { d.admin with selfTest := some t } }

/-- Device Self-test with code 1 or 2. -/
def startSelfTest (q : QueueRef) (c : Capsule) (kind : Nat) (d : Device) : Device :=
  if denied q 2 false d then completeSt q c.sqe.tag (.vendor 0xC2) d
  else if c.sqe.nsid != 0 && c.sqe.nsid != 0xFFFFFFFF then completeSt q c.sqe.tag .invalidField d
  else if d.admin.selfTest.isSome then completeSt q c.sqe.tag .selfTestInProgress d
  else if d.admin.sanitize.isSome then completeSt q c.sqe.tag .sanitizeInProgress d
  else if kind == 1 then completeSt q c.sqe.tag .success (peerWord 96 (ownSqe 0x14 0 1 0 0 0) (beginSelfTest 1 q.port none none (dropAsked 96 d))).2
  else match takeSlot 2 .selfTest (some q.port) d with
    | none => completeSt q c.sqe.tag .interrupted d
    | some (n, d) =>
      let d := (peerWord 96 (ownSqe 0x14 0 2 0 0 0) (beginSelfTest 2 q.port (some n) none (dropAsked 96 d))).2
      complete q c.sqe.tag .success (slotHandle n d) 0 [] d

/-- SHORT_SELF_TEST. -/
def execShortSelfTest (q : QueueRef) (c : Capsule) (s : State) : Host.Outcome State Fault Refusal :=
  next s (adminCmd q c fun _ => startSelfTest q c 1)

/-- EXTENDED_SELF_TEST. -/
def execExtendedSelfTest (q : QueueRef) (c : Capsule) (s : State) : Host.Outcome State Fault Refusal :=
  next s (adminCmd q c fun _ => startSelfTest q c 2)

/-- Device Self-test with code 0xF: the test that this partner started ends; another's runs on. -/
def abortSelfTest (q : QueueRef) (c : Capsule) (d : Device) : Device :=
  if denied q 2 false d then completeSt q c.sqe.tag (.vendor 0xC2) d
  else if c.sqe.nsid != 0 && c.sqe.nsid != 0xFFFFFFFF then completeSt q c.sqe.tag .invalidField d
  else
    let mine := d.admin.selfTest.any fun t => t.starter == q.port && t.fwd.isNone
    completeSt q c.sqe.tag .success (if mine then stopSelfTest 1 d else d)

/-- SELF_TEST_ABORT. -/
def execSelfTestAbort (q : QueueRef) (c : Capsule) (s : State) : Host.Outcome State Fault Refusal := next s (adminCmd q c fun _ => abortSelfTest q c)

/-- Segment 8 here: every group is scrubbed; a lost stripe fails it. -/
def scrubAll (d : Device) : Bool × Device :=
  (List.range 16).foldl (fun a g => let r := scrubGroup g a.2; (a.1 && r.1.lost == 0, r.2)) (true, d)

/-- The test is over once its segments are, here and at the other peer. -/
def finishSelfTest (t : SelfTest) (d : Device) : Device :=
  if t.segment < segmentsOf t.kind then d
  else if t.fwd.isSome then endSelfTest 0 0 d
  else
    let r := peerWord 96 (ownSqe 0x14 0 t.kind 0 0 0) d
    match r.1 with
    | none => r.2
    | some (_, there) =>
      let first := if t.firstFailure == 0 then there else if there == 0 then t.firstFailure else min t.firstFailure there
      let d := endSelfTest (if first == 0 then 0 else 7) first r.2
      if t.firstFailure == 0 || t.firstFailure == 8 then selfConfirm d else d

/-- Segments 1 to 7 (R169): 6 reads every copy of the journal, 7 needs the link and the lock of the timebase and is skipped without a
serving peer; `ok`: what the units tested answer. -/
def segmentPasses (n : Nat) (ok : Bool) (d : Device) : Bool :=
  if n == 6 then ok && localCopies d == 3 && (d.stripe.copy3 || noServingPeer d)
  else if n == 7 then noServingPeer d || (ok && linkIsUp d && timebaseLocked d)
  else ok

/-- The next segment ends, with or without a failure. -/
def selfTestSegment (ok : Bool) (d : Device) : Device :=
  match d.admin.selfTest with
  | none => d
  | some t =>
    if segmentsOf t.kind ≤ t.segment then finishSelfTest t d
    else
      let n := t.segment + 1
      let r := if n == 8 then (let x := scrubAll d; (ok && x.1, x.2)) else (segmentPasses n ok d, d)
      let t := { t with segment := n, firstFailure := if !r.1 && t.firstFailure == 0 then n else t.firstFailure }
      finishSelfTest t { r.2 with admin := { r.2.admin with selfTest := some t } }

/-- SELF_TEST_SEGMENT. -/
def execSelfTestSegment (ok : Bool) (s : State) : Host.Outcome State Fault Refusal := next s (selfTestSegment ok)

/-! ## Sanitize (R173) -/

/-- Secure firmware loads a fresh key into each namespace's slot. -/
def renewSlots (d : Device) : Device :=
  let nss := ((List.range 1024).map (· + 1)).filter fun n => nsDefined n d
  nss.foldl (fun d n => let s := nsSlot n d; if (slotOf s d).st == .empty then renewKey s (nsTenant n d) d else d) d

/-- Long operations in state 1 or 2 end in state 5. -/
def endLongOps (d : Device) : Device :=
  ((List.range 64).filter fun n => let s := (longSlot n d).state; s == 1 || s == 2).foldl
    (fun d n => endSlot n 5 (dropAsked n (stopCycle n d))) d

/-- Commands outstanding and creates that wait complete with Sanitize In Progress. -/
def endCommands (d : Device) : Device :=
  let out := d.nvme.cmds.filter fun c => c.parent.isNone && c.q.qid != 0
  let d := out.foldl (fun d c => failCmd c.id .sanitizeInProgress 0 d) d
  d.snap.creates.foldl (fun d c => if c.session.isSome then d else completeSt c.q c.tag .sanitizeInProgress d) d

/-- A sanitize begins here: 2 block erase, 4 crypto erase. -/
def beginSanitize (action cdw10 : Nat) (fwd : Option Nat) (d : Device) : Device :=
  let d := endCommands (endLongOps (stopSelfTest 9 d))
  let z : Sanitize := ⟨action, cdw10, d.time.now, fwd⟩
  let d := { d with admin := { d.admin with sanitize := some z, sanitizeStatus := 2, sanitizeDw10 := cdw10 } }
  wipe z d

/-- The other peer's part of a sanitize. -/
def sanitizeSqe (z : Sanitize) : Sqe := ownSqe 0x84 0 (z.cdw10 / 8 * 8 + z.action) 0 0 0

/-- Sanitize with an action that erases. -/
def startSanitize (q : QueueRef) (c : Capsule) (action : Nat) (d : Device) : Device :=
  if denied q 2 true d then completeSt q c.sqe.tag (.vendor 0xC2) d
  else if d.admin.sanitize.isSome then completeSt q c.sqe.tag .sanitizeInProgress d
  else if d.peer.st == 2 then completeSt q c.sqe.tag .sequenceError d
  else
    let d := beginSanitize action c.sqe.cdw10 none (dropAsked 97 d)
    completeSt q c.sqe.tag .success (peerWord 97 (sanitizeSqe ⟨action, c.sqe.cdw10, 0, none⟩) d).2

/-- SANITIZE_BLOCK_ERASE. -/
def execSanitizeBlockErase (q : QueueRef) (c : Capsule) (s : State) : Host.Outcome State Fault Refusal :=
  next s (adminCmd q c fun _ => startSanitize q c 2)

/-- SANITIZE_CRYPTO_ERASE. -/
def execSanitizeCryptoErase (q : QueueRef) (c : Capsule) (s : State) : Host.Outcome State Fault Refusal :=
  next s (adminCmd q c fun _ => startSanitize q c 4)

/-- Sanitize with action 001b. -/
def exitFailureMode (q : QueueRef) (c : Capsule) (d : Device) : Device :=
  if denied q 2 true d then completeSt q c.sqe.tag (.vendor 0xC2) d
  else if d.admin.sanitize.isSome then completeSt q c.sqe.tag .sanitizeInProgress d
  else if d.admin.sanitizeFailed && d.admin.sanitizeFailedAuse then
    completeSt q c.sqe.tag .success { d with admin := { d.admin with sanitizeFailed := false, sanitizeFailedAuse := false } }
  else completeSt q c.sqe.tag .sequenceError d

/-- SANITIZE_EXIT_FAILURE_MODE. -/
def execSanitizeExitFailureMode (q : QueueRef) (c : Capsule) (s : State) : Host.Outcome State Fault Refusal :=
  next s (adminCmd q c fun _ => exitFailureMode q c)

/-- The sanitize has ended on both peers, or its part here. Status 4: No-Deallocate had been asked for. -/
def endSanitize (z : Sanitize) (ok : Bool) (d : Device) : Device :=
  let d := if ok then renewSlots d else d
  let a := d.admin
  let a := if ok then
      { a with sanitizeFailed := false, sanitizeFailedAuse := false, sanitizeStatus := if bit z.cdw10 9 then 4 else 1
               sanitizeCount := a.sanitizeCount + 1, sanitizedAt := tick d }
    else { a with sanitizeFailed := true, sanitizeFailedAuse := bit z.cdw10 3, sanitizeStatus := 3 }
  let d := { d with admin := { a with sanitize := none } }
  let d := aenPost (fun _ => true) 2 Config.sanitizeNotice.toNat 0x81 0 d
  let d := match z.fwd with
    | some f => sendLink (.fwdCompletion f 0 (if ok then 0 else 6) false 0 0 0) d
    | none => d
  settle (persist (restartIdle d))

/-- A running sanitize ends here; the device that coordinates it waits for the other peer. -/
def sanitizeComplete (ok : Bool) (d : Device) : Device :=
  match d.admin.sanitize with
  | none => d
  | some z =>
    if !isReady d then d
    else if z.fwd.isSome then endSanitize z ok d
    else
      let r := peerWord 97 (sanitizeSqe z) d
      match r.1 with
      | none => r.2
      | some (there, _) => endSanitize z (ok && there) r.2

/-- SANITIZE_COMPLETE. -/
def execSanitizeComplete (ok : Bool) (s : State) : Host.Outcome State Fault Refusal := next s (sanitizeComplete ok)

/-! ## Requests of the other peer on queue 0 (log 67) -/

/-- Answer a request at once. -/
def answerPeer (f sct sc : Nat) (data : Bytes) (d : Device) : Device :=
  let d := if data.isEmpty then d else sendLink (.fwdData f 0 data) d
  sendLink (.fwdCompletion f sct sc false 0 0 data.length) d

/-- The part of a self-test that the other peer coordinates: code 1 or 2, 0xF to end it. -/
def peerSelfTest (f code : Nat) (d : Device) : Device :=
  if code == 0xF then answerPeer f 0 0 [] (if d.admin.selfTest.any (·.fwd.isSome) then endSelfTest 1 0 d else d)
  else if d.admin.selfTest.isSome then answerPeer f 1 0x1D [] d
  else beginSelfTest code 255 none (some f) d

/-- The part of a sanitize that the other peer coordinates. -/
def peerSanitize (f cdw10 : Nat) (d : Device) : Device :=
  match d.admin.sanitize with
  | some z => { d with admin := { d.admin with sanitize := some { z with fwd := some f } } }
  | none => beginSanitize (cdw10 % 8) cdw10 (some f) d

/-- A request of the other peer's own. -/
def peerRequest (f : Nat) (c : Capsule) (d : Device) : Device :=
  let s := c.sqe
  if s.opcode == 0xC4 && (s.cdw10 == 1 || s.cdw10 == 3) then answerPeer f 0 0 (((nextHere (requestedOp c) d).map (·.2)).getD []) d
  else if s.opcode == 0xC4 && s.cdw10 == 5 then
    let r := scrubGroup (s.cdw11 % 16) d
    answerPeer f 0 0 (scrubBytes r.1) r.2
  else if s.opcode == 0x14 then peerSelfTest f s.cdw10 d
  else if s.opcode == 0x84 then peerSanitize f s.cdw10 d
  else answerPeer f 0 1 [] d

/-- FWD_CMD. -/
def execFwdCmd (h : FrameHdr) (m : FwdCmdMsg) (s : State) : Host.Outcome State Fault Refusal :=
  next s (acceptFrame h 2 (if m.q.qid == 0 && m.q.port == 255 then peerRequest m.fwd m.c else fwdCmd m))

end Sys2Proof.Machine
end

