-- ==== Sys2Proof/Machine/DictRead.lean ====
section
/-! DEFINITION. Reads of the dictionary: what each derived entry and window record shows, and what a read clears (R55 to R72, R77,
R83, R118, R119, and each chapter's own entries). -/

namespace Sys2Proof.Machine

/-! ## Derived entries (R65) -/

/-- OD 0x2010:01 (R83). -/
def deviceState (d : Device) : Nat :=
  match d.power.run with
  | .ready => if bit d.conditions 6 then 2 else 1
  | .dormant => 3
  | .halted => 4
  | _ => 0

/-- A difference in 1/128 tick, in ps. -/
def psOf (n : Int) : Int := n * 1250 / 128

/-- A capture record (R104). -/
def captureBytes (r : CaptureRecord) : Bytes :=
  leBytes 8 r.tick ++ leBytes 2 r.length ++ leBytes 1 r.status ++ List.replicate 5 0 ++ padTo 128 r.data

/-- OD 0x2300+p:0F. -/
def captureRing (p : Nat) (d : Device) : Bytes := padTo 73728 ((portOf p d).ring.flatMap captureBytes)

/-- Live keys of a namespace on both peers; 0 names all of them (R159). -/
def keysOfPair (ns : Nat) (d : Device) : Nat :=
  let mine := if ns == 0 then (((List.range 1024).map fun n => liveKeys (n + 1) d)).sum else liveKeys ns d
  mine + (if noServingPeer d then 0 else Config.peerKeys ns (tick d))

/-- Copies that this device owns and that are not DEAD, of a domain or of all (R215, R216). -/
def liveCopies (dom : Option Nat) (d : Device) : Nat :=
  (d.kv.copies.filter fun c => !c.dead && (dom.isNone || dom == some c.domain) && ownsFp c.fp d).length

/-- Greatest spread of erase counts among the owned channels (R354). -/
def eraseSpread (d : Device) : Nat :=
  ((List.range 128).map fun c =>
    let es := (d.map.blocks.filter fun b => b.channel == c && b.st < 4 && ownsChannel c d).map (·.erases)
    match es with
    | [] => 0
    | x :: xs => xs.foldl max x - xs.foldl min x).foldl max 0

/-- Bytes of write-through records held (OD 0x2A20:04). -/
def writeThroughBytes (d : Device) : Nat := ((d.map.flushItems.filter fun i => i.flush == 0 && !i.released).map (·.bytes)).sum

/-- OD 0x2D30:01: bit b set when bucket b homes on side B. -/
def bucketHomes (d : Device) : Bytes :=
  (List.range 512).map fun i => BitVec.ofNat 8 ((List.range 8).map fun j => homeOf (8 * i + j) d * 2 ^ j).sum

/-- Start-up has gone past a step; the entries that a step sets hold their defaults before it (R15). -/
def pastStep (n : Nat) (d : Device) : Bool :=
  d.power.run == .ready || d.power.run == .dormant || d.power.run == .halted || (d.power.run == .starting && n < d.power.stage)

/-- OD 0x2F30 (R518); the default before step 4 of start-up. -/
def engineWord (e : Nat) (d : Device) : Nat :=
  if !pastStep 4 d then 0 else
  let x := d.eng.engines.getD e Engine.blank
  let checks := (x.checks.filter fun t => d.time.now < t + sec 3600).length
  let w := x.ctx.desc
  x.st % 256 * 2 ^ 24 + min checks 255 * 2 ^ 16 + ((w.map (·.opcode)).getD 0) % 256 * 2 ^ 8 + ((w.map (·.cls)).getD 0) % 8

/-- OD 0x3340 (R486). -/
def sessionStatus (x : ReplSession) : Nat :=
  x.baseTick * 2 ^ 448 + x.currentTick * 2 ^ 384 + x.keysStored * 2 ^ 320 + x.keysDeleted * 2 ^ 256 + x.bytesSent * 2 ^ 192 +
    x.lastDone * 2 ^ 128 + x.skipped % 2 ^ 32 * 2 ^ 96 + (x.base.getD 0) % 4096 * 2 ^ 84 + (x.current.getD 0) % 4096 * 2 ^ 72 +
    min x.retries 65535 * 2 ^ 56 + x.lastSct % 8 * 2 ^ 48 + x.lastSc % 256 * 2 ^ 40 + x.st % 8

/-- OD 0x3310 (R484). -/
def snapBytes (n : Nat) (d : Device) : Bytes :=
  match snapOf n d with
  | none => leBytes 32 0
  | some s => leBytes 32 (s.cut * 2 ^ 192 + s.expiry * 2 ^ 128 + s.ns * 2 ^ 96 + holdsOf n d % 65536 * 2 ^ 80 +
      s.session.getD 0 % 16 * 2 ^ 64 + b2n s.session.isSome * 128 + s.st % 4)

/-- A stripe record of log 0xC2, and of OD 0x2920 (R307). -/
def lostBytes (r : LostRecord) : Bytes :=
  leBytes 4 (0x10000 + 48) ++ leBytes 1 r.cause ++ leBytes 1 r.cls ++ [0, 0] ++ leBytes 8 r.stripe ++ leBytes 8 r.tick ++
    leBytes 4 r.bitmap ++ leBytes 4 r.copies ++ leBytes 4 r.keys ++ leBytes 4 (b2n r.scanDone) ++ leBytes 8 r.seq

/-- The record that a window shows (R72). -/
def windowRecord (win sel : Nat) (d : Device) : Bytes :=
  if win == 0x2510 then leBytes 8 (nsRecord (sel + 1) d) ++ leBytes 8 (keysOfPair (sel + 1) d)
  else if win == 0x2620 then
    leBytes 4 (domainTenant sel d) ++ leBytes 4 (b2n (tblGet? d.kv.salts sel).isSome) ++
      leBytes 8 (liveCopies (some sel) d + (if noServingPeer d then 0 else Config.peerCopies sel (tick d)))
  else if win == 0x2810 then slotBytes (slotOf sel d)
  else if win == 0x2920 then ((d.stripe.lostStripes[sel]?).map lostBytes).getD (leBytes 48 0)
  else if win == 0x2B20 then searchBytes (searchEntry sel d)
  else if win == 0x2C10 then boardBytes (boardEntry sel d)
  else if win == 0x3310 then snapBytes sel d
  else leBytes (((odEntry? win 2).map fun e => e.typ.size).getD 0) (odSel win 2 sel d)

/-- Entries whose value a unit holds or the device derives, as numbers; the others lie in the value store. -/
def derivedWord (acc : Accessor) (idx sub : Nat) (d : Device) : Option Nat :=
  match idx, sub with
  | 0x1001, 0 => some (errorRegister d)
  | 0x2000, 1 => some d.side
  | 0x2000, 2 => some d.nodeId
  | 0x2010, 0x01 => some (deviceState d)
  | 0x2010, 0x05 => some (guaranteeWord d)
  | 0x2010, 0x08 => some (min d.stripe.lostStripes.length (2 ^ 32 - 1))
  | 0x2010, 0x09 => some (fanBits (fun f => f.st == 5) d)
  | 0x2010, 0x0B => some (((List.range 8).map fun p => b2n (hasLink p d) * 2 ^ p).sum)
  | 0x2100, 0x01 => some d.time.counter
  | 0x2100, 0x02 => some (pairTimeState d)
  | 0x2100, 0x03 => some (toUnsigned 8 d.time.offsetPs)
  | 0x2100, 0x04 => some (toUnsigned 4 (psOf d.time.peerOff))
  | 0x2100, 0x05 => some d.time.leader
  | 0x2100, 0x0C => some d.time.grandmaster
  | 0x2100, 0x0D => some d.time.slavePort
  | 0x2100, 0x0E => some (toUnsigned 2 d.time.utcOffset)
  | 0x2100, 0x0F => some (toUnsigned 4 d.time.freqPpb)
  | 0x2100, 0x13 => some (toUnsigned 4 (psOf d.time.traceDelay))
  | 0x2100, 0x14 => some (toUnsigned 4 d.time.pathDelayNs)
  | 0x2240, 0x0C => some (b2n d.power.pwrFail + 2 * b2n d.power.holdupOk)
  | 0x2400, 0x01 => some (min (outstanding d) 65535)
  | 0x2400, 0x02 => some (min d.nvme.locks.length 65535)
  | 0x2500, 0x01 => some ((List.range 1024).filter fun n => nsDefined (n + 1) d).length
  | 0x2500, 0x02 => some (keysOfPair 0 d)
  | 0x2600, 0x0F => some (liveCopies none d)
  | 0x2640, 0x06 => some (cacheBytes d)
  | 0x2700, 0x08 => some d.cipher.disabled
  | 0x2800, 0x03 => some d.cipher.erased.length
  | 0x2800, 0x04 => some d.cipher.alarm
  | 0x2800, 0x05 => some (activeSlots d)
  | 0x2900, 0x0F => some (if isReady d then d.stripe.copies else 0x0F)
  | 0x2900, 0x10 => some (ringUse d)
  | 0x2A00, 0x08 => some (((List.range 128).map fun c => if ownsChannel c d then levelOf c d else 0).foldl max 0)
  | 0x2A00, 0x09 => some (((List.range 128).map fun c => if ownsChannel c d then (freeBlocks c d).length else 0).sum)
  | 0x2A00, 0x12 => some (eraseSpread d)
  | 0x2A20, 0x01 => some (d.map.flushArea / 2 ^ 20)
  | 0x2A20, 0x02 => some (d.map.flushFree / 2 ^ 20)
  | 0x2A20, 0x04 => some (writeThroughBytes d)
  | 0x2C00, 0x05 => some (armedCount d)
  | 0x2D00, 0x01 => some d.peer.st
  | 0x2D00, 0x02 => some d.peer.link
  | 0x2D00, 0x06 => some d.peer.homeShare
  | 0x2D00, 0x0B => some d.peer.peerRevision
  | 0x2D40, 0x01 => some d.peer.arbState
  | 0x2D40, 0x02 => some d.peer.arbDecision
  | 0x2D40, 0x03 => some d.peer.arbTick
  | 0x2E00, 0x09 => some (fanBits Fan.isLost d)
  | 0x2E00, 0x0A => some (fanBits (·.keFault) d)
  | 0x2F00, 0x01 => some d.fw.booted
  | 0x2F00, 0x02 => some (slotImage 0 d).st.code
  | 0x2F00, 0x03 => some (slotImage 1 d).st.code
  | 0x2F00, 0x04 => some (bootedRevision d)
  | 0x2F10, 0x04 => some ((d.fw.confirmBy.map fun t => (t - d.time.now) / sec 1).getD 0)
  | 0x3200, 0x05 => some (b2n (isOwned d))
  | 0x3210, 0x03 => some (b2n (d.dict.sessions.any (·.acc == acc)))
  | 0x3220, 0x03 => some (ownerBits (· == .valid) d)
  | 0x3220, 0x04 => some (ownerBits (fun s => s == .revoked || s == .spent) d)
  | 0x3240, 0x03 => some d.sec.sources
  | 0x3300, 0x01 => some d.snap.snaps.length
  | _, _ =>
    if 0x2300 ≤ idx ∧ idx ≤ 0x2307 ∧ sub == 3 then some (portOf (idx - 0x2300) d).link
    else if 0x2320 ≤ idx ∧ idx ≤ 0x2327 ∧ sub == 0x20 then some (portOf (idx - 0x2320) d).ovf
    else if 0x2320 ≤ idx ∧ idx ≤ 0x2327 ∧ 1 ≤ sub ∧ sub ≤ 0x15 then some ((portOf (idx - 0x2320) d).mac.getD (sub - 1) 0)
    else if idx == 0x2D10 ∧ 1 ≤ sub then some (d.peer.owners.getD (sub - 1) 0)
    else if idx == 0x2E20 ∧ 1 ≤ sub then some (fanStatus (sub - 1) d)
    else if idx == 0x2E30 ∧ 1 ≤ sub then some (floorNow (sub - 1) d)
    else if idx == 0x2F30 ∧ 1 ≤ sub then some (engineWord (sub - 1) d)
    else if idx == 0x3100 ∧ 1 ≤ sub then some (slotWord (longSlot (sub - 1) d))
    else if idx == 0x3340 ∧ 1 ≤ sub then some (sessionStatus (sessionOf (sub - 1) d))
    else if (windowCount idx).isSome then
      (match sub with
        | 1 => some (cursorOf acc idx d).select
        | 4 => some (cursorOf acc idx d).step
        | 5 => some (tblGetD d.dict.versions idx 0)
        | _ => none)
    else none

/-- Derived entries that are strings of bytes. -/
def derivedBytes (idx sub : Nat) (d : Device) : Option Bytes :=
  match idx, sub with
  | 0x2D30, 1 => some (bucketHomes d)
  | 0x3000, 1 => some ((d.fw.dump.map (·.bytes)).getD [])
  | 0x3200, 2 => some identityPublic
  | 0x3200, 3 => some (padTo 96 Config.attestation)
  | 0x3200, 4 => some (ownerDigest d)
  | 0x3430, 0 => some (ledgerBytes d)
  | _, _ =>
    if 0x2300 ≤ idx ∧ idx ≤ 0x2307 ∧ sub == 0x0F then some (captureRing (idx - 0x2300) d)
    else if 0x2300 ≤ idx ∧ idx ≤ 0x2307 ∧ sub == 0x11 then some subsystemNqn
    else if 0x2320 ≤ idx ∧ idx ≤ 0x2327 ∧ sub == 0x21 then some ((portOf (idx - 0x2320) d).mac.flatMap (leBytes 8))
    else if idx == 0x3220 ∧ 5 ≤ sub then some (padTo 96 (ownerOf (sub - 4) d).key)
    else if idx == 0x3440 ∧ 1 ≤ sub then some (d.media.profiles.getD (sub - 1) [])
    else none

/-- A value of the value store, in the bytes of its type (R58): a text ends before its first zero. -/
def typeBytes (idx sub v : Nat) : Bytes :=
  match odEntry? idx sub with
  | some e => match e.typ with
    | .vis n => textOf n v
    | .dom _ => []
    | t => leBytes t.size v
  | none => []

/-- The current value of an entry; `sel`: the record of a window. -/
def odCurrent (acc : Accessor) (idx sub sel : Nat) (d : Device) : Bytes :=
  if sub == 2 && (windowCount idx).isSome then windowRecord idx sel d
  else match derivedBytes idx sub d, derivedWord acc idx sub d with
    | some b, _ => b
    | none, some v => typeBytes idx sub v
    | none, none => typeBytes idx sub (odVal idx sub d)

/-! ## Reads (R63, R68, R70, R118) -/

/-- A read has taken counters of a port: they clear, with their OVF bits (R118). -/
def clearMac (p sub : Nat) (d : Device) : Device :=
  let ns := if sub == 0x21 then List.range 21 else if 1 ≤ sub ∧ sub ≤ 21 then [sub - 1] else []
  ns.foldl (fun d n =>
    clearEmcy (0x04000000 + p * 256 + (n + 1)) (Config.saturationCode % 65536)
      (onPort p (fun x => { x with mac := x.mac.set n 0, ovf := setBit x.ovf n false, ovfReported := setBit x.ovfReported n false }) d)) d

/-- What a read of a current value changes: cleared counters and the cursor of a window. -/
def afterRead (acc : Accessor) (idx sub : Nat) (d : Device) : Device :=
  if 0x2320 ≤ idx ∧ idx ≤ 0x2327 then clearMac (idx - 0x2320) sub d
  else if (idx == 0x2B00 && sub == 6) || (idx == 0x2C00 && sub == 7) then odPut idx sub 0 d
  else if sub == 2 && (windowCount idx).isSome then stepCursor acc idx d
  else d

/-- The value of an entry in the persistent area (R68): a profile, the ledger, a package and a policy entry have their home there in
other parts of the state. -/
def savedBytes (idx sub sel : Nat) (d : Device) : Bytes :=
  if idx == 0x3440 && 1 ≤ sub then d.media.profiles.getD (sub - 1) []
  else if idx == 0x3430 then ledgerBytes d
  else if idx == 0x2F28 then d.eng.patch
  else if idx == 0x2B20 && sub == 2 then searchBytes (tblGetD d.cam.nv sel .blank)
  else typeBytes idx sub (savedValue idx sub sel d)

/-- The accessor's access to an S entry keeps its session open. -/
def touchIf (acc : Accessor) (idx sub : Nat) (d : Device) : Device := if isSecret idx sub then touchSession acc d else d

/-- A read: the value, or the abort code. `select`: 0 current, 1 default, 2 saved. -/
def odRead (acc : Accessor) (idx sub select : Nat) (d : Device) : Except Nat (Bytes × Device) :=
  match readFailure acc idx sub d with
  | some c => .error c
  | none =>
    let d := touchIf acc idx sub d
    let sel := selOf acc idx sub d
    if sub == 2 && (windowCount idx).any (· ≤ sel) then .error 0x06090030
    else if select == 1 then .ok (typeBytes idx sub (odDefault d.nodeId idx sub sel), d)
    else if select == 2 then
      .ok (savedBytes idx sub sel d, d)
    else if idx == 0x3210 && sub == 1 then challengeRead acc d
    else .ok (odCurrent acc idx sub sel d, afterRead acc idx sub d)

/-- A read answered to its accessor. -/
def readRow (acc : Accessor) (idx sub : Nat) (d : Device) : Device :=
  match odRead acc idx sub 0 d with
  | .ok r => answer (.accessor acc) idx sub .ok r.1 r.1.length r.1.length r.2
  | .error c => answer (.accessor acc) idx sub (.abort c) [] 0 0 d

/-- A transfer cannot begin: its client has one under way, or four are under way (R77). -/
def transfersFull (node : Nat) (d : Device) : Bool := d.can.transfers.any (·.node == node) || 4 ≤ d.can.transfers.length

/-- A row of the dictionary: the dictionary answers at all (R94), CAN FD carries USDO (R74, R75) and its server has room (R77), a partner has an association on a port
with link, and the management access `need` (R84). -/
def odRow (acc : Accessor) (idx sub need : Nat) (f : Device → Device) (s : State) : Host.Outcome State Fault Refusal :=
  next s fun d =>
    if !dictAnswers d then d
    else match acc with
      | .can node =>
        if !emcyActive d then d
        else if transfersFull node d then emit (.od acc idx sub (.abort 0x05040005) []) d
        else f d
      | .inband p =>
        if !hasLink p d || !(d.ports.assocs.any (·.port == p)) then d
        else if managementAccess p d < need then answer (.accessor acc) idx sub (.abort 0x08000020) [] 0 0 d
        else f d
      | .firmware _ _ => f d

/-- WINDOW_RECORD_READ. -/
def execWindowRecordRead (acc : Accessor) (idx : Nat) (s : State) : Host.Outcome State Fault Refusal :=
  odRow acc idx 2 1 (readRow acc idx 2) s

/-- CHALLENGE_READ. -/
def execChallengeRead (acc : Accessor) (s : State) : Host.Outcome State Fault Refusal := odRow acc 0x3210 1 1 (readRow acc 0x3210 1) s

/-- MAC_STATISTICS_READ; `ok` false: the read fails after the sampling, and the counts are added back (R119). -/
def execMacStatisticsRead (acc : Accessor) (port sub : Nat) (ok : Bool) (s : State) : Host.Outcome State Fault Refusal :=
  odRow acc (0x2320 + port) sub 1 (fun d => if ok then readRow acc (0x2320 + port) sub d else touchIf acc (0x2320 + port) sub d) s

/-- CLEAR_ON_READ_ENTRY_READ: OD 0x2C00:07 or OD 0x2B00:06. -/
def execClearOnReadEntryRead (acc : Accessor) (board : Bool) (s : State) : Host.Outcome State Fault Refusal :=
  if board then odRow acc 0x2C00 7 1 (readRow acc 0x2C00 7) s else odRow acc 0x2B00 6 1 (readRow acc 0x2B00 6) s

end Sys2Proof.Machine
end

