-- ==== Sys2Proof/Machine/DictCheck.lean ====
section
/-! DEFINITION. The checks that the chapters give for writes of single entries (R81, R156, R175, R192, R223 to R227, R278, R357, R366,
R419, R423, R425, R426, R435, R485, R566, R582). -/

namespace Sys2Proof.Machine

/-! ## Fields that a write changes (R14) -/

/-- Writable bits of an entry that has reserved or read-only fields. -/
def writableBits (idx sub : Nat) : Option Nat :=
  if idx == 0x2410 && 1 ≤ sub then some 0xFFFFFF07
  else if idx == 0x2510 then some (0xFF * 2 ^ 40 + 0x1F * 2 ^ 32 + 0xFFF * 2 ^ 16 + 1)
  else if idx == 0x2610 then some (2 ^ 48 - 1)
  else if idx == 0x2620 then some 0xFFFF
  else if idx == 0x2630 then some 0x3FF
  else if idx == 0x2910 then some 0x8003001F
  else if idx == 0x2B10 then some 0x03FF7F00
  else if idx == 0x2B00 && sub == 5 then some 0x0F0F
  else if idx == 0x2E10 then some (2 ^ 128 - 1 - 0x070F)
  else if idx == 0x2230 && 2 ≤ sub then some 0xFFFFFFF8
  else if 0x2300 ≤ idx && idx ≤ 0x2307 && sub == 5 then some 3
  else if idx == 0x3240 && sub == 2 then some 1
  else if idx == 0x3320 then some (2 ^ 512 - 1 - (2 ^ 288 - 2 ^ 24) - (2 ^ 15 - 2 ^ 7) - 2)
  else if idx == 0x3420 then some 0x1FF
  else none

/-- A written number without its reserved bits. -/
def writtenWord (idx sub n : Nat) : Nat :=
  match writableBits idx sub with
  | some m => n &&& m
  | none => n

/-! ## Namespaces, bindings and domains (R156, R192) -/

/-- The namespace holds a key or a snapshot. -/
def nsHolds (ns : Nat) (d : Device) : Bool := liveKeys ns d != 0 || d.snap.snaps.any fun s => s.ns == ns && s.st != 0 && !s.ended

/-- One of its long operations or replication sessions is in state 1 or 2. -/
def nsBusy (ns : Nat) (d : Device) : Bool :=
  (d.admin.slots.any fun s => (s.state == 1 || s.state == 2) && (opNamespaces s.op d).contains ns) ||
    (List.range 16).any fun n => sessionNs n d == ns && ((sessionOf n d).st == 1 || (sessionOf n d).st == 2)

/-- The slot is ACTIVE under the tenant of the namespace's domain. -/
def slotFits (ns slot : Nat) (d : Device) : Bool := (slotOf slot d).st == .active && (slotOf slot d).tenant == nsTenant ns d

/-- R156, for the record of namespace `ns` written as `n`. -/
def namespaceCheck (ns n : Nat) (d : Device) : Option Nat :=
  let was := nsDefined ns d
  let is := bit n 0
  let slot := bits n 27 16
  let cls := bits n 36 32
  let ports := bits n 47 40
  if d.admin.sanitize.isSome then some 0x08000022
  else if cls == 0 then some 0x06090030
  else if !was && is && !(slotFits ns slot d && classEnabled cls d) then some 0x08000022
  else if was && !is && (ports != 0 || nsHolds ns d || nsBusy ns d) then some 0x08000022
  else if !was && !is && ports != 0 then some 0x08000022
  else if cls != nsClass ns d && !classEnabled cls d then some 0x08000022
  else if was && is && slot != nsSlot ns d && !slotFits ns slot d then some 0x08000022
  else none

/-- R192, for a binding of namespace `ns`. -/
def bindingCheck (ns n : Nat) (d : Device) : Option Nat :=
  if 1023 < n then some 0x06090030
  else if nsHolds ns d || nsBusy ns d then some 0x08000022
  else none

/-- R192, for the tenant of a domain. -/
def domainCheck (dom n : Nat) (d : Device) : Option Nat :=
  let holds := (List.range 1024).any fun k => nsDomain (k + 1) d == dom && nsHolds (k + 1) d
  if n % 65536 != domainTenant dom d && ((d.kv.copies.any fun c => c.domain == dom && !c.dead) || holds) then some 0x08000022 else none

/-! ## Stripe classes (R278, R356) -/

/-- A namespace, a live policy rule or the map names the class. -/
def classNamed (c : Nat) (d : Device) : Bool :=
  ((List.range 1024).any fun n => nsDefined (n + 1) d && nsClass (n + 1) d == c) ||
    (d.cam.dram.any fun e => typeOf e.1 d == 2 && matchable e.2 && policyClass e.2.data == c) || odVal 0x2A00 4 d == c

def classCheck (c n : Nat) (d : Device) : Option Nat :=
  if bits n 4 0 < 4 || 30 < bits n 4 0 then some 0x06090030
  else if !bit n 31 && classNamed c d then some 0x08000022
  else none

/-! ## The search engine (R223 to R227, R234) -/

/-- Two runs of blocks share a block. -/
def blocksMeet (a b : Nat) : Bool :=
  partSize a != 0 && partSize b != 0 && partBase a < partBase b + partSize b && partBase b < partBase a + partSize a

/-- R223, for partition `p` written as `n`. -/
def partitionCheck (p n : Nat) (d : Device) : Option Nat :=
  let others := (List.range 16).filter (· != p)
  let t := partType n
  if 127 < partBase n + partSize n then some 0x06090030
  else if others.any fun o => blocksMeet n (partRecord o d) then some 0x06090030
  else if (t == 1 || t == 3) && others.any fun o => partType (partRecord o d) == t then some 0x06090030
  else if t == 0 && partSize n != 0 then some 0x06090030
  else none

/-- The engine is idle (R225). -/
def searchIdle (d : Device) : Bool := outstanding d == 0 && !d.admin.slots.any (·.state == 2)

/-- R224, R227, for a record of the entry window. -/
def searchEntryCheck (i : Nat) (d : Device) : Option Nat :=
  match typeOf i d with
  | 2 => none
  | 0 => some 0x06090030
  | _ => some 0x06010002

/-- A group command for partition `p` has been placed and has not launched. -/
def groupPending (p : Nat) (d : Device) : Bool :=
  let is := fun e : BoardEntry => e.action == 0x0D && e.arg % 16 == p
  (d.board.entries.any fun e => is e.2 && e.2.state == 1) || (d.board.placing.any fun x => is x.body) || d.board.waiting.any fun x => is x.body

/-- R234, R241. -/
def groupCheck (n : Nat) (d : Device) : Option Nat :=
  let p := bits n 3 0
  if bits n 11 8 != 1 && bits n 11 8 != 2 then some 0x06090030
  else if partType (partRecord p d) != 2 then some 0x06090030
  else if groupPending p d then some 0x08000022
  else none

/-! ## The departure board (R415, R419, R427) -/

/-- Actions that firmware alone may place. -/
def firmwareAction (a : Nat) : Bool := (1 ≤ a && a ≤ 9) || (0x0C ≤ a && a ≤ 0x0F)

/-- A user's write of entry `i`. -/
def boardCheck (i : Nat) (v : Bytes) (d : Device) : Option Nat :=
  let e := boardWritten (boardEntry i d) v
  if i < 3072 then some 0x06010002
  else if e.urgent || firmwareAction e.action then some 0x06090030
  else if e.state != 1 then none
  else if !userActionOk e || (e.period != 0 && e.period < 16) then some 0x06090030
  else if e.launch < d.time.counter + (if e.paired then pairingLead d else 64) then some 0x06090030
  else if e.paired && (sharedWay d).isNone then some 0x08000022
  else none

/-! ## Ports, replication sessions and the map (R99, R435, R485) -/

/-- Ranges of a session's configuration. -/
def sessionRange (n : Nat) : Bool :=
  1 ≤ bits n 303 288 && bits n 303 288 ≤ 10080 && bits n 19 16 < 8 && (bits n 23 20 < 8 || bits n 23 20 == 15)

/-- R485, as far as this device can tell: the mode of a port of its own side. -/
def sessionCheck (n : Nat) (d : Device) : Option Nat :=
  if !sessionRange n then some 0x06090030
  else if bit n 0 && b2n (bit n 15) == d.side && portMode (bits n 19 16) d != 2 then some 0x08000022
  else none

/-- States in which a session is idle. -/
def sessionIdle (n : Nat) (d : Device) : Bool :=
  let st := (sessionOf n d).st
  st == 0 || st == 1 || st == 5

/-- R435: both peers keep channels in at least 3 groups. -/
def mapCheck (g n : Nat) (d : Device) : Option Nat :=
  let map := (preferredMap d).set g n
  if (map.filter (· != 0xFF)).length < 3 || (map.filter (· != 0)).length < 3 then some 0x06090030 else none

/-! ## Profiles (R362, R366) -/

/-- A group bound to the slot is powered. -/
def slotPowered (slot : Nat) (d : Device) : Bool := (List.range 16).any fun g => binding g d == slot && domainOn g d

/-- R366, for a binding of group `g`. -/
def groupBindingCheck (g n : Nat) (d : Device) : Option Nat :=
  let new := if n < 4 then d.media.profiles.getD n [] else []
  if 3 < n && n != 0xFF then some 0x06090030
  else if (d.map.blocks.any fun b => b.channel / 8 == g && b.st != 0) && !sameMedium ((profileOf g d).getD []) new then some 0x08000022
  else none

/-! ## Power, time and fans (R175, R425, R566, R582) -/

/-- R175, for the entry of state `s`. -/
def apstOk (s n : Nat) : Bool := bits n 31 8 == 0 || (s < bits n 7 3 && 2 ≤ bits n 7 3 && bits n 7 3 ≤ 3)

/-- Field ranges of OD 0x2E10. -/
def fanConfigOk (n : Nat) : Bool :=
  (1000 ≤ bits n 127 112 && bits n 127 112 ≤ 30000) && (100 ≤ bits n 95 80 && bits n 95 80 ≤ 20000) &&
    (1 ≤ bits n 79 72 && bits n 79 72 ≤ 50) && 20 ≤ bits n 71 64 && (5 ≤ bits n 31 24 && bits n 31 24 ≤ 250) &&
    bits n 23 16 ≤ 50 && bits n 15 11 ≤ 30 && 1 ≤ bits n 7 4

/-- A fan in state 0, 8 or 9. -/
def fanIdle (n : Nat) (d : Device) : Bool :=
  let st := (fanOf n d).st
  st == 0 || st == 8 || st == 9

/-! ## TPDO mapping (R81) -/

/-- Bytes of a mapped health-summary entry; none where the value names another entry or length. -/
def mappedBytes (n : Nat) : Option Nat :=
  let sub := bits n 15 8
  if bits n 31 16 != 0x2010 || sub == 0 || 0x0E < sub then none
  else match odEntry? 0x2010 sub with
    | some e => if bits n 7 0 == 8 * e.typ.size then some e.typ.size else none
    | none => none

/-- Bytes of a TPDO after a write of mapping subindex `sub`. -/
def tpdoBytes (idx sub n : Nat) (d : Device) : Nat :=
  let count := if sub == 0 then n else odVal idx 0 d
  ((List.range count).map fun i => (mappedBytes (if i + 1 == sub then n else odVal idx (i + 1) d)).getD 0).sum

def mappingCheck (idx sub n : Nat) (d : Device) : Option Nat :=
  if d.can.nmt != .preOperational then some 0x08000022
  else if sub != 0 && (mappedBytes n).isNone then some 0x06040041
  else if 64 < tpdoBytes idx sub n d then some 0x06040041
  else none

/-! ## All of them -/

/-- Why an entry refuses a value of the right form, or none. `n`: the number that the value spells. -/
def entryCheck (idx sub sel : Nat) (v : Bytes) (d : Device) : Option Nat :=
  let n := leNat v
  let range := fun ok : Bool => if ok then none else some 0x06090030
  if idx == 0x2510 then namespaceCheck (sel + 1) n d
  else if idx == 0x2610 then (if sel < 256 then some 0x06010002 else none)
  else if idx == 0x2620 then domainCheck sel n d
  else if idx == 0x2630 then bindingCheck (sel + 1) n d
  else if idx == 0x2910 then classCheck sub n d
  else if idx == 0x2B10 then partitionCheck (sub - 1) (writtenWord idx sub n) d
  else if idx == 0x2B20 then searchEntryCheck sel d
  else if idx == 0x2C10 then boardCheck sel v d
  else if idx == 0x2D18 then mapCheck (sub - 1) n d
  else if idx == 0x3320 then sessionCheck n d
  else if idx == 0x3448 then groupBindingCheck (sub - 1) n d
  else if idx == 0x2E10 then range (fanConfigOk n)
  else if 0x1A00 ≤ idx && idx ≤ 0x1A03 then mappingCheck idx sub n d
  else match idx, sub with
    | 0x2B00, 5 => groupCheck n d
    | 0x2A00, 4 => range (classEnabled n d)
    | 0x2A10, 1 => range (decide (odVal 0x2A10 2 d < n))
    | 0x2A10, 2 => range (decide (n < odVal 0x2A10 1 d))
    | 0x2C00, 1 => range (800000 % n == 0)
    | 0x2C00, 8 => range (n % 800000 == 0)
    | 0x2100, 0x0A => range (decide (odVal 0x2100 9 d < n))
    | 0x2240, 8 => range (n == 0 || 100 ≤ n)
    | 0x2240, 9 => range (n == 0 || 1000 ≤ n)
    | 0x2E00, 4 => range (decide (odVal 0x2E00 3 d < n))
    | 0x2E00, 6 => range (decide (odVal 0x2E00 5 d < n))
    | _, _ => if idx == 0x2230 && 2 ≤ sub then range (apstOk (sub - 2) n) else none

/-- The unit that owns an entry with L is idle (R60, R99, R225, R366, R485, R582). -/
def unitIdle (idx sub : Nat) (d : Device) : Bool :=
  if 0x2300 ≤ idx && idx ≤ 0x2307 then portIdle (idx - 0x2300) d
  else if idx == 0x2B10 then searchIdle d
  else if idx == 0x2E00 then (List.range 6).all fun n => fanIdle n d
  else if idx == 0x2E10 then fanIdle (sub - 1) d
  else if idx == 0x3320 || idx == 0x3330 then sessionIdle (sub - 1) d
  else if idx == 0x3440 then !slotPowered (sub - 1) d
  else if idx == 0x3448 then !domainOn (sub - 1) d
  else true

end Sys2Proof.Machine
end

