-- ==== Sys2Proof/Machine/DictWrite.lean ====
section
/-! DEFINITION. Writes of dictionary entries: their checks, their effect here and on the other peer, and the rows that write one entry
(R62, R63, R69 to R72, R104, R187, R188, R225, R234, R265, R308, R362, R366, R382, R419 to R427, R441 to R443, R457, R471, R512 to R515,
R547 to R551). -/

namespace Sys2Proof.Machine

/-! ## The effect of a checked value -/

/-- The number that a value is kept as (R58): a text ends before its first zero. -/
def storedNumber (idx sub : Nat) (v : Bytes) : Nat :=
  match odEntry? idx sub with
  | none => leNat v
  | some e => match e.typ with
    | .vis _ => leNat (v.takeWhile (· != 0))
    | _ => writtenWord idx sub (leNat v)

/-- A partition's range or type changes from `was` to `now`: the entries of both ranges become invalid (R225). -/
def partitionChanged (was now : Nat) (d : Device) : Device :=
  if partType was == partType now && partBase was == partBase now && partSize was == partSize now then d
  else
    let gone := fun i => inPart was i || inPart now i
    let left := fun i => partType was == 2 && inPart was i
    bumpVersion 0x2B20 { d with cam := { d.cam with
      entries := dropEntries gone d.cam.entries, dram := dropEntries gone d.cam.dram, nv := dropEntries left d.cam.nv } }

/-- What happens in the owning unit before the value changes. -/
def beforeStore (idx sub v : Nat) (d : Device) : Device :=
  if idx == 0x2910 then closeGathers (fun g => g.cls == sub) d
  else if idx == 0x2B10 then partitionChanged (odVal 0x2B10 sub d) v d
  else d

/-- What happens in the owning unit after it; `was`: the value before. -/
def afterStore (idx sub was : Nat) (d : Device) : Device :=
  if idx == 0x1016 then { d with can := { d.can with lastHeartbeat := d.time.now } }
  else if idx == 0x1017 then { d with can := { d.can with heartbeatSent := d.time.now } }
  else if idx == 0x2010 then refreshTemps d
  else if idx == 0x2C00 && sub == 1 then { d with board := { d.board with periodFrom := nextHandoverTick d } }
  else if idx == 0x2240 || idx == 0x3448 then refreshDirty d
  else if 0x2300 ≤ idx && idx ≤ 0x2307 then
    (if (sub == 1 || sub == 2) && odVal idx sub d != was then portChanged (idx - 0x2300) d
     else if sub == 0x0E then onPort (idx - 0x2300) (fun x => { x with ring := [], captured := 0 }) d
     else d)
  else if idx == 0x3320 then configSession (sub - 1) d
  else if idx == 0x3410 then lateSummary (odPut 0x3410 2 1 d)
  else if (windowCount idx).isSome then bumpVersion idx d
  else d

/-- An entry of the value store takes a value. -/
def storeEntry (idx sub sel : Nat) (v : Bytes) (d : Device) : Device :=
  let n := storedNumber idx sub v
  let was := odSel idx sub sel d
  let d := afterStore idx sub was (odPutSel idx sub sel n (beforeStore idx sub n d))
  if isPersistent (odKey idx sub sel) then persist d else d

/-- The staged gear table takes the factory table (R187). -/
def fillStaged (d : Device) : Device :=
  persist (bumpVersion 0x2610 ((List.range 256).foldl (fun d b => odPutSel 0x2610 2 (256 + b) (gearFactory b) d) d))

/-- A search entry and, in a policy partition, its P copy. -/
def storeSearch (sel : Nat) (v : Bytes) (d : Device) : Device :=
  let e := searchWritten v
  let d := putSearchEntry sel e d
  if typeOf sel d == 2 then { d with cam := { d.cam with nv := tblStore .blank d.cam.nv sel e } } else d

/-- A checked value takes effect on this device. -/
def applyEntry (idx sub sel : Nat) (v : Bytes) (d : Device) : Device :=
  if idx == 0x3440 then refreshDirty { d with media := { d.media with profiles := d.media.profiles.set (sub - 1) v } }
  else if idx == 0x2F28 then (patchWrite v d).2
  else if idx == 0x2B20 then storeSearch sel v d
  else if idx == 0x2F20 && sub == 6 then patchActivate d
  else if idx == 0x2600 && sub == 7 then fillStaged d
  else if idx == 0x2220 && sub == 1 then enterPs4 d
  else storeEntry idx sub sel v d

/-! ## Refusals -/

/-- A refused profile is logged with the check that failed (R362). -/
def profileRefused (slot check : Nat) (d : Device) : Device := logEvent 0x0C01 0x0000 2 (slot * 256 + check) d

/-- The chapters' refusal of a value of the right form: the abort code, and the device with what the refusal logs. -/
def refusal (idx sub sel : Nat) (v : Bytes) (d : Device) : Option (Nat × Device) :=
  if idx == 0x3440 then (profileCheck (sub - 1) v d).map fun c => (0x06090030, profileRefused (sub - 1) c d)
  else if idx == 0x2F28 then
    match patchCheck false v (baseStore d) d with
    | .error c => some (0x06090030, patchRefused v c d)
    | .ok _ => none
  else if idx == 0x2F20 && sub == 6 then
    (if leNat v == 1 && odVal 0x2F20 5 d == 1 then none else some (0x08000022, d))
  else if idx == 0x2600 && sub == 7 then
    (if leNat v == 1 || leNat v == 2 then none else some (0x06090030, d))
  else (entryCheck idx sub sel v d).map fun c => (c, d)

/-- The persistent store would not take the value (R61). -/
def notStored (idx sub sel : Nat) (d : Device) : Bool := isPersistent (odKey idx sub sel) && !d.dict.nvWorks

/-! ## Writes that are commands -/

/-- A write of 1 does something; any other value is out of range. -/
def onlyOne (n : Nat) (d : Device) (f : Device → OdRes) : OdRes := if n == 1 then f d else .fail 0x06090030 d

/-- OD 0x1011:01 (R62). -/
def restoreAll (n : Nat) (d : Device) : OdRes :=
  if n == 0x64616F6C then .done { d with dict := { d.dict with restoreMarked := true } } else .fail 0x08000020 d

/-- OD 0x2D40:02 (R441 to R443). -/
def arbiterDecision (n : Nat) (d : Device) : OdRes :=
  if n == 1 then .done (arbiterSurvive d)
  else if n == 2 then .done (standDown d)
  else match releaseFence d with
    | some d => .done d
    | none => .fail 0x08000022 d

/-- OD 0x3300:07 (R471). -/
def deleteWrite (n : Nat) (d : Device) : OdRes :=
  if ((snapOf n d).map (·.st)) != some 2 then .fail 0x06090030 d
  else if holdsOf n d != 0 then .fail 0x08000022 d
  else .done (deleteSnapshot n d)

/-- A paired entry of firmware's whose placement confirms the write. -/
def placeForWrite (acc : Accessor) (reply : ReplyTo) (idx sub : Nat) (e : BoardEntry) (d : Device) : OdRes :=
  if (sharedWay d).isNone then .fail 0x08000022 d else .held (placePaired e (.dict acc reply idx sub) d)

/-- A user's write of a departure-board entry that has passed its checks (R419, R421, R427). -/
def boardWrite (acc : Accessor) (reply : ReplyTo) (sel : Nat) (v : Bytes) (d : Device) : OdRes :=
  let old := boardEntry sel d
  let e := boardWritten old v
  if e.state == 1 && e.paired then .held (placePairedAt sel e (.user acc reply) d)
  else .done (putEntry sel e (if old.state == 1 && old.paired && pairUp d then sendLink (.cancel sel) d else d))

/-- Entries whose write is a command of their unit; `n`: the number written. -/
def commandWrite (acc : Accessor) (reply : ReplyTo) (idx sub n : Nat) (v : Bytes) (d : Device) : Option OdRes :=
  match idx, sub with
  | 0x1011, 1 => some (restoreAll n d)
  | 0x2220, 1 => some (powerRequest acc reply n d)
  | 0x2240, 7 => some (onlyOne n d holdupTest)
  | 0x2800, 1 => some (slotCommand acc reply n d)
  | 0x2900, 0x12 => some (onlyOne n d fun d => .done (clearLost d))
  | 0x2D40, 2 => some (arbiterDecision n d)
  | 0x2E00, 1 => some (if notStored 0x2E00 1 0 d then .fail 0x06060000 d else .done (persist (fansFitted n d)))
  | 0x2F00, 6 => some (onlyOne n d (activateFirmware acc reply))
  | 0x2F10, 1 => some (healthConfirm acc n d)
  | 0x3210, 2 => some (sessionResponse acc v d)
  | 0x3210, 3 => some (.done (closeSession acc d))
  | 0x3220, 1 => some (ownerEnrol acc reply v d)
  | 0x3220, 2 => some (ownerRevoke acc reply n d)
  | 0x3300, 7 => some (deleteWrite n d)
  | _, _ => none

/-- A value that has passed its checks takes effect: here, on both peers, or at a placed entry's tick. -/
def checkedWrite (acc : Accessor) (reply : ReplyTo) (idx sub sel : Nat) (v : Bytes) (d : Device) : OdRes :=
  if idx == 0x2C10 then boardWrite acc reply sel v d
  else if idx == 0x2600 && sub == 7 && leNat v == 1 then
    placeForWrite acc reply idx sub (firmwareEntry 0x0C 0 0 (nextHandoverTick d) false) d
  else if idx == 0x2B00 && sub == 5 then
    placeForWrite acc reply idx sub (firmwareEntry 0x0D 0x0020 (leNat v &&& 0x0F0F) (nextBoundary d) false) d
  else if notStored idx sub sel d then .fail 0x06060000 d
  else if sharedIdx idx sub || (idx == 0x2600 && sub == 7) then
    match sharedWay d with
    | none => .fail 0x08000022 d
    | some 0 => .done (applyEntry idx sub sel v d)
    | some _ => .held (syncWrite acc reply idx sub sel v d)
  else .done (applyEntry idx sub sel v d)

/-- A write of an entry that a window's cursor does not move. -/
def entryWrite (acc : Accessor) (reply : ReplyTo) (idx sub sel : Nat) (v : Bytes) (d : Device) : OdRes :=
  match commandWrite acc reply idx sub (leNat v) v d with
  | some r => r
  | none =>
    if idx == 0x2E30 then fanFloorWrite (sub - 1) (leNat v) d
    else match refusal idx sub sel v d with
      | some r => .fail r.1 r.2
      | none => checkedWrite acc reply idx sub sel v d

/-- The cursor of a window steps over a record that has been written (R69). -/
def stepAfter (acc : Accessor) (idx : Nat) : OdRes → OdRes
  | .done d => .done (stepCursor acc idx d)
  | .held d => .held (stepCursor acc idx d)
  | r => r

/-- Firmware changes an entry for a reason of its own (R65): only ro entries that no part of the device derives, and those that a standard
service changes. -/
def firmwareBarred (acc : Accessor) (idx sub : Nat) (d : Device) : Bool :=
  wayOf acc == 0 && !standardService idx sub &&
    ((odEntry? idx sub).any (fun e => e.acc != .ro) || (derivedWord acc idx sub d).isSome || (derivedBytes idx sub d).isSome)

/-- A write: existence, service, access, session, idle unit and form, then the entry's own checks and its effect. -/
def odWrite (acc : Accessor) (reply : ReplyTo) (idx sub : Nat) (v : Bytes) (d : Device) : OdRes :=
  match writeFailure acc idx sub v (unitIdle idx sub d) (idx == 0x3220 && sub == 1) d with
  | some c => .fail c d
  | none =>
    if firmwareBarred acc idx sub d then .fail 0x06010002 d else
    let d := touchIf acc idx sub d
    if (windowCount idx).isSome && sub != 2 then cursorWrite acc idx sub (leNat v) d
    else
      let sel := selOf acc idx sub d
      if (windowCount idx).any (· ≤ sel) then .fail 0x06090030 d
      else stepAfter acc idx (entryWrite acc reply idx sub sel v d)

/-! ## Answers -/

/-- The answer of a write comes later: a shared write waits, or a placement. -/
def stillWaits (r : ReplyTo) (d : Device) : Bool :=
  let mine := fun w : PlacementFor => match w with
    | .user _ x => x == r
    | .dict _ x _ _ => x == r
    | _ => false
  (d.dict.held.any fun h => h.reply == r) || (d.board.placing.any fun p => mine p.who) || d.board.waiting.any fun w => mine w.who

/-- A CAN FD client whose download waits keeps its transfer open (R77). -/
def openTransfer (r : ReplyTo) (idx sub : Nat) (d : Device) : Device :=
  match r with
  | .accessor (.can node) =>
    if stillWaits r d then
      { d with can := { d.can with transfers := ⟨node, idx, sub, d.time.now⟩ :: d.can.transfers.filter (·.node != node) } }
    else d
  | _ => d

/-- The answer of a write. -/
def answerWrite (r : ReplyTo) (idx sub : Nat) : OdRes → Device
  | .fail c d => answer r idx sub (.abort c) [] 0 0 d
  | .done d => answer r idx sub .ok [] 0 0 d
  | .held d => openTransfer r idx sub d

/-- The accessor's open assembly, and its end (R87). -/
def assemblyOf (acc : Accessor) (d : Device) : Option Assembly := d.dict.assemblies.find? (·.acc == acc)
def endAssembly (acc : Accessor) (d : Device) : Device :=
  { d with dict := { d.dict with assemblies := d.dict.assemblies.filter (·.acc != acc) } }

/-- A row that writes one entry: a whole value, which ends the accessor's open assembly (R87). -/
def writeRow (acc : Accessor) (idx sub : Nat) (v : Bytes) (s : State) : Host.Outcome State Fault Refusal :=
  odRow acc idx sub 2 (fun d => answerWrite (.accessor acc) idx sub (odWrite acc (.accessor acc) idx sub v (endAssembly acc d))) s

/-- A row that writes a number of `size` bytes. -/
def writeNat (acc : Accessor) (idx sub size n : Nat) (s : State) : Host.Outcome State Fault Refusal :=
  writeRow acc idx sub (leBytes size n) s

/-! ## The rows -/

/-- SNAPSHOT_DELETE_WRITE. -/
def execSnapshotDeleteWrite (acc : Accessor) (n : Nat) (s : State) : Host.Outcome State Fault Refusal := writeNat acc 0x3300 7 2 n s

/-- DICTIONARY_WRITE. -/
def execDictionaryWrite (acc : Accessor) (idx sub : Nat) (v : Bytes) (s : State) : Host.Outcome State Fault Refusal := writeRow acc idx sub v s

/-- RESTORE_ALL_DEFAULTS. -/
def execRestoreAllDefaults (acc : Accessor) (v : Nat) (s : State) : Host.Outcome State Fault Refusal := writeNat acc 0x1011 1 4 v s

/-- WINDOW_SELECT_WRITE. -/
def execWindowSelectWrite (acc : Accessor) (idx n : Nat) (s : State) : Host.Outcome State Fault Refusal := writeNat acc idx 1 4 n s

/-- SESSION_RESPONSE. -/
def execSessionResponse (acc : Accessor) (sig : Bytes) (s : State) : Host.Outcome State Fault Refusal := writeRow acc 0x3210 2 sig s

/-- SESSION_CLOSE. -/
def execSessionClose (acc : Accessor) (s : State) : Host.Outcome State Fault Refusal := writeNat acc 0x3210 3 1 0 s

/-- GEAR_TABLE_ACTIVATE. -/
def execGearTableActivate (acc : Accessor) (s : State) : Host.Outcome State Fault Refusal := writeNat acc 0x2600 7 1 1 s

/-- GEAR_TABLE_FILL_FACTORY. -/
def execGearTableFillFactory (acc : Accessor) (s : State) : Host.Outcome State Fault Refusal := writeNat acc 0x2600 7 1 2 s

/-- A slot command: [63:56] command, [47:32] tenant, [11:0] slot (R265). -/
def slotWrite (acc : Accessor) (cmd slot tenant : Nat) (s : State) : Host.Outcome State Fault Refusal :=
  writeNat acc 0x2800 1 8 (cmd * 2 ^ 56 + tenant % 65536 * 2 ^ 32 + slot % 4096) s

/-- GENERATE. -/
def execGenerate (acc : Accessor) (slot tenant : Nat) (s : State) : Host.Outcome State Fault Refusal := slotWrite acc 1 slot tenant s

/-- RETIRE. -/
def execRetire (acc : Accessor) (slot tenant : Nat) (s : State) : Host.Outcome State Fault Refusal := slotWrite acc 2 slot tenant s

/-- ERASE_TENANT. -/
def execEraseTenant (acc : Accessor) (slot tenant : Nat) (s : State) : Host.Outcome State Fault Refusal := slotWrite acc 3 slot tenant s

/-- RELOAD. -/
def execReload (acc : Accessor) (slot tenant : Nat) (s : State) : Host.Outcome State Fault Refusal := slotWrite acc 4 slot tenant s

/-- POLICY_GROUP_COMMIT: [11:8] 1, [3:0] the partition. -/
def execPolicyGroupCommit (acc : Accessor) (part : Nat) (s : State) : Host.Outcome State Fault Refusal :=
  writeNat acc 0x2B00 5 2 (0x100 + part % 16) s

/-- POLICY_GROUP_ABORT: [11:8] 2. -/
def execPolicyGroupAbort (acc : Accessor) (part : Nat) (s : State) : Host.Outcome State Fault Refusal :=
  writeNat acc 0x2B00 5 2 (0x200 + part % 16) s

/-- LOST_STRIPE_CLEAR. -/
def execLostStripeClear (acc : Accessor) (s : State) : Host.Outcome State Fault Refusal := writeNat acc 0x2900 0x12 1 1 s

/-- NAMESPACE_RECORD_WRITE. -/
def execNamespaceRecordWrite (acc : Accessor) (v : Bytes) (s : State) : Host.Outcome State Fault Refusal := writeRow acc 0x2510 2 v s

/-- DEDUP_BINDING_WRITE: a domain's tenant, or a namespace's binding. -/
def execDedupBindingWrite (acc : Accessor) (tenants : Bool) (v : Bytes) (s : State) : Host.Outcome State Fault Refusal :=
  writeRow acc (if tenants then 0x2620 else 0x2630) 2 v s

/-- PARTITION_TABLE_WRITE. -/
def execPartitionTableWrite (acc : Accessor) (n : Nat) (v : Bytes) (s : State) : Host.Outcome State Fault Refusal :=
  writeRow acc 0x2B10 (n + 1) v s

/-- SEARCH_ENTRY_WRITE. -/
def execSearchEntryWrite (acc : Accessor) (v : Bytes) (s : State) : Host.Outcome State Fault Refusal := writeRow acc 0x2B20 2 v s

/-- STRIPE_CLASS_WRITE. -/
def execStripeClassWrite (acc : Accessor) (cls : Nat) (v : Bytes) (s : State) : Host.Outcome State Fault Refusal := writeRow acc 0x2910 cls v s

/-- BOARD_ENTRY_WRITE. -/
def execBoardEntryWrite (acc : Accessor) (v : Bytes) (s : State) : Host.Outcome State Fault Refusal := writeRow acc 0x2C10 2 v s

/-- COMMIT_PERIOD_WRITE. -/
def execCommitPeriodWrite (acc : Accessor) (v : Nat) (s : State) : Host.Outcome State Fault Refusal := writeNat acc 0x2C00 1 4 v s

/-- PREFERRED_MAP_WRITE. -/
def execPreferredMapWrite (acc : Accessor) (group v : Nat) (s : State) : Host.Outcome State Fault Refusal :=
  writeNat acc 0x2D18 (group + 1) 1 v s

/-- CAPTURE_MODE_WRITE. -/
def execCaptureModeWrite (acc : Accessor) (port v : Nat) (s : State) : Host.Outcome State Fault Refusal :=
  writeNat acc (0x2300 + port) 0x0E 1 v s

/-- POWER_STATE_REQUEST. -/
def execPowerStateRequest (acc : Accessor) (v : Nat) (s : State) : Host.Outcome State Fault Refusal := writeNat acc 0x2220 1 1 v s

/-- ENTER_PS_4. -/
def execEnterPs4 (acc : Accessor) (s : State) : Host.Outcome State Fault Refusal := writeNat acc 0x2220 1 1 4 s

/-- WAKE_FROM_PS_4. -/
def execWakeFromPs4 (acc : Accessor) (s : State) : Host.Outcome State Fault Refusal := writeNat acc 0x2220 1 1 0 s

/-- HOLDUP_TEST. -/
def execHoldupTest (acc : Accessor) (s : State) : Host.Outcome State Fault Refusal := writeNat acc 0x2240 7 1 1 s

/-- ARBITER_SURVIVE. -/
def execArbiterSurvive (acc : Accessor) (s : State) : Host.Outcome State Fault Refusal := writeNat acc 0x2D40 2 1 1 s

/-- ARBITER_STAND_DOWN. -/
def execArbiterStandDown (acc : Accessor) (s : State) : Host.Outcome State Fault Refusal := writeNat acc 0x2D40 2 1 2 s

/-- ARBITER_RELEASE_FENCE. -/
def execArbiterReleaseFence (acc : Accessor) (s : State) : Host.Outcome State Fault Refusal := writeNat acc 0x2D40 2 1 3 s

/-- FIRMWARE_ACTIVATE. -/
def execFirmwareActivate (acc : Accessor) (s : State) : Host.Outcome State Fault Refusal := writeNat acc 0x2F00 6 1 1 s

/-- HEALTH_CONFIRM. -/
def execHealthConfirm (acc : Accessor) (v : Nat) (s : State) : Host.Outcome State Fault Refusal := writeNat acc 0x2F10 1 4 v s

/-- PATCH_PACKAGE_WRITE: the whole package. -/
def execPatchPackageWrite (acc : Accessor) (v : Bytes) (s : State) : Host.Outcome State Fault Refusal := writeRow acc 0x2F28 0 v s

/-- PATCH_ACTIVATE. -/
def execPatchActivate (acc : Accessor) (s : State) : Host.Outcome State Fault Refusal := writeNat acc 0x2F20 6 1 1 s

/-- OWNER_ENROL. -/
def execOwnerEnrol (acc : Accessor) (v : Bytes) (s : State) : Host.Outcome State Fault Refusal := writeRow acc 0x3220 1 v s

/-- OWNER_REVOKE. -/
def execOwnerRevoke (acc : Accessor) (n : Nat) (s : State) : Host.Outcome State Fault Refusal := writeNat acc 0x3220 2 1 n s

/-- PROFILE_WRITE. -/
def execProfileWrite (acc : Accessor) (slot : Nat) (v : Bytes) (s : State) : Host.Outcome State Fault Refusal :=
  writeRow acc 0x3440 (slot + 1) v s

/-- PROFILE_BINDING_WRITE. -/
def execProfileBindingWrite (acc : Accessor) (group slot : Nat) (s : State) : Host.Outcome State Fault Refusal :=
  writeNat acc 0x3448 (group + 1) 1 slot s

/-- STORAGE_SUMMARY_WRITE. -/
def execStorageSummaryWrite (acc : Accessor) (v : Bytes) (s : State) : Host.Outcome State Fault Refusal := writeRow acc 0x3410 1 v s

/-- FAN_FLOOR_WRITE. -/
def execFanFloorWrite (acc : Accessor) (fan rpm : Nat) (s : State) : Host.Outcome State Fault Refusal := writeNat acc 0x2E30 (fan + 1) 2 rpm s

/-- FANS_FITTED_WRITE. -/
def execFansFittedWrite (acc : Accessor) (v : Nat) (s : State) : Host.Outcome State Fault Refusal := writeNat acc 0x2E00 1 1 v s

/-! ## Shared writes between the peers (R188, R457, R549) -/

/-- Why this device refuses a shared write of the other peer. A device that returns adopts what it is sent (R447). -/
def syncRefusal (idx sub sel : Nat) (v : Bytes) (d : Device) : Option (Nat × Device) :=
  if idx == 0x2220 && sub == 1 then
    (if !isReady d || ps4Blocked d || d.power.entering == some 4 then some (0x08000022, d) else none)
  else match missing idx sub with
    | some c => some (c, d)
    | none =>
      if !isReady d then none
      else if !unitIdle idx sub d then some (0x08000022, d)
      else if notStored idx sub sel d then some (0x06060000, d)
      else refusal idx sub sel v d

/-- A part at an offset goes behind what the entry already holds below it. -/
def syncValue (idx sub sel off : Nat) (v : Bytes) (d : Device) : Bytes :=
  if off == 0 then v else padTo off (odCurrent (.firmware 0 true) idx sub sel d) ++ v

/-- Writes of one entry that cross leave side A's value on both peers (log 230): side B's own write takes it over. -/
def crossHeld (idx sub entry : Nat) (v : Bytes) (d : Device) : Device :=
  if d.side == 0 then d
  else { d with dict := { d.dict with held := d.dict.held.map fun h =>
    if h.idx == idx && h.sub == sub && h.sel == entry && h.entry.isNone then { h with data := v } else h } }

/-- The other peer's write of a shared entry (R188): checked and applied here, and answered. -/
def tableSync (idx sub entry off : Nat) (value : Bytes) (d : Device) : Device :=
  let sel := if entry == 0xFFFFFFFF then 0 else entry
  let v := syncValue idx sub sel off value d
  match syncRefusal idx sub sel v d with
  | some r => sendLink (.tableAck idx sub entry r.1) r.2
  | none => sendLink (.tableAck idx sub entry 0) (applyEntry idx sub sel v (crossHeld idx sub entry v d))

/-- TABLE_SYNC. -/
def execTableSync (h : FrameHdr) (idx sub entry off : Nat) (value : Bytes) (s : State) : Host.Outcome State Fault Refusal :=
  next s (acceptFrame h 2 (tableSync idx sub entry off value))

/-- The write that TABLE_ACK confirms takes effect here, or aborts. -/
def tableAck (idx sub entry code : Nat) (d : Device) : Device :=
  match d.dict.held.find? fun h => h.idx == idx && h.sub == sub && h.sel == entry && h.entry.isNone with
  | none => d
  | some h =>
    let d := { d with dict := { d.dict with held := d.dict.held.filter (· != h) } }
    if code != 0 then answer h.reply idx sub (.abort code) [] 0 0 d
    else answer h.reply idx sub .ok [] 0 0 (applyEntry idx sub (if entry == 0xFFFFFFFF then 0 else entry) h.data d)

/-- TABLE_ACK. -/
def execTableAck (h : FrameHdr) (idx sub entry code : Nat) (s : State) : Host.Outcome State Fault Refusal :=
  next s (acceptFrame h 2 (tableAck idx sub entry code))

end Sys2Proof.Machine
end

