-- ==== Sys2Proof/Machine/DictCmd.lean ====
section
/-! DEFINITION. The dictionary in band: Parameter Read and Write, Set Features and Get Features (R64 to R68, R84 to R88, R172, R174, R175, R401). -/

namespace Sys2Proof.Machine

/-! ## Parameter Read (R64, R84, R85, R88) -/

/-- A part of a DOMAIN value: its parts reflect one version; a change between them is told, and the reading starts again (R64). -/
def domainPart (acc : Accessor) (idx sub off len : Nat) (v : Bytes) (d : Device) : Option Nat × Device :=
  let mine := fun r : DomainRead => r.acc == acc && r.idx == idx && r.sub == sub
  let old := if off == 0 then none else d.dict.domains.find? mine
  let rest := d.dict.domains.filter fun r => !mine r
  let put := fun rs : List DomainRead => { d with dict := { d.dict with domains := rs } }
  if old.any fun r => r.value != v then (some 0x08000022, put rest)
  else (none, put (if off + len < v.length then ⟨acc, idx, sub, v⟩ :: rest else rest))

/-- PARAMETER_READ. DESIGN CHOICE (log 220): any part of a counter that clears on a read clears all of it. -/
def parameterRead (q : QueueRef) (c : Capsule) (d : Device) : Device :=
  let acc := Accessor.inband q.port
  let idx := bits c.sqe.cdw10 15 0
  let sub := bits c.sqe.cdw10 23 16
  let off := c.sqe.cdw11
  let len := c.sqe.cdw12
  let select := bits c.sqe.cdw13 1 0
  let reply := fun (st : OdStatus) (data : Bytes) (size : Nat) d => answer (.completion q c.sqe.tag 0) idx sub st data data.length size d
  if managementAccess q.port d < 1 then reply (.abort 0x08000020) [] 0 d
  else if 2 ^ 20 < len || select == 3 then completeSt q c.sqe.tag .invalidField d
  else match odEntry? idx sub with
    | none => reply (.abort ((missing idx sub).getD 0x06090011)) [] 0 d
    | some e =>
      match readFailure acc idx sub d with
      | some code => reply (.abort code) [] 0 d
      | none =>
        if off != 0 && !e.typ.hasOffset then reply (.abort 0x06070010) [] 0 d
        else match odRead acc idx sub select d with
          | .error code => reply (.abort code) [] 0 d
          | .ok (v, t) =>
            if e.typ.isDomain && select == 0 then
              match domainPart acc idx sub off len v t with
              | (some code, t) => reply (.abort code) [] 0 t
              | (none, t) => reply .ok ((v.drop off).take len) v.length t
            else reply .ok ((v.drop off).take len) v.length t

def execParameterRead (q : QueueRef) (c : Capsule) (s : State) : Host.Outcome State Fault Refusal :=
  next s (adminCmd q c fun _ => parameterRead q c)

/-! ## Parameter Write (R84 to R88) -/

/-- What an accessor's part makes of its assembly. -/
inductive Assembled where
  | bad (code : Nat)
  | part (a : Assembly)
  | whole (v : Bytes)
  deriving DecidableEq, Repr

/-- A part of an entry's value, its first ones held in `old`. -/
def assemble (acc : Accessor) (idx sub off : Nat) (last fixed : Bool) (v : Bytes) (now : Nat) (old : Option Assembly) : Assembled :=
  if fixed then (if off != 0 || !last then .bad 0x06070010 else .whole v)
  else
    let put := fun bytes : Bytes => if last then Assembled.whole bytes else .part ⟨acc, idx, sub, bytes, now⟩
    if off == 0 then put v
    else match old with
      | some a => if a.idx == idx && a.sub == sub && a.bytes.length == off then put (a.bytes ++ v) else .bad 0x08000020
      | none => .bad 0x08000020

/-- PARAMETER_WRITE. -/
def parameterWrite (q : QueueRef) (c : Capsule) (d : Device) : Device :=
  let acc := Accessor.inband q.port
  let idx := bits c.sqe.cdw10 15 0
  let sub := bits c.sqe.cdw10 23 16
  let len := c.sqe.cdw12
  let r := ReplyTo.completion q c.sqe.tag len
  let refuse := fun code d => answer r idx sub (.abort code) [] 0 0 d
  if managementAccess q.port d < 2 then refuse 0x08000020 d
  else if 2 ^ 20 < len then completeSt q c.sqe.tag .invalidField d
  else if (sglData 0 c).length < len then completeSt q c.sqe.tag .transferError d
  else
    let off := c.sqe.cdw11
    let d := if off == 0 || (assemblyOf acc d).any (fun a => a.idx != idx || a.sub != sub) then endAssembly acc d else d
    match writeGate acc idx sub (idx == 0x3220 && sub == 1) d with
    | some code => refuse code d
    | none =>
      let d := touchIf acc idx sub d
      let fixed := !((odEntry? idx sub).any fun e => e.typ.hasOffset)
      let old := assemblyOf acc d
      let rest := d.dict.assemblies.filter (·.acc != acc)
      let ended := endAssembly acc d
      match assemble acc idx sub c.sqe.cdw11 (bit c.sqe.cdw13 2) fixed ((sglData 0 c).take len) d.time.now old with
      | .bad code => refuse code ended
      | .part a => answer r idx sub .ok [] 0 0 { d with dict := { d.dict with assemblies := a :: rest } }
      | .whole v => answerWrite r idx sub (odWrite acc r idx sub v ended)

def execParameterWrite (q : QueueRef) (c : Capsule) (s : State) : Host.Outcome State Fault Refusal :=
  next s (adminCmd q c fun _ => parameterWrite q c)

/-! ## Set Features (R66 to R68) -/

/-- Feature Identifier Not Saveable. -/
def Status.notSaveable : Status := ⟨1, 0x0D, true⟩

/-- The entry of a feature is persistent. -/
def saveable (idx sub : Nat) : Bool := isPersistent (odKey idx sub 0)

/-- A Set Features that writes entries one after the other; the first failure ends it. -/
def setEntries (q : QueueRef) (cid : CmdTag) : List (Nat × Nat × Bytes) → Device → Device
  | [], d => completeSt q cid .success d
  | (idx, sub, v) :: rest, d =>
    match odWrite (.inband q.port) (.completion q cid 0) idx sub v d with
    | .fail code d => completeSt q cid (abortStatus code) d
    | .done d => setEntries q cid rest d
    | .held d => d

/-- The access and the Save bit of a Set Features that writes `entries`. -/
def setFeature (q : QueueRef) (c : Capsule) (need : Nat) (entries : List (Nat × Nat × Bytes)) (d : Device) : Device :=
  if managementAccess q.port d < need then completeSt q c.sqe.tag (.vendor 0xC2) d
  else if bit c.sqe.cdw10 31 && !(entries.all fun e => saveable e.1 e.2.1) then completeSt q c.sqe.tag .notSaveable d
  else setEntries q c.sqe.tag entries d

/-- Arbitration: the submitting partner's own entry. -/
def setArbitration (q : QueueRef) (c : Capsule) : Device → Device := setFeature q c 0 [(0x2410, q.port + 1, leBytes 4 c.sqe.cdw11)]

/-- SET_FEATURES_ARBITRATION. -/
def execSetFeaturesArbitration (q : QueueRef) (c : Capsule) (s : State) : Host.Outcome State Fault Refusal :=
  next s (adminCmd q c fun _ => setArbitration q c)

/-- Power Management (R172, R174): PS_0 to PS_3, and a non-operational state only while no self-test runs. -/
def setPower (q : QueueRef) (c : Capsule) (d : Device) : Device :=
  let ps := bits c.sqe.cdw11 4 0
  if managementAccess q.port d < 2 then completeSt q c.sqe.tag (.vendor 0xC2) d
  else if 3 < ps then completeSt q c.sqe.tag .invalidField d
  else if 2 ≤ ps && d.admin.selfTest.isSome then completeSt q c.sqe.tag .sequenceError d
  else setFeature q c 2 [(0x2220, 1, leBytes 1 ps)] d

/-- SET_FEATURES_POWER_MANAGEMENT. -/
def execSetFeaturesPowerManagement (q : QueueRef) (c : Capsule) (s : State) : Host.Outcome State Fault Refusal :=
  next s (adminCmd q c fun _ => setPower q c)

/-- The threshold entry that CDW11 names: TMPSEL 0; THSEL 0 over, 1 under. -/
def thresholdSub (cdw11 : Nat) : Option Nat :=
  if bits cdw11 19 16 != 0 || 1 < bits cdw11 21 20 then none else some (0x0C + bits cdw11 21 20)

/-- Temperature Threshold: the entry that CDW11 names. -/
def setThreshold (q : QueueRef) (c : Capsule) (d : Device) : Device :=
  if managementAccess q.port d < 2 then completeSt q c.sqe.tag (.vendor 0xC2) d
  else match thresholdSub c.sqe.cdw11 with
    | none => completeSt q c.sqe.tag .invalidField d
    | some sub => setFeature q c 2 [(0x2010, sub, leBytes 2 (bits c.sqe.cdw11 15 0))] d

/-- SET_FEATURES_TEMPERATURE_THRESHOLD. -/
def execSetFeaturesTemperatureThreshold (q : QueueRef) (c : Capsule) (s : State) : Host.Outcome State Fault Refusal :=
  next s (adminCmd q c fun _ => setThreshold q c)

/-- Autonomous Power State Transition (R175): 32 entries of 8 bytes. -/
def setApst (q : QueueRef) (c : Capsule) (d : Device) : Device :=
  let entry := fun n => leAt (sglData 0 c) (8 * n) 4
  let beyond := (List.range 27).any fun n => leAt (sglData 0 c) (8 * (n + 5)) 8 != 0
  let bad := (List.range 5).any fun n => !apstOk n (entry n)
  if managementAccess q.port d < 2 then completeSt q c.sqe.tag (.vendor 0xC2) d
  else if (sglData 0 c).length < 256 then completeSt q c.sqe.tag .transferError d
  else if beyond || bad then completeSt q c.sqe.tag .invalidField d
  else setFeature q c 2 ((0x2230, 1, leBytes 1 (c.sqe.cdw11 % 2)) :: (List.range 5).map fun n => (0x2230, n + 2, leBytes 4 (entry n))) d

/-- SET_FEATURES_APST. -/
def execSetFeaturesApst (q : QueueRef) (c : Capsule) (s : State) : Host.Outcome State Fault Refusal :=
  next s (adminCmd q c fun _ => setApst q c)

/-- The features of an association (R67): Number of Queues, asynchronous events, Keep Alive Timer. The first answers with what it grants. -/
def setAssociation (q : QueueRef) (c : Capsule) (d : Device) : Device :=
  let fid := bits c.sqe.cdw10 7 0
  let v := c.sqe.cdw11
  let put := fun f => onAssoc q.port q.assoc f d
  if fid != 0x07 && fid != 0x0B && fid != 0x0F then completeSt q c.sqe.tag .invalidField d
  else if bit c.sqe.cdw10 31 then completeSt q c.sqe.tag .notSaveable d
  else if fid == 0x07 then
    if bits v 15 0 == 65535 || bits v 31 16 == 65535 then completeSt q c.sqe.tag .invalidField d
    else if d.nvme.queues.any fun x => x.ref.port == q.port && x.ref.assoc == q.assoc then completeSt q c.sqe.tag .sequenceError d
    else
      let n := min (bits v 31 16) 63 * 65536 + min (bits v 15 0) 63
      complete q c.sqe.tag .success n 0 [] (put fun a => { a with numQueues := n })
  else if fid == 0x0B then completeSt q c.sqe.tag .success (put fun a => { a with aec := v })
  else if fid == 0x0F then completeSt q c.sqe.tag .success (put fun a => { a with kato := v, kaLast := d.time.now })
  else completeSt q c.sqe.tag .invalidField d

/-- SET_FEATURES_ASSOCIATION; a feature identifier of no table (R66, R16) completes with Invalid Field in Command. -/
def execSetFeaturesAssociation (q : QueueRef) (c : Capsule) (s : State) : Host.Outcome State Fault Refusal :=
  next s (adminCmd q c fun _ => setAssociation q c)

/-! ## Get Features (R66 to R68, R401) -/

/-- The Timestamp feature (R401). -/
def timestamp (d : Device) : Bytes :=
  let unset := d.time.st == .unset
  let t : Int := (d.time.counter / 800000 : Nat) - 1000 * d.time.utcOffset
  let locked := d.time.st == .locked || d.time.st == .holdover
  leBytes 6 (if unset then 0 else t.toNat) ++ leBytes 1 (b2n locked + (if unset then 0 else 2)) ++ [0]

/-- The value of an entry under Select 0 to 2. -/
def featureValue (q : QueueRef) (idx sub select : Nat) (d : Device) : Except Nat Nat :=
  match odRead (.inband q.port) idx sub select d with
  | .ok r => .ok (leNat r.1)
  | .error code => .error code

/-- The value of an entry, or its capabilities. -/
def getEntry (q : QueueRef) (cid : CmdTag) (idx sub select : Nat) (data : Bytes) (d : Device) : Device :=
  if select == 3 then complete q cid .success (b2n (saveable idx sub) + 4 * b2n ((odEntry? idx sub).any (·.acc == .rw))) 0 [] d
  else match featureValue q idx sub select d with
    | .ok n => complete q cid .success n 0 data d
    | .error code => completeSt q cid (abortStatus code) d

/-- The 256 bytes of the APST feature. -/
def apstData (q : QueueRef) (select : Nat) (d : Device) : Bytes :=
  let one := fun n => match featureValue q 0x2230 (n + 2) select d with
    | .ok v => leBytes 8 v
    | .error _ => leBytes 8 0
  padTo 256 ((List.range 5).flatMap one)

/-- GET_FEATURES. -/
def getFeatures (q : QueueRef) (c : Capsule) (a : Assoc) (d : Device) : Device :=
  let fid := bits c.sqe.cdw10 7 0
  let select := bits c.sqe.cdw10 10 8
  let cid := c.sqe.tag
  let own := fun now first => complete q cid .success (if select == 3 then 4 else if select == 0 then now else first) 0 [] d
  if 3 < select then completeSt q cid .invalidField d
  else match fid with
    | 0x01 => getEntry q cid 0x2410 (q.port + 1) select [] d
    | 0x02 => getEntry q cid 0x2220 1 select [] d
    | 0x04 => match thresholdSub c.sqe.cdw11 with
      | none => completeSt q cid .invalidField d
      | some sub => getEntry q cid 0x2010 sub select [] d
    | 0x0C => getEntry q cid 0x2230 1 select (apstData q select d) d
    | 0x0E => if select == 3 then completeSt q cid .success d else complete q cid .success 0 0 (timestamp d) d
    | 0x07 => own a.numQueues (63 * 65536 + 63)
    | 0x0B => own a.aec 0
    | 0x0F => own a.kato 0
    | _ => completeSt q cid .invalidField d

def execGetFeatures (q : QueueRef) (c : Capsule) (s : State) : Host.Outcome State Fault Refusal :=
  next s (adminCmd q c (getFeatures q c))

end Sys2Proof.Machine
end

