-- ==== Sys2Proof/Machine/AdminInfo.lean ====
section
/-! DEFINITION. Identify, Abort, Asynchronous Event Request and Get Log Page (R111, R157, R161 to R167, R169, R171, R173, R174, R307).
Places of fields inside the structures of the NVMe base specification are PRESUMED. -/

namespace Sys2Proof.Machine

/-- Fields at their byte offsets in a structure of `n` zero bytes. -/
def layOut (n : Nat) (fields : List (Nat × Bytes)) : Bytes := fields.foldl (fun b f => overlay b f.1 f.2) (List.replicate n 0)

/-- Text padded with spaces. -/
def spaced (n : Nat) (t : Bytes) : Bytes := t.take n ++ List.replicate (n - t.length) 0x20

/-- A number in eight uppercase hexadecimal digits. -/
def hexDigits (n v : Nat) : Bytes :=
  (List.range n).map fun i =>
    let x := v / 16 ^ (n - 1 - i) % 16
    BitVec.ofNat 8 (if x < 10 then 0x30 + x else 0x37 + x)

/-- Eight characters of a firmware revision. -/
def revisionField (revision : Nat) : Bytes := spaced 8 (Config.revisionText revision)

/-! ## Identify (R157, R162, R163, R171, R174) -/

/-- The channels that the other peer owns, bit c for channel c. -/
def otherChannels (d : Device) : Nat := ((List.range 128).map fun c => if ownsChannel c d then 0 else 2 ^ c).sum

/-- The raw native bytes of the blocks in service on all fitted targets of the pair; this device's tables do not hold those on the other
peer's channels (log 39). -/
def rawCapacity (d : Device) : Nat :=
  let there := otherChannels d
  ((inService d).map fun b => blockCapacity b d).sum + (if there == 0 then 0 else Config.otherCapacity there)

/-- Minutes of an extended self-test on an idle shelf: the raw native bytes of the pair at 409.6 GB/s, rounded up. -/
def extendedMinutes (d : Device) : Nat :=
  let raw := rawCapacity d
  let perMinute := 409600000000 * 60
  (raw + perMinute - 1) / perMinute

/-- The descriptor of a power state: power in 0.01 W, latencies in µs. -/
def powerDescriptor (n mp nops enlat exlat : Nat) : Bytes :=
  layOut 32 [(0, leBytes 2 mp), (3, leBytes 1 (2 * nops)), (4, leBytes 4 enlat), (8, leBytes 4 exlat), (12, [BitVec.ofNat 8 n, BitVec.ofNat 8 n,
    BitVec.ofNat 8 n, BitVec.ofNat 8 n])]

def powerDescriptors : Bytes :=
  powerDescriptor 0 25000 0 0 0 ++ powerDescriptor 1 16000 0 10 10 ++ powerDescriptor 2 6000 1 1000 2000 ++
    powerDescriptor 3 1800 1 100000 800000 ++ powerDescriptor 4 300 1 2000000 4500000

/-- The vendor specific bytes 3,072 to 3,103. -/
def vendorBytes (d : Device) : Bytes :=
  leBytes 4 (odVal 0x1018 2 d) ++ leBytes 1 d.side ++ [0] ++ leBytes 2 1024 ++ leBytes 2 64 ++ [0, 0] ++ leBytes 4 4194304 ++
    leBytes 8 (pairIdentity d) ++ leBytes 1 64 ++ leBytes 7 0

/-- Identify Controller. -/
def controllerData (a : Assoc) (d : Device) : Bytes :=
  layOut 4096 [(4, spaced 20 (hexDigits 8 (odVal 0x1018 4 d))), (24, spaced 40 (ascii "Phontikor MBT-9600")),
    (64, revisionField (activeRevision d)), (77, [12]), (78, leBytes 2 a.cntlid), (80, leBytes 4 0x00020000),
    (111, [if a.discovery then 2 else 1]), (256, leBytes 2 0x0014), (258, [3, 3, 4, 6, 63, 4]), (265, [1]), (266, leBytes 2 368),
    (268, leBytes 2 388), (316, leBytes 2 (min (extendedMinutes d) 65535)), (318, [1]), (320, leBytes 2 1), (328, leBytes 4 3),
    (512, [0x66, 0x44]), (514, leBytes 2 1024), (516, leBytes 4 1024), (536, leBytes 4 0x00100005), (1792, leBytes 4 1028),
    (1796, leBytes 4 1), (2048, powerDescriptors), (3072, vendorBytes d)]

/-- Namespace identification descriptors: NGUID and command set. -/
def nsDescriptors (ns : Nat) (d : Device) : Bytes :=
  layOut 4096 [(0, [2, 16, 0, 0] ++ leBytes 8 (pairIdentity d) ++ leBytes 4 ns ++ leBytes 4 0), (20, [4, 1, 0, 0, 1])]

/-- Key Value namespace data. -/
def kvNamespace (ns : Nat) (d : Device) : Bytes :=
  layOut 4096 [(0, leBytes 8 Config.usableCapacity), (16, leBytes 8 (Config.namespaceUse ns (tick d)).toNat), (72, leBytes 2 16),
    (76, leBytes 4 16777216)]

/-- IDENTIFY. -/
def identify (q : QueueRef) (c : Capsule) (a : Assoc) (d : Device) : Device :=
  let cns := bits c.sqe.cdw10 7 0
  let kv := bits c.sqe.cdw11 31 24 == 1
  let ns := c.sqe.nsid
  let mine := attachedNs q.port d
  let give := fun b => complete q c.sqe.tag .success 0 0 b d
  match cns with
  | 0x00 => give (List.replicate 4096 0)
  | 0x01 => give (controllerData a d)
  | 0x02 =>
    if 0xFFFFFFFE ≤ ns then completeSt q c.sqe.tag .invalidNamespace d
    else give (padTo 4096 ((mine.filter (ns < ·)).flatMap (leBytes 4)))
  | 0x03 => if mine.contains ns then give (nsDescriptors ns d) else completeSt q c.sqe.tag .invalidNamespace d
  | 0x05 =>
    if !kv then completeSt q c.sqe.tag .invalidField d
    else give (if mine.contains ns then kvNamespace ns d else List.replicate 4096 0)
  | 0x06 => if kv then give (List.replicate 4096 0) else completeSt q c.sqe.tag .invalidField d
  | 0x1C => give (layOut 4096 [(0, leBytes 8 2)])
  | _ => completeSt q c.sqe.tag .invalidField d

def execIdentify (q : QueueRef) (c : Capsule) (s : State) : Host.Outcome State Fault Refusal := next s (adminCmd q c (identify q c))

/-- ABORT: success, "command not aborted". -/
def execAbort (q : QueueRef) (c : Capsule) (s : State) : Host.Outcome State Fault Refusal :=
  next s (adminCmd q c fun _ => complete q c.sqe.tag .success 1 0 [])

/-! ## Asynchronous events (R163, R164) -/

/-- Asynchronous Event Request Limit Exceeded. -/
def Status.eventLimit : Status := ⟨1, 0x05, true⟩

/-- A request waits until an event of the association is to be told; four may be outstanding. -/
def eventRequest (q : QueueRef) (c : Capsule) (a : Assoc) (d : Device) : Device :=
  if 4 ≤ a.aers.length then completeSt q c.sqe.tag .eventLimit d
  else
    let r := aenDeliver { a with aers := a.aers ++ [c.sqe.tag] }
    let d := onAssoc q.port q.assoc (fun _ => r.1) d
    match r.2 with
    | some x => complete x.1 x.2.1 .success x.2.2 0 [] d
    | none => d

/-- ASYNCHRONOUS_EVENT_REQUEST. -/
def execAsynchronousEventRequest (q : QueueRef) (c : Capsule) (s : State) : Host.Outcome State Fault Refusal :=
  next s (adminCmd q c (eventRequest q c))

/-! ## Log pages (R165 to R167) -/

/-- Log 0x01: the newest entry first. -/
def errorLog (d : Device) : Bytes :=
  padTo 4096 (d.admin.errors.flatMap fun e =>
    layOut 64 [(0, leBytes 8 e.count), (8, leBytes 2 e.sqid), (10, leBytes 2 e.cid), (12, leBytes 2 e.status), (14, [0xFF, 0xFF]),
      (24, leBytes 4 e.nsid)])

/-- The composite temperature in kelvin. -/
def compositeKelvin (d : Device) : Nat := ((odSigned 2 (odVal 0x2010 3 d) * 10 + 27315) / 100).toNat

/-- Thousands of 512-byte units, begun ones counted. -/
def dataUnits (bytes : Nat) : Nat := (bytes + 511999) / 512000

/-- Log 0x02 (R166). -/
def smartLog (d : Device) : Bytes :=
  layOut 512 [(0, leBytes 1 (criticalWarning d)), (1, leBytes 2 (compositeKelvin d)), (3, leBytes 1 (odVal 0x2010 6 d)),
    (4, leBytes 1 (odVal 0x3400 1 d)), (5, leBytes 1 (odVal 0x2010 7 d)), (32, leBytes 16 (dataUnits d.admin.dataUnitsRead)),
    (48, leBytes 16 (dataUnits d.admin.dataUnitsWritten)), (64, leBytes 16 d.admin.hostReads), (80, leBytes 16 d.admin.hostWrites),
    (112, leBytes 16 d.admin.powerCycles), (128, leBytes 16 (powerHours d)), (144, leBytes 16 d.admin.unsafeShutdowns),
    (160, leBytes 16 d.admin.mediaErrors), (176, leBytes 16 d.admin.errorCount)]

/-- Log 0x03: slots 1 and 2 are A and B; the active slot and the one that the next reset boots. -/
def firmwareLog (d : Device) : Bytes :=
  let next := match slotIn .pending d with
    | some n => n + 1
    | none => 0
  let text := fun n => if (slotImage n d).st == .empty then leBytes 8 0 else revisionField (imageRevision (slotImage n d).image)
  layOut 512 [(0, leBytes 1 (next * 16 + d.fw.booted + 1)), (8, text 0), (16, text 1)]

/-- Opcodes of the supported admin commands (R160) and I/O commands (R126). -/
def adminOpcodes : List Nat := [0x02, 0x06, 0x08, 0x09, 0x0A, 0x0C, 0x10, 0x11, 0x14, 0x18, 0x7F, 0x84, 0xC0, 0xC1, 0xC4, 0xC5, 0xC6]
def ioOpcodes : List Nat := [0x01, 0x02, 0x06, 0x10, 0x14, 0x81, 0x82, 0x85, 0x86, 0x90, 0x94]

/-- Log 0x05. -/
def effectsLog : Bytes :=
  let one := fun io (n : Nat) => leBytes 4 (1 + 2 * (Config.commandEffects io n).toNat)
  layOut 4096 ((adminOpcodes.map fun n => (4 * n, one false n)) ++ ioOpcodes.map fun n => (1024 + 4 * n, one true n))

/-- Log 0x06: the running test, and the last 20 results. -/
def selfTestLog (d : Device) : Bytes :=
  let now := match d.admin.selfTest with
    | some t => [BitVec.ofNat 8 t.kind, BitVec.ofNat 8 (Config.selfTestProgress (d.time.now - t.startedAt)).toNat]
    | none => [0, 0]
  let one := fun r : SelfTestResult => layOut 28 [(0, leBytes 1 (r.kind * 16 + r.code)), (1, leBytes 1 r.segment), (4, leBytes 8 r.hours)]
  let used := (d.admin.selfTestLog.take 20).map one
  let blank : Bytes := layOut 28 [(0, [0x0F])]
  now ++ [0, 0] ++ used.flatten ++ (List.replicate (20 - used.length) blank).flatten

/-- The port's address as text: IPv4, or IPv6 where there is none. -/
def dotted (bs : Bytes) : Bytes := ((bs.map fun b => ascii (toString b.toNat)).intersperse (ascii ".")).flatten
def colons (bs : Bytes) : Bytes := (((List.range 8).map fun i => hexDigits 4 (beNat (slice bs (2 * i) 2))).intersperse (ascii ":")).flatten

def discoveryEntry (p trtype : Nat) (d : Device) : Bytes :=
  let four := (leBytes 5 (portOd p 7 d)).take 4
  let six := (leBytes 17 (portOd p 8 d)).take 16
  let v4 := portOd p 7 d != 0
  layOut 1024 [(0, leBytes 1 trtype), (1, leBytes 1 (if v4 then 1 else 2)), (2, [2]), (4, leBytes 2 p), (6, [0xFF, 0xFF]), (8, leBytes 2 32),
    (32, spaced 32 (ascii (toString (portOd p 0x10 d)))), (256, subsystemNqn), (512, spaced 256 (if v4 then dotted four else colons six))]

/-- Log 0x70 of a port: one entry for each transport enabled (R111). -/
def discoveryLog (p : Nat) (d : Device) : Bytes :=
  let on := portOd p 5 d
  let es := (if bit on 1 then [discoveryEntry p 1 d] else []) ++ (if bit on 0 then [discoveryEntry p 3 d] else [])
  layOut 1024 [(8, leBytes 8 es.length)] ++ es.flatten

/-- Seconds of a block erase, of the profile's erase time, the blocks fitted and the toll-gate budget (log 39). -/
def eraseEstimate (d : Device) : BitVec 32 :=
  let erase := (((List.range 16).findSome? fun g => profileOf g d).map fun p => modeTbers (pfMode p (pfNative p))).getD 0
  Config.blockEraseEstimate erase (inService d).length (((List.range 16).map fun g => tollShare g d).sum)

/-- Log 0x81. -/
def sanitizeLog (d : Device) : Bytes :=
  let progress := match d.admin.sanitize with
    | some z => (Config.sanitizeProgress (d.time.now - z.startedAt)).toNat
    | none => 65535
  let erased := d.kv.index.isEmpty && d.kv.copies.isEmpty && d.admin.sanitize.isNone
  let estimate := eraseEstimate d
  let none4 : Bytes := List.replicate 4 0xFF
  layOut 512 [(0, leBytes 2 progress), (2, leBytes 2 (d.admin.sanitizeStatus + 256 * b2n erased)), (4, leBytes 4 d.admin.sanitizeDw10),
    (8, none4), (12, leBytes 4 estimate.toNat), (16, leBytes 4 30), (20, none4 ++ none4 ++ none4)]

/-- A key record of log 0xC2 (R307). -/
def lostKeyBytes (k : LostKey) : Bytes :=
  let n := 24 + (k.key.length + 7) / 8 * 8
  padTo n (leBytes 4 (0x20000 + n) ++ leBytes 4 k.ns ++ leBytes 8 k.seq ++ leBytes 2 k.key.length ++ leBytes 2 k.snap ++ leBytes 4 0 ++ k.key)

/-- Log 0xC2: each stripe record, then its key records. -/
def lostLog (d : Device) : Bytes :=
  let body := d.stripe.lostStripes.flatMap fun r =>
    lostBytes r ++ (d.stripe.lostKeys.filter (·.seq == r.seq)).flatMap lostKeyBytes
  let run := d.stripe.lostStripes.any fun r => !r.scanDone
  leBytes 8 d.stripe.lostStripes.length ++ leBytes 8 d.stripe.lostKeys.length ++ leBytes 8 body.length ++
    leBytes 4 (b2n d.stripe.lostTruncated + 2 * b2n run) ++ leBytes 4 0 ++ body

/-- Management access and secure session that a page needs, and its bytes; none for a page that is not in the table. -/
def logPage (page : Nat) (a : Assoc) (d : Device) : Option (Nat × Bool × Bytes) :=
  match page with
  | 0x01 => some (0, false, errorLog d)
  | 0x02 => some (0, false, smartLog d)
  | 0x03 => some (0, false, firmwareLog d)
  | 0x05 => some (0, false, effectsLog)
  | 0x06 => some (0, false, selfTestLog d)
  | 0x70 => if a.discovery then some (0, false, discoveryLog a.port d) else none
  | 0x81 => some (0, false, sanitizeLog d)
  | 0xC0 => some (0, false, longStatusLog d)
  | 0xC2 => some (1, false, lostLog d)
  | 0xC3 => some (0, false, mediaLog d)
  | 0xC4 => some (1, true, (d.fw.dump.map (·.bytes)).getD [])
  | 0xC5 => some (1, false, eventRing d)
  | _ => none

/-- GET_LOG_PAGE: a read without Retain clears the page's events. DESIGN CHOICE (log 216): what lies beyond the end of a page reads as zero
bytes, with success. -/
def getLogPage (q : QueueRef) (c : Capsule) (a : Assoc) (d : Device) : Device :=
  let page := bits c.sqe.cdw10 7 0
  let off := logOffset c.sqe
  let len := logLength c.sqe
  if page == 0xC1 then longResults q c d
  else if off % 4 != 0 then completeSt q c.sqe.tag .invalidField d
  else match logPage page a d with
    | none => completeSt q c.sqe.tag .invalidField d
    | some (need, session, bytes) =>
      if denied q need session d then completeSt q c.sqe.tag (.vendor 0xC2) d
      else
        let d := complete q c.sqe.tag .success 0 0 (padTo len (bytes.drop off)) d
        if bit c.sqe.cdw10 15 then d else aenClear q.port q.assoc page d

def execGetLogPage (q : QueueRef) (c : Capsule) (s : State) : Host.Outcome State Fault Refusal := next s (adminCmd q c (getLogPage q c))

end Sys2Proof.Machine
end

