-- ==== Sys2Proof/Machine/AdminArrive.lean ====
section
/-! DEFINITION. An admin capsule of any opcode, and the frames that bring capsules (R16, R100, R142, R160, R168, R173, R177). -/

namespace Sys2Proof.Machine

/-! ## Fabrics properties (R142; the base specification has them, log 217) -/

/-- Controller capabilities: MQES [15:0] 1,023; CQR [16]; AMS [18:17] weighted round robin with urgent class beside round robin; the I/O command
sets [43]; the rest is free. -/
def capabilities : Nat :=
  let rest := Config.capabilityRest.toNat / 2 ^ 19 * 2 ^ 19
  setBit (setBit (setBit (setBit rest 16 true) 17 true) 43 true) 18 false + 1023

/-- Property Get of CAP, VS, CC and CSTS, CSTS.RDY following CC.EN. -/
def propertyGet (q : QueueRef) (c : Capsule) (a : Assoc) (d : Device) : Device :=
  let give := fun v => complete q c.sqe.tag .success (v % 2 ^ 32) (v / 2 ^ 32) [] d
  match c.sqe.cdw11 with
  | 0x00 => give capabilities
  | 0x08 => give 0x00020000
  | 0x14 => give a.cc
  | 0x1C => give (a.cc % 2)
  | _ => completeSt q c.sqe.tag .invalidField d

/-- Fabrics commands on an open admin queue: FCTYPE lies in CDW1 [7:0]. A Connect there names a queue that is open. -/
def fabrics (q : QueueRef) (c : Capsule) (a : Assoc) (d : Device) : Device :=
  match c.sqe.nsid % 256 with
  | 0x00 => propertySet q c d
  | 0x01 => completeSt q c.sqe.tag .sequenceError d
  | 0x04 => propertyGet q c a d
  | _ => completeSt q c.sqe.tag .invalidField d

/-! ## Commands by their codes -/

/-- Set Features by its feature identifier (R66, R67). -/
def setFeatures (q : QueueRef) (c : Capsule) (d : Device) : Device :=
  match bits c.sqe.cdw10 7 0 with
  | 0x01 => setArbitration q c d
  | 0x02 => setPower q c d
  | 0x04 => setThreshold q c d
  | 0x0C => setApst q c d
  | _ => setAssociation q c d

/-- Firmware Commit by its action; any other is Invalid Field in Command (R589). -/
def firmwareCommits (q : QueueRef) (c : Capsule) (d : Device) : Device :=
  match bits c.sqe.cdw10 5 3 with
  | 0 => commitDelta q c d
  | 1 => commitDelta q c d
  | 2 => commitPending q c d
  | _ => firmwareCommit q c (fun _ d => (.invalidField, d)) d

/-- Device Self-test by its code: any other than 1, 2 and 0xF is Invalid Field in Command (R168). -/
def selfTests (q : QueueRef) (c : Capsule) (d : Device) : Device :=
  match bits c.sqe.cdw10 3 0 with
  | 1 => startSelfTest q c 1 d
  | 2 => startSelfTest q c 2 d
  | 0xF => abortSelfTest q c d
  | _ => if denied q 2 false d then completeSt q c.sqe.tag (.vendor 0xC2) d else completeSt q c.sqe.tag .invalidField d

/-- Sanitize by its action: Overwrite and any other are Invalid Field in Command (R173). -/
def sanitizes (q : QueueRef) (c : Capsule) (d : Device) : Device :=
  match bits c.sqe.cdw10 2 0 with
  | 1 => exitFailureMode q c d
  | 2 => startSanitize q c 2 d
  | 4 => startSanitize q c 4 d
  | _ => if denied q 2 true d then completeSt q c.sqe.tag (.vendor 0xC2) d else completeSt q c.sqe.tag .invalidField d

/-- Long Operation Start by its type: a type that no partner starts is Invalid Field in Command, and takes no slot (R177). -/
def longStarts (q : QueueRef) (c : Capsule) (d : Device) : Device :=
  match bits c.sqe.cdw10 7 0 with
  | 0x01 => startPlain q c (listStart q c) d
  | 0x03 => startPlain q c (differenceStart c) d
  | 0x04 => startReplication q c d
  | 0x05 => startPlain q c (fun _ => scrubStart c) d
  | 0x07 => startPlain q c rebuildStart d
  | 0x08 => startPlain q c (fun _ => dumpStart c) d
  | _ => completeSt q c.sqe.tag .invalidField d

/-- Snapshot by its action; any other is Invalid Field in Command. -/
def snapshots (q : QueueRef) (c : Capsule) (d : Device) : Device :=
  match bits c.sqe.cdw10 7 0 with
  | 1 => createCmd q c d
  | 2 => deleteCmd q c d
  | _ => if denied q 2 false d then completeSt q c.sqe.tag (.vendor 0xC2) d else completeSt q c.sqe.tag .invalidField d

/-- An admin command by its opcode; an opcode that R160 does not list is Invalid Command Opcode. -/
def adminDo (q : QueueRef) (c : Capsule) (a : Assoc) (d : Device) : Device :=
  match c.sqe.opcode with
  | 0x02 => getLogPage q c a d
  | 0x06 => identify q c a d
  | 0x08 => complete q c.sqe.tag .success 1 0 [] d
  | 0x09 => setFeatures q c d
  | 0x0A => getFeatures q c a d
  | 0x0C => eventRequest q c a d
  | 0x10 => firmwareCommits q c d
  | 0x11 => firmwareDownload q c d
  | 0x14 => selfTests q c d
  | 0x18 => keepAlive q c d
  | 0x7F => fabrics q c a d
  | 0x84 => sanitizes q c d
  | 0xC0 => parameterRead q c d
  | 0xC1 => parameterWrite q c d
  | 0xC4 => longStarts q c d
  | 0xC5 => releaseSlot q c d
  | 0xC6 => snapshots q c d
  | _ => completeSt q c.sqe.tag .invalidOpcode d

/-- A capsule on an admin queue. -/
def adminArrive (q : QueueRef) (c : Capsule) (d : Device) : Device := adminCmd q c (adminDo q c) d

/-- A frame arrives, and the capsule that it completes, on a queue of its port. -/
def frameReceive (p : Nat) (f : RxFrame) (d : Device) : Device :=
  let r := frameTaken p f d
  match f.capsule with
  | some (q, c) =>
    if r.1 && portMode p d == 1 && q.port == p then (if q.qid == 0 then adminArrive q c r.2 else ioArrive q c r.2) else r.2
  | none => r.2

def execFrameReceive (port : Nat) (f : RxFrame) (s : State) : Host.Outcome State Fault Refusal := next s (frameReceive port f)

end Sys2Proof.Machine
end

