-- ==== Sys2Proof/Machine/Can.lean ====
section
/-! DEFINITION. CANopen FD: USDO transfers, NMT, heartbeats, EMCY and TPDOs (R73 to R81), and the world violations of R520 to R522. -/

namespace Sys2Proof.Machine

/-! ## USDO (R73, R77) -/

/-- The largest DOMAIN value that USDO carries. -/
def usdoMax : Nat := 2 ^ 24

/-- The entry is a DOMAIN. -/
def isDomain (idx sub : Nat) : Bool := (odEntry? idx sub).any fun e => e.typ.isDomain

/-- A USDO transfer of a client node. -/
def usdo (node idx sub : Nat) (f : Device → Device) (s : State) : Host.Outcome State Fault Refusal := odRow (.can node) idx sub 0 f s

/-- USDO_DOWNLOAD. -/
def execUsdoDownload (node idx sub : Nat) (v : Bytes) (s : State) : Host.Outcome State Fault Refusal :=
  usdo node idx sub (fun d =>
    let r := ReplyTo.accessor (.can node)
    if isDomain idx sub && usdoMax < v.length then answer r idx sub (.abort 0x06010000) [] 0 0 d
    else answerWrite r idx sub (odWrite (.can node) r idx sub v (endAssembly (.can node) d))) s

/-- USDO_UPLOAD. -/
def execUsdoUpload (node idx sub : Nat) (s : State) : Host.Outcome State Fault Refusal :=
  usdo node idx sub (fun d =>
    let r := ReplyTo.accessor (.can node)
    match odRead (.can node) idx sub 0 d with
    | .error code => answer r idx sub (.abort code) [] 0 0 d
    | .ok (v, t) =>
      if isDomain idx sub && usdoMax < v.length then answer r idx sub (.abort 0x06010000) [] 0 0 d
      else answer r idx sub .ok v v.length v.length t) s

/-- USDO_SEGMENT_TIMEOUT: a transfer of the node has had no segment for 1 s. The rows carry whole values, so the transfer is one whose
value never came; a download that waits for its confirmation has had all its segments. -/
def execUsdoSegmentTimeout (node : Nat) (s : State) : Host.Outcome State Fault Refusal :=
  next s fun d =>
    if !emcyActive d || d.can.transfers.any (·.node == node) then d
    else emit (.can (.usdoAbort node 0x05040000)) (waitUntil (d.time.now + sec 1) d)

/-- USDO_UNSUPPORTED_REQUEST. -/
def execUsdoUnsupportedRequest (node : Nat) (s : State) : Host.Outcome State Fault Refusal :=
  next s fun d => if emcyActive d then emit (.can (.usdoAbort node 0x05040001)) d else d

/-- CAN_UNSUPPORTED_MESSAGE: ignored, without a reply. -/
def execCanUnsupportedMessage (_ident : Nat) (s : State) : Host.Outcome State Fault Refusal := next s id

/-! ## NMT (R74 to R76) -/

/-- An NMT command reaches this node: node-ID 0 addresses every node. -/
def nmtCommand (node : Nat) (f : Device → Device) (s : State) : Host.Outcome State Fault Refusal :=
  next s fun d => if dictAnswers d && d.can.nmt != .silent && (node == 0 || node == d.nodeId) then f d else d

def toNmt (x : NmtState) (d : Device) : Device := { d with can := { d.can with nmt := x } }

/-- A communication entry of the value store. -/
def isCommunication (k : Nat) : Bool := 0x1000 ≤ keyIdx k && keyIdx k ≤ 0x1FFF

/-- The communication entries take their persisted values. -/
def reloadCommunication (d : Device) : Device :=
  let saved : Tbl Nat := match newerCopy d with
    | some c => c.cells.filter fun r => isCommunication r.1
    | none => []
  let rest : Tbl Nat := d.dict.cells.filter fun r => !isCommunication r.1
  { d with dict := { d.dict with cells := saved.foldl (fun t r => tblPut t r.1 r.2) rest } }

/-- Reset communication: CAN sessions close, the bit rates take effect, and the node is Pre-operational after its boot-up message. -/
def resetCommunication (d : Device) : Device :=
  let d := closeSessions (fun x => wayOf x.acc == 1) (reloadCommunication d)
  emit (.can .bootUp) { d with can := { d.can with
    nmt := .preOperational, transfers := [], lastHeartbeat := d.time.now, heartbeatSent := d.time.now, nominalRate := odVal 0x2000 6 d, dataRate := odVal 0x2000 7 d } }

/-- NMT_START. -/
def execNmtStart (node : Nat) (s : State) : Host.Outcome State Fault Refusal := nmtCommand node (toNmt .operational) s

/-- NMT_STOP. -/
def execNmtStop (node : Nat) (s : State) : Host.Outcome State Fault Refusal := nmtCommand node (toNmt .stopped) s

/-- NMT_ENTER_PRE_OPERATIONAL. -/
def execNmtEnterPreOperational (node : Nat) (s : State) : Host.Outcome State Fault Refusal := nmtCommand node (toNmt .preOperational) s

/-- NMT_RESET_COMMUNICATION. -/
def execNmtResetCommunication (node : Nat) (s : State) : Host.Outcome State Fault Refusal := nmtCommand node resetCommunication s

/-- NMT_RESET_NODE: as Reset communication; the device does not reset. -/
def execNmtResetNode (node : Nat) (s : State) : Host.Outcome State Fault Refusal := nmtCommand node resetCommunication s

/-! ## Heartbeats (R78) -/

/-- The state byte of a heartbeat. -/
def nmtCode : NmtState → Nat
  | .stopped => 4
  | .operational => 5
  | _ => 127

/-- HEARTBEAT_PRODUCE: the period of OD 0x1017 has passed. -/
def execHeartbeatProduce (s : State) : Host.Outcome State Fault Refusal :=
  next s fun d =>
    if !dictAnswers d || d.can.nmt == .silent || odVal 0x1017 0 d == 0 then d
    else
      let d := waitUntil (d.can.heartbeatSent + ms (odVal 0x1017 0 d)) d
      emit (.can (.heartbeat (nmtCode d.can.nmt))) { d with can := { d.can with heartbeatSent := d.time.now } }

/-- Node watched, and its time in ms. -/
def watchedNode (d : Device) : Nat := bits (odVal 0x1016 1 d) 23 16
def watchedTime (d : Device) : Nat := bits (odVal 0x1016 1 d) 15 0

/-- Key of the condition of EMCY 0x8130. -/
def heartbeatKey : Nat := 0x03030000

/-- HEARTBEAT_CONSUMER_RECEIVE. -/
def execHeartbeatConsumerReceive (node : Nat) (s : State) : Host.Outcome State Fault Refusal :=
  next s fun d =>
    if !dictAnswers d || d.can.nmt == .silent || watchedNode d != node || watchedTime d == 0 then d
    else
      let was := d.can.heartbeatTimeout
      let d := { d with can := { d.can with lastHeartbeat := d.time.now, heartbeatTimeout := false } }
      if was then clearEmcy heartbeatKey 0x0304 (logEvent 0x0304 0x0070 0 (node * 65536) d) else d

/-- HEARTBEAT_CONSUMER_TIMEOUT: the consumer time has passed since the last heartbeat. -/
def execHeartbeatConsumerTimeout (s : State) : Host.Outcome State Fault Refusal :=
  next s fun d =>
    if !dictAnswers d || d.can.nmt == .silent || watchedTime d == 0 || d.can.heartbeatTimeout then d
    else
      let d := waitUntil (d.can.lastHeartbeat + ms (watchedTime d)) d
      let d := logEvent 0x0303 0x0070 2 (watchedNode d * 65536 + watchedTime d) { d with can := { d.can with heartbeatTimeout := true } }
      raiseEmcy heartbeatKey 0x8130 0x0303 d

/-! ## EMCY (R79, R80) -/

/-- EMCY_INHIBIT_EXPIRY: the first EMCY held goes out. -/
def execEmcyInhibitExpiry (s : State) : Host.Outcome State Fault Refusal :=
  next s fun d => match d.can.held with
    | [] => d
    | e :: rest =>
      if !emcyActive d then d
      else
        let d := waitUntil d.can.inhibitUntil d
        logDrops (transmitEmcy e { d with can := { d.can with held := rest } })

/-- CAN_RECEIVE_OVERRUN. -/
def execCanReceiveOverrun (s : State) : Host.Outcome State Fault Refusal :=
  next s fun d => if dictAnswers d then sendEmcy 0x8110 (Config.overrunEvent % 65536) d else d

/-- CAN_ERROR_PASSIVE: bit [4] of OD 0x1001 follows. -/
def execCanErrorPassive (enter : Bool) (s : State) : Host.Outcome State Fault Refusal :=
  next s fun d => if dictAnswers d then { d with can := { d.can with errorPassive := enter } } else d

/-! ## TPDOs (R81) -/

/-- The values that TPDO `n` maps, in order. -/
def tpdoData (n : Nat) (d : Device) : Bytes :=
  (List.range (odVal (0x19FF + n) 0 d)).flatMap fun i =>
    let m := odVal (0x19FF + n) (i + 1) d
    odCurrent (.firmware 0 true) (bits m 31 16) (bits m 15 8) 0 d

/-- The TPDO is on: it exists, it is valid, and the node is Operational. -/
def tpdoOn (n : Nat) (d : Device) : Bool :=
  1 ≤ n && n ≤ 4 && dictAnswers d && d.can.nmt == .operational && !bit (odVal (0x17FF + n) 1 d) 31

def tpdoLast (n : Nat) (d : Device) : Bytes × Nat := d.can.tpdoSent.getD (n - 1) ([], 0)

def sendTpdo (n : Nat) (d : Device) : Device :=
  let v := tpdoData n d
  emit (.can (.tpdo n v)) { d with can := { d.can with tpdoSent := d.can.tpdoSent.set (n - 1) (v, d.time.now) } }

/-- TPDO_EVENT_TIMER, of TPDO 1 to 4. -/
def execTpdoEventTimer (n : Nat) (s : State) : Host.Outcome State Fault Refusal :=
  next s fun d =>
    let t := odVal (0x17FF + n) 5 d
    if !tpdoOn n d || t == 0 then d else sendTpdo n (waitUntil ((tpdoLast n d).2 + ms t) d)

/-- TPDO_CHANGE_SEND: a mapped value has changed, and the inhibit time has passed. -/
def execTpdoChangeSend (n : Nat) (s : State) : Host.Outcome State Fault Refusal :=
  next s fun d =>
    if !tpdoOn n d || tpdoData n d == (tpdoLast n d).1 then d
    else sendTpdo n (waitUntil ((tpdoLast n d).2 + us (100 * odVal (0x17FF + n) 3 d)) d)

/-! ## World violations (R520 to R522) -/

/-- WORLD_VIOLATION: a non-secure transaction addressed a secure unit or region; its read returned zeros, its write was discarded. -/
def execWorldViolation (initiator addr : Nat) (s : State) : Host.Outcome State Fault Refusal :=
  next s fun d => if isUp d then worldViolation initiator addr d else d

/-- INSTRUCTION_FETCH_REFUSED: counted and logged alike, then a fatal error with cause 0x0001. -/
def execInstructionFetchRefused (initiator addr : Nat) (s : State) : Host.Outcome State Fault Refusal :=
  next s fun d => if isUp d then declareFatal 0x0001 (worldViolation initiator addr d) else d

end Sys2Proof.Machine
end

