-- ==== Sys2Proof/Machine/Dispatch.lean ====
section
/-! DEFINITION. The meaning of each command. -/

namespace Sys2Proof.Machine

/-- The effect of a command on everything but the queue. -/
def exec (i : Instr) (s : State) : Host.Outcome State Fault Refusal :=
  match i with
  | .store q c => Sys2Proof.Machine.execStore q c s
  | .retrieve q c => Sys2Proof.Machine.execRetrieve q c s
  | .list q c => Sys2Proof.Machine.execList q c s
  | .delete q c => Sys2Proof.Machine.execDelete q c s
  | .secureDelete q c => Sys2Proof.Machine.execSecureDelete q c s
  | .exist q c => Sys2Proof.Machine.execExist q c s
  | .longKeyStore q c => Sys2Proof.Machine.execLongKeyStore q c s
  | .longKeyRetrieve q c => Sys2Proof.Machine.execLongKeyRetrieve q c s
  | .batchStore q c => Sys2Proof.Machine.execBatchStore q c s
  | .longKeyList q c => Sys2Proof.Machine.execLongKeyList q c s
  | .longKeyDelete q c => Sys2Proof.Machine.execLongKeyDelete q c s
  | .longKeyDeleteRange q c => Sys2Proof.Machine.execLongKeyDeleteRange q c s
  | .longKeyExist q c => Sys2Proof.Machine.execLongKeyExist q c s
  | .commandFetch => Sys2Proof.Machine.execCommandFetch s
  | .lockGrant => Sys2Proof.Machine.execLockGrant s
  | .lockReservation q => Sys2Proof.Machine.execLockReservation q s
  | .getLogPage q c => Sys2Proof.Machine.execGetLogPage q c s
  | .getLongOperationResults q c => Sys2Proof.Machine.execGetLongOperationResults q c s
  | .identify q c => Sys2Proof.Machine.execIdentify q c s
  | .abort q c => Sys2Proof.Machine.execAbort q c s
  | .setFeaturesArbitration q c => Sys2Proof.Machine.execSetFeaturesArbitration q c s
  | .setFeaturesPowerManagement q c => Sys2Proof.Machine.execSetFeaturesPowerManagement q c s
  | .setFeaturesTemperatureThreshold q c => Sys2Proof.Machine.execSetFeaturesTemperatureThreshold q c s
  | .setFeaturesApst q c => Sys2Proof.Machine.execSetFeaturesApst q c s
  | .setFeaturesAssociation q c => Sys2Proof.Machine.execSetFeaturesAssociation q c s
  | .getFeatures q c => Sys2Proof.Machine.execGetFeatures q c s
  | .asynchronousEventRequest q c => Sys2Proof.Machine.execAsynchronousEventRequest q c s
  | .firmwareImageDownload q c => Sys2Proof.Machine.execFirmwareImageDownload q c s
  | .firmwareCommitApply q c => Sys2Proof.Machine.execFirmwareCommitApply q c s
  | .firmwareCommitActivate q c => Sys2Proof.Machine.execFirmwareCommitActivate q c s
  | .shortSelfTest q c => Sys2Proof.Machine.execShortSelfTest q c s
  | .extendedSelfTest q c => Sys2Proof.Machine.execExtendedSelfTest q c s
  | .selfTestAbort q c => Sys2Proof.Machine.execSelfTestAbort q c s
  | .selfTestSegment ok => Sys2Proof.Machine.execSelfTestSegment ok s
  | .keepAlive q c => Sys2Proof.Machine.execKeepAlive q c s
  | .connect r => Sys2Proof.Machine.execConnect r s
  | .propertySet q c => Sys2Proof.Machine.execPropertySet q c s
  | .sanitizeExitFailureMode q c => Sys2Proof.Machine.execSanitizeExitFailureMode q c s
  | .sanitizeBlockErase q c => Sys2Proof.Machine.execSanitizeBlockErase q c s
  | .sanitizeCryptoErase q c => Sys2Proof.Machine.execSanitizeCryptoErase q c s
  | .sanitizeComplete ok => Sys2Proof.Machine.execSanitizeComplete ok s
  | .parameterRead q c => Sys2Proof.Machine.execParameterRead q c s
  | .parameterWrite q c => Sys2Proof.Machine.execParameterWrite q c s
  | .longOperationList q c => Sys2Proof.Machine.execLongOperationList q c s
  | .snapshotDifference q c => Sys2Proof.Machine.execSnapshotDifference q c s
  | .longOperationReplication q c => Sys2Proof.Machine.execLongOperationReplication q c s
  | .scrub q c => Sys2Proof.Machine.execScrub q c s
  | .rebuildReport q c => Sys2Proof.Machine.execRebuildReport q c s
  | .dumpReadout q c => Sys2Proof.Machine.execDumpReadout q c s
  | .longOperationRelease q c => Sys2Proof.Machine.execLongOperationRelease q c s
  | .longOperationExpiry slot => Sys2Proof.Machine.execLongOperationExpiry slot s
  | .longOperationRecordCommit slot => Sys2Proof.Machine.execLongOperationRecordCommit slot s
  | .secureDeleteErasure slot => Sys2Proof.Machine.execSecureDeleteErasure slot s
  | .snapshotCreate q c => Sys2Proof.Machine.execSnapshotCreate q c s
  | .snapshotDelete q c => Sys2Proof.Machine.execSnapshotDelete q c s
  | .snapshotDeleteWrite acc n => Sys2Proof.Machine.execSnapshotDeleteWrite acc n s
  | .dictionaryWrite acc idx sub v => Sys2Proof.Machine.execDictionaryWrite acc idx sub v s
  | .restoreAllDefaults acc v => Sys2Proof.Machine.execRestoreAllDefaults acc v s
  | .windowSelectWrite acc idx n => Sys2Proof.Machine.execWindowSelectWrite acc idx n s
  | .windowRecordRead acc idx => Sys2Proof.Machine.execWindowRecordRead acc idx s
  | .challengeRead acc => Sys2Proof.Machine.execChallengeRead acc s
  | .sessionResponse acc sig => Sys2Proof.Machine.execSessionResponse acc sig s
  | .sessionClose acc => Sys2Proof.Machine.execSessionClose acc s
  | .sessionIdleTimeout acc => Sys2Proof.Machine.execSessionIdleTimeout acc s
  | .sessionLockoutExpiry inband => Sys2Proof.Machine.execSessionLockoutExpiry inband s
  | .challengeExpiry acc => Sys2Proof.Machine.execChallengeExpiry acc s
  | .assemblyTimeout acc => Sys2Proof.Machine.execAssemblyTimeout acc s
  | .gearTableActivate acc => Sys2Proof.Machine.execGearTableActivate acc s
  | .gearTableFillFactory acc => Sys2Proof.Machine.execGearTableFillFactory acc s
  | .generate acc slot tenant => Sys2Proof.Machine.execGenerate acc slot tenant s
  | .retire acc slot tenant => Sys2Proof.Machine.execRetire acc slot tenant s
  | .eraseTenant acc slot tenant => Sys2Proof.Machine.execEraseTenant acc slot tenant s
  | .reload acc slot tenant => Sys2Proof.Machine.execReload acc slot tenant s
  | .policyGroupCommit acc part => Sys2Proof.Machine.execPolicyGroupCommit acc part s
  | .policyGroupAbort acc part => Sys2Proof.Machine.execPolicyGroupAbort acc part s
  | .lostStripeClear acc => Sys2Proof.Machine.execLostStripeClear acc s
  | .namespaceRecordWrite acc v => Sys2Proof.Machine.execNamespaceRecordWrite acc v s
  | .dedupBindingWrite acc tenants v => Sys2Proof.Machine.execDedupBindingWrite acc tenants v s
  | .partitionTableWrite acc n v => Sys2Proof.Machine.execPartitionTableWrite acc n v s
  | .searchEntryWrite acc v => Sys2Proof.Machine.execSearchEntryWrite acc v s
  | .stripeClassWrite acc cls v => Sys2Proof.Machine.execStripeClassWrite acc cls v s
  | .boardEntryWrite acc v => Sys2Proof.Machine.execBoardEntryWrite acc v s
  | .commitPeriodWrite acc v => Sys2Proof.Machine.execCommitPeriodWrite acc v s
  | .preferredMapWrite acc group v => Sys2Proof.Machine.execPreferredMapWrite acc group v s
  | .captureModeWrite acc port v => Sys2Proof.Machine.execCaptureModeWrite acc port v s
  | .macStatisticsRead acc port sub ok => Sys2Proof.Machine.execMacStatisticsRead acc port sub ok s
  | .clearOnReadEntryRead acc board => Sys2Proof.Machine.execClearOnReadEntryRead acc board s
  | .powerStateRequest acc v => Sys2Proof.Machine.execPowerStateRequest acc v s
  | .enterPs4 acc => Sys2Proof.Machine.execEnterPs4 acc s
  | .wakeFromPs4 acc => Sys2Proof.Machine.execWakeFromPs4 acc s
  | .holdupTest acc => Sys2Proof.Machine.execHoldupTest acc s
  | .holdupTestDischarge va vb => Sys2Proof.Machine.execHoldupTestDischarge va vb s
  | .arbiterSurvive acc => Sys2Proof.Machine.execArbiterSurvive acc s
  | .arbiterStandDown acc => Sys2Proof.Machine.execArbiterStandDown acc s
  | .arbiterReleaseFence acc => Sys2Proof.Machine.execArbiterReleaseFence acc s
  | .arbiterTimeout => Sys2Proof.Machine.execArbiterTimeout s
  | .firmwareActivate acc => Sys2Proof.Machine.execFirmwareActivate acc s
  | .healthConfirm acc v => Sys2Proof.Machine.execHealthConfirm acc v s
  | .healthConfirmDeadline => Sys2Proof.Machine.execHealthConfirmDeadline s
  | .patchPackageWrite acc v => Sys2Proof.Machine.execPatchPackageWrite acc v s
  | .patchActivate acc => Sys2Proof.Machine.execPatchActivate acc s
  | .ownerEnrol acc v => Sys2Proof.Machine.execOwnerEnrol acc v s
  | .ownerRevoke acc n => Sys2Proof.Machine.execOwnerRevoke acc n s
  | .profileWrite acc slot v => Sys2Proof.Machine.execProfileWrite acc slot v s
  | .profileBindingWrite acc group slot => Sys2Proof.Machine.execProfileBindingWrite acc group slot s
  | .storageSummaryWrite acc v => Sys2Proof.Machine.execStorageSummaryWrite acc v s
  | .fanFloorWrite acc fan rpm => Sys2Proof.Machine.execFanFloorWrite acc fan rpm s
  | .fansFittedWrite acc v => Sys2Proof.Machine.execFansFittedWrite acc v s
  | .usdoDownload node idx sub v => Sys2Proof.Machine.execUsdoDownload node idx sub v s
  | .usdoUpload node idx sub => Sys2Proof.Machine.execUsdoUpload node idx sub s
  | .usdoSegmentTimeout node => Sys2Proof.Machine.execUsdoSegmentTimeout node s
  | .usdoUnsupportedRequest node => Sys2Proof.Machine.execUsdoUnsupportedRequest node s
  | .canUnsupportedMessage ident => Sys2Proof.Machine.execCanUnsupportedMessage ident s
  | .nmtStart node => Sys2Proof.Machine.execNmtStart node s
  | .nmtStop node => Sys2Proof.Machine.execNmtStop node s
  | .nmtEnterPreOperational node => Sys2Proof.Machine.execNmtEnterPreOperational node s
  | .nmtResetCommunication node => Sys2Proof.Machine.execNmtResetCommunication node s
  | .nmtResetNode node => Sys2Proof.Machine.execNmtResetNode node s
  | .heartbeatProduce => Sys2Proof.Machine.execHeartbeatProduce s
  | .heartbeatConsumerReceive node => Sys2Proof.Machine.execHeartbeatConsumerReceive node s
  | .heartbeatConsumerTimeout => Sys2Proof.Machine.execHeartbeatConsumerTimeout s
  | .emcyInhibitExpiry => Sys2Proof.Machine.execEmcyInhibitExpiry s
  | .canReceiveOverrun => Sys2Proof.Machine.execCanReceiveOverrun s
  | .tpdoEventTimer n => Sys2Proof.Machine.execTpdoEventTimer n s
  | .tpdoChangeSend n => Sys2Proof.Machine.execTpdoChangeSend n s
  | .frameReceive port f => Sys2Proof.Machine.execFrameReceive port f s
  | .arpRequest port addr => Sys2Proof.Machine.execArpRequest port addr s
  | .icmpEcho port data => Sys2Proof.Machine.execIcmpEcho port data s
  | .icmpUnreachable port conn mtu => Sys2Proof.Machine.execIcmpUnreachable port conn mtu s
  | .icreq port r => Sys2Proof.Machine.execIcreq port r s
  | .roceConnectRequest port qp => Sys2Proof.Machine.execRoceConnectRequest port qp s
  | .portLinkUp port lanes => Sys2Proof.Machine.execPortLinkUp port lanes s
  | .portLinkDown port => Sys2Proof.Machine.execPortLinkDown port s
  | .keepAliveExpiry port assoc => Sys2Proof.Machine.execKeepAliveExpiry port assoc s
  | .receiveBufferThreshold port fill => Sys2Proof.Machine.execReceiveBufferThreshold port fill s
  | .pauseRenewal port => Sys2Proof.Machine.execPauseRenewal port s
  | .pauseReceive port pfc priorities quanta => Sys2Proof.Machine.execPauseReceive port pfc priorities quanta s
  | .ecnCeReceive port qp => Sys2Proof.Machine.execEcnCeReceive port qp s
  | .cnpReceive port qp => Sys2Proof.Machine.execCnpReceive port qp s
  | .rateIncreaseTimer port qp => Sys2Proof.Machine.execRateIncreaseTimer port qp s
  | .ptpSync m => Sys2Proof.Machine.execPtpSync m s
  | .ptpAnnounce m => Sys2Proof.Machine.execPtpAnnounce m s
  | .ptpDelayResp port master received => Sys2Proof.Machine.execPtpDelayResp port master received s
  | .ptpDelayReqSend => Sys2Proof.Machine.execPtpDelayReqSend s
  | .announceReceiptTimeout => Sys2Proof.Machine.execAnnounceReceiptTimeout s
  | .holdoverLimitExpiry => Sys2Proof.Machine.execHoldoverLimitExpiry s
  | .timeLeaderChange => Sys2Proof.Machine.execTimeLeaderChange s
  | .epochOutPulse => Sys2Proof.Machine.execEpochOutPulse s
  | .epochInEdge frac => Sys2Proof.Machine.execEpochInEdge frac s
  | .epochInWake => Sys2Proof.Machine.execEpochInWake s
  | .commitGroup entry => Sys2Proof.Machine.execCommitGroup entry s
  | .powerFailCommit entry => Sys2Proof.Machine.execPowerFailCommit entry s
  | .snapshotCut entry => Sys2Proof.Machine.execSnapshotCut entry s
  | .channelHandover entry => Sys2Proof.Machine.execChannelHandover entry s
  | .bucketMove entry => Sys2Proof.Machine.execBucketMove entry s
  | .freeze entry => Sys2Proof.Machine.execFreeze entry s
  | .timeStep entry => Sys2Proof.Machine.execTimeStep entry s
  | .groupPowerUp entry probe => Sys2Proof.Machine.execGroupPowerUp entry probe s
  | .groupPowerDown entry => Sys2Proof.Machine.execGroupPowerDown entry s
  | .tollWindow entry => Sys2Proof.Machine.execTollWindow entry s
  | .fanRamp entry => Sys2Proof.Machine.execFanRamp entry s
  | .gearActivate entry => Sys2Proof.Machine.execGearActivate entry s
  | .policyGroup entry => Sys2Proof.Machine.execPolicyGroup entry s
  | .slotRetire entry => Sys2Proof.Machine.execSlotRetire entry s
  | .tenantErase entry => Sys2Proof.Machine.execTenantErase entry s
  | .eventMark entry => Sys2Proof.Machine.execEventMark entry s
  | .pairedLaunchMismatch entry => Sys2Proof.Machine.execPairedLaunchMismatch entry s
  | .pairedPlacementDeadline entry => Sys2Proof.Machine.execPairedPlacementDeadline entry s
  | .peerAliveToggle => Sys2Proof.Machine.execPeerAliveToggle s
  | .peerAliveAsserted => Sys2Proof.Machine.execPeerAliveAsserted s
  | .peerAliveLost => Sys2Proof.Machine.execPeerAliveLost s
  | .livenessWatchdogExpiry => Sys2Proof.Machine.execLivenessWatchdogExpiry s
  | .linkUp lanes => Sys2Proof.Machine.execLinkUp lanes s
  | .linkDown => Sys2Proof.Machine.execLinkDown s
  | .peerWaitExpiry => Sys2Proof.Machine.execPeerWaitExpiry s
  | .fenceInAssert => Sys2Proof.Machine.execFenceInAssert s
  | .fenceInRelease straps => Sys2Proof.Machine.execFenceInRelease straps s
  | .takeover keys chunks stripes blocks trained => Sys2Proof.Machine.execTakeover keys chunks stripes blocks trained s
  | .takeoverComplete => Sys2Proof.Machine.execTakeoverComplete s
  | .handoverPlacement => Sys2Proof.Machine.execHandoverPlacement s
  | .handoverDrained group => Sys2Proof.Machine.execHandoverDrained group s
  | .handoverRelease group => Sys2Proof.Machine.execHandoverRelease group s
  | .handoverTakeChannel group trained => Sys2Proof.Machine.execHandoverTakeChannel group trained s
  | .rebalanceWindow => Sys2Proof.Machine.execRebalanceWindow s
  | .bucketRecordsStream bucket => Sys2Proof.Machine.execBucketRecordsStream bucket s
  | .ack h cls => Sys2Proof.Machine.execAck h cls s
  | .frameRetransmitTimer cls => Sys2Proof.Machine.execFrameRetransmitTimer cls s
  | .ackTimer cls => Sys2Proof.Machine.execAckTimer cls s
  | .hello h m => Sys2Proof.Machine.execHello h m s
  | .heartbeat h m => Sys2Proof.Machine.execHeartbeat h m s
  | .place h entry body => Sys2Proof.Machine.execPlace h entry body s
  | .armed h entry => Sys2Proof.Machine.execArmed h entry s
  | .cancel h entry => Sys2Proof.Machine.execCancel h entry s
  | .launchReport h entry tick => Sys2Proof.Machine.execLaunchReport h entry tick s
  | .handoverState h group mask blocks => Sys2Proof.Machine.execHandoverState h group mask blocks s
  | .released h group mask tick => Sys2Proof.Machine.execReleased h group mask tick s
  | .handoverAbort h entry group mask => Sys2Proof.Machine.execHandoverAbort h entry group mask s
  | .loopback h tick pattern => Sys2Proof.Machine.execLoopback h tick pattern s
  | .fwdCmd h m => Sys2Proof.Machine.execFwdCmd h m s
  | .fwdData h fwd off data => Sys2Proof.Machine.execFwdData h fwd off data s
  | .fwdCompletion h m => Sys2Proof.Machine.execFwdCompletion h m s
  | .lockReserve h fwd idents => Sys2Proof.Machine.execLockReserve h fwd idents s
  | .lockReply h fwd full => Sys2Proof.Machine.execLockReply h fwd full s
  | .mirrorData h write r => Sys2Proof.Machine.execMirrorData h write r s
  | .mirrorAck h write records => Sys2Proof.Machine.execMirrorAck h write records s
  | .mirrorRelease h writes => Sys2Proof.Machine.execMirrorRelease h writes s
  | .journalPage h p => Sys2Proof.Machine.execJournalPage h p s
  | .journalAck h seq => Sys2Proof.Machine.execJournalAck h seq s
  | .journalResend h first last => Sys2Proof.Machine.execJournalResend h first last s
  | .fpRequestClaim h req domain fp => Sys2Proof.Machine.execFpRequestClaim h req domain fp s
  | .fpRequestClaimRelease h req domain fp copy => Sys2Proof.Machine.execFpRequestClaimRelease h req domain fp copy s
  | .fpRequestDecrement h req domain fp copy => Sys2Proof.Machine.execFpRequestDecrement h req domain fp copy s
  | .fpRequestPresent h req m => Sys2Proof.Machine.execFpRequestPresent h req m s
  | .fpRequestLocate h req domain fp copy => Sys2Proof.Machine.execFpRequestLocate h req domain fp copy s
  | .fpReply h m => Sys2Proof.Machine.execFpReply h m s
  | .invalidate h domain copy fp => Sys2Proof.Machine.execInvalidate h domain copy fp s
  | .invalidateAck h domain copy fp => Sys2Proof.Machine.execInvalidateAck h domain copy fp s
  | .unitRead h req d prio => Sys2Proof.Machine.execUnitRead h req d prio s
  | .unitData h req status off data => Sys2Proof.Machine.execUnitData h req status off data s
  | .moveRequest h req stripe d reason => Sys2Proof.Machine.execMoveRequest h req stripe d reason s
  | .eraseRequest h req d barrier => Sys2Proof.Machine.execEraseRequest h req d barrier s
  | .requestDone h req result => Sys2Proof.Machine.execRequestDone h req result s
  | .bucketRecords h bucket records => Sys2Proof.Machine.execBucketRecords h bucket records s
  | .drainDone h bucket g => Sys2Proof.Machine.execDrainDone h bucket g s
  | .fpEntries h entries => Sys2Proof.Machine.execFpEntries h entries s
  | .tableSync h idx sub entry off value => Sys2Proof.Machine.execTableSync h idx sub entry off value s
  | .tableAck h idx sub entry code => Sys2Proof.Machine.execTableAck h idx sub entry code s
  | .offer h m => Sys2Proof.Machine.execOffer h m s
  | .finish h sig => Sys2Proof.Machine.execFinish h sig s
  | .slotKey h count tagOk slot tenant keygen key => Sys2Proof.Machine.execSlotKey h count tagOk slot tenant keygen key s
  | .mapKey h count tagOk key => Sys2Proof.Machine.execMapKey h count tagOk key s
  | .hashSecret h count tagOk secret => Sys2Proof.Machine.execHashSecret h count tagOk secret s
  | .salt h count tagOk domain value => Sys2Proof.Machine.execSalt h count tagOk domain value s
  | .gear h count tagOk generation entries => Sys2Proof.Machine.execGear h count tagOk generation entries s
  | .secureAck h count tagOk acked => Sys2Proof.Machine.execSecureAck h count tagOk acked s
  | .ownerRecord h count tagOk n pub secret => Sys2Proof.Machine.execOwnerRecord h count tagOk n pub secret s
  | .workDescriptorPost host bucket w => Sys2Proof.Machine.execWorkDescriptorPost host bucket w s
  | .descriptorReturn tag status => Sys2Proof.Machine.execDescriptorReturn tag status s
  | .machineCheck e kind groups => Sys2Proof.Machine.execMachineCheck e kind groups s
  | .descriptorTimeLimit e => Sys2Proof.Machine.execDescriptorTimeLimit e s
  | .backgroundSliceEnd e => Sys2Proof.Machine.execBackgroundSliceEnd e s
  | .nextSeq e => Sys2Proof.Machine.execNextSeq e s
  | .jumpSeq e target => Sys2Proof.Machine.execJumpSeq e target s
  | .branchTrue e target cond => Sys2Proof.Machine.execBranchTrue e target cond s
  | .branchFalse e target cond => Sys2Proof.Machine.execBranchFalse e target cond s
  | .callSeq e target => Sys2Proof.Machine.execCallSeq e target s
  | .returnSeq e => Sys2Proof.Machine.execReturnSeq e s
  | .dispatchSeq e => Sys2Proof.Machine.execDispatchSeq e s
  | .haltSeq e => Sys2Proof.Machine.execHaltSeq e s
  | .nopOp e => Sys2Proof.Machine.execNopOp e s
  | .movOp e a dst => Sys2Proof.Machine.execMovOp e a dst s
  | .addOp e a b dst => Sys2Proof.Machine.execAddOp e a b dst s
  | .subOp e a b dst => Sys2Proof.Machine.execSubOp e a b dst s
  | .andOp e a b dst => Sys2Proof.Machine.execAndOp e a b dst s
  | .orOp e a b dst => Sys2Proof.Machine.execOrOp e a b dst s
  | .xorOp e a b dst => Sys2Proof.Machine.execXorOp e a b dst s
  | .shlOp e a b dst => Sys2Proof.Machine.execShlOp e a b dst s
  | .shrOp e a b dst => Sys2Proof.Machine.execShrOp e a b dst s
  | .addiOp e a imm dst => Sys2Proof.Machine.execAddiOp e a imm dst s
  | .ldiOp e imm dst => Sys2Proof.Machine.execLdiOp e imm dst s
  | .ldihOp e a imm dst => Sys2Proof.Machine.execLdihOp e a imm dst s
  | .cmpOp e a b => Sys2Proof.Machine.execCmpOp e a b s
  | .cmpiOp e a imm => Sys2Proof.Machine.execCmpiOp e a imm s
  | .mulOp e a b dst => Sys2Proof.Machine.execMulOp e a b dst s
  | .minOp e a b dst => Sys2Proof.Machine.execMinOp e a b dst s
  | .maxOp e a b dst => Sys2Proof.Machine.execMaxOp e a b dst s
  | .getOp e port dst => Sys2Proof.Machine.execGetOp e port dst s
  | .bsetOp e a b buf => Sys2Proof.Machine.execBsetOp e a b buf s
  | .badvOp e a buf => Sys2Proof.Machine.execBadvOp e a buf s
  | .lddOp e imm dst => Sys2Proof.Machine.execLddOp e imm dst s
  | .stdOp e a => Sys2Proof.Machine.execStdOp e a s
  | .bswapOp e a dst => Sys2Proof.Machine.execBswapOp e a dst s
  | .popcntOp e a dst => Sys2Proof.Machine.execPopcntOp e a dst s
  | .chunkStart e buf => Sys2Proof.Machine.execChunkStart e buf s
  | .chunkNext e => Sys2Proof.Machine.execChunkNext e s
  | .chunkStop e => Sys2Proof.Machine.execChunkStop e s
  | .shaStartPrefix e => Sys2Proof.Machine.execShaStartPrefix e s
  | .shaStart e => Sys2Proof.Machine.execShaStart e s
  | .shaFeedChunk e => Sys2Proof.Machine.execShaFeedChunk e s
  | .shaFeedBuffer e buf => Sys2Proof.Machine.execShaFeedBuffer e buf s
  | .shaFinish e buf => Sys2Proof.Machine.execShaFinish e buf s
  | .compress e buf => Sys2Proof.Machine.execCompress e buf s
  | .decompress e buf => Sys2Proof.Machine.execDecompress e buf s
  | .discard e => Sys2Proof.Machine.execDiscard e s
  | .encrypt e buf => Sys2Proof.Machine.execEncrypt e buf s
  | .decrypt e buf => Sys2Proof.Machine.execDecrypt e buf s
  | .sealPage e buf => Sys2Proof.Machine.execSealPage e buf s
  | .openPage e buf => Sys2Proof.Machine.execOpenPage e buf s
  | .aesCancel e => Sys2Proof.Machine.execAesCancel e s
  | .gfClear e => Sys2Proof.Machine.execGfClear e s
  | .gfAccumulate e buf imm => Sys2Proof.Machine.execGfAccumulate e buf imm s
  | .emitP e buf => Sys2Proof.Machine.execEmitP e buf s
  | .emitQ e buf => Sys2Proof.Machine.execEmitQ e buf s
  | .solveOne e buf imm => Sys2Proof.Machine.execSolveOne e buf imm s
  | .solveTwo e buf imm => Sys2Proof.Machine.execSolveTwo e buf imm s
  | .dmaReadStaging e a buf => Sys2Proof.Machine.execDmaReadStaging e a buf s
  | .dmaReadDdr e a buf => Sys2Proof.Machine.execDmaReadDdr e a buf s
  | .dmaReadFlash e a buf => Sys2Proof.Machine.execDmaReadFlash e a buf s
  | .dmaReadLink e a buf => Sys2Proof.Machine.execDmaReadLink e a buf s
  | .dmaWriteStaging e b buf => Sys2Proof.Machine.execDmaWriteStaging e b buf s
  | .dmaWriteDdr e b buf => Sys2Proof.Machine.execDmaWriteDdr e b buf s
  | .dmaWriteFlash e b buf => Sys2Proof.Machine.execDmaWriteFlash e b buf s
  | .dmaWriteLink e b buf => Sys2Proof.Machine.execDmaWriteLink e b buf s
  | .policySearch e buf => Sys2Proof.Machine.execPolicySearch e buf s
  | .hotSetSearch e buf => Sys2Proof.Machine.execHotSetSearch e buf s
  | .bucketOverrideSearch e buf => Sys2Proof.Machine.execBucketOverrideSearch e buf s
  | .searchResult bad => Sys2Proof.Machine.execSearchResult bad s
  | .throttleStepChange temp => Sys2Proof.Machine.execThrottleStepChange temp s
  | .lockTest e => Sys2Proof.Machine.execLockTest e s
  | .lockRelease e => Sys2Proof.Machine.execLockRelease e s
  | .append e buf => Sys2Proof.Machine.execAppend e buf s
  | .markJnl e => Sys2Proof.Machine.execMarkJnl e s
  | .flashRead e a => Sys2Proof.Machine.execFlashRead e a s
  | .flashProgram e a => Sys2Proof.Machine.execFlashProgram e a s
  | .flashReadNextStep e a => Sys2Proof.Machine.execFlashReadNextStep e a s
  | .flashReadDeep e a => Sys2Proof.Machine.execFlashReadDeep e a s
  | .tollRequestRead e => Sys2Proof.Machine.execTollRequestRead e s
  | .tollRequestProgram e => Sys2Proof.Machine.execTollRequestProgram e s
  | .tollReturn e => Sys2Proof.Machine.execTollReturn e s
  | .tollTokensGranted op => Sys2Proof.Machine.execTollTokensGranted op s
  | .evtWrite e code imm a => Sys2Proof.Machine.execEvtWrite e code imm a s
  | .cntAdd e ctr b => Sys2Proof.Machine.execCntAdd e ctr b s
  | .msgSend e a b => Sys2Proof.Machine.execMsgSend e a b s
  | .msgClaim e => Sys2Proof.Machine.execMsgClaim e s
  | .msgRelease e => Sys2Proof.Machine.execMsgRelease e s
  | .msgPresent e => Sys2Proof.Machine.execMsgPresent e s
  | .aesRequestComplete e => Sys2Proof.Machine.execAesRequestComplete e s
  | .compressDone e mismatch => Sys2Proof.Machine.execCompressDone e mismatch s
  | .shaDone e => Sys2Proof.Machine.execShaDone e s
  | .gfUnitDone e => Sys2Proof.Machine.execGfUnitDone e s
  | .moverDone e write => Sys2Proof.Machine.execMoverDone e write s
  | .slotLimitDurable slot => Sys2Proof.Machine.execSlotLimitDurable slot s
  | .alarm sources => Sys2Proof.Machine.execAlarm sources s
  | .alarmSourcesClear => Sys2Proof.Machine.execAlarmSourcesClear s
  | .alarmReloadComplete => Sys2Proof.Machine.execAlarmReloadComplete s
  | .stripeClose cls cluster => Sys2Proof.Machine.execStripeClose cls cluster s
  | .gatherLimitExpiry cls cluster => Sys2Proof.Machine.execGatherLimitExpiry cls cluster s
  | .stripeIssueDurable stripe => Sys2Proof.Machine.execStripeIssueDurable stripe s
  | .stripeMembersProgrammed stripe => Sys2Proof.Machine.execStripeMembersProgrammed stripe s
  | .stripeRelease stripe => Sys2Proof.Machine.execStripeRelease stripe s
  | .journalDurable seq => Sys2Proof.Machine.execJournalDurable seq s
  | .flashReadComplete op decoded bitErrors => Sys2Proof.Machine.execFlashReadComplete op decoded bitErrors s
  | .flashReadTimeout op => Sys2Proof.Machine.execFlashReadTimeout op s
  | .hardReadLimit op => Sys2Proof.Machine.execHardReadLimit op s
  | .flashProgramComplete op => Sys2Proof.Machine.execFlashProgramComplete op s
  | .flashProgramFailure op => Sys2Proof.Machine.execFlashProgramFailure op s
  | .flashProgramTimeout op => Sys2Proof.Machine.execFlashProgramTimeout op s
  | .flashEraseComplete op => Sys2Proof.Machine.execFlashEraseComplete op s
  | .flashEraseFailure op => Sys2Proof.Machine.execFlashEraseFailure op s
  | .lunResetTimeout channel target lun => Sys2Proof.Machine.execLunResetTimeout channel target lun s
  | .rebuildStripe element => Sys2Proof.Machine.execRebuildStripe element s
  | .rebuildResume element => Sys2Proof.Machine.execRebuildResume element s
  | .lostStripeKeyScan stripe => Sys2Proof.Machine.execLostStripeKeyScan stripe s
  | .journalCopyRewritten copy => Sys2Proof.Machine.execJournalCopyRewritten copy s
  | .checkpointStart => Sys2Proof.Machine.execCheckpointStart s
  | .checkpointComplete => Sys2Proof.Machine.execCheckpointComplete s
  | .mapPageFill typ lid => Sys2Proof.Machine.execMapPageFill typ lid s
  | .gcLevelChange channel => Sys2Proof.Machine.execGcLevelChange channel s
  | .blockReclaim channel => Sys2Proof.Machine.execBlockReclaim channel s
  | .stripeCompaction => Sys2Proof.Machine.execStripeCompaction s
  | .manifestCompaction => Sys2Proof.Machine.execManifestCompaction s
  | .wearLevel channel => Sys2Proof.Machine.execWearLevel channel s
  | .blockErase d => Sys2Proof.Machine.execBlockErase d s
  | .refresh d => Sys2Proof.Machine.execRefresh d s
  | .patrolSample d bitErrors => Sys2Proof.Machine.execPatrolSample d bitErrors s
  | .thermalAgeSample temps junction => Sys2Proof.Machine.execThermalAgeSample temps junction s
  | .ledgerRecord => Sys2Proof.Machine.execLedgerRecord s
  | .pwrFailNAssert => Sys2Proof.Machine.execPwrFailNAssert s
  | .powerFailFlushEnd => Sys2Proof.Machine.execPowerFailFlushEnd s
  | .pwrFailNDeassert => Sys2Proof.Machine.execPwrFailNDeassert s
  | .flushRelease flush => Sys2Proof.Machine.execFlushRelease flush s
  | .holdupOkChange level => Sys2Proof.Machine.execHoldupOkChange level s
  | .porstNAssert => Sys2Proof.Machine.execPorstNAssert s
  | .porstNRelease straps => Sys2Proof.Machine.execPorstNRelease straps s
  | .coldStart => Sys2Proof.Machine.execColdStart s
  | .cleanDormantExit => Sys2Proof.Machine.execCleanDormantExit s
  | .corePgTimeout => Sys2Proof.Machine.execCorePgTimeout s
  | .corePgLoss => Sys2Proof.Machine.execCorePgLoss s
  | .rootPllLoss => Sys2Proof.Machine.execRootPllLoss s
  | .sdclkLoss => Sys2Proof.Machine.execSdclkLoss s
  | .refclkStop => Sys2Proof.Machine.execRefclkStop s
  | .thermalShutdown temp => Sys2Proof.Machine.execThermalShutdown temp s
  | .domainFault domain => Sys2Proof.Machine.execDomainFault domain s
  | .apstTransition => Sys2Proof.Machine.execApstTransition s
  | .powerStateGate => Sys2Proof.Machine.execPowerStateGate s
  | .fatalError cause => Sys2Proof.Machine.execFatalError cause s
  | .dumpCopy => Sys2Proof.Machine.execDumpCopy s
  | .controlProcessorWatchdog => Sys2Proof.Machine.execControlProcessorWatchdog s
  | .worldViolation initiator addr => Sys2Proof.Machine.execWorldViolation initiator addr s
  | .instructionFetchRefused initiator addr => Sys2Proof.Machine.execInstructionFetchRefused initiator addr s
  | .replicationCycle session => Sys2Proof.Machine.execReplicationCycle session s
  | .replicationRemoteCompletion session key sct sc dnr => Sys2Proof.Machine.execReplicationRemoteCompletion session key sct sc dnr s
  | .replicationRetry session key => Sys2Proof.Machine.execReplicationRetry session key s
  | .replicationReconnect session ok => Sys2Proof.Machine.execReplicationReconnect session ok s
  | .fanStart fan => Sys2Proof.Machine.execFanStart fan s
  | .fanSenseComplete fan bemf forward rpm => Sys2Proof.Machine.execFanSenseComplete fan bemf forward rpm s
  | .fanBrakeEnd fan bemf rpm => Sys2Proof.Machine.execFanBrakeEnd fan bemf rpm s
  | .fanAlignEnd fan => Sys2Proof.Machine.execFanAlignEnd fan s
  | .fanRampEnd fan => Sys2Proof.Machine.execFanRampEnd fan s
  | .bemfZeroCrossing fan good period => Sys2Proof.Machine.execBemfZeroCrossing fan good period s
  | .fanSpeedLoop fan current => Sys2Proof.Machine.execFanSpeedLoop fan current s
  | .fanKeMeasure fan ke => Sys2Proof.Machine.execFanKeMeasure fan ke s
  | .fanOvercurrent fan => Sys2Proof.Machine.execFanOvercurrent fan s
  | .rotorLost fan => Sys2Proof.Machine.execRotorLost fan s
  | .fanCoastEnd fan forward rpm => Sys2Proof.Machine.execFanCoastEnd fan forward rpm s
  | .fanFailedRetry fan => Sys2Proof.Machine.execFanFailedRetry fan s
  | .epochInLoss => Sys2Proof.Machine.execEpochInLoss s
  | .surviveFenceDelay => Sys2Proof.Machine.execSurviveFenceDelay s
  | .corePgRise => Sys2Proof.Machine.execCorePgRise s
  | .refclkRestart => Sys2Proof.Machine.execRefclkRestart s
  | .masterWaitExpiry => Sys2Proof.Machine.execMasterWaitExpiry s
  | .canErrorPassive enter => Sys2Proof.Machine.execCanErrorPassive enter s
  | .remoteAssociationLoss session => Sys2Proof.Machine.execRemoteAssociationLoss session s
  | .temperatureThresholdCrossing temp => Sys2Proof.Machine.execTemperatureThresholdCrossing temp s
  | .shelfPowerLoss => Sys2Proof.Machine.execShelfPowerLoss s
  | .vddqDdrBelowFloor => Sys2Proof.Machine.execVddqDdrBelowFloor s

end Sys2Proof.Machine
end

