-- ==== Sys2Proof/Machine/Idle.lean ====
section
/-! DEFINITION. What one TIME cycle does when no command waits (log 6). -/

namespace Sys2Proof.Machine

/-- One TIME cycle: on a device that runs, due departure-board entries launch, replication sessions go on, a HEARTBEAT goes out every 10 µs,
and frames leave whose pause is over. -/
def idleCycle (d : Device) : Device :=
  let d := { d with time := passCycles 1 d.time }
  if isUp d then (List.range 8).foldl flushPort (heartbeatDue (pumpAll (launchTick d).1)) else d

end Sys2Proof.Machine
end

