-- ==== Sys2Proof/Machine/Signals.lean ====
section
/-! DEFINITION. Signals, balls, supplies, inputs and the boot device as figures (R602 to R604, R606, R608, R611 to R613, R615 to R617), and
the state of every pin (R607). -/

namespace Sys2Proof.Machine

/-! ## Signals and balls (R602 to R604, R617) -/

/-- The signal groups. -/
inductive SignalGroup where
  | flash | ddr | hostPorts | link | clocks | sideband | power | management | straps | airflow | test
  deriving DecidableEq, Repr

/-- The supply rails (R608). -/
inductive Rail where
  | core | sd075 | sd12 | flash | ddr | io18 | ao075 | ao18
  deriving DecidableEq, Repr

/-- Signals of a group. -/
def signalCount : SignalGroup → Nat
  | .flash => 18 * 128
  | .ddr => 139 * 12
  | .hostPorts => 128
  | .link => 32
  | .clocks => 4
  | .sideband => 6
  | .power => 24
  | .management => 14
  | .straps => 10
  | .airflow => 61
  | .test => 5

/-- The rails of a group. -/
def signalRails : SignalGroup → List Rail
  | .flash => [.flash]
  | .ddr => [.ddr]
  | .hostPorts | .link => [.sd075, .sd12]
  | .clocks | .power => [.ao18]
  | .sideband | .management | .straps | .airflow | .test => [.io18]

/-- What the signal balls of a region carry; power and ground balls sit among them. -/
inductive BallRegion where
  | group (g : Nat)
  | ground
  | ddrLow | ddrHigh
  | ports
  | link
  | core
  deriving DecidableEq, Repr

/-- The region of the ball at a row and a column, each 1 to 82. -/
def ballRegion (row col : Nat) : Option BallRegion :=
  if row == 0 || 82 < row || col == 0 || 82 < col then none
  else if row ≤ 18 || 65 ≤ row then
    (if col == 1 || col == 82 then some .ground else some (.group ((col - 2) / 10 + if row ≤ 18 then 0 else 8)))
  else if col ≤ 14 then some .ddrLow
  else if 69 ≤ col then some .ddrHigh
  else if row ≤ 24 then some .ports
  else if 59 ≤ row then some .link
  else some .core

/-- Balls of a rail. -/
def railBalls : Rail → Nat
  | .core => 620
  | .flash => 160
  | .ddr => 144
  | .sd075 => 64
  | .sd12 => 32
  | .io18 => 16
  | .ao075 => 8
  | .ao18 => 8

def groundBalls : Nat := 1380
def reservedBalls : Nat := 36

/-- The array: balls in a row or a column, their pitch and the side of the body in µm. -/
def ballRow : Nat := 82
def ballPitch : Nat := 1000
def bodySide : Nat := 85000

/-! ## Supplies (R608) -/

/-- Nominal voltage and operating range in 0.1 mV, current at most and in PS_4 in mA, whether CORE_EN switches the rail. -/
structure RailFigures where
  nominal : Nat
  low : Nat
  high : Nat
  most : Nat
  inPs4 : Nat
  switched : Bool
  deriving DecidableEq, Repr

def railFigures : Rail → RailFigures
  | .core => ⟨7500, 7200, 7800, 200000, 0, true⟩
  | .sd075 => ⟨7500, 7300, 7700, 40000, 0, true⟩
  | .sd12 => ⟨12000, 11600, 12400, 8000, 0, true⟩
  | .flash => ⟨12000, 11400, 12600, 25000, 0, true⟩
  | .ddr => ⟨11000, 10670, 11330, 20000, 1000, false⟩
  | .io18 => ⟨18000, 17100, 18900, 2000, 100, false⟩
  | .ao075 => ⟨7500, 7125, 7875, 1000, 1000, false⟩
  | .ao18 => ⟨18000, 17100, 18900, 500, 500, false⟩

def rails : List Rail := [.core, .sd075, .sd12, .flash, .ddr, .io18, .ao075, .ao18]

/-- The operating range: junction of 0 °C to 110 °C in 0.1 °C, every rail within its range. -/
def inOperatingRange (junction : Int) (volts : Rail → Nat) : Bool :=
  0 ≤ junction && junction ≤ 1100 && rails.all fun r => (railFigures r).low ≤ volts r && volts r ≤ (railFigures r).high

/-- What the rails draw at their maxima, in 0.1 µW. -/
def mostPower (ps4 : Bool) : Nat :=
  (rails.map fun r => (railFigures r).nominal * if ps4 then (railFigures r).inPs4 else (railFigures r).most).sum

/-! ## Inputs (R611 to R613) -/

/-- How a 1.8 V input reads a level in mV: between the two thresholds the manual says nothing. -/
def inputReads (mv : Nat) : Option Bool := if 1170 ≤ mv then some true else if mv ≤ 630 then some false else none

/-- Drive strength in Ω of a code of a profile's interface section; a code above the last one acts as that. -/
def driveStrength (code : Nat) : Nat := [25, 35, 50].getD code 50

/-- On-die termination in Ω of a code, none where it is off. -/
def odtOhms (code : Nat) : Option Nat := [none, some 150, some 100, some 75].getD code (some 50)

/-- What the ADC reads of fan and bridge voltages and of the hold-up store in mV, and of a fan current in mA: beyond the range a reading
saturates. -/
def fanVoltageRead (mv : Nat) : Nat := min mv 36000
def storeVoltageRead (mv : Nat) : Nat := min mv 72000
def fanCurrentRead (ma : Int) : Int := max (-30000) (min 30000 ma)

/-! ## The boot device (R615) -/

/-- A part of the boot device: offset, bytes of a copy, copies. -/
structure BootPart where
  offset : Nat
  size : Nat
  copies : Nat
  deriving DecidableEq, Repr

def imageSlotPart (n : Nat) : BootPart := ⟨n * 2 ^ 24, 2 ^ 24, 1⟩
def slotRecordPart : BootPart := ⟨0x02000000, 2 ^ 16, 2⟩
def patchPart : BootPart := ⟨0x02020000, 2 ^ 18, 2⟩
def keyStorePart : BootPart := ⟨0x020A0000, 2 ^ 20, 2⟩
def dictionaryPart : BootPart := ⟨0x02400000, 2 ^ 23, 2⟩

/-- The parts, in the order of their offsets. -/
def bootParts : List BootPart := [imageSlotPart 0, imageSlotPart 1, slotRecordPart, patchPart, keyStorePart, dictionaryPart]

/-! ## Pins (R606, R607) -/

/-- The pins of the table of R607. -/
inductive Pin where
  | flash (c : Nat)
  | ddrReset
  | ddrOther
  | portTx (p lane : Nat)
  | linkTx
  | aliveOut
  | epochOut
  | fenceOutN
  | canTx
  | fanPwm (n : Nat)
  | coreEn
  | cgPwrEnN (g : Nat)
  | holdupTest
  | xspiCsN
  | xspiResetN
  | xspiOther
  | tdo
  deriving DecidableEq, Repr

/-- What a pin does. -/
inductive PinState where
  | hiZ | low | high | electricalIdle | noOutput | selfRefresh | driven
  deriving DecidableEq, Repr

/-- The columns of R607. A thermal shutdown is the Reset column for most groups. -/
inductive PinColumn where
  | unpowered | reset | ps4 | running
  deriving DecidableEq, Repr

/-- Groups that run on through a thermal shutdown. -/
def runsOn : Pin → Bool
  | .fanPwm _ | .canTx | .xspiCsN | .xspiResetN | .xspiOther => true
  | _ => false

/-- The column that holds for a pin. -/
def pinColumn (p : Pin) (d : Device) : PinColumn :=
  match d.power.run with
  | .unpowered => .unpowered
  | .reset => .reset
  | .dormant => .ps4
  | .halted => if d.power.hot && !runsOn p then .reset else .running
  | _ => .running

def level (b : Bool) : PinState := if b then .high else .low

/-- A pin while the device runs: of a frozen device the flash pins are not driven and the link is quiet (R594). -/
def runningPin (p : Pin) (d : Device) : PinState :=
  let frozen := d.power.frozenAt.isSome
  match p with
  | .flash c => if bit d.peer.driven c && !frozen then .driven else .hiZ
  | .portTx p lane => if lane < (portOf p d).lanes then .driven else .electricalIdle
  | .linkTx => if domainOn 23 d && !frozen && d.peer.st != 6 then .driven else .electricalIdle
  | .aliveOut => level d.peer.aliveOut
  | .epochOut => level (epochOutLevel d)
  | .fenceOutN => if d.peer.fenceOut then .low else .hiZ
  | .coreEn => level d.power.coreEn
  | .cgPwrEnN g => if domainOn g d then .low else .hiZ
  | .holdupTest => level (odVal 0x2240 0x0A d == 2)
  | .tdo => .hiZ
  | .ddrReset | .ddrOther | .canTx | .fanPwm _ | .xspiCsN | .xspiResetN | .xspiOther => .driven

/-- The state of a pin. TDO shifts only under a test access, which no command makes. -/
def pinState (p : Pin) (d : Device) : PinState :=
  match pinColumn p d with
  | .running => runningPin p d
  | .unpowered => (match p with
      | .portTx _ _ | .linkTx => .noOutput
      | _ => .hiZ)
  | .reset => (match p with
      | .ddrReset => if d.power.dormancy.isSome then .selfRefresh else .low
      | .portTx _ _ | .linkTx => .electricalIdle
      | .coreEn | .holdupTest | .xspiResetN => .low
      | _ => .hiZ)
  | .ps4 => (match p with
      | .ddrReset => .selfRefresh
      | .portTx _ _ | .linkTx => .noOutput
      | .canTx | .fanPwm _ | .xspiCsN | .xspiResetN | .xspiOther => .driven
      | .coreEn | .holdupTest => .low
      | .epochOut | .fenceOutN => runningPin p d
      | _ => .hiZ)

/-- The level at which the external part of R606 holds a pin's line that nothing drives. -/
def heldLevel : Pin → Option Bool
  | .fenceOutN | .cgPwrEnN _ | .xspiCsN | .canTx => some true
  | .aliveOut | .epochOut | .fanPwm _ | .holdupTest | .coreEn | .ddrReset => some false
  | _ => none

/-- The level of a line with one driver: its pin's, or the external part's. -/
def lineLevel (p : Pin) (d : Device) : Option Bool :=
  match pinState p d with
  | .low => some false
  | .high => some true
  | .hiZ => heldLevel p
  | _ => none

/-- NAND supply of group g: on while either peer pulls its line low; `other`: the other peer does (R544). -/
def nandPowered (g : Nat) (other : Bool) (d : Device) : Bool := other || pinState (.cgPwrEnN g) d == .low

end Sys2Proof.Machine
end

