-- ==== Sys2Proof/Safety.lean ====
section
/-! DEFINITION. What the statements call safe: what no step may take back, and the forms that every step keeps. -/

namespace Sys2Proof.Machine

/-- Owner record n as the secure boot reads it. -/
def Device.ownerAt (d : Device) (i : Nat) : Owner := d.sec.owners.getD i ⟨.blank, [], []⟩

/-- From `a` to `b` no owner record returned to blank, and none that was not blank became valid or changed while valid
(R526). -/
def OwnersKept (a b : Device) : Prop :=
  ∀ i, (a.ownerAt i).st ≠ .blank →
    (b.ownerAt i).st ≠ .blank ∧ ((b.ownerAt i).st = .valid → b.ownerAt i = a.ownerAt i)

/-- Every memory of the device: staging SRAM, DDR-5, the flash and link buffers, and the buffer memory of each engine. -/
def Device.memories (d : Device) : List (List (Nat × BitVec 8)) :=
  d.eng.sram :: d.eng.ddr :: d.eng.flashBuf :: d.eng.linkBuf :: d.eng.engines.map (·.mem)

/-- Every memory is in its canonical form, so that equal memories are equal data. -/
def Device.MemoriesWf (d : Device) : Prop := ∀ m ∈ d.memories, Memory.wf m = true

/-- What holds from a device to any later one: the clock does not run back, what has left the device stays sent, memories
stay canonical and owner records stay written. -/
structure Kept (a b : Device) : Prop where
  now : a.time.now ≤ b.time.now
  out : a.out <+: b.out
  memories : a.MemoriesWf → b.MemoriesWf
  owners : OwnersKept a b

/-- Command `c` goes on, and `P` holds of the device that it leaves. -/
def Gives (c : Instr) (s : State) (P : Device → Prop) : Prop := ∃ t, exec c s = .next t ∧ P t.dev

/-- From `a` to `b` the device sends `o`. -/
def Sent (a b : Device) (o : Output) : Prop := o ∈ b.out.drop a.out.length

/-- From `a` to `b` port `p` sends `o`, or holds it behind what a PAUSE or PFC frame stops (R106). -/
def Posted (p : Nat) (a b : Device) (o : Output) : Prop := Sent a b o ∨ o ∈ (portOf p b).txWait.drop (portOf p a).txWait.length

/-- Command `c` goes on: it leaves a device of which `P` holds to `f`, by which the work goes on that waited for it. -/
def Leads (f : Device → Device) (c : Instr) (s : State) (P : Device → Prop) : Prop :=
  ∃ u, exec c s = .next { s with dev := f u } ∧ P u

/-- The event log of `t` holds an event with this code, unit, severity and detail. -/
def Logged (code unit severity detail : Nat) (t : Device) : Prop :=
  ∃ e ∈ t.admin.events, e.code = code ∧ e.unit = unit ∧ e.severity = severity ∧ e.detail = detail % 2 ^ 64

/-- Command `c` goes on, and the device sends `o`. -/
def Tells (c : Instr) (s : State) (o : Output) : Prop := Gives c s fun t => Sent s.dev t o

/-! ## The dictionary -/

/-- The way of an accessor is open (R84, R89): the node is on the bus, or the port has a partner with the access it needs. -/
def WayOpen (acc : Accessor) (need : Nat) (d : Device) : Prop :=
  dictAnswers d = true ∧
  match acc with
  | .can node => emcyActive d = true ∧ transfersFull node d = false
  | .inband p => hasLink p d = true ∧ d.ports.assocs.any (·.port == p) = true ∧ need ≤ managementAccess p d
  | .firmware _ _ => True

/-- Entry `idx:sub` takes a write of `v` from `acc`: it exists, is served and writable, a session is open where it is secure, its unit
is idle where it asks for that, and `v` has its form and range (R56 to R63, R89). -/
def TakesWrite (acc : Accessor) (idx sub : Nat) (v : Bytes) (d : Device) : Prop :=
  WayOpen acc 2 d ∧ firmwareBarred acc idx sub d = false ∧ writeFailure acc idx sub v (unitIdle idx sub d) (idx == 0x3220 && sub == 1) d = none

/-- A write of `v` to `idx:sub` passes every check, and does nothing but store: no command of a unit, no window, no side effect. -/
def PlainWrite (acc : Accessor) (idx sub : Nat) (v : Bytes) (d : Device) : Prop :=
  writeFailure acc idx sub v (unitIdle idx sub d) (idx == 0x3220 && sub == 1) d = none ∧ firmwareBarred acc idx sub d = false ∧
  windowCount idx = none ∧
  (∀ r x, commandWrite acc r idx sub (leNat v) v x = none) ∧ refusal idx sub 0 v (touchIf acc idx sub d) = none ∧
  notStored idx sub 0 d = false ∧ (∀ x n, beforeStore idx sub n x = x ∧ afterStore idx sub n x = x) ∧
  idx ∉ [0x2E30, 0x2C10, 0x2600, 0x2B00, 0x3440, 0x2F28, 0x2F20, 0x2220] ∧ (sharedIdx idx sub = true → noServingPeer d = true)

/-- Entry `idx:sub` gives `acc` a reading: it exists, is served and readable, and a session is open where it is secure. -/
def TakesRead (acc : Accessor) (idx sub : Nat) (d : Device) : Prop :=
  WayOpen acc 1 d ∧ readFailure acc idx sub d = none

/-- From `a` to `b` the device answers a write of `acc` with success. -/
def Confirms (acc : Accessor) (idx sub : Nat) (a b : Device) : Prop := Sent a b (.od acc idx sub .ok [])

/-! ## Administration -/

/-- An admin command of association `x` arrives: queue 0 of a port with link and an association, no more in-capsule data than it may
bring (R109, R113, R139). -/
def AdminOpen (q : QueueRef) (c : Capsule) (x : Assoc) (d : Device) : Prop :=
  q.qid = 0 ∧ hasLink q.port d = true ∧ assocOf q.port q.assoc d = some x ∧ min c.icd c.data.length ≤ capsuleLimit q d

/-- From `a` to `b` the device completes command `c` with `st`, two dwords and data. -/
def Answers (q : QueueRef) (c : Capsule) (st : Status) (dw0 dw1 : Nat) (data : Bytes) (a b : Device) : Prop :=
  ∃ flow, Posted q.port a b (.completion q c.sqe.cid st dw0 dw1 data flow)

/-- From `a` to `b` the device completes command `c` with `st`. -/
def Completes (q : QueueRef) (c : Capsule) (st : Status) (a b : Device) : Prop :=
  ∃ dw0 dw1 data, Answers q c st dw0 dw1 data a b

/-! ## Key-value commands -/

/-- Command `c` of queue `q` has its turn at once: it passes the field checks, its queue is empty, open and the one that the arbiter
stays with, no other command runs, and this device alone serves every key (R139, R141, R145, R152). -/
structure KvTurn (q : QueueRef) (c : Capsule) (d : Device) : Prop where
  queue : ∃ x, d.nvme.queues = [x] ∧ x.ref = q ∧ x.slots = [] ∧ 0 < x.size ∧ stallOf x c d = none
  host : q.qid ≠ 0 ∧ q.port < 8 ∧ reachable q d = true ∧ fieldCheck q.port c d = none
  alone : servesAll d = true ∧ d.peer.moves = []
  idle : d.nvme.cmds = [] ∧ d.nvme.locks = [] ∧ d.nvme.remoteLocks = [] ∧ d.kv.fetches = []
  arbiter : d.nvme.arb.queue = some q ∧ d.nvme.arb.burst ≠ some 0

/-- Command `c` of queue `q` as the device holds it when it is fetched next (R151). -/
def fetchedCmd (q : QueueRef) (c : Capsule) (d : Device) : Cmd := newCmd d.nvme.nextCmd q c 0 0 false

/-! ## What sending changes -/

/-- The two counters that sending a frame may step: the entries of the event log, and the EMCYs dropped (R80, R117). -/
def CountKey (k : Nat) : Prop := k = odKey 0x2010 0x0A 0 ∨ k = odKey 0x2010 0x0E 0

/-- Port record `y` is `x` but for its counters and the frames that wait. -/
def SamePort (x y : Port) : Prop := ∃ m o r w, y = { x with mac := m, ovf := o, ovfReported := r, txWait := w }

/-- From `a` to `b` the device did no more than send, count and log: port counters, outputs, log, EMCY state and two counters differ. -/
def Spoke (a b : Device) : Prop :=
  ∃ ps ev sq can cells out, b = { a with
    ports := { a.ports with ports := ps }, admin := { a.admin with events := ev, eventSeq := sq }, can := can
    dict := { a.dict with cells := cells }, out := out } ∧ a.out <+: out ∧
    (∀ k v, ¬ CountKey k → tblGetD cells k v = tblGetD a.dict.cells k v) ∧ ∀ p, SamePort (portOf p a) (ps.getD p Reset.port)

/-! ## The departure board -/

/-- Armed entry `n` is `e` and launches alone: its tick lies ahead, and no other armed entry is due by then (R416, R417). -/
def LaunchesAlone (n : Nat) (e : BoardEntry) (d : Device) : Prop :=
  boardEntry n d = e ∧ e.state = 1 ∧ n < 4096 ∧ d.board.frozen = false ∧ tblWf d.board.entries = true ∧ d.time.counter < e.launch ∧
    d.board.tick ≠ e.launch ∧ ∀ x ∈ d.board.entries, x.1 ≠ n → x.2.state = 1 → e.launch < x.2.launch

/-- The device once entry `n`, alone due, has launched at its tick, before its action takes effect. -/
def launchedAt (n : Nat) (e : BoardEntry) (d : Device) : Device :=
  launchEntry { waitTick e.launch d with board := { d.board with tick := e.launch, used := 1 } } (n, e)

/-- What follows the action of a launch: writes that awaited it are confirmed, and an entry that awaited a free place is placed. -/
def afterLaunch (n : Nat) (d : Device) : Device := placeWaiting (confirmLaunch n d)

/-! ## The link -/

/-- A frame of class `cls` is taken: the link carries frames and the frame is the next of its class, undamaged (R453). -/
def FrameTaken (h : FrameHdr) (cls : Nat) (d : Device) : Prop := linkPhysical d = true ∧ frameOk h cls d = true

/-- From `a` to `b` the device sends `m` across the link, or holds it until there is credit for its class (R453). -/
def LinkSent (a b : Device) (m : LinkMsg) : Prop := Sent a b (.link (msgClass m) m) ∨ (msgClass m, m) ∈ b.peer.waiting

/-! ## Drover engines -/

/-- A word takes effect on engine `e`: the engine exists and is neither reloading, disabled nor gated (R489, R507). -/
def EngineRuns (e : Nat) (d : Device) : Prop := e < 64 ∧ e < d.eng.engines.length ∧ (engineOf e d).st ≤ 1

/-- `t` differs from `s` in engine `e` alone. -/
def OnlyEngine (e : Nat) (s t : State) : Prop :=
  t = { s with dev := { s.dev with eng := { s.dev.eng with
    engines := s.dev.eng.engines.set e (engineOf e t.dev) } } }

/-- The engine keeps everything but its registers and flags. -/
def OnlyRegs (x y : Engine) : Prop :=
  y = { x with ctx := { x.ctx with
    regs := y.ctx.regs, zero := y.ctx.zero, neg := y.ctx.neg, carry := y.ctx.carry, ovf := y.ctx.ovf } }

/-- MAC counter `n` of port `p` (R117). -/
def macCount (p n : Nat) (d : Device) : Nat := (portOf p d).mac.getD (n - 1) 0

/-- From `a` to `b` MAC counter `n` of port `p` advances by `k`, or stays at its greatest value (R117). -/
def Counts (p n k : Nat) (a b : Device) : Prop := macCount p n b = min (macCount p n a + k) macMax

/-- The four flags stay. -/
def FlagsStay (x y : Engine) : Prop :=
  y.ctx.zero = x.ctx.zero ∧ y.ctx.neg = x.ctx.neg ∧ y.ctx.carry = x.ctx.carry ∧ y.ctx.ovf = x.ctx.ovf

/-- Command `c` goes on and leaves `v` in V_dst of engine `e`; every other register, engine and part of the device stays. -/
def WritesReg (c : Instr) (e dst v : Nat) (s : State) (flags : Engine → Engine → Prop) : Prop :=
  ∃ t, exec c s = .next t ∧ reg e dst t.dev = v ∧ (∀ n, n ≠ dst → reg e n t.dev = reg e n s.dev) ∧
    OnlyEngine e s t ∧ OnlyRegs (engineOf e s.dev) (engineOf e t.dev) ∧ flags (engineOf e s.dev) (engineOf e t.dev)

/-- Zero and negative follow the 64-bit value `v`. -/
def ZeroNeg (v : Nat) (_ y : Engine) : Prop := y.ctx.zero = (v == 0) ∧ y.ctx.neg = bit v 63

/-- Command `c` goes on, engine `e` becomes `y`, and nothing else changes. -/
def EngineBecomes (c : Instr) (e : Nat) (y : Engine) (s : State) : Prop :=
  ∃ t, exec c s = .next t ∧ engineOf e t.dev = y ∧ OnlyEngine e s t

end Sys2Proof.Machine
end

