-- ==== Sys2Proof/Certificates/Slice0/Obligations.lean ====
section
/-! DEFINITION. The statements about the model, each to be proved. -/

open Sys2Proof Sys2Proof.Machine

/-- R498: the operations of two operands write their 64-bit result and set zero and negative; carry and overflow are stated
in `EngineAluFlags`. -/
def Obligations.EngineAlu : Prop :=
  ∀ (s : State) (e a b imm dst : Nat), EngineRuns e s.dev → dst ≠ 0 →
    let x := reg e a s.dev
    let y := reg e b s.dev
    let w : Instr → Nat → Prop := fun c v => WritesReg c e dst v s (ZeroNeg v)
    w (.addOp e a b dst) ((x + y) % 2 ^ 64) ∧
    w (.subOp e a b dst) ((x + 2 ^ 64 - y) % 2 ^ 64) ∧
    w (.andOp e a b dst) ((x &&& y) % 2 ^ 64) ∧
    w (.orOp e a b dst) ((x ||| y) % 2 ^ 64) ∧
    w (.xorOp e a b dst) ((x ^^^ y) % 2 ^ 64) ∧
    w (.shlOp e a b dst) (x * 2 ^ (y % 64) % 2 ^ 64) ∧
    w (.shrOp e a b dst) (x / 2 ^ (y % 64) % 2 ^ 64) ∧
    w (.addiOp e a imm dst) ((x + imm % 65536) % 2 ^ 64) ∧
    w (.mulOp e a b dst) (x * y % 2 ^ 64) ∧
    w (.minOp e a b dst) (min x y % 2 ^ 64) ∧
    w (.maxOp e a b dst) (max x y % 2 ^ 64)

/-- R498: the operations outside 2 to 9 and 12 to 16 that write a register leave the flags. -/
def Obligations.EngineMoves : Prop :=
  ∀ (s : State) (e a imm port dst : Nat), EngineRuns e s.dev → dst ≠ 0 →
    let x := reg e a s.dev
    let w : Instr → Nat → Prop := fun c v => WritesReg c e dst v s FlagsStay
    w (.movOp e a dst) (x % 2 ^ 64) ∧
    w (.ldiOp e imm dst) (imm % 65536) ∧
    w (.ldihOp e a imm dst) ((x * 65536 % 2 ^ 64 ||| imm % 65536) % 2 ^ 64) ∧
    w (.getOp e port dst) ((engineOf e s.dev).ports.getD port 0 % 2 ^ 64) ∧
    (∀ d, (engineOf e s.dev).ctx.desc = some d →
      w (.lddOp e imm dst) (leAt (descBytes d) (bits imm 5 3 * 8) 8 % 2 ^ 64)) ∧
    w (.bswapOp e a dst) (leNat (leBytes 8 x).reverse % 2 ^ 64) ∧
    w (.popcntOp e a dst) ((List.range 64).countP fun n => x.testBit n)

/-- R498: flags only, buffer descriptors, the descriptor's status, no effect, and V_0, which discards. -/
def Obligations.EngineOther : Prop :=
  ∀ (s : State) (e a b imm buf : Nat), EngineRuns e s.dev →
    let x := reg e a s.dev
    let y := reg e b s.dev
    let g := engineOf e s.dev
    let flagsOnly : Instr → Nat → Prop := fun c v => ∃ t, exec c s = .next t ∧
      (∀ n, reg e n t.dev = reg e n s.dev) ∧ ZeroNeg v g (engineOf e t.dev) ∧ OnlyRegs g (engineOf e t.dev) ∧ OnlyEngine e s t
    flagsOnly (.cmpOp e a b) ((x + 2 ^ 64 - y) % 2 ^ 64) ∧
    flagsOnly (.cmpiOp e a imm) ((x + 2 ^ 64 - imm % 65536) % 2 ^ 64) ∧
    flagsOnly (.addOp e a b 0) ((x + y) % 2 ^ 64) ∧
    exec (.ldiOp e imm 0) s = .next s ∧
    exec (.movOp e a 0) s = .next s ∧
    exec (.nopOp e) s = .next s ∧
    (∃ t, exec (.bsetOp e a b buf) s = .next t ∧ bufDesc e buf t.dev = ⟨x, y, 0⟩ ∧
      (∀ n, n ≠ buf → bufDesc e n t.dev = bufDesc e n s.dev) ∧ (∀ n, reg e n t.dev = reg e n s.dev) ∧ OnlyEngine e s t) ∧
    (∃ t, exec (.badvOp e a buf) s = .next t ∧
      bufDesc e buf t.dev = { bufDesc e buf s.dev with cursor := ((bufDesc e buf s.dev).cursor + x) % 2 ^ 64 } ∧
      (∀ n, n ≠ buf → bufDesc e n t.dev = bufDesc e n s.dev) ∧ (∀ n, reg e n t.dev = reg e n s.dev) ∧ OnlyEngine e s t) ∧
    EngineBecomes (.stdOp e a) e
      { g with ctx := { g.ctx with desc := g.ctx.desc.map fun w => { w with status := x % 65536 } } } s

/-- R496: the next address, modulo the 4,096 words of the store. -/
def Obligations.NextAddress : Prop :=
  ∀ (s : State) (e target cond : Nat), EngineRuns e s.dev →
    let g := engineOf e s.dev
    let goes : Instr → Nat → Prop := fun c a => EngineBecomes c e { g with ctx := { g.ctx with pc := a % 4096 } } s
    goes (.nextSeq e) (g.ctx.pc + 1) ∧
    goes (.jumpSeq e target) target ∧
    (condition e cond s.dev = true →
      goes (.branchTrue e target cond) target ∧ goes (.branchFalse e target cond) (g.ctx.pc + 1)) ∧
    (condition e cond s.dev = false →
      goes (.branchTrue e target cond) (g.ctx.pc + 1) ∧ goes (.branchFalse e target cond) target) ∧
    (g.ctx.stack.length < 8 → EngineBecomes (.callSeq e target) e
      { g with ctx := { g.ctx with stack := (g.ctx.pc + 1) % 4096 :: g.ctx.stack, pc := target % 4096 } } s) ∧
    (8 ≤ g.ctx.stack.length →
      exec (.callSeq e target) s = .next { s with dev := machineCheck e 2 0 s.dev }) ∧
    (∀ a rest, g.ctx.stack = a :: rest → EngineBecomes (.returnSeq e) e
      { g with ctx := { g.ctx with stack := rest, pc := a } } s) ∧
    (g.ctx.stack = [] → exec (.returnSeq e) s = .next { s with dev := machineCheck e 2 0 s.dev })

/-- R499, CHUNK_CTL and SHA_CTL: what each command leaves in its engine; nothing else changes. -/
def Obligations.ChunkerAndSha : Prop :=
  ∀ (s : State) (e buf : Nat), EngineRuns e s.dev →
    let g := engineOf e s.dev
    let sel : SeqCtx := { g.ctx with sel := buf }
    let bs := bufBytes e buf s.dev
    let b := bufDesc e buf s.dev
    EngineBecomes (.chunkStart e buf) e
      { g with ctx := sel, chunker := ⟨true, bs, [], gearTable s.dev⟩, conds := setBit (setBit g.conds 5 false) 6 bs.isEmpty } s ∧
    (g.chunker.active = true → g.chunker.rest ≠ [] →
      let n := cutLength g.chunker.table 0 0 g.chunker.rest
      EngineBecomes (.chunkNext e) e
        { g with
          chunker := { g.chunker with rest := g.chunker.rest.drop n, chunk := g.chunker.rest.take n }
          ports := g.ports.set 0 (n % 2 ^ 64)
          conds := setBit (setBit g.conds 5 true) 6 (g.chunker.rest.drop n).isEmpty } s) ∧
    (g.chunker.rest = [] →
      EngineBecomes (.chunkNext e) e { g with conds := setBit (setBit g.conds 5 false) 6 true } s) ∧
    EngineBecomes (.chunkStop e) e { g with chunker := { g.chunker with active := false, rest := [] } } s ∧
    (∀ w, g.ctx.desc = some w →
      let p := fpPrefix (saltOf w.domain s.dev) w.slot
      EngineBecomes (.shaStartPrefix e) e { g with sha := ⟨p, p, none⟩, conds := setBit g.conds 7 true } s) ∧
    EngineBecomes (.shaStart e) e { g with sha := ⟨[], [], none⟩, conds := setBit g.conds 7 true } s ∧
    EngineBecomes (.shaFeedChunk e) e
      { g with sha := { g.sha with msg := g.sha.msg ++ g.chunker.chunk }, conds := setBit g.conds 7 false } s ∧
    EngineBecomes (.shaFeedBuffer e buf) e
      { g with ctx := sel, sha := { g.sha with msg := g.sha.msg ++ bs }, conds := setBit g.conds 7 false } s ∧
    (bit g.conds 7 = true →
      let h := sha256 g.sha.msg
      EngineBecomes (.shaFinish e buf) e
        { g with
          ctx := sel
          mem := memWrite g.mem (b.addr + b.cursor) (h.take (b.limit - b.cursor))
          ports := (((g.ports.set 1 (leAt h 0 8 % 2 ^ 64)).set 2 (leAt h 8 8 % 2 ^ 64)).set 3 (leAt h 16 8 % 2 ^ 64)).set 4
            (leAt h 24 8 % 2 ^ 64)
          sha := { g.sha with msg := g.sha.start, finish := none } } s) ∧
    (bit g.conds 7 = false →
      EngineBecomes (.shaFinish e buf) e { g with ctx := sel, sha := { g.sha with finish := some buf } } s) ∧
    (g.sha.finish = none → EngineBecomes (.shaDone e) e { g with conds := setBit g.conds 7 true } s)

/-- R499, GF_CTL, over the accumulators of R282 and the solutions of R283 (buffer layout of SOLVE and condition 15: log 93). -/
def Obligations.GfUnit : Prop :=
  ∀ (s : State) (e buf imm : Nat), EngineRuns e s.dev →
    let g := engineOf e s.dev
    let sel : SeqCtx := { g.ctx with sel := buf }
    let u := bufBytes e buf s.dev
    let b := bufDesc e buf s.dev
    let conds := setBit g.conds 15 false
    let gives : Instr → Bytes → Prop := fun c out => EngineBecomes c e
      { g with
        ctx := sel, mem := memWrite g.mem (b.addr + b.cursor) (out.take (b.limit - b.cursor)), conds := conds
        gf := { g.gf with busy := true } } s
    EngineBecomes (.gfClear e) e { g with gf := ⟨[], [], true⟩, conds := conds } s ∧
    EngineBecomes (.gfAccumulate e buf imm) e
      { g with ctx := sel, conds := conds, gf := ⟨xorPad g.gf.p u, xorPad g.gf.q (u.map (rsScale (imm % 32))), true⟩ } s ∧
    gives (.emitP e buf) g.gf.p ∧
    gives (.emitQ e buf) g.gf.q ∧
    gives (.solveOne e buf imm) (xorPad u g.gf.p) ∧
    (let n := u.length / 2
     let r := solveTwo (imm % 32) (imm / 32 % 32) (xorBytes (u.take n) (padTo n g.gf.p))
       (xorBytes ((u.drop n).take n) (padTo n g.gf.q))
     gives (.solveTwo e buf imm) (r.1 ++ r.2)) ∧
    (g.gf.busy = true →
      EngineBecomes (.gfUnitDone e) e { g with gf := { g.gf with busy := false }, conds := setBit g.conds 15 true } s)

/-- R499, DMA_RD and DMA_WR, and the end of a transfer; R6 gives staging SRAM 128 MiB. -/
def Obligations.Movers : Prop :=
  ∀ (s : State) (e r buf : Nat), EngineRuns e s.dev →
    let g := engineOf e s.dev
    let sel : SeqCtx := { g.ctx with sel := buf }
    let v := reg e r s.dev
    let reads : Instr → Nat → Prop := fun c code => EngineBecomes c e
      { g with ctx := sel, rd := some ⟨code, v, buf⟩, conds := setBit g.conds 16 false } s
    let writes : Instr → Nat → Prop := fun c code => EngineBecomes c e
      { g with ctx := sel, wr := some ⟨code, v, buf⟩, conds := setBit g.conds 17 false } s
    (g.rd = none → reads (.dmaReadStaging e r buf) 1 ∧ reads (.dmaReadDdr e r buf) 2 ∧ reads (.dmaReadFlash e r buf) 3 ∧
      reads (.dmaReadLink e r buf) 4) ∧
    (g.wr = none → writes (.dmaWriteStaging e r buf) 1 ∧ writes (.dmaWriteDdr e r buf) 2 ∧ writes (.dmaWriteFlash e r buf) 3 ∧
      writes (.dmaWriteLink e r buf) 4) ∧
    (∀ m, g.rd = some m → moverSecure e m s.dev = false → (m.code = 1 → m.addr + moverLength e m s.dev ≤ 134217728) →
      let b := bufDesc e m.buf s.dev
      EngineBecomes (.moverDone e false) e
        { g with
          mem := memWrite g.mem (b.addr + b.cursor) (memRead (moverMem m.code s.dev) m.addr (b.limit - b.cursor))
          rd := none, conds := setBit g.conds 16 true } s) ∧
    (∀ m, g.wr = some m → moverSecure e m s.dev = false → (m.code = 1 → m.addr + moverLength e m s.dev ≤ 134217728) →
      ∃ t, exec (.moverDone e true) s = .next t ∧
        moverMem m.code t.dev = memWrite (moverMem m.code s.dev) m.addr (bufBytes e m.buf s.dev) ∧
        engineOf e t.dev = { g with wr := none, conds := setBit g.conds 17 true } ∧ t.dev.out = s.dev.out) ∧
    (∀ m, g.rd = some m → m.code = 1 → 134217728 < m.addr + moverLength e m s.dev →
      exec (.moverDone e false) s = .fault (.stagingAddress m.addr)) ∧
    (∀ m, g.wr = some m → m.code = 1 → 134217728 < m.addr + moverLength e m s.dev →
      exec (.moverDone e true) s = .fault (.stagingAddress m.addr)) ∧
    (g.rd = none → exec (.moverDone e false) s = .next s) ∧ (g.wr = none → exec (.moverDone e true) s = .next s)

/-- R499, the words of the compression and AES units; R256 and R269 give ENCRYPT and SEAL their invocation. ENCRYPT is
stated below the recorded limit's refresh point, where no new limit is asked for; that it takes pending output before the
buffer is the model's reading (log 94). -/
def Obligations.DeflateAndAes : Prop :=
  ∀ (s : State) (e buf : Nat), EngineRuns e s.dev →
    let g := engineOf e s.dev
    let sel : SeqCtx := { g.ctx with sel := buf }
    let bs := bufBytes e buf s.dev
    let w := curDesc e s.dev
    let b := bufDesc e buf s.dev
    let filled := fun (bs : Bytes) => memWrite g.mem (b.addr + b.cursor) (bs.take (b.limit - b.cursor))
    let queued := fun (r : AesReq) => { g with
      ctx := sel, aes := g.aes ++ [r], conds := setBit (setBit (setBit g.conds 12 false) 13 false) 14 false }
    EngineBecomes (.compress e buf) e
      { g with ctx := sel, defl := ⟨some (buf, false), bs, []⟩, conds := setBit (setBit (setBit g.conds 8 false) 9 false) 10 false } s ∧
    (∀ out, inflate bs w.srcLen = some out → EngineBecomes (.decompress e buf) e
      { g with ctx := sel, mem := filled out, conds := setBit g.conds 11 false } s) ∧
    (inflate bs w.srcLen = none → EngineBecomes (.decompress e buf) e
      { g with ctx := sel, conds := setBit g.conds 11 true } s) ∧
    EngineBecomes (.discard e) e { g with defl := ⟨none, [], []⟩ } s ∧
    (g.aes.length < 8 → EngineBecomes (.decrypt e buf) e (queued ⟨.decrypt, buf, w.slot, 0, 0, bs⟩) s) ∧
    (g.aes.length < 8 → EngineBecomes (.openPage e buf) e (queued ⟨.open_, buf, 0, 0, 0, bs⟩) s) ∧
    (g.aes.length < 8 → sealsLeft 1 s.dev = true → ∃ t, exec (.sealPage e buf) s = .next t ∧ t.dev.map.sealCount = s.dev.map.sealCount + 1 ∧
      engineOf e t.dev = queued ⟨.seal, buf, 0, s.dev.map.sealCount + 1, 0, bs⟩) ∧
    (let k := slotOf w.slot s.dev
     let c := k.counter s.dev.side
     g.aes.length < 8 → k.st = .active → s.dev.cipher.alarm = 0 → k.exhausted s.dev.side = false → c + 2 ^ 19 + 2 ≤ k.limit s.dev.side →
      c < counterMax → k.key.isSome → ∃ t, exec (.encrypt e buf) s = .next t ∧
        (slotOf w.slot t.dev).counter s.dev.side = c + 1 ∧ engineOf e t.dev = queued (if g.defl.out = [] then ⟨.encrypt, buf, w.slot, c, 0, bs⟩ else ⟨.encrypt, buf, w.slot, c, 1, g.defl.out⟩)) ∧
    EngineBecomes (.aesCancel e) e { g with aes := [] } s ∧
    (∀ buf' n data rest key, g.aes = ⟨.seal, buf', 0, n, 0, data⟩ :: rest → s.dev.peer.mapKey = some key →
      let b' := bufDesc e buf' s.dev
      EngineBecomes (.aesRequestComplete e) e
        { g with
          aes := rest, conds := setBit (setBit (setBit g.conds 12 true) 13 false) 14 false
          mem := memWrite g.mem (b'.addr + b'.cursor) ((sealedPage key s.dev.side n data).take (b'.limit - b'.cursor)) } s) ∧
    (∀ mismatch, g.defl.work.isSome → g.ports.length = 8 → ∃ t, exec (.compressDone e mismatch) s = .next t ∧
      (engineOf e t.dev).defl.work = none ∧ (engineOf e t.dev).conds.testBit 8 = true ∧
      (engineOf e t.dev).conds.testBit 9 = mismatch ∧
      (engineOf e t.dev).ports.getD 5 0 = (Config.deflateOutput g.defl.input).length % 2 ^ 64)

/-- R402 to R410. The servo's gains are free values (log 31); that a Sync of a starting device also lets its start go on is no
part of this statement, so Sync is stated of a device that has started. -/
def Obligations.TimeCommands : Prop :=
  ∀ (s : State),
    let d := s.dev
    let tm := d.time
    (tm.slavePort ≠ 0xFF → hasLink tm.slavePort d = true → Gives .ptpDelayReqSend s fun t =>
      Posted tm.slavePort d t (.port tm.slavePort (.delayReq (odVal 0x2100 8 d == 1) tm.grandmaster)) ∧
        t.time.delayReqAt = some ((tm.counter : Int) * 1250)) ∧
    (∀ t3 t4 : Int, tm.delayReqAt = some t3 → Gives (.ptpDelayResp tm.slavePort tm.grandmaster t4) s fun t =>
      t.time.pathDelayNs = ((tm.lastSync.2 - tm.lastSync.1) + (t4 - t3)) / 2 / 1000 ∧ t.time.delayReqAt = none) ∧
    (∀ m : SyncMsg, m.domain = odVal 0x2100 7 d → m.port = tm.slavePort → m.master = tm.grandmaster → ptpPort m.port d = true →
      tm.established = true → d.power.run ≠ .starting →
      let off := m.arrival - m.origin - tm.pathDelayNs * 1000
      off.natAbs ≤ 1000000000 → Gives (.ptpSync m) s fun t => t.time.lastSync = (m.origin, m.arrival) ∧
        t.time.offsetPs = Config.servoOffset tm.offsetPs tm.integral off ∧
        t.time.integral = Config.servoIntegral tm.integral off) ∧
    (∀ m : AnnounceMsg, m.domain = odVal 0x2100 7 d → ptpPort m.port d = true → Gives (.ptpAnnounce m) s fun t =>
      (⟨m.master, m.port, m.rank, tm.now, m.interval⟩ : Master) ∈ t.time.masters) ∧
    (∀ m : Master, tm.masters.find? (fun m => m.ident == tm.grandmaster && m.port == tm.slavePort) = some m →
      Gives .announceReceiptTimeout s fun t => m.heard + 3 * m.interval ≤ t.time.now ∧
        (∀ x ∈ t.time.masters, ¬ (x.ident = m.ident ∧ x.port = m.port)) ∧ (tm.st = .locked → t.time.st = .holdover)) ∧
    (tm.st = .holdover → Gives .holdoverLimitExpiry s fun t =>
      tm.lastLocked + sec (odVal 0x2100 0x0B d) ≤ t.time.now ∧ (t.time.st = .free ∨ t.time.st = .acquiring)) ∧
    (∀ t0, tm.otherRanksSince = some t0 → d.peer.st = 1 → tm.leader ≤ 1 → Gives .timeLeaderChange s fun t =>
      t0 + sec 10 ≤ t.time.now ∧ t.time.leader = 1 - tm.leader) ∧
    (tm.established = true → Gives .epochOutPulse s fun t =>
      t.time.counter = (tm.counter / 2 ^ 23 + 1) * 2 ^ 23 ∧ epochOutLevel t = true) ∧
    (∀ frac, Gives (.epochInEdge frac) s fun t => t.time.epochInLast = some tm.now ∧ t.time.epochAbsent = false) ∧
    (linkPhysical d = false → Gives .epochInLoss s fun t => t.time.epochAbsent = true ∧ t.time.peerOffKnown = false) ∧
    (∀ w, tm.waitUntil = some w → d.power.run = .starting → d.power.stage = 6 → tm.established = false →
      Gives .masterWaitExpiry s fun t => t.time.established = true ∧ w ≤ t.time.now)

/-- R73 to R81. The event code of EMCY 0x8110 is a free value (log 35). -/
def Obligations.CanCommands : Prop :=
  ∀ (s : State) (node n idx sub : Nat),
    let d := s.dev
    let c := d.can
    let mine := node = 0 ∨ node = d.nodeId
    let sends := fun (i : Instr) (o : Output) => exec i s = .next { s with dev := { d with out := d.out ++ [o] } }
    let state := fun (i : Instr) (x : NmtState) => exec i s = .next { s with dev := { d with can := { c with nmt := x } } }
    let resets := fun i => Gives i s fun t => t.can.nmt = .preOperational ∧ t.can.transfers = [] ∧ Sent d t (.can .bootUp) ∧
      (∀ x ∈ t.dict.sessions, wayOf x.acc ≠ 1) ∧ t.can.nominalRate = odVal 0x2000 6 t ∧ t.can.dataRate = odVal 0x2000 7 t
    exec (.canUnsupportedMessage n) s = .next s ∧
    (dictAnswers d = true → c.nmt ≠ .silent →
      (mine → state (.nmtStart node) .operational ∧ state (.nmtStop node) .stopped ∧
        state (.nmtEnterPreOperational node) .preOperational ∧ resets (.nmtResetCommunication node) ∧ resets (.nmtResetNode node)) ∧
      (odVal 0x1017 0 d ≠ 0 → Gives .heartbeatProduce s fun t => c.heartbeatSent + ms (odVal 0x1017 0 d) ≤ t.time.now ∧
        t.can.heartbeatSent = t.time.now ∧ t.out = d.out ++ [.can (.heartbeat (nmtCode c.nmt))]) ∧
      (watchedTime d ≠ 0 → Gives (.heartbeatConsumerReceive (watchedNode d)) s fun t =>
        t.can.heartbeatTimeout = false ∧ t.can.lastHeartbeat = d.time.now) ∧
      (watchedTime d ≠ 0 → c.heartbeatTimeout = false → Gives .heartbeatConsumerTimeout s fun t =>
        t.can.heartbeatTimeout = true ∧ c.lastHeartbeat + ms (watchedTime d) ≤ t.time.now ∧ ∃ e ∈ t.admin.events, e.code = 0x0303)) ∧
    (dictAnswers d = true → ∀ b, exec (.canErrorPassive b) s = .next { s with dev := { d with can := { c with errorPassive := b } } }) ∧
    (emcyActive d = true →
      sends (.usdoUnsupportedRequest node) (.can (.usdoAbort node 0x05040001)) ∧
      (c.transfers.any (·.node == node) = false → Gives (.usdoSegmentTimeout node) s fun t =>
        t.out = d.out ++ [.can (.usdoAbort node 0x05040000)] ∧ t.time.now = d.time.now + sec 1) ∧
      (∀ e rest, c.held = e :: rest → Gives .emcyInhibitExpiry s fun t => c.inhibitUntil ≤ t.time.now ∧ t.can.held = rest ∧
        Sent d t (.can (.emcy e.code (errorRegister d) e.event (e.tick % 2 ^ 32)))) ∧
      (dictAnswers d = true → bit (odVal 0x1014 0 d) 31 = false → c.held = [] → c.inhibitUntil ≤ d.time.now →
        Tells .canReceiveOverrun s (.can (.emcy 0x8110 (errorRegister d) (Config.overrunEvent % 65536) (d.time.counter % 2 ^ 32))))) ∧
    (tpdoOn n d = true → c.tpdoSent.length = 4 →
      let sent := fun (t : Device) => ∃ v, Sent d t (.can (.tpdo n v)) ∧ t.can.tpdoSent.getD (n - 1) ([], 0) = (v, t.time.now)
      (odVal (0x17FF + n) 5 d ≠ 0 → Gives (.tpdoEventTimer n) s fun t =>
        (tpdoLast n d).2 + ms (odVal (0x17FF + n) 5 d) ≤ t.time.now ∧ sent t) ∧
      (tpdoData n d ≠ (tpdoLast n d).1 → Gives (.tpdoChangeSend n) s fun t =>
        (tpdoLast n d).2 + us (100 * odVal (0x17FF + n) 3 d) ≤ t.time.now ∧ sent t)) ∧
    (dictAnswers d = true → emcyActive d = true → transfersFull node d = false →
      (∀ v d', odRead (.can node) idx sub 0 d = .ok (v, d') → (isDomain idx sub = true → v.length ≤ 2 ^ 24) →
        Tells (.usdoUpload node idx sub) s (.od (.can node) idx sub .ok v)) ∧
      (∀ v, (isDomain idx sub = true → v.length ≤ 2 ^ 24) → ∃ t, exec (.usdoDownload node idx sub v) s = .next t ∧
        exec (.dictionaryWrite (.can node) idx sub v) s = .next t))

/-- R62, R63, R69 to R72, R86 to R92. -/
def Obligations.SessionsAndWindows : Prop :=
  ∀ (s : State) (acc : Accessor) (idx sub : Nat),
    let d := s.dev
    (∀ v, WayOpen acc 2 d → PlainWrite acc idx sub v d →
      Gives (.dictionaryWrite acc idx sub v) s fun t => odVal idx sub t = storedNumber idx sub v ∧ Confirms acc idx sub d t) ∧
    (∀ n count, windowCount idx = some count → n < count → n < 2 ^ 32 → TakesWrite acc idx 1 (leBytes 4 n) d →
      Gives (.windowSelectWrite acc idx n) s fun t => (cursorOf acc idx t).select = n ∧ (cursorOf acc idx t).step = (cursorOf acc idx d).step ∧
        Confirms acc idx 1 d t) ∧
    (∀ count, windowCount idx = some count → (cursorOf acc idx d).select < count → TakesRead acc idx 2 d →
      Tells (.windowRecordRead acc idx) s (.od acc idx 2 .ok (odCurrent acc idx 2 (cursorOf acc idx d).select (touchIf acc idx 2 d)))) ∧
    (TakesRead acc 0x3210 1 d → d.cipher.alarm ≠ 1 → canTaken acc d = false → Gives (.challengeRead acc) s fun t => ∃ v, v.length = 32 ∧
      Sent d t (.od acc 0x3210 1 .ok v) ∧ ∃ c ∈ t.dict.challenges, c = ⟨acc, v, d.time.now⟩) ∧
    (∀ sig c n, TakesWrite acc 0x3210 2 sig d → wayOf acc ≠ 0 → (wayLock (wayOf acc) d).until? = none → canTaken acc d = false →
      d.dict.challenges.find? (fun x => x.acc == acc) = some c → d.time.now ≤ c.readAt + sec 30 →
      ownerVerifies (sessionDigest acc c.value) sig d = some n → Gives (.sessionResponse acc sig) s fun t =>
        ⟨acc, d.time.now, n⟩ ∈ t.dict.sessions ∧ (∀ x ∈ t.dict.challenges, x.acc ≠ acc) ∧ Confirms acc 0x3210 2 d t) ∧
    (TakesWrite acc 0x3210 3 [0] d → Gives (.sessionClose acc) s fun t => (∀ x ∈ t.dict.sessions, x.acc ≠ acc) ∧ Confirms acc 0x3210 3 d t) ∧
    (TakesWrite acc 0x1011 1 (leBytes 4 0x64616F6C) d → Gives (.restoreAllDefaults acc 0x64616F6C) s fun t =>
      t.dict.restoreMarked = true ∧ Confirms acc 0x1011 1 d t) ∧
    (∀ x, d.dict.sessions.find? (fun x => x.acc == acc) = some x → Gives (.sessionIdleTimeout acc) s fun t =>
      x.last + sec (odVal 0x3210 4 d) ≤ t.time.now ∧ ∀ y ∈ t.dict.sessions, y.acc ≠ acc) ∧
    (∀ inband t0, (wayLock (if inband then 2 else 1) d).until? = some t0 → Gives (.sessionLockoutExpiry inband) s fun t =>
      t0 ≤ t.time.now ∧ wayLock (if inband then 2 else 1) t = ⟨0, none⟩) ∧
    (∀ c, d.dict.challenges.find? (fun x => x.acc == acc) = some c → Gives (.challengeExpiry acc) s fun t =>
      c.readAt + sec 30 ≤ t.time.now ∧ ∀ x ∈ t.dict.challenges, x.acc ≠ acc) ∧
    (∀ a, d.dict.assemblies.find? (fun x => x.acc == acc) = some a → Gives (.assemblyTimeout acc) s fun t =>
      a.last + sec 10 ≤ t.time.now ∧ ∀ x ∈ t.dict.assemblies, x.acc ≠ acc)

/-- R63 and the chapters of the tables. A fan floor needs no serving peer, but the other tables' writes are shared (R188). -/
def Obligations.TableWrites : Prop :=
  ∀ (s : State) (acc : Accessor) (v : Bytes),
    let d := s.dev
    let sel := fun idx => (cursorOf acc idx d).select
    let passes := fun idx sub n v => TakesWrite acc idx sub v d ∧ (∀ c, windowCount idx = some c → n < c) ∧
      refusal idx sub n v (touchIf acc idx sub d) = none ∧ notStored idx sub n d = false
    let stores := fun c idx sub n v => passes idx sub n v → Gives c s fun t =>
      odSel idx sub n t = storedNumber idx sub v ∧ Confirms acc idx sub d t
    noServingPeer d = true →
    stores (.namespaceRecordWrite acc v) 0x2510 2 (sel 0x2510) v ∧
    stores (.dedupBindingWrite acc true v) 0x2620 2 (sel 0x2620) v ∧
    stores (.dedupBindingWrite acc false v) 0x2630 2 (sel 0x2630) v ∧
    (∀ cls, stores (.stripeClassWrite acc cls v) 0x2910 cls 0 v) ∧
    (∀ n, stores (.commitPeriodWrite acc n) 0x2C00 1 0 (leBytes 4 n)) ∧
    (∀ group n, stores (.preferredMapWrite acc group n) 0x2D18 (group + 1) 0 (leBytes 1 n)) ∧
    (∀ group n, stores (.profileBindingWrite acc group n) 0x3448 (group + 1) 0 (leBytes 1 n)) ∧
    stores (.storageSummaryWrite acc v) 0x3410 1 0 v ∧
    (∀ n, stores (.partitionTableWrite acc n v) 0x2B10 (n + 1) 0 v ∧
      let was := odVal 0x2B10 (n + 1) d
      let now := storedNumber 0x2B10 (n + 1) v
      (passes 0x2B10 (n + 1) 0 v → (partType was, partBase was, partSize was) ≠ (partType now, partBase now, partSize now) →
        Gives (.partitionTableWrite acc n v) s fun t =>
          ∀ i, inPart was i = true ∨ inPart now i = true → tblGetD t.cam.entries i .blank = .blank)) ∧
    (passes 0x2B20 2 (sel 0x2B20) v → Gives (.searchEntryWrite acc v) s fun t =>
      tblGetD t.cam.entries (sel 0x2B20) .blank = searchWritten v ∧ Confirms acc 0x2B20 2 d t) ∧
    (∀ port n, port < 8 → passes (0x2300 + port) 0x0E 0 (leBytes 1 n) → Gives (.captureModeWrite acc port n) s fun t =>
      odVal (0x2300 + port) 0x0E t = storedNumber (0x2300 + port) 0x0E (leBytes 1 n) ∧ (portOf port t).ring = [] ∧
        Confirms acc (0x2300 + port) 0x0E d t) ∧
    (∀ slot, slot < d.media.profiles.length → passes 0x3440 (slot + 1) 0 v → Gives (.profileWrite acc slot v) s fun t =>
      t.media.profiles.getD slot [] = v ∧ Confirms acc 0x3440 (slot + 1) d t) ∧
    (passes 0x2600 7 0 [2] → Gives (.gearTableFillFactory acc) s fun t =>
      (∀ b, b < 256 → odSel 0x2610 2 (256 + b) t = gearFactory b) ∧ Confirms acc 0x2600 7 d t) ∧
    (passes 0x2F28 0 0 v → Gives (.patchPackageWrite acc v) s fun t => t.eng.patch = v ∧ Confirms acc 0x2F28 0 d t) ∧
    (passes 0x2C10 2 (sel 0x2C10) v →
      let e := boardWritten (boardEntry (sel 0x2C10) d) v
      ¬ (e.state = 1 ∧ e.paired = true) → Gives (.boardEntryWrite acc v) s fun t =>
        boardEntry (sel 0x2C10) t = e ∧ Confirms acc 0x2C10 2 d t) ∧
    (∀ fan rpm, TakesWrite acc 0x2E30 (fan + 1) (leBytes 2 rpm) d → rpm < 65536 → rpm ≤ ratedRpm fan d →
      Gives (.fanFloorWrite acc fan rpm) s fun t =>
        odVal 0x2E30 (fan + 1) t = rpm ∧ (∀ f, t.fans[fan]? = some f → f.ramp = none) ∧ Confirms acc 0x2E30 (fan + 1) d t) ∧
    (∀ n, n < 256 → TakesWrite acc 0x2E00 1 [BitVec.ofNat 8 n] d → notStored 0x2E00 1 0 d = false →
      Gives (.fansFittedWrite acc n) s fun t => odVal 0x2E00 1 t = n % 64 ∧ Confirms acc 0x2E00 1 d t)

/-- R187, R234, R262 to R267, R308, R441 to R443, R471, R514, R547 to R551, R556, R590, R591. -/
def Obligations.CommandWrites : Prop :=
  ∀ (s : State) (acc : Accessor) (slot tenant part n : Nat),
    let d := s.dev
    let takes := fun idx sub v => TakesWrite acc idx sub v d
    let word := fun cmd => leBytes 8 (cmd * 2 ^ 56 + tenant % 65536 * 2 ^ 32 + slot % 4096)
    let arms := fun c action unit arg launch => Gives c s fun t => boardEntry n t =
      { firmwareEntry action unit arg launch false with paired := true, state := 1 }
    (noServingPeer d = true → freeFirmwareEntry d = some n →
      (takes 0x2600 7 [1] → arms (.gearTableActivate acc) 0x0C 0 0 (nextHandoverTick d)) ∧
      (takes 0x2B00 5 (leBytes 2 (0x100 + part % 16)) → groupCheck (0x100 + part % 16) d = none →
        arms (.policyGroupCommit acc part) 0x0D 0x0020 (0x100 + part % 16) (nextBoundary d)) ∧
      (takes 0x2B00 5 (leBytes 2 (0x200 + part % 16)) → groupCheck (0x200 + part % 16) d = none →
        arms (.policyGroupAbort acc part) 0x0D 0x0020 (0x200 + part % 16) (nextBoundary d)) ∧
      (takes 0x2800 1 (word 2) → (slotOf (slot % 4096) d).st = .active → arms (.retire acc slot tenant) 0x0E 0x0030 (slot % 4096) (nextBoundary d)) ∧
      (takes 0x2800 1 (word 3) → d.admin.sanitize = none → erasePlaced d = false →
        arms (.eraseTenant acc slot tenant) 0x0F 0x0030 (tenant % 65536) (nextBoundary d))) ∧
    (noServingPeer d = true → takes 0x2800 1 (word 1) → (slotOf (slot % 4096) d).st = .empty → d.cipher.alarm = 0 → d.admin.sanitize = none →
      Gives (.generate acc slot tenant) s fun t => let k := slotOf (slot % 4096) t
        k.st = .active ∧ k.tenant = tenant % 65536 ∧ k.keygen = ((slotOf (slot % 4096) d).keygen + 1) % 2 ^ 32 ∧ k.key.isSome ∧
          Confirms acc 0x2800 1 d t) ∧
    (takes 0x2800 1 (word 4) → d.cipher.alarm = 2 → Gives (.reload acc slot tenant) s fun t => t.cipher.alarm = 3) ∧
    (takes 0x2900 0x12 [1] → Gives (.lostStripeClear acc) s fun t => Confirms acc 0x2900 0x12 d t ∧ t.stripe.lostStripes =
      d.stripe.lostStripes.filter fun r => !(r.scanDone && !(d.stripe.lostKeys.any fun k => k.seq == r.seq && lostKeyStands k d))) ∧
    (takes 0x2D40 2 [1] → Gives (.arbiterSurvive acc) s fun t => t.peer.arbDecision = 1 ∧ Confirms acc 0x2D40 2 d t ∧
      (d.peer.st = 3 → d.side = 0 → d.peer.fenceOut = false → t.peer.fenceOut = true ∧ t.peer.st = 5)) ∧
    (takes 0x2D40 2 [2] → Gives (.arbiterStandDown acc) s fun t => t.peer.arbDecision = 2 ∧ Confirms acc 0x2D40 2 d t ∧
      (d.peer.st = 3 → t.peer.st = 6 ∧ t.peer.aliveOut = false)) ∧
    (takes 0x2D40 2 [3] → d.peer.fenceOut = true → Gives (.arbiterReleaseFence acc) s fun t =>
      t.peer.arbDecision = 3 ∧ t.peer.fenceOut = false ∧ Confirms acc 0x2D40 2 d t) ∧
    (n < 4 → (n < 2 ∨ d.admin.selfTest = none) → takes 0x2220 1 [BitVec.ofNat 8 n] → d.power.run = .ready → d.power.entering ≠ some 4 →
      Gives (.powerStateRequest acc n) s fun t => odVal 0x2220 1 t = n ∧ Confirms acc 0x2220 1 d t) ∧
    (takes 0x2220 1 [4] → d.power.run = .ready → isReady d = true → ps4Blocked d = false → d.power.entering ≠ some 4 → d.peer.st = 5 →
      d.peer.takeover = none → Gives (.enterPs4 acc) s fun t => odVal 0x2220 1 t = 4 ∧ Confirms acc 0x2220 1 d t) ∧
    (takes 0x2220 1 [0] → d.power.run = .dormant → Gives (.wakeFromPs4 acc) s fun t => t.power.run ≠ .dormant ∧ odVal 0x2200 1 t = 5) ∧
    (takes 0x2240 7 [1] → odVal 0x2240 8 d ≠ 0 → odVal 0x2240 9 d ≠ 0 → d.power.holdupOk = true → odVal 0x2240 0x0A d ∉ [1, 2] →
      d.power.run ≠ .dormant → Gives (.holdupTest acc) s fun t => odVal 0x2240 0x0A t = 1 ∧ Confirms acc 0x2240 7 d t) ∧
    (takes 0x2F00 6 [1] → (slotIn .pending d).isSome → d.peer.st = 1 → Gives (.firmwareActivate acc) s fun t =>
      t.peer.st = 6 ∧ t.peer.link = 0 ∧ Confirms acc 0x2F00 6 d t) ∧
    (∀ i, takes 0x2F10 1 (leBytes 4 0x646F6F67) → slotIn .trial d = some i → odVal 0x2F10 3 d = 0 → wayOf acc ≠ 0 →
      Gives (.healthConfirm acc 0x646F6F67) s fun t => t.fw.confirmBy = none ∧ (∀ x ∈ t.fw.slots, x.st ≠ .trial) ∧
        Confirms acc 0x2F10 1 d t) ∧
    (∀ image, takes 0x2F20 6 [1] → odVal 0x2F20 5 d = 1 → noServingPeer d = true → patchCheck true d.eng.patch (baseStore d) d = .ok image →
      Gives (.patchActivate acc) s fun t => t.eng.dramImage = image ∧ odVal 0x2F20 3 t = patchLevel d.eng.patch ∧
        Confirms acc 0x2F20 6 d t) ∧
    (n < 65536 → takes 0x3300 7 (leBytes 2 n) → (snapOf n d).map (·.st) = some 2 → holdsOf n d = 0 →
      Gives (.snapshotDeleteWrite acc n) s fun t => (snapOf n t).map (·.st) = some 3 ∧ Confirms acc 0x3300 7 d t)

/-- R118, R119, R426; R527 to R529. -/
def Obligations.OwnersAndReads : Prop :=
  ∀ (s : State) (acc : Accessor),
    let d := s.dev
    (∀ v n key secret, TakesWrite acc 0x3220 1 v d → noServingPeer d = true → d.sec.otpWorks = true → d.sec.owners.length = 15 →
      enrolCheck acc v (touchIf acc 0x3220 1 d) = .ok (n, key, secret) → Gives (.ownerEnrol acc v) s fun t =>
        ownerOf n t = ⟨.valid, key, secret⟩ ∧ Confirms acc 0x3220 1 d t) ∧
    (∀ n, n < 256 → TakesWrite acc 0x3220 2 [BitVec.ofNat 8 n] d → noServingPeer d = true → d.sec.owners.length = 15 → n ≠ 0 →
      (ownerOf n d).st = .valid → (validOwners d).length ≠ 1 → Gives (.ownerRevoke acc n) s fun t =>
        ownerOf n t = { ownerOf n d with st := .revoked } ∧ (∀ x ∈ t.dict.sessions, x.record ≠ n) ∧ Confirms acc 0x3220 2 d t) ∧
    (∀ port sub, port < 8 → 1 ≤ sub → sub ≤ 21 → TakesRead acc (0x2320 + port) sub d → d.ports.ports.length = 8 →
      (Gives (.macStatisticsRead acc port sub true) s fun t => (portOf port t).mac.getD (sub - 1) 0 = 0 ∧ bit (portOf port t).ovf (sub - 1) = false ∧
        Sent d t (.od acc (0x2320 + port) sub .ok (typeBytes (0x2320 + port) sub ((portOf port d).mac.getD (sub - 1) 0)))) ∧
      (Gives (.macStatisticsRead acc port sub false) s fun t => t.ports = d.ports)) ∧
    (∀ board, let idx := if board then 0x2C00 else 0x2B00
      let sub := if board then 7 else 6
      TakesRead acc idx sub d → Gives (.clearOnReadEntryRead acc board) s fun t =>
        odVal idx sub t = 0 ∧ Sent d t (.od acc idx sub .ok (typeBytes idx sub (odVal idx sub d))))

/-- R161. -/
def Obligations.AbortAndEnds : Prop :=
  ∀ (s : State) (q : QueueRef) (c : Capsule) (x : Assoc), AdminOpen q c x s.dev →
    let d := adminServed q c s.dev
    let ok := fun t => Completes q c .success s.dev t
    (Gives (.abort q c) s fun t => Answers q c .success 1 0 [] s.dev t ∧ Spoke (adminFetched q s.dev) t) ∧
    (∀ slot, slot = bits c.sqe.cdw10 13 8 → (longSlot slot d).state = 2 → (longSlot slot d).gen = c.sqe.cdw10 % 256 →
      (longSlot slot d).starter = some q.port → (∀ first a b e, (longSlot slot d).op ≠ .erasure first a b e) →
      Gives (.longOperationRelease q c) s fun t => (longSlot slot t).state = 0 ∧ ok t) ∧
    (∀ st, d.admin.selfTest = some st → st.starter = q.port → st.fwd = none → denied q 2 false d = false →
      c.sqe.nsid = 0 ∨ c.sqe.nsid = 0xFFFFFFFF → Gives (.selfTestAbort q c) s fun t =>
        t.admin.selfTest = none ∧ ok t)

/-- R67, R85, R109 to R112, R139, R162 to R165, R181, R623. -/
def Obligations.AdminReads : Prop :=
  ∀ (s : State),
    (∀ (q : QueueRef) (c : Capsule) (y : Assoc), AdminOpen q c y s.dev →
      let d := adminServed q c s.dev
      let x := passed y
      let gives := fun i dw0 dw1 data => Gives i s fun t => Answers q c .success dw0 dw1 data s.dev t
      let ok := fun t => Completes q c .success s.dev t
      (bits c.sqe.cdw10 7 0 = 1 → gives (.identify q c) 0 0 (controllerData x d)) ∧
      (∀ page need session bytes, page = bits c.sqe.cdw10 7 0 → page ≠ 0xC1 → logOffset c.sqe % 4 = 0 →
        logPage page x d = some (need, session, bytes) → denied q need session d = false →
        gives (.getLogPage q c) 0 0 (padTo (logLength c.sqe) (bytes.drop (logOffset c.sqe)))) ∧
      (∀ n, n = bits (bits c.sqe.cdw11 31 16) 13 8 → x.discovery = false → logOffset c.sqe % 4 = 0 → (longSlot n d).state ≠ 0 →
        (longSlot n d).gen = bits c.sqe.cdw11 31 16 % 256 → (longSlot n d).starter = some q.port →
        let all := committedBytes n d
        let part := slice all (logOffset c.sqe) (logLength c.sqe - 16)
        gives (.getLongOperationResults q c) part.length 0
          (padTo (logLength c.sqe) (leBytes 8 (slotWord (longSlot n d)) ++ leBytes 8 all.length ++ part))) ∧
      (bits c.sqe.cdw10 10 8 = 0 →
        (bits c.sqe.cdw10 7 0 = 0x07 → gives (.getFeatures q c) x.numQueues 0 []) ∧
        (bits c.sqe.cdw10 7 0 = 0x0B → gives (.getFeatures q c) x.aec 0 []) ∧
        (bits c.sqe.cdw10 7 0 = 0x0F → gives (.getFeatures q c) x.kato 0 [])) ∧
      (∀ v t', let acc := Accessor.inband q.port
        let idx := bits c.sqe.cdw10 15 0
        let sub := bits c.sqe.cdw10 23 16
        1 ≤ managementAccess q.port d → c.sqe.cdw12 ≤ 2 ^ 20 → c.sqe.cdw11 = 0 → bits c.sqe.cdw13 1 0 = 0 → isDomain idx sub = false →
        odRead acc idx sub 0 d = .ok (v, t') →
        gives (.parameterRead q c) (v.take c.sqe.cdw12).length v.length (v.take c.sqe.cdw12)) ∧
      (x.aers.length < 4 → x.events = [] → Gives (.asynchronousEventRequest q c) s fun t =>
        assocOf q.port q.assoc t = some { x with aers := x.aers ++ [c.sqe.tag] } ∧ t.out = d.out) ∧
      (Gives (.keepAlive q c) s fun t =>
        assocOf q.port q.assoc t = some { x with kaLast := d.time.now } ∧ ok t) ∧
      (c.sqe.cdw11 = 0x14 → bits c.sqe.cdw12 13 11 ≤ 1 → Gives (.propertySet q c) s fun t =>
        assocOf q.port q.assoc t = some { x with cc := c.sqe.cdw12, ams := bits c.sqe.cdw12 13 11 } ∧ ok t)) ∧
    let d := s.dev
    (∀ p a x, assocOf p a d = some x → x.kato ≠ 0 → Gives (.keepAliveExpiry p a) s fun t => x.kaLast + ms x.kato ≤ t.time.now ∧
      (∀ y ∈ t.ports.assocs, ¬ (y.port = p ∧ y.assoc = a)) ∧ ∀ y ∈ t.nvme.queues, ¬ (y.ref.port = p ∧ y.ref.assoc = a)) ∧
    (∀ r : ConnectReq, hasLink r.port d = true → portMode r.port d = 1 → bit (portOd r.port 5 d) (if r.svc == 0 then 1 else 0) = true →
      (r.svc = 0 ∨ r.svc = 8009 ∨ r.svc = portOd r.port 0x10 d) → connectCheck r d = none → connectRepeated r d = false →
      (∀ n, r.qid = 0 → freeCntlid d = some n → Gives (.connect r) s fun t => t.ports.assocs = d.ports.assocs ++ [newAssoc r n d] ∧
        ∃ flow, Posted r.port d t (.completion ⟨r.port, r.assoc, 0⟩ r.cid .success n 0 [] flow)) ∧
      (∀ x, r.qid ≠ 0 → assocOf r.port r.assoc d = some x → Gives (.connect r) s fun t =>
        t.nvme.queues = d.nvme.queues ++ [newQueue r] ∧
        ∃ flow, Posted r.port d t (.completion ⟨r.port, r.assoc, r.qid⟩ r.cid .success x.cntlid 0 [] flow)))

/-- R65 to R67, R86, R168 to R174, R586 to R589. -/
def Obligations.AdminSets : Prop :=
  ∀ (s : State) (q : QueueRef) (c : Capsule) (y : Assoc), AdminOpen q c y s.dev →
    let d := adminServed q c s.dev
    let x := passed y
    let acc := Accessor.inband q.port
    let ok := fun t => Completes q c .success s.dev t
    let stored := fun idx sub v t => odVal idx sub t = storedNumber idx sub v
    let unsaved := bit c.sqe.cdw10 31 = false
    (PlainWrite acc 0x2410 (q.port + 1) (leBytes 4 c.sqe.cdw11) d → unsaved → Gives (.setFeaturesArbitration q c) s fun t =>
      stored 0x2410 (q.port + 1) (leBytes 4 c.sqe.cdw11) t ∧ ok t) ∧
    (2 ≤ managementAccess q.port d → unsaved →
      (∀ ps, ps = bits c.sqe.cdw11 4 0 → ps ≤ 1 → writeFailure acc 0x2220 1 (leBytes 1 ps) (unitIdle 0x2220 1 d) false d = none →
        d.power.run = .ready → d.power.entering ≠ some 4 → Gives (.setFeaturesPowerManagement q c) s fun t => odVal 0x2220 1 t = ps ∧ ok t) ∧
      (∀ sub, thresholdSub c.sqe.cdw11 = some sub → let v := leBytes 2 (bits c.sqe.cdw11 15 0)
        writeFailure acc 0x2010 sub v (unitIdle 0x2010 sub d) false d = none → notStored 0x2010 sub 0 d = false →
        Gives (.setFeaturesTemperatureThreshold q c) s fun t => stored 0x2010 sub v t ∧ ok t) ∧
      (256 ≤ (sglData 0 c).length → (∀ n, n < 27 → leAt (sglData 0 c) (8 * (n + 5)) 8 = 0) → (∀ n, n < 5 → apstOk n (leAt (sglData 0 c) (8 * n) 4) = true) →
        PlainWrite acc 0x2230 1 (leBytes 1 (c.sqe.cdw11 % 2)) d → (∀ n, n < 5 → PlainWrite acc 0x2230 (n + 2) (leBytes 4 (leAt (sglData 0 c) (8 * n) 4)) d) →
        Gives (.setFeaturesApst q c) s fun t => stored 0x2230 1 (leBytes 1 (c.sqe.cdw11 % 2)) t ∧
          (∀ n, n < 5 → stored 0x2230 (n + 2) (leBytes 4 (leAt (sglData 0 c) (8 * n) 4)) t) ∧ ok t)) ∧
    (unsaved → bits c.sqe.cdw10 7 0 = 0x0B → Gives (.setFeaturesAssociation q c) s fun t =>
      assocOf q.port q.assoc t = some { x with aec := c.sqe.cdw11 } ∧ ok t) ∧
    (unsaved → bits c.sqe.cdw10 7 0 = 0x0F → Gives (.setFeaturesAssociation q c) s fun t =>
      assocOf q.port q.assoc t = some { x with kato := c.sqe.cdw11, kaLast := d.time.now } ∧ ok t) ∧
    (let idx := bits c.sqe.cdw10 15 0
     let sub := bits c.sqe.cdw10 23 16
     let v := (sglData 0 c).take c.sqe.cdw12
     2 ≤ managementAccess q.port d → c.sqe.cdw12 ≤ 2 ^ 20 → c.sqe.cdw12 ≤ (sglData 0 c).length → c.sqe.cdw11 = 0 → bit c.sqe.cdw13 2 = true →
      PlainWrite acc idx sub v d → Gives (.parameterWrite q c) s fun t => stored idx sub v t ∧ ok t) ∧
    (denied q 2 true d = false → (∀ z, d.fw.delta = some z → z.partner = q.port) →
      let held := ((d.fw.delta).map (·.bytes)).getD []
      4 * c.sqe.cdw11 = held.length → 4 * c.sqe.cdw11 + 4 * (c.sqe.cdw10 + 1) ≤ 2 ^ 24 → 4 * (c.sqe.cdw10 + 1) ≤ (sglData 0 c).length →
      Gives (.firmwareImageDownload q c) s fun t => t.fw.delta = some ⟨q.port, held ++ (sglData 0 c).take (4 * (c.sqe.cdw10 + 1))⟩ ∧ ok t) ∧
    (∀ n, denied q 2 true d = false → slotIn .trial d = none → commitSlot (bits c.sqe.cdw10 2 0) d = some n → n < d.fw.slots.length →
      ((slotImage n d).st = .valid → Gives (.firmwareCommitActivate q c) s fun t =>
        slotImage n t = { slotImage n d with st := .pending } ∧ t.fw.delta = none ∧ ok t) ∧
      (∀ k z image, (slotImage n d).st ≠ .active → slotIn .active d = some k → d.fw.delta = some z →
        applyDelta z.bytes (slotImage k d).image { d with fw := { d.fw with delta := none } } = some image →
        Gives (.firmwareCommitApply q c) s fun t =>
          slotImage n t = ⟨if bit c.sqe.cdw10 3 then .pending else .valid, image⟩ ∧ t.fw.delta = none ∧ ok t)) ∧
    (denied q 2 false d = false → c.sqe.nsid = 0 ∨ c.sqe.nsid = 0xFFFFFFFF → d.admin.selfTest = none → d.admin.sanitize = none →
      (Gives (.shortSelfTest q c) s fun t => ok t ∧
        t.admin.selfTest = some { kind := 1, starter := q.port, segment := 0, firstFailure := 0, slot := none, startedAt := d.time.now, fwd := none }) ∧
      (∀ n, idleSlot d = some n → Gives (.extendedSelfTest q c) s fun t => ok t ∧
        t.admin.selfTest = some { kind := 2, starter := q.port, segment := 0, firstFailure := 0, slot := some n, startedAt := d.time.now, fwd := none })) ∧
    (∀ pass z, s.dev.admin.selfTest = some z → z.segment + 1 < min 7 (segmentsOf z.kind) → Gives (.selfTestSegment pass) s fun t =>
      let n := z.segment + 1
      t.admin.selfTest = some { z with segment := n, firstFailure := if !segmentPasses n pass s.dev && z.firstFailure == 0 then n else z.firstFailure }) ∧
    (denied q 2 true d = false → d.admin.sanitize = none →
      (d.admin.sanitizeFailed = true → d.admin.sanitizeFailedAuse = true → Gives (.sanitizeExitFailureMode q c) s fun t =>
        t.admin.sanitizeFailed = false ∧ t.admin.sanitizeFailedAuse = false ∧ ok t) ∧
      (d.peer.st ≠ 2 →
        (Gives (.sanitizeBlockErase q c) s fun t => ok t ∧ t.admin.sanitize = some ⟨2, c.sqe.cdw10, d.time.now, none⟩ ∧ t.admin.sanitizeStatus = 2) ∧
        (Gives (.sanitizeCryptoErase q c) s fun t => ok t ∧ t.admin.sanitize = some ⟨4, c.sqe.cdw10, d.time.now, none⟩ ∧ t.admin.sanitizeStatus = 2))) ∧
    (∀ z good, s.dev.admin.sanitize = some z → isReady s.dev = true → z.fwd.isSome → Gives (.sanitizeComplete good) s fun t =>
      t.admin.sanitize = none ∧ t.admin.sanitizeStatus = (if good then if bit z.cdw10 9 then 4 else 1 else 3))

/-- R176 to R182, R212, R309, R310, R467, R471, R480, R598. -/
def Obligations.LongOperations : Prop :=
  ∀ (s : State), s.dev.admin.slots.length = 64 →
    let d := s.dev
    (∀ (q : QueueRef) (c : Capsule) (x : Assoc) (n : Nat), AdminOpen q c x s.dev →
      let d := adminServed q c s.dev
      d.admin.sanitize = none → idleSlot d = some n →
      let gen := ((longSlot n d).gen + 1) % 256
      let starts := fun i op => Gives i s fun t => (longSlot n t).op = op ∧ (longSlot n t).gen = gen ∧ (longSlot n t).starter = some q.port ∧
        Answers q c .success (n * 256 + gen) 0 [] s.dev t
      let runs := fun i op => starts i op ∧ Gives i s fun t => (longSlot n t).state = 2
      (denied q 0 false d = false → (listStart q c d).check = none → runs (.longOperationList q c) (listStart q c d).op) ∧
      (denied q 1 false d = false → (differenceStart c d).check = none → runs (.snapshotDifference q c) (differenceStart c d).op) ∧
      (denied q 1 false d = false → runs (.rebuildReport q c) (.rebuildReport (failedSince d))) ∧
      (denied q 1 true d = false → runs (.dumpReadout q c) (.dump (c.sqe.cdw11 % 2) 0)) ∧
      (denied q 2 false d = false → runs (.scrub q c) (.scrub (c.sqe.cdw11 % 65536) 0)) ∧
      (denied q 2 false d = false → sessionReady (c.sqe.cdw11 % 16) d = true → (sessionOf (c.sqe.cdw11 % 16) d).st = 1 →
        starts (.longOperationReplication q c) (.replication (c.sqe.cdw11 % 16)))) ∧
    (∀ n, n < 64 → 3 ≤ (longSlot n d).state → Gives (.longOperationExpiry n) s fun t =>
      (longSlot n t).state = 0 ∧ (longSlot n d).entered + sec 600 ≤ t.time.now) ∧
    (∀ n a rest f, n < 64 → (longSlot n d).state = 2 → d.peer.takeover = none → isReady d = true →
      (longSlot n d).op = .rebuildReport (a :: rest) → poolUsed d + 64 ≤ poolBytes → d.stripe.failed.find? (fun x => x.addr == a) = some f →
      Gives (.longOperationRecordCommit n) s fun t => (longSlot n t).results = (longSlot n d).results ++ rebuildRecord f ∧
        (longSlot n t).count = (longSlot n d).count + 1 ∧ (longSlot n t).state = if rest = [] then 3 else 2) ∧
    (∀ n first copies ids, n < 64 → (longSlot n d).state = 2 → d.peer.takeover = none → isReady d = true → (pairUp d || noServingPeer d) = true →
      (longSlot n d).op = .erasure first copies [] ids → 64 ≤ (longSlot n d).results.length → poolUsed d + 8 ≤ poolBytes → (∀ i ∈ ids, stripeOf i d = none) →
      Gives (.secureDeleteErasure n) s fun t => (longSlot n t).state = 3 ∧ ∃ e ∈ t.admin.events, e.code = 0x0706 ∧ e.detail = slotHandle n d % 2 ^ 64) ∧
    (∀ (q : QueueRef) (c : Capsule) (x : Assoc), AdminOpen q c x s.dev →
      let d := adminServed q c s.dev
      denied q 2 false d = false →
      (∀ ns, c.sqe.nsid = ns → ns ≠ 0xFFFFFFFF → ns ∈ attachedNs q.port d → createRefused [ns] d = none → noServingPeer d = true →
        Gives (.snapshotCreate q c) s fun t => ∃ y ∈ t.snap.snaps, y.ns = ns ∧ y.st = 1 ∧ y.cut = nextBoundary d ∧
          y.expiry = if c.sqe.cdw11 = 0 then 0 else nextBoundary d + c.sqe.cdw11 * sec 60) ∧
      (∀ y, d.admin.sanitize = none → snapOf (c.sqe.cdw11 % 4096) d = some y → y.st = 2 → y.ns = c.sqe.nsid →
        holdsOf (c.sqe.cdw11 % 4096) d = 0 → Gives (.snapshotDelete q c) s fun t =>
          (snapOf (c.sqe.cdw11 % 4096) t).map (·.st) = some 3 ∧ Completes q c .success s.dev t))

/-- R501, R502, R504 to R507. What follows a machine check (a patch that waits for the engine) and a HALT (the next dispatch) is
left to the operation that `Leads` names. -/
def Obligations.EngineDescriptors : Prop :=
  ∀ (s : State),
    let d := s.dev
    (∀ bucket w, let c := bucket % 4096 / 2 % 4
      clusterStopped c d = false → d.eng.activating.head? ≠ some c → c < d.eng.queues.length → Gives (.workDescriptorPost true bucket w) s fun t =>
        clusterQueue c t = clusterQueue c d ++ [w] ∧ ∀ k, k ≠ c → clusterQueue k t = clusterQueue k d) ∧
    (∀ bucket w, d.eng.queues.length = 4 → runningClusters d ≠ [] → Gives (.workDescriptorPost false bucket w) s fun t =>
      ∃ c ∈ runningClusters d, clusterQueue c t = clusterQueue c d ++ [w] ∧
        (d.eng.activating = [] → ∀ k ∈ runningClusters d, (clusterQueue c d).length ≤ (clusterQueue k d).length)) ∧
    (∀ bucket w, let c := bucket % 4096 / 2 % 4
      clusterStopped c d = false → d.eng.activating.head? = some c → ∀ k, (runningClusters d).find? (· != c) = some k → k < d.eng.queues.length →
        Gives (.workDescriptorPost true bucket w) s fun t => clusterQueue k t = clusterQueue k d ++ [w]) ∧
    (∀ tag status w, descOf tag d = some w → cmdOf (tagCmd tag) d = none → Gives (.descriptorReturn tag status) s fun t => descOf tag t = none) ∧
    (∀ e kind groups, e < 64 → e < d.eng.engines.length → (engineOf e d).st < 3 → (∀ c ∈ (engineOf e d).checks, c + sec 3600 < d.time.now) →
      (engineOf e d).ctx.desc = none →
      Leads (settleStopped e) (.machineCheck e kind groups) s fun u =>
        (engineOf e u).st = 0 ∧ (engineOf e u).ctx = SeqCtx.blank ∧ (engineOf e u).checks = [d.time.now] ∧ (engineOf e u).aes = [] ∧
          Logged 0x1001 (0x0200 + e) 2 (kind * 2 ^ 40 + groups % 256 * 2 ^ 32 + (engineOf e d).ctx.pc * 2 ^ 16 + e) u) ∧
    (∀ e, EngineRuns e d → let g := engineOf e d
      (∀ w, g.ctx.desc = some w → g.st = 1 → g.checks = [] → Leads (settleStopped e) (.descriptorTimeLimit e) s fun u =>
        g.since + ms (odVal 0x2F20 8 d) - g.ctx.ran ≤ u.time.now ∧ Logged 0x1001 (0x0200 + e) 2 (3 * 2 ^ 40 + g.ctx.pc * 2 ^ 16 + e) u) ∧
      (∀ w, g.ctx.desc = some w → g.st = 1 → w.cls = 4 → higherWaits e d = false → Gives (.backgroundSliceEnd e) s fun t =>
        g.since + ms 1 ≤ t.time.now ∧ (engineOf e t).ctx = { g.ctx with ran := g.ctx.ran + ms 1 } ∧
          (engineOf e t).since = t.time.now ∧ bit (engineOf e t).conds 31 = true) ∧
      (∀ c, g.ctx.desc = none → g.parked = some c → higherWaits e d = false → EngineBecomes (.dispatchSeq e) e
        { g with ctx := c, parked := none, st := 1, since := d.time.now } s) ∧
      (∀ w, g.ctx.desc = some w → Leads (fun u => dispatch e (settleStopped e (descriptorReturn w.tag (reg e 1 d % 65536) (some w) u)))
        (.haltSeq e) s fun u => engineOf e u = { g with st := 0, ctx := { g.ctx with desc := none, stack := [] } } ∧ OnlyEngine e s { s with dev := u }))

/-- R499: the lock, journal, event, counter and message fields. -/
def Obligations.EngineLocksAndRecords : Prop :=
  ∀ (s : State) (e a b buf : Nat), EngineRuns e s.dev →
    let d := s.dev
    let g := engineOf e d
    let cmd := tagCmd (curDesc e d).tag
    let bs := bufBytes e buf d
    (∃ y, EngineBecomes (.lockTest e) e { g with conds := y } s ∧ (∀ n, n ≠ 21 → bit y n = bit g.conds n) ∧
      (bit y 21 = true ↔ ∀ l ∈ d.nvme.locks, l.cmd = cmd → l.st = .held)) ∧
    (Leads settle (.lockRelease e) s fun u => u = { d with nvme := { d.nvme with locks := u.nvme.locks } } ∧
      ∀ l, l ∈ u.nvme.locks ↔ l ∈ d.nvme.locks ∧ l.cmd ≠ cmd) ∧
    (Gives (.append e buf) s fun t => t.stripe.queued = d.stripe.queued ++ [.other (leAt bs 2 2) (bs.drop 4)] ∧
      (engineOf e t).appended = some (d.stripe.pageSeq + 1) ∧ bit (engineOf e t).conds 22 = false) ∧
    (EngineBecomes (.markJnl e) e { g with marked := true, conds := setBit g.conds 22 (g.appended.any (· ≤ d.stripe.durableSeq)) } s) ∧
    (∀ code imm, 1 ≤ code → code ≤ 4 → Gives (.evtWrite e code imm a) s fun t =>
      Logged (imm % 65536) (0x0200 + e) (code - 1) (reg e a d) t ∧ t.eng = d.eng) ∧
    (∀ ctr, 1 ≤ ctr → ctr ≤ 15 → Gives (.cntAdd e ctr b) s fun t =>
      tblGetD (engineOf e t).counters ctr 0 = (tblGetD g.counters ctr 0 + reg e b d) % 2 ^ 64 ∧
        ∀ n, n ≠ ctr → tblGetD (engineOf e t).counters n 0 = tblGetD g.counters n 0) ∧
    (Gives (.msgSend e a b) s fun t => t.out = d.out ++ [.toCpu (reg e a d) (reg e b d)] ∧
      engineOf e t = { g with conds := setBit g.conds 26 false })

/-- R499, the flash and toll fields; R352, R353 for the toll gate. -/
def Obligations.EngineFlash : Prop :=
  ∀ (s : State) (e a : Nat), EngineRuns e s.dev →
    let d := s.dev
    let g := engineOf e d
    let m := memberOf (reg e a d)
    let reads := fun (i : Instr) (step : Nat) (deep : Bool) =>
      (ownsChannel m.channel d = true → Gives i s fun t => (engineOf e t).flash = some d.media.nextOp ∧ t.media.nextOp = d.media.nextOp + 1 ∧
        ∃ o ∈ t.media.ops, o.id = d.media.nextOp ∧ o.kind = readKind (curDesc e d).opcode ∧ o.desc = m ∧ o.step = step ∧ o.deep = deep ∧ o.engine = some e) ∧
      (ownsChannel m.channel d = false → Gives i s fun t => bit (engineOf e t).conds 23 = true ∧ bit (engineOf e t).conds 24 = true ∧
        t.media = d.media)
    (engineOp e d = none →
      reads (.flashRead e a) 1 false ∧ reads (.flashReadNextStep e a) (min 5 (nextReadStep g.flashStep m d)) false ∧
      reads (.flashReadDeep e a) 5 true ∧
      (∀ st n, memberAt m d = some (st, n) → stripeOf st.id d = some st → Gives (.flashProgram e a) s fun t =>
        (engineOf e t).flash = some d.media.nextOp ∧
        ∃ o ∈ t.media.ops, o.id = d.media.nextOp ∧ o.kind = .program ∧ o.stripe = st.id ∧ o.member = n ∧ o.engine = some e) ∧
      (memberAt m d = none → Gives (.flashProgram e a) s fun t => bit (engineOf e t).conds 23 = true ∧ bit (engineOf e t).conds 24 = false)) ∧
    (∀ o, engineOp e d = some o → o.started = false → o.engine = some e → mayStart o d = true →
      let starts := fun (i : Instr) => Gives i s fun t => (engineOf e t).tokens = o.tokens ∧ bit (engineOf e t).conds 25 = true ∧
        ∀ x ∈ t.media.ops, x.id = o.id → x.started = true
      (o.kind.isRead = true → starts (.tollRequestRead e)) ∧ (o.kind.isRead = false → starts (.tollRequestProgram e))) ∧
    (∀ o, opOf o.id d = some o → o.started = false → o.engine = none → mayStart o d = true → Gives (.tollTokensGranted o.id) s fun t =>
      ∀ x ∈ t.media.ops, x.id = o.id → x.started = true) ∧
    (Gives (.tollReturn e) s fun t => (engineOf e t).tokens = 0 ∧ bit (engineOf e t).conds 25 = false ∧
      ∀ o, engineOp e d = some o → ∀ x ∈ t.media.ops, x.id = o.id → x.tokens = 0)

/-- R499, the search and claim fields; R236, R237. -/
def Obligations.EngineSearchAndClaims : Prop :=
  ∀ (s : State) (e buf : Nat), EngineRuns e s.dev →
    let d := s.dev
    let g := engineOf e d
    let key := leAt (bufBytes e buf d) 0 20
    let searches := fun (i : Instr) (cls : Nat) => Gives i s fun t => ∃ id, t.cam.queue = d.cam.queue ++ [⟨id, cls, 0, key, some e⟩] ∧
      (∀ r ∈ d.cam.queue, r.id ≠ id) ∧ (engineOf e t).search = some id ∧ bit (engineOf e t).conds 18 = false ∧
      bit (engineOf e t).conds 19 = false ∧ bit (engineOf e t).conds 20 = false
    searches (.policySearch e buf) 3 ∧ searches (.bucketOverrideSearch e buf) 2 ∧
    (hotDiverted d = false → searches (.hotSetSearch e buf) 4) ∧
    (hotDiverted d = true → Gives (.hotSetSearch e buf) s fun t => bit (engineOf e t).conds 18 = true ∧ bit (engineOf e t).conds 19 = false ∧
      bit (engineOf e t).conds 20 = true ∧ t.cam = d.cam) ∧
    (∀ c n i, curItem e d = some (c, n, i) →
      (i.reduced = false → g.chunker.chunk ≠ [] → Leads (fun u => settle (addChunk c.id n g.chunker.chunk u)) (.msgClaim e) s fun u =>
        OnlyEngine e s { s with dev := u } ∧ bit (engineOf e u).conds 26 = false ∧ bit (engineOf e u).conds 27 = false ∧
          bit (engineOf e u).conds 28 = false) ∧
      (∀ w k, let digest := ((g.ports.drop 1).take 4).flatMap fun p => leBytes 8 p
        (i.chunks.zipIdx.find? fun x => x.1.fp == digest && x.1.claimed && !x.1.stored) = some (w, k) →
        Leads (releaseClaim i.domain digest (w.copy.getD 0) c.id w.claim) (.msgRelease e) s fun u =>
          ∀ x ∈ u.nvme.cmds, x.id = c.id → ∀ j, x.items[n]? = some j → ∀ y, j.chunks[k]? = some y → y.claimed = false ∧ y.copy = none)) ∧
    (∀ c n i k w, curChunk e d = some (c, n, i, k, w) → Leads (fun u => settle (storeChunk (some e) c.id n k u)) (.msgPresent e) s fun u => u = d) ∧
    (∀ temp, Leads (refreshEff 2) (.throttleStepChange temp) s fun u => u.cam.step = nextStep temp 5 d.cam.step ∧
      (nextStep temp 5 d.cam.step ≠ d.cam.step → u.power.throttle = u.cam.step ∧
        Logged 0x0801 0x0020 1 (toUnsigned 2 temp * 256 + u.cam.step) u))

/-- R100, R102, R108, R113 to R115. MAC counters saturate (R117). -/
def Obligations.PortTransport : Prop :=
  ∀ (s : State) (p : Nat),
    let d := s.dev
    (hasLink p d = true → (portOf p d).mac.length = 21 →
      let posts := fun (t : Device) (f : PortFrame) => Posted p d t (.port p f)
      (∀ f, frameStatus p f d ≠ 0 → Gives (.frameReceive p f) s fun t => t.nvme = d.nvme ∧ macCount p 1 t = macCount p 1 d ∧
        Counts p 4 f.corrected d t ∧ Counts p 5 f.uncorrected d t ∧ (bit (frameStatus p f d) 2 = true → Counts p 3 1 d t)) ∧
      (∀ f, frameStatus p f d = 0 → protocolOk p f d = true → bufferDrops p f d = false → f.gap = none →
        (f.capsule = none → Gives (.frameReceive p f) s fun t => Counts p 1 1 d t ∧ Counts p 2 f.length d t) ∧
        (∀ q c, f.capsule = some (q, c) → portMode p d = 1 → q.port = p →
          Leads (if q.qid = 0 then adminArrive q c else ioArrive q c) (.frameReceive p f) s fun u =>
            Counts p 1 1 d u ∧ Counts p 2 f.length d u ∧ u.nvme = d.nvme)) ∧
      (∀ addr, addr ≠ 0 → addr = ipv4Of p d → portOd p 7 d ≠ 0 → Gives (.arpRequest p addr) s fun t => posts t (.arpReply addr)) ∧
      (∀ v6 data, portOd p (if v6 then 8 else 7) d ≠ 0 →
        ((portOf p d).echoWindow + sec 1 ≤ d.time.now ∨ (portOf p d).echoCount < 1000 → Gives (.icmpEcho p ⟨v6, data⟩) s fun t => posts t (.echoReply data)) ∧
        (d.time.now < (portOf p d).echoWindow + sec 1 → 1000 ≤ (portOf p d).echoCount → Gives (.icmpEcho p ⟨v6, data⟩) s fun t => Counts p 8 1 d t)) ∧
      (∀ conn mtu, Gives (.icmpUnreachable p conn mtu) s fun t => tblGet? (portOf p t).tcpPath conn = some mtu) ∧
      (∀ r : IcReq, (portMode p d = 2 → Gives (.icreq p r) s fun t => posts t .tcpReset) ∧
        (portMode p d ≠ 2 → bit (portOd p 5 d) 0 = true →
          (r.pfv = 0 → r.hpda = 0 → Gives (.icreq p r) s fun t => posts t (.icResp r.hdrDigest r.dataDigest 0 (2 ^ 20)) ∧
            tblGetD (portOf p t).maxR2t r.conn 0 = r.maxR2t) ∧
          (r.pfv ≠ 0 ∨ r.hpda ≠ 0 → Gives (.icreq p r) s fun t => posts t .icRefused))) ∧
      (∀ qp, (portMode p d = 2 → Gives (.roceConnectRequest p qp) s fun t => posts t .roceReject) ∧
        (portMode p d ≠ 2 → bit (portOd p 5 d) 1 = true → Gives (.roceConnectRequest p qp) s fun t => posts t (.roceAccept qp) ∧
          qpOf p qp t = some ⟨p, qp, lineRate, none, d.time.now⟩)) ∧
      (∀ qp x, qpOf p qp d = some x →
        (Gives (.cnpReceive p qp) s fun t => qpOf p qp t = some { x with rate := x.rate / 2, lastCnpRecv := d.time.now } ∧ Counts p 0x10 1 d t) ∧
        ((∀ a, x.lastCnpSent = some a → a + us 50 ≤ d.time.now) → Gives (.ecnCeReceive p qp) s fun t =>
          posts t (.cnp qp) ∧ qpOf p qp t = some { x with lastCnpSent := some d.time.now } ∧ Counts p 0x0F 1 d t))) ∧
    (∀ qp x, qpOf p qp d = some x → x.rate < lineRate → Gives (.rateIncreaseTimer p qp) s fun t => x.lastCnpRecv + us 55 ≤ t.time.now ∧
      qpOf p qp t = some { x with rate := min lineRate (x.rate + rateStep), lastCnpRecv := t.time.now })

/-- R96 to R99, R105, R106. -/
def Obligations.PortLinks : Prop :=
  ∀ (s : State) (p : Nat), p < s.dev.ports.ports.length → (portOf p s.dev).mac.length = 21 →
    let d := s.dev
    let mode := portOd p 0x0B d
    (∀ lanes, portMode p d ≠ 0 → domainOn 22 d = true → isUp d = true → portOd p 2 d ≤ 2 → Gives (.portLinkUp p lanes) s fun t =>
      (portOf p t).link = (if lanes = portLanes p d then 2 else 1) ∧ odVal (0x2300 + p) 3 t = (portOf p t).link ∧
        (portOf p t).lanes = portLanes p d ∧ t.power.sdclk = true) ∧
    (Gives (.portLinkDown p) s fun t => (portOf p t).link = 0 ∧ (portOf p t).txWait = [] ∧ (portOf p t).pausedUntil = none ∧
      Counts p 0x0E (portOf p d).txWait.length d t ∧ ((portOf p d).link = 2 → Counts p 0x14 1 d t)) ∧
    (hasLink p d = true →
      (∀ fill, rxBuffer * 3 / 4 ≤ fill → (portOf p d).pauseSent = false →
        (mode = 1 → Gives (.receiveBufferThreshold p fill) s fun t => Sent d t (.port p (.pause 0xFFFF)) ∧ (portOf p t).pauseSent = true ∧
          (portOf p t).rxFill = min fill rxBuffer ∧ Counts p 0x0D 1 d t) ∧
        (mode = 2 → Gives (.receiveBufferThreshold p fill) s fun t => (portOf p t).pauseSent = true ∧ Counts p 0x0D 1 d t ∧
          ∃ quanta, Sent d t (.port p (.pfc (portOd p 0x0C d) quanta)))) ∧
      (∀ fill, fill ≤ rxBuffer / 2 → (portOf p d).pauseSent = true → mode = 1 → Gives (.receiveBufferThreshold p fill) s fun t =>
        Sent d t (.port p (.pause 0)) ∧ (portOf p t).pauseSent = false) ∧
      ((portOf p d).pauseSent = true → mode = 1 → Gives (.pauseRenewal p) s fun t =>
        (portOf p d).pauseRenewAt ≤ t.time.now ∧ Sent d t (.port p (.pause 0xFFFF)) ∧ (portOf p t).pauseSent = true) ∧
      (∀ prio quanta, Gives (.pauseReceive p false prio quanta) s fun t => Counts p 0x0A 1 d t ∧
        (mode = 1 → (portOf p t).pausedUntil = if quanta = 0 then none else some (d.time.now + quantaTicks p (quanta % 65536) d)) ∧
        (mode = 1 → quanta = 0 → ∀ o ∈ (portOf p d).txWait, Sent d t o) ∧
        (mode ≠ 1 → (portOf p t).pausedUntil = (portOf p d).pausedUntil)) ∧
      (∀ prio quanta n, mode = 2 → (portOf p d).pfcUntil.length = 8 → n < 8 → Gives (.pauseReceive p true prio quanta) s fun t =>
        (portOf p t).pfcUntil.getD n none =
          if bit prio n = true ∧ bit (portOd p 0x0C d) n = true then (if quanta = 0 then none else some (d.time.now + quantaTicks p (quanta % 65536) d))
          else (portOf p d).pfcUntil.getD n none))

/-- R412 to R418, R423, R424, R594. That the entry is alone due is stated by `LaunchesAlone`; R417 gives the order of several. -/
def Obligations.BoardLaunches : Prop :=
  ∀ (s : State) (n : Nat) (e : BoardEntry), LaunchesAlone n e s.dev →
    let d := s.dev
    let u := launchedAt n e d
    let acts := fun (c : Instr) (action : Nat) (P : Device → Prop) => e.action = action → Leads (afterLaunch n) c s P
    (u.time.counter = e.launch ∧ (boardEntry n u).late = false ∧ (boardEntry n u).launches = min (e.launches + 1) 16777215 ∧
      (e.period = 0 → (boardEntry n u).state = 2) ∧ (e.period ≠ 0 → (boardEntry n u).state = 1) ∧
      odVal 0x2C00 2 u = min (odVal 0x2C00 2 d + 1) (odMax 0x2C00 2)) ∧
    acts (.commitGroup n) 0x01 (fun v => v = commitGroup e.launch (bucketGroup e.launch u)) ∧
    acts (.powerFailCommit n) 0x02 (fun v => v = powerFailCommit e.launch u) ∧
    acts (.snapshotCut n) 0x03 (fun v => v.snap.snaps = d.snap.snaps.map fun y =>
      if y.num = e.arg % 4096 ∧ y.st = 1 then { y with launched := true } else y) ∧
    (e.action = 0x06 → e.arg % 65536 ≠ 7 → Gives (.freeze n) s fun t =>
      t.power.run = .halted ∧ t.board.frozen = true ∧ t.peer.link = 0 ∧ Logged 0x1405 0x0073 3 (e.arg % 65536) t) ∧
    acts (.timeStep n) 0x07 (fun v => v.time.counter = e.launch + e.arg) ∧
    acts (.eventMark n) 0x10 (fun v => Logged 0x0D06 e.unit 0 e.arg v) ∧
    acts (.tollWindow n) 0x0A (fun v => tblGet? v.media.scales (e.unit % 16) =
      if bit e.arg 8 = true then none else some (e.arg % 256)) ∧
    (∀ f, e.unit = 0x0080 + f → f < 6 → f < d.fans.length → acts (.fanRamp n) 0x0B fun v =>
      odVal 0x2E30 (f + 1) v = bits e.arg 15 0 ∧
        (v.fans[f]?).bind (·.ramp) = some ⟨floorNow f u, bits e.arg 15 0, u.time.now, ms (bits e.arg 31 16)⟩)

/-- R187, R234, R265, R266, R367, R419, R422, R434, R438, R450, R542. -/
def Obligations.BoardActions : Prop :=
  ∀ (s : State) (n : Nat),
    let d := s.dev
    (∀ e, LaunchesAlone n e d →
      let u := launchedAt n e d
      let g := e.unit % 16
      let mask := bits e.arg 15 8
      let side := e.arg % 2
      (e.action = 0x04 → Leads (fun v => afterLaunch n (refreshDirty (if side = d.side then v else leaveOps g mask (leaveRings g mask v)))) (.channelHandover n) s fun v =>
        (∃ h ∈ v.peer.handovers, h.group = g ∧ h.mask = mask ∧ h.newSide = side ∧ h.entry = n) ∧
          ∀ k, k < 8 → g < d.peer.owners.length → bit mask k = true → bit (v.peer.owners.getD g 0) k = (side == 1)) ∧
      (e.action = 0x05 → b2n (bit e.arg 16) = d.side → Leads (fun v => afterLaunch n (endReturn (setHome (e.arg % 4096) d.side v))) (.bucketMove n) s fun v =>
        ∃ m ∈ v.peer.moves, m.bucket = e.arg % 4096 ∧ m.launched = true) ∧
      (∀ probe, e.action = 0x08 → (profileOf g d).isSome → domainOn g d = false → domainFaulty g d = false →
        Leads (fun v => probeGroup g probe (afterLaunch n v)) (.groupPowerUp n probe) s fun v => domainOn g v = true ∧ g ∈ v.media.probing) ∧
      (e.action = 0x09 → Leads (fun v => afterLaunch n (refreshDirty v)) (.groupPowerDown n) s fun v =>
        domainOn g v = false ∧ g ∉ v.media.probing) ∧
      (e.action = 0x0C → Leads (afterLaunch n) (.gearActivate n) s fun v => (∀ b, b < 256 → odSel 0x2610 2 b v = odSel 0x2610 2 (256 + b) d) ∧
        Logged 0x0702 0x0042 0 (odVal 0x2600 6 v) v) ∧
      (e.action = 0x0D → Leads (afterLaunch n) (.policyGroup n) s fun v => v = applyPolicyGroup e.arg u ∧
        Logged 0x0803 0x0020 0 (bits e.arg 11 8 * 2 ^ 36 + bits e.arg 3 0 * 2 ^ 32 + odVal 0x2B00 8 v % 2 ^ 32) v) ∧
      (e.action = 0x0E → Leads (afterLaunch n) (.slotRetire n) s fun v =>
        (slotOf (e.arg % 4096) d).st = .active → slotOf (e.arg % 4096) v = { slotOf (e.arg % 4096) d with st := .decryptOnly }) ∧
      (e.action = 0x0F → Leads (afterLaunch n) (.tenantErase n) s fun v => v = tenantErase (e.arg % 65536) u)) ∧
    (∀ r, d.board.reports.find? (·.1 == n) = some r → linkIsUp d = true → (∀ h ∈ d.peer.handovers, h.entry ≠ n) →
      Gives (.pairedLaunchMismatch n) s fun t => r.2.2 + us 10 ≤ t.time.now ∧ (boardEntry n t).mismatch = true ∧
        Logged 0x0D05 0x0051 2 (n * 2 ^ 32 + r.2.1 % 2 ^ 32) t) ∧
    (∀ p, d.board.placing.find? (·.entry == n) = some p →
      Leads (fun v => placeWaiting (placeAgain p.body p.who (sendLink (.cancel n) v))) (.pairedPlacementDeadline n) s fun v =>
        p.body.launch - 1600 ≤ v.time.counter ∧ ∀ q ∈ v.board.placing, q.entry ≠ n)

/-- R421, R422, R440 to R443, R453 to R457. -/
def Obligations.LinkFrames : Prop :=
  ∀ (s : State) (h : FrameHdr),
    let d := s.dev
    (∀ cls c, linkPhysical d = true → frameOk h cls d = false → (c = .ack h cls ∨ cls = 0 ∧ (∃ m, c = .hello h m) ∨
        cls = 0 ∧ (∃ m, c = .heartbeat h m) ∨ cls = 0 ∧ (∃ n b, c = .place h n b)) →
      exec c s = .next { s with dev := odBump 0x2D00 0x03 1 d }) ∧
    (∀ cls, FrameTaken h cls d → cls < d.peer.classes.length → d.peer.waiting = [] → Gives (.ack h cls) s fun t =>
      (linkClass cls t).credit = h.credit ∧ (linkClass cls t).acked = max (linkClass cls d).acked h.ack ∧
        t.peer.unacked = d.peer.unacked.filter fun f => !(f.cls == cls && f.seq ≤ h.ack)) ∧
    (∀ cls f, linkPhysical d = true → d.peer.unacked.find? (·.cls == cls) = some f → Gives (.frameRetransmitTimer cls) s fun t =>
      f.sentAt + us 20 ≤ t.time.now ∧ (∀ g ∈ d.peer.unacked, g.cls = cls → Sent d t (.link cls g.msg)) ∧
        t.peer.unacked = d.peer.unacked.map fun g => if g.cls == cls then { g with sentAt := t.time.now } else g) ∧
    (∀ cls due, linkPhysical d = true → (linkClass cls d).ackDue = some due → Gives (.ackTimer cls) s fun t =>
      due + us 2 ≤ t.time.now ∧ Sent d t (.link cls .ack) ∧ (linkClass cls t).ackDue = none) ∧
    (∀ m, FrameTaken h 0 d → d.peer.st ≠ 6 → d.peer.st ≠ 7 → d.peer.fenceOut = false → d.peer.takeover = none →
      (helloCheck m d = 0 → isReady d = true → d.peer.met = false → pairIdentity d ≠ 0 →
        Leads (fun v => settle (refreshPeer v)) (.hello h m) s fun v =>
          ∃ w, v = meetServing m w ∧ w.peer.peerRevision = m.revision ∧ w.peer.helloSeen = true ∧ w.time = d.time ∧ w.nvme = d.nvme) ∧
      (helloCheck m d = 1 ∨ helloCheck m d ≠ 0 ∧ serving d = false → Gives (.hello h m) s fun t =>
        t.peer.st = 7 ∧ t.peer.driven = 0 ∧ Logged 0x0E0A 0x0060 2 (helloCheck m d) t) ∧
      (1 < helloCheck m d → serving d = true → m.serving = false → Gives (.hello h m) s fun t =>
        t.peer.fenceOut = true ∧ t.peer.st = 5 ∧ Logged 0x0E04 0x0060 2 4 t)) ∧
    (∀ m, FrameTaken h 0 d → d.peer.helloDone = true →
      Leads (fun v => proceed (settle (refreshDirty (settleReleased (refreshTimeLock
          (if d.peer.treatedDown && !v.peer.treatedDown && v.peer.met && v.peer.st == 2 then linkReturned v else refreshPeer v)))))) (.heartbeat h m) s fun v =>
        v.peer.lastHeartbeat = d.time.now ∧ v.peer.peerAnnounced = m.peerState ∧ v.peer.peerRoom = m.room ∧ v.peer.peerDurable = m.durableSeq ∧
          v.time.peerState = m.timeState ∧ v.time.peerRank = m.rank) ∧
    (∀ tick pattern, FrameTaken h 0 d → h.echo = false → Gives (.loopback h tick pattern) s fun t => LinkSent d t (.loopback tick pattern true)) ∧
    (∀ n body, FrameTaken h 0 d → Gives (.place h n body) s fun t =>
      boardEntry n t = armedEntry { body with paired := true } ∧ LinkSent d t (.armed n)) ∧
    (∀ n p, FrameTaken h 0 d → d.board.placing.find? (·.entry == n) = some p →
      (d.time.counter < p.body.launch - 1600 → Leads (placementDone p.who n) (.armed h n) s fun v =>
        boardEntry n v = p.body ∧ ∀ q ∈ v.board.placing, q.entry ≠ n) ∧
      (p.body.launch - 1600 ≤ d.time.counter → Leads (fun v => placeWaiting (placeAgain p.body p.who v)) (.armed h n) s fun v =>
        LinkSent d v (.cancel n) ∧ ∀ q ∈ v.board.placing, q.entry ≠ n)) ∧
    (∀ n, FrameTaken h 0 d → (boardEntry n d).state = 1 → Gives (.cancel h n) s fun t => boardEntry n t = { boardEntry n d with state := 3 }) ∧
    (∀ n tick, FrameTaken h 0 d →
      ((∃ r ∈ d.board.reports, r.1 = n ∧ r.2.1 = tick) → Gives (.launchReport h n tick) s fun t =>
        t.board.reports = d.board.reports.filter fun r => !(r.1 == n && r.2.1 == tick)) ∧
      ((∀ r ∈ d.board.reports, ¬ (r.1 = n ∧ r.2.1 = tick)) → Gives (.launchReport h n tick) s fun t => (n, tick) ∈ t.board.early))

/-- R430 to R437, R440, R453. -/
def Obligations.PeerLiveness : Prop :=
  ∀ (s : State),
    let d := s.dev
    let fenced := fun (cause due : Nat) (t : Device) => t.peer.fenceOut = true ∧ t.peer.st = 5 ∧ t.peer.fenceAt = t.time.now ∧ due ≤ t.time.now ∧
      Logged 0x0E04 0x0060 2 cause t
    (aliveAllowed d = true → Gives .peerAliveToggle s fun t => t.peer.aliveOut = !d.peer.aliveOut ∧ d.peer.lastToggle + us 50 ≤ t.time.now ∧
      t.peer.lastToggle = t.time.now ∧ t.peer.watchdogAt = t.time.now) ∧
    (isUp d = true →
      (d.peer.aliveIn = true → Gives .peerAliveAsserted s fun t => t = { d with peer := { d.peer with aliveLast := d.time.now } }) ∧
      (d.peer.aliveIn = false → Leads refreshPeer .peerAliveAsserted s fun v => v.peer.aliveIn = true ∧ v.peer.aliveLast = d.time.now ∧
        Logged 0x0E02 0x0060 1 1 v) ∧
      (d.peer.aliveIn = true → Leads refreshPeer .peerAliveLost s fun v => v.peer.aliveIn = false ∧ d.peer.aliveLast + 800000 ≤ v.time.now ∧
        v.peer.lostAt = some v.time.now ∧ Logged 0x0E02 0x0060 1 0 v)) ∧
    (Gives .livenessWatchdogExpiry s fun t => t.peer.aliveOut = false ∧ d.peer.watchdogAt + ms 1 ≤ t.time.now) ∧
    (∀ lanes, isUp d = true → domainOn 23 d = true → domainFaulty 23 d = false → linkPhysical d = false →
      Leads startShake (.linkUp lanes) s fun v => v.peer.link = (if lanes = 8 then 2 else 3) ∧ v.peer.unacked = [] ∧ v.peer.waiting = [] ∧
        v.peer.helloDone = false ∧ v.sec.linkKey = none ∧ v.power.sdclk = true ∧ Logged 0x0E01 0x0060 1 v.peer.link v) ∧
    (d.peer.link ≠ 0 → Leads refreshPeer .linkDown s fun v => v.peer.link = 0 ∧ v.peer.unacked = [] ∧ v.peer.waiting = [] ∧
      v.peer.helloDone = false ∧ v.sec.linkKey = none ∧ Logged 0x0E01 0x0060 1 0 v) ∧
    (∀ due, d.peer.waitUntil = some due → d.power.run = .starting → d.power.stage = 6 → d.peer.met = false → d.peer.st = 0 → d.peer.fenceOut = false →
      (d.peer.aliveIn = false → Gives .peerWaitExpiry s (fenced 3 (max due (d.peer.lostAt.getD 0) + if d.side = 0 then 0 else sec 2))) ∧
      (d.peer.aliveIn = true → d.time.now < due → Gives .peerWaitExpiry s fun t => due ≤ t.time.now ∧ Logged 0x0E01 0x0060 1 d.peer.link t)) ∧
    (∀ due, d.peer.fenceDue = some due → d.peer.st = 3 ∨ d.peer.st = 0 → d.peer.fenceOut = false → Gives .surviveFenceDelay s (fenced 1 due)) ∧
    (d.peer.st = 3 → d.peer.arbState = 1 → d.peer.fenceDue = none → d.peer.fenceOut = false →
      Gives .arbiterTimeout s fun t => fenced 2 (d.peer.state3At + if d.side = 0 then sec 1 else sec 3) t ∧ t.peer.arbState = 3) ∧
    (d.power.run ≠ .unpowered → d.power.run ≠ .reset → Gives .fenceInAssert s fun t => t.power.run = .reset ∧ t.peer.fenceInN = false ∧
      t.peer.link = 0 ∧ t.nvme.cmds = []) ∧
    (∀ straps, d.peer.fenceInN = false → d.power.run = .reset → d.power.porst = false → d.power.refclk = true → d.power.hot = false →
      Gives (.fenceInRelease straps) s fun t => t.power.run = .waitCore ∧ t.power.coreEn = true ∧ t.peer.fenceInN = true ∧ t.side = b2n (bit straps 0) ∧
        t.nodeId = bits straps 7 1 ∧ odVal 0x2200 1 t = 1) ∧
    (∀ keys chunks stripes blocks trained x, d.peer.takeover = some x → x.begun = false → isReady d = true → d.peer.driven = 2 ^ 128 - 1 → hasSecrets d = true →
      Leads (adoptPeer keys chunks stripes blocks) (.takeover keys chunks stripes blocks trained) s fun v =>
        v.peer.takeover = some ⟨x.since, true⟩ ∧ x.since + 80 ≤ v.time.now ∧ v.kv = d.kv ∧ v.map = d.map) ∧
    (∀ x, d.peer.takeover = some x → x.begun = true → isReady d = true →
      Leads (fun v => settle (endForwarded (adoptSessions (refreshDirty (persist v))))) .takeoverComplete s fun v =>
        bit v.conditions 7 = true ∧ Logged 0x0E05 0x0060 1 (((becomeAll d).time.now - x.since) / Config.ticksPerMs) v)

/-- R24, R434, R438, R439, R457. -/
def Obligations.ChannelHandovers : Prop :=
  ∀ (s : State),
    let d := s.dev
    (∀ g n side, d.side = 0 → pairUp d = true → isReady d = true → noServingPeer d = false → side < 2 →
      (List.range 16).find? (fun g => d.peer.owners.getD g 0 != odVal 0x2D18 (g + 1) d) = some g → handoverBusy g d = false →
      d.peer.owners.getD g 0 = (if side = 0 then 255 else 0) → odVal 0x2D18 (g + 1) d = (if side = 0 then 0 else 255) →
      freeFirmwareEntry d = some n → Gives .handoverPlacement s fun t =>
        ∃ p ∈ t.board.placing, p.entry = n ∧ p.who = .firmware ∧ p.body.action = 0x04 ∧ p.body.unit = 0x0380 + g ∧
          p.body.arg = 255 * 256 + side ∧ p.body.launch = nextHandoverTick d ∧ LinkSent d t (.place n p.body.record)) ∧
    (∀ g h, d.peer.handovers.filter (fun x => x.group == g && x.old && !x.drained) = [h] → linkPhysical d = true →
      (∀ o ∈ d.media.ops, o.started = true → inHandover h o.desc.channel = false) →
      Gives (.handoverDrained g) s fun t => { h with drained := true } ∈ t.peer.handovers ∧
        LinkSent d t (.handoverState h.group h.mask ((d.map.blocks.filter fun b => inHandover h b.channel).map blockRecord))) ∧
    (∀ g h, d.peer.handovers.filter (fun x => x.group == g && x.old && x.drained && x.released.isNone) = [h] → linkIsUp d = true →
      (∀ f ∈ d.peer.unacked, ∀ blocks, f.msg ≠ .handoverState h.group h.mask blocks) → (∀ r ∈ d.board.reports, r.1 ≠ h.entry) →
      Gives (.handoverRelease g) s fun t => t.time.counter = d.time.counter + 64 ∧ LinkSent d t (.released h.group h.mask t.time.counter) ∧
        (∀ k, k < 8 → bit h.mask k = true → bit t.peer.driven (8 * h.group + k) = false) ∧
        t.map.blocks = d.map.blocks.filter fun b => !inHandover h b.channel) ∧
    (∀ g trained h, d.peer.handovers.filter (fun x => x.group == g && !x.old && x.released.isSome) = [h] →
      Leads refreshDirty (.handoverTakeChannel g trained) s (Logged 0x0E06 0x0060 0 (h.group * 256 + h.mask)) ∧
      Leads (fun v => refreshDirty (logEvent 0x0E06 0x0060 0 (h.group * 256 + h.mask)
          ((List.range 8).foldl (fun v n => if bit h.mask n then trainChannel (8 * g + n) (bit trained n) v else v) v))) (.handoverTakeChannel g trained) s fun v =>
        h.tick + 64 ≤ v.time.counter ∧ h ∉ v.peer.handovers ∧ ∀ k, k < 8 → bit h.mask k = true → bit v.peer.driven (8 * h.group + k) = true) ∧
    (∀ hdr g mask r rs, FrameTaken hdr 3 d → (∃ x ∈ d.peer.handovers, x.group = g ∧ x.mask = mask ∧ x.old = false) →
      Leads (fun v => rs.foldl takeBlock v) (.handoverState hdr g mask (r :: rs)) s fun v =>
        ∃ b ∈ v.map.blocks, isBlock r.addr b = true ∧ b.st = r.st ∧ b.stream = r.stream ∧ b.next = r.next ∧ b.erases = r.erases ∧
          b.writeMin = r.writeMin ∧ b.barrier = r.barrier ∧ b.writeSeq = r.writeSeq) ∧
    (∀ hdr g mask tick, FrameTaken hdr 0 d → Gives (.released hdr g mask tick) s fun t => t.peer.handovers = d.peer.handovers.map fun x =>
      if x.group == g && x.mask == mask && !x.old && x.released.isNone then { x with released := some d.time.now, tick := tick } else x) ∧
    (∀ hdr n g mask x, FrameTaken hdr 0 d → g < d.peer.owners.length → x.newSide < 2 →
      d.peer.handovers.filter (fun x => x.group == g && x.mask == mask && x.entry == n && x.released.isNone) = [x] →
      Leads refreshDirty (.handoverAbort hdr n g mask) s fun v => x ∉ v.peer.handovers ∧ Logged 0x0E06 0x0060 0 (65536 + x.group * 256 + x.mask) v ∧
        ∀ k, k < 8 → bit mask k = true → bit (v.peer.owners.getD g 0) k = (x.newSide == 0))

/-- R25, R326, R447 to R451, R457. -/
def Obligations.BucketMoves : Prop :=
  ∀ (s : State),
    let d := s.dev
    (Gives .rebalanceWindow s fun t => t.time.counter = (d.time.counter / 8000000000 + 1) * 8000000000 ∧ t.peer.windowTotal = 0 ∧
      t.peer.bucketCounts = [] ∧ t.peer.lastTotal = d.peer.windowTotal ∧
      ((d.peer.windowTotal + d.peer.peerTotal) * 60 < d.peer.windowTotal * 100 →
        Logged 0x0E07 0x0060 1 (d.peer.windowTotal * 100 / (d.peer.windowTotal + d.peer.peerTotal)) t)) ∧
    (∀ b m, pairUp d = true → d.peer.moves.find? (fun m => m.bucket == b && m.old && m.drained.isNone) = some m →
      (m.unsent ≠ [] → Gives (.bucketRecordsStream b) s fun t => LinkSent d t (.bucketRecords b (m.unsent.map fun k => movedKey k d))) ∧
      (m.unsent = [] → m.launched = true → bucketInUse b d = false → recordsOwed b d = false → Gives (.bucketRecordsStream b) s fun t =>
        let g := boundaryFrom (d.time.counter + 1) d
        LinkSent d t (.drainDone b g) ∧ { m with drained := some g } ∈ t.peer.moves)) ∧
    (∀ h b records, FrameTaken h 3 d → Gives (.bucketRecords h b records) s fun t =>
      (∃ m ∈ t.peer.moves, m.bucket = b ∧ m.old = false) ∧ ∀ m ∈ t.peer.moves, m.bucket = b → ∀ r ∈ records, r ∈ m.received) ∧
    (∀ h b g, FrameTaken h 0 d → Gives (.drainDone h b g) s fun t => t.peer.moves = d.peer.moves.map fun m =>
      if m.bucket = b ∧ m.old = false then { m with drained := some g } else m) ∧
    (∀ h e es, FrameTaken h 3 d → copyOf e.domain e.fp e.num d = none →
      Leads (fun v => takeEntries es (((copyOf e.domain e.fp e.num v).map fun c => recordCopy c v).getD v)) (.fpEntries h (e :: es)) s fun v =>
        ∃ c, copyOf e.domain e.fp e.num v = some c ∧ c.refs = e.refs ∧ c.present = e.present ∧ c.pinned = e.pinned ∧ c.dead = e.dead ∧
          c.plain = e.plain ∧ c.extents = e.extents ∧ c.slot = e.slot)

/-- R150 to R152, R292, R340 to R343, R452, R453, R457. -/
def Obligations.ForwardFrames : Prop :=
  ∀ (s : State) (h : FrameHdr),
    let d := s.dev
    (FrameTaken h 2 d →
      (∀ m : FwdCmdMsg, (m.q.qid ≠ 0 ∨ m.q.port ≠ 255) → (∀ c ∈ d.nvme.cmds, c.fwdFrom ≠ some m.fwd) → Leads settle (.fwdCmd h m) s fun v =>
        v.nvme.nextCmd = d.nvme.nextCmd + 1 ∧ ∃ c ∈ v.nvme.cmds, c.id = d.nvme.nextCmd ∧ c.fwdFrom = some m.fwd ∧ c.q = m.q ∧ c.seq = m.seq ∧ c.cls = m.cls ∧
          c.sqe = (plainCapsule m.c).sqe ∧ c.data = (plainCapsule m.c).data ∧ c.phase = .waitOrder) ∧
      (∀ m : FwdCmdMsg, m.q.qid = 0 → m.q.port = 255 → m.c.sqe.opcode ∉ [0xC4, 0x14, 0x84] → Gives (.fwdCmd h m) s fun t =>
        LinkSent d t (.fwdCompletion m.fwd 0 1 false 0 0 0)) ∧
      (∀ f off data c, ownId f d = true → sentCmd f d = some c → Gives (.fwdData h f off data) s fun t =>
        t.nvme.cmds = d.nvme.cmds.map fun x => if x.id = c.id then { x with got := overlay (padTo (max x.got.length (off + data.length)) x.got) off data } else x) ∧
      (∀ f off data c, ownId f d = false → d.nvme.cmds.find? (·.fwdFrom == some f) = some c → isRange c.sqe = false →
        Leads settle (.fwdData h f off data) s fun v => let o := blockBytes c.sqe + off
          v.nvme.cmds = d.nvme.cmds.map fun x => if x.id = c.id then { x with data := overlay (padTo (max x.data.length (o + data.length)) x.data) o data } else x) ∧
      (∀ f off data c, ownId f d = false → d.nvme.cmds.find? (·.fwdFrom == some f) = some c → isRange c.sqe = true → c.phase = .forwarded →
        Leads settle (.fwdData h f off data) s fun v => ∀ x ∈ v.nvme.cmds, x.id = c.id → x.phase = .waitMirror ∧ x.items.map (·.key) = keysOfList data) ∧
      (∀ m c, ownId m.fwd d = true → sentCmd m.fwd d = some c → c.parent = none → isSecure c.sqe = false → c.slot = none →
        Leads (fun v => settle (doneCmd c.id ⟨m.sct, m.sc, m.dnr⟩ m.dw0 m.dw1 c.got v)) (.fwdCompletion h m) s fun v =>
          v.nvme.cmds = d.nvme.cmds.map fun x => if x.id = c.id then { x with fwdTo := none } else x) ∧
      (∀ m c p, ownId m.fwd d = true → sentCmd m.fwd d = some c → c.parent = some p.id → cmdOf p.id d = some p →
        Leads (fun v => settle (partDone c p m v)) (.fwdCompletion h m) s fun v => v.nvme = d.nvme) ∧
      (∀ m c, ownId m.fwd d = false → d.nvme.cmds.find? (·.fwdFrom == some m.fwd) = some c → isShare c = true → m.sct = 0 → m.sc = 0 →
        Leads settle (.fwdCompletion h m) s fun v => v.nvme.cmds = d.nvme.cmds.map fun x =>
          if x.id = c.id then { x with tick := some (m.dw0 + m.dw1 * 2 ^ 32) } else x) ∧
      (∀ f ids, ids ≠ [] →
        (d.nvme.locks.length + ids.length ≤ Config.lockEntries → Gives (.lockReserve h f ids) s fun t =>
          LinkSent d t (.lockReply f 0) ∧ t.nvme.locks = d.nvme.locks ++ ids.map (lockOf f)) ∧
        (Config.lockEntries < d.nvme.locks.length + ids.length → Gives (.lockReserve h f ids) s fun t =>
          LinkSent d t (.lockReply f 1) ∧ t.nvme.locks = d.nvme.locks)) ∧
      (∀ f, Gives (.lockReserve h f []) s fun t => t.nvme.locks = d.nvme.locks.filter fun l => !(l.fwd == some f && l.cmd == 0)) ∧
      (∀ f, (Gives (.lockReply h f false) s fun t => t.nvme.remoteLocks = d.nvme.remoteLocks.map fun x => if x.2.1 = f then (x.1, f, true) else x) ∧
        (Gives (.lockReply h f true) s fun t => t.nvme.remoteLocks = d.nvme.remoteLocks.filter fun x => x.2.1 != f))) ∧
    (FrameTaken h 1 d →
      (∀ w r, Leads (fun v => settle (ioActivity (adoptOwn ((ownOffers v).filter fun x => x != w || heldWhole w v) v))) (.mirrorData h w r) s fun v =>
        v.peer.held = d.peer.held ++ [⟨w, r⟩] ∧ LinkSent d v (.mirrorAck w ((v.peer.held.filter (·.write == w)).length))) ∧
      (∀ w n m, d.peer.mirrors.find? (·.id == w) = some m → let a := max m.acked (min n m.records)
        Leads (fun v => settle ((m.copies.take (a - 1)).foldl (fun v x => markPresent x.1 x.2.1 x.2.2 v) v)) (.mirrorAck h w n) s fun v =>
          v.peer.mirrors = (d.peer.mirrors.map fun m => if m.id = w then { m with acked := max m.acked (min n m.records) } else m) ∧
            (d.peer.returning = 1 → a = m.records → v.peer.returning = 2)) ∧
      (∀ ws, Gives (.mirrorRelease h ws) s fun t => t.peer.held = d.peer.held.filter fun r => !ws.contains r.write) ∧
      (∀ p : JournalPageMsg, Leads (fun v => ioActivity (settleCreates v)) (.journalPage h p) s fun v => LinkSent d v (.journalAck p.seq)) ∧
      (∀ p : JournalPageMsg, (∀ m ∈ d.stripe.mirror, m.page.seq ≠ p.seq) →
        Leads (fun v => ioActivity (settleCreates (sendLink (.journalAck p.seq) (p.records.foldl mirrorRecord v)))) (.journalPage h p) s fun v =>
          ∃ m ∈ v.stripe.mirror, m.page.seq = p.seq ∧ m.page.tick = p.tick ∧ m.page.tail = p.tail ∧ m.page.records = p.records) ∧
      (∀ n, Leads refreshDurable (.journalAck h n) s fun v =>
        v.stripe.pages = d.stripe.pages.map fun p => if p.seq ≤ n then { p with mirrored := true } else p) ∧
      (∀ first last, Gives (.journalResend h first last) s fun t => ∀ p ∈ d.stripe.pages, first ≤ p.seq → p.seq ≤ last → LinkSent d t (.journalPage p.msg)))

/-- R193, R196, R198, R203 to R205, R207, R328, R329, R457. -/
def Obligations.ChunkFrames : Prop :=
  ∀ (s : State) (h : FrameHdr),
    let d := s.dev
    (FrameTaken h 2 d →
      (∀ req dom fp, (∀ c, matchableCopy dom fp d = some c → copyOf dom fp c.num d = some c → c.refs + 1 ≠ refMax → Gives (.fpRequestClaim h req dom fp) s fun t =>
          (∃ es, LinkSent d t (.fpReply req 1 c.present c.num es)) ∧
            copyOf dom fp c.num t = some { c with refs := c.refs + 1, claimants := c.claimants ++ [(false, req)] }) ∧
        (matchableCopy dom fp d = none → Gives (.fpRequestClaim h req dom fp) s fun t => let n := lowestCopy dom fp d
          (∃ es, LinkSent d t (.fpReply req 2 false n es)) ∧ { newCopy dom fp n with claimants := [(false, req)] } ∈ t.kv.copies)) ∧
      (∀ req dom fp num,
        (Leads settle (.fpRequestClaimRelease h req dom fp num) s fun v => LinkSent d v (.fpReply req 3 false num [])) ∧
        (Gives (.fpRequestDecrement h req dom fp num) s fun t => LinkSent d t (.fpReply req 3 false num [])) ∧
        (∀ c, copyOf dom fp num d = some c → c.pinned = false → c.dead = false → 2 ≤ c.refs →
          Leads (fun v => sendLink (.fpReply req 3 false num []) (touchMap 3 (chunkKey dom fp num) (recordCopy { c with refs := c.refs - 1 } v)))
            (.fpRequestDecrement h req dom fp num) s fun v => copyOf dom fp num v = some { c with refs := c.refs - 1 }) ∧
        (∀ c, copyOf dom fp num d = some c → Gives (.fpRequestLocate h req dom fp num) s fun t => LinkSent d t (.fpReply req 1 c.present num c.extents)) ∧
        (copyOf dom fp num d = none → Gives (.fpRequestLocate h req dom fp num) s fun t => LinkSent d t (.fpReply req 3 false num [])) ∧
        (Gives (.invalidate h dom num fp) s fun t => (dom, fp, num) ∉ t.kv.located ∧
          if beingRead dom fp num d = true then (dom, fp, num) ∈ t.kv.owedAcks else LinkSent d t (.invalidateAck dom num fp)) ∧
        (d.stripe.relocs.find? (fun r => r.asked && r.domain == dom && r.fp == fp && r.num == num) = none → Gives (.invalidateAck h dom num fp) s fun t =>
          (t.kv.invalidating = d.kv.invalidating.filter fun i => i.2 != (dom, fp, num)) ∧ ∀ b ∈ t.map.blocks, (dom, fp, num) ∉ b.awaiting) ∧
        (∀ r, d.stripe.relocs.find? (fun r => r.asked && r.domain == dom && r.fp == fp && r.num == num) = some r →
          Leads (landReloc r) (.invalidateAck h dom num fp) s fun v =>
            (v.kv.invalidating = d.kv.invalidating.filter fun i => i.2 != (dom, fp, num)) ∧ ∀ b ∈ v.map.blocks, (dom, fp, num) ∉ b.awaiting)) ∧
      (∀ req m, Leads settle (.fpRequestPresent h req m) s fun v => LinkSent d v (.fpReply req 3 false m.copy []) ∧
        ∀ c, copyOf m.domain m.fp m.copy d = some c → ∃ c', copyOf m.domain m.fp m.copy v = some c' ∧ c'.present = true) ∧
      (∀ m r, d.peer.reqs.find? (·.id == m.req) = some r →
        (∀ cmd item chunk, r.what = .claim cmd item chunk → Leads (claimReplied r cmd item chunk m) (.fpReply h m) s fun v => v.kv = d.kv ∧ v.nvme = d.nvme) ∧
        (∀ cmd dom fp num, r.what = .locate cmd dom fp num → Leads (fun v => settle (located r cmd dom fp num m v)) (.fpReply h m) s fun v =>
          v.kv = d.kv ∧ v.nvme = d.nvme) ∧
        (r.what = .release ∨ r.what = .decrement ∨ r.what = .present → Gives (.fpReply h m) s fun t => t.peer.reqs = d.peer.reqs.filter (·.id != r.id))) ∧
      (∀ req m prio,
        (ownsChannel m.channel d = false → Gives (.unitRead h req m prio) s fun t => LinkSent d t (.unitData req 2 0 [])) ∧
        (ownsChannel m.channel d = true → Leads (tryStart d.media.nextOp) (.unitRead h req m prio) s fun v =>
          ∃ o ∈ v.media.ops, o.id = d.media.nextOp ∧ o.req = some req ∧ o.desc = m ∧
            o.kind = if prio = 0 then .hostRead else if prio = 1 then .rebuildRead else .gcRead)) ∧
      (∀ req stripe m reason,
        (stripeOf stripe d = none → Gives (.moveRequest h req stripe m reason) s fun t => LinkSent d t (.requestDone req 1)) ∧
        (∀ x i, stripeOf stripe d = some x → (List.range x.members.length).find? (fun i => (x.members[i]?).any (·.desc == m)) = some i →
          Leads (startMove stripe i reason true (some req)) (.moveRequest h req stripe m reason) s fun v => v.stripe = d.stripe ∧ v.map = d.map)) ∧
      (∀ req m barrier,
        (blockOf m d = none → Gives (.eraseRequest h req m barrier) s fun t => LinkSent d t (.requestDone req 1)) ∧
        (∀ b, blockOf m d = some b →
          (b.st = 4 ∨ b.st = 5 → Gives (.eraseRequest h req m barrier) s fun t => LinkSent d t (.requestDone req 2)) ∧
          (b.st = 0 → Gives (.eraseRequest h req m barrier) s fun t => LinkSent d t (.requestDone req 0)) ∧
          (b.st ≠ 0 → b.st ≠ 4 → b.st ≠ 5 → Leads (fun v => maybeState3 m (emptyBlock m 2 v)) (.eraseRequest h req m barrier) s fun v =>
            (req, .erase m barrier) ∈ v.peer.peerReqs ∧ blockOf m v = some { b with barrier := max b.barrier barrier }))) ∧
      (∀ req result r, d.peer.reqs.find? (·.id == req) = some r →
        (∀ slot m, r.what = .erase slot m → Leads (erasureAnswered slot m result) (.requestDone h req result) s fun v =>
          v.peer.reqs = d.peer.reqs.filter (·.id != req) ∧ v.map.eraseRequests = d.map.eraseRequests.filter (·.1 != req)) ∧
        ((∀ slot m, r.what ≠ .erase slot m) → Gives (.requestDone h req result) s fun t => t.peer.reqs = d.peer.reqs.filter (·.id != req) ∧
          t.map.moveRequests = d.map.moveRequests.filter (·.1 != req)))) ∧
    (FrameTaken h 3 d → ∀ req status off data r cmd stripe unit, d.peer.reqs.find? (·.id == req) = some r → r.what = .unit (some cmd) stripe unit →
      ∀ c f, cmdOf cmd d = some c → d.kv.fetches.find? (·.cmd == cmd) = some f → stripeOf stripe d = none →
        let part := overlay (padTo (max f.part.length (off + data.length)) f.part) off data
        (status = 0 → part.length < peerUnit stripe d → Leads settle (.unitData h req status off data) s fun v => { f with part := part } ∈ v.kv.fetches) ∧
        (status = 0 → peerUnit stripe d ≤ part.length → Leads (fun v => settle (readOn (readFuel c) c.id v)) (.unitData h req status off data) s fun v =>
          { f with part := [], units := f.units ++ [((stripe, unit), part.take (peerUnit stripe d))] } ∈ v.kv.fetches ∧ ∀ x ∈ v.peer.reqs, x.id ≠ r.id) ∧
        (status ≠ 0 → Leads (fun v => settle (readOn (readFuel c) cmd v)) (.unitData h req status off data) s fun v =>
          { f with part := [], unread := f.unread ++ [(stripe, unit)] } ∈ v.kv.fetches ∧ ∀ x ∈ v.peer.reqs, x.id ≠ r.id))

/-- R76, R187, R188, R190, R259, R457, R526 to R529, R532, R533. -/
def Obligations.TablesAndKeys : Prop :=
  ∀ (s : State) (h : FrameHdr), FrameTaken h 2 s.dev →
    let d := s.dev
    let b := arrived h 2 d
    (∀ idx sub entry value, let sel := if entry = 0xFFFFFFFF then 0 else entry
      (syncRefusal idx sub sel value b = none → Leads (sendLink (.tableAck idx sub entry 0)) (.tableSync h idx sub entry 0 value) s fun v =>
        v = applyEntry idx sub sel value (crossHeld idx sub entry value b)) ∧
      (∀ r, syncRefusal idx sub sel value b = some r → linkPhysical r.2 = true → Gives (.tableSync h idx sub entry 0 value) s fun t =>
        LinkSent r.2 t (.tableAck idx sub entry r.1))) ∧
    (∀ idx sub entry code w, d.dict.held.find? (fun w => w.idx == idx && w.sub == sub && w.sel == entry && w.entry.isNone) = some w →
      (code = 0 → Leads (fun v => answer w.reply idx sub .ok [] 0 0 (applyEntry idx sub (if entry = 0xFFFFFFFF then 0 else entry) w.data v))
        (.tableAck h idx sub entry code) s fun v => v.dict.held = d.dict.held.filter (· != w)) ∧
      (code ≠ 0 → Leads (answer w.reply idx sub (.abort code) [] 0 0) (.tableAck h idx sub entry code) s fun v =>
        v.dict.held = d.dict.held.filter (· != w))) ∧
    (∀ m : OfferMsg,
      let good := ecdsaVerify Config.attestationKey (sha384 (m.identity ++ leBytes 4 Config.peerSerial.toNat)) m.attestation
      (good = true → m.ownerDigest = ownerDigest d → Gives (.offer h m) s fun t => t.sec.shake.offerOk = true ∧ t.sec.shake.peerPub = m.pub ∧
        t.sec.shake.peerIdent = m.identity ∧ LinkSent d t (.secure 0 (.finish (Config.identitySign (shakeDigest t))))) ∧
      (good = false → Leads (fun v => if serving d then assertFence 4 v else beRefused v) (.offer h m) s (Logged 0x1103 0x0072 2 1)) ∧
      (good = true → m.ownerDigest ≠ ownerDigest d → Leads (fun v => if serving d then assertFence 4 v else beRefused v) (.offer h m) s (Logged 0x1103 0x0072 2 3))) ∧
    (∀ sig, d.sec.shake.offerOk = true →
      (ecdsaVerify d.sec.shake.peerIdent (shakeDigest d) sig = true → d.cipher.alarm ≠ 1 → Gives (.finish h sig) s fun t =>
        t.sec.linkKey = some (hkdf384 (ecdh d.sec.shake.draw d.sec.shake.peerPub) (linkSalt d) (ascii "MBT link") 32) ∧ odVal 0x3200 7 t = 1 ∧
          ∃ m, LinkSent d t (.hello m)) ∧
      (ecdsaVerify d.sec.shake.peerIdent (shakeDigest d) sig = false →
        Leads (fun v => if serving d then assertFence 4 v else beRefused v) (.finish h sig) s (Logged 0x1103 0x0072 2 2))) ∧
    (∀ count ok, ok = false ∨ count ≤ d.sec.recvCount ∨ d.sec.linkKey = none → ∀ c x,
      (c = .mapKey h count ok x ∨ c = .hashSecret h count ok x ∨ c = .secureAck h count ok x) → Gives c s fun t => Logged 0x1103 0x0072 2 0 t ∧ t.peer = b.peer ∧ t.kv = d.kv) ∧
    (∀ count, d.sec.recvCount < count → d.sec.linkKey.isSome →
      let acks := fun (t : Device) => t.sec.recvCount = count ∧ LinkSent d t (.secure d.sec.sendCount (.ack count))
      (∀ key, Gives (.mapKey h count true key) s fun t => acks t ∧ t.peer.mapKey = some key ∧ t.peer.wrappedMapKey = some key) ∧
      (∀ secret, Gives (.hashSecret h count true secret) s fun t => acks t ∧ t.kv.hashSecret = secret) ∧
      (∀ dom value, Gives (.salt h count true dom value) s fun t => acks t ∧
        (d.side = 1 ∨ isReady d = false ∨ tblGet? d.kv.salts dom = none → tblGet? t.kv.salts dom = some (padTo 12 value))) ∧
      (∀ gen entries, Gives (.gear h count true gen entries) s fun t => acks t ∧ odVal 0x2600 6 t = gen ∧
        ∀ n v, n < 512 → entries[n]? = some v → odSel 0x2610 2 n t = v % 2 ^ 48) ∧
      (∀ slot tenant keygen key, slot < 4096 → d.cipher.alarm ≠ 0 → Gives (.slotKey h count true slot tenant keygen key) s fun t => acks t ∧
        (slotOf slot t).tenant = tenant ∧ (slotOf slot t).keygen = keygen ∧ (slotOf slot t).stored = some key ∧ (slotOf slot t).freshDue = true) ∧
      (∀ slot tenant keygen key, slot < 4096 → d.cipher.alarm = 0 →
        Leads (fun v => ackSecure count (recordLimit slot v)) (.slotKey h count true slot tenant keygen key) s fun v =>
          (slotOf slot v).tenant = tenant ∧ (slotOf slot v).keygen = keygen ∧ (slotOf slot v).key = some key ∧ (slotOf slot v).stored = some key) ∧
      (∀ acked, Gives (.secureAck h count true acked) s fun t => t.sec.recvCount = count ∧ t.sec.ackedCount = max acked d.sec.ackedCount) ∧
      (∀ n key secret, 1 ≤ n → n ≤ 15 → n ≤ d.sec.owners.length →
        ((ownerOf n d).st = .blank → d.sec.otpWorks = true → Gives (.ownerRecord h count true n key secret) s fun t => acks t ∧ ownerOf n t = ⟨.valid, key, secret⟩) ∧
        ((ownerOf n d).st = .valid → (ownerOf n d).key = key → (ownerOf n d).secret = secret → Gives (.ownerRecord h count true n key secret) s acks) ∧
        ((ownerOf n d).st = .spent → Gives (.ownerRecord h count true n key secret) s fun t =>
          LinkSent d t (.secure d.sec.sendCount (.ownerRecord (ownerBody (0x80 + n) [] []))))))

/-- R128 to R137, R139, R141, R145, R148 to R153. That the command has its turn at once is stated by `KvTurn`. -/
def Obligations.KeyValueCommands : Prop :=
  ∀ (s : State) (q : QueueRef) (c : Capsule),
    let d := s.dev
    let id := d.nvme.nextCmd
    (∀ x, queueOf q d = some x → x.slots.length < x.size → q.qid ≠ 0 →
      ∀ p ∈ ([(.store q c, withOp 0x01 c), (.retrieve q c, withOp 0x02 c), (.list q c, withOp 0x06 c), (.delete q c, withBits [] [1] (withOp 0x10 c)),
          (.secureDelete q c, withBits [1] [] (withOp (if c.sqe.opcode == 0x90 then 0x90 else 0x10) c)), (.exist q c, withOp 0x14 c),
          (.longKeyStore q c, withOp 0x81 c), (.longKeyRetrieve q c, withOp 0x82 c), (.batchStore q c, withOp 0x85 c),
          (.longKeyList q c, withOp 0x86 c), (.longKeyDelete q c, withBits [] [0, 1] (withOp 0x90 c)),
          (.longKeyDeleteRange q c, withBits [0] [] (withOp 0x90 c)), (.longKeyExist q c, withOp 0x94 c)] : List (Instr × Capsule)),
        Leads (fun v => commandFetch (ioActivity v)) p.1 s fun v => queueOf q v = some { x with slots := x.slots ++ [p.2] }) ∧
    (∀ p ∈ ([(.store q c, withOp 0x01 c), (.delete q c, withBits [] [1] (withOp 0x10 c)),
          (.secureDelete q c, withBits [1] [] (withOp (if c.sqe.opcode == 0x90 then 0x90 else 0x10) c)), (.longKeyStore q c, withOp 0x81 c),
          (.batchStore q c, withOp 0x85 c), (.longKeyDelete q c, withBits [] [0, 1] (withOp 0x90 c)),
          (.longKeyDeleteRange q c, withBits [0] [] (withOp 0x90 c))] : List (Instr × Capsule)), KvTurn q p.2 d →
      Leads (fun v => noteStall q (settle v)) p.1 s fun v => v.nvme.nextCmd = id + 1 ∧ v.nvme.locks = locksAt d.side id p.2 d ∧
        ∃ x, v.nvme.cmds = [x] ∧ x.id = id ∧ x.q = q ∧ x.sqe = (plainCapsule p.2).sqe ∧ x.data = (plainCapsule p.2).data ∧ x.phase = .waitOrder ∧ x.fwdTo = none) ∧
    (∀ p ∈ ([(.exist q c, withOp 0x14 c), (.longKeyExist q c, withOp 0x94 c)] : List (Instr × Capsule)), KvTurn q p.2 d →
      let x := fetchedCmd q p.2 d
      lostPage x d = false → lackingPage x d = none →
        Gives p.1 s fun t => Answers q p.2 (if (readVersion x d).isSome then .success else .keyAbsent) 0 0 [] d t) ∧
    (∀ p ∈ ([(.retrieve q c, withOp 0x02 c), (.longKeyRetrieve q c, withOp 0x82 c)] : List (Instr × Capsule)), KvTurn q p.2 d →
      let x := fetchedCmd q p.2 d
      lostPage x d = false → lackingPage x d = none → slotForRetrieve (keySlotFor (x.ns d) (policyOf (x.ns d) (capKey x.capsule) d) d) d = none →
        (readVersion x d = none → Gives p.1 s fun t => Answers q p.2 .keyAbsent 0 0 [] d t) ∧
        (∀ v m, readVersion x d = some v → v.lost = false → manifestOf v.mseq d = some m →
          (m.chunks = [] → Gives p.1 s fun t => Answers q p.2 .success m.size 0 [] d t) ∧
          (∀ ch e, m.chunks = [ch] → cached? m.domain ch.fp ch.copy d = some e →
            Gives p.1 s fun t => Answers q p.2 .success m.size 0 (e.plain.take (min p.2.sqe.cdw10 m.size)) d t))) ∧
    (∀ p ∈ ([(.list q c, withOp 0x06 c), (.longKeyList q c, withOp 0x86 c)] : List (Instr × Capsule)), KvTurn q p.2 d →
      let x := fetchedCmd q p.2 d
      let b := listBuffer x.sqe (listable x.sqe (keysFrom x.sqe.nsid (capKey x.capsule) (isAfter x.sqe) d))
      Gives p.1 s fun t => Answers q p.2 .success b.2.1 (b2n b.2.2) b.1 d t) ∧
    (∀ p ∈ ([(.delete q c, withBits [] [1] (withOp 0x10 c)), (.longKeyDelete q c, withBits [] [0, 1] (withOp 0x90 c))] : List (Instr × Capsule)),
      KvTurn q p.2 d → d.stripe.readOnly = false → let x := fetchedCmd q p.2 d
      ∀ st, deleteRefused (x.ns d) (capKey x.capsule) d = some st → Gives p.1 s fun t => Answers q p.2 (failureStatus (st.sct, st.sc, 0)) 0 0 [] d t) ∧
    (∀ x cap rest, d.nvme.queues = [x] → x.ref = q → x.slots = cap :: rest → stallOf x cap d = none → d.nvme.arb.queue = some q → d.nvme.arb.burst ≠ some 0 →
      Leads (fetchHead q) .commandFetch s fun v => v.nvme.arb.burst = d.nvme.arb.burst.map (· - 1) ∧ v.nvme.queues = [x]) ∧
    (∀ l, d.nvme.locks.find? (fun l => l.st == .waiting && grantable l d.nvme.locks) = some l →
      Leads (fun v => settle (requestLocks l.cmd v)) .lockGrant s fun v =>
        v.nvme.locks = d.nvme.locks.map fun x => if x = l then { l with st := .held } else x) ∧
    (∀ x cap rest, queueOf q d = some x → x.slots = cap :: rest →
      (stallOf x cap d = some .locks → x.lockStalled = false → Leads commandFetch (.lockReservation q) s fun v =>
        odVal 0x2400 3 v = min (odVal 0x2400 3 d + 1) (odMax 0x2400 3) ∧ queueOf q v = some { x with lockStalled := true }) ∧
      (stallOf x cap d = some .remote → reservation q d = none → linkPhysical d = true → Leads commandFetch (.lockReservation q) s fun v =>
        let f := d.side * 2 ^ 63 + d.nvme.nextFwd
        LinkSent d v (.lockReserve f ((remoteLocksOf cap d).map lockIdent)) ∧ reservation q v = some (f, false)))

/-- R255, R259 to R262, R535, R536. -/
def Obligations.Alarms : Prop :=
  ∀ (s : State),
    let d := s.dev
    (∀ sources, let e := enabledSources sources d
      (e ≠ 0 → d.power.run = .ready → d.cipher.alarm ≠ 1 →
        Leads (fun v => raiseEmcy 0x090700 0xFF00 0x0907 (logEvent 0x0907 0x0030 3 (d.sec.sources ||| e) (odBump 0x2800 8 1 (closeSessions (fun _ => true)
          (interruptCmds needsCipher (cancelDescriptors v)))))) (.alarm sources) s fun v =>
          v.cipher.alarm = 1 ∧ v.sec.linkKey = none ∧ v.peer.mapKey = none ∧ v.kv.cache = [] ∧ v.dict.sessions = [] ∧
            (∀ x ∈ v.cipher.slots, x.2.st ≠ .active ∧ x.2.st ≠ .decryptOnly) ∧ v.sec.sources = d.sec.sources ||| e ∧ v.sec.clearSince = d.time.now) ∧
      (e ≠ 0 → d.power.run = .ready → d.cipher.alarm = 1 → Gives (.alarm sources) s fun t => t.dict.sessions = [] ∧ t.cipher = d.cipher ∧
        t.sec.sources = d.sec.sources ||| e) ∧
      (e ≠ 0 → d.power.run ≠ .ready → d.power.run ≠ .unpowered → Gives (.alarm sources) s fun t => t.dict.sessions = [] ∧
        t.sec.latched = d.sec.latched ||| e ∧ t.sec.sources = d.sec.sources ||| e) ∧
      (e = 0 → exec (.alarm sources) s = .next s)) ∧
    (d.cipher.alarm ≠ 1 → Gives .alarmSourcesClear s fun t => t.sec.sources = 0 ∧ d.sec.clearSince + ms 100 ≤ t.time.now ∧ t.cipher = d.cipher) ∧
    (d.cipher.alarm = 1 → linkPhysical d = false ∨ d.sec.linkKey ≠ none → Gives .alarmSourcesClear s fun t =>
      t.sec.sources = 0 ∧ d.sec.clearSince + ms 100 ≤ t.time.now ∧ t.cipher.alarm = if odVal 0x3240 1 d = 1 then 2 else 3) ∧
    (d.cipher.alarm = 1 → linkPhysical d = true → d.sec.linkKey = none → Leads startShake .alarmSourcesClear s fun v =>
      v.sec.sources = 0 ∧ d.sec.clearSince + ms 100 ≤ v.time.now ∧ v.cipher.alarm = if odVal 0x3240 1 d = 1 then 2 else 3) ∧
    (d.cipher.alarm = 3 →
      Leads (fun v =>
        let mine := v.dict.held.filter fun w => w.idx == 0x2800 && w.sel == 4096
        settle (mine.foldl (fun v w => answer w.reply w.idx w.sub .ok [] 0 0 v)
          { v with dict := { v.dict with held := v.dict.held.filter fun w => !mine.contains w } })) .alarmReloadComplete s fun v =>
        v.cipher.alarm = 0 ∧ v.peer.mapKey = d.peer.wrappedMapKey ∧ Logged 0x0908 0x0030 0 ((d.cipher.slots.filter fun x => x.2.st == .zeroised).length) v) ∧
    (∀ slot l, (slotOf slot d).limitPending = some l → Leads settle (.slotLimitDurable slot) s fun v =>
      (slotOf slot v).limit d.side = max l ((slotOf slot d).limit d.side) ∧ (slotOf slot v).limitPending = none)

/-- R275 to R290, R292, R296, R304 to R316. -/
def Obligations.StripesAndJournal : Prop :=
  ∀ (s : State),
    let d := s.dev
    (∀ cls cluster g, d.stripe.gathers.find? (isGather cls cluster (streamOf cluster)) = some g →
      (g.fill = 0 → Leads issueClosed (.stripeClose cls cluster) s fun v => v = d) ∧
      (g.fill ≠ 0 → Leads issueClosed (.stripeClose cls cluster) s fun v => (∀ x ∈ v.stripe.gathers, x.id ≠ g.id) ∧
        ∃ x ∈ v.stripe.stripes, x.id = g.id ∧ x.st = .closed ∧ x.fill = g.fill ∧ x.k = classK g.cls d ∧ x.unit = classUnit g.cls d ∧
          x.pad = dataSpace x.k x.unit - g.fill) ∧
      (g.fill ≠ 0 → Leads issueClosed (.gatherLimitExpiry cls cluster) s fun v => g.since + ms (odVal 0x2900 5 d) ≤ v.time.now ∧
        (∀ x ∈ v.stripe.gathers, x.id ≠ g.id) ∧ ∃ x ∈ v.stripe.stripes, x.id = g.id ∧ x.st = .closed ∧ x.fill = g.fill)) ∧
    (∀ id x, stripeOf id d = some x → x.st = .issued → x.issueDurable = true →
      Leads (fun v => (List.range x.members.length).foldl (fun v m => match x.members[m]? with
        | some y => if y.issued || y.programmed then v else programMember id m false v
        | none => v) v) (.stripeIssueDurable id) s fun v => v = d) ∧
    (∀ id x, stripeOf id d = some x → x.st = .issued → (∀ m ∈ x.members, m.programmed = true ∧ (verifies x d = true → m.verified = true)) →
      Leads (fun v => landRelocs (landMapPages id (journalRecord (.stripeDurable id) v))) (.stripeMembersProgrammed id) s fun v =>
        stripeOf id v = some { x with st := .durable }) ∧
    (∀ id x, stripeOf id d = some x → x.st = .durable → x.durableDurable = true →
      Leads (fun v => reapStripes (releaseWrites v)) (.stripeRelease id) s fun v => stripeOf id v = some { x with released := true }) ∧
    (∀ n, Leads refreshDurable (.journalDurable n) s fun v =>
      v.stripe.pages = d.stripe.pages.map fun p => if p.seq ≤ n then { p with local_ := true } else p) ∧
    (∀ a f id rest, let w := settleRebuild a d
      w.stripe.failed.find? (·.addr == a) = some f → f.st = 3 ∨ f.st = 4 →
      (f.work.filter fun id => !w.stripe.moves.any (·.stripe == id)).filter (fun id => ((stripeOf id w).map fun x => repairable x w).getD true) = id :: rest →
      Leads (fun v => settleRebuild a (repairStripe a id v)) (.rebuildStripe a) s fun v => v.stripe.moves = d.stripe.moves ∧
        ∃ g ∈ v.stripe.failed, g.addr = a ∧ g.work = f.work) ∧
    (∀ a f, d.stripe.failed.find? (·.addr == a) = some f → f.st = 4 → (∃ id ∈ f.work, ((stripeOf id d).map fun x => repairable x d).getD true = true) →
      Leads refreshRebuild (.rebuildResume a) s fun v => v.stripe.failed.find? (·.addr == a) = some { f with st := 3 }) ∧
    (∀ id r, d.stripe.lostStripes.find? (fun r => r.stripe == id && !r.scanDone) = some r → Gives (.lostStripeKeyScan id) s fun t =>
      ∀ x ∈ t.stripe.lostStripes, x.seq = r.seq → x.scanDone = true) ∧
    (∀ n, n ∈ d.stripe.rewriting → Leads (fun v => issueClosed (refreshCopies v)) (.journalCopyRewritten n) s fun v =>
      v.stripe.rewriting = d.stripe.rewriting.filter (· != n) ∧ Logged 0x0A05 0x0040 0 n v ∧
        if n = 3 then v.stripe.copy3 = true else bit v.stripe.copies n = true)

/-- R304 to R306, R329, R369, R374 to R378, R385. -/
def Obligations.FlashEnds : Prop :=
  ∀ (s : State) (op : Nat) (o : FlashOp),
    let d := s.dev
    let gone := fun (v : Device) => ∀ x ∈ v.media.ops, x.id ≠ o.id
    let sees := fun (ok : Bool) (v : Device) => ∀ e, o.engine = some e → e < d.eng.engines.length →
      bit (engineOf e v).conds 23 = true ∧ bit (engineOf e v).conds 24 = !ok ∧ (engineOf e v).flash = none
    (opOf op d = some o → o.started = true →
      (o.kind.isRead = true →
        (∀ n, Leads (fun v => settleChecks (readDone o n v)) (.flashReadComplete op true n) s fun v => gone v ∧ sees true v) ∧
        (∀ n, o.step < 4 → o.engine = none → Leads settleChecks (.flashReadComplete op false n) s fun v =>
          let p := { o with step := nextReadStep o.step o.desc d }
          opOf op v = some p ∧ ∀ x ∈ readPasses p (bestEntry p (if p.step = 4 then (draw d).1 else 0) d) d, Sent d v (readOutput o.desc x)) ∧
        (∀ n e, o.step < 4 → o.engine = some e → Leads settleChecks (.flashReadComplete op false n) s fun v => gone v ∧ sees false v) ∧
        (∀ n, o.step = 4 → o.deep = true → Leads settleChecks (.flashReadComplete op false n) s fun v =>
          opOf op v = some { o with step := 5 } ∧ ∀ x ∈ readPasses { o with step := 5 } 0 d, Sent d v (readOutput o.desc x)) ∧
        (∀ n, o.step = 5 → Leads (fun v => settleChecks (readFailed o v)) (.flashReadComplete op false n) s fun v => gone v ∧ sees false v ∧
          odVal 0x3400 8 v = min (odVal 0x3400 8 d + 1) (odMax 0x3400 8)) ∧
        (let due := o.startedAt + max (us (odVal 0x2900 1 d * modeTr (modeOf o.desc d))) (ms (odVal 0x2900 2 d));
          (indispensable o d = true → Leads (fun v => settleChecks (noteTimeout o.desc v)) (.flashReadTimeout op) s fun v => due ≤ v.time.now ∧ opOf op v = some o) ∧
          (indispensable o d = false → Leads (fun v => settleChecks (noteTimeout o.desc v)) (.flashReadTimeout op) s fun v => due ≤ v.time.now) ∧
          (indispensable o d = false → o.engine = none → o.req = none → o.verify = false → moveOf o.stripe o.member d = none →
            Leads (fun v => settleChecks (noteTimeout o.desc v)) (.flashReadTimeout op) s gone)) ∧
        (indispensable o d = true → Leads (fun v => settleChecks (readFailed o v)) (.hardReadLimit op) s fun v =>
          o.startedAt + ms (odVal 0x2900 0x13 d) ≤ v.time.now ∧ gone v ∧ sees false v)) ∧
      (o.kind = .program →
        (stripeOf o.stripe d = none → moveOf o.stripe o.member d = none → Leads (fun v => settleChecks (reapStripes v)) (.flashProgramComplete op) s fun v =>
          gone v ∧ sees true v) ∧
        (∀ x, stripeOf o.stripe d = some x → (x.st ≠ .issued ∨ ∀ y, verifies y d = false) → moveOf o.stripe o.member d = none →
          Leads (fun v => settleChecks (reapStripes v)) (.flashProgramComplete op) s fun v => gone v ∧ sees true v ∧
            ∀ y m, stripeOf o.stripe v = some y → y.members[o.member]? = some m → m.desc = o.desc → m.programmed = true) ∧
        (moveOf o.stripe o.member d = none → Leads (fun v => emptyBlock o.desc 1 (startMove o.stripe o.member 1 false none (retireBlock o.desc 1 v)))
          (.flashProgramFailure op) s fun v => gone v ∧ sees false v) ∧
        (moveOf o.stripe o.member d = none → Leads (fun v => noteTimeout o.desc (emptyBlock o.desc 1 (startMove o.stripe o.member 2 false none (retireBlock o.desc 1 v))))
          (.flashProgramTimeout op) s fun v => gone v ∧ sees false v ∧
            o.startedAt + max (us (3 * modeTprog (modeOf o.desc d))) (ms (odVal 0x2900 3 d)) ≤ v.time.now)) ∧
      (o.kind = .erase →
        (∀ b, blockOf o.desc d = some b → let n := min (b.erases + 1) (2 ^ 32 - 1)
          Leads (fun v => eraseAnswered o.desc 0 (odBump 0x2A00 0x0F 1 (noteErased o.desc
              (journalRecord (.blockState o.desc.channel o.desc.target o.desc.lun o.desc.block 0 0 n) v)))) (.flashEraseComplete op) s fun v =>
            gone v ∧ ∃ c, blockOf o.desc v = some c ∧ c.st = 0 ∧ c.stream = 0 ∧ c.next = 0 ∧ c.live = 0 ∧ c.erases = n ∧ c.slc = false) ∧
        (Leads (fun v => eraseAnswered o.desc 2 (retireBlock o.desc 2 v)) (.flashEraseFailure op) s gone))) ∧
    (opOf op d = some o → o.started = false → o.kind.isRead = true → channelAway o.desc.channel d = true → indispensable o d = false → o.engine = none →
      o.req = none → o.verify = false → moveOf o.stripe o.member d = none → Leads settleChecks (.flashReadTimeout op) s fun v => gone v ∧
        o.startedAt + max (us (odVal 0x2900 1 d * modeTr (modeOf o.desc d))) (ms (odVal 0x2900 2 d)) ≤ v.time.now) ∧
    (∀ channel target lun, Leads (failElement (lunAddr channel target lun) 2) (.lunResetTimeout channel target lun) s fun v =>
      odVal 0x2900 0x0B v = min (odVal 0x2900 0x0B d + 1) (odMax 0x2900 0x0B))

/-- R332 to R338, R349 to R362, R379 to R392. -/
def Obligations.MapAndCare : Prop :=
  ∀ (s : State),
    let d := s.dev
    (∀ c, d.map.checkpoint = some c → Gives .checkpointStart s fun t => t = { d with map := { d.map with checkpointAgain := true } }) ∧
    (d.map.checkpoint = none → Leads checkpointBegin .checkpointStart s fun v =>
      (checkpointDue d = true → v = d) ∧ (checkpointDue d = false → d.map.lastCheckpointAt + ms (odVal 0x2A00 2 d) ≤ v.time.now)) ∧
    (∀ c, d.map.checkpoint = some c → c.begun = true → (∀ id ∈ c.stripes, ∀ x, stripeOf id d = some x → x.st = .durable ∨ x.st = .lost) →
      .checkpointDone c.num c.start ∉ d.stripe.queued → (∀ p ∈ d.stripe.pages, .checkpointDone c.num c.start ∉ p.records) →
      Leads (journalRecord (.checkpointDone c.num c.start)) .checkpointComplete s fun v => v = d) ∧
    (∀ typ lid p, pageOf typ lid d = some p → p.lost = false → Leads (fun v => settle (evictPages v)) (.mapPageFill typ lid) s fun v =>
      pageOf typ lid v = some { p with cached := true, lastUse := d.time.now }) ∧
    (∀ c, tblGetD d.map.levels c 0 ≠ levelOf c d → ownsChannel c d = true → Leads issueClosed (.gcLevelChange c) s fun v =>
      tblGetD v.map.levels c 0 = levelOf c d ∧ Logged 0x0B02 0x0042 0 (c * 256 + levelOf c d) v) ∧
    (∀ c b, ownsChannel c d = true → collecting d = true →
      (levelOf c d ≠ 0 → outranked (if 2 ≤ levelOf c d then 2 else 5) d = false → bestBy (fun a b : Block => natsLt [a.live, a.writeMin, a.erases] [b.live, b.writeMin, b.erases]) (victims c d) = some b →
        Leads (fun v => maybeState3 b.desc (emptyBlock b.desc 3 v)) (.blockReclaim c) s fun v => v = d) ∧
      (odVal 0x2A30 0 d < wearSpread c d → outranked 6 d = false → bestBy (fun a b : Block => natsLt [a.erases, a.writeMin] [b.erases, b.writeMin]) (victims c d) = some b →
        Leads (fun v => maybeState3 b.desc (emptyBlock b.desc 3 v)) (.wearLevel c) s fun v =>
          v = { d with map := { d.map with levelling := c :: d.map.levelling.filter (· != c) } })) ∧
    (∀ x, collecting d = true → deviceIdle d = true → outranked 7 d = false → d.stripe.relocs = [] →
      (d.stripe.stripes.filter fun x => x.st == .durable && x.released && decide (0 < validBytes x d) &&
        decide (validBytes x d * 100 ≤ odVal 0x2A00 5 d * dataSpace x.k x.unit)) = [x] → (∀ p ∈ d.map.pages, p.pending = 0) →
      Leads (relocateStripe (fun _ => true) x) .stripeCompaction s fun v => v = d) ∧
    (∀ p, d.map.pages.find? (fun p => p.typ == 2 && p.lid != d.map.manifestPage && decide (0 < liveManifestBytes p.lid d) &&
        decide (liveManifestBytes p.lid d * 100 < odVal 0x2A00 6 d * pageBody)) = some p →
      ∀ l m, (d.map.locators.filter fun l => l.2.1 / 2 ^ 14 == p.lid) = [l] → manifestOf l.1 d = some m →
        Leads (fun v => touchMap 1 (indexKey m.ns m.key) (journalRecord (.manifestMoved l.2.2 l.2.1 (locatorOf l.1 v)) v)) .manifestCompaction s fun v =>
          v = packManifest m (dropLocator l.1 d)) ∧
    (∀ m b, blockOf m d = some b →
      (erasable b d = true → ownsChannel m.channel d = true → collecting d = true →
        (∀ o ∈ d.media.ops, o.kind = .erase → blockDesc o.desc ≠ blockDesc m) → Leads (tryStart d.media.nextOp) (.blockErase m) s fun v =>
          ∃ o ∈ v.media.ops, o.id = d.media.nextOp ∧ o.kind = .erase ∧ o.desc = blockDesc m) ∧
      (b.refreshDue = true → b.st = 2 → b.emptying = 0 → ownsChannel m.channel d = true → collecting d = true → outranked 3 d = false →
        Leads (fun v => maybeState3 m (emptyBlock m 3 v)) (.refresh m) s fun v => blockOf m v = some { b with refreshDue := false } ∧
          odVal 0x3400 0x0A v = min (odVal 0x3400 0x0A d + 1) (odMax 0x3400 0x0A)) ∧
      (∀ errors, b.st = 2 → ownsChannel m.channel d = true →
        bandsDue d = [] ∨ (b.channel, b.target, b.lun, b.block) ∈ d.media.bandChanged ∨ blockBand b d ≠ b.sampledBand → Leads ageRefresh (.patrolSample m errors) s fun v =>
        ∃ c, blockOf m v = some c ∧ c.sampledAt = minutes d ∧ (pastRefreshErrors m errors d = true → b.slc = false → c.refreshDue = true)) ∧
      (∀ errors, bandsDue d ≠ [] → (b.channel, b.target, b.lun, b.block) ∉ d.media.bandChanged → blockBand b d = b.sampledBand →
        exec (.patrolSample m errors) s = .next s)) ∧
    (∀ c, outranked (if 2 ≤ levelOf c d then 2 else 5) d = true → exec (.blockReclaim c) s = .next s) ∧
    (outranked 7 d = true → exec .stripeCompaction s = .next s) ∧
    (∀ temps junction, Leads ageRefresh (.thermalAgeSample temps junction) s fun v => d.media.nextSampleAt ≤ v.time.now ∧
      v.media.nextSampleAt = v.time.now + sec 60 ∧ (∀ g, g < 16 → v.media.temps.getD g 0 = temps.getD g (d.media.temps.getD g 0)) ∧
      ∀ g a, g < 16 → d.media.ages[g]? = some a → v.media.ages[g]? = some (a + acceleration (temps.getD g (d.media.temps.getD g 0)) (odVal 0x3400 4 d))) ∧
    (d.time.established = true →
      (d.media.ledger ≠ [] → minutes d / 1440 < d.media.ledgerDay + d.media.ledger.length → Gives .ledgerRecord s fun t =>
        t = { d with media := { d.media with lastPowered := minutes d } }) ∧
      ((d.media.ledger = [] ∨ d.media.ledgerDay + d.media.ledger.length ≤ minutes d / 1440) → Gives .ledgerRecord s fun t =>
        t.media.ledger.length ≤ 16384 ∧ t.media.ledgerDay + t.media.ledger.length = minutes d / 1440 + 1 ∧ t.media.ledger.getLast? = some (ledgerRow d)))

/-- R46 to R49, R166, R175, R537 to R561. -/
def Obligations.PowerEvents : Prop :=
  ∀ (s : State),
    let d := s.dev
    (d.power.pwrFail = false → d.power.run = .ready → d.power.frozenAt = none → d.power.flushing = none →
      (Leads beginFlush .pwrFailNAssert s fun v => v.power.pwrFail = true) ∧
      (d.power.entering = none → Gives .pwrFailNAssert s fun t => t.power.pwrFail = true ∧ t.power.flushing = some (d.map.flushNum + 1) ∧
        t.map.flushNum = d.map.flushNum + 1 ∧ odVal 0x2A20 5 t = min (odVal 0x2A20 5 d + 1) (odMax 0x2A20 5) ∧
          boardEntry 1 t = firmwareEntry 0x02 0x0040 0 (d.time.counter + 1) true)) ∧
    (d.power.pwrFail = false → d.power.run ≠ .ready → d.power.run ≠ .unpowered → Gives .pwrFailNAssert s fun t => t.power.pwrFail = true) ∧
    (∀ n f, d.power.flushing = some n → f ∈ d.map.flushes → f.num = n → f.complete = false →
      let ends := fun (v : Device) => v.power.flushing = none ∧ ∀ g ∈ v.map.flushes, g.num = n → g.complete = true
      (d.power.hot = true → Leads shutDown .powerFailFlushEnd s ends) ∧
      (d.power.hot = false → d.power.pwrFail = true → Gives .powerFailFlushEnd s ends) ∧
      (d.power.hot = false → d.power.pwrFail = false → Leads settle .powerFailFlushEnd s ends)) ∧
    (d.power.pwrFail = true → let u := { d with power := { d.power with pwrFail := false, flushCut := false } }
      (d.power.run = .ready → d.power.flushing = none → Leads settle .pwrFailNDeassert s (· = u)) ∧
      (d.power.run = .ready → d.power.flushing ≠ none → Gives .pwrFailNDeassert s (· = u)) ∧
      (d.power.run ≠ .ready → Leads proceed .pwrFailNDeassert s (· = u))) ∧
    (∀ n f, d.map.flushes.find? (·.num == n) = some f → f.complete = true → f.released = false → releaseWritten n d = false →
      (∀ r ∈ f.roster, keyVersionDurable d r.1 r.2.1 r.2.2 = true ∧ ∀ e v m, keyEntry? r.1 r.2.1 d = some e → e.versions.find? (·.tick == r.2.2) = some v →
        manifestOf v.mseq d = some m → ∀ c ∈ m.chunks, copyDurable m.domain c.fp c.copy d = true) →
      Leads (journalRecord (.flushReleased n)) (.flushRelease n) s (· = d)) ∧
    (∀ level, d.power.run ≠ .unpowered → d.power.holdupOk ≠ level → Leads refreshDirty (.holdupOkChange level) s fun v => v.power.holdupOk = level ∧
      (level = true → d.time.now + ms 100 ≤ v.time.now ∧ v.power.holdupOkSince = some v.time.now) ∧ (level = false → v.power.holdupOkSince = none)) ∧
    (∀ va vb, odVal 0x2240 0x0A d = 1 → dirtyBytes d ≤ d.power.dirtyLimit →
      (vb + 10 ≤ va → odVal 0x2240 9 d ≤ vb → let e := testEnergy (odVal 0x2240 8 d) va vb (odVal 0x2240 9 d)
        Leads refreshDirty (.holdupTestDischarge va vb) s fun v => odVal 0x2240 0x0A v = 3 ∧ odVal 0x2240 2 v = e ∧
          Logged 0x1205 0x0071 0 (e % 2 ^ 32) v ∧ d.time.now + ms 11 ≤ v.time.now) ∧
      (va < vb + 10 ∨ vb < odVal 0x2240 9 d → Leads refreshDirty (.holdupTestDischarge va vb) s fun v => odVal 0x2240 0x0A v = 4 ∧
        Logged 0x1205 0x0071 0 (2 ^ 32 + odVal 0x2240 2 d) v)) ∧
    (let e := odVal 0x2230 (2 + d.power.eff) d;
      d.power.run = .ready → odVal 0x2230 1 d ≠ 0 → bits e 31 8 ≠ 0 → d.power.eff < 4 → deviceIdle d = true → powerFailing d = false →
      Leads (refreshEff 1) .apstTransition s fun v => v.power.apst = bits e 7 3 ∧ d.power.idleSince + ms (bits e 31 8) ≤ v.time.now) ∧
    (∀ n, d.power.entering = some n → quiet d = true → powerFailing d = false →
      (n ≠ 4 → Gives .powerStateGate s fun t => t.power.entering = none) ∧
      (n = 4 → (∀ g, g < 16 → domainOn g (gateUnits 4 d) = false) → Leads goDormant .powerStateGate s (· = gateUnits 4 d))) ∧
    (d.power.run = .dormant → Gives .vddqDdrBelowFloor s fun t => t = { d with power := { d.power with vddqLow := true } }) ∧
    (d.power.run ≠ .unpowered → Gives .shelfPowerLoss s fun t => t.power.run = .unpowered ∧ t.power.porst = true ∧ t.admin.events = [] ∧ t.eng.sram = [] ∧
      t.nvme.cmds = [] ∧ t.power.carried = none ∧ t.power.unannounced = (d.power.unannounced || !d.power.pwrFail) ∧
        t.admin.unsafeShutdowns = d.admin.unsafeShutdowns + b2n (d.power.flushCut || (d.power.pwrFail && d.power.flushing.isSome))) ∧
    (∀ temp, let u := odPutInt 0x2010 3 2 temp d
      (d.power.run = .unpowered ∨ d.power.run = .reset ∨ d.power.run = .halted → Gives (.thermalShutdown temp) s (· = u)) ∧
      (d.power.run = .ready → d.power.flushing = none → d.power.entering = none → Gives (.thermalShutdown temp) s fun t => t.power.hot = true ∧
        t.power.flushing = some (d.map.flushNum + 1)) ∧
      (d.power.run = .waitCore ∨ d.power.run = .starting ∨ d.power.run = .dormant → Leads shutDown (.thermalShutdown temp) s (· = u)) ∧
      (d.power.run ≠ .unpowered → let k := odSigned 2 (odVal 0x2010 3 u) * 10 + 27315
        Gives (.temperatureThresholdCrossing temp) s fun t => odVal 0x2010 3 t = odVal 0x2010 3 u ∧
          t.power.overTemp = decide ((odVal 0x2010 0x0C d : Int) * 100 ≤ k) ∧ t.power.underTemp = decide (k < (odVal 0x2010 0x0D d : Int) * 100))) ∧
    (∀ n, n < 25 → domainFaulty n d = false → isUp d = true → Leads (fun v => proceed (domainOutcome n v)) (.domainFault n) s fun v =>
      domainFaulty n v = true ∧ domainOn n v = false ∧ Logged 0x1201 0x0071 2 n v) ∧
    (Leads linkDown .sdclkLoss s fun v => v.power.sdclk = false ∧ ∀ p, p < 8 → p < d.ports.ports.length → (portOf p v).link = 0) ∧
    (d.power.run = .unpowered → Gives .refclkStop s fun t => t = { d with power := { d.power with refclk := false } }) ∧
    (d.power.run ≠ .unpowered → Leads (alarmTrip 4) .refclkStop s fun v => v = { d with power := { d.power with refclk := false, carried := none } })

/-- R524, R525, R537 to R551, R594 to R598. -/
def Obligations.StartsAndFatal : Prop :=
  ∀ (s : State),
    let d := s.dev
    let restarts := fun (cause : Nat) (t : Device) => odVal 0x2200 1 t = cause ∧ t.nvme.cmds = [] ∧ t.peer.link = 0 ∧
      (d.power.porst = false → d.peer.fenceInN = true → d.power.refclk = true → d.power.hot = false → t.power.run = .waitCore ∧ t.power.coreEn = true)
    (d.power.run ≠ .unpowered → Gives .porstNAssert s fun t => t.power.run = .reset ∧ t.power.porst = true ∧ t.nvme.cmds = [] ∧ t.peer.link = 0) ∧
    (∀ straps, d.power.porst = true → Gives (.porstNRelease straps) s fun t => t.power.porst = false ∧ odVal 0x2200 1 t = 0 ∧
      t.side = b2n (bit straps 0) ∧ t.nodeId = bits straps 7 1 ∧ t.admin.powerCycles = d.admin.powerCycles + b2n (d.power.run == .unpowered) ∧
      (d.peer.fenceInN = false → t.power.run = .reset) ∧
      (d.peer.fenceInN = true → d.power.refclk = true → d.power.hot = false → t.power.run = .waitCore ∧ t.power.coreEn = true)) ∧
    (d.power.coreEn = true → d.power.corePg = true → Gives .corePgLoss s fun t => restarts 6 t ∧ t.power.unannounced = (d.power.unannounced || !d.power.pwrFail)) ∧
    (isUp d = true → Leads (internalReset 4) .rootPllLoss s (· = alarmTrip 4 d) ∧ Gives .rootPllLoss s fun t => odVal 0x2200 1 t = 4 ∧ t.nvme.cmds = []) ∧
    (d.power.run = .dormant → Gives .epochInWake s fun t => restarts 5 t ∧ t.power.run ≠ .dormant ∧ d.time.now + us 500 ≤ t.time.now) ∧
    (∀ due, d.fw.confirmBy = some due → Gives .healthConfirmDeadline s fun t => restarts 2 t ∧ due ≤ t.time.now) ∧
    (d.power.refclk = false → Leads leaveReset .refclkRestart s fun v => v.power.refclk = true ∧ d.time.now + us 100 ≤ v.time.now) ∧
    (d.power.run = .waitCore → d.power.coreEn = true →
      (Gives .corePgRise s fun t => t.power.run = .starting ∧ t.power.stage = 3 ∧ t.power.corePg = true ∧ t.power.coreTries = 0) ∧
      (let due := d.power.startedAt + ms (50 + 1050 * (d.power.coreTries - 1));
        (d.power.coreTries < 3 → Gives .corePgTimeout s fun t => t.power.run = .waitCore ∧ t.power.coreEn = true ∧
          t.power.coreTries = d.power.coreTries + 1 ∧ due + sec 1 ≤ t.time.now) ∧
        (3 ≤ d.power.coreTries → Gives .corePgTimeout s fun t => t.power.run = .halted ∧ t.power.coreEn = false ∧
          t.power.coreFailures = d.power.coreTries ∧ due ≤ t.time.now))) ∧
    (atBoot d = true →
      (leavesDormancy d = false → Leads proceed .coldStart s fun v => odVal 0x2200 2 v = 0) ∧
      (leavesDormancy d = true → dormantFailure d ≠ 0 → Leads proceed .coldStart s fun v => odVal 0x2200 2 v = 0 ∧ Logged 0x1207 0x0071 1 (dormantFailure d) v) ∧
      (leavesDormancy d = true → dormantFailure d = 0 → Leads proceed .cleanDormantExit s fun v => odVal 0x2200 2 v = 1)) ∧
    (isUp d = true →
      let freezes := fun (cause : Nat) (t : Device) => t.power.fatal = some cause ∧
        boardEntry 0 t = { firmwareEntry 0x06 0xFFFF cause (d.time.counter + 16) true with paired := false }
      let violates := fun (ini addr : Nat) (t : Device) => odVal 0x3200 1 t = min (odVal 0x3200 1 d + 1) (odMax 0x3200 1) ∧
        odVal 0x3200 6 t = ini % 256 * 2 ^ 56 + addr % 2 ^ 48 ∧
          ((∀ a, d.sec.violationAt = some a → a + sec 1 ≤ d.time.now) → Logged 0x1101 0x0072 2 (ini % 256 * 2 ^ 56 + addr % 2 ^ 48) t)
      (d.power.fatal = none →
        (∀ cause, Gives (.fatalError cause) s (freezes (cause % 65536))) ∧ Gives .controlProcessorWatchdog s (freezes 7) ∧
        (∀ ini addr, Gives (.instructionFetchRefused ini addr) s fun t => freezes 1 t ∧ violates ini addr t)) ∧
      (∀ ini addr, Gives (.worldViolation ini addr) s (violates ini addr))) ∧
    (∀ x, d.fw.dump = some x → d.fw.copying = true → Gives .dumpCopy s fun t => t.fw.dump = none ∧ t.fw.copying = false ∧
      t.fw.flashDumps = (x :: d.fw.flashDumps).take 2)

/-- R474 to R483. -/
def Obligations.Replication : Prop :=
  ∀ (s : State) (n : Nat), n < s.dev.snap.sessions.length →
    let d := s.dev
    let x := sessionOf n d
    (sessionReady n d = true → x.st = 1 → bit (sessionCfg n d) 3 = true → Leads (fun v => (beginCycle n v).2) (.replicationCycle n) s fun v =>
      x.startedAt ≠ 0 → x.startedAt + bits (sessionCfg n d) 303 288 * sec 60 ≤ v.time.now) ∧
    (∀ key sct sc dnr c, x.st = 3 → x.outstanding.find? (fun c => c.key == key && c.retryAt.isNone) = some c →
      let ok := (sct = 0 ∧ sc = 0) ∨ (c.delete = true ∧ (sct = 1 ∧ sc = 0x87 ∨ sct = 7 ∧ sc = 0xC7))
      (ok → Leads (fun v => pump n (saveCursor n v)) (.replicationRemoteCompletion n key sct sc dnr) s fun v =>
        (∀ y ∈ (sessionOf n v).outstanding, y.key ≠ key) ∧ (c.delete = true → (sessionOf n v).keysDeleted = x.keysDeleted + 1) ∧
          (c.delete = false → (sessionOf n v).keysStored = x.keysStored + 1) ∧ odVal 0x3300 5 v = min (odVal 0x3300 5 d + 1) (odMax 0x3300 5)) ∧
      (¬ ok → skipsKey sct sc = true → Leads (fun v => pump n (saveCursor n v)) (.replicationRemoteCompletion n key sct sc dnr) s fun v =>
        (∀ y ∈ (sessionOf n v).outstanding, y.key ≠ key) ∧ (sessionOf n v).skipped = x.skipped + 1 ∧ (sessionOf n v).lastSc = sc) ∧
      (¬ ok → skipsKey sct sc = false → dnr = false → c.retries < 8 → Gives (.replicationRemoteCompletion n key sct sc dnr) s fun t =>
        (sessionOf n t).retries = min (x.retries + 1) 65535 ∧ (sessionOf n t).lastSct = sct ∧ (sessionOf n t).lastSc = sc ∧
          { c with retries := c.retries + 1, retryAt := some (d.time.now + sec 1) } ∈ (sessionOf n t).outstanding) ∧
      (¬ ok → skipsKey sct sc = false → dnr = true ∨ 8 ≤ c.retries → x.slot = none → Gives (.replicationRemoteCompletion n key sct sc dnr) s fun t =>
        (sessionOf n t).st = 5 ∧ (sessionOf n t).outstanding = [] ∧ (sessionOf n t).lastSc = sc)) ∧
    (∀ key c, x.st = 3 → x.outstanding.find? (fun c => c.key == key && c.retryAt.isSome) = some c → Leads (sendRemote n { c with retryAt := none })
      (.replicationRetry n key) s fun v => c.retryAt.getD 0 ≤ v.time.now ∧ v.snap = d.snap) ∧
    (sessionReady n d = true → x.st = 2 ∨ x.st = 4 →
      (Gives (.replicationReconnect n false) s fun t => (sessionOf n t).st = 4 ∧ (sessionOf n t).reconnectAt = t.time.now + sec 5 ∧
        (sessionOf n t).connected = false) ∧
      (cycleStands n d = true → Leads (pump n) (.replicationReconnect n true) s fun v => (sessionOf n v).st = 2 ∧ (sessionOf n v).connected = true)) ∧
    (sessionReady n d = true → x.st = 2 → cycleStands n d = false → (∀ c ∈ d.snap.creates, c.session ≠ some n) →
      (∀ v, newCycle n d = some v → Gives (.replicationReconnect n true) s fun t => (sessionOf n t).st = 2 ∧ (sessionOf n t).connected = true ∧
        (sessionOf n t).current = (sessionOf n v).current ∧ (sessionOf n t).cursor = [] ∧ (x.current ≠ none → (sessionOf n t).base = none) ∧
          t.snap.snaps = v.snap.snaps) ∧
      (newCycle n d = none → Gives (.replicationReconnect n true) s fun t => (sessionOf n t).st = 1 ∧ (sessionOf n t).startedAt = d.time.now)) ∧
    (n < 16 → x.st = 2 ∨ x.st = 3 → Gives (.remoteAssociationLoss n) s fun t => (sessionOf n t).st = 4 ∧ (sessionOf n t).outstanding = [] ∧
      (sessionOf n t).reconnectAt = d.time.now + sec 5 ∧ (sessionOf n t).cursor = x.durableCursor)

/-- R563 to R583. -/
def Obligations.FanDrives : Prop :=
  ∀ (s : State) (n : Nat), driveRuns n s.dev = true → n < s.dev.fans.length →
    let d := s.dev
    let f := fanOf n d
    let aligned := fun (t : Device) => (fanOf n t).st = 3 ∧ (fanOf n t).duty = 256 * alignDuty n d ∧ (fanOf n t).since = t.time.now
    (f.st = 0 → (isFitted n d = true → Gives (.fanStart n) s fun t => (fanOf n t).st = 1 ∧ f.nextStart ≤ t.time.now) ∧
      (isFitted n d = false → Gives (.fanStart n) s fun t => (fanOf n t).st = 9)) ∧
    (∀ bemf forward rpm, f.st = 1 →
      (belowBrake n bemf d = true → Gives (.fanSenseComplete n bemf forward rpm) s fun t => aligned t ∧ f.since + ms 20 ≤ t.time.now) ∧
      (belowBrake n bemf d = false → forward = true → handOver n rpm d = true → Leads (catchFan n rpm) (.fanSenseComplete n bemf forward rpm) s fun v =>
        f.since + ms 20 ≤ v.time.now) ∧
      (belowBrake n bemf d = false → (forward = false ∨ handOver n rpm d = false) → Leads (brake n 0) (.fanSenseComplete n bemf forward rpm) s fun v =>
        f.since + ms 20 ≤ v.time.now)) ∧
    (∀ bemf forward rpm, f.st = 7 → Leads (catchSensed n forward rpm) (.fanSenseComplete n bemf forward rpm) s fun v =>
      f.since + ms 20 ≤ v.time.now ∧ v.fans = d.fans) ∧
    (∀ bemf rpm, f.st = 2 →
      (f.afterBrake = 0 → Gives (.fanBrakeEnd n bemf rpm) s fun t => aligned t ∧ (belowBrake n bemf d = false → f.since + sec 3 ≤ t.time.now ∧
        Logged 0x1301 (0x0080 + n) 1 (rpm % 65536) t)) ∧
      (f.afterBrake = 2 → Gives (.fanBrakeEnd n bemf rpm) s fun t => aligned t ∧ f.since + ms 500 ≤ t.time.now) ∧
      (f.afterBrake ≠ 0 → f.afterBrake ≠ 2 → Gives (.fanBrakeEnd n bemf rpm) s fun t => f.since + ms 500 ≤ t.time.now ∧
        (fanOf n t).st = if isFitted n d then 0 else 9)) ∧
    (f.st = 3 → Gives (.fanAlignEnd n) s fun t => (fanOf n t).st = 4 ∧ (fanOf n t).goodSectors = 0 ∧ f.since + ms 200 ≤ t.time.now ∧
      (fanOf n t).duty = min 25600 (Config.rampDuty (alignDuty n d) 0)) ∧
    (f.st = 4 →
      (f.rampTries < 2 → Gives (.fanRampEnd n) s fun t => aligned t ∧ (fanOf n t).rampTries = f.rampTries + 1 ∧
        f.since + rampTime n d + ms 200 ≤ t.time.now) ∧
      (2 ≤ f.rampTries → Leads refreshFans (.fanRampEnd n) s fun v => (fanOf n v).st = 8 ∧ (fanOf n v).duty = 0 ∧
        (fanOf n v).nextStart = v.time.now + sec 60 ∧ Logged 0x1304 (0x0080 + n) 2 0 v)) ∧
    (∀ good period, f.st = 5 → Gives (.bemfZeroCrossing n good period) s fun t => (fanOf n t).st = 5 ∧ (fanOf n t).sector = (f.sector + 1) % 6 ∧
      (fanOf n t).lastCrossing = d.time.now ∧ (fanOf n t).goodSectors = if good then f.goodSectors + 1 else 0) ∧
    (∀ good period, f.st = 4 → (good = false ∨ f.goodSectors < 5) → Gives (.bemfZeroCrossing n good period) s fun t => (fanOf n t).st = 4 ∧
      (fanOf n t).sector = (f.sector + 1) % 6 ∧ (fanOf n t).goodSectors = (if good then f.goodSectors + 1 else 0) ∧
        (fanOf n t).duty = min 25600 (Config.rampDuty (alignDuty n d) (min (d.time.now - f.since) (rampTime n d)))) ∧
    (∀ current, f.st = 5 → Gives (.fanSpeedLoop n current) s fun t => (fanOf n t).st = 5 ∧ f.since + ms 1 ≤ t.time.now ∧ (fanOf n t).since = t.time.now ∧
      (fanOf n t).duty ≤ 25600 ∧
      (fanOf n t).reference = nextReference f.reference (1000 * setpoint n (waitUntil (f.since + ms 1) d)) (bits (fanConfig n d) 95 80)) ∧
    (∀ ke, f.st = 5 → f.advance = 0 → f.reference = f.speed * 1000 →
      let off := (ke - keNominal n d) + (keNominal n d - ke)
      (off * 100 ≤ 25 * keNominal n d → Gives (.fanKeMeasure n ke) s fun t => (fanOf n t).keSince = none ∧ f.closedSince + sec 1 ≤ t.time.now) ∧
      (25 * keNominal n d < off * 100 → Gives (.fanKeMeasure n ke) s fun t => (fanOf n t).keSince = some (f.keSince.getD t.time.now) ∧
        (f.keSince.getD t.time.now + sec 10 ≤ t.time.now → (fanOf n t).keFault = true))) ∧
    (f.st = 3 ∨ f.st = 4 ∨ f.st = 5 → Gives (.fanOvercurrent n) s fun t => (fanOf n t).st = 7 ∧ (fanOf n t).duty = 0 ∧ (fanOf n t).overcurrent = true ∧
      Logged 0x1305 (0x0080 + n) 2 (currentLimit n d) t) ∧
    (f.st = 5 → Gives (.rotorLost n) s fun t => (fanOf n t).st = 6 ∧ (fanOf n t).duty = 0 ∧ (fanOf n t).catchTries = 0) ∧
    (∀ forward rpm, f.st = 6 → Leads (catchSensed n forward rpm) (.fanCoastEnd n forward rpm) s fun v => f.since + ms 60 ≤ v.time.now ∧ v.fans = d.fans) ∧
    (f.st = 8 → Leads refreshFans (.fanFailedRetry n) s fun v => (fanOf n v).st = 1 ∧ f.nextStart ≤ v.time.now)

/-- R498 names the flags; what carry and overflow mean is the model's choice (log 29 and 30). -/
def Obligations.EngineAluFlags : Prop :=
  ∀ (s : State) (e a b imm dst : Nat), EngineRuns e s.dev →
    let x := reg e a s.dev
    let y := reg e b s.dev
    let signed := fun (v : Nat) => (BitVec.ofNat 64 v).toInt
    let fits := fun (v : Int) => -(2 ^ 63) ≤ v ∧ v < 2 ^ 63
    let sets := fun (c : Instr) (carry : Bool) (ovf : Prop) => ∃ t, exec c s = .next t ∧
      (engineOf e t.dev).ctx.carry = carry ∧ ((engineOf e t.dev).ctx.ovf = true ↔ ovf)
    let free := fun (c : Instr) (code : Nat) => ∃ t, exec c s = .next t ∧
      (engineOf e t.dev).ctx.carry = Config.aluCarry code x y ∧ (engineOf e t.dev).ctx.ovf = Config.aluOverflow code x y
    (x < 2 ^ 64 → y < 2 ^ 64 →
      sets (.addOp e a b dst) (decide (2 ^ 64 ≤ x + y)) (¬ fits (signed x + signed y)) ∧
      sets (.subOp e a b dst) (decide (x < y) == Config.borrowSetsCarry) (¬ fits (signed x - signed y)) ∧
      sets (.cmpOp e a b) (decide (x < y) == Config.borrowSetsCarry) (¬ fits (signed x - signed y))) ∧
    (x < 2 ^ 64 →
      sets (.addiOp e a imm dst) (decide (2 ^ 64 ≤ x + imm % 65536)) (¬ fits (signed x + signed (imm % 65536))) ∧
      sets (.cmpiOp e a imm) (decide (x < imm % 65536) == Config.borrowSetsCarry) (¬ fits (signed x - signed (imm % 65536)))) ∧
    free (.andOp e a b dst) 4 ∧ free (.orOp e a b dst) 5 ∧ free (.xorOp e a b dst) 6 ∧ free (.shlOp e a b dst) 7 ∧
    free (.shrOp e a b dst) 8 ∧ free (.mulOp e a b dst) 14 ∧ free (.minOp e a b dst) 15 ∧ free (.maxOp e a b dst) 16

/-- The queue is first in, first out, and an empty queue lets one clock cycle pass: the model's choices (log 6, log 9). -/
def Obligations.StepRuns : Prop :=
  ∀ (d : Device) (c : Instr) (rest : List Instr),
    step ⟨d, c :: rest⟩ = exec c ⟨d, rest⟩ ∧ step ⟨d, []⟩ = .next ⟨idleCycle d, []⟩ ∧
    ∀ nbits w, decodeTableWord nbits w = none ∧ State.withFetchWord ⟨d, c :: rest⟩ nbits w = ⟨d, c :: rest⟩

/-- R526: a record never returns to blank. That a valid record keeps its key and secret is read from R527 to R529. -/
def Obligations.OwnersStay : Prop :=
  ∀ s s' : State, step s = .next s' → OwnersKept s.dev s'.dev ∧ s.dev.time.now ≤ s'.dev.time.now

/-- The memories of the engines and the staging memories stay sorted by address with no zero listed (the model's form of
memory); `out` only grows. -/
def Obligations.MemoriesStayCanonical : Prop :=
  ∀ s s' : State, step s = .next s' → (s.dev.MemoriesWf → s'.dev.MemoriesWf) ∧ s.dev.out <+: s'.dev.out

/-- No command stops the block on ordinary data: only a mover that addresses staging SRAM beyond its 128 MiB (R6) does. -/
def Obligations.EveryCommandGoesOn : Prop :=
  ∀ (c : Instr) (s : State),
    let goes := ∃ t, exec c s = .next t ∧ t.pending = s.pending ∧ Kept s.dev t.dev
    ((∀ e w, c ≠ .moverDone e w) → goes) ∧
    ∀ e w, c = .moverDone e w → goes ∨ ∃ a, exec c s = .fault (.stagingAddress a)

/-- R6, R181, R404, R412, R526. -/
def Obligations.ResetHolds : Prop :=
  let d := State.reset.dev
  State.reset.pending = [] ∧ d.out = [] ∧ d.time.st = .unset ∧ d.time.established = false ∧
  d.sec.owners = List.replicate 15 ⟨.blank, [], []⟩ ∧ isOwned d = false ∧ ownerDigest d = List.replicate 48 0 ∧
  d.board.entries = [] ∧ d.admin.slots.length = 64 ∧ (∀ n, (longSlot n d).state = 0) ∧ d.MemoriesWf ∧
  d.ports.ports.length = 8 ∧ d.eng.engines.length = 64 ∧ d.nvme.cmds = [] ∧ d.nvme.locks = [] ∧ d.peer.waiting = []

/-- R220. -/
def Obligations.SearchPriority : Prop :=
  (∀ (t : Tbl SearchEntry) (r key : Nat),
    let fits := fun (e : Nat × SearchEntry) => e ∈ t ∧ inPart r e.1 = true ∧ entryMatches key e.2 = true
    (searchIn t r key = none ↔ ∀ e, ¬ fits e) ∧
    ∀ b, searchIn t r key = some b → fits b ∧
      ∀ e, fits e → b.2.prio < e.2.prio ∨ (b.2.prio = e.2.prio ∧ b.1 ≤ e.1)) ∧
  (∀ (s : State) (r : SearchReq) (e : Nat), nextSearch s.dev = some r → r.engine = some e → e < s.dev.eng.engines.length →
    (engineOf e s.dev).ports.length = 8 → Gives (.searchResult []) s fun t =>
      (engineOf e t).ports.getD 6 0 = searchPort (answerSearch r [] s.dev) % 2 ^ 64 ∧ bit (engineOf e t).conds 18 = true ∧
        bit (engineOf e t).conds 19 = (answerSearch r [] s.dev).isSome ∧ t.cam.queue = s.dev.cam.queue.filter (·.id != r.id)) ∧
  (∀ e : Nat × SearchEntry, e.1 < 2 ^ 31 → e.2.data < 2 ^ 32 → let p := searchPort (some e)
    bit p 63 = true ∧ bits p 62 32 = e.1 ∧ bits p 31 0 = e.2.data ∧ searchPort none = 0)

/-- R607, R544. -/
def Obligations.PinStates : Prop :=
  ∀ s : State,
    (s.dev.power.run ≠ .unpowered → Gives .porstNAssert s fun t =>
      (∀ c, pinState (.flash c) t = .hiZ) ∧ (∀ g, pinState (.cgPwrEnN g) t = .hiZ ∧ lineLevel (.cgPwrEnN g) t = some true) ∧
      (∀ n, pinState (.fanPwm n) t = .hiZ ∧ lineLevel (.fanPwm n) t = some false) ∧ pinState .aliveOut t = .hiZ ∧ pinState .epochOut t = .hiZ ∧
      pinState .fenceOutN t = .hiZ ∧ pinState .canTx t = .hiZ ∧ pinState .coreEn t = .low ∧ pinState .linkTx t = .electricalIdle ∧
      (∀ p l, pinState (.portTx p l) t = .electricalIdle) ∧
      pinState .ddrReset t = if s.dev.power.dormancy.isSome then .selfRefresh else .low) ∧
    (Gives .shelfPowerLoss s fun t => ∀ p, pinState p t = .hiZ ∨ pinState p t = .noOutput) ∧
    (s.dev.power.run = .ready →
      (∀ c, s.dev.power.frozenAt = none → (pinState (.flash c) s.dev = .driven ↔ bit s.dev.peer.driven c = true)) ∧
      (∀ g other, nandPowered g other s.dev = (other || domainOn g s.dev)))

/-- R20, R21, R148: `commitsAt` is the condition of R20 and R47 on the group's tick. -/
def Obligations.WritesCommit : Prop :=
  ∀ (s : State) (n : Nat) (e : BoardEntry), LaunchesAlone n e s.dev → e.action = 0x01 →
    let w := bucketGroup e.launch (launchedAt n e s.dev)
    ∀ c : Cmd, w.nvme.cmds = [c] → commitsAt e.launch c = true → c.fwdFrom = none → c.fwdTo = none → c.parent = none →
      isRange c.sqe = false → (c.kind = KvKind.delete → isSecure c.sqe = false) → (c.items.map (·.key)).Nodup → reachable c.q w = true → c.q.port < 8 →
      let k := c.tick.getD e.launch
      Leads (fun v => afterLaunch n (settle (writePages e.launch (boundarySnaps e.launch (writeLive (settleSalts v)))))) (.commitGroup n) s fun v =>
        v.nvme.cmds = [] ∧ (∀ l ∈ v.nvme.locks, l.cmd ≠ c.id) ∧
        (∀ i ∈ c.items, JRecord.keyVersion (c.ns w) i.key i.mseq i.isDelete k ∈ v.stripe.queued ∧
          liveVersion (c.ns w) i.key v = if i.isDelete then none else some ⟨k, i.mseq, false, false⟩) ∧
        (∀ ns key, (ns = c.ns w → ∀ i ∈ c.items, i.key ≠ key) → keyEntry? ns key v = keyEntry? ns key w) ∧
        ∃ flow, Posted c.q.port w v (.completion c.q c.sqe.cid .success 0 0 [] flow)
end

