-- ==== Sys2Proof/Laws/Tables.lean ====
section
/-! SUPPORT. Laws of the sparse tables, memories and bit fields of Bytes.lean. -/

namespace Sys2Proof.Machine

/-! ## Tables -/

theorem tblWf_tail {α : Type} {r : Nat × α} {t : Tbl α} (h : tblWf (r :: t) = true) : tblWf t = true := by
  cases t with
  | nil => rfl
  | cons q t => simp only [tblWf, Bool.and_eq_true] at h; exact h.2

theorem tblWf_head_lt {α : Type} {t : Tbl α} : ∀ {r : Nat × α}, tblWf (r :: t) = true → ∀ q ∈ t, r.1 < q.1 := by
  induction t with
  | nil => intro r _ q hq; cases hq
  | cons p t ih =>
    intro r h q hq
    have hp : r.1 < p.1 := by simp only [tblWf, Bool.and_eq_true, decide_eq_true_eq] at h; exact h.1
    rcases List.mem_cons.1 hq with rfl | hq
    · exact hp
    · exact lt_trans hp (ih (tblWf_tail h) q hq)

theorem tblWf_cons {α : Type} {r : Nat × α} {t : Tbl α} (h : tblWf t = true) (hr : ∀ q ∈ t, r.1 < q.1) :
    tblWf (r :: t) = true := by
  cases t with
  | nil => rfl
  | cons q t => simp only [tblWf, Bool.and_eq_true, decide_eq_true_eq]; exact ⟨hr q (by simp), h⟩

theorem tblGet?_none_of_lt {α : Type} {t : Tbl α} {k : Nat} (h : ∀ q ∈ t, k < q.1) : tblGet? t k = none := by
  induction t with
  | nil => rfl
  | cons q t ih =>
    have h1 := h q (by simp)
    have h2 : (q.1 == k) = false := by simp; omega
    simp only [tblGet?, h2]
    exact ih fun r hr => h r (by simp [hr])

/-- A row put is the row read. -/
theorem tblGet?_tblPut_same {α : Type} (t : Tbl α) (k : Nat) (v : α) : tblGet? (tblPut t k v) k = some v := by
  induction t with
  | nil => simp [tblPut, tblGet?]
  | cons r t ih =>
    unfold tblPut
    split
    · simp [tblGet?]
    · split
      · simp [tblGet?]
      · rename_i h; simp [tblGet?, h, ih]

/-- Putting a row leaves every other row. -/
theorem tblGet?_tblPut_other {α : Type} (t : Tbl α) {j k : Nat} (v : α) (h : j ≠ k) :
    tblGet? (tblPut t k v) j = tblGet? t j := by
  induction t with
  | nil => simp [tblPut, tblGet?, Ne.symm h]
  | cons r t ih =>
    unfold tblPut
    split
    · simp [tblGet?, Ne.symm h]
    · split
      · rename_i hk; simp only [beq_iff_eq] at hk; simp [tblGet?, hk, Ne.symm h]
      · simp only [tblGet?]; split
        · rfl
        · exact ih

/-- A row taken out is absent. -/
theorem tblGet?_tblDel_same {α : Type} (t : Tbl α) (k : Nat) : tblGet? (tblDel t k) k = none := by
  induction t with
  | nil => rfl
  | cons r t ih =>
    unfold tblDel
    split
    · exact ih
    · rename_i hk; simp [tblGet?, hk, ih]

/-- Taking a row out leaves every other row. -/
theorem tblGet?_tblDel_other {α : Type} (t : Tbl α) {j k : Nat} (h : j ≠ k) : tblGet? (tblDel t k) j = tblGet? t j := by
  induction t with
  | nil => rfl
  | cons r t ih =>
    unfold tblDel
    split
    · rename_i hk; simp only [beq_iff_eq] at hk; simp [tblGet?, hk, Ne.symm h, ih]
    · simp only [tblGet?]; split
      · rfl
      · exact ih

theorem tblPut_mem {α : Type} {t : Tbl α} {k : Nat} {v : α} {q : Nat × α} (h : q ∈ tblPut t k v) :
    q = (k, v) ∨ q ∈ t := by
  induction t with
  | nil => simp [tblPut] at h; exact .inl h
  | cons r t ih =>
    unfold tblPut at h
    split at h
    · simp at h ⊢; tauto
    · split at h
      · simp at h ⊢; tauto
      · rcases List.mem_cons.1 h with rfl | h
        · simp
        · rcases ih h with h | h <;> simp [h]

theorem tblDel_mem {α : Type} {t : Tbl α} {k : Nat} {q : Nat × α} (h : q ∈ tblDel t k) : q ∈ t := by
  induction t with
  | nil => exact h
  | cons r t ih =>
    unfold tblDel at h
    split at h
    · simp [ih h]
    · rcases List.mem_cons.1 h with rfl | h
      · simp
      · simp [ih h]

/-- Putting a row keeps the order of the keys. -/
theorem tblWf_tblPut {α : Type} {t : Tbl α} (k : Nat) (v : α) (h : tblWf t = true) : tblWf (tblPut t k v) = true := by
  induction t with
  | nil => rfl
  | cons r t ih =>
    unfold tblPut
    split
    · rename_i hk
      refine tblWf_cons h fun q hq => ?_
      rcases List.mem_cons.1 hq with rfl | hq
      · exact hk
      · exact lt_trans hk (tblWf_head_lt h q hq)
    · split
      · rename_i hk
        simp only [beq_iff_eq] at hk
        exact tblWf_cons (tblWf_tail h) fun q hq => hk ▸ tblWf_head_lt h q hq
      · rename_i h1 h2
        simp only [beq_iff_eq] at h2
        refine tblWf_cons (ih (tblWf_tail h)) fun q hq => ?_
        rcases tblPut_mem hq with rfl | hq
        · simp only; omega
        · exact tblWf_head_lt h q hq

/-- Taking a row out keeps the order of the keys. -/
theorem tblWf_tblDel {α : Type} {t : Tbl α} (k : Nat) (h : tblWf t = true) : tblWf (tblDel t k) = true := by
  induction t with
  | nil => rfl
  | cons r t ih =>
    unfold tblDel
    split
    · exact ih (tblWf_tail h)
    · exact tblWf_cons (ih (tblWf_tail h)) fun q hq => tblWf_head_lt h q (tblDel_mem hq)

/-- Storing a value keeps the canonical form. -/
theorem tblCanon_tblStore {α : Type} [DecidableEq α] {dflt : α} {t : Tbl α} (k : Nat) (v : α)
    (h : tblCanon dflt t = true) : tblCanon dflt (tblStore dflt t k v) = true := by
  simp only [tblCanon, Bool.and_eq_true, List.all_eq_true, decide_eq_true_eq] at h ⊢
  unfold tblStore
  split
  · exact ⟨tblWf_tblDel k h.1, fun q hq => h.2 q (tblDel_mem hq)⟩
  · rename_i hv
    refine ⟨tblWf_tblPut k v h.1, fun q hq => ?_⟩
    rcases tblPut_mem hq with rfl | hq
    · exact hv
    · exact h.2 q hq

/-- A value stored is the value read. -/
theorem tblGetD_tblStore_same {α : Type} [DecidableEq α] {dflt : α} (t : Tbl α) (k : Nat) (v : α) : tblGetD (tblStore dflt t k v) k dflt = v := by
  unfold tblStore tblGetD
  split
  · rename_i hv; simp [tblGet?_tblDel_same, hv]
  · simp [tblGet?_tblPut_same]

/-- Storing a value leaves every other number's value. -/
theorem tblGetD_tblStore_other {α : Type} [DecidableEq α] {dflt : α} (t : Tbl α) {j k : Nat} (v : α) (h : j ≠ k) :
    tblGetD (tblStore dflt t k v) j dflt = tblGetD t j dflt := by
  unfold tblStore tblGetD
  split
  · rw [tblGet?_tblDel_other t h]
  · rw [tblGet?_tblPut_other t v h]

/-! ## Memories -/

/-- Writing a byte keeps the canonical form. -/
theorem memPut_wf {m : List (Nat × BitVec 8)} (a : Nat) (b : Byte) (h : Memory.wf m = true) :
    Memory.wf (memPut m a b) = true := tblCanon_tblStore a b h

/-- Writing bytes keeps the canonical form. -/
theorem memWrite_wf {m : List (Nat × BitVec 8)} (a : Nat) (bs : Bytes) (h : Memory.wf m = true) :
    Memory.wf (memWrite m a bs) = true := by
  induction bs generalizing m a with
  | nil => exact h
  | cons b bs ih => exact ih _ (memPut_wf a b h)

/-- The byte written is the byte read. -/
theorem memGet_memPut_same (m : List (Nat × BitVec 8)) (a : Nat) (b : Byte) : memGet (memPut m a b) a = b :=
  tblGetD_tblStore_same m a b

/-- Writing a byte leaves every other byte. -/
theorem memGet_memPut_other (m : List (Nat × BitVec 8)) {a c : Nat} (b : Byte) (h : c ≠ a) :
    memGet (memPut m a b) c = memGet m c := tblGetD_tblStore_other m b h

/-- Writing bytes leaves every byte outside them. -/
theorem memGet_memWrite_outside (m : List (Nat × BitVec 8)) (a c : Nat) (bs : Bytes) (h : c < a ∨ a + bs.length ≤ c) :
    memGet (memWrite m a bs) c = memGet m c := by
  induction bs generalizing m a with
  | nil => rfl
  | cons b bs ih =>
    simp only [List.length_cons] at h
    rw [memWrite, ih _ _ (by omega), memGet_memPut_other _ _ (by omega)]

/-- Bytes written are the bytes read. -/
theorem memGet_memWrite_inside (m : List (Nat × BitVec 8)) (a i : Nat) (bs : Bytes) (hi : i < bs.length) : memGet (memWrite m a bs) (a + i) = bs[i] := by
  induction bs generalizing m a i with
  | nil => simp at hi
  | cons b bs ih =>
    cases i with
    | zero => rw [memWrite, memGet_memWrite_outside _ _ _ _ (by omega)]; simp [memGet_memPut_same]
    | succ i =>
      rw [memWrite, show a + (i + 1) = a + 1 + i by omega, ih (memPut m a b) (a + 1) i (by simpa using hi)]
      rfl

theorem memRead_length (m : List (Nat × BitVec 8)) (a n : Nat) : (memRead m a n).length = n := by
  induction n generalizing a with
  | zero => rfl
  | succ n ih => simp [memRead, ih]

/-- A read of what was just written gives it. -/
theorem memRead_memWrite (m : List (Nat × BitVec 8)) (a : Nat) (bs : Bytes) :
    memRead (memWrite m a bs) a bs.length = bs := by
  have key : ∀ (n a c : Nat) (m : List (Nat × BitVec 8)) (l : Bytes), l.length = n →
      (∀ i (hi : i < l.length), memGet m (a + i) = l[i]) → memRead m a n = l := by
    intro n
    induction n with
    | zero => intro a c m l hl _; simp [memRead, List.length_eq_zero_iff.1 hl]
    | succ n ih =>
      intro a c m l hl hg
      cases l with
      | nil => simp at hl
      | cons b l =>
        rw [memRead, ih (a + 1) c m l (by simpa using hl) fun i hi => by
          have := hg (i + 1) (by simpa using hi)
          rw [show a + 1 + i = a + (i + 1) by omega, this]; rfl]
        have := hg 0 (by simp)
        simp at this
        rw [this]
  exact key bs.length a 0 _ bs rfl fun i hi => memGet_memWrite_inside m a i bs hi

/-! ## Bits and byte order -/

/-- A big-endian value is the little-endian value of the reversed bytes. -/
theorem beNat_foldl (bs : Bytes) (a : Nat) : bs.foldl (fun a b => a * 256 + b.toNat) a = a * 256 ^ bs.length + leNat bs.reverse := by
  induction bs generalizing a with
  | nil => simp [leNat]
  | cons b bs ih =>
    have h : ∀ (l : Bytes) (b : Byte), leNat (l ++ [b]) = leNat l + 256 ^ l.length * b.toNat := by
      intro l b
      induction l with
      | nil => simp [leNat]
      | cons c l ih => simp only [List.cons_append, leNat, ih, List.length_cons, pow_succ]; ring
    simp only [List.foldl_cons, ih, List.reverse_cons, h, List.length_cons, List.length_reverse, pow_succ]; ring

theorem bit_eq_testBit (v n : Nat) : bit v n = Nat.testBit v n := by
  simp [bit, Nat.testBit, Nat.shiftRight_eq_div_pow, Nat.and_comm 1, Nat.and_one_is_mod]


theorem bit_setBit_same (v n : Nat) (b : Bool) : bit (setBit v n b) n = b := by
  unfold setBit
  split
  · rename_i h; simpa using h
  · rename_i h
    have hp : 0 < 2 ^ n := Nat.two_pow_pos n
    split
    · rename_i hb
      subst hb
      have hv : v / 2 ^ n % 2 = 0 := by simp [bit] at h; omega
      have : (v + 2 ^ n) / 2 ^ n = v / 2 ^ n + 1 := by rw [Nat.add_div_right _ hp]
      simp [bit, this]; omega
    · rename_i hb
      have hb' : b = false := by simpa using hb
      subst hb'
      have hv : v / 2 ^ n % 2 = 1 := by simp [bit] at h; omega
      have hge : 2 ^ n ≤ v := by
        by_contra hlt
        rw [Nat.div_eq_of_lt (by omega)] at hv; simp at hv
      have : (v - 2 ^ n) / 2 ^ n = v / 2 ^ n - 1 := by
        have := Nat.sub_mul_div v (2 ^ n) 1
        simpa using this
      simp [bit, this]; omega

/-- Adding a bit that is 0 changes no other bit. -/
theorem bit_add_two_pow {v n m : Nat} (hv : v / 2 ^ n % 2 = 0) (h : m ≠ n) : bit (v + 2 ^ n) m = bit v m := by
  have key : (v + 2 ^ n) / 2 ^ m % 2 = v / 2 ^ m % 2 := by
    rcases Nat.lt_or_gt_of_ne h with hlt | hgt
    · obtain ⟨k, rfl⟩ : ∃ k, n = m + (k + 1) := ⟨n - m - 1, by omega⟩
      have : v + 2 ^ (m + (k + 1)) = v + 2 ^ m * (2 ^ k * 2) := by rw [pow_add, pow_succ]
      rw [this, Nat.add_mul_div_left _ _ (Nat.two_pow_pos m)]
      omega
    · obtain ⟨k, rfl⟩ : ∃ k, m = n + (k + 1) := ⟨m - n - 1, by omega⟩
      have e : ∀ x, x / 2 ^ (n + (k + 1)) = x / 2 ^ n / 2 / 2 ^ k := by
        intro x; rw [pow_add, pow_succ, Nat.mul_comm (2 ^ k) 2, ← Nat.div_div_eq_div_mul, ← Nat.div_div_eq_div_mul]
      rw [e, e, Nat.add_div_right _ (Nat.two_pow_pos n)]
      congr 2
      omega
  simp [bit, key]

/-- Setting a bit changes no other bit. -/
theorem bit_setBit_other (v n m : Nat) (b : Bool) (h : m ≠ n) : bit (setBit v n b) m = bit v m := by
  unfold setBit
  split
  · rfl
  · rename_i hb
    split
    · rename_i hb1
      subst hb1
      exact bit_add_two_pow (by simp [bit] at hb; omega) h
    · rename_i hb1
      have hb' : b = false := by simpa using hb1
      subst hb'
      have hv : v / 2 ^ n % 2 = 1 := by simp [bit] at hb; omega
      have hge : 2 ^ n ≤ v := by
        by_contra hlt
        rw [Nat.div_eq_of_lt (by omega)] at hv; simp at hv
      have hw : (v - 2 ^ n) / 2 ^ n = v / 2 ^ n - 1 := by simpa using Nat.sub_mul_div v (2 ^ n) 1
      have := bit_add_two_pow (v := v - 2 ^ n) (n := n) (m := m) (by omega) h
      rw [Nat.sub_add_cancel hge] at this
      exact this.symm

end Sys2Proof.Machine
end

