-- ==== Sys2Proof/Laws/Answers.lean ====
section
/-! SUPPORT. What a completion or another frame of a port changes, and that an open association gets its answer. -/

namespace Sys2Proof.Machine

/-! ## What sending changes -/

theorem SamePort.refl (x : Port) : SamePort x x := ⟨x.mac, x.ovf, x.ovfReported, x.txWait, rfl⟩

theorem SamePort.trans {x y z : Port} (h : SamePort x y) (k : SamePort y z) : SamePort x z := by
  obtain ⟨_, _, _, _, rfl⟩ := h
  obtain ⟨m, o, r, w, rfl⟩ := k
  exact ⟨m, o, r, w, rfl⟩

theorem Spoke.refl (a : Device) : Spoke a a := ⟨_, _, _, _, _, _, rfl, List.prefix_rfl, fun _ _ _ => rfl, fun _ => .refl _⟩

theorem Spoke.trans {a b c : Device} (h : Spoke a b) (k : Spoke b c) : Spoke a c := by
  obtain ⟨_, _, _, _, _, _, rfl, p, o, f⟩ := h
  obtain ⟨_, _, _, _, _, _, rfl, p', o', f'⟩ := k
  exact ⟨_, _, _, _, _, _, rfl, p.trans p', fun k v h => (o' k v h).trans (o k v h), fun n => (f n).trans (f' n)⟩

theorem Spoke.out {a b : Device} (h : Spoke a b) : a.out <+: b.out := by obtain ⟨_, _, _, _, _, _, rfl, p, _, _⟩ := h; exact p

theorem Spoke.odSel {a b : Device} (h : Spoke a b) {idx sub sel : Nat} (hk : ¬ CountKey (odKey idx sub sel)) :
    odSel idx sub sel b = odSel idx sub sel a := by
  obtain ⟨_, _, _, _, _, _, rfl, _, o, _⟩ := h
  exact o _ _ hk

theorem emit_spoke (o : Output) (d : Device) : Spoke d (emit o d) :=
  ⟨d.ports.ports, d.admin.events, d.admin.eventSeq, d.can, d.dict.cells, d.out ++ [o], rfl, List.prefix_append _ _, fun _ _ _ => rfl, fun _ => .refl _⟩

theorem portOf_onPort (p n : Nat) (f : Port → Port) (d : Device) :
    portOf n (onPort p f d) = if n = p ∧ n < d.ports.ports.length then f (portOf n d) else portOf n d := by
  simp only [portOf, onPort, modNth, List.getD_eq_getElem?_getD, List.getElem?_modify]
  by_cases h : p = n
  · subst h
    by_cases hl : p < d.ports.ports.length
    · simp [hl]
    · simp [hl]
  · simp [h, Ne.symm h]

theorem onPort_spoke (p : Nat) {f : Port → Port} (hf : ∀ x, SamePort x (f x)) (d : Device) : Spoke d (onPort p f d) :=
  ⟨_, d.admin.events, d.admin.eventSeq, d.can, d.dict.cells, d.out, rfl, List.prefix_rfl, fun _ _ _ => rfl, fun n => by
    show SamePort _ (portOf n (onPort p f d))
    rw [portOf_onPort]
    split_ifs
    · exact hf _
    · exact .refl _⟩

theorem can_spoke (c : CanState) (d : Device) : Spoke d { d with can := c } :=
  ⟨d.ports.ports, d.admin.events, d.admin.eventSeq, c, d.dict.cells, d.out, rfl, List.prefix_rfl, fun _ _ _ => rfl, fun _ => .refl _⟩

theorem odBump_spoke {idx sub : Nat} (n : Nat) (d : Device) (h : CountKey (odKey idx sub 0)) : Spoke d (odBump idx sub n d) :=
  ⟨d.ports.ports, d.admin.events, d.admin.eventSeq, d.can, _, d.out, rfl, List.prefix_rfl, fun k v hk =>
    show tblGetD (tblStore _ d.dict.cells _ _) k v = _ by
      have hne : k ≠ odKey idx sub 0 := fun e => hk (e ▸ h)
      unfold tblGetD
      have : tblGet? (tblStore (odDefault d.nodeId idx sub 0) d.dict.cells (odKey idx sub 0) (min (odVal idx sub d + n) (odMax idx sub))) k
          = tblGet? d.dict.cells k := by
        unfold tblStore; split_ifs
        · exact tblGet?_tblDel_other _ hne
        · exact tblGet?_tblPut_other _ _ hne
      rw [this], fun _ => .refl _⟩

theorem logEvent_spoke (c u s n : Nat) (d : Device) : Spoke d (logEvent c u s n d) :=
  Spoke.trans (b := { d with admin := { d.admin with events := _, eventSeq := _ } })
    ⟨d.ports.ports, _, _, d.can, d.dict.cells, d.out, rfl, List.prefix_rfl, fun _ _ _ => rfl, fun _ => .refl _⟩ (odBump_spoke 1 _ (.inl rfl))

theorem logDrops_spoke (d : Device) : Spoke d (logDrops d) := by
  unfold logDrops
  dsimp only
  split_ifs
  · exact .trans (can_spoke _ _) (logEvent_spoke ..)
  · exact .refl _

theorem sendEmcy_spoke (c e : Nat) (d : Device) : Spoke d (sendEmcy c e d) := by
  unfold sendEmcy
  split_ifs
  · exact .refl _
  · exact .trans (emit_spoke _ _) (can_spoke _ _)
  · exact can_spoke _ _
  · exact .trans (odBump_spoke 1 _ (.inr rfl)) (.trans (can_spoke { (odBump 0x2010 0x0E 1 d).can with droppedSinceEvent := _ } _) (logDrops_spoke _))

theorem raiseEmcy_spoke (k c e : Nat) (d : Device) : Spoke d (raiseEmcy k c e d) := .trans (can_spoke _ d) (sendEmcy_spoke ..)

theorem macBump_spoke (p n k : Nat) (d : Device) : Spoke d (macBump p n k d) := by
  unfold macBump
  dsimp only
  split_ifs
  · exact .trans (onPort_spoke _ (fun x => ⟨_, _, _, _, rfl⟩) _) (.trans (onPort_spoke _ (fun x => ⟨_, _, _, _, rfl⟩) _) (logEvent_spoke ..))
  · exact .trans (onPort_spoke _ (fun x => ⟨_, _, _, _, rfl⟩) _) (.trans (onPort_spoke _ (fun x => ⟨_, _, _, _, rfl⟩) _) (.trans (logEvent_spoke ..) (raiseEmcy_spoke ..)))
  · exact onPort_spoke _ (fun x => ⟨_, _, _, _, rfl⟩) _

theorem sendNow_spoke (p : Nat) (o : Output) (d : Device) : Spoke d (sendNow p o d) :=
  .trans (emit_spoke o d) (.trans (macBump_spoke ..) (macBump_spoke ..))

theorem Spoke.foldl {α : Type} {f : Device → α → Device} (hf : ∀ d x, Spoke d (f d x)) (l : List α) (d : Device) :
    Spoke d (l.foldl f d) := by
  induction l generalizing d with
  | nil => exact .refl _
  | cons x l ih => exact .trans (hf d x) (ih _)

theorem flushPort_spoke (p : Nat) (d : Device) : Spoke d (flushPort d p) := by
  unfold flushPort
  split_ifs
  · exact .refl _
  · exact .trans (onPort_spoke _ (fun x => ⟨_, _, _, _, rfl⟩) _) (.foldl (fun d o => sendNow_spoke p o d) _ _)

theorem sendOn_spoke (p : Nat) (o : Output) (d : Device) : Spoke d (sendOn p o d) := by
  unfold sendOn
  split
  · exact sendNow_spoke ..
  · exact sendNow_spoke ..
  · dsimp only
    split_ifs
    · exact .trans (flushPort_spoke ..) (onPort_spoke _ (fun x => ⟨_, _, _, _, rfl⟩) _)
    · exact .trans (flushPort_spoke ..) (sendNow_spoke ..)

theorem sendCompletion_spoke (q : QueueRef) (t : CmdTag) (st : Status) (dw0 dw1 : Nat) (data : Bytes) (d : Device) :
    Spoke d (sendCompletion q t st dw0 dw1 data d) := by
  unfold sendCompletion
  dsimp only
  split_ifs
  · exact .trans (sendOn_spoke ..) (sendOn_spoke ..)
  · exact sendOn_spoke ..

/-- A completion without error changes nothing but what sending changes. -/
theorem complete_spoke {q : QueueRef} {t : CmdTag} {st : Status} {dw0 dw1 : Nat} {data : Bytes} {d : Device} (h : st.sct = 0 ∧ st.sc = 0) :
    Spoke d (complete q t st dw0 dw1 data d) := by
  unfold complete
  simp only [h.1, h.2, beq_self_eq_true, Bool.and_self, if_true]
  split_ifs
  · exact sendCompletion_spoke ..
  · exact .refl _

/-- Fetching an admin command changes its association alone; asking for its data only sends. -/
theorem adminServed_spoke (q : QueueRef) (c : Capsule) (d : Device) : Spoke (adminFetched q d) (adminServed q c d) := by
  unfold adminServed askData
  split_ifs
  · exact .refl _
  · exact .foldl (fun d i => sendOn_spoke ..) _ _

/-! ## The waiting frames of a port -/

theorem Spoke.portOf {a b : Device} (h : Spoke a b) (p : Nat) : SamePort (portOf p a) (portOf p b) := by
  obtain ⟨_, _, _, _, _, _, rfl, _, _, f⟩ := h
  exact f p

theorem Spoke.portOd {a b : Device} (h : Spoke a b) (p sub : Nat) : portOd p sub b = portOd p sub a :=
  h.odSel (by unfold CountKey odKey; omega)

theorem Spoke.pausedNow {a b : Device} (h : Spoke a b) (p : Nat) : pausedNow p b = pausedNow p a := by
  have ht : b.time = a.time := by obtain ⟨_, _, _, _, _, _, rfl, _⟩ := h; rfl
  obtain ⟨_, _, _, _, hp⟩ := h.portOf p
  simp only [Machine.pausedNow, framePriority, ahead, h.portOd, hp, ht]

/-- Behind a PAUSE or PFC frame a frame waits, after those that wait already. -/
theorem sendOn_paused {p : Nat} {o : Output} {d : Device} (h : pausedNow p d = true) (ho : ∀ n m, o ≠ .port n (.pause m))
    (ho' : ∀ n m k, o ≠ .port n (.pfc m k)) : sendOn p o d = onPort p (fun x => { x with txWait := x.txWait ++ [o] }) d := by
  have hf : flushPort d p = d := by unfold flushPort; simp [h]
  unfold sendOn
  split
  · exact absurd rfl (ho _ _)
  · exact absurd rfl (ho' _ _ _)
  · simp only [hf, h, if_true]

/-- Otherwise the frame leaves, after those that have waited. -/
theorem sendOn_sent {p : Nat} {o : Output} {a d : Device} (h : pausedNow p d = false) (ha : a.out <+: d.out) : Sent a (sendOn p o d) o := by
  have key : ∀ x, a.out <+: x.out → Sent a (sendNow p o x) o := by
    intro x hx
    have h2 : (emit o x).out <+: (sendNow p o x).out := ((macBump_spoke ..).trans (macBump_spoke ..)).out
    obtain ⟨u, hu⟩ := hx
    obtain ⟨w, hw⟩ := h2
    rw [Sent, ← hw, show (emit o x).out = a.out ++ u ++ [o] by simp [emit, hu]]
    simp
  unfold sendOn
  split
  · exact key _ ha
  · exact key _ ha
  · have hf := flushPort_spoke p d
    simp only [hf.pausedNow, h, Bool.false_eq_true, if_false]
    exact key _ (ha.trans hf.out)

theorem hasLink_lt {p : Nat} {d : Device} (h : hasLink p d = true) : p < d.ports.ports.length := by
  by_contra hn
  simp [hasLink, portOf, List.getD_eq_getElem?_getD, List.getElem?_eq_none (not_lt.1 hn), Reset.port] at h

/-- On a port with link a frame is sent, or waits behind a PAUSE or PFC frame (R106). -/
theorem sendOn_posted {p : Nat} {o : Output} {a d : Device} (hl : hasLink p d = true) (ha : a.out <+: d.out)
    (hw : (portOf p a).txWait.length ≤ (portOf p d).txWait.length ∨ pausedNow p d = false)
    (ho : ∀ n m, o ≠ .port n (.pause m)) (ho' : ∀ n m k, o ≠ .port n (.pfc m k)) : Posted p a (sendOn p o d) o := by
  cases hp : pausedNow p d
  · exact .inl (sendOn_sent hp ha)
  · refine .inr ?_
    rw [sendOn_paused hp ho ho', portOf_onPort, if_pos ⟨rfl, hasLink_lt hl⟩]
    have hw : (portOf p a).txWait.length ≤ (portOf p d).txWait.length := by simpa [hp] using hw
    rw [List.drop_append_of_le_length hw]
    simp

/-- A completion of an association on a port with link reaches the host, or waits behind a PAUSE or PFC frame. -/
theorem complete_answers {q : QueueRef} {c : Capsule} {st : Status} {dw0 dw1 : Nat} {data : Bytes} {a d : Device}
    (hr : reachable q d = true) (ha : a.out <+: d.out)
    (hw : (portOf q.port a).txWait.length ≤ (portOf q.port d).txWait.length ∨ pausedNow q.port d = false) :
    Answers q c st dw0 dw1 data a (complete q c.sqe.tag st dw0 dw1 data d) := by
  have hl : hasLink q.port d = true := by
    simp only [reachable, Bool.and_eq_true] at hr
    exact hr.1
  have key : ∃ flow, Posted q.port a (sendCompletion q c.sqe.tag st dw0 dw1 data d) (.completion q c.sqe.cid st dw0 dw1 data flow) := by
    unfold sendCompletion
    dsimp only
    split_ifs with h
    · have hs := sendOn_spoke q.port (.port q.port (.rdmaWrite q c.sqe.tag.cid data.length)) d
      refine ⟨_, sendOn_posted (a := a) ?_ (ha.trans hs.out) ?_ (by simp) (by simp)⟩
      · obtain ⟨_, _, _, _, he⟩ := hs.portOf q.port
        unfold hasLink at hl ⊢
        rw [he]
        exact hl
      · rw [hs.pausedNow]
        rcases hw with hw | hw
        · cases hp : pausedNow q.port d
          · exact .inr rfl
          · refine .inl ?_
            rw [sendOn_paused hp (by simp) (by simp), portOf_onPort, if_pos ⟨rfl, hasLink_lt hl⟩]
            simp; omega
        · exact .inr hw
    · exact ⟨_, sendOn_posted (a := a) hl ha hw (by simp) (by simp)⟩
  obtain ⟨flow, hf⟩ := key
  refine ⟨flow, ?_⟩
  unfold complete
  rw [if_pos hr]
  dsimp only
  split_ifs
  · exact hf
  · exact hf

/-! ## Administration commands -/

theorem assocOf_mem {p n : Nat} {x : Assoc} {d : Device} (h : assocOf p n d = some x) :
    x ∈ d.ports.assocs ∧ x.port = p ∧ x.assoc = n := by
  refine ⟨List.mem_of_find?_eq_some h, ?_⟩
  simpa using List.find?_some h

theorem assocOf_onAssoc {p n : Nat} {f : Assoc → Assoc} {x : Assoc} {d : Device} (h : assocOf p n d = some x)
    (hf : ∀ y, (f y).port = y.port ∧ (f y).assoc = y.assoc) : assocOf p n (onAssoc p n f d) = some (f x) := by
  unfold assocOf at h
  simp only [assocOf, onAssoc]
  generalize d.ports.assocs = l at h ⊢
  induction l with
  | nil => simp at h
  | cons y l ih =>
    simp only [List.map_cons, List.find?_cons] at h ⊢
    by_cases hy : (y.port == p && y.assoc == n) = true
    · simp only [hy, if_true, Option.some.injEq] at h ⊢
      subst h
      simp [(hf y).1, (hf y).2, hy]
    · simp only [Bool.not_eq_true] at hy
      simp only [hy, Bool.false_eq_true, if_false] at h ⊢
      exact ih h

theorem Spoke.assocOf {a b : Device} (h : Spoke a b) (p n : Nat) : assocOf p n b = assocOf p n a := by
  obtain ⟨_, _, _, _, _, _, rfl, _⟩ := h
  rfl

theorem Spoke.hasLink {a b : Device} (h : Spoke a b) (p : Nat) : hasLink p b = hasLink p a := by
  obtain ⟨_, _, _, _, he⟩ := h.portOf p
  simp only [Machine.hasLink, he]

/-- The frames that wait on port `p` of `b` are at least as many as in `a`, or nothing waits there. -/
def Waits (p : Nat) (a b : Device) : Prop :=
  a.out <+: b.out ∧ ((portOf p a).txWait.length ≤ (portOf p b).txWait.length ∨ pausedNow p b = false)

theorem Waits.refl (p : Nat) (a : Device) : Waits p a a := ⟨List.prefix_rfl, .inl le_rfl⟩

theorem sendOn_waits {p : Nat} {o : Output} {a d : Device} (h : Waits p a d) (ho : ∀ n m, o ≠ .port n (.pause m))
    (ho' : ∀ n m k, o ≠ .port n (.pfc m k)) : Waits p a (sendOn p o d) := by
  have hs := sendOn_spoke p o d
  refine ⟨h.1.trans hs.out, ?_⟩
  rw [hs.pausedNow]
  cases hp : pausedNow p d
  · exact .inr rfl
  · refine .inl ?_
    have hw : (portOf p a).txWait.length ≤ (portOf p d).txWait.length := by simpa [hp] using h.2
    rw [sendOn_paused hp ho ho', portOf_onPort]
    split_ifs
    · simp; omega
    · exact hw

theorem waits_foldl {α : Type} {p : Nat} {a : Device} {f : Device → α → Device} (hf : ∀ {d} x, Waits p a d → Waits p a (f d x)) (l : List α)
    {d : Device} (h : Waits p a d) : Waits p a (l.foldl f d) := by
  induction l generalizing d with
  | nil => exact h
  | cons x l ih => exact ih (hf x h)

theorem adminServed_waits (q : QueueRef) (c : Capsule) (d : Device) : Waits q.port d (adminServed q c d) := by
  have h0 : Waits q.port d (adminFetched q d) := ⟨List.prefix_rfl, .inl le_rfl⟩
  unfold adminServed askData
  split_ifs
  · exact h0
  · refine waits_foldl ?_ _ h0
    intro d i h
    dsimp only
    split_ifs <;> exact sendOn_waits h (by simp) (by simp)

/-- An admin command that arrives on an open association is run on the association and device that fetching it leaves. -/
theorem adminCmd_open {q : QueueRef} {c : Capsule} {x : Assoc} {d : Device} (h : AdminOpen q c x d) (f : Assoc → Device → Device) :
    adminCmd q c f d = f (passed x) (adminServed q c d) := by
  obtain ⟨h0, hl, ha, hc⟩ := h
  unfold adminCmd
  simp only [h0, hl, ha, bne_self_eq_false, Bool.not_true, Bool.or_self, Bool.false_eq_true, if_false, not_lt.2 hc]

/-- The association as the command finds it. -/
theorem assocOf_served {q : QueueRef} {c : Capsule} {x : Assoc} {d : Device} (h : AdminOpen q c x d) :
    assocOf q.port q.assoc (adminServed q c d) = some (passed x) := by
  rw [(adminServed_spoke q c d).assocOf]
  exact assocOf_onAssoc h.2.2.1 fun y => ⟨rfl, rfl⟩

theorem reachable_of {q : QueueRef} {y : Assoc} {d : Device} (hl : hasLink q.port d = true) (ha : assocOf q.port q.assoc d = some y) :
    reachable q d = true := by
  unfold reachable
  rw [Bool.and_eq_true]
  exact ⟨hl, List.any_eq_true.2 ⟨y, (assocOf_mem ha).1, by simp [(assocOf_mem ha).2.1, (assocOf_mem ha).2.2]⟩⟩

theorem hasLink_served {q : QueueRef} {c : Capsule} {x : Assoc} {d : Device} (h : AdminOpen q c x d) :
    hasLink q.port (adminServed q c d) = true := by
  rw [(adminServed_spoke q c d).hasLink]
  exact h.2.1

/-- An admin command of an open association that completes on the ports that fetching it left answers the host. -/
theorem served_answers {q : QueueRef} {c : Capsule} {x y : Assoc} {d b : Device} {st : Status} {dw0 dw1 : Nat} {data : Bytes}
    (h : AdminOpen q c x d) (hb : portOf q.port b = portOf q.port (adminServed q c d)) (ha : assocOf q.port q.assoc b = some y)
    (ho : (adminServed q c d).out <+: b.out) (hp : pausedNow q.port b = pausedNow q.port (adminServed q c d)) :
    Answers q c st dw0 dw1 data d (complete q c.sqe.tag st dw0 dw1 data b) := by
  have hw := adminServed_waits q c d
  refine complete_answers (reachable_of ?_ ha) (hw.1.trans ho) ?_
  · have := hasLink_served h
    rw [hasLink] at this ⊢
    rwa [hb]
  · rw [hp, hb]
    exact hw.2

end Sys2Proof.Machine
end

