-- ==== Sys2Proof/Laws/Engines.lean ====
section
/-! SUPPORT. Laws of an engine's change, its registers, conditions and words. -/

namespace Sys2Proof.Machine

theorem engineOf_onEngine {e : Nat} {d : Device} (f : Engine → Engine) (h : e < d.eng.engines.length) :
    engineOf e (onEngine e f d) = f (engineOf e d) := by
  simp [engineOf, onEngine, modNth, List.getD_eq_getElem?_getD, h]

theorem engineOf_onEngine_other {e n : Nat} (d : Device) (f : Engine → Engine) (h : n ≠ e) :
    engineOf n (onEngine e f d) = engineOf n d := by
  simp [engineOf, onEngine, modNth, List.getD_eq_getElem?_getD, Ne.symm h]

@[simp] theorem engines_length_onEngine (e : Nat) (f : Engine → Engine) (d : Device) :
    (onEngine e f d).eng.engines.length = d.eng.engines.length := by simp [onEngine, modNth]

theorem onEngine_onEngine (e : Nat) (f g : Engine → Engine) (d : Device) :
    onEngine e g (onEngine e f d) = onEngine e (fun x => g (f x)) d := by
  simp only [onEngine, modNth]
  congr 2
  apply List.ext_getElem (by simp)
  intro i h1 h2
  simp only [List.getElem_modify]
  split <;> rfl

/-- A change of an engine is that engine's replacement. -/
theorem onlyEngine_onEngine {e : Nat} {s : State} (f : Engine → Engine) (h : e < s.dev.eng.engines.length) :
    OnlyEngine e s { s with dev := onEngine e f s.dev } := by
  have hm : s.dev.eng.engines.modify e f = s.dev.eng.engines.set e (f (engineOf e s.dev)) := by
    apply List.ext_getElem (by simp)
    intro i h1 h2
    simp only [List.getElem_modify, List.getElem_set, engineOf, List.getD_eq_getElem?_getD]
    split
    · rename_i he; subst he; simp [h]
    · rfl
  unfold OnlyEngine
  rw [engineOf_onEngine f h]
  simp only [onEngine, modNth, hm]

theorem word_runs {e : Nat} {d : Device} (f : Device → Device) (h : EngineRuns e d) : word e f d = f d := by
  simp [word, runsWords, h.1, h.2.2]

theorem onCtx_eq (e : Nat) (f : SeqCtx → SeqCtx) (d : Device) :
    onCtx e f d = onEngine e (fun x => { x with ctx := f x.ctx }) d := rfl

theorem setReg_pos {e n : Nat} (v : Nat) (d : Device) (h : n ≠ 0) :
    setReg e n v d = onCtx e (fun c => { c with regs := tblStore 0 c.regs n (v % 2 ^ 64) }) d := by
  simp [setReg, h]

theorem setReg_zero (e v : Nat) (d : Device) : setReg e 0 v d = d := by simp [setReg]

theorem reg_setReg_same {e n : Nat} {d : Device} (v : Nat) (hn : n ≠ 0) (h : e < d.eng.engines.length) :
    reg e n (setReg e n v d) = v % 2 ^ 64 := by
  rw [setReg_pos v d hn, onCtx_eq]
  simp [reg, hn, engineOf_onEngine _ h, tblGetD_tblStore_same]

theorem reg_setReg_other {e n m : Nat} {d : Device} (v : Nat) (hm : m ≠ n) (h : e < d.eng.engines.length) :
    reg e m (setReg e n v d) = reg e m d := by
  by_cases hn : n = 0
  · subst hn; rw [setReg_zero]
  · rw [setReg_pos v d hn, onCtx_eq]
    simp [reg, engineOf_onEngine _ h, tblGetD_tblStore_other _ _ hm]

theorem bufWord_runs {e : Nat} {d : Device} (buf : Nat) (f : Device → Device) (h : EngineRuns e d) :
    bufWord e buf f d = f (selBuf e buf d) := by rw [bufWord, word_runs _ h]

theorem selBuf_eq (e buf : Nat) (d : Device) :
    selBuf e buf d = onEngine e (fun x => { x with ctx := { x.ctx with sel := buf } }) d := rfl

theorem bufDesc_selBuf {e : Nat} {d : Device} (buf n : Nat) (h : e < d.eng.engines.length) :
    bufDesc e n (selBuf e buf d) = bufDesc e n d := by simp [bufDesc, selBuf_eq, engineOf_onEngine _ h]

theorem bufBytes_selBuf {e : Nat} {d : Device} (buf n : Nat) (h : e < d.eng.engines.length) :
    bufBytes e n (selBuf e buf d) = bufBytes e n d := by
  simp only [bufBytes, bufDesc_selBuf _ _ h]
  simp [selBuf_eq, engineOf_onEngine _ h]

theorem reg_selBuf {e : Nat} {d : Device} (buf n : Nat) (h : e < d.eng.engines.length) :
    reg e n (selBuf e buf d) = reg e n d := by simp [reg, selBuf_eq, engineOf_onEngine _ h]

theorem curDesc_selBuf {e : Nat} {d : Device} (buf : Nat) (h : e < d.eng.engines.length) :
    curDesc e (selBuf e buf d) = curDesc e d := by simp [curDesc, selBuf_eq, engineOf_onEngine _ h]

/-- A word that changes its engine by `f` alone. -/
theorem becomes_of_eq {c : Instr} {e : Nat} {s : State} {f : Engine → Engine} {y : Engine} (hr : EngineRuns e s.dev)
    (hx : exec c s = .next { s with dev := onEngine e f s.dev }) (hy : f (engineOf e s.dev) = y) :
    EngineBecomes c e y s :=
  ⟨_, hx, by rw [← hy]; exact engineOf_onEngine f hr.2.1, onlyEngine_onEngine f hr.2.1⟩

/-- A word that stores into a register and sets or keeps the flags. -/
theorem writesReg_of_eq {c : Instr} {e dst v : Nat} {s : State} {g : SeqCtx → SeqCtx} {fl : Engine → Engine → Prop}
    (hr : EngineRuns e s.dev) (hd : dst ≠ 0)
    (hx : exec c s = .next { s with dev := onEngine e (fun x => { x with ctx := g x.ctx }) s.dev })
    (hg : g (engineOf e s.dev).ctx = { (engineOf e s.dev).ctx with
      regs := tblStore 0 (engineOf e s.dev).ctx.regs dst v, zero := (g (engineOf e s.dev).ctx).zero
      neg := (g (engineOf e s.dev).ctx).neg, carry := (g (engineOf e s.dev).ctx).carry
      ovf := (g (engineOf e s.dev).ctx).ovf })
    (hf : fl (engineOf e s.dev) { engineOf e s.dev with ctx := g (engineOf e s.dev).ctx }) :
    WritesReg c e dst v s fl := by
  have hregs : (g (engineOf e s.dev).ctx).regs = tblStore 0 (engineOf e s.dev).ctx.regs dst v := by rw [hg]
  refine ⟨_, hx, ?_, fun n hn => ?_, onlyEngine_onEngine _ hr.2.1, ?_, ?_⟩
  · simp [reg, hd, engineOf_onEngine _ hr.2.1, hregs, tblGetD_tblStore_same]
  · simp [reg, engineOf_onEngine _ hr.2.1, hregs, tblGetD_tblStore_other _ _ hn]
  · rw [OnlyRegs, engineOf_onEngine _ hr.2.1]
    dsimp only
    rw [hg]
  · rw [engineOf_onEngine _ hr.2.1]; exact hf

end Sys2Proof.Machine
end

