-- ==== Sys2Proof/Laws/Kept.lean ====
section
/-! SUPPORT. The order `Kept`: its laws, and how it passes through updates, pairs, options and folds. -/

namespace Sys2Proof.Machine

theorem OwnersKept.refl (a : Device) : OwnersKept a a := fun _ h => ⟨h, fun _ => rfl⟩

theorem OwnersKept.trans {a b c : Device} (h1 : OwnersKept a b) (h2 : OwnersKept b c) : OwnersKept a c := fun i h => by
  obtain ⟨hb, eb⟩ := h1 i h
  obtain ⟨hc, ec⟩ := h2 i hb
  refine ⟨hc, fun hv => ?_⟩
  have := ec hv
  exact this.trans (eb (by rw [← this]; exact hv))

theorem OwnersKept.of_eq {a b : Device} (h : b.sec.owners = a.sec.owners) : OwnersKept a b := by
  intro i hi
  have e : b.ownerAt i = a.ownerAt i := by simp [Device.ownerAt, h]
  exact ⟨e ▸ hi, fun _ => e⟩

theorem Kept.refl (a : Device) : Kept a a := ⟨le_refl _, List.prefix_refl _, id, .refl a⟩

theorem Kept.trans {a b c : Device} (h1 : Kept a b) (h2 : Kept b c) : Kept a c :=
  ⟨le_trans h1.now h2.now, h1.out.trans h2.out, fun h => h2.memories (h1.memories h), h1.owners.trans h2.owners⟩

/-- An update of anything but the clock, the outputs, the memories and the owner records. -/
theorem Kept.of_eq {a d d' : Device} (h : Kept a d) (h1 : d'.time.now = d.time.now) (h2 : d'.out = d.out)
    (h3 : d'.memories = d.memories) (h4 : d'.sec.owners = d.sec.owners) : Kept a d' :=
  h.trans ⟨le_of_eq h1.symm, h2 ▸ List.prefix_refl _, fun h m hm => h m (h3 ▸ hm), .of_eq h4⟩

/-- A device written field by field: the clock, the outputs, the memories and the owner records are those of `d`. -/
theorem Kept.mk_eq {base d : Device}
    {time : TimeState} {board : BoardState} {dict : DictState} {can : CanState} {ports : PortsState} {admin : AdminState} {nvme : NvmeState}
    {kv : KvState} {cam : CamState} {cipher : CipherState} {stripe : StripeState} {map : MapState} {media : MediaState}
    {peer : PeerState} {snap : SnapState} {eng : EngineState} {sec : SecState} {power : PowerState} {fans : List Fan} {fw : FirmwareState} {side : Nat} {nodeId : Nat} {conditions : Nat} {out : List Output}
    (h1 : time.now = d.time.now) (h2 : out = d.out) (h3 : eng.sram = d.eng.sram) (h4 : eng.ddr = d.eng.ddr)
    (h5 : eng.flashBuf = d.eng.flashBuf) (h6 : eng.linkBuf = d.eng.linkBuf)
    (h7 : eng.engines.map (·.mem) = d.eng.engines.map (·.mem)) (h8 : sec.owners = d.sec.owners) (h : Kept base d) :
    Kept base ⟨time, board, dict, can, ports, admin, nvme, kv, cam, cipher, stripe, map, media, peer, snap, eng, sec, power, fans, fw, side, nodeId, conditions, out⟩ :=
  h.of_eq h1 h2 (by simp only [Device.memories, h3, h4, h5, h6, h7]) h8

/-- An update whose memories are among the old ones or empty. -/
theorem Kept.of_subset {a d d' : Device} (h : Kept a d) (h1 : d'.time.now = d.time.now) (h2 : d'.out = d.out)
    (h3 : ∀ m ∈ d'.memories, m ∈ d.memories ∨ m = []) (h4 : d'.sec.owners = d.sec.owners) : Kept a d' :=
  h.trans ⟨le_of_eq h1.symm, h2 ▸ List.prefix_refl _,
    fun h m hm => (h3 m hm).elim (h m) fun e => e ▸ rfl, .of_eq h4⟩

theorem memories_map {d : Device} {f : Engine → Engine} (hf : ∀ x, (f x).mem = x.mem) :
    (d.eng.engines.map f).map (·.mem) = d.eng.engines.map (·.mem) := by
  simp [Function.comp_def, hf]

theorem memories_zipIdx {l : List Engine} {f : Engine × Nat → Engine} (hf : ∀ x, (f x).mem = x.1.mem) :
    (l.zipIdx.map f).map (·.mem) = l.map (·.mem) := by
  simp only [List.map_map, Function.comp_def, hf]
  rw [show (fun x : Engine × Nat => x.1.mem) = (·.mem) ∘ Prod.fst from rfl, ← List.map_map, List.zipIdx_map_fst]

/-- `Kept` of the device in a pair, an option or an exception. -/
def KeptP {α : Type} (a : Device) (p : α × Device) : Prop := Kept a p.2
def KeptO (a : Device) (o : Option Device) : Prop := ∀ r, o = some r → Kept a r
def KeptOP {α : Type} (a : Device) (o : Option (α × Device)) : Prop := ∀ r, o = some r → Kept a r.2
def KeptE {α ε : Type} (a : Device) (o : Except ε (α × Device)) : Prop := ∀ r, o = .ok r → Kept a r.2

/-- The device in the result of a dictionary write. -/
def OdRes.device : OdRes → Device
  | .fail _ d => d
  | .done d => d
  | .held d => d
def KeptR (a : Device) (r : OdRes) : Prop := Kept a r.device
def KeptOR (a : Device) (o : Option OdRes) : Prop := ∀ r, o = some r → KeptR a r

theorem KeptR.fail {a d : Device} {c : Nat} (h : Kept a d) : KeptR a (.fail c d) := h
theorem KeptR.done {a d : Device} (h : Kept a d) : KeptR a (.done d) := h
theorem KeptR.held {a d : Device} (h : Kept a d) : KeptR a (.held d) := h
theorem KeptR.outFail {a d : Device} {c : Nat} {r : OdRes} (e : r = .fail c d) (h : KeptR a r) : Kept a d := by
  subst e; exact h
theorem KeptR.outDone {a d : Device} {r : OdRes} (e : r = .done d) (h : KeptR a r) : Kept a d := by subst e; exact h
theorem KeptR.outHeld {a d : Device} {r : OdRes} (e : r = .held d) (h : KeptR a r) : Kept a d := by subst e; exact h
theorem KeptOR.none {a : Device} : KeptOR a none := fun _ h => nomatch h
theorem KeptOR.some {a : Device} {r : OdRes} (h : KeptR a r) : KeptOR a (some r) := fun _ e => Option.some.inj e ▸ h
theorem KeptOR.out {a : Device} {r : OdRes} {o : Option OdRes} (e : o = .some r) (h : KeptOR a o) : KeptR a r := h r e
/-- `Kept` of the device in an outcome that goes on. -/
def KeptB (a : Device) (o : Host.Outcome State Fault Refusal) : Prop := ∀ t, o = .next t → Kept a t.dev
theorem next_keptB {a : Device} {s : State} {f : Device → Device} (hf : ∀ {d}, Kept a d → Kept a (f d))
    (hs : Kept a s.dev) : KeptB a (next s f) := fun _ e => Host.Outcome.next.inj e ▸ hf hs
theorem KeptB.next {a : Device} {t : State} (h : Kept a t.dev) : KeptB a (.next t) :=
  fun _ e => Host.Outcome.next.inj e ▸ h
theorem KeptB.fault {a : Device} {r : Fault} : KeptB a (.fault r) := fun _ e => nomatch e
theorem KeptB.refused {a : Device} {r : Refusal} : KeptB a (.refused r) := fun _ e => nomatch e
theorem KeptP.mk {α : Type} {a d : Device} {x : α} (h : Kept a d) : KeptP a (x, d) := h
theorem KeptP.snd {α : Type} {a : Device} {p : α × Device} (h : KeptP a p) : Kept a p.2 := h
theorem KeptP.pair {α : Type} {a d : Device} {p : α × Device} {x : α} (e : p = (x, d)) (h : KeptP a p) : Kept a d := by
  subst e; exact h
theorem KeptO.none {a : Device} : KeptO a none := fun _ h => nomatch h
theorem KeptO.some {a d : Device} (h : Kept a d) : KeptO a (some d) := fun _ e => Option.some.inj e ▸ h
theorem KeptO.out {a d : Device} {o : Option Device} (e : o = .some d) (h : KeptO a o) : Kept a d := h d e
theorem KeptO.getD {a d : Device} {o : Option Device} (h : KeptO a o) (hd : Kept a d) : Kept a (o.getD d) := by
  cases o with
  | none => exact hd
  | some x => exact h x rfl
theorem KeptOP.none {α : Type} {a : Device} : KeptOP (α := α) a none := fun _ h => nomatch h
theorem KeptOP.some {α : Type} {a d : Device} {x : α} (h : Kept a d) : KeptOP a (some (x, d)) :=
  fun _ e => Option.some.inj e ▸ h
theorem KeptOP.out {α : Type} {a : Device} {r : α × Device} {o : Option (α × Device)} (e : o = .some r)
    (h : KeptOP a o) : Kept a r.2 := h r e
theorem KeptOP.pair {α : Type} {a : Device} {r : α × Device} {o : Option (α × Device)} (e : o = .some r)
    (h : KeptOP a o) : KeptP a r := h r e
theorem KeptE.pair {α ε : Type} {a : Device} {r : α × Device} {o : Except ε (α × Device)} (e : o = .ok r)
    (h : KeptE a o) : KeptP a r := h r e
theorem KeptO.map {β : Type} {a : Device} {o : Option β} {f : β → Device} (h : ∀ x, Kept a (f x)) :
    KeptO a (o.map f) := by
  intro r hr
  obtain ⟨x, _, rfl⟩ := Option.map_eq_some_iff.1 hr
  exact h x
theorem KeptOP.map {α β : Type} {a : Device} {o : Option β} {f : β → α × Device} (h : ∀ x, KeptP a (f x)) :
    KeptOP a (o.map f) := by
  intro r hr
  obtain ⟨x, _, rfl⟩ := Option.map_eq_some_iff.1 hr
  exact h x
theorem KeptE.error {α ε : Type} {a : Device} {x : ε} : KeptE (α := α) a (Except.error x) := fun _ h => nomatch h
theorem KeptE.ok {α ε : Type} {a d : Device} {x : α} (h : Kept a d) : KeptE (ε := ε) a (.ok (x, d)) :=
  fun _ e => Except.ok.inj e ▸ h
theorem KeptE.out {α ε : Type} {a : Device} {r : α × Device} {o : Except ε (α × Device)} (e : o = .ok r)
    (h : KeptE a o) : Kept a r.2 := h r e

theorem Kept.foldl {α : Type} {a d : Device} {f : Device → α → Device} {l : List α}
    (hf : ∀ d x, Kept a d → Kept a (f d x)) (h : Kept a d) : Kept a (l.foldl f d) := by
  induction l generalizing d with
  | nil => exact h
  | cons x l ih => exact ih (hf d x h)

theorem KeptP.foldl {α β : Type} {a : Device} {p : β × Device} {f : β × Device → α → β × Device} {l : List α}
    (hf : ∀ p x, KeptP a p → KeptP a (f p x)) (h : KeptP a p) : KeptP a (l.foldl f p) := by
  induction l generalizing p with
  | nil => exact h
  | cons x l ih => exact ih (hf p x h)

/-! ## The primitive operations -/

theorem emit_kept {a d : Device} {o : Output} (h : Kept a d) : Kept a (emit o d) :=
  h.trans ⟨le_refl _, ⟨[o], rfl⟩, id, .of_eq rfl⟩

theorem passCycles_now (n : Nat) (t : TimeState) : (passCycles n t).now = t.now + n := rfl

theorem waitUntil_kept {a d : Device} {t : Nat} (h : Kept a d) : Kept a (waitUntil t d) := by
  unfold waitUntil
  split
  · exact h
  · exact h.trans ⟨by simp [passCycles_now], List.prefix_refl _, id, .of_eq rfl⟩

theorem waitTick_kept {a d : Device} {t : Nat} (h : Kept a d) : Kept a (waitTick t d) := by
  unfold waitTick
  split
  · exact h
  · exact h.trans ⟨by simp, List.prefix_refl _, id, .of_eq rfl⟩

/-- A change of an engine that leaves its buffer memory. -/
theorem onEngine_kept {a d : Device} {e : Nat} {f : Engine → Engine} (hf : ∀ x, (f x).mem = x.mem) (h : Kept a d) :
    Kept a (onEngine e f d) := by
  refine h.of_eq rfl rfl ?_ rfl
  simp only [onEngine, modNth, Device.memories, List.cons.injEq, true_and]
  apply List.ext_getElem
  · simp
  · intro i h1 h2
    simp only [List.getElem_map, List.getElem_modify]
    split <;> simp [hf]

/-- A change of an engine that keeps its buffer memory canonical. -/
theorem onEngine_mem_kept {a d : Device} {e : Nat} {f : Engine → Engine}
    (hf : ∀ x, Memory.wf x.mem = true → Memory.wf (f x).mem = true) (h : Kept a d) : Kept a (onEngine e f d) := by
  refine h.trans ⟨le_refl _, List.prefix_refl _, fun hm m hx => ?_, .of_eq rfl⟩
  simp only [Device.MemoriesWf, Device.memories, onEngine, modNth, List.mem_cons, List.mem_map] at hm hx
  rcases hx with hx | hx | hx | hx | ⟨x, hx, rfl⟩
  · exact hm m (.inl hx)
  · exact hm m (.inr (.inl hx))
  · exact hm m (.inr (.inr (.inl hx)))
  · exact hm m (.inr (.inr (.inr (.inl hx))))
  · obtain ⟨i, hi, rfl⟩ := List.getElem_of_mem hx
    have hi' : i < d.eng.engines.length := by simpa using hi
    have hw := hm d.eng.engines[i].mem (.inr (.inr (.inr (.inr ⟨_, List.getElem_mem hi', rfl⟩))))
    simp only [List.getElem_modify]
    split
    · exact hf _ hw
    · exact hw

theorem putBytes_kept {a d : Device} {e buf : Nat} {bs : Bytes} (h : Kept a d) : Kept a (putBytes e buf bs d) :=
  onEngine_mem_kept (fun _ hx => memWrite_wf _ _ hx) h

theorem setMoverMem_kept {a d : Device} {code : Nat} {m : List (Nat × BitVec 8)} (hm : a.MemoriesWf → Memory.wf m = true)
    (h : Kept a d) : Kept a (setMoverMem code m d) := by
  refine ⟨h.now, h.out, fun ha x hx => ?_, h.owners.trans (.of_eq rfl)⟩
  have hd := h.memories ha
  have hw := hm ha
  simp only [Device.MemoriesWf, Device.memories, List.mem_cons] at hd
  simp only [setMoverMem, Device.memories] at hx
  split at hx
  · simp only [List.mem_cons] at hx
    rcases hx with rfl | hx
    · exact hw
    · exact hd x (.inr hx)
  · split at hx
    · simp only [List.mem_cons] at hx
      rcases hx with hx | rfl | hx
      · exact hd x (.inl hx)
      · exact hw
      · exact hd x (.inr (.inr hx))
    · split at hx
      · simp only [List.mem_cons] at hx
        rcases hx with hx | hx | rfl | hx
        · exact hd x (.inl hx)
        · exact hd x (.inr (.inl hx))
        · exact hw
        · exact hd x (.inr (.inr (.inr hx)))
      · simp only [List.mem_cons] at hx
        rcases hx with hx | hx | hx | rfl | hx
        · exact hd x (.inl hx)
        · exact hd x (.inr (.inl hx))
        · exact hd x (.inr (.inr (.inl hx)))
        · exact hw
        · exact hd x (.inr (.inr (.inr (.inr hx))))

/-- A record set to a state that is not blank, over a blank record or to a state that is not valid. -/
theorem setOwner_kept {a d : Device} {n : Nat} {o : Owner} (hb : o.st ≠ .blank)
    (hv : o.st = .valid → (d.ownerAt (n - 1)).st = .blank) (h : Kept a d) : Kept a (setOwner n o d) := by
  refine h.trans ⟨le_refl _, List.prefix_refl _, id, fun i hi => ?_⟩
  by_cases hc : i = n - 1 ∧ i < d.sec.owners.length
  · obtain ⟨rfl, hl⟩ := hc
    have e : (setOwner n o d).ownerAt (n - 1) = o := by simp [setOwner, Device.ownerAt, hl]
    rw [e]
    exact ⟨hb, fun hv' => absurd (hv hv') hi⟩
  · have e : (setOwner n o d).ownerAt i = d.ownerAt i := by
      simp only [setOwner, Device.ownerAt, List.getD_eq_getElem?_getD, List.getElem?_set]
      split
      · rename_i hni
        subst hni
        have : ¬ n - 1 < d.sec.owners.length := fun hl => hc ⟨rfl, hl⟩
        simp [this]
      · rfl
    rw [e]
    exact ⟨hi, fun _ => rfl⟩

end Sys2Proof.Machine
end

