-- ==== Sys2Proof/Laws/KeptA.lean ====
section
/-! SUPPORT. What no operation of Ops, Link, Board, Cipher, Cam, Store, Flash, Stripe takes back: `Kept` through each. -/

namespace Sys2Proof.Machine

/-! ## Ops -/

theorem onPort_kept {base : Device} {p} {f} {d : Device} (hd : Kept base d) :
    Kept base (onPort p f d) := by
  unfold onPort
  refine Kept.mk_eq rfl rfl rfl rfl rfl rfl rfl rfl ?_
  assumption

theorem odPutSel_kept {base : Device} {idx} {sub} {sel} {v} {d : Device} (hd : Kept base d) :
    Kept base (odPutSel idx sub sel v d) := by
  unfold odPutSel
  refine Kept.mk_eq rfl rfl rfl rfl rfl rfl rfl rfl ?_
  assumption

theorem odPut_kept {base : Device} {idx} {sub} {v} {d : Device} (hd : Kept base d) :
    Kept base (odPut idx sub v d) := by
  unfold odPut
  apply odPutSel_kept
  assumption

theorem odBump_kept {base : Device} {idx} {sub} {n} {d : Device} (hd : Kept base d) :
    Kept base (odBump idx sub n d) := by
  unfold odBump
  apply odPut_kept
  assumption

theorem logEvent_kept {base : Device} {code} {unit} {severity} {detail} {d : Device} (hd : Kept base d) :
    Kept base (logEvent code unit severity detail d) := by
  unfold logEvent
  lift_lets
  intro v1
  clear_value v1
  intro v2
  clear_value v2
  intro v3
  have h4 : Kept base v3 := by
    unfold v3
    refine Kept.mk_eq rfl rfl rfl rfl rfl rfl rfl rfl ?_
    assumption
  clear_value v3
  apply odBump_kept
  assumption

theorem logDrops_kept {base : Device} {d : Device} (hd : Kept base d) :
    Kept base (logDrops d) := by
  unfold logDrops
  lift_lets
  intro v1
  clear_value v1
  intro v2
  clear_value v2
  intro v3
  clear_value v3
  split
  · apply logEvent_kept
    refine Kept.mk_eq rfl rfl rfl rfl rfl rfl rfl rfl ?_
    assumption
  · assumption

theorem transmitEmcy_kept {base : Device} {e} {d : Device} (hd : Kept base d) :
    Kept base (transmitEmcy e d) := by
  unfold transmitEmcy
  lift_lets
  intro v1
  have h2 : Kept base v1 := by
    unfold v1
    apply emit_kept
    assumption
  clear_value v1
  intro v3
  clear_value v3
  refine Kept.mk_eq rfl rfl rfl rfl rfl rfl rfl rfl ?_
  assumption

theorem sendEmcy_kept {base : Device} {code} {event} {d : Device} (hd : Kept base d) :
    Kept base (sendEmcy code event d) := by
  unfold sendEmcy
  split
  · assumption
  · lift_lets
    intro v1
    clear_value v1
    intro v2
    clear_value v2
    intro v3
    have h4 : Kept base v3 := by
      unfold v3
      apply odBump_kept
      assumption
    clear_value v3
    intro v5
    clear_value v5
    split
    · apply transmitEmcy_kept
      assumption
    · split
      · refine Kept.mk_eq rfl rfl rfl rfl rfl rfl rfl rfl ?_
        assumption
      · apply logDrops_kept
        refine Kept.mk_eq rfl rfl rfl rfl rfl rfl rfl rfl ?_
        assumption

theorem raiseEmcy_kept {base : Device} {key} {code} {event} {d : Device} (hd : Kept base d) :
    Kept base (raiseEmcy key code event d) := by
  unfold raiseEmcy
  apply sendEmcy_kept
  refine Kept.mk_eq rfl rfl rfl rfl rfl rfl rfl rfl ?_
  assumption

theorem macBump_kept {base : Device} {p} {n} {k} {d : Device} (hd : Kept base d) :
    Kept base (macBump p n k d) := by
  unfold macBump
  lift_lets
  intro v1
  clear_value v1
  intro v2
  clear_value v2
  intro v3
  have h4 : Kept base v3 := by
    unfold v3
    apply onPort_kept
    assumption
  clear_value v3
  intro v5
  clear_value v5
  intro v6
  have h7 : Kept base v6 := by
    unfold v6
    apply onPort_kept
    assumption
  clear_value v6
  intro v8
  have h9 : Kept base v8 := by
    unfold v8
    apply logEvent_kept
    assumption
  clear_value v8
  split
  · split
    · assumption
    · apply raiseEmcy_kept
      assumption
  · assumption

theorem sendNow_kept {base : Device} {p} {o} {d : Device} (hd : Kept base d) :
    Kept base (sendNow p o d) := by
  unfold sendNow
  lift_lets
  intro v1
  clear_value v1
  apply macBump_kept
  apply macBump_kept
  apply emit_kept
  assumption

theorem flushPort_kept {base : Device} {d : Device} {p} (hd : Kept base d) :
    Kept base (flushPort d p) := by
  unfold flushPort
  split
  · assumption
  · apply Kept.foldl
    · intro x1 x2 h3
      apply sendNow_kept
      assumption
    · apply onPort_kept
      assumption

theorem sendOn_kept {base : Device} {p} {o} {d : Device} (hd : Kept base d) :
    Kept base (sendOn p o d) := by
  unfold sendOn
  split
  · apply sendNow_kept
    assumption
  · apply sendNow_kept
    assumption
  · lift_lets
    intro v1
    have h2 : Kept base v1 := by
      unfold v1
      apply flushPort_kept
      assumption
    clear_value v1
    split
    · apply onPort_kept
      assumption
    · apply sendNow_kept
      assumption

theorem sendCompletion_kept {base : Device} {q} {t} {st} {dw0} {dw1} {data} {d : Device} (hd : Kept base d) :
    Kept base (sendCompletion q t st dw0 dw1 data d) := by
  unfold sendCompletion
  lift_lets
  intro v1
  have h2 : Kept base v1 := by
    unfold v1
    split
    · apply sendOn_kept
      assumption
    · assumption
  clear_value v1
  apply sendOn_kept
  assumption

theorem complete_kept {base : Device} {q} {t} {st} {dw0} {dw1} {data} {d : Device} (hd : Kept base d) :
    Kept base (complete q t st dw0 dw1 data d) := by
  unfold complete
  lift_lets
  intro v1
  have h2 : Kept base v1 := by
    unfold v1
    split
    · apply sendCompletion_kept
      assumption
    · assumption
  clear_value v1
  intro v3
  clear_value v3
  intro v4
  clear_value v4
  split
  · assumption
  · refine Kept.mk_eq rfl rfl rfl rfl rfl rfl rfl rfl ?_
    assumption

theorem completeSt_kept {base : Device} {q} {t} {st} {d : Device} (hd : Kept base d) :
    Kept base (completeSt q t st d) := by
  unfold completeSt
  apply complete_kept
  assumption

theorem bumpVersion_kept {base : Device} {win} {d : Device} (hd : Kept base d) :
    Kept base (bumpVersion win d) := by
  unfold bumpVersion
  refine Kept.mk_eq rfl rfl rfl rfl rfl rfl rfl rfl ?_
  assumption

theorem draw_kept {base : Device} {d : Device} (hd : Kept base d) :
    KeptP base (draw d) := by
  unfold draw
  apply KeptP.mk
  refine Kept.mk_eq rfl rfl rfl rfl rfl rfl rfl rfl ?_
  assumption

theorem clearEmcy_kept {base : Device} {key} {event} {d : Device} (hd : Kept base d) :
    Kept base (clearEmcy key event d) := by
  unfold clearEmcy
  split
  · lift_lets
    intro v1
    clear_value v1
    intro v2
    clear_value v2
    intro v3
    have h4 : Kept base v3 := by
      unfold v3
      refine Kept.mk_eq rfl rfl rfl rfl rfl rfl rfl rfl ?_
      assumption
    clear_value v3
    split
    · apply sendEmcy_kept
      assumption
    · assumption
  · assumption

theorem aenUpdate_kept {base : Device} {f} {d : Device} (hd : Kept base d) :
    Kept base (aenUpdate f d) := by
  unfold aenUpdate
  lift_lets
  intro v1
  clear_value v1
  intro v2
  clear_value v2
  apply Kept.foldl
  · intro x3 x4 h5
    split
    · rename_i e6 e7 e8
      apply complete_kept
      assumption
    · assumption
  · refine Kept.mk_eq rfl rfl rfl rfl rfl rfl rfl rfl ?_
    assumption

theorem aenPost_kept {base : Device} {sel} {typ} {info} {page} {warning} {d : Device} (hd : Kept base d) :
    Kept base (aenPost sel typ info page warning d) := by
  unfold aenPost
  apply aenUpdate_kept
  assumption

theorem refreshWarning_kept {base : Device} {d : Device} (hd : Kept base d) :
    Kept base (refreshWarning d) := by
  unfold refreshWarning
  lift_lets
  intro v1
  clear_value v1
  intro v2
  clear_value v2
  intro v3
  clear_value v3
  intro v4
  have h5 : Kept base v4 := by
    unfold v4
    refine Kept.mk_eq rfl rfl rfl rfl rfl rfl rfl rfl ?_
    assumption
  clear_value v4
  apply Kept.foldl
  · intro x6 x7 h8
    split
    · apply aenPost_kept
      assumption
    · assumption
  · assumption

theorem setCond_kept {base : Device} {n} {b} {d : Device} (hd : Kept base d) :
    Kept base (setCond n b d) := by
  unfold setCond
  split
  · assumption
  · lift_lets
    intro v1
    have h2 : Kept base v1 := by
      unfold v1
      refine Kept.mk_eq rfl rfl rfl rfl rfl rfl rfl rfl ?_
      assumption
    clear_value v1
    intro v3
    have h4 : Kept base v3 := by
      unfold v3
      apply logEvent_kept
      assumption
    clear_value v3
    intro v5
    have h6 : Kept base v5 := by
      unfold v5
      apply aenPost_kept
      assumption
    clear_value v5
    intro v7
    have h8 : Kept base v7 := by
      unfold v7
      apply refreshWarning_kept
      assumption
    clear_value v7
    split
    · split
      · apply raiseEmcy_kept
        assumption
      · apply clearEmcy_kept
        assumption
    · split
      · split
        · apply raiseEmcy_kept
          assumption
        · apply clearEmcy_kept
          assumption
      · assumption

theorem drawBytes_kept {base : Device} {y0} {y1 : Device} (hy1 : Kept base y1) :
    KeptP base (drawBytes y0 y1) := by
  induction' y0 with n ih generalizing y1
  · unfold drawBytes
    apply KeptP.mk
    assumption
  · unfold drawBytes
    lift_lets
    intro v1
    have h2 : KeptP base v1 := by
      unfold v1
      apply draw_kept
      assumption
    clear_value v1
    intro v3
    have h4 : KeptP base v3 := by
      unfold v3
      apply ih
      apply KeptP.snd
      assumption
    clear_value v3
    apply KeptP.mk
    apply KeptP.snd
    assumption

theorem answer_kept {base : Device} {r} {idx} {sub} {st} {data} {n} {size} {d : Device} (hd : Kept base d) :
    Kept base (answer r idx sub st data n size d) := by
  unfold answer
  split
  · assumption
  · lift_lets
    intro v1
    clear_value v1
    intro v2
    have h3 : Kept base v2 := by
      unfold v2
      split
      · refine Kept.mk_eq rfl rfl rfl rfl rfl rfl rfl rfl ?_
        assumption
      · assumption
    clear_value v2
    apply emit_kept
    assumption
  · apply complete_kept
    assumption
  · apply complete_kept
    assumption

theorem restartIdle_kept {base : Device} {d : Device} (hd : Kept base d) :
    Kept base (restartIdle d) := by
  unfold restartIdle
  refine Kept.mk_eq rfl rfl rfl rfl rfl rfl rfl rfl ?_
  assumption

theorem odPutInt_kept {base : Device} {idx} {sub} {size} {i} {d : Device} (hd : Kept base d) :
    Kept base (odPutInt idx sub size i d) := by
  unfold odPutInt
  lift_lets
  intro v1
  clear_value v1
  apply odPut_kept
  assumption

theorem goodFrame_kept {base : Device} {p} {octets} {d : Device} (hd : Kept base d) :
    Kept base (goodFrame p octets d) := by
  unfold goodFrame
  apply macBump_kept
  apply macBump_kept
  assumption

theorem ownFrame_kept {base : Device} {p} {d : Device} (hd : Kept base d) :
    Kept base (ownFrame p d) := by
  unfold ownFrame
  apply goodFrame_kept
  assumption

theorem askData_kept {base : Device} {q} {c} {d : Device} (hd : Kept base d) :
    Kept base (askData q c d) := by
  unfold askData
  split
  · assumption
  · lift_lets
    intro v1
    clear_value v1
    intro v2
    clear_value v2
    apply Kept.foldl
    · intro x3 x4 h5
      lift_lets
      intro v6
      clear_value v6
      intro v7
      clear_value v7
      apply sendOn_kept
      assumption
    · assumption

theorem aenClear_kept {base : Device} {port} {assoc} {page} {d : Device} (hd : Kept base d) :
    Kept base (aenClear port assoc page d) := by
  unfold aenClear
  apply aenUpdate_kept
  assumption

/-! ## Link -/

theorem onClass_kept {base : Device} {cls} {f} {d : Device} (hd : Kept base d) :
    Kept base (onClass cls f d) := by
  unfold onClass
  refine Kept.mk_eq rfl rfl rfl rfl rfl rfl rfl rfl ?_
  assumption

theorem transmit_kept {base : Device} {cls} {m} {d : Device} (hd : Kept base d) :
    Kept base (transmit cls m d) := by
  unfold transmit
  lift_lets
  intro v1
  clear_value v1
  intro v2
  have h3 : Kept base v2 := by
    unfold v2
    apply onClass_kept
    assumption
  clear_value v2
  intro v4
  clear_value v4
  intro v5
  have h6 : Kept base v5 := by
    unfold v5
    refine Kept.mk_eq rfl rfl rfl rfl rfl rfl rfl rfl ?_
    assumption
  clear_value v5
  apply odBump_kept
  apply emit_kept
  assumption

theorem sendLink_kept {base : Device} {m} {d : Device} (hd : Kept base d) :
    Kept base (sendLink m d) := by
  unfold sendLink
  lift_lets
  intro v1
  clear_value v1
  intro v2
  clear_value v2
  split
  · assumption
  · split
    · apply transmit_kept
      assumption
    · refine Kept.mk_eq rfl rfl rfl rfl rfl rfl rfl rfl ?_
      assumption

theorem sendAll_kept {base : Device} {ms} {d : Device} (hd : Kept base d) :
    Kept base (sendAll ms d) := by
  unfold sendAll
  apply Kept.foldl
  · intro x1 x2 h3
    apply sendLink_kept
    assumption
  · assumption

theorem drainWaiting_kept {base : Device} {d : Device} (hd : Kept base d) :
    Kept base (drainWaiting d) := by
  unfold drainWaiting
  apply Kept.foldl
  · intro x1 x2 h3
    apply sendLink_kept
    assumption
  · refine Kept.mk_eq rfl rfl rfl rfl rfl rfl rfl rfl ?_
    assumption

theorem takeAck_kept {base : Device} {cls} {ack} {credit} {d : Device} (hd : Kept base d) :
    Kept base (takeAck cls ack credit d) := by
  unfold takeAck
  lift_lets
  intro v1
  have h2 : Kept base v1 := by
    unfold v1
    apply onClass_kept
    assumption
  clear_value v1
  intro v3
  clear_value v3
  apply drainWaiting_kept
  refine Kept.mk_eq rfl rfl rfl rfl rfl rfl rfl rfl ?_
  assumption

theorem arrived_kept {base : Device} {y0} {cls} {d : Device} (hd : Kept base d) :
    Kept base (arrived y0 cls d) := by
  unfold arrived
  lift_lets
  intro v1
  have h2 : Kept base v1 := by
    unfold v1
    apply odBump_kept
    assumption
  clear_value v1
  intro v3
  have h4 : Kept base v3 := by
    unfold v3
    apply onClass_kept
    assumption
  clear_value v3
  apply takeAck_kept
  assumption

theorem acceptFrame_kept {base : Device} {y0} {cls} {f} {d : Device} (hf : ∀ w0, Kept base w0 → Kept base (f w0)) (hd : Kept base d) :
    Kept base (acceptFrame y0 cls f d) := by
  unfold acceptFrame
  split
  · assumption
  · split
    · apply odBump_kept
      assumption
    · apply hf
      apply arrived_kept
      assumption

theorem execAckTimer_kept {base : Device} {cls} {s : State} (hs : Kept base s.dev) :
    KeptB base (execAckTimer cls s) := by
  unfold execAckTimer
  apply next_keptB
  · intro x1 h2
    split
    · rename_i e3 e4 e5 e6 e7
      lift_lets
      intro v8
      have h9 : Kept base v8 := by
        unfold v8
        apply waitUntil_kept
        assumption
      clear_value v8
      apply odBump_kept
      apply emit_kept
      apply onClass_kept
      assumption
    · assumption
  · assumption

theorem execFrameRetransmitTimer_kept {base : Device} {cls} {s : State} (hs : Kept base s.dev) :
    KeptB base (execFrameRetransmitTimer cls s) := by
  unfold execFrameRetransmitTimer
  apply next_keptB
  · intro x1 h2
    split
    · assumption
    · split
      · assumption
      · rename_i e3 e4 e5 e6
        lift_lets
        intro v7
        have h8 : Kept base v7 := by
          unfold v7
          apply waitUntil_kept
          assumption
        clear_value v7
        intro v9
        clear_value v9
        intro v10
        clear_value v10
        intro v11
        have h12 : Kept base v11 := by
          unfold v11
          refine Kept.mk_eq rfl rfl rfl rfl rfl rfl rfl rfl ?_
          assumption
        clear_value v11
        intro v13
        have h14 : Kept base v13 := by
          unfold v13
          apply onClass_kept
          assumption
        clear_value v13
        apply Kept.foldl
        · intro x15 x16 h17
          apply odBump_kept
          apply odBump_kept
          apply emit_kept
          assumption
        · assumption
  · assumption

theorem execAck_kept {base : Device} {y0} {cls} {s : State} (hs : Kept base s.dev) :
    KeptB base (execAck y0 cls s) := by
  unfold execAck
  apply next_keptB
  · intro x1 h2
    split
    · assumption
    · split
      · apply odBump_kept
        assumption
      · apply takeAck_kept
        apply odBump_kept
        assumption
  · assumption

/-! ## Board -/

theorem putEntry_kept {base : Device} {n} {e} {d : Device} (hd : Kept base d) :
    Kept base (putEntry n e d) := by
  unfold putEntry
  apply bumpVersion_kept
  refine Kept.mk_eq rfl rfl rfl rfl rfl rfl rfl rfl ?_
  assumption

theorem dropCut_kept {base : Device} {n} {d : Device} (hd : Kept base d) :
    Kept base (dropCut n d) := by
  unfold dropCut
  lift_lets
  intro v1 v2
  clear_value v2
  intro v3
  clear_value v3
  intro v4
  have h5 : Kept base v4 := by
    unfold v4
    apply Kept.foldl
    · intro x6 x7 h8
      lift_lets
      intro v9
      clear_value v9
      apply putEntry_kept
      assumption
    · assumption
  clear_value v4
  intro v10
  have h11 : Kept base v10 := by
    unfold v10
    apply Kept.foldl
    · intro x12 x13 h14
      apply sendLink_kept
      assumption
    · assumption
  clear_value v10
  intro v15
  clear_value v15
  refine Kept.mk_eq rfl rfl rfl rfl rfl rfl rfl rfl ?_
  assumption

theorem endCuts_kept {base : Device} {nums} {d : Device} (hd : Kept base d) :
    Kept base (endCuts nums d) := by
  unfold endCuts
  lift_lets
  intro v1
  clear_value v1
  intro v2
  clear_value v2
  intro v3
  have h4 : Kept base v3 := by
    unfold v3
    apply Kept.foldl
    · intro x5 x6 h7
      apply dropCut_kept
      assumption
    · assumption
  clear_value v3
  intro v8
  clear_value v8
  intro v9
  have h10 : Kept base v9 := by
    unfold v9
    apply bumpVersion_kept
    refine Kept.mk_eq rfl rfl rfl rfl rfl rfl rfl rfl ?_
    assumption
  clear_value v9
  intro v11
  clear_value v11
  intro v12
  clear_value v12
  intro v13
  have h14 : Kept base v13 := by
    unfold v13
    refine Kept.mk_eq rfl rfl rfl rfl rfl rfl rfl rfl ?_
    assumption
  clear_value v13
  apply Kept.foldl
  · intro x15 x16 h17
    split
    · assumption
    · apply completeSt_kept
      assumption
  · assumption

theorem placeLocal_kept {base : Device} {e} {d : Device} (hd : Kept base d) :
    Kept base (placeLocal e d) := by
  unfold placeLocal
  split
  · rename_i e1 e2 e3
    apply putEntry_kept
    assumption
  · lift_lets
    intro v4
    have h5 : Kept base v4 := by
      unfold v4
      split
      · assumption
      · apply logEvent_kept
        assumption
    clear_value v4
    intro v6
    clear_value v6
    refine Kept.mk_eq rfl rfl rfl rfl rfl rfl rfl rfl ?_
    assumption

theorem placementFailed_kept {base : Device} {w} {d : Device} (hd : Kept base d) :
    Kept base (placementFailed w d) := by
  unfold placementFailed
  split
  · assumption
  · apply answer_kept
    assumption
  · apply answer_kept
    assumption
  · apply endCuts_kept
    assumption
  · refine Kept.mk_eq rfl rfl rfl rfl rfl rfl rfl rfl ?_
    assumption

theorem placeAgain_kept {base : Device} {e} {w} {d : Device} (hd : Kept base d) :
    Kept base (placeAgain e w d) := by
  unfold placeAgain
  split
  · refine Kept.mk_eq rfl rfl rfl rfl rfl rfl rfl rfl ?_
    assumption
  · apply placementFailed_kept
    assumption

theorem placementDone_kept {base : Device} {w} {entry} {d : Device} (hd : Kept base d) :
    Kept base (placementDone w entry d) := by
  unfold placementDone
  split
  · apply answer_kept
    assumption
  · split
    · refine Kept.mk_eq rfl rfl rfl rfl rfl rfl rfl rfl ?_
      assumption
    · apply answer_kept
      assumption
  · refine Kept.mk_eq rfl rfl rfl rfl rfl rfl rfl rfl ?_
    assumption
  · apply Kept.foldl
    · intro x1 x2 h3
      refine Kept.mk_eq rfl rfl rfl rfl rfl rfl rfl rfl ?_
      assumption
    · assumption
  · assumption

theorem placePairedAt_kept {base : Device} {n} {e} {w} {d : Device} (hd : Kept base d) :
    Kept base (placePairedAt n e w d) := by
  unfold placePairedAt
  lift_lets
  intro v1
  clear_value v1
  intro v2
  clear_value v2
  split
  · apply placementDone_kept
    apply putEntry_kept
    assumption
  · split
    · apply sendLink_kept
      refine Kept.mk_eq rfl rfl rfl rfl rfl rfl rfl rfl ?_
      assumption
    · apply placeAgain_kept
      assumption

theorem placePaired_kept {base : Device} {e} {w} {d : Device} (hd : Kept base d) :
    Kept base (placePaired e w d) := by
  unfold placePaired
  split
  · rename_i e1 e2 e3
    apply placePairedAt_kept
    assumption
  · lift_lets
    intro v4
    have h5 : Kept base v4 := by
      unfold v4
      split
      · assumption
      · apply logEvent_kept
        assumption
    clear_value v4
    intro v6
    clear_value v6
    refine Kept.mk_eq rfl rfl rfl rfl rfl rfl rfl rfl ?_
    assumption

theorem placeWaiting_kept {base : Device} {d : Device} (hd : Kept base d) :
    Kept base (placeWaiting d) := by
  unfold placeWaiting
  split
  · assumption
  · split
    · assumption
    · lift_lets
      intro v1
      clear_value v1
      intro v2
      have h3 : Kept base v2 := by
        unfold v2
        refine Kept.mk_eq rfl rfl rfl rfl rfl rfl rfl rfl ?_
        assumption
      clear_value v2
      intro v4
      clear_value v4
      intro v5
      clear_value v5
      split
      · apply placePaired_kept
        assumption
      · apply placeLocal_kept
        assumption

theorem execLaunchReport_kept {base : Device} {y0} {entry} {tick} {s : State} (hs : Kept base s.dev) :
    KeptB base (execLaunchReport y0 entry tick s) := by
  unfold execLaunchReport
  apply next_keptB
  · intro x1 h2
    apply acceptFrame_kept
    · intro x3 h4
      split
      · refine Kept.mk_eq rfl rfl rfl rfl rfl rfl rfl rfl ?_
        assumption
      · refine Kept.mk_eq rfl rfl rfl rfl rfl rfl rfl rfl ?_
        assumption
    · assumption
  · assumption

theorem execCancel_kept {base : Device} {y0} {entry} {s : State} (hs : Kept base s.dev) :
    KeptB base (execCancel y0 entry s) := by
  unfold execCancel
  apply next_keptB
  · intro x1 h2
    apply acceptFrame_kept
    · intro x3 h4
      lift_lets
      intro v5
      clear_value v5
      split
      · apply putEntry_kept
        assumption
      · assumption
    · assumption
  · assumption

theorem execArmed_kept {base : Device} {y0} {entry} {s : State} (hs : Kept base s.dev) :
    KeptB base (execArmed y0 entry s) := by
  unfold execArmed
  apply next_keptB
  · intro x1 h2
    apply acceptFrame_kept
    · intro x3 h4
      split
      · assumption
      · rename_i e5 e6 e7
        lift_lets
        intro v8
        clear_value v8
        intro v9
        have h10 : Kept base v9 := by
          unfold v9
          refine Kept.mk_eq rfl rfl rfl rfl rfl rfl rfl rfl ?_
          assumption
        clear_value v9
        split
        · apply placementDone_kept
          apply putEntry_kept
          assumption
        · apply placeWaiting_kept
          apply placeAgain_kept
          apply sendLink_kept
          assumption
    · assumption
  · assumption

theorem execPlace_kept {base : Device} {y0} {entry} {body} {s : State} (hs : Kept base s.dev) :
    KeptB base (execPlace y0 entry body s) := by
  unfold execPlace
  apply next_keptB
  · intro x1 h2
    apply acceptFrame_kept
    · intro x3 h4
      apply sendLink_kept
      apply putEntry_kept
      assumption
    · assumption
  · assumption

theorem placeAllWaiting_kept {base : Device} {d : Device} (hd : Kept base d) :
    Kept base (placeAllWaiting d) := by
  unfold placeAllWaiting
  apply Kept.foldl
  · intro x1 x2 h3
    apply placeWaiting_kept
    assumption
  · assumption

theorem execPairedPlacementDeadline_kept {base : Device} {entry} {s : State} (hs : Kept base s.dev) :
    KeptB base (execPairedPlacementDeadline entry s) := by
  unfold execPairedPlacementDeadline
  apply next_keptB
  · intro x1 h2
    split
    · assumption
    · rename_i e3 e4 e5
      lift_lets
      intro v6
      have h7 : Kept base v6 := by
        unfold v6
        apply waitTick_kept
        assumption
      clear_value v6
      intro v8
      clear_value v8
      intro v9
      have h10 : Kept base v9 := by
        unfold v9
        refine Kept.mk_eq rfl rfl rfl rfl rfl rfl rfl rfl ?_
        assumption
      clear_value v9
      apply placeWaiting_kept
      apply placeAgain_kept
      apply sendLink_kept
      assumption
  · assumption

theorem awaitReport_kept {base : Device} {entry} {tick} {d : Device} (hd : Kept base d) :
    Kept base (awaitReport entry tick d) := by
  unfold awaitReport
  split
  · refine Kept.mk_eq rfl rfl rfl rfl rfl rfl rfl rfl ?_
    assumption
  · refine Kept.mk_eq rfl rfl rfl rfl rfl rfl rfl rfl ?_
    assumption

/-! ## Cipher -/

theorem journalRecord_kept {base : Device} {r} {d : Device} (hd : Kept base d) :
    Kept base (journalRecord r d) := by
  unfold journalRecord
  refine Kept.mk_eq rfl rfl rfl rfl rfl rfl rfl rfl ?_
  assumption

theorem putSlot_kept {base : Device} {n} {k} {d : Device} (hd : Kept base d) :
    Kept base (putSlot n k d) := by
  unfold putSlot
  apply bumpVersion_kept
  refine Kept.mk_eq rfl rfl rfl rfl rfl rfl rfl rfl ?_
  assumption

theorem limitDurable_kept {base : Device} {n} {side} {limit} {counter} {d : Device} (hd : Kept base d) :
    Kept base (limitDurable n side limit counter d) := by
  unfold limitDurable
  lift_lets
  intro v1
  clear_value v1
  intro v2
  clear_value v2
  split
  · apply putSlot_kept
    assumption
  · apply putSlot_kept
    assumption

theorem clearSlot_kept {base : Device} {n} {d : Device} (hd : Kept base d) :
    Kept base (clearSlot n d) := by
  unfold clearSlot
  apply putSlot_kept
  assumption

theorem recordLimit_kept {base : Device} {n} {d : Device} (hd : Kept base d) :
    Kept base (recordLimit n d) := by
  unfold recordLimit
  lift_lets
  intro v1
  clear_value v1
  intro v2
  clear_value v2
  intro v3
  clear_value v3
  apply journalRecord_kept
  apply putSlot_kept
  assumption

theorem takeInvocation_kept {base : Device} {n} {d : Device} (hd : Kept base d) :
    KeptP base (takeInvocation n d) := by
  unfold takeInvocation
  lift_lets
  intro v1
  clear_value v1
  intro v2
  clear_value v2
  intro v3
  clear_value v3
  intro v4
  have h5 : Kept base v4 := by
    unfold v4
    apply odBump_kept
    assumption
  clear_value v4
  intro v6
  have h7 : Kept base v6 := by
    unfold v6
    apply putSlot_kept
    assumption
  clear_value v6
  intro v8
  clear_value v8
  intro v9
  clear_value v9
  intro v10
  have h11 : Kept base v10 := by
    unfold v10
    apply putSlot_kept
    assumption
  clear_value v10
  intro v12
  have h13 : Kept base v12 := by
    unfold v12
    split
    · apply logEvent_kept
      assumption
    · assumption
  clear_value v12
  split
  · apply KeptP.mk
    apply odBump_kept
    assumption
  · split
    · split
      · apply KeptP.mk
        assumption
      · apply KeptP.mk
        apply raiseEmcy_kept
        apply logEvent_kept
        assumption
    · split
      · apply KeptP.mk
        assumption
      · split
        · apply KeptP.mk
          split
          · apply recordLimit_kept
            assumption
          · assumption
        · apply KeptP.mk
          split
          · apply recordLimit_kept
            assumption
          · assumption

theorem emptySlot_kept {base : Device} {n} {d : Device} (hd : Kept base d) :
    Kept base (emptySlot n d) := by
  unfold emptySlot
  lift_lets
  intro v1
  clear_value v1
  intro v2
  clear_value v2
  apply putSlot_kept
  assumption

theorem restartCounters_kept {base : Device} {n} {d : Device} (hd : Kept base d) :
    Kept base (restartCounters n d) := by
  unfold restartCounters
  lift_lets
  intro v1
  clear_value v1
  split
  · apply recordLimit_kept
    apply putSlot_kept
    assumption
  · assumption

theorem freshKey_kept {base : Device} {n} {tenant} {d : Device} (hd : Kept base d) :
    Kept base (freshKey n tenant d) := by
  unfold freshKey
  lift_lets
  intro v1
  clear_value v1
  intro v2
  have h3 : KeptP base v2 := by
    unfold v2
    apply drawBytes_kept
    assumption
  clear_value v2
  intro v4
  clear_value v4
  intro v5
  clear_value v5
  intro v6
  have h7 : Kept base v6 := by
    unfold v6
    apply putSlot_kept
    apply KeptP.snd
    assumption
  clear_value v6
  apply recordLimit_kept
  assumption

/-! ## Cam -/

theorem putSearchEntry_kept {base : Device} {idx} {e} {d : Device} (hd : Kept base d) :
    Kept base (putSearchEntry idx e d) := by
  unfold putSearchEntry
  lift_lets
  intro v1
  clear_value v1
  intro v2
  clear_value v2
  apply bumpVersion_kept
  refine Kept.mk_eq rfl rfl rfl rfl rfl rfl rfl rfl ?_
  assumption

theorem hotRemove_kept {base : Device} {domain} {fp} {copy} {d : Device} (hd : Kept base d) :
    Kept base (hotRemove domain fp copy d) := by
  unfold hotRemove
  split
  · assumption
  · rename_i e1 e2 e3
    split
    · rename_i e4 e5 e6
      split
      · apply putSearchEntry_kept
        assumption
      · assumption
    · assumption

theorem hotInsert_kept {base : Device} {domain} {fp} {copy} {d : Device} (hd : Kept base d) :
    Kept base (hotInsert domain fp copy d) := by
  unfold hotInsert
  split
  · assumption
  · rename_i e1 e2 e3
    lift_lets
    intro v4
    clear_value v4
    intro v5
    clear_value v5
    intro v6
    clear_value v6
    intro v7
    clear_value v7
    split
    · assumption
    · split
      · apply putSearchEntry_kept
        assumption
      · assumption

theorem putOverride_kept {base : Device} {bucket} {side} {y2} {d : Device} (hd : Kept base d) :
    Kept base (putOverride bucket side y2 d) := by
  unfold putOverride
  split
  · assumption
  · rename_i e1 e2 e3
    lift_lets
    intro v4
    clear_value v4
    intro v5
    clear_value v5
    intro v6
    clear_value v6
    intro v7
    clear_value v7
    intro v8
    clear_value v8
    split
    · apply putSearchEntry_kept
      assumption
    · split
      · assumption
      · split
        · apply putSearchEntry_kept
          assumption
        · assumption

theorem takeStep_kept {base : Device} {temp} {d : Device} (hd : Kept base d) :
    Kept base (takeStep temp d) := by
  unfold takeStep
  lift_lets
  intro v1
  have h2 : Kept base v1 := by
    unfold v1
    apply odPutInt_kept
    assumption
  clear_value v1
  intro v3
  clear_value v3
  intro v4
  clear_value v4
  intro v5
  clear_value v5
  intro v6
  clear_value v6
  intro v7
  have h8 : Kept base v7 := by
    unfold v7
    refine Kept.mk_eq rfl rfl rfl rfl rfl rfl rfl rfl ?_
    assumption
  clear_value v7
  intro v9
  have h10 : Kept base v9 := by
    unfold v9
    apply odPut_kept
    assumption
  clear_value v9
  intro v11
  have h12 : Kept base v11 := by
    unfold v11
    apply logEvent_kept
    assumption
  clear_value v11
  split
  · assumption
  · split
    · apply raiseEmcy_kept
      assumption
    · split
      · apply clearEmcy_kept
        assumption
      · assumption

theorem rewriteEntry_kept {base : Device} {idx} {d : Device} (hd : Kept base d) :
    Kept base (rewriteEntry idx d) := by
  unfold rewriteEntry
  lift_lets
  intro v1
  clear_value v1
  intro v2
  clear_value v2
  intro v3
  have h4 : Kept base v3 := by
    unfold v3
    refine Kept.mk_eq rfl rfl rfl rfl rfl rfl rfl rfl ?_
    assumption
  clear_value v3
  apply logEvent_kept
  apply odBump_kept
  apply bumpVersion_kept
  assumption

theorem queueSearch_kept {base : Device} {cls} {part} {key} {engine} {d : Device} (hd : Kept base d) :
    Kept base (queueSearch cls part key engine d) := by
  unfold queueSearch
  lift_lets
  intro v1
  clear_value v1
  intro v2
  clear_value v2
  intro v3
  clear_value v3
  intro v4
  have h5 : Kept base v4 := by
    unfold v4
    refine Kept.mk_eq rfl rfl rfl rfl rfl rfl rfl rfl ?_
    assumption
  clear_value v4
  split
  · apply odPut_kept
    assumption
  · assumption

theorem applyPolicyGroup_kept {base : Device} {arg} {d : Device} (hd : Kept base d) :
    Kept base (applyPolicyGroup arg d) := by
  unfold applyPolicyGroup
  lift_lets
  intro v1
  clear_value v1
  intro v2
  clear_value v2
  intro v3
  clear_value v3
  intro v4 v5
  clear_value v5
  intro v6
  have h7 : Kept base v6 := by
    unfold v6
    apply bumpVersion_kept
    refine Kept.mk_eq rfl rfl rfl rfl rfl rfl rfl rfl ?_
    assumption
  clear_value v6
  intro v8
  have h9 : Kept base v8 := by
    unfold v8
    apply odBump_kept
    assumption
  clear_value v8
  apply logEvent_kept
  assumption

theorem hotSplit_kept {base : Device} {d : Device} (hd : Kept base d) :
    Kept base (hotSplit d) := by
  unfold hotSplit
  split
  · assumption
  · rename_i e1 e2 e3
    lift_lets
    intro v4
    clear_value v4
    apply Kept.foldl
    · intro x5 x6 h7
      apply putSearchEntry_kept
      assumption
    · assumption

/-! ## Store -/

theorem onCopy_kept {base : Device} {domain} {fp} {num} {f} {d : Device} (hd : Kept base d) :
    Kept base (onCopy domain fp num f d) := by
  unfold onCopy
  refine Kept.mk_eq rfl rfl rfl rfl rfl rfl rfl rfl ?_
  assumption

theorem nextManifest_kept {base : Device} {d : Device} (hd : Kept base d) :
    KeptP base (nextManifest d) := by
  unfold nextManifest
  lift_lets
  intro v1
  clear_value v1
  intro v2
  clear_value v2
  apply KeptP.mk
  refine Kept.mk_eq rfl rfl rfl rfl rfl rfl rfl rfl ?_
  assumption

theorem addCopy_kept {base : Device} {c} {d : Device} (hd : Kept base d) :
    Kept base (addCopy c d) := by
  unfold addCopy
  refine Kept.mk_eq rfl rfl rfl rfl rfl rfl rfl rfl ?_
  assumption

theorem recordCopy_kept {base : Device} {c} {d : Device} (hd : Kept base d) :
    Kept base (recordCopy c d) := by
  unfold recordCopy
  apply journalRecord_kept
  assumption

theorem dropCopy_kept {base : Device} {domain} {fp} {num} {d : Device} (hd : Kept base d) :
    Kept base (dropCopy domain fp num d) := by
  unfold dropCopy
  refine Kept.mk_eq rfl rfl rfl rfl rfl rfl rfl rfl ?_
  assumption

theorem putKey_kept {base : Device} {e} {d : Device} (hd : Kept base d) :
    Kept base (putKey e d) := by
  unfold putKey
  lift_lets
  intro v1
  clear_value v1
  intro v2
  have h3 : Kept base v2 := by
    unfold v2
    refine Kept.mk_eq rfl rfl rfl rfl rfl rfl rfl rfl ?_
    assumption
  clear_value v2
  intro v4
  clear_value v4
  intro v5
  clear_value v5
  refine Kept.mk_eq rfl rfl rfl rfl rfl rfl rfl rfl ?_
  assumption

/-! ## Flash -/

theorem onBlock_kept {base : Device} {m} {f} {d : Device} (hd : Kept base d) :
    Kept base (onBlock m f d) := by
  unfold onBlock
  refine Kept.mk_eq rfl rfl rfl rfl rfl rfl rfl rfl ?_
  assumption

theorem takePage_kept {base : Device} {m} {s} {d : Device} (hd : Kept base d) :
    Kept base (takePage m s d) := by
  unfold takePage
  apply onBlock_kept
  assumption

theorem nextWriteSeq_kept {base : Device} {m} {d : Device} (hd : Kept base d) :
    Kept base (nextWriteSeq m d) := by
  unfold nextWriteSeq
  lift_lets
  intro v1
  clear_value v1
  intro v2
  clear_value v2
  apply onBlock_kept
  refine Kept.mk_eq rfl rfl rfl rfl rfl rfl rfl rfl ?_
  assumption

theorem engineCond_kept {base : Device} {e} {n} {b} {d : Device} (hd : Kept base d) :
    Kept base (engineCond e n b d) := by
  unfold engineCond
  apply onEngine_kept
  · intro x1
    rfl
  · assumption

theorem dropUnit_kept {base : Device} {m} {d : Device} (hd : Kept base d) :
    Kept base (dropUnit m d) := by
  unfold dropUnit
  apply onBlock_kept
  assumption

theorem emitReads_kept {base : Device} {o} {d : Device} (hd : Kept base d) :
    Kept base (emitReads o d) := by
  unfold emitReads
  lift_lets
  intro v1
  have h2 : KeptP base v1 := by
    unfold v1
    split
    · apply draw_kept
      assumption
    · apply KeptP.mk
      assumption
  clear_value v1
  apply Kept.foldl
  · intro x3 x4 h5
    apply emit_kept
    assumption
  · apply KeptP.snd
    assumption

theorem onOp_kept {base : Device} {id} {f} {d : Device} (hd : Kept base d) :
    Kept base (onOp id f d) := by
  unfold onOp
  refine Kept.mk_eq rfl rfl rfl rfl rfl rfl rfl rfl ?_
  assumption

theorem startOp_kept {base : Device} {o} {d : Device} (hd : Kept base d) :
    Kept base (startOp o d) := by
  unfold startOp
  lift_lets
  intro v1
  have h2 : Kept base v1 := by
    unfold v1
    split
    · apply odBump_kept
      assumption
    · assumption
  clear_value v1
  intro v3
  have h4 : Kept base v3 := by
    unfold v3
    split
    · rename_i e5 e6 e7 e8 e9
      apply onOp_kept
      assumption
    · assumption
  clear_value v3
  intro v10
  have h11 : Kept base v10 := by
    unfold v10
    apply onOp_kept
    assumption
  clear_value v10
  intro v12
  have h13 : Kept base v12 := by
    unfold v12
    apply nextWriteSeq_kept
    assumption
  clear_value v12
  intro v14
  clear_value v14
  intro v15
  clear_value v15
  intro v16
  clear_value v16
  intro v17
  clear_value v17
  intro v18
  have h19 : Kept base v18 := by
    unfold v18
    refine Kept.mk_eq rfl rfl rfl rfl rfl rfl rfl rfl ?_
    assumption
  clear_value v18
  split
  · split
    · apply emit_kept
      assumption
    · rename_i e20 e21 e22 e23 e24
      apply emit_kept
      assumption
  · apply emit_kept
    assumption
  · apply emitReads_kept
    assumption

theorem tryStart_kept {base : Device} {id} {d : Device} (hd : Kept base d) :
    Kept base (tryStart id d) := by
  unfold tryStart
  split
  · assumption
  · rename_i e1 e2 e3
    split
    · apply startOp_kept
      assumption
    · assumption

theorem queueOp_kept {base : Device} {o} {d : Device} (hd : Kept base d) :
    Kept base (queueOp o d) := by
  unfold queueOp
  lift_lets
  intro v1
  clear_value v1
  intro v2
  clear_value v2
  intro v3
  clear_value v3
  apply tryStart_kept
  refine Kept.mk_eq rfl rfl rfl rfl rfl rfl rfl rfl ?_
  assumption

theorem endOp_kept {base : Device} {o} {d : Device} (hd : Kept base d) :
    Kept base (endOp o d) := by
  unfold endOp
  lift_lets
  intro v1
  clear_value v1
  intro v2
  have h3 : Kept base v2 := by
    unfold v2
    refine Kept.mk_eq rfl rfl rfl rfl rfl rfl rfl rfl ?_
    assumption
  clear_value v2
  intro v4 v5
  clear_value v5
  intro v6
  clear_value v6
  split
  · assumption
  · refine Kept.mk_eq rfl rfl rfl rfl rfl rfl rfl rfl ?_
    assumption

theorem retireBlock_kept {base : Device} {m} {cause} {d : Device} (hd : Kept base d) :
    Kept base (retireBlock m cause d) := by
  unfold retireBlock
  split
  · assumption
  · rename_i e1 e2 e3
    split
    · assumption
    · lift_lets
      intro v4
      have h5 : Kept base v4 := by
        unfold v4
        apply onBlock_kept
        assumption
      clear_value v4
      intro v6
      have h7 : Kept base v6 := by
        unfold v6
        apply journalRecord_kept
        assumption
      clear_value v6
      apply odBump_kept
      apply logEvent_kept
      assumption

theorem grantTokens_kept {base : Device} {op} {d : Device} (hd : Kept base d) :
    Kept base (grantTokens op d) := by
  unfold grantTokens
  split
  · assumption
  · rename_i e1 e2 e3
    split
    · assumption
    · lift_lets
      intro v4
      have h5 : Kept base v4 := by
        unfold v4
        apply startOp_kept
        assumption
      clear_value v4
      split
      · rename_i e6 e7 e8 e9
        apply engineCond_kept
        apply onEngine_kept
        · intro x10
          rfl
        · assumption
      · assumption

theorem execTollTokensGranted_kept {base : Device} {op} {s : State} (hs : Kept base s.dev) :
    KeptB base (execTollTokensGranted op s) := by
  unfold execTollTokensGranted
  apply next_keptB
  · intro x1 h2
    apply grantTokens_kept
    assumption
  · assumption

/-! ## Stripe -/

theorem onStripe_kept {base : Device} {id} {f} {d : Device} (hd : Kept base d) :
    Kept base (onStripe id f d) := by
  unfold onStripe
  refine Kept.mk_eq rfl rfl rfl rfl rfl rfl rfl rfl ?_
  assumption

theorem noteResidue_kept {base : Device} {id} {m} {d : Device} (hd : Kept base d) :
    Kept base (noteResidue id m d) := by
  unfold noteResidue
  lift_lets
  intro v1
  clear_value v1
  intro v2
  clear_value v2
  split
  · assumption
  · refine Kept.mk_eq rfl rfl rfl rfl rfl rfl rfl rfl ?_
    assumption

theorem takePages_kept {base : Device} {s} {unit} {y2} {y3 : Device} (hy3 : Kept base y3) :
    KeptOP base (takePages s unit y2 y3) := by
  induction' y2 with y n ih generalizing s unit y3
  · unfold takePages
    apply KeptOP.some
    assumption
  · unfold takePages
    split
    · exact KeptOP.none
    · rename_i e1 e2 e3
      split
      · exact KeptOP.none
      · rename_i e4 e5 e6
        apply KeptOP.some
        apply KeptP.snd
        refine KeptOP.pair e6 ?_
        apply ih
        apply takePage_kept
        assumption

theorem nextStripe_kept {base : Device} {d : Device} (hd : Kept base d) :
    KeptP base (nextStripe d) := by
  unfold nextStripe
  lift_lets
  intro v1
  clear_value v1
  intro v2
  clear_value v2
  apply KeptP.mk
  refine Kept.mk_eq rfl rfl rfl rfl rfl rfl rfl rfl ?_
  assumption

theorem splitStripe_kept {base : Device} {st} {k} {d : Device} (hd : Kept base d) :
    Kept base (splitStripe st k d) := by
  unfold splitStripe
  lift_lets
  intro v1
  clear_value v1
  intro v2
  have h3 : KeptP base v2 := by
    unfold v2
    apply nextStripe_kept
    assumption
  clear_value v2
  intro v4
  have h5 : Kept base v4 := by
    unfold v4
    apply KeptP.snd
    assumption
  clear_value v4
  intro v6
  clear_value v6
  intro v7 v8 v9
  clear_value v9
  intro v10
  clear_value v10
  intro v11
  clear_value v11
  intro v12
  clear_value v12
  refine Kept.mk_eq rfl rfl rfl rfl rfl rfl rfl rfl ?_
  assumption

theorem noteUnplaced_kept {base : Device} {cls} {k} {d : Device} (hd : Kept base d) :
    Kept base (noteUnplaced cls k d) := by
  unfold noteUnplaced
  split
  · assumption
  · apply logEvent_kept
    refine Kept.mk_eq rfl rfl rfl rfl rfl rfl rfl rfl ?_
    assumption

theorem issueStripe_kept {base : Device} {st} {d : Device} (hd : Kept base d) :
    Kept base (issueStripe st d) := by
  unfold issueStripe
  split
  · assumption
  · lift_lets
    intro v1
    clear_value v1
    intro v2
    clear_value v2
    dsimp only
    split
    · apply noteUnplaced_kept
      assumption
    · rename_i e3 e4 e5 e6 e7
      split
      · split
        · apply splitStripe_kept
          split
          · refine Kept.mk_eq rfl rfl rfl rfl rfl rfl rfl rfl ?_
            assumption
          · apply noteUnplaced_kept
            assumption
        · split
          · refine Kept.mk_eq rfl rfl rfl rfl rfl rfl rfl rfl ?_
            assumption
          · apply noteUnplaced_kept
            assumption
      · rename_i e8 e9 e10 e11
        split
        · apply odBump_kept
          apply journalRecord_kept
          apply onStripe_kept
          apply Kept.foldl
          · intro x12 x13 h14
            apply noteResidue_kept
            assumption
          · refine KeptOP.out (r := (_, _)) e11 ?_
            apply takePages_kept
            split
            · apply splitStripe_kept
              split
              · refine Kept.mk_eq rfl rfl rfl rfl rfl rfl rfl rfl ?_
                assumption
              · apply noteUnplaced_kept
                assumption
            · split
              · refine Kept.mk_eq rfl rfl rfl rfl rfl rfl rfl rfl ?_
                assumption
              · apply noteUnplaced_kept
                assumption
        · apply odBump_kept
          apply odBump_kept
          apply odBump_kept
          apply journalRecord_kept
          apply onStripe_kept
          apply Kept.foldl
          · intro x15 x16 h17
            apply noteResidue_kept
            assumption
          · refine KeptOP.out (r := (_, _)) e11 ?_
            apply takePages_kept
            split
            · apply splitStripe_kept
              split
              · refine Kept.mk_eq rfl rfl rfl rfl rfl rfl rfl rfl ?_
                assumption
              · apply noteUnplaced_kept
                assumption
            · split
              · refine Kept.mk_eq rfl rfl rfl rfl rfl rfl rfl rfl ?_
                assumption
              · apply noteUnplaced_kept
                assumption

theorem issueClosed_kept {base : Device} {d : Device} (hd : Kept base d) :
    Kept base (issueClosed d) := by
  unfold issueClosed
  apply Kept.foldl
  · intro x1 x2 h3
    split
    · rename_i e4 e5 e6
      apply issueStripe_kept
      assumption
    · assumption
  · assumption

theorem invalidateCopy_kept {base : Device} {c} {d : Device} (hd : Kept base d) :
    Kept base (invalidateCopy c d) := by
  unfold invalidateCopy
  split
  · assumption
  · lift_lets
    intro v1
    clear_value v1
    intro v2
    have h3 : Kept base v2 := by
      unfold v2
      apply Kept.foldl
      · intro x4 x5 h6
        apply onBlock_kept
        assumption
      · assumption
    clear_value v2
    intro v7
    clear_value v7
    apply sendLink_kept
    refine Kept.mk_eq rfl rfl rfl rfl rfl rfl rfl rfl ?_
    assumption

theorem truncateLost_kept {base : Device} {d : Device} (hd : Kept base d) :
    Kept base (truncateLost d) := by
  unfold truncateLost
  lift_lets
  intro v1
  clear_value v1
  intro v2
  have h3 : Kept base v2 := by
    unfold v2
    refine Kept.mk_eq rfl rfl rfl rfl rfl rfl rfl rfl ?_
    assumption
  clear_value v2
  intro v4
  clear_value v4
  split
  · assumption
  · apply logEvent_kept
    refine Kept.mk_eq rfl rfl rfl rfl rfl rfl rfl rfl ?_
    assumption

theorem addLost_kept {base : Device} {cause} {cls} {id} {bitmap} {copies} {d : Device} (hd : Kept base d) :
    Kept base (addLost cause cls id bitmap copies d) := by
  unfold addLost
  lift_lets
  intro v1
  clear_value v1
  intro v2
  clear_value v2
  intro v3
  clear_value v3
  intro v4
  have h5 : Kept base v4 := by
    unfold v4
    split
    · apply truncateLost_kept
      assumption
    · apply bumpVersion_kept
      refine Kept.mk_eq rfl rfl rfl rfl rfl rfl rfl rfl ?_
      assumption
  clear_value v4
  apply setCond_kept
  assumption

theorem releaseWrites_kept {base : Device} {d : Device} (hd : Kept base d) :
    Kept base (releaseWrites d) := by
  unfold releaseWrites
  lift_lets
  intro v1 v2 v3
  clear_value v3
  intro v4
  clear_value v4
  split
  · assumption
  · apply sendLink_kept
    refine Kept.mk_eq rfl rfl rfl rfl rfl rfl rfl rfl ?_
    assumption

theorem closeGather_kept {base : Device} {g} {d : Device} (hd : Kept base d) :
    Kept base (closeGather g d) := by
  unfold closeGather
  lift_lets
  intro v1
  clear_value v1
  intro v2
  clear_value v2
  intro v3
  clear_value v3
  intro v4
  clear_value v4
  intro v5
  clear_value v5
  refine Kept.mk_eq rfl rfl rfl rfl rfl rfl rfl rfl ?_
  assumption

theorem gatherBytes_kept {base : Device} {y0} {y1} {y2} {y3} {y4} {y5} {y6 : Device} (hy6 : Kept base y6) :
    KeptP base (gatherBytes y0 y1 y2 y3 y4 y5 y6) := by
  induction' y0 with n ih generalizing y1 y2 y3 y4 y5 y6
  · unfold gatherBytes
    apply KeptP.mk
    assumption
  · unfold gatherBytes
    split
    · apply KeptP.mk
      assumption
    · lift_lets
      intro v1
      clear_value v1
      intro v2
      have h3 : KeptP base v2 := by
        unfold v2
        apply nextStripe_kept
        assumption
      clear_value v2
      intro v4
      clear_value v4
      intro v5
      have h6 : Kept base v5 := by
        unfold v5
        apply KeptP.snd
        assumption
      clear_value v5
      intro v7
      clear_value v7
      intro v8
      clear_value v8
      split
      · apply ih
        refine Kept.mk_eq rfl rfl rfl rfl rfl rfl rfl rfl ?_
        assumption
      · rename_i e9 e10 e11 e12
        lift_lets
        intro v13
        clear_value v13
        intro v14
        clear_value v14
        intro v15
        have h16 : Kept base v15 := by
          unfold v15
          refine Kept.mk_eq rfl rfl rfl rfl rfl rfl rfl rfl ?_
          assumption
        clear_value v15
        intro v17
        have h18 : Kept base v17 := by
          unfold v17
          split
          · apply closeGather_kept
            assumption
          · assumption
        clear_value v17
        intro v19
        have h20 : KeptP base v19 := by
          unfold v19
          apply ih
          assumption
        clear_value v19
        split
        · apply ih
          apply closeGather_kept
          assumption
        · apply KeptP.mk
          apply KeptP.snd
          assumption

theorem gather_kept {base : Device} {cls} {cluster} {s} {ret} {len} {d : Device} (hd : Kept base d) :
    KeptP base (gather cls cluster s ret len d) := by
  unfold gather
  apply gatherBytes_kept
  assumption

theorem onFailed_kept {base : Device} {y0} {f} {d : Device} (hd : Kept base d) :
    Kept base (onFailed y0 f d) := by
  unfold onFailed
  refine Kept.mk_eq rfl rfl rfl rfl rfl rfl rfl rfl ?_
  assumption

theorem refreshRebuild_kept {base : Device} {d : Device} (hd : Kept base d) :
    Kept base (refreshRebuild d) := by
  unfold refreshRebuild
  lift_lets
  intro v1
  clear_value v1
  intro v2
  clear_value v2
  apply odPut_kept
  apply odPut_kept
  assumption

theorem startRebuild_kept {base : Device} {y0} {d : Device} (hd : Kept base d) :
    Kept base (startRebuild y0 d) := by
  unfold startRebuild
  split
  · apply refreshRebuild_kept
    apply logEvent_kept
    apply onFailed_kept
    assumption
  · assumption

theorem reapStripes_kept {base : Device} {d : Device} (hd : Kept base d) :
    Kept base (reapStripes d) := by
  unfold reapStripes
  lift_lets
  intro v1
  clear_value v1
  intro v2
  have h3 : Kept base v2 := by
    unfold v2
    apply Kept.foldl
    · intro x4 x5 h6
      apply Kept.foldl
      · intro x7 x8 h9
        apply dropUnit_kept
        assumption
      · assumption
    · assumption
  clear_value v2
  intro v10
  clear_value v10
  refine Kept.mk_eq rfl rfl rfl rfl rfl rfl rfl rfl ?_
  assumption

theorem stripeRelease_kept {base : Device} {id} {d : Device} (hd : Kept base d) :
    Kept base (stripeRelease id d) := by
  unfold stripeRelease
  split
  · assumption
  · rename_i e1 e2 e3
    split
    · apply reapStripes_kept
      apply releaseWrites_kept
      apply onStripe_kept
      assumption
    · assumption

theorem onMember_kept {base : Device} {id} {m} {f} {d : Device} (hd : Kept base d) :
    Kept base (onMember id m f d) := by
  unfold onMember
  apply onStripe_kept
  assumption

theorem programMember_kept {base : Device} {id} {m} {reclaim} {d : Device} (hd : Kept base d) :
    Kept base (programMember id m reclaim d) := by
  unfold programMember
  split
  · assumption
  · rename_i e1 e2 e3
    lift_lets
    intro v4
    clear_value v4
    intro v5
    have h6 : Kept base v5 := by
      unfold v5
      apply onMember_kept
      assumption
    clear_value v5
    intro v7
    clear_value v7
    apply queueOp_kept
    assumption

theorem stripeIssueDurable_kept {base : Device} {id} {d : Device} (hd : Kept base d) :
    Kept base (stripeIssueDurable id d) := by
  unfold stripeIssueDurable
  split
  · assumption
  · rename_i e1 e2 e3
    split
    · apply Kept.foldl
      · intro x4 x5 h6
        split
        · rename_i e7 e8 e9 e10
          split
          · assumption
          · apply programMember_kept
            assumption
        · assumption
      · assumption
    · assumption

theorem landReloc_kept {base : Device} {r} {d : Device} (hd : Kept base d) :
    Kept base (landReloc r d) := by
  unfold landReloc
  lift_lets
  intro v1
  clear_value v1
  intro v2
  have h3 : Kept base v2 := by
    unfold v2
    refine Kept.mk_eq rfl rfl rfl rfl rfl rfl rfl rfl ?_
    assumption
  clear_value v2
  split
  · rename_i e4 e5 e6
    split
    · apply journalRecord_kept
      apply onCopy_kept
      assumption
    · apply odBump_kept
      assumption
  · apply odBump_kept
    assumption

theorem invalidated_kept {base : Device} {domain} {fp} {num} {d : Device} (hd : Kept base d) :
    Kept base (invalidated domain fp num d) := by
  unfold invalidated
  lift_lets
  intro v1
  clear_value v1
  intro v2
  clear_value v2
  intro v3
  clear_value v3
  intro v4
  clear_value v4
  intro v5
  have h6 : Kept base v5 := by
    unfold v5
    refine Kept.mk_eq rfl rfl rfl rfl rfl rfl rfl rfl ?_
    assumption
  clear_value v5
  split
  · rename_i e7 e8 e9
    apply landReloc_kept
    assumption
  · assumption

theorem invalidateNone_kept {base : Device} {d : Device} (hd : Kept base d) :
    Kept base (invalidateNone d) := by
  unfold invalidateNone
  apply Kept.foldl
  · intro x1 x2 h3
    apply invalidated_kept
    assumption
  · assumption

theorem relocateStripe_kept {base : Device} {ok} {s} {d : Device} (hd : Kept base d) :
    Kept base (relocateStripe ok s d) := by
  unfold relocateStripe
  lift_lets
  intro v1
  clear_value v1
  intro v2
  have h3 : Kept base v2 := by
    unfold v2
    apply Kept.foldl
    · intro x4 x5 h6
      lift_lets
      intro v7
      have h8 : KeptP base v7 := by
        unfold v7
        apply gather_kept
        assumption
      clear_value v7
      intro v9
      have h10 : Kept base v9 := by
        unfold v9
        apply KeptP.snd
        assumption
      clear_value v9
      intro v11
      clear_value v11
      intro v12
      have h13 : Kept base v12 := by
        unfold v12
        refine Kept.mk_eq rfl rfl rfl rfl rfl rfl rfl rfl ?_
        assumption
      clear_value v12
      apply odBump_kept
      assumption
    · assumption
  clear_value v2
  intro v14
  clear_value v14
  apply issueClosed_kept
  apply Kept.foldl
  · intro x15 x16 h17
    lift_lets
    intro v18
    clear_value v18
    apply odBump_kept
    refine Kept.mk_eq rfl rfl rfl rfl rfl rfl rfl rfl ?_
    apply KeptP.snd
    apply gather_kept
    assumption
  · assumption

theorem pick_kept {α : Type} {base : Device} {l : List α} {d : Device} (hd : Kept base d) : KeptOP base (pick l d) := by
  unfold pick
  split
  · exact KeptOP.none
  · exact KeptOP.some (KeptP.snd (draw_kept hd))

theorem startMove_kept {base : Device} {id} {member} {reason} {read} {req} {d : Device} (hd : Kept base d) :
    Kept base (startMove id member reason read req d) := by
  unfold startMove
  split
  · assumption
  · rename_i e1 e2 e3
    split
    · assumption
    · rename_i e4 e5 e6
      split
      · assumption
      · split
        · apply relocateStripe_kept
          assumption
        · rename_i e7 e8 e9 e10 e11
          split
          · refine KeptOP.out (r := (_, _)) e11 ?_
            apply pick_kept
            assumption
          · rename_i e12 e13 e14
            lift_lets
            intro v15
            have h16 : Kept base v15 := by
              unfold v15
              apply noteResidue_kept
              apply takePage_kept
              refine KeptOP.out (r := (_, _)) e11 ?_
              apply pick_kept
              assumption
            clear_value v15
            intro v17
            clear_value v17
            intro v18
            have h19 : Kept base v18 := by
              unfold v18
              refine Kept.mk_eq rfl rfl rfl rfl rfl rfl rfl rfl ?_
              assumption
            clear_value v18
            intro v20
            clear_value v20
            split
            · apply queueOp_kept
              assumption
            · apply programMember_kept
              assumption

theorem ringPlace_kept {base : Device} {d : Device} (hd : Kept base d) :
    KeptOP base (ringPlace d) := by
  unfold ringPlace
  lift_lets
  intro v1
  clear_value v1
  intro v2
  clear_value v2
  apply pick_kept
  assumption

theorem rewriteCopy_kept {base : Device} {n} {d : Device} (hd : Kept base d) :
    Kept base (rewriteCopy n d) := by
  unfold rewriteCopy
  lift_lets
  intro v1
  clear_value v1
  intro v2
  have h3 : Kept base v2 := by
    unfold v2
    refine Kept.mk_eq rfl rfl rfl rfl rfl rfl rfl rfl ?_
    assumption
  clear_value v2
  split
  · rename_i e4 e5 e6
    lift_lets
    intro v7
    have h8 : Kept base v7 := by
      unfold v7
      apply KeptP.snd
      refine KeptOP.pair e6 ?_
      apply ringPlace_kept
      assumption
    clear_value v7
    intro v9
    clear_value v9
    refine Kept.mk_eq rfl rfl rfl rfl rfl rfl rfl rfl ?_
    assumption
  · assumption

theorem loseStripe_kept {base : Device} {id} {cause} {d : Device} (hd : Kept base d) :
    Kept base (loseStripe id cause d) := by
  unfold loseStripe
  split
  · assumption
  · rename_i e1 e2 e3
    split
    · assumption
    · lift_lets
      intro v4
      clear_value v4
      intro v5
      clear_value v5
      intro v6
      have h7 : Kept base v6 := by
        unfold v6
        apply journalRecord_kept
        assumption
      clear_value v6
      intro v8
      clear_value v8
      intro v9
      clear_value v9
      intro v10
      clear_value v10
      intro v11
      have h12 : Kept base v11 := by
        unfold v11
        refine Kept.mk_eq rfl rfl rfl rfl rfl rfl rfl rfl ?_
        assumption
      clear_value v11
      intro v13
      have h14 : Kept base v13 := by
        unfold v13
        apply Kept.foldl
        · intro x15 x16 h17
          apply hotRemove_kept
          apply recordCopy_kept
          assumption
        · assumption
      clear_value v13
      intro v18
      clear_value v18
      intro v19
      clear_value v19
      intro v20
      have h21 : Kept base v20 := by
        unfold v20
        refine Kept.mk_eq rfl rfl rfl rfl rfl rfl rfl rfl ?_
        assumption
      clear_value v20
      intro v22
      have h23 : Kept base v22 := by
        unfold v22
        apply onStripe_kept
        assumption
      clear_value v22
      intro v24
      have h25 : Kept base v24 := by
        unfold v24
        apply addLost_kept
        assumption
      clear_value v24
      intro v26
      have h27 : Kept base v26 := by
        unfold v26
        apply logEvent_kept
        assumption
      clear_value v26
      apply relocateStripe_kept
      assumption

theorem readMember_kept {base : Device} {s} {deep} {d : Device} {i} (hd : Kept base d) :
    Kept base (readMember s deep d i) := by
  unfold readMember
  split
  · rename_i e1 e2 e3
    apply queueOp_kept
    assumption
  · assumption

theorem checked_kept {base : Device} {id} {d : Device} (hd : Kept base d) :
    Kept base (checked id d) := by
  unfold checked
  refine Kept.mk_eq rfl rfl rfl rfl rfl rfl rfl rfl ?_
  assumption

theorem checkOn_kept {base : Device} {d : Device} {id} (hd : Kept base d) :
    Kept base (checkOn d id) := by
  unfold checkOn
  lift_lets
  intro v1
  clear_value v1
  split
  · apply checked_kept
    assumption
  · rename_i e2 e3 e4
    lift_lets
    intro v5
    clear_value v5
    intro v6
    have h7 : Kept base v6 := by
      unfold v6
      apply Kept.foldl
      · intro x8 x9 h10
        apply startMove_kept
        assumption
      · assumption
    clear_value v6
    split
    · apply checked_kept
      assumption
    · split
      · assumption
      · split
        · split
          · assumption
          · apply checked_kept
            assumption
        · split
          · apply Kept.foldl
            · intro x11 x12 h13
              apply readMember_kept
              assumption
            · assumption
          · apply checked_kept
            apply loseStripe_kept
            assumption

theorem leaveReadOnly_kept {base : Device} {d : Device} (hd : Kept base d) :
    Kept base (leaveReadOnly d) := by
  unfold leaveReadOnly
  split
  · apply setCond_kept
    refine Kept.mk_eq rfl rfl rfl rfl rfl rfl rfl rfl ?_
    assumption
  · assumption

theorem settleChecks_kept {base : Device} {d : Device} (hd : Kept base d) :
    Kept base (settleChecks d) := by
  unfold settleChecks
  split
  · assumption
  · apply leaveReadOnly_kept
    apply Kept.foldl
    · intro x1 x2 h3
      apply checkOn_kept
      assumption
    · assumption

theorem enterReadOnly_kept {base : Device} {d : Device} (hd : Kept base d) :
    Kept base (enterReadOnly d) := by
  unfold enterReadOnly
  split
  · assumption
  · lift_lets
    intro v1
    clear_value v1
    intro v2
    clear_value v2
    intro v3
    have h4 : Kept base v3 := by
      unfold v3
      apply setCond_kept
      refine Kept.mk_eq rfl rfl rfl rfl rfl rfl rfl rfl ?_
      assumption
    clear_value v3
    intro v5
    have h6 : Kept base v5 := by
      unfold v5
      apply Kept.foldl
      · intro x7 x8 h9
        lift_lets
        intro v10
        clear_value v10
        apply Kept.foldl
        · intro x11 x12 h13
          apply readMember_kept
          assumption
        · assumption
      · assumption
    clear_value v5
    apply settleChecks_kept
    assumption

theorem addLostKey_kept {base : Device} {k} {d : Device} (hd : Kept base d) :
    Kept base (addLostKey k d) := by
  unfold addLostKey
  split
  · apply truncateLost_kept
    assumption
  · lift_lets
    intro v1
    clear_value v1
    intro v2
    clear_value v2
    refine Kept.mk_eq rfl rfl rfl rfl rfl rfl rfl rfl ?_
    assumption

theorem closeGathers_kept {base : Device} {f} {d : Device} (hd : Kept base d) :
    Kept base (closeGathers f d) := by
  unfold closeGathers
  apply issueClosed_kept
  apply Kept.foldl
  · intro x1 x2 h3
    apply closeGather_kept
    assumption
  · assumption

theorem refreshCopies_kept {base : Device} {d : Device} (hd : Kept base d) :
    Kept base (refreshCopies d) := by
  unfold refreshCopies
  lift_lets
  intro v1
  have h2 : Kept base v1 := by
    unfold v1
    apply setCond_kept
    assumption
  clear_value v1
  split
  · apply enterReadOnly_kept
    assumption
  · apply leaveReadOnly_kept
    assumption

theorem copyLost_kept {base : Device} {n} {d : Device} (hd : Kept base d) :
    Kept base (copyLost n d) := by
  unfold copyLost
  split
  · split
    · apply rewriteCopy_kept
      apply logEvent_kept
      refine Kept.mk_eq rfl rfl rfl rfl rfl rfl rfl rfl ?_
      assumption
    · assumption
  · split
    · assumption
    · apply refreshCopies_kept
      apply rewriteCopy_kept
      apply logEvent_kept
      refine Kept.mk_eq rfl rfl rfl rfl rfl rfl rfl rfl ?_
      assumption

theorem failOne_kept {base : Device} {y0} {cause} {d : Device} (hd : Kept base d) :
    Kept base (failOne y0 cause d) := by
  unfold failOne
  split
  · assumption
  · lift_lets
    intro v1
    have h2 : Kept base v1 := by
      unfold v1
      apply journalRecord_kept
      assumption
    clear_value v1
    intro v3
    have h4 : Kept base v3 := by
      unfold v3
      apply odBump_kept
      apply logEvent_kept
      assumption
    clear_value v3
    intro v5
    clear_value v5
    intro v6
    clear_value v6
    intro v7
    clear_value v7
    intro v8
    clear_value v8
    intro v9
    clear_value v9
    intro v10
    clear_value v10
    intro v11
    clear_value v11
    intro v12
    have h13 : Kept base v12 := by
      unfold v12
      refine Kept.mk_eq rfl rfl rfl rfl rfl rfl rfl rfl ?_
      assumption
    clear_value v12
    apply settleChecks_kept
    apply refreshRebuild_kept
    apply Kept.foldl
    · intro x14 x15 h16
      apply copyLost_kept
      assumption
    · assumption

theorem failElement_kept {base : Device} {y0} {cause} {d : Device} (hd : Kept base d) :
    Kept base (failElement y0 cause d) := by
  unfold failElement
  lift_lets
  intro v1
  clear_value v1
  intro v2
  clear_value v2
  intro v3
  have h4 : Kept base v3 := by
    unfold v3
    apply failOne_kept
    assumption
  clear_value v3
  intro v5
  have h6 : Kept base v5 := by
    unfold v5
    split
    · apply failOne_kept
      assumption
    · assumption
  clear_value v5
  intro v7
  clear_value v7
  intro v8
  have h9 : Kept base v8 := by
    unfold v8
    split
    · apply failOne_kept
      assumption
    · assumption
  clear_value v8
  split
  · assumption
  · split
    · apply failOne_kept
      assumption
    · assumption

theorem copyRewritten_kept {base : Device} {n} {d : Device} (hd : Kept base d) :
    Kept base (copyRewritten n d) := by
  unfold copyRewritten
  split
  · assumption
  · lift_lets
    intro v1
    clear_value v1
    intro v2
    have h3 : Kept base v2 := by
      unfold v2
      refine Kept.mk_eq rfl rfl rfl rfl rfl rfl rfl rfl ?_
      assumption
    clear_value v2
    intro v4
    clear_value v4
    intro v5
    have h6 : Kept base v5 := by
      unfold v5
      split
      · refine Kept.mk_eq rfl rfl rfl rfl rfl rfl rfl rfl ?_
        assumption
      · refine Kept.mk_eq rfl rfl rfl rfl rfl rfl rfl rfl ?_
        assumption
    clear_value v5
    apply refreshCopies_kept
    apply logEvent_kept
    assumption

theorem execJournalCopyRewritten_kept {base : Device} {copy} {s : State} (hs : Kept base s.dev) :
    KeptB base (execJournalCopyRewritten copy s) := by
  unfold execJournalCopyRewritten
  apply next_keptB
  · intro x1 h2
    apply issueClosed_kept
    apply copyRewritten_kept
    assumption
  · assumption

theorem lostScan_kept {base : Device} {id} {d : Device} (hd : Kept base d) :
    Kept base (lostScan id d) := by
  unfold lostScan
  split
  · assumption
  · rename_i e1 e2 e3
    lift_lets
    intro v4
    have h5 : Kept base v4 := by
      unfold v4
      apply Kept.foldl
      · intro x6 x7 h8
        apply addLostKey_kept
        assumption
      · assumption
    clear_value v4
    intro v9
    clear_value v9
    intro v10
    clear_value v10
    apply bumpVersion_kept
    refine Kept.mk_eq rfl rfl rfl rfl rfl rfl rfl rfl ?_
    assumption

theorem execLostStripeKeyScan_kept {base : Device} {stripe} {s : State} (hs : Kept base s.dev) :
    KeptB base (execLostStripeKeyScan stripe s) := by
  unfold execLostStripeKeyScan
  apply next_keptB
  · intro x1 h2
    apply lostScan_kept
    assumption
  · assumption

theorem execRebuildResume_kept {base : Device} {element} {s : State} (hs : Kept base s.dev) :
    KeptB base (execRebuildResume element s) := by
  unfold execRebuildResume
  apply next_keptB
  · intro x1 h2
    split
    · assumption
    · rename_i e3 e4 e5
      split
      · apply refreshRebuild_kept
        apply onFailed_kept
        assumption
      · assumption
  · assumption

theorem repairStripe_kept {base : Device} {y0} {id} {d : Device} (hd : Kept base d) :
    Kept base (repairStripe y0 id d) := by
  unfold repairStripe
  split
  · assumption
  · rename_i e1 e2 e3
    lift_lets
    intro v4
    clear_value v4
    intro v5
    have h6 : Kept base v5 := by
      unfold v5
      apply onFailed_kept
      assumption
    clear_value v5
    split
    · apply Kept.foldl
      · intro x7 x8 h9
        apply startMove_kept
        assumption
      · assumption
    · split
      · apply loseStripe_kept
        assumption
      · apply Kept.foldl
        · intro x10 x11 h12
          apply readMember_kept
          assumption
        · assumption

theorem settleRebuild_kept {base : Device} {y0} {d : Device} (hd : Kept base d) :
    Kept base (settleRebuild y0 d) := by
  unfold settleRebuild
  split
  · assumption
  · rename_i e1 e2 e3
    split
    · assumption
    · lift_lets
      intro v4 v5 v6
      clear_value v6
      intro v7
      clear_value v7
      intro v8
      clear_value v8
      intro v9
      clear_value v9
      intro v10
      have h11 : Kept base v10 := by
        unfold v10
        apply onFailed_kept
        assumption
      clear_value v10
      apply refreshRebuild_kept
      split
      · apply logEvent_kept
        assumption
      · assumption

theorem rebuildStripe_kept {base : Device} {y0} {d : Device} (hd : Kept base d) :
    Kept base (rebuildStripe y0 d) := by
  unfold rebuildStripe
  lift_lets
  intro v1
  have h2 : Kept base v1 := by
    unfold v1
    apply settleRebuild_kept
    assumption
  clear_value v1
  split
  · assumption
  · rename_i e3 e4 e5
    lift_lets
    intro v6
    clear_value v6
    intro v7
    clear_value v7
    split
    · assumption
    · split
      · apply settleRebuild_kept
        apply repairStripe_kept
        assumption
      · split
        · assumption
        · apply refreshRebuild_kept
          apply onFailed_kept
          assumption

theorem execRebuildStripe_kept {base : Device} {element} {s : State} (hs : Kept base s.dev) :
    KeptB base (execRebuildStripe element s) := by
  unfold execRebuildStripe
  apply next_keptB
  · intro x1 h2
    apply rebuildStripe_kept
    assumption
  · assumption

theorem execLunResetTimeout_kept {base : Device} {channel} {target} {lun} {s : State} (hs : Kept base s.dev) :
    KeptB base (execLunResetTimeout channel target lun s) := by
  unfold execLunResetTimeout
  apply next_keptB
  · intro x1 h2
    apply failElement_kept
    apply odBump_kept
    assumption
  · assumption

theorem noteTimeout_kept {base : Device} {m} {d : Device} (hd : Kept base d) :
    Kept base (noteTimeout m d) := by
  unfold noteTimeout
  lift_lets
  intro v1
  clear_value v1
  intro v2
  clear_value v2
  intro v3
  clear_value v3
  intro v4
  have h5 : Kept base v4 := by
    unfold v4
    apply odBump_kept
    refine Kept.mk_eq rfl rfl rfl rfl rfl rfl rfl rfl ?_
    assumption
  clear_value v4
  split
  · apply failElement_kept
    assumption
  · assumption

theorem finishMove_kept {base : Device} {mv} {d : Device} (hd : Kept base d) :
    Kept base (finishMove mv d) := by
  unfold finishMove
  lift_lets
  intro v1
  clear_value v1
  intro v2
  have h3 : Kept base v2 := by
    unfold v2
    refine Kept.mk_eq rfl rfl rfl rfl rfl rfl rfl rfl ?_
    assumption
  clear_value v2
  intro v4
  have h5 : Kept base v4 := by
    unfold v4
    apply onMember_kept
    assumption
  clear_value v4
  intro v6
  have h7 : Kept base v6 := by
    unfold v6
    apply journalRecord_kept
    assumption
  clear_value v6
  intro v8
  have h9 : Kept base v8 := by
    unfold v8
    apply odBump_kept
    apply dropUnit_kept
    assumption
  clear_value v8
  intro v10
  clear_value v10
  intro v11
  have h12 : Kept base v11 := by
    unfold v11
    refine Kept.mk_eq rfl rfl rfl rfl rfl rfl rfl rfl ?_
    assumption
  clear_value v11
  split
  · apply dropUnit_kept
    apply odBump_kept
    assumption
  · rename_i e13 e14 e15
    split
    · apply dropUnit_kept
      apply odBump_kept
      assumption
    · split
      · rename_i e16 e17 e18 e19
        apply sendLink_kept
        assumption
      · assumption

theorem execStripeRelease_kept {base : Device} {stripe} {s : State} (hs : Kept base s.dev) :
    KeptB base (execStripeRelease stripe s) := by
  unfold execStripeRelease
  apply next_keptB
  · intro x1 h2
    apply stripeRelease_kept
    assumption
  · assumption

theorem landMapPages_kept {base : Device} {id} {d : Device} (hd : Kept base d) :
    Kept base (landMapPages id d) := by
  unfold landMapPages
  lift_lets
  intro v1
  clear_value v1
  intro v2
  clear_value v2
  intro v3
  clear_value v3
  apply Kept.foldl
  · intro x4 x5 h6
    apply odBump_kept
    apply journalRecord_kept
    assumption
  · refine Kept.mk_eq rfl rfl rfl rfl rfl rfl rfl rfl ?_
    assumption

theorem landRelocs_kept {base : Device} {d : Device} (hd : Kept base d) :
    Kept base (landRelocs d) := by
  unfold landRelocs
  lift_lets
  intro v1
  apply Kept.foldl
  · intro x2 x3 h4
    lift_lets
    intro v5
    clear_value v5
    split
    · rename_i e6 e7 e8
      split
      · apply landReloc_kept
        assumption
      · apply invalidateCopy_kept
        refine Kept.mk_eq rfl rfl rfl rfl rfl rfl rfl rfl ?_
        assumption
    · apply landReloc_kept
      assumption
  · assumption

theorem stripeProgrammed_kept {base : Device} {id} {d : Device} (hd : Kept base d) :
    Kept base (stripeProgrammed id d) := by
  unfold stripeProgrammed
  split
  · assumption
  · rename_i e1 e2 e3
    split
    · lift_lets
      intro v4
      have h5 : Kept base v4 := by
        unfold v4
        apply onStripe_kept
        assumption
      clear_value v4
      intro v6
      have h7 : Kept base v6 := by
        unfold v6
        apply journalRecord_kept
        assumption
      clear_value v6
      apply landRelocs_kept
      apply landMapPages_kept
      assumption
    · assumption

theorem execStripeMembersProgrammed_kept {base : Device} {stripe} {s : State} (hs : Kept base s.dev) :
    KeptB base (execStripeMembersProgrammed stripe s) := by
  unfold execStripeMembersProgrammed
  apply next_keptB
  · intro x1 h2
    apply stripeProgrammed_kept
    assumption
  · assumption

theorem execStripeIssueDurable_kept {base : Device} {stripe} {s : State} (hs : Kept base s.dev) :
    KeptB base (execStripeIssueDurable stripe s) := by
  unfold execStripeIssueDurable
  apply next_keptB
  · intro x1 h2
    apply stripeIssueDurable_kept
    assumption
  · assumption

theorem stripeClose_kept {base : Device} {cls} {cluster} {d : Device} (hd : Kept base d) :
    Kept base (stripeClose cls cluster d) := by
  unfold stripeClose
  split
  · rename_i e1 e2 e3
    apply issueClosed_kept
    split
    · assumption
    · apply closeGather_kept
      assumption
  · apply issueClosed_kept
    assumption

theorem execGatherLimitExpiry_kept {base : Device} {cls} {cluster} {s : State} (hs : Kept base s.dev) :
    KeptB base (execGatherLimitExpiry cls cluster s) := by
  unfold execGatherLimitExpiry
  apply next_keptB
  · intro x1 h2
    split
    · assumption
    · rename_i e3 e4 e5
      apply stripeClose_kept
      apply waitUntil_kept
      assumption
  · assumption

theorem execStripeClose_kept {base : Device} {cls} {cluster} {s : State} (hs : Kept base s.dev) :
    KeptB base (execStripeClose cls cluster s) := by
  unfold execStripeClose
  apply next_keptB
  · intro x1 h2
    apply stripeClose_kept
    assumption
  · assumption

theorem clearLost_kept {base : Device} {d : Device} (hd : Kept base d) :
    Kept base (clearLost d) := by
  unfold clearLost
  lift_lets
  intro v1 v2
  clear_value v2
  intro v3
  clear_value v3
  intro v4
  have h5 : Kept base v4 := by
    unfold v4
    refine Kept.mk_eq rfl rfl rfl rfl rfl rfl rfl rfl ?_
    assumption
  clear_value v4
  intro v6
  clear_value v6
  split
  · apply setCond_kept
    apply bumpVersion_kept
    refine Kept.mk_eq rfl rfl rfl rfl rfl rfl rfl rfl ?_
    assumption
  · apply bumpVersion_kept
    assumption

end Sys2Proof.Machine
end

