-- ==== Sys2Proof/Laws/KeptB.lean ====
section
/-! SUPPORT. What no operation of Media, Map, LongOp, EngQueue, Value takes back: `Kept` through each. -/

namespace Sys2Proof.Machine

/-! ## Media -/

theorem newReq_kept {base : Device} {what} {domain} {fp} {copy} {d : Device} (hd : Kept base d) :
    KeptP base (newReq what domain fp copy d) := by
  unfold newReq
  lift_lets
  intro v1
  clear_value v1
  intro v2
  clear_value v2
  apply KeptP.mk
  refine Kept.mk_eq rfl rfl rfl rfl rfl rfl rfl rfl ?_
  assumption

theorem settleErased_kept {base : Device} {d : Device} (hd : Kept base d) :
    Kept base (settleErased d) := by
  unfold settleErased
  lift_lets
  intro v1 v2
  clear_value v2
  intro v3
  clear_value v3
  intro v4
  clear_value v4
  intro v5
  have h6 : Kept base v5 := by
    unfold v5
    refine Kept.mk_eq rfl rfl rfl rfl rfl rfl rfl rfl ?_
    assumption
  clear_value v5
  apply Kept.foldl
  · intro x7 x8 h9
    apply logEvent_kept
    assumption
  · assumption

theorem queueRefresh_kept {base : Device} {m} {d : Device} (hd : Kept base d) :
    Kept base (queueRefresh m d) := by
  unfold queueRefresh
  apply onBlock_kept
  assumption

theorem bumpGroup_kept {base : Device} {g} {i} {d : Device} (hd : Kept base d) :
    Kept base (bumpGroup g i d) := by
  unfold bumpGroup
  lift_lets
  intro v1
  clear_value v1
  intro v2
  clear_value v2
  refine Kept.mk_eq rfl rfl rfl rfl rfl rfl rfl rfl ?_
  assumption

theorem askMoves_kept {base : Device} {y0} {y1} {y2} {y3 : Device} (hy3 : Kept base y3) :
    Kept base (askMoves y0 y1 y2 y3) := by
  induction' y0 with n ih generalizing y1 y2 y3
  · unfold askMoves
    assumption
  · unfold askMoves
    lift_lets
    intro v1
    have h2 : KeptP base v1 := by
      unfold v1
      apply draw_kept
      assumption
    clear_value v1
    intro v3
    have h4 : KeptP base v3 := by
      unfold v3
      apply draw_kept
      apply KeptP.snd
      assumption
    clear_value v3
    intro v5
    have h6 : KeptP base v5 := by
      unfold v5
      apply newReq_kept
      apply KeptP.snd
      assumption
    clear_value v5
    intro v7
    have h8 : Kept base v7 := by
      unfold v7
      apply KeptP.snd
      assumption
    clear_value v7
    intro v9
    clear_value v9
    intro v10
    have h11 : Kept base v10 := by
      unfold v10
      refine Kept.mk_eq rfl rfl rfl rfl rfl rfl rfl rfl ?_
      assumption
    clear_value v10
    apply ih
    apply sendLink_kept
    assumption

theorem emptyBlock_kept {base : Device} {m} {reason} {d : Device} (hd : Kept base d) :
    Kept base (emptyBlock m reason d) := by
  unfold emptyBlock
  split
  · assumption
  · rename_i e1 e2 e3
    lift_lets
    intro v4
    have h5 : Kept base v4 := by
      unfold v4
      apply onBlock_kept
      assumption
    clear_value v4
    intro v6
    clear_value v6
    intro v7
    have h8 : Kept base v7 := by
      unfold v7
      apply Kept.foldl
      · intro x9 x10 h11
        apply startMove_kept
        assumption
      · assumption
    clear_value v7
    split
    · apply askMoves_kept
      assumption
    · assumption

theorem eraseAnswered_kept {base : Device} {m} {result} {d : Device} (hd : Kept base d) :
    Kept base (eraseAnswered m result d) := by
  unfold eraseAnswered
  lift_lets
  intro v1
  clear_value v1
  intro v2
  clear_value v2
  intro v3
  have h4 : Kept base v3 := by
    unfold v3
    refine Kept.mk_eq rfl rfl rfl rfl rfl rfl rfl rfl ?_
    assumption
  clear_value v3
  apply Kept.foldl
  · intro x5 x6 h7
    apply sendLink_kept
    assumption
  · assumption

theorem execFlashEraseFailure_kept {base : Device} {op} {s : State} (hs : Kept base s.dev) :
    KeptB base (execFlashEraseFailure op s) := by
  unfold execFlashEraseFailure
  apply next_keptB
  · intro x1 h2
    split
    · assumption
    · rename_i e3 e4 e5
      split
      · apply eraseAnswered_kept
        apply retireBlock_kept
        apply endOp_kept
        assumption
      · assumption
  · assumption

theorem noteErased_kept {base : Device} {m} {d : Device} (hd : Kept base d) :
    Kept base (noteErased m d) := by
  unfold noteErased
  lift_lets
  intro v1
  clear_value v1
  intro v2
  clear_value v2
  apply settleErased_kept
  refine Kept.mk_eq rfl rfl rfl rfl rfl rfl rfl rfl ?_
  assumption

theorem eraseComplete_kept {base : Device} {op} {d : Device} (hd : Kept base d) :
    Kept base (eraseComplete op d) := by
  unfold eraseComplete
  split
  · assumption
  · rename_i e1 e2 e3
    split
    · assumption
    · lift_lets
      intro v4
      have h5 : Kept base v4 := by
        unfold v4
        apply endOp_kept
        assumption
      clear_value v4
      intro v6
      have h7 : Kept base v6 := by
        unfold v6
        apply onBlock_kept
        assumption
      clear_value v6
      intro v8
      clear_value v8
      intro v9
      have h10 : Kept base v9 := by
        unfold v9
        refine Kept.mk_eq rfl rfl rfl rfl rfl rfl rfl rfl ?_
        assumption
      clear_value v9
      intro v11
      clear_value v11
      intro v12
      clear_value v12
      intro v13
      clear_value v13
      intro v14
      have h15 : Kept base v14 := by
        unfold v14
        refine Kept.mk_eq rfl rfl rfl rfl rfl rfl rfl rfl ?_
        assumption
      clear_value v14
      intro v16
      have h17 : Kept base v16 := by
        unfold v16
        apply journalRecord_kept
        assumption
      clear_value v16
      apply eraseAnswered_kept
      apply odBump_kept
      apply noteErased_kept
      assumption

theorem execFlashEraseComplete_kept {base : Device} {op} {s : State} (hs : Kept base s.dev) :
    KeptB base (execFlashEraseComplete op s) := by
  unfold execFlashEraseComplete
  apply next_keptB
  · intro x1 h2
    apply eraseComplete_kept
    assumption
  · assumption

theorem engineSees_kept {base : Device} {o} {decoded} {d : Device} (hd : Kept base d) :
    Kept base (engineSees o decoded d) := by
  unfold engineSees
  split
  · assumption
  · rename_i e1 e2 e3
    lift_lets
    intro v4
    have h5 : Kept base v4 := by
      unfold v4
      apply engineCond_kept
      apply engineCond_kept
      assumption
    clear_value v4
    apply onEngine_kept
    · intro x6
      rfl
    · assumption

theorem programFailed_kept {base : Device} {o} {reason} {d : Device} (hd : Kept base d) :
    Kept base (programFailed o reason d) := by
  unfold programFailed
  lift_lets
  intro v1
  have h2 : Kept base v1 := by
    unfold v1
    apply engineSees_kept
    apply endOp_kept
    assumption
  clear_value v1
  intro v3
  clear_value v3
  intro v4
  have h5 : Kept base v4 := by
    unfold v4
    refine Kept.mk_eq rfl rfl rfl rfl rfl rfl rfl rfl ?_
    assumption
  clear_value v4
  intro v6
  have h7 : Kept base v6 := by
    unfold v6
    apply retireBlock_kept
    apply dropUnit_kept
    assumption
  clear_value v6
  intro v8
  have h9 : Kept base v8 := by
    unfold v8
    apply retireBlock_kept
    assumption
  clear_value v8
  split
  · rename_i e10 e11 e12
    apply emptyBlock_kept
    apply startMove_kept
    assumption
  · apply emptyBlock_kept
    apply startMove_kept
    assumption

theorem execFlashProgramTimeout_kept {base : Device} {op} {s : State} (hs : Kept base s.dev) :
    KeptB base (execFlashProgramTimeout op s) := by
  unfold execFlashProgramTimeout
  apply next_keptB
  · intro x1 h2
    split
    · assumption
    · rename_i e3 e4 e5
      split
      · lift_lets
        intro v6
        clear_value v6
        apply noteTimeout_kept
        apply programFailed_kept
        apply waitUntil_kept
        assumption
      · assumption
  · assumption

theorem execFlashProgramFailure_kept {base : Device} {op} {s : State} (hs : Kept base s.dev) :
    KeptB base (execFlashProgramFailure op s) := by
  unfold execFlashProgramFailure
  apply next_keptB
  · intro x1 h2
    split
    · assumption
    · rename_i e3 e4 e5
      split
      · apply programFailed_kept
        assumption
      · assumption
  · assumption

theorem programComplete_kept {base : Device} {op} {d : Device} (hd : Kept base d) :
    Kept base (programComplete op d) := by
  unfold programComplete
  split
  · assumption
  · rename_i e1 e2 e3
    split
    · assumption
    · lift_lets
      intro v4
      have h5 : Kept base v4 := by
        unfold v4
        apply engineSees_kept
        apply endOp_kept
        assumption
      clear_value v4
      intro v6
      have h7 : Kept base v6 := by
        unfold v6
        split
        · rename_i e8 e9 e10 e11
          split
          · apply finishMove_kept
            assumption
          · assumption
        · apply onMember_kept
          assumption
      clear_value v6
      intro v12
      clear_value v12
      split
      · apply reapStripes_kept
        assumption
      · rename_i e13 e14 e15 e16
        split
        · apply queueOp_kept
          assumption
        · apply reapStripes_kept
          assumption

theorem execFlashProgramComplete_kept {base : Device} {op} {s : State} (hs : Kept base s.dev) :
    KeptB base (execFlashProgramComplete op s) := by
  unfold execFlashProgramComplete
  apply next_keptB
  · intro x1 h2
    apply settleChecks_kept
    apply programComplete_kept
    assumption
  · assumption

theorem failVerify_kept {base : Device} {o} {d : Device} (hd : Kept base d) :
    Kept base (failVerify o d) := by
  unfold failVerify
  apply logEvent_kept
  apply startMove_kept
  assumption

theorem repairAfterRead_kept {base : Device} {o} {d : Device} (hd : Kept base d) :
    Kept base (repairAfterRead o d) := by
  unfold repairAfterRead
  lift_lets
  intro v1
  have h2 : Kept base v1 := by
    unfold v1
    apply odBump_kept
    assumption
  clear_value v1
  intro v3
  clear_value v3
  intro v4
  have h5 : Kept base v4 := by
    unfold v4
    refine Kept.mk_eq rfl rfl rfl rfl rfl rfl rfl rfl ?_
    assumption
  clear_value v4
  split
  · assumption
  · apply startMove_kept
    assumption

theorem readFailed_kept {base : Device} {o} {d : Device} (hd : Kept base d) :
    Kept base (readFailed o d) := by
  unfold readFailed
  split
  · apply copyLost_kept
    assumption
  · lift_lets
    intro v1
    have h2 : Kept base v1 := by
      unfold v1
      apply onMember_kept
      assumption
    clear_value v1
    intro v3
    clear_value v3
    split
    · rename_i e4 e5 e6 e7 e8
      split
      · apply repairAfterRead_kept
        assumption
      · assumption
    · rename_i e9 e10 e11 e12 e13 e14
      apply sendLink_kept
      assumption
    · split
      · apply failVerify_kept
        assumption
      · split
        · split
          · assumption
          · rename_i e15 e16 e17 e18 e19 e20 e21 e22 e23 e24
            split
            · apply programMember_kept
              assumption
            · split
              · apply queueOp_kept
                assumption
              · apply loseStripe_kept
                assumption
        · assumption

theorem execHardReadLimit_kept {base : Device} {op} {s : State} (hs : Kept base s.dev) :
    KeptB base (execHardReadLimit op s) := by
  unfold execHardReadLimit
  apply next_keptB
  · intro x1 h2
    split
    · assumption
    · rename_i e3 e4 e5
      split
      · assumption
      · lift_lets
        intro v6
        have h7 : Kept base v6 := by
          unfold v6
          apply waitUntil_kept
          assumption
        clear_value v6
        apply settleChecks_kept
        apply readFailed_kept
        apply engineSees_kept
        apply endOp_kept
        assumption
  · assumption

theorem readTimeout_kept {base : Device} {op} {d : Device} (hd : Kept base d) :
    Kept base (readTimeout op d) := by
  unfold readTimeout
  split
  · assumption
  · rename_i e1 e2 e3
    split
    · assumption
    · lift_lets
      intro v4
      clear_value v4
      intro v5
      have h6 : Kept base v5 := by
        unfold v5
        apply waitUntil_kept
        assumption
      clear_value v5
      intro v7 v8
      have h9 : Kept base v8 := by
        unfold v8
        apply engineSees_kept
        apply endOp_kept
        assumption
      clear_value v8
      intro v10
      have h11 : Kept base v10 := by
        unfold v10
        split
        · rename_i e12 e13 e14 e15 e16
          split
          · assumption
          · split
            · apply repairAfterRead_kept
              assumption
            · apply odBump_kept
              assumption
        · rename_i e17 e18 e19 e20 e21 e22
          apply sendLink_kept
          assumption
        · split
          · apply failVerify_kept
            assumption
          · split
            · apply programMember_kept
              assumption
            · assumption
      clear_value v10
      split
      · unfold v7
        split
        · apply noteTimeout_kept
          assumption
        · assumption
      · unfold v7
        split
        · apply noteTimeout_kept
          assumption
        · assumption

theorem execFlashReadTimeout_kept {base : Device} {op} {s : State} (hs : Kept base s.dev) :
    KeptB base (execFlashReadTimeout op s) := by
  unfold execFlashReadTimeout
  apply next_keptB
  · intro x1 h2
    apply settleChecks_kept
    apply readTimeout_kept
    assumption
  · assumption

theorem uncorrected_kept {base : Device} {m} {d : Device} (hd : Kept base d) :
    Kept base (uncorrected m d) := by
  unfold uncorrected
  lift_lets
  intro v1
  have h2 : Kept base v1 := by
    unfold v1
    apply odBump_kept
    apply bumpGroup_kept
    assumption
  clear_value v1
  intro v3
  clear_value v3
  refine Kept.mk_eq rfl rfl rfl rfl rfl rfl rfl rfl ?_
  assumption

theorem keepHint_kept {base : Device} {o} {d : Device} (hd : Kept base d) : Kept base (keepHint o d) := by
  unfold keepHint
  extract_lets t cand
  split
  · exact hd
  · rename_i entry d1 h1
    have hk : Kept base d1 := KeptOP.out (r := (_, _)) h1 (pick_kept hd)
    exact Kept.mk_eq rfl rfl rfl rfl rfl rfl rfl rfl hk

theorem readDone_kept {base : Device} {o} {bitErrors} {d : Device} (hd : Kept base d) :
    Kept base (readDone o bitErrors d) := by
  unfold readDone
  lift_lets
  intro v1
  clear_value v1
  intro v2
  have h3 : Kept base v2 := by
    unfold v2
    split
    · assumption
    · apply odBump_kept
      apply bumpGroup_kept
      assumption
  clear_value v2
  intro v4
  have h5 : Kept base v4 := by
    unfold v4
    split
    · assumption
    · apply keepHint_kept
      apply odBump_kept
      apply bumpGroup_kept
      assumption
  clear_value v4
  intro v6
  have h7 : Kept base v6 := by
    unfold v6
    split
    · apply bumpGroup_kept
      assumption
    · assumption
  clear_value v6
  intro v8
  have h9 : Kept base v8 := by
    unfold v8
    split
    · apply queueRefresh_kept
      assumption
    · assumption
  clear_value v8
  intro v10
  have h11 : Kept base v10 := by
    unfold v10
    apply onMember_kept
    assumption
  clear_value v10
  split
  · rename_i e12 e13 e14
    apply sendLink_kept
    assumption
  · split
    · split
      · rename_i e15 e16 e17 e18 e19 e20
        split
        · apply onMember_kept
          assumption
        · apply failVerify_kept
          assumption
      · assumption
    · split
      · apply programMember_kept
        assumption
      · assumption

theorem readComplete_kept {base : Device} {op} {decoded} {bitErrors} {d : Device} (hd : Kept base d) :
    Kept base (readComplete op decoded bitErrors d) := by
  unfold readComplete
  split
  · assumption
  · rename_i e1 e2 e3
    split
    · assumption
    · split
      · apply readDone_kept
        apply engineSees_kept
        apply endOp_kept
        assumption
      · split
        · apply readFailed_kept
          apply odBump_kept
          apply engineSees_kept
          apply endOp_kept
          assumption
        · split
          · lift_lets
            intro v4
            have h5 : Kept base v4 := by
              unfold v4
              apply uncorrected_kept
              assumption
            clear_value v4
            split
            · apply emitReads_kept
              apply onOp_kept
              assumption
            · apply readFailed_kept
              apply engineSees_kept
              apply endOp_kept
              assumption
          · split
            · rename_i e6 e7 e8 e9 e10 e11 e12
              apply engineSees_kept
              apply endOp_kept
              assumption
            · lift_lets
              intro v13
              clear_value v13
              apply emitReads_kept
              apply onOp_kept
              assumption

theorem execFlashReadComplete_kept {base : Device} {op} {decoded} {bitErrors} {s : State} (hs : Kept base s.dev) :
    KeptB base (execFlashReadComplete op decoded bitErrors s) := by
  unfold execFlashReadComplete
  apply next_keptB
  · intro x1 h2
    apply settleChecks_kept
    apply readComplete_kept
    assumption
  · assumption

/-! ## Map -/

theorem flushWrite_kept {base : Device} {flush} {r} {d : Device} (hd : Kept base d) :
    Kept base (flushWrite flush r d) := by
  unfold flushWrite
  lift_lets
  intro v1
  clear_value v1
  intro v2
  clear_value v2
  refine Kept.mk_eq rfl rfl rfl rfl rfl rfl rfl rfl ?_
  assumption

theorem evictPages_kept {base : Device} {d : Device} (hd : Kept base d) :
    Kept base (evictPages d) := by
  unfold evictPages
  lift_lets
  intro v1
  clear_value v1
  intro v2
  clear_value v2
  split
  · assumption
  · split
    · assumption
    · rename_i e3 e4 e5 e6
      lift_lets
      intro v7
      clear_value v7
      refine Kept.mk_eq rfl rfl rfl rfl rfl rfl rfl rfl ?_
      assumption

theorem applyPage_kept {base : Device} {typ} {lid} {d : Device} (hd : Kept base d) :
    Kept base (applyPage typ lid d) := by
  unfold applyPage
  lift_lets
  intro v1
  clear_value v1
  intro v2
  clear_value v2
  intro v3
  clear_value v3
  split
  · rename_i e4 e5 e6
    refine Kept.mk_eq rfl rfl rfl rfl rfl rfl rfl rfl ?_
    assumption
  · apply evictPages_kept
    refine Kept.mk_eq rfl rfl rfl rfl rfl rfl rfl rfl ?_
    assumption

theorem touchMap_kept {base : Device} {typ} {key} {d : Device} (hd : Kept base d) :
    Kept base (touchMap typ key d) := by
  unfold touchMap
  apply applyPage_kept
  assumption

theorem reclaimFlush_kept {base : Device} {d : Device} (hd : Kept base d) :
    Kept base (reclaimFlush d) := by
  unfold reclaimFlush
  lift_lets
  intro v1
  clear_value v1
  intro v2
  clear_value v2
  refine Kept.mk_eq rfl rfl rfl rfl rfl rfl rfl rfl ?_
  assumption

theorem releaseThrough_kept {base : Device} {keyDurable} {d : Device} (hd : Kept base d) :
    Kept base (releaseThrough keyDurable d) := by
  unfold releaseThrough
  lift_lets
  intro v1 v2 v3
  clear_value v3
  intro v4
  clear_value v4
  apply reclaimFlush_kept
  refine Kept.mk_eq rfl rfl rfl rfl rfl rfl rfl rfl ?_
  assumption

theorem flushReleased_kept {base : Device} {n} {d : Device} (hd : Kept base d) :
    Kept base (flushReleased n d) := by
  unfold flushReleased
  split
  · assumption
  · lift_lets
    intro v1
    have h2 : Kept base v1 := by
      unfold v1
      apply logEvent_kept
      assumption
    clear_value v1
    intro v3
    clear_value v3
    intro v4
    clear_value v4
    intro v5
    clear_value v5
    apply reclaimFlush_kept
    refine Kept.mk_eq rfl rfl rfl rfl rfl rfl rfl rfl ?_
    assumption

theorem recordSealLimit_kept {base : Device} {d : Device} (hd : Kept base d) :
    Kept base (recordSealLimit d) := by
  unfold recordSealLimit
  lift_lets
  intro v1
  clear_value v1
  intro v2
  clear_value v2
  apply journalRecord_kept
  refine Kept.mk_eq rfl rfl rfl rfl rfl rfl rfl rfl ?_
  assumption

theorem reserveSeals_kept {base : Device} {d : Device} (hd : Kept base d) :
    Kept base (reserveSeals d) := by
  unfold reserveSeals
  split
  · apply recordSealLimit_kept
    assumption
  · assumption

theorem writePage_kept {base : Device} {typ} {lid} {d : Device} (hd : Kept base d) :
    Kept base (writePage typ lid d) := by
  unfold writePage
  split
  · apply reserveSeals_kept
    assumption
  · lift_lets
    intro v1
    have h2 : KeptP base v1 := by
      unfold v1
      apply gather_kept
      assumption
    clear_value v1
    intro v3
    clear_value v3
    intro v4
    clear_value v4
    intro v5
    clear_value v5
    intro v6
    have h7 : Kept base v6 := by
      unfold v6
      apply KeptP.snd
      assumption
    clear_value v6
    intro v8
    clear_value v8
    apply reserveSeals_kept
    refine Kept.mk_eq rfl rfl rfl rfl rfl rfl rfl rfl ?_
    assumption

theorem checkpointBegin_kept {base : Device} {d : Device} (hd : Kept base d) :
    Kept base (checkpointBegin d) := by
  unfold checkpointBegin
  split
  · apply reserveSeals_kept
    refine Kept.mk_eq rfl rfl rfl rfl rfl rfl rfl rfl ?_
    assumption
  · lift_lets
    intro v1
    clear_value v1
    intro v2
    have h3 : Kept base v2 := by
      unfold v2
      apply journalRecord_kept
      assumption
    clear_value v2
    intro v4
    clear_value v4
    intro v5
    have h6 : Kept base v5 := by
      unfold v5
      apply Kept.foldl
      · intro x7 x8 h9
        apply writePage_kept
        assumption
      · assumption
    clear_value v5
    intro v10
    clear_value v10
    intro v11
    have h12 : Kept base v11 := by
      unfold v11
      apply Kept.foldl
      · intro x13 x14 h15
        apply writePage_kept
        assumption
      · assumption
    clear_value v11
    intro v16
    clear_value v16
    intro v17
    clear_value v17
    refine Kept.mk_eq rfl rfl rfl rfl rfl rfl rfl rfl ?_
    assumption

theorem removeDead_kept {base : Device} {d : Device} (hd : Kept base d) :
    Kept base (removeDead d) := by
  unfold removeDead
  lift_lets
  intro v1 v2
  clear_value v2
  apply Kept.foldl
  · intro x3 x4 h5
    apply dropCopy_kept
    apply journalRecord_kept
    assumption
  · assumption

theorem checkpointDurable_kept {base : Device} {n} {start} {d : Device} (hd : Kept base d) :
    Kept base (checkpointDurable n start d) := by
  unfold checkpointDurable
  split
  · assumption
  · rename_i e1 e2 e3
    split
    · assumption
    · lift_lets
      intro v4
      clear_value v4
      intro v5
      have h6 : Kept base v5 := by
        unfold v5
        apply odBump_kept
        refine Kept.mk_eq rfl rfl rfl rfl rfl rfl rfl rfl ?_
        assumption
      clear_value v5
      intro v7
      have h8 : Kept base v7 := by
        unfold v7
        apply settleErased_kept
        apply removeDead_kept
        assumption
      clear_value v7
      intro v9
      clear_value v9
      split
      · apply checkpointBegin_kept
        refine Kept.mk_eq rfl rfl rfl rfl rfl rfl rfl rfl ?_
        assumption
      · assumption

theorem sealDurable_kept {base : Device} {l} {d : Device} (hd : Kept base d) :
    Kept base (sealDurable l d) := by
  unfold sealDurable
  lift_lets
  intro v1
  clear_value v1
  intro v2
  have h3 : Kept base v2 := by
    unfold v2
    refine Kept.mk_eq rfl rfl rfl rfl rfl rfl rfl rfl ?_
    assumption
  clear_value v2
  intro v4
  clear_value v4
  split
  · apply checkpointBegin_kept
    refine Kept.mk_eq rfl rfl rfl rfl rfl rfl rfl rfl ?_
    assumption
  · assumption

theorem dropLocator_kept {base : Device} {mseq} {d : Device} (hd : Kept base d) :
    Kept base (dropLocator mseq d) := by
  unfold dropLocator
  refine Kept.mk_eq rfl rfl rfl rfl rfl rfl rfl rfl ?_
  assumption

theorem packManifest_kept {base : Device} {m} {d : Device} (hd : Kept base d) :
    Kept base (packManifest m d) := by
  unfold packManifest
  lift_lets
  intro v1
  clear_value v1
  intro v2
  clear_value v2
  intro v3
  have h4 : Kept base v3 := by
    unfold v3
    split
    · refine Kept.mk_eq rfl rfl rfl rfl rfl rfl rfl rfl ?_
      assumption
    · assumption
  clear_value v3
  intro v5
  clear_value v5
  intro v6
  clear_value v6
  intro v7
  clear_value v7
  intro v8
  clear_value v8
  intro v9
  clear_value v9
  intro v10
  have h11 : Kept base v10 := by
    unfold v10
    refine Kept.mk_eq rfl rfl rfl rfl rfl rfl rfl rfl ?_
    assumption
  clear_value v10
  intro v12
  clear_value v12
  apply Kept.foldl
  · intro x13 x14 h15
    apply applyPage_kept
    assumption
  · apply applyPage_kept
    assumption

theorem restartSeals_kept {base : Device} {d : Device} (hd : Kept base d) :
    Kept base (restartSeals d) := by
  unfold restartSeals
  apply recordSealLimit_kept
  refine Kept.mk_eq rfl rfl rfl rfl rfl rfl rfl rfl ?_
  assumption

theorem flushRelease_kept {base : Device} {n} {d : Device} (hd : Kept base d) :
    Kept base (flushRelease n d) := by
  unfold flushRelease
  split
  · assumption
  · rename_i e1 e2 e3
    lift_lets
    intro v4
    clear_value v4
    split
    · apply journalRecord_kept
      assumption
    · assumption

theorem execFlushRelease_kept {base : Device} {flush} {s : State} (hs : Kept base s.dev) :
    KeptB base (execFlushRelease flush s) := by
  unfold execFlushRelease
  apply next_keptB
  · intro x1 h2
    apply flushRelease_kept
    assumption
  · assumption

theorem maybeState3_kept {base : Device} {m} {d : Device} (hd : Kept base d) :
    Kept base (maybeState3 m d) := by
  unfold maybeState3
  apply onBlock_kept
  assumption

theorem refreshBlock_kept {base : Device} {m} {d : Device} (hd : Kept base d) :
    Kept base (refreshBlock m d) := by
  unfold refreshBlock
  split
  · assumption
  · rename_i e1 e2 e3
    split
    · lift_lets
      intro v4
      have h5 : Kept base v4 := by
        unfold v4
        apply onBlock_kept
        assumption
      clear_value v4
      apply maybeState3_kept
      apply emptyBlock_kept
      apply odBump_kept
      apply bumpGroup_kept
      assumption
    · apply onBlock_kept
      assumption

theorem execRefresh_kept {base : Device} {m} {s : State} (hs : Kept base s.dev) :
    KeptB base (execRefresh m s) := by
  unfold execRefresh
  apply next_keptB
  · intro x1 h2
    apply refreshBlock_kept
    assumption
  · assumption

theorem blockErase_kept {base : Device} {m} {d : Device} (hd : Kept base d) :
    Kept base (blockErase m d) := by
  unfold blockErase
  split
  · assumption
  · rename_i e1 e2 e3
    split
    · apply queueOp_kept
      assumption
    · assumption

theorem execBlockErase_kept {base : Device} {m} {s : State} (hs : Kept base s.dev) :
    KeptB base (execBlockErase m s) := by
  unfold execBlockErase
  apply next_keptB
  · intro x1 h2
    apply blockErase_kept
    assumption
  · assumption

theorem wearLevel_kept {base : Device} {c} {d : Device} (hd : Kept base d) :
    Kept base (wearLevel c d) := by
  unfold wearLevel
  lift_lets
  intro v1
  clear_value v1
  intro v2
  clear_value v2
  intro v3
  clear_value v3
  intro v4
  have h5 : Kept base v4 := by
    unfold v4
    refine Kept.mk_eq rfl rfl rfl rfl rfl rfl rfl rfl ?_
    assumption
  clear_value v4
  split
  · assumption
  · split
    · assumption
    · rename_i e6 e7 e8 e9
      apply maybeState3_kept
      apply emptyBlock_kept
      assumption

theorem execWearLevel_kept {base : Device} {channel} {s : State} (hs : Kept base s.dev) :
    KeptB base (execWearLevel channel s) := by
  unfold execWearLevel
  apply next_keptB
  · intro x1 h2
    apply wearLevel_kept
    assumption
  · assumption

theorem compactManifests_kept {base : Device} {d : Device} (hd : Kept base d) :
    Kept base (compactManifests d) := by
  unfold compactManifests
  lift_lets
  intro v1
  clear_value v1
  split
  · assumption
  · lift_lets
    intro v2
    clear_value v2
    apply Kept.foldl
    · intro x3 x4 h5
      split
      · apply dropLocator_kept
        assumption
      · rename_i e6 e7 e8 e9 e10
        lift_lets
        intro v11
        have h12 : Kept base v11 := by
          unfold v11
          apply packManifest_kept
          apply dropLocator_kept
          assumption
        clear_value v11
        intro v13
        have h14 : Kept base v13 := by
          unfold v13
          apply journalRecord_kept
          assumption
        clear_value v13
        apply touchMap_kept
        assumption
    · assumption

theorem execManifestCompaction_kept {base : Device} {s : State} (hs : Kept base s.dev) :
    KeptB base (execManifestCompaction s) := by
  unfold execManifestCompaction
  apply next_keptB
  · intro x1 h2
    apply compactManifests_kept
    assumption
  · assumption

theorem stripeCompaction_kept {base : Device} {d : Device} (hd : Kept base d) :
    Kept base (stripeCompaction d) := by
  unfold stripeCompaction
  lift_lets
  intro v1 v2
  clear_value v2
  intro v3
  clear_value v3
  intro v4
  clear_value v4
  split
  · assumption
  · split
    · assumption
    · rename_i e5 e6 e7 e8
      apply relocateStripe_kept
      assumption

theorem execStripeCompaction_kept {base : Device} {s : State} (hs : Kept base s.dev) :
    KeptB base (execStripeCompaction s) := by
  unfold execStripeCompaction
  apply next_keptB
  · intro x1 h2
    apply stripeCompaction_kept
    assumption
  · assumption

theorem blockReclaim_kept {base : Device} {c} {d : Device} (hd : Kept base d) :
    Kept base (blockReclaim c d) := by
  unfold blockReclaim
  split
  · split
    · assumption
    · split
      · assumption
      · rename_i e1 e2 e3 e4 e5
        apply maybeState3_kept
        apply emptyBlock_kept
        assumption
  · split
    · assumption
    · split
      · assumption
      · rename_i e6 e7 e8 e9 e10
        apply maybeState3_kept
        apply emptyBlock_kept
        assumption

theorem execBlockReclaim_kept {base : Device} {channel} {s : State} (hs : Kept base s.dev) :
    KeptB base (execBlockReclaim channel s) := by
  unfold execBlockReclaim
  apply next_keptB
  · intro x1 h2
    apply blockReclaim_kept
    assumption
  · assumption

theorem gcLevelChange_kept {base : Device} {c} {d : Device} (hd : Kept base d) :
    Kept base (gcLevelChange c d) := by
  unfold gcLevelChange
  lift_lets
  intro v1
  clear_value v1
  intro v2
  clear_value v2
  intro v3
  have h4 : Kept base v3 := by
    unfold v3
    apply restartIdle_kept
    refine Kept.mk_eq rfl rfl rfl rfl rfl rfl rfl rfl ?_
    assumption
  clear_value v3
  split
  · assumption
  · apply issueClosed_kept
    apply logEvent_kept
    assumption

theorem execGcLevelChange_kept {base : Device} {channel} {s : State} (hs : Kept base s.dev) :
    KeptB base (execGcLevelChange channel s) := by
  unfold execGcLevelChange
  apply next_keptB
  · intro x1 h2
    apply gcLevelChange_kept
    assumption
  · assumption

theorem checkpointComplete_kept {base : Device} {d : Device} (hd : Kept base d) :
    Kept base (checkpointComplete d) := by
  unfold checkpointComplete
  split
  · assumption
  · rename_i e1 e2 e3
    lift_lets
    intro v4
    clear_value v4
    split
    · apply journalRecord_kept
      assumption
    · assumption

theorem execCheckpointComplete_kept {base : Device} {s : State} (hs : Kept base s.dev) :
    KeptB base (execCheckpointComplete s) := by
  unfold execCheckpointComplete
  apply next_keptB
  · intro x1 h2
    apply checkpointComplete_kept
    assumption
  · assumption

theorem checkpointStart_kept {base : Device} {d : Device} (hd : Kept base d) :
    Kept base (checkpointStart d) := by
  unfold checkpointStart
  split
  · rename_i e1 e2 e3
    refine Kept.mk_eq rfl rfl rfl rfl rfl rfl rfl rfl ?_
    assumption
  · apply checkpointBegin_kept
    split
    · assumption
    · apply waitUntil_kept
      assumption

theorem execCheckpointStart_kept {base : Device} {s : State} (hs : Kept base s.dev) :
    KeptB base (execCheckpointStart s) := by
  unfold execCheckpointStart
  apply next_keptB
  · intro x1 h2
    apply checkpointStart_kept
    assumption
  · assumption

theorem noteFlushTick_kept {base : Device} {ns} {key} {t} {d : Device} (hd : Kept base d) :
    Kept base (noteFlushTick ns key t d) := by
  unfold noteFlushTick
  lift_lets
  intro v1 v2
  clear_value v2
  intro v3
  clear_value v3
  refine Kept.mk_eq rfl rfl rfl rfl rfl rfl rfl rfl ?_
  assumption

theorem mapUnreadable_kept {base : Device} {typ} {lid} {d : Device} (hd : Kept base d) :
    Kept base (mapUnreadable typ lid d) := by
  unfold mapUnreadable
  split
  · assumption
  · rename_i e1 e2 e3
    lift_lets
    intro v4
    have h5 : Kept base v4 := by
      unfold v4
      split
      · assumption
      · apply loseStripe_kept
        assumption
    clear_value v4
    apply logEvent_kept
    assumption

/-! ## LongOp -/

theorem onSlot_kept {base : Device} {n} {f} {d : Device} (hd : Kept base d) :
    Kept base (onSlot n f d) := by
  unfold onSlot
  refine Kept.mk_eq rfl rfl rfl rfl rfl rfl rfl rfl ?_
  assumption

theorem freeSlot_kept {base : Device} {n} {d : Device} (hd : Kept base d) :
    Kept base (freeSlot n d) := by
  unfold freeSlot
  apply onSlot_kept
  assumption

theorem takeSlot_kept {base : Device} {st} {op} {who} {d : Device} (hd : Kept base d) :
    KeptOP base (takeSlot st op who d) := by
  unfold takeSlot
  split
  · exact KeptOP.none
  · rename_i e1 e2 e3
    apply KeptOP.some
    apply onSlot_kept
    assumption

theorem endSlot_kept {base : Device} {n} {st} {d : Device} (hd : Kept base d) :
    Kept base (endSlot n st d) := by
  unfold endSlot
  lift_lets
  intro v1
  clear_value v1
  intro v2
  have h3 : Kept base v2 := by
    unfold v2
    apply restartIdle_kept
    apply onSlot_kept
    assumption
  clear_value v2
  split
  · apply aenPost_kept
    assumption
  · assumption

theorem endSelfTest_kept {base : Device} {code} {seg} {d : Device} (hd : Kept base d) :
    Kept base (endSelfTest code seg d) := by
  unfold endSelfTest
  split
  · assumption
  · rename_i e1 e2 e3
    lift_lets
    intro v4
    have h5 : Kept base v4 := by
      unfold v4
      apply restartIdle_kept
      assumption
    clear_value v4
    intro v6
    clear_value v6
    intro v7
    have h8 : Kept base v7 := by
      unfold v7
      refine Kept.mk_eq rfl rfl rfl rfl rfl rfl rfl rfl ?_
      assumption
    clear_value v7
    split
    · rename_i e9 e10 e11
      apply sendLink_kept
      refine Kept.mk_eq rfl rfl rfl rfl rfl rfl rfl rfl ?_
      assumption
    · split
      · rename_i e12 e13 e14 e15 e16
        apply endSlot_kept
        assumption
      · assumption

theorem commitRecord_kept {base : Device} {n} {r} {d : Device} (hd : Kept base d) :
    Kept base (commitRecord n r d) := by
  unfold commitRecord
  apply onSlot_kept
  assumption

/-! ## EngQueue -/

theorem setQueue_kept {base : Device} {c} {ws} {d : Device} (hd : Kept base d) :
    Kept base (setQueue c ws d) := by
  unfold setQueue
  refine Kept.mk_eq rfl rfl rfl rfl rfl rfl rfl rfl ?_
  assumption

theorem postTo_kept {base : Device} {c} {w} {d : Device} (hd : Kept base d) :
    Kept base (postTo c w d) := by
  unfold postTo
  apply setQueue_kept
  assumption

theorem postHost_kept {base : Device} {bucket} {w} {d : Device} (hd : Kept base d) :
    Kept base (postHost bucket w d) := by
  unfold postHost
  apply postTo_kept
  assumption

theorem dropTag_kept {base : Device} {tag} {d : Device} (hd : Kept base d) : Kept base (dropTag tag d) := by
  refine Kept.mk_eq rfl rfl rfl rfl rfl rfl (memories_map fun x => ?_) rfl hd
  split
  · rfl
  · split <;> rfl

theorem startDesc_kept {base : Device} {e} {w} {d : Device} (hd : Kept base d) :
    Kept base (startDesc e w d) := by
  unfold startDesc
  lift_lets
  intro v1
  clear_value v1
  apply onEngine_kept
  · intro x2
    rfl
  · assumption

theorem takeDesc_kept {base : Device} {bad} {y1} {y2} {y3 : Device} (hbad : ∀ w0 w1, Kept base w1 → Kept base (bad w0 w1)) (hy3 : Kept base y3) :
    Kept base (takeDesc bad y1 y2 y3) := by
  induction' y1 with n ih generalizing bad y2 y3
  · unfold takeDesc
    assumption
  · unfold takeDesc
    lift_lets
    intro v1
    clear_value v1
    split
    · assumption
    · split
      · assumption
      · rename_i e2 e3 e4 e5
        lift_lets
        intro v6
        have h7 : Kept base v6 := by
          unfold v6
          apply setQueue_kept
          assumption
        clear_value v6
        split
        · apply startDesc_kept
          assumption
        · apply ih
          · intro x8 x9 h10
            apply hbad
            assumption
          · apply hbad
            assumption

theorem postJob_kept {base : Device} {w} {d : Device} (hd : Kept base d) :
    Kept base (postJob w d) := by
  unfold postJob
  apply postTo_kept
  assumption

/-! ## Value -/

theorem sendFpReq_kept {base : Device} {r} {d : Device} (hd : Kept base d) :
    Kept base (sendFpReq r d) := by
  unfold sendFpReq
  split
  · apply sendLink_kept
    assumption
  · apply sendLink_kept
    assumption
  · apply sendLink_kept
    assumption
  · assumption

theorem askOwner_kept {base : Device} {what} {dom} {fp} {num} {d : Device} (hd : Kept base d) :
    Kept base (askOwner what dom fp num d) := by
  unfold askOwner
  lift_lets
  intro v1
  have h2 : KeptP base v1 := by
    unfold v1
    apply newReq_kept
    assumption
  clear_value v1
  split
  · apply sendFpReq_kept
    apply KeptP.snd
    assumption
  · apply KeptP.snd
    assumption

theorem presentAt_kept {base : Device} {dom} {fp} {num} {d : Device} (hd : Kept base d) :
    Kept base (presentAt dom fp num d) := by
  unfold presentAt
  split
  · assumption
  · rename_i e1 e2 e3
    split
    · assumption
    · lift_lets
      intro v4
      have h5 : Kept base v4 := by
        unfold v4
        apply onCopy_kept
        assumption
      clear_value v4
      intro v6
      clear_value v6
      apply Kept.foldl
      · intro x7 x8 h9
        apply sendLink_kept
        assumption
      · assumption

theorem markPresent_kept {base : Device} {dom} {fp} {num} {d : Device} (hd : Kept base d) :
    Kept base (markPresent dom fp num d) := by
  unfold markPresent
  split
  · assumption
  · rename_i e1 e2 e3
    split
    · assumption
    · lift_lets
      intro v4
      have h5 : Kept base v4 := by
        unfold v4
        apply presentAt_kept
        assumption
      clear_value v4
      split
      · assumption
      · apply askOwner_kept
        assumption

theorem claimDetached_kept {base : Device} {dom} {fp} {who} {d : Device} (hd : Kept base d) :
    KeptP base (claimDetached dom fp who d) := by
  unfold claimDetached
  lift_lets
  intro v1
  clear_value v1
  intro v2
  clear_value v2
  apply KeptP.mk
  apply addCopy_kept
  assumption

theorem pinCopy_kept {base : Device} {c} {d : Device} (hd : Kept base d) :
    Kept base (pinCopy c d) := by
  unfold pinCopy
  lift_lets
  intro v1
  have h2 : Kept base v1 := by
    unfold v1
    apply onCopy_kept
    assumption
  clear_value v1
  intro v3
  have h4 : Kept base v3 := by
    unfold v3
    apply odBump_kept
    apply logEvent_kept
    apply hotRemove_kept
    assumption
  clear_value v3
  apply touchMap_kept
  apply recordCopy_kept
  assumption

theorem claimAt_kept {base : Device} {dom} {fp} {who} {d : Device} (hd : Kept base d) :
    KeptP base (claimAt dom fp who d) := by
  unfold claimAt
  split
  · rename_i e1 e2 e3
    lift_lets
    intro v4
    have h5 : Kept base v4 := by
      unfold v4
      split
      · apply odBump_kept
        assumption
      · apply odBump_kept
        assumption
    clear_value v4
    intro v6
    have h7 : Kept base v6 := by
      unfold v6
      apply odBump_kept
      apply hotInsert_kept
      assumption
    clear_value v6
    intro v8
    have h9 : Kept base v8 := by
      unfold v8
      apply onCopy_kept
      assumption
    clear_value v8
    intro v10
    have h11 : Kept base v10 := by
      unfold v10
      split
      · apply pinCopy_kept
        assumption
      · assumption
    clear_value v10
    apply KeptP.mk
    assumption
  · lift_lets
    intro v12
    clear_value v12
    intro v13
    have h14 : Kept base v13 := by
      unfold v13
      apply odBump_kept
      apply odBump_kept
      assumption
    clear_value v13
    intro v15
    clear_value v15
    intro v16
    have h17 : Kept base v16 := by
      unfold v16
      apply addCopy_kept
      assumption
    clear_value v16
    apply KeptP.mk
    apply hotInsert_kept
    assumption

theorem storeAgain_kept {base : Device} {dom} {fp} {num} {cmd} {d : Device} (hd : Kept base d) :
    Kept base (storeAgain dom fp num cmd d) := by
  unfold storeAgain
  lift_lets
  intro v1 v2 v3
  clear_value v3
  refine Kept.mk_eq rfl rfl rfl rfl rfl rfl rfl rfl ?_
  assumption

theorem settleSalt_kept {base : Device} {dom} {d : Device} (hd : Kept base d) :
    Kept base (settleSalt dom d) := by
  unfold settleSalt
  split
  · assumption
  · apply logEvent_kept
    refine Kept.mk_eq rfl rfl rfl rfl rfl rfl rfl rfl ?_
    assumption

theorem dropCache_kept {base : Device} {f} {d : Device} (hd : Kept base d) :
    Kept base (dropCache f d) := by
  unfold dropCache
  refine Kept.mk_eq rfl rfl rfl rfl rfl rfl rfl rfl ?_
  assumption

theorem buryCopy_kept {base : Device} {c} {d : Device} (hd : Kept base d) :
    Kept base (buryCopy c d) := by
  unfold buryCopy
  lift_lets
  intro v1
  have h2 : Kept base v1 := by
    unfold v1
    apply onCopy_kept
    assumption
  clear_value v1
  intro v3
  have h4 : Kept base v3 := by
    unfold v3
    apply hotRemove_kept
    assumption
  clear_value v3
  apply invalidateCopy_kept
  apply dropCache_kept
  assumption

theorem killCopy_kept {base : Device} {c} {d : Device} (hd : Kept base d) :
    Kept base (killCopy c d) := by
  unfold killCopy
  lift_lets
  intro v1
  have h2 : Kept base v1 := by
    unfold v1
    apply touchMap_kept
    apply recordCopy_kept
    apply buryCopy_kept
    assumption
  clear_value v1
  apply settleSalt_kept
  assumption

theorem releaseAt_kept {base : Device} {dom} {fp} {num} {who} {d : Device} (hd : Kept base d) :
    Kept base (releaseAt dom fp num who d) := by
  unfold releaseAt
  split
  · assumption
  · rename_i e1 e2 e3
    split
    · apply onCopy_kept
      assumption
    · split
      · split
        · apply killCopy_kept
          assumption
        · apply settleSalt_kept
          apply dropCopy_kept
          apply hotRemove_kept
          assumption
      · lift_lets
        intro v4
        clear_value v4
        intro v5
        have h6 : Kept base v5 := by
          unfold v5
          apply onCopy_kept
          assumption
        clear_value v5
        intro v7
        have h8 : Kept base v7 := by
          unfold v7
          apply logEvent_kept
          assumption
        clear_value v7
        split
        · assumption
        · split
          · assumption
          · split
            · apply storeAgain_kept
              assumption
            · apply sendLink_kept
              assumption

theorem releaseClaim_kept {base : Device} {dom} {fp} {num} {cmd} {claim} {d : Device} (hd : Kept base d) :
    Kept base (releaseClaim dom fp num cmd claim d) := by
  unfold releaseClaim
  split
  · apply releaseAt_kept
    assumption
  · split
    · apply askOwner_kept
      assumption
    · lift_lets
      intro v1
      clear_value v1
      intro v2
      clear_value v2
      intro v3
      have h4 : Kept base v3 := by
        unfold v3
        refine Kept.mk_eq rfl rfl rfl rfl rfl rfl rfl rfl ?_
        assumption
      clear_value v3
      split
      · apply sendFpReq_kept
        assumption
      · assumption

theorem countRead_kept {base : Device} {dom} {fp} {num} {d : Device} (hd : Kept base d) :
    KeptP base (countRead dom fp num d) := by
  unfold countRead
  lift_lets
  intro v1 v2
  clear_value v2
  intro v3
  clear_value v3
  intro v4
  clear_value v4
  intro v5
  clear_value v5
  apply KeptP.mk
  refine Kept.mk_eq rfl rfl rfl rfl rfl rfl rfl rfl ?_
  assumption

theorem cacheHit_kept {base : Device} {c} {d : Device} (hd : Kept base d) :
    Kept base (cacheHit c d) := by
  unfold cacheHit
  lift_lets
  intro v1
  have h2 : Kept base v1 := by
    unfold v1
    apply KeptP.snd
    apply countRead_kept
    assumption
  clear_value v1
  intro v3
  clear_value v3
  apply odBump_kept
  refine Kept.mk_eq rfl rfl rfl rfl rfl rfl rfl rfl ?_
  assumption

theorem admitRead_kept {base : Device} {dom} {fp} {num} {slot} {plain} {d : Device} (hd : Kept base d) :
    Kept base (admitRead dom fp num slot plain d) := by
  unfold admitRead
  lift_lets
  intro v1
  have h2 : KeptP base v1 := by
    unfold v1
    apply countRead_kept
    assumption
  clear_value v1
  intro v3
  have h4 : Kept base v3 := by
    unfold v3
    apply KeptP.snd
    assumption
  clear_value v3
  intro v5
  clear_value v5
  split
  · assumption
  · refine Kept.mk_eq rfl rfl rfl rfl rfl rfl rfl rfl ?_
    assumption

theorem sendSecure_kept {base : Device} {m} {d : Device} (hd : Kept base d) :
    Kept base (sendSecure m d) := by
  unfold sendSecure
  split
  · assumption
  · apply sendLink_kept
    refine Kept.mk_eq rfl rfl rfl rfl rfl rfl rfl rfl ?_
    assumption

theorem ensureSalt_kept {base : Device} {dom} {d : Device} (hd : Kept base d) :
    Kept base (ensureSalt dom d) := by
  unfold ensureSalt
  split
  · rename_i e1 e2 e3
    assumption
  · lift_lets
    intro v4
    have h5 : KeptP base v4 := by
      unfold v4
      apply drawBytes_kept
      assumption
    clear_value v4
    intro v6
    clear_value v6
    intro v7
    have h8 : Kept base v7 := by
      unfold v7
      apply KeptP.snd
      assumption
    clear_value v7
    intro v9
    clear_value v9
    apply sendSecure_kept
    refine Kept.mk_eq rfl rfl rfl rfl rfl rfl rfl rfl ?_
    assumption

theorem resendSalts_kept {base : Device} {d : Device} (hd : Kept base d) :
    Kept base (resendSalts d) := by
  unfold resendSalts
  apply Kept.foldl
  · intro x1 x2 h3
    apply sendSecure_kept
    assumption
  · assumption

theorem placeCopy_kept {base : Device} {dom} {fp} {num} {slot} {cls} {ret} {cluster} {hash} {invocation} {raw} {plain} {d : Device} (hd : Kept base d) :
    Kept base (placeCopy dom fp num slot cls ret cluster hash invocation raw plain d) := by
  unfold placeCopy
  lift_lets
  intro v1
  clear_value v1
  intro v2
  clear_value v2
  intro v3
  have h4 : Kept base v3 := by
    unfold v3
    apply odBump_kept
    apply odBump_kept
    assumption
  clear_value v3
  intro v5
  have h6 : KeptP base v5 := by
    unfold v5
    apply gather_kept
    assumption
  clear_value v5
  intro v7
  have h8 : Kept base v7 := by
    unfold v7
    apply KeptP.snd
    assumption
  clear_value v7
  intro v9
  clear_value v9
  intro v10
  clear_value v10
  intro v11
  have h12 : Kept base v11 := by
    unfold v11
    split
    · rename_i e13 e14 e15
      apply onCopy_kept
      assumption
    · apply addCopy_kept
      assumption
  clear_value v11
  apply issueClosed_kept
  assumption

theorem noGain_kept {base : Device} {d : Device} (hd : Kept base d) :
    Kept base (noGain d) := by
  unfold noGain
  lift_lets
  intro v1
  clear_value v1
  intro v2
  clear_value v2
  intro v3
  have h4 : Kept base v3 := by
    unfold v3
    apply odBump_kept
    assumption
  clear_value v3
  intro v5
  clear_value v5
  split
  · apply logEvent_kept
    refine Kept.mk_eq rfl rfl rfl rfl rfl rfl rfl rfl ?_
    assumption
  · refine Kept.mk_eq rfl rfl rfl rfl rfl rfl rfl rfl ?_
    assumption

theorem verifyMismatch_kept {base : Device} {e} {dom} {num} {d : Device} (hd : Kept base d) :
    Kept base (verifyMismatch e dom num d) := by
  unfold verifyMismatch
  lift_lets
  intro v1
  have h2 : Kept base v1 := by
    unfold v1
    apply odBump_kept
    apply logEvent_kept
    assumption
  clear_value v1
  intro v3
  clear_value v3
  intro v4
  clear_value v4
  intro v5
  clear_value v5
  intro v6
  have h7 : Kept base v6 := by
    unfold v6
    refine Kept.mk_eq rfl rfl rfl rfl rfl rfl rfl rfl ?_
    assumption
  clear_value v6
  intro v8
  clear_value v8
  intro v9
  have h10 : Kept base v9 := by
    unfold v9
    refine Kept.mk_eq rfl rfl rfl rfl rfl rfl rfl rfl ?_
    assumption
  clear_value v9
  intro v11
  have h12 : Kept base v11 := by
    unfold v11
    apply odPut_kept
    assumption
  clear_value v11
  split
  · assumption
  · apply raiseEmcy_kept
    apply logEvent_kept
    assumption

theorem chooseEncoding_kept {base : Device} {off} {e} {mismatch} {dom} {num} {plain} {d : Device} (hd : Kept base d) :
    KeptP base (chooseEncoding off e mismatch dom num plain d) := by
  unfold chooseEncoding
  lift_lets
  intro v1
  clear_value v1
  split
  · apply KeptP.mk
    apply odBump_kept
    assumption
  · split
    · apply KeptP.mk
      split
      · apply verifyMismatch_kept
        assumption
      · apply odBump_kept
        assumption
    · split
      · apply KeptP.mk
        apply noGain_kept
        assumption
      · apply KeptP.mk
        apply odBump_kept
        assumption

theorem decrementAt_kept {base : Device} {dom} {fp} {num} {d : Device} (hd : Kept base d) :
    Kept base (decrementAt dom fp num d) := by
  unfold decrementAt
  split
  · apply journalRecord_kept
    assumption
  · rename_i e1 e2 e3
    split
    · apply recordCopy_kept
      assumption
    · split
      · apply killCopy_kept
        assumption
      · lift_lets
        intro v4
        have h5 : Kept base v4 := by
          unfold v4
          apply onCopy_kept
          assumption
        clear_value v4
        apply touchMap_kept
        apply recordCopy_kept
        assumption

theorem decrement_kept {base : Device} {dom} {fp} {num} {d : Device} (hd : Kept base d) :
    Kept base (decrement dom fp num d) := by
  unfold decrement
  split
  · apply decrementAt_kept
    assumption
  · apply askOwner_kept
    assumption

theorem killManifest_kept {base : Device} {mseq} {d : Device} (hd : Kept base d) :
    Kept base (killManifest mseq d) := by
  unfold killManifest
  split
  · assumption
  · rename_i e1 e2 e3
    lift_lets
    intro v4
    clear_value v4
    intro v5
    have h6 : Kept base v5 := by
      unfold v5
      refine Kept.mk_eq rfl rfl rfl rfl rfl rfl rfl rfl ?_
      assumption
    clear_value v5
    intro v7
    have h8 : Kept base v7 := by
      unfold v7
      apply dropLocator_kept
      assumption
    clear_value v7
    apply Kept.foldl
    · intro x9 x10 h11
      apply decrement_kept
      assumption
    · assumption

theorem settleKey_kept {base : Device} {e} {d : Device} (hd : Kept base d) :
    Kept base (settleKey e d) := by
  unfold settleKey
  lift_lets
  intro v1
  clear_value v1
  intro v2
  clear_value v2
  apply Kept.foldl
  · intro x3 x4 h5
    split
    · assumption
    · apply killManifest_kept
      assumption
  · apply putKey_kept
    assumption

theorem applyVersion_kept {base : Device} {ns} {key} {v} {d : Device} (hd : Kept base d) :
    Kept base (applyVersion ns key v d) := by
  unfold applyVersion
  lift_lets
  intro v1
  clear_value v1
  intro v2
  clear_value v2
  intro v3
  have h4 : Kept base v3 := by
    unfold v3
    split
    · rename_i e5 e6 e7
      split
      · assumption
      · apply packManifest_kept
        refine Kept.mk_eq rfl rfl rfl rfl rfl rfl rfl rfl ?_
        assumption
    · assumption
  clear_value v3
  intro v8
  have h9 : Kept base v8 := by
    unfold v8
    apply touchMap_kept
    assumption
  clear_value v8
  intro v10
  have h11 : Kept base v10 := by
    unfold v10
    apply journalRecord_kept
    assumption
  clear_value v10
  apply settleKey_kept
  assumption

theorem settleAllRemote_kept {base : Device} {d : Device} (hd : Kept base d) :
    Kept base (settleAllRemote d) := by
  unfold settleAllRemote
  refine Kept.mk_eq rfl rfl rfl rfl rfl rfl rfl rfl ?_
  assumption

theorem settleRemote_kept {base : Device} {m} {d : Device} (hd : Kept base d) :
    Kept base (settleRemote m d) := by
  unfold settleRemote
  apply Kept.foldl
  · intro x1 x2 h3
    split
    · rename_i e4 e5 e6
      lift_lets
      intro v7
      clear_value v7
      intro v8
      clear_value v8
      split
      · apply touchMap_kept
        apply recordCopy_kept
        apply onCopy_kept
        assumption
      · assumption
    · assumption
  · assumption

theorem commitRefs_kept {base : Device} {m} {cmd} {d : Device} (hd : Kept base d) :
    Kept base (commitRefs m cmd d) := by
  unfold commitRefs
  apply Kept.foldl
  · intro x1 x2 h3
    split
    · rename_i e4 e5 e6
      lift_lets
      intro v7
      clear_value v7
      intro v8
      have h9 : Kept base v8 := by
        unfold v8
        apply onCopy_kept
        assumption
      clear_value v8
      apply touchMap_kept
      apply recordCopy_kept
      assumption
    · assumption
  · assumption

theorem settleSalts_kept {base : Device} {d : Device} (hd : Kept base d) :
    Kept base (settleSalts d) := by
  unfold settleSalts
  apply Kept.foldl
  · intro x1 x2 h3
    apply settleSalt_kept
    assumption
  · assumption

end Sys2Proof.Machine
end

