-- ==== Sys2Proof/Laws/KeptC.lean ====
section
/-! SUPPORT. What no operation of KvParse, KvOps, FlushBytes, KvWrite, PowerBase takes back: `Kept` through each. -/

namespace Sys2Proof.Machine

/-! ## KvParse -/

theorem setLocks_kept {base : Device} {ls} {d : Device} (hd : Kept base d) :
    Kept base (setLocks ls d) := by
  unfold setLocks
  refine Kept.mk_eq rfl rfl rfl rfl rfl rfl rfl rfl ?_
  assumption

theorem releaseLocks_kept {base : Device} {id} {d : Device} (hd : Kept base d) : Kept base (releaseLocks id d) := by
  unfold releaseLocks
  exact Kept.mk_eq rfl rfl rfl rfl rfl rfl rfl rfl hd

theorem releaseLocks_eng (id : Nat) (d : Device) : (releaseLocks id d).eng = d.eng := rfl

theorem pumpLocks_kept {base : Device} {y0} {y1} {y2 : Device} (hy2 : Kept base y2) :
    Kept base (pumpLocks y0 y1 y2) := by
  induction' y0 with n ih generalizing y1 y2
  · unfold pumpLocks
    assumption
  · unfold pumpLocks
    split
    · assumption
    · rename_i e1 e2 e3
      split
      · apply ih
        apply setLocks_kept
        assumption
      · split
        · apply ih
          apply setLocks_kept
          assumption
        · assumption

theorem requestLocks_kept {base : Device} {cmd} {d : Device} (hd : Kept base d) :
    Kept base (requestLocks cmd d) := by
  unfold requestLocks
  apply pumpLocks_kept
  assumption

/-! ## KvOps -/

theorem onCmd_kept {base : Device} {id} {f} {d : Device} (hd : Kept base d) :
    Kept base (onCmd id f d) := by
  unfold onCmd
  refine Kept.mk_eq rfl rfl rfl rfl rfl rfl rfl rfl ?_
  assumption

theorem onItem_kept {base : Device} {id} {n} {f} {d : Device} (hd : Kept base d) :
    Kept base (onItem id n f d) := by
  unfold onItem
  apply onCmd_kept
  assumption

theorem releaseFlushed_kept {base : Device} {ns} {i} {d : Device} (hd : Kept base d) :
    Kept base (releaseFlushed ns i d) := by
  unfold releaseFlushed
  split
  · assumption
  · lift_lets
    intro v1 v2 v3
    clear_value v3
    refine Kept.mk_eq rfl rfl rfl rfl rfl rfl rfl rfl ?_
    assumption

theorem setPhase_kept {base : Device} {id} {p} {d : Device} (hd : Kept base d) :
    Kept base (setPhase id p d) := by
  unfold setPhase
  apply onCmd_kept
  assumption

theorem onChunk_kept {base : Device} {id} {n} {k} {f} {d : Device} (hd : Kept base d) :
    Kept base (onChunk id n k f d) := by
  unfold onChunk
  apply onItem_kept
  assumption

theorem endRemote_kept {base : Device} {c} {f} {d : Device} (hd : Kept base d) :
    Kept base (endRemote c f d) := by
  unfold endRemote
  split
  · split
    · apply sendLink_kept
      assumption
    · split
      · refine Kept.mk_eq rfl rfl rfl rfl rfl rfl rfl rfl ?_
        assumption
      · assumption
  · split
    · assumption
    · apply sendLink_kept
      assumption

theorem ackInvalidates_kept {base : Device} {d : Device} (hd : Kept base d) :
    Kept base (ackInvalidates d) := by
  unfold ackInvalidates
  lift_lets
  intro v1
  clear_value v1
  intro v2
  clear_value v2
  intro v3
  have h4 : Kept base v3 := by
    unfold v3
    refine Kept.mk_eq rfl rfl rfl rfl rfl rfl rfl rfl ?_
    assumption
  clear_value v3
  apply Kept.foldl
  · intro x5 x6 h7
    apply sendLink_kept
    assumption
  · assumption

theorem removeCmd_kept {base : Device} {c} {d : Device} (hd : Kept base d) : Kept base (removeCmd c d) := by
  unfold removeCmd
  extract_lets mine engines d1 n k en pw d2 d3
  have h1 : Kept base d1 := releaseLocks_kept hd
  have he : engines.map (·.mem) = d1.eng.engines.map (·.mem) := memories_map fun x => by split <;> rfl
  have h2 : Kept base d2 := Kept.mk_eq rfl rfl rfl rfl rfl rfl he rfl h1
  have h3 : Kept base d3 := ackInvalidates_kept h2
  split
  · exact endRemote_kept h3
  · exact h3

theorem countHost_kept {base : Device} {c} {st} {data} {d : Device} (hd : Kept base d) :
    Kept base (countHost c st data d) := by
  unfold countHost
  lift_lets
  intro v1
  clear_value v1
  intro v2
  clear_value v2
  split
  · refine Kept.mk_eq rfl rfl rfl rfl rfl rfl rfl rfl ?_
    assumption
  · refine Kept.mk_eq rfl rfl rfl rfl rfl rfl rfl rfl ?_
    assumption

theorem postFor_kept {base : Device} {c} {st} {dw0} {dw1} {data} {d : Device} (hd : Kept base d) :
    Kept base (postFor c st dw0 dw1 data d) := by
  unfold postFor
  split
  · rename_i e1 e2 e3
    lift_lets
    intro v4
    have h5 : Kept base v4 := by
      unfold v4
      split
      · assumption
      · apply sendLink_kept
        assumption
    clear_value v4
    apply sendLink_kept
    assumption
  · split
    · assumption
    · split
      · refine Kept.mk_eq rfl rfl rfl rfl rfl rfl rfl rfl ?_
        assumption
      · apply countHost_kept
        apply complete_kept
        assumption

theorem discardItem_kept {base : Device} {cmd} {i} {d : Device} (hd : Kept base d) :
    Kept base (discardItem cmd i d) := by
  unfold discardItem
  lift_lets
  intro v1
  have h2 : Kept base v1 := by
    unfold v1
    apply Kept.foldl
    · intro x3 x4 h5
      split
      · rename_i e6 e7 e8 e9 e10
        apply releaseClaim_kept
        assumption
      · assumption
    · assumption
  clear_value v1
  intro v11
  clear_value v11
  intro v12
  clear_value v12
  intro v13
  have h14 : Kept base v13 := by
    unfold v13
    split
    · rename_i e15 e16 e17
      apply sendLink_kept
      assumption
    · assumption
  clear_value v13
  intro v18
  clear_value v18
  intro v19
  clear_value v19
  apply releaseFlushed_kept
  refine Kept.mk_eq rfl rfl rfl rfl rfl rfl rfl rfl ?_
  assumption

theorem failCmd_kept {base : Device} {id} {st} {dw0} {d : Device} (hd : Kept base d) :
    Kept base (failCmd id st dw0 d) := by
  unfold failCmd
  split
  · assumption
  · rename_i e1 e2 e3
    lift_lets
    intro v4
    have h5 : Kept base v4 := by
      unfold v4
      apply Kept.foldl
      · intro x6 x7 h8
        apply discardItem_kept
        assumption
      · assumption
    clear_value v4
    intro v9
    have h10 : Kept base v9 := by
      unfold v9
      split
      · rename_i e11 e12 e13
        apply freeSlot_kept
        assumption
      · assumption
    clear_value v9
    apply postFor_kept
    apply removeCmd_kept
    assumption

theorem locateCopy_kept {base : Device} {cmd} {m} {ch} {d : Device} (hd : Kept base d) :
    Kept base (locateCopy cmd m ch d) := by
  unfold locateCopy
  lift_lets
  intro v1
  clear_value v1
  intro v2
  clear_value v2
  intro v3
  have h4 : Kept base v3 := by
    unfold v3
    refine Kept.mk_eq rfl rfl rfl rfl rfl rfl rfl rfl ?_
    assumption
  clear_value v3
  intro v5
  have h6 : KeptP base v5 := by
    unfold v5
    apply newReq_kept
    assumption
  clear_value v5
  apply sendLink_kept
  apply KeptP.snd
  assumption

theorem askUnits_kept {base : Device} {cmd} {prio} {extents} {d : Device} (hd : Kept base d) :
    Kept base (askUnits cmd prio extents d) := by
  unfold askUnits
  apply Kept.foldl
  · intro x1 x2 h3
    apply Kept.foldl
    · intro x4 x5 h6
      lift_lets
      intro v7
      have h8 : KeptP base v7 := by
        unfold v7
        apply newReq_kept
        assumption
      clear_value v7
      apply sendLink_kept
      apply KeptP.snd
      assumption
    · assumption
  · assumption

theorem readHere_kept {base : Device} {id} {c} {m} {x} {d : Device} (hd : Kept base d) :
    Kept base (readHere id c m x d) := by
  unfold readHere
  lift_lets
  intro v1
  clear_value v1
  intro v2
  clear_value v2
  apply postHost_kept
  apply setPhase_kept
  apply askUnits_kept
  assumption

theorem doneCmd_kept {base : Device} {id} {st} {dw0} {dw1} {data} {d : Device} (hd : Kept base d) :
    Kept base (doneCmd id st dw0 dw1 data d) := by
  unfold doneCmd
  split
  · assumption
  · rename_i e1 e2 e3
    apply postFor_kept
    apply removeCmd_kept
    assumption

theorem endFetch_kept {base : Device} {cmd} {d : Device} (hd : Kept base d) :
    Kept base (endFetch cmd d) := by
  unfold endFetch
  refine Kept.mk_eq rfl rfl rfl rfl rfl rfl rfl rfl ?_
  assumption

theorem peerMember_kept {base : Device} {stripe} {unit} {d : Device} (hd : Kept base d) :
    KeptP base (peerMember stripe unit d) := by
  unfold peerMember
  lift_lets
  intro v1
  clear_value v1
  intro v2
  have h3 : KeptP base v2 := by
    unfold v2
    apply draw_kept
    assumption
  clear_value v2
  split
  · apply KeptP.mk
    assumption
  · apply KeptP.mk
    apply KeptP.snd
    assumption

theorem putFetch_kept {base : Device} {f} {d : Device} (hd : Kept base d) :
    Kept base (putFetch f d) := by
  unfold putFetch
  refine Kept.mk_eq rfl rfl rfl rfl rfl rfl rfl rfl ?_
  assumption

theorem loseCopy_kept {base : Device} {dom} {fp} {num} {d : Device} (hd : Kept base d) :
    Kept base (loseCopy dom fp num d) := by
  unfold loseCopy
  split
  · assumption
  · rename_i e1 e2 e3
    split
    · assumption
    · lift_lets
      intro v4
      clear_value v4
      intro v5
      have h6 : Kept base v5 := by
        unfold v5
        apply Kept.foldl
        · intro x7 x8 h9
          lift_lets
          intro v10
          clear_value v10
          apply logEvent_kept
          apply addLost_kept
          apply journalRecord_kept
          assumption
        · assumption
      clear_value v5
      intro v11
      have h12 : Kept base v11 := by
        unfold v11
        apply onCopy_kept
        assumption
      clear_value v11
      apply hotRemove_kept
      apply recordCopy_kept
      assumption

theorem readOn_kept {base : Device} {y0} {y1} {y2 : Device} (hy2 : Kept base y2) :
    Kept base (readOn y0 y1 y2) := by
  induction' y0 with n ih generalizing y1 y2
  · unfold readOn
    assumption
  · unfold readOn
    split
    · assumption
    · rename_i e1 e2 e3
      split
      · apply failCmd_kept
        assumption
      · rename_i e4 e5 e6
        lift_lets
        intro v7
        clear_value v7
        intro v8
        have h9 : Kept base v8 := by
          unfold v8
          apply odBump_kept
          assumption
        clear_value v8
        intro v10
        clear_value v10
        split
        · rename_i e11 e12 e13
          lift_lets
          intro v14
          have h15 : Kept base v14 := by
            unfold v14
            apply logEvent_kept
            apply odBump_kept
            assumption
          clear_value v14
          split
          · assumption
          · split
            · apply failCmd_kept
              apply loseCopy_kept
              assumption
            · rename_i e16 e17 e18 e19
              split
              · apply failCmd_kept
                assumption
              · apply ih
                apply putFetch_kept
                assumption
              · lift_lets
                intro v20
                have h21 : KeptP base v20 := by
                  unfold v20
                  apply peerMember_kept
                  assumption
                clear_value v20
                intro v22
                have h23 : KeptP base v22 := by
                  unfold v22
                  apply newReq_kept
                  apply KeptP.snd
                  assumption
                clear_value v22
                split
                · apply ih
                  apply putFetch_kept
                  apply KeptP.snd
                  assumption
                · apply sendLink_kept
                  apply KeptP.snd
                  assumption
              · split
                · apply ih
                  apply onCmd_kept
                  apply admitRead_kept
                  apply endFetch_kept
                  assumption
                · apply ih
                  apply putFetch_kept
                  assumption
                · apply failCmd_kept
                  assumption
                · apply failCmd_kept
                  assumption
        · split
          · apply doneCmd_kept
            assumption
          · split
            · apply doneCmd_kept
              assumption
            · split
              · rename_i e24 e25 e26 e27 e28 e29 e30 e31 e32 e33
                apply ih
                apply onCmd_kept
                apply cacheHit_kept
                assumption
              · split
                · rename_i e34 e35 e36 e37 e38 e39 e40 e41 e42 e43 e44 e45
                  lift_lets
                  intro v46
                  clear_value v46
                  split
                  · apply failCmd_kept
                    assumption
                  · split
                    · split
                      · apply failCmd_kept
                        assumption
                      · split
                        · apply ih
                          apply setPhase_kept
                          refine Kept.mk_eq rfl rfl rfl rfl rfl rfl rfl rfl ?_
                          assumption
                        · apply failCmd_kept
                          assumption
                    · split
                      · apply failCmd_kept
                        assumption
                      · apply failCmd_kept
                        assumption
                      · apply readHere_kept
                        assumption
                · split
                  · apply locateCopy_kept
                    apply setPhase_kept
                    assumption
                  · apply failCmd_kept
                    assumption

theorem startRead_kept {base : Device} {id} {d : Device} (hd : Kept base d) :
    Kept base (startRead id d) := by
  unfold startRead
  split
  · assumption
  · rename_i e1 e2 e3
    lift_lets
    intro v4
    clear_value v4
    intro v5
    clear_value v5
    split
    · apply failCmd_kept
      assumption
    · split
      · rename_i e6 e7 e8 e9 e10
        apply setPhase_kept
        apply odBump_kept
        assumption
      · split
        · apply doneCmd_kept
          assumption
        · apply failCmd_kept
          assumption
      · split
        · rename_i e11 e12 e13 e14 e15 e16 e17 e18
          apply failCmd_kept
          assumption
        · split
          · apply failCmd_kept
            assumption
          · rename_i e19 e20 e21 e22 e23 e24 e25 e26 e27 e28
            lift_lets
            intro v29
            clear_value v29
            split
            · apply failCmd_kept
              assumption
            · apply readOn_kept
              apply onCmd_kept
              assumption

theorem nextForward_kept {base : Device} {d : Device} (hd : Kept base d) :
    KeptP base (nextForward d) := by
  unfold nextForward
  lift_lets
  intro v1
  clear_value v1
  intro v2
  clear_value v2
  apply KeptP.mk
  refine Kept.mk_eq rfl rfl rfl rfl rfl rfl rfl rfl ?_
  assumption

theorem sendCmd_kept {base : Device} {id} {d : Device} (hd : Kept base d) :
    Kept base (sendCmd id d) := by
  unfold sendCmd
  split
  · assumption
  · rename_i e1 e2 e3
    lift_lets
    intro v4
    have h5 : KeptP base v4 := by
      unfold v4
      split
      · rename_i e6 e7 e8
        apply KeptP.mk
        assumption
      · apply nextForward_kept
        assumption
    clear_value v4
    intro v9
    clear_value v9
    intro v10
    clear_value v10
    intro v11
    have h12 : Kept base v11 := by
      unfold v11
      apply onCmd_kept
      apply KeptP.snd
      assumption
    clear_value v11
    intro v13
    have h14 : Kept base v13 := by
      unfold v13
      apply sendLink_kept
      assumption
    clear_value v13
    split
    · assumption
    · apply sendLink_kept
      assumption

theorem addCmd_kept {base : Device} {f} {d : Device} (hd : Kept base d) :
    KeptP base (addCmd f d) := by
  unfold addCmd
  lift_lets
  intro v1
  clear_value v1
  intro v2
  clear_value v2
  apply KeptP.mk
  refine Kept.mk_eq rfl rfl rfl rfl rfl rfl rfl rfl ?_
  assumption

theorem forwardPart_kept {base : Device} {c} {cap} {d : Device} (hd : Kept base d) :
    KeptP base (forwardPart c cap d) := by
  unfold forwardPart
  lift_lets
  intro v1
  have h2 : KeptP base v1 := by
    unfold v1
    apply addCmd_kept
    assumption
  clear_value v1
  intro v3
  have h4 : Kept base v3 := by
    unfold v3
    apply sendCmd_kept
    apply KeptP.snd
    assumption
  clear_value v3
  intro v5
  clear_value v5
  apply KeptP.mk
  apply onCmd_kept
  assumption

theorem answerRange_kept {base : Device} {c} {keys} {more} {d : Device} (hd : Kept base d) :
    Kept base (answerRange c keys more d) := by
  unfold answerRange
  split
  · assumption
  · rename_i e1 e2 e3
    lift_lets
    intro v4
    have h5 : Kept base v4 := by
      unfold v4
      apply sendLink_kept
      apply setPhase_kept
      assumption
    clear_value v4
    apply sendLink_kept
    assumption

theorem doList_kept {base : Device} {id} {d : Device} (hd : Kept base d) :
    Kept base (doList id d) := by
  unfold doList
  split
  · assumption
  · rename_i e1 e2 e3
    lift_lets
    intro v4
    clear_value v4
    intro v5
    clear_value v5
    intro v6
    clear_value v6
    intro v7
    clear_value v7
    split
    · apply answerRange_kept
      assumption
    · apply doneCmd_kept
      assumption

theorem forwardCmd_kept {base : Device} {id} {d : Device} (hd : Kept base d) :
    Kept base (forwardCmd id d) := by
  unfold forwardCmd
  apply sendCmd_kept
  apply odBump_kept
  assumption

theorem readTagFailed_kept {base : Device} {id} {x} {d : Device} (hd : Kept base d) :
    Kept base (readTagFailed id x d) := by
  unfold readTagFailed
  split
  · rename_i e1 e2 e3 e4 e5 e6
    lift_lets
    intro v7
    clear_value v7
    split
    · apply readHere_kept
      apply onCmd_kept
      assumption
    · apply failCmd_kept
      apply loseCopy_kept
      assumption
  · assumption

theorem chunkRead_kept {base : Device} {id} {x} {d : Device} (hd : Kept base d) :
    Kept base (chunkRead id x d) := by
  unfold chunkRead
  split
  · assumption
  · rename_i e1 e2 e3
    lift_lets
    intro v4
    clear_value v4
    intro v5
    have h6 : Kept base v5 := by
      unfold v5
      split
      · assumption
      · apply Kept.foldl
        · intro x7 x8 h9
          apply startMove_kept
          apply onMember_kept
          assumption
        · apply odBump_kept
          assumption
    clear_value v5
    intro v10
    have h11 : Kept base v10 := by
      unfold v10
      apply admitRead_kept
      assumption
    clear_value v10
    apply readOn_kept
    apply onCmd_kept
    assumption

theorem onQueue_kept {base : Device} {q} {f} {d : Device} (hd : Kept base d) :
    Kept base (onQueue q f d) := by
  unfold onQueue
  refine Kept.mk_eq rfl rfl rfl rfl rfl rfl rfl rfl ?_
  assumption

/-! ## FlushBytes -/

theorem programGroup_kept {base : Device} {d : Device} {group} (hd : Kept base d) :
    Kept base (programGroup d group) := by
  unfold programGroup
  lift_lets
  intro v1
  clear_value v1
  intro v2
  clear_value v2
  intro v3
  have h4 : Kept base v3 := by
    unfold v3
    refine Kept.mk_eq rfl rfl rfl rfl rfl rfl rfl rfl ?_
    assumption
  clear_value v3
  apply Kept.foldl
  · intro x5 x6 h7
    lift_lets
    intro v8
    have h9 : Kept base v8 := by
      unfold v8
      apply nextWriteSeq_kept
      assumption
    clear_value v8
    apply emit_kept
    assumption
  · assumption

theorem programFlush_kept {base : Device} {flush} {rs} {d : Device} (hd : Kept base d) :
    Kept base (programFlush flush rs d) := by
  unfold programFlush
  lift_lets
  intro v1
  clear_value v1
  intro v2
  clear_value v2
  intro v3
  have h4 : Kept base v3 := by
    unfold v3
    apply Kept.foldl
    · intro x5 x6 h7
      apply programGroup_kept
      assumption
    · assumption
  clear_value v3
  intro v8
  clear_value v8
  split
  · refine Kept.mk_eq rfl rfl rfl rfl rfl rfl rfl rfl ?_
    assumption
  · assumption

theorem flushWriteAll_kept {base : Device} {rs} {d : Device} (hd : Kept base d) :
    Kept base (flushWriteAll rs d) := by
  unfold flushWriteAll
  apply programFlush_kept
  apply Kept.foldl
  · intro x1 x2 h3
    apply flushWrite_kept
    assumption
  · assumption

/-! ## KvWrite -/

theorem tellTick_kept {base : Device} {f} {t} {d : Device} (hd : Kept base d) :
    Kept base (tellTick f t d) := by
  unfold tellTick
  apply sendLink_kept
  assumption

theorem writeReady_kept {base : Device} {id} {d : Device} (hd : Kept base d) :
    Kept base (writeReady id d) := by
  unfold writeReady
  split
  · assumption
  · rename_i e1 e2 e3
    split
    · assumption
    · split
      · assumption
      · lift_lets
        intro v4
        have h5 : Kept base v4 := by
          unfold v4
          apply onCmd_kept
          assumption
        clear_value v4
        intro v6
        clear_value v6
        intro v7
        have h8 : Kept base v7 := by
          unfold v7
          apply onCmd_kept
          assumption
        clear_value v7
        intro v9
        clear_value v9
        split
        · split
          · rename_i e10 e11 e12 e13 e14 e15
            apply sendLink_kept
            assumption
          · assumption
        · split
          · rename_i e16 e17 e18 e19 e20 e21 e22 e23
            lift_lets
            intro v24
            clear_value v24
            apply tellTick_kept
            refine Kept.mk_eq rfl rfl rfl rfl rfl rfl rfl rfl ?_
            assumption
          · assumption

theorem flushItem_kept {base : Device} {c} {n} {i} {d : Device} (hd : Kept base d) :
    Kept base (flushItem c n i d) := by
  unfold flushItem
  lift_lets
  intro v1
  clear_value v1
  intro v2
  have h3 : Kept base v2 := by
    unfold v2
    apply flushWriteAll_kept
    assumption
  clear_value v2
  split
  · assumption
  · apply Kept.foldl
    · intro x4 x5 h6
      apply markPresent_kept
      assumption
    · apply onItem_kept
      assumption

theorem startMirror_kept {base : Device} {c} {n} {i} {d : Device} (hd : Kept base d) :
    Kept base (startMirror c n i d) := by
  unfold startMirror
  lift_lets
  intro v1
  clear_value v1
  intro v2
  clear_value v2
  intro v3
  clear_value v3
  intro v4
  clear_value v4
  intro v5
  have h6 : Kept base v5 := by
    unfold v5
    refine Kept.mk_eq rfl rfl rfl rfl rfl rfl rfl rfl ?_
    assumption
  clear_value v5
  apply sendAll_kept
  apply onItem_kept
  assumption

theorem ackItem_kept {base : Device} {c} {n} {i} {d : Device} (hd : Kept base d) :
    Kept base (ackItem c n i d) := by
  unfold ackItem
  lift_lets
  intro v1
  clear_value v1
  intro v2
  clear_value v2
  intro v3
  have h4 : Kept base v3 := by
    unfold v3
    split
    · apply startMirror_kept
      assumption
    · assumption
  clear_value v3
  intro v5
  have h6 : Kept base v5 := by
    unfold v5
    split
    · apply flushItem_kept
      assumption
    · assumption
  clear_value v5
  intro v7
  have h8 : Kept base v7 := by
    unfold v7
    split
    · apply Kept.foldl
      · intro x9 x10 h11
        apply markPresent_kept
        assumption
      · assumption
    · assumption
  clear_value v7
  split
  · assumption
  · rename_i e12 e13 e14
    lift_lets
    intro v15
    clear_value v15
    split
    · apply onItem_kept
      assumption
    · assumption

theorem reopenItem_kept {base : Device} {c} {n} {i} {d : Device} (hd : Kept base d) :
    Kept base (reopenItem c n i d) := by
  unfold reopenItem
  lift_lets
  intro v1
  clear_value v1
  intro v2
  have h3 : Kept base v2 := by
    unfold v2
    split
    · rename_i e4 e5 e6
      apply sendLink_kept
      refine Kept.mk_eq rfl rfl rfl rfl rfl rfl rfl rfl ?_
      assumption
    · assumption
  clear_value v2
  apply onItem_kept
  apply releaseFlushed_kept
  assumption

theorem writeManifest_kept {base : Device} {c} {n} {i} {d : Device} (hd : Kept base d) :
    Kept base (writeManifest c n i d) := by
  unfold writeManifest
  split
  · assumption
  · lift_lets
    intro v1
    have h2 : KeptP base v1 := by
      unfold v1
      apply nextManifest_kept
      assumption
    clear_value v1
    intro v3
    clear_value v3
    intro v4
    have h5 : Kept base v4 := by
      unfold v4
      apply KeptP.snd
      assumption
    clear_value v4
    intro v6
    clear_value v6
    intro v7
    have h8 : Kept base v7 := by
      unfold v7
      refine Kept.mk_eq rfl rfl rfl rfl rfl rfl rfl rfl ?_
      assumption
    clear_value v7
    apply onItem_kept
    assumption

theorem engineSeesClaim_kept {base : Device} {tag} {y1} {d : Device} (hd : Kept base d) :
    Kept base (engineSeesClaim tag y1 d) := by
  unfold engineSeesClaim
  split
  · assumption
  · rename_i e1 e2 e3
    lift_lets
    intro v4
    have h5 : Kept base v4 := by
      unfold v4
      apply engineCond_kept
      apply engineCond_kept
      apply engineCond_kept
      assumption
    clear_value v4
    apply onEngine_kept
    · intro x6
      rfl
    · assumption

theorem claimAnswered_kept {base : Device} {id} {n} {k} {y3} {d : Device} (hd : Kept base d) :
    Kept base (claimAnswered id n k y3 d) := by
  unfold claimAnswered
  apply engineSeesClaim_kept
  apply onChunk_kept
  assumption

theorem claimChunk_kept {base : Device} {id} {n} {k} {dom} {fp} {d : Device} (hd : Kept base d) :
    Kept base (claimChunk id n k dom fp d) := by
  unfold claimChunk
  split
  · lift_lets
    intro v1
    have h2 : KeptP base v1 := by
      unfold v1
      apply claimAt_kept
      assumption
    clear_value v1
    apply claimAnswered_kept
    apply KeptP.snd
    assumption
  · split
    · lift_lets
      intro v3
      have h4 : KeptP base v3 := by
        unfold v3
        apply newReq_kept
        assumption
      clear_value v3
      apply onChunk_kept
      apply sendLink_kept
      apply KeptP.snd
      assumption
    · split
      · lift_lets
        intro v5
        have h6 : KeptP base v5 := by
          unfold v5
          apply claimDetached_kept
          assumption
        clear_value v5
        apply claimAnswered_kept
        apply KeptP.snd
        assumption
      · assumption

theorem driveItem_kept {base : Device} {c} {n} {i} {d : Device} (hd : Kept base d) :
    Kept base (driveItem c n i d) := by
  unfold driveItem
  apply Kept.foldl
  · intro x1 x2 h3
    lift_lets
    intro v4
    clear_value v4
    intro v5
    clear_value v5
    intro v6
    clear_value v6
    split
    · apply claimChunk_kept
      assumption
    · split
      · apply postHost_kept
        assumption
      · assumption
  · assumption

theorem endFailed_kept {base : Device} {id} {d : Device} (hd : Kept base d) :
    Kept base (endFailed id d) := by
  unfold endFailed
  split
  · assumption
  · rename_i e1 e2 e3
    split
    · assumption
    · rename_i e4 e5 e6
      split
      · assumption
      · lift_lets
        intro v7
        clear_value v7
        apply failCmd_kept
        assumption

theorem driveWrite_kept {base : Device} {id} {d : Device} (hd : Kept base d) :
    Kept base (driveWrite id d) := by
  unfold driveWrite
  split
  · assumption
  · rename_i e1 e2 e3
    split
    · split
      · apply endFailed_kept
        assumption
      · lift_lets
        intro v4
        have h5 : Kept base v4 := by
          unfold v4
          apply Kept.foldl
          · intro x6 x7 h8
            apply driveItem_kept
            assumption
          · assumption
        clear_value v4
        split
        · assumption
        · rename_i e9 e10 e11 e12 e13 e14
          split
          · apply setPhase_kept
            apply Kept.foldl
            · intro x15 x16 h17
              apply writeManifest_kept
              assumption
            · assumption
          · split
            · apply setPhase_kept
              assumption
            · apply setPhase_kept
              assumption
    · split
      · apply endFailed_kept
        assumption
      · lift_lets
        intro v18
        have h19 : Kept base v18 := by
          unfold v18
          apply Kept.foldl
          · intro x20 x21 h22
            apply driveItem_kept
            assumption
          · assumption
        clear_value v18
        split
        · assumption
        · rename_i e23 e24 e25 e26 e27 e28
          split
          · apply setPhase_kept
            apply Kept.foldl
            · intro x29 x30 h31
              apply writeManifest_kept
              assumption
            · assumption
          · split
            · apply setPhase_kept
              assumption
            · apply setPhase_kept
              assumption
    · split
      · apply endFailed_kept
        assumption
      · split
        · apply setPhase_kept
          apply Kept.foldl
          · intro x32 x33 h34
            apply reopenItem_kept
            assumption
          · assumption
        · lift_lets
          intro v35
          have h36 : Kept base v35 := by
            unfold v35
            apply Kept.foldl
            · intro x37 x38 h39
              split
              · assumption
              · apply ackItem_kept
                assumption
            · assumption
          clear_value v35
          split
          · assumption
          · rename_i e40 e41 e42 e43 e44 e45 e46
            lift_lets
            intro v47
            clear_value v47
            apply writeReady_kept
            apply setPhase_kept
            assumption
    · split
      · apply endFailed_kept
        assumption
      · split
        · apply setPhase_kept
          apply Kept.foldl
          · intro x48 x49 h50
            apply reopenItem_kept
            assumption
          · assumption
        · lift_lets
          intro v51
          have h52 : Kept base v51 := by
            unfold v51
            apply Kept.foldl
            · intro x53 x54 h55
              split
              · assumption
              · apply ackItem_kept
                assumption
            · assumption
          clear_value v51
          split
          · assumption
          · rename_i e56 e57 e58 e59 e60 e61 e62
            lift_lets
            intro v63
            clear_value v63
            apply writeReady_kept
            apply setPhase_kept
            assumption
    · assumption

theorem postReduce_kept {base : Device} {c} {n} {i} {d : Device} (hd : Kept base d) :
    Kept base (postReduce c n i d) := by
  unfold postReduce
  lift_lets
  intro v1
  clear_value v1
  intro v2
  clear_value v2
  apply postHost_kept
  assumption

theorem startReduce_kept {base : Device} {id} {d : Device} (hd : Kept base d) :
    Kept base (startReduce id d) := by
  unfold startReduce
  split
  · assumption
  · rename_i e1 e2 e3
    lift_lets
    intro v4
    clear_value v4
    intro v5
    have h6 : Kept base v5 := by
      unfold v5
      apply setPhase_kept
      apply onCmd_kept
      assumption
    clear_value v5
    intro v7
    have h8 : Kept base v7 := by
      unfold v7
      apply Kept.foldl
      · intro x9 x10 h11
        split
        · assumption
        · apply ensureSalt_kept
          assumption
      · assumption
    clear_value v7
    apply Kept.foldl
    · intro x12 x13 h14
      split
      · assumption
      · apply postReduce_kept
        assumption
    · assumption

theorem forwardShare_kept {base : Device} {id} {d : Device} (hd : Kept base d) :
    Kept base (forwardShare id d) := by
  unfold forwardShare
  split
  · assumption
  · rename_i e1 e2 e3
    apply KeptP.snd
    apply forwardPart_kept
    assumption

theorem countHome_kept {base : Device} {keys} {d : Device} (hd : Kept base d) :
    Kept base (countHome keys d) := by
  unfold countHome
  apply Kept.foldl
  · intro x1 x2 h3
    lift_lets
    intro v4
    clear_value v4
    intro v5
    clear_value v5
    split
    · assumption
    · refine Kept.mk_eq rfl rfl rfl rfl rfl rfl rfl rfl ?_
      assumption
  · assumption

theorem removeKeys_kept {base : Device} {id} {keys} {left} {d : Device} (hd : Kept base d) :
    Kept base (removeKeys id keys left d) := by
  unfold removeKeys
  apply onCmd_kept
  assumption

theorem rangeNext_kept {base : Device} {id} {d : Device} (hd : Kept base d) :
    Kept base (rangeNext id d) := by
  unfold rangeNext
  split
  · assumption
  · rename_i e1 e2 e3
    split
    · apply doneCmd_kept
      assumption
    · lift_lets
      intro v4
      clear_value v4
      intro v5
      clear_value v5
      intro v6
      clear_value v6
      split
      · apply removeKeys_kept
        assumption
      · split
        · rename_i e7 e8 e9 e10 e11 e12 e13 e14
          split
          · apply failCmd_kept
            assumption
          · apply sendLink_kept
            apply onCmd_kept
            assumption
        · apply failCmd_kept
          assumption

theorem startRangeDelete_kept {base : Device} {id} {d : Device} (hd : Kept base d) :
    Kept base (startRangeDelete id d) := by
  unfold startRangeDelete
  split
  · assumption
  · rename_i e1 e2 e3
    lift_lets
    intro v4
    clear_value v4
    intro v5
    clear_value v5
    split
    · apply answerRange_kept
      assumption
    · split
      · apply failCmd_kept
        assumption
      · split
        · apply failCmd_kept
          assumption
        · apply rangeNext_kept
          apply onCmd_kept
          assumption

theorem gatherRange_kept {base : Device} {id} {d : Device} (hd : Kept base d) :
    Kept base (gatherRange id d) := by
  unfold gatherRange
  split
  · assumption
  · rename_i e1 e2 e3
    apply setPhase_kept
    apply KeptP.snd
    apply forwardPart_kept
    assumption

theorem granted_kept {base : Device} {id} {d : Device} (hd : Kept base d) :
    Kept base (granted id d) := by
  unfold granted
  split
  · assumption
  · rename_i e1 e2 e3
    split
    · split
      · apply gatherRange_kept
        assumption
      · split
        · apply doList_kept
          assumption
        · apply startRangeDelete_kept
          assumption
    · split
      · assumption
      · split
        · apply failCmd_kept
          assumption
        · lift_lets
          intro v4
          have h5 : Kept base v4 := by
            unfold v4
            split
            · apply countHome_kept
              assumption
            · assumption
          clear_value v4
          intro v6
          have h7 : Kept base v6 := by
            unfold v6
            apply onCmd_kept
            assumption
          clear_value v6
          split
          · assumption
          · rename_i e8 e9 e10 e11 e12 e13
            lift_lets
            intro v14
            clear_value v14
            intro v15
            have h16 : Kept base v15 := by
              unfold v15
              apply onCmd_kept
              assumption
            clear_value v15
            intro v17
            have h18 : Kept base v17 := by
              unfold v17
              split
              · apply forwardShare_kept
                assumption
              · assumption
            clear_value v17
            split
            · apply endFailed_kept
              apply setPhase_kept
              assumption
            · split
              · split
                · rename_i e19 e20 e21 e22 e23
                  apply startReduce_kept
                  apply onCmd_kept
                  apply KeptP.snd
                  refine KeptOP.pair e23 ?_
                  apply takeSlot_kept
                  assumption
                · apply failCmd_kept
                  assumption
              · apply startReduce_kept
                assumption

theorem refuseCipher_kept {base : Device} {id} {slot} {d : Device} (hd : Kept base d) :
    Kept base (refuseCipher id slot d) := by
  unfold refuseCipher
  lift_lets
  intro v1
  clear_value v1
  apply failCmd_kept
  assumption

theorem storeChunk_kept {base : Device} {e} {id} {n} {k} {d : Device} (hd : Kept base d) :
    Kept base (storeChunk e id n k d) := by
  unfold storeChunk
  split
  · assumption
  · rename_i e1 e2 e3
    split
    · rename_i e4 e5 e6 e7 e8 e9
      split
      · assumption
      · lift_lets
        intro v10
        clear_value v10
        intro v11
        clear_value v11
        intro v12
        have h13 : KeptP base v12 := by
          unfold v12
          split
          · rename_i e14 e15 e16 e17
            apply KeptP.mk
            assumption
          · apply takeInvocation_kept
            assumption
        clear_value v12
        intro v18
        have h19 : KeptP base v18 := by
          unfold v18
          split
          · rename_i e20 e21 e22 e23
            apply KeptP.mk
            apply KeptP.snd
            assumption
          · apply chooseEncoding_kept
            apply KeptP.snd
            assumption
        clear_value v18
        split
        · apply refuseCipher_kept
          apply KeptP.snd
          assumption
        · apply KeptP.snd
          assumption
        · lift_lets
          intro v24
          have h25 : Kept base v24 := by
            unfold v24
            apply placeCopy_kept
            apply KeptP.snd
            assumption
          clear_value v24
          apply onChunk_kept
          assumption
    · assumption

theorem addChunk_kept {base : Device} {id} {n} {data} {d : Device} (hd : Kept base d) :
    Kept base (addChunk id n data d) := by
  unfold addChunk
  split
  · assumption
  · rename_i e1 e2 e3
    lift_lets
    intro v4
    clear_value v4
    intro v5
    have h6 : Kept base v5 := by
      unfold v5
      apply odBump_kept
      apply onItem_kept
      assumption
    clear_value v5
    apply claimChunk_kept
    assumption

theorem reduceDone_kept {base : Device} {id} {n} {d : Device} (hd : Kept base d) :
    Kept base (reduceDone id n d) := by
  unfold reduceDone
  split
  · assumption
  · rename_i e1 e2 e3
    split
    · assumption
    · lift_lets
      intro v4
      clear_value v4
      intro v5
      have h6 : Kept base v5 := by
        unfold v5
        apply Kept.foldl
        · intro x7 x8 h9
          apply addChunk_kept
          assumption
        · assumption
      clear_value v5
      apply odBump_kept
      apply onItem_kept
      assumption

theorem startErasure_kept {base : Device} {slot} {ns} {copies} {stripes} {d : Device} (hd : Kept base d) :
    Kept base (startErasure slot ns copies stripes d) := by
  unfold startErasure
  lift_lets
  intro v1
  have h2 : Kept base v1 := by
    unfold v1
    apply journalRecord_kept
    assumption
  clear_value v1
  apply onSlot_kept
  assumption

theorem secureDone_kept {base : Device} {id} {slot} {ns} {x} {d : Device} (hd : Kept base d) :
    Kept base (secureDone id slot ns x d) := by
  unfold secureDone
  lift_lets
  intro v1
  have h2 : Kept base v1 := by
    unfold v1
    apply onSlot_kept
    apply startErasure_kept
    assumption
  clear_value v1
  apply doneCmd_kept
  assumption

theorem secureSorted_kept {base : Device} {id} {d : Device} (hd : Kept base d) :
    Kept base (secureSorted id d) := by
  unfold secureSorted
  split
  · assumption
  · rename_i e1 e2 e3
    lift_lets
    intro v4
    clear_value v4
    intro v5
    clear_value v5
    split
    · assumption
    · split
      · rename_i e6 e7 e8 e9
        apply secureDone_kept
        assumption
      · apply doneCmd_kept
        assumption

theorem sortMirrored_kept {base : Device} {x} {refs} {dead} {d : Device} (hd : Kept base d) :
    Kept base (sortMirrored x refs dead d) := by
  unfold sortMirrored
  lift_lets
  intro v1
  clear_value v1
  intro v2
  clear_value v2
  intro v3
  have h4 : Kept base v3 := by
    unfold v3
    apply Kept.foldl
    · intro x5 x6 h7
      apply onCmd_kept
      assumption
    · assumption
  clear_value v3
  split
  · assumption
  · apply Kept.foldl
    · intro x8 x9 h10
      apply secureSorted_kept
      assumption
    · assumption

theorem askPlace_kept {base : Device} {id} {x} {d : Device} (hd : Kept base d) :
    Kept base (askPlace id x d) := by
  unfold askPlace
  lift_lets
  intro v1
  have h2 : KeptP base v1 := by
    unfold v1
    apply newReq_kept
    assumption
  clear_value v1
  apply sendLink_kept
  apply KeptP.snd
  assumption

theorem askAgain_kept {base : Device} {d : Device} (hd : Kept base d) :
    Kept base (askAgain d) := by
  unfold askAgain
  apply Kept.foldl
  · intro x1 x2 h3
    apply Kept.foldl
    · intro x4 x5 h6
      apply askPlace_kept
      assumption
    · assumption
  · assumption

theorem sortErasure_kept {base : Device} {id} {m} {d : Device} (hd : Kept base d) :
    Kept base (sortErasure id m d) := by
  unfold sortErasure
  lift_lets
  intro v1
  clear_value v1
  apply Kept.foldl
  · intro x2 x3 h4
    lift_lets
    intro v5
    clear_value v5
    intro v6
    have h7 : Kept base v6 := by
      unfold v6
      apply onCmd_kept
      assumption
    clear_value v6
    split
    · assumption
    · apply askPlace_kept
      assumption
  · assumption

theorem sortHere_kept {base : Device} {d : Device} (hd : Kept base d) :
    Kept base (sortHere d) := by
  unfold sortHere
  lift_lets
  intro v1
  clear_value v1
  apply Kept.foldl
  · intro x2 x3 h4
    apply secureSorted_kept
    apply onCmd_kept
    assumption
  · assumption

theorem givePowerFailTick_kept {base : Device} {t} {d : Device} (hd : Kept base d) :
    Kept base (givePowerFailTick t d) := by
  unfold givePowerFailTick
  lift_lets
  intro v1 v2 v3
  clear_value v3
  refine Kept.mk_eq rfl rfl rfl rfl rfl rfl rfl rfl ?_
  assumption

theorem rangeRemoved_kept {base : Device} {c} {d : Device} (hd : Kept base d) :
    Kept base (rangeRemoved c d) := by
  unfold rangeRemoved
  lift_lets
  intro v1
  clear_value v1
  intro v2
  have h3 : Kept base v2 := by
    unfold v2
    apply onCmd_kept
    assumption
  clear_value v2
  split
  · apply rangeNext_kept
    assumption
  · rename_i e4 e5 e6
    split
    · apply sendLink_kept
      assumption
    · apply removeCmd_kept
      assumption

theorem commitDone_kept {base : Device} {named} {id} {d : Device} (hd : Kept base d) :
    Kept base (commitDone named id d) := by
  unfold commitDone
  split
  · assumption
  · rename_i e1 e2 e3
    split
    · apply rangeRemoved_kept
      assumption
    · split
      · lift_lets
        intro v4
        have h5 : Kept base v4 := by
          unfold v4
          apply onCmd_kept
          assumption
        clear_value v4
        apply secureSorted_kept
        split
        · apply sortErasure_kept
          assumption
        · assumption
      · split
        · apply removeCmd_kept
          assumption
        · apply doneCmd_kept
          assumption

theorem commitItem_kept {base : Device} {c} {t} {i} {d : Device} (hd : Kept base d) :
    Kept base (commitItem c t i d) := by
  unfold commitItem
  lift_lets
  intro v1
  clear_value v1
  intro v2
  clear_value v2
  intro v3
  clear_value v3
  intro v4
  have h5 : Kept base v4 := by
    unfold v4
    refine Kept.mk_eq rfl rfl rfl rfl rfl rfl rfl rfl ?_
    assumption
  clear_value v4
  apply applyVersion_kept
  apply noteFlushTick_kept
  assumption

theorem commitVersions_kept {base : Device} {t} {d : Device} {c} (hd : Kept base d) :
    Kept base (commitVersions t d c) := by
  unfold commitVersions
  lift_lets
  intro v1
  clear_value v1
  intro v2
  have h3 : Kept base v2 := by
    unfold v2
    apply Kept.foldl
    · intro x4 x5 h6
      apply commitItem_kept
      assumption
    · assumption
  clear_value v2
  split
  · apply journalRecord_kept
    assumption
  · assumption

theorem commitClaims_kept {base : Device} {c} {i} {d : Device} (hd : Kept base d) :
    Kept base (commitClaims c i d) := by
  unfold commitClaims
  split
  · rename_i e1 e2 e3
    split
    · assumption
    · apply commitRefs_kept
      assumption
  · assumption

theorem commitWrites_kept {base : Device} {t} {d : Device} (hd : Kept base d) :
    Kept base (commitWrites t d) := by
  unfold commitWrites
  lift_lets
  intro v1
  clear_value v1
  intro v2
  clear_value v2
  intro v3
  have h4 : Kept base v3 := by
    unfold v3
    apply Kept.foldl
    · intro x5 x6 h7
      apply Kept.foldl
      · intro x8 x9 h10
        apply commitClaims_kept
        assumption
      · assumption
    · assumption
  clear_value v3
  intro v11
  have h12 : Kept base v11 := by
    unfold v11
    apply Kept.foldl
    · intro x13 x14 h15
      apply commitVersions_kept
      assumption
    · assumption
  clear_value v11
  apply Kept.foldl
  · intro x16 x17 h18
    apply commitDone_kept
    assumption
  · assumption

/-! ## PowerBase -/

theorem setDomain_kept {base : Device} {n} {on} {d : Device} (hd : Kept base d) :
    Kept base (setDomain n on d) := by
  unfold setDomain
  apply odPut_kept
  assumption

theorem loadSearch_kept {base : Device} {d : Device} (hd : Kept base d) :
    Kept base (loadSearch d) := by
  unfold loadSearch
  lift_lets
  intro v1
  have h2 : Kept base v1 := by
    unfold v1
    apply setDomain_kept
    apply setDomain_kept
    assumption
  clear_value v1
  intro v3
  clear_value v3
  split
  · assumption
  · apply bumpVersion_kept
    refine Kept.mk_eq rfl rfl rfl rfl rfl rfl rfl rfl ?_
    assumption

theorem placeGroupsUp_kept {base : Device} {paired} {d : Device} (hd : Kept base d) :
    Kept base (placeGroupsUp paired d) := by
  unfold placeGroupsUp
  lift_lets
  intro v1
  clear_value v1
  intro v2
  clear_value v2
  apply Kept.foldl
  · intro x3 x4 h5
    lift_lets
    intro v6
    clear_value v6
    split
    · apply placePaired_kept
      assumption
    · apply placeLocal_kept
      assumption
  · assumption

theorem setLink_kept {base : Device} {p} {st} {d : Device} (hd : Kept base d) :
    Kept base (setLink p st d) := by
  unfold setLink
  apply odPut_kept
  apply onPort_kept
  assumption

theorem powerPort_kept {base : Device} {p} {d : Device} (hd : Kept base d) :
    Kept base (powerPort p d) := by
  unfold powerPort
  lift_lets
  intro v1
  clear_value v1
  apply onPort_kept
  assumption

theorem trainPort_kept {base : Device} {p} {d : Device} (hd : Kept base d) :
    Kept base (trainPort p d) := by
  unfold trainPort
  lift_lets
  intro v1
  have h2 : Kept base v1 := by
    unfold v1
    apply powerPort_kept
    assumption
  clear_value v1
  split
  · assumption
  · apply setLink_kept
    assumption

theorem portsTrain_kept {base : Device} {d : Device} (hd : Kept base d) :
    Kept base (portsTrain d) := by
  unfold portsTrain
  apply Kept.foldl
  · intro x1 x2 h3
    apply trainPort_kept
    assumption
  · assumption

theorem declareFatal_kept {base : Device} {cause} {d : Device} (hd : Kept base d) :
    Kept base (declareFatal cause d) := by
  unfold declareFatal
  split
  · assumption
  · lift_lets
    intro v1
    clear_value v1
    intro v2
    clear_value v2
    intro v3
    clear_value v3
    apply putEntry_kept
    refine Kept.mk_eq rfl rfl rfl rfl rfl rfl rfl rfl ?_
    assumption

theorem loadCluster_kept {base : Device} {c} {d : Device} (hd : Kept base d) :
    Kept base (loadCluster c d) := by
  unfold loadCluster
  split
  · assumption
  · lift_lets
    intro v1 v2
    apply setDomain_kept
    refine Kept.mk_eq rfl rfl rfl rfl rfl rfl ?_ rfl ?_
    · exact memories_zipIdx fun _ => by dsimp only; split <;> rfl
    · assumption

theorem loadClusters_kept {base : Device} {d : Device} (hd : Kept base d) :
    Kept base (loadClusters d) := by
  unfold loadClusters
  apply Kept.foldl
  · intro x1 x2 h3
    apply loadCluster_kept
    assumption
  · assumption

theorem enterLow_kept {base : Device} {n} {d : Device} (hd : Kept base d) :
    Kept base (enterLow n d) := by
  unfold enterLow
  lift_lets
  intro v1
  clear_value v1
  intro v2
  have h3 : Kept base v2 := by
    unfold v2
    refine Kept.mk_eq rfl rfl rfl rfl rfl rfl rfl rfl ?_
    assumption
  clear_value v2
  intro v4
  have h5 : Kept base v4 := by
    unfold v4
    apply closeGathers_kept
    assumption
  clear_value v4
  intro v6
  clear_value v6
  split
  · refine Kept.mk_eq rfl rfl rfl rfl rfl rfl rfl rfl ?_
    assumption
  · apply checkpointBegin_kept
    assumption

theorem setStandby_kept {base : Device} {n} {b} {d : Device} (hd : Kept base d) :
    Kept base (setStandby n b d) := by
  unfold setStandby
  apply odPut_kept
  assumption

theorem cancelGroupsDown_kept {base : Device} {d : Device} (hd : Kept base d) :
    Kept base (cancelGroupsDown d) := by
  unfold cancelGroupsDown
  lift_lets
  intro v1
  clear_value v1
  intro v2
  have h3 : Kept base v2 := by
    unfold v2
    apply Kept.foldl
    · intro x4 x5 h6
      lift_lets
      intro v7
      clear_value v7
      apply putEntry_kept
      assumption
    · assumption
  clear_value v2
  intro v8
  clear_value v8
  refine Kept.mk_eq rfl rfl rfl rfl rfl rfl rfl rfl ?_
  assumption

theorem leaveLow_kept {base : Device} {d : Device} (hd : Kept base d) :
    Kept base (leaveLow d) := by
  unfold leaveLow
  lift_lets
  intro v1
  have h2 : Kept base v1 := by
    unfold v1
    apply cancelGroupsDown_kept
    assumption
  clear_value v1
  intro v3
  clear_value v3
  intro v4
  clear_value v4
  intro v5
  have h6 : Kept base v5 := by
    unfold v5
    refine Kept.mk_eq rfl rfl rfl rfl rfl rfl rfl rfl ?_
    assumption
  clear_value v5
  intro v7
  have h8 : Kept base v7 := by
    unfold v7
    apply Kept.foldl
    · intro x9 x10 h11
      split
      · apply setStandby_kept
        assumption
      · assumption
    · assumption
  clear_value v7
  intro v12
  have h13 : Kept base v12 := by
    unfold v12
    apply loadClusters_kept
    assumption
  clear_value v12
  intro v14
  have h15 : Kept base v14 := by
    unfold v14
    split
    · assumption
    · apply loadSearch_kept
      assumption
  clear_value v14
  split
  · apply placeGroupsUp_kept
    assumption
  · assumption

theorem refreshEff_kept {base : Device} {cause} {d : Device} (hd : Kept base d) :
    Kept base (refreshEff cause d) := by
  unfold refreshEff
  lift_lets
  intro v1
  have h2 : Kept base v1 := by
    unfold v1
    apply odPut_kept
    assumption
  clear_value v1
  intro v3
  clear_value v3
  intro v4
  clear_value v4
  intro v5
  clear_value v5
  intro v6
  have h7 : Kept base v6 := by
    unfold v6
    refine Kept.mk_eq rfl rfl rfl rfl rfl rfl rfl rfl ?_
    assumption
  clear_value v6
  intro v8
  have h9 : Kept base v8 := by
    unfold v8
    apply logEvent_kept
    apply odPut_kept
    assumption
  clear_value v8
  split
  · assumption
  · split
    · split
      · assumption
      · apply leaveLow_kept
        assumption
    · apply enterLow_kept
      assumption

theorem worldViolation_kept {base : Device} {initiator} {addr} {d : Device} (hd : Kept base d) :
    Kept base (worldViolation initiator addr d) := by
  unfold worldViolation
  lift_lets
  intro v1
  clear_value v1
  intro v2
  have h3 : Kept base v2 := by
    unfold v2
    apply odPut_kept
    apply odBump_kept
    assumption
  clear_value v2
  intro v4
  clear_value v4
  intro v5
  split
  · apply logEvent_kept
    refine Kept.mk_eq rfl rfl rfl rfl rfl rfl rfl rfl ?_
    assumption
  · assumption

theorem placeGroupsDown_kept {base : Device} {d : Device} (hd : Kept base d) :
    Kept base (placeGroupsDown d) := by
  unfold placeGroupsDown
  lift_lets
  intro v1
  clear_value v1
  apply Kept.foldl
  · intro x2 x3 h4
    apply placeLocal_kept
    assumption
  · assumption

theorem gateCluster_kept {base : Device} {c} {d : Device} (hd : Kept base d) :
    Kept base (gateCluster c d) := by
  unfold gateCluster
  lift_lets
  intro v1 v2
  apply setDomain_kept
  refine Kept.mk_eq rfl rfl rfl rfl rfl rfl ?_ rfl ?_
  · exact memories_zipIdx fun _ => by dsimp only; split <;> rfl
  · assumption

theorem gateSearch_kept {base : Device} {d : Device} (hd : Kept base d) :
    Kept base (gateSearch d) := by
  unfold gateSearch
  lift_lets
  intro v1
  have h2 : Kept base v1 := by
    unfold v1
    apply setDomain_kept
    apply setDomain_kept
    assumption
  clear_value v1
  intro v3
  clear_value v3
  apply bumpVersion_kept
  refine Kept.mk_eq rfl rfl rfl rfl rfl rfl rfl rfl ?_
  assumption

theorem ioActivity_kept {base : Device} {d : Device} (hd : Kept base d) :
    Kept base (ioActivity d) := by
  unfold ioActivity
  lift_lets
  intro v1
  clear_value v1
  intro v2
  have h3 : Kept base v2 := by
    unfold v2
    refine Kept.mk_eq rfl rfl rfl rfl rfl rfl rfl rfl ?_
    assumption
  clear_value v2
  intro v4
  clear_value v4
  split
  · assumption
  · apply refreshEff_kept
    apply odPut_kept
    refine Kept.mk_eq rfl rfl rfl rfl rfl rfl rfl rfl ?_
    assumption

end Sys2Proof.Machine
end

