-- ==== Sys2Proof/Laws/KeptD.lean ====
section
/-! SUPPORT. What no operation of KvRun, KvLink, Time takes back: `Kept` through each. -/

namespace Sys2Proof.Machine

/-! ## KvRun -/

theorem ensureLocks_kept {base : Device} {id} {d : Device} (hd : Kept base d) :
    Kept base (ensureLocks id d) := by
  unfold ensureLocks
  split
  · assumption
  · rename_i e1 e2 e3
    split
    · apply setLocks_kept
      assumption
    · assumption

theorem askLocks_kept {base : Device} {id} {d : Device} (hd : Kept base d) :
    Kept base (askLocks id d) := by
  unfold askLocks
  apply requestLocks_kept
  apply ensureLocks_kept
  apply setPhase_kept
  assumption

theorem startHere_kept {base : Device} {c} {d : Device} (hd : Kept base d) :
    Kept base (startHere c d) := by
  unfold startHere
  lift_lets
  intro v1
  have h2 : Kept base v1 := by
    unfold v1
    apply countHome_kept
    assumption
  clear_value v1
  split
  · apply startRead_kept
    assumption
  · apply startRead_kept
    assumption
  · apply askLocks_kept
    assumption

theorem startSingle_kept {base : Device} {c} {d : Device} (hd : Kept base d) :
    Kept base (startSingle c d) := by
  unfold startSingle
  split
  · apply startHere_kept
    assumption
  · split
    · apply startHere_kept
      assumption
    · apply forwardCmd_kept
      assumption
    · apply setPhase_kept
      assumption
    · apply failCmd_kept
      assumption

theorem startBatch_kept {base : Device} {c} {d : Device} (hd : Kept base d) :
    Kept base (startBatch c d) := by
  unfold startBatch
  lift_lets
  intro v1
  clear_value v1
  split
  · apply askLocks_kept
    apply onCmd_kept
    assumption
  · split
    · apply askLocks_kept
      apply onCmd_kept
      apply countHome_kept
      assumption
    · split
      · rename_i e2 e3 e4 e5 e6 e7
        apply failCmd_kept
        assumption
      · split
        · apply setPhase_kept
          assumption
        · split
          · apply askLocks_kept
            apply countHome_kept
            assumption
          · apply forwardShare_kept
            apply setPhase_kept
            assumption

theorem startRange_kept {base : Device} {c} {d : Device} (hd : Kept base d) :
    Kept base (startRange c d) := by
  unfold startRange
  split
  · apply askLocks_kept
    apply onCmd_kept
    assumption
  · split
    · split
      · apply askLocks_kept
        assumption
      · apply gatherRange_kept
        assumption
    · apply failCmd_kept
      assumption

theorem startCmd_kept {base : Device} {id} {d : Device} (hd : Kept base d) :
    Kept base (startCmd id d) := by
  unfold startCmd
  split
  · assumption
  · rename_i e1 e2 e3
    split
    · apply startRange_kept
      assumption
    · split
      · apply startBatch_kept
        assumption
      · apply startSingle_kept
        assumption

theorem stepCmd_kept {base : Device} {d : Device} {id} (hd : Kept base d) :
    Kept base (stepCmd d id) := by
  unfold stepCmd
  split
  · assumption
  · rename_i e1 e2 e3
    split
    · assumption
    · split
      · split
        · apply startCmd_kept
          assumption
        · assumption
      · split
        · apply granted_kept
          assumption
        · assumption
      · split
        · apply startRead_kept
          assumption
        · assumption
      · apply startCmd_kept
        assumption
      · apply driveWrite_kept
        assumption
      · apply driveWrite_kept
        assumption
      · apply driveWrite_kept
        assumption
      · apply driveWrite_kept
        assumption
      · assumption
      · assumption
      · assumption

theorem settleOnce_kept {base : Device} {d : Device} (hd : Kept base d) :
    Kept base (settleOnce d) := by
  unfold settleOnce
  apply Kept.foldl
  · intro x1 x2 h3
    apply stepCmd_kept
    assumption
  · assumption

theorem settleFrom_kept {base : Device} {y0} {y1 : Device} (hy1 : Kept base y1) :
    Kept base (settleFrom y0 y1) := by
  induction' y0 with n ih generalizing y1
  · unfold settleFrom
    assumption
  · unfold settleFrom
    lift_lets
    intro v1
    have h2 : Kept base v1 := by
      unfold v1
      apply settleOnce_kept
      assumption
    clear_value v1
    split
    · assumption
    · apply ih
      assumption

theorem settle_kept {base : Device} {d : Device} (hd : Kept base d) :
    Kept base (settle d) := by
  unfold settle
  apply settleFrom_kept
  apply settleOnce_kept
  apply settleOnce_kept
  assumption

theorem dropReservation_kept {base : Device} {q} {d : Device} (hd : Kept base d) :
    Kept base (dropReservation q d) := by
  unfold dropReservation
  refine Kept.mk_eq rfl rfl rfl rfl rfl rfl rfl rfl ?_
  assumption

theorem pickQueue_kept {base : Device} {d : Device} (hd : Kept base d) :
    KeptOP base (pickQueue d) := by
  unfold pickQueue
  lift_lets
  intro v1
  clear_value v1
  intro v2
  clear_value v2
  intro v3
  clear_value v3
  intro v4
  clear_value v4
  intro v5
  clear_value v5
  intro v6
  clear_value v6
  intro v7
  clear_value v7
  intro v8
  clear_value v8
  intro v9
  clear_value v9
  intro v10
  clear_value v10
  intro v11
  clear_value v11
  intro v12
  clear_value v12
  intro v13
  clear_value v13
  intro v14
  clear_value v14
  intro v15
  clear_value v15
  intro v16
  clear_value v16
  intro v17
  clear_value v17
  intro v18
  clear_value v18
  intro v19
  clear_value v19
  intro v20
  clear_value v20
  split
  · exact KeptOP.none
  · apply KeptOP.some
    refine Kept.mk_eq rfl rfl rfl rfl rfl rfl rfl rfl ?_
    assumption

theorem noteStall_kept {base : Device} {r} {d : Device} (hd : Kept base d) :
    Kept base (noteStall r d) := by
  unfold noteStall
  split
  · assumption
  · rename_i e1 e2 e3
    split
    · assumption
    · split
      · split
        · assumption
        · apply odBump_kept
          apply onQueue_kept
          assumption
      · split
        · assumption
        · lift_lets
          intro v4
          have h5 : KeptP base v4 := by
            unfold v4
            apply nextForward_kept
            assumption
          clear_value v4
          intro v6
          have h7 : Kept base v6 := by
            unfold v6
            apply KeptP.snd
            assumption
          clear_value v6
          intro v8
          clear_value v8
          intro v9
          have h10 : Kept base v9 := by
            unfold v9
            refine Kept.mk_eq rfl rfl rfl rfl rfl rfl rfl rfl ?_
            assumption
          clear_value v9
          apply sendLink_kept
          assumption
      · assumption

theorem fetchHead_kept {base : Device} {r} {d : Device} (hd : Kept base d) :
    Kept base (fetchHead r d) := by
  unfold fetchHead
  split
  · assumption
  · rename_i e1 e2 e3
    split
    · assumption
    · lift_lets
      intro v4
      have h5 : Kept base v4 := by
        unfold v4
        apply onQueue_kept
        assumption
      clear_value v4
      intro v6
      have h7 : Kept base v6 := by
        unfold v6
        split
        · rename_i e8 e9 e10 e11 e12 e13 e14
          apply sendLink_kept
          apply dropReservation_kept
          assumption
        · assumption
      clear_value v6
      intro v15
      have h16 : Kept base v15 := by
        unfold v15
        apply askData_kept
        assumption
      clear_value v15
      intro v17
      clear_value v17
      intro v18
      have h19 : KeptP base v18 := by
        unfold v18
        apply addCmd_kept
        assumption
      clear_value v18
      intro v20
      have h21 : Kept base v20 := by
        unfold v20
        apply dropReservation_kept
        apply KeptP.snd
        assumption
      clear_value v20
      intro v22
      have h23 : Kept base v22 := by
        unfold v22
        apply setLocks_kept
        assumption
      clear_value v22
      intro v24
      have h25 : Kept base v24 := by
        unfold v24
        split
        · apply onQueue_kept
          assumption
        · assumption
      clear_value v24
      split
      · rename_i e26 e27 e28 e29 e30 e31 e32 e33
        apply complete_kept
        assumption
      · apply noteStall_kept
        apply settle_kept
        assumption

theorem noteWrites_kept {base : Device} {d : Device} (hd : Kept base d) :
    Kept base (noteWrites d) := by
  unfold noteWrites
  lift_lets
  intro v1
  clear_value v1
  intro v2
  have h3 : Kept base v2 := by
    unfold v2
    split
    · apply odBump_kept
      assumption
    · assumption
  clear_value v2
  intro v4
  clear_value v4
  refine Kept.mk_eq rfl rfl rfl rfl rfl rfl rfl rfl ?_
  assumption

theorem commandFetch_kept {base : Device} {d : Device} (hd : Kept base d) :
    Kept base (commandFetch d) := by
  unfold commandFetch
  lift_lets
  intro v1
  have h2 : Kept base v1 := by
    unfold v1
    apply noteWrites_kept
    apply Kept.foldl
    · intro x3 x4 h5
      apply noteStall_kept
      assumption
    · assumption
  clear_value v1
  intro v6
  clear_value v6
  intro v7
  clear_value v7
  intro v8
  clear_value v8
  split
  · apply fetchHead_kept
    refine Kept.mk_eq rfl rfl rfl rfl rfl rfl rfl rfl ?_
    assumption
  · split
    · rename_i e9 e10 e11 e12 e13
      apply fetchHead_kept
      refine KeptOP.out (r := (_, _)) e13 ?_
      apply pickQueue_kept
      assumption
    · assumption

theorem ioArrive_kept {base : Device} {r} {c} {d : Device} (hd : Kept base d) :
    Kept base (ioArrive r c d) := by
  unfold ioArrive
  split
  · assumption
  · rename_i e1 e2 e3
    split
    · assumption
    · apply commandFetch_kept
      apply ioActivity_kept
      apply onQueue_kept
      assumption

theorem execLockReservation_kept {base : Device} {q} {s : State} (hs : Kept base s.dev) :
    KeptB base (execLockReservation q s) := by
  unfold execLockReservation
  apply next_keptB
  · intro x1 h2
    apply commandFetch_kept
    apply noteStall_kept
    assumption
  · assumption

theorem lockGrant_kept {base : Device} {d : Device} (hd : Kept base d) :
    Kept base (lockGrant d) := by
  unfold lockGrant
  split
  · assumption
  · rename_i e1 e2 e3
    lift_lets
    intro v4
    have h5 : Kept base v4 := by
      unfold v4
      apply setLocks_kept
      assumption
    clear_value v4
    apply settle_kept
    apply requestLocks_kept
    assumption

theorem execLockGrant_kept {base : Device} {s : State} (hs : Kept base s.dev) :
    KeptB base (execLockGrant s) := by
  unfold execLockGrant
  apply next_keptB
  · intro x1 h2
    apply lockGrant_kept
    assumption
  · assumption

theorem execCommandFetch_kept {base : Device} {s : State} (hs : Kept base s.dev) :
    KeptB base (execCommandFetch s) := by
  unfold execCommandFetch
  apply next_keptB
  · intro x1 h2
    apply commandFetch_kept
    assumption
  · assumption

theorem execLongKeyExist_kept {base : Device} {q} {c} {s : State} (hs : Kept base s.dev) :
    KeptB base (execLongKeyExist q c s) := by
  unfold execLongKeyExist
  apply next_keptB
  · intro x1 h2
    apply ioArrive_kept
    assumption
  · assumption

theorem execLongKeyDeleteRange_kept {base : Device} {q} {c} {s : State} (hs : Kept base s.dev) :
    KeptB base (execLongKeyDeleteRange q c s) := by
  unfold execLongKeyDeleteRange
  apply next_keptB
  · intro x1 h2
    apply ioArrive_kept
    assumption
  · assumption

theorem execLongKeyDelete_kept {base : Device} {q} {c} {s : State} (hs : Kept base s.dev) :
    KeptB base (execLongKeyDelete q c s) := by
  unfold execLongKeyDelete
  apply next_keptB
  · intro x1 h2
    apply ioArrive_kept
    assumption
  · assumption

theorem execLongKeyList_kept {base : Device} {q} {c} {s : State} (hs : Kept base s.dev) :
    KeptB base (execLongKeyList q c s) := by
  unfold execLongKeyList
  apply next_keptB
  · intro x1 h2
    apply ioArrive_kept
    assumption
  · assumption

theorem execBatchStore_kept {base : Device} {q} {c} {s : State} (hs : Kept base s.dev) :
    KeptB base (execBatchStore q c s) := by
  unfold execBatchStore
  apply next_keptB
  · intro x1 h2
    apply ioArrive_kept
    assumption
  · assumption

theorem execLongKeyRetrieve_kept {base : Device} {q} {c} {s : State} (hs : Kept base s.dev) :
    KeptB base (execLongKeyRetrieve q c s) := by
  unfold execLongKeyRetrieve
  apply next_keptB
  · intro x1 h2
    apply ioArrive_kept
    assumption
  · assumption

theorem execLongKeyStore_kept {base : Device} {q} {c} {s : State} (hs : Kept base s.dev) :
    KeptB base (execLongKeyStore q c s) := by
  unfold execLongKeyStore
  apply next_keptB
  · intro x1 h2
    apply ioArrive_kept
    assumption
  · assumption

theorem execExist_kept {base : Device} {q} {c} {s : State} (hs : Kept base s.dev) :
    KeptB base (execExist q c s) := by
  unfold execExist
  apply next_keptB
  · intro x1 h2
    apply ioArrive_kept
    assumption
  · assumption

theorem execSecureDelete_kept {base : Device} {q} {c} {s : State} (hs : Kept base s.dev) :
    KeptB base (execSecureDelete q c s) := by
  unfold execSecureDelete
  apply next_keptB
  · intro x1 h2
    apply ioArrive_kept
    assumption
  · assumption

theorem execDelete_kept {base : Device} {q} {c} {s : State} (hs : Kept base s.dev) :
    KeptB base (execDelete q c s) := by
  unfold execDelete
  apply next_keptB
  · intro x1 h2
    apply ioArrive_kept
    assumption
  · assumption

theorem execList_kept {base : Device} {q} {c} {s : State} (hs : Kept base s.dev) :
    KeptB base (execList q c s) := by
  unfold execList
  apply next_keptB
  · intro x1 h2
    apply ioArrive_kept
    assumption
  · assumption

theorem execRetrieve_kept {base : Device} {q} {c} {s : State} (hs : Kept base s.dev) :
    KeptB base (execRetrieve q c s) := by
  unfold execRetrieve
  apply next_keptB
  · intro x1 h2
    apply ioArrive_kept
    assumption
  · assumption

theorem execStore_kept {base : Device} {q} {c} {s : State} (hs : Kept base s.dev) :
    KeptB base (execStore q c s) := by
  unfold execStore
  apply next_keptB
  · intro x1 h2
    apply ioArrive_kept
    assumption
  · assumption

/-! ## KvLink -/

theorem tagFailed_kept {base : Device} {c} {d : Device} (hd : Kept base d) :
    Kept base (tagFailed c d) := by
  unfold tagFailed
  split
  · rename_i e1 e2 e3
    split
    · apply readTagFailed_kept
      assumption
    · apply failCmd_kept
      assumption
  · apply failCmd_kept
    assumption

theorem forgetFaults_kept {base : Device} {tag} {d : Device} (hd : Kept base d) :
    Kept base (forgetFaults tag d) := by
  unfold forgetFaults
  refine Kept.mk_eq rfl rfl rfl rfl rfl rfl rfl rfl ?_
  assumption

theorem reissueWork_kept {base : Device} {c} {tag} {w} {d : Device} (hd : Kept base d) :
    Kept base (reissueWork c tag w d) := by
  unfold reissueWork
  lift_lets
  intro v1
  clear_value v1
  apply postHost_kept
  assumption

theorem undoReduce_kept {base : Device} {c} {n} {d : Device} (hd : Kept base d) :
    Kept base (undoReduce c n d) := by
  unfold undoReduce
  split
  · assumption
  · rename_i e1 e2 e3
    lift_lets
    intro v4
    have h5 : Kept base v4 := by
      unfold v4
      apply discardItem_kept
      assumption
    clear_value v4
    apply onItem_kept
    assumption

theorem engineFault_kept {base : Device} {e} {c} {tag} {w} {d : Device} (hd : Kept base d) :
    Kept base (engineFault e c tag w d) := by
  unfold engineFault
  lift_lets
  intro v1
  clear_value v1
  intro v2 v3
  have h4 : Kept base v3 := by
    unfold v3
    split
    · refine Kept.mk_eq rfl rfl rfl rfl rfl rfl rfl rfl ?_
      assumption
    · assumption
  clear_value v3
  intro v5
  have h6 : Kept base v5 := by
    unfold v5
    split
    · apply undoReduce_kept
      assumption
    · assumption
  clear_value v5
  intro v7
  split
  · split
    · apply reissueWork_kept
      refine Kept.mk_eq rfl rfl rfl rfl rfl rfl rfl rfl ?_
      assumption
    · apply failCmd_kept
      apply forgetFaults_kept
      assumption
  · apply failCmd_kept
    assumption

theorem workDone_kept {base : Device} {e} {c} {tag} {d : Device} (hd : Kept base d) :
    Kept base (workDone e c tag d) := by
  unfold workDone
  split
  · split
    · rename_i e1 e2 e3 e4 e5 e6 e7 e8 e9
      split
      · rename_i e10 e11 e12
        split
        · apply failCmd_kept
          assumption
        · apply chunkRead_kept
          assumption
      · apply failCmd_kept
        assumption
    · assumption
  · lift_lets
    intro v13
    clear_value v13
    split
    · apply reduceDone_kept
      assumption
    · apply storeChunk_kept
      assumption

theorem descriptorReturn_kept {base : Device} {tag} {status} {w} {d : Device} (hd : Kept base d) :
    Kept base (descriptorReturn tag status w d) := by
  unfold descriptorReturn
  lift_lets
  intro v1
  clear_value v1
  intro v2
  have h3 : Kept base v2 := by
    unfold v2
    apply dropTag_kept
    assumption
  clear_value v2
  intro v4
  clear_value v4
  split
  · assumption
  · rename_i e5 e6 e7
    split
    · assumption
    · apply settle_kept
      split
      · apply workDone_kept
        apply forgetFaults_kept
        assumption
      · apply engineFault_kept
        assumption
      · apply failCmd_kept
        assumption
      · apply refuseCipher_kept
        assumption
      · apply tagFailed_kept
        assumption
      · apply failCmd_kept
        assumption

theorem mapPageFill_kept {base : Device} {typ} {lid} {d : Device} (hd : Kept base d) :
    Kept base (mapPageFill typ lid d) := by
  unfold mapPageFill
  split
  · assumption
  · rename_i e1 e2 e3
    split
    · apply settle_kept
      assumption
    · lift_lets
      intro v4
      clear_value v4
      intro v5
      clear_value v5
      apply settle_kept
      apply evictPages_kept
      refine Kept.mk_eq rfl rfl rfl rfl rfl rfl rfl rfl ?_
      assumption

theorem execMapPageFill_kept {base : Device} {typ} {lid} {s : State} (hs : Kept base s.dev) :
    KeptB base (execMapPageFill typ lid s) := by
  unfold execMapPageFill
  apply next_keptB
  · intro x1 h2
    apply mapPageFill_kept
    assumption
  · assumption

theorem execDescriptorReturn_kept {base : Device} {tag} {status} {s : State} (hs : Kept base s.dev) :
    KeptB base (execDescriptorReturn tag status s) := by
  unfold execDescriptorReturn
  apply next_keptB
  · intro x1 h2
    split
    · rename_i e3 e4 e5
      apply descriptorReturn_kept
      assumption
    · assumption
  · assumption

theorem execWorkDescriptorPost_kept {base : Device} {host} {bucket} {w} {s : State} (hs : Kept base s.dev) :
    KeptB base (execWorkDescriptorPost host bucket w s) := by
  unfold execWorkDescriptorPost
  apply next_keptB
  · intro x1 h2
    split
    · apply postHost_kept
      assumption
    · apply postJob_kept
      assumption
  · assumption

theorem dropReq_kept {base : Device} {id} {d : Device} (hd : Kept base d) :
    Kept base (dropReq id d) := by
  unfold dropReq
  refine Kept.mk_eq rfl rfl rfl rfl rfl rfl rfl rfl ?_
  assumption

theorem takeUnit_kept {base : Device} {r} {c} {f} {stripe} {unit} {off} {data} {d : Device} (hd : Kept base d) :
    Kept base (takeUnit r c f stripe unit off data d) := by
  unfold takeUnit
  lift_lets
  intro v1
  clear_value v1
  intro v2
  clear_value v2
  split
  · apply putFetch_kept
    assumption
  · apply readOn_kept
    apply putFetch_kept
    apply dropReq_kept
    assumption

theorem unitFailed_kept {base : Device} {r} {cmd} {stripe} {unit} {d : Device} (hd : Kept base d) :
    Kept base (unitFailed r cmd stripe unit d) := by
  unfold unitFailed
  lift_lets
  intro v1
  have h2 : Kept base v1 := by
    unfold v1
    apply dropReq_kept
    assumption
  clear_value v1
  split
  · apply startMove_kept
    apply odBump_kept
    apply onMember_kept
    assumption
  · split
    · rename_i e3 e4 e5 e6 e7 e8 e9
      apply readOn_kept
      apply putFetch_kept
      assumption
    · assumption

theorem unitData_kept {base : Device} {req} {status} {off} {data} {d : Device} (hd : Kept base d) :
    Kept base (unitData req status off data d) := by
  unfold unitData
  split
  · assumption
  · rename_i e1 e2 e3
    split
    · split
      · apply unitFailed_kept
        assumption
      · split
        · rename_i e4 e5 e6 e7 e8 e9 e10 e11 e12 e13 e14 e15
          split
          · apply dropReq_kept
            assumption
          · apply takeUnit_kept
            assumption
        · apply dropReq_kept
          assumption
    · apply dropReq_kept
      assumption

theorem execUnitData_kept {base : Device} {y0} {req} {status} {off} {data} {s : State} (hs : Kept base s.dev) :
    KeptB base (execUnitData y0 req status off data s) := by
  unfold execUnitData
  apply next_keptB
  · intro x1 h2
    apply acceptFrame_kept
    · intro x3 h4
      apply settle_kept
      apply unitData_kept
      assumption
    · assumption
  · assumption

theorem unitRead_kept {base : Device} {req} {m} {prio} {d : Device} (hd : Kept base d) :
    Kept base (unitRead req m prio d) := by
  unfold unitRead
  lift_lets
  intro v1
  have h2 : Kept base v1 := by
    unfold v1
    apply ioActivity_kept
    assumption
  clear_value v1
  intro v3
  clear_value v3
  intro v4
  clear_value v4
  split
  · apply sendLink_kept
    assumption
  · apply queueOp_kept
    assumption

theorem execUnitRead_kept {base : Device} {y0} {req} {d} {prio} {s : State} (hs : Kept base s.dev) :
    KeptB base (execUnitRead y0 req d prio s) := by
  unfold execUnitRead
  apply next_keptB
  · intro x1 h2
    apply acceptFrame_kept
    · intro x3 h4
      apply unitRead_kept
      assumption
    · assumption
  · assumption

theorem execInvalidateAck_kept {base : Device} {y0} {domain} {copy} {fp} {s : State} (hs : Kept base s.dev) :
    KeptB base (execInvalidateAck y0 domain copy fp s) := by
  unfold execInvalidateAck
  apply next_keptB
  · intro x1 h2
    apply acceptFrame_kept
    · intro x3 h4
      apply invalidated_kept
      assumption
    · assumption
  · assumption

theorem execInvalidate_kept {base : Device} {y0} {domain} {copy} {fp} {s : State} (hs : Kept base s.dev) :
    KeptB base (execInvalidate y0 domain copy fp s) := by
  unfold execInvalidate
  apply next_keptB
  · intro x1 h2
    apply acceptFrame_kept
    · intro x3 h4
      apply ackInvalidates_kept
      refine Kept.mk_eq rfl rfl rfl rfl rfl rfl rfl rfl ?_
      assumption
    · assumption
  · assumption

theorem located_kept {base : Device} {r} {cmd} {domain} {fp} {copy} {m} {d : Device} (hd : Kept base d) :
    Kept base (located r cmd domain fp copy m d) := by
  unfold located
  lift_lets
  intro v1
  have h2 : Kept base v1 := by
    unfold v1
    apply dropReq_kept
    assumption
  clear_value v1
  intro v3
  clear_value v3
  intro v4
  clear_value v4
  intro v5
  have h6 : Kept base v5 := by
    unfold v5
    refine Kept.mk_eq rfl rfl rfl rfl rfl rfl rfl rfl ?_
    assumption
  clear_value v5
  split
  · assumption
  · rename_i e7 e8 e9
    split
    · apply secureSorted_kept
      apply onCmd_kept
      assumption
    · split
      · apply failCmd_kept
        assumption
      · split
        · rename_i e10 e11 e12 e13 e14
          apply readOn_kept
          apply putFetch_kept
          assumption
        · assumption

theorem claimReplied_kept {base : Device} {r} {cmd} {item} {chunk} {m} {d : Device} (hd : Kept base d) :
    Kept base (claimReplied r cmd item chunk m d) := by
  unfold claimReplied
  lift_lets
  intro v1
  clear_value v1
  intro v2
  have h3 : Kept base v2 := by
    unfold v2
    split
    · apply dropReq_kept
      assumption
    · assumption
  clear_value v2
  intro v4
  clear_value v4
  split
  · apply settle_kept
    apply claimAnswered_kept
    assumption
  · apply releaseClaim_kept
    apply dropReq_kept
    assumption

theorem fpReplied_kept {base : Device} {m} {d : Device} (hd : Kept base d) :
    Kept base (fpReplied m d) := by
  unfold fpReplied
  split
  · assumption
  · rename_i e1 e2 e3
    split
    · apply claimReplied_kept
      assumption
    · apply settle_kept
      apply located_kept
      assumption
    · apply dropReq_kept
      assumption

theorem execFpReply_kept {base : Device} {y0} {m} {s : State} (hs : Kept base s.dev) :
    KeptB base (execFpReply y0 m s) := by
  unfold execFpReply
  apply next_keptB
  · intro x1 h2
    apply acceptFrame_kept
    · intro x3 h4
      apply fpReplied_kept
      assumption
    · assumption
  · assumption

theorem execFpRequestLocate_kept {base : Device} {y0} {req} {domain} {fp} {copy} {s : State} (hs : Kept base s.dev) :
    KeptB base (execFpRequestLocate y0 req domain fp copy s) := by
  unfold execFpRequestLocate
  apply next_keptB
  · intro x1 h2
    apply acceptFrame_kept
    · intro x3 h4
      split
      · rename_i e5 e6 e7
        apply sendLink_kept
        assumption
      · apply sendLink_kept
        assumption
    · assumption
  · assumption

theorem execFpRequestPresent_kept {base : Device} {y0} {req} {m} {s : State} (hs : Kept base s.dev) :
    KeptB base (execFpRequestPresent y0 req m s) := by
  unfold execFpRequestPresent
  apply next_keptB
  · intro x1 h2
    apply acceptFrame_kept
    · intro x3 h4
      lift_lets
      intro v5
      have h6 : Kept base v5 := by
        unfold v5
        apply onCopy_kept
        assumption
      clear_value v5
      apply settle_kept
      apply sendLink_kept
      apply presentAt_kept
      assumption
    · assumption
  · assumption

theorem execFpRequestDecrement_kept {base : Device} {y0} {req} {domain} {fp} {copy} {s : State} (hs : Kept base s.dev) :
    KeptB base (execFpRequestDecrement y0 req domain fp copy s) := by
  unfold execFpRequestDecrement
  apply next_keptB
  · intro x1 h2
    apply acceptFrame_kept
    · intro x3 h4
      apply sendLink_kept
      apply decrementAt_kept
      assumption
    · assumption
  · assumption

theorem fpRelease_kept {base : Device} {req} {domain} {fp} {copy} {d : Device} (hd : Kept base d) :
    Kept base (fpRelease req domain fp copy d) := by
  unfold fpRelease
  lift_lets
  intro v1
  have h2 : Kept base v1 := by
    unfold v1
    split
    · split
      · rename_i e3 e4 e5 e6
        apply releaseAt_kept
        assumption
      · assumption
    · apply releaseAt_kept
      assumption
  clear_value v1
  apply settle_kept
  apply sendLink_kept
  assumption

theorem execFpRequestClaimRelease_kept {base : Device} {y0} {req} {domain} {fp} {copy} {s : State} (hs : Kept base s.dev) :
    KeptB base (execFpRequestClaimRelease y0 req domain fp copy s) := by
  unfold execFpRequestClaimRelease
  apply next_keptB
  · intro x1 h2
    apply acceptFrame_kept
    · intro x3 h4
      apply fpRelease_kept
      assumption
    · assumption
  · assumption

theorem execFpRequestClaim_kept {base : Device} {y0} {req} {domain} {fp} {s : State} (hs : Kept base s.dev) :
    KeptB base (execFpRequestClaim y0 req domain fp s) := by
  unfold execFpRequestClaim
  apply next_keptB
  · intro x1 h2
    apply acceptFrame_kept
    · intro x3 h4
      lift_lets
      intro v5
      have h6 : KeptP base v5 := by
        unfold v5
        apply claimAt_kept
        assumption
      clear_value v5
      intro v7
      clear_value v7
      apply sendLink_kept
      apply KeptP.snd
      assumption
    · assumption
  · assumption

theorem mirrorReleased_kept {base : Device} {writes} {d : Device} (hd : Kept base d) :
    Kept base (mirrorReleased writes d) := by
  unfold mirrorReleased
  lift_lets
  intro v1
  clear_value v1
  intro v2 v3
  clear_value v3
  intro v4
  clear_value v4
  refine Kept.mk_eq rfl rfl rfl rfl rfl rfl rfl rfl ?_
  assumption

theorem execMirrorRelease_kept {base : Device} {y0} {writes} {s : State} (hs : Kept base s.dev) :
    KeptB base (execMirrorRelease y0 writes s) := by
  unfold execMirrorRelease
  apply next_keptB
  · intro x1 h2
    apply acceptFrame_kept
    · intro x3 h4
      apply mirrorReleased_kept
      assumption
    · assumption
  · assumption

theorem mirrorAcked_kept {base : Device} {w} {n} {d : Device} (hd : Kept base d) :
    Kept base (mirrorAcked w n d) := by
  unfold mirrorAcked
  lift_lets
  intro v1
  clear_value v1
  intro v2
  clear_value v2
  intro v3
  have h4 : Kept base v3 := by
    unfold v3
    refine Kept.mk_eq rfl rfl rfl rfl rfl rfl rfl rfl ?_
    assumption
  clear_value v3
  intro v5
  clear_value v5
  intro v6
  clear_value v6
  intro v7
  have h8 : Kept base v7 := by
    unfold v7
    split
    · apply setCond_kept
      refine Kept.mk_eq rfl rfl rfl rfl rfl rfl rfl rfl ?_
      assumption
    · assumption
  clear_value v7
  split
  · assumption
  · rename_i e9 e10 e11
    apply settle_kept
    apply Kept.foldl
    · intro x12 x13 h14
      apply markPresent_kept
      assumption
    · assumption

theorem execMirrorAck_kept {base : Device} {y0} {write} {records} {s : State} (hs : Kept base s.dev) :
    KeptB base (execMirrorAck y0 write records s) := by
  unfold execMirrorAck
  apply next_keptB
  · intro x1 h2
    apply acceptFrame_kept
    · intro x3 h4
      apply mirrorAcked_kept
      assumption
    · assumption
  · assumption

theorem lockReplied_kept {base : Device} {f} {full} {d : Device} (hd : Kept base d) :
    Kept base (lockReplied f full d) := by
  unfold lockReplied
  split
  · lift_lets
    intro v1
    clear_value v1
    intro v2
    have h3 : Kept base v2 := by
      unfold v2
      apply Kept.foldl
      · intro x4 x5 h6
        lift_lets
        intro v7
        clear_value v7
        apply Kept.foldl
        · intro x8 x9 h10
          split
          · assumption
          · apply odBump_kept
            apply onQueue_kept
            assumption
        · assumption
      · assumption
    clear_value v2
    intro v11
    clear_value v11
    refine Kept.mk_eq rfl rfl rfl rfl rfl rfl rfl rfl ?_
    assumption
  · refine Kept.mk_eq rfl rfl rfl rfl rfl rfl rfl rfl ?_
    assumption

theorem execLockReply_kept {base : Device} {y0} {fwd} {full} {s : State} (hs : Kept base s.dev) :
    KeptB base (execLockReply y0 fwd full s) := by
  unfold execLockReply
  apply next_keptB
  · intro x1 h2
    apply acceptFrame_kept
    · intro x3 h4
      apply lockReplied_kept
      assumption
    · assumption
  · assumption

theorem reserveLocks_kept {base : Device} {f} {ids} {d : Device} (hd : Kept base d) :
    Kept base (reserveLocks f ids d) := by
  unfold reserveLocks
  split
  · apply setLocks_kept
    assumption
  · split
    · apply sendLink_kept
      assumption
    · apply sendLink_kept
      apply setLocks_kept
      assumption

theorem execLockReserve_kept {base : Device} {y0} {fwd} {idents} {s : State} (hs : Kept base s.dev) :
    KeptB base (execLockReserve y0 fwd idents s) := by
  unfold execLockReserve
  apply next_keptB
  · intro x1 h2
    apply acceptFrame_kept
    · intro x3 h4
      apply reserveLocks_kept
      assumption
    · assumption
  · assumption

theorem shareWord_kept {base : Device} {c} {m} {d : Device} (hd : Kept base d) :
    Kept base (shareWord c m d) := by
  unfold shareWord
  split
  · split
    · apply removeCmd_kept
      assumption
    · assumption
  · split
    · lift_lets
      intro v1
      clear_value v1
      intro v2
      clear_value v2
      intro v3
      clear_value v3
      intro v4
      have h5 : Kept base v4 := by
        unfold v4
        split
        · refine Kept.mk_eq rfl rfl rfl rfl rfl rfl rfl rfl ?_
          assumption
        · assumption
      clear_value v4
      apply onCmd_kept
      assumption
    · apply removeCmd_kept
      apply Kept.foldl
      · intro x6 x7 h8
        apply discardItem_kept
        assumption
      · assumption

theorem partDone_kept {base : Device} {part} {p} {m} {d : Device} (hd : Kept base d) :
    Kept base (partDone part p m d) := by
  unfold partDone
  lift_lets
  intro v1
  clear_value v1
  intro v2
  have h3 : Kept base v2 := by
    unfold v2
    apply onCmd_kept
    assumption
  clear_value v2
  intro v4
  have h5 : Kept base v4 := by
    unfold v4
    split
    · apply removeCmd_kept
      assumption
    · apply onCmd_kept
      assumption
  clear_value v4
  intro v6
  have h7 : Kept base v6 := by
    unfold v6
    apply onCmd_kept
    assumption
  clear_value v6
  split
  · split
    · assumption
    · rename_i e8 e9 e10 e11
      split
      · apply askLocks_kept
        assumption
      · split
        · apply endFailed_kept
          assumption
        · assumption
  · split
    · split
      · apply failCmd_kept
        assumption
      · apply askLocks_kept
        apply onCmd_kept
        assumption
    · split
      · apply failCmd_kept
        assumption
      · apply rangeNext_kept
        apply onCmd_kept
        assumption

theorem secureSlot_kept {base : Device} {c} {f} {d : Device} (hd : Kept base d) :
    Kept base (secureSlot c f d) := by
  unfold secureSlot
  split
  · rename_i e1 e2 e3
    apply tellTick_kept
    apply onCmd_kept
    apply KeptP.snd
    refine KeptOP.pair e3 ?_
    apply takeSlot_kept
    assumption
  · lift_lets
    intro v4
    clear_value v4
    apply failCmd_kept
    apply sendLink_kept
    assumption

theorem forwardDone_kept {base : Device} {c} {m} {d : Device} (hd : Kept base d) :
    Kept base (forwardDone c m d) := by
  unfold forwardDone
  lift_lets
  intro v1
  clear_value v1
  intro v2
  clear_value v2
  intro v3
  have h4 : Kept base v3 := by
    unfold v3
    apply onCmd_kept
    assumption
  clear_value v3
  split
  · apply secureSlot_kept
    assumption
  · split
    · rename_i e5 e6 e7 e8
      split
      · apply secureDone_kept
        assumption
      · apply failCmd_kept
        assumption
    · apply doneCmd_kept
      assumption

theorem fwdCompletion_kept {base : Device} {m} {d : Device} (hd : Kept base d) :
    Kept base (fwdCompletion m d) := by
  unfold fwdCompletion
  split
  · split
    · assumption
    · rename_i e1 e2 e3 e4
      split
      · apply settle_kept
        apply forwardDone_kept
        assumption
      · rename_i e5 e6 e7
        split
        · rename_i e8 e9 e10
          apply settle_kept
          apply partDone_kept
          assumption
        · apply removeCmd_kept
          assumption
  · split
    · rename_i e11 e12 e13 e14
      apply settle_kept
      apply shareWord_kept
      assumption
    · assumption

theorem execFwdCompletion_kept {base : Device} {y0} {m} {s : State} (hs : Kept base s.dev) :
    KeptB base (execFwdCompletion y0 m s) := by
  unfold execFwdCompletion
  apply next_keptB
  · intro x1 h2
    apply acceptFrame_kept
    · intro x3 h4
      apply fwdCompletion_kept
      assumption
    · assumption
  · assumption

theorem fwdData_kept {base : Device} {f} {off} {data} {d : Device} (hd : Kept base d) :
    Kept base (fwdData f off data d) := by
  unfold fwdData
  split
  · split
    · rename_i e1 e2 e3 e4
      apply onCmd_kept
      assumption
    · assumption
  · split
    · rename_i e5 e6 e7 e8
      split
      · split
        · apply settle_kept
          apply removeKeys_kept
          assumption
        · assumption
      · lift_lets
        intro v9
        clear_value v9
        apply settle_kept
        apply onCmd_kept
        assumption
    · assumption

theorem execFwdData_kept {base : Device} {y0} {fwd} {off} {data} {s : State} (hs : Kept base s.dev) :
    KeptB base (execFwdData y0 fwd off data s) := by
  unfold execFwdData
  apply next_keptB
  · intro x1 h2
    apply acceptFrame_kept
    · intro x3 h4
      apply fwdData_kept
      assumption
    · assumption
  · assumption

theorem fwdCmd_kept {base : Device} {m} {d : Device} (hd : Kept base d) :
    Kept base (fwdCmd m d) := by
  unfold fwdCmd
  split
  · assumption
  · lift_lets
    intro v1
    have h2 : Kept base v1 := by
      unfold v1
      apply ioActivity_kept
      apply odBump_kept
      assumption
    clear_value v1
    intro v3
    have h4 : KeptP base v3 := by
      unfold v3
      apply addCmd_kept
      assumption
    clear_value v3
    apply settle_kept
    apply setLocks_kept
    apply KeptP.snd
    assumption

/-! ## Time -/

theorem refreshRanks_kept {base : Device} {d : Device} (hd : Kept base d) :
    Kept base (refreshRanks d) := by
  unfold refreshRanks
  split
  · lift_lets
    intro v1
    clear_value v1
    intro v2 v3
    have h4 : Kept base v3 := by
      unfold v3
      refine Kept.mk_eq rfl rfl rfl rfl rfl rfl rfl rfl ?_
      assumption
    clear_value v3
    split
    · apply logEvent_kept
      assumption
    · assumption
  · split
    · refine Kept.mk_eq rfl rfl rfl rfl rfl rfl rfl rfl ?_
      assumption
    · lift_lets
      intro v5
      clear_value v5
      intro v6
      clear_value v6
      intro v7 v8
      refine Kept.mk_eq rfl rfl rfl rfl rfl rfl rfl rfl ?_
      assumption

theorem refreshLinkCond_kept {base : Device} {d : Device} (hd : Kept base d) :
    Kept base (refreshLinkCond d) := by
  unfold refreshLinkCond
  apply setCond_kept
  assumption

theorem cancelCuts_kept {base : Device} {d : Device} (hd : Kept base d) :
    Kept base (cancelCuts d) := by
  unfold cancelCuts
  lift_lets
  intro v1
  clear_value v1
  intro v2 v3
  clear_value v3
  intro v4
  have h5 : Kept base v4 := by
    unfold v4
    apply Kept.foldl
    · intro x6 x7 h8
      apply logEvent_kept
      assumption
    · assumption
  clear_value v4
  split
  · assumption
  · apply endCuts_kept
    assumption

theorem refreshTimeLock_kept {base : Device} {d : Device} (hd : Kept base d) :
    Kept base (refreshTimeLock d) := by
  unfold refreshTimeLock
  lift_lets
  intro v1
  clear_value v1
  intro v2
  have h3 : Kept base v2 := by
    unfold v2
    apply setCond_kept
    assumption
  clear_value v2
  split
  · assumption
  · apply cancelCuts_kept
    assumption

theorem setLeader_kept {base : Device} {side} {d : Device} (hd : Kept base d) :
    Kept base (setLeader side d) := by
  unfold setLeader
  split
  · apply refreshRanks_kept
    refine Kept.mk_eq rfl rfl rfl rfl rfl rfl rfl rfl ?_
    assumption
  · apply refreshTimeLock_kept
    apply refreshRanks_kept
    apply logEvent_kept
    refine Kept.mk_eq rfl rfl rfl rfl rfl rfl rfl rfl ?_
    assumption

theorem leaderAtMeeting_kept {base : Device} {peerRank} {d : Device} (hd : Kept base d) :
    Kept base (leaderAtMeeting peerRank d) := by
  unfold leaderAtMeeting
  lift_lets
  intro v1 v2
  have h3 : Kept base v2 := by
    unfold v2
    refine Kept.mk_eq rfl rfl rfl rfl rfl rfl rfl rfl ?_
    assumption
  clear_value v2
  intro v4
  clear_value v4
  apply setLeader_kept
  assumption

theorem setTimeState_kept {base : Device} {st} {d : Device} (hd : Kept base d) :
    Kept base (setTimeState st d) := by
  unfold setTimeState
  split
  · apply refreshTimeLock_kept
    assumption
  · lift_lets
    intro v1
    clear_value v1
    intro v2 v3
    have h4 : Kept base v3 := by
      unfold v3
      refine Kept.mk_eq rfl rfl rfl rfl rfl rfl rfl rfl ?_
      assumption
    clear_value v3
    intro v5
    have h6 : Kept base v5 := by
      unfold v5
      apply logEvent_kept
      assumption
    clear_value v5
    apply refreshTimeLock_kept
    apply refreshRanks_kept
    assumption

theorem establish_kept {base : Device} {counter} {st} {d : Device} (hd : Kept base d) :
    Kept base (establish counter st d) := by
  unfold establish
  apply setTimeState_kept
  refine Kept.mk_eq rfl rfl rfl rfl rfl rfl rfl rfl ?_
  assumption

theorem epochAbsent_kept {base d : Device} (h : Kept base d) :
    Kept base (refreshTimeLock { d with time := { d.time with epochAbsent := true, peerOffKnown := false } }) :=
  refreshTimeLock_kept (Kept.mk_eq rfl rfl rfl rfl rfl rfl rfl rfl h)

theorem execEpochInLoss_kept {base : Device} {s : State} (hs : Kept base s.dev) :
    KeptB base (execEpochInLoss s) := by
  unfold execEpochInLoss
  refine next_keptB (fun {d} h => ?_) hs
  split
  · exact h
  · exact epochAbsent_kept (waitUntil_kept h)

theorem takePeerOffset_kept {base : Device} {off} {viaLink} {d : Device} (hd : Kept base d) :
    Kept base (takePeerOffset off viaLink d) := by
  unfold takePeerOffset
  lift_lets
  intro v1
  clear_value v1
  intro v2
  clear_value v2
  intro v3 v4
  have h5 : Kept base v4 := by
    unfold v4
    refine Kept.mk_eq rfl rfl rfl rfl rfl rfl rfl rfl ?_
    assumption
  clear_value v4
  intro v6
  have h7 : Kept base v6 := by
    unfold v6
    split
    · apply logEvent_kept
      assumption
    · assumption
  clear_value v6
  intro v8
  clear_value v8
  intro v9
  have h10 : Kept base v9 := by
    unfold v9
    split
    · refine Kept.mk_eq rfl rfl rfl rfl rfl rfl rfl rfl ?_
      assumption
    · assumption
  clear_value v9
  apply refreshTimeLock_kept
  assumption

theorem epochEdge_kept {base : Device} {frac} {d : Device} (hd : Kept base d) :
    Kept base (epochEdge frac d) := by
  unfold epochEdge
  lift_lets
  intro v1
  clear_value v1
  intro v2
  clear_value v2
  intro v3
  clear_value v3
  intro v4 v5
  have h6 : Kept base v5 := by
    unfold v5
    refine Kept.mk_eq rfl rfl rfl rfl rfl rfl rfl rfl ?_
    assumption
  clear_value v5
  intro v7
  split
  · split
    · assumption
    · split
      · split
        · refine Kept.mk_eq rfl rfl rfl rfl rfl rfl rfl rfl ?_
          assumption
        · assumption
      · apply takePeerOffset_kept
        assumption
  · assumption

theorem execEpochInEdge_kept {base : Device} {frac} {s : State} (hs : Kept base s.dev) :
    KeptB base (execEpochInEdge frac s) := by
  unfold execEpochInEdge
  apply next_keptB
  · intro x1 h2
    apply epochEdge_kept
    assumption
  · assumption

theorem execEpochOutPulse_kept {base : Device} {s : State} (hs : Kept base s.dev) :
    KeptB base (execEpochOutPulse s) := by
  unfold execEpochOutPulse
  apply next_keptB
  · intro x1 h2
    split
    · apply waitTick_kept
      assumption
    · assumption
  · assumption

theorem execTimeLeaderChange_kept {base : Device} {s : State} (hs : Kept base s.dev) :
    KeptB base (execTimeLeaderChange s) := by
  unfold execTimeLeaderChange
  apply next_keptB
  · intro x1 h2
    split
    · assumption
    · rename_i e3 e4 e5
      apply setLeader_kept
      apply waitUntil_kept
      assumption
  · assumption

theorem selectMaster_kept {base : Device} {d : Device} (hd : Kept base d) :
    Kept base (selectMaster d) := by
  unfold selectMaster
  split
  · rename_i e1 e2 e3
    lift_lets
    intro v4
    clear_value v4
    intro v5 v6
    have h7 : Kept base v6 := by
      unfold v6
      refine Kept.mk_eq rfl rfl rfl rfl rfl rfl rfl rfl ?_
      assumption
    clear_value v6
    split
    · apply setTimeState_kept
      assumption
    · assumption
  · lift_lets
    intro v8 v9
    have h10 : Kept base v9 := by
      unfold v9
      refine Kept.mk_eq rfl rfl rfl rfl rfl rfl rfl rfl ?_
      assumption
    clear_value v9
    split
    · apply setTimeState_kept
      assumption
    · assumption

theorem execHoldoverLimitExpiry_kept {base : Device} {s : State} (hs : Kept base s.dev) :
    KeptB base (execHoldoverLimitExpiry s) := by
  unfold execHoldoverLimitExpiry
  apply next_keptB
  · intro x1 h2
    split
    · lift_lets
      intro v3
      have h4 : Kept base v3 := by
        unfold v3
        apply setTimeState_kept
        apply waitUntil_kept
        assumption
      clear_value v3
      apply selectMaster_kept
      assumption
    · assumption
  · assumption

theorem announceTimeout_kept {base : Device} {d : Device} (hd : Kept base d) :
    Kept base (announceTimeout d) := by
  unfold announceTimeout
  split
  · assumption
  · rename_i e1 e2 e3
    lift_lets
    intro v4
    have h5 : Kept base v4 := by
      unfold v4
      apply waitUntil_kept
      assumption
    clear_value v4
    intro v6 v7
    have h8 : Kept base v7 := by
      unfold v7
      refine Kept.mk_eq rfl rfl rfl rfl rfl rfl rfl rfl ?_
      assumption
    clear_value v7
    intro v9
    have h10 : Kept base v9 := by
      unfold v9
      split
      · apply setTimeState_kept
        assumption
      · assumption
    clear_value v9
    apply selectMaster_kept
    assumption

theorem execAnnounceReceiptTimeout_kept {base : Device} {s : State} (hs : Kept base s.dev) :
    KeptB base (execAnnounceReceiptTimeout s) := by
  unfold execAnnounceReceiptTimeout
  apply next_keptB
  · intro x1 h2
    apply announceTimeout_kept
    assumption
  · assumption

theorem execPtpDelayReqSend_kept {base : Device} {s : State} (hs : Kept base s.dev) :
    KeptB base (execPtpDelayReqSend s) := by
  unfold execPtpDelayReqSend
  apply next_keptB
  · intro x1 h2
    split
    · assumption
    · lift_lets
      intro v3
      clear_value v3
      intro v4
      have h5 : Kept base v4 := by
        unfold v4
        split
        · apply sendOn_kept
          assumption
        · assumption
      clear_value v4
      intro v6
      refine Kept.mk_eq rfl rfl rfl rfl rfl rfl rfl rfl ?_
      assumption
  · assumption

theorem execPtpDelayResp_kept {base : Device} {port} {master} {received} {s : State} (hs : Kept base s.dev) :
    KeptB base (execPtpDelayResp port master received s) := by
  unfold execPtpDelayResp
  apply next_keptB
  · intro x1 h2
    lift_lets
    intro v3
    have h4 : Kept base v3 := by
      unfold v3
      split
      · apply ownFrame_kept
        assumption
      · assumption
    clear_value v3
    intro v5
    split
    · assumption
    · rename_i e6 e7 e8
      lift_lets
      intro v9
      clear_value v9
      split
      · assumption
      · refine Kept.mk_eq rfl rfl rfl rfl rfl rfl rfl rfl ?_
        assumption
  · assumption

theorem announceReceive_kept {base : Device} {m} {d : Device} (hd : Kept base d) :
    Kept base (announceReceive m d) := by
  unfold announceReceive
  lift_lets
  intro v1
  have h2 : Kept base v1 := by
    unfold v1
    split
    · apply ownFrame_kept
      assumption
    · assumption
  clear_value v1
  intro v3
  clear_value v3
  intro v4
  clear_value v4
  intro v5 v6
  have h7 : Kept base v6 := by
    unfold v6
    apply selectMaster_kept
    refine Kept.mk_eq rfl rfl rfl rfl rfl rfl rfl rfl ?_
    assumption
  clear_value v6
  intro v8
  split
  · assumption
  · split
    · refine Kept.mk_eq rfl rfl rfl rfl rfl rfl rfl rfl ?_
      assumption
    · assumption

theorem execPtpAnnounce_kept {base : Device} {m} {s : State} (hs : Kept base s.dev) :
    KeptB base (execPtpAnnounce m s) := by
  unfold execPtpAnnounce
  apply next_keptB
  · intro x1 h2
    apply announceReceive_kept
    assumption
  · assumption

theorem rejectMaster_kept {base : Device} {ident} {d : Device} (hd : Kept base d) :
    Kept base (rejectMaster ident d) := by
  unfold rejectMaster
  lift_lets
  intro v1 v2
  have h3 : Kept base v2 := by
    unfold v2
    refine Kept.mk_eq rfl rfl rfl rfl rfl rfl rfl rfl ?_
    assumption
  clear_value v2
  apply selectMaster_kept
  apply logEvent_kept
  apply odBump_kept
  assumption

theorem syncUnset_kept {base : Device} {m} {off} {d : Device} (hd : Kept base d) :
    Kept base (syncUnset m off d) := by
  unfold syncUnset
  lift_lets
  intro v1
  clear_value v1
  intro v2 v3
  have h4 : Kept base v3 := by
    unfold v3
    refine Kept.mk_eq rfl rfl rfl rfl rfl rfl rfl rfl ?_
    assumption
  clear_value v3
  split
  · assumption
  · split
    · apply rejectMaster_kept
      assumption
    · apply establish_kept
      assumption

theorem syncServo_kept {base : Device} {off} {d : Device} (hd : Kept base d) :
    Kept base (syncServo off d) := by
  unfold syncServo
  lift_lets
  intro v1
  clear_value v1
  intro v2
  clear_value v2
  intro v3 v4
  have h5 : Kept base v4 := by
    unfold v4
    refine Kept.mk_eq rfl rfl rfl rfl rfl rfl rfl rfl ?_
    assumption
  clear_value v4
  intro v6
  clear_value v6
  intro v7
  clear_value v7
  intro v8 v9
  have h10 : Kept base v9 := by
    unfold v9
    refine Kept.mk_eq rfl rfl rfl rfl rfl rfl rfl rfl ?_
    assumption
  clear_value v9
  split
  · split
    · apply setTimeState_kept
      assumption
    · assumption
  · split
    · apply setTimeState_kept
      assumption
    · assumption
  · split
    · apply setTimeState_kept
      assumption
    · assumption
  · assumption

theorem syncSet_kept {base : Device} {m} {off} {d : Device} (hd : Kept base d) :
    Kept base (syncSet m off d) := by
  unfold syncSet
  split
  · apply syncServo_kept
    assumption
  · split
    · split
      · assumption
      · apply placePaired_kept
        assumption
    · apply rejectMaster_kept
      assumption

theorem readmitMaster_kept {base : Device} {m} {off} {d : Device} (hd : Kept base d) :
    Kept base (readmitMaster m off d) := by
  unfold readmitMaster
  lift_lets
  intro v1
  clear_value v1
  intro v2
  split
  · assumption
  · apply selectMaster_kept
    refine Kept.mk_eq rfl rfl rfl rfl rfl rfl rfl rfl ?_
    assumption

theorem syncReceive_kept {base : Device} {m} {d : Device} (hd : Kept base d) :
    Kept base (syncReceive m d) := by
  unfold syncReceive
  lift_lets
  intro v1
  have h2 : Kept base v1 := by
    unfold v1
    split
    · apply ownFrame_kept
      assumption
    · assumption
  clear_value v1
  intro v3
  clear_value v3
  intro v4 v5
  have h6 : Kept base v5 := by
    unfold v5
    refine Kept.mk_eq rfl rfl rfl rfl rfl rfl rfl rfl ?_
    assumption
  clear_value v5
  split
  · assumption
  · split
    · apply readmitMaster_kept
      assumption
    · split
      · apply syncSet_kept
        assumption
      · apply syncUnset_kept
        assumption

end Sys2Proof.Machine
end

