-- ==== Sys2Proof/Laws/KeptE.lean ====
section
/-! SUPPORT. What no operation of Snap, Journal, Sequencer, EngUnits takes back: `Kept` through each. -/

namespace Sys2Proof.Machine

/-! ## Snap -/

theorem settleCreates_kept {base : Device} {d : Device} (hd : Kept base d) :
    Kept base (settleCreates d) := by
  unfold settleCreates
  lift_lets
  intro v1
  clear_value v1
  apply Kept.foldl
  · intro x2 x3 h4
    lift_lets
    intro v5
    have h6 : Kept base v5 := by
      unfold v5
      apply odBump_kept
      refine Kept.mk_eq rfl rfl rfl rfl rfl rfl rfl rfl ?_
      assumption
    clear_value v5
    intro v7
    split
    · assumption
    · split
      · apply complete_kept
        assumption
      · apply complete_kept
        assumption
  · assumption

theorem freeSnapshot_kept {base : Device} {n} {d : Device} (hd : Kept base d) :
    Kept base (freeSnapshot n d) := by
  unfold freeSnapshot
  apply bumpVersion_kept
  refine Kept.mk_eq rfl rfl rfl rfl rfl rfl rfl rfl ?_
  assumption

theorem onSnap_kept {base : Device} {n} {f} {d : Device} (hd : Kept base d) :
    Kept base (onSnap n f d) := by
  unfold onSnap
  apply bumpVersion_kept
  refine Kept.mk_eq rfl rfl rfl rfl rfl rfl rfl rfl ?_
  assumption

theorem liveSnapshot_kept {base : Device} {n} {d : Device} (hd : Kept base d) :
    Kept base (liveSnapshot n d) := by
  unfold liveSnapshot
  split
  · assumption
  · rename_i e1 e2 e3
    split
    · assumption
    · apply logEvent_kept
      apply onSnap_kept
      assumption

theorem snapRecord_kept {base : Device} {s} {st} {d : Device} (hd : Kept base d) :
    Kept base (snapRecord s st d) := by
  unfold snapRecord
  apply journalRecord_kept
  assumption

theorem onSession_kept {base : Device} {n} {f} {d : Device} (hd : Kept base d) :
    Kept base (onSession n f d) := by
  unfold onSession
  refine Kept.mk_eq rfl rfl rfl rfl rfl rfl rfl rfl ?_
  assumption

theorem rewindSession_kept {base : Device} {n} {d : Device} (hd : Kept base d) :
    Kept base (rewindSession n d) := by
  unfold rewindSession
  apply onSession_kept
  assumption

theorem sessionTo_kept {base : Device} {n} {st} {d : Device} (hd : Kept base d) :
    Kept base (sessionTo n st d) := by
  unfold sessionTo
  split
  · assumption
  · apply logEvent_kept
    apply onSession_kept
    assumption

theorem remoteLoss_kept {base : Device} {n} {d : Device} (hd : Kept base d) :
    Kept base (remoteLoss n d) := by
  unfold remoteLoss
  lift_lets
  intro v1
  clear_value v1
  split
  · assumption
  · apply sessionTo_kept
    apply onSession_kept
    apply rewindSession_kept
    assumption

theorem armSnaps_kept {base : Device} {nss} {minutes} {session} {mk} {d : Device} (hd : Kept base d) :
    Kept base (armSnaps nss minutes session mk d) := by
  unfold armSnaps
  lift_lets
  intro v1
  clear_value v1
  intro v2
  clear_value v2
  intro v3
  clear_value v3
  intro v4
  clear_value v4
  intro v5
  clear_value v5
  intro v6
  have h7 : Kept base v6 := by
    unfold v6
    apply bumpVersion_kept
    refine Kept.mk_eq rfl rfl rfl rfl rfl rfl rfl rfl ?_
    assumption
  clear_value v6
  apply Kept.foldl
  · intro x8 x9 h10
    apply placePaired_kept
    assumption
  · assumption

theorem deleteSnapshot_kept {base : Device} {n} {d : Device} (hd : Kept base d) :
    Kept base (deleteSnapshot n d) := by
  unfold deleteSnapshot
  split
  · assumption
  · rename_i e1 e2 e3
    apply snapRecord_kept
    apply onSnap_kept
    assumption

theorem giveUpSnapshot_kept {base : Device} {n} {d : Device} (hd : Kept base d) :
    Kept base (giveUpSnapshot n d) := by
  unfold giveUpSnapshot
  split
  · assumption
  · split
    · apply deleteSnapshot_kept
      assumption
    · apply onSnap_kept
      assumption

theorem mirrorSnap_kept {base : Device} {n} {st} {ns} {cut} {expiry} {d : Device} (hd : Kept base d) :
    Kept base (mirrorSnap n st ns cut expiry d) := by
  unfold mirrorSnap
  split
  · rename_i e1 e2 e3 e4
    split
    · lift_lets
      intro v5
      have h6 : Kept base v5 := by
        unfold v5
        apply onSnap_kept
        assumption
      clear_value v5
      apply snapRecord_kept
      assumption
    · assumption
  · lift_lets
    intro v7
    clear_value v7
    intro v8
    clear_value v8
    apply snapRecord_kept
    apply bumpVersion_kept
    refine Kept.mk_eq rfl rfl rfl rfl rfl rfl rfl rfl ?_
    assumption
  · rename_i e9 e10 e11 e12
    split
    · apply onSnap_kept
      assumption
    · assumption
  · assumption

theorem adoptSessions_kept {base : Device} {d : Device} (hd : Kept base d) :
    Kept base (adoptSessions d) := by
  unfold adoptSessions
  apply Kept.foldl
  · intro x1 x2 h3
    split
    · assumption
    · split
      · apply sessionTo_kept
        assumption
      · apply sessionTo_kept
        apply rewindSession_kept
        apply onSession_kept
        assumption
  · assumption

theorem returnSessions_kept {base : Device} {d : Device} (hd : Kept base d) :
    Kept base (returnSessions d) := by
  unfold returnSessions
  apply Kept.foldl
  · intro x1 x2 h3
    split
    · assumption
    · apply sessionTo_kept
      apply rewindSession_kept
      assumption
  · assumption

theorem cutSnapshot_kept {base : Device} {n} {d : Device} (hd : Kept base d) :
    Kept base (cutSnapshot n d) := by
  unfold cutSnapshot
  apply onSnap_kept
  assumption

theorem writeLive_kept {base : Device} {d : Device} (hd : Kept base d) :
    Kept base (writeLive d) := by
  unfold writeLive
  apply Kept.foldl
  · intro x1 x2 h3
    apply onSnap_kept
    apply snapRecord_kept
    assumption
  · assumption

theorem endSnapshot_kept {base : Device} {s} {d : Device} (hd : Kept base d) :
    Kept base (endSnapshot s d) := by
  unfold endSnapshot
  lift_lets
  intro v1
  have h2 : Kept base v1 := by
    unfold v1
    apply onSnap_kept
    assumption
  clear_value v1
  intro v3
  have h4 : Kept base v3 := by
    unfold v3
    apply Kept.foldl
    · intro x5 x6 h7
      apply settleKey_kept
      assumption
    · assumption
  clear_value v3
  apply logEvent_kept
  apply odBump_kept
  apply snapRecord_kept
  assumption

theorem boundarySnaps_kept {base : Device} {t} {d : Device} (hd : Kept base d) :
    Kept base (boundarySnaps t d) := by
  unfold boundarySnaps
  split
  · assumption
  · lift_lets
    intro v1
    clear_value v1
    intro v2
    have h3 : Kept base v2 := by
      unfold v2
      apply Kept.foldl
      · intro x4 x5 h6
        apply endSnapshot_kept
        assumption
      · assumption
    clear_value v2
    intro v7
    apply Kept.foldl
    · intro x8 x9 h10
      apply onSnap_kept
      apply deleteSnapshot_kept
      assumption
    · assumption

theorem snapshotDelete_kept {base : Device} {q} {c} {d : Device} (hd : Kept base d) :
    Kept base (snapshotDelete q c d) := by
  unfold snapshotDelete
  lift_lets
  intro v1
  clear_value v1
  split
  · apply completeSt_kept
    assumption
  · rename_i e2 e3 e4
    split
    · apply completeSt_kept
      assumption
    · split
      · apply completeSt_kept
        assumption
      · apply completeSt_kept
        apply deleteSnapshot_kept
        assumption

theorem snapshotCreate_kept {base : Device} {q} {c} {d : Device} (hd : Kept base d) :
    Kept base (snapshotCreate q c d) := by
  unfold snapshotCreate
  lift_lets
  intro v1
  clear_value v1
  intro v2
  clear_value v2
  intro v3
  clear_value v3
  intro v4
  clear_value v4
  intro v5
  split
  · rename_i e6 e7 e8 e9
    unfold v5
    apply complete_kept
    apply odBump_kept
    assumption
  · split
    · unfold v5
      apply complete_kept
      apply odBump_kept
      assumption
    · apply armSnaps_kept
      assumption

/-! ## Journal -/

theorem noteRing_kept {base : Device} {d : Device} (hd : Kept base d) :
    Kept base (noteRing d) := by
  unfold noteRing
  lift_lets
  intro v1 v2
  clear_value v2
  intro v3
  have h4 : Kept base v3 := by
    unfold v3
    refine Kept.mk_eq rfl rfl rfl rfl rfl rfl rfl rfl ?_
    assumption
  clear_value v3
  split
  · assumption
  · split
    · apply logEvent_kept
      assumption
    · assumption

theorem advanceTail_kept {base : Device} {d : Device} (hd : Kept base d) :
    Kept base (advanceTail d) := by
  unfold advanceTail
  lift_lets
  intro v1 v2
  clear_value v2
  intro v3
  have h4 : Kept base v3 := by
    unfold v3
    refine Kept.mk_eq rfl rfl rfl rfl rfl rfl rfl rfl ?_
    assumption
  clear_value v3
  intro v5
  clear_value v5
  apply noteRing_kept
  refine Kept.mk_eq rfl rfl rfl rfl rfl rfl rfl rfl ?_
  assumption

theorem settleKept_kept {base : Device} {d : Device} (hd : Kept base d) :
    Kept base (settleKept d) := by
  unfold settleKept
  lift_lets
  intro v1 v2 v3 v4
  clear_value v4
  refine Kept.mk_eq rfl rfl rfl rfl rfl rfl rfl rfl ?_
  assumption

theorem noteMarked_kept {base : Device} {d : Device} (hd : Kept base d) :
    Kept base (noteMarked d) := by
  unfold noteMarked
  lift_lets
  intro v1 v2 v3
  refine Kept.mk_eq rfl rfl rfl rfl rfl rfl ?_ rfl ?_
  · exact memories_map fun _ => by repeat' split <;> try rfl
  · assumption

theorem noteDurable_kept {base : Device} {d : Device} {r} (hd : Kept base d) :
    Kept base (noteDurable d r) := by
  unfold noteDurable
  split
  · lift_lets
    intro v1
    clear_value v1
    intro v2
    clear_value v2
    intro v3
    clear_value v3
    intro v4
    clear_value v4
    refine Kept.mk_eq rfl rfl rfl rfl rfl rfl rfl rfl ?_
    assumption
  · refine Kept.mk_eq rfl rfl rfl rfl rfl rfl rfl rfl ?_
    assumption
  · lift_lets
    intro v5
    clear_value v5
    intro v6
    clear_value v6
    refine Kept.mk_eq rfl rfl rfl rfl rfl rfl rfl rfl ?_
    assumption
  · refine Kept.mk_eq rfl rfl rfl rfl rfl rfl rfl rfl ?_
    assumption
  · apply flushReleased_kept
    assumption
  · assumption

theorem renewLimits_kept {base : Device} {d : Device} (hd : Kept base d) :
    Kept base (renewLimits d) := by
  unfold renewLimits
  apply Kept.foldl
  · intro x1 x2 h3
    lift_lets
    intro v4
    have h5 : Kept base v4 := by
      unfold v4
      split
      · assumption
      · apply journalRecord_kept
        assumption
    clear_value v4
    split
    · assumption
    · apply journalRecord_kept
      assumption
  · split
    · assumption
    · apply journalRecord_kept
      assumption

theorem recordDurable_kept {base : Device} {d : Device} {r} (hd : Kept base d) :
    Kept base (recordDurable d r) := by
  unfold recordDurable
  split
  · apply stripeIssueDurable_kept
    apply onStripe_kept
    assumption
  · apply stripeRelease_kept
    apply onStripe_kept
    assumption
  · apply startRebuild_kept
    assumption
  · apply limitDurable_kept
    assumption
  · lift_lets
    intro v1
    clear_value v1
    intro v2
    clear_value v2
    refine Kept.mk_eq rfl rfl rfl rfl rfl rfl rfl rfl ?_
    assumption
  · apply sealDurable_kept
    assumption
  · apply renewLimits_kept
    assumption
  · apply checkpointDurable_kept
    assumption
  · apply liveSnapshot_kept
    assumption
  · apply freeSnapshot_kept
    assumption
  · lift_lets
    intro v3 v4
    clear_value v4
    refine Kept.mk_eq rfl rfl rfl rfl rfl rfl rfl rfl ?_
    assumption
  · assumption

theorem refreshDurable_kept {base : Device} {d : Device} (hd : Kept base d) :
    Kept base (refreshDurable d) := by
  unfold refreshDurable
  lift_lets
  intro v1
  clear_value v1
  intro v2
  clear_value v2
  intro v3
  clear_value v3
  intro v4
  have h5 : Kept base v4 := by
    unfold v4
    refine Kept.mk_eq rfl rfl rfl rfl rfl rfl rfl rfl ?_
    assumption
  clear_value v4
  intro v6
  have h7 : Kept base v6 := by
    unfold v6
    apply Kept.foldl
    · intro x8 x9 h10
      apply recordDurable_kept
      apply noteDurable_kept
      assumption
    · apply noteMarked_kept
      assumption
  clear_value v6
  intro v11
  have h12 : Kept base v11 := by
    unfold v11
    apply settleKept_kept
    assumption
  clear_value v11
  intro v13
  have h14 : Kept base v13 := by
    unfold v13
    apply releaseThrough_kept
    apply releaseWrites_kept
    assumption
  clear_value v13
  split
  · assumption
  · apply settle_kept
    apply settleCreates_kept
    apply issueClosed_kept
    apply advanceTail_kept
    assumption

theorem programCopy_kept {base : Device} {n} {side} {p} {d : Device} (hd : Kept base d) :
    Kept base (programCopy n side p d) := by
  unfold programCopy
  split
  · rename_i e1 e2 e3
    split
    · assumption
    · lift_lets
      intro v4
      have h5 : Kept base v4 := by
        unfold v4
        apply nextWriteSeq_kept
        assumption
      clear_value v4
      apply emit_kept
      assumption
  · assumption

theorem programPage_kept {base : Device} {d : Device} {p} (hd : Kept base d) :
    Kept base (programPage d p) := by
  unfold programPage
  apply Kept.foldl
  · intro x1 x2 h3
    apply programCopy_kept
    assumption
  · assumption

theorem writePages_kept {base : Device} {t} {d : Device} (hd : Kept base d) :
    Kept base (writePages t d) := by
  unfold writePages
  lift_lets
  intro v1
  clear_value v1
  intro v2
  clear_value v2
  intro v3
  clear_value v3
  intro v4
  clear_value v4
  split
  · assumption
  · rename_i e5 e6 e7
    lift_lets
    intro v8
    clear_value v8
    intro v9
    have h10 : Kept base v9 := by
      unfold v9
      refine Kept.mk_eq rfl rfl rfl rfl rfl rfl rfl rfl ?_
      assumption
    clear_value v9
    apply noteRing_kept
    apply sendAll_kept
    apply Kept.foldl
    · intro x11 x12 h13
      apply programPage_kept
      assumption
    · assumption

theorem journalDurable_kept {base : Device} {seq} {d : Device} (hd : Kept base d) :
    Kept base (journalDurable seq d) := by
  unfold journalDurable
  lift_lets
  intro v1
  clear_value v1
  intro v2
  clear_value v2
  apply refreshDurable_kept
  refine Kept.mk_eq rfl rfl rfl rfl rfl rfl rfl rfl ?_
  assumption

theorem execJournalDurable_kept {base : Device} {seq} {s : State} (hs : Kept base s.dev) :
    KeptB base (execJournalDurable seq s) := by
  unfold execJournalDurable
  apply next_keptB
  · intro x1 h2
    apply journalDurable_kept
    assumption
  · assumption

theorem execSlotLimitDurable_kept {base : Device} {slot} {s : State} (hs : Kept base s.dev) :
    KeptB base (execSlotLimitDurable slot s) := by
  unfold execSlotLimitDurable
  apply next_keptB
  · intro x1 h2
    split
    · rename_i e3 e4 e5
      apply settle_kept
      apply limitDurable_kept
      assumption
    · assumption
  · assumption

theorem execJournalResend_kept {base : Device} {y0} {first} {last} {s : State} (hs : Kept base s.dev) :
    KeptB base (execJournalResend y0 first last s) := by
  unfold execJournalResend
  apply next_keptB
  · intro x1 h2
    apply acceptFrame_kept
    · intro x3 h4
      apply sendAll_kept
      assumption
    · assumption
  · assumption

theorem journalAcked_kept {base : Device} {seq} {d : Device} (hd : Kept base d) :
    Kept base (journalAcked seq d) := by
  unfold journalAcked
  lift_lets
  intro v1
  clear_value v1
  intro v2
  clear_value v2
  apply refreshDurable_kept
  refine Kept.mk_eq rfl rfl rfl rfl rfl rfl rfl rfl ?_
  assumption

theorem execJournalAck_kept {base : Device} {y0} {seq} {s : State} (hs : Kept base s.dev) :
    KeptB base (execJournalAck y0 seq s) := by
  unfold execJournalAck
  apply next_keptB
  · intro x1 h2
    apply acceptFrame_kept
    · intro x3 h4
      apply journalAcked_kept
      assumption
    · assumption
  · assumption

theorem mirrorCursor_kept {base : Device} {n} {snap} {tick} {key} {d : Device} (hd : Kept base d) :
    Kept base (mirrorCursor n snap tick key d) := by
  unfold mirrorCursor
  lift_lets
  intro v1 v2
  clear_value v2
  refine Kept.mk_eq rfl rfl rfl rfl rfl rfl rfl rfl ?_
  assumption

theorem mirrorCommit_kept {base : Device} {mseq} {d : Device} (hd : Kept base d) :
    Kept base (mirrorCommit mseq d) := by
  unfold mirrorCommit
  split
  · rename_i e1 e2 e3
    apply settleRemote_kept
    assumption
  · assumption

theorem mirrorLost_kept {base : Device} {id} {bitmap} {d : Device} (hd : Kept base d) :
    Kept base (mirrorLost id bitmap d) := by
  unfold mirrorLost
  lift_lets
  intro v1
  clear_value v1
  intro v2 v3
  clear_value v3
  apply Kept.foldl
  · intro x4 x5 h6
    apply hotRemove_kept
    apply recordCopy_kept
    apply onCopy_kept
    assumption
  · assumption

theorem mirrorMove_kept {base : Device} {dom} {fp} {num} {old} {new} {d : Device} (hd : Kept base d) :
    Kept base (mirrorMove dom fp num old new d) := by
  unfold mirrorMove
  split
  · rename_i e1 e2 e3
    split
    · apply recordCopy_kept
      apply onCopy_kept
      assumption
    · assumption
  · assumption

theorem mirrorDeath_kept {base : Device} {dom} {fp} {num} {d : Device} (hd : Kept base d) :
    Kept base (mirrorDeath dom fp num d) := by
  unfold mirrorDeath
  lift_lets
  intro v1
  have h2 : Kept base v1 := by
    unfold v1
    apply dropCache_kept
    assumption
  clear_value v1
  split
  · rename_i e3 e4 e5
    split
    · assumption
    · apply recordCopy_kept
      apply buryCopy_kept
      assumption
  · assumption

theorem mirrorRecord_kept {base : Device} {d : Device} {r} (hd : Kept base d) :
    Kept base (mirrorRecord d r) := by
  unfold mirrorRecord
  split
  · apply sortMirrored_kept
    split
    · apply mirrorDeath_kept
      assumption
    · assumption
  · apply mirrorMove_kept
    assumption
  · apply mirrorLost_kept
    assumption
  · split
    · assumption
    · apply mirrorCommit_kept
      assumption
  · split
    · assumption
    · apply limitDurable_kept
      assumption
  · apply mirrorSnap_kept
    assumption
  · apply mirrorCursor_kept
    assumption
  · assumption

theorem journalPage_kept {base : Device} {p} {d : Device} (hd : Kept base d) :
    Kept base (journalPage p d) := by
  unfold journalPage
  lift_lets
  intro v1
  clear_value v1
  intro v2
  clear_value v2
  intro v3
  clear_value v3
  intro v4
  clear_value v4
  intro v5
  clear_value v5
  intro v6
  have h7 : Kept base v6 := by
    unfold v6
    refine Kept.mk_eq rfl rfl rfl rfl rfl rfl rfl rfl ?_
    assumption
  clear_value v6
  intro v8
  have h9 : Kept base v8 := by
    unfold v8
    split
    · apply programCopy_kept
      assumption
    · assumption
  clear_value v8
  intro v10
  have h11 : Kept base v10 := by
    unfold v10
    split
    · assumption
    · apply Kept.foldl
      · intro x12 x13 h14
        apply mirrorRecord_kept
        assumption
      · assumption
  clear_value v10
  apply ioActivity_kept
  apply settleCreates_kept
  apply sendLink_kept
  assumption

theorem execJournalPage_kept {base : Device} {y0} {p} {s : State} (hs : Kept base s.dev) :
    KeptB base (execJournalPage y0 p s) := by
  unfold execJournalPage
  apply next_keptB
  · intro x1 h2
    apply acceptFrame_kept
    · intro x3 h4
      apply journalPage_kept
      assumption
    · assumption
  · assumption

theorem commitGroup_kept {base : Device} {t} {d : Device} (hd : Kept base d) :
    Kept base (commitGroup t d) := by
  unfold commitGroup
  apply settle_kept
  apply writePages_kept
  apply boundarySnaps_kept
  apply writeLive_kept
  apply settleSalts_kept
  apply commitWrites_kept
  assumption

/-! ## Sequencer -/

theorem onCtx_kept {base : Device} {e} {f} {d : Device} (hd : Kept base d) :
    Kept base (onCtx e f d) := by
  unfold onCtx
  apply onEngine_kept
  · intro x1
    rfl
  · assumption

theorem selBuf_kept {base : Device} {e} {buf} {d : Device} (hd : Kept base d) :
    Kept base (selBuf e buf d) := by
  unfold selBuf
  apply onCtx_kept
  assumption

theorem word_kept {base : Device} {e} {f} {d : Device} (hf : ∀ w0, Kept base w0 → Kept base (f w0)) (hd : Kept base d) :
    Kept base (word e f d) := by
  unfold word
  split
  · apply hf
    assumption
  · assumption

theorem stopCluster_kept {base : Device} {c} {d : Device} (hd : Kept base d) :
    Kept base (stopCluster c d) := by
  unfold stopCluster
  split
  · assumption
  · lift_lets
    intro v1
    clear_value v1
    intro v2
    have h3 : Kept base v2 := by
      unfold v2
      apply odPut_kept
      apply setQueue_kept
      assumption
    clear_value v2
    intro v4 v5 v6
    have h7 : Kept base v6 := by
      unfold v6
      refine Kept.mk_eq rfl rfl rfl rfl rfl rfl ?_ rfl ?_
      · exact memories_zipIdx fun _ => by dsimp only; split <;> rfl
      · assumption
    clear_value v6
    intro v8
    have h9 : Kept base v8 := by
      unfold v8
      apply closeGathers_kept
      assumption
    clear_value v8
    intro v10
    have h11 : Kept base v10 := by
      unfold v10
      apply setDomain_kept
      apply logEvent_kept
      assumption
    clear_value v10
    split
    · apply declareFatal_kept
      assumption
    · apply Kept.foldl
      · intro x12 x13 h14
        apply postTo_kept
        assumption
      · assumption

theorem setReg_kept {base : Device} {e} {n} {v} {d : Device} (hd : Kept base d) :
    Kept base (setReg e n v d) := by
  unfold setReg
  split
  · assumption
  · apply onCtx_kept
    assumption

theorem execPopcntOp_kept {base : Device} {e} {y1} {dst} {s : State} (hs : Kept base s.dev) :
    KeptB base (execPopcntOp e y1 dst s) := by
  unfold execPopcntOp
  apply next_keptB
  · intro x1 h2
    apply word_kept
    · intro x3 h4
      apply setReg_kept
      assumption
    · assumption
  · assumption

theorem execBswapOp_kept {base : Device} {e} {y1} {dst} {s : State} (hs : Kept base s.dev) :
    KeptB base (execBswapOp e y1 dst s) := by
  unfold execBswapOp
  apply next_keptB
  · intro x1 h2
    apply word_kept
    · intro x3 h4
      apply setReg_kept
      assumption
    · assumption
  · assumption

theorem execStdOp_kept {base : Device} {e} {y1} {s : State} (hs : Kept base s.dev) :
    KeptB base (execStdOp e y1 s) := by
  unfold execStdOp
  apply next_keptB
  · intro x1 h2
    lift_lets
    intro v3
    clear_value v3
    apply word_kept
    · intro x4 h5
      apply onCtx_kept
      assumption
    · assumption
  · assumption

theorem execLddOp_kept {base : Device} {e} {imm} {dst} {s : State} (hs : Kept base s.dev) :
    KeptB base (execLddOp e imm dst s) := by
  unfold execLddOp
  apply next_keptB
  · intro x1 h2
    lift_lets
    intro v3
    clear_value v3
    apply word_kept
    · intro x4 h5
      apply setReg_kept
      assumption
    · assumption
  · assumption

theorem setBuf_kept {base : Device} {e} {buf} {b} {d : Device} (hd : Kept base d) :
    Kept base (setBuf e buf b d) := by
  unfold setBuf
  apply onCtx_kept
  assumption

theorem execBadvOp_kept {base : Device} {e} {y1} {buf} {s : State} (hs : Kept base s.dev) :
    KeptB base (execBadvOp e y1 buf s) := by
  unfold execBadvOp
  apply next_keptB
  · intro x1 h2
    lift_lets
    intro v3
    clear_value v3
    apply word_kept
    · intro x4 h5
      apply setBuf_kept
      assumption
    · assumption
  · assumption

theorem execBsetOp_kept {base : Device} {e} {y1} {b} {buf} {s : State} (hs : Kept base s.dev) :
    KeptB base (execBsetOp e y1 b buf s) := by
  unfold execBsetOp
  apply next_keptB
  · intro x1 h2
    apply word_kept
    · intro x3 h4
      apply setBuf_kept
      assumption
    · assumption
  · assumption

theorem execGetOp_kept {base : Device} {e} {port} {dst} {s : State} (hs : Kept base s.dev) :
    KeptB base (execGetOp e port dst s) := by
  unfold execGetOp
  apply next_keptB
  · intro x1 h2
    apply word_kept
    · intro x3 h4
      apply setReg_kept
      assumption
    · assumption
  · assumption

theorem setFlags_kept {base : Device} {e} {zero} {neg} {carry} {ovf} {d : Device} (hd : Kept base d) :
    Kept base (setFlags e zero neg carry ovf d) := by
  unfold setFlags
  apply onCtx_kept
  assumption

theorem aluWrite_kept {base : Device} {e} {dst} {r} {carry} {ovf} {d : Device} (hd : Kept base d) :
    Kept base (aluWrite e dst r carry ovf d) := by
  unfold aluWrite
  lift_lets
  intro v1
  clear_value v1
  apply setReg_kept
  apply setFlags_kept
  assumption

theorem aluLogic_kept {base : Device} {e} {code} {x} {y} {r} {dst} {d : Device} (hd : Kept base d) :
    Kept base (aluLogic e code x y r dst d) := by
  unfold aluLogic
  apply aluWrite_kept
  assumption

theorem execMaxOp_kept {base : Device} {e} {y1} {b} {dst} {s : State} (hs : Kept base s.dev) :
    KeptB base (execMaxOp e y1 b dst s) := by
  unfold execMaxOp
  apply next_keptB
  · intro x1 h2
    apply word_kept
    · intro x3 h4
      apply aluLogic_kept
      assumption
    · assumption
  · assumption

theorem execMinOp_kept {base : Device} {e} {y1} {b} {dst} {s : State} (hs : Kept base s.dev) :
    KeptB base (execMinOp e y1 b dst s) := by
  unfold execMinOp
  apply next_keptB
  · intro x1 h2
    apply word_kept
    · intro x3 h4
      apply aluLogic_kept
      assumption
    · assumption
  · assumption

theorem execMulOp_kept {base : Device} {e} {y1} {b} {dst} {s : State} (hs : Kept base s.dev) :
    KeptB base (execMulOp e y1 b dst s) := by
  unfold execMulOp
  apply next_keptB
  · intro x1 h2
    apply word_kept
    · intro x3 h4
      apply aluLogic_kept
      assumption
    · assumption
  · assumption

theorem aluSub_kept {base : Device} {e} {x} {y} {dst} {d : Device} (hd : Kept base d) :
    Kept base (aluSub e x y dst d) := by
  unfold aluSub
  lift_lets
  intro v1
  clear_value v1
  apply aluWrite_kept
  assumption

theorem execCmpiOp_kept {base : Device} {e} {y1} {imm} {s : State} (hs : Kept base s.dev) :
    KeptB base (execCmpiOp e y1 imm s) := by
  unfold execCmpiOp
  apply next_keptB
  · intro x1 h2
    apply word_kept
    · intro x3 h4
      apply aluSub_kept
      assumption
    · assumption
  · assumption

theorem execCmpOp_kept {base : Device} {e} {y1} {b} {s : State} (hs : Kept base s.dev) :
    KeptB base (execCmpOp e y1 b s) := by
  unfold execCmpOp
  apply next_keptB
  · intro x1 h2
    apply word_kept
    · intro x3 h4
      apply aluSub_kept
      assumption
    · assumption
  · assumption

theorem execLdihOp_kept {base : Device} {e} {y1} {imm} {dst} {s : State} (hs : Kept base s.dev) :
    KeptB base (execLdihOp e y1 imm dst s) := by
  unfold execLdihOp
  apply next_keptB
  · intro x1 h2
    apply word_kept
    · intro x3 h4
      apply setReg_kept
      assumption
    · assumption
  · assumption

theorem execLdiOp_kept {base : Device} {e} {imm} {dst} {s : State} (hs : Kept base s.dev) :
    KeptB base (execLdiOp e imm dst s) := by
  unfold execLdiOp
  apply next_keptB
  · intro x1 h2
    apply word_kept
    · intro x3 h4
      apply setReg_kept
      assumption
    · assumption
  · assumption

theorem aluAdd_kept {base : Device} {e} {x} {y} {dst} {d : Device} (hd : Kept base d) :
    Kept base (aluAdd e x y dst d) := by
  unfold aluAdd
  lift_lets
  intro v1
  clear_value v1
  apply aluWrite_kept
  assumption

theorem execAddiOp_kept {base : Device} {e} {y1} {imm} {dst} {s : State} (hs : Kept base s.dev) :
    KeptB base (execAddiOp e y1 imm dst s) := by
  unfold execAddiOp
  apply next_keptB
  · intro x1 h2
    apply word_kept
    · intro x3 h4
      apply aluAdd_kept
      assumption
    · assumption
  · assumption

theorem execShrOp_kept {base : Device} {e} {y1} {b} {dst} {s : State} (hs : Kept base s.dev) :
    KeptB base (execShrOp e y1 b dst s) := by
  unfold execShrOp
  apply next_keptB
  · intro x1 h2
    apply word_kept
    · intro x3 h4
      apply aluLogic_kept
      assumption
    · assumption
  · assumption

theorem execShlOp_kept {base : Device} {e} {y1} {b} {dst} {s : State} (hs : Kept base s.dev) :
    KeptB base (execShlOp e y1 b dst s) := by
  unfold execShlOp
  apply next_keptB
  · intro x1 h2
    apply word_kept
    · intro x3 h4
      apply aluLogic_kept
      assumption
    · assumption
  · assumption

theorem execXorOp_kept {base : Device} {e} {y1} {b} {dst} {s : State} (hs : Kept base s.dev) :
    KeptB base (execXorOp e y1 b dst s) := by
  unfold execXorOp
  apply next_keptB
  · intro x1 h2
    apply word_kept
    · intro x3 h4
      apply aluLogic_kept
      assumption
    · assumption
  · assumption

theorem execOrOp_kept {base : Device} {e} {y1} {b} {dst} {s : State} (hs : Kept base s.dev) :
    KeptB base (execOrOp e y1 b dst s) := by
  unfold execOrOp
  apply next_keptB
  · intro x1 h2
    apply word_kept
    · intro x3 h4
      apply aluLogic_kept
      assumption
    · assumption
  · assumption

theorem execAndOp_kept {base : Device} {e} {y1} {b} {dst} {s : State} (hs : Kept base s.dev) :
    KeptB base (execAndOp e y1 b dst s) := by
  unfold execAndOp
  apply next_keptB
  · intro x1 h2
    apply word_kept
    · intro x3 h4
      apply aluLogic_kept
      assumption
    · assumption
  · assumption

theorem execSubOp_kept {base : Device} {e} {y1} {b} {dst} {s : State} (hs : Kept base s.dev) :
    KeptB base (execSubOp e y1 b dst s) := by
  unfold execSubOp
  apply next_keptB
  · intro x1 h2
    apply word_kept
    · intro x3 h4
      apply aluSub_kept
      assumption
    · assumption
  · assumption

theorem execAddOp_kept {base : Device} {e} {y1} {b} {dst} {s : State} (hs : Kept base s.dev) :
    KeptB base (execAddOp e y1 b dst s) := by
  unfold execAddOp
  apply next_keptB
  · intro x1 h2
    apply word_kept
    · intro x3 h4
      apply aluAdd_kept
      assumption
    · assumption
  · assumption

theorem execMovOp_kept {base : Device} {e} {y1} {dst} {s : State} (hs : Kept base s.dev) :
    KeptB base (execMovOp e y1 dst s) := by
  unfold execMovOp
  apply next_keptB
  · intro x1 h2
    apply word_kept
    · intro x3 h4
      apply setReg_kept
      assumption
    · assumption
  · assumption

theorem execNopOp_kept {base : Device} {e} {s : State} (hs : Kept base s.dev) :
    KeptB base (execNopOp e s) := by
  unfold execNopOp
  apply next_keptB
  · intro x1 h2
    apply word_kept
    · intro x3 h4
      assumption
    · assumption
  · assumption

theorem yieldQueue_kept {base : Device} {c} {d : Device} (hd : Kept base d) :
    Kept base (yieldQueue c d) := by
  unfold yieldQueue
  split
  · assumption
  · apply Kept.foldl
    · intro x1 x2 h3
      apply postTo_kept
      assumption
    · apply setQueue_kept
      assumption

theorem activateStep_kept {base : Device} {y0} {y1 : Device} (hy1 : Kept base y1) :
    Kept base (activateStep y0 y1) := by
  induction' y0 with n ih generalizing y1
  · unfold activateStep
    assumption
  · unfold activateStep
    split
    · assumption
    · lift_lets
      intro v1
      clear_value v1
      intro v2 v3
      clear_value v3
      intro v4 v5
      have h6 : Kept base v5 := by
        unfold v5
        refine Kept.mk_eq rfl rfl rfl rfl rfl rfl ?_ rfl ?_
        · exact memories_zipIdx fun _ => by dsimp only; split <;> rfl
        · assumption
      clear_value v5
      split
      · assumption
      · split
        · apply logEvent_kept
          apply odPut_kept
          assumption
        · apply ih
          apply yieldQueue_kept
          assumption

theorem settleStopped_kept {base : Device} {e} {d : Device} (hd : Kept base d) :
    Kept base (settleStopped e d) := by
  unfold settleStopped
  apply activateStep_kept
  split
  · apply onEngine_kept
    · intro x1
      rfl
    · assumption
  · assumption

theorem returnDesc_kept {base : Device} {e} {status} {d : Device} (hd : Kept base d) :
    Kept base (returnDesc e status d) := by
  unfold returnDesc
  split
  · assumption
  · rename_i e1 e2 e3
    lift_lets
    intro v4
    have h5 : Kept base v4 := by
      unfold v4
      apply onEngine_kept
      · intro x6
        rfl
      · assumption
    clear_value v4
    apply settleStopped_kept
    apply descriptorReturn_kept
    assumption

theorem dispatch_takeNext_kept {base : Device} {e} {d : Device} (hd : Kept base d) :
    Kept base (dispatch.takeNext e d) := by
  unfold dispatch.takeNext
  apply takeDesc_kept
  · intro x1 x2 h3
    apply descriptorReturn_kept
    assumption
  · assumption

theorem dispatch_kept {base : Device} {e} {d : Device} (hd : Kept base d) :
    Kept base (dispatch e d) := by
  unfold dispatch
  lift_lets
  intro v1
  clear_value v1
  split
  · rename_i e2 e3 e4
    split
    · apply dispatch_takeNext_kept
      assumption
    · apply onEngine_kept
      · intro x5
        rfl
      · assumption
  · apply dispatch_takeNext_kept
    assumption

theorem execHaltSeq_kept {base : Device} {e} {s : State} (hs : Kept base s.dev) :
    KeptB base (execHaltSeq e s) := by
  unfold execHaltSeq
  apply next_keptB
  · intro x1 h2
    apply word_kept
    · intro x3 h4
      apply dispatch_kept
      apply returnDesc_kept
      assumption
    · assumption
  · assumption

theorem execDispatchSeq_kept {base : Device} {e} {s : State} (hs : Kept base s.dev) :
    KeptB base (execDispatchSeq e s) := by
  unfold execDispatchSeq
  apply next_keptB
  · intro x1 h2
    apply word_kept
    · intro x3 h4
      split
      · assumption
      · apply dispatch_kept
        assumption
    · assumption
  · assumption

theorem returnParked_kept {base : Device} {e} {d : Device} (hd : Kept base d) :
    Kept base (returnParked e d) := by
  unfold returnParked
  split
  · rename_i e1 e2 e3
    apply descriptorReturn_kept
    apply onEngine_kept
    · intro x4
      rfl
    · assumption
  · assumption

theorem disableEngine_kept {base : Device} {e} {d : Device} (hd : Kept base d) :
    Kept base (disableEngine e d) := by
  unfold disableEngine
  lift_lets
  intro v1
  have h2 : Kept base v1 := by
    unfold v1
    apply onEngine_kept
    · intro x3
      rfl
    · assumption
  clear_value v1
  intro v4
  have h5 : Kept base v4 := by
    unfold v4
    apply odPut_kept
    assumption
  clear_value v4
  intro v6
  have h7 : Kept base v6 := by
    unfold v6
    apply raiseEmcy_kept
    apply logEvent_kept
    assumption
  clear_value v6
  split
  · apply stopCluster_kept
    assumption
  · assumption

theorem cancelUnits_kept {base : Device} {e} {d : Device} (hd : Kept base d) :
    Kept base (cancelUnits e d) := by
  unfold cancelUnits
  lift_lets
  intro v1
  have h2 : Kept base v1 := by
    unfold v1
    split
    · rename_i e3 e4 e5
      apply endOp_kept
      assumption
    · assumption
  clear_value v1
  apply onEngine_kept
  · intro x6
    rfl
  · assumption

theorem machineCheck_kept {base : Device} {e} {kind} {groups} {d : Device} (hd : Kept base d) :
    Kept base (machineCheck e kind groups d) := by
  unfold machineCheck
  lift_lets
  intro v1
  clear_value v1
  intro v2
  clear_value v2
  intro v3
  clear_value v3
  intro v4
  clear_value v4
  intro v5
  have h6 : Kept base v5 := by
    unfold v5
    apply odBump_kept
    apply cancelUnits_kept
    assumption
  clear_value v5
  intro v7
  have h8 : Kept base v7 := by
    unfold v7
    apply onEngine_kept
    · intro x9
      rfl
    · assumption
  clear_value v7
  intro v10
  have h11 : Kept base v10 := by
    unfold v10
    split
    · apply descriptorReturn_kept
      assumption
    · assumption
  clear_value v10
  intro v12
  clear_value v12
  intro v13
  have h14 : Kept base v13 := by
    unfold v13
    apply logEvent_kept
    assumption
  clear_value v13
  split
  · assumption
  · split
    · apply disableEngine_kept
      apply returnParked_kept
      assumption
    · apply settleStopped_kept
      apply odBump_kept
      apply onEngine_kept
      · intro x15
        rfl
      · assumption

theorem returnWord_kept {base : Device} {e} {d : Device} (hd : Kept base d) :
    Kept base (returnWord e d) := by
  unfold returnWord
  split
  · apply machineCheck_kept
    assumption
  · apply onCtx_kept
    assumption

theorem execReturnSeq_kept {base : Device} {e} {s : State} (hs : Kept base s.dev) :
    KeptB base (execReturnSeq e s) := by
  unfold execReturnSeq
  apply next_keptB
  · intro x1 h2
    apply word_kept
    · intro x3 h4
      apply returnWord_kept
      assumption
    · assumption
  · assumption

theorem callWord_kept {base : Device} {e} {target} {d : Device} (hd : Kept base d) :
    Kept base (callWord e target d) := by
  unfold callWord
  split
  · apply machineCheck_kept
    assumption
  · apply onCtx_kept
    assumption

theorem execCallSeq_kept {base : Device} {e} {target} {s : State} (hs : Kept base s.dev) :
    KeptB base (execCallSeq e target s) := by
  unfold execCallSeq
  apply next_keptB
  · intro x1 h2
    apply word_kept
    · intro x3 h4
      apply callWord_kept
      assumption
    · assumption
  · assumption

theorem setPc_kept {base : Device} {e} {pc} {d : Device} (hd : Kept base d) :
    Kept base (setPc e pc d) := by
  unfold setPc
  apply onCtx_kept
  assumption

theorem execBranchFalse_kept {base : Device} {e} {target} {cond} {s : State} (hs : Kept base s.dev) :
    KeptB base (execBranchFalse e target cond s) := by
  unfold execBranchFalse
  apply next_keptB
  · intro x1 h2
    apply word_kept
    · intro x3 h4
      apply setPc_kept
      assumption
    · assumption
  · assumption

theorem execBranchTrue_kept {base : Device} {e} {target} {cond} {s : State} (hs : Kept base s.dev) :
    KeptB base (execBranchTrue e target cond s) := by
  unfold execBranchTrue
  apply next_keptB
  · intro x1 h2
    apply word_kept
    · intro x3 h4
      apply setPc_kept
      assumption
    · assumption
  · assumption

theorem execJumpSeq_kept {base : Device} {e} {target} {s : State} (hs : Kept base s.dev) :
    KeptB base (execJumpSeq e target s) := by
  unfold execJumpSeq
  apply next_keptB
  · intro x1 h2
    apply word_kept
    · intro x3 h4
      apply setPc_kept
      assumption
    · assumption
  · assumption

theorem execNextSeq_kept {base : Device} {e} {s : State} (hs : Kept base s.dev) :
    KeptB base (execNextSeq e s) := by
  unfold execNextSeq
  apply next_keptB
  · intro x1 h2
    apply word_kept
    · intro x3 h4
      apply setPc_kept
      assumption
    · assumption
  · assumption

theorem sliceEnd_kept {base : Device} {e} {d : Device} (hd : Kept base d) :
    Kept base (sliceEnd e d) := by
  unfold sliceEnd
  lift_lets
  intro v1
  clear_value v1
  intro v2
  have h3 : Kept base v2 := by
    unfold v2
    apply engineCond_kept
    apply waitUntil_kept
    assumption
  clear_value v2
  intro v4
  clear_value v4
  intro v5
  clear_value v5
  split
  · assumption
  · rename_i e6 e7 e8
    split
    · assumption
    · split
      · apply dispatch_kept
        apply onEngine_kept
        · intro x9
          rfl
        · assumption
      · apply onEngine_kept
        · intro x10
          rfl
        · assumption

theorem execBackgroundSliceEnd_kept {base : Device} {e} {s : State} (hs : Kept base s.dev) :
    KeptB base (execBackgroundSliceEnd e s) := by
  unfold execBackgroundSliceEnd
  apply next_keptB
  · intro x1 h2
    apply sliceEnd_kept
    assumption
  · assumption

theorem execDescriptorTimeLimit_kept {base : Device} {e} {s : State} (hs : Kept base s.dev) :
    KeptB base (execDescriptorTimeLimit e s) := by
  unfold execDescriptorTimeLimit
  apply next_keptB
  · intro x1 h2
    lift_lets
    intro v3
    clear_value v3
    split
    · apply machineCheck_kept
      apply waitUntil_kept
      assumption
    · assumption
  · assumption

theorem execMachineCheck_kept {base : Device} {e} {kind} {groups} {s : State} (hs : Kept base s.dev) :
    KeptB base (execMachineCheck e kind groups s) := by
  unfold execMachineCheck
  apply next_keptB
  · intro x1 h2
    apply machineCheck_kept
    assumption
  · assumption

/-! ## EngUnits -/

theorem append_kept {base : Device} {e} {buf} {d : Device} (hd : Kept base d) :
    Kept base (append e buf d) := by
  unfold append
  lift_lets
  intro v1
  clear_value v1
  intro v2
  have h3 : Kept base v2 := by
    unfold v2
    apply journalRecord_kept
    assumption
  clear_value v2
  apply engineCond_kept
  apply onEngine_kept
  · intro x4
    rfl
  · assumption

theorem bufWord_kept {base : Device} {e} {buf} {f} {d : Device} (hf : ∀ w0, Kept base w0 → Kept base (f w0)) (hd : Kept base d) :
    Kept base (bufWord e buf f d) := by
  unfold bufWord
  apply word_kept
  · intro x1 h2
    apply hf
    apply selBuf_kept
    assumption
  · assumption

theorem execAppend_kept {base : Device} {e} {buf} {s : State} (hs : Kept base s.dev) :
    KeptB base (execAppend e buf s) := by
  unfold execAppend
  apply next_keptB
  · intro x1 h2
    apply bufWord_kept
    · intro x3 h4
      apply append_kept
      assumption
    · assumption
  · assumption

theorem readDone'_kept {base : Device} {e} {m} {d : Device} (hd : Kept base d) :
    Kept base (readDone' e m d) := by
  unfold readDone'
  lift_lets
  intro v1
  clear_value v1
  intro v2
  clear_value v2
  intro v3
  clear_value v3
  intro v4
  have h5 : Kept base v4 := by
    unfold v4
    split
    · apply worldViolation_kept
      assumption
    · assumption
  clear_value v4
  apply engineCond_kept
  apply onEngine_kept
  · intro x6
    rfl
  · apply putBytes_kept
    assumption

theorem moverMem_wf {code : Nat} {d : Device} (h : d.MemoriesWf) : Memory.wf (moverMem code d) = true := by
  refine h _ ?_
  simp only [moverMem, Device.memories, List.mem_cons]
  split
  · simp
  · split
    · simp
    · split <;> simp

theorem writeDone_kept {base : Device} {e m} {d : Device} (hd : Kept base d) : Kept base (writeDone e m d) := by
  unfold writeDone
  extract_lets d1
  have h1 : Kept base d1 := by
    unfold d1
    split
    · exact worldViolation_kept hd
    · exact setMoverMem_kept (fun hb => memWrite_wf _ _ (moverMem_wf (hd.memories hb))) hd
  exact engineCond_kept (onEngine_kept (fun _ => rfl) h1)

theorem execMoverDone_kept {base : Device} {e} {write} {s : State} (hs : Kept base s.dev) :
    KeptB base (execMoverDone e write s) := by
  unfold execMoverDone
  split
  · apply next_keptB
    · intro x1 h2
      unfold id
      assumption
    · assumption
  · rename_i e3 e4 e5
    split
    · apply next_keptB
      · intro x6 h7
        split
        · apply writeDone_kept
          assumption
        · apply readDone'_kept
          assumption
      · assumption
    · exact KeptB.fault

theorem execGfUnitDone_kept {base : Device} {e} {s : State} (hs : Kept base s.dev) :
    KeptB base (execGfUnitDone e s) := by
  unfold execGfUnitDone
  apply next_keptB
  · intro x1 h2
    split
    · apply engineCond_kept
      apply onEngine_kept
      · intro x3
        rfl
      · assumption
    · assumption
  · assumption

theorem setPort_kept {base : Device} {e} {n} {v} {d : Device} (hd : Kept base d) :
    Kept base (setPort e n v d) := by
  unfold setPort
  apply onEngine_kept
  · intro x1
    rfl
  · assumption

theorem shaDigest_kept {base : Device} {e} {buf} {d : Device} (hd : Kept base d) :
    Kept base (shaDigest e buf d) := by
  unfold shaDigest
  lift_lets
  intro v1
  clear_value v1
  intro v2
  have h3 : Kept base v2 := by
    unfold v2
    apply Kept.foldl
    · intro x4 x5 h6
      apply setPort_kept
      assumption
    · apply putBytes_kept
      assumption
  clear_value v2
  apply onEngine_kept
  · intro x7
    rfl
  · assumption

theorem shaDone_kept {base : Device} {e} {d : Device} (hd : Kept base d) :
    Kept base (shaDone e d) := by
  unfold shaDone
  lift_lets
  intro v1
  have h2 : Kept base v1 := by
    unfold v1
    apply engineCond_kept
    assumption
  clear_value v1
  split
  · rename_i e3 e4 e5
    apply shaDigest_kept
    assumption
  · assumption

theorem execShaDone_kept {base : Device} {e} {s : State} (hs : Kept base s.dev) :
    KeptB base (execShaDone e s) := by
  unfold execShaDone
  apply next_keptB
  · intro x1 h2
    apply shaDone_kept
    assumption
  · assumption

theorem setConds_kept {base : Device} {e} {l} {d : Device} (hd : Kept base d) :
    Kept base (setConds e l d) := by
  unfold setConds
  apply Kept.foldl
  · intro x1 x2 h3
    apply engineCond_kept
    assumption
  · assumption

theorem compressDone_kept {base : Device} {e} {mismatch} {d : Device} (hd : Kept base d) :
    Kept base (compressDone e mismatch d) := by
  unfold compressDone
  lift_lets
  intro v1
  clear_value v1
  intro v2
  clear_value v2
  intro v3
  clear_value v3
  intro v4
  have h5 : KeptP base v4 := by
    unfold v4
    apply chooseEncoding_kept
    assumption
  clear_value v4
  intro v6
  clear_value v6
  intro v7
  clear_value v7
  intro v8
  have h9 : Kept base v8 := by
    unfold v8
    apply onEngine_kept
    · intro x10
      rfl
    · apply KeptP.snd
      assumption
  clear_value v8
  intro v11
  have h12 : Kept base v11 := by
    unfold v11
    apply setConds_kept
    apply setPort_kept
    assumption
  clear_value v11
  split
  · assumption
  · rename_i e13 e14 e15
    split
    · rename_i e16 e17 e18 e19 e20 e21 e22
      apply onChunk_kept
      assumption
    · assumption

theorem execCompressDone_kept {base : Device} {e} {mismatch} {s : State} (hs : Kept base s.dev) :
    KeptB base (execCompressDone e mismatch s) := by
  unfold execCompressDone
  apply next_keptB
  · intro x1 h2
    apply compressDone_kept
    assumption
  · assumption

theorem aesComplete_kept {base : Device} {e} {d : Device} (hd : Kept base d) :
    Kept base (aesComplete e d) := by
  unfold aesComplete
  split
  · assumption
  · lift_lets
    intro v1
    have h2 : Kept base v1 := by
      unfold v1
      apply onEngine_kept
      · intro x3
        rfl
      · assumption
    clear_value v1
    intro v4
    have h5 : Kept base v4 := by
      unfold v4
      split
      · apply onEngine_kept
        · intro x6
          rfl
        · assumption
      · assumption
    clear_value v4
    split
    · apply setConds_kept
      apply putBytes_kept
      assumption
    · apply setConds_kept
      assumption
    · split
      · dsimp only
        apply setConds_kept
        apply logEvent_kept
        apply odBump_kept
        assumption
      · dsimp only
        apply setConds_kept
        assumption

theorem execAesRequestComplete_kept {base : Device} {e} {s : State} (hs : Kept base s.dev) :
    KeptB base (execAesRequestComplete e s) := by
  unfold execAesRequestComplete
  apply next_keptB
  · intro x1 h2
    apply aesComplete_kept
    assumption
  · assumption

theorem execMsgPresent_kept {base : Device} {e} {s : State} (hs : Kept base s.dev) :
    KeptB base (execMsgPresent e s) := by
  unfold execMsgPresent
  apply next_keptB
  · intro x1 h2
    apply word_kept
    · intro x3 h4
      split
      · rename_i e5 e6 e7 e8 e9 e10 e11
        apply settle_kept
        apply storeChunk_kept
        assumption
      · assumption
    · assumption
  · assumption

theorem msgRelease_kept {base : Device} {e} {d : Device} (hd : Kept base d) :
    Kept base (msgRelease e d) := by
  unfold msgRelease
  lift_lets
  intro v1
  clear_value v1
  split
  · assumption
  · rename_i e2 e3 e4 e5 e6
    split
    · assumption
    · rename_i e7 e8 e9 e10
      lift_lets
      intro v11
      have h12 : Kept base v11 := by
        unfold v11
        apply onChunk_kept
        assumption
      clear_value v11
      apply releaseClaim_kept
      assumption

theorem execMsgRelease_kept {base : Device} {e} {s : State} (hs : Kept base s.dev) :
    KeptB base (execMsgRelease e s) := by
  unfold execMsgRelease
  apply next_keptB
  · intro x1 h2
    apply word_kept
    · intro x3 h4
      apply msgRelease_kept
      assumption
    · assumption
  · assumption

theorem msgClaim_kept {base : Device} {e} {d : Device} (hd : Kept base d) :
    Kept base (msgClaim e d) := by
  unfold msgClaim
  lift_lets
  intro v1
  have h2 : Kept base v1 := by
    unfold v1
    apply setConds_kept
    assumption
  clear_value v1
  split
  · rename_i e3 e4 e5 e6 e7
    split
    · assumption
    · apply settle_kept
      apply addChunk_kept
      assumption
  · assumption

theorem execMsgClaim_kept {base : Device} {e} {s : State} (hs : Kept base s.dev) :
    KeptB base (execMsgClaim e s) := by
  unfold execMsgClaim
  apply next_keptB
  · intro x1 h2
    apply word_kept
    · intro x3 h4
      apply msgClaim_kept
      assumption
    · assumption
  · assumption

theorem execMsgSend_kept {base : Device} {e} {y1} {b} {s : State} (hs : Kept base s.dev) :
    KeptB base (execMsgSend e y1 b s) := by
  unfold execMsgSend
  apply next_keptB
  · intro x1 h2
    apply word_kept
    · intro x3 h4
      apply engineCond_kept
      apply emit_kept
      assumption
    · assumption
  · assumption

theorem execCntAdd_kept {base : Device} {e} {ctr} {b} {s : State} (hs : Kept base s.dev) :
    KeptB base (execCntAdd e ctr b s) := by
  unfold execCntAdd
  apply next_keptB
  · intro x1 h2
    apply word_kept
    · intro x3 h4
      split
      · apply onEngine_kept
        · intro x5
          rfl
        · assumption
      · assumption
    · assumption
  · assumption

theorem execEvtWrite_kept {base : Device} {e} {code} {imm} {y3} {s : State} (hs : Kept base s.dev) :
    KeptB base (execEvtWrite e code imm y3 s) := by
  unfold execEvtWrite
  apply next_keptB
  · intro x1 h2
    apply word_kept
    · intro x3 h4
      split
      · apply logEvent_kept
        assumption
      · assumption
    · assumption
  · assumption

theorem execTollReturn_kept {base : Device} {e} {s : State} (hs : Kept base s.dev) :
    KeptB base (execTollReturn e s) := by
  unfold execTollReturn
  apply next_keptB
  · intro x1 h2
    apply word_kept
    · intro x3 h4
      lift_lets
      intro v5
      have h6 : Kept base v5 := by
        unfold v5
        split
        · rename_i e7 e8 e9
          apply onOp_kept
          assumption
        · assumption
      clear_value v5
      apply engineCond_kept
      apply onEngine_kept
      · intro x10
        rfl
      · assumption
    · assumption
  · assumption

theorem tollRequest_kept {base : Device} {e} {read} {d : Device} (hd : Kept base d) :
    Kept base (tollRequest e read d) := by
  unfold tollRequest
  split
  · apply engineCond_kept
    assumption
  · rename_i e1 e2 e3
    split
    · apply grantTokens_kept
      assumption
    · assumption

theorem execTollRequestProgram_kept {base : Device} {e} {s : State} (hs : Kept base s.dev) :
    KeptB base (execTollRequestProgram e s) := by
  unfold execTollRequestProgram
  apply next_keptB
  · intro x1 h2
    apply word_kept
    · intro x3 h4
      apply tollRequest_kept
      assumption
    · assumption
  · assumption

theorem execTollRequestRead_kept {base : Device} {e} {s : State} (hs : Kept base s.dev) :
    KeptB base (execTollRequestRead e s) := by
  unfold execTollRequestRead
  apply next_keptB
  · intro x1 h2
    apply word_kept
    · intro x3 h4
      apply tollRequest_kept
      assumption
    · assumption
  · assumption

theorem engineRead_kept {base : Device} {e} {y1} {step} {deep} {d : Device} (hd : Kept base d) :
    Kept base (engineRead e y1 step deep d) := by
  unfold engineRead
  split
  · assumption
  · lift_lets
    intro v1
    clear_value v1
    intro v2
    have h3 : Kept base v2 := by
      unfold v2
      apply onEngine_kept
      · intro x4
        rfl
      · apply setConds_kept
        assumption
    clear_value v2
    intro v5
    clear_value v5
    intro v6
    clear_value v6
    intro v7
    clear_value v7
    intro v8
    clear_value v8
    intro v9
    have h10 : Kept base v9 := by
      unfold v9
      apply queueOp_kept
      apply onEngine_kept
      · intro x11
        rfl
      · assumption
    clear_value v9
    split
    · apply setConds_kept
      assumption
    · split
      · apply engineCond_kept
        apply onEngine_kept
        · intro x12
          rfl
        · assumption
      · assumption

theorem execFlashReadDeep_kept {base : Device} {e} {y1} {s : State} (hs : Kept base s.dev) :
    KeptB base (execFlashReadDeep e y1 s) := by
  unfold execFlashReadDeep
  apply next_keptB
  · intro x1 h2
    apply word_kept
    · intro x3 h4
      apply engineRead_kept
      assumption
    · assumption
  · assumption

theorem execFlashReadNextStep_kept {base : Device} {e} {y1} {s : State} (hs : Kept base s.dev) :
    KeptB base (execFlashReadNextStep e y1 s) := by
  unfold execFlashReadNextStep
  apply next_keptB
  · intro x1 h2
    apply word_kept
    · intro x3 h4
      apply engineRead_kept
      assumption
    · assumption
  · assumption

theorem engineProgram_kept {base : Device} {e} {y1} {d : Device} (hd : Kept base d) :
    Kept base (engineProgram e y1 d) := by
  unfold engineProgram
  split
  · assumption
  · split
    · apply setConds_kept
      assumption
    · rename_i e1 e2 e3 e4 e5
      lift_lets
      intro v6
      clear_value v6
      intro v7
      have h8 : Kept base v7 := by
        unfold v7
        apply setConds_kept
        apply onEngine_kept
        · intro x9
          rfl
        · assumption
      clear_value v7
      intro v10
      have h11 : Kept base v10 := by
        unfold v10
        apply onOp_kept
        apply programMember_kept
        assumption
      clear_value v10
      split
      · apply engineCond_kept
        apply onEngine_kept
        · intro x12
          rfl
        · assumption
      · assumption

theorem execFlashProgram_kept {base : Device} {e} {y1} {s : State} (hs : Kept base s.dev) :
    KeptB base (execFlashProgram e y1 s) := by
  unfold execFlashProgram
  apply next_keptB
  · intro x1 h2
    apply word_kept
    · intro x3 h4
      apply engineProgram_kept
      assumption
    · assumption
  · assumption

theorem execFlashRead_kept {base : Device} {e} {y1} {s : State} (hs : Kept base s.dev) :
    KeptB base (execFlashRead e y1 s) := by
  unfold execFlashRead
  apply next_keptB
  · intro x1 h2
    apply word_kept
    · intro x3 h4
      apply engineRead_kept
      assumption
    · assumption
  · assumption

theorem execMarkJnl_kept {base : Device} {e} {s : State} (hs : Kept base s.dev) :
    KeptB base (execMarkJnl e s) := by
  unfold execMarkJnl
  apply next_keptB
  · intro x1 h2
    apply word_kept
    · intro x3 h4
      lift_lets
      intro v5
      clear_value v5
      apply engineCond_kept
      apply onEngine_kept
      · intro x6
        rfl
      · assumption
    · assumption
  · assumption

theorem execLockRelease_kept {base : Device} {e} {s : State} (hs : Kept base s.dev) :
    KeptB base (execLockRelease e s) := by
  unfold execLockRelease
  apply next_keptB
  · intro x1 h2
    apply word_kept
    · intro x3 h4
      apply settle_kept
      apply releaseLocks_kept
      assumption
    · assumption
  · assumption

theorem execLockTest_kept {base : Device} {e} {s : State} (hs : Kept base s.dev) :
    KeptB base (execLockTest e s) := by
  unfold execLockTest
  apply next_keptB
  · intro x1 h2
    apply word_kept
    · intro x3 h4
      apply engineCond_kept
      assumption
    · assumption
  · assumption

theorem execThrottleStepChange_kept {base : Device} {temp} {s : State} (hs : Kept base s.dev) :
    KeptB base (execThrottleStepChange temp s) := by
  unfold execThrottleStepChange
  apply next_keptB
  · intro x1 h2
    apply refreshEff_kept
    apply takeStep_kept
    assumption
  · assumption

theorem searchResult_kept {base : Device} {bad} {d : Device} (hd : Kept base d) :
    Kept base (searchResult bad d) := by
  unfold searchResult
  split
  · assumption
  · rename_i e1 e2 e3
    lift_lets
    intro v4
    clear_value v4
    intro v5
    have h6 : Kept base v5 := by
      unfold v5
      refine Kept.mk_eq rfl rfl rfl rfl rfl rfl rfl rfl ?_
      assumption
    clear_value v5
    intro v7
    clear_value v7
    intro v8
    clear_value v8
    intro v9
    have h10 : Kept base v9 := by
      unfold v9
      apply Kept.foldl
      · intro x11 x12 h13
        apply rewriteEntry_kept
        assumption
      · assumption
    clear_value v9
    split
    · rename_i e14 e15 e16
      apply setConds_kept
      apply setPort_kept
      apply onEngine_kept
      · intro x17
        rfl
      · assumption
    · assumption

theorem execSearchResult_kept {base : Device} {bad} {s : State} (hs : Kept base s.dev) :
    KeptB base (execSearchResult bad s) := by
  unfold execSearchResult
  apply next_keptB
  · intro x1 h2
    apply searchResult_kept
    assumption
  · assumption

theorem engineSearch_kept {base : Device} {e} {buf} {cls} {d : Device} (hd : Kept base d) :
    Kept base (engineSearch e buf cls d) := by
  unfold engineSearch
  lift_lets
  intro v1
  have h2 : Kept base v1 := by
    unfold v1
    apply queueSearch_kept
    apply odBump_kept
    assumption
  clear_value v1
  intro v3
  have h4 : Kept base v3 := by
    unfold v3
    apply onEngine_kept
    · intro x5
      rfl
    · assumption
  clear_value v3
  apply setConds_kept
  assumption

theorem execBucketOverrideSearch_kept {base : Device} {e} {buf} {s : State} (hs : Kept base s.dev) :
    KeptB base (execBucketOverrideSearch e buf s) := by
  unfold execBucketOverrideSearch
  apply next_keptB
  · intro x1 h2
    apply bufWord_kept
    · intro x3 h4
      apply engineSearch_kept
      assumption
    · assumption
  · assumption

theorem hotSearch_kept {base : Device} {e} {buf} {d : Device} (hd : Kept base d) :
    Kept base (hotSearch e buf d) := by
  unfold hotSearch
  split
  · apply setConds_kept
    apply odBump_kept
    assumption
  · apply engineSearch_kept
    assumption

theorem execHotSetSearch_kept {base : Device} {e} {buf} {s : State} (hs : Kept base s.dev) :
    KeptB base (execHotSetSearch e buf s) := by
  unfold execHotSetSearch
  apply next_keptB
  · intro x1 h2
    apply bufWord_kept
    · intro x3 h4
      apply hotSearch_kept
      assumption
    · assumption
  · assumption

theorem execPolicySearch_kept {base : Device} {e} {buf} {s : State} (hs : Kept base s.dev) :
    KeptB base (execPolicySearch e buf s) := by
  unfold execPolicySearch
  apply next_keptB
  · intro x1 h2
    apply bufWord_kept
    · intro x3 h4
      apply engineSearch_kept
      assumption
    · assumption
  · assumption

theorem moverWrite_kept {base : Device} {e} {code} {b} {buf} {d : Device} (hd : Kept base d) :
    Kept base (moverWrite e code b buf d) := by
  unfold moverWrite
  split
  · assumption
  · apply engineCond_kept
    apply onEngine_kept
    · intro x1
      rfl
    · assumption

theorem execDmaWriteLink_kept {base : Device} {e} {b} {buf} {s : State} (hs : Kept base s.dev) :
    KeptB base (execDmaWriteLink e b buf s) := by
  unfold execDmaWriteLink
  apply next_keptB
  · intro x1 h2
    apply bufWord_kept
    · intro x3 h4
      apply moverWrite_kept
      assumption
    · assumption
  · assumption

theorem execDmaWriteFlash_kept {base : Device} {e} {b} {buf} {s : State} (hs : Kept base s.dev) :
    KeptB base (execDmaWriteFlash e b buf s) := by
  unfold execDmaWriteFlash
  apply next_keptB
  · intro x1 h2
    apply bufWord_kept
    · intro x3 h4
      apply moverWrite_kept
      assumption
    · assumption
  · assumption

theorem execDmaWriteDdr_kept {base : Device} {e} {b} {buf} {s : State} (hs : Kept base s.dev) :
    KeptB base (execDmaWriteDdr e b buf s) := by
  unfold execDmaWriteDdr
  apply next_keptB
  · intro x1 h2
    apply bufWord_kept
    · intro x3 h4
      apply moverWrite_kept
      assumption
    · assumption
  · assumption

theorem execDmaWriteStaging_kept {base : Device} {e} {b} {buf} {s : State} (hs : Kept base s.dev) :
    KeptB base (execDmaWriteStaging e b buf s) := by
  unfold execDmaWriteStaging
  apply next_keptB
  · intro x1 h2
    apply bufWord_kept
    · intro x3 h4
      apply moverWrite_kept
      assumption
    · assumption
  · assumption

theorem moverRead_kept {base : Device} {e} {code} {y2} {buf} {d : Device} (hd : Kept base d) :
    Kept base (moverRead e code y2 buf d) := by
  unfold moverRead
  split
  · assumption
  · apply engineCond_kept
    apply onEngine_kept
    · intro x1
      rfl
    · assumption

theorem execDmaReadLink_kept {base : Device} {e} {y1} {buf} {s : State} (hs : Kept base s.dev) :
    KeptB base (execDmaReadLink e y1 buf s) := by
  unfold execDmaReadLink
  apply next_keptB
  · intro x1 h2
    apply bufWord_kept
    · intro x3 h4
      apply moverRead_kept
      assumption
    · assumption
  · assumption

theorem execDmaReadFlash_kept {base : Device} {e} {y1} {buf} {s : State} (hs : Kept base s.dev) :
    KeptB base (execDmaReadFlash e y1 buf s) := by
  unfold execDmaReadFlash
  apply next_keptB
  · intro x1 h2
    apply bufWord_kept
    · intro x3 h4
      apply moverRead_kept
      assumption
    · assumption
  · assumption

theorem execDmaReadDdr_kept {base : Device} {e} {y1} {buf} {s : State} (hs : Kept base s.dev) :
    KeptB base (execDmaReadDdr e y1 buf s) := by
  unfold execDmaReadDdr
  apply next_keptB
  · intro x1 h2
    apply bufWord_kept
    · intro x3 h4
      apply moverRead_kept
      assumption
    · assumption
  · assumption

theorem execDmaReadStaging_kept {base : Device} {e} {y1} {buf} {s : State} (hs : Kept base s.dev) :
    KeptB base (execDmaReadStaging e y1 buf s) := by
  unfold execDmaReadStaging
  apply next_keptB
  · intro x1 h2
    apply bufWord_kept
    · intro x3 h4
      apply moverRead_kept
      assumption
    · assumption
  · assumption

theorem gfWork_kept {base : Device} {e} {f} {d : Device} (hd : Kept base d) :
    Kept base (gfWork e f d) := by
  unfold gfWork
  apply engineCond_kept
  apply onEngine_kept
  · intro x1
    rfl
  · assumption

theorem execSolveTwo_kept {base : Device} {e} {buf} {imm} {s : State} (hs : Kept base s.dev) :
    KeptB base (execSolveTwo e buf imm s) := by
  unfold execSolveTwo
  apply next_keptB
  · intro x1 h2
    apply bufWord_kept
    · intro x3 h4
      lift_lets
      intro v5
      clear_value v5
      intro v6
      clear_value v6
      intro v7
      clear_value v7
      intro v8
      clear_value v8
      apply gfWork_kept
      apply putBytes_kept
      assumption
    · assumption
  · assumption

theorem execSolveOne_kept {base : Device} {e} {buf} {imm} {s : State} (hs : Kept base s.dev) :
    KeptB base (execSolveOne e buf imm s) := by
  unfold execSolveOne
  apply next_keptB
  · intro x1 h2
    apply bufWord_kept
    · intro x3 h4
      lift_lets
      intro v5
      clear_value v5
      apply gfWork_kept
      apply putBytes_kept
      assumption
    · assumption
  · assumption

theorem execEmitQ_kept {base : Device} {e} {buf} {s : State} (hs : Kept base s.dev) :
    KeptB base (execEmitQ e buf s) := by
  unfold execEmitQ
  apply next_keptB
  · intro x1 h2
    apply bufWord_kept
    · intro x3 h4
      apply gfWork_kept
      apply putBytes_kept
      assumption
    · assumption
  · assumption

theorem execEmitP_kept {base : Device} {e} {buf} {s : State} (hs : Kept base s.dev) :
    KeptB base (execEmitP e buf s) := by
  unfold execEmitP
  apply next_keptB
  · intro x1 h2
    apply bufWord_kept
    · intro x3 h4
      apply gfWork_kept
      apply putBytes_kept
      assumption
    · assumption
  · assumption

theorem execGfAccumulate_kept {base : Device} {e} {buf} {imm} {s : State} (hs : Kept base s.dev) :
    KeptB base (execGfAccumulate e buf imm s) := by
  unfold execGfAccumulate
  apply next_keptB
  · intro x1 h2
    apply bufWord_kept
    · intro x3 h4
      lift_lets
      intro v5
      clear_value v5
      apply gfWork_kept
      assumption
    · assumption
  · assumption

theorem execGfClear_kept {base : Device} {e} {s : State} (hs : Kept base s.dev) :
    KeptB base (execGfClear e s) := by
  unfold execGfClear
  apply next_keptB
  · intro x1 h2
    apply word_kept
    · intro x3 h4
      apply gfWork_kept
      assumption
    · assumption
  · assumption

theorem execAesCancel_kept {base : Device} {e} {s : State} (hs : Kept base s.dev) :
    KeptB base (execAesCancel e s) := by
  unfold execAesCancel
  apply next_keptB
  · intro x1 h2
    apply word_kept
    · intro x3 h4
      apply onEngine_kept
      · intro x5
        rfl
      · assumption
    · assumption
  · assumption

theorem queueAes_kept {base : Device} {e} {r} {d : Device} (hd : Kept base d) :
    Kept base (queueAes e r d) := by
  unfold queueAes
  apply setConds_kept
  apply onEngine_kept
  · intro x1
    rfl
  · assumption

theorem execOpenPage_kept {base : Device} {e} {buf} {s : State} (hs : Kept base s.dev) :
    KeptB base (execOpenPage e buf s) := by
  unfold execOpenPage
  apply next_keptB
  · intro x1 h2
    apply bufWord_kept
    · intro x3 h4
      split
      · assumption
      · apply queueAes_kept
        assumption
    · assumption
  · assumption

theorem sealWord_kept {base : Device} {e} {buf} {d : Device} (hd : Kept base d) :
    Kept base (sealWord e buf d) := by
  unfold sealWord
  split
  · apply reserveSeals_kept
    assumption
  · lift_lets
    intro v1
    clear_value v1
    intro v2
    clear_value v2
    intro v3
    have h4 : Kept base v3 := by
      unfold v3
      apply reserveSeals_kept
      refine Kept.mk_eq rfl rfl rfl rfl rfl rfl rfl rfl ?_
      assumption
    clear_value v3
    apply queueAes_kept
    assumption

theorem execSealPage_kept {base : Device} {e} {buf} {s : State} (hs : Kept base s.dev) :
    KeptB base (execSealPage e buf s) := by
  unfold execSealPage
  apply next_keptB
  · intro x1 h2
    apply bufWord_kept
    · intro x3 h4
      apply sealWord_kept
      assumption
    · assumption
  · assumption

theorem execDecrypt_kept {base : Device} {e} {buf} {s : State} (hs : Kept base s.dev) :
    KeptB base (execDecrypt e buf s) := by
  unfold execDecrypt
  apply next_keptB
  · intro x1 h2
    apply bufWord_kept
    · intro x3 h4
      split
      · assumption
      · apply queueAes_kept
        assumption
    · assumption
  · assumption

theorem encrypt_kept {base : Device} {e} {buf} {d : Device} (hd : Kept base d) :
    Kept base (encrypt e buf d) := by
  unfold encrypt
  split
  · assumption
  · lift_lets
    intro v1
    clear_value v1
    intro v2
    clear_value v2
    intro v3
    have h4 : KeptP base v3 := by
      unfold v3
      apply takeInvocation_kept
      assumption
    clear_value v3
    intro v5
    clear_value v5
    split
    · apply engineCond_kept
      apply KeptP.snd
      assumption
    · apply KeptP.snd
      assumption
    · lift_lets
      intro v6
      have h7 : Kept base v6 := by
        unfold v6
        apply queueAes_kept
        apply KeptP.snd
        assumption
      clear_value v6
      split
      · rename_i e8 e9 e10 e11 e12 e13 e14 e15 e16 e17 e18
        apply onChunk_kept
        assumption
      · assumption

theorem execEncrypt_kept {base : Device} {e} {buf} {s : State} (hs : Kept base s.dev) :
    KeptB base (execEncrypt e buf s) := by
  unfold execEncrypt
  apply next_keptB
  · intro x1 h2
    apply bufWord_kept
    · intro x3 h4
      apply encrypt_kept
      assumption
    · assumption
  · assumption

theorem execDiscard_kept {base : Device} {e} {s : State} (hs : Kept base s.dev) :
    KeptB base (execDiscard e s) := by
  unfold execDiscard
  apply next_keptB
  · intro x1 h2
    apply word_kept
    · intro x3 h4
      apply onEngine_kept
      · intro x5
        rfl
      · assumption
    · assumption
  · assumption

theorem decompress_kept {base : Device} {e} {buf} {d : Device} (hd : Kept base d) :
    Kept base (decompress e buf d) := by
  unfold decompress
  split
  · rename_i e1 e2 e3
    apply engineCond_kept
    apply putBytes_kept
    assumption
  · apply engineCond_kept
    assumption

theorem execDecompress_kept {base : Device} {e} {buf} {s : State} (hs : Kept base s.dev) :
    KeptB base (execDecompress e buf s) := by
  unfold execDecompress
  apply next_keptB
  · intro x1 h2
    apply bufWord_kept
    · intro x3 h4
      apply decompress_kept
      assumption
    · assumption
  · assumption

theorem compress_kept {base : Device} {e} {buf} {d : Device} (hd : Kept base d) :
    Kept base (compress e buf d) := by
  unfold compress
  lift_lets
  intro v1
  clear_value v1
  apply setConds_kept
  apply onEngine_kept
  · intro x2
    rfl
  · assumption

theorem execCompress_kept {base : Device} {e} {buf} {s : State} (hs : Kept base s.dev) :
    KeptB base (execCompress e buf s) := by
  unfold execCompress
  apply next_keptB
  · intro x1 h2
    apply bufWord_kept
    · intro x3 h4
      apply compress_kept
      assumption
    · assumption
  · assumption

theorem shaFinish_kept {base : Device} {e} {buf} {d : Device} (hd : Kept base d) :
    Kept base (shaFinish e buf d) := by
  unfold shaFinish
  split
  · apply shaDigest_kept
    assumption
  · apply onEngine_kept
    · intro x1
      rfl
    · assumption

theorem execShaFinish_kept {base : Device} {e} {buf} {s : State} (hs : Kept base s.dev) :
    KeptB base (execShaFinish e buf s) := by
  unfold execShaFinish
  apply next_keptB
  · intro x1 h2
    apply bufWord_kept
    · intro x3 h4
      apply shaFinish_kept
      assumption
    · assumption
  · assumption

theorem shaFeed_kept {base : Device} {e} {bs} {d : Device} (hd : Kept base d) :
    Kept base (shaFeed e bs d) := by
  unfold shaFeed
  apply engineCond_kept
  apply onEngine_kept
  · intro x1
    rfl
  · assumption

theorem execShaFeedBuffer_kept {base : Device} {e} {buf} {s : State} (hs : Kept base s.dev) :
    KeptB base (execShaFeedBuffer e buf s) := by
  unfold execShaFeedBuffer
  apply next_keptB
  · intro x1 h2
    apply bufWord_kept
    · intro x3 h4
      apply shaFeed_kept
      assumption
    · assumption
  · assumption

theorem execShaFeedChunk_kept {base : Device} {e} {s : State} (hs : Kept base s.dev) :
    KeptB base (execShaFeedChunk e s) := by
  unfold execShaFeedChunk
  apply next_keptB
  · intro x1 h2
    apply word_kept
    · intro x3 h4
      apply shaFeed_kept
      assumption
    · assumption
  · assumption

theorem shaBegin_kept {base : Device} {e} {pre} {d : Device} (hd : Kept base d) :
    Kept base (shaBegin e pre d) := by
  unfold shaBegin
  apply engineCond_kept
  apply onEngine_kept
  · intro x1
    rfl
  · assumption

theorem execShaStart_kept {base : Device} {e} {s : State} (hs : Kept base s.dev) :
    KeptB base (execShaStart e s) := by
  unfold execShaStart
  apply next_keptB
  · intro x1 h2
    apply word_kept
    · intro x3 h4
      apply shaBegin_kept
      assumption
    · assumption
  · assumption

theorem execShaStartPrefix_kept {base : Device} {e} {s : State} (hs : Kept base s.dev) :
    KeptB base (execShaStartPrefix e s) := by
  unfold execShaStartPrefix
  apply next_keptB
  · intro x1 h2
    apply word_kept
    · intro x3 h4
      lift_lets
      intro v5
      clear_value v5
      apply shaBegin_kept
      assumption
    · assumption
  · assumption

theorem execChunkStop_kept {base : Device} {e} {s : State} (hs : Kept base s.dev) :
    KeptB base (execChunkStop e s) := by
  unfold execChunkStop
  apply next_keptB
  · intro x1 h2
    apply word_kept
    · intro x3 h4
      apply onEngine_kept
      · intro x5
        rfl
      · assumption
    · assumption
  · assumption

theorem chunkNext_kept {base : Device} {e} {d : Device} (hd : Kept base d) :
    Kept base (chunkNext e d) := by
  unfold chunkNext
  lift_lets
  intro v1
  clear_value v1
  intro v2
  clear_value v2
  intro v3
  have h4 : Kept base v3 := by
    unfold v3
    apply setPort_kept
    apply onEngine_kept
    · intro x5
      rfl
    · assumption
  clear_value v3
  split
  · apply setConds_kept
    assumption
  · apply setConds_kept
    assumption

theorem execChunkNext_kept {base : Device} {e} {s : State} (hs : Kept base s.dev) :
    KeptB base (execChunkNext e s) := by
  unfold execChunkNext
  apply next_keptB
  · intro x1 h2
    apply word_kept
    · intro x3 h4
      apply chunkNext_kept
      assumption
    · assumption
  · assumption

theorem chunkStart_kept {base : Device} {e} {buf} {d : Device} (hd : Kept base d) :
    Kept base (chunkStart e buf d) := by
  unfold chunkStart
  lift_lets
  intro v1
  clear_value v1
  apply setConds_kept
  apply onEngine_kept
  · intro x2
    rfl
  · assumption

theorem execChunkStart_kept {base : Device} {e} {buf} {s : State} (hs : Kept base s.dev) :
    KeptB base (execChunkStart e buf s) := by
  unfold execChunkStart
  apply next_keptB
  · intro x1 h2
    apply bufWord_kept
    · intro x3 h4
      apply chunkStart_kept
      assumption
    · assumption
  · assumption

end Sys2Proof.Machine
end

