-- ==== Sys2Proof/Laws/KeptF.lean ====
section
/-! SUPPORT. What no operation of DictBase, Owners, CipherCmd, Hold, Peers takes back: `Kept` through each. -/

namespace Sys2Proof.Machine

/-! ## DictBase -/

theorem setWayLock_kept {base : Device} {way} {l} {d : Device} (hd : Kept base d) :
    Kept base (setWayLock way l d) := by
  unfold setWayLock
  refine Kept.mk_eq rfl rfl rfl rfl rfl rfl rfl rfl ?_
  assumption

theorem persist_kept {base : Device} {d : Device} (hd : Kept base d) :
    Kept base (persist d) := by
  unfold persist
  lift_lets
  intro v1
  clear_value v1
  intro v2
  clear_value v2
  intro v3
  clear_value v3
  intro v4
  clear_value v4
  split
  · refine Kept.mk_eq rfl rfl rfl rfl rfl rfl rfl rfl ?_
    assumption
  · refine Kept.mk_eq rfl rfl rfl rfl rfl rfl rfl rfl ?_
    assumption

theorem closeSessions_kept {base : Device} {f} {d : Device} (hd : Kept base d) :
    Kept base (closeSessions f d) := by
  unfold closeSessions
  lift_lets
  intro v1
  clear_value v1
  intro v2
  clear_value v2
  refine Kept.mk_eq rfl rfl rfl rfl rfl rfl rfl rfl ?_
  assumption

theorem closeSession_kept {base : Device} {acc} {d : Device} (hd : Kept base d) :
    Kept base (closeSession acc d) := by
  unfold closeSession
  apply closeSessions_kept
  assumption

theorem syncWrite_kept {base : Device} {acc} {reply} {idx} {sub} {sel} {v} {d : Device} (hd : Kept base d) :
    Kept base (syncWrite acc reply idx sub sel v d) := by
  unfold syncWrite
  lift_lets
  intro v1
  clear_value v1
  intro v2
  clear_value v2
  intro v3
  clear_value v3
  apply sendLink_kept
  refine Kept.mk_eq rfl rfl rfl rfl rfl rfl rfl rfl ?_
  assumption

theorem sessionEvent_kept {base : Device} {kind} {record} {way} {d : Device} (hd : Kept base d) :
    Kept base (sessionEvent kind record way d) := by
  unfold sessionEvent
  apply logEvent_kept
  assumption

theorem sessionResponse_kept {base : Device} {acc} {sig} {d : Device} (hd : Kept base d) :
    KeptR base (sessionResponse acc sig d) := by
  unfold sessionResponse
  lift_lets
  intro v1
  clear_value v1
  intro v2
  clear_value v2
  intro v3
  clear_value v3
  intro v4
  have h5 : Kept base v4 := by
    unfold v4
    refine Kept.mk_eq rfl rfl rfl rfl rfl rfl rfl rfl ?_
    assumption
  clear_value v4
  intro v6
  clear_value v6
  intro v7
  have h8 : Kept base v7 := by
    unfold v7
    apply sessionEvent_kept
    assumption
  clear_value v7
  intro v9
  have h10 : Kept base v9 := by
    unfold v9
    apply setWayLock_kept
    assumption
  clear_value v9
  split
  · apply KeptR.fail
    assumption
  · split
    · apply KeptR.fail
      assumption
    · split
      · apply KeptR.fail
        assumption
      · rename_i e11 e12 e13 e14 e15
        split
        · apply KeptR.fail
          assumption
        · split
          · apply KeptR.fail
            assumption
          · split
            · rename_i e16 e17 e18 e19 e20
              lift_lets
              intro v21
              clear_value v21
              intro v22
              have h23 : Kept base v22 := by
                unfold v22
                refine Kept.mk_eq rfl rfl rfl rfl rfl rfl rfl rfl ?_
                assumption
              clear_value v22
              apply KeptR.done
              apply sessionEvent_kept
              apply setWayLock_kept
              assumption
            · split
              · apply KeptR.fail
                apply setWayLock_kept
                assumption
              · apply KeptR.fail
                apply sendEmcy_kept
                apply sessionEvent_kept
                assumption

theorem setCursor_kept {base : Device} {c} {d : Device} (hd : Kept base d) :
    Kept base (setCursor c d) := by
  unfold setCursor
  refine Kept.mk_eq rfl rfl rfl rfl rfl rfl rfl rfl ?_
  assumption

theorem stepCursor_kept {base : Device} {acc} {win} {d : Device} (hd : Kept base d) :
    Kept base (stepCursor acc win d) := by
  unfold stepCursor
  lift_lets
  intro v1
  clear_value v1
  split
  · apply setCursor_kept
    assumption
  · assumption

theorem cursorWrite_kept {base : Device} {acc} {win} {sub} {v} {d : Device} (hd : Kept base d) :
    KeptR base (cursorWrite acc win sub v d) := by
  unfold cursorWrite
  lift_lets
  intro v1
  clear_value v1
  split
  · split
    · apply KeptR.fail
      assumption
    · apply KeptR.done
      apply setCursor_kept
      assumption
  · split
    · apply KeptR.fail
      assumption
    · apply KeptR.done
      apply setCursor_kept
      assumption

theorem touchSession_kept {base : Device} {acc} {d : Device} (hd : Kept base d) :
    Kept base (touchSession acc d) := by
  unfold touchSession
  refine Kept.mk_eq rfl rfl rfl rfl rfl rfl rfl rfl ?_
  assumption

theorem challengeRead_kept {base : Device} {acc} {d : Device} (hd : Kept base d) :
    KeptE base (challengeRead acc d) := by
  unfold challengeRead
  split
  · exact KeptE.error
  · lift_lets
    intro v1
    have h2 : KeptP base v1 := by
      unfold v1
      apply drawBytes_kept
      assumption
    clear_value v1
    intro v3
    have h4 : Kept base v3 := by
      unfold v3
      apply KeptP.snd
      assumption
    clear_value v3
    intro v5
    clear_value v5
    apply KeptE.ok
    refine Kept.mk_eq rfl rfl rfl rfl rfl rfl rfl rfl ?_
    assumption

theorem execAssemblyTimeout_kept {base : Device} {acc} {s : State} (hs : Kept base s.dev) :
    KeptB base (execAssemblyTimeout acc s) := by
  unfold execAssemblyTimeout
  apply next_keptB
  · intro x1 h2
    split
    · rename_i e3 e4 e5
      lift_lets
      intro v6
      have h7 : Kept base v6 := by
        unfold v6
        apply waitUntil_kept
        assumption
      clear_value v6
      intro v8
      clear_value v8
      refine Kept.mk_eq rfl rfl rfl rfl rfl rfl rfl rfl ?_
      assumption
    · assumption
  · assumption

theorem execChallengeExpiry_kept {base : Device} {acc} {s : State} (hs : Kept base s.dev) :
    KeptB base (execChallengeExpiry acc s) := by
  unfold execChallengeExpiry
  apply next_keptB
  · intro x1 h2
    split
    · rename_i e3 e4 e5
      lift_lets
      intro v6
      have h7 : Kept base v6 := by
        unfold v6
        apply waitUntil_kept
        assumption
      clear_value v6
      intro v8
      clear_value v8
      refine Kept.mk_eq rfl rfl rfl rfl rfl rfl rfl rfl ?_
      assumption
    · assumption
  · assumption

theorem execSessionLockoutExpiry_kept {base : Device} {inband} {s : State} (hs : Kept base s.dev) :
    KeptB base (execSessionLockoutExpiry inband s) := by
  unfold execSessionLockoutExpiry
  apply next_keptB
  · intro x1 h2
    lift_lets
    intro v3
    clear_value v3
    split
    · rename_i e4 e5 e6
      apply setWayLock_kept
      apply waitUntil_kept
      assumption
    · assumption
  · assumption

theorem execSessionIdleTimeout_kept {base : Device} {acc} {s : State} (hs : Kept base s.dev) :
    KeptB base (execSessionIdleTimeout acc s) := by
  unfold execSessionIdleTimeout
  apply next_keptB
  · intro x1 h2
    split
    · rename_i e3 e4 e5
      apply closeSession_kept
      apply waitUntil_kept
      assumption
    · assumption
  · assumption

/-! ## Owners -/

theorem ownerEvent_kept {base : Device} {kind} {n} {d : Device} (hd : Kept base d) :
    Kept base (ownerEvent kind n d) := by
  unfold ownerEvent
  apply logEvent_kept
  assumption

/-- A record is programmed over a blank one. -/
theorem programOwner_kept {base : Device} {n key secret} {d : Device} (hb : (ownerOf n d).st = .blank) (hd : Kept base d) :
    KeptO base (programOwner n key secret d) := by
  unfold programOwner
  split
  · refine KeptO.some (ownerEvent_kept (setOwner_kept (fun h => nomatch h) (fun _ => ?_) hd))
    have : n - 1 < d.sec.owners.length := by
      by_contra hl
      simp [ownerOf, List.getD_eq_getElem?_getD, List.getElem?_eq_none (not_lt.1 hl)] at hb
    simpa [Device.ownerAt, ownerOf, List.getD_eq_getElem?_getD, List.getElem?_eq_getElem this] using hb
  · exact KeptO.none

theorem spendOwner_kept {base : Device} {n} {d : Device} (hd : Kept base d) : Kept base (spendOwner n d) :=
  closeSessions_kept (ownerEvent_kept (setOwner_kept (fun h => nomatch h) (fun h => nomatch h) hd))

theorem revokeOwner_kept {base : Device} {n} {d : Device} (hd : Kept base d) : Kept base (revokeOwner n d) :=
  closeSessions_kept (ownerEvent_kept (setOwner_kept (fun h => nomatch h) (fun h => nomatch h) hd))

theorem followRevoked_kept {base : Device} {n} {d : Device} (hd : Kept base d) :
    Kept base (followRevoked n d) := by
  unfold followRevoked
  split
  · apply revokeOwner_kept
    assumption
  · apply spendOwner_kept
    assumption
  · assumption

theorem ackSecure_kept {base : Device} {count} {d : Device} (hd : Kept base d) :
    Kept base (ackSecure count d) := by
  unfold ackSecure
  apply sendSecure_kept
  assumption

theorem ownerRecord_kept {base : Device} {n key secret count} {d : Device} (hd : Kept base d) :
    Kept base (ownerRecord n key secret count d) := by
  unfold ownerRecord
  split
  · extract_lets r
    split
    · split
      · exact ackSecure_kept (Kept.foldl (fun _ _ h => answer_kept h)
          (spendOwner_kept (Kept.mk_eq rfl rfl rfl rfl rfl rfl rfl rfl hd)))
      · exact ackSecure_kept (followRevoked_kept hd)
    · exact ackSecure_kept (followRevoked_kept hd)
  · extract_lets o give
    have hg : ∀ {x}, Kept base x → Kept base (give x) := fun h => sendSecure_kept h
    split
    · exact hg hd
    · split
      · exact ackSecure_kept hd
      · split
        · exact hg hd
        · rename_i hb
          have hb' : (ownerOf n d).st = .blank := by simpa [o] using hb
          split
          · rename_i d1 h1
            exact ackSecure_kept (KeptO.out h1 (programOwner_kept hb' hd))
          · exact hg (spendOwner_kept hd)

theorem acceptSecure_kept {base : Device} {y0} {count} {tagOk} {f} {d : Device} (hf : ∀ w0, Kept base w0 → Kept base (f w0)) (hd : Kept base d) :
    Kept base (acceptSecure y0 count tagOk f d) := by
  unfold acceptSecure
  apply acceptFrame_kept
  · intro x1 h2
    split
    · apply logEvent_kept
      assumption
    · apply hf
      refine Kept.mk_eq rfl rfl rfl rfl rfl rfl rfl rfl ?_
      assumption
  · assumption

theorem execOwnerRecord_kept {base : Device} {y0} {count} {tagOk} {n} {pub} {secret} {s : State} (hs : Kept base s.dev) :
    KeptB base (execOwnerRecord y0 count tagOk n pub secret s) := by
  unfold execOwnerRecord
  apply next_keptB
  · intro x1 h2
    apply acceptSecure_kept
    · intro x3 h4
      apply ownerRecord_kept
      assumption
    · assumption
  · assumption

theorem secureAcked_kept {base : Device} {acked} {d : Device} (hd : Kept base d) :
    Kept base (secureAcked acked d) := by
  unfold secureAcked
  lift_lets
  intro v1
  clear_value v1
  intro v2
  clear_value v2
  intro v3 v4
  have h5 : Kept base v4 := by
    unfold v4
    refine Kept.mk_eq rfl rfl rfl rfl rfl rfl rfl rfl ?_
    assumption
  clear_value v4
  apply Kept.foldl
  · intro x6 x7 h8
    lift_lets
    intro v9
    have h10 : Kept base v9 := by
      unfold v9
      split
      · refine Kept.mk_eq rfl rfl rfl rfl rfl rfl rfl rfl ?_
        assumption
      · assumption
    clear_value v9
    apply answer_kept
    assumption
  · assumption

theorem execSecureAck_kept {base : Device} {y0} {count} {tagOk} {acked} {s : State} (hs : Kept base s.dev) :
    KeptB base (execSecureAck y0 count tagOk acked s) := by
  unfold execSecureAck
  apply next_keptB
  · intro x1 h2
    apply acceptSecure_kept
    · intro x3 h4
      apply secureAcked_kept
      assumption
    · assumption
  · assumption

theorem takeGear_kept {base : Device} {generation} {entries} {d : Device} (hd : Kept base d) :
    Kept base (takeGear generation entries d) := by
  unfold takeGear
  lift_lets
  intro v1
  have h2 : Kept base v1 := by
    unfold v1
    apply Kept.foldl
    · intro x3 x4 h5
      apply odPutSel_kept
      assumption
    · assumption
  clear_value v1
  intro v6
  have h7 : Kept base v6 := by
    unfold v6
    apply Kept.foldl
    · intro x8 x9 h10
      apply clearSlot_kept
      assumption
    · assumption
  clear_value v6
  intro v11
  clear_value v11
  intro v12
  have h13 : Kept base v12 := by
    unfold v12
    refine Kept.mk_eq rfl rfl rfl rfl rfl rfl rfl rfl ?_
    assumption
  clear_value v12
  apply persist_kept
  apply bumpVersion_kept
  apply odPut_kept
  assumption

theorem execGear_kept {base : Device} {y0} {count} {tagOk} {generation} {entries} {s : State} (hs : Kept base s.dev) :
    KeptB base (execGear y0 count tagOk generation entries s) := by
  unfold execGear
  apply next_keptB
  · intro x1 h2
    apply acceptSecure_kept
    · intro x3 h4
      apply ackSecure_kept
      apply takeGear_kept
      assumption
    · assumption
  · assumption

theorem takeSalt_kept {base : Device} {domain} {value} {d : Device} (hd : Kept base d) :
    Kept base (takeSalt domain value d) := by
  unfold takeSalt
  split
  · assumption
  · refine Kept.mk_eq rfl rfl rfl rfl rfl rfl rfl rfl ?_
    assumption

theorem execSalt_kept {base : Device} {y0} {count} {tagOk} {domain} {value} {s : State} (hs : Kept base s.dev) :
    KeptB base (execSalt y0 count tagOk domain value s) := by
  unfold execSalt
  apply next_keptB
  · intro x1 h2
    apply acceptSecure_kept
    · intro x3 h4
      apply ackSecure_kept
      apply takeSalt_kept
      assumption
    · assumption
  · assumption

theorem execHashSecret_kept {base : Device} {y0} {count} {tagOk} {secret} {s : State} (hs : Kept base s.dev) :
    KeptB base (execHashSecret y0 count tagOk secret s) := by
  unfold execHashSecret
  apply next_keptB
  · intro x1 h2
    apply acceptSecure_kept
    · intro x3 h4
      apply ackSecure_kept
      refine Kept.mk_eq rfl rfl rfl rfl rfl rfl rfl rfl ?_
      assumption
    · assumption
  · assumption

theorem execMapKey_kept {base : Device} {y0} {count} {tagOk} {key} {s : State} (hs : Kept base s.dev) :
    KeptB base (execMapKey y0 count tagOk key s) := by
  unfold execMapKey
  apply next_keptB
  · intro x1 h2
    apply acceptSecure_kept
    · intro x3 h4
      apply ackSecure_kept
      refine Kept.mk_eq rfl rfl rfl rfl rfl rfl rfl rfl ?_
      assumption
    · assumption
  · assumption

theorem takeSlotKey_kept {base : Device} {slot} {tenant} {keygen} {key} {d : Device} (hd : Kept base d) :
    Kept base (takeSlotKey slot tenant keygen key d) := by
  unfold takeSlotKey
  lift_lets
  intro v1
  clear_value v1
  intro v2
  have h3 : Kept base v2 := by
    unfold v2
    refine Kept.mk_eq rfl rfl rfl rfl rfl rfl rfl rfl ?_
    assumption
  clear_value v2
  intro v4
  clear_value v4
  intro v5
  clear_value v5
  intro v6
  clear_value v6
  intro v7
  clear_value v7
  split
  · apply putSlot_kept
    assumption
  · apply recordLimit_kept
    apply putSlot_kept
    assumption

theorem execSlotKey_kept {base : Device} {y0} {count} {tagOk} {slot} {tenant} {keygen} {key} {s : State} (hs : Kept base s.dev) :
    KeptB base (execSlotKey y0 count tagOk slot tenant keygen key s) := by
  unfold execSlotKey
  apply next_keptB
  · intro x1 h2
    apply acceptSecure_kept
    · intro x3 h4
      split
      · assumption
      · apply ackSecure_kept
        apply takeSlotKey_kept
        assumption
    · assumption
  · assumption

theorem holdSecure_kept {base : Device} {acc} {reply} {idx} {sub} {sel} {m} {d : Device} (hd : Kept base d) :
    Kept base (holdSecure acc reply idx sub sel m d) := by
  unfold holdSecure
  lift_lets
  intro v1
  clear_value v1
  intro v2
  clear_value v2
  apply sendSecure_kept
  refine Kept.mk_eq rfl rfl rfl rfl rfl rfl rfl rfl ?_
  assumption

theorem ownerRevoke_kept {base : Device} {acc} {reply} {n} {d : Device} (hd : Kept base d) :
    KeptR base (ownerRevoke acc reply n d) := by
  unfold ownerRevoke
  split
  · apply KeptR.fail
    assumption
  · split
    · apply KeptR.fail
      assumption
    · split
      · apply KeptR.fail
        assumption
      · rename_i e1 e2 e3 e4 e5
        lift_lets
        intro v6
        have h7 : Kept base v6 := by
          unfold v6
          apply revokeOwner_kept
          assumption
        clear_value v6
        intro v8
        split
        · apply KeptR.done
          assumption
        · apply KeptR.held
          apply holdSecure_kept
          refine Kept.mk_eq rfl rfl rfl rfl rfl rfl rfl rfl ?_
          assumption

theorem enrolCheck_blank {acc v d n key secret} (h : enrolCheck acc v d = .ok (n, key, secret)) :
    (ownerOf n d).st = .blank := by
  unfold enrolCheck at h
  extract_lets n0 pub k sec at h
  split at h
  · cases h
  · split at h
    · cases h
    · rename_i hb
      have hn : n = n0 := by
        split at h
        · cases h
        · cases h
        · split at h
          · split at h
            · simp only [Except.ok.injEq, Prod.mk.injEq] at h; exact h.1.symm
            · cases h
          · split at h
            · simp only [Except.ok.injEq, Prod.mk.injEq] at h; exact h.1.symm
            · cases h
      subst hn
      simp at hb
      exact hb.2

theorem ownerEnrol_kept {base : Device} {acc reply v} {d : Device} (hd : Kept base d) :
    KeptR base (ownerEnrol acc reply v d) := by
  unfold ownerEnrol
  split
  · exact KeptR.fail hd
  · rename_i n key secret hc
    have hb := enrolCheck_blank hc
    split
    · exact KeptR.fail hd
    · split
      · apply KeptR.fail
        split
        · exact spendOwner_kept hd
        · exact sendSecure_kept (spendOwner_kept hd)
      · rename_i d1 h1
        have hk : Kept base d1 := KeptO.out h1 (programOwner_kept hb hd)
        split
        · exact KeptR.done hk
        · exact KeptR.held (holdSecure_kept (Kept.mk_eq rfl rfl rfl rfl rfl rfl rfl rfl hk))

/-! ## CipherCmd -/

theorem interruptCmds_kept {base : Device} {f} {d : Device} (hd : Kept base d) :
    Kept base (interruptCmds f d) := by
  unfold interruptCmds
  apply Kept.foldl
  · intro x1 x2 h3
    apply failCmd_kept
    assumption
  · assumption

theorem cancelDescriptors_kept {base : Device} {d : Device} (hd : Kept base d) :
    Kept base (cancelDescriptors d) := by
  unfold cancelDescriptors
  lift_lets
  intro v1
  clear_value v1
  intro v2 v3
  have h4 : Kept base v3 := by
    unfold v3
    refine Kept.mk_eq rfl rfl rfl rfl rfl rfl ?_ rfl ?_
    · exact memories_map fun _ => rfl
    · assumption
  clear_value v3
  apply Kept.foldl
  · intro x5 x6 h7
    apply descriptorReturn_kept
    assumption
  · assumption

theorem clearCache_kept {base : Device} {d : Device} (hd : Kept base d) :
    Kept base (clearCache d) := by
  unfold clearCache
  split
  · assumption
  · apply logEvent_kept
    apply odBump_kept
    refine Kept.mk_eq rfl rfl rfl rfl rfl rfl rfl rfl ?_
    assumption

theorem zeroiseSlots_kept {base : Device} {d : Device} (hd : Kept base d) :
    Kept base (zeroiseSlots d) := by
  unfold zeroiseSlots
  lift_lets
  intro v1 v2
  clear_value v2
  apply bumpVersion_kept
  refine Kept.mk_eq rfl rfl rfl rfl rfl rfl rfl rfl ?_
  assumption

theorem abortSlotWrites_kept {base : Device} {d : Device} (hd : Kept base d) :
    Kept base (abortSlotWrites d) := by
  unfold abortSlotWrites
  lift_lets
  intro v1
  clear_value v1
  intro v2
  clear_value v2
  intro v3
  have h4 : Kept base v3 := by
    unfold v3
    refine Kept.mk_eq rfl rfl rfl rfl rfl rfl rfl rfl ?_
    assumption
  clear_value v3
  apply Kept.foldl
  · intro x5 x6 h7
    lift_lets
    intro v8
    have h9 : Kept base v8 := by
      unfold v8
      split
      · apply clearSlot_kept
        assumption
      · assumption
    clear_value v8
    apply answer_kept
    assumption
  · assumption

theorem alarm_kept {base : Device} {d : Device} (hd : Kept base d) :
    Kept base (alarm d) := by
  unfold alarm
  lift_lets
  intro v1
  have h2 : Kept base v1 := by
    unfold v1
    apply abortSlotWrites_kept
    assumption
  clear_value v1
  intro v3
  have h4 : Kept base v3 := by
    unfold v3
    apply zeroiseSlots_kept
    assumption
  clear_value v3
  intro v5
  have h6 : Kept base v5 := by
    unfold v5
    apply clearCache_kept
    assumption
  clear_value v5
  intro v7
  clear_value v7
  intro v8
  clear_value v8
  intro v9 v10
  have h11 : Kept base v10 := by
    unfold v10
    refine Kept.mk_eq rfl rfl rfl rfl rfl rfl rfl rfl ?_
    assumption
  clear_value v10
  intro v12
  have h13 : Kept base v12 := by
    unfold v12
    apply cancelDescriptors_kept
    assumption
  clear_value v12
  intro v14
  have h15 : Kept base v14 := by
    unfold v14
    apply interruptCmds_kept
    assumption
  clear_value v14
  intro v16
  have h17 : Kept base v16 := by
    unfold v16
    apply closeSessions_kept
    assumption
  clear_value v16
  intro v18
  have h19 : Kept base v18 := by
    unfold v18
    apply odBump_kept
    assumption
  clear_value v18
  apply raiseEmcy_kept
  apply logEvent_kept
  assumption

theorem alarmTrip_kept {base : Device} {sources} {d : Device} (hd : Kept base d) :
    Kept base (alarmTrip sources d) := by
  unfold alarmTrip
  lift_lets
  intro v1
  clear_value v1
  intro v2 v3
  have h4 : Kept base v3 := by
    unfold v3
    refine Kept.mk_eq rfl rfl rfl rfl rfl rfl rfl rfl ?_
    assumption
  clear_value v3
  intro v5
  have h6 : Kept base v5 := by
    unfold v5
    apply closeSessions_kept
    assumption
  clear_value v5
  intro v7 v8
  clear_value v8
  split
  · assumption
  · split
    · refine Kept.mk_eq rfl rfl rfl rfl rfl rfl rfl rfl ?_
      assumption
    · split
      · assumption
      · apply alarm_kept
        assumption

theorem renewKey_kept {base : Device} {n} {tenant} {d : Device} (hd : Kept base d) :
    Kept base (renewKey n tenant d) := by
  unfold renewKey
  split
  · lift_lets
    intro v1
    clear_value v1
    intro v2
    clear_value v2
    apply putSlot_kept
    assumption
  · lift_lets
    intro v3
    have h4 : Kept base v3 := by
      unfold v3
      apply freshKey_kept
      assumption
    clear_value v3
    intro v5
    clear_value v5
    split
    · apply sendSecure_kept
      assumption
    · assumption

theorem reloadSlot_kept {base : Device} {d : Device} {n} (hd : Kept base d) :
    Kept base (reloadSlot d n) := by
  unfold reloadSlot
  lift_lets
  intro v1
  clear_value v1
  intro v2
  clear_value v2
  split
  · assumption
  · split
    · split
      · rename_i e3 e4 e5 e6 e7
        apply recordLimit_kept
        apply putSlot_kept
        assumption
      · apply renewKey_kept
        apply putSlot_kept
        assumption
    · apply restartCounters_kept
      apply putSlot_kept
      assumption

theorem reloadComplete_kept {base : Device} {d : Device} (hd : Kept base d) :
    Kept base (reloadComplete d) := by
  unfold reloadComplete
  split
  · assumption
  · lift_lets
    intro v1
    clear_value v1
    intro v2
    clear_value v2
    intro v3
    clear_value v3
    intro v4
    have h5 : Kept base v4 := by
      unfold v4
      refine Kept.mk_eq rfl rfl rfl rfl rfl rfl rfl rfl ?_
      assumption
    clear_value v4
    intro v6
    have h7 : Kept base v6 := by
      unfold v6
      apply Kept.foldl
      · intro x8 x9 h10
        apply reloadSlot_kept
        assumption
      · assumption
    clear_value v6
    intro v11
    have h12 : Kept base v11 := by
      unfold v11
      apply clearEmcy_kept
      apply logEvent_kept
      assumption
    clear_value v11
    intro v13
    clear_value v13
    intro v14
    clear_value v14
    intro v15
    have h16 : Kept base v15 := by
      unfold v15
      refine Kept.mk_eq rfl rfl rfl rfl rfl rfl rfl rfl ?_
      assumption
    clear_value v15
    apply settle_kept
    apply Kept.foldl
    · intro x17 x18 h19
      apply answer_kept
      assumption
    · assumption

theorem execAlarmReloadComplete_kept {base : Device} {s : State} (hs : Kept base s.dev) :
    KeptB base (execAlarmReloadComplete s) := by
  unfold execAlarmReloadComplete
  apply next_keptB
  · intro x1 h2
    apply reloadComplete_kept
    assumption
  · assumption

theorem execAlarm_kept {base : Device} {sources} {s : State} (hs : Kept base s.dev) :
    KeptB base (execAlarm sources s) := by
  unfold execAlarm
  apply next_keptB
  · intro x1 h2
    apply alarmTrip_kept
    assumption
  · assumption

theorem eraseSlot_kept {base : Device} {d : Device} {n} (hd : Kept base d) :
    Kept base (eraseSlot d n) := by
  unfold eraseSlot
  lift_lets
  intro v1
  clear_value v1
  split
  · apply renewKey_kept
    assumption
  · apply emptySlot_kept
    assumption
  · split
    · apply putSlot_kept
      assumption
    · apply emptySlot_kept
      assumption
  · assumption

theorem dropNamespaces_kept {base : Device} {nss} {d : Device} (hd : Kept base d) :
    Kept base (dropNamespaces nss d) := by
  unfold dropNamespaces
  lift_lets
  intro v1
  clear_value v1
  intro v2
  clear_value v2
  intro v3
  have h4 : Kept base v3 := by
    unfold v3
    apply Kept.foldl
    · intro x5 x6 h7
      apply touchMap_kept
      apply journalRecord_kept
      assumption
    · assumption
  clear_value v3
  intro v8
  have h9 : Kept base v8 := by
    unfold v8
    apply Kept.foldl
    · intro x10 x11 h12
      apply snapRecord_kept
      assumption
    · assumption
  clear_value v8
  intro v13
  clear_value v13
  intro v14
  have h15 : Kept base v14 := by
    unfold v14
    apply Kept.foldl
    · intro x16 x17 h18
      apply dropLocator_kept
      assumption
    · assumption
  clear_value v14
  intro v19
  clear_value v19
  intro v20
  clear_value v20
  refine Kept.mk_eq rfl rfl rfl rfl rfl rfl rfl rfl ?_
  assumption

theorem endOperations_kept {base : Device} {nss} {d : Device} (hd : Kept base d) :
    Kept base (endOperations nss d) := by
  unfold endOperations
  lift_lets
  intro v1
  clear_value v1
  intro v2
  have h3 : Kept base v2 := by
    unfold v2
    apply Kept.foldl
    · intro x4 x5 h6
      apply endSlot_kept
      assumption
    · assumption
  clear_value v2
  intro v7
  apply Kept.foldl
  · intro x8 x9 h10
    split
    · apply sessionTo_kept
      apply rewindSession_kept
      apply onSession_kept
      assumption
    · assumption
  · assumption

theorem tenantErase_kept {base : Device} {t} {d : Device} (hd : Kept base d) :
    Kept base (tenantErase t d) := by
  unfold tenantErase
  lift_lets
  intro v1
  clear_value v1
  intro v2
  have h3 : Kept base v2 := by
    unfold v2
    apply interruptCmds_kept
    assumption
  clear_value v2
  intro v4
  have h5 : Kept base v4 := by
    unfold v4
    apply endOperations_kept
    assumption
  clear_value v4
  intro v6
  have h7 : Kept base v6 := by
    unfold v6
    apply dropNamespaces_kept
    assumption
  clear_value v6
  intro v8
  clear_value v8
  intro v9
  clear_value v9
  intro v10
  have h11 : Kept base v10 := by
    unfold v10
    apply Kept.foldl
    · intro x12 x13 h14
      apply killCopy_kept
      assumption
    · assumption
  clear_value v10
  intro v15
  clear_value v15
  intro v16
  have h17 : Kept base v16 := by
    unfold v16
    refine Kept.mk_eq rfl rfl rfl rfl rfl rfl rfl rfl ?_
    assumption
  clear_value v16
  intro v18
  have h19 : Kept base v18 := by
    unfold v18
    apply dropCache_kept
    assumption
  clear_value v18
  intro v20
  have h21 : Kept base v20 := by
    unfold v20
    apply Kept.foldl
    · intro x22 x23 h24
      apply eraseSlot_kept
      assumption
    · assumption
  clear_value v20
  split
  · apply logEvent_kept
    assumption
  · assumption

theorem slotRetire_kept {base : Device} {slot} {d : Device} (hd : Kept base d) :
    Kept base (slotRetire slot d) := by
  unfold slotRetire
  lift_lets
  intro v1
  clear_value v1
  split
  · apply putSlot_kept
    assumption
  · split
    · apply putSlot_kept
      assumption
    · assumption

theorem reload_kept {base : Device} {acc} {reply} {d : Device} (hd : Kept base d) :
    KeptR base (reload acc reply d) := by
  unfold reload
  split
  · apply KeptR.fail
    assumption
  · lift_lets
    intro v1
    clear_value v1
    intro v2
    clear_value v2
    intro v3
    clear_value v3
    apply KeptR.held
    refine Kept.mk_eq rfl rfl rfl rfl rfl rfl rfl rfl ?_
    assumption

theorem placeSlotAction_kept {base : Device} {acc} {reply} {action} {arg} {d : Device} (hd : Kept base d) :
    KeptR base (placeSlotAction acc reply action arg d) := by
  unfold placeSlotAction
  split
  · apply KeptR.fail
    assumption
  · apply KeptR.held
    apply placePaired_kept
    assumption

theorem eraseTenantCmd_kept {base : Device} {acc} {reply} {tenant} {d : Device} (hd : Kept base d) :
    KeptR base (eraseTenantCmd acc reply tenant d) := by
  unfold eraseTenantCmd
  split
  · apply KeptR.fail
    assumption
  · apply placeSlotAction_kept
    assumption

theorem retire_kept {base : Device} {acc} {reply} {slot} {d : Device} (hd : Kept base d) :
    KeptR base (retire acc reply slot d) := by
  unfold retire
  split
  · apply KeptR.fail
    assumption
  · apply placeSlotAction_kept
    assumption

theorem generate_kept {base : Device} {acc} {reply} {slot} {tenant} {d : Device} (hd : Kept base d) :
    KeptR base (generate acc reply slot tenant d) := by
  unfold generate
  split
  · apply KeptR.fail
    assumption
  · split
    · apply KeptR.fail
      assumption
    · rename_i e1 e2 e3 e4
      lift_lets
      intro v5
      have h6 : Kept base v5 := by
        unfold v5
        apply freshKey_kept
        assumption
      clear_value v5
      intro v7
      clear_value v7
      split
      · apply KeptR.done
        assumption
      · apply KeptR.held
        apply holdSecure_kept
        assumption

theorem slotCommand_kept {base : Device} {acc} {reply} {v} {d : Device} (hd : Kept base d) :
    KeptR base (slotCommand acc reply v d) := by
  unfold slotCommand
  lift_lets
  intro v1
  clear_value v1
  intro v2
  clear_value v2
  intro v3
  clear_value v3
  split
  · apply generate_kept
    assumption
  · split
    · apply retire_kept
      assumption
    · split
      · apply eraseTenantCmd_kept
        assumption
      · split
        · apply reload_kept
          assumption
        · apply KeptR.fail
          assumption

/-! ## Hold -/

theorem flushThrough_kept {base : Device} {d : Device} (hd : Kept base d) :
    Kept base (flushThrough d) := by
  unfold flushThrough
  lift_lets
  intro v1
  clear_value v1
  apply flushWriteAll_kept
  assumption

theorem refreshDirty_kept {base : Device} {d : Device} (hd : Kept base d) :
    Kept base (refreshDirty d) := by
  unfold refreshDirty
  split
  · assumption
  · lift_lets
    intro v1
    have h2 : Kept base v1 := by
      unfold v1
      apply odPut_kept
      assumption
    clear_value v1
    intro v3
    clear_value v3
    intro v4
    have h5 : Kept base v4 := by
      unfold v4
      split
      · apply logEvent_kept
        assumption
      · assumption
    clear_value v4
    intro v6
    clear_value v6
    intro v7
    have h8 : Kept base v7 := by
      unfold v7
      refine Kept.mk_eq rfl rfl rfl rfl rfl rfl rfl rfl ?_
      assumption
    clear_value v7
    intro v9
    clear_value v9
    intro v10
    clear_value v10
    intro v11
    have h12 : Kept base v11 := by
      unfold v11
      split
      · assumption
      · apply logEvent_kept
        apply odPut_kept
        assumption
    clear_value v11
    intro v13
    clear_value v13
    intro v14
    have h15 : Kept base v14 := by
      unfold v14
      refine Kept.mk_eq rfl rfl rfl rfl rfl rfl rfl rfl ?_
      assumption
    clear_value v14
    intro v16
    clear_value v16
    intro v17
    have h18 : Kept base v17 := by
      unfold v17
      split
      · apply flushThrough_kept
        apply setCond_kept
        assumption
      · apply setCond_kept
        assumption
    clear_value v17
    split
    · apply settle_kept
      assumption
    · assumption

/-! ## Peers -/

theorem interruptForwarded_kept {base : Device} {st} {d : Device} (hd : Kept base d) :
    Kept base (interruptForwarded st d) := by
  unfold interruptForwarded
  lift_lets
  intro v1
  clear_value v1
  apply Kept.foldl
  · intro x2 x3 h4
    lift_lets
    intro v5
    clear_value v5
    apply failCmd_kept
    apply Kept.foldl
    · intro x6 x7 h8
      apply removeCmd_kept
      assumption
    · assumption
  · assumption

theorem remakeClaim_kept {base : Device} {again} {d : Device} {r} (hd : Kept base d) :
    Kept base (remakeClaim again d r) := by
  unfold remakeClaim
  split
  · lift_lets
    intro v1
    clear_value v1
    intro v2
    have h3 : Kept base v2 := by
      unfold v2
      refine Kept.mk_eq rfl rfl rfl rfl rfl rfl rfl rfl ?_
      assumption
    clear_value v2
    split
    · assumption
    · rename_i e4 e5 e6 e7 e8 e9 e10 e11
      split
      · assumption
      · split
        · apply claimChunk_kept
          apply onChunk_kept
          assumption
        · apply onChunk_kept
          assumption
  · assumption

theorem remakeClaims_kept {base : Device} {again} {d : Device} (hd : Kept base d) :
    Kept base (remakeClaims again d) := by
  unfold remakeClaims
  lift_lets
  intro v1 v2
  clear_value v2
  intro v3
  clear_value v3
  apply Kept.foldl
  · intro x4 x5 h6
    apply remakeClaim_kept
    assumption
  · refine Kept.mk_eq rfl rfl rfl rfl rfl rfl rfl rfl ?_
    assumption

theorem askArbiter_kept {base : Device} {d : Device} (hd : Kept base d) :
    Kept base (askArbiter d) := by
  unfold askArbiter
  lift_lets
  intro v1
  clear_value v1
  intro v2
  have h3 : Kept base v2 := by
    unfold v2
    refine Kept.mk_eq rfl rfl rfl rfl rfl rfl rfl rfl ?_
    assumption
  clear_value v2
  apply raiseEmcy_kept
  apply logEvent_kept
  assumption

theorem dropPeerLocks_kept {base : Device} {d : Device} (hd : Kept base d) :
    Kept base (dropPeerLocks d) := by
  unfold dropPeerLocks
  lift_lets
  intro v1
  clear_value v1
  intro v2
  have h3 : Kept base v2 := by
    unfold v2
    apply Kept.foldl
    · intro x4 x5 h6
      apply removeCmd_kept
      assumption
    · assumption
  clear_value v2
  intro v7
  have h8 : Kept base v7 := by
    unfold v7
    apply setLocks_kept
    assumption
  clear_value v7
  intro v9
  clear_value v9
  refine Kept.mk_eq rfl rfl rfl rfl rfl rfl rfl rfl ?_
  assumption

theorem dropHeld_kept {base : Device} {d : Device} (hd : Kept base d) :
    Kept base (dropHeld d) := by
  unfold dropHeld
  lift_lets
  intro v1 v2
  clear_value v2
  intro v3
  clear_value v3
  intro v4 v5
  have h6 : Kept base v5 := by
    unfold v5
    refine Kept.mk_eq rfl rfl rfl rfl rfl rfl rfl rfl ?_
    assumption
  clear_value v5
  apply Kept.foldl
  · intro x7 x8 h9
    lift_lets
    intro v10
    have h11 : Kept base v10 := by
      unfold v10
      split
      · apply clearSlot_kept
        assumption
      · assumption
    clear_value v10
    apply answer_kept
    assumption
  · assumption

theorem setOwnerBits_kept {base : Device} {g} {mask} {side} {d : Device} (hd : Kept base d) :
    Kept base (setOwnerBits g mask side d) := by
  unfold setOwnerBits
  lift_lets
  intro v1
  clear_value v1
  intro v2
  clear_value v2
  intro v3
  clear_value v3
  refine Kept.mk_eq rfl rfl rfl rfl rfl rfl rfl rfl ?_
  assumption

theorem revertHandover_kept {base : Device} {y0} {d : Device} (hd : Kept base d) :
    Kept base (revertHandover y0 d) := by
  unfold revertHandover
  lift_lets
  intro v1
  clear_value v1
  intro v2
  have h3 : Kept base v2 := by
    unfold v2
    refine Kept.mk_eq rfl rfl rfl rfl rfl rfl rfl rfl ?_
    assumption
  clear_value v2
  intro v4
  have h5 : Kept base v4 := by
    unfold v4
    apply setOwnerBits_kept
    assumption
  clear_value v4
  apply logEvent_kept
  assumption

theorem dropHandovers_kept {base : Device} {d : Device} (hd : Kept base d) :
    Kept base (dropHandovers d) := by
  unfold dropHandovers
  apply Kept.foldl
  · intro x1 x2 h3
    apply revertHandover_kept
    assumption
  · assumption

theorem dropMoves_kept {base : Device} {d : Device} (hd : Kept base d) :
    Kept base (dropMoves d) := by
  unfold dropMoves
  lift_lets
  intro v1
  clear_value v1
  intro v2
  have h3 : Kept base v2 := by
    unfold v2
    apply Kept.foldl
    · intro x4 x5 h6
      lift_lets
      intro v7
      clear_value v7
      split
      · apply putOverride_kept
        refine Kept.mk_eq rfl rfl rfl rfl rfl rfl rfl rfl ?_
        assumption
      · assumption
    · assumption
  clear_value v2
  intro v8
  clear_value v8
  refine Kept.mk_eq rfl rfl rfl rfl rfl rfl rfl rfl ?_
  assumption

theorem dropFetches_kept {base : Device} {d : Device} (hd : Kept base d) :
    Kept base (dropFetches d) := by
  unfold dropFetches
  apply Kept.foldl
  · intro x1 x2 h3
    apply failCmd_kept
    assumption
  · assumption

theorem dropReqs_kept {base : Device} {d : Device} (hd : Kept base d) :
    Kept base (dropReqs d) := by
  unfold dropReqs
  lift_lets
  intro v1 v2
  clear_value v2
  intro v3
  clear_value v3
  refine Kept.mk_eq rfl rfl rfl rfl rfl rfl rfl rfl ?_
  assumption

theorem linkLost_kept {base : Device} {d : Device} (hd : Kept base d) :
    Kept base (linkLost d) := by
  unfold linkLost
  apply refreshDurable_kept
  apply dropReqs_kept
  apply dropFetches_kept
  apply dropMoves_kept
  apply dropHandovers_kept
  apply dropHeld_kept
  apply dropPeerLocks_kept
  assumption

theorem endArbiter_kept {base : Device} {st} {d : Device} (hd : Kept base d) :
    Kept base (endArbiter st d) := by
  unfold endArbiter
  apply clearEmcy_kept
  refine Kept.mk_eq rfl rfl rfl rfl rfl rfl rfl rfl ?_
  assumption

theorem refreshPeer_kept {base : Device} {d : Device} (hd : Kept base d) :
    Kept base (refreshPeer d) := by
  unfold refreshPeer
  split
  · assumption
  · lift_lets
    intro v1
    clear_value v1
    intro v2
    clear_value v2
    intro v3
    have h4 : Kept base v3 := by
      unfold v3
      split
      · apply endArbiter_kept
        assumption
      · assumption
    clear_value v3
    intro v5
    have h6 : Kept base v5 := by
      unfold v5
      split
      · apply linkLost_kept
        assumption
      · assumption
    clear_value v5
    intro v7
    clear_value v7
    intro v8
    have h9 : Kept base v8 := by
      unfold v8
      apply refreshLinkCond_kept
      apply refreshRanks_kept
      refine Kept.mk_eq rfl rfl rfl rfl rfl rfl rfl rfl ?_
      assumption
    clear_value v8
    intro v10
    have h11 : Kept base v10 := by
      unfold v10
      split
      · apply askArbiter_kept
        assumption
      · assumption
    clear_value v10
    intro v12
    have h13 : Kept base v12 := by
      unfold v12
      split
      · apply remakeClaims_kept
        assumption
      · assumption
    clear_value v12
    intro v14
    have h15 : Kept base v14 := by
      unfold v14
      split
      · apply invalidateNone_kept
        apply interruptForwarded_kept
        assumption
      · assumption
    clear_value v14
    split
    · apply refreshLinkCond_kept
      assumption
    · apply settle_kept
      apply refreshDurable_kept
      assumption

theorem releaseFence_kept {base : Device} {d : Device} (hd : Kept base d) :
    KeptO base (releaseFence d) := by
  unfold releaseFence
  split
  · apply KeptO.some
    refine Kept.mk_eq rfl rfl rfl rfl rfl rfl rfl rfl ?_
    assumption
  · exact KeptO.none

theorem sendHello_kept {base : Device} {d : Device} (hd : Kept base d) :
    Kept base (sendHello d) := by
  unfold sendHello
  apply sendLink_kept
  assumption

theorem assertFence_kept {base : Device} {cause} {d : Device} (hd : Kept base d) :
    Kept base (assertFence cause d) := by
  unfold assertFence
  split
  · assumption
  · lift_lets
    intro v1
    have h2 : Kept base v1 := by
      unfold v1
      apply endSelfTest_kept
      split
      · apply endArbiter_kept
        assumption
      · assumption
    clear_value v1
    intro v3
    clear_value v3
    intro v4
    clear_value v4
    intro v5
    have h6 : Kept base v5 := by
      unfold v5
      refine Kept.mk_eq rfl rfl rfl rfl rfl rfl rfl rfl ?_
      assumption
    clear_value v5
    apply refreshLinkCond_kept
    apply refreshRanks_kept
    apply logEvent_kept
    assumption

theorem beRefused_kept {base : Device} {d : Device} (hd : Kept base d) :
    Kept base (beRefused d) := by
  unfold beRefused
  refine Kept.mk_eq rfl rfl rfl rfl rfl rfl rfl rfl ?_
  assumption

theorem execSurviveFenceDelay_kept {base : Device} {s : State} (hs : Kept base s.dev) :
    KeptB base (execSurviveFenceDelay s) := by
  unfold execSurviveFenceDelay
  apply next_keptB
  · intro x1 h2
    split
    · assumption
    · rename_i e3 e4 e5
      lift_lets
      intro v6
      have h7 : Kept base v6 := by
        unfold v6
        apply waitUntil_kept
        assumption
      clear_value v6
      intro v8
      clear_value v8
      split
      · apply assertFence_kept
        refine Kept.mk_eq rfl rfl rfl rfl rfl rfl rfl rfl ?_
        assumption
      · refine Kept.mk_eq rfl rfl rfl rfl rfl rfl rfl rfl ?_
        assumption
  · assumption

theorem sendHeartbeat_kept {base : Device} {peerState} {d : Device} (hd : Kept base d) :
    Kept base (sendHeartbeat peerState d) := by
  unfold sendHeartbeat
  apply sendLink_kept
  assumption

theorem dropServed_kept {base : Device} {d : Device} (hd : Kept base d) :
    Kept base (dropServed d) := by
  unfold dropServed
  lift_lets
  intro v1 v2 v3
  clear_value v3
  refine Kept.mk_eq rfl rfl rfl rfl rfl rfl rfl rfl ?_
  assumption

theorem noteUnreleased_kept {base : Device} {d : Device} (hd : Kept base d) :
    Kept base (noteUnreleased d) := by
  unfold noteUnreleased
  lift_lets
  intro v1 v2
  clear_value v2
  intro v3
  have h4 : Kept base v3 := by
    unfold v3
    refine Kept.mk_eq rfl rfl rfl rfl rfl rfl rfl rfl ?_
    assumption
  clear_value v3
  intro v5 v6
  clear_value v6
  refine Kept.mk_eq rfl rfl rfl rfl rfl rfl rfl rfl ?_
  assumption

theorem dropLanes_kept {base : Device} {d : Device} (hd : Kept base d) :
    Kept base (dropLanes d) := by
  unfold dropLanes
  split
  · assumption
  · lift_lets
    intro v1
    clear_value v1
    intro v2 v3
    have h4 : Kept base v3 := by
      unfold v3
      refine Kept.mk_eq rfl rfl rfl rfl rfl rfl rfl rfl ?_
      assumption
    clear_value v3
    apply logEvent_kept
    apply odPut_kept
    assumption

theorem linkDown_kept {base : Device} {d : Device} (hd : Kept base d) :
    Kept base (linkDown d) := by
  unfold linkDown
  split
  · assumption
  · apply refreshPeer_kept
    apply dropLanes_kept
    apply noteUnreleased_kept
    split
    · apply dropServed_kept
      assumption
    · assumption

theorem retellBatches_kept {base : Device} {d : Device} (hd : Kept base d) :
    Kept base (retellBatches d) := by
  unfold retellBatches
  lift_lets
  intro v1 v2
  clear_value v2
  apply Kept.foldl
  · intro x3 x4 h5
    unfold v1
    split
    · rename_i e6 e7 e8
      apply tellTick_kept
      assumption
    · apply sendLink_kept
      assumption
  · refine Kept.mk_eq rfl rfl rfl rfl rfl rfl rfl rfl ?_
    assumption

theorem handDetached_kept {base : Device} {d : Device} (hd : Kept base d) :
    Kept base (handDetached d) := by
  unfold handDetached
  lift_lets
  intro v1 v2
  clear_value v2
  intro v3
  clear_value v3
  intro v4
  clear_value v4
  split
  · assumption
  · apply sendLink_kept
    refine Kept.mk_eq rfl rfl rfl rfl rfl rfl rfl rfl ?_
    assumption

theorem releaseUnanswered_kept {base : Device} {d : Device} (hd : Kept base d) :
    Kept base (releaseUnanswered d) := by
  unfold releaseUnanswered
  apply sendAll_kept
  refine Kept.mk_eq rfl rfl rfl rfl rfl rfl rfl rfl ?_
  assumption

theorem execLinkDown_kept {base : Device} {s : State} (hs : Kept base s.dev) :
    KeptB base (execLinkDown s) := by
  unfold execLinkDown
  apply next_keptB
  · intro x1 h2
    apply linkDown_kept
    assumption
  · assumption

theorem execLivenessWatchdogExpiry_kept {base : Device} {s : State} (hs : Kept base s.dev) :
    KeptB base (execLivenessWatchdogExpiry s) := by
  unfold execLivenessWatchdogExpiry
  apply next_keptB
  · intro x1 h2
    lift_lets
    intro v3
    have h4 : Kept base v3 := by
      unfold v3
      apply waitUntil_kept
      assumption
    clear_value v3
    intro v5
    clear_value v5
    refine Kept.mk_eq rfl rfl rfl rfl rfl rfl rfl rfl ?_
    assumption
  · assumption

theorem setAliveIn_kept {base : Device} {b} {d : Device} (hd : Kept base d) :
    Kept base (setAliveIn b d) := by
  unfold setAliveIn
  split
  · refine Kept.mk_eq rfl rfl rfl rfl rfl rfl rfl rfl ?_
    assumption
  · lift_lets
    intro v1
    clear_value v1
    intro v2
    have h3 : Kept base v2 := by
      unfold v2
      refine Kept.mk_eq rfl rfl rfl rfl rfl rfl rfl rfl ?_
      assumption
    clear_value v2
    apply refreshPeer_kept
    apply logEvent_kept
    assumption

theorem execPeerAliveLost_kept {base : Device} {s : State} (hs : Kept base s.dev) :
    KeptB base (execPeerAliveLost s) := by
  unfold execPeerAliveLost
  apply next_keptB
  · intro x1 h2
    split
    · assumption
    · lift_lets
      intro v3
      have h4 : Kept base v3 := by
        unfold v3
        apply waitUntil_kept
        assumption
      clear_value v3
      intro v5
      clear_value v5
      apply setAliveIn_kept
      refine Kept.mk_eq rfl rfl rfl rfl rfl rfl rfl rfl ?_
      assumption
  · assumption

theorem execPeerAliveAsserted_kept {base : Device} {s : State} (hs : Kept base s.dev) :
    KeptB base (execPeerAliveAsserted s) := by
  unfold execPeerAliveAsserted
  apply next_keptB
  · intro x1 h2
    split
    · apply setAliveIn_kept
      assumption
    · assumption
  · assumption

theorem execPeerAliveToggle_kept {base : Device} {s : State} (hs : Kept base s.dev) :
    KeptB base (execPeerAliveToggle s) := by
  unfold execPeerAliveToggle
  apply next_keptB
  · intro x1 h2
    split
    · assumption
    · lift_lets
      intro v3
      have h4 : Kept base v3 := by
        unfold v3
        apply waitUntil_kept
        assumption
      clear_value v3
      intro v5
      clear_value v5
      refine Kept.mk_eq rfl rfl rfl rfl rfl rfl rfl rfl ?_
      assumption
  · assumption

theorem quitServing_kept {base : Device} {d : Device} (hd : Kept base d) :
    Kept base (quitServing d) := by
  unfold quitServing
  lift_lets
  intro v1
  clear_value v1
  intro v2
  have h3 : Kept base v2 := by
    unfold v2
    apply logEvent_kept
    refine Kept.mk_eq rfl rfl rfl rfl rfl rfl rfl rfl ?_
    assumption
  clear_value v2
  intro v4
  clear_value v4
  apply refreshLinkCond_kept
  apply Kept.foldl
  · intro x5 x6 h7
    apply failCmd_kept
    assumption
  · assumption

theorem standDown_kept {base : Device} {d : Device} (hd : Kept base d) :
    Kept base (standDown d) := by
  unfold standDown
  lift_lets
  intro v1
  clear_value v1
  intro v2
  have h3 : Kept base v2 := by
    unfold v2
    refine Kept.mk_eq rfl rfl rfl rfl rfl rfl rfl rfl ?_
    assumption
  clear_value v2
  split
  · assumption
  · apply quitServing_kept
    apply endArbiter_kept
    assumption

theorem arbiterSurvive_kept {base : Device} {d : Device} (hd : Kept base d) :
    Kept base (arbiterSurvive d) := by
  unfold arbiterSurvive
  lift_lets
  intro v1
  clear_value v1
  intro v2
  have h3 : Kept base v2 := by
    unfold v2
    refine Kept.mk_eq rfl rfl rfl rfl rfl rfl rfl rfl ?_
    assumption
  clear_value v2
  intro v4
  clear_value v4
  split
  · split
    · apply assertFence_kept
      assumption
    · refine Kept.mk_eq rfl rfl rfl rfl rfl rfl rfl rfl ?_
      assumption
  · assumption

theorem execArbiterTimeout_kept {base : Device} {s : State} (hs : Kept base s.dev) :
    KeptB base (execArbiterTimeout s) := by
  unfold execArbiterTimeout
  apply next_keptB
  · intro x1 h2
    split
    · assumption
    · apply assertFence_kept
      apply waitUntil_kept
      assumption
  · assumption

end Sys2Proof.Machine
end

