-- ==== Sys2Proof/Laws/KeptG.lean ====
section
/-! SUPPORT. What no operation of Handshake, Replay, Wipe, Patch, Care, StartUp takes back: `Kept` through each. -/

namespace Sys2Proof.Machine

/-! ## Handshake -/

theorem sendFinish_kept {base : Device} {d : Device} (hd : Kept base d) :
    Kept base (sendFinish d) := by
  unfold sendFinish
  apply sendLink_kept
  assumption

theorem sendOffer_kept {base : Device} {d : Device} (hd : Kept base d) :
    Kept base (sendOffer d) := by
  unfold sendOffer
  apply sendLink_kept
  assumption

theorem startShake_kept {base : Device} {d : Device} (hd : Kept base d) :
    Kept base (startShake d) := by
  unfold startShake
  lift_lets
  intro v1
  have h2 : KeptP base v1 := by
    unfold v1
    apply drawBytes_kept
    assumption
  clear_value v1
  intro v3
  clear_value v3
  intro v4
  have h5 : Kept base v4 := by
    unfold v4
    apply KeptP.snd
    assumption
  clear_value v4
  intro v6 v7
  clear_value v7
  intro v8
  have h9 : Kept base v8 := by
    unfold v8
    refine Kept.mk_eq rfl rfl rfl rfl rfl rfl rfl rfl ?_
    assumption
  clear_value v8
  intro v10
  have h11 : Kept base v10 := by
    unfold v10
    apply sendOffer_kept
    assumption
  clear_value v10
  split
  · apply sendFinish_kept
    assumption
  · assumption

theorem sourcesClear_kept {base : Device} {d : Device} (hd : Kept base d) :
    Kept base (sourcesClear d) := by
  unfold sourcesClear
  lift_lets
  intro v1 v2
  have h3 : Kept base v2 := by
    unfold v2
    apply waitUntil_kept
    refine Kept.mk_eq rfl rfl rfl rfl rfl rfl rfl rfl ?_
    assumption
  clear_value v2
  intro v4
  clear_value v4
  intro v5
  have h6 : Kept base v5 := by
    unfold v5
    refine Kept.mk_eq rfl rfl rfl rfl rfl rfl rfl rfl ?_
    assumption
  clear_value v5
  split
  · assumption
  · split
    · apply startShake_kept
      assumption
    · assumption

theorem execAlarmSourcesClear_kept {base : Device} {s : State} (hs : Kept base s.dev) :
    KeptB base (execAlarmSourcesClear s) := by
  unfold execAlarmSourcesClear
  apply next_keptB
  · intro x1 h2
    apply sourcesClear_kept
    assumption
  · assumption

theorem shakeFailed_kept {base : Device} {check} {d : Device} (hd : Kept base d) :
    Kept base (shakeFailed check d) := by
  unfold shakeFailed
  lift_lets
  intro v1 v2
  have h3 : Kept base v2 := by
    unfold v2
    apply logEvent_kept
    apply odPut_kept
    refine Kept.mk_eq rfl rfl rfl rfl rfl rfl rfl rfl ?_
    assumption
  clear_value v2
  split
  · apply assertFence_kept
    assumption
  · apply beRefused_kept
    assumption

theorem finish_kept {base : Device} {sig} {d : Device} (hd : Kept base d) :
    Kept base (finish sig d) := by
  unfold finish
  split
  · assumption
  · split
    · apply shakeFailed_kept
      assumption
    · split
      · assumption
      · lift_lets
        intro v1
        clear_value v1
        intro v2 v3
        have h4 : Kept base v3 := by
          unfold v3
          apply odPut_kept
          refine Kept.mk_eq rfl rfl rfl rfl rfl rfl rfl rfl ?_
          assumption
        clear_value v3
        apply sendHello_kept
        split
        · apply resendSalts_kept
          assumption
        · assumption

theorem execFinish_kept {base : Device} {y0} {sig} {s : State} (hs : Kept base s.dev) :
    KeptB base (execFinish y0 sig s) := by
  unfold execFinish
  apply next_keptB
  · intro x1 h2
    apply acceptFrame_kept
    · intro x3 h4
      apply finish_kept
      assumption
    · assumption
  · assumption

theorem offer_kept {base : Device} {m} {d : Device} (hd : Kept base d) :
    Kept base (offer m d) := by
  unfold offer
  lift_lets
  intro v1 v2
  clear_value v2
  intro v3
  have h4 : Kept base v3 := by
    unfold v3
    refine Kept.mk_eq rfl rfl rfl rfl rfl rfl rfl rfl ?_
    assumption
  clear_value v3
  intro v5 v6
  clear_value v6
  split
  · apply shakeFailed_kept
    assumption
  · split
    · apply shakeFailed_kept
      assumption
    · apply sendFinish_kept
      refine Kept.mk_eq rfl rfl rfl rfl rfl rfl rfl rfl ?_
      assumption

theorem execOffer_kept {base : Device} {y0} {m} {s : State} (hs : Kept base s.dev) :
    KeptB base (execOffer y0 m s) := by
  unfold execOffer
  apply next_keptB
  · intro x1 h2
    apply acceptFrame_kept
    · intro x3 h4
      apply offer_kept
      assumption
    · assumption
  · assumption

theorem linkUp_kept {base : Device} {lanes} {d : Device} (hd : Kept base d) : Kept base (linkUp lanes d) := by
  unfold linkUp
  split
  · exact hd
  · extract_lets width p1 p2 p3 d1 d2 d3 r
    have h1 : Kept base d1 := Kept.mk_eq rfl rfl rfl rfl rfl rfl rfl rfl hd
    have h2 : Kept base d2 := by
      unfold d2
      split
      · exact logEvent_kept h1
      · exact h1
    have h3 : Kept base r.2 := KeptP.snd (draw_kept (logEvent_kept (odPut_kept h2)))
    exact startShake_kept (Kept.mk_eq rfl rfl rfl rfl rfl rfl rfl rfl h3)

theorem execLinkUp_kept {base : Device} {lanes} {s : State} (hs : Kept base s.dev) :
    KeptB base (execLinkUp lanes s) := by
  unfold execLinkUp
  apply next_keptB
  · intro x1 h2
    apply linkUp_kept
    assumption
  · assumption

/-! ## Replay -/

theorem unloseVersion_kept {base : Device} {ns} {key} {mseq} {d : Device} (hd : Kept base d) :
    Kept base (unloseVersion ns key mseq d) := by
  unfold unloseVersion
  split
  · assumption
  · rename_i e1 e2 e3
    lift_lets
    intro v4 v5 v6
    clear_value v6
    intro v7
    have h8 : Kept base v7 := by
      unfold v7
      refine Kept.mk_eq rfl rfl rfl rfl rfl rfl rfl rfl ?_
      assumption
    clear_value v7
    apply putKey_kept
    assumption

theorem reissueCopy_kept {base : Device} {dom} {fp} {num} {d : Device} (hd : Kept base d) :
    Kept base (reissueCopy dom fp num d) := by
  unfold reissueCopy
  split
  · assumption
  · rename_i e1 e2 e3
    lift_lets
    intro v4
    clear_value v4
    intro v5
    have h6 : KeptP base v5 := by
      unfold v5
      apply gather_kept
      assumption
    clear_value v5
    intro v7
    have h8 : Kept base v7 := by
      unfold v7
      apply onCopy_kept
      apply KeptP.snd
      assumption
    clear_value v7
    intro v9 v10
    clear_value v10
    refine Kept.mk_eq rfl rfl rfl rfl rfl rfl rfl rfl ?_
    assumption

theorem reviveCopy_kept {base : Device} {dom} {slot} {ch} {f} {d : Device} (hd : Kept base d) :
    Kept base (reviveCopy dom slot ch f d) := by
  unfold reviveCopy
  apply reissueCopy_kept
  apply onCopy_kept
  assumption

theorem adoptCopy_kept {base : Device} {counted} {ns} {dom} {slot} {ch} {hash} {form} {d : Device} (hd : Kept base d) :
    Kept base (adoptCopy counted ns dom slot ch hash form d) := by
  unfold adoptCopy
  split
  · rename_i e1 e2 e3 e4 e5
    lift_lets
    intro v6
    have h7 : Kept base v6 := by
      unfold v6
      split
      · apply reviveCopy_kept
        assumption
      · assumption
    clear_value v6
    split
    · assumption
    · apply recordCopy_kept
      apply onCopy_kept
      assumption
  · lift_lets
    intro v8
    clear_value v8
    intro v9
    clear_value v9
    intro v10
    have h11 : Kept base v10 := by
      unfold v10
      apply reissueCopy_kept
      apply addCopy_kept
      assumption
    clear_value v10
    split
    · rename_i e12 e13 e14 e15 e16 e17 e18
      apply recordCopy_kept
      assumption
    · assumption
  · assumption

theorem restoreWrite_kept {base : Device} {tick} {m} {form} {d : Device} (hd : Kept base d) :
    Kept base (restoreWrite tick m form d) := by
  unfold restoreWrite
  lift_lets
  intro v1
  clear_value v1
  intro v2
  clear_value v2
  intro v3
  have h4 : Kept base v3 := by
    unfold v3
    apply Kept.foldl
    · intro x5 x6 h7
      apply adoptCopy_kept
      assumption
    · apply unloseVersion_kept
      assumption
  clear_value v3
  intro v8
  clear_value v8
  intro v9
  have h10 : Kept base v9 := by
    unfold v9
    split
    · assumption
    · refine Kept.mk_eq rfl rfl rfl rfl rfl rfl rfl rfl ?_
      assumption
  clear_value v9
  apply applyVersion_kept
  assumption

theorem adoptWrite_kept {base : Device} {d : Device} {w} (hd : Kept base d) :
    Kept base (adoptWrite d w) := by
  unfold adoptWrite
  lift_lets
  intro v1
  clear_value v1
  intro v2
  clear_value v2
  intro v3
  have h4 : Kept base v3 := by
    unfold v3
    split
    · assumption
    · rename_i e5 e6 e7 e8 e9 e10
      lift_lets
      intro v11
      clear_value v11
      split
      · assumption
      · split
        · split
          · apply restoreWrite_kept
            assumption
          · assumption
        · apply applyVersion_kept
          assumption
  clear_value v3
  intro v12
  clear_value v12
  refine Kept.mk_eq rfl rfl rfl rfl rfl rfl rfl rfl ?_
  assumption

theorem adoptOwn_kept {base : Device} {ws} {d : Device} (hd : Kept base d) :
    Kept base (adoptOwn ws d) := by
  unfold adoptOwn
  split
  · assumption
  · apply Kept.foldl
    · intro x1 x2 h3
      apply sendLink_kept
      apply adoptWrite_kept
      assumption
    · assumption

theorem adoptHeld_kept {base : Device} {d : Device} (hd : Kept base d) :
    Kept base (adoptHeld d) := by
  unfold adoptHeld
  apply Kept.foldl
  · intro x1 x2 h3
    apply adoptWrite_kept
    assumption
  · assumption

theorem settleSlots_kept {base : Device} {d : Device} (hd : Kept base d) :
    Kept base (settleSlots d) := by
  unfold settleSlots
  lift_lets
  intro v1 v2
  clear_value v2
  intro v3
  clear_value v3
  refine Kept.mk_eq rfl rfl rfl rfl rfl rfl rfl rfl ?_
  assumption

theorem lostHeader_kept {base : Device} {n} {d : Device} (hd : Kept base d) :
    Kept base (lostHeader n d) := by
  unfold lostHeader
  split
  · assumption
  · lift_lets
    intro v1
    have h2 : Kept base v1 := by
      unfold v1
      apply addLost_kept
      assumption
    clear_value v1
    intro v3
    clear_value v3
    refine Kept.mk_eq rfl rfl rfl rfl rfl rfl rfl rfl ?_
    assumption

theorem loseVersion_kept {base : Device} {ns} {key} {tick} {mseq} {d : Device} (hd : Kept base d) :
    Kept base (loseVersion ns key tick mseq d) := by
  unfold loseVersion
  lift_lets
  intro v1
  clear_value v1
  intro v2
  clear_value v2
  intro v3
  have h4 : Kept base v3 := by
    unfold v3
    apply putKey_kept
    assumption
  clear_value v3
  apply addLostKey_kept
  assumption

theorem applyRoster_kept {base : Device} {all l} {p : Device × List (Nat × Bytes × Nat × Nat) × Nat} (h : Kept base p.1) :
    Kept base (applyRoster all l p).1 := by
  induction l generalizing p with
  | nil => exact h
  | cons x rest ih =>
    obtain ⟨d, lost, done⟩ := p
    obtain ⟨n, r⟩ := x
    cases r with
    | roster home batch ns key tick =>
      rw [applyRoster]
      split
      · exact ih h
      · lift_lets
        intro m t
        clear_value m t
        split
        · exact ih h
        · split
          · split
            · exact ih (restoreWrite_kept h)
            · exact ih h
          · split
            · exact ih (applyVersion_kept h)
            · exact ih h
    | _ => exact ih h

theorem replayFlush_kept {base : Device} {unannounced} {d : Device} (hd : Kept base d) :
    Kept base (replayFlush unannounced d) := by
  unfold replayFlush
  extract_lets all
  have h0 : Kept base (applyRoster all all (d, [], 0)).1 := applyRoster_kept hd
  generalize applyRoster all all (d, [], 0) = p at h0
  obtain ⟨d0, lost, done⟩ := p
  dsimp only at h0 ⊢
  have h1 : Kept base (if all.isEmpty then d0 else logEvent 0x0B06 0x0042 0 (lost.length * 2 ^ 32 + done) d0) := by
    split
    · exact h0
    · exact logEvent_kept h0
  generalize (if all.isEmpty then d0 else logEvent 0x0B06 0x0042 0 (lost.length * 2 ^ 32 + done) d0) = d1 at h1
  split
  · exact sendEmcy_kept (logEvent_kept (Kept.mk_eq rfl rfl rfl rfl rfl rfl rfl rfl
      (Kept.foldl (fun _ _ h => loseVersion_kept h) (lostHeader_kept h1))))
  · exact Kept.foldl (fun _ _ h => loseVersion_kept h) (lostHeader_kept h1)

theorem recordAbandoned_kept {base : Device} {before} {d : Device} (hd : Kept base d) :
    Kept base (recordAbandoned before d) := by
  unfold recordAbandoned
  apply Kept.foldl
  · intro x1 x2 h3
    lift_lets
    intro v4
    clear_value v4
    intro v5
    clear_value v5
    apply journalRecord_kept
    assumption
  · assumption

theorem settleCopy_kept {base : Device} {d : Device} {c} (hd : Kept base d) :
    Kept base (settleCopy d c) := by
  unfold settleCopy
  split
  · assumption
  · split
    · rename_i e1 e2 e3 e4
      apply reissueCopy_kept
      assumption
    · apply onCopy_kept
      assumption

theorem closeBlock_kept {base : Device} {m} {d : Device} (hd : Kept base d) :
    Kept base (closeBlock m d) := by
  unfold closeBlock
  apply onBlock_kept
  assumption

theorem scanBlocks_kept {base : Device} {cut} {garbage} {d : Device} (hd : Kept base d) :
    Kept base (scanBlocks cut garbage d) := by
  unfold scanBlocks
  lift_lets
  intro v1
  have h2 : Kept base v1 := by
    unfold v1
    apply Kept.foldl
    · intro x3 x4 h5
      apply closeBlock_kept
      assumption
    · assumption
  clear_value v1
  intro v6
  clear_value v6
  split
  · assumption
  · apply logEvent_kept
    assumption

theorem dropMembers_kept {base : Device} {s} {d : Device} (hd : Kept base d) :
    Kept base (dropMembers s d) := by
  unfold dropMembers
  apply Kept.foldl
  · intro x1 x2 h3
    apply dropUnit_kept
    assumption
  · assumption

theorem settleStripes_kept {base : Device} {d : Device} (hd : Kept base d) : Kept base (settleStripes d).1 := by
  unfold settleStripes
  have key : ∀ (l : List Stripe) (p : Device × Nat), Kept base p.1 → Kept base (l.foldl (fun acc s =>
      if s.members.all (·.programmed) then
        (journalRecord (.stripeDurable s.id) (onStripe s.id (fun s => { s with st := .durable }) acc.1), acc.2)
      else
        (dropMembers s (onStripe s.id (fun s => { s with st := .abandoned }) acc.1),
          acc.2 + (s.members.filter (·.programmed)).length)) p).1 := by
    intro l
    induction l with
    | nil => exact fun _ h => h
    | cons s l ih =>
      intro p h
      rw [List.foldl_cons]
      refine ih _ ?_
      split
      · exact journalRecord_kept (onStripe_kept h)
      · exact dropMembers_kept (onStripe_kept h)
  exact key _ _ (Kept.foldl (fun _ _ h => dropMembers_kept h) (Kept.mk_eq rfl rfl rfl rfl rfl rfl rfl rfl hd))

theorem undoRecord_kept {base : Device} {d : Device} {r} (hd : Kept base d) :
    Kept base (undoRecord d r) := by
  unfold undoRecord
  split
  · lift_lets
    intro v1
    have h2 : Kept base v1 := by
      unfold v1
      apply KeptO.getD
      · apply KeptO.map
        intro x3
        apply dropMembers_kept
        assumption
      · assumption
    clear_value v1
    intro v4
    clear_value v4
    refine Kept.mk_eq rfl rfl rfl rfl rfl rfl rfl rfl ?_
    assumption
  · apply onStripe_kept
    assumption
  · apply onMember_kept
    assumption
  · apply onCopy_kept
    assumption
  · lift_lets
    intro v5
    clear_value v5
    intro v6
    clear_value v6
    refine Kept.mk_eq rfl rfl rfl rfl rfl rfl rfl rfl ?_
    assumption
  · apply onSnap_kept
    assumption
  · apply onSnap_kept
    assumption
  · refine Kept.mk_eq rfl rfl rfl rfl rfl rfl rfl rfl ?_
    assumption
  · apply onSlot_kept
    assumption
  · apply putOverride_kept
    refine Kept.mk_eq rfl rfl rfl rfl rfl rfl rfl rfl ?_
    assumption
  · assumption

theorem takeSource_kept {base : Device} {d : Device} (hd : Kept base d) :
    Kept base (takeSource d) := by
  unfold takeSource
  lift_lets
  intro v1
  clear_value v1
  intro v2
  clear_value v2
  intro v3
  clear_value v3
  intro v4
  clear_value v4
  intro v5
  have h6 : Kept base v5 := by
    unfold v5
    apply Kept.foldl
    · intro x7 x8 h9
      apply noteDurable_kept
      assumption
    · assumption
  clear_value v5
  intro v10
  have h11 : Kept base v10 := by
    unfold v10
    apply Kept.foldl
    · intro x12 x13 h14
      apply undoRecord_kept
      assumption
    · assumption
  clear_value v10
  intro v15
  clear_value v15
  refine Kept.mk_eq rfl rfl rfl rfl rfl rfl rfl rfl ?_
  assumption

theorem takeDurable_kept {base : Device} {d : Device} (hd : Kept base d) :
    Kept base (takeDurable d) := by
  unfold takeDurable
  lift_lets
  intro v1
  clear_value v1
  intro v2
  have h3 : Kept base v2 := by
    unfold v2
    refine Kept.mk_eq rfl rfl rfl rfl rfl rfl rfl rfl ?_
    assumption
  clear_value v2
  intro v4
  clear_value v4
  intro v5
  clear_value v5
  intro v6 v7
  clear_value v7
  intro v8
  clear_value v8
  intro v9
  clear_value v9
  intro v10
  clear_value v10
  refine Kept.mk_eq rfl rfl rfl rfl rfl rfl rfl rfl ?_
  assumption

theorem replay_kept {base : Device} {unannounced} {d : Device} (hd : Kept base d) :
    Kept base (replay unannounced d) := by
  unfold replay
  lift_lets
  intro v1
  clear_value v1
  intro v2
  have h3 : Kept base v2 := by
    unfold v2
    apply takeDurable_kept
    apply takeSource_kept
    assumption
  clear_value v2
  intro v4
  clear_value v4
  intro v5
  have h6 : Kept base v5.1 := by
    unfold v5
    apply settleStripes_kept
    assumption
  clear_value v5
  intro v7
  have h8 : Kept base v7 := by
    unfold v7
    apply scanBlocks_kept
    assumption
  clear_value v7
  intro v9
  clear_value v9
  intro v10
  have h11 : Kept base v10 := by
    unfold v10
    refine Kept.mk_eq rfl rfl rfl rfl rfl rfl rfl rfl ?_
    assumption
  clear_value v10
  intro v12
  have h13 : Kept base v12 := by
    unfold v12
    apply Kept.foldl
    · intro x14 x15 h16
      apply settleCopy_kept
      assumption
    · assumption
  clear_value v12
  intro v17
  have h18 : Kept base v17 := by
    unfold v17
    apply recordAbandoned_kept
    assumption
  clear_value v17
  intro v19
  have h20 : Kept base v19 := by
    unfold v19
    apply replayFlush_kept
    assumption
  clear_value v19
  intro v21
  have h22 : Kept base v21 := by
    unfold v21
    apply restartSeals_kept
    apply Kept.foldl
    · intro x23 x24 h25
      apply restartCounters_kept
      assumption
    · assumption
  clear_value v21
  apply settleSlots_kept
  assumption

theorem replayClean_kept {base : Device} {d : Device} (hd : Kept base d) :
    Kept base (replayClean d) := by
  unfold replayClean
  apply settleSlots_kept
  apply restartSeals_kept
  apply Kept.foldl
  · intro x1 x2 h3
    apply restartCounters_kept
    assumption
  · assumption

/-! ## Wipe -/

theorem endErases_kept {base : Device} {d : Device} (hd : Kept base d) :
    Kept base (endErases d) := by
  unfold endErases
  apply Kept.foldl
  · intro x1 x2 h3
    apply logEvent_kept
    assumption
  · assumption

theorem emptySlots_kept {base : Device} {d : Device} (hd : Kept base d) :
    Kept base (emptySlots d) := by
  unfold emptySlots
  apply Kept.foldl
  · intro x1 x2 h3
    apply emptySlot_kept
    assumption
  · assumption

theorem dropStore_kept {base : Device} {d : Device} (hd : Kept base d) :
    Kept base (dropStore d) := by
  unfold dropStore
  lift_lets
  intro v1
  clear_value v1
  intro v2 v3
  clear_value v3
  intro v4
  clear_value v4
  intro v5
  clear_value v5
  intro v6
  clear_value v6
  intro v7
  clear_value v7
  intro v8
  clear_value v8
  intro v9
  have h10 : Kept base v9 := by
    unfold v9
    refine Kept.mk_eq rfl rfl rfl rfl rfl rfl rfl rfl ?_
    assumption
  clear_value v9
  apply setCond_kept
  apply bumpVersion_kept
  apply bumpVersion_kept
  assumption

theorem cryptoErase_kept {base : Device} {d : Device} (hd : Kept base d) :
    Kept base (cryptoErase d) := by
  unfold cryptoErase
  apply dropStore_kept
  apply emptySlots_kept
  apply endErases_kept
  assumption

theorem eraseBlocks_kept {base : Device} {d : Device} (hd : Kept base d) :
    Kept base (eraseBlocks d) := by
  unfold eraseBlocks
  lift_lets
  intro v1 v2
  have h3 : Kept base v2 := by
    unfold v2
    apply Kept.foldl
    · intro x4 x5 h6
      apply emit_kept
      assumption
    · assumption
  clear_value v2
  intro v7 v8
  clear_value v8
  intro v9
  clear_value v9
  intro v10
  clear_value v10
  intro v11
  clear_value v11
  refine Kept.mk_eq rfl rfl rfl rfl rfl rfl rfl rfl ?_
  assumption

theorem placeRings_kept {base : Device} {d : Device} (hd : Kept base d) :
    Kept base (placeRings d) := by
  unfold placeRings
  split
  · assumption
  · lift_lets
    intro v1
    clear_value v1
    intro v2
    have h3 : Kept base v2 := by
      unfold v2
      apply Kept.foldl
      · intro x4 x5 h6
        split
        · rename_i e7 e8 e9 e10 e11
          lift_lets
          intro v12
          clear_value v12
          refine Kept.mk_eq rfl rfl rfl rfl rfl rfl rfl rfl ?_
          refine KeptOP.out (r := (_, _)) e11 ?_
          apply ringPlace_kept
          assumption
        · assumption
      · assumption
    clear_value v2
    intro v13
    clear_value v13
    split
    · assumption
    · refine Kept.mk_eq rfl rfl rfl rfl rfl rfl rfl rfl ?_
      assumption

theorem sanitizeBlocks_kept {base : Device} {d : Device} (hd : Kept base d) :
    Kept base (sanitizeBlocks d) := by
  unfold sanitizeBlocks
  apply placeRings_kept
  apply cryptoErase_kept
  apply eraseBlocks_kept
  assumption

theorem wipe_kept {base : Device} {z} {d : Device} (hd : Kept base d) :
    Kept base (wipe z d) := by
  unfold wipe
  split
  · apply sanitizeBlocks_kept
    assumption
  · apply cryptoErase_kept
    assumption

/-! ## Patch -/

theorem patchEvent_kept {base : Device} {d : Device} (hd : Kept base d) :
    Kept base (patchEvent d) := by
  unfold patchEvent
  apply logEvent_kept
  assumption

theorem patchRefused_kept {base : Device} {pkg} {check} {d : Device} (hd : Kept base d) :
    Kept base (patchRefused pkg check d) := by
  unfold patchRefused
  apply logEvent_kept
  assumption

theorem patchActive_kept {base : Device} {pkg} {d : Device} (hd : Kept base d) :
    Kept base (patchActive pkg d) := by
  unfold patchActive
  apply odPut_kept
  apply odPut_kept
  apply odPut_kept
  assumption

theorem setStore_kept {base : Device} {image} {d : Device} (hd : Kept base d) :
    Kept base (setStore image d) := by
  unfold setStore
  apply odPut_kept
  apply odPut_kept
  refine Kept.mk_eq rfl rfl rfl rfl rfl rfl rfl rfl ?_
  assumption

theorem loadStores_kept {base : Device} {d : Device} (hd : Kept base d) :
    KeptO base (loadStores d) := by
  unfold loadStores
  lift_lets
  intro v1
  clear_value v1
  intro v2
  have h3 : Kept base v2 := by
    unfold v2
    apply setStore_kept
    apply odPut_kept
    apply odPut_kept
    assumption
  clear_value v2
  intro v4
  have h5 : Kept base v4 := by
    unfold v4
    split
    · assumption
    · split
      · rename_i e6 e7 e8 e9
        split
        · apply patchActive_kept
          apply setStore_kept
          assumption
        · apply odPut_kept
          assumption
      · apply patchRefused_kept
        assumption
  clear_value v4
  intro v10
  have h11 : Kept base v10 := by
    unfold v10
    apply loadClusters_kept
    assumption
  clear_value v10
  split
  · exact KeptO.none
  · apply KeptO.some
    split
    · apply patchEvent_kept
      assumption
    · assumption

theorem onImage_kept {base : Device} {n} {f} {d : Device} (hd : Kept base d) :
    Kept base (onImage n f d) := by
  unfold onImage
  refine Kept.mk_eq rfl rfl rfl rfl rfl rfl rfl rfl ?_
  assumption

theorem failUnverified_kept {base : Device} {d : Device} (hd : Kept base d) :
    Kept base (failUnverified d) := by
  unfold failUnverified
  apply Kept.foldl
  · intro x1 x2 h3
    lift_lets
    intro v4
    clear_value v4
    split
    · apply onImage_kept
      assumption
    · assumption
  · assumption

theorem bootSelect_kept {base : Device} {d : Device} (hd : Kept base d) :
    KeptO base (bootSelect d) := by
  unfold bootSelect
  lift_lets
  intro v1
  have h2 : Kept base v1 := by
    unfold v1
    apply failUnverified_kept
    assumption
  clear_value v1
  intro v3 v4
  clear_value v4
  split
  · rename_i e5 e6 e7 e8 e9
    apply KeptO.some
    apply onImage_kept
    refine Kept.mk_eq rfl rfl rfl rfl rfl rfl rfl rfl ?_
    assumption
  · rename_i e10 e11 e12 e13 e14 e15
    apply KeptO.some
    refine Kept.mk_eq rfl rfl rfl rfl rfl rfl rfl rfl ?_
    assumption
  · rename_i e16 e17 e18 e19 e20 e21 e22
    apply KeptO.some
    apply logEvent_kept
    apply onImage_kept
    refine Kept.mk_eq rfl rfl rfl rfl rfl rfl rfl rfl ?_
    assumption
  · exact KeptO.none

theorem patchActivate_kept {base : Device} {d : Device} (hd : Kept base d) :
    Kept base (patchActivate d) := by
  unfold patchActivate
  split
  · apply patchRefused_kept
    apply odPut_kept
    assumption
  · rename_i e1 e2 e3
    lift_lets
    intro v4
    have h5 : Kept base v4 := by
      unfold v4
      apply odPut_kept
      apply patchActive_kept
      apply setStore_kept
      assumption
    clear_value v4
    intro v6
    apply activateStep_kept
    apply yieldQueue_kept
    refine Kept.mk_eq rfl rfl rfl rfl rfl rfl rfl rfl ?_
    assumption

theorem patchWrite_kept {base : Device} {pkg} {d : Device} (hd : Kept base d) :
    KeptP base (patchWrite pkg d) := by
  unfold patchWrite
  split
  · apply KeptP.mk
    apply patchRefused_kept
    assumption
  · rename_i e1 e2 e3
    lift_lets
    intro v4 v5
    have h6 : Kept base v5 := by
      unfold v5
      refine Kept.mk_eq rfl rfl rfl rfl rfl rfl rfl rfl ?_
      assumption
    clear_value v5
    apply KeptP.mk
    apply odPut_kept
    assumption

/-! ## Care -/

theorem carveSlc_kept {base : Device} {d : Device} (hd : Kept base d) :
    Kept base (carveSlc d) := by
  unfold carveSlc
  lift_lets
  intro v1 v2
  clear_value v2
  intro v3
  clear_value v3
  intro v4
  clear_value v4
  intro v5
  clear_value v5
  intro v6
  clear_value v6
  intro v7
  clear_value v7
  intro v8
  clear_value v8
  intro v9
  have h10 : Kept base v9 := by
    unfold v9
    refine Kept.mk_eq rfl rfl rfl rfl rfl rfl rfl rfl ?_
    assumption
  clear_value v9
  intro v11
  clear_value v11
  intro v12
  clear_value v12
  refine Kept.mk_eq rfl rfl rfl rfl rfl rfl rfl rfl ?_
  assumption

theorem refreshSlc_kept {base : Device} {d : Device} (hd : Kept base d) :
    Kept base (refreshSlc d) := by
  unfold refreshSlc
  lift_lets
  intro v1
  clear_value v1
  intro v2
  clear_value v2
  intro v3
  clear_value v3
  intro v4
  have h5 : Kept base v4 := by
    unfold v4
    apply odPut_kept
    apply odPut_kept
    assumption
  clear_value v4
  intro v6
  have h7 : Kept base v6 := by
    unfold v6
    split
    · apply logEvent_kept
      assumption
    · assumption
  clear_value v6
  intro v8
  clear_value v8
  apply carveSlc_kept
  refine Kept.mk_eq rfl rfl rfl rfl rfl rfl rfl rfl ?_
  assumption

theorem refreshHealth_kept {base : Device} {d : Device} (hd : Kept base d) :
    Kept base (refreshHealth d) := by
  unfold refreshHealth
  lift_lets
  intro v1
  clear_value v1
  intro v2
  have h3 : Kept base v2 := by
    unfold v2
    split
    · refine Kept.mk_eq rfl rfl rfl rfl rfl rfl rfl rfl ?_
      assumption
    · assumption
  clear_value v2
  intro v4
  clear_value v4
  intro v5
  clear_value v5
  intro v6
  have h7 : Kept base v6 := by
    unfold v6
    apply odPut_kept
    apply odPut_kept
    assumption
  clear_value v6
  intro v8
  have h9 : Kept base v8 := by
    unfold v8
    split
    · apply logEvent_kept
      assumption
    · assumption
  clear_value v8
  intro v10
  clear_value v10
  apply refreshWarning_kept
  refine Kept.mk_eq rfl rfl rfl rfl rfl rfl rfl rfl ?_
  assumption

theorem ledgerDays_kept {base : Device} {d : Device} (hd : Kept base d) :
    Kept base (ledgerDays d) := by
  unfold ledgerDays
  lift_lets
  intro v1
  clear_value v1
  intro v2
  clear_value v2
  intro v3
  clear_value v3
  intro v4
  clear_value v4
  intro v5
  clear_value v5
  intro v6
  clear_value v6
  refine Kept.mk_eq rfl rfl rfl rfl rfl rfl rfl rfl ?_
  assumption

theorem ledgerRecord_kept {base : Device} {d : Device} (hd : Kept base d) :
    Kept base (ledgerRecord d) := by
  unfold ledgerRecord
  split
  · assumption
  · lift_lets
    intro v1
    clear_value v1
    intro v2
    clear_value v2
    split
    · apply ledgerDays_kept
      assumption
    · refine Kept.mk_eq rfl rfl rfl rfl rfl rfl rfl rfl ?_
      assumption

theorem ledgerClose_kept {base : Device} {d : Device} (hd : Kept base d) :
    Kept base (ledgerClose d) := by
  unfold ledgerClose
  split
  · assumption
  · apply ledgerRecord_kept
    refine Kept.mk_eq rfl rfl rfl rfl rfl rfl rfl rfl ?_
    assumption

theorem execLedgerRecord_kept {base : Device} {s : State} (hs : Kept base s.dev) :
    KeptB base (execLedgerRecord s) := by
  unfold execLedgerRecord
  apply next_keptB
  · intro x1 h2
    apply ledgerRecord_kept
    assumption
  · assumption

theorem ageRefresh_kept {base : Device} {d : Device} (hd : Kept base d) :
    Kept base (ageRefresh d) := by
  unfold ageRefresh
  lift_lets
  intro v1
  clear_value v1
  apply Kept.foldl
  · intro x2 x3 h4
    apply queueRefresh_kept
    assumption
  · assumption

theorem ageSample_kept {base : Device} {temps} {junction} {d : Device} (hd : Kept base d) :
    Kept base (ageSample temps junction d) := by
  unfold ageSample
  lift_lets
  intro v1
  have h2 : Kept base v1 := by
    unfold v1
    apply waitUntil_kept
    assumption
  clear_value v1
  intro v3
  clear_value v3
  intro v4
  clear_value v4
  intro v5
  clear_value v5
  intro v6
  clear_value v6
  intro v7
  clear_value v7
  intro v8
  clear_value v8
  intro v9
  have h10 : Kept base v9 := by
    unfold v9
    refine Kept.mk_eq rfl rfl rfl rfl rfl rfl rfl rfl ?_
    assumption
  clear_value v9
  apply ageRefresh_kept
  apply odPutInt_kept
  assumption

theorem execThermalAgeSample_kept {base : Device} {temps} {junction} {s : State} (hs : Kept base s.dev) :
    KeptB base (execThermalAgeSample temps junction s) := by
  unfold execThermalAgeSample
  apply next_keptB
  · intro x1 h2
    apply ageSample_kept
    assumption
  · assumption

theorem patrolSample_kept {base : Device} {m} {bitErrors} {d : Device} (hd : Kept base d) :
    Kept base (patrolSample m bitErrors d) := by
  unfold patrolSample
  split
  · assumption
  · rename_i e1 e2 e3
    lift_lets
    intro v4
    clear_value v4
    intro v5
    clear_value v5
    intro v6
    have h7 : Kept base v6 := by
      unfold v6
      split
      · assumption
      · apply odBump_kept
        apply bumpGroup_kept
        assumption
    clear_value v6
    intro v8
    clear_value v8
    intro v9
    clear_value v9
    intro v10
    have h11 : Kept base v10 := by
      unfold v10
      refine Kept.mk_eq rfl rfl rfl rfl rfl rfl rfl rfl ?_
      assumption
    clear_value v10
    intro v12
    clear_value v12
    intro v13
    have h14 : Kept base v13 := by
      unfold v13
      apply onBlock_kept
      assumption
    clear_value v13
    split
    · assumption
    · split
      · assumption
      · apply ageRefresh_kept
        split
        · apply queueRefresh_kept
          assumption
        · assumption

theorem execPatrolSample_kept {base : Device} {m} {bitErrors} {s : State} (hs : Kept base s.dev) :
    KeptB base (execPatrolSample m bitErrors s) := by
  unfold execPatrolSample
  apply next_keptB
  · intro x1 h2
    apply patrolSample_kept
    assumption
  · assumption

theorem lateSummary_kept {base : Device} {d : Device} (hd : Kept base d) :
    Kept base (lateSummary d) := by
  unfold lateSummary
  split
  · assumption
  · lift_lets
    intro v1
    clear_value v1
    intro v2
    clear_value v2
    intro v3
    clear_value v3
    intro v4
    clear_value v4
    intro v5
    clear_value v5
    apply ageRefresh_kept
    apply odPut_kept
    refine Kept.mk_eq rfl rfl rfl rfl rfl rfl rfl rfl ?_
    assumption

theorem addGap_kept {base : Device} {locked} {d : Device} (hd : Kept base d) :
    Kept base (addGap locked d) := by
  unfold addGap
  split
  · assumption
  · lift_lets
    intro v1
    clear_value v1
    intro v2
    clear_value v2
    intro v3
    clear_value v3
    intro v4
    clear_value v4
    intro v5
    clear_value v5
    intro v6
    clear_value v6
    intro v7
    clear_value v7
    intro v8
    clear_value v8
    intro v9
    clear_value v9
    intro v10
    clear_value v10
    intro v11
    clear_value v11
    intro v12
    clear_value v12
    intro v13
    clear_value v13
    intro v14
    clear_value v14
    intro v15
    have h16 : Kept base v15 := by
      unfold v15
      refine Kept.mk_eq rfl rfl rfl rfl rfl rfl rfl rfl ?_
      assumption
    clear_value v15
    intro v17
    clear_value v17
    intro v18
    clear_value v18
    intro v19
    have h20 : Kept base v19 := by
      unfold v19
      refine Kept.mk_eq rfl rfl rfl rfl rfl rfl rfl rfl ?_
      assumption
    clear_value v19
    intro v21
    have h22 : Kept base v21 := by
      unfold v21
      split
      · apply odPut_kept
        assumption
      · assumption
    clear_value v21
    intro v23
    have h24 : Kept base v23 := by
      unfold v23
      apply logEvent_kept
      assumption
    clear_value v23
    intro v25
    have h26 : Kept base v25 := by
      unfold v25
      split
      · apply logEvent_kept
        assumption
      · assumption
    clear_value v25
    intro v27
    clear_value v27
    intro v28
    have h29 : Kept base v28 := by
      unfold v28
      apply ageRefresh_kept
      assumption
    clear_value v28
    intro v30
    clear_value v30
    intro v31
    clear_value v31
    refine Kept.mk_eq rfl rfl rfl rfl rfl rfl rfl rfl ?_
    assumption

/-! ## StartUp -/

theorem followLatch_kept {base : Device} {d : Device} (hd : Kept base d) :
    Kept base (followLatch d) := by
  unfold followLatch
  split
  · assumption
  · lift_lets
    intro v1 v2
    have h3 : Kept base v2 := by
      unfold v2
      refine Kept.mk_eq rfl rfl rfl rfl rfl rfl rfl rfl ?_
      assumption
    clear_value v2
    split
    · apply alarm_kept
      assumption
    · assumption

theorem noteStart_kept {base : Device} {d : Device} (hd : Kept base d) :
    Kept base (noteStart d) := by
  unfold noteStart
  lift_lets
  intro v1
  clear_value v1
  intro v2
  have h3 : Kept base v2 := by
    unfold v2
    apply odBump_kept
    apply odPut_kept
    assumption
  clear_value v2
  intro v4
  have h5 : Kept base v4 := by
    unfold v4
    apply logEvent_kept
    apply refreshDirty_kept
    assumption
  clear_value v4
  intro v6
  clear_value v6
  split
  · assumption
  · apply logEvent_kept
    refine Kept.mk_eq rfl rfl rfl rfl rfl rfl rfl rfl ?_
    assumption

theorem resumeAdmin_kept {base : Device} {d : Device} (hd : Kept base d) :
    Kept base (resumeAdmin d) := by
  unfold resumeAdmin
  lift_lets
  intro v1
  clear_value v1
  intro v2
  clear_value v2
  intro v3
  have h4 : Kept base v3 := by
    unfold v3
    split
    · rename_i e5 e6 e7
      apply wipe_kept
      assumption
    · assumption
  clear_value v3
  intro v8
  clear_value v8
  refine Kept.mk_eq rfl rfl rfl rfl rfl rfl rfl rfl ?_
  assumption

theorem rebuildSearch_kept {base : Device} {d : Device} (hd : Kept base d) :
    Kept base (rebuildSearch d) := by
  unfold rebuildSearch
  lift_lets
  intro v1
  clear_value v1
  intro v2
  have h3 : Kept base v2 := by
    unfold v2
    split
    · assumption
    · refine Kept.mk_eq rfl rfl rfl rfl rfl rfl rfl rfl ?_
      assumption
  clear_value v2
  intro v4
  have h5 : Kept base v4 := by
    unfold v4
    split
    · assumption
    · apply Kept.foldl
      · intro x6 x7 h8
        apply putOverride_kept
        assumption
      · assumption
  clear_value v4
  apply loadSearch_kept
  assumption

theorem armCommitGroup_kept {base : Device} {d : Device} (hd : Kept base d) :
    Kept base (armCommitGroup d) := by
  unfold armCommitGroup
  apply putEntry_kept
  assumption

theorem readyStep_kept {base : Device} {d : Device} (hd : Kept base d) :
    Kept base (readyStep d) := by
  unfold readyStep
  lift_lets
  intro v1
  have h2 : Kept base v1 := by
    unfold v1
    apply armCommitGroup_kept
    apply rebuildSearch_kept
    assumption
  clear_value v1
  intro v3
  clear_value v3
  intro v4
  have h5 : Kept base v4 := by
    unfold v4
    apply resumeAdmin_kept
    apply noteStart_kept
    refine Kept.mk_eq rfl rfl rfl rfl rfl rfl rfl rfl ?_
    assumption
  clear_value v4
  intro v6
  have h7 : Kept base v6 := by
    unfold v6
    apply adoptOwn_kept
    assumption
  clear_value v6
  apply placeWaiting_kept
  apply refreshTimeLock_kept
  apply refreshLinkCond_kept
  apply followLatch_kept
  apply persist_kept
  assumption

theorem toStage_kept {base : Device} {n} {d : Device} (hd : Kept base d) :
    Kept base (toStage n d) := by
  unfold toStage
  refine Kept.mk_eq rfl rfl rfl rfl rfl rfl rfl rfl ?_
  assumption

theorem unwrapKeys_kept {base : Device} {d : Device} (hd : Kept base d) :
    Kept base (unwrapKeys d) := by
  unfold unwrapKeys
  split
  · assumption
  · lift_lets
    intro v1
    clear_value v1
    intro v2
    clear_value v2
    intro v3
    clear_value v3
    refine Kept.mk_eq rfl rfl rfl rfl rfl rfl rfl rfl ?_
    assumption

theorem jumpFloor_kept {base : Device} {d : Device} (hd : Kept base d) :
    Kept base (jumpFloor d) := by
  unfold jumpFloor
  lift_lets
  intro v1
  clear_value v1
  intro v2
  split
  · refine Kept.mk_eq rfl rfl rfl rfl rfl rfl rfl rfl ?_
    assumption
  · assumption

theorem replayStep_kept {base : Device} {d : Device} (hd : Kept base d) :
    Kept base (replayStep d) := by
  unfold replayStep
  lift_lets
  intro v1
  have h2 : Kept base v1 := by
    unfold v1
    apply jumpFloor_kept
    apply unwrapKeys_kept
    assumption
  clear_value v1
  intro v3
  clear_value v3
  intro v4
  have h5 : Kept base v4 := by
    unfold v4
    split
    · apply replayClean_kept
      assumption
    · apply replay_kept
      assumption
  clear_value v4
  intro v6
  clear_value v6
  intro v7
  have h8 : Kept base v7 := by
    unfold v7
    refine Kept.mk_eq rfl rfl rfl rfl rfl rfl rfl rfl ?_
    assumption
  clear_value v7
  intro v9
  have h10 : Kept base v9 := by
    unfold v9
    apply placeRings_kept
    assumption
  clear_value v9
  intro v11
  have h12 : Kept base v11 := by
    unfold v11
    split
    · apply enterReadOnly_kept
      apply Kept.foldl
      · intro x13 x14 h15
        apply rewriteCopy_kept
        assumption
      · assumption
    · assumption
  clear_value v11
  intro v16
  have h17 : Kept base v16 := by
    unfold v16
    apply setCond_kept
    apply setCond_kept
    assumption
  clear_value v16
  intro v18
  clear_value v18
  intro v19
  have h20 : Kept base v19 := by
    unfold v19
    split
    · assumption
    · apply adoptHeld_kept
      refine Kept.mk_eq rfl rfl rfl rfl rfl rfl rfl rfl ?_
      assumption
  clear_value v19
  apply toStage_kept
  apply refreshHealth_kept
  apply refreshSlc_kept
  assumption

theorem beginCopy_kept {base : Device} {d : Device} (hd : Kept base d) :
    Kept base (beginCopy d) := by
  unfold beginCopy
  refine Kept.mk_eq rfl rfl rfl rfl rfl rfl rfl rfl ?_
  assumption

theorem groupsStep_kept {base : Device} {d : Device} (hd : Kept base d) :
    Kept base (groupsStep d) := by
  unfold groupsStep
  lift_lets
  intro v1
  clear_value v1
  intro v2
  have h3 : Kept base v2 := by
    unfold v2
    apply toStage_kept
    assumption
  clear_value v2
  split
  · split
    · apply placeGroupsUp_kept
      assumption
    · assumption
  · apply placeGroupsUp_kept
    assumption

theorem carriedTime_kept {base : Device} {d : Device} (hd : Kept base d) :
    Kept base (carriedTime d) := by
  unfold carriedTime
  split
  · assumption
  · rename_i e1 e2 e3 e4
    lift_lets
    intro v5
    clear_value v5
    intro v6
    clear_value v6
    intro v7 v8
    clear_value v8
    intro v9
    have h10 : Kept base v9 := by
      unfold v9
      refine Kept.mk_eq rfl rfl rfl rfl rfl rfl rfl rfl ?_
      assumption
    clear_value v9
    apply establish_kept
    assumption

theorem meetStep_kept {base : Device} {d : Device} (hd : Kept base d) :
    KeptO base (meetStep d) := by
  unfold meetStep
  lift_lets
  intro v1
  have h2 : Kept base v1 := by
    unfold v1
    apply carriedTime_kept
    assumption
  clear_value v1
  split
  · apply KeptO.some
    apply groupsStep_kept
    assumption
  · exact KeptO.none

theorem setRegions_kept {base : Device} {d : Device} (hd : Kept base d) :
    Kept base (setRegions d) := by
  unfold setRegions
  apply Kept.foldl
  · intro x1 x2 h3
    lift_lets
    intro v4
    clear_value v4
    intro v5
    clear_value v5
    apply odPut_kept
    assumption
  · assumption

theorem startFatal_kept {base : Device} {cause} {d : Device} (hd : Kept base d) :
    Kept base (startFatal cause d) := by
  unfold startFatal
  apply declareFatal_kept
  assumption

theorem memoryStep_kept {base : Device} {d : Device} (hd : Kept base d) :
    Kept base (memoryStep d) := by
  unfold memoryStep
  split
  · apply startFatal_kept
    assumption
  · lift_lets
    intro v1
    have h2 : Kept base v1 := by
      unfold v1
      apply portsTrain_kept
      apply setRegions_kept
      apply setDomain_kept
      apply setDomain_kept
      apply setDomain_kept
      assumption
    clear_value v1
    intro v3 v4
    clear_value v4
    apply toStage_kept
    refine Kept.mk_eq rfl rfl rfl rfl rfl rfl rfl rfl ?_
    assumption

theorem storesStep_kept {base : Device} {d : Device} (hd : Kept base d) :
    Kept base (storesStep d) := by
  unfold storesStep
  split
  · apply startFatal_kept
    assumption
  · rename_i e1 e2 e3
    apply toStage_kept
    refine KeptO.out e3 ?_
    apply loadStores_kept
    assumption

theorem dropDumpCopy_kept {base : Device} {d : Device} (hd : Kept base d) :
    Kept base (dropDumpCopy d) := by
  unfold dropDumpCopy
  split
  · apply logEvent_kept
    refine Kept.mk_eq rfl rfl rfl rfl rfl rfl rfl rfl ?_
    assumption
  · assumption

theorem checkPersistent_kept {base : Device} {d : Device} (hd : Kept base d) :
    Kept base (checkPersistent d) := by
  unfold checkPersistent
  lift_lets
  intro v1
  clear_value v1
  intro v2
  clear_value v2
  intro v3
  clear_value v3
  intro v4
  clear_value v4
  intro v5
  split
  · rename_i e6 e7 e8
    refine Kept.mk_eq rfl rfl rfl rfl rfl rfl rfl rfl ?_
    assumption
  · apply logEvent_kept
    refine Kept.mk_eq rfl rfl rfl rfl rfl rfl rfl rfl ?_
    assumption

theorem rollBackTrial_kept {base : Device} {d : Device} (hd : Kept base d) :
    Kept base (rollBackTrial d) := by
  unfold rollBackTrial
  apply Kept.foldl
  · intro x1 x2 h3
    lift_lets
    intro v4
    clear_value v4
    split
    · apply logEvent_kept
      apply odBump_kept
      apply onImage_kept
      assumption
    · assumption
  · assumption

theorem bootStep_kept {base : Device} {d : Device} (hd : Kept base d) :
    Kept base (bootStep d) := by
  unfold bootStep
  lift_lets
  intro v1
  have h2 : Kept base v1 := by
    unfold v1
    apply rollBackTrial_kept
    apply checkPersistent_kept
    apply dropDumpCopy_kept
    assumption
  clear_value v1
  split
  · apply startFatal_kept
    assumption
  · rename_i e3 e4 e5
    lift_lets
    intro v6
    clear_value v6
    intro v7
    clear_value v7
    apply toStage_kept
    refine Kept.mk_eq rfl rfl rfl rfl rfl rfl rfl rfl ?_
    refine KeptO.out e5 ?_
    apply bootSelect_kept
    assumption

theorem startStep_kept {base : Device} {d : Device} (hd : Kept base d) :
    KeptO base (startStep d) := by
  unfold startStep
  split
  · exact KeptO.none
  · split
    · apply KeptO.some
      apply bootStep_kept
      assumption
    · apply KeptO.some
      apply storesStep_kept
      assumption
    · apply KeptO.some
      apply memoryStep_kept
      assumption
    · apply meetStep_kept
      assumption
    · split
      · apply KeptO.some
        apply toStage_kept
        apply beginCopy_kept
        assumption
      · exact KeptO.none
    · apply KeptO.some
      apply replayStep_kept
      assumption
    · apply KeptO.some
      apply readyStep_kept
      assumption
    · exact KeptO.none

theorem startOn_kept {base : Device} {y0} {y1 : Device} (hy1 : Kept base y1) :
    Kept base (startOn y0 y1) := by
  induction' y0 with n ih generalizing y1
  · unfold startOn
    assumption
  · unfold startOn
    split
    · rename_i e1 e2 e3
      apply ih
      refine KeptO.out e3 ?_
      apply startStep_kept
      assumption
    · assumption

theorem proceed_kept {base : Device} {d : Device} (hd : Kept base d) :
    Kept base (proceed d) := by
  unfold proceed
  apply startOn_kept
  assumption

theorem dropVolatile_kept {base : Device} {ao faults} {d : Device} (hd : Kept base d) :
    Kept base (dropVolatile ao faults d) := by
  unfold dropVolatile
  extract_lets d1 kept
  have h1 : Kept base d1 := by
    unfold d1
    split
    · exact persist_kept hd
    · exact hd
  clear_value d1
  refine h1.of_subset rfl rfl (fun m hm => ?_) rfl
  simp only [Device.memories, List.mem_cons, List.mem_map] at hm
  rcases hm with rfl | rfl | rfl | rfl | ⟨x, hx, rfl⟩
  · exact .inl (by simp [Device.memories])
  · exact .inr rfl
  · exact .inr rfl
  · exact .inr rfl
  · exact .inr (by rw [List.eq_of_mem_replicate hx]; rfl)

theorem coreEnable_kept {base : Device} {d : Device} (hd : Kept base d) :
    Kept base (coreEnable d) := by
  unfold coreEnable
  refine Kept.mk_eq (by split <;> rfl) rfl rfl rfl rfl rfl rfl rfl ?_
  assumption

theorem leaveReset_kept {base : Device} {d : Device} (hd : Kept base d) :
    Kept base (leaveReset d) := by
  unfold leaveReset
  split
  · assumption
  · split
    · refine Kept.mk_eq rfl rfl rfl rfl rfl rfl rfl rfl ?_
      assumption
    · apply coreEnable_kept
      refine Kept.mk_eq rfl rfl rfl rfl rfl rfl rfl rfl ?_
      assumption

theorem execCorePgRise_kept {base : Device} {s : State} (hs : Kept base s.dev) :
    KeptB base (execCorePgRise s) := by
  unfold execCorePgRise
  apply next_keptB
  · intro x1 h2
    split
    · refine Kept.mk_eq rfl rfl rfl rfl rfl rfl rfl rfl ?_
      assumption
    · assumption
  · assumption

theorem joinCan_kept {base : Device} {porst} {d : Device} (hd : Kept base d) :
    Kept base (joinCan porst d) := by
  unfold joinCan
  lift_lets
  intro v1
  clear_value v1
  intro v2
  clear_value v2
  split
  · apply logEvent_kept
    refine Kept.mk_eq rfl rfl rfl rfl rfl rfl rfl rfl ?_
    assumption
  · apply emit_kept
    refine Kept.mk_eq rfl rfl rfl rfl rfl rfl rfl rfl ?_
    assumption

theorem internalReset_kept {base : Device} {cause} {d : Device} (hd : Kept base d) :
    Kept base (internalReset cause d) := by
  unfold internalReset
  lift_lets
  intro v1
  have h2 : Kept base v1 := by
    unfold v1
    apply dropVolatile_kept
    assumption
  clear_value v1
  intro v3
  have h4 : Kept base v3 := by
    unfold v3
    apply odPut_kept
    assumption
  clear_value v3
  intro v5
  have h6 : Kept base v5 := by
    unfold v5
    split
    · assumption
    · apply joinCan_kept
      assumption
  clear_value v5
  apply leaveReset_kept
  assumption

theorem cleanDormantExit_kept {base : Device} {d : Device} (hd : Kept base d) :
    Kept base (cleanDormantExit d) := by
  unfold cleanDormantExit
  split
  · apply proceed_kept
    apply odPut_kept
    assumption
  · assumption

theorem execCleanDormantExit_kept {base : Device} {s : State} (hs : Kept base s.dev) :
    KeptB base (execCleanDormantExit s) := by
  unfold execCleanDormantExit
  apply next_keptB
  · intro x1 h2
    apply cleanDormantExit_kept
    assumption
  · assumption

theorem coldStart_kept {base : Device} {d : Device} (hd : Kept base d) :
    Kept base (coldStart d) := by
  unfold coldStart
  split
  · assumption
  · lift_lets
    intro v1
    have h2 : Kept base v1 := by
      unfold v1
      split
      · apply logEvent_kept
        assumption
      · assumption
    clear_value v1
    apply proceed_kept
    apply odPut_kept
    assumption

theorem execColdStart_kept {base : Device} {s : State} (hs : Kept base s.dev) :
    KeptB base (execColdStart s) := by
  unfold execColdStart
  apply next_keptB
  · intro x1 h2
    apply coldStart_kept
    assumption
  · assumption

theorem restorePersistent_kept {base : Device} {d : Device} (hd : Kept base d) :
    Kept base (restorePersistent d) := by
  unfold restorePersistent
  split
  · assumption
  · apply persist_kept
    refine Kept.mk_eq rfl rfl rfl rfl rfl rfl rfl rfl ?_
    assumption

theorem latchSizes_kept {base : Device} {d : Device} (hd : Kept base d) :
    Kept base (latchSizes d) := by
  unfold latchSizes
  refine Kept.mk_eq rfl rfl rfl rfl rfl rfl rfl rfl ?_
  assumption

theorem sampleStraps_kept {base : Device} {straps} {d : Device} (hd : Kept base d) :
    Kept base (sampleStraps straps d) := by
  unfold sampleStraps
  lift_lets
  intro v1
  clear_value v1
  intro v2
  clear_value v2
  apply odPut_kept
  apply odPut_kept
  refine Kept.mk_eq rfl rfl rfl rfl rfl rfl rfl rfl ?_
  assumption

end Sys2Proof.Machine
end

