-- ==== Sys2Proof/Laws/KeptH.lean ====
section
/-! SUPPORT. What no operation of Meet, Handover, Takeover takes back: `Kept` through each. -/

namespace Sys2Proof.Machine

/-! ## Meet -/

theorem offerHeld_kept {base : Device} {d : Device} (hd : Kept base d) :
    Kept base (offerHeld d) := by
  unfold offerHeld
  apply Kept.foldl
  · intro x1 x2 h3
    apply sendLink_kept
    assumption
  · assumption

theorem welcome_kept {base : Device} {d : Device} (hd : Kept base d) :
    Kept base (welcome d) := by
  unfold welcome
  lift_lets
  intro v1
  have h2 : Kept base v1 := by
    unfold v1
    split
    · rename_i e3 e4 e5
      apply sendSecure_kept
      assumption
    · assumption
  clear_value v1
  intro v6
  have h7 : Kept base v6 := by
    unfold v6
    apply sendSecure_kept
    assumption
  clear_value v6
  intro v8
  have h9 : Kept base v8 := by
    unfold v8
    apply Kept.foldl
    · intro x10 x11 h12
      split
      · rename_i e13 e14 e15
        apply sendSecure_kept
        assumption
      · assumption
    · assumption
  clear_value v8
  intro v16
  have h17 : Kept base v16 := by
    unfold v16
    apply resendSalts_kept
    assumption
  clear_value v16
  intro v18
  clear_value v18
  intro v19
  have h20 : Kept base v19 := by
    unfold v19
    apply Kept.foldl
    · intro x21 x22 h23
      apply sendLink_kept
      assumption
    · assumption
  clear_value v19
  intro v24
  have h25 : Kept base v24 := by
    unfold v24
    apply Kept.foldl
    · intro x26 x27 h28
      apply sendLink_kept
      assumption
    · assumption
  clear_value v24
  intro v29
  have h30 : Kept base v29 := by
    unfold v29
    apply Kept.foldl
    · intro x31 x32 h33
      split
      · assumption
      · apply sendLink_kept
        assumption
    · assumption
  clear_value v29
  intro v34
  have h35 : Kept base v34 := by
    unfold v34
    apply Kept.foldl
    · intro x36 x37 h38
      apply snapRecord_kept
      assumption
    · assumption
  clear_value v34
  apply sendSecure_kept
  assumption

theorem meetServing_kept {base : Device} {m} {d : Device} (hd : Kept base d) :
    Kept base (meetServing m d) := by
  unfold meetServing
  lift_lets
  intro v1
  clear_value v1
  intro v2
  clear_value v2
  intro v3
  have h4 : Kept base v3 := by
    unfold v3
    refine Kept.mk_eq rfl rfl rfl rfl rfl rfl rfl rfl ?_
    assumption
  clear_value v3
  intro v5
  have h6 : Kept base v5 := by
    unfold v5
    apply welcome_kept
    apply leaderAtMeeting_kept
    assumption
  clear_value v5
  split
  · assumption
  · apply offerHeld_kept
    assumption

theorem followRevert_kept {base : Device} {m} {d : Device} (hd : Kept base d) :
    Kept base (followRevert m d) := by
  unfold followRevert
  lift_lets
  intro v1
  apply Kept.foldl
  · intro x2 x3 h4
    apply revertHandover_kept
    assumption
  · assumption

theorem drawSecrets_kept {base : Device} {d : Device} (hd : Kept base d) :
    Kept base (drawSecrets d) := by
  unfold drawSecrets
  lift_lets
  intro v1
  have h2 : KeptP base v1 := by
    unfold v1
    apply draw_kept
    assumption
  clear_value v1
  intro v3
  have h4 : KeptP base v3 := by
    unfold v3
    apply draw_kept
    apply KeptP.snd
    assumption
  clear_value v3
  intro v5
  have h6 : KeptP base v5 := by
    unfold v5
    apply drawBytes_kept
    apply KeptP.snd
    assumption
  clear_value v5
  intro v7
  have h8 : Kept base v7 := by
    unfold v7
    apply KeptP.snd
    assumption
  clear_value v7
  intro v9
  clear_value v9
  intro v10
  clear_value v10
  refine Kept.mk_eq rfl rfl rfl rfl rfl rfl rfl rfl ?_
  assumption

theorem shareSecrets_kept {base : Device} {d : Device} (hd : Kept base d) :
    Kept base (shareSecrets d) := by
  unfold shareSecrets
  lift_lets
  intro v1
  have h2 : Kept base v1 := by
    unfold v1
    split
    · assumption
    · apply drawSecrets_kept
      assumption
  clear_value v1
  apply sendSecure_kept
  apply sendSecure_kept
  assumption

theorem dropShared_kept {base : Device} {d : Device} (hd : Kept base d) :
    Kept base (dropShared d) := by
  unfold dropShared
  lift_lets
  intro v1 v2 v3
  clear_value v3
  intro v4
  clear_value v4
  intro v5
  clear_value v5
  intro v6
  clear_value v6
  refine Kept.mk_eq rfl rfl rfl rfl rfl rfl rfl rfl ?_
  assumption

theorem takeTime_kept {base : Device} {m} {d : Device} (hd : Kept base d) :
    Kept base (takeTime m d) := by
  unfold takeTime
  split
  · assumption
  · apply establish_kept
    assumption

theorem surrender_kept {base : Device} {d : Device} (hd : Kept base d) :
    Kept base (surrender d) := by
  unfold surrender
  refine Kept.mk_eq rfl rfl rfl rfl rfl rfl rfl rfl ?_
  assumption

theorem meetStarting_kept {base : Device} {m} {d : Device} (hd : Kept base d) :
    Kept base (meetStarting m d) := by
  unfold meetStarting
  lift_lets
  intro v1
  clear_value v1
  intro v2
  clear_value v2
  intro v3
  have h4 : Kept base v3 := by
    unfold v3
    refine Kept.mk_eq rfl rfl rfl rfl rfl rfl rfl rfl ?_
    assumption
  clear_value v3
  intro v5
  have h6 : Kept base v5 := by
    unfold v5
    split
    · apply surrender_kept
      assumption
    · assumption
  clear_value v5
  intro v7
  clear_value v7
  intro v8
  have h9 : Kept base v8 := by
    unfold v8
    refine Kept.mk_eq rfl rfl rfl rfl rfl rfl rfl rfl ?_
    assumption
  clear_value v8
  intro v10
  have h11 : Kept base v10 := by
    unfold v10
    split
    · apply takeTime_kept
      apply dropShared_kept
      assumption
    · split
      · apply shareSecrets_kept
        assumption
      · assumption
  clear_value v10
  intro v12
  clear_value v12
  intro v13
  have h14 : Kept base v13 := by
    unfold v13
    refine Kept.mk_eq rfl rfl rfl rfl rfl rfl rfl rfl ?_
    assumption
  clear_value v13
  apply offerHeld_kept
  apply leaderAtMeeting_kept
  assumption

theorem drawIdentity_kept {base : Device} {d : Device} (hd : Kept base d) :
    Kept base (drawIdentity d) := by
  unfold drawIdentity
  lift_lets
  intro v1
  have h2 : KeptP base v1 := by
    unfold v1
    apply draw_kept
    assumption
  clear_value v1
  apply sendHello_kept
  apply persist_kept
  apply odPut_kept
  apply KeptP.snd
  assumption

theorem greet_kept {base : Device} {m} {d : Device} (hd : Kept base d) :
    Kept base (greet m d) := by
  unfold greet
  lift_lets
  intro v1
  have h2 : Kept base v1 := by
    unfold v1
    split
    · apply persist_kept
      apply odPut_kept
      assumption
    · assumption
  clear_value v1
  intro v3
  clear_value v3
  intro v4
  have h5 : Kept base v4 := by
    unfold v4
    split
    · apply drawIdentity_kept
      assumption
    · assumption
  clear_value v4
  intro v6
  clear_value v6
  split
  · assumption
  · split
    · split
      · assumption
      · apply proceed_kept
        apply meetStarting_kept
        assumption
    · split
      · assumption
      · split
        · apply followRevert_kept
          refine Kept.mk_eq rfl rfl rfl rfl rfl rfl rfl rfl ?_
          assumption
        · apply settle_kept
          apply refreshPeer_kept
          apply meetServing_kept
          assumption

theorem refuse_kept {base : Device} {check} {m} {d : Device} (hd : Kept base d) :
    Kept base (refuse check m d) := by
  unfold refuse
  lift_lets
  intro v1
  have h2 : Kept base v1 := by
    unfold v1
    apply logEvent_kept
    assumption
  clear_value v1
  intro v3
  clear_value v3
  split
  · apply beRefused_kept
    assumption
  · split
    · apply assertFence_kept
      assumption
    · assumption

theorem hello_kept {base : Device} {m} {d : Device} (hd : Kept base d) :
    Kept base (hello m d) := by
  unfold hello
  lift_lets
  intro v1
  clear_value v1
  intro v2
  have h3 : Kept base v2 := by
    unfold v2
    refine Kept.mk_eq rfl rfl rfl rfl rfl rfl rfl rfl ?_
    assumption
  clear_value v2
  intro v4
  clear_value v4
  split
  · assumption
  · split
    · apply refuse_kept
      assumption
    · apply greet_kept
      assumption

theorem execHello_kept {base : Device} {y0} {m} {s : State} (hs : Kept base s.dev) :
    KeptB base (execHello y0 m s) := by
  unfold execHello
  apply next_keptB
  · intro x1 h2
    apply acceptFrame_kept
    · intro x3 h4
      apply hello_kept
      assumption
    · assumption
  · assumption

theorem masterWaitExpiry_kept {base : Device} {d : Device} (hd : Kept base d) :
    Kept base (masterWaitExpiry d) := by
  unfold masterWaitExpiry
  split
  · assumption
  · rename_i e1 e2 e3
    split
    · assumption
    · apply proceed_kept
      apply establish_kept
      apply waitUntil_kept
      assumption

theorem execMasterWaitExpiry_kept {base : Device} {s : State} (hs : Kept base s.dev) :
    KeptB base (execMasterWaitExpiry s) := by
  unfold execMasterWaitExpiry
  apply next_keptB
  · intro x1 h2
    apply masterWaitExpiry_kept
    assumption
  · assumption

theorem loopback_kept {base : Device} {y0} {t} {pattern} {d : Device} (hd : Kept base d) :
    Kept base (loopback y0 t pattern d) := by
  unfold loopback
  split
  · assumption
  · apply sendLink_kept
    assumption

theorem execLoopback_kept {base : Device} {y0} {tick} {pattern} {s : State} (hs : Kept base s.dev) :
    KeptB base (execLoopback y0 tick pattern s) := by
  unfold execLoopback
  apply next_keptB
  · intro x1 h2
    apply acceptFrame_kept
    · intro x3 h4
      apply loopback_kept
      assumption
    · assumption
  · assumption

theorem settleReleased_kept {base : Device} {d : Device} (hd : Kept base d) :
    Kept base (settleReleased d) := by
  unfold settleReleased
  split
  · assumption
  · lift_lets
    intro v1 v2
    clear_value v2
    refine Kept.mk_eq rfl rfl rfl rfl rfl rfl rfl rfl ?_
    assumption

theorem linkReturned_kept {base : Device} {d : Device} (hd : Kept base d) :
    Kept base (linkReturned d) := by
  unfold linkReturned
  lift_lets
  intro v1
  clear_value v1
  intro v2
  have h3 : Kept base v2 := by
    unfold v2
    apply releaseUnanswered_kept
    apply remakeClaims_kept
    refine Kept.mk_eq rfl rfl rfl rfl rfl rfl rfl rfl ?_
    assumption
  clear_value v2
  intro v4
  have h5 : Kept base v4 := by
    unfold v4
    apply refreshPeer_kept
    apply settleAllRemote_kept
    apply Kept.foldl
    · intro x6 x7 h8
      apply sendFpReq_kept
      assumption
    · assumption
  clear_value v4
  intro v9
  have h10 : Kept base v9 := by
    unfold v9
    apply handDetached_kept
    apply retellBatches_kept
    apply interruptForwarded_kept
    assumption
  clear_value v9
  intro v11
  have h12 : Kept base v11 := by
    unfold v11
    apply resendSalts_kept
    apply askAgain_kept
    apply sendAll_kept
    assumption
  clear_value v11
  intro v13
  have h14 : Kept base v13 := by
    unfold v13
    apply sendAll_kept
    assumption
  clear_value v13
  intro v15
  clear_value v15
  intro v16
  have h17 : Kept base v16 := by
    unfold v16
    apply Kept.foldl
    · intro x18 x19 h20
      apply sendLink_kept
      assumption
    · assumption
  clear_value v16
  intro v21
  clear_value v21
  apply settle_kept
  apply placeAllWaiting_kept
  apply sendAll_kept
  assumption

theorem heartbeat_kept {base : Device} {m} {d : Device} (hd : Kept base d) :
    Kept base (heartbeat m d) := by
  unfold heartbeat
  lift_lets
  intro v1
  clear_value v1
  intro v2
  clear_value v2
  intro v3 v4
  clear_value v4
  intro v5
  have h6 : Kept base v5 := by
    unfold v5
    refine Kept.mk_eq rfl rfl rfl rfl rfl rfl rfl rfl ?_
    assumption
  clear_value v5
  intro v7
  clear_value v7
  intro v8
  have h9 : Kept base v8 := by
    unfold v8
    apply refreshRanks_kept
    split
    · apply takePeerOffset_kept
      assumption
    · assumption
  clear_value v8
  intro v10
  clear_value v10
  intro v11
  clear_value v11
  intro v12
  have h13 : Kept base v12 := by
    unfold v12
    split
    · apply linkReturned_kept
      assumption
    · apply refreshPeer_kept
      assumption
  clear_value v12
  apply proceed_kept
  apply settle_kept
  apply refreshDirty_kept
  apply settleReleased_kept
  apply refreshTimeLock_kept
  assumption

theorem execHeartbeat_kept {base : Device} {y0} {m} {s : State} (hs : Kept base s.dev) :
    KeptB base (execHeartbeat y0 m s) := by
  unfold execHeartbeat
  apply next_keptB
  · intro x1 h2
    apply acceptFrame_kept
    · intro x3 h4
      apply heartbeat_kept
      assumption
    · assumption
  · assumption

theorem peerWaitExpiry_kept {base : Device} {d : Device} (hd : Kept base d) :
    Kept base (peerWaitExpiry d) := by
  unfold peerWaitExpiry
  split
  · assumption
  · rename_i e1 e2 e3
    split
    · assumption
    · split
      · split
        · apply logEvent_kept
          apply waitUntil_kept
          assumption
        · assumption
      · lift_lets
        intro v4
        clear_value v4
        apply assertFence_kept
        apply waitUntil_kept
        assumption

theorem execPeerWaitExpiry_kept {base : Device} {s : State} (hs : Kept base s.dev) :
    KeptB base (execPeerWaitExpiry s) := by
  unfold execPeerWaitExpiry
  apply next_keptB
  · intro x1 h2
    apply peerWaitExpiry_kept
    assumption
  · assumption

theorem execPtpSync_kept {base : Device} {m} {s : State} (hs : Kept base s.dev) :
    KeptB base (execPtpSync m s) := by
  unfold execPtpSync
  apply next_keptB
  · intro x1 h2
    apply proceed_kept
    apply syncReceive_kept
    assumption
  · assumption

/-! ## Handover -/

theorem onMove_kept {base : Device} {b} {f} {d : Device} (hd : Kept base d) :
    Kept base (onMove b f d) := by
  unfold onMove
  refine Kept.mk_eq rfl rfl rfl rfl rfl rfl rfl rfl ?_
  assumption

theorem sendEntries_kept {base : Device} {d : Device} (hd : Kept base d) :
    Kept base (sendEntries d) := by
  unfold sendEntries
  split
  · assumption
  · apply sendLink_kept
    refine Kept.mk_eq rfl rfl rfl rfl rfl rfl rfl rfl ?_
    assumption

theorem beginMove_kept {base : Device} {b} {d : Device} (hd : Kept base d) :
    Kept base (beginMove b d) := by
  unfold beginMove
  refine Kept.mk_eq rfl rfl rfl rfl rfl rfl rfl rfl ?_
  assumption

theorem bucketStream_kept {base : Device} {b} {d : Device} (hd : Kept base d) :
    Kept base (bucketStream b d) := by
  unfold bucketStream
  split
  · assumption
  · lift_lets
    intro v1
    have h2 : Kept base v1 := by
      unfold v1
      split
      · assumption
      · apply beginMove_kept
        apply sendEntries_kept
        assumption
    clear_value v1
    split
    · assumption
    · rename_i e3 e4 e5 e6
      lift_lets
      intro v7
      have h8 : Kept base v7 := by
        unfold v7
        split
        · assumption
        · apply sendLink_kept
          apply onMove_kept
          assumption
      clear_value v7
      intro v9
      clear_value v9
      intro v10
      clear_value v10
      split
      · split
        · assumption
        · apply placePaired_kept
          assumption
      · split
        · assumption
        · apply sendLink_kept
          apply onMove_kept
          assumption

theorem execBucketRecordsStream_kept {base : Device} {bucket} {s : State} (hs : Kept base s.dev) :
    KeptB base (execBucketRecordsStream bucket s) := by
  unfold execBucketRecordsStream
  apply next_keptB
  · intro x1 h2
    apply bucketStream_kept
    assumption
  · assumption

theorem takeEntry_kept {base : Device} {d : Device} {e} (hd : Kept base d) :
    Kept base (takeEntry d e) := by
  unfold takeEntry
  split
  · rename_i e1 e2 e3
    apply onCopy_kept
    assumption
  · apply addCopy_kept
    assumption

theorem takeEntries_kept {base : Device} {entries} {d : Device} (hd : Kept base d) :
    Kept base (takeEntries entries d) := by
  unfold takeEntries
  apply Kept.foldl
  · intro x1 x2 h3
    lift_lets
    intro v4
    have h5 : Kept base v4 := by
      unfold v4
      apply takeEntry_kept
      assumption
    clear_value v4
    split
    · rename_i e6 e7 e8
      apply recordCopy_kept
      assumption
    · assumption
  · assumption

theorem execFpEntries_kept {base : Device} {y0} {entries} {s : State} (hs : Kept base s.dev) :
    KeptB base (execFpEntries y0 entries s) := by
  unfold execFpEntries
  apply next_keptB
  · intro x1 h2
    apply acceptFrame_kept
    · intro x3 h4
      apply takeEntries_kept
      assumption
    · assumption
  · assumption

theorem execDrainDone_kept {base : Device} {y0} {bucket} {g} {s : State} (hs : Kept base s.dev) :
    KeptB base (execDrainDone y0 bucket g s) := by
  unfold execDrainDone
  apply next_keptB
  · intro x1 h2
    apply acceptFrame_kept
    · intro x3 h4
      apply onMove_kept
      assumption
    · assumption
  · assumption

theorem takeRecords_kept {base : Device} {b} {rs} {d : Device} (hd : Kept base d) :
    Kept base (takeRecords b rs d) := by
  unfold takeRecords
  lift_lets
  intro v1 v2
  clear_value v2
  intro v3
  have h4 : Kept base v3 := by
    unfold v3
    split
    · assumption
    · refine Kept.mk_eq rfl rfl rfl rfl rfl rfl rfl rfl ?_
      assumption
  clear_value v3
  apply onMove_kept
  assumption

theorem execBucketRecords_kept {base : Device} {y0} {bucket} {records} {s : State} (hs : Kept base s.dev) :
    KeptB base (execBucketRecords y0 bucket records s) := by
  unfold execBucketRecords
  apply next_keptB
  · intro x1 h2
    apply acceptFrame_kept
    · intro x3 h4
      apply takeRecords_kept
      assumption
    · assumption
  · assumption

theorem bumpErasure_kept {base : Device} {slot} {o} {n} {d : Device} (hd : Kept base d) :
    Kept base (bumpErasure slot o n d) := by
  unfold bumpErasure
  apply onSlot_kept
  assumption

theorem erasureAnswered_kept {base : Device} {slot} {m} {result} {d : Device} (hd : Kept base d) :
    Kept base (erasureAnswered slot m result d) := by
  unfold erasureAnswered
  lift_lets
  intro v1
  clear_value v1
  intro v2
  have h3 : Kept base v2 := by
    unfold v2
    split
    · apply bumpErasure_kept
      refine Kept.mk_eq rfl rfl rfl rfl rfl rfl rfl rfl ?_
      assumption
    · assumption
  clear_value v2
  apply onSlot_kept
  assumption

theorem requestDone_kept {base : Device} {req} {result} {d : Device} (hd : Kept base d) :
    Kept base (requestDone req result d) := by
  unfold requestDone
  split
  · assumption
  · rename_i e1 e2 e3
    lift_lets
    intro v4
    clear_value v4
    intro v5
    clear_value v5
    intro v6
    have h7 : Kept base v6 := by
      unfold v6
      refine Kept.mk_eq rfl rfl rfl rfl rfl rfl rfl rfl ?_
      assumption
    clear_value v6
    split
    · apply erasureAnswered_kept
      assumption
    · assumption

theorem execRequestDone_kept {base : Device} {y0} {req} {result} {s : State} (hs : Kept base s.dev) :
    KeptB base (execRequestDone y0 req result s) := by
  unfold execRequestDone
  apply next_keptB
  · intro x1 h2
    apply acceptFrame_kept
    · intro x3 h4
      apply requestDone_kept
      assumption
    · assumption
  · assumption

theorem eraseRequest_kept {base : Device} {req} {m} {barrier} {d : Device} (hd : Kept base d) :
    Kept base (eraseRequest req m barrier d) := by
  unfold eraseRequest
  split
  · apply sendLink_kept
    assumption
  · rename_i e1 e2 e3
    split
    · apply sendLink_kept
      assumption
    · split
      · apply sendLink_kept
        assumption
      · lift_lets
        intro v4
        clear_value v4
        intro v5
        have h6 : Kept base v5 := by
          unfold v5
          refine Kept.mk_eq rfl rfl rfl rfl rfl rfl rfl rfl ?_
          assumption
        clear_value v5
        intro v7
        have h8 : Kept base v7 := by
          unfold v7
          apply onBlock_kept
          assumption
        clear_value v7
        apply maybeState3_kept
        apply emptyBlock_kept
        assumption

theorem execEraseRequest_kept {base : Device} {y0} {req} {d} {barrier} {s : State} (hs : Kept base s.dev) :
    KeptB base (execEraseRequest y0 req d barrier s) := by
  unfold execEraseRequest
  apply next_keptB
  · intro x1 h2
    apply acceptFrame_kept
    · intro x3 h4
      apply eraseRequest_kept
      assumption
    · assumption
  · assumption

theorem moveRequest_kept {base : Device} {req} {stripe} {m} {reason} {d : Device} (hd : Kept base d) :
    Kept base (moveRequest req stripe m reason d) := by
  unfold moveRequest
  split
  · apply sendLink_kept
    assumption
  · rename_i e1 e2 e3
    split
    · apply sendLink_kept
      assumption
    · rename_i e4 e5 e6
      apply startMove_kept
      assumption

theorem execMoveRequest_kept {base : Device} {y0} {req} {stripe} {d} {reason} {s : State} (hs : Kept base s.dev) :
    KeptB base (execMoveRequest y0 req stripe d reason s) := by
  unfold execMoveRequest
  apply next_keptB
  · intro x1 h2
    apply acceptFrame_kept
    · intro x3 h4
      apply moveRequest_kept
      assumption
    · assumption
  · assumption

theorem mirrorData_kept {base : Device} {w} {r} {d : Device} (hd : Kept base d) :
    Kept base (mirrorData w r d) := by
  unfold mirrorData
  lift_lets
  intro v1
  clear_value v1
  intro v2
  have h3 : Kept base v2 := by
    unfold v2
    refine Kept.mk_eq rfl rfl rfl rfl rfl rfl rfl rfl ?_
    assumption
  clear_value v2
  intro v4
  clear_value v4
  intro v5
  clear_value v5
  apply ioActivity_kept
  apply adoptOwn_kept
  apply sendLink_kept
  assumption

theorem execMirrorData_kept {base : Device} {y0} {write} {r} {s : State} (hs : Kept base s.dev) :
    KeptB base (execMirrorData y0 write r s) := by
  unfold execMirrorData
  apply next_keptB
  · intro x1 h2
    apply acceptFrame_kept
    · intro x3 h4
      apply settle_kept
      apply mirrorData_kept
      assumption
    · assumption
  · assumption

theorem execHandoverAbort_kept {base : Device} {y0} {entry} {group} {mask} {s : State} (hs : Kept base s.dev) :
    KeptB base (execHandoverAbort y0 entry group mask s) := by
  unfold execHandoverAbort
  apply next_keptB
  · intro x1 h2
    apply acceptFrame_kept
    · intro x3 h4
      apply Kept.foldl
      · intro x5 x6 h7
        apply refreshDirty_kept
        apply revertHandover_kept
        assumption
      · assumption
    · assumption
  · assumption

theorem execReleased_kept {base : Device} {y0} {group} {mask} {tick} {s : State} (hs : Kept base s.dev) :
    KeptB base (execReleased y0 group mask tick s) := by
  unfold execReleased
  apply next_keptB
  · intro x1 h2
    apply acceptFrame_kept
    · intro x3 h4
      lift_lets
      intro v5 v6
      clear_value v6
      refine Kept.mk_eq rfl rfl rfl rfl rfl rfl rfl rfl ?_
      assumption
    · assumption
  · assumption

theorem takeBlock_kept {base : Device} {d : Device} {r} (hd : Kept base d) :
    Kept base (takeBlock d r) := by
  unfold takeBlock
  lift_lets
  intro v1
  clear_value v1
  intro v2
  clear_value v2
  intro v3
  clear_value v3
  intro v4
  clear_value v4
  intro v5
  clear_value v5
  refine Kept.mk_eq rfl rfl rfl rfl rfl rfl rfl rfl ?_
  assumption

theorem execHandoverState_kept {base : Device} {y0} {group} {mask} {blocks} {s : State} (hs : Kept base s.dev) :
    KeptB base (execHandoverState y0 group mask blocks s) := by
  unfold execHandoverState
  apply next_keptB
  · intro x1 h2
    apply acceptFrame_kept
    · intro x3 h4
      split
      · apply Kept.foldl
        · intro x5 x6 h7
          apply takeBlock_kept
          assumption
        · assumption
      · assumption
    · assumption
  · assumption

theorem rebalanceWindow_kept {base : Device} {d : Device} (hd : Kept base d) :
    Kept base (rebalanceWindow d) := by
  unfold rebalanceWindow
  lift_lets
  intro v1
  clear_value v1
  intro v2
  have h3 : Kept base v2 := by
    unfold v2
    apply waitTick_kept
    assumption
  clear_value v2
  intro v4
  clear_value v4
  intro v5
  clear_value v5
  intro v6
  clear_value v6
  intro v7
  clear_value v7
  intro v8
  clear_value v8
  intro v9
  have h10 : Kept base v9 := by
    unfold v9
    refine Kept.mk_eq rfl rfl rfl rfl rfl rfl rfl rfl ?_
    assumption
  clear_value v9
  intro v11
  have h12 : Kept base v11 := by
    unfold v11
    apply logEvent_kept
    assumption
  clear_value v11
  split
  · split
    · apply Kept.foldl
      · intro x13 x14 h15
        split
        · assumption
        · apply beginMove_kept
          assumption
      · assumption
    · assumption
  · assumption

theorem execRebalanceWindow_kept {base : Device} {s : State} (hs : Kept base s.dev) :
    KeptB base (execRebalanceWindow s) := by
  unfold execRebalanceWindow
  apply next_keptB
  · intro x1 h2
    apply rebalanceWindow_kept
    assumption
  · assumption

theorem trainChannel_kept {base : Device} {c} {ok} {d : Device} (hd : Kept base d) :
    Kept base (trainChannel c ok d) := by
  unfold trainChannel
  split
  · assumption
  · rename_i e1 e2 e3
    split
    · assumption
    · split
      · lift_lets
        intro v4
        clear_value v4
        intro v5
        clear_value v5
        refine Kept.mk_eq rfl rfl rfl rfl rfl rfl rfl rfl ?_
        assumption
      · apply failElement_kept
        assumption

theorem setDriven_kept {base : Device} {y0} {b} {d : Device} (hd : Kept base d) :
    Kept base (setDriven y0 b d) := by
  unfold setDriven
  lift_lets
  intro v1
  clear_value v1
  intro v2
  clear_value v2
  refine Kept.mk_eq rfl rfl rfl rfl rfl rfl rfl rfl ?_
  assumption

theorem handoverTakeChannel_kept {base : Device} {g} {trained} {d : Device} (hd : Kept base d) :
    Kept base (handoverTakeChannel g trained d) := by
  unfold handoverTakeChannel
  apply Kept.foldl
  · intro x1 x2 h3
    lift_lets
    intro v4
    have h5 : Kept base v4 := by
      unfold v4
      apply waitTick_kept
      assumption
    clear_value v4
    intro v6
    clear_value v6
    intro v7
    have h8 : Kept base v7 := by
      unfold v7
      apply setDriven_kept
      refine Kept.mk_eq rfl rfl rfl rfl rfl rfl rfl rfl ?_
      assumption
    clear_value v7
    intro v9
    have h10 : Kept base v9 := by
      unfold v9
      apply Kept.foldl
      · intro x11 x12 h13
        split
        · apply trainChannel_kept
          assumption
        · assumption
      · assumption
    clear_value v9
    apply refreshDirty_kept
    apply logEvent_kept
    assumption
  · assumption

theorem execHandoverTakeChannel_kept {base : Device} {group} {trained} {s : State} (hs : Kept base s.dev) :
    KeptB base (execHandoverTakeChannel group trained s) := by
  unfold execHandoverTakeChannel
  apply next_keptB
  · intro x1 h2
    apply handoverTakeChannel_kept
    assumption
  · assumption

theorem onHandover_kept {base : Device} {y0} {f} {d : Device} (hd : Kept base d) :
    Kept base (onHandover y0 f d) := by
  unfold onHandover
  refine Kept.mk_eq rfl rfl rfl rfl rfl rfl rfl rfl ?_
  assumption

theorem handoverRelease_kept {base : Device} {g} {d : Device} (hd : Kept base d) :
    Kept base (handoverRelease g d) := by
  unfold handoverRelease
  apply Kept.foldl
  · intro x1 x2 h3
    lift_lets
    intro v4
    clear_value v4
    intro v5
    have h6 : Kept base v5 := by
      unfold v5
      apply waitTick_kept
      assumption
    clear_value v5
    intro v7
    have h8 : Kept base v7 := by
      unfold v7
      apply setDriven_kept
      apply onHandover_kept
      assumption
    clear_value v7
    intro v9
    clear_value v9
    intro v10
    clear_value v10
    split
    · assumption
    · apply sendLink_kept
      refine Kept.mk_eq rfl rfl rfl rfl rfl rfl rfl rfl ?_
      assumption
  · assumption

theorem execHandoverRelease_kept {base : Device} {group} {s : State} (hs : Kept base s.dev) :
    KeptB base (execHandoverRelease group s) := by
  unfold execHandoverRelease
  apply next_keptB
  · intro x1 h2
    apply handoverRelease_kept
    assumption
  · assumption

theorem handoverDrained_kept {base : Device} {g} {d : Device} (hd : Kept base d) :
    Kept base (handoverDrained g d) := by
  unfold handoverDrained
  apply Kept.foldl
  · intro x1 x2 h3
    split
    · assumption
    · lift_lets
      intro v4
      clear_value v4
      apply sendLink_kept
      apply onHandover_kept
      assumption
  · assumption

theorem execHandoverDrained_kept {base : Device} {group} {s : State} (hs : Kept base s.dev) :
    KeptB base (execHandoverDrained group s) := by
  unfold execHandoverDrained
  apply next_keptB
  · intro x1 h2
    apply handoverDrained_kept
    assumption
  · assumption

theorem handoverPlacement_kept {base : Device} {d : Device} (hd : Kept base d) :
    Kept base (handoverPlacement d) := by
  unfold handoverPlacement
  split
  · assumption
  · split
    · assumption
    · rename_i e1 e2 e3 e4
      split
      · assumption
      · lift_lets
        intro v5
        clear_value v5
        intro v6
        clear_value v6
        intro v7 v8
        clear_value v8
        apply Kept.foldl
        · intro x9 x10 h11
          split
          · assumption
          · apply placePaired_kept
            assumption
        · assumption

theorem execHandoverPlacement_kept {base : Device} {s : State} (hs : Kept base s.dev) :
    KeptB base (execHandoverPlacement s) := by
  unfold execHandoverPlacement
  apply next_keptB
  · intro x1 h2
    apply handoverPlacement_kept
    assumption
  · assumption

theorem setHome_kept {base : Device} {b} {side} {d : Device} (hd : Kept base d) :
    Kept base (setHome b side d) := by
  unfold setHome
  lift_lets
  intro v1
  clear_value v1
  intro v2
  have h3 : Kept base v2 := by
    unfold v2
    refine Kept.mk_eq rfl rfl rfl rfl rfl rfl rfl rfl ?_
    assumption
  clear_value v2
  apply putOverride_kept
  assumption

theorem endReturn_kept {base : Device} {d : Device} (hd : Kept base d) :
    Kept base (endReturn d) := by
  unfold endReturn
  lift_lets
  intro v1 v2
  clear_value v2
  split
  · apply logEvent_kept
    apply returnSessions_kept
    apply hotSplit_kept
    refine Kept.mk_eq rfl rfl rfl rfl rfl rfl rfl rfl ?_
    assumption
  · split
    · apply hotSplit_kept
      refine Kept.mk_eq rfl rfl rfl rfl rfl rfl rfl rfl ?_
      assumption
    · assumption

theorem keepAccepted_kept {base : Device} {b} {d : Device} (hd : Kept base d) :
    Kept base (keepAccepted b d) := by
  unfold keepAccepted
  lift_lets
  intro v1 v2
  clear_value v2
  intro v3
  clear_value v3
  refine Kept.mk_eq rfl rfl rfl rfl rfl rfl rfl rfl ?_
  assumption

theorem launchMove_kept {base : Device} {b} {side} {d : Device} (hd : Kept base d) :
    Kept base (launchMove b side d) := by
  unfold launchMove
  lift_lets
  intro v1
  clear_value v1
  intro v2
  have h3 : Kept base v2 := by
    unfold v2
    split
    · assumption
    · refine Kept.mk_eq rfl rfl rfl rfl rfl rfl rfl rfl ?_
      assumption
  clear_value v2
  intro v4
  have h5 : Kept base v4 := by
    unfold v4
    split
    · apply keepAccepted_kept
      assumption
    · assumption
  clear_value v4
  apply endReturn_kept
  apply setHome_kept
  apply onMove_kept
  assumption

theorem leaveRings_kept {base : Device} {g} {mask} {d : Device} (hd : Kept base d) :
    Kept base (leaveRings g mask d) := by
  unfold leaveRings
  apply Kept.foldl
  · intro x1 x2 h3
    apply copyLost_kept
    assumption
  · assumption

theorem replaceProgram_kept {base : Device} {o} {d : Device} (hd : Kept base d) :
    Kept base (replaceProgram o d) := by
  unfold replaceProgram
  lift_lets
  intro v1
  have h2 : Kept base v1 := by
    unfold v1
    apply engineSees_kept
    apply endOp_kept
    assumption
  clear_value v1
  intro v3
  clear_value v3
  intro v4
  have h5 : Kept base v4 := by
    unfold v4
    refine Kept.mk_eq rfl rfl rfl rfl rfl rfl rfl rfl ?_
    assumption
  clear_value v4
  split
  · rename_i e6 e7 e8
    apply startMove_kept
    apply dropUnit_kept
    assumption
  · apply startMove_kept
    assumption

theorem leaveOps_kept {base : Device} {g} {mask} {d : Device} (hd : Kept base d) :
    Kept base (leaveOps g mask d) := by
  unfold leaveOps
  lift_lets
  intro v1
  clear_value v1
  apply Kept.foldl
  · intro x2 x3 h4
    split
    · apply replaceProgram_kept
      assumption
    · apply endOp_kept
      assumption
  · assumption

theorem launchHandover_kept {base : Device} {entry} {e} {t} {d : Device} (hd : Kept base d) :
    Kept base (launchHandover entry e t d) := by
  unfold launchHandover
  lift_lets
  intro v1
  clear_value v1
  intro v2
  clear_value v2
  intro v3
  clear_value v3
  intro v4
  clear_value v4
  intro v5
  clear_value v5
  intro v6
  have h7 : Kept base v6 := by
    unfold v6
    apply setOwnerBits_kept
    refine Kept.mk_eq rfl rfl rfl rfl rfl rfl rfl rfl ?_
    assumption
  clear_value v6
  apply refreshDirty_kept
  split
  · assumption
  · apply leaveOps_kept
    apply leaveRings_kept
    assumption

theorem gainBucket_kept {base : Device} {g} {m} {d : Device} (hd : Kept base d) :
    Kept base (gainBucket g m d) := by
  unfold gainBucket
  lift_lets
  intro v1
  clear_value v1
  intro v2
  have h3 : Kept base v2 := by
    unfold v2
    apply Kept.foldl
    · intro x4 x5 h6
      lift_lets
      intro v7
      clear_value v7
      intro v8
      clear_value v8
      intro v9
      have h10 : Kept base v9 := by
        unfold v9
        refine Kept.mk_eq rfl rfl rfl rfl rfl rfl rfl rfl ?_
        assumption
      clear_value v9
      intro v11
      have h12 : Kept base v11 := by
        unfold v11
        apply Kept.foldl
        · intro x13 x14 h15
          apply packManifest_kept
          assumption
        · apply touchMap_kept
          assumption
      clear_value v11
      intro v16
      clear_value v16
      intro v17
      have h18 : Kept base v17 := by
        unfold v17
        apply Kept.foldl
        · intro x19 x20 h21
          apply journalRecord_kept
          assumption
        · assumption
      clear_value v17
      apply putKey_kept
      assumption
    · assumption
  clear_value v2
  intro v22
  have h23 : Kept base v22 := by
    unfold v22
    apply journalRecord_kept
    assumption
  clear_value v22
  apply odBump_kept
  apply logEvent_kept
  assumption

theorem loseBucket_kept {base : Device} {m} {d : Device} (hd : Kept base d) :
    Kept base (loseBucket m d) := by
  unfold loseBucket
  lift_lets
  intro v1
  clear_value v1
  intro v2
  clear_value v2
  intro v3
  have h4 : Kept base v3 := by
    unfold v3
    apply Kept.foldl
    · intro x5 x6 h7
      apply journalRecord_kept
      apply touchMap_kept
      assumption
    · assumption
  clear_value v3
  intro v8
  have h9 : Kept base v8 := by
    unfold v8
    apply Kept.foldl
    · intro x10 x11 h12
      apply dropLocator_kept
      assumption
    · assumption
  clear_value v8
  intro v13
  clear_value v13
  apply odBump_kept
  refine Kept.mk_eq rfl rfl rfl rfl rfl rfl rfl rfl ?_
  assumption

theorem bucketGroup_kept {base : Device} {t} {d : Device} (hd : Kept base d) :
    Kept base (bucketGroup t d) := by
  unfold bucketGroup
  lift_lets
  intro v1
  clear_value v1
  intro v2
  clear_value v2
  intro v3
  have h4 : Kept base v3 := by
    unfold v3
    refine Kept.mk_eq rfl rfl rfl rfl rfl rfl rfl rfl ?_
    assumption
  clear_value v3
  apply Kept.foldl
  · intro x5 x6 h7
    split
    · apply loseBucket_kept
      assumption
    · apply gainBucket_kept
      assumption
  · assumption

/-! ## Takeover -/

theorem endForwarded_kept {base : Device} {d : Device} (hd : Kept base d) :
    Kept base (endForwarded d) := by
  unfold endForwarded
  lift_lets
  intro v1
  clear_value v1
  apply Kept.foldl
  · intro x2 x3 h4
    lift_lets
    intro v5
    clear_value v5
    intro v6
    have h7 : Kept base v6 := by
      unfold v6
      apply Kept.foldl
      · intro x8 x9 h10
        apply removeCmd_kept
        assumption
      · assumption
    clear_value v6
    intro v11
    have h12 : Kept base v11 := by
      unfold v11
      apply onCmd_kept
      assumption
    clear_value v11
    split
    · apply removeCmd_kept
      assumption
    · split
      · apply onCmd_kept
        assumption
      · split
        · split
          · rename_i e13 e14 e15 e16 e17 e18
            apply secureSorted_kept
            split
            · rename_i e19 e20 e21
              apply sortErasure_kept
              assumption
            · assumption
          · apply doneCmd_kept
            assumption
        · apply failCmd_kept
          assumption
  · assumption

theorem settleCount_kept {base : Device} {before} {c} {d : Device} (hd : Kept base d) :
    Kept base (settleCount before c d) := by
  unfold settleCount
  split
  · assumption
  · split
    · split
      · apply killCopy_kept
        assumption
      · apply dropCopy_kept
        apply hotRemove_kept
        assumption
    · split
      · split
        · rename_i e1 e2 e3 e4 e5 e6 e7
          apply storeAgain_kept
          apply logEvent_kept
          assumption
        · assumption
      · apply recordCopy_kept
        assumption

theorem repeatClaim_kept {base : Device} {mine} {c} {n} {i} {k} {w} {d : Device} (hd : Kept base d) :
    Kept base (repeatClaim mine c n i k w d) := by
  unfold repeatClaim
  split
  · split
    · apply onChunk_kept
      assumption
    · assumption
  · rename_i e1 e2 e3
    split
    · assumption
    · split
      · apply onChunk_kept
        apply onCopy_kept
        assumption
      · lift_lets
        intro v4
        clear_value v4
        intro v5
        have h6 : Kept base v5 := by
          unfold v5
          refine Kept.mk_eq rfl rfl rfl rfl rfl rfl rfl rfl ?_
          assumption
        clear_value v5
        apply claimChunk_kept
        apply onChunk_kept
        apply onItem_kept
        assumption

theorem rebuildCounts_kept {base : Device} {mine} {d : Device} (hd : Kept base d) :
    Kept base (rebuildCounts mine d) := by
  unfold rebuildCounts
  lift_lets
  intro v1
  clear_value v1
  intro v2 v3
  clear_value v3
  intro v4
  have h5 : Kept base v4 := by
    unfold v4
    refine Kept.mk_eq rfl rfl rfl rfl rfl rfl rfl rfl ?_
    assumption
  clear_value v4
  intro v6
  have h7 : Kept base v6 := by
    unfold v6
    apply Kept.foldl
    · intro x8 x9 h10
      apply Kept.foldl
      · intro x11 x12 h13
        apply Kept.foldl
        · intro x14 x15 h16
          apply repeatClaim_kept
          assumption
        · assumption
      · assumption
    · assumption
  clear_value v6
  apply Kept.foldl
  · intro x17 x18 h19
    apply settleCount_kept
    assumption
  · assumption

theorem becomeAll_kept {base : Device} {d : Device} (hd : Kept base d) :
    Kept base (becomeAll d) := by
  unfold becomeAll
  lift_lets
  intro v1 v2
  clear_value v2
  intro v3
  clear_value v3
  intro v4
  have h5 : Kept base v4 := by
    unfold v4
    apply rebuildCounts_kept
    refine Kept.mk_eq rfl rfl rfl rfl rfl rfl rfl rfl ?_
    assumption
  clear_value v4
  apply sortHere_kept
  apply invalidateNone_kept
  assumption

theorem takeoverComplete_kept {base : Device} {d : Device} (hd : Kept base d) :
    Kept base (takeoverComplete d) := by
  unfold takeoverComplete
  split
  · assumption
  · rename_i e1 e2 e3
    split
    · assumption
    · lift_lets
      intro v4
      have h5 : Kept base v4 := by
        unfold v4
        apply becomeAll_kept
        assumption
      clear_value v4
      intro v6
      clear_value v6
      intro v7
      have h8 : Kept base v7 := by
        unfold v7
        apply odBump_kept
        apply logEvent_kept
        apply setCond_kept
        assumption
      clear_value v7
      apply settle_kept
      apply endForwarded_kept
      apply adoptSessions_kept
      apply refreshDirty_kept
      apply persist_kept
      assumption

theorem execTakeoverComplete_kept {base : Device} {s : State} (hs : Kept base s.dev) :
    KeptB base (execTakeoverComplete s) := by
  unfold execTakeoverComplete
  apply next_keptB
  · intro x1 h2
    apply takeoverComplete_kept
    assumption
  · assumption

theorem dropArmed_kept {base : Device} {d : Device} (hd : Kept base d) :
    Kept base (dropArmed d) := by
  unfold dropArmed
  lift_lets
  intro v1 v2
  clear_value v2
  split
  · assumption
  · apply endCuts_kept
    assumption

theorem keepSecure_kept {base : Device} {d : Device} {c} (hd : Kept base d) :
    Kept base (keepSecure d c) := by
  unfold keepSecure
  lift_lets
  intro v1
  clear_value v1
  intro v2
  clear_value v2
  intro v3
  have h4 : Kept base v3 := by
    unfold v3
    apply onCmd_kept
    assumption
  clear_value v3
  intro v5 v6
  clear_value v6
  split
  · assumption
  · split
    · assumption
    · split
      · rename_i e7 e8 e9 e10 e11
        apply onCmd_kept
        apply KeptP.snd
        refine KeptOP.pair e11 ?_
        apply takeSlot_kept
        assumption
      · refine Kept.mk_eq rfl rfl rfl rfl rfl rfl rfl rfl ?_
        assumption

theorem markKept_kept {base : Device} {d : Device} (hd : Kept base d) :
    Kept base (markKept d) := by
  unfold markKept
  lift_lets
  intro v1
  have h2 : Kept base v1 := by
    unfold v1
    apply Kept.foldl
    · intro x3 x4 h5
      apply keepSecure_kept
      assumption
    · assumption
  clear_value v1
  intro v6 v7
  clear_value v7
  intro v8
  clear_value v8
  refine Kept.mk_eq rfl rfl rfl rfl rfl rfl rfl rfl ?_
  assumption

theorem failBatches_kept {base : Device} {d : Device} (hd : Kept base d) :
    Kept base (failBatches d) := by
  unfold failBatches
  lift_lets
  intro v1
  clear_value v1
  apply Kept.foldl
  · intro x2 x3 h4
    lift_lets
    intro v5
    clear_value v5
    apply failCmd_kept
    apply Kept.foldl
    · intro x6 x7 h8
      apply removeCmd_kept
      assumption
    · assumption
  · assumption

theorem settleShares_kept {base : Device} {d : Device} (hd : Kept base d) :
    Kept base (settleShares d) := by
  unfold settleShares
  apply Kept.foldl
  · intro x1 x2 h3
    split
    · rename_i e4 e5 e6
      apply onCmd_kept
      assumption
    · apply removeCmd_kept
      apply Kept.foldl
      · intro x7 x8 h9
        apply discardItem_kept
        assumption
      · assumption
  · assumption

theorem takeKey_kept {base : Device} {d : Device} {k} (hd : Kept base d) :
    Kept base (takeKey d k) := by
  unfold takeKey
  split
  · assumption
  · lift_lets
    intro v1
    clear_value v1
    intro v2
    clear_value v2
    intro v3
    have h4 : Kept base v3 := by
      unfold v3
      refine Kept.mk_eq rfl rfl rfl rfl rfl rfl rfl rfl ?_
      assumption
    clear_value v3
    intro v5
    have h6 : Kept base v5 := by
      unfold v5
      apply Kept.foldl
      · intro x7 x8 h9
        apply packManifest_kept
        assumption
      · apply touchMap_kept
        assumption
    clear_value v5
    intro v10
    clear_value v10
    intro v11
    have h12 : Kept base v11 := by
      unfold v11
      apply Kept.foldl
      · intro x13 x14 h15
        apply journalRecord_kept
        assumption
      · assumption
    clear_value v11
    apply putKey_kept
    assumption

theorem takeStripe_kept {base : Device} {rs} {d : Device} {r} (hd : Kept base d) :
    Kept base (takeStripe rs d r) := by
  unfold takeStripe
  split
  · split
    · assumption
    · lift_lets
      intro v1
      clear_value v1
      intro v2
      clear_value v2
      intro v3
      have h4 : Kept base v3 := by
        unfold v3
        apply Kept.foldl
        · intro x5 x6 h7
          apply noteResidue_kept
          assumption
        · assumption
      clear_value v3
      intro v8
      clear_value v8
      intro v9
      clear_value v9
      refine Kept.mk_eq rfl rfl rfl rfl rfl rfl rfl rfl ?_
      assumption
  · apply onStripe_kept
    assumption
  · apply onStripe_kept
    assumption
  · apply noteResidue_kept
    apply onMember_kept
    assumption
  · apply onStripe_kept
    assumption
  · assumption

theorem adoptPeer_kept {base : Device} {keys} {chunks} {stripes} {blocks} {d : Device} (hd : Kept base d) :
    Kept base (adoptPeer keys chunks stripes blocks d) := by
  unfold adoptPeer
  lift_lets
  intro v1
  have h2 : Kept base v1 := by
    unfold v1
    apply Kept.foldl
    · intro x3 x4 h5
      apply takeBlock_kept
      assumption
    · assumption
  clear_value v1
  intro v6
  have h7 : Kept base v6 := by
    unfold v6
    apply Kept.foldl
    · intro x8 x9 h10
      apply takeStripe_kept
      assumption
    · assumption
  clear_value v6
  intro v11
  have h12 : Kept base v11 := by
    unfold v11
    apply Kept.foldl
    · intro x13 x14 h15
      apply takeEntry_kept
      assumption
    · assumption
  clear_value v11
  intro v16
  have h17 : Kept base v16 := by
    unfold v16
    apply Kept.foldl
    · intro x18 x19 h20
      apply takeKey_kept
      assumption
    · assumption
  clear_value v16
  apply settle_kept
  apply adoptHeld_kept
  apply settleShares_kept
  apply failBatches_kept
  apply markKept_kept
  apply dropArmed_kept
  assumption

theorem ownAll_kept {base : Device} {trained} {d : Device} (hd : Kept base d) :
    Kept base (ownAll trained d) := by
  unfold ownAll
  lift_lets
  intro v1
  clear_value v1
  intro v2
  clear_value v2
  intro v3
  clear_value v3
  intro v4
  have h5 : Kept base v4 := by
    unfold v4
    refine Kept.mk_eq rfl rfl rfl rfl rfl rfl rfl rfl ?_
    assumption
  clear_value v4
  apply refreshDirty_kept
  apply Kept.foldl
  · intro x6 x7 h8
    apply trainChannel_kept
    assumption
  · assumption

theorem takeover_kept {base : Device} {keys} {chunks} {stripes} {blocks} {trained} {d : Device} (hd : Kept base d) :
    Kept base (takeover keys chunks stripes blocks trained d) := by
  unfold takeover
  split
  · assumption
  · rename_i e1 e2 e3
    lift_lets
    intro v4
    have h5 : Kept base v4 := by
      unfold v4
      apply waitUntil_kept
      assumption
    clear_value v4
    intro v6
    have h7 : Kept base v6 := by
      unfold v6
      split
      · assumption
      · apply ownAll_kept
        assumption
    clear_value v6
    intro v8
    have h9 : Kept base v8 := by
      unfold v8
      split
      · assumption
      · apply drawSecrets_kept
        assumption
    clear_value v8
    intro v10
    have h11 : Kept base v10 := by
      unfold v10
      apply proceed_kept
      assumption
    clear_value v10
    intro v12
    clear_value v12
    split
    · apply adoptPeer_kept
      refine Kept.mk_eq rfl rfl rfl rfl rfl rfl rfl rfl ?_
      assumption
    · assumption

theorem execTakeover_kept {base : Device} {keys} {chunks} {stripes} {blocks} {trained} {s : State} (hs : Kept base s.dev) :
    KeptB base (execTakeover keys chunks stripes blocks trained s) := by
  unfold execTakeover
  apply next_keptB
  · intro x1 h2
    apply takeover_kept
    assumption
  · assumption

theorem fenceRelease_kept {base : Device} {straps} {d : Device} (hd : Kept base d) :
    Kept base (fenceRelease straps d) := by
  unfold fenceRelease
  split
  · assumption
  · lift_lets
    intro v1
    clear_value v1
    intro v2
    have h3 : Kept base v2 := by
      unfold v2
      refine Kept.mk_eq rfl rfl rfl rfl rfl rfl rfl rfl ?_
      assumption
    clear_value v2
    split
    · assumption
    · apply leaveReset_kept
      apply joinCan_kept
      apply sampleStraps_kept
      apply odPut_kept
      assumption

theorem execFenceInRelease_kept {base : Device} {straps} {s : State} (hs : Kept base s.dev) :
    KeptB base (execFenceInRelease straps s) := by
  unfold execFenceInRelease
  apply next_keptB
  · intro x1 h2
    apply fenceRelease_kept
    assumption
  · assumption

theorem fenceIn_kept {base : Device} {d : Device} (hd : Kept base d) :
    Kept base (fenceIn d) := by
  unfold fenceIn
  lift_lets
  intro v1
  clear_value v1
  intro v2
  have h3 : Kept base v2 := by
    unfold v2
    refine Kept.mk_eq rfl rfl rfl rfl rfl rfl rfl rfl ?_
    assumption
  clear_value v2
  split
  · assumption
  · apply dropVolatile_kept
    assumption

theorem execFenceInAssert_kept {base : Device} {s : State} (hs : Kept base s.dev) :
    KeptB base (execFenceInAssert s) := by
  unfold execFenceInAssert
  apply next_keptB
  · intro x1 h2
    apply fenceIn_kept
    assumption
  · assumption

end Sys2Proof.Machine
end

