-- ==== Sys2Proof/Laws/KeptI.lean ====
section
/-! SUPPORT. What no operation of Ports, Power, Fans takes back: `Kept` through each. -/

namespace Sys2Proof.Machine

/-! ## Ports -/

theorem onAssoc_kept {base : Device} {p} {y1} {f} {d : Device} (hd : Kept base d) :
    Kept base (onAssoc p y1 f d) := by
  unfold onAssoc
  refine Kept.mk_eq rfl rfl rfl rfl rfl rfl rfl rfl ?_
  assumption

theorem portDown_kept {base : Device} {p} {d : Device} (hd : Kept base d) :
    Kept base (portDown p d) := by
  unfold portDown
  lift_lets
  intro v1
  clear_value v1
  intro v2
  have h3 : Kept base v2 := by
    unfold v2
    apply setLink_kept
    apply onPort_kept
    assumption
  clear_value v2
  intro v4
  have h5 : Kept base v4 := by
    unfold v4
    apply powerPort_kept
    apply macBump_kept
    assumption
  clear_value v4
  intro v6
  have h7 : Kept base v6 := by
    unfold v6
    apply Kept.foldl
    · intro x8 x9 h10
      apply remoteLoss_kept
      assumption
    · assumption
  clear_value v6
  split
  · apply macBump_kept
    assumption
  · assumption

theorem portsDown_kept {base : Device} {d : Device} (hd : Kept base d) :
    Kept base (portsDown d) := by
  unfold portsDown
  apply Kept.foldl
  · intro x1 x2 h3
    apply portDown_kept
    assumption
  · assumption

theorem portChanged_kept {base : Device} {p} {d : Device} (hd : Kept base d) :
    Kept base (portChanged p d) := by
  unfold portChanged
  apply trainPort_kept
  apply portDown_kept
  assumption

theorem onQp_kept {base : Device} {p} {qp} {f} {d : Device} (hd : Kept base d) :
    Kept base (onQp p qp f d) := by
  unfold onQp
  refine Kept.mk_eq rfl rfl rfl rfl rfl rfl rfl rfl ?_
  assumption

theorem execRateIncreaseTimer_kept {base : Device} {port} {qp} {s : State} (hs : Kept base s.dev) :
    KeptB base (execRateIncreaseTimer port qp s) := by
  unfold execRateIncreaseTimer
  apply next_keptB
  · intro x1 h2
    split
    · assumption
    · rename_i e3 e4 e5
      split
      · assumption
      · lift_lets
        intro v6
        have h7 : Kept base v6 := by
          unfold v6
          apply waitUntil_kept
          assumption
        clear_value v6
        apply onQp_kept
        assumption
  · assumption

theorem execCnpReceive_kept {base : Device} {port} {qp} {s : State} (hs : Kept base s.dev) :
    KeptB base (execCnpReceive port qp s) := by
  unfold execCnpReceive
  apply next_keptB
  · intro x1 h2
    split
    · apply onQp_kept
      apply macBump_kept
      apply ownFrame_kept
      assumption
    · assumption
  · assumption

theorem portSend_kept {base : Device} {p} {f} {d : Device} (hd : Kept base d) :
    Kept base (portSend p f d) := by
  unfold portSend
  apply sendOn_kept
  assumption

theorem ecnCe_kept {base : Device} {p} {qp} {d : Device} (hd : Kept base d) :
    Kept base (ecnCe p qp d) := by
  unfold ecnCe
  split
  · assumption
  · lift_lets
    intro v1
    have h2 : Kept base v1 := by
      unfold v1
      apply macBump_kept
      apply ownFrame_kept
      assumption
    clear_value v1
    split
    · assumption
    · rename_i e3 e4 e5 e6
      split
      · apply macBump_kept
        apply portSend_kept
        apply onQp_kept
        assumption
      · assumption

theorem execEcnCeReceive_kept {base : Device} {port} {qp} {s : State} (hs : Kept base s.dev) :
    KeptB base (execEcnCeReceive port qp s) := by
  unfold execEcnCeReceive
  apply next_keptB
  · intro x1 h2
    apply ecnCe_kept
    assumption
  · assumption

theorem pauseReceive_kept {base : Device} {p} {pfc} {priorities} {quanta} {d : Device} (hd : Kept base d) :
    Kept base (pauseReceive p pfc priorities quanta d) := by
  unfold pauseReceive
  split
  · assumption
  · lift_lets
    intro v1
    have h2 : Kept base v1 := by
      unfold v1
      apply macBump_kept
      apply goodFrame_kept
      assumption
    clear_value v1
    intro v3
    clear_value v3
    intro v4
    split
    · apply flushPort_kept
      apply onPort_kept
      assumption
    · split
      · apply flushPort_kept
        apply onPort_kept
        assumption
      · assumption

theorem execPauseReceive_kept {base : Device} {port} {pfc} {priorities} {quanta} {s : State} (hs : Kept base s.dev) :
    KeptB base (execPauseReceive port pfc priorities quanta s) := by
  unfold execPauseReceive
  apply next_keptB
  · intro x1 h2
    apply pauseReceive_kept
    assumption
  · assumption

theorem holdSender_kept {base : Device} {p} {d : Device} (hd : Kept base d) :
    Kept base (holdSender p d) := by
  unfold holdSender
  lift_lets
  intro v1
  have h2 : Kept base v1 := by
    unfold v1
    apply onPort_kept
    assumption
  clear_value v1
  intro v3
  clear_value v3
  apply macBump_kept
  apply portSend_kept
  assumption

theorem execPauseRenewal_kept {base : Device} {port} {s : State} (hs : Kept base s.dev) :
    KeptB base (execPauseRenewal port s) := by
  unfold execPauseRenewal
  apply next_keptB
  · intro x1 h2
    split
    · apply holdSender_kept
      apply waitUntil_kept
      assumption
    · assumption
  · assumption

theorem freeSender_kept {base : Device} {p} {d : Device} (hd : Kept base d) :
    Kept base (freeSender p d) := by
  unfold freeSender
  lift_lets
  intro v1
  have h2 : Kept base v1 := by
    unfold v1
    apply onPort_kept
    assumption
  clear_value v1
  intro v3
  clear_value v3
  apply macBump_kept
  apply portSend_kept
  assumption

theorem receiveBuffer_kept {base : Device} {p} {fill} {d : Device} (hd : Kept base d) :
    Kept base (receiveBuffer p fill d) := by
  unfold receiveBuffer
  lift_lets
  intro v1
  have h2 : Kept base v1 := by
    unfold v1
    apply onPort_kept
    assumption
  clear_value v1
  split
  · assumption
  · split
    · apply holdSender_kept
      assumption
    · split
      · apply freeSender_kept
        assumption
      · assumption

theorem execReceiveBufferThreshold_kept {base : Device} {port} {fill} {s : State} (hs : Kept base s.dev) :
    KeptB base (execReceiveBufferThreshold port fill s) := by
  unfold execReceiveBufferThreshold
  apply next_keptB
  · intro x1 h2
    apply receiveBuffer_kept
    assumption
  · assumption

theorem partnerEnd_kept {base : Device} {p} {d : Device} (hd : Kept base d) :
    Kept base (partnerEnd p d) := by
  unfold partnerEnd
  lift_lets
  intro v1
  have h2 : Kept base v1 := by
    unfold v1
    apply closeSession_kept
    assumption
  clear_value v1
  intro v3
  clear_value v3
  intro v4
  clear_value v4
  refine Kept.mk_eq rfl rfl rfl rfl rfl rfl rfl rfl ?_
  assumption

theorem associationEnd_kept {base : Device} {p} {y1} {d : Device} (hd : Kept base d) :
    Kept base (associationEnd p y1 d) := by
  unfold associationEnd
  lift_lets
  intro v1
  clear_value v1
  intro v2
  have h3 : Kept base v2 := by
    unfold v2
    apply Kept.foldl
    · intro x4 x5 h6
      apply dropReservation_kept
      assumption
    · assumption
  clear_value v2
  intro v7
  clear_value v7
  intro v8
  clear_value v8
  intro v9
  have h10 : Kept base v9 := by
    unfold v9
    refine Kept.mk_eq rfl rfl rfl rfl rfl rfl rfl rfl ?_
    assumption
  clear_value v9
  split
  · assumption
  · apply partnerEnd_kept
    assumption

theorem keepAliveExpiry_kept {base : Device} {p} {y1} {d : Device} (hd : Kept base d) :
    Kept base (keepAliveExpiry p y1 d) := by
  unfold keepAliveExpiry
  split
  · assumption
  · rename_i e1 e2 e3
    split
    · assumption
    · apply associationEnd_kept
      apply waitUntil_kept
      assumption

theorem execKeepAliveExpiry_kept {base : Device} {port} {assoc} {s : State} (hs : Kept base s.dev) :
    KeptB base (execKeepAliveExpiry port assoc s) := by
  unfold execKeepAliveExpiry
  apply next_keptB
  · intro x1 h2
    apply keepAliveExpiry_kept
    assumption
  · assumption

theorem execPortLinkDown_kept {base : Device} {port} {s : State} (hs : Kept base s.dev) :
    KeptB base (execPortLinkDown port s) := by
  unfold execPortLinkDown
  apply next_keptB
  · intro x1 h2
    apply portDown_kept
    assumption
  · assumption

theorem portUp_kept {base : Device} {p} {lanes} {d : Device} (hd : Kept base d) :
    Kept base (portUp p lanes d) := by
  unfold portUp
  lift_lets
  intro v1
  have h2 : Kept base v1 := by
    unfold v1
    apply powerPort_kept
    assumption
  clear_value v1
  intro v3
  clear_value v3
  split
  · assumption
  · apply setLink_kept
    refine Kept.mk_eq rfl rfl rfl rfl rfl rfl rfl rfl ?_
    assumption

theorem execPortLinkUp_kept {base : Device} {port} {lanes} {s : State} (hs : Kept base s.dev) :
    KeptB base (execPortLinkUp port lanes s) := by
  unfold execPortLinkUp
  apply next_keptB
  · intro x1 h2
    apply portUp_kept
    assumption
  · assumption

theorem roceConnect_kept {base : Device} {p} {qp} {d : Device} (hd : Kept base d) :
    Kept base (roceConnect p qp d) := by
  unfold roceConnect
  split
  · assumption
  · split
    · apply portSend_kept
      assumption
    · split
      · apply macBump_kept
        assumption
      · lift_lets
        intro v1
        clear_value v1
        intro v2
        clear_value v2
        apply portSend_kept
        refine Kept.mk_eq rfl rfl rfl rfl rfl rfl rfl rfl ?_
        assumption

theorem execRoceConnectRequest_kept {base : Device} {port} {qp} {s : State} (hs : Kept base s.dev) :
    KeptB base (execRoceConnectRequest port qp s) := by
  unfold execRoceConnectRequest
  apply next_keptB
  · intro x1 h2
    apply roceConnect_kept
    assumption
  · assumption

theorem icReq_kept {base : Device} {p} {r} {d : Device} (hd : Kept base d) :
    Kept base (icReq p r d) := by
  unfold icReq
  split
  · assumption
  · split
    · apply portSend_kept
      assumption
    · split
      · apply macBump_kept
        assumption
      · split
        · apply portSend_kept
          assumption
        · apply portSend_kept
          apply onPort_kept
          assumption

theorem execIcreq_kept {base : Device} {port} {r} {s : State} (hs : Kept base s.dev) :
    KeptB base (execIcreq port r s) := by
  unfold execIcreq
  apply next_keptB
  · intro x1 h2
    apply icReq_kept
    assumption
  · assumption

theorem icmpUnreachable_kept {base : Device} {p} {conn} {mtu} {d : Device} (hd : Kept base d) :
    Kept base (icmpUnreachable p conn mtu d) := by
  unfold icmpUnreachable
  split
  · apply ownFrame_kept
    apply onPort_kept
    assumption
  · assumption

theorem execIcmpUnreachable_kept {base : Device} {port} {conn} {mtu} {s : State} (hs : Kept base s.dev) :
    KeptB base (execIcmpUnreachable port conn mtu s) := by
  unfold execIcmpUnreachable
  apply next_keptB
  · intro x1 h2
    apply icmpUnreachable_kept
    assumption
  · assumption

theorem icmpEcho_kept {base : Device} {p} {v6} {data} {d : Device} (hd : Kept base d) :
    Kept base (icmpEcho p v6 data d) := by
  unfold icmpEcho
  split
  · assumption
  · split
    · split
      · apply macBump_kept
        assumption
      · lift_lets
        intro v1
        have h2 : Kept base v1 := by
          unfold v1
          split
          · apply onPort_kept
            assumption
          · assumption
        clear_value v1
        split
        · apply portSend_kept
          apply ownFrame_kept
          apply onPort_kept
          assumption
        · apply macBump_kept
          assumption
    · split
      · apply macBump_kept
        assumption
      · lift_lets
        intro v3
        have h4 : Kept base v3 := by
          unfold v3
          split
          · apply onPort_kept
            assumption
          · assumption
        clear_value v3
        split
        · apply portSend_kept
          apply ownFrame_kept
          apply onPort_kept
          assumption
        · apply macBump_kept
          assumption

theorem execIcmpEcho_kept {base : Device} {port} {data} {s : State} (hs : Kept base s.dev) :
    KeptB base (execIcmpEcho port data s) := by
  unfold execIcmpEcho
  apply next_keptB
  · intro x1 h2
    apply icmpEcho_kept
    assumption
  · assumption

theorem arpRequest_kept {base : Device} {p} {addr} {d : Device} (hd : Kept base d) :
    Kept base (arpRequest p addr d) := by
  unfold arpRequest
  split
  · assumption
  · lift_lets
    intro v1
    have h2 : Kept base v1 := by
      unfold v1
      apply ownFrame_kept
      assumption
    clear_value v1
    split
    · apply portSend_kept
      assumption
    · assumption

theorem execArpRequest_kept {base : Device} {port} {addr} {s : State} (hs : Kept base s.dev) :
    KeptB base (execArpRequest port addr s) := by
  unfold execArpRequest
  apply next_keptB
  · intro x1 h2
    apply arpRequest_kept
    assumption
  · assumption

theorem propertySet_kept {base : Device} {q} {c} {d : Device} (hd : Kept base d) :
    Kept base (propertySet q c d) := by
  unfold propertySet
  lift_lets
  intro v1
  clear_value v1
  split
  · apply completeSt_kept
    assumption
  · apply completeSt_kept
    apply onAssoc_kept
    assumption

theorem keepAlive_kept {base : Device} {q} {c} {d : Device} (hd : Kept base d) :
    Kept base (keepAlive q c d) := by
  unfold keepAlive
  apply completeSt_kept
  apply onAssoc_kept
  assumption

theorem adminFetched_kept {base : Device} {q} {d : Device} (hd : Kept base d) :
    Kept base (adminFetched q d) := by
  unfold adminFetched
  apply onAssoc_kept
  assumption

theorem adminServed_kept {base : Device} {q} {c} {d : Device} (hd : Kept base d) :
    Kept base (adminServed q c d) := by
  unfold adminServed
  apply askData_kept
  apply adminFetched_kept
  assumption

theorem adminCmd_kept {base : Device} {q} {c} {f} {d : Device} (hf : ∀ w0 w1, Kept base w1 → Kept base (f w0 w1)) (hd : Kept base d) :
    Kept base (adminCmd q c f d) := by
  unfold adminCmd
  split
  · assumption
  · split
    · assumption
    · rename_i e1 e2 e3 e4
      split
      · apply completeSt_kept
        apply adminFetched_kept
        assumption
      · apply hf
        apply adminServed_kept
        assumption

theorem transportWork_kept {base : Device} {p} {f} {d : Device} (hd : Kept base d) :
    Kept base (transportWork p f d) := by
  unfold transportWork
  lift_lets
  intro v1
  have h2 : Kept base v1 := by
    unfold v1
    apply macBump_kept
    assumption
  clear_value v1
  split
  · rename_i e3 e4 e5
    apply macBump_kept
    apply portSend_kept
    assumption
  · assumption

theorem capture_kept {base : Device} {p} {status} {f} {d : Device} (hd : Kept base d) :
    Kept base (capture p status f d) := by
  unfold capture
  lift_lets
  intro v1
  clear_value v1
  intro v2
  clear_value v2
  intro v3
  clear_value v3
  intro v4
  clear_value v4
  split
  · assumption
  · apply macBump_kept
    apply onPort_kept
    assumption

theorem badFrame_kept {base : Device} {p} {status} {f} {d : Device} (hd : Kept base d) :
    Kept base (badFrame p status f d) := by
  unfold badFrame
  lift_lets
  intro v1
  have h2 : Kept base v1 := by
    unfold v1
    split
    · apply macBump_kept
      assumption
    · assumption
  clear_value v1
  intro v3
  have h4 : Kept base v3 := by
    unfold v3
    apply macBump_kept
    assumption
  clear_value v3
  intro v5
  have h6 : Kept base v5 := by
    unfold v5
    split
    · apply macBump_kept
      assumption
    · assumption
  clear_value v5
  intro v7
  have h8 : Kept base v7 := by
    unfold v7
    split
    · apply macBump_kept
      assumption
    · assumption
  clear_value v7
  apply capture_kept
  assumption

theorem frameTaken_kept {base : Device} {p} {f} {d : Device} (hd : Kept base d) :
    KeptP base (frameTaken p f d) := by
  unfold frameTaken
  split
  · apply KeptP.mk
    assumption
  · lift_lets
    intro v1
    have h2 : Kept base v1 := by
      unfold v1
      apply macBump_kept
      assumption
    clear_value v1
    intro v3
    clear_value v3
    split
    · apply KeptP.mk
      apply badFrame_kept
      assumption
    · split
      · apply KeptP.mk
        apply macBump_kept
        assumption
      · split
        · apply KeptP.mk
          apply macBump_kept
          assumption
        · apply KeptP.mk
          apply transportWork_kept
          apply goodFrame_kept
          assumption

theorem execPropertySet_kept {base : Device} {q} {c} {s : State} (hs : Kept base s.dev) :
    KeptB base (execPropertySet q c s) := by
  unfold execPropertySet
  apply next_keptB
  · intro x1 h2
    apply adminCmd_kept
    · intro x3 x4 h5
      apply propertySet_kept
      assumption
    · assumption
  · assumption

theorem connect_kept {base : Device} {r} {d : Device} (hd : Kept base d) :
    Kept base (connect r d) := by
  unfold connect
  lift_lets
  intro v1
  clear_value v1
  intro v2 v3
  clear_value v3
  intro v4
  clear_value v4
  intro v5
  clear_value v5
  split
  · assumption
  · split
    · apply portSend_kept
      assumption
    · split
      · split
        · apply macBump_kept
          assumption
        · split
          · rename_i e6 e7 e8 e9 e10 e11 e12
            unfold v2
            apply sendOn_kept
            assumption
          · split
            · unfold v2
              apply sendOn_kept
              assumption
            · split
              · split
                · unfold v2
                  apply sendOn_kept
                  assumption
                · rename_i e13 e14 e15 e16 e17 e18 e19 e20 e21 e22 e23
                  apply complete_kept
                  refine Kept.mk_eq rfl rfl rfl rfl rfl rfl rfl rfl ?_
                  assumption
              · apply complete_kept
                refine Kept.mk_eq rfl rfl rfl rfl rfl rfl rfl rfl ?_
                assumption
      · split
        · apply macBump_kept
          assumption
        · split
          · rename_i e24 e25 e26 e27 e28 e29 e30
            unfold v2
            apply sendOn_kept
            assumption
          · split
            · unfold v2
              apply sendOn_kept
              assumption
            · split
              · split
                · unfold v2
                  apply sendOn_kept
                  assumption
                · rename_i e31 e32 e33 e34 e35 e36 e37 e38 e39 e40 e41
                  apply complete_kept
                  refine Kept.mk_eq rfl rfl rfl rfl rfl rfl rfl rfl ?_
                  assumption
              · apply complete_kept
                refine Kept.mk_eq rfl rfl rfl rfl rfl rfl rfl rfl ?_
                assumption

theorem execConnect_kept {base : Device} {r} {s : State} (hs : Kept base s.dev) :
    KeptB base (execConnect r s) := by
  unfold execConnect
  apply next_keptB
  · intro x1 h2
    apply connect_kept
    assumption
  · assumption

theorem execKeepAlive_kept {base : Device} {q} {c} {s : State} (hs : Kept base s.dev) :
    KeptB base (execKeepAlive q c s) := by
  unfold execKeepAlive
  apply next_keptB
  · intro x1 h2
    apply adminCmd_kept
    · intro x3 x4 h5
      apply keepAlive_kept
      assumption
    · assumption
  · assumption

/-! ## Power -/

theorem execVddqDdrBelowFloor_kept {base : Device} {s : State} (hs : Kept base s.dev) :
    KeptB base (execVddqDdrBelowFloor s) := by
  unfold execVddqDdrBelowFloor
  apply next_keptB
  · intro x1 h2
    split
    · refine Kept.mk_eq rfl rfl rfl rfl rfl rfl rfl rfl ?_
      assumption
    · assumption
  · assumption

theorem shelfPowerLoss_kept {base : Device} {d : Device} (hd : Kept base d) : Kept base (shelfPowerLoss d) := by
  unfold shelfPowerLoss
  split
  · exact hd
  · extract_lets u v d1
    have h1 : Kept base d1 := dropVolatile_kept hd
    refine h1.of_subset rfl rfl (fun m hm => ?_) rfl
    simp only [Device.memories, List.mem_cons] at hm ⊢
    tauto

theorem execShelfPowerLoss_kept {base : Device} {s : State} (hs : Kept base s.dev) :
    KeptB base (execShelfPowerLoss s) := by
  unfold execShelfPowerLoss
  apply next_keptB
  · intro x1 h2
    apply shelfPowerLoss_kept
    assumption
  · assumption

theorem refreshTemps_kept {base : Device} {d : Device} (hd : Kept base d) :
    Kept base (refreshTemps d) := by
  unfold refreshTemps
  lift_lets
  intro v1
  clear_value v1
  intro v2
  clear_value v2
  intro v3
  clear_value v3
  intro v4
  clear_value v4
  intro v5
  clear_value v5
  intro v6
  have h7 : Kept base v6 := by
    unfold v6
    apply refreshWarning_kept
    refine Kept.mk_eq rfl rfl rfl rfl rfl rfl rfl rfl ?_
    assumption
  clear_value v6
  split
  · apply raiseEmcy_kept
    assumption
  · split
    · apply clearEmcy_kept
      assumption
    · assumption

theorem execTemperatureThresholdCrossing_kept {base : Device} {temp} {s : State} (hs : Kept base s.dev) :
    KeptB base (execTemperatureThresholdCrossing temp s) := by
  unfold execTemperatureThresholdCrossing
  apply next_keptB
  · intro x1 h2
    split
    · assumption
    · apply refreshTemps_kept
      apply odPutInt_kept
      assumption
  · assumption

theorem execRefclkRestart_kept {base : Device} {s : State} (hs : Kept base s.dev) :
    KeptB base (execRefclkRestart s) := by
  unfold execRefclkRestart
  apply next_keptB
  · intro x1 h2
    split
    · assumption
    · apply leaveReset_kept
      lift_lets
      intro v3
      have h4 : Kept base v3 := by
        unfold v3
        apply waitUntil_kept
        assumption
      clear_value v3
      intro v5
      clear_value v5
      refine Kept.mk_eq rfl rfl rfl rfl rfl rfl rfl rfl ?_
      assumption
  · assumption

theorem wake_kept {base : Device} {d : Device} (hd : Kept base d) :
    Kept base (wake d) := by
  unfold wake
  apply internalReset_kept
  apply odPut_kept
  assumption

theorem goDormant_kept {base : Device} {d : Device} (hd : Kept base d) :
    Kept base (goDormant d) := by
  unfold goDormant
  lift_lets
  intro v1
  clear_value v1
  intro v2
  have h3 : Kept base v2 := by
    unfold v2
    apply Kept.foldl
    · intro x4 x5 h6
      apply endSlot_kept
      apply onSlot_kept
      assumption
    · assumption
  clear_value v2
  intro v7
  clear_value v7
  intro v8
  have h9 : Kept base v8 := by
    unfold v8
    refine Kept.mk_eq rfl rfl rfl rfl rfl rfl rfl rfl ?_
    assumption
  clear_value v8
  intro v10
  have h11 : Kept base v10 := by
    unfold v10
    apply odBump_kept
    apply odPut_kept
    apply ledgerDays_kept
    assumption
  clear_value v10
  intro v12
  clear_value v12
  intro v13
  have h14 : Kept base v13 := by
    unfold v13
    apply persist_kept
    apply sendHeartbeat_kept
    apply sendHeartbeat_kept
    assumption
  clear_value v13
  intro v15
  clear_value v15
  intro v16
  clear_value v16
  intro v17
  have h18 : Kept base v17 := by
    unfold v17
    apply dropVolatile_kept
    refine Kept.mk_eq rfl rfl rfl rfl rfl rfl rfl rfl ?_
    assumption
  clear_value v17
  intro v19
  clear_value v19
  intro v20
  have h21 : Kept base v20 := by
    unfold v20
    apply odPut_kept
    apply odPut_kept
    refine Kept.mk_eq rfl rfl rfl rfl rfl rfl rfl rfl ?_
    assumption
  clear_value v20
  split
  · apply wake_kept
    assumption
  · assumption

theorem gateUnits_kept {base : Device} {n} {d : Device} (hd : Kept base d) :
    Kept base (gateUnits n d) := by
  unfold gateUnits
  split
  · assumption
  · lift_lets
    intro v1
    have h2 : Kept base v1 := by
      unfold v1
      apply gateSearch_kept
      apply Kept.foldl
      · intro x3 x4 h5
        apply gateCluster_kept
        assumption
      · assumption
    clear_value v1
    split
    · apply Kept.foldl
      · intro x6 x7 h8
        split
        · apply setStandby_kept
          assumption
        · assumption
      · assumption
    · apply placeGroupsDown_kept
      assumption

theorem powerStateGate_kept {base : Device} {d : Device} (hd : Kept base d) :
    Kept base (powerStateGate d) := by
  unfold powerStateGate
  split
  · assumption
  · rename_i e1 e2 e3
    split
    · assumption
    · lift_lets
      intro v4
      have h5 : Kept base v4 := by
        unfold v4
        apply gateUnits_kept
        assumption
      clear_value v4
      intro v6
      clear_value v6
      split
      · refine Kept.mk_eq rfl rfl rfl rfl rfl rfl rfl rfl ?_
        assumption
      · split
        · assumption
        · apply goDormant_kept
          assumption

theorem execPowerStateGate_kept {base : Device} {s : State} (hs : Kept base s.dev) :
    KeptB base (execPowerStateGate s) := by
  unfold execPowerStateGate
  apply next_keptB
  · intro x1 h2
    apply powerStateGate_kept
    assumption
  · assumption

theorem apstTransition_kept {base : Device} {d : Device} (hd : Kept base d) :
    Kept base (apstTransition d) := by
  unfold apstTransition
  lift_lets
  intro v1
  clear_value v1
  intro v2
  clear_value v2
  intro v3
  have h4 : Kept base v3 := by
    unfold v3
    apply waitUntil_kept
    assumption
  clear_value v3
  intro v5
  clear_value v5
  split
  · assumption
  · apply refreshEff_kept
    refine Kept.mk_eq rfl rfl rfl rfl rfl rfl rfl rfl ?_
    assumption

theorem execApstTransition_kept {base : Device} {s : State} (hs : Kept base s.dev) :
    KeptB base (execApstTransition s) := by
  unfold execApstTransition
  apply next_keptB
  · intro x1 h2
    apply apstTransition_kept
    assumption
  · assumption

theorem domainOutcome_kept {base : Device} {n} {d : Device} (hd : Kept base d) :
    Kept base (domainOutcome n d) := by
  unfold domainOutcome
  split
  · apply refreshDirty_kept
    apply failElement_kept
    assumption
  · split
    · apply stopCluster_kept
      assumption
    · split
      · refine Kept.mk_eq rfl rfl rfl rfl rfl rfl rfl rfl ?_
        assumption
      · split
        · apply portsDown_kept
          assumption
        · split
          · apply linkDown_kept
            assumption
          · apply declareFatal_kept
            assumption

theorem domainFault_kept {base : Device} {n} {d : Device} (hd : Kept base d) :
    Kept base (domainFault n d) := by
  unfold domainFault
  split
  · assumption
  · lift_lets
    intro v1
    have h2 : Kept base v1 := by
      unfold v1
      apply setStandby_kept
      apply setDomain_kept
      apply odPut_kept
      assumption
    clear_value v1
    intro v3
    have h4 : Kept base v3 := by
      unfold v3
      apply raiseEmcy_kept
      apply logEvent_kept
      assumption
    clear_value v3
    apply proceed_kept
    apply domainOutcome_kept
    assumption

theorem execDomainFault_kept {base : Device} {domain} {s : State} (hs : Kept base s.dev) :
    KeptB base (execDomainFault domain s) := by
  unfold execDomainFault
  apply next_keptB
  · intro x1 h2
    apply domainFault_kept
    assumption
  · assumption

theorem shutDown_kept {base : Device} {d : Device} (hd : Kept base d) :
    Kept base (shutDown d) := by
  unfold shutDown
  lift_lets
  intro v1
  have h2 : Kept base v1 := by
    unfold v1
    apply odBump_kept
    assumption
  clear_value v1
  intro v3
  have h4 : Kept base v3 := by
    unfold v3
    apply persist_kept
    assumption
  clear_value v3
  intro v5
  clear_value v5
  intro v6
  have h7 : Kept base v6 := by
    unfold v6
    apply dropVolatile_kept
    assumption
  clear_value v6
  intro v8
  clear_value v8
  intro v9
  have h10 : Kept base v9 := by
    unfold v9
    apply odPut_kept
    refine Kept.mk_eq rfl rfl rfl rfl rfl rfl rfl rfl ?_
    assumption
  clear_value v9
  apply sendEmcy_kept
  apply logEvent_kept
  assumption

theorem abandonEntry_kept {base : Device} {d : Device} (hd : Kept base d) :
    Kept base (abandonEntry d) := by
  unfold abandonEntry
  split
  · assumption
  · lift_lets
    intro v1
    clear_value v1
    intro v2
    clear_value v2
    intro v3
    have h4 : Kept base v3 := by
      unfold v3
      split
      · refine Kept.mk_eq rfl rfl rfl rfl rfl rfl rfl rfl ?_
        assumption
      · assumption
    clear_value v3
    intro v5
    clear_value v5
    apply refreshEff_kept
    apply odPut_kept
    refine Kept.mk_eq rfl rfl rfl rfl rfl rfl rfl rfl ?_
    assumption

theorem beginFlush_kept {base : Device} {d : Device} (hd : Kept base d) :
    Kept base (beginFlush d) := by
  unfold beginFlush
  split
  · assumption
  · lift_lets
    intro v1
    clear_value v1
    intro v2
    clear_value v2
    intro v3
    clear_value v3
    apply putEntry_kept
    apply odBump_kept
    refine Kept.mk_eq rfl rfl rfl rfl rfl rfl rfl rfl ?_
    assumption

theorem thermalShutdown_kept {base : Device} {temp} {d : Device} (hd : Kept base d) :
    Kept base (thermalShutdown temp d) := by
  unfold thermalShutdown
  split
  · apply odPutInt_kept
    assumption
  · apply odPutInt_kept
    assumption
  · apply odPutInt_kept
    assumption
  · apply beginFlush_kept
    apply abandonEntry_kept
    apply odPutInt_kept
    refine Kept.mk_eq rfl rfl rfl rfl rfl rfl rfl rfl ?_
    assumption
  · apply shutDown_kept
    apply odPutInt_kept
    assumption

theorem execThermalShutdown_kept {base : Device} {temp} {s : State} (hs : Kept base s.dev) :
    KeptB base (execThermalShutdown temp s) := by
  unfold execThermalShutdown
  apply next_keptB
  · intro x1 h2
    apply thermalShutdown_kept
    assumption
  · assumption

theorem execRefclkStop_kept {base : Device} {s : State} (hs : Kept base s.dev) :
    KeptB base (execRefclkStop s) := by
  unfold execRefclkStop
  apply next_keptB
  · intro x1 h2
    split
    · refine Kept.mk_eq rfl rfl rfl rfl rfl rfl rfl rfl ?_
      assumption
    · apply alarmTrip_kept
      refine Kept.mk_eq rfl rfl rfl rfl rfl rfl rfl rfl ?_
      assumption
  · assumption

theorem execSdclkLoss_kept {base : Device} {s : State} (hs : Kept base s.dev) :
    KeptB base (execSdclkLoss s) := by
  unfold execSdclkLoss
  apply next_keptB
  · intro x1 h2
    apply linkDown_kept
    apply portsDown_kept
    refine Kept.mk_eq rfl rfl rfl rfl rfl rfl rfl rfl ?_
    assumption
  · assumption

theorem execRootPllLoss_kept {base : Device} {s : State} (hs : Kept base s.dev) :
    KeptB base (execRootPllLoss s) := by
  unfold execRootPllLoss
  apply next_keptB
  · intro x1 h2
    split
    · apply internalReset_kept
      apply alarmTrip_kept
      assumption
    · assumption
  · assumption

theorem execCorePgLoss_kept {base : Device} {s : State} (hs : Kept base s.dev) :
    KeptB base (execCorePgLoss s) := by
  unfold execCorePgLoss
  apply next_keptB
  · intro x1 h2
    split
    · apply internalReset_kept
      refine Kept.mk_eq rfl rfl rfl rfl rfl rfl rfl rfl ?_
      assumption
    · assumption
  · assumption

theorem corePgTimeout_kept {base : Device} {d : Device} (hd : Kept base d) :
    Kept base (corePgTimeout d) := by
  unfold corePgTimeout
  split
  · assumption
  · lift_lets
    intro v1
    have h2 : Kept base v1 := by
      unfold v1
      apply waitUntil_kept
      assumption
    clear_value v1
    intro v3
    clear_value v3
    split
    · apply coreEnable_kept
      apply waitUntil_kept
      refine Kept.mk_eq rfl rfl rfl rfl rfl rfl rfl rfl ?_
      assumption
    · apply sendEmcy_kept
      refine Kept.mk_eq rfl rfl rfl rfl rfl rfl rfl rfl ?_
      assumption

theorem execCorePgTimeout_kept {base : Device} {s : State} (hs : Kept base s.dev) :
    KeptB base (execCorePgTimeout s) := by
  unfold execCorePgTimeout
  apply next_keptB
  · intro x1 h2
    apply corePgTimeout_kept
    assumption
  · assumption

theorem porstRelease_kept {base : Device} {straps} {d : Device} (hd : Kept base d) :
    Kept base (porstRelease straps d) := by
  unfold porstRelease
  split
  · assumption
  · lift_lets
    intro v1
    clear_value v1
    intro v2
    clear_value v2
    intro v3
    clear_value v3
    intro v4
    have h5 : Kept base v4 := by
      unfold v4
      refine Kept.mk_eq rfl rfl rfl rfl rfl rfl rfl rfl ?_
      assumption
    clear_value v4
    intro v6
    have h7 : Kept base v6 := by
      unfold v6
      apply odPut_kept
      apply sampleStraps_kept
      apply latchSizes_kept
      apply restorePersistent_kept
      assumption
    clear_value v6
    split
    · apply leaveReset_kept
      apply joinCan_kept
      assumption
    · assumption

theorem execPorstNRelease_kept {base : Device} {straps} {s : State} (hs : Kept base s.dev) :
    KeptB base (execPorstNRelease straps s) := by
  unfold execPorstNRelease
  apply next_keptB
  · intro x1 h2
    apply porstRelease_kept
    assumption
  · assumption

theorem porstAssert_kept {base : Device} {d : Device} (hd : Kept base d) :
    Kept base (porstAssert d) := by
  unfold porstAssert
  split
  · assumption
  · apply dropVolatile_kept
    refine Kept.mk_eq rfl rfl rfl rfl rfl rfl rfl rfl ?_
    assumption

theorem execPorstNAssert_kept {base : Device} {s : State} (hs : Kept base s.dev) :
    KeptB base (execPorstNAssert s) := by
  unfold execPorstNAssert
  apply next_keptB
  · intro x1 h2
    apply porstAssert_kept
    assumption
  · assumption

theorem holdupChange_kept {base : Device} {level} {d : Device} (hd : Kept base d) :
    Kept base (holdupChange level d) := by
  unfold holdupChange
  split
  · assumption
  · lift_lets
    intro v1
    have h2 : Kept base v1 := by
      unfold v1
      split
      · apply waitUntil_kept
        assumption
      · assumption
    clear_value v1
    intro v3
    clear_value v3
    apply refreshDirty_kept
    refine Kept.mk_eq rfl rfl rfl rfl rfl rfl rfl rfl ?_
    assumption

theorem execHoldupOkChange_kept {base : Device} {level} {s : State} (hs : Kept base s.dev) :
    KeptB base (execHoldupOkChange level s) := by
  unfold execHoldupOkChange
  apply next_keptB
  · intro x1 h2
    apply holdupChange_kept
    assumption
  · assumption

theorem powerBack_kept {base : Device} {d : Device} (hd : Kept base d) :
    Kept base (powerBack d) := by
  unfold powerBack
  split
  · assumption
  · lift_lets
    intro v1
    clear_value v1
    intro v2
    have h3 : Kept base v2 := by
      unfold v2
      refine Kept.mk_eq rfl rfl rfl rfl rfl rfl rfl rfl ?_
      assumption
    clear_value v2
    split
    · split
      · assumption
      · apply settle_kept
        assumption
    · apply proceed_kept
      assumption

theorem execPwrFailNDeassert_kept {base : Device} {s : State} (hs : Kept base s.dev) :
    KeptB base (execPwrFailNDeassert s) := by
  unfold execPwrFailNDeassert
  apply next_keptB
  · intro x1 h2
    apply powerBack_kept
    assumption
  · assumption

theorem flushEnd_kept {base : Device} {d : Device} (hd : Kept base d) :
    Kept base (flushEnd d) := by
  unfold flushEnd
  split
  · assumption
  · rename_i e1 e2 e3
    split
    · assumption
    · lift_lets
      intro v4
      have h5 : Kept base v4 := by
        unfold v4
        apply flushWrite_kept
        assumption
      clear_value v4
      intro v6
      have h7 : Kept base v6 := by
        unfold v6
        apply programFlush_kept
        assumption
      clear_value v6
      intro v8
      clear_value v8
      intro v9
      clear_value v9
      intro v10
      clear_value v10
      intro v11
      have h12 : Kept base v11 := by
        unfold v11
        refine Kept.mk_eq rfl rfl rfl rfl rfl rfl rfl rfl ?_
        assumption
      clear_value v11
      intro v13
      have h14 : Kept base v13 := by
        unfold v13
        apply ledgerClose_kept
        assumption
      clear_value v13
      split
      · apply shutDown_kept
        assumption
      · split
        · assumption
        · apply settle_kept
          assumption

theorem execPowerFailFlushEnd_kept {base : Device} {s : State} (hs : Kept base s.dev) :
    KeptB base (execPowerFailFlushEnd s) := by
  unfold execPowerFailFlushEnd
  apply next_keptB
  · intro x1 h2
    apply flushEnd_kept
    assumption
  · assumption

theorem testFailed_kept {base : Device} {d : Device} (hd : Kept base d) :
    Kept base (testFailed d) := by
  unfold testFailed
  apply logEvent_kept
  apply odPut_kept
  apply odPut_kept
  assumption

theorem powerFail_kept {base : Device} {d : Device} (hd : Kept base d) :
    Kept base (powerFail d) := by
  unfold powerFail
  split
  · assumption
  · lift_lets
    intro v1
    clear_value v1
    intro v2
    have h3 : Kept base v2 := by
      unfold v2
      refine Kept.mk_eq rfl rfl rfl rfl rfl rfl rfl rfl ?_
      assumption
    clear_value v2
    intro v4
    clear_value v4
    intro v5
    clear_value v5
    intro v6
    have h7 : Kept base v6 := by
      unfold v6
      split
      · apply testFailed_kept
        assumption
      · assumption
    clear_value v6
    split
    · refine Kept.mk_eq rfl rfl rfl rfl rfl rfl rfl rfl ?_
      assumption
    · split
      · assumption
      · apply beginFlush_kept
        apply abandonEntry_kept
        assumption

theorem execPwrFailNAssert_kept {base : Device} {s : State} (hs : Kept base s.dev) :
    KeptB base (execPwrFailNAssert s) := by
  unfold execPwrFailNAssert
  apply next_keptB
  · intro x1 h2
    apply powerFail_kept
    assumption
  · assumption

theorem enterPs4_kept {base : Device} {d : Device} (hd : Kept base d) :
    Kept base (enterPs4 d) := by
  unfold enterPs4
  apply refreshEff_kept
  apply odPut_kept
  assumption

theorem discardWrites_kept {base : Device} {d : Device} (hd : Kept base d) :
    Kept base (discardWrites d) := by
  unfold discardWrites
  lift_lets
  intro v1
  clear_value v1
  apply Kept.foldl
  · intro x2 x3 h4
    apply failCmd_kept
    assumption
  · assumption

theorem writeFlush_kept {base : Device} {n} {d : Device} (hd : Kept base d) :
    Kept base (writeFlush n d) := by
  unfold writeFlush
  lift_lets
  intro v1
  clear_value v1
  intro v2
  have h3 : Kept base v2 := by
    unfold v2
    apply Kept.foldl
    · intro x4 x5 h6
      apply flushWrite_kept
      assumption
    · assumption
  clear_value v2
  intro v7
  clear_value v7
  refine Kept.mk_eq rfl rfl rfl rfl rfl rfl rfl rfl ?_
  assumption

theorem powerFailCommit_kept {base : Device} {t} {d : Device} (hd : Kept base d) :
    Kept base (powerFailCommit t d) := by
  unfold powerFailCommit
  split
  · assumption
  · rename_i e1 e2 e3
    split
    · assumption
    · apply writeFlush_kept
      apply discardWrites_kept
      apply commitGroup_kept
      apply bucketGroup_kept
      apply givePowerFailTick_kept
      assumption

theorem execEpochInWake_kept {base : Device} {s : State} (hs : Kept base s.dev) :
    KeptB base (execEpochInWake s) := by
  unfold execEpochInWake
  apply next_keptB
  · intro x1 h2
    split
    · apply wake_kept
      apply waitUntil_kept
      assumption
    · assumption
  · assumption

theorem requestPs4_kept {base : Device} {acc} {reply} {d : Device} (hd : Kept base d) :
    KeptR base (requestPs4 acc reply d) := by
  unfold requestPs4
  split
  · apply KeptR.fail
    assumption
  · split
    · apply KeptR.held
      apply syncWrite_kept
      assumption
    · split
      · apply KeptR.done
        apply enterPs4_kept
        assumption
      · apply KeptR.fail
        assumption

theorem powerRequest_kept {base : Device} {acc} {reply} {v} {d : Device} (hd : Kept base d) :
    KeptR base (powerRequest acc reply v d) := by
  unfold powerRequest
  split
  · split
    · apply KeptR.done
      apply wake_kept
      assumption
    · apply KeptR.fail
      assumption
  · split
    · split
      · apply KeptR.done
        apply internalReset_kept
        assumption
      · apply KeptR.fail
        assumption
    · split
      · apply requestPs4_kept
        assumption
      · split
        · apply KeptR.fail
          assumption
        · split
          · split
            · apply KeptR.done
              refine Kept.mk_eq rfl rfl rfl rfl rfl rfl rfl rfl ?_
              assumption
            · apply KeptR.fail
              assumption
          · lift_lets
            intro v1
            have h2 : Kept base v1 := by
              unfold v1
              apply odPut_kept
              assumption
            clear_value v1
            apply KeptR.done
            split
            · apply refreshEff_kept
              assumption
            · assumption

theorem holdupTest_kept {base : Device} {d : Device} (hd : Kept base d) :
    KeptR base (holdupTest d) := by
  unfold holdupTest
  lift_lets
  intro v1
  clear_value v1
  split
  · apply KeptR.fail
    assumption
  · apply KeptR.done
    apply refreshDirty_kept
    apply odPut_kept
    assumption

theorem testDischarge_kept {base : Device} {va} {vb} {d : Device} (hd : Kept base d) :
    Kept base (testDischarge va vb d) := by
  unfold testDischarge
  split
  · assumption
  · lift_lets
    intro v1
    have h2 : Kept base v1 := by
      unfold v1
      apply waitUntil_kept
      assumption
    clear_value v1
    intro v3
    clear_value v3
    intro v4
    clear_value v4
    intro v5
    have h6 : Kept base v5 := by
      unfold v5
      apply odPut_kept
      apply odPut_kept
      apply odPut_kept
      assumption
    clear_value v5
    split
    · apply refreshDirty_kept
      apply testFailed_kept
      assumption
    · apply refreshDirty_kept
      apply persist_kept
      apply logEvent_kept
      assumption

theorem execHoldupTestDischarge_kept {base : Device} {va} {vb} {s : State} (hs : Kept base s.dev) :
    KeptB base (execHoldupTestDischarge va vb s) := by
  unfold execHoldupTestDischarge
  apply next_keptB
  · intro x1 h2
    apply testDischarge_kept
    assumption
  · assumption

/-! ## Fans -/

theorem onFan_kept {base : Device} {n} {f} {d : Device} (hd : Kept base d) :
    Kept base (onFan n f d) := by
  unfold onFan
  refine Kept.mk_eq rfl rfl rfl rfl rfl rfl rfl rfl ?_
  assumption

theorem toState_kept {base : Device} {n} {st} {d : Device} (hd : Kept base d) :
    Kept base (toState n st d) := by
  unfold toState
  apply onFan_kept
  assumption

theorem refreshFans_kept {base : Device} {d : Device} (hd : Kept base d) :
    Kept base (refreshFans d) := by
  unfold refreshFans
  split
  · apply refreshEff_kept
    assumption
  · assumption

theorem execFanFailedRetry_kept {base : Device} {fan} {s : State} (hs : Kept base s.dev) :
    KeptB base (execFanFailedRetry fan s) := by
  unfold execFanFailedRetry
  apply next_keptB
  · intro x1 h2
    split
    · assumption
    · apply refreshFans_kept
      apply toState_kept
      apply waitUntil_kept
      assumption
  · assumption

theorem brake_kept {base : Device} {n} {after} {d : Device} (hd : Kept base d) :
    Kept base (brake n after d) := by
  unfold brake
  apply onFan_kept
  apply toState_kept
  assumption

theorem fanLost_kept {base : Device} {n} {d : Device} (hd : Kept base d) :
    Kept base (fanLost n d) := by
  unfold fanLost
  lift_lets
  intro v1
  clear_value v1
  intro v2
  have h3 : Kept base v2 := by
    unfold v2
    apply logEvent_kept
    assumption
  clear_value v2
  apply refreshFans_kept
  apply brake_kept
  apply onFan_kept
  assumption

theorem closeLoop_kept {base : Device} {n} {rpm} {duty} {d : Device} (hd : Kept base d) :
    Kept base (closeLoop n rpm duty d) := by
  unfold closeLoop
  lift_lets
  intro v1
  clear_value v1
  intro v2
  clear_value v2
  intro v3
  have h4 : Kept base v3 := by
    unfold v3
    apply onFan_kept
    apply toState_kept
    assumption
  clear_value v3
  apply refreshFans_kept
  split
  · apply logEvent_kept
    assumption
  · assumption

theorem catchFan_kept {base : Device} {n} {rpm} {d : Device} (hd : Kept base d) :
    Kept base (catchFan n rpm d) := by
  unfold catchFan
  apply closeLoop_kept
  assumption

theorem catchSensed_kept {base : Device} {n} {forward} {rpm} {d : Device} (hd : Kept base d) :
    Kept base (catchSensed n forward rpm d) := by
  unfold catchSensed
  split
  · apply catchFan_kept
    assumption
  · split
    · apply fanLost_kept
      assumption
    · apply onFan_kept
      apply toState_kept
      assumption

theorem coastEnd_kept {base : Device} {n} {forward} {rpm} {d : Device} (hd : Kept base d) :
    Kept base (coastEnd n forward rpm d) := by
  unfold coastEnd
  split
  · assumption
  · apply catchSensed_kept
    apply waitUntil_kept
    assumption

theorem execFanCoastEnd_kept {base : Device} {fan} {forward} {rpm} {s : State} (hs : Kept base s.dev) :
    KeptB base (execFanCoastEnd fan forward rpm s) := by
  unfold execFanCoastEnd
  apply next_keptB
  · intro x1 h2
    apply coastEnd_kept
    assumption
  · assumption

theorem rotorLost_kept {base : Device} {n} {d : Device} (hd : Kept base d) :
    Kept base (rotorLost n d) := by
  unfold rotorLost
  split
  · assumption
  · apply onFan_kept
    apply toState_kept
    assumption

theorem execRotorLost_kept {base : Device} {fan} {s : State} (hs : Kept base s.dev) :
    KeptB base (execRotorLost fan s) := by
  unfold execRotorLost
  apply next_keptB
  · intro x1 h2
    apply rotorLost_kept
    assumption
  · assumption

theorem fanOvercurrent_kept {base : Device} {n} {d : Device} (hd : Kept base d) :
    Kept base (fanOvercurrent n d) := by
  unfold fanOvercurrent
  lift_lets
  intro v1
  clear_value v1
  intro v2
  have h3 : Kept base v2 := by
    unfold v2
    apply logEvent_kept
    assumption
  clear_value v2
  split
  · assumption
  · apply onFan_kept
    apply toState_kept
    assumption

theorem execFanOvercurrent_kept {base : Device} {fan} {s : State} (hs : Kept base s.dev) :
    KeptB base (execFanOvercurrent fan s) := by
  unfold execFanOvercurrent
  apply next_keptB
  · intro x1 h2
    apply fanOvercurrent_kept
    assumption
  · assumption

theorem keMeasure_kept {base : Device} {n} {ke} {d : Device} (hd : Kept base d) :
    Kept base (keMeasure n ke d) := by
  unfold keMeasure
  lift_lets
  intro v1
  clear_value v1
  intro v2
  clear_value v2
  intro v3
  have h4 : Kept base v3 := by
    unfold v3
    apply waitUntil_kept
    assumption
  clear_value v3
  intro v5
  clear_value v5
  intro v6
  have h7 : Kept base v6 := by
    unfold v6
    apply onFan_kept
    assumption
  clear_value v6
  intro v8
  clear_value v8
  intro v9
  have h10 : Kept base v9 := by
    unfold v9
    apply onFan_kept
    assumption
  clear_value v9
  intro v11
  have h12 : Kept base v11 := by
    unfold v11
    apply onFan_kept
    assumption
  clear_value v11
  split
  · assumption
  · split
    · apply onFan_kept
      assumption
    · split
      · assumption
      · split
        · assumption
        · apply logEvent_kept
          assumption

theorem execFanKeMeasure_kept {base : Device} {fan} {ke} {s : State} (hs : Kept base s.dev) :
    KeptB base (execFanKeMeasure fan ke s) := by
  unfold execFanKeMeasure
  apply next_keptB
  · intro x1 h2
    apply keMeasure_kept
    assumption
  · assumption

theorem speedLoop_kept {base : Device} {n} {current} {d : Device} (hd : Kept base d) :
    Kept base (speedLoop n current d) := by
  unfold speedLoop
  split
  · assumption
  · lift_lets
    intro v1
    have h2 : Kept base v1 := by
      unfold v1
      apply waitUntil_kept
      assumption
    clear_value v1
    intro v3
    clear_value v3
    intro v4
    clear_value v4
    intro v5
    clear_value v5
    intro v6
    clear_value v6
    intro v7
    clear_value v7
    intro v8
    clear_value v8
    intro v9
    clear_value v9
    intro v10
    clear_value v10
    intro v11
    clear_value v11
    intro v12
    clear_value v12
    intro v13
    clear_value v13
    apply onFan_kept
    assumption

theorem execFanSpeedLoop_kept {base : Device} {fan} {current} {s : State} (hs : Kept base s.dev) :
    KeptB base (execFanSpeedLoop fan current s) := by
  unfold execFanSpeedLoop
  apply next_keptB
  · intro x1 h2
    apply speedLoop_kept
    assumption
  · assumption

theorem zeroCrossing_kept {base : Device} {n} {good} {period} {d : Device} (hd : Kept base d) :
    Kept base (zeroCrossing n good period d) := by
  unfold zeroCrossing
  lift_lets
  intro v1
  clear_value v1
  intro v2
  clear_value v2
  intro v3
  clear_value v3
  intro v4
  clear_value v4
  intro v5
  have h6 : Kept base v5 := by
    unfold v5
    apply onFan_kept
    assumption
  clear_value v5
  intro v7
  clear_value v7
  split
  · assumption
  · split
    · assumption
    · split
      · apply closeLoop_kept
        assumption
      · apply onFan_kept
        assumption

theorem execBemfZeroCrossing_kept {base : Device} {fan} {good} {period} {s : State} (hs : Kept base s.dev) :
    KeptB base (execBemfZeroCrossing fan good period s) := by
  unfold execBemfZeroCrossing
  apply next_keptB
  · intro x1 h2
    apply zeroCrossing_kept
    assumption
  · assumption

theorem align_kept {base : Device} {n} {d : Device} (hd : Kept base d) :
    Kept base (align n d) := by
  unfold align
  apply onFan_kept
  apply toState_kept
  assumption

theorem rampEnd_kept {base : Device} {n} {d : Device} (hd : Kept base d) :
    Kept base (rampEnd n d) := by
  unfold rampEnd
  split
  · assumption
  · lift_lets
    intro v1
    have h2 : Kept base v1 := by
      unfold v1
      apply waitUntil_kept
      assumption
    clear_value v1
    intro v3
    have h4 : Kept base v3 := by
      unfold v3
      apply onFan_kept
      apply toState_kept
      assumption
    clear_value v3
    split
    · apply align_kept
      apply waitUntil_kept
      apply onFan_kept
      assumption
    · apply refreshFans_kept
      apply logEvent_kept
      assumption

theorem execFanRampEnd_kept {base : Device} {fan} {s : State} (hs : Kept base s.dev) :
    KeptB base (execFanRampEnd fan s) := by
  unfold execFanRampEnd
  apply next_keptB
  · intro x1 h2
    apply rampEnd_kept
    assumption
  · assumption

theorem alignEnd_kept {base : Device} {n} {d : Device} (hd : Kept base d) :
    Kept base (alignEnd n d) := by
  unfold alignEnd
  split
  · assumption
  · lift_lets
    intro v1
    have h2 : Kept base v1 := by
      unfold v1
      apply waitUntil_kept
      assumption
    clear_value v1
    apply onFan_kept
    apply toState_kept
    assumption

theorem execFanAlignEnd_kept {base : Device} {fan} {s : State} (hs : Kept base s.dev) :
    KeptB base (execFanAlignEnd fan s) := by
  unfold execFanAlignEnd
  apply next_keptB
  · intro x1 h2
    apply alignEnd_kept
    assumption
  · assumption

theorem brakeEnd_kept {base : Device} {n} {bemf} {rpm} {d : Device} (hd : Kept base d) :
    Kept base (brakeEnd n bemf rpm d) := by
  unfold brakeEnd
  lift_lets
  intro v1
  clear_value v1
  intro v2
  have h3 : Kept base v2 := by
    unfold v2
    apply waitUntil_kept
    assumption
  clear_value v2
  split
  · assumption
  · split
    · split
      · apply align_kept
        assumption
      · apply align_kept
        apply logEvent_kept
        apply waitUntil_kept
        assumption
    · split
      · apply align_kept
        assumption
      · split
        · apply onFan_kept
          apply toState_kept
          assumption
        · apply toState_kept
          assumption

theorem execFanBrakeEnd_kept {base : Device} {fan} {bemf} {rpm} {s : State} (hs : Kept base s.dev) :
    KeptB base (execFanBrakeEnd fan bemf rpm s) := by
  unfold execFanBrakeEnd
  apply next_keptB
  · intro x1 h2
    apply brakeEnd_kept
    assumption
  · assumption

theorem fanSensed_kept {base : Device} {n} {bemf} {forward} {rpm} {d : Device} (hd : Kept base d) :
    Kept base (fanSensed n bemf forward rpm d) := by
  unfold fanSensed
  lift_lets
  intro v1
  clear_value v1
  intro v2
  have h3 : Kept base v2 := by
    unfold v2
    apply waitUntil_kept
    assumption
  clear_value v2
  split
  · assumption
  · split
    · apply catchSensed_kept
      assumption
    · split
      · apply align_kept
        assumption
      · split
        · apply catchFan_kept
          assumption
        · apply brake_kept
          assumption

theorem execFanSenseComplete_kept {base : Device} {fan} {bemf} {forward} {rpm} {s : State} (hs : Kept base s.dev) :
    KeptB base (execFanSenseComplete fan bemf forward rpm s) := by
  unfold execFanSenseComplete
  apply next_keptB
  · intro x1 h2
    apply fanSensed_kept
    assumption
  · assumption

theorem fanStart_kept {base : Device} {n} {d : Device} (hd : Kept base d) :
    Kept base (fanStart n d) := by
  unfold fanStart
  split
  · assumption
  · split
    · apply toState_kept
      assumption
    · apply toState_kept
      apply waitUntil_kept
      assumption

theorem execFanStart_kept {base : Device} {fan} {s : State} (hs : Kept base s.dev) :
    KeptB base (execFanStart fan s) := by
  unfold execFanStart
  apply next_keptB
  · intro x1 h2
    apply fanStart_kept
    assumption
  · assumption

theorem rampFan_kept {base : Device} {n} {arg} {d : Device} (hd : Kept base d) :
    Kept base (rampFan n arg d) := by
  unfold rampFan
  lift_lets
  intro v1
  clear_value v1
  apply onFan_kept
  apply odPut_kept
  assumption

theorem fanRamp_kept {base : Device} {unit} {arg} {d : Device} (hd : Kept base d) :
    Kept base (fanRamp unit arg d) := by
  unfold fanRamp
  split
  · apply Kept.foldl
    · intro x1 x2 h3
      apply rampFan_kept
      assumption
    · assumption
  · apply rampFan_kept
    assumption

theorem fanFloorWrite_kept {base : Device} {n} {rpm} {d : Device} (hd : Kept base d) :
    KeptR base (fanFloorWrite n rpm d) := by
  unfold fanFloorWrite
  split
  · apply KeptR.fail
    assumption
  · apply KeptR.done
    apply onFan_kept
    apply odPut_kept
    assumption

theorem fansFitted_kept {base : Device} {v} {d : Device} (hd : Kept base d) :
    Kept base (fansFitted v d) := by
  unfold fansFitted
  lift_lets
  intro v1
  have h2 : Kept base v1 := by
    unfold v1
    apply odPut_kept
    assumption
  clear_value v1
  apply refreshFans_kept
  apply Kept.foldl
  · intro x3 x4 h5
    lift_lets
    intro v6
    clear_value v6
    split
    · split
      · apply onFan_kept
        apply toState_kept
        assumption
      · assumption
    · split
      · assumption
      · apply onFan_kept
        apply brake_kept
        assumption
  · assumption

end Sys2Proof.Machine
end

