-- ==== Sys2Proof/Laws/KeptJ.lean ====
section
/-! SUPPORT. What no operation of Dump, Launch, LongRun, Replicate, LongCmd takes back: `Kept` through each. -/

namespace Sys2Proof.Machine

/-! ## Dump -/

theorem execControlProcessorWatchdog_kept {base : Device} {s : State} (hs : Kept base s.dev) :
    KeptB base (execControlProcessorWatchdog s) := by
  unfold execControlProcessorWatchdog
  apply next_keptB
  · intro x1 h2
    split
    · apply declareFatal_kept
      assumption
    · assumption
  · assumption

theorem dumpCopy_kept {base : Device} {d : Device} (hd : Kept base d) :
    Kept base (dumpCopy d) := by
  unfold dumpCopy
  split
  · assumption
  · rename_i e1 e2 e3
    split
    · assumption
    · refine Kept.mk_eq rfl rfl rfl rfl rfl rfl rfl rfl ?_
      assumption

theorem execDumpCopy_kept {base : Device} {s : State} (hs : Kept base s.dev) :
    KeptB base (execDumpCopy s) := by
  unfold execDumpCopy
  apply next_keptB
  · intro x1 h2
    apply dumpCopy_kept
    assumption
  · assumption

theorem execFatalError_kept {base : Device} {cause} {s : State} (hs : Kept base s.dev) :
    KeptB base (execFatalError cause s) := by
  unfold execFatalError
  apply next_keptB
  · intro x1 h2
    split
    · apply declareFatal_kept
      assumption
    · assumption
  · assumption

theorem halt_kept {base : Device} {d : Device} (hd : Kept base d) :
    Kept base (halt d) := by
  unfold halt
  refine Kept.mk_eq rfl rfl rfl rfl rfl rfl ?_ rfl ?_
  · exact memories_map fun _ => rfl
  · assumption

theorem takeDump_kept {base : Device} {cause} {d : Device} (hd : Kept base d) :
    Kept base (takeDump cause d) := by
  unfold takeDump
  lift_lets
  intro v1
  clear_value v1
  intro v2
  clear_value v2
  intro v3
  clear_value v3
  intro v4
  clear_value v4
  apply persist_kept
  apply odBump_kept
  refine Kept.mk_eq rfl rfl rfl rfl rfl rfl rfl rfl ?_
  assumption

theorem freeze_kept {base : Device} {cause} {d : Device} (hd : Kept base d) :
    Kept base (freeze cause d) := by
  unfold freeze
  lift_lets
  intro v1
  have h2 : Kept base v1 := by
    unfold v1
    apply takeDump_kept
    assumption
  clear_value v1
  intro v3
  have h4 : Kept base v3 := by
    unfold v3
    apply logEvent_kept
    apply halt_kept
    assumption
  clear_value v3
  intro v5
  have h6 : Kept base v5 := by
    unfold v5
    apply sendEmcy_kept
    assumption
  clear_value v5
  split
  · apply internalReset_kept
    assumption
  · assumption

/-! ## Launch -/

theorem timeStep_kept {base : Device} {arg} {d : Device} (hd : Kept base d) :
    Kept base (timeStep arg d) := by
  unfold timeStep
  refine Kept.mk_eq rfl rfl rfl rfl rfl rfl rfl rfl ?_
  assumption

theorem launchMismatch_kept {base : Device} {n} {d : Device} (hd : Kept base d) :
    Kept base (launchMismatch n d) := by
  unfold launchMismatch
  split
  · assumption
  · rename_i e1 e2 e3
    lift_lets
    intro v4
    have h5 : Kept base v4 := by
      unfold v4
      apply waitUntil_kept
      assumption
    clear_value v4
    intro v6
    clear_value v6
    intro v7
    have h8 : Kept base v7 := by
      unfold v7
      refine Kept.mk_eq rfl rfl rfl rfl rfl rfl rfl rfl ?_
      assumption
    clear_value v7
    intro v9
    clear_value v9
    intro v10
    have h11 : Kept base v10 := by
      unfold v10
      apply odBump_kept
      apply putEntry_kept
      assumption
    clear_value v10
    intro v12
    have h13 : Kept base v12 := by
      unfold v12
      apply logEvent_kept
      assumption
    clear_value v12
    split
    · assumption
    · split
      · rename_i e14 e15 e16 e17
        apply refreshDirty_kept
        apply revertHandover_kept
        apply sendLink_kept
        assumption
      · assumption

theorem execPairedLaunchMismatch_kept {base : Device} {entry} {s : State} (hs : Kept base s.dev) :
    KeptB base (execPairedLaunchMismatch entry s) := by
  unfold execPairedLaunchMismatch
  apply next_keptB
  · intro x1 h2
    apply launchMismatch_kept
    assumption
  · assumption

theorem confirmLaunch_kept {base : Device} {n} {d : Device} (hd : Kept base d) :
    Kept base (confirmLaunch n d) := by
  unfold confirmLaunch
  lift_lets
  intro v1
  clear_value v1
  intro v2
  clear_value v2
  intro v3
  have h4 : Kept base v3 := by
    unfold v3
    refine Kept.mk_eq rfl rfl rfl rfl rfl rfl rfl rfl ?_
    assumption
  clear_value v3
  apply Kept.foldl
  · intro x5 x6 h7
    apply answer_kept
    assumption
  · assumption

theorem chunkRunning_kept {base : Device} {d : Device} (hd : Kept base d) :
    Kept base (chunkRunning d) := by
  unfold chunkRunning
  apply Kept.foldl
  · intro x1 x2 h3
    split
    · assumption
    · apply Kept.foldl
      · intro x4 x5 h6
        split
        · assumption
        · lift_lets
          intro v7
          clear_value v7
          apply Kept.foldl
          · intro x8 x9 h10
            apply addChunk_kept
            assumption
          · assumption
      · assumption
  · assumption

theorem gearActivate_kept {base : Device} {d : Device} (hd : Kept base d) :
    Kept base (gearActivate d) := by
  unfold gearActivate
  lift_lets
  intro v1
  clear_value v1
  intro v2
  have h3 : Kept base v2 := by
    unfold v2
    apply Kept.foldl
    · intro x4 x5 h6
      apply odPutSel_kept
      assumption
    · apply chunkRunning_kept
      assumption
  clear_value v2
  intro v7
  have h8 : Kept base v7 := by
    unfold v7
    apply bumpVersion_kept
    apply odBump_kept
    assumption
  clear_value v7
  apply logEvent_kept
  apply persist_kept
  assumption

theorem tollWindow_kept {base : Device} {g} {arg} {d : Device} (hd : Kept base d) :
    Kept base (tollWindow g arg d) := by
  unfold tollWindow
  refine Kept.mk_eq rfl rfl rfl rfl rfl rfl rfl rfl ?_
  assumption

theorem groupDown_kept {base : Device} {g} {d : Device} (hd : Kept base d) :
    Kept base (groupDown g d) := by
  unfold groupDown
  lift_lets
  intro v1
  have h2 : Kept base v1 := by
    unfold v1
    apply setStandby_kept
    apply setDomain_kept
    assumption
  clear_value v1
  intro v3
  clear_value v3
  apply refreshDirty_kept
  refine Kept.mk_eq rfl rfl rfl rfl rfl rfl rfl rfl ?_
  assumption

theorem groupUp_kept {base : Device} {g} {d : Device} (hd : Kept base d) :
    Kept base (groupUp g d) := by
  unfold groupUp
  split
  · assumption
  · lift_lets
    intro v1
    have h2 : Kept base v1 := by
      unfold v1
      apply setDomain_kept
      assumption
    clear_value v1
    intro v3
    clear_value v3
    split
    · refine Kept.mk_eq rfl rfl rfl rfl rfl rfl rfl rfl ?_
      assumption
    · assumption

theorem applyAction_kept {base : Device} {n} {e} {t} {d : Device} (hd : Kept base d) :
    Kept base (applyAction n e t d) := by
  unfold applyAction
  split
  · apply commitGroup_kept
    apply bucketGroup_kept
    assumption
  · apply powerFailCommit_kept
    assumption
  · apply cutSnapshot_kept
    assumption
  · apply launchHandover_kept
    assumption
  · apply launchMove_kept
    assumption
  · apply freeze_kept
    assumption
  · apply timeStep_kept
    assumption
  · apply groupUp_kept
    assumption
  · apply groupDown_kept
    assumption
  · apply tollWindow_kept
    assumption
  · apply fanRamp_kept
    assumption
  · apply gearActivate_kept
    assumption
  · apply applyPolicyGroup_kept
    assumption
  · apply slotRetire_kept
    assumption
  · apply tenantErase_kept
    assumption
  · apply logEvent_kept
    assumption
  · assumption

theorem lateEvent_kept {base : Device} {d : Device} (hd : Kept base d) :
    Kept base (lateEvent d) := by
  unfold lateEvent
  lift_lets
  intro v1
  clear_value v1
  intro v2
  clear_value v2
  split
  · assumption
  · apply logEvent_kept
    refine Kept.mk_eq rfl rfl rfl rfl rfl rfl rfl rfl ?_
    assumption

theorem countLaunch_kept {base : Device} {late} {d : Device} (hd : Kept base d) :
    Kept base (countLaunch late d) := by
  unfold countLaunch
  lift_lets
  intro v1
  have h2 : Kept base v1 := by
    unfold v1
    apply odBump_kept
    assumption
  clear_value v1
  intro v3
  have h4 : Kept base v3 := by
    unfold v3
    apply odPut_kept
    apply odBump_kept
    assumption
  clear_value v3
  intro v5
  clear_value v5
  split
  · assumption
  · apply lateEvent_kept
    refine Kept.mk_eq rfl rfl rfl rfl rfl rfl rfl rfl ?_
    assumption

theorem reportLaunch_kept {base : Device} {n} {e} {d : Device} (hd : Kept base d) :
    Kept base (reportLaunch n e d) := by
  unfold reportLaunch
  split
  · assumption
  · apply awaitReport_kept
    apply sendLink_kept
    assumption

theorem launchEntry_kept {base : Device} {d : Device} {x} (hd : Kept base d) :
    Kept base (launchEntry d x) := by
  unfold launchEntry
  lift_lets
  intro v1
  clear_value v1
  apply reportLaunch_kept
  apply countLaunch_kept
  apply putEntry_kept
  assumption

theorem launchTick_kept {base : Device} {d : Device} (hd : Kept base d) : Kept base (launchTick d).1 := by
  have h2 : ∀ (go : List (Nat × BoardEntry)) (t u : Nat),
      Kept base (go.foldl launchEntry { d with board := { d.board with tick := t, used := u } }) := fun _ _ _ =>
    Kept.foldl (fun _ _ h => launchEntry_kept h) (Kept.mk_eq rfl rfl rfl rfl rfl rfl rfl rfl hd)
  unfold launchTick
  split
  · exact hd
  · extract_lets used
    clear_value used
    split
    · exact hd
    · split
      · exact applyAction_kept (h2 _ _ _)
      · exact placeWaiting_kept (Kept.foldl (fun _ _ h => confirmLaunch_kept h)
          (Kept.foldl (fun _ _ h => applyAction_kept h) (h2 _ _ _)))

theorem launchUntil_kept {base : Device} {n} {y1} {y2 : Device} (hy2 : Kept base y2) :
    Kept base (launchUntil n y1 y2) := by
  induction' y1 with n ih generalizing n y2
  · unfold launchUntil
    assumption
  · unfold launchUntil
    lift_lets
    intro v1
    have h2 : Kept base v1.1 := by
      unfold v1
      apply launchTick_kept
      assumption
    clear_value v1
    split
    · assumption
    · apply ih
      apply waitTick_kept
      assumption

theorem launch_kept {base : Device} {n} {action} {d : Device} (hd : Kept base d) :
    Kept base (launch n action d) := by
  unfold launch
  lift_lets
  intro v1
  clear_value v1
  split
  · assumption
  · apply launchUntil_kept
    apply waitTick_kept
    assumption

theorem execEventMark_kept {base : Device} {entry} {s : State} (hs : Kept base s.dev) :
    KeptB base (execEventMark entry s) := by
  unfold execEventMark
  apply next_keptB
  · intro x1 h2
    apply launch_kept
    assumption
  · assumption

theorem execTenantErase_kept {base : Device} {entry} {s : State} (hs : Kept base s.dev) :
    KeptB base (execTenantErase entry s) := by
  unfold execTenantErase
  apply next_keptB
  · intro x1 h2
    apply launch_kept
    assumption
  · assumption

theorem execSlotRetire_kept {base : Device} {entry} {s : State} (hs : Kept base s.dev) :
    KeptB base (execSlotRetire entry s) := by
  unfold execSlotRetire
  apply next_keptB
  · intro x1 h2
    apply launch_kept
    assumption
  · assumption

theorem execPolicyGroup_kept {base : Device} {entry} {s : State} (hs : Kept base s.dev) :
    KeptB base (execPolicyGroup entry s) := by
  unfold execPolicyGroup
  apply next_keptB
  · intro x1 h2
    apply launch_kept
    assumption
  · assumption

theorem execGearActivate_kept {base : Device} {entry} {s : State} (hs : Kept base s.dev) :
    KeptB base (execGearActivate entry s) := by
  unfold execGearActivate
  apply next_keptB
  · intro x1 h2
    apply launch_kept
    assumption
  · assumption

theorem execFanRamp_kept {base : Device} {entry} {s : State} (hs : Kept base s.dev) :
    KeptB base (execFanRamp entry s) := by
  unfold execFanRamp
  apply next_keptB
  · intro x1 h2
    apply launch_kept
    assumption
  · assumption

theorem execTollWindow_kept {base : Device} {entry} {s : State} (hs : Kept base s.dev) :
    KeptB base (execTollWindow entry s) := by
  unfold execTollWindow
  apply next_keptB
  · intro x1 h2
    apply launch_kept
    assumption
  · assumption

theorem execGroupPowerDown_kept {base : Device} {entry} {s : State} (hs : Kept base s.dev) :
    KeptB base (execGroupPowerDown entry s) := by
  unfold execGroupPowerDown
  apply next_keptB
  · intro x1 h2
    apply launch_kept
    assumption
  · assumption

theorem trainGroup_kept {base : Device} {p} {c} {probe} {d : Device} (hd : Kept base d) :
    Kept base (trainGroup p c probe d) := by
  unfold trainGroup
  lift_lets
  intro v1
  clear_value v1
  intro v2
  clear_value v2
  split
  · assumption
  · split
    · apply failElement_kept
      assumption
    · refine Kept.mk_eq rfl rfl rfl rfl rfl rfl rfl rfl ?_
      assumption

theorem readMarkers_kept {base : Device} {p} {r} {d : Device} (hd : Kept base d) :
    Kept base (readMarkers p r d) := by
  unfold readMarkers
  split
  · assumption
  · lift_lets
    intro v1
    clear_value v1
    intro v2
    clear_value v2
    intro v3
    clear_value v3
    intro v4
    have h5 : Kept base v4 := by
      unfold v4
      refine Kept.mk_eq rfl rfl rfl rfl rfl rfl rfl rfl ?_
      assumption
    clear_value v4
    apply Kept.foldl
    · intro x6 x7 h8
      apply retireBlock_kept
      assumption
    · assumption

theorem probeTarget_kept {base : Device} {p} {d : Device} {r} (hd : Kept base d) :
    Kept base (probeTarget p d r) := by
  unfold probeTarget
  split
  · assumption
  · split
    · apply logEvent_kept
      assumption
    · apply readMarkers_kept
      refine Kept.mk_eq rfl rfl rfl rfl rfl rfl rfl rfl ?_
      assumption

theorem probeGroup_kept {base : Device} {g} {probe} {d : Device} (hd : Kept base d) :
    Kept base (probeGroup g probe d) := by
  unfold probeGroup
  split
  · assumption
  · rename_i e1 e2 e3
    split
    · assumption
    · lift_lets
      intro v4
      clear_value v4
      intro v5
      clear_value v5
      intro v6
      clear_value v6
      intro v7
      have h8 : Kept base v7 := by
        unfold v7
        refine Kept.mk_eq rfl rfl rfl rfl rfl rfl rfl rfl ?_
        assumption
      clear_value v7
      intro v9
      have h10 : Kept base v9 := by
        unfold v9
        apply Kept.foldl
        · intro x11 x12 h13
          apply probeTarget_kept
          assumption
        · assumption
      clear_value v9
      intro v14
      have h15 : Kept base v14 := by
        unfold v14
        apply Kept.foldl
        · intro x16 x17 h18
          apply trainGroup_kept
          assumption
        · assumption
      clear_value v14
      apply proceed_kept
      apply settle_kept
      apply refreshDirty_kept
      assumption

theorem execGroupPowerUp_kept {base : Device} {entry} {probe} {s : State} (hs : Kept base s.dev) :
    KeptB base (execGroupPowerUp entry probe s) := by
  unfold execGroupPowerUp
  apply next_keptB
  · intro x1 h2
    lift_lets
    intro v3
    clear_value v3
    split
    · assumption
    · apply probeGroup_kept
      apply launch_kept
      assumption
  · assumption

theorem execTimeStep_kept {base : Device} {entry} {s : State} (hs : Kept base s.dev) :
    KeptB base (execTimeStep entry s) := by
  unfold execTimeStep
  apply next_keptB
  · intro x1 h2
    apply launch_kept
    assumption
  · assumption

theorem execFreeze_kept {base : Device} {entry} {s : State} (hs : Kept base s.dev) :
    KeptB base (execFreeze entry s) := by
  unfold execFreeze
  apply next_keptB
  · intro x1 h2
    apply launch_kept
    assumption
  · assumption

theorem execBucketMove_kept {base : Device} {entry} {s : State} (hs : Kept base s.dev) :
    KeptB base (execBucketMove entry s) := by
  unfold execBucketMove
  apply next_keptB
  · intro x1 h2
    apply launch_kept
    assumption
  · assumption

theorem execChannelHandover_kept {base : Device} {entry} {s : State} (hs : Kept base s.dev) :
    KeptB base (execChannelHandover entry s) := by
  unfold execChannelHandover
  apply next_keptB
  · intro x1 h2
    apply launch_kept
    assumption
  · assumption

theorem execSnapshotCut_kept {base : Device} {entry} {s : State} (hs : Kept base s.dev) :
    KeptB base (execSnapshotCut entry s) := by
  unfold execSnapshotCut
  apply next_keptB
  · intro x1 h2
    apply launch_kept
    assumption
  · assumption

theorem execPowerFailCommit_kept {base : Device} {entry} {s : State} (hs : Kept base s.dev) :
    KeptB base (execPowerFailCommit entry s) := by
  unfold execPowerFailCommit
  apply next_keptB
  · intro x1 h2
    apply launch_kept
    assumption
  · assumption

theorem execCommitGroup_kept {base : Device} {entry} {s : State} (hs : Kept base s.dev) :
    KeptB base (execCommitGroup entry s) := by
  unfold execCommitGroup
  apply next_keptB
  · intro x1 h2
    apply launch_kept
    assumption
  · assumption

theorem heartbeatDue_kept {base : Device} {d : Device} (hd : Kept base d) :
    Kept base (heartbeatDue d) := by
  unfold heartbeatDue
  split
  · apply sendHeartbeat_kept
    assumption
  · assumption

/-! ## LongRun -/

theorem erasureEnd_kept {base : Device} {n} {copies} {d : Device} (hd : Kept base d) :
    Kept base (erasureEnd n copies d) := by
  unfold erasureEnd
  lift_lets
  intro v1
  clear_value v1
  intro v2
  clear_value v2
  intro v3
  have h4 : Kept base v3 := by
    unfold v3
    apply commitRecord_kept
    apply onSlot_kept
    assumption
  clear_value v3
  apply logEvent_kept
  apply endSlot_kept
  assumption

theorem dropAnswer_kept {base : Device} {who} {d : Device} (hd : Kept base d) :
    Kept base (dropAnswer who d) := by
  unfold dropAnswer
  refine Kept.mk_eq rfl rfl rfl rfl rfl rfl rfl rfl ?_
  assumption

theorem askPeer_kept {base : Device} {who} {sqe} {data} {d : Device} (hd : Kept base d) :
    Kept base (askPeer who sqe data d) := by
  unfold askPeer
  lift_lets
  intro v1
  have h2 : KeptP base v1 := by
    unfold v1
    apply nextForward_kept
    assumption
  clear_value v1
  intro v3
  clear_value v3
  intro v4
  have h5 : KeptP base v4 := by
    unfold v4
    apply addCmd_kept
    apply KeptP.snd
    assumption
  clear_value v4
  apply sendLink_kept
  apply KeptP.snd
  assumption

theorem peerPart_kept {base : Device} {who} {sqe} {data} {d : Device} (hd : Kept base d) :
    KeptP base (peerPart who sqe data d) := by
  unfold peerPart
  split
  · apply KeptP.mk
    assumption
  · split
    · rename_i e1 e2 e3 e4
      split
      · apply KeptP.mk
        assumption
      · split
        · apply KeptP.mk
          apply askPeer_kept
          apply dropAnswer_kept
          assumption
        · apply KeptP.mk
          assumption
    · split
      · apply KeptP.mk
        assumption
      · apply KeptP.mk
        apply askPeer_kept
        assumption

theorem nextBoth_kept {base : Device} {who} {op} {d : Device} (hd : Kept base d) :
    KeptP base (nextBoth who op d) := by
  unfold nextBoth
  lift_lets
  intro v1
  clear_value v1
  intro v2
  have h3 : KeptP base v2 := by
    unfold v2
    apply peerPart_kept
    assumption
  clear_value v2
  intro v4
  clear_value v4
  split
  · apply KeptP.mk
    apply KeptP.snd
    assumption
  · rename_i e5 e6 e7
    lift_lets
    intro v8
    clear_value v8
    intro v9
    clear_value v9
    apply KeptP.mk
    apply KeptP.snd
    assumption

theorem scrubUnit_kept {base : Device} {id} {y1} {m} (hy1 : KeptP base y1) :
    KeptP base (scrubUnit id y1 m) := by
  unfold scrubUnit
  split
  · rename_i e1 e2 e3 e4 e5 e6
    lift_lets
    intro v7
    clear_value v7
    intro v8
    clear_value v8
    intro v9
    have h10 : KeptP base v9 := by
      unfold v9
      apply draw_kept
      apply KeptP.snd
      assumption
    clear_value v9
    intro v11
    clear_value v11
    intro v12
    clear_value v12
    intro v13
    have h14 : Kept base v13 := by
      unfold v13
      split
      · apply KeptP.snd
        assumption
      · apply onMember_kept
        apply KeptP.snd
        assumption
    clear_value v13
    intro v15
    clear_value v15
    split
    · split
      · apply KeptP.mk
        apply queueRefresh_kept
        assumption
      · apply KeptP.mk
        assumption
    · split
      · apply KeptP.mk
        apply startMove_kept
        assumption
      · split
        · apply KeptP.mk
          assumption
        · apply KeptP.mk
          apply loseStripe_kept
          assumption
  · assumption

theorem scrubGroup_kept {base : Device} {g} {d : Device} (hd : Kept base d) :
    KeptP base (scrubGroup g d) := by
  unfold scrubGroup
  lift_lets
  intro v1
  clear_value v1
  apply KeptP.foldl
  · intro x2 x3 h4
    apply scrubUnit_kept
    assumption
  · apply KeptP.mk
    assumption

theorem erasureBlock_kept {base : Device} {n} {b} {d : Device} (hd : Kept base d) :
    Kept base (erasureBlock n b d) := by
  unfold erasureBlock
  lift_lets
  intro v1
  clear_value v1
  intro v2
  have h3 : KeptP base v2 := by
    unfold v2
    apply newReq_kept
    assumption
  clear_value v2
  split
  · split
    · apply erasureAnswered_kept
      assumption
    · rename_i e4 e5 e6 e7
      split
      · apply erasureAnswered_kept
        assumption
      · split
        · apply erasureAnswered_kept
          assumption
        · split
          · apply onBlock_kept
            assumption
          · split
            · apply maybeState3_kept
              apply emptyBlock_kept
              apply bumpErasure_kept
              assumption
            · apply maybeState3_kept
              assumption
  · split
    · assumption
    · apply sendLink_kept
      apply KeptP.snd
      assumption

theorem stripeBlocks_kept {base : Device} {id} {d : Device} (hd : Kept base d) :
    KeptP base (stripeBlocks id d) := by
  unfold stripeBlocks
  lift_lets
  intro v1
  clear_value v1
  intro v2
  clear_value v2
  intro v3
  have h4 : KeptP base v3 := by
    unfold v3
    apply draw_kept
    assumption
  clear_value v3
  intro v5
  have h6 : KeptP base v5 := by
    unfold v5
    split
    · rename_i e7 e8 e9
      apply KeptP.mk
      assumption
    · apply KeptP.mk
      apply KeptP.snd
      assumption
  clear_value v5
  split
  · apply KeptP.mk
    assumption
  · apply KeptP.foldl
    · intro x10 x11 h12
      lift_lets
      intro v13
      have h14 : KeptP base v13 := by
        unfold v13
        apply peerMember_kept
        apply KeptP.snd
        assumption
      clear_value v13
      apply KeptP.mk
      apply KeptP.snd
      assumption
    · apply KeptP.mk
      apply KeptP.snd
      assumption

theorem erasureBegin_kept {base : Device} {n} {ns} {copies} {ids} {d : Device} (hd : Kept base d) :
    Kept base (erasureBegin n ns copies ids d) := by
  unfold erasureBegin
  lift_lets
  intro v1
  have h2 : Kept base v1 := by
    unfold v1
    apply Kept.foldl
    · intro x3 x4 h5
      split
      · rename_i e6 e7 e8
        apply relocateStripe_kept
        assumption
      · assumption
    · assumption
  clear_value v1
  intro v9
  have h10 : KeptP base v9 := by
    unfold v9
    apply KeptP.foldl
    · intro x11 x12 h13
      lift_lets
      intro v14
      have h15 : KeptP base v14 := by
        unfold v14
        apply stripeBlocks_kept
        apply KeptP.snd
        assumption
      clear_value v14
      apply KeptP.mk
      apply KeptP.snd
      assumption
    · apply KeptP.mk
      assumption
  clear_value v9
  intro v16
  have h17 : Kept base v16 := by
    unfold v16
    apply KeptP.snd
    assumption
  clear_value v16
  intro v18 v19
  have h20 : Kept base v19 := by
    unfold v19
    apply Kept.foldl
    · intro x21 x22 h23
      apply logEvent_kept
      assumption
    · assumption
  clear_value v19
  intro v24
  clear_value v24
  intro v25
  have h26 : Kept base v25 := by
    unfold v25
    apply bumpErasure_kept
    apply bumpErasure_kept
    assumption
  clear_value v25
  apply onSlot_kept
  assumption

theorem erasureStep_kept {base : Device} {n} {d : Device} (hd : Kept base d) :
    Kept base (erasureStep n d) := by
  unfold erasureStep
  lift_lets
  intro v1
  clear_value v1
  split
  · assumption
  · split
    · dsimp only
      split
      · apply erasureBegin_kept
        assumption
      · assumption
    · dsimp only
      split
      · split
        · apply reapStripes_kept
          apply issueClosed_kept
          assumption
        · split
          · split
            · apply Kept.foldl
              · intro x2 x3 h4
                apply erasureBlock_kept
                assumption
              · assumption
            · apply erasureEnd_kept
              apply Kept.foldl
              · intro x5 x6 h7
                apply erasureBlock_kept
                assumption
              · assumption
          · apply Kept.foldl
            · intro x8 x9 h10
              apply erasureBlock_kept
              assumption
            · assumption
      · assumption

theorem execSecureDeleteErasure_kept {base : Device} {slot} {s : State} (hs : Kept base s.dev) :
    KeptB base (execSecureDeleteErasure slot s) := by
  unfold execSecureDeleteErasure
  apply next_keptB
  · intro x1 h2
    apply erasureStep_kept
    assumption
  · assumption

theorem commitNext_kept {base : Device} {n} {r} {d : Device} (hd : Kept base d) :
    Kept base (commitNext n r d) := by
  unfold commitNext
  lift_lets
  intro v1
  have h2 : KeptP base v1 := by
    unfold v1
    apply draw_kept
    assumption
  clear_value v1
  apply commitRecord_kept
  apply onSlot_kept
  apply KeptP.snd
  assumption

theorem scrubStep_kept {base : Device} {n} {groups} {next} {d : Device} (hd : Kept base d) :
    Kept base (scrubStep n groups next d) := by
  unfold scrubStep
  split
  · apply endSlot_kept
    assumption
  · lift_lets
    intro v1
    have h2 : KeptP base v1 := by
      unfold v1
      apply peerPart_kept
      assumption
    clear_value v1
    intro v3
    have h4 : KeptP base v3 := by
      unfold v3
      apply scrubGroup_kept
      apply dropAnswer_kept
      apply KeptP.snd
      assumption
    clear_value v3
    split
    · apply KeptP.snd
      assumption
    · rename_i e5 e6 e7 e8 e9 e10 e11
      lift_lets
      intro v12
      have h13 : Kept base v12 := by
        unfold v12
        apply onSlot_kept
        apply commitNext_kept
        apply KeptP.snd
        assumption
      clear_value v12
      split
      · apply endSlot_kept
        assumption
      · assumption

theorem dumpStep_kept {base : Device} {n} {which} {off} {d : Device} (hd : Kept base d) :
    Kept base (dumpStep n which off d) := by
  unfold dumpStep
  split
  · apply endSlot_kept
    assumption
  · rename_i e1 e2 e3
    lift_lets
    intro v4
    clear_value v4
    intro v5
    have h6 : Kept base v5 := by
      unfold v5
      apply commitNext_kept
      assumption
    clear_value v5
    split
    · apply endSlot_kept
      assumption
    · apply onSlot_kept
      assumption

theorem rebuildStep_kept {base : Device} {n} {left} {d : Device} (hd : Kept base d) :
    Kept base (rebuildStep n left d) := by
  unfold rebuildStep
  split
  · apply endSlot_kept
    assumption
  · lift_lets
    intro v1
    have h2 : Kept base v1 := by
      unfold v1
      split
      · rename_i e3 e4 e5 e6 e7 e8
        apply commitNext_kept
        assumption
      · assumption
    clear_value v1
    intro v9
    have h10 : Kept base v9 := by
      unfold v9
      apply onSlot_kept
      assumption
    clear_value v9
    split
    · apply endSlot_kept
      assumption
    · assumption

theorem scanStep_kept {base : Device} {n} {op} {d : Device} (hd : Kept base d) :
    Kept base (scanStep n op d) := by
  unfold scanStep
  lift_lets
  intro v1
  have h2 : KeptP base v1 := by
    unfold v1
    apply nextBoth_kept
    assumption
  clear_value v1
  intro v3
  have h4 : Kept base v3 := by
    unfold v3
    apply KeptP.snd
    assumption
  clear_value v3
  dsimp only
  split
  · apply KeptP.snd
    assumption
  · apply endSlot_kept
    apply dropAnswer_kept
    apply KeptP.snd
    assumption
  · rename_i e5 e6 e7 e8
    split
    · apply endSlot_kept
      apply dropAnswer_kept
      assumption
    · split
      · apply endSlot_kept
        apply dropAnswer_kept
        apply commitNext_kept
        assumption
      · split
        · apply dropAnswer_kept
          assumption
        · split
          · apply endSlot_kept
            apply dropAnswer_kept
            apply KeptP.snd
            apply nextBoth_kept
            apply onSlot_kept
            apply commitNext_kept
            apply dropAnswer_kept
            assumption
          · apply KeptP.snd
            apply nextBoth_kept
            apply onSlot_kept
            apply commitNext_kept
            apply dropAnswer_kept
            assumption

theorem recordCommit_kept {base : Device} {n} {d : Device} (hd : Kept base d) :
    Kept base (recordCommit n d) := by
  unfold recordCommit
  lift_lets
  intro v1
  clear_value v1
  split
  · assumption
  · split
    · apply scanStep_kept
      assumption
    · apply scanStep_kept
      assumption
    · split
      · assumption
      · apply rebuildStep_kept
        assumption
    · split
      · assumption
      · apply dumpStep_kept
        assumption
    · split
      · assumption
      · apply scrubStep_kept
        assumption
    · assumption

theorem execLongOperationRecordCommit_kept {base : Device} {slot} {s : State} (hs : Kept base s.dev) :
    KeptB base (execLongOperationRecordCommit slot s) := by
  unfold execLongOperationRecordCommit
  apply next_keptB
  · intro x1 h2
    apply recordCommit_kept
    assumption
  · assumption

theorem longExpiry_kept {base : Device} {n} {d : Device} (hd : Kept base d) :
    Kept base (longExpiry n d) := by
  unfold longExpiry
  lift_lets
  intro v1
  clear_value v1
  split
  · assumption
  · apply freeSlot_kept
    apply waitUntil_kept
    assumption

theorem execLongOperationExpiry_kept {base : Device} {slot} {s : State} (hs : Kept base s.dev) :
    KeptB base (execLongOperationExpiry slot s) := by
  unfold execLongOperationExpiry
  apply next_keptB
  · intro x1 h2
    apply longExpiry_kept
    assumption
  · assumption

/-! ## Replicate -/

theorem execRemoteAssociationLoss_kept {base : Device} {session} {s : State} (hs : Kept base s.dev) :
    KeptB base (execRemoteAssociationLoss session s) := by
  unfold execRemoteAssociationLoss
  apply next_keptB
  · intro x1 h2
    apply remoteLoss_kept
    assumption
  · assumption

theorem cycleRefused_kept {base : Device} {n} {d : Device} (hd : Kept base d) :
    Kept base (cycleRefused n d) := by
  unfold cycleRefused
  apply sessionTo_kept
  apply onSession_kept
  apply odBump_kept
  assumption

theorem newCycle_kept {base : Device} {n} {d : Device} (hd : Kept base d) :
    KeptO base (newCycle n d) := by
  unfold newCycle
  lift_lets
  intro v1
  clear_value v1
  intro v2
  clear_value v2
  intro v3
  clear_value v3
  intro v4
  clear_value v4
  intro v5
  have h6 : Kept base v5 := by
    unfold v5
    split
    · assumption
    · apply onSession_kept
      assumption
  clear_value v5
  intro v7
  have h8 : Kept base v7 := by
    unfold v7
    apply Kept.foldl
    · intro x9 x10 h11
      apply giveUpSnapshot_kept
      assumption
    · assumption
  clear_value v7
  intro v12
  clear_value v12
  intro v13
  clear_value v13
  intro v14
  have h15 : Kept base v14 := by
    unfold v14
    apply onSession_kept
    assumption
  clear_value v14
  split
  · exact KeptO.none
  · apply KeptO.some
    apply armSnaps_kept
    assumption

theorem readValue_kept {base : Device} {n} {key} {d : Device} (hd : Kept base d) :
    Kept base (readValue n key d) := by
  unfold readValue
  lift_lets
  intro v1
  clear_value v1
  intro v2
  clear_value v2
  intro v3
  clear_value v3
  intro v4
  clear_value v4
  intro v5
  clear_value v5
  intro v6
  clear_value v6
  intro v7
  have h8 : KeptP base v7 := by
    unfold v7
    apply addCmd_kept
    assumption
  clear_value v7
  apply settle_kept
  apply onSession_kept
  apply KeptP.snd
  assumption

theorem toRemote_kept {base : Device} {n} {m} {d : Device} (hd : Kept base d) :
    Kept base (toRemote n m d) := by
  unfold toRemote
  lift_lets
  intro v1
  clear_value v1
  split
  · apply sendOn_kept
    assumption
  · assumption

theorem sendRemote_kept {base : Device} {n} {c} {d : Device} (hd : Kept base d) :
    Kept base (sendRemote n c d) := by
  unfold sendRemote
  lift_lets
  intro v1
  clear_value v1
  intro v2
  clear_value v2
  apply toRemote_kept
  apply onSession_kept
  assumption

theorem saveCursor_kept {base : Device} {n} {d : Device} (hd : Kept base d) :
    Kept base (saveCursor n d) := by
  unfold saveCursor
  lift_lets
  intro v1
  clear_value v1
  intro v2
  clear_value v2
  intro v3
  have h4 : Kept base v3 := by
    unfold v3
    apply onSession_kept
    assumption
  clear_value v3
  intro v5
  have h6 : Kept base v5 := by
    unfold v5
    apply onSession_kept
    assumption
  clear_value v5
  split
  · assumption
  · split
    · assumption
    · apply journalRecord_kept
      assumption

theorem passCursor_kept {base : Device} {n} {key} {d : Device} (hd : Kept base d) :
    Kept base (passCursor n key d) := by
  unfold passCursor
  apply saveCursor_kept
  apply onSession_kept
  assumption

theorem skipKey_kept {base : Device} {n} {key} {d : Device} (hd : Kept base d) :
    Kept base (skipKey n key d) := by
  unfold skipKey
  apply passCursor_kept
  apply onSession_kept
  assumption

theorem endCycle_kept {base : Device} {n} {d : Device} (hd : Kept base d) :
    Kept base (endCycle n d) := by
  unfold endCycle
  lift_lets
  intro v1
  clear_value v1
  intro v2
  have h3 : Kept base v2 := by
    unfold v2
    apply onSession_kept
    assumption
  clear_value v2
  intro v4
  have h5 : Kept base v4 := by
    unfold v4
    apply Kept.foldl
    · intro x6 x7 h8
      apply giveUpSnapshot_kept
      assumption
    · assumption
  clear_value v4
  intro v9
  have h10 : Kept base v9 := by
    unfold v9
    split
    · assumption
    · apply logEvent_kept
      assumption
  clear_value v9
  intro v11
  have h12 : Kept base v11 := by
    unfold v11
    apply logEvent_kept
    assumption
  clear_value v11
  intro v13
  have h14 : Kept base v13 := by
    unfold v13
    apply sessionTo_kept
    apply toRemote_kept
    assumption
  clear_value v13
  split
  · rename_i e15 e16 e17
    apply endSlot_kept
    apply commitRecord_kept
    assumption
  · assumption

theorem nextKey_kept {base : Device} {n} {d : Device} (hd : Kept base d) :
    Kept base (nextKey n d) := by
  unfold nextKey
  lift_lets
  intro v1
  have h2 : KeptP base v1 := by
    unfold v1
    apply nextBoth_kept
    assumption
  clear_value v1
  intro v3
  have h4 : Kept base v3 := by
    unfold v3
    apply dropAnswer_kept
    apply KeptP.snd
    assumption
  clear_value v3
  split
  · apply KeptP.snd
    assumption
  · split
    · apply endCycle_kept
      assumption
    · assumption
  · rename_i e5 e6 e7 e8
    split
    · apply passCursor_kept
      assumption
    · split
      · apply skipKey_kept
        assumption
      · split
        · apply passCursor_kept
          apply sendRemote_kept
          assumption
        · apply readValue_kept
          assumption

theorem failSession_kept {base : Device} {n} {sct} {sc} {d : Device} (hd : Kept base d) :
    Kept base (failSession n sct sc d) := by
  unfold failSession
  lift_lets
  intro v1
  clear_value v1
  intro v2
  have h3 : Kept base v2 := by
    unfold v2
    apply sessionTo_kept
    apply onSession_kept
    assumption
  clear_value v2
  intro v4
  have h5 : Kept base v4 := by
    unfold v4
    apply toRemote_kept
    assumption
  clear_value v4
  split
  · apply endSlot_kept
    assumption
  · assumption

theorem shipValue_kept {base : Device} {n} {key} {f} {d : Device} (hd : Kept base d) :
    Kept base (shipValue n key f d) := by
  unfold shipValue
  split
  · split
    · apply skipKey_kept
      assumption
    · apply passCursor_kept
      apply sendRemote_kept
      assumption
  · split
    · apply onSession_kept
      assumption
    · apply failSession_kept
      assumption

theorem startShipping_kept {base : Device} {n} {d : Device} (hd : Kept base d) :
    Kept base (startShipping n d) := by
  unfold startShipping
  lift_lets
  intro v1
  clear_value v1
  split
  · apply sessionTo_kept
    assumption
  · assumption

theorem pump_kept {base : Device} {n} {d : Device} (hd : Kept base d) :
    Kept base (pump n d) := by
  unfold pump
  lift_lets
  intro v1
  have h2 : Kept base v1 := by
    unfold v1
    apply startShipping_kept
    assumption
  clear_value v1
  intro v3
  clear_value v3
  split
  · assumption
  · split
    · rename_i e4 e5 e6 e7
      split
      · rename_i e8 e9 e10
        apply shipValue_kept
        apply dropAnswer_kept
        assumption
      · assumption
    · apply nextKey_kept
      assumption

theorem replicationReconnect_kept {base : Device} {n} {ok} {d : Device} (hd : Kept base d) :
    Kept base (replicationReconnect n ok d) := by
  unfold replicationReconnect
  lift_lets
  intro v1
  clear_value v1
  intro v2
  have h3 : Kept base v2 := by
    unfold v2
    split
    · apply toRemote_kept
      apply waitUntil_kept
      assumption
    · assumption
  clear_value v2
  intro v4
  split
  · assumption
  · split
    · apply sessionTo_kept
      apply onSession_kept
      assumption
    · split
      · apply pump_kept
        unfold v4
        apply sessionTo_kept
        apply onSession_kept
        assumption
      · split
        · unfold v4
          apply sessionTo_kept
          apply onSession_kept
          assumption
        · split
          · rename_i e5 e6 e7 e8 e9 e10 e11
            unfold v4
            apply sessionTo_kept
            apply onSession_kept
            refine KeptO.out e11 ?_
            apply newCycle_kept
            assumption
          · apply cycleRefused_kept
            assumption

theorem execReplicationReconnect_kept {base : Device} {session} {ok} {s : State} (hs : Kept base s.dev) :
    KeptB base (execReplicationReconnect session ok s) := by
  unfold execReplicationReconnect
  apply next_keptB
  · intro x1 h2
    apply replicationReconnect_kept
    assumption
  · assumption

theorem replicationRetry_kept {base : Device} {n} {key} {d : Device} (hd : Kept base d) :
    Kept base (replicationRetry n key d) := by
  unfold replicationRetry
  lift_lets
  intro v1
  clear_value v1
  split
  · assumption
  · split
    · assumption
    · rename_i e2 e3 e4 e5
      apply sendRemote_kept
      apply waitUntil_kept
      assumption

theorem execReplicationRetry_kept {base : Device} {session} {key} {s : State} (hs : Kept base s.dev) :
    KeptB base (execReplicationRetry session key s) := by
  unfold execReplicationRetry
  apply next_keptB
  · intro x1 h2
    apply replicationRetry_kept
    assumption
  · assumption

theorem remoteDone_kept {base : Device} {n} {c} {d : Device} (hd : Kept base d) :
    Kept base (remoteDone n c d) := by
  unfold remoteDone
  apply odBump_kept
  apply odBump_kept
  apply onSession_kept
  assumption

theorem remoteCompletion_kept {base : Device} {n} {key} {sct} {sc} {dnr} {d : Device} (hd : Kept base d) :
    Kept base (remoteCompletion n key sct sc dnr d) := by
  unfold remoteCompletion
  lift_lets
  intro v1
  clear_value v1
  intro v2 v3
  have h4 : Kept base v3 := by
    unfold v3
    apply onSession_kept
    assumption
  clear_value v3
  split
  · assumption
  · split
    · assumption
    · rename_i e5 e6 e7 e8
      lift_lets
      intro v9
      clear_value v9
      split
      · apply pump_kept
        apply saveCursor_kept
        apply remoteDone_kept
        unfold v2
        apply onSession_kept
        assumption
      · split
        · apply pump_kept
          apply saveCursor_kept
          apply onSession_kept
          unfold v2
          apply onSession_kept
          assumption
        · split
          · apply onSession_kept
            assumption
          · apply failSession_kept
            assumption

theorem execReplicationRemoteCompletion_kept {base : Device} {session} {key} {sct} {sc} {dnr} {s : State} (hs : Kept base s.dev) :
    KeptB base (execReplicationRemoteCompletion session key sct sc dnr s) := by
  unfold execReplicationRemoteCompletion
  apply next_keptB
  · intro x1 h2
    apply remoteCompletion_kept
    assumption
  · assumption

theorem connectRemote_kept {base : Device} {n} {d : Device} (hd : Kept base d) :
    Kept base (connectRemote n d) := by
  unfold connectRemote
  lift_lets
  intro v1
  have h2 : Kept base v1 := by
    unfold v1
    apply toRemote_kept
    assumption
  clear_value v1
  split
  · assumption
  · apply toRemote_kept
    apply onSession_kept
    assumption

theorem beginCycle_kept {base : Device} {n} {d : Device} (hd : Kept base d) :
    KeptP base (beginCycle n d) := by
  unfold beginCycle
  split
  · apply KeptP.mk
    apply connectRemote_kept
    apply sessionTo_kept
    apply rewindSession_kept
    assumption
  · split
    · rename_i e1 e2 e3 e4
      apply KeptP.mk
      apply connectRemote_kept
      apply sessionTo_kept
      refine KeptO.out e4 ?_
      apply newCycle_kept
      assumption
    · apply KeptP.mk
      apply cycleRefused_kept
      assumption

theorem replicationCycle_kept {base : Device} {n} {d : Device} (hd : Kept base d) :
    Kept base (replicationCycle n d) := by
  unfold replicationCycle
  lift_lets
  intro v1
  clear_value v1
  intro v2
  clear_value v2
  intro v3
  clear_value v3
  split
  · assumption
  · apply KeptP.snd
    apply beginCycle_kept
    apply waitUntil_kept
    assumption

theorem execReplicationCycle_kept {base : Device} {session} {s : State} (hs : Kept base s.dev) :
    KeptB base (execReplicationCycle session s) := by
  unfold execReplicationCycle
  apply next_keptB
  · intro x1 h2
    apply replicationCycle_kept
    assumption
  · assumption

theorem configSession_kept {base : Device} {n} {d : Device} (hd : Kept base d) :
    Kept base (configSession n d) := by
  unfold configSession
  split
  · split
    · apply sessionTo_kept
      assumption
    · assumption
  · apply sessionTo_kept
    assumption

theorem pumpAll_kept {base : Device} {d : Device} (hd : Kept base d) :
    Kept base (pumpAll d) := by
  unfold pumpAll
  apply Kept.foldl
  · intro x1 x2 h3
    apply pump_kept
    assumption
  · assumption

/-! ## LongCmd -/

theorem dropAsked_kept {base : Device} {who} {d : Device} (hd : Kept base d) :
    Kept base (dropAsked who d) := by
  unfold dropAsked
  apply dropAnswer_kept
  refine Kept.mk_eq rfl rfl rfl rfl rfl rfl rfl rfl ?_
  assumption

theorem stopSelfTest_kept {base : Device} {code} {d : Device} (hd : Kept base d) :
    Kept base (stopSelfTest code d) := by
  unfold stopSelfTest
  lift_lets
  intro v1
  have h2 : Kept base v1 := by
    unfold v1
    apply dropAsked_kept
    assumption
  clear_value v1
  intro v3
  have h4 : Kept base v3 := by
    unfold v3
    split
    · apply askPeer_kept
      assumption
    · assumption
  clear_value v3
  apply endSelfTest_kept
  assumption

theorem stopCycle_kept {base : Device} {k} {d : Device} (hd : Kept base d) :
    Kept base (stopCycle k d) := by
  unfold stopCycle
  apply Kept.foldl
  · intro x1 x2 h3
    split
    · apply toRemote_kept
      apply sessionTo_kept
      apply rewindSession_kept
      apply onSession_kept
      assumption
    · assumption
  · assumption

theorem deleteCmd_kept {base : Device} {q} {c} {d : Device} (hd : Kept base d) :
    Kept base (deleteCmd q c d) := by
  unfold deleteCmd
  split
  · apply completeSt_kept
    assumption
  · split
    · apply completeSt_kept
      assumption
    · apply snapshotDelete_kept
      assumption

theorem createCmd_kept {base : Device} {q} {c} {d : Device} (hd : Kept base d) :
    Kept base (createCmd q c d) := by
  unfold createCmd
  split
  · apply completeSt_kept
    assumption
  · apply snapshotCreate_kept
    assumption

theorem stopSlot_kept {base : Device} {n} {d : Device} (hd : Kept base d) :
    Kept base (stopSlot n d) := by
  unfold stopSlot
  lift_lets
  intro v1
  have h2 : Kept base v1 := by
    unfold v1
    split
    · apply stopCycle_kept
      assumption
    · apply stopSelfTest_kept
      assumption
    · assumption
  clear_value v1
  apply freeSlot_kept
  apply dropAsked_kept
  assumption

theorem releaseSlot_kept {base : Device} {q} {c} {d : Device} (hd : Kept base d) :
    Kept base (releaseSlot q c d) := by
  unfold releaseSlot
  lift_lets
  intro v1
  clear_value v1
  intro v2
  clear_value v2
  intro v3
  split
  · unfold v3
    apply completeSt_kept
    assumption
  · split
    · unfold v3
      apply completeSt_kept
      assumption
    · split
      · unfold v3
        apply completeSt_kept
        apply freeSlot_kept
        assumption
      · split
        · unfold v3
          apply completeSt_kept
          assumption
        · unfold v3
          apply completeSt_kept
          apply stopSlot_kept
          assumption

theorem startLong_kept {base : Device} {q} {c} {x} {d : Device} (hd : Kept base d) :
    KeptP base (startLong q c x d) := by
  unfold startLong
  lift_lets
  intro v1
  split
  · unfold v1
    apply KeptP.mk
    apply completeSt_kept
    assumption
  · split
    · unfold v1
      apply KeptP.mk
      apply completeSt_kept
      assumption
    · split
      · rename_i e2 e3 e4 e5 e6
        unfold v1
        apply KeptP.mk
        apply completeSt_kept
        assumption
      · split
        · unfold v1
          apply KeptP.mk
          apply completeSt_kept
          assumption
        · rename_i e7 e8 e9 e10 e11 e12 e13 e14
          apply KeptP.mk
          apply complete_kept
          refine KeptOP.out (r := (_, _)) e14 ?_
          apply takeSlot_kept
          assumption

theorem startReplication_kept {base : Device} {q} {c} {d : Device} (hd : Kept base d) :
    Kept base (startReplication q c d) := by
  unfold startReplication
  lift_lets
  intro v1
  clear_value v1
  intro v2
  clear_value v2
  split
  · rename_i e3 e4 e5
    refine KeptP.pair e5 ?_
    apply startLong_kept
    assumption
  · rename_i e6 e7 e8 e9
    lift_lets
    intro v10
    have h11 : KeptP base v10 := by
      unfold v10
      apply beginCycle_kept
      refine KeptP.pair e9 ?_
      apply startLong_kept
      assumption
    clear_value v10
    split
    · apply onSession_kept
      apply KeptP.snd
      assumption
    · apply endSlot_kept
      apply KeptP.snd
      assumption

theorem startPlain_kept {base : Device} {q} {c} {x} {d : Device} (hd : Kept base d) :
    Kept base (startPlain q c x d) := by
  unfold startPlain
  apply KeptP.snd
  apply startLong_kept
  assumption

theorem longResults_kept {base : Device} {q} {c} {d : Device} (hd : Kept base d) :
    Kept base (longResults q c d) := by
  unfold longResults
  lift_lets
  intro v1
  clear_value v1
  intro v2
  clear_value v2
  intro v3
  clear_value v3
  intro v4
  clear_value v4
  intro v5
  clear_value v5
  intro v6
  clear_value v6
  intro v7
  clear_value v7
  split
  · apply completeSt_kept
    assumption
  · split
    · apply completeSt_kept
      assumption
    · split
      · apply completeSt_kept
        assumption
      · apply complete_kept
        assumption

theorem execSnapshotDelete_kept {base : Device} {q} {c} {s : State} (hs : Kept base s.dev) :
    KeptB base (execSnapshotDelete q c s) := by
  unfold execSnapshotDelete
  apply next_keptB
  · intro x1 h2
    apply adminCmd_kept
    · intro x3 x4 h5
      apply deleteCmd_kept
      assumption
    · assumption
  · assumption

theorem execSnapshotCreate_kept {base : Device} {q} {c} {s : State} (hs : Kept base s.dev) :
    KeptB base (execSnapshotCreate q c s) := by
  unfold execSnapshotCreate
  apply next_keptB
  · intro x1 h2
    apply adminCmd_kept
    · intro x3 x4 h5
      apply createCmd_kept
      assumption
    · assumption
  · assumption

theorem execLongOperationRelease_kept {base : Device} {q} {c} {s : State} (hs : Kept base s.dev) :
    KeptB base (execLongOperationRelease q c s) := by
  unfold execLongOperationRelease
  apply next_keptB
  · intro x1 h2
    apply adminCmd_kept
    · intro x3 x4 h5
      apply releaseSlot_kept
      assumption
    · assumption
  · assumption

theorem execDumpReadout_kept {base : Device} {q} {c} {s : State} (hs : Kept base s.dev) :
    KeptB base (execDumpReadout q c s) := by
  unfold execDumpReadout
  apply next_keptB
  · intro x1 h2
    apply adminCmd_kept
    · intro x3 x4 h5
      apply startPlain_kept
      assumption
    · assumption
  · assumption

theorem execRebuildReport_kept {base : Device} {q} {c} {s : State} (hs : Kept base s.dev) :
    KeptB base (execRebuildReport q c s) := by
  unfold execRebuildReport
  apply next_keptB
  · intro x1 h2
    apply adminCmd_kept
    · intro x3 x4 h5
      apply startPlain_kept
      assumption
    · assumption
  · assumption

theorem execScrub_kept {base : Device} {q} {c} {s : State} (hs : Kept base s.dev) :
    KeptB base (execScrub q c s) := by
  unfold execScrub
  apply next_keptB
  · intro x1 h2
    apply adminCmd_kept
    · intro x3 x4 h5
      apply startPlain_kept
      assumption
    · assumption
  · assumption

theorem execLongOperationReplication_kept {base : Device} {q} {c} {s : State} (hs : Kept base s.dev) :
    KeptB base (execLongOperationReplication q c s) := by
  unfold execLongOperationReplication
  apply next_keptB
  · intro x1 h2
    apply adminCmd_kept
    · intro x3 x4 h5
      apply startReplication_kept
      assumption
    · assumption
  · assumption

theorem execSnapshotDifference_kept {base : Device} {q} {c} {s : State} (hs : Kept base s.dev) :
    KeptB base (execSnapshotDifference q c s) := by
  unfold execSnapshotDifference
  apply next_keptB
  · intro x1 h2
    apply adminCmd_kept
    · intro x3 x4 h5
      apply startPlain_kept
      assumption
    · assumption
  · assumption

theorem execLongOperationList_kept {base : Device} {q} {c} {s : State} (hs : Kept base s.dev) :
    KeptB base (execLongOperationList q c s) := by
  unfold execLongOperationList
  apply next_keptB
  · intro x1 h2
    apply adminCmd_kept
    · intro x3 x4 h5
      apply startPlain_kept
      assumption
    · assumption
  · assumption

theorem execGetLongOperationResults_kept {base : Device} {q} {c} {s : State} (hs : Kept base s.dev) :
    KeptB base (execGetLongOperationResults q c s) := by
  unfold execGetLongOperationResults
  apply next_keptB
  · intro x1 h2
    apply adminCmd_kept
    · intro x3 x4 h5
      split
      · apply completeSt_kept
        assumption
      · apply longResults_kept
        assumption
    · assumption
  · assumption

end Sys2Proof.Machine
end

