-- ==== Sys2Proof/Laws/KeptK.lean ====
section
/-! SUPPORT. What no operation of Firmware, SelfTests, DictRead, DictWrite takes back: `Kept` through each. -/

namespace Sys2Proof.Machine

/-! ## Firmware -/

theorem confirmImage_kept {base : Device} {n} {d : Device} (hd : Kept base d) :
    Kept base (confirmImage n d) := by
  unfold confirmImage
  lift_lets
  intro v1
  clear_value v1
  intro v2
  clear_value v2
  intro v3
  have h4 : Kept base v3 := by
    unfold v3
    refine Kept.mk_eq rfl rfl rfl rfl rfl rfl rfl rfl ?_
    assumption
  clear_value v3
  intro v5
  have h6 : Kept base v5 := by
    unfold v5
    apply odPut_kept
    assumption
  clear_value v5
  apply persist_kept
  apply logEvent_kept
  assumption

theorem healthConfirm_kept {base : Device} {acc} {v} {d : Device} (hd : Kept base d) :
    KeptR base (healthConfirm acc v d) := by
  unfold healthConfirm
  lift_lets
  intro v1
  clear_value v1
  split
  · apply KeptR.fail
    assumption
  · split
    · apply KeptR.fail
      assumption
    · rename_i e2 e3 e4 e5
      split
      · apply KeptR.fail
        assumption
      · split
        · apply KeptR.fail
          assumption
        · apply KeptR.done
          apply confirmImage_kept
          assumption

theorem activateFirmware_kept {base : Device} {acc} {reply} {d : Device} (hd : Kept base d) :
    KeptR base (activateFirmware acc reply d) := by
  unfold activateFirmware
  split
  · apply KeptR.fail
    assumption
  · lift_lets
    intro v1
    have h2 : Kept base v1 := by
      unfold v1
      apply aenPost_kept
      assumption
    clear_value v1
    split
    · apply KeptR.done
      apply dropLanes_kept
      apply quitServing_kept
      assumption
    · split
      · split
        · rename_i e3 e4 e5 e6 e7 e8
          apply powerRequest_kept
          refine KeptR.outDone e8 ?_
          apply powerRequest_kept
          assumption
        · apply powerRequest_kept
          assumption
      · apply KeptR.fail
        assumption

theorem firmwareDownload_kept {base : Device} {q} {c} {d : Device} (hd : Kept base d) :
    Kept base (firmwareDownload q c d) := by
  unfold firmwareDownload
  lift_lets
  intro v1
  clear_value v1
  intro v2
  clear_value v2
  intro v3
  clear_value v3
  intro v4
  clear_value v4
  split
  · apply completeSt_kept
    assumption
  · split
    · apply completeSt_kept
      assumption
    · split
      · apply completeSt_kept
        refine Kept.mk_eq rfl rfl rfl rfl rfl rfl rfl rfl ?_
        assumption
      · split
        · apply completeSt_kept
          assumption
        · apply completeSt_kept
          refine Kept.mk_eq rfl rfl rfl rfl rfl rfl rfl rfl ?_
          assumption

theorem commitEvent_kept {base : Device} {failed} {slot} {d : Device} (hd : Kept base d) :
    Kept base (commitEvent failed slot d) := by
  unfold commitEvent
  apply logEvent_kept
  assumption

theorem firmwareCommit_kept {base : Device} {q} {c} {f} {d : Device} (hf : ∀ w0 w1, Kept base w1 → KeptP base (f w0 w1)) (hd : Kept base d) :
    Kept base (firmwareCommit q c f d) := by
  unfold firmwareCommit
  split
  · apply completeSt_kept
    assumption
  · split
    · apply completeSt_kept
      assumption
    · split
      · apply completeSt_kept
        refine Kept.mk_eq rfl rfl rfl rfl rfl rfl rfl rfl ?_
        assumption
      · rename_i e1 e2 e3 e4 e5
        lift_lets
        intro v6
        have h7 : KeptP base v6 := by
          unfold v6
          apply hf
          assumption
        clear_value v6
        intro v8
        have h9 : Kept base v8 := by
          unfold v8
          apply KeptP.snd
          assumption
        clear_value v8
        intro v10
        clear_value v10
        intro v11
        have h12 : Kept base v11 := by
          unfold v11
          apply commitEvent_kept
          refine Kept.mk_eq rfl rfl rfl rfl rfl rfl rfl rfl ?_
          assumption
        clear_value v11
        apply completeSt_kept
        assumption

theorem commitPending_kept {base : Device} {q} {c} {y2 : Device} (hy2 : Kept base y2) :
    Kept base (commitPending q c y2) := by
  unfold commitPending
  apply firmwareCommit_kept
  · intro x1 x2 h3
    split
    · apply KeptP.mk
      apply onImage_kept
      assumption
    · apply KeptP.mk
      assumption
  · assumption

theorem commitApply_kept {base : Device} {n} {st} {d : Device} (hd : Kept base d) :
    KeptP base (commitApply n st d) := by
  unfold commitApply
  lift_lets
  intro v1
  clear_value v1
  intro v2
  clear_value v2
  intro v3
  have h4 : Kept base v3 := by
    unfold v3
    refine Kept.mk_eq rfl rfl rfl rfl rfl rfl rfl rfl ?_
    assumption
  clear_value v3
  intro v5
  clear_value v5
  split
  · rename_i e6 e7 e8
    apply KeptP.mk
    apply onImage_kept
    assumption
  · apply KeptP.mk
    apply onImage_kept
    assumption

theorem commitDelta_kept {base : Device} {q} {c} {y2 : Device} (hy2 : Kept base y2) :
    Kept base (commitDelta q c y2) := by
  unfold commitDelta
  apply firmwareCommit_kept
  · intro x1 x2 h3
    split
    · apply KeptP.mk
      assumption
    · lift_lets
      intro v4
      have h5 : KeptP base v4 := by
        unfold v4
        apply commitApply_kept
        assumption
      clear_value v4
      apply KeptP.mk
      apply KeptP.snd
      assumption
  · assumption

theorem execHealthConfirmDeadline_kept {base : Device} {s : State} (hs : Kept base s.dev) :
    KeptB base (execHealthConfirmDeadline s) := by
  unfold execHealthConfirmDeadline
  apply next_keptB
  · intro x1 h2
    split
    · assumption
    · rename_i e3 e4 e5
      apply internalReset_kept
      apply waitUntil_kept
      assumption
  · assumption

theorem selfConfirm_kept {base : Device} {d : Device} (hd : Kept base d) :
    Kept base (selfConfirm d) := by
  unfold selfConfirm
  split
  · rename_i e1 e2 e3
    split
    · apply confirmImage_kept
      assumption
    · assumption
  · assumption

theorem execFirmwareCommitActivate_kept {base : Device} {q} {c} {s : State} (hs : Kept base s.dev) :
    KeptB base (execFirmwareCommitActivate q c s) := by
  unfold execFirmwareCommitActivate
  apply next_keptB
  · intro x1 h2
    apply adminCmd_kept
    · intro x3 x4 h5
      apply commitPending_kept
      assumption
    · assumption
  · assumption

theorem execFirmwareCommitApply_kept {base : Device} {q} {c} {s : State} (hs : Kept base s.dev) :
    KeptB base (execFirmwareCommitApply q c s) := by
  unfold execFirmwareCommitApply
  apply next_keptB
  · intro x1 h2
    apply adminCmd_kept
    · intro x3 x4 h5
      apply commitDelta_kept
      assumption
    · assumption
  · assumption

theorem execFirmwareImageDownload_kept {base : Device} {q} {c} {s : State} (hs : Kept base s.dev) :
    KeptB base (execFirmwareImageDownload q c s) := by
  unfold execFirmwareImageDownload
  apply next_keptB
  · intro x1 h2
    apply adminCmd_kept
    · intro x3 x4 h5
      apply firmwareDownload_kept
      assumption
    · assumption
  · assumption

/-! ## SelfTests -/

theorem endLongOps_kept {base : Device} {d : Device} (hd : Kept base d) :
    Kept base (endLongOps d) := by
  unfold endLongOps
  apply Kept.foldl
  · intro x1 x2 h3
    apply endSlot_kept
    apply dropAsked_kept
    apply stopCycle_kept
    assumption
  · assumption

theorem endCommands_kept {base : Device} {d : Device} (hd : Kept base d) :
    Kept base (endCommands d) := by
  unfold endCommands
  lift_lets
  intro v1
  clear_value v1
  intro v2
  have h3 : Kept base v2 := by
    unfold v2
    apply Kept.foldl
    · intro x4 x5 h6
      apply failCmd_kept
      assumption
    · assumption
  clear_value v2
  apply Kept.foldl
  · intro x7 x8 h9
    split
    · assumption
    · apply completeSt_kept
      assumption
  · assumption

theorem beginSanitize_kept {base : Device} {action} {cdw10} {fwd} {d : Device} (hd : Kept base d) :
    Kept base (beginSanitize action cdw10 fwd d) := by
  unfold beginSanitize
  lift_lets
  intro v1
  have h2 : Kept base v1 := by
    unfold v1
    apply endCommands_kept
    apply endLongOps_kept
    apply stopSelfTest_kept
    assumption
  clear_value v1
  intro v3
  clear_value v3
  intro v4
  clear_value v4
  intro v5
  have h6 : Kept base v5 := by
    unfold v5
    refine Kept.mk_eq rfl rfl rfl rfl rfl rfl rfl rfl ?_
    assumption
  clear_value v5
  apply wipe_kept
  assumption

theorem peerSanitize_kept {base : Device} {f} {cdw10} {d : Device} (hd : Kept base d) :
    Kept base (peerSanitize f cdw10 d) := by
  unfold peerSanitize
  split
  · rename_i e1 e2 e3
    refine Kept.mk_eq rfl rfl rfl rfl rfl rfl rfl rfl ?_
    assumption
  · apply beginSanitize_kept
    assumption

theorem beginSelfTest_kept {base : Device} {kind} {starter} {slot} {fwd} {d : Device} (hd : Kept base d) :
    Kept base (beginSelfTest kind starter slot fwd d) := by
  unfold beginSelfTest
  lift_lets
  intro v1
  clear_value v1
  intro v2
  clear_value v2
  apply ioActivity_kept
  refine Kept.mk_eq rfl rfl rfl rfl rfl rfl rfl rfl ?_
  assumption

theorem answerPeer_kept {base : Device} {f} {sct} {sc} {data} {d : Device} (hd : Kept base d) :
    Kept base (answerPeer f sct sc data d) := by
  unfold answerPeer
  lift_lets
  intro v1
  have h2 : Kept base v1 := by
    unfold v1
    split
    · assumption
    · apply sendLink_kept
      assumption
  clear_value v1
  apply sendLink_kept
  assumption

theorem peerSelfTest_kept {base : Device} {f} {code} {d : Device} (hd : Kept base d) :
    Kept base (peerSelfTest f code d) := by
  unfold peerSelfTest
  split
  · apply answerPeer_kept
    split
    · apply endSelfTest_kept
      assumption
    · assumption
  · split
    · apply answerPeer_kept
      assumption
    · apply beginSelfTest_kept
      assumption

theorem peerRequest_kept {base : Device} {f} {c} {d : Device} (hd : Kept base d) :
    Kept base (peerRequest f c d) := by
  unfold peerRequest
  lift_lets
  intro v1
  clear_value v1
  intro v2
  have h3 : KeptP base v2 := by
    unfold v2
    apply scrubGroup_kept
    assumption
  clear_value v2
  split
  · apply answerPeer_kept
    assumption
  · split
    · apply answerPeer_kept
      apply KeptP.snd
      assumption
    · split
      · apply peerSelfTest_kept
        assumption
      · split
        · apply peerSanitize_kept
          assumption
        · apply answerPeer_kept
          assumption

theorem execFwdCmd_kept {base : Device} {y0} {m} {s : State} (hs : Kept base s.dev) :
    KeptB base (execFwdCmd y0 m s) := by
  unfold execFwdCmd
  apply next_keptB
  · intro x1 h2
    apply acceptFrame_kept
    · intro x3 h4
      split
      · apply peerRequest_kept
        assumption
      · apply fwdCmd_kept
        assumption
    · assumption
  · assumption

theorem peerWord_kept {base : Device} {who} {sqe} {d : Device} (hd : Kept base d) :
    KeptP base (peerWord who sqe d) := by
  unfold peerWord
  split
  · rename_i e1 e2 e3
    apply KeptP.mk
    apply dropAnswer_kept
    assumption
  · split
    · apply KeptP.mk
      assumption
    · split
      · apply KeptP.mk
        assumption
      · apply KeptP.mk
        apply askPeer_kept
        assumption

theorem startSanitize_kept {base : Device} {q} {c} {action} {d : Device} (hd : Kept base d) :
    Kept base (startSanitize q c action d) := by
  unfold startSanitize
  split
  · apply completeSt_kept
    assumption
  · split
    · apply completeSt_kept
      assumption
    · split
      · apply completeSt_kept
        assumption
      · lift_lets
        intro v1
        have h2 : Kept base v1 := by
          unfold v1
          apply beginSanitize_kept
          apply dropAsked_kept
          assumption
        clear_value v1
        apply completeSt_kept
        apply KeptP.snd
        apply peerWord_kept
        assumption

theorem exitFailureMode_kept {base : Device} {q} {c} {d : Device} (hd : Kept base d) :
    Kept base (exitFailureMode q c d) := by
  unfold exitFailureMode
  split
  · apply completeSt_kept
    assumption
  · split
    · apply completeSt_kept
      assumption
    · split
      · apply completeSt_kept
        refine Kept.mk_eq rfl rfl rfl rfl rfl rfl rfl rfl ?_
        assumption
      · apply completeSt_kept
        assumption

theorem abortSelfTest_kept {base : Device} {q} {c} {d : Device} (hd : Kept base d) :
    Kept base (abortSelfTest q c d) := by
  unfold abortSelfTest
  split
  · apply completeSt_kept
    assumption
  · split
    · apply completeSt_kept
      assumption
    · lift_lets
      intro v1
      clear_value v1
      apply completeSt_kept
      split
      · apply stopSelfTest_kept
        assumption
      · assumption

theorem startSelfTest_kept {base : Device} {q} {c} {kind} {d : Device} (hd : Kept base d) :
    Kept base (startSelfTest q c kind d) := by
  unfold startSelfTest
  split
  · apply completeSt_kept
    assumption
  · split
    · apply completeSt_kept
      assumption
    · split
      · apply completeSt_kept
        assumption
      · split
        · apply completeSt_kept
          assumption
        · split
          · apply completeSt_kept
            apply KeptP.snd
            apply peerWord_kept
            apply beginSelfTest_kept
            apply dropAsked_kept
            assumption
          · split
            · apply completeSt_kept
              assumption
            · rename_i e1 e2 e3 e4 e5 e6 e7 e8 e9
              lift_lets
              intro v10
              have h11 : Kept base v10 := by
                unfold v10
                apply KeptP.snd
                apply peerWord_kept
                apply beginSelfTest_kept
                apply dropAsked_kept
                refine KeptOP.out (r := (_, _)) e9 ?_
                apply takeSlot_kept
                assumption
              clear_value v10
              apply complete_kept
              assumption

theorem renewSlots_kept {base : Device} {d : Device} (hd : Kept base d) :
    Kept base (renewSlots d) := by
  unfold renewSlots
  lift_lets
  intro v1
  clear_value v1
  apply Kept.foldl
  · intro x2 x3 h4
    lift_lets
    intro v5
    clear_value v5
    split
    · apply renewKey_kept
      assumption
    · assumption
  · assumption

theorem endSanitize_kept {base : Device} {z} {ok} {d : Device} (hd : Kept base d) :
    Kept base (endSanitize z ok d) := by
  unfold endSanitize
  lift_lets
  intro v1
  have h2 : Kept base v1 := by
    unfold v1
    split
    · apply renewSlots_kept
      assumption
    · assumption
  clear_value v1
  intro v3
  clear_value v3
  intro v4
  clear_value v4
  intro v5
  have h6 : Kept base v5 := by
    unfold v5
    refine Kept.mk_eq rfl rfl rfl rfl rfl rfl rfl rfl ?_
    assumption
  clear_value v5
  intro v7
  have h8 : Kept base v7 := by
    unfold v7
    apply aenPost_kept
    assumption
  clear_value v7
  intro v9
  have h10 : Kept base v9 := by
    unfold v9
    split
    · rename_i e11 e12 e13
      apply sendLink_kept
      assumption
    · assumption
  clear_value v9
  apply settle_kept
  apply persist_kept
  apply restartIdle_kept
  assumption

theorem sanitizeComplete_kept {base : Device} {ok} {d : Device} (hd : Kept base d) :
    Kept base (sanitizeComplete ok d) := by
  unfold sanitizeComplete
  split
  · assumption
  · rename_i e1 e2 e3
    split
    · assumption
    · split
      · apply endSanitize_kept
        assumption
      · lift_lets
        intro v4
        have h5 : KeptP base v4 := by
          unfold v4
          apply peerWord_kept
          assumption
        clear_value v4
        split
        · apply KeptP.snd
          assumption
        · rename_i e6 e7 e8 e9 e10 e11
          apply endSanitize_kept
          apply KeptP.snd
          assumption

theorem execSanitizeComplete_kept {base : Device} {ok} {s : State} (hs : Kept base s.dev) :
    KeptB base (execSanitizeComplete ok s) := by
  unfold execSanitizeComplete
  apply next_keptB
  · intro x1 h2
    apply sanitizeComplete_kept
    assumption
  · assumption

theorem execSanitizeCryptoErase_kept {base : Device} {q} {c} {s : State} (hs : Kept base s.dev) :
    KeptB base (execSanitizeCryptoErase q c s) := by
  unfold execSanitizeCryptoErase
  apply next_keptB
  · intro x1 h2
    apply adminCmd_kept
    · intro x3 x4 h5
      apply startSanitize_kept
      assumption
    · assumption
  · assumption

theorem execSanitizeBlockErase_kept {base : Device} {q} {c} {s : State} (hs : Kept base s.dev) :
    KeptB base (execSanitizeBlockErase q c s) := by
  unfold execSanitizeBlockErase
  apply next_keptB
  · intro x1 h2
    apply adminCmd_kept
    · intro x3 x4 h5
      apply startSanitize_kept
      assumption
    · assumption
  · assumption

theorem execSanitizeExitFailureMode_kept {base : Device} {q} {c} {s : State} (hs : Kept base s.dev) :
    KeptB base (execSanitizeExitFailureMode q c s) := by
  unfold execSanitizeExitFailureMode
  apply next_keptB
  · intro x1 h2
    apply adminCmd_kept
    · intro x3 x4 h5
      apply exitFailureMode_kept
      assumption
    · assumption
  · assumption

theorem scrubAll_kept {base : Device} {d : Device} (hd : Kept base d) :
    KeptP base (scrubAll d) := by
  unfold scrubAll
  apply KeptP.foldl
  · intro x1 x2 h3
    lift_lets
    intro v4
    have h5 : KeptP base v4 := by
      unfold v4
      apply scrubGroup_kept
      apply KeptP.snd
      assumption
    clear_value v4
    apply KeptP.mk
    apply KeptP.snd
    assumption
  · apply KeptP.mk
    assumption

theorem finishSelfTest_kept {base : Device} {t} {d : Device} (hd : Kept base d) :
    Kept base (finishSelfTest t d) := by
  unfold finishSelfTest
  split
  · assumption
  · split
    · apply endSelfTest_kept
      assumption
    · lift_lets
      intro v1
      have h2 : KeptP base v1 := by
        unfold v1
        apply peerWord_kept
        assumption
      clear_value v1
      split
      · apply KeptP.snd
        assumption
      · rename_i e3 e4 e5 e6 e7 e8
        lift_lets
        intro v9
        clear_value v9
        intro v10
        have h11 : Kept base v10 := by
          unfold v10
          apply endSelfTest_kept
          apply KeptP.snd
          assumption
        clear_value v10
        split
        · apply selfConfirm_kept
          assumption
        · assumption

theorem selfTestSegment_kept {base : Device} {ok} {d : Device} (hd : Kept base d) :
    Kept base (selfTestSegment ok d) := by
  unfold selfTestSegment
  split
  · assumption
  · rename_i e1 e2 e3
    split
    · apply finishSelfTest_kept
      assumption
    · lift_lets
      intro v4
      clear_value v4
      intro v5
      have h6 : KeptP base v5 := by
        unfold v5
        apply scrubAll_kept
        assumption
      clear_value v5
      intro v7
      have h8 : KeptP base v7 := by
        unfold v7
        split
        · apply KeptP.mk
          apply KeptP.snd
          assumption
        · apply KeptP.mk
          assumption
      clear_value v7
      intro v9
      clear_value v9
      intro v10
      have h11 : Kept base v10 := by
        unfold v10
        apply KeptP.snd
        assumption
      clear_value v10
      intro v12
      clear_value v12
      apply finishSelfTest_kept
      refine Kept.mk_eq rfl rfl rfl rfl rfl rfl rfl rfl ?_
      assumption

theorem execSelfTestSegment_kept {base : Device} {ok} {s : State} (hs : Kept base s.dev) :
    KeptB base (execSelfTestSegment ok s) := by
  unfold execSelfTestSegment
  apply next_keptB
  · intro x1 h2
    apply selfTestSegment_kept
    assumption
  · assumption

theorem execSelfTestAbort_kept {base : Device} {q} {c} {s : State} (hs : Kept base s.dev) :
    KeptB base (execSelfTestAbort q c s) := by
  unfold execSelfTestAbort
  apply next_keptB
  · intro x1 h2
    apply adminCmd_kept
    · intro x3 x4 h5
      apply abortSelfTest_kept
      assumption
    · assumption
  · assumption

theorem execExtendedSelfTest_kept {base : Device} {q} {c} {s : State} (hs : Kept base s.dev) :
    KeptB base (execExtendedSelfTest q c s) := by
  unfold execExtendedSelfTest
  apply next_keptB
  · intro x1 h2
    apply adminCmd_kept
    · intro x3 x4 h5
      apply startSelfTest_kept
      assumption
    · assumption
  · assumption

theorem execShortSelfTest_kept {base : Device} {q} {c} {s : State} (hs : Kept base s.dev) :
    KeptB base (execShortSelfTest q c s) := by
  unfold execShortSelfTest
  apply next_keptB
  · intro x1 h2
    apply adminCmd_kept
    · intro x3 x4 h5
      apply startSelfTest_kept
      assumption
    · assumption
  · assumption

/-! ## DictRead -/

theorem touchIf_kept {base : Device} {acc} {idx} {sub} {d : Device} (hd : Kept base d) :
    Kept base (touchIf acc idx sub d) := by
  unfold touchIf
  split
  · apply touchSession_kept
    assumption
  · assumption

theorem clearMac_kept {base : Device} {p} {sub} {d : Device} (hd : Kept base d) :
    Kept base (clearMac p sub d) := by
  unfold clearMac
  lift_lets
  intro v1
  clear_value v1
  apply Kept.foldl
  · intro x2 x3 h4
    apply clearEmcy_kept
    apply onPort_kept
    assumption
  · assumption

theorem afterRead_kept {base : Device} {acc} {idx} {sub} {d : Device} (hd : Kept base d) :
    Kept base (afterRead acc idx sub d) := by
  unfold afterRead
  split
  · apply clearMac_kept
    assumption
  · split
    · apply odPut_kept
      assumption
    · split
      · apply stepCursor_kept
        assumption
      · assumption

theorem odRead_kept {base : Device} {acc} {idx} {sub} {select} {d : Device} (hd : Kept base d) :
    KeptE base (odRead acc idx sub select d) := by
  unfold odRead
  split
  · rename_i e1 e2 e3
    exact KeptE.error
  · lift_lets
    intro v4
    have h5 : Kept base v4 := by
      unfold v4
      apply touchIf_kept
      assumption
    clear_value v4
    intro v6
    clear_value v6
    split
    · exact KeptE.error
    · split
      · apply KeptE.ok
        assumption
      · split
        · apply KeptE.ok
          assumption
        · split
          · apply challengeRead_kept
            assumption
          · apply KeptE.ok
            apply afterRead_kept
            assumption

theorem odRow_kept {base : Device} {acc} {idx} {sub} {need} {f} {s : State} (hf : ∀ w0, Kept base w0 → Kept base (f w0)) (hs : Kept base s.dev) :
    KeptB base (odRow acc idx sub need f s) := by
  unfold odRow
  apply next_keptB
  · intro x1 h2
    split
    · assumption
    · split
      · split
        · assumption
        · split
          · apply emit_kept
            assumption
          · apply hf
            assumption
      · split
        · assumption
        · split
          · apply answer_kept
            assumption
          · apply hf
            assumption
      · apply hf
        assumption
  · assumption

theorem readRow_kept {base : Device} {acc} {idx} {sub} {d : Device} (hd : Kept base d) :
    Kept base (readRow acc idx sub d) := by
  unfold readRow
  split
  · rename_i e1 e2 e3
    apply answer_kept
    apply KeptP.snd
    refine KeptE.pair e3 ?_
    apply odRead_kept
    assumption
  · apply answer_kept
    assumption

theorem execClearOnReadEntryRead_kept {base : Device} {acc} {board} {s : State} (hs : Kept base s.dev) :
    KeptB base (execClearOnReadEntryRead acc board s) := by
  unfold execClearOnReadEntryRead
  split
  · apply odRow_kept
    · intro x1 h2
      apply readRow_kept
      assumption
    · assumption
  · apply odRow_kept
    · intro x3 h4
      apply readRow_kept
      assumption
    · assumption

theorem execMacStatisticsRead_kept {base : Device} {acc} {port} {sub} {ok} {s : State} (hs : Kept base s.dev) :
    KeptB base (execMacStatisticsRead acc port sub ok s) := by
  unfold execMacStatisticsRead
  apply odRow_kept
  · intro x1 h2
    split
    · apply readRow_kept
      assumption
    · apply touchIf_kept
      assumption
  · assumption

theorem execChallengeRead_kept {base : Device} {acc} {s : State} (hs : Kept base s.dev) :
    KeptB base (execChallengeRead acc s) := by
  unfold execChallengeRead
  apply odRow_kept
  · intro x1 h2
    apply readRow_kept
    assumption
  · assumption

theorem execWindowRecordRead_kept {base : Device} {acc} {idx} {s : State} (hs : Kept base s.dev) :
    KeptB base (execWindowRecordRead acc idx s) := by
  unfold execWindowRecordRead
  apply odRow_kept
  · intro x1 h2
    apply readRow_kept
    assumption
  · assumption

/-! ## DictWrite -/

theorem partitionChanged_kept {base : Device} {was} {now} {d : Device} (hd : Kept base d) :
    Kept base (partitionChanged was now d) := by
  unfold partitionChanged
  split
  · assumption
  · lift_lets
    intro v1 v2 v3
    clear_value v3
    apply bumpVersion_kept
    refine Kept.mk_eq rfl rfl rfl rfl rfl rfl rfl rfl ?_
    assumption

theorem beforeStore_kept {base : Device} {idx} {sub} {v} {d : Device} (hd : Kept base d) :
    Kept base (beforeStore idx sub v d) := by
  unfold beforeStore
  split
  · apply closeGathers_kept
    assumption
  · split
    · apply partitionChanged_kept
      assumption
    · assumption

theorem afterStore_kept {base : Device} {idx} {sub} {was} {d : Device} (hd : Kept base d) :
    Kept base (afterStore idx sub was d) := by
  unfold afterStore
  split
  · refine Kept.mk_eq rfl rfl rfl rfl rfl rfl rfl rfl ?_
    assumption
  · split
    · refine Kept.mk_eq rfl rfl rfl rfl rfl rfl rfl rfl ?_
      assumption
    · split
      · apply refreshTemps_kept
        assumption
      · split
        · refine Kept.mk_eq rfl rfl rfl rfl rfl rfl rfl rfl ?_
          assumption
        · split
          · apply refreshDirty_kept
            assumption
          · split
            · split
              · apply portChanged_kept
                assumption
              · split
                · apply onPort_kept
                  assumption
                · assumption
            · split
              · apply configSession_kept
                assumption
              · split
                · apply lateSummary_kept
                  apply odPut_kept
                  assumption
                · split
                  · apply bumpVersion_kept
                    assumption
                  · assumption

theorem storeEntry_kept {base : Device} {idx} {sub} {sel} {v} {d : Device} (hd : Kept base d) :
    Kept base (storeEntry idx sub sel v d) := by
  unfold storeEntry
  lift_lets
  intro v1
  clear_value v1
  intro v2
  clear_value v2
  intro v3
  have h4 : Kept base v3 := by
    unfold v3
    apply afterStore_kept
    apply odPutSel_kept
    apply beforeStore_kept
    assumption
  clear_value v3
  split
  · apply persist_kept
    assumption
  · assumption

theorem fillStaged_kept {base : Device} {d : Device} (hd : Kept base d) :
    Kept base (fillStaged d) := by
  unfold fillStaged
  apply persist_kept
  apply bumpVersion_kept
  apply Kept.foldl
  · intro x1 x2 h3
    apply odPutSel_kept
    assumption
  · assumption

theorem storeSearch_kept {base : Device} {sel} {v} {d : Device} (hd : Kept base d) :
    Kept base (storeSearch sel v d) := by
  unfold storeSearch
  lift_lets
  intro v1
  clear_value v1
  intro v2
  have h3 : Kept base v2 := by
    unfold v2
    apply putSearchEntry_kept
    assumption
  clear_value v2
  intro v4
  clear_value v4
  split
  · refine Kept.mk_eq rfl rfl rfl rfl rfl rfl rfl rfl ?_
    assumption
  · assumption

theorem applyEntry_kept {base : Device} {idx} {sub} {sel} {v} {d : Device} (hd : Kept base d) :
    Kept base (applyEntry idx sub sel v d) := by
  unfold applyEntry
  split
  · apply refreshDirty_kept
    refine Kept.mk_eq rfl rfl rfl rfl rfl rfl rfl rfl ?_
    assumption
  · split
    · apply KeptP.snd
      apply patchWrite_kept
      assumption
    · split
      · apply storeSearch_kept
        assumption
      · split
        · apply patchActivate_kept
          assumption
        · split
          · apply fillStaged_kept
            assumption
          · split
            · apply enterPs4_kept
              assumption
            · apply storeEntry_kept
              assumption

theorem tableAck_kept {base : Device} {idx} {sub} {entry} {code} {d : Device} (hd : Kept base d) :
    Kept base (tableAck idx sub entry code d) := by
  unfold tableAck
  split
  · assumption
  · rename_i e1 e2 e3
    lift_lets
    intro v4
    clear_value v4
    intro v5
    have h6 : Kept base v5 := by
      unfold v5
      refine Kept.mk_eq rfl rfl rfl rfl rfl rfl rfl rfl ?_
      assumption
    clear_value v5
    split
    · apply answer_kept
      assumption
    · apply answer_kept
      apply applyEntry_kept
      assumption

theorem execTableAck_kept {base : Device} {y0} {idx} {sub} {entry} {code} {s : State} (hs : Kept base s.dev) :
    KeptB base (execTableAck y0 idx sub entry code s) := by
  unfold execTableAck
  apply next_keptB
  · intro x1 h2
    apply acceptFrame_kept
    · intro x3 h4
      apply tableAck_kept
      assumption
    · assumption
  · assumption

theorem crossHeld_kept {base : Device} {idx} {sub} {entry} {v} {d : Device} (hd : Kept base d) :
    Kept base (crossHeld idx sub entry v d) := by
  unfold crossHeld
  split
  · assumption
  · refine Kept.mk_eq rfl rfl rfl rfl rfl rfl rfl rfl ?_
    assumption

theorem profileRefused_kept {base : Device} {slot} {check} {d : Device} (hd : Kept base d) :
    Kept base (profileRefused slot check d) := by
  unfold profileRefused
  apply logEvent_kept
  assumption

theorem refusal_kept {base : Device} {idx} {sub} {sel} {v} {d : Device} (hd : Kept base d) :
    KeptOP base (refusal idx sub sel v d) := by
  unfold refusal
  split
  · apply KeptOP.map
    intro x1
    apply KeptP.mk
    apply profileRefused_kept
    assumption
  · split
    · split
      · apply KeptOP.some
        apply patchRefused_kept
        assumption
      · rename_i e2 e3 e4 e5 e6
        exact KeptOP.none
    · split
      · split
        · exact KeptOP.none
        · apply KeptOP.some
          assumption
      · split
        · split
          · exact KeptOP.none
          · apply KeptOP.some
            assumption
        · apply KeptOP.map
          intro x7
          apply KeptP.mk
          assumption

theorem syncRefusal_kept {base : Device} {idx} {sub} {sel} {v} {d : Device} (hd : Kept base d) :
    KeptOP base (syncRefusal idx sub sel v d) := by
  unfold syncRefusal
  split
  · split
    · apply KeptOP.some
      assumption
    · exact KeptOP.none
  · split
    · rename_i e1 e2 e3 e4
      apply KeptOP.some
      assumption
    · split
      · exact KeptOP.none
      · split
        · apply KeptOP.some
          assumption
        · split
          · apply KeptOP.some
            assumption
          · apply refusal_kept
            assumption

theorem tableSync_kept {base : Device} {idx} {sub} {entry} {off} {value} {d : Device} (hd : Kept base d) :
    Kept base (tableSync idx sub entry off value d) := by
  unfold tableSync
  lift_lets
  intro v1
  clear_value v1
  intro v2
  clear_value v2
  split
  · rename_i e3 e4 e5
    apply sendLink_kept
    apply KeptP.snd
    refine KeptOP.pair e5 ?_
    apply syncRefusal_kept
    assumption
  · apply sendLink_kept
    apply applyEntry_kept
    apply crossHeld_kept
    assumption

theorem execTableSync_kept {base : Device} {y0} {idx} {sub} {entry} {off} {value} {s : State} (hs : Kept base s.dev) :
    KeptB base (execTableSync y0 idx sub entry off value s) := by
  unfold execTableSync
  apply next_keptB
  · intro x1 h2
    apply acceptFrame_kept
    · intro x3 h4
      apply tableSync_kept
      assumption
    · assumption
  · assumption

theorem placeForWrite_kept {base : Device} {acc} {reply} {idx} {sub} {e} {d : Device} (hd : Kept base d) :
    KeptR base (placeForWrite acc reply idx sub e d) := by
  unfold placeForWrite
  split
  · apply KeptR.fail
    assumption
  · apply KeptR.held
    apply placePaired_kept
    assumption

theorem boardWrite_kept {base : Device} {acc} {reply} {sel} {v} {d : Device} (hd : Kept base d) :
    KeptR base (boardWrite acc reply sel v d) := by
  unfold boardWrite
  lift_lets
  intro v1
  clear_value v1
  intro v2
  clear_value v2
  split
  · apply KeptR.held
    apply placePairedAt_kept
    assumption
  · apply KeptR.done
    apply putEntry_kept
    split
    · apply sendLink_kept
      assumption
    · assumption

theorem checkedWrite_kept {base : Device} {acc} {reply} {idx} {sub} {sel} {v} {d : Device} (hd : Kept base d) :
    KeptR base (checkedWrite acc reply idx sub sel v d) := by
  unfold checkedWrite
  split
  · apply boardWrite_kept
    assumption
  · split
    · apply placeForWrite_kept
      assumption
    · split
      · apply placeForWrite_kept
        assumption
      · split
        · apply KeptR.fail
          assumption
        · split
          · split
            · apply KeptR.fail
              assumption
            · apply KeptR.done
              apply applyEntry_kept
              assumption
            · rename_i e1 e2 e3 e4 e5 e6 e7 e8 e9
              apply KeptR.held
              apply syncWrite_kept
              assumption
          · apply KeptR.done
            apply applyEntry_kept
            assumption

theorem deleteWrite_kept {base : Device} {n} {d : Device} (hd : Kept base d) :
    KeptR base (deleteWrite n d) := by
  unfold deleteWrite
  split
  · apply KeptR.fail
    assumption
  · split
    · apply KeptR.fail
      assumption
    · apply KeptR.done
      apply deleteSnapshot_kept
      assumption

theorem arbiterDecision_kept {base : Device} {n} {d : Device} (hd : Kept base d) :
    KeptR base (arbiterDecision n d) := by
  unfold arbiterDecision
  split
  · apply KeptR.done
    apply arbiterSurvive_kept
    assumption
  · split
    · apply KeptR.done
      apply standDown_kept
      assumption
    · split
      · rename_i e1 e2 e3 e4 e5
        apply KeptR.done
        refine KeptO.out e5 ?_
        apply releaseFence_kept
        assumption
      · apply KeptR.fail
        assumption

theorem onlyOne_kept {base : Device} {n} {d : Device} {f} (hd : Kept base d) (hf : ∀ w0, Kept base w0 → KeptR base (f w0)) :
    KeptR base (onlyOne n d f) := by
  unfold onlyOne
  split
  · apply hf
    assumption
  · apply KeptR.fail
    assumption

theorem restoreAll_kept {base : Device} {n} {d : Device} (hd : Kept base d) :
    KeptR base (restoreAll n d) := by
  unfold restoreAll
  split
  · apply KeptR.done
    refine Kept.mk_eq rfl rfl rfl rfl rfl rfl rfl rfl ?_
    assumption
  · apply KeptR.fail
    assumption

theorem commandWrite_kept {base : Device} {acc} {reply} {idx} {sub} {n} {v} {d : Device} (hd : Kept base d) :
    KeptOR base (commandWrite acc reply idx sub n v d) := by
  unfold commandWrite
  split
  · apply KeptOR.some
    apply restoreAll_kept
    assumption
  · apply KeptOR.some
    apply powerRequest_kept
    assumption
  · apply KeptOR.some
    apply onlyOne_kept
    · assumption
    · intro x1 h2
      apply holdupTest_kept
      assumption
  · apply KeptOR.some
    apply slotCommand_kept
    assumption
  · apply KeptOR.some
    apply onlyOne_kept
    · assumption
    · intro x3 h4
      apply KeptR.done
      apply clearLost_kept
      assumption
  · apply KeptOR.some
    apply arbiterDecision_kept
    assumption
  · apply KeptOR.some
    split
    · apply KeptR.fail
      assumption
    · apply KeptR.done
      apply persist_kept
      apply fansFitted_kept
      assumption
  · apply KeptOR.some
    apply onlyOne_kept
    · assumption
    · intro x5 h6
      apply activateFirmware_kept
      assumption
  · apply KeptOR.some
    apply healthConfirm_kept
    assumption
  · apply KeptOR.some
    apply sessionResponse_kept
    assumption
  · apply KeptOR.some
    apply KeptR.done
    apply closeSession_kept
    assumption
  · apply KeptOR.some
    apply ownerEnrol_kept
    assumption
  · apply KeptOR.some
    apply ownerRevoke_kept
    assumption
  · apply KeptOR.some
    apply deleteWrite_kept
    assumption
  · exact KeptOR.none

theorem entryWrite_kept {base : Device} {acc} {reply} {idx} {sub} {sel} {v} {d : Device} (hd : Kept base d) :
    KeptR base (entryWrite acc reply idx sub sel v d) := by
  unfold entryWrite
  split
  · rename_i e1 e2 e3
    refine KeptOR.out e3 ?_
    apply commandWrite_kept
    assumption
  · split
    · apply fanFloorWrite_kept
      assumption
    · split
      · rename_i e4 e5 e6 e7 e8 e9
        apply KeptR.fail
        apply KeptP.snd
        refine KeptOP.pair e9 ?_
        apply refusal_kept
        assumption
      · apply checkedWrite_kept
        assumption

theorem stepAfter_kept {base : Device} {acc} {idx} {y2} (hy2 : KeptR base y2) :
    KeptR base (stepAfter acc idx y2) := by
  unfold stepAfter
  split
  · apply KeptR.done
    apply stepCursor_kept
    assumption
  · apply KeptR.held
    apply stepCursor_kept
    assumption
  · assumption

theorem odWrite_kept {base : Device} {acc} {reply} {idx} {sub} {v} {d : Device} (hd : Kept base d) :
    KeptR base (odWrite acc reply idx sub v d) := by
  unfold odWrite
  split
  · rename_i e1 e2 e3
    apply KeptR.fail
    assumption
  · split
    · apply KeptR.fail
      assumption
    · lift_lets
      intro v4
      have h5 : Kept base v4 := by
        unfold v4
        apply touchIf_kept
        assumption
      clear_value v4
      intro v6
      clear_value v6
      split
      · apply cursorWrite_kept
        assumption
      · split
        · apply KeptR.fail
          assumption
        · apply stepAfter_kept
          apply entryWrite_kept
          assumption

theorem openTransfer_kept {base : Device} {r} {idx} {sub} {d : Device} (hd : Kept base d) :
    Kept base (openTransfer r idx sub d) := by
  unfold openTransfer
  split
  · split
    · refine Kept.mk_eq rfl rfl rfl rfl rfl rfl rfl rfl ?_
      assumption
    · assumption
  · assumption

theorem answerWrite_kept {base : Device} {r idx sub} {x : OdRes} (hx : KeptR base x) : Kept base (answerWrite r idx sub x) := by
  cases x with
  | fail c d => exact answer_kept hx
  | done d => exact answer_kept hx
  | held d => exact openTransfer_kept hx

theorem endAssembly_kept {base : Device} {acc} {d : Device} (hd : Kept base d) :
    Kept base (endAssembly acc d) := by
  unfold endAssembly
  refine Kept.mk_eq rfl rfl rfl rfl rfl rfl rfl rfl ?_
  assumption

theorem writeRow_kept {base : Device} {acc} {idx} {sub} {v} {s : State} (hs : Kept base s.dev) :
    KeptB base (writeRow acc idx sub v s) := by
  unfold writeRow
  apply odRow_kept
  · intro x1 h2
    apply answerWrite_kept
    apply odWrite_kept
    apply endAssembly_kept
    assumption
  · assumption

theorem writeNat_kept {base : Device} {acc} {idx} {sub} {size} {n} {s : State} (hs : Kept base s.dev) :
    KeptB base (writeNat acc idx sub size n s) := by
  unfold writeNat
  apply writeRow_kept
  assumption

theorem execFansFittedWrite_kept {base : Device} {acc} {v} {s : State} (hs : Kept base s.dev) :
    KeptB base (execFansFittedWrite acc v s) := by
  unfold execFansFittedWrite
  apply writeNat_kept
  assumption

theorem execFanFloorWrite_kept {base : Device} {acc} {fan} {rpm} {s : State} (hs : Kept base s.dev) :
    KeptB base (execFanFloorWrite acc fan rpm s) := by
  unfold execFanFloorWrite
  apply writeNat_kept
  assumption

theorem execStorageSummaryWrite_kept {base : Device} {acc} {v} {s : State} (hs : Kept base s.dev) :
    KeptB base (execStorageSummaryWrite acc v s) := by
  unfold execStorageSummaryWrite
  apply writeRow_kept
  assumption

theorem execProfileBindingWrite_kept {base : Device} {acc} {group} {slot} {s : State} (hs : Kept base s.dev) :
    KeptB base (execProfileBindingWrite acc group slot s) := by
  unfold execProfileBindingWrite
  apply writeNat_kept
  assumption

theorem execProfileWrite_kept {base : Device} {acc} {slot} {v} {s : State} (hs : Kept base s.dev) :
    KeptB base (execProfileWrite acc slot v s) := by
  unfold execProfileWrite
  apply writeRow_kept
  assumption

theorem execOwnerRevoke_kept {base : Device} {acc} {n} {s : State} (hs : Kept base s.dev) :
    KeptB base (execOwnerRevoke acc n s) := by
  unfold execOwnerRevoke
  apply writeNat_kept
  assumption

theorem execOwnerEnrol_kept {base : Device} {acc} {v} {s : State} (hs : Kept base s.dev) :
    KeptB base (execOwnerEnrol acc v s) := by
  unfold execOwnerEnrol
  apply writeRow_kept
  assumption

theorem execPatchActivate_kept {base : Device} {acc} {s : State} (hs : Kept base s.dev) :
    KeptB base (execPatchActivate acc s) := by
  unfold execPatchActivate
  apply writeNat_kept
  assumption

theorem execPatchPackageWrite_kept {base : Device} {acc} {v} {s : State} (hs : Kept base s.dev) :
    KeptB base (execPatchPackageWrite acc v s) := by
  unfold execPatchPackageWrite
  apply writeRow_kept
  assumption

theorem execHealthConfirm_kept {base : Device} {acc} {v} {s : State} (hs : Kept base s.dev) :
    KeptB base (execHealthConfirm acc v s) := by
  unfold execHealthConfirm
  apply writeNat_kept
  assumption

theorem execFirmwareActivate_kept {base : Device} {acc} {s : State} (hs : Kept base s.dev) :
    KeptB base (execFirmwareActivate acc s) := by
  unfold execFirmwareActivate
  apply writeNat_kept
  assumption

theorem execArbiterReleaseFence_kept {base : Device} {acc} {s : State} (hs : Kept base s.dev) :
    KeptB base (execArbiterReleaseFence acc s) := by
  unfold execArbiterReleaseFence
  apply writeNat_kept
  assumption

theorem execArbiterStandDown_kept {base : Device} {acc} {s : State} (hs : Kept base s.dev) :
    KeptB base (execArbiterStandDown acc s) := by
  unfold execArbiterStandDown
  apply writeNat_kept
  assumption

theorem execArbiterSurvive_kept {base : Device} {acc} {s : State} (hs : Kept base s.dev) :
    KeptB base (execArbiterSurvive acc s) := by
  unfold execArbiterSurvive
  apply writeNat_kept
  assumption

theorem execHoldupTest_kept {base : Device} {acc} {s : State} (hs : Kept base s.dev) :
    KeptB base (execHoldupTest acc s) := by
  unfold execHoldupTest
  apply writeNat_kept
  assumption

theorem execWakeFromPs4_kept {base : Device} {acc} {s : State} (hs : Kept base s.dev) :
    KeptB base (execWakeFromPs4 acc s) := by
  unfold execWakeFromPs4
  apply writeNat_kept
  assumption

theorem execEnterPs4_kept {base : Device} {acc} {s : State} (hs : Kept base s.dev) :
    KeptB base (execEnterPs4 acc s) := by
  unfold execEnterPs4
  apply writeNat_kept
  assumption

theorem execPowerStateRequest_kept {base : Device} {acc} {v} {s : State} (hs : Kept base s.dev) :
    KeptB base (execPowerStateRequest acc v s) := by
  unfold execPowerStateRequest
  apply writeNat_kept
  assumption

theorem execCaptureModeWrite_kept {base : Device} {acc} {port} {v} {s : State} (hs : Kept base s.dev) :
    KeptB base (execCaptureModeWrite acc port v s) := by
  unfold execCaptureModeWrite
  apply writeNat_kept
  assumption

theorem execPreferredMapWrite_kept {base : Device} {acc} {group} {v} {s : State} (hs : Kept base s.dev) :
    KeptB base (execPreferredMapWrite acc group v s) := by
  unfold execPreferredMapWrite
  apply writeNat_kept
  assumption

theorem execCommitPeriodWrite_kept {base : Device} {acc} {v} {s : State} (hs : Kept base s.dev) :
    KeptB base (execCommitPeriodWrite acc v s) := by
  unfold execCommitPeriodWrite
  apply writeNat_kept
  assumption

theorem execBoardEntryWrite_kept {base : Device} {acc} {v} {s : State} (hs : Kept base s.dev) :
    KeptB base (execBoardEntryWrite acc v s) := by
  unfold execBoardEntryWrite
  apply writeRow_kept
  assumption

theorem execStripeClassWrite_kept {base : Device} {acc} {cls} {v} {s : State} (hs : Kept base s.dev) :
    KeptB base (execStripeClassWrite acc cls v s) := by
  unfold execStripeClassWrite
  apply writeRow_kept
  assumption

theorem execSearchEntryWrite_kept {base : Device} {acc} {v} {s : State} (hs : Kept base s.dev) :
    KeptB base (execSearchEntryWrite acc v s) := by
  unfold execSearchEntryWrite
  apply writeRow_kept
  assumption

theorem execPartitionTableWrite_kept {base : Device} {acc} {n} {v} {s : State} (hs : Kept base s.dev) :
    KeptB base (execPartitionTableWrite acc n v s) := by
  unfold execPartitionTableWrite
  apply writeRow_kept
  assumption

theorem execDedupBindingWrite_kept {base : Device} {acc} {tenants} {v} {s : State} (hs : Kept base s.dev) :
    KeptB base (execDedupBindingWrite acc tenants v s) := by
  unfold execDedupBindingWrite
  apply writeRow_kept
  assumption

theorem execNamespaceRecordWrite_kept {base : Device} {acc} {v} {s : State} (hs : Kept base s.dev) :
    KeptB base (execNamespaceRecordWrite acc v s) := by
  unfold execNamespaceRecordWrite
  apply writeRow_kept
  assumption

theorem execLostStripeClear_kept {base : Device} {acc} {s : State} (hs : Kept base s.dev) :
    KeptB base (execLostStripeClear acc s) := by
  unfold execLostStripeClear
  apply writeNat_kept
  assumption

theorem execPolicyGroupAbort_kept {base : Device} {acc} {part} {s : State} (hs : Kept base s.dev) :
    KeptB base (execPolicyGroupAbort acc part s) := by
  unfold execPolicyGroupAbort
  apply writeNat_kept
  assumption

theorem execPolicyGroupCommit_kept {base : Device} {acc} {part} {s : State} (hs : Kept base s.dev) :
    KeptB base (execPolicyGroupCommit acc part s) := by
  unfold execPolicyGroupCommit
  apply writeNat_kept
  assumption

theorem slotWrite_kept {base : Device} {acc} {cmd} {slot} {tenant} {s : State} (hs : Kept base s.dev) :
    KeptB base (slotWrite acc cmd slot tenant s) := by
  unfold slotWrite
  apply writeNat_kept
  assumption

theorem execReload_kept {base : Device} {acc} {slot} {tenant} {s : State} (hs : Kept base s.dev) :
    KeptB base (execReload acc slot tenant s) := by
  unfold execReload
  apply slotWrite_kept
  assumption

theorem execEraseTenant_kept {base : Device} {acc} {slot} {tenant} {s : State} (hs : Kept base s.dev) :
    KeptB base (execEraseTenant acc slot tenant s) := by
  unfold execEraseTenant
  apply slotWrite_kept
  assumption

theorem execRetire_kept {base : Device} {acc} {slot} {tenant} {s : State} (hs : Kept base s.dev) :
    KeptB base (execRetire acc slot tenant s) := by
  unfold execRetire
  apply slotWrite_kept
  assumption

theorem execGenerate_kept {base : Device} {acc} {slot} {tenant} {s : State} (hs : Kept base s.dev) :
    KeptB base (execGenerate acc slot tenant s) := by
  unfold execGenerate
  apply slotWrite_kept
  assumption

theorem execGearTableFillFactory_kept {base : Device} {acc} {s : State} (hs : Kept base s.dev) :
    KeptB base (execGearTableFillFactory acc s) := by
  unfold execGearTableFillFactory
  apply writeNat_kept
  assumption

theorem execGearTableActivate_kept {base : Device} {acc} {s : State} (hs : Kept base s.dev) :
    KeptB base (execGearTableActivate acc s) := by
  unfold execGearTableActivate
  apply writeNat_kept
  assumption

theorem execSessionClose_kept {base : Device} {acc} {s : State} (hs : Kept base s.dev) :
    KeptB base (execSessionClose acc s) := by
  unfold execSessionClose
  apply writeNat_kept
  assumption

theorem execSessionResponse_kept {base : Device} {acc} {sig} {s : State} (hs : Kept base s.dev) :
    KeptB base (execSessionResponse acc sig s) := by
  unfold execSessionResponse
  apply writeRow_kept
  assumption

theorem execWindowSelectWrite_kept {base : Device} {acc} {idx} {n} {s : State} (hs : Kept base s.dev) :
    KeptB base (execWindowSelectWrite acc idx n s) := by
  unfold execWindowSelectWrite
  apply writeNat_kept
  assumption

theorem execRestoreAllDefaults_kept {base : Device} {acc} {v} {s : State} (hs : Kept base s.dev) :
    KeptB base (execRestoreAllDefaults acc v s) := by
  unfold execRestoreAllDefaults
  apply writeNat_kept
  assumption

theorem execDictionaryWrite_kept {base : Device} {acc} {idx} {sub} {v} {s : State} (hs : Kept base s.dev) :
    KeptB base (execDictionaryWrite acc idx sub v s) := by
  unfold execDictionaryWrite
  apply writeRow_kept
  assumption

theorem execSnapshotDeleteWrite_kept {base : Device} {acc} {n} {s : State} (hs : Kept base s.dev) :
    KeptB base (execSnapshotDeleteWrite acc n s) := by
  unfold execSnapshotDeleteWrite
  apply writeNat_kept
  assumption

end Sys2Proof.Machine
end

