-- ==== Sys2Proof/Laws/KeptL.lean ====
section
/-! SUPPORT. What no operation of DictCmd, AdminInfo, AdminArrive, Can, Idle takes back: `Kept` through each. -/

namespace Sys2Proof.Machine

/-! ## DictCmd -/

theorem setAssociation_kept {base : Device} {q} {c} {d : Device} (hd : Kept base d) :
    Kept base (setAssociation q c d) := by
  unfold setAssociation
  lift_lets
  intro v1
  clear_value v1
  intro v2
  clear_value v2
  intro v3 v4
  clear_value v4
  split
  · apply completeSt_kept
    assumption
  · split
    · apply completeSt_kept
      assumption
    · split
      · split
        · apply completeSt_kept
          assumption
        · split
          · apply completeSt_kept
            assumption
          · apply complete_kept
            unfold v3
            apply onAssoc_kept
            assumption
      · split
        · apply completeSt_kept
          unfold v3
          apply onAssoc_kept
          assumption
        · split
          · apply completeSt_kept
            unfold v3
            apply onAssoc_kept
            assumption
          · apply completeSt_kept
            assumption

theorem parameterWrite_kept {base : Device} {q} {c} {d : Device} (hd : Kept base d) :
    Kept base (parameterWrite q c d) := by
  unfold parameterWrite
  lift_lets
  intro v1
  clear_value v1
  intro v2
  clear_value v2
  intro v3
  clear_value v3
  intro v4
  clear_value v4
  intro v5
  clear_value v5
  intro v6 v7
  clear_value v7
  intro v8
  have h9 : Kept base v8 := by
    unfold v8
    split
    · apply endAssembly_kept
      assumption
    · assumption
  clear_value v8
  intro v10
  have h11 : Kept base v10 := by
    unfold v10
    apply touchIf_kept
    assumption
  clear_value v10
  intro v12
  clear_value v12
  intro v13
  clear_value v13
  intro v14
  clear_value v14
  intro v15
  have h16 : Kept base v15 := by
    unfold v15
    apply endAssembly_kept
    assumption
  clear_value v15
  intro v17
  clear_value v17
  split
  · unfold v6
    apply answer_kept
    assumption
  · split
    · apply completeSt_kept
      assumption
    · split
      · apply completeSt_kept
        assumption
      · split
        · rename_i e18 e19 e20 e21 e22 e23
          unfold v6
          apply answer_kept
          assumption
        · split
          · unfold v6
            apply answer_kept
            assumption
          · apply answer_kept
            refine Kept.mk_eq rfl rfl rfl rfl rfl rfl rfl rfl ?_
            assumption
          · apply answerWrite_kept
            apply odWrite_kept
            assumption

theorem domainPart_kept {base : Device} {acc} {idx} {sub} {off} {len} {v} {d : Device} (hd : Kept base d) :
    KeptP base (domainPart acc idx sub off len v d) := by
  unfold domainPart
  lift_lets
  intro v1 v2
  clear_value v2
  intro v3
  clear_value v3
  intro v4
  clear_value v4
  intro v5
  split
  · apply KeptP.mk
    unfold v5
    refine Kept.mk_eq rfl rfl rfl rfl rfl rfl rfl rfl ?_
    assumption
  · apply KeptP.mk
    unfold v5
    refine Kept.mk_eq rfl rfl rfl rfl rfl rfl rfl rfl ?_
    assumption

theorem parameterRead_kept {base : Device} {q} {c} {d : Device} (hd : Kept base d) :
    Kept base (parameterRead q c d) := by
  unfold parameterRead
  lift_lets
  intro v1
  clear_value v1
  intro v2
  clear_value v2
  intro v3
  clear_value v3
  intro v4
  clear_value v4
  intro v5
  clear_value v5
  intro v6
  clear_value v6
  intro v7
  split
  · unfold v7
    apply answer_kept
    assumption
  · split
    · apply completeSt_kept
      assumption
    · split
      · unfold v7
        apply answer_kept
        assumption
      · rename_i e8 e9 e10 e11 e12
        split
        · rename_i e13 e14 e15
          unfold v7
          apply answer_kept
          assumption
        · split
          · unfold v7
            apply answer_kept
            assumption
          · split
            · unfold v7
              apply answer_kept
              assumption
            · rename_i e16 e17 e18 e19 e20 e21 e22
              split
              · split
                · rename_i e23 e24 e25 e26 e27
                  unfold v7
                  apply answer_kept
                  refine KeptP.pair e27 ?_
                  apply domainPart_kept
                  refine KeptE.out (r := (_, _)) e22 ?_
                  apply odRead_kept
                  assumption
                · rename_i e28 e29 e30 e31
                  unfold v7
                  apply answer_kept
                  refine KeptP.pair e31 ?_
                  apply domainPart_kept
                  refine KeptE.out (r := (_, _)) e22 ?_
                  apply odRead_kept
                  assumption
              · unfold v7
                apply answer_kept
                refine KeptE.out (r := (_, _)) e22 ?_
                apply odRead_kept
                assumption

theorem getEntry_kept {base : Device} {q} {cid} {idx} {sub} {select} {data} {d : Device} (hd : Kept base d) :
    Kept base (getEntry q cid idx sub select data d) := by
  unfold getEntry
  split
  · apply complete_kept
    assumption
  · split
    · rename_i e1 e2 e3 e4
      apply complete_kept
      assumption
    · apply completeSt_kept
      assumption

theorem getFeatures_kept {base : Device} {q} {c} {y2} {d : Device} (hd : Kept base d) :
    Kept base (getFeatures q c y2 d) := by
  unfold getFeatures
  lift_lets
  intro v1
  clear_value v1
  intro v2
  clear_value v2
  intro v3
  clear_value v3
  intro v4
  split
  · apply completeSt_kept
    assumption
  · split
    · apply getEntry_kept
      assumption
    · apply getEntry_kept
      assumption
    · split
      · apply completeSt_kept
        assumption
      · rename_i e5 e6 e7 e8 e9
        apply getEntry_kept
        assumption
    · apply getEntry_kept
      assumption
    · split
      · apply completeSt_kept
        assumption
      · apply complete_kept
        assumption
    · unfold v4
      apply complete_kept
      assumption
    · unfold v4
      apply complete_kept
      assumption
    · unfold v4
      apply complete_kept
      assumption
    · apply completeSt_kept
      assumption

theorem setEntries_kept {base : Device} {q cid l} {d : Device} (hd : Kept base d) : Kept base (setEntries q cid l d) := by
  induction l generalizing d with
  | nil => exact completeSt_kept hd
  | cons x rest ih =>
    obtain ⟨idx, sub, v⟩ := x
    unfold setEntries
    have hw : KeptR base (odWrite (.inband q.port) (.completion q cid 0) idx sub v d) := odWrite_kept hd
    split
    · rename_i h; exact completeSt_kept (KeptR.outFail h hw)
    · rename_i h; exact ih (KeptR.outDone h hw)
    · rename_i h; exact KeptR.outHeld h hw

theorem setFeature_kept {base : Device} {q} {c} {need} {entries} {d : Device} (hd : Kept base d) :
    Kept base (setFeature q c need entries d) := by
  unfold setFeature
  split
  · apply completeSt_kept
    assumption
  · split
    · apply completeSt_kept
      assumption
    · apply setEntries_kept
      assumption

theorem setApst_kept {base : Device} {q} {c} {d : Device} (hd : Kept base d) :
    Kept base (setApst q c d) := by
  unfold setApst
  lift_lets
  intro v1 v2
  clear_value v2
  intro v3
  clear_value v3
  split
  · apply completeSt_kept
    assumption
  · split
    · apply completeSt_kept
      assumption
    · split
      · apply completeSt_kept
        assumption
      · apply setFeature_kept
        assumption

theorem setThreshold_kept {base : Device} {q} {c} {d : Device} (hd : Kept base d) :
    Kept base (setThreshold q c d) := by
  unfold setThreshold
  split
  · apply completeSt_kept
    assumption
  · split
    · apply completeSt_kept
      assumption
    · rename_i e1 e2 e3 e4
      apply setFeature_kept
      assumption

theorem setPower_kept {base : Device} {q} {c} {d : Device} (hd : Kept base d) :
    Kept base (setPower q c d) := by
  unfold setPower
  lift_lets
  intro v1
  clear_value v1
  split
  · apply completeSt_kept
    assumption
  · split
    · apply completeSt_kept
      assumption
    · split
      · apply completeSt_kept
        assumption
      · apply setFeature_kept
        assumption

theorem setArbitration_kept {base : Device} {q} {c} {y2 : Device} (hy2 : Kept base y2) :
    Kept base (setArbitration q c y2) := by
  unfold setArbitration
  apply setFeature_kept
  assumption

theorem execParameterWrite_kept {base : Device} {q} {c} {s : State} (hs : Kept base s.dev) :
    KeptB base (execParameterWrite q c s) := by
  unfold execParameterWrite
  apply next_keptB
  · intro x1 h2
    apply adminCmd_kept
    · intro x3 x4 h5
      apply parameterWrite_kept
      assumption
    · assumption
  · assumption

theorem execParameterRead_kept {base : Device} {q} {c} {s : State} (hs : Kept base s.dev) :
    KeptB base (execParameterRead q c s) := by
  unfold execParameterRead
  apply next_keptB
  · intro x1 h2
    apply adminCmd_kept
    · intro x3 x4 h5
      apply parameterRead_kept
      assumption
    · assumption
  · assumption

theorem execGetFeatures_kept {base : Device} {q} {c} {s : State} (hs : Kept base s.dev) :
    KeptB base (execGetFeatures q c s) := by
  unfold execGetFeatures
  apply next_keptB
  · intro x1 h2
    apply adminCmd_kept
    · intro x3 x4 h5
      apply getFeatures_kept
      assumption
    · assumption
  · assumption

theorem execSetFeaturesAssociation_kept {base : Device} {q} {c} {s : State} (hs : Kept base s.dev) :
    KeptB base (execSetFeaturesAssociation q c s) := by
  unfold execSetFeaturesAssociation
  apply next_keptB
  · intro x1 h2
    apply adminCmd_kept
    · intro x3 x4 h5
      apply setAssociation_kept
      assumption
    · assumption
  · assumption

theorem execSetFeaturesApst_kept {base : Device} {q} {c} {s : State} (hs : Kept base s.dev) :
    KeptB base (execSetFeaturesApst q c s) := by
  unfold execSetFeaturesApst
  apply next_keptB
  · intro x1 h2
    apply adminCmd_kept
    · intro x3 x4 h5
      apply setApst_kept
      assumption
    · assumption
  · assumption

theorem execSetFeaturesTemperatureThreshold_kept {base : Device} {q} {c} {s : State} (hs : Kept base s.dev) :
    KeptB base (execSetFeaturesTemperatureThreshold q c s) := by
  unfold execSetFeaturesTemperatureThreshold
  apply next_keptB
  · intro x1 h2
    apply adminCmd_kept
    · intro x3 x4 h5
      apply setThreshold_kept
      assumption
    · assumption
  · assumption

theorem execSetFeaturesPowerManagement_kept {base : Device} {q} {c} {s : State} (hs : Kept base s.dev) :
    KeptB base (execSetFeaturesPowerManagement q c s) := by
  unfold execSetFeaturesPowerManagement
  apply next_keptB
  · intro x1 h2
    apply adminCmd_kept
    · intro x3 x4 h5
      apply setPower_kept
      assumption
    · assumption
  · assumption

theorem execSetFeaturesArbitration_kept {base : Device} {q} {c} {s : State} (hs : Kept base s.dev) :
    KeptB base (execSetFeaturesArbitration q c s) := by
  unfold execSetFeaturesArbitration
  apply next_keptB
  · intro x1 h2
    apply adminCmd_kept
    · intro x3 x4 h5
      apply setArbitration_kept
      assumption
    · assumption
  · assumption

/-! ## AdminInfo -/

theorem eventRequest_kept {base : Device} {q} {c} {y2} {d : Device} (hd : Kept base d) :
    Kept base (eventRequest q c y2 d) := by
  unfold eventRequest
  split
  · apply completeSt_kept
    assumption
  · lift_lets
    intro v1
    clear_value v1
    intro v2
    have h3 : Kept base v2 := by
      unfold v2
      apply onAssoc_kept
      assumption
    clear_value v2
    split
    · rename_i e4 e5 e6 e7
      apply complete_kept
      assumption
    · assumption

theorem identify_kept {base : Device} {q} {c} {y2} {d : Device} (hd : Kept base d) :
    Kept base (identify q c y2 d) := by
  unfold identify
  lift_lets
  intro v1
  clear_value v1
  intro v2
  clear_value v2
  intro v3
  clear_value v3
  intro v4
  clear_value v4
  intro v5
  split
  · unfold v5
    apply complete_kept
    assumption
  · unfold v5
    apply complete_kept
    assumption
  · split
    · apply completeSt_kept
      assumption
    · unfold v5
      apply complete_kept
      assumption
  · split
    · unfold v5
      apply complete_kept
      assumption
    · apply completeSt_kept
      assumption
  · split
    · apply completeSt_kept
      assumption
    · unfold v5
      apply complete_kept
      assumption
  · split
    · unfold v5
      apply complete_kept
      assumption
    · apply completeSt_kept
      assumption
  · unfold v5
    apply complete_kept
    assumption
  · apply completeSt_kept
    assumption

theorem getLogPage_kept {base : Device} {q} {c} {y2} {d : Device} (hd : Kept base d) :
    Kept base (getLogPage q c y2 d) := by
  unfold getLogPage
  lift_lets
  intro v1
  clear_value v1
  intro v2
  clear_value v2
  intro v3
  clear_value v3
  split
  · apply longResults_kept
    assumption
  · split
    · apply completeSt_kept
      assumption
    · split
      · apply completeSt_kept
        assumption
      · rename_i e4 e5 e6 e7 e8 e9 e10
        lift_lets
        intro v11
        have h12 : Kept base v11 := by
          unfold v11
          apply complete_kept
          assumption
        clear_value v11
        split
        · apply completeSt_kept
          assumption
        · split
          · assumption
          · apply aenClear_kept
            assumption

theorem execAsynchronousEventRequest_kept {base : Device} {q} {c} {s : State} (hs : Kept base s.dev) :
    KeptB base (execAsynchronousEventRequest q c s) := by
  unfold execAsynchronousEventRequest
  apply next_keptB
  · intro x1 h2
    apply adminCmd_kept
    · intro x3 x4 h5
      apply eventRequest_kept
      assumption
    · assumption
  · assumption

theorem execAbort_kept {base : Device} {q} {c} {s : State} (hs : Kept base s.dev) :
    KeptB base (execAbort q c s) := by
  unfold execAbort
  apply next_keptB
  · intro x1 h2
    apply adminCmd_kept
    · intro x3 x4 h5
      apply complete_kept
      assumption
    · assumption
  · assumption

theorem execIdentify_kept {base : Device} {q} {c} {s : State} (hs : Kept base s.dev) :
    KeptB base (execIdentify q c s) := by
  unfold execIdentify
  apply next_keptB
  · intro x1 h2
    apply adminCmd_kept
    · intro x3 x4 h5
      apply identify_kept
      assumption
    · assumption
  · assumption

theorem execGetLogPage_kept {base : Device} {q} {c} {s : State} (hs : Kept base s.dev) :
    KeptB base (execGetLogPage q c s) := by
  unfold execGetLogPage
  apply next_keptB
  · intro x1 h2
    apply adminCmd_kept
    · intro x3 x4 h5
      apply getLogPage_kept
      assumption
    · assumption
  · assumption

/-! ## AdminArrive -/

theorem snapshots_kept {base : Device} {q} {c} {d : Device} (hd : Kept base d) :
    Kept base (snapshots q c d) := by
  unfold snapshots
  split
  · apply createCmd_kept
    assumption
  · apply deleteCmd_kept
    assumption
  · split
    · apply completeSt_kept
      assumption
    · apply completeSt_kept
      assumption

theorem longStarts_kept {base : Device} {q} {c} {d : Device} (hd : Kept base d) :
    Kept base (longStarts q c d) := by
  unfold longStarts
  split
  · apply startPlain_kept
    assumption
  · apply startPlain_kept
    assumption
  · apply startReplication_kept
    assumption
  · apply startPlain_kept
    assumption
  · apply startPlain_kept
    assumption
  · apply startPlain_kept
    assumption
  · apply completeSt_kept
    assumption

theorem sanitizes_kept {base : Device} {q} {c} {d : Device} (hd : Kept base d) :
    Kept base (sanitizes q c d) := by
  unfold sanitizes
  split
  · apply exitFailureMode_kept
    assumption
  · apply startSanitize_kept
    assumption
  · apply startSanitize_kept
    assumption
  · split
    · apply completeSt_kept
      assumption
    · apply completeSt_kept
      assumption

theorem propertyGet_kept {base : Device} {q} {c} {y2} {d : Device} (hd : Kept base d) :
    Kept base (propertyGet q c y2 d) := by
  unfold propertyGet
  lift_lets
  intro v1
  split
  · unfold v1
    apply complete_kept
    assumption
  · unfold v1
    apply complete_kept
    assumption
  · unfold v1
    apply complete_kept
    assumption
  · unfold v1
    apply complete_kept
    assumption
  · apply completeSt_kept
    assumption

theorem fabrics_kept {base : Device} {q} {c} {y2} {d : Device} (hd : Kept base d) :
    Kept base (fabrics q c y2 d) := by
  unfold fabrics
  split
  · apply propertySet_kept
    assumption
  · apply completeSt_kept
    assumption
  · apply propertyGet_kept
    assumption
  · apply completeSt_kept
    assumption

theorem selfTests_kept {base : Device} {q} {c} {d : Device} (hd : Kept base d) :
    Kept base (selfTests q c d) := by
  unfold selfTests
  split
  · apply startSelfTest_kept
    assumption
  · apply startSelfTest_kept
    assumption
  · apply abortSelfTest_kept
    assumption
  · split
    · apply completeSt_kept
      assumption
    · apply completeSt_kept
      assumption

theorem firmwareCommits_kept {base : Device} {q} {c} {d : Device} (hd : Kept base d) :
    Kept base (firmwareCommits q c d) := by
  unfold firmwareCommits
  split
  · apply commitDelta_kept
    assumption
  · apply commitDelta_kept
    assumption
  · apply commitPending_kept
    assumption
  · apply firmwareCommit_kept
    · intro x1 x2 h3
      apply KeptP.mk
      assumption
    · assumption

theorem setFeatures_kept {base : Device} {q} {c} {d : Device} (hd : Kept base d) :
    Kept base (setFeatures q c d) := by
  unfold setFeatures
  split
  · apply setArbitration_kept
    assumption
  · apply setPower_kept
    assumption
  · apply setThreshold_kept
    assumption
  · apply setApst_kept
    assumption
  · apply setAssociation_kept
    assumption

theorem adminDo_kept {base : Device} {q} {c} {y2} {d : Device} (hd : Kept base d) :
    Kept base (adminDo q c y2 d) := by
  unfold adminDo
  split
  · apply getLogPage_kept
    assumption
  · apply identify_kept
    assumption
  · apply complete_kept
    assumption
  · apply setFeatures_kept
    assumption
  · apply getFeatures_kept
    assumption
  · apply eventRequest_kept
    assumption
  · apply firmwareCommits_kept
    assumption
  · apply firmwareDownload_kept
    assumption
  · apply selfTests_kept
    assumption
  · apply keepAlive_kept
    assumption
  · apply fabrics_kept
    assumption
  · apply sanitizes_kept
    assumption
  · apply parameterRead_kept
    assumption
  · apply parameterWrite_kept
    assumption
  · apply longStarts_kept
    assumption
  · apply releaseSlot_kept
    assumption
  · apply snapshots_kept
    assumption
  · apply completeSt_kept
    assumption

theorem adminArrive_kept {base : Device} {q} {c} {d : Device} (hd : Kept base d) :
    Kept base (adminArrive q c d) := by
  unfold adminArrive
  apply adminCmd_kept
  · intro x1 x2 h3
    apply adminDo_kept
    assumption
  · assumption

theorem frameReceive_kept {base : Device} {p} {f} {d : Device} (hd : Kept base d) :
    Kept base (frameReceive p f d) := by
  unfold frameReceive
  lift_lets
  intro v1
  have h2 : KeptP base v1 := by
    unfold v1
    apply frameTaken_kept
    assumption
  clear_value v1
  split
  · rename_i e3 e4 e5 e6
    split
    · split
      · apply adminArrive_kept
        apply KeptP.snd
        assumption
      · apply ioArrive_kept
        apply KeptP.snd
        assumption
    · apply KeptP.snd
      assumption
  · apply KeptP.snd
    assumption

theorem execFrameReceive_kept {base : Device} {port} {f} {s : State} (hs : Kept base s.dev) :
    KeptB base (execFrameReceive port f s) := by
  unfold execFrameReceive
  apply next_keptB
  · intro x1 h2
    apply frameReceive_kept
    assumption
  · assumption

/-! ## Can -/

theorem execCanErrorPassive_kept {base : Device} {enter} {s : State} (hs : Kept base s.dev) :
    KeptB base (execCanErrorPassive enter s) := by
  unfold execCanErrorPassive
  apply next_keptB
  · intro x1 h2
    split
    · refine Kept.mk_eq rfl rfl rfl rfl rfl rfl rfl rfl ?_
      assumption
    · assumption
  · assumption

theorem execInstructionFetchRefused_kept {base : Device} {initiator} {addr} {s : State} (hs : Kept base s.dev) :
    KeptB base (execInstructionFetchRefused initiator addr s) := by
  unfold execInstructionFetchRefused
  apply next_keptB
  · intro x1 h2
    split
    · apply declareFatal_kept
      apply worldViolation_kept
      assumption
    · assumption
  · assumption

theorem execWorldViolation_kept {base : Device} {initiator} {addr} {s : State} (hs : Kept base s.dev) :
    KeptB base (execWorldViolation initiator addr s) := by
  unfold execWorldViolation
  apply next_keptB
  · intro x1 h2
    split
    · apply worldViolation_kept
      assumption
    · assumption
  · assumption

theorem sendTpdo_kept {base : Device} {n} {d : Device} (hd : Kept base d) :
    Kept base (sendTpdo n d) := by
  unfold sendTpdo
  lift_lets
  intro v1
  clear_value v1
  intro v2
  clear_value v2
  apply emit_kept
  refine Kept.mk_eq rfl rfl rfl rfl rfl rfl rfl rfl ?_
  assumption

theorem execTpdoChangeSend_kept {base : Device} {n} {s : State} (hs : Kept base s.dev) :
    KeptB base (execTpdoChangeSend n s) := by
  unfold execTpdoChangeSend
  apply next_keptB
  · intro x1 h2
    split
    · assumption
    · apply sendTpdo_kept
      apply waitUntil_kept
      assumption
  · assumption

theorem execTpdoEventTimer_kept {base : Device} {n} {s : State} (hs : Kept base s.dev) :
    KeptB base (execTpdoEventTimer n s) := by
  unfold execTpdoEventTimer
  apply next_keptB
  · intro x1 h2
    lift_lets
    intro v3
    clear_value v3
    split
    · assumption
    · apply sendTpdo_kept
      apply waitUntil_kept
      assumption
  · assumption

theorem execCanReceiveOverrun_kept {base : Device} {s : State} (hs : Kept base s.dev) :
    KeptB base (execCanReceiveOverrun s) := by
  unfold execCanReceiveOverrun
  apply next_keptB
  · intro x1 h2
    split
    · apply sendEmcy_kept
      assumption
    · assumption
  · assumption

theorem execEmcyInhibitExpiry_kept {base : Device} {s : State} (hs : Kept base s.dev) :
    KeptB base (execEmcyInhibitExpiry s) := by
  unfold execEmcyInhibitExpiry
  apply next_keptB
  · intro x1 h2
    split
    · assumption
    · split
      · assumption
      · lift_lets
        intro v3
        have h4 : Kept base v3 := by
          unfold v3
          apply waitUntil_kept
          assumption
        clear_value v3
        intro v5
        clear_value v5
        apply logDrops_kept
        apply transmitEmcy_kept
        refine Kept.mk_eq rfl rfl rfl rfl rfl rfl rfl rfl ?_
        assumption
  · assumption

theorem execHeartbeatConsumerTimeout_kept {base : Device} {s : State} (hs : Kept base s.dev) :
    KeptB base (execHeartbeatConsumerTimeout s) := by
  unfold execHeartbeatConsumerTimeout
  apply next_keptB
  · intro x1 h2
    split
    · assumption
    · lift_lets
      intro v3
      have h4 : Kept base v3 := by
        unfold v3
        apply waitUntil_kept
        assumption
      clear_value v3
      intro v5
      clear_value v5
      intro v6
      have h7 : Kept base v6 := by
        unfold v6
        apply logEvent_kept
        refine Kept.mk_eq rfl rfl rfl rfl rfl rfl rfl rfl ?_
        assumption
      clear_value v6
      apply raiseEmcy_kept
      assumption
  · assumption

theorem execHeartbeatConsumerReceive_kept {base : Device} {node} {s : State} (hs : Kept base s.dev) :
    KeptB base (execHeartbeatConsumerReceive node s) := by
  unfold execHeartbeatConsumerReceive
  apply next_keptB
  · intro x1 h2
    split
    · assumption
    · lift_lets
      intro v3
      clear_value v3
      intro v4
      clear_value v4
      intro v5
      have h6 : Kept base v5 := by
        unfold v5
        refine Kept.mk_eq rfl rfl rfl rfl rfl rfl rfl rfl ?_
        assumption
      clear_value v5
      split
      · apply clearEmcy_kept
        apply logEvent_kept
        assumption
      · assumption
  · assumption

theorem execHeartbeatProduce_kept {base : Device} {s : State} (hs : Kept base s.dev) :
    KeptB base (execHeartbeatProduce s) := by
  unfold execHeartbeatProduce
  apply next_keptB
  · intro x1 h2
    split
    · assumption
    · lift_lets
      intro v3
      have h4 : Kept base v3 := by
        unfold v3
        apply waitUntil_kept
        assumption
      clear_value v3
      intro v5
      clear_value v5
      apply emit_kept
      refine Kept.mk_eq rfl rfl rfl rfl rfl rfl rfl rfl ?_
      assumption
  · assumption

theorem reloadCommunication_kept {base : Device} {d : Device} (hd : Kept base d) :
    Kept base (reloadCommunication d) := by
  unfold reloadCommunication
  lift_lets
  intro v1
  clear_value v1
  intro v2
  clear_value v2
  intro v3
  clear_value v3
  refine Kept.mk_eq rfl rfl rfl rfl rfl rfl rfl rfl ?_
  assumption

theorem resetCommunication_kept {base : Device} {d : Device} (hd : Kept base d) :
    Kept base (resetCommunication d) := by
  unfold resetCommunication
  lift_lets
  intro v1
  have h2 : Kept base v1 := by
    unfold v1
    apply closeSessions_kept
    apply reloadCommunication_kept
    assumption
  clear_value v1
  intro v3
  clear_value v3
  apply emit_kept
  refine Kept.mk_eq rfl rfl rfl rfl rfl rfl rfl rfl ?_
  assumption

theorem nmtCommand_kept {base : Device} {node} {f} {s : State} (hf : ∀ w0, Kept base w0 → Kept base (f w0)) (hs : Kept base s.dev) :
    KeptB base (nmtCommand node f s) := by
  unfold nmtCommand
  apply next_keptB
  · intro x1 h2
    split
    · apply hf
      assumption
    · assumption
  · assumption

theorem execNmtResetNode_kept {base : Device} {node} {s : State} (hs : Kept base s.dev) :
    KeptB base (execNmtResetNode node s) := by
  unfold execNmtResetNode
  apply nmtCommand_kept
  · intro x1 h2
    apply resetCommunication_kept
    assumption
  · assumption

theorem execNmtResetCommunication_kept {base : Device} {node} {s : State} (hs : Kept base s.dev) :
    KeptB base (execNmtResetCommunication node s) := by
  unfold execNmtResetCommunication
  apply nmtCommand_kept
  · intro x1 h2
    apply resetCommunication_kept
    assumption
  · assumption

theorem toNmt_kept {base : Device} {x} {d : Device} (hd : Kept base d) :
    Kept base (toNmt x d) := by
  unfold toNmt
  refine Kept.mk_eq rfl rfl rfl rfl rfl rfl rfl rfl ?_
  assumption

theorem execNmtEnterPreOperational_kept {base : Device} {node} {s : State} (hs : Kept base s.dev) :
    KeptB base (execNmtEnterPreOperational node s) := by
  unfold execNmtEnterPreOperational
  apply nmtCommand_kept
  · intro x1 h2
    apply toNmt_kept
    assumption
  · assumption

theorem execNmtStop_kept {base : Device} {node} {s : State} (hs : Kept base s.dev) :
    KeptB base (execNmtStop node s) := by
  unfold execNmtStop
  apply nmtCommand_kept
  · intro x1 h2
    apply toNmt_kept
    assumption
  · assumption

theorem execNmtStart_kept {base : Device} {node} {s : State} (hs : Kept base s.dev) :
    KeptB base (execNmtStart node s) := by
  unfold execNmtStart
  apply nmtCommand_kept
  · intro x1 h2
    apply toNmt_kept
    assumption
  · assumption

theorem execCanUnsupportedMessage_kept {base : Device} {y0} {s : State} (hs : Kept base s.dev) :
    KeptB base (execCanUnsupportedMessage y0 s) := by
  unfold execCanUnsupportedMessage
  apply next_keptB
  · intro x1 h2
    unfold id
    assumption
  · assumption

theorem execUsdoUnsupportedRequest_kept {base : Device} {node} {s : State} (hs : Kept base s.dev) :
    KeptB base (execUsdoUnsupportedRequest node s) := by
  unfold execUsdoUnsupportedRequest
  apply next_keptB
  · intro x1 h2
    split
    · apply emit_kept
      assumption
    · assumption
  · assumption

theorem execUsdoSegmentTimeout_kept {base : Device} {node} {s : State} (hs : Kept base s.dev) :
    KeptB base (execUsdoSegmentTimeout node s) := by
  unfold execUsdoSegmentTimeout
  apply next_keptB
  · intro x1 h2
    split
    · assumption
    · apply emit_kept
      apply waitUntil_kept
      assumption
  · assumption

theorem usdo_kept {base : Device} {node} {idx} {sub} {f} {s : State} (hf : ∀ w0, Kept base w0 → Kept base (f w0)) (hs : Kept base s.dev) :
    KeptB base (usdo node idx sub f s) := by
  unfold usdo
  apply odRow_kept
  · intro x1 h2
    apply hf
    assumption
  · assumption

theorem execUsdoUpload_kept {base : Device} {node} {idx} {sub} {s : State} (hs : Kept base s.dev) :
    KeptB base (execUsdoUpload node idx sub s) := by
  unfold execUsdoUpload
  apply usdo_kept
  · intro x1 h2
    lift_lets
    intro v3
    clear_value v3
    split
    · apply answer_kept
      assumption
    · rename_i e4 e5 e6 e7
      split
      · apply answer_kept
        assumption
      · apply answer_kept
        refine KeptE.out (r := (_, _)) e7 ?_
        apply odRead_kept
        assumption
  · assumption

theorem execUsdoDownload_kept {base : Device} {node} {idx} {sub} {v} {s : State} (hs : Kept base s.dev) :
    KeptB base (execUsdoDownload node idx sub v s) := by
  unfold execUsdoDownload
  apply usdo_kept
  · intro x1 h2
    lift_lets
    intro v3
    clear_value v3
    split
    · apply answer_kept
      assumption
    · apply answerWrite_kept
      apply odWrite_kept
      apply endAssembly_kept
      assumption
  · assumption

/-! ## Idle -/

theorem idleCycle_kept {base : Device} {d : Device} (hd : Kept base d) : Kept base (idleCycle d) := by
  unfold idleCycle
  extract_lets d1
  have h1 : Kept base d1 := hd.trans ⟨by simp [d1, passCycles_now], List.prefix_refl _, id, .of_eq rfl⟩
  split
  · refine Kept.foldl (fun d x hx => flushPort_kept hx) ?_
    exact heartbeatDue_kept (pumpAll_kept (launchTick_kept h1))
  · exact h1

end Sys2Proof.Machine
end

