-- ==== Sys2Proof/Laws/State.lean ====
section
/-! SUPPORT. Each update of a device field by field, and what holds of the state after reset. -/

namespace Sys2Proof.Machine

/-! ## An output -/

@[simp] theorem emit_time (o : Output) (d : Device) : (emit o d).time = d.time := rfl
@[simp] theorem emit_board (o : Output) (d : Device) : (emit o d).board = d.board := rfl
@[simp] theorem emit_dict (o : Output) (d : Device) : (emit o d).dict = d.dict := rfl
@[simp] theorem emit_can (o : Output) (d : Device) : (emit o d).can = d.can := rfl
@[simp] theorem emit_ports (o : Output) (d : Device) : (emit o d).ports = d.ports := rfl
@[simp] theorem emit_admin (o : Output) (d : Device) : (emit o d).admin = d.admin := rfl
@[simp] theorem emit_nvme (o : Output) (d : Device) : (emit o d).nvme = d.nvme := rfl
@[simp] theorem emit_kv (o : Output) (d : Device) : (emit o d).kv = d.kv := rfl
@[simp] theorem emit_cam (o : Output) (d : Device) : (emit o d).cam = d.cam := rfl
@[simp] theorem emit_cipher (o : Output) (d : Device) : (emit o d).cipher = d.cipher := rfl
@[simp] theorem emit_stripe (o : Output) (d : Device) : (emit o d).stripe = d.stripe := rfl
@[simp] theorem emit_map (o : Output) (d : Device) : (emit o d).map = d.map := rfl
@[simp] theorem emit_media (o : Output) (d : Device) : (emit o d).media = d.media := rfl
@[simp] theorem emit_peer (o : Output) (d : Device) : (emit o d).peer = d.peer := rfl
@[simp] theorem emit_snap (o : Output) (d : Device) : (emit o d).snap = d.snap := rfl
@[simp] theorem emit_eng (o : Output) (d : Device) : (emit o d).eng = d.eng := rfl
@[simp] theorem emit_sec (o : Output) (d : Device) : (emit o d).sec = d.sec := rfl
@[simp] theorem emit_power (o : Output) (d : Device) : (emit o d).power = d.power := rfl
@[simp] theorem emit_fans (o : Output) (d : Device) : (emit o d).fans = d.fans := rfl
@[simp] theorem emit_fw (o : Output) (d : Device) : (emit o d).fw = d.fw := rfl
@[simp] theorem emit_side (o : Output) (d : Device) : (emit o d).side = d.side := rfl
@[simp] theorem emit_nodeId (o : Output) (d : Device) : (emit o d).nodeId = d.nodeId := rfl
@[simp] theorem emit_conditions (o : Output) (d : Device) : (emit o d).conditions = d.conditions := rfl
@[simp] theorem emit_out (o : Output) (d : Device) : (emit o d).out = d.out ++ [o] := rfl

/-! ## A dictionary value -/

@[simp] theorem odPutSel_time (idx sub sel v : Nat) (d : Device) : (odPutSel idx sub sel v d).time = d.time := rfl
@[simp] theorem odPutSel_board (idx sub sel v : Nat) (d : Device) : (odPutSel idx sub sel v d).board = d.board := rfl
@[simp] theorem odPutSel_can (idx sub sel v : Nat) (d : Device) : (odPutSel idx sub sel v d).can = d.can := rfl
@[simp] theorem odPutSel_ports (idx sub sel v : Nat) (d : Device) : (odPutSel idx sub sel v d).ports = d.ports := rfl
@[simp] theorem odPutSel_admin (idx sub sel v : Nat) (d : Device) : (odPutSel idx sub sel v d).admin = d.admin := rfl
@[simp] theorem odPutSel_nvme (idx sub sel v : Nat) (d : Device) : (odPutSel idx sub sel v d).nvme = d.nvme := rfl
@[simp] theorem odPutSel_kv (idx sub sel v : Nat) (d : Device) : (odPutSel idx sub sel v d).kv = d.kv := rfl
@[simp] theorem odPutSel_cam (idx sub sel v : Nat) (d : Device) : (odPutSel idx sub sel v d).cam = d.cam := rfl
@[simp] theorem odPutSel_cipher (idx sub sel v : Nat) (d : Device) : (odPutSel idx sub sel v d).cipher = d.cipher := rfl
@[simp] theorem odPutSel_stripe (idx sub sel v : Nat) (d : Device) : (odPutSel idx sub sel v d).stripe = d.stripe := rfl
@[simp] theorem odPutSel_map (idx sub sel v : Nat) (d : Device) : (odPutSel idx sub sel v d).map = d.map := rfl
@[simp] theorem odPutSel_media (idx sub sel v : Nat) (d : Device) : (odPutSel idx sub sel v d).media = d.media := rfl
@[simp] theorem odPutSel_peer (idx sub sel v : Nat) (d : Device) : (odPutSel idx sub sel v d).peer = d.peer := rfl
@[simp] theorem odPutSel_snap (idx sub sel v : Nat) (d : Device) : (odPutSel idx sub sel v d).snap = d.snap := rfl
@[simp] theorem odPutSel_eng (idx sub sel v : Nat) (d : Device) : (odPutSel idx sub sel v d).eng = d.eng := rfl
@[simp] theorem odPutSel_sec (idx sub sel v : Nat) (d : Device) : (odPutSel idx sub sel v d).sec = d.sec := rfl
@[simp] theorem odPutSel_power (idx sub sel v : Nat) (d : Device) : (odPutSel idx sub sel v d).power = d.power := rfl
@[simp] theorem odPutSel_fans (idx sub sel v : Nat) (d : Device) : (odPutSel idx sub sel v d).fans = d.fans := rfl
@[simp] theorem odPutSel_fw (idx sub sel v : Nat) (d : Device) : (odPutSel idx sub sel v d).fw = d.fw := rfl
@[simp] theorem odPutSel_side (idx sub sel v : Nat) (d : Device) : (odPutSel idx sub sel v d).side = d.side := rfl
@[simp] theorem odPutSel_nodeId (idx sub sel v : Nat) (d : Device) : (odPutSel idx sub sel v d).nodeId = d.nodeId := rfl
@[simp] theorem odPutSel_conditions (idx sub sel v : Nat) (d : Device) : (odPutSel idx sub sel v d).conditions = d.conditions := rfl
@[simp] theorem odPutSel_out (idx sub sel v : Nat) (d : Device) : (odPutSel idx sub sel v d).out = d.out := rfl
@[simp] theorem odPutSel_dict_nvA (idx sub sel v : Nat) (d : Device) : (odPutSel idx sub sel v d).dict.nvA = d.dict.nvA := rfl
@[simp] theorem odPutSel_dict_nvB (idx sub sel v : Nat) (d : Device) : (odPutSel idx sub sel v d).dict.nvB = d.dict.nvB := rfl
@[simp] theorem odPutSel_dict_nvWorks (idx sub sel v : Nat) (d : Device) : (odPutSel idx sub sel v d).dict.nvWorks = d.dict.nvWorks := rfl
@[simp] theorem odPutSel_dict_restoreMarked (idx sub sel v : Nat) (d : Device) : (odPutSel idx sub sel v d).dict.restoreMarked = d.dict.restoreMarked := rfl
@[simp] theorem odPutSel_dict_cursors (idx sub sel v : Nat) (d : Device) : (odPutSel idx sub sel v d).dict.cursors = d.dict.cursors := rfl
@[simp] theorem odPutSel_dict_versions (idx sub sel v : Nat) (d : Device) : (odPutSel idx sub sel v d).dict.versions = d.dict.versions := rfl
@[simp] theorem odPutSel_dict_assemblies (idx sub sel v : Nat) (d : Device) : (odPutSel idx sub sel v d).dict.assemblies = d.dict.assemblies := rfl
@[simp] theorem odPutSel_dict_domains (idx sub sel v : Nat) (d : Device) : (odPutSel idx sub sel v d).dict.domains = d.dict.domains := rfl
@[simp] theorem odPutSel_dict_challenges (idx sub sel v : Nat) (d : Device) : (odPutSel idx sub sel v d).dict.challenges = d.dict.challenges := rfl
@[simp] theorem odPutSel_dict_sessions (idx sub sel v : Nat) (d : Device) : (odPutSel idx sub sel v d).dict.sessions = d.dict.sessions := rfl
@[simp] theorem odPutSel_dict_lockCan (idx sub sel v : Nat) (d : Device) : (odPutSel idx sub sel v d).dict.lockCan = d.dict.lockCan := rfl
@[simp] theorem odPutSel_dict_lockBand (idx sub sel v : Nat) (d : Device) : (odPutSel idx sub sel v d).dict.lockBand = d.dict.lockBand := rfl
@[simp] theorem odPutSel_dict_held (idx sub sel v : Nat) (d : Device) : (odPutSel idx sub sel v d).dict.held = d.dict.held := rfl
@[simp] theorem odPutSel_dict_nextReq (idx sub sel v : Nat) (d : Device) : (odPutSel idx sub sel v d).dict.nextReq = d.dict.nextReq := rfl

@[simp] theorem odPut_time (idx sub v : Nat) (d : Device) : (odPut idx sub v d).time = d.time := rfl
@[simp] theorem odPut_board (idx sub v : Nat) (d : Device) : (odPut idx sub v d).board = d.board := rfl
@[simp] theorem odPut_can (idx sub v : Nat) (d : Device) : (odPut idx sub v d).can = d.can := rfl
@[simp] theorem odPut_ports (idx sub v : Nat) (d : Device) : (odPut idx sub v d).ports = d.ports := rfl
@[simp] theorem odPut_admin (idx sub v : Nat) (d : Device) : (odPut idx sub v d).admin = d.admin := rfl
@[simp] theorem odPut_nvme (idx sub v : Nat) (d : Device) : (odPut idx sub v d).nvme = d.nvme := rfl
@[simp] theorem odPut_kv (idx sub v : Nat) (d : Device) : (odPut idx sub v d).kv = d.kv := rfl
@[simp] theorem odPut_cam (idx sub v : Nat) (d : Device) : (odPut idx sub v d).cam = d.cam := rfl
@[simp] theorem odPut_cipher (idx sub v : Nat) (d : Device) : (odPut idx sub v d).cipher = d.cipher := rfl
@[simp] theorem odPut_stripe (idx sub v : Nat) (d : Device) : (odPut idx sub v d).stripe = d.stripe := rfl
@[simp] theorem odPut_map (idx sub v : Nat) (d : Device) : (odPut idx sub v d).map = d.map := rfl
@[simp] theorem odPut_media (idx sub v : Nat) (d : Device) : (odPut idx sub v d).media = d.media := rfl
@[simp] theorem odPut_peer (idx sub v : Nat) (d : Device) : (odPut idx sub v d).peer = d.peer := rfl
@[simp] theorem odPut_snap (idx sub v : Nat) (d : Device) : (odPut idx sub v d).snap = d.snap := rfl
@[simp] theorem odPut_eng (idx sub v : Nat) (d : Device) : (odPut idx sub v d).eng = d.eng := rfl
@[simp] theorem odPut_sec (idx sub v : Nat) (d : Device) : (odPut idx sub v d).sec = d.sec := rfl
@[simp] theorem odPut_power (idx sub v : Nat) (d : Device) : (odPut idx sub v d).power = d.power := rfl
@[simp] theorem odPut_fans (idx sub v : Nat) (d : Device) : (odPut idx sub v d).fans = d.fans := rfl
@[simp] theorem odPut_fw (idx sub v : Nat) (d : Device) : (odPut idx sub v d).fw = d.fw := rfl
@[simp] theorem odPut_side (idx sub v : Nat) (d : Device) : (odPut idx sub v d).side = d.side := rfl
@[simp] theorem odPut_nodeId (idx sub v : Nat) (d : Device) : (odPut idx sub v d).nodeId = d.nodeId := rfl
@[simp] theorem odPut_conditions (idx sub v : Nat) (d : Device) : (odPut idx sub v d).conditions = d.conditions := rfl
@[simp] theorem odPut_out (idx sub v : Nat) (d : Device) : (odPut idx sub v d).out = d.out := rfl
@[simp] theorem odPut_dict_nvA (idx sub v : Nat) (d : Device) : (odPut idx sub v d).dict.nvA = d.dict.nvA := rfl
@[simp] theorem odPut_dict_nvB (idx sub v : Nat) (d : Device) : (odPut idx sub v d).dict.nvB = d.dict.nvB := rfl
@[simp] theorem odPut_dict_nvWorks (idx sub v : Nat) (d : Device) : (odPut idx sub v d).dict.nvWorks = d.dict.nvWorks := rfl
@[simp] theorem odPut_dict_restoreMarked (idx sub v : Nat) (d : Device) : (odPut idx sub v d).dict.restoreMarked = d.dict.restoreMarked := rfl
@[simp] theorem odPut_dict_cursors (idx sub v : Nat) (d : Device) : (odPut idx sub v d).dict.cursors = d.dict.cursors := rfl
@[simp] theorem odPut_dict_versions (idx sub v : Nat) (d : Device) : (odPut idx sub v d).dict.versions = d.dict.versions := rfl
@[simp] theorem odPut_dict_assemblies (idx sub v : Nat) (d : Device) : (odPut idx sub v d).dict.assemblies = d.dict.assemblies := rfl
@[simp] theorem odPut_dict_domains (idx sub v : Nat) (d : Device) : (odPut idx sub v d).dict.domains = d.dict.domains := rfl
@[simp] theorem odPut_dict_challenges (idx sub v : Nat) (d : Device) : (odPut idx sub v d).dict.challenges = d.dict.challenges := rfl
@[simp] theorem odPut_dict_sessions (idx sub v : Nat) (d : Device) : (odPut idx sub v d).dict.sessions = d.dict.sessions := rfl
@[simp] theorem odPut_dict_lockCan (idx sub v : Nat) (d : Device) : (odPut idx sub v d).dict.lockCan = d.dict.lockCan := rfl
@[simp] theorem odPut_dict_lockBand (idx sub v : Nat) (d : Device) : (odPut idx sub v d).dict.lockBand = d.dict.lockBand := rfl
@[simp] theorem odPut_dict_held (idx sub v : Nat) (d : Device) : (odPut idx sub v d).dict.held = d.dict.held := rfl
@[simp] theorem odPut_dict_nextReq (idx sub v : Nat) (d : Device) : (odPut idx sub v d).dict.nextReq = d.dict.nextReq := rfl

/-- A value put is the value read. -/
@[simp] theorem odSel_odPutSel (idx sub sel v : Nat) (d : Device) : odSel idx sub sel (odPutSel idx sub sel v d) = v := by
  simp [odSel, odPutSel, tblGetD_tblStore_same]

@[simp] theorem odVal_odPut (idx sub v : Nat) (d : Device) : odVal idx sub (odPut idx sub v d) = v := odSel_odPutSel idx sub 0 v d

/-- Putting one value leaves every other. -/
theorem odSel_odPutSel_other {idx sub sel i j k : Nat} (v : Nat) (d : Device) (h : odKey i j k ≠ odKey idx sub sel) :
    odSel i j k (odPutSel idx sub sel v d) = odSel i j k d := by
  have e : tblGet? (tblStore (odDefault d.nodeId idx sub sel) d.dict.cells (odKey idx sub sel) v) (odKey i j k) =
      tblGet? d.dict.cells (odKey i j k) := by
    unfold tblStore
    split
    · exact tblGet?_tblDel_other _ h
    · exact tblGet?_tblPut_other _ _ h
  simp only [odSel, odPutSel, tblGetD, e]

/-! ## The clock -/

@[simp] theorem waitUntil_board (t : Nat) (d : Device) : (waitUntil t d).board = d.board := by unfold waitUntil; split <;> rfl
@[simp] theorem waitUntil_dict (t : Nat) (d : Device) : (waitUntil t d).dict = d.dict := by unfold waitUntil; split <;> rfl
@[simp] theorem waitUntil_can (t : Nat) (d : Device) : (waitUntil t d).can = d.can := by unfold waitUntil; split <;> rfl
@[simp] theorem waitUntil_ports (t : Nat) (d : Device) : (waitUntil t d).ports = d.ports := by unfold waitUntil; split <;> rfl
@[simp] theorem waitUntil_admin (t : Nat) (d : Device) : (waitUntil t d).admin = d.admin := by unfold waitUntil; split <;> rfl
@[simp] theorem waitUntil_nvme (t : Nat) (d : Device) : (waitUntil t d).nvme = d.nvme := by unfold waitUntil; split <;> rfl
@[simp] theorem waitUntil_kv (t : Nat) (d : Device) : (waitUntil t d).kv = d.kv := by unfold waitUntil; split <;> rfl
@[simp] theorem waitUntil_cam (t : Nat) (d : Device) : (waitUntil t d).cam = d.cam := by unfold waitUntil; split <;> rfl
@[simp] theorem waitUntil_cipher (t : Nat) (d : Device) : (waitUntil t d).cipher = d.cipher := by unfold waitUntil; split <;> rfl
@[simp] theorem waitUntil_stripe (t : Nat) (d : Device) : (waitUntil t d).stripe = d.stripe := by unfold waitUntil; split <;> rfl
@[simp] theorem waitUntil_map (t : Nat) (d : Device) : (waitUntil t d).map = d.map := by unfold waitUntil; split <;> rfl
@[simp] theorem waitUntil_media (t : Nat) (d : Device) : (waitUntil t d).media = d.media := by unfold waitUntil; split <;> rfl
@[simp] theorem waitUntil_peer (t : Nat) (d : Device) : (waitUntil t d).peer = d.peer := by unfold waitUntil; split <;> rfl
@[simp] theorem waitUntil_snap (t : Nat) (d : Device) : (waitUntil t d).snap = d.snap := by unfold waitUntil; split <;> rfl
@[simp] theorem waitUntil_eng (t : Nat) (d : Device) : (waitUntil t d).eng = d.eng := by unfold waitUntil; split <;> rfl
@[simp] theorem waitUntil_sec (t : Nat) (d : Device) : (waitUntil t d).sec = d.sec := by unfold waitUntil; split <;> rfl
@[simp] theorem waitUntil_power (t : Nat) (d : Device) : (waitUntil t d).power = d.power := by unfold waitUntil; split <;> rfl
@[simp] theorem waitUntil_fans (t : Nat) (d : Device) : (waitUntil t d).fans = d.fans := by unfold waitUntil; split <;> rfl
@[simp] theorem waitUntil_fw (t : Nat) (d : Device) : (waitUntil t d).fw = d.fw := by unfold waitUntil; split <;> rfl
@[simp] theorem waitUntil_side (t : Nat) (d : Device) : (waitUntil t d).side = d.side := by unfold waitUntil; split <;> rfl
@[simp] theorem waitUntil_nodeId (t : Nat) (d : Device) : (waitUntil t d).nodeId = d.nodeId := by unfold waitUntil; split <;> rfl
@[simp] theorem waitUntil_conditions (t : Nat) (d : Device) : (waitUntil t d).conditions = d.conditions := by unfold waitUntil; split <;> rfl
@[simp] theorem waitUntil_out (t : Nat) (d : Device) : (waitUntil t d).out = d.out := by unfold waitUntil; split <;> rfl
@[simp] theorem waitTick_board (t : Nat) (d : Device) : (waitTick t d).board = d.board := by unfold waitTick; split <;> rfl
@[simp] theorem waitTick_dict (t : Nat) (d : Device) : (waitTick t d).dict = d.dict := by unfold waitTick; split <;> rfl
@[simp] theorem waitTick_can (t : Nat) (d : Device) : (waitTick t d).can = d.can := by unfold waitTick; split <;> rfl
@[simp] theorem waitTick_ports (t : Nat) (d : Device) : (waitTick t d).ports = d.ports := by unfold waitTick; split <;> rfl
@[simp] theorem waitTick_admin (t : Nat) (d : Device) : (waitTick t d).admin = d.admin := by unfold waitTick; split <;> rfl
@[simp] theorem waitTick_nvme (t : Nat) (d : Device) : (waitTick t d).nvme = d.nvme := by unfold waitTick; split <;> rfl
@[simp] theorem waitTick_kv (t : Nat) (d : Device) : (waitTick t d).kv = d.kv := by unfold waitTick; split <;> rfl
@[simp] theorem waitTick_cam (t : Nat) (d : Device) : (waitTick t d).cam = d.cam := by unfold waitTick; split <;> rfl
@[simp] theorem waitTick_cipher (t : Nat) (d : Device) : (waitTick t d).cipher = d.cipher := by unfold waitTick; split <;> rfl
@[simp] theorem waitTick_stripe (t : Nat) (d : Device) : (waitTick t d).stripe = d.stripe := by unfold waitTick; split <;> rfl
@[simp] theorem waitTick_map (t : Nat) (d : Device) : (waitTick t d).map = d.map := by unfold waitTick; split <;> rfl
@[simp] theorem waitTick_media (t : Nat) (d : Device) : (waitTick t d).media = d.media := by unfold waitTick; split <;> rfl
@[simp] theorem waitTick_peer (t : Nat) (d : Device) : (waitTick t d).peer = d.peer := by unfold waitTick; split <;> rfl
@[simp] theorem waitTick_snap (t : Nat) (d : Device) : (waitTick t d).snap = d.snap := by unfold waitTick; split <;> rfl
@[simp] theorem waitTick_eng (t : Nat) (d : Device) : (waitTick t d).eng = d.eng := by unfold waitTick; split <;> rfl
@[simp] theorem waitTick_sec (t : Nat) (d : Device) : (waitTick t d).sec = d.sec := by unfold waitTick; split <;> rfl
@[simp] theorem waitTick_power (t : Nat) (d : Device) : (waitTick t d).power = d.power := by unfold waitTick; split <;> rfl
@[simp] theorem waitTick_fans (t : Nat) (d : Device) : (waitTick t d).fans = d.fans := by unfold waitTick; split <;> rfl
@[simp] theorem waitTick_fw (t : Nat) (d : Device) : (waitTick t d).fw = d.fw := by unfold waitTick; split <;> rfl
@[simp] theorem waitTick_side (t : Nat) (d : Device) : (waitTick t d).side = d.side := by unfold waitTick; split <;> rfl
@[simp] theorem waitTick_nodeId (t : Nat) (d : Device) : (waitTick t d).nodeId = d.nodeId := by unfold waitTick; split <;> rfl
@[simp] theorem waitTick_conditions (t : Nat) (d : Device) : (waitTick t d).conditions = d.conditions := by unfold waitTick; split <;> rfl
@[simp] theorem waitTick_out (t : Nat) (d : Device) : (waitTick t d).out = d.out := by unfold waitTick; split <;> rfl

/-- The clock has reached the time waited for, and has not run back. -/
theorem waitUntil_now (t : Nat) (d : Device) : (waitUntil t d).time.now = max t d.time.now := by
  unfold waitUntil
  split
  · rename_i h; exact (Nat.max_eq_right h).symm
  · rename_i h; simp only [passCycles]; omega

/-! ## Table versions -/

@[simp] theorem bumpVersion_time (win : Nat) (d : Device) : (bumpVersion win d).time = d.time := rfl
@[simp] theorem bumpVersion_board (win : Nat) (d : Device) : (bumpVersion win d).board = d.board := rfl
@[simp] theorem bumpVersion_can (win : Nat) (d : Device) : (bumpVersion win d).can = d.can := rfl
@[simp] theorem bumpVersion_ports (win : Nat) (d : Device) : (bumpVersion win d).ports = d.ports := rfl
@[simp] theorem bumpVersion_admin (win : Nat) (d : Device) : (bumpVersion win d).admin = d.admin := rfl
@[simp] theorem bumpVersion_nvme (win : Nat) (d : Device) : (bumpVersion win d).nvme = d.nvme := rfl
@[simp] theorem bumpVersion_kv (win : Nat) (d : Device) : (bumpVersion win d).kv = d.kv := rfl
@[simp] theorem bumpVersion_cam (win : Nat) (d : Device) : (bumpVersion win d).cam = d.cam := rfl
@[simp] theorem bumpVersion_cipher (win : Nat) (d : Device) : (bumpVersion win d).cipher = d.cipher := rfl
@[simp] theorem bumpVersion_stripe (win : Nat) (d : Device) : (bumpVersion win d).stripe = d.stripe := rfl
@[simp] theorem bumpVersion_map (win : Nat) (d : Device) : (bumpVersion win d).map = d.map := rfl
@[simp] theorem bumpVersion_media (win : Nat) (d : Device) : (bumpVersion win d).media = d.media := rfl
@[simp] theorem bumpVersion_peer (win : Nat) (d : Device) : (bumpVersion win d).peer = d.peer := rfl
@[simp] theorem bumpVersion_snap (win : Nat) (d : Device) : (bumpVersion win d).snap = d.snap := rfl
@[simp] theorem bumpVersion_eng (win : Nat) (d : Device) : (bumpVersion win d).eng = d.eng := rfl
@[simp] theorem bumpVersion_sec (win : Nat) (d : Device) : (bumpVersion win d).sec = d.sec := rfl
@[simp] theorem bumpVersion_power (win : Nat) (d : Device) : (bumpVersion win d).power = d.power := rfl
@[simp] theorem bumpVersion_fans (win : Nat) (d : Device) : (bumpVersion win d).fans = d.fans := rfl
@[simp] theorem bumpVersion_fw (win : Nat) (d : Device) : (bumpVersion win d).fw = d.fw := rfl
@[simp] theorem bumpVersion_side (win : Nat) (d : Device) : (bumpVersion win d).side = d.side := rfl
@[simp] theorem bumpVersion_nodeId (win : Nat) (d : Device) : (bumpVersion win d).nodeId = d.nodeId := rfl
@[simp] theorem bumpVersion_conditions (win : Nat) (d : Device) : (bumpVersion win d).conditions = d.conditions := rfl
@[simp] theorem bumpVersion_out (win : Nat) (d : Device) : (bumpVersion win d).out = d.out := rfl
@[simp] theorem bumpVersion_dict_cells (win : Nat) (d : Device) : (bumpVersion win d).dict.cells = d.dict.cells := rfl
@[simp] theorem bumpVersion_dict_nvA (win : Nat) (d : Device) : (bumpVersion win d).dict.nvA = d.dict.nvA := rfl
@[simp] theorem bumpVersion_dict_nvB (win : Nat) (d : Device) : (bumpVersion win d).dict.nvB = d.dict.nvB := rfl
@[simp] theorem bumpVersion_dict_nvWorks (win : Nat) (d : Device) : (bumpVersion win d).dict.nvWorks = d.dict.nvWorks := rfl
@[simp] theorem bumpVersion_dict_restoreMarked (win : Nat) (d : Device) : (bumpVersion win d).dict.restoreMarked = d.dict.restoreMarked := rfl
@[simp] theorem bumpVersion_dict_cursors (win : Nat) (d : Device) : (bumpVersion win d).dict.cursors = d.dict.cursors := rfl
@[simp] theorem bumpVersion_dict_assemblies (win : Nat) (d : Device) : (bumpVersion win d).dict.assemblies = d.dict.assemblies := rfl
@[simp] theorem bumpVersion_dict_domains (win : Nat) (d : Device) : (bumpVersion win d).dict.domains = d.dict.domains := rfl
@[simp] theorem bumpVersion_dict_challenges (win : Nat) (d : Device) : (bumpVersion win d).dict.challenges = d.dict.challenges := rfl
@[simp] theorem bumpVersion_dict_sessions (win : Nat) (d : Device) : (bumpVersion win d).dict.sessions = d.dict.sessions := rfl
@[simp] theorem bumpVersion_dict_lockCan (win : Nat) (d : Device) : (bumpVersion win d).dict.lockCan = d.dict.lockCan := rfl
@[simp] theorem bumpVersion_dict_lockBand (win : Nat) (d : Device) : (bumpVersion win d).dict.lockBand = d.dict.lockBand := rfl
@[simp] theorem bumpVersion_dict_held (win : Nat) (d : Device) : (bumpVersion win d).dict.held = d.dict.held := rfl
@[simp] theorem bumpVersion_dict_nextReq (win : Nat) (d : Device) : (bumpVersion win d).dict.nextReq = d.dict.nextReq := rfl

/-! ## Reset -/

theorem reset_memories_wf : State.reset.dev.MemoriesWf := by
  unfold Device.MemoriesWf; decide +kernel

end Sys2Proof.Machine
end

