-- ==== Sys2Proof/WellFormed.lean ====
section
/-! DEFINITION. Well-formed commands: every operand lies in the range that its field or table has. Generated from the rows' operand list;
the ranges are those of the chapters that own the fields. -/

namespace Sys2Proof

/-- An operand with the check that it must pass. -/
inductive Operand where
  /-- A number in a field of so many bits. -/
  | field (width n : Nat)
  /-- A number below the length of a table. -/
  | index (length n : Nat)
  | between (lo hi n : Nat)
  | accessor (a : Accessor)
  | queue (q : QueueRef)
  | capsule (c : Capsule)
  | header (h : FrameHdr)
  | desc (m : MemberDesc)
  | record (r : BoardRecord)
  | connect (r : ConnectReq)
  | work (w : WorkDesc)
  /-- A string of exactly so many bytes. -/
  | size (n : Nat) (bs : Bytes)
  | atMost (n : Nat) (bs : Bytes)
  /-- A list of exactly so many elements. -/
  | length (n got : Nat)
  deriving DecidableEq, Repr

/-- A dword. -/
def isDword (n : Nat) : Bool := n < 2 ^ 32

/-- A USDO client node has a node-ID of 1 to 127; a partner has a port (R75, R89). -/
def accessorOk : Accessor → Bool
  | .can node => 1 ≤ node && node ≤ 127
  | .inband port => port < 8
  | .firmware _ _ => true

/-- One of 8 ports, a 16-bit association, a queue identifier of at most 64. -/
def queueOk (q : QueueRef) : Bool := q.port < 8 && q.assoc < 65536 && q.qid ≤ 64

/-- Field widths of a submission queue entry (R125); the in-capsule bytes are among the capsule's. -/
def capsuleOk (c : Capsule) : Bool :=
  let s := c.sqe
  s.opcode < 256 && s.fuse < 4 && s.psdt < 4 && s.cid < 65536 && c.icd ≤ c.data.length && s.sglOff.all isDword &&
    [s.nsid, s.cdw2, s.cdw3, s.sgl, s.cdw10, s.cdw11, s.cdw12, s.cdw13, s.cdw14, s.cdw15].all isDword

/-- Field widths of a frame header (R455). -/
def headerOk (h : FrameHdr) : Bool := h.seq < 2 ^ 64 && h.ack < 2 ^ 64 && isDword h.credit && isDword h.len

/-- Field widths of a member descriptor (R294). -/
def descOk (m : MemberDesc) : Bool := m.channel < 128 && m.target < 8 && m.lun < 16 && m.block < 2 ^ 20 && m.page < 65536

/-- Field widths of a departure-board record (R413). -/
def recordOk (r : BoardRecord) : Bool := r.launch < 2 ^ 64 && r.arg < 2 ^ 64 && isDword r.period && r.unit < 65536 && r.action < 256

/-- A Connect names one of 8 ports; its queue identifier and size are 16-bit fields. -/
def connectOk (r : ConnectReq) : Bool := r.port < 8 && r.assoc < 65536 && r.qid < 65536 && r.size ≤ 65536 && r.cid < 65536

/-- Field widths of a work descriptor (R490). -/
def workOk (w : WorkDesc) : Bool :=
  w.opcode < 256 && w.cls < 5 && w.flags < 65536 && w.tag < 2 ^ 64 && isDword w.ns && w.domain < 65536 && w.slot < 65536 && w.src < 2 ^ 64 &&
    isDword w.srcLen && w.dst < 2 ^ 64 && w.param < 2 ^ 64 && w.status < 65536 && isDword w.cycles

/-- The operand passes its check. -/
def Operand.ok : Operand → Bool
  | .field width n => n < 2 ^ width
  | .index len n => n < len
  | .between lo hi n => lo ≤ n && n ≤ hi
  | .accessor a => accessorOk a
  | .queue q => queueOk q
  | .capsule c => capsuleOk c
  | .header h => headerOk h
  | .desc m => descOk m
  | .record r => recordOk r
  | .connect r => connectOk r
  | .work w => workOk w
  | .size n bs => bs.length == n
  | .atMost n bs => bs.length ≤ n
  | .length n got => got == n

/-- The operands of a command that have a range. -/
def Instr.operands : Instr → List Operand
  | .store q c => [.queue q, .capsule c]
  | .retrieve q c => [.queue q, .capsule c]
  | .list q c => [.queue q, .capsule c]
  | .delete q c => [.queue q, .capsule c]
  | .secureDelete q c => [.queue q, .capsule c]
  | .exist q c => [.queue q, .capsule c]
  | .longKeyStore q c => [.queue q, .capsule c]
  | .longKeyRetrieve q c => [.queue q, .capsule c]
  | .batchStore q c => [.queue q, .capsule c]
  | .longKeyList q c => [.queue q, .capsule c]
  | .longKeyDelete q c => [.queue q, .capsule c]
  | .longKeyDeleteRange q c => [.queue q, .capsule c]
  | .longKeyExist q c => [.queue q, .capsule c]
  | .commandFetch => []
  | .lockGrant => []
  | .lockReservation q => [.queue q]
  | .getLogPage q c => [.queue q, .capsule c]
  | .getLongOperationResults q c => [.queue q, .capsule c]
  | .identify q c => [.queue q, .capsule c]
  | .abort q c => [.queue q, .capsule c]
  | .setFeaturesArbitration q c => [.queue q, .capsule c]
  | .setFeaturesPowerManagement q c => [.queue q, .capsule c]
  | .setFeaturesTemperatureThreshold q c => [.queue q, .capsule c]
  | .setFeaturesApst q c => [.queue q, .capsule c]
  | .setFeaturesAssociation q c => [.queue q, .capsule c]
  | .getFeatures q c => [.queue q, .capsule c]
  | .asynchronousEventRequest q c => [.queue q, .capsule c]
  | .firmwareImageDownload q c => [.queue q, .capsule c]
  | .firmwareCommitApply q c => [.queue q, .capsule c]
  | .firmwareCommitActivate q c => [.queue q, .capsule c]
  | .shortSelfTest q c => [.queue q, .capsule c]
  | .extendedSelfTest q c => [.queue q, .capsule c]
  | .selfTestAbort q c => [.queue q, .capsule c]
  | .selfTestSegment _ => []
  | .keepAlive q c => [.queue q, .capsule c]
  | .connect r => [.connect r]
  | .propertySet q c => [.queue q, .capsule c]
  | .sanitizeExitFailureMode q c => [.queue q, .capsule c]
  | .sanitizeBlockErase q c => [.queue q, .capsule c]
  | .sanitizeCryptoErase q c => [.queue q, .capsule c]
  | .sanitizeComplete _ => []
  | .parameterRead q c => [.queue q, .capsule c]
  | .parameterWrite q c => [.queue q, .capsule c]
  | .longOperationList q c => [.queue q, .capsule c]
  | .snapshotDifference q c => [.queue q, .capsule c]
  | .longOperationReplication q c => [.queue q, .capsule c]
  | .scrub q c => [.queue q, .capsule c]
  | .rebuildReport q c => [.queue q, .capsule c]
  | .dumpReadout q c => [.queue q, .capsule c]
  | .longOperationRelease q c => [.queue q, .capsule c]
  | .longOperationExpiry slot => [.index 64 slot]
  | .longOperationRecordCommit slot => [.index 64 slot]
  | .secureDeleteErasure slot => [.index 64 slot]
  | .snapshotCreate q c => [.queue q, .capsule c]
  | .snapshotDelete q c => [.queue q, .capsule c]
  | .snapshotDeleteWrite acc n => [.accessor acc, .field 16 n]
  | .dictionaryWrite acc idx sub _ => [.accessor acc, .field 16 idx, .field 8 sub]
  | .restoreAllDefaults acc v => [.accessor acc, .field 32 v]
  | .windowSelectWrite acc idx n => [.accessor acc, .field 16 idx, .field 32 n]
  | .windowRecordRead acc idx => [.accessor acc, .field 16 idx]
  | .challengeRead acc => [.accessor acc]
  | .sessionResponse acc sig => [.accessor acc, .size 96 sig]
  | .sessionClose acc => [.accessor acc]
  | .sessionIdleTimeout acc => [.accessor acc]
  | .sessionLockoutExpiry _ => []
  | .challengeExpiry acc => [.accessor acc]
  | .assemblyTimeout acc => [.accessor acc]
  | .gearTableActivate acc => [.accessor acc]
  | .gearTableFillFactory acc => [.accessor acc]
  | .generate acc slot tenant => [.accessor acc, .field 12 slot, .field 16 tenant]
  | .retire acc slot tenant => [.accessor acc, .field 12 slot, .field 16 tenant]
  | .eraseTenant acc slot tenant => [.accessor acc, .field 12 slot, .field 16 tenant]
  | .reload acc slot tenant => [.accessor acc, .field 12 slot, .field 16 tenant]
  | .policyGroupCommit acc part => [.accessor acc, .index 16 part]
  | .policyGroupAbort acc part => [.accessor acc, .index 16 part]
  | .lostStripeClear acc => [.accessor acc]
  | .namespaceRecordWrite acc _ => [.accessor acc]
  | .dedupBindingWrite acc _ _ => [.accessor acc]
  | .partitionTableWrite acc n _ => [.accessor acc, .index 16 n]
  | .searchEntryWrite acc _ => [.accessor acc]
  | .stripeClassWrite acc cls _ => [.accessor acc, .between 1 31 cls]
  | .boardEntryWrite acc _ => [.accessor acc]
  | .commitPeriodWrite acc v => [.accessor acc, .field 32 v]
  | .preferredMapWrite acc group v => [.accessor acc, .index 16 group, .field 8 v]
  | .captureModeWrite acc port v => [.accessor acc, .index 8 port, .field 8 v]
  | .macStatisticsRead acc port sub _ => [.accessor acc, .index 8 port, .field 8 sub]
  | .clearOnReadEntryRead acc _ => [.accessor acc]
  | .powerStateRequest acc v => [.accessor acc, .field 8 v]
  | .enterPs4 acc => [.accessor acc]
  | .wakeFromPs4 acc => [.accessor acc]
  | .holdupTest acc => [.accessor acc]
  | .holdupTestDischarge _ _ => []
  | .arbiterSurvive acc => [.accessor acc]
  | .arbiterStandDown acc => [.accessor acc]
  | .arbiterReleaseFence acc => [.accessor acc]
  | .arbiterTimeout => []
  | .firmwareActivate acc => [.accessor acc]
  | .healthConfirm acc v => [.accessor acc, .field 32 v]
  | .healthConfirmDeadline => []
  | .patchPackageWrite acc _ => [.accessor acc]
  | .patchActivate acc => [.accessor acc]
  | .ownerEnrol acc _ => [.accessor acc]
  | .ownerRevoke acc n => [.accessor acc, .field 8 n]
  | .profileWrite acc slot _ => [.accessor acc, .index 4 slot]
  | .profileBindingWrite acc group slot => [.accessor acc, .index 16 group, .field 8 slot]
  | .storageSummaryWrite acc _ => [.accessor acc]
  | .fanFloorWrite acc fan rpm => [.accessor acc, .index 6 fan, .field 16 rpm]
  | .fansFittedWrite acc v => [.accessor acc, .field 8 v]
  | .usdoDownload node idx sub _ => [.field 7 node, .field 16 idx, .field 8 sub]
  | .usdoUpload node idx sub => [.field 7 node, .field 16 idx, .field 8 sub]
  | .usdoSegmentTimeout node => [.field 7 node]
  | .usdoUnsupportedRequest node => [.field 7 node]
  | .canUnsupportedMessage ident => [.field 11 ident]
  | .nmtStart node => [.field 7 node]
  | .nmtStop node => [.field 7 node]
  | .nmtEnterPreOperational node => [.field 7 node]
  | .nmtResetCommunication node => [.field 7 node]
  | .nmtResetNode node => [.field 7 node]
  | .heartbeatProduce => []
  | .heartbeatConsumerReceive node => [.field 7 node]
  | .heartbeatConsumerTimeout => []
  | .emcyInhibitExpiry => []
  | .canReceiveOverrun => []
  | .tpdoEventTimer n => [.between 1 4 n]
  | .tpdoChangeSend n => [.between 1 4 n]
  | .frameReceive port _ => [.index 8 port]
  | .arpRequest port _ => [.index 8 port]
  | .icmpEcho port _ => [.index 8 port]
  | .icmpUnreachable port _ _ => [.index 8 port]
  | .icreq port _ => [.index 8 port]
  | .roceConnectRequest port qp => [.index 8 port, .field 24 qp]
  | .portLinkUp port _ => [.index 8 port]
  | .portLinkDown port => [.index 8 port]
  | .keepAliveExpiry port _ => [.index 8 port]
  | .receiveBufferThreshold port _ => [.index 8 port]
  | .pauseRenewal port => [.index 8 port]
  | .pauseReceive port _ priorities quanta => [.index 8 port, .field 8 priorities, .field 16 quanta]
  | .ecnCeReceive port qp => [.index 8 port, .field 24 qp]
  | .cnpReceive port qp => [.index 8 port, .field 24 qp]
  | .rateIncreaseTimer port qp => [.index 8 port, .field 24 qp]
  | .ptpSync _ => []
  | .ptpAnnounce _ => []
  | .ptpDelayResp port _ _ => [.index 8 port]
  | .ptpDelayReqSend => []
  | .announceReceiptTimeout => []
  | .holdoverLimitExpiry => []
  | .timeLeaderChange => []
  | .epochOutPulse => []
  | .epochInEdge _ => []
  | .epochInWake => []
  | .commitGroup entry => [.index 4096 entry]
  | .powerFailCommit entry => [.index 4096 entry]
  | .snapshotCut entry => [.index 4096 entry]
  | .channelHandover entry => [.index 4096 entry]
  | .bucketMove entry => [.index 4096 entry]
  | .freeze entry => [.index 4096 entry]
  | .timeStep entry => [.index 4096 entry]
  | .groupPowerUp entry _ => [.index 4096 entry]
  | .groupPowerDown entry => [.index 4096 entry]
  | .tollWindow entry => [.index 4096 entry]
  | .fanRamp entry => [.index 4096 entry]
  | .gearActivate entry => [.index 4096 entry]
  | .policyGroup entry => [.index 4096 entry]
  | .slotRetire entry => [.index 4096 entry]
  | .tenantErase entry => [.index 4096 entry]
  | .eventMark entry => [.index 4096 entry]
  | .pairedLaunchMismatch entry => [.index 4096 entry]
  | .pairedPlacementDeadline entry => [.index 4096 entry]
  | .peerAliveToggle => []
  | .peerAliveAsserted => []
  | .peerAliveLost => []
  | .livenessWatchdogExpiry => []
  | .linkUp _ => []
  | .linkDown => []
  | .peerWaitExpiry => []
  | .fenceInAssert => []
  | .fenceInRelease straps => [.field 10 straps]
  | .takeover _ _ _ _ _ => []
  | .takeoverComplete => []
  | .handoverPlacement => []
  | .handoverDrained group => [.index 16 group]
  | .handoverRelease group => [.index 16 group]
  | .handoverTakeChannel group _ => [.index 16 group]
  | .rebalanceWindow => []
  | .bucketRecordsStream bucket => [.index 4096 bucket]
  | .ack h cls => [.header h, .index 4 cls]
  | .frameRetransmitTimer cls => [.index 4 cls]
  | .ackTimer cls => [.index 4 cls]
  | .hello h _ => [.header h]
  | .heartbeat h _ => [.header h]
  | .place h entry body => [.header h, .index 4096 entry, .record body]
  | .armed h entry => [.header h, .index 4096 entry]
  | .cancel h entry => [.header h, .index 4096 entry]
  | .launchReport h entry tick => [.header h, .index 4096 entry, .field 64 tick]
  | .handoverState h group mask _ => [.header h, .index 16 group, .field 8 mask]
  | .released h group mask tick => [.header h, .index 16 group, .field 8 mask, .field 64 tick]
  | .handoverAbort h entry group mask => [.header h, .index 4096 entry, .index 16 group, .field 8 mask]
  | .loopback h tick _ => [.header h, .field 64 tick]
  | .fwdCmd h _ => [.header h]
  | .fwdData h fwd off _ => [.header h, .field 64 fwd, .field 64 off]
  | .fwdCompletion h _ => [.header h]
  | .lockReserve h fwd _ => [.header h, .field 64 fwd]
  | .lockReply h fwd _ => [.header h, .field 64 fwd]
  | .mirrorData h write _ => [.header h, .field 64 write]
  | .mirrorAck h write _ => [.header h, .field 64 write]
  | .mirrorRelease h _ => [.header h]
  | .journalPage h _ => [.header h]
  | .journalAck h seq => [.header h, .field 64 seq]
  | .journalResend h _ _ => [.header h]
  | .fpRequestClaim h req domain fp => [.header h, .field 64 req, .index 1024 domain, .size 32 fp]
  | .fpRequestClaimRelease h req domain fp copy => [.header h, .field 64 req, .index 1024 domain, .size 32 fp, .field 32 copy]
  | .fpRequestDecrement h req domain fp copy => [.header h, .field 64 req, .index 1024 domain, .size 32 fp, .field 32 copy]
  | .fpRequestPresent h req _ => [.header h, .field 64 req]
  | .fpRequestLocate h req domain fp copy => [.header h, .field 64 req, .index 1024 domain, .size 32 fp, .field 32 copy]
  | .fpReply h _ => [.header h]
  | .invalidate h domain copy fp => [.header h, .index 1024 domain, .field 32 copy, .size 32 fp]
  | .invalidateAck h domain copy fp => [.header h, .index 1024 domain, .field 32 copy, .size 32 fp]
  | .unitRead h req d prio => [.header h, .field 64 req, .desc d, .index 3 prio]
  | .unitData h req status off _ => [.header h, .field 64 req, .index 3 status, .field 64 off]
  | .moveRequest h req stripe d _ => [.header h, .field 64 req, .field 64 stripe, .desc d]
  | .eraseRequest h req d barrier => [.header h, .field 64 req, .desc d, .field 64 barrier]
  | .requestDone h req result => [.header h, .field 64 req, .index 3 result]
  | .bucketRecords h bucket _ => [.header h, .index 4096 bucket]
  | .drainDone h bucket _ => [.header h, .index 4096 bucket]
  | .fpEntries h _ => [.header h]
  | .tableSync h idx sub entry off _ => [.header h, .field 16 idx, .field 8 sub, .field 32 entry, .field 32 off]
  | .tableAck h idx sub entry _ => [.header h, .field 16 idx, .field 8 sub, .field 32 entry]
  | .offer h _ => [.header h]
  | .finish h sig => [.header h, .size 96 sig]
  | .slotKey h _ _ slot tenant _ key => [.header h, .field 12 slot, .field 16 tenant, .field 256 key]
  | .mapKey h _ _ key => [.header h, .field 256 key]
  | .hashSecret h count _ secret => [.header h, .field 64 count, .field 128 secret]
  | .salt h count _ domain value => [.header h, .field 64 count, .index 1024 domain, .size 12 value]
  | .gear h count _ _ entries => [.header h, .field 64 count, .length 512 entries.length]
  | .secureAck h count _ acked => [.header h, .field 64 count, .field 64 acked]
  | .ownerRecord h count _ n pub secret => [.header h, .field 64 count, .field 8 n, .size 96 pub, .size 32 secret]
  | .workDescriptorPost _ bucket w => [.index 4096 bucket, .work w]
  | .descriptorReturn _ status => [.index 6 status]
  | .machineCheck e _ groups => [.index 64 e, .field 8 groups]
  | .descriptorTimeLimit e => [.index 64 e]
  | .backgroundSliceEnd e => [.index 64 e]
  | .nextSeq e => [.index 64 e]
  | .jumpSeq e target => [.index 64 e, .field 12 target]
  | .branchTrue e target cond => [.index 64 e, .field 12 target, .index 48 cond]
  | .branchFalse e target cond => [.index 64 e, .field 12 target, .index 48 cond]
  | .callSeq e target => [.index 64 e, .field 12 target]
  | .returnSeq e => [.index 64 e]
  | .dispatchSeq e => [.index 64 e]
  | .haltSeq e => [.index 64 e]
  | .nopOp e => [.index 64 e]
  | .movOp e a dst => [.index 64 e, .field 5 a, .field 5 dst]
  | .addOp e a b dst => [.index 64 e, .field 5 a, .field 5 b, .field 5 dst]
  | .subOp e a b dst => [.index 64 e, .field 5 a, .field 5 b, .field 5 dst]
  | .andOp e a b dst => [.index 64 e, .field 5 a, .field 5 b, .field 5 dst]
  | .orOp e a b dst => [.index 64 e, .field 5 a, .field 5 b, .field 5 dst]
  | .xorOp e a b dst => [.index 64 e, .field 5 a, .field 5 b, .field 5 dst]
  | .shlOp e a b dst => [.index 64 e, .field 5 a, .field 5 b, .field 5 dst]
  | .shrOp e a b dst => [.index 64 e, .field 5 a, .field 5 b, .field 5 dst]
  | .addiOp e a imm dst => [.index 64 e, .field 5 a, .field 16 imm, .field 5 dst]
  | .ldiOp e imm dst => [.index 64 e, .field 16 imm, .field 5 dst]
  | .ldihOp e a imm dst => [.index 64 e, .field 5 a, .field 16 imm, .field 5 dst]
  | .cmpOp e a b => [.index 64 e, .field 5 a, .field 5 b]
  | .cmpiOp e a imm => [.index 64 e, .field 5 a, .field 16 imm]
  | .mulOp e a b dst => [.index 64 e, .field 5 a, .field 5 b, .field 5 dst]
  | .minOp e a b dst => [.index 64 e, .field 5 a, .field 5 b, .field 5 dst]
  | .maxOp e a b dst => [.index 64 e, .field 5 a, .field 5 b, .field 5 dst]
  | .getOp e port dst => [.index 64 e, .field 5 port, .field 5 dst]
  | .bsetOp e a b buf => [.index 64 e, .field 5 a, .field 5 b, .field 6 buf]
  | .badvOp e a buf => [.index 64 e, .field 5 a, .field 6 buf]
  | .lddOp e imm dst => [.index 64 e, .field 16 imm, .field 5 dst]
  | .stdOp e a => [.index 64 e, .field 5 a]
  | .bswapOp e a dst => [.index 64 e, .field 5 a, .field 5 dst]
  | .popcntOp e a dst => [.index 64 e, .field 5 a, .field 5 dst]
  | .chunkStart e buf => [.index 64 e, .field 6 buf]
  | .chunkNext e => [.index 64 e]
  | .chunkStop e => [.index 64 e]
  | .shaStartPrefix e => [.index 64 e]
  | .shaStart e => [.index 64 e]
  | .shaFeedChunk e => [.index 64 e]
  | .shaFeedBuffer e buf => [.index 64 e, .field 6 buf]
  | .shaFinish e buf => [.index 64 e, .field 6 buf]
  | .compress e buf => [.index 64 e, .field 6 buf]
  | .decompress e buf => [.index 64 e, .field 6 buf]
  | .discard e => [.index 64 e]
  | .encrypt e buf => [.index 64 e, .field 6 buf]
  | .decrypt e buf => [.index 64 e, .field 6 buf]
  | .sealPage e buf => [.index 64 e, .field 6 buf]
  | .openPage e buf => [.index 64 e, .field 6 buf]
  | .aesCancel e => [.index 64 e]
  | .gfClear e => [.index 64 e]
  | .gfAccumulate e buf imm => [.index 64 e, .field 6 buf, .field 16 imm]
  | .emitP e buf => [.index 64 e, .field 6 buf]
  | .emitQ e buf => [.index 64 e, .field 6 buf]
  | .solveOne e buf imm => [.index 64 e, .field 6 buf, .field 16 imm]
  | .solveTwo e buf imm => [.index 64 e, .field 6 buf, .field 16 imm]
  | .dmaReadStaging e a buf => [.index 64 e, .field 5 a, .field 6 buf]
  | .dmaReadDdr e a buf => [.index 64 e, .field 5 a, .field 6 buf]
  | .dmaReadFlash e a buf => [.index 64 e, .field 5 a, .field 6 buf]
  | .dmaReadLink e a buf => [.index 64 e, .field 5 a, .field 6 buf]
  | .dmaWriteStaging e b buf => [.index 64 e, .field 5 b, .field 6 buf]
  | .dmaWriteDdr e b buf => [.index 64 e, .field 5 b, .field 6 buf]
  | .dmaWriteFlash e b buf => [.index 64 e, .field 5 b, .field 6 buf]
  | .dmaWriteLink e b buf => [.index 64 e, .field 5 b, .field 6 buf]
  | .policySearch e buf => [.index 64 e, .field 6 buf]
  | .hotSetSearch e buf => [.index 64 e, .field 6 buf]
  | .bucketOverrideSearch e buf => [.index 64 e, .field 6 buf]
  | .searchResult _ => []
  | .throttleStepChange _ => []
  | .lockTest e => [.index 64 e]
  | .lockRelease e => [.index 64 e]
  | .append e buf => [.index 64 e, .field 6 buf]
  | .markJnl e => [.index 64 e]
  | .flashRead e a => [.index 64 e, .field 5 a]
  | .flashProgram e a => [.index 64 e, .field 5 a]
  | .flashReadNextStep e a => [.index 64 e, .field 5 a]
  | .flashReadDeep e a => [.index 64 e, .field 5 a]
  | .tollRequestRead e => [.index 64 e]
  | .tollRequestProgram e => [.index 64 e]
  | .tollReturn e => [.index 64 e]
  | .tollTokensGranted _ => []
  | .evtWrite e _ imm a => [.index 64 e, .field 16 imm, .field 5 a]
  | .cntAdd e ctr b => [.index 64 e, .field 4 ctr, .field 5 b]
  | .msgSend e a b => [.index 64 e, .field 5 a, .field 5 b]
  | .msgClaim e => [.index 64 e]
  | .msgRelease e => [.index 64 e]
  | .msgPresent e => [.index 64 e]
  | .aesRequestComplete e => [.index 64 e]
  | .compressDone e _ => [.index 64 e]
  | .shaDone e => [.index 64 e]
  | .gfUnitDone e => [.index 64 e]
  | .moverDone e _ => [.index 64 e]
  | .slotLimitDurable slot => [.field 12 slot]
  | .alarm sources => [.field 4 sources]
  | .alarmSourcesClear => []
  | .alarmReloadComplete => []
  | .stripeClose cls cluster => [.field 5 cls, .index 6 cluster]
  | .gatherLimitExpiry cls cluster => [.field 5 cls, .index 6 cluster]
  | .stripeIssueDurable stripe => [.field 64 stripe]
  | .stripeMembersProgrammed stripe => [.field 64 stripe]
  | .stripeRelease stripe => [.field 64 stripe]
  | .journalDurable seq => [.field 64 seq]
  | .flashReadComplete _ _ _ => []
  | .flashReadTimeout _ => []
  | .hardReadLimit _ => []
  | .flashProgramComplete _ => []
  | .flashProgramFailure _ => []
  | .flashProgramTimeout _ => []
  | .flashEraseComplete _ => []
  | .flashEraseFailure _ => []
  | .lunResetTimeout channel target lun => [.index 128 channel, .field 3 target, .field 4 lun]
  | .rebuildStripe _ => []
  | .rebuildResume _ => []
  | .lostStripeKeyScan stripe => [.field 64 stripe]
  | .journalCopyRewritten copy => [.index 4 copy]
  | .checkpointStart => []
  | .checkpointComplete => []
  | .mapPageFill _ _ => []
  | .gcLevelChange channel => [.index 128 channel]
  | .blockReclaim channel => [.index 128 channel]
  | .stripeCompaction => []
  | .manifestCompaction => []
  | .wearLevel channel => [.index 128 channel]
  | .blockErase d => [.desc d]
  | .refresh d => [.desc d]
  | .patrolSample d _ => [.desc d]
  | .thermalAgeSample temps _ => [.length 16 temps.length]
  | .ledgerRecord => []
  | .pwrFailNAssert => []
  | .powerFailFlushEnd => []
  | .pwrFailNDeassert => []
  | .flushRelease _ => []
  | .holdupOkChange _ => []
  | .porstNAssert => []
  | .porstNRelease straps => [.field 10 straps]
  | .coldStart => []
  | .cleanDormantExit => []
  | .corePgTimeout => []
  | .corePgLoss => []
  | .rootPllLoss => []
  | .sdclkLoss => []
  | .refclkStop => []
  | .thermalShutdown _ => []
  | .domainFault domain => [.index 32 domain]
  | .apstTransition => []
  | .powerStateGate => []
  | .fatalError cause => [.field 16 cause]
  | .dumpCopy => []
  | .controlProcessorWatchdog => []
  | .worldViolation initiator _ => [.field 8 initiator]
  | .instructionFetchRefused initiator _ => [.field 8 initiator]
  | .replicationCycle session => [.index 16 session]
  | .replicationRemoteCompletion session key sct sc _ => [.index 16 session, .atMost 1024 key, .field 3 sct, .field 8 sc]
  | .replicationRetry session key => [.index 16 session, .atMost 1024 key]
  | .replicationReconnect session _ => [.index 16 session]
  | .fanStart fan => [.index 6 fan]
  | .fanSenseComplete fan _ _ rpm => [.index 6 fan, .field 16 rpm]
  | .fanBrakeEnd fan _ rpm => [.index 6 fan, .field 16 rpm]
  | .fanAlignEnd fan => [.index 6 fan]
  | .fanRampEnd fan => [.index 6 fan]
  | .bemfZeroCrossing fan _ _ => [.index 6 fan]
  | .fanSpeedLoop fan _ => [.index 6 fan]
  | .fanKeMeasure fan _ => [.index 6 fan]
  | .fanOvercurrent fan => [.index 6 fan]
  | .rotorLost fan => [.index 6 fan]
  | .fanCoastEnd fan _ rpm => [.index 6 fan, .field 16 rpm]
  | .fanFailedRetry fan => [.index 6 fan]
  | .epochInLoss => []
  | .surviveFenceDelay => []
  | .corePgRise => []
  | .refclkRestart => []
  | .masterWaitExpiry => []
  | .canErrorPassive _ => []
  | .remoteAssociationLoss session => [.index 16 session]
  | .temperatureThresholdCrossing _ => []
  | .shelfPowerLoss => []
  | .vddqDdrBelowFloor => []

/-- Every operand of the command lies in its range. -/
def Instr.wellFormed (i : Instr) : Bool := i.operands.all Operand.ok

/-- The operands that fail their checks. -/
def Instr.illFormed (i : Instr) : List Operand := i.operands.filter fun o => !o.ok

end Sys2Proof
end

