-- ==== Sys2Proof/Tests/Slice0.lean ====
section
/-! SUPPORT. Our own tests: each check of WellFormed refuses an ill-formed command; one step on a small state against the manual;
and for each statement a state and operands that meet its hypotheses. -/

namespace Sys2Proof.Machine.Test

set_option Elab.async false

/-! ## WellFormed -/

/-- An admin queue of port 0. -/
def q0 : QueueRef := ⟨0, 1, 0⟩
/-- An admin capsule without data. -/
def sqe0 : Sqe := ⟨0, 0, 1, false, 7, 0, 0, 0, 0, none, false, 0, 0, 0, 0, 0, 0⟩
def hdr0 : FrameHdr := ⟨true, 1, 0, 0, false, 64⟩
def acc0 : Accessor := .inband 0
def work0 : WorkDesc := ⟨1, 0, 0, 1, 1, 0, 0, 0, 0, 0, 0, 0, 0⟩
def conn0 : ConnectReq := ⟨0, 1, 1, 7, [], [], false, false, 1, 0, 32, 0, 0xFFFF⟩

theorem test_wellFormed_store : (Instr.store q0 ⟨sqe0, [], 0⟩).wellFormed = true := by decide
theorem test_wellFormed_queue : (Instr.store ⟨8, 1, 1⟩ ⟨sqe0, [], 0⟩).wellFormed = false := by decide
theorem test_wellFormed_capsule : (Instr.store q0 ⟨{ sqe0 with cid := 65536 }, [], 0⟩).wellFormed = false := by decide
theorem test_wellFormed_field : (Instr.snapshotDeleteWrite acc0 65536).wellFormed = false := by decide
theorem test_wellFormed_index : (Instr.longOperationExpiry 64).wellFormed = false := by decide
theorem test_wellFormed_accessor : (Instr.sessionClose (.can 128)).wellFormed = false := by decide
theorem test_wellFormed_size : (Instr.sessionResponse acc0 [1]).wellFormed = false := by decide
theorem test_wellFormed_header : (Instr.armed { hdr0 with seq := 2 ^ 64 } 0).wellFormed = false := by decide
theorem test_wellFormed_desc : (Instr.blockErase ⟨128, 0, 0, 0, 0⟩).wellFormed = false := by decide
theorem test_wellFormed_record : (Instr.place hdr0 0 ⟨0, 0, 0, 0, 256, false, false⟩).wellFormed = false := by decide
theorem test_wellFormed_connect : (Instr.connect { conn0 with size := 65537 }).wellFormed = false := by decide
theorem test_wellFormed_work : (Instr.workDescriptorPost 0 0 { work0 with cls := 5 }).wellFormed = false := by decide
theorem test_wellFormed_atMost : (Instr.replicationRetry 0 (List.replicate 1025 0)).wellFormed = false := by decide +kernel
theorem test_wellFormed_length : (Instr.thermalAgeSample [] 0).wellFormed = false := by decide
theorem test_wellFormed_between : (Instr.tpdoEventTimer 0).wellFormed = false := by decide

/-! ## States and frames of the tests -/

def st (d : Device) : State := ⟨d, []⟩
/-- A device that is ready and serves alone (R430). -/
def alone : Device := { Reset.dev with
  fw := { Reset.fw with slots := [⟨.active, []⟩, ⟨.empty, []⟩] }
  power := { Reset.dev.power with run := .ready }, peer := { Reset.dev.peer with st := 5, fpSplit := false } }
/-- A ready device of a pair whose link is up. -/
def paired : Device := { Reset.dev with
  fw := { Reset.fw with slots := [⟨.active, []⟩, ⟨.empty, []⟩] }
  power := { Reset.dev.power with run := .ready }
  peer := { Reset.dev.peer with st := 1, link := 2, met := true, helloSeen := true, helloDone := true } }
/-- The next frame of any class of `paired`. -/
def hdr1 : FrameHdr := ⟨true, 1, 0, 0, false, 64⟩
/-- Its link carries secret frames. -/
def keyed : Device := { paired with sec := { paired.sec with linkKey := some [1] } }

/-- Command `c` on `d` goes on to a device of which `P` holds. -/
def goes (c : Instr) (d : Device) (P : Device → Bool) : Bool := match exec c ⟨d, []⟩ with
  | .next t => P t.dev
  | _ => false
/-- The device has sent `m` on the link, or holds it until there is credit. -/
def linked (m : LinkMsg) (t : Device) : Bool := t.out.contains (.link (msgClass m) m) || t.peer.waiting.contains (msgClass m, m)
/-- An event with this code, unit, severity and detail is in the log. -/
def lg (c u s v : Nat) (t : Device) : Bool := t.admin.events.any fun e => e.code == c && e.unit == u && e.severity == s && e.detail == v % 2 ^ 64

/-- A block, a stripe, its member and an operation that reads it. -/
def mem1 : MemberDesc := ⟨9, 0, 0, 3, 0⟩
def blk1 : Block := ⟨9, 0, 0, 3, 2, 1, 4, 4, 7, 1, 0, 0, false, 1, [], false, 0, 0, false, 0⟩
def str1 : Stripe := ⟨5, 0, 1, 16384, .host, 0, 0, .durable, [⟨mem1, true, true, true, false, true, 0⟩], 0, false, false, 0, 0, true, true, false, 64⟩
/-- A copy of a chunk with two references, and its identity. -/
def fp1 : Bytes := [1, 2]
def copy1 : Copy := { newCopy 0 fp1 0 with refs := 2, present := true, plain := [7], plainLen := 1 }
def withCopy (c : Copy) (d : Device) : Device := { d with kv := { d.kv with copies := [c] } }
/-- An engine that runs a word of work `work0`, and a device whose engine e is g. -/
def eng1 : Engine := { Engine.blank with st := 1, ctx := { SeqCtx.blank with desc := some work0 } }
def withEngine (e : Nat) (g : Engine) (d : Device) : Device := { d with eng := { d.eng with engines := d.eng.engines.set e g } }
def run0 : Device := withEngine 0 eng1 paired
/-- Port 0 is enabled, has link, and one partner with an association and management access 2. -/
def assoc0 : Assoc := ⟨0, 1, 1, false, 0, 0, 64, 0, 0, 0, false, 1, 32, 0, [], [], []⟩
def up0 : Device := odPut 0x2300 1 1 (odPut 0x2300 0x0A 2 { onPort 0 (fun x => { x with link := 2 }) paired with
  ports := { (onPort 0 (fun x => { x with link := 2 }) paired).ports with assocs := [assoc0] } })
/-- Node 3 holds a secure session on CAN FD; the device serves alone, or has a partner. -/
abbrev user0 : Accessor := .can 3
def opened (d : Device) : Device := { d with can := { d.can with nmt := .operational }, dict := { d.dict with sessions := [⟨.can 3, 0, 1⟩] } }
def owned : Device := opened alone

/-! ## EngineAlu -/

theorem wit_EngineAlu_first : EngineRuns 0 run0 ∧ (1 : Nat) ≠ 0 := by unfold EngineRuns; decide +kernel

theorem wit_EngineAlu_last : EngineRuns 63 (withEngine 63 { eng1 with st := 0 } paired) ∧ (31 : Nat) ≠ 0 := by unfold EngineRuns; decide +kernel

/-! ## EngineMoves -/

theorem wit_EngineMoves_runs : EngineRuns 0 run0 ∧ (engineOf 0 run0).ctx.desc = some work0 ∧ (31 : Nat) ≠ 0 := by unfold EngineRuns; decide +kernel

/-! ## EngineOther -/

theorem wit_EngineOther_runs : EngineRuns 63 (withEngine 63 eng1 paired) := by unfold EngineRuns; decide +kernel

/-! ## NextAddress -/

def calls (n : Nat) : Device := withEngine 0 { eng1 with ctx := { eng1.ctx with pc := 4095, stack := List.replicate n 7, zero := true } } paired

theorem wit_NextAddress_runs : EngineRuns 0 (calls 7) ∧ condition 0 1 (calls 7) = true ∧ (engineOf 0 (calls 7)).ctx.stack.length < 8 ∧ (engineOf 0 (calls 7)).ctx.stack = 7 :: List.replicate 6 7 := by unfold EngineRuns; decide +kernel

theorem wit_NextAddress_full : EngineRuns 0 (calls 8) ∧ 8 ≤ (engineOf 0 (calls 8)).ctx.stack.length := by unfold EngineRuns; decide +kernel

theorem wit_NextAddress_empty : EngineRuns 0 run0 ∧ condition 0 1 run0 = false ∧ (engineOf 0 run0).ctx.stack = [] := by unfold EngineRuns; decide +kernel

/-! ## ChunkerAndSha -/

def cuts : Device := withEngine 0 { eng1 with chunker := ⟨true, [1, 2], [], []⟩, conds := 128 } paired

theorem wit_ChunkerAndSha_next : EngineRuns 0 cuts ∧ (engineOf 0 cuts).chunker.active = true ∧ (engineOf 0 cuts).chunker.rest ≠ [] ∧ (engineOf 0 cuts).ctx.desc = some work0 ∧ bit (engineOf 0 cuts).conds 7 = true := by unfold EngineRuns; decide +kernel

theorem wit_ChunkerAndSha_idle : EngineRuns 0 run0 ∧ (engineOf 0 run0).chunker.rest = [] ∧ bit (engineOf 0 run0).conds 7 = false ∧ (engineOf 0 run0).sha.finish = none := by unfold EngineRuns; decide +kernel

/-! ## GfUnit -/

theorem wit_GfUnit_busy : EngineRuns 0 (withEngine 0 { eng1 with gf := ⟨[1], [2], true⟩ } paired) ∧ (engineOf 0 (withEngine 0 { eng1 with gf := ⟨[1], [2], true⟩ } paired)).gf.busy = true := by unfold EngineRuns; decide +kernel

/-! ## Movers -/

def moves (a : Nat) : Device := withEngine 0 { eng1 with rd := some ⟨1, a, 0⟩, wr := some ⟨1, a, 0⟩, ctx := { eng1.ctx with bufs := [(0, ⟨0, 16, 0⟩)] } } paired

theorem wit_Movers_idle : EngineRuns 0 run0 ∧ (engineOf 0 run0).rd = none ∧ (engineOf 0 run0).wr = none := by unfold EngineRuns; decide +kernel

theorem wit_Movers_inside : EngineRuns 0 (moves 134217712) ∧ (engineOf 0 (moves 134217712)).rd = some ⟨1, 134217712, 0⟩ ∧ (engineOf 0 (moves 134217712)).wr = some ⟨1, 134217712, 0⟩ ∧ moverSecure 0 ⟨1, 134217712, 0⟩ (moves 134217712) = false ∧ 134217712 + moverLength 0 ⟨1, 134217712, 0⟩ (moves 134217712) ≤ 134217728 := by unfold EngineRuns; decide +kernel

theorem wit_Movers_outside : EngineRuns 0 (moves 134217713) ∧ (engineOf 0 (moves 134217713)).rd = some ⟨1, 134217713, 0⟩ ∧ (engineOf 0 (moves 134217713)).wr = some ⟨1, 134217713, 0⟩ ∧ 134217728 < 134217713 + moverLength 0 ⟨1, 134217713, 0⟩ (moves 134217713) := by unfold EngineRuns; decide +kernel

/-! ## DeflateAndAes -/

def slot1 : KeySlot := { KeySlot.blank with st := .active, key := some 5, counterA := 0, limitA := 2 ^ 19 + 2 }

def works : Device := withEngine 0 { eng1 with aes := List.replicate 7 ⟨.seal, 0, 0, 1, 0, [1]⟩, defl := ⟨some (0, false), [], []⟩, mem := [(0, 3)], ctx := { eng1.ctx with bufs := [(0, ⟨0, 2, 0⟩), (1, ⟨4, 5, 0⟩)], desc := some { work0 with srcLen := 0 } } } { paired with peer := { paired.peer with mapKey := some 5 }, cipher := { paired.cipher with slots := [(0, slot1)] } }

theorem wit_DeflateAndAes_inflates : EngineRuns 0 works ∧ inflate (bufBytes 0 0 works) (curDesc 0 works).srcLen = some [] := by unfold EngineRuns; decide +kernel

theorem wit_DeflateAndAes_broken : EngineRuns 0 works ∧ inflate (bufBytes 0 2 works) (curDesc 0 works).srcLen = none := by unfold EngineRuns; decide +kernel

theorem wit_DeflateAndAes_encrypt : EngineRuns 0 works ∧ (engineOf 0 works).aes.length < 8 ∧ (slotOf (curDesc 0 works).slot works).st = .active ∧ works.cipher.alarm = 0 ∧ (slotOf (curDesc 0 works).slot works).exhausted works.side = false ∧ (slotOf (curDesc 0 works).slot works).counter works.side + 2 ^ 19 + 2 ≤ (slotOf (curDesc 0 works).slot works).limit works.side ∧ (slotOf (curDesc 0 works).slot works).counter works.side < counterMax ∧ (slotOf (curDesc 0 works).slot works).key.isSome := by unfold EngineRuns; decide +kernel

theorem wit_DeflateAndAes_sealing : sealsLeft 1 { works with map := { works.map with sealLimit := 2 } } = true ∧ (engineOf 0 { works with map := { works.map with sealLimit := 2 } }).aes.length < 8 := by decide +kernel

theorem test_DeflateAndAes_sealing : goes (.sealPage 0 1) { works with map := { works.map with sealLimit := 2 } } (fun t => t.map.sealCount == 1 && t.map.sealPending.isSome) && goes (.sealPage 0 1) works (fun t => t.map.sealCount == 0) := by decide +kernel

theorem wit_DeflateAndAes_seal : EngineRuns 0 works ∧ (engineOf 0 works).aes = ⟨.seal, 0, 0, 1, 0, [1]⟩ :: List.replicate 6 ⟨.seal, 0, 0, 1, 0, [1]⟩ ∧ works.peer.mapKey = some 5 ∧ (engineOf 0 works).defl.work.isSome ∧ (engineOf 0 works).ports.length = 8 := by unfold EngineRuns; decide +kernel

/-! ## TimeCommands -/

def master1 : Master := ⟨5, 0, [1], 0, 0⟩

def slave1 : Device := odPut 0x2100 6 1 { up0 with time := { up0.time with slavePort := 0, grandmaster := 5, established := true, st := .holdover, masters := [master1], delayReqAt := some 3, otherRanksSince := some 4, leader := 1 } }

theorem wit_TimeCommands_delay : slave1.time.slavePort ≠ 0xFF ∧ hasLink slave1.time.slavePort slave1 = true ∧ slave1.time.delayReqAt = some 3 := by decide +kernel

def sync1 : SyncMsg := ⟨0, odVal 0x2100 7 slave1, 5, 0, 1000000000⟩

theorem wit_TimeCommands_sync : sync1.domain = odVal 0x2100 7 slave1 ∧ sync1.port = slave1.time.slavePort ∧ sync1.master = slave1.time.grandmaster ∧ ptpPort sync1.port slave1 = true ∧ slave1.time.established = true ∧ slave1.power.run ≠ .starting ∧ (sync1.arrival - sync1.origin - slave1.time.pathDelayNs * 1000).natAbs ≤ 1000000000 := by decide +kernel

theorem wit_TimeCommands_announce : (⟨0, odVal 0x2100 7 slave1, 5, [1], 3, 0⟩ : AnnounceMsg).domain = odVal 0x2100 7 slave1 ∧ ptpPort 0 slave1 = true := by decide +kernel

theorem wit_TimeCommands_receipt : slave1.time.masters.find? (fun m => m.ident == slave1.time.grandmaster && m.port == slave1.time.slavePort) = some master1 ∧ slave1.time.st = .holdover := by decide +kernel

theorem wit_TimeCommands_leader : slave1.time.otherRanksSince = some 4 ∧ slave1.peer.st = 1 ∧ slave1.time.leader ≤ 1 := by decide +kernel

theorem wit_TimeCommands_epoch : linkPhysical { paired with peer := { paired.peer with link := 0 } } = false := by decide +kernel

def waits09 : Device := { paired with power := { paired.power with run := .starting, stage := 6 }, time := { paired.time with waitUntil := some 9 } }

theorem wit_TimeCommands_wait : waits09.time.waitUntil = some 9 ∧ waits09.power.run = .starting ∧ waits09.power.stage = 6 ∧ waits09.time.established = false := by decide +kernel

/-- A master once rejected, and the peer whose time this side leads. -/
def rejected09 : Device := { slave1 with time := { slave1.time with slavePort := 0xFF, rejected := [5], grandmaster := 0, st := .free } }

theorem test_readmit : (readmitMaster sync1 5 rejected09).time.rejected = [] ∧ (readmitMaster sync1 5 rejected09).time.grandmaster = 5 ∧ (readmitMaster sync1 2000000000 rejected09).time.rejected = [5] := by decide +kernel
/-- The follower's offset, by the leader from the times the two saw the other way round (R411). -/
theorem test_heartbeatOffset : heartbeatOffset ⟨5, 11, 12, 20, 3, 1, 1, 5, 0, 6, 7⟩ { paired with time := { paired.time with leader := 1 } } = -2 ∧ heartbeatOffset ⟨12, 20, 5, 11, 3, 1, 1, 5, 0, 6, 7⟩ { paired with time := { paired.time with leader := 0 } } = -2 := by decide +kernel

/-! ## CanCommands -/

def bus (m : NmtState) : Device := { paired with nodeId := 7, can := { paired.can with nmt := m, held := [⟨1, 2, 3⟩] } }

def watching : Device := odPut 0x1016 1 (9 * 65536 + 5) (odPut 0x1017 0 1 (bus .operational))

theorem wit_CanCommands_nmt : (7 = 0 ∨ 7 = (bus .stopped).nodeId) ∧ dictAnswers (bus .stopped) = true ∧ (bus .stopped).can.nmt ≠ .silent := by decide +kernel

theorem wit_CanCommands_all : ((0 : Nat) = 0 ∨ (0 : Nat) = (bus .operational).nodeId) ∧ emcyActive (bus .operational) = true := by decide +kernel

theorem wit_CanCommands_heartbeat : dictAnswers watching = true ∧ watching.can.nmt ≠ .silent ∧ odVal 0x1017 0 watching ≠ 0 ∧ watchedTime watching ≠ 0 ∧ watching.can.heartbeatTimeout = false := by decide +kernel

theorem wit_CanCommands_emcy : emcyActive (bus .preOperational) = true ∧ (bus .preOperational).can.transfers.any (·.node == 3) = false ∧ (bus .preOperational).can.held = ⟨1, 2, 3⟩ :: [] := by decide +kernel

theorem wit_CanCommands_overrun : dictAnswers { watching with can := { watching.can with held := [] } } = true ∧ bit (odVal 0x1014 0 watching) 31 = false ∧ watching.can.inhibitUntil ≤ watching.time.now := by decide +kernel

def mapped : Device := odPut 0x17FF 0 0 (odPut 0x1A00 0 1 (odPut 0x1A00 1 (0x10010008) (odPut 0x1800 5 1 (odPut 0x1800 1 0x180 (bus .operational)))))

theorem wit_CanCommands_tpdo : tpdoOn 1 mapped = true ∧ mapped.can.tpdoSent.length = 4 ∧ odVal 0x1800 5 mapped ≠ 0 ∧ tpdoData 1 mapped ≠ (tpdoLast 1 mapped).1 := by decide +kernel

theorem wit_CanCommands_upload : dictAnswers (bus .operational) = true ∧ transfersFull 3 (bus .operational) = false ∧ odRead (.can 3) 0x1017 0 0 (bus .operational) = .ok (odCurrent (.can 3) 0x1017 0 0 (bus .operational), bus .operational) := by decide +kernel

/-! ## SessionsAndWindows -/

theorem wit_SessionsAndWindows_plain : WayOpen user0 2 owned ∧ PlainWrite user0 0x2A30 0 (leBytes 4 100) owned := by exact ⟨by simp only [WayOpen]; decide +kernel, by decide +kernel, by decide +kernel, by decide +kernel, fun _ _ => rfl, by decide +kernel, by decide +kernel, fun _ _ => ⟨rfl, rfl⟩, by decide, fun h => absurd h (by decide)⟩

theorem wit_SessionsAndWindows_select : windowCount 0x2C10 = some 4096 ∧ (4095 : Nat) < 4096 ∧ TakesWrite user0 0x2C10 1 (leBytes 4 4095) owned := by simp only [TakesWrite, WayOpen]; decide +kernel

theorem wit_SessionsAndWindows_record : windowCount 0x2510 = some 1024 ∧ (cursorOf user0 0x2510 owned).select < 1024 ∧ TakesRead user0 0x2510 2 owned := by simp only [TakesRead, WayOpen]; decide +kernel

theorem wit_SessionsAndWindows_challenge : TakesRead user0 0x3210 1 owned ∧ owned.cipher.alarm ≠ 1 ∧ canTaken user0 owned = false := by simp only [TakesRead, WayOpen]; decide +kernel

theorem wit_SessionsAndWindows_close : TakesWrite user0 0x3210 3 [0] owned := by simp only [TakesWrite, WayOpen]; decide +kernel

theorem wit_SessionsAndWindows_restore : TakesWrite user0 0x1011 1 (leBytes 4 0x64616F6C) owned := by simp only [TakesWrite, WayOpen]; decide +kernel

theorem wit_SessionsAndWindows_idle : owned.dict.sessions.find? (fun x => x.acc == user0) = some ⟨user0, 0, 1⟩ := by decide +kernel

def waits11 : Device := { owned with time := { owned.time with now := sec 30 }, dict := { owned.dict with sessions := [], lockCan := ⟨0, none⟩, lockBand := ⟨3, some 7⟩, challenges := [⟨user0, [1], 0⟩], assemblies := [⟨user0, 0x2F28, 0, [1], 5⟩] } }

theorem wit_SessionsAndWindows_lockout : (wayLock (if true then 2 else 1) waits11).until? = some 7 := by decide +kernel

theorem wit_SessionsAndWindows_expiry : waits11.dict.challenges.find? (fun x => x.acc == user0) = some ⟨user0, [1], 0⟩ := by decide +kernel

theorem wit_SessionsAndWindows_assembly : waits11.dict.assemblies.find? (fun x => x.acc == user0) = some ⟨user0, 0x2F28, 0, [1], 5⟩ := by decide +kernel

theorem wit_SessionsAndWindows_response : TakesWrite user0 0x3210 2 (List.replicate 96 1) waits11 ∧ wayOf user0 ≠ 0 ∧ (wayLock (wayOf user0) waits11).until? = none ∧ canTaken user0 waits11 = false ∧ waits11.dict.challenges.find? (fun x => x.acc == user0) = some ⟨user0, [1], 0⟩ ∧ waits11.time.now ≤ (⟨user0, [1], 0⟩ : Challenge).readAt + sec 30 := by simp only [TakesWrite, WayOpen]; decide +kernel

/-! ## TableWrites -/

/-- A write from `user0` meets the hypotheses that the statement calls `passes`. -/
def passes (idx sub n : Nat) (v : Bytes) (d : Device) : Bool :=
  dictAnswers d && emcyActive d && !transfersFull 3 d && !firmwareBarred user0 idx sub d &&
  (writeFailure user0 idx sub v (unitIdle idx sub d) (idx == 0x3220 && sub == 1) d).isNone && (windowCount idx).all (n < ·) &&
  (refusal idx sub n v (touchIf user0 idx sub d)).isNone && !notStored idx sub n d


theorem passes_meets {idx sub n : Nat} {v : Bytes} {d : Device} (h : passes idx sub n v d = true) :
    TakesWrite user0 idx sub v d ∧ (∀ c, windowCount idx = some c → n < c) ∧
    refusal idx sub n v (touchIf user0 idx sub d) = none ∧ notStored idx sub n d = false := by
  simp only [passes, Bool.and_eq_true, Bool.not_eq_true', Option.isNone_iff_eq_none] at h
  refine ⟨⟨⟨h.1.1.1.1.1.1.1, h.1.1.1.1.1.1.2, h.1.1.1.1.1.2⟩, h.1.1.1.1.2, h.1.1.1.2⟩, fun c hc => ?_, h.1.2, h.2⟩
  have := h.1.1.2
  rw [hc] at this
  simpa using this


def selected (win n : Nat) (d : Device) : Device := { d with dict := { d.dict with cursors := [⟨user0, win, n, 0⟩] } }

/-- A section of a profile, and the smallest profile that passes every check (R362). -/
def sectionOf (t len : Nat) (body : Bytes) : Bytes := padTo len (leBytes 2 t ++ leBytes 2 0 ++ leBytes 4 len ++ body)


def profileBody : Bytes := List.replicate 48 0 ++ sectionOf 1 32 [1, 1, 12, 1] ++ sectionOf 2 32 ([1, 1, 1, 0] ++ leBytes 2 16384 ++ leBytes 2 2000) ++
  sectionOf 3 80 [] ++ sectionOf 4 80 ((List.replicate 14 [1, 0]).flatten) ++ sectionOf 5 48 ([1, 1, 0, 0, 0, 0, 0, 0] ++ [1]) ++
  sectionOf 6 288 [1, 1, 1, 1] ++ sectionOf 7 40 [1] ++ sectionOf 8 32 [1, 0, 4]


def profile1 : Bytes :=
  let h := leBytes 4 0x5046424D ++ leBytes 2 1 ++ leBytes 2 8 ++ leBytes 4 696
  h ++ leBytes 4 1719649172 ++ profileBody


def crcFold (s : BitVec 32) (bs : Bytes) : BitVec 32 := bs.foldl (fun c b => crcBits 0xEDB88320 8 (c ^^^ b.zeroExtend 32)) s

theorem crcFold_cut (s : BitVec 32) (n : Nat) (u : BitVec 32) (bs : Bytes) (h : crcFold s (bs.take n) = u) : crcFold s bs = crcFold u (bs.drop n) := by
  rw [← h, crcFold, crcFold, crcFold, ← List.foldl_append, List.take_append_drop]


theorem crc_profile : crcFold 0xFFFFFFFF (profile1.take 12 ++ [0, 0, 0, 0] ++ profile1.drop 16) = ~~~1719649172#32 := by
  rw [crcFold_cut _ 50 2398035529#32 _ (by decide +kernel),
    crcFold_cut _ 50 2969967690#32 _ (by decide +kernel),
    crcFold_cut _ 50 1932349246#32 _ (by decide +kernel),
    crcFold_cut _ 50 3900472530#32 _ (by decide +kernel),
    crcFold_cut _ 50 4023942711#32 _ (by decide +kernel),
    crcFold_cut _ 50 1999198709#32 _ (by decide +kernel),
    crcFold_cut _ 50 1122389394#32 _ (by decide +kernel),
    crcFold_cut _ 50 2478097387#32 _ (by decide +kernel),
    crcFold_cut _ 50 1768569185#32 _ (by decide +kernel),
    crcFold_cut _ 50 2495350417#32 _ (by decide +kernel),
    crcFold_cut _ 50 3085929281#32 _ (by decide +kernel),
    crcFold_cut _ 50 1436409543#32 _ (by decide +kernel),
    crcFold_cut _ 50 2020565618#32 _ (by decide +kernel),
    crcFold_cut _ 50 2575318123#32 _ (by decide +kernel)]
  decide +kernel


theorem profileCheck_profile1 : profileCheck 3 profile1 (touchIf user0 0x3440 4 owned) = none := by
  have hc : crc32 (profile1.take 12 ++ [0, 0, 0, 0] ++ profile1.drop 16) = 1719649172 := by
    show (~~~(crcFold 0xFFFFFFFF (profile1.take 12 ++ [0, 0, 0, 0] ++ profile1.drop 16))).toNat = _
    rw [crc_profile]; decide
  unfold profileCheck
  rw [hc]
  decide +kernel


theorem wit_TableWrites_namespace : noServingPeer owned = true ∧ passes 0x2510 2 0 (leBytes 8 (2 ^ 32) ++ leBytes 8 0) owned = true := by decide +kernel

theorem wit_TableWrites_binding : passes 0x2620 2 0 (List.replicate 16 0) owned = true ∧ passes 0x2630 2 0 (leBytes 4 1023) owned = true := by decide +kernel

theorem wit_TableWrites_tables : passes 0x2910 31 0 (leBytes 4 30) owned = true ∧ passes 0x2C00 1 0 (leBytes 4 800000) owned = true ∧ passes 0x2D18 16 0 [0] owned = true ∧ passes 0x3448 16 0 [0] owned = true := by decide +kernel

theorem wit_TableWrites_summary : passes 0x3410 1 0 (List.replicate 144 0) owned = true := by decide +kernel

theorem wit_TableWrites_partition : passes 0x2B10 16 0 (leBytes 4 0) owned = true := by decide +kernel

theorem wit_TableWrites_partitionChange : passes 0x2B10 1 0 (leBytes 4 (storedNumber 0x2B10 1 (leBytes 4 0x02000001))) owned = true ∧ (partType (odVal 0x2B10 1 owned), partBase (odVal 0x2B10 1 owned), partSize (odVal 0x2B10 1 owned)) ≠ (partType (storedNumber 0x2B10 1 (leBytes 4 0x02000001)), partBase (storedNumber 0x2B10 1 (leBytes 4 0x02000001)), partSize (storedNumber 0x2B10 1 (leBytes 4 0x02000001))) := by decide +kernel

theorem wit_TableWrites_capture : (7 : Nat) < 8 ∧ passes 0x2307 0x0E 0 (leBytes 1 1) owned = true := by decide +kernel

theorem wit_TableWrites_gear : passes 0x2600 7 0 [2] owned = true := by decide +kernel

theorem wit_TableWrites_board : passes 0x2C10 2 4095 (leBytes 32 0) (selected 0x2C10 4095 owned) = true ∧ (cursorOf user0 0x2C10 (selected 0x2C10 4095 owned)).select = 4095 ∧ ¬ ((boardWritten (boardEntry 4095 owned) (leBytes 32 0)).state = 1 ∧ (boardWritten (boardEntry 4095 owned) (leBytes 32 0)).paired = true) := by decide +kernel

theorem wit_TableWrites_fans : TakesWrite user0 0x2E30 6 (leBytes 2 (ratedRpm 5 owned)) owned ∧ ratedRpm 5 owned < 65536 ∧ TakesWrite user0 0x2E00 1 [63] owned ∧ notStored 0x2E00 1 0 owned = false := by simp only [TakesWrite, WayOpen]; decide +kernel

theorem wit_TableWrites_profile : (3 : Nat) < owned.media.profiles.length ∧ TakesWrite user0 0x3440 4 profile1 owned ∧ (∀ c, windowCount 0x3440 = some c → 0 < c) ∧ refusal 0x3440 4 0 profile1 (touchIf user0 0x3440 4 owned) = none ∧ notStored 0x3440 4 0 owned = false := by exact ⟨by decide +kernel, by simp only [TakesWrite, WayOpen]; decide +kernel, by simp [show windowCount 0x3440 = none by decide +kernel], by simp [refusal, profileCheck_profile1], by decide +kernel⟩

def policy : Device := selected 0x2B20 1024 (odPut 0x2B10 1 (2 * 2 ^ 24 + 1 * 2 ^ 16 + 1 * 2 ^ 8) owned)

theorem wit_TableWrites_search : passes 0x2B20 2 1024 (leBytes 48 1) policy = true ∧ (cursorOf user0 0x2B20 policy).select = 1024 := by decide +kernel

theorem wit_TableWrites_package : ∀ v image, v.length ≤ 131072 → patchCheck false v (baseStore (touchIf user0 0x2F28 0 owned)) (touchIf user0 0x2F28 0 owned) = .ok image → TakesWrite user0 0x2F28 0 v owned ∧ refusal 0x2F28 0 0 v (touchIf user0 0x2F28 0 owned) = none ∧ notStored 0x2F28 0 0 owned = false := by intro v image hl hp; refine ⟨⟨⟨by decide +kernel, by decide +kernel⟩, by decide +kernel, ?_⟩, by simp [refusal, hp], by decide +kernel⟩; simp [writeFailure, show writeGate user0 0x2F28 0 false owned = none by decide +kernel, show odEntry? 0x2F28 0 = some ⟨0, 1, .dom 131072, .wo, true, true, false, 0, 0, 0⟩ by decide +kernel, valueForm, valueRange, Nat.not_lt.2 hl]

/-! ## CommandWrites -/

theorem wit_CommandWrites_board : noServingPeer owned = true ∧ freeFirmwareEntry owned = some 3 := by decide +kernel

theorem wit_CommandWrites_gear : TakesWrite user0 0x2600 7 [1] owned := by simp only [TakesWrite, WayOpen]; decide +kernel

theorem wit_CommandWrites_groups : TakesWrite user0 0x2B00 5 (leBytes 2 (0x100 + 0 % 16)) policy ∧ groupCheck (0x100 + 0 % 16) policy = none ∧ TakesWrite user0 0x2B00 5 (leBytes 2 (0x200 + 0 % 16)) policy ∧ groupCheck (0x200 + 0 % 16) policy = none := by simp only [TakesWrite, WayOpen]; decide +kernel

def slotWord1 (cmd : Nat) : Bytes := leBytes 8 (cmd * 2 ^ 56 + 65535 % 65536 * 2 ^ 32 + 4095 % 4096)

def active13 : Device := { owned with cipher := { owned.cipher with slots := [(4095, { KeySlot.blank with st := .active, key := some 5 })] } }

theorem wit_CommandWrites_retire : TakesWrite user0 0x2800 1 (slotWord1 2) active13 ∧ (slotOf (4095 % 4096) active13).st = .active ∧ noServingPeer active13 = true ∧ freeFirmwareEntry active13 = some 3 := by simp only [TakesWrite, WayOpen]; decide +kernel

theorem wit_CommandWrites_erase : TakesWrite user0 0x2800 1 (slotWord1 3) owned ∧ owned.admin.sanitize = none ∧ erasePlaced owned = false := by simp only [TakesWrite, WayOpen]; decide +kernel

theorem wit_CommandWrites_generate : TakesWrite user0 0x2800 1 (slotWord1 1) owned ∧ (slotOf (4095 % 4096) owned).st = .empty ∧ owned.cipher.alarm = 0 ∧ owned.admin.sanitize = none := by simp only [TakesWrite, WayOpen]; decide +kernel

theorem wit_CommandWrites_reload : TakesWrite user0 0x2800 1 (slotWord1 4) { owned with cipher := { owned.cipher with alarm := 2 } } ∧ ({ owned with cipher := { owned.cipher with alarm := 2 } } : Device).cipher.alarm = 2 := by simp only [TakesWrite, WayOpen]; decide +kernel

theorem wit_CommandWrites_lost : TakesWrite user0 0x2900 0x12 [1] owned := by simp only [TakesWrite, WayOpen]; decide +kernel

def arbiter13 (st : Nat) (fence : Bool) : Device := { owned with peer := { owned.peer with st := st, fenceOut := fence } }

theorem wit_CommandWrites_survive : TakesWrite user0 0x2D40 2 [1] (arbiter13 3 false) ∧ (arbiter13 3 false).peer.st = 3 ∧ (arbiter13 3 false).side = 0 ∧ (arbiter13 3 false).peer.fenceOut = false ∧ TakesWrite user0 0x2D40 2 [2] (arbiter13 3 false) := by simp only [TakesWrite, WayOpen]; decide +kernel

theorem wit_CommandWrites_release : TakesWrite user0 0x2D40 2 [3] (arbiter13 5 true) ∧ (arbiter13 5 true).peer.fenceOut = true := by simp only [TakesWrite, WayOpen]; decide +kernel

theorem wit_CommandWrites_power13 : (3 : Nat) < 4 ∧ (3 < 2 ∨ owned.admin.selfTest = none) ∧ TakesWrite user0 0x2220 1 [BitVec.ofNat 8 3] owned ∧ owned.power.run = .ready ∧ owned.power.entering ≠ some 4 := by simp only [TakesWrite, WayOpen]; decide +kernel

theorem wit_CommandWrites_ps4 : TakesWrite user0 0x2220 1 [4] owned ∧ isReady owned = true ∧ ps4Blocked owned = false ∧ owned.peer.st = 5 ∧ owned.peer.takeover = none := by simp only [TakesWrite, WayOpen]; decide +kernel

def dormant13 : Device := { owned with power := { owned.power with run := .dormant } }

theorem wit_CommandWrites_wake : TakesWrite user0 0x2220 1 [0] dormant13 ∧ dormant13.power.run = .dormant := by simp only [TakesWrite, WayOpen]; decide +kernel

def holdup13 : Device := odPut 0x2240 8 100 (odPut 0x2240 9 1000 { owned with power := { owned.power with holdupOk := true } })

theorem wit_CommandWrites_holdup : TakesWrite user0 0x2240 7 [1] holdup13 ∧ odVal 0x2240 8 holdup13 ≠ 0 ∧ odVal 0x2240 9 holdup13 ≠ 0 ∧ holdup13.power.holdupOk = true ∧ odVal 0x2240 0x0A holdup13 ∉ [1, 2] ∧ holdup13.power.run ≠ .dormant := by simp only [TakesWrite, WayOpen]; decide +kernel

def image13 (a b : ImageSt) : Device := { opened paired with fw := { paired.fw with slots := [⟨a, []⟩, ⟨b, []⟩] } }

theorem wit_CommandWrites_activate : TakesWrite user0 0x2F00 6 [1] (image13 .active .pending) ∧ (slotIn .pending (image13 .active .pending)).isSome ∧ (image13 .active .pending).peer.st = 1 := by simp only [TakesWrite, WayOpen]; decide +kernel

theorem wit_CommandWrites_health : TakesWrite user0 0x2F10 1 (leBytes 4 0x646F6F67) (image13 .valid .trial) ∧ slotIn .trial (image13 .valid .trial) = some 1 ∧ odVal 0x2F10 3 (image13 .valid .trial) = 0 ∧ wayOf user0 ≠ 0 := by simp only [TakesWrite, WayOpen]; decide +kernel

def snap13 : Device := { owned with snap := { owned.snap with snaps := [⟨4095, 1, 0, 0, 2, none, true, true, false, false, false⟩] } }

theorem wit_CommandWrites_snapshot : (4095 : Nat) < 65536 ∧ TakesWrite user0 0x3300 7 (leBytes 2 4095) snap13 ∧ (snapOf 4095 snap13).map (·.st) = some 2 ∧ holdsOf 4095 snap13 = 0 := by simp only [TakesWrite, WayOpen]; decide +kernel

def patched13 : Device := odPut 0x2F20 5 1 owned

theorem wit_CommandWrites_patch : TakesWrite user0 0x2F20 6 [1] patched13 ∧ odVal 0x2F20 5 patched13 = 1 ∧ noServingPeer patched13 = true := by simp only [TakesWrite, WayOpen]; decide +kernel

/-! ## OwnersAndReads -/

def owners14 : Device := { owned with sec := { owned.sec with owners := (owned.sec.owners.set 0 ⟨.valid, [1], [2]⟩).set 14 ⟨.valid, [1], [2]⟩ } }

theorem wit_OwnersAndReads_revoke : (15 : Nat) < 256 ∧ TakesWrite user0 0x3220 2 [BitVec.ofNat 8 15] owners14 ∧ noServingPeer owners14 = true ∧ owners14.sec.owners.length = 15 ∧ (15 : Nat) ≠ 0 ∧ (ownerOf 15 owners14).st = .valid ∧ (validOwners owners14).length ≠ 1 := by simp only [TakesWrite, WayOpen]; decide +kernel

theorem wit_OwnersAndReads_mac : (7 : Nat) < 8 ∧ (1 : Nat) ≤ 21 ∧ (21 : Nat) ≤ 21 ∧ TakesRead user0 (0x2320 + 7) 21 owned ∧ TakesRead user0 (0x2320 + 7) 1 owned ∧ owned.ports.ports.length = 8 := by simp only [TakesRead, WayOpen]; decide +kernel

theorem wit_OwnersAndReads_counters : TakesRead user0 0x2C00 7 owned ∧ TakesRead user0 0x2B00 6 owned := by simp only [TakesRead, WayOpen]; decide +kernel

def unowned14 : Device := odPut 0x2000 3 256 { owned with dict := { owned.dict with sessions := [] } }

theorem wit_OwnersAndReads_enrol : TakesWrite user0 0x3220 1 (List.replicate 248 1) unowned14 ∧ noServingPeer unowned14 = true ∧ unowned14.sec.otpWorks = true ∧ unowned14.sec.owners.length = 15 ∧ isOwned unowned14 = false ∧ strap 8 unowned14 = true := by simp only [TakesWrite, WayOpen]; decide +kernel

/-! ## AbortAndEnds -/

def admCap (op dw10 dw11 : Nat) (data : Bytes) : Capsule := ⟨{ sqe0 with opcode := op, cdw10 := dw10, cdw11 := dw11, sgl := data.length, sglOff := some 0 }, data, data.length⟩

def qa : QueueRef := ⟨0, 1, 0⟩

/-- A partner that holds a secure session, of a device that serves alone. -/
def host0 : Device := { up0 with peer := alone.peer, dict := { up0.dict with sessions := [⟨.inband 0, 0, 1⟩] } }


def slotted (n : Nat) (x : LongSlot) (d : Device) : Device := { d with admin := { d.admin with slots := d.admin.slots.set n x } }

def slot15 : LongSlot := { Reset.longSlot with state := 2, gen := 255, starter := some 0, op := .list 1 [] false none }

theorem wit_AbortAndEnds_abort : AdminOpen qa (admCap 8 0 0 []) assoc0 up0 := by simp only [AdminOpen]; decide +kernel

theorem wit_AbortAndEnds_release : AdminOpen qa (admCap 0xC1 (63 * 256 + 255) 0 []) assoc0 (slotted 63 slot15 up0) ∧ (63 : Nat) = bits (admCap 0xC1 (63 * 256 + 255) 0 []).sqe.cdw10 13 8 ∧ (longSlot 63 (adminServed qa (admCap 0xC1 (63 * 256 + 255) 0 []) (slotted 63 slot15 up0))) = slot15 ∧ slot15.gen = (63 * 256 + 255) % 256 ∧ slot15.starter = some qa.port := by simp only [AdminOpen]; decide +kernel

def tested (x : SelfTest) (d : Device) : Device := { d with admin := { d.admin with selfTest := some x } }

def test15 : SelfTest := ⟨1, 0, 5, 0, none, 0, none⟩

theorem wit_AbortAndEnds_selfTest : (adminServed qa (admCap 0x14 15 0 []) (tested test15 up0)).admin.selfTest = some test15 ∧ test15.starter = qa.port ∧ denied qa 2 false (adminServed qa (admCap 0x14 15 0 []) (tested test15 up0)) = false ∧ AdminOpen qa (admCap 0x14 15 0 []) assoc0 (tested test15 up0) := by simp only [AdminOpen]; decide +kernel

/-! ## AdminReads -/

theorem wit_AdminReads_identify : AdminOpen qa (admCap 6 1 0 []) assoc0 host0 ∧ bits (admCap 6 1 0 []).sqe.cdw10 7 0 = 1 := by simp only [AdminOpen]; decide +kernel

theorem wit_AdminReads_page : AdminOpen qa (admCap 2 2 0 []) assoc0 host0 ∧ (2 : Nat) = bits (admCap 2 2 0 []).sqe.cdw10 7 0 ∧ (2 : Nat) ≠ 0xC1 ∧ logOffset (admCap 2 2 0 []).sqe % 4 = 0 ∧ (logPage 2 (passed assoc0) (adminServed qa (admCap 2 2 0 []) host0)).isSome ∧ denied qa 0 false (adminServed qa (admCap 2 2 0 []) host0) = false := by simp only [AdminOpen]; decide +kernel

def resCap : Capsule := ⟨{ sqe0 with opcode := 2, cdw10 := 0xC1, cdw11 := (63 * 256 + 255) * 2 ^ 16 }, [], 0⟩

theorem wit_AdminReads_results : AdminOpen qa resCap assoc0 (slotted 63 slot15 host0) ∧ (63 : Nat) = bits (bits resCap.sqe.cdw11 31 16) 13 8 ∧ (passed assoc0).discovery = false ∧ logOffset resCap.sqe % 4 = 0 ∧ longSlot 63 (adminServed qa resCap (slotted 63 slot15 host0)) = slot15 ∧ slot15.state ≠ 0 ∧ slot15.gen = bits resCap.sqe.cdw11 31 16 % 256 ∧ slot15.starter = some qa.port := by simp only [AdminOpen]; decide +kernel

theorem wit_AdminReads_feature : AdminOpen qa (admCap 10 7 0 []) assoc0 host0 ∧ bits (admCap 10 7 0 []).sqe.cdw10 10 8 = 0 ∧ bits (admCap 10 7 0 []).sqe.cdw10 7 0 = 7 ∧ bits (admCap 10 0x0B 0 []).sqe.cdw10 7 0 = 0x0B ∧ bits (admCap 10 0x0F 0 []).sqe.cdw10 7 0 = 0x0F := by simp only [AdminOpen]; decide +kernel

def readCap : Capsule := ⟨{ sqe0 with opcode := 0xC2, cdw10 := 0x2A30, cdw12 := 2 ^ 20 }, [], 0⟩

theorem wit_AdminReads_parameter : AdminOpen qa readCap assoc0 host0 ∧ 1 ≤ managementAccess qa.port (adminServed qa readCap host0) ∧ readCap.sqe.cdw12 ≤ 2 ^ 20 ∧ readCap.sqe.cdw11 = 0 ∧ bits readCap.sqe.cdw13 1 0 = 0 ∧ isDomain (bits readCap.sqe.cdw10 15 0) (bits readCap.sqe.cdw10 23 16) = false ∧ (match odRead (.inband 0) 0x2A30 0 0 (adminServed qa readCap host0) with | .ok x => x.1.length | .error _ => 0) = 4 := by simp only [AdminOpen]; decide +kernel

theorem wit_AdminReads_events : (passed { assoc0 with aers := List.replicate 3 ⟨7, 1, false⟩ }).aers.length < 4 ∧ (passed assoc0).events = [] := by decide +kernel

def propCap : Capsule := ⟨{ sqe0 with opcode := 0x7F, cdw11 := 0x14, cdw12 := 1 * 2 ^ 11 }, [], 0⟩

theorem wit_AdminReads_property : AdminOpen qa propCap assoc0 host0 ∧ propCap.sqe.cdw11 = 0x14 ∧ bits propCap.sqe.cdw12 13 11 ≤ 1 := by simp only [AdminOpen]; decide +kernel

theorem wit_AdminReads_keepAlive : assocOf 0 1 { host0 with ports := { host0.ports with assocs := [{ assoc0 with kato := 1 }] } } = some { assoc0 with kato := 1 } ∧ ({ assoc0 with kato := 1 } : Assoc).kato ≠ 0 := by decide +kernel

def named16 : Device := odPut 0x2300 4 0x41 host0

def conn16 (svc qid : Nat) (nqn : Bytes) : ConnectReq := { conn0 with svc := svc, qid := qid, assoc := if qid == 0 then 2 else 1, hostNqn := [0x41], subNqn := nqn, size := 32 }

theorem wit_AdminReads_connectChecks : connectCheck (conn16 8009 0 discoveryNqn) named16 = none ∧ connectCheck (conn16 0 64 subsystemNqn) named16 = none := by constructor <;> simp only [connectCheck, conn16, isDiscovery, bne_self_eq_false, beq_self_eq_true, Bool.and_self, Bool.not_true, Bool.and_false, Bool.false_and] <;> decide +kernel

theorem wit_AdminReads_connect : hasLink 0 named16 = true ∧ portMode 0 named16 = 1 ∧ bit (portOd 0 5 named16) (if (8009 : Nat) == 0 then 1 else 0) = true ∧ bit (portOd 0 5 named16) (if (0 : Nat) == 0 then 1 else 0) = true ∧ connectRepeated (conn16 8009 0 discoveryNqn) named16 = false ∧ connectRepeated (conn16 0 64 []) named16 = false ∧ freeCntlid named16 = some 2 ∧ assocOf 0 1 named16 = some assoc0 ∧ (64 : Nat) ≠ 0 := by decide +kernel

/-! ## AdminSets -/

def setCap (dw10 dw11 : Nat) : Capsule := admCap 9 dw10 dw11 []

/-- `PlainWrite` of an in-band accessor from what evaluates. -/
theorem plain_of {idx sub : Nat} {v : Bytes} {d : Device} (h : (writeFailure (.inband 0) idx sub v (unitIdle idx sub d) (idx == 0x3220 && sub == 1) d).isNone && !firmwareBarred (.inband 0) idx sub d && (windowCount idx).isNone &&
      (refusal idx sub 0 v (touchIf (.inband 0) idx sub d)).isNone && !notStored idx sub 0 d &&
      !(([0x2E30, 0x2C10, 0x2600, 0x2B00, 0x3440, 0x2F28, 0x2F20, 0x2220] : List Nat).contains idx) && (!sharedIdx idx sub || noServingPeer d) = true)
    (hc : ∀ r x, commandWrite (.inband 0) r idx sub (leNat v) v x = none) (hs : ∀ x n, beforeStore idx sub n x = x ∧ afterStore idx sub n x = x) :
    PlainWrite (.inband 0) idx sub v d := by
  simp only [Bool.and_eq_true, Bool.not_eq_true', Option.isNone_iff_eq_none] at h
  obtain ⟨⟨⟨⟨⟨⟨h1, h2⟩, h3⟩, h4⟩, h5⟩, h6⟩, h7⟩ := h
  exact ⟨h1, h2, h3, hc, h4, h5, hs, by simpa using h6, fun hx => by simpa [hx] using h7⟩


theorem wit_AdminSets_arbitration : AdminOpen qa (setCap 1 7) assoc0 host0 ∧ PlainWrite (.inband 0) 0x2410 (0 + 1) (leBytes 4 (setCap 1 7).sqe.cdw11) (adminServed qa (setCap 1 7) host0) ∧ bit (setCap 1 7).sqe.cdw10 31 = false := by exact ⟨by simp only [AdminOpen]; decide +kernel, plain_of (by decide +kernel) (fun _ _ => rfl) (fun _ _ => ⟨rfl, rfl⟩), by decide +kernel⟩

theorem wit_AdminSets_powerState : AdminOpen qa (setCap 2 1) assoc0 host0 ∧ 2 ≤ managementAccess 0 (adminServed qa (setCap 2 1) host0) ∧ (1 : Nat) = bits (setCap 2 1).sqe.cdw11 4 0 ∧ writeFailure (.inband 0) 0x2220 1 (leBytes 1 1) (unitIdle 0x2220 1 (adminServed qa (setCap 2 1) host0)) false (adminServed qa (setCap 2 1) host0) = none ∧ (adminServed qa (setCap 2 1) host0).power.run = .ready ∧ (adminServed qa (setCap 2 1) host0).power.entering ≠ some 4 := by simp only [AdminOpen]; decide +kernel

theorem wit_AdminSets_threshold : AdminOpen qa (setCap 4 (2 ^ 20 + 300)) assoc0 host0 ∧ thresholdSub (2 ^ 20 + 300) = some 0x0D ∧ writeFailure (.inband 0) 0x2010 0x0D (leBytes 2 300) (unitIdle 0x2010 0x0D (adminServed qa (setCap 4 (2 ^ 20 + 300)) host0)) false (adminServed qa (setCap 4 (2 ^ 20 + 300)) host0) = none ∧ notStored 0x2010 0x0D 0 (adminServed qa (setCap 4 (2 ^ 20 + 300)) host0) = false ∧ bits (setCap 4 (2 ^ 20 + 300)).sqe.cdw11 15 0 = 300 := by simp only [AdminOpen]; decide +kernel

def apstCap : Capsule := admCap 9 0x0C 1 (List.replicate 256 0)

theorem wit_AdminSets_apst : AdminOpen qa apstCap assoc0 host0 ∧ 256 ≤ (sglData 0 apstCap).length ∧ (∀ n, n < 27 → leAt (sglData 0 apstCap) (8 * (n + 5)) 8 = 0) ∧ (∀ n, n < 5 → apstOk n (leAt (sglData 0 apstCap) (8 * n) 4) = true) := by simp only [AdminOpen]; decide +kernel

theorem wit_AdminSets_apstStores : PlainWrite (.inband 0) 0x2230 1 (leBytes 1 1) (adminServed qa apstCap host0) ∧ PlainWrite (.inband 0) 0x2230 2 (leBytes 4 0) (adminServed qa apstCap host0) ∧ PlainWrite (.inband 0) 0x2230 6 (leBytes 4 0) (adminServed qa apstCap host0) := by exact ⟨plain_of (by decide +kernel) (fun _ _ => rfl) (fun _ _ => ⟨rfl, rfl⟩), plain_of (by decide +kernel) (fun _ _ => rfl) (fun _ _ => ⟨rfl, rfl⟩), plain_of (by decide +kernel) (fun _ _ => rfl) (fun _ _ => ⟨rfl, rfl⟩)⟩

theorem wit_AdminSets_association : AdminOpen qa (setCap 0x0B 3) assoc0 host0 ∧ bits (setCap 0x0B 3).sqe.cdw10 7 0 = 0x0B ∧ bits (setCap 0x0F 3).sqe.cdw10 7 0 = 0x0F ∧ bit (setCap 0x0F 3).sqe.cdw10 31 = false := by simp only [AdminOpen]; decide +kernel

def writeCap : Capsule := ⟨{ sqe0 with opcode := 0xC1, cdw10 := 0x2A30, cdw12 := 4, cdw13 := 4, sgl := 4, sglOff := some 0 }, leBytes 4 100, 4⟩

theorem wit_AdminSets_parameter : AdminOpen qa writeCap assoc0 host0 ∧ 2 ≤ managementAccess 0 (adminServed qa writeCap host0) ∧ writeCap.sqe.cdw12 ≤ 2 ^ 20 ∧ writeCap.sqe.cdw12 ≤ (sglData 0 writeCap).length ∧ writeCap.sqe.cdw11 = 0 ∧ bit writeCap.sqe.cdw13 2 = true ∧ bits writeCap.sqe.cdw10 15 0 = 0x2A30 ∧ bits writeCap.sqe.cdw10 23 16 = 0 ∧ (sglData 0 writeCap).take writeCap.sqe.cdw12 = leBytes 4 100 := by simp only [AdminOpen]; decide +kernel

theorem wit_AdminSets_parameterStore : PlainWrite (.inband 0) 0x2A30 0 (leBytes 4 100) (adminServed qa writeCap host0) := by exact plain_of (by decide +kernel) (fun _ _ => rfl) (fun _ _ => ⟨rfl, rfl⟩)

def fwCap (dw10 dw11 : Nat) : Capsule := admCap 0x11 dw10 dw11 [1, 2, 3, 4]

def firmware17 (a b : ImageSt) : Device := { host0 with fw := { host0.fw with slots := [⟨a, []⟩, ⟨b, []⟩], delta := some ⟨0, [5, 6, 7, 8]⟩ } }

theorem wit_AdminSets_download : AdminOpen qa (fwCap 0 1) assoc0 (firmware17 .active .empty) ∧ denied qa 2 true (adminServed qa (fwCap 0 1) (firmware17 .active .empty)) = false ∧ (adminServed qa (fwCap 0 1) (firmware17 .active .empty)).fw.delta = some ⟨0, [5, 6, 7, 8]⟩ ∧ 4 * (fwCap 0 1).sqe.cdw11 = 4 ∧ 4 * (fwCap 0 1).sqe.cdw11 + 4 * ((fwCap 0 1).sqe.cdw10 + 1) ≤ 2 ^ 24 ∧ 4 * ((fwCap 0 1).sqe.cdw10 + 1) ≤ (sglData 0 (fwCap 0 1)).length := by simp only [AdminOpen]; decide +kernel

theorem wit_AdminSets_commit : AdminOpen qa (fwCap 2 0) assoc0 (firmware17 .active .valid) ∧ denied qa 2 true (adminServed qa (fwCap 2 0) (firmware17 .active .valid)) = false ∧ slotIn .trial (adminServed qa (fwCap 2 0) (firmware17 .active .valid)) = none ∧ commitSlot (bits (fwCap 2 0).sqe.cdw10 2 0) (adminServed qa (fwCap 2 0) (firmware17 .active .valid)) = some 1 ∧ (1 : Nat) < (adminServed qa (fwCap 2 0) (firmware17 .active .valid)).fw.slots.length ∧ (slotImage 1 (adminServed qa (fwCap 2 0) (firmware17 .active .valid))).st = .valid ∧ slotIn .active (adminServed qa (fwCap 2 0) (firmware17 .active .valid)) = some 0 := by simp only [AdminOpen]; decide +kernel

theorem wit_AdminSets_selfTests : AdminOpen qa (admCap 0x14 1 0 []) assoc0 { host0 with admin := host0.admin } ∧ denied qa 2 false (adminServed qa (admCap 0x14 1 0 []) host0) = false ∧ (adminServed qa (admCap 0x14 1 0 []) host0).admin.selfTest = none ∧ (adminServed qa (admCap 0x14 1 0 []) host0).admin.sanitize = none ∧ idleSlot (adminServed qa (admCap 0x14 1 0 []) host0) = some 0 := by simp only [AdminOpen]; decide +kernel

theorem wit_AdminSets_segment : (tested test15 up0).admin.selfTest = some test15 ∧ test15.segment + 1 < min 7 (segmentsOf test15.kind) := by decide +kernel

def sanitized : Device := { host0 with admin := { host0.admin with sanitizeFailed := true, sanitizeFailedAuse := true } }

theorem wit_AdminSets_sanitize : AdminOpen qa (admCap 0x84 1 0 []) assoc0 sanitized ∧ denied qa 2 true (adminServed qa (admCap 0x84 1 0 []) sanitized) = false ∧ (adminServed qa (admCap 0x84 1 0 []) sanitized).admin.sanitize = none ∧ (adminServed qa (admCap 0x84 1 0 []) sanitized).admin.sanitizeFailed = true ∧ (adminServed qa (admCap 0x84 1 0 []) sanitized).admin.sanitizeFailedAuse = true ∧ (adminServed qa (admCap 0x84 1 0 []) sanitized).peer.st ≠ 2 := by simp only [AdminOpen]; decide +kernel

theorem wit_AdminSets_complete : ({ up0 with admin := { up0.admin with sanitize := some ⟨2, 0, 0, some 5⟩ } } : Device).admin.sanitize = some ⟨2, 0, 0, some 5⟩ ∧ isReady { up0 with admin := { up0.admin with sanitize := some ⟨2, 0, 0, some 5⟩ } } = true ∧ (some 5 : Option Nat).isSome := by decide +kernel

theorem wit_AdminSets_apply : AdminOpen qa (fwCap 2 0) assoc0 (firmware17 .active .empty) ∧ (slotImage 1 (adminServed qa (fwCap 2 0) (firmware17 .active .empty))).st ≠ .active ∧ slotIn .active (adminServed qa (fwCap 2 0) (firmware17 .active .empty)) = some 0 ∧ (adminServed qa (fwCap 2 0) (firmware17 .active .empty)).fw.delta = some ⟨0, [5, 6, 7, 8]⟩ := by simp only [AdminOpen]; decide +kernel

/-! ## LongOperations -/

/-- Namespace 1 is defined for port 0; its snapshot 7 is live. -/
def ns0 : Device := odPutSel 0x2510 2 0 (1 + 2 ^ 32 + 2 ^ 40) { host0 with snap := { host0.snap with snaps := [⟨7, 1, 90, 0, 2, none, true, true, false, false, false⟩, ⟨6, 1, 80, 0, 2, none, true, true, false, false, false⟩] }, time := { host0.time with st := .locked } }


def listCap : Capsule := { admCap 0xC0 0 1 (List.replicate 16 5) with sqe := { (admCap 0xC0 0 1 (List.replicate 16 5)).sqe with nsid := 1 } }

theorem wit_LongOperations_list : ns0.admin.slots.length = 64 ∧ AdminOpen qa listCap assoc0 ns0 ∧ (adminServed qa listCap ns0).admin.sanitize = none ∧ idleSlot (adminServed qa listCap ns0) = some 0 ∧ denied qa 0 false (adminServed qa listCap ns0) = false ∧ (listStart qa listCap (adminServed qa listCap ns0)).check = none := by simp only [AdminOpen]; decide +kernel

def diffCap : Capsule := { admCap 0xC0 0 (6 * 2 ^ 16 + 7) [] with sqe := { (admCap 0xC0 0 (6 * 2 ^ 16 + 7) []).sqe with nsid := 1 } }

theorem wit_LongOperations_difference : AdminOpen qa diffCap assoc0 ns0 ∧ denied qa 1 true (adminServed qa diffCap ns0) = false ∧ denied qa 2 false (adminServed qa diffCap ns0) = false ∧ (differenceStart diffCap (adminServed qa diffCap ns0)).check = none := by simp only [AdminOpen]; decide +kernel

def session18 : Device := odPut 0x3320 16 (1 + 1 * 2 ^ 15) { odPut 0x2300 1 2 ns0 with snap := { ns0.snap with sessions := ns0.snap.sessions.set 15 { ReplSession.blank with st := 1 } }, side := 1 }

theorem wit_LongOperations_replication : AdminOpen qa (admCap 0xC0 0 15 []) assoc0 session18 ∧ sessionReady (15 % 16) (adminServed qa (admCap 0xC0 0 15 []) session18) = true ∧ (sessionOf (15 % 16) (adminServed qa (admCap 0xC0 0 15 []) session18)).st = 1 := by simp only [AdminOpen]; decide +kernel

theorem wit_LongOperations_expiry : (63 : Nat) < 64 ∧ 3 ≤ (longSlot 63 (slotted 63 { slot15 with state := 3 } up0)).state := by decide +kernel

def failed18 : FailedElement := ⟨9, 1, 3, [], 0, 0, 0, 0, 0, 0, 0, 0⟩

def report18 : Device := slotted 63 { slot15 with op := .rebuildReport [9] } { host0 with stripe := { host0.stripe with failed := [failed18] } }

theorem wit_LongOperations_record : (63 : Nat) < 64 ∧ (longSlot 63 report18).state = 2 ∧ report18.peer.takeover = none ∧ isReady report18 = true ∧ (longSlot 63 report18).op = .rebuildReport [9] ∧ poolUsed report18 + 64 ≤ poolBytes ∧ report18.stripe.failed.find? (fun x => x.addr == 9) = some failed18 ∧ report18.admin.slots.length = 64 := by decide +kernel

def erasure18 : Device := slotted 63 { slot15 with op := .erasure 1 [] [] [4], results := List.replicate 64 0 } host0

theorem wit_LongOperations_erasure : (longSlot 63 erasure18).state = 2 ∧ (pairUp erasure18 || noServingPeer erasure18) = true ∧ (longSlot 63 erasure18).op = .erasure 1 [] [] [4] ∧ 64 ≤ (longSlot 63 erasure18).results.length ∧ poolUsed erasure18 + 8 ≤ poolBytes ∧ (∀ i ∈ [4], stripeOf i erasure18 = none) := by decide +kernel

def snapCap (n : Nat) : Capsule := { admCap 0xC8 0 n [] with sqe := { (admCap 0xC8 0 n []).sqe with nsid := 1 } }

theorem wit_LongOperations_create : AdminOpen qa (snapCap 0) assoc0 ns0 ∧ denied qa 2 false (adminServed qa (snapCap 0) ns0) = false ∧ (snapCap 0).sqe.nsid = 1 ∧ (1 : Nat) ≠ 0xFFFFFFFF ∧ 1 ∈ attachedNs qa.port (adminServed qa (snapCap 0) ns0) ∧ (createRefused [1] (adminServed qa (snapCap 0) ns0)).isNone ∧ noServingPeer (adminServed qa (snapCap 0) ns0) = true := by simp only [AdminOpen]; decide +kernel

theorem wit_LongOperations_delete : AdminOpen qa (snapCap 7) assoc0 ns0 ∧ (adminServed qa (snapCap 7) ns0).admin.sanitize = none ∧ snapOf ((snapCap 7).sqe.cdw11 % 4096) (adminServed qa (snapCap 7) ns0) = some ⟨7, 1, 90, 0, 2, none, true, true, false, false, false⟩ ∧ holdsOf ((snapCap 7).sqe.cdw11 % 4096) (adminServed qa (snapCap 7) ns0) = 0 := by simp only [AdminOpen]; decide +kernel

/-! ## EngineDescriptors -/

theorem wit_EngineDescriptors_post : clusterStopped (4094 % 4096 / 2 % 4) paired = false ∧ 4094 % 4096 / 2 % 4 < paired.eng.queues.length ∧ paired.eng.queues.length = 4 ∧ runningClusters paired ≠ [] := by decide +kernel

def taking19 : Device := { paired with eng := { paired.eng with activating := [3] } }

theorem wit_EngineDescriptors_taking : taking19.eng.activating.head? = some (4094 % 4096 / 2 % 4) ∧ (runningClusters taking19).find? (· != 3) = some 0 ∧ 0 < taking19.eng.queues.length := by decide +kernel

theorem test_EngineDescriptors_taking : goes (.workDescriptorPost true 4094 work0) taking19 fun t => (clusterQueue 0 t).length == 1 && (clusterQueue 3 t).isEmpty := by decide +kernel

theorem wit_EngineDescriptors_returned : descOf work0.tag run0 = some work0 ∧ cmdOf (tagCmd work0.tag) run0 = none := by decide +kernel

theorem wit_EngineDescriptors_check : (0 : Nat) < 64 ∧ 0 < (withEngine 0 Engine.blank paired).eng.engines.length ∧ (engineOf 0 (withEngine 0 { Engine.blank with st := 2, checks := [0] } { paired with time := { paired.time with now := sec 3600 + 1 } })).st < 3 ∧ (∀ c ∈ [0], c + sec 3600 < sec 3600 + 1) ∧ (engineOf 0 (withEngine 0 { Engine.blank with st := 2, checks := [0] } paired)).ctx.desc = none := by decide +kernel

theorem wit_EngineDescriptors_running : EngineRuns 0 run0 ∧ (engineOf 0 run0).ctx.desc = some work0 ∧ (engineOf 0 run0).st = 1 ∧ (engineOf 0 run0).checks = [] := by simp only [EngineRuns]; decide +kernel

def slice19 : Device := withEngine 0 { eng1 with ctx := { eng1.ctx with desc := some { work0 with cls := 4 } } } paired

theorem wit_EngineDescriptors_slice : EngineRuns 0 slice19 ∧ (engineOf 0 slice19).ctx.desc = some { work0 with cls := 4 } ∧ higherWaits 0 slice19 = false := by simp only [EngineRuns]; decide +kernel

def parked19 : Device := withEngine 0 { Engine.blank with st := 0, parked := some { SeqCtx.blank with desc := some work0 } } paired

theorem wit_EngineDescriptors_resumed : EngineRuns 0 parked19 ∧ (engineOf 0 parked19).ctx.desc = none ∧ (engineOf 0 parked19).parked = some { SeqCtx.blank with desc := some work0 } ∧ higherWaits 0 parked19 = false := by simp only [EngineRuns]; decide +kernel

/-! ## EngineLocksAndRecords -/

theorem wit_EngineLocksAndRecords_runs : EngineRuns 0 run0 ∧ (1 : Nat) ≤ 4 ∧ (4 : Nat) ≤ 4 ∧ (1 : Nat) ≤ 15 ∧ (15 : Nat) ≤ 15 := by simp only [EngineRuns]; decide +kernel

/-! ## EngineFlash -/

theorem wit_EngineFlash_idle : EngineRuns 0 run0 ∧ engineOp 0 run0 = none ∧ ownsChannel (memberOf (reg 0 0 run0)).channel run0 = true ∧ memberAt (memberOf (reg 0 0 run0)) run0 = none := by simp only [EngineRuns]; decide +kernel

def other21 : Device := withEngine 0 { eng1 with ctx := { eng1.ctx with regs := [(1, 127 * 2 ^ 57)] } } { paired with stripe := { paired.stripe with stripes := [{ str1 with members := [⟨⟨127, 0, 0, 0, 0⟩, false, true, true, false, false, 0⟩] }] } }

theorem wit_EngineFlash_other : EngineRuns 0 other21 ∧ engineOp 0 other21 = none ∧ ownsChannel (memberOf (reg 0 1 other21)).channel other21 = false := by simp only [EngineRuns]; decide +kernel

theorem wit_EngineFlash_program : memberAt (memberOf (reg 0 1 other21)) other21 = some ({ str1 with members := [⟨⟨127, 0, 0, 0, 0⟩, false, true, true, false, false, 0⟩] }, 0) ∧ stripeOf str1.id other21 = some { str1 with members := [⟨⟨127, 0, 0, 0, 0⟩, false, true, true, false, false, 0⟩] } := by decide +kernel

def op21 (k : FlashKind) (e : Option Nat) : FlashOp := ⟨6, k, ⟨0, 0, 0, 0, 0⟩, 5, 0, 1, false, 0, 1, none, e, false, false, 0, false, false, none⟩

def toll21 (k : FlashKind) (e : Option Nat) : Device := odPut 0x3460 1 100 (odPut 0x2210 1 0x1FFFFFF (withEngine 0 { eng1 with flash := some 6 } { paired with media := { paired.media with ops := [op21 k e] }, peer := { paired.peer with driven := 2 ^ 128 - 1 } }))

theorem wit_EngineFlash_request : EngineRuns 0 (toll21 .hostRead (some 0)) ∧ engineOp 0 (toll21 .hostRead (some 0)) = some (op21 .hostRead (some 0)) ∧ mayStart (op21 .hostRead (some 0)) (toll21 .hostRead (some 0)) = true ∧ (op21 .hostRead (some 0)).kind.isRead = true := by simp only [EngineRuns]; decide +kernel

theorem wit_EngineFlash_requestWrite : engineOp 0 (toll21 .program (some 0)) = some (op21 .program (some 0)) ∧ mayStart (op21 .program (some 0)) (toll21 .program (some 0)) = true ∧ (op21 .program (some 0)).kind.isRead = false ∧ (op21 .program (some 0)).started = false := by decide +kernel

theorem wit_EngineFlash_granted : opOf (op21 .program none).id (toll21 .program none) = some (op21 .program none) ∧ mayStart (op21 .program none) (toll21 .program none) = true := by decide +kernel

/-! ## EngineSearchAndClaims -/

theorem wit_EngineSearchAndClaims_open_ : EngineRuns 0 run0 ∧ hotDiverted run0 = false := by simp only [EngineRuns]; decide +kernel

theorem wit_EngineSearchAndClaims_diverted : EngineRuns 0 { run0 with cam := { run0.cam with step := 1 } } ∧ hotDiverted { run0 with cam := { run0.cam with step := 1 } } = true := by simp only [EngineRuns]; decide +kernel

def chunk22 : WorkChunk := ⟨[7], List.replicate 32 0, some 0, true, true, true, none, none, none, none, false⟩

def item22 (r : Bool) : Item := ⟨0, [1], [7], 0, 0, 0, 0, 0, 1, [chunk22], 0, r, 0, none, false, false, false⟩

def cmd22 (r : Bool) : Cmd := { newCmd 1 ⟨3, 1, 1⟩ ⟨{ sqe0 with opcode := 1 }, [], 0⟩ 0 5 false with items := [item22 r], phase := .reducing }

def claim22 (r : Bool) (part : Nat) : Device := withEngine 0 { eng1 with chunker := ⟨true, [], [7], []⟩, ctx := { SeqCtx.blank with desc := some { work0 with tag := 1 * 4096 * 4096 + part } } } { paired with nvme := { paired.nvme with cmds := [cmd22 r] } }

theorem wit_EngineSearchAndClaims_claim : EngineRuns 0 (claim22 false 0) ∧ curItem 0 (claim22 false 0) = some (cmd22 false, 0, item22 false) ∧ (item22 false).reduced = false ∧ (engineOf 0 (claim22 false 0)).chunker.chunk ≠ [] := by simp only [EngineRuns]; decide +kernel

theorem wit_EngineSearchAndClaims_release : curItem 0 (claim22 true 0) = some (cmd22 true, 0, item22 true) ∧ ((item22 true).chunks.zipIdx.find? fun x => x.1.fp == (((engineOf 0 (claim22 true 0)).ports.drop 1).take 4).flatMap (fun p => leBytes 8 p) && x.1.claimed && !x.1.stored) = some (chunk22, 0) := by decide +kernel

theorem wit_EngineSearchAndClaims_present : curChunk 0 (claim22 true 1) = some (cmd22 true, 0, item22 true, 0, chunk22) := by decide +kernel

/-! ## PortTransport -/

def frame23 (st : Nat) (cap : Option (QueueRef × Capsule)) : RxFrame := ⟨64, [0, 0, 0, 0, 0, 0], none, 3, st, 1, 0, [], 0, none, cap⟩

theorem wit_PortTransport_bad : hasLink 0 up0 = true ∧ (portOf 0 up0).mac.length = 21 ∧ frameStatus 0 (frame23 4 none) up0 ≠ 0 ∧ bit (frameStatus 0 (frame23 4 none) up0) 2 = true := by decide +kernel

theorem test_PortTransport_bad : goes (.frameReceive 0 (frame23 4 none)) up0 fun t => macCount 0 3 t == 1 && macCount 0 4 t == 1 := by decide +kernel

theorem wit_PortTransport_good : frameStatus 0 (frame23 0 none) up0 = 0 ∧ protocolOk 0 (frame23 0 none) up0 = true ∧ bufferDrops 0 (frame23 0 none) up0 = false ∧ (frame23 0 none).gap = none := by decide +kernel

theorem test_PortTransport_good : goes (.frameReceive 0 (frame23 0 none)) up0 fun t => macCount 0 1 t == 1 && macCount 0 2 t == 64 := by decide +kernel

theorem wit_PortTransport_capsule : frameStatus 0 (frame23 0 (some (⟨0, 1, 64⟩, ⟨sqe0, [], 0⟩))) up0 = 0 ∧ portMode 0 up0 = 1 ∧ (⟨0, 1, 64⟩ : QueueRef).port = 0 := by decide +kernel

def addr23 : Device := odPut 0x2300 7 (0x18 * 2 ^ 32 + 0x0A0B0C0D) (odPut 0x2300 8 1 up0)

theorem wit_PortTransport_arp : ipv4Of 0 addr23 ≠ 0 ∧ portOd 0 7 addr23 ≠ 0 ∧ hasLink 0 addr23 = true := by decide +kernel

theorem wit_PortTransport_echo : portOd 0 (if true then 8 else 7) addr23 ≠ 0 ∧ ((portOf 0 addr23).echoWindow + sec 1 ≤ addr23.time.now ∨ (portOf 0 addr23).echoCount < 1000) := by decide +kernel

theorem wit_PortTransport_echoMany : (onPort 0 (fun x => { x with echoCount := 1000 }) addr23).time.now < (portOf 0 (onPort 0 (fun x => { x with echoCount := 1000 }) addr23)).echoWindow + sec 1 ∧ 1000 ≤ (portOf 0 (onPort 0 (fun x => { x with echoCount := 1000 }) addr23)).echoCount := by decide +kernel

theorem test_PortTransport_echoMany : goes (.icmpEcho 0 ⟨true, [5]⟩) (onPort 0 (fun x => { x with echoCount := 1000 }) addr23) fun t => macCount 0 8 t == 1 && t.out == [] := by decide +kernel

theorem wit_PortTransport_icreq : portMode 0 up0 ≠ 2 ∧ bit (portOd 0 5 up0) 0 = true ∧ portMode 0 (odPut 0x2300 1 2 up0) = 2 := by decide +kernel

def pair23 : Device := odPut 0x2300 5 3 { up0 with ports := { up0.ports with qps := [⟨0, 7, 5, some 1, 0⟩] }, time := { up0.time with now := us 50 + 1 } }

theorem wit_PortTransport_roce : portMode 0 pair23 ≠ 2 ∧ bit (portOd 0 5 pair23) 1 = true ∧ qpOf 0 7 pair23 = some ⟨0, 7, 5, some 1, 0⟩ ∧ (1 : Nat) + us 50 ≤ pair23.time.now := by decide +kernel

theorem wit_PortTransport_rate : (⟨0, 7, 5, some 1, 0⟩ : QueuePair).rate < lineRate := by decide +kernel

theorem test_PortTransport_rate : goes (.rateIncreaseTimer 0 7) pair23 fun t => (qpOf 0 7 t).map (·.rate) == some (min lineRate (5 + rateStep)) := by decide +kernel

/-! ## PortLinks -/

def net24 : Device := odPut 0x2210 1 (2 ^ 22) up0

theorem wit_PortLinks_up : (0 : Nat) < net24.ports.ports.length ∧ (portOf 0 net24).mac.length = 21 ∧ portMode 0 net24 ≠ 0 ∧ domainOn 22 net24 = true ∧ isUp net24 = true ∧ portOd 0 2 net24 ≤ 2 := by decide +kernel

theorem test_PortLinks_up : goes (.portLinkUp 0 (portLanes 0 net24)) net24 fun t => (portOf 0 t).link == 2 && (portOf 0 t).lanes == portLanes 0 net24 && t.power.sdclk := by decide +kernel

def full24 (mode : Nat) (sent : Bool) : Device := odPut 0x2300 0x0B mode (onPort 0 (fun x => { x with pauseSent := sent }) up0)

theorem wit_PortLinks_full : rxBuffer * 3 / 4 ≤ rxBuffer * 3 / 4 ∧ (portOf 0 (full24 1 false)).pauseSent = false ∧ portOd 0 0x0B (full24 1 false) = 1 ∧ portOd 0 0x0B (full24 2 false) = 2 ∧ hasLink 0 (full24 1 false) = true := by decide +kernel

theorem wit_PortLinks_drained : rxBuffer / 2 ≤ rxBuffer / 2 ∧ (portOf 0 (full24 1 true)).pauseSent = true ∧ portOd 0 0x0B (full24 1 true) = 1 := by decide +kernel

theorem wit_PortLinks_pfc : portOd 0 0x0B (full24 2 false) = 2 ∧ (portOf 0 (full24 2 false)).pfcUntil.length = 8 ∧ (7 : Nat) < 8 := by decide +kernel

theorem test_PortLinks_pfc : goes (.pauseReceive 0 true 255 9) (full24 2 false) fun t => (List.range 8).all fun n => (portOf 0 t).pfcUntil.getD n none == if bit (portOd 0 0x0C up0) n then some (quantaTicks 0 9 up0) else none := by decide +kernel

/-! ## BoardLaunches -/

def placing1 : Placement := ⟨9, { BoardEntry.blank with action := 16, launch := 1601, state := 1 }, .firmware⟩

def entry25 (n action unit arg : Nat) (d : Device) : Device := { d with board := { d.board with entries := [(n, { BoardEntry.blank with launch := 100, action := action, unit := unit, arg := arg, state := 1 })] } }

theorem wit_BoardLaunches_launch : LaunchesAlone 4095 (boardEntry 4095 (entry25 4095 0x10 5 9 alone)) (entry25 4095 0x10 5 9 alone) ∧ (boardEntry 4095 (entry25 4095 0x10 5 9 alone)).action = 0x10 := by simp only [LaunchesAlone]; decide +kernel

theorem test_BoardLaunches_launch : goes (.eventMark 4095) (entry25 4095 0x10 5 9 alone) (fun t => lg 0x0D06 5 0 9 t && (boardEntry 4095 t).state == 2 && odVal 0x2C00 2 t == 1) := by decide +kernel

theorem wit_BoardLaunches_freeze : LaunchesAlone 0 (boardEntry 0 (entry25 0 6 0 2 alone)) (entry25 0 6 0 2 alone) ∧ (2 % 65536 ≠ 7) := by simp only [LaunchesAlone]; decide +kernel

theorem test_BoardLaunches_freeze : goes (.freeze 0) (entry25 0 6 0 2 alone) fun t => t.power.run == .halted && t.board.frozen && lg 0x1405 0x73 3 2 t := by decide +kernel

theorem wit_BoardLaunches_fan : LaunchesAlone 9 (boardEntry 9 (entry25 9 0x0B 0x85 0x10000 alone)) (entry25 9 0x0B 0x85 0x10000 alone) ∧ (0x85 : Nat) = 0x80 + 5 ∧ 5 < (entry25 9 0x0B 0x85 0x10000 alone).fans.length := by simp only [LaunchesAlone]; decide +kernel

theorem wit_BoardLaunches_others : LaunchesAlone 1 (boardEntry 1 (entry25 1 2 0 0 alone)) (entry25 1 2 0 0 alone) ∧ (boardEntry 1 (entry25 1 2 0 0 alone)).action = 2 := by simp only [LaunchesAlone]; decide +kernel

/-! ## BoardActions -/

theorem wit_BoardActions_channel : LaunchesAlone 9 (boardEntry 9 (entry25 9 4 15 (255 * 256) alone)) (entry25 9 4 15 (255 * 256) alone) ∧ (7 : Nat) < 8 ∧ (15 : Nat) < (entry25 9 4 15 (255 * 256) alone).peer.owners.length ∧ bit (bits (255 * 256) 15 8) 7 = true := by simp only [LaunchesAlone]; decide +kernel

theorem wit_BoardActions_bucket : LaunchesAlone 9 (boardEntry 9 (entry25 9 5 0 4095 paired)) (entry25 9 5 0 4095 paired) ∧ b2n (bit 4095 16) = paired.side := by simp only [LaunchesAlone]; decide +kernel

theorem test_BoardActions_bucket : goes (.bucketMove 9) (entry25 9 5 0 4095 paired) fun t => t.peer.moves.any fun m => m.bucket == 4095 && m.launched := by decide +kernel

def group26 (action : Nat) : Device := entry25 9 action 15 0 (odPut 0x3448 16 0 { alone with media := { alone.media with profiles := [[1]] } })

theorem wit_BoardActions_power : LaunchesAlone 9 (boardEntry 9 (group26 8)) (group26 8) ∧ (profileOf 15 (group26 8)).isSome ∧ domainOn 15 (group26 8) = false ∧ domainFaulty 15 (group26 8) = false := by simp only [LaunchesAlone]; decide +kernel

theorem wit_BoardActions_gear : LaunchesAlone 9 (boardEntry 9 (entry25 9 0x0C 0 0 alone)) (entry25 9 0x0C 0 0 alone) := by simp only [LaunchesAlone]; decide +kernel

theorem test_BoardActions_gear : goes (.gearActivate 9) (entry25 9 0x0C 0 0 alone) fun t => t.admin.events.any fun e => e.code == 0x0702 && e.unit == 0x42 := by decide +kernel

theorem wit_BoardActions_retire : LaunchesAlone 9 (boardEntry 9 (entry25 9 0x0E 0 4095 active13)) (entry25 9 0x0E 0 4095 active13) ∧ (slotOf (4095 % 4096) (entry25 9 0x0E 0 4095 active13)).st = .active := by simp only [LaunchesAlone]; decide +kernel

theorem test_BoardActions_retire : goes (.slotRetire 9) (entry25 9 0x0E 0 4095 active13) fun t => (slotOf 4095 t).st == .decryptOnly := by decide +kernel

def report26 : Device := { paired with board := { paired.board with reports := [(9, 5, 0)] } }

theorem wit_BoardActions_mismatch : report26.board.reports.find? (·.1 == 9) = some (9, 5, 0) ∧ linkIsUp report26 = true ∧ (∀ h ∈ report26.peer.handovers, h.entry ≠ 9) := by decide +kernel

theorem test_BoardActions_mismatch : goes (.pairedLaunchMismatch 9) report26 fun t => (boardEntry 9 t).mismatch && lg 0x0D05 0x51 2 (9 * 2 ^ 32 + 5) t := by decide +kernel

theorem wit_BoardActions_deadline : { paired with board := { paired.board with placing := [placing1] } }.board.placing.find? (·.entry == 9) = some placing1 := by decide +kernel

theorem test_BoardActions_deadline : goes (.pairedPlacementDeadline 9) { paired with board := { paired.board with placing := [placing1] } } fun t => t.board.placing.isEmpty && linked (.cancel 9) t := by decide +kernel

/-! ## LinkFrames -/

theorem wit_LinkFrames_bad : linkPhysical paired = true ∧ frameOk { hdr1 with seq := 2 } 0 paired = false := by decide +kernel

theorem test_LinkFrames_bad : goes (.place { hdr1 with seq := 2 } 1 ⟨0, 0, 0, 0, 16, false, false⟩) paired fun t => odVal 0x2D00 3 t == 1 && t.board == paired.board := by decide +kernel

def sent1 : Device := { paired with peer := { paired.peer with unacked := [⟨3, 1, .armed 5, 0⟩], waiting := [] } }

theorem wit_LinkFrames_ack : linkPhysical sent1 = true ∧ frameOk { hdr1 with ack := 1, credit := 3 } 3 sent1 = true ∧ 3 < sent1.peer.classes.length ∧ sent1.peer.waiting = [] := by decide +kernel

theorem test_LinkFrames_ack : goes (.ack { hdr1 with ack := 1, credit := 3 } 3) sent1 fun t => (linkClass 3 t).credit == 3 && (linkClass 3 t).acked == 1 && t.peer.unacked.isEmpty := by decide +kernel

theorem wit_LinkFrames_resend : linkPhysical sent1 = true ∧ (sent1.peer.unacked.find? (·.cls == 3)).isSome = true := by decide +kernel

theorem test_LinkFrames_resend : goes (.frameRetransmitTimer 3) sent1 fun t => t.out.contains (.link 3 (.armed 5)) && t.time.now == us 20 := by decide +kernel

def owing : Device := { paired with peer := { paired.peer with classes := paired.peer.classes.set 0 ⟨0, 0, 0, 0, some 7⟩ } }

theorem wit_LinkFrames_ackTimer : linkPhysical owing = true ∧ (linkClass 0 owing).ackDue = some 7 := by decide +kernel

theorem test_LinkFrames_ackTimer : goes (.ackTimer 0) owing fun t => t.out.contains (.link 0 .ack) && (linkClass 0 t).ackDue == none && t.time.now == 7 + us 2 := by decide +kernel

def fresh : Device := odPut 0x2000 4 9 { paired with fw := { paired.fw with slots := [⟨.active, []⟩] }, peer := { paired.peer with st := 2, met := false, helloSeen := false, helloDone := false } }

def hello1 : HelloMsg := ⟨9, 1, true, activeRevision fresh, 0, 0, [], [], 0, 0⟩

theorem wit_LinkFrames_helloMeet : FrameTaken hdr1 0 fresh ∧ fresh.peer.st ≠ 6 ∧ fresh.peer.st ≠ 7 ∧ fresh.peer.fenceOut = false ∧ fresh.peer.takeover = none ∧ helloCheck hello1 fresh = 0 ∧ isReady fresh = true ∧ fresh.peer.met = false ∧ pairIdentity fresh ≠ 0 := by unfold FrameTaken; decide +kernel

theorem test_LinkFrames_helloMeet : goes (.hello hdr1 hello1) fresh fun t => t.peer.st == 1 && t.peer.helloDone := by decide +kernel

theorem wit_LinkFrames_helloRefuse : FrameTaken hdr1 0 fresh ∧ helloCheck { hello1 with side := 0 } fresh = 1 := by unfold FrameTaken; decide +kernel

theorem test_LinkFrames_helloRefuse : goes (.hello hdr1 { hello1 with side := 0 }) fresh fun t => t.peer.st == 7 && lg 0x0E0A 0x60 2 1 t := by decide +kernel

theorem wit_LinkFrames_helloRefuse2 : helloCheck { hello1 with ident := 8 } { fresh with power := Reset.power } ≠ 0 ∧ serving { fresh with power := Reset.power } = false := by decide +kernel

theorem test_LinkFrames_helloRefuse2 : goes (.hello hdr1 { hello1 with ident := 8 }) { fresh with power := Reset.power } fun t => t.peer.st == 7 && lg 0x0E0A 0x60 2 2 t := by decide +kernel

theorem wit_LinkFrames_helloFence : 1 < helloCheck { hello1 with ident := 8, serving := false } fresh ∧ serving fresh = true := by decide +kernel

theorem test_LinkFrames_helloFence : goes (.hello hdr1 { hello1 with ident := 8, serving := false }) fresh fun t => t.peer.fenceOut && t.peer.st == 5 && lg 0x0E04 0x60 2 4 t := by decide +kernel

theorem wit_LinkFrames_heartbeat : FrameTaken hdr1 0 paired ∧ paired.peer.helloDone = true := by unfold FrameTaken; decide +kernel

theorem test_LinkFrames_heartbeat : goes (.heartbeat hdr1 ⟨1, 2, 3, 4, 3, 1, 1, 5, 0, 6, 7⟩) paired fun t => t.peer.peerAnnounced == 1 && t.peer.peerRoom == 5 && t.peer.peerDurable == 6 && t.time.peerState == 3 && t.time.peerRank == 1 := by decide +kernel

def away27 : Device := { paired with peer := { paired.peer with st := 2, treatedDown := true, lastHeartbeat := 0, heartbeatSince := 0 } }

theorem wit_LinkFrames_heartbeatBack : FrameTaken hdr1 0 away27 ∧ away27.peer.helloDone = true ∧ away27.peer.treatedDown = true := by unfold FrameTaken; decide +kernel

theorem test_LinkFrames_heartbeatBack : goes (.heartbeat hdr1 ⟨1, 2, 3, 4, 3, 1, 1, 5, 0, 6, 7⟩) away27 fun t => t.peer.peerAnnounced == 1 := by decide +kernel

theorem wit_LinkFrames_loopback : FrameTaken hdr1 0 paired ∧ hdr1.echo = false := by unfold FrameTaken; decide +kernel

theorem test_LinkFrames_loopback : goes (.loopback hdr1 5 [1]) paired (linked (.loopback 5 [1] true)) := by decide +kernel

theorem test_LinkFrames_place : goes (.place hdr1 4095 ⟨90, 1, 0, 0, 16, false, false⟩) paired fun t => linked (.armed 4095) t && (boardEntry 4095 t).state == 1 && (boardEntry 4095 t).launch == 90 := by decide +kernel

def placed1 (now : Nat) : Device := { paired with board := { paired.board with placing := [placing1] }, time := { paired.time with counter := now } }

theorem wit_LinkFrames_armed : FrameTaken hdr1 0 (placed1 0) ∧ (placed1 0).board.placing.find? (·.entry == 9) = some placing1 ∧ (placed1 0).time.counter < placing1.body.launch - 1600 := by unfold FrameTaken; decide +kernel

theorem test_LinkFrames_armed : goes (.armed hdr1 9) (placed1 0) fun t => (boardEntry 9 t).state == 1 && t.board.placing.isEmpty := by decide +kernel

theorem wit_LinkFrames_armedLate : (placed1 1).board.placing.find? (·.entry == 9) = some placing1 ∧ placing1.body.launch - 1600 ≤ (placed1 1).time.counter := by decide +kernel

theorem test_LinkFrames_armedLate : goes (.armed hdr1 9) (placed1 1) fun t => linked (.cancel 9) t && (boardEntry 9 t).state == 0 && t.board.placing.isEmpty := by decide +kernel

def held9 : Device := putEntry 9 placing1.body paired

theorem wit_LinkFrames_cancel : FrameTaken hdr1 0 held9 ∧ (boardEntry 9 held9).state = 1 := by unfold FrameTaken; decide +kernel

theorem test_LinkFrames_cancel : goes (.cancel hdr1 9) held9 fun t => (boardEntry 9 t).state == 3 := by decide +kernel

theorem wit_LinkFrames_report : ∃ r ∈ ({ paired with board := { paired.board with reports := [(9, 5, 0)] } } : Device).board.reports, r.1 = 9 ∧ r.2.1 = 5 := by decide +kernel

theorem test_LinkFrames_report : goes (.launchReport hdr1 9 5) { paired with board := { paired.board with reports := [(9, 5, 0)] } } fun t => t.board.reports.isEmpty := by decide +kernel

theorem wit_LinkFrames_reportEarly : ∀ r ∈ paired.board.reports, ¬ (r.1 = 9 ∧ r.2.1 = 5) := by decide +kernel

theorem test_LinkFrames_reportEarly : goes (.launchReport hdr1 9 5) paired fun t => t.board.early.contains (9, 5) := by decide +kernel

/-! ## PeerLiveness -/

def alive6 : Device := { paired with peer := { paired.peer with lastToggle := 5, aliveLast := 6, watchdogAt := 5 } }

theorem wit_PeerLiveness_toggle : aliveAllowed alive6 = true := by decide +kernel

theorem test_PeerLiveness_toggle : goes .peerAliveToggle alive6 fun t => t.peer.aliveOut && t.peer.lastToggle == 5 + us 50 && t.time.now == 5 + us 50 := by decide +kernel

theorem wit_PeerLiveness_asserted : isUp alive6 = true ∧ alive6.peer.aliveIn = false := by decide +kernel

theorem test_PeerLiveness_asserted : goes .peerAliveAsserted alive6 fun t => t.peer.aliveIn && lg 0x0E02 0x60 1 1 t := by decide +kernel

def seen6 : Device := { alive6 with peer := { alive6.peer with aliveIn := true } }

theorem wit_PeerLiveness_lost : isUp seen6 = true ∧ seen6.peer.aliveIn = true := by decide +kernel

theorem test_PeerLiveness_lost : goes .peerAliveLost seen6 fun t => !t.peer.aliveIn && lg 0x0E02 0x60 1 0 t && t.time.now == 800006 := by decide +kernel

theorem test_PeerLiveness_watchdog : goes .livenessWatchdogExpiry seen6 fun t => !t.peer.aliveOut && t.time.now == 5 + ms 1 := by decide +kernel

def unlinked : Device := odPut 0x2210 1 (2 ^ 23) { paired with peer := { paired.peer with link := 0, helloDone := false } }

theorem wit_PeerLiveness_linkUp : isUp unlinked = true ∧ domainOn 23 unlinked = true ∧ domainFaulty 23 unlinked = false ∧ linkPhysical unlinked = false := by decide +kernel

theorem wit_PeerLiveness_linkDown : paired.peer.link ≠ 0 := by decide +kernel

theorem test_PeerLiveness_linkDown : goes .linkDown paired fun t => t.peer.link == 0 && lg 0x0E01 0x60 1 0 t && t.peer.st == 3 := by decide +kernel

def waits6 (al : Bool) : Device := { paired with power := { paired.power with run := .starting, stage := 6 }, peer := { paired.peer with st := 0, met := false, waitUntil := some 50, aliveIn := al } }

theorem wit_PeerLiveness_wait : (waits6 false).peer.waitUntil = some 50 ∧ (waits6 false).power.run = .starting ∧ (waits6 false).power.stage = 6 ∧ (waits6 false).peer.met = false ∧ (waits6 false).peer.st = 0 ∧ (waits6 false).peer.fenceOut = false ∧ (waits6 false).peer.aliveIn = false := by decide +kernel

theorem test_PeerLiveness_wait : goes .peerWaitExpiry (waits6 false) fun t => t.peer.fenceOut && t.peer.st == 5 && t.peer.fenceAt == 50 && lg 0x0E04 0x60 2 3 t := by decide +kernel

theorem wit_PeerLiveness_waitAlive : (waits6 true).peer.waitUntil = some 50 ∧ (waits6 true).peer.aliveIn = true ∧ (waits6 true).time.now < 50 := by decide +kernel

theorem test_PeerLiveness_waitAlive : goes .peerWaitExpiry (waits6 true) fun t => t.time.now == 50 && lg 0x0E01 0x60 1 2 t := by decide +kernel

def arb3 : Device := { paired with peer := { paired.peer with st := 3, arbState := 1, state3At := 4, link := 0, helloDone := false } }

theorem wit_PeerLiveness_fence : ({ arb3 with peer := { arb3.peer with fenceDue := some 9 } } : Device).peer.fenceDue = some 9 ∧ arb3.peer.st = 3 ∧ arb3.peer.fenceOut = false := by decide +kernel

theorem test_PeerLiveness_fence : goes .surviveFenceDelay { arb3 with peer := { arb3.peer with fenceDue := some 9 } } fun t => t.peer.fenceOut && t.peer.st == 5 && t.time.now == 9 && lg 0x0E04 0x60 2 1 t := by decide +kernel

theorem wit_PeerLiveness_fence0 : (0 : Nat) = 3 ∨ Reset.dev.peer.st = 0 := by decide +kernel

theorem wit_PeerLiveness_arbiter : arb3.peer.st = 3 ∧ arb3.peer.arbState = 1 ∧ arb3.peer.fenceDue = none ∧ arb3.peer.fenceOut = false := by decide +kernel

theorem test_PeerLiveness_arbiter : goes .arbiterTimeout arb3 fun t => t.peer.fenceOut && t.peer.st == 5 && t.peer.arbState == 3 && t.time.now == 4 + sec 1 && lg 0x0E04 0x60 2 2 t := by decide +kernel

theorem wit_PeerLiveness_fenceIn : paired.power.run ≠ .unpowered ∧ paired.power.run ≠ .reset := by decide +kernel

theorem test_PeerLiveness_fenceIn : goes .fenceInAssert paired fun t => t.power.run == .reset && !t.peer.fenceInN && t.peer.link == 0 && t.nvme.cmds.isEmpty := by decide +kernel

def fenced6 : Device := { paired with power := { paired.power with run := .reset }, peer := { paired.peer with fenceInN := false } }

theorem wit_PeerLiveness_fenceOff : fenced6.peer.fenceInN = false ∧ fenced6.power.run = .reset ∧ fenced6.power.porst = false ∧ fenced6.power.refclk = true ∧ fenced6.power.hot = false := by decide +kernel

theorem test_PeerLiveness_fenceOff : goes (.fenceInRelease 7) fenced6 fun t => t.power.run == .waitCore && t.power.coreEn && t.peer.fenceInN && t.side == 1 && t.nodeId == 3 && odVal 0x2200 1 t == 1 := by decide +kernel

def takes6 (begun : Bool) : Device := { paired with kv := { paired.kv with hashSecret := 1 }, peer := { paired.peer with st := 5, takeover := some ⟨7, begun⟩, driven := 2 ^ 128 - 1, wrappedMapKey := some 1 } }

theorem wit_PeerLiveness_takeover : (takes6 false).peer.takeover = some ⟨7, false⟩ ∧ isReady (takes6 false) = true ∧ (takes6 false).peer.driven = 2 ^ 128 - 1 ∧ hasSecrets (takes6 false) = true := by decide +kernel

theorem test_PeerLiveness_takeover : goes (.takeover [] [] [] [] 0) (takes6 false) fun t => t.peer.takeover == some ⟨7, true⟩ && t.time.now == 87 := by decide +kernel

theorem wit_PeerLiveness_complete : (takes6 true).peer.takeover = some ⟨7, true⟩ ∧ isReady (takes6 true) = true := by decide +kernel

theorem test_PeerLiveness_complete : goes .takeoverComplete (takes6 true) fun t => t.peer.takenOver && t.peer.takeover.isNone && bit t.conditions 7 && lg 0x0E05 0x60 1 0 t := by decide +kernel

/-! ## ChannelHandovers -/

def moves29 : Device := { paired with peer := { paired.peer with owners := paired.peer.owners.set 15 0 } }

def sets29 : Device := odPut 0x2D18 16 255 { moves29 with peer := { moves29.peer with owners := (List.range 16).map fun g => if g == 15 then 0 else odVal 0x2D18 (g + 1) moves29 } }

theorem wit_ChannelHandovers_place : sets29.side = 0 ∧ pairUp sets29 = true ∧ isReady sets29 = true ∧ noServingPeer sets29 = false ∧ (List.range 16).find? (fun g => sets29.peer.owners.getD g 0 != odVal 0x2D18 (g + 1) sets29) = some 15 ∧ handoverBusy 15 sets29 = false ∧ sets29.peer.owners.getD 15 0 = 0 ∧ odVal 0x2D18 16 sets29 = 255 ∧ freeFirmwareEntry sets29 = some 3 := by decide +kernel

theorem test_ChannelHandovers_place : goes .handoverPlacement sets29 fun t => (t.board.placing.any fun p => p.entry == 3 && p.who == .firmware && p.body.action == 4 && p.body.unit == 0x38F && p.body.arg == 255 * 256 + 1 && p.body.launch == nextHandoverTick sets29) && t.out.length == 1 := by decide +kernel

def old29 (drained : Bool) : Handover := ⟨2, 1, 1, 4, 100, true, true, drained, false, false, none, false⟩

def leaves29 (drained : Bool) : Device := { paired with peer := { paired.peer with handovers := [old29 drained], driven := 2 ^ 16 }, map := { paired.map with blocks := [{ blk1 with channel := 16 }, blk1] } }

theorem wit_ChannelHandovers_drained : (leaves29 false).peer.handovers.filter (fun x => x.group == 2 && x.old && !x.drained) = [old29 false] ∧ linkPhysical (leaves29 false) = true ∧ (∀ o ∈ (leaves29 false).media.ops, o.started = true → inHandover (old29 false) o.desc.channel = false) := by decide +kernel

theorem test_ChannelHandovers_drained : goes (.handoverDrained 2) (leaves29 false) fun t => t.peer.handovers == [old29 true] && linked (.handoverState 2 1 [blockRecord { blk1 with channel := 16 }]) t := by decide +kernel

theorem wit_ChannelHandovers_release : (leaves29 true).peer.handovers.filter (fun x => x.group == 2 && x.old && x.drained && x.released.isNone) = [old29 true] ∧ linkIsUp (leaves29 true) = true ∧ (leaves29 true).peer.unacked = [] ∧ (∀ r ∈ (leaves29 true).board.reports, r.1 ≠ (old29 true).entry) := by decide +kernel

theorem test_ChannelHandovers_release : goes (.handoverRelease 2) (leaves29 true) fun t => t.time.counter == 64 && linked (.released 2 1 64) t && !bit t.peer.driven 16 && t.map.blocks == [blk1] := by decide +kernel

def new29 : Handover := ⟨2, 1, 0, 4, 100, false, true, false, false, false, some 3, false⟩

def gains29 : Device := { paired with peer := { paired.peer with handovers := [new29] } }

theorem wit_ChannelHandovers_take : gains29.peer.handovers.filter (fun x => x.group == 2 && !x.old && x.released.isSome) = [new29] := by decide +kernel

theorem test_ChannelHandovers_take : goes (.handoverTakeChannel 2 1) gains29 fun t => t.time.counter == 164 && t.peer.handovers.isEmpty && bit t.peer.driven 16 && lg 0x0E06 0x60 0 (2 * 256 + 1) t := by decide +kernel

theorem wit_ChannelHandovers_state : FrameTaken hdr1 3 gains29 ∧ ∃ x ∈ gains29.peer.handovers, x.group = 2 ∧ x.mask = 1 ∧ x.old = false := by unfold FrameTaken; decide +kernel

theorem test_ChannelHandovers_state : goes (.handoverState hdr1 2 1 [blockRecord blk1]) gains29 fun t => t.map.blocks.any fun b => isBlock mem1 b && b.st == 2 && b.stream == 1 && b.next == 4 && b.erases == 7 && b.writeSeq == 1 := by decide +kernel

theorem wit_ChannelHandovers_released : FrameTaken hdr1 0 paired := by unfold FrameTaken; decide +kernel

theorem test_ChannelHandovers_released : goes (.released hdr1 2 1 77) { gains29 with peer := { gains29.peer with handovers := [{ new29 with released := none }] } } fun t => t.peer.handovers == [{ new29 with released := some 0, tick := 77 }] := by decide +kernel

def aborts29 : Device := { paired with peer := { paired.peer with handovers := [{ new29 with released := none }] } }

theorem wit_ChannelHandovers_abort : FrameTaken hdr1 0 aborts29 ∧ 2 < aborts29.peer.owners.length ∧ new29.newSide < 2 ∧ aborts29.peer.handovers.filter (fun x => x.group == 2 && x.mask == 1 && x.entry == 4 && x.released.isNone) = [{ new29 with released := none }] := by unfold FrameTaken; decide +kernel

theorem test_ChannelHandovers_abort : goes (.handoverAbort hdr1 4 2 1) aborts29 fun t => t.peer.handovers.isEmpty && bit (t.peer.owners.getD 2 0) 0 && lg 0x0E06 0x60 0 (65536 + 2 * 256 + 1) t := by decide +kernel

/-! ## BucketMoves -/

theorem wit_BucketMoves_window : (({ paired with peer := { paired.peer with windowTotal := 61, peerTotal := 39 } } : Device).peer.windowTotal + 39) * 60 < 61 * 100 := by decide +kernel

theorem test_BucketMoves_window : goes .rebalanceWindow { paired with peer := { paired.peer with windowTotal := 61, peerTotal := 39 } } fun t => t.time.counter == 8000000000 && t.peer.windowTotal == 0 && t.peer.lastTotal == 61 && lg 0x0E07 0x60 1 61 t := by decide +kernel

def move30 (launched : Bool) (unsent : List (Nat × Bytes)) : BucketMove := ⟨4095, 1, true, unsent, none, launched, none, []⟩

def moving30 (launched : Bool) (unsent : List (Nat × Bytes)) : Device := { paired with peer := { paired.peer with moves := [move30 launched unsent] } }

theorem wit_BucketMoves_stream : pairUp (moving30 false [(1, [1])]) = true ∧ (moving30 false [(1, [1])]).peer.moves.find? (fun m => m.bucket == 4095 && m.old && m.drained.isNone) = some (move30 false [(1, [1])]) ∧ (move30 false [(1, [1])]).unsent ≠ [] := by decide +kernel

theorem test_BucketMoves_stream : goes (.bucketRecordsStream 4095) (moving30 false [(1, [1])]) (linked (.bucketRecords 4095 [⟨1, [1], []⟩])) := by decide +kernel

theorem wit_BucketMoves_drain : (moving30 true []).peer.moves.find? (fun m => m.bucket == 4095 && m.old && m.drained.isNone) = some (move30 true []) ∧ (move30 true []).unsent = [] ∧ (move30 true []).launched = true ∧ bucketInUse 4095 (moving30 true []) = false ∧ recordsOwed 4095 (moving30 true []) = false := by decide +kernel

theorem test_BucketMoves_drain : goes (.bucketRecordsStream 4095) (moving30 true []) fun t => t.peer.moves == [{ move30 true [] with drained := some (alignUp (odVal 0x2C00 1 paired) 1) }] && linked (.drainDone 4095 (alignUp (odVal 0x2C00 1 paired) 1)) t := by decide +kernel

theorem wit_BucketMoves_records : FrameTaken hdr1 3 paired := by unfold FrameTaken; decide +kernel

theorem test_BucketMoves_records : goes (.bucketRecords hdr1 9 [⟨1, [1], []⟩]) paired fun t => t.peer.moves.any fun m => m.bucket == 9 && !m.old && m.received == [⟨1, [1], []⟩] := by decide +kernel

theorem wit_BucketMoves_drained : FrameTaken hdr1 0 paired := by unfold FrameTaken; decide +kernel

theorem test_BucketMoves_drained : goes (.drainDone hdr1 9 5) { paired with peer := { paired.peer with moves := [⟨9, 0, false, [], none, false, none, []⟩] } } fun t => t.peer.moves == [⟨9, 0, false, [], none, false, some 5, []⟩] := by decide +kernel

def entry30 : ChunkEntry := ⟨0, fp1, 0, 2, true, false, false, false, false, [7], 1, 1, 0, []⟩

theorem wit_BucketMoves_entries : FrameTaken hdr1 3 paired ∧ copyOf entry30.domain entry30.fp entry30.num paired = none := by unfold FrameTaken; decide +kernel

theorem test_BucketMoves_entries : goes (.fpEntries hdr1 [entry30]) paired fun t => t.kv.copies.any fun c => isCopy 0 fp1 0 c && c.refs == 2 && c.present && c.plain == [7] := by decide +kernel

/-! ## ForwardFrames -/

def cap31 (op : Nat) : Capsule := ⟨{ sqe0 with opcode := op, nsid := 1, cdw11 := 1 }, [], 0⟩

def fwd31 : FwdCmdMsg := ⟨2 ^ 63 + 1, ⟨3, 1, 1⟩, 0, 5, cap31 1⟩

theorem wit_ForwardFrames_fwdCmd : FrameTaken hdr1 2 paired ∧ fwd31.q.qid ≠ 0 ∧ ∀ c ∈ paired.nvme.cmds, c.fwdFrom ≠ some fwd31.fwd := by unfold FrameTaken; decide +kernel

theorem wit_ForwardFrames_request : ({ fwd31 with q := ⟨255, 0, 0⟩, c := cap31 0x10 } : FwdCmdMsg).c.sqe.opcode ∉ [0xC4, 0x14, 0x84] := by decide +kernel

theorem test_ForwardFrames_request : goes (.fwdCmd hdr1 { fwd31 with q := ⟨255, 0, 0⟩, c := cap31 0x10 }) paired (linked (.fwdCompletion (2 ^ 63 + 1) 0 1 false 0 0 0)) := by decide +kernel

def out31 : Cmd := { newCmd 4 ⟨3, 1, 1⟩ (cap31 1) 0 5 false with fwdTo := some 6, phase := .forwarded }

def outs31 : Device := { paired with nvme := { paired.nvme with cmds := [out31] } }

theorem wit_ForwardFrames_data : ownId 6 outs31 = true ∧ sentCmd 6 outs31 = some out31 := by decide +kernel

theorem test_ForwardFrames_data : goes (.fwdData hdr1 6 2 [9]) outs31 fun t => (t.nvme.cmds.map (·.got)) == [[0, 0, 9]] := by decide +kernel

def in31 (op : Nat) (rng : Bool) : Cmd := { newCmd 4 ⟨3, 1, 1⟩ { cap31 op with sqe := { (cap31 op).sqe with cdw13 := b2n rng } } 0 5 false with fwdFrom := some (2 ^ 63 + 6), phase := .forwarded }

def ins31 (op : Nat) (rng : Bool) : Device := { paired with nvme := { paired.nvme with cmds := [in31 op rng] } }

theorem wit_ForwardFrames_dataIn : ownId (2 ^ 63 + 6) (ins31 1 false) = false ∧ (ins31 1 false).nvme.cmds.find? (·.fwdFrom == some (2 ^ 63 + 6)) = some (in31 1 false) ∧ isRange (in31 1 false).sqe = false := by decide +kernel

theorem test_ForwardFrames_dataIn : goes (.fwdData hdr1 (2 ^ 63 + 6) 1 [9]) (ins31 1 false) fun t => (t.nvme.cmds.map (·.data)) == [[0, 9]] := by decide +kernel

theorem wit_ForwardFrames_dataRange : (ins31 0x90 true).nvme.cmds.find? (·.fwdFrom == some (2 ^ 63 + 6)) = some (in31 0x90 true) ∧ isRange (in31 0x90 true).sqe = true ∧ (in31 0x90 true).phase = .forwarded := by decide +kernel

theorem wit_ForwardFrames_done : sentCmd 6 outs31 = some out31 ∧ out31.parent = none ∧ isSecure out31.sqe = false ∧ out31.slot = none := by decide +kernel

theorem test_ForwardFrames_done : goes (.fwdCompletion hdr1 ⟨6, 0, 0, false, 1, 2, 0⟩) outs31 fun t => t.nvme.cmds.isEmpty := by decide +kernel

def parts31 : Device := { paired with nvme := { paired.nvme with cmds := [{ out31 with id := 5, parent := some 4 }, { out31 with fwdTo := none, kids := [6] }] } }

theorem wit_ForwardFrames_part : sentCmd 6 parts31 = some { out31 with id := 5, parent := some 4 } ∧ cmdOf 4 parts31 = some { out31 with fwdTo := none, kids := [6] } := by decide +kernel

def share31 : Cmd := { in31 0x85 false with phase := .waitMirror }

theorem wit_ForwardFrames_share2 : ({ paired with nvme := { paired.nvme with cmds := [share31] } } : Device).nvme.cmds.find? (·.fwdFrom == some (2 ^ 63 + 6)) = some share31 ∧ isShare share31 = true := by decide +kernel

theorem test_ForwardFrames_share2 : goes (.fwdCompletion hdr1 ⟨2 ^ 63 + 6, 0, 0, false, 7, 0, 0⟩) { paired with nvme := { paired.nvme with cmds := [share31] } } fun t => t.nvme.cmds.map (·.tick) == [some 7] := by decide +kernel

theorem wit_ForwardFrames_reserve : ([⟨1, 1, 5, [], []⟩] : List LockIdent) ≠ [] ∧ paired.nvme.locks.length + ([⟨1, 1, 5, [], []⟩] : List LockIdent).length ≤ Config.lockEntries := by decide +kernel

theorem test_ForwardFrames_reserve : goes (.lockReserve hdr1 8 [⟨1, 1, 5, [], []⟩]) paired fun t => linked (.lockReply 8 0) t && t.nvme.locks.length == 1 := by decide +kernel

theorem wit_ForwardFrames_reserveFull : Config.lockEntries < paired.nvme.locks.length + (List.replicate 16385 (⟨1, 1, 5, [], []⟩ : LockIdent)).length := by decide +kernel

theorem wit_ForwardFrames_reply : FrameTaken hdr1 2 { paired with nvme := { paired.nvme with remoteLocks := [(7, 8, false)] } } := by unfold FrameTaken; decide +kernel

theorem test_ForwardFrames_reply : goes (.lockReply hdr1 8 false) { paired with nvme := { paired.nvme with remoteLocks := [(7, 8, false)] } } fun t => t.nvme.remoteLocks == [(7, 8, true)] := by decide +kernel

theorem wit_ForwardFrames_mirror : FrameTaken hdr1 1 paired := by unfold FrameTaken; decide +kernel

theorem test_ForwardFrames_mirror : goes (.mirrorData hdr1 (2 ^ 63 + 4) (.roster 1 false 1 [1] 9)) paired fun t => t.peer.held.length == 1 && linked (.mirrorAck (2 ^ 63 + 4) 1) t := by decide +kernel

def write31 : MirrorWrite := ⟨4, 4, 2, 0, [], 0, 1, [1], none, false⟩

def writes31 : Device := { paired with peer := { paired.peer with mirrors := [write31], returning := 1 } }

theorem wit_ForwardFrames_ack : writes31.peer.mirrors.find? (·.id == 4) = some write31 ∧ writes31.peer.returning = 1 ∧ max write31.acked (min 2 write31.records) = write31.records := by decide +kernel

theorem test_ForwardFrames_ack : goes (.mirrorAck hdr1 4 2) writes31 fun t => t.peer.mirrors.map (·.acked) == [2] && t.peer.returning == 2 := by decide +kernel

theorem wit_ForwardFrames_release : FrameTaken hdr1 1 writes31 := by unfold FrameTaken; decide +kernel

theorem test_ForwardFrames_release : goes (.mirrorRelease hdr1 [3]) { paired with peer := { paired.peer with held := [⟨3, .roster 1 false 1 [1] 9⟩] } } fun t => t.peer.held.isEmpty := by decide +kernel

theorem wit_ForwardFrames_page : ∀ m ∈ paired.stripe.mirror, m.page.seq ≠ 3 := by decide +kernel

theorem test_ForwardFrames_page : goes (.journalPage hdr1 ⟨3, 9, 1, 0, true, []⟩) paired fun t => linked (.journalAck 3) t && t.stripe.mirror.any fun m => m.page.seq == 3 && m.page.tick == 9 := by decide +kernel

def page31 : JPage := { seq := 3, tick := 9, tail := 1, last := true, index := 0, records := [], local_ := true, mirrored := false }

theorem wit_ForwardFrames_resend : page31 ∈ ({ paired with stripe := { paired.stripe with pages := [page31] } } : Device).stripe.pages ∧ 3 ≤ page31.seq ∧ page31.seq ≤ 3 := by decide +kernel

theorem test_ForwardFrames_resend : goes (.journalResend hdr1 3 3) { paired with stripe := { paired.stripe with pages := [page31] } } (linked (.journalPage page31.msg)) := by decide +kernel

/-! ## ChunkFrames -/

def c32 (refs : Nat) : Device := withCopy { copy1 with refs := refs } paired

theorem wit_ChunkFrames_claim : FrameTaken hdr1 2 (c32 2) ∧ matchableCopy 0 fp1 (c32 2) = some copy1 ∧ copyOf 0 fp1 copy1.num (c32 2) = some copy1 ∧ copy1.refs + 1 ≠ refMax := by simp only [FrameTaken]; decide +kernel

theorem test_ChunkFrames_claim : goes (.fpRequestClaim hdr1 2 0 fp1) (c32 2) fun t => linked (.fpReply 2 1 true 0 []) t && (copyOf 0 fp1 0 t).map (·.refs) == some 3 := by decide +kernel

theorem wit_ChunkFrames_claimNew : matchableCopy 0 [9] (c32 2) = none := by decide +kernel

theorem test_ChunkFrames_claimNew : goes (.fpRequestClaim hdr1 2 0 [9]) (c32 2) fun t => linked (.fpReply 2 2 false (lowestCopy 0 [9] (c32 2)) []) t && t.kv.copies.any fun c => c.fp == [9] && c.refs == 1 && c.claimants == [(false, 2)] := by decide +kernel

theorem wit_ChunkFrames_decrement : copyOf 0 fp1 0 (c32 2) = some { copy1 with refs := 2 } ∧ copy1.pinned = false ∧ copy1.dead = false ∧ 2 ≤ copy1.refs := by decide +kernel

theorem test_ChunkFrames_decrement : goes (.fpRequestDecrement hdr1 2 0 fp1 0) (c32 2) fun t => linked (.fpReply 2 3 false 0 []) t && (copyOf 0 fp1 0 t).map (·.refs) == some 1 := by decide +kernel

theorem test_ChunkFrames_release : goes (.fpRequestClaimRelease hdr1 2 0 fp1 0) (withCopy { copy1 with claimants := [(false, 2)] } paired) fun t => linked (.fpReply 2 3 false 0 []) t && (copyOf 0 fp1 0 t).map (·.claimants) == some [] := by decide +kernel

theorem wit_ChunkFrames_locate : copyOf 0 fp1 1 (c32 2) = none := by decide +kernel

theorem test_ChunkFrames_locate : goes (.fpRequestLocate hdr1 2 0 fp1 1) (c32 2) (linked (.fpReply 2 3 false 1 [])) && goes (.fpRequestLocate hdr1 2 0 fp1 0) (c32 2) (linked (.fpReply 2 1 true 0 [])) := by decide +kernel

def reading32 : Device := { paired with nvme := { paired.nvme with cmds := [{ newCmd 4 ⟨3, 1, 1⟩ (cap31 2) 0 5 false with phase := .reading, named := some ⟨1, 1, [1], 1, 0, 0, false, [⟨fp1, 0, 1⟩]⟩ }] }, kv := { paired.kv with located := [(0, fp1, 0)] } }

theorem wit_ChunkFrames_invalidate : beingRead 0 fp1 0 reading32 = true ∧ beingRead 0 fp1 0 paired = false := by decide +kernel

theorem test_ChunkFrames_invalidate : goes (.invalidate hdr1 0 0 fp1) reading32 (fun t => t.kv.located == [] && t.kv.owedAcks == [(0, fp1, 0)]) && goes (.invalidate hdr1 0 0 fp1) paired (linked (.invalidateAck 0 0 fp1)) := by decide +kernel

def reloc32 : Reloc := ⟨0, fp1, 0, [⟨5, 0, 1⟩], [⟨6, 0, 1⟩], true⟩

def relocs32 : Device := { c32 2 with stripe := { paired.stripe with relocs := [reloc32] }, kv := { (c32 2).kv with invalidating := [(1, 0, fp1, 0)] }, map := { paired.map with blocks := [{ blk1 with awaiting := [(0, fp1, 0)] }] } }

theorem wit_ChunkFrames_invalidated : relocs32.stripe.relocs.find? (fun r => r.asked && r.domain == 0 && r.fp == fp1 && r.num == 0) = some reloc32 ∧ paired.stripe.relocs.find? (fun r => r.asked && r.domain == 0 && r.fp == fp1 && r.num == 0) = none := by decide +kernel

theorem test_ChunkFrames_invalidated : goes (.invalidateAck hdr1 0 0 fp1) relocs32 fun t => t.kv.invalidating == [] && t.map.blocks.all fun b => b.awaiting == [] := by decide +kernel

theorem wit_ChunkFrames_present : copyOf 0 fp1 0 (withCopy { copy1 with present := false } paired) = some { copy1 with present := false } := by decide +kernel

theorem test_ChunkFrames_present : goes (.fpRequestPresent hdr1 4 ⟨0, fp1, 0, [⟨5, 0, 1⟩]⟩) (withCopy { copy1 with present := false } paired) fun t => linked (.fpReply 4 3 false 0 []) t && (copyOf 0 fp1 0 t).map (·.present) == some true := by decide +kernel

def req32 (w : ReqFor) : Device := { paired with peer := { paired.peer with reqs := [⟨6, w, 0, fp1, 0⟩] } }

theorem wit_ChunkFrames_reply : (req32 (.claim 4 0 0)).peer.reqs.find? (·.id == (⟨6, 3, false, 0, []⟩ : FpReplyMsg).req) = some ⟨6, .claim 4 0 0, 0, fp1, 0⟩ ∧ (req32 (.locate 4 0 fp1 0)).peer.reqs.find? (·.id == 6) = some ⟨6, .locate 4 0 fp1 0, 0, fp1, 0⟩ := by decide +kernel

theorem test_ChunkFrames_reply : goes (.fpReply hdr1 ⟨6, 3, false, 0, []⟩) (req32 .release) fun t => t.peer.reqs == [] := by decide +kernel

theorem wit_ChunkFrames_read : ownsChannel 127 paired = false ∧ ownsChannel 3 paired = true := by decide +kernel

theorem test_ChunkFrames_read : goes (.unitRead hdr1 7 ⟨127, 0, 0, 0, 0⟩ 1) paired (linked (.unitData 7 2 0 [])) && goes (.unitRead hdr1 7 ⟨3, 0, 0, 0, 0⟩ 1) paired (fun t => t.media.ops.any fun o => o.req == some 7 && o.kind == .rebuildRead) := by decide +kernel

def stripes32 : Device := { paired with stripe := { paired.stripe with stripes := [str1] } }

theorem wit_ChunkFrames_move : stripeOf 5 paired = none ∧ stripeOf 5 stripes32 = some str1 ∧ (List.range str1.members.length).find? (fun i => (str1.members[i]?).any (·.desc == mem1)) = some 0 := by decide +kernel

theorem test_ChunkFrames_move : goes (.moveRequest hdr1 7 5 mem1 1) paired (linked (.requestDone 7 1)) := by decide +kernel

def blocks32 (s : Nat) : Device := { paired with map := { paired.map with blocks := [{ blk1 with st := s }] } }

theorem wit_ChunkFrames_erase : blockOf mem1 paired = none ∧ blockOf mem1 (blocks32 5) = some { blk1 with st := 5 } ∧ blockOf mem1 (blocks32 2) = some blk1 ∧ blockOf mem1 (blocks32 0) = some { blk1 with st := 0 } := by decide +kernel

theorem test_ChunkFrames_erase : goes (.eraseRequest hdr1 7 mem1 9) paired (linked (.requestDone 7 1)) && goes (.eraseRequest hdr1 7 mem1 9) (blocks32 5) (linked (.requestDone 7 2)) && goes (.eraseRequest hdr1 7 mem1 9) (blocks32 0) (linked (.requestDone 7 0)) := by decide +kernel

theorem wit_ChunkFrames_eraseWait : blk1.st ≠ 0 ∧ blk1.st ≠ 4 ∧ blk1.st ≠ 5 := by decide +kernel

theorem test_ChunkFrames_eraseWait : goes (.eraseRequest hdr1 7 mem1 9) (blocks32 2) fun t => t.peer.peerReqs.contains (7, .erase mem1 9) || t.map.blocks.any (fun b => b.barrier == 9) := by decide +kernel

theorem wit_ChunkFrames_done : (req32 (.erase 3 mem1)).peer.reqs.find? (·.id == 6) = some ⟨6, .erase 3 mem1, 0, fp1, 0⟩ ∧ (req32 (.move 5 0)).peer.reqs.find? (·.id == 6) = some ⟨6, .move 5 0, 0, fp1, 0⟩ := by decide +kernel

theorem test_ChunkFrames_done : goes (.requestDone hdr1 6 0) (req32 (.move 5 0)) fun t => t.peer.reqs == [] := by decide +kernel

def fetch32 (p : Bytes) : Fetch := ⟨4, 0, fp1, 0, 0, 1, [⟨8, 0, 1⟩], [], [], p, 0⟩

def unit32 (p : Bytes) : Device := { req32 (.unit (some 4) 8 1) with nvme := reading32.nvme, kv := { reading32.kv with fetches := [fetch32 p] } }

theorem wit_ChunkFrames_unit : FrameTaken hdr1 3 (unit32 []) ∧ (unit32 []).peer.reqs.find? (·.id == 6) = some ⟨6, .unit (some 4) 8 1, 0, fp1, 0⟩ ∧ (cmdOf 4 (unit32 [])).isSome ∧ (unit32 []).kv.fetches.find? (·.cmd == 4) = some (fetch32 []) ∧ stripeOf 8 (unit32 []) = none ∧ (overlay (padTo (max (fetch32 []).part.length (0 + 1)) (fetch32 []).part) 0 [7]).length < peerUnit 8 (unit32 []) := by simp only [FrameTaken]; decide +kernel

theorem test_ChunkFrames_unit : goes (.unitData hdr1 6 0 0 [7]) (unit32 []) (fun t => t.kv.fetches == [{ fetch32 [] with part := [7] }]) := by decide +kernel

theorem length_overlay (n o : Nat) (p bs : Bytes) (h : o + bs.length ≤ n) : (overlay (padTo n p) o bs).length = n := by
  simp only [overlay, padTo, List.length_append, List.length_take, List.length_drop, List.length_replicate]
  omega


theorem wit_ChunkFrames_unitWhole : peerUnit 8 (unit32 []) ≤ (overlay (padTo (max (fetch32 []).part.length (65535 + [(7 : BitVec 8)].length)) (fetch32 []).part) 65535 [7]).length := by rw [length_overlay _ _ _ _ (Nat.le_max_right _ _)]; decide +kernel

/-! ## TablesAndKeys -/

theorem wit_TablesAndKeys_sync : FrameTaken hdr1 2 paired ∧ (syncRefusal 0x2A30 0 0 (leBytes 4 100) (arrived hdr1 2 paired)).isNone ∧ (syncRefusal 0x2910 31 0 (leBytes 4 0) (arrived hdr1 2 paired)).isSome := by simp only [FrameTaken]; decide +kernel

theorem test_TablesAndKeys_sync : goes (.tableSync hdr1 0x2910 31 0 0 (leBytes 4 30)) paired (fun t => odVal 0x2910 31 t == 30 && linked (.tableAck 0x2910 31 0 0) t) && goes (.tableSync hdr1 0x2910 31 0 0 (leBytes 4 0)) paired (linked (.tableAck 0x2910 31 0 0x06090030)) := by decide +kernel

theorem wit_TablesAndKeys_refused : ∃ r, syncRefusal 0x2910 31 0 (leBytes 4 0) (arrived hdr1 2 paired) = some r ∧ linkPhysical r.2 = true := by exact ⟨(0x06090030, arrived hdr1 2 paired), by decide +kernel, by decide +kernel⟩

def held33 : HeldWrite := ⟨5, user0, .accessor user0, 0x2910, 31, 0, leBytes 4 30, none⟩

def holds33 : Device := { paired with dict := { paired.dict with held := [held33] } }

theorem wit_TablesAndKeys_ack : holds33.dict.held.find? (fun w => w.idx == 0x2910 && w.sub == 31 && w.sel == 0 && w.entry.isNone) = some held33 := by decide +kernel

theorem test_TablesAndKeys_ack : goes (.tableAck hdr1 0x2910 31 0 0) holds33 (fun t => t.dict.held == [] && odVal 0x2910 31 t == 30 && t.out.contains (.od user0 0x2910 31 .ok [])) && goes (.tableAck hdr1 0x2910 31 0 7) holds33 (fun t => t.dict.held == [] && odVal 0x2910 31 t != 30 && t.out.contains (.od user0 0x2910 31 (.abort 7) [])) := by decide +kernel

def offer33 : OfferMsg := ⟨[], [], [], List.replicate 48 0⟩

theorem wit_TablesAndKeys_offer : offer33.ownerDigest = ownerDigest paired ∧ ({ offer33 with ownerDigest := [] } : OfferMsg).ownerDigest ≠ ownerDigest paired := by decide +kernel

theorem ecdsaVerify_nil (key digest : Bytes) : ecdsaVerify key digest [] = false := by
  unfold ecdsaVerify
  cases ecPoint key <;> simp


theorem wit_TablesAndKeys_badOffer : ecdsaVerify Config.attestationKey (sha384 (offer33.identity ++ leBytes 4 Config.peerSerial.toNat)) offer33.attestation = false := by exact ecdsaVerify_nil _ _

def shaken : Device := { paired with sec := { paired.sec with shake := { paired.sec.shake with offerOk := true } } }

theorem wit_TablesAndKeys_finish : shaken.sec.shake.offerOk = true ∧ shaken.cipher.alarm ≠ 1 ∧ ecdsaVerify shaken.sec.shake.peerIdent (shakeDigest shaken) [] = false := by exact ⟨rfl, by decide +kernel, ecdsaVerify_nil _ _⟩

theorem wit_TablesAndKeys_stale : (0 : Nat) ≤ keyed.sec.recvCount ∧ paired.sec.linkKey = none := by decide +kernel

theorem wit_TablesAndKeys_secure : FrameTaken hdr1 2 keyed ∧ keyed.sec.recvCount < 1 ∧ keyed.sec.linkKey.isSome := by simp only [FrameTaken]; decide +kernel

theorem test_TablesAndKeys_secure : goes (.mapKey hdr1 1 true 5) keyed (fun t => t.peer.mapKey == some 5 && linked (.secure keyed.sec.sendCount (.ack 1)) t) && goes (.hashSecret hdr1 1 true 5) keyed (fun t => t.kv.hashSecret == 5 && t.sec.recvCount == 1) && goes (.secureAck hdr1 1 true 5) keyed (fun t => t.sec.ackedCount == 5) := by decide +kernel

theorem wit_TablesAndKeys_salt : tblGet? keyed.kv.salts 3 = none := by decide +kernel

theorem test_TablesAndKeys_salt : goes (.salt hdr1 1 true 3 [1]) keyed (fun t => tblGet? t.kv.salts 3 == some (padTo 12 [1]) && linked (.secure keyed.sec.sendCount (.ack 1)) t) && goes (.gear hdr1 1 true 9 [5, 6]) keyed (fun t => odVal 0x2600 6 t == 9 && odSel 0x2610 2 1 t == 6) := by decide +kernel

theorem wit_TablesAndKeys_slotKey : (4095 : Nat) < 4096 ∧ keyed.cipher.alarm = 0 ∧ ({ keyed with cipher := { keyed.cipher with alarm := 1 } } : Device).cipher.alarm ≠ 0 := by decide +kernel

theorem test_TablesAndKeys_slotKey : goes (.slotKey hdr1 1 true 4095 7 8 9) keyed (fun t => (slotOf 4095 t).key == some 9 && (slotOf 4095 t).tenant == 7) && goes (.slotKey hdr1 1 true 4095 7 8 9) { keyed with cipher := { keyed.cipher with alarm := 1 } } (fun t => (slotOf 4095 t).stored == some 9 && (slotOf 4095 t).freshDue && linked (.secure keyed.sec.sendCount (.ack 1)) t) := by decide +kernel

def owners33 (o : OwnerSt) : Device := { keyed with sec := { keyed.sec with owners := (keyed.sec.owners.set 0 ⟨o, [1], [2]⟩).set 14 ⟨o, [1], [2]⟩ } }

theorem wit_TablesAndKeys_owner : (1 : Nat) ≤ 15 ∧ 15 ≤ keyed.sec.owners.length ∧ (ownerOf 15 keyed).st = .blank ∧ keyed.sec.otpWorks = true ∧ ownerOf 15 (owners33 .valid) = ⟨.valid, [1], [2]⟩ ∧ (ownerOf 1 (owners33 .spent)).st = .spent := by decide +kernel

theorem test_TablesAndKeys_owner : goes (.ownerRecord hdr1 1 true 15 [1] [2]) keyed (fun t => ownerOf 15 t == ⟨.valid, [1], [2]⟩ && linked (.secure keyed.sec.sendCount (.ack 1)) t) && goes (.ownerRecord hdr1 1 true 15 [1] [2]) (owners33 .valid) (fun t => linked (.secure keyed.sec.sendCount (.ack 1)) t) && goes (.ownerRecord hdr1 1 true 1 [1] [2]) (owners33 .spent) (fun t => linked (.secure keyed.sec.sendCount (.ownerRecord (ownerBody 0x81 [] []))) t) := by decide +kernel

/-! ## KeyValueCommands -/

def qk : QueueRef := ⟨0, 1, 1⟩

/-- Queue `qk` of the partner is empty and the arbiter stays with it; nothing is under way. -/
def kv0 : Device := { ns0 with power := { ns0.power with holdupOk := true, dirtyLimit := 2 ^ 30 }, map := { ns0.map with flushFree := 2 ^ 30 }, nvme := { ns0.nvme with queues := [⟨qk, 1, 8, 0, [], none, 0, false⟩], arb := { ns0.nvme.arb with queue := some qk, burst := some 1 } } }


/-- A capsule of namespace 1: the key's length in CDW11, the value's in CDW10; the bytes are in the capsule. -/
def kvCap (op dw10 dw11 : Nat) (data : Bytes) : Capsule := ⟨{ sqe0 with opcode := op, psdt := 1, nsid := 1, cdw2 := 0x04030201, cdw10 := dw10, cdw11 := dw11, sgl := if op == 0x10 || op == 0x14 || op == 0x90 || op == 0x94 then 0 else dw10, sglOff := if op % 4 == 1 then some 0 else none }, data, data.length⟩


/-- The key's newest version, of one cached chunk, of none, or lost. -/
def stored34 (chunks : List ChunkRef) (lost : Bool) : Device := { kv0 with kv := { kv0.kv with
  index := [⟨1, [1, 2, 3, 4], [⟨5, 9, false, lost⟩]⟩], manifests := [⟨9, 1, [1, 2, 3, 4], chunks.length, 0, 0, false, chunks⟩], cache := [⟨0, fp1, 0, 0, [7]⟩] } }


theorem turn_of {c : Capsule} {d : Device} (h : (d.nvme.queues == [⟨qk, 1, 8, 0, [], none, 0, false⟩] && (stallOf ⟨qk, 1, 8, 0, [], none, 0, false⟩ c d).isNone && reachable qk d &&
    (fieldCheck 0 c d).isNone && servesAll d && d.peer.moves == [] && d.nvme.cmds == [] && d.nvme.locks == [] && d.nvme.remoteLocks == [] && d.kv.fetches == [] &&
    d.nvme.arb.queue == some qk && d.nvme.arb.burst != some 0) = true) : KvTurn qk c d := by
  simp only [Bool.and_eq_true, beq_iff_eq, bne_iff_ne, Option.isNone_iff_eq_none] at h
  obtain ⟨⟨⟨⟨⟨⟨⟨⟨⟨⟨⟨h1, h2⟩, h3⟩, h4⟩, h5⟩, h6⟩, h7⟩, h8⟩, h9⟩, h10⟩, h11⟩, h12⟩ := h
  exact ⟨⟨_, h1, rfl, rfl, by decide, h2⟩, ⟨by decide, by decide, h3, h4⟩, ⟨h5, h6⟩, ⟨h7, h8, h9, h10⟩, ⟨h11, h12⟩⟩


theorem wit_KeyValueCommands_arrive : queueOf qk kv0 = some ⟨qk, 1, 8, 0, [], none, 0, false⟩ ∧ ([] : List Capsule).length < 8 ∧ qk.qid ≠ 0 := by decide +kernel

def shortKey (op dw10 : Nat) (data : Bytes) : Capsule := kvCap op dw10 4 data

def longKey (op dw10 : Nat) (data : Bytes) : Capsule := kvCap op dw10 4 ([1, 2, 3, 4] ++ List.replicate 12 0 ++ data)

theorem wit_KeyValueCommands_turn : KvTurn qk (withOp 0x01 (shortKey 0x01 1 [7])) kv0 ∧ KvTurn qk (withBits [] [1] (withOp 0x10 (shortKey 0x10 0 []))) kv0 ∧ KvTurn qk (withBits [1] [] (withOp (if (shortKey 0x10 0 []).sqe.opcode == 0x90 then 0x90 else 0x10) (shortKey 0x10 0 []))) kv0 ∧ KvTurn qk (withOp 0x14 (shortKey 0x14 0 [])) kv0 ∧ KvTurn qk (withOp 0x02 (shortKey 0x02 1 [])) (stored34 [⟨fp1, 0, 1⟩] false) ∧ KvTurn qk (withOp 0x06 (shortKey 0x06 4 [])) kv0 := by exact ⟨turn_of (by decide +kernel), turn_of (by decide +kernel), turn_of (by decide +kernel), turn_of (by decide +kernel), turn_of (by decide +kernel), turn_of (by decide +kernel)⟩

theorem wit_KeyValueCommands_turnLong : KvTurn qk (withOp 0x81 (longKey 0x81 1 [7])) kv0 ∧ KvTurn qk (withBits [] [0, 1] (withOp 0x90 (longKey 0x90 0 []))) kv0 ∧ KvTurn qk (withBits [0] [] (withOp 0x90 (longKey 0x90 0 []))) kv0 ∧ KvTurn qk (withOp 0x94 (longKey 0x94 0 [])) kv0 ∧ KvTurn qk (withOp 0x82 (longKey 0x82 0 [])) kv0 ∧ KvTurn qk (withOp 0x86 (longKey 0x86 4 [])) kv0 := by exact ⟨turn_of (by decide +kernel), turn_of (by decide +kernel), turn_of (by decide +kernel), turn_of (by decide +kernel), turn_of (by decide +kernel), turn_of (by decide +kernel)⟩

def batch34 : Capsule := ⟨{ sqe0 with opcode := 0x85, psdt := 1, nsid := 1, cdw10 := 37, sgl := 37, sglOff := some 0 }, leBytes 2 1 ++ leBytes 2 0 ++ leBytes 4 1 ++ List.replicate 8 0 ++ (leBytes 2 4 ++ leBytes 2 0 ++ leBytes 4 32 ++ leBytes 4 36 ++ leBytes 4 1) ++ [1, 2, 3, 4, 7], 37⟩

theorem wit_KeyValueCommands_turnBatch : KvTurn qk (withOp 0x85 batch34) kv0 := by exact turn_of (by decide +kernel)

theorem wit_KeyValueCommands_reads : lostPage (fetchedCmd qk (withOp 0x02 (shortKey 0x02 1 [])) (stored34 [⟨fp1, 0, 1⟩] false)) (stored34 [⟨fp1, 0, 1⟩] false) = false ∧ (lackingPage (fetchedCmd qk (withOp 0x02 (shortKey 0x02 1 [])) (stored34 [⟨fp1, 0, 1⟩] false)) (stored34 [⟨fp1, 0, 1⟩] false)).isNone ∧ readVersion (fetchedCmd qk (withOp 0x02 (shortKey 0x02 1 [])) (stored34 [⟨fp1, 0, 1⟩] false)) (stored34 [⟨fp1, 0, 1⟩] false) = some ⟨5, 9, false, false⟩ ∧ manifestOf 9 (stored34 [⟨fp1, 0, 1⟩] false) = some ⟨9, 1, [1, 2, 3, 4], 1, 0, 0, false, [⟨fp1, 0, 1⟩]⟩ ∧ manifestOf 9 (stored34 [] false) = some ⟨9, 1, [1, 2, 3, 4], 0, 0, 0, false, []⟩ ∧ cached? 0 fp1 0 (stored34 [⟨fp1, 0, 1⟩] false) = some ⟨0, fp1, 0, 0, [7]⟩ ∧ (slotForRetrieve (keySlotFor 1 (policyOf 1 [1, 2, 3, 4] kv0) kv0) kv0).isNone ∧ readVersion (fetchedCmd qk (withOp 0x02 (shortKey 0x02 1 [])) kv0) kv0 = none := by decide +kernel

theorem wit_KeyValueCommands_refused : kv0.stripe.readOnly = false ∧ deleteRefused 1 [1, 2, 3, 4] kv0 = some .keyAbsent := by decide +kernel

def waits34 : Device := { kv0 with nvme := { kv0.nvme with queues := [⟨qk, 1, 8, 0, [withOp 0x14 (shortKey 0x14 0 [])], none, 0, false⟩] } }

theorem wit_KeyValueCommands_fetch : (stallOf ⟨qk, 1, 8, 0, [withOp 0x14 (shortKey 0x14 0 [])], none, 0, false⟩ (withOp 0x14 (shortKey 0x14 0 [])) waits34).isNone ∧ waits34.nvme.arb.queue = some qk ∧ waits34.nvme.arb.burst ≠ some 0 := by decide +kernel

def lock34 : Lock := ⟨1, none, .exclKey, 1, 5, [], none, .waiting⟩

theorem wit_KeyValueCommands_grant : ({ kv0 with nvme := { kv0.nvme with locks := [lock34] } } : Device).nvme.locks.find? (fun l => l.st == LockSt.waiting && grantable l [lock34]) = some lock34 := by decide +kernel

def lacks34 (locks : List Lock) : Device := { waits34 with nvme := { waits34.nvme with locks := locks } }

theorem wit_KeyValueCommands_stalled : (match stallOf ⟨qk, 1, 8, 0, [withOp 0x01 (shortKey 0x01 0 [])], none, 0, false⟩ (withOp 0x01 (shortKey 0x01 0 [])) (lacks34 (List.replicate 16384 lock34)) with | some .locks => true | _ => false) = true := by decide +kernel

def remote34 : Device := { kv0 with peer := paired.peer }

theorem wit_KeyValueCommands_remote : (match stallOf ⟨qk, 1, 8, 0, [], none, 0, false⟩ (withOp 0x06 (shortKey 0x06 4 [])) remote34 with | some .remote => true | _ => false) = true ∧ reservation qk remote34 = none ∧ linkPhysical remote34 = true := by decide +kernel

/-! ## Alarms -/

theorem wit_Alarms_sources : enabledSources 8 paired ≠ 0 ∧ enabledSources 0 paired = 0 ∧ paired.power.run = .ready ∧ paired.cipher.alarm ≠ 1 := by decide +kernel

theorem test_Alarms_sources : goes (.alarm 8) keyed fun t => t.cipher.alarm == 1 && t.sec.linkKey == none && t.sec.sources == 8 := by decide +kernel

def alarmed35 (key : Option Bytes) : Device := { paired with cipher := { paired.cipher with alarm := 1 }, sec := { paired.sec with linkKey := key, sources := 8, clearSince := 5 } }

theorem wit_Alarms_again : enabledSources 15 (alarmed35 none) ≠ 0 ∧ (alarmed35 none).power.run = .ready ∧ (alarmed35 none).cipher.alarm = 1 := by decide +kernel

theorem test_Alarms_again : goes (.alarm 14) (alarmed35 none) fun t => t.dict.sessions == [] && t.sec.sources == 14 := by decide +kernel

theorem wit_Alarms_starting : enabledSources 8 { paired with power := Reset.power } ≠ 0 ∧ ({ paired with power := Reset.power } : Device).power.run ≠ .ready ∧ ({ paired with power := Reset.power } : Device).power.run ≠ .unpowered := by decide +kernel

theorem test_Alarms_starting : goes (.alarm 8) { paired with power := Reset.power } fun t => t.sec.latched == 8 := by decide +kernel

theorem wit_Alarms_cleared : (alarmed35 (some [1])).cipher.alarm = 1 ∧ (linkPhysical (alarmed35 (some [1])) = false ∨ (alarmed35 (some [1])).sec.linkKey ≠ none) := by decide +kernel

theorem test_Alarms_cleared : goes .alarmSourcesClear (alarmed35 (some [1])) (fun t => t.sec.sources == 0 && t.cipher.alarm == if odVal 0x3240 1 paired == 1 then 2 else 3) && goes .alarmSourcesClear paired (fun t => t.sec.sources == 0) := by decide +kernel

theorem wit_Alarms_shakes : (alarmed35 none).cipher.alarm = 1 ∧ linkPhysical (alarmed35 none) = true ∧ (alarmed35 none).sec.linkKey = none := by decide +kernel

def reload35 : Device := { paired with cipher := { paired.cipher with alarm := 3, slots := [(4, { KeySlot.blank with st := .zeroised, before := .active, stored := some 5, wrapped := true })] }, peer := { paired.peer with wrappedMapKey := some 9 } }

theorem wit_Alarms_reload : reload35.cipher.alarm = 3 := by decide +kernel

theorem test_Alarms_reload : goes .alarmReloadComplete reload35 fun t => t.cipher.alarm == 0 && t.peer.mapKey == some 9 && lg 0x0908 0x30 0 1 t := by decide +kernel

def limit35 : Device := { paired with cipher := { paired.cipher with slots := [(4095, { KeySlot.blank with st := .active, limitPending := some 7 })] } }

theorem wit_Alarms_limit : (slotOf 4095 limit35).limitPending = some 7 := by decide +kernel

theorem test_Alarms_limit : goes (.slotLimitDurable 4095) limit35 fun t => (slotOf 4095 t).limit 0 == 7 && (slotOf 4095 t).limitPending == none := by decide +kernel

/-! ## StripesAndJournal -/

def gather36 (fill : Nat) : Gather := ⟨1, 0, .host, 5, fill, 3, 0, none⟩

def gathers36 (fill : Nat) : Device := { paired with stripe := { paired.stripe with gathers := [gather36 fill] } }

theorem wit_StripesAndJournal_close : (gathers36 1).stripe.gathers.find? (isGather 1 0 (streamOf 0)) = some (gather36 1) ∧ (gather36 1).fill ≠ 0 ∧ (gathers36 0).stripe.gathers.find? (isGather 1 0 (streamOf 0)) = some (gather36 0) := by decide +kernel

theorem test_StripesAndJournal_close : goes (.stripeClose 1 0) (gathers36 1) (fun t => t.stripe.gathers.all (fun x => x.id != 5) && t.stripe.stripes.any fun x => x.id == 5 && x.fill == 1) && goes (.gatherLimitExpiry 1 0) (gathers36 1) (fun t => t.stripe.stripes.any fun x => x.id == 5) := by decide +kernel

def issued36 (x : Stripe) : Device := { paired with stripe := { paired.stripe with stripes := [x] } }

def stripe36 : Stripe := { str1 with st := .issued, issueDurable := true, members := [⟨mem1, true, true, true, true, true, 0⟩] }

theorem wit_StripesAndJournal_issue : stripeOf 5 (issued36 stripe36) = some stripe36 ∧ stripe36.st = .issued ∧ stripe36.issueDurable = true ∧ (∀ m ∈ stripe36.members, m.programmed = true ∧ (verifies stripe36 (issued36 stripe36) = true → m.verified = true)) := by decide +kernel

theorem test_StripesAndJournal_issue : goes (.stripeMembersProgrammed 5) (issued36 stripe36) fun t => (stripeOf 5 t).map (·.st) == some .durable := by decide +kernel

theorem wit_StripesAndJournal_release : stripeOf 5 (issued36 { str1 with durableDurable := true }) = some { str1 with durableDurable := true } ∧ str1.st = .durable := by decide +kernel

theorem test_StripesAndJournal_release : goes (.stripeRelease 5) (issued36 { str1 with durableDurable := true, released := false }) fun t => (stripeOf 5 t).map (·.released) == some true || (stripeOf 5 t).isNone := by decide +kernel

def failed36 (s : Nat) : FailedElement := ⟨targetAddr 9 0, 1, s, [5], 0, 1, 0, 0, 0, 0, 0, 0⟩

def gone36 (c : Nat) : Member := { (⟨⟨c, 0, 0, 0, 0⟩, true, true, true, false, true, 0⟩ : Member) with readable := false }

def broken36 : Stripe := { str1 with st := .durable, members := str1.members ++ [gone36 10, gone36 11] }

def rebuild36 (s : Nat) : Device := { issued36 broken36 with stripe := { (issued36 broken36).stripe with failed := [failed36 s] } }

theorem wit_StripesAndJournal_rebuild : (settleRebuild (targetAddr 9 0) (rebuild36 3)).stripe.failed.find? (·.addr == targetAddr 9 0) = some (failed36 3) ∧ ((failed36 3).work.filter fun id => !(settleRebuild (targetAddr 9 0) (rebuild36 3)).stripe.moves.any (·.stripe == id)).filter (fun id => ((stripeOf id (settleRebuild (targetAddr 9 0) (rebuild36 3))).map fun x => repairable x (settleRebuild (targetAddr 9 0) (rebuild36 3))).getD true) = [5] := by decide +kernel

theorem wit_StripesAndJournal_resume : (rebuild36 4).stripe.failed.find? (·.addr == targetAddr 9 0) = some (failed36 4) ∧ (failed36 4).st = 4 ∧ ((stripeOf 5 (rebuild36 4)).map fun x => repairable x (rebuild36 4)).getD true = true := by decide +kernel

theorem test_StripesAndJournal_resume : goes (.rebuildResume (targetAddr 9 0)) (rebuild36 4) fun t => t.stripe.failed == [failed36 3] := by decide +kernel

def lost36 : LostRecord := ⟨1, 1, 5, 0, 1, 0, 0, false, 3⟩

def losses36 : Device := { paired with stripe := { paired.stripe with lostStripes := [lost36], rewriting := [2, 3] } }

theorem wit_StripesAndJournal_scan : losses36.stripe.lostStripes.find? (fun r => r.stripe == 5 && !r.scanDone) = some lost36 := by decide +kernel

theorem test_StripesAndJournal_scan : goes (.lostStripeKeyScan 5) losses36 fun t => t.stripe.lostStripes.all (·.scanDone) := by decide +kernel

theorem wit_StripesAndJournal_rewritten : 3 ∈ losses36.stripe.rewriting ∧ 2 ∈ losses36.stripe.rewriting := by decide +kernel

theorem test_StripesAndJournal_rewritten : goes (.journalCopyRewritten 3) losses36 (fun t => t.stripe.copy3 && t.stripe.rewriting == [2] && lg 0x0A05 0x40 0 3 t) && goes (.journalCopyRewritten 2) losses36 (fun t => bit t.stripe.copies 2) := by decide +kernel

/-! ## FlashEnds -/

def op37 (k : FlashKind) (step : Nat) (deep : Bool) (e : Option Nat) : FlashOp := ⟨6, k, mem1, 5, 0, 1, true, 3, step, none, e, false, false, 0, deep, false, none⟩

def ops37 (o : FlashOp) : Device := withEngine 0 { eng1 with flash := some 6 } { paired with media := { paired.media with ops := [o] }, map := { paired.map with blocks := [{ blk1 with st := 3, live := 0 }] } }

theorem wit_FlashEnds_read : opOf 6 (ops37 (op37 .hostRead 1 false none)) = some (op37 .hostRead 1 false none) ∧ (op37 .hostRead 3 false none).started = true ∧ (op37 .hostRead 3 false none).kind.isRead = true ∧ (3 : Nat) < 4 := by decide +kernel

theorem test_FlashEnds_read : goes (.flashReadComplete 6 true 0) (ops37 (op37 .hostRead 1 false (some 0))) (fun t => t.media.ops.all (·.id != 6) && bit (engineOf 0 t).conds 23 && !bit (engineOf 0 t).conds 24 && (engineOf 0 t).flash == none) := by decide +kernel

theorem wit_FlashEnds_retry : opOf 6 (ops37 (op37 .hostRead 3 false (some 0))) = some (op37 .hostRead 3 false (some 0)) ∧ (op37 .hostRead 4 true none).step = 4 ∧ (op37 .hostRead 4 true none).deep = true ∧ (op37 .hostRead 5 true none).step = 5 := by decide +kernel

theorem test_FlashEnds_retry : goes (.flashReadComplete 6 false 0) (ops37 (op37 .hostRead 3 false (some 0))) (fun t => t.media.ops.all (·.id != 6) && bit (engineOf 0 t).conds 24) && goes (.flashReadComplete 6 false 0) (ops37 (op37 .hostRead 4 true none)) (fun t => (opOf 6 t).map (·.step) == some 5) && goes (.flashReadComplete 6 false 0) (ops37 (op37 .hostRead 5 true (some 0))) (fun t => t.media.ops.all (·.id != 6) && odVal 0x3400 8 t == 1) := by decide +kernel

theorem wit_FlashEnds_held : opOf 6 (ops37 { op37 .hostRead 1 false none with started := false, desc := ⟨130, 0, 0, 0, 0⟩ }) = some { op37 .hostRead 1 false none with started := false, desc := ⟨130, 0, 0, 0, 0⟩ } ∧ channelAway 130 (ops37 { op37 .hostRead 1 false none with started := false, desc := ⟨130, 0, 0, 0, 0⟩ }) = true := by decide +kernel

theorem test_FlashEnds_held : goes (.flashReadTimeout 6) (ops37 { op37 .hostRead 1 false none with started := false, desc := ⟨130, 0, 0, 0, 0⟩ }) (fun t => t.media.ops.all (·.id != 6)) := by decide +kernel

theorem wit_FlashEnds_timeout : indispensable (op37 .hostRead 1 false none) (ops37 (op37 .hostRead 1 false none)) = false ∧ (op37 .hostRead 1 false none).engine = none ∧ (op37 .hostRead 1 false none).req = none ∧ (op37 .hostRead 1 false none).verify = false ∧ moveOf 5 0 (ops37 (op37 .hostRead 1 false none)) = none := by decide +kernel

theorem test_FlashEnds_timeout : goes (.flashReadTimeout 6) (ops37 (op37 .hostRead 1 false none)) (fun t => t.media.ops.all (·.id != 6)) := by decide +kernel

def lost37 (o : FlashOp) : Device := { ops37 o with stripe := { (ops37 o).stripe with stripes := [{ str1 with members := [⟨mem1, true, true, true, false, true, 0⟩, ⟨⟨10, 0, 0, 0, 0⟩, true, false, false, false, true, 0⟩, ⟨⟨11, 0, 0, 0, 0⟩, true, false, false, false, true, 0⟩] }] } }

theorem wit_FlashEnds_hard : indispensable (op37 .hostRead 1 false none) (lost37 (op37 .hostRead 1 false none)) = true := by decide +kernel

theorem test_FlashEnds_hard : goes (.hardReadLimit 6) (lost37 (op37 .hostRead 1 false (some 0))) (fun t => t.media.ops.all (·.id != 6) && bit (engineOf 0 t).conds 24) && goes (.flashReadTimeout 6) (lost37 (op37 .hostRead 1 false none)) (fun t => opOf 6 t == some (op37 .hostRead 1 false none)) := by decide +kernel

theorem wit_FlashEnds_program : opOf 6 (ops37 (op37 .program 0 false (some 0))) = some (op37 .program 0 false (some 0)) ∧ stripeOf 5 (ops37 (op37 .program 0 false (some 0))) = none ∧ moveOf 5 0 (ops37 (op37 .program 0 false (some 0))) = none := by decide +kernel

theorem test_FlashEnds_program : goes (.flashProgramComplete 6) (ops37 (op37 .program 0 false (some 0))) (fun t => t.media.ops.all (·.id != 6) && bit (engineOf 0 t).conds 23) := by decide +kernel

theorem wit_FlashEnds_programStripe : stripeOf 5 (lost37 (op37 .program 0 false (some 0))) = some { str1 with members := [⟨mem1, true, true, true, false, true, 0⟩, ⟨⟨10, 0, 0, 0, 0⟩, true, false, false, false, true, 0⟩, ⟨⟨11, 0, 0, 0, 0⟩, true, false, false, false, true, 0⟩] } ∧ str1.st ≠ .issued := by decide +kernel

theorem test_FlashEnds_programStripe : goes (.flashProgramFailure 6) (lost37 (op37 .program 0 false (some 0))) (fun t => t.media.ops.all (·.id != 6) && bit (engineOf 0 t).conds 24) && goes (.flashProgramTimeout 6) (lost37 (op37 .program 0 false (some 0))) (fun t => t.media.ops.all (·.id != 6) && bit (engineOf 0 t).conds 24) := by decide +kernel

theorem wit_FlashEnds_erase : opOf 6 (ops37 (op37 .erase 0 false none)) = some (op37 .erase 0 false none) ∧ (blockOf mem1 (ops37 (op37 .erase 0 false none))).isSome := by decide +kernel

theorem test_FlashEnds_erase : goes (.flashEraseComplete 6) (ops37 (op37 .erase 0 false none)) (fun t => t.media.ops.all (·.id != 6) && (blockOf mem1 t).map (fun b => (b.st, b.erases, b.live)) == some (0, 8, 0)) && goes (.flashEraseFailure 6) (ops37 (op37 .erase 0 false none)) (fun t => t.media.ops.all (·.id != 6)) := by decide +kernel

/-! ## MapAndCare -/

def point38 (b : Bool) : Checkpoint := ⟨3, 4, [5], 0, b⟩

def map38 (c : Option Checkpoint) : Device := { paired with map := { paired.map with checkpoint := c, lastCheckpointAt := 7 } }

theorem wit_MapAndCare_checkpoint : (map38 (some (point38 true))).map.checkpoint = some (point38 true) ∧ (map38 none).map.checkpoint = none ∧ checkpointDue (map38 none) = false := by decide +kernel

theorem test_MapAndCare_checkpoint : goes .checkpointStart (map38 none) (fun t => 7 + ms (odVal 0x2A00 2 paired) ≤ t.time.now) && goes .checkpointStart (map38 (some (point38 true))) (fun t => t.map.checkpointAgain) := by decide +kernel

theorem wit_MapAndCare_complete : (point38 true).begun = true ∧ (∀ id ∈ (point38 true).stripes, stripeOf id (map38 (some (point38 true))) = none) ∧ JRecord.checkpointDone 3 4 ∉ (map38 (some (point38 true))).stripe.queued ∧ (map38 (some (point38 true))).stripe.pages = [] := by decide +kernel

theorem test_MapAndCare_complete : goes .checkpointComplete (map38 (some (point38 true))) fun t => t.stripe.queued.contains (.checkpointDone 3 4) := by decide +kernel

def page38 (typ lid : Nat) : MapPage := ⟨typ, lid, 0, 9, 0, 0, 0, false, false, false, 0, 0, false⟩

def pages38 : Device := { paired with map := { paired.map with pages := [page38 1 5] } }

theorem wit_MapAndCare_fill : pageOf 1 5 pages38 = some (page38 1 5) ∧ (page38 1 5).lost = false := by decide +kernel

theorem test_MapAndCare_fill : goes (.mapPageFill 1 5) pages38 fun t => (pageOf 1 5 t).map (·.cached) == some true := by decide +kernel

def used38 (er : Nat) (st emp : Nat) (due : Bool) : Device := { paired with map := { paired.map with blocks := [{ blk1 with channel := 3, st := st, emptying := emp, refreshDue := due, erases := er, live := 0 }, { blk1 with channel := 3, block := 4, erases := 7, live := 2, st := 1 }] } }

theorem wit_MapAndCare_level : tblGetD (used38 7 2 0 false).map.levels 3 0 ≠ levelOf 3 (used38 7 2 0 false) ∧ ownsChannel 3 (used38 7 2 0 false) = true := by decide +kernel

theorem test_MapAndCare_level : goes (.gcLevelChange 3) (used38 7 2 0 false) fun t => tblGetD t.map.levels 3 0 == levelOf 3 (used38 7 2 0 false) && lg 0x0B02 0x42 0 (3 * 256 + levelOf 3 (used38 7 2 0 false)) t := by decide +kernel

theorem wit_MapAndCare_reclaim : collecting (used38 7 2 0 false) = true ∧ levelOf 3 (used38 7 2 0 false) ≠ 0 ∧ (bestBy (fun a b : Block => natsLt [a.live, a.writeMin, a.erases] [b.live, b.writeMin, b.erases]) (victims 3 (used38 7 2 0 false))).isSome ∧ outranked (if 2 ≤ levelOf 3 (used38 7 2 0 false) then 2 else 5) (used38 7 2 0 false) = false := by decide +kernel

def easy38 (er : Nat) (due : Bool) : Device := { paired with map := { paired.map with blocks := (used38 er 2 0 due).map.blocks ++ (List.range 30).map fun n => { blk1 with channel := 3, block := 10 + n, st := 0, live := 0 } } }

theorem wit_MapAndCare_wear : odVal 0x2A30 0 (easy38 9999 false) < wearSpread 3 (easy38 9999 false) ∧ (bestBy (fun a b : Block => natsLt [a.erases, a.writeMin] [b.erases, b.writeMin]) (victims 3 (easy38 9999 false))).isSome ∧ outranked 6 (easy38 9999 false) = false := by decide +kernel

theorem test_MapAndCare_wear : goes (.wearLevel 3) (easy38 9999 false) fun t => t.map.levelling == [3] && t.map.blocks.any fun b => b.block == 3 && b.st == 3 := by decide +kernel

def sparse38 : Device := { alone with stripe := { alone.stripe with stripes := [{ str1 with released := true }] }, kv := { alone.kv with copies := [{ copy1 with extents := [⟨5, 0, 1⟩] }] } }

theorem wit_MapAndCare_compaction : collecting sparse38 = true ∧ deviceIdle sparse38 = true ∧ sparse38.stripe.relocs = [] ∧ ((sparse38.stripe.stripes.filter fun x => x.st == .durable && x.released && decide (0 < validBytes x sparse38) && decide (validBytes x sparse38 * 100 ≤ odVal 0x2A00 5 sparse38 * dataSpace x.k x.unit)) = [{ str1 with released := true }]) ∧ sparse38.map.pages = [] ∧ outranked 7 sparse38 = false := by decide +kernel

def manifest38 : Manifest := ⟨9, 1, [1], 1, 0, 0, false, []⟩

def manifests38 : Device := { alone with map := { alone.map with pages := [page38 2 3], locators := [(9, 3 * 2 ^ 14, 40)], manifestPage := 8 }, kv := { alone.kv with manifests := [manifest38] } }

theorem wit_MapAndCare_manifests : manifests38.map.pages.find? (fun p => p.typ == 2 && p.lid != manifests38.map.manifestPage && decide (0 < liveManifestBytes p.lid manifests38) && decide (liveManifestBytes p.lid manifests38 * 100 < odVal 0x2A00 6 manifests38 * pageBody)) = some (page38 2 3) ∧ (manifests38.map.locators.filter fun l => l.2.1 / 2 ^ 14 == 3) = [(9, 3 * 2 ^ 14, 40)] ∧ manifestOf 9 manifests38 = some manifest38 := by decide +kernel

def desc38 : MemberDesc := ⟨3, 0, 0, 3, 0⟩

theorem wit_MapAndCare_erase : (blockOf desc38 (used38 7 3 0 false)).isSome ∧ (∀ b, blockOf desc38 (used38 7 3 0 false) = some b → erasable b (used38 7 3 0 false) = true) ∧ ownsChannel desc38.channel (used38 7 3 0 false) = true ∧ (used38 7 3 0 false).media.ops = [] := by exact ⟨by decide +kernel, fun b h => by cases h.symm.trans (show blockOf desc38 (used38 7 3 0 false) = some _ from rfl); decide +kernel, by decide +kernel, by decide +kernel⟩

theorem test_MapAndCare_erase : goes (.blockErase desc38) (used38 7 3 0 false) (fun t => t.media.ops.any fun o => o.kind == .erase && o.desc == blockDesc desc38) := by decide +kernel

theorem wit_MapAndCare_refresh : (blockOf desc38 (easy38 7 true)).map (fun b => (b.refreshDue, b.st, b.emptying)) = some (true, 2, 0) ∧ collecting (easy38 7 true) = true ∧ outranked 3 (easy38 7 true) = false ∧ bandsDue (easy38 7 true) = [] := by decide +kernel

theorem test_MapAndCare_refresh : goes (.refresh desc38) (easy38 7 true) (fun t => odVal 0x3400 0x0A t == 1) && goes (.patrolSample desc38 0) (used38 7 2 0 true) (fun t => t.map.blocks.any fun b => b.block == 3 && b.sampledAt == minutes paired) := by decide +kernel

theorem wit_MapAndCare_outranked : outranked 3 (used38 7 2 0 true) = true ∧ outranked 7 (used38 7 2 0 true) = true := by decide +kernel

theorem test_MapAndCare_outranked : goes .stripeCompaction (used38 7 2 0 true) fun t => t.stripe == (used38 7 2 0 true).stripe && t.map == (used38 7 2 0 true).map := by decide +kernel

def other38 : Device := { easy38 7 false with media := { (easy38 7 false).media with bandChanged := [(3, 0, 0, 3)] } }

theorem wit_MapAndCare_heldBack : bandsDue other38 ≠ [] ∧ (3, 0, 0, 12) ∉ other38.media.bandChanged := by decide +kernel

def day38 (days : Nat) (n : Nat) : Device := { paired with time := { paired.time with established := true, counter := days * 86400 * 800000000 }, media := { paired.media with ledger := List.replicate n [], ledgerDay := 0 } }

theorem wit_MapAndCare_ledger : (day38 2 0).time.established = true ∧ (day38 2 0).media.ledger = [] ∧ (day38 1 2).media.ledger ≠ [] ∧ minutes (day38 1 2) / 1440 < (day38 1 2).media.ledgerDay + (day38 1 2).media.ledger.length := by decide +kernel

theorem test_MapAndCare_ledger : goes .ledgerRecord (day38 2 0) (fun t => t.media.ledgerDay + t.media.ledger.length == minutes (day38 2 0) / 1440 + 1) && goes .ledgerRecord (day38 1 2) (fun t => t.media.lastPowered == minutes (day38 1 2)) := by decide +kernel

theorem wit_MapAndCare_ages : paired.media.ages[15]? = some 0 ∧ (15 : Nat) < 16 := by decide +kernel

/-! ## PowerEvents -/

theorem wit_PowerEvents_fails : alone.power.pwrFail = false ∧ alone.power.run = .ready ∧ alone.power.frozenAt = none ∧ alone.power.flushing = none ∧ alone.power.entering = none := by decide +kernel

theorem test_PowerEvents_fails : goes .pwrFailNAssert alone fun t => t.power.pwrFail && t.power.flushing == some 1 && odVal 0x2A20 5 t == 1 && boardEntry 1 t == firmwareEntry 0x02 0x40 0 1 true := by decide +kernel

theorem wit_PowerEvents_starting : ({ paired with power := Reset.power } : Device).power.run ≠ .ready ∧ ({ paired with power := Reset.power } : Device).power.run ≠ .unpowered := by decide +kernel

theorem test_PowerEvents_starting : goes .pwrFailNAssert { paired with power := Reset.power } fun t => t.power.pwrFail := by decide +kernel

def flush39 (hot fail : Bool) : Device := { alone with power := { alone.power with flushing := some 4, hot := hot, pwrFail := fail }, map := { alone.map with flushes := [⟨4, false, false, []⟩] } }

theorem wit_PowerEvents_ends : (flush39 false true).power.flushing = some 4 ∧ (⟨4, false, false, []⟩ : Flush) ∈ (flush39 false true).map.flushes ∧ (flush39 true false).power.hot = true ∧ (flush39 false true).power.pwrFail = true ∧ (flush39 false false).power.pwrFail = false := by decide +kernel

theorem test_PowerEvents_ends : goes .powerFailFlushEnd (flush39 false true) fun t => t.power.flushing == none && t.map.flushes.all (·.complete) := by decide +kernel

theorem wit_PowerEvents_back : (flush39 false true).power.run = .ready ∧ ({ alone with power := { alone.power with pwrFail := true } } : Device).power.flushing = none ∧ ({ paired with power := { Reset.power with pwrFail := true } } : Device).power.run ≠ .ready := by decide +kernel

def done39 : Flush := ⟨4, true, false, [(1, [1], 5)]⟩

def released39 : Device := { alone with map := { alone.map with flushes := [done39] } }

theorem wit_PowerEvents_release : released39.map.flushes.find? (·.num == 4) = some done39 ∧ done39.complete = true ∧ done39.released = false ∧ releaseWritten 4 released39 = false ∧ keyVersionDurable released39 1 [1] 5 = true ∧ keyEntry? 1 [1] released39 = none := by decide +kernel

theorem test_PowerEvents_release : goes (.flushRelease 4) released39 fun t => t.stripe.queued.contains (.flushReleased 4) := by decide +kernel

theorem wit_PowerEvents_holdup : alone.power.run ≠ .unpowered ∧ alone.power.holdupOk ≠ true := by decide +kernel

theorem test_PowerEvents_holdup : goes (.holdupOkChange true) alone fun t => t.power.holdupOk && ms 100 ≤ t.time.now && t.power.holdupOkSince == some t.time.now := by decide +kernel

def test39 : Device := odPut 0x2240 0x0A 1 (odPut 0x2240 8 1000 (odPut 0x2240 9 1000 alone))

theorem wit_PowerEvents_discharge : odVal 0x2240 0x0A test39 = 1 ∧ dirtyBytes test39 ≤ test39.power.dirtyLimit ∧ (1000 : Nat) + 10 ≤ 1010 ∧ odVal 0x2240 9 test39 ≤ 1000 ∧ (1009 < 1000 + 10 ∨ 1000 < odVal 0x2240 9 test39) := by decide +kernel

theorem test_PowerEvents_discharge : goes (.holdupTestDischarge 1010 1000) test39 (fun t => odVal 0x2240 0x0A t == 3 && odVal 0x2240 2 t == testEnergy 1000 1010 1000 1000) && goes (.holdupTestDischarge 1009 1000) test39 (fun t => odVal 0x2240 0x0A t == 4) := by decide +kernel

def apst39 : Device := odPut 0x2230 1 1 (odPut 0x2230 2 (100 * 256 + 2 * 8) alone)

theorem wit_PowerEvents_apst : odVal 0x2230 1 apst39 ≠ 0 ∧ bits (odVal 0x2230 (2 + apst39.power.eff) apst39) 31 8 ≠ 0 ∧ apst39.power.eff < 4 ∧ deviceIdle apst39 = true ∧ powerFailing apst39 = false := by decide +kernel

theorem test_PowerEvents_apst : goes .apstTransition apst39 fun t => t.power.apst == 2 && ms 100 ≤ t.time.now := by decide +kernel

def enters39 (n : Nat) : Device := { alone with power := { alone.power with entering := some n } }

theorem wit_PowerEvents_gate : (enters39 2).power.entering = some 2 ∧ quiet (enters39 2) = true ∧ powerFailing (enters39 2) = false ∧ (enters39 4).power.entering = some 4 ∧ (∀ g, g < 16 → domainOn g (gateUnits 4 (enters39 4)) = false) := by decide +kernel

theorem test_PowerEvents_gate : goes .powerStateGate (enters39 2) fun t => t.power.entering == none := by decide +kernel

theorem wit_PowerEvents_dormant : ({ alone with power := { alone.power with run := .dormant } } : Device).power.run = .dormant := by decide +kernel

theorem test_PowerEvents_dormant : goes .vddqDdrBelowFloor { alone with power := { alone.power with run := .dormant } } (fun t => t.power.vddqLow) && goes .shelfPowerLoss alone fun t => t.power.run == .unpowered && t.power.porst && t.admin.events == [] && t.power.unannounced := by decide +kernel

theorem wit_PowerEvents_hot : alone.power.flushing = none ∧ alone.power.entering = none ∧ ({ alone with power := { alone.power with run := .halted } } : Device).power.run = .halted ∧ Reset.dev.power.run = .waitCore := by decide +kernel

theorem test_PowerEvents_hot : goes (.thermalShutdown 110) alone fun t => t.power.hot && t.power.flushing == some 1 := by decide +kernel

theorem wit_PowerEvents_domain : (24 : Nat) < 25 ∧ domainFaulty 24 alone = false ∧ isUp alone = true := by decide +kernel

theorem wit_PowerEvents_clock : ({ alone with power := { alone.power with run := .unpowered } } : Device).power.run = .unpowered := by decide +kernel

/-- A flush page carries 16,352 bytes; seven pages and their parity are a group (R340). -/
theorem test_flushPages : (flushPages 3 0 [1, 2, 3]).map (·.length) = [16384] ∧ (flushGroups 9 (List.replicate 9 [1])).map (·.length) = [8, 3] := by decide +kernel

/-! ## StartsAndFatal -/

def power40 (p : PowerState) : Device := { paired with power := p }

theorem wit_StartsAndFatal_assert_ : alone.power.run ≠ .unpowered := by decide +kernel

theorem test_StartsAndFatal_assert_ : goes .porstNAssert alone fun t => t.power.run == .reset && t.power.porst := by decide +kernel

def reset40 : Device := { Reset.dev with fw := paired.fw, power := { Reset.power with run := .unpowered, porst := true, coreEn := false } }

theorem wit_StartsAndFatal_release : reset40.power.porst = true ∧ reset40.peer.fenceInN = true ∧ reset40.power.refclk = true ∧ reset40.power.hot = false ∧ ({ reset40 with peer := { reset40.peer with fenceInN := false } } : Device).peer.fenceInN = false := by decide +kernel

theorem test_StartsAndFatal_release : goes (.porstNRelease 3) reset40 (fun t => t.power.run == .waitCore && t.side == 1 && t.nodeId == 1 && t.admin.powerCycles == 1) && goes (.porstNRelease 3) { reset40 with peer := { reset40.peer with fenceInN := false } } (fun t => t.power.run == .reset) := by decide +kernel

def running40 : Device := { paired with power := { paired.power with coreEn := true, corePg := true } }

theorem wit_StartsAndFatal_coreLoss : running40.power.coreEn = true ∧ running40.power.corePg = true ∧ running40.power.porst = false ∧ isUp running40 = true := by decide +kernel

theorem test_StartsAndFatal_coreLoss : goes .corePgLoss running40 (fun t => odVal 0x2200 1 t == 6 && t.power.run == .waitCore) && goes .rootPllLoss running40 (fun t => odVal 0x2200 1 t == 4) := by decide +kernel

theorem wit_StartsAndFatal_wake : dormant13.power.run = .dormant := by decide +kernel

theorem test_StartsAndFatal_wake : goes .epochInWake dormant13 fun t => odVal 0x2200 1 t == 5 && t.power.run == .waitCore && us 500 ≤ t.time.now := by decide +kernel

def trial40 : Device := { image13 .valid .trial with fw := { (image13 .valid .trial).fw with confirmBy := some 9 } }

theorem wit_StartsAndFatal_confirm : trial40.fw.confirmBy = some 9 := by decide +kernel

theorem test_StartsAndFatal_confirm : goes .healthConfirmDeadline trial40 fun t => odVal 0x2200 1 t == 2 && 9 ≤ t.time.now := by decide +kernel

theorem wit_StartsAndFatal_refclk : (power40 { Reset.power with refclk := false }).power.refclk = false := by decide +kernel

theorem test_StartsAndFatal_refclk : goes .refclkRestart (power40 { Reset.power with refclk := false }) fun t => t.power.refclk && us 100 ≤ t.time.now := by decide +kernel

theorem wit_StartsAndFatal_core : Reset.dev.power.run = .waitCore ∧ Reset.dev.power.coreEn = true ∧ Reset.dev.power.coreTries < 3 ∧ 3 ≤ (power40 { Reset.power with coreTries := 3 }).power.coreTries := by decide +kernel

theorem test_StartsAndFatal_core : goes .corePgRise (power40 Reset.power) (fun t => t.power.run == .starting && t.power.stage == 3) && goes .corePgTimeout (power40 Reset.power) (fun t => t.power.coreTries == 2 && ms 50 + sec 1 ≤ t.time.now) && goes .corePgTimeout (power40 { Reset.power with coreTries := 3 }) fun t => t.power.run == .halted && t.power.coreFailures == 3 := by decide +kernel

def boot40 (cause : Nat) (r : Option DormancyRecord) : Device := odPut 0x2200 1 cause (power40 { Reset.power with run := .starting, stage := 3, corePg := true, dormancy := r })

theorem wit_StartsAndFatal_boot : atBoot (boot40 0 none) = true ∧ leavesDormancy (boot40 0 none) = false ∧ leavesDormancy (boot40 5 none) = true ∧ dormantFailure (boot40 5 none) ≠ 0 ∧ dormantFailure (boot40 5 (some ⟨0, 0, 0⟩)) = 0 := by decide +kernel

theorem wit_StartsAndFatal_fatal : isUp paired = true ∧ paired.power.fatal = none ∧ paired.sec.violationAt = none := by decide +kernel

theorem test_StartsAndFatal_fatal : goes (.fatalError 9) paired (fun t => t.power.fatal == some 9 && boardEntry 0 t == { firmwareEntry 0x06 0xFFFF 9 16 true with paired := false }) && goes .controlProcessorWatchdog paired (fun t => t.power.fatal == some 7) && goes (.instructionFetchRefused 3 5) paired (fun t => t.power.fatal == some 1 && odVal 0x3200 6 t == 3 * 2 ^ 56 + 5) && goes (.worldViolation 3 5) paired (fun t => odVal 0x3200 1 t == 1 && lg 0x1101 0x72 2 (3 * 2 ^ 56 + 5) t) := by decide +kernel

def dump40 : Device := { paired with fw := { paired.fw with dump := some ⟨1, 2, 3, false, []⟩, copying := true } }

theorem wit_StartsAndFatal_dump : dump40.fw.dump = some ⟨1, 2, 3, false, []⟩ ∧ dump40.fw.copying = true := by decide +kernel

theorem test_StartsAndFatal_dump : goes .dumpCopy dump40 fun t => t.fw.dump == none && t.fw.flashDumps.length == 1 := by decide +kernel

/-! ## Replication -/

def session41 (x : ReplSession) : Device := odPut 0x3320 16 (1 + 2 ^ 3 + 2 ^ 352) { odPut 0x2300 1 2 { alone with snap := { alone.snap with snaps := [⟨7, 1, 90, 0, 2, some 15, true, true, false, false, false⟩] } } with snap := { alone.snap with snaps := [⟨7, 1, 90, 0, 2, some 15, true, true, false, false, false⟩], sessions := alone.snap.sessions.set 15 x } }

theorem wit_Replication_idle : (15 : Nat) < (session41 { ReplSession.blank with st := 1, startedAt := 1 }).snap.sessions.length ∧ sessionReady 15 (session41 { ReplSession.blank with st := 1, startedAt := 1 }) = true ∧ (sessionOf 15 (session41 { ReplSession.blank with st := 1, startedAt := 1 })).st = 1 ∧ bit (sessionCfg 15 (session41 { ReplSession.blank with st := 1, startedAt := 1 })) 3 = true := by decide +kernel

def sent41 (del : Bool) (retries : Nat) (at_ : Option Nat) : RemoteCmd := ⟨[1], del, [], retries, at_⟩

def ships41 (c : RemoteCmd) : Device := session41 { ReplSession.blank with st := 3, current := some 7, outstanding := [c], connected := true }

theorem wit_Replication_answer : (sessionOf 15 (ships41 (sent41 true 0 none))).st = 3 ∧ (sessionOf 15 (ships41 (sent41 true 0 none))).outstanding.find? (fun c => c.key == [1] && c.retryAt.isNone) = some (sent41 true 0 none) ∧ skipsKey 7 0xC6 = true ∧ skipsKey 0 6 = false ∧ (sent41 true 0 none).retries < 8 ∧ 8 ≤ (sent41 true 8 none).retries ∧ (sessionOf 15 (ships41 (sent41 true 8 none))).slot = none := by decide +kernel

theorem test_Replication_answer : goes (.replicationRemoteCompletion 15 [1] 1 0x87 true) (ships41 (sent41 true 0 none)) (fun t => (sessionOf 15 t).keysDeleted == 1 && odVal 0x3300 5 t == 1) && goes (.replicationRemoteCompletion 15 [1] 7 0xC6 true) (ships41 (sent41 false 0 none)) (fun t => (sessionOf 15 t).skipped == 1) && goes (.replicationRemoteCompletion 15 [1] 0 6 false) (ships41 (sent41 false 7 none)) (fun t => (sessionOf 15 t).retries == 1 && (sessionOf 15 t).outstanding == [sent41 false 8 (some (sec 1))]) && goes (.replicationRemoteCompletion 15 [1] 0 6 false) (ships41 (sent41 false 8 none)) (fun t => (sessionOf 15 t).st == 5 && (sessionOf 15 t).outstanding == []) := by decide +kernel

theorem wit_Replication_retry : (sessionOf 15 (ships41 (sent41 false 1 (some 5)))).outstanding.find? (fun c => c.key == [1] && c.retryAt.isSome) = some (sent41 false 1 (some 5)) := by decide +kernel

theorem wit_Replication_reconnect : sessionReady 15 (session41 { ReplSession.blank with st := 4, current := some 7, currentTick := 90 }) = true ∧ cycleStands 15 (session41 { ReplSession.blank with st := 4, current := some 7, currentTick := 90 }) = true ∧ cycleStands 15 (session41 { ReplSession.blank with st := 2 }) = false ∧ (∀ c ∈ (session41 { ReplSession.blank with st := 2 }).snap.creates, c.session ≠ some 15) ∧ newCycle 15 (session41 { ReplSession.blank with st := 2 }) = none := by decide +kernel

theorem test_Replication_reconnect : goes (.replicationReconnect 15 false) (session41 { ReplSession.blank with st := 2 }) (fun t => (sessionOf 15 t).st == 4 && (sessionOf 15 t).reconnectAt == t.time.now + sec 5) && goes (.replicationReconnect 15 true) (session41 { ReplSession.blank with st := 2 }) (fun t => (sessionOf 15 t).st == 1) := by decide +kernel

def locked41 (x : ReplSession) : Device := { session41 x with time := { (session41 x).time with st := .locked, established := true } }

theorem wit_Replication_again : (newCycle 15 (locked41 { ReplSession.blank with st := 2, base := some 7, baseTick := 90, current := some 9 })).isSome = true ∧ cycleStands 15 (locked41 { ReplSession.blank with st := 2, base := some 7, baseTick := 90, current := some 9 }) = false := by decide +kernel

theorem test_Replication_again : goes (.replicationReconnect 15 true) (locked41 { ReplSession.blank with st := 2, base := some 7, baseTick := 90, current := some 9 }) fun t => (sessionOf 15 t).st == 2 && (sessionOf 15 t).base == none && ((snapOf 7 t).map (·.st)) == some 3 := by decide +kernel

theorem wit_Replication_loss : (15 : Nat) < 16 ∧ (sessionOf 15 (ships41 (sent41 false 0 none))).st = 3 := by decide +kernel

theorem test_Replication_loss : goes (.remoteAssociationLoss 15) (ships41 (sent41 false 0 none)) fun t => (sessionOf 15 t).st == 4 && (sessionOf 15 t).outstanding == [] := by decide +kernel

/-! ## FanDrives -/

def fan42 (f : Fan) : Device := { alone with fans := alone.fans.set 5 f }

theorem wit_FanDrives_start : driveRuns 5 (fan42 Fan.blank) = true ∧ (5 : Nat) < (fan42 Fan.blank).fans.length ∧ (fanOf 5 (fan42 Fan.blank)).st = 0 ∧ isFitted 5 (odPut 0x2E00 1 0x3F (fan42 Fan.blank)) = true ∧ isFitted 5 (odPut 0x2E00 1 0 (fan42 Fan.blank)) = false := by decide +kernel

theorem test_FanDrives_start : goes (.fanStart 5) (odPut 0x2E00 1 0x3F (fan42 Fan.blank)) (fun t => (fanOf 5 t).st == 1) && goes (.fanStart 5) (odPut 0x2E00 1 0 (fan42 Fan.blank)) (fun t => (fanOf 5 t).st == 9) := by decide +kernel

theorem wit_FanDrives_sense : (fanOf 5 (fan42 { Fan.blank with st := 1 })).st = 1 ∧ belowBrake 5 0 (fan42 { Fan.blank with st := 1 }) = true ∧ belowBrake 5 (10 ^ 9) (fan42 { Fan.blank with st := 1 }) = false ∧ handOver 5 60000 (fan42 { Fan.blank with st := 1 }) = true ∧ handOver 5 0 (fan42 { Fan.blank with st := 1 }) = false ∧ driveRuns 5 (fan42 { Fan.blank with st := 1 }) = true := by decide +kernel

theorem test_FanDrives_sense : goes (.fanSenseComplete 5 0 true 0) (fan42 { Fan.blank with st := 1 }) fun t => (fanOf 5 t).st == 3 && (fanOf 5 t).duty == 256 * alignDuty 5 alone && ms 20 ≤ t.time.now := by decide +kernel

theorem wit_FanDrives_brake : (fanOf 5 (fan42 { Fan.blank with st := 2, afterBrake := 2 })).afterBrake = 2 ∧ (fanOf 5 (fan42 { Fan.blank with st := 2, afterBrake := 1 })).afterBrake ≠ 0 ∧ (fanOf 5 (fan42 { Fan.blank with st := 2 })).afterBrake = 0 ∧ (fanOf 5 (fan42 { Fan.blank with st := 7 })).st = 7 := by decide +kernel

theorem test_FanDrives_brake : goes (.fanBrakeEnd 5 0 0) (fan42 { Fan.blank with st := 2 }) (fun t => (fanOf 5 t).st == 3) && goes (.fanBrakeEnd 5 (10 ^ 9) 77) (fan42 { Fan.blank with st := 2 }) (fun t => (fanOf 5 t).st == 3 && sec 3 ≤ t.time.now && lg 0x1301 0x85 1 77 t) && goes (.fanBrakeEnd 5 0 0) (fan42 { Fan.blank with st := 2, afterBrake := 2 }) (fun t => (fanOf 5 t).st == 3 && ms 500 ≤ t.time.now) && goes (.fanBrakeEnd 5 0 0) (fan42 { Fan.blank with st := 2, afterBrake := 1 }) (fun t => (fanOf 5 t).st == if isFitted 5 alone then 0 else 9) := by decide +kernel

theorem wit_FanDrives_ramp : (fanOf 5 (fan42 { Fan.blank with st := 4, rampTries := 1 })).rampTries < 2 ∧ 2 ≤ (fanOf 5 (fan42 { Fan.blank with st := 4, rampTries := 2 })).rampTries ∧ (fanOf 5 (fan42 { Fan.blank with st := 3 })).st = 3 := by decide +kernel

theorem test_FanDrives_ramp : goes (.fanRampEnd 5) (fan42 { Fan.blank with st := 4, rampTries := 1 }) (fun t => (fanOf 5 t).st == 3 && (fanOf 5 t).rampTries == 2) && goes (.fanRampEnd 5) (fan42 { Fan.blank with st := 4, rampTries := 2 }) (fun t => (fanOf 5 t).st == 8 && lg 0x1304 0x85 2 0 t) && goes (.fanAlignEnd 5) (fan42 { Fan.blank with st := 3 }) (fun t => (fanOf 5 t).st == 4) := by decide +kernel

theorem wit_FanDrives_runs : (fanOf 5 (fan42 { Fan.blank with st := 5 })).st = 5 ∧ (fanOf 5 (fan42 { Fan.blank with st := 5 })).advance = 0 ∧ (fanOf 5 (fan42 { Fan.blank with st := 5 })).reference = (fanOf 5 (fan42 { Fan.blank with st := 5 })).speed * 1000 ∧ (fanOf 5 (fan42 { Fan.blank with st := 4, goodSectors := 4 })).goodSectors < 5 := by decide +kernel

theorem test_FanDrives_runs : goes (.bemfZeroCrossing 5 true 9) (fan42 { Fan.blank with st := 5, sector := 5 }) (fun t => (fanOf 5 t).st == 5 && (fanOf 5 t).sector == 0 && (fanOf 5 t).goodSectors == 1) && goes (.fanKeMeasure 5 (keNominal 5 alone)) (fan42 { Fan.blank with st := 5 }) (fun t => (fanOf 5 t).keSince == none && sec 1 ≤ t.time.now) && goes (.fanOvercurrent 5) (fan42 { Fan.blank with st := 5 }) (fun t => (fanOf 5 t).st == 7 && lg 0x1305 0x85 2 (currentLimit 5 alone) t) && goes (.rotorLost 5) (fan42 { Fan.blank with st := 5 }) (fun t => (fanOf 5 t).st == 6) := by decide +kernel

theorem wit_FanDrives_bounds : ((keNominal 5 alone + keNominal 5 alone / 4 - keNominal 5 alone) + (keNominal 5 alone - (keNominal 5 alone + keNominal 5 alone / 4))) * 100 ≤ 25 * keNominal 5 alone ∧ 25 * keNominal 5 alone < ((2 * keNominal 5 alone - keNominal 5 alone) + (keNominal 5 alone - 2 * keNominal 5 alone)) * 100 := by decide +kernel

theorem wit_FanDrives_retry : (fanOf 5 (fan42 { Fan.blank with st := 8 })).st = 8 ∧ (fanOf 5 (fan42 { Fan.blank with st := 6 })).st = 6 := by decide +kernel

theorem test_FanDrives_retry : goes (.fanFailedRetry 5) (fan42 { Fan.blank with st := 8, nextStart := 9 }) fun t => (fanOf 5 t).st == 1 && 9 ≤ t.time.now := by decide +kernel

/-! ## EngineAluFlags -/

theorem wit_EngineAluFlags_runs : EngineRuns 0 (withEngine 0 { eng1 with ctx := { eng1.ctx with regs := [(1, 2 ^ 64 - 1)] } } paired) ∧ reg 0 1 (withEngine 0 { eng1 with ctx := { eng1.ctx with regs := [(1, 2 ^ 64 - 1)] } } paired) < 2 ^ 64 := by unfold EngineRuns; decide +kernel

/-! ## OwnersStay -/

theorem wit_OwnersStay_goes : ∃ t, step State.reset = .next t := by exact ⟨_, rfl⟩

/-! ## MemoriesStayCanonical -/

theorem wit_MemoriesStayCanonical_goes : (∃ t, step ⟨paired, [.heartbeatProduce]⟩ = .next t) ∧ ∀ m ∈ paired.memories, Memory.wf m = true := by exact ⟨⟨_, rfl⟩, by decide +kernel⟩

/-! ## EveryCommandGoesOn -/

theorem wit_EveryCommandGoesOn_mover : ∃ e w, Instr.moverDone 63 true = .moverDone e w := by exact ⟨63, true, rfl⟩

/-! ## SearchPriority -/

def asked55 : Device := { run0 with cam := { run0.cam with queue := [⟨4, 3, 0, 0, some 0⟩], entries := [(1024, { SearchEntry.blank with st := 1, data := 7 })] } }

theorem wit_SearchPriority_search : nextSearch asked55 = some ⟨4, 3, 0, 0, some 0⟩ ∧ (0 : Nat) < asked55.eng.engines.length ∧ (engineOf 0 asked55).ports.length = 8 := by decide +kernel

theorem test_SearchPriority_search : goes (.searchResult []) asked55 fun t => bit (engineOf 0 t).conds 18 && t.cam.queue == [] := by decide +kernel

/-! ## PinStates -/

theorem wit_PinStates_porst : alone.power.run ≠ .unpowered ∧ alone.power.run = .ready ∧ alone.power.frozenAt = none := by decide +kernel

theorem test_PinStates_porst : goes .porstNAssert alone fun t => pinState (.flash 3) t == .hiZ && pinState .coreEn t == .low && pinState .ddrReset t == .low := by decide +kernel

/-- The sums that R604 and R608 state. -/
theorem test_ball_count : (([.flash, .ddr, .hostPorts, .link, .clocks, .sideband, .power, .management, .straps, .airflow, .test] : List SignalGroup).map signalCount).sum = 4256 ∧ 4256 + groundBalls + (rails.map railBalls).sum + reservedBalls = ballRow * ballRow := by decide

theorem test_rail_power : mostPower false = 2468500000 ∧ mostPower true = 29300000 := by decide

/-- R603, R615. -/
theorem test_regions : ballRegion 18 81 = some (.group 7) ∧ ballRegion 65 2 = some (.group 8) ∧ ballRegion 82 82 = some .ground ∧ (bootParts.zip (bootParts.drop 1)).all (fun x => x.1.offset + x.1.size * x.1.copies ≤ x.2.offset) = true := by decide

/-! ## WritesCommit -/

/-- One write is ready; the entry of COMMIT_GROUP launches next. -/
def cmd57 (op : Nat) (items : List Item) : Cmd := { newCmd 3 qk (kvCap op 0 4 []) 0 0 false with phase := .ready, items := items }

def ready57 (op : Nat) (items : List Item) : Device := entry25 2 1 0x40 0 { kv0 with nvme := { kv0.nvme with cmds := [cmd57 op items] } }

def item57 (key : Bytes) (isDelete : Bool) : Item := { newItem 0 key [] 0 0 isDelete with mseq := 9, ready := true }

def group57 (d : Device) : Device := bucketGroup 100 (launchedAt 2 (boardEntry 2 d) d)

theorem wit_WritesCommit_store : LaunchesAlone 2 (boardEntry 2 (ready57 1 [item57 [1] false])) (ready57 1 [item57 [1] false]) ∧ (boardEntry 2 (ready57 1 [item57 [1] false])).action = 1 ∧ (group57 (ready57 1 [item57 [1] false])).nvme.cmds = [cmd57 1 [item57 [1] false]] ∧ commitsAt 100 (cmd57 1 [item57 [1] false]) = true ∧ reachable qk (group57 (ready57 1 [item57 [1] false])) = true ∧ isRange (cmd57 1 []).sqe = false ∧ ((cmd57 1 [item57 [1] false]).items.map (·.key)).Nodup := by simp only [LaunchesAlone]; decide +kernel

theorem wit_WritesCommit_delete : (cmd57 0x10 []).kind = KvKind.delete ∧ isSecure (cmd57 0x10 []).sqe = false ∧ commitsAt 100 (cmd57 0x10 [item57 [1] true]) = true := by decide +kernel


end Sys2Proof.Machine.Test
end

section
/-! SUPPORT. Every command and every step keeps the clock's order, what was sent, canonical memories and written owner records. -/

namespace Sys2Proof.Machine

/-- Where a command goes on, nothing is taken back: the arm of each command by the lemma of its operation. -/
theorem exec_kept {base : Device} {s : State} (hs : Kept base s.dev) : ∀ i : Instr, KeptB base (exec i s)
  | .store .. => execStore_kept hs
  | .retrieve .. => execRetrieve_kept hs
  | .list .. => execList_kept hs
  | .delete .. => execDelete_kept hs
  | .secureDelete .. => execSecureDelete_kept hs
  | .exist .. => execExist_kept hs
  | .longKeyStore .. => execLongKeyStore_kept hs
  | .longKeyRetrieve .. => execLongKeyRetrieve_kept hs
  | .batchStore .. => execBatchStore_kept hs
  | .longKeyList .. => execLongKeyList_kept hs
  | .longKeyDelete .. => execLongKeyDelete_kept hs
  | .longKeyDeleteRange .. => execLongKeyDeleteRange_kept hs
  | .longKeyExist .. => execLongKeyExist_kept hs
  | .commandFetch => execCommandFetch_kept hs
  | .lockGrant => execLockGrant_kept hs
  | .lockReservation .. => execLockReservation_kept hs
  | .getLogPage .. => execGetLogPage_kept hs
  | .getLongOperationResults .. => execGetLongOperationResults_kept hs
  | .identify .. => execIdentify_kept hs
  | .abort .. => execAbort_kept hs
  | .setFeaturesArbitration .. => execSetFeaturesArbitration_kept hs
  | .setFeaturesPowerManagement .. => execSetFeaturesPowerManagement_kept hs
  | .setFeaturesTemperatureThreshold .. => execSetFeaturesTemperatureThreshold_kept hs
  | .setFeaturesApst .. => execSetFeaturesApst_kept hs
  | .setFeaturesAssociation .. => execSetFeaturesAssociation_kept hs
  | .getFeatures .. => execGetFeatures_kept hs
  | .asynchronousEventRequest .. => execAsynchronousEventRequest_kept hs
  | .firmwareImageDownload .. => execFirmwareImageDownload_kept hs
  | .firmwareCommitApply .. => execFirmwareCommitApply_kept hs
  | .firmwareCommitActivate .. => execFirmwareCommitActivate_kept hs
  | .shortSelfTest .. => execShortSelfTest_kept hs
  | .extendedSelfTest .. => execExtendedSelfTest_kept hs
  | .selfTestAbort .. => execSelfTestAbort_kept hs
  | .selfTestSegment .. => execSelfTestSegment_kept hs
  | .keepAlive .. => execKeepAlive_kept hs
  | .connect .. => execConnect_kept hs
  | .propertySet .. => execPropertySet_kept hs
  | .sanitizeExitFailureMode .. => execSanitizeExitFailureMode_kept hs
  | .sanitizeBlockErase .. => execSanitizeBlockErase_kept hs
  | .sanitizeCryptoErase .. => execSanitizeCryptoErase_kept hs
  | .sanitizeComplete .. => execSanitizeComplete_kept hs
  | .parameterRead .. => execParameterRead_kept hs
  | .parameterWrite .. => execParameterWrite_kept hs
  | .longOperationList .. => execLongOperationList_kept hs
  | .snapshotDifference .. => execSnapshotDifference_kept hs
  | .longOperationReplication .. => execLongOperationReplication_kept hs
  | .scrub .. => execScrub_kept hs
  | .rebuildReport .. => execRebuildReport_kept hs
  | .dumpReadout .. => execDumpReadout_kept hs
  | .longOperationRelease .. => execLongOperationRelease_kept hs
  | .longOperationExpiry .. => execLongOperationExpiry_kept hs
  | .longOperationRecordCommit .. => execLongOperationRecordCommit_kept hs
  | .secureDeleteErasure .. => execSecureDeleteErasure_kept hs
  | .snapshotCreate .. => execSnapshotCreate_kept hs
  | .snapshotDelete .. => execSnapshotDelete_kept hs
  | .snapshotDeleteWrite .. => execSnapshotDeleteWrite_kept hs
  | .dictionaryWrite .. => execDictionaryWrite_kept hs
  | .restoreAllDefaults .. => execRestoreAllDefaults_kept hs
  | .windowSelectWrite .. => execWindowSelectWrite_kept hs
  | .windowRecordRead .. => execWindowRecordRead_kept hs
  | .challengeRead .. => execChallengeRead_kept hs
  | .sessionResponse .. => execSessionResponse_kept hs
  | .sessionClose .. => execSessionClose_kept hs
  | .sessionIdleTimeout .. => execSessionIdleTimeout_kept hs
  | .sessionLockoutExpiry .. => execSessionLockoutExpiry_kept hs
  | .challengeExpiry .. => execChallengeExpiry_kept hs
  | .assemblyTimeout .. => execAssemblyTimeout_kept hs
  | .gearTableActivate .. => execGearTableActivate_kept hs
  | .gearTableFillFactory .. => execGearTableFillFactory_kept hs
  | .generate .. => execGenerate_kept hs
  | .retire .. => execRetire_kept hs
  | .eraseTenant .. => execEraseTenant_kept hs
  | .reload .. => execReload_kept hs
  | .policyGroupCommit .. => execPolicyGroupCommit_kept hs
  | .policyGroupAbort .. => execPolicyGroupAbort_kept hs
  | .lostStripeClear .. => execLostStripeClear_kept hs
  | .namespaceRecordWrite .. => execNamespaceRecordWrite_kept hs
  | .dedupBindingWrite .. => execDedupBindingWrite_kept hs
  | .partitionTableWrite .. => execPartitionTableWrite_kept hs
  | .searchEntryWrite .. => execSearchEntryWrite_kept hs
  | .stripeClassWrite .. => execStripeClassWrite_kept hs
  | .boardEntryWrite .. => execBoardEntryWrite_kept hs
  | .commitPeriodWrite .. => execCommitPeriodWrite_kept hs
  | .preferredMapWrite .. => execPreferredMapWrite_kept hs
  | .captureModeWrite .. => execCaptureModeWrite_kept hs
  | .macStatisticsRead .. => execMacStatisticsRead_kept hs
  | .clearOnReadEntryRead .. => execClearOnReadEntryRead_kept hs
  | .powerStateRequest .. => execPowerStateRequest_kept hs
  | .enterPs4 .. => execEnterPs4_kept hs
  | .wakeFromPs4 .. => execWakeFromPs4_kept hs
  | .holdupTest .. => execHoldupTest_kept hs
  | .holdupTestDischarge .. => execHoldupTestDischarge_kept hs
  | .arbiterSurvive .. => execArbiterSurvive_kept hs
  | .arbiterStandDown .. => execArbiterStandDown_kept hs
  | .arbiterReleaseFence .. => execArbiterReleaseFence_kept hs
  | .arbiterTimeout => execArbiterTimeout_kept hs
  | .firmwareActivate .. => execFirmwareActivate_kept hs
  | .healthConfirm .. => execHealthConfirm_kept hs
  | .healthConfirmDeadline => execHealthConfirmDeadline_kept hs
  | .patchPackageWrite .. => execPatchPackageWrite_kept hs
  | .patchActivate .. => execPatchActivate_kept hs
  | .ownerEnrol .. => execOwnerEnrol_kept hs
  | .ownerRevoke .. => execOwnerRevoke_kept hs
  | .profileWrite .. => execProfileWrite_kept hs
  | .profileBindingWrite .. => execProfileBindingWrite_kept hs
  | .storageSummaryWrite .. => execStorageSummaryWrite_kept hs
  | .fanFloorWrite .. => execFanFloorWrite_kept hs
  | .fansFittedWrite .. => execFansFittedWrite_kept hs
  | .usdoDownload .. => execUsdoDownload_kept hs
  | .usdoUpload .. => execUsdoUpload_kept hs
  | .usdoSegmentTimeout .. => execUsdoSegmentTimeout_kept hs
  | .usdoUnsupportedRequest .. => execUsdoUnsupportedRequest_kept hs
  | .canUnsupportedMessage ident => execCanUnsupportedMessage_kept (y0 := ident) hs
  | .nmtStart .. => execNmtStart_kept hs
  | .nmtStop .. => execNmtStop_kept hs
  | .nmtEnterPreOperational .. => execNmtEnterPreOperational_kept hs
  | .nmtResetCommunication .. => execNmtResetCommunication_kept hs
  | .nmtResetNode .. => execNmtResetNode_kept hs
  | .heartbeatProduce => execHeartbeatProduce_kept hs
  | .heartbeatConsumerReceive .. => execHeartbeatConsumerReceive_kept hs
  | .heartbeatConsumerTimeout => execHeartbeatConsumerTimeout_kept hs
  | .emcyInhibitExpiry => execEmcyInhibitExpiry_kept hs
  | .canReceiveOverrun => execCanReceiveOverrun_kept hs
  | .tpdoEventTimer .. => execTpdoEventTimer_kept hs
  | .tpdoChangeSend .. => execTpdoChangeSend_kept hs
  | .frameReceive .. => execFrameReceive_kept hs
  | .arpRequest .. => execArpRequest_kept hs
  | .icmpEcho .. => execIcmpEcho_kept hs
  | .icmpUnreachable .. => execIcmpUnreachable_kept hs
  | .icreq .. => execIcreq_kept hs
  | .roceConnectRequest .. => execRoceConnectRequest_kept hs
  | .portLinkUp .. => execPortLinkUp_kept hs
  | .portLinkDown .. => execPortLinkDown_kept hs
  | .keepAliveExpiry .. => execKeepAliveExpiry_kept hs
  | .receiveBufferThreshold .. => execReceiveBufferThreshold_kept hs
  | .pauseRenewal .. => execPauseRenewal_kept hs
  | .pauseReceive .. => execPauseReceive_kept hs
  | .ecnCeReceive .. => execEcnCeReceive_kept hs
  | .cnpReceive .. => execCnpReceive_kept hs
  | .rateIncreaseTimer .. => execRateIncreaseTimer_kept hs
  | .ptpSync .. => execPtpSync_kept hs
  | .ptpAnnounce .. => execPtpAnnounce_kept hs
  | .ptpDelayResp .. => execPtpDelayResp_kept hs
  | .ptpDelayReqSend => execPtpDelayReqSend_kept hs
  | .announceReceiptTimeout => execAnnounceReceiptTimeout_kept hs
  | .holdoverLimitExpiry => execHoldoverLimitExpiry_kept hs
  | .timeLeaderChange => execTimeLeaderChange_kept hs
  | .epochOutPulse => execEpochOutPulse_kept hs
  | .epochInEdge .. => execEpochInEdge_kept hs
  | .epochInWake => execEpochInWake_kept hs
  | .commitGroup .. => execCommitGroup_kept hs
  | .powerFailCommit .. => execPowerFailCommit_kept hs
  | .snapshotCut .. => execSnapshotCut_kept hs
  | .channelHandover .. => execChannelHandover_kept hs
  | .bucketMove .. => execBucketMove_kept hs
  | .freeze .. => execFreeze_kept hs
  | .timeStep .. => execTimeStep_kept hs
  | .groupPowerUp .. => execGroupPowerUp_kept hs
  | .groupPowerDown .. => execGroupPowerDown_kept hs
  | .tollWindow .. => execTollWindow_kept hs
  | .fanRamp .. => execFanRamp_kept hs
  | .gearActivate .. => execGearActivate_kept hs
  | .policyGroup .. => execPolicyGroup_kept hs
  | .slotRetire .. => execSlotRetire_kept hs
  | .tenantErase .. => execTenantErase_kept hs
  | .eventMark .. => execEventMark_kept hs
  | .pairedLaunchMismatch .. => execPairedLaunchMismatch_kept hs
  | .pairedPlacementDeadline .. => execPairedPlacementDeadline_kept hs
  | .peerAliveToggle => execPeerAliveToggle_kept hs
  | .peerAliveAsserted => execPeerAliveAsserted_kept hs
  | .peerAliveLost => execPeerAliveLost_kept hs
  | .livenessWatchdogExpiry => execLivenessWatchdogExpiry_kept hs
  | .linkUp .. => execLinkUp_kept hs
  | .linkDown => execLinkDown_kept hs
  | .peerWaitExpiry => execPeerWaitExpiry_kept hs
  | .fenceInAssert => execFenceInAssert_kept hs
  | .fenceInRelease .. => execFenceInRelease_kept hs
  | .takeover .. => execTakeover_kept hs
  | .takeoverComplete => execTakeoverComplete_kept hs
  | .handoverPlacement => execHandoverPlacement_kept hs
  | .handoverDrained .. => execHandoverDrained_kept hs
  | .handoverRelease .. => execHandoverRelease_kept hs
  | .handoverTakeChannel .. => execHandoverTakeChannel_kept hs
  | .rebalanceWindow => execRebalanceWindow_kept hs
  | .bucketRecordsStream .. => execBucketRecordsStream_kept hs
  | .ack .. => execAck_kept hs
  | .frameRetransmitTimer .. => execFrameRetransmitTimer_kept hs
  | .ackTimer .. => execAckTimer_kept hs
  | .hello .. => execHello_kept hs
  | .heartbeat .. => execHeartbeat_kept hs
  | .place .. => execPlace_kept hs
  | .armed .. => execArmed_kept hs
  | .cancel .. => execCancel_kept hs
  | .launchReport .. => execLaunchReport_kept hs
  | .handoverState .. => execHandoverState_kept hs
  | .released .. => execReleased_kept hs
  | .handoverAbort .. => execHandoverAbort_kept hs
  | .loopback .. => execLoopback_kept hs
  | .fwdCmd .. => execFwdCmd_kept hs
  | .fwdData .. => execFwdData_kept hs
  | .fwdCompletion .. => execFwdCompletion_kept hs
  | .lockReserve .. => execLockReserve_kept hs
  | .lockReply .. => execLockReply_kept hs
  | .mirrorData .. => execMirrorData_kept hs
  | .mirrorAck .. => execMirrorAck_kept hs
  | .mirrorRelease .. => execMirrorRelease_kept hs
  | .journalPage .. => execJournalPage_kept hs
  | .journalAck .. => execJournalAck_kept hs
  | .journalResend .. => execJournalResend_kept hs
  | .fpRequestClaim .. => execFpRequestClaim_kept hs
  | .fpRequestClaimRelease .. => execFpRequestClaimRelease_kept hs
  | .fpRequestDecrement .. => execFpRequestDecrement_kept hs
  | .fpRequestPresent .. => execFpRequestPresent_kept hs
  | .fpRequestLocate .. => execFpRequestLocate_kept hs
  | .fpReply .. => execFpReply_kept hs
  | .invalidate .. => execInvalidate_kept hs
  | .invalidateAck .. => execInvalidateAck_kept hs
  | .unitRead .. => execUnitRead_kept hs
  | .unitData .. => execUnitData_kept hs
  | .moveRequest .. => execMoveRequest_kept hs
  | .eraseRequest .. => execEraseRequest_kept hs
  | .requestDone .. => execRequestDone_kept hs
  | .bucketRecords .. => execBucketRecords_kept hs
  | .drainDone .. => execDrainDone_kept hs
  | .fpEntries .. => execFpEntries_kept hs
  | .tableSync .. => execTableSync_kept hs
  | .tableAck .. => execTableAck_kept hs
  | .offer .. => execOffer_kept hs
  | .finish .. => execFinish_kept hs
  | .slotKey .. => execSlotKey_kept hs
  | .mapKey .. => execMapKey_kept hs
  | .hashSecret .. => execHashSecret_kept hs
  | .salt .. => execSalt_kept hs
  | .gear .. => execGear_kept hs
  | .secureAck .. => execSecureAck_kept hs
  | .ownerRecord .. => execOwnerRecord_kept hs
  | .workDescriptorPost .. => execWorkDescriptorPost_kept hs
  | .descriptorReturn .. => execDescriptorReturn_kept hs
  | .machineCheck .. => execMachineCheck_kept hs
  | .descriptorTimeLimit .. => execDescriptorTimeLimit_kept hs
  | .backgroundSliceEnd .. => execBackgroundSliceEnd_kept hs
  | .nextSeq .. => execNextSeq_kept hs
  | .jumpSeq .. => execJumpSeq_kept hs
  | .branchTrue .. => execBranchTrue_kept hs
  | .branchFalse .. => execBranchFalse_kept hs
  | .callSeq .. => execCallSeq_kept hs
  | .returnSeq .. => execReturnSeq_kept hs
  | .dispatchSeq .. => execDispatchSeq_kept hs
  | .haltSeq .. => execHaltSeq_kept hs
  | .nopOp .. => execNopOp_kept hs
  | .movOp .. => execMovOp_kept hs
  | .addOp .. => execAddOp_kept hs
  | .subOp .. => execSubOp_kept hs
  | .andOp .. => execAndOp_kept hs
  | .orOp .. => execOrOp_kept hs
  | .xorOp .. => execXorOp_kept hs
  | .shlOp .. => execShlOp_kept hs
  | .shrOp .. => execShrOp_kept hs
  | .addiOp .. => execAddiOp_kept hs
  | .ldiOp .. => execLdiOp_kept hs
  | .ldihOp .. => execLdihOp_kept hs
  | .cmpOp .. => execCmpOp_kept hs
  | .cmpiOp .. => execCmpiOp_kept hs
  | .mulOp .. => execMulOp_kept hs
  | .minOp .. => execMinOp_kept hs
  | .maxOp .. => execMaxOp_kept hs
  | .getOp .. => execGetOp_kept hs
  | .bsetOp .. => execBsetOp_kept hs
  | .badvOp .. => execBadvOp_kept hs
  | .lddOp .. => execLddOp_kept hs
  | .stdOp .. => execStdOp_kept hs
  | .bswapOp .. => execBswapOp_kept hs
  | .popcntOp .. => execPopcntOp_kept hs
  | .chunkStart .. => execChunkStart_kept hs
  | .chunkNext .. => execChunkNext_kept hs
  | .chunkStop .. => execChunkStop_kept hs
  | .shaStartPrefix .. => execShaStartPrefix_kept hs
  | .shaStart .. => execShaStart_kept hs
  | .shaFeedChunk .. => execShaFeedChunk_kept hs
  | .shaFeedBuffer .. => execShaFeedBuffer_kept hs
  | .shaFinish .. => execShaFinish_kept hs
  | .compress .. => execCompress_kept hs
  | .decompress .. => execDecompress_kept hs
  | .discard .. => execDiscard_kept hs
  | .encrypt .. => execEncrypt_kept hs
  | .decrypt .. => execDecrypt_kept hs
  | .sealPage .. => execSealPage_kept hs
  | .openPage .. => execOpenPage_kept hs
  | .aesCancel .. => execAesCancel_kept hs
  | .gfClear .. => execGfClear_kept hs
  | .gfAccumulate .. => execGfAccumulate_kept hs
  | .emitP .. => execEmitP_kept hs
  | .emitQ .. => execEmitQ_kept hs
  | .solveOne _ _ imm => execSolveOne_kept (imm := imm) hs
  | .solveTwo .. => execSolveTwo_kept hs
  | .dmaReadStaging .. => execDmaReadStaging_kept hs
  | .dmaReadDdr .. => execDmaReadDdr_kept hs
  | .dmaReadFlash .. => execDmaReadFlash_kept hs
  | .dmaReadLink .. => execDmaReadLink_kept hs
  | .dmaWriteStaging .. => execDmaWriteStaging_kept hs
  | .dmaWriteDdr .. => execDmaWriteDdr_kept hs
  | .dmaWriteFlash .. => execDmaWriteFlash_kept hs
  | .dmaWriteLink .. => execDmaWriteLink_kept hs
  | .policySearch .. => execPolicySearch_kept hs
  | .hotSetSearch .. => execHotSetSearch_kept hs
  | .bucketOverrideSearch .. => execBucketOverrideSearch_kept hs
  | .searchResult .. => execSearchResult_kept hs
  | .throttleStepChange .. => execThrottleStepChange_kept hs
  | .lockTest .. => execLockTest_kept hs
  | .lockRelease .. => execLockRelease_kept hs
  | .append .. => execAppend_kept hs
  | .markJnl .. => execMarkJnl_kept hs
  | .flashRead .. => execFlashRead_kept hs
  | .flashProgram .. => execFlashProgram_kept hs
  | .flashReadNextStep .. => execFlashReadNextStep_kept hs
  | .flashReadDeep .. => execFlashReadDeep_kept hs
  | .tollRequestRead .. => execTollRequestRead_kept hs
  | .tollRequestProgram .. => execTollRequestProgram_kept hs
  | .tollReturn .. => execTollReturn_kept hs
  | .tollTokensGranted .. => execTollTokensGranted_kept hs
  | .evtWrite .. => execEvtWrite_kept hs
  | .cntAdd .. => execCntAdd_kept hs
  | .msgSend .. => execMsgSend_kept hs
  | .msgClaim .. => execMsgClaim_kept hs
  | .msgRelease .. => execMsgRelease_kept hs
  | .msgPresent .. => execMsgPresent_kept hs
  | .aesRequestComplete .. => execAesRequestComplete_kept hs
  | .compressDone .. => execCompressDone_kept hs
  | .shaDone .. => execShaDone_kept hs
  | .gfUnitDone .. => execGfUnitDone_kept hs
  | .moverDone .. => execMoverDone_kept hs
  | .slotLimitDurable .. => execSlotLimitDurable_kept hs
  | .alarm .. => execAlarm_kept hs
  | .alarmSourcesClear => execAlarmSourcesClear_kept hs
  | .alarmReloadComplete => execAlarmReloadComplete_kept hs
  | .stripeClose .. => execStripeClose_kept hs
  | .gatherLimitExpiry .. => execGatherLimitExpiry_kept hs
  | .stripeIssueDurable .. => execStripeIssueDurable_kept hs
  | .stripeMembersProgrammed .. => execStripeMembersProgrammed_kept hs
  | .stripeRelease .. => execStripeRelease_kept hs
  | .journalDurable .. => execJournalDurable_kept hs
  | .flashReadComplete .. => execFlashReadComplete_kept hs
  | .flashReadTimeout .. => execFlashReadTimeout_kept hs
  | .hardReadLimit .. => execHardReadLimit_kept hs
  | .flashProgramComplete .. => execFlashProgramComplete_kept hs
  | .flashProgramFailure .. => execFlashProgramFailure_kept hs
  | .flashProgramTimeout .. => execFlashProgramTimeout_kept hs
  | .flashEraseComplete .. => execFlashEraseComplete_kept hs
  | .flashEraseFailure .. => execFlashEraseFailure_kept hs
  | .lunResetTimeout .. => execLunResetTimeout_kept hs
  | .rebuildStripe .. => execRebuildStripe_kept hs
  | .rebuildResume .. => execRebuildResume_kept hs
  | .lostStripeKeyScan .. => execLostStripeKeyScan_kept hs
  | .journalCopyRewritten .. => execJournalCopyRewritten_kept hs
  | .checkpointStart => execCheckpointStart_kept hs
  | .checkpointComplete => execCheckpointComplete_kept hs
  | .mapPageFill .. => execMapPageFill_kept hs
  | .gcLevelChange .. => execGcLevelChange_kept hs
  | .blockReclaim .. => execBlockReclaim_kept hs
  | .stripeCompaction => execStripeCompaction_kept hs
  | .manifestCompaction => execManifestCompaction_kept hs
  | .wearLevel .. => execWearLevel_kept hs
  | .blockErase .. => execBlockErase_kept hs
  | .refresh .. => execRefresh_kept hs
  | .patrolSample .. => execPatrolSample_kept hs
  | .thermalAgeSample .. => execThermalAgeSample_kept hs
  | .ledgerRecord => execLedgerRecord_kept hs
  | .pwrFailNAssert => execPwrFailNAssert_kept hs
  | .powerFailFlushEnd => execPowerFailFlushEnd_kept hs
  | .pwrFailNDeassert => execPwrFailNDeassert_kept hs
  | .flushRelease .. => execFlushRelease_kept hs
  | .holdupOkChange .. => execHoldupOkChange_kept hs
  | .porstNAssert => execPorstNAssert_kept hs
  | .porstNRelease .. => execPorstNRelease_kept hs
  | .coldStart => execColdStart_kept hs
  | .cleanDormantExit => execCleanDormantExit_kept hs
  | .corePgTimeout => execCorePgTimeout_kept hs
  | .corePgLoss => execCorePgLoss_kept hs
  | .rootPllLoss => execRootPllLoss_kept hs
  | .sdclkLoss => execSdclkLoss_kept hs
  | .refclkStop => execRefclkStop_kept hs
  | .thermalShutdown .. => execThermalShutdown_kept hs
  | .domainFault .. => execDomainFault_kept hs
  | .apstTransition => execApstTransition_kept hs
  | .powerStateGate => execPowerStateGate_kept hs
  | .fatalError .. => execFatalError_kept hs
  | .dumpCopy => execDumpCopy_kept hs
  | .controlProcessorWatchdog => execControlProcessorWatchdog_kept hs
  | .worldViolation .. => execWorldViolation_kept hs
  | .instructionFetchRefused .. => execInstructionFetchRefused_kept hs
  | .replicationCycle .. => execReplicationCycle_kept hs
  | .replicationRemoteCompletion .. => execReplicationRemoteCompletion_kept hs
  | .replicationRetry .. => execReplicationRetry_kept hs
  | .replicationReconnect .. => execReplicationReconnect_kept hs
  | .fanStart .. => execFanStart_kept hs
  | .fanSenseComplete .. => execFanSenseComplete_kept hs
  | .fanBrakeEnd .. => execFanBrakeEnd_kept hs
  | .fanAlignEnd .. => execFanAlignEnd_kept hs
  | .fanRampEnd .. => execFanRampEnd_kept hs
  | .bemfZeroCrossing .. => execBemfZeroCrossing_kept hs
  | .fanSpeedLoop .. => execFanSpeedLoop_kept hs
  | .fanKeMeasure .. => execFanKeMeasure_kept hs
  | .fanOvercurrent .. => execFanOvercurrent_kept hs
  | .rotorLost .. => execRotorLost_kept hs
  | .fanCoastEnd .. => execFanCoastEnd_kept hs
  | .fanFailedRetry .. => execFanFailedRetry_kept hs
  | .epochInLoss => execEpochInLoss_kept hs
  | .surviveFenceDelay => execSurviveFenceDelay_kept hs
  | .corePgRise => execCorePgRise_kept hs
  | .refclkRestart => execRefclkRestart_kept hs
  | .masterWaitExpiry => execMasterWaitExpiry_kept hs
  | .canErrorPassive .. => execCanErrorPassive_kept hs
  | .remoteAssociationLoss .. => execRemoteAssociationLoss_kept hs
  | .temperatureThresholdCrossing .. => execTemperatureThresholdCrossing_kept hs
  | .shelfPowerLoss => execShelfPowerLoss_kept hs
  | .vddqDdrBelowFloor => execVddqDdrBelowFloor_kept hs

theorem step_kept {s s' : State} (h : step s = .next s') : Kept s.dev s'.dev := by
  obtain ⟨d, q⟩ := s
  cases q with
  | nil =>
    obtain rfl := Host.Outcome.next.inj h
    exact idleCycle_kept (.refl d)
  | cons c rest => exact exec_kept (s := ⟨d, rest⟩) (.refl d) c s' h

/-- Settles O46: both parts are fields of `Kept`, which every step keeps. -/
theorem memoriesStayCanonical : Obligations.MemoriesStayCanonical := by
  unfold Obligations.MemoriesStayCanonical
  intro s s' h
  exact ⟨(step_kept h).memories, (step_kept h).out⟩

end Sys2Proof.Machine
end

section
/-! SUPPORT. The movers (R499): how a transfer starts, what its end moves, and where staging SRAM ends (R6). -/

namespace Sys2Proof.Machine

/-! ## The start of a transfer -/

/-- A word that names a buffer and then changes its engine by `k` alone. -/
theorem becomes_of_bufWord {c : Instr} {e buf : Nat} {s : State} {f : Device → Device} {k : Engine → Engine}
    (hr : EngineRuns e s.dev) (hx : exec c s = next s (bufWord e buf f))
    (hf : f (selBuf e buf s.dev) = onEngine e k (selBuf e buf s.dev)) :
    EngineBecomes c e (k { engineOf e s.dev with ctx := { (engineOf e s.dev).ctx with sel := buf } }) s :=
  becomes_of_eq hr (f := fun x => k { x with ctx := { x.ctx with sel := buf } })
    (by rw [hx, next, bufWord_runs _ _ hr, hf, selBuf_eq, onEngine_onEngine]) rfl

theorem moverRead_idle {e : Nat} {d : Device} (code r buf : Nat) (h : (engineOf e d).rd = none) :
    moverRead e code r buf d =
      onEngine e (fun x => { x with rd := some ⟨code, reg e r d, buf⟩, conds := setBit x.conds 16 false }) d := by
  simp [moverRead, h, engineCond, onEngine_onEngine]

theorem moverWrite_idle {e : Nat} {d : Device} (code r buf : Nat) (h : (engineOf e d).wr = none) :
    moverWrite e code r buf d =
      onEngine e (fun x => { x with wr := some ⟨code, reg e r d, buf⟩, conds := setBit x.conds 17 false }) d := by
  simp [moverWrite, h, engineCond, onEngine_onEngine]

theorem dmaRead_becomes {c : Instr} {e code r buf : Nat} {s : State} (hr : EngineRuns e s.dev)
    (h : (engineOf e s.dev).rd = none) (hx : exec c s = next s (bufWord e buf (moverRead e code r buf))) :
    EngineBecomes c e { engineOf e s.dev with
      ctx := { (engineOf e s.dev).ctx with sel := buf }, rd := some ⟨code, reg e r s.dev, buf⟩
      conds := setBit (engineOf e s.dev).conds 16 false } s := by
  have hi : (engineOf e (selBuf e buf s.dev)).rd = none := by rw [selBuf_eq, engineOf_onEngine _ hr.2.1, h]
  have hb := becomes_of_bufWord hr hx (moverRead_idle code r buf hi)
  rwa [reg_selBuf _ _ hr.2.1] at hb

theorem dmaWrite_becomes {c : Instr} {e code r buf : Nat} {s : State} (hr : EngineRuns e s.dev)
    (h : (engineOf e s.dev).wr = none) (hx : exec c s = next s (bufWord e buf (moverWrite e code r buf))) :
    EngineBecomes c e { engineOf e s.dev with
      ctx := { (engineOf e s.dev).ctx with sel := buf }, wr := some ⟨code, reg e r s.dev, buf⟩
      conds := setBit (engineOf e s.dev).conds 17 false } s := by
  have hi : (engineOf e (selBuf e buf s.dev)).wr = none := by rw [selBuf_eq, engineOf_onEngine _ hr.2.1, h]
  have hb := becomes_of_bufWord hr hx (moverWrite_idle code r buf hi)
  rwa [reg_selBuf _ _ hr.2.1] at hb

/-! ## The end of a transfer -/

theorem moverFits_iff {e : Nat} {m : Mover} {d : Device} :
    moverFits e m d = true ↔ (m.code = 1 → m.addr + moverLength e m d ≤ 134217728) := by
  show _ ↔ (_ → _ ≤ stagingBytes)
  simp [moverFits, imp_iff_not_or]

/-- The transfer that MOVER_DONE ends. -/
def moverOf (e : Nat) (write : Bool) (d : Device) : Option Mover :=
  if write then (engineOf e d).wr else (engineOf e d).rd

theorem exec_moverDone_idle {e : Nat} {write : Bool} {s : State} (h : moverOf e write s.dev = none) :
    exec (.moverDone e write) s = .next s := by
  simp only [moverOf] at h
  simp only [exec, execMoverDone, h, next, id]

theorem exec_moverDone_inside {e : Nat} {write : Bool} {s : State} {m : Mover} (h : moverOf e write s.dev = some m)
    (hf : m.code = 1 → m.addr + moverLength e m s.dev ≤ 134217728) :
    exec (.moverDone e write) s = next s (if write then writeDone e m else readDone' e m) := by
  simp only [moverOf] at h
  simp only [exec, execMoverDone, h, moverFits_iff.2 hf, if_true]

theorem exec_moverDone_outside {e : Nat} {write : Bool} {s : State} {m : Mover} (h : moverOf e write s.dev = some m)
    (hc : m.code = 1) (hl : 134217728 < m.addr + moverLength e m s.dev) :
    exec (.moverDone e write) s = .fault (.stagingAddress m.addr) := by
  have hf : ¬ moverFits e m s.dev = true := fun hf => absurd (moverFits_iff.1 hf hc) (not_le.2 hl)
  simp only [moverOf] at h
  simp only [exec, execMoverDone, h, hf, if_false, Bool.false_eq_true]

theorem readDone'_open {e : Nat} {m : Mover} {d : Device} (h : moverSecure e m d = false) :
    readDone' e m d = onEngine e (fun x => { x with
      mem := memWrite x.mem ((bufDesc e m.buf d).addr + (bufDesc e m.buf d).cursor)
        (memRead (moverMem m.code d) m.addr ((bufDesc e m.buf d).limit - (bufDesc e m.buf d).cursor))
      rd := none, conds := setBit x.conds 16 true }) d := by
  simp [readDone', h, putBytes, engineCond, onEngine_onEngine, moverLength, List.take_of_length_le, memRead_length]

theorem writeDone_open {e : Nat} {m : Mover} {d : Device} (h : moverSecure e m d = false) :
    writeDone e m d = onEngine e (fun x => { x with wr := none, conds := setBit x.conds 17 true })
      (setMoverMem m.code (memWrite (moverMem m.code d) m.addr (bufBytes e m.buf d)) d) := by
  simp [writeDone, h, engineCond, onEngine_onEngine]

@[simp] theorem moverMem_onEngine (code e : Nat) (f : Engine → Engine) (d : Device) :
    moverMem code (onEngine e f d) = moverMem code d := rfl

@[simp] theorem onEngine_out (e : Nat) (f : Engine → Engine) (d : Device) : (onEngine e f d).out = d.out := rfl

@[simp] theorem moverMem_setMoverMem (code : Nat) (m : List (Nat × BitVec 8)) (d : Device) :
    moverMem code (setMoverMem code m d) = m := by
  unfold moverMem setMoverMem
  split_ifs <;> rfl

@[simp] theorem setMoverMem_engines (code : Nat) (m : List (Nat × BitVec 8)) (d : Device) :
    (setMoverMem code m d).eng.engines = d.eng.engines := by
  unfold setMoverMem
  dsimp only
  split_ifs <;> rfl

@[simp] theorem setMoverMem_out (code : Nat) (m : List (Nat × BitVec 8)) (d : Device) : (setMoverMem code m d).out = d.out := rfl

@[simp] theorem engineOf_setMoverMem (e code : Nat) (m : List (Nat × BitVec 8)) (d : Device) :
    engineOf e (setMoverMem code m d) = engineOf e d := by simp [engineOf]

theorem moverDone_read_becomes {e : Nat} {s : State} {m : Mover} (hr : EngineRuns e s.dev)
    (h : (engineOf e s.dev).rd = some m) (hs : moverSecure e m s.dev = false)
    (hf : m.code = 1 → m.addr + moverLength e m s.dev ≤ 134217728) :
    EngineBecomes (.moverDone e false) e { engineOf e s.dev with
      mem := memWrite (engineOf e s.dev).mem ((bufDesc e m.buf s.dev).addr + (bufDesc e m.buf s.dev).cursor)
        (memRead (moverMem m.code s.dev) m.addr ((bufDesc e m.buf s.dev).limit - (bufDesc e m.buf s.dev).cursor))
      rd := none, conds := setBit (engineOf e s.dev).conds 16 true } s := by
  have hx := exec_moverDone_inside (write := false) h hf
  rw [if_neg (by decide), next, readDone'_open hs] at hx
  exact becomes_of_eq hr hx rfl

theorem moverDone_write_stores {e : Nat} {s : State} {m : Mover} (hr : EngineRuns e s.dev)
    (h : (engineOf e s.dev).wr = some m) (hs : moverSecure e m s.dev = false)
    (hf : m.code = 1 → m.addr + moverLength e m s.dev ≤ 134217728) :
    ∃ t, exec (.moverDone e true) s = .next t ∧
      moverMem m.code t.dev = memWrite (moverMem m.code s.dev) m.addr (bufBytes e m.buf s.dev) ∧
      engineOf e t.dev = { engineOf e s.dev with wr := none, conds := setBit (engineOf e s.dev).conds 17 true } ∧
      t.dev.out = s.dev.out := by
  have hx := exec_moverDone_inside (write := true) h hf
  rw [if_pos rfl, next, writeDone_open hs] at hx
  refine ⟨_, hx, by simp, ?_, by simp⟩
  rw [engineOf_onEngine _ (by rw [setMoverMem_engines]; exact hr.2.1), engineOf_setMoverMem]

/-- Settles O7: the starts by `dmaRead_becomes` and `dmaWrite_becomes`, the ends by the cases of MOVER_DONE. -/
theorem movers : Obligations.Movers := by
  unfold Obligations.Movers
  intro s e r buf hr
  refine ⟨fun h => ?reads, fun h => ?writes, ?readEnd, ?writeEnd, ?readBeyond, ?writeBeyond, ?readIdle, ?writeIdle⟩
  case reads => exact ⟨dmaRead_becomes hr h rfl, dmaRead_becomes hr h rfl, dmaRead_becomes hr h rfl, dmaRead_becomes hr h rfl⟩
  case writes => exact ⟨dmaWrite_becomes hr h rfl, dmaWrite_becomes hr h rfl, dmaWrite_becomes hr h rfl, dmaWrite_becomes hr h rfl⟩
  case readEnd => exact fun m h => moverDone_read_becomes hr h
  case writeEnd => exact fun m h => moverDone_write_stores hr h
  case readBeyond => exact fun m h => exec_moverDone_outside (write := false) h
  case writeBeyond => exact fun m h => exec_moverDone_outside (write := true) h
  case readIdle => exact exec_moverDone_idle (write := false)
  case writeIdle => exact exec_moverDone_idle (write := true)

end Sys2Proof.Machine
end

section
/-! SUPPORT. The state after reset, part by part. -/

namespace Sys2Proof.Machine

/-- No record of R526 is valid after reset. -/
theorem reset_unowned : isOwned State.reset.dev = false := by decide

theorem ownerDigest_of_unowned {d : Device} (h : isOwned d = false) : ownerDigest d = List.replicate 48 0 := by
  simp [ownerDigest, h]

/-- Each of the 64 slots is idle, and a slot beyond them reads as an idle one (R181). -/
theorem longSlot_reset (n : Nat) : longSlot n State.reset.dev = Reset.longSlot := by
  show (List.replicate 64 Reset.longSlot).getD n Reset.longSlot = Reset.longSlot
  rw [List.getD_eq_getElem?_getD, List.getElem?_getD_replicate_default_eq]

/-- Settles O48: the parts of `State.reset` as it lists them; owners, slots and memories by their own lemmas. -/
theorem resetHolds : Obligations.ResetHolds := by
  unfold Obligations.ResetHolds
  refine ⟨rfl, rfl, rfl, rfl, rfl, reset_unowned, ownerDigest_of_unowned reset_unowned, rfl, rfl, fun n => ?slot,
    reset_memories_wf, rfl, rfl, rfl, rfl, rfl⟩
  case slot => rw [longSlot_reset]; rfl

end Sys2Proof.Machine
end

section
/-! SUPPORT. The link: what a message sent and a frame taken change; events; bits set in turn. -/

namespace Sys2Proof.Machine

/-! ## What the link changes -/

/-- From `a` to `b` the link alone worked: the counters of its classes, its frames, dictionary values and outputs differ. -/
def LinkWorked (a b : Device) : Prop :=
  ∃ classes unacked waiting cells out, b = { a with
    peer := { a.peer with classes := classes, unacked := unacked, waiting := waiting }
    dict := { a.dict with cells := cells }, out := out } ∧ a.out <+: out

theorem LinkWorked.refl (a : Device) : LinkWorked a a := ⟨_, _, _, _, _, rfl, List.prefix_rfl⟩

theorem LinkWorked.trans {a b c : Device} (h : LinkWorked a b) (k : LinkWorked b c) : LinkWorked a c := by
  obtain ⟨_, _, _, _, _, rfl, p⟩ := h
  obtain ⟨_, _, _, _, _, rfl, q⟩ := k
  exact ⟨_, _, _, _, _, rfl, p.trans q⟩

theorem LinkWorked.out {a b : Device} (h : LinkWorked a b) : a.out <+: b.out := by
  obtain ⟨_, _, _, _, _, rfl, p⟩ := h
  exact p

theorem LinkWorked.foldl {α : Type} {f : Device → α → Device} (hf : ∀ d x, LinkWorked d (f d x)) (l : List α) (d : Device) :
    LinkWorked d (l.foldl f d) := by
  induction l generalizing d with
  | nil => exact .refl d
  | cons x l ih => exact (hf d x).trans (ih _)

theorem transmit_linkWorked (cls : Nat) (m : LinkMsg) (d : Device) : LinkWorked d (transmit cls m d) :=
  ⟨_, _, d.peer.waiting, _, _, rfl, List.prefix_append _ _⟩

theorem sendLink_linkWorked (m : LinkMsg) (d : Device) : LinkWorked d (sendLink m d) := by
  unfold sendLink
  dsimp only
  split_ifs
  · exact .refl d
  · exact transmit_linkWorked ..
  · exact ⟨d.peer.classes, d.peer.unacked, _, d.dict.cells, _, rfl, List.prefix_rfl⟩

theorem odBump_linkWorked (idx sub n : Nat) (d : Device) : LinkWorked d (odBump idx sub n d) :=
  ⟨d.peer.classes, d.peer.unacked, d.peer.waiting, _, d.out, rfl, List.prefix_rfl⟩

theorem drainWaiting_linkWorked (d : Device) : LinkWorked d (drainWaiting d) := by
  have h0 : LinkWorked d { d with peer := { d.peer with waiting := [] } } :=
    ⟨d.peer.classes, d.peer.unacked, [], d.dict.cells, d.out, rfl, List.prefix_rfl⟩
  refine h0.trans (.foldl ?_ _ _)
  intro d w
  exact sendLink_linkWorked w.2 d

theorem takeAck_linkWorked (cls ack credit : Nat) (d : Device) : LinkWorked d (takeAck cls ack credit d) :=
  .trans (b := { d with peer := { d.peer with classes := _, unacked := _ } })
    ⟨_, _, d.peer.waiting, d.dict.cells, d.out, rfl, List.prefix_rfl⟩ (drainWaiting_linkWorked _)

theorem arrived_linkWorked (h : FrameHdr) (cls : Nat) (d : Device) : LinkWorked d (arrived h cls d) :=
  (odBump_linkWorked ..).trans (.trans (b := { odBump 0x2D00 0x09 (frameBytes h.len) d with peer := { d.peer with classes := _ } })
    ⟨_, d.peer.unacked, d.peer.waiting, _, d.out, rfl, List.prefix_rfl⟩ (takeAck_linkWorked ..))

/-- A frame that is taken has its effect on the device that its header leaves. -/
theorem acceptFrame_taken {h : FrameHdr} {cls : Nat} {d : Device} (k : FrameTaken h cls d) (f : Device → Device) :
    acceptFrame h cls f d = f (arrived h cls d) := by
  obtain ⟨hp, hf⟩ := k
  simp [acceptFrame, hp, hf]

/-- While frames pass, a message leaves or waits for credit. -/
theorem sendLink_linkSent {a d : Device} {m : LinkMsg} (hp : linkPhysical d = true) (ha : a.out <+: d.out) :
    LinkSent a (sendLink m d) m := by
  unfold sendLink
  simp only [hp, Bool.not_true, Bool.false_eq_true, if_false]
  split_ifs
  · refine .inl ?_
    obtain ⟨u, hu⟩ := ha
    show _ ∈ (d.out ++ [_]).drop a.out.length
    rw [← hu]
    simp
  · exact .inr (List.mem_append_right _ (List.mem_singleton.2 rfl))

/-- What has been sent, or waits, still does after another message. -/
theorem LinkSent.sendLink {a d : Device} {m : LinkMsg} (h : LinkSent a d m) (n : LinkMsg) : LinkSent a (sendLink n d) m := by
  rcases h with h | h
  · obtain ⟨u, hu⟩ := (sendLink_linkWorked n d).out
    refine .inl ?_
    unfold Sent at h ⊢
    rw [← hu, List.drop_append]
    exact List.mem_append_left _ h
  · refine .inr ?_
    unfold Machine.sendLink
    dsimp only
    split_ifs
    · exact h
    · exact h
    · exact List.mem_append_left _ h

/-! ## Events -/

/-- An event that has just been written is in the log. -/
theorem logEvent_logged (code unit severity detail : Nat) (d : Device) :
    Logged code unit severity detail (logEvent code unit severity detail d) :=
  ⟨_, List.mem_cons_self, rfl, rfl, rfl, rfl⟩

/-! ## Bits set in turn -/

/-- Bits `o + n` set to `b` for each `n` below `N` that `sel` picks: a picked one reads `b`. -/
theorem bit_foldl_setBit (sel : Nat → Bool) (o : Nat) (b : Bool) {N k : Nat} (hk : k < N) (hs : sel k = true) (v : Nat) :
    bit ((List.range N).foldl (fun v n => if sel n then setBit v (o + n) b else v) v) (o + k) = b := by
  induction N with
  | zero => omega
  | succ N ih =>
    rw [List.range_succ, List.foldl_append, List.foldl_cons, List.foldl_nil]
    by_cases he : k = N
    · subst he
      rw [if_pos hs, bit_setBit_same]
    · have hN := ih (by omega)
      split_ifs
      · rw [bit_setBit_other _ _ _ _ (by omega)]
        exact hN
      · exact hN

end Sys2Proof.Machine
end

section
/-! SUPPORT. Hand-over of channels between the peers (R24, R433 to R438). -/

namespace Sys2Proof.Machine

/-! ## What a command gives -/

theorem gives_of_eq {c : Instr} {s : State} {f : Device → Device} {P : Device → Prop} (hx : exec c s = next s f) (h : P (f s.dev)) :
    Gives c s P := ⟨_, hx, h⟩

theorem leads_of_eq {c : Instr} {s : State} {f g : Device → Device} {u : Device} {P : Device → Prop} (hx : exec c s = next s g)
    (hg : g s.dev = f u) (h : P u) : Leads f c s P := ⟨u, by rw [hx, next, hg], h⟩

/-! ## Placement of a hand-over -/

/-- Beside a serving peer a paired placement is announced and held until it is armed. -/
theorem placePairedAt_announces {n : Nat} {e : BoardEntry} {w : PlacementFor} {d : Device} (hs : noServingPeer d = false)
    (hp : pairUp d = true) : placePairedAt n e w d = sendLink (.place n { e with paired := true, state := 1 }.record)
      { d with board := { d.board with placing := d.board.placing ++ [⟨n, { e with paired := true, state := 1 }, w⟩] } } := by
  simp [placePairedAt, hs, hp]

theorem placePaired_free {n : Nat} {d : Device} (h : freeFirmwareEntry d = some n) (e : BoardEntry) (w : PlacementFor) :
    placePaired e w d = placePairedAt n e w d := by
  unfold placePaired
  rw [h]

theorem linkPhysical_of_pairUp {d : Device} (h : pairUp d = true) : linkPhysical d = true := by
  simp only [pairUp, linkIsUp, Bool.and_eq_true] at h
  exact h.2.1.1

/-- A group that passes to side `side` as a whole, its owners and the preferred ones being all 0 or all 1, takes one entry. -/
theorem handoverPlacement_wholeGroup {d : Device} {g side : Nat} (h0 : d.side = 0) (hp : pairUp d = true) (hr : isReady d = true)
    (hside : side < 2)
    (hf : (List.range 16).find? (fun g => d.peer.owners.getD g 0 != odVal 0x2D18 (g + 1) d) = some g) (hb : handoverBusy g d = false)
    (hnow : d.peer.owners.getD g 0 = if side = 0 then 255 else 0) (hwant : odVal 0x2D18 (g + 1) d = if side = 0 then 0 else 255) :
    handoverPlacement d =
      placePaired (firmwareEntry 0x04 (0x0380 + g) (255 * 256 + side) (nextHandoverTick d) true) .firmware d := by
  have hm : ∀ x < 2, ((List.range 8).foldl (fun v n =>
      setBit v n (bit (if side = 0 then 255 else 0) n != bit (if side = 0 then 0 else 255) n && b2n (bit (if side = 0 then 0 else 255) n) == x)) 0) =
      if x = side then 255 else 0 := by
    interval_cases side <;> decide
  unfold handoverPlacement
  simp only [h0, hp, hr, hf, hb, hnow, hwant, bne_self_eq_false, Bool.not_true, Bool.or_self, Bool.false_eq_true, if_false, List.foldl_cons, List.foldl_nil,
    hm 0 (by decide), hm 1 (by decide)]
  interval_cases side
  · simp
  · simp

/-! ## The old owner -/

/-- The hand-over drains once no operation runs on its channels: it is marked, and its block records go out. -/
theorem handoverDrained_single {g : Nat} {h : Handover} {d : Device}
    (hf : d.peer.handovers.filter (fun x => x.group == g && x.old && !x.drained) = [h])
    (hi : ∀ o ∈ d.media.ops, o.started = true → inHandover h o.desc.channel = false) :
    handoverDrained g d = sendLink (.handoverState h.group h.mask ((d.map.blocks.filter fun b => inHandover h b.channel).map blockRecord))
      (onHandover h (fun h => { h with drained := true }) d) := by
  have hn : (d.media.ops.any fun o => o.started && inHandover h o.desc.channel) = false := by simpa using hi
  unfold handoverDrained
  rw [hf, List.foldl_cons, List.foldl_nil, if_neg (by rw [hn]; decide)]

theorem mem_onHandover {h : Handover} {f : Handover → Handover} {d : Device} (hm : h ∈ d.peer.handovers) :
    f h ∈ (onHandover h f d).peer.handovers := List.mem_map.2 ⟨h, hm, if_pos (beq_self_eq_true h)⟩

theorem sendLink_time (m : LinkMsg) (d : Device) : (sendLink m d).time = d.time := by
  obtain ⟨_, _, _, _, _, e, _⟩ := sendLink_linkWorked m d
  rw [e]

theorem sendLink_board (m : LinkMsg) (d : Device) : (sendLink m d).board = d.board := by
  obtain ⟨_, _, _, _, _, e, _⟩ := sendLink_linkWorked m d
  rw [e]

theorem sendLink_map (m : LinkMsg) (d : Device) : (sendLink m d).map = d.map := by
  obtain ⟨_, _, _, _, _, e, _⟩ := sendLink_linkWorked m d
  rw [e]

theorem sendLink_driven (m : LinkMsg) (d : Device) : (sendLink m d).peer.driven = d.peer.driven := by
  obtain ⟨_, _, _, _, _, e, _⟩ := sendLink_linkWorked m d
  rw [e]

theorem arrived_handovers (h : FrameHdr) (cls : Nat) (d : Device) : (arrived h cls d).peer.handovers = d.peer.handovers := by
  obtain ⟨_, _, _, _, _, e, _⟩ := arrived_linkWorked h cls d
  rw [e]

theorem arrived_owners (h : FrameHdr) (cls : Nat) (d : Device) : (arrived h cls d).peer.owners = d.peer.owners := by
  obtain ⟨_, _, _, _, _, e, _⟩ := arrived_linkWorked h cls d
  rw [e]

theorem sendLink_handovers (m : LinkMsg) (d : Device) : (sendLink m d).peer.handovers = d.peer.handovers := by
  obtain ⟨_, _, _, _, _, e, _⟩ := sendLink_linkWorked m d
  rw [e]

/-- Hand-over `h` as its old owner leaves it: 64 ticks on, its channels driven no more. -/
def releasedAt (h : Handover) (d : Device) : Device :=
  let d := waitTick (d.time.counter + 64) d
  setDriven h false (onHandover h (fun h => { h with released := some d.time.now, tick := d.time.counter, acked := false }) d)

/-- The release takes place once the records are acknowledged and no report of the launch is awaited. -/
theorem handoverRelease_single {g : Nat} {h : Handover} {d : Device}
    (hf : d.peer.handovers.filter (fun x => x.group == g && x.old && x.drained && x.released.isNone) = [h]) (hl : linkIsUp d = true)
    (ha : ∀ f ∈ d.peer.unacked, ∀ blocks, f.msg ≠ .handoverState h.group h.mask blocks) (hr : ∀ r ∈ d.board.reports, r.1 ≠ h.entry) :
    handoverRelease g d = sendLink (.released h.group h.mask (releasedAt h d).time.counter)
      { releasedAt h d with map := { d.map with blocks := d.map.blocks.filter fun b => !inHandover h b.channel } } := by
  have hrep : d.board.reports.any (·.1 == h.entry) = false := by simpa using hr
  have hmap : (releasedAt h d).map = d.map := waitTick_map ..
  unfold handoverRelease
  simp only [hf, List.foldl_cons, List.foldl_nil, hl, hrep, Bool.not_true, Bool.or_false]
  rw [← hmap, if_neg]
  · rfl
  · rw [List.any_eq_true]
    rintro ⟨f, hm, he⟩
    split at he
    next x m blocks e =>
      rw [Bool.and_eq_true, beq_iff_eq, beq_iff_eq] at he
      obtain ⟨rfl, rfl⟩ := he
      exact ha f hm blocks e
    next => exact absurd he (by decide)

theorem waitTick_counter (t : Nat) (d : Device) : (waitTick t d).time.counter = max t d.time.counter := by
  unfold waitTick
  split
  next h => exact (max_eq_right h).symm
  next h => exact (max_eq_left (not_le.1 h).le).symm

theorem setDriven_bit {h : Handover} {k : Nat} (hk : k < 8) (hm : bit h.mask k = true) (b : Bool) (d : Device) :
    bit (setDriven h b d).peer.driven (8 * h.group + k) = b := bit_foldl_setBit (bit h.mask) (8 * h.group) b hk hm _

theorem releasedAt_counter (h : Handover) (d : Device) : (releasedAt h d).time.counter = d.time.counter + 64 :=
  (waitTick_counter _ _).trans (max_eq_left (by omega))

theorem releasedAt_out (h : Handover) (d : Device) : d.out <+: (releasedAt h d).out :=
  (waitTick_out (d.time.counter + 64) d).symm ▸ List.prefix_rfl

theorem releasedAt_linkPhysical (h : Handover) {d : Device} (hl : linkIsUp d = true) : linkPhysical (releasedAt h d) = true := by
  simp only [linkIsUp, Bool.and_eq_true] at hl
  show decide (2 ≤ (waitTick (d.time.counter + 64) d).peer.link) = true
  rw [waitTick_peer]
  exact hl.1.1

/-! ## The new owner -/

/-- Hand-over `h` as its new owner takes it: its tick has come, it is over, and its channels are driven. -/
def takenAt (h : Handover) (d : Device) : Device :=
  let d := waitTick (h.tick + 64) d
  setDriven h true { d with peer := { d.peer with handovers := d.peer.handovers.filter (· != h) } }

/-- The channels of hand-over `h` of group `g` that trained, by their bits of `trained`. -/
def trainTaken (g trained : Nat) (h : Handover) (d : Device) : Device :=
  (List.range 8).foldl (fun d n => if bit h.mask n then trainChannel (8 * g + n) (bit trained n) d else d) d

theorem handoverTakeChannel_single {g : Nat} {h : Handover} {d : Device} (trained : Nat)
    (hf : d.peer.handovers.filter (fun x => x.group == g && !x.old && x.released.isSome) = [h]) :
    handoverTakeChannel g trained d =
      refreshDirty (logEvent 0x0E06 0x0060 0 (h.group * 256 + h.mask) (trainTaken g trained h (takenAt h d))) := by
  unfold handoverTakeChannel
  rw [hf]
  rfl

/-- A record that is taken is the block table's record of its block. -/
theorem takeBlock_mem (d : Device) (r : BlockRecord) : ∃ b ∈ (takeBlock d r).map.blocks, isBlock r.addr b = true ∧ b.st = r.st ∧
    b.stream = r.stream ∧ b.next = r.next ∧ b.erases = r.erases ∧ b.writeMin = r.writeMin ∧ b.barrier = r.barrier ∧ b.writeSeq = r.writeSeq :=
  ⟨_, List.mem_append_right _ (List.mem_singleton.2 rfl), by simp [isBlock], rfl, rfl, rfl, rfl, rfl, rfl, rfl⟩

/-! ## The end without effect -/

theorem logEvent_peer (code unit severity detail : Nat) (d : Device) : (logEvent code unit severity detail d).peer = d.peer := rfl

/-- The owner bits of the channels that a mask names are the side that is set. -/
theorem setOwnerBits_bit {g mask side k : Nat} {d : Device} (hg : g < d.peer.owners.length) (hk : k < 8) (hm : bit mask k = true) :
    bit ((setOwnerBits g mask side d).peer.owners.getD g 0) k = (side == 1) := by
  have h := bit_foldl_setBit (bit mask) 0 (side == 1) hk hm (d.peer.owners.getD g 0)
  simp only [Nat.zero_add] at h
  simp [setOwnerBits, List.getD_eq_getElem?_getD, hg] at h ⊢
  exact h

theorem revertHandover_not_mem (h : Handover) (d : Device) : h ∉ (revertHandover h d).peer.handovers :=
  fun hm => absurd rfl (bne_iff_ne.1 (List.mem_filter.1 hm).2)

/-- The channels return to the side that had them. -/
theorem revertHandover_bit {h : Handover} {k : Nat} {d : Device} (hs : h.newSide < 2) (hg : h.group < d.peer.owners.length) (hk : k < 8)
    (hm : bit h.mask k = true) : bit ((revertHandover h d).peer.owners.getD h.group 0) k = (h.newSide == 0) := by
  have hb := setOwnerBits_bit (side := 1 - h.newSide)
    (d := { d with peer := { d.peer with handovers := d.peer.handovers.filter (· != h) } }) hg hk hm
  have he : (1 - h.newSide == 1) = (h.newSide == 0) := by
    rw [Bool.eq_iff_iff, beq_iff_eq, beq_iff_eq]
    omega
  rw [← he, ← hb]
  rfl

/-- Settles O29: each command acts on the one hand-over that it finds; what the link carries is `sendLink_linkSent`. -/
theorem channelHandovers : Obligations.ChannelHandovers := by
  unfold Obligations.ChannelHandovers
  intro s
  refine ⟨?place, ?drained, ?release, ?take, ?state, ?released, ?abort⟩
  case place =>
    intro g n side h0 hp hr hns hside hf hb hnow hwant hfree
    refine gives_of_eq (f := handoverPlacement) rfl ?_
    rw [handoverPlacement_wholeGroup h0 hp hr hside hf hb hnow hwant, placePaired_free hfree, placePairedAt_announces hns hp, sendLink_board]
    exact ⟨_, List.mem_append_right _ (List.mem_singleton_self _), rfl, rfl, rfl, rfl, rfl, rfl,
      sendLink_linkSent (linkPhysical_of_pairUp hp) List.prefix_rfl⟩
  case drained =>
    intro g h hf hp hi
    have hm : h ∈ s.dev.peer.handovers := List.mem_of_mem_filter (hf ▸ List.mem_singleton_self h)
    refine gives_of_eq (f := handoverDrained g) rfl ?_
    rw [handoverDrained_single hf hi, sendLink_handovers]
    exact ⟨mem_onHandover hm, sendLink_linkSent hp List.prefix_rfl⟩
  case release =>
    intro g h hf hl ha hr
    refine gives_of_eq (f := handoverRelease g) rfl ?_
    rw [handoverRelease_single hf hl ha hr, sendLink_time, sendLink_driven, sendLink_map]
    exact ⟨releasedAt_counter h s.dev, sendLink_linkSent (releasedAt_linkPhysical h hl) (releasedAt_out h s.dev), fun k hk hm => setDriven_bit hk hm false _, rfl⟩
  case take =>
    intro g trained h hf
    have hx := handoverTakeChannel_single trained hf
    refine ⟨leads_of_eq (g := handoverTakeChannel g trained) rfl hx (logEvent_logged ..),
      leads_of_eq (g := handoverTakeChannel g trained) (u := takenAt h s.dev) rfl hx ⟨?_, ?_, fun k hk hm => setDriven_bit hk hm true _⟩⟩
    · exact (le_max_left _ _).trans_eq (waitTick_counter _ _).symm
    · exact fun hm => absurd rfl (bne_iff_ne.1 (List.mem_filter.1 hm).2)
  case state =>
    intro hdr g mask r rs hk ⟨x, hx, hg, hm, ho⟩
    have hany : ((arrived hdr 3 s.dev).peer.handovers.any fun x => x.group == g && x.mask == mask && !x.old) = true := by
      rw [arrived_handovers, List.any_eq_true]
      exact ⟨x, hx, by simp [hg, hm, ho]⟩
    refine leads_of_eq (u := takeBlock (arrived hdr 3 s.dev) r) rfl ?_ (takeBlock_mem _ _)
    rw [acceptFrame_taken hk, if_pos hany, List.foldl_cons]
  case released =>
    intro hdr g mask tick hk
    refine gives_of_eq rfl ?_
    rw [acceptFrame_taken hk]
    obtain ⟨_, _, _, _, _, e, _⟩ := arrived_linkWorked hdr 0 s.dev
    rw [e]
  case abort =>
    intro hdr n g mask x hk hg hside hf
    obtain ⟨-, hx⟩ := List.mem_filter.1 (hf ▸ List.mem_singleton_self x)
    simp only [Bool.and_eq_true, beq_iff_eq] at hx
    obtain ⟨⟨⟨rfl, rfl⟩, -⟩, -⟩ := hx
    refine leads_of_eq (u := revertHandover x (arrived hdr 0 s.dev)) rfl ?_ ⟨revertHandover_not_mem x _, logEvent_logged .., ?_⟩
    · rw [acceptFrame_taken hk, arrived_handovers, hf, List.foldl_cons, List.foldl_nil]
    · exact fun k hlt hm => revertHandover_bit hside ((arrived_owners hdr 0 s.dev).symm ▸ hg) hlt hm

end Sys2Proof.Machine
end

section
/-! SUPPORT. Moves of buckets between the homes (R25, R447 to R451). -/

namespace Sys2Proof.Machine

/-! ## The balance window -/

/-- Moves that begin, one for each bucket that has none yet, change nothing but the moves. -/
theorem foldl_beginMove_eq (bs : List Nat) (d : Device) : ∃ ms,
    bs.foldl (fun d b => if d.peer.moves.any (·.bucket == b) then d else beginMove b d) d = { d with peer := { d.peer with moves := ms } } := by
  induction bs generalizing d with
  | nil => exact ⟨d.peer.moves, rfl⟩
  | cons b bs ih =>
    rw [List.foldl_cons]
    split_ifs
    · exact ih d
    · obtain ⟨ms, e⟩ := ih (beginMove b d)
      exact ⟨ms, e⟩

/-- The device when its window has ended at tick `t`, before the share is judged. -/
def windowEnded (t : Nat) (d : Device) : Device :=
  let d := waitTick t d
  let all := d.peer.windowTotal + d.peer.peerTotal
  { d with peer := { d.peer with
    lastTotal := d.peer.windowTotal, windowTotal := 0, homeShare := if all == 0 then 0 else d.peer.windowTotal * 100 / all,
    bucketCounts := [], windowAt := d.time.counter } }

theorem windowEnded_counter (t : Nat) (d : Device) : (windowEnded t d).time.counter = max t d.time.counter := waitTick_counter t d

theorem windowEnded_lastTotal (t : Nat) (d : Device) : (windowEnded t d).peer.lastTotal = d.peer.windowTotal :=
  congrArg PeerState.windowTotal (waitTick_peer t d)

theorem Logged.of_admin {code unit severity detail : Nat} {a b : Device} (h : Logged code unit severity detail a) (he : b.admin = a.admin) :
    Logged code unit severity detail b := by
  unfold Logged
  rw [he]
  exact h

theorem logEvent_time (code unit severity detail : Nat) (d : Device) : (logEvent code unit severity detail d).time = d.time := rfl

/-- At the end of a window a share above 60 % is logged; but for this, only moves begin. -/
theorem rebalanceWindow_cases (d : Device) :
    let v := windowEnded ((d.time.counter / 8000000000 + 1) * 8000000000) d
    (rebalanceWindow d = v ∧ ¬ (d.peer.windowTotal + d.peer.peerTotal) * 60 < d.peer.windowTotal * 100) ∨
    ∃ l ms, l = logEvent 0x0E07 0x0060 1 (d.peer.windowTotal * 100 / (d.peer.windowTotal + d.peer.peerTotal)) v ∧
      rebalanceWindow d = { l with peer := { l.peer with moves := ms } } := by
  have hshare : ∀ own all : Nat, (if all == 0 then 0 else own * 100 / all) = own * 100 / all := fun own all => by
    split_ifs with h
    · rw [beq_iff_eq.1 h, Nat.div_zero]
    · rfl
  unfold rebalanceWindow
  -- with the window's length as a numeral the kernel would unfold the clock
  generalize 8000000000 = w
  unfold windowEnded
  simp only [waitTick_peer, hshare]
  by_cases hs : (d.peer.windowTotal + d.peer.peerTotal) * 60 < d.peer.windowTotal * 100
  · right
    rw [if_pos hs]
    split_ifs
    · obtain ⟨ms, h⟩ := foldl_beginMove_eq _ _
      exact ⟨_, ms, rfl, h⟩
    · obtain ⟨ms, h⟩ := foldl_beginMove_eq [] _
      exact ⟨_, ms, rfl, h⟩
  · left
    rw [if_neg hs]
    exact ⟨rfl, hs⟩

/-! ## Records of a bucket on its way -/

theorem onMove_moves (b : Nat) (f : BucketMove → BucketMove) (d : Device) :
    (onMove b f d).peer.moves = d.peer.moves.map fun m => if m.bucket == b then f m else m := rfl

theorem onMove_mem {b : Nat} {m : BucketMove} {d : Device} (f : BucketMove → BucketMove) (hm : m ∈ d.peer.moves) (hb : m.bucket = b) :
    f m ∈ (onMove b f d).peer.moves := List.mem_map.2 ⟨m, hm, if_pos (beq_iff_eq.2 hb)⟩

theorem sendLink_moves (m : LinkMsg) (d : Device) : (sendLink m d).peer.moves = d.peer.moves := by
  obtain ⟨_, _, _, _, _, e, _⟩ := sendLink_linkWorked m d
  rw [e]

theorem arrived_moves (h : FrameHdr) (cls : Nat) (d : Device) : (arrived h cls d).peer.moves = d.peer.moves := by
  obtain ⟨_, _, _, _, _, e, _⟩ := arrived_linkWorked h cls d
  rw [e]

/-- The move that the stream serves is a move of its bucket. -/
theorem mem_of_findMove {b : Nat} {m : BucketMove} {d : Device}
    (hf : d.peer.moves.find? (fun m => m.bucket == b && m.old && m.drained.isNone) = some m) : m ∈ d.peer.moves ∧ m.bucket = b := by
  have hb := List.find?_some hf
  simp only [Bool.and_eq_true, beq_iff_eq] at hb
  exact ⟨List.mem_of_find?_eq_some hf, hb.1.1⟩

/-- The placement of a move: it is announced, or waits for an entry. -/
theorem LinkSent.placePaired {a d : Device} {m : LinkMsg} (h : LinkSent a d m) (e : BoardEntry) (w : PlacementFor) (hp : pairUp d = true)
    (hn : noServingPeer d = false) : LinkSent a (placePaired e w d) m := by
  cases hf : freeFirmwareEntry d with
  | some n =>
    rw [placePaired_free hf, placePairedAt_announces hn hp]
    refine LinkSent.sendLink ?_ _
    exact h
  | none =>
    unfold Machine.placePaired
    rw [hf]
    dsimp only
    split_ifs <;> exact h

/-- While a move has unsent records, they go out, and more messages may follow. -/
theorem bucketStream_unsent {b : Nat} {m : BucketMove} {d : Device} (hp : pairUp d = true)
    (hf : d.peer.moves.find? (fun m => m.bucket == b && m.old && m.drained.isNone) = some m) (hu : m.unsent ≠ []) :
    LinkSent d (bucketStream b d) (.bucketRecords b (m.unsent.map fun k => movedKey k d)) := by
  obtain ⟨hm, hb⟩ := mem_of_findMove hf
  have hany : (d.peer.moves.any (·.bucket == b) || !mayReturn b d) = true := by
    rw [Bool.or_eq_true, List.any_eq_true]
    exact .inl ⟨m, hm, beq_iff_eq.2 hb⟩
  have he : m.unsent.isEmpty = false := by simpa using hu
  have hs : LinkSent d (sendLink (.bucketRecords b (m.unsent.map fun k => movedKey k d)) (onMove b (fun m => { m with unsent := [] }) d))
      (.bucketRecords b (m.unsent.map fun k => movedKey k d)) := sendLink_linkSent (linkPhysical_of_pairUp hp) List.prefix_rfl
  have hup : pairUp (sendLink (.bucketRecords b (m.unsent.map fun k => movedKey k d)) (onMove b (fun m => { m with unsent := [] }) d)) = true := by
    obtain ⟨_, _, _, _, _, e, _⟩ := sendLink_linkWorked (.bucketRecords b (m.unsent.map fun k => movedKey k d)) (onMove b (fun m => { m with unsent := [] }) d)
    rw [e]
    exact hp
  unfold bucketStream
  simp only [hp, Bool.not_true, Bool.false_eq_true, if_false, hany, if_true, hf, he]
  generalize sendLink _ (onMove b _ d) = v at hs hup ⊢
  have hn : noServingPeer v = false := by
    simp only [pairUp, Bool.and_eq_true, beq_iff_eq] at hup
    simp [noServingPeer, hup.1]
  split_ifs
  · exact hs
  · exact hs.placePaired _ _ hup hn
  · exact hs
  · refine LinkSent.sendLink ?_ _
    exact hs

theorem bucketStream_drained {b : Nat} {m : BucketMove} {d : Device} (hp : pairUp d = true)
    (hf : d.peer.moves.find? (fun m => m.bucket == b && m.old && m.drained.isNone) = some m) (hu : m.unsent = []) (hl : m.launched = true)
    (hi : bucketInUse b d = false) (ho : recordsOwed b d = false) :
    let g := boundaryFrom (d.time.counter + 1) d
    bucketStream b d = sendLink (.drainDone b g) (onMove b (fun m => { m with drained := some g }) d) := by
  obtain ⟨hm, hb⟩ := mem_of_findMove hf
  have hany : (d.peer.moves.any (·.bucket == b) || !mayReturn b d) = true := by
    rw [Bool.or_eq_true, List.any_eq_true]
    exact .inl ⟨m, hm, beq_iff_eq.2 hb⟩
  unfold bucketStream
  simp only [hp, hany, hf, hu, hl, hi, ho, List.isEmpty_nil, Bool.not_true, Bool.false_eq_true, Bool.or_self, if_true, if_false]

/-! ## Records and entries that arrive -/

/-- Records that arrive stand with a move of their bucket to this home, and with every move of it. -/
theorem takeRecords_moves (b : Nat) (rs : List MovedKey) (d : Device) :
    (∃ m ∈ (takeRecords b rs d).peer.moves, m.bucket = b ∧ m.old = false) ∧
    ∀ m ∈ (takeRecords b rs d).peer.moves, m.bucket = b → ∀ r ∈ rs, r ∈ m.received := by
  unfold takeRecords
  dsimp only
  constructor
  · split_ifs with h
    · obtain ⟨m, hm, hb⟩ := List.any_eq_true.1 h
      simp only [Bool.and_eq_true, beq_iff_eq, Bool.not_eq_true'] at hb
      exact ⟨_, onMove_mem _ hm hb.1, hb⟩
    · exact ⟨_, onMove_mem _ (List.mem_append_right _ (List.mem_singleton_self _)) rfl, rfl, rfl⟩
  · intro m hm hb r hr
    obtain ⟨x, -, hx⟩ := List.mem_map.1 hm
    split_ifs at hx with hxb
    · rw [← hx]
      exact List.mem_append_right _ hr
    · rw [hx, beq_iff_eq] at hxb
      exact absurd hb hxb

theorem copyOf_addCopy {domain num : Nat} {fp : Bytes} {c : Copy} {d : Device} (h : copyOf domain fp num d = none)
    (hc : isCopy domain fp num c = true) : copyOf domain fp num (addCopy c d) = some c := by
  unfold copyOf at h ⊢
  simp only [addCopy, List.find?_append, h, Option.none_or, List.find?_cons, hc]

/-- A copy that is not known here is entered with its entry's count, flags and bytes. -/
theorem takeEntry_new {e : ChunkEntry} {d : Device} (h : copyOf e.domain e.fp e.num d = none) :
    ∃ c, copyOf e.domain e.fp e.num (takeEntry d e) = some c ∧ c.refs = e.refs ∧ c.present = e.present ∧ c.pinned = e.pinned ∧
      c.dead = e.dead ∧ c.plain = e.plain ∧ c.extents = e.extents ∧ c.slot = e.slot := by
  unfold takeEntry
  rw [h]
  exact ⟨_, copyOf_addCopy h (by simp [isCopy, newCopy]), rfl, rfl, rfl, rfl, rfl, rfl, rfl⟩

/-- An entry is taken and its copy recorded, then the others are. -/
theorem takeEntries_cons (e : ChunkEntry) (es : List ChunkEntry) (d : Device) : takeEntries (e :: es) d =
    takeEntries es (((copyOf e.domain e.fp e.num (takeEntry d e)).map fun c => recordCopy c (takeEntry d e)).getD (takeEntry d e)) := by
  cases h : copyOf e.domain e.fp e.num (takeEntry d e) <;>
    simp only [takeEntries, List.foldl_cons, h, Option.map_none, Option.map_some, Option.getD_none, Option.getD_some]

theorem arrived_copyOf (h : FrameHdr) (cls domain : Nat) (fp : Bytes) (num : Nat) (d : Device) :
    copyOf domain fp num (arrived h cls d) = copyOf domain fp num d := by
  obtain ⟨_, _, _, _, _, e, _⟩ := arrived_linkWorked h cls d
  rw [e]
  rfl

/-- Settles O30: each command by the lemma of its own effect; frames by `acceptFrame_taken`. -/
theorem bucketMoves : Obligations.BucketMoves := by
  unfold Obligations.BucketMoves
  intro s
  refine ⟨?window, fun b m hp hf => ⟨fun hu => ?unsent, fun hu hl hi ho => ?drain⟩, ?records, ?drained, ?entries⟩
  case window =>
    refine gives_of_eq (f := rebalanceWindow) rfl ?_
    have hle : s.dev.time.counter ≤ (s.dev.time.counter / 8000000000 + 1) * 8000000000 := by omega
    have hw := rebalanceWindow_cases s.dev
    generalize (s.dev.time.counter / 8000000000 + 1) * 8000000000 = t at hle hw ⊢
    have hc : (windowEnded t s.dev).time.counter = t := (windowEnded_counter t s.dev).trans (max_eq_left hle)
    rcases hw with ⟨he, hn⟩ | ⟨l, ms, hl, he⟩
    · rw [he]
      exact ⟨hc, rfl, rfl, windowEnded_lastTotal t s.dev, fun h => absurd h hn⟩
    · have ht : l.time = (windowEnded t s.dev).time := by rw [hl, logEvent_time]
      have hp : l.peer = (windowEnded t s.dev).peer := by rw [hl, logEvent_peer]
      have hlog := logEvent_logged 0x0E07 0x0060 1 (s.dev.peer.windowTotal * 100 / (s.dev.peer.windowTotal + s.dev.peer.peerTotal)) (windowEnded t s.dev)
      rw [← hl] at hlog
      rw [he]
      dsimp only
      rw [ht, hp]
      exact ⟨hc, rfl, rfl, windowEnded_lastTotal t s.dev, fun _ => hlog.of_admin rfl⟩
  case unsent => exact gives_of_eq (f := bucketStream b) rfl (bucketStream_unsent hp hf hu)
  case drain =>
    refine gives_of_eq (f := bucketStream b) rfl ?_
    obtain ⟨hm, hb⟩ := mem_of_findMove hf
    rw [bucketStream_drained hp hf hu hl hi ho, sendLink_moves]
    exact ⟨sendLink_linkSent (linkPhysical_of_pairUp hp) List.prefix_rfl, onMove_mem _ hm hb⟩
  case records =>
    intro h b records hk
    refine gives_of_eq rfl ?_
    rw [acceptFrame_taken hk]
    exact takeRecords_moves b records _
  case drained =>
    intro h b g hk
    refine gives_of_eq rfl ?_
    rw [acceptFrame_taken hk]
    rw [onMove_moves, arrived_moves]
    refine List.map_congr_left fun m _ => ?_
    by_cases hb : m.bucket = b
    · cases ho : m.old <;> simp [hb]
    · simp [hb]
  case entries =>
    intro h e es hk hn
    refine leads_of_eq (u := takeEntry (arrived h 3 s.dev) e) rfl ?_ (takeEntry_new ((arrived_copyOf ..).trans hn))
    rw [acceptFrame_taken hk, takeEntries_cons]

end Sys2Proof.Machine
end

section
/-! SUPPORT. What a commit leaves as it was: commands, ports, snapshots, queued records and frames sent. -/

namespace Sys2Proof.Machine

/-! ## What a commit leaves as it was -/

/-- From `a` to `b` records were queued and frames sent, while commands, ports and snapshots stayed. -/
structure Recorded (a b : Device) : Prop where
  nvme : b.nvme = a.nvme
  ports : b.ports = a.ports
  snap : b.snap = a.snap
  queued : a.stripe.queued <+: b.stripe.queued
  out : a.out <+: b.out

/-- The same, and the key index stayed. -/
structure Bookkept (a b : Device) : Prop extends Recorded a b where
  index : b.kv.index = a.kv.index

theorem Recorded.refl (a : Device) : Recorded a a := ⟨rfl, rfl, rfl, List.prefix_rfl, List.prefix_rfl⟩

theorem Recorded.trans {a b c : Device} (h : Recorded a b) (k : Recorded b c) : Recorded a c :=
  ⟨k.nvme.trans h.nvme, k.ports.trans h.ports, k.snap.trans h.snap, h.queued.trans k.queued, h.out.trans k.out⟩

theorem Bookkept.refl (a : Device) : Bookkept a a := ⟨.refl a, rfl⟩

theorem Bookkept.trans {a b c : Device} (h : Bookkept a b) (k : Bookkept b c) : Bookkept a c :=
  ⟨h.toRecorded.trans k.toRecorded, k.index.trans h.index⟩

theorem Bookkept.foldl {α : Type} {f : Device → α → Device} (hf : ∀ d x, Bookkept d (f d x)) (l : List α) (d : Device) :
    Bookkept d (l.foldl f d) := by
  induction l generalizing d with
  | nil => exact .refl d
  | cons x l ih => exact (hf d x).trans (ih _)

/-- What touches none of the parts that a commit leaves. -/
theorem Bookkept.of_eq {a b : Device} (h1 : b.nvme = a.nvme) (h2 : b.ports = a.ports) (h3 : b.snap = a.snap)
    (h4 : b.stripe.queued = a.stripe.queued) (h5 : b.out = a.out) (h6 : b.kv.index = a.kv.index) : Bookkept a b :=
  ⟨⟨h1, h2, h3, h4 ▸ List.prefix_rfl, h5 ▸ List.prefix_rfl⟩, h6⟩

theorem LinkWorked.bookkept {a b : Device} (h : LinkWorked a b) : Bookkept a b := by
  obtain ⟨_, _, _, _, _, rfl, p⟩ := h
  exact ⟨⟨rfl, rfl, rfl, List.prefix_rfl, p⟩, rfl⟩

theorem sendLink_bookkept (m : LinkMsg) (d : Device) : Bookkept d (sendLink m d) := (sendLink_linkWorked m d).bookkept

theorem journalRecord_bookkept (r : JRecord) (d : Device) : Bookkept d (journalRecord r d) :=
  ⟨⟨rfl, rfl, rfl, List.prefix_append _ _, List.prefix_rfl⟩, rfl⟩

theorem logEvent_bookkept (code unit severity detail : Nat) (d : Device) : Bookkept d (logEvent code unit severity detail d) :=
  .of_eq rfl rfl rfl rfl rfl rfl

/-! ## Map pages and manifests -/

theorem evictPages_bookkept (d : Device) : Bookkept d (evictPages d) := by
  unfold evictPages
  dsimp only
  split
  · exact .refl d
  · split
    · exact .refl d
    · exact .of_eq rfl rfl rfl rfl rfl rfl

theorem applyPage_bookkept (typ lid : Nat) (d : Device) : Bookkept d (applyPage typ lid d) := by
  unfold applyPage
  dsimp only
  split
  · exact .of_eq rfl rfl rfl rfl rfl rfl
  · refine .trans (b := { d with map := { d.map with pages := _ } }) ?_ (evictPages_bookkept _)
    exact .of_eq rfl rfl rfl rfl rfl rfl

theorem touchMap_bookkept (typ : Nat) (key : Bytes) (d : Device) : Bookkept d (touchMap typ key d) := applyPage_bookkept ..

theorem map_bookkept (m : MapState) (d : Device) : Bookkept d { d with map := m } := .of_eq rfl rfl rfl rfl rfl rfl

theorem packManifest_bookkept (m : Manifest) (d : Device) : Bookkept d (packManifest m d) := by
  unfold packManifest
  dsimp only
  refine .trans (.trans ?_ (applyPage_bookkept 2 _ _)) (.foldl (fun d i => ?_) _ _)
  · refine .trans ?_ (map_bookkept _ _)
    split_ifs
    · exact map_bookkept _ d
    · exact .refl d
  · exact applyPage_bookkept ..

theorem dropLocator_bookkept (mseq : Nat) (d : Device) : Bookkept d (dropLocator mseq d) := map_bookkept _ d

/-! ## Copies: counts, deaths and the requests of the other owner -/

theorem onCopy_bookkept (domain : Nat) (fp : Bytes) (num : Nat) (f : Copy → Copy) (d : Device) : Bookkept d (onCopy domain fp num f d) :=
  .of_eq rfl rfl rfl rfl rfl rfl

theorem recordCopy_bookkept (c : Copy) (d : Device) : Bookkept d (recordCopy c d) := journalRecord_bookkept ..

theorem hotRemove_bookkept (domain : Nat) (fp : Bytes) (copy : Nat) (d : Device) : Bookkept d (hotRemove domain fp copy d) := by
  unfold hotRemove
  split
  · exact .refl d
  · split
    · split
      · exact .of_eq rfl rfl rfl rfl rfl rfl
      · exact .refl d
    · exact .refl d

theorem invalidating_bookkept (l : List (Nat × Nat × Bytes × Nat)) (d : Device) :
    Bookkept d { d with kv := { d.kv with invalidating := l } } := .of_eq rfl rfl rfl rfl rfl rfl

theorem invalidateCopy_bookkept (c : Copy) (d : Device) : Bookkept d (invalidateCopy c d) := by
  unfold invalidateCopy
  split
  · exact .refl d
  · dsimp only
    refine .trans (.trans (.foldl (fun d b => ?_) _ d) (invalidating_bookkept _ _)) (sendLink_bookkept _ _)
    exact map_bookkept _ d

theorem dropCache_bookkept (f : CacheEntry → Bool) (d : Device) : Bookkept d (dropCache f d) := .of_eq rfl rfl rfl rfl rfl rfl

theorem buryCopy_bookkept (c : Copy) (d : Device) : Bookkept d (buryCopy c d) :=
  (onCopy_bookkept ..).trans ((hotRemove_bookkept ..).trans ((dropCache_bookkept ..).trans (invalidateCopy_bookkept ..)))

theorem settleSalt_bookkept (dom : Nat) (d : Device) : Bookkept d (settleSalt dom d) := by
  unfold settleSalt
  split
  · exact .refl d
  · refine .trans ?_ (logEvent_bookkept ..)
    exact .of_eq rfl rfl rfl rfl rfl rfl

theorem killCopy_bookkept (c : Copy) (d : Device) : Bookkept d (killCopy c d) :=
  (buryCopy_bookkept ..).trans ((recordCopy_bookkept ..).trans ((touchMap_bookkept ..).trans (settleSalt_bookkept ..)))

theorem decrementAt_bookkept (dom : Nat) (fp : Bytes) (num : Nat) (d : Device) : Bookkept d (decrementAt dom fp num d) := by
  unfold decrementAt
  split
  · exact journalRecord_bookkept ..
  · split_ifs
    · exact recordCopy_bookkept ..
    · exact killCopy_bookkept ..
    · exact (onCopy_bookkept ..).trans ((recordCopy_bookkept ..).trans (touchMap_bookkept ..))

theorem newReq_bookkept (what : ReqFor) (domain : Nat) (fp : Bytes) (copy : Nat) (d : Device) :
    Bookkept d (newReq what domain fp copy d).2 := .of_eq rfl rfl rfl rfl rfl rfl

theorem sendFpReq_bookkept (r : LinkReq) (d : Device) : Bookkept d (sendFpReq r d) := by
  unfold sendFpReq
  split
  · exact sendLink_bookkept ..
  · exact sendLink_bookkept ..
  · exact sendLink_bookkept ..
  · exact .refl d

theorem askOwner_bookkept (what : ReqFor) (dom : Nat) (fp : Bytes) (num : Nat) (d : Device) :
    Bookkept d (askOwner what dom fp num d) := by
  unfold askOwner
  dsimp only
  split
  · exact (newReq_bookkept ..).trans (sendFpReq_bookkept ..)
  · exact newReq_bookkept ..

theorem decrement_bookkept (dom : Nat) (fp : Bytes) (num : Nat) (d : Device) : Bookkept d (decrement dom fp num d) := by
  unfold decrement
  split
  · exact decrementAt_bookkept ..
  · exact askOwner_bookkept ..

theorem killManifest_bookkept (mseq : Nat) (d : Device) : Bookkept d (killManifest mseq d) := by
  unfold killManifest
  split
  · exact .refl d
  next m _ =>
    refine .trans (b := dropLocator mseq { d with kv := { d.kv with manifests := d.kv.manifests.filter (·.seq != mseq) } }) ?_
      (.foldl (fun d c => decrement_bookkept ..) _ _)
    refine .trans ?_ (dropLocator_bookkept ..)
    exact .of_eq rfl rfl rfl rfl rfl rfl

theorem commitRefs_bookkept (m : Manifest) (cmd : Nat) (d : Device) : Bookkept d (commitRefs m cmd d) := by
  unfold commitRefs
  refine .foldl (fun d c => ?_) _ d
  split
  · exact (onCopy_bookkept ..).trans ((recordCopy_bookkept ..).trans (touchMap_bookkept ..))
  · exact .refl d

theorem commitClaims_bookkept (c : Cmd) (i : Item) (d : Device) : Bookkept d (commitClaims c i d) := by
  unfold commitClaims
  split
  · split_ifs
    · exact .refl d
    · exact commitRefs_bookkept ..
  · exact .refl d

end Sys2Proof.Machine
end

section
/-! SUPPORT. Key versions that take effect (R20, R21, R324). -/

namespace Sys2Proof.Machine

/-! ## The key index -/

theorem find?_insertKey_same (l : List KeyEntry) (e : KeyEntry) :
    (insertKey l e).find? (fun x => x.ns == e.ns && x.key == e.key) = some e := by
  have he : (e.ns == e.ns && e.key == e.key) = true := by simp
  induction l with
  | nil => simp [insertKey]
  | cons x l ih =>
    unfold insertKey
    split_ifs with hx hb
    · rw [List.find?_cons, he]
    · rw [List.find?_cons, he]
    · rw [List.find?_cons, Bool.eq_false_iff.2 hx]
      exact ih

theorem find?_insertKey_other (l : List KeyEntry) {e : KeyEntry} {p : KeyEntry → Bool} (hp : p e = false)
    (hs : ∀ x : KeyEntry, (x.ns == e.ns && x.key == e.key) = true → p x = false) : (insertKey l e).find? p = l.find? p := by
  induction l with
  | nil => simp [insertKey, hp]
  | cons x l ih =>
    unfold insertKey
    split_ifs with hx hb
    · rw [List.find?_cons, List.find?_cons, hp, hs x hx]
    · rw [List.find?_cons, hp]
    · rw [List.find?_cons, List.find?_cons, ih]

/-- The index entry of a key once its entry `e` is put: `e`, or none when it has no version. -/
theorem keyEntry?_putKey_same (e : KeyEntry) (d : Device) :
    keyEntry? e.ns e.key (putKey e d) = if e.versions.isEmpty then none else some e := by
  unfold keyEntry? putKey
  dsimp only
  split_ifs with h
  · rw [List.find?_eq_none]
    intro x hx
    have hne := (List.mem_filter.1 hx).2
    rw [Bool.not_eq_true'] at hne
    rw [hne]
    exact Bool.false_ne_true
  · exact find?_insertKey_same ..

/-- The entries of other keys stay. -/
theorem keyEntry?_putKey_other {ns : Nat} {key : Bytes} {e : KeyEntry} (d : Device) (h : ¬ (e.ns = ns ∧ e.key = key)) :
    keyEntry? ns key (putKey e d) = keyEntry? ns key d := by
  have hs : ∀ x : KeyEntry, (x.ns == e.ns && x.key == e.key) = true → (x.ns == ns && x.key == key) = false := by
    intro x hx
    simp only [Bool.and_eq_true, beq_iff_eq] at hx
    rw [hx.1, hx.2]
    simpa using h
  unfold keyEntry? putKey
  dsimp only
  split_ifs
  · rw [List.find?_filter]
    refine List.find?_congr fun x _ => ?_
    cases hx : (x.ns == e.ns && x.key == e.key)
    · simp only [Bool.not_false, true_and, Bool.decide_eq_true]
    · simp [hs x hx]
  · exact find?_insertKey_other _ (hs e (by simp)) hs

theorem pruneVersions_ns (e : KeyEntry) (d : Device) : (pruneVersions e d).ns = e.ns := by
  unfold pruneVersions
  split <;> rfl

theorem pruneVersions_key (e : KeyEntry) (d : Device) : (pruneVersions e d).key = e.key := by
  unfold pruneVersions
  split <;> rfl

/-- Pruning keeps the newest version, but for a deletion that is the only one left. -/
theorem pruneVersions_cons (ns : Nat) (key : Bytes) (v : Version) (vs : List Version) (d : Device) :
    ((pruneVersions ⟨ns, key, v :: vs⟩ d).versions = [] ∧ v.tombstone = true) ∨
      ∃ keep, (pruneVersions ⟨ns, key, v :: vs⟩ d).versions = v :: keep := by
  unfold pruneVersions
  dsimp only
  split_ifs with h
  · rw [Bool.and_eq_true] at h
    exact .inl ⟨rfl, h.2⟩
  · exact .inr ⟨_, rfl⟩

/-! ## A version that takes effect -/

theorem putKey_recorded (e : KeyEntry) (d : Device) : Recorded d (putKey e d) := ⟨rfl, rfl, rfl, List.prefix_rfl, List.prefix_rfl⟩

/-- Replacing an entry by its pruned form leaves what the index then holds. -/
theorem settleKey_bookkept (e : KeyEntry) (d : Device) : Bookkept (putKey (pruneVersions e d) d) (settleKey e d) := by
  unfold settleKey
  refine .foldl (fun d v => ?_) _ _
  split_ifs
  · exact .refl d
  · exact killManifest_bookkept ..

theorem Bookkept.keyEntry? {a b : Device} (h : Bookkept a b) (ns : Nat) (key : Bytes) : keyEntry? ns key b = keyEntry? ns key a := by
  unfold Machine.keyEntry?
  rw [h.index]

theorem liveVersion_of_keyEntry? {a b : Device} {ns : Nat} {key : Bytes} (h : keyEntry? ns key b = keyEntry? ns key a) :
    liveVersion ns key b = liveVersion ns key a := by
  unfold liveVersion
  rw [h]

/-- The newest version of an entry that is put reads as the key's. -/
theorem liveVersion_settleKey (ns : Nat) (key : Bytes) (v : Version) (vs : List Version) (d : Device) :
    liveVersion ns key (settleKey ⟨ns, key, v :: vs⟩ d) = if v.tombstone then none else some v := by
  rw [liveVersion_of_keyEntry? ((settleKey_bookkept _ d).keyEntry? ns key)]
  have hput := keyEntry?_putKey_same (pruneVersions ⟨ns, key, v :: vs⟩ d) d
  rw [pruneVersions_ns, pruneVersions_key] at hput
  unfold liveVersion
  rw [hput]
  rcases pruneVersions_cons ns key v vs d with ⟨he, ht⟩ | ⟨keep, he⟩
  · simp [he, ht]
  · simp [he]

/-- What a version leaves at its commit: its record is queued, its key reads as it says, and every other key stays. -/
structure VersionApplied (ns : Nat) (key : Bytes) (v : Version) (a b : Device) : Prop extends Recorded a b where
  record : JRecord.keyVersion ns key v.mseq v.tombstone v.tick ∈ b.stripe.queued
  live : liveVersion ns key b = if v.tombstone then none else some v
  others : ∀ ns' key', ¬ (ns = ns' ∧ key = key') → keyEntry? ns' key' b = keyEntry? ns' key' a

/-- Once the version's record is queued its entry is put: the rest of the commit is bookkeeping. -/
theorem settleKey_applied {ns : Nat} {key : Bytes} {v : Version} {a d : Device} (h : Bookkept a d) (vs : List Version) :
    VersionApplied ns key v a
      (settleKey ⟨ns, key, v :: vs⟩ (journalRecord (.keyVersion ns key v.mseq v.tombstone v.tick) (touchMap 1 (indexKey ns key) d))) := by
  have hj : Bookkept a (journalRecord (.keyVersion ns key v.mseq v.tombstone v.tick) (touchMap 1 (indexKey ns key) d)) :=
    h.trans ((touchMap_bookkept ..).trans (journalRecord_bookkept ..))
  have hm : JRecord.keyVersion ns key v.mseq v.tombstone v.tick ∈
      (journalRecord (.keyVersion ns key v.mseq v.tombstone v.tick) (touchMap 1 (indexKey ns key) d)).stripe.queued :=
    List.mem_append_right _ (List.mem_singleton_self _)
  generalize journalRecord _ (touchMap _ _ d) = x at hj hm ⊢
  have hs := settleKey_bookkept ⟨ns, key, v :: vs⟩ x
  have hr : Recorded x (settleKey ⟨ns, key, v :: vs⟩ x) := (putKey_recorded _ x).trans hs.toRecorded
  refine ⟨hj.toRecorded.trans hr, hr.queued.subset hm, liveVersion_settleKey .., fun ns' key' hne => ?_⟩
  rw [hs.keyEntry?, keyEntry?_putKey_other _ (by rwa [pruneVersions_ns, pruneVersions_key]), hj.keyEntry?]

theorem applyVersion_applied (ns : Nat) (key : Bytes) (v : Version) (d : Device) : VersionApplied ns key v d (applyVersion ns key v d) := by
  unfold applyVersion
  refine settleKey_applied ?_ _
  split
  · split_ifs
    · exact .refl d
    · refine .trans ?_ (packManifest_bookkept _ _)
      exact .of_eq rfl rfl rfl rfl rfl rfl
  · exact .refl d

/-! ## The versions of a command -/

theorem Recorded.cmd_ns {a b : Device} (h : Recorded a b) (c : Cmd) : c.ns b = c.ns a := by
  unfold Cmd.ns realNs readView
  rw [h.snap]

theorem noteFlushTick_bookkept (ns : Nat) (key : Bytes) (t : Nat) (d : Device) : Bookkept d (noteFlushTick ns key t d) := map_bookkept _ d

theorem VersionApplied.of_bookkept {ns : Nat} {key : Bytes} {v : Version} {a b c : Device} (h : Bookkept a b) (k : VersionApplied ns key v b c) :
    VersionApplied ns key v a c :=
  ⟨h.toRecorded.trans k.toRecorded, k.record, k.live, fun ns' key' hne => (k.others ns' key' hne).trans (h.keyEntry? ns' key')⟩

theorem commitItem_applied (c : Cmd) (t : Nat) (i : Item) (d : Device) :
    VersionApplied (c.ns d) i.key ⟨t, i.mseq, i.isDelete, false⟩ d (commitItem c t i d) := by
  refine .of_bookkept (.trans ?_ (noteFlushTick_bookkept ..)) (applyVersion_applied ..)
  exact .of_eq rfl rfl rfl rfl rfl rfl

/-- Item `i` of command `c` stands in `b` as it commits at tick `t`: its record is queued, its key reads as it leaves it. -/
def ItemStands (ns t : Nat) (i : Item) (b : Device) : Prop :=
  JRecord.keyVersion ns i.key i.mseq i.isDelete t ∈ b.stripe.queued ∧
    liveVersion ns i.key b = if i.isDelete then none else some ⟨t, i.mseq, false, false⟩

theorem VersionApplied.itemStands {ns t : Nat} {i : Item} {a b : Device}
    (h : VersionApplied ns i.key ⟨t, i.mseq, i.isDelete, false⟩ a b) : ItemStands ns t i b := by
  refine ⟨h.record, h.live.trans ?_⟩
  cases i.isDelete <;> rfl

/-- What has committed stands on while other keys commit. -/
theorem ItemStands.mono {ns t : Nat} {i : Item} {a b : Device} (h : ItemStands ns t i a) (hr : Recorded a b)
    (hk : keyEntry? ns i.key b = keyEntry? ns i.key a) : ItemStands ns t i b :=
  ⟨hr.queued.subset h.1, (liveVersion_of_keyEntry? hk).trans h.2⟩

/-- After the versions of some items, of different keys, each item stands, and the other keys stay. -/
theorem foldl_commitItem (c : Cmd) (t : Nat) (items : List Item) (hn : (items.map (·.key)).Nodup) (d : Device) :
    Recorded d (items.foldl (fun d i => commitItem c t i d) d) ∧
    (∀ i ∈ items, ItemStands (c.ns d) t i (items.foldl (fun d i => commitItem c t i d) d)) ∧
    ∀ ns key, (ns = c.ns d → ∀ i ∈ items, i.key ≠ key) →
      keyEntry? ns key (items.foldl (fun d i => commitItem c t i d) d) = keyEntry? ns key d := by
  induction items generalizing d with
  | nil => exact ⟨.refl d, by simp, by simp⟩
  | cons x xs ih =>
    rw [List.map_cons, List.nodup_cons] at hn
    have hx := commitItem_applied c t x d
    obtain ⟨hr, hi, ho⟩ := ih hn.2 (commitItem c t x d)
    rw [hx.toRecorded.cmd_ns] at hi ho
    rw [List.foldl_cons]
    refine ⟨hx.toRecorded.trans hr, fun i hm => ?_, fun ns key h => ?_⟩
    · rcases List.mem_cons.1 hm with rfl | hm
      · exact hx.itemStands.mono hr (ho _ _ fun _ j hj he => hn.1 (he ▸ List.mem_map_of_mem hj))
      · exact hi i hm
    · rw [ho ns key fun e j hj => h e j (List.mem_cons_of_mem _ hj)]
      exact hx.others ns key fun e => h e.1.symm x List.mem_cons_self e.2

end Sys2Proof.Machine
end

section
/-! SUPPORT. A commit group that launches alone and commits one write (R20, R21, R148, R416). -/

namespace Sys2Proof.Machine

/-! ## The end of a command that commits -/

theorem ackInvalidates_bookkept (d : Device) : Bookkept d (ackInvalidates d) := by
  unfold ackInvalidates
  refine .trans (b := { d with kv := { d.kv with owedAcks := d.kv.owedAcks.filter fun x => beingRead x.1 x.2.1 x.2.2 d } }) ?_
    (.foldl (fun d x => sendLink_bookkept _ d) _ _)
  exact .of_eq rfl rfl rfl rfl rfl rfl

/-- What the end of command `id`, the only one, leaves: no command, none of its locks, and what else a commit leaves. -/
structure Emptied (id : Nat) (a b : Device) : Prop where
  cmds : b.nvme.cmds = []
  locks : ∀ l ∈ b.nvme.locks, l.cmd ≠ id
  ports : b.ports = a.ports
  queued : a.stripe.queued <+: b.stripe.queued
  out : a.out <+: b.out
  index : b.kv.index = a.kv.index

theorem Emptied.of_bookkept {id : Nat} {a b c : Device} (h : Emptied id a b) (k : Bookkept b c) : Emptied id a c :=
  ⟨k.nvme ▸ h.cmds, k.nvme ▸ h.locks, k.ports.trans h.ports, h.queued.trans k.queued, h.out.trans k.out, k.index.trans h.index⟩

theorem removeCmd_emptied {c : Cmd} {d : Device} (hc : d.nvme.cmds = [c]) (hs : c.fwdFrom = none) (hp : c.parent = none)
    (ht : c.fwdTo = none) : Emptied c.id d (removeCmd c d) := by
  unfold removeCmd
  rw [hs, hp, ht]
  dsimp only
  refine .of_bookkept ?_ (ackInvalidates_bookkept _)
  refine ⟨?_, fun l hl => ?_, rfl, List.prefix_rfl, List.prefix_rfl, rfl⟩
  · show (releaseLocks c.id d).nvme.cmds.filter _ = []
    rw [show (releaseLocks c.id d).nvme.cmds = [c] from hc]
    simp
  · simpa using (List.mem_filter.1 hl).2

theorem Posted.of_eq {p : Nat} {a b c : Device} {o : Output} (h : Posted p a b o) (ho : c.out = b.out) (hp : c.ports = b.ports) :
    Posted p a c o := by
  unfold Posted Sent portOf at h ⊢
  rw [ho, hp]
  exact h

theorem countHost_eq (c : Cmd) (st : Status) (data : Bytes) (d : Device) : ∃ m, countHost c st data d = { d with admin := m } := by
  unfold countHost
  dsimp only
  split
  · exact ⟨_, rfl⟩
  · exact ⟨_, rfl⟩

/-- A completion of success changes none of the commands, of the store and of the journal. -/
theorem Spoke.store {a b : Device} (h : Spoke a b) : b.nvme = a.nvme ∧ b.stripe = a.stripe ∧ b.kv = a.kv := by
  obtain ⟨_, _, _, _, _, _, rfl, _⟩ := h
  exact ⟨rfl, rfl, rfl⟩

/-- The only command, of a host within reach, completes with success: it and its locks go, and the host is told. -/
theorem doneCmd_success {c : Cmd} {a d : Device} (hc : d.nvme.cmds = [c]) (hs : c.fwdFrom = none) (ht : c.fwdTo = none) (hp : c.parent = none)
    (hq : c.q.port < 8) (hr : reachable c.q a = true) (ha : Recorded a d) :
    let v := doneCmd c.id .success 0 0 [] d
    v.nvme.cmds = [] ∧ (∀ l ∈ v.nvme.locks, l.cmd ≠ c.id) ∧ d.stripe.queued <+: v.stripe.queued ∧ v.kv.index = d.kv.index ∧
      ∃ flow, Posted c.q.port a v (.completion c.q c.sqe.cid .success 0 0 [] flow) := by
  have he := removeCmd_emptied hc hs hp ht
  have hports : (removeCmd c d).ports = a.ports := he.ports.trans ha.ports
  have hreach : reachable c.q (removeCmd c d) = true := by
    unfold reachable at hr ⊢
    rwa [hports]
  have hw : (portOf c.q.port a).txWait.length ≤ (portOf c.q.port (removeCmd c d)).txWait.length := by
    unfold portOf
    rw [hports]
  obtain ⟨flow, hpost⟩ := complete_answers (c := c.capsule) (st := .success) (dw0 := 0) (dw1 := 0) (data := []) hreach (ha.out.trans he.out) (.inl hw)
  obtain ⟨hn, hst, hkv⟩ := (complete_spoke (q := c.q) (t := c.sqe.tag) (dw0 := 0) (dw1 := 0) (data := []) (d := removeCmd c d)
    (st := .success) ⟨rfl, rfl⟩).store
  have hfind : cmdOf c.id d = some c := by simp [cmdOf, hc]
  have hport : (c.q.port == 255) = false := by
    rw [beq_eq_false_iff_ne]
    omega
  have hv : doneCmd c.id .success 0 0 [] d = countHost c .success [] (complete c.q c.sqe.tag .success 0 0 [] (removeCmd c d)) := by
    unfold doneCmd
    rw [hfind]
    simp only [postFor, hs, hp, hport, Option.isSome_none, Bool.false_eq_true, if_false]
  obtain ⟨m, hm⟩ := countHost_eq c .success [] (complete c.q c.sqe.tag .success 0 0 [] (removeCmd c d))
  rw [hv, hm]
  dsimp only
  rw [hn, hst, hkv]
  exact ⟨he.cmds, he.locks, he.queued, he.index, flow, hpost.of_eq rfl rfl⟩

/-! ## The writes of a commit group -/

theorem commitVersions_eq (t : Nat) (d : Device) (c : Cmd) :
    Bookkept (c.items.foldl (fun d i => commitItem c (c.tick.getD t) i d) d) (commitVersions t d c) := by
  unfold commitVersions
  dsimp only
  split_ifs
  · exact journalRecord_bookkept ..
  · exact .refl _

/-- The only command commits: its references count, its versions take effect, and it ends. -/
theorem commitWrites_single {t : Nat} {c : Cmd} {d : Device} (hc : d.nvme.cmds = [c]) (ht : commitsAt t c = true) :
    commitWrites t d =
      commitDone (namedManifest c d) c.id (commitVersions t (c.items.foldl (fun d i => commitClaims c i d) d) c) := by
  unfold commitWrites
  simp only [hc, List.filter_cons, ht, if_true, List.filter_nil, List.map_cons, List.map_nil, List.foldl_cons, List.foldl_nil]

/-- A write of a host that is no range command and no secure delete is done with its versions. -/
theorem commitDone_write {named : Option Manifest} {c : Cmd} {d : Device} (hc : d.nvme.cmds = [c]) (hs : c.fwdFrom = none)
    (hr : isRange c.sqe = false) (hd : c.kind = KvKind.delete → isSecure c.sqe = false) :
    commitDone named c.id d = doneCmd c.id .success 0 0 [] d := by
  have hfind : cmdOf c.id d = some c := by simp [cmdOf, hc]
  have hsec : (c.kind == KvKind.delete && isSecure c.sqe) = false := by
    rw [Bool.and_eq_false_imp, beq_iff_eq]
    exact hd
  unfold commitDone
  rw [hfind]
  simp only [hr, hsec, isShare, hs, Option.isSome_none, Bool.false_and, Bool.false_eq_true, if_false]

/-! ## An entry that launches alone -/

/-- In a table in order, the row that alone is picked among all rows. -/
theorem filter_eq_single_of_tblGet? {α : Type} {t : Tbl α} {n : Nat} {v : α} {p : Nat × α → Bool} (hw : tblWf t = true)
    (hg : tblGet? t n = some v) (hp : p (n, v) = true) (ho : ∀ x ∈ t, x.1 ≠ n → p x = false) : t.filter p = [(n, v)] := by
  induction t with
  | nil => cases hg
  | cons q t ih =>
    obtain ⟨j, w⟩ := q
    by_cases hj : j = n
    · subst hj
      obtain rfl : w = v := by simpa [tblGet?] using hg
      have hrest : t.filter p = [] := List.filter_eq_nil_iff.2 fun x hx => by
        rw [ho x (List.mem_cons_of_mem _ hx) (tblWf_head_lt hw x hx).ne']
        exact Bool.false_ne_true
      rw [List.filter_cons, hp, if_pos rfl, hrest]
    · have hg' : tblGet? t n = some v := by simpa [tblGet?, hj] using hg
      rw [List.filter_cons, ho (j, w) List.mem_cons_self hj, if_neg Bool.false_ne_true]
      exact ih (tblWf_tail hw) hg' fun x hx => ho x (List.mem_cons_of_mem _ hx)

/-- An armed entry was written. -/
theorem tblGet?_of_armed {n : Nat} {e : BoardEntry} {d : Device} (hb : boardEntry n d = e) (hs : e.state = 1) :
    tblGet? d.board.entries n = some e := by
  unfold boardEntry tblGetD at hb
  cases hg : tblGet? d.board.entries n with
  | none =>
    rw [hg, Option.getD_none] at hb
    rw [← hb] at hs
    cases hs
  | some x => rw [← hb, hg, Option.getD_some]

/-- At its tick, an entry that launches alone is the one that is due. -/
theorem dueEntries_alone {n : Nat} {e : BoardEntry} {d : Device} (h : LaunchesAlone n e d) :
    dueEntries (waitTick e.launch d) = [(n, e)] := by
  obtain ⟨hb, hs, -, -, hw, hlt, -, ho⟩ := h
  have hc : (waitTick e.launch d).time.counter = e.launch := (waitTick_counter _ _).trans (max_eq_left hlt.le)
  have hf : d.board.entries.filter (fun x => x.2.state == 1 && x.2.launch ≤ e.launch) = [(n, e)] := by
    refine filter_eq_single_of_tblGet? hw (tblGet?_of_armed hb hs) (by simp [hs]) fun x hx hne => ?_
    rw [Bool.and_eq_false_imp]
    intro h1
    have := ho x hx hne (beq_iff_eq.1 h1)
    simpa using this
  unfold dueEntries
  rw [waitTick_board, hc, hf]
  rfl

theorem nominalTick_launch (e : BoardEntry) : nominalTick e e.launch = e.launch := by
  unfold nominalTick
  split <;> simp

/-- The one entry due at its tick, a COMMIT_GROUP, launches: the group commits, and what awaited the launch goes on. -/
theorem launchTick_commitGroup {n : Nat} {e : BoardEntry} {d : Device} (hf : d.board.frozen = false) (hd : dueEntries d = [(n, e)])
    (hc : d.time.counter = e.launch) (ht : d.board.tick ≠ e.launch) (ha : e.action = 0x01) :
    launchTick d = (afterLaunch n (commitGroup e.launch (bucketGroup e.launch
      (launchEntry { d with board := { d.board with tick := e.launch, used := 1 } } (n, e)))), [n]) := by
  have hu : (d.board.tick == e.launch) = false := beq_eq_false_iff_ne.2 ht
  have h6 : (e.action == 6) = false := by rw [ha]; rfl
  have htake : [(n, e)].take 8 = [(n, e)] := rfl
  have hclass : (List.range 9).flatMap (fun c => [(n, e)].filter fun x => actionClass x.2.action == c) = [(n, e)] := by
    simp only [List.filter_cons, List.filter_nil, ha]
    rfl
  have happ : ∀ x, applyAction n e e.launch x = commitGroup e.launch (bucketGroup e.launch x) := by
    intro x
    unfold applyAction
    rw [ha]
    rfl
  unfold launchTick afterLaunch
  rw [hd, hc, hf, hu]
  simp only [Bool.false_eq_true, if_false, Nat.sub_zero, htake, List.isEmpty_cons, List.find?_cons, List.find?_nil, h6,
    hclass, List.foldl_cons, List.foldl_nil, List.map_cons, List.map_nil, List.length_singleton, Nat.zero_add, nominalTick_launch, happ]

/-- A COMMIT_GROUP that launches alone: its tick comes, it launches, the buckets of the group pass, and the group commits. -/
theorem launch_commitGroup_alone {n : Nat} {e : BoardEntry} {d : Device} (h : LaunchesAlone n e d) (ha : e.action = 0x01) :
    launch n 0x01 d = afterLaunch n (commitGroup e.launch (bucketGroup e.launch (launchedAt n e d))) := by
  have hdue := dueEntries_alone h
  obtain ⟨hb, hs, hn, hf, -, hlt, ht, -⟩ := h
  have hc : (waitTick e.launch d).time.counter = e.launch := (waitTick_counter _ _).trans (max_eq_left hlt.le)
  have hgo : (e.state != 1 || e.action != 0x01 || d.board.frozen || decide (4096 ≤ n)) = false := by simp [hs, ha, hf, hn]
  have htick := launchTick_commitGroup (d := waitTick e.launch d) (by rwa [waitTick_board]) hdue hc (by rwa [waitTick_board]) ha
  unfold launch
  rw [hb]
  dsimp only
  rw [hgo, if_neg Bool.false_ne_true]
  unfold launchUntil
  rw [htick]
  simp only [List.contains_cons, beq_self_eq_true, Bool.true_or, if_true]
  rw [waitTick_board]
  rfl

/-! ## The group commits the write that is ready -/

/-- What a commit group that launches alone leaves of command `c` of `w`, the only one under way. -/
structure WriteCommitted (c : Cmd) (k : Nat) (w v : Device) : Prop where
  cmds : v.nvme.cmds = []
  locks : ∀ l ∈ v.nvme.locks, l.cmd ≠ c.id
  items : ∀ i ∈ c.items, ItemStands (c.ns w) k i v
  others : ∀ ns key, (ns = c.ns w → ∀ i ∈ c.items, i.key ≠ key) → keyEntry? ns key v = keyEntry? ns key w
  posted : ∃ flow, Posted c.q.port w v (.completion c.q c.sqe.cid .success 0 0 [] flow)

/-- The only command commits with its group: claims, versions, then its end. -/
theorem commitWrites_committed {t : Nat} {c : Cmd} {w : Device} (hc : w.nvme.cmds = [c]) (ht : commitsAt t c = true) (hs : c.fwdFrom = none)
    (hto : c.fwdTo = none) (hp : c.parent = none) (hr : isRange c.sqe = false) (hd : c.kind = KvKind.delete → isSecure c.sqe = false)
    (hn : (c.items.map (·.key)).Nodup) (hreach : reachable c.q w = true) (hq : c.q.port < 8) :
    WriteCommitted c (c.tick.getD t) w (commitWrites t w) := by
  have hclaims : Bookkept w (c.items.foldl (fun d i => commitClaims c i d) w) := .foldl (fun d i => commitClaims_bookkept c i d) _ _
  rw [commitWrites_single hc ht]
  generalize c.items.foldl (fun d i => commitClaims c i d) w = x at hclaims ⊢
  obtain ⟨hitems, hstand, hothers⟩ := foldl_commitItem c (c.tick.getD t) c.items hn x
  have hrec := commitVersions_eq t x c
  generalize c.items.foldl (fun d i => commitItem c (c.tick.getD t) i d) x = y at hitems hstand hothers hrec
  generalize commitVersions t x c = z at hrec ⊢
  have hz : Recorded w z := hclaims.toRecorded.trans (hitems.trans hrec.toRecorded)
  have hcz : z.nvme.cmds = [c] := by rw [hz.nvme, hc]
  rw [commitDone_write hcz hs hr hd]
  obtain ⟨hcmds, hlocks, hqueued, hindex, hposted⟩ := doneCmd_success hcz hs hto hp hq hreach hz
  generalize doneCmd c.id .success 0 0 [] z = v at hcmds hlocks hqueued hindex hposted ⊢
  have hkey : ∀ ns key, keyEntry? ns key v = keyEntry? ns key y := by
    intro ns key
    unfold keyEntry?
    rw [hindex, hrec.index]
  rw [hclaims.toRecorded.cmd_ns] at hstand hothers
  refine ⟨hcmds, hlocks, fun i hi => ⟨?_, ?_⟩, fun ns key h => ?_, hposted⟩
  · exact (hrec.queued.trans hqueued).subset (hstand i hi).1
  · exact (liveVersion_of_keyEntry? (hkey _ _)).trans (hstand i hi).2
  · rw [hkey, hothers ns key h, hclaims.keyEntry?]

/-- Settles O51: the entry launches alone, its group commits the one write, and what follows in the group goes on from there. -/
theorem writesCommit : Obligations.WritesCommit := by
  intro s n e hl ha w c hc ht hs hto hp hr hd hn hreach hq k
  have h : WriteCommitted c k w (commitWrites e.launch w) := commitWrites_committed hc ht hs hto hp hr hd hn hreach hq
  refine leads_of_eq (g := launch n 0x01) (u := commitWrites e.launch w) rfl ?_ ⟨h.cmds, h.locks, h.items, h.others, h.posted⟩
  rw [launch_commitGroup_alone hl ha]
  rfl

end Sys2Proof.Machine
end

section
/-! SUPPORT. What stays as it was through the operations that an entry to a low power state, or its end, runs: the power record (R547, R548). -/

namespace Sys2Proof.Machine

/-! ## What a fold leaves as it was -/

/-- What each step of a fold leaves as it was, the fold leaves as it was. -/
theorem foldl_eq_of_step {α β : Type} (g : Device → β) {f : Device → α → Device} (hf : ∀ d x, g (f d x) = g d) (l : List α) (d : Device) :
    g (l.foldl f d) = g d := by
  induction l generalizing d with
  | nil => rfl
  | cons x l ih => exact (ih (f d x)).trans (hf d x)

/-! ## Sending, logging, board entries -/

theorem Spoke.power {a b : Device} (h : Spoke a b) : b.power = a.power := by
  obtain ⟨_, _, _, _, _, _, rfl, _⟩ := h
  rfl

@[simp] theorem logEvent_power (code unit severity detail : Nat) (d : Device) : (logEvent code unit severity detail d).power = d.power := rfl

@[simp] theorem odBump_power (idx sub n : Nat) (d : Device) : (odBump idx sub n d).power = d.power := rfl

@[simp] theorem putEntry_power (n : Nat) (e : BoardEntry) (d : Device) : (putEntry n e d).power = d.power := rfl

@[simp] theorem placeLocal_power (e : BoardEntry) (d : Device) : (placeLocal e d).power = d.power := by
  unfold placeLocal
  split
  · rfl
  · dsimp only
    split_ifs <;> rfl

/-! ## Stripes are issued -/

@[simp] theorem noteUnplaced_power (cls k : Nat) (d : Device) : (noteUnplaced cls k d).power = d.power := by
  unfold noteUnplaced
  split_ifs <;> rfl

@[simp] theorem noteResidue_power (id : Nat) (m : MemberDesc) (d : Device) : (noteResidue id m d).power = d.power := by
  unfold noteResidue
  dsimp only
  split_ifs <;> rfl

@[simp] theorem takePage_power (m : MemberDesc) (s : Stream) (d : Device) : (takePage m s d).power = d.power := rfl

theorem takePages_power {s : Stream} {unit : Nat} {cs : List Nat} {d : Device} {r : List Member × Device} (h : takePages s unit cs d = some r) :
    r.2.power = d.power := by
  induction cs generalizing d r with
  | nil =>
    cases h
    rfl
  | cons c cs ih =>
    unfold takePages at h
    split at h
    · cases h
    next m _ =>
      split at h
      · cases h
      next q hq =>
        cases h
        exact (ih hq).trans (takePage_power m s d)

@[simp] theorem splitStripe_power (st : Stripe) (k : Nat) (d : Device) : (splitStripe st k d).power = d.power := rfl

@[simp] theorem onStripe_power (id : Nat) (f : Stripe → Stripe) (d : Device) : (onStripe id f d).power = d.power := rfl

@[simp] theorem journalRecord_power (r : JRecord) (d : Device) : (journalRecord r d).power = d.power := rfl

@[simp] theorem issueStripe_power (st : Stripe) (d : Device) : (issueStripe st d).power = d.power := by
  unfold issueStripe
  dsimp only
  split
  · rfl
  · split
    · exact noteUnplaced_power ..
    next k cs _ =>
      split
      · split_ifs <;> simp
      next ms x h =>
        have hx := takePages_power h
        have hn := foldl_eq_of_step Device.power (fun d (m : Member) => noteResidue_power st.id m.desc d) ms x
        dsimp only at hx
        split_ifs at hx ⊢ <;> simpa [hn] using hx

@[simp] theorem issueClosed_power (d : Device) : (issueClosed d).power = d.power := by
  refine foldl_eq_of_step Device.power (fun d s => ?_) _ d
  split
  · exact issueStripe_power ..
  · rfl

@[simp] theorem closeGather_power (g : Gather) (d : Device) : (closeGather g d).power = d.power := rfl

@[simp] theorem closeGathers_power (f : Gather → Bool) (d : Device) : (closeGathers f d).power = d.power :=
  (issueClosed_power _).trans (foldl_eq_of_step Device.power (fun d g => closeGather_power g d) _ d)

/-! ## A checkpoint begins -/

theorem gatherBytes_power (fuel cls cluster : Nat) (s : Stream) (ret len : Nat) (d : Device) :
    (gatherBytes fuel cls cluster s ret len d).2.power = d.power := by
  induction fuel generalizing len d with
  | zero => rfl
  | succ fuel ih =>
    unfold gatherBytes
    split_ifs
    · rfl
    · dsimp only
      split
      · exact ih ..
      · split_ifs <;> exact ih ..

@[simp] theorem reserveSeals_power (d : Device) : (reserveSeals d).power = d.power := by
  unfold reserveSeals
  split_ifs <;> rfl

@[simp] theorem writePage_power (typ lid : Nat) (d : Device) : (writePage typ lid d).power = d.power := by
  unfold writePage
  split_ifs
  · exact reserveSeals_power d
  · exact (reserveSeals_power _).trans (gatherBytes_power ..)

@[simp] theorem checkpointBegin_power (d : Device) : (checkpointBegin d).power = d.power := by
  have hw := foldl_eq_of_step Device.power fun d (p : MapPage) => writePage_power p.typ p.lid d
  unfold checkpointBegin
  split_ifs
  · exact reserveSeals_power _
  · exact (hw _ _).trans (hw _ _)

/-! ## Low power states are entered and left -/

theorem enterLow_power (n : Nat) (d : Device) : (enterLow n d).power = { d.power with entering := some n } := by
  unfold enterLow
  dsimp only
  split_ifs <;> simp

@[simp] theorem cancelGroupsDown_power (d : Device) : (cancelGroupsDown d).power = d.power :=
  foldl_eq_of_step Device.power (fun d (e : Nat × BoardEntry) => putEntry_power e.1 { e.2 with state := 3 } d) _ d

@[simp] theorem loadClusters_power (d : Device) : (loadClusters d).power = d.power := by
  refine foldl_eq_of_step Device.power (fun d c => ?_) _ d
  unfold loadCluster
  split_ifs <;> rfl

@[simp] theorem loadSearch_power (d : Device) : (loadSearch d).power = d.power := by
  unfold loadSearch
  dsimp only
  split_ifs <;> rfl

/-- Every group in standby leaves it, as a unit comes back from PS_2. -/
theorem standbyLeft_power (d : Device) :
    ((List.range 16).foldl (fun d g => if bit (odVal 0x2210 3 d) g then setStandby g false d else d) d).power = d.power := by
  refine foldl_eq_of_step Device.power (fun d g => ?_) _ d
  split_ifs <;> rfl

theorem placeGroupsUp_power (d : Device) : (placeGroupsUp false d).power = d.power := by
  unfold placeGroupsUp
  simp only [Bool.false_eq_true, if_false]
  exact foldl_eq_of_step Device.power (fun d _ => placeLocal_power _ d) _ d

theorem leaveLow_power (d : Device) : (leaveLow d).power = { d.power with entering := none } := by
  unfold leaveLow
  dsimp only
  split_ifs <;> simp [standbyLeft_power, placeGroupsUp_power]

/-- Taking over the effective state changes nothing that announces a power failure. -/
theorem refreshEff_pwrFail (cause : Nat) (d : Device) : (refreshEff cause d).power.pwrFail = d.power.pwrFail := by
  unfold refreshEff
  dsimp only
  split_ifs <;> simp [enterLow_power, leaveLow_power]

end Sys2Proof.Machine
end

section
/-! SUPPORT. An announced power failure: a hold-up test stops, an entry is abandoned, a flush begins and ends (R46, R49, R556). -/

namespace Sys2Proof.Machine

/-! ## Values of the dictionary -/

/-- A value put leaves the others. -/
theorem odVal_odPut_other {idx sub i j : Nat} (v : Nat) (d : Device) (h : odKey i j 0 ≠ odKey idx sub 0) :
    odVal i j (odPut idx sub v d) = odVal i j d := odSel_odPutSel_other v d h

theorem Spoke.odVal {a b : Device} (h : Spoke a b) {idx sub : Nat} (hk : ¬ CountKey (odKey idx sub 0)) : odVal idx sub b = odVal idx sub a :=
  h.odSel hk

/-- But for OD 0x2010:0A and :0E no entry is one of the counters that sending steps. -/
theorem not_countKey {idx sub : Nat} (hs : sub < 256) (hn : ¬ (idx = 0x2010 ∧ (sub = 0x0A ∨ sub = 0x0E))) : ¬ CountKey (odKey idx sub 0) := by
  unfold CountKey odKey
  omega

theorem odVal_congr {a b : Device} (idx sub : Nat) (hd : b.dict = a.dict) (hn : b.nodeId = a.nodeId) : odVal idx sub b = odVal idx sub a := by
  unfold odVal odSel
  rw [hd, hn]

/-! ## The beginning of a flush -/

theorem beginFlush_power {d : Device} (h : d.power.flushing = none) :
    (beginFlush d).power = { d.power with flushing := some (d.map.flushNum + 1) } := by
  simp [beginFlush, h]

theorem beginFlush_flushNum {d : Device} (h : d.power.flushing = none) : (beginFlush d).map.flushNum = d.map.flushNum + 1 := by
  simp only [beginFlush, h, Option.isSome_none, Bool.false_eq_true, if_false]
  rfl

theorem beginFlush_count {d : Device} (h : d.power.flushing = none) :
    odVal 0x2A20 5 (beginFlush d) = min (odVal 0x2A20 5 d + 1) (odMax 0x2A20 5) := by
  simp only [beginFlush, h, Option.isSome_none, Bool.false_eq_true, if_false]
  exact odVal_odPut ..

theorem boardEntry_putEntry (n : Nat) (e : BoardEntry) (d : Device) : boardEntry n (putEntry n e d) = e := tblGetD_tblStore_same ..

theorem beginFlush_entry {d : Device} (h : d.power.flushing = none) :
    boardEntry 1 (beginFlush d) = firmwareEntry 0x02 0x0040 0 (d.time.counter + 1) true := by
  simp only [beginFlush, h, Option.isSome_none, Bool.false_eq_true, if_false]
  exact boardEntry_putEntry ..

/-! ## PWR_FAIL_N asserts -/

theorem testFailed_power (d : Device) : (testFailed d).power = d.power := rfl

theorem testFailed_result (d : Device) : odVal 0x2240 0x0A (testFailed d) = 4 := by
  unfold testFailed
  rw [(logEvent_spoke ..).odVal (not_countKey (by decide) (by decide)), odVal_odPut_other _ _ (by decide), odVal_odPut]

theorem testFailed_flushes (d : Device) : odVal 0x2A20 5 (testFailed d) = odVal 0x2A20 5 d := by
  unfold testFailed
  rw [(logEvent_spoke ..).odVal (not_countKey (by decide) (by decide)), odVal_odPut_other _ _ (by decide), odVal_odPut_other _ _ (by decide)]

/-- A hold-up test that is pending or runs has failed; without one, nothing changes. -/
def testStopped (d : Device) : Device :=
  if odVal 0x2240 0x0A d == 1 || odVal 0x2240 0x0A d == 2 then testFailed d else d

theorem testStopped_cases (d : Device) : testStopped d = testFailed d ∨ testStopped d = d := by
  unfold testStopped
  split_ifs
  · exact .inl rfl
  · exact .inr rfl

theorem testStopped_power (d : Device) : (testStopped d).power = d.power := by
  rcases testStopped_cases d with h | h <;> rw [h]
  exact testFailed_power d

theorem testStopped_map (d : Device) : (testStopped d).map = d.map := by
  rcases testStopped_cases d with h | h <;> rw [h]
  rfl

theorem testStopped_time (d : Device) : (testStopped d).time = d.time := by
  rcases testStopped_cases d with h | h <;> rw [h]
  rfl

theorem testStopped_flushes (d : Device) : odVal 0x2A20 5 (testStopped d) = odVal 0x2A20 5 d := by
  rcases testStopped_cases d with h | h <;> rw [h]
  exact testFailed_flushes d

theorem abandonEntry_idle {d : Device} (h : d.power.entering = none) : abandonEntry d = d := by
  simp [abandonEntry, h]

theorem abandonEntry_pwrFail (d : Device) : (abandonEntry d).power.pwrFail = d.power.pwrFail := by
  unfold abandonEntry
  dsimp only
  split_ifs
  · rfl
  · rw [refreshEff_pwrFail]
    rfl
  · rw [refreshEff_pwrFail]
    rfl

theorem isReady_iff {d : Device} : isReady d = true ↔ d.power.run = .ready := beq_iff_eq

/-- The device with PWR_FAIL_N asserted. -/
def announced (d : Device) : Device := { d with power := { d.power with pwrFail := true } }

/-- In a device that serves, a power failure stops a test, abandons an entry and begins a flush. -/
theorem powerFail_ready {d : Device} (hp : d.power.pwrFail = false) (hr : d.power.run = .ready) (hf : d.power.frozenAt = none) :
    powerFail d = beginFlush (abandonEntry (testStopped (announced d))) := by
  have hr' : isReady (announced d) = true := by simp [isReady, announced, hr]
  have hz : (announced d).power.frozenAt.isSome = false := by simp [announced, hf]
  have hg : (d.power.pwrFail || d.power.run == .unpowered) = false := by
    rw [hp, hr]
    rfl
  unfold powerFail
  rw [hg, if_neg Bool.false_ne_true]
  change (if (announced d).power.frozenAt.isSome = true then _ else if (!isReady (announced d)) = true then _ else _) = _
  rw [hz, hr', if_neg Bool.false_ne_true, if_neg (by decide)]
  rfl

/-- In a device that starts, sleeps or has halted, a power failure is only noted. -/
theorem powerFail_notReady {d : Device} (hp : d.power.pwrFail = false) (hr : d.power.run ≠ .ready) (hu : d.power.run ≠ .unpowered) :
    (powerFail d).power.pwrFail = true := by
  have hr' : (d.power.run == RunSt.ready) = false := beq_eq_false_iff_ne.2 hr
  have hu' : (d.power.run == RunSt.unpowered) = false := beq_eq_false_iff_ne.2 hu
  unfold powerFail
  simp only [hp, hu', isReady, hr', Bool.or_self, Bool.false_eq_true, if_false, Bool.not_false, if_true]
  split_ifs <;> rfl

/-! ## PWR_FAIL_N deasserts -/

/-- The device with PWR_FAIL_N deasserted: the failure is over, and no flush of it was cut. -/
def powerRestored (d : Device) : Device := { d with power := { d.power with pwrFail := false, flushCut := false } }

/-- When power is back work goes on, after a flush that runs. -/
theorem powerBack_announced {d : Device} (h : d.power.pwrFail = true) :
    powerBack d = if isReady d then (if d.power.flushing.isSome then powerRestored d else settle (powerRestored d)) else proceed (powerRestored d) := by
  unfold powerBack
  rw [h, Bool.not_true, if_neg Bool.false_ne_true]
  rfl

/-! ## The end of a flush -/

@[simp] theorem nextWriteSeq_power (m : MemberDesc) (d : Device) : (nextWriteSeq m d).power = d.power := rfl

theorem programGroup_power (d : Device) (group : List Bytes) : (programGroup d group).power = d.power := by
  unfold programGroup
  dsimp only
  refine foldl_eq_of_step Device.power (fun d x => ?_) _ _
  rw [emit_power, nextWriteSeq_power]

theorem programFlush_power (n : Nat) (rs : List FlushRecord) (d : Device) : (programFlush n rs d).power = d.power := by
  unfold programFlush
  dsimp only
  split_ifs <;> exact foldl_eq_of_step Device.power programGroup_power _ d

theorem ledgerRecord_eq (d : Device) : ∃ m, ledgerRecord d = { d with media := m } := by
  unfold ledgerRecord
  dsimp only
  split_ifs
  · exact ⟨d.media, rfl⟩
  · exact ⟨_, rfl⟩
  · exact ⟨_, rfl⟩

/-- At the end of a flush the ledger alone changes. -/
theorem ledgerClose_eq (d : Device) : ∃ m, ledgerClose d = { d with media := m } := by
  unfold ledgerClose
  split_ifs
  · exact ⟨d.media, rfl⟩
  · obtain ⟨m, h⟩ := ledgerRecord_eq { d with media := { d.media with lastPowered := minutes d } }
    exact ⟨m, h⟩

/-- The device when flush `n` has its marker, before what follows. -/
def flushMarked (n : Nat) (d : Device) : Device :=
  let d := flushWrite n (.complete (flushCount n d)) d
  let d := programFlush n ((d.map.flushItems.filter (·.flush == n)).map (·.body)) d
  let flushes := d.map.flushes.map fun f => if f.num == n then { f with complete := true } else f
  ledgerClose { d with map := { d.map with flushes := flushes }, power := { d.power with flushing := none } }

theorem flushMarked_power (n : Nat) (d : Device) : (flushMarked n d).power = { d.power with flushing := none } := by
  unfold flushMarked
  dsimp only
  obtain ⟨m, h⟩ := ledgerClose_eq { programFlush n _ (flushWrite n (.complete (flushCount n d)) d) with map := _, power := _ }
  rw [h]
  exact congrArg (fun p : PowerState => { p with flushing := none }) (programFlush_power ..)

theorem flushMarked_complete {n : Nat} {d : Device} {g : Flush} (hg : g ∈ (flushMarked n d).map.flushes) (hn : g.num = n) : g.complete = true := by
  unfold flushMarked at hg
  dsimp only at hg
  obtain ⟨m, h⟩ := ledgerClose_eq { programFlush n _ (flushWrite n (.complete (flushCount n d)) d) with map := _, power := _ }
  rw [h] at hg
  obtain ⟨f, -, rfl⟩ := List.mem_map.1 hg
  split_ifs at hn ⊢ with hf
  · rfl
  · exact absurd (beq_iff_eq.2 hn) hf

/-- A flush that runs gets its marker; what follows depends on the heat and on the power. -/
theorem flushEnd_running {n : Nat} {f : Flush} {d : Device} (h : d.power.flushing = some n) (hm : f ∈ d.map.flushes) (hn : f.num = n)
    (hc : f.complete = false) :
    flushEnd d = if d.power.hot then shutDown (flushMarked n d) else if d.power.pwrFail then flushMarked n d else settle (flushMarked n d) := by
  have ha : (d.map.flushes.any fun f => f.num == n && !f.complete) = true := List.any_eq_true.2 ⟨f, hm, by simp [hn, hc]⟩
  have hhot : (flushMarked n d).power.hot = d.power.hot := by rw [flushMarked_power]
  have hfail : (flushMarked n d).power.pwrFail = d.power.pwrFail := by rw [flushMarked_power]
  rw [← hhot, ← hfail]
  unfold flushEnd
  rw [h]
  dsimp only
  rw [ha, Bool.not_true, if_neg Bool.false_ne_true]
  rfl

/-! ## The release of a flush -/

/-- A completed flush whose keys and copies are durable is released by a record. -/
theorem flushRelease_settled {n : Nat} {f : Flush} {d : Device} (hf : d.map.flushes.find? (·.num == n) = some f) (hc : f.complete = true)
    (hr : f.released = false) (hw : releaseWritten n d = false)
    (hs : ∀ r ∈ f.roster, keyVersionDurable d r.1 r.2.1 r.2.2 = true ∧ ∀ e v m, keyEntry? r.1 r.2.1 d = some e →
      e.versions.find? (·.tick == r.2.2) = some v → manifestOf v.mseq d = some m → ∀ c ∈ m.chunks, copyDurable m.domain c.fp c.copy d = true) :
    flushRelease n d = journalRecord (.flushReleased n) d := by
  unfold flushRelease
  rw [hf]
  dsimp only
  rw [hc, hr, hw, Bool.not_false, Bool.true_and, Bool.true_and, Bool.and_true, if_pos]
  refine List.all_eq_true.2 fun r hm => ?_
  obtain ⟨hk, hcopies⟩ := hs r hm
  rw [hk, Bool.true_and]
  split
  · rfl
  next e he =>
    split
    · rfl
    next m hb =>
      obtain ⟨v, hv, hm⟩ := Option.bind_eq_some_iff.1 hb
      exact List.all_eq_true.2 (hcopies e v m he hv hm)

end Sys2Proof.Machine
end

section
/-! SUPPORT. Shelf power, heat, power domains and clocks (R166, R543, R552, R556, R558). -/

namespace Sys2Proof.Machine

/-! ## The hold-up input and its test -/

theorem le_waitUntil (t : Nat) (d : Device) : t ≤ (waitUntil t d).time.now := by
  rw [waitUntil_now]
  exact le_max_left _ _

/-- The device as it takes HOLDUP_OK over: `level` counts from now. -/
def holdupTaken (level : Bool) (d : Device) : Device :=
  { d with power := { d.power with holdupOk := level, holdupOkSince := if level then some d.time.now else none } }

theorem holdupTaken_time (level : Bool) (d : Device) : (holdupTaken level d).time = d.time := rfl

/-- A high level counts after 100 ms, a low one at once. -/
theorem holdupChange_new {level : Bool} {d : Device} (hu : d.power.run ≠ .unpowered) (hl : d.power.holdupOk ≠ level) :
    holdupChange level d = refreshDirty (holdupTaken level (if level then waitUntil (d.time.now + ms 100) d else d)) := by
  have hg : (d.power.run == .unpowered || d.power.holdupOk == level) = false := by simp [hu, hl]
  unfold holdupChange
  rw [hg, if_neg Bool.false_ne_true]
  rfl

theorem odVal_waitUntil (idx sub t : Nat) (d : Device) : odVal idx sub (waitUntil t d) = odVal idx sub d :=
  odVal_congr idx sub (waitUntil_dict t d) (waitUntil_nodeId t d)

theorem logEvent_odVal {code unit severity detail idx sub : Nat} {d : Device} (h : ¬ CountKey (odKey idx sub 0)) :
    odVal idx sub (logEvent code unit severity detail d) = odVal idx sub d := (logEvent_spoke ..).odVal h

theorem persist_odVal (idx sub : Nat) (d : Device) : odVal idx sub (persist d) = odVal idx sub d := by
  unfold persist
  dsimp only
  split_ifs <;> rfl

theorem persist_admin (d : Device) : (persist d).admin = d.admin := by
  unfold persist
  dsimp only
  split_ifs <;> rfl

theorem persist_time (d : Device) : (persist d).time = d.time := by
  unfold persist
  dsimp only
  split_ifs <;> rfl

/-- The device once its hold-up test has measured energy `e`. -/
def testPassed (e : Nat) (d : Device) : Device :=
  persist (logEvent 0x1205 0x0071 0 (e % 2 ^ 32) (odPut 0x2240 0x0B (tick d) (odPut 0x2240 0x0A 3 (odPut 0x2240 2 e d))))

theorem testPassed_result (e : Nat) (d : Device) : odVal 0x2240 0x0A (testPassed e d) = 3 := by
  unfold testPassed
  rw [persist_odVal, logEvent_odVal (not_countKey (by decide) (by decide)), odVal_odPut_other _ _ (by decide), odVal_odPut]

theorem testPassed_energy (e : Nat) (d : Device) : odVal 0x2240 2 (testPassed e d) = e := by
  unfold testPassed
  rw [persist_odVal, logEvent_odVal (not_countKey (by decide) (by decide)), odVal_odPut_other _ _ (by decide), odVal_odPut_other _ _ (by decide),
    odVal_odPut]

theorem testPassed_logged (e : Nat) (d : Device) : Logged 0x1205 0x0071 0 (e % 2 ^ 32) (testPassed e d) :=
  (logEvent_logged ..).of_admin (persist_admin _)

theorem testPassed_time (e : Nat) (d : Device) : (testPassed e d).time = d.time := persist_time _

/-- A pending test runs once the dirty data is within its limit: 11 ms later it has passed, or failed. -/
theorem testDischarge_due {va vb : Nat} {d : Device} (ht : odVal 0x2240 0x0A d = 1) (hd : dirtyBytes d ≤ d.power.dirtyLimit) :
    testDischarge va vb d = refreshDirty (if va < vb + 10 || vb < odVal 0x2240 9 d then testFailed (waitUntil (d.time.now + ms 11) d)
      else testPassed (testEnergy (odVal 0x2240 8 d) va vb (odVal 0x2240 9 d)) (waitUntil (d.time.now + ms 11) d)) := by
  have hg : (odVal 0x2240 0x0A d != 1 || decide (d.power.dirtyLimit < dirtyBytes d)) = false := by simp [ht, hd]
  unfold testDischarge testPassed
  rw [hg, if_neg Bool.false_ne_true]
  dsimp only
  rw [odVal_waitUntil, odVal_waitUntil]
  split_ifs <;> rfl

theorem testDischarge_passes {va vb : Nat} {d : Device} (ht : odVal 0x2240 0x0A d = 1) (hd : dirtyBytes d ≤ d.power.dirtyLimit)
    (hab : vb + 10 ≤ va) (hmin : odVal 0x2240 9 d ≤ vb) : testDischarge va vb d =
      refreshDirty (testPassed (testEnergy (odVal 0x2240 8 d) va vb (odVal 0x2240 9 d)) (waitUntil (d.time.now + ms 11) d)) := by
  rw [testDischarge_due ht hd, if_neg (by simp [hab, hmin])]

theorem testDischarge_fails {va vb : Nat} {d : Device} (ht : odVal 0x2240 0x0A d = 1) (hd : dirtyBytes d ≤ d.power.dirtyLimit)
    (hbad : va < vb + 10 ∨ vb < odVal 0x2240 9 d) :
    testDischarge va vb d = refreshDirty (testFailed (waitUntil (d.time.now + ms 11) d)) := by
  rw [testDischarge_due ht hd, if_pos (by simpa using hbad)]

/-! ## Power states -/

/-- The state that APST names for the present one, and the milliseconds of idle time before it (R175). -/
def apstEntry (d : Device) : Nat := odVal 0x2230 (2 + d.power.eff) d

/-- The device as APST reaches state `n`. -/
def apstReached (n : Nat) (d : Device) : Device := { d with power := { d.power with apst := n, idleSince := d.time.now } }

theorem apstReached_apst (n : Nat) (d : Device) : (apstReached n d).power.apst = n := rfl

theorem apstReached_time (n : Nat) (d : Device) : (apstReached n d).time = d.time := rfl

/-- An idle device takes the state that APST names once the time for it has passed. -/
theorem apstTransition_idle {d : Device} (hr : d.power.run = .ready) (ha : odVal 0x2230 1 d ≠ 0) (ht : bits (apstEntry d) 31 8 ≠ 0)
    (he : d.power.eff < 4) (hi : deviceIdle d = true) (hf : powerFailing d = false) :
    apstTransition d = refreshEff 1 (apstReached (bits (apstEntry d) 7 3) (waitUntil (d.power.idleSince + ms (bits (apstEntry d) 31 8)) d)) := by
  have hg : (!isReady d || odVal 0x2230 1 d == 0 || bits (apstEntry d) 31 8 == 0 || decide (4 ≤ d.power.eff) || !deviceIdle d || powerFailing d) =
      false := by simp [isReady, hr, ha, ht, he, hi, hf]
  unfold apstTransition
  rw [← apstEntry]
  dsimp only
  rw [hg, if_neg Bool.false_ne_true]
  rfl

/-- Once the device is quiet its units are gated, and the entry ends; into PS_4 it ends when every group is off. -/
theorem powerStateGate_quiet {n : Nat} {d : Device} (he : d.power.entering = some n) (hq : quiet d = true) (hf : powerFailing d = false) :
    powerStateGate d =
      let g := gateUnits n d
      if n ≠ 4 then { g with power := { g.power with entering := none } }
      else if (List.range 16).any fun k => domainOn k g then g
      else goDormant g := by
  unfold powerStateGate
  rw [he]
  simp [hq, hf]

/-! ## Shelf power -/

theorem dropVolatile_unsafeShutdowns (ao faults : Bool) (d : Device) :
    (dropVolatile ao faults d).admin.unsafeShutdowns = d.admin.unsafeShutdowns := by
  unfold dropVolatile
  dsimp only
  split_ifs
  · rw [persist_admin]
  · rfl

/-! ## Heat -/

/-- From `a` to `b` neither the power record nor a value of the dictionary changed, but for the counters of what is sent. -/
structure ValuesStay (a b : Device) : Prop where
  power : b.power = a.power
  odVal : ∀ idx sub, ¬ CountKey (odKey idx sub 0) → odVal idx sub b = odVal idx sub a

theorem ValuesStay.refl (a : Device) : ValuesStay a a := ⟨rfl, fun _ _ _ => rfl⟩

theorem ValuesStay.trans {a b c : Device} (h : ValuesStay a b) (k : ValuesStay b c) : ValuesStay a c :=
  ⟨k.power.trans h.power, fun i j hc => (k.odVal i j hc).trans (h.odVal i j hc)⟩

theorem Spoke.valuesStay {a b : Device} (h : Spoke a b) : ValuesStay a b := ⟨h.power, fun _ _ hc => h.odVal hc⟩

theorem ValuesStay.foldl {α : Type} {f : Device → α → Device} (hf : ∀ d x, ValuesStay d (f d x)) (l : List α) (d : Device) :
    ValuesStay d (l.foldl f d) := by
  induction l generalizing d with
  | nil => exact .refl d
  | cons x l ih => exact (hf d x).trans (ih _)

theorem aenUpdate_valuesStay (f : Assoc → Assoc × Option (QueueRef × CmdTag × Nat)) (d : Device) : ValuesStay d (aenUpdate f d) := by
  unfold aenUpdate
  refine .trans (b := { d with ports := { d.ports with assocs := (d.ports.assocs.map f).map (·.1) } }) ⟨rfl, fun _ _ _ => rfl⟩ ?_
  refine .foldl (fun d x => ?_) _ _
  split
  · exact (complete_spoke ⟨rfl, rfl⟩).valuesStay
  · exact .refl d

theorem refreshWarning_valuesStay (d : Device) : ValuesStay d (refreshWarning d) := by
  unfold refreshWarning
  refine .trans (b := { d with admin := { d.admin with criticalWarning := criticalWarning d } }) ⟨rfl, fun _ _ _ => rfl⟩ ?_
  refine .foldl (fun d n => ?_) _ _
  split_ifs
  · exact aenUpdate_valuesStay ..
  · exact .refl d

theorem clearEmcy_spoke (key event : Nat) (d : Device) : Spoke d (clearEmcy key event d) := by
  unfold clearEmcy
  dsimp only
  split_ifs
  · exact (can_spoke _ d).trans (sendEmcy_spoke ..)
  · exact can_spoke _ d
  · exact .refl d

/-- The temperature conditions follow the junction and the two thresholds. -/
theorem refreshTemps_valuesStay (d : Device) :
    let k := odSigned 2 (odVal 0x2010 3 d) * 10 + 27315
    ValuesStay { d with power := { d.power with
      overTemp := decide ((odVal 0x2010 0x0C d : Int) * 100 ≤ k), underTemp := decide (k < (odVal 0x2010 0x0D d : Int) * 100) } } (refreshTemps d) := by
  unfold refreshTemps
  dsimp only
  refine .trans (refreshWarning_valuesStay _) ?_
  split_ifs
  · exact (raiseEmcy_spoke ..).valuesStay
  · exact (clearEmcy_spoke ..).valuesStay
  · exact .refl _

theorem thermalShutdown_off {temp : Int} {d : Device} (hr : d.power.run = .unpowered ∨ d.power.run = .reset ∨ d.power.run = .halted) :
    thermalShutdown temp d = odPutInt 0x2010 3 2 temp d := by
  unfold thermalShutdown
  rcases hr with hr | hr | hr <;> rw [hr]

/-- A device that serves flushes before it shuts down. -/
theorem thermalShutdown_ready {temp : Int} {d : Device} (hr : d.power.run = .ready) : thermalShutdown temp d =
    beginFlush (abandonEntry (odPutInt 0x2010 3 2 temp { d with power := { d.power with hot := true } })) := by
  unfold thermalShutdown
  rw [hr]

theorem thermalShutdown_idle {temp : Int} {d : Device} (hr : d.power.run = .waitCore ∨ d.power.run = .starting ∨ d.power.run = .dormant) :
    thermalShutdown temp d = shutDown (odPutInt 0x2010 3 2 temp d) := by
  unfold thermalShutdown
  rcases hr with hr | hr | hr <;> rw [hr]

/-! ## Power domains -/

/-- An EMCY adds at most one event. -/
theorem sendEmcy_events (code event : Nat) (d : Device) :
    (sendEmcy code event d).admin.events = d.admin.events ∨ ∃ r, (sendEmcy code event d).admin.events = (r :: d.admin.events).take 4096 := by
  unfold sendEmcy logDrops
  dsimp only
  split_ifs
  · exact .inl rfl
  · exact .inl rfl
  · exact .inl rfl
  · exact .inr ⟨_, rfl⟩
  · exact .inl rfl

/-- The event that an EMCY follows stays in the log. -/
theorem raiseEmcy_logged (key ecode event code unit severity detail : Nat) (d : Device) :
    Logged code unit severity detail (raiseEmcy key ecode event (logEvent code unit severity detail d)) := by
  refine ⟨⟨tick d, d.admin.eventSeq + 1, code, unit, severity, detail % 2 ^ 64⟩, ?_, rfl, rfl, rfl, rfl⟩
  unfold raiseEmcy
  rcases sendEmcy_events ecode event { logEvent code unit severity detail d with can := _ } with h | ⟨r, h⟩ <;> rw [h]
  · exact List.mem_cons_self
  · exact List.mem_cons_of_mem _ List.mem_cons_self

theorem raiseEmcy_logEvent_odVal {key ecode event code unit severity detail idx sub : Nat} {d : Device} (h : ¬ CountKey (odKey idx sub 0)) :
    odVal idx sub (raiseEmcy key ecode event (logEvent code unit severity detail d)) = odVal idx sub d :=
  ((logEvent_spoke ..).trans (raiseEmcy_spoke ..)).odVal h

/-- The device with domain `n` faulty, off and out of standby, before what its fault brings about. -/
def domainLost (n : Nat) (d : Device) : Device :=
  raiseEmcy (0x120100 + n) 0xFF00 0x1201 <| logEvent 0x1201 0x0071 2 n <|
    setStandby n false (setDomain n false (odPut 0x2210 2 (setBit (odVal 0x2210 2 d) n true) d))

theorem domainLost_faulty (n : Nat) (d : Device) : domainFaulty n (domainLost n d) = true := by
  unfold domainFaulty domainLost setStandby setDomain
  rw [raiseEmcy_logEvent_odVal (not_countKey (by decide) (by decide)), odVal_odPut_other _ _ (by decide), odVal_odPut_other _ _ (by decide),
    odVal_odPut, bit_setBit_same]

theorem domainLost_off (n : Nat) (d : Device) : domainOn n (domainLost n d) = false := by
  unfold domainOn domainLost setStandby setDomain
  rw [raiseEmcy_logEvent_odVal (not_countKey (by decide) (by decide)), odVal_odPut_other _ _ (by decide), odVal_odPut, bit_setBit_same,
    Bool.false_and]

theorem domainLost_logged (n : Nat) (d : Device) : Logged 0x1201 0x0071 2 n (domainLost n d) := raiseEmcy_logged ..

theorem domainFault_first {n : Nat} {d : Device} (hn : n < 25) (hf : domainFaulty n d = false) (hu : isUp d = true) :
    domainFault n d = proceed (domainOutcome n (domainLost n d)) := by
  have hg : (decide (25 ≤ n) || domainFaulty n d || !isUp d) = false := by simp [hn, hf, hu]
  unfold domainFault
  rw [hg, if_neg Bool.false_ne_true]
  rfl

/-! ## The ports without their clock -/

theorem Spoke.link {a b : Device} (h : Spoke a b) (q : Nat) : (Machine.portOf q b).link = (Machine.portOf q a).link := by
  obtain ⟨_, _, _, _, he⟩ := h.portOf q
  rw [he]

theorem onPort_link (p q : Nat) (f : Port → Port) (d : Device) (hf : ∀ x, (f x).link = x.link) :
    (portOf q (onPort p f d)).link = (portOf q d).link := by
  rw [portOf_onPort]
  split_ifs
  · exact hf _
  · rfl

theorem powerPort_link (p q : Nat) (d : Device) : (portOf q (powerPort p d)).link = (portOf q d).link :=
  onPort_link p q _ d fun _ => rfl

/-- A port beyond the device's own reads as one without link. -/
theorem portOf_beyond {p : Nat} {d : Device} (h : ¬ p < d.ports.ports.length) : portOf p d = Reset.port := by
  unfold portOf
  rw [List.getD_eq_getElem?_getD, List.getElem?_eq_none (not_lt.1 h), Option.getD_none]

theorem setLink_zero (p q : Nat) (d : Device) : (portOf q (setLink p 0 d)).link = if q = p then 0 else (portOf q d).link := by
  change (portOf q (onPort p (fun x => { x with link := 0 }) d)).link = _
  rw [portOf_onPort]
  by_cases hq : q = p
  · by_cases hl : q < d.ports.ports.length
    · rw [if_pos ⟨hq, hl⟩, if_pos hq]
    · rw [if_neg fun h => hl h.2, if_pos hq, portOf_beyond hl]
      rfl
  · rw [if_neg fun h => hq h.1, if_neg hq]

theorem remoteLoss_power (n : Nat) (d : Device) : (remoteLoss n d).power = d.power := by
  unfold remoteLoss sessionTo
  dsimp only
  split_ifs <;> rfl

theorem remoteLoss_ports (n : Nat) (d : Device) : (remoteLoss n d).ports = d.ports := by
  unfold remoteLoss sessionTo
  dsimp only
  split_ifs <;> rfl

theorem portDown_power (p : Nat) (d : Device) : (portDown p d).power = d.power := by
  have hr := foldl_eq_of_step Device.power fun d n => remoteLoss_power n d
  unfold portDown
  dsimp only
  split_ifs
  · exact (macBump_spoke ..).power.trans ((hr _ _).trans (macBump_spoke ..).power)
  · exact (hr _ _).trans (macBump_spoke ..).power

/-- A port that goes down loses its link; the others keep theirs. -/
theorem portDown_link (p q : Nat) (d : Device) : (portOf q (portDown p d)).link = if q = p then 0 else (portOf q d).link := by
  have hr := foldl_eq_of_step (fun d => (portOf q d).link) (f := fun d n => remoteLoss n d) fun d n => by
    unfold portOf
    rw [remoteLoss_ports]
  have hl : ∀ n w, (portOf q (powerPort p (macBump p 0x0E n (setLink p 0 (onPort p (fun x => { x with
      pausedUntil := none, pfcUntil := List.replicate 8 none, txWait := w, pauseSent := false }) d))))).link =
      if q = p then 0 else (portOf q d).link := by
    intro n w
    rw [powerPort_link, (macBump_spoke ..).link, setLink_zero, onPort_link]
    exact fun _ => rfl
  unfold portDown
  dsimp only
  by_cases h : ((portOf p d).link == 2) = true
  · rw [if_pos h]
    exact ((macBump_spoke ..).link q).trans ((hr _ _).trans (hl _ _))
  · rw [if_neg h]
    exact (hr _ _).trans (hl _ _)

theorem portsDown_power (d : Device) : (portsDown d).power = d.power := foldl_eq_of_step Device.power (fun d p => portDown_power p d) _ d

/-- Each port of a list goes down, and stays down while the others do. -/
theorem foldl_portDown_link (l : List Nat) (q : Nat) (d : Device) :
    (portOf q (l.foldl (fun d p => portDown p d) d)).link = if q ∈ l then 0 else (portOf q d).link := by
  induction l generalizing d with
  | nil => rfl
  | cons p l ih =>
    rw [List.foldl_cons, ih, portDown_link]
    by_cases hq : q = p <;> by_cases hl : q ∈ l <;> simp [hq, hl]

theorem portsDown_link {q : Nat} (hq : q < 8) (d : Device) : (portOf q (portsDown d)).link = 0 :=
  (foldl_portDown_link _ q d).trans (if_pos (List.mem_range.2 hq))

end Sys2Proof.Machine
end

section
/-! SUPPORT. Power events (R46 to R49, R166, R175, R537 to R561). -/

namespace Sys2Proof.Machine

/-! ## Commands that a row gives in place -/

theorem exec_vddqDdrBelowFloor (s : State) : exec .vddqDdrBelowFloor s =
    next s fun d => if d.power.run == .dormant then { d with power := { d.power with vddqLow := true } } else d := rfl

theorem exec_temperatureThresholdCrossing (temp : Int) (s : State) : exec (.temperatureThresholdCrossing temp) s =
    next s fun d => if d.power.run == .unpowered then d else refreshTemps (odPutInt 0x2010 3 2 temp d) := rfl

theorem exec_sdclkLoss (s : State) : exec .sdclkLoss s =
    next s fun d => linkDown (portsDown { d with power := { d.power with sdclk := false } }) := rfl

theorem exec_refclkStop (s : State) : exec .refclkStop s =
    next s fun d => if d.power.run == .unpowered then { d with power := { d.power with refclk := false } }
      else alarmTrip 4 { d with power := { d.power with refclk := false, carried := none } } := rfl

/-- Settles O39: each command by the lemma of its own effect. -/
theorem powerEvents : Obligations.PowerEvents := by
  unfold Obligations.PowerEvents
  intro s
  refine ⟨?fails, ?noted, ?ends, ?back, ?release, ?holdup, ?test, ?apst, ?gate, ?floor, ?shelf, ?heat, ?domain, ?sdclk, ?refclkOff, ?refclk⟩
  case fails =>
    intro hp hr hz hf
    have hx := powerFail_ready hp hr hz
    have hpow := testStopped_power (announced s.dev)
    refine ⟨leads_of_eq (g := powerFail) rfl hx ?_, fun he => gives_of_eq (f := powerFail) rfl ?_⟩
    · rw [abandonEntry_pwrFail, hpow]
      rfl
    · have hflush : (testStopped (announced s.dev)).power.flushing = none := by rw [hpow]; exact hf
      rw [hx, abandonEntry_idle (by rw [hpow]; exact he), beginFlush_power hflush, beginFlush_flushNum hflush, beginFlush_count hflush,
        beginFlush_entry hflush, hpow, testStopped_map, testStopped_time, testStopped_flushes]
      exact ⟨rfl, rfl, rfl, rfl, rfl⟩
  case noted => exact fun hp hr hu => gives_of_eq (f := powerFail) rfl (powerFail_notReady hp hr hu)
  case ends =>
    intro n f hn hm hfn hc ends
    have hx := flushEnd_running hn hm hfn hc
    have hends : ends (flushMarked n s.dev) := ⟨by rw [flushMarked_power], fun g hg => flushMarked_complete hg⟩
    refine ⟨fun hh => ?_, fun hh hp => ?_, fun hh hp => ?_⟩
    · exact leads_of_eq (g := flushEnd) rfl (by rw [hx, hh, if_pos rfl]) hends
    · refine gives_of_eq (f := flushEnd) rfl ?_
      rwa [hx, hh, hp, if_neg Bool.false_ne_true, if_pos rfl]
    · exact leads_of_eq (g := flushEnd) rfl (by rw [hx, hh, hp, if_neg Bool.false_ne_true, if_neg Bool.false_ne_true]) hends
  case back =>
    intro hp u
    have hx := powerBack_announced hp
    refine ⟨fun hr hf => leads_of_eq (g := powerBack) rfl ?_ rfl, fun hr hf => gives_of_eq (f := powerBack) rfl ?_,
      fun hr => leads_of_eq (g := powerBack) rfl ?_ rfl⟩
    · rw [hx, if_pos (isReady_iff.2 hr), hf, Option.isSome_none, if_neg Bool.false_ne_true]
      rfl
    · rw [hx, if_pos (isReady_iff.2 hr), if_pos (Option.isSome_iff_ne_none.2 hf)]
      rfl
    · rw [hx, if_neg (mt isReady_iff.1 hr)]
      rfl
  case release => exact fun n f hf hc hr hw hs => leads_of_eq (g := flushRelease n) rfl (flushRelease_settled hf hc hr hw hs) rfl
  case holdup =>
    intro level hu hl
    refine leads_of_eq (g := holdupChange level) rfl (holdupChange_new hu hl) ?_
    refine ⟨rfl, fun h => ?_, fun h => ?_⟩
    · rw [h, if_pos rfl, holdupTaken_time]
      exact ⟨le_waitUntil _ _, rfl⟩
    · rw [h]
      rfl
  case test =>
    intro va vb ht hd
    refine ⟨fun hab hmin => leads_of_eq (g := testDischarge va vb) rfl (testDischarge_passes ht hd hab hmin) ?_,
      fun hbad => leads_of_eq (g := testDischarge va vb) rfl (testDischarge_fails ht hd hbad) ?_⟩
    · refine ⟨testPassed_result _ _, testPassed_energy _ _, testPassed_logged _ _, ?_⟩
      rw [testPassed_time]
      exact le_waitUntil _ _
    · rw [← odVal_waitUntil 0x2240 2 (s.dev.time.now + ms 11) s.dev]
      exact ⟨testFailed_result _, logEvent_logged ..⟩
  case apst =>
    intro e hr ha ht he hi hf
    refine leads_of_eq (g := apstTransition) rfl (apstTransition_idle hr ha ht he hi hf) ⟨apstReached_apst _ _, ?_⟩
    rw [apstReached_time]
    exact le_waitUntil _ _
  case gate =>
    intro n he hq hf
    have hx := powerStateGate_quiet he hq hf
    refine ⟨fun hn => gives_of_eq (f := powerStateGate) rfl ?_, fun hn hoff => leads_of_eq (g := powerStateGate) rfl ?_ rfl⟩
    · rw [hx, if_pos hn]
    · subst hn
      have hany : ((List.range 16).any fun k => domainOn k (gateUnits 4 s.dev)) = false :=
        List.any_eq_false.2 fun k hk => by rw [hoff k (List.mem_range.1 hk)]; exact Bool.false_ne_true
      rw [hx, if_neg (by decide), hany, if_neg Bool.false_ne_true]
  case floor =>
    intro hr
    refine gives_of_eq (exec_vddqDdrBelowFloor s) ?_
    rw [hr]
    rfl
  case shelf =>
    intro hu
    refine gives_of_eq (f := shelfPowerLoss) rfl ?_
    have hg : (s.dev.power.run == .unpowered) = false := beq_eq_false_iff_ne.2 hu
    unfold shelfPowerLoss
    rw [hg, if_neg Bool.false_ne_true]
    exact ⟨rfl, rfl, rfl, rfl, rfl, rfl, rfl, congrArg (· + _) (dropVolatile_unsafeShutdowns ..)⟩
  case heat =>
    intro temp u
    refine ⟨fun hr => gives_of_eq (f := thermalShutdown temp) rfl (thermalShutdown_off hr), fun hr hf he => gives_of_eq (f := thermalShutdown temp) rfl ?_,
      fun hr => leads_of_eq (g := thermalShutdown temp) rfl (thermalShutdown_idle hr) rfl,
      fun hr => gives_of_eq (exec_temperatureThresholdCrossing temp s) ?_⟩
    · rw [thermalShutdown_ready hr, abandonEntry_idle (by exact he), beginFlush_power (by exact hf)]
      exact ⟨rfl, rfl⟩
    · have hv := refreshTemps_valuesStay u
      have hg : (s.dev.power.run == .unpowered) = false := beq_eq_false_iff_ne.2 hr
      dsimp only at hv ⊢
      rw [hg, if_neg Bool.false_ne_true]
      change odVal 0x2010 3 (refreshTemps u) = _ ∧ _
      rw [hv.power, hv.odVal 0x2010 3 (not_countKey (by decide) (by decide))]
      have h12 : odVal 0x2010 0x0C u = odVal 0x2010 0x0C s.dev := odVal_odPut_other _ _ (by decide)
      have h13 : odVal 0x2010 0x0D u = odVal 0x2010 0x0D s.dev := odVal_odPut_other _ _ (by decide)
      rw [h12, h13]
      exact ⟨rfl, rfl, rfl⟩
  case domain =>
    exact fun n hn hf hu => leads_of_eq (g := domainFault n) rfl (domainFault_first hn hf hu)
      ⟨domainLost_faulty n _, domainLost_off n _, domainLost_logged n _⟩
  case sdclk =>
    refine leads_of_eq (exec_sdclkLoss s) rfl ⟨?_, fun p hp _ => portsDown_link hp _⟩
    rw [portsDown_power]
  case refclkOff =>
    intro hr
    refine gives_of_eq (exec_refclkStop s) ?_
    rw [hr]
    rfl
  case refclk =>
    intro hu
    refine leads_of_eq (exec_refclkStop s) ?_ rfl
    rw [beq_eq_false_iff_ne.2 hu, if_neg Bool.false_ne_true]

end Sys2Proof.Machine
end

section
/-! SUPPORT. Accesses of the dictionary: when a row takes effect, what its answer changes, and writes that do no more than store (R57 to
R63, R77, R89). -/

namespace Sys2Proof.Machine

/-! ## Answers -/

theorem sent_emit {a d : Device} {o : Output} (h : a.out <+: d.out) : Sent a (emit o d) o := by
  obtain ⟨u, hu⟩ := h
  rw [Sent, emit_out, ← hu, List.append_assoc, List.drop_left]
  exact List.mem_append_right _ (List.mem_singleton_self o)

/-- The device once the accessor's answer is out: the USDO transfer of a CAN FD client is over (R77). -/
def transferEnded (acc : Accessor) (d : Device) : Device :=
  match acc with
  | .can node => { d with can := { d.can with transfers := d.can.transfers.filter (·.node != node) } }
  | _ => d

theorem answer_ok (acc : Accessor) (idx sub : Nat) (data : Bytes) (n size : Nat) (d : Device) :
    answer (.accessor acc) idx sub .ok data n size d = emit (.od acc idx sub .ok data) (transferEnded acc d) := by
  cases acc <;> rfl

theorem transferEnded_eq (acc : Accessor) (d : Device) : ∃ can, transferEnded acc d = { d with can := can } := by
  cases acc <;> exact ⟨_, rfl⟩

theorem transferEnded_out (acc : Accessor) (d : Device) : (transferEnded acc d).out = d.out := by cases acc <;> rfl

theorem Gives.mono {c : Instr} {s : State} {P Q : Device → Prop} (h : Gives c s P) (hpq : ∀ t, P t → Q t) : Gives c s Q := by
  obtain ⟨t, ht, hp⟩ := h
  exact ⟨t, ht, hpq _ hp⟩

/-! ## Rows -/

theorem odRow_open {acc : Accessor} {need : Nat} {s : State} (h : WayOpen acc need s.dev) (idx sub : Nat) (f : Device → Device) :
    odRow acc idx sub need f s = next s f := by
  obtain ⟨ha, hw⟩ := h
  cases acc with
  | can node =>
    obtain ⟨he, ht⟩ := hw
    simp [odRow, next, ha, he, ht]
  | inband p =>
    obtain ⟨hl, hp, hn⟩ := hw
    simp only [odRow, next, ha, hl, hp, not_lt.2 hn, Bool.not_true, Bool.or_self, Bool.false_eq_true, if_false]
  | firmware c b => simp [odRow, next, ha]

/-- A write that is done is confirmed; `Q`: what holds of the device whatever it sends. -/
theorem gives_confirmed {c : Instr} {s : State} {acc : Accessor} {idx sub : Nat} {v : Bytes} {u : Device} {Q : Device → Prop}
    (hx : exec c s = writeRow acc idx sub v s) (hw : WayOpen acc 2 s.dev)
    (hd : odWrite acc (.accessor acc) idx sub v (endAssembly acc s.dev) = .done u) (ho : s.dev.out <+: u.out)
    (hq : ∀ can out, Q { u with can := can, out := out }) : Gives c s fun t => Q t ∧ Confirms acc idx sub s.dev t := by
  refine gives_of_eq (hx.trans (odRow_open hw ..)) ?_
  rw [hd, answerWrite, answer_ok]
  refine ⟨?_, sent_emit (by rwa [transferEnded_out])⟩
  obtain ⟨can, hc⟩ := transferEnded_eq acc u
  rw [hc]
  exact hq can _

theorem TakesWrite.wayOpen {acc : Accessor} {idx sub : Nat} {v : Bytes} {d : Device} (h : TakesWrite acc idx sub v d) : WayOpen acc 2 d := h.1

/-! ## Touching a session, ending an assembly -/

theorem touchIf_eq (acc : Accessor) (idx sub : Nat) (d : Device) :
    ∃ l, touchIf acc idx sub d = { d with dict := { d.dict with sessions := l } } := by
  unfold touchIf
  split_ifs
  · exact ⟨_, rfl⟩
  · exact ⟨_, rfl⟩

@[simp] theorem touchIf_out (acc : Accessor) (idx sub : Nat) (d : Device) : (touchIf acc idx sub d).out = d.out := by
  obtain ⟨l, h⟩ := touchIf_eq acc idx sub d
  rw [h]

@[simp] theorem noServingPeer_touchIf (acc : Accessor) (idx sub : Nat) (d : Device) :
    noServingPeer (touchIf acc idx sub d) = noServingPeer d := by
  unfold touchIf
  split_ifs <;> rfl

@[simp] theorem notStored_touchIf (acc : Accessor) (idx sub i j sel : Nat) (d : Device) :
    notStored i j sel (touchIf acc idx sub d) = notStored i j sel d := by
  unfold touchIf
  split_ifs <;> rfl

/-- The entry's checks do not depend on open assemblies. -/
theorem writeFailure_endAssembly (acc a : Accessor) (idx sub : Nat) (v : Bytes) (free : Bool) (d : Device) :
    writeFailure acc idx sub v (unitIdle idx sub (endAssembly a d)) free (endAssembly a d) =
      writeFailure acc idx sub v (unitIdle idx sub d) free d := rfl

theorem firmwareBarred_endAssembly (acc a : Accessor) (idx sub : Nat) (d : Device) :
    firmwareBarred acc idx sub (endAssembly a d) = firmwareBarred acc idx sub d := rfl

theorem touchIf_endAssembly (acc a : Accessor) (idx sub : Nat) (d : Device) :
    touchIf acc idx sub (endAssembly a d) = endAssembly a (touchIf acc idx sub d) := by
  unfold touchIf
  split_ifs <;> rfl

/-! ## Writes outside the windows -/

theorem stepCursor_unwindowed {acc : Accessor} {idx : Nat} {d : Device} (h : windowCount idx = none) : stepCursor acc idx d = d := by
  simp [stepCursor, h]

theorem stepAfter_unwindowed {acc : Accessor} {idx : Nat} (h : windowCount idx = none) (r : OdRes) : stepAfter acc idx r = r := by
  cases r with
  | fail c d => rfl
  | done d => rw [stepAfter, stepCursor_unwindowed h]
  | held d => rw [stepAfter, stepCursor_unwindowed h]

/-- A write that passes the common checks, of an entry without a window. -/
theorem odWrite_unwindowed {acc : Accessor} {r : ReplyTo} {idx sub : Nat} {v : Bytes} {d : Device} (hw : windowCount idx = none)
    (hf : writeFailure acc idx sub v (unitIdle idx sub d) (idx == 0x3220 && sub == 1) d = none) (hb : firmwareBarred acc idx sub d = false) :
    odWrite acc r idx sub v d = entryWrite acc r idx sub 0 v (touchIf acc idx sub d) := by
  unfold odWrite
  simp only [hf, hb, hw, selOf, stepAfter_unwindowed hw, Option.isSome_none, Option.any_none, Bool.and_false, Bool.false_and,
    Bool.false_eq_true, if_false]

/-- A write that is a command of its unit, of an entry without a window. -/
theorem odWrite_command {acc : Accessor} {idx sub : Nat} {v : Bytes} {d : Device} {r : ReplyTo} {x : OdRes} (h : TakesWrite acc idx sub v d)
    (hw : windowCount idx = none) (hx : commandWrite acc r idx sub (leNat v) v (touchIf acc idx sub (endAssembly acc d)) = some x) :
    odWrite acc r idx sub v (endAssembly acc d) = x := by
  obtain ⟨-, hb, hf⟩ := h
  refine (odWrite_unwindowed (d := endAssembly acc d) hw hf hb).trans ?_
  rw [entryWrite, hx]

/-! ## Writes that do no more than store -/

theorem persist_eq (d : Device) : ∃ a b, persist d = { d with dict := { d.dict with nvA := a, nvB := b } } := by
  unfold persist
  dsimp only
  split_ifs
  · exact ⟨_, _, rfl⟩
  · exact ⟨_, _, rfl⟩

/-- An entry of the value store without side effect takes its value, in the persistent area too where it is persistent. -/
theorem storeEntry_plain {idx sub : Nat} {v : Bytes} (h : ∀ x n, beforeStore idx sub n x = x ∧ afterStore idx sub n x = x) (d : Device) :
    ∃ a b, storeEntry idx sub 0 v d =
      { odPut idx sub (storedNumber idx sub v) d with dict := { (odPut idx sub (storedNumber idx sub v) d).dict with nvA := a, nvB := b } } := by
  unfold storeEntry
  simp only [(h _ _).1, (h _ _).2]
  split_ifs
  · exact persist_eq _
  · exact ⟨_, _, rfl⟩

theorem refusal_eq_entryCheck {idx : Nat} (h : idx ∉ [0x2E30, 0x2C10, 0x2600, 0x2B00, 0x3440, 0x2F28, 0x2F20, 0x2220]) (sub sel : Nat) (v : Bytes)
    (d : Device) : refusal idx sub sel v d = (entryCheck idx sub sel v d).map fun c => (c, d) := by
  simp only [List.mem_cons, List.not_mem_nil, or_false, not_or] at h
  obtain ⟨-, -, h2600, -, h3440, h2F28, h2F20, -⟩ := h
  simp [refusal, h2600, h3440, h2F28, h2F20]

theorem PlainWrite.endAssembly {acc : Accessor} {idx sub : Nat} {v : Bytes} {d : Device} (h : PlainWrite acc idx sub v d) (a : Accessor) :
    PlainWrite acc idx sub v (endAssembly a d) := by
  obtain ⟨hf, hb, hw, hc, hr, hs, hn, hi, hp⟩ := h
  refine ⟨hf, hb, hw, hc, ?_, hs, hn, hi, hp⟩
  rw [refusal_eq_entryCheck hi, Option.map_eq_none_iff] at hr ⊢
  rwa [touchIf_endAssembly]

/-- A plain write stores its value and is done. -/
theorem odWrite_plain {acc : Accessor} {idx sub : Nat} {v : Bytes} {d : Device} (h : PlainWrite acc idx sub v d) (r : ReplyTo) :
    odWrite acc r idx sub v d = .done (storeEntry idx sub 0 v (touchIf acc idx sub d)) := by
  obtain ⟨hf, hb, hw, hc, hr, hs, -, hi, hp⟩ := h
  have hp' : sharedIdx idx sub = true → sharedWay (touchIf acc idx sub d) = some 0 := fun hx => by
    rw [sharedWay, noServingPeer_touchIf, if_pos (hp hx)]
  have hs' : notStored idx sub 0 (touchIf acc idx sub d) = false := (notStored_touchIf ..).trans hs
  have hB20 : idx ≠ 0x2B20 := by
    rintro rfl
    exact absurd hw (by decide)
  simp only [List.mem_cons, List.not_mem_nil, or_false, not_or] at hi
  obtain ⟨h2E30, h2C10, h2600, h2B00, h3440, h2F28, h2F20, h2220⟩ := hi
  have happly : ∀ x, applyEntry idx sub 0 v x = storeEntry idx sub 0 v x := fun x => by simp [applyEntry, *]
  rw [odWrite_unwindowed hw hf hb, entryWrite, hc]
  simp only [hr, checkedWrite, hs', happly, beq_eq_false_iff_ne.2 h2E30, beq_eq_false_iff_ne.2 h2C10, beq_eq_false_iff_ne.2 h2600,
    beq_eq_false_iff_ne.2 h2B00, Bool.false_and, Bool.or_false, Bool.false_eq_true, if_false]
  split_ifs with hx
  · simp only [hp' hx]
  · rfl

/-- What a plain write leaves of the device: its own value, and all but the dictionary. -/
theorem odWrite_plain_eq {acc : Accessor} {idx sub : Nat} {v : Bytes} {d : Device} (h : PlainWrite acc idx sub v d) (r : ReplyTo) :
    ∃ x, odWrite acc r idx sub v d = .done { d with dict := x } ∧ x.cells = (odPut idx sub (storedNumber idx sub v) d).dict.cells := by
  obtain ⟨l, hl⟩ := touchIf_eq acc idx sub d
  obtain ⟨-, -, -, -, -, -, hn, -⟩ := id h
  obtain ⟨a, b, hs⟩ := storeEntry_plain (v := v) hn (touchIf acc idx sub d)
  rw [odWrite_plain h, hs, hl]
  exact ⟨_, rfl, rfl⟩

end Sys2Proof.Machine
end

section
/-! SUPPORT. Window cursors, challenges, secure sessions and their timers (R62, R69 to R72, R87 to R92). -/

namespace Sys2Proof.Machine

/-! ## Bytes -/

theorem leNat_leBytes (n v : Nat) : leNat (leBytes n v) = v % 256 ^ n := by
  induction n generalizing v with
  | zero => simp [leBytes, leNat, Nat.mod_one]
  | succ n ih =>
    rw [leBytes, leNat, ih, BitVec.toNat_ofNat, pow_succ' 256 n]
    exact Nat.mod_mul.symm

theorem leBytes_length (n v : Nat) : (leBytes n v).length = n := by
  induction n generalizing v with
  | zero => rfl
  | succ n ih => rw [leBytes, List.length_cons, ih]

theorem drawBytes_length (n : Nat) (d : Device) : (drawBytes n d).1.length = 8 * n := by
  induction n generalizing d with
  | zero => rfl
  | succ n ih =>
    rw [drawBytes, List.length_append, leBytes_length, ih]
    ring

/-! ## Reads -/

theorem odRead_out {acc : Accessor} {idx sub select : Nat} {d : Device} {r : Bytes × Device} (h : odRead acc idx sub select d = .ok r) :
    d.out <+: r.2.out := ((odRead_kept (.refl d)).out h).out

/-- A read that succeeds is answered with its value; `Q`: what holds of the device whatever it sends. -/
theorem gives_read {c : Instr} {s : State} {acc : Accessor} {idx sub need : Nat} {v : Bytes} {u : Device} {Q : Device → Prop}
    (hx : exec c s = odRow acc idx sub need (readRow acc idx sub) s) (hw : WayOpen acc need s.dev) (hr : odRead acc idx sub 0 s.dev = .ok (v, u))
    (hq : ∀ can out, Q { u with can := can, out := out }) : Gives c s fun t => Q t ∧ Sent s.dev t (.od acc idx sub .ok v) := by
  refine gives_of_eq (hx.trans (odRow_open hw ..)) ?_
  simp only [readRow, hr]
  rw [answer_ok]
  refine ⟨?_, sent_emit ?_⟩
  · obtain ⟨can, hc⟩ := transferEnded_eq acc u
    rw [hc]
    exact hq can _
  · rw [transferEnded_out]
    exact odRead_out hr

/-! ## Window cursors -/

/-- A cursor that has been set is the accessor's own in that window. -/
theorem cursorOf_setCursor (c : Cursor) (d : Device) : cursorOf c.acc c.win (setCursor c d) = c := by
  simp [cursorOf, setCursor]

theorem cursorOf_acc_win (acc : Accessor) (win : Nat) (d : Device) : (cursorOf acc win d).acc = acc ∧ (cursorOf acc win d).win = win := by
  unfold cursorOf
  cases h : d.dict.cursors.find? fun c => c.acc == acc && c.win == win with
  | none => exact ⟨rfl, rfl⟩
  | some c => simpa using List.find?_some h

@[simp] theorem cursorOf_touchIf (acc a : Accessor) (win idx sub : Nat) (d : Device) :
    cursorOf acc win (touchIf a idx sub d) = cursorOf acc win d := by
  unfold touchIf
  split_ifs <;> rfl

/-- A write of a window's entry other than its record moves the cursor. -/
theorem odWrite_cursor {acc : Accessor} {idx sub : Nat} {v : Bytes} {d : Device} (h : TakesWrite acc idx sub v d) (hw : (windowCount idx).isSome)
    (hs : sub ≠ 2) (r : ReplyTo) :
    odWrite acc r idx sub v (endAssembly acc d) = cursorWrite acc idx sub (leNat v) (touchIf acc idx sub (endAssembly acc d)) := by
  obtain ⟨-, hb, hf⟩ := h
  have hf' := (writeFailure_endAssembly acc acc idx sub v (idx == 0x3220 && sub == 1) d).trans hf
  have hb' := (firmwareBarred_endAssembly acc acc idx sub d).trans hb
  simp [odWrite, hf', hb', hw, hs]

theorem cursorWrite_select {acc : Accessor} {win v count : Nat} {d : Device} (hw : windowCount win = some count) (hv : v < count) :
    cursorWrite acc win 1 v d = .done (setCursor { cursorOf acc win d with select := v } d) := by
  simp [cursorWrite, hw, not_le.2 hv]

/-- A read of the record that the cursor selects. -/
theorem odRead_record {acc : Accessor} {idx count : Nat} {d : Device} (hf : readFailure acc idx 2 d = none) (hw : windowCount idx = some count)
    (hs : (cursorOf acc idx d).select < count) : odRead acc idx 2 0 d =
      .ok (odCurrent acc idx 2 (cursorOf acc idx d).select (touchIf acc idx 2 d), afterRead acc idx 2 (touchIf acc idx 2 d)) := by
  simp [odRead, hf, selOf, hw, hs]

/-! ## Sessions -/

theorem setWayLock_eq (way : Nat) (l : WayLock) (d : Device) :
    ∃ x y, setWayLock way l d = { d with dict := { d.dict with lockCan := x, lockBand := y } } := by
  unfold setWayLock
  split_ifs
  · exact ⟨_, _, rfl⟩
  · exact ⟨_, _, rfl⟩

theorem wayLock_setWayLock (way : Nat) (l : WayLock) (d : Device) : wayLock way (setWayLock way l d) = l := by
  unfold wayLock setWayLock
  split_ifs <;> rfl

@[simp] theorem closeSession_time (acc : Accessor) (d : Device) : (closeSession acc d).time = d.time := rfl

@[simp] theorem endAssembly_time (acc : Accessor) (d : Device) : (endAssembly acc d).time = d.time := rfl

/-- The device without the accessor's challenge. -/
def challengeEnded (acc : Accessor) (d : Device) : Device :=
  { d with dict := { d.dict with challenges := d.dict.challenges.filter (·.acc != acc) } }

@[simp] theorem challengeEnded_time (acc : Accessor) (d : Device) : (challengeEnded acc d).time = d.time := rfl

/-- An owner key that verifies a signature stands in a valid record. -/
theorem anyValid_of_ownerVerifies {digest sig : Bytes} {d : Device} {n : Nat} (h : ownerVerifies digest sig d = some n) :
    (d.sec.owners.any fun o => o.st == .valid) = true := by
  obtain ⟨x, hx, -⟩ := Option.map_eq_some_iff.1 h
  have hp := List.find?_some hx
  rw [Bool.and_eq_true] at hp
  exact List.any_eq_true.2 ⟨x.1, (List.mem_zipIdx' (List.mem_of_find?_eq_some hx)).2 ▸ List.getElem_mem _, hp.1⟩

/-- The device once a response has opened a session under owner record `n`. -/
def sessionOpened (acc : Accessor) (n : Nat) (d : Device) : Device :=
  sessionEvent 1 n (wayOf acc) (setWayLock (wayOf acc) ⟨0, none⟩ { d with dict := { d.dict with
    challenges := d.dict.challenges.filter (·.acc != acc), sessions := ⟨acc, d.time.now, n⟩ :: d.dict.sessions.filter (·.acc != acc) } })

/-- A response in time, on a way that is not locked, that an owner key verifies. -/
theorem sessionResponse_opens {acc : Accessor} {sig : Bytes} {d : Device} {c : Challenge} {n : Nat} (hw : wayOf acc ≠ 0)
    (hl : (wayLock (wayOf acc) d).until? = none) (ht : canTaken acc d = false) (hc : d.dict.challenges.find? (fun x => x.acc == acc) = some c)
    (hr : d.time.now ≤ c.readAt + sec 30) (ho : ownerVerifies (sessionDigest acc c.value) sig d = some n) :
    sessionResponse acc sig d = .done (sessionOpened acc n d) := by
  have ht' : canTaken acc { d with dict := { d.dict with challenges := d.dict.challenges.filter (·.acc != acc) } } = false := ht
  have ho' : ownerVerifies (sessionDigest acc c.value) sig { d with dict := { d.dict with challenges := d.dict.challenges.filter (·.acc != acc) } } =
    some n := ho
  unfold sessionResponse
  simp only [hl, anyValid_of_ownerVerifies ho, hc, ht', ho', not_lt.2 hr, beq_eq_false_iff_ne.2 hw, Option.isSome_none, Bool.or_self, Bool.not_true,
    Bool.false_eq_true, if_false]
  rfl

theorem sessionOpened_eq (acc : Accessor) (n : Nat) (d : Device) :
    ∃ (x : DictState) (ad : AdminState), sessionOpened acc n d = { d with dict := x, admin := ad } ∧
    x.sessions = ⟨acc, d.time.now, n⟩ :: d.dict.sessions.filter (·.acc != acc) ∧ x.challenges = d.dict.challenges.filter (·.acc != acc) := by
  unfold sessionOpened
  obtain ⟨a, b, h⟩ := setWayLock_eq (wayOf acc) ⟨0, none⟩ { d with dict := { d.dict with
    challenges := d.dict.challenges.filter (·.acc != acc), sessions := ⟨acc, d.time.now, n⟩ :: d.dict.sessions.filter (·.acc != acc) } }
  rw [h]
  exact ⟨_, _, rfl, rfl, rfl⟩

/-- Settles O11: writes by `gives_confirmed`, reads by `gives_read`; a timer moves the clock to the end that it finds and takes away what
ended. -/
theorem sessionsAndWindows : Obligations.SessionsAndWindows := by
  unfold Obligations.SessionsAndWindows
  intro s acc idx sub
  refine ⟨?plain, ?select, ?record, ?challenge, ?response, ?close, ?restore, ?idle, ?lockout, ?lapse, ?assembly⟩
  case plain =>
    intro v hw hp
    obtain ⟨x, hx, hc⟩ := odWrite_plain_eq (hp.endAssembly acc) (.accessor acc)
    refine gives_confirmed rfl hw hx List.prefix_rfl fun can out => ?_
    show tblGetD x.cells _ _ = _
    rw [hc]
    exact odVal_odPut ..
  case select =>
    intro n count hw hn hb ht
    have hv : leNat (leBytes 4 n) = n := by rw [leNat_leBytes, Nat.mod_eq_of_lt (by omega)]
    have hd := odWrite_cursor ht (by rw [hw]; rfl) (by decide) (.accessor acc)
    rw [hv, cursorWrite_select hw hn] at hd
    obtain ⟨ha, hi⟩ := cursorOf_acc_win acc idx s.dev
    have hcur : cursorOf acc idx (touchIf acc idx 1 (endAssembly acc s.dev)) = cursorOf acc idx s.dev := cursorOf_touchIf ..
    refine (gives_confirmed (Q := fun t => cursorOf acc idx t = { cursorOf acc idx s.dev with select := n }) rfl ht.wayOpen hd
      (by simp [setCursor, endAssembly]) fun can out => ?_).mono fun t ⟨hq, hc⟩ => ⟨by rw [hq], by rw [hq], hc⟩
    rw [hcur]
    have := cursorOf_setCursor { cursorOf acc idx s.dev with select := n } (touchIf acc idx 1 (endAssembly acc s.dev))
    rwa [ha, hi] at this
  case record =>
    intro count hw hs ht
    exact (gives_read (Q := fun _ => True) rfl ht.1 (odRead_record ht.2 hw hs) fun _ _ => trivial).mono fun t h => h.2
  case challenge =>
    intro ht ha hc
    have hr : odRead acc 0x3210 1 0 s.dev = challengeRead acc s.dev := by
      simp [odRead, ht.2, selOf, show touchIf acc 0x3210 1 s.dev = s.dev from rfl]
    simp only [challengeRead, beq_eq_false_iff_ne.2 ha, hc, Bool.or_self, Bool.false_eq_true, if_false] at hr
    refine (gives_read (Q := fun t => (⟨acc, (drawBytes 4 s.dev).1, s.dev.time.now⟩ : Challenge) ∈ t.dict.challenges) rfl ht.1 hr
      fun _ _ => List.mem_cons_self).mono fun t ⟨hm, hs⟩ => ⟨_, drawBytes_length 4 s.dev, hs, _, hm, rfl⟩
  case response =>
    intro sig c n ht hw hl hc hf hr ho
    have hx := odWrite_command (r := .accessor acc) ht (by decide) 
      (congrArg some (sessionResponse_opens (d := endAssembly acc s.dev) hw hl hc hf hr ho))
    obtain ⟨x, ad, he, hse, hch⟩ := sessionOpened_eq acc n (endAssembly acc s.dev)
    refine (gives_confirmed (Q := fun t => t.dict = x) rfl ht.wayOpen hx (he ▸ List.prefix_rfl) fun _ _ => by rw [he]).mono fun t ⟨hq, hk⟩ => ?_
    rw [hq, hse, hch]
    exact ⟨List.mem_cons_self, fun y hy => by simpa using (List.mem_filter.1 hy).2, hk⟩
  case close =>
    intro ht
    refine gives_confirmed rfl ht.wayOpen (odWrite_command ht (by decide) rfl) List.prefix_rfl fun _ _ y hy => ?_
    simpa using (List.mem_filter.1 hy).2
  case restore =>
    intro ht
    exact gives_confirmed rfl ht.wayOpen (odWrite_command ht (by decide) rfl) List.prefix_rfl fun _ _ => rfl
  case idle =>
    intro x hx
    refine gives_of_eq (f := fun d => closeSession acc (waitUntil (x.last + sec (odVal 0x3210 4 d)) d))
      (by simp only [exec, execSessionIdleTimeout, next, hx]) ⟨?_, fun y hy => by simpa using (List.mem_filter.1 hy).2⟩
    rw [closeSession_time]
    exact le_waitUntil _ _
  case lockout =>
    intro inband t0 ht
    refine ⟨_, rfl, ?_⟩
    simp only [ht]
    obtain ⟨x, y, he⟩ := setWayLock_eq (if inband then 2 else 1) ⟨0, none⟩ (waitUntil t0 s.dev)
    exact ⟨by rw [he]; exact le_waitUntil _ _, wayLock_setWayLock ..⟩
  case lapse =>
    intro c hc
    refine gives_of_eq (f := fun d => challengeEnded acc (waitUntil (c.readAt + sec 30) d)) (by
      simp only [exec, execChallengeExpiry, next, hc]
      rfl) ⟨?_, fun y hy => by simpa using (List.mem_filter.1 hy).2⟩
    rw [challengeEnded_time]
    exact le_waitUntil _ _
  case assembly =>
    intro a ha
    refine gives_of_eq (f := fun d => endAssembly acc (waitUntil (a.last + sec 10) d)) (by
      simp only [exec, execAssemblyTimeout, next, ha]
      rfl) ⟨?_, fun y hy => by simpa using (List.mem_filter.1 hy).2⟩
    rw [endAssembly_time]
    exact le_waitUntil _ _

end Sys2Proof.Machine
end

section
/-! SUPPORT. CAN FD: NMT, heartbeats, EMCYs, TPDOs and USDO transfers (R73 to R81). -/

namespace Sys2Proof.Machine

/-! ## EMCYs leave the heartbeat's state -/

/-- From `a` to `b` what the device knows of the heartbeat that it watches stays, and so does the clock. -/
structure HeartbeatStays (a b : Device) : Prop where
  timeout : b.can.heartbeatTimeout = a.can.heartbeatTimeout
  last : b.can.lastHeartbeat = a.can.lastHeartbeat
  time : b.time = a.time

theorem sendEmcy_heartbeatStays (code event : Nat) (d : Device) : HeartbeatStays d (sendEmcy code event d) := by
  unfold sendEmcy logDrops
  dsimp only
  split_ifs <;> exact ⟨rfl, rfl, rfl⟩

theorem clearEmcy_heartbeatStays (key event : Nat) (d : Device) : HeartbeatStays d (clearEmcy key event d) := by
  unfold clearEmcy
  dsimp only
  split_ifs
  · obtain ⟨h1, h2, h3⟩ := sendEmcy_heartbeatStays 0 event { d with can := { d.can with conditions := d.can.conditions.filter (· != key) } }
    exact ⟨h1, h2, h3⟩
  · exact ⟨rfl, rfl, rfl⟩
  · exact ⟨rfl, rfl, rfl⟩

theorem raiseEmcy_heartbeatStays (key code event : Nat) (d : Device) : HeartbeatStays d (raiseEmcy key code event d) := by
  obtain ⟨h1, h2, h3⟩ := sendEmcy_heartbeatStays code event { d with can := { d.can with
    conditions := if d.can.conditions.contains key then d.can.conditions else key :: d.can.conditions } }
  exact ⟨h1, h2, h3⟩

/-! ## NMT (R74 to R76) -/

theorem nmtCommand_mine {node : Nat} {s : State} (ha : dictAnswers s.dev = true) (hs : s.dev.can.nmt ≠ .silent)
    (hm : node = 0 ∨ node = s.dev.nodeId) (f : Device → Device) : nmtCommand node f s = next s f := by
  have hm' : (node == 0 || node == s.dev.nodeId) = true := by simpa using hm
  simp only [nmtCommand, next, ha, bne_iff_ne.2 hs, hm', Bool.and_self, if_true]

/-- What both resets leave: no CAN session, no transfer, and the boot-up message sent. -/
theorem resetCommunication_booted (d : Device) : let t := resetCommunication d
    t.can.nmt = .preOperational ∧ t.can.transfers = [] ∧ Sent d t (.can .bootUp) ∧ (∀ x ∈ t.dict.sessions, wayOf x.acc ≠ 1) ∧
      t.can.nominalRate = odVal 0x2000 6 t ∧ t.can.dataRate = odVal 0x2000 7 t := by
  refine ⟨rfl, rfl, sent_emit List.prefix_rfl, fun x hx => ?_, rfl, rfl⟩
  simpa using (List.mem_filter.1 hx).2

/-! ## EMCYs (R79, R80) -/

theorem logDrops_sent (d : Device) : (logDrops d).out = d.out ∧ (logDrops d).can.held = d.can.held ∧ (logDrops d).time = d.time := by
  unfold logDrops
  dsimp only
  split_ifs
  · exact ⟨rfl, rfl, rfl⟩
  · exact ⟨rfl, rfl, rfl⟩

/-- The error register does not depend on the clock. -/
theorem errorRegister_waitUntil (t : Nat) (d : Device) : errorRegister (waitUntil t d) = errorRegister d := by
  simp only [errorRegister, waitUntil_can, waitUntil_power, waitUntil_sec, waitUntil_fans, waitUntil_conditions]

/-- An EMCY that nothing holds back goes out at once. -/
theorem sendEmcy_now {code event : Nat} {d : Device} (ha : emcyActive d = true) (hp : bit (odVal 0x1014 0 d) 31 = false)
    (hh : d.can.held = []) (hi : d.can.inhibitUntil ≤ d.time.now) : sendEmcy code event d = transmitEmcy ⟨code, event, tick d⟩ d := by
  simp [sendEmcy, ha, hp, hh, hi]

/-- The device once the first EMCY held, `e`, is out and `rest` are held. -/
def heldEmcySent (e : Emcy) (rest : List Emcy) (d : Device) : Device := transmitEmcy e { d with can := { d.can with held := rest } }

theorem heldEmcySent_out (e : Emcy) (rest : List Emcy) (d : Device) :
    (heldEmcySent e rest d).out = d.out ++ [.can (.emcy e.code (errorRegister d) e.event (e.tick % 2 ^ 32))] := rfl

theorem heldEmcySent_time (e : Emcy) (rest : List Emcy) (d : Device) : (heldEmcySent e rest d).time = d.time := rfl

/-! ## Heartbeats (R78) -/

/-- The device once its heartbeat is out. -/
def heartbeatSent (d : Device) : Device :=
  emit (.can (.heartbeat (nmtCode d.can.nmt))) { d with can := { d.can with heartbeatSent := d.time.now } }

theorem heartbeatSent_out (d : Device) : (heartbeatSent d).out = d.out ++ [.can (.heartbeat (nmtCode d.can.nmt))] := rfl

theorem heartbeatSent_time (d : Device) : (heartbeatSent d).time = d.time := rfl

theorem heartbeatSent_noted (d : Device) : (heartbeatSent d).can.heartbeatSent = (heartbeatSent d).time.now := rfl

/-- The device once the heartbeat of the node that it watches has come. -/
def heartbeatReceived (node : Nat) (d : Device) : Device :=
  let t := { d with can := { d.can with lastHeartbeat := d.time.now, heartbeatTimeout := false } }
  if d.can.heartbeatTimeout then clearEmcy heartbeatKey 0x0304 (logEvent 0x0304 0x0070 0 (node * 65536) t) else t

theorem heartbeatReceived_clears (node : Nat) (d : Device) :
    (heartbeatReceived node d).can.heartbeatTimeout = false ∧ (heartbeatReceived node d).can.lastHeartbeat = d.time.now := by
  unfold heartbeatReceived
  dsimp only
  split_ifs
  · obtain ⟨h1, h2, -⟩ := clearEmcy_heartbeatStays heartbeatKey 0x0304
      (logEvent 0x0304 0x0070 0 (node * 65536) { d with can := { d.can with lastHeartbeat := d.time.now, heartbeatTimeout := false } })
    exact ⟨h1, h2⟩
  · exact ⟨rfl, rfl⟩

/-- The device once it misses the heartbeat of the node that it watches. -/
def heartbeatMissed (d : Device) : Device :=
  raiseEmcy heartbeatKey 0x8130 0x0303 <|
    logEvent 0x0303 0x0070 2 (watchedNode d * 65536 + watchedTime d) { d with can := { d.can with heartbeatTimeout := true } }

theorem heartbeatMissed_noted (d : Device) : (heartbeatMissed d).can.heartbeatTimeout = true ∧ (heartbeatMissed d).time = d.time ∧
    ∃ e ∈ (heartbeatMissed d).admin.events, e.code = 0x0303 := by
  let u := { d with can := { d.can with heartbeatTimeout := true } }
  obtain ⟨h1, -, h3⟩ := raiseEmcy_heartbeatStays heartbeatKey 0x8130 0x0303 (logEvent 0x0303 0x0070 2 (watchedNode d * 65536 + watchedTime d) u)
  obtain ⟨e, he, hc, -⟩ := raiseEmcy_logged heartbeatKey 0x8130 0x0303 0x0303 0x0070 2 (watchedNode d * 65536 + watchedTime d) u
  exact ⟨h1, h3, e, he, hc⟩

/-! ## TPDOs (R81) -/

theorem tpdoOn_bounds {n : Nat} {d : Device} (h : tpdoOn n d = true) : 1 ≤ n ∧ n ≤ 4 := by
  simp only [tpdoOn, Bool.and_eq_true, decide_eq_true_eq] at h
  exact ⟨h.1.1.1.1, h.1.1.1.2⟩

/-- A TPDO that is sent carries its mapped values, and is noted with them and the time. -/
theorem sendTpdo_sent {n : Nat} {a d : Device} (h1 : 1 ≤ n) (h4 : n ≤ 4) (hl : d.can.tpdoSent.length = 4) (ho : a.out <+: d.out) :
    ∃ v, Sent a (sendTpdo n d) (.can (.tpdo n v)) ∧ (sendTpdo n d).can.tpdoSent.getD (n - 1) ([], 0) = (v, (sendTpdo n d).time.now) := by
  refine ⟨tpdoData n d, sent_emit ho, ?_⟩
  have hn : n - 1 < d.can.tpdoSent.length := by omega
  simp [sendTpdo, List.getD_eq_getElem?_getD, hn]

theorem sendTpdo_time (n : Nat) (d : Device) : (sendTpdo n d).time = d.time := rfl

/-! ## USDO (R77) -/

theorem wayOpen_can {node need : Nat} {d : Device} (ha : dictAnswers d = true) (he : emcyActive d = true) (ht : transfersFull node d = false) :
    WayOpen (.can node) need d := ⟨ha, he, ht⟩

/-- The value is not a DOMAIN longer than USDO carries. -/
theorem usdo_carries {idx sub : Nat} {v : Bytes} (h : isDomain idx sub = true → v.length ≤ 2 ^ 24) :
    (isDomain idx sub && decide (usdoMax < v.length)) = false := by
  cases hd : isDomain idx sub with
  | false => rfl
  | true => exact decide_eq_false (not_lt.2 (h hd))

/-- Settles O10: NMT by `nmtCommand_mine`, heartbeats and EMCYs by what sending an EMCY leaves, TPDOs by `sendTpdo_sent`, USDO by the
dictionary's own rows. -/
theorem canCommands : Obligations.CanCommands := by
  unfold Obligations.CanCommands
  intro s node n idx sub
  refine ⟨rfl, fun ha hs => ⟨fun hm => ?nmt, ?produce, ?receive, ?timeout⟩, fun ha b => ?passive,
    fun he => ⟨?unsupported, ?segment, ?inhibit, ?overrun⟩,
    fun hn hl => ⟨?timer, ?change⟩, fun ha he ht => ⟨?upload, ?download⟩⟩
  case nmt =>
    exact ⟨nmtCommand_mine ha hs hm _, nmtCommand_mine ha hs hm _, nmtCommand_mine ha hs hm _,
      gives_of_eq (nmtCommand_mine ha hs hm _) (resetCommunication_booted s.dev),
      gives_of_eq (nmtCommand_mine ha hs hm _) (resetCommunication_booted s.dev)⟩
  case produce =>
    intro ht
    refine gives_of_eq (f := fun d => heartbeatSent (waitUntil (d.can.heartbeatSent + ms (odVal 0x1017 0 d)) d)) ?_
      ⟨?_, heartbeatSent_noted _, ?_⟩
    · simp [exec, execHeartbeatProduce, next, ha, hs, ht, heartbeatSent]
    · rw [heartbeatSent_time]
      exact le_waitUntil _ _
    · rw [heartbeatSent_out, waitUntil_out, waitUntil_can]
  case receive =>
    intro ht
    refine gives_of_eq (f := heartbeatReceived (watchedNode s.dev)) ?_ ?_
    · simp [exec, execHeartbeatConsumerReceive, next, ha, hs, ht, heartbeatReceived]
    · exact heartbeatReceived_clears _ _
  case timeout =>
    intro ht hf
    refine gives_of_eq (f := fun d => heartbeatMissed (waitUntil (d.can.lastHeartbeat + ms (watchedTime d)) d)) ?_ ?_
    · simp [exec, execHeartbeatConsumerTimeout, next, ha, hs, ht, hf, heartbeatMissed]
    · obtain ⟨h1, h2, h3⟩ := heartbeatMissed_noted (waitUntil (s.dev.can.lastHeartbeat + ms (watchedTime s.dev)) s.dev)
      refine ⟨h1, ?_, h3⟩
      rw [h2]
      exact le_waitUntil _ _
  case passive => simp [exec, execCanErrorPassive, next, ha]
  case unsupported => simp [exec, execUsdoUnsupportedRequest, next, he, emit]
  case segment =>
    intro ht
    refine gives_of_eq (f := fun d => emit (.can (.usdoAbort node 0x05040000)) (waitUntil (d.time.now + sec 1) d)) ?_ ⟨?_, ?_⟩
    · simp [exec, execUsdoSegmentTimeout, next, he, ht]
    · rw [emit_out, waitUntil_out]
    · rw [emit_time, waitUntil_now, max_eq_left (Nat.le_add_right ..)]
  case inhibit =>
    intro e rest hh
    refine gives_of_eq (f := fun d => logDrops (heldEmcySent e rest (waitUntil d.can.inhibitUntil d))) ?_ ?_
    · simp [exec, execEmcyInhibitExpiry, next, he, hh, heldEmcySent]
    · obtain ⟨ho, hc, ht⟩ := logDrops_sent (heldEmcySent e rest (waitUntil s.dev.can.inhibitUntil s.dev))
      refine ⟨?_, hc, ?_⟩
      · rw [ht, heldEmcySent_time]
        exact le_waitUntil _ _
      · rw [Sent, ho, heldEmcySent_out, waitUntil_out, errorRegister_waitUntil, List.drop_left]
        exact List.mem_singleton_self _
  case overrun =>
    intro ha hp hh hi
    refine gives_of_eq (f := sendEmcy 0x8110 (Config.overrunEvent % 65536)) ?_ ?_
    · simp [exec, execCanReceiveOverrun, next, ha]
    · rw [sendEmcy_now he hp hh hi]
      exact sent_emit List.prefix_rfl
  case timer =>
    intro ht
    obtain ⟨h1, h4⟩ := tpdoOn_bounds hn
    refine gives_of_eq (f := fun d => sendTpdo n (waitUntil ((tpdoLast n d).2 + ms (odVal (0x17FF + n) 5 d)) d)) ?_ ⟨?_, ?_⟩
    · simp [exec, execTpdoEventTimer, next, hn, ht]
    · rw [sendTpdo_time]
      exact le_waitUntil _ _
    · exact sendTpdo_sent h1 h4 (by rwa [waitUntil_can]) (by rw [waitUntil_out])
  case change =>
    intro hv
    obtain ⟨h1, h4⟩ := tpdoOn_bounds hn
    refine gives_of_eq (f := fun d => sendTpdo n (waitUntil ((tpdoLast n d).2 + us (100 * odVal (0x17FF + n) 3 d)) d)) ?_ ⟨?_, ?_⟩
    · simp [exec, execTpdoChangeSend, next, hn, hv]
    · rw [sendTpdo_time]
      exact le_waitUntil _ _
    · exact sendTpdo_sent h1 h4 (by rwa [waitUntil_can]) (by rw [waitUntil_out])
  case upload =>
    intro v t hr hv
    refine gives_of_eq (f := fun _ => answer (.accessor (.can node)) idx sub .ok v v.length v.length t) ?_ ?_
    · show execUsdoUpload node idx sub s = _
      rw [execUsdoUpload, usdo, odRow_open (wayOpen_can ha he ht)]
      simp only [next, hr, usdo_carries hv, Bool.false_eq_true, if_false]
    · rw [answer_ok]
      exact sent_emit (by rw [transferEnded_out]; exact odRead_out hr)
  case download =>
    intro v hv
    have hw : exec (.dictionaryWrite (.can node) idx sub v) s = next s fun d =>
        answerWrite (.accessor (.can node)) idx sub (odWrite (.can node) (.accessor (.can node)) idx sub v (endAssembly (.can node) d)) := by
      show execDictionaryWrite (.can node) idx sub v s = _
      rw [execDictionaryWrite, writeRow, odRow_open (wayOpen_can ha he ht)]
    refine ⟨_, ?_, hw⟩
    show execUsdoDownload node idx sub v s = _
    rw [execUsdoDownload, usdo, odRow_open (wayOpen_can ha he ht)]
    simp only [next, usdo_carries hv, Bool.false_eq_true, if_false]

end Sys2Proof.Machine
end

section
/-! SUPPORT. A search entry written while the search engine is switched off: the entry in the engine does not follow (R233, R240). -/

namespace Sys2Proof.Machine

/-- A device that serves alone and whose search engine is switched off, as in PS_2. Node 3 holds a secure session on CAN FD and has
selected entry 1,024, the first one of the policy partition. -/
def searchOff : Device := { Reset.dev with
  power := { Reset.dev.power with run := .ready }
  peer := { Reset.dev.peer with st := 5 }
  can := { Reset.dev.can with nmt := .operational }
  cam := { Reset.dev.cam with powered := false }
  dict := { Reset.dev.dict with sessions := [⟨.can 3, 0, 1⟩], cursors := [⟨.can 3, 0x2B20, 1024, 0⟩] } }

/-- A search entry whose bytes are all 1. -/
def entryOfOnes : Bytes := List.replicate 48 1

theorem searchOff_takes : TakesWrite (.can 3) 0x2B20 2 entryOfOnes searchOff := by
  simp only [TakesWrite, WayOpen]; decide +kernel

/-- The write goes on, and no entry of the engine is stored: its copy in DRAM alone takes the value. -/
theorem searchOff_written : ∃ t, exec (.searchEntryWrite (.can 3) entryOfOnes) ⟨searchOff, []⟩ = .next t ∧ t.dev.cam.entries = [] :=
  ⟨_, rfl, by decide +kernel⟩

/-- Refutes O12: on `searchOff` the write of a search entry passes every check, and the engine's entry stays blank. -/
theorem not_tableWrites : ¬ Obligations.TableWrites := by
  intro h
  obtain ⟨-, -, -, -, -, -, -, -, -, hsearch, -⟩ := h ⟨searchOff, []⟩ (.can 3) entryOfOnes (by decide +kernel)
  obtain ⟨t, ht, hentry, -⟩ := hsearch ⟨searchOff_takes, by decide +kernel, by decide +kernel, by decide +kernel⟩
  obtain ⟨u, hu, hblank⟩ := searchOff_written
  obtain rfl := Host.Outcome.next.inj (ht.symm.trans hu)
  rw [hblank] at hentry
  exact absurd hentry (by decide +kernel)

end Sys2Proof.Machine
end

section
/-! SUPPORT. A Parameter Write that pauses its own port: the completion waits in a shorter line than the one that the command found (R105,
R106). -/

namespace Sys2Proof.Machine

/-! ## Counters at their greatest value -/

theorem set_getD_self {l : List Nat} {i x : Nat} (h : l.getD i 0 = x) : l.set i x = l := by
  subst h
  by_cases hi : i < l.length
  · rw [List.getD_eq_getElem _ _ hi, List.set_getElem_self]
  · rw [List.set_eq_of_length_le (not_lt.1 hi)]

theorem onPort_self {p : Nat} {f : Port → Port} {d : Device} (h : f (portOf p d) = portOf p d) : onPort p f d = d := by
  have hl : modNth d.ports.ports p f = d.ports.ports := by
    refine List.ext_getElem? fun i => ?_
    rw [modNth, List.getElem?_modify]
    rcases eq_or_ne p i with rfl | hi
    · by_cases hp : p < d.ports.ports.length
      · rw [portOf, List.getD_eq_getElem _ _ hp] at h
        simp [hp, h]
      · simp [hp]
    · simp [hi]
  rw [onPort, hl]

/-- A counter that has reached its greatest value stays there, and reports nothing more (R117). -/
theorem macBump_saturated {p n : Nat} (k : Nat) {d : Device} (h : (portOf p d).mac.getD (n - 1) 0 = macMax) : macBump p n k d = d := by
  have hport : onPort p (fun x => { x with mac := x.mac.set (n - 1) macMax }) d = d := by
    refine onPort_self ?_
    show { portOf p d with mac := (portOf p d).mac.set (n - 1) macMax } = portOf p d
    rw [set_getD_self h]
  unfold macBump
  simp only [h, Nat.min_eq_right (Nat.le_add_right _ _), bne_self_eq_false, Bool.and_false, Bool.false_eq_true, if_false, hport]

/-- With both transmit counters at their greatest value, sending a frame puts it out and changes nothing else. -/
theorem sendNow_saturated {p : Nat} {o : Output} {d : Device} (ho : (portOf p d).mac.getD 0x0A 0 = macMax)
    (hf : (portOf p d).mac.getD 0x0B 0 = macMax) : sendNow p o d = emit o d := by
  have h1 : ∀ k, macBump p 0x0B k (emit o d) = emit o d := fun k => macBump_saturated k ho
  have h2 : ∀ k, macBump p 0x0C k (emit o d) = emit o d := fun k => macBump_saturated k hf
  simp only [sendNow, h1, h2]

/-! ## The device and the command -/

/-- Port 0 is disabled and yet has link and an association, with management access 2. Its flow control is off, a PAUSE that it does not
honour still runs, and one frame waits. Both counters of what it sends are full. -/
def frameWaits : Device :=
  let full := (Reset.port.mac.set 0x0A macMax).set 0x0B macMax
  let d := onPort 0 (fun x => { x with link := 2, pausedUntil := some 1, txWait := [.port 0 (.arpReply 0)], mac := full }) Reset.dev
  odPut 0x2300 0x01 0 (odPut 0x2300 0x0A 2 (odPut 0x2300 0x0B 0 { d with
    power := { d.power with run := .ready }
    ports := { d.ports with assocs := [⟨0, 1, 1, false, 0, 0, 64, 0, 0, 0, false, 1, 32, 0, [], [], []⟩] } }))

/-- The association of `frameWaits`, and its admin queue. -/
def hostAssoc : Assoc := ⟨0, 1, 1, false, 0, 0, 64, 0, 0, 0, false, 1, 32, 0, [], [], []⟩
def adminQueue : QueueRef := ⟨0, 1, 0⟩

/-- Parameter Write of 1 to OD 0x2300:0B, PAUSE honoured from now on; its one byte of data is asked for. -/
def pauseOn : Capsule :=
  ⟨{ opcode := 0xC1, fuse := 0, psdt := 1, ord := false, cid := 7, nsid := 0, cdw2 := 0, cdw3 := 0, sgl := 1, sglOff := none, inval := false
     cdw10 := 0x0B2300, cdw11 := 0, cdw12 := 1, cdw13 := 4, cdw14 := 0, cdw15 := 0 }, [1], 0⟩

/-- An output is a completion. -/
def isCompletion : Output → Bool
  | .completion .. => true
  | _ => false

theorem frameWaits_open : AdminOpen adminQueue pauseOn hostAssoc frameWaits := by
  simp only [AdminOpen]; decide +kernel

/-- The device once the command is fetched and its data asked for: the frame that waited has left first. -/
def pauseOnServed : Device :=
  emit (.port 0 (.r2t adminQueue 7 0 1)) (emit (.port 0 (.arpReply 0))
    (onPort 0 (fun x => { x with txWait := [] }) (adminFetched adminQueue frameWaits)))

theorem adminServed_pauseOn : adminServed adminQueue pauseOn frameWaits = pauseOnServed := by
  show sendOn 0 (.port 0 (.r2t adminQueue 7 0 1)) (adminFetched adminQueue frameWaits) = _
  have hf : flushPort (adminFetched adminQueue frameWaits) 0 =
      emit (.port 0 (.arpReply 0)) (onPort 0 (fun x => { x with txWait := [] }) (adminFetched adminQueue frameWaits)) := by
    show sendNow 0 (.port 0 (.arpReply 0)) (onPort 0 (fun x => { x with txWait := [] }) (adminFetched adminQueue frameWaits)) = _
    exact sendNow_saturated (by decide +kernel) (by decide +kernel)
  show (if pausedNow 0 (flushPort (adminFetched adminQueue frameWaits) 0) then _ else _) = _
  rw [hf, if_neg (by decide +kernel)]
  exact sendNow_saturated (by decide +kernel) (by decide +kernel)

theorem pauseOn_plain : PlainWrite (.inband 0) 0x2300 0x0B [1] pauseOnServed :=
  ⟨by decide +kernel, by decide +kernel, by decide +kernel, fun _ _ => rfl, by decide +kernel, by decide +kernel, fun _ _ => ⟨rfl, rfl⟩,
    by decide, fun h => absurd h (by decide)⟩

/-- Once written, the port pauses, and the completion waits alone. -/
theorem pauseOn_written : (parameterWrite adminQueue pauseOn pauseOnServed).out.any isCompletion = false ∧
    (portOf 0 (parameterWrite adminQueue pauseOn pauseOnServed)).txWait.length = 1 := by
  decide +kernel

/-- What has been sent holds no completion, and no more waits than before: the command was not answered. -/
theorem not_completes {q : QueueRef} {c : Capsule} {st : Status} {a b : Device} (ho : b.out.any isCompletion = false)
    (hw : (portOf q.port b).txWait.length ≤ (portOf q.port a).txWait.length) : ¬ Completes q c st a b := by
  rintro ⟨dw0, dw1, data, flow, hs | hp⟩
  · have := List.any_eq_false.1 ho _ (List.mem_of_mem_drop hs)
    exact this rfl
  · rw [List.drop_eq_nil_of_le hw] at hp
    exact absurd hp List.not_mem_nil

/-- Refutes O17: on `frameWaits` the Parameter Write passes every check, but its completion takes a place in line that the frame sent
before had left. -/
theorem not_adminSets : ¬ Obligations.AdminSets := by
  intro h
  obtain ⟨-, -, -, -, hwrite, -⟩ := h ⟨frameWaits, []⟩ adminQueue pauseOn hostAssoc frameWaits_open
  rw [adminServed_pauseOn] at hwrite
  obtain ⟨t, ht, -, hok⟩ := hwrite (by decide +kernel) (by decide) (by decide) rfl (by decide) pauseOn_plain
  have hx : exec (.parameterWrite adminQueue pauseOn) ⟨frameWaits, []⟩ = .next ⟨parameterWrite adminQueue pauseOn pauseOnServed, []⟩ := by
    show Host.Outcome.next _ = _
    rw [adminCmd_open frameWaits_open, adminServed_pauseOn]
  obtain rfl := (Host.Outcome.next.inj (ht.symm.trans hx))
  exact not_completes pauseOn_written.1 pauseOn_written.2.le hok

end Sys2Proof.Machine
end

section
/-! SUPPORT. What stands once a command is answered, and reads of the dictionary as a command finds them (R62, R106, R117). -/

namespace Sys2Proof.Machine

/-! ## Answers that stay -/

theorem Sent.mono {a b t : Device} {o : Output} (h : Sent a b o) (ho : b.out <+: t.out) : Sent a t o := by
  obtain ⟨u, hu⟩ := ho
  rw [Sent, ← hu, List.drop_append]
  exact List.mem_append_left _ h

/-- What was sent or held stays so while the device sends on and its port holds more. -/
theorem Posted.mono {p : Nat} {a b t : Device} {o : Output} (h : Posted p a b o) (ho : b.out <+: t.out)
    (hw : (portOf p b).txWait <+: (portOf p t).txWait) : Posted p a t o := by
  obtain ⟨w, hw⟩ := hw
  rcases h with h | h
  · exact .inl (h.mono ho)
  · exact .inr (by rw [← hw, List.drop_append]; exact List.mem_append_left _ h)

/-- Behind a PAUSE or PFC frame a completion without data waits after those that wait already. -/
theorem complete_waits {q : QueueRef} {t : CmdTag} {dw0 dw1 : Nat} {d : Device} (h : pausedNow q.port d = true) :
    (portOf q.port d).txWait <+: (portOf q.port (complete q t .success dw0 dw1 [] d)).txWait := by
  show _ <+: (portOf q.port (if reachable q d then sendCompletion q t .success dw0 dw1 [] d else d)).txWait
  split_ifs with hr
  · simp only [sendCompletion, List.isEmpty_nil, Bool.not_true, Bool.and_false, Bool.false_eq_true, if_false]
    rw [sendOn_paused h (by simp) (by simp), portOf_onPort]
    split_ifs
    · exact List.prefix_append _ _
    · exact List.prefix_rfl
  · exact List.prefix_rfl

/-- Otherwise it leaves at once. -/
theorem complete_sent {q : QueueRef} {c : Capsule} {dw0 dw1 : Nat} {data : Bytes} {a d : Device} (hr : reachable q d = true)
    (ha : a.out <+: d.out) (hp : pausedNow q.port d = false) :
    ∃ flow, Sent a (complete q c.sqe.tag .success dw0 dw1 data d) (.completion q c.sqe.cid .success dw0 dw1 data flow) := by
  show ∃ flow, Sent a (if reachable q d then sendCompletion q c.sqe.tag .success dw0 dw1 data d else d) _
  rw [if_pos hr]
  unfold sendCompletion
  dsimp only
  split_ifs
  · have hs := sendOn_spoke q.port (.port q.port (.rdmaWrite q c.sqe.tag.cid data.length)) d
    exact ⟨_, sendOn_sent (by rwa [hs.pausedNow]) (ha.trans hs.out)⟩
  · exact ⟨_, sendOn_sent hp ha⟩

/-- Events that are told on one port: nothing that waits there is lost while it pauses. -/
theorem aenUpdate_waits {p : Nat} {f : Assoc → Assoc × Option (QueueRef × CmdTag × Nat)} (hf : ∀ a r, (f a).2 = some r → r.1.port = p)
    {d : Device} (h : pausedNow p d = true) : (portOf p d).txWait <+: (portOf p (aenUpdate f d)).txWait := by
  have key : ∀ (l : List (Assoc × Option (QueueRef × CmdTag × Nat))) (u : Device), (∀ x ∈ l, ∀ r, x.2 = some r → r.1.port = p) →
      pausedNow p u = true → (portOf p u).txWait <+: (portOf p (l.foldl (fun d x => match x.2 with
        | some r => complete r.1 r.2.1 .success r.2.2 0 [] d
        | none => d) u)).txWait := by
    intro l
    induction l with
    | nil => exact fun u _ _ => List.prefix_rfl
    | cons x l ih =>
      intro u hl hu
      rw [List.foldl_cons]
      have hl' := fun y hy => hl y (List.mem_cons_of_mem x hy)
      cases hx : x.2 with
      | none => exact ih u hl' hu
      | some r =>
        obtain rfl := hl x List.mem_cons_self r hx
        have hs : Spoke u (complete r.1 r.2.1 .success r.2.2 0 [] u) := complete_spoke ⟨rfl, rfl⟩
        exact (complete_waits hu).trans (ih _ hl' (by rwa [hs.pausedNow]))
  refine key (d.ports.assocs.map f) { d with ports := { d.ports with assocs := (d.ports.assocs.map f).map (·.1) } } ?_ h
  simp only [List.mem_map]
  rintro _ ⟨a, -, rfl⟩
  exact hf a

theorem aenDeliver_port {a : Assoc} {r : QueueRef × CmdTag × Nat} (h : (aenDeliver a).2 = some r) : r.1.port = a.port := by
  unfold aenDeliver at h
  split at h
  · obtain rfl := Option.some.inj h
    rfl
  · cases h

theorem aenClear_out (p a page : Nat) (d : Device) : d.out <+: (aenClear p a page d).out := (aenUpdate_kept (.refl d)).out

/-- The events that a log page clears are told on its own port. -/
theorem aenClear_waits {p a page : Nat} {d : Device} (h : pausedNow p d = true) :
    (portOf p d).txWait <+: (portOf p (aenClear p a page d)).txWait := by
  refine aenUpdate_waits (fun x r hr => ?_) h
  split_ifs at hr with hx
  simp only [Bool.and_eq_true, beq_iff_eq] at hx
  exact (aenDeliver_port hr).trans hx.1

/-! ## Reads -/

/-- What a completion on port `p` depends on is the same in both devices. -/
structure AlikeOn (p : Nat) (a b : Device) : Prop where
  assocs : b.ports.assocs = a.ports.assocs
  link : (portOf p b).link = (portOf p a).link
  waits : (portOf p b).txWait = (portOf p a).txWait
  paused : pausedNow p b = pausedNow p a

theorem AlikeOn.refl (p : Nat) (a : Device) : AlikeOn p a a := ⟨rfl, rfl, rfl, rfl⟩

theorem AlikeOn.trans {p : Nat} {a b c : Device} (h : AlikeOn p a b) (k : AlikeOn p b c) : AlikeOn p a c :=
  ⟨k.assocs.trans h.assocs, k.link.trans h.link, k.waits.trans h.waits, k.paused.trans h.paused⟩

theorem AlikeOn.foldl {α : Type} {p : Nat} {f : Device → α → Device} (hf : ∀ d x, AlikeOn p d (f d x)) (l : List α) (d : Device) :
    AlikeOn p d (l.foldl f d) := by
  induction l generalizing d with
  | nil => exact .refl p d
  | cons x l ih => exact (hf d x).trans (ih _)

theorem AlikeOn.of_eq {p : Nat} {a b : Device} (hp : b.ports = a.ports) (ht : b.time = a.time)
    (hc : ∀ n, n = 9 ∨ n = 0x0B → portOd p n b = portOd p n a) :
    AlikeOn p a b :=
  ⟨by rw [hp], by rw [portOf, portOf, hp], by rw [portOf, portOf, hp], by
    simp only [pausedNow, framePriority, ahead, portOf, hp, ht, hc 9 (.inl rfl), hc 0x0B (.inr rfl)]⟩

/-- An admin command that completes with its port alike answers the host. -/
theorem served_answers_alike {q : QueueRef} {c : Capsule} {x : Assoc} {d b : Device} {st : Status} {dw0 dw1 : Nat} {data : Bytes}
    (h : AdminOpen q c x d) (hb : AlikeOn q.port (adminServed q c d) b) (ho : (adminServed q c d).out <+: b.out) :
    Answers q c st dw0 dw1 data d (complete q c.sqe.tag st dw0 dw1 data b) := by
  have hw := adminServed_waits q c d
  refine complete_answers (reachable_of (y := passed x) ?_ ?_) (hw.1.trans ho) ?_
  · rw [hasLink, hb.link]
    exact hasLink_served h
  · rw [assocOf, hb.assocs]
    exact assocOf_served h
  · rw [hb.waits, hb.paused]
    exact hw.2

theorem touchIf_alike (p : Nat) (acc : Accessor) (idx sub : Nat) (d : Device) : AlikeOn p d (touchIf acc idx sub d) := by
  obtain ⟨l, h⟩ := touchIf_eq acc idx sub d
  rw [h]
  exact .of_eq rfl rfl fun _ _ => rfl

theorem stepCursor_alike (p : Nat) (acc : Accessor) (win : Nat) (d : Device) : AlikeOn p d (stepCursor acc win d) := by
  unfold stepCursor
  dsimp only
  split_ifs
  · exact .of_eq rfl rfl fun _ _ => rfl
  · exact .refl p d

theorem sendEmcy_ports (code event : Nat) (d : Device) : (sendEmcy code event d).ports = d.ports := by
  unfold sendEmcy logDrops
  dsimp only
  split_ifs <;> rfl

theorem clearEmcy_ports (key event : Nat) (d : Device) : (clearEmcy key event d).ports = d.ports := by
  unfold clearEmcy
  dsimp only
  split_ifs
  · exact sendEmcy_ports ..
  · rfl
  · rfl

theorem clearEmcy_time (key event : Nat) (d : Device) : (clearEmcy key event d).time = d.time := by
  obtain ⟨_, _, _, _, _, _, h, -⟩ := clearEmcy_spoke key event d
  rw [h]

theorem clearEmcy_alike (p key event : Nat) (d : Device) : AlikeOn p d (clearEmcy key event d) :=
  .of_eq (clearEmcy_ports ..) (clearEmcy_time ..) fun n _ => (clearEmcy_spoke key event d).portOd p n

/-- Counters of a port are no part of what a completion depends on. -/
theorem onPort_alike (p n : Nat) {f : Port → Port}
    (hf : ∀ x, (f x).link = x.link ∧ (f x).txWait = x.txWait ∧ (f x).pausedUntil = x.pausedUntil ∧ (f x).pfcUntil = x.pfcUntil) (d : Device) :
    AlikeOn p d (onPort n f d) := by
  have hp := portOf_onPort n p f d
  split_ifs at hp
  · obtain ⟨hl, hw, hu, hc⟩ := hf (portOf p d)
    refine ⟨rfl, by rw [hp, hl], by rw [hp, hw], ?_⟩
    rw [pausedNow, pausedNow, hp, hu, hc]
    rfl
  · refine ⟨rfl, by rw [hp], by rw [hp], ?_⟩
    rw [pausedNow, pausedNow, hp]
    rfl

theorem clearMac_alike (p n sub : Nat) (d : Device) : AlikeOn p d (clearMac n sub d) :=
  .foldl (fun d _ => .trans (onPort_alike p n (fun _ => by exact ⟨rfl, rfl, rfl, rfl⟩) d) (clearEmcy_alike ..)) _ _

theorem afterRead_alike (p : Nat) (acc : Accessor) (idx sub : Nat) (d : Device) : AlikeOn p d (afterRead acc idx sub d) := by
  unfold afterRead
  split_ifs with h1 h2
  · exact clearMac_alike ..
  · refine .of_eq rfl rfl fun n hn => odVal_odPut_other _ _ ?_
    simp only [Bool.or_eq_true, Bool.and_eq_true, beq_iff_eq] at h2
    unfold odKey
    omega
  · exact stepCursor_alike ..
  · exact .refl p d

theorem drawBytes_alike (p n : Nat) (d : Device) : AlikeOn p d (drawBytes n d).2 := by
  induction n generalizing d with
  | zero => exact .refl p d
  | succ n ih => exact AlikeOn.trans (b := (draw d).2) (.of_eq rfl rfl fun _ _ => rfl) (ih _)

theorem challengeRead_alike {p : Nat} {acc : Accessor} {d : Device} {r : Bytes × Device} (h : challengeRead acc d = .ok r) : AlikeOn p d r.2 := by
  unfold challengeRead at h
  split_ifs at h
  obtain rfl := Except.ok.inj h
  exact (drawBytes_alike p 4 d).trans (.of_eq rfl rfl fun _ _ => rfl)

/-- A read of the dictionary leaves the port as it was. -/
theorem odRead_alike {p : Nat} {acc : Accessor} {idx sub : Nat} {d : Device} {r : Bytes × Device} (h : odRead acc idx sub 0 d = .ok r) :
    AlikeOn p d r.2 := by
  unfold odRead at h
  split at h
  · cases h
  · dsimp only at h
    refine (touchIf_alike p acc idx sub d).trans ?_
    simp only [beq_iff_eq, zero_ne_one, OfNat.zero_ne_ofNat, if_false] at h
    split_ifs at h
    · exact challengeRead_alike h
    · obtain rfl := Except.ok.inj h
      exact afterRead_alike ..

/-! ## Associations -/

/-- An association that is replaced under its own port and number is found again. -/
theorem assocOf_onAssoc_found {p n : Nat} {f : Assoc → Assoc} {x : Assoc} {d : Device} (h : assocOf p n d = some x)
    (hf : (f x).port = p ∧ (f x).assoc = n) : assocOf p n (onAssoc p n f d) = some (f x) := by
  unfold assocOf at h
  simp only [assocOf, onAssoc]
  generalize d.ports.assocs = l at h ⊢
  induction l with
  | nil => simp at h
  | cons y l ih =>
    cases hy : (y.port == p && y.assoc == n)
    · simp only [List.find?_cons, List.map_cons, hy, Bool.false_eq_true, if_false] at h ⊢
      exact ih h
    · simp only [List.find?_cons, List.map_cons, hy, if_true, Option.some.injEq] at h ⊢
      subst h
      simp [hf.1, hf.2]

theorem associationEnd_time (p a : Nat) (d : Device) : (associationEnd p a d).time = d.time := by
  have hd : ∀ (l : List SubQueue) (u : Device), (l.foldl (fun d q => dropReservation q.ref d) u).time = u.time := by
    intro l
    induction l with
    | nil => exact fun u => rfl
    | cons q l ih => exact fun u => ih _
  unfold associationEnd
  dsimp only
  split_ifs
  · exact hd ..
  · exact hd ..

/-- An association that has ended is gone. -/
theorem associationEnd_assocs (p a : Nat) (d : Device) : ∀ y ∈ (associationEnd p a d).ports.assocs, ¬ (y.port = p ∧ y.assoc = a) := by
  unfold associationEnd
  dsimp only
  split_ifs
  all_goals
    intro y hy
    simpa [imp_iff_not_or] using (List.mem_filter.1 hy).2

/-- So are its queues. -/
theorem associationEnd_queues (p a : Nat) (d : Device) : ∀ y ∈ (associationEnd p a d).nvme.queues, ¬ (y.ref.port = p ∧ y.ref.assoc = a) := by
  unfold associationEnd
  dsimp only
  split_ifs
  all_goals
    intro y hy
    simpa [imp_iff_not_or] using (List.mem_filter.1 hy).2

/-! ## Commands of an open association -/

/-- An admin command on an open association leaves what its function gives. -/
theorem gives_admin {i : Instr} {q : QueueRef} {c : Capsule} {y : Assoc} {s : State} {f : Assoc → Device → Device} {P : Device → Prop}
    (ho : AdminOpen q c y s.dev) (hx : exec i s = next s (adminCmd q c f)) (h : P (f (passed y) (adminServed q c s.dev))) : Gives i s P :=
  gives_of_eq hx (by rwa [adminCmd_open ho])

/-- The answer of a command that changes nothing. -/
theorem served_answers_same {q : QueueRef} {c : Capsule} {y : Assoc} {d : Device} {st : Status} {dw0 dw1 : Nat} {data : Bytes}
    (h : AdminOpen q c y d) : Answers q c st dw0 dw1 data d (complete q c.sqe.tag st dw0 dw1 data (adminServed q c d)) :=
  served_answers_alike h (.refl ..) List.prefix_rfl

/-- The association is changed, and the command completes. -/
theorem onAssoc_answers {q : QueueRef} {c : Capsule} {y : Assoc} {d : Device} {f : Assoc → Assoc} (h : AdminOpen q c y d)
    (hf : ∀ x, (f x).port = x.port ∧ (f x).assoc = x.assoc) :
    assocOf q.port q.assoc (completeSt q c.sqe.tag .success (onAssoc q.port q.assoc f (adminServed q c d))) = some (f (passed y)) ∧
      Completes q c .success d (completeSt q c.sqe.tag .success (onAssoc q.port q.assoc f (adminServed q c d))) := by
  have ha : assocOf q.port q.assoc (onAssoc q.port q.assoc f (adminServed q c d)) = some (f (passed y)) := assocOf_onAssoc (assocOf_served h) hf
  have hs : Spoke (onAssoc q.port q.assoc f (adminServed q c d)) (completeSt q c.sqe.tag .success (onAssoc q.port q.assoc f (adminServed q c d))) :=
    complete_spoke ⟨rfl, rfl⟩
  exact ⟨by rw [hs.assocOf, ha], 0, 0, [], served_answers h rfl ha List.prefix_rfl rfl⟩

/-- With no event to tell, the request is held. -/
theorem eventRequest_holds {q : QueueRef} {c : Capsule} {x : Assoc} {d : Device} (hl : x.aers.length < 4) (he : x.events = []) :
    eventRequest q c x d = onAssoc q.port q.assoc (fun _ => { x with aers := x.aers ++ [c.sqe.tag] }) d := by
  have hd : aenDeliver { x with aers := x.aers ++ [c.sqe.tag] } = ({ x with aers := x.aers ++ [c.sqe.tag] }, none) := by
    simp [aenDeliver, he]
  simp only [eventRequest, hd, if_neg (not_le.2 hl)]

/-- The Connect command as its completion names it. -/
def connectCapsule (r : ConnectReq) : Capsule :=
  ⟨{ opcode := 0x7F, fuse := 0, psdt := 0, ord := false, cid := r.cid, nsid := 0, cdw2 := 0, cdw3 := 0, sgl := 0, sglOff := none, inval := false
     cdw10 := 0, cdw11 := 0, cdw12 := 0, cdw13 := 0, cdw14 := 0, cdw15 := 0 }, [], 0⟩

/-- A Connect is answered on the association that it names. -/
theorem connect_answers {r : ConnectReq} {k n : Nat} {x : Assoc} {d t : Device} (hl : hasLink r.port d = true) (hp : t.ports.ports = d.ports.ports)
    (hx : x ∈ t.ports.assocs ∧ x.port = r.port ∧ x.assoc = r.assoc) (ho : t.out = d.out) :
    ∃ flow, Posted r.port d (complete ⟨r.port, r.assoc, k⟩ (connectTag r) .success n 0 [] t)
      (.completion ⟨r.port, r.assoc, k⟩ r.cid .success n 0 [] flow) := by
  obtain ⟨hm, hxp, hxa⟩ := hx
  have hr : reachable ⟨r.port, r.assoc, k⟩ t = true := by
    rw [reachable, hp, Bool.and_eq_true]
    exact ⟨hl, List.any_eq_true.2 ⟨x, hm, by simp [hxp, hxa]⟩⟩
  refine complete_answers (c := connectCapsule r) hr (by rw [ho]) (.inl ?_)
  rw [portOf, portOf, hp]

section
variable {r : ConnectReq} {d : Device} (hl : hasLink r.port d = true) (hm : portMode r.port d = 1)
  (hb : bit (portOd r.port 5 d) (if r.svc == 0 then 1 else 0) = true) (hv : r.svc = 0 ∨ r.svc = 8009 ∨ r.svc = portOd r.port 0x10 d)
  (hc : connectCheck r d = none) (hr : connectRepeated r d = false)
include hl hm hb hv hc hr

/-- An accepted Connect of an admin queue makes the association. -/
theorem connect_admin {n : Nat} (hq : r.qid = 0) (hf : freeCntlid d = some n) :
    connect r d = complete ⟨r.port, r.assoc, 0⟩ (connectTag r) .success n 0 []
      { d with ports := { d.ports with assocs := d.ports.assocs ++ [newAssoc r n d] } } := by
  have hv' : (r.svc != 0 && r.svc != 8009 && r.svc != portOd r.port 0x10 d) = false := by
    rcases hv with h | h | h <;> simp [h]
  unfold connect
  simp only [hl, hm, hb, hv', hc, hr, hf, hq]
  rfl

/-- An accepted Connect of another queue makes the queue. -/
theorem connect_queue {x : Assoc} (hq : r.qid ≠ 0) (hx : assocOf r.port r.assoc d = some x) :
    connect r d = complete ⟨r.port, r.assoc, r.qid⟩ (connectTag r) .success x.cntlid 0 []
      { d with nvme := { d.nvme with queues := d.nvme.queues ++ [newQueue r] } } := by
  have hv' : (r.svc != 0 && r.svc != 8009 && r.svc != portOd r.port 0x10 d) = false := by
    rcases hv with h | h | h <;> simp [h]
  unfold connect
  simp only [hl, hm, hb, hv', hc, hr, hx, beq_eq_false_iff_ne.2 hq]
  rfl

end

/-- A log page is answered, and stays so whatever events it clears. -/
theorem getLogPage_answers {q : QueueRef} {c : Capsule} {y : Assoc} {d : Device} {need : Nat} {session : Bool} {bytes : Bytes} (h : AdminOpen q c y d)
    (hp : bits c.sqe.cdw10 7 0 ≠ 0xC1) (ho : logOffset c.sqe % 4 = 0)
    (hl : logPage (bits c.sqe.cdw10 7 0) (passed y) (adminServed q c d) = some (need, session, bytes))
    (hd : denied q need session (adminServed q c d) = false) :
    Answers q c .success 0 0 (padTo (logLength c.sqe) (bytes.drop (logOffset c.sqe))) d (getLogPage q c (passed y) (adminServed q c d)) := by
  unfold getLogPage
  simp only [beq_eq_false_iff_ne.2 hp, ho, hl, hd, bne_self_eq_false, Bool.false_eq_true, if_false]
  split_ifs
  · exact served_answers_same h
  · have hw := adminServed_waits q c d
    set data := padTo (logLength c.sqe) (bytes.drop (logOffset c.sqe))
    have hs : Spoke (adminServed q c d) (complete q c.sqe.tag .success 0 0 data (adminServed q c d)) := complete_spoke ⟨rfl, rfl⟩
    cases hq : pausedNow q.port (adminServed q c d)
    · obtain ⟨flow, hc⟩ := complete_sent (c := c) (dw0 := 0) (dw1 := 0) (data := data)
        (reachable_of (hasLink_served h) (assocOf_served h)) hw.1 hq
      exact ⟨flow, .inl (hc.mono (aenClear_out ..))⟩
    · obtain ⟨flow, hc⟩ := served_answers_same (st := .success) (dw0 := 0) (dw1 := 0) (data := data) h
      exact ⟨flow, hc.mono (aenClear_out ..) (aenClear_waits (by rwa [hs.pausedNow]))⟩

/-- Only what exists can be read. -/
theorem entry_of_readFailure {acc : Accessor} {idx sub : Nat} {d : Device} (h : readFailure acc idx sub d = none) :
    ∃ e, odEntry? idx sub = some e := by
  unfold readFailure at h
  split at h
  · cases h
  · cases h
  · exact ⟨_, by assumption⟩

/-- A read of a plain entry answers with its value. -/
theorem parameterRead_answers {q : QueueRef} {c : Capsule} {y : Assoc} {d t : Device} {v : Bytes} (h : AdminOpen q c y d)
    (ha : 1 ≤ managementAccess q.port (adminServed q c d)) (hl : c.sqe.cdw12 ≤ 2 ^ 20) (ho : c.sqe.cdw11 = 0) (hs : bits c.sqe.cdw13 1 0 = 0)
    (hd : isDomain (bits c.sqe.cdw10 15 0) (bits c.sqe.cdw10 23 16) = false)
    (hr : odRead (.inband q.port) (bits c.sqe.cdw10 15 0) (bits c.sqe.cdw10 23 16) 0 (adminServed q c d) = .ok (v, t)) :
    Answers q c .success (v.take c.sqe.cdw12).length v.length (v.take c.sqe.cdw12) d (parameterRead q c (adminServed q c d)) := by
  have hf : readFailure (.inband q.port) (bits c.sqe.cdw10 15 0) (bits c.sqe.cdw10 23 16) (adminServed q c d) = none := by
    unfold odRead at hr
    split at hr
    · cases hr
    · assumption
  obtain ⟨e, he⟩ := entry_of_readFailure hf
  have hdom : e.typ.isDomain = false := by simpa [isDomain, he] using hd
  have ht := served_answers_alike (st := .success) (dw0 := (v.take c.sqe.cdw12).length) (dw1 := v.length) (data := v.take c.sqe.cdw12) h
    (odRead_alike hr) (odRead_out hr)
  unfold parameterRead
  have hl' : ¬ 1048576 < c.sqe.cdw12 := by omega
  simpa [not_lt.2 ha, hl', hs, ho, he, hf, hr, hdom, answer] using ht

/-! ## The obligation -/

/-- Settles O16, a command of an open association at a time; the answer of a log page outlives the events that it clears. -/
theorem adminReads : Obligations.AdminReads := by
  intro s
  refine ⟨fun q c y h => ?_, fun p a x hx hk => ?_, fun r hl hm hb hv hc hr => ⟨fun n hq hf => ?_, fun x hq hx => ?_⟩⟩
  · refine ⟨fun hb => ?identify, fun page need session bytes hp hc ho hl hd => ?log, fun n hn hx ho hst hg hs => ?results,
      fun hs => ⟨fun hf => ?queues, fun hf => ?events, fun hf => ?keepAliveTime⟩, fun v t ha hl ho hs hd hr => ?read, fun hl he => ?request,
      ?keepAlive, fun ho hb => ?property⟩
    case identify =>
      refine gives_admin h rfl ?_
      simp only [identify, hb]
      exact served_answers_same h
    case log =>
      subst hp
      exact gives_admin h rfl (getLogPage_answers h hc ho hl hd)
    case results =>
      subst hn
      refine gives_admin h rfl ?_
      simp only [longResults, hx, ho, hg, hs, bne_self_eq_false, Bool.false_and, Bool.or_self, beq_eq_false_iff_ne.2 hst, Bool.false_eq_true,
        if_false]
      exact served_answers_same h
    case queues => exact gives_admin h rfl (by simpa [getFeatures, hs, hf] using served_answers_same h)
    case events => exact gives_admin h rfl (by simpa [getFeatures, hs, hf] using served_answers_same h)
    case keepAliveTime => exact gives_admin h rfl (by simpa [getFeatures, hs, hf] using served_answers_same h)
    case read => exact gives_admin h rfl (parameterRead_answers h ha hl ho hs hd hr)
    case request =>
      refine gives_admin h rfl ?_
      rw [eventRequest_holds hl he]
      exact ⟨assocOf_onAssoc_found (assocOf_served h) (assocOf_mem (assocOf_served h)).2, rfl⟩
    case keepAlive => exact gives_admin h rfl (onAssoc_answers h fun _ => ⟨rfl, rfl⟩)
    case property =>
      refine gives_admin h rfl ?_
      simp only [propertySet, ho, not_lt.2 hb, bne_self_eq_false, decide_false, Bool.or_self, Bool.false_eq_true, if_false]
      exact onAssoc_answers h fun _ => ⟨rfl, rfl⟩
  · refine gives_of_eq (f := fun d => associationEnd p a (waitUntil (x.kaLast + ms x.kato) d)) ?_
      ⟨?_, associationEnd_assocs p a _, associationEnd_queues p a _⟩
    · simp [exec, execKeepAliveExpiry, next, keepAliveExpiry, hx, hk]
    · rw [associationEnd_time]
      exact le_waitUntil _ _
  · have hs : Spoke { s.dev with ports := { s.dev.ports with assocs := s.dev.ports.assocs ++ [newAssoc r n s.dev] } } (connect r s.dev) := by
      rw [connect_admin hl hm hb hv hc hr hq hf]
      exact complete_spoke ⟨rfl, rfl⟩
    refine gives_of_eq (f := connect r) rfl ⟨?_, ?_⟩
    · obtain ⟨_, _, _, _, _, _, h, -⟩ := hs
      rw [h]
    · rw [connect_admin hl hm hb hv hc hr hq hf]
      exact connect_answers hl rfl ⟨List.mem_append_right _ (List.mem_singleton_self _), rfl, rfl⟩ rfl
  · have hs : Spoke { s.dev with nvme := { s.dev.nvme with queues := s.dev.nvme.queues ++ [newQueue r] } } (connect r s.dev) := by
      rw [connect_queue hl hm hb hv hc hr hq hx]
      exact complete_spoke ⟨rfl, rfl⟩
    refine gives_of_eq (f := connect r) rfl ⟨?_, ?_⟩
    · obtain ⟨_, _, _, _, _, _, h, -⟩ := hs
      rw [h]
    · rw [connect_queue hl hm hb hv hc hr hq hx]
      exact connect_answers hl rfl (assocOf_mem hx) rfl

end Sys2Proof.Machine
end

section
/-! SUPPORT. Host ports: what counting and sending leave of a port, and its counters (R106, R117). -/

namespace Sys2Proof.Machine

/-! ## What counting changes of a port -/

theorem onPort_ports_length (p : Nat) (f : Port → Port) (d : Device) : (onPort p f d).ports.ports.length = d.ports.ports.length :=
  List.length_modify ..

theorem portOf_onPort_self {p : Nat} {d : Device} (hp : p < d.ports.ports.length) (f : Port → Port) : portOf p (onPort p f d) = f (portOf p d) := by
  rw [portOf_onPort, if_pos ⟨rfl, hp⟩]

/-- A count steps one counter of its port, and may note that counter's overflow. -/
theorem macBump_portOf (p q n k : Nat) (d : Device) : ∃ o r, portOf q (macBump p n k d) =
    if q = p ∧ q < d.ports.ports.length then
      { portOf q d with mac := (portOf q d).mac.set (n - 1) (min ((portOf p d).mac.getD (n - 1) 0 + k) macMax), ovf := o, ovfReported := r }
    else portOf q d := by
  have hlog : ∀ c u v e (x : Device), portOf q (logEvent c u v e x) = portOf q x := fun _ _ _ _ _ => rfl
  have hraise : ∀ key code event (x : Device), portOf q (raiseEmcy key code event x) = portOf q x := fun _ _ _ _ => by
    rw [portOf, raiseEmcy, sendEmcy_ports]
    rfl
  unfold macBump
  by_cases hq : q = p ∧ q < d.ports.ports.length
  · simp only [if_pos hq]
    split_ifs <;> simp only [hraise, hlog, portOf_onPort, onPort_ports_length, if_pos hq] <;> exact ⟨_, _, rfl⟩
  · refine ⟨0, 0, ?_⟩
    simp only [if_neg hq]
    split_ifs <;> simp only [hraise, hlog, portOf_onPort, onPort_ports_length, if_neg hq]

theorem macBump_waits (p q n k : Nat) (d : Device) : (portOf q (macBump p n k d)).txWait = (portOf q d).txWait := by
  obtain ⟨_, _, h⟩ := macBump_portOf p q n k d
  rw [h]
  split_ifs <;> rfl

theorem macBump_ports_length (p n k : Nat) (d : Device) : (macBump p n k d).ports.ports.length = d.ports.ports.length := by
  unfold macBump
  dsimp only
  split_ifs
  · exact (onPort_ports_length ..).trans (onPort_ports_length ..)
  · rw [raiseEmcy, sendEmcy_ports]
    exact (onPort_ports_length ..).trans (onPort_ports_length ..)
  · exact onPort_ports_length ..

/-- What only sends and counts, with as many frames waiting, is alike for what is sent next. -/
theorem Spoke.alike {p : Nat} {a b : Device} (h : Spoke a b) (hw : (Machine.portOf p b).txWait = (Machine.portOf p a).txWait) : AlikeOn p a b := by
  refine ⟨?_, h.link p, hw, h.pausedNow p⟩
  obtain ⟨_, _, _, _, _, _, he, -⟩ := h
  rw [he]

theorem Spoke.time {a b : Device} (h : Spoke a b) : b.time = a.time := by
  obtain ⟨_, _, _, _, _, _, he, -⟩ := h
  rw [he]

theorem Spoke.qps {a b : Device} (h : Spoke a b) : b.ports.qps = a.ports.qps := by
  obtain ⟨_, _, _, _, _, _, he, -⟩ := h
  rw [he]

theorem macBump_alike (p q n k : Nat) (d : Device) : AlikeOn p d (macBump q n k d) := (macBump_spoke ..).alike (macBump_waits ..)

theorem goodFrame_spoke (p octets : Nat) (d : Device) : Spoke d (goodFrame p octets d) := (macBump_spoke ..).trans (macBump_spoke ..)

theorem goodFrame_alike (p q octets : Nat) (d : Device) : AlikeOn p d (goodFrame q octets d) := (macBump_alike ..).trans (macBump_alike ..)

theorem ownFrame_spoke (p : Nat) (d : Device) : Spoke d (ownFrame p d) := goodFrame_spoke ..

theorem ownFrame_alike (p q : Nat) (d : Device) : AlikeOn p d (ownFrame q d) := goodFrame_alike ..

/-! ## Counters -/

/-- From `a` to `b` no counter of port `p` changes but those of `ns`. -/
structure CountersStay (p : Nat) (ns : List Nat) (a b : Device) : Prop where
  ports : b.ports.ports.length = a.ports.ports.length
  size : (portOf p b).mac.length = (portOf p a).mac.length
  stay : ∀ n, 1 ≤ n → n ∉ ns → macCount p n b = macCount p n a

theorem CountersStay.refl (p : Nat) (ns : List Nat) (a : Device) : CountersStay p ns a a := ⟨rfl, rfl, fun _ _ _ => rfl⟩

theorem CountersStay.trans {p : Nat} {ns : List Nat} {a b c : Device} (h : CountersStay p ns a b) (k : CountersStay p ns b c) :
    CountersStay p ns a c :=
  ⟨k.ports.trans h.ports, k.size.trans h.size, fun n h0 hn => (k.stay n h0 hn).trans (h.stay n h0 hn)⟩

theorem CountersStay.foldl {α : Type} {p : Nat} {ns : List Nat} {f : Device → α → Device} (hf : ∀ d x, CountersStay p ns d (f d x))
    (l : List α) (d : Device) : CountersStay p ns d (l.foldl f d) := by
  induction l generalizing d with
  | nil => exact .refl ..
  | cons x l ih => exact (hf d x).trans (ih _)

theorem CountersStay.ite {c : Prop} [Decidable c] {p : Nat} {ns : List Nat} {a b : Device} (h : CountersStay p ns a b) :
    CountersStay p ns a (if c then b else a) := by
  split_ifs
  · exact h
  · exact .refl ..

theorem CountersStay.of_ports {p : Nat} {ns : List Nat} {a b : Device} (h : b.ports.ports = a.ports.ports) : CountersStay p ns a b := by
  have hp : portOf p b = portOf p a := by rw [portOf, portOf, h]
  exact ⟨by rw [h], by rw [hp], fun n _ _ => by rw [macCount, macCount, hp]⟩

theorem onPort_countersStay {p q : Nat} {ns : List Nat} {f : Port → Port} (hf : ∀ x, (f x).mac = x.mac) (d : Device) :
    CountersStay p ns d (onPort q f d) := by
  have hm : (portOf p (onPort q f d)).mac = (portOf p d).mac := by
    rw [portOf_onPort]
    split_ifs
    · exact hf _
    · rfl
  exact ⟨onPort_ports_length .., by rw [hm], fun n _ _ => by rw [macCount, macCount, hm]⟩

theorem macBump_countersStay {p q n k : Nat} {ns : List Nat} (h0 : 1 ≤ n) (hn : n ∈ ns) (d : Device) : CountersStay p ns d (macBump q n k d) := by
  obtain ⟨_, _, h⟩ := macBump_portOf q p n k d
  refine ⟨macBump_ports_length .., ?_, fun m hm hmn => ?_⟩
  · rw [h]
    split_ifs
    · exact List.length_set
    · rfl
  · have hne : n - 1 ≠ m - 1 := fun he => hmn (by rwa [show m = n by omega])
    rw [macCount, macCount, h]
    split_ifs
    · rw [List.getD_eq_getElem?_getD, List.getElem?_set_ne hne, List.getD_eq_getElem?_getD]
    · rfl

theorem goodFrame_countersStay {p q octets : Nat} {ns : List Nat} (h1 : 1 ∈ ns) (h2 : 2 ∈ ns) (d : Device) :
    CountersStay p ns d (goodFrame q octets d) :=
  (macBump_countersStay le_rfl h1 _).trans (macBump_countersStay (by decide) h2 _)

theorem ownFrame_countersStay {p q : Nat} {ns : List Nat} (h1 : 1 ∈ ns) (h2 : 2 ∈ ns) (d : Device) : CountersStay p ns d (ownFrame q d) :=
  goodFrame_countersStay h1 h2 d

section
variable {p q : Nat} {ns : List Nat} (hf : 0x0B ∈ ns) (ho : 0x0C ∈ ns)
include hf ho

theorem sendNow_countersStay (o : Output) (d : Device) : CountersStay p ns d (sendNow q o d) := by
  have h : CountersStay p ns d (emit o d) := .of_ports rfl
  exact h.trans (.trans (macBump_countersStay (by decide) hf _) (macBump_countersStay (by decide) ho _))

theorem flushPort_countersStay (d : Device) : CountersStay p ns d (flushPort d q) := by
  unfold flushPort
  split_ifs
  · exact .refl ..
  · exact .trans (onPort_countersStay (fun _ => by rfl) d) (.foldl (fun d o => sendNow_countersStay hf ho o d) ..)

theorem sendOn_countersStay (o : Output) (d : Device) : CountersStay p ns d (sendOn q o d) := by
  unfold sendOn
  split
  · exact sendNow_countersStay hf ho ..
  · exact sendNow_countersStay hf ho ..
  · dsimp only
    split_ifs
    · exact (flushPort_countersStay hf ho d).trans (onPort_countersStay (fun _ => by rfl) _)
    · exact (flushPort_countersStay hf ho d).trans (sendNow_countersStay hf ho ..)

end

/-- One count among what leaves its counter alone. -/
theorem counts_macBump {p n k : Nat} {ms ns : List Nat} {a b c : Device} (hp : p < a.ports.ports.length) (hl : (portOf p a).mac.length = 21)
    (hn : 1 ≤ n ∧ n ≤ 21) (h : CountersStay p ms a b) (hm : n ∉ ms) (h' : CountersStay p ns (macBump p n k b) c) (hn' : n ∉ ns) :
    Counts p n k a c := by
  obtain ⟨_, _, hb⟩ := macBump_portOf p p n k b
  rw [if_pos ⟨rfl, by rwa [h.ports]⟩] at hb
  have hset : macCount p n (macBump p n k b) = min (macCount p n b + k) macMax := by
    have hlt : n - 1 < (portOf p b).mac.length := by
      rw [h.size, hl]
      omega
    rw [macCount, hb, macCount, List.getD_eq_getElem?_getD, List.getElem?_set_self hlt, Option.getD_some]
  rw [Counts, h'.stay n hn.1 hn', hset, h.stay n hn.1 hm]

/-! ## What a port sends of itself -/

/-- A frame that is no PAUSE or PFC is sent, or waits behind one (R106). -/
theorem portSend_posted {p : Nat} {f : PortFrame} {a d : Device} (hl : hasLink p a = true) (h : AlikeOn p a d) (ho : a.out <+: d.out)
    (hf : (∀ m, f ≠ .pause m) ∧ ∀ m k, f ≠ .pfc m k) : Posted p a (portSend p f d) (.port p f) := by
  have hl' : hasLink p d = true := by rwa [hasLink, h.link]
  refine sendOn_posted hl' ho (.inl (by rw [h.waits])) (fun n m he => ?_) fun n m k he => ?_
  · exact hf.1 m (by injection he)
  · exact hf.2 m k (by injection he)

theorem portSend_spoke (p : Nat) (f : PortFrame) (d : Device) : Spoke d (portSend p f d) := sendOn_spoke ..

end Sys2Proof.Machine
end

section
/-! SUPPORT. What a port with link does with frames (R100, R102, R108, R113 to R115). -/

namespace Sys2Proof.Machine

/-! ## Frames with a bad status (R101, R117) -/

theorem Spoke.frameStatus {a b : Device} (h : Spoke a b) (p : Nat) (f : RxFrame) : frameStatus p f b = frameStatus p f a := by
  simp only [Machine.frameStatus, h.portOd]

/-- A frame with a bad status goes no further than its counters and the capture ring. -/
theorem frameTaken_bad {p : Nat} {f : RxFrame} {d : Device} (hl : hasLink p d = true) (hs : frameStatus p f d ≠ 0) :
    frameTaken p f d = (false, badFrame p (frameStatus p f d) f (macBump p 0x04 f.corrected d)) := by
  simp [frameTaken, hl, (macBump_spoke ..).frameStatus, hs]

/-- A frame that is not taken brings no capsule. -/
theorem frameReceive_discarded {p : Nat} {f : RxFrame} {d : Device} (h : (frameTaken p f d).1 = false) :
    frameReceive p f d = (frameTaken p f d).2 := by
  unfold frameReceive
  dsimp only
  rw [h]
  split <;> rfl

/-- A bad frame with its length counted and captured. -/
def badLength (p status : Nat) (f : RxFrame) (d : Device) : Device :=
  let d := if bit status 3 then macBump p 0x06 1 d else d
  let d := if bit status 4 then macBump p 0x07 1 d else d
  capture p status f d

theorem badFrame_eq (p status : Nat) (f : RxFrame) (d : Device) :
    badFrame p status f d = badLength p status f (macBump p 0x05 f.uncorrected (if bit status 2 then macBump p 0x03 1 d else d)) := rfl

theorem capture_countersStay {p q status : Nat} {f : RxFrame} {ns : List Nat} (h : 0x15 ∈ ns) (d : Device) :
    CountersStay p ns d (capture q status f d) := by
  unfold capture
  dsimp only
  split_ifs
  · exact .refl ..
  · exact (onPort_countersStay (fun _ => by rfl) d).trans (macBump_countersStay (by decide) h _)
  · exact (onPort_countersStay (fun _ => by rfl) d).trans (macBump_countersStay (by decide) h _)

theorem badLength_countersStay {p q status : Nat} {f : RxFrame} {ns : List Nat} (h6 : 6 ∈ ns) (h7 : 7 ∈ ns) (h15 : 0x15 ∈ ns) (d : Device) :
    CountersStay p ns d (badLength q status f d) :=
  (CountersStay.ite (macBump_countersStay (by decide) h6 _)).trans
    ((CountersStay.ite (macBump_countersStay (by decide) h7 _)).trans (capture_countersStay h15 _))

/-- No counter of good frames is stepped. -/
theorem badFrame_countersStay (p q status : Nat) (f : RxFrame) (d : Device) :
    CountersStay p [3, 5, 6, 7, 0x15] d (badFrame q status f d) := by
  rw [badFrame_eq]
  exact (CountersStay.ite (macBump_countersStay (by decide) (by decide) _)).trans
    ((macBump_countersStay (by decide) (by decide) _).trans (badLength_countersStay (by decide) (by decide) (by decide) _))

/-- What a bad frame counts: corrected and uncorrected codewords, and a bad FCS. -/
theorem badFrame_counts {p status : Nat} {f : RxFrame} {d : Device} (hl : hasLink p d = true) (hm : (portOf p d).mac.length = 21) :
    let t := badFrame p status f (macBump p 0x04 f.corrected d)
    macCount p 1 t = macCount p 1 d ∧ Counts p 4 f.corrected d t ∧ Counts p 5 f.uncorrected d t ∧
      (bit status 2 = true → Counts p 3 1 d t) := by
  have h4 : ∀ ns, 4 ∈ ns → CountersStay p ns d (macBump p 0x04 f.corrected d) := fun ns h => macBump_countersStay (by decide) h d
  have hbad := badFrame_countersStay p p status f (macBump p 0x04 f.corrected d)
  refine ⟨?_, counts_macBump (hasLink_lt hl) hm (by decide) (.refl p [] d) (by decide) hbad (by decide), ?_, fun hb => ?_⟩
  · rw [hbad.stay 1 le_rfl (by decide), (h4 [4] (by decide)).stay 1 le_rfl (by decide)]
  · rw [badFrame_eq]
    exact counts_macBump (ms := [4, 3]) (ns := [6, 7, 0x15]) (hasLink_lt hl) hm (by decide)
      ((h4 _ (by decide)).trans (.ite (macBump_countersStay (by decide) (by decide) _))) (by decide)
      (badLength_countersStay (by decide) (by decide) (by decide) _) (by decide)
  · rw [badFrame_eq, if_pos hb]
    exact counts_macBump (ns := [5, 6, 7, 0x15]) (hasLink_lt hl) hm (by decide) (h4 [4] (by decide)) (by decide)
      ((macBump_countersStay (by decide) (by decide) _).trans (badLength_countersStay (by decide) (by decide) (by decide) _)) (by decide)

theorem macBump_nvme (p n k : Nat) (d : Device) : (macBump p n k d).nvme = d.nvme := (macBump_spoke ..).store.1

theorem capture_nvme (p status : Nat) (f : RxFrame) (d : Device) : (capture p status f d).nvme = d.nvme := by
  unfold capture
  dsimp only
  split_ifs
  · rfl
  · exact macBump_nvme ..
  · exact macBump_nvme ..

theorem badFrame_nvme (p status : Nat) (f : RxFrame) (d : Device) : (badFrame p status f d).nvme = d.nvme := by
  unfold badFrame
  dsimp only
  rw [capture_nvme]
  split_ifs <;> simp only [macBump_nvme]

/-! ## Good frames -/

/-- A good frame in sequence, once it is taken. -/
def goodTaken (p : Nat) (f : RxFrame) (d : Device) : Device := macBump p 0x12 f.resend (goodFrame p f.length (macBump p 0x04 f.corrected d))

theorem frameTaken_good {p : Nat} {f : RxFrame} {d : Device} (hl : hasLink p d = true) (hs : frameStatus p f d = 0)
    (hp : protocolOk p f d = true) (hb : bufferDrops p f d = false) (hg : f.gap = none) : frameTaken p f d = (true, goodTaken p f d) := by
  have h := macBump_spoke p 0x04 f.corrected d
  have hp' : protocolOk p f (macBump p 0x04 f.corrected d) = true := by
    simpa only [protocolOk, addressedTo, vlanOk, h.portOd] using hp
  have hb' : bufferDrops p f (macBump p 0x04 f.corrected d) = false := by
    obtain ⟨_, _, _, _, hx⟩ := h.portOf p
    simpa only [bufferDrops, h.portOd, hx] using hb
  simp only [frameTaken, hl, h.frameStatus, hs, hp', hb', hg, transportWork]
  rfl

theorem goodTaken_nvme (p : Nat) (f : RxFrame) (d : Device) : (goodTaken p f d).nvme = d.nvme :=
  (macBump_nvme ..).trans ((goodFrame_spoke ..).store.1.trans (macBump_nvme ..))

theorem goodTaken_counts {p : Nat} {f : RxFrame} {d : Device} (hl : hasLink p d = true) (hm : (portOf p d).mac.length = 21) :
    Counts p 1 1 d (goodTaken p f d) ∧ Counts p 2 f.length d (goodTaken p f d) := by
  have h4 : CountersStay p [4, 1] d (macBump p 0x04 f.corrected d) := macBump_countersStay (by decide) (by decide) d
  have h12 := fun x => macBump_countersStay (p := p) (q := p) (n := 0x12) (k := f.resend) (ns := [0x12, 2]) (by decide) (by decide) x
  exact ⟨counts_macBump (hasLink_lt hl) hm (by decide) (macBump_countersStay (ns := [4]) (by decide) (by decide) d) (by decide)
      ((macBump_countersStay (by decide) (by decide) _).trans (h12 _)) (by decide),
    counts_macBump (hasLink_lt hl) hm (by decide) (h4.trans (macBump_countersStay (by decide) (by decide) _)) (by decide)
      (macBump_countersStay (ns := [0x12]) (by decide) (by decide) _) (by decide)⟩

/-! ## Answers of the port -/

/-- A request for the port's IPv4 address is answered. -/
theorem arpRequest_ipv4 {p addr : Nat} {d : Device} (hl : hasLink p d = true) (h0 : addr ≠ 0) (ha : addr = ipv4Of p d) (hs : portOd p 7 d ≠ 0) :
    arpRequest p addr d = portSend p (.arpReply addr) (ownFrame p d) := by
  have h4 : ipv4Of p (ownFrame p d) = addr := by rw [ipv4Of, (ownFrame_spoke p d).portOd, ha, ipv4Of]
  simp [arpRequest, hl, h0, h4, (ownFrame_spoke p d).portOd, hs]

/-- The port with its count of echoes begun anew, where a second has passed or none was answered. -/
def echoesBegun (p : Nat) (d : Device) : Device :=
  if (portOf p d).echoWindow + sec 1 ≤ d.time.now || (portOf p d).echoCount == 0 then
    onPort p (fun x => { x with echoWindow := d.time.now, echoCount := 0 }) d
  else d

theorem echoesBegun_alike (p : Nat) (d : Device) : AlikeOn p d (echoesBegun p d) := by
  unfold echoesBegun
  split_ifs
  · exact onPort_alike _ _ (fun _ => by exact ⟨rfl, rfl, rfl, rfl⟩) d
  · exact .refl ..

theorem echoesBegun_out (p : Nat) (d : Device) : d.out <+: (echoesBegun p d).out := by
  unfold echoesBegun
  split_ifs <;> exact List.prefix_rfl

/-- The port with one more echo to answer. -/
def echoCounted (p : Nat) (d : Device) : Device := onPort p (fun x => { x with echoCount := x.echoCount + 1 }) d

/-- An echo that is counted is answered. -/
theorem echoReply_posted {p : Nat} {data : Bytes} {a d : Device} (hl : hasLink p a = true) (h : AlikeOn p a d) (ho : a.out <+: d.out) :
    Posted p a (portSend p (.echoReply data) (ownFrame p (echoCounted p d))) (.port p (.echoReply data)) := by
  have hc : AlikeOn p d (echoCounted p d) := onPort_alike _ _ (fun _ => by exact ⟨rfl, rfl, rfl, rfl⟩) d
  have hs := ownFrame_spoke p (echoCounted p d)
  exact portSend_posted hl (h.trans (hc.trans (ownFrame_alike ..))) (ho.trans hs.out) (by simp)

theorem icmpEcho_enabled {p : Nat} {v6 : Bool} {data : Bytes} {d : Device} (hl : hasLink p d = true) (hs : portOd p (if v6 then 8 else 7) d ≠ 0) :
    icmpEcho p v6 data d = if (portOf p (echoesBegun p d)).echoCount < 1000 then
      portSend p (.echoReply data) (ownFrame p (echoCounted p (echoesBegun p d)))
    else macBump p 0x08 1 (echoesBegun p d) := by
  simp only [icmpEcho, hl, beq_eq_false_iff_ne.2 hs, Bool.not_true, Bool.false_eq_true, if_false]
  rfl

/-- A new second, or fewer than 1,000 answers in this one. -/
theorem echoesBegun_few {p : Nat} {d : Device} (hl : hasLink p d = true)
    (h : (portOf p d).echoWindow + sec 1 ≤ d.time.now ∨ (portOf p d).echoCount < 1000) : (portOf p (echoesBegun p d)).echoCount < 1000 := by
  unfold echoesBegun
  split_ifs with hc
  · rw [portOf_onPort_self (hasLink_lt hl)]
    exact Nat.zero_lt_succ _
  · simp only [Bool.or_eq_true, decide_eq_true_eq, not_or] at hc
    exact h.resolve_left hc.1

theorem echoesBegun_many {p : Nat} {d : Device} (hw : d.time.now < (portOf p d).echoWindow + sec 1) (hc : 1000 ≤ (portOf p d).echoCount) :
    echoesBegun p d = d := by
  have h0 : (portOf p d).echoCount ≠ 0 := by omega
  simp [echoesBegun, not_le.2 hw, h0]

/-- A path MTU from the network is kept for its connection. -/
theorem icmpUnreachable_path {p conn mtu : Nat} {d : Device} (hl : hasLink p d = true) :
    tblGet? (portOf p (icmpUnreachable p conn mtu d)).tcpPath conn = some mtu := by
  rw [icmpUnreachable, if_pos hl]
  obtain ⟨_, _, _, _, h⟩ := (ownFrame_spoke p (onPort p (fun x => { x with tcpPath := tblPut x.tcpPath conn mtu }) d)).portOf p
  rw [h, portOf_onPort_self (hasLink_lt hl)]
  exact tblGet?_tblPut_same ..

/-- The port with the MAXR2T that a connection asks for. -/
def maxR2tKept (p : Nat) (r : IcReq) (d : Device) : Device := onPort p (fun x => { x with maxR2t := tblStore 0 x.maxR2t r.conn r.maxR2t }) d

theorem icReq_accepted {p : Nat} {r : IcReq} {d : Device} (hl : hasLink p d = true) (hm : portMode p d ≠ 2) (ht : bit (portOd p 5 d) 0 = true)
    (hv : r.pfv = 0) (ha : r.hpda = 0) :
    icReq p r d = portSend p (.icResp r.hdrDigest r.dataDigest 0 (2 ^ 20)) (maxR2tKept p r d) := by
  simp [icReq, hl, hm, ht, hv, ha, maxR2tKept]

theorem icReq_refused {p : Nat} {r : IcReq} {d : Device} (hl : hasLink p d = true) (hm : portMode p d ≠ 2) (ht : bit (portOd p 5 d) 0 = true)
    (hv : r.pfv ≠ 0 ∨ r.hpda ≠ 0) : icReq p r d = portSend p .icRefused d := by
  simp [icReq, hl, hm, ht, hv]

theorem icReq_replication {p : Nat} {r : IcReq} {d : Device} (hl : hasLink p d = true) (hm : portMode p d = 2) :
    icReq p r d = portSend p .tcpReset d := by
  simp [icReq, hl, hm]

theorem maxR2t_stays {p : Nat} {a b : Device} (h : Spoke a b) : (portOf p b).maxR2t = (portOf p a).maxR2t := by
  obtain ⟨_, _, _, _, hx⟩ := h.portOf p
  rw [hx]

/-- A frame that was sent, or waits, still does after a count. -/
theorem Posted.macBump {p : Nat} {a b : Device} {o : Output} (h : Posted p a b o) (q n k : Nat) : Posted p a (macBump q n k b) o :=
  h.mono (macBump_spoke q n k b).out (by rw [macBump_waits])

/-! ## Queue pairs (R108, R114) -/

theorem Spoke.qpOf {a b : Device} (h : Spoke a b) (p qp : Nat) : qpOf p qp b = qpOf p qp a := by
  rw [Machine.qpOf, h.qps, Machine.qpOf]

/-- A queue pair that is changed under its own port and number is found again. -/
theorem qpOf_onQp {p qp : Nat} {f : QueuePair → QueuePair} {x : QueuePair} {d : Device} (h : qpOf p qp d = some x)
    (hf : ∀ y, (f y).port = y.port ∧ (f y).qp = y.qp) : qpOf p qp (onQp p qp f d) = some (f x) := by
  have hx : (x.port == p && x.qp == qp) = true := List.find?_some (p := fun y : QueuePair => y.port == p && y.qp == qp) h
  have hsame : (fun y : QueuePair => y.port == p && y.qp == qp) ∘ (fun y => if y.port == p && y.qp == qp then f y else y) =
      fun y => y.port == p && y.qp == qp := by
    funext y
    rw [Function.comp_apply]
    split_ifs
    · rw [(hf y).1, (hf y).2]
    · rfl
  show ((d.ports.qps.map _).find? _) = _
  rw [List.find?_map, hsame, show d.ports.qps.find? (fun y => y.port == p && y.qp == qp) = some x from h, Option.map_some, if_pos hx]

theorem onQp_alike (p n qp : Nat) (f : QueuePair → QueuePair) (d : Device) : AlikeOn p d (onQp n qp f d) := ⟨rfl, rfl, rfl, rfl⟩

theorem onQp_out (p qp : Nat) (f : QueuePair → QueuePair) (d : Device) : (onQp p qp f d).out = d.out := rfl

theorem onQp_countersStay (p : Nat) (ns : List Nat) (n qp : Nat) (f : QueuePair → QueuePair) (d : Device) :
    CountersStay p ns d (onQp n qp f d) := .of_ports rfl

/-- The device with a new queue pair, at line rate. -/
def qpMade (p qp : Nat) (d : Device) : Device :=
  { d with ports := { d.ports with qps := ⟨p, qp, lineRate, none, d.time.now⟩ :: d.ports.qps.filter fun x => !(x.port == p && x.qp == qp) } }

theorem qpOf_qpMade (p qp : Nat) (d : Device) : qpOf p qp (qpMade p qp d) = some ⟨p, qp, lineRate, none, d.time.now⟩ :=
  List.find?_cons_of_pos (by simp)

theorem roceConnect_accepted {p qp : Nat} {d : Device} (hl : hasLink p d = true) (hm : portMode p d ≠ 2) (hr : bit (portOd p 5 d) 1 = true) :
    roceConnect p qp d = portSend p (.roceAccept qp) (qpMade p qp d) := by
  simp [roceConnect, hl, hm, hr, qpMade]

theorem roceConnect_replication {p qp : Nat} {d : Device} (hl : hasLink p d = true) (hm : portMode p d = 2) :
    roceConnect p qp d = portSend p .roceReject d := by
  simp [roceConnect, hl, hm]

/-- The device once a CNP has come for a queue pair of a port. -/
def cnpReceived (p qp : Nat) (d : Device) : Device :=
  if hasLink p d then
    onQp p qp (fun x => { x with rate := x.rate / 2, lastCnpRecv := d.time.now }) (macBump p 0x10 1 (ownFrame p d))
  else d

/-- The device at time `due`, with the rate of a queue pair one step higher. -/
def rateRaised (p qp due : Nat) (d : Device) : Device :=
  let d := waitUntil due d
  onQp p qp (fun x => { x with rate := min lineRate (x.rate + rateStep), lastCnpRecv := d.time.now }) d

theorem rateRaised_now (p qp due : Nat) (d : Device) : due ≤ (rateRaised p qp due d).time.now := le_waitUntil due d

theorem qpOf_rateRaised {p qp due : Nat} {x : QueuePair} {d : Device} (h : qpOf p qp d = some x) : qpOf p qp (rateRaised p qp due d) =
    some { x with rate := min lineRate (x.rate + rateStep), lastCnpRecv := (rateRaised p qp due d).time.now } :=
  qpOf_onQp (d := waitUntil due d) (by rwa [qpOf, waitUntil_ports]) fun _ => ⟨rfl, rfl⟩

/-- 55 us after its last CNP a queue pair below line rate is raised. -/
theorem exec_rateIncreaseTimer {p qp : Nat} {x : QueuePair} {s : State} (hx : qpOf p qp s.dev = some x) (hr : x.rate < lineRate) :
    exec (.rateIncreaseTimer p qp) s = next s (rateRaised p qp (x.lastCnpRecv + us 55)) := by
  simp only [exec, execRateIncreaseTimer, next, hx, not_le.2 hr, if_false]
  rfl

/-- A packet with CE set, counted, before a CNP answers it. -/
def ceCounted (p : Nat) (d : Device) : Device := macBump p 0x0F 1 (ownFrame p d)

theorem ceCounted_spoke (p : Nat) (d : Device) : Spoke d (ceCounted p d) := (ownFrame_spoke ..).trans (macBump_spoke ..)

theorem ceCounted_alike (p : Nat) (d : Device) : AlikeOn p d (ceCounted p d) := (ownFrame_alike ..).trans (macBump_alike ..)

/-- The device whose queue pair sends a CNP now. -/
def cnpDue (p qp : Nat) (d : Device) : Device := onQp p qp (fun x => { x with lastCnpSent := some d.time.now }) (ceCounted p d)

/-- The CNP is sent, or waits behind a PAUSE or PFC frame. -/
theorem cnpDue_posted {p qp : Nat} {d : Device} (hl : hasLink p d = true) :
    Posted p d (portSend p (.cnp qp) (cnpDue p qp d)) (.port p (.cnp qp)) := by
  have ho : d.out <+: (cnpDue p qp d).out := by
    rw [cnpDue, onQp_out]
    exact (ceCounted_spoke p d).out
  exact portSend_posted hl ((ceCounted_alike ..).trans (onQp_alike ..)) ho (by simp)

theorem ecnCe_due {p qp : Nat} {x : QueuePair} {d : Device} (hl : hasLink p d = true) (hx : qpOf p qp d = some x)
    (h : ∀ a, x.lastCnpSent = some a → a + us 50 ≤ d.time.now) :
    ecnCe p qp d = macBump p 0x11 1 (portSend p (.cnp qp) (cnpDue p qp d)) := by
  have hs := ceCounted_spoke p d
  have hall : (x.lastCnpSent.all fun t => t + us 50 ≤ (ceCounted p d).time.now) = true := by
    rw [hs.time]
    simpa [Option.all_eq_true] using h
  have hq : qpOf p qp (macBump p 0x0F 1 (ownFrame p d)) = some x := (hs.qpOf p qp).trans hx
  have hall' : (x.lastCnpSent.all fun t => t + us 50 ≤ (macBump p 0x0F 1 (ownFrame p d)).time.now) = true := hall
  simp only [ecnCe, hl, hq, hall', Bool.not_true, Bool.false_eq_true, if_false, if_true]
  rw [show (macBump p 0x0F 1 (ownFrame p d)).time = d.time from hs.time]
  rfl

/-- Settles O23: each frame by the lemma of its own effect; what the port sends by `portSend_posted`, what it counts by `counts_macBump`. -/
theorem portTransport : Obligations.PortTransport := by
  unfold Obligations.PortTransport
  intro s p
  refine ⟨fun hl hm => ⟨fun f hs => ?bad, fun f hs hp hb hg => ⟨fun hc => ?good, fun q c hc hmode hq => ?capsule⟩, fun addr h0 ha hs => ?arp,
    fun v6 data hs => ⟨fun hw => ?echo, fun hw hc => ?echoMany⟩, fun conn mtu => ?path,
    fun r => ⟨fun h2 => ?tcpReset, fun h2 ht => ⟨fun hv ha => ?icResp, fun hv => ?icRefused⟩⟩,
    fun qp => ⟨fun h2 => ?roceReject, fun h2 hr => ?roceAccept⟩, fun qp x hx => ⟨?cnp, fun hd => ?ecn⟩⟩, fun qp x hx hr => ?rate⟩
  case bad =>
    have ht := frameTaken_bad hl hs
    refine gives_of_eq (f := frameReceive p f) rfl ?_
    rw [frameReceive_discarded (by rw [ht]), ht]
    exact ⟨(badFrame_nvme ..).trans (macBump_nvme ..), badFrame_counts hl hm⟩
  case good =>
    refine gives_of_eq (f := frameReceive p f) rfl ?_
    rw [frameReceive, frameTaken_good hl hs hp hb hg, hc]
    exact goodTaken_counts hl hm
  case capsule =>
    obtain ⟨h1, h2⟩ := goodTaken_counts (f := f) hl hm
    refine leads_of_eq (g := frameReceive p f) (u := goodTaken p f s.dev) rfl ?_ ⟨h1, h2, goodTaken_nvme ..⟩
    simp only [frameReceive, frameTaken_good hl hs hp hb hg, hc, hmode, hq, beq_self_eq_true, Bool.and_self, if_true, beq_iff_eq]
    split_ifs <;> rfl
  case arp =>
    refine gives_of_eq (f := arpRequest p addr) rfl ?_
    rw [arpRequest_ipv4 hl h0 ha hs]
    exact portSend_posted hl (ownFrame_alike ..) (ownFrame_spoke ..).out (by simp)
  case echo =>
    refine gives_of_eq (f := icmpEcho p v6 data) rfl ?_
    rw [icmpEcho_enabled hl hs, if_pos (echoesBegun_few hl hw)]
    exact echoReply_posted hl (echoesBegun_alike ..) (echoesBegun_out ..)
  case echoMany =>
    refine gives_of_eq (f := icmpEcho p v6 data) rfl ?_
    rw [icmpEcho_enabled hl hs, echoesBegun_many hw hc, if_neg (not_lt.2 hc)]
    exact counts_macBump (hasLink_lt hl) hm (by decide) (.refl p [] _) (by decide) (.refl p [] _) (by decide)
  case path => exact gives_of_eq (f := icmpUnreachable p conn mtu) rfl (icmpUnreachable_path hl)
  case tcpReset =>
    refine gives_of_eq (f := icReq p r) rfl ?_
    rw [icReq_replication hl h2]
    exact portSend_posted hl (.refl ..) List.prefix_rfl (by simp)
  case icResp =>
    refine gives_of_eq (f := icReq p r) rfl ?_
    rw [icReq_accepted hl h2 ht hv ha]
    refine ⟨portSend_posted hl (onPort_alike _ _ (fun _ => by exact ⟨rfl, rfl, rfl, rfl⟩) _) List.prefix_rfl (by simp), ?_⟩
    rw [maxR2t_stays (portSend_spoke ..), maxR2tKept, portOf_onPort_self (hasLink_lt hl)]
    exact tblGetD_tblStore_same ..
  case icRefused =>
    refine gives_of_eq (f := icReq p r) rfl ?_
    rw [icReq_refused hl h2 ht hv]
    exact portSend_posted hl (.refl ..) List.prefix_rfl (by simp)
  case roceReject =>
    refine gives_of_eq (f := roceConnect p qp) rfl ?_
    rw [roceConnect_replication hl h2]
    exact portSend_posted hl (.refl ..) List.prefix_rfl (by simp)
  case roceAccept =>
    refine gives_of_eq (f := roceConnect p qp) rfl ?_
    rw [roceConnect_accepted hl h2 hr]
    refine ⟨portSend_posted hl ⟨rfl, rfl, rfl, rfl⟩ List.prefix_rfl (by simp), ?_⟩
    rw [(portSend_spoke ..).qpOf, qpOf_qpMade]
  case cnp =>
    refine gives_of_eq (f := cnpReceived p qp) rfl ?_
    rw [cnpReceived, if_pos hl]
    have hs : Spoke s.dev (macBump p 0x10 1 (ownFrame p s.dev)) := (ownFrame_spoke ..).trans (macBump_spoke ..)
    exact ⟨qpOf_onQp ((hs.qpOf p qp).trans hx) fun _ => ⟨rfl, rfl⟩,
      counts_macBump (hasLink_lt hl) hm (by decide) (ownFrame_countersStay (ns := [1, 2]) (by decide) (by decide) _) (by decide)
        (onQp_countersStay p [] ..) (by decide)⟩
  case ecn =>
    refine gives_of_eq (f := ecnCe p qp) rfl ?_
    rw [ecnCe_due hl hx hd]
    refine ⟨(cnpDue_posted hl).macBump p 0x11 1, ?_, ?_⟩
    · rw [(macBump_spoke ..).qpOf, (portSend_spoke ..).qpOf]
      exact qpOf_onQp (((ceCounted_spoke ..).qpOf p qp).trans hx) fun _ => ⟨rfl, rfl⟩
    · exact counts_macBump (hasLink_lt hl) hm (by decide) (ownFrame_countersStay (ns := [1, 2]) (by decide) (by decide) _) (by decide)
        ((onQp_countersStay p [0x0B, 0x0C, 0x11] ..).trans
          ((sendOn_countersStay (by decide) (by decide) _ _).trans (macBump_countersStay (by decide) (by decide) _))) (by decide)
  case rate =>
    exact gives_of_eq (exec_rateIncreaseTimer hx hr) ⟨rateRaised_now .., qpOf_rateRaised hx⟩

end Sys2Proof.Machine
end

section
/-! SUPPORT. Links of the host ports and their flow control (R96, R98, R99, R105, R106). -/

namespace Sys2Proof.Machine

/-! ## Link up (R96, R98) -/

theorem portLanes_ne_zero {p : Nat} {d : Device} (h : portOd p 2 d ≤ 2) : portLanes p d ≠ 0 := by
  unfold portLanes
  generalize portOd p 2 d = k at h
  interval_cases k <;> decide

/-- The port with the lanes of its speed powered. -/
def lanesPowered (p : Nat) (d : Device) : Device := onPort p (fun x => { x with lanes := portLanes p d }) d

/-- An enabled port of a running device, NET powered, takes link on all its lanes; on fewer it trains. -/
theorem portUp_enabled {p lanes : Nat} {d : Device} (hp : p < d.ports.ports.length) (hm : portMode p d ≠ 0) (hd : domainOn 22 d = true)
    (hu : isUp d = true) (h2 : portOd p 2 d ≤ 2) : portUp p lanes d =
      setLink p (if lanes = portLanes p d then 2 else 1) { lanesPowered p d with power := { d.power with sdclk := true } } := by
  have hpow : powerPort p d = lanesPowered p d := by
    simp [powerPort, hm, hd, hu, lanesPowered]
  have hlanes : (portOf p (lanesPowered p d)).lanes = portLanes p d := by rw [lanesPowered, portOf_onPort_self hp]
  simp only [portUp, hpow, hlanes, beq_eq_false_iff_ne.2 (portLanes_ne_zero h2), Bool.false_eq_true, if_false, beq_iff_eq]
  rfl

theorem setLink_portOf {p st : Nat} {d : Device} (hp : p < d.ports.ports.length) : portOf p (setLink p st d) = { portOf p d with link := st } :=
  portOf_onPort_self hp _

theorem setLink_odVal (p st : Nat) (d : Device) : odVal (0x2300 + p) 3 (setLink p st d) = st := odVal_odPut ..

/-! ## Link down (R99, R480) -/

/-- The port without link: nothing waits, nothing holds it or its partner. -/
def linkCut (p : Nat) (d : Device) : Device :=
  setLink p 0 (onPort p (fun x => { x with pausedUntil := none, pfcUntil := List.replicate 8 none, txWait := [], pauseSent := false }) d)

/-- The frames that waited are counted, and the sessions on the port pause. -/
def linkEnded (p : Nat) (d : Device) : Device :=
  let u := powerPort p (macBump p 0x0E (portOf p d).txWait.length (linkCut p d))
  ((List.range 16).filter fun n => sessionPort n u == p).foldl (fun d n => remoteLoss n d) u

theorem portDown_eq (p : Nat) (d : Device) :
    portDown p d = if (portOf p d).link == 2 then macBump p 0x14 1 (linkEnded p d) else linkEnded p d := rfl

theorem linkEnded_ports (p : Nat) (d : Device) :
    (linkEnded p d).ports = (powerPort p (macBump p 0x0E (portOf p d).txWait.length (linkCut p d))).ports :=
  foldl_eq_of_step Device.ports (fun d n => remoteLoss_ports n d) _ _

theorem macBump_paused (p q n k : Nat) (d : Device) : (portOf q (macBump p n k d)).pausedUntil = (portOf q d).pausedUntil := by
  obtain ⟨_, _, h⟩ := macBump_portOf p q n k d
  rw [h]
  split_ifs <;> rfl

/-- But for its counters the port is cut. -/
theorem linkEnded_cut {p : Nat} {d : Device} (hp : p < d.ports.ports.length) :
    (portOf p (linkEnded p d)).txWait = [] ∧ (portOf p (linkEnded p d)).pausedUntil = none := by
  have hlen : (linkCut p d).ports.ports.length = d.ports.ports.length := (onPort_ports_length ..).trans (onPort_ports_length ..)
  have hcut : portOf p (linkCut p d) = { portOf p d with
      link := 0, pausedUntil := none, pfcUntil := List.replicate 8 none, txWait := [], pauseSent := false } := by
    rw [linkCut, setLink_portOf (by rwa [onPort_ports_length]), portOf_onPort_self hp]
  have hl : portOf p (linkEnded p d) = portOf p (powerPort p (macBump p 0x0E (portOf p d).txWait.length (linkCut p d))) := by
    rw [portOf, linkEnded_ports]
    rfl
  rw [hl, powerPort, portOf_onPort_self (by rwa [macBump_ports_length, hlen])]
  refine ⟨?_, ?_⟩
  · rw [macBump_waits, hcut]
  · rw [macBump_paused, hcut]

theorem portDown_cut {p : Nat} {d : Device} (hp : p < d.ports.ports.length) :
    (portOf p (portDown p d)).txWait = [] ∧ (portOf p (portDown p d)).pausedUntil = none := by
  rw [portDown_eq]
  split_ifs
  · rw [macBump_waits, macBump_paused]
    exact linkEnded_cut hp
  · exact linkEnded_cut hp

theorem linkCut_countersStay (p : Nat) (ns : List Nat) (d : Device) : CountersStay p ns d (linkCut p d) :=
  .trans (onPort_countersStay (fun _ => by rfl) d) (.trans (onPort_countersStay (fun _ => by rfl) _) (.of_ports rfl))

theorem linkEnded_countersStay (p : Nat) (ns : List Nat) (d : Device) :
    CountersStay p ns (macBump p 0x0E (portOf p d).txWait.length (linkCut p d)) (linkEnded p d) := by
  refine .trans (b := powerPort p (macBump p 0x0E (portOf p d).txWait.length (linkCut p d))) ?_ (.of_ports (by rw [linkEnded_ports]))
  exact onPort_countersStay (fun _ => by rfl) _

/-- The frames that waited are counted, and the loss where there was link. -/
theorem portDown_counts {p : Nat} {d : Device} (hp : p < d.ports.ports.length) (hm : (portOf p d).mac.length = 21) :
    Counts p 0x0E (portOf p d).txWait.length d (portDown p d) ∧ ((portOf p d).link = 2 → Counts p 0x14 1 d (portDown p d)) := by
  rw [portDown_eq]
  refine ⟨?_, fun hl => ?_⟩
  · exact counts_macBump hp hm (by decide) (linkCut_countersStay p [] d) (by decide)
      ((linkEnded_countersStay p [0x14] d).trans (.ite (macBump_countersStay (by decide) (by decide) _))) (by decide)
  · rw [if_pos (beq_iff_eq.2 hl)]
    exact counts_macBump hp hm (by decide)
      ((linkCut_countersStay p [0x0E] d).trans ((macBump_countersStay (by decide) (by decide) _).trans (linkEnded_countersStay ..))) (by decide)
      (.refl p [] _) (by decide)

/-! ## PAUSE and PFC sent (R105) -/

theorem sendNow_sent {p : Nat} {o : Output} {a d : Device} (h : a.out <+: d.out) : Sent a (sendNow p o d) o :=
  (sent_emit h).mono ((macBump_spoke ..).trans (macBump_spoke ..)).out

/-- The port that holds its sender, with the time at which it renews this. -/
def senderHeld (p : Nat) (d : Device) : Device :=
  onPort p (fun x => { x with pauseSent := true, pauseRenewAt := d.time.now + quantaTicks p 0xFFFF d / 2 }) d

/-- The port that holds its sender no more. -/
def senderFreed (p : Nat) (d : Device) : Device := onPort p (fun x => { x with pauseSent := false }) d

/-- A frame of flow control, sent and counted. -/
def flowSent (p : Nat) (f : PortFrame) (d : Device) : Device := macBump p 0x0D 1 (sendNow p (.port p f) d)

theorem holdSender_pause {p : Nat} {d : Device} (h : portOd p 0x0B d = 1) : holdSender p d = flowSent p (.pause 0xFFFF) (senderHeld p d) := by
  have h' : portOd p 0x0B (senderHeld p d) = 1 := h
  show macBump p 0x0D 1 (portSend p (if portOd p 0x0B (senderHeld p d) == 1 then _ else _) (senderHeld p d)) = _
  rw [h']
  rfl

theorem holdSender_pfc {p : Nat} {d : Device} (h : portOd p 0x0B d = 2) :
    holdSender p d = flowSent p (.pfc (portOd p 0x0C d) Config.pfcQuanta) (senderHeld p d) := by
  have h' : portOd p 0x0B (senderHeld p d) = 2 := h
  show macBump p 0x0D 1 (portSend p (if portOd p 0x0B (senderHeld p d) == 1 then _ else _) (senderHeld p d)) = _
  rw [h']
  rfl

theorem freeSender_pause {p : Nat} {d : Device} (h : portOd p 0x0B d = 1) : freeSender p d = flowSent p (.pause 0) (senderFreed p d) := by
  have h' : portOd p 0x0B (senderFreed p d) = 1 := h
  show macBump p 0x0D 1 (portSend p (if portOd p 0x0B (senderFreed p d) == 1 then _ else _) (senderFreed p d)) = _
  rw [h']
  rfl

theorem flowSent_spoke (p : Nat) (f : PortFrame) (d : Device) : Spoke d (flowSent p f d) := (sendNow_spoke ..).trans (macBump_spoke ..)

theorem flowSent_sent {p : Nat} {f : PortFrame} {a d : Device} (h : a.out <+: d.out) : Sent a (flowSent p f d) (.port p f) :=
  (sendNow_sent h).mono (macBump_spoke ..).out

theorem flowSent_counts {p : Nat} {f : PortFrame} {a d : Device} (hp : p < a.ports.ports.length) (hm : (portOf p a).mac.length = 21)
    (h : CountersStay p [0x0B, 0x0C] a d) : Counts p 0x0D 1 a (flowSent p f d) :=
  counts_macBump hp hm (by decide) (h.trans (sendNow_countersStay (by decide) (by decide) ..)) (by decide) (.refl p [] _) (by decide)

theorem flowSent_port (p : Nat) (f : PortFrame) (d : Device) :
    (portOf p (flowSent p f d)).pauseSent = (portOf p d).pauseSent ∧ (portOf p (flowSent p f d)).rxFill = (portOf p d).rxFill := by
  obtain ⟨_, _, _, _, h⟩ := (flowSent_spoke p f d).portOf p
  rw [h]
  exact ⟨rfl, rfl⟩

/-- The port with the fill of its receive buffer. -/
def rxFilled (p fill : Nat) (d : Device) : Device := onPort p (fun x => { x with rxFill := min fill rxBuffer }) d

/-- The thresholds of the receive buffer on a port with link and flow control. -/
theorem receiveBuffer_linked {p fill : Nat} {d : Device} (hl : hasLink p d = true) (hm : portOd p 0x0B d ≠ 0) : receiveBuffer p fill d =
    if rxBuffer * 3 / 4 ≤ fill ∧ (portOf p d).pauseSent = false then holdSender p (rxFilled p fill d)
    else if fill ≤ rxBuffer / 2 ∧ (portOf p d).pauseSent = true then freeSender p (rxFilled p fill d)
    else rxFilled p fill d := by
  have hport := portOf_onPort_self (hasLink_lt hl) fun x => { x with rxFill := min fill rxBuffer }
  have hl' : hasLink p (rxFilled p fill d) = true := by rwa [hasLink, rxFilled, hport]
  have hm' : portOd p 0x0B (rxFilled p fill d) ≠ 0 := hm
  have hs : (portOf p (rxFilled p fill d)).pauseSent = (portOf p d).pauseSent := by rw [rxFilled, hport]
  show (if (!hasLink p (rxFilled p fill d) || portOd p 0x0B (rxFilled p fill d) == 0) = true then _ else
    if (decide (rxBuffer * 3 / 4 ≤ fill) && !(portOf p (rxFilled p fill d)).pauseSent) = true then _ else
    if (decide (fill ≤ rxBuffer / 2) && (portOf p (rxFilled p fill d)).pauseSent) = true then _ else _) = _
  simp only [hl', hs, beq_eq_false_iff_ne.2 hm', Bool.not_true, Bool.or_self, Bool.false_eq_true, if_false, Bool.and_eq_true, decide_eq_true_eq,
    Bool.not_eq_true']
  rfl

/-- The sender is held, and told so at once. -/
theorem flowSent_held {p : Nat} {f : PortFrame} {a d : Device} (hp : p < a.ports.ports.length) (hm : (portOf p a).mac.length = 21)
    (h : CountersStay p [0x0B, 0x0C] a d) (ho : a.out <+: d.out) :
    Sent a (flowSent p f (senderHeld p d)) (.port p f) ∧ (portOf p (flowSent p f (senderHeld p d))).pauseSent = true ∧
      (portOf p (flowSent p f (senderHeld p d))).rxFill = (portOf p d).rxFill ∧ Counts p 0x0D 1 a (flowSent p f (senderHeld p d)) := by
  obtain ⟨hs, hr⟩ := flowSent_port p f (senderHeld p d)
  have hport := portOf_onPort_self (d := d) (by rwa [h.ports]) fun x =>
    { x with pauseSent := true, pauseRenewAt := d.time.now + quantaTicks p 0xFFFF d / 2 }
  have ho' : a.out <+: (senderHeld p d).out := ho
  refine ⟨flowSent_sent ho', ?_, ?_, flowSent_counts hp hm (h.trans (onPort_countersStay (fun _ => by rfl) d))⟩
  · rw [hs, senderHeld, hport]
  · rw [hr, senderHeld, hport]

/-- A PAUSE is renewed at its time. -/
def pauseRenewed (p : Nat) (d : Device) : Device := holdSender p (waitUntil (portOf p d).pauseRenewAt d)

theorem exec_pauseRenewal {p : Nat} {s : State} (hl : hasLink p s.dev = true) (hs : (portOf p s.dev).pauseSent = true)
    (hm : portOd p 0x0B s.dev = 1) : exec (.pauseRenewal p) s = next s (pauseRenewed p) := by
  simp only [exec, execPauseRenewal, next, hl, hs, hm, beq_self_eq_true, Bool.and_self, if_true]
  rfl

/-! ## PAUSE and PFC received (R106) -/

/-- A PAUSE or PFC frame, counted. -/
def pauseCounted (p : Nat) (d : Device) : Device := macBump p 0x0A 1 (goodFrame p 64 d)

theorem pauseCounted_spoke (p : Nat) (d : Device) : Spoke d (pauseCounted p d) := (goodFrame_spoke ..).trans (macBump_spoke ..)

theorem pauseCounted_alike (p : Nat) (d : Device) : AlikeOn p d (pauseCounted p d) := (goodFrame_alike ..).trans (macBump_alike ..)

/-- How long a pause of some quanta, received now, holds the port. -/
def pauseHold (p quanta : Nat) (d : Device) : Option Nat :=
  if quanta == 0 then none else some (d.time.now + quantaTicks p (quanta % 65536) d)

theorem pauseHold_counted (p quanta : Nat) (d : Device) : pauseHold p quanta (pauseCounted p d) = pauseHold p quanta d := by
  have h := pauseCounted_spoke p d
  simp only [pauseHold, quantaTicks, h.time, h.portOd]

/-- The port that a PAUSE holds. -/
def portPaused (p : Nat) (hold : Option Nat) (d : Device) : Device := onPort p (fun x => { x with pausedUntil := hold }) d

/-- The port some of whose priorities PFC holds. -/
def portPfc (p prio : Nat) (hold : Option Nat) (d : Device) : Device :=
  onPort p (fun x => { x with pfcUntil := x.pfcUntil.mapIdx fun n t => if bit prio n && bit (portOd p 0x0C d) n then hold else t }) d

/-- What a port with link does with a PAUSE or PFC frame once it is counted. -/
def pauseTaken (p : Nat) (pfc : Bool) (prio quanta : Nat) (d : Device) : Device :=
  if pfc && portOd p 0x0B d == 2 then flushPort (portPfc p prio (pauseHold p quanta d) d) p
  else if !pfc && portOd p 0x0B d == 1 then flushPort (portPaused p (pauseHold p quanta d) d) p
  else d

theorem pauseReceive_linked {p prio quanta : Nat} {pfc : Bool} {d : Device} (hl : hasLink p d = true) :
    pauseReceive p pfc prio quanta d = pauseTaken p pfc prio quanta (pauseCounted p d) := by
  unfold pauseReceive pauseCounted
  rw [hl, Bool.not_true, if_neg Bool.false_ne_true]
  generalize macBump p 0x0A 1 (goodFrame p 64 d) = u
  rfl

theorem pauseReceive_pause {p prio quanta : Nat} {d : Device} (hl : hasLink p d = true) : pauseReceive p false prio quanta d =
    if portOd p 0x0B d == 1 then flushPort (portPaused p (pauseHold p quanta d) (pauseCounted p d)) p else pauseCounted p d := by
  rw [pauseReceive_linked hl, pauseTaken, (pauseCounted_spoke p d).portOd, pauseHold_counted, Bool.false_and, if_neg Bool.false_ne_true,
    Bool.not_false, Bool.true_and]

theorem pauseReceive_pfc {p prio quanta : Nat} {d : Device} (hl : hasLink p d = true) (hm : portOd p 0x0B d = 2) :
    pauseReceive p true prio quanta d = flushPort (portPfc p prio (pauseHold p quanta d) (pauseCounted p d)) p := by
  rw [pauseReceive_linked hl, pauseTaken, (pauseCounted_spoke p d).portOd, pauseHold_counted, Bool.true_and, if_pos (beq_iff_eq.2 hm)]

/-- Quanta 0 hold nothing. -/
theorem pauseHold_eq (p quanta : Nat) (d : Device) :
    pauseHold p quanta d = if quanta = 0 then none else some (d.time.now + quantaTicks p (quanta % 65536) d) := by
  simp only [pauseHold, beq_iff_eq]

theorem flushPort_holds (p : Nat) (d : Device) :
    (portOf p (flushPort d p)).pausedUntil = (portOf p d).pausedUntil ∧ (portOf p (flushPort d p)).pfcUntil = (portOf p d).pfcUntil := by
  obtain ⟨_, _, _, _, h⟩ := (flushPort_spoke p d).portOf p
  rw [h]
  exact ⟨rfl, rfl⟩

theorem foldl_sendNow_sent {p : Nat} {a : Device} (l : List Output) {d : Device} (h : a.out <+: d.out) :
    ∀ o ∈ l, Sent a (l.foldl (fun d o => sendNow p o d) d) o := by
  induction l generalizing d with
  | nil => exact fun _ ho => absurd ho List.not_mem_nil
  | cons x l ih =>
    have hx := sendNow_spoke p x d
    intro o ho
    rcases List.mem_cons.1 ho with rfl | ho
    · exact (sendNow_sent h).mono (Spoke.foldl (fun d o => sendNow_spoke p o d) l _).out
    · exact ih (h.trans hx.out) o ho

/-- What waited on a port that nothing holds any more goes out. -/
theorem flushPort_sent {p : Nat} {a d : Device} (h : pausedNow p d = false) (ho : a.out <+: d.out) :
    ∀ o ∈ (portOf p d).txWait, Sent a (flushPort d p) o := by
  intro o hw
  have hne : (portOf p d).txWait.isEmpty = false := List.isEmpty_eq_false_iff_exists_mem.2 ⟨o, hw⟩
  unfold flushPort
  rw [hne, h, Bool.or_self, if_neg Bool.false_ne_true]
  exact foldl_sendNow_sent (d := onPort p _ d) _ ho o hw

theorem pauseCounted_counts {p : Nat} {d t : Device} (hp : p < d.ports.ports.length) (hm : (portOf p d).mac.length = 21)
    (h : CountersStay p [0x0B, 0x0C] (pauseCounted p d) t) : Counts p 0x0A 1 d t :=
  counts_macBump hp hm (by decide) (goodFrame_countersStay (ns := [1, 2]) (by decide) (by decide) d) (by decide) h (by decide)

theorem pauseCounted_pausedUntil (p : Nat) (d : Device) : (portOf p (pauseCounted p d)).pausedUntil = (portOf p d).pausedUntil := by
  obtain ⟨_, _, _, _, h⟩ := (pauseCounted_spoke p d).portOf p
  rw [h]

theorem pauseCounted_pfcUntil (p : Nat) (d : Device) : (portOf p (pauseCounted p d)).pfcUntil = (portOf p d).pfcUntil := by
  obtain ⟨_, _, _, _, h⟩ := (pauseCounted_spoke p d).portOf p
  rw [h]

theorem portPaused_out (p : Nat) (hold : Option Nat) (d : Device) : (portPaused p hold d).out = d.out := rfl

theorem portPaused_portOd (p n sub : Nat) (hold : Option Nat) (d : Device) : portOd n sub (portPaused p hold d) = portOd n sub d := rfl

theorem portPaused_portOf {p : Nat} {d : Device} (hp : p < d.ports.ports.length) (hold : Option Nat) :
    portOf p (portPaused p hold d) = { portOf p d with pausedUntil := hold } := portOf_onPort_self hp _

/-- In mode 1 a PAUSE of quanta 0 holds nothing any more. -/
theorem pausedNow_released {p : Nat} {d : Device} (hp : p < d.ports.ports.length) (hm : portOd p 0x0B d = 1) :
    pausedNow p (portPaused p none d) = false := by
  rw [pausedNow, portPaused_portOd, hm, portPaused_portOf hp]
  rfl

/-- What a PAUSE of quanta 0 lets go: all that waited before it. -/
theorem unpaused_sent {p : Nat} {d : Device} (hl : hasLink p d = true) (hm : portOd p 0x0B d = 1) :
    ∀ o ∈ (portOf p d).txWait, Sent d (flushPort (portPaused p none (pauseCounted p d)) p) o := by
  have hs := pauseCounted_spoke p d
  have hp : p < (pauseCounted p d).ports.ports.length := hasLink_lt (by rwa [hs.hasLink])
  have hm' : portOd p 0x0B (pauseCounted p d) = 1 := (hs.portOd ..).trans hm
  have hw : (portOf p (portPaused p none (pauseCounted p d))).txWait = (portOf p d).txWait := by
    rw [portPaused_portOf hp, ← (pauseCounted_alike p d).waits]
  have ho : d.out <+: (portPaused p none (pauseCounted p d)).out := by
    rw [portPaused_out]
    exact hs.out
  rw [← hw]
  exact flushPort_sent (pausedNow_released hp hm') ho

/-- Settles O24: link by what `portUp` and `portDown` leave of the port; flow control by `flowSent_held` for what is sent and by
`flushPort_holds` and `flushPort_sent` for what is received. -/
theorem portLinks : Obligations.PortLinks := by
  unfold Obligations.PortLinks
  intro s p hp hm
  refine ⟨fun lanes h0 hd hu h2 => ?up, ?down, fun hl => ⟨fun fill hf hs => ⟨fun h1 => ?holdPause, fun h2 => ?holdPfc⟩,
    fun fill hf hs h1 => ?free, fun hs h1 => ?renew, fun prio quanta => ?pause, fun prio quanta n h2 h8 hn => ?pfc⟩⟩
  case up =>
    refine gives_of_eq (f := portUp p lanes) rfl ?_
    rw [portUp_enabled hp h0 hd hu h2, setLink_odVal, setLink_portOf (by rwa [lanesPowered, onPort_ports_length])]
    refine ⟨rfl, rfl, ?_, rfl⟩
    show (portOf p (lanesPowered p s.dev)).lanes = _
    rw [lanesPowered, portOf_onPort_self hp]
  case down =>
    refine gives_of_eq (f := portDown p) rfl ⟨?_, (portDown_cut hp).1, (portDown_cut hp).2, portDown_counts hp hm⟩
    rw [portDown_link, if_pos rfl]
  case holdPause =>
    refine gives_of_eq (f := receiveBuffer p fill) rfl ?_
    rw [receiveBuffer_linked hl (by rw [h1]; decide), if_pos ⟨hf, hs⟩, holdSender_pause (d := rxFilled p fill s.dev) h1]
    obtain ⟨ht, hp', hr, hc⟩ := flowSent_held (f := .pause 0xFFFF) (d := rxFilled p fill s.dev) hp hm
      (onPort_countersStay (fun _ => by rfl) _) List.prefix_rfl
    refine ⟨ht, hp', ?_, hc⟩
    rw [hr, rxFilled, portOf_onPort_self hp]
  case holdPfc =>
    refine gives_of_eq (f := receiveBuffer p fill) rfl ?_
    rw [receiveBuffer_linked hl (by rw [h2]; decide), if_pos ⟨hf, hs⟩, holdSender_pfc (d := rxFilled p fill s.dev) h2]
    obtain ⟨ht, hp', -, hc⟩ := flowSent_held (f := .pfc (portOd p 0x0C s.dev) Config.pfcQuanta) (d := rxFilled p fill s.dev) hp hm
      (onPort_countersStay (fun _ => by rfl) _) List.prefix_rfl
    exact ⟨hp', hc, _, ht⟩
  case free =>
    refine gives_of_eq (f := receiveBuffer p fill) rfl ?_
    have hno : ¬ (rxBuffer * 3 / 4 ≤ fill ∧ (portOf p s.dev).pauseSent = false) := fun h => by simp [hs] at h
    rw [receiveBuffer_linked hl (by rw [h1]; decide), if_neg hno, if_pos ⟨hf, hs⟩, freeSender_pause (d := rxFilled p fill s.dev) h1]
    refine ⟨flowSent_sent List.prefix_rfl, ?_⟩
    rw [(flowSent_port ..).1, senderFreed, portOf_onPort_self (by rwa [rxFilled, onPort_ports_length])]
  case renew =>
    refine gives_of_eq (exec_pauseRenewal hl hs h1) ?_
    have hm1 : portOd p 0x0B (waitUntil (portOf p s.dev).pauseRenewAt s.dev) = 1 := by rwa [portOd, odVal_waitUntil]
    obtain ⟨ht, hp', -, -⟩ := flowSent_held (f := .pause 0xFFFF) (d := waitUntil (portOf p s.dev).pauseRenewAt s.dev) hp hm
      (.of_ports (by rw [waitUntil_ports])) (by rw [waitUntil_out])
    rw [pauseRenewed, holdSender_pause hm1]
    refine ⟨?_, ht, hp'⟩
    rw [(flowSent_spoke ..).time]
    exact le_waitUntil ..
  case pause =>
    refine gives_of_eq (f := pauseReceive p false prio quanta) rfl ?_
    have hp' : p < (pauseCounted p s.dev).ports.ports.length := hasLink_lt (by rwa [(pauseCounted_spoke ..).hasLink])
    rw [pauseReceive_pause hl]
    refine ⟨pauseCounted_counts hp hm (.ite ?_), fun h1 => ?_, fun h1 h0 => ?_, fun h1 => ?_⟩
    · exact (onPort_countersStay (fun _ => by rfl) _).trans (flushPort_countersStay (by decide) (by decide) _)
    · rw [if_pos (beq_iff_eq.2 h1), (flushPort_holds ..).1, portPaused_portOf hp', pauseHold_eq]
    · rw [if_pos (beq_iff_eq.2 h1), h0]
      exact unpaused_sent hl h1
    · rw [if_neg fun h => h1 (beq_iff_eq.1 h), pauseCounted_pausedUntil]
  case pfc =>
    refine gives_of_eq (f := pauseReceive p true prio quanta) rfl ?_
    have hp' : p < (pauseCounted p s.dev).ports.ports.length := hasLink_lt (by rwa [(pauseCounted_spoke ..).hasLink])
    have hn' : n < (portOf p s.dev).pfcUntil.length := h8 ▸ hn
    rw [pauseReceive_pfc hl h2, (flushPort_holds ..).2, portPfc, portOf_onPort_self hp', pauseCounted_pfcUntil, (pauseCounted_spoke ..).portOd,
      pauseHold_eq]
    simp only [List.getD_eq_getElem?_getD, List.getElem?_mapIdx, List.getElem?_eq_getElem hn', Option.map_some, Option.getD_some,
      Bool.and_eq_true]

end Sys2Proof.Machine
end

section
/-! SUPPORT. Owner records, and the reads that clear what they report (R118, R119, R426, R527 to R529). -/

namespace Sys2Proof.Machine

/-! ## Owner records (R527 to R529) -/

theorem setOwner_same {n : Nat} {o : Owner} {d : Device} (hl : d.sec.owners.length = 15) (hn : 1 ≤ n ∧ n ≤ 15) :
    ownerOf n (setOwner n o d) = o := by
  have hlt : n - 1 < d.sec.owners.length := by omega
  show (d.sec.owners.set (n - 1) o).getD (n - 1) _ = o
  rw [List.getD_eq_getElem?_getD, List.getElem?_set_self hlt, Option.getD_some]

theorem sharedWay_alone {d : Device} (h : noServingPeer d = true) : sharedWay d = some 0 := by rw [sharedWay, if_pos h]

/-- An enrolment that passes its checks names one of the 15 records. -/
theorem enrolCheck_number {acc : Accessor} {v : Bytes} {d : Device} {n : Nat} {key secret : Bytes} (h : enrolCheck acc v d = .ok (n, key, secret)) :
    1 ≤ n ∧ n ≤ 15 := by
  unfold enrolCheck at h
  extract_lets n0 pub k sec at h
  split at h
  · cases h
  split at h
  · cases h
  next hb =>
    have hn : n0 = n := by
      split at h
      · cases h
      · cases h
      · split_ifs at h <;> exact congrArg Prod.fst (Except.ok.inj h)
    simp only [hn, Bool.or_eq_true, beq_iff_eq, decide_eq_true_eq, not_or] at hb
    omega

/-- The record that an enrolment makes valid. -/
def ownerEnrolled (n : Nat) (key secret : Bytes) (d : Device) : Device := ownerEvent 1 n (setOwner n ⟨.valid, key, secret⟩ d)

theorem ownerEnrol_alone {acc : Accessor} {r : ReplyTo} {v : Bytes} {d : Device} {n : Nat} {key secret : Bytes} (hp : noServingPeer d = true)
    (ho : d.sec.otpWorks = true) (hc : enrolCheck acc v d = .ok (n, key, secret)) :
    ownerEnrol acc r v d = .done (ownerEnrolled n key secret d) := by
  obtain ⟨h1, h15⟩ := enrolCheck_number hc
  simp only [ownerEnrol, hc, sharedWay_alone hp, programOwner, ho, h1, h15, decide_true, Bool.and_self, if_true, beq_self_eq_true]
  rfl

theorem ownerRevoke_alone {acc : Accessor} {r : ReplyTo} {n : Nat} {d : Device} (hp : noServingPeer d = true) (hn : n ≠ 0)
    (hv : (ownerOf n d).st = .valid) (h1 : (validOwners d).length ≠ 1) : ownerRevoke acc r n d = .done (revokeOwner n d) := by
  simp [ownerRevoke, hv, hn, h1, sharedWay_alone hp]

/-- A valid record is one of the 15: beyond them a record reads as spent. -/
theorem ownerOf_valid_le {n : Nat} {d : Device} (hl : d.sec.owners.length = 15) (hv : (ownerOf n d).st = .valid) : n ≤ 15 := by
  by_contra hn
  rw [ownerOf, List.getD_eq_getElem?_getD, List.getElem?_eq_none (by omega), Option.getD_none] at hv
  cases hv

/-- The device as a write of an owner entry finds it: the session stays open, an open assembly is over. -/
def ownerTouched (acc : Accessor) (sub : Nat) (d : Device) : Device := touchIf acc 0x3220 sub (endAssembly acc d)

theorem ownerTouched_eq (acc : Accessor) (sub : Nat) (d : Device) : ∃ x, ownerTouched acc sub d = { d with dict := x } := by
  obtain ⟨l, h⟩ := touchIf_eq acc 0x3220 sub (endAssembly acc d)
  rw [ownerTouched, h]
  exact ⟨_, rfl⟩

/-- The checks of an enrolment do not depend on open assemblies. -/
theorem enrolCheck_endAssembly (acc a : Accessor) (v : Bytes) (d : Device) : enrolCheck acc v (endAssembly a d) = enrolCheck acc v d := by
  have hadmin : (endAssembly a d).admin = d.admin := rfl
  have hcipher : (endAssembly a d).cipher = d.cipher := rfl
  have howner : ownerOf (leAt v 0 1) (endAssembly a d) = ownerOf (leAt v 0 1) d := rfl
  have howned : isOwned (endAssembly a d) = isOwned d := rfl
  have hstrap : strap 8 (endAssembly a d) = strap 8 d := rfl
  have hsession : hasSession acc (endAssembly a d) = hasSession acc d := rfl
  unfold enrolCheck
  dsimp only
  rw [hadmin, hcipher, howner, howned, hstrap, hsession]

theorem enrolCheck_touched (acc : Accessor) (v : Bytes) (d : Device) :
    enrolCheck acc v (ownerTouched acc 1 d) = enrolCheck acc v (touchIf acc 0x3220 1 d) := by
  rw [ownerTouched, touchIf_endAssembly, enrolCheck_endAssembly]

/-- An enrolment that is done is confirmed, and its record is valid. -/
theorem gives_enrolled {s : State} {acc : Accessor} {v : Bytes} {n : Nat} {key secret : Bytes} (ht : TakesWrite acc 0x3220 1 v s.dev)
    (hp : noServingPeer s.dev = true) (ho : s.dev.sec.otpWorks = true) (hl : s.dev.sec.owners.length = 15)
    (hc : enrolCheck acc v (touchIf acc 0x3220 1 s.dev) = .ok (n, key, secret)) :
    Gives (.ownerEnrol acc v) s fun t => ownerOf n t = ⟨.valid, key, secret⟩ ∧ Confirms acc 0x3220 1 s.dev t := by
  rw [← enrolCheck_touched] at hc
  obtain ⟨x, hx⟩ := ownerTouched_eq acc 1 s.dev
  have hd : ownerEnrol acc (.accessor acc) v (ownerTouched acc 1 s.dev) = .done (ownerEnrolled n key secret (ownerTouched acc 1 s.dev)) :=
    ownerEnrol_alone (by rw [hx]; exact hp) (by rw [hx]; exact ho) hc
  refine gives_confirmed rfl ht.wayOpen (odWrite_command ht (by decide) (congrArg some hd)) (by rw [hx]; exact List.prefix_rfl) fun _ _ => ?_
  rw [hx]
  exact setOwner_same (d := { s.dev with dict := x }) hl (enrolCheck_number hc)

/-- A revocation that is done is confirmed; the record is revoked, and the sessions that it opened are closed. -/
theorem gives_revoked {s : State} {acc : Accessor} {n : Nat} (hn : n < 256) (ht : TakesWrite acc 0x3220 2 [BitVec.ofNat 8 n] s.dev)
    (hp : noServingPeer s.dev = true) (hl : s.dev.sec.owners.length = 15) (h0 : n ≠ 0) (hv : (ownerOf n s.dev).st = .valid)
    (h1 : (validOwners s.dev).length ≠ 1) : Gives (.ownerRevoke acc n) s fun t =>
      (ownerOf n t = { ownerOf n s.dev with st := .revoked } ∧ ∀ x ∈ t.dict.sessions, x.record ≠ n) ∧ Confirms acc 0x3220 2 s.dev t := by
  obtain ⟨x, hx⟩ := ownerTouched_eq acc 2 s.dev
  have hv8 : leNat [BitVec.ofNat 8 n] = n := by simp [leNat, Nat.mod_eq_of_lt hn]
  have hd : ownerRevoke acc (.accessor acc) (leNat [BitVec.ofNat 8 n]) (ownerTouched acc 2 s.dev) =
      .done (revokeOwner n (ownerTouched acc 2 s.dev)) := by
    rw [hv8]
    exact ownerRevoke_alone (by rw [hx]; exact hp) h0 (by rw [hx]; exact hv) (by rw [hx]; exact h1)
  refine gives_confirmed rfl ht.wayOpen (odWrite_command ht (by decide) (congrArg some hd)) (by rw [hx]; exact List.prefix_rfl)
    fun _ _ => ⟨?_, fun y hy => ?_⟩
  · rw [hx]
    exact setOwner_same (d := { s.dev with dict := x }) hl ⟨Nat.one_le_iff_ne_zero.2 h0, ownerOf_valid_le hl hv⟩
  · simpa using (List.mem_filter.1 hy).2

/-! ## Reads that clear (R118, R119, R426) -/

/-- A read of an entry without a window. -/
theorem odRead_unwindowed {acc : Accessor} {idx sub : Nat} {d : Device} (hf : readFailure acc idx sub d = none) (hw : windowCount idx = none)
    (hc : idx ≠ 0x3210) :
    odRead acc idx sub 0 d = .ok (odCurrent acc idx sub 0 (touchIf acc idx sub d), afterRead acc idx sub (touchIf acc idx sub d)) := by
  simp [odRead, hf, selOf, hw, hc]

theorem macIndex_unwindowed {port : Nat} (hp : port < 8) : windowCount (0x2320 + port) = none := by
  interval_cases port <;> decide

/-- Up to :15 no entry of a port's statistics is a string of bytes. -/
theorem derivedBytes_mac {port sub : Nat} (hp : port < 8) (h21 : sub ≤ 21) (d : Device) : derivedBytes (0x2320 + port) sub d = none := by
  have h33 : ¬ (sub == 0x21) = true := fun h => by simp at h; omega
  interval_cases port
  all_goals exact (if_neg fun h => h33 h.2.2).trans rfl

theorem derivedWord_mac {port sub : Nat} (hp : port < 8) (h1 : 1 ≤ sub) (h21 : sub ≤ 21) (acc : Accessor) (d : Device) :
    derivedWord acc (0x2320 + port) sub d = some ((portOf port d).mac.getD (sub - 1) 0) := by
  have h32 : ¬ (sub == 0x20) = true := fun h => by simp at h; omega
  interval_cases port
  all_goals exact (if_neg fun h => h32 h.2.2).trans (if_pos ⟨by decide, by decide, h1, h21⟩)

/-- A MAC counter is read where the port holds it. -/
theorem odCurrent_mac {port sub : Nat} (hp : port < 8) (h1 : 1 ≤ sub) (h21 : sub ≤ 21) (acc : Accessor) (d : Device) :
    odCurrent acc (0x2320 + port) sub 0 d = typeBytes (0x2320 + port) sub ((portOf port d).mac.getD (sub - 1) 0) := by
  rw [odCurrent, derivedBytes_mac hp h21, derivedWord_mac hp h1 h21, macIndex_unwindowed hp, Option.isSome_none, Bool.and_false,
    if_neg Bool.false_ne_true]

/-- A MAC counter that was read is 0, and so is its overflow bit. -/
theorem clearMac_portOf {port sub : Nat} {d : Device} (hp : port < d.ports.ports.length) (h1 : 1 ≤ sub) (h21 : sub ≤ 21) :
    portOf port (clearMac port sub d) = { portOf port d with
      mac := (portOf port d).mac.set (sub - 1) 0, ovf := setBit (portOf port d).ovf (sub - 1) false
      ovfReported := setBit (portOf port d).ovfReported (sub - 1) false } := by
  have h33 : (sub == 0x21) = false := beq_eq_false_iff_ne.2 (by omega)
  rw [clearMac, h33, if_neg Bool.false_ne_true, if_pos ⟨h1, h21⟩, List.foldl_cons, List.foldl_nil, portOf, clearEmcy_ports]
  exact portOf_onPort_self hp _

theorem afterRead_mac {port sub : Nat} (hp : port < 8) (acc : Accessor) (d : Device) :
    afterRead acc (0x2320 + port) sub d = clearMac port sub d := by
  rw [afterRead, if_pos (by omega), Nat.add_sub_cancel_left]

theorem getD_set_zero (l : List Nat) (n : Nat) : (l.set n 0).getD n 0 = 0 := by
  rw [List.getD_eq_getElem?_getD, List.getElem?_set_self']
  cases l[n]? <;> rfl

/-- A MAC counter that is read is answered, and cleared with its overflow bit (R118). -/
theorem gives_macRead {s : State} {acc : Accessor} {port sub : Nat} (hp : port < 8) (h1 : 1 ≤ sub) (h21 : sub ≤ 21)
    (ht : TakesRead acc (0x2320 + port) sub s.dev) (hl : s.dev.ports.ports.length = 8) : Gives (.macStatisticsRead acc port sub true) s fun t =>
      ((portOf port t).mac.getD (sub - 1) 0 = 0 ∧ bit (portOf port t).ovf (sub - 1) = false) ∧
        Sent s.dev t (.od acc (0x2320 + port) sub .ok (typeBytes (0x2320 + port) sub ((portOf port s.dev).mac.getD (sub - 1) 0))) := by
  obtain ⟨l, htouch⟩ := touchIf_eq acc (0x2320 + port) sub s.dev
  have hr := odRead_unwindowed ht.2 (macIndex_unwindowed hp) (by omega)
  rw [odCurrent_mac hp h1 h21, afterRead_mac hp] at hr
  have hport : portOf port (touchIf acc (0x2320 + port) sub s.dev) = portOf port s.dev := by rw [htouch]; rfl
  have hclear := clearMac_portOf (port := port) (d := touchIf acc (0x2320 + port) sub s.dev) (by rw [htouch]; exact hl ▸ hp) h1 h21
  rw [hport] at hr
  refine (gives_read (Q := fun t => portOf port t = portOf port (clearMac port sub (touchIf acc (0x2320 + port) sub s.dev))) rfl ht.1 hr
    fun _ _ => rfl).mono fun t ⟨hq, hs⟩ => ⟨?_, hs⟩
  rw [hq, hclear]
  exact ⟨getD_set_zero .., bit_setBit_same ..⟩

theorem exec_macStatisticsRead_failed (acc : Accessor) (port sub : Nat) (s : State) : exec (.macStatisticsRead acc port sub false) s =
    odRow acc (0x2320 + port) sub 1 (touchIf acc (0x2320 + port) sub) s := rfl

/-- A read that fails after the sampling clears nothing (R119). -/
theorem gives_macReadFailed {s : State} {acc : Accessor} {port sub : Nat} (ht : TakesRead acc (0x2320 + port) sub s.dev) :
    Gives (.macStatisticsRead acc port sub false) s fun t => t.ports = s.dev.ports := by
  obtain ⟨l, htouch⟩ := touchIf_eq acc (0x2320 + port) sub s.dev
  refine gives_of_eq ((exec_macStatisticsRead_failed ..).trans (odRow_open ht.1 ..)) ?_
  rw [htouch]

/-- An entry that clears on a read is answered, and reads 0 from then on (R241, R426). -/
theorem gives_cleared {c : Instr} {s : State} {acc : Accessor} {idx sub : Nat} (hi : idx = 0x2B00 ∧ sub = 6 ∨ idx = 0x2C00 ∧ sub = 7)
    (hx : exec c s = odRow acc idx sub 1 (readRow acc idx sub) s) (ht : TakesRead acc idx sub s.dev) : Gives c s fun t =>
      odVal idx sub t = 0 ∧ Sent s.dev t (.od acc idx sub .ok (typeBytes idx sub (odVal idx sub s.dev))) := by
  obtain ⟨l, htouch⟩ := touchIf_eq acc idx sub s.dev
  have hcur : odCurrent acc idx sub 0 (touchIf acc idx sub s.dev) = typeBytes idx sub (odVal idx sub s.dev) := by
    rw [htouch]
    rcases hi with ⟨rfl, rfl⟩ | ⟨rfl, rfl⟩ <;> rfl
  have hafter : ∀ d, afterRead acc idx sub d = odPut idx sub 0 d := by
    rcases hi with ⟨rfl, rfl⟩ | ⟨rfl, rfl⟩ <;> exact fun _ => rfl
  have hr := odRead_unwindowed ht.2 (by rcases hi with ⟨rfl, -⟩ | ⟨rfl, -⟩ <;> decide) (by omega)
  rw [hcur, hafter] at hr
  exact gives_read (Q := fun t => odVal idx sub t = 0) hx ht.1 hr fun _ _ => odVal_odPut idx sub 0 _

/-- Settles O14: the owner records by `gives_enrolled` and `gives_revoked`, the reads by what they leave of the entry that was read. -/
theorem ownersAndReads : Obligations.OwnersAndReads := by
  unfold Obligations.OwnersAndReads
  intro s acc
  refine ⟨fun v n key secret ht hp ho hl hc => gives_enrolled ht hp ho hl hc, fun n hn ht hp hl h0 hv h1 => ?revoke,
    fun port sub hp h1 h21 ht hl => ⟨?mac, gives_macReadFailed ht⟩, fun board => ?clear⟩
  case revoke => exact (gives_revoked hn ht hp hl h0 hv h1).mono fun t h => ⟨h.1.1, h.1.2, h.2⟩
  case mac => exact (gives_macRead hp h1 h21 ht hl).mono fun t h => ⟨h.1.1, h.1.2, h.2⟩
  case clear =>
    cases board
    · exact gives_cleared (.inl ⟨rfl, rfl⟩) rfl
    · exact gives_cleared (.inr ⟨rfl, rfl⟩) rfl

end Sys2Proof.Machine
end

section
/-! SUPPORT. Frames that are taken: what the header of a frame leaves as it was, and what a command of the link gives (R453). -/

namespace Sys2Proof.Machine

/-! ## What the link leaves as it was -/

theorem LinkWorked.nvme {a b : Device} (h : LinkWorked a b) : b.nvme = a.nvme := by
  obtain ⟨_, _, _, _, _, rfl, -⟩ := h
  rfl

theorem LinkWorked.stripe {a b : Device} (h : LinkWorked a b) : b.stripe = a.stripe := by
  obtain ⟨_, _, _, _, _, rfl, -⟩ := h
  rfl

theorem LinkWorked.side {a b : Device} (h : LinkWorked a b) : b.side = a.side := by
  obtain ⟨_, _, _, _, _, rfl, -⟩ := h
  rfl

/-- Of the peer's part the link changes its own frames alone. -/
theorem LinkWorked.peer {a b : Device} (h : LinkWorked a b) :
    b.peer.link = a.peer.link ∧ b.peer.held = a.peer.held ∧ b.peer.mirrors = a.peer.mirrors ∧ b.peer.returning = a.peer.returning := by
  obtain ⟨_, _, _, _, _, rfl, -⟩ := h
  exact ⟨rfl, rfl, rfl, rfl⟩

theorem linkPhysical_congr {a b : Device} (h : b.peer.link = a.peer.link) : linkPhysical b = linkPhysical a := by
  unfold linkPhysical
  rw [h]

@[simp] theorem arrived_nvme (h : FrameHdr) (cls : Nat) (d : Device) : (arrived h cls d).nvme = d.nvme := (arrived_linkWorked ..).nvme

@[simp] theorem arrived_stripe (h : FrameHdr) (cls : Nat) (d : Device) : (arrived h cls d).stripe = d.stripe := (arrived_linkWorked ..).stripe

@[simp] theorem arrived_side (h : FrameHdr) (cls : Nat) (d : Device) : (arrived h cls d).side = d.side := (arrived_linkWorked ..).side

@[simp] theorem arrived_held (h : FrameHdr) (cls : Nat) (d : Device) : (arrived h cls d).peer.held = d.peer.held := (arrived_linkWorked ..).peer.2.1

@[simp] theorem arrived_mirrors (h : FrameHdr) (cls : Nat) (d : Device) : (arrived h cls d).peer.mirrors = d.peer.mirrors :=
  (arrived_linkWorked ..).peer.2.2.1

@[simp] theorem arrived_returning (h : FrameHdr) (cls : Nat) (d : Device) : (arrived h cls d).peer.returning = d.peer.returning :=
  (arrived_linkWorked ..).peer.2.2.2

@[simp] theorem sendLink_nvme (m : LinkMsg) (d : Device) : (sendLink m d).nvme = d.nvme := (sendLink_linkWorked m d).nvme

@[simp] theorem sendLink_held (m : LinkMsg) (d : Device) : (sendLink m d).peer.held = d.peer.held := (sendLink_linkWorked m d).peer.2.1

@[simp] theorem sendLink_side (m : LinkMsg) (d : Device) : (sendLink m d).side = d.side := (sendLink_linkWorked m d).side

/-- While frames pass before a frame is taken, they do after it. -/
theorem arrived_linkPhysical {h : FrameHdr} {cls : Nat} {d : Device} (k : FrameTaken h cls d) : linkPhysical (arrived h cls d) = true :=
  (linkPhysical_congr (arrived_linkWorked h cls d).peer.1).trans k.1

/-! ## Commands that a frame brings -/

/-- A frame that is taken leaves what its function gives of the device that its header leaves. -/
theorem gives_taken {c : Instr} {s : State} {h : FrameHdr} {cls : Nat} {f : Device → Device} {P : Device → Prop} (k : FrameTaken h cls s.dev)
    (hx : exec c s = next s (acceptFrame h cls f)) (hp : P (f (arrived h cls s.dev))) : Gives c s P :=
  gives_of_eq hx (by rwa [acceptFrame_taken k])

theorem leads_taken {c : Instr} {s : State} {h : FrameHdr} {cls : Nat} {f g : Device → Device} {u : Device} {P : Device → Prop}
    (k : FrameTaken h cls s.dev) (hx : exec c s = next s (acceptFrame h cls f)) (hg : f (arrived h cls s.dev) = g u) (hp : P u) : Leads g c s P :=
  leads_of_eq hx (by rwa [acceptFrame_taken k]) hp

/-- A message that the function of a frame sends leaves, or waits for credit. -/
theorem taken_linkSent {h : FrameHdr} {cls : Nat} {d u : Device} (m : LinkMsg) (k : FrameTaken h cls d)
    (hl : u.peer.link = (arrived h cls d).peer.link) (ho : (arrived h cls d).out <+: u.out) : LinkSent d (sendLink m u) m :=
  sendLink_linkSent ((linkPhysical_congr hl).trans (arrived_linkPhysical k)) ((arrived_linkWorked h cls d).out.trans ho)

end Sys2Proof.Machine
end

section
/-! SUPPORT. The commands, through the operations that an entry to a low power state, or its end, runs (R547, R548). -/

namespace Sys2Proof.Machine

/-! ## Stripes are issued -/

theorem placeLocal_nvme (e : BoardEntry) (d : Device) : (placeLocal e d).nvme = d.nvme := by
  unfold placeLocal
  split
  · rfl
  · dsimp only
    split_ifs <;> rfl

@[simp] theorem noteUnplaced_nvme (cls k : Nat) (d : Device) : (noteUnplaced cls k d).nvme = d.nvme := by
  unfold noteUnplaced
  split_ifs <;> rfl

theorem noteResidue_nvme (id : Nat) (m : MemberDesc) (d : Device) : (noteResidue id m d).nvme = d.nvme := by
  unfold noteResidue
  dsimp only
  split_ifs <;> rfl

theorem takePages_nvme {s : Stream} {unit : Nat} {cs : List Nat} {d : Device} {r : List Member × Device} (h : takePages s unit cs d = some r) :
    r.2.nvme = d.nvme := by
  induction cs generalizing d r with
  | nil => rw [← Option.some.inj h]
  | cons c cs ih =>
    unfold takePages at h
    split at h
    · cases h
    · split at h
      · cases h
      next q hq =>
        rw [← Option.some.inj h]
        exact (ih hq).trans rfl

@[simp] theorem splitStripe_nvme (st : Stripe) (k : Nat) (d : Device) : (splitStripe st k d).nvme = d.nvme := rfl

theorem issueStripe_nvme (st : Stripe) (d : Device) : (issueStripe st d).nvme = d.nvme := by
  unfold issueStripe
  dsimp only
  split
  · rfl
  · split
    · exact noteUnplaced_nvme ..
    next k cs _ =>
      split
      · split_ifs <;> simp
      next ms x h =>
        have hx := takePages_nvme h
        have hn := foldl_eq_of_step Device.nvme (fun d (m : Member) => noteResidue_nvme st.id m.desc d) ms x
        dsimp only at hx
        split_ifs at hx ⊢ <;> exact hn.trans (by simpa using hx)

theorem issueClosed_nvme (d : Device) : (issueClosed d).nvme = d.nvme := by
  refine foldl_eq_of_step Device.nvme (fun d s => ?_) _ d
  split
  · exact issueStripe_nvme ..
  · rfl

theorem closeGathers_nvme (f : Gather → Bool) (d : Device) : (closeGathers f d).nvme = d.nvme :=
  (issueClosed_nvme _).trans (foldl_eq_of_step Device.nvme (fun d g => (rfl : (closeGather g d).nvme = d.nvme)) _ d)

/-! ## A checkpoint begins -/

theorem gatherBytes_nvme (fuel cls cluster : Nat) (s : Stream) (ret len : Nat) (d : Device) :
    (gatherBytes fuel cls cluster s ret len d).2.nvme = d.nvme := by
  induction fuel generalizing len d with
  | zero => rfl
  | succ fuel ih =>
    unfold gatherBytes
    split_ifs
    · rfl
    · dsimp only
      split
      · exact ih ..
      · split_ifs <;> exact ih ..

theorem reserveSeals_nvme (d : Device) : (reserveSeals d).nvme = d.nvme := by
  unfold reserveSeals
  split_ifs <;> rfl

theorem writePage_nvme (typ lid : Nat) (d : Device) : (writePage typ lid d).nvme = d.nvme := by
  unfold writePage
  split_ifs
  · exact reserveSeals_nvme d
  · exact (reserveSeals_nvme _).trans (gatherBytes_nvme ..)

theorem checkpointBegin_nvme (d : Device) : (checkpointBegin d).nvme = d.nvme := by
  have hw := foldl_eq_of_step Device.nvme fun d (p : MapPage) => writePage_nvme p.typ p.lid d
  unfold checkpointBegin
  split_ifs
  · exact reserveSeals_nvme _
  · exact (hw _ _).trans (hw _ _)

/-! ## Low power states are entered and left -/

theorem enterLow_nvme (n : Nat) (d : Device) : (enterLow n d).nvme = d.nvme := by
  unfold enterLow
  dsimp only
  split_ifs
  · exact closeGathers_nvme ..
  · exact (checkpointBegin_nvme _).trans (closeGathers_nvme ..)

theorem loadClusters_nvme (d : Device) : (loadClusters d).nvme = d.nvme := by
  refine foldl_eq_of_step Device.nvme (fun d c => ?_) _ d
  unfold loadCluster
  split_ifs <;> rfl

theorem loadSearch_nvme (d : Device) : (loadSearch d).nvme = d.nvme := by
  unfold loadSearch
  dsimp only
  split_ifs <;> rfl

theorem placeGroupsUp_nvme (d : Device) : (placeGroupsUp false d).nvme = d.nvme := by
  unfold placeGroupsUp
  simp only [Bool.false_eq_true, if_false]
  exact foldl_eq_of_step Device.nvme (fun d _ => placeLocal_nvme _ d) _ d

theorem leaveLow_nvme (d : Device) : (leaveLow d).nvme = d.nvme := by
  have hc : (cancelGroupsDown d).nvme = d.nvme := foldl_eq_of_step Device.nvme (fun d (e : Nat × BoardEntry) => (rfl : (putEntry e.1 { e.2 with state := 3 } d).nvme = d.nvme)) _ d
  have hs : ∀ d : Device, ((List.range 16).foldl (fun d g => if bit (odVal 0x2210 3 d) g then setStandby g false d else d) d).nvme = d.nvme :=
    fun d => foldl_eq_of_step Device.nvme (fun d g => by split_ifs <;> rfl) _ d
  have hl := fun d => (loadClusters_nvme _).trans (hs d)
  unfold leaveLow
  dsimp only
  split_ifs <;> simp only [placeGroupsUp_nvme, loadSearch_nvme, hl, hc]

@[simp] theorem logEvent_nvme (code unit severity detail : Nat) (d : Device) : (logEvent code unit severity detail d).nvme = d.nvme := rfl

theorem refreshEff_nvme (cause : Nat) (d : Device) : (refreshEff cause d).nvme = d.nvme := by
  unfold refreshEff
  dsimp only
  split_ifs <;> simp [enterLow_nvme, leaveLow_nvme]

/-- Work for the hosts or the other peer touches no command, whatever power state it ends (R174, R547). -/
theorem ioActivity_nvme (d : Device) : (ioActivity d).nvme = d.nvme := by
  unfold ioActivity
  dsimp only
  split_ifs
  · rfl
  · exact refreshEff_nvme ..

end Sys2Proof.Machine
end

section
/-! SUPPORT. Forwarded commands, lock reservations and mirrored writes as their frames leave them (R150 to R152, R292, R452). -/

namespace Sys2Proof.Machine

/-! ## Commands -/

theorem onCmd_cmds (id : Nat) (f : Cmd → Cmd) (d : Device) :
    (onCmd id f d).nvme.cmds = d.nvme.cmds.map fun x => if x.id = id then f x else x := by
  simp only [onCmd, beq_iff_eq]

theorem sentCmd_congr {f : Nat} {a b : Device} (h : b.nvme = a.nvme) : sentCmd f b = sentCmd f a := by
  unfold sentCmd
  rw [h]

theorem cmdOf_congr {id : Nat} {a b : Device} (h : b.nvme = a.nvme) : cmdOf id b = cmdOf id a := by
  unfold cmdOf
  rw [h]

theorem ownId_congr {f : Nat} {a b : Device} (h : b.side = a.side) : ownId f b = ownId f a := by
  unfold ownId
  rw [h]

/-! ## FWD_CMD -/

/-- A forwarded command as it enters here: the next command, with the locks that were reserved for it. -/
def forwardEntered (m : FwdCmdMsg) (d : Device) : Device :=
  let x := addCmd (fun id => { newCmd id m.q m.c m.cls m.seq false with fwdFrom := some m.fwd }) (ioActivity (odBump 0x2400 5 1 d))
  setLocks (x.2.nvme.locks.map fun l => if l.fwd == some m.fwd then { l with cmd := x.1 } else l) x.2

theorem fwdCmd_new {m : FwdCmdMsg} {d : Device} (h : ∀ c ∈ d.nvme.cmds, c.fwdFrom ≠ some m.fwd) : fwdCmd m d = settle (forwardEntered m d) := by
  have hn : (d.nvme.cmds.any fun c => c.fwdFrom == some m.fwd) = false := by simpa using h
  simp only [fwdCmd, forwardEntered, hn, Bool.false_eq_true, if_false]

theorem forwardEntered_nextCmd (m : FwdCmdMsg) (d : Device) : (forwardEntered m d).nvme.nextCmd = d.nvme.nextCmd + 1 := by
  show (ioActivity (odBump 0x2400 5 1 d)).nvme.nextCmd + 1 = _
  rw [ioActivity_nvme]
  rfl

theorem forwardEntered_mem (m : FwdCmdMsg) (d : Device) :
    { newCmd d.nvme.nextCmd m.q m.c m.cls m.seq false with fwdFrom := some m.fwd } ∈ (forwardEntered m d).nvme.cmds := by
  have he : (forwardEntered m d).nvme.cmds = (ioActivity (odBump 0x2400 5 1 d)).nvme.cmds ++
      [{ newCmd (ioActivity (odBump 0x2400 5 1 d)).nvme.nextCmd m.q m.c m.cls m.seq false with fwdFrom := some m.fwd }] := rfl
  rw [he, ioActivity_nvme]
  exact List.mem_append_right _ (List.mem_singleton_self _)

/-- A request of an opcode that the peers do not exchange is answered as an invalid opcode. -/
theorem peerRequest_unknown {f : Nat} {c : Capsule} (d : Device) (h : c.sqe.opcode ∉ [0xC4, 0x14, 0x84]) :
    peerRequest f c d = sendLink (.fwdCompletion f 0 1 false 0 0 0) d := by
  simp only [List.mem_cons, List.not_mem_nil, or_false, not_or] at h
  obtain ⟨h1, h2, h3⟩ := h
  simp [peerRequest, h1, h2, h3, answerPeer]

/-! ## FWD_DATA -/

theorem fwdData_own {f off : Nat} {data : Bytes} {c : Cmd} {d : Device} (ho : ownId f d = true) (hs : sentCmd f d = some c) :
    fwdData f off data d =
      onCmd c.id (fun c => { c with got := overlay (padTo (max c.got.length (off + data.length)) c.got) off data }) d := by
  simp only [fwdData, ho, hs, if_true]

theorem fwdData_value {f off : Nat} {data : Bytes} {c : Cmd} {d : Device} (ho : ownId f d = false)
    (hc : d.nvme.cmds.find? (·.fwdFrom == some f) = some c) (hr : isRange c.sqe = false) :
    fwdData f off data d = settle (onCmd c.id (fun x => { x with
      data := overlay (padTo (max x.data.length (blockBytes c.sqe + off + data.length)) x.data) (blockBytes c.sqe + off) data }) d) := by
  simp only [fwdData, ho, hc, hr, Bool.false_eq_true, if_false]

theorem fwdData_range {f off : Nat} {data : Bytes} {c : Cmd} {d : Device} (ho : ownId f d = false)
    (hc : d.nvme.cmds.find? (·.fwdFrom == some f) = some c) (hr : isRange c.sqe = true) (hp : c.phase = .forwarded) :
    fwdData f off data d = settle (removeKeys c.id (keysOfList data) [] d) := by
  simp only [fwdData, ho, hc, hr, hp, Bool.false_eq_true, if_false, if_true, beq_self_eq_true]

/-- The keys to remove are the items of the command, which waits to mirror them. -/
theorem removeKeys_items {id : Nat} {keys left : List Bytes} {d : Device} {x : Cmd} (hx : x ∈ (removeKeys id keys left d).nvme.cmds) (hi : x.id = id) :
    x.phase = .waitMirror ∧ x.items.map (·.key) = keys := by
  obtain ⟨y, -, rfl⟩ := List.mem_map.1 hx
  split_ifs at hi ⊢ with h
  · exact ⟨rfl, by simp [newItem, Function.comp_def]⟩
  · exact absurd (beq_iff_eq.2 hi) h

/-! ## FWD_COMPLETION -/

theorem fwdCompletion_whole {m : FwdCompletionMsg} {c : Cmd} {d : Device} (ho : ownId m.fwd d = true) (hs : sentCmd m.fwd d = some c)
    (hp : c.parent = none) : fwdCompletion m d = settle (forwardDone c m d) := by
  simp only [fwdCompletion, ho, hs, hp, if_true]

theorem forwardDone_plain {m : FwdCompletionMsg} {c : Cmd} (d : Device) (hx : isSecure c.sqe = false) (hl : c.slot = none) :
    forwardDone c m d = doneCmd c.id ⟨m.sct, m.sc, m.dnr⟩ m.dw0 m.dw1 c.got (onCmd c.id (fun c => { c with fwdTo := none }) d) := by
  simp only [forwardDone, hx, hl, Bool.and_false, Bool.false_and, Bool.false_eq_true, if_false]

theorem fwdCompletion_part {m : FwdCompletionMsg} {c p : Cmd} {d : Device} (ho : ownId m.fwd d = true) (hs : sentCmd m.fwd d = some c)
    (hp : c.parent = some p.id) (hc : cmdOf p.id d = some p) : fwdCompletion m d = settle (partDone c p m d) := by
  simp only [fwdCompletion, ho, hs, hp, hc, if_true]

theorem fwdCompletion_word {m : FwdCompletionMsg} {c : Cmd} {d : Device} (ho : ownId m.fwd d = false)
    (hc : d.nvme.cmds.find? (·.fwdFrom == some m.fwd) = some c) : fwdCompletion m d = settle (shareWord c m d) := by
  simp only [fwdCompletion, ho, hc, Bool.false_eq_true, if_false]

/-- The coordinator's success gives a share its commit tick. -/
theorem shareWord_tick {m : FwdCompletionMsg} {c : Cmd} (d : Device) (hs : isShare c = true) (h0 : m.sct = 0) (h1 : m.sc = 0) :
    (shareWord c m d).nvme.cmds = d.nvme.cmds.map fun x => if x.id = c.id then { x with tick := some (m.dw0 + m.dw1 * 2 ^ 32) } else x := by
  simp only [shareWord, hs, h0, h1, Bool.not_true, Bool.false_eq_true, if_false, beq_self_eq_true, Bool.and_self, if_true, onCmd_cmds]
  split_ifs <;> rfl

/-! ## Lock reservations (R150) -/

theorem reserveLocks_room {f : Nat} {ids : List LockIdent} {d : Device} (hn : ids ≠ [])
    (h : d.nvme.locks.length + ids.length ≤ Config.lockEntries) :
    reserveLocks f ids d = sendLink (.lockReply f 0) (setLocks (d.nvme.locks ++ ids.map (lockOf f)) d) := by
  simp only [reserveLocks, List.isEmpty_iff, hn, if_false, not_lt.2 h]

theorem reserveLocks_full {f : Nat} {ids : List LockIdent} {d : Device} (hn : ids ≠ [])
    (h : Config.lockEntries < d.nvme.locks.length + ids.length) : reserveLocks f ids d = sendLink (.lockReply f 1) d := by
  simp only [reserveLocks, List.isEmpty_iff, hn, if_false, h, if_true]

/-- A reply of success marks the reservation; one that the table was full drops it. -/
theorem lockReplied_remoteLocks (f : Nat) (full : Bool) (d : Device) : (lockReplied f full d).nvme.remoteLocks =
    if full then d.nvme.remoteLocks.filter (·.2.1 != f) else d.nvme.remoteLocks.map fun x => if x.2.1 = f then (x.1, f, true) else x := by
  cases full
  · simp [lockReplied]
  · have hq : ∀ (qs : List SubQueue) (d : Device), (qs.foldl (fun d q => if q.lockStalled then d
        else odBump 0x2400 3 1 (onQueue q.ref (fun q => { q with lockStalled := true }) d)) d).nvme.remoteLocks = d.nvme.remoteLocks :=
      foldl_eq_of_step (fun d => d.nvme.remoteLocks) fun d q => by split_ifs <;> rfl
    have hr := fun d (l : List (Nat × Nat × Bool)) => foldl_eq_of_step (fun d => d.nvme.remoteLocks)
      (fun d (x : Nat × Nat × Bool) => hq (d.nvme.queues.filter fun q => queueCode q.ref == x.1) d) l d
    exact congrArg (List.filter (·.2.1 != f)) (hr d _)

/-! ## Mirrored writes (R452) -/

/-- The mirrored writes once `n` records of write `w` are acknowledged. -/
def mirrorsAcked (w n : Nat) (d : Device) : List MirrorWrite :=
  d.peer.mirrors.map fun m => if m.id == w then { m with acked := max m.acked (min n m.records) } else m

/-- `n` records of write `w` are acknowledged; the first whole mirror at a returning peer ends its return (R447). -/
def acksCounted (w n : Nat) (d : Device) : Device :=
  let u := { d with peer := { d.peer with mirrors := mirrorsAcked w n d } }
  if d.peer.returning == 1 && (mirrorsAcked w n d).any fun m => m.id == w && m.acked == m.records then
    setCond 7 false { u with peer := { u.peer with returning := 2 } }
  else u

theorem mirrorsAcked_find {w n : Nat} {m : MirrorWrite} {d : Device} (h : d.peer.mirrors.find? (·.id == w) = some m) :
    (mirrorsAcked w n d).find? (·.id == w) = some { m with acked := max m.acked (min n m.records) } := by
  have hm : (m.id == w) = true := List.find?_some (p := fun m : MirrorWrite => m.id == w) h
  have hp : ((fun m : MirrorWrite => m.id == w) ∘ fun m : MirrorWrite => if m.id == w then { m with acked := max m.acked (min n m.records) } else m) =
      fun m => m.id == w := by
    funext x
    dsimp only [Function.comp]
    split_ifs <;> rfl
  rw [mirrorsAcked, List.find?_map, hp, h, Option.map_some, if_pos hm]

/-- The copies behind the roster record are PRESENT as far as they are acknowledged, and the commands go on. -/
theorem mirrorAcked_found {w n : Nat} {m : MirrorWrite} {d : Device} (h : d.peer.mirrors.find? (·.id == w) = some m) :
    mirrorAcked w n d = settle ((m.copies.take (max m.acked (min n m.records) - 1)).foldl (fun d x => markPresent x.1 x.2.1 x.2.2 d)
      (acksCounted w n d)) := by
  have hf := mirrorsAcked_find (n := n) h
  unfold mirrorsAcked at hf
  unfold mirrorAcked acksCounted
  simp only [hf]
  rfl

theorem Spoke.peer {a b : Device} (h : Spoke a b) : b.peer = a.peer := by
  obtain ⟨_, _, _, _, _, _, rfl, -⟩ := h
  rfl

theorem aenUpdate_peer (f : Assoc → Assoc × Option (QueueRef × CmdTag × Nat)) (d : Device) : (aenUpdate f d).peer = d.peer := by
  refine foldl_eq_of_step Device.peer (fun d x => ?_) _ { d with ports := _ }
  split
  · exact (complete_spoke ⟨rfl, rfl⟩).peer
  · rfl

theorem refreshWarning_peer (d : Device) : (refreshWarning d).peer = d.peer := by
  refine foldl_eq_of_step Device.peer (fun d n => ?_) _ { d with admin := _ }
  split_ifs
  · exact aenUpdate_peer ..
  · rfl

theorem setCond_peer (n : Nat) (b : Bool) (d : Device) : (setCond n b d).peer = d.peer := by
  have hw : ∀ d : Device, (refreshWarning (aenPost (fun _ => true) 7 0x00 0xC5 0 d)).peer = d.peer :=
    fun d => (refreshWarning_peer _).trans (aenUpdate_peer ..)
  unfold setCond
  dsimp only
  split_ifs
  · rfl
  · exact (raiseEmcy_spoke ..).peer.trans (hw _)
  · exact (clearEmcy_spoke ..).peer.trans (hw _)
  · exact (raiseEmcy_spoke ..).peer.trans (hw _)
  · exact (clearEmcy_spoke ..).peer.trans (hw _)
  · exact hw _

theorem acksCounted_mirrors (w n : Nat) (d : Device) : (acksCounted w n d).peer.mirrors = mirrorsAcked w n d := by
  unfold acksCounted
  dsimp only
  split_ifs
  · rw [setCond_peer]
  · rfl

theorem acksCounted_returning {w n : Nat} {m : MirrorWrite} {d : Device} (h : d.peer.mirrors.find? (·.id == w) = some m)
    (hr : d.peer.returning = 1) (ha : max m.acked (min n m.records) = m.records) : (acksCounted w n d).peer.returning = 2 := by
  have hf := mirrorsAcked_find (n := n) h
  have hany : ((mirrorsAcked w n d).any fun m => m.id == w && m.acked == m.records) = true := by
    rw [List.any_eq_true]
    exact ⟨_, List.mem_of_find?_eq_some hf, by simpa [ha] using List.find?_some hf⟩
  unfold acksCounted
  rw [hany, hr]
  exact congrArg PeerState.returning (setCond_peer 7 false _)

/-- A record that comes is held. -/
def recordHeld (w : Nat) (r : MirrorRecord) (d : Device) : Device := { d with peer := { d.peer with held := d.peer.held ++ [⟨w, r⟩] } }

/-- A record held is acknowledged with the number held of its write. -/
def recordAcked (w : Nat) (r : MirrorRecord) (d : Device) : Device :=
  sendLink (.mirrorAck w (((recordHeld w r d).peer.held.filter (·.write == w)).length)) (recordHeld w r d)

theorem recordAcked_held (w : Nat) (r : MirrorRecord) (d : Device) : (recordAcked w r d).peer.held = d.peer.held ++ [⟨w, r⟩] := by
  unfold recordAcked
  rw [sendLink_held]
  rfl

/-- What the other peer has offered back whole is applied once the record is acknowledged (R342). -/
theorem mirrorData_eq (w : Nat) (r : MirrorRecord) (d : Device) : mirrorData w r d =
    ioActivity (adoptOwn ((ownOffers (recordAcked w r d)).filter fun x => x != w || heldWhole w (recordAcked w r d)) (recordAcked w r d)) := by
  have ho : ownOffers (recordAcked w r d) = ownOffers (recordHeld w r d) := by
    unfold ownOffers recordAcked
    rw [sendLink_held, sendLink_side]
  have hw : heldWhole w (recordAcked w r d) = heldWhole w (recordHeld w r d) := by
    unfold heldWhole heldOf recordAcked
    rw [sendLink_held]
  rw [ho, hw]
  rfl

end Sys2Proof.Machine
end

section
/-! SUPPORT. Pages of the other peer's journal: what they set off here leaves the link as it is (R291, R292, R340). -/

namespace Sys2Proof.Machine

/-! ## What leaves the link as it is -/

theorem sendLink_peerLink (m : LinkMsg) (d : Device) : (sendLink m d).peer.link = d.peer.link := (sendLink_linkWorked m d).peer.1

/-- A completion only sends and, unsuccessful, adds to the Error Information log. -/
theorem complete_eq (q : QueueRef) (t : CmdTag) (st : Status) (dw0 dw1 : Nat) (data : Bytes) (d : Device) :
    ∃ u m, Spoke d u ∧ complete q t st dw0 dw1 data d = { u with admin := m } := by
  have hu : Spoke d (if reachable q d then sendCompletion q t st dw0 dw1 data d else d) := by
    split_ifs
    · exact sendCompletion_spoke ..
    · exact .refl d
  unfold complete
  dsimp only
  split_ifs at hu ⊢
  · exact ⟨_, _, hu, rfl⟩
  · exact ⟨_, _, hu, rfl⟩
  · exact ⟨_, _, hu, rfl⟩
  · exact ⟨_, _, hu, rfl⟩

theorem complete_peer (q : QueueRef) (t : CmdTag) (st : Status) (dw0 dw1 : Nat) (data : Bytes) (d : Device) :
    (complete q t st dw0 dw1 data d).peer = d.peer := by
  obtain ⟨u, m, hu, he⟩ := complete_eq q t st dw0 dw1 data d
  rw [he]
  exact hu.peer

theorem postFor_peerLink (c : Cmd) (st : Status) (dw0 dw1 : Nat) (data : Bytes) (d : Device) :
    (postFor c st dw0 dw1 data d).peer.link = d.peer.link := by
  unfold postFor
  split
  · dsimp only
    split_ifs
    · exact sendLink_peerLink ..
    · exact (sendLink_peerLink ..).trans (sendLink_peerLink ..)
  · split_ifs
    · rfl
    · rfl
    · obtain ⟨m, hm⟩ := countHost_eq c st data (complete c.q c.sqe.tag st dw0 dw1 data d)
      rw [hm]
      exact congrArg PeerState.link (complete_peer ..)

theorem endRemote_peerLink (c : Cmd) (f : Nat) (d : Device) : (endRemote c f d).peer.link = d.peer.link := by
  unfold endRemote
  split_ifs
  · exact sendLink_peerLink ..
  · rfl
  · rfl
  · rfl
  · exact sendLink_peerLink ..

theorem ackInvalidates_peerLink (d : Device) : (ackInvalidates d).peer.link = d.peer.link :=
  foldl_eq_of_step (fun d => d.peer.link) (fun d _ => sendLink_peerLink _ d) _ { d with kv := _ }

theorem removeCmd_peerLink (c : Cmd) (d : Device) : (removeCmd c d).peer.link = d.peer.link := by
  unfold removeCmd
  dsimp only
  split
  · exact (endRemote_peerLink ..).trans (ackInvalidates_peerLink _)
  · exact ackInvalidates_peerLink _

theorem doneCmd_peerLink (id : Nat) (st : Status) (dw0 dw1 : Nat) (data : Bytes) (d : Device) :
    (doneCmd id st dw0 dw1 data d).peer.link = d.peer.link := by
  unfold doneCmd
  split
  · rfl
  · exact (postFor_peerLink ..).trans (removeCmd_peerLink ..)

theorem secureSorted_peerLink (id : Nat) (d : Device) : (secureSorted id d).peer.link = d.peer.link := by
  unfold secureSorted
  split
  · rfl
  · dsimp only
    split
    · rfl
    · split <;> exact doneCmd_peerLink ..

theorem sortMirrored_peerLink (x : Nat × Bytes × Nat) (refs : Nat) (dead : Bool) (d : Device) :
    (sortMirrored x refs dead d).peer.link = d.peer.link := by
  unfold sortMirrored
  dsimp only
  split_ifs
  · rfl
  · exact (foldl_eq_of_step (fun d => d.peer.link) (fun d id => secureSorted_peerLink id d) _ _).trans
      (foldl_eq_of_step (fun d => d.peer.link) (fun _ _ => by rfl) _ _)

theorem hotRemove_peer (domain : Nat) (fp : Bytes) (copy : Nat) (d : Device) : (hotRemove domain fp copy d).peer = d.peer := by
  unfold hotRemove
  split
  · rfl
  · split
    · split_ifs <;> rfl
    · rfl

theorem invalidateCopy_peerLink (c : Copy) (d : Device) : (invalidateCopy c d).peer.link = d.peer.link := by
  unfold invalidateCopy
  dsimp only
  split_ifs
  · rfl
  · exact (sendLink_peerLink ..).trans (foldl_eq_of_step (fun d => d.peer.link) (fun _ _ => by rfl) _ _)

theorem mirrorDeath_peerLink (dom : Nat) (fp : Bytes) (num : Nat) (d : Device) : (mirrorDeath dom fp num d).peer.link = d.peer.link := by
  unfold mirrorDeath
  dsimp only
  split
  · split_ifs
    · rfl
    · exact (invalidateCopy_peerLink ..).trans (congrArg PeerState.link (hotRemove_peer ..))
  · rfl

theorem mirrorMove_peer (dom : Nat) (fp : Bytes) (num : Nat) (old new : List Extent) (d : Device) :
    (mirrorMove dom fp num old new d).peer = d.peer := by
  unfold mirrorMove
  split
  · split_ifs <;> rfl
  · rfl

theorem mirrorLost_peer (id bitmap : Nat) (d : Device) : (mirrorLost id bitmap d).peer = d.peer :=
  foldl_eq_of_step Device.peer (fun _ _ => by exact hotRemove_peer ..) _ d

theorem touchMap_peer (typ : Nat) (key : Bytes) (d : Device) : (touchMap typ key d).peer = d.peer := by
  have he : ∀ d, (evictPages d).peer = d.peer := by
    intro d
    unfold evictPages
    dsimp only
    split_ifs
    · rfl
    · split <;> rfl
  unfold touchMap applyPage
  dsimp only
  split
  · rfl
  · exact he _

theorem mirrorCommit_peer (mseq : Nat) (d : Device) : (mirrorCommit mseq d).peer = d.peer := by
  unfold mirrorCommit
  split
  · refine foldl_eq_of_step Device.peer (fun d ch => ?_) _ d
    split
    · dsimp only
      split_ifs
      · exact touchMap_peer ..
      · rfl
    · rfl
  · rfl

theorem limitDurable_peer (n side limit counter : Nat) (d : Device) : (limitDurable n side limit counter d).peer = d.peer := by
  unfold limitDurable
  dsimp only
  split_ifs <;> rfl

theorem mirrorSnap_peer (n st ns cut expiry : Nat) (d : Device) : (mirrorSnap n st ns cut expiry d).peer = d.peer := by
  unfold mirrorSnap
  split
  · split_ifs <;> rfl
  · rfl
  · split_ifs <;> rfl
  · rfl

theorem mirrorRecord_peerLink (d : Device) (r : JRecord) : (mirrorRecord d r).peer.link = d.peer.link := by
  unfold mirrorRecord
  split
  · refine (sortMirrored_peerLink ..).trans ?_
    split_ifs
    · exact mirrorDeath_peerLink ..
    · rfl
  · rw [mirrorMove_peer]
  · rw [mirrorLost_peer]
  · split_ifs
    · rfl
    · rw [mirrorCommit_peer]
  · split_ifs
    · rfl
    · rw [limitDurable_peer]
  · rw [mirrorSnap_peer]
  · rfl
  · rfl

/-! ## JOURNAL_PAGE -/

/-- A page of the other peer's journal as it is kept here: on its copies there, and mirrored. -/
def keptPage (p : JournalPageMsg) : JPage :=
  { seq := p.seq, tick := p.tick, tail := p.tail, last := p.last, index := p.index, records := p.records, local_ := true, mirrored := true }

/-- The mirror with the pages from the tail of page `p` on, and `p`, which is written as copy 3. -/
def pageAdded (p : JournalPageMsg) (d : Device) : Device :=
  let u := { d with stripe := { d.stripe with
    mirror := (d.stripe.mirror.filter fun m => p.tail ≤ m.page.seq) ++ [⟨keptPage p, d.stripe.copy3⟩] } }
  if d.stripe.copy3 then programCopy 3 (1 - d.side) (keptPage p) u else u

/-- The mirror without the pages before the tail of `p`. -/
def pageTrimmed (p : JournalPageMsg) (d : Device) : Device :=
  { d with stripe := { d.stripe with mirror := d.stripe.mirror.filter fun m => p.tail ≤ m.page.seq } }

theorem programCopy_peer (n side : Nat) (p : JPage) (d : Device) : (programCopy n side p d).peer = d.peer := by
  unfold programCopy
  split
  · split_ifs <;> rfl
  · rfl

theorem programCopy_stripe (n side : Nat) (p : JPage) (d : Device) : (programCopy n side p d).stripe = d.stripe := by
  unfold programCopy
  split
  · split_ifs <;> rfl
  · rfl

theorem pageAdded_peer (p : JournalPageMsg) (d : Device) : (pageAdded p d).peer = d.peer := by
  unfold pageAdded
  dsimp only
  split_ifs
  · exact programCopy_peer ..
  · rfl

theorem pageAdded_kept (p : JournalPageMsg) (d : Device) : Kept d (pageAdded p d) := by
  have hu : Kept d { d with stripe := { d.stripe with
      mirror := (d.stripe.mirror.filter fun m => p.tail ≤ m.page.seq) ++ [⟨keptPage p, d.stripe.copy3⟩] } } :=
    .mk_eq rfl rfl rfl rfl rfl rfl rfl rfl (.refl d)
  unfold pageAdded
  dsimp only
  split_ifs
  · exact programCopy_kept hu
  · exact hu

/-- A page that is added stands in the mirror as it came. -/
theorem pageAdded_mem (p : JournalPageMsg) (d : Device) : (⟨keptPage p, d.stripe.copy3⟩ : MirrorPage) ∈ (pageAdded p d).stripe.mirror := by
  have hm : ∀ l : List MirrorPage, (⟨keptPage p, d.stripe.copy3⟩ : MirrorPage) ∈ l ++ [⟨keptPage p, d.stripe.copy3⟩] :=
    fun l => List.mem_append_right _ (List.mem_singleton_self _)
  unfold pageAdded
  dsimp only
  split_ifs
  · rw [programCopy_stripe]
    exact hm _
  · exact hm _

theorem journalPage_new {p : JournalPageMsg} {d : Device} (h : ∀ m ∈ d.stripe.mirror, m.page.seq ≠ p.seq) :
    journalPage p d = ioActivity (settleCreates (sendLink (.journalAck p.seq) (p.records.foldl mirrorRecord (pageAdded p d)))) := by
  have hk : d.stripe.mirror.any (·.page.seq == p.seq) = false := by simpa using h
  simp only [journalPage, pageAdded, hk, Bool.false_eq_true, if_false, Bool.not_false, Bool.and_true]
  rfl

theorem journalPage_known {p : JournalPageMsg} {d : Device} (h : ¬ ∀ m ∈ d.stripe.mirror, m.page.seq ≠ p.seq) :
    journalPage p d = ioActivity (settleCreates (sendLink (.journalAck p.seq) (pageTrimmed p d))) := by
  have hk : d.stripe.mirror.any (·.page.seq == p.seq) = true := by simpa using h
  simp only [journalPage, hk, if_true, Bool.not_true, Bool.and_false, Bool.false_eq_true, if_false]
  rfl

/-- Whether the page is new or known, it is acknowledged on a link as it was. -/
theorem journalPage_acks (p : JournalPageMsg) (d : Device) :
    ∃ u, journalPage p d = ioActivity (settleCreates (sendLink (.journalAck p.seq) u)) ∧ u.peer.link = d.peer.link ∧ d.out <+: u.out := by
  by_cases h : ∀ m ∈ d.stripe.mirror, m.page.seq ≠ p.seq
  · refine ⟨_, journalPage_new h, ?_, ?_⟩
    · refine (foldl_eq_of_step (fun d => d.peer.link) mirrorRecord_peerLink _ _).trans ?_
      rw [pageAdded_peer]
    · exact (Kept.foldl (fun _ _ hd => mirrorRecord_kept hd) (pageAdded_kept p d)).out
  · exact ⟨_, journalPage_known h, rfl, List.prefix_rfl⟩

/-! ## JOURNAL_RESEND -/

theorem sendLink_out (m : LinkMsg) (d : Device) : d.out <+: (sendLink m d).out := (sendLink_linkWorked m d).out

/-- Messages that are sent in order all leave, or wait for credit. -/
theorem sendAll_linkSent {a d : Device} {ms : List LinkMsg} {m : LinkMsg} (hp : linkPhysical d = true) (ha : a.out <+: d.out) (hm : m ∈ ms) :
    LinkSent a (sendAll ms d) m := by
  have hkeep : ∀ (l : List LinkMsg) (d : Device), LinkSent a d m → LinkSent a (sendAll l d) m := by
    intro l
    induction l with
    | nil => exact fun d h => h
    | cons n l ih => exact fun d h => ih _ (h.sendLink n)
  induction ms generalizing d with
  | nil => cases hm
  | cons n ms ih =>
    rcases List.mem_cons.1 hm with rfl | hm
    · exact hkeep ms _ (sendLink_linkSent hp ha)
    · exact ih ((linkPhysical_congr (sendLink_peerLink n d)).trans hp) (ha.trans (sendLink_out n d)) hm

end Sys2Proof.Machine
end

section
/-! SUPPORT. Frames of forwarded commands, of mirrored writes and of the journal (R150 to R152, R292, R340, R452, R457). -/

namespace Sys2Proof.Machine

/-- Settles O31: each frame by the lemma of its function on the device that its header leaves; what the link carries is `taken_linkSent`. -/
theorem forwardFrames : Obligations.ForwardFrames := by
  unfold Obligations.ForwardFrames
  intro s h
  refine ⟨fun k => ⟨?fwdCmd, ?request, ?dataBack, ?dataHere, ?dataRange, ?done, ?part, ?word, ?reserve, ?release, ?reply⟩,
    fun k => ⟨?mirror, ?mirrorAck, ?mirrorRelease, ?page, ?pageNew, ?journalAck, ?resend⟩⟩
  case fwdCmd =>
    intro m hm hn
    have hreq : (m.q.qid == 0 && m.q.port == 255) = false := by
      rw [Bool.and_eq_false_iff, beq_eq_false_iff_ne, beq_eq_false_iff_ne]
      exact hm
    refine leads_taken k rfl (u := forwardEntered m (arrived h 2 s.dev)) ?_ ⟨?_, _, forwardEntered_mem m _, ?_⟩
    · rw [hreq]
      exact fwdCmd_new (by rwa [arrived_nvme])
    · rw [forwardEntered_nextCmd, arrived_nvme]
    · exact ⟨congrArg NvmeState.nextCmd (arrived_nvme ..), rfl, rfl, rfl, rfl, rfl, rfl, rfl⟩
  case request =>
    intro m hq hp ho
    refine gives_taken k rfl ?_
    rw [hq, hp]
    show LinkSent s.dev (peerRequest m.fwd m.c _) _
    rw [peerRequest_unknown _ ho]
    exact taken_linkSent _ k rfl List.prefix_rfl
  case dataBack =>
    intro f off data c ho hs
    refine gives_taken k rfl ?_
    rw [fwdData_own ((ownId_congr (arrived_side ..)).trans ho) ((sentCmd_congr (arrived_nvme ..)).trans hs), onCmd_cmds, arrived_nvme]
  case dataHere =>
    intro f off data c ho hc hr
    refine leads_taken k rfl (fwdData_value ((ownId_congr (arrived_side ..)).trans ho) (by rwa [arrived_nvme]) hr) ?_
    rw [onCmd_cmds, arrived_nvme]
  case dataRange =>
    intro f off data c ho hc hr hp
    exact leads_taken k rfl (fwdData_range ((ownId_congr (arrived_side ..)).trans ho) (by rwa [arrived_nvme]) hr hp)
      fun x hx hi => removeKeys_items hx hi
  case done =>
    intro m c ho hs hp hx hl
    refine leads_taken k rfl (u := onCmd c.id (fun c => { c with fwdTo := none }) (arrived h 2 s.dev)) ?_ ?_
    · rw [fwdCompletion_whole ((ownId_congr (arrived_side ..)).trans ho) ((sentCmd_congr (arrived_nvme ..)).trans hs) hp, forwardDone_plain _ hx hl]
    · rw [onCmd_cmds, arrived_nvme]
  case part =>
    intro m c p ho hs hp hc
    exact leads_taken k rfl (fwdCompletion_part ((ownId_congr (arrived_side ..)).trans ho) ((sentCmd_congr (arrived_nvme ..)).trans hs) hp
      ((cmdOf_congr (arrived_nvme ..)).trans hc)) (arrived_nvme ..)
  case word =>
    intro m c ho hc hs h0 h1
    refine leads_taken k rfl (fwdCompletion_word ((ownId_congr (arrived_side ..)).trans ho) (by rwa [arrived_nvme])) ?_
    rw [shareWord_tick _ hs h0 h1, arrived_nvme]
  case reserve =>
    intro f ids hn
    refine ⟨fun hl => gives_taken k rfl ?_, fun hl => gives_taken k rfl ?_⟩
    · rw [reserveLocks_room hn (by rwa [arrived_nvme])]
      refine ⟨taken_linkSent _ k rfl List.prefix_rfl, ?_⟩
      rw [sendLink_nvme, arrived_nvme]
      rfl
    · rw [reserveLocks_full hn (by rwa [arrived_nvme])]
      exact ⟨taken_linkSent _ k rfl List.prefix_rfl, by rw [sendLink_nvme, arrived_nvme]⟩
  case release =>
    intro f
    refine gives_taken k rfl ?_
    show (arrived h 2 s.dev).nvme.locks.filter _ = _
    rw [arrived_nvme]
  case reply =>
    intro f
    refine ⟨gives_taken k rfl ?_, gives_taken k rfl ?_⟩
    · rw [lockReplied_remoteLocks, arrived_nvme, if_neg Bool.false_ne_true]
    · rw [lockReplied_remoteLocks, arrived_nvme, if_pos rfl]
  case mirror =>
    intro w r
    refine leads_taken k rfl (u := recordAcked w r (arrived h 1 s.dev)) (by rw [mirrorData_eq]) ⟨?_, ?_⟩
    · rw [recordAcked_held, arrived_held]
    · rw [recordAcked_held]
      exact taken_linkSent _ k rfl List.prefix_rfl
  case mirrorAck =>
    intro w n m hm
    have hf : (arrived h 1 s.dev).peer.mirrors.find? (·.id == w) = some m := by rwa [arrived_mirrors]
    refine leads_taken k rfl (mirrorAcked_found hf) ⟨?_, fun hr ha => acksCounted_returning hf ((arrived_returning ..).trans hr) ha⟩
    rw [acksCounted_mirrors, mirrorsAcked, arrived_mirrors]
    simp only [beq_iff_eq]
  case mirrorRelease =>
    intro ws
    refine gives_taken k rfl ?_
    show (arrived h 1 s.dev).peer.held.filter _ = _
    rw [arrived_held]
  case page =>
    intro p
    obtain ⟨u, hu, hl, ho⟩ := journalPage_acks p (arrived h 1 s.dev)
    exact leads_taken k rfl hu (taken_linkSent _ k hl ho)
  case pageNew =>
    intro p hp
    exact leads_taken k rfl (journalPage_new (by rwa [arrived_stripe])) ⟨_, pageAdded_mem p _, rfl, rfl, rfl, rfl⟩
  case journalAck =>
    intro n
    refine leads_taken k rfl (u := { arrived h 1 s.dev with stripe := { (arrived h 1 s.dev).stripe with
      pages := (arrived h 1 s.dev).stripe.pages.map fun p => if p.seq ≤ n then { p with mirrored := true } else p } }) rfl ?_
    dsimp only
    rw [arrived_stripe]
  case resend =>
    intro first last
    refine gives_taken k rfl fun p hp h1 h2 => sendAll_linkSent (arrived_linkPhysical k) (arrived_linkWorked ..).out ?_
    rw [arrived_stripe]
    exact List.mem_map_of_mem (List.mem_filter.2 ⟨hp, by simp [h1, h2]⟩)

end Sys2Proof.Machine
end

section
/-! SUPPORT. What queueing and fetching Key Value commands changes, and what the checks of a command read as before (R125, R139, R153, R154). -/

namespace Sys2Proof.Machine

/-! ## What fetching changes -/

/-- The values that fetching a command may step: those of sending, and the count of write stops (R154). -/
def FetchKey (k : Nat) : Prop := CountKey k ∨ k = odKey 0x2400 6 0

/-- From `a` to `b` the device did no more for its hosts than queue, fetch, count and send: its commands, idle time, counts per bucket,
counters, outputs, log and EMCY state differ. -/
def Attended (a b : Device) : Prop :=
  ∃ nvme idle counts total ps ev sq can cells out, b = { a with
    nvme := nvme, power := { a.power with idleSince := idle }, peer := { a.peer with bucketCounts := counts, windowTotal := total }
    ports := { a.ports with ports := ps }, admin := { a.admin with events := ev, eventSeq := sq }, can := can
    dict := { a.dict with cells := cells }, out := out } ∧ a.out <+: out ∧
    ∀ k v, ¬ FetchKey k → tblGetD cells k v = tblGetD a.dict.cells k v

theorem Attended.refl (a : Device) : Attended a a := ⟨_, _, _, _, _, _, _, _, _, _, rfl, List.prefix_rfl, fun _ _ _ => rfl⟩

theorem Attended.trans {a b c : Device} (h : Attended a b) (k : Attended b c) : Attended a c := by
  obtain ⟨_, _, _, _, _, _, _, _, _, _, rfl, p, o⟩ := h
  obtain ⟨_, _, _, _, _, _, _, _, _, _, rfl, p', o'⟩ := k
  exact ⟨_, _, _, _, _, _, _, _, _, _, rfl, p.trans p', fun k v h => (o' k v h).trans (o k v h)⟩

theorem Attended.out {a b : Device} (h : Attended a b) : a.out <+: b.out := by
  obtain ⟨_, _, _, _, _, _, _, _, _, _, rfl, p, -⟩ := h
  exact p

theorem Attended.foldl {α : Type} {f : Device → α → Device} (hf : ∀ d x, Attended d (f d x)) (l : List α) (d : Device) :
    Attended d (l.foldl f d) := by
  induction l generalizing d with
  | nil => exact .refl d
  | cons x l ih => exact (hf d x).trans (ih _)

theorem Spoke.attended {a b : Device} (h : Spoke a b) : Attended a b := by
  obtain ⟨_, _, _, _, _, _, rfl, p, o, -⟩ := h
  exact ⟨a.nvme, a.power.idleSince, a.peer.bucketCounts, a.peer.windowTotal, _, _, _, _, _, _, rfl, p, fun k v hk => o k v fun hc => hk (.inl hc)⟩

theorem nvme_attended (n : NvmeState) (d : Device) : Attended d { d with nvme := n } :=
  ⟨n, _, _, _, _, _, _, _, _, _, rfl, List.prefix_rfl, fun _ _ _ => rfl⟩

theorem idle_attended (t : Nat) (d : Device) : Attended d { d with power := { d.power with idleSince := t } } :=
  ⟨_, t, _, _, _, _, _, _, _, _, rfl, List.prefix_rfl, fun _ _ _ => rfl⟩

/-- A stop of write fetching counts under a key of its own. -/
theorem noteWrites_attended (d : Device) : Attended d (noteWrites d) := by
  have hb : Attended d (odBump 0x2400 6 1 d) := by
    refine ⟨d.nvme, _, _, _, _, _, _, _, _, d.out, rfl, List.prefix_rfl, fun k v hk => ?_⟩
    have hne : k ≠ odKey 0x2400 6 0 := fun e => hk (.inr e)
    unfold tblGetD tblStore
    split_ifs
    · rw [tblGet?_tblDel_other _ hne]
    · rw [tblGet?_tblPut_other _ _ hne]
  unfold noteWrites
  dsimp only
  split_ifs
  · exact hb.trans (nvme_attended _ _)
  · exact nvme_attended _ _

theorem noteWrites_nvme (d : Device) : (noteWrites d).nvme = { d.nvme with writesStopped := writesStop d } := by
  unfold noteWrites
  dsimp only
  split_ifs <;> rfl

theorem noteWrites_ports (d : Device) : (noteWrites d).ports = d.ports := by
  unfold noteWrites
  dsimp only
  split_ifs <;> rfl

theorem countHome_attended (keys : List (Nat × Bytes)) (d : Device) : Attended d (countHome keys d) := by
  refine .foldl (fun d k => ?_) _ d
  dsimp only
  split_ifs
  · exact .refl d
  · exact ⟨d.nvme, d.power.idleSince, _, _, _, _, _, _, _, _, rfl, List.prefix_rfl, fun _ _ _ => rfl⟩

theorem countHome_nvme (keys : List (Nat × Bytes)) (d : Device) : (countHome keys d).nvme = d.nvme := by
  refine foldl_eq_of_step Device.nvme (fun d k => ?_) _ d
  dsimp only
  split_ifs <;> rfl

theorem countHome_ports (keys : List (Nat × Bytes)) (d : Device) : (countHome keys d).ports = d.ports := by
  refine foldl_eq_of_step Device.ports (fun d k => ?_) _ d
  dsimp only
  split_ifs <;> rfl

/-! ## What the checks read -/

theorem Attended.odSel {a b : Device} (h : Attended a b) {idx sub sel : Nat} (hk : ¬ FetchKey (odKey idx sub sel)) :
    odSel idx sub sel b = odSel idx sub sel a := by
  obtain ⟨_, _, _, _, _, _, _, _, _, _, rfl, -, o⟩ := h
  exact o _ _ hk

theorem not_fetchKey_above {idx sub sel : Nat} (h : 0x2400 < idx) : ¬ FetchKey (odKey idx sub sel) := by
  unfold FetchKey CountKey odKey
  omega

theorem Attended.odVal_above {a b : Device} (h : Attended a b) {idx : Nat} (hi : 0x2400 < idx) (sub : Nat) : odVal idx sub b = odVal idx sub a :=
  h.odSel (not_fetchKey_above hi)

theorem Attended.nsRecord {a b : Device} (h : Attended a b) (ns : Nat) : nsRecord ns b = nsRecord ns a :=
  h.odSel (not_fetchKey_above (by decide))

theorem Attended.partRecord {a b : Device} (h : Attended a b) (n : Nat) : partRecord n b = partRecord n a := h.odVal_above (by decide) _

/-- The keys and versions of the store, the snapshots and the map stay. -/
theorem Attended.store {a b : Device} (h : Attended a b) : b.kv = a.kv ∧ b.snap = a.snap ∧ b.map = a.map ∧ b.stripe = a.stripe ∧ b.side = a.side := by
  obtain ⟨_, _, _, _, _, _, _, _, _, _, rfl, -⟩ := h
  exact ⟨rfl, rfl, rfl, rfl, rfl⟩

/-- So do the peer's state and what moves between the homes. -/
theorem Attended.peer {a b : Device} (h : Attended a b) :
    b.peer.st = a.peer.st ∧ b.peer.takeover = a.peer.takeover ∧ b.peer.moves = a.peer.moves := by
  obtain ⟨_, _, _, _, _, _, _, _, _, _, rfl, -⟩ := h
  exact ⟨rfl, rfl, rfl⟩

theorem Attended.powerFailing {a b : Device} (h : Attended a b) : powerFailing b = powerFailing a := by
  obtain ⟨_, _, _, _, _, _, _, _, _, _, rfl, -⟩ := h
  rfl

theorem Attended.realNs {a b : Device} (h : Attended a b) (ns : Nat) : realNs ns b = realNs ns a := by
  obtain ⟨_, _, _, _, _, _, _, _, _, _, rfl, -⟩ := h
  rfl

theorem Attended.keyHash {a b : Device} (h : Attended a b) (ns : Nat) (key : Bytes) : keyHash ns key b = keyHash ns key a := by
  obtain ⟨_, _, _, _, _, _, _, _, _, _, rfl, -⟩ := h
  rfl

theorem Attended.searchPart {a b : Device} (h : Attended a b) (n key : Nat) : searchPart n key b = searchPart n key a := by
  have hp := h.partRecord
  obtain ⟨_, _, _, _, _, _, _, _, _, _, rfl, -⟩ := h
  unfold Machine.searchPart
  rw [hp]

theorem Attended.policyOf {a b : Device} (h : Attended a b) (ns : Nat) (key : Bytes) : policyOf ns key b = policyOf ns key a := by
  unfold Machine.policyOf
  simp only [h.partRecord, h.searchPart]

theorem Attended.homeOf {a b : Device} (h : Attended a b) (n : Nat) : homeOf n b = homeOf n a := by
  have ho : overrideOf n b = overrideOf n a := by
    unfold overrideOf partOfType
    simp only [h.partRecord, h.searchPart]
  unfold Machine.homeOf
  rw [ho]
  obtain ⟨_, _, _, _, _, _, _, _, _, _, rfl, -⟩ := h
  rfl

theorem Attended.keyHome {a b : Device} (h : Attended a b) (ns : Nat) (key : Bytes) : keyHome ns key b = keyHome ns key a := by
  unfold Machine.keyHome bucketOf
  rw [h.keyHash, h.homeOf]

theorem Attended.locksAt {a b : Device} (h : Attended a b) (side cmd : Nat) (c : Capsule) : locksAt side cmd c b = locksAt side cmd c a := by
  unfold Machine.locksAt keyLock
  simp only [h.realNs, h.keyHome, h.keyHash]

theorem Attended.nsServes {a b : Device} (h : Attended a b) (s : Sqe) (port : Nat) : nsServes s port b = nsServes s port a := by
  have hr := h.nsRecord
  obtain ⟨_, _, _, _, _, _, _, _, _, _, rfl, -⟩ := h
  unfold Machine.nsServes nsDefined nsPorts
  simp only [hr]
  rfl

/-- The field checks find what they found. -/
theorem Attended.fieldCheck {a b : Device} (h : Attended a b) (port : Nat) (c : Capsule) : fieldCheck port c b = fieldCheck port c a := by
  have hs := h.nsServes c.sqe port
  obtain ⟨_, _, _, _, _, _, _, _, _, _, rfl, -⟩ := h
  unfold Machine.fieldCheck
  dsimp only
  rw [hs]

theorem Attended.profileOf {a b : Device} (h : Attended a b) (g : Nat) : profileOf g b = profileOf g a := by
  have hb : binding g b = binding g a := h.odVal_above (by decide) _
  unfold Machine.profileOf
  rw [hb]
  obtain ⟨_, _, _, _, _, _, _, _, _, _, rfl, -⟩ := h
  rfl

theorem Attended.groupOn {a b : Device} (h : Attended a b) (g : Nat) : groupOn g b = groupOn g a := by
  have h1 : odVal 0x2210 1 b = odVal 0x2210 1 a := h.odSel (by unfold FetchKey CountKey odKey; omega)
  have h3 : odVal 0x2210 3 b = odVal 0x2210 3 a := h.odSel (by unfold FetchKey CountKey odKey; omega)
  unfold Machine.groupOn
  rw [h1, h3]
  obtain ⟨_, _, _, _, _, _, _, _, _, _, rfl, -⟩ := h
  rfl

theorem Attended.fetchReady {a b : Device} (h : Attended a b) : fetchReady b = fetchReady a := by
  have hg : boundGroups b = boundGroups a := by
    unfold boundGroups
    simp only [h.profileOf]
  unfold Machine.fetchReady
  rw [hg]
  simp only [h.groupOn]
  obtain ⟨_, _, _, _, _, _, _, _, _, _, rfl, -⟩ := h
  rfl

theorem Attended.fetchClosed {a b : Device} (h : Attended a b) : fetchClosed b = fetchClosed a := by
  unfold Machine.fetchClosed
  rw [h.fetchReady]
  obtain ⟨_, _, _, _, _, _, _, _, _, _, rfl, -⟩ := h
  rfl

theorem Attended.writesStop {a b : Device} (h : Attended a b) (hc : b.nvme.cmds = a.nvme.cmds) : writesStop b = writesStop a := by
  have hw : writeThrough b = writeThrough a := by
    have hm : odVal 0x2D20 1 b = odVal 0x2D20 1 a := h.odVal_above (by decide) _
    unfold writeThrough ackMode
    rw [hm]
    obtain ⟨_, _, _, _, _, _, _, _, _, _, rfl, -⟩ := h
    rfl
  unfold Machine.writesStop unflushed
  rw [hw, hc]
  obtain ⟨_, _, _, _, _, _, _, _, _, _, rfl, -⟩ := h
  rfl

/-- With the same commands, locks and reservations the same holds a queue back (R153). -/
theorem Attended.stallOf {a b : Device} (h : Attended a b) (hc : b.nvme.cmds = a.nvme.cmds) (hl : b.nvme.locks = a.nvme.locks)
    (hr : b.nvme.remoteLocks = a.nvme.remoteLocks) (y : SubQueue) (c : Capsule) : stallOf y c b = stallOf y c a := by
  have ho : outstanding b = outstanding a := by
    unfold outstanding
    rw [hc]
  have hv : reservation y.ref b = reservation y.ref a := by
    unfold reservation
    rw [hr]
  have hm : remoteLocksOf c b = remoteLocksOf c a := by
    unfold remoteLocksOf
    rw [h.locksAt]
    obtain ⟨_, _, _, _, _, _, _, _, _, _, rfl, -⟩ := h
    rfl
  unfold Machine.stallOf
  rw [h.fetchClosed, ho, h.fieldCheck, hl, h.locksAt, hm, hv, h.writesStop hc, h.store.2.2.2.2]

/-- What a command finds of its key. -/
theorem Attended.liveVersion {a b : Device} (h : Attended a b) (ns : Nat) (key : Bytes) : liveVersion ns key b = liveVersion ns key a := by
  obtain ⟨_, _, _, _, _, _, _, _, _, _, rfl, -⟩ := h
  rfl

theorem Attended.readVersion {a b : Device} (h : Attended a b) (c : Cmd) : readVersion c b = readVersion c a := by
  obtain ⟨_, _, _, _, _, _, _, _, _, _, rfl, -⟩ := h
  rfl

theorem Attended.lackingPage {a b : Device} (h : Attended a b) (c : Cmd) : lackingPage c b = lackingPage c a := by
  obtain ⟨_, _, _, _, _, _, _, _, _, _, rfl, -⟩ := h
  rfl

theorem Attended.lostPage {a b : Device} (h : Attended a b) (c : Cmd) : lostPage c b = lostPage c a := by
  obtain ⟨_, _, _, _, _, _, _, _, _, _, rfl, -⟩ := h
  rfl

theorem Attended.keysFrom {a b : Device} (h : Attended a b) (nsid : Nat) (start : Bytes) (after : Bool) :
    keysFrom nsid start after b = keysFrom nsid start after a := by
  obtain ⟨_, _, _, _, _, _, _, _, _, _, rfl, -⟩ := h
  rfl

theorem Attended.deleteRefused {a b : Device} (h : Attended a b) (ns : Nat) (key : Bytes) : deleteRefused ns key b = deleteRefused ns key a := by
  unfold Machine.deleteRefused
  rw [h.policyOf, h.liveVersion]

theorem Attended.slotForRetrieve {a b : Device} (h : Attended a b) (n : Nat) : slotForRetrieve n b = slotForRetrieve n a := by
  obtain ⟨_, _, _, _, _, _, _, _, _, _, rfl, -⟩ := h
  rfl

theorem Attended.keySlotFor {a b : Device} (h : Attended a b) (ns policy : Nat) : keySlotFor ns policy b = keySlotFor ns policy a := by
  unfold Machine.keySlotFor nsSlot
  rw [h.nsRecord]

end Sys2Proof.Machine
end

section
/-! SUPPORT. A Key Value command that has its turn: arrival in its queue, the stay of the arbiter, the fetch (R139, R141, R145, R151, R153). -/

namespace Sys2Proof.Machine

/-! ## Queues -/

theorem queueOf_onQueue {q : QueueRef} {f : SubQueue → SubQueue} {x : SubQueue} {d : Device} (h : queueOf q d = some x)
    (hf : ∀ y, (f y).ref = y.ref) : queueOf q (onQueue q f d) = some (f x) := by
  have hx : (x.ref == q) = true := List.find?_some (p := fun y : SubQueue => y.ref == q) h
  have hp : ((fun y : SubQueue => y.ref == q) ∘ fun y => if y.ref == q then f y else y) = fun y => y.ref == q := by
    funext y
    dsimp only [Function.comp]
    split_ifs
    · rw [hf]
    · rfl
  unfold queueOf at h
  rw [queueOf, onQueue, List.find?_map, hp, h, Option.map_some, if_pos hx]

theorem queueOf_single {x : SubQueue} {d : Device} (h : d.nvme.queues = [x]) : queueOf x.ref d = some x := by
  simp [queueOf, h]

theorem onQueue_single {x : SubQueue} {f : SubQueue → SubQueue} {d : Device} (h : d.nvme.queues = [x]) :
    (onQueue x.ref f d).nvme.queues = [f x] := by
  simp [onQueue, h]

theorem onQueue_attended (q : QueueRef) (f : SubQueue → SubQueue) (d : Device) : Attended d (onQueue q f d) := nvme_attended _ d

/-- A capsule that finds room enters its queue; then the arbiter fetches. -/
theorem ioArrive_room {q : QueueRef} {c : Capsule} {x : SubQueue} {d : Device} (hx : queueOf q d = some x) (hl : x.slots.length < x.size)
    (hq : q.qid ≠ 0) :
    ioArrive q c d = commandFetch (ioActivity (onQueue q (fun q => { q with slots := q.slots ++ [c] }) d)) := by
  simp only [ioArrive, hx, beq_eq_false_iff_ne.2 hq, decide_eq_false (not_le.2 hl), Bool.or_self, Bool.false_eq_true, if_false]

/-! ## What holds a queue back -/

/-- A head that can be fetched needs nothing noted. -/
theorem noteStall_open {q : QueueRef} {x : SubQueue} {c : Capsule} {rest : List Capsule} {d : Device} (hx : queueOf q d = some x)
    (hs : x.slots = c :: rest) (ho : stallOf x c d = none) : noteStall q d = d := by
  simp only [noteStall, hx, hs, ho]

/-- Nor does a queue without commands. -/
theorem noteStall_empty {q : QueueRef} {d : Device} (h : ∀ x ∈ d.nvme.queues, x.slots = []) : noteStall q d = d := by
  unfold noteStall
  split
  · rfl
  next x hx => rw [h x (List.mem_of_find?_eq_some hx)]

theorem noteStall_locks {q : QueueRef} {x : SubQueue} {c : Capsule} {rest : List Capsule} {d : Device} (hx : queueOf q d = some x)
    (hs : x.slots = c :: rest) (ho : stallOf x c d = some .locks) (hn : x.lockStalled = false) :
    noteStall q d = odBump 0x2400 3 1 (onQueue q (fun q => { q with lockStalled := true }) d) := by
  simp only [noteStall, hx, hs, ho, hn, Bool.false_eq_true, if_false]

/-- The next forward id of this device, given out for a reservation for the head of queue `q`. -/
def reservationAsked (q : QueueRef) (d : Device) : Device :=
  { d with nvme := { d.nvme with
    nextFwd := d.nvme.nextFwd + 1, remoteLocks := d.nvme.remoteLocks ++ [(queueCode q, d.side * 2 ^ 63 + d.nvme.nextFwd, false)] } }

theorem noteStall_remote {q : QueueRef} {x : SubQueue} {c : Capsule} {rest : List Capsule} {d : Device} (hx : queueOf q d = some x)
    (hs : x.slots = c :: rest) (ho : stallOf x c d = some .remote) (hr : reservation q d = none) :
    noteStall q d = sendLink (.lockReserve (d.side * 2 ^ 63 + d.nvme.nextFwd) ((remoteLocksOf c d).map lockIdent)) (reservationAsked q d) := by
  simp only [noteStall, hx, hs, ho, hr, Option.isSome_none, Bool.false_eq_true, if_false]
  rfl

theorem reservation_asked {q : QueueRef} {d : Device} (h : reservation q d = none) :
    reservation q (reservationAsked q d) = some (d.side * 2 ^ 63 + d.nvme.nextFwd, false) := by
  have hn : d.nvme.remoteLocks.find? (·.1 == queueCode q) = none := by simpa [reservation] using h
  simp [reservation, reservationAsked, hn]

/-- Nothing holds a queue back: the device fetches, and no ORD command holds the queue. -/
theorem fetchClosed_of_stallOf {x : SubQueue} {c : Capsule} {d : Device} (h : stallOf x c d = none) : fetchClosed d = false := by
  by_contra hc
  simp [stallOf, Bool.eq_true_of_not_eq_false hc] at h

/-- A device that fetches beside no serving peer is ready, and no power failure runs. -/
theorem ready_of_fetch {d : Device} (hs : servesAll d = true) (h : fetchClosed d = false) : powerFailing d = false ∧ fetchReady d = true := by
  have h5 : d.peer.st = 5 := by
    simp only [servesAll, Bool.and_eq_true, beq_iff_eq] at hs
    exact hs.1
  simp only [fetchClosed, h5, Nat.reduceBEq, Bool.false_eq_true, if_false, Bool.or_false, Bool.or_eq_false_iff, Bool.not_eq_false'] at h
  exact ⟨h.1.1.2, h.2⟩

/-- While fetching goes on, work for the hosts only restarts the idle time. -/
theorem ioActivity_ready {d : Device} (h : fetchReady d = true) : ioActivity d = { d with power := { d.power with idleSince := d.time.now } } := by
  have he : d.power.eff < 2 := by
    simp only [fetchReady, Bool.and_eq_true, decide_eq_true_eq] at h
    exact h.1.1
  unfold ioActivity
  simp only [he, decide_true, Bool.true_or, if_true]

/-! ## The arbiter stays with its queue -/

/-- The device as it fetches on: stops of write fetching are noted, and the burst has one command less (R141, R142). -/
def burstSpent (d : Device) : Device :=
  let u := noteWrites d
  { u with nvme := { u.nvme with arb := { u.nvme.arb with burst := u.nvme.arb.burst.map (· - 1) } } }

theorem burstSpent_attended (d : Device) : Attended d (burstSpent d) := (noteWrites_attended d).trans (nvme_attended _ _)

theorem burstSpent_ports (d : Device) : (burstSpent d).ports = d.ports := noteWrites_ports d

theorem burstSpent_nvme (d : Device) : (burstSpent d).nvme =
    { d.nvme with writesStopped := writesStop d, arb := { d.nvme.arb with burst := d.nvme.arb.burst.map (· - 1) } } := by
  unfold burstSpent
  dsimp only
  rw [noteWrites_nvme]

theorem commandFetch_stays {x : SubQueue} {c : Capsule} {rest : List Capsule} {d : Device} (hq : d.nvme.queues = [x]) (hs : x.slots = c :: rest)
    (ho : stallOf x c d = none) (ha : d.nvme.arb.queue = some x.ref) (hb : d.nvme.arb.burst ≠ some 0) :
    commandFetch d = fetchHead x.ref (burstSpent d) := by
  have hn : noteStall x.ref d = d := noteStall_open (queueOf_single hq) hs ho
  have hw := noteWrites_nvme d
  have hstall : stallOf x c (noteWrites d) = none := by
    rw [(noteWrites_attended d).stallOf (by rw [hw]) (by rw [hw]) (by rw [hw])]
    exact ho
  have hf : ((queueOf x.ref (noteWrites d)).map (fetchable (noteWrites d))).getD false = true := by
    rw [queueOf_single (show (noteWrites d).nvme.queues = [x] by rw [hw]; exact hq), Option.map_some, Option.getD_some, fetchable, hs]
    simp only [hstall, Option.isNone_none]
  have hgo : (noteWrites d).nvme.arb.queue = some x.ref := by
    rw [hw]
    exact ha
  have hbu : ((noteWrites d).nvme.arb.burst != some 0) = true := by
    rw [hw]
    exact bne_iff_ne.2 hb
  unfold commandFetch
  simp only [hq, List.map_cons, List.map_nil, List.foldl_cons, List.foldl_nil, hn, hgo, hbu, hf, Bool.and_self, if_true, burstSpent]

/-! ## The fetch -/

/-- Queue `r` with its head fetched. -/
def headGone (r : QueueRef) (rest : List Capsule) (d : Device) : Device :=
  onQueue r (fun q => { q with slots := rest, head := (q.head + 1) % max q.size 1, nextSeq := q.nextSeq + 1, lockStalled := false }) d

/-- The device with command `c` of queue `x` entered as the next one, its locks reserved. -/
def cmdEntered (x : SubQueue) (c : Capsule) (ord : Bool) (d : Device) : Device :=
  let y := addCmd (fun id => { newCmd id x.ref c (queueClass x.ref d) x.nextSeq ord with fwdTo := (reservation x.ref d).map (·.1) }) d
  let d := dropReservation x.ref y.2
  setLocks (d.nvme.locks ++ locksAt d.side y.1 c d) d

/-- The device with head `c` of queue `x` fetched: its data are asked for, and it enters; an ORD command holds its queue (R147). -/
def headFetched (x : SubQueue) (c : Capsule) (rest : List Capsule) (d : Device) : Device :=
  let d := askData x.ref c (headGone x.ref rest d)
  let ord := orderedMode x.ref.port d && c.sqe.ord
  let e := cmdEntered x c ord d
  if ord then onQueue x.ref (fun q => { q with ordHold := some d.nvme.nextCmd }) e else e

theorem fetchHead_checked {x : SubQueue} {c : Capsule} {rest : List Capsule} {d : Device} (hq : d.nvme.queues = [x]) (hs : x.slots = c :: rest)
    (hc : fieldCheck x.ref.port c d = none) : fetchHead x.ref d = noteStall x.ref (settle (headFetched x c rest d)) := by
  have hg : fieldCheck x.ref.port c (headGone x.ref rest d) = none := by
    rw [headGone, (onQueue_attended ..).fieldCheck, hc]
  unfold headGone at hg
  unfold fetchHead
  simp only [queueOf_single hq, hs, hg]
  rfl

theorem askData_spoke (q : QueueRef) (c : Capsule) (d : Device) : Spoke d (askData q c d) := by
  unfold askData
  split_ifs
  · exact .refl d
  · exact .foldl (fun d i => sendOn_spoke ..) _ _

/-- A command that brings no data for the device has none asked for. -/
theorem askData_none {c : Capsule} (h : c.sqe.opcode % 4 ≠ 1) (q : QueueRef) (d : Device) : askData q c d = d := by
  simp only [askData, bne_iff_ne.2 h, Bool.or_true, if_true]

/-- What the fetch of command `c` of queue `q`, which has its turn on device `d`, leaves: the one command, waiting for its order, with its
locks reserved. -/
structure TurnTaken (q : QueueRef) (c : Capsule) (d w : Device) : Prop where
  attended : Attended d w
  ports : c.sqe.opcode % 4 ≠ 1 → w.ports = d.ports
  cmd : ∃ cls seq ord, w.nvme.cmds = [newCmd d.nvme.nextCmd q c cls seq ord]
  next : w.nvme.nextCmd = d.nvme.nextCmd + 1
  locks : w.nvme.locks = locksAt d.side d.nvme.nextCmd c d
  queues : ∀ y ∈ w.nvme.queues, y.slots = []

theorem TurnTaken.hold {q : QueueRef} {c : Capsule} {d w : Device} (h : TurnTaken q c d w) (r : QueueRef) (id : Nat) :
    TurnTaken q c d (onQueue r (fun q => { q with ordHold := some id }) w) := by
  refine ⟨h.attended.trans (onQueue_attended ..), h.ports, h.cmd, h.next, h.locks, fun y hy => ?_⟩
  obtain ⟨z, hz, rfl⟩ := List.mem_map.1 hy
  split_ifs <;> exact h.queues z hz

theorem cmdEntered_taken {x : SubQueue} {c : Capsule} {ord : Bool} {a u : Device} (ha : Attended a u)
    (hp : c.sqe.opcode % 4 ≠ 1 → u.ports = a.ports) (hn : u.nvme.nextCmd = a.nvme.nextCmd) (hc : u.nvme.cmds = []) (hl : u.nvme.locks = [])
    (hr : u.nvme.remoteLocks = []) (hq : ∀ y ∈ u.nvme.queues, y.slots = []) : TurnTaken x.ref c a (cmdEntered x c ord u) := by
  have hrv : reservation x.ref u = none := by
    rw [reservation, hr]
    rfl
  have hat : Attended a (cmdEntered x c ord u) := ha.trans (nvme_attended _ u)
  have hu : Attended a (dropReservation x.ref (addCmd (fun id => { newCmd id x.ref c (queueClass x.ref u) x.nextSeq ord with
      fwdTo := (reservation x.ref u).map (·.1) }) u).2) := ha.trans (nvme_attended _ u)
  refine ⟨hat, hp, ⟨queueClass x.ref u, x.nextSeq, ord, ?_⟩, congrArg (· + 1) hn, ?_, hq⟩
  · show u.nvme.cmds ++ [{ newCmd u.nvme.nextCmd x.ref c (queueClass x.ref u) x.nextSeq ord with fwdTo := (reservation x.ref u).map (·.1) }] = _
    rw [hc, hn, hrv]
    rfl
  · show u.nvme.locks ++ locksAt u.side u.nvme.nextCmd c (dropReservation x.ref _) = _
    rw [hu.locksAt, hl, hn, ha.store.2.2.2.2, List.nil_append]

theorem headFetched_taken {x : SubQueue} {c : Capsule} {a d : Device} (ha : Attended a d) (hp : d.ports = a.ports) (hq : d.nvme.queues = [x])
    (hn : d.nvme.nextCmd = a.nvme.nextCmd) (hc : d.nvme.cmds = []) (hl : d.nvme.locks = []) (hr : d.nvme.remoteLocks = []) :
    TurnTaken x.ref c a (headFetched x c [] d) := by
  have hs := askData_spoke x.ref c (headGone x.ref [] d)
  have hnv : (askData x.ref c (headGone x.ref [] d)).nvme = (headGone x.ref [] d).nvme := hs.store.1
  have hport : c.sqe.opcode % 4 ≠ 1 → (askData x.ref c (headGone x.ref [] d)).ports = a.ports := fun ho => by
    rw [askData_none ho]
    exact hp
  have hg : ∀ y ∈ (headGone x.ref [] d).nvme.queues, y.slots = [] := by
    rw [headGone, onQueue_single hq]
    simp
  have he : ∀ ord, TurnTaken x.ref c a (cmdEntered x c ord (askData x.ref c (headGone x.ref [] d))) := fun ord =>
    cmdEntered_taken ((ha.trans (onQueue_attended ..)).trans hs.attended) hport (by rw [hnv]; exact hn) (by rw [hnv]; exact hc)
      (by rw [hnv]; exact hl) (by rw [hnv]; exact hr) (by rw [hnv]; exact hg)
  unfold headFetched
  dsimp only
  split_ifs
  · exact (he _).hold ..
  · exact he _

/-- A command that has its turn is fetched as it arrives, and goes on as the only one. -/
theorem ioArrive_turn {q : QueueRef} {c : Capsule} {d : Device} (h : KvTurn q c d) :
    ∃ w, ioArrive q c d = noteStall q (settle w) ∧ TurnTaken q c d w := by
  obtain ⟨x, hx, rfl, hs, hz, ho⟩ := h.queue
  obtain ⟨hq, -, -, hf⟩ := h.host
  obtain ⟨hc, hl, hr, -⟩ := h.idle
  obtain ⟨ha, hb⟩ := h.arbiter
  let y : SubQueue := { x with slots := [c] }
  let u := ioActivity (onQueue x.ref (fun q => { q with slots := q.slots ++ [c] }) d)
  have hon := onQueue_attended x.ref (fun q => { q with slots := q.slots ++ [c] }) d
  have hu : u = { onQueue x.ref (fun q => { q with slots := q.slots ++ [c] }) d with power := { d.power with idleSince := d.time.now } } :=
    ioActivity_ready (hon.fetchReady.trans (ready_of_fetch h.alone.1 (fetchClosed_of_stallOf ho)).2)
  have hat : Attended d u := hu ▸ hon.trans (idle_attended d.time.now _)
  have hy : u.nvme.queues = [y] := by
    rw [hu]
    show (onQueue x.ref _ d).nvme.queues = _
    rw [onQueue_single hx, hs]
    rfl
  have hst : stallOf y c u = none := by
    rw [hat.stallOf (by rw [hu]; rfl) (by rw [hu]; rfl) (by rw [hu]; rfl)]
    exact ho
  have hbs := burstSpent_nvme u
  have hats := hat.trans (burstSpent_attended u)
  refine ⟨headFetched y c [] (burstSpent u), ?_, ?_⟩
  · rw [ioArrive_room (queueOf_single hx) (by rw [hs]; exact hz) hq, commandFetch_stays (x := y) hy rfl hst (by rw [hu]; exact ha) (by rw [hu]; exact hb)]
    exact fetchHead_checked (x := y) (by rw [hbs]; exact hy) rfl (by rw [hats.fieldCheck]; exact hf)
  · exact headFetched_taken (x := y) hats (by rw [burstSpent_ports, hu]; rfl) (by rw [hbs]; exact hy) (by rw [hbs, hu]; rfl) (by rw [hbs, hu]; exact hc)
      (by rw [hbs, hu]; exact hl) (by rw [hbs, hu]; exact hr)

end Sys2Proof.Machine
end

section
/-! SUPPORT. The only command of the device goes on: its start, its locks, and its answer (R128 to R133, R145, R148, R149). -/

namespace Sys2Proof.Machine

/-! ## The end of a command -/

/-- Command `x` is the one that capsule `c` of queue `q` brought, and is a host's: no part, and nothing of it at the other peer. -/
structure HostCmd (q : QueueRef) (c : Capsule) (x : Cmd) : Prop where
  fwdFrom : x.fwdFrom = none
  parent : x.parent = none
  fwdTo : x.fwdTo = none
  queue : x.q = q
  sqe : x.sqe = (plainCapsule c).sqe
  slot : x.slot = none

theorem newCmd_hostCmd (id : Nat) (q : QueueRef) (c : Capsule) (cls seq : Nat) (ord : Bool) : HostCmd q c (newCmd id q c cls seq ord) :=
  ⟨rfl, rfl, rfl, rfl, rfl, rfl⟩

/-- On `u`, command `x` is the only one, the ports are those of `d`, and no queue holds a capsule. -/
structure Alone (d : Device) (x : Cmd) (u : Device) : Prop where
  cmds : u.nvme.cmds = [x]
  queues : ∀ y ∈ u.nvme.queues, y.slots = []
  ports : u.ports = d.ports
  out : d.out <+: u.out

theorem Alone.cmdOf {d u : Device} {x : Cmd} (h : Alone d x u) : cmdOf x.id u = some x := by
  simp [Machine.cmdOf, h.cmds]

theorem Alone.onCmd {d u : Device} {x : Cmd} (h : Alone d x u) (f : Cmd → Cmd) : Alone d (f x) (onCmd x.id f u) :=
  ⟨by simp [onCmd_cmds, h.cmds], h.queues, h.ports, h.out⟩

theorem Alone.setLocks {d u : Device} {x : Cmd} (h : Alone d x u) (ls : List Lock) : Alone d x (setLocks ls u) :=
  ⟨h.cmds, h.queues, h.ports, h.out⟩

theorem Alone.countHome {d u : Device} {x : Cmd} (h : Alone d x u) (keys : List (Nat × Bytes)) : Alone d x (countHome keys u) :=
  ⟨by rw [countHome_nvme, h.cmds], by rw [countHome_nvme]; exact h.queues, by rw [countHome_ports, h.ports],
    h.out.trans (countHome_attended keys u).out⟩

theorem TurnTaken.alone {q : QueueRef} {c : Capsule} {d w : Device} (h : TurnTaken q c d w) (ho : c.sqe.opcode % 4 ≠ 1) :
    ∃ cls seq ord, Alone d (newCmd d.nvme.nextCmd q c cls seq ord) w := by
  obtain ⟨cls, seq, ord, hc⟩ := h.cmd
  exact ⟨cls, seq, ord, hc, h.queues, h.ports ho, h.attended.out⟩

theorem doneCmd_alone {d u : Device} {x : Cmd} (h : Alone d x u) (st : Status) (dw0 dw1 : Nat) (data : Bytes) :
    doneCmd x.id st dw0 dw1 data u = postFor x st dw0 dw1 data (removeCmd x u) := by
  simp only [doneCmd, h.cmdOf]

/-- The item of a delete has nothing to discard. -/
theorem discardItem_delete (id home : Nat) (key : Bytes) (d : Device) : discardItem id (newItem 0 key [] 0 home true) d = d := by
  simp [discardItem, newItem, releaseFlushed]

theorem failCmd_alone {d u : Device} {x : Cmd} (h : Alone d x u) (hs : x.slot = none) (hi : x.items = [] ∨ ∃ key home, x.items = [newItem 0 key [] 0 home true])
    (st : Status) (dw0 : Nat) : failCmd x.id st dw0 u = postFor x st dw0 0 [] (removeCmd x u) := by
  rcases hi with hi | ⟨key, home, hi⟩
  · simp only [failCmd, h.cmdOf, hs, hi, List.foldl_nil]
  · simp only [failCmd, h.cmdOf, hs, hi, List.foldl_cons, List.foldl_nil, discardItem_delete]

theorem removeCmd_nvme {q : QueueRef} {c : Capsule} {x : Cmd} (h : HostCmd q c x) (d : Device) : (removeCmd x d).nvme =
    { (releaseLocks x.id d).nvme with
      cmds := d.nvme.cmds.filter fun y => y.id != x.id && y.parent != some x.id
      queues := d.nvme.queues.map fun q => if q.ordHold == some x.id then { q with ordHold := none } else q } := by
  unfold removeCmd
  rw [h.fwdFrom, h.parent, h.fwdTo]
  exact (ackInvalidates_bookkept _).nvme

/-- The command leaves, and its host is told. -/
theorem Alone.answers {q : QueueRef} {c : Capsule} {d u : Device} {x : Cmd} (h : Alone d x u) (hx : HostCmd q c x) (hr : reachable q d = true)
    (hp : q.port < 8) (st : Status) (dw0 dw1 : Nat) (data : Bytes) :
    let t := postFor x st dw0 dw1 data (removeCmd x u)
    Answers q c st dw0 dw1 data d t ∧ t.nvme.cmds = [] ∧ ∀ y ∈ t.nvme.queues, y.slots = [] := by
  have he := removeCmd_emptied h.cmds hx.fwdFrom hx.parent hx.fwdTo
  have hports : (removeCmd x u).ports = d.ports := he.ports.trans h.ports
  have hreach : reachable q (removeCmd x u) = true := by
    unfold reachable at hr ⊢
    rwa [hports]
  have hw : (portOf q.port d).txWait.length ≤ (portOf q.port (removeCmd x u)).txWait.length := by
    unfold portOf
    rw [hports]
  obtain ⟨flow, hpost⟩ := complete_answers (c := c) (st := st) (dw0 := dw0) (dw1 := dw1) (data := data) hreach (h.out.trans he.out) (.inl hw)
  have hport : (x.q.port == 255) = false := by
    rw [hx.queue, beq_eq_false_iff_ne]
    omega
  have ht : postFor x st dw0 dw1 data (removeCmd x u) = countHost x st data (complete q c.sqe.tag st dw0 dw1 data (removeCmd x u)) := by
    unfold postFor
    rw [hx.fwdFrom, hx.parent]
    simp only [hport, Option.isSome_none, Bool.false_eq_true, if_false]
    rw [hx.queue, hx.sqe]
    rfl
  obtain ⟨m, hm⟩ := countHost_eq x st data (complete q c.sqe.tag st dw0 dw1 data (removeCmd x u))
  obtain ⟨v, n, hv, hcv⟩ := complete_eq q c.sqe.tag st dw0 dw1 data (removeCmd x u)
  have hn : (postFor x st dw0 dw1 data (removeCmd x u)).nvme = (removeCmd x u).nvme := by
    rw [ht, hm, hcv]
    exact hv.store.1
  refine ⟨⟨flow, ?_⟩, ?_, ?_⟩
  · rw [ht, hm]
    exact hpost.of_eq rfl rfl
  · rw [hn, he.cmds]
  · rw [hn, removeCmd_nvme hx]
    intro y hy
    obtain ⟨z, hz, rfl⟩ := List.mem_map.1 hy
    split_ifs <;> exact h.queues z hz

/-! ## Passes over the commands -/

theorem settleOnce_empty {d : Device} (h : d.nvme.cmds = []) : settleOnce d = d := by
  simp [settleOnce, h]

theorem settleOnce_single {x : Cmd} {d : Device} (h : d.nvme.cmds = [x]) : settleOnce d = stepCmd d x.id := by
  simp [settleOnce, h]

/-- Once no command is left, the commands stand still. -/
theorem settle_ended {d : Device} (h : (settleOnce (settleOnce d)).nvme.cmds = []) : settle d = settleOnce (settleOnce d) := by
  unfold settle
  generalize settleOnce (settleOnce d) = e at h ⊢
  simp [settleFrom, settleOnce_empty h]

/-- A command that has its turn and ends within two passes answers its host. -/
theorem turn_answers {q : QueueRef} {c : Capsule} {d : Device} {st : Status} {dw0 dw1 : Nat} {data : Bytes} (h : KvTurn q c d)
    (he : ∀ w, TurnTaken q c d w → ∃ x u, HostCmd q c x ∧ Alone d x u ∧
      settleOnce (settleOnce w) = postFor x st dw0 dw1 data (removeCmd x u)) : Answers q c st dw0 dw1 data d (ioArrive q c d) := by
  obtain ⟨w, hw, ht⟩ := ioArrive_turn h
  obtain ⟨x, u, hx, hu, hs⟩ := he w ht
  obtain ⟨-, hp, hr, -⟩ := h.host
  obtain ⟨ha, hc, hq⟩ := hu.answers hx hr hp st dw0 dw1 data
  rw [hw, settle_ended (hs ▸ hc), hs, noteStall_empty hq]
  exact ha

/-- The same for a command that ends within the first pass. -/
theorem turn_answers_once {q : QueueRef} {c : Capsule} {d : Device} {st : Status} {dw0 dw1 : Nat} {data : Bytes} (h : KvTurn q c d)
    (he : ∀ w, TurnTaken q c d w → ∃ x u, HostCmd q c x ∧ Alone d x u ∧ settleOnce w = postFor x st dw0 dw1 data (removeCmd x u)) :
    Answers q c st dw0 dw1 data d (ioArrive q c d) := by
  refine turn_answers h fun w ht => ?_
  obtain ⟨x, u, hx, hu, hs⟩ := he w ht
  obtain ⟨-, hp, hr, -⟩ := h.host
  obtain ⟨-, hc, -⟩ := hu.answers hx hr hp st dw0 dw1 data
  exact ⟨x, u, hx, hu, by rw [hs, settleOnce_empty hc]⟩

/-! ## The start -/

/-- The only command waits for none before it. -/
theorem canStart_single {x : Cmd} {d : Device} (h : d.nvme.cmds = [x]) : canStart x d = true := by
  simp [canStart, h]

theorem stepCmd_first {d u : Device} {x : Cmd} (h : Alone d x u) (hp : x.phase = .waitOrder) (hn : x.parent = none) (hf : powerFailing u = false)
    (hl : (lockRoom x u || !x.locks) = true) : stepCmd u x.id = startCmd x.id u := by
  simp only [stepCmd, h.cmdOf, hp, hn, hf, hl, canStart_single h.cmds, Option.isNone_none, Bool.false_and, Bool.false_eq_true, if_false, Bool.and_self,
    if_true]

/-- While this device serves every key and no bucket moves, every bucket is served here. -/
theorem routeOf_alone {d : Device} (hs : servesAll d = true) (hm : d.peer.moves = []) (b : Nat) : routeOf b d = .here := by
  have hh : homeOf b d = d.side := if_pos hs
  simp [routeOf, hh, hm]

theorem startCmd_single {d u : Device} {x : Cmd} (h : Alone d x u) (hr : isRangeCmd x.sqe = false) (hb : x.kind ≠ .batch) (hs : servesAll u = true)
    (hm : u.peer.moves = []) : startCmd x.id u = startHere x u := by
  simp only [startCmd, startSingle, h.cmdOf, hr, beq_eq_false_iff_ne.2 hb, routeOf_alone hs hm, Bool.false_eq_true, if_false, ite_self]

theorem TurnTaken.servesAll {q : QueueRef} {c : Capsule} {d w : Device} (h : TurnTaken q c d w) (k : KvTurn q c d) :
    servesAll w = true ∧ w.peer.moves = [] ∧ powerFailing w = false ∧ w.kv.fetches = [] := by
  obtain ⟨x, -, -, -, -, ho⟩ := k.queue
  obtain ⟨hst, htk, hmv⟩ := h.attended.peer
  refine ⟨?_, hmv.trans k.alone.2, h.attended.powerFailing.trans (ready_of_fetch k.alone.1 (fetchClosed_of_stallOf ho)).1, ?_⟩
  · have hs := k.alone.1
    unfold Machine.servesAll at hs ⊢
    rwa [hst, htk]
  · rw [h.attended.store.1]
    exact k.idle.2.2.2

end Sys2Proof.Machine
end

section
/-! SUPPORT. Exist and Retrieve answer as they start (R129, R132). -/

namespace Sys2Proof.Machine

theorem HostCmd.of_eq {q : QueueRef} {c : Capsule} {x y : Cmd} (h : HostCmd q c x) (hf : y.fwdFrom = x.fwdFrom) (hp : y.parent = x.parent)
    (ht : y.fwdTo = x.fwdTo) (hq : y.q = x.q) (hs : y.sqe = x.sqe) (hl : y.slot = x.slot) : HostCmd q c y :=
  ⟨hf.trans h.fwdFrom, hp.trans h.parent, ht.trans h.fwdTo, hq.trans h.queue, hs.trans h.sqe, hl.trans h.slot⟩

theorem onCmd_attended (id : Nat) (f : Cmd → Cmd) (d : Device) : Attended d (onCmd id f d) := nvme_attended _ d

theorem Attended.manifestOf {a b : Device} (h : Attended a b) (m : Nat) : manifestOf m b = manifestOf m a := by
  unfold Machine.manifestOf
  rw [h.store.1]

theorem Attended.cached? {a b : Device} (h : Attended a b) (dom : Nat) (fp : Bytes) (num : Nat) : cached? dom fp num b = cached? dom fp num a := by
  unfold Machine.cached?
  rw [h.store.1]

theorem newCmd_kind {kind : KvKind} {c : Capsule} (id : Nat) (q : QueueRef) (cls seq : Nat) (ord : Bool) (h : sqKind c.sqe = some kind) :
    (newCmd id q c cls seq ord).kind = kind := by
  show (sqKind c.sqe).getD .store = kind
  rw [h]
  rfl

/-- A command that reads takes no lock, and starts in the first pass. -/
theorem turn_reads {q : QueueRef} {c : Capsule} {d w : Device} {kind : KvKind} (k : KvTurn q c d) (h : TurnTaken q c d w)
    (hc : sqKind c.sqe = some kind) (hk : kind = .exist ∨ kind = .retrieve) (ho : c.sqe.opcode % 4 ≠ 1)
    (hr : isRangeCmd c.sqe = false) :
    ∃ cls seq ord, let x := newCmd d.nvme.nextCmd q c cls seq ord
      ∃ u, Alone d x u ∧ Attended d u ∧ settleOnce w = startRead x.id u := by
  obtain ⟨cls, seq, ord, ha⟩ := h.alone ho
  obtain ⟨hs, hm, hf, -⟩ := h.servesAll k
  have hkind := newCmd_kind d.nvme.nextCmd q cls seq ord hc
  have hb : kind ≠ .batch := by rcases hk with rfl | rfl <;> decide
  have hl : (newCmd d.nvme.nextCmd q c cls seq ord).locks = false := by
    rw [Cmd.locks, hkind]
    rcases hk with rfl | rfl <;> rfl
  let x := newCmd d.nvme.nextCmd q c cls seq ord
  refine ⟨cls, seq, ord, countHome [(x.ns w, capKey x.capsule)] w, ha.countHome _, h.attended.trans (countHome_attended ..), ?_⟩
  rw [settleOnce_single ha.cmds, stepCmd_first ha rfl rfl hf (by rw [hl, Bool.not_false, Bool.or_true]),
    startCmd_single ha hr (hkind ▸ hb) hs hm]
  unfold startHere
  rw [hkind]
  rcases hk with rfl | rfl <;> rfl

/-! ## The look-up -/

theorem startRead_exist {d u : Device} {x : Cmd} (h : Alone d x u) (hl : lostPage x u = false) (hm : lackingPage x u = none) (hk : x.kind = .exist) :
    startRead x.id u = if (readVersion x u).isSome then doneCmd x.id .success 0 0 [] u else failCmd x.id .keyAbsent 0 u := by
  simp only [startRead, h.cmdOf, hl, hm, hk, Bool.false_eq_true, if_false]

theorem startRead_absent {d u : Device} {x : Cmd} (h : Alone d x u) (hl : lostPage x u = false) (hm : lackingPage x u = none) (hk : x.kind = .retrieve)
    (hs : slotForRetrieve (keySlotFor (x.ns u) (policyOf (x.ns u) (capKey x.capsule) u) u) u = none) (hv : readVersion x u = none) :
    startRead x.id u = failCmd x.id .keyAbsent 0 u := by
  simp only [startRead, h.cmdOf, hl, hm, hk, hs, hv, Bool.false_eq_true, if_false]

/-- Command `c`, about to read version `v` with manifest `m`. -/
def readingOf (v : Version) (m : Manifest) (c : Cmd) : Cmd :=
  { c with manifest := v.mseq, named := some m, parts := m.chunks, got := [], attempts := 0, phase := .reading }

theorem startRead_version {d u : Device} {x : Cmd} {v : Version} {m : Manifest} (h : Alone d x u) (hl : lostPage x u = false)
    (hm : lackingPage x u = none) (hk : x.kind = .retrieve)
    (hs : slotForRetrieve (keySlotFor (x.ns u) (policyOf (x.ns u) (capKey x.capsule) u) u) u = none) (hv : readVersion x u = some v)
    (hvl : v.lost = false) (hn : manifestOf v.mseq u = some m) :
    startRead x.id u = readOn ((m.chunks.length + 1) * 1024) x.id (onCmd x.id (readingOf v m) u) := by
  simp only [startRead, h.cmdOf, hl, hm, hk, hs, hv, hvl, hn, Option.map_some, Option.getD_some, Bool.false_eq_true, if_false]
  rfl

/-! ## The chunks -/

/-- A read that has its chunks, or as many bytes as the host takes, ends. -/
theorem readOn_done {n : Nat} {d u : Device} {x : Cmd} {m : Manifest} (h : Alone d x u) (hn : x.named = some m) (hf : u.kv.fetches = [])
    (hp : x.parts = [] ∨ min x.sqe.cdw10 m.size ≤ x.got.length) :
    readOn (n + 1) x.id u = doneCmd x.id .success m.size 0 (x.got.take (min x.sqe.cdw10 m.size)) u := by
  unfold readOn
  simp only [h.cmdOf, hn, hf, List.find?_nil]
  split
  · rfl
  next hx => rw [if_pos (hp.resolve_left (by rw [hx]; exact List.cons_ne_nil _ _))]

/-- A cached chunk is taken at once (R208). -/
theorem readOn_cached {n : Nat} {d u : Device} {x : Cmd} {m : Manifest} {ch : ChunkRef} {rest : List ChunkRef} {e : CacheEntry} (h : Alone d x u)
    (hn : x.named = some m) (hf : u.kv.fetches = []) (hp : x.parts = ch :: rest) (hw : x.got.length < min x.sqe.cdw10 m.size)
    (hc : cached? m.domain ch.fp ch.copy u = some e) :
    readOn (n + 1) x.id u = readOn n x.id (onCmd x.id (takeChunk e.plain) (cacheHit e u)) := by
  rw [readOn]
  simp only [h.cmdOf, hn, hf, List.find?_nil, hp, hc, if_neg (not_le.2 hw)]

theorem Alone.cacheHit {d u : Device} {x : Cmd} (h : Alone d x u) (e : CacheEntry) : Alone d x (cacheHit e u) :=
  ⟨h.cmds, h.queues, h.ports, h.out⟩

/-- A value of one cached chunk, cut at the host's buffer. -/
theorem readOn_oneCached {n : Nat} {d u : Device} {x : Cmd} {m : Manifest} {ch : ChunkRef} {e : CacheEntry} (h : Alone d x u)
    (hn : x.named = some m) (hf : u.kv.fetches = []) (hp : x.parts = [ch]) (hg : x.got = []) (hc : cached? m.domain ch.fp ch.copy u = some e) :
    ∃ y v, (y = x ∨ y = takeChunk e.plain x) ∧ Alone d y v ∧
      readOn (n + 2) x.id u = doneCmd y.id .success m.size 0 (e.plain.take (min x.sqe.cdw10 m.size)) v := by
  by_cases hw : min x.sqe.cdw10 m.size = 0
  · refine ⟨x, u, .inl rfl, h, ?_⟩
    rw [readOn_done h hn hf (.inr (by rw [hw]; exact Nat.zero_le _)), hg, hw]
    rfl
  · have hy := (h.cacheHit e).onCmd (takeChunk e.plain)
    refine ⟨takeChunk e.plain x, _, .inr rfl, hy, ?_⟩
    rw [readOn_cached h hn hf hp (by rw [hg]; exact Nat.pos_of_ne_zero hw) hc]
    refine (readOn_done hy hn hf (.inl ?_)).trans ?_
    · show x.parts.drop 1 = []
      rw [hp]
      rfl
    · show doneCmd _ _ _ _ ((x.got ++ e.plain).take _) _ = _
      rw [hg]
      rfl

/-! ## The answers -/

theorem exist_answers {q : QueueRef} {c : Capsule} {d : Device} (hc : sqKind c.sqe = some .exist)
    (ho : c.sqe.opcode % 4 ≠ 1) (hr : isRangeCmd c.sqe = false) (k : KvTurn q c d) (hl : lostPage (fetchedCmd q c d) d = false)
    (hm : lackingPage (fetchedCmd q c d) d = none) :
    Answers q c (if (readVersion (fetchedCmd q c d) d).isSome then .success else .keyAbsent) 0 0 [] d (ioArrive q c d) := by
  refine turn_answers_once k fun w ht => ?_
  obtain ⟨cls, seq, ord, u, hu, hat, hs⟩ := turn_reads k ht hc (.inl rfl) ho hr
  refine ⟨newCmd d.nvme.nextCmd q c cls seq ord, u, newCmd_hostCmd .., hu, ?_⟩
  have hk := newCmd_kind d.nvme.nextCmd q cls seq ord hc
  have hv : readVersion (newCmd d.nvme.nextCmd q c cls seq ord) u = readVersion (fetchedCmd q c d) d := hat.readVersion _
  rw [hs, startRead_exist hu ((hat.lostPage _).trans hl) ((hat.lackingPage _).trans hm) hk, hv]
  split_ifs
  · exact doneCmd_alone hu ..
  · exact failCmd_alone hu rfl (.inl rfl) ..

/-- A Retrieve that has its turn goes to its look-up: no page lacks, and its slot serves. -/
theorem retrieve_starts {q : QueueRef} {c : Capsule} {d w : Device} (hc : sqKind c.sqe = some .retrieve)
    (ho : c.sqe.opcode % 4 ≠ 1) (hr : isRangeCmd c.sqe = false) (k : KvTurn q c d) (ht : TurnTaken q c d w) :
    let f := fetchedCmd q c d
    lostPage f d = false → lackingPage f d = none → slotForRetrieve (keySlotFor (f.ns d) (policyOf (f.ns d) (capKey f.capsule) d) d) d = none →
      ∃ x u, HostCmd q c x ∧ x.items = [] ∧ Alone d x u ∧ Attended d u ∧
        (readVersion f d = none → settleOnce w = failCmd x.id .keyAbsent 0 u) ∧
        ∀ v m, readVersion f d = some v → v.lost = false → manifestOf v.mseq d = some m →
          ∃ n, settleOnce w = readOn (n + 2) x.id (onCmd x.id (readingOf v m) u) := by
  intro f hl hm hs
  obtain ⟨cls, seq, ord, u, hu, hat, hst⟩ := turn_reads k ht hc (.inr rfl) ho hr
  have hk := newCmd_kind d.nvme.nextCmd q cls seq ord hc
  have hns : (newCmd d.nvme.nextCmd q c cls seq ord).ns u = f.ns d := hat.realNs _
  have hslot : slotForRetrieve (keySlotFor ((newCmd d.nvme.nextCmd q c cls seq ord).ns u)
      (policyOf ((newCmd d.nvme.nextCmd q c cls seq ord).ns u) (capKey (newCmd d.nvme.nextCmd q c cls seq ord).capsule) u) u) u = none := by
    rw [hns, hat.policyOf, hat.keySlotFor, hat.slotForRetrieve]
    exact hs
  have hlu := (hat.lostPage (newCmd d.nvme.nextCmd q c cls seq ord)).trans hl
  have hmu := (hat.lackingPage (newCmd d.nvme.nextCmd q c cls seq ord)).trans hm
  refine ⟨newCmd d.nvme.nextCmd q c cls seq ord, u, newCmd_hostCmd .., rfl, hu, hat, fun hv => ?_, fun v m hv hvl hn => ?_⟩
  · rw [hst, startRead_absent hu hlu hmu hk hslot ((hat.readVersion _).trans hv)]
  · obtain ⟨n, hfuel⟩ : ∃ n, (m.chunks.length + 1) * 1024 = n + 2 := ⟨m.chunks.length * 1024 + 1022, by omega⟩
    exact ⟨n, by rw [hst, startRead_version hu hlu hmu hk hslot ((hat.readVersion _).trans hv) hvl ((hat.manifestOf _).trans hn), hfuel]⟩

theorem retrieve_answers {q : QueueRef} {c : Capsule} {d : Device} (hc : sqKind c.sqe = some .retrieve)
    (ho : c.sqe.opcode % 4 ≠ 1) (hr : isRangeCmd c.sqe = false) (k : KvTurn q c d) :
    let x := fetchedCmd q c d
    lostPage x d = false → lackingPage x d = none → slotForRetrieve (keySlotFor (x.ns d) (policyOf (x.ns d) (capKey x.capsule) d) d) d = none →
      (readVersion x d = none → Answers q c .keyAbsent 0 0 [] d (ioArrive q c d)) ∧
      (∀ v m, readVersion x d = some v → v.lost = false → manifestOf v.mseq d = some m →
        (m.chunks = [] → Answers q c .success m.size 0 [] d (ioArrive q c d)) ∧
        (∀ ch e, m.chunks = [ch] → cached? m.domain ch.fp ch.copy d = some e →
          Answers q c .success m.size 0 (e.plain.take (min c.sqe.cdw10 m.size)) d (ioArrive q c d))) := by
  intro x hl hm hs
  have hf : ∀ {u}, Attended d u → u.kv.fetches = [] := fun h => by
    rw [h.store.1]
    exact k.idle.2.2.2
  refine ⟨fun hv => turn_answers_once k fun w ht => ?_,
    fun v m hv hvl hn => ⟨fun hch => turn_answers_once k fun w ht => ?_, fun ch e hch he => turn_answers_once k fun w ht => ?_⟩⟩
  · obtain ⟨y, u, hy, hi, hu, -, habs, -⟩ := retrieve_starts hc ho hr k ht hl hm hs
    exact ⟨y, u, hy, hu, (habs hv).trans (failCmd_alone hu hy.slot (.inl hi) ..)⟩
  · obtain ⟨y, u, hy, -, hu, hat, -, hread⟩ := retrieve_starts hc ho hr k ht hl hm hs
    have hy' := hu.onCmd (readingOf v m)
    refine ⟨readingOf v m y, _, hy.of_eq rfl rfl rfl rfl rfl rfl, hy', ?_⟩
    obtain ⟨n, hs⟩ := hread v m hv hvl hn
    rw [hs, ← doneCmd_alone hy']
    exact (readOn_done hy' rfl (hf (hat.trans (onCmd_attended ..))) (.inl hch)).trans (by rw [show (readingOf v m y).got = [] from rfl, List.take_nil])
  · obtain ⟨y, u, hy, -, hu, hat, -, hread⟩ := retrieve_starts hc ho hr k ht hl hm hs
    obtain ⟨n, hs⟩ := hread v m hv hvl hn
    obtain ⟨z, t, hz, hzt, hdone⟩ := readOn_oneCached (n := n) (hu.onCmd (readingOf v m)) rfl (hf (hat.trans (onCmd_attended ..))) hch rfl
      (((hat.trans (onCmd_attended ..)).cached? ..).trans he)
    have hcdw : (readingOf v m y).sqe.cdw10 = c.sqe.cdw10 := by
      show y.sqe.cdw10 = _
      rw [hy.sqe]
      rfl
    refine ⟨z, t, ?_, hzt, ?_⟩
    · rcases hz with rfl | rfl <;> exact hy.of_eq rfl rfl rfl rfl rfl rfl
    · rw [hs, ← doneCmd_alone hzt, ← hcdw]
      exact hdone

end Sys2Proof.Machine
end

section
/-! SUPPORT. A command of one lock holds it at once; List and a refused Delete then answer (R128, R130, R133, R148, R149). -/

namespace Sys2Proof.Machine

/-! ## The lock -/

theorem lockRoom_of_lock {x : Cmd} {l : Lock} {d : Device} (h : d.nvme.locks = [l]) (hc : l.cmd = x.id) : lockRoom x d = true := by
  simp [lockRoom, locksOf, h, hc]

theorem locksOf_single {l : Lock} {d : Device} (h : d.nvme.locks = [l]) : locksOf l.cmd d = [l] := by
  simp [locksOf, h]

/-- The only lock of the table is asked for and granted. -/
theorem requestLocks_single {l : Lock} {d : Device} (h : d.nvme.locks = [l]) (hs : l.st = .reserved) :
    requestLocks l.cmd d = setLocks [{ l with st := .held }] d := by
  have hw : (setLocks (d.nvme.locks.erase l ++ [{ l with st := .waiting }]) d) = setLocks [{ l with st := .waiting }] d := by
    rw [h, List.erase_cons_head, List.nil_append]
  have hg : grantable { l with st := .waiting } [{ l with st := .waiting }] = true := by simp [grantable]
  have h1 : pumpLocks 3 l.cmd d = pumpLocks 2 l.cmd (setLocks [{ l with st := .waiting }] d) := by
    rw [pumpLocks, locksOf_single h]
    simp [hs, hw]
  have h2 : pumpLocks 2 l.cmd (setLocks [{ l with st := .waiting }] d) = pumpLocks 1 l.cmd (setLocks [{ l with st := .held }] d) := by
    rw [pumpLocks, locksOf_single (l := { l with st := .waiting }) rfl]
    simp [hg, setLocks]
  have h3 : pumpLocks 1 l.cmd (setLocks [{ l with st := .held }] d) = setLocks [{ l with st := .held }] d := by
    rw [pumpLocks, locksOf_single (l := { l with st := .held }) rfl]
    simp
  rw [requestLocks, locksOf_single h]
  exact h1.trans (h2.trans h3)

/-- The device with command `x` waiting for its one lock, which it holds. -/
def lockTaken (x : Cmd) (l : Lock) (d : Device) : Device := setLocks [{ l with st := .held }] (setPhase x.id .waitLocks d)

theorem askLocks_single {d u : Device} {x : Cmd} {l : Lock} (h : Alone d x u) (hl : u.nvme.locks = [l]) (hc : l.cmd = x.id) (hs : l.st = .reserved) :
    askLocks x.id u = lockTaken x l u := by
  have hp : Alone d { x with phase := .waitLocks } (setPhase x.id .waitLocks u) := h.onCmd fun c => { c with phase := .waitLocks }
  have hlo : locksOf x.id (setPhase x.id .waitLocks u) = [l] := hc ▸ locksOf_single hl
  have he : ensureLocks x.id (setPhase x.id .waitLocks u) = setPhase x.id .waitLocks u := by
    have hcmd : cmdOf x.id (setPhase x.id .waitLocks u) = some { x with phase := .waitLocks } := hp.cmdOf
    simp [ensureLocks, hcmd, hlo]
  rw [askLocks, he, lockTaken, ← hc]
  exact requestLocks_single (d := setPhase l.cmd .waitLocks u) hl hs

theorem lockTaken_alone {d u : Device} {x : Cmd} (h : Alone d x u) (l : Lock) : Alone d { x with phase := .waitLocks } (lockTaken x l u) :=
  (h.onCmd fun c => { c with phase := .waitLocks }).setLocks _

theorem lockTaken_attended (x : Cmd) (l : Lock) (d : Device) : Attended d (lockTaken x l d) := nvme_attended _ d

/-- The next pass finds the lock held. -/
theorem settleOnce_lockTaken {d u : Device} {x : Cmd} {l : Lock} (h : Alone d x u) (hc : l.cmd = x.id) (hf : powerFailing u = false) :
    settleOnce (lockTaken x l u) = granted x.id (lockTaken x l u) := by
  have ha := lockTaken_alone h l
  have hp : powerFailing (lockTaken x l u) = false := hf
  have hcmd : cmdOf x.id (lockTaken x l u) = some { x with phase := .waitLocks } := ha.cmdOf
  have hh : allHeld x.id (lockTaken x l u) = true := by simp [allHeld, locksOf, lockTaken, setLocks, hc]
  rw [settleOnce_single ha.cmds, stepCmd]
  simp only [hcmd, hp, hh, Bool.false_and, Bool.false_eq_true, if_false, if_true]

/-- A command whose start asks for one free lock is granted in the second pass. -/
theorem settleOnce_granted {d u w : Device} {x : Cmd} {l : Lock} (hw : settleOnce w = askLocks x.id u) (h : Alone d x u) (hl : u.nvme.locks = [l])
    (hc : l.cmd = x.id) (hs : l.st = .reserved) (hf : powerFailing u = false) :
    settleOnce (settleOnce w) = granted x.id (lockTaken x l u) := by
  rw [hw, askLocks_single h hl hc hs, settleOnce_lockTaken h hc hf]

/-! ## List -/

/-- Merging no keys of the other peer leaves the own ones. -/
theorem mergeKeys_nil (l : List Bytes) : mergeKeys l [] = l := rfl

theorem granted_list {d u : Device} {x : Cmd} (h : Alone d x u) (hk : sqKind x.sqe = some .list) (hg : x.gathered = true) (hf : x.fwdFrom = none)
    (hr : x.remoteKeys = []) (hm : x.more = false) :
    let b := listBuffer x.sqe (listable x.sqe (keysFrom x.sqe.nsid (capKey x.capsule) (isAfter x.sqe) u))
    granted x.id u = doneCmd x.id .success b.2.1 (b2n b.2.2) b.1 u := by
  have hrange : isRangeCmd x.sqe = true := by simp [isRangeCmd, hk]
  have hkind : x.kind = .list := by simp [Cmd.kind, hk]
  simp [granted, doList, h.cmdOf, hrange, hg, hkind, hf, hr, hm, mergeKeys_nil]

theorem startCmd_list {d u : Device} {x : Cmd} (h : Alone d x u) (hk : sqKind x.sqe = some .list) (hs : servesAll u = true) :
    startCmd x.id u = askLocks x.id (onCmd x.id (fun c => { c with gathered := true }) u) := by
  have hrange : isRangeCmd x.sqe = true := by simp [isRangeCmd, hk]
  simp [startCmd, startRange, h.cmdOf, hrange, hs]

theorem list_answers {q : QueueRef} {c : Capsule} {d : Device} (hk : sqKind c.sqe = some .list) (ho : c.sqe.opcode % 4 ≠ 1) (k : KvTurn q c d) :
    let x := fetchedCmd q c d
    let b := listBuffer x.sqe (listable x.sqe (keysFrom x.sqe.nsid (capKey x.capsule) (isAfter x.sqe) d))
    Answers q c .success b.2.1 (b2n b.2.2) b.1 d (ioArrive q c d) := by
  refine turn_answers k fun w ht => ?_
  obtain ⟨cls, seq, ord, ha⟩ := ht.alone ho
  obtain ⟨hs, -, hf, -⟩ := ht.servesAll k
  have hl : w.nvme.locks = [rangeLock d.nvme.nextCmd (realNs c.sqe.nsid d) .sharedRange (capKey c) none] := by
    rw [ht.locks, locksAt, hk, beq_self_eq_true, if_pos rfl]
  let x := newCmd d.nvme.nextCmd q c cls seq ord
  let y : Cmd := { x with gathered := true }
  have hy : Alone d y (onCmd x.id (fun c => { c with gathered := true }) w) := ha.onCmd fun c => { c with gathered := true }
  have hz := lockTaken_alone hy (rangeLock d.nvme.nextCmd (realNs c.sqe.nsid d) .sharedRange (capKey c) none)
  have hat := (ht.attended.trans (onCmd_attended x.id (fun c => { c with gathered := true }) w)).trans
    (lockTaken_attended y (rangeLock d.nvme.nextCmd (realNs c.sqe.nsid d) .sharedRange (capKey c) none) _)
  refine ⟨{ y with phase := .waitLocks }, _, (newCmd_hostCmd d.nvme.nextCmd q c cls seq ord).of_eq rfl rfl rfl rfl rfl rfl, hz, ?_⟩
  have hfirst : settleOnce w = askLocks y.id (onCmd x.id (fun c => { c with gathered := true }) w) := by
    rw [settleOnce_single ha.cmds, stepCmd_first ha rfl rfl hf (by rw [lockRoom_of_lock hl rfl]; rfl)]
    exact startCmd_list ha hk hs
  rw [settleOnce_granted hfirst hy hl rfl rfl hf, ← doneCmd_alone hz, ← hat.keysFrom]
  exact (granted_list hz hk rfl rfl rfl rfl :)

/-! ## A refused Delete -/

/-- Delete `x`, its locks granted on the device of side `side`. -/
def deleteItem (side : Nat) (x : Cmd) : Cmd := { x with items := [newItem 0 (capKey x.capsule) [] 0 side true] }

/-- Delete `x` refused with `st`. -/
def deleteEnded (st : Status) (x : Cmd) : Cmd := { x with failure := some (st.sct, st.sc, 0), phase := .forwarded }

theorem firstRefused_delete {side : Nat} {x : Cmd} {st : Status} {d : Device} (h : deleteRefused (x.ns d) (capKey x.capsule) d = some st) :
    firstRefused (deleteItem side x) d = some (st.sct, st.sc, 0) := by
  have hs : (deleteRefused ((deleteItem side x).ns d) (newItem 0 (capKey x.capsule) [] 0 side true).key d).map
      (fun st => (st.sct, st.sc, (newItem 0 (capKey x.capsule) [] 0 side true).entry)) = some (st.sct, st.sc, 0) :=
    congrArg (Option.map _) h
  simp only [firstRefused, deleteItem, List.findSome?_cons, newItem, if_true] at hs ⊢
  simp only [hs]

theorem endFailed_alone {d u : Device} {x : Cmd} {f : Nat × Nat × Nat} (h : Alone d x u) (hk : x.kind ≠ .batch) (hf : x.failure = some f)
    (hkids : x.kids = []) : endFailed x.id u = failCmd x.id (failureStatus f) 0 u := by
  simp only [endFailed, h.cmdOf, hf, hkids, beq_eq_false_iff_ne.2 hk, List.isEmpty_nil, Bool.not_true, Bool.false_eq_true, if_false]

/-- A delete that its conditions refuse ends with their status. -/
theorem granted_refused {d u : Device} {x : Cmd} {st : Status} (h : Alone d x u) (hk : sqKind x.sqe = some .delete) (hr : isRange x.sqe = false)
    (hf : x.fwdFrom = none) (hx : x.failure = none) (hkids : x.kids = []) (hro : u.stripe.readOnly = false)
    (hst : deleteRefused (x.ns u) (capKey x.capsule) u = some st) :
    ∃ v, Alone d (deleteEnded st (deleteItem u.side x)) v ∧ granted x.id u = failCmd x.id (failureStatus (st.sct, st.sc, 0)) 0 v := by
  have hkind : x.kind = .delete := by simp [Cmd.kind, hk]
  have hkind1 : (deleteItem u.side x).kind = .delete := hkind
  have hrange : isRangeCmd x.sqe = false := by simp [isRangeCmd, hk, hr]
  have hdata : x.dataHere = true := by simp [Cmd.dataHere, valueSize, hk]
  have hshare : isShare x = false := by simp [isShare, hf]
  have hitems : itemsOf x u = [newItem 0 (capKey x.capsule) [] 0 u.side true] := by simp [itemsOf, hkind, hr]
  obtain ⟨u1, hu1⟩ : ∃ u1, u1 = onCmd x.id (fun c => { c with items := itemsOf c u }) u := ⟨_, rfl⟩
  have h1 : Alone d (deleteItem u.side x) u1 := by
    have hon := h.onCmd fun c => { c with items := itemsOf c u }
    rw [hitems] at hon
    exact hu1 ▸ hon
  have hc1 : cmdOf x.id u1 = some (deleteItem u.side x) := h1.cmdOf
  have hx1 : (deleteItem u.side x).failure = none := hx
  have hfirst : firstRefused (deleteItem u.side x) u1 = some (st.sct, st.sc, 0) :=
    firstRefused_delete (by rw [hu1, (onCmd_attended ..).deleteRefused]; exact hst)
  obtain ⟨u3, hu3⟩ : ∃ u3, u3 = setPhase x.id .forwarded (onCmd x.id (fun c => { c with failure := lowerFailure c.failure (some (st.sct, st.sc, 0)) }) u1) :=
    ⟨_, rfl⟩
  have h3 : Alone d (deleteEnded st (deleteItem u.side x)) u3 := by
    have h2 := (h1.onCmd fun c => { c with failure := lowerFailure c.failure (some (st.sct, st.sc, 0)) }).onCmd fun c => { c with phase := .forwarded }
    dsimp only at h2
    rw [hx1] at h2
    exact hu3 ▸ h2
  refine ⟨u3, h3, ?_⟩
  have hg : granted x.id u = endFailed x.id u3 := by
    unfold granted
    simp only [h.cmdOf, hrange, hdata, hro, hshare, ← hu1, hc1, hkind1, hfirst, hx1, Bool.false_eq_true, if_false, Bool.not_true,
      Bool.false_and, hu3]
    rfl
  have hend : (deleteEnded st (deleteItem u.side x)).kind = .delete := hkind
  rw [hg]
  exact endFailed_alone (x := deleteEnded st (deleteItem u.side x)) h3 (by rw [hend]; decide) rfl hkids

/-- The lock of a delete of one key, of which this device is the home. -/
theorem locksAt_delete {cmd : Nat} {c : Capsule} {d : Device} (hk : sqKind c.sqe = some .delete) (hr : isRange c.sqe = false) (hs : servesAll d = true) :
    locksAt d.side cmd c d = [keyLock cmd (realNs c.sqe.nsid d) (capKey c) d] := by
  have hh : keyHome (realNs c.sqe.nsid d) (capKey c) d = d.side := if_pos hs
  simp [locksAt, cmdKeys, hk, hr, hh, sortKeys, insertByKey]

theorem startHere_delete {x : Cmd} {d : Device} (hk : x.kind = .delete) :
    startHere x d = askLocks x.id (countHome [(x.ns d, capKey x.capsule)] d) := by
  unfold startHere
  rw [hk]

theorem refused_answers {q : QueueRef} {c : Capsule} {d : Device} {st : Status} (hk : sqKind c.sqe = some .delete) (hr : isRange c.sqe = false)
    (ho : c.sqe.opcode % 4 ≠ 1) (k : KvTurn q c d) (hro : d.stripe.readOnly = false)
    (hst : deleteRefused ((fetchedCmd q c d).ns d) (capKey (fetchedCmd q c d).capsule) d = some st) :
    Answers q c (failureStatus (st.sct, st.sc, 0)) 0 0 [] d (ioArrive q c d) := by
  refine turn_answers k fun w ht => ?_
  obtain ⟨cls, seq, ord, ha⟩ := ht.alone ho
  obtain ⟨hs, hm, hf, -⟩ := ht.servesAll k
  let x := newCmd d.nvme.nextCmd q c cls seq ord
  let l := keyLock d.nvme.nextCmd (realNs c.sqe.nsid d) (capKey c) d
  let u := countHome [(x.ns w, capKey x.capsule)] w
  have hkind : x.kind = .delete := newCmd_kind _ _ _ _ _ hk
  have hrange : isRangeCmd x.sqe = false := by
    show (sqKind c.sqe == some .list || isRange c.sqe) = false
    rw [hk, hr]
    rfl
  have hl : w.nvme.locks = [l] := ht.locks.trans (locksAt_delete hk hr k.alone.1)
  have hu : Alone d x u := ha.countHome _
  have hlu : u.nvme.locks = [l] := by rw [countHome_nvme, hl]
  have hwu := countHome_attended [(x.ns w, capKey x.capsule)] w
  have hat := (ht.attended.trans hwu).trans (lockTaken_attended x l u)
  have hfirst : settleOnce w = askLocks x.id u := by
    rw [settleOnce_single ha.cmds, stepCmd_first ha rfl rfl hf (by rw [lockRoom_of_lock hl rfl]; rfl),
      startCmd_single ha hrange (by rw [hkind]; decide) hs hm, startHere_delete hkind]
  have hz := lockTaken_alone hu l
  obtain ⟨v, hv, hg⟩ := granted_refused hz hk hr rfl rfl rfl (by rw [hat.store.2.2.2.1, hro]) (st := st) (by
    rw [hat.deleteRefused, show ({ x with phase := .waitLocks } : Cmd).ns (lockTaken x l u) = (fetchedCmd q c d).ns d from hat.realNs _]
    exact hst)
  refine ⟨deleteEnded st (deleteItem (lockTaken x l u).side { x with phase := .waitLocks }), v, (newCmd_hostCmd d.nvme.nextCmd q c cls seq ord).of_eq rfl rfl rfl rfl rfl rfl, hv, ?_⟩
  rw [settleOnce_granted hfirst hu hlu rfl rfl (hwu.powerFailing.trans hf), ← failCmd_alone hv rfl (.inr ⟨_, _, rfl⟩)]
  exact hg

end Sys2Proof.Machine
end

section
/-! SUPPORT. The Key Value rows arrive alike; O34 is settled from the facts about arrival, fetch, answers and locks. -/

namespace Sys2Proof.Machine

/-- The rows of the Key Value commands, with the capsule that each brings (R122, R126; log 11). -/
def kvRows (q : QueueRef) (c : Capsule) : List (Instr × Capsule) :=
  [(.store q c, withOp 0x01 c), (.retrieve q c, withOp 0x02 c), (.list q c, withOp 0x06 c), (.delete q c, withBits [] [1] (withOp 0x10 c)),
    (.secureDelete q c, withBits [1] [] (withOp (if c.sqe.opcode == 0x90 then 0x90 else 0x10) c)), (.exist q c, withOp 0x14 c),
    (.longKeyStore q c, withOp 0x81 c), (.longKeyRetrieve q c, withOp 0x82 c), (.batchStore q c, withOp 0x85 c),
    (.longKeyList q c, withOp 0x86 c), (.longKeyDelete q c, withBits [] [0, 1] (withOp 0x90 c)),
    (.longKeyDeleteRange q c, withBits [0] [] (withOp 0x90 c)), (.longKeyExist q c, withOp 0x94 c)]

theorem exec_kvRow {q : QueueRef} {c : Capsule} {s : State} : ∀ p ∈ kvRows q c, exec p.1 s = next s (ioArrive q p.2) := by
  simp only [kvRows, List.forall_mem_cons, List.not_mem_nil, false_imp_iff, implies_true, and_true]
  exact ⟨rfl, rfl, rfl, rfl, rfl, rfl, rfl, rfl, rfl, rfl, rfl, rfl, rfl⟩

/-- The rows of the commands that change the store. -/
def changingRows (q : QueueRef) (c : Capsule) : List (Instr × Capsule) :=
  [(.store q c, withOp 0x01 c), (.delete q c, withBits [] [1] (withOp 0x10 c)),
    (.secureDelete q c, withBits [1] [] (withOp (if c.sqe.opcode == 0x90 then 0x90 else 0x10) c)), (.longKeyStore q c, withOp 0x81 c),
    (.batchStore q c, withOp 0x85 c), (.longKeyDelete q c, withBits [] [0, 1] (withOp 0x90 c)),
    (.longKeyDeleteRange q c, withBits [0] [] (withOp 0x90 c))]

theorem changingRows_subset (q : QueueRef) (c : Capsule) : changingRows q c ⊆ kvRows q c := by simp [changingRows, kvRows]

/-- A capsule that finds room stands at the end of its queue, and the arbiter goes on. -/
theorem leads_arrival {i : Instr} {q : QueueRef} {c : Capsule} {s : State} {x : SubQueue} (hx : exec i s = next s (ioArrive q c))
    (hq : queueOf q s.dev = some x) (hl : x.slots.length < x.size) (hn : q.qid ≠ 0) :
    Leads (fun v => commandFetch (ioActivity v)) i s fun v => queueOf q v = some { x with slots := x.slots ++ [c] } :=
  leads_of_eq hx (ioArrive_room hq hl hn) (queueOf_onQueue hq fun _ => rfl)

/-- A command that has its turn is the next one, with its locks reserved. -/
theorem leads_turn {i : Instr} {q : QueueRef} {c : Capsule} {s : State} (hx : exec i s = next s (ioArrive q c)) (k : KvTurn q c s.dev) :
    Leads (fun v => noteStall q (settle v)) i s fun v => v.nvme.nextCmd = s.dev.nvme.nextCmd + 1 ∧
      v.nvme.locks = locksAt s.dev.side s.dev.nvme.nextCmd c s.dev ∧
      ∃ x, v.nvme.cmds = [x] ∧ x.id = s.dev.nvme.nextCmd ∧ x.q = q ∧ x.sqe = (plainCapsule c).sqe ∧ x.data = (plainCapsule c).data ∧
        x.phase = .waitOrder ∧ x.fwdTo = none := by
  obtain ⟨w, hw, ht⟩ := ioArrive_turn k
  obtain ⟨cls, seq, ord, hc⟩ := ht.cmd
  exact leads_of_eq hx hw ⟨ht.next, ht.locks, _, hc, rfl, rfl, rfl, rfl, rfl, rfl⟩

/-- A Retrieve that has its turn answers from its look-up. -/
theorem gives_retrieve {i : Instr} {q : QueueRef} {c : Capsule} {s : State} (hx : exec i s = next s (ioArrive q c))
    (hc : sqKind c.sqe = some .retrieve) (ho : c.sqe.opcode % 4 ≠ 1) (hr : isRangeCmd c.sqe = false) (k : KvTurn q c s.dev) :
    let d := s.dev
    let x := fetchedCmd q c d
    lostPage x d = false → lackingPage x d = none → slotForRetrieve (keySlotFor (x.ns d) (policyOf (x.ns d) (capKey x.capsule) d) d) d = none →
      (readVersion x d = none → Gives i s fun t => Answers q c .keyAbsent 0 0 [] d t) ∧
      (∀ v m, readVersion x d = some v → v.lost = false → manifestOf v.mseq d = some m →
        (m.chunks = [] → Gives i s fun t => Answers q c .success m.size 0 [] d t) ∧
        (∀ ch e, m.chunks = [ch] → cached? m.domain ch.fp ch.copy d = some e →
          Gives i s fun t => Answers q c .success m.size 0 (e.plain.take (min c.sqe.cdw10 m.size)) d t)) := by
  intro d x hl hm hs
  obtain ⟨habsent, hfound⟩ := retrieve_answers hc ho hr k hl hm hs
  refine ⟨fun hv => gives_of_eq hx (habsent hv), fun v m hv hvl hn => ?_⟩
  obtain ⟨hempty, hone⟩ := hfound v m hv hvl hn
  exact ⟨fun hch => gives_of_eq hx (hempty hch), fun ch e hch he => gives_of_eq hx (hone ch e hch he)⟩

/-- The oldest waiting lock that nothing bars is granted (R149). -/
theorem leads_lockGrant {s : State} {l : Lock} (h : s.dev.nvme.locks.find? (fun l => l.st == .waiting && grantable l s.dev.nvme.locks) = some l) :
    Leads (fun v => settle (requestLocks l.cmd v)) .lockGrant s fun v =>
      v.nvme.locks = s.dev.nvme.locks.map fun x => if x = l then { l with st := .held } else x := by
  refine leads_of_eq (g := lockGrant) (u := setLocks (s.dev.nvme.locks.map fun x => if x = l then { l with st := .held } else x) s.dev) rfl ?_ rfl
  simp only [lockGrant, h, beq_iff_eq]

/-- A queue that begins to wait for locks counts once (R153). -/
theorem leads_lockStall {s : State} {q : QueueRef} {x : SubQueue} {c : Capsule} {rest : List Capsule} (hx : queueOf q s.dev = some x)
    (hs : x.slots = c :: rest) (ho : stallOf x c s.dev = some .locks) (hn : x.lockStalled = false) :
    Leads commandFetch (.lockReservation q) s fun v =>
      odVal 0x2400 3 v = min (odVal 0x2400 3 s.dev + 1) (odMax 0x2400 3) ∧ queueOf q v = some { x with lockStalled := true } :=
  leads_of_eq (g := fun d => commandFetch (noteStall q d)) rfl (congrArg commandFetch (noteStall_locks hx hs ho hn))
    ⟨odVal_odPut .., queueOf_onQueue (d := s.dev) hx fun _ => rfl⟩

/-- The locks of a head at the other peer are asked for (R150). -/
theorem leads_lockReserve {s : State} {q : QueueRef} {x : SubQueue} {c : Capsule} {rest : List Capsule} (hx : queueOf q s.dev = some x)
    (hs : x.slots = c :: rest) (ho : stallOf x c s.dev = some .remote) (hr : reservation q s.dev = none) (hp : linkPhysical s.dev = true) :
    Leads commandFetch (.lockReservation q) s fun v =>
      let f := s.dev.side * 2 ^ 63 + s.dev.nvme.nextFwd
      LinkSent s.dev v (.lockReserve f ((remoteLocksOf c s.dev).map lockIdent)) ∧ reservation q v = some (f, false) := by
  refine leads_of_eq (g := fun d => commandFetch (noteStall q d)) rfl (congrArg commandFetch (noteStall_remote hx hs ho hr))
    ⟨sendLink_linkSent hp List.prefix_rfl, ?_⟩
  unfold reservation
  rw [sendLink_nvme]
  exact reservation_asked hr

/-- The row of a Long-Key Delete clears RANGE. -/
theorem isRange_longDelete (c : Capsule) : isRange (withBits [] [0, 1] (withOp 0x90 c)).sqe = false := by
  have h0 : bit (setBit (setBit c.sqe.cdw13 0 false) 1 false) 0 = false := by
    rw [bit_setBit_other _ _ _ _ (by decide), bit_setBit_same]
  exact h0

/-- Settles O34: the rows only differ in the capsule that arrives; a capsule that has its turn is fetched by `ioArrive_turn`, and goes on alone,
so that at most two passes lead to its answer. -/
theorem keyValueCommands : Obligations.KeyValueCommands := by
  unfold Obligations.KeyValueCommands
  intro s q c
  refine ⟨fun x hq hl hn p hp => leads_arrival (exec_kvRow p hp) hq hl hn,
    fun p hp => leads_turn (exec_kvRow p (changingRows_subset q c hp)), ?exist, ?retrieve, ?list, ?delete, ?fetch, fun l h => leads_lockGrant h,
    fun x c rest hx hs => ⟨leads_lockStall hx hs, leads_lockReserve hx hs⟩⟩
  case exist =>
    refine List.forall_mem_cons.2 ⟨?_, List.forall_mem_singleton.2 ?_⟩
    · exact fun k hl hm => gives_of_eq (f := ioArrive q (withOp 0x14 c)) rfl (exist_answers rfl (show 0x14 % 4 ≠ 1 by decide) rfl k hl hm)
    · exact fun k hl hm => gives_of_eq (f := ioArrive q (withOp 0x94 c)) rfl (exist_answers rfl (show 0x94 % 4 ≠ 1 by decide) rfl k hl hm)
  case retrieve =>
    exact List.forall_mem_cons.2 ⟨gives_retrieve (c := withOp 0x02 c) rfl rfl (show 0x02 % 4 ≠ 1 by decide) rfl,
      List.forall_mem_singleton.2 (gives_retrieve (c := withOp 0x82 c) rfl rfl (show 0x82 % 4 ≠ 1 by decide) rfl)⟩
  case list =>
    refine List.forall_mem_cons.2 ⟨?_, List.forall_mem_singleton.2 ?_⟩
    · exact fun k => gives_of_eq (f := ioArrive q (withOp 0x06 c)) rfl (list_answers rfl (show 0x06 % 4 ≠ 1 by decide) k)
    · exact fun k => gives_of_eq (f := ioArrive q (withOp 0x86 c)) rfl (list_answers rfl (show 0x86 % 4 ≠ 1 by decide) k)
  case delete =>
    refine List.forall_mem_cons.2 ⟨?_, List.forall_mem_singleton.2 ?_⟩
    · exact fun k hro st hst => gives_of_eq (f := ioArrive q (withBits [] [1] (withOp 0x10 c))) rfl
        (refused_answers rfl rfl (show 0x10 % 4 ≠ 1 by decide) k hro hst)
    · exact fun k hro st hst => gives_of_eq (f := ioArrive q (withBits [] [0, 1] (withOp 0x90 c))) rfl
        (refused_answers rfl (isRange_longDelete c) (show 0x90 % 4 ≠ 1 by decide) k hro hst)
  case fetch =>
    rintro x cap rest hq rfl hs ho ha hb
    refine leads_of_eq (g := commandFetch) rfl (commandFetch_stays hq hs ho ha hb) ?_
    rw [burstSpent_nvme]
    exact ⟨rfl, hq⟩

end Sys2Proof.Machine
end

section
/-! SUPPORT. Slots of long operations, and what stays while the device works on: what was sent, what waits, and whose the slots are (R106, R176,
R177). -/

namespace Sys2Proof.Machine

/-! ## Slots -/

@[simp] theorem onSlot_slots_length (n : Nat) (f : LongSlot → LongSlot) (d : Device) : (onSlot n f d).admin.slots.length = d.admin.slots.length :=
  List.length_modify ..

theorem longSlot_onSlot (n k : Nat) (f : LongSlot → LongSlot) (d : Device) :
    longSlot k (onSlot n f d) = if k = n ∧ k < d.admin.slots.length then f (longSlot k d) else longSlot k d := by
  simp only [longSlot, onSlot, modNth, List.getD_eq_getElem?_getD, List.getElem?_modify]
  rcases eq_or_ne n k with rfl | hk
  · by_cases hl : n < d.admin.slots.length <;> simp [hl]
  · simp [hk, hk.symm]

theorem longSlot_onSlot_self {n : Nat} {d : Device} (h : n < d.admin.slots.length) (f : LongSlot → LongSlot) :
    longSlot n (onSlot n f d) = f (longSlot n d) := by
  rw [longSlot_onSlot, if_pos ⟨rfl, h⟩]

theorem longSlot_congr {a b : Device} (h : b.admin.slots = a.admin.slots) (n : Nat) : longSlot n b = longSlot n a := by
  rw [longSlot, longSlot, h]

/-- A slot that is not idle is one of the device's slots. -/
theorem slot_lt_of_state {n : Nat} {d : Device} (h : (longSlot n d).state ≠ 0) : n < d.admin.slots.length := by
  by_contra hn
  exact h (by rw [longSlot, List.getD_eq_default _ _ (not_lt.1 hn)]; rfl)

/-- Operation, generation and starter of a slot are the same. -/
structure SameWork (x y : LongSlot) : Prop where
  op : y.op = x.op
  gen : y.gen = x.gen
  starter : y.starter = x.starter

theorem SameWork.refl (x : LongSlot) : SameWork x x := ⟨rfl, rfl, rfl⟩

theorem SameWork.trans {x y z : LongSlot} (h : SameWork x y) (k : SameWork y z) : SameWork x z :=
  ⟨k.op.trans h.op, k.gen.trans h.gen, k.starter.trans h.starter⟩

/-! ## The device works on -/

/-- From `a` to `b` what was sent stays sent, what waits behind a PAUSE goes on waiting, and every host is reached as before. -/
structure Proceeds (a b : Device) : Prop where
  out : a.out <+: b.out
  paused : ∀ p, pausedNow p b = pausedNow p a
  waits : ∀ p, pausedNow p a = true → (portOf p a).txWait <+: (portOf p b).txWait
  reach : ∀ q, reachable q b = reachable q a

/-- The same, and every slot keeps its operation, its generation and its starter. -/
structure Onward (a b : Device) : Prop extends Proceeds a b where
  slots : b.admin.slots.length = a.admin.slots.length
  work : ∀ n, SameWork (longSlot n a) (longSlot n b)

theorem Proceeds.trans {a b c : Device} (h : Proceeds a b) (k : Proceeds b c) : Proceeds a c :=
  ⟨h.out.trans k.out, fun p => (k.paused p).trans (h.paused p), fun p hp => (h.waits p hp).trans (k.waits p ((h.paused p).trans hp)),
    fun q => (k.reach q).trans (h.reach q)⟩

theorem Proceeds.onward {a b : Device} (h : Proceeds a b) (hs : b.admin.slots = a.admin.slots) : Onward a b :=
  ⟨h, by rw [hs], fun n => by rw [longSlot_congr hs]; exact .refl _⟩

theorem Onward.trans {a b c : Device} (h : Onward a b) (k : Onward b c) : Onward a c :=
  ⟨h.toProceeds.trans k.toProceeds, k.slots.trans h.slots, fun n => (h.work n).trans (k.work n)⟩

/-- What touches no port, no clock, no slot and none of the entries that stop a port. -/
theorem Onward.of_eq {a b : Device} (hp : b.ports = a.ports) (ht : b.time = a.time) (hs : b.admin.slots = a.admin.slots) (ho : a.out <+: b.out)
    (hc : ∀ p n, n = 9 ∨ n = 0x0B → portOd p n b = portOd p n a) : Onward a b :=
  Proceeds.onward ⟨ho, fun p => (AlikeOn.of_eq hp ht (hc p)).paused, fun p _ => by rw [portOf, portOf, hp], fun q => by rw [reachable, reachable, hp]⟩ hs

theorem Onward.refl (a : Device) : Onward a a := .of_eq rfl rfl rfl List.prefix_rfl fun _ _ _ => rfl

theorem Onward.foldl {α : Type} {f : Device → α → Device} (hf : ∀ d x, Onward d (f d x)) (l : List α) (d : Device) : Onward d (l.foldl f d) := by
  induction l generalizing d with
  | nil => exact .refl d
  | cons x l ih => exact (hf d x).trans (ih _)

/-- What only sends and counts, while nothing that waits is lost. -/
theorem Spoke.onward {a b : Device} (h : Spoke a b)
    (hw : ∀ p, Machine.pausedNow p a = true → (Machine.portOf p a).txWait <+: (Machine.portOf p b).txWait) : Onward a b := by
  refine Proceeds.onward ⟨h.out, h.pausedNow, hw, fun q => ?_⟩ ?_
  · have hl := h.link q.port
    simp only [Machine.portOf] at hl
    rw [reachable, reachable, hl]
    obtain ⟨_, _, _, _, _, _, rfl, -⟩ := h
    rfl
  · obtain ⟨_, _, _, _, _, _, rfl, -⟩ := h
    rfl

/-! ## What ports send -/

theorem sendNow_txWait (p q : Nat) (o : Output) (d : Device) : (portOf q (sendNow p o d)).txWait = (portOf q d).txWait := by
  rw [sendNow, macBump_waits, macBump_waits]
  rfl

theorem flushPort_txWait_other {p q : Nat} (h : q ≠ p) (d : Device) : (portOf q (flushPort d p)).txWait = (portOf q d).txWait := by
  have key : ∀ u : Device, (portOf q ((portOf p d).txWait.foldl (fun d o => sendNow p o d) u)).txWait = (portOf q u).txWait :=
    foldl_eq_of_step (fun d => (portOf q d).txWait) (fun d o => sendNow_txWait p q o d) _
  unfold flushPort
  split_ifs
  · rfl
  · rw [key, portOf_onPort, if_neg fun h' => h h'.1]

/-- Frames that wait on a port stay there, whichever port sends. -/
theorem sendOn_onward (p : Nat) (o : Output) (d : Device) : Onward d (sendOn p o d) := by
  refine (sendOn_spoke p o d).onward fun q hq => ?_
  have hflush : (portOf q (flushPort d p)).txWait = (portOf q d).txWait := by
    rcases eq_or_ne q p with rfl | hn
    · rw [flushPort, hq, Bool.or_true, if_pos rfl]
    · exact flushPort_txWait_other hn d
  unfold sendOn
  split
  · rw [sendNow_txWait]
  · rw [sendNow_txWait]
  · dsimp only
    split_ifs
    · rw [portOf_onPort]
      split_ifs
      · exact hflush ▸ List.prefix_append _ _
      · rw [hflush]
    · rw [sendNow_txWait, hflush]

theorem sendCompletion_onward (q : QueueRef) (t : CmdTag) (st : Status) (dw0 dw1 : Nat) (data : Bytes) (d : Device) :
    Onward d (sendCompletion q t st dw0 dw1 data d) := by
  unfold sendCompletion
  dsimp only
  split_ifs
  · exact (sendOn_onward ..).trans (sendOn_onward ..)
  · exact sendOn_onward ..

theorem complete_onward (q : QueueRef) (t : CmdTag) (st : Status) (dw0 dw1 : Nat) (data : Bytes) (d : Device) :
    Onward d (complete q t st dw0 dw1 data d) := by
  have hs : Onward d (if reachable q d then sendCompletion q t st dw0 dw1 data d else d) := by
    split_ifs
    · exact sendCompletion_onward ..
    · exact .refl d
  unfold complete
  dsimp only
  generalize (if reachable q d then sendCompletion q t st dw0 dw1 data d else d) = u at hs ⊢
  split_ifs
  · exact hs
  · exact hs.trans (.of_eq rfl rfl rfl List.prefix_rfl fun _ _ _ => rfl)

theorem toRemote_onward (n : Nat) (m : RemoteMsg) (d : Device) : Onward d (toRemote n m d) := by
  unfold toRemote
  dsimp only
  split_ifs
  · exact sendOn_onward ..
  · exact .refl d

/-! ## Events, counters and the link -/

theorem odBump_onward {idx sub : Nat} (n : Nat) (d : Device) (h : sub ≠ 9 ∧ sub ≠ 0x0B ∧ sub < 256) : Onward d (odBump idx sub n d) :=
  .of_eq rfl rfl rfl List.prefix_rfl fun p n hn => odVal_odPut_other _ d (by unfold odKey; omega)

theorem logEvent_onward (code unit severity detail : Nat) (d : Device) : Onward d (logEvent code unit severity detail d) :=
  (logEvent_spoke code unit severity detail d).onward fun _ _ => List.prefix_rfl

theorem transmit_onward (cls : Nat) (m : LinkMsg) (d : Device) : Onward d (transmit cls m d) := by
  unfold transmit
  refine Onward.trans ?_ (odBump_onward (idx := 0x2D00) (sub := 8) _ _ (by decide))
  exact .of_eq rfl rfl rfl (List.prefix_append _ _) fun _ _ _ => rfl

theorem sendLink_onward (m : LinkMsg) (d : Device) : Onward d (sendLink m d) := by
  unfold sendLink
  dsimp only
  split_ifs
  · exact .refl d
  · exact transmit_onward ..
  · exact .of_eq rfl rfl rfl List.prefix_rfl fun _ _ _ => rfl

/-! ## Asynchronous events and the end of a slot (R164) -/

theorem aenDeliver_ref (a : Assoc) : (aenDeliver a).1.port = a.port ∧ (aenDeliver a).1.assoc = a.assoc := by
  unfold aenDeliver
  split <;> exact ⟨rfl, rfl⟩

/-- Events that are told: associations keep their port and number. -/
theorem aenUpdate_onward {f : Assoc → Assoc × Option (QueueRef × CmdTag × Nat)} (hf : ∀ a, (f a).1.port = a.port ∧ (f a).1.assoc = a.assoc)
    (d : Device) : Onward d (aenUpdate f d) := by
  have h0 : Onward d { d with ports := { d.ports with assocs := (d.ports.assocs.map f).map (·.1) } } := by
    refine Proceeds.onward ⟨List.prefix_rfl, fun _ => rfl, fun _ _ => List.prefix_rfl, fun q => ?_⟩ rfl
    simp only [reachable, List.any_map, Function.comp_def, hf]
  refine h0.trans (.foldl (fun d x => ?_) _ _)
  split
  · exact complete_onward ..
  · exact .refl d

theorem aenPost_onward (sel : Assoc → Bool) (typ info page warning : Nat) (d : Device) : Onward d (aenPost sel typ info page warning d) := by
  refine aenUpdate_onward (fun a => ?_) d
  split_ifs
  · exact aenDeliver_ref _
  · exact aenDeliver_ref _
  · exact ⟨rfl, rfl⟩

/-- Telling events only sends, once the associations have noted them. -/
theorem aenUpdate_spoke (f : Assoc → Assoc × Option (QueueRef × CmdTag × Nat)) (d : Device) :
    Spoke { d with ports := { d.ports with assocs := (d.ports.assocs.map f).map (·.1) } } (aenUpdate f d) := by
  refine .foldl (fun d x => ?_) _ _
  split
  · exact complete_spoke ⟨rfl, rfl⟩
  · exact .refl d

theorem Spoke.slots {a b : Device} (h : Spoke a b) : b.admin.slots = a.admin.slots := by
  obtain ⟨_, _, _, _, _, _, rfl, -⟩ := h
  rfl

theorem Spoke.selfTest {a b : Device} (h : Spoke a b) : b.admin.selfTest = a.admin.selfTest := by
  obtain ⟨_, _, _, _, _, _, rfl, -⟩ := h
  rfl

/-- The end of a slot, before its partner is told. -/
def slotEnded (n st : Nat) (d : Device) : Device := restartIdle (onSlot n (fun s => { s with state := st, entered := d.time.now }) d)

theorem endSlot_cases (n st : Nat) (d : Device) :
    endSlot n st d = slotEnded n st d ∨ ∃ p, endSlot n st d = aenPost (fun a => a.port == p) 7 0x01 0xC0 0 (slotEnded n st d) := by
  unfold endSlot
  dsimp only
  split
  · exact .inr ⟨_, rfl⟩
  · exact .inl rfl

theorem endSlot_slots (n st : Nat) (d : Device) : (endSlot n st d).admin.slots = (slotEnded n st d).admin.slots := by
  obtain h | ⟨p, h⟩ := endSlot_cases n st d
  · rw [h]
  · rw [h]
    exact (aenUpdate_spoke _ _).slots

theorem endSlot_selfTest (n st : Nat) (d : Device) : (endSlot n st d).admin.selfTest = d.admin.selfTest := by
  obtain h | ⟨p, h⟩ := endSlot_cases n st d
  · rw [h]
    rfl
  · rw [h]
    exact (aenUpdate_spoke _ _).selfTest

/-- A slot whose operation ends keeps all but its state and the time of it. -/
theorem longSlot_endSlot {n : Nat} {d : Device} (h : n < d.admin.slots.length) (st : Nat) :
    longSlot n (endSlot n st d) = { longSlot n d with state := st, entered := d.time.now } := by
  rw [longSlot_congr (endSlot_slots n st d)]
  exact longSlot_onSlot_self h _

/-- A change of a slot that keeps its operation, its generation and its starter. -/
theorem onSlot_onward {n : Nat} {f : LongSlot → LongSlot} (hf : ∀ x, SameWork x (f x)) (d : Device) : Onward d (onSlot n f d) := by
  refine ⟨⟨List.prefix_rfl, fun _ => rfl, fun _ _ => List.prefix_rfl, fun _ => rfl⟩, onSlot_slots_length n f d, fun k => ?_⟩
  rw [longSlot_onSlot]
  split_ifs
  · exact hf _
  · exact .refl _

theorem slotEnded_onward (n st : Nat) (d : Device) : Onward d (slotEnded n st d) := by
  unfold slotEnded
  exact Onward.trans (onSlot_onward (fun _ => by exact ⟨rfl, rfl, rfl⟩) d) (.of_eq rfl rfl rfl List.prefix_rfl fun _ _ _ => rfl)

theorem endSlot_onward (n st : Nat) (d : Device) : Onward d (endSlot n st d) := by
  obtain h | ⟨p, h⟩ := endSlot_cases n st d
  · rw [h]
    exact slotEnded_onward ..
  · rw [h]
    exact (slotEnded_onward ..).trans (aenPost_onward ..)

theorem freeSlot_proceeds (n : Nat) (d : Device) : Proceeds d (freeSlot n d) :=
  ⟨List.prefix_rfl, fun _ => rfl, fun _ _ => List.prefix_rfl, fun _ => rfl⟩

theorem freeSlot_idle {n : Nat} {d : Device} (h : n < d.admin.slots.length) : (longSlot n (freeSlot n d)).state = 0 := by
  rw [freeSlot, longSlot_onSlot_self h]

/-! ## Answers -/

/-- An admin command that completes while the device works on answers the host. -/
theorem served_answers_of_proceeds {q : QueueRef} {c : Capsule} {x : Assoc} {d b : Device} {st : Status} {dw0 dw1 : Nat} {data : Bytes}
    (h : AdminOpen q c x d) (hb : Proceeds (adminServed q c d) b) : Answers q c st dw0 dw1 data d (complete q c.sqe.tag st dw0 dw1 data b) := by
  have hw := adminServed_waits q c d
  refine complete_answers ((hb.reach q).trans (reachable_of (hasLink_served h) (assocOf_served h))) (hw.1.trans hb.out) ?_
  rw [hb.paused]
  cases hp : pausedNow q.port (adminServed q c d)
  · exact .inr rfl
  · refine .inl (le_trans ?_ (hb.waits q.port hp).length_le)
    simpa [hp] using hw.2

/-- Its answer stands while the device works on. -/
theorem served_answers_stay {q : QueueRef} {c : Capsule} {x : Assoc} {d b t : Device} {dw0 dw1 : Nat} (h : AdminOpen q c x d)
    (hb : Proceeds (adminServed q c d) b) (ht : Proceeds (complete q c.sqe.tag .success dw0 dw1 [] b) t) :
    Answers q c .success dw0 dw1 [] d t := by
  have hs : Spoke b (complete q c.sqe.tag .success dw0 dw1 [] b) := complete_spoke ⟨rfl, rfl⟩
  cases hp : pausedNow q.port b
  · obtain ⟨flow, hc⟩ := complete_sent (c := c) (dw0 := dw0) (dw1 := dw1) (data := [])
      ((hb.reach q).trans (reachable_of (hasLink_served h) (assocOf_served h))) ((adminServed_waits q c d).1.trans hb.out) hp
    exact ⟨flow, .inl (hc.mono ht.out)⟩
  · obtain ⟨flow, hc⟩ := served_answers_of_proceeds (st := .success) (dw0 := dw0) (dw1 := dw1) (data := []) h hb
    exact ⟨flow, hc.mono ht.out (ht.waits q.port ((hs.pausedNow q.port).trans hp))⟩

end Sys2Proof.Machine
end

section
/-! SUPPORT. Release of a slot and the end of a self-test, and O15 (R161, R168, R172, R181). -/

namespace Sys2Proof.Machine

/-! ## What the other peer was asked -/

theorem dropAsked_onward (who : Nat) (d : Device) : Onward d (dropAsked who d) := .of_eq rfl rfl rfl List.prefix_rfl fun _ _ _ => rfl

theorem askPeer_onward (who : Nat) (sqe : Sqe) (data : Bytes) (d : Device) : Onward d (askPeer who sqe data d) := by
  unfold askPeer
  refine Onward.trans ?_ (sendLink_onward ..)
  exact .of_eq rfl rfl rfl List.prefix_rfl fun _ _ _ => rfl

theorem sendLink_selfTest (m : LinkMsg) (d : Device) : (sendLink m d).admin.selfTest = d.admin.selfTest := by
  obtain ⟨_, _, _, _, _, h, -⟩ := sendLink_linkWorked m d
  rw [h]

/-! ## Self-tests -/

theorem endSelfTest_onward (code seg : Nat) (d : Device) : Onward d (endSelfTest code seg d) := by
  unfold endSelfTest
  split
  · exact .refl d
  · dsimp only
    split
    · refine Onward.trans ?_ (sendLink_onward ..)
      exact .of_eq rfl rfl rfl List.prefix_rfl fun _ _ _ => rfl
    · split
      · refine Onward.trans ?_ (endSlot_onward ..)
        exact .of_eq rfl rfl rfl List.prefix_rfl fun _ _ _ => rfl
      · exact .of_eq rfl rfl rfl List.prefix_rfl fun _ _ _ => rfl

/-- No self-test runs once it has ended. -/
theorem endSelfTest_ended (code seg : Nat) (d : Device) : (endSelfTest code seg d).admin.selfTest = none := by
  unfold endSelfTest
  split
  · assumption
  · dsimp only
    split
    · exact sendLink_selfTest ..
    · split
      · exact endSlot_selfTest ..
      · rfl

theorem stopSelfTest_onward (code : Nat) (d : Device) : Onward d (stopSelfTest code d) := by
  unfold stopSelfTest
  dsimp only
  refine Onward.trans ?_ (endSelfTest_onward ..)
  split_ifs
  · exact (dropAsked_onward ..).trans (askPeer_onward ..)
  · exact dropAsked_onward ..

/-! ## Replication cycles -/

theorem onSession_onward (n : Nat) (f : ReplSession → ReplSession) (d : Device) : Onward d (onSession n f d) :=
  .of_eq rfl rfl rfl List.prefix_rfl fun _ _ _ => rfl

theorem sessionTo_onward (n st : Nat) (d : Device) : Onward d (sessionTo n st d) := by
  unfold sessionTo
  split_ifs
  · exact .refl d
  · exact (onSession_onward ..).trans (logEvent_onward ..)

theorem rewindSession_onward (n : Nat) (d : Device) : Onward d (rewindSession n d) := onSession_onward ..

theorem stopCycle_onward (k : Nat) (d : Device) : Onward d (stopCycle k d) := by
  refine .foldl (fun d n => ?_) _ _
  split_ifs
  · exact (onSession_onward ..).trans ((rewindSession_onward ..).trans ((sessionTo_onward ..).trans (toRemote_onward ..)))
  · exact .refl d

/-! ## Release -/

/-- The operation of a slot as it stops, before the slot is free. -/
def slotStopped (n : Nat) (d : Device) : Device :=
  dropAsked n (match (longSlot n d).op with
    | .replication _ => stopCycle n d
    | .selfTest => stopSelfTest 1 d
    | _ => d)

theorem stopSlot_eq (n : Nat) (d : Device) : stopSlot n d = freeSlot n (slotStopped n d) := rfl

theorem slotStopped_onward (n : Nat) (d : Device) : Onward d (slotStopped n d) := by
  refine Onward.trans ?_ (dropAsked_onward ..)
  split
  · exact stopCycle_onward ..
  · exact stopSelfTest_onward ..
  · exact .refl d

theorem stopSlot_proceeds (n : Nat) (d : Device) : Proceeds d (stopSlot n d) := by
  rw [stopSlot_eq]
  exact (slotStopped_onward n d).toProceeds.trans (freeSlot_proceeds ..)

theorem stopSlot_idle {n : Nat} {d : Device} (h : n < d.admin.slots.length) : (longSlot n (stopSlot n d)).state = 0 := by
  rw [stopSlot_eq]
  exact freeSlot_idle (by rwa [(slotStopped_onward n d).slots])

/-- Release by its starter of an operation that runs; `he` leaves the branch of an erasure, which cannot be released, out (R181). -/
theorem releaseSlot_running {q : QueueRef} {c : Capsule} {d : Device} (hr : (longSlot (bits c.sqe.cdw10 13 8) d).state = 2)
    (hg : (longSlot (bits c.sqe.cdw10 13 8) d).gen = c.sqe.cdw10 % 256) (hs : (longSlot (bits c.sqe.cdw10 13 8) d).starter = some q.port)
    (he : ∀ first a b e, (longSlot (bits c.sqe.cdw10 13 8) d).op ≠ .erasure first a b e) :
    releaseSlot q c d = completeSt q c.sqe.tag .success (stopSlot (bits c.sqe.cdw10 13 8) d) := by
  unfold releaseSlot
  simp only [hr, hg, hs, bne_self_eq_false, Bool.or_false, Bool.false_and, Bool.false_eq_true, Nat.reduceBEq, Nat.reduceLeDiff, if_false]

/-- Device Self-test with code 0xF of the partner that started the test. -/
theorem abortSelfTest_mine {q : QueueRef} {c : Capsule} {d : Device} {st : SelfTest} (ht : d.admin.selfTest = some st) (hs : st.starter = q.port)
    (hf : st.fwd = none) (hd : denied q 2 false d = false) (hn : c.sqe.nsid = 0 ∨ c.sqe.nsid = 0xFFFFFFFF) :
    abortSelfTest q c d = completeSt q c.sqe.tag .success (stopSelfTest 1 d) := by
  have hn' : (c.sqe.nsid != 0 && c.sqe.nsid != 0xFFFFFFFF) = false := by rcases hn with h | h <;> simp [h]
  unfold abortSelfTest
  simp [hd, hn', ht, hs, hf]

/-- Settles O15: Abort only answers; a Release and the end of a self-test leave the port as they found it, so that their answer is sent or
waits. -/
theorem abortAndEnds : Obligations.AbortAndEnds := by
  intro s q c x h
  refine ⟨gives_admin h rfl ⟨served_answers_same h, (adminServed_spoke ..).trans (complete_spoke ⟨rfl, rfl⟩)⟩, fun slot hslot hr hg hs he => ?release,
    fun st ht hs hf hd hn => ?selfTest⟩
  case release =>
    subst hslot
    refine gives_admin h rfl ?_
    rw [releaseSlot_running hr hg hs he]
    refine ⟨?_, 0, 0, [], served_answers_of_proceeds h (stopSlot_proceeds ..)⟩
    rw [completeSt, longSlot_congr (complete_spoke ⟨rfl, rfl⟩).slots]
    exact stopSlot_idle (slot_lt_of_state (by omega))
  case selfTest =>
    refine gives_admin h rfl ?_
    rw [abortSelfTest_mine ht hs hf hd hn]
    refine ⟨?_, 0, 0, [], served_answers_of_proceeds h (stopSelfTest_onward ..).toProceeds⟩
    rw [completeSt, (complete_spoke ⟨rfl, rfl⟩).selfTest]
    exact endSelfTest_ended ..

end Sys2Proof.Machine
end

section
/-! SUPPORT. A cycle of replication that a long operation begins, its snapshot included, as answers and slots stand through it (R421, R467,
R477, R480). -/

namespace Sys2Proof.Machine

/-! ## Entries of the board -/

theorem putEntry_onward (n : Nat) (e : BoardEntry) (d : Device) : Onward d (putEntry n e d) :=
  .of_eq rfl rfl rfl List.prefix_rfl fun _ _ _ => rfl

theorem dropCut_onward (n : Nat) (d : Device) : Onward d (dropCut n d) := by
  unfold dropCut
  extract_lets isCut armed asked d1 d2
  have h1 : Onward d d1 := .foldl (fun d r => putEntry_onward ..) _ _
  have h2 : Onward d1 d2 := .foldl (fun d p => sendLink_onward ..) _ _
  exact h1.trans (h2.trans (.of_eq rfl rfl rfl List.prefix_rfl fun _ _ _ => rfl))

/-- Cuts that will not launch are dropped, and their creates are answered. -/
theorem endCuts_onward (nums : List Nat) (d : Device) : Onward d (endCuts nums d) := by
  unfold endCuts
  extract_lets ended gone d1 snap1 d2 cleared snap2 d3
  have h1 : Onward d d1 := .foldl (fun d n => dropCut_onward n d) _ _
  have h3 : Onward d1 d3 := .of_eq rfl rfl rfl List.prefix_rfl fun _ _ _ => rfl
  refine h1.trans (h3.trans (.foldl (fun d c => ?_) _ _))
  split_ifs
  · exact .refl d
  · exact complete_onward ..

theorem placementDone_snapshot_onward (k n : Nat) (d : Device) : Onward d (placementDone (.snapshot k) n d) :=
  .foldl (fun _ _ => by exact .of_eq rfl rfl rfl List.prefix_rfl fun _ _ _ => rfl) _ _

/-- The placement of a snapshot's cut, made, announced, waiting or failed. -/
theorem placePaired_snapshot_onward (e : BoardEntry) (k : Nat) (d : Device) : Onward d (placePaired e (.snapshot k) d) := by
  unfold placePaired
  split
  · unfold placePairedAt
    dsimp only
    split_ifs
    · exact (putEntry_onward ..).trans (placementDone_snapshot_onward ..)
    · refine Onward.trans ?_ (sendLink_onward ..)
      exact .of_eq rfl rfl rfl List.prefix_rfl fun _ _ _ => rfl
    · exact endCuts_onward ..
  · dsimp only
    split_ifs
    · exact .of_eq rfl rfl rfl List.prefix_rfl fun _ _ _ => rfl
    · refine (logEvent_onward 0x0D08 0x0051 1 e.action d).trans ?_
      exact .of_eq rfl rfl rfl List.prefix_rfl fun _ _ _ => rfl

theorem armSnaps_onward (nss : List Nat) (minutes : Nat) (session : Option Nat) (mk : List Nat → Nat → SnapCreate) (d : Device) :
    Onward d (armSnaps nss minutes session mk d) := by
  unfold armSnaps
  dsimp only
  refine Onward.trans ?_ (.foldl (fun d n => placePaired_snapshot_onward ..) _ _)
  exact .of_eq rfl rfl rfl List.prefix_rfl fun _ _ _ => rfl

/-! ## Snapshots -/

theorem onSnap_onward (n : Nat) (f : Snapshot → Snapshot) (d : Device) : Onward d (onSnap n f d) :=
  .of_eq rfl rfl rfl List.prefix_rfl fun _ _ _ => rfl

theorem deleteSnapshot_onward (n : Nat) (d : Device) : Onward d (deleteSnapshot n d) := by
  unfold deleteSnapshot
  split
  · exact .refl d
  · exact (onSnap_onward ..).trans (.of_eq rfl rfl rfl List.prefix_rfl fun _ _ _ => rfl)

theorem giveUpSnapshot_onward (n : Nat) (d : Device) : Onward d (giveUpSnapshot n d) := by
  unfold giveUpSnapshot
  split_ifs
  · exact .refl d
  · exact deleteSnapshot_onward ..
  · exact onSnap_onward ..

/-! ## Cycles -/

theorem connectRemote_onward (n : Nat) (d : Device) : Onward d (connectRemote n d) := by
  unfold connectRemote
  dsimp only
  split_ifs
  · exact toRemote_onward ..
  · exact (toRemote_onward ..).trans ((onSession_onward ..).trans (toRemote_onward ..))

theorem newCycle_onward {n : Nat} {d u : Device} (h : newCycle n d = some u) : Onward d u := by
  unfold newCycle at h
  extract_lets x ns keep left d1 d2 num cut d3 at h
  have h1 : Onward d d1 := by
    unfold d1
    split_ifs
    · exact .refl d
    · exact onSession_onward ..
  have h2 : Onward d1 d2 := .foldl (fun d k => giveUpSnapshot_onward k d) _ _
  split_ifs at h
  obtain rfl := Option.some.inj h
  exact h1.trans (h2.trans ((onSession_onward ..).trans (armSnaps_onward ..)))

/-- A cycle begins, goes on or is refused. -/
theorem beginCycle_onward (n : Nat) (d : Device) : Onward d (beginCycle n d).2 := by
  unfold beginCycle
  split_ifs
  · exact (rewindSession_onward ..).trans ((sessionTo_onward ..).trans (connectRemote_onward ..))
  · split
    · exact (newCycle_onward ‹_›).trans ((sessionTo_onward ..).trans (connectRemote_onward ..))
    · exact (odBump_onward (idx := 0x3300) (sub := 4) 1 d (by decide)).trans ((onSession_onward ..).trans (sessionTo_onward ..))

end Sys2Proof.Machine
end

section
/-! SUPPORT. Starts of long operations (R176, R177, R480). -/

namespace Sys2Proof.Machine

/-! ## A slot is taken -/

/-- A slot as its operation begins. -/
def slotBegun (op : LongOp) (who : Starter) (now : Nat) (s : LongSlot) : LongSlot :=
  { s with state := 2, gen := (s.gen + 1) % 256, progress := 0, count := 0, results := [], op := op, starter := who, entered := now }

/-- The device once idle slot `n` has been taken for an operation. -/
def slotTaken (n : Nat) (op : LongOp) (who : Starter) (d : Device) : Device := onSlot n (slotBegun op who d.time.now) d

theorem takeSlot_taken {n : Nat} {d : Device} (h : idleSlot d = some n) (op : LongOp) (who : Starter) :
    takeSlot 2 op who d = some (n, slotTaken n op who d) := by
  unfold takeSlot
  rw [h]
  rfl

theorem slotTaken_proceeds (n : Nat) (op : LongOp) (who : Starter) (d : Device) : Proceeds d (slotTaken n op who d) :=
  ⟨List.prefix_rfl, fun _ => rfl, fun _ _ => List.prefix_rfl, fun _ => rfl⟩

theorem longSlot_slotTaken {n : Nat} {d : Device} (h : n < d.admin.slots.length) (op : LongOp) (who : Starter) :
    longSlot n (slotTaken n op who d) = slotBegun op who d.time.now (longSlot n d) := longSlot_onSlot_self h _

theorem idleSlot_lt {n : Nat} {d : Device} (h : idleSlot d = some n) : n < 64 := List.mem_range.1 (List.mem_of_find?_eq_some h)

theorem adminServed_slots (q : QueueRef) (c : Capsule) (d : Device) : (adminServed q c d).admin.slots = d.admin.slots := (adminServed_spoke q c d).slots

/-! ## A Start completes -/

/-- The device once a Start has completed with the handle of the slot that it took. -/
def startDone (q : QueueRef) (c : Capsule) (n : Nat) (op : LongOp) (d : Device) : Device :=
  complete q c.sqe.tag .success (slotHandle n (slotTaken n op (some q.port) d)) 0 [] (slotTaken n op (some q.port) d)

theorem startLong_done {q : QueueRef} {c : Capsule} {x : LongStart} {n : Nat} {d : Device} (hd : denied q x.need x.session d = false)
    (hz : d.admin.sanitize = none) (hc : x.check = none) (hi : idleSlot d = some n) :
    startLong q c x d = (some n, startDone q c n x.op d) := by
  unfold startLong
  simp only [hd, hz, hc, takeSlot_taken hi, Option.isSome_none, Bool.false_eq_true, if_false]
  rfl

theorem startDone_slots (q : QueueRef) (c : Capsule) (n : Nat) (op : LongOp) (d : Device) :
    (startDone q c n op d).admin.slots = (slotTaken n op (some q.port) d).admin.slots := (complete_spoke ⟨rfl, rfl⟩).slots

/-- Slot `n` of `t` holds the operation of the Start that arrived in `d`, and the Start is answered with the slot's handle. -/
def Started (q : QueueRef) (c : Capsule) (n : Nat) (op : LongOp) (d t : Device) : Prop :=
  let gen := ((longSlot n (adminServed q c d)).gen + 1) % 256
  (longSlot n t).op = op ∧ (longSlot n t).gen = gen ∧ (longSlot n t).starter = some q.port ∧ Answers q c .success (n * 256 + gen) 0 [] d t

/-- The slot of a Start as the Start leaves it. -/
theorem longSlot_startDone {q : QueueRef} {c : Capsule} {n : Nat} {d : Device} (hl : d.admin.slots.length = 64)
    (hi : idleSlot (adminServed q c d) = some n) (op : LongOp) :
    longSlot n (startDone q c n op (adminServed q c d)) =
      slotBegun op (some q.port) (adminServed q c d).time.now (longSlot n (adminServed q c d)) := by
  rw [longSlot_congr (startDone_slots ..), longSlot_slotTaken]
  rw [adminServed_slots, hl]
  exact idleSlot_lt hi

/-- While the device works on after a Start, its slot holds the operation, and its answer stands. -/
theorem started_of_onward {q : QueueRef} {c : Capsule} {x : Assoc} {n : Nat} {op : LongOp} {d t : Device} (h : AdminOpen q c x d)
    (hl : d.admin.slots.length = 64) (hi : idleSlot (adminServed q c d) = some n) (ht : Onward (startDone q c n op (adminServed q c d)) t) :
    Started q c n op d t := by
  have hs := longSlot_startDone (c := c) hl hi op
  obtain ⟨hop, hgen, hst⟩ := ht.work n
  rw [hs] at hop hgen hst
  have hh : slotHandle n (slotTaken n op (some q.port) (adminServed q c d)) = n * 256 + ((longSlot n (adminServed q c d)).gen + 1) % 256 := by
    rw [slotHandle, ← longSlot_congr (startDone_slots q c n op (adminServed q c d)), hs]
    rfl
  have ha := served_answers_stay h (slotTaken_proceeds n op (some q.port) _) ht.toProceeds
  rw [hh] at ha
  exact ⟨hop, hgen, hst, ha⟩

/-- A Start that passes its checks, of an operation that runs by itself. -/
theorem startPlain_gives {q : QueueRef} {c : Capsule} {x : Assoc} {n : Nat} {s : State} {i : Instr} {f : Device → LongStart} {y : LongStart}
    (h : AdminOpen q c x s.dev) (hl : s.dev.admin.slots.length = 64) (hi : idleSlot (adminServed q c s.dev) = some n)
    (hz : (adminServed q c s.dev).admin.sanitize = none) (hx : exec i s = next s (adminCmd q c fun _ => startPlain q c f))
    (hy : f (adminServed q c s.dev) = y) (hd : denied q y.need y.session (adminServed q c s.dev) = false) (hc : y.check = none) :
    (Gives i s fun t => Started q c n y.op s.dev t) ∧ Gives i s fun t => (longSlot n t).state = 2 := by
  have he : startPlain q c f (adminServed q c s.dev) = startDone q c n y.op (adminServed q c s.dev) := by
    rw [startPlain, hy, startLong_done hd hz hc hi]
  refine ⟨gives_admin h hx ?_, gives_admin h hx ?_⟩
  · rw [he]
    exact started_of_onward h hl hi (.refl _)
  · rw [he, longSlot_startDone hl hi]
    rfl

/-- A Start of replication, its cycle begun or refused. -/
theorem startReplication_onward {q : QueueRef} {c : Capsule} {n : Nat} {d : Device} (hd : denied q 2 false d = false)
    (hz : d.admin.sanitize = none) (hr : sessionReady (c.sqe.cdw11 % 16) d = true) (hs : (sessionOf (c.sqe.cdw11 % 16) d).st = 1)
    (hi : idleSlot d = some n) : Onward (startDone q c n (.replication (c.sqe.cdw11 % 16)) d) (startReplication q c d) := by
  unfold startReplication
  simp only [hr, hs, beq_self_eq_true, Bool.and_self, if_true, startLong_done (x := ⟨2, false, none, _⟩) hd hz rfl hi]
  split_ifs
  · exact (beginCycle_onward ..).trans (onSession_onward ..)
  · exact (beginCycle_onward ..).trans (endSlot_onward ..)

end Sys2Proof.Machine
end

section
/-! SUPPORT. Records, ends and expiry of long operations; snapshots that are created and deleted; O18 (R178, R180 to R182, R212, R309, R310, R467,
R471). -/

namespace Sys2Proof.Machine

/-! ## Expiry -/

theorem freeSlot_time (n : Nat) (d : Device) : (freeSlot n d).time = d.time := rfl

/-- 600 s after its end a slot is idle. -/
theorem longExpiry_frees {n : Nat} {d : Device} (hn : n < 64) (hl : d.admin.slots.length = 64) (hs : 3 ≤ (longSlot n d).state) :
    (longSlot n (longExpiry n d)).state = 0 ∧ (longSlot n d).entered + sec 600 ≤ (longExpiry n d).time.now := by
  have he : longExpiry n d = freeSlot n (waitUntil ((longSlot n d).entered + sec 600) d) := by
    simp [longExpiry, not_lt.2 hs, not_le.2 hn]
  rw [he, freeSlot_time]
  exact ⟨freeSlot_idle (by rw [waitUntil_admin]; omega), le_waitUntil ..⟩

/-! ## Rebuild reports -/

@[simp] theorem commitRecord_slots_length (n : Nat) (r : Bytes) (d : Device) : (commitRecord n r d).admin.slots.length = d.admin.slots.length :=
  onSlot_slots_length ..

@[simp] theorem commitNext_slots_length (n : Nat) (r : Bytes) (d : Device) : (commitNext n r d).admin.slots.length = d.admin.slots.length := by
  rw [commitNext, commitRecord_slots_length, onSlot_slots_length]
  rfl

/-- A record that is committed joins the results of its slot. -/
theorem longSlot_commitRecord {n : Nat} {d : Device} (h : n < d.admin.slots.length) (r : Bytes) :
    longSlot n (commitRecord n r d) = { longSlot n d with results := (longSlot n d).results ++ r, count := (longSlot n d).count + 1 } :=
  longSlot_onSlot_self h _

theorem longSlot_commitNext {n : Nat} {d : Device} (h : n < d.admin.slots.length) (r : Bytes) :
    longSlot n (commitNext n r d) = { longSlot n d with
      progress := (draw d).1 % 65536, results := (longSlot n d).results ++ r, count := (longSlot n d).count + 1 } := by
  have hd : n < (draw d).2.admin.slots.length := h
  rw [commitNext, longSlot_commitRecord (by rwa [onSlot_slots_length]), longSlot_onSlot_self hd]
  rfl

/-- The device once a rebuild report has committed the record of an element, with `rest` left. -/
def reportCommitted (n : Nat) (f : FailedElement) (rest : List Nat) (d : Device) : Device :=
  onSlot n (fun s => { s with op := .rebuildReport rest }) (commitNext n (rebuildRecord f) d)

theorem recordCommit_report {n a : Nat} {rest : List Nat} {f : FailedElement} {d : Device} (hn : n < 64) (hs : (longSlot n d).state = 2)
    (ht : d.peer.takeover = none) (hr : isReady d = true) (ho : (longSlot n d).op = .rebuildReport (a :: rest))
    (hp : poolUsed d + 64 ≤ poolBytes) (hf : d.stripe.failed.find? (fun x => x.addr == a) = some f) :
    recordCommit n d = if rest.isEmpty then endSlot n 3 (reportCommitted n f rest d) else reportCommitted n f rest d := by
  unfold recordCommit
  simp only [hs, ht, hr, ho, not_le.2 hn, not_lt.2 hp, bne_self_eq_false, Option.isSome_none, Bool.not_true, decide_false, Bool.or_self,
    Bool.false_eq_true, if_false]
  unfold rebuildStep
  simp only [hf]
  rfl

/-- The record joins the results; the last one ends the operation. -/
theorem recordCommit_joins {n a : Nat} {rest : List Nat} {f : FailedElement} {d : Device} (hn : n < 64) (hl : d.admin.slots.length = 64)
    (hs : (longSlot n d).state = 2) (ht : d.peer.takeover = none) (hr : isReady d = true) (ho : (longSlot n d).op = .rebuildReport (a :: rest))
    (hp : poolUsed d + 64 ≤ poolBytes) (hf : d.stripe.failed.find? (fun x => x.addr == a) = some f) :
    (longSlot n (recordCommit n d)).results = (longSlot n d).results ++ rebuildRecord f ∧
      (longSlot n (recordCommit n d)).count = (longSlot n d).count + 1 ∧
      (longSlot n (recordCommit n d)).state = if rest = [] then 3 else 2 := by
  have hd : n < d.admin.slots.length := by omega
  have hc : n < (commitNext n (rebuildRecord f) d).admin.slots.length := by simpa
  have hu : n < (reportCommitted n f rest d).admin.slots.length := by simpa [reportCommitted]
  have hw : longSlot n (reportCommitted n f rest d) = { longSlot n (commitNext n (rebuildRecord f) d) with op := .rebuildReport rest } :=
    longSlot_onSlot_self hc _
  rw [longSlot_commitNext hd] at hw
  rw [recordCommit_report hn hs ht hr ho hp hf]
  cases rest with
  | nil =>
    simp only [List.isEmpty_nil, if_true, longSlot_endSlot hu, hw, and_self]
  | cons b rest =>
    simp only [List.isEmpty_cons, Bool.false_eq_true, reduceCtorEq, if_false, hw, hs, and_self]

/-! ## The erasure of a secure delete -/

/-- An erasure whose blocks and stripes are gone ends. -/
theorem erasureStep_ends {n first : Nat} {copies : List (Nat × Nat × Nat)} {ids : List Nat} {d : Device} (hs : (longSlot n d).state = 2)
    (ht : d.peer.takeover = none) (hr : isReady d = true) (hp : (pairUp d || noServingPeer d) = true)
    (ho : (longSlot n d).op = .erasure first copies [] ids) (hl : 64 ≤ (longSlot n d).results.length) (hu : poolUsed d + 8 ≤ poolBytes)
    (hi : ∀ i ∈ ids, stripeOf i d = none) : erasureStep n d = erasureEnd n copies d := by
  have hany : (ids.any fun i => (stripeOf i d).isSome) = false := by
    rw [List.any_eq_false]
    intro i hm
    simp [hi i hm]
  unfold erasureStep
  simp only [hs, ht, hr, hp, ho, not_lt.2 hl, not_lt.2 hu, hany, bne_self_eq_false, Option.isSome_none, Bool.not_true, Bool.or_self,
    Bool.false_eq_true, if_false, List.foldl_nil]

/-- It ends in state 3, with its event. -/
theorem erasureEnd_logged {n : Nat} {d : Device} (hn : n < d.admin.slots.length) (copies : List (Nat × Nat × Nat)) :
    (longSlot n (erasureEnd n copies d)).state = 3 ∧ Logged 0x0706 0x0042 0 (slotHandle n d) (erasureEnd n copies d) := by
  unfold erasureEnd
  extract_lets r rec_ u
  have hu : n < u.admin.slots.length := by rwa [commitRecord_slots_length, onSlot_slots_length]
  have hg : slotHandle n u = slotHandle n d := by
    rw [slotHandle, longSlot_commitRecord (by rwa [onSlot_slots_length]), longSlot_onSlot_self hn]
    rfl
  refine ⟨?_, hg ▸ logEvent_logged ..⟩
  rw [longSlot_congr (logEvent_spoke ..).slots, longSlot_endSlot hu]

/-! ## Snapshots -/

/-- While fewer than 4,096 snapshots stand a number is free. -/
theorem freeNumbers_one {d : Device} (h : d.snap.snaps.length < 4096) : ∃ k, freeNumbers 1 d = [k] := by
  have hcard : ((d.snap.snaps.map (·.num)).toFinset).card < (Finset.range 4096).card := by
    rw [Finset.card_range]
    exact lt_of_le_of_lt (List.toFinset_card_le _) (by rwa [List.length_map])
  obtain ⟨i, hi, hf⟩ := Finset.exists_mem_notMem_of_card_lt_card hcard
  have hm : i ∈ (List.range 4096).filter fun i => !d.snap.snaps.any (·.num == i) := by
    refine List.mem_filter.2 ⟨List.mem_range.2 (Finset.mem_range.1 hi), ?_⟩
    simpa using hf
  unfold freeNumbers
  cases hl : (List.range 4096).filter fun i => !d.snap.snaps.any (·.num == i) with
  | nil => rw [hl] at hm; cases hm
  | cons k rest => exact ⟨k, rfl⟩

theorem placementDone_snapshot_snap (k n : Nat) (d : Device) : (placementDone (.snapshot k) n d).snap = d.snap := by
  unfold placementDone
  exact foldl_eq_of_step Device.snap (fun _ _ => by rfl) _ _

/-- With no serving peer the placement of a cut leaves the snapshots. -/
theorem placePaired_snaps {d : Device} (h : noServingPeer d = true) (e : BoardEntry) (k : Nat) :
    (placePaired e (.snapshot k) d).snap = d.snap := by
  unfold placePaired
  split
  · unfold placePairedAt
    dsimp only
    rw [if_pos h]
    exact placementDone_snapshot_snap ..
  · dsimp only
    split_ifs <;> rfl

/-- The snapshot that a create of one namespace arms. -/
theorem snapshotCreate_arms {q : QueueRef} {c : Capsule} {d : Device} (hall : c.sqe.nsid ≠ 0xFFFFFFFF) (hm : c.sqe.nsid ∈ attachedNs q.port d)
    (hr : createRefused [c.sqe.nsid] d = none) (hp : noServingPeer d = true) :
    ∃ y ∈ (snapshotCreate q c d).snap.snaps, y.ns = c.sqe.nsid ∧ y.st = 1 ∧ y.cut = nextBoundary d ∧
      y.expiry = if c.sqe.cdw11 = 0 then 0 else nextBoundary d + c.sqe.cdw11 * sec 60 := by
  have hlen : d.snap.snaps.length < 4096 := by
    by_contra hn
    simp only [createRefused, List.length_singleton] at hr
    split_ifs at hr
    omega
  obtain ⟨k, hk⟩ := freeNumbers_one hlen
  unfold snapshotCreate
  simp only [beq_eq_false_iff_ne.2 hall, List.contains_iff_mem.2 hm, hr, Bool.false_and, Bool.false_eq_true, if_false, if_true]
  unfold armSnaps
  simp only [List.length_singleton, hk, List.foldl_cons, List.foldl_nil]
  rw [placePaired_snaps]
  · refine ⟨_, List.mem_append_right _ (List.mem_singleton_self _), rfl, rfl, rfl, ?_⟩
    simp
  · exact hp

theorem Spoke.snap {a b : Device} (h : Spoke a b) : b.snap = a.snap := by
  obtain ⟨-, hs, -⟩ := h.attended.store
  exact hs

theorem createCmd_open {q : QueueRef} {d : Device} (hd : denied q 2 false d = false) (c : Capsule) : createCmd q c d = snapshotCreate q c d := by
  rw [createCmd, hd, if_neg Bool.false_ne_true]

/-- A delete of a live snapshot without holds is accepted. -/
theorem deleteCmd_deletes {q : QueueRef} {c : Capsule} {y : Snapshot} {d : Device} (hd : denied q 2 false d = false)
    (hz : d.admin.sanitize = none) (hy : snapOf (c.sqe.cdw11 % 4096) d = some y) (hs : y.st = 2) (hn : y.ns = c.sqe.nsid)
    (hh : holdsOf (c.sqe.cdw11 % 4096) d = 0) :
    deleteCmd q c d = completeSt q c.sqe.tag .success (deleteSnapshot (c.sqe.cdw11 % 4096) d) := by
  unfold deleteCmd snapshotDelete
  simp [hd, hz, hy, hs, hn, hh]

/-- A snapshot whose delete is accepted is in state 3. -/
theorem snapOf_deleteSnapshot {n : Nat} {y : Snapshot} {d : Device} (hy : snapOf n d = some y) :
    (snapOf n (deleteSnapshot n d)).map (·.st) = some 3 := by
  have key : ∀ l : List Snapshot, l.find? (·.num == n) = some y →
      (l.map fun s => if s.num == n then { s with st := 3 } else s).find? (·.num == n) = some { y with st := 3 } := by
    intro l hl
    induction l with
    | nil => cases hl
    | cons x l ih =>
      cases hx : x.num == n
      · simp only [List.find?_cons, List.map_cons, hx, Bool.false_eq_true, if_false] at hl ⊢
        exact ih hl
      · simp only [List.find?_cons, List.map_cons, hx, if_true, Option.some.injEq] at hl ⊢
        rw [hl]
  have hd : snapOf n (deleteSnapshot n d) = some { y with st := 3 } := by
    unfold deleteSnapshot
    rw [hy]
    exact key _ hy
  rw [hd]
  rfl

/-- Settles O18: a Start by the slot that it takes, whose work and answer stand through what the operation does at once; a report and an erasure
by their one step; a create by the number that must be free. -/
theorem longOperations : Obligations.LongOperations := by
  intro s hl
  refine ⟨fun q c x n h => ?starts, fun n hn hs => ?expiry, fun n a rest f hn hs ht hr ho hp hf => ?record,
    fun n first copies ids hn hs ht hr hp ho hlen hu hi => ?erasure, fun q c x h => ?snapshots⟩
  case starts =>
    intro d hz hi gen starts runs
    have plain := fun i f y => startPlain_gives (i := i) (f := f) (y := y) h hl hi hz
    refine ⟨fun hd hc => plain _ (listStart q c) _ rfl rfl hd hc, fun hd hc => plain _ (differenceStart c) _ rfl rfl hd hc,
      fun hd => plain _ rebuildStart _ rfl rfl hd rfl, fun hd => plain _ (fun _ => dumpStart c) _ rfl rfl hd rfl,
      fun hd => plain _ (fun _ => scrubStart c) _ rfl rfl hd rfl, fun hd hr hs => gives_admin h rfl ?_⟩
    exact started_of_onward h hl hi (startReplication_onward hd hz hr hs hi)
  case expiry => exact gives_of_eq (f := longExpiry n) rfl (longExpiry_frees hn hl hs)
  case record => exact gives_of_eq (f := recordCommit n) rfl (recordCommit_joins hn hl hs ht hr ho hp hf)
  case erasure =>
    refine gives_of_eq (f := erasureStep n) rfl ?_
    rw [erasureStep_ends hs ht hr hp ho hlen hu hi]
    obtain ⟨hst, e, he, hcode, -, -, hdetail⟩ := erasureEnd_logged (n := n) (d := s.dev) (by omega) copies
    exact ⟨hst, e, he, hcode, hdetail⟩
  case snapshots =>
    intro d hd
    refine ⟨fun ns hns hall hm hr hp => ?create, fun y hz hy hs hn hh => ?delete⟩
    case create =>
      subst hns
      refine gives_admin h rfl ?_
      rw [createCmd_open hd]
      exact snapshotCreate_arms hall hm hr hp
    case delete =>
      refine gives_admin h rfl ?_
      rw [deleteCmd_deletes hd hz hy hs hn hh]
      refine ⟨?_, 0, 0, [], served_answers_of_proceeds h (deleteSnapshot_onward ..).toProceeds⟩
      rw [snapOf, completeSt, (complete_spoke ⟨rfl, rfl⟩).snap]
      exact snapOf_deleteSnapshot hy

end Sys2Proof.Machine
end

section
/-! SUPPORT. The chunker and the SHA-256 unit of an engine: what each word leaves (R183, R184, R187, R189, R499). -/

namespace Sys2Proof.Machine

/-! ## Words and conditions -/

/-- A word that names no buffer and changes its engine by `k` alone. -/
theorem becomes_of_word {c : Instr} {e : Nat} {s : State} {f : Device → Device} {k : Engine → Engine} (hr : EngineRuns e s.dev)
    (hx : exec c s = next s (word e f)) (hf : f s.dev = onEngine e k s.dev) : EngineBecomes c e (k (engineOf e s.dev)) s :=
  becomes_of_eq hr (f := k) (by rw [hx, next, word_runs _ hr, hf]) rfl

theorem engineOf_selBuf {e : Nat} {d : Device} (buf : Nat) (h : e < d.eng.engines.length) :
    engineOf e (selBuf e buf d) = { engineOf e d with ctx := { (engineOf e d).ctx with sel := buf } } := by
  rw [selBuf_eq, engineOf_onEngine _ h]

theorem setConds_pair (e m n : Nat) (a b : Bool) (d : Device) :
    setConds e [(m, a), (n, b)] d = onEngine e (fun x => { x with conds := setBit (setBit x.conds m a) n b }) d :=
  onEngine_onEngine ..

theorem condition_sha (e : Nat) (d : Device) : condition e 7 d = bit (engineOf e d).conds 7 := rfl

/-! ## Chunker -/

theorem chunkStart_eq (e buf : Nat) (d : Device) : chunkStart e buf d = onEngine e (fun x => { x with
    chunker := ⟨true, bufBytes e buf d, [], gearTable d⟩
    conds := setBit (setBit x.conds 5 false) 6 (bufBytes e buf d).isEmpty }) d := by
  rw [chunkStart, setConds_pair, onEngine_onEngine]

theorem chunkNext_atEnd {e : Nat} {d : Device} (h : (engineOf e d).chunker.rest = []) :
    chunkNext e d = onEngine e (fun x => { x with conds := setBit (setBit x.conds 5 false) 6 true }) d := by
  rw [chunkNext, h, List.isEmpty_nil, Bool.or_true, if_pos rfl, setConds_pair]

theorem chunkNext_cut {e : Nat} {d : Device} (ha : (engineOf e d).chunker.active = true) (hr : (engineOf e d).chunker.rest ≠ []) :
    let c := (engineOf e d).chunker
    let n := cutLength c.table 0 0 c.rest
    chunkNext e d = onEngine e (fun x => { x with
      chunker := { c with rest := c.rest.drop n, chunk := c.rest.take n }, ports := x.ports.set 0 (n % 2 ^ 64)
      conds := setBit (setBit x.conds 5 true) 6 (c.rest.drop n).isEmpty }) d := by
  simp only [chunkNext, ha, List.isEmpty_eq_false_iff.2 hr, Bool.not_true, Bool.or_self, Bool.false_eq_true, if_false, setConds_pair, setPort,
    onEngine_onEngine]

/-! ## SHA-256 -/

theorem shaBegin_eq (e : Nat) (pre : Bytes) (d : Device) :
    shaBegin e pre d = onEngine e (fun x => { x with sha := ⟨pre, pre, none⟩, conds := setBit x.conds 7 true }) d := by
  rw [shaBegin, engineCond, onEngine_onEngine]

theorem shaFeed_eq (e : Nat) (bs : Bytes) (d : Device) : shaFeed e bs d =
    onEngine e (fun x => { x with sha := { x.sha with msg := x.sha.msg ++ bs }, conds := setBit x.conds 7 false }) d := by
  rw [shaFeed, engineCond, onEngine_onEngine]

/-- Digest `h` of a finished unit goes to buffer `b` and to ports 1 to 4, and the unit starts again with its prefix. -/
def digestGiven (b : BufDesc) (h : Bytes) (x : Engine) : Engine :=
  { x with
    mem := memWrite x.mem (b.addr + b.cursor) (h.take (b.limit - b.cursor))
    ports := (((x.ports.set 1 (leAt h 0 8 % 2 ^ 64)).set 2 (leAt h 8 8 % 2 ^ 64)).set 3 (leAt h 16 8 % 2 ^ 64)).set 4 (leAt h 24 8 % 2 ^ 64)
    sha := { x.sha with msg := x.sha.start, finish := none } }

theorem shaDigest_eq (e buf : Nat) (d : Device) :
    shaDigest e buf d = onEngine e (digestGiven (bufDesc e buf d) (sha256 (engineOf e d).sha.msg)) d := by
  have hrange : List.range 4 = [0, 1, 2, 3] := rfl
  simp only [shaDigest, hrange, List.foldl_cons, List.foldl_nil, setPort, putBytes, onEngine_onEngine]
  rfl

theorem shaFinish_done {e buf : Nat} {d : Device} (h : bit (engineOf e d).conds 7 = true) :
    shaFinish e buf d = onEngine e (digestGiven (bufDesc e buf d) (sha256 (engineOf e d).sha.msg)) d := by
  rw [shaFinish, condition_sha, if_pos h, shaDigest_eq]

theorem shaFinish_waits {e buf : Nat} {d : Device} (h : bit (engineOf e d).conds 7 = false) :
    shaFinish e buf d = onEngine e (fun x => { x with sha := { x.sha with finish := some buf } }) d := by
  rw [shaFinish, condition_sha, h, if_neg Bool.false_ne_true]

theorem shaDone_idle {e : Nat} {d : Device} (he : e < d.eng.engines.length) (h : (engineOf e d).sha.finish = none) :
    shaDone e d = engineCond e 7 true d := by
  have hf : (engineOf e (engineCond e 7 true d)).sha.finish = none := by rw [engineCond, engineOf_onEngine _ he, h]
  simp only [shaDone, hf]

/-- Settles O5: each word by what its function changes of the engine, after BUF_SEL where the word names a buffer. -/
theorem chunkerAndSha : Obligations.ChunkerAndSha := by
  unfold Obligations.ChunkerAndSha
  intro s e buf hr
  have hsel := engineOf_selBuf buf hr.2.1
  refine ⟨?start, fun ha hn => ?cut, fun hn => ?ended, ?stop, fun w hw => ?startPrefix, ?startPlain, ?feedChunk, ?feedBuffer,
    fun hc => ?finish, fun hc => ?waits, fun hf => ?done⟩
  case start =>
    have h := becomes_of_bufWord hr (c := .chunkStart e buf) rfl (chunkStart_eq e buf _)
    rwa [bufBytes_selBuf _ _ hr.2.1] at h
  case cut => exact becomes_of_word hr rfl (chunkNext_cut ha hn)
  case ended => exact becomes_of_word hr rfl (chunkNext_atEnd hn)
  case stop => exact becomes_of_word hr (c := .chunkStop e) rfl rfl
  case startPrefix =>
    have hd : curDesc e s.dev = w := by rw [curDesc, hw, Option.getD_some]
    have h := becomes_of_word hr (c := .shaStartPrefix e) rfl (shaBegin_eq e (fpPrefix (saltOf (curDesc e s.dev).domain s.dev) (curDesc e s.dev).slot) s.dev)
    rwa [hd] at h
  case startPlain => exact becomes_of_word hr rfl (shaBegin_eq ..)
  case feedChunk => exact becomes_of_word hr rfl (shaFeed_eq ..)
  case feedBuffer =>
    have h := becomes_of_bufWord hr (c := .shaFeedBuffer e buf) rfl (shaFeed_eq ..)
    rwa [bufBytes_selBuf _ _ hr.2.1] at h
  case finish =>
    have h := becomes_of_bufWord hr (c := .shaFinish e buf) rfl (shaFinish_done (by rw [hsel]; exact hc))
    rwa [bufDesc_selBuf _ _ hr.2.1, hsel] at h
  case waits => exact becomes_of_bufWord hr (c := .shaFinish e buf) rfl (shaFinish_waits (by rw [hsel]; exact hc))
  case done => exact becomes_of_eq hr (congrArg (next s fun _ => ·) (shaDone_idle hr.2.1 hf)) rfl

end Sys2Proof.Machine
end

section
/-! SUPPORT. Secure frames: what sending and taking frames leaves of secrets, stores and dictionary values, and how a frame of kinds 3 to 9 is
taken and acknowledged (R453, R533). -/

namespace Sys2Proof.Machine

/-! ## What the link leaves as it was -/

theorem LinkWorked.sec {a b : Device} (h : LinkWorked a b) : b.sec = a.sec := by
  obtain ⟨_, _, _, _, _, rfl, -⟩ := h
  rfl

theorem LinkWorked.kv {a b : Device} (h : LinkWorked a b) : b.kv = a.kv := by
  obtain ⟨_, _, _, _, _, rfl, -⟩ := h
  rfl

theorem LinkWorked.cipher {a b : Device} (h : LinkWorked a b) : b.cipher = a.cipher := by
  obtain ⟨_, _, _, _, _, rfl, -⟩ := h
  rfl

theorem LinkWorked.power {a b : Device} (h : LinkWorked a b) : b.power = a.power := by
  obtain ⟨_, _, _, _, _, rfl, -⟩ := h
  rfl

theorem LinkWorked.heldWrites {a b : Device} (h : LinkWorked a b) : b.dict.held = a.dict.held := by
  obtain ⟨_, _, _, _, _, rfl, -⟩ := h
  rfl

/-- Of the peer's part the link leaves the state, the meeting and the map keys. -/
theorem LinkWorked.peerState {a b : Device} (h : LinkWorked a b) : b.peer.st = a.peer.st ∧ b.peer.met = a.peer.met ∧
    b.peer.helloDone = a.peer.helloDone ∧ b.peer.mapKey = a.peer.mapKey ∧ b.peer.wrappedMapKey = a.peer.wrappedMapKey := by
  obtain ⟨_, _, _, _, _, rfl, -⟩ := h
  exact ⟨rfl, rfl, rfl, rfl, rfl⟩

@[simp] theorem sendLink_sec (m : LinkMsg) (d : Device) : (sendLink m d).sec = d.sec := (sendLink_linkWorked m d).sec

@[simp] theorem sendLink_kv (m : LinkMsg) (d : Device) : (sendLink m d).kv = d.kv := (sendLink_linkWorked m d).kv

@[simp] theorem sendLink_cipher (m : LinkMsg) (d : Device) : (sendLink m d).cipher = d.cipher := (sendLink_linkWorked m d).cipher

@[simp] theorem arrived_sec (h : FrameHdr) (cls : Nat) (d : Device) : (arrived h cls d).sec = d.sec := (arrived_linkWorked ..).sec

@[simp] theorem arrived_kv (h : FrameHdr) (cls : Nat) (d : Device) : (arrived h cls d).kv = d.kv := (arrived_linkWorked ..).kv

@[simp] theorem arrived_cipher (h : FrameHdr) (cls : Nat) (d : Device) : (arrived h cls d).cipher = d.cipher := (arrived_linkWorked ..).cipher

@[simp] theorem arrived_power (h : FrameHdr) (cls : Nat) (d : Device) : (arrived h cls d).power = d.power := (arrived_linkWorked ..).power

@[simp] theorem arrived_heldWrites (h : FrameHdr) (cls : Nat) (d : Device) : (arrived h cls d).dict.held = d.dict.held :=
  (arrived_linkWorked ..).heldWrites

/-! ## Dictionary values -/

/-- From `a` to `b` every value stays but the link's two counters of bytes, OD 0x2D00:08 and 09 (R453). -/
structure LinkCounted (a b : Device) : Prop where
  node : b.nodeId = a.nodeId
  value : ∀ idx sub sel, odKey idx sub sel ≠ odKey 0x2D00 8 0 → odKey idx sub sel ≠ odKey 0x2D00 9 0 → odSel idx sub sel b = odSel idx sub sel a

theorem LinkCounted.refl (a : Device) : LinkCounted a a := ⟨rfl, fun _ _ _ _ _ => rfl⟩

theorem LinkCounted.trans {a b c : Device} (h : LinkCounted a b) (k : LinkCounted b c) : LinkCounted a c :=
  ⟨k.node.trans h.node, fun i j l h8 h9 => (k.value i j l h8 h9).trans (h.value i j l h8 h9)⟩

theorem LinkCounted.of_eq {a b : Device} (hn : b.nodeId = a.nodeId) (hc : b.dict.cells = a.dict.cells) : LinkCounted a b :=
  ⟨hn, fun _ _ _ _ _ => by rw [odSel, odSel, hn, hc]⟩

theorem LinkCounted.foldl {α : Type} {f : Device → α → Device} (hf : ∀ d x, LinkCounted d (f d x)) (l : List α) (d : Device) :
    LinkCounted d (l.foldl f d) := by
  induction l generalizing d with
  | nil => exact .refl d
  | cons x l ih => exact (hf d x).trans (ih _)

/-- A value other than the link's counters stays. -/
theorem LinkCounted.odVal {a b : Device} (h : LinkCounted a b) {idx sub : Nat} (h8 : odKey idx sub 0 ≠ odKey 0x2D00 8 0)
    (h9 : odKey idx sub 0 ≠ odKey 0x2D00 9 0) : odVal idx sub b = odVal idx sub a := h.value idx sub 0 h8 h9

theorem odBump_linkCounted {sub : Nat} (h : sub = 8 ∨ sub = 9) (n : Nat) (d : Device) : LinkCounted d (odBump 0x2D00 sub n d) := by
  refine ⟨rfl, fun i j l h8 h9 => odSel_odPutSel_other _ d ?_⟩
  rcases h with rfl | rfl
  · exact h8
  · exact h9

theorem transmit_linkCounted (cls : Nat) (m : LinkMsg) (d : Device) : LinkCounted d (transmit cls m d) := by
  unfold transmit
  dsimp only
  refine .trans ?_ (odBump_linkCounted (.inl rfl) _ _)
  exact .of_eq rfl rfl

theorem sendLink_linkCounted (m : LinkMsg) (d : Device) : LinkCounted d (sendLink m d) := by
  unfold sendLink
  dsimp only
  split_ifs
  · exact .refl d
  · exact transmit_linkCounted ..
  · exact .of_eq rfl rfl

theorem takeAck_linkCounted (cls ack credit : Nat) (d : Device) : LinkCounted d (takeAck cls ack credit d) := by
  unfold takeAck drainWaiting
  dsimp only
  refine .trans ?_ (.foldl ?_ _ _)
  · exact .of_eq rfl rfl
  · intro d w
    exact sendLink_linkCounted w.2 d

theorem onClass_linkCounted (cls : Nat) (f : LinkClass → LinkClass) (d : Device) : LinkCounted d (onClass cls f d) := .of_eq rfl rfl

theorem arrived_linkCounted (h : FrameHdr) (cls : Nat) (d : Device) : LinkCounted d (arrived h cls d) := by
  unfold arrived
  dsimp only
  exact ((odBump_linkCounted (.inr rfl) _ d).trans (onClass_linkCounted ..)).trans (takeAck_linkCounted ..)

/-! ## Sending in a secure frame -/

/-- From `a` to `b` the link key, the count of secure frames sent and the link stay, and what was sent stays sent. -/
structure SecureWay (a b : Device) : Prop where
  key : b.sec.linkKey = a.sec.linkKey
  count : b.sec.sendCount = a.sec.sendCount
  link : b.peer.link = a.peer.link
  out : a.out <+: b.out

theorem SecureWay.refl (a : Device) : SecureWay a a := ⟨rfl, rfl, rfl, List.prefix_rfl⟩

theorem SecureWay.trans {a b c : Device} (h : SecureWay a b) (k : SecureWay b c) : SecureWay a c :=
  ⟨k.key.trans h.key, k.count.trans h.count, k.link.trans h.link, h.out.trans k.out⟩

theorem LinkWorked.secureWay {a b : Device} (h : LinkWorked a b) : SecureWay a b :=
  ⟨by rw [h.sec], by rw [h.sec], h.peer.1, h.out⟩

/-- The device once a secure frame has taken its number. -/
def secureCounted (d : Device) : Device := { d with sec := { d.sec with sendCount := d.sec.sendCount + 1 } }

theorem sendSecure_keyed {d : Device} (hk : d.sec.linkKey.isSome = true) (hl : linkPhysical d = true) (m : SecureMsg) :
    sendSecure m d = sendLink (.secure d.sec.sendCount m) (secureCounted d) := by
  obtain ⟨key, hk⟩ := Option.isSome_iff_exists.1 hk
  rw [sendSecure, hk, hl]
  rfl

/-- A secret leaves under the count that was next. -/
theorem sendSecure_linkSent {a d : Device} (w : SecureWay a d) (hk : a.sec.linkKey.isSome = true) (hl : linkPhysical a = true) (m : SecureMsg) :
    LinkSent a (sendSecure m d) (.secure a.sec.sendCount m) := by
  have hl' : linkPhysical d = true := (linkPhysical_congr w.link).trans hl
  rw [sendSecure_keyed (by rw [w.key]; exact hk) hl', w.count]
  exact sendLink_linkSent hl' w.out

/-- Sending a secret changes the count of secure frames, and works the link. -/
theorem sendSecure_linkWorked (m : SecureMsg) (d : Device) : ∃ n, LinkWorked { d with sec := { d.sec with sendCount := n } } (sendSecure m d) := by
  unfold sendSecure
  split_ifs
  · exact ⟨d.sec.sendCount, .refl d⟩
  · exact ⟨_, sendLink_linkWorked ..⟩

theorem sendSecure_linkCounted (m : SecureMsg) (d : Device) : LinkCounted d (sendSecure m d) := by
  unfold sendSecure
  split_ifs
  · exact .refl d
  · exact .trans (b := secureCounted d) (.of_eq rfl rfl) (sendLink_linkCounted _ (secureCounted d))

/-- Of the secrets, sending one changes the count of secure frames alone. -/
theorem sendSecure_sec (m : SecureMsg) (d : Device) : ∃ n, (sendSecure m d).sec = { d.sec with sendCount := n } := by
  obtain ⟨n, h⟩ := sendSecure_linkWorked m d
  exact ⟨n, h.sec⟩

@[simp] theorem sendSecure_recvCount (m : SecureMsg) (d : Device) : (sendSecure m d).sec.recvCount = d.sec.recvCount := by
  obtain ⟨n, h⟩ := sendSecure_sec m d
  rw [h]

@[simp] theorem sendSecure_linkKey (m : SecureMsg) (d : Device) : (sendSecure m d).sec.linkKey = d.sec.linkKey := by
  obtain ⟨n, h⟩ := sendSecure_sec m d
  rw [h]

@[simp] theorem sendSecure_owners (m : SecureMsg) (d : Device) : (sendSecure m d).sec.owners = d.sec.owners := by
  obtain ⟨n, h⟩ := sendSecure_sec m d
  rw [h]

@[simp] theorem sendSecure_kv (m : SecureMsg) (d : Device) : (sendSecure m d).kv = d.kv := by
  obtain ⟨n, h⟩ := sendSecure_linkWorked m d
  exact h.kv

@[simp] theorem sendSecure_cipher (m : SecureMsg) (d : Device) : (sendSecure m d).cipher = d.cipher := by
  obtain ⟨n, h⟩ := sendSecure_linkWorked m d
  exact h.cipher

theorem sendSecure_link (m : SecureMsg) (d : Device) : (sendSecure m d).peer.link = d.peer.link ∧ d.out <+: (sendSecure m d).out := by
  obtain ⟨n, h⟩ := sendSecure_linkWorked m d
  exact ⟨h.peer.1, h.out⟩

theorem sendSecure_mapKeys (m : SecureMsg) (d : Device) :
    (sendSecure m d).peer.mapKey = d.peer.mapKey ∧ (sendSecure m d).peer.wrappedMapKey = d.peer.wrappedMapKey := by
  obtain ⟨n, h⟩ := sendSecure_linkWorked m d
  exact ⟨h.peerState.2.2.2.1, h.peerState.2.2.2.2⟩

/-! ## A secure frame that is taken -/

/-- The device as the header and the count of a secure frame leave it. -/
def secureTaken (h : FrameHdr) (count : Nat) (d : Device) : Device :=
  { arrived h 2 d with sec := { (arrived h 2 d).sec with recvCount := count } }

theorem secureTaken_way (h : FrameHdr) (count : Nat) (d : Device) : SecureWay d (secureTaken h count d) :=
  .trans (arrived_linkWorked h 2 d).secureWay ⟨rfl, rfl, rfl, List.prefix_rfl⟩

@[simp] theorem secureTaken_sec (h : FrameHdr) (count : Nat) (d : Device) : (secureTaken h count d).sec = { d.sec with recvCount := count } := by
  rw [secureTaken, arrived_sec]

@[simp] theorem secureTaken_cipher (h : FrameHdr) (count : Nat) (d : Device) : (secureTaken h count d).cipher = d.cipher := arrived_cipher ..

@[simp] theorem secureTaken_kv (h : FrameHdr) (count : Nat) (d : Device) : (secureTaken h count d).kv = d.kv := arrived_kv ..

@[simp] theorem secureTaken_power (h : FrameHdr) (count : Nat) (d : Device) : (secureTaken h count d).power = d.power := arrived_power ..

@[simp] theorem secureTaken_side (h : FrameHdr) (count : Nat) (d : Device) : (secureTaken h count d).side = d.side := arrived_side ..

/-- A frame with a valid tag and a count above the last, under a link key, counts. -/
theorem acceptSecure_taken {h : FrameHdr} {count : Nat} {d : Device} (k : FrameTaken h 2 d) (hc : d.sec.recvCount < count)
    (hk : d.sec.linkKey.isSome = true) (f : Device → Device) : acceptSecure h count true f d = f (secureTaken h count d) := by
  obtain ⟨key, hk⟩ := Option.isSome_iff_exists.1 hk
  rw [acceptSecure, acceptFrame_taken k, if_neg (by simp [hk, hc])]
  rfl

/-- A stale or damaged frame, or one without a link key, is only logged. -/
theorem acceptSecure_refused {h : FrameHdr} {count : Nat} {ok : Bool} {d : Device} (k : FrameTaken h 2 d)
    (hr : ok = false ∨ count ≤ d.sec.recvCount ∨ d.sec.linkKey = none) (f : Device → Device) :
    acceptSecure h count ok f d = logEvent 0x1103 0x0072 2 0 (arrived h 2 d) := by
  rw [acceptSecure, acceptFrame_taken k, if_pos]
  rcases hr with rfl | hc | hn
  · rfl
  · simp [hc]
  · simp [hn]

/-- The frame with this count is acknowledged. -/
def Acknowledged (count : Nat) (d t : Device) : Prop := t.sec.recvCount = count ∧ LinkSent d t (.secure d.sec.sendCount (.ack count))

theorem ackSecure_acknowledged {count : Nat} {d u : Device} (hl : linkPhysical d = true) (hk : d.sec.linkKey.isSome = true) (w : SecureWay d u)
    (hc : u.sec.recvCount = count) : Acknowledged count d (ackSecure count u) :=
  ⟨(sendSecure_recvCount ..).trans hc, sendSecure_linkSent w hk hl _⟩

/-- A frame of kinds 3 to 9 that counts leaves what its function makes of the device. -/
theorem gives_secure {c : Instr} {s : State} {h : FrameHdr} {count : Nat} {f : Device → Device} {P : Device → Prop} (k : FrameTaken h 2 s.dev)
    (hc : s.dev.sec.recvCount < count) (hk : s.dev.sec.linkKey.isSome = true) (hx : exec c s = next s (acceptSecure h count true f))
    (hp : P (f (secureTaken h count s.dev))) : Gives c s P :=
  gives_of_eq hx (by rwa [acceptSecure_taken k hc hk])

end Sys2Proof.Machine
end

section
/-! SUPPORT. Shared tables, the handshake of the link and the secrets of the other peer, each frame on the device that its header leaves (R188,
R190, R527, R532, R533). -/

namespace Sys2Proof.Machine

/-! ## Shared tables (R188) -/

theorem tableSync_applied {idx sub entry : Nat} {value : Bytes} {d : Device}
    (hr : syncRefusal idx sub (if entry = 0xFFFFFFFF then 0 else entry) value d = none) : tableSync idx sub entry 0 value d =
      sendLink (.tableAck idx sub entry 0) (applyEntry idx sub (if entry = 0xFFFFFFFF then 0 else entry) value (crossHeld idx sub entry value d)) := by
  simp [tableSync, syncValue, hr]

theorem tableSync_refused {idx sub entry : Nat} {value : Bytes} {d : Device} {r : Nat × Device}
    (hr : syncRefusal idx sub (if entry = 0xFFFFFFFF then 0 else entry) value d = some r) :
    tableSync idx sub entry 0 value d = sendLink (.tableAck idx sub entry r.1) r.2 := by
  simp [tableSync, syncValue, hr]

/-- The device without the held write `w`. -/
def heldEnded (w : HeldWrite) (d : Device) : Device := { d with dict := { d.dict with held := d.dict.held.filter (· != w) } }

theorem tableAck_taken {idx sub entry : Nat} {w : HeldWrite} {d : Device}
    (hw : d.dict.held.find? (fun w => w.idx == idx && w.sub == sub && w.sel == entry && w.entry.isNone) = some w) (code : Nat) :
    tableAck idx sub entry code d =
      if code = 0 then answer w.reply idx sub .ok [] 0 0 (applyEntry idx sub (if entry = 0xFFFFFFFF then 0 else entry) w.data (heldEnded w d))
      else answer w.reply idx sub (.abort code) [] 0 0 (heldEnded w d) := by
  unfold tableAck
  rw [hw]
  by_cases h : code = 0 <;> simp [h, heldEnded]

/-! ## The handshake (R532) -/

/-- The device as a failed check of the handshake leaves it, before it acts on its failure. -/
def shakeLogged (check : Nat) (d : Device) : Device :=
  logEvent 0x1103 0x0072 2 check (odPut 0x3200 7 2 { d with sec := { d.sec with linkKey := none } })

theorem serving_congr {a b : Device} (hp : b.power = a.power) (hs : b.peer.st = a.peer.st) : serving b = serving a := by
  unfold serving isReady
  rw [hp, hs]

theorem shakeFailed_eq (check : Nat) (d : Device) :
    shakeFailed check d = if serving d then assertFence 4 (shakeLogged check d) else beRefused (shakeLogged check d) := rfl

theorem leads_shakeFailed {c : Instr} {s : State} {h : FrameHdr} {f : Device → Device} {check : Nat} {u : Device} (k : FrameTaken h 2 s.dev)
    (hx : exec c s = next s (acceptFrame h 2 f)) (hf : f (arrived h 2 s.dev) = shakeFailed check u) (hp : u.power = (arrived h 2 s.dev).power)
    (hs : u.peer.st = (arrived h 2 s.dev).peer.st) :
    Leads (fun v => if serving s.dev then assertFence 4 v else beRefused v) c s (Logged 0x1103 0x0072 2 check) := by
  have hw := arrived_linkWorked h 2 s.dev
  have hserv : serving u = serving s.dev := serving_congr (hp.trans hw.power) (hs.trans hw.peerState.1)
  refine leads_taken k hx (u := shakeLogged check u) ?_ (logEvent_logged ..)
  rw [hf, shakeFailed_eq, hserv]

/-- The device with the other peer's OFFER noted. -/
def offerNoted (m : OfferMsg) (ok : Bool) (d : Device) : Device := { d with sec := { d.sec with shake := { d.sec.shake with
  peerPub := m.pub, peerIdent := m.identity, peerDigest := m.ownerDigest
  peerBody := offerBody m.pub m.identity m.attestation m.ownerDigest, offerOk := ok } } }

/-- The attestation of an OFFER is valid (R525). -/
def attested (m : OfferMsg) : Bool :=
  ecdsaVerify Config.attestationKey (sha384 (m.identity ++ leBytes 4 Config.peerSerial.toNat)) m.attestation

theorem offer_eq (m : OfferMsg) (d : Device) : offer m d =
    if !attested m then shakeFailed 1 (offerNoted m false d)
    else if m.ownerDigest != ownerDigest d then shakeFailed 3 (offerNoted m false d)
    else sendFinish (offerNoted m true d) := rfl

theorem ownerDigest_congr {a b : Device} (h : b.sec.owners = a.sec.owners) : ownerDigest b = ownerDigest a := by
  unfold ownerDigest isOwned validOwners
  rw [h]

theorem shakeDigest_congr {a b : Device} (h : b.sec = a.sec) (hs : b.side = a.side) : shakeDigest b = shakeDigest a := by
  unfold shakeDigest ownOffer
  rw [ownerDigest_congr (congrArg SecState.owners h), h, hs]

theorem sendFinish_sent {a d : Device} (hl : linkPhysical d = true) (ho : a.out <+: d.out) :
    LinkSent a (sendFinish d) (.secure 0 (.finish (Config.identitySign (shakeDigest (sendFinish d))))) := by
  have hd : shakeDigest (sendFinish d) = shakeDigest d := shakeDigest_congr (sendLink_sec ..) (sendLink_side ..)
  rw [hd]
  exact sendLink_linkSent hl ho

/-- The device once the link key is established; HELLO follows. -/
def keyMade (key : Bytes) (d : Device) : Device := odPut 0x3200 7 1 { d with sec := { d.sec with linkKey := some key } }

/-- The link key that both peers derive (R533). -/
def linkKeyOf (d : Device) : Bytes := hkdf384 (ecdh d.sec.shake.draw d.sec.shake.peerPub) (linkSalt d) (ascii "MBT link") 32

/-- The device as FINISH leaves it before HELLO: the salts have gone out again where HELLO had been exchanged. -/
def saltsGiven (d : Device) : Device := if d.peer.helloDone then resendSalts d else d

theorem finish_eq (sig : Bytes) (d : Device) : finish sig d =
    if !d.sec.shake.offerOk then d
    else if !ecdsaVerify d.sec.shake.peerIdent (shakeDigest d) sig then shakeFailed 2 d
    else if d.cipher.alarm == 1 then d
    else sendHello (saltsGiven (keyMade (linkKeyOf d) d)) := rfl

theorem finish_signed {sig : Bytes} {d : Device} (ho : d.sec.shake.offerOk = true)
    (hv : ecdsaVerify d.sec.shake.peerIdent (shakeDigest d) sig = true) (ha : d.cipher.alarm ≠ 1) :
    finish sig d = sendHello (saltsGiven (keyMade (linkKeyOf d) d)) := by
  rw [finish_eq, ho, hv, beq_eq_false_iff_ne.2 ha]
  rfl

theorem finish_unsigned {sig : Bytes} {d : Device} (ho : d.sec.shake.offerOk = true)
    (hv : ecdsaVerify d.sec.shake.peerIdent (shakeDigest d) sig = false) : finish sig d = shakeFailed 2 d := by
  rw [finish_eq, ho, hv]
  rfl

theorem linkSalt_arrived (h : FrameHdr) (d : Device) : linkSalt (arrived h 2 d) = linkSalt d := by
  unfold linkSalt pairIdentity
  rw [(arrived_linkWorked h 2 d).peerState.2.1, (arrived_linkCounted h 2 d).odVal (by decide) (by decide)]

theorem linkKeyOf_arrived (h : FrameHdr) (d : Device) : linkKeyOf (arrived h 2 d) = linkKeyOf d := by
  rw [linkKeyOf, arrived_sec, linkSalt_arrived, linkKeyOf]

theorem resendSalts_linkKey (d : Device) : (resendSalts d).sec.linkKey = d.sec.linkKey := by
  unfold resendSalts
  refine foldl_eq_of_step (fun d => d.sec.linkKey) (fun d x => ?_) _ _
  exact sendSecure_linkKey ..

theorem resendSalts_link (d : Device) : (resendSalts d).peer.link = d.peer.link := by
  unfold resendSalts
  refine foldl_eq_of_step (fun d => d.peer.link) (fun d x => ?_) _ _
  exact (sendSecure_link ..).1

theorem resendSalts_out (d : Device) : d.out <+: (resendSalts d).out := (resendSalts_kept (.refl d)).out

theorem resendSalts_linkCounted (d : Device) : LinkCounted d (resendSalts d) := by
  unfold resendSalts
  refine .foldl (fun d x => ?_) _ _
  exact sendSecure_linkCounted ..

theorem saltsGiven_keeps (d : Device) : (saltsGiven d).sec.linkKey = d.sec.linkKey ∧ (saltsGiven d).peer.link = d.peer.link ∧
    d.out <+: (saltsGiven d).out ∧ LinkCounted d (saltsGiven d) := by
  unfold saltsGiven
  split_ifs
  · exact ⟨resendSalts_linkKey d, resendSalts_link d, resendSalts_out d, resendSalts_linkCounted d⟩
  · exact ⟨rfl, rfl, List.prefix_rfl, .refl d⟩

/-- The key is established, the dictionary says so, and HELLO leaves. -/
theorem finish_keyed {a d : Device} {sig : Bytes} (ho : d.sec.shake.offerOk = true)
    (hv : ecdsaVerify d.sec.shake.peerIdent (shakeDigest d) sig = true) (ha : d.cipher.alarm ≠ 1) (hl : linkPhysical d = true)
    (hp : a.out <+: d.out) : (finish sig d).sec.linkKey = some (linkKeyOf d) ∧ odVal 0x3200 7 (finish sig d) = 1 ∧
      ∃ m, LinkSent a (finish sig d) (.hello m) := by
  obtain ⟨hkey, hlink, hout, hval⟩ := saltsGiven_keeps (keyMade (linkKeyOf d) d)
  have hx : finish sig d = sendLink (.hello (helloMsg (saltsGiven (keyMade (linkKeyOf d) d)))) (saltsGiven (keyMade (linkKeyOf d) d)) :=
    finish_signed ho hv ha
  rw [hx]
  refine ⟨?_, ?_, _, sendLink_linkSent ((linkPhysical_congr hlink).trans hl) (hp.trans hout)⟩
  · rw [sendLink_sec, hkey]
    rfl
  · rw [(sendLink_linkCounted ..).odVal (by decide) (by decide), hval.odVal (by decide) (by decide)]
    exact odVal_odPut ..

/-! ## Keys, secrets and tables of the other peer (R187, R190, R265, R271, R322) -/

theorem answer_sec (r : ReplyTo) (idx sub : Nat) (st : OdStatus) (data : Bytes) (n size : Nat) (d : Device) :
    (answer r idx sub st data n size d).sec = d.sec := by
  have hc : ∀ q t st dw0 dw1 data, (complete q t st dw0 dw1 data d).sec = d.sec := fun q t st dw0 dw1 data => by
    obtain ⟨u, m, hu, he⟩ := complete_eq q t st dw0 dw1 data d
    obtain ⟨_, _, _, _, _, _, rfl, -⟩ := hu
    rw [he]
  cases r with
  | accessor a => cases st <;> cases a <;> rfl
  | completion q t b =>
    cases st with
    | ok => exact hc ..
    | abort c => exact hc ..
    | held => rfl

theorem secureAcked_counts (acked : Nat) (d : Device) :
    (secureAcked acked d).sec.recvCount = d.sec.recvCount ∧ (secureAcked acked d).sec.ackedCount = max acked d.sec.ackedCount := by
  unfold secureAcked
  dsimp only
  refine ⟨(foldl_eq_of_step (fun d => d.sec.recvCount) (fun d h => ?_) _ _).trans rfl,
    (foldl_eq_of_step (fun d => d.sec.ackedCount) (fun d h => ?_) _ _).trans rfl⟩
  · rw [answer_sec]
    split_ifs <;> rfl
  · rw [answer_sec]
    split_ifs <;> rfl

/-- No salt of this device stands against one of the other peer's: side B, not ready, or none of the domain (R190; log 230). -/
theorem takeSalt_free {dom : Nat} {value : Bytes} {d : Device} (h : d.side = 1 ∨ isReady d = false ∨ tblGet? d.kv.salts dom = none) :
    takeSalt dom value d = { d with kv := { d.kv with salts := tblPut d.kv.salts dom value } } := by
  unfold takeSalt
  rw [if_neg]
  rcases h with h | h | h
  · simp [h]
  · simp [h]
  · simp [h]

theorem takeSalt_way (dom : Nat) (value : Bytes) (d : Device) : SecureWay d (takeSalt dom value d) := by
  unfold takeSalt
  split_ifs
  · exact .refl d
  · exact ⟨rfl, rfl, rfl, List.prefix_rfl⟩

theorem takeSalt_sec (dom : Nat) (value : Bytes) (d : Device) : (takeSalt dom value d).sec = d.sec := by
  unfold takeSalt
  split_ifs <;> rfl

theorem slotOf_ackSecure (count slot : Nat) (u : Device) : slotOf slot (ackSecure count u) = slotOf slot u := by
  unfold slotOf ackSecure
  rw [sendSecure_cipher]

theorem putSlot_sec (n : Nat) (k : KeySlot) (d : Device) : (putSlot n k d).sec = d.sec := rfl

theorem putSlot_slotOf (n : Nat) (k : KeySlot) (d : Device) : slotOf n (putSlot n k d) = k := tblGetD_tblStore_same ..

theorem putSlot_way (n : Nat) (k : KeySlot) (d : Device) : SecureWay d (putSlot n k d) := ⟨rfl, rfl, rfl, List.prefix_rfl⟩

/-- The device with the values of table 0x2610 from entry `o` on, `f` of each in the list (R187). -/
def gearPut (f : Nat → Nat) (l : List Nat) (o : Nat) (d : Device) : Device := (l.zipIdx o).foldl (fun d x => odPutSel 0x2610 2 x.2 (f x.1) d) d

theorem gearPut_cons (f : Nat → Nat) (x : Nat) (l : List Nat) (o : Nat) (d : Device) :
    gearPut f (x :: l) o d = gearPut f l (o + 1) (odPutSel 0x2610 2 o (f x) d) := rfl

theorem gearPut_below {f : Nat → Nat} {l : List Nat} {o n : Nat} (hn : n < o) (hl : o + l.length ≤ 2 ^ 20) (d : Device) :
    odSel 0x2610 2 n (gearPut f l o d) = odSel 0x2610 2 n d := by
  induction l generalizing o d with
  | nil => rfl
  | cons x l ih =>
    rw [List.length_cons] at hl
    rw [gearPut_cons, ih (by omega) (by omega)]
    exact odSel_odPutSel_other _ _ (by unfold odKey; omega)

/-- Values in order from entry `o` on: each is read back where it was put. -/
theorem gearPut_value {f : Nat → Nat} {l : List Nat} {o n v : Nat} (hl : o + l.length ≤ 2 ^ 20) (hv : l[n]? = some v) (d : Device) :
    odSel 0x2610 2 (o + n) (gearPut f l o d) = f v := by
  induction l generalizing o n d with
  | nil => simp at hv
  | cons x l ih =>
    rw [List.length_cons] at hl
    rw [gearPut_cons]
    cases n with
    | zero =>
      obtain rfl : x = v := by simpa using hv
      rw [Nat.add_zero, gearPut_below (by omega) (by omega)]
      exact odSel_odPutSel ..
    | succ n =>
      have := ih (o := o + 1) (by omega) (by simpa using hv) (odPutSel 0x2610 2 o (f x) d)
      rwa [show o + 1 + n = o + (n + 1) by omega] at this

/-- From `a` to `b` the frames, secrets and outputs stay, and every dictionary value. -/
structure ValuesAsSent (a b : Device) : Prop where
  way : SecureWay a b
  recvCount : b.sec.recvCount = a.sec.recvCount
  node : b.nodeId = a.nodeId
  cells : b.dict.cells = a.dict.cells

theorem clearSlots_valuesAsSent (l : List Nat) (d : Device) : ValuesAsSent d (l.foldl (fun d n => clearSlot n d) d) := by
  induction l generalizing d with
  | nil => exact ⟨.refl d, rfl, rfl, rfl⟩
  | cons n l ih =>
    obtain ⟨w, r, i, c⟩ := ih (clearSlot n d)
    exact ⟨(putSlot_way ..).trans w, r, i, c⟩

theorem persist_valuesAsSent (d : Device) : ValuesAsSent d (persist d) := by
  obtain ⟨x, y, h⟩ := persist_eq d
  rw [h]
  exact ⟨⟨rfl, rfl, rfl, List.prefix_rfl⟩, rfl, rfl, rfl⟩

theorem ValuesAsSent.odSel {a b : Device} (h : ValuesAsSent a b) (idx sub sel : Nat) : odSel idx sub sel b = odSel idx sub sel a := by
  rw [Machine.odSel, Machine.odSel, h.node, h.cells]

theorem gearPut_frame (f : Nat → Nat) (l : List Nat) (o : Nat) (d : Device) :
    (gearPut f l o d).sec = d.sec ∧ (gearPut f l o d).peer = d.peer ∧ (gearPut f l o d).out = d.out := by
  induction l generalizing o d with
  | nil => exact ⟨rfl, rfl, rfl⟩
  | cons x l ih => exact ih (o + 1) _

/-- The device with both tables put, before the generation. -/
def gearAdopted (entries : List Nat) (d : Device) : Device :=
  let d := gearPut (· % 2 ^ 48) (entries.take 512) 0 d
  let d := d.peer.stale.foldl (fun d n => clearSlot n d) d
  { d with peer := { d.peer with stale := [], returning := if d.peer.returning == 3 then 0 else d.peer.returning } }

theorem takeGear_eq (gen : Nat) (entries : List Nat) (d : Device) :
    takeGear gen entries d = persist (bumpVersion 0x2610 (odPut 0x2600 6 gen (gearAdopted entries d))) := rfl

theorem gearAdopted_way (entries : List Nat) (d : Device) :
    SecureWay d (gearAdopted entries d) ∧ (gearAdopted entries d).sec.recvCount = d.sec.recvCount := by
  obtain ⟨hs, hp, ho⟩ := gearPut_frame (· % 2 ^ 48) (entries.take 512) 0 d
  obtain ⟨⟨hk, hc, hl, hout⟩, hr, -, -⟩ := clearSlots_valuesAsSent (gearPut (· % 2 ^ 48) (entries.take 512) 0 d).peer.stale (gearPut (· % 2 ^ 48) (entries.take 512) 0 d)
  exact ⟨⟨hk.trans (by rw [hs]), hc.trans (by rw [hs]), hl.trans (by rw [hp]), ho ▸ hout⟩, hr.trans (by rw [hs])⟩

theorem gearAdopted_value {entries : List Nat} {n v : Nat} (hn : n < 512) (hv : entries[n]? = some v) (d : Device) :
    odSel 0x2610 2 n (gearAdopted entries d) = v % 2 ^ 48 := by
  have hs := (clearSlots_valuesAsSent (gearPut (· % 2 ^ 48) (entries.take 512) 0 d).peer.stale (gearPut (· % 2 ^ 48) (entries.take 512) 0 d)).odSel 0x2610 2 n
  have hlen : (entries.take 512).length ≤ 512 := List.length_take_le ..
  have hput := gearPut_value (f := (· % 2 ^ 48)) (l := entries.take 512) (o := 0) (n := n) (by omega) (by rw [List.getElem?_take_of_lt hn]; exact hv) d
  rw [Nat.zero_add] at hput
  exact hs.trans hput

theorem takeGear_way (gen : Nat) (entries : List Nat) (d : Device) :
    SecureWay d (takeGear gen entries d) ∧ (takeGear gen entries d).sec.recvCount = d.sec.recvCount := by
  obtain ⟨w, r⟩ := gearAdopted_way entries d
  obtain ⟨pw, pr, -, -⟩ := persist_valuesAsSent (bumpVersion 0x2610 (odPut 0x2600 6 gen (gearAdopted entries d)))
  exact ⟨w.trans ⟨pw.key, pw.count, pw.link, pw.out⟩, pr.trans r⟩

theorem takeGear_values (gen : Nat) (entries : List Nat) (d : Device) : odVal 0x2600 6 (takeGear gen entries d) = gen ∧
    ∀ n v, n < 512 → entries[n]? = some v → odSel 0x2610 2 n (takeGear gen entries d) = v % 2 ^ 48 := by
  have hp := persist_valuesAsSent (bumpVersion 0x2610 (odPut 0x2600 6 gen (gearAdopted entries d)))
  refine ⟨(hp.odSel 0x2600 6 0).trans (odVal_odPut ..), fun n v hn hv => (hp.odSel 0x2610 2 n).trans ?_⟩
  exact (odSel_odPutSel_other gen _ (by unfold odKey; omega)).trans (gearAdopted_value hn hv d)

/-- The slot is no longer one that a return has left stale. -/
def staleEnded (slot : Nat) (d : Device) : Device := { d with peer := { d.peer with stale := d.peer.stale.filter (· != slot) } }

theorem staleEnded_sec (slot : Nat) (d : Device) : (staleEnded slot d).sec = d.sec := rfl

theorem staleEnded_way (slot : Nat) (d : Device) : SecureWay d (staleEnded slot d) := ⟨rfl, rfl, rfl, List.prefix_rfl⟩

theorem takeSlotKey_alarmed {slot tenant keygen key : Nat} {d : Device} (h : d.cipher.alarm ≠ 0) : takeSlotKey slot tenant keygen key d =
    putSlot slot { slotOf slot d with
      freshDue := true, before := .active, tenant := tenant, keygen := keygen, stored := some key, wrapped := true } (staleEnded slot d) := by
  unfold takeSlotKey
  dsimp only
  rw [if_pos (bne_iff_ne.2 h)]
  rfl

/-- The slot as a SLOT_KEY that no alarm refuses leaves it. -/
def slotLoaded (tenant keygen key : Nat) (k : KeySlot) : KeySlot :=
  let same := k.keygen == keygen
  { KeySlot.blank with
    st := if same && k.st == .decryptOnly then .decryptOnly else .active
    tenant := tenant, keygen := keygen, wrapped := true, key := some key, stored := some key
    counterA := if same then k.counterA else 0, counterB := if same then k.counterB else 0
    limitA := if same then k.limitA else 0, limitB := if same then k.limitB else 0 }

theorem takeSlotKey_loaded {slot tenant keygen key : Nat} {d : Device} (h : d.cipher.alarm = 0) : takeSlotKey slot tenant keygen key d =
    recordLimit slot (putSlot slot (slotLoaded tenant keygen key (slotOf slot d)) (staleEnded slot d)) := by
  unfold takeSlotKey
  dsimp only
  rw [if_neg (by rw [h]; decide)]
  rfl

/-! ## Owner records (R526 to R530) -/

theorem ownerRecord_blank {n : Nat} {key secret : Bytes} {count : Nat} {d : Device} (h1 : 1 ≤ n) (h15 : n ≤ 15)
    (hb : (ownerOf n d).st = .blank) (hw : d.sec.otpWorks = true) :
    ownerRecord n key secret count d = ackSecure count (ownerEnrolled n key secret d) := by
  have hn : ¬ 0x80 ≤ n := by omega
  simp only [ownerRecord, if_neg hn, programOwner, hb, hw, h1, h15, decide_true, Bool.and_self, if_true]
  have hz : (n == 0 || decide (15 < n)) = false := by simp; omega
  rw [hz]
  rfl

theorem ownerRecord_known {n : Nat} {key secret : Bytes} {count : Nat} {d : Device} (h1 : 1 ≤ n) (h15 : n ≤ 15)
    (hv : (ownerOf n d).st = .valid) (hk : (ownerOf n d).key = key) (hs : (ownerOf n d).secret = secret) :
    ownerRecord n key secret count d = ackSecure count d := by
  have hn : ¬ 0x80 ≤ n := by omega
  have hz : (n == 0 || decide (15 < n)) = false := by simp; omega
  simp [ownerRecord, hn, hz, hv, hk, hs]

theorem ownerRecord_spent {n : Nat} {key secret : Bytes} {count : Nat} {d : Device} (h1 : 1 ≤ n) (h15 : n ≤ 15)
    (hs : (ownerOf n d).st = .spent) : ownerRecord n key secret count d = sendSecure (.ownerRecord (ownerBody (0x80 + n) [] [])) d := by
  have hn : ¬ 0x80 ≤ n := by omega
  have hz : (n == 0 || decide (15 < n)) = false := by simp; omega
  simp [ownerRecord, hn, hz, hs]

theorem ownerEnrolled_owner {n : Nat} {key secret : Bytes} {d : Device} (h1 : 1 ≤ n) (hl : n ≤ d.sec.owners.length) :
    ownerOf n (ownerEnrolled n key secret d) = ⟨.valid, key, secret⟩ := by
  show (d.sec.owners.set (n - 1) _).getD (n - 1) _ = _
  simp [List.getD_eq_getElem?_getD, show n - 1 < d.sec.owners.length by omega]

theorem ownerEnrolled_way (n : Nat) (key secret : Bytes) (d : Device) : SecureWay d (ownerEnrolled n key secret d) :=
  ⟨rfl, rfl, rfl, List.prefix_rfl⟩

theorem ownerEnrolled_recvCount (n : Nat) (key secret : Bytes) (d : Device) :
    (ownerEnrolled n key secret d).sec.recvCount = d.sec.recvCount := rfl

theorem ownerOf_congr {a b : Device} (h : b.sec.owners = a.sec.owners) (n : Nat) : ownerOf n b = ownerOf n a := by rw [ownerOf, ownerOf, h]

end Sys2Proof.Machine
end

section
/-! SUPPORT. O33: tables, handshake and secrets, frame by frame (R76, R187, R188, R190, R259, R457, R526 to R529, R532, R533). -/

namespace Sys2Proof.Machine

section
variable {s : State} {h : FrameHdr} {count slot tenant keygen key : Nat}

/-- Under an alarm the key is kept for the reload, and the frame acknowledged (R271). -/
theorem gives_slotKey_alarmed (k : FrameTaken h 2 s.dev) (hc : s.dev.sec.recvCount < count) (hk : s.dev.sec.linkKey.isSome = true) (hs : slot < 4096)
    (ha : s.dev.cipher.alarm ≠ 0) : Gives (.slotKey h count true slot tenant keygen key) s fun t => Acknowledged count s.dev t ∧
      (slotOf slot t).tenant = tenant ∧ (slotOf slot t).keygen = keygen ∧ (slotOf slot t).stored = some key ∧ (slotOf slot t).freshDue = true := by
  let u := secureTaken h count s.dev
  have hx := takeSlotKey_alarmed (slot := slot) (tenant := tenant) (keygen := keygen) (key := key) (d := u) (by rwa [secureTaken_cipher])
  refine gives_secure k hc hk rfl ?_
  rw [if_neg (not_le.2 hs)]
  refine ⟨ackSecure_acknowledged k.1 hk ?_ ?_, ?_⟩
  · rw [hx]
    exact (secureTaken_way h count s.dev).trans ((staleEnded_way slot u).trans (putSlot_way ..))
  · rw [hx, putSlot_sec, staleEnded_sec, secureTaken_sec]
  · rw [slotOf_ackSecure, hx, putSlot_slotOf]
    exact ⟨rfl, rfl, rfl, rfl⟩

/-- Without an alarm the slot takes the key before its limit is recorded and the frame acknowledged. -/
theorem leads_slotKey_loaded (k : FrameTaken h 2 s.dev) (hc : s.dev.sec.recvCount < count) (hk : s.dev.sec.linkKey.isSome = true) (hs : slot < 4096)
    (ha : s.dev.cipher.alarm = 0) : Leads (fun v => ackSecure count (recordLimit slot v)) (.slotKey h count true slot tenant keygen key) s fun v =>
      (slotOf slot v).tenant = tenant ∧ (slotOf slot v).keygen = keygen ∧ (slotOf slot v).key = some key ∧ (slotOf slot v).stored = some key := by
  let u := secureTaken h count s.dev
  have hx := takeSlotKey_loaded (slot := slot) (tenant := tenant) (keygen := keygen) (key := key) (d := u) (by rwa [secureTaken_cipher])
  refine leads_of_eq (g := acceptSecure h count true fun d => if 4096 ≤ slot then d else ackSecure count (takeSlotKey slot tenant keygen key d)) rfl
    (u := putSlot slot (slotLoaded tenant keygen key (slotOf slot u)) (staleEnded slot u)) ?_ ?_
  · rw [acceptSecure_taken k hc hk, if_neg (not_le.2 hs), hx]
  · rw [putSlot_slotOf]
    exact ⟨rfl, rfl, rfl, rfl⟩

end

/-- Settles O33: tables by `tableSync` and `tableAck`, the handshake by its checks in order, secrets by what each leaves before its
acknowledgement. -/
theorem tablesAndKeys : Obligations.TablesAndKeys := by
  unfold Obligations.TablesAndKeys
  intro s h k
  have hl := arrived_linkPhysical k
  have hout := (arrived_linkWorked h 2 s.dev).out
  refine ⟨fun idx sub entry value => ⟨fun hr => ?applied, fun r hr hp => ?refused⟩, fun idx sub entry code w hw => ⟨fun h0 => ?acked, fun h0 => ?aborted⟩,
    fun m => ⟨fun ha ho => ?offer, fun ha => ?unattested, fun ha ho => ?foreign⟩, fun sig ho => ⟨fun hv ha => ?finish, fun hv => ?unsigned⟩,
    fun count ok hr c x hx => ?stale, fun count hc hk => ⟨fun key => ?mapKey, fun secret => ?hashSecret, fun dom value => ?salt,
      fun gen entries => ?gear, fun slot tenant keygen key hs ha => ?slotAlarmed, fun slot tenant keygen key hs ha => ?slotLoaded, fun acked => ?ack,
      fun n key secret h1 h15 hn => ⟨fun hb hw => ?ownerBlank, fun hv hkey hsecret => ?ownerKnown, fun hs => ?ownerSpent⟩⟩⟩
  case applied => exact leads_taken k rfl (tableSync_applied hr) rfl
  case refused =>
    refine gives_taken k rfl ?_
    rw [tableSync_refused hr]
    exact sendLink_linkSent hp List.prefix_rfl
  case acked =>
    have hw' : (arrived h 2 s.dev).dict.held.find? _ = some w := (congrArg _ (arrived_heldWrites h 2 s.dev)).trans hw
    refine leads_taken k rfl (u := heldEnded w (arrived h 2 s.dev)) (by rw [tableAck_taken hw', if_pos h0]) ?_
    exact congrArg (List.filter (· != w)) (arrived_heldWrites h 2 s.dev)
  case aborted =>
    have hw' : (arrived h 2 s.dev).dict.held.find? _ = some w := (congrArg _ (arrived_heldWrites h 2 s.dev)).trans hw
    refine leads_taken k rfl (u := heldEnded w (arrived h 2 s.dev)) (by rw [tableAck_taken hw', if_neg h0]) ?_
    exact congrArg (List.filter (· != w)) (arrived_heldWrites h 2 s.dev)
  case offer =>
    have hd : ownerDigest (arrived h 2 s.dev) = ownerDigest s.dev := ownerDigest_congr (by rw [arrived_sec])
    refine gives_taken k rfl ?_
    rw [offer_eq, show attested m = true from ha, hd, ho, bne_self_eq_false, Bool.not_true, if_neg Bool.false_ne_true, if_neg Bool.false_ne_true]
    have hs : (sendFinish (offerNoted m true (arrived h 2 s.dev))).sec = (offerNoted m true (arrived h 2 s.dev)).sec := sendLink_sec ..
    exact ⟨by rw [hs]; rfl, by rw [hs]; rfl, by rw [hs]; rfl, sendFinish_sent hl hout⟩
  case unattested =>
    refine leads_shakeFailed k rfl (u := offerNoted m false (arrived h 2 s.dev)) ?_ rfl rfl
    rw [offer_eq, show attested m = false from ha]
    rfl
  case foreign =>
    have hd : ownerDigest (arrived h 2 s.dev) = ownerDigest s.dev := ownerDigest_congr (by rw [arrived_sec])
    refine leads_shakeFailed k rfl (u := offerNoted m false (arrived h 2 s.dev)) ?_ rfl rfl
    rw [offer_eq, show attested m = true from ha, hd, bne_iff_ne.2 ho]
    rfl
  case finish =>
    have hd : shakeDigest (arrived h 2 s.dev) = shakeDigest s.dev := shakeDigest_congr (arrived_sec ..) (arrived_side ..)
    refine gives_taken k rfl ?_
    have hf := finish_keyed (a := s.dev) (d := arrived h 2 s.dev) (sig := sig) (by rw [arrived_sec]; exact ho)
      (by rw [hd, arrived_sec]; exact hv) (by rw [arrived_cipher]; exact ha) hl hout
    rwa [linkKeyOf_arrived] at hf
  case unsigned =>
    have hd : shakeDigest (arrived h 2 s.dev) = shakeDigest s.dev := shakeDigest_congr (arrived_sec ..) (arrived_side ..)
    exact leads_shakeFailed k rfl (finish_unsigned (by rw [arrived_sec]; exact ho) (by rw [hd, arrived_sec]; exact hv)) rfl rfl
  case stale =>
    have logged : ∀ f, exec c s = next s (acceptSecure h count ok f) → Gives c s fun t =>
        Logged 0x1103 0x0072 2 0 t ∧ t.peer = (arrived h 2 s.dev).peer ∧ t.kv = s.dev.kv := fun f hf =>
      gives_of_eq hf (by rw [acceptSecure_refused k hr]; exact ⟨logEvent_logged .., rfl, arrived_kv ..⟩)
    rcases hx with rfl | rfl | rfl
    · exact logged _ rfl
    · exact logged _ rfl
    · exact logged _ rfl
  all_goals have hway := secureTaken_way h count s.dev
  all_goals have hsec := secureTaken_sec h count s.dev
  case mapKey =>
    refine gives_secure k hc hk rfl ⟨ackSecure_acknowledged k.1 hk (hway.trans ⟨rfl, rfl, rfl, List.prefix_rfl⟩) (by rw [hsec]), ?_⟩
    exact sendSecure_mapKeys ..
  case hashSecret =>
    refine gives_secure k hc hk rfl ⟨ackSecure_acknowledged k.1 hk (hway.trans ⟨rfl, rfl, rfl, List.prefix_rfl⟩) (by rw [hsec]), ?_⟩
    rw [ackSecure, sendSecure_kv]
  case salt =>
    refine gives_secure k hc hk rfl ⟨ackSecure_acknowledged k.1 hk (hway.trans (takeSalt_way ..)) (by rw [takeSalt_sec, hsec]), fun hfree => ?_⟩
    rw [ackSecure, sendSecure_kv, takeSalt_free (by rwa [secureTaken_side, secureTaken_kv, isReady, secureTaken_power])]
    exact tblGet?_tblPut_same ..
  case gear =>
    obtain ⟨w, r⟩ := takeGear_way gen entries (secureTaken h count s.dev)
    obtain ⟨hgen, hval⟩ := takeGear_values gen entries (secureTaken h count s.dev)
    have hq := sendSecure_linkCounted (.ack count) (takeGear gen entries (secureTaken h count s.dev))
    refine gives_secure k hc hk rfl ⟨ackSecure_acknowledged k.1 hk (hway.trans w) (by rw [r, hsec]), ?_, fun n v hn hv => ?_⟩
    · exact (hq.odVal (by decide) (by decide)).trans hgen
    · exact (hq.value _ _ _ (by unfold odKey; omega) (by unfold odKey; omega)).trans (hval n v hn hv)
  case slotAlarmed => exact gives_slotKey_alarmed k hc hk hs ha
  case slotLoaded => exact leads_slotKey_loaded k hc hk hs ha
  case ack =>
    refine gives_secure k hc hk rfl ?_
    obtain ⟨hr, ha⟩ := secureAcked_counts acked (secureTaken h count s.dev)
    rw [hr, ha, hsec]
    exact ⟨rfl, rfl⟩
  all_goals have hown : ownerOf n (secureTaken h count s.dev) = ownerOf n s.dev := ownerOf_congr (by rw [hsec]) n
  case ownerBlank =>
    refine gives_secure k hc hk rfl ?_
    rw [ownerRecord_blank h1 h15 (by rw [hown]; exact hb) (by rw [hsec]; exact hw)]
    refine ⟨ackSecure_acknowledged k.1 hk (hway.trans (ownerEnrolled_way ..)) (by rw [ownerEnrolled_recvCount, hsec]), ?_⟩
    exact (ownerOf_congr (sendSecure_owners ..) n).trans (ownerEnrolled_owner h1 (by rw [hsec]; exact hn))
  case ownerKnown =>
    refine gives_secure k hc hk rfl ?_
    rw [ownerRecord_known h1 h15 (by rw [hown]; exact hv) (by rw [hown]; exact hkey) (by rw [hown]; exact hsecret)]
    exact ackSecure_acknowledged k.1 hk hway (by rw [hsec])
  case ownerSpent =>
    refine gives_secure k hc hk rfl ?_
    rw [ownerRecord_spent h1 h15 (by rw [hown]; exact hs)]
    exact sendSecure_linkSent hway hk k.1 _

end Sys2Proof.Machine
end

section
/-! SUPPORT. Chunks and blocks at their owner: what an entry says after a change, and what claims, counts and presence leave of the link (R193,
R196, R198, R203 to R205). -/

namespace Sys2Proof.Machine

/-! ## The entry that a change changes -/

/-- The first element picked, once those picked are changed by `f` and stay picked, is the first one changed. -/
theorem find?_map_picked {α : Type} {p : α → Bool} {f : α → α} (hf : ∀ x, p x = true → p (f x) = true) (l : List α) :
    (l.map fun x => if p x then f x else x).find? p = (l.find? p).map f := by
  have hp : (p ∘ fun x => if p x then f x else x) = p := by
    funext x
    by_cases h : p x = true
    · simp [h, hf x h]
    · simp [h]
  rw [List.find?_map, hp]
  cases h : l.find? p with
  | none => rfl
  | some x => simp [List.find?_some h]

theorem copyOf_onCopy {dom num : Nat} {fp : Bytes} {f : Copy → Copy} (hf : ∀ c, isCopy dom fp num (f c) = isCopy dom fp num c) (d : Device) :
    copyOf dom fp num (onCopy dom fp num f d) = (copyOf dom fp num d).map f :=
  find?_map_picked (fun c h => (hf c).trans h) _

theorem blockOf_onBlock {m : MemberDesc} {f : Block → Block} (hf : ∀ b, isBlock m (f b) = isBlock m b) (d : Device) :
    blockOf m (onBlock m f d) = (blockOf m d).map f :=
  find?_map_picked (fun b h => (hf b).trans h) _

theorem copyOf_congr {a b : Device} (h : b.kv = a.kv) (dom : Nat) (fp : Bytes) (num : Nat) : copyOf dom fp num b = copyOf dom fp num a := by
  rw [copyOf, copyOf, h]

theorem blockOf_congr {a b : Device} (h : b.map = a.map) (m : MemberDesc) : blockOf m b = blockOf m a := by rw [blockOf, blockOf, h]

/-! ## The hot set (R229) -/

theorem hotInsert_peer (domain : Nat) (fp : Bytes) (copy : Nat) (d : Device) : (hotInsert domain fp copy d).peer = d.peer := by
  unfold hotInsert
  split
  · rfl
  · dsimp only
    split_ifs <;> rfl

theorem hotInsert_kv (domain : Nat) (fp : Bytes) (copy : Nat) (d : Device) : (hotInsert domain fp copy d).kv = d.kv := by
  unfold hotInsert
  split
  · rfl
  · dsimp only
    split_ifs <;> rfl

/-! ## Claims (R196) -/

/-- A claim counted, and its fingerprint in the hot set: of copies and peer nothing changes yet. -/
def claimCounted (dom : Nat) (fp : Bytes) (num : Nat) (d : Device) : Device :=
  odBump 0x2600 9 1 (hotInsert dom fp num (if hotLocates dom fp num d then odBump 0x2600 0x0B 1 d else odBump 0x2600 0x0C 1 d))

theorem claimCounted_peer (dom : Nat) (fp : Bytes) (num : Nat) (d : Device) : (claimCounted dom fp num d).peer = d.peer := by
  refine (hotInsert_peer ..).trans ?_
  split_ifs <;> rfl

theorem claimCounted_kv (dom : Nat) (fp : Bytes) (num : Nat) (d : Device) : (claimCounted dom fp num d).kv = d.kv := by
  refine (hotInsert_kv ..).trans ?_
  split_ifs <;> rfl

/-- The claim of `who` on a copy. -/
def Copy.claimed (who : Bool × Nat) (c : Copy) : Copy := { c with refs := c.refs + 1, claimants := c.claimants ++ [who] }

/-- A claim that does not pin its copy only counts there. -/
theorem claimAt_hit {dom : Nat} {fp : Bytes} {who : Bool × Nat} {c : Copy} {d : Device} (h : matchableCopy dom fp d = some c)
    (hr : c.refs + 1 ≠ refMax) : claimAt dom fp who d =
      (⟨false, c.num, c.present⟩, onCopy dom fp c.num (Copy.claimed who) (claimCounted dom fp c.num d)) := by
  unfold claimAt
  rw [h]
  simp only [beq_eq_false_iff_ne.2 hr, Bool.false_eq_true, if_false]
  rfl

/-- A device with a new copy claimed by `who`. -/
def copyClaimed (dom : Nat) (fp : Bytes) (num : Nat) (who : Bool × Nat) (d : Device) : Device :=
  hotInsert dom fp num (addCopy { newCopy dom fp num with claimants := [who] } (odBump 0x2600 0x0A 1 (odBump 0x2600 0x0C 1 d)))

theorem claimAt_new {dom : Nat} {fp : Bytes} {who : Bool × Nat} {d : Device} (h : matchableCopy dom fp d = none) :
    claimAt dom fp who d = (⟨true, lowestCopy dom fp d, false⟩, copyClaimed dom fp (lowestCopy dom fp d) who d) := by
  unfold claimAt
  rw [h]
  rfl

theorem copyClaimed_kv (dom : Nat) (fp : Bytes) (num : Nat) (who : Bool × Nat) (d : Device) : (copyClaimed dom fp num who d).kv =
    { d.kv with copies := d.kv.copies ++ [{ newCopy dom fp num with claimants := [who] }] } := hotInsert_kv ..

theorem claimAt_out (dom : Nat) (fp : Bytes) (who : Bool × Nat) (d : Device) : d.out <+: (claimAt dom fp who d).2.out :=
  (claimAt_kept (.refl d)).out

/-! ## Counts, deaths and presence leave the link -/

theorem settleSalt_peer (dom : Nat) (d : Device) : (settleSalt dom d).peer = d.peer := by
  unfold settleSalt
  split_ifs <;> rfl

theorem killCopy_peerLink (c : Copy) (d : Device) : (killCopy c d).peer.link = d.peer.link := by
  have hb : (buryCopy c d).peer.link = d.peer.link := (invalidateCopy_peerLink ..).trans (congrArg PeerState.link (hotRemove_peer ..))
  unfold killCopy
  dsimp only
  rw [settleSalt_peer, touchMap_peer]
  exact hb

theorem decrementAt_peerLink (dom : Nat) (fp : Bytes) (num : Nat) (d : Device) : (decrementAt dom fp num d).peer.link = d.peer.link := by
  unfold decrementAt
  split
  · rfl
  · split_ifs
    · rfl
    · exact killCopy_peerLink ..
    · exact congrArg PeerState.link (touchMap_peer ..)

/-- One reference of several fewer: the count falls and is recorded. -/
theorem decrementAt_counted {dom num : Nat} {fp : Bytes} {c : Copy} {d : Device} (h : copyOf dom fp num d = some c) (hp : c.pinned = false)
    (hd : c.dead = false) (hr : 2 ≤ c.refs) : decrementAt dom fp num d = touchMap 3 (chunkKey dom fp num)
      (recordCopy { c with refs := c.refs - 1 } (onCopy dom fp num (fun c => { c with refs := c.refs - 1 }) d)) := by
  have h0 : (c.refs == 0) = false := by simp; omega
  have h1 : (c.refs == 1) = false := by simp; omega
  unfold decrementAt
  rw [h]
  simp only [hp, hd, h0, h1, Bool.or_self, Bool.false_eq_true, if_false]

theorem releaseAt_peerLink (dom : Nat) (fp : Bytes) (num : Nat) (who : Bool × Nat) (d : Device) :
    (releaseAt dom fp num who d).peer.link = d.peer.link := by
  unfold releaseAt
  split
  · rfl
  · dsimp only
    split_ifs
    · rfl
    · exact killCopy_peerLink ..
    · exact congrArg PeerState.link ((settleSalt_peer ..).trans (hotRemove_peer ..))
    · rfl
    · split
      · rfl
      · split_ifs
        · rfl
        · exact sendLink_peerLink ..

/-- The copy is stored, before its claimants learn it. -/
def copyStored (dom : Nat) (fp : Bytes) (num : Nat) (d : Device) : Device := onCopy dom fp num (fun c => { c with present := true }) d

theorem presentAt_keeps (dom : Nat) (fp : Bytes) (num : Nat) (d : Device) : (presentAt dom fp num d).peer.link = d.peer.link ∧
    ∀ c, copyOf dom fp num d = some c → ∃ c', copyOf dom fp num (presentAt dom fp num d) = some c' ∧ c'.present = true := by
  unfold presentAt
  split
  next h => exact ⟨rfl, fun c hc => absurd (h.symm.trans hc) (by simp)⟩
  next c h =>
    dsimp only
    split_ifs with hp
    · exact ⟨rfl, fun _ _ => ⟨c, h, hp⟩⟩
    · refine ⟨foldl_eq_of_step (fun d => d.peer.link) (fun d w => sendLink_peerLink _ d) _ (copyStored dom fp num d), fun _ _ => ?_⟩
      have hk := foldl_eq_of_step Device.kv (fun d (w : Bool × Nat) => sendLink_kv (.fpReply w.2 1 true num c.extents) d)
        (c.claimants.filter fun w => !w.1) (copyStored dom fp num d)
      refine ⟨{ c with present := true }, (copyOf_congr hk dom fp num).trans ?_, rfl⟩
      exact (copyOf_onCopy (f := fun c => { c with present := true }) (fun _ => rfl) d).trans (congrArg (Option.map _) h)

theorem presentAt_out (dom : Nat) (fp : Bytes) (num : Nat) (d : Device) : d.out <+: (presentAt dom fp num d).out := (presentAt_kept (.refl d)).out

theorem isCopy_fillEntry (m : PresentMsg) (d : Device) (c : Copy) : isCopy m.domain m.fp m.copy (fillEntry m d c) = isCopy m.domain m.fp m.copy c := by
  unfold fillEntry
  split_ifs
  · rfl
  · split <;> rfl

/-! ## Invalidations of the other peer (R203, R207) -/

/-- The location of a copy is forgotten; its acknowledgement is owed. -/
def locationForgotten (dom : Nat) (fp : Bytes) (num : Nat) (d : Device) : Device := { d with kv := { d.kv with
  located := d.kv.located.filter (· != (dom, fp, num)), owedAcks := d.kv.owedAcks.filter (· != (dom, fp, num)) ++ [(dom, fp, num)] } }

/-- The device once the invalidations that nothing here reads are no longer owed. -/
def acksSettled (d : Device) : Device :=
  { d with kv := { d.kv with owedAcks := d.kv.owedAcks.filter fun x => beingRead x.1 x.2.1 x.2.2 d } }

theorem ackInvalidates_eq (d : Device) : ackInvalidates d =
    (d.kv.owedAcks.filter fun x => !beingRead x.1 x.2.1 x.2.2 d).foldl (fun d x => sendLink (.invalidateAck x.1 x.2.2 x.2.1) d)
      (acksSettled d) := rfl

theorem ackInvalidates_kv (d : Device) : (ackInvalidates d).kv = (acksSettled d).kv := by
  rw [ackInvalidates_eq]
  exact foldl_eq_of_step Device.kv (fun d x => sendLink_kv _ d) _ _

/-- What is sent in a sequence of messages has been sent after it. -/
theorem foldl_sendLink_linkSent {α : Type} {f : α → LinkMsg} {x : α} {l : List α} {a d : Device} (hl : linkPhysical d = true)
    (ho : a.out <+: d.out) (hx : x ∈ l) : LinkSent a (l.foldl (fun d x => sendLink (f x) d) d) (f x) := by
  have hstay : ∀ (l : List α) (d : Device) (m : LinkMsg), LinkSent a d m → LinkSent a (l.foldl (fun d x => sendLink (f x) d) d) m := by
    intro l
    induction l with
    | nil => exact fun d m h => h
    | cons y l ih => exact fun d m h => ih _ m (h.sendLink _)
  induction l generalizing d with
  | nil => cases hx
  | cons y l ih =>
    rcases List.mem_cons.1 hx with rfl | hx
    · exact hstay l _ _ (sendLink_linkSent hl ho)
    · exact ih ((linkPhysical_congr (sendLink_peerLink ..)).trans hl) (ho.trans (sendLink_linkWorked _ d).out) hx

/-- An invalidation of a copy that nothing here reads is acknowledged. -/
theorem ackInvalidates_linkSent {a d : Device} {dom num : Nat} {fp : Bytes} (hl : linkPhysical d = true) (ho : a.out <+: d.out)
    (hx : (dom, fp, num) ∈ d.kv.owedAcks) (hr : beingRead dom fp num d = false) : LinkSent a (ackInvalidates d) (.invalidateAck dom num fp) := by
  rw [ackInvalidates_eq]
  exact foldl_sendLink_linkSent (f := fun x : Nat × Bytes × Nat => .invalidateAck x.1 x.2.2 x.2.1) (x := (dom, fp, num)) hl ho
    (List.mem_filter.2 ⟨hx, by simp [hr]⟩)

end Sys2Proof.Machine
end

section
/-! SUPPORT. What work for the hosts or the other peer leaves as it is while it ends a low power state (R174, R547, R548). -/

namespace Sys2Proof.Machine

/-- The peer, the number of the next flash operation, the side, the node and the requested power state. -/
def wakeView (d : Device) : PeerState × Nat × Nat × Nat × Nat := (d.peer, d.media.nextOp, d.side, d.nodeId, odVal 0x2220 1 d)

theorem wakeView_odPut {idx sub : Nat} (h : odKey 0x2220 1 0 ≠ odKey idx sub 0) (v : Nat) (d : Device) :
    wakeView (odPut idx sub v d) = wakeView d := by
  rw [wakeView, odVal_odPut_other v d h]
  rfl

theorem wakeView_odBump {idx sub : Nat} (h : odKey 0x2220 1 0 ≠ odKey idx sub 0) (n : Nat) (d : Device) :
    wakeView (odBump idx sub n d) = wakeView d := wakeView_odPut h _ d

theorem wakeView_logEvent (code unit severity detail : Nat) (d : Device) : wakeView (logEvent code unit severity detail d) = wakeView d :=
  wakeView_odBump (by decide) ..

theorem wakeView_placeLocal (e : BoardEntry) (d : Device) : wakeView (placeLocal e d) = wakeView d := by
  unfold placeLocal
  split
  · rfl
  · dsimp only
    split_ifs
    · rfl
    · exact wakeView_logEvent 0x0D08 0x0051 1 e.action d

/-! ## Stripes are issued -/

theorem wakeView_noteUnplaced (cls k : Nat) (d : Device) : wakeView (noteUnplaced cls k d) = wakeView d := by
  unfold noteUnplaced
  split_ifs
  · rfl
  · exact wakeView_logEvent ..

theorem wakeView_noteResidue (id : Nat) (m : MemberDesc) (d : Device) : wakeView (noteResidue id m d) = wakeView d := by
  unfold noteResidue
  dsimp only
  split_ifs <;> rfl

theorem wakeView_takePages {s : Stream} {unit : Nat} {cs : List Nat} {d : Device} {r : List Member × Device}
    (h : takePages s unit cs d = some r) : wakeView r.2 = wakeView d := by
  induction cs generalizing d r with
  | nil => rw [← Option.some.inj h]
  | cons c cs ih =>
    unfold takePages at h
    split at h
    · cases h
    · split at h
      · cases h
      next q hq =>
        rw [← Option.some.inj h]
        exact (ih hq).trans rfl

theorem wakeView_splitStripe (st : Stripe) (k : Nat) (d : Device) : wakeView (splitStripe st k d) = wakeView d := rfl

/-- A stripe that is issued takes its pages, is recorded and counted. -/
theorem wakeView_issueStripe (st : Stripe) (d : Device) : wakeView (issueStripe st d) = wakeView d := by
  unfold issueStripe
  dsimp only
  split
  · rfl
  · split
    · exact wakeView_noteUnplaced ..
    next k cs _ =>
      have hplaced : ∀ d : Device, wakeView (if dataSpace k st.unit < st.fill then splitStripe st k d else d) = wakeView d := by
        intro d
        split_ifs <;> rfl
      have hclass : wakeView (if k == st.k then { d with stripe := { d.stripe with unplaced := tblDel d.stripe.unplaced st.cls } }
          else noteUnplaced st.cls k d) = wakeView d := by
        split_ifs
        · rfl
        · exact wakeView_noteUnplaced ..
      split
      · exact (hplaced _).trans hclass
      next ms x h =>
        have hx := (foldl_eq_of_step wakeView (fun d (m : Member) => wakeView_noteResidue st.id m.desc d) ms x).trans
          ((wakeView_takePages h).trans ((hplaced _).trans hclass))
        split_ifs
        · exact (wakeView_odBump (by decide) ..).trans hx
        · exact (wakeView_odBump (by decide) ..).trans ((wakeView_odBump (by decide) ..).trans ((wakeView_odBump (by decide) ..).trans hx))

theorem wakeView_closeGathers (f : Gather → Bool) (d : Device) : wakeView (closeGathers f d) = wakeView d := by
  refine (foldl_eq_of_step wakeView (fun d s => ?_) _ _).trans
    (foldl_eq_of_step wakeView (fun d g => (rfl : wakeView (closeGather g d) = wakeView d)) _ d)
  split
  · exact wakeView_issueStripe ..
  · rfl

/-! ## A checkpoint begins -/

theorem wakeView_gatherBytes (fuel cls cluster : Nat) (s : Stream) (ret len : Nat) (d : Device) :
    wakeView (gatherBytes fuel cls cluster s ret len d).2 = wakeView d := by
  induction fuel generalizing len d with
  | zero => rfl
  | succ fuel ih =>
    unfold gatherBytes
    split_ifs
    · rfl
    · dsimp only
      split
      · exact ih ..
      · split_ifs <;> exact ih ..

theorem wakeView_reserveSeals (d : Device) : wakeView (reserveSeals d) = wakeView d := by
  unfold reserveSeals
  split_ifs <;> rfl

theorem wakeView_writePage (typ lid : Nat) (d : Device) : wakeView (writePage typ lid d) = wakeView d := by
  unfold writePage
  split_ifs
  · exact wakeView_reserveSeals d
  · exact (wakeView_reserveSeals _).trans (wakeView_gatherBytes ..)

theorem wakeView_checkpointBegin (d : Device) : wakeView (checkpointBegin d) = wakeView d := by
  have hw := foldl_eq_of_step wakeView fun d (p : MapPage) => wakeView_writePage p.typ p.lid d
  unfold checkpointBegin
  split_ifs
  · exact wakeView_reserveSeals _
  · exact (hw _ _).trans (hw _ _)

/-! ## Low power states are entered and left -/

theorem wakeView_enterLow (n : Nat) (d : Device) : wakeView (enterLow n d) = wakeView d := by
  unfold enterLow
  dsimp only
  split_ifs
  · exact wakeView_closeGathers ..
  · exact (wakeView_checkpointBegin _).trans (wakeView_closeGathers ..)

theorem wakeView_setDomain (n : Nat) (on : Bool) (d : Device) : wakeView (setDomain n on d) = wakeView d := wakeView_odPut (by decide) ..

theorem wakeView_loadClusters (d : Device) : wakeView (loadClusters d) = wakeView d := by
  refine foldl_eq_of_step wakeView (fun d c => ?_) _ d
  unfold loadCluster
  split_ifs
  · rfl
  · exact wakeView_setDomain ..

theorem wakeView_loadSearch (d : Device) : wakeView (loadSearch d) = wakeView d := by
  have hs : wakeView (setDomain 20 true (setDomain 21 true d)) = wakeView d := (wakeView_setDomain ..).trans (wakeView_setDomain ..)
  unfold loadSearch
  dsimp only
  split_ifs <;> exact hs

theorem wakeView_placeGroupsUp (d : Device) : wakeView (placeGroupsUp false d) = wakeView d := by
  unfold placeGroupsUp
  simp only [Bool.false_eq_true, if_false]
  exact foldl_eq_of_step wakeView (fun d _ => wakeView_placeLocal _ d) _ d

theorem wakeView_cancelGroupsDown (d : Device) : wakeView (cancelGroupsDown d) = wakeView d :=
  foldl_eq_of_step wakeView (fun d (e : Nat × BoardEntry) => (rfl : wakeView (putEntry e.1 { e.2 with state := 3 } d) = wakeView d)) _ d

theorem wakeView_leaveStandby (d : Device) :
    wakeView ((List.range 16).foldl (fun d g => if bit (odVal 0x2210 3 d) g then setStandby g false d else d) d) = wakeView d :=
  foldl_eq_of_step wakeView (fun d g => by
    split_ifs
    · exact wakeView_odPut (by decide) ..
    · rfl) _ d

theorem wakeView_leaveLow (d : Device) : wakeView (leaveLow d) = wakeView d := by
  have hloaded : ∀ d : Device, wakeView (loadClusters ((List.range 16).foldl
      (fun d g => if bit (odVal 0x2210 3 d) g then setStandby g false d else d) d)) = wakeView d :=
    fun d => (wakeView_loadClusters _).trans (wakeView_leaveStandby d)
  have hleft : wakeView { cancelGroupsDown d with power := { (cancelGroupsDown d).power with entering := none } } = wakeView d :=
    wakeView_cancelGroupsDown d
  unfold leaveLow
  dsimp only
  split_ifs
  · exact (wakeView_placeGroupsUp _).trans ((hloaded _).trans hleft)
  · exact (wakeView_placeGroupsUp _).trans ((wakeView_loadSearch _).trans ((hloaded _).trans hleft))
  · exact (hloaded _).trans hleft
  · exact (wakeView_loadSearch _).trans ((hloaded _).trans hleft)

theorem wakeView_refreshEff (cause : Nat) (d : Device) : wakeView (refreshEff cause d) = wakeView d := by
  have hf : wakeView (odPut 0x2220 2 (forcing d) d) = wakeView d := wakeView_odPut (by decide) ..
  have hn : ∀ (n detail : Nat) (u : Device), wakeView u = wakeView d →
      wakeView (logEvent 0x1202 0x0071 0 detail (odPut 0x2010 2 n u)) = wakeView d :=
    fun n detail u h => (wakeView_logEvent ..).trans ((wakeView_odPut (by decide) ..).trans h)
  unfold refreshEff
  dsimp only
  split_ifs
  · exact hf
  · exact hn _ _ _ hf
  · exact (wakeView_leaveLow _).trans (hn _ _ _ hf)
  · exact (wakeView_enterLow ..).trans (hn _ _ _ hf)

/-- Work for the hosts or the other peer leaves the peer, the numbers of the flash operations and the side. -/
theorem ioActivity_keeps (d : Device) :
    (ioActivity d).peer = d.peer ∧ (ioActivity d).media.nextOp = d.media.nextOp ∧ (ioActivity d).side = d.side := by
  unfold ioActivity
  dsimp only
  split_ifs
  · exact ⟨rfl, rfl, rfl⟩
  · have h := wakeView_refreshEff 3 (odPut 0x2220 1 d.power.operational { d with power := { d.power with idleSince := d.time.now, apst := 0 } })
    exact ⟨congrArg Prod.fst h, congrArg (·.2.1) h, congrArg (·.2.2.1) h⟩

end Sys2Proof.Machine
end

section
/-! SUPPORT. O32: frames about chunks and units, frame by frame (R193, R196, R198, R203 to R205, R207, R328, R329, R457). -/

namespace Sys2Proof.Machine

/-! ## What the header of a frame leaves -/

@[simp] theorem arrived_map (h : FrameHdr) (cls : Nat) (d : Device) : (arrived h cls d).map = d.map := by
  obtain ⟨_, _, _, _, _, e, -⟩ := arrived_linkWorked h cls d
  rw [e]

@[simp] theorem arrived_media (h : FrameHdr) (cls : Nat) (d : Device) : (arrived h cls d).media = d.media := by
  obtain ⟨_, _, _, _, _, e, -⟩ := arrived_linkWorked h cls d
  rw [e]

/-- The requests under way and the owners of the channels. -/
theorem arrived_peerKeeps (h : FrameHdr) (cls : Nat) (d : Device) :
    (arrived h cls d).peer.reqs = d.peer.reqs ∧ (arrived h cls d).peer.owners = d.peer.owners := by
  obtain ⟨_, _, _, _, _, e, -⟩ := arrived_linkWorked h cls d
  rw [e]
  exact ⟨rfl, rfl⟩

theorem ownsChannel_congr {a b : Device} (ho : b.peer.owners = a.peer.owners) (hs : b.side = a.side) (c : Nat) :
    ownsChannel c b = ownsChannel c a := by rw [ownsChannel, ownsChannel, channelOwner, channelOwner, ho, hs]

theorem ownsChannel_arrived (h : FrameHdr) (cls c : Nat) (d : Device) : ownsChannel c (arrived h cls d) = ownsChannel c d :=
  ownsChannel_congr (arrived_peerKeeps ..).2 (arrived_side ..) c

theorem ownsChannel_ioActivity (c : Nat) (d : Device) : ownsChannel c (ioActivity d) = ownsChannel c d :=
  ownsChannel_congr (congrArg PeerState.owners (ioActivity_keeps d).1) (ioActivity_keeps d).2.2 c

theorem cmdOf_arrived (h : FrameHdr) (cls id : Nat) (d : Device) : cmdOf id (arrived h cls d) = cmdOf id d := by
  rw [cmdOf, cmdOf, arrived_nvme]

theorem stripeOf_arrived (h : FrameHdr) (cls id : Nat) (d : Device) : stripeOf id (arrived h cls d) = stripeOf id d := by
  rw [stripeOf, stripeOf, arrived_stripe]

theorem peerUnit_arrived (h : FrameHdr) (cls stripe : Nat) (d : Device) : peerUnit stripe (arrived h cls d) = peerUnit stripe d := by
  rw [peerUnit, peerUnit, arrived_stripe]

theorem beingRead_arrived (h : FrameHdr) (cls dom : Nat) (fp : Bytes) (num : Nat) (d : Device) :
    beingRead dom fp num (arrived h cls d) = beingRead dom fp num d := by
  rw [beingRead, beingRead, arrived_nvme]

/-! ## Releases -/

/-- The claim that a release ends is released. -/
def claimReleased (req domain : Nat) (fp : Bytes) (copy : Nat) (d : Device) : Device :=
  if copy == 0xFFFFFFFF then
    match d.kv.copies.find? fun c => c.claimants.contains (false, req) with
    | some c => releaseAt c.domain c.fp c.num (false, req) d
    | none => d
  else releaseAt domain fp copy (remoteClaimant req domain fp copy d) d

theorem fpRelease_eq (req domain : Nat) (fp : Bytes) (copy : Nat) (d : Device) :
    fpRelease req domain fp copy d = settle (sendLink (.fpReply req 3 false copy []) (claimReleased req domain fp copy d)) := rfl

theorem claimReleased_link (req domain : Nat) (fp : Bytes) (copy : Nat) (d : Device) :
    (claimReleased req domain fp copy d).peer.link = d.peer.link ∧ d.out <+: (claimReleased req domain fp copy d).out := by
  unfold claimReleased
  split_ifs
  · split
    · exact ⟨releaseAt_peerLink .., (releaseAt_kept (.refl d)).out⟩
    · exact ⟨rfl, List.prefix_rfl⟩
  · exact ⟨releaseAt_peerLink .., (releaseAt_kept (.refl d)).out⟩

/-! ## Acknowledged invalidations -/

/-- What waited for a location to go waits no longer, but for a relocation. -/
def awaitEnded (dom : Nat) (fp : Bytes) (num : Nat) (d : Device) : Device := { d with
  kv := { d.kv with invalidating := d.kv.invalidating.filter fun i => i.2 != (dom, fp, num) }
  map := { d.map with blocks := d.map.blocks.map fun b => { b with awaiting := b.awaiting.filter (· != (dom, fp, num)) } } }

theorem invalidated_eq (dom : Nat) (fp : Bytes) (num : Nat) (d : Device) : invalidated dom fp num d =
    match d.stripe.relocs.find? fun r => r.asked && r.domain == dom && r.fp == fp && r.num == num with
    | some r => landReloc r (awaitEnded dom fp num d)
    | none => awaitEnded dom fp num d := rfl

theorem awaitEnded_arrived {h : FrameHdr} {dom num : Nat} {fp : Bytes} {d : Device} :
    ((awaitEnded dom fp num (arrived h 2 d)).kv.invalidating = d.kv.invalidating.filter fun i => i.2 != (dom, fp, num)) ∧
      ∀ b ∈ (awaitEnded dom fp num (arrived h 2 d)).map.blocks, (dom, fp, num) ∉ b.awaiting := by
  refine ⟨by simp [awaitEnded], fun b hb => ?_⟩
  obtain ⟨x, -, rfl⟩ := List.mem_map.1 hb
  simp

/-! ## Units -/

/-- An operation that waits in its toll-gate queue. -/
def opQueued (o : FlashOp) (d : Device) : Device := { d with media := { d.media with
  ops := d.media.ops ++ [{ o with id := d.media.nextOp, tokens := opTokens o.kind o.desc d, startedAt := d.time.now }]
  nextOp := d.media.nextOp + 1 } }

theorem queueOp_eq (o : FlashOp) (d : Device) : queueOp o d = tryStart d.media.nextOp (opQueued o d) := rfl

/-- The kind of a unit read for a request of the other peer. -/
def unitReadKind (prio : Nat) : FlashKind := if prio = 0 then .hostRead else if prio = 1 then .rebuildRead else .gcRead

theorem unitRead_owned {m : MemberDesc} {d : Device} (ho : ownsChannel m.channel d = true) (req prio : Nat) :
    unitRead req m prio d = tryStart d.media.nextOp (opQueued { blankOp (unitReadKind prio) m with req := some req } (ioActivity d)) := by
  have hk : (if prio == 0 then FlashKind.hostRead else if prio == 1 then FlashKind.rebuildRead else FlashKind.gcRead) = unitReadKind prio := by
    simp [unitReadKind]
  unfold unitRead
  dsimp only
  rw [ownsChannel_ioActivity, ho, hk, queueOp_eq, (ioActivity_keeps d).2.1]
  rfl

theorem unitRead_foreign {m : MemberDesc} {d : Device} (ho : ownsChannel m.channel d = false) (req prio : Nat) :
    unitRead req m prio d = sendLink (.unitData req 2 0 []) (ioActivity d) := by
  unfold unitRead
  dsimp only
  rw [ownsChannel_ioActivity, ho]
  rfl

/-- A fetch that takes the place of its command's is among the fetches. -/
theorem mem_putFetch {f g : Fetch} {d : Device} (hg : g ∈ d.kv.fetches) (hc : g.cmd = f.cmd) : f ∈ (putFetch f d).kv.fetches :=
  List.mem_map.2 ⟨g, hg, if_pos (beq_iff_eq.2 hc)⟩

theorem dropReq_gone (id : Nat) (d : Device) : ∀ x ∈ (dropReq id d).peer.reqs, x.id ≠ id := fun x hx => by
  simpa using (List.mem_filter.1 hx).2

/-- Unit data of a request for a unit of a stripe that is not kept here. -/
theorem unitData_fetched {req status off cmd stripe unit : Nat} {data : Bytes} {r : LinkReq} {c : Cmd} {f : Fetch} {d : Device}
    (hr : d.peer.reqs.find? (·.id == req) = some r) (hw : r.what = .unit (some cmd) stripe unit) (hc : cmdOf cmd d = some c)
    (hf : d.kv.fetches.find? (·.cmd == cmd) = some f) (hs : stripeOf stripe d = none) : unitData req status off data d =
      if status = 0 then takeUnit r c f stripe unit off data d
      else readOn (readFuel c) cmd (putFetch { f with part := [], unread := f.unread ++ [(stripe, unit)] } (dropReq r.id d)) := by
  have hs' : stripeOf stripe (dropReq r.id d) = none := hs
  have hc' : cmdOf cmd (dropReq r.id d) = some c := hc
  have hf' : (dropReq r.id d).kv.fetches.find? (·.cmd == cmd) = some f := hf
  unfold unitData
  rw [hr]
  dsimp only
  rw [hw]
  by_cases h : status = 0
  · simp [h, hc, hf, hs]
  · simp [h, unitFailed, hs', hc', hf']

/-! ## Moves and erasures for the other peer -/

/-- An erasure that the other peer asks for is noted, and its barrier. -/
def erasureNoted (req : Nat) (m : MemberDesc) (barrier : Nat) (d : Device) : Device :=
  onBlock m (fun b => { b with barrier := max b.barrier barrier })
    { d with peer := { d.peer with peerReqs := d.peer.peerReqs ++ [(req, .erase m barrier)] } }

theorem eraseRequest_some {req barrier : Nat} {m : MemberDesc} {b : Block} {d : Device} (h : blockOf m d = some b) :
    eraseRequest req m barrier d = if b.st = 4 ∨ b.st = 5 then sendLink (.requestDone req 2) d
      else if b.st = 0 then sendLink (.requestDone req 0) d else maybeState3 m (emptyBlock m 2 (erasureNoted req m barrier d)) := by
  unfold eraseRequest
  rw [h]
  simp only [Bool.or_eq_true, beq_iff_eq]
  rfl

/-- A request of this peer's maps is done. -/
def requestEnded (req : Nat) (d : Device) : Device := { d with
  peer := { d.peer with reqs := d.peer.reqs.filter (·.id != req) }
  map := { d.map with moveRequests := d.map.moveRequests.filter (·.1 != req), eraseRequests := d.map.eraseRequests.filter (·.1 != req) } }

theorem requestDone_eq {req : Nat} {r : LinkReq} {d : Device} (h : d.peer.reqs.find? (·.id == req) = some r) (result : Nat) :
    requestDone req result d = match r.what with
      | .erase slot m => erasureAnswered slot m result (requestEnded req d)
      | _ => requestEnded req d := by
  unfold requestDone
  rw [h]
  rfl

theorem requestEnded_arrived (h : FrameHdr) (req : Nat) (d : Device) :
    (requestEnded req (arrived h 2 d)).peer.reqs = d.peer.reqs.filter (·.id != req) ∧
      (requestEnded req (arrived h 2 d)).map.moveRequests = d.map.moveRequests.filter (·.1 != req) ∧
      (requestEnded req (arrived h 2 d)).map.eraseRequests = d.map.eraseRequests.filter (·.1 != req) := by
  simp [requestEnded, (arrived_peerKeeps h 2 d).1]

/-! ## The frames -/

theorem fpRequestClaim_hit {s : State} {h : FrameHdr} {req dom : Nat} {fp : Bytes} {c : Copy} (k : FrameTaken h 2 s.dev)
    (hm : matchableCopy dom fp s.dev = some c) (hc : copyOf dom fp c.num s.dev = some c) (hr : c.refs + 1 ≠ refMax) :
    Gives (.fpRequestClaim h req dom fp) s fun t => (∃ es, LinkSent s.dev t (.fpReply req 1 c.present c.num es)) ∧
      copyOf dom fp c.num t = some { c with refs := c.refs + 1, claimants := c.claimants ++ [(false, req)] } := by
  have hm' : matchableCopy dom fp (arrived h 2 s.dev) = some c := by rwa [matchableCopy, arrived_kv]
  have hout := claimAt_out dom fp (false, req) (arrived h 2 s.dev)
  refine gives_taken k rfl ?_
  simp only [claimAt_hit hm' hr] at hout ⊢
  refine ⟨⟨_, taken_linkSent _ k ?_ hout⟩, ?_⟩
  · exact congrArg PeerState.link (claimCounted_peer ..)
  · rw [copyOf_congr (sendLink_kv ..), copyOf_onCopy (f := Copy.claimed (false, req)) (fun _ => rfl), copyOf_congr (claimCounted_kv ..), arrived_copyOf, hc]
    rfl

theorem fpRequestClaim_new {s : State} {h : FrameHdr} {req dom : Nat} {fp : Bytes} (k : FrameTaken h 2 s.dev)
    (hm : matchableCopy dom fp s.dev = none) : Gives (.fpRequestClaim h req dom fp) s fun t =>
      (∃ es, LinkSent s.dev t (.fpReply req 2 false (lowestCopy dom fp s.dev) es)) ∧
        { newCopy dom fp (lowestCopy dom fp s.dev) with claimants := [(false, req)] } ∈ t.kv.copies := by
  have hm' : matchableCopy dom fp (arrived h 2 s.dev) = none := by rwa [matchableCopy, arrived_kv]
  have hn : lowestCopy dom fp (arrived h 2 s.dev) = lowestCopy dom fp s.dev := by rw [lowestCopy, arrived_kv, lowestCopy]
  have hout := claimAt_out dom fp (false, req) (arrived h 2 s.dev)
  refine gives_taken k rfl ?_
  simp only [claimAt_new hm', hn] at hout ⊢
  refine ⟨⟨_, taken_linkSent _ k ?_ hout⟩, ?_⟩
  · exact congrArg PeerState.link (hotInsert_peer ..)
  · rw [sendLink_kv, copyClaimed_kv]
    exact List.mem_append_right _ (List.mem_singleton_self _)

theorem fpRequestClaimRelease_answers {s : State} {h : FrameHdr} (k : FrameTaken h 2 s.dev) (req dom : Nat) (fp : Bytes) (num : Nat) :
    Leads settle (.fpRequestClaimRelease h req dom fp num) s fun v => LinkSent s.dev v (.fpReply req 3 false num []) := by
  obtain ⟨hl, ho⟩ := claimReleased_link req dom fp num (arrived h 2 s.dev)
  exact leads_taken k rfl (fpRelease_eq ..) (taken_linkSent _ k hl ho)

theorem fpRequestDecrement_answers {s : State} {h : FrameHdr} (k : FrameTaken h 2 s.dev) (req dom : Nat) (fp : Bytes) (num : Nat) :
    Gives (.fpRequestDecrement h req dom fp num) s fun t => LinkSent s.dev t (.fpReply req 3 false num []) :=
  gives_taken k rfl (taken_linkSent _ k (decrementAt_peerLink ..) (decrementAt_bookkept ..).out)

theorem fpRequestDecrement_counts {s : State} {h : FrameHdr} {dom num : Nat} {fp : Bytes} {c : Copy} (k : FrameTaken h 2 s.dev) (req : Nat)
    (hc : copyOf dom fp num s.dev = some c) (hp : c.pinned = false) (hd : c.dead = false) (hr : 2 ≤ c.refs) :
    Leads (fun v => sendLink (.fpReply req 3 false num []) (touchMap 3 (chunkKey dom fp num) (recordCopy { c with refs := c.refs - 1 } v)))
      (.fpRequestDecrement h req dom fp num) s fun v => copyOf dom fp num v = some { c with refs := c.refs - 1 } := by
  have hc' : copyOf dom fp num (arrived h 2 s.dev) = some c := by rwa [arrived_copyOf]
  refine leads_taken k rfl (congrArg (sendLink _) (decrementAt_counted hc' hp hd hr)) ?_
  rw [copyOf_onCopy (f := fun c => { c with refs := c.refs - 1 }) (fun _ => rfl), hc']
  rfl

theorem fpRequestLocate_found {s : State} {h : FrameHdr} {dom num : Nat} {fp : Bytes} {c : Copy} (k : FrameTaken h 2 s.dev) (req : Nat)
    (hc : copyOf dom fp num s.dev = some c) :
    Gives (.fpRequestLocate h req dom fp num) s fun t => LinkSent s.dev t (.fpReply req 1 c.present num c.extents) := by
  refine gives_taken k rfl ?_
  rw [arrived_copyOf, hc]
  exact taken_linkSent _ k rfl List.prefix_rfl

theorem fpRequestLocate_unknown {s : State} {h : FrameHdr} {dom num : Nat} {fp : Bytes} (k : FrameTaken h 2 s.dev) (req : Nat)
    (hc : copyOf dom fp num s.dev = none) :
    Gives (.fpRequestLocate h req dom fp num) s fun t => LinkSent s.dev t (.fpReply req 3 false num []) := by
  refine gives_taken k rfl ?_
  rw [arrived_copyOf, hc]
  exact taken_linkSent _ k rfl List.prefix_rfl

theorem invalidate_forgets {s : State} {h : FrameHdr} (k : FrameTaken h 2 s.dev) (dom num : Nat) (fp : Bytes) :
    Gives (.invalidate h dom num fp) s fun t => (dom, fp, num) ∉ t.kv.located ∧
      if beingRead dom fp num s.dev = true then (dom, fp, num) ∈ t.kv.owedAcks else LinkSent s.dev t (.invalidateAck dom num fp) := by
  have hr : beingRead dom fp num (locationForgotten dom fp num (arrived h 2 s.dev)) = beingRead dom fp num s.dev := beingRead_arrived ..
  have hx : (dom, fp, num) ∈ (locationForgotten dom fp num (arrived h 2 s.dev)).kv.owedAcks :=
    List.mem_append_right _ (List.mem_singleton_self _)
  refine gives_taken (f := fun d => ackInvalidates (locationForgotten dom fp num d)) k rfl ⟨?_, ?_⟩
  · rw [ackInvalidates_kv]
    simp [acksSettled, locationForgotten]
  · split_ifs with hb
    · rw [ackInvalidates_kv]
      exact List.mem_filter.2 ⟨hx, hr.trans hb⟩
    · exact ackInvalidates_linkSent (arrived_linkPhysical k) (arrived_linkWorked h 2 s.dev).out hx
        (hr.trans (Bool.not_eq_true _ ▸ hb))

theorem fpRequestPresent_answers {s : State} {h : FrameHdr} (k : FrameTaken h 2 s.dev) (req : Nat) (m : PresentMsg) :
    Leads settle (.fpRequestPresent h req m) s fun v => LinkSent s.dev v (.fpReply req 3 false m.copy []) ∧
      ∀ c, copyOf m.domain m.fp m.copy s.dev = some c → ∃ c', copyOf m.domain m.fp m.copy v = some c' ∧ c'.present = true := by
  have hout := presentAt_out m.domain m.fp m.copy (onCopy m.domain m.fp m.copy (fillEntry m (arrived h 2 s.dev)) (arrived h 2 s.dev))
  obtain ⟨hl, hp⟩ := presentAt_keeps m.domain m.fp m.copy (onCopy m.domain m.fp m.copy (fillEntry m (arrived h 2 s.dev)) (arrived h 2 s.dev))
  refine leads_taken k rfl rfl ⟨taken_linkSent _ k hl hout, fun c hc => ?_⟩
  rw [copyOf_congr (sendLink_kv ..)]
  refine hp (fillEntry m (arrived h 2 s.dev) c) ?_
  rw [copyOf_onCopy (isCopy_fillEntry m _), arrived_copyOf, hc]
  rfl

theorem fpReplied_eq {m : FpReplyMsg} {r : LinkReq} {d : Device} (hr : d.peer.reqs.find? (·.id == m.req) = some r) : fpReplied m d =
    match r.what with
    | .claim cmd item chunk => claimReplied r cmd item chunk m d
    | .locate cmd domain fp copy => settle (located r cmd domain fp copy m d)
    | _ => dropReq r.id d := by
  unfold fpReplied
  generalize d.peer.reqs.find? (·.id == m.req) = o at hr ⊢
  subst hr
  rfl

theorem unitRead_queues {s : State} {h : FrameHdr} {m : MemberDesc} (k : FrameTaken h 2 s.dev) (req prio : Nat)
    (ho : ownsChannel m.channel s.dev = true) : Leads (tryStart s.dev.media.nextOp) (.unitRead h req m prio) s fun v =>
      ∃ o ∈ v.media.ops, o.id = s.dev.media.nextOp ∧ o.req = some req ∧ o.desc = m ∧
        o.kind = if prio = 0 then .hostRead else if prio = 1 then .rebuildRead else .gcRead := by
  have hu := unitRead_owned ((ownsChannel_arrived h 2 m.channel s.dev).trans ho) req prio
  have hn : (ioActivity (arrived h 2 s.dev)).media.nextOp = s.dev.media.nextOp := by
    rw [(ioActivity_keeps _).2.1, arrived_media]
  rw [arrived_media] at hu
  exact leads_taken k rfl hu ⟨_, List.mem_append_right _ (List.mem_singleton_self _), hn, rfl, rfl, rfl⟩

theorem unitRead_refused {s : State} {h : FrameHdr} {m : MemberDesc} (k : FrameTaken h 2 s.dev) (req prio : Nat)
    (ho : ownsChannel m.channel s.dev = false) :
    Gives (.unitRead h req m prio) s fun t => LinkSent s.dev t (.unitData req 2 0 []) := by
  refine gives_taken k rfl ?_
  rw [unitRead_foreign ((ownsChannel_arrived h 2 m.channel s.dev).trans ho)]
  exact taken_linkSent _ k (congrArg PeerState.link (ioActivity_keeps _).1) (ioActivity_kept (.refl _)).out

/-- Data of a unit: a piece, the last piece, or that there is none, for the fetch of the command that asked. -/
theorem unitData_joins {s : State} {h : FrameHdr} {req off cmd stripe unit : Nat} {data : Bytes} {r : LinkReq} {c : Cmd} {f : Fetch}
    (k : FrameTaken h 3 s.dev) (status : Nat) (hr : s.dev.peer.reqs.find? (·.id == req) = some r)
    (hw : r.what = .unit (some cmd) stripe unit) (hc : cmdOf cmd s.dev = some c) (hf : s.dev.kv.fetches.find? (·.cmd == cmd) = some f)
    (hs : stripeOf stripe s.dev = none) :
    let part := overlay (padTo (max f.part.length (off + data.length)) f.part) off data
    (status = 0 → part.length < peerUnit stripe s.dev → Leads settle (.unitData h req status off data) s fun v =>
      { f with part := part } ∈ v.kv.fetches) ∧
    (status = 0 → peerUnit stripe s.dev ≤ part.length →
      Leads (fun v => settle (readOn (readFuel c) c.id v)) (.unitData h req status off data) s fun v =>
        { f with part := [], units := f.units ++ [((stripe, unit), part.take (peerUnit stripe s.dev))] } ∈ v.kv.fetches ∧
          ∀ x ∈ v.peer.reqs, x.id ≠ r.id) ∧
    (status ≠ 0 → Leads (fun v => settle (readOn (readFuel c) cmd v)) (.unitData h req status off data) s fun v =>
      { f with part := [], unread := f.unread ++ [(stripe, unit)] } ∈ v.kv.fetches ∧ ∀ x ∈ v.peer.reqs, x.id ≠ r.id) := by
  intro part
  have hf' : (arrived h 3 s.dev).kv.fetches.find? (·.cmd == cmd) = some f := by rwa [arrived_kv]
  have hd : unitData req status off data (arrived h 3 s.dev) = if status = 0 then takeUnit r c f stripe unit off data (arrived h 3 s.dev)
      else readOn (readFuel c) cmd (putFetch { f with part := [], unread := f.unread ++ [(stripe, unit)] } (dropReq r.id (arrived h 3 s.dev))) :=
    unitData_fetched (by rwa [(arrived_peerKeeps ..).1]) hw (by rwa [cmdOf_arrived]) hf' (by rwa [stripeOf_arrived])
  have hmem := List.mem_of_find?_eq_some hf'
  have ht : takeUnit r c f stripe unit off data (arrived h 3 s.dev) = if part.length < peerUnit stripe s.dev
      then putFetch { f with part := part } (arrived h 3 s.dev)
      else readOn (readFuel c) c.id (putFetch { f with
        part := [], units := f.units ++ [((stripe, unit), part.take (peerUnit stripe s.dev))] } (dropReq r.id (arrived h 3 s.dev))) := by
    rw [← peerUnit_arrived h 3 stripe s.dev]
    rfl
  refine ⟨fun h0 hp => ?piece, fun h0 hp => ?whole, fun h0 => ?none⟩
  case piece =>
    rw [if_pos h0, ht, if_pos hp] at hd
    exact leads_taken k rfl (congrArg settle hd) (mem_putFetch hmem rfl)
  case whole =>
    rw [if_pos h0, ht, if_neg (by omega)] at hd
    exact leads_taken k rfl (congrArg settle hd) ⟨mem_putFetch (d := dropReq r.id (arrived h 3 s.dev)) hmem rfl, dropReq_gone r.id _⟩
  case none =>
    rw [if_neg h0] at hd
    exact leads_taken k rfl (congrArg settle hd) ⟨mem_putFetch (d := dropReq r.id (arrived h 3 s.dev)) hmem rfl, dropReq_gone r.id _⟩

/-- Settles O32: each frame by the lemma of its own effect on the device that its header leaves. -/
theorem chunkFrames : Obligations.ChunkFrames := by
  unfold Obligations.ChunkFrames
  intro s h
  refine ⟨fun k => ⟨?claim, ?copy, fun req m => fpRequestPresent_answers k req m, ?reply, ?unitRead, ?move, ?erase, ?done⟩,
    fun k req status off data r cmd stripe unit hr hw c f hc hf hs => unitData_joins k status hr hw hc hf hs⟩
  case claim => exact fun req dom fp => ⟨fun c hm hc hr => fpRequestClaim_hit k hm hc hr, fpRequestClaim_new k⟩
  case copy =>
    refine fun req dom fp num => ⟨fpRequestClaimRelease_answers k req dom fp num, fpRequestDecrement_answers k req dom fp num,
      fun c => fpRequestDecrement_counts k req, fun c => fpRequestLocate_found k req, fpRequestLocate_unknown k req,
      invalidate_forgets k dom num fp, fun hn => ?idle, fun r hr => ?lands⟩
    case idle =>
      refine gives_taken (f := invalidated dom fp num) k rfl ?_
      rw [invalidated_eq, arrived_stripe, hn]
      exact awaitEnded_arrived
    case lands =>
      refine leads_taken (f := invalidated dom fp num) (u := awaitEnded dom fp num (arrived h 2 s.dev)) k rfl ?_ awaitEnded_arrived
      rw [invalidated_eq, arrived_stripe, hr]
  case reply =>
    intro m r hr
    have hd := fpReplied_eq (d := arrived h 2 s.dev) (by rwa [(arrived_peerKeeps ..).1])
    refine ⟨fun cmd item chunk hw => ?_, fun cmd dom fp num hw => ?_, fun hw => ?_⟩
    · rw [hw] at hd
      exact leads_taken k rfl hd ⟨arrived_kv .., arrived_nvme ..⟩
    · rw [hw] at hd
      exact leads_taken k rfl hd ⟨arrived_kv .., arrived_nvme ..⟩
    · have hdrop : fpReplied m (arrived h 2 s.dev) = dropReq r.id (arrived h 2 s.dev) := by
        rcases hw with hw | hw | hw <;> rw [hd, hw]
      refine gives_taken (f := fpReplied m) k rfl ?_
      rw [hdrop, dropReq, (arrived_peerKeeps ..).1]
  case unitRead => exact fun req m prio => ⟨unitRead_refused k req prio, unitRead_queues k req prio⟩
  case move =>
    refine fun req stripe m reason => ⟨fun hn => ?unknown, fun x i hx hi => ?known⟩
    case unknown =>
      refine gives_taken (f := moveRequest req stripe m reason) k rfl ?_
      rw [moveRequest, stripeOf_arrived, hn]
      exact taken_linkSent _ k rfl List.prefix_rfl
    case known =>
      refine leads_taken (f := moveRequest req stripe m reason) (u := arrived h 2 s.dev) k rfl ?_ ⟨arrived_stripe .., arrived_map ..⟩
      rw [moveRequest, stripeOf_arrived, hx]
      dsimp only
      rw [hi]
  case erase =>
    intro req m barrier
    have hb : blockOf m (arrived h 2 s.dev) = blockOf m s.dev := blockOf_congr (arrived_map ..) m
    refine ⟨fun hn => ?_, fun b hs => ?_⟩
    · refine gives_taken (f := eraseRequest req m barrier) k rfl ?_
      rw [eraseRequest, hb, hn]
      exact taken_linkSent _ k rfl List.prefix_rfl
    · have he := eraseRequest_some (req := req) (barrier := barrier) (hb.trans hs)
      refine ⟨fun h45 => ?_, fun h0 => ?_, fun h0 h4 h5 => ?_⟩
      · refine gives_taken (f := eraseRequest req m barrier) k rfl ?_
        rw [he, if_pos h45]
        exact taken_linkSent _ k rfl List.prefix_rfl
      · refine gives_taken (f := eraseRequest req m barrier) k rfl ?_
        rw [he, if_neg (by omega), if_pos h0]
        exact taken_linkSent _ k rfl List.prefix_rfl
      · rw [if_neg (by omega), if_neg h0] at he
        refine leads_taken k rfl he ⟨List.mem_append_right _ (List.mem_singleton_self _), ?_⟩
        exact (blockOf_onBlock (f := fun b => { b with barrier := max b.barrier barrier }) (fun _ => rfl) _).trans
          (congrArg (Option.map _) (hb.trans hs))
  case done =>
    intro req result r hr
    have hd := requestDone_eq (d := arrived h 2 s.dev) (by rwa [(arrived_peerKeeps ..).1]) result
    obtain ⟨hreqs, hmoves, herases⟩ := requestEnded_arrived h req s.dev
    refine ⟨fun slot m hw => ?_, fun hw => ?_⟩
    · rw [hw] at hd
      exact leads_taken k rfl hd ⟨hreqs, herases⟩
    · have hend : requestDone req result (arrived h 2 s.dev) = requestEnded req (arrived h 2 s.dev) := by
        rw [hd]
        split
        next slot m he => exact absurd he (hw slot m)
        · rfl
      refine gives_taken (f := requestDone req result) k rfl ?_
      rw [hend]
      exact ⟨hreqs, hmoves⟩

end Sys2Proof.Machine
end

section
/-! SUPPORT. An entry that launches alone, whatever its action but FREEZE, and what its launch leaves as it was (R412, R413, R416 to R418). -/

namespace Sys2Proof.Machine

/-! ## One entry launches -/

theorem actionClass_lt (a : Nat) : actionClass a < 9 := by
  unfold actionClass
  split <;> decide

/-- One entry in launch order by class is that entry. -/
theorem byClass_single (x : Nat × BoardEntry) :
    ((List.range 9).flatMap fun c => [x].filter fun y => actionClass y.2.action == c) = [x] := by
  have h := actionClass_lt x.2.action
  simp only [List.filter_cons, List.filter_nil]
  generalize actionClass x.2.action = k at h ⊢
  interval_cases k <;> rfl

/-- The one entry due at its tick launches, its action takes effect, and what awaited the launch goes on. -/
theorem launchTick_alone {n : Nat} {e : BoardEntry} {d : Device} (hf : d.board.frozen = false) (hd : dueEntries d = [(n, e)])
    (hc : d.time.counter = e.launch) (ht : d.board.tick ≠ e.launch) (ha : e.action ≠ 0x06) :
    launchTick d = (afterLaunch n (applyAction n e e.launch
      (launchEntry { d with board := { d.board with tick := e.launch, used := 1 } } (n, e))), [n]) := by
  have hu : (d.board.tick == e.launch) = false := beq_eq_false_iff_ne.2 ht
  have h6 : (e.action == 6) = false := beq_eq_false_iff_ne.2 ha
  have htake : [(n, e)].take 8 = [(n, e)] := rfl
  unfold launchTick afterLaunch
  rw [hd, hc, hf, hu]
  simp only [Bool.false_eq_true, if_false, Nat.sub_zero, htake, List.isEmpty_cons, List.find?_cons, List.find?_nil, h6,
    byClass_single (n, e), List.foldl_cons, List.foldl_nil, List.map_cons, List.map_nil, List.length_singleton, Nat.zero_add, nominalTick_launch]

/-- An entry that launches alone: its tick comes, it launches, and its action takes effect. -/
theorem launch_alone {n action : Nat} {e : BoardEntry} {d : Device} (h : LaunchesAlone n e d) (ha : e.action = action) (h6 : action ≠ 0x06) :
    launch n action d = afterLaunch n (applyAction n e e.launch (launchedAt n e d)) := by
  have hdue := dueEntries_alone h
  obtain ⟨hb, hs, hn, hf, -, hlt, ht, -⟩ := h
  have hc : (waitTick e.launch d).time.counter = e.launch := (waitTick_counter _ _).trans (max_eq_left hlt.le)
  have hgo : (e.state != 1 || e.action != action || d.board.frozen || decide (4096 ≤ n)) = false := by simp [hs, ha, hf, hn]
  have htick := launchTick_alone (d := waitTick e.launch d) (by rwa [waitTick_board]) hdue hc (by rwa [waitTick_board]) (ha ▸ h6)
  unfold launch
  rw [hb]
  dsimp only
  rw [hgo, if_neg Bool.false_ne_true]
  unfold launchUntil
  rw [htick]
  simp only [List.contains_cons, beq_self_eq_true, Bool.true_or, if_true]
  rw [waitTick_board]
  rfl

/-! ## What the launch itself leaves -/

/-- From `a` to `b` channels, moves, media, keys and the side stay, and every value but the counts of launches and of the link's bytes. -/
structure LaunchStays (a b : Device) : Prop where
  side : b.side = a.side
  owners : b.peer.owners = a.peer.owners
  media : b.media = a.media
  cipher : b.cipher = a.cipher
  values : ∀ idx sub sel, odKey idx sub sel ≠ odKey 0x2C00 2 0 → odKey idx sub sel ≠ odKey 0x2D00 8 0 →
    odKey idx sub sel ≠ odKey 0x2D00 9 0 → odSel idx sub sel b = odSel idx sub sel a

/-- The launch of an entry at its tick, before its report. -/
def launchCounted (n : Nat) (e : BoardEntry) (d : Device) : Device :=
  let w := { waitTick e.launch d with board := { (waitTick e.launch d).board with tick := e.launch, used := 1 } }
  odBump 0x2C00 2 1 (putEntry n (launchedEntry e e.launch w) w)

theorem launchedAt_eq {n : Nat} {e : BoardEntry} {d : Device} (h : d.time.counter < e.launch) :
    launchedAt n e d = reportLaunch n e (launchCounted n e d) := by
  have hc : (waitTick e.launch d).time.counter = e.launch := (waitTick_counter _ _).trans (max_eq_left h.le)
  unfold launchedAt launchEntry launchCounted
  dsimp only
  rw [hc, nominalTick_launch, Nat.sub_self]
  rw [waitTick_board]
  rfl

/-- A launch is reported on the link, and its answer awaited on the board. -/
theorem reportLaunch_eq (n : Nat) (e : BoardEntry) (d : Device) :
    ∃ u b, (u = d ∨ u = sendLink (.launchReport n d.time.counter) d) ∧ reportLaunch n e d = { u with board := b } := by
  unfold reportLaunch awaitReport
  split_ifs
  · exact ⟨d, d.board, .inl rfl, rfl⟩
  · exact ⟨_, _, .inr rfl, rfl⟩
  · exact ⟨_, _, .inr rfl, rfl⟩

theorem launchCounted_stays (n : Nat) (e : BoardEntry) (d : Device) : LaunchStays d (launchCounted n e d) := by
  refine ⟨waitTick_side .., congrArg PeerState.owners (waitTick_peer ..), waitTick_media .., waitTick_cipher .., fun idx sub sel h2 _ _ => ?_⟩
  refine (odSel_odPutSel_other _ _ h2).trans ?_
  unfold odSel
  rw [← waitTick_nodeId e.launch d, ← waitTick_dict e.launch d]
  rfl

theorem launchedAt_stays {n : Nat} {e : BoardEntry} {d : Device} (h : LaunchesAlone n e d) : LaunchStays d (launchedAt n e d) := by
  obtain ⟨-, -, -, -, -, hlt, -, -⟩ := h
  obtain ⟨hs, ho, hm, hci, hv⟩ := launchCounted_stays n e d
  obtain ⟨u, b, hu, he⟩ := reportLaunch_eq n e (launchCounted n e d)
  rw [launchedAt_eq hlt, he]
  rcases hu with rfl | rfl
  · exact ⟨hs, ho, hm, hci, hv⟩
  · obtain ⟨_, _, _, _, _, hw, -⟩ := sendLink_linkWorked (.launchReport n (launchCounted n e d).time.counter) (launchCounted n e d)
    have hl := sendLink_linkCounted (.launchReport n (launchCounted n e d).time.counter) (launchCounted n e d)
    generalize sendLink (.launchReport n (launchCounted n e d).time.counter) (launchCounted n e d) = w at hw hl ⊢
    refine ⟨?_, ?_, ?_, ?_, fun idx sub sel h2 h8 h9 => (hl.value idx sub sel h8 h9).trans (hv idx sub sel h2 h8 h9)⟩
    · rw [hw]
      exact hs
    · rw [hw]
      exact ho
    · rw [hw]
      exact hm
    · rw [hw]
      exact hci

/-- A plain value other than those counts stays. -/
theorem LaunchStays.odVal {a b : Device} (h : LaunchStays a b) {idx sub : Nat} (h2 : odKey idx sub 0 ≠ odKey 0x2C00 2 0)
    (h8 : odKey idx sub 0 ≠ odKey 0x2D00 8 0) (h9 : odKey idx sub 0 ≠ odKey 0x2D00 9 0) : odVal idx sub b = odVal idx sub a :=
  h.values idx sub 0 h2 h8 h9

/-- An entry that launches alone leads, through what follows its launch, to what its action makes of the launched device. -/
theorem leads_launch {n action : Nat} {e : BoardEntry} {s : State} {c : Instr} {f : Device → Device} {v : Device} {P : Device → Prop}
    (h : LaunchesAlone n e s.dev) (ha : e.action = action) (h6 : action ≠ 0x06) (hx : exec c s = next s (launch n action))
    (hf : afterLaunch n (applyAction n e e.launch (launchedAt n e s.dev)) = f v) (hp : P v) : Leads f c s P :=
  leads_of_eq hx ((launch_alone h ha h6).trans hf) hp

end Sys2Proof.Machine
end

section
/-! SUPPORT. O26: what launches that change owners, homes, power, tables and keys do, and paired launches and placements that fail (R187, R234,
R265, R266, R367, R419, R422, R434, R438, R450, R542). -/

namespace Sys2Proof.Machine

/-! ## Owners and homes -/

/-- A hand-over in force: it is noted, and the owner bits of its channels flip. -/
def ownersFlipped (entry : Nat) (e : BoardEntry) (t : Nat) (d : Device) : Device :=
  let h : Handover := ⟨e.unit % 16, bits e.arg 15 8, e.arg % 2, entry, t, e.arg % 2 != d.side, true, false, false, false, none, false⟩
  setOwnerBits (e.unit % 16) (bits e.arg 15 8) (e.arg % 2) { d with peer := { d.peer with handovers := d.peer.handovers ++ [h] } }

theorem launchHandover_eq (entry : Nat) (e : BoardEntry) (t : Nat) (d : Device) : launchHandover entry e t d =
    refreshDirty (if e.arg % 2 = d.side then ownersFlipped entry e t d
      else leaveOps (e.unit % 16) (bits e.arg 15 8) (leaveRings (e.unit % 16) (bits e.arg 15 8) (ownersFlipped entry e t d))) := by
  have hs : (if e.arg % 2 == d.side then ownersFlipped entry e t d
      else leaveOps (e.unit % 16) (bits e.arg 15 8) (leaveRings (e.unit % 16) (bits e.arg 15 8) (ownersFlipped entry e t d))) =
      if e.arg % 2 = d.side then ownersFlipped entry e t d
      else leaveOps (e.unit % 16) (bits e.arg 15 8) (leaveRings (e.unit % 16) (bits e.arg 15 8) (ownersFlipped entry e t d)) := by
    simp only [beq_iff_eq]
  rw [← hs]
  rfl

/-- The move of a bucket is known. -/
def moveKnown (b side : Nat) (d : Device) : Device := if d.peer.moves.any (·.bucket == b) then d
  else { d with peer := { d.peer with moves := d.peer.moves ++ [⟨b, side, side != d.side, [], none, false, none, []⟩] } }

theorem moveKnown_any (b side : Nat) (d : Device) : ∃ m ∈ (moveKnown b side d).peer.moves, m.bucket = b := by
  unfold moveKnown
  split_ifs with h
  · simpa using h
  · exact ⟨_, List.mem_append_right _ (List.mem_singleton_self _), rfl⟩

theorem moveKnown_side (b side : Nat) (d : Device) : (moveKnown b side d).side = d.side := by
  unfold moveKnown
  split_ifs <;> rfl

theorem launchMove_eq (b side : Nat) (d : Device) : launchMove b side d = endReturn (setHome b side (onMove b (fun m => { m with launched := true })
    (if side != (moveKnown b side d).side then keepAccepted b (moveKnown b side d) else moveKnown b side d))) := rfl

/-- A bucket that comes here. -/
theorem launchMove_here (b : Nat) (d : Device) : launchMove b d.side d =
    endReturn (setHome b d.side (onMove b (fun m => { m with launched := true }) (moveKnown b d.side d))) := by
  rw [launchMove_eq, moveKnown_side, bne_self_eq_false, if_neg Bool.false_ne_true]

theorem onMove_launched {b side : Nat} {d : Device} :
    ∃ m ∈ (onMove b (fun m => { m with launched := true }) (moveKnown b side d)).peer.moves, m.bucket = b ∧ m.launched = true := by
  obtain ⟨m, hm, hb⟩ := moveKnown_any b side d
  exact ⟨_, onMove_mem _ hm hb, hb, rfl⟩

/-! ## Group power (R542) -/

theorem profileOf_congr {a b : Device} {g : Nat} (hm : b.media = a.media) (hv : odVal 0x3448 (g + 1) b = odVal 0x3448 (g + 1) a) :
    profileOf g b = profileOf g a := by
  unfold profileOf binding
  rw [hv, hm]

/-- GROUP_POWER_UP: the launch, then what READ ID finds. -/
def groupPoweredUp (n : Nat) (probe : List ProbeResult) (d : Device) : Device :=
  if (boardEntry n d).action != 8 then d else probeGroup ((boardEntry n d).unit % 16) probe (launch n 0x08 d)

theorem domainOn_setDomain (n : Nat) (on : Bool) (d : Device) : domainOn n (setDomain n on d) = (on && !domainFaulty n d) := by
  unfold domainOn setDomain
  rw [odVal_odPut, bit_setBit_same]

/-- The group's domain is on, and READ ID awaits. -/
theorem groupUp_probes {g : Nat} {d : Device} (hp : (profileOf g d).isSome) (ho : domainOn g d = false) (hf : domainFaulty g d = false) :
    domainOn g (groupUp g d) = true ∧ g ∈ (groupUp g d).media.probing := by
  obtain ⟨p, hp⟩ := Option.isSome_iff_exists.1 hp
  have hon : domainOn g (setDomain g true d) = true := by rw [domainOn_setDomain, hf]; rfl
  unfold groupUp
  rw [ho, hp, if_neg (by simp)]
  dsimp only
  rw [hon, if_pos rfl]
  exact ⟨hon, List.mem_append_right _ (List.mem_singleton_self _)⟩

/-- The group's domain is off, in standby no more, and READ ID awaits no more. -/
def groupOff (g : Nat) (d : Device) : Device :=
  let d := setStandby g false (setDomain g false d)
  { d with media := { d.media with probing := d.media.probing.filter (· != g) } }

theorem groupDown_eq (g : Nat) (d : Device) : groupDown g d = refreshDirty (groupOff g d) := rfl

theorem groupOff_off (g : Nat) (d : Device) : domainOn g (groupOff g d) = false ∧ g ∉ (groupOff g d).media.probing := by
  refine ⟨?_, fun h => absurd rfl (bne_iff_ne.1 (List.mem_filter.1 h).2)⟩
  have hs : domainOn g (setStandby g false (setDomain g false d)) = domainOn g (setDomain g false d) :=
    congrArg (bit · g) (odVal_odPut_other _ _ (by decide))
  exact hs.trans (domainOn_setDomain ..)

/-! ## The chunker table (R187) -/

/-- The staged entries of the chunker's table. -/
def gearStaged (d : Device) : List Nat := (List.range 256).map fun b => odSel 0x2610 2 (256 + b) d

/-- The staged table in force, and counted. -/
def gearCounted (d : Device) : Device := bumpVersion 0x2610 (odBump 0x2600 6 1 (gearPut id (gearStaged d) 0 (chunkRunning d)))

/-- It is programmed into the persistent area. -/
def gearInForce (d : Device) : Device := persist (gearCounted d)

theorem gearActivate_eq (d : Device) : gearActivate d = logEvent 0x0702 0x0042 0 (odVal 0x2600 6 (gearCounted d)) (gearInForce d) := rfl

theorem odSel_bumpVersion (win idx sub sel : Nat) (d : Device) : odSel idx sub sel (bumpVersion win d) = odSel idx sub sel d := rfl

theorem gearInForce_value {b : Nat} (hb : b < 256) (d : Device) : odSel 0x2610 2 b (gearInForce d) = odSel 0x2610 2 (256 + b) d := by
  have hlen : (gearStaged d).length = 256 := by simp [gearStaged]
  have hv : (gearStaged d)[b]? = some (odSel 0x2610 2 (256 + b) d) := by simp [gearStaged, hb]
  have hput := gearPut_value (f := id) (o := 0) (by omega) hv (chunkRunning d)
  rw [Nat.zero_add] at hput
  have hkey : odKey 0x2610 2 b ≠ odKey 0x2600 6 0 := by
    unfold odKey
    omega
  rw [gearInForce, (persist_valuesAsSent _).odSel, gearCounted, odSel_bumpVersion, odBump, odPut, odSel_odPutSel_other _ _ hkey]
  exact hput

theorem gearActivate_active (d : Device) : (∀ b, b < 256 → odSel 0x2610 2 b (gearActivate d) = odSel 0x2610 2 (256 + b) d) ∧
    Logged 0x0702 0x0042 0 (odVal 0x2600 6 (gearActivate d)) (gearActivate d) := by
  have hcount : odVal 0x2600 6 (gearInForce d) = odVal 0x2600 6 (gearCounted d) := (persist_valuesAsSent _).odSel 0x2600 6 0
  rw [gearActivate_eq]
  refine ⟨fun b hb => ?_, ?_⟩
  · exact (odSel_odPutSel_other _ _ (by unfold odKey; omega)).trans (gearInForce_value hb d)
  · rw [logEvent_odVal (by unfold CountKey odKey; omega), hcount]
    exact logEvent_logged ..

/-! ## Policy groups and slots (R234, R266) -/

/-- The search entries of a partition after its group command. -/
def groupCommanded (arg : Nat) (d : Device) : Device :=
  let f := fun (t : Tbl SearchEntry) =>
    (t.map fun e => if inPart (partRecord (bits arg 3 0) d) e.1 then (e.1, groupEntry (bits arg 11 8 == 1) e.2) else e).filter fun e =>
      decide (e.2 ≠ SearchEntry.blank)
  odBump 0x2B00 0x08 1 (bumpVersion 0x2B20 { d with cam := { d.cam with entries := f d.cam.entries, dram := f d.cam.dram, nv := f d.cam.nv } })

theorem applyPolicyGroup_eq (arg : Nat) (d : Device) : applyPolicyGroup arg d = logEvent 0x0803 0x0020 0
    (bits arg 11 8 * 2 ^ 36 + bits arg 3 0 * 2 ^ 32 + odVal 0x2B00 8 (groupCommanded arg d) % 2 ^ 32) (groupCommanded arg d) := rfl

/-- The event names the count of group commands, which it leaves. -/
theorem applyPolicyGroup_logged (arg : Nat) (d : Device) : Logged 0x0803 0x0020 0
    (bits arg 11 8 * 2 ^ 36 + bits arg 3 0 * 2 ^ 32 + odVal 0x2B00 8 (applyPolicyGroup arg d) % 2 ^ 32) (applyPolicyGroup arg d) := by
  have hv : odVal 0x2B00 8 (applyPolicyGroup arg d) = odVal 0x2B00 8 (groupCommanded arg d) := by
    rw [applyPolicyGroup_eq]
    exact logEvent_odVal (by unfold CountKey odKey; omega)
  rw [hv, applyPolicyGroup_eq]
  exact logEvent_logged ..

theorem slotRetire_active {n : Nat} {d : Device} (h : (slotOf n d).st = .active) :
    slotOf n (slotRetire n d) = { slotOf n d with st := .decryptOnly } := by
  unfold slotRetire
  dsimp only
  rw [h, if_pos (by rfl)]
  exact putSlot_slotOf ..

/-! ## Paired launches and placements that fail (R422) -/

/-- The launch of entry `n` that the other peer did not report is marked, counted and logged. -/
def mismatchMarked (n : Nat) (r : Nat × Nat × Nat) (d : Device) : Device :=
  let d := waitUntil (r.2.2 + us 10) d
  let d := { d with board := { d.board with reports := d.board.reports.filter (· != r) } }
  logEvent 0x0D05 0x0051 2 (n * 2 ^ 32 + r.2.1 % 2 ^ 32) (odBump 0x2C00 0x0A 1 (putEntry n { boardEntry n d with mismatch := true } d))

theorem launchMismatch_eq {n : Nat} {r : Nat × Nat × Nat} {d : Device} (hr : d.board.reports.find? (·.1 == n) = some r)
    (hl : linkIsUp d = true) (hh : ∀ h ∈ d.peer.handovers, h.entry ≠ n) : launchMismatch n d = mismatchMarked n r d := by
  have hl' : linkIsUp { waitUntil (r.2.2 + us 10) d with board := { (waitUntil (r.2.2 + us 10) d).board with
      reports := (waitUntil (r.2.2 + us 10) d).board.reports.filter (· != r) } } = true := by
    rw [← hl]
    unfold linkIsUp linkPhysical
    simp only [waitUntil_peer]
  have hnone : ∀ p : Handover → Bool, (mismatchMarked n r d).peer.handovers.find? (fun h => h.entry == n && p h) = none := by
    intro p
    have hp : (mismatchMarked n r d).peer = d.peer := waitUntil_peer ..
    rw [hp, List.find?_eq_none]
    intro h hm
    simp [hh h hm]
  unfold launchMismatch
  rw [hr]
  dsimp only
  rw [hl', if_neg (by decide)]
  have := hnone fun _ => (boardEntry n { waitUntil (r.2.2 + us 10) d with board := { (waitUntil (r.2.2 + us 10) d).board with
      reports := (waitUntil (r.2.2 + us 10) d).board.reports.filter (· != r) } }).action == 4
  unfold mismatchMarked at this
  dsimp only at this
  rw [this]
  rfl

/-- A paired placement that was not armed in time is a placement no more. -/
def placementDropped (p : Placement) (n : Nat) (d : Device) : Device :=
  let d := waitTick (p.body.launch - 1600) d
  { d with board := { d.board with placing := d.board.placing.filter (·.entry != n) } }

theorem placementDropped_counter (p : Placement) (n : Nat) (d : Device) :
    p.body.launch - 1600 ≤ (placementDropped p n d).time.counter := by
  have h := waitTick_counter (p.body.launch - 1600) d
  rw [placementDropped]
  dsimp only
  rw [h]
  exact le_max_left ..

theorem placementDropped_gone {p q : Placement} {n : Nat} {d : Device} (h : q ∈ (placementDropped p n d).board.placing) : q.entry ≠ n := by
  rw [placementDropped] at h
  dsimp only at h
  exact bne_iff_ne.1 (List.mem_filter.1 h).2

/-- PAIRED_PLACEMENT_DEADLINE of entry `n`. -/
def placementDue (n : Nat) (d : Device) : Device :=
  match d.board.placing.find? (·.entry == n) with
  | none => d
  | some p => placeWaiting (placeAgain p.body p.who (sendLink (.cancel n) (placementDropped p n d)))

/-- Settles O26: each launch by the effect of its action on the device that the launch leaves. -/
theorem boardActions : Obligations.BoardActions := by
  unfold Obligations.BoardActions
  intro s n
  refine ⟨fun e hl => ?launched, fun r hr hl hh => ?mismatch, fun p hp => ?deadline⟩
  case launched =>
    have hk := launchedAt_stays hl
    refine ⟨fun ha => ?handover, fun ha hs => ?move, fun probe ha hp ho hf => ?up, fun ha => ?down, fun ha => ?gear, fun ha => ?policy,
      fun ha => ?retire, fun ha => ?erase⟩
    case handover =>
      have hx : applyAction n e e.launch (launchedAt n e s.dev) = launchHandover n e e.launch (launchedAt n e s.dev) := by simp only [applyAction, ha]
      refine leads_launch hl ha (by decide) rfl (v := ownersFlipped n e e.launch (launchedAt n e s.dev)) ?_ ⟨?_, fun k hk8 hg hm => ?_⟩
      · rw [hx, launchHandover_eq, hk.side]
      · exact ⟨_, List.mem_append_right _ (List.mem_singleton_self _), rfl, rfl, rfl, rfl⟩
      · exact setOwnerBits_bit (by simpa [hk.owners] using hg) hk8 hm
    case move =>
      have hx : applyAction n e e.launch (launchedAt n e s.dev) =
          launchMove (e.arg % 4096) (launchedAt n e s.dev).side (launchedAt n e s.dev) := by
        simp only [applyAction, ha, hk.side, hs]
      refine leads_launch hl ha (by decide) rfl (v := onMove (e.arg % 4096) (fun m => { m with launched := true })
        (moveKnown (e.arg % 4096) s.dev.side (launchedAt n e s.dev))) ?_ onMove_launched
      rw [hx, launchMove_here, hk.side]
    case up =>
      have hx : applyAction n e e.launch (launchedAt n e s.dev) = groupUp (e.unit % 16) (launchedAt n e s.dev) := by simp only [applyAction, ha]
      have hon : domainOn (e.unit % 16) (launchedAt n e s.dev) = false :=
        (congrArg (bit · (e.unit % 16)) (hk.odVal (by decide) (by decide) (by decide))).trans ho
      have hfaulty : domainFaulty (e.unit % 16) (launchedAt n e s.dev) = false :=
        (congrArg (bit · (e.unit % 16)) (hk.odVal (by decide) (by decide) (by decide))).trans hf
      have hprofile : profileOf (e.unit % 16) (launchedAt n e s.dev) = profileOf (e.unit % 16) s.dev :=
        profileOf_congr hk.media (hk.odVal (by unfold odKey; omega) (by unfold odKey; omega) (by unfold odKey; omega))
      refine leads_of_eq (g := groupPoweredUp n probe) rfl ?_ (groupUp_probes (hprofile ▸ hp) hon hfaulty)
      have hb : boardEntry n s.dev = e := hl.1
      rw [groupPoweredUp, hb, ha, launch_alone hl ha (by decide), hx]
      rfl
    case down =>
      have hx : applyAction n e e.launch (launchedAt n e s.dev) = refreshDirty (groupOff (e.unit % 16) (launchedAt n e s.dev)) := by
        simp only [applyAction, ha, groupDown_eq]
      exact leads_launch hl ha (by decide) rfl (congrArg (afterLaunch n) hx) (groupOff_off ..)
    case gear =>
      have hx : applyAction n e e.launch (launchedAt n e s.dev) = gearActivate (launchedAt n e s.dev) := by simp only [applyAction, ha]
      obtain ⟨hactive, hlog⟩ := gearActivate_active (launchedAt n e s.dev)
      refine leads_launch hl ha (by decide) rfl (congrArg (afterLaunch n) hx) ⟨fun b hb => (hactive b hb).trans ?_, hlog⟩
      exact hk.values _ _ _ (by unfold odKey; omega) (by unfold odKey; omega) (by unfold odKey; omega)
    case policy =>
      have hx : applyAction n e e.launch (launchedAt n e s.dev) = applyPolicyGroup e.arg (launchedAt n e s.dev) := by simp only [applyAction, ha]
      exact leads_launch hl ha (by decide) rfl (congrArg (afterLaunch n) hx) ⟨rfl, applyPolicyGroup_logged ..⟩
    case retire =>
      have hx : applyAction n e e.launch (launchedAt n e s.dev) = slotRetire (e.arg % 4096) (launchedAt n e s.dev) := by simp only [applyAction, ha]
      have hslot : slotOf (e.arg % 4096) (launchedAt n e s.dev) = slotOf (e.arg % 4096) s.dev := by rw [slotOf, slotOf, hk.cipher]
      refine leads_launch hl ha (by decide) rfl (congrArg (afterLaunch n) hx) fun hact => ?_
      rw [slotRetire_active (by rwa [hslot]), hslot]
    case erase =>
      have hx : applyAction n e e.launch (launchedAt n e s.dev) = tenantErase (e.arg % 65536) (launchedAt n e s.dev) := by simp only [applyAction, ha]
      exact leads_launch hl ha (by decide) rfl (congrArg (afterLaunch n) hx) rfl
  case mismatch =>
    refine gives_of_eq (f := launchMismatch n) rfl ?_
    rw [launchMismatch_eq hr hl hh]
    exact ⟨le_waitUntil .., congrArg BoardEntry.mismatch (boardEntry_putEntry ..), logEvent_logged ..⟩
  case deadline =>
    refine leads_of_eq (g := placementDue n) (u := placementDropped p n s.dev) rfl ?_ ⟨?_, fun q hq => ?_⟩
    · rw [placementDue, hp]
    · exact placementDropped_counter p n s.dev
    · exact placementDropped_gone hq

end Sys2Proof.Machine
end

section
/-! SUPPORT. The standing of the device: its peer state, its own liveness, the arbiter's decision and the state of the hold-up test, which no
work of the hosts changes; here through messages, copies, locks and the ends of commands (R147, R198, R203 to R207, R443, R556). -/

namespace Sys2Proof.Machine

/-- Peer state, own liveness, the arbiter's decision and the state of the hold-up test. -/
def standing (d : Device) : Nat × Bool × Nat × Nat := (d.peer.st, d.peer.aliveOut, d.peer.arbDecision, odVal 0x2240 0x0A d)

theorem standing_foldl {α : Type} {f : Device → α → Device} (hf : ∀ d x, standing (f d x) = standing d) (l : List α) (d : Device) :
    standing (l.foldl f d) = standing d := foldl_eq_of_step standing hf l d

/-! ## Values, messages, completions -/

theorem Spoke.standing {a b : Device} (h : Spoke a b) : standing b = standing a := by
  unfold Machine.standing
  rw [h.peer, h.odVal (not_countKey (by decide) (by decide))]

theorem standing_odPut {idx sub : Nat} (h : odKey 0x2240 0x0A 0 ≠ odKey idx sub 0) (v : Nat) (d : Device) :
    standing (odPut idx sub v d) = standing d := by
  unfold standing
  rw [odVal_odPut_other v d h]
  rfl

theorem standing_odBump {idx sub : Nat} (h : odKey 0x2240 0x0A 0 ≠ odKey idx sub 0) (n : Nat) (d : Device) :
    standing (odBump idx sub n d) = standing d := standing_odPut h _ d

theorem standing_logEvent (code unit severity detail : Nat) (d : Device) : standing (logEvent code unit severity detail d) = standing d :=
  (logEvent_spoke ..).standing

theorem standing_complete (q : QueueRef) (t : CmdTag) (st : Status) (dw0 dw1 : Nat) (data : Bytes) (d : Device) :
    standing (complete q t st dw0 dw1 data d) = standing d := by
  obtain ⟨u, m, hu, he⟩ := complete_eq q t st dw0 dw1 data d
  rw [he]
  exact hu.standing

/-! A view of the device that sending, the ports, the administration and the conditions leave alone is left alone by the events of the
hosts and by the conditions themselves. -/

section
variable {β : Type} {f : Device → β} (hs : ∀ {a b : Device}, Spoke a b → f b = f a)
  (hp : ∀ (d : Device) (x : PortsState), f { d with ports := x } = f d) (ha : ∀ (d : Device) (x : AdminState), f { d with admin := x } = f d)
include hs hp

theorem aenUpdate_unseen (g : Assoc → Assoc × Option (QueueRef × CmdTag × Nat)) (d : Device) : f (aenUpdate g d) = f d := by
  refine (foldl_eq_of_step f (fun d x => ?_) _ { d with ports := _ }).trans (hp ..)
  split
  · exact hs (complete_spoke ⟨rfl, rfl⟩)
  · rfl

include ha

theorem refreshWarning_unseen (d : Device) : f (refreshWarning d) = f d := by
  refine (foldl_eq_of_step f (fun d n => ?_) _ { d with admin := _ }).trans (ha ..)
  split_ifs
  · exact aenUpdate_unseen hs hp ..
  · rfl

theorem setCond_unseen (hc : ∀ (d : Device) (x : Nat), f { d with conditions := x } = f d) (n : Nat) (b : Bool) (d : Device) :
    f (setCond n b d) = f d := by
  have hl : f (refreshWarning (aenPost (fun _ => true) 7 0x00 0xC5 0 (logEvent 0x0201 0x0040 (b2n b) (n * 256 + b2n b)
      { d with conditions := setBit d.conditions n b }))) = f d :=
    (refreshWarning_unseen hs hp ha _).trans ((aenUpdate_unseen hs hp ..).trans ((hs (logEvent_spoke ..)).trans (hc ..)))
  unfold setCond
  dsimp only
  split_ifs
  · rfl
  · exact (hs (raiseEmcy_spoke ..)).trans hl
  · exact (hs (clearEmcy_spoke ..)).trans hl
  · exact (hs (raiseEmcy_spoke ..)).trans hl
  · exact (hs (clearEmcy_spoke ..)).trans hl
  · exact hl

end

theorem standing_aenUpdate (g : Assoc → Assoc × Option (QueueRef × CmdTag × Nat)) (d : Device) : standing (aenUpdate g d) = standing d :=
  aenUpdate_unseen Spoke.standing (fun _ _ => rfl) ..

theorem standing_setCond (n : Nat) (b : Bool) (d : Device) : standing (setCond n b d) = standing d :=
  setCond_unseen Spoke.standing (fun _ _ => rfl) (fun _ _ => rfl) (fun _ _ => rfl) ..

theorem setCond_stripe (n : Nat) (b : Bool) (d : Device) : (setCond n b d).stripe = d.stripe :=
  setCond_unseen (f := Device.stripe) (fun h => h.store.2.1) (fun _ _ => rfl) (fun _ _ => rfl) (fun _ _ => rfl) ..

theorem standing_sendLink (m : LinkMsg) (d : Device) : standing (sendLink m d) = standing d := by
  have hp := (sendLink_linkWorked m d).peerState.1
  have hv := (sendLink_linkCounted m d).odVal (idx := 0x2240) (sub := 0x0A) (by decide) (by decide)
  have ha : (sendLink m d).peer.aliveOut = d.peer.aliveOut ∧ (sendLink m d).peer.arbDecision = d.peer.arbDecision := by
    obtain ⟨_, _, _, _, _, e, -⟩ := sendLink_linkWorked m d
    rw [e]
    exact ⟨rfl, rfl⟩
  unfold standing
  rw [hp, hv, ha.1, ha.2]

theorem standing_sendAll (ms : List LinkMsg) (d : Device) : standing (sendAll ms d) = standing d :=
  standing_foldl (fun d m => standing_sendLink m d) _ d

theorem standing_sendSecure (m : SecureMsg) (d : Device) : standing (sendSecure m d) = standing d := by
  unfold sendSecure
  split_ifs
  · rfl
  · exact standing_sendLink _ { d with sec := { d.sec with sendCount := d.sec.sendCount + 1 } }

/-! ## The hot set, map pages, copies -/

theorem standing_hotInsert (domain : Nat) (fp : Bytes) (copy : Nat) (d : Device) : standing (hotInsert domain fp copy d) = standing d := by
  unfold hotInsert
  split
  · rfl
  · dsimp only
    split_ifs <;> rfl

theorem standing_hotRemove (domain : Nat) (fp : Bytes) (copy : Nat) (d : Device) : standing (hotRemove domain fp copy d) = standing d := by
  unfold hotRemove
  split
  · rfl
  · split
    · split_ifs <;> rfl
    · rfl

theorem standing_touchMap (typ : Nat) (key : Bytes) (d : Device) : standing (touchMap typ key d) = standing d := by
  have he : ∀ d, standing (evictPages d) = standing d := by
    intro d
    unfold evictPages
    dsimp only
    split_ifs
    · rfl
    · split <;> rfl
  unfold touchMap applyPage
  dsimp only
  split
  · rfl
  · exact he _

theorem standing_settleSalt (dom : Nat) (d : Device) : standing (settleSalt dom d) = standing d := by
  unfold settleSalt
  split_ifs
  · rfl
  · exact standing_logEvent _ _ _ _ { d with kv := { d.kv with salts := tblDel d.kv.salts dom } }

theorem standing_invalidateCopy (c : Copy) (d : Device) : standing (invalidateCopy c d) = standing d := by
  unfold invalidateCopy
  dsimp only
  split_ifs
  · rfl
  · exact (standing_sendLink ..).trans (standing_foldl (fun _ _ => by rfl) _ d)

theorem standing_killCopy (c : Copy) (d : Device) : standing (killCopy c d) = standing d := by
  have hb : standing (buryCopy c d) = standing d := (standing_invalidateCopy ..).trans (standing_hotRemove ..)
  exact (standing_settleSalt ..).trans ((standing_touchMap ..).trans hb)

theorem standing_pinCopy (c : Copy) (d : Device) : standing (pinCopy c d) = standing d := by
  have hp : standing (odBump 0x2600 0x0D 1 (logEvent 0x0701 0x0042 1 (c.domain * 2 ^ 48 + c.num)
      (hotRemove c.domain c.fp c.num (onCopy c.domain c.fp c.num (fun c => { c with pinned := true }) d)))) = standing d :=
    (standing_odBump (by decide) ..).trans ((standing_logEvent ..).trans (standing_hotRemove ..))
  exact (standing_touchMap ..).trans hp

theorem standing_claimAt (dom : Nat) (fp : Bytes) (who : Bool × Nat) (d : Device) : standing (claimAt dom fp who d).2 = standing d := by
  have hc : ∀ num, standing (claimCounted dom fp num d) = standing d := by
    intro num
    refine (standing_odBump (by decide) ..).trans ((standing_hotInsert ..).trans ?_)
    split_ifs
    · exact standing_odBump (by decide) ..
    · exact standing_odBump (by decide) ..
  cases hm : matchableCopy dom fp d with
  | none =>
    have hb : standing (odBump 0x2600 0x0A 1 (odBump 0x2600 0x0C 1 d)) = standing d :=
      (standing_odBump (by decide) ..).trans (standing_odBump (by decide) ..)
    rw [claimAt_new hm]
    exact (standing_hotInsert ..).trans hb
  | some c =>
    have he : claimAt dom fp who d = (⟨false, c.num, c.present⟩,
        if c.refs + 1 == refMax then pinCopy c (onCopy dom fp c.num (Copy.claimed who) (claimCounted dom fp c.num d))
        else onCopy dom fp c.num (Copy.claimed who) (claimCounted dom fp c.num d)) := by
      unfold claimAt
      rw [hm]
      rfl
    rw [he]
    dsimp only
    split_ifs
    · exact (standing_pinCopy ..).trans (hc c.num)
    · exact hc c.num

theorem standing_sendFpReq (r : LinkReq) (d : Device) : standing (sendFpReq r d) = standing d := by
  unfold sendFpReq
  split
  · exact standing_sendLink ..
  · exact standing_sendLink ..
  · exact standing_sendLink ..
  · rfl

theorem standing_newReq (what : ReqFor) (domain : Nat) (fp : Bytes) (copy : Nat) (d : Device) :
    standing (newReq what domain fp copy d).2 = standing d := rfl

theorem standing_askOwner (what : ReqFor) (dom : Nat) (fp : Bytes) (num : Nat) (d : Device) : standing (askOwner what dom fp num d) = standing d := by
  unfold askOwner
  dsimp only
  split_ifs
  · exact (standing_sendFpReq ..).trans (standing_newReq ..)
  · exact standing_newReq ..

theorem standing_releaseAt (dom : Nat) (fp : Bytes) (num : Nat) (who : Bool × Nat) (d : Device) :
    standing (releaseAt dom fp num who d) = standing d := by
  unfold releaseAt
  split
  · rfl
  · dsimp only
    split_ifs
    · rfl
    · exact standing_killCopy ..
    · exact (standing_settleSalt ..).trans (standing_hotRemove ..)
    · rfl
    · split
      · rfl
      next here id _ _ =>
        have hlog : ∀ u : Device, standing u = standing d → standing (logEvent 0x0703 0x0042 0 (dom * 2 ^ 48 + num) u) = standing d :=
          fun u h => (standing_logEvent ..).trans h
        split_ifs
        · exact hlog _ rfl
        · exact (standing_sendLink ..).trans (hlog _ rfl)

theorem standing_releaseClaim (dom : Nat) (fp : Bytes) (num cmd : Nat) (claim : Option Nat) (d : Device) :
    standing (releaseClaim dom fp num cmd claim d) = standing d := by
  unfold releaseClaim
  split_ifs
  · exact standing_releaseAt ..
  · split
    · exact standing_askOwner ..
    · dsimp only
      split_ifs
      · exact standing_sendFpReq ..
      · rfl

theorem standing_presentAt (dom : Nat) (fp : Bytes) (num : Nat) (d : Device) : standing (presentAt dom fp num d) = standing d := by
  unfold presentAt
  split
  · rfl
  · split_ifs
    · rfl
    · exact standing_foldl (fun d w => standing_sendLink _ d) _ (copyStored dom fp num d)

theorem standing_markPresent (dom : Nat) (fp : Bytes) (num : Nat) (d : Device) : standing (markPresent dom fp num d) = standing d := by
  unfold markPresent
  split
  · rfl
  · dsimp only
    split_ifs
    · rfl
    · exact standing_presentAt ..
    · exact (standing_askOwner ..).trans (standing_presentAt ..)

theorem standing_loseCopy (dom : Nat) (fp : Bytes) (num : Nat) (d : Device) : standing (loseCopy dom fp num d) = standing d := by
  have ht : ∀ d, standing (truncateLost d) = standing d := by
    intro d
    unfold truncateLost
    dsimp only
    split_ifs
    · rfl
    · exact standing_logEvent _ _ _ _ { d with stripe := _ }
  have ha : ∀ (cls id bitmap : Nat) (d : Device), standing (addLost 2 cls id bitmap 1 d) = standing d := by
    intro cls id bitmap d
    unfold addLost
    refine (standing_setCond ..).trans ?_
    split_ifs
    · exact ht d
    · rfl
  unfold loseCopy
  split
  · rfl
  · dsimp only
    split_ifs
    · rfl
    · refine (standing_hotRemove ..).trans (standing_foldl (fun d id => ?_) _ d)
      exact (standing_logEvent ..).trans (ha ..)

/-! ## Ends of commands -/

theorem standing_pumpLocks (n cmd : Nat) (d : Device) : standing (pumpLocks n cmd d) = standing d := by
  induction n generalizing d with
  | zero => rfl
  | succ n ih =>
    unfold pumpLocks
    split
    · rfl
    · split_ifs
      · exact ih _
      · exact ih _
      · rfl

theorem standing_countHost (c : Cmd) (st : Status) (data : Bytes) (d : Device) : standing (countHost c st data d) = standing d := by
  obtain ⟨m, h⟩ := countHost_eq c st data d
  rw [h]
  rfl

theorem standing_postFor (c : Cmd) (st : Status) (dw0 dw1 : Nat) (data : Bytes) (d : Device) :
    standing (postFor c st dw0 dw1 data d) = standing d := by
  unfold postFor
  split
  · dsimp only
    split_ifs
    · exact standing_sendLink ..
    · exact (standing_sendLink ..).trans (standing_sendLink ..)
  · split_ifs
    · rfl
    · rfl
    · exact (standing_countHost ..).trans (standing_complete ..)

theorem standing_releaseFlushed (ns : Nat) (i : Item) (d : Device) : standing (releaseFlushed ns i d) = standing d := by
  unfold releaseFlushed
  split_ifs <;> rfl

/-- What an item's end gives up of its claims and its mirrored records, before its manifest and its flushed records go. -/
def itemReleased (cmd : Nat) (i : Item) (d : Device) : Device :=
  let d := i.chunks.foldl (fun d w =>
    match w.claimed, w.copy with
    | true, some n => releaseClaim i.domain w.fp n cmd w.claim d
    | _, _ => d) d
  match i.write with
  | some w => sendLink (.mirrorRelease [w]) d
  | none => d

theorem standing_itemReleased (cmd : Nat) (i : Item) (d : Device) : standing (itemReleased cmd i d) = standing d := by
  have hc : standing (i.chunks.foldl (fun d w => match w.claimed, w.copy with
      | true, some n => releaseClaim i.domain w.fp n cmd w.claim d
      | _, _ => d) d) = standing d := by
    refine standing_foldl (fun d w => ?_) _ d
    split
    · exact standing_releaseClaim ..
    · rfl
  unfold itemReleased
  dsimp only
  split
  · exact (standing_sendLink ..).trans hc
  · exact hc

theorem standing_discardItem (cmd : Nat) (i : Item) (d : Device) : standing (discardItem cmd i d) = standing d :=
  (standing_releaseFlushed ..).trans (standing_itemReleased cmd i d)

theorem standing_endRemote (c : Cmd) (f : Nat) (d : Device) : standing (endRemote c f d) = standing d := by
  unfold endRemote
  split_ifs
  · exact standing_sendLink ..
  · rfl
  · rfl
  · rfl
  · exact standing_sendLink ..

theorem standing_ackInvalidates (d : Device) : standing (ackInvalidates d) = standing d :=
  standing_foldl (fun d _ => standing_sendLink _ d) _ (acksSettled d)

theorem standing_removeCmd (c : Cmd) (d : Device) : standing (removeCmd c d) = standing d := by
  unfold removeCmd
  dsimp only
  split
  · exact (standing_endRemote ..).trans (standing_ackInvalidates _)
  · exact standing_ackInvalidates _

theorem standing_doneCmd (id : Nat) (st : Status) (dw0 dw1 : Nat) (data : Bytes) (d : Device) :
    standing (doneCmd id st dw0 dw1 data d) = standing d := by
  unfold doneCmd
  split
  · rfl
  · exact (standing_postFor ..).trans (standing_removeCmd ..)

theorem standing_failCmd (id : Nat) (st : Status) (dw0 : Nat) (d : Device) : standing (failCmd id st dw0 d) = standing d := by
  unfold failCmd
  split
  · rfl
  next c _ =>
    have hi := standing_foldl (fun d i => standing_discardItem id i d) c.items d
    dsimp only
    refine (standing_postFor ..).trans ((standing_removeCmd ..).trans ?_)
    split
    · exact hi
    · exact hi

end Sys2Proof.Machine
end

section
/-! SUPPORT. The standing of the device through the commands of the hosts: forwarding, reads, reductions, writes and every step that commands take
of themselves (R20, R148 to R152, R193 to R200, R281). -/

namespace Sys2Proof.Machine

/-! ## Forwarding and reads -/

theorem standing_addCmd (f : Nat → Cmd) (d : Device) : standing (addCmd f d).2 = standing d := rfl

theorem standing_sendCmd (id : Nat) (d : Device) : standing (sendCmd id d) = standing d := by
  unfold sendCmd
  split
  · rfl
  next c _ =>
    have hr : ∀ r : Nat × Device, standing r.2 = standing d → standing (sendLink (.fwdCmd r.1 c.q.port c.q.assoc c.q.qid c.cls c.seq
        ⟨c.sqe, c.data.take (blockBytes c.sqe), (c.data.take (blockBytes c.sqe)).length⟩)
        (onCmd id (fun c => { c with fwdTo := some r.1, phase := .forwarded }) r.2)) = standing d :=
      fun r h => (standing_sendLink ..).trans h
    dsimp only
    split_ifs
    · refine hr _ ?_
      split <;> rfl
    · refine (standing_sendLink ..).trans (hr _ ?_)
      split <;> rfl

theorem standing_forwardCmd (id : Nat) (d : Device) : standing (forwardCmd id d) = standing d :=
  (standing_sendCmd ..).trans (standing_odBump (by decide) ..)

theorem standing_forwardPart (c : Cmd) (cap : Capsule) (d : Device) : standing (forwardPart c cap d).2 = standing d :=
  (standing_sendCmd ..).trans (standing_addCmd ..)

theorem standing_askUnits (cmd prio : Nat) (extents : List Extent) (d : Device) : standing (askUnits cmd prio extents d) = standing d :=
  standing_foldl (fun _ _ => standing_foldl (fun _ _ => (standing_sendLink ..).trans (standing_newReq ..)) _ _) _ _

theorem standing_peerMember (stripe unit : Nat) (d : Device) : standing (peerMember stripe unit d).2 = standing d := by
  unfold peerMember
  dsimp only
  split <;> rfl

theorem standing_locateCopy (cmd : Nat) (m : Manifest) (ch : ChunkRef) (d : Device) : standing (locateCopy cmd m ch d) = standing d :=
  standing_sendLink ..

theorem standing_postHost (bucket : Nat) (w : WorkDesc) (d : Device) : standing (postHost bucket w d) = standing d := rfl

theorem standing_readHere (id : Nat) (c : Cmd) (m : Manifest) (x : Copy) (d : Device) : standing (readHere id c m x d) = standing d :=
  (standing_postHost ..).trans (standing_askUnits ..)

theorem standing_cacheHit (c : CacheEntry) (d : Device) : standing (cacheHit c d) = standing d := standing_odBump (by decide) ..

theorem standing_admitRead (dom : Nat) (fp : Bytes) (num slot : Nat) (plain : Bytes) (d : Device) :
    standing (admitRead dom fp num slot plain d) = standing d := by
  unfold admitRead
  dsimp only
  split_ifs <;> rfl

theorem standing_tagFailed (f : Fetch) (d : Device) :
    standing (logEvent 0x0904 0x0030 2 (f.domain * 2 ^ 48 + f.slot * 2 ^ 32 + f.num) (odBump 0x2800 6 1 d)) = standing d := by
  have hb : standing (odBump 0x2800 6 1 d) = standing d := standing_odBump (by decide) ..
  exact (standing_logEvent ..).trans hb

theorem standing_putFetch (f : Fetch) (d : Device) : standing (putFetch f d) = standing d := rfl

theorem standing_onCmd (id : Nat) (f : Cmd → Cmd) (d : Device) : standing (onCmd id f d) = standing d := rfl

theorem standing_endFetch (id : Nat) (d : Device) : standing (endFetch id d) = standing d := rfl

theorem standing_readOn (n id : Nat) (d : Device) : standing (readOn n id d) = standing d := by
  induction n generalizing d with
  | zero => rfl
  | succ n ih =>
    have hmiss : standing (odBump 0x2640 5 1 d) = standing d := standing_odBump (by decide) ..
    unfold readOn
    split
    · rfl
    next c _ =>
      split
      · exact standing_failCmd ..
      next m _ =>
        dsimp only
        split
        next f _ =>
          split
          · rfl
          · split
            · exact (standing_failCmd ..).trans (standing_loseCopy ..)
            · split
              · exact standing_failCmd ..
              · exact ih _
              next stripe unit _ =>
                split
                · exact (ih _).trans ((standing_putFetch ..).trans (standing_peerMember stripe unit d))
                · exact (standing_sendLink ..).trans ((standing_newReq ..).trans (standing_peerMember ..))
              · split
                next v _ =>
                  have ha : standing (admitRead f.domain f.fp f.num f.slot v (endFetch id d)) = standing d :=
                    (standing_admitRead ..).trans (standing_endFetch ..)
                  exact (ih _).trans ((standing_onCmd ..).trans ha)
                · exact (ih _).trans ((standing_putFetch ..).trans (standing_tagFailed f d))
                · exact standing_failCmd ..
                · exact standing_failCmd ..
        · split
          · exact standing_doneCmd ..
          · split
            · exact standing_doneCmd ..
            · split
              next e _ => exact (ih _).trans ((standing_onCmd ..).trans (standing_cacheHit e d))
              · split
                · split
                  · exact (standing_failCmd ..).trans hmiss
                  · split
                    · split
                      · exact (standing_failCmd ..).trans hmiss
                      · split
                        · refine (ih _).trans ((standing_onCmd ..).trans ?_)
                          exact hmiss
                        · exact (standing_failCmd ..).trans hmiss
                    · split
                      · exact (standing_failCmd ..).trans hmiss
                      · exact (standing_failCmd ..).trans hmiss
                      · exact (standing_readHere ..).trans hmiss
                · split
                  · exact (standing_locateCopy ..).trans ((standing_onCmd ..).trans hmiss)
                  · exact (standing_failCmd ..).trans hmiss

theorem standing_startRead (id : Nat) (d : Device) : standing (startRead id d) = standing d := by
  unfold startRead
  split
  · rfl
  · dsimp only
    split
    · exact standing_failCmd ..
    · split
      · have hb : standing (odBump 0x2A00 0x0C 1 d) = standing d := standing_odBump (by decide) ..
        exact (standing_onCmd ..).trans hb
      · split
        · exact standing_doneCmd ..
        · exact standing_failCmd ..
      · split
        · exact standing_failCmd ..
        · split
          · exact standing_failCmd ..
          · split_ifs
            · exact standing_failCmd ..
            · exact standing_readOn ..

/-! ## Range commands -/

theorem standing_answerRange (c : Cmd) (keys : List Bytes) (more : Bool) (d : Device) : standing (answerRange c keys more d) = standing d := by
  unfold answerRange
  split
  · rfl
  · exact (standing_sendLink ..).trans (standing_sendLink ..)

theorem standing_doList (id : Nat) (d : Device) : standing (doList id d) = standing d := by
  unfold doList
  split
  · rfl
  · dsimp only
    split_ifs
    · exact standing_answerRange ..
    · exact standing_doneCmd ..

theorem standing_rangeNext (id : Nat) (d : Device) : standing (rangeNext id d) = standing d := by
  unfold rangeNext
  split
  · rfl
  · split
    · exact standing_doneCmd ..
    · dsimp only
      split
      · rfl
      · split
        · split
          · exact standing_failCmd ..
          · exact standing_sendLink ..
        · exact standing_failCmd ..

theorem standing_startRangeDelete (id : Nat) (d : Device) : standing (startRangeDelete id d) = standing d := by
  unfold startRangeDelete
  split
  · rfl
  · dsimp only
    split_ifs
    · exact standing_answerRange ..
    · exact standing_failCmd ..
    · exact standing_failCmd ..
    · exact standing_rangeNext ..

theorem standing_gatherRange (id : Nat) (d : Device) : standing (gatherRange id d) = standing d := by
  unfold gatherRange
  split
  · rfl
  · exact standing_forwardPart ..

/-! ## Writes: claims, chunks, mirrors -/

theorem standing_drawBytes (n : Nat) (d : Device) : standing (drawBytes n d).2 = standing d := by
  induction n generalizing d with
  | zero => rfl
  | succ n ih => exact (ih (draw d).2).trans rfl

theorem standing_ensureSalt (dom : Nat) (d : Device) : standing (ensureSalt dom d) = standing d := by
  unfold ensureSalt
  split
  · rfl
  · exact (standing_sendSecure ..).trans (standing_drawBytes 2 d)

theorem standing_startReduce (id : Nat) (d : Device) : standing (startReduce id d) = standing d := by
  unfold startReduce
  split
  · rfl
  · dsimp only
    refine (standing_foldl (fun d x => ?_) _ _).trans (standing_foldl (fun d i => ?_) _ _)
    · split_ifs
      · rfl
      · exact standing_postHost ..
    · split_ifs
      · rfl
      · exact standing_ensureSalt ..

theorem standing_claimAnswered (id n k : Nat) (a : ClaimAnswer) (d : Device) : standing (claimAnswered id n k a d) = standing d := by
  unfold claimAnswered engineSeesClaim
  split <;> rfl

theorem standing_claimChunk (id n k dom : Nat) (fp : Bytes) (d : Device) : standing (claimChunk id n k dom fp d) = standing d := by
  unfold claimChunk
  split_ifs
  · exact (standing_claimAnswered ..).trans (standing_claimAt ..)
  · exact standing_sendLink _ (newReq (.claim id n k) dom fp 0 d).2
  · exact standing_claimAnswered _ _ _ _ (claimDetached dom fp (true, id) d).2
  · rfl

theorem standing_driveItem (c : Cmd) (n : Nat) (i : Item) (d : Device) : standing (driveItem c n i d) = standing d := by
  refine standing_foldl (fun d x => ?_) _ d
  dsimp only
  split_ifs
  · exact standing_claimChunk ..
  · exact standing_postHost ..
  · rfl

theorem standing_writeManifest (c : Cmd) (n : Nat) (i : Item) (d : Device) : standing (writeManifest c n i d) = standing d := by
  unfold writeManifest
  split_ifs <;> rfl

theorem standing_startMirror (c : Cmd) (n : Nat) (i : Item) (d : Device) : standing (startMirror c n i d) = standing d := standing_sendAll ..

theorem standing_programGroup (d : Device) (group : List Bytes) : standing (programGroup d group) = standing d := by
  unfold programGroup
  refine (standing_foldl (fun d x => ?_) _ _).trans ?_
  · rfl
  · rfl

theorem standing_programFlush (rs : List FlushRecord) (d : Device) : standing (programFlush 0 rs d) = standing d := by
  unfold programFlush
  dsimp only
  split <;> exact standing_foldl standing_programGroup _ d

theorem standing_flushWriteAll (rs : List FlushRecord) (d : Device) : standing (flushWriteAll rs d) = standing d := by
  refine (standing_programFlush ..).trans (standing_foldl (fun d r => ?_) rs d)
  rfl

theorem standing_markAll (l : List (Nat × Bytes × Nat)) (d : Device) :
    standing (l.foldl (fun d x => markPresent x.1 x.2.1 x.2.2 d) d) = standing d := standing_foldl (fun d _ => standing_markPresent _ _ _ d) _ d

theorem standing_flushItem (c : Cmd) (n : Nat) (i : Item) (d : Device) : standing (flushItem c n i d) = standing d := by
  have hi : ∀ f u, standing (onItem c.id n f u) = standing u := fun _ _ => rfl
  unfold flushItem
  dsimp only
  split
  · rfl
  · exact (standing_markAll ..).trans ((hi _ _).trans (standing_flushWriteAll ..))

/-- An item's records go to the other peer where the mode asks for it. -/
def itemMirrored (c : Cmd) (n : Nat) (i : Item) (d : Device) : Device :=
  if (ackMode d == .mirror || ackMode d == .mirrorFlush) && i.write.isNone then startMirror c n i d else d

/-- An item's records go to the flush area where the mode asks for it. -/
def itemFlushed (mode : AckMode) (c : Cmd) (n : Nat) (i : Item) (d : Device) : Device :=
  if (mode == .flush || mode == .mirrorFlush) && !i.flushed then flushItem c n i d else d

/-- An item's copies are present where memory suffices. -/
def itemMarked (mode : AckMode) (i : Item) (d : Device) : Device :=
  if mode == .memory then (newCopies i).foldl (fun d x => markPresent x.1 x.2.1 x.2.2 d) d else d

theorem standing_itemSent (c : Cmd) (n : Nat) (i : Item) (d : Device) :
    standing (itemMarked (ackMode d) i (itemFlushed (ackMode d) c n i (itemMirrored c n i d))) = standing d := by
  have hm : standing (itemMirrored c n i d) = standing d := by
    unfold itemMirrored
    split
    · exact standing_startMirror ..
    · rfl
  have hf : ∀ mode d, standing (itemFlushed mode c n i d) = standing d := by
    intro mode d
    unfold itemFlushed
    split
    · exact standing_flushItem ..
    · rfl
  have hk : ∀ mode d, standing (itemMarked mode i d) = standing d := by
    intro mode d
    unfold itemMarked
    split
    · exact standing_markAll ..
    · rfl
  exact (hk _ _).trans ((hf _ _).trans hm)

/-- An item is sent, and is ready at once when what its mode waits for is met. -/
theorem standing_ackItem (c : Cmd) (n : Nat) (i : Item) (d : Device) : standing (ackItem c n i d) = standing d := by
  have hs := standing_itemSent c n i d
  have hi : ∀ f u, standing (onItem c.id n f u) = standing u := fun _ _ => rfl
  unfold itemMarked itemFlushed itemMirrored at hs
  unfold ackItem
  dsimp only
  split
  · exact hs
  · rw [apply_ite standing, hi, ite_self]
    exact hs

end Sys2Proof.Machine
end

section
/-! SUPPORT. The standing of the device through the driving of writes, the steps of the commands and their settling, the refresh of what awaits
the flush and the end of service (R20, R36, R149, R200, R340, R442). -/

namespace Sys2Proof.Machine

theorem standing_setPhase (id : Nat) (p : Phase) (d : Device) : standing (setPhase id p d) = standing d := rfl

theorem standing_onItem (id n : Nat) (f : Item → Item) (d : Device) : standing (onItem id n f d) = standing d := rfl

/-! ## Writes that are ready, fail or start again -/

theorem standing_writeReady (id : Nat) (d : Device) : standing (writeReady id d) = standing d := by
  unfold writeReady
  split
  · rfl
  next c _ =>
    split
    · rfl
    · split
      · rfl
      · dsimp only
        split
        · split
          · exact (standing_sendLink ..).trans (standing_onCmd ..)
          · exact standing_onCmd ..
        · split
          · exact standing_sendLink ..
          · rfl

theorem standing_endFailed (id : Nat) (d : Device) : standing (endFailed id d) = standing d := by
  unfold endFailed
  split
  · rfl
  · split
    · rfl
    · split
      · rfl
      · exact standing_failCmd ..

theorem standing_forwardShare (id : Nat) (d : Device) : standing (forwardShare id d) = standing d := by
  unfold forwardShare
  split
  · rfl
  · exact standing_forwardPart ..

theorem standing_countHome (keys : List (Nat × Bytes)) (d : Device) : standing (countHome keys d) = standing d := by
  refine standing_foldl (fun d k => ?_) keys d
  dsimp only
  split <;> rfl

theorem standing_reopenItem (c : Cmd) (n : Nat) (i : Item) (d : Device) : standing (reopenItem c n i d) = standing d := by
  unfold reopenItem
  refine (standing_onItem ..).trans ((standing_releaseFlushed ..).trans ?_)
  split
  · exact standing_sendLink ..
  · rfl

/-- A slot is taken without the standing's change. -/
theorem standing_takeSlot {st : Nat} {op : LongOp} {who : Starter} {d : Device} {r : Nat × Device} (h : takeSlot st op who d = some r) :
    standing r.2 = standing d := by
  unfold takeSlot at h
  split at h
  · cases h
  · cases h
    rfl

/-! ## Locks granted, writes driven -/

theorem standing_grantedRange (c : Cmd) (id : Nat) (d : Device) :
    standing (if !c.gathered then gatherRange id d else if c.kind == KvKind.list then doList id d else startRangeDelete id d) = standing d := by
  split
  · exact standing_gatherRange ..
  · split
    · exact standing_doList ..
    · exact standing_startRangeDelete ..

/-- The keys of a share are counted at their home. -/
def shareCounted (c : Cmd) (d : Device) : Device :=
  if isShare c && c.kind == KvKind.batch then countHome ((itemsOf c d).map fun i => (c.ns d, i.key)) d else d

/-- A batch that has keys elsewhere sends its share. -/
def shareSent (id : Nat) (c : Cmd) (d : Device) : Device :=
  if c.kind == KvKind.batch && !c.gathered && c.kids.isEmpty then forwardShare id d else d

/-- A write whose items are named is checked, and is reduced when none is refused. -/
def itemsGranted (id : Nat) (d : Device) : Device :=
  match cmdOf id d with
  | none => d
  | some c =>
    let f := firstRefused c d
    let d := shareSent id c (onCmd id (fun c => { c with failure := lowerFailure c.failure f }) d)
    if (lowerFailure c.failure f).isSome then endFailed id (setPhase id .forwarded d)
    else if c.kind == KvKind.delete && isSecure c.sqe && c.fwdFrom.isNone && c.slot.isNone then
      (match takeSlot 1 (.erasure (c.ns d) [] [] []) (some c.q.port) d with
       | some r => startReduce id (onCmd id (fun c => { c with slot := some r.1 }) r.2)
       | none => failCmd id .interrupted 0 d)
    else startReduce id d

theorem standing_shareCounted (c : Cmd) (d : Device) : standing (shareCounted c d) = standing d := by
  unfold shareCounted
  split
  · exact standing_countHome ..
  · rfl

theorem standing_shareSent (id : Nat) (c : Cmd) (d : Device) : standing (shareSent id c d) = standing d := by
  unfold shareSent
  split
  · exact standing_forwardShare ..
  · rfl

theorem standing_itemsGranted (id : Nat) (d : Device) : standing (itemsGranted id d) = standing d := by
  unfold itemsGranted
  split
  · rfl
  · dsimp only
    have hs : ∀ c f, standing (shareSent id c (onCmd id f d)) = standing d := fun _ _ => (standing_shareSent ..).trans (standing_onCmd ..)
    split
    · exact (standing_endFailed ..).trans ((standing_setPhase ..).trans (hs _ _))
    · split
      · split
        next r hr => exact (standing_startReduce ..).trans ((standing_onCmd ..).trans ((standing_takeSlot hr).trans (hs _ _)))
        · exact (standing_failCmd ..).trans (hs _ _)
      · exact (standing_startReduce ..).trans (hs _ _)

theorem standing_granted (id : Nat) (d : Device) : standing (granted id d) = standing d := by
  unfold granted
  split
  · rfl
  next c _ =>
    split
    · exact standing_grantedRange ..
    · split
      · rfl
      · split
        · exact standing_failCmd ..
        · exact (standing_itemsGranted id _).trans ((standing_onCmd ..).trans (standing_shareCounted c d))

/-- A write whose chunks are claimed. -/
def claimsDriven (id : Nat) (c : Cmd) (d : Device) : Device :=
  if c.failure.isSome then endFailed id d
  else
    let d := c.items.zipIdx.foldl (fun d x => driveItem c x.2 x.1 d) d
    match cmdOf id d with
    | none => d
    | some c =>
      if c.items.all (·.settled) then
        setPhase id .waitMirror (c.items.zipIdx.foldl (fun d x => writeManifest c x.2 x.1 d) d)
      else if c.items.any fun i => i.chunks.any fun w => w.req.isSome then setPhase id .waitClaims d
      else setPhase id .reducing d

/-- A write whose records are acknowledged. -/
def recordsDriven (id : Nat) (c : Cmd) (d : Device) : Device :=
  if c.failure.isSome then endFailed id d
  else if !(reopened c).isEmpty then
    setPhase id .reducing ((reopened c).foldl (fun d x => reopenItem c x.2 x.1 d) d)
  else
    let d := c.items.zipIdx.foldl (fun d x => if x.1.ready then d else ackItem c x.2 x.1 d) d
    match cmdOf id d with
    | none => d
    | some c =>
      let late := c.items.any fun i => !i.ready && mirrorComplete i d
      writeReady id (setPhase id (if late then .waitPresent else .waitMirror) d)

theorem standing_claimsDriven (id : Nat) (c : Cmd) (d : Device) : standing (claimsDriven id c d) = standing d := by
  have hdrive : standing (c.items.zipIdx.foldl (fun d x => driveItem c x.2 x.1 d) d) = standing d :=
    standing_foldl (fun _ _ => standing_driveItem ..) _ d
  have hwrite : ∀ (c : Cmd) (d : Device), standing (c.items.zipIdx.foldl (fun d x => writeManifest c x.2 x.1 d) d) = standing d :=
    fun c d => standing_foldl (fun _ _ => standing_writeManifest ..) _ d
  unfold claimsDriven
  split
  · exact standing_endFailed ..
  · dsimp only
    split
    · exact hdrive
    · split
      · exact (standing_setPhase ..).trans ((hwrite ..).trans hdrive)
      · split
        · exact (standing_setPhase ..).trans hdrive
        · exact (standing_setPhase ..).trans hdrive

theorem standing_recordsDriven (id : Nat) (c : Cmd) (d : Device) : standing (recordsDriven id c d) = standing d := by
  have hopen : standing ((reopened c).foldl (fun d x => reopenItem c x.2 x.1 d) d) = standing d :=
    standing_foldl (fun _ _ => standing_reopenItem ..) _ d
  have hack : standing (c.items.zipIdx.foldl (fun d x => if x.1.ready then d else ackItem c x.2 x.1 d) d) = standing d := by
    refine standing_foldl (fun d x => ?_) _ d
    split
    · rfl
    · exact standing_ackItem ..
  unfold recordsDriven
  split
  · exact standing_endFailed ..
  · split
    · exact (standing_setPhase ..).trans hopen
    · dsimp only
      split
      · exact hack
      · exact (standing_writeReady ..).trans ((standing_setPhase ..).trans hack)

theorem standing_driveWrite (id : Nat) (d : Device) : standing (driveWrite id d) = standing d := by
  unfold driveWrite
  split
  · rfl
  next c _ =>
    split
    · exact standing_claimsDriven id c d
    · exact standing_claimsDriven id c d
    · exact standing_recordsDriven id c d
    · exact standing_recordsDriven id c d
    · rfl

/-! ## Commands that start and step -/

theorem standing_ensureLocks (id : Nat) (d : Device) : standing (ensureLocks id d) = standing d := by
  unfold ensureLocks
  split
  · rfl
  · split <;> rfl

theorem standing_askLocks (id : Nat) (d : Device) : standing (askLocks id d) = standing d :=
  (standing_pumpLocks ..).trans ((standing_ensureLocks ..).trans (standing_setPhase ..))

theorem standing_startHere (c : Cmd) (d : Device) : standing (startHere c d) = standing d := by
  unfold startHere
  dsimp only
  split
  · exact (standing_startRead ..).trans (standing_countHome ..)
  · exact (standing_startRead ..).trans (standing_countHome ..)
  · exact (standing_askLocks ..).trans (standing_countHome ..)

theorem standing_startSingle (c : Cmd) (d : Device) : standing (startSingle c d) = standing d := by
  unfold startSingle
  split
  · exact standing_startHere ..
  · split
    · exact standing_startHere ..
    · exact standing_forwardCmd ..
    · rfl
    · exact standing_failCmd ..

theorem standing_startBatch (c : Cmd) (d : Device) : standing (startBatch c d) = standing d := by
  unfold startBatch
  dsimp only
  split
  · exact (standing_askLocks ..).trans (standing_onCmd ..)
  · split
    · exact (standing_askLocks ..).trans ((standing_onCmd ..).trans (standing_countHome ..))
    · split
      · exact standing_failCmd ..
      · split
        · rfl
        · split
          · exact (standing_askLocks ..).trans (standing_countHome ..)
          · exact (standing_forwardShare ..).trans (standing_setPhase ..)

theorem standing_startRange (c : Cmd) (d : Device) : standing (startRange c d) = standing d := by
  unfold startRange
  split
  · exact (standing_askLocks ..).trans (standing_onCmd ..)
  · split
    · split
      · exact standing_askLocks ..
      · exact standing_gatherRange ..
    · exact standing_failCmd ..

theorem standing_startCmd (id : Nat) (d : Device) : standing (startCmd id d) = standing d := by
  unfold startCmd
  split
  · rfl
  · split
    · exact standing_startRange ..
    · split
      · exact standing_startBatch ..
      · exact standing_startSingle ..

theorem standing_stepCmd (d : Device) (id : Nat) : standing (stepCmd d id) = standing d := by
  unfold stepCmd
  split
  · rfl
  · split
    · rfl
    · split
      · split
        · exact standing_startCmd ..
        · rfl
      · split
        · exact standing_granted ..
        · rfl
      · split
        · exact standing_startRead ..
        · rfl
      · exact standing_startCmd ..
      · exact standing_driveWrite ..
      · exact standing_driveWrite ..
      · exact standing_driveWrite ..
      · exact standing_driveWrite ..
      · rfl
      · rfl
      · rfl

theorem standing_settleOnce (d : Device) : standing (settleOnce d) = standing d := standing_foldl standing_stepCmd _ d

theorem standing_settleFrom (n : Nat) (d : Device) : standing (settleFrom n d) = standing d := by
  induction n generalizing d with
  | zero => rfl
  | succ n ih =>
    unfold settleFrom
    dsimp only
    split
    · exact standing_settleOnce d
    · exact (ih _).trans (standing_settleOnce d)

/-- Settling the commands leaves the standing. -/
theorem standing_settle (d : Device) : standing (settle d) = standing d :=
  (standing_settleFrom ..).trans ((standing_settleOnce _).trans (standing_settleOnce d))

/-! ## What awaits the flush, and the end of service -/

theorem standing_refreshLinkCond (d : Device) : standing (refreshLinkCond d) = standing d := standing_setCond ..

theorem standing_flushThrough (d : Device) : standing (flushThrough d) = standing d := standing_flushWriteAll ..

/-- The programming rate of the flush is set, and a limit by it is logged once. -/
def flushRated (d : Device) : Device :=
  let d := odPut 0x2240 5 (flushRate d / 1000000 % 2 ^ 32) d
  let caps : Bool := flushCap d < uncapped d
  let d := if caps && !d.map.capLogged then logEvent 0x0B07 0x0042 1 (flushCap d) d else d
  { d with map := { d.map with capLogged := caps } }

/-- The limit of dirty data is set, and its change logged. -/
def dirtyLimited (d : Device) : Device :=
  let n := dirtyLimitNow d
  let d := if n == odVal 0x2240 6 d then d else logEvent 0x1203 0x0071 0 n (odPut 0x2240 6 n d)
  { d with power := { d.power with dirtyLimit := n * 2 ^ 20 } }

/-- Condition 2 follows the limit, and data that wait are written through when it is set. -/
def shortMarked (short : Bool) (d : Device) : Device :=
  if short && !bit d.conditions 2 then flushThrough (setCond 2 true d) else setCond 2 short d

theorem standing_ite {p : Prop} [Decidable p] {a b d : Device} (ha : standing a = standing d) (hb : standing b = standing d) :
    standing (if p then a else b) = standing d := by
  split
  · exact ha
  · exact hb

theorem standing_flushRated (d : Device) : standing (flushRated d) = standing d := by
  have hp : ∀ v, standing (odPut 0x2240 5 v d) = standing d := fun _ => standing_odPut (by decide) ..
  have hm : ∀ (u : Device) b, standing { u with map := { u.map with capLogged := b } } = standing u := fun _ _ => rfl
  exact (hm _ _).trans (standing_ite ((standing_logEvent ..).trans (hp _)) (hp _))

theorem standing_dirtyLimited (d : Device) : standing (dirtyLimited d) = standing d := by
  have hp : ∀ v, standing (odPut 0x2240 6 v d) = standing d := fun _ => standing_odPut (by decide) ..
  have hm : ∀ (u : Device) n, standing { u with power := { u.power with dirtyLimit := n } } = standing u := fun _ _ => rfl
  exact (hm _ _).trans (standing_ite rfl ((standing_logEvent ..).trans (hp _)))

theorem standing_shortMarked (short : Bool) (d : Device) : standing (shortMarked short d) = standing d :=
  standing_ite ((standing_flushThrough _).trans (standing_setCond ..)) (standing_setCond ..)

/-- What awaits the flush is refreshed without the standing's change, also where the commands settle after it. -/
theorem standing_refreshDirty (d : Device) : standing (refreshDirty d) = standing d := by
  have hl : ∀ b, standing (shortMarked b (dirtyLimited (flushRated d))) = standing d :=
    fun _ => (standing_shortMarked ..).trans ((standing_dirtyLimited _).trans (standing_flushRated d))
  unfold refreshDirty
  exact standing_ite rfl (standing_ite ((standing_settle _).trans (hl _)) (hl _))

/-- The end of service, as the peer is about to see it. -/
def leavingService (d : Device) : Device := { d with peer := { d.peer with aliveOut := false, st := 6 } }

theorem standing_quitServing (d : Device) : standing (quitServing d) = standing (leavingService d) := by
  have hl : ∀ l : List Cmd, standing (l.foldl (fun d c => failCmd c.id (.vendor 0xC3) 0 d) (logEvent 0x0E0B 0x0060 2 0 (leavingService d))) =
      standing (leavingService d) := fun l => (standing_foldl (fun _ _ => standing_failCmd ..) l _).trans (standing_logEvent ..)
  exact (standing_refreshLinkCond _).trans (hl _)

end Sys2Proof.Machine
end

section
/-! SUPPORT. Dictionary writes that are commands: how the write finds the device, what confirms it, and the commands of the key slots, the
paired tables, the lost stripes and the snapshots (R187, R234, R262 to R267, R308, R471). -/

namespace Sys2Proof.Machine

/-! ## The device as a command write finds it -/

/-- `u` is `d` but for its sessions and open assemblies. -/
def Entered (d u : Device) : Prop := ∃ l a, u = { d with dict := { d.dict with sessions := l, assemblies := a } }

section
variable {d u : Device} (h : Entered d u)
include h

theorem Entered.noServingPeer : noServingPeer u = noServingPeer d := by
  obtain ⟨l, a, rfl⟩ := h
  rfl

theorem Entered.freeFirmwareEntry : freeFirmwareEntry u = freeFirmwareEntry d := by
  obtain ⟨l, a, rfl⟩ := h
  rfl

theorem Entered.nextBoundary : nextBoundary u = nextBoundary d := by
  obtain ⟨l, a, rfl⟩ := h
  rfl

theorem Entered.nextHandoverTick : nextHandoverTick u = nextHandoverTick d := by
  obtain ⟨l, a, rfl⟩ := h
  rfl

theorem Entered.slotOf (n : Nat) : slotOf n u = slotOf n d := by
  obtain ⟨l, a, rfl⟩ := h
  rfl

theorem Entered.erasePlaced : erasePlaced u = erasePlaced d := by
  obtain ⟨l, a, rfl⟩ := h
  rfl

theorem Entered.admin : u.admin = d.admin := by
  obtain ⟨l, a, rfl⟩ := h
  rfl

theorem Entered.cipher : u.cipher = d.cipher := by
  obtain ⟨l, a, rfl⟩ := h
  rfl

theorem Entered.groupCheck (n : Nat) : groupCheck n u = groupCheck n d := by
  obtain ⟨l, a, rfl⟩ := h
  rfl

theorem Entered.peer : u.peer = d.peer := by
  obtain ⟨l, a, rfl⟩ := h
  rfl

theorem Entered.power : u.power = d.power := by
  obtain ⟨l, a, rfl⟩ := h
  rfl

theorem Entered.side : u.side = d.side := by
  obtain ⟨l, a, rfl⟩ := h
  rfl

theorem Entered.odVal (idx sub : Nat) : odVal idx sub u = odVal idx sub d := by
  obtain ⟨l, a, rfl⟩ := h
  rfl

end

theorem entered_touched (acc : Accessor) (idx sub : Nat) (d : Device) : Entered d (touchIf acc idx sub (endAssembly acc d)) := by
  obtain ⟨l, h⟩ := touchIf_eq acc idx sub (endAssembly acc d)
  rw [h]
  exact ⟨l, _, rfl⟩

/-- A command that is done is confirmed; `Q`: what holds of the device whatever it sends. -/
theorem gives_command {c : Instr} {s : State} {acc : Accessor} {idx sub : Nat} {v : Bytes} {Q : Device → Prop}
    (hx : exec c s = writeRow acc idx sub v s) (ht : TakesWrite acc idx sub v s.dev) (hw : windowCount idx = none)
    (hc : ∀ u, Entered s.dev u → ∃ t, commandWrite acc (.accessor acc) idx sub (leNat v) v u = some (.done t) ∧
      ∀ can out, Q { t with can := can, out := out }) : Gives c s fun t => Q t ∧ Confirms acc idx sub s.dev t := by
  obtain ⟨t, ht', hq⟩ := hc _ (entered_touched acc idx sub s.dev)
  have hd := odWrite_command ht hw ht'
  exact gives_confirmed hx ht.wayOpen hd (KeptR.outDone hd (odWrite_kept (endAssembly_kept (.refl _)))).out hq

theorem leNat_byte {n : Nat} (h : n < 256) : leNat [BitVec.ofNat 8 n] = n := by
  simp [leNat, Nat.mod_eq_of_lt h]

/-! ## Entries that are armed -/

theorem openTransfer_board (r : ReplyTo) (idx sub : Nat) (d : Device) : (openTransfer r idx sub d).board = d.board := by
  unfold openTransfer
  split
  · split <;> rfl
  · rfl

theorem placementDone_board (acc a : Accessor) (idx sub n : Nat) (d : Device) :
    (placementDone (.dict acc (.accessor a) idx sub) n d).board = d.board := by
  unfold placementDone
  dsimp only
  split
  · rfl
  · rw [answer_ok]
    obtain ⟨can, hc⟩ := transferEnded_eq a d
    rw [hc]
    rfl

/-- A write that waits leaves what it has done so far. -/
theorem gives_held {c : Instr} {s : State} {acc : Accessor} {idx sub : Nat} {v : Bytes} {u : Device} {P : Device → Prop}
    (hx : exec c s = writeRow acc idx sub v s) (ht : TakesWrite acc idx sub v s.dev)
    (hd : odWrite acc (.accessor acc) idx sub v (endAssembly acc s.dev) = .held u) (hq : P (openTransfer (.accessor acc) idx sub u)) :
    Gives c s P := by
  refine gives_of_eq (hx.trans (odRow_open ht.wayOpen ..)) ?_
  rwa [hd]

/-- Without a serving peer a command that places an entry arms the free one. -/
theorem gives_armed {c : Instr} {s : State} {acc : Accessor} {idx sub n : Nat} {v : Bytes} {e : BoardEntry} {u : Device}
    (hx : exec c s = writeRow acc idx sub v s) (ht : TakesWrite acc idx sub v s.dev) (hu : Entered s.dev u)
    (hp : noServingPeer s.dev = true) (hf : freeFirmwareEntry s.dev = some n)
    (hd : odWrite acc (.accessor acc) idx sub v (endAssembly acc s.dev) = .held (placePaired e (.dict acc (.accessor acc) idx sub) u)) :
    Gives c s fun t => boardEntry n t = { e with paired := true, state := 1 } := by
  rw [← hu.freeFirmwareEntry] at hf
  rw [← hu.noServingPeer] at hp
  refine gives_held hx ht hd ?_
  rw [placePaired_free hf, placePairedAt, if_pos hp, boardEntry, openTransfer_board, placementDone_board]
  exact boardEntry_putEntry ..

/-- A slot command's word names its command, its tenant and its slot (R265). -/
theorem slotWord_bits {cmd : Nat} (hc : cmd < 256) (tenant slot : Nat) :
    let v := leNat (leBytes 8 (cmd * 2 ^ 56 + tenant % 65536 * 2 ^ 32 + slot % 4096))
    bits v 63 56 = cmd ∧ bits v 47 32 = tenant % 65536 ∧ bits v 11 0 = slot % 4096 := by
  intro v
  have hv : v = cmd * 2 ^ 56 + tenant % 65536 * 2 ^ 32 + slot % 4096 := by
    refine (leNat_leBytes ..).trans (Nat.mod_eq_of_lt ?_)
    omega
  rw [hv]
  unfold bits
  omega

theorem placeSlotAction_alone {acc : Accessor} {r : ReplyTo} {action arg : Nat} {d : Device} (h : noServingPeer d = true) :
    placeSlotAction acc r action arg d =
      .held (placePaired (firmwareEntry action 0x0030 arg (nextBoundary d) false) (.dict acc r 0x2800 1) d) := by
  rw [placeSlotAction, sharedWay_alone h]
  rfl

theorem placeForWrite_alone {acc : Accessor} {r : ReplyTo} {idx sub : Nat} {e : BoardEntry} {d : Device} (h : noServingPeer d = true) :
    placeForWrite acc r idx sub e d = .held (placePaired e (.dict acc r idx sub) d) := by
  rw [placeForWrite, sharedWay_alone h]
  rfl

theorem slotCommand_word (acc : Accessor) (r : ReplyTo) {cmd : Nat} (hc : cmd < 256) (tenant slot : Nat) (d : Device) :
    slotCommand acc r (leNat (leBytes 8 (cmd * 2 ^ 56 + tenant % 65536 * 2 ^ 32 + slot % 4096))) d =
      if cmd == 1 then generate acc r (slot % 4096) (tenant % 65536) d
      else if cmd == 2 then retire acc r (slot % 4096) d
      else if cmd == 3 then eraseTenantCmd acc r (tenant % 65536) d
      else if cmd == 4 then reload acc r d
      else .fail 0x06090030 d := by
  obtain ⟨h1, h2, h3⟩ := slotWord_bits hc tenant slot
  unfold slotCommand
  rw [h1, h2, h3]

theorem gives_retired {s : State} {acc : Accessor} {slot tenant n : Nat} (hp : noServingPeer s.dev = true)
    (hf : freeFirmwareEntry s.dev = some n) (ht : TakesWrite acc 0x2800 1 (leBytes 8 (2 * 2 ^ 56 + tenant % 65536 * 2 ^ 32 + slot % 4096)) s.dev)
    (ha : (slotOf (slot % 4096) s.dev).st = .active) : Gives (.retire acc slot tenant) s fun t => boardEntry n t =
      { firmwareEntry 0x0E 0x0030 (slot % 4096) (nextBoundary s.dev) false with paired := true, state := 1 } := by
  have hu := entered_touched acc 0x2800 1 s.dev
  refine gives_armed rfl ht hu hp hf (odWrite_command ht (by decide) (congrArg some ?_))
  rw [← hu.slotOf] at ha
  rw [← hu.noServingPeer] at hp
  refine (slotCommand_word acc _ (by decide) ..).trans ?_
  change retire acc _ _ _ = _
  rw [retire, if_neg (by simpa using ha), placeSlotAction_alone hp, hu.nextBoundary]

theorem gives_tenantErased {s : State} {acc : Accessor} {slot tenant n : Nat} (hp : noServingPeer s.dev = true)
    (hf : freeFirmwareEntry s.dev = some n) (ht : TakesWrite acc 0x2800 1 (leBytes 8 (3 * 2 ^ 56 + tenant % 65536 * 2 ^ 32 + slot % 4096)) s.dev)
    (hz : s.dev.admin.sanitize = none) (he : erasePlaced s.dev = false) : Gives (.eraseTenant acc slot tenant) s fun t => boardEntry n t =
      { firmwareEntry 0x0F 0x0030 (tenant % 65536) (nextBoundary s.dev) false with paired := true, state := 1 } := by
  have hu := entered_touched acc 0x2800 1 s.dev
  refine gives_armed rfl ht hu hp hf (odWrite_command ht (by decide) (congrArg some ?_))
  rw [← hu.noServingPeer] at hp
  refine (slotCommand_word acc _ (by decide) ..).trans ?_
  change eraseTenantCmd acc _ _ _ = _
  rw [eraseTenantCmd, hu.admin, hz, hu.erasePlaced, he, if_neg (by decide), placeSlotAction_alone hp, hu.nextBoundary]

/-- A command that activates the staged gear table. -/
theorem gives_gearArmed {s : State} {acc : Accessor} {n : Nat} (hp : noServingPeer s.dev = true) (hf : freeFirmwareEntry s.dev = some n)
    (ht : TakesWrite acc 0x2600 7 [1] s.dev) : Gives (.gearTableActivate acc) s fun t => boardEntry n t =
      { firmwareEntry 0x0C 0 0 (nextHandoverTick s.dev) false with paired := true, state := 1 } := by
  have hu := entered_touched acc 0x2600 7 s.dev
  refine gives_armed rfl ht hu hp hf ((odWrite_unwindowed (d := endAssembly acc s.dev) (by decide) ht.2.2 ht.2.1).trans ?_)
  rw [← hu.noServingPeer] at hp
  rw [← hu.nextHandoverTick]
  exact placeForWrite_alone hp

theorem groupWord_masked {part : Nat} : (0x100 + part % 16) &&& 0x0F0F = 0x100 + part % 16 ∧ (0x200 + part % 16) &&& 0x0F0F = 0x200 + part % 16 := by
  have h : ∀ k < 16, (0x100 + k) &&& 0x0F0F = 0x100 + k ∧ (0x200 + k) &&& 0x0F0F = 0x200 + k := by decide
  exact h _ (Nat.mod_lt _ (by decide))

/-- A command about a policy group that its partition takes. -/
theorem gives_groupArmed {c : Instr} {s : State} {acc : Accessor} {n w : Nat} (hx : exec c s = writeRow acc 0x2B00 5 (leBytes 2 w) s)
    (hw : w < 65536) (hm : w &&& 0x0F0F = w) (hp : noServingPeer s.dev = true) (hf : freeFirmwareEntry s.dev = some n)
    (ht : TakesWrite acc 0x2B00 5 (leBytes 2 w) s.dev) (hg : groupCheck w s.dev = none) : Gives c s fun t => boardEntry n t =
      { firmwareEntry 0x0D 0x0020 w (nextBoundary s.dev) false with paired := true, state := 1 } := by
  have hu := entered_touched acc 0x2B00 5 s.dev
  have hv : leNat (leBytes 2 w) = w := (leNat_leBytes ..).trans (Nat.mod_eq_of_lt hw)
  refine gives_armed hx ht hu hp hf ((odWrite_unwindowed (d := endAssembly acc s.dev) (by decide) ht.2.2 ht.2.1).trans ?_)
  rw [← hu.noServingPeer] at hp
  rw [← hu.groupCheck] at hg
  have hr : refusal 0x2B00 5 0 (leBytes 2 w) (touchIf acc 0x2B00 5 (endAssembly acc s.dev)) = none := by
    change (groupCheck (leNat (leBytes 2 w)) _).map _ = none
    rw [hv, hg]
    rfl
  have hq : entryWrite acc (.accessor acc) 0x2B00 5 0 (leBytes 2 w) (touchIf acc 0x2B00 5 (endAssembly acc s.dev)) =
      placeForWrite acc (.accessor acc) 0x2B00 5 (firmwareEntry 0x0D 0x0020 (leNat (leBytes 2 w) &&& 0x0F0F)
        (nextBoundary (touchIf acc 0x2B00 5 (endAssembly acc s.dev))) false) (touchIf acc 0x2B00 5 (endAssembly acc s.dev)) := by
    change (match refusal 0x2B00 5 0 (leBytes 2 w) (touchIf acc 0x2B00 5 (endAssembly acc s.dev)) with
      | some r => _
      | none => _) = _
    rw [hr]
    rfl
  rw [hq, placeForWrite_alone hp, hv, hm, hu.nextBoundary]

end Sys2Proof.Machine
end

section
/-! SUPPORT. Dictionary writes that are commands: the keys of a slot, lost stripes, snapshots, the arbiter, the power requests, the hold-up test and
the firmware (R234, R262 to R267, R308, R441 to R443, R471, R514, R547 to R551, R556, R586 to R591). -/

namespace Sys2Proof.Machine

/-! ## Slots: a key is drawn, the keys are loaded again -/

/-- Drawing counts the draws alone. -/
theorem drawBytes_eq (n : Nat) (d : Device) : ∃ x, (drawBytes n d).2 = { d with sec := x } := by
  induction n generalizing d with
  | zero => exact ⟨d.sec, rfl⟩
  | succ n ih =>
    obtain ⟨x, hx⟩ := ih (draw d).2
    exact ⟨x, hx⟩

theorem slotOf_putSlot (n : Nat) (k : KeySlot) (d : Device) : slotOf n (putSlot n k d) = k := tblGetD_tblStore_same ..

/-- A slot that a key has been drawn for. -/
def keyedSlot (tenant gen key limit : Nat) : KeySlot :=
  { KeySlot.blank with
    st := .active, tenant := tenant, keygen := gen, wrapped := true, key := some key, stored := some key, limitPending := some limit }

theorem slotOf_freshKey (n tenant : Nat) (d : Device) : ∃ key limit,
    slotOf n (freshKey n tenant d) = keyedSlot tenant (((slotOf n d).keygen + 1) % 2 ^ 32) key limit := by
  obtain ⟨x, hx⟩ := drawBytes_eq 4 d
  refine ⟨leNat (drawBytes 4 d).1, min (KeySlot.blank.limit d.side + 2 ^ 20) counterMax, ?_⟩
  unfold freshKey recordLimit
  dsimp only
  rw [hx]
  refine (slotOf_putSlot ..).trans ?_
  rw [slotOf_putSlot]
  rfl

theorem slotOf_sent (n : Nat) (can : CanState) (out : List Output) (d : Device) : slotOf n { d with can := can, out := out } = slotOf n d := rfl

theorem gives_generated {s : State} {acc : Accessor} {slot tenant : Nat} (hp : noServingPeer s.dev = true)
    (ht : TakesWrite acc 0x2800 1 (leBytes 8 (1 * 2 ^ 56 + tenant % 65536 * 2 ^ 32 + slot % 4096)) s.dev)
    (he : (slotOf (slot % 4096) s.dev).st = .empty) (ha : s.dev.cipher.alarm = 0) (hz : s.dev.admin.sanitize = none) :
    Gives (.generate acc slot tenant) s fun t => (∃ key limit, slotOf (slot % 4096) t =
        keyedSlot (tenant % 65536) (((slotOf (slot % 4096) s.dev).keygen + 1) % 2 ^ 32) key limit) ∧ Confirms acc 0x2800 1 s.dev t := by
  refine gives_command rfl ht (by decide) fun u hu => ⟨freshKey (slot % 4096) (tenant % 65536) u, congrArg some ?_, fun can out => ?_⟩
  · refine (slotCommand_word acc _ (by decide) ..).trans ?_
    change generate acc _ _ _ _ = _
    rw [generate, hu.slotOf, hu.cipher, hu.admin, he, ha, hz, if_neg (by decide), sharedWay_alone (hu.noServingPeer.trans hp)]
    rfl
  · obtain ⟨key, limit, hk⟩ := slotOf_freshKey (slot % 4096) (tenant % 65536) u
    rw [hu.slotOf] at hk
    exact ⟨key, limit, (slotOf_sent ..).trans hk⟩

/-- The keys are about to be loaded again, for a write that waits. -/
def keysReloading (h : HeldWrite) (d : Device) : Device :=
  { d with cipher := { d.cipher with alarm := 3 }, dict := { d.dict with held := d.dict.held ++ [h] } }

theorem openTransfer_cipher (r : ReplyTo) (idx sub : Nat) (d : Device) : (openTransfer r idx sub d).cipher = d.cipher := by
  unfold openTransfer
  split
  · split <;> rfl
  · rfl

theorem gives_reloading {s : State} {acc : Accessor} {slot tenant : Nat}
    (ht : TakesWrite acc 0x2800 1 (leBytes 8 (4 * 2 ^ 56 + tenant % 65536 * 2 ^ 32 + slot % 4096)) s.dev) (ha : s.dev.cipher.alarm = 2) :
    Gives (.reload acc slot tenant) s fun t => t.cipher.alarm = 3 := by
  have hu := entered_touched acc 0x2800 1 s.dev
  have hr : slotCommand acc (.accessor acc) (leNat (leBytes 8 (4 * 2 ^ 56 + tenant % 65536 * 2 ^ 32 + slot % 4096)))
      (touchIf acc 0x2800 1 (endAssembly acc s.dev)) =
        .held (keysReloading ⟨0, acc, .accessor acc, 0x2800, 1, 4096, [], none⟩ (touchIf acc 0x2800 1 (endAssembly acc s.dev))) := by
    refine (slotCommand_word acc _ (by decide) ..).trans ?_
    change reload acc _ _ = _
    rw [reload, hu.cipher, ha]
    rfl
  have hd := odWrite_command (r := .accessor acc) ht (by decide) (congrArg some hr)
  refine gives_held rfl ht hd ?_
  rw [openTransfer_cipher]
  rfl

/-! ## Lost stripes, snapshots -/

theorem clearLost_lostStripes (d : Device) : (clearLost d).stripe.lostStripes =
    d.stripe.lostStripes.filter fun r => !(r.scanDone && !(d.stripe.lostKeys.any fun k => k.seq == r.seq && lostKeyStands k d)) := by
  unfold clearLost
  dsimp only
  split
  · rw [setCond_stripe]
    rfl
  · rfl

theorem gives_lostCleared {s : State} {acc : Accessor} (ht : TakesWrite acc 0x2900 0x12 [1] s.dev) :
    Gives (.lostStripeClear acc) s fun t => (t.stripe.lostStripes = s.dev.stripe.lostStripes.filter fun r =>
      !(r.scanDone && !(s.dev.stripe.lostKeys.any fun k => k.seq == r.seq && lostKeyStands k s.dev))) ∧ Confirms acc 0x2900 0x12 s.dev t := by
  refine gives_command rfl ht (by decide) fun u hu => ⟨clearLost u, rfl, fun can out => ?_⟩
  refine (clearLost_lostStripes u).trans ?_
  obtain ⟨l, a, rfl⟩ := hu
  rfl

theorem gives_snapshotDeleted {s : State} {acc : Accessor} {n : Nat} (hn : n < 65536) (ht : TakesWrite acc 0x3300 7 (leBytes 2 n) s.dev)
    (hs : (snapOf n s.dev).map (·.st) = some 2) (hh : holdsOf n s.dev = 0) :
    Gives (.snapshotDeleteWrite acc n) s fun t => (snapOf n t).map (·.st) = some 3 ∧ Confirms acc 0x3300 7 s.dev t := by
  have hv : leNat (leBytes 2 n) = n := (leNat_leBytes ..).trans (Nat.mod_eq_of_lt hn)
  refine gives_command rfl ht (by decide) fun u hu => ⟨deleteSnapshot n u, congrArg some ?_, fun can out => ?_⟩
  · obtain ⟨l, a, rfl⟩ := hu
    rw [hv]
    refine (if_neg ?_).trans (if_neg ?_)
    · change ¬ ((snapOf n s.dev).map (·.st) != some 2) = true
      rw [hs]
      decide
    · change ¬ (holdsOf n s.dev != 0) = true
      rw [hh]
      decide
  · obtain ⟨l, a, rfl⟩ := hu
    obtain ⟨y, hy, -⟩ := Option.map_eq_some_iff.1 hs
    exact snapOf_deleteSnapshot (d := { s.dev with dict := { s.dev.dict with sessions := l, assemblies := a } }) hy

end Sys2Proof.Machine
end

section
/-! SUPPORT. Dictionary writes that are commands: the arbiter's decisions, power requests, the hold-up test and the firmware (R441 to R443, R514,
R547 to R551, R556, R586 to R591). -/

namespace Sys2Proof.Machine

/-! ## The arbiter (R441 to R443) -/

theorem standing_endArbiter (n : Nat) (d : Device) : standing (endArbiter n d) = standing d :=
  (clearEmcy_spoke ..).standing.trans (rfl : standing { d with peer := { d.peer with arbState := n, fenceDue := none } } = standing d)

theorem standing_endSlot (n st : Nat) (d : Device) : standing (endSlot n st d) = standing d := by
  unfold endSlot
  dsimp only
  split
  · exact standing_aenUpdate ..
  · rfl

theorem standing_endSelfTest (code seg : Nat) (d : Device) : standing (endSelfTest code seg d) = standing d := by
  unfold endSelfTest
  split
  · rfl
  · dsimp only
    split
    · exact standing_sendLink ..
    · split
      · exact standing_endSlot ..
      · rfl

theorem refreshRanks_peer (d : Device) : (refreshRanks d).peer = d.peer := by
  unfold refreshRanks
  dsimp only
  split
  · split
    · exact (logEvent_spoke ..).peer
    · rfl
  · split <;> rfl

/-- A fence that is asserted leaves the arbiter's decision; one that was out serves alone from now on. -/
theorem assertFence_peer (cause : Nat) (d : Device) : (assertFence cause d).peer.arbDecision = d.peer.arbDecision ∧
    (d.peer.fenceOut = false → (assertFence cause d).peer.fenceOut = true ∧ (assertFence cause d).peer.st = 5) := by
  have hd : ∀ b : Bool, standing (endSelfTest 2 0 (if b then endArbiter (cause + 1) d else d)) = standing d := by
    intro b
    refine (standing_endSelfTest ..).trans ?_
    split
    · exact standing_endArbiter ..
    · rfl
  unfold assertFence
  split
  next h => exact ⟨rfl, fun h0 => absurd (h0.symm.trans h) (by decide)⟩
  · dsimp only
    rw [refreshLinkCond, setCond_peer, refreshRanks_peer, (logEvent_spoke ..).peer]
    exact ⟨congrArg (·.2.2.1) (hd _), fun _ => ⟨rfl, rfl⟩⟩

/-- The arbiter's decision that this device survives. -/
def surviveNoted (d : Device) : Device := { d with peer := { d.peer with arbDecision := 1 } }

theorem arbiterSurvive_peer (d : Device) : (arbiterSurvive d).peer.arbDecision = 1 ∧
    (d.peer.st = 3 → d.side = 0 → d.peer.fenceOut = false → (arbiterSurvive d).peer.fenceOut = true ∧ (arbiterSurvive d).peer.st = 5) := by
  obtain ⟨ha, hf⟩ := assertFence_peer 1 (surviveNoted d)
  have he : arbiterSurvive d = if d.peer.st == 3 || (d.peer.st == 0 && d.power.stage == 6 && !d.peer.met) then
      (if d.side == 0 then assertFence 1 (surviveNoted d)
       else { surviveNoted d with peer := { (surviveNoted d).peer with fenceDue := some (d.time.now + ms 2) } })
    else surviveNoted d := rfl
  refine ⟨?_, fun h3 h0 ho => ?_⟩
  · rw [he]
    split
    · split
      · exact ha
      · rfl
    · rfl
  · rw [he, h3, h0]
    exact hf ho

theorem standDown_peer (d : Device) : (standDown d).peer.arbDecision = 2 ∧
    (d.peer.st = 3 → (standDown d).peer.st = 6 ∧ (standDown d).peer.aliveOut = false) := by
  have hq : standing (quitServing (endArbiter 2 { d with peer := { d.peer with arbDecision := 2 } })) =
      standing (leavingService (endArbiter 2 { d with peer := { d.peer with arbDecision := 2 } })) := standing_quitServing _
  have ha : (endArbiter 2 { d with peer := { d.peer with arbDecision := 2 } }).peer.arbDecision = 2 :=
    congrArg (·.2.2.1) (standing_endArbiter 2 { d with peer := { d.peer with arbDecision := 2 } })
  unfold standDown
  dsimp only
  split
  next h => exact ⟨rfl, fun h3 => absurd h (by simp [h3])⟩
  · exact ⟨(congrArg (·.2.2.1) hq).trans ha, fun _ => ⟨congrArg (·.1) hq, congrArg (·.2.1) hq⟩⟩

section
variable {s : State} {acc : Accessor}

theorem gives_survived (ht : TakesWrite acc 0x2D40 2 [1] s.dev) : Gives (.arbiterSurvive acc) s fun t =>
    (t.peer.arbDecision = 1 ∧ (s.dev.peer.st = 3 → s.dev.side = 0 → s.dev.peer.fenceOut = false → t.peer.fenceOut = true ∧ t.peer.st = 5)) ∧
      Confirms acc 0x2D40 2 s.dev t := by
  refine gives_command rfl ht (by decide) fun u hu => ⟨arbiterSurvive u, rfl, fun can out => ?_⟩
  have h := arbiterSurvive_peer u
  rw [hu.peer, hu.side] at h
  exact h

theorem gives_stoodDown (ht : TakesWrite acc 0x2D40 2 [2] s.dev) : Gives (.arbiterStandDown acc) s fun t =>
    (t.peer.arbDecision = 2 ∧ (s.dev.peer.st = 3 → t.peer.st = 6 ∧ t.peer.aliveOut = false)) ∧ Confirms acc 0x2D40 2 s.dev t := by
  refine gives_command rfl ht (by decide) fun u hu => ⟨standDown u, rfl, fun can out => ?_⟩
  have h := standDown_peer u
  rw [hu.peer] at h
  exact h

theorem gives_fenceReleased (ht : TakesWrite acc 0x2D40 2 [3] s.dev) (hf : s.dev.peer.fenceOut = true) : Gives (.arbiterReleaseFence acc) s fun t =>
    (t.peer.arbDecision = 3 ∧ t.peer.fenceOut = false) ∧ Confirms acc 0x2D40 2 s.dev t := by
  refine gives_command rfl ht (by decide) fun u hu =>
    ⟨{ u with peer := { u.peer with fenceOut := false, arbDecision := 3 } }, congrArg some ?_, fun can out => ⟨rfl, rfl⟩⟩
  have hr : releaseFence u = some { u with peer := { u.peer with fenceOut := false, arbDecision := 3 } } := by
    rw [releaseFence, hu.peer, if_pos hf]
  change (match releaseFence u with
    | some d => OdRes.done d
    | none => OdRes.fail 0x08000022 u) = _
  rw [hr]

/-! ## Power requests (R547 to R551) -/

theorem refreshEff_request (d : Device) (n : Nat) : odVal 0x2220 1 (refreshEff 0 (odPut 0x2220 1 n d)) = n :=
  (congrArg (·.2.2.2.2) (wakeView_refreshEff 0 (odPut 0x2220 1 n d))).trans (odVal_odPut ..)

theorem powerRequest_ready {r : ReplyTo} {n : Nat} {d : Device} (hn : n < 4) (ht : n < 2 ∨ d.admin.selfTest = none) (hr : d.power.run = .ready)
    (he : d.power.entering ≠ some 4) : powerRequest acc r n d = .done (refreshEff 0 (odPut 0x2220 1 n d)) := by
  have h4 : (n == 4) = false := beq_eq_false_iff_ne.2 (by omega)
  have h2 : (decide (2 ≤ n) && d.admin.selfTest.isSome) = false := by
    rcases ht with h | h
    · rw [decide_eq_false (by omega), Bool.false_and]
    · rw [h, Option.isSome_none, Bool.and_false]
  have he' : (d.power.entering == some 4) = false := beq_eq_false_iff_ne.2 he
  have hi : isReady (odPut 0x2220 1 n d) = true := beq_iff_eq.2 hr
  unfold powerRequest
  rw [hr, h4, h2, he']
  exact congrArg OdRes.done (if_pos hi)

theorem powerRequest_ps4 {r : ReplyTo} {d : Device} (hr : isReady d = true) (hb : ps4Blocked d = false) (he : d.power.entering ≠ some 4)
    (h5 : d.peer.st = 5) (ht : d.peer.takeover = none) : powerRequest acc r 4 d = .done (refreshEff 0 (odPut 0x2220 1 4 d)) := by
  have hrun : d.power.run = .ready := beq_iff_eq.1 hr
  have he' : (d.power.entering == some 4) = false := beq_eq_false_iff_ne.2 he
  unfold powerRequest requestPs4 pairUp
  rw [hrun, hr, hb, he', h5, ht]
  rfl

theorem gives_requested {n : Nat} (hn : n < 4) (h2 : n < 2 ∨ s.dev.admin.selfTest = none) (ht : TakesWrite acc 0x2220 1 [BitVec.ofNat 8 n] s.dev)
    (hr : s.dev.power.run = .ready) (he : s.dev.power.entering ≠ some 4) : Gives (.powerStateRequest acc n) s fun t =>
      odVal 0x2220 1 t = n ∧ Confirms acc 0x2220 1 s.dev t := by
  have hx : exec (.powerStateRequest acc n) s = writeRow acc 0x2220 1 [BitVec.ofNat 8 n] s := rfl
  refine gives_command hx ht (by decide) fun u hu => ⟨refreshEff 0 (odPut 0x2220 1 n u), congrArg some ?_, fun can out => refreshEff_request u n⟩
  rw [leNat_byte (by omega)]
  exact powerRequest_ready hn (hu.admin ▸ h2) (hu.power ▸ hr) (hu.power ▸ he)

theorem gives_ps4 (ht : TakesWrite acc 0x2220 1 [4] s.dev) (hr : isReady s.dev = true) (hb : ps4Blocked s.dev = false)
    (he : s.dev.power.entering ≠ some 4) (h5 : s.dev.peer.st = 5) (hto : s.dev.peer.takeover = none) :
    Gives (.enterPs4 acc) s fun t => odVal 0x2220 1 t = 4 ∧ Confirms acc 0x2220 1 s.dev t := by
  refine gives_command rfl ht (by decide) fun u hu => ⟨refreshEff 0 (odPut 0x2220 1 4 u), congrArg some ?_, fun can out => refreshEff_request u 4⟩
  have hr' : isReady u = true := by rw [isReady, hu.power]; exact hr
  have hb' : ps4Blocked u = false := by rw [ps4Blocked, hu.admin]; exact hb
  exact powerRequest_ps4 hr' hb' (hu.power ▸ he) (hu.peer ▸ h5) (hu.peer ▸ hto)

/-- A device that may leave its reset is not dormant, and its values stand. -/
theorem leaveReset_run {d : Device} (h : d.power.run ≠ .dormant) : (leaveReset d).power.run ≠ .dormant ∧
    odVal 0x2200 1 (leaveReset d) = odVal 0x2200 1 d := by
  unfold leaveReset
  split
  · exact ⟨h, rfl⟩
  · split
    · exact ⟨RunSt.noConfusion, rfl⟩
    · exact ⟨RunSt.noConfusion, rfl⟩

theorem wake_awake (d : Device) : (wake d).power.run ≠ .dormant ∧ odVal 0x2200 1 (wake d) = 5 := by
  obtain ⟨hr, hv⟩ := leaveReset_run (d := odPut 0x2200 1 5 (dropVolatile true true (odPut 0x2220 1 0 d))) RunSt.noConfusion
  exact ⟨hr, hv.trans (odVal_odPut ..)⟩

theorem gives_awake (ht : TakesWrite acc 0x2220 1 [0] s.dev) (hr : s.dev.power.run = .dormant) : Gives (.wakeFromPs4 acc) s fun t =>
    (t.power.run ≠ .dormant ∧ odVal 0x2200 1 t = 5) ∧ Confirms acc 0x2220 1 s.dev t := by
  refine gives_command rfl ht (by decide) fun u hu => ⟨wake u, congrArg some ?_, fun can out => wake_awake u⟩
  change powerRequest acc _ 0 u = _
  unfold powerRequest
  rw [hu.power, hr]
  rfl

/-! ## The hold-up test (R556) -/

theorem gives_holdupTest (ht : TakesWrite acc 0x2240 7 [1] s.dev) (h8 : odVal 0x2240 8 s.dev ≠ 0) (h9 : odVal 0x2240 9 s.dev ≠ 0)
    (ho : s.dev.power.holdupOk = true) (hA : odVal 0x2240 0x0A s.dev ∉ [1, 2]) (hr : s.dev.power.run ≠ .dormant) :
    Gives (.holdupTest acc) s fun t => odVal 0x2240 0x0A t = 1 ∧ Confirms acc 0x2240 7 s.dev t := by
  simp only [List.mem_cons, List.not_mem_nil, or_false, not_or] at hA
  obtain ⟨h1, h2⟩ := hA
  refine gives_command rfl ht (by decide) fun u hu => ⟨refreshDirty (odPut 0x2240 0x0A 1 u), congrArg some ?_, fun can out =>
    (congrArg (·.2.2.2) (standing_refreshDirty (odPut 0x2240 0x0A 1 u))).trans (odVal_odPut ..)⟩
  change holdupTest u = _
  unfold holdupTest
  dsimp only
  rw [hu.odVal, hu.odVal, hu.odVal, hu.power, ho, beq_eq_false_iff_ne.2 h8, beq_eq_false_iff_ne.2 h9, beq_eq_false_iff_ne.2 h1,
    beq_eq_false_iff_ne.2 h2, beq_eq_false_iff_ne.2 hr]
  rfl

/-! ## Images and patches (R586 to R591) -/

theorem dropLanes_peer (d : Device) : (dropLanes d).peer.st = d.peer.st ∧ (dropLanes d).peer.link = 0 := by
  unfold dropLanes
  split
  next h => exact ⟨rfl, beq_iff_eq.1 h⟩
  · rw [(logEvent_spoke ..).peer]
    exact ⟨rfl, rfl⟩

/-- The hosts are told that the firmware is about to start anew. -/
def startTold (d : Device) : Device := aenPost (fun _ => true) 2 1 0x03 0 d

theorem gives_activated (ht : TakesWrite acc 0x2F00 6 [1] s.dev) (hp : (slotIn .pending s.dev).isSome) (h1 : s.dev.peer.st = 1) :
    Gives (.firmwareActivate acc) s fun t => (t.peer.st = 6 ∧ t.peer.link = 0) ∧ Confirms acc 0x2F00 6 s.dev t := by
  refine gives_command rfl ht (by decide) fun u hu => ⟨dropLanes (quitServing (startTold u)), congrArg some ?_, fun can out => ?_⟩
  · have hs : slotIn .pending u = slotIn .pending s.dev := by
      obtain ⟨l, a, rfl⟩ := hu
      rfl
    change activateFirmware acc _ u = _
    unfold activateFirmware
    dsimp only
    rw [hs, hu.peer, h1, Option.isNone_eq_false_iff.2 hp]
    rfl
  · obtain ⟨hst, hl⟩ := dropLanes_peer (quitServing (startTold u))
    exact ⟨hst.trans (congrArg (·.1) (standing_quitServing (startTold u))), hl⟩

theorem Spoke.fw {a b : Device} (h : Spoke a b) : b.fw = a.fw := by
  obtain ⟨_, _, _, _, _, _, rfl, -⟩ := h
  rfl

theorem Spoke.eng {a b : Device} (h : Spoke a b) : b.eng = a.eng := by
  obtain ⟨_, _, _, _, _, _, rfl, -⟩ := h
  rfl

theorem persist_fw (d : Device) : (persist d).fw = d.fw := by
  obtain ⟨a, b, h⟩ := persist_eq d
  rw [h]

/-- A confirmed image is no trial, and no date awaits its confirmation. -/
theorem confirmImage_fw (n : Nat) (d : Device) : (confirmImage n d).fw.confirmBy = none ∧ ∀ x ∈ (confirmImage n d).fw.slots, x.st ≠ .trial := by
  unfold confirmImage
  rw [persist_fw, (logEvent_spoke ..).fw]
  refine ⟨rfl, fun x hx => ?_⟩
  obtain ⟨y, -, rfl⟩ := List.mem_map.1 hx
  split
  · exact ImageSt.noConfusion
  · split
    · exact ImageSt.noConfusion
    next h => exact fun ht => h (beq_iff_eq.2 ht)

theorem gives_confirmedImage {i : Nat} (ht : TakesWrite acc 0x2F10 1 (leBytes 4 0x646F6F67) s.dev) (hi : slotIn .trial s.dev = some i)
    (h3 : odVal 0x2F10 3 s.dev = 0) (hw : wayOf acc ≠ 0) : Gives (.healthConfirm acc 0x646F6F67) s fun t =>
      (t.fw.confirmBy = none ∧ ∀ x ∈ t.fw.slots, x.st ≠ .trial) ∧ Confirms acc 0x2F10 1 s.dev t := by
  refine gives_command rfl ht (by decide) fun u hu => ⟨confirmImage i u, congrArg some ?_, fun can out => confirmImage_fw i u⟩
  have hs : slotIn .trial u = some i := by
    obtain ⟨l, a, rfl⟩ := hu
    exact hi
  have hv : leNat (leBytes 4 0x646F6F67) = 0x646F6F67 := by decide
  have hw' : (wayOf acc == 0) = false := beq_eq_false_iff_ne.2 hw
  rw [hv]
  change healthConfirm acc 0x646F6F67 u = _
  unfold healthConfirm
  dsimp only
  rw [hu.odVal, h3, hs, hw']
  rfl

/-! ## The patch store -/

/-- The store that runs, and the level of its patch. -/
def storeView (d : Device) : Bytes × Nat := (d.eng.dramImage, odVal 0x2F20 3 d)

theorem storeView_yieldQueue (c : Nat) (d : Device) : storeView (yieldQueue c d) = storeView d := by
  unfold yieldQueue
  split
  · rfl
  · refine (foldl_eq_of_step storeView (fun _ _ => ?_) _ _).trans ?_
    · rfl
    · rfl

/-- The store's last cluster runs: the patch is active. -/
theorem storeView_activated (detail : Nat) (d : Device) : storeView (logEvent 0x1006 0x0073 0 detail (odPut 0x2F20 5 2 d)) = storeView d := by
  unfold storeView
  rw [(logEvent_spoke ..).eng, (logEvent_spoke ..).odVal (not_countKey (by decide) (by decide)), odVal_odPut_other _ _ (by decide)]
  rfl

theorem storeView_activateStep (n : Nat) (d : Device) : storeView (activateStep n d) = storeView d := by
  induction n generalizing d with
  | zero => rfl
  | succ n ih =>
    unfold activateStep
    split
    · rfl
    · dsimp only
      split
      · rfl
      · split
        · exact storeView_activated ..
        · refine (ih _).trans ((storeView_yieldQueue ..).trans ?_)
          rfl

theorem patchActivate_store {image : Bytes} {d : Device} (h : patchCheck true d.eng.patch (baseStore d) d = .ok image) :
    storeView (patchActivate d) = (image, patchLevel d.eng.patch) := by
  have hp : storeView (odPut 0x2F20 5 4 (patchActive d.eng.patch (setStore image d))) = (image, patchLevel d.eng.patch) := by
    unfold storeView patchActive
    rw [odVal_odPut_other _ _ (by decide), odVal_odPut_other _ _ (by decide), odVal_odPut_other _ _ (by decide), odVal_odPut]
    rfl
  have ha : ∀ u : Device, storeView { u with eng := { u.eng with activating := [0, 1, 2, 3] } } = storeView u := fun _ => rfl
  have hx : patchActivate d = activateStep 5 (yieldQueue 0 { odPut 0x2F20 5 4 (patchActive d.eng.patch (setStore image d)) with
      eng := { (odPut 0x2F20 5 4 (patchActive d.eng.patch (setStore image d))).eng with activating := [0, 1, 2, 3] } }) := by
    unfold patchActivate
    rw [h]
  rw [hx, storeView_activateStep, storeView_yieldQueue, ha, hp]

/-- The checks of a patch do not depend on sessions and assemblies. -/
theorem Entered.patchCheck {d u : Device} (h : Entered d u) (start : Bool) (pkg base : Bytes) :
    patchCheck start pkg base u = patchCheck start pkg base d := by
  have hs : ∀ n, patchSigner n u = patchSigner n d := by
    obtain ⟨l, a, rfl⟩ := h
    exact fun _ => rfl
  unfold Machine.patchCheck
  simp only [hs, h.odVal]

theorem Entered.store {d u : Device} (h : Entered d u) : u.eng = d.eng ∧ baseStore u = baseStore d := by
  obtain ⟨l, a, rfl⟩ := h
  exact ⟨rfl, rfl⟩

theorem gives_patched {image : Bytes} (ht : TakesWrite acc 0x2F20 6 [1] s.dev) (h5 : odVal 0x2F20 5 s.dev = 1) (hp : noServingPeer s.dev = true)
    (hc : patchCheck true s.dev.eng.patch (baseStore s.dev) s.dev = .ok image) : Gives (.patchActivate acc) s fun t =>
      storeView t = (image, patchLevel s.dev.eng.patch) ∧ Confirms acc 0x2F20 6 s.dev t := by
  have hu := entered_touched acc 0x2F20 6 s.dev
  have hv : storeView (patchActivate (touchIf acc 0x2F20 6 (endAssembly acc s.dev))) = (image, patchLevel s.dev.eng.patch) := by
    obtain ⟨he, hb⟩ := hu.store
    rw [← he] at hc ⊢
    rw [← hb, ← hu.patchCheck] at hc
    exact patchActivate_store hc
  have hr : refusal 0x2F20 6 0 [1] (touchIf acc 0x2F20 6 (endAssembly acc s.dev)) = none := by
    change (if leNat [1] == 1 && odVal 0x2F20 5 (touchIf acc 0x2F20 6 (endAssembly acc s.dev)) == 1 then none else some _) = none
    rw [hu.odVal, h5]
    rfl
  have hn : notStored 0x2F20 6 0 (touchIf acc 0x2F20 6 (endAssembly acc s.dev)) = false := by
    rw [notStored, show isPersistent (odKey 0x2F20 6 0) = false by decide, Bool.false_and]
  have hd : odWrite acc (.accessor acc) 0x2F20 6 [1] (endAssembly acc s.dev) = .done (patchActivate (touchIf acc 0x2F20 6 (endAssembly acc s.dev))) := by
    refine (odWrite_unwindowed (d := endAssembly acc s.dev) (by decide) ht.2.2 ht.2.1).trans ?_
    have he : checkedWrite acc (.accessor acc) 0x2F20 6 0 [1] (touchIf acc 0x2F20 6 (endAssembly acc s.dev)) =
        .done (patchActivate (touchIf acc 0x2F20 6 (endAssembly acc s.dev))) := by
      unfold checkedWrite
      rw [hn, sharedWay_alone (hu.noServingPeer.trans hp)]
      rfl
    change (match refusal 0x2F20 6 0 [1] (touchIf acc 0x2F20 6 (endAssembly acc s.dev)) with
      | some r => _
      | none => checkedWrite acc (.accessor acc) 0x2F20 6 0 [1] (touchIf acc 0x2F20 6 (endAssembly acc s.dev))) = _
    rw [hr]
    exact he
  exact gives_confirmed rfl ht.wayOpen hd (KeptR.outDone hd (odWrite_kept (endAssembly_kept (.refl _)))).out fun can out => hv

end

end Sys2Proof.Machine
end

section
/-! SUPPORT. Dictionary writes that are commands (R187, R234, R262 to R267, R308, R441 to R443, R471, R514, R547 to R551, R556, R590, R591). -/

namespace Sys2Proof.Machine

/-- Settles O13: what arms an entry by `gives_armed`, the commands of the units by `gives_command` and what each of them leaves. -/
theorem commandWrites : Obligations.CommandWrites := by
  unfold Obligations.CommandWrites
  intro s acc slot tenant part n
  refine ⟨fun hp hf => ⟨gives_gearArmed hp hf, ?commit, ?abort, gives_retired hp hf, gives_tenantErased hp hf⟩, ?generate, gives_reloading, ?lost,
    ?survive, ?standDown, ?release, gives_requested, ?ps4, ?wake, gives_holdupTest, ?activate, ?confirm, ?patch, gives_snapshotDeleted⟩
  case commit => exact gives_groupArmed rfl (by omega) groupWord_masked.1 hp hf
  case abort => exact gives_groupArmed rfl (by omega) groupWord_masked.2 hp hf
  case generate =>
    intro hp ht he ha hz
    refine (gives_generated hp ht he ha hz).mono fun t ⟨⟨key, limit, hk⟩, hc⟩ => ?_
    dsimp only
    rw [hk]
    exact ⟨rfl, rfl, rfl, rfl, hc⟩
  case lost => exact fun ht => (gives_lostCleared ht).mono fun t h => ⟨h.2, h.1⟩
  case survive => exact fun ht => (gives_survived ht).mono fun t h => ⟨h.1.1, h.2, h.1.2⟩
  case standDown => exact fun ht => (gives_stoodDown ht).mono fun t h => ⟨h.1.1, h.2, h.1.2⟩
  case release => exact fun ht hf => (gives_fenceReleased ht hf).mono fun t h => ⟨h.1.1, h.1.2, h.2⟩
  case ps4 => exact fun ht _ hr hb he h5 hto => gives_ps4 ht hr hb he h5 hto
  case wake => exact fun ht hr => (gives_awake ht hr).mono fun t h => h.1
  case activate => exact fun ht hp h1 => (gives_activated ht hp h1).mono fun t h => ⟨h.1.1, h.1.2, h.2⟩
  case confirm => exact fun i ht hi h3 hw => (gives_confirmedImage ht hi h3 hw).mono fun t h => ⟨h.1.1, h.1.2, h.2⟩
  case patch =>
    exact fun image ht h5 hp hc => (gives_patched ht h5 hp hc).mono fun t h => ⟨congrArg Prod.fst h.1, congrArg Prod.snd h.1, h.2⟩

end Sys2Proof.Machine
end

section
/-! SUPPORT. The associative search engine: which entry wins a search, and how its answer reaches an engine (R219 to R221, R235, R499). -/

namespace Sys2Proof.Machine

/-! ## The winner of a search (R219, R220) -/

/-- The entry lies in the partition of record `r` and matches the search key. -/
def FitsSearch (r key : Nat) (e : Nat × SearchEntry) : Prop := inPart r e.1 = true ∧ entryMatches key e.2 = true

/-- Entry `b` is not behind `e` in the order of R220: by PRIORITY, then by index. -/
def NotBehind (b e : Nat × SearchEntry) : Prop := b.2.prio < e.2.prio ∨ (b.2.prio = e.2.prio ∧ b.1 ≤ e.1)

/-- What R220 asks of the answer to a search. -/
def IsWinner (t : Tbl SearchEntry) (r key : Nat) : Option (Nat × SearchEntry) → Prop
  | none => ∀ e ∈ t, ¬ FitsSearch r key e
  | some b => b ∈ t ∧ FitsSearch r key b ∧ ∀ e ∈ t, FitsSearch r key e → NotBehind b e

theorem NotBehind.refl (e : Nat × SearchEntry) : NotBehind e e := .inr ⟨rfl, Nat.le_refl _⟩

theorem NotBehind.trans {a b c : Nat × SearchEntry} (hab : NotBehind a b) (hbc : NotBehind b c) : NotBehind a c := by
  unfold NotBehind at *
  omega

theorem notBehind_total (a b : Nat × SearchEntry) : NotBehind a b ∨ NotBehind b a := by
  unfold NotBehind
  omega

/-- The better of the best entry so far and a further one. -/
def betterOf (r key : Nat) (best : Option (Nat × SearchEntry)) (e : Nat × SearchEntry) : Option (Nat × SearchEntry) :=
  if inPart r e.1 && entryMatches key e.2 then
    match best with
    | none => some e
    | some b => if e.2.prio < b.2.prio ∨ (e.2.prio = b.2.prio ∧ e.1 < b.1) then some e else best
  else best

theorem searchIn_eq_foldl (t : Tbl SearchEntry) (r key : Nat) : searchIn t r key = t.foldl (betterOf r key) none := rfl

section
variable {t : Tbl SearchEntry} {r key : Nat} {best : Option (Nat × SearchEntry)} {b e : Nat × SearchEntry}

theorem betterOf_unfit (he : ¬ FitsSearch r key e) : betterOf r key best e = best :=
  if_neg fun h => he ((Bool.and_eq_true ..).mp h)

theorem betterOf_none (he : FitsSearch r key e) : betterOf r key none e = some e := if_pos ((Bool.and_eq_true ..).mpr he)

theorem betterOf_behind (h : NotBehind b e) : betterOf r key (some b) e = some b := by
  have hc : ¬ (e.2.prio < b.2.prio ∨ (e.2.prio = b.2.prio ∧ e.1 < b.1)) := by unfold NotBehind at h; omega
  simp only [betterOf, if_neg hc, ite_self]

theorem betterOf_ahead (he : FitsSearch r key e) (h : ¬ NotBehind b e) : betterOf r key (some b) e = some e := by
  have hc : e.2.prio < b.2.prio ∨ (e.2.prio = b.2.prio ∧ e.1 < b.1) := by unfold NotBehind at h; omega
  exact (if_pos ((Bool.and_eq_true ..).mpr he)).trans (if_pos hc)

/-- A further entry that fits and is not ahead leaves the winner. -/
theorem IsWinner.concat_behind (h : IsWinner t r key (some b)) (he : NotBehind b e) : IsWinner (t ++ [e]) r key (some b) := by
  obtain ⟨hm, hf, hmin⟩ := h
  refine ⟨List.mem_append_left _ hm, hf, fun x hx hfx => ?_⟩
  rcases List.mem_append.1 hx with ht | hl
  · exact hmin x ht hfx
  · rwa [List.mem_singleton.1 hl]

/-- A further entry that does not fit leaves the answer. -/
theorem IsWinner.concat_unfit (h : IsWinner t r key best) (he : ¬ FitsSearch r key e) : IsWinner (t ++ [e]) r key best := by
  have hold : ∀ x ∈ t ++ [e], FitsSearch r key x → x ∈ t := fun x hx hfx => by
    rcases List.mem_append.1 hx with ht | hl
    · exact ht
    · exact absurd (List.mem_singleton.1 hl ▸ hfx) he
  cases best with
  | none => exact fun x hx hfx => h x (hold x hx hfx) hfx
  | some b =>
    obtain ⟨hm, hf, hmin⟩ := h
    exact ⟨List.mem_append_left _ hm, hf, fun x hx hfx => hmin x (hold x hx hfx) hfx⟩

/-- A further entry that fits wins when no fitting entry is ahead of it. -/
theorem isWinner_concat_new (hf : FitsSearch r key e) (h : ∀ x ∈ t, FitsSearch r key x → NotBehind e x) :
    IsWinner (t ++ [e]) r key (some e) := by
  refine ⟨List.mem_append_right _ List.mem_cons_self, hf, fun x hx hfx => ?_⟩
  rcases List.mem_append.1 hx with ht | hl
  · exact h x ht hfx
  · rw [List.mem_singleton.1 hl]
    exact .refl e

theorem IsWinner.betterOf (h : IsWinner t r key best) : IsWinner (t ++ [e]) r key (betterOf r key best e) := by
  by_cases hf : FitsSearch r key e
  · cases best with
    | none =>
      rw [betterOf_none hf]
      exact isWinner_concat_new hf fun x hx hfx => absurd hfx (h x hx)
    | some b =>
      by_cases hbe : NotBehind b e
      · rw [betterOf_behind hbe]
        exact h.concat_behind hbe
      · rw [betterOf_ahead hf hbe]
        obtain ⟨-, -, hmin⟩ := h
        have heb : NotBehind e b := (notBehind_total b e).resolve_left hbe
        exact isWinner_concat_new hf fun x hx hfx => heb.trans (hmin x hx hfx)
  · rw [betterOf_unfit hf]
    exact h.concat_unfit hf

end

/-- What a search finds is the winner: the fold keeps the winner of the entries that it has passed. -/
theorem searchIn_isWinner (t : Tbl SearchEntry) (r key : Nat) : IsWinner t r key (searchIn t r key) := by
  rw [searchIn_eq_foldl]
  induction t using List.reverseRecOn with
  | nil => exact fun e he => absurd he List.not_mem_nil
  | append_singleton t e ih =>
    rw [List.foldl_append]
    exact ih.betterOf

theorem searchIn_eq_none_iff {t : Tbl SearchEntry} {r key : Nat} : searchIn t r key = none ↔ ∀ e ∈ t, ¬ FitsSearch r key e := by
  have hw := searchIn_isWinner t r key
  cases hb : searchIn t r key with
  | none =>
    rw [hb] at hw
    exact iff_of_true rfl hw
  | some b =>
    rw [hb] at hw
    obtain ⟨hm, hf, -⟩ := hw
    exact iff_of_false (Option.some_ne_none b) fun h => h b hm hf

/-! ## The answer to an engine (R220, R497, R499) -/

/-- The device once request `r` has left the search queue. -/
def leftQueue (r : SearchReq) (d : Device) : Device :=
  { d with cam := { d.cam with queue := d.cam.queue.filter (·.id != r.id) } }

/-- An answer does not depend on the requests that wait. -/
theorem answerSearch_leftQueue (r q : SearchReq) (bad : List Nat) (d : Device) :
    answerSearch r bad (leftQueue q d) = answerSearch r bad d := rfl

/-- An engine takes the answer to its search: port 6, and conditions 18 (done) and 19 (hit). -/
def searchTaken (a : Option (Nat × SearchEntry)) (x : Engine) : Engine :=
  { x with
    search := none, ports := x.ports.set 6 (searchPort a % 2 ^ 64)
    conds := setBit (setBit x.conds 18 true) 19 a.isSome }

/-- SEARCH_RESULT without parity errors, for a request that an engine waits for. -/
theorem searchResult_served {r : SearchReq} {e : Nat} {d : Device} (hn : nextSearch d = some r) (he : r.engine = some e) :
    searchResult [] d = onEngine e (searchTaken (answerSearch r [] d)) (leftQueue r d) := by
  rw [← answerSearch_leftQueue r r]
  simp only [searchResult, hn, he, List.filter_nil, List.foldl_nil, setConds_pair, setPort, onEngine_onEngine]
  rfl

/-- The fields of port 6 on a hit (log 15). -/
theorem searchPort_fields {e : Nat × SearchEntry} (hi : e.1 < 2 ^ 31) (hd : e.2.data < 2 ^ 32) :
    bit (searchPort (some e)) 63 = true ∧ bits (searchPort (some e)) 62 32 = e.1 ∧ bits (searchPort (some e)) 31 0 = e.2.data := by
  simp only [bit, bits, searchPort, beq_iff_eq]
  omega

/-- Settles O49: the winner by induction on the entries that a search has passed, the answer by `searchResult_served`. -/
theorem searchPriority : Obligations.SearchPriority := by
  unfold Obligations.SearchPriority
  refine ⟨fun t r key => ⟨?none, fun b hb => ?some⟩, fun s r e hn he hl hp => ?served, fun e hi hd => ?fields⟩
  case none => exact searchIn_eq_none_iff.trans (forall_congr' fun e => not_and.symm)
  case some =>
    have hw := searchIn_isWinner t r key
    rw [hb] at hw
    obtain ⟨hm, hf, hmin⟩ := hw
    exact ⟨⟨hm, hf⟩, fun e he => hmin e he.1 he.2⟩
  case served =>
    refine gives_of_eq rfl ?_
    have ht : engineOf e (searchResult [] s.dev) = searchTaken (answerSearch r [] s.dev) (engineOf e s.dev) := by
      rw [searchResult_served hn he]
      exact engineOf_onEngine _ hl
    rw [ht]
    refine ⟨?_, ?_, bit_setBit_same .., by rw [searchResult_served hn he]; rfl⟩
    · simp [searchTaken, List.getD_eq_getElem?_getD, hp]
    · exact (bit_setBit_other _ _ _ _ (by decide)).trans (bit_setBit_same ..)
  case fields =>
    obtain ⟨hhit, hidx, hdata⟩ := searchPort_fields hi hd
    exact ⟨hhit, hidx, hdata, rfl⟩

end Sys2Proof.Machine
end

section
/-! SUPPORT. The secrets through the work of the hosts: messages, copies, claims and the ends of commands leave them as they are (R198,
R203 to R207, R268). -/

namespace Sys2Proof.Machine

/-! ## Values, messages, copies -/

theorem Spoke.sec {a b : Device} (h : Spoke a b) : b.sec = a.sec := by
  obtain ⟨_, _, _, _, _, _, rfl, -⟩ := h
  rfl

theorem foldl_sec {α : Type} {f : Device → α → Device} (hf : ∀ d x, (f d x).sec = d.sec) (l : List α) (d : Device) :
    (l.foldl f d).sec = d.sec := foldl_eq_of_step Device.sec hf l d

@[simp] theorem logEvent_sec (code unit severity detail : Nat) (d : Device) : (logEvent code unit severity detail d).sec = d.sec := rfl

@[simp] theorem odBump_sec (idx sub n : Nat) (d : Device) : (odBump idx sub n d).sec = d.sec := rfl

@[simp] theorem complete_sec (q : QueueRef) (t : CmdTag) (st : Status) (dw0 dw1 : Nat) (data : Bytes) (d : Device) :
    (complete q t st dw0 dw1 data d).sec = d.sec := by
  obtain ⟨u, m, hu, he⟩ := complete_eq q t st dw0 dw1 data d
  rw [he]
  exact hu.sec

@[simp] theorem setCond_sec (n : Nat) (b : Bool) (d : Device) : (setCond n b d).sec = d.sec :=
  setCond_unseen (f := Device.sec) Spoke.sec (fun _ _ => rfl) (fun _ _ => rfl) (fun _ _ => rfl) ..

@[simp] theorem hotInsert_sec (domain : Nat) (fp : Bytes) (copy : Nat) (d : Device) : (hotInsert domain fp copy d).sec = d.sec := by
  unfold hotInsert
  split
  · rfl
  · dsimp only
    split_ifs <;> rfl

@[simp] theorem hotRemove_sec (domain : Nat) (fp : Bytes) (copy : Nat) (d : Device) : (hotRemove domain fp copy d).sec = d.sec := by
  unfold hotRemove
  split
  · rfl
  · split
    · split_ifs <;> rfl
    · rfl

@[simp] theorem evictPages_sec (d : Device) : (evictPages d).sec = d.sec := by
  unfold evictPages
  dsimp only
  split_ifs
  · rfl
  · split <;> rfl

@[simp] theorem touchMap_sec (typ : Nat) (key : Bytes) (d : Device) : (touchMap typ key d).sec = d.sec := by
  unfold touchMap applyPage
  split
  · rfl
  · simp

@[simp] theorem settleSalt_sec (dom : Nat) (d : Device) : (settleSalt dom d).sec = d.sec := by
  unfold settleSalt
  split <;> simp

@[simp] theorem invalidateCopy_sec (c : Copy) (d : Device) : (invalidateCopy c d).sec = d.sec := by
  unfold invalidateCopy
  split
  · rfl
  · simp [foldl_sec, onBlock]

@[simp] theorem killCopy_sec (c : Copy) (d : Device) : (killCopy c d).sec = d.sec := by
  simp [killCopy, buryCopy, recordCopy, journalRecord, dropCache, onCopy]

@[simp] theorem pinCopy_sec (c : Copy) (d : Device) : (pinCopy c d).sec = d.sec := by
  simp [pinCopy, recordCopy, journalRecord, onCopy]

@[simp] theorem claimAt_sec (dom : Nat) (fp : Bytes) (who : Bool × Nat) (d : Device) : (claimAt dom fp who d).2.sec = d.sec := by
  unfold claimAt
  split
  next c _ =>
    have hc (u : Device) (hu : u.sec = d.sec) : (if c.refs + 1 == refMax then pinCopy c u else u).sec = d.sec := by
      split <;> simp [hu]
    refine hc _ ?_
    dsimp only [onCopy]
    split <;> simp
  · simp [addCopy]

@[simp] theorem sendFpReq_sec (r : LinkReq) (d : Device) : (sendFpReq r d).sec = d.sec := by
  unfold sendFpReq
  split <;> simp

@[simp] theorem askOwner_sec (what : ReqFor) (dom : Nat) (fp : Bytes) (num : Nat) (d : Device) : (askOwner what dom fp num d).sec = d.sec := by
  unfold askOwner
  split <;> simp [newReq]

@[simp] theorem releaseAt_sec (dom : Nat) (fp : Bytes) (num : Nat) (who : Bool × Nat) (d : Device) :
    (releaseAt dom fp num who d).sec = d.sec := by
  unfold releaseAt
  split
  · rfl
  · dsimp only
    split_ifs
    · rfl
    · simp
    · simp [dropCopy]
    · rfl
    · split
      · rfl
      · split <;> simp [storeAgain, onCopy]

@[simp] theorem releaseClaim_sec (dom : Nat) (fp : Bytes) (num cmd : Nat) (claim : Option Nat) (d : Device) :
    (releaseClaim dom fp num cmd claim d).sec = d.sec := by
  unfold releaseClaim
  split
  · simp
  · split
    · simp
    · dsimp only
      split <;> simp

/-! ## Ends of commands -/

@[simp] theorem postFor_sec (c : Cmd) (st : Status) (dw0 dw1 : Nat) (data : Bytes) (d : Device) :
    (postFor c st dw0 dw1 data d).sec = d.sec := by
  have hc : ∀ u, (countHost c st data u).sec = u.sec := fun u => by
    unfold countHost
    split <;> rfl
  unfold postFor
  split
  · split <;> simp
  · split_ifs
    · rfl
    · rfl
    · simp [hc]

@[simp] theorem releaseFlushed_sec (ns : Nat) (i : Item) (d : Device) : (releaseFlushed ns i d).sec = d.sec := by
  unfold releaseFlushed
  split <;> rfl

@[simp] theorem discardItem_sec (cmd : Nat) (i : Item) (d : Device) : (discardItem cmd i d).sec = d.sec := by
  have hc : (i.chunks.foldl (fun d w => match w.claimed, w.copy with
      | true, some n => releaseClaim i.domain w.fp n cmd w.claim d
      | _, _ => d) d).sec = d.sec := foldl_sec (fun d w => by split <;> simp) _ d
  unfold discardItem
  dsimp only
  rw [releaseFlushed_sec]
  split
  · exact (sendLink_sec ..).trans hc
  · exact hc

@[simp] theorem removeCmd_sec (c : Cmd) (d : Device) : (removeCmd c d).sec = d.sec := by
  have ha : ∀ u, (ackInvalidates u).sec = u.sec := fun u => foldl_sec (fun d x => sendLink_sec ..) _ (acksSettled u)
  have he : ∀ f u, (endRemote c f u).sec = u.sec := fun f u => by
    unfold endRemote
    split_ifs <;> simp
  unfold removeCmd
  dsimp only
  split
  · exact (he _ _).trans (ha _)
  · exact ha _

@[simp] theorem doneCmd_sec (id : Nat) (st : Status) (dw0 dw1 : Nat) (data : Bytes) (d : Device) :
    (doneCmd id st dw0 dw1 data d).sec = d.sec := by
  unfold doneCmd
  split <;> simp

@[simp] theorem failCmd_sec (id : Nat) (st : Status) (dw0 : Nat) (d : Device) : (failCmd id st dw0 d).sec = d.sec := by
  unfold failCmd
  split
  · rfl
  next c _ =>
    have hi : (c.items.foldl (fun d i => discardItem id i d) d).sec = d.sec := foldl_sec (fun d i => discardItem_sec id i d) _ d
    dsimp only
    rw [postFor_sec, removeCmd_sec]
    split
    · exact hi
    · exact hi

end Sys2Proof.Machine
end

section
/-! SUPPORT. The tripped sources of an alarm through the steps of the commands: reads and writes draw words and send salts, and trip
or clear no source (R148 to R152, R190, R264, R268). -/

namespace Sys2Proof.Machine

theorem foldl_sources {α : Type} {f : Device → α → Device} (hf : ∀ d x, (f d x).sec.sources = d.sec.sources) (l : List α) (d : Device) :
    (l.foldl f d).sec.sources = d.sec.sources := foldl_eq_of_step (fun d => d.sec.sources) hf l d

/-! ## Forwarding -/

@[simp] theorem onCmd_sec (id : Nat) (f : Cmd → Cmd) (d : Device) : (onCmd id f d).sec = d.sec := rfl

@[simp] theorem setPhase_sec (id : Nat) (p : Phase) (d : Device) : (setPhase id p d).sec = d.sec := rfl

@[simp] theorem onItem_sec (id n : Nat) (f : Item → Item) (d : Device) : (onItem id n f d).sec = d.sec := rfl

@[simp] theorem postHost_sec (bucket : Nat) (w : WorkDesc) (d : Device) : (postHost bucket w d).sec = d.sec := rfl

@[simp] theorem newReq_sec (what : ReqFor) (domain : Nat) (fp : Bytes) (copy : Nat) (d : Device) : (newReq what domain fp copy d).2.sec = d.sec := rfl

@[simp] theorem sendCmd_sec (id : Nat) (d : Device) : (sendCmd id d).sec = d.sec := by
  unfold sendCmd
  split
  · rfl
  next c _ =>
    have hr : (match c.fwdTo with
        | some f => (f, d)
        | none => nextForward d).2.sec = d.sec := by split <;> rfl
    dsimp only
    split_ifs
    · exact (sendLink_sec ..).trans hr
    · exact (sendLink_sec ..).trans ((sendLink_sec ..).trans hr)

@[simp] theorem forwardPart_sec (c : Cmd) (cap : Capsule) (d : Device) : (forwardPart c cap d).2.sec = d.sec := sendCmd_sec ..

@[simp] theorem forwardShare_sec (id : Nat) (d : Device) : (forwardShare id d).sec = d.sec := by
  unfold forwardShare
  split <;> simp

@[simp] theorem gatherRange_sec (id : Nat) (d : Device) : (gatherRange id d).sec = d.sec := by
  unfold gatherRange
  split <;> simp

/-! ## Reads -/

@[simp] theorem loseCopy_sec (dom : Nat) (fp : Bytes) (num : Nat) (d : Device) : (loseCopy dom fp num d).sec = d.sec := by
  have ht : ∀ u, (truncateLost u).sec = u.sec := fun u => by
    unfold truncateLost
    dsimp only
    split <;> simp
  have ha : ∀ cls id bitmap u, (addLost 2 cls id bitmap 1 u).sec = u.sec := fun cls id bitmap u => by
    unfold addLost
    rw [setCond_sec]
    split
    · exact ht u
    · rfl
  unfold loseCopy
  split
  · rfl
  · split
    · rfl
    · refine (hotRemove_sec ..).trans (foldl_sec (fun u id => ?_) _ d)
      exact (logEvent_sec ..).trans (ha ..)

theorem peerMember_sources (stripe unit : Nat) (d : Device) : (peerMember stripe unit d).2.sec.sources = d.sec.sources := by
  unfold peerMember
  dsimp only
  split <;> rfl

@[simp] theorem admitRead_sec (dom : Nat) (fp : Bytes) (num slot : Nat) (plain : Bytes) (d : Device) :
    (admitRead dom fp num slot plain d).sec = d.sec := by
  unfold admitRead
  dsimp only
  split <;> rfl

@[simp] theorem askUnits_sec (cmd prio : Nat) (extents : List Extent) (d : Device) : (askUnits cmd prio extents d).sec = d.sec := by
  unfold askUnits
  simp [foldl_sec]

@[simp] theorem readHere_sec (id : Nat) (c : Cmd) (m : Manifest) (x : Copy) (d : Device) : (readHere id c m x d).sec = d.sec := askUnits_sec ..

@[simp] theorem readOn_sources (n id : Nat) (d : Device) : (readOn n id d).sec.sources = d.sec.sources := by
  induction n generalizing d with
  | zero => rfl
  | succ n ih =>
    unfold readOn
    split
    · rfl
    next c _ =>
      split
      · simp
      next m _ =>
        dsimp only
        split
        next f _ =>
          split
          · rfl
          split
          · simp
          split
          · simp
          · simp [ih, putFetch]
          next stripe unit _ =>
            split <;> simp [ih, putFetch, peerMember_sources]
          · split <;> simp [ih, putFetch, endFetch]
        · split
          · simp
          split
          · simp
          split
          · simp [ih, cacheHit]
            rfl
          split
          · split
            · simp
            split
            · split
              · simp
              · split <;> simp [ih]
            · split <;> simp
          · split <;> simp [locateCopy]

@[simp] theorem startRead_sources (id : Nat) (d : Device) : (startRead id d).sec.sources = d.sec.sources := by
  unfold startRead
  split
  · rfl
  dsimp only
  split
  · simp
  split
  · simp
  · split <;> simp
  split
  · simp
  split
  · simp
  split <;> simp

/-! ## Range commands -/

@[simp] theorem answerRange_sec (c : Cmd) (keys : List Bytes) (more : Bool) (d : Device) : (answerRange c keys more d).sec = d.sec := by
  unfold answerRange
  split <;> simp

@[simp] theorem doList_sec (id : Nat) (d : Device) : (doList id d).sec = d.sec := by
  unfold doList
  split
  · rfl
  dsimp only
  split <;> simp

@[simp] theorem rangeNext_sec (id : Nat) (d : Device) : (rangeNext id d).sec = d.sec := by
  unfold rangeNext
  split
  · rfl
  split
  · simp
  dsimp only
  split
  · rfl
  split
  · split <;> simp
  · simp

@[simp] theorem startRangeDelete_sec (id : Nat) (d : Device) : (startRangeDelete id d).sec = d.sec := by
  unfold startRangeDelete
  split
  · rfl
  dsimp only
  split_ifs <;> simp

/-! ## Writes: salts, claims, records -/

@[simp] theorem drawBytes_sources (n : Nat) (d : Device) : (drawBytes n d).2.sec.sources = d.sec.sources := by
  induction n generalizing d with
  | zero => rfl
  | succ n ih => exact ih (draw d).2

@[simp] theorem sendSecure_sources (m : SecureMsg) (d : Device) : (sendSecure m d).sec.sources = d.sec.sources := by
  obtain ⟨n, h⟩ := sendSecure_sec m d
  rw [h]

@[simp] theorem ensureSalt_sources (dom : Nat) (d : Device) : (ensureSalt dom d).sec.sources = d.sec.sources := by
  unfold ensureSalt
  split <;> simp

@[simp] theorem startReduce_sources (id : Nat) (d : Device) : (startReduce id d).sec.sources = d.sec.sources := by
  unfold startReduce
  split
  · rfl
  refine (foldl_sources (fun d x => ?_) _ _).trans (foldl_sources (fun d i => ?_) _ _)
  · split <;> rfl
  · split <;> simp

@[simp] theorem claimAnswered_sec (id n k : Nat) (a : ClaimAnswer) (d : Device) : (claimAnswered id n k a d).sec = d.sec := by
  unfold claimAnswered engineSeesClaim
  split <;> rfl

@[simp] theorem claimChunk_sec (id n k dom : Nat) (fp : Bytes) (d : Device) : (claimChunk id n k dom fp d).sec = d.sec := by
  unfold claimChunk
  split_ifs <;> simp [onChunk, claimDetached, addCopy]

@[simp] theorem driveItem_sec (c : Cmd) (n : Nat) (i : Item) (d : Device) : (driveItem c n i d).sec = d.sec :=
  foldl_sec (fun d x => by dsimp only; split_ifs <;> simp) _ d

@[simp] theorem writeManifest_sec (c : Cmd) (n : Nat) (i : Item) (d : Device) : (writeManifest c n i d).sec = d.sec := by
  unfold writeManifest
  split <;> rfl

@[simp] theorem startMirror_sec (c : Cmd) (n : Nat) (i : Item) (d : Device) : (startMirror c n i d).sec = d.sec := by
  simp [startMirror, sendAll, foldl_sec]

theorem programGroup_sec (d : Device) (group : List Bytes) : (programGroup d group).sec = d.sec := by
  unfold programGroup
  refine (foldl_sec (fun d x => ?_) _ _).trans ?_ <;> rfl

@[simp] theorem flushWriteAll_sec (rs : List FlushRecord) (d : Device) : (flushWriteAll rs d).sec = d.sec := by
  have hw : (rs.foldl (fun d r => flushWrite 0 r d) d).sec = d.sec := by
    refine foldl_sec (fun d r => ?_) rs d
    rfl
  unfold flushWriteAll programFlush
  dsimp only
  split <;> exact (foldl_sec programGroup_sec _ _).trans hw

theorem markAll_sec (l : List (Nat × Bytes × Nat)) (d : Device) : (l.foldl (fun d x => markPresent x.1 x.2.1 x.2.2 d) d).sec = d.sec := by
  refine foldl_sec (fun d x => ?_) l d
  have hp : ∀ dom fp num u, (presentAt dom fp num u).sec = u.sec := fun dom fp num u => by
    unfold presentAt
    split
    · rfl
    split
    · rfl
    · exact foldl_sec (fun u w => sendLink_sec ..) _ (onCopy dom fp num _ u)
  unfold markPresent
  split
  · rfl
  dsimp only
  split_ifs <;> simp [hp]

@[simp] theorem flushItem_sec (c : Cmd) (n : Nat) (i : Item) (d : Device) : (flushItem c n i d).sec = d.sec := by
  -- The `if` is brought out of the whole device: under `.sec` the kernel would set out to decide its guard.
  have he : flushItem c n i d = if _ then d else _ := rfl
  rw [he]
  split
  · rfl
  · exact (markAll_sec ..).trans ((onItem_sec ..).trans (flushWriteAll_sec ..))

@[simp] theorem ackItem_sec (c : Cmd) (n : Nat) (i : Item) (d : Device) : (ackItem c n i d).sec = d.sec := by
  have hs : (itemMarked (ackMode d) i (itemFlushed (ackMode d) c n i (itemMirrored c n i d))).sec = d.sec := by
    unfold itemMarked itemFlushed itemMirrored
    split_ifs <;> simp [markAll_sec]
  unfold itemMarked itemFlushed itemMirrored at hs
  unfold ackItem
  dsimp only
  split
  · exact hs
  · rw [apply_ite Device.sec, onItem_sec, ite_self]
    exact hs

@[simp] theorem writeReady_sec (id : Nat) (d : Device) : (writeReady id d).sec = d.sec := by
  unfold writeReady
  split
  · rfl
  split
  · rfl
  split
  · rfl
  dsimp only
  split
  · split <;> simp
  · split <;> simp [tellTick]

@[simp] theorem endFailed_sec (id : Nat) (d : Device) : (endFailed id d).sec = d.sec := by
  unfold endFailed
  split
  · rfl
  split
  · rfl
  split <;> simp

@[simp] theorem reopenItem_sec (c : Cmd) (n : Nat) (i : Item) (d : Device) : (reopenItem c n i d).sec = d.sec := by
  unfold reopenItem
  rw [onItem_sec, releaseFlushed_sec]
  split <;> simp

/-! ## Locks granted, writes driven -/

@[simp] theorem countHome_sec (keys : List (Nat × Bytes)) (d : Device) : (countHome keys d).sec = d.sec :=
  foldl_sec (fun d k => by dsimp only; split <;> rfl) keys d

@[simp] theorem itemsGranted_sources (id : Nat) (d : Device) : (itemsGranted id d).sec.sources = d.sec.sources := by
  unfold itemsGranted
  split
  · rfl
  next c _ =>
    have hs : ∀ u, (shareSent id c u).sec = u.sec := fun u => by
      unfold shareSent
      split <;> simp
    dsimp only
    split
    · simp [hs]
    split
    · split
      next r hr =>
        unfold takeSlot at hr
        split at hr
        · cases hr
        · cases hr
          simp [hs, onSlot]
      · simp [hs]
    · simp [hs]

@[simp] theorem granted_sources (id : Nat) (d : Device) : (granted id d).sec.sources = d.sec.sources := by
  unfold granted
  split
  · rfl
  next c _ =>
    split
    · split
      · simp
      · split <;> simp
    split
    · rfl
    split
    · simp
    · refine (itemsGranted_sources id _).trans ?_
      rw [onCmd_sec]
      split <;> simp

@[simp] theorem claimsDriven_sec (id : Nat) (c : Cmd) (d : Device) : (claimsDriven id c d).sec = d.sec := by
  unfold claimsDriven
  split
  · simp
  dsimp only
  split
  · simp [foldl_sec]
  · split_ifs <;> simp [foldl_sec]

@[simp] theorem recordsDriven_sec (id : Nat) (c : Cmd) (d : Device) : (recordsDriven id c d).sec = d.sec := by
  have hack : (c.items.zipIdx.foldl (fun d x => if x.1.ready then d else ackItem c x.2 x.1 d) d).sec = d.sec :=
    foldl_sec (fun d x => by split <;> simp) _ d
  unfold recordsDriven
  split
  · simp
  split
  · simp [foldl_sec]
  dsimp only
  split <;> simp [hack]

@[simp] theorem driveWrite_sec (id : Nat) (d : Device) : (driveWrite id d).sec = d.sec := by
  unfold driveWrite
  split
  · rfl
  next c _ =>
    split
    · exact claimsDriven_sec id c d
    · exact claimsDriven_sec id c d
    · exact recordsDriven_sec id c d
    · exact recordsDriven_sec id c d
    · rfl

/-! ## Commands that start and step -/

theorem pumpLocks_sec (n cmd : Nat) (d : Device) : (pumpLocks n cmd d).sec = d.sec := by
  induction n generalizing d with
  | zero => rfl
  | succ n ih =>
    unfold pumpLocks
    split
    · rfl
    split_ifs
    · exact ih _
    · exact ih _
    · rfl

@[simp] theorem askLocks_sec (id : Nat) (d : Device) : (askLocks id d).sec = d.sec := by
  refine (pumpLocks_sec ..).trans ?_
  unfold ensureLocks
  split
  · rfl
  split <;> rfl

@[simp] theorem startHere_sources (c : Cmd) (d : Device) : (startHere c d).sec.sources = d.sec.sources := by
  unfold startHere
  dsimp only
  split <;> simp

@[simp] theorem startBatch_sec (c : Cmd) (d : Device) : (startBatch c d).sec = d.sec := by
  unfold startBatch
  dsimp only
  split
  · simp
  split
  · simp
  split
  · simp
  split
  · simp
  split <;> simp

@[simp] theorem startCmd_sources (id : Nat) (d : Device) : (startCmd id d).sec.sources = d.sec.sources := by
  unfold startCmd
  split
  · rfl
  split
  · unfold startRange
    split_ifs <;> simp
  split
  · simp
  · unfold startSingle
    split
    · simp
    split <;> simp [forwardCmd]

theorem stepCmd_sources (d : Device) (id : Nat) : (stepCmd d id).sec.sources = d.sec.sources := by
  unfold stepCmd
  split
  · rfl
  split
  · rfl
  split
  · split <;> simp
  · split <;> simp
  · split <;> simp
  all_goals simp

theorem settleOnce_sources (d : Device) : (settleOnce d).sec.sources = d.sec.sources := foldl_sources stepCmd_sources _ d

theorem settleFrom_sources (n : Nat) (d : Device) : (settleFrom n d).sec.sources = d.sec.sources := by
  induction n generalizing d with
  | zero => rfl
  | succ n ih =>
    unfold settleFrom
    dsimp only
    split
    · exact settleOnce_sources d
    · exact (ih _).trans (settleOnce_sources d)

/-- Settling the commands trips no source and clears none. -/
@[simp] theorem settle_sources (d : Device) : (settle d).sec.sources = d.sec.sources :=
  (settleFrom_sources ..).trans ((settleOnce_sources _).trans (settleOnce_sources d))

/-! ## What an alarm interrupts (R269) -/

/-- A descriptor that returns interrupted ends its command and lets the others go on. -/
theorem descriptorReturn_interrupted_sources (tag : Nat) (w : Option WorkDesc) (d : Device) :
    (descriptorReturn tag 5 w d).sec.sources = d.sec.sources := by
  unfold descriptorReturn
  dsimp only
  split
  · rfl
  next c _ =>
    split
    · rfl
    · change (settle (failCmd c.id .interrupted 0 (dropTag tag d))).sec.sources = _
      rw [settle_sources, failCmd_sec]
      rfl

theorem cancelDescriptors_sources (d : Device) : (cancelDescriptors d).sec.sources = d.sec.sources := by
  refine (foldl_sources (fun u w => ?_) _ _).trans rfl
  exact descriptorReturn_interrupted_sources w.tag (some w) u

theorem interruptCmds_sec (f : Cmd → Bool) (d : Device) : (interruptCmds f d).sec = d.sec :=
  foldl_sec (fun _ _ => failCmd_sec ..) _ d

end Sys2Proof.Machine
end

section
/-! SUPPORT. Tamper alarms: what an alarm takes away, how its sources clear, what the reload brings back, and a durable invocation limit
(R256, R268 to R271, R535, R536). -/

namespace Sys2Proof.Machine

/-! ## The alarm (R269, R535) -/

/-- Sources have tripped: they stand from now, and every session is closed. -/
def sourcesTripped (e : Nat) (d : Device) : Device :=
  closeSessions (fun _ => true) { d with sec := { d.sec with sources := d.sec.sources ||| e, clearSince := d.time.now } }

/-- The keys, the cache and the link's and the map's keys are gone, before the work that needs them ends. -/
def keysGone (d : Device) : Device :=
  let d := clearCache (zeroiseSlots (abortSlotWrites d))
  { d with cipher := { d.cipher with alarm := 1 }, sec := { d.sec with linkKey := none }, peer := { d.peer with mapKey := none } }

theorem closeSessions_all (d : Device) : (closeSessions (fun _ => true) d).dict.sessions = [] :=
  List.filter_eq_nil_iff.2 fun _ _ => Bool.false_ne_true

theorem sourcesTripped_sessions (e : Nat) (d : Device) : (sourcesTripped e d).dict.sessions = [] := closeSessions_all _

section
variable {sources : Nat} {d : Device}

theorem alarmTrip_none (h : enabledSources sources d = 0) : alarmTrip sources d = d := by
  simp [alarmTrip, h]

theorem alarmTrip_latched (h : enabledSources sources d ≠ 0) (hr : d.power.run ≠ .ready) (hu : d.power.run ≠ .unpowered) :
    (alarmTrip sources d).dict.sessions = [] ∧ (alarmTrip sources d).sec.latched = d.sec.latched ||| enabledSources sources d ∧
      (alarmTrip sources d).sec.sources = d.sec.sources ||| enabledSources sources d := by
  simp [alarmTrip, h, hr, hu, closeSessions]

theorem alarmTrip_standing (h : enabledSources sources d ≠ 0) (hr : d.power.run = .ready) (ha : d.cipher.alarm = 1) :
    alarmTrip sources d = sourcesTripped (enabledSources sources d) d := by
  simp [alarmTrip, h, hr, ha, closeSessions, sourcesTripped]

theorem alarmTrip_alarm (h : enabledSources sources d ≠ 0) (hr : d.power.run = .ready) (ha : d.cipher.alarm ≠ 1) :
    alarmTrip sources d = alarm (sourcesTripped (enabledSources sources d) d) := by
  simp [alarmTrip, h, hr, ha, closeSessions, sourcesTripped]

end

/-! ### What is gone -/

theorem answer_sessions (r : ReplyTo) (idx sub : Nat) (st : OdStatus) (data : Bytes) (n size : Nat) (d : Device) :
    (answer r idx sub st data n size d).dict.sessions = d.dict.sessions := by
  have hc : ∀ q t st dw0 dw1 data, (complete q t st dw0 dw1 data d).dict.sessions = d.dict.sessions := fun q t st dw0 dw1 data => by
    obtain ⟨u, m, hu, he⟩ := complete_eq q t st dw0 dw1 data d
    obtain ⟨_, _, _, _, _, _, rfl, -⟩ := hu
    rw [he]
  cases r with
  | accessor a => cases st <;> cases a <;> rfl
  | completion q t b =>
    cases st with
    | ok => exact hc ..
    | abort c => exact hc ..
    | held => rfl

/-- Slot commands that wait end without a word of the sessions or the secrets. -/
theorem abortSlotWrites_unseen {β : Type} {f : Device → β} (hp : ∀ n k d, f (putSlot n k d) = f d)
    (hr : ∀ r idx sub st data n size d, f (answer r idx sub st data n size d) = f d)
    (hh : ∀ (d : Device) l, f { d with dict := { d.dict with held := l } } = f d) (d : Device) : f (abortSlotWrites d) = f d := by
  refine (foldl_eq_of_step f (fun u h => ?_) _ _).trans (hh ..)
  refine (hr ..).trans ?_
  split
  · exact hp ..
  · rfl

theorem abortSlotWrites_sec (d : Device) : (abortSlotWrites d).sec = d.sec :=
  abortSlotWrites_unseen (f := Device.sec) putSlot_sec answer_sec (fun _ _ => rfl) d

theorem abortSlotWrites_sessions (d : Device) : (abortSlotWrites d).dict.sessions = d.dict.sessions :=
  abortSlotWrites_unseen (f := fun d => d.dict.sessions) (fun _ _ _ => rfl) answer_sessions (fun _ _ => rfl) d

theorem zeroiseSlots_unusable (d : Device) : ∀ x ∈ (zeroiseSlots d).cipher.slots, x.2.st ≠ .active ∧ x.2.st ≠ .decryptOnly := by
  intro x hx
  obtain ⟨y, -, rfl⟩ := List.mem_map.1 hx
  dsimp only
  split
  next => exact ⟨nofun, nofun⟩
  next h => simpa using h

theorem clearCache_cache (d : Device) : (clearCache d).kv.cache = [] := by
  unfold clearCache
  split
  next h => exact List.isEmpty_iff.1 h
  next => rfl

theorem clearCache_cipher (d : Device) : (clearCache d).cipher = d.cipher := by
  unfold clearCache
  split <;> rfl

theorem clearCache_sec (d : Device) : (clearCache d).sec = d.sec := by
  unfold clearCache
  split <;> rfl

theorem clearCache_sessions (d : Device) : (clearCache d).dict.sessions = d.dict.sessions := by
  unfold clearCache
  split <;> rfl

theorem keysGone_sec (d : Device) : (keysGone d).sec = { d.sec with linkKey := none } := by
  have hs : (clearCache (zeroiseSlots (abortSlotWrites d))).sec = d.sec := (clearCache_sec _).trans (abortSlotWrites_sec d)
  unfold keysGone
  dsimp only
  rw [hs]

theorem keysGone_cache (d : Device) : (keysGone d).kv.cache = [] := clearCache_cache _

theorem keysGone_sessions (d : Device) : (keysGone d).dict.sessions = d.dict.sessions :=
  (clearCache_sessions _).trans (abortSlotWrites_sessions d)

theorem keysGone_slots (d : Device) : ∀ x ∈ (keysGone d).cipher.slots, x.2.st ≠ .active ∧ x.2.st ≠ .decryptOnly := by
  change ∀ x ∈ (clearCache (zeroiseSlots (abortSlotWrites d))).cipher.slots, _
  rw [clearCache_cipher]
  exact zeroiseSlots_unusable _

/-- The alarm is logged with the sources that stood when it began: no work that it ends changes them. -/
theorem alarm_eq (d : Device) : alarm d = raiseEmcy 0x090700 0xFF00 0x0907 (logEvent 0x0907 0x0030 3 d.sec.sources (odBump 0x2800 8 1
    (closeSessions (fun _ => true) (interruptCmds needsCipher (cancelDescriptors (keysGone d)))))) := by
  have hs : (interruptCmds needsCipher (cancelDescriptors (keysGone d))).sec.sources = d.sec.sources := by
    rw [interruptCmds_sec, cancelDescriptors_sources, keysGone_sec]
  rw [← hs]
  rfl

theorem leads_alarm {s : State} {sources : Nat} (he : enabledSources sources s.dev ≠ 0) (hr : s.dev.power.run = .ready)
    (ha : s.dev.cipher.alarm ≠ 1) :
    Leads (fun v => raiseEmcy 0x090700 0xFF00 0x0907 (logEvent 0x0907 0x0030 3 (s.dev.sec.sources ||| enabledSources sources s.dev)
        (odBump 0x2800 8 1 (closeSessions (fun _ => true) (interruptCmds needsCipher (cancelDescriptors v)))))) (.alarm sources) s fun v =>
      v.cipher.alarm = 1 ∧ v.sec.linkKey = none ∧ v.peer.mapKey = none ∧ v.kv.cache = [] ∧ v.dict.sessions = [] ∧
        (∀ x ∈ v.cipher.slots, x.2.st ≠ .active ∧ x.2.st ≠ .decryptOnly) ∧
        v.sec.sources = s.dev.sec.sources ||| enabledSources sources s.dev ∧ v.sec.clearSince = s.dev.time.now := by
  refine leads_of_eq (u := keysGone (sourcesTripped (enabledSources sources s.dev) s.dev)) (g := alarmTrip sources) rfl
    ((alarmTrip_alarm he hr ha).trans (alarm_eq _))
    ⟨rfl, rfl, rfl, keysGone_cache _, (keysGone_sessions _).trans (sourcesTripped_sessions ..), keysGone_slots _, ?_, ?_⟩
  · rw [keysGone_sec]
    rfl
  · rw [keysGone_sec]
    rfl

/-! ## The sources clear (R270) -/

/-- No source has stood for 100 ms. -/
def sourcesGone (d : Device) : Device := waitUntil (d.sec.clearSince + ms 100) { d with sec := { d.sec with sources := 0 } }

/-- The slots reload, or await RELOAD where the alarm is permanent. -/
def reloadOpened (u : Device) : Device :=
  { u with cipher := { u.cipher with alarm := if odVal 0x3240 1 u == 1 then 2 else 3 } }

/-- What the end of the sources sets off: a standing alarm opens the way to the reload, and a link without a key begins its handshake. -/
def alarmEnding (u : Device) : Device :=
  if u.cipher.alarm != 1 then u
  else if linkPhysical (reloadOpened u) && (reloadOpened u).sec.linkKey.isNone then startShake (reloadOpened u)
  else reloadOpened u

theorem sourcesClear_eq (d : Device) : sourcesClear d = alarmEnding (sourcesGone d) := rfl

theorem sourcesGone_sources (d : Device) : (sourcesGone d).sec.sources = 0 := by
  unfold sourcesGone
  rw [waitUntil_sec]

theorem sourcesGone_now (d : Device) : d.sec.clearSince + ms 100 ≤ (sourcesGone d).time.now := le_waitUntil ..

theorem sourcesGone_cipher (d : Device) : (sourcesGone d).cipher = d.cipher := waitUntil_cipher ..

theorem reloadOpened_sec (u : Device) : (reloadOpened u).sec = u.sec := rfl

theorem reloadOpened_time (u : Device) : (reloadOpened u).time = u.time := rfl

theorem sourcesGone_linkPhysical (d : Device) : linkPhysical (sourcesGone d) = linkPhysical d := by
  simp [linkPhysical, sourcesGone]

theorem sourcesGone_linkKey (d : Device) : (sourcesGone d).sec.linkKey = d.sec.linkKey := by
  simp [sourcesGone]

theorem reloadOpened_alarm (d : Device) : (reloadOpened (sourcesGone d)).cipher.alarm = if odVal 0x3240 1 d = 1 then 2 else 3 := by
  have hv : odVal 0x3240 1 (sourcesGone d) = odVal 0x3240 1 d := odVal_waitUntil ..
  simp [reloadOpened, hv]

/-- Where the alarm stood, its sources are gone for 100 ms and the reload runs or is awaited. -/
theorem reloadOpened_cleared (d : Device) : (reloadOpened (sourcesGone d)).sec.sources = 0 ∧
    d.sec.clearSince + ms 100 ≤ (reloadOpened (sourcesGone d)).time.now ∧
    (reloadOpened (sourcesGone d)).cipher.alarm = if odVal 0x3240 1 d = 1 then 2 else 3 := by
  rw [reloadOpened_alarm, reloadOpened_sec, reloadOpened_time]
  exact ⟨sourcesGone_sources d, sourcesGone_now d, rfl⟩

section
variable {u : Device}

theorem alarmEnding_idle (h : u.cipher.alarm ≠ 1) : alarmEnding u = u := by
  simp [alarmEnding, h]

theorem alarmEnding_keyed (h : u.cipher.alarm = 1) (hk : linkPhysical u = false ∨ u.sec.linkKey ≠ none) : alarmEnding u = reloadOpened u := by
  have hn : ¬ (linkPhysical u && u.sec.linkKey.isNone) = true := by rcases hk with hk | hk <;> simp [hk]
  unfold alarmEnding
  rw [h]
  exact if_neg hn

theorem alarmEnding_unkeyed (h : u.cipher.alarm = 1) (hp : linkPhysical u = true) (hk : u.sec.linkKey = none) :
    alarmEnding u = startShake (reloadOpened u) := by
  have hy : (linkPhysical u && u.sec.linkKey.isNone) = true := by simp [hp, hk]
  unfold alarmEnding
  rw [h]
  exact if_pos hy

end

/-! ## The reload (R270) -/

/-- Alarm state and map key, which the reload of a slot leaves. -/
def reloadView (d : Device) : Nat × Option Nat := (d.cipher.alarm, d.peer.mapKey)

theorem reloadView_freshKey (n tenant : Nat) (d : Device) : reloadView (freshKey n tenant d) = reloadView d := by
  obtain ⟨x, hx⟩ := drawBytes_eq 4 d
  unfold freshKey recordLimit
  dsimp only
  rw [hx]
  rfl

theorem reloadView_sendSecure (m : SecureMsg) (d : Device) : reloadView (sendSecure m d) = reloadView d := by
  obtain ⟨n, _, _, _, _, _, he, -⟩ := sendSecure_linkWorked m d
  rw [he]
  rfl

theorem reloadView_renewKey (n tenant : Nat) (d : Device) : reloadView (renewKey n tenant d) = reloadView d := by
  unfold renewKey
  split
  · rfl
  · dsimp only
    split
    · exact (reloadView_sendSecure ..).trans (reloadView_freshKey ..)
    · exact reloadView_freshKey ..

theorem reloadView_restartCounters (n : Nat) (d : Device) : reloadView (restartCounters n d) = reloadView d := by
  unfold restartCounters
  dsimp only
  split <;> rfl

theorem reloadView_reloadSlot (d : Device) (n : Nat) : reloadView (reloadSlot d n) = reloadView d := by
  unfold reloadSlot
  dsimp only
  split
  · rfl
  split
  · split
    · rfl
    · exact reloadView_renewKey ..
  · exact reloadView_restartCounters ..

/-- The slots are back and the alarm is over, before the writes that asked for it are answered. -/
def reloaded (d : Device) : Device :=
  let slots := (d.cipher.slots.filter fun s => s.2.st == .zeroised).map (·.1)
  let d := { d with cipher := { d.cipher with alarm := 0 }, peer := { d.peer with mapKey := d.peer.wrappedMapKey } }
  clearEmcy 0x090700 0x0908 (logEvent 0x0908 0x0030 0 slots.length (slots.foldl reloadSlot d))

theorem Spoke.reloadView {a b : Device} (h : Spoke a b) : reloadView b = reloadView a := by
  obtain ⟨_, _, _, _, _, _, rfl, -⟩ := h
  rfl

theorem reloaded_view (d : Device) : reloadView (reloaded d) = (0, d.peer.wrappedMapKey) :=
  ((logEvent_spoke ..).trans (clearEmcy_spoke ..)).reloadView.trans ((foldl_eq_of_step reloadView reloadView_reloadSlot _ _).trans rfl)

/-- The event that the end of a condition follows stays in the log. -/
theorem clearEmcy_logged (key event code unit severity detail : Nat) (d : Device) :
    Logged code unit severity detail (clearEmcy key event (logEvent code unit severity detail d)) := by
  unfold clearEmcy
  dsimp only
  split
  · split
    · refine ⟨⟨tick d, d.admin.eventSeq + 1, code, unit, severity, detail % 2 ^ 64⟩, ?_, rfl, rfl, rfl, rfl⟩
      rcases sendEmcy_events 0 event { logEvent code unit severity detail d with can := _ } with h | ⟨r, h⟩ <;> rw [h]
      · exact List.mem_cons_self
      · exact List.mem_cons_of_mem _ List.mem_cons_self
    · exact (logEvent_logged ..).of_admin rfl
  · exact logEvent_logged ..

theorem reloaded_logged (d : Device) :
    Logged 0x0908 0x0030 0 ((d.cipher.slots.filter fun x => x.2.st == .zeroised).length) (reloaded d) := by
  rw [← List.length_map (f := Prod.fst)]
  exact clearEmcy_logged ..

theorem leads_reloaded {s : State} (h : s.dev.cipher.alarm = 3) :
    Leads (fun v =>
      let mine := v.dict.held.filter fun w => w.idx == 0x2800 && w.sel == 4096
      settle (mine.foldl (fun v w => answer w.reply w.idx w.sub .ok [] 0 0 v)
        { v with dict := { v.dict with held := v.dict.held.filter fun w => !mine.contains w } })) .alarmReloadComplete s fun v =>
      v.cipher.alarm = 0 ∧ v.peer.mapKey = s.dev.peer.wrappedMapKey ∧
        Logged 0x0908 0x0030 0 ((s.dev.cipher.slots.filter fun x => x.2.st == .zeroised).length) v := by
  obtain ⟨ha, hm⟩ := Prod.mk.inj (reloaded_view s.dev)
  refine leads_of_eq (u := reloaded s.dev) (g := reloadComplete) rfl (if_neg ?_) ⟨ha, hm, reloaded_logged _⟩
  simp [h]

/-! ## A durable limit (R256) -/

theorem KeySlot.limit_setLimit (k : KeySlot) (side v : Nat) : (k.setLimit side v).limit side = v := by
  unfold KeySlot.limit KeySlot.setLimit
  split <;> rfl

theorem KeySlot.limitPending_setLimit (k : KeySlot) (side v : Nat) : (k.setLimit side v).limitPending = k.limitPending := by
  unfold KeySlot.setLimit
  split <;> rfl

/-- The limit that was pending holds, and none is pending any more. -/
theorem slotOf_limitDurable {n l counter : Nat} {d : Device} (h : (slotOf n d).limitPending = some l) :
    slotOf n (limitDurable n d.side l counter d) =
      { (slotOf n d).setLimit d.side (max l ((slotOf n d).limit d.side)) with limitPending := none } := by
  simp [limitDurable, slotOf_putSlot, KeySlot.limitPending_setLimit, h]

theorem exec_slotLimitDurable {s : State} {slot l : Nat} (h : (slotOf slot s.dev).limitPending = some l) : exec (.slotLimitDurable slot) s =
    .next { s with dev := settle (limitDurable slot s.dev.side l ((slotOf slot s.dev).counter s.dev.side) s.dev) } := by
  simp only [exec, execSlotLimitDurable, next, h]

theorem leads_limitDurable {s : State} {slot l : Nat} (h : (slotOf slot s.dev).limitPending = some l) :
    Leads settle (.slotLimitDurable slot) s fun v =>
      (slotOf slot v).limit s.dev.side = max l ((slotOf slot s.dev).limit s.dev.side) ∧ (slotOf slot v).limitPending = none := by
  refine ⟨_, exec_slotLimitDurable h, ?_⟩
  dsimp only
  rw [slotOf_limitDurable h]
  exact ⟨KeySlot.limit_setLimit .., rfl⟩

/-- Settles O35: the alarm by `alarm_eq`, the end of its sources by `sourcesClear`'s cases, the reload by what reloading a slot leaves. -/
theorem alarms : Obligations.Alarms := by
  unfold Obligations.Alarms
  intro s
  refine ⟨fun sources => ⟨leads_alarm, fun he hr ha => ?again, fun he hr hu => ?latched, fun he => ?none⟩, fun ha => ?idle,
    fun ha hk => ?keyed, fun ha hp hk => ?unkeyed, leads_reloaded, fun slot l => leads_limitDurable⟩
  case again =>
    refine gives_of_eq (f := alarmTrip sources) rfl ?_
    rw [alarmTrip_standing he hr ha]
    exact ⟨sourcesTripped_sessions .., rfl, rfl⟩
  case latched => exact gives_of_eq (f := alarmTrip sources) rfl (alarmTrip_latched he hr hu)
  case none => exact congrArg (fun d => Host.Outcome.next { s with dev := d }) (alarmTrip_none he)
  case idle =>
    refine gives_of_eq (f := sourcesClear) rfl ?_
    rw [sourcesClear_eq, alarmEnding_idle (by rwa [sourcesGone_cipher])]
    exact ⟨sourcesGone_sources _, sourcesGone_now _, sourcesGone_cipher _⟩
  case keyed =>
    refine gives_of_eq (f := sourcesClear) rfl ?_
    rw [sourcesClear_eq, alarmEnding_keyed (by rwa [sourcesGone_cipher]) (by rwa [sourcesGone_linkPhysical, sourcesGone_linkKey])]
    exact reloadOpened_cleared s.dev
  case unkeyed =>
    have hu := alarmEnding_unkeyed (u := sourcesGone s.dev) (by rwa [sourcesGone_cipher]) (by rwa [sourcesGone_linkPhysical])
      (by rwa [sourcesGone_linkKey])
    exact leads_of_eq (g := sourcesClear) rfl ((sourcesClear_eq _).trans hu) (reloadOpened_cleared s.dev)

end Sys2Proof.Machine
end

section
/-! SUPPORT. The parity unit of an engine: what each word and its end leave (R282, R283, R499). -/

namespace Sys2Proof.Machine

theorem gfWork_eq (e : Nat) (f : GfUnit → GfUnit) (d : Device) : gfWork e f d =
    onEngine e (fun x => { x with gf := { f x.gf with busy := true }, conds := setBit x.conds 15 false }) d := onEngine_onEngine ..

/-- The unit starts work that writes `out` into buffer `b`. -/
def gfGiven (b : BufDesc) (out : Bytes) (x : Engine) : Engine :=
  { x with
    mem := memWrite x.mem (b.addr + b.cursor) (out.take (b.limit - b.cursor))
    conds := setBit x.conds 15 false
    gf := { x.gf with busy := true } }

theorem gfWork_putBytes (e buf : Nat) (out : Bytes) (d : Device) :
    gfWork e id (putBytes e buf out d) = onEngine e (gfGiven (bufDesc e buf d) out) d := by
  rw [gfWork_eq]
  exact onEngine_onEngine ..

/-- A word by which the unit writes `out` into the buffer that the word names. -/
theorem becomes_of_gfOutput {c : Instr} {e buf : Nat} {s : State} {out : Device → Bytes} (hr : EngineRuns e s.dev)
    (hx : exec c s = next s (bufWord e buf fun d => gfWork e id (putBytes e buf (out d) d))) :
    EngineBecomes c e (gfGiven (bufDesc e buf s.dev) (out (selBuf e buf s.dev))
      { engineOf e s.dev with ctx := { (engineOf e s.dev).ctx with sel := buf } }) s := by
  rw [← bufDesc_selBuf buf buf hr.2.1]
  exact becomes_of_bufWord hr hx (gfWork_putBytes ..)

theorem gfUnitDone_busy {e : Nat} {s : State} (h : (engineOf e s.dev).gf.busy = true) : exec (.gfUnitDone e) s =
    .next { s with dev := onEngine e (fun x => { x with gf := { x.gf with busy := false }, conds := setBit x.conds 15 true }) s.dev } := by
  refine congrArg (fun d => Host.Outcome.next { s with dev := d }) ((if_pos h).trans ?_)
  exact onEngine_onEngine ..

/-- Settles O6: every output by `becomes_of_gfOutput`, what a word reads of its buffer and its sums standing through BUF_SEL. -/
theorem gfUnit : Obligations.GfUnit := by
  unfold Obligations.GfUnit
  intro s e buf imm hr
  have hsel := engineOf_selBuf buf hr.2.1
  have hbytes := bufBytes_selBuf buf buf hr.2.1
  refine ⟨?clear, ?accumulate, ?p, ?q, ?one, ?two, fun hb => ?done⟩
  case clear => exact becomes_of_word hr (c := .gfClear e) rfl (gfWork_eq ..)
  case accumulate =>
    have h := becomes_of_bufWord hr (c := .gfAccumulate e buf imm) rfl (gfWork_eq ..)
    rwa [hbytes] at h
  case p =>
    have h := becomes_of_gfOutput hr (c := .emitP e buf) rfl
    rwa [hsel] at h
  case q =>
    have h := becomes_of_gfOutput hr (c := .emitQ e buf) rfl
    rwa [hsel] at h
  case one =>
    have h := becomes_of_gfOutput hr (c := .solveOne e buf imm) rfl
    rwa [hsel, hbytes] at h
  case two =>
    have h := becomes_of_gfOutput hr (c := .solveTwo e buf imm) rfl
    rwa [hsel, hbytes] at h
  case done => exact becomes_of_eq hr (gfUnitDone_busy hb) rfl

end Sys2Proof.Machine
end

section
/-! SUPPORT. Stripes and the journal: a stripe from its gathering to its release, durable pages, rebuild, lost keys and journal copies (R275,
R288 to R291, R295, R296, R301, R308). -/

namespace Sys2Proof.Machine

/-! ## The stripe that a change changes -/

theorem stripeOf_onStripe {id : Nat} {f : Stripe → Stripe} (hf : ∀ x, (f x).id = x.id) (d : Device) :
    stripeOf id (onStripe id f d) = (stripeOf id d).map f :=
  find?_map_picked (fun x h => by rwa [hf x]) _

/-! ## Closing (R288) -/

theorem closeGather_gone (g : Gather) (d : Device) : ∀ x ∈ (closeGather g d).stripe.gathers, x.id ≠ g.id := fun x hx => by
  simpa using (List.mem_filter.1 hx).2

theorem closeGather_closed (g : Gather) (d : Device) : ∃ x ∈ (closeGather g d).stripe.stripes, x.id = g.id ∧ x.st = .closed ∧ x.fill = g.fill ∧
    x.k = classK g.cls d ∧ x.unit = classUnit g.cls d ∧ x.pad = dataSpace x.k x.unit - g.fill :=
  ⟨_, List.mem_append_right _ List.mem_cons_self, rfl, rfl, rfl, rfl, rfl, rfl⟩

theorem closeGather_time (g : Gather) (d : Device) : (closeGather g d).time = d.time := rfl

section
variable {cls cluster : Nat} {g : Gather} {d : Device}

theorem stripeClose_empty (h : d.stripe.gathers.find? (isGather cls cluster (streamOf cluster)) = some g) (hf : g.fill = 0) :
    stripeClose cls cluster d = issueClosed d := by
  simp [stripeClose, h, hf]

theorem stripeClose_filled (h : d.stripe.gathers.find? (isGather cls cluster (streamOf cluster)) = some g) (hf : g.fill ≠ 0) :
    stripeClose cls cluster d = issueClosed (closeGather g d) := by
  simp [stripeClose, h, hf]

end

theorem exec_gatherLimit {s : State} {cls cluster : Nat} {g : Gather}
    (h : s.dev.stripe.gathers.find? (isGather cls cluster (streamOf cluster)) = some g) : exec (.gatherLimitExpiry cls cluster) s =
    .next { s with dev := stripeClose cls cluster (waitUntil (g.since + ms (odVal 0x2900 5 s.dev)) s.dev) } := by
  simp only [exec, execGatherLimitExpiry, next, h]

/-- The end of the gather limit closes the stripe that has held data for so long. -/
theorem leads_gatherLimit {s : State} {cls cluster : Nat} {g : Gather}
    (h : s.dev.stripe.gathers.find? (isGather cls cluster (streamOf cluster)) = some g) (hf : g.fill ≠ 0) :
    Leads issueClosed (.gatherLimitExpiry cls cluster) s fun v => g.since + ms (odVal 0x2900 5 s.dev) ≤ v.time.now ∧
      (∀ x ∈ v.stripe.gathers, x.id ≠ g.id) ∧ ∃ x ∈ v.stripe.stripes, x.id = g.id ∧ x.st = .closed ∧ x.fill = g.fill := by
  have hx := exec_gatherLimit h
  generalize g.since + ms (odVal 0x2900 5 s.dev) = due at hx ⊢
  have hw : (waitUntil due s.dev).stripe.gathers.find? (isGather cls cluster (streamOf cluster)) = some g := by rwa [waitUntil_stripe]
  obtain ⟨x, hmem, hid, hst, hfill, -⟩ := closeGather_closed g (waitUntil due s.dev)
  refine ⟨closeGather g (waitUntil due s.dev), ?_, ?_, closeGather_gone g _, x, hmem, hid, hst, hfill⟩
  · rw [hx, stripeClose_filled hw hf]
  · rw [closeGather_time, waitUntil_now]
    exact le_max_left ..

/-! ## Members programmed, and the release (R289) -/

section
variable {id : Nat} {x : Stripe} {d : Device}

theorem stripeIssueDurable_programs (h : stripeOf id d = some x) (hs : x.st = .issued) (hd : x.issueDurable = true) :
    stripeIssueDurable id d = (List.range x.members.length).foldl (fun v m => match x.members[m]? with
      | some y => if y.issued || y.programmed then v else programMember id m false v
      | none => v) d := by
  unfold stripeIssueDurable
  rw [h]
  exact if_pos (by rw [hs, hd]; rfl)

theorem stripeProgrammed_durable (h : stripeOf id d = some x) (hs : x.st = .issued)
    (hm : ∀ m ∈ x.members, m.programmed = true ∧ (verifies x d = true → m.verified = true)) :
    stripeProgrammed id d =
      landRelocs (landMapPages id (journalRecord (.stripeDurable id) (onStripe id (fun s => { s with st := .durable }) d))) := by
  have hall : (x.members.all fun m => m.programmed && (!verifies x d || m.verified)) = true := List.all_eq_true.2 fun m h => by
    obtain ⟨hp, hv⟩ := hm m h
    cases hc : verifies x d <;> simp_all
  simp only [stripeProgrammed, h, hs, hall, beq_self_eq_true, Bool.and_self, if_true]

theorem stripeRelease_releases (h : stripeOf id d = some x) (hs : x.st = .durable) (hd : x.durableDurable = true) :
    stripeRelease id d = reapStripes (releaseWrites (onStripe id (fun s => { s with released := true }) d)) := by
  simp only [stripeRelease, h, hs, hd, beq_self_eq_true, Bool.and_self, if_true]

end

/-! ## Rebuild (R301, R302) -/

theorem onFailed_found {a : Nat} {f : FailedElement → FailedElement} (hf : ∀ x, (f x).addr = x.addr) (d : Device) :
    (onFailed a f d).stripe.failed.find? (·.addr == a) = (d.stripe.failed.find? (·.addr == a)).map f :=
  find?_map_picked (fun x h => by rwa [hf x]) _

theorem settleRebuild_moves (a : Nat) (d : Device) : (settleRebuild a d).stripe.moves = d.stripe.moves := by
  unfold settleRebuild
  dsimp only
  split
  · rfl
  · split_ifs <;> rfl

theorem rebuildStripe_repairs {a id : Nat} {rest : List Nat} {f : FailedElement} {d w : Device} (hw : settleRebuild a d = w)
    (h : w.stripe.failed.find? (·.addr == a) = some f) (hs : f.st = 3 ∨ f.st = 4)
    (hn : (f.work.filter fun id => !w.stripe.moves.any (·.stripe == id)).filter
      (fun id => ((stripeOf id w).map fun x => repairable x w).getD true) = id :: rest) :
    rebuildStripe a d = settleRebuild a (repairStripe a id w) := by
  have hr : (f.st != 3 && f.st != 4) = false := by rcases hs with hs | hs <;> rw [hs] <;> rfl
  simp only [rebuildStripe, hw, h, hr, Bool.false_eq_true, if_false, hn]

/-- A rebuild that paused goes on. -/
theorem leads_rebuildResume {s : State} {a : Nat} {f : FailedElement} (h : s.dev.stripe.failed.find? (·.addr == a) = some f) (hs : f.st = 4)
    (hw : ∃ id ∈ f.work, ((stripeOf id s.dev).map fun x => repairable x s.dev).getD true = true) :
    Leads refreshRebuild (.rebuildResume a) s fun v => v.stripe.failed.find? (·.addr == a) = some { f with st := 3 } := by
  refine ⟨onFailed a (fun f => { f with st := 3 }) s.dev, ?_, ?_⟩
  · simp only [exec, execRebuildResume, next, h, hs, List.any_eq_true.2 hw, beq_self_eq_true, Bool.and_self, if_true]
  · exact (onFailed_found (fun _ => by rfl) s.dev).trans (congrArg _ h)

/-! ## Keys of a lost stripe (R308) -/

theorem lostScan_done {id : Nat} {r : LostRecord} {d : Device}
    (h : d.stripe.lostStripes.find? (fun r => r.stripe == id && !r.scanDone) = some r) :
    ∀ x ∈ (lostScan id d).stripe.lostStripes, x.seq = r.seq → x.scanDone = true := by
  intro x hx hr
  simp only [lostScan, h, bumpVersion_stripe, List.mem_map] at hx
  obtain ⟨y, -, rfl⟩ := hx
  by_cases hy : (y.seq == r.seq) = true
  · rw [if_pos hy]
  · rw [if_neg hy] at hr
    exact absurd (beq_iff_eq.2 hr) hy

/-! ## Journal copies (R296) -/

/-- Journal copy `n`, written anew, can be read, and is rewritten no longer. -/
def journalCopyBack (n : Nat) (d : Device) : Device :=
  let d := { d with stripe := { d.stripe with rewriting := d.stripe.rewriting.filter (· != n) } }
  if n == 3 then { d with stripe := { d.stripe with copy3 := true } }
  else { d with stripe := { d.stripe with copies := setBit d.stripe.copies n true } }

theorem copyRewritten_back {n : Nat} {d : Device} (h : n ∈ d.stripe.rewriting) :
    copyRewritten n d = refreshCopies (logEvent 0x0A05 0x0040 0 n (journalCopyBack n d)) := by
  simp only [copyRewritten, List.contains_iff_mem.2 h, Bool.not_true, Bool.false_eq_true, if_false]
  rfl

theorem journalCopyBack_rewriting (n : Nat) (d : Device) : (journalCopyBack n d).stripe.rewriting = d.stripe.rewriting.filter (· != n) := by
  unfold journalCopyBack
  dsimp only
  split_ifs <;> rfl

theorem journalCopyBack_reads (n : Nat) (d : Device) :
    if n = 3 then (journalCopyBack n d).stripe.copy3 = true else bit (journalCopyBack n d).stripe.copies n = true := by
  unfold journalCopyBack
  by_cases h : n = 3
  · subst h; rfl
  · simp [h, bit_setBit_same]

/-- Settles O36: a stripe by the device that each of its steps leaves, a rebuild by the work that `settleRebuild` leaves. -/
theorem stripesAndJournal : Obligations.StripesAndJournal := by
  unfold Obligations.StripesAndJournal
  intro s
  refine ⟨fun cls cluster g h => ⟨fun hf => ?empty, fun hf => ?close, leads_gatherLimit h⟩, fun id x h hs hd => ?issue, fun id x h hs hm => ?programmed,
    fun id x h hs hd => ?release, fun n => ?durable, fun a f id rest h hs hn => ?rebuild, fun a f => leads_rebuildResume, fun id r h => ?scan,
    fun n h => ?copy⟩
  case empty => exact leads_of_eq rfl (stripeClose_empty h hf) rfl
  case close => exact leads_of_eq rfl (stripeClose_filled h hf) ⟨closeGather_gone g s.dev, closeGather_closed g s.dev⟩
  case issue => exact leads_of_eq rfl (stripeIssueDurable_programs h hs hd) rfl
  case programmed =>
    refine leads_of_eq rfl (stripeProgrammed_durable h hs hm) ?_
    exact (stripeOf_onStripe (fun _ => by rfl) s.dev).trans (congrArg _ h)
  case release =>
    refine leads_of_eq rfl (stripeRelease_releases h hs hd) ?_
    exact (stripeOf_onStripe (fun _ => by rfl) s.dev).trans (congrArg _ h)
  case durable => exact leads_of_eq (g := journalDurable n) rfl rfl rfl
  case rebuild =>
    exact leads_of_eq rfl (rebuildStripe_repairs rfl h hs hn)
      ⟨settleRebuild_moves a s.dev, f, List.mem_of_find?_eq_some h, by simpa using List.find?_some h, rfl⟩
  case scan => exact gives_of_eq rfl (lostScan_done h)
  case copy =>
    refine leads_of_eq (g := fun v => issueClosed (copyRewritten n v)) rfl (congrArg issueClosed (copyRewritten_back h)) ⟨?_, logEvent_logged .., ?_⟩
    · exact journalCopyBack_rewriting n s.dev
    · exact journalCopyBack_reads n s.dev

end Sys2Proof.Machine
end

section
/-! SUPPORT. Flash operations: what their end leaves, what its engine sees of it, and which reads a step sends to the die (R376, R377, R497). -/

namespace Sys2Proof.Machine

theorem opOf_onOp {id : Nat} {f : FlashOp → FlashOp} (hf : ∀ x, (f x).id = x.id) (d : Device) : opOf id (onOp id f d) = (opOf id d).map f :=
  find?_map_picked (fun x h => by rwa [hf x]) _

theorem stripeOf_congr {a b : Device} (h : b.stripe = a.stripe) (id : Nat) : stripeOf id b = stripeOf id a := by rw [stripeOf, stripeOf, h]

theorem moveOf_congr {a b : Device} (h : b.stripe = a.stripe) (stripe member : Nat) : moveOf stripe member b = moveOf stripe member a := by
  rw [moveOf, moveOf, h]

theorem lostUnits_congr {a b : Device} (h : b.stripe = a.stripe) (s : Stripe) : lostUnits s b = lostUnits s a := by
  simp only [lostUnits, unusable, memberFailed, lunFailed, elementFailed, h]

theorem indispensable_congr {a b : Device} (h : b.stripe = a.stripe) (o : FlashOp) : indispensable o b = indispensable o a := by
  unfold indispensable
  rw [stripeOf_congr h]
  simp only [lostUnits_congr h]

/-! ## An operation ends -/

theorem endOp_eq (o : FlashOp) (d : Device) :
    ∃ ops, endOp o d = { d with media := { d.media with ops := ops } } ∧ ∀ x ∈ ops, x.id ≠ o.id := by
  have hleft : ∀ x ∈ d.media.ops.filter (·.id != o.id), x.id ≠ o.id := fun x hx => by simpa using (List.mem_filter.1 hx).2
  unfold endOp
  dsimp only
  split
  · exact ⟨_, rfl, hleft⟩
  · refine ⟨_, rfl, fun x hx => ?_⟩
    obtain ⟨y, hy, rfl⟩ := List.mem_map.1 hx
    split_ifs
    · exact hleft y hy
    · exact hleft y hy

theorem endOp_gone (o : FlashOp) (d : Device) : ∀ x ∈ (endOp o d).media.ops, x.id ≠ o.id := by
  obtain ⟨ops, h, hgone⟩ := endOp_eq o d
  rwa [h]

theorem endOp_map (o : FlashOp) (d : Device) : (endOp o d).map = d.map := by
  obtain ⟨ops, h, -⟩ := endOp_eq o d
  rw [h]

/-- Operation `o` has ended, and its engine sees whether it passed. -/
def opEnded (o : FlashOp) (ok : Bool) (d : Device) : Device := engineSees o ok (endOp o d)

theorem opEnded_eq (o : FlashOp) (ok : Bool) (d : Device) : ∃ ops engines,
    opEnded o ok d = { d with media := { d.media with ops := ops }, eng := { d.eng with engines := engines } } ∧ ∀ x ∈ ops, x.id ≠ o.id := by
  obtain ⟨ops, h, hgone⟩ := endOp_eq o d
  unfold opEnded engineSees
  rw [h]
  cases o.engine with
  | none => exact ⟨ops, _, rfl, hgone⟩
  | some e => exact ⟨ops, _, rfl, hgone⟩

theorem opEnded_gone (o : FlashOp) (ok : Bool) (d : Device) : ∀ x ∈ (opEnded o ok d).media.ops, x.id ≠ o.id := by
  obtain ⟨ops, engines, h, hgone⟩ := opEnded_eq o ok d
  rwa [h]

@[simp] theorem opEnded_stripe (o : FlashOp) (ok : Bool) (d : Device) : (opEnded o ok d).stripe = d.stripe := by
  obtain ⟨ops, engines, h, -⟩ := opEnded_eq o ok d
  rw [h]

@[simp] theorem opEnded_time (o : FlashOp) (ok : Bool) (d : Device) : (opEnded o ok d).time = d.time := by
  obtain ⟨ops, engines, h, -⟩ := opEnded_eq o ok d
  rw [h]

@[simp] theorem odVal_opEnded (idx sub : Nat) (o : FlashOp) (ok : Bool) (d : Device) : odVal idx sub (opEnded o ok d) = odVal idx sub d := by
  obtain ⟨ops, engines, h, -⟩ := opEnded_eq o ok d
  rw [h]
  rfl

/-- Conditions 23 and 24, and no operation any more (R497). -/
theorem opEnded_sees {o : FlashOp} {e : Nat} {d : Device} (ho : o.engine = some e) (he : e < d.eng.engines.length) (ok : Bool) :
    bit (engineOf e (opEnded o ok d)).conds 23 = true ∧ bit (engineOf e (opEnded o ok d)).conds 24 = !ok ∧
      (engineOf e (opEnded o ok d)).flash = none := by
  obtain ⟨ops, h, -⟩ := endOp_eq o d
  have hl : e < (endOp o d).eng.engines.length := by rwa [h]
  have hx : opEnded o ok d = onEngine e (fun x => { x with
      conds := setBit (setBit x.conds 23 true) 24 (!ok), flash := none, tokens := 0, flashStep := o.step }) (endOp o d) := by
    simp only [opEnded, engineSees, ho, engineCond, onEngine_onEngine]
  rw [hx, engineOf_onEngine _ hl]
  exact ⟨(bit_setBit_other _ _ _ _ (by decide)).trans (bit_setBit_same ..), bit_setBit_same .., rfl⟩

theorem opEnded_alone {o : FlashOp} (h : o.engine = none) (ok : Bool) (d : Device) : opEnded o ok d = endOp o d := by
  rw [opEnded, engineSees, h]

/-! ## The reads of a step -/

/-- From `a` to `b` nothing changed on which the thresholds of a read rest. -/
structure ReadsAlike (a b : Device) : Prop where
  map : b.map = a.map
  time : b.time = a.time
  media : ∃ ops counts, b.media = { a.media with ops := ops, groupCounts := counts }
  profile : ∀ g, profileOf g b = profileOf g a

theorem ReadsAlike.refl (a : Device) : ReadsAlike a a := ⟨rfl, rfl, ⟨_, _, rfl⟩, fun _ => rfl⟩

theorem ReadsAlike.trans {a b c : Device} (h : ReadsAlike a b) (k : ReadsAlike b c) : ReadsAlike a c := by
  obtain ⟨ops, counts, hm⟩ := h.media
  obtain ⟨ops', counts', km⟩ := k.media
  exact ⟨k.map.trans h.map, k.time.trans h.time, ⟨ops', counts', by rw [km, hm]⟩, fun g => (k.profile g).trans (h.profile g)⟩

theorem ReadsAlike.readEntry {a b : Device} (h : ReadsAlike a b) (o : FlashOp) : readEntry o b = readEntry o a := by
  obtain ⟨ops, counts, hm⟩ := h.media
  have hage : ∀ x, blockAge x b = blockAge x a := fun x => by
    unfold blockAge ageAt minutes
    rw [h.time, hm]
  have hhint : hintOf o.desc b = hintOf o.desc a := by rw [hintOf, hintOf, hm]
  unfold Machine.readEntry
  rw [blockOf_congr h.map, hhint]
  simp only [h.profile, hage]

theorem ReadsAlike.readPasses {a b : Device} (h : ReadsAlike a b) (o : FlashOp) (about : Nat) : readPasses o about b = readPasses o about a := by
  obtain ⟨ops, counts, hm⟩ := h.media
  simp only [Machine.readPasses, blockOf_congr h.map, h.profile, h.readEntry, hintOf, hm]

theorem ReadsAlike.bestEntry {a b : Device} (h : ReadsAlike a b) (o : FlashOp) (w : Nat) : bestEntry o w b = bestEntry o w a := by
  simp only [Machine.bestEntry, blockOf_congr h.map, h.profile, h.readEntry]

theorem onOp_readsAlike (id : Nat) (f : FlashOp → FlashOp) (d : Device) : ReadsAlike d (onOp id f d) :=
  ⟨rfl, rfl, ⟨_, _, rfl⟩, fun _ => rfl⟩

theorem uncorrected_readsAlike (m : MemberDesc) (d : Device) : ReadsAlike d (uncorrected m d) := by
  refine ⟨rfl, rfl, ⟨_, _, rfl⟩, fun g => ?_⟩
  have hv : odVal 0x3448 (g + 1) (uncorrected m d) = odVal 0x3448 (g + 1) d :=
    odVal_odPut_other _ (bumpGroup (m.channel / 8) 3 d) (by unfold odKey; omega)
  unfold profileOf binding
  rw [hv]
  rfl

/-- Step 5 takes no entry from the steps before. -/
theorem readPasses_last {o : FlashOp} (h : o.step = 5) (about : Nat) (d : Device) : readPasses o about d = readPasses o 0 d := by
  simp only [readPasses, h]

theorem foldl_emit {α : Type} (f : α → Output) (l : List α) (d : Device) :
    l.foldl (fun d x => emit (f x) d) d = { d with out := d.out ++ l.map f } := by
  induction l generalizing d with
  | nil => simp
  | cons x l ih => rw [List.foldl_cons, ih, emit_out, List.append_assoc]; rfl

/-- The random word of a step: step 4 draws one. -/
def readWord (o : FlashOp) (d : Device) : Nat × Device := if o.step = 4 then draw d else (0, d)

theorem readWord_fst (o : FlashOp) (d : Device) : (readWord o d).1 = if o.step = 4 then (draw d).1 else 0 := by
  unfold readWord
  split_ifs <;> rfl

theorem readWord_snd (o : FlashOp) (d : Device) : ∃ sec, (readWord o d).2 = { d with sec := sec } := by
  unfold readWord
  split_ifs
  · exact ⟨_, rfl⟩
  · exact ⟨_, rfl⟩

theorem emitReads_eq (o : FlashOp) (d : Device) : ∃ sec, emitReads o d = { d with
    sec := sec, out := d.out ++ (readPasses o (bestEntry o (if o.step = 4 then (draw d).1 else 0) d) d).map (readOutput o.desc) } := by
  obtain ⟨sec, h⟩ := readWord_snd o d
  have hw : (if o.step == 4 then draw d else (0, d)) = readWord o d := by simp [readWord]
  refine ⟨sec, ?_⟩
  rw [← readWord_fst]
  simp only [emitReads, hw, foldl_emit, h]
  rfl

theorem emitReads_media (o : FlashOp) (d : Device) : (emitReads o d).media = d.media := by
  obtain ⟨sec, h⟩ := emitReads_eq o d
  rw [h]

/-- The reads of the step go out, as they are before what changes no threshold. -/
theorem emitReads_sent {a b : Device} (h : ReadsAlike a b) (ho : b.out = a.out) (hs : b.sec = a.sec) (o : FlashOp) :
    ∀ x ∈ readPasses o (bestEntry o (if o.step = 4 then (draw a).1 else 0) a) a, Sent a (emitReads o b) (readOutput o.desc x) := by
  intro x hx
  have hd : (draw b).1 = (draw a).1 := by rw [draw, draw, hs]
  obtain ⟨sec, he⟩ := emitReads_eq o b
  rw [hd, h.bestEntry, h.readPasses, ho] at he
  rw [Sent, he, List.drop_left]
  exact List.mem_map_of_mem hx

end Sys2Proof.Machine
end

section
/-! SUPPORT. The ends of flash operations: reads, programs, erases and resets of a LUN (R289, R298 to R300, R304, R305, R348, R351, R352, R369,
R376). -/

namespace Sys2Proof.Machine

/-! ## Reads that end at the die -/

section
variable {op : Nat} {o : FlashOp} {d : Device} (ho : opOf op d = some o) (hs : o.started = true) (hk : o.kind.isRead = true)
include ho hs hk

theorem readComplete_decoded (n : Nat) : readComplete op true n d = readDone o n (opEnded o true d) := by
  simp [readComplete, ho, hs, hk, opEnded]

/-- Read again at the next step. -/
theorem readComplete_retried (n : Nat) (h : o.step < 4) (he : o.engine = none) : readComplete op false n d =
    emitReads { o with step := nextReadStep o.step o.desc d } (onOp op (fun x => { x with step := nextReadStep o.step o.desc d }) d) := by
  have h5 : o.step ≠ 5 := by omega
  have h4 : o.step ≠ 4 := by omega
  simp [readComplete, ho, hs, hk, h5, h4, he]

/-- An engine asks for the next step itself. -/
theorem readComplete_returned (n : Nat) {e : Nat} (h : o.step < 4) (he : o.engine = some e) : readComplete op false n d = opEnded o false d := by
  have h5 : o.step ≠ 5 := by omega
  have h4 : o.step ≠ 4 := by omega
  simp [readComplete, ho, hs, hk, h5, h4, he, opEnded]

theorem readComplete_deepened (n : Nat) (h : o.step = 4) (hd : o.deep = true) : readComplete op false n d =
    emitReads { o with step := 5 } (onOp op (fun x => { x with step := 5 }) (uncorrected o.desc d)) := by
  simp [readComplete, ho, hs, hk, h, hd]

theorem readComplete_failed (n : Nat) (h : o.step = 5) :
    readComplete op false n d = readFailed o (odBump 0x3400 8 1 (opEnded o false d)) := by
  simp [readComplete, ho, hs, hk, h, opEnded]

end

/-- The operation stands at its new step, and the reads of that step are on their way. -/
theorem emitReads_atStep {op n : Nat} {o : FlashOp} {a b : Device} (ho : opOf op b = some o) (h : ReadsAlike a b) (hout : b.out = a.out)
    (hs : b.sec = a.sec) : let p := { o with step := n }
    let v := emitReads p (onOp op (fun x => { x with step := n }) b)
    opOf op v = some p ∧ ∀ x ∈ readPasses p (bestEntry p (if p.step = 4 then (draw a).1 else 0) a) a, Sent a v (readOutput o.desc x) := by
  refine ⟨?_, emitReads_sent (h.trans (onOp_readsAlike ..)) hout hs _⟩
  rw [opOf, emitReads_media]
  exact (opOf_onOp (fun _ => by rfl) b).trans (congrArg _ ho)

/-! ## Reads that take too long (R299) -/

/-- When a read times out. -/
def readDue (o : FlashOp) (d : Device) : Nat :=
  o.startedAt + max (us (odVal 0x2900 1 d * modeTr (modeOf o.desc d))) (ms (odVal 0x2900 2 d))

/-- A read that its reader can do without has timed out: what each reader does then. -/
def readSpared (o : FlashOp) (d : Device) : Device :=
  match o.engine, o.req with
  | some _, _ => if o.kind != FlashKind.hostRead then d else if o.started then repairAfterRead o d else odBump 0x2900 0x0A 1 d
  | none, some r => sendLink (.unitData r 1 0 []) d
  | none, none =>
    if o.verify then failVerify o d
    else if (moveOf o.stripe o.member d).isSome then programMember o.stripe o.member o.reclaim d
    else d

theorem readSpared_kept {base d : Device} (o : FlashOp) (h : Kept base d) : Kept base (readSpared o d) := by
  unfold readSpared
  split
  · split_ifs
    · exact h
    · exact repairAfterRead_kept h
    · exact odBump_kept h
  · exact sendLink_kept h
  · split_ifs
    · exact failVerify_kept h
    · exact programMember_kept h
    · exact h

theorem readSpared_idle {o : FlashOp} {d : Device} (he : o.engine = none) (hr : o.req = none) (hv : o.verify = false)
    (hm : moveOf o.stripe o.member d = none) : readSpared o d = d := by
  simp [readSpared, he, hr, hv, hm]

section
variable {op : Nat} {o : FlashOp} {d : Device} (ho : opOf op d = some o) (hk : o.kind.isRead = true)
include ho hk

theorem readTimeout_held (hs : o.started = true) (hi : indispensable o d = true) :
    readTimeout op d = noteTimeout o.desc (waitUntil (readDue o d) d) := by
  simp [readTimeout, ho, hk, hs, indispensable_congr (waitUntil_stripe ..), hi, readDue]

theorem readTimeout_spared (hc : o.started = true ∨ channelAway o.desc.channel d = true) (hi : indispensable o d = false) :
    readTimeout op d = if o.started then noteTimeout o.desc (readSpared o (opEnded o false (waitUntil (readDue o d) d)))
      else readSpared o (opEnded o false (waitUntil (readDue o d) d)) := by
  have hg : ¬ (!(o.started || channelAway o.desc.channel d) || !o.kind.isRead) = true := by
    rw [hk]
    rcases hc with h | h
    · simp [h]
    · simp [h]
  have hn : ¬ indispensable o (waitUntil (readDue o d) d) = true := by rw [indispensable_congr (waitUntil_stripe ..), hi]; exact Bool.false_ne_true
  unfold readTimeout
  rw [ho]
  exact (if_neg hg).trans (if_neg hn)

end

theorem readSpared_due {o : FlashOp} {due : Nat} {d : Device} (ok : Bool) : due ≤ (readSpared o (opEnded o ok (waitUntil due d))).time.now := by
  refine le_trans ?_ (readSpared_kept o (.refl _)).now
  rw [opEnded_time, waitUntil_now]
  exact le_max_left ..

/-- Where nobody waits for the read, it only ends. -/
theorem readSpared_gone {o : FlashOp} {due : Nat} {d : Device} (he : o.engine = none) (hr : o.req = none) (hv : o.verify = false)
    (hm : moveOf o.stripe o.member d = none) : ∀ x ∈ (readSpared o (opEnded o false (waitUntil due d))).media.ops, x.id ≠ o.id := by
  rw [readSpared_idle he hr hv (by rwa [moveOf_congr ((opEnded_stripe ..).trans (waitUntil_stripe ..))])]
  exact opEnded_gone o false _

theorem exec_hardReadLimit {s : State} {op : Nat} {o : FlashOp} (ho : opOf op s.dev = some o) (hs : o.started = true)
    (hk : o.kind.isRead = true) (hi : indispensable o s.dev = true) : exec (.hardReadLimit op) s = .next { s with
      dev := settleChecks (readFailed o (opEnded o false (waitUntil (o.startedAt + ms (odVal 0x2900 0x13 s.dev)) s.dev))) } := by
  simp [exec, execHardReadLimit, next, ho, hs, hk, hi, opEnded]

/-! ## Programs (R289, R298, R351) -/

/-- The member that a program has written counts as programmed. -/
def programMarked (o : FlashOp) (d : Device) : Device :=
  onMember o.stripe o.member (fun m => if m.desc == o.desc then { m with programmed := true } else m) d

theorem stripeOf_programMarked (o : FlashOp) (d : Device) : stripeOf o.stripe (programMarked o d) = (stripeOf o.stripe d).map fun s =>
    { s with members := modNth s.members o.member fun m => if m.desc == o.desc then { m with programmed := true } else m } :=
  stripeOf_onStripe (fun _ => by rfl) d

theorem programMarked_programmed {o : FlashOp} {d : Device} {y : Stripe} {m : Member} (hy : stripeOf o.stripe (programMarked o d) = some y)
    (hm : y.members[o.member]? = some m) (hd : m.desc = o.desc) : m.programmed = true := by
  rw [stripeOf_programMarked, Option.map_eq_some_iff] at hy
  obtain ⟨x, -, rfl⟩ := hy
  rw [modNth, List.getElem?_modify_eq] at hm
  obtain ⟨w, -, rfl⟩ := Option.map_eq_some_iff.1 hm
  by_cases h : w.desc = o.desc
  · simp [h]
  · simp [h] at hd

section
variable {op : Nat} {o : FlashOp} {d : Device}

/-- No read-back is asked for: the member is programmed, and that is all. -/
theorem programComplete_marks (ho : opOf op d = some o) (hs : o.started = true) (hk : o.kind = .program) (hm : moveOf o.stripe o.member d = none)
    (hv : ∀ x, stripeOf o.stripe d = some x → x.st ≠ .issued ∨ ∀ y, verifies y d = false) :
    programComplete op d = reapStripes (programMarked o (opEnded o true d)) := by
  have hmove : moveOf o.stripe o.member (opEnded o true d) = none := by rwa [moveOf_congr (opEnded_stripe ..)]
  have hver : ∀ y, verifies y (programMarked o (opEnded o true d)) = verifies y d := fun y => congrArg (bit · 8) (odVal_opEnded ..)
  have hx : programComplete op d = match stripeOf o.stripe (programMarked o (opEnded o true d)) with
      | none => reapStripes (programMarked o (opEnded o true d))
      | some x => if x.st == .issued && verifies x (programMarked o (opEnded o true d)) then
          queueOp { blankOp .gcRead o.desc with stripe := o.stripe, member := o.member, verify := true } (programMarked o (opEnded o true d))
        else reapStripes (programMarked o (opEnded o true d)) := by
    unfold opEnded at hmove ⊢
    simp only [programComplete, ho, hs, hk, hmove]
    rfl
  rw [hx, stripeOf_programMarked, stripeOf_congr (opEnded_stripe ..)]
  cases h : stripeOf o.stripe d with
  | none => rfl
  | some x =>
    refine if_neg ?_
    rw [hver]
    rcases hv x h with hst | hno
    · simp [hst]
    · simp [hno]

theorem programFailed_moves (reason : Nat) (hm : moveOf o.stripe o.member d = none) : programFailed o reason d =
    emptyBlock o.desc 1 (startMove o.stripe o.member reason false none (retireBlock o.desc 1 (opEnded o false d))) := by
  have hmove : moveOf o.stripe o.member (opEnded o false d) = none := by
    rwa [moveOf_congr (opEnded_stripe o false d)]
  unfold opEnded at hmove ⊢
  simp only [programFailed, hmove]

end

theorem exec_programFailure {s : State} {op : Nat} {o : FlashOp} (ho : opOf op s.dev = some o) (hs : o.started = true) (hk : o.kind = .program) :
    exec (.flashProgramFailure op) s = .next { s with dev := programFailed o 1 s.dev } := by
  simp [exec, execFlashProgramFailure, next, ho, hs, hk]

/-- When a program times out. -/
def programDue (o : FlashOp) (d : Device) : Nat :=
  o.startedAt + max (us (3 * modeTprog (modeOf o.desc d))) (ms (odVal 0x2900 3 d))

theorem exec_programTimeout {s : State} {op : Nat} {o : FlashOp} (ho : opOf op s.dev = some o) (hs : o.started = true) (hk : o.kind = .program) :
    exec (.flashProgramTimeout op) s =
      .next { s with dev := noteTimeout o.desc (programFailed o 2 (waitUntil (programDue o s.dev) s.dev)) } := by
  simp [exec, execFlashProgramTimeout, next, ho, hs, hk, programDue]

/-! ## Erases (R348, R352, R369) -/

/-- The block as an erase leaves it. -/
def Block.erased (b : Block) : Block := { b with
  st := 0, stream := 0, next := 0, live := 0, erases := min (b.erases + 1) (2 ^ 32 - 1), barrier := 0, barrierOpen := false, awaiting := []
  refreshDue := false, emptying := 0, slc := false }

/-- The erase has ended: its block is free, with neither a residue of pages nor a hint. -/
def eraseFreed (o : FlashOp) (d : Device) : Device :=
  let d := onBlock o.desc Block.erased (endOp o d)
  { d with
    map := { d.map with residue := d.map.residue.filter (·.2 != descNum (blockDesc o.desc)) }
    media := { d.media with hints := d.media.hints.filter fun h => !(h.channel == o.desc.channel && h.target == o.desc.target &&
      h.lun == o.desc.lun && h.block == o.desc.block) } }

theorem blockOf_eraseFreed (o : FlashOp) (d : Device) : blockOf o.desc (eraseFreed o d) = (blockOf o.desc d).map Block.erased := by
  rw [← blockOf_congr (endOp_map o d)]
  exact blockOf_onBlock (f := Block.erased) (fun _ => rfl) _

theorem eraseFreed_gone (o : FlashOp) (d : Device) : ∀ x ∈ (eraseFreed o d).media.ops, x.id ≠ o.id := endOp_gone o d

theorem eraseComplete_frees {op : Nat} {o : FlashOp} {b : Block} {d : Device} (ho : opOf op d = some o) (hs : o.started = true)
    (hk : o.kind = .erase) (hb : blockOf o.desc d = some b) : eraseComplete op d = eraseAnswered o.desc 0 (odBump 0x2A00 0x0F 1 (noteErased o.desc
      (journalRecord (.blockState o.desc.channel o.desc.target o.desc.lun o.desc.block 0 0 (min (b.erases + 1) (2 ^ 32 - 1)))
        (eraseFreed o d)))) := by
  have hn : ((blockOf o.desc (eraseFreed o d)).map (·.erases)).getD 0 = min (b.erases + 1) (2 ^ 32 - 1) := by
    rw [blockOf_eraseFreed, hb]
    rfl
  rw [← hn]
  simp only [eraseComplete, ho, hs, hk]
  rfl

theorem exec_eraseFailure {s : State} {op : Nat} {o : FlashOp} (ho : opOf op s.dev = some o) (hs : o.started = true) (hk : o.kind = .erase) :
    exec (.flashEraseFailure op) s = .next { s with dev := eraseAnswered o.desc 2 (retireBlock o.desc 2 (endOp o s.dev)) } := by
  simp [exec, execFlashEraseFailure, next, ho, hs, hk]

/-! ## The ends one by one -/

/-- A command that leaves `g`'s device to the parity check, where `g` leaves `u` to `f`. -/
theorem leads_checked {c : Instr} {s : State} {f g : Device → Device} {u : Device} {P : Device → Prop}
    (hx : exec c s = next s fun d => settleChecks (g d)) (hg : g s.dev = f u) (hp : P u) : Leads (fun v => settleChecks (f v)) c s P :=
  leads_of_eq hx (congrArg settleChecks hg) hp

/-- Settles O37: each end by the device in which its operation is over (`opEnded`), each further read by `emitReads_atStep`. -/
theorem flashEnds : Obligations.FlashEnds := by
  unfold Obligations.FlashEnds
  intro s op o
  refine ⟨fun ho hs => ⟨fun hk => ⟨fun n => ?decoded, fun n h he => ?retried, fun n e h he => ?returned, fun n h hd => ?deepened, fun n h => ?failed,
      ⟨fun hi => ?held, fun hi => ?spared, fun hi he hr hv hm => ?idle⟩, fun hi => ?hard⟩,
    fun hk => ⟨fun hst hm => ?strange, fun x hx hv hm => ?programmed, fun hm => ?programFails, fun hm => ?programLate⟩,
    fun hk => ⟨fun b hb => ?erased, ?eraseFails⟩⟩, fun ho hs hk hc hi he hr hv hm => ?away, fun channel target lun => ?lun⟩
  case decoded =>
    exact leads_checked rfl (readComplete_decoded ho hs hk n) ⟨opEnded_gone o true _, fun e he hl => opEnded_sees he hl true⟩
  case retried =>
    exact leads_checked (f := id) rfl (readComplete_retried ho hs hk n h he) (emitReads_atStep ho (.refl _) rfl rfl)
  case returned =>
    exact leads_checked (f := id) rfl (readComplete_returned ho hs hk n h he) ⟨opEnded_gone o false _, fun e he hl => opEnded_sees he hl false⟩
  case deepened =>
    obtain ⟨hop, hsent⟩ := emitReads_atStep (n := 5) (b := uncorrected o.desc s.dev) ho (uncorrected_readsAlike ..) rfl rfl
    rw [readPasses_last rfl] at hsent
    exact leads_checked (f := id) rfl (readComplete_deepened ho hs hk n h hd) ⟨hop, hsent⟩
  case failed =>
    refine leads_checked rfl (readComplete_failed ho hs hk n h) ⟨opEnded_gone o false _, fun e he hl => opEnded_sees he hl false, ?_⟩
    exact (odVal_odPut ..).trans (by rw [odVal_opEnded])
  case held =>
    refine leads_checked rfl (readTimeout_held ho hk hs hi) ⟨?_, ?_⟩
    · rw [waitUntil_now]
      exact le_max_left ..
    · rwa [opOf, waitUntil_media]
  case spared =>
    exact leads_checked rfl ((readTimeout_spared ho hk (.inl hs) hi).trans (if_pos hs)) (readSpared_due false)
  case idle =>
    exact leads_checked rfl ((readTimeout_spared ho hk (.inl hs) hi).trans (if_pos hs)) (readSpared_gone he hr hv hm)
  case hard =>
    refine ⟨_, exec_hardReadLimit ho hs hk hi, ?_, opEnded_gone o false _, fun e he hl => opEnded_sees he (by rwa [waitUntil_eng]) false⟩
    rw [opEnded_time, waitUntil_now]
    exact le_max_left ..
  case strange =>
    exact leads_checked rfl (programComplete_marks ho hs hk hm fun x hx => by rw [hst] at hx; cases hx)
      ⟨opEnded_gone o true _, fun e he hl => opEnded_sees he hl true⟩
  case programmed =>
    exact leads_checked rfl (programComplete_marks ho hs hk hm fun y hy => by rwa [← Option.some.inj (hx.symm.trans hy)])
      ⟨opEnded_gone o true _, fun e he hl => opEnded_sees he hl true, fun y m => programMarked_programmed⟩
  case programFails =>
    refine ⟨_, (exec_programFailure ho hs hk).trans ?_, opEnded_gone o false _, fun e he hl => opEnded_sees he hl false⟩
    rw [programFailed_moves 1 hm]
  case programLate =>
    refine ⟨_, (exec_programTimeout ho hs hk).trans ?_, opEnded_gone o false (waitUntil (programDue o s.dev) s.dev),
      fun e he hl => opEnded_sees he (by rwa [waitUntil_eng]) false, ?_⟩
    · rw [programFailed_moves 2 (by rwa [moveOf_congr (waitUntil_stripe ..)])]
    · rw [opEnded_time, waitUntil_now]
      exact le_max_left ..
  case erased =>
    exact leads_of_eq rfl (eraseComplete_frees ho hs hk hb)
      ⟨eraseFreed_gone o _, _, (blockOf_eraseFreed o s.dev).trans (congrArg _ hb), rfl, rfl, rfl, rfl, rfl, rfl⟩
  case eraseFails => exact ⟨_, exec_eraseFailure ho hs hk, endOp_gone o s.dev⟩
  case away =>
    exact leads_checked (f := id) rfl ((readTimeout_spared ho hk (.inr hc) hi).trans (if_neg (by rw [hs]; exact Bool.false_ne_true)))
      ⟨readSpared_gone he hr hv hm, readSpared_due false⟩
  case lun => exact ⟨odBump 0x2900 0x0B 1 s.dev, rfl, odVal_odPut ..⟩

end Sys2Proof.Machine
end

section
/-! SUPPORT. Steps: what every command does to the queue, and what no command takes back (R400, R526; log 6). -/

namespace Sys2Proof.Machine

/-- Settles O44: the queue's front is run on its rest, and an empty queue lets one cycle pass; the table spells no command in words. -/
theorem stepRuns : Obligations.StepRuns := by
  unfold Obligations.StepRuns
  exact fun d c rest => ⟨rfl, rfl, fun nbits w => ⟨rfl, rfl⟩⟩

/-- Settles O45: both parts are fields of `Kept`, which every step keeps. -/
theorem ownersStay : Obligations.OwnersStay := by
  unfold Obligations.OwnersStay
  exact fun s s' h => ⟨(step_kept h).owners, (step_kept h).now⟩

/-- What a command must do to go on: it leaves the queue, and takes back nothing that every step keeps. -/
def GoesOn (c : Instr) (s : State) : Prop := ∃ t, exec c s = .next t ∧ t.pending = s.pending ∧ Kept s.dev t.dev

/-- A command that only changes the device goes on. -/
theorem goesOn_of_next {c : Instr} {s : State} {d : Device} (h : exec c s = .next { s with dev := d }) : GoesOn c s :=
  ⟨_, h, rfl, exec_kept (.refl s.dev) c _ h⟩

/-- Every command but a mover's end only changes the device. -/
theorem exec_changes_device (c : Instr) (s : State) (h : ∀ e w, c ≠ .moverDone e w) : ∃ d, exec c s = .next { s with dev := d } := by
  cases c with
  | moverDone e w => exact absurd rfl (h e w)
  | clearOnReadEntryRead acc board => cases board <;> exact ⟨_, rfl⟩
  | _ => exact ⟨_, rfl⟩

/-- A mover's end changes the device, or stops at an address beyond staging SRAM. -/
theorem exec_moverDone_cases (e : Nat) (w : Bool) (s : State) :
    GoesOn (.moverDone e w) s ∨ ∃ a, exec (.moverDone e w) s = .fault (.stagingAddress a) := by
  cases hm : moverOf e w s.dev with
  | none => exact .inl (goesOn_of_next (exec_moverDone_idle hm))
  | some m =>
    by_cases hf : m.code = 1 → m.addr + moverLength e m s.dev ≤ 134217728
    · exact .inl (goesOn_of_next (exec_moverDone_inside hm hf))
    · obtain ⟨hc, hl⟩ := Classical.not_imp.1 hf
      exact .inr ⟨_, exec_moverDone_outside hm hc (not_le.1 hl)⟩

/-- Settles O47: a mover's end by its own cases, every other command by what it leaves of the queue and of what every step keeps. -/
theorem everyCommandGoesOn : Obligations.EveryCommandGoesOn := by
  unfold Obligations.EveryCommandGoesOn
  intro c s
  refine ⟨fun h => ?other, fun e w h => ?mover⟩
  case other =>
    obtain ⟨f, hf⟩ := exec_changes_device c s h
    exact goesOn_of_next hf
  case mover =>
    subst h
    exact exec_moverDone_cases e w s

end Sys2Proof.Machine
end

section
/-! SUPPORT. The ALU of an engine: what a result leaves of registers and flags, V_0 included, and the carry and overflow of sums and
differences (R498; logs 29 and 30). -/

namespace Sys2Proof.Machine

/-! ## A result in the context of an engine -/

/-- A value in V_dst; V_0 discards it. -/
def putReg (dst v : Nat) (k : SeqCtx) : SeqCtx := { k with regs := if dst = 0 then k.regs else tblStore 0 k.regs dst (v % 2 ^ 64) }

/-- A result in V_dst with its flags. -/
def putResult (dst v : Nat) (carry ovf : Bool) (k : SeqCtx) : SeqCtx :=
  { putReg dst v k with zero := v % 2 ^ 64 == 0, neg := bit (v % 2 ^ 64) 63, carry := carry, ovf := ovf }

theorem putReg_pos {dst : Nat} (h : dst ≠ 0) (v : Nat) (k : SeqCtx) :
    putReg dst v k = { k with regs := tblStore 0 k.regs dst (v % 2 ^ 64) } := by rw [putReg, if_neg h]

theorem setReg_eq (e dst v : Nat) (d : Device) : setReg e dst v d = onEngine e (fun x => { x with ctx := putReg dst v x.ctx }) d := by
  by_cases h : dst = 0
  · subst h
    rw [setReg_zero]
    simp only [putReg, if_true, onEngine, modNth]
    rw [show (fun x : Engine => x) = id from rfl, List.modify_id]
  · rw [setReg_pos v d h, onCtx_eq]
    simp only [putReg, if_neg h]

theorem aluWrite_eq (e dst r : Nat) (carry ovf : Bool) (d : Device) :
    aluWrite e dst r carry ovf d = onEngine e (fun x => { x with ctx := putResult dst r carry ovf x.ctx }) d := by
  simp only [aluWrite, setFlags, onCtx_eq, setReg_eq, onEngine_onEngine, putResult, putReg, Nat.mod_mod]
  rfl

/-- A word that leaves `v` in V_dst and keeps the flags. -/
theorem writesReg_of_setReg {c : Instr} {e dst v : Nat} {s : State} (hr : EngineRuns e s.dev) (hd : dst ≠ 0)
    (hx : exec c s = .next { s with dev := word e (setReg e dst v) s.dev }) : WritesReg c e dst (v % 2 ^ 64) s FlagsStay :=
  writesReg_of_eq hr hd (g := putReg dst v) (by rw [hx, word_runs _ hr, setReg_eq]) (putReg_pos hd v _) ⟨rfl, rfl, rfl, rfl⟩

/-- A word of the ALU: the device that it leaves, on an engine that runs. -/
theorem exec_aluWrite {c : Instr} {e dst r : Nat} {carry ovf : Bool} {s : State} (hr : EngineRuns e s.dev)
    (hx : exec c s = .next { s with dev := word e (aluWrite e dst r carry ovf) s.dev }) :
    exec c s = .next { s with dev := onEngine e (fun x => { x with ctx := putResult dst r carry ovf x.ctx }) s.dev } := by
  rw [hx, word_runs _ hr, aluWrite_eq]

/-- A word of the ALU leaves its result in V_dst, and zero and negative follow it. -/
theorem writesReg_of_aluWrite {c : Instr} {e dst r : Nat} {carry ovf : Bool} {s : State} (hr : EngineRuns e s.dev) (hd : dst ≠ 0)
    (hx : exec c s = .next { s with dev := word e (aluWrite e dst r carry ovf) s.dev }) :
    WritesReg c e dst (r % 2 ^ 64) s (ZeroNeg (r % 2 ^ 64)) :=
  writesReg_of_eq hr hd (exec_aluWrite hr hx) (by rw [putResult, putReg_pos hd]) ⟨rfl, rfl⟩

/-- Settles O1: every operation is one `aluWrite` of its result. -/
theorem engineAlu : Obligations.EngineAlu := by
  unfold Obligations.EngineAlu
  intro s e a b imm dst hr hd
  have sum : ∀ {c : Instr} {x y : Nat}, exec c s = .next { s with dev := word e (aluAdd e x y dst) s.dev } →
      WritesReg c e dst ((x + y) % 2 ^ 64) s (ZeroNeg ((x + y) % 2 ^ 64)) := fun {_ x y} hx => by
    rw [← Nat.mod_mod (x + y)]
    exact writesReg_of_aluWrite hr hd hx
  refine ⟨sum rfl, ?sub, ?_, ?_, ?_, ?_, ?_, sum rfl, ?_, ?_, ?_⟩
  case sub =>
    rw [← Nat.mod_mod (_ - _)]
    exact writesReg_of_aluWrite hr hd rfl
  all_goals exact writesReg_of_aluWrite hr hd rfl

/-! ## Moves -/

theorem beNat_eq_leNat_reverse (bs : Bytes) : beNat bs = leNat bs.reverse := by
  rw [beNat, beNat_foldl, Nat.zero_mul, Nat.zero_add]

theorem ones_eq_countP (v : Nat) : ones v = (List.range 64).countP fun n => v.testBit n := by
  rw [ones, List.countP_eq_length_filter]
  simp only [bit_eq_testBit]

theorem ones_le (v : Nat) : ones v ≤ 64 := (List.length_filter_le _ _).trans_eq List.length_range

/-- Settles O2: every operation is one `setReg` of its value. -/
theorem engineMoves : Obligations.EngineMoves := by
  unfold Obligations.EngineMoves
  intro s e a imm port dst hr hd
  refine ⟨?mov, ?ldi, ?ldih, ?get, fun w hw => ?ldd, ?bswap, ?popcnt⟩
  case mov => exact writesReg_of_setReg hr hd rfl
  case ldi =>
    have h := writesReg_of_setReg (c := .ldiOp e imm dst) hr hd rfl
    rwa [Nat.mod_eq_of_lt (by omega : imm % 65536 < 2 ^ 64)] at h
  case ldih => exact writesReg_of_setReg hr hd rfl
  case get => exact writesReg_of_setReg hr hd rfl
  case ldd =>
    have h := writesReg_of_setReg (c := .lddOp e imm dst) hr hd rfl
    rwa [hw] at h
  case bswap =>
    rw [← beNat_eq_leNat_reverse]
    exact writesReg_of_setReg hr hd rfl
  case popcnt =>
    have h := writesReg_of_setReg (c := .popcntOp e a dst) hr hd rfl
    rwa [Nat.mod_eq_of_lt ((ones_le _).trans_lt (by decide)), ones_eq_countP] at h

/-! ## Flags alone, buffers, the status, and V_0 -/

theorem reg_of_regs_eq {e n : Nat} {a b : Device} (h : (engineOf e b).ctx.regs = (engineOf e a).ctx.regs) : reg e n b = reg e n a := by
  rw [reg, reg, h]

/-- A result for V_0 sets the flags and leaves every register. -/
theorem flagsOnly_of_aluWrite {c : Instr} {e r : Nat} {carry ovf : Bool} {s : State} (hr : EngineRuns e s.dev)
    (hx : exec c s = .next { s with dev := word e (aluWrite e 0 r carry ovf) s.dev }) :
    ∃ t, exec c s = .next t ∧ (∀ n, reg e n t.dev = reg e n s.dev) ∧ ZeroNeg (r % 2 ^ 64) (engineOf e s.dev) (engineOf e t.dev) ∧
      OnlyRegs (engineOf e s.dev) (engineOf e t.dev) ∧ OnlyEngine e s t := by
  have he := engineOf_onEngine (d := s.dev) (fun x => { x with ctx := putResult 0 r carry ovf x.ctx }) hr.2.1
  exact ⟨_, exec_aluWrite hr hx, fun n => reg_of_regs_eq (by rw [he]; rfl), by rw [he]; exact ⟨rfl, rfl⟩, by rw [he]; rfl,
    onlyEngine_onEngine _ hr.2.1⟩

/-- A word that loads buffer descriptor `buf` changes neither another descriptor nor a register. -/
theorem setBuf_word {c : Instr} {e buf : Nat} {b : BufDesc} {s : State} (hr : EngineRuns e s.dev)
    (hx : exec c s = .next { s with dev := word e (setBuf e buf b) s.dev }) :
    ∃ t, exec c s = .next t ∧ bufDesc e buf t.dev = b ∧ (∀ n, n ≠ buf → bufDesc e n t.dev = bufDesc e n s.dev) ∧
      (∀ n, reg e n t.dev = reg e n s.dev) ∧ OnlyEngine e s t := by
  rw [word_runs _ hr, setBuf, onCtx_eq] at hx
  have he := engineOf_onEngine (d := s.dev) (fun x =>
    { x with ctx := { x.ctx with bufs := tblStore ⟨0, 0, 0⟩ x.ctx.bufs buf b, sel := buf } }) hr.2.1
  refine ⟨_, hx, ?_, fun n hn => ?_, fun n => reg_of_regs_eq (by rw [he]), onlyEngine_onEngine _ hr.2.1⟩
  · rw [bufDesc, he]
    exact tblGetD_tblStore_same ..
  · rw [bufDesc, he]
    exact tblGetD_tblStore_other _ _ hn

/-- Settles O3: compares and a result for V_0 by `flagsOnly_of_aluWrite`, buffers by `setBuf_word`. -/
theorem engineOther : Obligations.EngineOther := by
  unfold Obligations.EngineOther
  intro s e a b imm buf hr
  have diff : ∀ {c : Instr} {x y : Nat}, exec c s = .next { s with dev := word e (aluSub e x y 0) s.dev } →
      ∃ t, exec c s = .next t ∧ (∀ n, reg e n t.dev = reg e n s.dev) ∧
        ZeroNeg ((x + 2 ^ 64 - y) % 2 ^ 64) (engineOf e s.dev) (engineOf e t.dev) ∧
        OnlyRegs (engineOf e s.dev) (engineOf e t.dev) ∧ OnlyEngine e s t := fun {_ x y} hx => by
    rw [← Nat.mod_mod (x + 2 ^ 64 - y)]
    exact flagsOnly_of_aluWrite hr hx
  have discarded : ∀ {c : Instr} {v : Nat}, exec c s = .next { s with dev := word e (setReg e 0 v) s.dev } → exec c s = .next s :=
    fun hx => by rw [hx, word_runs _ hr, setReg_zero]
  refine ⟨diff rfl, diff rfl, ?sum, discarded rfl, discarded rfl, ?nop, setBuf_word hr rfl, setBuf_word hr rfl, ?std⟩
  case sum =>
    rw [← Nat.mod_mod (_ + _)]
    exact flagsOnly_of_aluWrite hr rfl
  case std => exact becomes_of_word hr (c := .stdOp e a) rfl (onCtx_eq ..)
  case nop => exact congrArg (fun d => Host.Outcome.next { s with dev := d }) (word_runs (fun d => d) hr)

/-! ## The next address (R496) -/

/-- A word that goes to an address. -/
theorem becomes_setPc {c : Instr} {e pc : Nat} {s : State} (hr : EngineRuns e s.dev)
    (hx : exec c s = .next { s with dev := word e (setPc e pc) s.dev }) :
    EngineBecomes c e { engineOf e s.dev with ctx := { (engineOf e s.dev).ctx with pc := pc % 4096 } } s :=
  becomes_of_eq hr (by rw [hx, word_runs _ hr, setPc, onCtx_eq]) rfl

theorem callWord_room {e : Nat} {d : Device} (target : Nat) (h : (engineOf e d).ctx.stack.length < 8) : callWord e target d =
    onEngine e (fun x => { x with ctx := { x.ctx with stack := (x.ctx.pc + 1) % 4096 :: x.ctx.stack, pc := target % 4096 } }) d := by
  rw [callWord, if_neg (not_le.2 h), onCtx_eq]

theorem callWord_full {e : Nat} {d : Device} (target : Nat) (h : 8 ≤ (engineOf e d).ctx.stack.length) :
    callWord e target d = machineCheck e 2 0 d := by rw [callWord, if_pos h]

theorem returnWord_pops {e a : Nat} {rest : List Nat} {d : Device} (h : (engineOf e d).ctx.stack = a :: rest) :
    returnWord e d = onEngine e (fun x => { x with ctx := { x.ctx with stack := rest, pc := a } }) d := by
  rw [returnWord, h]
  rfl

theorem returnWord_empty {e : Nat} {d : Device} (h : (engineOf e d).ctx.stack = []) : returnWord e d = machineCheck e 2 0 d := by
  rw [returnWord, h]

/-- Settles O4: SEQ 0 to 3 by `becomes_setPc`, calls and returns by the room on the stack. -/
theorem nextAddress : Obligations.NextAddress := by
  unfold Obligations.NextAddress
  intro s e target cond hr
  have runs : ∀ {c : Instr} {f : Device → Device}, exec c s = next s (word e f) → exec c s = .next { s with dev := f s.dev } :=
    fun hx => by rw [hx, next, word_runs _ hr]
  refine ⟨becomes_setPc hr rfl, becomes_setPc hr rfl, fun h => ⟨?taken, ?passed⟩, fun h => ⟨?notTaken, ?notPassed⟩, fun h => ?call,
    fun h => ?callFull, fun a rest h => ?ret, fun h => ?retEmpty⟩
  case taken =>
    have hb := becomes_setPc (c := .branchTrue e target cond) hr rfl
    rwa [h, if_pos rfl] at hb
  case passed =>
    have hb := becomes_setPc (c := .branchFalse e target cond) hr rfl
    rwa [h, if_pos rfl] at hb
  case notTaken =>
    have hb := becomes_setPc (c := .branchTrue e target cond) hr rfl
    rwa [h, if_neg Bool.false_ne_true] at hb
  case notPassed =>
    have hb := becomes_setPc (c := .branchFalse e target cond) hr rfl
    rwa [h, if_neg Bool.false_ne_true] at hb
  case call => exact becomes_of_word hr rfl (callWord_room target h)
  case callFull => rw [runs (c := .callSeq e target) rfl, callWord_full target h]
  case ret => exact becomes_of_word hr rfl (returnWord_pops h)
  case retEmpty => rw [runs (c := .returnSeq e) rfl, returnWord_empty h]

/-! ## Carry and overflow -/

/-- What a word of the ALU leaves of carry and overflow, whatever its destination. -/
theorem flags_of_aluWrite {c : Instr} {e dst r : Nat} {carry ovf : Bool} {s : State} (hr : EngineRuns e s.dev)
    (hx : exec c s = .next { s with dev := word e (aluWrite e dst r carry ovf) s.dev }) :
    ∃ t, exec c s = .next t ∧ (engineOf e t.dev).ctx.carry = carry ∧ (engineOf e t.dev).ctx.ovf = ovf := by
  have he := engineOf_onEngine (d := s.dev) (fun x => { x with ctx := putResult dst r carry ovf x.ctx }) hr.2.1
  exact ⟨_, exec_aluWrite hr hx, by rw [he]; rfl, by rw [he]; rfl⟩

theorem sign64_eq {v : Nat} (h : v < 2 ^ 64) : sign64 v = decide (2 ^ 63 ≤ v) := by
  simp only [sign64, bit, beq_eq_decide, decide_eq_decide]
  omega

/-- A 64-bit value with its sign bit set stands for 2^64 less. -/
theorem toInt_ofNat_64 {v : Nat} (h : v < 2 ^ 64) : (BitVec.ofNat 64 v).toInt = if 2 ^ 63 ≤ v then (v : Int) - 2 ^ 64 else (v : Int) := by
  rw [BitVec.toInt_eq_toNat_cond, BitVec.toNat_ofNat, Nat.mod_eq_of_lt h]
  split_ifs <;> omega

/-- The signed sum passes 64 bits where equal signs give the other sign. -/
theorem sum_overflows_iff {x y : Nat} (hx : x < 2 ^ 64) (hy : y < 2 ^ 64) :
    (sign64 x == sign64 y && sign64 ((x + y) % 2 ^ 64) != sign64 x) = true ↔
      ¬ (-(2 ^ 63) ≤ (BitVec.ofNat 64 x).toInt + (BitVec.ofNat 64 y).toInt ∧
        (BitVec.ofNat 64 x).toInt + (BitVec.ofNat 64 y).toInt < 2 ^ 63) := by
  rw [sign64_eq hx, sign64_eq hy, sign64_eq (Nat.mod_lt _ (by decide)), toInt_ofNat_64 hx, toInt_ofNat_64 hy]
  simp only [Bool.and_eq_true, beq_iff_eq, bne_iff_ne, ne_eq, decide_eq_decide]
  split_ifs <;> omega

/-- The signed difference passes 64 bits where unlike signs give the other sign than the first. -/
theorem difference_overflows_iff {x y : Nat} (hx : x < 2 ^ 64) (hy : y < 2 ^ 64) :
    (sign64 x != sign64 y && sign64 ((x + 2 ^ 64 - y) % 2 ^ 64) != sign64 x) = true ↔
      ¬ (-(2 ^ 63) ≤ (BitVec.ofNat 64 x).toInt - (BitVec.ofNat 64 y).toInt ∧
        (BitVec.ofNat 64 x).toInt - (BitVec.ofNat 64 y).toInt < 2 ^ 63) := by
  rw [sign64_eq hx, sign64_eq hy, sign64_eq (Nat.mod_lt _ (by decide)), toInt_ofNat_64 hx, toInt_ofNat_64 hy]
  simp only [Bool.and_eq_true, bne_iff_ne, ne_eq, decide_eq_decide]
  split_ifs <;> omega

/-- Settles O43: every operation is one `aluWrite`; the flags of sums and differences by the signs of their operands. -/
theorem engineAluFlags : Obligations.EngineAluFlags := by
  unfold Obligations.EngineAluFlags
  intro s e a b imm dst hr
  have flags : ∀ {c : Instr} {dst r : Nat} {carry ovf : Bool} {p : Prop},
      exec c s = .next { s with dev := word e (aluWrite e dst r carry ovf) s.dev } → (ovf = true ↔ p) →
        ∃ t, exec c s = .next t ∧ (engineOf e t.dev).ctx.carry = carry ∧ ((engineOf e t.dev).ctx.ovf = true ↔ p) := fun hx hp => by
    obtain ⟨t, ht, hc, ho⟩ := flags_of_aluWrite hr hx
    exact ⟨t, ht, hc, by rw [ho, hp]⟩
  have himm : imm % 65536 < 2 ^ 64 := by omega
  refine ⟨fun hx hy => ⟨?_, ?_, ?_⟩, fun hx => ⟨?_, ?_⟩, flags_of_aluWrite hr rfl, flags_of_aluWrite hr rfl, flags_of_aluWrite hr rfl,
    flags_of_aluWrite hr rfl, flags_of_aluWrite hr rfl, flags_of_aluWrite hr rfl, flags_of_aluWrite hr rfl, flags_of_aluWrite hr rfl⟩
  · exact flags (dst := dst) rfl (sum_overflows_iff hx hy)
  · exact flags (dst := dst) rfl (difference_overflows_iff hx hy)
  · exact flags (dst := 0) rfl (difference_overflows_iff hx hy)
  · exact flags (dst := dst) rfl (sum_overflows_iff hx himm)
  · exact flags (dst := 0) rfl (difference_overflows_iff hx himm)

end Sys2Proof.Machine
end

section
/-! SUPPORT. Resets and starts: what a reset drops and keeps, how the core is enabled again, the pins, fatal errors and world violations
(R520, R522, R543, R544, R559 to R562, R586, R593 to R595, R605 to R607, R610). -/

namespace Sys2Proof.Machine

/-! ## What a reset leaves (R559) -/

/-- The power record that a reset leaves of `p`. -/
def resetPower (p : PowerState) : PowerState :=
  { Reset.power with
    run := .reset, flushCut := p.flushCut || (p.pwrFail && p.flushing.isSome), porst := p.porst, strapPins := p.strapPins
    coreEn := false, coreTries := 0, refclk := p.refclk, sdclk := p.sdclk, carried := p.carried, pwrFail := p.pwrFail, holdupOk := p.holdupOk
    holdupOkSince := p.holdupOkSince, dormancy := p.dormancy, vddqLow := p.vddqLow, alarmInPs4 := p.alarmInPs4, hot := p.hot
    coreFailures := p.coreFailures, overTemp := p.overTemp, underTemp := p.underTemp, unannounced := p.unannounced }

/-- What the statements ask of a device that a reset of `d` leaves. -/
structure ResetLeft (d r : Device) : Prop where
  power : r.power = resetPower d.power
  commands : r.nvme.cmds = []
  link : r.peer.link = 0
  fenceIn : r.peer.fenceInN = d.peer.fenceInN
  side : r.side = d.side
  nodeId : r.nodeId = d.nodeId
  now : r.time.now = d.time.now

theorem dropVolatile_left (ao faults : Bool) (d : Device) : ResetLeft d (dropVolatile ao faults d) := by
  obtain ⟨a, b, h⟩ := persist_eq d
  unfold dropVolatile
  by_cases hw : d.dict.nvWorks = true
  · rw [if_pos hw, h]
    exact ⟨rfl, rfl, rfl, rfl, rfl, rfl, rfl⟩
  · rw [if_neg hw]
    exact ⟨rfl, rfl, rfl, rfl, rfl, rfl, rfl⟩

/-! ## The core is enabled again (R559, R610) -/

/-- What the way out of reset changes: the power record, and the end of the pulse on EPOCH_OUT. -/
structure LeavesReset (a b : Device) : Prop where
  dict : b.dict = a.dict
  commands : b.nvme = a.nvme
  peer : b.peer = a.peer
  side : b.side = a.side
  nodeId : b.nodeId = a.nodeId
  admin : b.admin = a.admin
  now : b.time.now = a.time.now
  unannounced : b.power.unannounced = a.power.unannounced
  porst : b.power.porst = a.power.porst

theorem coreEnable_leaves (d : Device) : LeavesReset d (coreEnable d) := by
  refine ⟨rfl, rfl, rfl, rfl, rfl, rfl, ?_, rfl, rfl⟩
  unfold coreEnable
  dsimp only
  split_ifs <;> rfl

theorem leaveReset_leaves (d : Device) : LeavesReset d (leaveReset d) := by
  unfold leaveReset
  split_ifs
  · exact ⟨rfl, rfl, rfl, rfl, rfl, rfl, rfl, rfl, rfl⟩
  · exact ⟨rfl, rfl, rfl, rfl, rfl, rfl, rfl, rfl, rfl⟩
  · have h := coreEnable_leaves { d with power := { d.power with hot := false } }
    exact ⟨h.dict, h.commands, h.peer, h.side, h.nodeId, h.admin, h.now, h.unannounced, h.porst⟩

/-- With PORST_N and FENCE_IN_N released, REFCLK running and no shutdown for heat, CORE_EN goes high. -/
theorem leaveReset_enables {d : Device} (hr : d.power.run = .reset) (hp : d.power.porst = false) (hf : d.peer.fenceInN = true)
    (hc : d.power.refclk = true) (hh : d.power.hot = false) :
    (leaveReset d).power.run = .waitCore ∧ (leaveReset d).power.coreEn = true := by
  unfold leaveReset tooHot
  rw [hr, hp, hf, hc, hh]
  exact ⟨rfl, rfl⟩

/-- What joining the bus changes besides the CAN state: it may log. -/
theorem joinCan_spoke (porst : Bool) (d : Device) : Spoke d (joinCan porst d) := by
  unfold joinCan
  by_cases h : (d.nodeId == 0) = true
  · rw [if_pos h]
    exact (can_spoke _ d).trans (logEvent_spoke ..)
  · rw [if_neg h]
    exact (can_spoke _ d).trans (emit_spoke ..)

/-- Sending changes neither the power record, the peers, the commands nor the straps. -/
theorem Spoke.keeps {a b : Device} (h : Spoke a b) : b.power = a.power ∧ b.peer = a.peer ∧ b.nvme = a.nvme ∧ b.side = a.side ∧
    b.nodeId = a.nodeId ∧ b.time = a.time ∧ b.admin.powerCycles = a.admin.powerCycles := by
  obtain ⟨_, _, _, _, _, _, rfl, _⟩ := h
  exact ⟨rfl, rfl, rfl, rfl, rfl, rfl, rfl⟩

/-- An internal reset before the device leaves it: `r` is what the reset left, named by its cause. -/
structure Restarting (cause : Nat) (d r : Device) : Prop where
  power : r.power = resetPower d.power
  commands : r.nvme.cmds = []
  link : r.peer.link = 0
  fenceIn : r.peer.fenceInN = d.peer.fenceInN
  now : r.time.now = d.time.now
  cause : odVal 0x2200 1 r = cause

theorem internalReset_restarting (cause : Nat) (d : Device) : ∃ r, internalReset cause d = leaveReset r ∧ Restarting cause d r := by
  have h := dropVolatile_left true true d
  unfold internalReset
  dsimp only
  split_ifs
  · exact ⟨_, rfl, h.power, h.commands, h.link, h.fenceIn, h.now, odVal_odPut ..⟩
  · have hs := joinCan_spoke false (odPut 0x2200 1 cause (dropVolatile true true d))
    obtain ⟨hp, hq, hn, -, -, ht, -⟩ := hs.keeps
    refine ⟨_, rfl, hp.trans h.power, ?_, ?_, ?_, ?_, (hs.odVal (not_countKey (by decide) (by decide))).trans (odVal_odPut ..)⟩
    · rw [hn]; exact h.commands
    · rw [hq]; exact h.link
    · rw [hq]; exact h.fenceIn
    · rw [ht]; exact h.now

/-- An internal reset of `d` names its cause, drops what was under way, and enables the core where nothing holds the device in reset. -/
structure Restarted (cause : Nat) (d t : Device) : Prop where
  cause : odVal 0x2200 1 t = cause
  commands : t.nvme.cmds = []
  link : t.peer.link = 0
  now : t.time.now = d.time.now
  unannounced : t.power.unannounced = d.power.unannounced
  enables : d.power.porst = false → d.peer.fenceInN = true → d.power.refclk = true → d.power.hot = false →
    t.power.run = .waitCore ∧ t.power.coreEn = true

theorem internalReset_restarted (cause : Nat) (d : Device) : Restarted cause d (internalReset cause d) := by
  obtain ⟨r, hr, hl⟩ := internalReset_restarting cause d
  have hv := leaveReset_leaves r
  rw [hr]
  refine ⟨?_, ?_, ?_, hv.now.trans hl.now, ?_, fun hp hf hc hh => ?_⟩
  · rw [odVal_congr 0x2200 1 hv.dict hv.nodeId, hl.cause]
  · rw [hv.commands, hl.commands]
  · rw [hv.peer, hl.link]
  · rw [hv.unannounced, hl.power]
    rfl
  · refine leaveReset_enables ?_ ?_ (hl.fenceIn.trans hf) ?_ ?_ <;> rw [hl.power]
    · rfl
    · exact hp
    · exact hc
    · exact hh

/-! ## Pins (R544, R606, R607) -/

theorem porstAssert_left {d : Device} (h : d.power.run ≠ .unpowered) :
    ResetLeft { d with power := { d.power with porst := true } } (porstAssert d) := by
  rw [porstAssert, if_neg (by rwa [beq_iff_eq])]
  exact dropVolatile_left ..

theorem shelfPowerLoss_run (d : Device) : (shelfPowerLoss d).power.run = .unpowered := by
  unfold shelfPowerLoss
  dsimp only
  split_ifs with h
  · exact beq_iff_eq.1 h
  · rfl

theorem pinColumn_reset {d : Device} (p : Pin) (h : d.power.run = .reset) : pinColumn p d = .reset := by rw [pinColumn, h]

theorem pinColumn_unpowered {d : Device} (p : Pin) (h : d.power.run = .unpowered) : pinColumn p d = .unpowered := by rw [pinColumn, h]

theorem pinColumn_ready {d : Device} (p : Pin) (h : d.power.run = .ready) : pinColumn p d = .running := by rw [pinColumn, h]

/-- The Reset column of R607. -/
def resetPin (p : Pin) (d : Device) : PinState :=
  match p with
  | .ddrReset => if d.power.dormancy.isSome then .selfRefresh else .low
  | .portTx _ _ | .linkTx => .electricalIdle
  | .coreEn | .holdupTest | .xspiResetN => .low
  | _ => .hiZ

theorem pinState_reset {d : Device} (p : Pin) (h : d.power.run = .reset) : pinState p d = resetPin p d := by
  unfold pinState
  rw [pinColumn_reset p h]
  cases p <;> rfl

theorem pinState_unpowered {d : Device} (p : Pin) (h : d.power.run = .unpowered) : pinState p d = .hiZ ∨ pinState p d = .noOutput := by
  unfold pinState
  rw [pinColumn_unpowered p h]
  cases p with
  | portTx | linkTx => exact .inr rfl
  | _ => exact .inl rfl

theorem pinState_ready {d : Device} (p : Pin) (h : d.power.run = .ready) : pinState p d = runningPin p d := by
  unfold pinState
  rw [pinColumn_ready p h]

/-- Settles O50: an assertion gives the Reset column, a loss of shelf power its own, and a running device drives by `runningPin`. -/
theorem pinStates : Obligations.PinStates := by
  unfold Obligations.PinStates
  intro s
  refine ⟨fun hu => gives_of_eq (f := porstAssert) rfl ?reset, gives_of_eq (f := shelfPowerLoss) rfl fun p => pinState_unpowered p (shelfPowerLoss_run _),
    fun hr => ⟨fun c hf => ?flash, fun g other => ?nand⟩⟩
  case reset =>
    have hp := (porstAssert_left hu).power
    have hr : (porstAssert s.dev).power.run = .reset := by rw [hp]; rfl
    have hd : (porstAssert s.dev).power.dormancy = s.dev.power.dormancy := by rw [hp]; rfl
    simp only [pinState_reset _ hr, resetPin, lineLevel, heldLevel, hd, and_self, implies_true]
  case flash =>
    rw [pinState_ready _ hr, runningPin, hf]
    cases bit s.dev.peer.driven c <;> decide
  case nand =>
    rw [nandPowered, pinState_ready _ hr]
    cases hg : domainOn g s.dev <;> simp [runningPin, hg]

/-! ## PORST_N is released (R605, R609) -/

/-- The straps are read in their ten bits. -/
theorem bits_mod_straps (straps : Nat) : bits (straps % 1024) 7 1 = bits straps 7 1 := by
  unfold bits
  omega

theorem bit_mod_straps (straps : Nat) : bit (straps % 1024) 0 = bit straps 0 := by
  unfold bit
  congr 1
  omega

theorem restorePersistent_keeps (d : Device) : (restorePersistent d).power = d.power ∧ (restorePersistent d).peer = d.peer ∧
    (restorePersistent d).admin = d.admin := by
  unfold restorePersistent
  split_ifs
  · exact ⟨rfl, rfl, rfl⟩
  · obtain ⟨a, b, h⟩ := persist_eq { d with dict := { d.dict with
      cells := d.dict.cells.filter (fun r => !isPersistent r.1 || restoreKeeps r.1), restoreMarked := false } }
    rw [h]
    exact ⟨rfl, rfl, rfl⟩

/-- The device whose PORST_N is released, before it looks whether it may leave reset. -/
def porstReleased (straps : Nat) (d : Device) : Device :=
  odPut 0x2200 1 0 (sampleStraps straps (latchSizes (restorePersistent { d with
    power := { d.power with porst := false, run := .reset }, fans := fansReleased d.time.now
    admin := if d.power.run == .unpowered then { d.admin with powerCycles := d.admin.powerCycles + 1 } else d.admin })))

theorem porstRelease_eq {straps : Nat} {d : Device} (h : d.power.porst = true) : porstRelease straps d =
    if (porstReleased straps d).peer.fenceInN then leaveReset (joinCan true (porstReleased straps d)) else porstReleased straps d := by
  rw [porstRelease, if_neg (by rw [h]; decide)]
  rfl

/-- What reading the straps changes, and the cause of a release of PORST_N. -/
theorem released_left (straps : Nat) (r : Device) (t : Device) (ht : t = odPut 0x2200 1 0 (sampleStraps straps (latchSizes r))) :
    (∃ w, t.power = { r.power with strapPins := w }) ∧ t.peer = r.peer ∧ t.admin = r.admin ∧ t.side = b2n (bit straps 0) ∧
      t.nodeId = bits straps 7 1 ∧ odVal 0x2200 1 t = 0 := by
  subst ht
  exact ⟨⟨_, rfl⟩, rfl, rfl, congrArg b2n (bit_mod_straps straps), bits_mod_straps straps, odVal_odPut ..⟩

/-- What the release leaves: a device in reset, its straps read, one more power cycle after the shelf had no power. -/
theorem porstReleased_left (straps : Nat) (d : Device) :
    (∃ w, (porstReleased straps d).power = { d.power with porst := false, run := .reset, strapPins := w }) ∧
    (porstReleased straps d).peer = d.peer ∧ (porstReleased straps d).side = b2n (bit straps 0) ∧
    (porstReleased straps d).nodeId = bits straps 7 1 ∧
    (porstReleased straps d).admin.powerCycles = d.admin.powerCycles + b2n (d.power.run == .unpowered) ∧
    odVal 0x2200 1 (porstReleased straps d) = 0 := by
  obtain ⟨⟨w, hp⟩, hq, ha, hs, hn, hv⟩ := released_left straps _ (porstReleased straps d) rfl
  obtain ⟨kp, kq, ka⟩ := restorePersistent_keeps { d with
    power := { d.power with porst := false, run := .reset }, fans := fansReleased d.time.now
    admin := if d.power.run == .unpowered then { d.admin with powerCycles := d.admin.powerCycles + 1 } else d.admin }
  refine ⟨⟨w, by rw [hp, kp]⟩, hq.trans kq, hs, hn, ?_, hv⟩
  rw [ha, ka]
  cases d.power.run == .unpowered <;> rfl

/-! ## World violations and fatal errors (R520, R522, R593, R594) -/

/-- What a world violation of address and initiator `v` records. -/
def ViolationNoted (v : Nat) (d t : Device) : Prop :=
  odVal 0x3200 1 t = min (odVal 0x3200 1 d + 1) (odMax 0x3200 1) ∧ odVal 0x3200 6 t = v ∧
    ((∀ a, d.sec.violationAt = some a → a + sec 1 ≤ d.time.now) → Logged 0x1101 0x0072 2 v t)

/-- The device with a violation counted and recorded. -/
def violationCounted (v : Nat) (d : Device) : Device := odPut 0x3200 6 v (odBump 0x3200 1 1 d)

theorem violationCounted_values (v : Nat) (d : Device) :
    odVal 0x3200 1 (violationCounted v d) = min (odVal 0x3200 1 d + 1) (odMax 0x3200 1) ∧ odVal 0x3200 6 (violationCounted v d) = v := by
  refine ⟨?_, odVal_odPut ..⟩
  unfold violationCounted
  rw [odVal_odPut_other _ _ (by decide), odBump, odVal_odPut]

/-- No violation was logged within the second. -/
def violationDue (d : Device) : Bool :=
  match d.sec.violationAt with
  | none => true
  | some t => t + sec 1 ≤ d.time.now

theorem violationDue_iff (d : Device) : violationDue d = true ↔ ∀ a, d.sec.violationAt = some a → a + sec 1 ≤ d.time.now := by
  unfold violationDue
  cases d.sec.violationAt with
  | none => simp only [reduceCtorEq, false_implies, implies_true]
  | some t => simp only [decide_eq_true_eq, Option.some.injEq, forall_eq']

/-- `worldViolation` with initiator and address as the one value that is recorded. -/
def noteViolation (v : Nat) (d : Device) : Device :=
  let u := violationCounted v d
  if violationDue u then logEvent 0x1101 0x0072 2 v { u with sec := { u.sec with violationAt := some u.time.now } } else u

theorem worldViolation_eq (ini addr : Nat) (d : Device) : worldViolation ini addr d = noteViolation (ini % 256 * 2 ^ 56 + addr % 2 ^ 48) d := by
  rfl

theorem noteViolation_noted (v : Nat) (d : Device) : ViolationNoted v d (noteViolation v d) := by
  obtain ⟨hcount, hlast⟩ := violationCounted_values v d
  unfold noteViolation
  dsimp only
  split_ifs with h
  · exact ⟨(logEvent_odVal (not_countKey (by decide) (by decide))).trans hcount,
      (logEvent_odVal (not_countKey (by decide) (by decide))).trans hlast, fun _ => logEvent_logged ..⟩
  · exact ⟨hcount, hlast, fun hd => absurd ((violationDue_iff d).2 hd) h⟩

theorem noteViolation_keeps (v : Nat) (d : Device) : (noteViolation v d).power = d.power ∧ (noteViolation v d).time = d.time := by
  unfold noteViolation
  dsimp only
  split_ifs
  · exact ⟨rfl, rfl⟩
  · exact ⟨rfl, rfl⟩

/-- The first fatal error arms FREEZE in entry 0, 16 ticks on. -/
theorem declareFatal_first {d : Device} (cause : Nat) (h : d.power.fatal = none) : declareFatal cause d =
    putEntry 0 { firmwareEntry 0x06 0xFFFF cause (d.time.counter + 16) true with paired := false }
      { d with power := { d.power with fatal := some cause } } := by
  rw [declareFatal, h]
  rfl

theorem declareFatal_freezes {d : Device} (cause : Nat) (h : d.power.fatal = none) : (declareFatal cause d).power.fatal = some cause ∧
    boardEntry 0 (declareFatal cause d) = { firmwareEntry 0x06 0xFFFF cause (d.time.counter + 16) true with paired := false } := by
  rw [declareFatal_first cause h]
  exact ⟨rfl, boardEntry_putEntry ..⟩

/-- A refused instruction fetch is noted as a violation, and is the first fatal error. -/
theorem fetchRefused_noted (v : Nat) {d : Device} (h : d.power.fatal = none) :
    ((declareFatal 1 (noteViolation v d)).power.fatal = some 1 ∧ boardEntry 0 (declareFatal 1 (noteViolation v d)) =
      { firmwareEntry 0x06 0xFFFF 1 (d.time.counter + 16) true with paired := false }) ∧
      ViolationNoted v d (declareFatal 1 (noteViolation v d)) := by
  obtain ⟨hp, ht⟩ := noteViolation_keeps v d
  have hf : (noteViolation v d).power.fatal = none := by rw [hp, h]
  have hz := declareFatal_freezes 1 hf
  rw [ht] at hz
  refine ⟨hz, ?_⟩
  rw [declareFatal_first 1 hf]
  exact noteViolation_noted v d

/-- A command that acts on a device that is up. -/
theorem exec_ifUp {c : Instr} {s : State} {f : Device → Device} (hup : isUp s.dev = true)
    (hx : exec c s = .next { s with dev := if isUp s.dev then f s.dev else s.dev }) : exec c s = next s fun _ => f s.dev := by
  rw [hx, if_pos hup]
  rfl

theorem exec_healthConfirmDeadline (s : State) : exec .healthConfirmDeadline s =
    .next { s with dev := (s.dev.fw.confirmBy.map fun t => internalReset 2 (waitUntil t s.dev)).getD s.dev } := by
  cases h : s.dev.fw.confirmBy <;> simp only [exec, execHealthConfirmDeadline, next, h, Option.map, Option.getD]

theorem next_congr {s : State} {f g : Device → Device} (h : f s.dev = g s.dev) : next s f = next s g := by rw [next, next, h]

/-! ## The core supply does not come up (R610) -/

/-- When an attempt of `d` to bring the core supply up ends. -/
def coreDue (d : Device) : Nat := d.power.startedAt + ms (50 + 1050 * (d.power.coreTries - 1))

/-- What waiting leaves: the power record, and a clock that has reached the time waited for. -/
theorem waitUntil_waited (t : Nat) (d : Device) : ∃ u, waitUntil t d = u ∧ u.power = d.power ∧ t ≤ u.time.now :=
  ⟨_, rfl, waitUntil_power .., by rw [waitUntil_now]; exact le_max_left ..⟩

theorem corePgTimeout_again {d : Device} (hw : d.power.run = .waitCore) (hc : d.power.coreEn = true) (ht : d.power.coreTries < 3) :
    ∃ u : Device, u.power = { d.power with coreEn := false } ∧ coreDue d + sec 1 ≤ u.time.now ∧ corePgTimeout d = coreEnable u := by
  obtain ⟨v, hv, hp, hn⟩ := waitUntil_waited (coreDue d) d
  obtain ⟨u, hu, hq, hm⟩ := waitUntil_waited (v.time.now + sec 1) { v with power := { v.power with coreEn := false } }
  refine ⟨u, by rw [hq, hp], (Nat.add_le_add_right hn _).trans hm, ?_⟩
  unfold corePgTimeout
  unfold coreDue at hv
  rw [if_neg (by rw [hw, hc]; decide), hv, if_pos (by rwa [hp]), hu]

theorem corePgTimeout_fails {d : Device} (hw : d.power.run = .waitCore) (hc : d.power.coreEn = true) (ht : 3 ≤ d.power.coreTries) :
    ∃ u : Device, u.power = { d.power with run := .halted, coreEn := false, coreFailures := d.power.coreTries, coreTries := 0 } ∧
      coreDue d ≤ u.time.now ∧ corePgTimeout d = sendEmcy 0xFF00 0x1501 u := by
  obtain ⟨v, hv, hp, hn⟩ := waitUntil_waited (coreDue d) d
  refine ⟨{ v with power := { d.power with run := .halted, coreEn := false, coreFailures := d.power.coreTries, coreTries := 0 } }, rfl, hn, ?_⟩
  unfold corePgTimeout
  unfold coreDue at hv
  rw [if_neg (by rw [hw, hc]; decide), hv, if_neg (by rw [hp]; exact not_lt.2 ht), hp]

theorem exec_refclkRestart {s : State} (h : s.dev.power.refclk = false) : ∃ u : Device, u.power = { s.dev.power with refclk := true } ∧
    s.dev.time.now + us 100 ≤ u.time.now ∧ exec .refclkRestart s = next s fun _ => leaveReset u := by
  obtain ⟨v, hv, -, hn⟩ := waitUntil_waited (s.dev.time.now + us 100) s.dev
  refine ⟨{ v with power := { s.dev.power with refclk := true } }, rfl, hn, ?_⟩
  unfold exec execRefclkRestart
  refine next_congr ((if_neg (by rw [h]; decide)).trans ?_)
  rw [hv]

/-! ## Cold start or clean dormant exit (R561) -/

theorem coldStart_eq {d : Device} (hb : atBoot d = true) (h : (leavesDormancy d && dormantFailure d == 0) = false) : coldStart d =
    proceed (odPut 0x2200 2 0 (if leavesDormancy d then logEvent 0x1207 0x0071 1 (dormantFailure d) d else d)) := by
  rw [coldStart, if_neg (by rw [hb, h]; decide)]

theorem cleanDormantExit_eq {d : Device} (hb : atBoot d = true) (hl : leavesDormancy d = true) (hf : dormantFailure d = 0) :
    cleanDormantExit d = proceed (odPut 0x2200 2 1 d) := by
  rw [cleanDormantExit, if_pos (by rw [hb, hl, hf]; rfl)]

theorem dumpCopy_eq {d : Device} {x : Dump} (hx : d.fw.dump = some x) (hc : d.fw.copying = true) :
    dumpCopy d = { d with fw := { d.fw with dump := none, copying := false, flashDumps := (x :: d.fw.flashDumps).take 2 } } := by
  simp only [dumpCopy, hx, hc, Bool.not_true, Bool.false_eq_true, if_false]

/-- Settles O40: resets by what `internalReset_restarted` and `porstReleased_left` leave, errors by `declareFatal_freezes`. -/
theorem startsAndFatal : Obligations.StartsAndFatal := by
  unfold Obligations.StartsAndFatal
  intro s d restarts
  refine ⟨fun hu => ?assert, fun straps hp => ?release, fun hc hg => ?loss, fun hup => ?pll, fun hd => ?wake, fun due hf => ?deadline,
    fun hr => ?restart, fun hw hc => ⟨?rise, fun ht => ?again, fun ht => ?fails⟩, fun hb => ⟨fun hl => ?cold, fun hl hf => ?notClean, fun hl hf => ?clean⟩,
    fun hup => ⟨fun hf => ⟨fun cause => ?fatal, ?watchdog, fun ini addr => ?fetch⟩, fun ini addr => ?world⟩, fun x hx hc => ?dump⟩
  case assert =>
    have h := porstAssert_left hu
    exact gives_of_eq (f := porstAssert) rfl ⟨by rw [h.power]; rfl, by rw [h.power]; rfl, h.commands, h.link⟩
  case release =>
    obtain ⟨⟨w, hw⟩, hq, hside, hnode, hcycles, hcause⟩ := porstReleased_left straps s.dev
    refine gives_of_eq (f := porstRelease straps) rfl ?_
    have hj := joinCan_spoke true (porstReleased straps s.dev)
    obtain ⟨jp, jq, -, jside, jnode, -, jcycles⟩ := hj.keeps
    have hl := leaveReset_leaves (joinCan true (porstReleased straps s.dev))
    rw [porstRelease_eq hp]
    split_ifs with hf
    · refine ⟨?_, ?_, ?_, ?_, ?_, fun hn => ?_, fun _ hr hh => leaveReset_enables ?_ ?_ ?_ ?_ ?_⟩
      · rw [hl.porst, jp, hw]
      · rw [odVal_congr 0x2200 1 hl.dict hl.nodeId, hj.odVal (not_countKey (by decide) (by decide)), hcause]
      · rw [hl.side, jside, hside]
      · rw [hl.nodeId, jnode, hnode]
      · rw [hl.admin, jcycles, hcycles]
      · rw [hq, hn] at hf
        cases hf
      · rw [jp, hw]
      · rw [jp, hw]
      · rwa [jq]
      · rw [jp, hw]
        exact hr
      · rw [jp, hw]
        exact hh
    · refine ⟨by rw [hw], hcause, hside, hnode, hcycles, fun _ => by rw [hw], fun hn => ?_⟩
      rw [hq] at hf
      exact absurd hn hf
  case loss =>
    have hx : exec .corePgLoss s = next s fun _ => internalReset 6 { s.dev with
        power := { s.dev.power with unannounced := s.dev.power.unannounced || !s.dev.power.pwrFail } } :=
      congrArg (next s fun _ => ·) (if_pos (by rw [hc, hg]; rfl))
    have h := internalReset_restarted 6 { s.dev with power := { s.dev.power with unannounced := s.dev.power.unannounced || !s.dev.power.pwrFail } }
    exact gives_of_eq hx ⟨⟨h.cause, h.commands, h.link, h.enables⟩, h.unannounced⟩
  case pll =>
    have hx : exec .rootPllLoss s = next s fun _ => internalReset 4 (alarmTrip 4 s.dev) := congrArg (next s fun _ => ·) (if_pos hup)
    have h := internalReset_restarted 4 (alarmTrip 4 s.dev)
    exact ⟨⟨_, hx, rfl⟩, gives_of_eq hx ⟨h.cause, h.commands⟩⟩
  case wake =>
    have hx : exec .epochInWake s = next s fun _ => wake (waitUntil (s.dev.time.now + us 500) s.dev) :=
      congrArg (next s fun _ => ·) (if_pos (beq_iff_eq.2 hd))
    have h := internalReset_restarted 5 (odPut 0x2220 1 0 (waitUntil (s.dev.time.now + us 500) s.dev))
    refine gives_of_eq hx ⟨⟨h.cause, h.commands, h.link, ?_⟩, (wake_awake _).1, ?_⟩
    · have he := h.enables
      rw [odPut_power, odPut_peer, waitUntil_power, waitUntil_peer] at he
      exact he
    · refine le_of_le_of_eq ?_ h.now.symm
      rw [odPut_time, waitUntil_now]
      exact le_max_left ..
  case deadline =>
    have hx : exec .healthConfirmDeadline s = next s fun _ => internalReset 2 (waitUntil due s.dev) := by
      rw [exec_healthConfirmDeadline, hf]
      rfl
    have h := internalReset_restarted 2 (waitUntil due s.dev)
    refine gives_of_eq hx ⟨⟨h.cause, h.commands, h.link, ?_⟩, ?_⟩
    · have he := h.enables
      rw [waitUntil_power, waitUntil_peer] at he
      exact he
    · rw [h.now, waitUntil_now]
      exact le_max_left ..
  case restart =>
    obtain ⟨u, hp, hn, hx⟩ := exec_refclkRestart hr
    exact leads_of_eq hx rfl ⟨by rw [hp], hn⟩
  case rise =>
    refine gives_of_eq (f := fun d => if d.power.run == .waitCore && d.power.coreEn then _ else d) rfl ?_
    dsimp only
    rw [hw, hc]
    exact ⟨rfl, rfl, rfl, rfl⟩
  case again =>
    obtain ⟨u, hp, hn, hx⟩ := corePgTimeout_again hw hc ht
    refine gives_of_eq (f := corePgTimeout) rfl ?_
    rw [hx]
    refine ⟨rfl, rfl, congrArg (·.coreTries + 1) hp, ?_⟩
    rw [(coreEnable_leaves u).now]
    exact hn
  case fails =>
    obtain ⟨u, hp, hn, hx⟩ := corePgTimeout_fails hw hc ht
    obtain ⟨kp, -, -, -, -, kt, -⟩ := (sendEmcy_spoke 0xFF00 0x1501 u).keeps
    refine gives_of_eq (f := corePgTimeout) rfl ?_
    rw [hx]
    refine ⟨by rw [kp, hp], by rw [kp, hp], by rw [kp, hp], ?_⟩
    rw [kt]
    exact hn
  case cold =>
    refine leads_of_eq (g := coldStart) rfl (coldStart_eq hb (by rw [hl]; rfl)) (odVal_odPut ..)
  case notClean =>
    have hn : (leavesDormancy s.dev && dormantFailure s.dev == 0) = false := by
      rw [hl, Bool.true_and]
      exact beq_eq_false_iff_ne.2 hf
    refine leads_of_eq (g := coldStart) rfl (coldStart_eq hb hn) ⟨odVal_odPut .., ?_⟩
    rw [if_pos hl]
    exact logEvent_logged ..
  case clean => exact leads_of_eq (g := cleanDormantExit) rfl (cleanDormantExit_eq hb hl hf) (odVal_odPut ..)
  case fatal => exact gives_of_eq (exec_ifUp hup rfl) (declareFatal_freezes _ hf)
  case watchdog => exact gives_of_eq (exec_ifUp hup rfl) (declareFatal_freezes _ hf)
  case fetch =>
    have hx := exec_ifUp (c := .instructionFetchRefused ini addr) (f := fun d => declareFatal 1 (worldViolation ini addr d)) hup rfl
    rw [worldViolation_eq] at hx
    exact gives_of_eq hx (fetchRefused_noted _ hf)
  case world =>
    have hx := exec_ifUp (c := .worldViolation ini addr) (f := worldViolation ini addr) hup rfl
    rw [worldViolation_eq] at hx
    exact gives_of_eq hx (noteViolation_noted _ s.dev)
  case dump =>
    refine gives_of_eq (f := dumpCopy) rfl ?_
    rw [dumpCopy_eq hx hc]
    exact ⟨rfl, rfl, rfl⟩


end Sys2Proof.Machine
end

section
/-! SUPPORT. The command fields of an engine: locks, journal records, events, counters and messages (R499). -/

namespace Sys2Proof.Machine

/-- A word that names no buffer: the device that it leaves. -/
theorem exec_word {c : Instr} {e : Nat} {f : Device → Device} {s : State} (hr : EngineRuns e s.dev) (hx : exec c s = next s (word e f)) :
    exec c s = next s f := by
  rw [hx, next, word_runs _ hr]
  rfl

/-- A word that names a buffer: the device that it leaves. -/
theorem exec_bufWord {c : Instr} {e buf : Nat} {f : Device → Device} {s : State} (hr : EngineRuns e s.dev)
    (hx : exec c s = next s (bufWord e buf f)) : exec c s = next s fun d => f (selBuf e buf d) := by
  rw [hx, next, bufWord_runs _ _ hr]
  rfl

/-! ## Locks -/

theorem allHeld_iff (cmd : Nat) (d : Device) : allHeld cmd d = true ↔ ∀ l ∈ d.nvme.locks, l.cmd = cmd → l.st = .held := by
  simp only [allHeld, locksOf, List.all_eq_true, List.mem_filter, beq_iff_eq, and_imp]

theorem mem_releaseLocks (l : Lock) (cmd : Nat) (d : Device) :
    l ∈ (releaseLocks cmd d).nvme.locks ↔ l ∈ d.nvme.locks ∧ l.cmd ≠ cmd := by
  simp only [releaseLocks, setLocks, List.mem_filter, bne_iff_ne]

/-! ## Journal records -/

/-- APPEND to the engine: the page that takes its record is the next one. -/
def appends (page : Nat) (x : Engine) : Engine :=
  { x with appended := some (page + 1), marked := false, conds := setBit x.conds 22 false }

theorem append_eq (e buf : Nat) (d : Device) :
    append e buf d =
      onEngine e (appends d.stripe.pageSeq) (journalRecord (.other (leAt (bufBytes e buf d) 2 2) ((bufBytes e buf d).drop 4)) d) :=
  onEngine_onEngine ..

theorem append_gives {e buf : Nat} {d : Device} (he : e < d.eng.engines.length) :
    (append e buf d).stripe.queued = d.stripe.queued ++ [.other (leAt (bufBytes e buf d) 2 2) ((bufBytes e buf d).drop 4)] ∧
      engineOf e (append e buf d) = appends d.stripe.pageSeq (engineOf e d) := by
  rw [append_eq]
  exact ⟨rfl, engineOf_onEngine _ he⟩

/-- The engine after CNT_ADD: counter `ctr` has grown by `v` modulo 2^64. -/
def counts (ctr v : Nat) (x : Engine) : Engine :=
  { x with counters := tblStore 0 x.counters ctr ((tblGetD x.counters ctr 0 + v) % 2 ^ 64) }

/-- Settles O20: each field through the device that its word leaves. -/
theorem engineLocksAndRecords : Obligations.EngineLocksAndRecords := by
  unfold Obligations.EngineLocksAndRecords
  intro s e a b buf hr
  refine ⟨?lockTest, ?lockRelease, ?append, ?mark, fun code imm h1 h4 => ?event, fun ctr h1 h15 => ?counter, ?message⟩
  case lockTest =>
    refine ⟨_, becomes_of_word hr (c := .lockTest e) rfl rfl, fun n hn => bit_setBit_other _ _ _ _ hn, ?_⟩
    rw [bit_setBit_same, allHeld_iff]
  case lockRelease =>
    exact ⟨releaseLocks (tagCmd (curDesc e s.dev).tag) s.dev, exec_word (c := .lockRelease e) hr rfl, rfl, fun l => mem_releaseLocks l _ _⟩
  case append =>
    refine gives_of_eq (exec_bufWord (c := .append e buf) hr rfl) ?_
    have he : e < (selBuf e buf s.dev).eng.engines.length := by rw [selBuf_eq, engines_length_onEngine]; exact hr.2.1
    obtain ⟨hq, hg⟩ := append_gives (buf := buf) he
    rw [bufBytes_selBuf buf buf hr.2.1] at hq
    rw [hg]
    exact ⟨hq, rfl, bit_setBit_same _ 22 false⟩
  case mark =>
    exact becomes_of_word hr (c := .markJnl e) (k := fun x =>
      { x with marked := true, conds := setBit x.conds 22 ((engineOf e s.dev).appended.any (· ≤ s.dev.stripe.durableSeq)) }) rfl
      (onEngine_onEngine ..)
  case event =>
    refine gives_of_eq (f := logEvent (imm % 65536) (0x0200 + e) (code - 1) (reg e a s.dev)) ?_
      ⟨logEvent_logged .., (logEvent_spoke ..).eng⟩
    exact (exec_word (c := .evtWrite e code imm a) hr rfl).trans (next_congr (if_pos (by simp [h1, h4])))
  case counter =>
    refine gives_of_eq (f := onEngine e (counts ctr (reg e b s.dev))) ?_ ?_
    · exact (exec_word (c := .cntAdd e ctr b) hr rfl).trans (next_congr (if_pos (by simp [h1, h15])))
    · rw [engineOf_onEngine _ hr.2.1]
      exact ⟨tblGetD_tblStore_same .., fun n hn => tblGetD_tblStore_other _ _ hn⟩
  case message =>
    refine gives_of_eq (exec_word (c := .msgSend e a b) hr rfl) ⟨rfl, ?_⟩
    exact engineOf_onEngine (d := emit (.toCpu (reg e a s.dev) (reg e b s.dev)) s.dev) _ hr.2.1

end Sys2Proof.Machine
end

section
/-! SUPPORT. The compression unit and the AES unit of an engine (R247 to R263, R322, R499). -/

namespace Sys2Proof.Machine

theorem engineOf_of_eng {a b : Device} (h : b.eng = a.eng) (e : Nat) : engineOf e b = engineOf e a := by rw [engineOf, h, engineOf]

theorem setConds_triple (e k m n : Nat) (a b c : Bool) (d : Device) : setConds e [(k, a), (m, b), (n, c)] d =
    onEngine e (fun x => { x with conds := setBit (setBit (setBit x.conds k a) m b) n c }) d := by
  simp only [setConds, List.foldl_cons, List.foldl_nil, engineCond, onEngine_onEngine]

/-! ## Deflate -/

theorem compress_eq (e buf : Nat) (d : Device) : compress e buf d = onEngine e (fun x => { x with
    defl := ⟨some (buf, false), bufBytes e buf d, []⟩, conds := setBit (setBit (setBit x.conds 8 false) 9 false) 10 false }) d := by
  rw [compress, setConds_triple, onEngine_onEngine]

/-- Bytes `bs` written at buffer `b` of an engine. -/
def buffered (b : BufDesc) (bs : Bytes) (x : Engine) : Engine :=
  { x with mem := memWrite x.mem (b.addr + b.cursor) (bs.take (b.limit - b.cursor)) }

theorem decompress_inflates {e buf : Nat} {bs : Bytes} {d : Device} (h : inflate (bufBytes e buf d) (curDesc e d).srcLen = some bs) :
    decompress e buf d = onEngine e (fun x => { buffered (bufDesc e buf d) bs x with conds := setBit x.conds 11 false }) d := by
  rw [decompress, h]
  exact onEngine_onEngine ..

theorem decompress_fails {e buf : Nat} {d : Device} (h : inflate (bufBytes e buf d) (curDesc e d).srcLen = none) :
    decompress e buf d = onEngine e (fun x => { x with conds := setBit x.conds 11 true }) d := by
  rw [decompress, h]
  rfl

theorem noGain_eng (d : Device) : (noGain d).eng = d.eng :=
  iteInduction (motive := fun u : Device => u.eng = d.eng) (fun _ => (logEvent_spoke ..).eng) fun _ => rfl

theorem verifyMismatch_eng (e dom num : Nat) (d : Device) : (verifyMismatch e dom num d).eng = d.eng :=
  iteInduction (motive := fun u : Device => u.eng = d.eng) (fun _ => rfl) fun _ => (raiseEmcy_spoke ..).eng.trans (logEvent_spoke ..).eng

theorem chooseEncoding_eng (off : Bool) (e : Nat) (mismatch : Bool) (dom num : Nat) (plain : Bytes) (d : Device) :
    (chooseEncoding off (some e) mismatch dom num plain d).2.eng = d.eng := by
  unfold chooseEncoding
  refine iteInduction (motive := fun r : Bool × Device => r.2.eng = d.eng) (fun _ => rfl) fun _ => ?_
  refine iteInduction (motive := fun r : Bool × Device => r.2.eng = d.eng) (fun _ => verifyMismatch_eng ..) fun _ => ?_
  exact iteInduction (motive := fun r : Bool × Device => r.2.eng = d.eng) (fun _ => noGain_eng d) fun _ => rfl

theorem onChunk_eng (id n k : Nat) (f : WorkChunk → WorkChunk) (d : Device) : (onChunk id n k f d).eng = d.eng := rfl

theorem compressDone_engine {e : Nat} (mismatch : Bool) {d : Device} (he : e < d.eng.engines.length)
    (hw : (engineOf e d).defl.work.isSome) : ∃ out gain, engineOf e (compressDone e mismatch d) =
      { engineOf e d with
        defl := { (engineOf e d).defl with work := none, out := out }
        ports := (engineOf e d).ports.set 5 ((Config.deflateOutput (engineOf e d).defl.input).length % 2 ^ 64)
        conds := setBit (setBit (setBit (engineOf e d).conds 8 true) 9 mismatch) 10 gain } := by
  obtain ⟨w, hw⟩ := Option.isSome_iff_exists.1 hw
  simp only [compressDone, hw]
  generalize hr : chooseEncoding _ _ _ _ _ _ _ = r
  have heng : r.2.eng = d.eng := by rw [← hr]; exact chooseEncoding_eng ..
  have hlen : e < r.2.eng.engines.length := by rw [heng]; exact he
  generalize hu : setConds e _ _ = u
  have ended : ∃ out gain, engineOf e u = { engineOf e d with
      defl := { (engineOf e d).defl with work := none, out := out }
      ports := (engineOf e d).ports.set 5 ((Config.deflateOutput (engineOf e d).defl.input).length % 2 ^ 64)
      conds := setBit (setBit (setBit (engineOf e d).conds 8 true) 9 mismatch) 10 gain } := by
    rw [← hu, setConds_triple, setPort, onEngine_onEngine, onEngine_onEngine, engineOf_onEngine _ hlen, engineOf_of_eng heng]
    exact ⟨_, _, rfl⟩
  obtain ⟨out, gain, ended⟩ := ended
  refine ⟨out, gain, ?_⟩
  cases curChunk e u with
  | none => exact ended
  | some x =>
    obtain ⟨c, n, i, k, w⟩ := x
    exact (engineOf_of_eng (onChunk_eng ..) e).trans ended

/-! ## The queue of the AES unit -/

/-- Request `r` at the end of an engine's queue. -/
def asks (r : AesReq) (x : Engine) : Engine :=
  { x with aes := x.aes ++ [r], conds := setBit (setBit (setBit x.conds 12 false) 13 false) 14 false }

theorem queueAes_eq (e : Nat) (r : AesReq) (d : Device) : queueAes e r d = onEngine e (asks r) d := by
  rw [queueAes, setConds_triple, onEngine_onEngine]
  rfl

theorem aesFull_of_room {e : Nat} {d : Device} (h : (engineOf e d).aes.length < 8) : ¬ aesFull e d = true := by
  rw [aesFull, decide_eq_true_iff]
  omega

/-- A word that queues one request where the queue has room. -/
theorem becomes_of_request {c : Instr} {e buf : Nat} {s : State} {r : Device → AesReq} (hr : EngineRuns e s.dev)
    (hroom : (engineOf e s.dev).aes.length < 8)
    (hx : exec c s = next s (bufWord e buf fun d => if aesFull e d then d else queueAes e (r d) d)) :
    EngineBecomes c e (asks (r (selBuf e buf s.dev)) { engineOf e s.dev with ctx := { (engineOf e s.dev).ctx with sel := buf } }) s := by
  refine becomes_of_bufWord hr hx (k := asks (r (selBuf e buf s.dev))) ?_
  have hfull : ¬ aesFull e (selBuf e buf s.dev) = true := aesFull_of_room (by rw [engineOf_selBuf buf hr.2.1]; exact hroom)
  exact (if_neg hfull).trans (queueAes_eq ..)

theorem reserveSeals_map (d : Device) : (reserveSeals d).eng = d.eng ∧ (reserveSeals d).map.sealCount = d.map.sealCount := by
  unfold reserveSeals
  split_ifs <;> exact ⟨rfl, rfl⟩

theorem sealWord_gives {e buf : Nat} {d : Device} (he : e < d.eng.engines.length) (hroom : (engineOf e d).aes.length < 8)
    (hl : sealsLeft 1 d = true) : (sealWord e buf d).map.sealCount = d.map.sealCount + 1 ∧
      engineOf e (sealWord e buf d) = asks ⟨.seal, buf, 0, d.map.sealCount + 1, 0, bufBytes e buf d⟩ (engineOf e d) := by
  have hgo : ¬ (aesFull e d || !sealsLeft 1 d) = true := by simp [aesFull_of_room hroom, hl]
  obtain ⟨heng, hcount⟩ := reserveSeals_map { d with map := { d.map with sealCount := d.map.sealCount + 1 } }
  have hof := engineOf_of_eng heng e
  rw [sealWord, if_neg hgo]
  dsimp only
  rw [queueAes_eq, engineOf_onEngine _ (by rw [heng]; exact he), hof]
  refine ⟨hcount, ?_⟩
  have hb : bufBytes e buf (reserveSeals { d with map := { d.map with sealCount := d.map.sealCount + 1 } }) = bufBytes e buf d := by
    simp only [bufBytes, bufDesc, hof]
    rfl
  rw [hb]
  rfl

/-! ## ENCRYPT takes an invocation (R255, R256) -/

/-- A slot whose own counter gives an invocation and stays below the point where a new limit is asked for. -/
def GivesFreely (n : Nat) (d : Device) : Prop :=
  let k := slotOf n d
  let c := k.counter d.side
  k.st = .active ∧ d.cipher.alarm = 0 ∧ k.exhausted d.side = false ∧ c + 2 ^ 19 + 2 ≤ k.limit d.side ∧ c < counterMax ∧ k.key.isSome

theorem counter_setCounter (k : KeySlot) (side v : Nat) : (k.setCounter side v).counter side = v := by
  unfold KeySlot.setCounter KeySlot.counter
  split <;> rfl

theorem limit_setCounter (k : KeySlot) (side v : Nat) : (k.setCounter side v).limit side = k.limit side := by
  unfold KeySlot.setCounter KeySlot.limit
  split <;> rfl

theorem needsLimit_setCounter {k : KeySlot} {side c : Nat} (h : c + 2 ^ 19 + 2 ≤ k.limit side) :
    needsLimit (k.setCounter side (c + 1)) side = false := by
  rw [needsLimit, limit_setCounter, counter_setCounter, decide_eq_false (by omega : ¬ k.limit side < c + 1 + 2 ^ 19 + 1), Bool.and_false,
    Bool.false_and]

theorem Spoke.slotOf {a b : Device} (h : Spoke a b) (n : Nat) : slotOf n b = slotOf n a := by
  obtain ⟨_, _, _, _, _, _, rfl, -⟩ := h
  rfl

theorem takeInvocation_gives {n : Nat} {d : Device} (h : GivesFreely n d) :
    (takeInvocation n d).1 = .gives ((slotOf n d).counter d.side) ∧
      (slotOf n (takeInvocation n d).2).counter d.side = (slotOf n d).counter d.side + 1 ∧
      (takeInvocation n d).2.eng = d.eng ∧ (takeInvocation n d).2.nvme = d.nvme := by
  obtain ⟨hst, halarm, hex, hlim, hmax, hkey⟩ := h
  have h1 : ¬ ((slotOf n d).st != .active || d.cipher.alarm != 0) = true := by simp [hst, halarm]
  have h2 : ¬ ((slotOf n d).exhausted d.side || (slotOf n d).counter d.side == counterMax) = true := by
    rw [hex, Bool.false_or, beq_iff_eq]
    omega
  have h3 : ¬ (slotOf n d).key.isNone = true := by rw [Option.isNone_iff_eq_none]; exact Option.isSome_iff_ne_none.1 hkey
  have h4 : ¬ (slotOf n d).limit d.side ≤ (slotOf n d).counter d.side := by omega
  unfold takeInvocation
  dsimp only
  rw [if_neg h1, if_neg h2, if_neg h3, if_neg h4]
  generalize hp : (!((slotOf n d).setCounter d.side ((slotOf n d).counter d.side + 1)).warned && _ : Bool) = passed
  rw [needsLimit_setCounter hlim, if_neg Bool.false_ne_true]
  generalize hk : KeySlot.mk _ _ _ _ _ _ _ _ _ _ _ _ _ _ _ _ = k
  have hc : k.counter d.side = (slotOf n d).counter d.side + 1 := by
    rw [← hk]
    exact counter_setCounter ..
  refine ⟨rfl, ?_⟩
  cases passed with
  | false => exact ⟨by rw [if_neg Bool.false_ne_true, putSlot_slotOf, hc], rfl, rfl⟩
  | true =>
    have hs := logEvent_spoke 0x0905 0x0030 1 (d.side * 4096 + n) (putSlot n k d)
    rw [if_pos rfl]
    exact ⟨by rw [hs.slotOf, putSlot_slotOf, hc], hs.eng, hs.store.1⟩

theorem encrypt_gives {e buf : Nat} {d : Device} (he : e < d.eng.engines.length) (hroom : (engineOf e d).aes.length < 8)
    (h : GivesFreely (curDesc e d).slot d) :
    (slotOf (curDesc e d).slot (encrypt e buf d)).counter d.side = (slotOf (curDesc e d).slot d).counter d.side + 1 ∧
      engineOf e (encrypt e buf d) = asks
        ⟨.encrypt, buf, (curDesc e d).slot, (slotOf (curDesc e d).slot d).counter d.side, b2n (!(engineOf e d).defl.out.isEmpty),
          if (engineOf e d).defl.out.isEmpty then bufBytes e buf d else (engineOf e d).defl.out⟩ (engineOf e d) := by
  obtain ⟨hgives, hcount, heng, -⟩ := takeInvocation_gives h
  rw [encrypt, if_neg (aesFull_of_room hroom)]
  dsimp only
  generalize takeInvocation (curDesc e d).slot d = r at hgives hcount heng
  rw [hgives]
  dsimp only
  rw [queueAes_eq]
  generalize AesReq.mk _ _ _ _ _ _ = q
  have queued : engineOf e (onEngine e (asks q) r.2) = asks q (engineOf e d) := by
    rw [engineOf_onEngine _ (by rw [heng]; exact he), engineOf_of_eng heng]
  cases curChunk e (onEngine e (asks q) r.2) with
  | none => exact ⟨hcount, queued⟩
  | some x =>
    obtain ⟨c, n, i, k, w⟩ := x
    exact ⟨hcount, (engineOf_of_eng (onChunk_eng ..) e).trans queued⟩

/-! ## The end of a seal -/

theorem aesComplete_seal {e buf n key : Nat} {data : Bytes} {rest : List AesReq} {d : Device} (he : e < d.eng.engines.length)
    (hq : (engineOf e d).aes = ⟨.seal, buf, 0, n, 0, data⟩ :: rest) (hk : d.peer.mapKey = some key) :
    aesComplete e d = onEngine e (fun x => { buffered (bufDesc e buf d) (sealedPage key d.side n data) x with
      aes := rest, conds := setBit (setBit (setBit x.conds 12 true) 13 false) 14 false }) d := by
  have hres : aesResult e ⟨.seal, buf, 0, n, 0, data⟩ (onEngine e (fun x => { x with aes := rest }) d) = .out (sealedPage key d.side n data) := by
    simp only [aesResult, show (onEngine e (fun x => { x with aes := rest }) d).peer.mapKey = some key from hk]
    rfl
  have hbuf : bufDesc e buf (onEngine e (fun x => { x with aes := rest }) d) = bufDesc e buf d := by
    rw [bufDesc, engineOf_onEngine _ he, bufDesc]
  rw [aesComplete, hq]
  dsimp only
  rw [hres]
  dsimp only
  rw [if_neg (by decide : ¬ (AesKind.seal == AesKind.encrypt) = true), setConds_triple, putBytes, hbuf, onEngine_onEngine, onEngine_onEngine]
  rfl

/-- Settles O8: each word by what its unit changes of the engine, ENCRYPT by the invocation that its slot gives. -/
theorem deflateAndAes : Obligations.DeflateAndAes := by
  unfold Obligations.DeflateAndAes
  intro s e buf hr
  have hsel := engineOf_selBuf buf hr.2.1
  have hlen : e < (selBuf e buf s.dev).eng.engines.length := by rw [selBuf_eq, engines_length_onEngine]; exact hr.2.1
  have hbytes := bufBytes_selBuf buf buf hr.2.1
  have hdesc := curDesc_selBuf buf hr.2.1
  refine ⟨?compress, fun out ho => ?inflates, fun ho => ?fails, ?discard, fun hroom => ?decrypt, fun hroom => ?openPage,
    fun hroom hl => ?sealPage, fun hroom hst halarm hex hlim hmax hkey => ?encrypt, ?cancel, fun buf' n data rest key hq hk => ?sealed,
    fun mismatch hw hports => ?compressed⟩
  case compress =>
    have h := becomes_of_bufWord hr (c := .compress e buf) rfl (compress_eq ..)
    rwa [hbytes] at h
  case inflates =>
    have h := becomes_of_bufWord hr (c := .decompress e buf) rfl (decompress_inflates (by rw [hbytes, hdesc]; exact ho))
    rwa [bufDesc_selBuf _ _ hr.2.1] at h
  case fails => exact becomes_of_bufWord hr (c := .decompress e buf) rfl (decompress_fails (by rw [hbytes, hdesc]; exact ho))
  case discard => exact becomes_of_word hr (c := .discard e) rfl rfl
  case decrypt =>
    have h := becomes_of_request (c := .decrypt e buf) (r := fun d => ⟨.decrypt, buf, (curDesc e d).slot, 0, 0, bufBytes e buf d⟩) hr hroom rfl
    rwa [hdesc, hbytes] at h
  case openPage =>
    have h := becomes_of_request (c := .openPage e buf) (r := fun d => ⟨.open_, buf, 0, 0, 0, bufBytes e buf d⟩) hr hroom rfl
    rwa [hbytes] at h
  case sealPage =>
    obtain ⟨hcount, heng⟩ := sealWord_gives (buf := buf) hlen (by rw [hsel]; exact hroom) hl
    rw [hbytes, hsel] at heng
    exact ⟨_, exec_bufWord (c := .sealPage e buf) hr rfl, hcount, heng⟩
  case encrypt =>
    have hfree : GivesFreely (curDesc e (selBuf e buf s.dev)).slot (selBuf e buf s.dev) := by
      rw [hdesc]
      exact ⟨hst, halarm, hex, hlim, hmax, hkey⟩
    obtain ⟨hcount, heng⟩ := encrypt_gives hlen (by rw [hsel]; exact hroom) hfree
    rw [hdesc] at hcount heng
    refine ⟨_, exec_bufWord (c := .encrypt e buf) hr rfl, hcount, heng.trans ?_⟩
    rw [hsel, hbytes]
    by_cases hout : (engineOf e s.dev).defl.out = []
    · rw [if_pos hout, hout]
      rfl
    · rw [if_neg hout, List.isEmpty_eq_false_iff.2 hout]
      rfl
  case cancel => exact becomes_of_word hr (c := .aesCancel e) rfl rfl
  case sealed => exact becomes_of_eq hr (congrArg (next s fun _ => ·) (aesComplete_seal hr.2.1 hq hk)) rfl
  case compressed =>
    obtain ⟨out, gain, heng⟩ := compressDone_engine mismatch hr.2.1 hw
    refine ⟨_, rfl, ?_⟩
    rw [heng]
    refine ⟨rfl, ?_, ?_, ?_⟩
    · rw [← bit_eq_testBit, bit_setBit_other _ _ _ _ (by decide), bit_setBit_other _ _ _ _ (by decide), bit_setBit_same]
    · rw [← bit_eq_testBit, bit_setBit_other _ _ _ _ (by decide), bit_setBit_same]
    · simp [List.getD_eq_getElem?_getD, hports]

end Sys2Proof.Machine
end

section
/-! SUPPORT. The flash field of an engine and the toll gate: how an operation is queued, starts, and returns its tokens (R386, R387, R499). -/

namespace Sys2Proof.Machine

/-! ## An operation starts -/

/-- From `a` to `b` no engine changed and no flash operation came or went: they start, are suspended, or take tokens at most. -/
structure OpsGoOn (a b : Device) : Prop where
  eng : b.eng = a.eng
  nextOp : b.media.nextOp = a.media.nextOp
  ops : ∃ f : FlashOp → FlashOp, b.media.ops = a.media.ops.map f ∧ ∀ x, ∃ started at_ susp n,
    f x = { x with started := started, startedAt := at_, suspended := susp, suspensions := n } ∧ (x.started = true → started = true)

theorem OpsGoOn.of_same {a b : Device} (he : b.eng = a.eng) (hm : b.media = a.media) : OpsGoOn a b :=
  ⟨he, by rw [hm], id, by rw [hm, List.map_id], fun x => ⟨_, _, _, _, rfl, fun h => h⟩⟩

theorem OpsGoOn.trans {a b c : Device} (h : OpsGoOn a b) (k : OpsGoOn b c) : OpsGoOn a c := by
  obtain ⟨f, hf, hs⟩ := h.ops
  obtain ⟨g, hg, ks⟩ := k.ops
  refine ⟨k.eng.trans h.eng, k.nextOp.trans h.nextOp, g ∘ f, by rw [hg, hf, List.map_map], fun x => ?_⟩
  obtain ⟨s, t, u, n, hx, hst⟩ := hs x
  obtain ⟨s', t', u', n', kx, kst⟩ := ks (f x)
  refine ⟨s', t', u', n', ?_, fun h => kst (by rw [hx]; exact hst h)⟩
  rw [Function.comp_apply, kx, hx]

/-- Every operation of number `id` has started. -/
def OpStarted (id : Nat) (d : Device) : Prop := ∀ x ∈ d.media.ops, x.id = id → x.started = true

theorem OpsGoOn.started {a b : Device} (h : OpsGoOn a b) {id : Nat} (ha : OpStarted id a) : OpStarted id b := by
  obtain ⟨f, hf, hs⟩ := h.ops
  intro x hx hi
  rw [hf] at hx
  obtain ⟨y, hy, rfl⟩ := List.mem_map.1 hx
  obtain ⟨s, t, u, n, hfy, hst⟩ := hs y
  rw [hfy] at hi ⊢
  exact hst (ha y hy hi)

/-- The erase or program on the LUN of a read that starts is suspended. -/
def opSuspends (o : FlashOp) (d : Device) : Device :=
  match o.kind.isRead, busyOn o.desc d with
  | true, some x => onOp x.id (fun x => { x with suspended := true, suspensions := x.suspensions + 1 }) d
  | _, _ => d

/-- A started operation's command goes to the die. -/
def opIssued (o : FlashOp) (d : Device) : Device :=
  match o.kind with
  | .program =>
    let d := nextWriteSeq o.desc d
    match stripeOf o.stripe d with
    | none => emit (.flash 1 o.desc 0 []) d
    | some st =>
      let mv := (moveOf o.stripe o.member d).map (·.old)
      let temp := d.media.temps.getD (o.desc.channel / 8) 0
      let stripes := d.stripe.stripes.map fun s =>
        if s.id == o.stripe then { s with members := modNth s.members o.member fun m => { m with temp := temp } } else s
      let d := { d with stripe := { d.stripe with stripes := stripes } }
      emit (.flash 1 o.desc 0 (mediaBytes o.desc (unitOf st o.member d) (pageHeader st o.member o.desc mv d) d)) d
  | .erase => emit (.flash 2 o.desc 0 []) d
  | _ => emitReads o d

def opStarts (now : Nat) (o : FlashOp) (d : Device) : Device := onOp o.id (fun x => { x with started := true, startedAt := now }) d

theorem startOp_eq (o : FlashOp) (d : Device) : ∃ v, v.eng = d.eng ∧ v.media = d.media ∧
    startOp o d = opIssued o (opStarts (opSuspends o v).time.now o (opSuspends o v)) := by
  refine ⟨if oversize o d then odBump 0x3460 0x13 1 d else d, ?_, ?_, rfl⟩
  · split_ifs <;> rfl
  · split_ifs <;> rfl

theorem opSuspends_goesOn (o : FlashOp) (d : Device) : OpsGoOn d (opSuspends o d) := by
  unfold opSuspends
  split
  · refine ⟨rfl, rfl, _, rfl, fun x => ?_⟩
    split_ifs
    · exact ⟨_, _, _, _, rfl, fun h => h⟩
    · exact ⟨_, _, _, _, rfl, fun h => h⟩
  · exact .of_same rfl rfl

theorem opStarts_goesOn (now : Nat) (o : FlashOp) (d : Device) : OpsGoOn d (opStarts now o d) := by
  refine ⟨rfl, rfl, _, rfl, fun x => ?_⟩
  split_ifs
  · exact ⟨_, _, _, _, rfl, fun _ => rfl⟩
  · exact ⟨_, _, _, _, rfl, fun h => h⟩

theorem opStarts_started (now : Nat) (o : FlashOp) (d : Device) : OpStarted o.id (opStarts now o d) := by
  intro x hx hi
  obtain ⟨y, -, rfl⟩ := List.mem_map.1 hx
  by_cases h : (y.id == o.id) = true
  · rw [if_pos h]
  · rw [if_neg h] at hi
    exact absurd (beq_iff_eq.2 hi) h

theorem emitReads_eng (o : FlashOp) (d : Device) : (emitReads o d).eng = d.eng := by
  obtain ⟨sec, h⟩ := emitReads_eq o d
  rw [h]

theorem opIssued_goesOn (o : FlashOp) (d : Device) : OpsGoOn d (opIssued o d) := by
  unfold opIssued
  split
  · dsimp only
    split
    · exact .of_same rfl rfl
    · exact .of_same rfl rfl
  · exact .of_same rfl rfl
  · exact .of_same (emitReads_eng o d) (emitReads_media o d)

theorem startOp_goesOn (o : FlashOp) (d : Device) : OpsGoOn d (startOp o d) ∧ OpStarted o.id (startOp o d) := by
  obtain ⟨v, he, hm, h⟩ := startOp_eq o d
  rw [h]
  have raised := ((OpsGoOn.of_same he hm).trans (opSuspends_goesOn o v)).trans (opStarts_goesOn (opSuspends o v).time.now o _)
  exact ⟨raised.trans (opIssued_goesOn ..), (opIssued_goesOn ..).started (opStarts_started _ _ _)⟩

theorem tryStart_goesOn (id : Nat) (d : Device) : OpsGoOn d (tryStart id d) := by
  unfold tryStart
  split
  · exact .of_same rfl rfl
  · split_ifs
    · exact (startOp_goesOn ..).1
    · exact .of_same rfl rfl

/-! ## An operation is queued -/

theorem queueOp_queues (o : FlashOp) (d : Device) : (queueOp o d).eng = d.eng ∧ (queueOp o d).media.nextOp = d.media.nextOp + 1 ∧
    ∃ x ∈ (queueOp o d).media.ops, ∃ started at_ susp n, x = { o with
      id := d.media.nextOp, tokens := opTokens o.kind o.desc d, started := started, startedAt := at_, suspended := susp, suspensions := n } := by
  rw [queueOp_eq]
  obtain ⟨he, hn, f, hf, hs⟩ := tryStart_goesOn d.media.nextOp (opQueued o d)
  obtain ⟨s, t, u, n, hx, -⟩ := hs { o with id := d.media.nextOp, tokens := opTokens o.kind o.desc d, startedAt := d.time.now }
  refine ⟨he, hn, _, ?_, s, t, u, n, hx⟩
  rw [hf]
  exact List.mem_map_of_mem (List.mem_append_right _ List.mem_cons_self)

/-- An engine holds the tokens of its operation where that has started. -/
def tokensHeld (e id : Nat) (d : Device) : Device :=
  if (opOf id d).any (·.started) then engineCond e 25 true (onEngine e (fun x => { x with tokens := ((opOf id d).map (·.tokens)).getD 0 }) d)
  else d

theorem tokensHeld_keeps {e : Nat} (id : Nat) {d : Device} (he : e < d.eng.engines.length) :
    (tokensHeld e id d).media = d.media ∧ (engineOf e (tokensHeld e id d)).flash = (engineOf e d).flash := by
  unfold tokensHeld
  split_ifs
  · exact ⟨rfl, by rw [engineCond, onEngine_onEngine, engineOf_onEngine _ he]⟩
  · exact ⟨rfl, rfl⟩

/-! ## The words of the flash field -/

theorem curDesc_onEngine {e : Nat} {k : Engine → Engine} {d : Device} (he : e < d.eng.engines.length) (hk : ∀ x, (k x).ctx = x.ctx) :
    curDesc e (onEngine e k d) = curDesc e d := by rw [curDesc, engineOf_onEngine _ he, hk, curDesc]

/-- The engine of a flash read at `step`: conditions 23 to 25 are clear. -/
def readAsked (step : Nat) (x : Engine) : Engine :=
  { x with conds := setBit (setBit (setBit x.conds 23 false) 24 false) 25 false, flashStep := step }

theorem readAsked_eq (e step : Nat) (d : Device) :
    onEngine e (fun x => { x with flashStep := step }) (setConds e [(23, false), (24, false), (25, false)] d) = onEngine e (readAsked step) d := by
  rw [setConds_triple, onEngine_onEngine]
  rfl

/-- The operation of an engine's read. -/
def engineReadOp (e a step : Nat) (deep : Bool) (d : Device) : FlashOp :=
  let place := (memberAt (memberOf (reg e a d)) d).map fun r => (r.1.id, r.2)
  { blankOp (readKind (curDesc e d).opcode) (memberOf (reg e a d)) with
    stripe := (place.map (·.1)).getD 0, member := (place.map (·.2)).getD 0xFF, step := step, deep := deep, engine := some e }

theorem engineRead_queues {e : Nat} (a step : Nat) (deep : Bool) {d : Device} (he : e < d.eng.engines.length) (hop : engineOp e d = none)
    (ho : ownsChannel (memberOf (reg e a d)).channel d = true) : engineRead e a step deep d = tokensHeld e d.media.nextOp
      (queueOp (engineReadOp e a step deep d) (onEngine e (fun x => { readAsked step x with flash := some d.media.nextOp }) d)) := by
  have hown : ¬ (!ownsChannel (memberOf (reg e a d)).channel (onEngine e (readAsked step) d)) = true := by
    rw [show ownsChannel (memberOf (reg e a d)).channel (onEngine e (readAsked step) d) = true from ho]
    decide
  rw [engineRead, hop, if_neg (by decide)]
  dsimp only
  rw [readAsked_eq, if_neg hown, onEngine_onEngine, curDesc_onEngine (k := readAsked step) he fun _ => rfl]
  rfl

theorem engineRead_foreign {e : Nat} (a step : Nat) (deep : Bool) {d : Device} (he : e < d.eng.engines.length) (hop : engineOp e d = none)
    (ho : ownsChannel (memberOf (reg e a d)).channel d = false) : let t := engineRead e a step deep d
    bit (engineOf e t).conds 23 = true ∧ bit (engineOf e t).conds 24 = true ∧ t.media = d.media := by
  have hown : (!ownsChannel (memberOf (reg e a d)).channel (onEngine e (readAsked step) d)) = true := by
    rw [show ownsChannel (memberOf (reg e a d)).channel (onEngine e (readAsked step) d) = false from ho]
    rfl
  have h : engineRead e a step deep d = setConds e [(23, true), (24, true)] (onEngine e (readAsked step) d) := by
    rw [engineRead, hop, if_neg (by decide)]
    dsimp only
    rw [readAsked_eq, if_pos hown]
  dsimp only
  rw [h, setConds_pair, onEngine_onEngine, engineOf_onEngine _ he]
  exact ⟨(bit_setBit_other _ _ _ _ (by decide)).trans (bit_setBit_same ..), bit_setBit_same .., rfl⟩

/-- One read of the engine at `step` waits in its queue or has started. -/
theorem engineRead_gives {e : Nat} (a step : Nat) (deep : Bool) {d : Device} (he : e < d.eng.engines.length) (hop : engineOp e d = none)
    (ho : ownsChannel (memberOf (reg e a d)).channel d = true) : let t := engineRead e a step deep d
    (engineOf e t).flash = some d.media.nextOp ∧ t.media.nextOp = d.media.nextOp + 1 ∧ ∃ o ∈ t.media.ops,
      o.id = d.media.nextOp ∧ o.kind = readKind (curDesc e d).opcode ∧ o.desc = memberOf (reg e a d) ∧ o.step = step ∧ o.deep = deep ∧
        o.engine = some e := by
  dsimp only
  rw [engineRead_queues a step deep he hop ho]
  obtain ⟨heng, hnext, x, hx, s, t, u, n, rfl⟩ := queueOp_queues (engineReadOp e a step deep d)
    (onEngine e (fun x => { readAsked step x with flash := some d.media.nextOp }) d)
  obtain ⟨hm, hf⟩ := tokensHeld_keeps (e := e) d.media.nextOp (by rw [heng, engines_length_onEngine]; exact he)
  rw [hf, hm, engineOf_of_eng heng, engineOf_onEngine _ he]
  exact ⟨rfl, hnext, _, hx, rfl, rfl, rfl, rfl, rfl, rfl⟩

theorem memberAt_member {m : MemberDesc} {st : Stripe} {n : Nat} {d : Device} (h : memberAt m d = some (st, n)) :
    ∃ x, st.members[n]? = some x := by
  obtain ⟨s, -, hs⟩ := List.exists_of_findSome?_eq_some h
  obtain ⟨i, hi, he⟩ := Option.map_eq_some_iff.1 hs
  obtain ⟨rfl, rfl⟩ := Prod.mk.inj he
  have hp := List.find?_some hi
  cases hx : s.members[i]? with
  | none => rw [hx] at hp; exact absurd hp Bool.false_ne_true
  | some x => exact ⟨x, rfl⟩

/-- The program of member `n` of stripe `id` at `dest`. -/
def memberProgram (id n : Nat) (reclaim : Bool) (dest : MemberDesc) : FlashOp :=
  { blankOp .program dest with stripe := id, member := n, reclaim := reclaim }

theorem programMember_queues {id n : Nat} {st : Stripe} {x : Member} {d : Device} (hs : stripeOf id d = some st) (hx : st.members[n]? = some x)
    (reclaim : Bool) : programMember id n reclaim d = queueOp (memberProgram id n reclaim (((moveOf id n d).map (·.new)).getD x.desc))
      (onMember id n (fun y => { y with issued := true }) d) := by
  unfold programMember
  rw [hs, Option.bind_some, hx]
  rfl

theorem mem_onOp {id : Nat} {x : FlashOp} {d : Device} (hx : x ∈ d.media.ops) (hi : x.id = id) (f : FlashOp → FlashOp) :
    f x ∈ (onOp id f d).media.ops :=
  List.mem_map.2 ⟨x, hx, if_pos (beq_iff_eq.2 hi)⟩

/-- The engine of a program of operation `id`. -/
def programAsked (id : Nat) (x : Engine) : Engine :=
  { x with flash := some id, conds := setBit (setBit (setBit x.conds 23 false) 24 false) 25 false }

theorem engineProgram_gives {e a n : Nat} {st : Stripe} {d : Device} (he : e < d.eng.engines.length) (hop : engineOp e d = none)
    (hm : memberAt (memberOf (reg e a d)) d = some (st, n)) (hs : stripeOf st.id d = some st) : let t := engineProgram e a d
    (engineOf e t).flash = some d.media.nextOp ∧ ∃ o ∈ t.media.ops,
      o.id = d.media.nextOp ∧ o.kind = .program ∧ o.stripe = st.id ∧ o.member = n ∧ o.engine = some e := by
  obtain ⟨x, hx⟩ := memberAt_member hm
  have hv : setConds e [(23, false), (24, false), (25, false)] (onEngine e (fun x => { x with flash := some d.media.nextOp }) d) =
      onEngine e (programAsked d.media.nextOp) d := by
    rw [setConds_triple, onEngine_onEngine]
    rfl
  generalize hk : onEngine e (programAsked d.media.nextOp) d = v at hv
  have hs' : stripeOf st.id v = some st := by rw [← hk]; exact hs
  have hn : v.media.nextOp = d.media.nextOp := by rw [← hk]; rfl
  have h : engineProgram e a d = tokensHeld e d.media.nextOp (onOp d.media.nextOp (fun o => { o with engine := some e })
      (programMember st.id n false v)) := by
    rw [← hv, engineProgram, hop, if_neg (by decide), hm]
    rfl
  dsimp only
  rw [h, programMember_queues hs' hx]
  generalize hop : memberProgram _ _ _ _ = o
  obtain ⟨heng, -, y, hy, s, t, u, w, rfl⟩ := queueOp_queues o (onMember st.id n (fun y => { y with issued := true }) v)
  generalize queueOp _ _ = q at heng hy
  have hq : (onOp d.media.nextOp (fun o => { o with engine := some e }) q).eng = v.eng := heng
  obtain ⟨hmedia, hf⟩ := tokensHeld_keeps (e := e) d.media.nextOp
    (by rw [hq, ← hk, engines_length_onEngine]; exact he : e < (onOp d.media.nextOp (fun o => { o with engine := some e }) q).eng.engines.length)
  rw [hf, hmedia]
  refine ⟨?_, _, mem_onOp hy hn _, ?_⟩
  · rw [engineOf_of_eng hq, ← hk, engineOf_onEngine _ he]
    rfl
  · rw [← hop]
    exact ⟨hn, rfl, rfl, rfl, rfl⟩

theorem engineProgram_strange {e a : Nat} {d : Device} (he : e < d.eng.engines.length) (hop : engineOp e d = none)
    (hm : memberAt (memberOf (reg e a d)) d = none) :
    bit (engineOf e (engineProgram e a d)).conds 23 = true ∧ bit (engineOf e (engineProgram e a d)).conds 24 = false := by
  have h : engineProgram e a d = setConds e [(23, true), (24, false)] d := by rw [engineProgram, hop, if_neg (by decide), hm]
  rw [h, setConds_pair, engineOf_onEngine _ he]
  exact ⟨(bit_setBit_other _ _ _ _ (by decide)).trans (bit_setBit_same ..), bit_setBit_same ..⟩

/-! ## Tokens -/

theorem grantTokens_starts {id : Nat} {o : FlashOp} {d : Device} (ho : opOf id d = some o) (hs : o.started = false) (hm : mayStart o d = true) :
    grantTokens id d = match o.engine with
      | some e => onEngine e (fun x => { x with tokens := o.tokens, conds := setBit x.conds 25 true }) (startOp o d)
      | none => startOp o d := by
  unfold grantTokens
  rw [ho]
  dsimp only
  rw [if_neg (by rw [hs, hm]; decide)]
  cases o.engine with
  | none => rfl
  | some e => exact onEngine_onEngine ..

theorem opOf_id {id : Nat} {o : FlashOp} {d : Device} (h : opOf id d = some o) : o.id = id :=
  beq_iff_eq.1 (List.find?_some (p := fun x : FlashOp => x.id == id) h)

theorem engineOp_opOf {e : Nat} {o : FlashOp} {d : Device} (h : engineOp e d = some o) : opOf o.id d = some o := by
  obtain ⟨id, -, h⟩ := Option.bind_eq_some_iff.1 h
  rwa [opOf_id h]

/-- The waiting operation of an engine that may start receives its tokens. -/
theorem grantTokens_engine {e : Nat} {o : FlashOp} {d : Device} (he : e < d.eng.engines.length) (ho : opOf o.id d = some o)
    (hs : o.started = false) (hoe : o.engine = some e) (hm : mayStart o d = true) : let t := grantTokens o.id d
    (engineOf e t).tokens = o.tokens ∧ bit (engineOf e t).conds 25 = true ∧ ∀ x ∈ t.media.ops, x.id = o.id → x.started = true := by
  obtain ⟨hgo, hst⟩ := startOp_goesOn o d
  have h := grantTokens_starts ho hs hm
  rw [hoe] at h
  dsimp only at h ⊢
  rw [h, engineOf_onEngine _ (by rw [hgo.eng]; exact he)]
  exact ⟨rfl, bit_setBit_same .., hst⟩

theorem tollRequest_grants {e : Nat} {o : FlashOp} {d : Device} (ho : engineOp e d = some o) (hs : o.started = false) {read : Bool}
    (hk : o.kind.isRead = read) : tollRequest e read d = grantTokens o.id d := by
  unfold tollRequest
  rw [ho]
  exact if_pos (by rw [hk, hs, beq_self_eq_true]; rfl)

/-- The operation of engine `e` without its tokens. -/
def tokensReturned (e : Nat) (d : Device) : Device :=
  match engineOp e d with
  | some o => onOp o.id (fun o => { o with tokens := 0 }) d
  | none => d

theorem tokensReturned_eng (e : Nat) (d : Device) : (tokensReturned e d).eng = d.eng := by
  unfold tokensReturned
  split <;> rfl

theorem tokensReturned_tokens {e : Nat} {o : FlashOp} {d : Device} (h : engineOp e d = some o) :
    ∀ x ∈ (tokensReturned e d).media.ops, x.id = o.id → x.tokens = 0 := by
  unfold tokensReturned
  rw [h]
  intro x hx hi
  obtain ⟨y, -, rfl⟩ := List.mem_map.1 hx
  by_cases hy : (y.id == o.id) = true
  · rw [if_pos hy]
  · rw [if_neg hy] at hi
    exact absurd (beq_iff_eq.2 hi) hy

/-- Settles O21: a read and a program by the operation that they queue, the toll words by `grantTokens_engine`. -/
theorem engineFlash : Obligations.EngineFlash := by
  unfold Obligations.EngineFlash
  intro s e a hr
  have he := hr.2.1
  have reads : ∀ {c : Instr} {step : Nat} {deep : Bool}, engineOp e s.dev = none → exec c s = next s (word e (engineRead e a step deep)) →
      (ownsChannel (memberOf (reg e a s.dev)).channel s.dev = true → Gives c s fun t =>
        (engineOf e t).flash = some s.dev.media.nextOp ∧ t.media.nextOp = s.dev.media.nextOp + 1 ∧ ∃ o ∈ t.media.ops,
          o.id = s.dev.media.nextOp ∧ o.kind = readKind (curDesc e s.dev).opcode ∧ o.desc = memberOf (reg e a s.dev) ∧ o.step = step ∧
            o.deep = deep ∧ o.engine = some e) ∧
      (ownsChannel (memberOf (reg e a s.dev)).channel s.dev = false → Gives c s fun t =>
        bit (engineOf e t).conds 23 = true ∧ bit (engineOf e t).conds 24 = true ∧ t.media = s.dev.media) :=
    fun hop hx => ⟨fun ho => gives_of_eq (exec_word hr hx) (engineRead_gives a _ _ he hop ho),
      fun ho => gives_of_eq (exec_word hr hx) (engineRead_foreign a _ _ he hop ho)⟩
  refine ⟨fun hop => ⟨reads hop rfl, ?next, reads hop rfl, fun st n hm hs => ?program, fun hm => ?strange⟩,
    fun o ho hs hoe hmay => ⟨fun hk => ?readToll, fun hk => ?programToll⟩, fun o ho hs hoe hmay => ?granted, ?returned⟩
  case next =>
    refine reads hop ?_
    exact (exec_word (c := .flashReadNextStep e a) hr rfl).trans (next_congr (word_runs _ hr).symm)
  case program => exact gives_of_eq (exec_word (c := .flashProgram e a) hr rfl) (engineProgram_gives he hop hm hs)
  case strange => exact gives_of_eq (exec_word (c := .flashProgram e a) hr rfl) (engineProgram_strange he hop hm)
  case readToll =>
    refine gives_of_eq (exec_word (c := .tollRequestRead e) hr rfl) ?_
    rw [tollRequest_grants ho hs hk]
    exact grantTokens_engine he (engineOp_opOf ho) hs hoe hmay
  case programToll =>
    refine gives_of_eq (exec_word (c := .tollRequestProgram e) hr rfl) ?_
    rw [tollRequest_grants ho hs hk]
    exact grantTokens_engine he (engineOp_opOf ho) hs hoe hmay
  case granted =>
    refine gives_of_eq (f := grantTokens o.id) rfl ?_
    have h := grantTokens_starts ho hs hmay
    rw [hoe] at h
    rw [h]
    exact (startOp_goesOn o s.dev).2
  case returned =>
    have hx : exec (.tollReturn e) s = next s fun d =>
        onEngine e (fun x => { x with tokens := 0, conds := setBit x.conds 25 false }) (tokensReturned e d) :=
      (exec_word (c := .tollReturn e) hr rfl).trans (next_congr (onEngine_onEngine ..))
    refine gives_of_eq hx ?_
    rw [engineOf_onEngine _ (by rw [tokensReturned_eng]; exact he)]
    exact ⟨rfl, bit_setBit_same .., fun o ho => tokensReturned_tokens ho⟩

end Sys2Proof.Machine
end

section
/-! SUPPORT. The search and claim fields of an engine (R226, R235, R239, R499) and the throttle steps of the search engine (R236, R237). -/

namespace Sys2Proof.Machine

/-! ## Searches -/

theorem le_foldl_max (l : List Nat) (a : Nat) : a ≤ l.foldl max a ∧ ∀ x ∈ l, x ≤ l.foldl max a := by
  induction l generalizing a with
  | nil => exact ⟨le_rfl, fun x hx => by cases hx⟩
  | cons y l ih =>
    obtain ⟨h1, h2⟩ := ih (max a y)
    refine ⟨(le_max_left a y).trans h1, fun x hx => ?_⟩
    rcases List.mem_cons.1 hx with rfl | hx
    · exact (le_max_right a x).trans h1
    · exact h2 x hx

/-- The number of the next search: no search that waits has it. -/
def nextSearchId (d : Device) : Nat := (d.cam.queue.map (·.id)).foldl max 0 + 1

theorem nextSearchId_new (d : Device) : ∀ r ∈ d.cam.queue, r.id ≠ nextSearchId d := by
  intro r hr h
  have := (le_foldl_max (d.cam.queue.map (·.id)) 0).2 _ (List.mem_map_of_mem hr)
  rw [h, nextSearchId] at this
  omega

theorem queueSearch_queues (cls part key : Nat) (engine : Option Nat) (d : Device) :
    (queueSearch cls part key engine d).cam.queue = d.cam.queue ++ [⟨nextSearchId d, cls, part, key, engine⟩] ∧
      (queueSearch cls part key engine d).eng = d.eng := by
  unfold queueSearch
  dsimp only
  split_ifs <;> exact ⟨rfl, rfl⟩

/-- Engine `x` with its search `id` under way. -/
def searchesFor (id : Nat) (x : Engine) : Engine :=
  { x with search := some id, conds := setBit (setBit (setBit x.conds 18 false) 19 false) 20 false }

theorem engineSearch_gives {e buf cls : Nat} {d : Device} (he : e < d.eng.engines.length) :
    (engineSearch e buf cls d).cam.queue = d.cam.queue ++ [⟨nextSearchId d, cls, 0, leAt (bufBytes e buf d) 0 20, some e⟩] ∧
      engineOf e (engineSearch e buf cls d) = searchesFor (nextSearchId d) (engineOf e d) := by
  obtain ⟨hq, heng⟩ := queueSearch_queues cls 0 (leAt (bufBytes e buf d) 0 20) (some e) (odBump 0x2B00 2 1 d)
  have heng' : (queueSearch cls 0 (leAt (bufBytes e buf d) 0 20) (some e) (odBump 0x2B00 2 1 d)).eng = d.eng := heng
  unfold engineSearch
  generalize queueSearch _ _ _ _ _ = u at hq heng'
  dsimp only
  rw [setConds_triple, onEngine_onEngine, hq, List.getLast?_append, engineOf_onEngine _ (by rw [heng']; exact he), engineOf_of_eng heng']
  exact ⟨hq, rfl⟩

theorem hotSearch_queues {e buf : Nat} {d : Device} (h : hotDiverted d = false) : hotSearch e buf d = engineSearch e buf 4 d := by
  rw [hotSearch, if_neg (by rw [h]; decide)]

theorem hotSearch_misses {e buf : Nat} {d : Device} (h : hotDiverted d = true) (he : e < d.eng.engines.length) : let t := hotSearch e buf d
    bit (engineOf e t).conds 18 = true ∧ bit (engineOf e t).conds 19 = false ∧ bit (engineOf e t).conds 20 = true ∧ t.cam = d.cam := by
  have ht : hotSearch e buf d = onEngine e (fun x => { x with conds := setBit (setBit (setBit x.conds 18 true) 19 false) 20 true })
      (odBump 0x2B00 3 1 d) := by rw [hotSearch, if_pos h, setConds_triple]
  dsimp only
  rw [ht, engineOf_onEngine _ (show e < (odBump 0x2B00 3 1 d).eng.engines.length from he)]
  refine ⟨?_, ?_, bit_setBit_same .., rfl⟩
  · exact (bit_setBit_other _ _ _ _ (by decide)).trans ((bit_setBit_other _ _ _ _ (by decide)).trans (bit_setBit_same ..))
  · exact (bit_setBit_other _ _ _ _ (by decide)).trans (bit_setBit_same ..)

/-! ## Claims -/

/-- The engine after CLAIM: conditions 26 to 28 are clear. -/
def claimAsked (x : Engine) : Engine := { x with conds := setBit (setBit (setBit x.conds 26 false) 27 false) 28 false }

theorem curItem_onEngine {e : Nat} {k : Engine → Engine} {d : Device} (he : e < d.eng.engines.length) (hk : ∀ x, (k x).ctx = x.ctx) :
    curItem e (onEngine e k d) = curItem e d := by
  simp only [curItem, engineOf_onEngine _ he, hk]
  rfl

theorem msgClaim_adds {e n : Nat} {c : Cmd} {i : Item} {d : Device} (he : e < d.eng.engines.length) (hi : curItem e d = some (c, n, i))
    (hr : i.reduced = false) (hc : (engineOf e d).chunker.chunk ≠ []) :
    msgClaim e d = settle (addChunk c.id n (engineOf e d).chunker.chunk (onEngine e claimAsked d)) := by
  have hv : setConds e [(26, false), (27, false), (28, false)] d = onEngine e claimAsked d := setConds_triple ..
  have hk : (engineOf e (onEngine e claimAsked d)).chunker = (engineOf e d).chunker := by rw [engineOf_onEngine _ he]; rfl
  unfold msgClaim
  rw [hv]
  dsimp only
  rw [curItem_onEngine (k := claimAsked) he fun _ => rfl, hi]
  dsimp only
  rw [hk, if_neg (by simp [hr, hc])]

/-- Chunk `k` of item `n` of command `id` is claimed no more. -/
def claimDropped (id n k : Nat) (d : Device) : Device :=
  onChunk id n k (fun w => { w with claimed := false, copy := none, isNew := false, present := false, claim := none }) d

theorem claimDropped_free (id n k : Nat) (d : Device) : ∀ x ∈ (claimDropped id n k d).nvme.cmds, x.id = id →
    ∀ j, x.items[n]? = some j → ∀ y, j.chunks[k]? = some y → y.claimed = false ∧ y.copy = none := by
  intro x hx hi j hj y hy
  obtain ⟨c, -, rfl⟩ := List.mem_map.1 hx
  by_cases hc : (c.id == id) = true
  · rw [if_pos hc] at hj
    obtain ⟨m, -, rfl⟩ := Option.map_eq_some_iff.1 ((List.getElem?_modify_eq ..).symm.trans hj)
    obtain ⟨w, -, rfl⟩ := Option.map_eq_some_iff.1 ((List.getElem?_modify_eq ..).symm.trans hy)
    exact ⟨rfl, rfl⟩
  · rw [if_neg hc] at hi
    exact absurd (beq_iff_eq.2 hi) hc

/-- The digest in ports 1 to 4. -/
def portDigest (e : Nat) (d : Device) : Bytes := (((engineOf e d).ports.drop 1).take 4).flatMap fun p => leBytes 8 p

theorem msgRelease_drops {e n k : Nat} {c : Cmd} {i : Item} {w : WorkChunk} {d : Device} (hi : curItem e d = some (c, n, i))
    (hf : (i.chunks.zipIdx.find? fun x => x.1.fp == portDigest e d && x.1.claimed && !x.1.stored) = some (w, k)) :
    msgRelease e d = releaseClaim i.domain (portDigest e d) (w.copy.getD 0) c.id w.claim (claimDropped c.id n k d) := by
  have hw : w.fp = portDigest e d := by
    have hp := List.find?_some hf
    simp only [Bool.and_eq_true, beq_iff_eq] at hp
    exact hp.1.1
  unfold msgRelease
  rw [hi]
  dsimp only
  rw [show (((engineOf e d).ports.drop 1).take 4).flatMap (fun p => leBytes 8 p) = portDigest e d from rfl, hf]
  dsimp only
  rw [hw]
  rfl

/-! ## Throttle steps -/

theorem Spoke.cam {a b : Device} (h : Spoke a b) : b.cam = a.cam := by
  obtain ⟨_, _, _, _, _, _, rfl, -⟩ := h
  rfl

/-- Throttle step `st` taken at `temp`, and logged. -/
def stepTaken (temp : Int) (st : Nat) (d : Device) : Device :=
  logEvent 0x0801 0x0020 1 (toUnsigned 2 temp * 256 + st) (odPut 0x2B00 0x01 st
    { odPutInt 0x2010 0x03 2 temp d with cam := { d.cam with step := st }, power := { d.power with throttle := st } })

theorem stepTaken_step (temp : Int) (st : Nat) (d : Device) :
    (stepTaken temp st d).cam.step = st ∧ (stepTaken temp st d).power.throttle = st := by
  have h := logEvent_spoke 0x0801 0x0020 1 (toUnsigned 2 temp * 256 + st) (odPut 0x2B00 0x01 st
    { odPutInt 0x2010 0x03 2 temp d with cam := { d.cam with step := st }, power := { d.power with throttle := st } })
  rw [stepTaken, h.cam, h.power]
  exact ⟨rfl, rfl⟩

theorem takeStep_same {temp : Int} {d : Device} (h : nextStep temp 5 d.cam.step = d.cam.step) : takeStep temp d = odPutInt 0x2010 0x03 2 temp d :=
  if_pos (by rw [beq_iff_eq]; exact h)

theorem takeStep_takes {temp : Int} {d : Device} (h : nextStep temp 5 d.cam.step ≠ d.cam.step) :
    takeStep temp d = if d.cam.step < nextStep temp 5 d.cam.step then raiseEmcy 0x080100 0x4200 0x0801 (stepTaken temp (nextStep temp 5 d.cam.step) d)
      else if nextStep temp 5 d.cam.step == 0 then clearEmcy 0x080100 0x0801 (stepTaken temp (nextStep temp 5 d.cam.step) d)
      else stepTaken temp (nextStep temp 5 d.cam.step) d :=
  if_neg (by rw [beq_iff_eq]; exact h)

theorem takeStep_gives (temp : Int) (d : Device) : (takeStep temp d).cam.step = nextStep temp 5 d.cam.step ∧
    (nextStep temp 5 d.cam.step ≠ d.cam.step → (takeStep temp d).power.throttle = (takeStep temp d).cam.step ∧
      Logged 0x0801 0x0020 1 (toUnsigned 2 temp * 256 + (takeStep temp d).cam.step) (takeStep temp d)) := by
  by_cases h : nextStep temp 5 d.cam.step = d.cam.step
  · rw [takeStep_same h]
    exact ⟨h.symm, fun hn => absurd h hn⟩
  · obtain ⟨hstep, hthrottle⟩ := stepTaken_step temp (nextStep temp 5 d.cam.step) d
    rw [takeStep_takes h]
    split_ifs
    · have hs := raiseEmcy_spoke 0x080100 0x4200 0x0801 (stepTaken temp (nextStep temp 5 d.cam.step) d)
      rw [hs.cam, hs.power, hstep, hthrottle]
      exact ⟨rfl, fun _ => ⟨rfl, raiseEmcy_logged ..⟩⟩
    · have hs := clearEmcy_spoke 0x080100 0x0801 (stepTaken temp (nextStep temp 5 d.cam.step) d)
      rw [hs.cam, hs.power, hstep, hthrottle]
      exact ⟨rfl, fun _ => ⟨rfl, clearEmcy_logged ..⟩⟩
    · rw [hstep, hthrottle]
      exact ⟨rfl, fun _ => ⟨rfl, logEvent_logged ..⟩⟩

/-- Settles O22: searches by `engineSearch_gives`, claims by the device that settles next, the throttle by `takeStep_gives`. -/
theorem engineSearchAndClaims : Obligations.EngineSearchAndClaims := by
  unfold Obligations.EngineSearchAndClaims
  intro s e buf hr
  have he := hr.2.1
  have hlen : e < (selBuf e buf s.dev).eng.engines.length := by rw [selBuf_eq, engines_length_onEngine]; exact he
  have searches : ∀ {c : Instr} {cls : Nat}, exec c s = (next s fun d => engineSearch e buf cls (selBuf e buf d)) → Gives c s fun t =>
      ∃ id, t.cam.queue = s.dev.cam.queue ++ [⟨id, cls, 0, leAt (bufBytes e buf s.dev) 0 20, some e⟩] ∧
        (∀ r ∈ s.dev.cam.queue, r.id ≠ id) ∧ (engineOf e t).search = some id ∧ bit (engineOf e t).conds 18 = false ∧
        bit (engineOf e t).conds 19 = false ∧ bit (engineOf e t).conds 20 = false := fun {c cls} hx => by
    obtain ⟨hq, heng⟩ := engineSearch_gives (buf := buf) (cls := cls) hlen
    rw [bufBytes_selBuf buf buf he] at hq
    refine gives_of_eq hx ⟨nextSearchId s.dev, hq, nextSearchId_new s.dev, ?_⟩
    rw [heng]
    refine ⟨rfl, ?_, ?_, bit_setBit_same _ 20 false⟩
    · exact (bit_setBit_other _ _ _ _ (by decide)).trans ((bit_setBit_other _ _ _ _ (by decide)).trans (bit_setBit_same _ 18 false))
    · exact (bit_setBit_other _ _ _ _ (by decide)).trans (bit_setBit_same _ 19 false)
  refine ⟨searches (exec_bufWord hr rfl), searches (exec_bufWord hr rfl), fun hd => ?hot, fun hd => ?diverted,
    fun c n i hi => ⟨fun hred hc => ?claim, fun w k hf => ?release⟩, fun c n i k w hk => ?present, fun temp => ?throttle⟩
  case hot => exact searches ((exec_bufWord (c := .hotSetSearch e buf) hr rfl).trans (next_congr (hotSearch_queues hd)))
  case diverted => exact gives_of_eq (exec_bufWord (c := .hotSetSearch e buf) hr rfl) (hotSearch_misses (d := selBuf e buf s.dev) hd hlen)
  case claim =>
    refine leads_of_eq (exec_word (c := .msgClaim e) hr rfl) (msgClaim_adds he hi hred hc) ⟨onlyEngine_onEngine _ he, ?_⟩
    rw [engineOf_onEngine _ he]
    refine ⟨?_, ?_, bit_setBit_same _ 28 false⟩
    · exact (bit_setBit_other _ _ _ _ (by decide)).trans ((bit_setBit_other _ _ _ _ (by decide)).trans (bit_setBit_same _ 26 false))
    · exact (bit_setBit_other _ _ _ _ (by decide)).trans (bit_setBit_same _ 27 false)
  case release =>
    exact leads_of_eq (exec_word (c := .msgRelease e) hr rfl) (msgRelease_drops hi hf) (claimDropped_free c.id n k s.dev)
  case present =>
    refine ⟨s.dev, (exec_word (c := .msgPresent e) hr rfl).trans (next_congr (g := fun u => settle (storeChunk (some e) c.id n k u)) ?_), rfl⟩
    rw [hk]
  case throttle => exact ⟨takeStep temp s.dev, rfl, takeStep_gives temp s.dev⟩

end Sys2Proof.Machine
end

section
/-! SUPPORT. Work descriptors: posting, return, dispatch, background slices and machine checks (R489, R501 to R508, R514). -/

namespace Sys2Proof.Machine

/-! ## The best of a list -/

theorem foldl_better {α : Type} {lt : α → α → Bool} {m : α → Nat} (h1 : ∀ a b, lt a b = true → m a ≤ m b)
    (h2 : ∀ a b, lt a b = false → m b ≤ m a) (l : List α) (b : α) :
    m (l.foldl (fun b y => if lt y b then y else b) b) ≤ m b ∧ ∀ x ∈ l, m (l.foldl (fun b y => if lt y b then y else b) b) ≤ m x := by
  induction l generalizing b with
  | nil => exact ⟨le_rfl, fun x hx => by cases hx⟩
  | cons y l ih =>
    obtain ⟨hb, hl⟩ := ih (if lt y b then y else b)
    have hy : m (if lt y b then y else b) ≤ m b ∧ m (if lt y b then y else b) ≤ m y := by
      cases h : lt y b with
      | true => exact ⟨h1 _ _ h, le_rfl⟩
      | false => exact ⟨le_rfl, h2 _ _ h⟩
    refine ⟨hb.trans hy.1, fun x hx => ?_⟩
    rcases List.mem_cons.1 hx with rfl | hx
    · exact hb.trans hy.2
    · exact hl x hx

theorem foldl_better_mem {α : Type} (lt : α → α → Bool) (l : List α) (b : α) :
    l.foldl (fun b y => if lt y b then y else b) b ∈ b :: l := by
  induction l generalizing b with
  | nil => exact List.mem_cons_self
  | cons y l ih =>
    rcases List.mem_cons.1 (ih (if lt y b then y else b)) with h | h
    · rw [List.foldl_cons, h]
      split_ifs
      · exact List.mem_cons_of_mem _ List.mem_cons_self
      · exact List.mem_cons_self
    · exact List.mem_cons_of_mem _ (List.mem_cons_of_mem _ h)

theorem bestBy_mem {α : Type} {lt : α → α → Bool} {l : List α} {x : α} (h : bestBy lt l = some x) : x ∈ l := by
  cases l with
  | nil => cases h
  | cons y l => exact Option.some.inj h ▸ foldl_better_mem lt l y

theorem bestBy_le {α : Type} {lt : α → α → Bool} {m : α → Nat} (h1 : ∀ a b, lt a b = true → m a ≤ m b)
    (h2 : ∀ a b, lt a b = false → m b ≤ m a) {l : List α} {x : α} (h : bestBy lt l = some x) : ∀ y ∈ l, m x ≤ m y := by
  cases l with
  | nil => cases h
  | cons z l =>
    obtain ⟨hz, hl⟩ := foldl_better h1 h2 l z
    rw [← Option.some.inj h]
    intro y hy
    rcases List.mem_cons.1 hy with rfl | hy
    · exact hz
    · exact hl y hy

theorem bestBy_isSome {α : Type} (lt : α → α → Bool) {l : List α} (h : l ≠ []) : ∃ x, bestBy lt l = some x := by
  cases l with
  | nil => exact absurd rfl h
  | cons y l => exact ⟨_, rfl⟩

/-! ## Posting -/

theorem clusterQueue_postTo {c : Nat} {d : Device} (h : c < d.eng.queues.length) (w : WorkDesc) :
    clusterQueue c (postTo c w d) = clusterQueue c d ++ [w] ∧ ∀ k, k ≠ c → clusterQueue k (postTo c w d) = clusterQueue k d := by
  refine ⟨?_, fun k hk => ?_⟩
  · simp [postTo, setQueue, clusterQueue, modNth, List.getD_eq_getElem?_getD, h]
  · simp [postTo, setQueue, clusterQueue, modNth, List.getD_eq_getElem?_getD, hk.symm]

theorem hostCluster_running {bucket : Nat} {d : Device} (h : clusterStopped (bucket / 2 % 4) d = false) : hostCluster bucket d = bucket / 2 % 4 := by
  rw [hostCluster]
  exact if_neg (by rw [h]; decide)

theorem takingCluster_own {c : Nat} {d : Device} (h : d.eng.activating.head? ≠ some c) : takingCluster c d = c :=
  if_neg (by rwa [beq_iff_eq])

theorem takingCluster_patched {c : Nat} {d : Device} (h : d.eng.activating.head? = some c) :
    takingCluster c d = ((runningClusters d).find? (· != c)).getD c :=
  if_pos (by rw [beq_iff_eq]; exact h)

theorem takingCluster_running {c : Nat} {d : Device} (h : c ∈ runningClusters d) : takingCluster c d ∈ runningClusters d := by
  by_cases ha : d.eng.activating.head? = some c
  · rw [takingCluster_patched ha]
    cases hf : (runningClusters d).find? (· != c) with
    | none => exact h
    | some k => exact List.mem_of_find?_eq_some hf
  · rwa [takingCluster_own ha]

/-- The running cluster with the fewest queued. -/
theorem jobCluster_shortest {d : Device} (h : runningClusters d ≠ []) : jobCluster d ∈ runningClusters d ∧
    ∀ k ∈ runningClusters d, (clusterQueue (jobCluster d) d).length ≤ (clusterQueue k d).length := by
  obtain ⟨c, hc⟩ := bestBy_isSome (fun a b => natsLt [(clusterQueue a d).length, a] [(clusterQueue b d).length, b]) h
  have hj : jobCluster d = c := by rw [jobCluster, hc]; rfl
  rw [hj]
  refine ⟨bestBy_mem hc, bestBy_le (m := fun k => (clusterQueue k d).length) (fun a b hab => ?_) (fun a b hab => ?_) hc⟩
  · simp only [natsLt, Bool.or_eq_true, decide_eq_true_eq, Bool.and_eq_true, beq_iff_eq] at hab
    omega
  · simp only [natsLt, Bool.or_eq_false_iff, decide_eq_false_iff_not] at hab
    omega

theorem runningClusters_lt {c : Nat} {d : Device} (h : c ∈ runningClusters d) : c < 4 := List.mem_range.1 (List.mem_filter.1 h).1

/-! ## Return -/

/-- The descriptor with a tag that an engine runs. -/
def runsTag (tag : Nat) (e : Engine) : Option WorkDesc :=
  match e.ctx.desc with
  | some w => if w.tag == tag then some w else none
  | none => none

theorem descOf_eq (tag : Nat) (d : Device) : descOf tag d = match d.eng.engines.findSome? (runsTag tag) with
    | some w => some w
    | none => d.eng.queues.flatten.find? (·.tag == tag) := rfl

theorem runsTag_none {tag : Nat} {e : Engine} (h : ¬ ((e.ctx.desc.map (·.tag)) == some tag) = true) : runsTag tag e = none := by
  unfold runsTag
  cases hd : e.ctx.desc with
  | none => rfl
  | some w => exact if_neg (by simpa [hd] using h)

theorem dropTag_running (tag : Nat) (d : Device) : (dropTag tag d).eng.engines.findSome? (runsTag tag) = none := by
  rw [List.findSome?_eq_none_iff]
  intro e he
  obtain ⟨x, -, rfl⟩ := List.mem_map.1 he
  by_cases h : ((x.ctx.desc.map (·.tag)) == some tag) = true
  · rw [if_pos h]
    rfl
  · rw [if_neg h]
    split_ifs
    · exact runsTag_none h
    · exact runsTag_none h

theorem dropTag_queued (tag : Nat) (d : Device) : (dropTag tag d).eng.queues.flatten.find? (·.tag == tag) = none := by
  rw [List.find?_eq_none]
  intro w hw
  obtain ⟨q, hq, hwq⟩ := List.mem_flatten.1 hw
  obtain ⟨r, -, rfl⟩ := List.mem_map.1 hq
  simpa using (List.mem_filter.1 hwq).2

theorem descOf_dropTag (tag : Nat) (d : Device) : descOf tag (dropTag tag d) = none := by
  rw [descOf_eq, dropTag_running]
  exact dropTag_queued tag d

theorem descriptorReturn_gone {tag : Nat} {d : Device} (h : cmdOf (tagCmd tag) d = none) (status : Nat) (w : Option WorkDesc) :
    descriptorReturn tag status w d = dropTag tag d := by
  have hc : cmdOf (tagCmd tag) (dropTag tag d) = none := h
  unfold descriptorReturn
  dsimp only
  rw [hc]

/-! ## Dispatch and background slices -/

theorem dispatch_resumes {e : Nat} {c : SeqCtx} {d : Device} (hp : (engineOf e d).parked = some c) (hw : higherWaits e d = false) :
    dispatch e d = onEngine e (fun x => { x with ctx := c, parked := none, st := 1, since := d.time.now }) d := by
  unfold dispatch
  dsimp only
  rw [hp]
  exact if_neg (by rw [hw]; decide)

/-- The engine after a background slice of 1 ms that ended at `now`. -/
def sliced (g : Engine) (now : Nat) (x : Engine) : Engine :=
  { x with conds := setBit x.conds 31 true, ctx := { g.ctx with ran := g.ctx.ran + ms 1 }, since := now }

theorem higherWaits_congr {a b : Device} (h : b.eng = a.eng) (e : Nat) : higherWaits e b = higherWaits e a := by
  rw [higherWaits, clusterQueue, h, higherWaits, clusterQueue]

theorem higherWaits_engineCond (e n : Nat) (b : Bool) (d : Device) : higherWaits e (engineCond e n b d) = higherWaits e d := rfl

theorem sliceEnd_goesOn {e : Nat} {w : WorkDesc} {d : Device} (hd : (engineOf e d).ctx.desc = some w) (hst : (engineOf e d).st = 1)
    (hc : w.cls = 4) (hh : higherWaits e d = false) : ∃ u, u.eng = d.eng ∧ (engineOf e d).since + ms 1 ≤ u.time.now ∧
      sliceEnd e d = onEngine e (sliced (engineOf e d) u.time.now) u := by
  have hrun : ¬ ((engineOf e d).st != 1 || w.cls != 4) = true := by simp [hst, hc]
  unfold sliceEnd sliced
  generalize ms 1 = m
  dsimp only
  obtain ⟨u, hu, -, hdue⟩ := waitUntil_waited ((engineOf e d).since + m) d
  have heng : u.eng = d.eng := by rw [← hu]; exact waitUntil_eng ..
  have hq : ¬ (higherWaits e (engineCond e 31 true u) && (engineOf e d).parked.isNone) = true := by
    rw [higherWaits_engineCond, higherWaits_congr heng, hh]
    exact Bool.false_ne_true
  refine ⟨u, heng, hdue, ?_⟩
  rw [hd]
  dsimp only
  rw [if_neg hrun, hu, if_neg hq, engineCond, onEngine_onEngine, ← hd]
  rfl

theorem returnDesc_returns {e : Nat} {w : WorkDesc} {d : Device} (hd : (engineOf e d).ctx.desc = some w) (status : Nat) :
    returnDesc e status d = settleStopped e (descriptorReturn w.tag status (some w)
      (onEngine e (fun x => { x with st := 0, ctx := { x.ctx with desc := none, stack := [] } }) d)) := by
  rw [returnDesc, hd]

/-! ## Machine checks -/

theorem endOp_eng (o : FlashOp) (d : Device) : (endOp o d).eng = d.eng := by
  obtain ⟨ops, h, -⟩ := endOp_eq o d
  rw [h]

theorem endOp_time (o : FlashOp) (d : Device) : (endOp o d).time = d.time := by
  obtain ⟨ops, h, -⟩ := endOp_eq o d
  rw [h]

/-- An engine whose units have ended without output. -/
def unitsEnded (x : Engine) : Engine :=
  { x with
    aes := [], rd := none, wr := none, defl := ⟨none, [], []⟩, sha := ⟨[], [], none⟩, flash := none, tokens := 0, search := none
    chunker := ⟨false, [], [], []⟩ }

theorem cancelUnits_eq (e : Nat) (d : Device) : ∃ v, v.eng = d.eng ∧ v.time = d.time ∧ cancelUnits e d = onEngine e unitsEnded v := by
  unfold cancelUnits
  cases (engineOf e d).flash.bind fun id => opOf id d with
  | none => exact ⟨d, rfl, rfl, rfl⟩
  | some o => exact ⟨endOp o d, endOp_eng o d, endOp_time o d, rfl⟩

/-- The checks of an engine with one more, now; those of more than an hour ago are forgotten. -/
def checksNow (x : Engine) (now : Nat) : List Nat := x.checks.filter (now - sec 3600 ≤ ·) ++ [now]

/-- What a machine check leaves before the engine goes blank: its units ended, its descriptor returned. -/
def checkReturned (e : Nat) (d : Device) : Device :=
  let u := onEngine e (fun x => { x with checks := checksNow (engineOf e d) d.time.now }) (odBump 0x2F20 9 1 (cancelUnits e d))
  match (engineOf e d).ctx.desc with
  | some w => descriptorReturn w.tag 1 (some w) u
  | none => u

/-- An engine is blank again after its machine check, and the check is logged. -/
def checkLogged (e kind groups pc : Nat) (d : Device) : Device :=
  odBump 0x2F20 0x0A 1 (onEngine e (fun x => { x with st := 0, ctx := SeqCtx.blank })
    (logEvent 0x1001 (0x0200 + e) 2 (kind * 2 ^ 40 + groups % 256 * 2 ^ 32 + pc * 2 ^ 16 + e) d))

theorem machineCheck_first {e : Nat} {d : Device} (he : e < 64) (hst : (engineOf e d).st < 3)
    (hc : (checksNow (engineOf e d) d.time.now).length < 2) (kind groups : Nat) :
    machineCheck e kind groups d = settleStopped e (checkLogged e kind groups (engineOf e d).ctx.pc (checkReturned e d)) := by
  have hgo : ¬ (64 ≤ e || 3 ≤ (engineOf e d).st) = true := by simp; omega
  have hone : ¬ 2 ≤ (checksNow (engineOf e d) d.time.now).length := by omega
  exact (if_neg hgo).trans (if_neg hone)

theorem checkLogged_logged (e kind groups pc : Nat) (d : Device) :
    Logged 0x1001 (0x0200 + e) 2 (kind * 2 ^ 40 + groups % 256 * 2 ^ 32 + pc * 2 ^ 16 + e) (checkLogged e kind groups pc d) :=
  logEvent_logged ..

theorem checksNow_old {x : Engine} {now : Nat} (h : ∀ c ∈ x.checks, c + sec 3600 < now) : checksNow x now = [now] := by
  rw [checksNow, List.filter_eq_nil_iff.2 fun c hc => ?_, List.nil_append]
  have := h c hc
  rw [decide_eq_true_iff]
  omega

theorem checkReturned_idle {e : Nat} {d : Device} (hd : (engineOf e d).ctx.desc = none) : checkReturned e d =
    onEngine e (fun x => { x with checks := checksNow (engineOf e d) d.time.now }) (odBump 0x2F20 9 1 (cancelUnits e d)) := by
  unfold checkReturned
  rw [hd]

theorem checkReturned_kept {base d : Device} {e : Nat} (h : Kept base d) : Kept base (checkReturned e d) := by
  have noted : Kept base (onEngine e (fun x => { x with checks := checksNow (engineOf e d) d.time.now })
      (odBump 0x2F20 9 1 (cancelUnits e d))) := onEngine_kept (fun _ => rfl) (odBump_kept (cancelUnits_kept h))
  unfold checkReturned
  cases (engineOf e d).ctx.desc with
  | none => exact noted
  | some w => exact descriptorReturn_kept noted

theorem checkLogged_now (e kind groups pc : Nat) (d : Device) : (checkLogged e kind groups pc d).time = d.time :=
  (logEvent_spoke 0x1001 (0x0200 + e) 2 (kind * 2 ^ 40 + groups % 256 * 2 ^ 32 + pc * 2 ^ 16 + e) d).time

theorem checkLogged_engine {e : Nat} {d : Device} (he : e < d.eng.engines.length) (kind groups pc : Nat) :
    engineOf e (checkLogged e kind groups pc d) = { engineOf e d with st := 0, ctx := SeqCtx.blank } := by
  have heng := (logEvent_spoke 0x1001 (0x0200 + e) 2 (kind * 2 ^ 40 + groups % 256 * 2 ^ 32 + pc * 2 ^ 16 + e) d).eng
  have hb : ∀ u, (odBump 0x2F20 0x0A 1 u).eng = u.eng := fun _ => rfl
  rw [checkLogged, engineOf_of_eng (hb _), engineOf_onEngine _ (by rw [heng]; exact he), engineOf_of_eng heng]

/-- The engine of a check that had no descriptor. -/
theorem checkReturned_engine {e : Nat} {d : Device} (he : e < d.eng.engines.length) (hd : (engineOf e d).ctx.desc = none) :
    e < (checkReturned e d).eng.engines.length ∧
      engineOf e (checkReturned e d) = { unitsEnded (engineOf e d) with checks := checksNow (engineOf e d) d.time.now } := by
  obtain ⟨v, hv, -, hcancel⟩ := cancelUnits_eq e d
  have hl : e < v.eng.engines.length := by rw [hv]; exact he
  have hb : (odBump 0x2F20 9 1 (onEngine e unitsEnded v)).eng = (onEngine e unitsEnded v).eng := rfl
  have hlen : e < (odBump 0x2F20 9 1 (onEngine e unitsEnded v)).eng.engines.length := by rw [hb, engines_length_onEngine]; exact hl
  rw [checkReturned_idle hd, hcancel, engines_length_onEngine, engineOf_onEngine _ hlen, engineOf_of_eng hb, engineOf_onEngine _ hl, engineOf_of_eng hv]
  exact ⟨hlen, rfl⟩

/-- When an engine's descriptor passes the time limit. -/
def descDue (e : Nat) (d : Device) : Nat := (engineOf e d).since + ms (odVal 0x2F20 8 d) - (engineOf e d).ctx.ran

theorem exec_descriptorTimeLimit {s : State} {e : Nat} {w : WorkDesc} (hd : (engineOf e s.dev).ctx.desc = some w) (hst : (engineOf e s.dev).st = 1) :
    exec (.descriptorTimeLimit e) s = next s fun d => machineCheck e 3 0 (waitUntil (descDue e s.dev) d) := by
  unfold exec execDescriptorTimeLimit
  exact next_congr (if_pos (by rw [hst, hd]; rfl : ((engineOf e s.dev).st == 1 && (engineOf e s.dev).ctx.desc.isSome) = true))

/-- Settles O19: posts by the queue that takes them, machine checks by `machineCheck_first`, words by what they change of the engine. -/
theorem engineDescriptors : Obligations.EngineDescriptors := by
  unfold Obligations.EngineDescriptors
  intro s
  refine ⟨fun bucket w hc ha hq => ?own, fun bucket w hlen hrun => ?job, fun bucket w hc ha k hk hq => ?patched,
    fun tag status w hw hcmd => ?gone, fun e kind groups he hl hst hchecks hd => ?check,
    fun e hr => ⟨fun w hd hst hchecks => ?late, fun w hd hst hcls hh => ?slice, fun c hd hp hh => ?resume, fun w hd => ?halt⟩⟩
  case own =>
    refine gives_of_eq (f := postHost (bucket % 4096) w) rfl ?_
    rw [postHost, hostCluster_running hc, takingCluster_own ha]
    exact clusterQueue_postTo hq w
  case job =>
    obtain ⟨hmem, hshort⟩ := jobCluster_shortest hrun
    have ht := takingCluster_running hmem
    refine gives_of_eq (f := postJob w) rfl ⟨_, ht, (clusterQueue_postTo (by rw [hlen]; exact runningClusters_lt ht) w).1, fun ha => ?_⟩
    rw [takingCluster_own (by rw [ha]; exact fun h => by cases h)]
    exact hshort
  case patched =>
    refine gives_of_eq (f := postHost (bucket % 4096) w) rfl ?_
    rw [postHost, hostCluster_running hc, takingCluster_patched ha, hk]
    exact (clusterQueue_postTo hq w).1
  case gone =>
    refine gives_of_eq (f := fun _ => dropTag tag s.dev) ?_ (descOf_dropTag tag s.dev)
    unfold exec execDescriptorReturn
    refine next_congr ?_
    rw [hw]
    exact descriptorReturn_gone hcmd status (some w)
  case check =>
    have hone := checksNow_old hchecks
    refine leads_of_eq (s := s) (g := machineCheck e kind groups) rfl (machineCheck_first he hst (by rw [hone]; exact Nat.lt_succ_self 1) kind groups) ?_
    obtain ⟨hlen, heng⟩ := checkReturned_engine hl hd
    rw [checkLogged_engine hlen, heng, hone]
    exact ⟨rfl, rfl, rfl, rfl, checkLogged_logged ..⟩
  case late =>
    obtain ⟨u, hu, hpow, hdue⟩ := waitUntil_waited (descDue e s.dev) s.dev
    have heng : u.eng = s.dev.eng := by rw [← hu]; exact waitUntil_eng ..
    have hg := engineOf_of_eng heng e
    have hone : (checksNow (engineOf e u) u.time.now).length < 2 := by rw [hg, checksNow, hchecks]; exact Nat.lt_succ_self 1
    refine leads_of_eq (u := checkLogged e 3 0 (engineOf e s.dev).ctx.pc (checkReturned e u)) (exec_descriptorTimeLimit hd hst) ?_ ⟨?_, ?_⟩
    · rw [hu, machineCheck_first hr.1 (by rw [hg, hst]; decide) hone, hg]
    · rw [checkLogged_now]
      exact hdue.trans (checkReturned_kept (.refl u)).now
    · have h := checkLogged_logged e 3 0 (engineOf e s.dev).ctx.pc (checkReturned e u)
      rwa [Nat.zero_mod, Nat.zero_mul, Nat.add_zero] at h
  case slice =>
    refine gives_of_eq (f := sliceEnd e) rfl ?_
    obtain ⟨u, heng, hdue, hx⟩ := sliceEnd_goesOn hd hst hcls hh
    rw [hx, engineOf_onEngine _ (by rw [heng]; exact hr.2.1)]
    exact ⟨hdue, rfl, rfl, bit_setBit_same ..⟩
  case resume =>
    refine becomes_of_word hr (c := .dispatchSeq e) (k := fun x => { x with ctx := c, parked := none, st := 1, since := s.dev.time.now }) rfl ?_
    rw [hd, if_neg (by decide)]
    exact dispatch_resumes hp hh
  case halt =>
    refine ⟨onEngine e (fun x => { x with st := 0, ctx := { x.ctx with desc := none, stack := [] } }) s.dev, ?_,
      engineOf_onEngine _ hr.2.1, onlyEngine_onEngine _ hr.2.1⟩
    refine (exec_word (c := .haltSeq e) hr rfl).trans (next_congr (g := fun u =>
      dispatch e (settleStopped e (descriptorReturn w.tag (reg e 1 s.dev % 65536) (some w)
        (onEngine e (fun x => { x with st := 0, ctx := { x.ctx with desc := none, stack := [] } }) u)))) ?_)
    exact congrArg (dispatch e) (returnDesc_returns hd _)

end Sys2Proof.Machine
end

section
/-! SUPPORT. The airflow drive (R568 to R583): a fan's change, what a wait leaves of its settings, and each operation under its guard. -/

namespace Sys2Proof.Machine

/-! ## A fan's change -/

theorem fanOf_onFan {n : Nat} {d : Device} (f : Fan → Fan) (h : n < d.fans.length) : fanOf n (onFan n f d) = f (fanOf n d) := by
  simp [fanOf, onFan, modNth, List.getD_eq_getElem?_getD, h]

theorem onFan_onFan (n : Nat) (f g : Fan → Fan) (d : Device) : onFan n g (onFan n f d) = onFan n (fun x => g (f x)) d := by
  simp only [onFan, modNth]
  congr 1
  apply List.ext_getElem (by simp)
  intro i h1 h2
  simp only [List.getElem_modify]
  split <;> rfl

theorem fans_length_onFan (n : Nat) (f : Fan → Fan) (d : Device) : (onFan n f d).fans.length = d.fans.length := by simp [onFan, modNth]

theorem fanOf_congr {a b : Device} (h : b.fans = a.fans) (n : Nat) : fanOf n b = fanOf n a := by rw [fanOf, h, fanOf]

/-- Fan `f` driven at one sector since `now`. -/
def fanAligned (duty now : Nat) (f : Fan) : Fan := { f with st := 3, since := now, duty := duty, advance := 0, integral := 0 }

theorem align_eq (n : Nat) (d : Device) : align n d = onFan n (fanAligned (256 * alignDuty n d) d.time.now) d := onFan_onFan ..

/-- A fan is aligned from `now` with the settings of `d`. -/
def Aligned (n : Nat) (d t : Device) : Prop := (fanOf n t).st = 3 ∧ (fanOf n t).duty = 256 * alignDuty n d ∧ (fanOf n t).since = t.time.now

/-! ## Fans alike -/

/-- From `a` to `b` no fan and no setting of the airflow drive changed. -/
structure FansAlike (a b : Device) : Prop where
  fans : b.fans = a.fans
  od : ∀ idx sub, 0x2E00 ≤ idx → idx < 0x2F00 → odVal idx sub b = odVal idx sub a

theorem FansAlike.trans {a b c : Device} (h : FansAlike a b) (k : FansAlike b c) : FansAlike a c :=
  ⟨k.fans.trans h.fans, fun idx sub h1 h2 => (k.od idx sub h1 h2).trans (h.od idx sub h1 h2)⟩

theorem FansAlike.fanOf {a b : Device} (h : FansAlike a b) (n : Nat) : Machine.fanOf n b = Machine.fanOf n a := fanOf_congr h.fans n

theorem FansAlike.config {a b : Device} (h : FansAlike a b) (n : Nat) : fanConfig n b = fanConfig n a := h.od _ _ (by decide) (by decide)

theorem FansAlike.alignDuty {a b : Device} (h : FansAlike a b) (n : Nat) : alignDuty n b = alignDuty n a := by
  rw [Machine.alignDuty, h.config, Machine.alignDuty]

theorem FansAlike.keNominal {a b : Device} (h : FansAlike a b) (n : Nat) : keNominal n b = keNominal n a := by
  rw [Machine.keNominal, h.config, Machine.keNominal]

theorem FansAlike.belowBrake {a b : Device} (h : FansAlike a b) (n bemf : Nat) : belowBrake n bemf b = belowBrake n bemf a := by
  rw [Machine.belowBrake, ratedRpm, h.keNominal, h.config, Machine.belowBrake, ratedRpm]

theorem FansAlike.handOver {a b : Device} (h : FansAlike a b) (n rpm : Nat) : handOver n rpm b = handOver n rpm a := by
  rw [Machine.handOver, ratedRpm, h.config, Machine.handOver, ratedRpm]

theorem FansAlike.isFitted {a b : Device} (h : FansAlike a b) (n : Nat) : isFitted n b = isFitted n a := by
  rw [Machine.isFitted, h.od _ _ (by decide) (by decide), Machine.isFitted]

theorem Spoke.fansAlike {a b : Device} (h : Spoke a b) : FansAlike a b := by
  refine ⟨?_, fun idx sub h1 h2 => h.odVal (by unfold CountKey odKey; omega)⟩
  obtain ⟨_, _, _, _, _, _, rfl, -⟩ := h
  rfl

/-- A wait changes no fan. -/
theorem fans_waited (t : Nat) (d : Device) : ∃ u, waitUntil t d = u ∧ FansAlike d u ∧ t ≤ u.time.now := by
  obtain ⟨u, hu, -, hdue⟩ := waitUntil_waited t d
  refine ⟨u, hu, ⟨by rw [← hu, waitUntil_fans], fun idx sub _ _ => ?_⟩, hdue⟩
  rw [← hu, odVal_waitUntil]

theorem FansAlike.aligned {n : Nat} {a b : Device} (h : FansAlike a b) (hn : n < a.fans.length) : Aligned n a (align n b) := by
  rw [Aligned, align_eq, fanOf_onFan _ (by rw [h.fans]; exact hn), h.alignDuty]
  exact ⟨rfl, rfl, rfl⟩

/-! ## Starting, under the drive's guard -/

section
variable {n : Nat} {d : Device} (hr : driveRuns n d = true)
include hr

theorem guard_state {st : Nat} (h : (fanOf n d).st = st) : ¬ (!driveRuns n d || (fanOf n d).st != st) = true := by simp [hr, h]

theorem fanStart_fitted (h : (fanOf n d).st = 0) (hf : isFitted n d = true) :
    fanStart n d = toState n 1 (waitUntil (fanOf n d).nextStart d) :=
  (if_neg (guard_state hr h)).trans (if_neg (by rw [hf]; decide))

theorem fanStart_missing (h : (fanOf n d).st = 0) (hf : isFitted n d = false) : fanStart n d = toState n 9 d :=
  (if_neg (guard_state hr h)).trans (if_pos (by rw [hf]; rfl))

/-- Sensing ends 20 ms after it began. -/
theorem fanSensed_sensed {bemf rpm : Nat} {forward : Bool} (h : (fanOf n d).st = 1) :
    fanSensed n bemf forward rpm d = if belowBrake n bemf (waitUntil ((fanOf n d).since + ms 20) d) then align n (waitUntil ((fanOf n d).since + ms 20) d)
      else if forward && handOver n rpm (waitUntil ((fanOf n d).since + ms 20) d) then catchFan n rpm (waitUntil ((fanOf n d).since + ms 20) d)
      else brake n 0 (waitUntil ((fanOf n d).since + ms 20) d) := by
  have hg : ¬ (!driveRuns n d || ((fanOf n d).st != 1 && (fanOf n d).st != 7)) = true := by simp [hr, h]
  have h7 : ¬ ((fanOf n d).st == 7) = true := by rw [h]; decide
  exact (if_neg hg).trans (if_neg h7)

theorem fanSensed_catching {bemf rpm : Nat} {forward : Bool} (h : (fanOf n d).st = 7) :
    fanSensed n bemf forward rpm d = catchSensed n forward rpm (waitUntil ((fanOf n d).since + ms 20) d) := by
  have hg : ¬ (!driveRuns n d || ((fanOf n d).st != 1 && (fanOf n d).st != 7)) = true := by simp [hr, h]
  have h7 : ((fanOf n d).st == 7) = true := by rw [h]; decide
  exact (if_neg hg).trans (if_pos h7)

theorem brakeEnd_slow {bemf rpm : Nat} (h : (fanOf n d).st = 2) (ha : (fanOf n d).afterBrake = 0) (hb : belowBrake n bemf d = true) :
    brakeEnd n bemf rpm d = align n d :=
  (if_neg (guard_state hr h)).trans ((if_pos (by rw [ha]; rfl)).trans (if_pos hb))

theorem brakeEnd_late {bemf rpm : Nat} (h : (fanOf n d).st = 2) (ha : (fanOf n d).afterBrake = 0) (hb : belowBrake n bemf d = false) :
    brakeEnd n bemf rpm d = align n (logEvent 0x1301 (0x0080 + n) 1 (rpm % 65536) (waitUntil ((fanOf n d).since + sec 3) d)) :=
  (if_neg (guard_state hr h)).trans ((if_pos (by rw [ha]; rfl)).trans (if_neg (by rw [hb]; decide)))

theorem brakeEnd_timed {bemf rpm : Nat} (h : (fanOf n d).st = 2) (ha : (fanOf n d).afterBrake ≠ 0) :
    brakeEnd n bemf rpm d = if (fanOf n d).afterBrake == 2 then align n (waitUntil ((fanOf n d).since + ms 500) d)
      else if isFitted n (waitUntil ((fanOf n d).since + ms 500) d) then
        onFan n (fun f => { f with nextStart := (waitUntil ((fanOf n d).since + ms 500) d).time.now })
          (toState n 0 (waitUntil ((fanOf n d).since + ms 500) d))
      else toState n 9 (waitUntil ((fanOf n d).since + ms 500) d) :=
  (if_neg (guard_state hr h)).trans (if_neg (by rw [beq_iff_eq]; exact ha))

/-! ## Aligned, and ramped -/

theorem alignEnd_ramps (h : (fanOf n d).st = 3) : alignEnd n d =
    onFan n (fun f => { f with
      goodSectors := 0, periods := [], duty := min 25600 (Config.rampDuty (alignDuty n (waitUntil ((fanOf n d).since + ms 200) d)) 0) })
      (toState n 4 (waitUntil ((fanOf n d).since + ms 200) d)) :=
  if_neg (guard_state hr h)

/-- A ramp without hand-over, before the third: aligned again 100 ms later. -/
theorem rampEnd_again (h : (fanOf n d).st = 4) (ht : (fanOf n d).rampTries < 2) (hn : n < d.fans.length) : let t := rampEnd n d
    Aligned n d t ∧ (fanOf n t).rampTries = (fanOf n d).rampTries + 1 ∧ (fanOf n d).since + rampTime n d + ms 200 ≤ t.time.now := by
  obtain ⟨u, hu, hal, hdue⟩ := fans_waited ((fanOf n d).since + rampTime n d + ms 100) d
  obtain ⟨v, hv, hal', hdue'⟩ := fans_waited (u.time.now + ms 100) (onFan n (fun f => { f with rampTries := f.rampTries + 1 }) u)
  have hx : rampEnd n d = align n v := by
    unfold rampEnd
    rw [if_neg (guard_state hr h)]
    dsimp only
    rw [hu, if_pos (by rw [hal.fanOf]; exact ht), hv]
  have hlen : n < u.fans.length := by rw [hal.fans]; exact hn
  have hvlen : n < v.fans.length := by rw [hal'.fans, fans_length_onFan]; exact hlen
  have hduty : alignDuty n v = alignDuty n d := (hal'.alignDuty n).trans (hal.alignDuty n)
  have hms : ms 200 = ms 100 + ms 100 := Nat.add_mul 100 100 _
  dsimp only
  rw [hx, Aligned, align_eq, fanOf_onFan _ hvlen, hduty, hal'.fanOf, fanOf_onFan _ hlen, hal.fanOf]
  refine ⟨⟨rfl, rfl, rfl⟩, rfl, ?_⟩
  show _ ≤ v.time.now
  omega

/-- A fan whose third ramp failed. -/
def rampFailed (now : Nat) (f : Fan) : Fan := { f with st := 8, since := now, rampTries := 0, duty := 0, nextStart := now + sec 60 }

theorem rampEnd_fails (h : (fanOf n d).st = 4) (ht : 2 ≤ (fanOf n d).rampTries) : ∃ u, FansAlike d u ∧
    rampEnd n d = refreshFans (logEvent 0x1304 (0x0080 + n) 2 0 (onFan n (rampFailed u.time.now) u)) := by
  obtain ⟨u, hu, hal, -⟩ := fans_waited ((fanOf n d).since + rampTime n d + ms 100) d
  refine ⟨u, hal, ?_⟩
  unfold rampEnd
  rw [if_neg (guard_state hr h)]
  dsimp only
  rw [hu, if_neg (by rw [hal.fanOf]; omega), toState, onFan_onFan]
  rfl

/-! ## Zero crossings -/

/-- The last six periods with one more. -/
def lastSix (ps : List Nat) (period : Nat) : List Nat := (ps ++ [period]).drop ((ps ++ [period]).length - 6)

/-- A fan at a zero crossing now, with the speed that its periods give. -/
def crossed (good : Bool) (ps : List Nat) (speed now : Nat) (f : Fan) : Fan :=
  { f with
    periods := ps, speed := speed, sector := (f.sector + 1) % 6, lastCrossing := now
    goodSectors := if good then f.goodSectors + 1 else 0 }

/-- The speed at a crossing. -/
def crossingSpeed (n period : Nat) (d : Device) : Nat :=
  if (lastSix (fanOf n d).periods period).length < 6 then (fanOf n d).speed else speedOf n (lastSix (fanOf n d).periods period) d

theorem zeroCrossing_closed {good : Bool} {period : Nat} (h : (fanOf n d).st = 5) : zeroCrossing n good period d =
    onFan n (crossed good (lastSix (fanOf n d).periods period) (crossingSpeed n period d) d.time.now) d := by
  have hg : ¬ (!driveRuns n d || ((fanOf n d).st != 4 && (fanOf n d).st != 5)) = true := by simp [hr, h]
  have h5 : ((fanOf n d).st == 5) = true := by rw [h]; decide
  exact (if_neg hg).trans (if_pos h5)

/-- On the ramp the duty follows its time; fewer than six good sectors do not close the loop. -/
theorem zeroCrossing_ramps {good : Bool} {period : Nat} (h : (fanOf n d).st = 4) (hb : good = false ∨ (fanOf n d).goodSectors < 5)
    (hn : n < d.fans.length) : zeroCrossing n good period d = onFan n (fun f =>
      { crossed good (lastSix (fanOf n d).periods period) (crossingSpeed n period d) d.time.now f with
        duty := min 25600 (Config.rampDuty (alignDuty n d) (min (d.time.now - (fanOf n d).since) (rampTime n d))) }) d := by
  have hg : ¬ (!driveRuns n d || ((fanOf n d).st != 4 && (fanOf n d).st != 5)) = true := by simp [hr, h]
  have h5 : ¬ ((fanOf n d).st == 5) = true := by rw [h]; decide
  have hfew : ¬ 6 ≤ (fanOf n (onFan n (crossed good (lastSix (fanOf n d).periods period) (crossingSpeed n period d) d.time.now) d)).goodSectors := by
    rw [fanOf_onFan _ hn]
    show ¬ 6 ≤ (if good then (fanOf n d).goodSectors + 1 else 0)
    rcases hb with rfl | hb
    · rw [if_neg Bool.false_ne_true]
      omega
    · split_ifs <;> omega
  refine (if_neg hg).trans ((if_neg h5).trans ((if_neg ?_).trans (onFan_onFan ..)))
  rw [Bool.and_eq_true, Bool.and_eq_true, decide_eq_true_iff]
  exact fun hc => hfew hc.1.1

/-! ## The speed loop -/

/-- The fan after a run of the speed loop: what the manual leaves free of it is named by its values. -/
def looped (now ref duty : Nat) (integral : Int) (full : Option Nat) (adv : Nat) (id : Int) (f : Fan) : Fan :=
  { f with since := now, reference := ref, duty := duty, integral := integral, fullSince := full, advance := adv, idCurrent := id }

theorem speedLoop_runs {current : Nat} (h : (fanOf n d).st = 5) : ∃ u, waitUntil ((fanOf n d).since + ms 1) d = u ∧ FansAlike d u ∧
    (fanOf n d).since + ms 1 ≤ u.time.now ∧ ∃ duty integral full adv id, duty ≤ 25600 ∧ speedLoop n current d = onFan n
      (looped u.time.now (nextReference (fanOf n u).reference (1000 * setpoint n u) (bits (fanConfig n u) 95 80)) duty integral full adv id) u := by
  obtain ⟨u, hu, hal, hdue⟩ := fans_waited ((fanOf n d).since + ms 1) d
  refine ⟨u, hu, hal, hdue, ?_⟩
  unfold speedLoop
  rw [if_neg (guard_state hr h)]
  dsimp only
  rw [hu]
  generalize hd : (max (0 : Int) (min 25600 _)).toNat = duty
  exact ⟨duty, _, _, _, _, by omega, rfl⟩

/-! ## The back-EMF constant -/

theorem keMeasure_guard (h : (fanOf n d).st = 5) (ha : (fanOf n d).advance = 0) (href : (fanOf n d).reference = (fanOf n d).speed * 1000) :
    ¬ (!driveRuns n d || (fanOf n d).st != 5 || (fanOf n d).advance != 0 ||
      (fanOf n d).reference * 2 < (((fanOf n d).speed * 1000 - (fanOf n d).reference) + ((fanOf n d).reference - (fanOf n d).speed * 1000)) * 100) = true := by
  rw [href]
  simp [hr, h, ha]

theorem keMeasure_near {ke : Nat} (h : (fanOf n d).st = 5) (ha : (fanOf n d).advance = 0) (href : (fanOf n d).reference = (fanOf n d).speed * 1000)
    (hk : ((ke - keNominal n d) + (keNominal n d - ke)) * 100 ≤ 25 * keNominal n d) (hn : n < d.fans.length) :
    (fanOf n (keMeasure n ke d)).keSince = none ∧ (fanOf n d).closedSince + sec 1 ≤ (keMeasure n ke d).time.now := by
  obtain ⟨u, hu, hal, hdue⟩ := fans_waited ((fanOf n d).closedSince + sec 1) d
  have hx : keMeasure n ke d = onFan n (fun f => { f with keSince := none, keFault := f.keFault && f.keLogged })
      (onFan n (fun f => { f with keDev := max (-128) (min 127 (keDeviation n ke u)) }) u) := by
    unfold keMeasure
    dsimp only
    rw [if_neg (keMeasure_guard hr h ha href), hu]
    refine if_pos ?_
    show ((ke - keNominal n u) + (keNominal n u - ke)) * 100 ≤ 25 * keNominal n u
    rw [hal.keNominal]
    exact hk
  rw [hx, fanOf_onFan _ (by rw [fans_length_onFan, hal.fans]; exact hn)]
  exact ⟨rfl, hdue⟩

/-- A constant that is off is noted since when; after 10 s it is a fault. -/
theorem keMeasure_far {ke : Nat} (h : (fanOf n d).st = 5) (ha : (fanOf n d).advance = 0) (href : (fanOf n d).reference = (fanOf n d).speed * 1000)
    (hk : 25 * keNominal n d < ((ke - keNominal n d) + (keNominal n d - ke)) * 100) (hn : n < d.fans.length) : let t := keMeasure n ke d
    (fanOf n t).keSince = some ((fanOf n d).keSince.getD t.time.now) ∧
      ((fanOf n d).keSince.getD t.time.now + sec 10 ≤ t.time.now → (fanOf n t).keFault = true) := by
  obtain ⟨u, hu, hal, hdue⟩ := fans_waited ((fanOf n d).closedSince + sec 1) d
  obtain ⟨v, hv, hvt, hvf⟩ : ∃ v, onFan n (fun f => { f with keSince := some ((fanOf n d).keSince.getD u.time.now) })
      (onFan n (fun f => { f with keDev := max (-128) (min 127 (keDeviation n ke u)) }) u) = v ∧ v.time = u.time ∧
      (n < v.fans.length ∧ (fanOf n v).keSince = some ((fanOf n d).keSince.getD u.time.now)) := by
    have hlen : n < (onFan n (fun f => { f with keDev := max (-128) (min 127 (keDeviation n ke u)) }) u).fans.length := by
      rw [fans_length_onFan, hal.fans]
      exact hn
    exact ⟨_, rfl, rfl, by rw [fans_length_onFan]; exact hlen, by rw [fanOf_onFan _ hlen]⟩
  have hoff : ¬ ((ke - keNominal n u) + (keNominal n u - ke)) * 100 ≤ 25 * keNominal n u := by
    rw [hal.keNominal]
    omega
  have hx : keMeasure n ke d = if v.time.now < (fanOf n d).keSince.getD u.time.now + sec 10 then v
      else if (fanOf n d).keLogged then onFan n (fun f => { f with keFault := true, keLogged := true }) v
      else logEvent 0x1303 (0x0080 + n) 1 (toUnsigned 1 (fanOf n (onFan n (fun f => { f with keFault := true, keLogged := true }) v)).keDev)
        (onFan n (fun f => { f with keFault := true, keLogged := true }) v) := by
    unfold keMeasure
    generalize sec 10 = m
    dsimp only
    rw [if_neg (keMeasure_guard hr h ha href), hu]
    refine (if_neg hoff).trans ?_
    rw [← hv]
    rfl
  have hfault : (fanOf n (onFan n (fun f => { f with keFault := true, keLogged := true }) v)).keFault = true ∧
      (fanOf n (onFan n (fun f => { f with keFault := true, keLogged := true }) v)).keSince = some ((fanOf n d).keSince.getD u.time.now) := by
    rw [fanOf_onFan _ hvf.1]
    exact ⟨rfl, hvf.2⟩
  dsimp only
  rw [hx]
  generalize sec 10 = m
  split_ifs with hlate hlogged
  · rw [hvt] at hlate ⊢
    exact ⟨hvf.2, fun hle => absurd hlate (Nat.not_lt.2 hle)⟩
  · rw [show (onFan n (fun f => { f with keFault := true, keLogged := true }) v).time = u.time from hvt]
    exact ⟨hfault.2, fun _ => hfault.1⟩
  · have hs := logEvent_spoke 0x1303 (0x0080 + n) 1 (toUnsigned 1 (fanOf n (onFan n (fun f => { f with keFault := true, keLogged := true }) v)).keDev)
      (onFan n (fun f => { f with keFault := true, keLogged := true }) v)
    rw [hs.time, hs.fansAlike.fanOf, show (onFan n (fun f => { f with keFault := true, keLogged := true }) v).time = u.time from hvt]
    exact ⟨hfault.2, fun _ => hfault.1⟩

/-! ## Losing the rotor -/

/-- A fan whose windings have carried too much. -/
def cutOff (now : Nat) (f : Fan) : Fan := { f with st := 7, since := now, overcurrent := true, duty := 0, advance := 0, catchTries := 0 }

theorem fanOvercurrent_cuts (h : (fanOf n d).st = 3 ∨ (fanOf n d).st = 4 ∨ (fanOf n d).st = 5) : ∃ v,
    v = logEvent 0x1305 (0x0080 + n) 2 (currentLimit n d) d ∧ fanOvercurrent n d = onFan n (cutOff v.time.now) v := by
  have hg : ¬ (!driveRuns n d || !((fanOf n d).st == 3 || (fanOf n d).st == 4 || (fanOf n d).st == 5)) = true := by
    rcases h with h | h | h <;> simp [hr, h]
  exact ⟨_, rfl, (if_neg hg).trans (onFan_onFan ..)⟩

theorem rotorLost_coasts (h : (fanOf n d).st = 5) :
    rotorLost n d = onFan n (fun f => { f with st := 6, since := d.time.now, duty := 0, advance := 0, catchTries := 0 }) d :=
  (if_neg (guard_state hr h)).trans (onFan_onFan ..)

theorem coastEnd_catches {forward : Bool} {rpm : Nat} (h : (fanOf n d).st = 6) :
    coastEnd n forward rpm d = catchSensed n forward rpm (waitUntil ((fanOf n d).since + ms 60) d) :=
  if_neg (guard_state hr h)

end

theorem exec_fanFailedRetry {s : State} {n : Nat} (hr : driveRuns n s.dev = true) (h : (fanOf n s.dev).st = 8) :
    exec (.fanFailedRetry n) s = next s fun d => refreshFans (toState n 1 (waitUntil (fanOf n s.dev).nextStart d)) := by
  unfold exec execFanFailedRetry
  exact next_congr (if_neg (guard_state hr h))

theorem fanOf_toState {n : Nat} {d : Device} (st : Nat) (h : n < d.fans.length) :
    fanOf n (toState n st d) = { fanOf n d with st := st, since := d.time.now } := fanOf_onFan _ h

/-- Settles O42: each operation by its equation under the guard of the drive. -/
theorem fanDrives : Obligations.FanDrives := by
  unfold Obligations.FanDrives
  intro s n hr hn
  refine ⟨fun h => ⟨fun hf => ?starts, fun hf => ?missing⟩, fun bemf forward rpm h => ⟨fun hb => ?slow, fun hb hw ho => ?caught, fun hb hw => ?braked⟩,
    fun bemf forward rpm h => ?catching, fun bemf rpm h => ⟨fun ha => ?brake0, fun ha => ?brake2, fun ha0 ha2 => ?brake1⟩, fun h => ?aligned,
    fun h => ⟨fun ht => ?again, fun ht => ?fails⟩, fun good period h => ?closed, fun good period h hb => ?ramps, fun current h => ?loop,
    fun ke h ha href => ⟨fun hk => ?near, fun hk => ?far⟩, fun h => ?overcurrent, fun h => ?lost, fun forward rpm h => ?coast, fun h => ?retry⟩
  case starts =>
    obtain ⟨u, hu, hal, hdue⟩ := fans_waited (fanOf n s.dev).nextStart s.dev
    refine gives_of_eq (f := fanStart n) rfl ?_
    rw [fanStart_fitted hr h hf, hu, fanOf_toState 1 (by rw [hal.fans]; exact hn)]
    exact ⟨rfl, hdue⟩
  case missing =>
    refine gives_of_eq (f := fanStart n) rfl ?_
    rw [fanStart_missing hr h hf, fanOf_toState 9 hn]
  case slow =>
    obtain ⟨u, hu, hal, hdue⟩ := fans_waited ((fanOf n s.dev).since + ms 20) s.dev
    refine gives_of_eq (f := fanSensed n bemf forward rpm) rfl ?_
    rw [fanSensed_sensed hr h, hu, if_pos (by rw [hal.belowBrake]; exact hb)]
    exact ⟨hal.aligned hn, hdue⟩
  case caught =>
    obtain ⟨u, hu, hal, hdue⟩ := fans_waited ((fanOf n s.dev).since + ms 20) s.dev
    refine leads_of_eq (u := u) (g := fanSensed n bemf forward rpm) rfl ?_ hdue
    rw [fanSensed_sensed hr h, hu, if_neg (by rw [hal.belowBrake, hb]; decide), if_pos (by rw [hal.handOver, hw, ho]; rfl)]
  case braked =>
    obtain ⟨u, hu, hal, hdue⟩ := fans_waited ((fanOf n s.dev).since + ms 20) s.dev
    refine leads_of_eq (u := u) (g := fanSensed n bemf forward rpm) rfl ?_ hdue
    rw [fanSensed_sensed hr h, hu, if_neg (by rw [hal.belowBrake, hb]; decide),
      if_neg (by rw [hal.handOver, Bool.and_eq_true]; exact fun hc => hw.elim (fun h => by simp [h] at hc) (fun h => by simp [h] at hc))]
  case catching =>
    obtain ⟨u, hu, hal, hdue⟩ := fans_waited ((fanOf n s.dev).since + ms 20) s.dev
    refine leads_of_eq (u := u) (g := fanSensed n bemf forward rpm) rfl ?_ ⟨hdue, hal.fans⟩
    rw [fanSensed_catching hr h, hu]
  case brake0 =>
    refine gives_of_eq (f := brakeEnd n bemf rpm) rfl ?_
    cases hb : belowBrake n bemf s.dev with
    | true =>
      rw [brakeEnd_slow hr h ha hb]
      exact ⟨(FansAlike.mk rfl fun _ _ _ _ => rfl : FansAlike s.dev s.dev).aligned hn, fun hc => by cases hc⟩
    | false =>
      obtain ⟨u, hu, hal, hdue⟩ := fans_waited ((fanOf n s.dev).since + sec 3) s.dev
      have hs := logEvent_spoke 0x1301 (0x0080 + n) 1 (rpm % 65536) u
      rw [brakeEnd_late hr h ha hb, hu]
      refine ⟨(hal.trans hs.fansAlike).aligned hn, fun _ => ⟨?_, logEvent_logged 0x1301 (0x0080 + n) 1 (rpm % 65536) u⟩⟩
      exact hdue.trans_eq (congrArg TimeState.now hs.time).symm
  case brake2 =>
    obtain ⟨u, hu, hal, hdue⟩ := fans_waited ((fanOf n s.dev).since + ms 500) s.dev
    refine gives_of_eq (f := brakeEnd n bemf rpm) rfl ?_
    rw [brakeEnd_timed hr h (by rw [ha]; decide), hu, if_pos (by rw [ha]; rfl)]
    exact ⟨hal.aligned hn, hdue⟩
  case brake1 =>
    obtain ⟨u, hu, hal, hdue⟩ := fans_waited ((fanOf n s.dev).since + ms 500) s.dev
    have hlen : n < u.fans.length := by rw [hal.fans]; exact hn
    refine gives_of_eq (f := brakeEnd n bemf rpm) rfl ?_
    rw [brakeEnd_timed hr h ha0, hu, if_neg (by rw [beq_iff_eq]; exact ha2), hal.isFitted]
    split_ifs
    · rw [toState, onFan_onFan, fanOf_onFan _ hlen]
      exact ⟨hdue, rfl⟩
    · rw [fanOf_toState 9 hlen]
      exact ⟨hdue, rfl⟩
  case aligned =>
    obtain ⟨u, hu, hal, hdue⟩ := fans_waited ((fanOf n s.dev).since + ms 200) s.dev
    refine gives_of_eq (f := alignEnd n) rfl ?_
    rw [alignEnd_ramps hr h, hu, toState, onFan_onFan, fanOf_onFan _ (by rw [hal.fans]; exact hn), hal.alignDuty]
    exact ⟨rfl, rfl, hdue, rfl⟩
  case again => exact gives_of_eq (f := rampEnd n) rfl (rampEnd_again hr h ht hn)
  case fails =>
    obtain ⟨u, hal, hx⟩ := rampEnd_fails hr h ht
    have hs := logEvent_spoke 0x1304 (0x0080 + n) 2 0 (onFan n (rampFailed u.time.now) u)
    refine leads_of_eq (g := rampEnd n) rfl hx ?_
    rw [hs.fansAlike.fanOf, hs.time, fanOf_onFan _ (by rw [hal.fans]; exact hn)]
    exact ⟨rfl, rfl, rfl, logEvent_logged ..⟩
  case closed =>
    refine gives_of_eq (f := zeroCrossing n good period) rfl ?_
    rw [zeroCrossing_closed hr h, fanOf_onFan _ hn]
    exact ⟨h, rfl, rfl, rfl⟩
  case ramps =>
    refine gives_of_eq (f := zeroCrossing n good period) rfl ?_
    rw [zeroCrossing_ramps hr h hb hn, fanOf_onFan _ hn]
    exact ⟨h, rfl, rfl, rfl⟩
  case loop =>
    obtain ⟨u, hu, hal, hdue, duty, integral, full, adv, id, hduty, hx⟩ := speedLoop_runs (current := current) hr h
    refine gives_of_eq (f := speedLoop n current) rfl ?_
    rw [hx, hu, fanOf_onFan _ (by rw [hal.fans]; exact hn), hal.fanOf, hal.config]
    exact ⟨h, hdue, rfl, hduty, rfl⟩
  case near => exact gives_of_eq (f := keMeasure n ke) rfl (keMeasure_near hr h ha href hk hn)
  case far => exact gives_of_eq (f := keMeasure n ke) rfl (keMeasure_far hr h ha href hk hn)
  case overcurrent =>
    obtain ⟨v, hv, hx⟩ := fanOvercurrent_cuts hr h
    refine gives_of_eq (f := fanOvercurrent n) rfl ?_
    have hlen : n < v.fans.length := by rw [hv, (logEvent_spoke ..).fansAlike.fans]; exact hn
    rw [hx, fanOf_onFan _ hlen]
    refine ⟨rfl, rfl, rfl, ?_⟩
    rw [hv]
    exact logEvent_logged ..
  case lost =>
    refine gives_of_eq (f := rotorLost n) rfl ?_
    rw [rotorLost_coasts hr h, fanOf_onFan _ hn]
    exact ⟨rfl, rfl, rfl⟩
  case coast =>
    obtain ⟨u, hu, hal, hdue⟩ := fans_waited ((fanOf n s.dev).since + ms 60) s.dev
    refine leads_of_eq (u := u) (g := coastEnd n forward rpm) rfl ?_ ⟨hdue, hal.fans⟩
    rw [coastEnd_catches hr h, hu]
  case retry =>
    obtain ⟨u, hu, hal, hdue⟩ := fans_waited (fanOf n s.dev).nextStart s.dev
    refine leads_of_eq (u := toState n 1 u) (exec_fanFailedRetry hr h) (by rw [hu]) ⟨?_, hdue⟩
    rw [fanOf_toState 1 (by rw [hal.fans]; exact hn)]

end Sys2Proof.Machine
end

section
/-! SUPPORT. What launches that commit, cut, step the time, mark, scale a toll share or ramp a fan do, and FREEZE (R412 to R418, R423, R424, R594). -/

namespace Sys2Proof.Machine

/-! ## The launched entry -/

theorem reportLaunch_keeps (n : Nat) (e : BoardEntry) (d : Device) : (reportLaunch n e d).board.entries = d.board.entries ∧
    LinkWorked d { reportLaunch n e d with board := d.board } := by
  have sent := sendLink_linkWorked (.launchReport n d.time.counter) d
  have hb : (sendLink (.launchReport n d.time.counter) d).board = d.board := by
    obtain ⟨_, _, _, _, _, h, -⟩ := sent
    rw [h]
  unfold reportLaunch awaitReport
  generalize sendLink (.launchReport n d.time.counter) d = u at sent hb
  have hu : { u with board := d.board } = u := by rw [← hb]
  have hbe : u.board.entries = d.board.entries := by rw [hb]
  split_ifs
  · exact ⟨rfl, .refl d⟩
  · exact ⟨hbe, by rw [← hu] at sent; exact sent⟩
  · exact ⟨hbe, by rw [← hu] at sent; exact sent⟩

theorem LinkWorked.time {a b : Device} (h : LinkWorked a b) : b.time = a.time := by
  obtain ⟨_, _, _, _, _, rfl, -⟩ := h
  rfl

theorem LinkWorked.snap {a b : Device} (h : LinkWorked a b) : b.snap = a.snap := by
  obtain ⟨_, _, _, _, _, rfl, -⟩ := h
  rfl

theorem LinkWorked.fans {a b : Device} (h : LinkWorked a b) : b.fans = a.fans := by
  obtain ⟨_, _, _, _, _, rfl, -⟩ := h
  rfl

/-- The launch leaves the clock at the entry's tick, the entry launched, and what the entry's action reads as it was. -/
structure LaunchedAlone (n : Nat) (e : BoardEntry) (d u : Device) : Prop where
  counter : u.time.counter = e.launch
  entry : ∃ w, w.time.counter = e.launch ∧ boardEntry n u = launchedEntry e e.launch w
  counted : odVal 0x2C00 2 u = min (odVal 0x2C00 2 d + 1) (odMax 0x2C00 2)
  snap : u.snap = d.snap
  fans : u.fans = d.fans

theorem launchedAt_alone {n : Nat} {e : BoardEntry} {d : Device} (h : LaunchesAlone n e d) : LaunchedAlone n e d (launchedAt n e d) := by
  obtain ⟨-, -, -, -, -, hlt, -, -⟩ := h
  have hc : (waitTick e.launch d).time.counter = e.launch := (waitTick_counter _ _).trans (max_eq_left hlt.le)
  have hval : odVal 0x2C00 2 (waitTick e.launch d) = odVal 0x2C00 2 d := by rw [odVal, odSel, waitTick_nodeId, waitTick_dict, odVal, odSel]
  rw [launchedAt_eq hlt]
  obtain ⟨hentries, hw⟩ := reportLaunch_keeps n e (launchCounted n e d)
  have hl := sendLink_linkCounted (.launchReport n (launchCounted n e d).time.counter) (launchCounted n e d)
  have hcounted : odVal 0x2C00 2 (reportLaunch n e (launchCounted n e d)) = odVal 0x2C00 2 (launchCounted n e d) := by
    obtain ⟨u, b, hu, he⟩ := reportLaunch_eq n e (launchCounted n e d)
    rw [he]
    rcases hu with rfl | rfl
    · rfl
    · exact hl.value 0x2C00 2 0 (by decide) (by decide)
  generalize reportLaunch n e (launchCounted n e d) = u at hentries hw hcounted
  refine ⟨?_, ⟨_, hc, ?_⟩, ?_, ?_, ?_⟩
  · exact (congrArg TimeState.counter hw.time).trans hc
  · rw [boardEntry, hentries]
    exact boardEntry_putEntry n (launchedEntry e e.launch
      { waitTick e.launch d with board := { (waitTick e.launch d).board with tick := e.launch, used := 1 } }) _
  · rw [hcounted, launchCounted, odBump, odVal_odPut, ← hval]
    rfl
  · exact hw.snap.trans (waitTick_snap e.launch d)
  · exact hw.fans.trans (waitTick_fans e.launch d)

/-! ## FREEZE (R594) -/

/-- The event that an EMCY of its own follows stays in the log. -/
theorem sendEmcy_logged (ecode event code unit severity detail : Nat) (d : Device) :
    Logged code unit severity detail (sendEmcy ecode event (logEvent code unit severity detail d)) := by
  refine ⟨⟨tick d, d.admin.eventSeq + 1, code, unit, severity, detail % 2 ^ 64⟩, ?_, rfl, rfl, rfl, rfl⟩
  rcases sendEmcy_events ecode event (logEvent code unit severity detail d) with h | ⟨r, h⟩
  · rw [h]
    exact List.mem_cons_self
  · rw [h]
    exact List.mem_cons_of_mem _ List.mem_cons_self

theorem Spoke.board {a b : Device} (h : Spoke a b) : b.board = a.board := by
  obtain ⟨_, _, _, _, _, _, rfl, -⟩ := h
  rfl

/-- FREEZE with a cause that no reset follows: the device is halted, its board frozen and its link away. -/
theorem freeze_halts {cause : Nat} (h : cause ≠ 7) (d : Device) : let t := freeze cause d
    t.power.run = .halted ∧ t.board.frozen = true ∧ t.peer.link = 0 ∧ Logged 0x1405 0x0073 3 cause t := by
  have hx : freeze cause d = sendEmcy 0xFF00 0x1405 (logEvent 0x1405 0x0073 3 cause (halt (takeDump cause d))) :=
    if_neg (by rw [beq_iff_eq]; exact h)
  have hs := (logEvent_spoke 0x1405 0x0073 3 cause (halt (takeDump cause d))).trans (sendEmcy_spoke 0xFF00 0x1405 _)
  dsimp only
  rw [hx, hs.power, hs.board, hs.peer]
  exact ⟨rfl, rfl, rfl, sendEmcy_logged ..⟩

/-- The one entry due at its tick, a FREEZE, launches, and nothing follows it. -/
theorem launchTick_freeze {n : Nat} {e : BoardEntry} {d : Device} (hf : d.board.frozen = false) (hd : dueEntries d = [(n, e)])
    (hc : d.time.counter = e.launch) (ht : d.board.tick ≠ e.launch) (ha : e.action = 0x06) :
    launchTick d = (freeze (e.arg % 65536) (launchEntry { d with board := { d.board with tick := e.launch, used := 1 } } (n, e)), [n]) := by
  have hu : (d.board.tick == e.launch) = false := beq_eq_false_iff_ne.2 ht
  have h6 : (e.action == 6) = true := beq_iff_eq.2 ha
  have htake : [(n, e)].take 8 = [(n, e)] := rfl
  have happ : ∀ x, applyAction n e e.launch x = freeze (e.arg % 65536) x := fun x => by
    unfold applyAction
    rw [ha]
    rfl
  unfold launchTick
  rw [hd, hc, hf, hu]
  simp only [Bool.false_eq_true, if_false, Nat.sub_zero, htake, List.isEmpty_cons, List.find?_cons, h6, List.foldl_cons, List.foldl_nil,
    List.map_cons, List.map_nil, List.length_singleton, Nat.zero_add, happ]

theorem launch_freeze {n : Nat} {e : BoardEntry} {d : Device} (h : LaunchesAlone n e d) (ha : e.action = 0x06) :
    launch n 0x06 d = freeze (e.arg % 65536) (launchedAt n e d) := by
  have hdue := dueEntries_alone h
  obtain ⟨hb, hs, hn, hf, -, hlt, ht, -⟩ := h
  have hc : (waitTick e.launch d).time.counter = e.launch := (waitTick_counter _ _).trans (max_eq_left hlt.le)
  have hgo : (e.state != 1 || e.action != 0x06 || d.board.frozen || decide (4096 ≤ n)) = false := by simp [hs, ha, hf, hn]
  have htick := launchTick_freeze (d := waitTick e.launch d) (by rwa [waitTick_board]) hdue hc (by rwa [waitTick_board]) ha
  unfold launch
  rw [hb]
  dsimp only
  rw [hgo, if_neg Bool.false_ne_true]
  unfold launchUntil
  rw [htick]
  simp only [List.contains_cons, beq_self_eq_true, Bool.true_or, if_true]
  rw [waitTick_board]
  rfl

/-! ## Actions -/

theorem tollWindow_scales (g arg : Nat) (d : Device) :
    tblGet? (tollWindow g arg d).media.scales g = if bit arg 8 = true then none else some (arg % 256) := by
  have hne : arg % 256 ≠ 256 := by omega
  unfold tollWindow
  dsimp only
  split_ifs
  · exact tblGet?_tblDel_same ..
  · rw [tblStore, if_neg hne]
    exact tblGet?_tblPut_same ..

/-- FAN_RAMP on one fan: its floor's entry, and the ramp from the floor at this time. -/
theorem rampFan_ramps {f : Nat} (arg : Nat) {d : Device} (h : f < d.fans.length) : odVal 0x2E30 (f + 1) (rampFan f arg d) = bits arg 15 0 ∧
    ((rampFan f arg d).fans[f]?).bind (·.ramp) = some ⟨floorNow f d, bits arg 15 0, d.time.now, ms (bits arg 31 16)⟩ := by
  have hval : odVal 0x2E30 (f + 1) (rampFan f arg d) = odVal 0x2E30 (f + 1) (odPut 0x2E30 (f + 1) (bits arg 15 0) d) := rfl
  refine ⟨by rw [hval, odVal_odPut], ?_⟩
  simp [rampFan, onFan, modNth, h]

theorem fanRamp_one {unit f : Nat} (arg : Nat) (hu : unit = 0x0080 + f) (hf : f < 6) (d : Device) : fanRamp unit arg d = rampFan f arg d := by
  have hone : ¬ (unit == 0x008F) = true := by rw [beq_iff_eq]; omega
  rw [fanRamp, if_neg hone, hu, Nat.add_sub_cancel_left]

/-- Settles O25: the launch of an entry alone by `launchedAt_alone`, then each action on the launched device. -/
theorem boardLaunches : Obligations.BoardLaunches := by
  unfold Obligations.BoardLaunches
  intro s n e h
  obtain ⟨hcounter, ⟨w, hw, hentry⟩, hcounted, hsnap, hfans⟩ := launchedAt_alone h
  refine ⟨⟨hcounter, ?late, ?launches, fun hp => ?once, fun hp => ?again, hcounted⟩, fun ha => ?commit, fun ha => ?powerFail, fun ha => ?cut,
    fun ha hc => ?freeze, fun ha => ?step, fun ha => ?mark, fun ha => ?toll, fun f hu hf hl ha => ?fan⟩
  case late => rw [hentry, launchedEntry, hw, Nat.sub_self]; rfl
  case launches => rw [hentry]; rfl
  case once => rw [hentry, launchedEntry, hp]; rfl
  case again => rw [hentry]; exact if_neg (by rwa [beq_iff_eq])
  case commit =>
    refine leads_launch h ha (by decide) rfl (congrArg (afterLaunch n) ?_) rfl
    unfold applyAction
    rw [ha]
    rfl
  case powerFail =>
    refine leads_launch h ha (by decide) rfl (congrArg (afterLaunch n) ?_) rfl
    unfold applyAction
    rw [ha]
    rfl
  case cut =>
    refine leads_launch (v := cutSnapshot (e.arg % 4096) (launchedAt n e s.dev)) h ha (by decide) rfl (congrArg (afterLaunch n) ?_) ?_
    · unfold applyAction
      rw [ha]
      rfl
    · rw [← hsnap]
      refine List.map_congr_left fun y _ => ?_
      by_cases hn : y.num = e.arg % 4096
      · by_cases hs : y.st = 1 <;> simp [hn, hs]
      · simp [hn]
  case freeze =>
    refine gives_of_eq (f := launch n 0x06) rfl ?_
    rw [launch_freeze h ha]
    exact freeze_halts hc _
  case step =>
    refine leads_launch (v := timeStep e.arg (launchedAt n e s.dev)) h ha (by decide) rfl (congrArg (afterLaunch n) ?_)
      (congrArg (· + e.arg) hcounter)
    unfold applyAction
    rw [ha]
    rfl
  case mark =>
    refine leads_launch (v := logEvent 0x0D06 e.unit 0 e.arg (launchedAt n e s.dev)) h ha (by decide) rfl (congrArg (afterLaunch n) ?_)
      (logEvent_logged ..)
    unfold applyAction
    rw [ha]
    rfl
  case toll =>
    refine leads_launch (v := tollWindow (e.unit % 16) e.arg (launchedAt n e s.dev)) h ha (by decide) rfl (congrArg (afterLaunch n) ?_)
      (tollWindow_scales ..)
    unfold applyAction
    rw [ha]
    rfl
  case fan =>
    refine leads_launch h ha (by decide) rfl (congrArg (afterLaunch n) ?_) (rampFan_ramps e.arg (by rw [hfans]; exact hl))
    unfold applyAction
    rw [ha]
    exact fanRamp_one e.arg hu hf _

end Sys2Proof.Machine
end

section
/-! SUPPORT. Sessions of replication: what a command at the remote, a new cycle and a connection leave in them; O41 (R474 to R483). -/

namespace Sys2Proof.Machine

/-! ## Sessions -/

/-- The sessions and the numbers of a device that a session reads, and the session itself. -/
theorem sessionOf_congr {a b : Device} (h : b.snap = a.snap) (n : Nat) : sessionOf n b = sessionOf n a := by
  rw [sessionOf, h, ← sessionOf]

theorem sessionOf_onSession {n : Nat} {d : Device} (h : n < d.snap.sessions.length) (f : ReplSession → ReplSession) :
    sessionOf n (onSession n f d) = f (sessionOf n d) := by
  simp [sessionOf, onSession, modNth, List.getD_eq_getElem?_getD, h]

@[simp] theorem onSession_length (n : Nat) (f : ReplSession → ReplSession) (d : Device) :
    (onSession n f d).snap.sessions.length = d.snap.sessions.length := by
  simp [onSession, modNth]

theorem snap_logEvent (ev obj sev v : Nat) (d : Device) : (logEvent ev obj sev v d).snap = d.snap := (logEvent_spoke ..).snap

theorem sessionOf_sessionTo {n : Nat} {d : Device} (h : n < d.snap.sessions.length) (st : Nat) :
    sessionOf n (sessionTo n st d) = { sessionOf n d with st := st } := by
  unfold sessionTo
  split_ifs with hs
  · rw [← eq_of_beq hs]
  · rw [sessionOf_congr (snap_logEvent ..), sessionOf_onSession h]

theorem snaps_sessionTo (n st : Nat) (d : Device) : (sessionTo n st d).snap.snaps = d.snap.snaps := by
  unfold sessionTo
  split_ifs
  · rfl
  · rw [snap_logEvent]
    rfl

theorem time_sessionTo (n st : Nat) (d : Device) : (sessionTo n st d).time = d.time := by
  unfold sessionTo
  split_ifs
  · rfl
  · rw [(logEvent_spoke ..).time]
    rfl

theorem toRemote_spoke (n : Nat) (m : RemoteMsg) (d : Device) : Spoke d (toRemote n m d) := by
  unfold toRemote
  dsimp only
  split_ifs
  · exact sendOn_spoke ..
  · exact .refl d

theorem odBump_snap (idx sub n : Nat) (d : Device) : (odBump idx sub n d).snap = d.snap := rfl

/-! ## Commands at the remote (R479) -/

/-- The commands of other keys stay outstanding. -/
def withoutKey (n : Nat) (key : Bytes) (d : Device) : Device :=
  onSession n (fun x => { x with outstanding := x.outstanding.filter (·.key != key) }) d

/-- The last status that the remote has given. -/
def statusNoted (n sct sc : Nat) (d : Device) : Device := onSession n (fun x => { x with lastSct := sct, lastSc := sc }) d

/-- A command that may be tried again, a second later. -/
def triedLater (n : Nat) (key : Bytes) (d : Device) : Device :=
  onSession n (fun x => { x with
    retries := min (x.retries + 1) 65535
    outstanding := x.outstanding.map fun y => if y.key == key then { y with retries := y.retries + 1, retryAt := some (d.time.now + sec 1) } else y }) d

/-- What the completion of a command does, by its status. -/
theorem remoteCompletion_eq {n : Nat} {key : Bytes} {sct sc : Nat} {dnr : Bool} {c : RemoteCmd} {d : Device} (hs : (sessionOf n d).st = 3)
    (hc : (sessionOf n d).outstanding.find? (fun c => c.key == key && c.retryAt.isNone) = some c) :
    remoteCompletion n key sct sc dnr d =
      if (sct == 0 && sc == 0) || (c.delete && ((sct == 1 && sc == 0x87) || (sct == 7 && sc == 0xC7))) then
        pump n (saveCursor n (remoteDone n c (withoutKey n key d)))
      else if skipsKey sct sc then
        pump n (saveCursor n (onSession n (fun x => { x with skipped := x.skipped + 1 }) (withoutKey n key (statusNoted n sct sc d))))
      else if !dnr && c.retries < 8 then triedLater n key (statusNoted n sct sc d)
      else failSession n sct sc (statusNoted n sct sc d) := by
  unfold remoteCompletion
  dsimp only
  rw [hs, hc]
  rfl

theorem sessionOf_remoteDone {n : Nat} {c : RemoteCmd} {d : Device} (h : n < d.snap.sessions.length) :
    sessionOf n (remoteDone n c d) = if c.delete then { sessionOf n d with keysDeleted := (sessionOf n d).keysDeleted + 1 }
      else { sessionOf n d with keysStored := (sessionOf n d).keysStored + 1 } :=
  (sessionOf_congr rfl n).trans (sessionOf_onSession h _)

theorem odVal_remoteDone (n : Nat) (c : RemoteCmd) (d : Device) :
    odVal 0x3300 5 (remoteDone n c d) = min (odVal 0x3300 5 d + 1) (odMax 0x3300 5) := by
  rw [remoteDone, odBump, odVal_odPut_other _ _ (by decide), odBump, odVal_odPut]
  rfl

theorem sessionOf_withoutKey {n : Nat} {d : Device} (h : n < d.snap.sessions.length) (key : Bytes) :
    sessionOf n (withoutKey n key d) = { sessionOf n d with outstanding := (sessionOf n d).outstanding.filter (·.key != key) } :=
  sessionOf_onSession h _

theorem sessionOf_statusNoted {n : Nat} {d : Device} (h : n < d.snap.sessions.length) (sct sc : Nat) :
    sessionOf n (statusNoted n sct sc d) = { sessionOf n d with lastSct := sct, lastSc := sc } := sessionOf_onSession h _

/-- A session that no long operation started ends in error. -/
theorem sessionOf_failSession {n sct sc : Nat} {d : Device} (h : n < d.snap.sessions.length) (hs : (sessionOf n d).slot = none) :
    (sessionOf n (failSession n sct sc d)).st = 5 ∧ (sessionOf n (failSession n sct sc d)).outstanding = [] ∧
      (sessionOf n (failSession n sct sc d)).lastSc = sc := by
  unfold failSession
  dsimp only
  rw [hs]
  dsimp only
  rw [sessionOf_congr (toRemote_spoke ..).snap, sessionOf_sessionTo (by simpa using h), sessionOf_onSession h]
  exact ⟨rfl, rfl, rfl⟩

/-- No command of a key is outstanding once the key is taken out. -/
theorem ne_of_mem_filter {key : Bytes} {l : List RemoteCmd} {y : RemoteCmd} (h : y ∈ l.filter (·.key != key)) : y.key ≠ key := by
  simpa using (List.mem_filter.1 h).2

/-! ## A new cycle (R477, R481) -/

/-- The base and the cursor of a session stand. -/
structure CycleKept (n : Nat) (a b : Device) : Prop where
  length : b.snap.sessions.length = a.snap.sessions.length
  base : (sessionOf n b).base = (sessionOf n a).base
  cursor : (sessionOf n b).cursor = (sessionOf n a).cursor

theorem CycleKept.refl (n : Nat) (a : Device) : CycleKept n a a := ⟨rfl, rfl, rfl⟩

theorem CycleKept.trans {n : Nat} {a b c : Device} (h : CycleKept n a b) (k : CycleKept n b c) : CycleKept n a c :=
  ⟨k.length.trans h.length, k.base.trans h.base, k.cursor.trans h.cursor⟩

theorem CycleKept.of_sessions {n : Nat} {a b : Device} (h : b.snap.sessions = a.snap.sessions) : CycleKept n a b := by
  have hx : sessionOf n b = sessionOf n a := by rw [sessionOf, h, ← sessionOf]
  exact ⟨by rw [h], by rw [hx], by rw [hx]⟩

theorem CycleKept.of_spoke {n : Nat} {a b : Device} (h : Spoke a b) : CycleKept n a b := .of_sessions (by rw [h.snap])

theorem CycleKept.foldl {n : Nat} {α : Type} {f : Device → α → Device} (hf : ∀ d x, CycleKept n d (f d x)) :
    ∀ (l : List α) (d : Device), CycleKept n d (l.foldl f d)
  | [], d => .refl n d
  | x :: l, d => (hf d x).trans (CycleKept.foldl hf l (f d x))

theorem giveUpSnapshot_sessions (k : Nat) (d : Device) : (giveUpSnapshot k d).snap.sessions = d.snap.sessions := by
  unfold giveUpSnapshot deleteSnapshot
  split_ifs
  · rfl
  · split <;> rfl
  · rfl

theorem dropCut_snap (n : Nat) (d : Device) : (dropCut n d).snap = d.snap := by
  unfold dropCut
  extract_lets isCut armed asked d1 d2
  have h1 : d1.snap = d.snap :=
    foldl_eq_of_step Device.snap (f := fun d (r : Nat × BoardEntry) => putEntry r.1 { r.2 with state := 3 } d) (fun _ _ => rfl) _ _
  have h2 : LinkWorked d1 d2 := .foldl (fun d p => sendLink_linkWorked ..) _ _
  exact h2.snap.trans h1

/-- The number of the current snapshot of a session leaves, and nothing else of it. -/
def currentCleared (x : ReplSession) : ReplSession := { x with current := none, currentTick := 0 }

theorem cleared_kept (n m : Nat) (l : List ReplSession) :
    (modNth l m currentCleared).length = l.length ∧
      ((modNth l m currentCleared).getD n ReplSession.blank).base = (l.getD n ReplSession.blank).base ∧
        ((modNth l m currentCleared).getD n ReplSession.blank).cursor = (l.getD n ReplSession.blank).cursor := by
  simp only [modNth, List.length_modify, List.getD_eq_getElem?_getD, List.getElem?_modify, true_and]
  cases l[n]? with
  | none => simp
  | some x =>
    by_cases hm : m = n <;> simp [hm, currentCleared]

/-- Cuts that will not launch leave the base and the cursor of every session. -/
theorem endCuts_cycleKept (n : Nat) (nums : List Nat) (d : Device) : CycleKept n d (endCuts nums d) := by
  unfold endCuts
  extract_lets ended gone d1 snap1 d2 cleared snap2 d3
  have h1 : d1.snap = d.snap := foldl_eq_of_step Device.snap (fun d n => dropCut_snap n d) _ _
  have h2 : CycleKept n d d2 := .of_sessions (show d1.snap.sessions = _ by rw [h1])
  have hl : ∀ (ms : List Nat) (l : List ReplSession),
      (ms.foldl (fun l m => modNth l m currentCleared) l).length = l.length ∧
        ((ms.foldl (fun l m => modNth l m currentCleared) l).getD n ReplSession.blank).base = (l.getD n ReplSession.blank).base ∧
          ((ms.foldl (fun l m => modNth l m currentCleared) l).getD n ReplSession.blank).cursor = (l.getD n ReplSession.blank).cursor := by
    intro ms
    induction ms with
    | nil => exact fun l => ⟨rfl, rfl, rfl⟩
    | cons m ms ih =>
      intro l
      obtain ⟨hlen, hbase, hcur⟩ := ih (modNth l m currentCleared)
      obtain ⟨klen, kbase, kcur⟩ := cleared_kept n m l
      exact ⟨hlen.trans klen, hbase.trans kbase, hcur.trans kcur⟩
  have h3 : CycleKept n d2 d3 := by
    obtain ⟨hlen, hbase, hcur⟩ := hl (ended.filterMap (·.session)) d2.snap.sessions
    exact ⟨hlen, hbase, hcur⟩
  refine h2.trans (h3.trans (.foldl (fun d c => ?_) _ _))
  split_ifs
  · exact .refl ..
  · obtain ⟨u, m, hu, he⟩ := complete_eq c.q c.tag .sequenceError 0 0 [] d
    rw [completeSt, he]
    exact .of_sessions (congrArg SnapState.sessions hu.snap)

theorem placementDone_sessions (k m : Nat) (d : Device) : (placementDone (.snapshot k) m d).snap.sessions = d.snap.sessions :=
  foldl_eq_of_step (fun d => d.snap.sessions)
    (f := fun d (s : Snapshot) => { d with stripe := { d.stripe with queued := d.stripe.queued ++ [.snapshot k 1 s.ns s.cut s.expiry] } })
    (fun _ _ => rfl) _ _

theorem placePaired_cycleKept (n : Nat) (e : BoardEntry) (k : Nat) (d : Device) : CycleKept n d (placePaired e (.snapshot k) d) := by
  unfold placePaired
  split
  · unfold placePairedAt
    dsimp only
    split_ifs
    · exact .of_sessions (placementDone_sessions ..)
    · exact .of_sessions (congrArg SnapState.sessions (sendLink_linkWorked ..).snap)
    · exact endCuts_cycleKept ..
  · dsimp only
    split_ifs
    · exact .of_sessions rfl
    · exact .of_sessions (congrArg SnapState.sessions (snap_logEvent 0x0D08 0x0051 1 e.action d))

theorem armSnaps_cycleKept (n : Nat) (nss : List Nat) (minutes : Nat) (session : Option Nat) (mk : List Nat → Nat → SnapCreate) (d : Device) :
    CycleKept n d (armSnaps nss minutes session mk d) := by
  unfold armSnaps
  dsimp only
  refine CycleKept.trans (.of_sessions ?_) (.foldl (fun d k => placePaired_cycleKept ..) _ _)
  rfl

/-- A new cycle begins at the first key, and where a snapshot of the cycle before was lost, with no base. -/
theorem newCycle_session {n : Nat} {d v : Device} (hn : n < d.snap.sessions.length) (h : newCycle n d = some v) :
    n < v.snap.sessions.length ∧ (sessionOf n v).cursor = [] ∧ ((sessionOf n d).current ≠ none → (sessionOf n v).base = none) := by
  unfold newCycle at h
  extract_lets x ns keep left d1 d2 num cut d3 at h
  have h1 : d1.snap.sessions.length = d.snap.sessions.length ∧ ((sessionOf n d).current ≠ none → (sessionOf n d1).base = none) := by
    unfold d1
    split_ifs with hk
    · refine ⟨rfl, fun hc => absurd hk ?_⟩
      simp [keep, x, hc]
    · exact ⟨onSession_length .., fun _ => by rw [sessionOf_onSession hn]⟩
  have h2 : CycleKept n d1 d2 := .foldl (fun d k => .of_sessions (giveUpSnapshot_sessions k d)) _ _
  split_ifs at h
  obtain rfl := Option.some.inj h
  have hn2 : n < d2.snap.sessions.length := by rw [h2.length, h1.1]; exact hn
  have h3 : sessionOf n d3 = { freshCycle (sessionOf n d2) d2.time.now with current := some num, currentTick := cut } := sessionOf_onSession hn2 _
  have h4 := armSnaps_cycleKept n [ns] 0 (some n) (fun nums cut => ⟨⟨255, 0, 0⟩, ⟨0, 0, false⟩, nums, cut, false, some n⟩) d3
  refine ⟨?_, ?_, fun hc => ?_⟩
  · rw [h4.length]
    simpa [d3] using hn2
  · rw [h4.cursor, h3]
    rfl
  · rw [h4.base, h3]
    exact h2.base.trans (h1.2 hc)

/-! ## Connections and cycles (R477, R480, R481) -/

/-- What a device reads to tell whether a snapshot was taken for a session. -/
theorem cycleStands_congr {n : Nat} {a b : Device} (hs : b.snap = a.snap) (ho : odVal 0x3320 (n + 1) b = odVal 0x3320 (n + 1) a) :
    cycleStands n b = cycleStands n a := by
  unfold cycleStands isTaken snapOf sessionNs
  rw [sessionOf_congr hs, hs, ho]

/-- The session is in state 2, connected. -/
def connectedTo (n : Nat) (d : Device) : Device := sessionTo n 2 (onSession n (fun y => { y with connected := true }) d)

theorem sessionOf_connectedTo {n : Nat} {d : Device} (h : n < d.snap.sessions.length) :
    sessionOf n (connectedTo n d) = { sessionOf n d with connected := true, st := 2 } := by
  rw [connectedTo, sessionOf_sessionTo (by simpa using h), sessionOf_onSession h]

theorem snaps_connectedTo (n : Nat) (d : Device) : (connectedTo n d).snap.snaps = d.snap.snaps := by
  rw [connectedTo, snaps_sessionTo]
  rfl

/-- The attempt to connect of a session in state 4 has been sent, at its time. -/
def attempted (n : Nat) (d : Device) : Device :=
  if (sessionOf n d).st == 4 then toRemote n (connectMsg n d) (waitUntil (sessionOf n d).reconnectAt d) else d

theorem attempted_snap (n : Nat) (d : Device) : (attempted n d).snap = d.snap := by
  unfold attempted
  split_ifs
  · rw [(toRemote_spoke ..).snap, waitUntil_snap]
  · rfl

theorem cycleStands_attempted (n : Nat) (d : Device) : cycleStands n (attempted n d) = cycleStands n d := by
  refine cycleStands_congr (attempted_snap n d) ?_
  unfold attempted
  split_ifs
  · rw [(toRemote_spoke ..).odVal (by unfold CountKey odKey; omega), odVal_waitUntil]
  · rfl

/-- What an attempt to connect does, by its end. -/
theorem replicationReconnect_eq {n : Nat} {ok : Bool} {d : Device} (hr : sessionReady n d = true)
    (hs : (sessionOf n d).st = 2 ∨ (sessionOf n d).st = 4) :
    replicationReconnect n ok d =
      if !ok then sessionTo n 4 (onSession n (fun y => { y with reconnectAt := (attempted n d).time.now + sec 5, connected := false }) (attempted n d))
      else if cycleStands n (attempted n d) then pump n (connectedTo n (attempted n d))
      else if (attempted n d).snap.creates.any fun c => c.session == some n then connectedTo n (attempted n d)
      else match newCycle n (attempted n d) with
        | some v => connectedTo n v
        | none => cycleRefused n (attempted n d) := by
  have hg : ¬ (!sessionReady n d || ((sessionOf n d).st != 2 && (sessionOf n d).st != 4)) = true := by
    rcases hs with h | h <;> simp [hr, h]
  unfold replicationReconnect
  dsimp only
  rw [if_neg hg]
  rfl

/-- The remote association of a session that runs is lost. -/
theorem sessionOf_remoteLoss {n : Nat} {d : Device} (hn : n < d.snap.sessions.length) (h16 : n < 16)
    (hs : (sessionOf n d).st = 2 ∨ (sessionOf n d).st = 3) :
    sessionOf n (remoteLoss n d) = { sessionOf n (rewindSession n d) with reconnectAt := d.time.now + sec 5, st := 4 } := by
  have hg : ¬ (decide (16 ≤ n) || ((sessionOf n d).st != 2 && (sessionOf n d).st != 3)) = true := by
    rcases hs with h | h <;> simp [h, h16]
  have hr : n < (rewindSession n d).snap.sessions.length := by simpa [rewindSession] using hn
  unfold remoteLoss
  dsimp only
  rw [if_neg hg, sessionOf_sessionTo (by rwa [onSession_length]), sessionOf_onSession hr]

theorem sessionOf_cycleRefused {n : Nat} {d : Device} (hn : n < d.snap.sessions.length) :
    (sessionOf n (cycleRefused n d)).st = 1 ∧ (sessionOf n (cycleRefused n d)).startedAt = d.time.now := by
  have hb : n < (odBump 0x3300 4 1 d).snap.sessions.length := by rw [odBump_snap]; exact hn
  rw [cycleRefused, sessionOf_sessionTo (by rwa [onSession_length]), sessionOf_onSession hb]
  exact ⟨rfl, rfl⟩

/-- A session in state 2 sends no attempt: it has one under way. -/
theorem attempted_of_state {n : Nat} {d : Device} (h : (sessionOf n d).st = 2) : attempted n d = d := by
  rw [attempted, h]
  rfl

/-- Settles O41: each session's step is one of the functions above, and what is sent on its port leaves the sessions as they are. -/
theorem replication : Obligations.Replication := by
  intro s n hn d x
  refine ⟨fun hr hs hm => ?cycle, fun key sct sc dnr c hs hc => ?answer, fun key c hs hc => ?retry, fun hr hs => ⟨?fails, fun hk => ?succeeds⟩,
    fun hr hs hk hc => ?again, fun h16 hs => ?loss⟩
  case cycle =>
    have hg : ¬ (!sessionReady n d || x.st != 1 || !bit (sessionCfg n d) 3) = true := by simp [hr, hs, hm]
    have he : replicationCycle n d = (beginCycle n (waitUntil (if x.startedAt == 0 then d.time.now else
        x.startedAt + bits (sessionCfg n d) 303 288 * sec 60) d)).2 := by
      unfold replicationCycle
      exact if_neg hg
    refine leads_of_eq (s := s) (g := replicationCycle n) rfl he fun h0 => ?_
    have := le_waitUntil (if x.startedAt == 0 then d.time.now else x.startedAt + bits (sessionCfg n d) 303 288 * sec 60) d
    rwa [if_neg (by simpa using h0)] at this ⊢
  case answer =>
    have he := remoteCompletion_eq (sct := sct) (sc := sc) (dnr := dnr) hs hc
    have hx : exec (.replicationRemoteCompletion n key sct sc dnr) s = next s (remoteCompletion n key sct sc dnr) := rfl
    have hw : n < (withoutKey n key d).snap.sessions.length := by simpa [withoutKey] using hn
    have hq : n < (statusNoted n sct sc d).snap.sessions.length := by simpa [statusNoted] using hn
    intro ok
    have hok : ((sct == 0 && sc == 0) || (c.delete && ((sct == 1 && sc == 0x87) || (sct == 7 && sc == 0xC7)))) = true ↔ ok := by
      simp [ok]
    refine ⟨fun h => ?done, fun h hk => ?skipped, fun h hk hd hr => ?later, fun h hk hr hsl => ?ended⟩
    case done =>
      rw [if_pos (hok.2 h)] at he
      refine leads_of_eq (s := s) (g := remoteCompletion n key sct sc dnr) hx he ?_
      rw [sessionOf_remoteDone hw, sessionOf_withoutKey hn, odVal_remoteDone]
      cases hdel : c.delete
      · exact ⟨fun y hy => ne_of_mem_filter hy, fun h => absurd h (by decide), fun _ => rfl, rfl⟩
      · exact ⟨fun y hy => ne_of_mem_filter hy, fun _ => rfl, fun h => absurd h (by decide), rfl⟩
    case skipped =>
      rw [if_neg (fun hb => h (hok.1 hb)), if_pos hk] at he
      refine leads_of_eq (s := s) (g := remoteCompletion n key sct sc dnr) hx he ?_
      have hl : n < (withoutKey n key (statusNoted n sct sc d)).snap.sessions.length := by simpa [withoutKey] using hq
      rw [sessionOf_onSession hl, sessionOf_withoutKey hq, sessionOf_statusNoted hn]
      exact ⟨fun y hy => ne_of_mem_filter hy, rfl, rfl⟩
    case later =>
      rw [if_neg (fun hb => h (hok.1 hb)), if_neg (by simp [hk]), if_pos (by simp [hd, hr])] at he
      refine gives_of_eq (f := remoteCompletion n key sct sc dnr) hx ?_
      rw [he, triedLater, sessionOf_onSession hq, sessionOf_statusNoted hn]
      refine ⟨rfl, rfl, rfl, List.mem_map.2 ⟨c, List.mem_of_find?_eq_some hc, ?_⟩⟩
      have hkey := List.find?_some hc
      rw [if_pos (Bool.and_eq_true_iff.1 hkey).1]
      rfl
    case ended =>
      rw [if_neg (fun hb => h (hok.1 hb)), if_neg (by simp [hk]), if_neg (by rcases hr with h | h <;> simp [h])] at he
      refine gives_of_eq (f := remoteCompletion n key sct sc dnr) hx ?_
      rw [he]
      exact sessionOf_failSession hq (by rw [sessionOf_statusNoted hn]; exact hsl)
  case retry =>
    have he : replicationRetry n key d = sendRemote n { c with retryAt := none } (waitUntil (c.retryAt.getD 0) d) := by
      unfold replicationRetry
      dsimp only
      rw [hs, hc]
      rfl
    exact leads_of_eq (s := s) (g := replicationRetry n key) rfl he ⟨le_waitUntil .., waitUntil_snap ..⟩
  case fails =>
    have ha : n < (attempted n d).snap.sessions.length := by rw [attempted_snap]; exact hn
    refine gives_of_eq (f := replicationReconnect n false) rfl ?_
    have he := replicationReconnect_eq (ok := false) hr hs
    rw [if_pos (by decide)] at he
    rw [he, sessionOf_sessionTo (by rwa [onSession_length]), sessionOf_onSession ha, time_sessionTo]
    exact ⟨rfl, rfl, rfl⟩
  case succeeds =>
    have ha : n < (attempted n d).snap.sessions.length := by rw [attempted_snap]; exact hn
    have he := replicationReconnect_eq (ok := true) hr hs
    rw [if_neg (by decide), if_pos (by rw [cycleStands_attempted]; exact hk)] at he
    refine leads_of_eq (s := s) (g := replicationReconnect n true) rfl he ?_
    rw [sessionOf_connectedTo ha]
    exact ⟨rfl, rfl⟩
  case again =>
    have he := replicationReconnect_eq (ok := true) hr (.inl hs)
    rw [attempted_of_state hs, if_neg (by decide), if_neg (by rw [hk]; decide), if_neg (by simpa using hc)] at he
    refine ⟨fun v hv => ?new, fun hv => ?refused⟩
    case new =>
      obtain ⟨hlen, hcur, hbase⟩ := newCycle_session hn hv
      rw [hv] at he
      refine gives_of_eq (f := replicationReconnect n true) rfl ?_
      rw [he, snaps_connectedTo, sessionOf_connectedTo hlen]
      exact ⟨rfl, rfl, rfl, hcur, hbase, rfl⟩
    case refused =>
      rw [hv] at he
      refine gives_of_eq (f := replicationReconnect n true) rfl ?_
      rw [he]
      exact sessionOf_cycleRefused hn
  case loss =>
    refine gives_of_eq (f := remoteLoss n) rfl ?_
    rw [sessionOf_remoteLoss hn h16 hs, rewindSession, sessionOf_onSession hn]
    exact ⟨rfl, rfl, rfl, rfl⟩

end Sys2Proof.Machine
end

section
/-! SUPPORT. The map's pages and checkpoints, collection, and the care of blocks; O38 (R332 to R338, R349 to R362, R379 to R392). -/

namespace Sys2Proof.Machine

/-! ## Checkpoints and map pages (R330, R334, R335) -/

theorem checkpointStart_none {d : Device} (h : d.map.checkpoint = none) :
    checkpointStart d = checkpointBegin (if checkpointDue d then d else waitUntil (d.map.lastCheckpointAt + ms (odVal 0x2A00 2 d)) d) := by
  rw [checkpointStart, h]

theorem checkpointStart_some {d : Device} {c : Checkpoint} (h : d.map.checkpoint = some c) :
    checkpointStart d = { d with map := { d.map with checkpointAgain := true } } := by
  rw [checkpointStart, h]

theorem checkpointComplete_done {d : Device} {c : Checkpoint} (hc : d.map.checkpoint = some c) (hb : c.begun = true)
    (hs : ∀ id ∈ c.stripes, ∀ x, stripeOf id d = some x → x.st = .durable ∨ x.st = .lost)
    (hq : .checkpointDone c.num c.start ∉ d.stripe.queued) (hp : ∀ p ∈ d.stripe.pages, .checkpointDone c.num c.start ∉ p.records) :
    checkpointComplete d = journalRecord (.checkpointDone c.num c.start) d := by
  have hd : (c.stripes.all fun id => match stripeOf id d with
      | some s => s.st == .durable || s.st == .lost
      | none => true) = true := by
    refine List.all_eq_true.2 fun id hid => ?_
    cases hx : stripeOf id d with
    | none => rfl
    | some x => simpa using hs id hid x hx
  have ha : (d.stripe.pages.any fun p => p.records.contains (.checkpointDone c.num c.start)) = false := by simpa using hp
  unfold checkpointComplete
  rw [hc]
  dsimp only
  refine if_pos ?_
  rw [ha, hb, Bool.and_true]
  simp only [Bool.not_false, Bool.and_true, Bool.and_eq_true]
  exact ⟨hd, by simpa using hq⟩

/-- A map page as a fill leaves it. -/
def filled (now : Nat) (p : MapPage) : MapPage := { p with cached := true, lastUse := now }

/-- The device once a page has been filled. -/
def pageFilled (typ lid : Nat) (d : Device) : Device :=
  { d with map := { d.map with pages := d.map.pages.map fun p => if isPage typ lid p then filled d.time.now p else p } }

theorem mapPageFill_held {typ lid : Nat} {d : Device} {p : MapPage} (h : pageOf typ lid d = some p) (hl : p.lost = false) :
    mapPageFill typ lid d = settle (evictPages (pageFilled typ lid d)) := by
  unfold mapPageFill
  rw [h]
  exact if_neg (by rw [hl]; decide)

theorem pageOf_pageFilled (typ lid : Nat) (d : Device) : pageOf typ lid (pageFilled typ lid d) = (pageOf typ lid d).map (filled d.time.now) :=
  find?_map_picked (p := isPage typ lid) (f := filled d.time.now) (fun _ h => h) _

/-! ## Collection (R343 to R349) -/

theorem Spoke.map {a b : Device} (h : Spoke a b) : b.map = a.map := by
  obtain ⟨_, _, _, _, _, _, rfl, -⟩ := h
  rfl

/-- The level of a channel is taken over, and idle time begins again. -/
def levelTaken (c : Nat) (d : Device) : Device :=
  restartIdle { d with map := { d.map with levels := tblStore 0 d.map.levels c (levelOf c d) } }

theorem gcLevelChange_changes {c : Nat} {d : Device} (h : tblGetD d.map.levels c 0 ≠ levelOf c d) (ho : ownsChannel c d = true) :
    gcLevelChange c d = issueClosed (logEvent 0x0B02 0x0042 0 (c * 256 + levelOf c d) (levelTaken c d)) :=
  if_neg (by simp [h, ho])

theorem blockReclaim_best {c : Nat} {d : Device} {b : Block} (ho : ownsChannel c d = true) (hc : collecting d = true) (hl : levelOf c d ≠ 0)
    (hr : outranked (if 2 ≤ levelOf c d then 2 else 5) d = false)
    (hb : bestBy (fun a b : Block => natsLt [a.live, a.writeMin, a.erases] [b.live, b.writeMin, b.erases]) (victims c d) = some b) :
    blockReclaim c d = maybeState3 b.desc (emptyBlock b.desc 3 d) := by
  unfold blockReclaim
  rw [if_neg (by simp [ho, hc, hl, hr]), hb]

theorem blockReclaim_outranked {c : Nat} {d : Device} (h : outranked (if 2 ≤ levelOf c d then 2 else 5) d = true) : blockReclaim c d = d :=
  if_pos (by simp [h])

/-- A channel is marked as levelling. -/
def levels (c : Nat) (d : Device) : Device :=
  { d with map := { d.map with levelling := c :: d.map.levelling.filter (· != c) } }

/-- What goes before wear levelling does not read which channels level. -/
theorem outranked_levels (c : Nat) (d : Device) : outranked 6 (levels c d) = outranked 6 d := by
  have h : ∀ n, n < 6 → reasonWaits n (levels c d) = reasonWaits n d := by
    intro n hn
    match n, hn with
    | 0, _ | 1, _ | 2, _ | 3, _ | 4, _ | 5, _ => rfl
  simp only [outranked, List.range_succ, List.range_zero, List.nil_append, List.any_append, List.any_cons, List.any_nil, Bool.or_false]
  rw [h 0 (by omega), h 1 (by omega), h 2 (by omega), h 3 (by omega), h 4 (by omega), h 5 (by omega)]

theorem wearLevel_levels {c : Nat} {d : Device} (h : levelling c d = true) :
    wearLevel c d = if !ownsChannel c (levels c d) || !collecting (levels c d) || !true || outranked 6 (levels c d) then levels c d
      else match bestBy (fun a b : Block => natsLt [a.erases, a.writeMin] [b.erases, b.writeMin]) (victims c (levels c d)) with
        | none => levels c d
        | some b => maybeState3 b.desc (emptyBlock b.desc 3 (levels c d)) := by
  unfold wearLevel
  rw [h]
  rfl

theorem wearLevel_best {c : Nat} {d : Device} {b : Block} (ho : ownsChannel c d = true) (hc : collecting d = true)
    (hw : odVal 0x2A30 0 d < wearSpread c d) (hr : outranked 6 d = false)
    (hb : bestBy (fun a b : Block => natsLt [a.erases, a.writeMin] [b.erases, b.writeMin]) (victims c d) = some b) :
    wearLevel c d = maybeState3 b.desc (emptyBlock b.desc 3 (levels c d)) := by
  have hg : levelling c d = true := by simp [levelling, hw]
  have ho' : ownsChannel c (levels c d) = ownsChannel c d := rfl
  have hc' : collecting (levels c d) = collecting d := rfl
  have hv : victims c (levels c d) = victims c d := rfl
  rw [wearLevel_levels hg, ho', hc', hv, outranked_levels, ho, hc, hr, hb]
  rfl

theorem blockErase_queues {m : MemberDesc} {d : Device} {b : Block} (hb : blockOf m d = some b) (he : erasable b d = true)
    (ho : ownsChannel m.channel d = true) (hc : collecting d = true)
    (hn : ∀ o ∈ d.media.ops, o.kind = .erase → blockDesc o.desc ≠ blockDesc m) :
    blockErase m d = tryStart d.media.nextOp (opQueued (blankOp .erase (blockDesc m)) d) := by
  have hf : (d.media.ops.any fun o => o.kind == FlashKind.erase && blockDesc o.desc == blockDesc m) = false := by
    simpa using hn
  unfold blockErase
  rw [hb]
  exact if_pos (by simp [he, ho, hc, hf])

/-! ## Refresh and patrol (R383, R384) -/

/-- A block whose refresh begins. -/
def refreshBegins (b : Block) : Block := { b with refreshDue := false }

/-- The device as a refresh begins: the block waits for it no more, and it is counted. -/
def refreshCounted (m : MemberDesc) (d : Device) : Device :=
  odBump 0x3400 0x0A 1 (bumpGroup (m.channel / 8) 4 (onBlock m refreshBegins d))

theorem refreshBlock_moves {m : MemberDesc} {b : Block} {d : Device} (hb : blockOf m d = some b) (hd : b.refreshDue = true) (hs : b.st = 2)
    (he : b.emptying = 0) (ho : ownsChannel m.channel d = true) (hc : collecting d = true) (hr : outranked 3 d = false) :
    refreshBlock m d = maybeState3 m (emptyBlock m 3 (refreshCounted m d)) := by
  unfold refreshBlock
  rw [hb]
  exact if_pos (by simp [hd, hs, he, ho, hc, hr])

theorem blockOf_refreshCounted (m : MemberDesc) (d : Device) : blockOf m (refreshCounted m d) = (blockOf m d).map refreshBegins :=
  blockOf_onBlock (f := refreshBegins) (fun _ => rfl) d

theorem odVal_refreshCounted (m : MemberDesc) (d : Device) :
    odVal 0x3400 0x0A (refreshCounted m d) = min (odVal 0x3400 0x0A d + 1) (odMax 0x3400 0x0A) := by
  rw [refreshCounted, odBump, odVal_odPut]
  rfl

/-- A patrol read that found bit errors is counted. -/
def errorsCounted (m : MemberDesc) (errors : Nat) (d : Device) : Device :=
  if errors == 0 then d else odBump 0x3400 6 1 (bumpGroup (m.channel / 8) 0 d)

theorem errorsCounted_keeps (m : MemberDesc) (errors : Nat) (d : Device) :
    (errorsCounted m errors d).map = d.map ∧ (errorsCounted m errors d).time = d.time ∧
      ∀ g, profileOf g (errorsCounted m errors d) = profileOf g d := by
  unfold errorsCounted
  split_ifs
  · exact ⟨rfl, rfl, fun _ => rfl⟩
  · refine ⟨rfl, rfl, fun g => ?_⟩
    have hb : binding g (odBump 0x3400 6 1 (bumpGroup (m.channel / 8) 0 d)) = binding g d :=
      odVal_odPut_other _ _ (by unfold odKey; omega)
    unfold profileOf
    rw [hb]
    rfl

/-- A block as a sample of the patrol leaves it. -/
def sampled (now band : Nat) (b : Block) : Block := { b with sampledAt := now, sampledBand := band }

/-- The device once the patrol has sampled block `b`. -/
def patrolled (m : MemberDesc) (b : Block) (d : Device) : Device :=
  onBlock m (sampled (minutes d) (blockBand b d))
    { d with media := { d.media with bandChanged := d.media.bandChanged.filter (· != (b.channel, b.target, b.lun, b.block)) } }

/-- The device once the block is also queued for refresh, where its errors ask for it. -/
def patrolQueued (m : MemberDesc) (errors : Nat) (d : Device) : Device := if pastRefreshErrors m errors d then queueRefresh m d else d

/-- The bands that the last unpowered gap changed go before the block. -/
def bandsBefore (b : Block) (d : Device) : Bool :=
  !(bandsDue d).isEmpty && !d.media.bandChanged.contains (b.channel, b.target, b.lun, b.block) && blockBand b d == b.sampledBand

theorem bandsBefore_iff {b : Block} {d : Device} : bandsBefore b d = true ↔
    bandsDue d ≠ [] ∧ (b.channel, b.target, b.lun, b.block) ∉ d.media.bandChanged ∧ blockBand b d = b.sampledBand := by
  simp [bandsBefore, and_assoc]

theorem patrolSample_eq {m : MemberDesc} {errors : Nat} {b : Block} {d : Device} (hb : blockOf m d = some b) (hs : b.st = 2)
    (ho : ownsChannel m.channel d = true) (hw : bandsBefore b d = false) :
    patrolSample m errors d = ageRefresh (patrolQueued m errors (patrolled m b (errorsCounted m errors d))) := by
  unfold patrolSample
  rw [hb]
  dsimp only
  rw [if_neg (by simp [hs, ho]), ← bandsBefore, if_neg (by simp [hw])]
  rfl

theorem patrolSample_waits {m : MemberDesc} {errors : Nat} {b : Block} {d : Device} (hb : blockOf m d = some b) (hw : bandsBefore b d = true) :
    patrolSample m errors d = d := by
  unfold patrolSample
  rw [hb]
  dsimp only
  rw [← bandsBefore, hw, if_pos rfl, ite_self]

theorem blockOf_patrolled {m : MemberDesc} {b c : Block} {d : Device} (h : blockOf m d = some c) :
    blockOf m (patrolled m b d) = some (sampled (minutes d) (blockBand b d) c) := by
  refine (blockOf_onBlock (f := sampled (minutes d) (blockBand b d)) (fun _ => rfl) _).trans ?_
  exact congrArg (Option.map (sampled (minutes d) (blockBand b d))) ((blockOf_congr rfl m).trans h)

/-- The errors that ask for a refresh are those of the block as it was. -/
theorem pastRefreshErrors_patrolled {m : MemberDesc} {errors : Nat} {b : Block} {d : Device} (hb : blockOf m d = some b) :
    pastRefreshErrors m errors (patrolled m b (errorsCounted m errors d)) = pastRefreshErrors m errors d := by
  obtain ⟨hm, ht, hp⟩ := errorsCounted_keeps m errors d
  have h1 := blockOf_patrolled (b := b) ((blockOf_congr hm m).trans hb)
  have h2 : profileOf (m.channel / 8) (patrolled m b (errorsCounted m errors d)) = profileOf (m.channel / 8) d := hp _
  unfold pastRefreshErrors
  rw [h1, h2, hb]
  cases profileOf (m.channel / 8) d <;> rfl

/-- A block that a refresh is asked for. -/
def refreshAsked (b : Block) : Block := if b.st == 2 && !b.slc then { b with refreshDue := true } else b

theorem refreshAsked_isBlock {m : MemberDesc} (b : Block) : isBlock m (refreshAsked b) = isBlock m b := by
  unfold refreshAsked
  split_ifs <;> rfl

theorem refreshAsked_sampledAt (b : Block) : (refreshAsked b).sampledAt = b.sampledAt := by
  unfold refreshAsked
  split_ifs <;> rfl

theorem refreshAsked_due {b : Block} (hs : b.st = 2) (hl : b.slc = false) : (refreshAsked b).refreshDue = true := by
  simp [refreshAsked, hs, hl]

/-- The block once it is sampled, and queued for refresh where its errors ask for it. -/
theorem blockOf_patrolQueued {m : MemberDesc} {errors : Nat} {b : Block} {d : Device} (hb : blockOf m d = some b) (hs : b.st = 2) :
    ∃ c, blockOf m (patrolQueued m errors (patrolled m b (errorsCounted m errors d))) = some c ∧ c.sampledAt = minutes d ∧
      (pastRefreshErrors m errors d = true → b.slc = false → c.refreshDue = true) := by
  obtain ⟨hm, ht, hp⟩ := errorsCounted_keeps m errors d
  have h1 := blockOf_patrolled (b := b) ((blockOf_congr hm m).trans hb)
  have hmin : minutes (errorsCounted m errors d) = minutes d := by rw [minutes, ht, ← minutes]
  unfold patrolQueued
  rw [pastRefreshErrors_patrolled hb]
  split_ifs with he
  · refine ⟨_, (blockOf_onBlock (f := refreshAsked) refreshAsked_isBlock _).trans (congrArg (Option.map refreshAsked) h1), ?_, fun _ hslc => ?_⟩
    · exact (refreshAsked_sampledAt _).trans hmin
    · exact refreshAsked_due hs hslc
  · exact ⟨_, h1, hmin, fun h => absurd h he⟩

/-! ## Compaction of stripes and manifests (R345, R354) -/

/-- The only stripe to compact is chosen, where no other collection work waits and nothing of it is on its way. -/
theorem stripeCompaction_only {x : Stripe} {d : Device} (hc : collecting d = true) (hi : deviceIdle d = true) (hr : outranked 7 d = false)
    (hn : d.stripe.relocs = [])
    (hx : (d.stripe.stripes.filter fun x => x.st == .durable && x.released && decide (0 < validBytes x d) &&
      decide (validBytes x d * 100 ≤ odVal 0x2A00 5 d * dataSpace x.k x.unit)) = [x]) (hp : ∀ p ∈ d.map.pages, p.pending = 0) :
    stripeCompaction d = relocateStripe (fun _ => true) x d := by
  have hbusy : ∀ s : Stripe, ((d.stripe.relocs.any fun r => r.old.any (·.stripe == s.id)) ||
      (s.stream == Stream.map && d.map.pages.any fun p => p.loc != 0 && locStripe p.loc == s.id && p.pending != 0)) = false := by
    intro s
    have ha : (d.map.pages.any fun p => p.loc != 0 && locStripe p.loc == s.id && p.pending != 0) = false := by
      refine List.any_eq_false.2 fun p h => ?_
      simp [hp p h]
    rw [hn, ha]
    simp
  unfold stripeCompaction
  simp only [hbusy, hi, Bool.or_true, if_true, hc, hr, Bool.not_true, Bool.not_false, Bool.or_false, Bool.and_true, Bool.false_eq_true, if_false]
  rw [hx]
  rfl

theorem stripeCompaction_outranked {d : Device} (h : outranked 7 d = true) : stripeCompaction d = d := if_pos (by simp [h])

/-- The one manifest of a sparse page is packed again, after its own locator has gone. -/
theorem compactManifests_only {p : MapPage} {l : Nat × Nat × Nat} {m : Manifest} {d : Device}
    (hp : d.map.pages.find? (fun p => p.typ == 2 && p.lid != d.map.manifestPage && decide (0 < liveManifestBytes p.lid d) &&
      decide (liveManifestBytes p.lid d * 100 < odVal 0x2A00 6 d * pageBody)) = some p)
    (hl : (d.map.locators.filter fun l => l.2.1 / 2 ^ 14 == p.lid) = [l]) (hm : manifestOf l.1 d = some m) :
    compactManifests d = touchMap 1 (indexKey m.ns m.key) (journalRecord
      (.manifestMoved l.2.2 l.2.1 (locatorOf l.1 (packManifest m (dropLocator l.1 d)))) (packManifest m (dropLocator l.1 d))) := by
  unfold compactManifests
  rw [hp]
  dsimp only
  rw [hl, List.foldl_cons, List.foldl_nil, hm]

/-! ## Age and the ledger (R379, R380) -/

/-- The temperatures of a sample. -/
def sampleTemps (temps : List Int) (d : Device) : List Int := (List.range 16).map fun g => temps.getD g (d.media.temps.getD g 0)

/-- The device once a sample of temperatures has been taken. -/
def aged (temps : List Int) (junction : Int) (d : Device) : Device :=
  let ts := sampleTemps temps d
  odPutInt 0x2010 4 2 (ts.foldl max (ts.headD 0)) { d with media := { d.media with
    ages := (d.media.ages.zip ts).map fun x => x.1 + acceleration x.2 (odVal 0x3400 4 d)
    temps := ts
    maxTemps := (d.media.maxTemps.zip ts).map fun x => max x.1 x.2
    groupBins := (d.media.groupBins.zip ts).map fun x => modNth x.1 (tempBin 0 x.2) (· + 1)
    junctionBins := modNth d.media.junctionBins (tempBin 400 junction) (· + 1)
    nextSampleAt := d.time.now + sec 60 } }

theorem ageSample_eq (temps : List Int) (junction : Int) (d : Device) :
    ageSample temps junction d = ageRefresh (aged temps junction (waitUntil d.media.nextSampleAt d)) := rfl

theorem aged_time (temps : List Int) (junction : Int) (d : Device) : (aged temps junction d).time = d.time := rfl

theorem aged_next (temps : List Int) (junction : Int) (d : Device) : (aged temps junction d).media.nextSampleAt = d.time.now + sec 60 := rfl

theorem sampleTemps_getElem? (temps : List Int) (d : Device) {g : Nat} (h : g < 16) :
    (sampleTemps temps d)[g]? = some (temps.getD g (d.media.temps.getD g 0)) := by
  simp [sampleTemps, h]

theorem aged_temps (temps : List Int) (junction : Int) (d : Device) {g : Nat} (h : g < 16) :
    (aged temps junction d).media.temps.getD g 0 = temps.getD g (d.media.temps.getD g 0) := by
  have ht : (aged temps junction d).media.temps = sampleTemps temps d := rfl
  rw [ht, List.getD_eq_getElem?_getD, sampleTemps_getElem? temps d h]
  rfl

theorem aged_ages (temps : List Int) (junction : Int) (d : Device) {g a : Nat} (h : g < 16) (ha : d.media.ages[g]? = some a) :
    (aged temps junction d).media.ages[g]? = some (a + acceleration (temps.getD g (d.media.temps.getD g 0)) (odVal 0x3400 4 d)) := by
  have ht : (aged temps junction d).media.ages = (d.media.ages.zip (sampleTemps temps d)).map fun x => x.1 + acceleration x.2 (odVal 0x3400 4 d) := rfl
  rw [ht, List.getElem?_map, (List.getElem?_zip_eq_some (z := (a, _))).2 ⟨ha, sampleTemps_getElem? temps d h⟩]
  rfl

/-- On a day that the ledger holds already, only the last powered minute moves. -/
theorem ledgerRecord_held {d : Device} (he : d.time.established = true) (hn : d.media.ledger ≠ [])
    (hd : minutes d / 1440 < d.media.ledgerDay + d.media.ledger.length) :
    ledgerRecord d = { d with media := { d.media with lastPowered := minutes d } } := by
  unfold ledgerRecord
  rw [if_neg (by simp [he])]
  exact if_neg (by simp [hn, hd])

theorem ledgerRecord_days {d : Device} (he : d.time.established = true)
    (hd : d.media.ledger = [] ∨ d.media.ledgerDay + d.media.ledger.length ≤ minutes d / 1440) : ledgerRecord d = ledgerDays d := by
  unfold ledgerRecord
  rw [if_neg (by simp [he])]
  exact if_pos (by rcases hd with h | h <;> simp [h])

/-- The ledger reaches today, and holds at most 16,384 days. -/
theorem ledgerDays_today {d : Device} (hd : d.media.ledger = [] ∨ d.media.ledgerDay + d.media.ledger.length ≤ minutes d / 1440) :
    (ledgerDays d).media.ledger.length ≤ 16384 ∧
      (ledgerDays d).media.ledgerDay + (ledgerDays d).media.ledger.length = minutes d / 1440 + 1 ∧
        (ledgerDays d).media.ledger.getLast? = some (ledgerRow d) := by
  unfold ledgerDays
  extract_lets today m first n rows drop
  have hfirst : first + m.ledger.length ≤ today := by
    rcases hd with h | h
    · simp [first, m, h]
    · unfold first m
      split_ifs with hz
      · have h0 : d.media.ledger.length = 0 := by simpa using hz
        omega
      · exact h
  have hlen : rows.length = m.ledger.length + n := by simp [rows]
  have hn : n = today + 1 - (first + m.ledger.length) := rfl
  have hdrop : drop = rows.length - 16384 := rfl
  have hl : (rows.drop drop).length = rows.length - drop := List.length_drop
  dsimp only
  refine ⟨by omega, by rw [hl]; omega, ?_⟩
  rw [List.getLast?_drop, if_neg (by omega), List.getLast?_append_of_ne_nil]
  · simp [List.getLast?_replicate]
    omega
  · simp
    omega

/-- A command whose work leaves the device leaves the state. -/
theorem exec_leaves {c : Instr} {s : State} {f : Device → Device} (hx : exec c s = next s f) (h : f s.dev = s.dev) : exec c s = .next s := by
  rw [hx, next, h]

/-- Settles O38: each command is, in the case its clause names, the function above that the clause names too. -/
theorem mapAndCare : Obligations.MapAndCare := by
  intro s d
  refine ⟨fun c hc => ?again, fun hc => ?start, fun c hc hb hs hq hp => ?complete, fun typ lid p hp hl => ?fill, fun c hl ho => ?level,
    fun c b ho hc => ⟨fun hl hr hb => ?reclaim, fun hw hr hb => ?wear⟩, fun x hc hi hr hn hx hp => ?compact, fun p hp l m hl hm => ?manifest,
    fun m b hb => ⟨fun he ho hc hn => ?erase, fun hd hs he ho hc hr => ?refresh, fun errors hs ho hw => ?patrol, fun errors hn hm hw => ?bands⟩,
    fun c hr => ?reclaimWaits, fun hr => ?compactWaits, fun temps junction => ?age, fun he => ⟨fun hn hd => ?minute, fun hd => ?days⟩⟩
  case again => exact gives_of_eq (f := checkpointStart) rfl (checkpointStart_some hc)
  case start =>
    refine leads_of_eq (s := s) (g := checkpointStart) rfl (checkpointStart_none hc) ⟨fun h => if_pos h, fun h => ?_⟩
    rw [if_neg (by rw [h]; decide)]
    exact le_waitUntil ..
  case complete => exact leads_of_eq (s := s) (g := checkpointComplete) rfl (checkpointComplete_done hc hb hs hq hp) rfl
  case fill =>
    refine leads_of_eq (s := s) (g := mapPageFill typ lid) rfl (mapPageFill_held hp hl) ?_
    rw [pageOf_pageFilled, hp]
    rfl
  case level =>
    refine leads_of_eq (s := s) (g := gcLevelChange c) rfl (gcLevelChange_changes hl ho) ⟨?_, logEvent_logged ..⟩
    rw [(logEvent_spoke ..).map]
    exact tblGetD_tblStore_same ..
  case reclaim => exact leads_of_eq (s := s) (g := blockReclaim c) rfl (blockReclaim_best ho hc hl hr hb) rfl
  case wear => exact leads_of_eq (s := s) (g := wearLevel c) rfl (wearLevel_best ho hc hw hr hb) rfl
  case compact => exact leads_of_eq (s := s) (g := stripeCompaction) rfl (stripeCompaction_only hc hi hr hn hx hp) rfl
  case manifest => exact leads_of_eq (s := s) (g := compactManifests) rfl (compactManifests_only hp hl hm) rfl
  case erase =>
    refine leads_of_eq (s := s) (g := blockErase m) rfl (blockErase_queues hb he ho hc hn) ?_
    exact ⟨_, List.mem_append_right _ (List.mem_singleton.2 rfl), rfl, rfl, rfl⟩
  case refresh =>
    refine leads_of_eq (s := s) (g := refreshBlock m) rfl (refreshBlock_moves hb hd hs he ho hc hr) ⟨?_, odVal_refreshCounted ..⟩
    rw [blockOf_refreshCounted, hb]
    rfl
  case patrol =>
    refine leads_of_eq (s := s) (g := patrolSample m errors) rfl (patrolSample_eq hb hs ho ?_) (blockOf_patrolQueued hb hs)
    refine Bool.eq_false_iff.2 fun hb' => ?_
    obtain ⟨h1, h2, h3⟩ := bandsBefore_iff.1 hb'
    exact hw.elim h1 fun hw => hw.elim h2 fun hw => hw h3
  case bands =>
    exact exec_leaves (f := patrolSample m errors) rfl (patrolSample_waits hb (bandsBefore_iff.2 ⟨hn, hm, hw⟩))
  case reclaimWaits => exact exec_leaves (f := blockReclaim c) rfl (blockReclaim_outranked hr)
  case compactWaits => exact exec_leaves (f := stripeCompaction) rfl (stripeCompaction_outranked hr)
  case age =>
    have hm : (waitUntil d.media.nextSampleAt d).media = d.media := waitUntil_media ..
    refine leads_of_eq (s := s) (g := ageSample temps junction) rfl (ageSample_eq ..) ⟨?_, ?_, fun g hg => ?_, fun g a hg ha => ?_⟩
    · rw [aged_time]
      exact le_waitUntil ..
    · rw [aged_time, aged_next]
    · rw [aged_temps _ _ _ hg, hm]
    · rw [aged_ages _ _ _ hg (by rw [hm]; exact ha), hm, odVal_waitUntil]
  case minute => exact gives_of_eq (f := ledgerRecord) rfl (ledgerRecord_held he hn hd)
  case days =>
    refine gives_of_eq (f := ledgerRecord) rfl ?_
    rw [ledgerRecord_days he hd]
    exact ledgerDays_today hd

end Sys2Proof.Machine
end

section
/-! SUPPORT. How far an event of the link (unit 0x0060) is from the newest in a log of 4,096 events, as condition bits change and what they
post is sent (R118, R121, R164, R502). -/

namespace Sys2Proof.Machine

/-! ## The newest events -/

/-- The newest `k` events are not the link's. -/
structure Buried (k : Nat) (d : Device) : Prop where
  length : d.admin.events.length ≤ 4096
  newest : ∀ e ∈ d.admin.events.take k, e.unit ≠ 0x0060

theorem Buried.of_events {k : Nat} {a b : Device} (h : Buried k a) (he : b.admin.events = a.admin.events) : Buried k b :=
  ⟨by rw [he]; exact h.length, by rw [he]; exact h.newest⟩

theorem Buried.logged {k code unit severity detail : Nat} {d : Device} (h : Buried k d) (hu : unit ≠ 0x0060) :
    Buried (k + 1) (logEvent code unit severity detail d) := by
  refine ⟨List.length_take_le 4096 _, fun e he => ?_⟩
  have he' : e ∈ ((⟨tick d, d.admin.eventSeq + 1, code, unit, severity, detail % 2 ^ 64⟩ : Event) :: d.admin.events).take (k + 1) := by
    have hs : (logEvent code unit severity detail d).admin.events =
        ((⟨tick d, d.admin.eventSeq + 1, code, unit, severity, detail % 2 ^ 64⟩ : Event) :: d.admin.events).take 4096 := rfl
    rw [hs, List.take_take] at he
    exact List.take_subset_take_left _ (min_le_left _ _) he
  rw [List.take_succ_cons, List.mem_cons] at he'
  rcases he' with rfl | he'
  · exact hu
  · exact h.newest e he'

theorem Buried.le {j k : Nat} {d : Device} (h : Buried k d) (hj : j ≤ k) : Buried j d :=
  ⟨h.length, fun e he => h.newest e (List.take_subset_take_left _ hj he)⟩

/-- Nothing of the link is left in a log whose every event is newer. -/
theorem Buried.not_logged {code severity detail : Nat} {d : Device} (h : Buried 4096 d) : ¬ Logged code 0x0060 severity detail d := by
  rintro ⟨e, he, -, hu, -⟩
  refine h.newest e ?_ hu
  rwa [List.take_of_length_le h.length]

/-! ## EMCY and condition bits -/

theorem Buried.sendEmcy {k : Nat} {d : Device} (h : Buried k d) (code event : Nat) : Buried k (sendEmcy code event d) := by
  unfold Machine.sendEmcy logDrops
  dsimp only
  split_ifs
  · exact h
  · exact h.of_events rfl
  · exact h.of_events rfl
  · refine Buried.le (k := k + 1) (Buried.logged ?_ (by decide)) (Nat.le_succ k)
    exact h.of_events rfl
  · exact h.of_events rfl

theorem Buried.raiseEmcy {k : Nat} {d : Device} (h : Buried k d) (key code event : Nat) : Buried k (raiseEmcy key code event d) := by
  refine Buried.sendEmcy ?_ ..
  exact h.of_events rfl

theorem Buried.clearEmcy {k : Nat} {d : Device} (h : Buried k d) (key event : Nat) : Buried k (clearEmcy key event d) := by
  unfold Machine.clearEmcy
  dsimp only
  split_ifs
  · refine Buried.sendEmcy ?_ ..
    exact h.of_events rfl
  · exact h.of_events rfl
  · exact h

/-! ## Sending on a port -/

/-- A counter reports that it has reached its greatest value. -/
def saturationNoted (p n : Nat) (d : Device) : Device :=
  let u := onPort p (fun x => { x with ovf := setBit x.ovf (n - 1) true, ovfReported := setBit x.ovfReported (n - 1) true }) d
  let v := logEvent Config.saturationCode (0x0100 + p) Config.saturationSeverity (Config.saturationDetail p n) u
  if bit (portOf p d).ovfReported (n - 1) then v else raiseEmcy (0x04000000 + p * 256 + n) 0xFF00 (Config.saturationCode % 65536) v

/-- A port with one counter set. -/
def counterSet (p n c : Nat) (d : Device) : Device := onPort p (fun x => { x with mac := x.mac.set (n - 1) c }) d

theorem macBump_eq (p n c : Nat) (d : Device) : macBump p n c d =
    if min ((portOf p d).mac.getD (n - 1) 0 + c) macMax == macMax && (portOf p d).mac.getD (n - 1) 0 != macMax then
      saturationNoted p n (counterSet p n (min ((portOf p d).mac.getD (n - 1) 0 + c) macMax) d)
    else counterSet p n (min ((portOf p d).mac.getD (n - 1) 0 + c) macMax) d := rfl

theorem Buried.saturationNoted {k : Nat} {d : Device} (h : Buried k d) (p n : Nat) : Buried (k + 1) (saturationNoted p n d) := by
  have hl : Buried (k + 1) (logEvent Config.saturationCode (0x0100 + p) Config.saturationSeverity (Config.saturationDetail p n)
      (onPort p (fun x => { x with ovf := setBit x.ovf (n - 1) true, ovfReported := setBit x.ovfReported (n - 1) true }) d)) := by
    refine Buried.logged ?_ (by omega)
    exact h.of_events rfl
  unfold Machine.saturationNoted
  dsimp only
  split_ifs
  · exact hl
  · exact hl.raiseEmcy ..

theorem Buried.counterSet {k : Nat} {d : Device} (h : Buried k d) (p n c : Nat) : Buried k (counterSet p n c d) := h.of_events rfl

theorem Buried.macBump {k : Nat} {d : Device} (h : Buried k d) (p n c : Nat) : Buried k (macBump p n c d) := by
  rw [macBump_eq]
  split_ifs
  · exact ((h.counterSet ..).saturationNoted ..).le (Nat.le_succ k)
  · exact h.counterSet ..

/-- A counter that reaches its greatest value is reported in the log. -/
theorem Buried.macBump_saturates {k p n c : Nat} {d : Device} (h : Buried k d) (ho : (portOf p d).mac.getD (n - 1) 0 = macMax - 1) (hc : 1 ≤ c) :
    Buried (k + 1) (Machine.macBump p n c d) := by
  have hpos : 1 ≤ macMax := by decide
  rw [macBump_eq, ho, if_pos]
  · exact (h.counterSet ..).saturationNoted ..
  · generalize macMax = m at hpos
    have hmin : min (m - 1 + c) m = m := by omega
    rw [hmin, Bool.and_eq_true]
    exact ⟨beq_self_eq_true m, bne_iff_ne.2 (by omega)⟩

theorem Buried.sendNow {k : Nat} {d : Device} (h : Buried k d) (p : Nat) (o : Output) : Buried k (sendNow p o d) := by
  refine Buried.macBump (Buried.macBump ?_ ..) ..
  exact h.of_events rfl

theorem Buried.flushPort {k : Nat} {d : Device} (h : Buried k d) (p : Nat) : Buried k (flushPort d p) := by
  have hf : ∀ (l : List Output) (u : Device), Buried k u → Buried k (l.foldl (fun d o => Machine.sendNow p o d) u) := by
    intro l
    induction l with
    | nil => exact fun u hu => hu
    | cons o l ih => exact fun u hu => ih _ (hu.sendNow p o)
  unfold Machine.flushPort
  split_ifs
  · exact h
  · refine hf _ _ ?_
    exact h.of_events rfl

/-- What a port sends once it has flushed. -/
theorem Buried.flushed {k p : Nat} {o : Output} {d : Device} (h : Buried k (Machine.flushPort d p)) :
    Buried k (if pausedNow p (Machine.flushPort d p) then onPort p (fun x => { x with txWait := x.txWait ++ [o] }) (Machine.flushPort d p)
      else Machine.sendNow p o (Machine.flushPort d p)) := by
  split_ifs
  · exact h.of_events rfl
  · exact h.sendNow ..

theorem Buried.sendOn {k : Nat} {d : Device} (h : Buried k d) (p : Nat) (o : Output) : Buried k (sendOn p o d) := by
  unfold Machine.sendOn
  split
  · exact h.sendNow ..
  · exact h.sendNow ..
  · exact (h.flushPort p).flushed

theorem Buried.sendCompletion {k : Nat} {d : Device} (h : Buried k d) (q : QueueRef) (t : CmdTag) (st : Status) (dw0 dw1 : Nat) (data : Bytes) :
    Buried k (sendCompletion q t st dw0 dw1 data d) := by
  unfold Machine.sendCompletion
  dsimp only
  refine Buried.sendOn ?_ ..
  split_ifs
  · exact h.sendOn ..
  · exact h

theorem Buried.complete {k : Nat} {d : Device} (h : Buried k d) (q : QueueRef) (t : CmdTag) (st : Status) (dw0 dw1 : Nat) (data : Bytes) :
    Buried k (complete q t st dw0 dw1 data d) := by
  have hs : Buried k (if reachable q d then Machine.sendCompletion q t st dw0 dw1 data d else d) := by
    split_ifs
    · exact h.sendCompletion ..
    · exact h
  unfold Machine.complete
  dsimp only
  generalize (if reachable q d then Machine.sendCompletion q t st dw0 dw1 data d else d) = u at hs ⊢
  split_ifs
  · exact hs
  · exact hs.of_events rfl

theorem Buried.aenUpdate {k : Nat} {d : Device} (h : Buried k d) (f : Assoc → Assoc × Option (QueueRef × CmdTag × Nat)) : Buried k (aenUpdate f d) := by
  have hf : ∀ (l : List (Assoc × Option (QueueRef × CmdTag × Nat))) (u : Device), Buried k u → Buried k (l.foldl (fun d x => match x.2 with
      | some r => Machine.complete r.1 r.2.1 .success r.2.2 0 [] d
      | none => d) u) := by
    intro l
    induction l with
    | nil => exact fun u hu => hu
    | cons x l ih =>
      intro u hu
      rw [List.foldl_cons]
      refine ih _ ?_
      rcases x with ⟨a, _ | r⟩
      · exact hu
      · exact hu.complete ..
  refine hf _ _ ?_
  exact h.of_events rfl

theorem Buried.refreshWarning {k : Nat} {d : Device} (h : Buried k d) : Buried k (refreshWarning d) := by
  have hf : ∀ (l : List Nat) (u : Device), Buried k u → Buried k (l.foldl (fun u n =>
      if bit (criticalWarning d) n && !bit d.admin.criticalWarning n then aenPost (fun _ => true) 1 (warningInfo n) 0x02 n u else u) u) := by
    intro l
    induction l with
    | nil => exact fun u hu => hu
    | cons n l ih =>
      intro u hu
      rw [List.foldl_cons]
      refine ih _ ?_
      split_ifs
      · exact hu.aenUpdate _
      · exact hu
  refine hf _ { d with admin := { d.admin with criticalWarning := criticalWarning d } } ?_
  exact h.of_events rfl

/-! ## Ports whose counters are about to reach their greatest value -/

/-- A port with link, one counted frame short of the greatest value of its counters, and a frame that waits. -/
def brimPort : Port := { Reset.port with link := 2, mac := List.replicate 15 (macMax - 1), txWait := [.port 0 (.pause 0)], pfcUntil := [] }

/-- An association on port `p` with one Asynchronous Event Request outstanding. -/
def askingAssoc (p : Nat) : Assoc := ⟨p, 0, 1, false, 0, 0, 64, 0, 0, 0, false, 1, 32, 0, [⟨0, 0, false⟩], [], []⟩

/-- Its request is answered. -/
def answeredAssoc (p : Nat) : Assoc := ⟨p, 0, 1, false, 0, 0, 64, 0, 0, 0, false, 1, 32, 0, [], [], [(7, 0xC5)]⟩

theorem pausedNow_brim {p : Nat} {d : Device} (h : portOf p d = brimPort) : pausedNow p d = false := by
  unfold pausedNow
  rw [h]
  split_ifs <;> rfl

/-- The frame that waits goes out before a completion, and the counter of frames is reported. -/
theorem Buried.complete_brim {k p : Nat} {t : CmdTag} {dw0 : Nat} {d : Device} (h : Buried k d) (hp : portOf p d = brimPort)
    (hl : p < d.ports.ports.length) (ha : ∃ a ∈ d.ports.assocs, a.port = p ∧ a.assoc = 0) :
    Buried (k + 1) (Machine.complete ⟨p, 0, 0⟩ t .success dw0 0 [] d) := by
  have hr : reachable ⟨p, 0, 0⟩ d = true := by
    obtain ⟨a, ha, hap, haa⟩ := ha
    have hlink : (portOf p d).link = 2 := by rw [hp]; rfl
    rw [reachable, Bool.and_eq_true]
    exact ⟨beq_of_eq hlink, List.any_eq_true.2 ⟨a, ha, by simp [hap, haa]⟩⟩
  have hw : (portOf p d).txWait = [.port 0 (.pause 0)] := by rw [hp]; rfl
  have hf : Machine.flushPort d p = Machine.sendNow p (.port 0 (.pause 0)) (onPort p (fun x => { x with txWait := [] }) d) := by
    unfold Machine.flushPort
    rw [hw, pausedNow_brim hp, List.foldl_cons, List.foldl_nil]
    exact if_neg (by decide)
  have hb : Buried (k + 1) (Machine.flushPort d p) := by
    rw [hf]
    refine Buried.macBump (Buried.macBump_saturates ?_ ?_ (le_refl 1)) p 0x0C _
    · exact h.of_events rfl
    show (portOf p (onPort p (fun x => { x with txWait := [] }) d)).mac.getD 10 0 = macMax - 1
    rw [portOf_onPort_self hl, hp]
    rfl
  unfold Machine.complete
  rw [hr]
  simp only [Machine.sendCompletion, List.isEmpty_nil, Bool.not_true, Bool.and_false, Bool.false_eq_true, if_false, if_true]
  exact hb.flushed

/-! ## A port sends, and the others stand -/

/-- Every port but `p` stands. -/
structure Elsewhere (p : Nat) (a b : Device) : Prop where
  length : b.ports.ports.length = a.ports.ports.length
  ports : ∀ q, q ≠ p → portOf q b = portOf q a

theorem Elsewhere.refl (p : Nat) (a : Device) : Elsewhere p a a := ⟨rfl, fun _ _ => rfl⟩

theorem Elsewhere.trans {p : Nat} {a b c : Device} (h : Elsewhere p a b) (k : Elsewhere p b c) : Elsewhere p a c :=
  ⟨k.length.trans h.length, fun q hq => (k.ports q hq).trans (h.ports q hq)⟩

theorem onPort_elsewhere (p : Nat) (f : Port → Port) (d : Device) : Elsewhere p d (onPort p f d) :=
  ⟨onPort_ports_length .., fun q hq => by rw [portOf_onPort, if_neg fun h => hq h.1]⟩

theorem macBump_elsewhere (p n c : Nat) (d : Device) : Elsewhere p d (macBump p n c d) :=
  ⟨macBump_ports_length .., fun q hq => by
    obtain ⟨_, _, h⟩ := macBump_portOf p q n c d
    rw [h, if_neg fun h => hq h.1]⟩

theorem sendNow_elsewhere (p : Nat) (o : Output) (d : Device) : Elsewhere p d (sendNow p o d) := by
  have he : Elsewhere p d (emit o d) := ⟨rfl, fun _ _ => rfl⟩
  exact he.trans ((macBump_elsewhere ..).trans (macBump_elsewhere ..))

theorem flushPort_elsewhere (p : Nat) (d : Device) : Elsewhere p d (flushPort d p) := by
  have hf : ∀ (l : List Output) (u : Device), Elsewhere p u (l.foldl (fun d o => sendNow p o d) u) := by
    intro l
    induction l with
    | nil => exact fun u => .refl p u
    | cons o l ih => exact fun u => (sendNow_elsewhere p o u).trans (ih _)
  unfold flushPort
  split_ifs
  · exact .refl p d
  · exact (onPort_elsewhere ..).trans (hf ..)

theorem sendOn_elsewhere (p : Nat) (o : Output) (d : Device) : Elsewhere p d (sendOn p o d) := by
  have hw : Elsewhere p d (if pausedNow p (flushPort d p) then onPort p (fun x => { x with txWait := x.txWait ++ [o] }) (flushPort d p)
      else sendNow p o (flushPort d p)) := by
    split_ifs
    · exact (flushPort_elsewhere p d).trans (onPort_elsewhere ..)
    · exact (flushPort_elsewhere p d).trans (sendNow_elsewhere ..)
  unfold sendOn
  split
  · exact sendNow_elsewhere ..
  · exact sendNow_elsewhere ..
  · exact hw

theorem complete_elsewhere (q : QueueRef) (t : CmdTag) (dw0 dw1 : Nat) (d : Device) :
    Elsewhere q.port d (complete q t .success dw0 dw1 [] d) := by
  have hs : complete q t .success dw0 dw1 [] d = if reachable q d then
      sendOn q.port (.completion q t.cid .success dw0 dw1 [] (flowOf q t.inval d)) d else d := by
    simp only [complete, sendCompletion, List.isEmpty_nil, Bool.not_true, Bool.and_false, Bool.false_eq_true, if_false]
    rfl
  rw [hs]
  split_ifs
  · exact sendOn_elsewhere ..
  · exact .refl _ d

theorem Spoke.assocs {a b : Device} (h : Spoke a b) : b.ports.assocs = a.ports.assocs := by
  obtain ⟨_, _, _, _, _, _, rfl, -⟩ := h
  rfl

/-! ## An event posted to every association -/

/-- Ports `m` to `n` are brimming, and each has an association. -/
structure Brims (m n : Nat) (d : Device) : Prop where
  length : n ≤ d.ports.ports.length
  ports : ∀ p, m ≤ p → p < n → portOf p d = brimPort
  assocs : ∀ p < n, ∃ a ∈ d.ports.assocs, a.port = p ∧ a.assoc = 0

theorem Brims.complete {m n : Nat} {d : Device} (h : Brims m n d) (t : CmdTag) (dw0 : Nat) :
    Brims (m + 1) n (complete ⟨m, 0, 0⟩ t .success dw0 0 [] d) := by
  have he := complete_elsewhere ⟨m, 0, 0⟩ t dw0 0 d
  have hs : Spoke d (Machine.complete ⟨m, 0, 0⟩ t .success dw0 0 [] d) := complete_spoke ⟨rfl, rfl⟩
  refine ⟨he.length ▸ h.length, fun p hp hpn => ?_, fun p hp => hs.assocs ▸ h.assocs p hp⟩
  rw [he.ports p (Nat.ne_of_gt hp)]
  exact h.ports p (Nat.le_of_succ_le hp) hpn

/-- What a condition's change posts to the association of port `p`. -/
def conditionPosted (p : Nat) : Assoc × Option (QueueRef × CmdTag × Nat) :=
  (answeredAssoc p, some (⟨p, 0, 0⟩, ⟨0, 0, false⟩, 0xC5 * 65536 + 7))

/-- Each answer fills the counters of its port, and is reported. -/
theorem buried_of_answers : ∀ (j m k : Nat) (d : Device), Buried k d → Brims m (m + j) d →
    Buried (k + j) (((List.range' m j).map conditionPosted).foldl (fun d x => match x.2 with
      | some r => Machine.complete r.1 r.2.1 .success r.2.2 0 [] d
      | none => d) d)
  | 0, _, _, _, h, _ => h
  | j + 1, m, k, d, h, hb => by
    have hc := h.complete_brim (t := ⟨0, 0, false⟩) (dw0 := 0xC5 * 65536 + 7) (hb.ports m (le_refl m) (by omega))
      (lt_of_lt_of_le (by omega) hb.length) (hb.assocs m (by omega))
    have hn := hb.complete ⟨0, 0, false⟩ (0xC5 * 65536 + 7)
    have := buried_of_answers j (m + 1) (k + 1) _ hc (by rwa [Nat.add_right_comm, Nat.add_assoc])
    rw [List.range'_succ, List.map_cons, List.foldl_cons, Nat.add_comm j 1, ← Nat.add_assoc]
    exact this

/-- A device whose `n` ports brim. -/
structure Flooded (n : Nat) (d : Device) : Prop where
  ports : d.ports.ports = List.replicate n brimPort
  assocs : d.ports.assocs = (List.range n).map askingAssoc

theorem aenPost_asking (p : Nat) : (if (fun _ => true) (askingAssoc p) && !(askingAssoc p).discovery && aenEnabled (askingAssoc p).aec 7 0x00 0 then
    aenDeliver (if (askingAssoc p).events.contains (7, 0x00, 0xC5) then askingAssoc p
      else { askingAssoc p with events := (askingAssoc p).events ++ [(7, 0x00, 0xC5)] })
    else (askingAssoc p, none)) = conditionPosted p := rfl

theorem Buried.posted {k n : Nat} {d : Device} (h : Buried k d) (hf : Flooded n d) :
    Buried (k + n) (aenPost (fun _ => true) 7 0x00 0xC5 0 d) := by
  have hm : (d.ports.assocs.map fun a => if (fun _ => true) a && !a.discovery && aenEnabled a.aec 7 0x00 0 then
      aenDeliver (if a.events.contains (7, 0x00, 0xC5) then a else { a with events := a.events ++ [(7, 0x00, 0xC5)] })
      else (a, none)) = (List.range' 0 n).map conditionPosted := by
    rw [hf.assocs, List.map_map, List.range_eq_range']
    exact List.map_congr_left fun p _ => aenPost_asking p
  unfold aenPost Machine.aenUpdate
  dsimp only at hm ⊢
  rw [hm]
  refine buried_of_answers n 0 k _ (h.of_events rfl) ⟨?_, fun p _ hp => ?_, fun p hp => ?_⟩
  · simp [hf.ports]
  · simp only [portOf, hf.ports]
    simp [List.getD_eq_getElem?_getD, List.getElem?_replicate] at hp ⊢
    simp [hp]
  · exact ⟨answeredAssoc p, List.mem_map.2 ⟨conditionPosted p, List.mem_map.2 ⟨p, by simpa using hp, rfl⟩, rfl⟩, rfl, rfl⟩

/-! ## A fence that its own consequences drive out of the log -/

theorem refreshRanks_ports (d : Device) : (refreshRanks d).ports = d.ports ∧ (refreshRanks d).conditions = d.conditions := by
  unfold refreshRanks
  dsimp only
  split_ifs <;> exact ⟨rfl, rfl⟩

theorem Buried.refreshRanks {k : Nat} {d : Device} (h : Buried k d) : Buried k (refreshRanks d) := by
  unfold Machine.refreshRanks
  dsimp only
  split_ifs
  · refine Buried.le (k := k + 1) (Buried.logged ?_ (by decide)) (Nat.le_succ k)
    exact h.of_events rfl
  all_goals exact h.of_events rfl

/-- The condition of the link clears on a device with 4,096 ports or more that brim: what it posts drives every event of the link out of the log. -/
theorem linkCond_buries {n : Nat} {d : Device} (hn : 4096 ≤ n) (h : Buried 0 d) (hf : Flooded n d) (hc : bit d.conditions 1 = true) (hs : d.peer.st = 5) :
    Buried 4096 (refreshLinkCond d) := by
  have hb : (!linkIsUp d && (d.peer.st == 2 || d.peer.st == 3 || d.peer.st == 4)) = false := by rw [hs]; simp
  have hl : Buried 1 (logEvent 0x0201 0x0040 (b2n false) (1 * 256 + b2n false) { d with conditions := setBit d.conditions 1 false }) := by
    refine Buried.logged ?_ (by decide)
    exact h.of_events rfl
  have hp := Buried.posted hl (n := n) ⟨hf.ports, hf.assocs⟩
  unfold refreshLinkCond
  rw [hb]
  unfold setCond
  rw [hc]
  exact (hp.refreshWarning).le (by omega)

/-- Such a device asserts its fence: the fence's own event is no longer in the log. -/
theorem assertFence_buries {n cause : Nat} {d : Device} (hn : 4096 ≤ n) (ho : d.peer.fenceOut = false) (ht : d.admin.selfTest = none) (ha : d.peer.arbState = 0)
    (hf : Flooded n d) (hc : bit d.conditions 1 = true) : Buried 4096 (assertFence cause d) := by
  have hend : endSelfTest 2 0 d = d := by rw [endSelfTest, ht]
  have hl : ∀ u : Device, Buried 0 (logEvent 0x0E04 0x0060 2 cause u) := fun u => ⟨List.length_take_le 4096 _, fun e he => by simp at he⟩
  unfold assertFence
  rw [ho, ha]
  simp only [Bool.false_eq_true, if_false, Nat.reduceBEq, Bool.false_and, hend]
  refine linkCond_buries hn (hl _).refreshRanks ⟨?_, ?_⟩ ?_ ?_
  · rw [(refreshRanks_ports _).1]
    exact hf.ports
  · rw [(refreshRanks_ports _).1]
    exact hf.assocs
  · rw [(refreshRanks_ports _).2]
    exact hc
  · rw [refreshRanks_peer]
    rfl

/-- The device with `n` ports that brim, in a condition of the link. -/
def flooded (n : Nat) (d : Device) : Device := { d with
  conditions := 2, ports := { d.ports with ports := List.replicate n brimPort, assocs := (List.range n).map askingAssoc } }

/-- A device out of reset that has lost its peer, and whose fence delay is over. -/
def survivor (due : Option Nat) : Device := { Reset.dev with peer := { Reset.dev.peer with st := 3, fenceDue := due } }

theorem exec_surviveFenceDelay {s : State} {due : Nat} (hd : s.dev.peer.fenceDue = some due) (hw : due ≤ s.dev.time.now) (hs : s.dev.peer.st = 3) :
    exec .surviveFenceDelay s = next s fun d => assertFence 1 { d with peer := { d.peer with fenceDue := none } } := by
  have hx : exec .surviveFenceDelay s = execSurviveFenceDelay s := rfl
  rw [hx]
  unfold execSurviveFenceDelay
  refine next_congr ?_
  rw [hd]
  dsimp only
  rw [waitUntil, if_pos hw, hs]
  exact if_pos (by decide)

/-- Refutes O28: the statement bounds neither the ports nor their counters. Where a survivor's fence clears the condition of the link, each of
4,096 ports that its notice goes out on reports a saturated counter, and those events drive 0x0E04 out of a log of 4,096. (With the eight ports
of the part the event stays.) -/
theorem not_peerLiveness : ¬ Obligations.PeerLiveness := by
  intro h
  obtain ⟨n, hn⟩ : ∃ n, 4096 ≤ n := ⟨4096, le_refl 4096⟩
  obtain ⟨-, -, -, -, -, -, hsurvive, -⟩ := h ⟨flooded n (survivor (some 0)), []⟩
  obtain ⟨t, ht, -, -, -, -, hlog⟩ := hsurvive 0 rfl (.inl rfl) rfl
  rw [exec_surviveFenceDelay (due := 0) rfl (Nat.zero_le _) rfl] at ht
  rw [← Host.Outcome.next.inj ht] at hlog
  refine (assertFence_buries hn rfl rfl rfl ⟨rfl, rfl⟩ ?_).not_logged hlog
  show bit 2 1 = true
  decide

end Sys2Proof.Machine
end

section
/-! SUPPORT. A HELLO that a serving peer cannot agree with, and the fence that follows; O27 (R440, R446). -/

namespace Sys2Proof.Machine

/-- A HELLO of the other side, of another major revision, that does not serve, is refused with a fence. -/
theorem hello_fences {m : HelloMsg} {d : Device} (h2 : d.peer.st = 2) (ho : d.peer.fenceOut = false) (ht : d.peer.takeover = none)
    (hc : helloCheck m d = 3) (hr : isReady d = true) (hm : m.serving = false) :
    hello m d = assertFence 4 (logEvent 0x0E0A 0x0060 2 3 { d with peer := { d.peer with peerRevision := m.revision, helloSeen := true } }) := by
  have hs : serving d = true := by simp [serving, hr, h2]
  have hg : (d.peer.st == 6 || d.peer.st == 7 || d.peer.fenceOut || d.peer.takeover.isSome) = false := by simp [h2, ho, ht]
  have hn : serving (logEvent 0x0E0A 0x0060 2 3 { d with peer := { d.peer with peerRevision := m.revision, helloSeen := true } }) = serving d := rfl
  have hk : helloCheck m { d with peer := { d.peer with peerRevision := m.revision, helloSeen := true } } = helloCheck m d := rfl
  unfold hello
  dsimp only
  rw [if_neg (by rw [hg]; decide), hk, hc, if_pos (by decide)]
  unfold refuse
  dsimp only
  rw [hn, hs, hm]
  rfl

/-- The HELLO that `d` cannot agree with. -/
def strangeHello (d : Device) : HelloMsg := ⟨0, 1 - d.side, false, (majorOf (activeRevision d) + 1) * 65536, 0, 0, [], [], 0, 0⟩

theorem helloCheck_strange {a d : Device} (hs : a.side = d.side) (hf : a.fw = d.fw) (hd : d.side = 0) : helloCheck (strangeHello d) a = 3 := by
  have hr : activeRevision a = activeRevision d := by
    unfold activeRevision activeImage
    rw [hf]
  have hm : majorOf (strangeHello d).revision = majorOf (activeRevision d) + 1 := Nat.mul_div_cancel _ (by decide)
  unfold helloCheck
  rw [hm, hr, hs, hd]
  simp [strangeHello, hd]

/-- A peer with its link up, ready, in state 2. -/
def greeter : Device := { Reset.dev with
  power := { Reset.dev.power with run := .ready }, peer := { Reset.dev.peer with st := 2, link := 2 } }

/-- Its next frame. -/
def nextFrame : FrameHdr := ⟨true, 1, 0, 0, false, 64⟩

theorem nextFrame_taken (n : Nat) : FrameTaken nextFrame 0 (flooded n greeter) := ⟨rfl, rfl⟩

/-- Refutes O27: as of O28, the statement bounds neither the ports nor their counters. Where the fence that a HELLO brings about clears the
condition of the link, each of 4,096 ports that its notice goes out on reports a saturated counter, and those events drive 0x0E04 out of a log
of 4,096. -/
theorem not_linkFrames : ¬ Obligations.LinkFrames := by
  intro h
  obtain ⟨n, hn⟩ : ∃ n, 4096 ≤ n := ⟨4096, le_refl 4096⟩
  obtain ⟨-, -, -, -, hhello, -⟩ := h ⟨flooded n greeter, []⟩ nextFrame
  have hk := nextFrame_taken n
  obtain ⟨-, -, hfence⟩ := hhello (strangeHello (flooded n greeter)) hk (by show 2 ≠ 6; decide) (by show 2 ≠ 7; decide) rfl rfl
  have hc : helloCheck (strangeHello (flooded n greeter)) (flooded n greeter) = 3 := helloCheck_strange rfl rfl rfl
  obtain ⟨t, ht, -, -, hlog⟩ := hfence (by rw [hc]; decide) rfl rfl
  have hx : exec (.hello nextFrame (strangeHello (flooded n greeter))) ⟨flooded n greeter, []⟩ =
      next ⟨flooded n greeter, []⟩ (acceptFrame nextFrame 0 (hello (strangeHello (flooded n greeter)))) := rfl
  rw [hx, next, acceptFrame_taken hk] at ht
  rw [← Host.Outcome.next.inj ht] at hlog
  obtain ⟨classes, unacked, waiting, cells, out, he, -⟩ := arrived_linkWorked nextFrame 0 (flooded n greeter)
  have hf := hello_fences (m := strangeHello (flooded n greeter)) (d := arrived nextFrame 0 (flooded n greeter)) (by rw [he]; rfl) (by rw [he]; rfl)
    (by rw [he]; rfl) (helloCheck_strange (by rw [he]) (by rw [he]) rfl) (by rw [he]; rfl) rfl
  dsimp only at hlog
  rw [hf, he] at hlog
  refine (assertFence_buries hn rfl rfl rfl ⟨rfl, rfl⟩ ?_).not_logged hlog
  show bit 2 1 = true
  decide

end Sys2Proof.Machine
end

section
/-! SUPPORT. The timebase through the work of the hosts: messages, copies, claims and the ends of commands leave it as it is (R198,
R203 to R207, R400). -/

namespace Sys2Proof.Machine

/-! ## Values, messages, copies -/

theorem foldl_clock {α : Type} {f : Device → α → Device} (hf : ∀ d x, (f d x).time = d.time) (l : List α) (d : Device) :
    (l.foldl f d).time = d.time := foldl_eq_of_step Device.time hf l d

@[simp] theorem logEvent_clock (code unit severity detail : Nat) (d : Device) : (logEvent code unit severity detail d).time = d.time := rfl

@[simp] theorem sendLink_clock (m : LinkMsg) (d : Device) : (sendLink m d).time = d.time := sendLink_time m d

@[simp] theorem odBump_clock (idx sub n : Nat) (d : Device) : (odBump idx sub n d).time = d.time := rfl

@[simp] theorem complete_clock (q : QueueRef) (t : CmdTag) (st : Status) (dw0 dw1 : Nat) (data : Bytes) (d : Device) :
    (complete q t st dw0 dw1 data d).time = d.time := by
  obtain ⟨u, m, hu, he⟩ := complete_eq q t st dw0 dw1 data d
  rw [he]
  exact hu.time

@[simp] theorem setCond_clock (n : Nat) (b : Bool) (d : Device) : (setCond n b d).time = d.time :=
  setCond_unseen (f := Device.time) Spoke.time (fun _ _ => rfl) (fun _ _ => rfl) (fun _ _ => rfl) ..

@[simp] theorem hotInsert_clock (domain : Nat) (fp : Bytes) (copy : Nat) (d : Device) : (hotInsert domain fp copy d).time = d.time := by
  unfold hotInsert
  split
  · rfl
  · dsimp only
    split_ifs <;> rfl

@[simp] theorem hotRemove_clock (domain : Nat) (fp : Bytes) (copy : Nat) (d : Device) : (hotRemove domain fp copy d).time = d.time := by
  unfold hotRemove
  split
  · rfl
  · split
    · split_ifs <;> rfl
    · rfl

@[simp] theorem evictPages_clock (d : Device) : (evictPages d).time = d.time := by
  unfold evictPages
  dsimp only
  split_ifs
  · rfl
  · split <;> rfl

@[simp] theorem touchMap_clock (typ : Nat) (key : Bytes) (d : Device) : (touchMap typ key d).time = d.time := by
  unfold touchMap applyPage
  split
  · rfl
  · simp

@[simp] theorem settleSalt_clock (dom : Nat) (d : Device) : (settleSalt dom d).time = d.time := by
  unfold settleSalt
  split <;> simp

@[simp] theorem invalidateCopy_clock (c : Copy) (d : Device) : (invalidateCopy c d).time = d.time := by
  unfold invalidateCopy
  split
  · rfl
  · simp [foldl_clock, onBlock]

@[simp] theorem killCopy_clock (c : Copy) (d : Device) : (killCopy c d).time = d.time := by
  simp [killCopy, buryCopy, recordCopy, journalRecord, dropCache, onCopy]

@[simp] theorem pinCopy_clock (c : Copy) (d : Device) : (pinCopy c d).time = d.time := by
  simp [pinCopy, recordCopy, journalRecord, onCopy]

@[simp] theorem claimAt_clock (dom : Nat) (fp : Bytes) (who : Bool × Nat) (d : Device) : (claimAt dom fp who d).2.time = d.time := by
  unfold claimAt
  split
  next c _ =>
    have hc (u : Device) (hu : u.time = d.time) : (if c.refs + 1 == refMax then pinCopy c u else u).time = d.time := by
      split <;> simp [hu]
    refine hc _ ?_
    dsimp only [onCopy]
    split <;> simp
  · simp [addCopy]

@[simp] theorem sendFpReq_clock (r : LinkReq) (d : Device) : (sendFpReq r d).time = d.time := by
  unfold sendFpReq
  split <;> simp

@[simp] theorem askOwner_clock (what : ReqFor) (dom : Nat) (fp : Bytes) (num : Nat) (d : Device) : (askOwner what dom fp num d).time = d.time := by
  unfold askOwner
  split <;> simp [newReq]

@[simp] theorem releaseAt_clock (dom : Nat) (fp : Bytes) (num : Nat) (who : Bool × Nat) (d : Device) :
    (releaseAt dom fp num who d).time = d.time := by
  unfold releaseAt
  split
  · rfl
  · dsimp only
    split_ifs
    · rfl
    · simp
    · simp [dropCopy]
    · rfl
    · split
      · rfl
      · split <;> simp [storeAgain, onCopy]

@[simp] theorem releaseClaim_clock (dom : Nat) (fp : Bytes) (num cmd : Nat) (claim : Option Nat) (d : Device) :
    (releaseClaim dom fp num cmd claim d).time = d.time := by
  unfold releaseClaim
  split
  · simp
  · split
    · simp
    · dsimp only
      split <;> simp

/-! ## Ends of commands -/

@[simp] theorem postFor_clock (c : Cmd) (st : Status) (dw0 dw1 : Nat) (data : Bytes) (d : Device) :
    (postFor c st dw0 dw1 data d).time = d.time := by
  have hc : ∀ u, (countHost c st data u).time = u.time := fun u => by
    unfold countHost
    split <;> rfl
  unfold postFor
  split
  · split <;> simp
  · split_ifs
    · rfl
    · rfl
    · simp [hc]

@[simp] theorem releaseFlushed_clock (ns : Nat) (i : Item) (d : Device) : (releaseFlushed ns i d).time = d.time := by
  unfold releaseFlushed
  split <;> rfl

@[simp] theorem discardItem_clock (cmd : Nat) (i : Item) (d : Device) : (discardItem cmd i d).time = d.time := by
  have hc : (i.chunks.foldl (fun d w => match w.claimed, w.copy with
      | true, some n => releaseClaim i.domain w.fp n cmd w.claim d
      | _, _ => d) d).time = d.time := foldl_clock (fun d w => by split <;> simp) _ d
  unfold discardItem
  dsimp only
  rw [releaseFlushed_clock]
  split
  · exact (sendLink_clock ..).trans hc
  · exact hc

@[simp] theorem removeCmd_clock (c : Cmd) (d : Device) : (removeCmd c d).time = d.time := by
  have ha : ∀ u, (ackInvalidates u).time = u.time := fun u => foldl_clock (fun d x => sendLink_clock ..) _ (acksSettled u)
  have he : ∀ f u, (endRemote c f u).time = u.time := fun f u => by
    unfold endRemote
    split_ifs <;> simp
  unfold removeCmd
  dsimp only
  split
  · exact (he _ _).trans (ha _)
  · exact ha _

@[simp] theorem doneCmd_clock (id : Nat) (st : Status) (dw0 dw1 : Nat) (data : Bytes) (d : Device) :
    (doneCmd id st dw0 dw1 data d).time = d.time := by
  unfold doneCmd
  split <;> simp

@[simp] theorem failCmd_clock (id : Nat) (st : Status) (dw0 : Nat) (d : Device) : (failCmd id st dw0 d).time = d.time := by
  unfold failCmd
  split
  · rfl
  next c _ =>
    have hi : (c.items.foldl (fun d i => discardItem id i d) d).time = d.time := foldl_clock (fun d i => discardItem_clock id i d) _ d
    dsimp only
    rw [postFor_clock, removeCmd_clock]
    split
    · exact hi
    · exact hi

end Sys2Proof.Machine
end

section
/-! SUPPORT. The tripped sources of an alarm through the steps of the commands: reads and writes draw words and send salts, and trip
or clear no source (R148 to R152, R190, R264, R268). -/

namespace Sys2Proof.Machine

/-! ## Forwarding -/

@[simp] theorem onCmd_clock (id : Nat) (f : Cmd → Cmd) (d : Device) : (onCmd id f d).time = d.time := rfl

@[simp] theorem setPhase_clock (id : Nat) (p : Phase) (d : Device) : (setPhase id p d).time = d.time := rfl

@[simp] theorem onItem_clock (id n : Nat) (f : Item → Item) (d : Device) : (onItem id n f d).time = d.time := rfl

@[simp] theorem postHost_clock (bucket : Nat) (w : WorkDesc) (d : Device) : (postHost bucket w d).time = d.time := rfl

@[simp] theorem newReq_clock (what : ReqFor) (domain : Nat) (fp : Bytes) (copy : Nat) (d : Device) : (newReq what domain fp copy d).2.time = d.time := rfl

@[simp] theorem sendCmd_clock (id : Nat) (d : Device) : (sendCmd id d).time = d.time := by
  unfold sendCmd
  split
  · rfl
  next c _ =>
    have hr : (match c.fwdTo with
        | some f => (f, d)
        | none => nextForward d).2.time = d.time := by split <;> rfl
    dsimp only
    split_ifs
    · exact (sendLink_clock ..).trans hr
    · exact (sendLink_clock ..).trans ((sendLink_clock ..).trans hr)

@[simp] theorem forwardPart_clock (c : Cmd) (cap : Capsule) (d : Device) : (forwardPart c cap d).2.time = d.time := sendCmd_clock ..

@[simp] theorem forwardShare_clock (id : Nat) (d : Device) : (forwardShare id d).time = d.time := by
  unfold forwardShare
  split <;> simp

@[simp] theorem gatherRange_clock (id : Nat) (d : Device) : (gatherRange id d).time = d.time := by
  unfold gatherRange
  split <;> simp

/-! ## Reads -/

@[simp] theorem loseCopy_clock (dom : Nat) (fp : Bytes) (num : Nat) (d : Device) : (loseCopy dom fp num d).time = d.time := by
  have ht : ∀ u, (truncateLost u).time = u.time := fun u => by
    unfold truncateLost
    dsimp only
    split <;> simp
  have ha : ∀ cls id bitmap u, (addLost 2 cls id bitmap 1 u).time = u.time := fun cls id bitmap u => by
    unfold addLost
    rw [setCond_clock]
    split
    · exact ht u
    · rfl
  unfold loseCopy
  split
  · rfl
  · split
    · rfl
    · refine (hotRemove_clock ..).trans (foldl_clock (fun u id => ?_) _ d)
      exact (logEvent_clock ..).trans (ha ..)

theorem peerMember_clock (stripe unit : Nat) (d : Device) : (peerMember stripe unit d).2.time = d.time := by
  unfold peerMember
  dsimp only
  split <;> rfl

@[simp] theorem admitRead_clock (dom : Nat) (fp : Bytes) (num slot : Nat) (plain : Bytes) (d : Device) :
    (admitRead dom fp num slot plain d).time = d.time := by
  unfold admitRead
  dsimp only
  split <;> rfl

@[simp] theorem askUnits_clock (cmd prio : Nat) (extents : List Extent) (d : Device) : (askUnits cmd prio extents d).time = d.time := by
  unfold askUnits
  simp [foldl_clock]

@[simp] theorem readHere_clock (id : Nat) (c : Cmd) (m : Manifest) (x : Copy) (d : Device) : (readHere id c m x d).time = d.time := askUnits_clock ..

@[simp] theorem readOn_clock (n id : Nat) (d : Device) : (readOn n id d).time = d.time := by
  induction n generalizing d with
  | zero => rfl
  | succ n ih =>
    unfold readOn
    split
    · rfl
    next c _ =>
      split
      · simp
      next m _ =>
        dsimp only
        split
        next f _ =>
          split
          · rfl
          split
          · simp
          split
          · simp
          · simp [ih, putFetch]
          next stripe unit _ =>
            split <;> simp [ih, putFetch, peerMember_clock]
          · split <;> simp [ih, putFetch, endFetch]
        · split
          · simp
          split
          · simp
          split
          · simp [ih, cacheHit]
            rfl
          split
          · split
            · simp
            split
            · split
              · simp
              · split <;> simp [ih]
            · split <;> simp
          · split <;> simp [locateCopy]

@[simp] theorem startRead_clock (id : Nat) (d : Device) : (startRead id d).time = d.time := by
  unfold startRead
  split
  · rfl
  dsimp only
  split
  · simp
  split
  · simp
  · split <;> simp
  split
  · simp
  split
  · simp
  split <;> simp

/-! ## Range commands -/

@[simp] theorem answerRange_clock (c : Cmd) (keys : List Bytes) (more : Bool) (d : Device) : (answerRange c keys more d).time = d.time := by
  unfold answerRange
  split <;> simp

@[simp] theorem doList_clock (id : Nat) (d : Device) : (doList id d).time = d.time := by
  unfold doList
  split
  · rfl
  dsimp only
  split <;> simp

@[simp] theorem rangeNext_clock (id : Nat) (d : Device) : (rangeNext id d).time = d.time := by
  unfold rangeNext
  split
  · rfl
  split
  · simp
  dsimp only
  split
  · rfl
  split
  · split <;> simp
  · simp

@[simp] theorem startRangeDelete_clock (id : Nat) (d : Device) : (startRangeDelete id d).time = d.time := by
  unfold startRangeDelete
  split
  · rfl
  dsimp only
  split_ifs <;> simp

/-! ## Writes: salts, claims, records -/

@[simp] theorem drawBytes_clock (n : Nat) (d : Device) : (drawBytes n d).2.time = d.time := by
  induction n generalizing d with
  | zero => rfl
  | succ n ih => exact ih (draw d).2

@[simp] theorem sendSecure_clock (m : SecureMsg) (d : Device) : (sendSecure m d).time = d.time := by
  obtain ⟨n, h⟩ := sendSecure_linkWorked m d
  exact h.time

@[simp] theorem ensureSalt_clock (dom : Nat) (d : Device) : (ensureSalt dom d).time = d.time := by
  unfold ensureSalt
  split <;> simp

@[simp] theorem startReduce_clock (id : Nat) (d : Device) : (startReduce id d).time = d.time := by
  unfold startReduce
  split
  · rfl
  refine (foldl_clock (fun d x => ?_) _ _).trans (foldl_clock (fun d i => ?_) _ _)
  · split <;> rfl
  · split <;> simp

@[simp] theorem claimAnswered_clock (id n k : Nat) (a : ClaimAnswer) (d : Device) : (claimAnswered id n k a d).time = d.time := by
  unfold claimAnswered engineSeesClaim
  split <;> rfl

@[simp] theorem claimChunk_clock (id n k dom : Nat) (fp : Bytes) (d : Device) : (claimChunk id n k dom fp d).time = d.time := by
  unfold claimChunk
  split_ifs <;> simp [onChunk, claimDetached, addCopy]

@[simp] theorem driveItem_clock (c : Cmd) (n : Nat) (i : Item) (d : Device) : (driveItem c n i d).time = d.time :=
  foldl_clock (fun d x => by dsimp only; split_ifs <;> simp) _ d

@[simp] theorem writeManifest_clock (c : Cmd) (n : Nat) (i : Item) (d : Device) : (writeManifest c n i d).time = d.time := by
  unfold writeManifest
  split <;> rfl

@[simp] theorem startMirror_clock (c : Cmd) (n : Nat) (i : Item) (d : Device) : (startMirror c n i d).time = d.time := by
  simp [startMirror, sendAll, foldl_clock]

theorem programGroup_clock (d : Device) (group : List Bytes) : (programGroup d group).time = d.time := by
  unfold programGroup
  refine (foldl_clock (fun d x => ?_) _ _).trans ?_ <;> rfl

@[simp] theorem flushWriteAll_clock (rs : List FlushRecord) (d : Device) : (flushWriteAll rs d).time = d.time := by
  have hw : (rs.foldl (fun d r => flushWrite 0 r d) d).time = d.time := by
    refine foldl_clock (fun d r => ?_) rs d
    rfl
  unfold flushWriteAll programFlush
  dsimp only
  split <;> exact (foldl_clock programGroup_clock _ _).trans hw

theorem markAll_clock (l : List (Nat × Bytes × Nat)) (d : Device) : (l.foldl (fun d x => markPresent x.1 x.2.1 x.2.2 d) d).time = d.time := by
  refine foldl_clock (fun d x => ?_) l d
  have hp : ∀ dom fp num u, (presentAt dom fp num u).time = u.time := fun dom fp num u => by
    unfold presentAt
    split
    · rfl
    split
    · rfl
    · exact foldl_clock (fun u w => sendLink_clock ..) _ (onCopy dom fp num _ u)
  unfold markPresent
  split
  · rfl
  dsimp only
  split_ifs <;> simp [hp]

@[simp] theorem flushItem_clock (c : Cmd) (n : Nat) (i : Item) (d : Device) : (flushItem c n i d).time = d.time := by
  -- The `if` is brought out of the whole device: under `.time` the kernel would set out to decide its guard.
  have he : flushItem c n i d = if _ then d else _ := rfl
  rw [he]
  split
  · rfl
  · exact (markAll_clock ..).trans ((onItem_clock ..).trans (flushWriteAll_clock ..))

@[simp] theorem ackItem_clock (c : Cmd) (n : Nat) (i : Item) (d : Device) : (ackItem c n i d).time = d.time := by
  have hs : (itemMarked (ackMode d) i (itemFlushed (ackMode d) c n i (itemMirrored c n i d))).time = d.time := by
    unfold itemMarked itemFlushed itemMirrored
    split_ifs <;> simp [markAll_clock]
  unfold itemMarked itemFlushed itemMirrored at hs
  unfold ackItem
  dsimp only
  split
  · exact hs
  · rw [apply_ite Device.time, onItem_clock, ite_self]
    exact hs

@[simp] theorem writeReady_clock (id : Nat) (d : Device) : (writeReady id d).time = d.time := by
  unfold writeReady
  split
  · rfl
  split
  · rfl
  split
  · rfl
  dsimp only
  split
  · split <;> simp
  · split <;> simp [tellTick]

@[simp] theorem endFailed_clock (id : Nat) (d : Device) : (endFailed id d).time = d.time := by
  unfold endFailed
  split
  · rfl
  split
  · rfl
  split <;> simp

@[simp] theorem reopenItem_clock (c : Cmd) (n : Nat) (i : Item) (d : Device) : (reopenItem c n i d).time = d.time := by
  unfold reopenItem
  rw [onItem_clock, releaseFlushed_clock]
  split <;> simp

/-! ## Locks granted, writes driven -/

@[simp] theorem countHome_clock (keys : List (Nat × Bytes)) (d : Device) : (countHome keys d).time = d.time :=
  foldl_clock (fun d k => by dsimp only; split <;> rfl) keys d

@[simp] theorem itemsGranted_clock (id : Nat) (d : Device) : (itemsGranted id d).time = d.time := by
  unfold itemsGranted
  split
  · rfl
  next c _ =>
    have hs : ∀ u, (shareSent id c u).time = u.time := fun u => by
      unfold shareSent
      split <;> simp
    dsimp only
    split
    · simp [hs]
    split
    · split
      next r hr =>
        unfold takeSlot at hr
        split at hr
        · cases hr
        · cases hr
          simp [hs, onSlot]
      · simp [hs]
    · simp [hs]

@[simp] theorem granted_clock (id : Nat) (d : Device) : (granted id d).time = d.time := by
  unfold granted
  split
  · rfl
  next c _ =>
    split
    · split
      · simp
      · split <;> simp
    split
    · rfl
    split
    · simp
    · refine (itemsGranted_clock id _).trans ?_
      rw [onCmd_clock]
      split <;> simp

@[simp] theorem claimsDriven_clock (id : Nat) (c : Cmd) (d : Device) : (claimsDriven id c d).time = d.time := by
  unfold claimsDriven
  split
  · simp
  dsimp only
  split
  · simp [foldl_clock]
  · split_ifs <;> simp [foldl_clock]

@[simp] theorem recordsDriven_clock (id : Nat) (c : Cmd) (d : Device) : (recordsDriven id c d).time = d.time := by
  have hack : (c.items.zipIdx.foldl (fun d x => if x.1.ready then d else ackItem c x.2 x.1 d) d).time = d.time :=
    foldl_clock (fun d x => by split <;> simp) _ d
  unfold recordsDriven
  split
  · simp
  split
  · simp [foldl_clock]
  dsimp only
  split <;> simp [hack]

@[simp] theorem driveWrite_clock (id : Nat) (d : Device) : (driveWrite id d).time = d.time := by
  unfold driveWrite
  split
  · rfl
  next c _ =>
    split
    · exact claimsDriven_clock id c d
    · exact claimsDriven_clock id c d
    · exact recordsDriven_clock id c d
    · exact recordsDriven_clock id c d
    · rfl

/-! ## Commands that start and step -/

theorem pumpLocks_clock (n cmd : Nat) (d : Device) : (pumpLocks n cmd d).time = d.time := by
  induction n generalizing d with
  | zero => rfl
  | succ n ih =>
    unfold pumpLocks
    split
    · rfl
    split_ifs
    · exact ih _
    · exact ih _
    · rfl

@[simp] theorem askLocks_clock (id : Nat) (d : Device) : (askLocks id d).time = d.time := by
  refine (pumpLocks_clock ..).trans ?_
  unfold ensureLocks
  split
  · rfl
  split <;> rfl

@[simp] theorem startHere_clock (c : Cmd) (d : Device) : (startHere c d).time = d.time := by
  unfold startHere
  dsimp only
  split <;> simp

@[simp] theorem startBatch_clock (c : Cmd) (d : Device) : (startBatch c d).time = d.time := by
  unfold startBatch
  dsimp only
  split
  · simp
  split
  · simp
  split
  · simp
  split
  · simp
  split <;> simp

@[simp] theorem startCmd_clock (id : Nat) (d : Device) : (startCmd id d).time = d.time := by
  unfold startCmd
  split
  · rfl
  split
  · unfold startRange
    split_ifs <;> simp
  split
  · simp
  · unfold startSingle
    split
    · simp
    split <;> simp [forwardCmd]

theorem stepCmd_clock (d : Device) (id : Nat) : (stepCmd d id).time = d.time := by
  unfold stepCmd
  split
  · rfl
  split
  · rfl
  split
  · split <;> simp
  · split <;> simp
  · split <;> simp
  all_goals simp

theorem settleOnce_clock (d : Device) : (settleOnce d).time = d.time := foldl_clock stepCmd_clock _ d

theorem settleFrom_clock (n : Nat) (d : Device) : (settleFrom n d).time = d.time := by
  induction n generalizing d with
  | zero => rfl
  | succ n ih =>
    unfold settleFrom
    dsimp only
    split
    · exact settleOnce_clock d
    · exact (ih _).trans (settleOnce_clock d)

/-- Commands settle without a change of the timebase. -/
@[simp] theorem settle_clock (d : Device) : (settle d).time = d.time :=
  (settleFrom_clock ..).trans ((settleOnce_clock _).trans (settleOnce_clock d))

/-! ## What an alarm interrupts (R269) -/

/-- A descriptor that returns interrupted ends its command and lets the others go on. -/
theorem descriptorReturn_interrupted_clock (tag : Nat) (w : Option WorkDesc) (d : Device) :
    (descriptorReturn tag 5 w d).time = d.time := by
  unfold descriptorReturn
  dsimp only
  split
  · rfl
  next c _ =>
    split
    · rfl
    · change (settle (failCmd c.id .interrupted 0 (dropTag tag d))).time = _
      rw [settle_clock, failCmd_clock]
      rfl

theorem cancelDescriptors_clock (d : Device) : (cancelDescriptors d).time = d.time := by
  refine (foldl_clock (fun u w => ?_) _ _).trans rfl
  exact descriptorReturn_interrupted_clock w.tag (some w) u

theorem interruptCmds_clock (f : Cmd → Bool) (d : Device) : (interruptCmds f d).time = d.time :=
  foldl_clock (fun _ _ => failCmd_clock ..) _ d

end Sys2Proof.Machine
end

section
/-! SUPPORT. The clock through a start: entries of the board, stripes and their moves, the replay and the stores of the keys leave it as it is
(R407, R421, R537, R555). -/

namespace Sys2Proof.Machine

/-! ## Answers and entries of the board -/

theorem answer_clock (r : ReplyTo) (idx sub : Nat) (st : OdStatus) (data : Bytes) (n size : Nat) (d : Device) :
    (answer r idx sub st data n size d).time = d.time := by
  cases r with
  | accessor a => cases st <;> cases a <;> rfl
  | completion q t b =>
    cases st with
    | ok => exact complete_clock ..
    | abort c => exact complete_clock ..
    | held => rfl

@[simp] theorem putEntry_clock (n : Nat) (e : BoardEntry) (d : Device) : (putEntry n e d).time = d.time := rfl

@[simp] theorem dropCut_clock (n : Nat) (d : Device) : (dropCut n d).time = d.time := by
  unfold dropCut
  dsimp only
  exact (foldl_clock (fun d p => sendLink_clock ..) _ _).trans (foldl_clock (fun d r => putEntry_clock ..) _ d)

@[simp] theorem endCuts_clock (nums : List Nat) (d : Device) : (endCuts nums d).time = d.time := by
  unfold endCuts
  extract_lets ended gone d1 snap1 d2 cleared snap2 d3
  have h1 : d1.time = d.time := foldl_clock (fun d n => dropCut_clock n d) _ d
  refine (foldl_clock (fun d c => ?_) _ d3).trans h1
  split_ifs
  · rfl
  · exact complete_clock ..

theorem placementFailed_clock (w : PlacementFor) (d : Device) : (placementFailed w d).time = d.time := by
  cases w with
  | firmware => rfl
  | user acc reply => exact answer_clock ..
  | dict acc reply idx sub => exact answer_clock ..
  | snapshot n => exact endCuts_clock ..
  | bucket b => rfl

theorem placementDone_clock (w : PlacementFor) (n : Nat) (d : Device) : (placementDone w n d).time = d.time := by
  cases w with
  | firmware => rfl
  | user acc reply => exact answer_clock ..
  | dict acc reply idx sub =>
    unfold placementDone
    dsimp only
    split_ifs
    · rfl
    · exact answer_clock ..
  | snapshot k => exact foldl_clock (fun _ _ => by rfl) _ d
  | bucket b => rfl

theorem placePairedAt_clock (n : Nat) (e : BoardEntry) (w : PlacementFor) (d : Device) : (placePairedAt n e w d).time = d.time := by
  unfold placePairedAt
  dsimp only
  split_ifs
  · exact placementDone_clock ..
  · exact sendLink_clock ..
  · unfold placeAgain
    split_ifs
    · rfl
    · exact placementFailed_clock ..

@[simp] theorem placePaired_clock (e : BoardEntry) (w : PlacementFor) (d : Device) : (placePaired e w d).time = d.time := by
  unfold placePaired
  split
  · exact placePairedAt_clock ..
  · dsimp only
    split_ifs <;> rfl

@[simp] theorem placeLocal_clock (e : BoardEntry) (d : Device) : (placeLocal e d).time = d.time := by
  unfold placeLocal
  split
  · rfl
  · dsimp only
    split_ifs <;> rfl

theorem placeWaiting_clock (d : Device) : (placeWaiting d).time = d.time := by
  unfold placeWaiting
  split
  · rfl
  · dsimp only
    split_ifs
    · rfl
    · exact placePaired_clock ..
    · exact placeLocal_clock ..

theorem placeGroupsUp_clock (paired : Bool) (d : Device) : (placeGroupsUp paired d).time = d.time := by
  refine foldl_clock (fun d g => ?_) _ d
  split_ifs
  · exact placePaired_clock ..
  · exact placeLocal_clock ..

theorem groupsStep_clock (d : Device) : (groupsStep d).time = d.time := by
  unfold groupsStep
  dsimp only
  split_ifs
  · exact placeGroupsUp_clock ..
  · rfl
  · exact placeGroupsUp_clock ..

theorem cancelCuts_clock (d : Device) : (cancelCuts d).time = d.time := by
  unfold cancelCuts
  extract_lets cuts nsOf named d1
  have h1 : d1.time = d.time := foldl_clock (fun _ _ => by rfl) named d
  split_ifs
  · exact h1
  · exact (endCuts_clock ..).trans h1

@[simp] theorem refreshTimeLock_clock (d : Device) : (refreshTimeLock d).time = d.time := by
  unfold refreshTimeLock
  dsimp only
  split_ifs
  · exact setCond_clock ..
  · exact (cancelCuts_clock _).trans (setCond_clock ..)

/-! ## Alarms -/

theorem keysGone_clock (d : Device) : (keysGone d).time = d.time := by
  have hs : (abortSlotWrites d).time = d.time :=
    abortSlotWrites_unseen (f := Device.time) (fun _ _ _ => rfl) answer_clock (fun _ _ => rfl) d
  have hc : ∀ u : Device, (clearCache u).time = u.time := fun u => by
    unfold clearCache
    split <;> rfl
  exact (hc _).trans hs

theorem alarm_clock (d : Device) : (alarm d).time = d.time := by
  rw [alarm_eq, (raiseEmcy_spoke ..).time, logEvent_clock, odBump_clock]
  exact (interruptCmds_clock ..).trans ((cancelDescriptors_clock _).trans (keysGone_clock d))

theorem followLatch_clock (d : Device) : (followLatch d).time = d.time := by
  unfold followLatch
  dsimp only
  split_ifs
  · rfl
  · exact alarm_clock ..
  · rfl

/-! ## Stripes -/

theorem gatherBytes_clock (fuel cls cluster : Nat) (s : Stream) (ret len : Nat) (d : Device) :
    (gatherBytes fuel cls cluster s ret len d).2.time = d.time := by
  induction fuel generalizing len d with
  | zero => rfl
  | succ fuel ih =>
    unfold gatherBytes
    split
    · rfl
    dsimp only
    split
    · exact ih _ _
    · split
      · exact ih _ _
      · refine (ih _ _).trans ?_
        split <;> rfl

@[simp] theorem gather_clock (cls cluster : Nat) (s : Stream) (ret len : Nat) (d : Device) : (gather cls cluster s ret len d).2.time = d.time :=
  gatherBytes_clock ..

theorem noteUnplaced_clock (cls k : Nat) (d : Device) : (noteUnplaced cls k d).time = d.time := by
  unfold noteUnplaced
  split <;> rfl

theorem noteResidue_clock (id : Nat) (m : MemberDesc) (d : Device) : (noteResidue id m d).time = d.time := by
  unfold noteResidue
  dsimp only
  split <;> rfl

theorem takePages_clock (s : Stream) (unit : Nat) (cs : List Nat) (d : Device) {r : List Member × Device} (h : takePages s unit cs d = some r) :
    r.2.time = d.time := by
  induction cs generalizing d r with
  | nil =>
    cases h
    rfl
  | cons c cs ih =>
    unfold takePages at h
    split at h
    · cases h
    · split at h
      · cases h
      next hr =>
        cases h
        have hu := ih _ hr
        exact hu

theorem issueStripe_clock (st : Stripe) (d : Device) : (issueStripe st d).time = d.time := by
  unfold issueStripe
  split
  · rfl
  extract_lets seq
  split
  · exact noteUnplaced_clock ..
  extract_lets d1 d2 fill pad
  have h1 : d1.time = d.time := by
    unfold d1
    split
    · rfl
    · exact noteUnplaced_clock ..
  have h2 : d2.time = d1.time := by
    unfold d2
    split <;> rfl
  split
  · exact h2.trans h1
  next ms u hr =>
    have h3 := (foldl_clock (fun d (m : Member) => noteResidue_clock st.id m.desc d) ms u).trans (takePages_clock _ _ _ _ hr)
    dsimp only
    split
    · exact h3.trans (h2.trans h1)
    · exact h3.trans (h2.trans h1)

@[simp] theorem issueClosed_clock (d : Device) : (issueClosed d).time = d.time :=
  foldl_clock (fun d s => by
    split
    · exact issueStripe_clock ..
    · rfl) _ d

theorem relocateStripe_clock (ok : Copy → Bool) (s : Stripe) (d : Device) : (relocateStripe ok s d).time = d.time := by
  unfold relocateStripe
  dsimp only
  rw [issueClosed_clock]
  refine (foldl_clock (fun d p => ?_) _ _).trans (foldl_clock (fun d c => ?_) _ d)
  · exact (odBump_clock ..).trans (gather_clock ..)
  · exact (odBump_clock ..).trans (gather_clock ..)

theorem emitReads_clock (o : FlashOp) (d : Device) : (emitReads o d).time = d.time := by
  unfold emitReads
  refine (foldl_clock (fun _ _ => by rfl) _ _).trans ?_
  split <;> rfl

theorem startOp_clock (o : FlashOp) (d : Device) : (startOp o d).time = d.time := by
  unfold startOp
  extract_lets d1 d2 d3
  have h1 : d1.time = d.time := by
    unfold d1
    split <;> rfl
  have h2 : d2.time = d1.time := by
    unfold d2
    split <;> rfl
  have h3 : d3.time = d.time := h2.trans h1
  split
  · split <;> exact h3
  · exact h3
  · exact (emitReads_clock ..).trans h3

theorem tryStart_clock (id : Nat) (d : Device) : (tryStart id d).time = d.time := by
  unfold tryStart
  split
  · rfl
  · split
    · exact startOp_clock ..
    · rfl

@[simp] theorem queueOp_clock (o : FlashOp) (d : Device) : (queueOp o d).time = d.time := tryStart_clock ..

theorem programMember_clock (id m : Nat) (reclaim : Bool) (d : Device) : (programMember id m reclaim d).time = d.time := by
  unfold programMember
  split
  · rfl
  · exact queueOp_clock ..

theorem pick_clock {α : Type} {l : List α} {d : Device} {r : α × Device} (h : pick l d = some r) : r.2.time = d.time := by
  unfold pick at h
  split at h
  · cases h
  · cases h
    rfl

theorem startMove_clock (id member reason : Nat) (read : Bool) (req : Option Nat) (d : Device) :
    (startMove id member reason read req d).time = d.time := by
  unfold startMove
  split
  · rfl
  split
  · rfl
  split
  · rfl
  split
  · exact relocateStripe_clock ..
  next hp =>
    have hd := pick_clock hp
    split
    · exact hd
    · dsimp only
      split
      · exact (queueOp_clock ..).trans ((noteResidue_clock ..).trans hd)
      · exact (programMember_clock ..).trans ((noteResidue_clock ..).trans hd)

/-! ## Loss of stripes, and what is read again -/

theorem truncateLost_clock (d : Device) : (truncateLost d).time = d.time := by
  unfold truncateLost
  dsimp only
  split <;> rfl

@[simp] theorem addLost_clock (cause cls id bitmap copies : Nat) (d : Device) : (addLost cause cls id bitmap copies d).time = d.time := by
  unfold addLost
  rw [setCond_clock]
  split
  · exact truncateLost_clock d
  · rfl

theorem addLostKey_clock (k : LostKey) (d : Device) : (addLostKey k d).time = d.time := by
  unfold addLostKey
  split
  · exact truncateLost_clock d
  · rfl

theorem loseStripe_clock (id cause : Nat) (d : Device) : (loseStripe id cause d).time = d.time := by
  unfold loseStripe
  split
  · rfl
  split
  · rfl
  dsimp only
  refine (relocateStripe_clock ..).trans ((logEvent_clock ..).trans ((addLost_clock ..).trans ?_))
  exact foldl_clock (f := fun d (c : Copy) => hotRemove c.domain c.fp c.num (recordCopy c d)) (fun d c => hotRemove_clock ..) _ _

theorem readMember_clock (s : Stripe) (deep : Bool) (d : Device) (i : Nat) : (readMember s deep d i).time = d.time := by
  unfold readMember
  split
  · exact queueOp_clock ..
  · rfl

theorem checkOn_clock (d : Device) (id : Nat) : (checkOn d id).time = d.time := by
  unfold checkOn
  dsimp only
  split
  · rfl
  next s _ =>
    split
    · rfl
    split
    · rfl
    split
    · have hm := foldl_clock (fun d m => startMove_clock id m 3 false none d) (lostUnits s d) d
      split
      · exact hm
      · exact hm
    split
    · exact foldl_clock (readMember_clock s true) _ d
    · exact loseStripe_clock ..

theorem settleChecks_clock (d : Device) : (settleChecks d).time = d.time := by
  have hl : ∀ u : Device, (leaveReadOnly u).time = u.time := fun u => by
    unfold leaveReadOnly
    split
    · exact setCond_clock ..
    · rfl
  unfold settleChecks
  split
  · rfl
  · exact (hl _).trans (foldl_clock checkOn_clock _ d)

theorem enterReadOnly_clock (d : Device) : (enterReadOnly d).time = d.time := by
  unfold enterReadOnly
  split
  · rfl
  · exact (settleChecks_clock _).trans ((foldl_clock (fun d s => foldl_clock (readMember_clock s false) _ d) _ _).trans (setCond_clock ..))

theorem ringPlace_clock {d : Device} {r : MemberDesc × Device} (h : ringPlace d = some r) : r.2.time = d.time := pick_clock h

theorem rewriteCopy_clock (n : Nat) (d : Device) : (rewriteCopy n d).time = d.time := by
  unfold rewriteCopy
  dsimp only
  split
  next hr =>
    have hu := ringPlace_clock hr
    exact hu
  · rfl

theorem placeRings_clock (d : Device) : (placeRings d).time = d.time := by
  unfold placeRings
  split
  · rfl
  extract_lets missing d1
  have h1 : d1.time = d.time := by
    refine foldl_clock (fun d n => ?_) missing d
    split
    next hr =>
      have hu := ringPlace_clock hr
      exact hu
    · rfl
  split
  · exact h1
  · exact h1

end Sys2Proof.Machine
end

section
/-! SUPPORT. The clock through the stores of a start: versions and copies that are restored, the replay of the journal and the flush, health and
space, and what a sanitize wipes; a start that goes on keeps its counter established (R297, R337, R342, R407, R555, R560). -/

namespace Sys2Proof.Machine

/-! ## Versions and copies -/

theorem decrement_clock (dom : Nat) (fp : Bytes) (num : Nat) (d : Device) : (decrement dom fp num d).time = d.time := by
  unfold decrement
  split
  · unfold decrementAt
    split
    · rfl
    · split
      · rfl
      split
      · exact killCopy_clock ..
      · exact touchMap_clock ..
  · exact askOwner_clock ..

theorem killManifest_clock (mseq : Nat) (d : Device) : (killManifest mseq d).time = d.time := by
  unfold killManifest
  split
  · rfl
  · exact foldl_clock (fun d c => decrement_clock ..) _ _

theorem settleKey_clock (e : KeyEntry) (d : Device) : (settleKey e d).time = d.time := by
  unfold settleKey
  refine (foldl_clock (fun d v => ?_) _ _).trans (rfl : (putKey (pruneVersions e d) d).time = d.time)
  split
  · rfl
  · exact killManifest_clock ..

theorem applyPage_clock (typ lid : Nat) (d : Device) : (applyPage typ lid d).time = d.time := by
  unfold applyPage
  dsimp only
  split
  · rfl
  · exact evictPages_clock _

theorem packManifest_clock (m : Manifest) (d : Device) : (packManifest m d).time = d.time := by
  unfold packManifest
  refine (foldl_clock (fun d i => applyPage_clock ..) _ _).trans ((applyPage_clock ..).trans ?_)
  dsimp only
  split <;> rfl

theorem applyVersion_clock (ns : Nat) (key : Bytes) (v : Version) (d : Device) : (applyVersion ns key v d).time = d.time := by
  unfold applyVersion
  refine (settleKey_clock ..).trans ((touchMap_clock ..).trans ?_)
  split
  · split
    · rfl
    · exact packManifest_clock ..
  · rfl

theorem reissueCopy_clock (dom : Nat) (fp : Bytes) (num : Nat) (d : Device) : (reissueCopy dom fp num d).time = d.time := by
  unfold reissueCopy
  split
  · rfl
  · exact gather_clock ..

theorem adoptCopy_clock (counted : Bool) (ns dom slot : Nat) (ch : ChunkRef) (hash : Nat) (form : Option StoredForm) (d : Device) :
    (adoptCopy counted ns dom slot ch hash form d).time = d.time := by
  unfold adoptCopy
  split
  · have hd : ∀ u : Device, u.time = d.time → ∀ c : Copy, (if counted then u else
        recordCopy { c with refs := c.refs + 1 } (onCopy dom ch.fp ch.copy (fun c => { c with refs := c.refs + 1 }) u)).time = d.time := by
      intro u hu c
      split <;> exact hu
    refine hd _ ?_ _
    split
    · exact reissueCopy_clock ..
    · rfl
  · dsimp only
    split
    · exact reissueCopy_clock ..
    · exact reissueCopy_clock ..
  · rfl

theorem unloseVersion_clock (ns : Nat) (key : Bytes) (mseq : Nat) (d : Device) : (unloseVersion ns key mseq d).time = d.time := by
  unfold unloseVersion
  split <;> rfl

theorem restoreWrite_clock (tick : Nat) (m : Manifest) (form : ChunkRef → Option (Nat × StoredForm)) (d : Device) :
    (restoreWrite tick m form d).time = d.time := by
  unfold restoreWrite
  have hk : ∀ u : Device, u.time = d.time →
      (if u.kv.manifests.any (·.seq == m.seq) then u else { u with kv := { u.kv with manifests := u.kv.manifests ++ [m] } }).time = d.time := by
    intro u hu
    split <;> exact hu
  exact (applyVersion_clock ..).trans (hk _ ((foldl_clock (fun d ch => adoptCopy_clock ..) _ _).trans (unloseVersion_clock ..)))

theorem adoptWrite_clock (d : Device) (w : Nat) : (adoptWrite d w).time = d.time := by
  unfold adoptWrite
  dsimp only
  split
  · rfl
  split
  · rfl
  split
  · split
    · exact restoreWrite_clock ..
    · rfl
  · exact applyVersion_clock ..

theorem adoptHeld_clock (d : Device) : (adoptHeld d).time = d.time := foldl_clock adoptWrite_clock _ d

theorem adoptOwn_clock (ws : List Nat) (d : Device) : (adoptOwn ws d).time = d.time := by
  unfold adoptOwn
  split
  · rfl
  · exact foldl_clock (fun d w => (sendLink_clock ..).trans (adoptWrite_clock d w)) _ d

/-! ## Replay of the journal and the flush (R297, R342) -/

theorem noteDurable_clock (d : Device) (r : JRecord) : (noteDurable d r).time = d.time := by
  unfold noteDurable
  split
  · rfl
  · rfl
  · rfl
  · rfl
  · unfold flushReleased
    split <;> rfl
  · rfl

theorem dropMembers_clock (s : Stripe) (d : Device) : (dropMembers s d).time = d.time := foldl_clock (fun _ _ => by rfl) _ d

theorem putOverride_clock (bucket side base : Nat) (d : Device) : (putOverride bucket side base d).time = d.time := by
  unfold putOverride
  cases partOfType 1 d with
  | none => rfl
  | some n =>
    dsimp only
    cases List.find? _ _ with
    | some h => rfl
    | none =>
      dsimp only
      split
      · rfl
      · split <;> rfl

theorem undoRecord_clock (d : Device) (r : JRecord) : (undoRecord d r).time = d.time := by
  unfold undoRecord
  split
  case h_1 id _ _ _ _ _ _ _ _ =>
    show (((stripeOf id d).map fun s => dropMembers s d).getD d).time = d.time
    cases stripeOf id d with
    | none => rfl
    | some s => exact dropMembers_clock s d
  case h_10 => exact putOverride_clock ..
  all_goals rfl

theorem takeSource_clock (d : Device) : (takeSource d).time = d.time := by
  unfold takeSource
  dsimp only
  exact (foldl_clock undoRecord_clock _ _).trans (foldl_clock noteDurable_clock _ d)

theorem settleStripes_clock (d : Device) : (settleStripes d).1.time = d.time := by
  unfold settleStripes
  have hf : ∀ (l : List Stripe) (acc : Device × Nat), (l.foldl (fun acc s =>
      if s.members.all (·.programmed) then
        (journalRecord (.stripeDurable s.id) (onStripe s.id (fun s => { s with st := .durable }) acc.1), acc.2)
      else
        (dropMembers s (onStripe s.id (fun s => { s with st := .abandoned }) acc.1),
          acc.2 + (s.members.filter (·.programmed)).length)) acc).1.time = acc.1.time := by
    intro l
    induction l with
    | nil => exact fun _ => rfl
    | cons s l ih =>
      intro acc
      rw [List.foldl_cons]
      refine (ih _).trans ?_
      split
      · rfl
      · exact dropMembers_clock ..
  exact (hf _ _).trans (foldl_clock (fun d s => dropMembers_clock s d) _ _)

theorem scanBlocks_clock (cut : List MemberDesc) (garbage : Nat) (d : Device) : (scanBlocks cut garbage d).time = d.time := by
  unfold scanBlocks
  extract_lets d1 n
  have h1 : d1.time = d.time := foldl_clock (fun _ _ => by rfl) cut d
  split
  · exact h1
  · exact h1

theorem settleCopy_clock (d : Device) (c : Copy) : (settleCopy d c).time = d.time := by
  unfold settleCopy
  split
  · rfl
  split
  · exact reissueCopy_clock ..
  · rfl

theorem applyRoster_clock (all l : List (Nat × FlushRecord)) (acc : Device × List (Nat × Bytes × Nat × Nat) × Nat) :
    (applyRoster all l acc).1.time = acc.1.time := by
  induction l generalizing acc with
  | nil => rfl
  | cons x l ih =>
    obtain ⟨d, lost, done⟩ := acc
    obtain ⟨n, r⟩ := x
    cases r with
    | roster home batch ns key tick =>
      have hm : ∀ (t : Nat) (m : Option Manifest), (if alreadyHeld ns key tick m d then applyRoster all l (d, lost, done)
          else match m with
            | some m =>
              if m.chunks.all fun ch => copyAtHand m.domain ch ((flushCopy m.domain ch.fp ch.copy d).map (·.2)) d then
                applyRoster all l (restoreWrite t m (fun ch => flushCopy m.domain ch.fp ch.copy d) d, lost, done + 1)
              else applyRoster all l (d, lost ++ [(ns, key, t, m.seq)], done)
            | none =>
              if tick == 0 then applyRoster all l (applyVersion ns key ⟨t, 0, true, false⟩ d, lost, done + 1)
              else applyRoster all l (d, lost ++ [(ns, key, t, 0)], done)).1.time = d.time := by
        intro t m
        split
        · exact ih _
        split
        · split
          · exact (ih _).trans (restoreWrite_clock ..)
          · exact ih _
        · split
          · exact (ih _).trans (applyVersion_clock ..)
          · exact ih _
      rw [applyRoster]
      split
      · exact ih _
      · exact hm _ _
    | _ => exact ih _

theorem loseVersion_clock (ns : Nat) (key : Bytes) (tick mseq : Nat) (d : Device) : (loseVersion ns key tick mseq d).time = d.time :=
  addLostKey_clock ..

theorem lostHeader_clock (n : Nat) (d : Device) : (lostHeader n d).time = d.time := by
  unfold lostHeader
  split
  · rfl
  · exact addLost_clock ..

theorem replayFlush_clock (unannounced : Bool) (d : Device) : (replayFlush unannounced d).time = d.time := by
  unfold replayFlush
  extract_lets all
  have hr := applyRoster_clock all all (d, [], 0)
  generalize applyRoster all all (d, [], 0) = r at hr ⊢
  obtain ⟨d1, lost, done⟩ := r
  dsimp only at hr ⊢
  have hl : ∀ u : Device, u.time = d.time → ∀ l : List (Nat × Bytes × Nat × Nat),
      (l.foldl (fun d x => loseVersion x.1 x.2.1 x.2.2.1 x.2.2.2 d) (lostHeader l.length u)).time = d.time := fun u hu l =>
    (foldl_clock (fun d x => loseVersion_clock ..) l _).trans ((lostHeader_clock ..).trans hu)
  have h2 : (if all.isEmpty then d1 else logEvent 0x0B06 0x0042 0 (lost.length * 2 ^ 32 + done) d1).time = d.time := by
    split <;> exact hr
  split
  · exact (sendEmcy_spoke ..).time.trans (hl _ h2 _)
  · exact hl _ h2 _

theorem restartCounters_clock (n : Nat) (d : Device) : (restartCounters n d).time = d.time := by
  unfold restartCounters
  dsimp only
  split <;> rfl

theorem recordAbandoned_clock (before : List Copy) (d : Device) : (recordAbandoned before d).time = d.time :=
  foldl_clock (fun _ _ => by rfl) _ d

theorem replay_clock (unannounced : Bool) (d : Device) : (replay unannounced d).time = d.time := by
  have hc : ∀ u : Device, ((u.cipher.slots.map (·.1)).foldl (fun d n => restartCounters n d) u).time = u.time := fun u =>
    foldl_clock (fun d n => restartCounters_clock n d) _ u
  have hs : ∀ u : Device, (settleSlots (restartSeals u)).time = u.time := fun u => rfl
  have hcopies : ∀ (l : List Copy) (u : Device), (l.foldl settleCopy u).time = u.time := fun l u => foldl_clock settleCopy_clock l u
  unfold replay
  dsimp only
  rw [hs, hc, replayFlush_clock, recordAbandoned_clock, hcopies]
  exact (scanBlocks_clock ..).trans ((settleStripes_clock _).trans (takeSource_clock d))

end Sys2Proof.Machine
end

section
/-! SUPPORT. A start that goes on keeps the counter established: health and space, keys, what a sanitize wipes, and the steps of the start
(R337, R407, R410, R555, R560). -/

namespace Sys2Proof.Machine

/-! ## Health, space and dirty data -/

theorem ite_clock {p : Prop} [Decidable p] {t : TimeState} {u v : Device} (hu : u.time = t) (hv : v.time = t) :
    (if p then u else v).time = t := by
  split
  · exact hu
  · exact hv

theorem refreshWarning_clock (d : Device) : (refreshWarning d).time = d.time :=
  refreshWarning_unseen (f := Device.time) (fun h => h.time) (fun _ _ => rfl) (fun _ _ => rfl) d

theorem carveSlc_clock (d : Device) : (carveSlc d).time = d.time := rfl

theorem refreshSlc_clock (d : Device) : (refreshSlc d).time = d.time := by
  unfold refreshSlc
  dsimp only
  rw [carveSlc_clock]
  exact ite_clock rfl rfl

theorem refreshHealth_clock (d : Device) : (refreshHealth d).time = d.time := by
  unfold refreshHealth
  dsimp only
  rw [refreshWarning_clock]
  exact ite_clock (ite_clock rfl rfl) (ite_clock rfl rfl)

theorem flushThrough_clock (d : Device) : (flushThrough d).time = d.time := flushWriteAll_clock ..

theorem setDomain_clock (n : Nat) (on : Bool) (d : Device) : (setDomain n on d).time = d.time := rfl

/-- A device's timebase is `t`: the predicate under which a chain of updates is followed without unfolding them. -/
def Clocked (t : TimeState) (u : Device) : Prop := u.time = t

theorem Clocked.ite {p : Prop} [Decidable p] {t : TimeState} {u v : Device} (hu : Clocked t u) (hv : Clocked t v) :
    Clocked t (if p then u else v) := ite_clock hu hv

theorem Clocked.trans {t : TimeState} {u v : Device} (hu : Clocked t u) (h : v.time = u.time) : Clocked t v := h.trans hu

theorem odPut_clock (idx sub v : Nat) (d : Device) : (odPut idx sub v d).time = d.time := rfl

theorem setMap_clock (m : MapState) (d : Device) : ({ d with map := m } : Device).time = d.time := rfl

theorem setPower_clock (p : PowerState) (d : Device) : ({ d with power := p } : Device).time = d.time := rfl

theorem refreshDirty_clocked {t : TimeState} {d : Device} (h : Clocked t d) : Clocked t (refreshDirty d) := by
  unfold refreshDirty
  refine .ite h ?_
  extract_lets d1 caps d2 map1 d3 n old d4 power1 d5 short d6
  have h1 : Clocked t d1 := h.trans (odPut_clock ..)
  have h2 : Clocked t d2 := .ite (h1.trans (logEvent_clock ..)) h1
  have h3 : Clocked t d3 := h2.trans (setMap_clock _ d2)
  have h4 : Clocked t d4 := .ite h3 (h3.trans ((logEvent_clock ..).trans (odPut_clock ..)))
  have h5 : Clocked t d5 := h4.trans (setPower_clock _ d4)
  have h6 : Clocked t d6 := .ite (h5.trans ((flushThrough_clock _).trans (setCond_clock ..))) (h5.trans (setCond_clock ..))
  exact .ite (h6.trans (settle_clock d6)) h6

theorem refreshDirty_clock (d : Device) : (refreshDirty d).time = d.time := refreshDirty_clocked (t := d.time) rfl

theorem startLogged_clock (n : Nat) (d : Device) : (logEvent 0x1206 0x0071 0 n (refreshDirty d)).time = d.time :=
  (logEvent_clock ..).trans (refreshDirty_clock d)

theorem noteStart_clock (d : Device) : (noteStart d).time = d.time := by
  unfold noteStart
  extract_lets span d1 d2 power1
  have h2 : d2.time = d.time := (startLogged_clock _ d1).trans (odBump_clock ..)
  exact ite_clock h2 h2

/-! ## What a sanitize wipes -/

theorem emptySlots_clock (d : Device) : (emptySlots d).time = d.time := foldl_clock (fun _ _ => by rfl) _ d

theorem dropStore_clock (d : Device) : (dropStore d).time = d.time := setCond_clock ..

theorem endErases_clock (d : Device) : (endErases d).time = d.time := foldl_clock (fun _ _ => by rfl) _ d

theorem cryptoErase_clock (d : Device) : (cryptoErase d).time = d.time :=
  (dropStore_clock _).trans ((emptySlots_clock _).trans (endErases_clock d))

theorem eraseBlocks_clock (d : Device) : (eraseBlocks d).time = d.time := by
  unfold eraseBlocks
  exact foldl_clock (fun _ _ => by rfl) _ d

theorem wipe_clock (z : Sanitize) (d : Device) : (wipe z d).time = d.time := by
  unfold wipe
  exact ite_clock ((placeRings_clock _).trans ((cryptoErase_clock _).trans (eraseBlocks_clock d))) (cryptoErase_clock d)

theorem resumeAdmin_clock (d : Device) : (resumeAdmin d).time = d.time := by
  unfold resumeAdmin
  dsimp only
  cases d.admin.sanitize with
  | none => rfl
  | some z => exact wipe_clock z d

/-! ## The first steps of a start -/

theorem unwrapKeys_clock (d : Device) : (unwrapKeys d).time = d.time := by
  unfold unwrapKeys
  exact ite_clock rfl rfl

theorem jumpFloor_established (d : Device) : (jumpFloor d).time.established = d.time.established := by
  unfold jumpFloor
  dsimp only
  split <;> rfl

theorem replayClean_clock (d : Device) : (replayClean d).time = d.time :=
  (foldl_clock (fun d n => restartCounters_clock n d) (d.cipher.slots.map (·.1)) d :)

theorem ite_enterReadOnly_clock {p : Prop} [Decidable p] (d : Device) :
    (if p then enterReadOnly ([0, 1, 2].foldl (fun d n => rewriteCopy n d) d) else d).time = d.time :=
  ite_clock ((enterReadOnly_clock _).trans (foldl_clock (fun d n => rewriteCopy_clock n d) [0, 1, 2] d)) rfl

theorem ite_adoptHeld_clock {p : Prop} [Decidable p] (d : Device) :
    (if p then d else adoptHeld { d with peer := { d.peer with held := heldFromFlush d } }).time = d.time :=
  ite_clock rfl (adoptHeld_clock _)

theorem replayStep_established (d : Device) : (replayStep d).time.established = d.time.established := by
  have h : (replayStep d).time = (jumpFloor (unwrapKeys d)).time := by
    unfold replayStep
    dsimp only
    refine (refreshHealth_clock _).trans ((refreshSlc_clock _).trans ?_)
    rw [ite_adoptHeld_clock, setCond_clock, setCond_clock, ite_enterReadOnly_clock, placeRings_clock]
    exact ite_clock (replayClean_clock _) (replay_clock ..)
  rw [h, jumpFloor_established, unwrapKeys_clock]

theorem putOverrides_clock (l : Tbl Nat) (d : Device) : (l.foldl (fun d o => putOverride o.1 o.2 (o.1 % 2) d) d).time = d.time :=
  foldl_clock (fun _ _ => putOverride_clock ..) l d

theorem loadSearch_clock (d : Device) : (loadSearch d).time = d.time := by
  unfold loadSearch
  exact ite_clock rfl rfl

theorem rebuildSearch_clock (d : Device) : (rebuildSearch d).time = d.time := by
  unfold rebuildSearch
  dsimp only
  rw [loadSearch_clock]
  exact ite_clock (ite_clock rfl rfl) ((putOverrides_clock ..).trans (ite_clock rfl rfl))

theorem armCommitGroup_clock (d : Device) : (armCommitGroup d).time = d.time := putEntry_clock ..

theorem started_clock (p : PowerState) (d : Device) : (resumeAdmin (noteStart { d with power := p })).time = d.time :=
  (resumeAdmin_clock _).trans (noteStart_clock _)

theorem joined_clock (d : Device) : (placeWaiting (refreshTimeLock (refreshLinkCond (followLatch (persist
    (adoptOwn (ownOffers d) d)))))).time = d.time := by
  have hl : ∀ u : Device, (refreshLinkCond u).time = u.time := fun u => setCond_clock ..
  rw [placeWaiting_clock, refreshTimeLock_clock, hl, followLatch_clock, persist_time, adoptOwn_clock]

theorem readyStep_clock (d : Device) : (readyStep d).time = d.time :=
  (joined_clock _).trans ((started_clock _ (armCommitGroup (rebuildSearch d))).trans
    ((armCommitGroup_clock _).trans (rebuildSearch_clock d)))

/-! ## Boot, the stores and memory -/

theorem rollBackTrial_clock (d : Device) : (rollBackTrial d).time = d.time := by
  refine foldl_clock (fun d n => ?_) _ d
  exact ite_clock ((logEvent_clock ..).trans (odBump_clock ..)) rfl

theorem checkPersistent_clock (d : Device) : (checkPersistent d).time = d.time := by
  unfold checkPersistent
  dsimp only
  split
  · rfl
  · exact logEvent_clock ..

theorem dropDumpCopy_clock (d : Device) : (dropDumpCopy d).time = d.time := ite_clock rfl rfl

theorem startFatal_clock (cause : Nat) (d : Device) : (startFatal cause d).time = d.time := ite_clock rfl rfl

theorem failUnverified_clock (d : Device) : (failUnverified d).time = d.time := by
  refine foldl_clock (fun d n => ?_) _ d
  exact ite_clock rfl rfl

theorem bootSelect_clock {d u : Device} (h : bootSelect d = some u) : u.time = d.time := by
  rw [← failUnverified_clock d]
  unfold bootSelect at h
  dsimp only at h
  generalize failUnverified d = v at h ⊢
  split at h
  · cases h; rfl
  · cases h; rfl
  · cases h; rfl
  · cases h

theorem bootStep_clock (d : Device) : (bootStep d).time = d.time := by
  have h : (rollBackTrial (checkPersistent (dropDumpCopy d))).time = d.time :=
    (rollBackTrial_clock _).trans ((checkPersistent_clock _).trans (dropDumpCopy_clock d))
  unfold bootStep
  dsimp only
  split
  · exact (startFatal_clock ..).trans h
  · next u hu => exact (bootSelect_clock hu).trans h

theorem loadCluster_clock (d : Device) (c : Nat) : (loadCluster c d).time = d.time := by
  unfold loadCluster
  exact ite_clock rfl rfl

theorem loadClusters_clock (d : Device) : (loadClusters d).time = d.time := foldl_clock loadCluster_clock _ d

theorem setStore_clock (image : Bytes) (d : Device) : (setStore image d).time = d.time := rfl

theorem patchActive_clock (pkg : Bytes) (d : Device) : (patchActive pkg d).time = d.time := rfl

theorem patchEvent_clock (d : Device) : (patchEvent d).time = d.time := rfl

theorem patchRefused_clock (pkg : Bytes) (check : Nat) (d : Device) : (patchRefused pkg check d).time = d.time := rfl

theorem loadStores_clock {d u : Device} (h : loadStores d = some u) : u.time = d.time := by
  unfold loadStores at h
  extract_lets base d1 d2 d3 at h
  split at h
  · cases h
  · have h1 : d1.time = d.time := setStore_clock ..
    have h2 : d2.time = d.time := by
      refine ite_clock h1 ?_
      split
      · exact ite_clock ((patchActive_clock ..).trans ((setStore_clock ..).trans h1)) h1
      · exact (patchRefused_clock ..).trans h1
    have h3 : d3.time = d.time := (loadClusters_clock d2).trans h2
    rw [← Option.some.inj h]
    exact ite_clock ((patchEvent_clock d3).trans h3) h3

theorem storesStep_clock (d : Device) : (storesStep d).time = d.time := by
  unfold storesStep
  split
  · exact startFatal_clock ..
  · next u hu => exact (loadStores_clock hu :)

theorem trainPort_clock (d : Device) (p : Nat) : (trainPort p d).time = d.time := by
  have hp : (powerPort p d).time = d.time := rfl
  unfold trainPort
  exact ite_clock hp hp

theorem portsTrain_clock (d : Device) : (portsTrain d).time = d.time := foldl_clock trainPort_clock _ d

theorem setRegions_clock (d : Device) : (setRegions d).time = d.time := by
  refine foldl_clock (fun d n => ?_) _ d
  exact odPut_clock ..

theorem trained_clock (d : Device) :
    (portsTrain (setRegions (setDomain 23 true (setDomain 22 true (setDomain 24 true d))))).time = d.time :=
  (portsTrain_clock _).trans ((setRegions_clock _).trans ((setDomain_clock ..).trans ((setDomain_clock ..).trans (setDomain_clock ..))))

theorem awaits_established (p : PeerState) (w : Option Nat) (d : Device) :
    (toStage 6 { d with peer := p, time := { d.time with waitUntil := w } }).time.established = d.time.established := rfl

theorem memoryStep_established (d : Device) : (memoryStep d).time.established = d.time.established := by
  unfold memoryStep
  split
  · rw [startFatal_clock]
  · exact (awaits_established ..).trans (congrArg TimeState.established (trained_clock d))

/-! ## The states of the timebase -/

theorem refreshRanks_clock (d : Device) : ∃ ol ldr, (refreshRanks d).time = { d.time with otherRanksSince := ol, leader := ldr } := by
  unfold refreshRanks
  dsimp only
  split
  · split
    · exact ⟨none, d.side, rfl⟩
    · exact ⟨none, d.side, rfl⟩
  split
  · exact ⟨none, d.time.leader, rfl⟩
  · exact ⟨_, d.time.leader, rfl⟩

/-- What a change of the time's state leaves of the timebase. -/
theorem setTimeState_clock (st : TimeSt) (d : Device) : ∃ g b l ol ldr, (setTimeState st d).time =
    { d.time with st := st, goodRun := g, badRun := b, lastLocked := l, otherRanksSince := ol, leader := ldr } := by
  unfold setTimeState
  split
  · next h =>
    refine ⟨d.time.goodRun, d.time.badRun, d.time.lastLocked, d.time.otherRanksSince, d.time.leader, ?_⟩
    rw [refreshTimeLock_clock, ← eq_of_beq h]
  · dsimp only
    rw [refreshTimeLock_clock]
    obtain ⟨ol, ldr, h⟩ := refreshRanks_clock (logEvent 0x0D01 0x0050 0 (d.time.st.code * 256 + st.code) { d with time := { d.time with
      st := st, goodRun := 0, badRun := 0
      lastLocked := if st == TimeSt.locked || d.time.st == TimeSt.locked then d.time.now else d.time.lastLocked } })
    exact ⟨_, _, _, ol, ldr, h⟩

theorem establish_established (counter : Nat) (st : TimeSt) (d : Device) : (establish counter st d).time.established = true := by
  obtain ⟨g, b, l, ol, ldr, h⟩ := setTimeState_clock st { d with time := { d.time with counter := counter, established := true, waitUntil := none } }
  exact congrArg TimeState.established h

theorem carriedTime_established {d : Device} (h : d.time.established = true) : (carriedTime d).time.established = true := by
  unfold carriedTime
  split
  · exact h
  · exact establish_established ..

/-! ## A start that goes on -/

theorem meetStep_established {d u : Device} (h : d.time.established = true) (hu : meetStep d = some u) : u.time.established = true := by
  unfold meetStep at hu
  dsimp only at hu
  split at hu
  · cases hu
    rw [groupsStep_clock]
    exact carriedTime_established h
  · cases hu

theorem toStage_clock (n : Nat) (d : Device) : (toStage n d).time = d.time := rfl

theorem beginCopy_clock (d : Device) : (beginCopy d).time = d.time := rfl

theorem startStep_established {d u : Device} (h : d.time.established = true) (hu : startStep d = some u) : u.time.established = true := by
  have keep : ∀ v : Device, v.time.established = d.time.established → some v = some u → u.time.established = true := by
    intro v hv he
    rw [← Option.some.inj he, hv, h]
  unfold startStep at hu
  split at hu
  · cases hu
  split at hu
  · exact keep _ (congrArg _ (bootStep_clock d)) hu
  · exact keep _ (congrArg _ (storesStep_clock d)) hu
  · exact keep _ (memoryStep_established d) hu
  · exact meetStep_established h hu
  · split at hu
    · exact keep _ (congrArg _ ((toStage_clock ..).trans (beginCopy_clock d))) hu
    · cases hu
  · exact keep _ (replayStep_established d) hu
  · exact keep _ (congrArg _ (readyStep_clock d)) hu
  · cases hu

theorem startOn_established (n : Nat) {d : Device} (h : d.time.established = true) : (startOn n d).time.established = true := by
  induction n generalizing d with
  | zero => exact h
  | succ n ih =>
    unfold startOn
    split
    · next u hu => exact ih (startStep_established h hu)
    · exact h

theorem proceed_established {d : Device} (h : d.time.established = true) : (proceed d).time.established = true := startOn_established 12 h

end Sys2Proof.Machine
end

section
/-! SUPPORT. The timebase's commands: messages of a master, the states that follow them, the lead, and the EPOCH pins (R402 to R410). -/

namespace Sys2Proof.Machine

/-! ## What a change of the time's state leaves -/

theorem refreshRanks_power (d : Device) : (refreshRanks d).power = d.power := by
  unfold refreshRanks
  dsimp only
  split
  · split <;> rfl
  split <;> rfl

theorem complete_power (q : QueueRef) (t : CmdTag) (st : Status) (dw0 dw1 : Nat) (data : Bytes) (d : Device) :
    (complete q t st dw0 dw1 data d).power = d.power := by
  obtain ⟨u, m, hu, he⟩ := complete_eq q t st dw0 dw1 data d
  rw [he]
  exact hu.power

theorem dropCut_power (n : Nat) (d : Device) : (dropCut n d).power = d.power := by
  unfold dropCut
  exact (foldl_eq_of_step Device.power (fun d p => (sendLink_linkWorked ..).power) _ _).trans
    (foldl_eq_of_step Device.power (fun d r => putEntry_power ..) _ d)

theorem endCuts_power (nums : List Nat) (d : Device) : (endCuts nums d).power = d.power := by
  unfold endCuts
  extract_lets ended gone d1 snap1 d2 cleared snap2 d3
  have h1 : d1.power = d.power := foldl_eq_of_step Device.power (fun d n => dropCut_power n d) _ d
  refine (foldl_eq_of_step Device.power (fun d c => ?_) _ d3).trans h1
  split_ifs
  · rfl
  · exact complete_power ..

theorem cancelCuts_power (d : Device) : (cancelCuts d).power = d.power := by
  unfold cancelCuts
  extract_lets cuts nsOf named d1
  have h1 : d1.power = d.power := foldl_eq_of_step Device.power (fun _ _ => by rfl) named d
  split_ifs
  · exact h1
  · exact (endCuts_power ..).trans h1

theorem refreshTimeLock_power (d : Device) : (refreshTimeLock d).power = d.power := by
  have hc : ∀ b : Bool, (setCond 4 b d).power = d.power := fun b =>
    setCond_unseen (f := Device.power) Spoke.power (fun _ _ => rfl) (fun _ _ => rfl) (fun _ _ => rfl) ..
  unfold refreshTimeLock
  dsimp only
  split_ifs
  · exact hc _
  · exact (cancelCuts_power _).trans (hc _)

theorem setTimeState_power (st : TimeSt) (d : Device) : (setTimeState st d).power = d.power := by
  unfold setTimeState
  split
  · exact refreshTimeLock_power d
  · exact (refreshTimeLock_power _).trans (refreshRanks_power _)

/-- A device that does not start goes on as it is. -/
theorem proceed_started {d : Device} (h : d.power.run ≠ .starting) : proceed d = d := by
  have hs : startStep d = none := by
    unfold startStep
    rw [if_pos (by simp [h])]
  show startOn 12 d = d
  unfold startOn
  rw [hs]

/-- A selected master's port is the slave port; a free timebase acquires it, an acquiring one without a master is free. -/
theorem selectMaster_clock (d : Device) :
    (selectMaster d).time.masters = d.time.masters ∧ (selectMaster d).time.now = d.time.now ∧
      ((selectMaster d).time.st = d.time.st ∨ d.time.st = .free ∧ (selectMaster d).time.st = .acquiring ∨
        d.time.st = .acquiring ∧ (selectMaster d).time.st = .free) := by
  unfold selectMaster
  split
  · extract_lets changed time1 d1
    have h1 : d1.time.masters = d.time.masters ∧ d1.time.now = d.time.now ∧ d1.time.st = d.time.st := ⟨rfl, rfl, rfl⟩
    obtain ⟨hm, hn, hs⟩ := h1
    split
    next hf =>
      obtain ⟨g, b, l, ol, ldr, h⟩ := setTimeState_clock .acquiring d1
      rw [h]
      exact ⟨hm, hn, .inr (.inl ⟨hs ▸ eq_of_beq hf, rfl⟩)⟩
    next => exact ⟨hm, hn, .inl hs⟩
  · extract_lets time1 d1
    have h1 : d1.time.masters = d.time.masters ∧ d1.time.now = d.time.now ∧ d1.time.st = d.time.st := ⟨rfl, rfl, rfl⟩
    obtain ⟨hm, hn, hs⟩ := h1
    split
    next hf =>
      obtain ⟨g, b, l, ol, ldr, h⟩ := setTimeState_clock .free d1
      rw [h]
      exact ⟨hm, hn, .inr (.inr ⟨hs ▸ eq_of_beq hf, rfl⟩)⟩
    next => exact ⟨hm, hn, .inl hs⟩

/-! ## Messages of a master -/

/-- The device with a frame of a port counted where that port has a link. -/
def heardOn (p : Nat) (d : Device) : Device := if hasLink p d then ownFrame p d else d

theorem heardOn_spoke (p : Nat) (d : Device) : Spoke d (heardOn p d) := by
  unfold heardOn
  split
  · exact ownFrame_spoke ..
  · exact .refl d

theorem Spoke.ptpPort {a b : Device} (h : Spoke a b) (p : Nat) : ptpPort p b = ptpPort p a := by
  have hl := h.link p
  have h1 := h.portOd p 1
  simp only [Machine.portOf] at hl
  simp only [Machine.portOd] at h1
  unfold Machine.ptpPort
  rw [h.odVal (not_countKey (by decide) (by decide)), hl, h1]

theorem ptpDomain_heardOn (p : Nat) (d : Device) : odVal 0x2100 7 (heardOn p d) = odVal 0x2100 7 d :=
  (heardOn_spoke p d).odVal (not_countKey (by decide) (by decide))

/-- The device after PTP_DELAY_REQ_SEND. -/
def delayRequested (d : Device) : Device :=
  if d.time.slavePort == 0xFF then d
  else
    let p := d.time.slavePort
    let d := if hasLink p d then sendOn p (.port p (.delayReq (odVal 0x2100 0x08 d == 1) d.time.grandmaster)) d else d
    { d with time := { d.time with delayReqAt := some ((d.time.counter : Int) * 1250) } }

theorem delayReqSend_sends {s : State} (hs : s.dev.time.slavePort ≠ 0xFF) (hl : hasLink s.dev.time.slavePort s.dev = true) :
    Gives .ptpDelayReqSend s fun t =>
      Posted s.dev.time.slavePort s.dev t (.port s.dev.time.slavePort (.delayReq (odVal 0x2100 8 s.dev == 1) s.dev.time.grandmaster)) ∧
        t.time.delayReqAt = some ((s.dev.time.counter : Int) * 1250) := by
  refine gives_of_eq (f := delayRequested) rfl ?_
  unfold delayRequested
  rw [if_neg (by simpa using hs)]
  dsimp only
  rw [if_pos hl, (sendOn_spoke ..).time]
  exact ⟨(sendOn_posted hl List.prefix_rfl (.inl le_rfl) (by simp) (by simp)).of_eq rfl rfl, rfl⟩

/-- The device after PTP_DELAY_RESP, its frame counted. -/
def delayAnswered (port master : Nat) (received : Int) (d : Device) : Device :=
  match d.time.delayReqAt with
  | none => d
  | some t3 =>
    if port != d.time.slavePort || master != d.time.grandmaster then d
    else
      let ps := ((d.time.lastSync.2 - d.time.lastSync.1) + (received - t3)) / 2
      { d with time := { d.time with pathDelayNs := ps / 1000, delayReqAt := none } }

/-- The mean path delay is half of what Sync and Delay_Req took (R403). -/
theorem delayResp_delays {s : State} {t3 t4 : Int} (h : s.dev.time.delayReqAt = some t3) :
    Gives (.ptpDelayResp s.dev.time.slavePort s.dev.time.grandmaster t4) s fun t =>
      t.time.pathDelayNs = ((s.dev.time.lastSync.2 - s.dev.time.lastSync.1) + (t4 - t3)) / 2 / 1000 ∧ t.time.delayReqAt = none := by
  refine gives_of_eq (f := fun d =>
    delayAnswered s.dev.time.slavePort s.dev.time.grandmaster t4 (heardOn s.dev.time.slavePort d)) rfl ?_
  have ht : (heardOn s.dev.time.slavePort s.dev).time = s.dev.time := (heardOn_spoke ..).time
  unfold delayAnswered
  rw [ht, h]
  dsimp only
  rw [if_neg (by simp)]
  exact ⟨rfl, rfl⟩

theorem announce_heard {s : State} {m : AnnounceMsg} (hd : m.domain = odVal 0x2100 7 s.dev) (hp : ptpPort m.port s.dev = true) :
    Gives (.ptpAnnounce m) s fun t => (⟨m.master, m.port, m.rank, s.dev.time.now, m.interval⟩ : Master) ∈ t.time.masters := by
  have hu := heardOn_spoke m.port s.dev
  have hdom := ptpDomain_heardOn m.port s.dev
  have hport := hu.ptpPort m.port
  have ht := hu.time
  refine gives_of_eq (f := announceReceive m) rfl ?_
  unfold announceReceive
  unfold heardOn at hdom hport ht
  dsimp only
  generalize (if hasLink m.port s.dev = true then ownFrame m.port s.dev else s.dev) = u at hdom hport ht ⊢
  rw [if_neg (by simp [hdom, hport, hd, hp])]
  generalize hv : ({ u with time := { u.time with masters := (u.time.masters.filter fun x => !(x.ident == m.master && x.port == m.port)) ++
    [⟨m.master, m.port, m.rank, u.time.now, m.interval⟩] } } : Device) = v
  have hm : (⟨m.master, m.port, m.rank, s.dev.time.now, m.interval⟩ : Master) ∈ (selectMaster v).time.masters := by
    rw [(selectMaster_clock v).1, ← hv, ← ht]
    exact List.mem_append_right _ (List.mem_singleton.2 rfl)
  split
  · exact hm
  · exact hm

/-! ## The servo -/

/-- From `a` to `b` the servo has taken the offset `off`: its two values follow, and the last Sync and the power stand. -/
def Served (off : Int) (a b : Device) : Prop :=
  b.time.lastSync = a.time.lastSync ∧ b.time.offsetPs = Config.servoOffset a.time.offsetPs a.time.integral off ∧
    b.time.integral = Config.servoIntegral a.time.integral off ∧ b.power = a.power

theorem Served.ite {p : Prop} [Decidable p] {off : Int} {st : TimeSt} {a u : Device} (h : Served off a u) :
    Served off a (if p then setTimeState st u else u) := by
  split
  · obtain ⟨g, b, l, ol, ldr, ht⟩ := setTimeState_clock st u
    obtain ⟨h1, h2, h3, h4⟩ := h
    exact ⟨by rw [ht, h1], by rw [ht, h2], by rw [ht, h3], (setTimeState_power st u).trans h4⟩
  · exact h

theorem syncServo_served (off : Int) (d : Device) : Served off d (syncServo off d) := by
  unfold syncServo
  extract_lets f i time1 d1 good bad time2 d2
  have h2 : Served off d d2 := ⟨rfl, rfl, rfl, rfl⟩
  split
  · exact h2.ite
  · exact h2.ite
  · exact h2.ite
  · exact h2

/-- The device with a Sync of the selected master taken. -/
def synced (m : SyncMsg) (d : Device) : Device :=
  let off := m.arrival - m.origin - d.time.pathDelayNs * 1000
  let d := { d with time := { d.time with lastSync := (m.origin, m.arrival) } }
  if d.time.established then syncSet m off d else syncUnset m off d

theorem syncReceive_selected {m : SyncMsg} {d : Device} (hd : m.domain = odVal 0x2100 7 d) (hp : ptpPort m.port d = true)
    (hs : m.port = d.time.slavePort) (hm : m.master = d.time.grandmaster) : syncReceive m d = synced m (heardOn m.port d) := by
  have hdom := ptpDomain_heardOn m.port d
  have hport := (heardOn_spoke m.port d).ptpPort m.port
  have ht := (heardOn_spoke m.port d).time
  unfold syncReceive
  show (if m.domain != odVal 0x2100 7 (heardOn m.port d) || !ptpPort m.port (heardOn m.port d) then heardOn m.port d
    else if m.port != (heardOn m.port d).time.slavePort || m.master != (heardOn m.port d).time.grandmaster then
      readmitMaster m (m.arrival - m.origin - (heardOn m.port d).time.pathDelayNs * 1000) (heardOn m.port d)
    else synced m (heardOn m.port d)) = _
  rw [if_neg (by simp [hdom, hport, hd, hp]), if_neg (by rw [ht]; simp [hs, hm])]

theorem sync_serves {s : State} {m : SyncMsg} (hd : m.domain = odVal 0x2100 7 s.dev) (hs : m.port = s.dev.time.slavePort)
    (hm : m.master = s.dev.time.grandmaster) (hp : ptpPort m.port s.dev = true) (he : s.dev.time.established = true)
    (hr : s.dev.power.run ≠ .starting) (hn : (m.arrival - m.origin - s.dev.time.pathDelayNs * 1000).natAbs ≤ 1000000000) :
    Gives (.ptpSync m) s fun t => t.time.lastSync = (m.origin, m.arrival) ∧
      t.time.offsetPs = Config.servoOffset s.dev.time.offsetPs s.dev.time.integral (m.arrival - m.origin - s.dev.time.pathDelayNs * 1000) ∧
      t.time.integral = Config.servoIntegral s.dev.time.integral (m.arrival - m.origin - s.dev.time.pathDelayNs * 1000) := by
  have hu := heardOn_spoke m.port s.dev
  have ht := hu.time
  have hw := hu.power
  have hq := syncReceive_selected hd hp hs hm
  refine gives_of_eq (f := fun d => proceed (syncReceive m d)) rfl ?_
  rw [hq]
  generalize heardOn m.port s.dev = u at ht hw ⊢
  have hb : synced m u = syncServo (m.arrival - m.origin - s.dev.time.pathDelayNs * 1000)
      { u with time := { u.time with lastSync := (m.origin, m.arrival) } } := by
    unfold synced syncSet
    dsimp only
    rw [if_pos (by rw [ht]; exact he), ht, if_pos hn]
  obtain ⟨h1, h2, h3, h4⟩ := syncServo_served (m.arrival - m.origin - s.dev.time.pathDelayNs * 1000)
    { u with time := { u.time with lastSync := (m.origin, m.arrival) } }
  rw [hb, proceed_started (by rw [h4]; exact hw ▸ hr), h1, h2, h3, ht]
  exact ⟨rfl, rfl, rfl⟩

/-! ## Loss of a master and the lead -/

/-- The device with a master forgotten. -/
def forgot (m : Master) (d : Device) : Device :=
  { d with time := { d.time with
    masters := d.time.masters.filter fun x => !(x.ident == m.ident && x.port == m.port)
    rejected := d.time.rejected.filter (· != m.ident) } }

/-- A locked timebase that has lost its master holds over. -/
theorem masterLost_clock {d : Device} :
    let r := selectMaster (if d.time.st == .locked then setTimeState .holdover d else d)
    r.time.masters = d.time.masters ∧ r.time.now = d.time.now ∧ (d.time.st = .locked → r.time.st = .holdover) := by
  obtain ⟨hm, hn, hs⟩ := selectMaster_clock (if d.time.st == .locked then setTimeState .holdover d else d)
  dsimp only
  obtain ⟨g, b, l, ol, ldr, ht⟩ := setTimeState_clock .holdover d
  by_cases hl : d.time.st = .locked
  · rw [if_pos (by simp [hl])] at hm hn hs ⊢
    rw [ht] at hm hn hs
    refine ⟨hm, hn, fun _ => ?_⟩
    rcases hs with hs | ⟨hs, -⟩ | ⟨hs, -⟩
    · exact hs
    · cases hs
    · cases hs
  · rw [if_neg (by simp [hl])] at hm hn ⊢
    exact ⟨hm, hn, fun h => absurd h hl⟩

theorem waitUntil_st (t : Nat) (d : Device) : (waitUntil t d).time.st = d.time.st := by
  unfold waitUntil
  split <;> rfl

theorem announceTimeout_drops {s : State} {m : Master}
    (h : s.dev.time.masters.find? (fun m => m.ident == s.dev.time.grandmaster && m.port == s.dev.time.slavePort) = some m) :
    Gives .announceReceiptTimeout s fun t => m.heard + 3 * m.interval ≤ t.time.now ∧
      (∀ x ∈ t.time.masters, ¬ (x.ident = m.ident ∧ x.port = m.port)) ∧ (s.dev.time.st = .locked → t.time.st = .holdover) := by
  obtain ⟨hm, hn, hs⟩ := masterLost_clock (d := forgot m (waitUntil (m.heard + 3 * m.interval) s.dev))
  refine gives_of_eq (f := announceTimeout) rfl ?_
  unfold announceTimeout
  rw [h]
  refine ⟨hn.symm ▸ le_waitUntil .., fun x hx => ?_, fun hl => hs ((waitUntil_st ..).trans hl)⟩
  have hx' := hm ▸ hx
  have hne := (List.mem_filter.1 hx').2
  rintro ⟨hi, hp⟩
  simp [hi, hp] at hne

theorem holdoverEnded_clock {d : Device} (t0 : Nat) (h : t0 ≤ d.time.now) :
    t0 ≤ (selectMaster (setTimeState .free d)).time.now ∧
      ((selectMaster (setTimeState .free d)).time.st = .free ∨ (selectMaster (setTimeState .free d)).time.st = .acquiring) := by
  obtain ⟨g, b, l, ol, ldr, ht⟩ := setTimeState_clock .free d
  obtain ⟨-, hn, hs⟩ := selectMaster_clock (setTimeState .free d)
  rw [ht] at hn hs
  refine ⟨by rw [hn]; exact h, ?_⟩
  rcases hs with hs | ⟨-, hs⟩ | ⟨-, hs⟩
  · exact .inl hs
  · exact .inr hs
  · exact .inl hs

/-- The device after HOLDOVER_LIMIT_EXPIRY. -/
def holdoverLimit (d : Device) : Device :=
  if d.time.st == .holdover then selectMaster (setTimeState .free (waitUntil (d.time.lastLocked + sec (odVal 0x2100 0x0B d)) d)) else d

theorem holdoverLimit_ends {s : State} (h : s.dev.time.st = .holdover) : Gives .holdoverLimitExpiry s fun t =>
    s.dev.time.lastLocked + sec (odVal 0x2100 0x0B s.dev) ≤ t.time.now ∧ (t.time.st = .free ∨ t.time.st = .acquiring) := by
  refine gives_of_eq (f := holdoverLimit) rfl ?_
  unfold holdoverLimit
  rw [if_pos (by rw [h]; rfl)]
  exact holdoverEnded_clock _ (le_waitUntil ..)

theorem refreshRanks_paired {d : Device} (h : pairedTime d = true) :
    (refreshRanks d).time.now = d.time.now ∧ (refreshRanks d).time.leader = d.time.leader := by
  unfold refreshRanks
  rw [if_neg (by simp [h])]
  dsimp only
  split
  · exact ⟨rfl, rfl⟩
  · exact ⟨rfl, rfl⟩

theorem setLeader_leads {side : Nat} {d : Device} (h : pairedTime d = true) (hl : d.time.leader ≠ side) :
    (setLeader side d).time.now = d.time.now ∧ (setLeader side d).time.leader = side := by
  unfold setLeader
  rw [if_neg (by simpa using hl), refreshTimeLock_clock]
  exact refreshRanks_paired (d := logEvent 0x0D03 0x0050 0 side { d with time := { d.time with leader := side, otherRanksSince := none } }) h

theorem waitUntil_leader (t : Nat) (d : Device) : (waitUntil t d).time.leader = d.time.leader := by
  unfold waitUntil
  split <;> rfl

/-- The device after TIME_LEADER_CHANGE. -/
def leadPassed (d : Device) : Device :=
  match d.time.otherRanksSince with
  | none => d
  | some t => setLeader (1 - d.time.leader) (waitUntil (t + sec 10) d)

theorem timeLeaderChange_passes {s : State} {t0 : Nat} (ho : s.dev.time.otherRanksSince = some t0) (hp : s.dev.peer.st = 1)
    (hl : s.dev.time.leader ≤ 1) : Gives .timeLeaderChange s fun t => t0 + sec 10 ≤ t.time.now ∧ t.time.leader = 1 - s.dev.time.leader := by
  have hpair : ∀ t, pairedTime (waitUntil t s.dev) = true := fun t => by simp [pairedTime, hp]
  refine gives_of_eq (f := leadPassed) rfl ?_
  unfold leadPassed
  rw [ho]
  obtain ⟨hn, he⟩ := setLeader_leads (side := 1 - s.dev.time.leader) (hpair (t0 + sec 10)) (by rw [waitUntil_leader]; omega)
  exact ⟨hn.symm ▸ le_waitUntil .., he⟩

/-! ## The EPOCH pins -/

theorem epochOutPulse_pulses {s : State} (h : s.dev.time.established = true) : Gives .epochOutPulse s fun t =>
    t.time.counter = (s.dev.time.counter / 2 ^ 23 + 1) * 2 ^ 23 ∧ epochOutLevel t = true := by
  have hlt : s.dev.time.counter < (s.dev.time.counter / 2 ^ 23 + 1) * 2 ^ 23 := by omega
  refine gives_of_eq rfl ?_
  rw [if_pos h]
  have hc : (waitTick ((s.dev.time.counter / 2 ^ 23 + 1) * 2 ^ 23) s.dev).time.counter = (s.dev.time.counter / 2 ^ 23 + 1) * 2 ^ 23 := by
    rw [waitTick_counter, max_eq_left hlt.le]
  have he : (waitTick ((s.dev.time.counter / 2 ^ 23 + 1) * 2 ^ 23) s.dev).time.established = true := by
    unfold waitTick
    split <;> exact h
  refine ⟨hc, ?_⟩
  unfold epochOutLevel
  rw [hc, he, Nat.mul_mod_left]
  rfl

theorem takePeerOffset_epoch (off : Int) (d : Device) : (takePeerOffset off false d).time.epochInLast = d.time.epochInLast ∧
    (takePeerOffset off false d).time.epochAbsent = d.time.epochAbsent := by
  unfold takePeerOffset
  dsimp only
  rw [if_neg Bool.false_ne_true, refreshTimeLock_clock]
  split
  · exact ⟨rfl, rfl⟩
  · exact ⟨rfl, rfl⟩

theorem epochInEdge_notes (s : State) (frac : Nat) : Gives (.epochInEdge frac) s fun t =>
    t.time.epochInLast = some s.dev.time.now ∧ t.time.epochAbsent = false := by
  refine gives_of_eq (f := epochEdge frac) rfl ?_
  unfold epochEdge
  dsimp only
  split
  · split
    · exact ⟨rfl, rfl⟩
    split
    · split <;> exact ⟨rfl, rfl⟩
    · exact takePeerOffset_epoch ..
  · exact ⟨rfl, rfl⟩

/-- The device that knows of no edge at EPOCH_IN. -/
def edgesGone (d : Device) : Device := refreshTimeLock { d with time := { d.time with epochAbsent := true, peerOffKnown := false } }

theorem edgesGone_clock (d : Device) : (edgesGone d).time.epochAbsent = true ∧ (edgesGone d).time.peerOffKnown = false := by
  unfold edgesGone
  rw [refreshTimeLock_clock]
  exact ⟨rfl, rfl⟩

/-- The device after EPOCH_IN_LOSS. -/
def epochLost (d : Device) : Device :=
  if linkPhysical d then d else edgesGone (waitUntil (d.time.epochInLast.getD d.time.now + 2 * 2 ^ 23) d)

theorem epochInLoss_notes {s : State} (h : linkPhysical s.dev = false) : Gives .epochInLoss s fun t =>
    t.time.epochAbsent = true ∧ t.time.peerOffKnown = false := by
  refine gives_of_eq (f := epochLost) rfl ?_
  unfold epochLost
  rw [if_neg (by rw [h]; decide)]
  exact edgesGone_clock _

/-! ## The wait for a master -/

theorem establish_now (counter : Nat) (st : TimeSt) (d : Device) : (establish counter st d).time.now = d.time.now := by
  obtain ⟨g, b, l, ol, ldr, h⟩ := setTimeState_clock st { d with time := { d.time with counter := counter, established := true, waitUntil := none } }
  rw [establish, h]

/-- A start that goes on leaves the counter established, and no earlier time. -/
theorem proceed_establish (counter : Nat) (st : TimeSt) (d : Device) :
    (proceed (establish counter st d)).time.established = true ∧ d.time.now ≤ (proceed (establish counter st d)).time.now :=
  ⟨proceed_established (establish_established ..), establish_now counter st d ▸ (proceed_kept (Kept.refl (establish counter st d))).now⟩

theorem masterWaitExpiry_establishes {s : State} {w : Nat} (hw : s.dev.time.waitUntil = some w) (hr : s.dev.power.run = .starting)
    (hs : s.dev.power.stage = 6) (he : s.dev.time.established = false) :
    Gives .masterWaitExpiry s fun t => t.time.established = true ∧ w ≤ t.time.now := by
  refine gives_of_eq (f := masterWaitExpiry) rfl ?_
  unfold masterWaitExpiry
  rw [hw]
  dsimp only
  rw [if_neg (by simp [hr, hs, he])]
  obtain ⟨h1, h2⟩ := proceed_establish (odVal 0x2100 0x10 s.dev + 800000) .free (waitUntil w s.dev)
  exact ⟨h1, (le_waitUntil ..).trans h2⟩

/-- Settles O9, from what each of the timebase's commands leaves and what a start keeps of an established counter. -/
theorem timeCommands : Obligations.TimeCommands := by
  unfold Obligations.TimeCommands
  intro s
  exact ⟨delayReqSend_sends, fun t3 t4 h => delayResp_delays h, fun m hd hs hm hp he hr hn => sync_serves hd hs hm hp he hr hn,
    fun m hd hp => announce_heard hd hp, fun m h => announceTimeout_drops h, holdoverLimit_ends,
    fun t0 ho hp hl => timeLeaderChange_passes ho hp hl, epochOutPulse_pulses, epochInEdge_notes s, epochInLoss_notes,
    fun w hw hr hs he => masterWaitExpiry_establishes hw hr hs he⟩

end Sys2Proof.Machine
end
